-- ==== Sys2Proof/Word.lean ====
section
/-! DEFINITION.
The word types of the model and their plainest arithmetic.
Bits, registers' raw words and memory bytes are bit vectors; counts, times, offsets and indexes are natural numbers
(the spec's own "count" and "index"), narrowed explicitly where a field has a width.
-/

namespace Sys2Proof

/-- One byte of a memory, a frame or a record. -/
abbrev Byte := BitVec 8

/-- A 32-bit word: one register of the configuration space (R569). -/
abbrev Word := BitVec 32

/-- A byte of a natural number, reduced modulo 256. -/
def byte (n : Nat) : Byte := BitVec.ofNat 8 n

/-- Saturating addition to a counter of the given width ("saturating" in the field tables). -/
def satAdd (width a n : Nat) : Nat := min (a + n) (2 ^ width - 1)

/-- Bits `hi` down to `lo` of `n` (R4). -/
def bits (n hi lo : Nat) : Nat := (n / 2 ^ lo) % 2 ^ (hi + 1 - lo)

/-- Bit `i` of `n` (R4). -/
def bit (n i : Nat) : Bool := (n / 2 ^ i) % 2 == 1

/-- A value moved to the nearest limit of a range. -/
def clamp (lo hi v : Nat) : Nat := max lo (min hi v)

/-- The `w` low bits of an integer, in two's complement. -/
def intBits (w : Nat) (z : Int) : Nat := (z % (2 ^ w : Int)).toNat

/-- An integer saturated to the signed range of `w` bits (R515). -/
def satInt (w : Nat) (z : Int) : Int := max (-(2 ^ (w - 1) : Int)) (min (2 ^ (w - 1) - 1 : Int) z)

/-- The signed value of `w` bits. -/
def signed (w n : Nat) : Int := if n % 2 ^ w < 2 ^ (w - 1) then (n % 2 ^ w : Nat) else (n % 2 ^ w : Nat) - (2 ^ w : Int)

/-- The `k` bytes of `n`, least significant first (R5). -/
def leBytes : Nat → Nat → List Byte
  | 0, _ => []
  | k + 1, n => byte n :: leBytes k (n / 256)

/-- The number whose bytes, least significant first, are the list (R5). -/
def leNat : List Byte → Nat
  | [] => 0
  | b :: bs => b.toNat + 256 * leNat bs

/-- The number whose bytes, most significant first (network order, R5), are the list. -/
def beNat (l : List Byte) : Nat := l.foldl (fun a b => a * 256 + b.toNat) 0

/-- The `k` bytes of `n`, most significant first. -/
def beBytes (k n : Nat) : List Byte := (leBytes k n).reverse

/-- Bytes `i` to `i + k - 1` of a structure; bytes past its end read as zero. -/
def slice (l : List Byte) (i k : Nat) : List Byte :=
  let t := (l.drop i).take k
  t ++ List.replicate (k - t.length) 0

/-- The little-endian field of `k` bytes at offset `i` of a structure. -/
def leAt (l : List Byte) (i k : Nat) : Nat := leNat (slice l i k)

/-- The network-order field of `k` bytes at offset `i` of a frame. -/
def beAt (l : List Byte) (i k : Nat) : Nat := beNat (slice l i k)

/-- A list cut or filled with zero bytes to exactly `n`. -/
def padTo (n : Nat) (l : List Byte) : List Byte := slice l 0 n

end Sys2Proof
end

