-- ==== Sys2Proof/Syntax.lean ====
section
/-! DEFINITION.
The commands the block takes: one constructor of `Instr` per row of spec/opcode_table.json, with the row's operands.
A row that is a register write carries the writer and the word written; a row that is a descriptor carries the
descriptor's header as accepted and its body's fields; a row that is an event on a pin, a timer or a wire carries what
the outside world decides (a level, a measured value, a received frame). Times that a row says have come are not
operands: the command is the moment itself.
-/

namespace Sys2Proof

/-- Who makes a configuration-space access: the application cluster, which the device attributes to P0, or the safety
island (R570). -/
inductive Writer where
  | p0 | safety
  deriving DecidableEq, Repr

/-- What the device keeps of an accepted descriptor's header until it completes (R172, R178, R182): the partition and
submission ring, TAG, SQ_HEAD after its acceptance, the lateness at start, whether a step of device time rebased it,
and the NO_COMPL and SIGNAL flags. -/
structure DHdr where
  part : Fin 8
  ring : Fin 4
  tag : BitVec 16
  sqHead : BitVec 16
  late : BitVec 32
  rebased : Bool
  noCompl : Bool
  signal : Bool
  deriving DecidableEq, Repr

/-- What a wake source's input does (Table 4.1): WAKE_N low, or high, for a time in µs; dominant, recessive and dominant phases on a CAN bus
and the whole pattern, in 0.1 µs; a dominant phase on a LIN bus in µs, and whether it has ended; a wake-up signal on a segment
or a chain port, within the detection limits of its specification or not. -/
inductive WakeSig where
  | low (us : Nat)
  | high (us : Nat)
  | pattern (dom gap again total : Nat)
  | dominant (us : Nat) (ended : Bool)
  | phy (within : Bool)
  deriving DecidableEq, Repr

/-- An output channel: kind code 1 to 5 of Table 6.2 (HS, HB, SV, LED, FIO) and index. -/
structure Chan where
  kind : Nat
  idx : Nat
  deriving DecidableEq, Repr

/-- The body of an ACT PWM (Table 8.2). -/
structure PwmBody where
  freq : Nat
  duty : Nat
  phase : Nat
  comp : Bool
  ramp : Bool
  rampMs : Nat
  deriving DecidableEq, Repr

/-- The body of an ACT BRIDGE (Table 8.2). -/
structure BridgeBody where
  mode : Nat
  duty : Nat
  freq : Nat
  runMs : Nat
  rampMs : Nat
  target : Int
  stopAtPos : Bool
  stallStop : Bool
  armed : Bool
  deriving DecidableEq, Repr

/-- One step of an ACT SEQUENCE (Table 8.2). -/
structure SeqStep where
  offsetUs : Nat
  ch : Chan
  op : Nat
  deriving DecidableEq, Repr

/-- What a test of an LED channel measures (Table 12.2, R277): the pulse's current (µA), the pin under the pull-up (mV), and of a
pair the neighbour's level before the pulse, the pulsed pin and the neighbour (mV). -/
structure LedMeas where
  pulseUa : Nat
  pinMv : Nat
  nb : Option (Nat × Nat × Nat)
  deriving DecidableEq, Repr

/-- What a scaler step finds of one channel over the step (Tables 14.1 and 14.2): the mean current in its register's
unit, an LED channel's VSINK (50 mV), the on-state current (mA), the mean duty (0.01 %), the mean current of the latest
period (µA), the mean square current (mA²), edges, the other heat of Table 14.2 (µW) and conducting switches. -/
structure ChMeas where
  ch : Chan
  cur : Int
  vsink : Nat
  iOn : Nat
  duty : Nat
  iMean : Nat
  iRms2 : Nat
  edges : Nat
  other : Nat
  switches : Nat
  deriving DecidableEq, Repr

/-- What a scaler step finds (Table 14.1): its channels, the four feeds (mV), the supply input power (µW), and the
hottest die sensor (0.5 °C) with its number. -/
structure ScalerIn where
  chans : List ChMeas
  feed0 : Nat
  feed1 : Nat
  feed2 : Nat
  feed3 : Nat
  supply : Nat
  hot : Int
  sensor : Nat
  deriving DecidableEq, Repr


/-- What the controller of a CAN bus meets (R378, R379): a frame received, given as the bytes of Table 17.4 from offset
24; the errors that ISO 11898-1 counts (a receive error by 1, a receive error followed by a dominant bit by 8, a transmit
error by 8); and lost arbitration. -/
inductive CanEv where
  | frame (bytes : List Byte)
  | rxError | rxErrorDominant | txError | arbitrationLost
  deriving DecidableEq, Repr

/-- Where an uncorrectable error strikes beyond its address (R517, R518): nowhere else; an accepted descriptor that has not
started, by its place in acceptance order; the next descriptor slot of a ring, with TAG and OPCODE corrupt or not; the head
of a switch queue; or one half of a tally slot. -/
inductive EccAt where
  | nowhere
  | work (i : Nat)
  | slot (part : Fin 8) (eng : Fin 7) (ring : Fin 4) (corrupt : Bool)
  | queue (port cls : Nat)
  | tally (area slot : Nat) (second : Bool)
  | dirty
  deriving DecidableEq, Repr

/-- The commands of spec/opcode_table.json, in the table's order. -/
inductive Instr where
  /-- POWER_ON_RESET (R48): VSPAR rises above the supervisor threshold, clearing all volatile state, the RTC and every spar-kept field, and starting the power-on wake sequence. -/
  | powerOnReset (mv : Nat)
  /-- VSPAR_FALL (R86): VSPAR falls below its supervisor threshold in any state, so a power-on reset follows. -/
  | vsparFall (stage : Fin 5)
  /-- SPAR_WDG_EXPIRY (R52): The 64 ms spar watchdog expires, causing a spar reset and a SPAR_WDG tally record. -/
  | sparWdgExpiry (fn : Fin 8)
  /-- SPAR_RESET_DONE (R49): The spar reset completes within 2 ms, the limp controller resumes, and from SLEEP, DEEP or SPAR_ONLY a wake with reason SPAR_RST follows. -/
  | sparResetDone
  /-- SPR_RST_CMD (R51): P0 writes 0x0000_D0E5 to SPR_RST_CMD to perform a device reset; any other value or writer counts as a seal violation. -/
  | sprRstCmd (w : Writer) (v : Word)
  /-- CONTROL_WDG_EXPIRY (R52): The control watchdog expires or receives a bad feed, so the control die is declared lost and a device reset follows. -/
  | controlWdgExpiry
  /-- SPR_WDG_FEED (R53): A home writes its feed value to SPR_WDG_FEED; a complete feed inside the open window restarts the period, while a wrong value or a closed-window write counts as an expiry. -/
  | sprWdgFeed (w : Writer) (v : Word)
  /-- WDG_WARN (R53): 75 % of PERIOD passes without a complete feed, raising WDG_WARN to P0 and the safety partition. -/
  | wdgWarn
  /-- CD_LINK_SILENCE (R21): No valid frame arrives on the CD–PD link for 1.0 ms while the CD is meant to run, so the PD declares the control die lost. -/
  | cdLinkSilence
  /-- CORE_PGOOD_LOST (R21): The CD core rail loses PGOOD while the CD is meant to run, so the PD declares the control die lost. -/
  | corePgoodLost
  /-- LD_CONTROL_LOST (R21): The LD declares the control die lost, on CD–LD link silence for 1.0 ms or on a CONTROL_LOST message from the PD over the sideband. -/
  | ldControlLost
  /-- BYPASS_ENGAGE (R124): The link die joins C0 and C1 through the bypass, losing frames in transit, or cuts the chain when the port rates differ. -/
  | bypassEngage (cause lost : Nat)
  /-- LIMP_TABLE_APPLY (R211): The limp controller checks the active copy's CHECK and applies the sealed limp table with its committed pairing, or keeps every output off and writes LIMP_BAD. -/
  | limpTableApply
  /-- CD_RESTART (R522): 20 ms after a counted control-die loss the spar core starts attempt 1 of the failure ladder, unless the loss limit has set HALTED. -/
  | cdRestart
  /-- XS_NO_EDGE_TIMEOUT (R35): No XS edge arrives for four LPO periods, so XS is declared failed. -/
  | xsNoEdgeTimeout
  /-- XS_RATIO_CHECK (R35): At the end of each 1,024-tick interval the XS-to-LPO ratio is compared with the calibrated ratio, and XS is declared failed when it departs by more than 10 %. -/
  | xsRatioCheck (ratio : Nat)
  /-- LPO_CALIBRATE (R36): Once per second while XS passes, the spar core recalibrates the XS-to-LPO ratio. -/
  | lpoCalibrate (ratio : Nat)
  /-- XS_RETURN (R37): After XS has passed supervision continuously for 1 s, the spar domain returns to XS and sets XS_OK. -/
  | xsReturn
  /-- RTC_WRITE (R38): P0 writes the RTC, which may fire the alarm, clears RTC_DEGRADED when XS is the reference, and lets DT leave FREE. -/
  | rtcWrite (w : Writer) (hi : Bool) (v : Word)
  /-- RTC_ALARM_WRITE (R39): A write to SPR_RTC_ALARM sets the compare value and fires the alarm when the RTC and the alarm become equal. -/
  | rtcAlarmWrite (w : Writer) (hi : Bool) (v : Word)
  /-- RTC_ALARM_FIRE (R39): The RTC reaches SPR_RTC_ALARM, firing the alarm once, which wakes the device when the alarm source is armed. -/
  | rtcAlarmFire
  /-- DT_CORRECTION (R42): 802.1AS requires a correction of device time, which the device slews at 500 ppm or steps, depending on STEP_THRESH. -/
  | dtCorrection (port : Fin 2) (offset : Int)
  /-- DT_SYNC_REACHED (R42): The remaining offset of a slew first reaches 1 µs or less, and DT enters SYNC. -/
  | dtSyncReached
  /-- SYNC_LOSS (R40): No valid sync arrives for LOSS_TIME, so DT goes from SYNC to COARSE and keeps its last rate correction. -/
  | syncLoss
  /-- CLK_SRC_WRITE (R46): A write to CLK_SRC starts a glitch-free clock switch, or is refused with REFUSED when it selects a PLL that is not locked. -/
  | clkSrcWrite (w : Writer) (v : Word)
  /-- CLK_SWITCH_DONE (R46): An accepted clock switch completes and SWITCHING clears. -/
  | clkSwitchDone
  /-- CLK_PLL_CFG_WRITE (R47): A write to CLK_PLL_CFG enables or disables PLLs; disabling a PLL that CLK_SRC selects falls its consumers back to FRC. -/
  | clkPllCfgWrite (w : Writer) (v : Word)
  /-- PLL_LOCK (R44): An enabled PLL achieves lock and its LOCK bit sets. -/
  | pllLock (pll : Fin 3)
  /-- PLL_LOCK_LOSS (R47): A PLL in use loses lock, so its consumers switch to FRC, FALLBACK sets and CLOCK_FALLBACK is raised. -/
  | pllLockLoss (pll : Fin 3)
  /-- XF_FAIL (R47): XF fails, so every consumer of the PLLs falls back to FRC and the chain ports go to the bypass. -/
  | xfFail
  /-- XF_READY (R47): XF passes its readiness check, XF_OK sets, and every enabled PLL relocks. -/
  | xfReady
  /-- IGN_CHANGE (R58): A change of IGN stays stable for IGN_DEB and is accepted; the limp controller acts on it and raises IGN_CHANGE. -/
  | ignChange (mv heldUs : Nat)
  /-- CRASH_EDGE (R58): A rise or fall of CRASH holds for 200 µs and is accepted; a rise sets CRASH_LATCH, and CRASH_SEEN is raised. -/
  | crashEdge (mv heldUs : Nat)
  /-- CRASH_LATCH_CLEAR (R211): P0 clears CRASH_LATCH, which ends a live CRASH hold or makes the limp trigger false. -/
  | crashLatchClear (w : Writer) (v : Word)
  /-- LIMP_RELEASE (R60): P0 of a sealed CD writes RELEASE to leave limp; before seal the write is ignored. -/
  | limpRelease (w : Writer) (v : Word)
  /-- LIMP_RELEASED (R60): The limp controller acts on RELEASE within 1 ms and RELEASE clears. -/
  | limpReleased
  /-- LIMP_DRIVE_END (R209): The PULSE_MS of a limp DRIVE_A or DRIVE_B runs out, so the bridge brakes for 20 ms. -/
  | limpDriveEnd (hb : Fin 8)
  /-- LIMP_BRAKE_END (R209): The 20 ms brake after a limp drive ends, and the bridge switches off. -/
  | limpBrakeEnd (hb : Fin 8)
  /-- CORE_WFI (R69): A core executes WFI and stops its pipeline; when PWR_NEXT is set, the last running core's WFI begins entry. -/
  | coreWfi (core : Fin 6)
  /-- CORE_IDLE (R69): A core has been in WFI for CORE_IDLE_T, so its clocks switch off and it is in IDLE. -/
  | coreIdle (core : Fin 4)
  /-- CORE_WAKE (R68): An interrupt or debug request returns an idle core to RUN. -/
  | coreWake (core : Fin 6)
  /-- DEV_IDLE_TIMEOUT (R69): The device idle timer reaches CUR_T with AUTO set, so entry into POLICY begins, into SLEEP or DEEP by the scaler policy. -/
  | devIdleTimeout
  /-- PWR_NEXT_WRITE (R70): P0 writes PWR_NEXT to request SLEEP, DEEP or OFF; other writers and invalid codes are refused and counted. -/
  | pwrNextWrite (w : Writer) (v : Word)
  /-- PWR_SAF_ACK (R70): The safety partition writes PWR_SAF_ACK to consent to a pending entry. -/
  | pwrSafAck (w : Writer) (v : Word)
  /-- POWER_ENTRY (R71): An entry checks the conditions of Table 3.3 in order and is aborted, delayed or allowed to proceed. -/
  | powerEntry
  /-- ENTRY_WAIT_TIMEOUT (R71): ENTRY_WAIT expires while consent is missing or outputs or write-back are busy, aborting the entry with SAF_DENY or BUSY. -/
  | entryWaitTimeout
  /-- ENTRY_COMPLETE (R73): Entry completes: caches are written back, DT_entry and RTC_entry are stored, and domains power down in order. -/
  | entryComplete
  /-- DEEP_AFTER_TIMEOUT (R68): DEEP_AFTER elapses in SLEEP without a wake, and the device moves to DEEP. -/
  | deepAfterTimeout
  /-- OFF_AFTER_TIMEOUT (R68): OFF_AFTER elapses in DEEP without a wake, and the device moves to OFF. -/
  | offAfterTimeout
  /-- WAKE_EVENT (R92): An armed wake source passes its filter, and the event is accepted as a wake reason, or only recorded in WAK_SEEN. -/
  | wakeEvent (code : Fin 16) (index : Fin 64) (sig : WakeSig)
  /-- WHISTLE_DETECT (R95): The whistle detector accepts a whistle held for 1.2 ms on a chain pair. -/
  | whistleDetect (port : Fin 2) (kHz mV onUs offUs periods : Nat)
  /-- WHISTLE_FORWARD (R95): Within 2 ms of the first instruction after a whistle wake, the unit sends a 2.0 ms whistle on its other chain port when that port has no link. -/
  | whistleForward
  /-- WAKE_ATTEMPT (R100): The spar core starts a wake attempt, enabling the bucks and fast oscillators and watching their time limits. -/
  | wakeAttempt
  /-- RAIL_PGOOD (R100): A buck reports PGOOD within its limit during a wake attempt. -/
  | railPgood (rail : Fin 3)
  /-- WAKE_ATTEMPT_FAIL (R102): A wake attempt misses a limit of Table 4.2, so its rails are turned off, WAKE_FAIL is recorded and the pause starts. -/
  | wakeAttemptFail (cause : Fin 4)
  /-- HOLD_LATE (R101): HOLD misses its precharge limit at 40.0 ms, so the bucks are enabled anyway and write-back stays refused. -/
  | holdLate (hold : Nat)
  /-- XF_LATE (R101): XF is not ready within 10 ms, so the attempt continues on FRC and XF_LATE is raised. -/
  | xfLate (ms : Nat)
  /-- CD_START (R41): A successful attempt reaches the boot ROM's first instruction; DT is set, WAK_REASON is written, and a resume or cold start follows. -/
  | cdStart (pos : Nat)
  /-- BANK_ZERO_DONE (R577): The resume path finishes zeroing an unretained SRAM bank, releasing accesses that waited on it. -/
  | bankZeroDone (bank : Fin 48)
  /-- SECURE_BOOT (R479): At a cold start the boot ROM activates an armed slot, verifies a bank, loads the images and starts P0 and the safety island. -/
  | secureBoot (media badWrite bad0 bad1 : Bool) (cut : Option Nat)
  /-- P0_HANDOFF (R530): The boot ROM hands over to P0's ENTRY on all application cores in machine mode. -/
  | p0Handoff
  /-- CONFIRM_DEADLINE (R492): The CONFIRM_S deadline of a trial passes without UPD_CONFIRM, so the device resets and the next cold start reverts. -/
  | confirmDeadline
  /-- UPD_CONFIRM_DUE (R494): 75 % of CONFIRM_S elapses in TRIAL, so UPD_CONFIRM_DUE is raised to P0. -/
  | updConfirmDue
  /-- CHAIN_LINK_CHANGE (R112): A chain port's link goes up or down, raising CHAIN_LINK and flushing the port's dynamic table entries. -/
  | chainLinkChange (port : Fin 2) (up : Bool)
  /-- CHN_PORT_CFG_WRITE (R536): A write of RATE or ROLE takes a chain link down and retrains it at the new setting. -/
  | chnPortCfgWrite (w : Writer) (v : Word)
  /-- DISCOVER (R121): A CRUISE DISCOVER arrives: the unit records its upstream port and hop count, re-emits and announces, or sets RING_SEEN for a repeated ID. -/
  | discover (port : Fin 2) (frame : List Byte)
  /-- ANNOUNCE (R121): A CRUISE ANNOUNCE arrives and is forwarded out of the upstream port. -/
  | announce (port : Fin 2) (frame : List Byte)
  /-- ANNOUNCE_TIMER (R119): Every 500 ms an unaddressed unit on an up link sends an unsolicited ANNOUNCE. -/
  | announceTimer
  /-- ASSIGN (R121): A CRUISE ASSIGN arrives; it is forwarded, or, carrying this unit's UID, held as the pending address and answered by CONFIRM. -/
  | assign (port : Fin 2) (frame : List Byte)
  /-- CONFIRM (R121): A CRUISE CONFIRM arrives and is forwarded out of the upstream port. -/
  | confirm (port : Fin 2) (frame : List Byte)
  /-- DONE (R121): A CRUISE DONE with the current ID makes the pending address the unit's address, raises CRUISE_DONE and may detach REMOTE partitions. -/
  | cruiseDone (port : Fin 2) (frame : List Byte)
  /-- ASSIGN_TIMEOUT (R121): No DONE arrives within 100 ms of an ASSIGN, so the pending address is discarded. -/
  | assignTimeout
  /-- DOORBELL_FRAME (R133): A Zilek DOORBELL for an attached partition updates a ring index and makes the proxy send READ_REQ frames. -/
  | doorbellFrame (port : Fin 2) (frame : List Byte) (sec : Bool)
  /-- READ_RSP (R133): A READ_RSP delivers fetched descriptors or data to the proxy, or faults its range with WINDOW_FAULT. -/
  | readRsp (port : Fin 2) (frame : List Byte) (sec : Bool)
  /-- READ_TIMEOUT (R133): READ_TMO passes without a READ_RSP, so the proxy repeats the request, or detaches the partition with FETCH_FAIL after the third. -/
  | readTimeout (part : Fin 8) (id : Nat)
  /-- HEARTBEAT (R134): A HEARTBEAT from the home keeps the partition alive and acknowledges WRITE and EVENT frames up to ACK_SEQ. -/
  | heartbeat (port : Fin 2) (frame : List Byte) (sec : Bool)
  /-- ATTACH_REQ (R132): A HEARTBEAT with ATTACH_REQ attaches or re-attaches a REMOTE partition, or is answered REFUSED. -/
  | attachReq (port : Fin 2) (frame : List Byte) (sec : Bool)
  /-- DETACH_REQ (R134): A HEARTBEAT with DETACH_REQ detaches a REMOTE partition. -/
  | detachReq (port : Fin 2) (frame : List Byte) (sec : Bool)
  /-- HEARTBEAT_SEND (R134): HB_PERIOD elapses and the unit sends a HEARTBEAT for an attached partition. -/
  | heartbeatSend (part : Fin 8)
  /-- DETACH_TIMEOUT (R134): No valid Zilek frame from the home for DETACH_T, so the partition detaches and its channels take their orphan states. -/
  | detachTimeout (part : Fin 8)
  /-- WRITE_RETRANSMIT (R133): WR_RETX passes without acknowledgement, so the proxy retransmits from the first unacknowledged WRITE or EVENT. -/
  | writeRetransmit (part : Fin 8)
  /-- IDENT (R130): MAINT IDENT is answered with the UID, position, address, pin, stepping and firmware version. -/
  | ident (port : Fin 2) (frame : List Byte)
  /-- STATUS (R130): MAINT STATUS is answered with the power state, wake reason, wake failures, limp and bypass state and the RTC. -/
  | maintStatus (port : Fin 2) (frame : List Byte)
  /-- TALLY_READ (R509): MAINT TALLY_READ returns ring or first-fault records or the tally status, and with MARK and a valid tag advances RD_MARK. -/
  | tallyRead (port : Fin 2) (frame : List Byte)
  /-- TALLY_CLEAR (R509): An authenticated MAINT TALLY_CLEAR with a matching FF_COUNT empties the first-fault area and writes TALLY_CLEARED, or answers BUSY. -/
  | tallyClear (port : Fin 2) (frame : List Byte)
  /-- MAINT_SPAR_RESET (R50): An authenticated MAINT SPAR_RESET performs a spar reset. -/
  | maintSparReset (port : Fin 2) (frame : List Byte)
  /-- MAINT_DEVICE_RESET (R50): An authenticated MAINT DEVICE_RESET performs a device reset, acts as a wake in SPAR_ONLY, or answers LOCKED under LOCKOUT. -/
  | maintDeviceReset (port : Fin 2) (frame : List Byte)
  /-- BYPASS_ON (R124): An authenticated MAINT BYPASS_ON engages the bypass while BYP_MAINT is 1. -/
  | bypassOn (port : Fin 2) (frame : List Byte)
  /-- BYPASS_OFF (R131): An authenticated MAINT BYPASS_OFF removes the MAINT cause of the bypass. -/
  | bypassOff (port : Fin 2) (frame : List Byte)
  /-- BYPASS_FORCE (R124): P0 writes FORCE in CHN_BYPASS to engage or stop forcing the bypass. -/
  | bypassForce (w : Writer) (v : Word)
  /-- BYPASS_LEAVE (R127): P0 writes LEAVE, and the bypass is left within 50 µs when no cause remains; otherwise the write is ignored. -/
  | bypassLeave (w : Writer) (v : Word) (lost : Nat)
  /-- CHAIN_SLEEP_REQ (R129): A chain sleep request arrives in RUN, raising CHAIN_SLEEP_REQ and being acknowledged when SLEEP_OK is 1. -/
  | chainSleepReq (port : Fin 2)
  /-- SEND_WHISTLE (R129): P0 writes SEND_WHISTLE and the device sends a whistle on the named chain port. -/
  | sendWhistle (w : Writer) (v : Word)
  /-- LAYOUT_APPLY (R147): P0 writes APPLY and the device reads the layout image, checks it against Table 6.6 and takes or refuses it as a whole. -/
  | layoutApply (w : Writer)
  /-- PAR_SEAL (R150): P0 writes the seal key; the device checks the seal conditions and seals the unit or sets SEAL_FAIL. -/
  | parSeal (w : Writer) (v : Word)
  /-- LIMP_COMMIT (R207): Within 10 ms of the seal point, the staged limp table and committed pairing are written to the inactive copy and made active, or reported STALE. -/
  | limpCommit
  /-- PAR_RST (R152): P0, or the safety partition with SAF_RESET, writes PAR_RST to start a partition reset. -/
  | parRst (w : Writer) (v : Word)
  /-- SELF_RESET (R152): A LOCAL or SAFETY partition writes 0x0000_5E1F at offset 0xFF8 of its doorbell page to reset itself. -/
  | selfReset (w : Writer) (part : Fin 8) (v : Word)
  /-- PART_RESET_DONE (R153): The partition's store work has ended, its rings are disarmed, and the partition becomes STOPPED with PART_RESET raised. -/
  | partResetDone (part : Fin 8)
  /-- ORPHAN_TIMEOUT (R157): ORPHAN_T elapses for a channel in HOLD, and the channel goes to OFF. -/
  | orphanTimeout (c : Chan)
  /-- ORPHAN_BRAKE_END (R156): The 20 ms brake of an orphaned or interim half-bridge ends, and it switches off. -/
  | orphanBrakeEnd (c : Chan)
  /-- EVENT_COALESCE_TIMEOUT (R159): EV_COALESCE elapses since the first unsignalled class N record, so the home is signalled. -/
  | eventCoalesceTimeout (part : Fin 8)
  /-- EVENT_TOKEN_REFILL (R159): Every 10 ms the class N token bucket refills, and suppressed sources each get one summarising record. -/
  | eventTokenRefill
  /-- SW_EVENT (R160): A partition writes k to offset 0xFF0 of its doorbell page, raising its software event source. -/
  | swEvent (w : Writer) (part : Fin 8) (v : Word)
  /-- S_QUEUE_DELIVER (R161): A queued class S record is delivered once its ring has room and the owner is RUNNING. -/
  | sQueueDeliver (part : Fin 8)
  /-- ARM_PART (R167): RNG_CMD ARM_PART checks and arms every enabled ring of a partition, making it RUNNING or DETACHED. -/
  | armPart (w : Writer)
  /-- ARM_ENGINE (R167): RNG_CMD ARM_ENGINE re-arms one partition's rings on one engine after an engine reset. -/
  | armEngine (w : Writer)
  /-- ENGINE_RESET (R189): RNG_CMD ENGINE_RESET stops an engine, discarding its work and disarming its rings for every partition, and raises ENGINE_RESET. -/
  | engineReset (w : Writer)
  /-- PRODUCER_DOORBELL (R170): A write of a new producer index to a submission ring doorbell is accepted, ignored or counted as RING_FAULT. -/
  | producerDoorbell (w : Writer) (part : Fin 8) (eng : Fin 7) (ring : Fin 4) (v : Word)
  /-- COMPLETION_DOORBELL (R170): A write of a completion ring consumer index returns completion slots to the device. -/
  | completionDoorbell (w : Writer) (part : Fin 8) (eng : Fin 7) (v : Word)
  /-- EVENT_DOORBELL (R170): A write of an event ring consumer index returns event slots to the device. -/
  | eventDoorbell (w : Writer) (part : Fin 8) (v : Word)
  /-- DESCRIPTOR_ACCEPT (R175): An engine takes a descriptor from its ring once a completion slot and pool room exist, checking its header. -/
  | descriptorAccept (part : Fin 8) (eng : Fin 7) (ring : Fin 4)
  /-- TIMED_START (R176): A timed descriptor's NOT_BEFORE falls due and it starts, executing or completing with TIME_PASSED by its lateness. -/
  | timedStart (part : Fin 8) (eng : Fin 7) (ring : Fin 4) (media : Bool) (samples : List Byte) (back : Nat)
  /-- RING_STALL (R185): Acceptance from a partition stays stopped for 10 ms, raising RING_STALL once per episode. -/
  | ringStall (part : Fin 8) (eng : Fin 7) (ring : Fin 4)
  /-- NOP (R174): A NOP descriptor completes with OK once its timing and ordering allow. -/
  | nop (h : DHdr) (eng : Fin 7) (b : List Byte)
  /-- CANCEL (R174): A CANCEL completes every matching accepted, unstarted timed descriptor with CANCELLED. -/
  | cancel (h : DHdr) (eng : Fin 7) (b : List Byte)
  /-- SET (R192): An ACT SET switches a channel statically on or off, with an LED level. -/
  | actSet (h : DHdr) (b : List Byte)
  /-- PULSE (R192): An ACT PULSE runs a pulse train on a channel, then switches it off. -/
  | actPulse (h : DHdr) (b : List Byte)
  /-- PWM (R217): An ACT PWM runs continuous PWM on a channel, with optional phase, ramp and battery compensation. -/
  | actPwm (h : DHdr) (b : List Byte)
  /-- PROFILE (R220): An ACT PROFILE runs a stored high-side, LED or solenoid profile on a channel. -/
  | actProfile (h : DHdr) (b : List Byte)
  /-- BRIDGE (R234): An ACT BRIDGE sets a half-bridge or H-bridge mode, starting a drive with its limits where the mode calls for one. -/
  | actBridge (h : DHdr) (b : List Byte)
  /-- SEQUENCE (R193): An ACT SEQUENCE starts up to six timed channel steps on the power-die timer. -/
  | actSequence (h : DHdr) (b : List Byte)
  /-- SEQUENCE_STEP (R194): A SEQUENCE step falls due at its offset and is applied, or skipped with the rest when its channel is held. -/
  | sequenceStep (n : Nat)
  /-- RESTART (R225): An ACT RESTART re-enables a latched-off or thermal-off channel, or is refused with THERMAL_HOLD. -/
  | actRestart (h : DHdr) (b : List Byte)
  /-- GRANT (R200): An owner grants another partition a claim on its HS channel, or revokes the grant, which ends any claim on it. -/
  | actGrant (h : DHdr) (b : List Byte)
  /-- CLAIM (R201): A claimant parallels a granted follower with its own lead channel, or releases the claim. -/
  | actClaim (h : DHdr) (b : List Byte)
  /-- ACT_STATUS (R195): An ACT STATUS has no effect and returns a snapshot of the channel in RESULT. -/
  | actStatus (h : DHdr) (b : List Byte)
  /-- SAFE_ACTION (R204): The safety partition sends an OFF, BRAKE, REVERSE or RELEASE action on the safety lane for a channel in ACT_SAFE_MAP. -/
  | safeAction (h : DHdr) (b : List Byte)
  /-- SAFETY_LANE_MSG (R205): The power die accepts a safety-lane message and starts its action, ending any claim on the channel. -/
  | safetyLaneMsg
  /-- LIMP_STAGE (R207): P0 writes STAGE and the device copies and checks a limp image, reporting the result in ACT_LIMP_STATUS. -/
  | limpStage (w : Writer) (v : Word)
  /-- PULSE_TRAIN_END (R194): A pulse train ends, the channel switches off and the PULSE descriptor completes. -/
  | pulseTrainEnd (c : Chan)
  /-- PROFILE_SEGMENT_END (R220): A profile segment's time ends and the next segment, the next pass or the final hold begins, completing the profile at its last pass. -/
  | profileSegmentEnd (c : Chan)
  /-- HS_OVERCURRENT (R221): A channel's over-current comparator trips, latching the channel off within 4 µs and raising the fault event. -/
  | hsOvercurrent (c : Chan) (ma : Nat)
  /-- TEMP_SAMPLE (R223): Each 50 µs channel temperature reading can turn a channel thermal off at 175 °C, raise a TWARN, or auto-restart it below 150 °C. -/
  | tempSample (c : Chan) (t : Int)
  /-- INRUSH_END (R222): The inrush window closes and the normal latch threshold applies again. -/
  | inrushEnd (c : Chan)
  /-- RETRY_RESTART (R225): A retry wait expires and the scaler restarts a latched-off channel at its commanded state. -/
  | retryRestart (c : Chan)
  /-- RETRY_COUNT_RESET (R225): A channel stays on for 5 s without a latch-off, and its retry count returns to 0. -/
  | retryCountReset (c : Chan)
  /-- OPEN_LOAD_CHANGE (R226): Samples over OL_DEB set or clear OPEN on a channel that is on, raising the open-load event. -/
  | openLoadChange (c : Chan) (lo hi n vlo vhi : Nat)
  /-- RUN_MS_EXPIRY (R236): A drive's RUN_MS runs out, so the bridge goes to BRAKE_LOW and the drive completes. -/
  | runMsExpiry (hb : Fin 8)
  /-- DIR_GAP_END (R236): DIR_GAP passes after an opposing drive ended, and the waiting drive starts. -/
  | dirGapEnd (hb : Fin 8)
  /-- RIPPLE_ACCEPT (R239): A current ripple is accepted and moves POS by one, which may end a STOP_AT_POS drive. -/
  | rippleAccept (hb : Fin 8) (period amp : Nat)
  /-- RIPPLE_FILL (R239): 1.8 periods pass without a ripple, so one ripple is inserted, and eight in a row invalidate POS. -/
  | rippleFill (hb : Fin 8)
  /-- STALL (R242): No ripple and high current persist for STALL_T, setting STALL and ending the drive under STALL_STOP. -/
  | stall (hb : Fin 8) (heldMs ma : Nat)
  /-- HB_OVERCURRENT (R243): A bridge switch reaches its threshold, switching every switch of the bridge off within 4 µs and latching it off. -/
  | hbOvercurrent (hb : Fin 8) (low : Bool) (ma : Nat)
  /-- HB_OPEN_CHANGE (R245): During a drive the mean current stays below or above the open-load limits for OL_DEB, changing OPEN. -/
  | hbOpenChange (hb : Fin 8) (lo hi : Nat)
  /-- REVERSAL_BRAKE_END (R247): Phase 1 of the reversal profile ends after at least 0.20 ms of brake, and the reverse drive begins. -/
  | reversalBrakeEnd (hb : Fin 8)
  /-- REVERSAL_DRIVE_END (R247): REV_RIP ripples or REV_MS end the reverse drive, and the final 20 ms brake begins. -/
  | reversalDriveEnd (hb : Fin 8)
  /-- REVERSAL_FINAL_END (R247): The final brake of a reversal ends, the bridge goes OFF, and REV returns to 0. -/
  | reversalFinalEnd (hb : Fin 8)
  /-- SV_OVERCURRENT (R264): An SV member reaches LATCH, so the channel or pair is off within 4 µs with FAST decay and latched. -/
  | svOvercurrent (sv : Fin 8) (ma : Nat)
  /-- KERF_FOUND (R261): A dip and renewed rise of the coil current are found in the kerf window, which may end a learned pull-in. -/
  | kerfFound (sv : Fin 8) (i : List Nat)
  /-- KERF_WINDOW_END (R262): A KERF segment or its window ends, and KERF_RES, KERF_T and DEPTH are written. -/
  | kerfWindowEnd (sv : Fin 8) (i : List Nat)
  /-- SV_SHARE (R254): One pair member carries more than 62.5 % of the sum for 10 ms, raising SV_SHARE. -/
  | svShare (sv : Fin 8) (a b : Nat)
  /-- SV_OPEN_CHANGE (R267): The segment current stays below or above the open-load limits for OL_DEB, changing OPEN. -/
  | svOpenChange (sv : Fin 8) (lo hi : Nat)
  /-- LED_TEST (R277): Once per TP_PERIOD an off channel gets a test pulse, with a neighbour test, confirming or clearing open, short and neighbour-short faults. -/
  | ledTest (n : Fin 24) (r : Option LedMeas)
  /-- FOLLOW_OFF (R274): 10 ms after the last channel of a group goes off, its follow channel switches off. -/
  | followOff (g : Fin 3)
  /-- LED_HEADROOM (R275): A channel's sink voltage stays below its headroom for 2 ms while on, setting HEADROOM. -/
  | ledHeadroom (n : Fin 24) (mv heldUs : Nat)
  /-- LED_DERATE_UPDATE (R280): Every 100 ms each LED group's derating factor is recomputed from its temperature source. -/
  | ledDerateUpdate (g : Fin 3) (die : Int) (ohms : List Nat)
  /-- NTC_FAULT_HOLD_END (R281): After 10 s of an NTC fault, the group's factor drops to FLOOR. -/
  | ntcFaultHoldEnd (g : Fin 3)
  /-- FIO_INPUT_ACCEPT (R285): A field input level holds for DEB and is accepted, raising FIO_IN_CHANGE when enabled. -/
  | fioInputAccept (n : Fin 16) (mv heldUs : Nat)
  /-- FIO_FAULT_SCAN (R289): The common fault bit rises and the device records every channel's causes within 50 µs, raising FIO_FAULT to owners. -/
  | fioFaultScan
  /-- FIO_RESCAN (R289): While FAULT stays 1, every 1 ms the device rescans every field channel and records new causes. -/
  | fioRescan
  /-- FIO_SUPPLY_CAUSE (R289): The block supply stays below UV for 1 ms while an output is on, or above UV + 1.0 V for 10 ms, setting or clearing the SUPPLY cause. -/
  | fioSupplyCause (mv heldMs : Nat)
  /-- FIO_INPUT_RANGE (R289): An input stays in its transition band for 100 ms, or outside it for 10 ms, setting or clearing INPUT_RANGE. -/
  | fioInputRange (n : Fin 16) (mv heldMs : Nat)
  /-- INPUT_SAMPLE (R296): The 1 ms switch-input sample in RUN and IDLE; DEB + 1 agreeing samples accept a new state and raise SI_CHANGE. -/
  | inputSample (mv : List Nat) (vspar : Nat)
  /-- CYCLIC_BURST (R299): At each CYC_PERIOD grid point the cyclic-sensed inputs are sampled in one burst, which may confirm a switch-input wake. -/
  | cyclicBurst (mv : List Nat) (vspar : Nat)
  /-- ANALOG_CONVERT (R297): Once per ANA_MS an analog input is converted into SIN_ANA, and AFAULT may change. -/
  | analogConvert (m : Fin 16) (value : Nat)
  /-- ADC_CALIBRATE (R302): A calibration result is taken, or kept at the last good value with ADC_CAL when it departs by more than 1 %. -/
  | adcCalibrate (adc : Fin 16) (departure : Int)
  /-- OPEN (R304): An SNS OPEN checks ownership, window and capacity, and opens a stream in a slot. -/
  | snsOpen (h : DHdr) (b : List Byte)
  /-- CLOSE (R303): An SNS CLOSE writes the partial block and closes the stream once INF has read any held block. -/
  | snsClose (h : DHdr) (b : List Byte) (samples : List Byte) (back : Nat)
  /-- STREAM_RELEASE (R308): An SNS RELEASE returns consumed blocks by setting the consumer count. -/
  | streamRelease (h : DHdr) (b : List Byte)
  /-- SNS_READ (R303): An SNS READ returns one measurement in RESULT. -/
  | snsRead (h : DHdr) (b : List Byte)
  /-- BLOCK_COMPLETE (R306): A stream block fills or its FLUSH_MS passes; it is written, possibly overwriting the oldest slot, and handed to INF. -/
  | blockComplete (part : Fin 8) (slot : Fin 16) (samples : List Byte) (back : Nat)
  /-- WINDOW_HANDOFF (R307): A completed window is brand-checked and handed to an inference context 10–100 µs after its last sample. -/
  | windowHandoff (part : Fin 8) (slot : Fin 16)
  /-- SCALER_STEP (R312): The scaler's evaluation step updates harness models, heat, budgets, ceilings, derating, restore and escalation. -/
  | scalerStep (x : ScalerIn)
  /-- SCALER_RESTART (R313): A missed step, a missing measurement or a failed microcode check restarts the scaler from ROM, holding its ceilings. -/
  | scalerRestart (cause : Fin 4)
  /-- STORM_END (R320): STORM_HOLD ends, and the paused retry waits continue. -/
  | stormEnd
  /-- LOSS_WINDOW_END (R325): A 100 ms loss window ends, entering or leaving OVERLOAD_SUSTAINED. -/
  | lossWindowEnd
  /-- FRAME_RECEIVE (R333): A frame arrives whole at a switch port; it is verified, bypass-matched, classified, parsed, ruled, looked up, learned and queued. -/
  | frameReceive (port : Fin 6) (frame : List Byte) (fcsOk : Bool)
  /-- FRAME_TRANSMIT (R349): An egress port starts sending the next eligible frame, protected by MACsec on chain ports. -/
  | frameTransmit (port : Fin 8) (gap : Nat)
  /-- GATE_ENTRY (R351): A gate control list interval ends and the next entry's gate states take effect. -/
  | gateEntry (port : Fin 2)
  /-- AGING_SCAN (R344): The aging scan visits entries and removes expired dynamic entries. -/
  | agingScan
  /-- TX (R337): A NET TX sends one frame through the host port, waiting for buffer room up to TX_TMO. -/
  | netTx (h : DHdr) (b : List Byte)
  /-- TX_TIMEOUT (R337): TX_TMO expires before every copy of a TX is admitted, so the TX completes with TX_TIMEOUT. -/
  | txTimeout
  /-- RX_BUF (R338): A NET or BUS RX_BUF posts one receive buffer, which completes when a frame or record is written into it. -/
  | rxBuf (bus : Bool) (h : DHdr) (b : List Byte)
  /-- FLUSH_TABLE (R345): A NET FLUSH from P0 removes the dynamic entries that match a port and VID. -/
  | flushTable (h : DHdr) (b : List Byte)
  /-- TBL_READ (R343): SW_TBL_CMD READ reads the addressed forwarding table entry into SW_TBL_DATA. -/
  | tblRead (w : Writer)
  /-- TBL_WRITE (R343): SW_TBL_CMD WRITE installs a static entry before seal. -/
  | tblWrite (w : Writer)
  /-- TBL_CLEAR (R343): SW_TBL_CMD CLEAR removes the addressed entry before seal. -/
  | tblClear (w : Writer)
  /-- PLCA_BEACON_LOSS (R374): A follower gets no beacon for four cycles, falls back to CSMA/CD and raises T1S_PLCA. -/
  | plcaBeaconLoss (seg : Fin 4)
  /-- T1S_SLEEP_REQ (R375): A segment sleep request arrives in RUN, raising T1S_SLEEP_REQ and being acknowledged when SLEEP_OK is 1. -/
  | t1sSleepReq (seg : Fin 4)
  /-- CAN_FRAME_RX (R379): A CAN frame is received and filtered to delivery, tunnels or FILT_MISS, with error counting and state changes. -/
  | canFrameRx (bus : Fin 4) (ev : CanEv)
  /-- BUSOFF_RECOVERED (R378): Bus-off recovery ends after 128 occurrences of 11 recessive bits. -/
  | busoffRecovered (bus : Fin 4)
  /-- CAN_TX (R386): A CAN_TX sends one CAN frame, competing by identifier. -/
  | canTx (h : DHdr) (b : List Byte)
  /-- BUS_FRAME_SENT (R386): A pending CAN or LIN frame finishes on the bus and its descriptor completes with OK. -/
  | busFrameSent (lin : Bool) (bus : Fin 6)
  /-- BUS_TX_TIMEOUT (R386): TX_TMO passes before a pending bus frame is sent, completing it with TX_TIMEOUT. -/
  | busTxTimeout (lin : Bool) (bus : Fin 6)
  /-- LIN_TX (R381): A commander's LIN_TX inserts one frame after the current schedule slot. -/
  | linTx (h : DHdr) (b : List Byte)
  /-- LIN_SCHED (R381): LIN_SCHED starts or stops a commander's schedule at the end of the current slot. -/
  | linSched (h : DHdr) (b : List Byte)
  /-- LIN_SLOT (R381): A schedule slot ends and the next entry's header is sent. -/
  | linSlot (bus : Fin 6)
  /-- LIN_RESP (R382): LIN_RESP sets or clears the response for an ID. -/
  | linResp (h : DHdr) (b : List Byte)
  /-- LIN_HEADER_RX (R382): A responder receives a header and answers when its ID has a response. -/
  | linHeaderRx (bus : Fin 6) (id : Fin 64)
  /-- LIN_RESPONSE_RX (R380): A LIN response completes and is delivered, or fails by timeout or checksum and counts in LIN_ERR. -/
  | linResponseRx (bus : Fin 6) (data : List Byte) (ok : Bool)
  /-- LIN_GOTO_SLEEP (R383): A responder receives the go-to-sleep command, raises LIN_SLEEP_REQ and sleeps its transceiver. -/
  | linGotoSleep (bus : Fin 6)
  /-- ONLINE (R384): BUS_CTL ONLINE brings a sleeping or offline bus back into operation. -/
  | busOnline (h : DHdr) (b : List Byte)
  /-- OFFLINE (R385): BUS_CTL OFFLINE takes a bus out of operation. -/
  | busOffline (h : DHdr) (b : List Byte)
  /-- BUS_SLEEP (R384): BUS_CTL SLEEP waits for the frame in transmission, fails pending frames and sleeps the transceiver, or sends go-to-sleep on LIN. -/
  | busSleep (h : DHdr) (b : List Byte)
  /-- BUS_WAKE (R383): BUS_CTL WAKE sends a 1.0 ms dominant wake pulse. -/
  | busWake (h : DHdr) (b : List Byte)
  /-- RECOVER (R378): BUS_CTL RECOVER starts bus-off recovery when BO_AUTO is 0. -/
  | busRecover (h : DHdr) (b : List Byte)
  /-- TUNNEL_INGRESS (R392): An AVTP frame for a tunnel is checked and its ACF messages are queued to buses, set as LIN responses or dropped. -/
  | tunnelIngress (frame : List Byte)
  /-- TUNNEL_FLUSH (R390): HOLD expires or the frame is full, and the tunnel sends its queued messages as one AVTP frame. -/
  | tunnelFlush (tun : Fin 8)
  /-- INF_RESULT (R413): A channel's result reaches the comparator, and with both results the comparator decides. -/
  | infResult (chan : Fin 2) (id : Nat) (damage : List Byte)
  /-- PAIR_TIMEOUT (R413): A result is still missing PAIR_TMO after hand-off, so the binding reports or acts with TIMEOUT. -/
  | pairTimeout (binding : Fin 8) (id : Nat)
  /-- NO_INPUT_TIMEOUT (R416): No window reaches a bound context for INPUT_TMO during an armed drive, so the binding acts with NO_INPUT. -/
  | noInputTimeout (binding : Fin 8)
  /-- LOCKSTEP_FAULT (R410): A lockstep pair's cores diverge, stopping the pair within 10 ns and raising LOCKSTEP_FAULT. -/
  | lockstepFault (pair : Fin 2) (mcycle : Nat)
  /-- LOAD (R426): An INF LOAD reads, checks and writes a model image and runs its golden vector, making the context READY or refusing it. -/
  | infLoad (h : DHdr) (b : List Byte)
  /-- UNLOAD (R427): An INF UNLOAD frees a context's weight memory and empties it. -/
  | infUnload (h : DHdr) (b : List Byte)
  /-- RUN (R430): An INF RUN executes one job on an input buffer with given brands. -/
  | infRun (h : DHdr) (b : List Byte)
  /-- JOB_START (R429): A ready job starts on a free channel, or a safety job suspends another at a slice boundary. -/
  | jobStart (chan : Fin 2) (id : Nat)
  /-- JOB_END (R430): A job ends on a channel and writes its branded result record. -/
  | jobEnd (chan : Fin 2) (fault : Fin 3)
  /-- JOB_WATCHDOG (R432): A job runs past 2 × EXEC + 50 µs and is aborted. -/
  | jobWatchdog (chan : Fin 2)
  /-- KAT_START (R434): A due or forced known-answer test starts on a channel. -/
  | katStart (chan : Fin 2) (forced : Bool)
  /-- KAT_END (R435): A known-answer test ends, passing or putting the channel into FAILED or LOCKED. -/
  | katEnd (chan : Fin 2) (part : Fin 3) (ctx : Fin 16)
  /-- KAT_RETEST (R435): Every 10 ms a FAILED channel is retested. -/
  | katRetest (chan : Fin 2) (part : Fin 3) (ctx : Fin 16)
  /-- CONTEXT_RELOAD (R437): On return from SLEEP a RELOADING context is reloaded from its image, or lost. -/
  | contextReload (ctx : Fin 16) (execA execB : Nat)
  /-- NS_CREATE (R444): STO_NS_CMD CREATE creates the selected namespace, or is refused by Table 20.3. -/
  | nsCreate (w : Writer)
  /-- NS_DELETE (R444): STO_NS_CMD DELETE removes the selected namespace, or is refused by Table 20.3. -/
  | nsDelete (w : Writer)
  /-- READ (R447): An STO READ copies blocks from a namespace to memory, with a partial effect on MEDIA_ERROR. -/
  | stoRead (h : DHdr) (b : List Byte)
  /-- WRITE (R450): An STO WRITE copies blocks to a namespace, completing as write-back or write-through. -/
  | stoWrite (h : DHdr) (b : List Byte)
  /-- WRITE_ATOMIC (R449): An STO WRITE_ATOMIC writes all blocks or none, completing when its commit record is durable. -/
  | stoWriteAtomic (h : DHdr) (b : List Byte)
  /-- TRIM (R460): An STO TRIM unmaps a range of blocks durably. -/
  | stoTrim (h : DHdr) (b : List Byte)
  /-- FLUSH (R452): An STO FLUSH completes once earlier write-back blocks of its namespaces are durable. -/
  | stoFlush (h : DHdr) (b : List Byte)
  /-- STO_STATUS (R448): An STO STATUS returns a namespace's mapped blocks, health and write-back state. -/
  | stoStatus (h : DHdr) (b : List Byte)
  /-- WB_DRAIN (R451): The controller drains write-back blocks to the media on age, fill level, power entry or HOLD_LOW. -/
  | wbDrain (n : Nat) (fail : Bool) (eb : Nat)
  /-- STORE_MOUNT (R459): At a CD start the controller maps the rescue extent and mounts each namespace through tags. -/
  | storeMount (t0 : Int) (weak : List (Nat × Nat × Nat))
  /-- CHECKPOINT (R458): Every CKPT_INT seconds a CHECKPOINT namespace saves its full map. -/
  | checkpoint (ns : Fin 16)
  /-- JOURNAL_FLUSH (R458): Every JRNL_INT milliseconds a JOURNAL namespace flushes its map journal. -/
  | journalFlush (ns : Fin 16)
  /-- RETENTION_UPDATE (R461): Every 10 s the effective age of programmed erase blocks grows, queueing refresh at its thresholds. -/
  | retentionUpdate (t0 : Int)
  /-- REFRESH (R463): A queued erase block's valid data is copied to a fresh block and remapped. -/
  | refresh (ns : Fin 16) (src dst : Nat)
  /-- GARBAGE_COLLECTION (R464): Garbage collection frees erase blocks within its share of die operations. -/
  | garbageCollection (ns : Fin 16) (src dst : Nat) (freePm : Nat) (spares : Fin 101) (wear : Nat)
  /-- POWER_FAIL (R467): The pre-regulator input stays below 5.0 V for 20 µs; the power-loss sequence halts work, drains write-back data and saves metadata. -/
  | powerFail (mv heldUs hold : Nat)
  /-- POWER_FAIL_STEP_DONE (R467): A timed step of the power-loss sequence, such as the issued programs or the rescue drain, completes and the next begins. -/
  | powerFailStepDone
  /-- HOLD_STOP (R467): HOLD falls to V_STOP, and the controller stops the sequence at once to keep the tally reserve. -/
  | holdStop (mv drained : Nat)
  /-- HOLDUP_MEASURE (R470): At a CD start the power die measures the hold-up capacitor and sets WB_OK and GRANT. -/
  | holdupMeasure (vh c esr : Nat) (timeout : Bool)
  /-- HOLD_LOW (R472): HOLD stays below 0.9 × V_H for 1 ms, setting HOLD_LOW and forcing write-through, or clears after 100 ms above 0.95 × V_H. -/
  | holdLow (mv heldUs : Nat)
  /-- RANDOM (R482): A SEC RANDOM returns DRBG output when SEEDED, or waits or returns ENTROPY_PENDING. -/
  | secRandom (h : DHdr) (b : List Byte)
  /-- ENTROPY_TIMEOUT (R482): A held RANDOM is not served within 20 ms and completes with ENTROPY_TIMEOUT. -/
  | entropyTimeout
  /-- TRNG_STARTUP_DONE (R481): The TRNG startup test ends; on a pass the DRBG is reseeded and becomes SEEDED, on a fail it is repeated or the TRNG fails. -/
  | trngStartupDone (pass : Bool) (ms : Nat)
  /-- SEED_REWRITE (R480): Once SEEDED at a start, the vault writes fresh DRBG output to slot 7. -/
  | seedRewrite
  /-- TRNG_CONTINUOUS_FAIL (R483): A continuous health test fails in RUN, setting FAILED and restarting the startup test. -/
  | trngContinuousFail
  /-- RESEED_DUE (R480): RESEED_N requests or 60 s pass without fresh entropy, so the DRBG becomes RESEED_DUE. -/
  | reseedDue
  /-- AES_GCM (R484): A SEC AES_GCM encrypts or decrypts with a key slot. -/
  | secAesGcm (h : DHdr) (b : List Byte)
  /-- SHA256 (R484): A SEC SHA256 hashes a buffer. -/
  | secSha256 (h : DHdr) (b : List Byte)
  /-- HKDF (R484): A SEC HKDF derives a key into a volatile slot. -/
  | secHkdf (h : DHdr) (b : List Byte)
  /-- ECDSA_SIGN (R484): A SEC ECDSA_SIGN signs a hash with the device identity key. -/
  | secEcdsaSign (h : DHdr) (b : List Byte)
  /-- ECDSA_VERIFY (R484): A SEC ECDSA_VERIFY verifies a P-256 signature. -/
  | secEcdsaVerify (h : DHdr) (b : List Byte)
  /-- MLDSA_VERIFY (R484): A SEC MLDSA_VERIFY verifies an ML-DSA-65 signature. -/
  | secMldsaVerify (h : DHdr) (b : List Byte)
  /-- KEY_LOAD (R484): A SEC KEY_LOAD writes a key into a volatile slot. -/
  | secKeyLoad (h : DHdr) (b : List Byte)
  /-- KEY_CLEAR (R478): A SEC KEY_CLEAR clears a volatile slot. -/
  | secKeyClear (h : DHdr) (b : List Byte)
  /-- CMAC (R484): A SEC CMAC computes an AES-CMAC with a key slot. -/
  | secCmac (h : DHdr) (b : List Byte)
  /-- PUBKEY (R484): A SEC PUBKEY returns the public key of slot 0 or slot 1. -/
  | secPubkey (h : DHdr) (b : List Byte)
  /-- KEY_PROVISION (R477): P0 writes an empty provisionable key slot before seal. -/
  | keyProvision (h : DHdr) (b : List Byte)
  /-- MSEC_INSTALL (R368): P0 installs a MACsec SA on a chain port, making it usable or in use. -/
  | msecInstall (h : DHdr) (b : List Byte)
  /-- MSEC_RETIRE (R368): P0 removes a MACsec SA and clears its key. -/
  | msecRetire (h : DHdr) (b : List Byte)
  /-- UPD_VERIFY (R490): UPD_VERIFY checks a landed bundle and marks its slot VERIFIED or FAILED. -/
  | updVerify (h : DHdr) (b : List Byte) (media : Bool)
  /-- UPD_ARM (R490): UPD_ARM arms a VERIFIED landing slot and disarms the other. -/
  | updArm (h : DHdr) (b : List Byte)
  /-- UPD_DISARM (R490): UPD_DISARM disarms both landing slots. -/
  | updDisarm (h : DHdr) (b : List Byte)
  /-- UPD_CONFIRM (R493): UPD_CONFIRM confirms the trial bank and raises the rollback counter to its SVN. -/
  | updConfirm (h : DHdr) (b : List Byte)
  /-- DBG_AUTH_CHALLENGE (R486): A read of DBG_AUTH issues a UID and fresh nonce challenge, or zeros when none may be issued. -/
  | dbgAuthChallenge
  /-- DBG_AUTH_RESPONSE (R486): A signed response written to DBG_AUTH opens the requested debug scopes, or counts a failure. -/
  | dbgAuthResponse (r : List Byte)
  /-- TALLY_WRITE (R502): The spar core writes the next queued record to both halves of the ring area and, for fault records, to the first-fault area. -/
  | tallyWrite
  /-- TLY_SEL_WRITE (R510): P0 selects a tally record with TLY_SEL, and VALID and TLY_DATA follow within 5 µs. -/
  | tlySelWrite (w : Writer) (v : Word)
  /-- TLY_MARK_WRITE (R510): P0 moves RD_MARK forward; a backward or out-of-range value is ignored and counted. -/
  | tlyMarkWrite (w : Writer) (v : Word)
  /-- ECC_ERROR (R517): A memory access finds an ECC error, which is corrected and counted, or acts as an uncorrectable error by Table 24.4. -/
  | eccError (mem : Fin 16) (ue : Bool) (addr : Nat) (hit : EccAt)
  /-- SCRUB (R519): The scrubber reads and corrects a powered word of the scrubbed memories. -/
  | scrub (mem : Fin 16) (addr : Nat) (err : Option Bool)
  /-- LINK_REPLAY (R520): A bad CRC or a missing sequence on a package link requests replay from the sender. -/
  | linkReplay (link : Fin 2) (again : Bool)
  /-- LINK_RETRAIN (R520): A replay limit retrains a link, possibly dropping a lane to half rate. -/
  | linkRetrain (link : Fin 2) (one : Bool)
  /-- LINK_LOST (R521): A package link has no valid frame for 1.0 ms and is lost, with the consequences of Table 24.5. -/
  | linkLost (link : Fin 2)
  /-- SIDEBAND_PARITY_LOSS (R521): 16 consecutive parity failures declare the PD–LD sideband lost, with retries every 100 ms. -/
  | sidebandParityLoss
  /-- ONFI_LOSS (R521): Three store operations without response declare the store die lost. -/
  | onfiLoss
  /-- HELD_EVENT_DELIVERY (R524): After a restart, event records held during the loss are delivered to recipients as they become RUNNING. -/
  | heldEventDelivery (part : Fin 8)
  /-- EVT_INJ_ARM (R526): P0 arms a fault injection of the selected kind, where permitted. -/
  | evtInjArm (w : Writer) (v : Word)
  /-- EVT_RAISE (R526): P0 raises an event source with a zero payload, where permitted. -/
  | evtRaise (w : Writer) (v : Word)
  /-- SEAL_SET_APPLY (R534): P0 writes APPLY and the device checks a seal set and applies its writes, layout, limp stage and seal in stages. -/
  | sealSetApply (w : Writer) (v : Word)
  /-- FEED_UNDERVOLTAGE (R545): A VBAT feed stays below 4.5 V for 100 µs, so its channels switch off, keeping their commanded states. -/
  | feedUndervoltage (f : Fin 4) (mv heldUs : Nat)
  /-- FEED_OVERVOLTAGE (R557): A VBAT feed stays above 37 V for 10 µs, so its channels switch off, keeping their commanded states. -/
  | feedOvervoltage (f : Fin 4) (mv heldUs : Nat)
  /-- FEED_RECOVER (R545): A feed returns to its normal range for 1 ms, FEED_OK sets, and its channels return to their commanded states. -/
  | feedRecover (f : Fin 4) (mv heldUs : Nat)
  /-- RC_REGISTER_READ (R7): A configuration-space read of an RC field returns its value and clears it, or of a _LO register latches its _HI partner. -/
  | rcRegisterRead (w : Writer) (addr len : Nat)
  /-- REGISTER_WRITE (R7): A write to any register without its own row takes effect by its fields' access codes, seal state and writer, or is ignored and counted. -/
  | registerWrite (w : Writer) (addr len : Nat) (v : Word)
  /-- PLCA_BEACON_RETURN (R374): Beacons return to a follower that had fallen back to CSMA/CD, so PLCA_STATUS goes back to 1 and T1S_PLCA is raised. -/
  | plcaBeaconReturn (seg : Fin 4)
  /-- HOLD_PRECHARGE_TRIP (R550): At an OFF or power-on start the precharge comparator trips at 7.5 V on HOLD, and the spar core enables the bucks. -/
  | holdPrechargeTrip
  /-- LINK_PGOOD_LOST (R521): The LINK buck loses PGOOD while running, so the link die is declared lost and the chain is cut at this unit. -/
  | linkPgoodLost
  /-- PRE_REGULATOR_INPUT_RETURN (R467): After a power-loss sequence the pre-regulator input stays above 6.0 V for 10 ms, which releases the CD from reset into the failure ladder. -/
  | preRegulatorInputReturn (mv heldUs : Nat)
  /-- INF_LOAD_COMPLETE (R426): A running LOAD finishes its image checks and golden runs, so the context becomes READY with OK, or EMPTY with MODEL_INVALID. -/
  | infLoadComplete (ctx : Fin 16) (execA execB : Nat)
  /-- STO_COMMAND_COMPLETE (R449): A store command's data reaches the step that its completion mode names, and its completion record is posted. -/
  | stoCommandComplete (i : Nat) (fail : Option Nat) (eb : Nat) (weak : List (Nat × Nat))
  /-- LINK_RECOVERY_RETRY (R521): Every 100 ms a lost CD–LD link is retrained, or a lost PD–LD sideband is retried, and it returns to service when the attempt succeeds. -/
  | linkRecoveryRetry (link : Fin 3) (ok : Bool)
  deriving DecidableEq, Repr

end Sys2Proof
end

