-- ==== Sys2Proof/Decode.lean ====
section
/-! DEFINITION.
The command that a word spells by the bits of spec/opcode_table.json. The table gives no row any bits (every row's
`fields` is empty): the block's commands are accesses, events and frames, not words, and no word spells one.
-/

namespace Sys2Proof

/-- The command that a word of so many bits spells: none, since no row of the table has bits. -/
def decodeTableWord (nbits w : Nat) : Option Instr :=
  match nbits, w with
  | _, _ => none

end Sys2Proof
end

