-- ==== Sys2Proof/Config.lean ====
section
/-! DEFINITION.
What the spec leaves open or only names: free values, and the functions of the standards it refers to. Each is a
constant without a body, so nothing can evaluate it or prove a value of it, and a statement holds whatever it is.
-/

namespace Sys2Proof.Config

/-- Values that nothing constrains, drawn one after another (log entry 1). -/
opaque freeValue : Nat → BitVec 64

/-- What the home of a REMOTE partition answers to a data READ_REQ (R188): whether with STATUS FAULT, and the byte at an
address, by the free value drawn for the read (log entry 1). -/
opaque headFault : Nat → Bool
opaque headByte : Nat → Nat → BitVec 8

/-- SHA-256, which the spec names and does not define (log entry 2). -/
opaque sha256 : List Byte → BitVec 256

/-- The first 8 bytes of HMAC-SHA256 (RFC 2104) under a key, read as one number (log entry 2). -/
opaque hmac64 : BitVec 256 → List Byte → BitVec 64

/-- AES-CMAC (RFC 4493) under a key of 16 or 32 bytes (log entry 2). -/
opaque cmac : List Byte → List Byte → BitVec 128

/-- AES-GCM (NIST SP 800-38D) under a key, with a nonce and associated data: the ciphertext with its 16-byte tag, and the
opened text when the tag holds (log entry 2). -/
opaque gcmSeal : List Byte → List Byte → List Byte → List Byte → List Byte
opaque gcmOpen : List Byte → List Byte → List Byte → List Byte → Option (List Byte)

/-- HKDF-SHA256 (RFC 5869) of a key, a salt, an info and a length (log entry 2). -/
opaque hkdf : List Byte → List Byte → List Byte → Nat → List Byte

/-- ECDSA P-256: the signature of a hash under a private key, by a free value where the standard draws one; the check of a
hash and a signature under a public key; and the public key of a private one (log entry 2). -/
opaque ecdsaSign : Nat → List Byte → List Byte → List Byte
opaque ecdsaVerify : List Byte → List Byte → List Byte → Bool
opaque publicKey : List Byte → List Byte

/-- ML-DSA-65, pure: the check of a message, a context and a signature under a public key (log entry 2). -/
opaque mldsaVerify : List Byte → List Byte → List Byte → List Byte → Bool

/-- HPKE (RFC 9180) in the suite of R488: opening a ciphertext under a private key, with the encapsulated key, info and
associated data (log entry 2). -/
opaque hpkeOpen : List Byte → List Byte → List Byte → List Byte → List Byte → Option (List Byte)

/-- The private keys generated inside at manufacture, slots 0 and 1 (log entry 2). -/
opaque fuseKey : Nat → List Byte

/-- Output of the DRBG, and bytes whose layout the spec does not give: a byte of the free value drawn (log entry 1). -/
opaque randomByte : Nat → Nat → BitVec 8

/-- A field output has no COMP_EXP: whether its battery compensation squares the voltage ratio (R218, R286; log entry 92). -/
opaque fioCompSquare : Bool

/-- What an INT32 accumulation yields whose exact sum lies outside INT32 (R424; log entry 37). -/
opaque accOverflow : Int → Int

end Sys2Proof.Config
end

