-- ==== Sys2Proof/Machine/Tab.lean ====
section
/-! DEFINITION.
The one sparse container of the model: a list of (key, value) pairs with strictly rising keys. A key that is not
listed holds its default; an update with the default removes the entry, so that equal contents are equal lists.
Memories, the register file and every array of like things (channels, rings, streams, table entries) are held so.
-/

namespace Sys2Proof.Machine

/-- A sparse table keyed by number. -/
abbrev Tab (α : Type) := List (Nat × α)

/-- The entry listed for a key. -/
def tabFind {α : Type} : Tab α → Nat → Option α
  | [], _ => none
  | (k, v) :: t, i => if k = i then some v else tabFind t i

/-- What a key holds, given the default of unlisted keys. -/
def tabGet {α : Type} (d : α) (t : Tab α) (i : Nat) : α := (tabFind t i).getD d

/-- List a key with a value, in order. -/
def tabPut {α : Type} : Tab α → Nat → α → Tab α
  | [], i, v => [(i, v)]
  | (k, w) :: r, i, v =>
    if i < k then (i, v) :: (k, w) :: r
    else if i = k then (i, v) :: r
    else (k, w) :: tabPut r i v

/-- Remove a key. -/
def tabDel {α : Type} (t : Tab α) (i : Nat) : Tab α := t.filter (fun e => e.1 != i)

/-- Make a key hold a value: the default is held by not being listed. -/
def tabSet {α : Type} [DecidableEq α] (d : α) (t : Tab α) (i : Nat) (v : α) : Tab α :=
  if v = d then tabDel t i else tabPut t i v

/-- The keys of a table rise strictly. -/
abbrev tabSorted {α : Type} (t : Tab α) : Prop := t.Pairwise (fun a b => a.1 < b.1)

/-- The canonical form: keys strictly rising and no entry equal to the default. -/
abbrev tabWf {α : Type} (d : α) (t : Tab α) : Prop := tabSorted t ∧ ∀ e ∈ t, e.2 ≠ d

/-- The entries whose keys pass a test. -/
def tabKeep {α : Type} (p : Nat → Bool) (t : Tab α) : Tab α := t.filter (fun e => p e.1)

/-- Update the value of one key by a function. -/
def tabMod {α : Type} [DecidableEq α] (d : α) (t : Tab α) (i : Nat) (f : α → α) : Tab α :=
  tabSet d t i (f (tabGet d t i))

end Sys2Proof.Machine
end

