-- ==== Sys2Proof/Machine/Field.lean ====
section
/-! DEFINITION.
What a register field is, and what the register index says of a register (R7, R9, R569, R573).
-/

namespace Sys2Proof.Machine

/-- A register field: the offset of its register in the configuration space, its lowest bit, its width and its reset
value. A `_LO` / `_HI` pair is one register of 64 bits at the offset of `_LO`. -/
structure Field where
  off : Nat
  lsb : Nat
  width : Nat
  reset : Nat
  deriving DecidableEq, Repr

/-- The access codes of Table 0.3. -/
inductive Acc where
  | rw | ro | w1c | w1s | wo | rc | rws
  deriving DecidableEq, Repr

/-- What a field's content outlives: nothing, a device reset ("(spar)", R9), or every reset (MRAM, store, fuses). -/
inductive Keep where
  | volatile | spar | nonvolatile
  deriving DecidableEq, Repr

/-- A field of a register's description: place, access code, reset value, keeping, the range a written value is
taken to, and the written values "taken as" another (first, last, taken as). -/
structure FieldDesc where
  lsb : Nat
  width : Nat
  acc : Acc
  reset : Nat
  keep : Keep
  lo : Nat
  hi : Nat
  taken : List (Nat × Nat × Nat)
  deriving DecidableEq, Repr

/-- A register of Table 28.4: its name, offset, index strides (count, stride), the distance of its `_HI` word (0 for
a single word) and its fields. -/
structure RegDesc where
  name : String
  off : Nat
  dims : List (Nat × Nat)
  hi : Nat
  fields : List FieldDesc
  deriving DecidableEq, Repr

/-- The key under which a field's content is listed. -/
def fieldKey (off lsb : Nat) : Nat := off * 64 + lsb

/-- The key of a field. -/
def Field.key (f : Field) : Nat := fieldKey f.off f.lsb

/-- The largest value of a field. -/
def Field.top (f : Field) : Nat := 2 ^ f.width - 1

end Sys2Proof.Machine
end

