-- ==== Sys2Proof/Machine/Regs.lean ====
section
/-! DEFINITION.
Every register field of the spec, one definition per field, named `<REGISTER>_<FIELD>` as the field tables name
them, with its place (offset in the configuration space of Table 28.1, lowest bit, width) and its reset value.
Offsets and strides are those of Table 28.4; bits, access codes and reset values those of the field table that each
docstring names. A `_LO` / `_HI` pair is one field of up to 64 bits at the offset of `_LO` (R569). An index is taken modulo the number of
its register's instances, so that a field of an instance never names a register of another kind.
-/

namespace Sys2Proof.Machine

/-- Table 2.6 (R66): RO, reset 0. XS is the reference of the spar domain (R37) -/
def SPR_STATUS_XS_OK : Field := ⟨0x0, 0, 1, 0⟩
/-- Table 2.6 (R66): RO, reset 0 (spar). the RTC has run on the LPO since P0 last wrote it while XS was the reference (R37) -/
def SPR_STATUS_RTC_DEGRADED : Field := ⟨0x0, 1, 1, 0⟩
/-- Table 2.6 (R66): RO, reset 0 (spar). the limp table is applied -/
def SPR_STATUS_LIMP_ACTIVE : Field := ⟨0x0, 2, 1, 0⟩
/-- Table 2.6 (R66): RO, reset 0x21. spar firmware version; 0x21 at stepping B1 -/
def SPR_STATUS_FW_VER : Field := ⟨0x0, 8, 8, 33⟩
/-- Table 2.7 (R66): RW, reset 0 (spar). RTC count; P0 only -/
def SPR_RTC_RTC : Field := ⟨0x10, 0, 48, 0⟩
/-- Table 2.7 (R66): RW, reset 0 (spar). alarm compare value -/
def SPR_RTC_ALARM_ALARM : Field := ⟨0x18, 0, 48, 0⟩
/-- Table 2.7 (R66): RO, reset per R41. device time (ns) -/
def SPR_DT_DT : Field := ⟨0x20, 0, 64, 0⟩
/-- Table 2.7 (R66): RO, reset 0. 0 FREE, 1 COARSE, 2 SYNC; 3 not used -/
def SPR_DT_STATUS_STATE : Field := ⟨0x28, 0, 2, 0⟩
/-- Table 2.7 (R66): RO, reset 0. steps since CD start, modulo 256 -/
def SPR_DT_STATUS_EPOCH : Field := ⟨0x28, 8, 8, 0⟩
/-- Table 2.7 (R66): RWS, reset 1,000. slew limit (µs), 10–100,000 -/
def SPR_DT_CFG_STEP_THRESH : Field := ⟨0x2c, 0, 17, 1000⟩
/-- Table 2.7 (R66): RWS, reset 40. SYNC loss time (10 ms units), 1–255 -/
def SPR_DT_CFG_LOSS_TIME : Field := ⟨0x2c, 24, 8, 40⟩
/-- Table 2.8 (R66): RWS, reset 1,000. period (ms), 10–1,000 -/
def SPR_WDG_CFG_PERIOD : Field := ⟨0x40, 0, 10, 1000⟩
/-- Table 2.8 (R66): RWS, reset 0. closed part in eighths, 0–6 -/
def SPR_WDG_CFG_CLOSED : Field := ⟨0x40, 12, 3, 0⟩
/-- Table 2.8 (R66): RWS, reset 0. safety island feed required -/
def SPR_WDG_CFG_SAF_FEED : Field := ⟨0x40, 16, 1, 0⟩
/-- Table 2.8 (R66): WO, reset —. feed values of R53 -/
def SPR_WDG_FEED_KEY : Field := ⟨0x44, 0, 32, 0⟩
/-- Table 2.8 (R66): RC, reset 0 (spar). bit 0 power-on, 1 spar watchdog, 2 MAINT spar, 3 command (SPR_RST_CMD or the deadline of R492), 4 control watchdog, 5 MAINT device, 6 control die lost, for a loss counted by R523 only, 7 XS fallback seen: set at every fallback of R36, whether or not a reset follows -/
def SPR_RST_CAUSE_CAUSE : Field := ⟨0x50, 0, 8, 0⟩
/-- Table 2.8 (R66): WO, reset —. 0x0000_D0E5 from P0: device reset -/
def SPR_RST_CMD_KEY : Field := ⟨0x54, 0, 32, 0⟩
/-- Table 2.9 (R66): W1S, reset 0. leaves limp per R60; reads 1 until acted on or ignored, then 0 -/
def SPR_LIMP_CTL_RELEASE : Field := ⟨0x60, 0, 1, 0⟩
/-- Table 2.9 (R66): RWS, reset 0. CRASH entries apply while the CD runs -/
def SPR_LIMP_CTL_CRASH_LIVE : Field := ⟨0x60, 1, 1, 0⟩
/-- Table 2.9 (R66): RWS, reset 10. IGN filter (ms), 1–15 -/
def SPR_LIMP_CTL_IGN_DEB : Field := ⟨0x60, 8, 4, 10⟩
/-- Table 2.9 (R66): RO, reset 0. filtered IGN -/
def SPR_LIMP_IN_IGN : Field := ⟨0x64, 0, 1, 0⟩
/-- Table 2.9 (R66): RO, reset 0. filtered CRASH -/
def SPR_LIMP_IN_CRASH : Field := ⟨0x64, 1, 1, 0⟩
/-- Table 2.9 (R66): W1C, reset 0 (spar). CRASH accepted; cleared by P0 -/
def SPR_LIMP_IN_CRASH_LATCH : Field := ⟨0x64, 2, 1, 0⟩
/-- Table 2.10 (R66): RW, reset 0. 0 FRC, 1 PLL_A -/
def CLK_SRC_SRC_APP : Field := ⟨0x10000, 0, 1, 0⟩
/-- Table 2.10 (R66): RW, reset 0. 0 FRC, 1 PLL_F -/
def CLK_SRC_SRC_FAB : Field := ⟨0x10000, 1, 1, 0⟩
/-- Table 2.10 (R66): RW, reset 0. 0 FRC, 1 PLL_F second output -/
def CLK_SRC_SRC_SAF : Field := ⟨0x10000, 2, 1, 0⟩
/-- Table 2.11 (R66): RO, reset 0. FRC ready -/
def CLK_STATUS_FRC_OK : Field := ⟨0x10004, 0, 1, 0⟩
/-- Table 2.11 (R66): RO, reset 0. XF ready -/
def CLK_STATUS_XF_OK : Field := ⟨0x10004, 1, 1, 0⟩
/-- Table 2.11 (R66): RO, reset 0. bit 2 PLL_A, bit 3 PLL_F, bit 4 PLL_L locked -/
def CLK_STATUS_LOCK (j : Nat) : Field := ⟨0x10004, 2 + 1 * (j % 3), 1, 0⟩
/-- Table 2.11 (R66): RO, reset 0. a switch is in progress -/
def CLK_STATUS_SWITCHING : Field := ⟨0x10004, 5, 1, 0⟩
/-- Table 2.11 (R66): W1C, reset 0. a switch was refused (R46) -/
def CLK_STATUS_REFUSED : Field := ⟨0x10004, 6, 1, 0⟩
/-- Table 2.11 (R66): W1C, reset 0. a fallback occurred (R47) -/
def CLK_STATUS_FALLBACK : Field := ⟨0x10004, 7, 1, 0⟩
/-- Table 2.11 (R66): RWS, reset 4. PLL_A in 100 MHz steps, 4–32 -/
def CLK_PLL_CFG_PLLA_MULT : Field := ⟨0x10010, 0, 6, 4⟩
/-- Table 2.11 (R66): RW, reset 0. enable PLL_A -/
def CLK_PLL_CFG_PLLA_EN : Field := ⟨0x10010, 8, 1, 0⟩
/-- Table 2.11 (R66): RW, reset 0. enable PLL_F -/
def CLK_PLL_CFG_PLLF_EN : Field := ⟨0x10010, 9, 1, 0⟩
/-- Table 2.11 (R66): RW, reset 1. enable PLL_L -/
def CLK_PLL_CFG_PLLL_EN : Field := ⟨0x10010, 10, 1, 1⟩
/-- Table 3.9 (R91): RW, reset 0. 0 NONE, 1 SLEEP, 2 DEEP, 3 OFF; a write whose NEXT is 4–7 is ignored as a whole, so NEXT and FORCE keep their values, and counts in REFUSED_CNT; P0 only -/
def PWR_NEXT_NEXT : Field := ⟨0x20000, 0, 3, 0⟩
/-- Table 3.9 (R91): RW, reset 0. cancel timed descriptors at entry (Table 3.3) -/
def PWR_NEXT_FORCE : Field := ⟨0x20000, 8, 1, 0⟩
/-- Table 3.9 (R91): RWS, reset 0. idle-timer entry enabled -/
def PWR_CTL_AUTO : Field := ⟨0x20004, 0, 1, 0⟩
/-- Table 3.9 (R91): RWS, reset 1. 1 SLEEP, 2 DEEP; 0 and 3 taken as 1 -/
def PWR_CTL_POLICY : Field := ⟨0x20004, 1, 2, 1⟩
/-- Table 3.9 (R91): RWS, reset 0. fabric and switch held in SLEEP -/
def PWR_CTL_HOLD_FABRIC : Field := ⟨0x20004, 3, 1, 0⟩
/-- Table 3.9 (R91): RWS, reset 0. entry needs PWR_SAF_ACK -/
def PWR_CTL_SAF_CONSENT : Field := ⟨0x20004, 4, 1, 0⟩
/-- Table 3.9 (R91): RWS, reset 0. safety TCM retained in DEEP -/
def PWR_CTL_SAF_RETAIN : Field := ⟨0x20004, 5, 1, 0⟩
/-- Table 3.9 (R91): RWS, reset 20. entry wait (ms), 1–100 -/
def PWR_CTL_ENTRY_WAIT : Field := ⟨0x20004, 8, 8, 20⟩
/-- Table 3.9 (R91): W1S, reset 0. safety partition consent; cleared at entry or abort -/
def PWR_SAF_ACK_ACK : Field := ⟨0x20008, 0, 1, 0⟩
/-- Table 3.9 (R91): RWS, reset 10. core idle time (0.1 µs units), 1–255 -/
def PWR_IDLE_CFG_CORE_IDLE_T : Field := ⟨0x20010, 0, 8, 10⟩
/-- Table 3.9 (R91): RWS, reset 0. SLEEP to DEEP (minutes), 0 never, 1–255 -/
def PWR_IDLE_CFG_DEEP_AFTER : Field := ⟨0x20010, 8, 8, 0⟩
/-- Table 3.9 (R91): RWS, reset 0. DEEP to OFF (4 h units), 0 never, 1–255 -/
def PWR_IDLE_CFG_OFF_AFTER : Field := ⟨0x20010, 16, 8, 0⟩
/-- Table 3.9 (R91): RWS, reset 5. lower limit (ms), 1–255 -/
def PWR_ADAPT_MIN_T : Field := ⟨0x20014, 0, 8, 5⟩
/-- Table 3.9 (R91): RWS, reset 50. upper limit (10 ms units), 1–255; the field keeps the value written, and the limit in use is the larger of MAX_T × 10 ms and MIN_T × 1 ms (R83) -/
def PWR_ADAPT_MAX_T : Field := ⟨0x20014, 8, 8, 50⟩
/-- Table 3.9 (R91): RWS, reset 0. adaptation per R83 -/
def PWR_ADAPT_ADAPT_EN : Field := ⟨0x20014, 16, 1, 0⟩
/-- Table 3.9 (R91): RO, reset 5. DEV_IDLE_T in use (ms) -/
def PWR_ADAPT_CUR_T : Field := ⟨0x20014, 20, 12, 5⟩
/-- Table 3.9 (R91): RW, reset 0. bit n retains SBn in DEEP -/
def PWR_RETAIN_RETAIN : Field := ⟨0x20018, 0, 48, 0⟩
/-- Table 3.9 (R91): RW, reset 0. bit n keeps HS(20+n) in DEEP -/
def PWR_KEEP_OUT_KEEP_HS : Field := ⟨0x20020, 0, 12, 0⟩
/-- Table 3.9 (R91): RW, reset 0. bit n keeps LEDn in DEEP -/
def PWR_KEEP_LED_KEEP_LED : Field := ⟨0x20024, 0, 24, 0⟩
/-- Table 3.9 (R91): RW, reset 0. bank holding the resume record -/
def PWR_RESUME_RESUME_BANK : Field := ⟨0x20028, 0, 6, 0⟩
/-- Table 3.10 (R91): RO, reset 0 (spar). state left by the last wake: 0 RUN, 2 SLEEP, 3 DEEP, 4 OFF, 5 SPAR_ONLY -/
def PWR_STATUS_LAST_STATE : Field := ⟨0x20030, 0, 3, 0⟩
/-- Table 3.10 (R91): RO, reset 0. 0 none, 1 WAKE, 2 ALARM_PAST, 3 BUSY, 4 TIMED_PENDING, 5 SAF_DENY -/
def PWR_STATUS_ABORT : Field := ⟨0x20030, 4, 4, 0⟩
/-- Table 3.10 (R91): RO, reset 0. last DEEP wake took the resume path -/
def PWR_STATUS_RESUMED : Field := ⟨0x20030, 8, 1, 0⟩
/-- Table 3.10 (R91): RC, reset 0. refused PWR_NEXT writes and transitions -/
def PWR_STATUS_REFUSED_CNT : Field := ⟨0x20030, 16, 8, 0⟩
/-- Table 3.10 (R91): RO, reset —. bit d mod 32 of register d / 32 is domain d powered; bits 24–31 of PWR_DOM_STATUS4 reserved -/
def PWR_DOM_STATUS_ON (i0 : Nat) : Field := ⟨0x20034 + 4 * (i0 % 5), 0, 32, 0⟩
/-- Table 26.7 (R553): RO, reset 0. bit f: VBAT(f + 1) present (R545) -/
def PWR_PINS_FEED_OK : Field := ⟨0x20050, 0, 4, 0⟩
/-- Table 26.7 (R553): W1C, reset 0. bit f: VBAT(f + 1) fell below 4.5 V since last cleared -/
def PWR_PINS_FEED_UV : Field := ⟨0x20050, 4, 4, 0⟩
/-- Table 26.7 (R553): RO, reset 0. ratio at the last CD start, 1/4,096 units (R548) -/
def PWR_PINS_POS_RATIO : Field := ⟨0x20050, 8, 12, 0⟩
/-- Table 26.7 (R553): RO, reset 1 (spar). WAKE_N level, 1 high -/
def PWR_PINS_WAKEN_LVL : Field := ⟨0x20050, 20, 1, 1⟩
/-- Table 26.7 (R553): RO, reset 0. precharge tripped at the last OFF or power-on start -/
def PWR_PINS_HOLD_PRE : Field := ⟨0x20050, 21, 1, 0⟩
/-- Table 4.5 (R110): RO, reset 1. WAKE_N, always armed -/
def WAK_ARM_WAKEN : Field := ⟨0x30000, 0, 1, 1⟩
/-- Table 4.5 (R110): RW, reset 0. bit 1 SI, 2 ALARM, 3 CAN, 4 LIN, 5 T1S, 6 CHAIN, 7 WHISTLE, 8 OUTFLT -/
def WAK_ARM_SRC : Field := ⟨0x30000, 1, 8, 0⟩
/-- Table 4.5 (R110): RW, reset 0. [3:0] K0–K3, [9:4] L0–L5, [13:10] S0–S3, [15:14] chain wake C0–C1, [17:16] whistle C0–C1 -/
def WAK_BUS_EN_BUS : Field := ⟨0x30004, 0, 18, 0⟩
/-- Table 4.5 (R110): RW, reset 0. bit n arms SIn -/
def WAK_SI_EN_SI : Field := ⟨0x30008, 0, 48, 0⟩
/-- Table 4.5 (R110): RWS, reset 10. WAKE_N filter (0.1 ms units), 1–255 -/
def WAK_FILT_WAKEN_FILT : Field := ⟨0x30010, 0, 8, 10⟩
/-- Table 4.5 (R110): RWS, reset 2. confirming samples, 1–4 -/
def WAK_FILT_SI_CONFIRM : Field := ⟨0x30010, 8, 3, 2⟩
/-- Table 4.5 (R110): RWS, reset 2. CAN pattern timeout (ms), 1–10 -/
def WAK_FILT_CAN_TWAKE : Field := ⟨0x30010, 12, 4, 2⟩
/-- Table 4.5 (R110): RWS, reset 1. whistle forwarding (R95) -/
def WAK_FILT_WHISTLE_FWD : Field := ⟨0x30010, 16, 1, 1⟩
/-- Table 4.5 (R110): RO, reset 0 (spar). Table 4.3 -/
def WAK_REASON_CODE : Field := ⟨0x30020, 0, 5, 0⟩
/-- Table 4.5 (R110): RO, reset 0 (spar). input, bus or port number -/
def WAK_REASON_INDEX : Field := ⟨0x30020, 8, 6, 0⟩
/-- Table 4.5 (R110): RO, reset 0 (spar). successful attempt, 1–3 -/
def WAK_REASON_ATTEMPT : Field := ⟨0x30020, 16, 2, 0⟩
/-- Table 4.5 (R110): RC, reset 0 (spar). bit c: code c accepted -/
def WAK_SEEN_SEEN : Field := ⟨0x30024, 0, 16, 0⟩
/-- Table 4.5 (R110): RO, reset 0 (spar). failed sequences in the last 3,600 s, 0–8 -/
def WAK_FAIL_SEQ_FAILS : Field := ⟨0x30028, 0, 4, 0⟩
/-- Table 4.5 (R110): RO, reset 0 (spar). R107 -/
def WAK_FAIL_LOCKOUT : Field := ⟨0x30028, 4, 1, 0⟩
/-- Table 4.5 (R110): RO, reset 0 (spar). 0 none, 1 CORE_PGOOD, 2 IO_PGOOD, 3 LINK_PGOOD, 4 FRC -/
def WAK_FAIL_LAST_CAUSE : Field := ⟨0x30028, 8, 4, 0⟩
/-- Table 4.5 (R110): RC, reset 0 (spar). failed attempts, saturating at 255 -/
def WAK_FAIL_TOTAL_FAILS : Field := ⟨0x30028, 16, 8, 0⟩
/-- Table 4.5 (R110): RC, reset 0 (spar). events ignored under LOCKOUT, saturating at 255 -/
def WAK_FAIL_LOCKED_EVENTS : Field := ⟨0x30028, 24, 8, 0⟩
/-- Table 5.8 (R140): RWS, reset 0. 0 2.5, 1 5, 2 10 Gb/s; 3 taken as 2 -/
def CHN_PORT_CFG_RATE0 : Field := ⟨0x40000, 0, 2, 0⟩
/-- Table 5.8 (R140): RWS, reset 0. 0 2.5, 1 5, 2 10 Gb/s; 3 taken as 2 -/
def CHN_PORT_CFG_RATE1 : Field := ⟨0x40000, 2, 2, 0⟩
/-- Table 5.8 (R140): RWS, reset 0. 0 slave, 1 master -/
def CHN_PORT_CFG_ROLE0 : Field := ⟨0x40000, 4, 1, 0⟩
/-- Table 5.8 (R140): RWS, reset 1. 0 slave, 1 master -/
def CHN_PORT_CFG_ROLE1 : Field := ⟨0x40000, 5, 1, 1⟩
/-- Table 5.8 (R140): RWS, reset 1. R128 -/
def CHN_PORT_CFG_EXT_CFG : Field := ⟨0x40000, 8, 1, 1⟩
/-- Table 5.8 (R140): RWS, reset 11. two's complement, −7 to 0 -/
def CHN_PORT_CFG_SYNC_LOG : Field := ⟨0x40000, 12, 4, 11⟩
/-- Table 5.8 (R140): RWS, reset 0x88B5. R114 -/
def CHN_ZCFG_ETYPE : Field := ⟨0x40004, 0, 16, 0x88b5⟩
/-- Table 5.8 (R140): RWS, reset 0. VID of sent Zilek frames -/
def CHN_ZCFG_ZVID : Field := ⟨0x40004, 16, 12, 0⟩
/-- Table 5.8 (R140): RO, reset 62 (spar). chain address -/
def CHN_ADDR_ADDR : Field := ⟨0x40008, 0, 6, 62⟩
/-- Table 5.8 (R140): RWS, reset 0. pinned address, 0 none -/
def CHN_ADDR_PIN : Field := ⟨0x40008, 8, 6, 0⟩
/-- Table 5.8 (R140): RO, reset 0xFF. position code -/
def CHN_ADDR_POS : Field := ⟨0x40008, 16, 8, 255⟩
/-- Table 5.8 (R140): RO, reset part value. UID, word 0 least significant -/
def CHN_UID_UID (i0 : Nat) : Field := ⟨0x40010 + 4 * (i0 % 4), 0, 32, 0⟩
/-- Table 5.8 (R140): RO, reset 0. last cruise -/
def CHN_CRUISE_CRUISE_ID : Field := ⟨0x40020, 0, 16, 0⟩
/-- Table 5.8 (R140): RO, reset 0. 0 C0, 1 C1 -/
def CHN_CRUISE_UPSTREAM : Field := ⟨0x40020, 16, 1, 0⟩
/-- Table 5.8 (R140): RO, reset 0. ring detected -/
def CHN_CRUISE_RING_SEEN : Field := ⟨0x40020, 17, 1, 0⟩
/-- Table 5.8 (R140): RO, reset 0. hop count -/
def CHN_CRUISE_HOPS : Field := ⟨0x40020, 24, 8, 0⟩
/-- Table 5.8 (R140): RO, reset 0. bypass engaged -/
def CHN_BYPASS_ACTIVE : Field := ⟨0x40030, 0, 1, 0⟩
/-- Table 5.8 (R140): RW, reset 0. P0 only -/
def CHN_BYPASS_FORCE : Field := ⟨0x40030, 1, 1, 0⟩
/-- Table 5.8 (R140): W1S, reset 0. R127; reads 1 until the bypass has been left or the write ignored, then 0 -/
def CHN_BYPASS_LEAVE : Field := ⟨0x40030, 2, 1, 0⟩
/-- Table 5.8 (R140): RWS, reset 0. allows MAINT BYPASS_ON -/
def CHN_BYPASS_BYP_MAINT : Field := ⟨0x40030, 3, 1, 0⟩
/-- Table 5.8 (R140): RO, reset 0 (spar). 1 CD lost, 2 SPAR_ONLY, 3 clock, 4 FORCE, 5 MAINT, 6 RATE -/
def CHN_BYPASS_CAUSE : Field := ⟨0x40030, 4, 4, 0⟩
/-- Table 5.8 (R140): RC, reset 0. frames lost at switchover -/
def CHN_BYPASS_BYP_LOST : Field := ⟨0x40030, 8, 16, 0⟩
/-- Table 5.8 (R140): RWS, reset 5. ms, 1–50 -/
def CHN_REMOTE_HB_PERIOD : Field := ⟨0x40040, 0, 6, 5⟩
/-- Table 5.8 (R140): RWS, reset 20. ms, 5–200; taken as 2 × HB_PERIOD if below -/
def CHN_REMOTE_DETACH_T : Field := ⟨0x40040, 8, 8, 20⟩
/-- Table 5.8 (R140): RWS, reset 50. 10 µs units, 5–255 -/
def CHN_REMOTE_READ_TMO : Field := ⟨0x40040, 16, 8, 50⟩
/-- Table 5.8 (R140): RWS, reset 20. 0.1 ms units, 5–255 -/
def CHN_REMOTE_WR_RETX : Field := ⟨0x40040, 24, 8, 20⟩
/-- Table 5.8 (R140): RO, reset 0. bit p: partition p attached -/
def CHN_ATTACH_ATTACHED : Field := ⟨0x40044, 0, 8, 0⟩
/-- Table 5.8 (R140): RWS, reset 0. R131 -/
def CHN_MAINT_READ_AUTH : Field := ⟨0x40050, 0, 1, 0⟩
/-- Table 5.8 (R140): RC, reset 0 (spar). failed authentications, saturating -/
def CHN_MAINT_MAINT_FAIL : Field := ⟨0x40050, 8, 8, 0⟩
/-- Table 5.8 (R140): RO, reset MRAM. last accepted MCTR -/
def CHN_MAINT_CTR_MCTR_LAST : Field := ⟨0x40054, 0, 32, 0⟩
/-- Table 5.8 (R140): RW, reset 0. R129 -/
def CHN_SLEEP_SLEEP_OK : Field := ⟨0x40058, 0, 1, 0⟩
/-- Table 5.8 (R140): RWS, reset 1. R129 -/
def CHN_SLEEP_WAKE_FWD : Field := ⟨0x40058, 1, 1, 1⟩
/-- Table 5.8 (R140): W1S, reset 0. bit 2 C0, bit 3 C1; each bit reads 1 until its whistle has been sent, then 0 -/
def CHN_SLEEP_SEND_WHISTLE : Field := ⟨0x40058, 2, 2, 0⟩
/-- Table 5.8 (R140): RC, reset 0. R116 -/
def CHN_CNT_ZILEK_BAD : Field := ⟨0x40060, 0, 16, 0⟩
/-- Table 5.8 (R140): RC, reset 0. R133, R138 -/
def CHN_CNT_PROXY_DROP : Field := ⟨0x40060, 16, 16, 0⟩
/-- Table 6.11 (R165): RWS, reset 0. physical address of the image -/
def PAR_LAYOUT_ADDR_ADDR : Field := ⟨0x50000, 0, 40, 0⟩
/-- Table 6.11 (R165): W1S, reset 0. R147; reads 1 until the outcome -/
def PAR_LAYOUT_CTL_APPLY : Field := ⟨0x50008, 0, 1, 0⟩
/-- Table 6.11 (R165): RO, reset 0. 0 none, 1 OK, other codes per Table 6.6 -/
def PAR_LAYOUT_STATUS_RESULT : Field := ⟨0x5000c, 0, 4, 0⟩
/-- Table 6.11 (R165): RO, reset 0. first offending byte -/
def PAR_LAYOUT_STATUS_OFFSET : Field := ⟨0x5000c, 8, 24, 0⟩
/-- Table 6.11 (R165): WO, reset —. 0x0000_5EA1 seals (R150) -/
def PAR_SEAL_KEY : Field := ⟨0x50010, 0, 32, 0⟩
/-- Table 6.11 (R165): RO, reset 0. unit sealed -/
def PAR_SEAL_STATUS_SEALED : Field := ⟨0x50014, 0, 1, 0⟩
/-- Table 6.11 (R165): RO, reset 0. 0 none, 1 no layout, 2 pairing, 3 resetting, 4 watchdog feed (R56) -/
def PAR_SEAL_STATUS_SEAL_FAIL : Field := ⟨0x50014, 1, 3, 0⟩
/-- Table 6.11 (R165): RC, reset 0. seal violations, saturating -/
def PAR_SEAL_STATUS_SEAL_VIOL : Field := ⟨0x50014, 16, 16, 0⟩
/-- Table 6.11 (R165): RO, reset 0x0000_0001. 4 bits per partition, p at [4p+3:4p]: 0 UNUSED, 1 STOPPED, 2 RUNNING, 3 DETACHED, 4 RESETTING -/
def PAR_STATE_STATE (j : Nat) : Field := ⟨0x50020, 0 + 4 * (j % 8), 4, (0x1 >>> (0 + 4 * (j % 8))) % 16⟩
/-- Table 6.11 (R165): WO, reset —. partition to reset -/
def PAR_RST_PART : Field := ⟨0x50024, 0, 3, 0⟩
/-- Table 6.11 (R165): WO, reset —. 0x7E57 -/
def PAR_RST_KEY : Field := ⟨0x50024, 16, 16, 0⟩
/-- Table 6.11 (R165): RWS, reset 0. R152 -/
def PAR_RST_CFG_SAF_RESET : Field := ⟨0x50028, 0, 1, 0⟩
/-- Table 6.11 (R165): RC, reset 0. R152, R164 -/
def PAR_RST_CFG_RST_REFUSED : Field := ⟨0x50028, 8, 8, 0⟩
/-- Table 6.11 (R165): RO, reset 0. last WINDOW_FAULT -/
def PAR_FAULT_PART : Field := ⟨0x50030, 0, 3, 0⟩
/-- Table 6.11 (R165): RO, reset 0. last WINDOW_FAULT -/
def PAR_FAULT_ENGINE : Field := ⟨0x50030, 4, 3, 0⟩
/-- Table 6.11 (R165): RO, reset 0. last WINDOW_FAULT -/
def PAR_FAULT_RING : Field := ⟨0x50030, 8, 2, 0⟩
/-- Table 6.11 (R165): RC, reset 0. window faults, saturating -/
def PAR_FAULT_FAULTS : Field := ⟨0x50030, 16, 16, 0⟩
/-- Table 6.11 (R165): RC, reset 0. per partition, R159, R161 -/
def PAR_EVT_CNT_EV_LOST (i0 : Nat) : Field := ⟨0x50040 + 4 * (i0 % 8), 0, 16, 0⟩
/-- Table 6.11 (R165): RC, reset 0. per partition, R159, R161 -/
def PAR_EVT_CNT_EV_SUPPRESSED (i0 : Nat) : Field := ⟨0x50040 + 4 * (i0 % 8), 16, 16, 0⟩
/-- Table 6.11 (R165): RO, reset 0. bit 0 current, 1 energy, 2 heat exceeded -/
def PAR_BUDGET_DERATING (i0 : Nat) (j : Nat) : Field := ⟨0x50060 + 4 * (i0 % 8), 0 + 1 * (j % 3), 1, 0⟩
/-- Table 6.11 (R165): RC, reset 0. per partition -/
def PAR_BUDGET_ESCALATIONS (i0 : Nat) : Field := ⟨0x50060 + 4 * (i0 % 8), 8, 8, 0⟩
/-- Table 25.3 (R539): RWS, reset 0. physical address of the seal set -/
def PAR_SSET_ADDR_ADDR : Field := ⟨0x50080, 0, 40, 0⟩
/-- Table 25.3 (R539): W1S, reset 0. R534; reads 1 until the outcome -/
def PAR_SSET_CTL_APPLY : Field := ⟨0x50088, 0, 1, 0⟩
/-- Table 25.3 (R539): RO, reset 0. 0 none, 1 OK, other codes per Table 25.2 and R535 / 0 none, 1 checks, 2 writes, 3 layout, 4 limp, 5 seal, 6 done -/
def PAR_SSET_STATUS_RESULT : Field := ⟨0x5008c, 0, 4, 0⟩
/-- Table 25.3 (R539): RO, reset 0. 0 none, 1 OK, other codes per Table 25.2 and R535 / 0 none, 1 checks, 2 writes, 3 layout, 4 limp, 5 seal, 6 done -/
def PAR_SSET_STATUS_STAGE : Field := ⟨0x5008c, 4, 4, 0⟩
/-- Table 25.3 (R539): RO, reset 0. first offending byte -/
def PAR_SSET_STATUS_OFFSET : Field := ⟨0x5008c, 8, 24, 0⟩
/-- Table 25.3 (R539): RO, reset 0. SET_ID of the last seal set that reached stage 2 -/
def PAR_SSET_ID_SET_ID : Field := ⟨0x50090, 0, 32, 0⟩
/-- Table 7.9 (R190): RW, reset 0. partition -/
def RNG_SEL_PART : Field := ⟨0x60000, 0, 3, 0⟩
/-- Table 7.9 (R190): RW, reset 0. engine 0–6; 7 taken as 6 -/
def RNG_SEL_ENGINE : Field := ⟨0x60000, 4, 3, 0⟩
/-- Table 7.9 (R190): RW, reset 0. 0–3 submission, 4 completion, 5 event (ENGINE ignored); 6–7 taken as 5 -/
def RNG_SEL_RING : Field := ⟨0x60000, 8, 3, 0⟩
/-- Table 7.9 (R190): RW, reset 0. partition-relative base of the selected ring -/
def RNG_BASE_BASE : Field := ⟨0x60004, 0, 48, 0⟩
/-- Table 7.9 (R190): RW, reset 4. entries 2^n, 4–12 -/
def RNG_CFG_SIZE_LOG2 : Field := ⟨0x6000c, 0, 4, 4⟩
/-- Table 7.9 (R190): RW, reset 0. R183; submission rings only -/
def RNG_CFG_PRIO : Field := ⟨0x6000c, 4, 2, 0⟩
/-- Table 7.9 (R190): RW, reset 0. ring enabled -/
def RNG_CFG_EN : Field := ⟨0x6000c, 8, 1, 0⟩
/-- Table 7.9 (R190): RW, reset 0. shadow block base of partition PART -/
def RNG_SHADOW_SHADOW : Field := ⟨0x60010, 0, 48, 0⟩
/-- Table 7.9 (R190): WO, reset —. 1 ARM_PART, 2 ARM_ENGINE, 3 ENGINE_RESET of the engine in RNG_SEL.ENGINE; 0 ignored -/
def RNG_CMD_OP : Field := ⟨0x60018, 0, 2, 0⟩
/-- Table 7.9 (R190): RO, reset 0. a command is being checked -/
def RNG_STATUS_BUSY : Field := ⟨0x6001c, 0, 1, 0⟩
/-- Table 7.9 (R190): RO, reset 0. 0 none, 1 OK, other codes per Table 7.1 -/
def RNG_STATUS_RESULT : Field := ⟨0x6001c, 4, 4, 0⟩
/-- Table 7.9 (R190): RO, reset 0. [14:12] engine, [10:8] ring of the first failure; bit 11 reserved -/
def RNG_STATUS_FAIL_RING : Field := ⟨0x6001c, 8, 7, 0⟩
/-- Table 7.9 (R190): RO, reset 0. producer index of the selected ring -/
def RNG_IDX_PIDX : Field := ⟨0x60020, 0, 32, 0⟩
/-- Table 7.9 (R190): RO, reset 0. consumer index of the selected ring -/
def RNG_IDX2_CIDX : Field := ⟨0x60024, 0, 32, 0⟩
/-- Table 7.9 (R190): RC, reset 0. R160, R167, R169, R170, R189; saturating -/
def RNG_CNT_DB_BAD : Field := ⟨0x60028, 0, 16, 0⟩
/-- Table 7.9 (R190): RC, reset 0. RING_STALL episodes; saturating -/
def RNG_CNT_STALLS : Field := ⟨0x60028, 16, 16, 0⟩
/-- Table 8.11 (R213): RWS, reset 0. physical address of the image -/
def ACT_LIMP_ADDR_ADDR : Field := ⟨0x70000, 0, 40, 0⟩
/-- Table 8.11 (R213): W1S, reset 0. R207; reads 1 until the outcome -/
def ACT_LIMP_CTL_STAGE : Field := ⟨0x70008, 0, 1, 0⟩
/-- Table 8.11 (R213): RO, reset 0. 0 none, 1 OK, 9 STALE, other codes per Table 8.9 -/
def ACT_LIMP_STATUS_RESULT : Field := ⟨0x7000c, 0, 4, 0⟩
/-- Table 8.11 (R213): RO, reset 0. first offending byte -/
def ACT_LIMP_STATUS_OFFSET : Field := ⟨0x7000c, 8, 24, 0⟩
/-- Table 8.11 (R213): RO, reset MRAM. active copy -/
def ACT_LIMP_INFO_COPY : Field := ⟨0x70010, 0, 1, 0⟩
/-- Table 8.11 (R213): RO, reset MRAM. COUNT of the active table -/
def ACT_LIMP_INFO_ENTRIES : Field := ⟨0x70010, 8, 8, 0⟩
/-- Table 8.11 (R213): RO, reset MRAM. commits, modulo 2^16 -/
def ACT_LIMP_INFO_LIMP_SEQ : Field := ⟨0x70010, 16, 16, 0⟩
/-- Table 8.11 (R213): RO, reset MRAM. of the active table -/
def ACT_LIMP_ID_TABLE_ID : Field := ⟨0x70014, 0, 32, 0⟩
/-- Table 8.11 (R213): RO, reset MRAM. committed pairing of the active table, in the layout of HB_PAIR (R207) -/
def ACT_LIMP_PAIR_PAIR : Field := ⟨0x70018, 0, 32, 0⟩
/-- Table 8.11 (R213): RWS, reset 0. bit n: HSn open to the safety lane -/
def ACT_SAFE_MAP0_HS : Field := ⟨0x70020, 0, 32, 0⟩
/-- Table 8.11 (R213): RWS, reset 0. as HS -/
def ACT_SAFE_MAP1_HB : Field := ⟨0x70024, 0, 8, 0⟩
/-- Table 8.11 (R213): RWS, reset 0. as HS -/
def ACT_SAFE_MAP1_SV : Field := ⟨0x70024, 8, 8, 0⟩
/-- Table 8.11 (R213): RWS, reset 0. as HS -/
def ACT_SAFE_MAP1_FIO : Field := ⟨0x70024, 16, 16, 0⟩
/-- Table 8.11 (R213): RWS, reset 0. as HS -/
def ACT_SAFE_MAP2_LED : Field := ⟨0x70028, 0, 24, 0⟩
/-- Table 8.11 (R213): RC, reset 0. safety-lane actions accepted -/
def ACT_SAFE_STATUS_SL_COUNT : Field := ⟨0x70030, 0, 16, 0⟩
/-- Table 8.11 (R213): RO, reset 0. channels now held -/
def ACT_SAFE_STATUS_SL_HELD : Field := ⟨0x70030, 16, 8, 0⟩
/-- Table 8.11 (R213): RO, reset 0. HS channel numbers, partition, claim in force -/
def ACT_CLAIM_LEAD (i0 : Nat) : Field := ⟨0x70040 + 4 * (i0 % 8), 0, 5, 0⟩
/-- Table 8.11 (R213): RO, reset 0. HS channel numbers, partition, claim in force -/
def ACT_CLAIM_FOLLOWER (i0 : Nat) : Field := ⟨0x70040 + 4 * (i0 % 8), 8, 5, 0⟩
/-- Table 8.11 (R213): RO, reset 0. HS channel numbers, partition, claim in force -/
def ACT_CLAIM_CLAIMANT (i0 : Nat) : Field := ⟨0x70040 + 4 * (i0 % 8), 16, 3, 0⟩
/-- Table 8.11 (R213): RO, reset 0. HS channel numbers, partition, claim in force -/
def ACT_CLAIM_VALID (i0 : Nat) : Field := ⟨0x70040 + 4 * (i0 % 8), 31, 1, 0⟩
/-- Table 8.11 (R213): RC, reset 0. SAFETY_HELD and LIMP_HELD completions -/
def ACT_CNT_HELD_SAFE : Field := ⟨0x70060, 0, 16, 0⟩
/-- Table 8.11 (R213): RC, reset 0. SAFETY_HELD and LIMP_HELD completions -/
def ACT_CNT_HELD_LIMP : Field := ⟨0x70060, 16, 16, 0⟩
/-- Table 8.11 (R213): RC, reset 0. Table 8.4 refusals -/
def ACT_CNT2_CLAIM_REFUSED : Field := ⟨0x70064, 0, 16, 0⟩
/-- Table 9.2 (R231): RWS, reset 16. threshold = class minimum + LATCH × class step (Table 9.1); the reset value gives 20 A, 9 A and 3.5 A -/
def HS_CFG_LATCH (i0 : Nat) : Field := ⟨0x80000 + 8 * (i0 % 32), 0, 8, 16⟩
/-- Table 9.2 (R231): RWS, reset 0. inrush window in 5 ms units, 0 none -/
def HS_CFG_INRUSH_T (i0 : Nat) : Field := ⟨0x80000 + 8 * (i0 % 32), 8, 4, 0⟩
/-- Table 9.2 (R231): RWS, reset 1. 0 ×1.5, 1 ×2, 2 ×3, 3 ×4 -/
def HS_CFG_INRUSH_MULT (i0 : Nat) : Field := ⟨0x80000 + 8 * (i0 % 32), 12, 2, 1⟩
/-- Table 9.2 (R231): RWS, reset 0. wire class (R227) -/
def HS_CFG_WIRE (i0 : Nat) : Field := ⟨0x80000 + 8 * (i0 % 32), 16, 4, 0⟩
/-- Table 9.2 (R231): RWS, reset 0. 0: e = 2; 1: e = 1 -/
def HS_CFG_COMP_EXP (i0 : Nat) : Field := ⟨0x80000 + 8 * (i0 % 32), 20, 1, 0⟩
/-- Table 9.2 (R231): RWS, reset 1. open-load evaluation -/
def HS_CFG_DIAG_EN (i0 : Nat) : Field := ⟨0x80000 + 8 * (i0 % 32), 21, 1, 1⟩
/-- Table 9.2 (R231): RWS, reset 0. 0 none, 1–14 retries, 15 without limit -/
def HS_CFG_RETRY_N (i0 : Nat) : Field := ⟨0x80000 + 8 * (i0 % 32), 24, 4, 0⟩
/-- Table 9.2 (R231): RWS, reset 0. base wait 10 × 2^RETRY_T ms -/
def HS_CFG_RETRY_T (i0 : Nat) : Field := ⟨0x80000 + 8 * (i0 % 32), 28, 3, 0⟩
/-- Table 9.2 (R231): RWS, reset 0. R224 -/
def HS_CFG_THERM_AUTO (i0 : Nat) : Field := ⟨0x80000 + 8 * (i0 % 32), 31, 1, 0⟩
/-- Table 9.2 (R231): RWS, reset 20. threshold in class steps from 0 mA; the reset value gives 200, 100 and 20 mA -/
def HS_DIAG_OL_THR (i0 : Nat) : Field := ⟨0x80004 + 8 * (i0 % 32), 0, 10, 20⟩
/-- Table 9.2 (R231): RWS, reset 5. debounce in 2 ms units, 1–32 -/
def HS_DIAG_OL_DEB (i0 : Nat) : Field := ⟨0x80004 + 8 * (i0 % 32), 10, 6, 5⟩
/-- Table 9.2 (R231): RWS, reset 140. warning temperature (°C), 100–160 -/
def HS_DIAG_TWARN (i0 : Nat) : Field := ⟨0x80004 + 8 * (i0 % 32), 16, 8, 140⟩
/-- Table 9.3 (R231): RO, reset 0. mean on-state current over the last update (mA) -/
def HS_MEAS_CURRENT (i0 : Nat) : Field := ⟨0x80100 + 8 * (i0 % 32), 0, 16, 0⟩
/-- Table 9.3 (R231): RO, reset 0. temperature, two's complement, 0.5 °C units -/
def HS_MEAS_TEMP (i0 : Nat) : Field := ⟨0x80100 + 8 * (i0 % 32), 16, 10, 0⟩
/-- Table 9.3 (R231): RO, reset 0. codes 0–9 of Table 8.3 -/
def HS_STATE_CHSTATE (i0 : Nat) : Field := ⟨0x80104 + 8 * (i0 % 32), 0, 4, 0⟩
/-- Table 9.3 (R231): RO, reset 0. present conditions -/
def HS_STATE_LATCHED (i0 : Nat) : Field := ⟨0x80104 + 8 * (i0 % 32), 4, 1, 0⟩
/-- Table 9.3 (R231): RO, reset 0. present conditions -/
def HS_STATE_THERM_OFF (i0 : Nat) : Field := ⟨0x80104 + 8 * (i0 % 32), 5, 1, 0⟩
/-- Table 9.3 (R231): RO, reset 0. present conditions -/
def HS_STATE_OPEN (i0 : Nat) : Field := ⟨0x80104 + 8 * (i0 % 32), 6, 1, 0⟩
/-- Table 9.3 (R231): RO, reset 0. present conditions -/
def HS_STATE_TWARN_ON (i0 : Nat) : Field := ⟨0x80104 + 8 * (i0 % 32), 7, 1, 0⟩
/-- Table 9.3 (R231): RO, reset 0. present conditions -/
def HS_STATE_INRUSH (i0 : Nat) : Field := ⟨0x80104 + 8 * (i0 % 32), 8, 1, 0⟩
/-- Table 9.3 (R231): RO, reset 0. retries since the count last returned to 0 -/
def HS_STATE_RETRIES (i0 : Nat) : Field := ⟨0x80104 + 8 * (i0 % 32), 12, 4, 0⟩
/-- Table 9.3 (R231): RO, reset 0. present ceiling (%) -/
def HS_STATE_APPLIED (i0 : Nat) : Field := ⟨0x80104 + 8 * (i0 % 32), 16, 8, 0⟩
/-- Table 9.3 (R231): RO, reset 0 (spar). ΔT as a percentage of DTMAX, 0–100 -/
def HS_STATE_WIRE_PCT (i0 : Nat) : Field := ⟨0x80104 + 8 * (i0 % 32), 24, 8, 0⟩
/-- Table 9.4 (R231): RWS, reset 0. 0.001 K/A² units -/
def HS_WIRE_R_K_HEAT (i0 : Nat) : Field := ⟨0x80208 + 8 * (i0 % 15), 0, 16, 0⟩
/-- Table 9.4 (R231): RWS, reset 1. 0.1 s units, 1–6,000 -/
def HS_WIRE_R_TAU (i0 : Nat) : Field := ⟨0x80208 + 8 * (i0 % 15), 16, 16, 1⟩
/-- Table 9.4 (R231): RWS, reset 0. 0.5 K units; 0 no model -/
def HS_WIRE_I_DTMAX (i0 : Nat) : Field := ⟨0x8020c + 8 * (i0 % 15), 0, 8, 0⟩
/-- Table 9.5 (R231): RWS, reset 0. 0.01 % units, 0–10,000 -/
def HS_PROF_SEG_DUTY (i0 : Nat) (i1 : Nat) : Field := ⟨0x80400 + 32 * (i0 % 32) + 4 * (i1 % 8), 0, 14, 0⟩
/-- Table 9.5 (R231): RWS, reset 0. R220 -/
def HS_PROF_SEG_RAMP (i0 : Nat) (i1 : Nat) : Field := ⟨0x80400 + 32 * (i0 % 32) + 4 * (i1 % 8), 14, 1, 0⟩
/-- Table 9.5 (R231): RWS, reset 0. R220 -/
def HS_PROF_SEG_END (i0 : Nat) (i1 : Nat) : Field := ⟨0x80400 + 32 * (i0 % 32) + 4 * (i1 % 8), 15, 1, 0⟩
/-- Table 9.5 (R231): RWS, reset 0. 0–65,535 -/
def HS_PROF_SEG_TIME_MS (i0 : Nat) (i1 : Nat) : Field := ⟨0x80400 + 32 * (i0 % 32) + 4 * (i1 % 8), 16, 16, 0⟩
/-- Table 9.5 (R231): RWS, reset 100. Hz -/
def HS_PROF_CFG_FREQ (i0 : Nat) : Field := ⟨0x80800 + 4 * (i0 % 32), 0, 12, 100⟩
/-- Table 9.5 (R231): RWS, reset 0. R218 -/
def HS_PROF_CFG_BATT_COMP (i0 : Nat) : Field := ⟨0x80800 + 4 * (i0 % 32), 12, 1, 0⟩
/-- Table 9.5 (R231): RC, reset 0. all channels, saturating -/
def HS_CNT_LATCHES : Field := ⟨0x80900, 0, 16, 0⟩
/-- Table 9.5 (R231): RC, reset 0. all channels, saturating -/
def HS_CNT_THERM_OFFS : Field := ⟨0x80900, 16, 16, 0⟩
/-- Table 9.5 (R231): RC, reset 0. all channels, saturating -/
def HS_CNT2_OL_EVENTS : Field := ⟨0x80904, 0, 16, 0⟩
/-- Table 9.5 (R231): RC, reset 0. all channels, saturating -/
def HS_CNT2_RETRIES_ALL : Field := ⟨0x80904, 16, 16, 0⟩
/-- Table 9.4 (R231): RWS, reset 260. 0.05 V units, 160–640 -/
def HS_COMP_VREF : Field := ⟨0x80908, 0, 10, 260⟩
/-- Table 10.3 (R251): RWS, reset 0. channel n pairs with PARTNER (R233) -/
def HB_PAIR_PAIRED (j : Nat) : Field := ⟨0x90000, 3 + 4 * (j % 8), 1, 0⟩
/-- Table 10.3 (R251): RWS, reset 0. channel n pairs with PARTNER (R233) -/
def HB_PAIR_PARTNER (j : Nat) : Field := ⟨0x90000, 0 + 4 * (j % 8), 3, 0⟩
/-- Table 10.3 (R251): RWS, reset 176. threshold 4 + 0.125 × LATCH A, 0–208 (4–30 A, Table 10.1); reset gives 26 A -/
def HB_CFG_LATCH (i0 : Nat) : Field := ⟨0x90040 + 32 * (i0 % 8), 0, 8, 176⟩
/-- Table 10.3 (R251): RWS, reset 10. 50 ns units, 2–40 -/
def HB_CFG_DEAD (i0 : Nat) : Field := ⟨0x90040 + 32 * (i0 % 8), 8, 6, 10⟩
/-- Table 10.3 (R251): RWS, reset 0. 0 SLOW_LOW, 1 SLOW_HIGH, 2 FAST; 3 taken as 0 -/
def HB_CFG_DECAY (i0 : Nat) : Field := ⟨0x90040 + 32 * (i0 % 8), 14, 2, 0⟩
/-- Table 10.3 (R251): RWS, reset 0. wire class of Table 9.4 -/
def HB_CFG_WIRE (i0 : Nat) : Field := ⟨0x90040 + 32 * (i0 % 8), 16, 4, 0⟩
/-- Table 10.3 (R251): RWS, reset 10. ms, 1–100 -/
def HB_CFG_DIR_GAP (i0 : Nat) : Field := ⟨0x90040 + 32 * (i0 % 8), 20, 8, 10⟩
/-- Table 10.3 (R251): RWS, reset 0. 0 DRIVE_A, 1 DRIVE_B; R240 -/
def HB_CFG_PINCH_DIR (i0 : Nat) : Field := ⟨0x90040 + 32 * (i0 % 8), 28, 1, 0⟩
/-- Table 10.3 (R251): RWS, reset 0. 0 DRIVE_A, 1 DRIVE_B; R240 -/
def HB_CFG_NORM_B (i0 : Nat) : Field := ⟨0x90040 + 32 * (i0 % 8), 29, 1, 0⟩
/-- Table 10.3 (R251): RWS, reset 20. 10 mA units, 1–255 -/
def HB_DIAG_OL_THR (i0 : Nat) : Field := ⟨0x90044 + 32 * (i0 % 8), 0, 8, 20⟩
/-- Table 10.3 (R251): RWS, reset 5. 2 ms units, 1–32 -/
def HB_DIAG_OL_DEB (i0 : Nat) : Field := ⟨0x90044 + 32 * (i0 % 8), 8, 6, 5⟩
/-- Table 10.3 (R251): RWS, reset 140. °C, 100–160 -/
def HB_DIAG_TWARN (i0 : Nat) : Field := ⟨0x90044 + 32 * (i0 % 8), 16, 8, 140⟩
/-- Table 10.3 (R251): RWS, reset 20. Hz, 5–1,000 -/
def HB_RIP_RIP_FMIN (i0 : Nat) : Field := ⟨0x90048 + 32 * (i0 % 8), 0, 10, 20⟩
/-- Table 10.3 (R251): RWS, reset 4,000. Hz, 100–10,000 -/
def HB_RIP_RIP_FMAX (i0 : Nat) : Field := ⟨0x90048 + 32 * (i0 % 8), 10, 14, 4000⟩
/-- Table 10.3 (R251): RWS, reset 8. %, 1–50 -/
def HB_RIP_RIP_AMP (i0 : Nat) : Field := ⟨0x90048 + 32 * (i0 % 8), 24, 6, 8⟩
/-- Table 10.3 (R251): RWS, reset 50. 2 ms units, 5–250 -/
def HB_STALL_STALL_T (i0 : Nat) : Field := ⟨0x9004c + 32 * (i0 % 8), 0, 8, 50⟩
/-- Table 10.3 (R251): RWS, reset 40. 0.1 A units; 0 current ignored -/
def HB_STALL_STALL_I (i0 : Nat) : Field := ⟨0x9004c + 32 * (i0 % 8), 8, 8, 40⟩
/-- Table 10.3 (R251): RWS, reset 0. ripples -/
def HB_STALL_STOP_LEAD (i0 : Nat) : Field := ⟨0x9004c + 32 * (i0 % 8), 16, 8, 0⟩
/-- Table 10.3 (R251): RWS, reset 2. 0 5, 1 10, 2 20, 3 40 ksps -/
def HB_STALL_SNS_RATE (i0 : Nat) : Field := ⟨0x9004c + 32 * (i0 % 8), 24, 2, 2⟩
/-- Table 10.3 (R251): RWS, reset 8,000. 0.01 % units, 1,000–10,000 -/
def HB_REV_REV_DUTY (i0 : Nat) : Field := ⟨0x90050 + 32 * (i0 % 8), 0, 14, 8000⟩
/-- Table 10.3 (R251): RWS, reset 100. ripples; 0 time only -/
def HB_REV_REV_RIP (i0 : Nat) : Field := ⟨0x90050 + 32 * (i0 % 8), 16, 10, 100⟩
/-- Table 10.3 (R251): RWS, reset 300. ms, 10–2,000 -/
def HB_REV2_REV_MS (i0 : Nat) : Field := ⟨0x90054 + 32 * (i0 % 8), 0, 11, 300⟩
/-- Table 10.4 (R251): RO, reset 0 (spar). signed ripple count -/
def HB_POS_POS (i0 : Nat) : Field := ⟨0x90058 + 32 * (i0 % 8), 0, 32, 0⟩
/-- Table 10.5 (R251): RO, reset 0. Table 8.3 codes -/
def HB_STATE_CHSTATE (i0 : Nat) : Field := ⟨0x9005c + 32 * (i0 % 8), 0, 4, 0⟩
/-- Table 10.5 (R251): RO, reset 0. present conditions -/
def HB_STATE_LATCHED (i0 : Nat) : Field := ⟨0x9005c + 32 * (i0 % 8), 4, 1, 0⟩
/-- Table 10.5 (R251): RO, reset 0. present conditions -/
def HB_STATE_THERM_OFF (i0 : Nat) : Field := ⟨0x9005c + 32 * (i0 % 8), 5, 1, 0⟩
/-- Table 10.5 (R251): RO, reset 0. present conditions -/
def HB_STATE_OPEN (i0 : Nat) : Field := ⟨0x9005c + 32 * (i0 % 8), 6, 1, 0⟩
/-- Table 10.5 (R251): RO, reset 0. present conditions -/
def HB_STATE_STALL (i0 : Nat) : Field := ⟨0x9005c + 32 * (i0 % 8), 7, 1, 0⟩
/-- Table 10.5 (R251): RO, reset 0 (spar). R240 -/
def HB_STATE_POS_VALID (i0 : Nat) : Field := ⟨0x9005c + 32 * (i0 % 8), 8, 1, 0⟩
/-- Table 10.5 (R251): RO, reset 0. 0 none, 1 BRAKE, 2 REVERSE, 3 FINAL -/
def HB_STATE_REV (i0 : Nat) : Field := ⟨0x9005c + 32 * (i0 % 8), 9, 2, 0⟩
/-- Table 10.5 (R251): RO, reset 0. 0 running or none, 1 RUN_MS, 2 position, 3 stall, 4 superseded, 5 safety lane, 6 protection, 7 orphan, limp or control die lost -/
def HB_STATE_END_CAUSE (i0 : Nat) : Field := ⟨0x9005c + 32 * (i0 % 8), 12, 3, 0⟩
/-- Table 10.5 (R251): RO, reset 0. present ceiling (%) -/
def HB_STATE_APPLIED (i0 : Nat) : Field := ⟨0x9005c + 32 * (i0 % 8), 16, 8, 0⟩
/-- Table 10.4 (R251): RO, reset 0. signed 1 ms mean (mA) -/
def HB_MEAS_CURRENT (i0 : Nat) : Field := ⟨0x90200 + 8 * (i0 % 8), 0, 16, 0⟩
/-- Table 10.4 (R251): RO, reset 0. hotter switch, two's complement, 0.5 °C units -/
def HB_MEAS_TEMP (i0 : Nat) : Field := ⟨0x90200 + 8 * (i0 % 8), 16, 10, 0⟩
/-- Table 10.4 (R251): RO, reset 0. present ripple frequency (Hz) -/
def HB_RIPF_RIPFREQ (i0 : Nat) : Field := ⟨0x90204 + 8 * (i0 % 8), 0, 16, 0⟩
/-- Table 10.5 (R251): RC, reset 0. all bridges, saturating -/
def HB_CNT_LATCHES : Field := ⟨0x90300, 0, 16, 0⟩
/-- Table 10.5 (R251): RC, reset 0. all bridges, saturating -/
def HB_CNT_THERM_OFFS : Field := ⟨0x90300, 16, 16, 0⟩
/-- Table 10.5 (R251): RC, reset 0. saturating -/
def HB_CNT2_STALLS : Field := ⟨0x90304, 0, 16, 0⟩
/-- Table 10.5 (R251): RC, reset 0. saturating -/
def HB_CNT2_REVERSALS : Field := ⟨0x90304, 16, 16, 0⟩
/-- Table 10.5 (R251): RC, reset 0. saturating -/
def HB_CNT3_RIP_FILLED : Field := ⟨0x90308, 0, 16, 0⟩
/-- Table 10.5 (R251): RC, reset 0. saturating -/
def HB_CNT3_RIP_REJECTED : Field := ⟨0x90308, 16, 16, 0⟩
/-- Table 11.4 (R269): RWS, reset 0. bit k pairs SV(2k), SV(2k+1) -/
def SV_PAIR_PAIR : Field := ⟨0xa0000, 0, 4, 0⟩
/-- Table 11.4 (R269): RWS, reset 96. 1 + 0.0625 × LATCH A, 0–144; reset gives 7 A -/
def SV_CFG_LATCH (i0 : Nat) : Field := ⟨0xa0040 + 16 * (i0 % 8), 0, 8, 96⟩
/-- Table 11.4 (R269): RWS, reset 1. Table 11.2; 3 taken as 2 -/
def SV_CFG_OFF_DECAY (i0 : Nat) : Field := ⟨0xa0040 + 16 * (i0 % 8), 8, 2, 1⟩
/-- Table 11.4 (R269): RWS, reset 0. 0 40 V, 1 55 V -/
def SV_CFG_CLAMP_V (i0 : Nat) : Field := ⟨0xa0040 + 16 * (i0 % 8), 10, 1, 0⟩
/-- Table 11.4 (R269): RWS, reset 0. R262 -/
def SV_CFG_KERF_ALL (i0 : Nat) : Field := ⟨0xa0040 + 16 * (i0 % 8), 11, 1, 0⟩
/-- Table 11.4 (R269): RWS, reset 2. 0 5, 1 10, 2 20, 3 40 kHz -/
def SV_CFG_FREQ (i0 : Nat) : Field := ⟨0xa0040 + 16 * (i0 % 8), 12, 2, 2⟩
/-- Table 11.4 (R269): RWS, reset 0. wire class of Table 9.4 -/
def SV_CFG_WIRE (i0 : Nat) : Field := ⟨0xa0040 + 16 * (i0 % 8), 16, 4, 0⟩
/-- Table 11.4 (R269): RWS, reset 0. 10 mA units, 0–250 -/
def SV_CFG_MIN_HOLD (i0 : Nat) : Field := ⟨0xa0040 + 16 * (i0 % 8), 20, 8, 0⟩
/-- Table 11.4 (R269): RWS, reset 10. 5 mA units, 1–255 -/
def SV_DIAG_OL_THR (i0 : Nat) : Field := ⟨0xa0044 + 16 * (i0 % 8), 0, 8, 10⟩
/-- Table 11.4 (R269): RWS, reset 4. 0.5 ms units, 1–63 -/
def SV_DIAG_OL_DEB (i0 : Nat) : Field := ⟨0xa0044 + 16 * (i0 % 8), 8, 6, 4⟩
/-- Table 11.4 (R269): RWS, reset 140. °C, 100–160 -/
def SV_DIAG_TWARN (i0 : Nat) : Field := ⟨0xa0044 + 16 * (i0 % 8), 16, 8, 140⟩
/-- Table 11.4 (R269): RWS, reset 5. 0.1 ms units; END taken as START + 1 if not above it -/
def SV_KERF_KWIN_START (i0 : Nat) : Field := ⟨0xa0048 + 16 * (i0 % 8), 0, 10, 5⟩
/-- Table 11.4 (R269): RWS, reset 200. 0.1 ms units; END taken as START + 1 if not above it -/
def SV_KERF_KWIN_END (i0 : Nat) : Field := ⟨0xa0048 + 16 * (i0 % 8), 10, 10, 200⟩
/-- Table 11.4 (R269): RWS, reset 20. 10 mA units, 1–63 -/
def SV_KERF_KDEPTH (i0 : Nat) : Field := ⟨0xa0048 + 16 * (i0 % 8), 20, 6, 20⟩
/-- Table 11.4 (R269): RWS, reset 10. 20 mA/ms units, 1–63 -/
def SV_KERF_KSLOPE (i0 : Nat) : Field := ⟨0xa0048 + 16 * (i0 % 8), 26, 6, 10⟩
/-- Table 11.4 (R269): RWS, reset 0. learned profile -/
def SV_LEARN_PROF (i0 : Nat) : Field := ⟨0xa004c + 16 * (i0 % 8), 0, 5, 0⟩
/-- Table 11.4 (R269): RWS, reset 0. R263 -/
def SV_LEARN_LEARN_EN (i0 : Nat) : Field := ⟨0xa004c + 16 * (i0 % 8), 8, 1, 0⟩
/-- Table 11.4 (R269): RWS, reset 20. 0.1 ms units, 0–127 -/
def SV_LEARN_LMARGIN (i0 : Nat) : Field := ⟨0xa004c + 16 * (i0 % 8), 9, 7, 20⟩
/-- Table 11.4 (R269): RWS, reset 50. %, 20–100 -/
def SV_LEARN_LMIN_PCT (i0 : Nat) : Field := ⟨0xa004c + 16 * (i0 % 8), 16, 7, 50⟩
/-- Table 11.5 (R269): RO, reset 0. 1 ms mean (mA); pair sum on the master -/
def SV_MEAS_CURRENT (i0 : Nat) : Field := ⟨0xa0100 + 16 * (i0 % 8), 0, 16, 0⟩
/-- Table 11.5 (R269): RO, reset 0. hotter member, two's complement, 0.5 °C units -/
def SV_MEAS_TEMP (i0 : Nat) : Field := ⟨0xa0100 + 16 * (i0 % 8), 16, 10, 0⟩
/-- Table 11.5 (R269): RO, reset 0. Table 8.3 codes -/
def SV_STATE_CHSTATE (i0 : Nat) : Field := ⟨0xa0104 + 16 * (i0 % 8), 0, 4, 0⟩
/-- Table 11.5 (R269): RO, reset 0. present conditions -/
def SV_STATE_LATCHED (i0 : Nat) : Field := ⟨0xa0104 + 16 * (i0 % 8), 4, 1, 0⟩
/-- Table 11.5 (R269): RO, reset 0. present conditions -/
def SV_STATE_THERM_OFF (i0 : Nat) : Field := ⟨0xa0104 + 16 * (i0 % 8), 5, 1, 0⟩
/-- Table 11.5 (R269): RO, reset 0. present conditions -/
def SV_STATE_OPEN (i0 : Nat) : Field := ⟨0xa0104 + 16 * (i0 % 8), 6, 1, 0⟩
/-- Table 11.5 (R269): RO, reset 0. present conditions -/
def SV_STATE_TWARN_ON (i0 : Nat) : Field := ⟨0xa0104 + 16 * (i0 % 8), 7, 1, 0⟩
/-- Table 11.5 (R269): RO, reset 0. running segment -/
def SV_STATE_SEG (i0 : Nat) : Field := ⟨0xa0104 + 16 * (i0 % 8), 8, 3, 0⟩
/-- Table 11.5 (R269): RO, reset 0. Table 11.3 -/
def SV_STATE_KERF_RES (i0 : Nat) : Field := ⟨0xa0104 + 16 * (i0 % 8), 12, 3, 0⟩
/-- Table 11.5 (R269): RO, reset 0. present ceiling (%) -/
def SV_STATE_APPLIED (i0 : Nat) : Field := ⟨0xa0104 + 16 * (i0 % 8), 16, 8, 0⟩
/-- Table 11.5 (R269): RO, reset 0. t_end (10 µs units) / depth (mA) -/
def SV_KRES_KERF_T (i0 : Nat) : Field := ⟨0xa0108 + 16 * (i0 % 8), 0, 16, 0⟩
/-- Table 11.5 (R269): RO, reset 0. t_end (10 µs units) / depth (mA) -/
def SV_KRES_DEPTH (i0 : Nat) : Field := ⟨0xa0108 + 16 * (i0 % 8), 16, 16, 0⟩
/-- Table 11.5 (R269): RO, reset 0 (spar). 10 µs units -/
def SV_LSTATE_T_LEARN (i0 : Nat) : Field := ⟨0xa010c + 16 * (i0 % 8), 0, 16, 0⟩
/-- Table 11.5 (R269): RO, reset 0 (spar). R263 -/
def SV_LSTATE_LCOUNT (i0 : Nat) : Field := ⟨0xa010c + 16 * (i0 % 8), 16, 8, 0⟩
/-- Table 11.5 (R269): RO, reset 0 (spar). R263 -/
def SV_LSTATE_BACKOFF (i0 : Nat) : Field := ⟨0xa010c + 16 * (i0 % 8), 24, 3, 0⟩
/-- Table 11.5 (R269): RO, reset 0 (spar). R263 -/
def SV_LSTATE_LVALID (i0 : Nat) : Field := ⟨0xa010c + 16 * (i0 % 8), 27, 1, 0⟩
/-- Table 11.6 (R269): RWS, reset 0. target (mA), 0–12,000 -/
def SV_PROF_SEG0_CURRENT (i0 : Nat) (i1 : Nat) : Field := ⟨0xa0400 + 64 * (i0 % 32) + 8 * (i1 % 8), 0, 14, 0⟩
/-- Table 11.6 (R269): RWS, reset 0. 0 REGULATE, 1 RAMP, 2 FULL, 3 reserved -/
def SV_PROF_SEG0_MODE (i0 : Nat) (i1 : Nat) : Field := ⟨0xa0400 + 64 * (i0 % 32) + 8 * (i1 % 8), 14, 2, 0⟩
/-- Table 11.6 (R269): RWS, reset 0. 0.1 ms units -/
def SV_PROF_SEG0_TIME (i0 : Nat) (i1 : Nat) : Field := ⟨0xa0400 + 64 * (i0 % 32) + 8 * (i1 % 8), 16, 16, 0⟩
/-- Table 11.6 (R269): RWS, reset 0. Table 11.2 -/
def SV_PROF_SEG1_DECAY (i0 : Nat) (i1 : Nat) : Field := ⟨0xa0404 + 64 * (i0 % 32) + 8 * (i1 % 8), 0, 2, 0⟩
/-- Table 11.6 (R269): RWS, reset 0. R256–R263 -/
def SV_PROF_SEG1_KERF (i0 : Nat) (i1 : Nat) : Field := ⟨0xa0404 + 64 * (i0 % 32) + 8 * (i1 % 8), 2, 1, 0⟩
/-- Table 11.6 (R269): RWS, reset 0. R256–R263 -/
def SV_PROF_SEG1_LEARN (i0 : Nat) (i1 : Nat) : Field := ⟨0xa0404 + 64 * (i0 % 32) + 8 * (i1 % 8), 3, 1, 0⟩
/-- Table 11.6 (R269): RWS, reset 0. R256–R263 -/
def SV_PROF_SEG1_END (i0 : Nat) (i1 : Nat) : Field := ⟨0xa0404 + 64 * (i0 % 32) + 8 * (i1 % 8), 4, 1, 0⟩
/-- Table 11.5 (R269): RC, reset 0. all channels, saturating -/
def SV_CNT_LATCHES : Field := ⟨0xa0c00, 0, 16, 0⟩
/-- Table 11.5 (R269): RC, reset 0. all channels, saturating -/
def SV_CNT_THERM_OFFS : Field := ⟨0xa0c00, 16, 16, 0⟩
/-- Table 11.5 (R269): RC, reset 0. results 2–6; resets -/
def SV_CNT2_KERF_MISS : Field := ⟨0xa0c04, 0, 16, 0⟩
/-- Table 11.5 (R269): RC, reset 0. results 2–6; resets -/
def SV_CNT2_LEARN_RESETS : Field := ⟨0xa0c04, 16, 16, 0⟩
/-- Table 12.6 (R292): RWS, reset 100. 0.1 mA units, 20–800 -/
def LED_CFG_DEF_LEVEL (i0 : Nat) : Field := ⟨0xb0000 + 4 * (i0 % 24), 0, 10, 100⟩
/-- Table 12.6 (R292): RWS, reset 0. 0 DETECT, 1 PLAIN -/
def LED_CFG_FMODE (i0 : Nat) : Field := ⟨0xb0000 + 4 * (i0 % 24), 10, 1, 0⟩
/-- Table 12.6 (R292): RWS, reset 5. 2 ms units, 1–31 -/
def LED_CFG_OL_DEB (i0 : Nat) : Field := ⟨0xb0000 + 4 * (i0 % 24), 12, 5, 5⟩
/-- Table 12.6 (R292): RWS, reset 0. 0 external, 1–12 HS20–HS31 -/
def LED_GRP_CFG_SUPPLY (i0 : Nat) : Field := ⟨0xb0080 + 16 * (i0 % 3), 0, 4, 0⟩
/-- Table 12.6 (R292): RWS, reset 10. 10 ms units, 1–255 -/
def LED_GRP_CFG_TP_PERIOD (i0 : Nat) : Field := ⟨0xb0080 + 16 * (i0 % 3), 4, 8, 10⟩
/-- Table 12.6 (R292): RWS, reset 0. R276, R279 -/
def LED_GRP_CFG_NB_OFF (i0 : Nat) : Field := ⟨0xb0080 + 16 * (i0 % 3), 12, 1, 0⟩
/-- Table 12.6 (R292): RWS, reset 0. R276, R279 -/
def LED_GRP_CFG_THERM_AUTO (i0 : Nat) : Field := ⟨0xb0080 + 16 * (i0 % 3), 13, 1, 0⟩
/-- Table 12.6 (R292): RWS, reset 1. R281; 7 and 24–31 taken as 0 -/
def LED_GRP_DER_TSRC (i0 : Nat) : Field := ⟨0xb0084 + 16 * (i0 % 3), 0, 5, 1⟩
/-- Table 12.6 (R292): RWS, reset 95. °C, 40–150 -/
def LED_GRP_DER_KNEE (i0 : Nat) : Field := ⟨0xb0084 + 16 * (i0 % 3), 8, 8, 95⟩
/-- Table 12.6 (R292): RWS, reset 15. 0.1 %/K units, 1–100 -/
def LED_GRP_DER_SLOPE (i0 : Nat) : Field := ⟨0xb0084 + 16 * (i0 % 3), 16, 7, 15⟩
/-- Table 12.6 (R292): RWS, reset 20. %, 5–100 -/
def LED_GRP_DER_FLOOR (i0 : Nat) : Field := ⟨0xb0084 + 16 * (i0 % 3), 24, 7, 20⟩
/-- Table 12.6 (R292): RWS, reset 100. 100 Ω units, 1–65,535 -/
def LED_GRP_NTC_R25 (i0 : Nat) : Field := ⟨0xb0088 + 16 * (i0 % 3), 0, 16, 100⟩
/-- Table 12.6 (R292): RWS, reset 3,435. K, 1,000–6,000 -/
def LED_GRP_NTC_BETA (i0 : Nat) : Field := ⟨0xb0088 + 16 * (i0 % 3), 16, 16, 3435⟩
/-- Table 12.7 (R292): RO, reset 0. source temperature, two's complement, 0.5 °C units -/
def LED_GSTAT_TGRP (i0 : Nat) : Field := ⟨0xb00c0 + 4 * (i0 % 3), 0, 10, 0⟩
/-- Table 12.7 (R292): RO, reset 100. f (%) -/
def LED_GSTAT_FACTOR (i0 : Nat) : Field := ⟨0xb00c0 + 4 * (i0 % 3), 10, 7, 100⟩
/-- Table 12.7 (R292): RO, reset 0. R281, R275 -/
def LED_GSTAT_NTC_FAULT (i0 : Nat) : Field := ⟨0xb00c0 + 4 * (i0 % 3), 17, 1, 0⟩
/-- Table 12.7 (R292): RO, reset 0. R281, R275 -/
def LED_GSTAT_SUPPLY_LOST (i0 : Nat) : Field := ⟨0xb00c0 + 4 * (i0 % 3), 18, 1, 0⟩
/-- Table 12.7 (R292): RO, reset 0. Table 8.3 codes -/
def LED_STATE_CHSTATE (i0 : Nat) : Field := ⟨0xb0100 + 8 * (i0 % 24), 0, 4, 0⟩
/-- Table 12.7 (R292): RO, reset 0. R276 -/
def LED_STATE_OPEN (i0 : Nat) : Field := ⟨0xb0100 + 8 * (i0 % 24), 4, 1, 0⟩
/-- Table 12.7 (R292): RO, reset 0. R276 -/
def LED_STATE_SHORT_GND (i0 : Nat) : Field := ⟨0xb0100 + 8 * (i0 % 24), 5, 1, 0⟩
/-- Table 12.7 (R292): RO, reset 0. R276 -/
def LED_STATE_NB_SHORT (i0 : Nat) : Field := ⟨0xb0100 + 8 * (i0 % 24), 6, 1, 0⟩
/-- Table 12.7 (R292): RO, reset 0. R276 -/
def LED_STATE_THERM_OFF (i0 : Nat) : Field := ⟨0xb0100 + 8 * (i0 % 24), 7, 1, 0⟩
/-- Table 12.7 (R292): RO, reset 0. R275, R277 -/
def LED_STATE_HEADROOM (i0 : Nat) : Field := ⟨0xb0100 + 8 * (i0 % 24), 8, 1, 0⟩
/-- Table 12.7 (R292): RO, reset 0. R275, R277 -/
def LED_STATE_NB_STALE (i0 : Nat) : Field := ⟨0xb0100 + 8 * (i0 % 24), 9, 1, 0⟩
/-- Table 12.7 (R292): RO, reset 0. present ceiling (%) -/
def LED_STATE_APPLIED (i0 : Nat) : Field := ⟨0xb0100 + 8 * (i0 % 24), 16, 8, 0⟩
/-- Table 12.7 (R292): RO, reset 0. 0.1 mA units -/
def LED_MEAS_CURRENT (i0 : Nat) : Field := ⟨0xb0104 + 8 * (i0 % 24), 0, 10, 0⟩
/-- Table 12.7 (R292): RO, reset 0. 50 mV units -/
def LED_MEAS_VSINK (i0 : Nat) : Field := ⟨0xb0104 + 8 * (i0 % 24), 10, 10, 0⟩
/-- Table 12.7 (R292): RO, reset 0. two's complement, 0.5 °C units -/
def LED_MEAS_TEMP (i0 : Nat) : Field := ⟨0xb0104 + 8 * (i0 % 24), 20, 10, 0⟩
/-- Table 12.7 (R292): RC, reset 0. confirmed faults; R278; saturating -/
def LED_CNT_FAULTS : Field := ⟨0xb0200, 0, 16, 0⟩
/-- Table 12.7 (R292): RC, reset 0. confirmed faults; R278; saturating -/
def LED_CNT_TESTS_ABORTED : Field := ⟨0xb0200, 16, 16, 0⟩
/-- Table 12.8 (R293): RWS, reset 0. 0 OFF, 1 INPUT, 2 OUTPUT; 3 taken as 0 -/
def FIO_CFG_MODE (i0 : Nat) : Field := ⟨0xc0000 + 8 * (i0 % 16), 0, 2, 0⟩
/-- Table 12.8 (R293): RWS, reset 0. Table 12.3; R285 -/
def FIO_CFG_ITYPE (i0 : Nat) : Field := ⟨0xc0000 + 8 * (i0 % 16), 2, 1, 0⟩
/-- Table 12.8 (R293): RWS, reset 0. Table 12.3; R285 -/
def FIO_CFG_IN_EVT (i0 : Nat) : Field := ⟨0xc0000 + 8 * (i0 % 16), 3, 1, 0⟩
/-- Table 12.8 (R293): RWS, reset 30. 0.1 ms units, 0–255 -/
def FIO_CFG_DEB (i0 : Nat) : Field := ⟨0xc0000 + 8 * (i0 % 16), 4, 8, 30⟩
/-- Table 12.8 (R293): RWS, reset 8. 0.6 + 0.05 × LATCH A, 0–28 -/
def FIO_CFG_LATCH (i0 : Nat) : Field := ⟨0xc0000 + 8 * (i0 % 16), 12, 5, 8⟩
/-- Table 12.8 (R293): RWS, reset 0. 5 ms units, 0 none -/
def FIO_CFG_INRUSH_T (i0 : Nat) : Field := ⟨0xc0000 + 8 * (i0 % 16), 17, 4, 0⟩
/-- Table 12.8 (R293): RWS, reset 0. 0 FAST, 1 SLOW; R287 -/
def FIO_CFG_DEMAG (i0 : Nat) : Field := ⟨0xc0000 + 8 * (i0 % 16), 21, 1, 0⟩
/-- Table 12.8 (R293): RWS, reset 0. 0 FAST, 1 SLOW; R287 -/
def FIO_CFG_THERM_AUTO (i0 : Nat) : Field := ⟨0xc0000 + 8 * (i0 % 16), 22, 1, 0⟩
/-- Table 12.8 (R293): RWS, reset 0. as Table 9.2 -/
def FIO_CFG_RETRY_N (i0 : Nat) : Field := ⟨0xc0000 + 8 * (i0 % 16), 23, 4, 0⟩
/-- Table 12.8 (R293): RWS, reset 0. as Table 9.2 -/
def FIO_CFG_RETRY_T (i0 : Nat) : Field := ⟨0xc0000 + 8 * (i0 % 16), 27, 3, 0⟩
/-- Table 12.8 (R293): RWS, reset 4. 5 mA units, 1–40 -/
def FIO_DIAG_OL_THR (i0 : Nat) : Field := ⟨0xc0004 + 8 * (i0 % 16), 0, 6, 4⟩
/-- Table 12.8 (R293): RWS, reset 5. 2 ms units, 1–32 -/
def FIO_DIAG_OL_DEB (i0 : Nat) : Field := ⟨0xc0004 + 8 * (i0 % 16), 6, 6, 5⟩
/-- Table 12.8 (R293): RWS, reset 1. open-load evaluation -/
def FIO_DIAG_DIAG_EN (i0 : Nat) : Field := ⟨0xc0004 + 8 * (i0 % 16), 12, 1, 1⟩
/-- Table 12.8 (R293): RWS, reset 0. wire class of Table 9.4 -/
def FIO_DIAG_WIRE (i0 : Nat) : Field := ⟨0xc0004 + 8 * (i0 % 16), 16, 4, 0⟩
/-- Table 12.8 (R293): RWS, reset 0. 0 off; 0.5 V units, 12–60 -/
def FIO_BLK_UV : Field := ⟨0xc0080, 0, 6, 0⟩
/-- Table 12.9 (R293): RO, reset 0. common fault bit (R289) -/
def FIO_STATUS_FAULT : Field := ⟨0xc0084, 0, 1, 0⟩
/-- Table 12.9 (R293): RO, reset 0. bit n: channel n holds a cause -/
def FIO_STATUS_FCHAN : Field := ⟨0xc0084, 16, 16, 0⟩
/-- Table 12.9 (R293): RO, reset 0. accepted input levels -/
def FIO_IN_LEVEL : Field := ⟨0xc0088, 0, 16, 0⟩
/-- Table 12.9 (R293): RO, reset 0. Table 12.5 -/
def FIO_CAUSE_CAUSE (i0 : Nat) (j : Nat) : Field := ⟨0xc0100 + 8 * (i0 % 16), 0 + 1 * (j % 5), 1, 0⟩
/-- Table 12.9 (R293): RO, reset 0. Table 8.3 codes -/
def FIO_CAUSE_CHSTATE (i0 : Nat) : Field := ⟨0xc0100 + 8 * (i0 % 16), 8, 4, 0⟩
/-- Table 12.9 (R293): RO, reset 0. present ceiling (%) -/
def FIO_CAUSE_APPLIED (i0 : Nat) : Field := ⟨0xc0100 + 8 * (i0 % 16), 16, 8, 0⟩
/-- Table 12.9 (R293): RO, reset 0. mA -/
def FIO_MEAS_CURRENT (i0 : Nat) : Field := ⟨0xc0104 + 8 * (i0 % 16), 0, 12, 0⟩
/-- Table 12.9 (R293): RO, reset 0. 50 mV units -/
def FIO_MEAS_VPIN (i0 : Nat) : Field := ⟨0xc0104 + 8 * (i0 % 16), 12, 10, 0⟩
/-- Table 12.9 (R293): RO, reset 0. two's complement, 0.5 °C units -/
def FIO_MEAS_TEMP (i0 : Nat) : Field := ⟨0xc0104 + 8 * (i0 % 16), 22, 10, 0⟩
/-- Table 12.9 (R293): RC, reset 0. rises of FAULT; 1 ms rescans; saturating -/
def FIO_CNT_FAULT_EDGES : Field := ⟨0xc0200, 0, 16, 0⟩
/-- Table 12.9 (R293): RC, reset 0. rises of FAULT; 1 ms rescans; saturating -/
def FIO_CNT_RESCANS : Field := ⟨0xc0200, 16, 16, 0⟩
/-- Table 13.7 (R310): RWS, reset 0. input enabled; 0 GND, 1 BAT -/
def SIN_CFG_EN (i0 : Nat) : Field := ⟨0xd0000 + 4 * (i0 % 48), 0, 1, 0⟩
/-- Table 13.7 (R310): RWS, reset 0. input enabled; 0 GND, 1 BAT -/
def SIN_CFG_REF (i0 : Nat) : Field := ⟨0xd0000 + 4 * (i0 % 48), 1, 1, 0⟩
/-- Table 13.7 (R310): RWS, reset 0. 0 2, 1 5, 2 10, 3 15 mA -/
def SIN_CFG_WET (i0 : Nat) : Field := ⟨0xd0000 + 4 * (i0 % 48), 2, 2, 0⟩
/-- Table 13.7 (R310): RWS, reset 0. continuous wetting in RUN -/
def SIN_CFG_WCONT (i0 : Nat) : Field := ⟨0xd0000 + 4 * (i0 % 48), 4, 1, 0⟩
/-- Table 13.7 (R310): RWS, reset 0. Table 13.2 -/
def SIN_CFG_THR (i0 : Nat) : Field := ⟨0xd0000 + 4 * (i0 % 48), 5, 2, 0⟩
/-- Table 13.7 (R310): RWS, reset 9. DEB + 1 samples -/
def SIN_CFG_DEB (i0 : Nat) : Field := ⟨0xd0000 + 4 * (i0 % 48), 7, 6, 9⟩
/-- Table 13.7 (R310): RWS, reset 0. R296 -/
def SIN_CFG_IN_EVT (i0 : Nat) : Field := ⟨0xd0000 + 4 * (i0 % 48), 13, 1, 0⟩
/-- Table 13.7 (R310): RWS, reset 0. SI32–SI47: 0 DIGITAL, 1 VOLT, 2 RES; 3 taken as 0 -/
def SIN_CFG_AMODE (i0 : Nat) : Field := ⟨0xd0000 + 4 * (i0 % 48), 14, 2, 0⟩
/-- Table 13.7 (R310): RWS, reset 1. 0 1 kΩ, 1 10 kΩ, 2 100 kΩ; 3 taken as 1 -/
def SIN_CFG_RPU (i0 : Nat) : Field := ⟨0xd0000 + 4 * (i0 % 48), 16, 2, 1⟩
/-- Table 13.7 (R310): RWS, reset 10. ms, 1–255 -/
def SIN_CFG_ANA_MS (i0 : Nat) : Field := ⟨0xd0000 + 4 * (i0 % 48), 18, 8, 10⟩
/-- Table 13.7 (R310): RWS, reset 3. 8 × 2^code ms -/
def SIN_CYC_CYC_PERIOD : Field := ⟨0xd0100, 0, 3, 3⟩
/-- Table 13.7 (R310): RWS, reset 0. bit n: SIn cyclic -/
def SIN_CYC_EN_CYC_EN : Field := ⟨0xd0104, 0, 48, 0⟩
/-- Table 13.8 (R310): RO, reset 0 (spar). accepted states, 1 closed -/
def SIN_LEVEL_LEVEL : Field := ⟨0xd0110, 0, 48, 0⟩
/-- Table 13.8 (R310): RO, reset 0. SI(32 + m): mV or Ω -/
def SIN_ANA_VALUE (i0 : Nat) : Field := ⟨0xd0180 + 4 * (i0 % 16), 0, 32, 0⟩
/-- Table 13.8 (R310): RO, reset 0. bit m: SI(32 + m) -/
def SIN_AFLT_AFAULT : Field := ⟨0xd01c0, 0, 16, 0⟩
/-- Table 13.8 (R310): RO, reset 5,990. stream pool left (ksps) -/
def SIN_SCHED_CAP_FREE : Field := ⟨0xd0200, 0, 13, 5990⟩
/-- Table 13.8 (R310): RO, reset 0. bit 0 SAR0, 1 SAR1, 2 sigma-delta -/
def SIN_CAL_CAL_DEGR : Field := ⟨0xd0204, 0, 3, 0⟩
/-- Table 13.8 (R310): RO, reset 0. bit k: solenoid ADC k -/
def SIN_CAL_SV_CAL_DEGR : Field := ⟨0xd0204, 8, 8, 0⟩
/-- Table 13.8 (R310): RC, reset 0. saturating -/
def SIN_CAL_CAL_FAILS : Field := ⟨0xd0204, 16, 8, 0⟩
/-- Table 13.8 (R310): RC, reset 0. saturating -/
def SIN_SNS_CNT_BLK_LOST : Field := ⟨0xd0210, 0, 16, 0⟩
/-- Table 13.8 (R310): RC, reset 0. saturating -/
def SIN_SNS_CNT_INF_LOST : Field := ⟨0xd0210, 16, 16, 0⟩
/-- Table 13.8 (R310): RO, reset 0. open streams -/
def SIN_STREAMS_OPEN_CNT : Field := ⟨0xd0214, 0, 6, 0⟩
/-- Table 14.7 (R331): RWS, reset 10. %, 1–25 -/
def SCL_CFG_STEP : Field := ⟨0xe0000, 0, 5, 10⟩
/-- Table 14.7 (R331): RWS, reset 50. steps, 0–255 -/
def SCL_CFG_I_GRACE : Field := ⟨0xe0000, 8, 8, 50⟩
/-- Table 14.7 (R331): RWS, reset 90. %, 50–99 -/
def SCL_CFG_RESTORE_PCT : Field := ⟨0xe0000, 16, 7, 90⟩
/-- Table 14.7 (R331): RWS, reset 0. R322 -/
def SCL_CFG_POL_ADAPT : Field := ⟨0xe0000, 24, 1, 0⟩
/-- Table 14.7 (R331): RWS, reset 20. %, 0–100 -/
def SCL_FLOOR_HS_FLOOR : Field := ⟨0xe0004, 0, 7, 20⟩
/-- Table 14.7 (R331): RWS, reset 20. %, 0–100 -/
def SCL_FLOOR_HB_FLOOR : Field := ⟨0xe0004, 8, 7, 20⟩
/-- Table 14.7 (R331): RWS, reset 20. %, 0–100 -/
def SCL_FLOOR_LED_FLOOR : Field := ⟨0xe0004, 16, 7, 20⟩
/-- Table 14.7 (R331): RWS, reset 20. %, 0–100 -/
def SCL_FLOOR_FIO_FLOOR : Field := ⟨0xe0004, 24, 7, 20⟩
/-- Table 14.7 (R331): RWS, reset 180. 0.1 W units, 50–180 -/
def SCL_PKG_PKG_W : Field := ⟨0xe0008, 0, 8, 180⟩
/-- Table 14.7 (R331): RWS, reset 140. °C, 110–160 -/
def SCL_PKG_TJ_KNEE : Field := ⟨0xe0008, 8, 8, 140⟩
/-- Table 14.7 (R331): RWS, reset 40. %, 10–100 -/
def SCL_PKG_PKG_FLOOR : Field := ⟨0xe0008, 16, 7, 40⟩
/-- Table 14.7 (R331): RWS, reset 10. windows, 1–15 -/
def SCL_OVL_OVL_CLEAR : Field := ⟨0xe000c, 0, 4, 10⟩
/-- Table 14.7 (R331): RWS, reset 0xF. bit 8 switch, 9 SNS, 10 INF, 11 events -/
def SCL_OVL_OVL_SRC : Field := ⟨0xe000c, 8, 4, 15⟩
/-- Table 14.7 (R331): RWS, reset 32. latch-offs per 1 s; 0 no storm rule -/
def SCL_RETRY_STORM_N : Field := ⟨0xe0010, 0, 8, 32⟩
/-- Table 14.7 (R331): RWS, reset 10. s, 1–255 -/
def SCL_RETRY_STORM_HOLD : Field := ⟨0xe0010, 8, 8, 10⟩
/-- Table 14.7 (R331): RW, reset 100. %, 10–100 -/
def SCL_TRIM_TRIM (i0 : Nat) : Field := ⟨0xe0020 + 4 * (i0 % 8), 0, 7, 100⟩
/-- Table 14.7 (R331): RW, reset 0. bit k: SV channel k -/
def SCL_RUN_LEARN_FREEZE : Field := ⟨0xe0040, 0, 8, 0⟩
/-- Table 14.7 (R331): RW, reset 0. R326 -/
def SCL_RUN_RETRY_HOLD : Field := ⟨0xe0040, 8, 1, 0⟩
/-- Table 14.7 (R331): RW, reset 180. 0.1 W units, 50 to PKG_W -/
def SCL_PKG_TRIM_PKG_TRIM : Field := ⟨0xe0044, 0, 8, 180⟩
/-- Table 14.8 (R331): RO, reset 0. present states -/
def SCL_STATUS_OVL : Field := ⟨0xe0050, 0, 1, 0⟩
/-- Table 14.8 (R331): RO, reset 0. present states -/
def SCL_STATUS_PKG_ACTIVE : Field := ⟨0xe0050, 1, 1, 0⟩
/-- Table 14.8 (R331): RO, reset 0. present states -/
def SCL_STATUS_STORM : Field := ⟨0xe0050, 2, 1, 0⟩
/-- Table 14.8 (R331): RO, reset 100. g (%) -/
def SCL_STATUS_PKG_FACTOR : Field := ⟨0xe0050, 8, 8, 100⟩
/-- Table 14.8 (R331): RO, reset 0. P_pkg 1 s mean (10 mW) -/
def SCL_STATUS_PKG_P : Field := ⟨0xe0050, 16, 12, 0⟩
/-- Table 14.8 (R331): RO, reset 0x3. microcode version; 0x3 at stepping B1 -/
def SCL_STATUS_UCODE_VER : Field := ⟨0xe0050, 28, 4, 3⟩
/-- Table 14.8 (R331): RO, reset 0. 10 mA units / 10 mW units -/
def SCL_PMEAS_I_MEAN (i0 : Nat) : Field := ⟨0xe0060 + 8 * (i0 % 8), 0, 16, 0⟩
/-- Table 14.8 (R331): RO, reset 0. 10 mA units / 10 mW units -/
def SCL_PMEAS_H_MEAN (i0 : Nat) : Field := ⟨0xe0060 + 8 * (i0 % 8), 16, 16, 0⟩
/-- Table 14.8 (R331): RO, reset 0. energy in the window (mJ) -/
def SCL_PENERGY_E_WIN (i0 : Nat) : Field := ⟨0xe0064 + 8 * (i0 % 8), 0, 32, 0⟩
/-- Table 14.8 (R331): RO, reset 0. loss in the last window; entries -/
def SCL_OVL_CNT_WIN_LOSS : Field := ⟨0xe00a0, 0, 16, 0⟩
/-- Table 14.8 (R331): RC, reset 0. loss in the last window; entries -/
def SCL_OVL_CNT_OVL_EPISODES : Field := ⟨0xe00a0, 16, 16, 0⟩
/-- Table 14.8 (R331): RC, reset 0. saturating -/
def SCL_CNT_DERATE_STEPS : Field := ⟨0xe00a4, 0, 16, 0⟩
/-- Table 14.8 (R331): RC, reset 0. saturating -/
def SCL_CNT_PKG_EPISODES : Field := ⟨0xe00a4, 16, 8, 0⟩
/-- Table 14.8 (R331): RC, reset 0. saturating -/
def SCL_CNT_SCL_RESTARTS : Field := ⟨0xe00a4, 24, 8, 0⟩
/-- Table 15.8 (R354): RWS, reset 1. port VID -/
def SW_PORT_CFG_PVID (i0 : Nat) : Field := ⟨0xf0000 + 4 * (i0 % 8), 0, 12, 1⟩
/-- Table 15.8 (R354): RWS, reset 1. R341; RO 0 on port 7 -/
def SW_PORT_CFG_LEARN_EN (i0 : Nat) : Field := ⟨0xf0000 + 4 * (i0 % 8), 12, 1, if i0 % 8 = 7 then 0 else 1⟩
/-- Table 15.8 (R354): RWS, reset 0. R335 -/
def SW_PORT_CFG_DEF_PCP (i0 : Nat) : Field := ⟨0xf0000 + 4 * (i0 % 8), 13, 3, 0⟩
/-- Table 15.8 (R354): RWS, reset 300. s, 1–64,800 -/
def SW_CFG_AGE_TIME : Field := ⟨0xf0020, 0, 16, 300⟩
/-- Table 15.8 (R354): RWS, reset 1,522. bytes, 64–2,000 -/
def SW_CFG_MAX_FRAME : Field := ⟨0xf0020, 16, 12, 1522⟩
/-- Table 15.8 (R354): RWS, reset 0xFFFF_FFFF. R339 -/
def SW_SALT_HASH_SALT : Field := ⟨0xf0024, 0, 32, 0xffffffff⟩
/-- Table 15.8 (R354): RWS, reset 0x00F6_C688. class of PCP p; reset: identity, PCP 6 to class 5 -/
def SW_PCPMAP_CLASS (j : Nat) : Field := ⟨0xf0028, 0 + 3 * (j % 8), 3, (0xf6c688 >>> (0 + 3 * (j % 8))) % 8⟩
/-- Table 15.8 (R354): RWS, reset 10. ms, 1–255 -/
def SW_TX_TX_TMO : Field := ⟨0xf002c, 0, 8, 10⟩
/-- Table 15.8 (R354): RWS, reset 0x2422_2222. class c, 4-cell units: 8 cells, 16 for class 6 -/
def SW_BUF_GUAR_GUAR (j : Nat) : Field := ⟨0xf0030, 0 + 4 * (j % 8), 4, (0x24222222 >>> (0 + 4 * (j % 8))) % 16⟩
/-- Table 15.8 (R354): RWS, reset 512. cells, 16–4,096 -/
def SW_BUF_CFG_SHARE_MAX : Field := ⟨0xf0034, 0, 13, 512⟩
/-- Table 15.8 (R354): RWS, reset 32. 4-cell units, 0–255 -/
def SW_BUF_CFG_SAF_RES : Field := ⟨0xf0034, 16, 8, 32⟩
/-- Table 15.8 (R354): RO, reset 0. R346 -/
def SW_BUF_CFG_GUAR_ERR : Field := ⟨0xf0034, 31, 1, 0⟩
/-- Table 15.8 (R354): RW, reset 0. VLAN addressed by SW_VLAN_DATA -/
def SW_VLAN_SEL_VID : Field := ⟨0xf0040, 0, 12, 0⟩
/-- Table 15.8 (R354): RWS, reset 0. port masks -/
def SW_VLAN_DATA_MEMBER : Field := ⟨0xf0044, 0, 8, 0⟩
/-- Table 15.8 (R354): RWS, reset 0. port masks -/
def SW_VLAN_DATA_UNTAG : Field := ⟨0xf0044, 8, 8, 0⟩
/-- Table 15.8 (R354): RWS, reset 0. Table 15.6; R341; R335 -/
def SW_VLAN_DATA_INS_POL : Field := ⟨0xf0044, 16, 2, 0⟩
/-- Table 15.8 (R354): RWS, reset 0. Table 15.6; R341; R335 -/
def SW_VLAN_DATA_VLEARN : Field := ⟨0xf0044, 18, 1, 0⟩
/-- Table 15.8 (R354): RWS, reset 0. Table 15.6; R341; R335 -/
def SW_VLAN_DATA_VALID : Field := ⟨0xf0044, 19, 1, 0⟩
/-- Table 15.8 (R354): RW, reset 0. entry 4 × bucket + way -/
def SW_TBL_IDX_INDEX : Field := ⟨0xf0050, 0, 14, 0⟩
/-- Table 15.8 (R354): WO, reset —. 1 READ, 2 WRITE, 3 CLEAR (R343); 0 ignored -/
def SW_TBL_CMD_OP : Field := ⟨0xf0054, 0, 2, 0⟩
/-- Table 15.8 (R354): RW, reset 0. MAC bits 31–0 -/
def SW_TBL_DATA0_MAC_LO : Field := ⟨0xf0058, 0, 32, 0⟩
/-- Table 15.8 (R354): RW, reset 0. MAC bits 47–32; VID -/
def SW_TBL_DATA1_MAC_HI : Field := ⟨0xf005c, 0, 16, 0⟩
/-- Table 15.8 (R354): RW, reset 0. MAC bits 47–32; VID -/
def SW_TBL_DATA1_VID : Field := ⟨0xf005c, 16, 12, 0⟩
/-- Table 15.8 (R354): RW, reset 0. port number, or PMASK when MCAST -/
def SW_TBL_DATA2_PORT : Field := ⟨0xf0060, 0, 8, 0⟩
/-- Table 15.8 (R354): RW, reset 0. age stamp (s) -/
def SW_TBL_DATA2_AGE : Field := ⟨0xf0060, 8, 16, 0⟩
/-- Table 15.8 (R354): RW, reset 0. entry flags -/
def SW_TBL_DATA2_VALID : Field := ⟨0xf0060, 24, 1, 0⟩
/-- Table 15.8 (R354): RW, reset 0. entry flags -/
def SW_TBL_DATA2_STATIC : Field := ⟨0xf0060, 25, 1, 0⟩
/-- Table 15.8 (R354): RW, reset 0. entry flags -/
def SW_TBL_DATA2_MCAST : Field := ⟨0xf0060, 26, 1, 0⟩
/-- Table 15.8 (R354): RWS, reset 0. kb/s; R350 -/
def SW_CBS_IDLE_SLOPE (i0 : Nat) (i1 : Nat) : Field := ⟨0xf0100 + 64 * (i0 % 2) + 4 * (i1 % 8), 0, 24, 0⟩
/-- Table 15.8 (R354): RWS, reset 0. kb/s; R350 -/
def SW_CBS_CBS_EN (i0 : Nat) (i1 : Nat) : Field := ⟨0xf0100 + 64 * (i0 % 2) + 4 * (i1 % 8), 31, 1, 0⟩
/-- Table 15.8 (R354): RWS, reset 0. R351 -/
def SW_GATE_CFG_GATE_EN (i0 : Nat) : Field := ⟨0xf0200 + 1024 * (i0 % 2), 0, 1, 0⟩
/-- Table 15.8 (R354): RWS, reset 0. R351 -/
def SW_GATE_CFG_NOSYNC (i0 : Nat) : Field := ⟨0xf0200 + 1024 * (i0 % 2), 1, 1, 0⟩
/-- Table 15.8 (R354): RWS, reset 1. entries, 1–64 -/
def SW_GATE_CFG_LEN (i0 : Nat) : Field := ⟨0xf0200 + 1024 * (i0 % 2), 2, 7, 1⟩
/-- Table 15.8 (R354): RWS, reset 1,000,000. ns, 10,000–1,000,000,000 -/
def SW_GATE_CYCLE_CYCLE (i0 : Nat) : Field := ⟨0xf0204 + 1024 * (i0 % 2), 0, 32, 0xf4240⟩
/-- Table 15.8 (R354): RWS, reset 0. device time (ns) -/
def SW_GATE_BASE_BASE (i0 : Nat) : Field := ⟨0xf0208 + 1024 * (i0 % 2), 0, 64, 0⟩
/-- Table 15.8 (R354): RWS, reset 0xFF. bit c: class c open -/
def SW_GCL0_GATES (i0 : Nat) (i1 : Nat) : Field := ⟨0xf0220 + 1024 * (i0 % 2) + 8 * (i1 % 64), 0, 8, 255⟩
/-- Table 15.8 (R354): RWS, reset 1,000,000. ns, 1,000–1,000,000,000 -/
def SW_GCL1_INTERVAL (i0 : Nat) (i1 : Nat) : Field := ⟨0xf0224 + 1024 * (i0 % 2) + 8 * (i1 % 64), 0, 32, 0xf4240⟩
/-- Table 15.9 (R354): RW, reset 0. CLASS holds the partition for RX_NOBUF -/
def SW_CNT_SEL_PORT : Field := ⟨0xf0a00, 0, 3, 0⟩
/-- Table 15.9 (R354): RW, reset 0. CLASS holds the partition for RX_NOBUF -/
def SW_CNT_SEL_CLASS : Field := ⟨0xf0a00, 4, 3, 0⟩
/-- Table 15.9 (R354): RW, reset 0. CLASS holds the partition for RX_NOBUF -/
def SW_CNT_SEL_CTR : Field := ⟨0xf0a00, 8, 5, 0⟩
/-- Table 15.9 (R354): RC, reset 0. selected counter -/
def SW_CNT_VAL_VALUE : Field := ⟨0xf0a04, 0, 64, 0⟩
/-- Table 15.9 (R354): RO, reset 0. valid entries -/
def SW_STATUS_ENTRIES : Field := ⟨0xf0a10, 0, 15, 0⟩
/-- Table 15.9 (R354): RO, reset 0. R343 -/
def SW_STATUS_STATIC_CNT : Field := ⟨0xf0a10, 16, 10, 0⟩
/-- Table 15.9 (R354): RO, reset 0. R343 -/
def SW_STATUS_STATIC_FULL : Field := ⟨0xf0a10, 26, 1, 0⟩
/-- Table 15.9 (R354): RO, reset 0. bit 27 C0, bit 28 C1; a table command is running -/
def SW_STATUS_SHAPE_ERR : Field := ⟨0xf0a10, 27, 2, 0⟩
/-- Table 15.9 (R354): RO, reset 0. bit 27 C0, bit 28 C1; a table command is running -/
def SW_STATUS_TBL_BUSY : Field := ⟨0xf0a10, 29, 1, 0⟩
/-- Table 15.9 (R354): RO, reset 4,096. free cells -/
def SW_BUF_STATUS_FREE_CELLS : Field := ⟨0xf0a14, 0, 13, 4096⟩
/-- Table 15.9 (R354): RC, reset 4,096. lowest FREE_CELLS since last read -/
def SW_BUF_STATUS_MIN_FREE : Field := ⟨0xf0a14, 16, 13, 4096⟩
/-- Table 16.6 (R371): RWS, reset 0. R361 -/
def SW_RULE0_PORTS (i0 : Nat) : Field := ⟨0xf0b00 + 16 * (i0 % 64), 0, 8, 0⟩
/-- Table 16.6 (R371): RWS, reset 0. R361 -/
def SW_RULE0_VID (i0 : Nat) : Field := ⟨0xf0b00 + 16 * (i0 % 64), 8, 12, 0⟩
/-- Table 16.6 (R371): RWS, reset 0. R362, R363 -/
def SW_RULE0_ACTION (i0 : Nat) : Field := ⟨0xf0b00 + 16 * (i0 % 64), 22, 2, 0⟩
/-- Table 16.6 (R371): RWS, reset 0. R362, R363 -/
def SW_RULE0_CLASS (i0 : Nat) : Field := ⟨0xf0b00 + 16 * (i0 % 64), 24, 3, 0⟩
/-- Table 16.6 (R371): RWS, reset 0. R362, R363 -/
def SW_RULE0_EN (i0 : Nat) : Field := ⟨0xf0b00 + 16 * (i0 % 64), 31, 1, 0⟩
/-- Table 16.6 (R371): RWS, reset 0. R361 -/
def SW_RULE1_ETYPE (i0 : Nat) : Field := ⟨0xf0b04 + 16 * (i0 % 64), 0, 16, 0⟩
/-- Table 16.6 (R371): RWS, reset 0. R361 -/
def SW_RULE1_PROTO (i0 : Nat) : Field := ⟨0xf0b04 + 16 * (i0 % 64), 16, 8, 0⟩
/-- Table 16.6 (R371): RWS, reset 0. R361 -/
def SW_RULE1_PROTO_EN (i0 : Nat) : Field := ⟨0xf0b04 + 16 * (i0 % 64), 24, 1, 0⟩
/-- Table 16.6 (R371): RWS, reset 0. R361 -/
def SW_RULE1_DSCP (i0 : Nat) : Field := ⟨0xf0b04 + 16 * (i0 % 64), 25, 6, 0⟩
/-- Table 16.6 (R371): RWS, reset 0. R361 -/
def SW_RULE1_DSCP_EN (i0 : Nat) : Field := ⟨0xf0b04 + 16 * (i0 % 64), 31, 1, 0⟩
/-- Table 16.6 (R371): RWS, reset 0. R361 -/
def SW_RULE2_DPORT_LO (i0 : Nat) : Field := ⟨0xf0b08 + 16 * (i0 % 64), 0, 16, 0⟩
/-- Table 16.6 (R371): RWS, reset 0. R361 -/
def SW_RULE2_DPORT_HI (i0 : Nat) : Field := ⟨0xf0b08 + 16 * (i0 % 64), 16, 16, 0⟩
/-- Table 16.6 (R371): RWS, reset 0. R361 -/
def SW_RULE3_TRUNC_CARE (i0 : Nat) : Field := ⟨0xf0b0c + 16 * (i0 % 64), 0, 1, 0⟩
/-- Table 16.6 (R371): RWS, reset 0. R361 -/
def SW_RULE3_TRUNC_VAL (i0 : Nat) : Field := ⟨0xf0b0c + 16 * (i0 % 64), 1, 1, 0⟩
/-- Table 16.6 (R371): RWS, reset 0. R361 -/
def SW_RULE3_MAL_CARE (i0 : Nat) : Field := ⟨0xf0b0c + 16 * (i0 % 64), 2, 1, 0⟩
/-- Table 16.6 (R371): RWS, reset 0. R361 -/
def SW_RULE3_MAL_VAL (i0 : Nat) : Field := ⟨0xf0b0c + 16 * (i0 % 64), 3, 1, 0⟩
/-- Table 16.7 (R371): RWS, reset 0. R364; 0 GCM-AES-128, 1 GCM-AES-256, 2 XPN-128, 3 XPN-256 -/
def SW_MSEC_CFG_MSEC_EN (i0 : Nat) : Field := ⟨0xf0f00 + 32 * (i0 % 2), 0, 1, 0⟩
/-- Table 16.7 (R371): RWS, reset 0. R364; 0 GCM-AES-128, 1 GCM-AES-256, 2 XPN-128, 3 XPN-256 -/
def SW_MSEC_CFG_CIPHER (i0 : Nat) : Field := ⟨0xf0f00 + 32 * (i0 % 2), 1, 2, 0⟩
/-- Table 16.7 (R371): RWS, reset 1. R364 -/
def SW_MSEC_CFG_INCLUDE_SCI (i0 : Nat) : Field := ⟨0xf0f00 + 32 * (i0 % 2), 3, 1, 1⟩
/-- Table 16.7 (R371): RWS, reset 1. R364 -/
def SW_MSEC_CFG_REPLAY_PROTECT (i0 : Nat) : Field := ⟨0xf0f00 + 32 * (i0 % 2), 4, 1, 1⟩
/-- Table 16.7 (R371): RWS, reset 1. R364 -/
def SW_MSEC_CFG_CONF (i0 : Nat) : Field := ⟨0xf0f00 + 32 * (i0 % 2), 5, 1, 1⟩
/-- Table 16.7 (R371): RWS, reset 0. replay window -/
def SW_MSEC_WIN_REPLAY_WIN (i0 : Nat) : Field := ⟨0xf0f04 + 32 * (i0 % 2), 0, 32, 0⟩
/-- Table 16.7 (R371): RWS, reset 0. transmit SCI -/
def SW_MSEC_SCI_SCI (i0 : Nat) : Field := ⟨0xf0f08 + 32 * (i0 % 2), 0, 64, 0⟩
/-- Table 16.7 (R371): RWS, reset 0. receive SCI -/
def SW_MSEC_PEER_PEER_SCI (i0 : Nat) : Field := ⟨0xf0f10 + 32 * (i0 % 2), 0, 64, 0⟩
/-- Table 16.7 (R371): RO, reset 0. installed SAs; AN in use -/
def SW_MSEC_STAT_RX_AN_VALID (i0 : Nat) : Field := ⟨0xf0f18 + 32 * (i0 % 2), 0, 4, 0⟩
/-- Table 16.7 (R371): RO, reset 0. installed SAs; AN in use -/
def SW_MSEC_STAT_TX_AN (i0 : Nat) : Field := ⟨0xf0f18 + 32 * (i0 % 2), 4, 2, 0⟩
/-- Table 16.7 (R371): RO, reset 0. installed SAs; AN in use -/
def SW_MSEC_STAT_TX_ACTIVE (i0 : Nat) : Field := ⟨0xf0f18 + 32 * (i0 % 2), 6, 1, 0⟩
/-- Table 16.7 (R371): RO, reset 0. installed SAs; AN in use -/
def SW_MSEC_STAT_PN_WARN (i0 : Nat) : Field := ⟨0xf0f18 + 32 * (i0 % 2), 7, 1, 0⟩
/-- Table 17.6 (R394): RWS, reset 1. R373 -/
def SUB_T1S_CFG_PLCA_EN (i0 : Nat) : Field := ⟨0x100000 + 8 * (i0 % 4), 0, 1, 1⟩
/-- Table 17.6 (R394): RWS, reset 0. R373 -/
def SUB_T1S_CFG_LOCAL_ID (i0 : Nat) : Field := ⟨0x100000 + 8 * (i0 % 4), 1, 4, 0⟩
/-- Table 17.6 (R394): RWS, reset 8. R373 -/
def SUB_T1S_CFG_NODE_CNT (i0 : Nat) : Field := ⟨0x100000 + 8 * (i0 % 4), 5, 4, 8⟩
/-- Table 17.6 (R394): RWS, reset 32. bit times; count; bit times -/
def SUB_T1S_CFG_TO_TIMER (i0 : Nat) : Field := ⟨0x100000 + 8 * (i0 % 4), 9, 8, 32⟩
/-- Table 17.6 (R394): RWS, reset 0. bit times; count; bit times -/
def SUB_T1S_CFG_MAX_BC (i0 : Nat) : Field := ⟨0x100000 + 8 * (i0 % 4), 17, 4, 0⟩
/-- Table 17.6 (R394): RWS, reset 128. bit times; count; bit times -/
def SUB_T1S_CFG_BURST_TMR (i0 : Nat) : Field := ⟨0x100000 + 8 * (i0 % 4), 21, 8, 128⟩
/-- Table 17.6 (R394): RWS, reset 1. R375 -/
def SUB_T1S_CFG_SLEEP_SEND (i0 : Nat) : Field := ⟨0x100000 + 8 * (i0 % 4), 29, 1, 1⟩
/-- Table 17.6 (R394): RWS, reset 1. R375 -/
def SUB_T1S_CFG_SEG_WFWD (i0 : Nat) : Field := ⟨0x100000 + 8 * (i0 % 4), 30, 1, 1⟩
/-- Table 17.6 (R394): RWS, reset 0. R375 -/
def SUB_T1S_CFG_SLEEP_OK (i0 : Nat) : Field := ⟨0x100000 + 8 * (i0 % 4), 31, 1, 0⟩
/-- Table 17.6 (R394): RO, reset 0. R374, R373 -/
def SUB_T1S_STAT_PLCA_STATUS (i0 : Nat) : Field := ⟨0x100004 + 8 * (i0 % 4), 0, 1, 0⟩
/-- Table 17.6 (R394): W1C, reset 0. R374, R373 -/
def SUB_T1S_STAT_CFG_REFUSED (i0 : Nat) : Field := ⟨0x100004 + 8 * (i0 % 4), 1, 1, 0⟩
/-- Table 17.6 (R394): RWS, reset 0. R376, R377 -/
def SUB_CAN_CFG_EN (i0 : Nat) : Field := ⟨0x100040 + 32 * (i0 % 4), 0, 1, 0⟩
/-- Table 17.6 (R394): RWS, reset 0. R376, R377 -/
def SUB_CAN_CFG_FD_EN (i0 : Nat) : Field := ⟨0x100040 + 32 * (i0 % 4), 1, 1, 0⟩
/-- Table 17.6 (R394): RWS, reset 0. R376, R377 -/
def SUB_CAN_CFG_XL_EN (i0 : Nat) : Field := ⟨0x100040 + 32 * (i0 % 4), 2, 1, 0⟩
/-- Table 17.6 (R394): RWS, reset 0. R376, R377 -/
def SUB_CAN_CFG_XLTRX (i0 : Nat) : Field := ⟨0x100040 + 32 * (i0 % 4), 3, 1, 0⟩
/-- Table 17.6 (R394): RWS, reset 1. R378, R379 -/
def SUB_CAN_CFG_BO_AUTO (i0 : Nat) : Field := ⟨0x100040 + 32 * (i0 % 4), 4, 1, 1⟩
/-- Table 17.6 (R394): RWS, reset 0. R378, R379 -/
def SUB_CAN_CFG_LISTEN (i0 : Nat) : Field := ⟨0x100040 + 32 * (i0 % 4), 5, 1, 0⟩
/-- Table 17.6 (R394): RWS, reset 0. time quanta 0–63; ms 1–255 -/
def SUB_CAN_CFG_TDCO (i0 : Nat) : Field := ⟨0x100040 + 32 * (i0 % 4), 8, 6, 0⟩
/-- Table 17.6 (R394): RWS, reset 100. time quanta 0–63; ms 1–255 -/
def SUB_CAN_CFG_TX_TMO (i0 : Nat) : Field := ⟨0x100040 + 32 * (i0 % 4), 16, 8, 100⟩
/-- Table 17.6 (R394): RWS, reset 4. 1–32 / 2–256 / 1–128 / 1–128 -/
def SUB_CAN_NBT_BRP (i0 : Nat) : Field := ⟨0x100044 + 32 * (i0 % 4), 0, 6, 4⟩
/-- Table 17.6 (R394): RWS, reset 79. 1–32 / 2–256 / 1–128 / 1–128 -/
def SUB_CAN_NBT_TSEG1 (i0 : Nat) : Field := ⟨0x100044 + 32 * (i0 % 4), 6, 9, 79⟩
/-- Table 17.6 (R394): RWS, reset 20. 1–32 / 2–256 / 1–128 / 1–128 -/
def SUB_CAN_NBT_TSEG2 (i0 : Nat) : Field := ⟨0x100044 + 32 * (i0 % 4), 15, 8, 20⟩
/-- Table 17.6 (R394): RWS, reset 20. 1–32 / 2–256 / 1–128 / 1–128 -/
def SUB_CAN_NBT_SJW (i0 : Nat) : Field := ⟨0x100044 + 32 * (i0 % 4), 23, 8, 20⟩
/-- Table 17.6 (R394): RWS, reset 4. 1–32 / 2–256 / 1–128 / 1–128 -/
def SUB_CAN_DBT_BRP (i0 : Nat) : Field := ⟨0x100048 + 32 * (i0 % 4), 0, 6, 4⟩
/-- Table 17.6 (R394): RWS, reset 79. 1–32 / 2–256 / 1–128 / 1–128 -/
def SUB_CAN_DBT_TSEG1 (i0 : Nat) : Field := ⟨0x100048 + 32 * (i0 % 4), 6, 9, 79⟩
/-- Table 17.6 (R394): RWS, reset 20. 1–32 / 2–256 / 1–128 / 1–128 -/
def SUB_CAN_DBT_TSEG2 (i0 : Nat) : Field := ⟨0x100048 + 32 * (i0 % 4), 15, 8, 20⟩
/-- Table 17.6 (R394): RWS, reset 20. 1–32 / 2–256 / 1–128 / 1–128 -/
def SUB_CAN_DBT_SJW (i0 : Nat) : Field := ⟨0x100048 + 32 * (i0 % 4), 23, 8, 20⟩
/-- Table 17.6 (R394): RWS, reset 4. 1–32 / 2–256 / 1–128 / 1–128 -/
def SUB_CAN_XBT_BRP (i0 : Nat) : Field := ⟨0x10004c + 32 * (i0 % 4), 0, 6, 4⟩
/-- Table 17.6 (R394): RWS, reset 79. 1–32 / 2–256 / 1–128 / 1–128 -/
def SUB_CAN_XBT_TSEG1 (i0 : Nat) : Field := ⟨0x10004c + 32 * (i0 % 4), 6, 9, 79⟩
/-- Table 17.6 (R394): RWS, reset 20. 1–32 / 2–256 / 1–128 / 1–128 -/
def SUB_CAN_XBT_TSEG2 (i0 : Nat) : Field := ⟨0x10004c + 32 * (i0 % 4), 15, 8, 20⟩
/-- Table 17.6 (R394): RWS, reset 20. 1–32 / 2–256 / 1–128 / 1–128 -/
def SUB_CAN_XBT_SJW (i0 : Nat) : Field := ⟨0x10004c + 32 * (i0 % 4), 23, 8, 20⟩
/-- Table 17.6 (R394): RWS, reset 4. clock cycles -/
def SUB_CAN_XPWM_PWMS (i0 : Nat) : Field := ⟨0x100050 + 32 * (i0 % 4), 0, 6, 4⟩
/-- Table 17.6 (R394): RWS, reset 16. clock cycles -/
def SUB_CAN_XPWM_PWML (i0 : Nat) : Field := ⟨0x100050 + 32 * (i0 % 4), 6, 6, 16⟩
/-- Table 17.6 (R394): RWS, reset 0. clock cycles -/
def SUB_CAN_XPWM_PWMO (i0 : Nat) : Field := ⟨0x100050 + 32 * (i0 % 4), 12, 6, 0⟩
/-- Table 17.7 (R394): RO, reset 0. 0 off, 1 active, 2 passive, 3 bus-off; R377 -/
def SUB_CAN_STAT_STATE (i0 : Nat) : Field := ⟨0x1000c0 + 4 * (i0 % 4), 0, 2, 0⟩
/-- Table 17.7 (R394): RO, reset 0. 0 off, 1 active, 2 passive, 3 bus-off; R377 -/
def SUB_CAN_STAT_TIMING_ERR (i0 : Nat) : Field := ⟨0x1000c0 + 4 * (i0 % 4), 2, 1, 0⟩
/-- Table 17.7 (R394): RO, reset 0. error counters -/
def SUB_CAN_STAT_TEC (i0 : Nat) : Field := ⟨0x1000c0 + 4 * (i0 % 4), 8, 8, 0⟩
/-- Table 17.7 (R394): RO, reset 0. error counters -/
def SUB_CAN_STAT_REC (i0 : Nat) : Field := ⟨0x1000c0 + 4 * (i0 % 4), 16, 8, 0⟩
/-- Table 17.6 (R394): RWS, reset 0. 0 commander, 1 responder; bit/s -/
def SUB_LIN_CFG_EN (i0 : Nat) : Field := ⟨0x100100 + 8 * (i0 % 6), 0, 1, 0⟩
/-- Table 17.6 (R394): RWS, reset 0. 0 commander, 1 responder; bit/s -/
def SUB_LIN_CFG_MODE (i0 : Nat) : Field := ⟨0x100100 + 8 * (i0 % 6), 1, 1, 0⟩
/-- Table 17.6 (R394): RWS, reset 19,200. 0 commander, 1 responder; bit/s -/
def SUB_LIN_CFG_BAUD (i0 : Nat) : Field := ⟨0x100100 + 8 * (i0 % 6), 2, 15, 0x4b00⟩
/-- Table 17.6 (R394): RWS, reset 0. R389; ms 1–255 -/
def SUB_LIN_CFG_TUNNEL (i0 : Nat) : Field := ⟨0x100100 + 8 * (i0 % 6), 17, 1, 0⟩
/-- Table 17.6 (R394): RWS, reset 50. R389; ms 1–255 -/
def SUB_LIN_CFG_TX_TMO (i0 : Nat) : Field := ⟨0x100100 + 8 * (i0 % 6), 18, 8, 50⟩
/-- Table 17.7 (R394): RO, reset 0. 0 off, 1 running, 2 asleep; entry -/
def SUB_LIN_STAT_STATE (i0 : Nat) : Field := ⟨0x100104 + 8 * (i0 % 6), 0, 2, 0⟩
/-- Table 17.7 (R394): RO, reset 0. 0 off, 1 running, 2 asleep; entry -/
def SUB_LIN_STAT_SCHED_POS (i0 : Nat) : Field := ⟨0x100104 + 8 * (i0 % 6), 8, 8, 0⟩
/-- Table 17.6 (R394): RWS, reset 0. R379 -/
def SUB_CAN_FLT0_ID (i0 : Nat) (i1 : Nat) : Field := ⟨0x100400 + 256 * (i0 % 4) + 8 * (i1 % 32), 0, 29, 0⟩
/-- Table 17.6 (R394): RWS, reset 0. R379 -/
def SUB_CAN_FLT0_EFF (i0 : Nat) (i1 : Nat) : Field := ⟨0x100400 + 256 * (i0 % 4) + 8 * (i1 % 32), 29, 1, 0⟩
/-- Table 17.6 (R394): RWS, reset 0. R379 -/
def SUB_CAN_FLT0_EN (i0 : Nat) (i1 : Nat) : Field := ⟨0x100400 + 256 * (i0 % 4) + 8 * (i1 % 32), 31, 1, 0⟩
/-- Table 17.6 (R394): RWS, reset 0. R379 -/
def SUB_CAN_FLT1_MASK (i0 : Nat) (i1 : Nat) : Field := ⟨0x100404 + 256 * (i0 % 4) + 8 * (i1 % 32), 0, 29, 0⟩
/-- Table 17.6 (R394): RWS, reset 0. R379 -/
def SUB_CAN_FLT1_DELIVER (i0 : Nat) (i1 : Nat) : Field := ⟨0x100404 + 256 * (i0 % 4) + 8 * (i1 % 32), 29, 1, 0⟩
/-- Table 17.6 (R394): RWS, reset 0. R379 -/
def SUB_CAN_FLT1_TUNNEL (i0 : Nat) (i1 : Nat) : Field := ⟨0x100404 + 256 * (i0 % 4) + 8 * (i1 % 32), 30, 1, 0⟩
/-- Table 17.6 (R394): RWS, reset 0. R389–R392 -/
def SUB_TUN_CFG_EN (i0 : Nat) : Field := ⟨0x100800 + 32 * (i0 % 16), 0, 1, 0⟩
/-- Table 17.6 (R394): RWS, reset 0. R389–R392 -/
def SUB_TUN_CFG_IN_EN (i0 : Nat) : Field := ⟨0x100800 + 32 * (i0 % 16), 1, 1, 0⟩
/-- Table 17.6 (R394): RWS, reset 0. R389–R392 -/
def SUB_TUN_CFG_BRIEF (i0 : Nat) : Field := ⟨0x100800 + 32 * (i0 % 16), 2, 1, 0⟩
/-- Table 17.6 (R394): RWS, reset 0. R389–R392 -/
def SUB_TUN_CFG_BRAND_REQ (i0 : Nat) : Field := ⟨0x100800 + 32 * (i0 % 16), 3, 1, 0⟩
/-- Table 17.6 (R394): RWS, reset 0. C0, C1 mask; µs 0–1,000 -/
def SUB_TUN_CFG_EPORT (i0 : Nat) : Field := ⟨0x100800 + 32 * (i0 % 16), 4, 2, 0⟩
/-- Table 17.6 (R394): RWS, reset 0. C0, C1 mask; µs 0–1,000 -/
def SUB_TUN_CFG_PCP (i0 : Nat) : Field := ⟨0x100800 + 32 * (i0 % 16), 6, 3, 0⟩
/-- Table 17.6 (R394): RWS, reset 0. C0, C1 mask; µs 0–1,000 -/
def SUB_TUN_CFG_TVID (i0 : Nat) : Field := ⟨0x100800 + 32 * (i0 % 16), 9, 12, 0⟩
/-- Table 17.6 (R394): RWS, reset 0. C0, C1 mask; µs 0–1,000 -/
def SUB_TUN_CFG_HOLD (i0 : Nat) : Field := ⟨0x100800 + 32 * (i0 % 16), 21, 10, 0⟩
/-- Table 17.6 (R394): RWS, reset 0. destination -/
def SUB_TUN_DA_DA (i0 : Nat) : Field := ⟨0x100804 + 32 * (i0 % 16), 0, 48, 0⟩
/-- Table 17.6 (R394): RWS, reset 0. accepted stream ID -/
def SUB_TUN_RX_RX_STREAM (i0 : Nat) : Field := ⟨0x10080c + 32 * (i0 % 16), 0, 64, 0⟩
/-- Table 17.6 (R394): RWS, reset 0. [3:0] K0–K3, [9:4] L0–L5; R389 -/
def SUB_TUN_MAP_BUSMASK (i0 : Nat) : Field := ⟨0x100814 + 32 * (i0 % 16), 0, 10, 0⟩
/-- Table 17.6 (R394): RWS, reset 0. [3:0] K0–K3, [9:4] L0–L5; R389 -/
def SUB_TUN_MAP_TX_UID (i0 : Nat) : Field := ⟨0x100814 + 32 * (i0 % 16), 16, 16, 0⟩
/-- Table 17.7 (R394): RC, reset 0. saturating -/
def SUB_CNT0_FILT_MISS : Field := ⟨0x100a00, 0, 16, 0⟩
/-- Table 17.7 (R394): RC, reset 0. saturating -/
def SUB_CNT0_RX_NOBUF : Field := ⟨0x100a00, 16, 16, 0⟩
/-- Table 17.7 (R394): RC, reset 0. saturating -/
def SUB_CNT1_TUN_TOOBIG : Field := ⟨0x100a04, 0, 16, 0⟩
/-- Table 17.7 (R394): RC, reset 0. saturating -/
def SUB_CNT1_TUN_NOMATCH : Field := ⟨0x100a04, 16, 16, 0⟩
/-- Table 17.7 (R394): RC, reset 0. saturating -/
def SUB_CNT2_TUN_DROP : Field := ⟨0x100a08, 0, 16, 0⟩
/-- Table 17.7 (R394): RC, reset 0. saturating -/
def SUB_CNT2_TUN_NOBRAND : Field := ⟨0x100a08, 16, 16, 0⟩
/-- Table 17.7 (R394): RC, reset 0. saturating -/
def SUB_CNT3_TUN_SEQ_GAP : Field := ⟨0x100a0c, 0, 16, 0⟩
/-- Table 17.7 (R394): RC, reset 0. saturating -/
def SUB_CNT3_LIN_ERR : Field := ⟨0x100a0c, 16, 16, 0⟩
/-- Table 18.10 (R420): RWS, reset 0. R412–R414 -/
def BRD_BIND0_EN (i0 : Nat) : Field := ⟨0x110000 + 16 * (i0 % 16), 0, 1, 0⟩
/-- Table 18.10 (R420): RWS, reset 1. R412–R414 -/
def BRD_BIND0_MISS_ACT (i0 : Nat) : Field := ⟨0x110000 + 16 * (i0 % 16), 1, 1, 1⟩
/-- Table 18.10 (R420): RWS, reset 0. R412–R414 -/
def BRD_BIND0_GAP_ACT (i0 : Nat) : Field := ⟨0x110000 + 16 * (i0 % 16), 2, 1, 0⟩
/-- Table 18.10 (R420): RWS, reset 0. context; kind code 1–5; channel -/
def BRD_BIND0_CTX (i0 : Nat) : Field := ⟨0x110000 + 16 * (i0 % 16), 4, 4, 0⟩
/-- Table 18.10 (R420): RWS, reset 0. context; kind code 1–5; channel -/
def BRD_BIND0_KIND (i0 : Nat) : Field := ⟨0x110000 + 16 * (i0 % 16), 8, 3, 0⟩
/-- Table 18.10 (R420): RWS, reset 0. context; kind code 1–5; channel -/
def BRD_BIND0_INDEX (i0 : Nat) : Field := ⟨0x110000 + 16 * (i0 % 16), 11, 5, 0⟩
/-- Table 18.10 (R420): RWS, reset 3. Table 8.5 code; output element -/
def BRD_BIND0_SL_OP (i0 : Nat) : Field := ⟨0x110000 + 16 * (i0 % 16), 16, 3, 3⟩
/-- Table 18.10 (R420): RWS, reset 0. Table 8.5 code; output element -/
def BRD_BIND0_OUT_IDX (i0 : Nat) : Field := ⟨0x110000 + 16 * (i0 % 16), 24, 8, 0⟩
/-- Table 18.10 (R420): RWS, reset 0x7FFF. signed, output units -/
def BRD_BIND1_THRESH (i0 : Nat) : Field := ⟨0x110004 + 16 * (i0 % 16), 0, 16, 0x7fff⟩
/-- Table 18.10 (R420): RWS, reset 150. 10 µs units, 10–1,000 -/
def BRD_BIND1_PAIR_TMO (i0 : Nat) : Field := ⟨0x110004 + 16 * (i0 % 16), 16, 10, 150⟩
/-- Table 18.10 (R420): RWS, reset 5. ms, 1–50 -/
def BRD_BIND2_INPUT_TMO (i0 : Nat) : Field := ⟨0x110008 + 16 * (i0 % 16), 0, 6, 5⟩
/-- Table 18.10 (R420): RWS, reset 0. R408; 100 µs units, 0 none -/
def BRD_TUN_EXP_STREAM (i0 : Nat) : Field := ⟨0x110100 + 4 * (i0 % 16), 0, 16, 0⟩
/-- Table 18.10 (R420): RWS, reset 0. R408; 100 µs units, 0 none -/
def BRD_TUN_MAX_AGE (i0 : Nat) : Field := ⟨0x110100 + 4 * (i0 % 16), 16, 16, 0⟩
/-- Table 18.10 (R420): RO, reset 0. R412 -/
def BRD_STATUS_BIND_ERR : Field := ⟨0x110140, 0, 8, 0⟩
/-- Table 18.10 (R420): RO, reset 0. last verdict that acted -/
def BRD_STATUS_LAST_BIND : Field := ⟨0x110140, 8, 8, 0⟩
/-- Table 18.10 (R420): RO, reset 0. last verdict that acted -/
def BRD_STATUS_LAST_CAUSE : Field := ⟨0x110140, 16, 4, 0⟩
/-- Table 18.10 (R420): RC, reset 0. saturating -/
def BRD_CNT0_BAD_CHECK : Field := ⟨0x110150, 0, 16, 0⟩
/-- Table 18.10 (R420): RC, reset 0. saturating -/
def BRD_CNT0_GAP : Field := ⟨0x110150, 16, 16, 0⟩
/-- Table 18.10 (R420): RC, reset 0. saturating -/
def BRD_CNT1_REORDER : Field := ⟨0x110154, 0, 16, 0⟩
/-- Table 18.10 (R420): RC, reset 0. saturating -/
def BRD_CNT1_STALE : Field := ⟨0x110154, 16, 16, 0⟩
/-- Table 18.10 (R420): RC, reset 0. saturating -/
def BRD_CNT2_LINEAGE : Field := ⟨0x110158, 0, 16, 0⟩
/-- Table 18.10 (R420): RC, reset 0. saturating -/
def BRD_CNT2_ORIGIN : Field := ⟨0x110158, 16, 16, 0⟩
/-- Table 18.10 (R420): RC, reset 0. saturating -/
def BRD_CNT3_VERDICTS : Field := ⟨0x11015c, 0, 16, 0⟩
/-- Table 18.10 (R420): RC, reset 0. saturating -/
def BRD_CNT3_MISMATCHES : Field := ⟨0x11015c, 16, 16, 0⟩
/-- Table 19.10 (R440): RWS, reset 0. output units -/
def INF_TOL0_TOL1 (i0 : Nat) : Field := ⟨0x120000 + 8 * (i0 % 16), 0, 16, 0⟩
/-- Table 19.10 (R440): RWS, reset 0. output units -/
def INF_TOL0_TOL2 (i0 : Nat) : Field := ⟨0x120000 + 8 * (i0 % 16), 16, 16, 0⟩
/-- Table 19.10 (R440): RWS, reset 0. output units -/
def INF_TOL1_TOL3 (i0 : Nat) : Field := ⟨0x120004 + 8 * (i0 % 16), 0, 16, 0⟩
/-- Table 19.10 (R440): RO, reset 0. R422; Table 19.4 codes -/
def INF_CTX_STAT_STATE (i0 : Nat) : Field := ⟨0x120100 + 8 * (i0 % 16), 0, 2, 0⟩
/-- Table 19.10 (R440): RO, reset 0. R422; Table 19.4 codes -/
def INF_CTX_STAT_MODE (i0 : Nat) : Field := ⟨0x120100 + 8 * (i0 % 16), 4, 2, 0⟩
/-- Table 19.10 (R440): RO, reset 0. R422; Table 19.4 codes -/
def INF_CTX_STAT_JCLASS (i0 : Nat) : Field := ⟨0x120100 + 8 * (i0 % 16), 6, 1, 0⟩
/-- Table 19.10 (R440): RO, reset 0. bits 15–0 -/
def INF_CTX_STAT_IMAGE_ID (i0 : Nat) : Field := ⟨0x120100 + 8 * (i0 % 16), 16, 16, 0⟩
/-- Table 19.10 (R440): RO, reset 0. µs -/
def INF_CTX_EXEC_EXEC_A (i0 : Nat) : Field := ⟨0x120104 + 8 * (i0 % 16), 0, 16, 0⟩
/-- Table 19.10 (R440): RO, reset 0. µs -/
def INF_CTX_EXEC_EXEC_B (i0 : Nat) : Field := ⟨0x120104 + 8 * (i0 % 16), 16, 16, 0⟩
/-- Table 19.10 (R440): RO, reset 0. 0 OK, 1 FAILED, 3 LOCKED -/
def INF_CH_STAT_A_STATE : Field := ⟨0x120200, 0, 2, 0⟩
/-- Table 19.10 (R440): RO, reset 0. 0 OK, 1 FAILED, 3 LOCKED -/
def INF_CH_STAT_B_STATE : Field := ⟨0x120200, 2, 2, 0⟩
/-- Table 19.10 (R440): RO, reset 8,192. KiB free -/
def INF_MEM_A_FREE : Field := ⟨0x120204, 0, 16, 8192⟩
/-- Table 19.10 (R440): RO, reset 2,048. KiB free -/
def INF_MEM_B_FREE : Field := ⟨0x120204, 16, 16, 2048⟩
/-- Table 19.10 (R440): RC, reset 0. both channels; saturating -/
def INF_CNT0_KATS : Field := ⟨0x120210, 0, 16, 0⟩
/-- Table 19.10 (R440): RC, reset 0. both channels; saturating -/
def INF_CNT0_FORCED : Field := ⟨0x120210, 16, 16, 0⟩
/-- Table 19.10 (R440): RC, reset 0. saturating -/
def INF_CNT1_KAT_FAILS : Field := ⟨0x120214, 0, 16, 0⟩
/-- Table 19.10 (R440): RC, reset 0. saturating -/
def INF_CNT1_ABORTS : Field := ⟨0x120214, 16, 16, 0⟩
/-- Table 19.10 (R440): RC, reset 0. saturating -/
def INF_CNT2_RESIDUE : Field := ⟨0x120218, 0, 16, 0⟩
/-- Table 19.10 (R440): RC, reset 0. saturating -/
def INF_CNT2_LEN_REJ : Field := ⟨0x120218, 16, 16, 0⟩
/-- Table 19.10 (R440): RC, reset 0. saturating -/
def INF_CNT3_MISMATCH_JOBS : Field := ⟨0x12021c, 0, 16, 0⟩
/-- Table 20.9 (R457): RW, reset 0. namespace addressed -/
def STO_NS_SEL_NS : Field := ⟨0x130000, 0, 4, 0⟩
/-- Table 20.9 (R457): RWS, reset 1. for CREATE, 1–230 -/
def STO_NS_CFG_EXTENTS : Field := ⟨0x130004, 0, 8, 1⟩
/-- Table 20.9 (R457): RWS, reset 0. 0 TLC, 1 pSLC; 0 CHECKPOINT, 1 JOURNAL; 0 STAMPED, 1 COUNTED; write-back permitted -/
def STO_NS_CFG_CELL : Field := ⟨0x130004, 8, 1, 0⟩
/-- Table 20.9 (R457): RWS, reset 0. 0 TLC, 1 pSLC; 0 CHECKPOINT, 1 JOURNAL; 0 STAMPED, 1 COUNTED; write-back permitted -/
def STO_NS_CFG_DUR : Field := ⟨0x130004, 9, 1, 0⟩
/-- Table 20.9 (R457): RWS, reset 0. 0 TLC, 1 pSLC; 0 CHECKPOINT, 1 JOURNAL; 0 STAMPED, 1 COUNTED; write-back permitted -/
def STO_NS_CFG_RET : Field := ⟨0x130004, 10, 1, 0⟩
/-- Table 20.9 (R457): RWS, reset 0. 0 TLC, 1 pSLC; 0 CHECKPOINT, 1 JOURNAL; 0 STAMPED, 1 COUNTED; write-back permitted -/
def STO_NS_CFG_WB_EN : Field := ⟨0x130004, 11, 1, 0⟩
/-- Table 20.9 (R457): WO, reset —. 1 CREATE, 2 DELETE; 0 and 3 ignored -/
def STO_NS_CMD_OP : Field := ⟨0x130008, 0, 2, 0⟩
/-- Table 20.9 (R457): RO, reset 0. command running; 0 none, 1 OK, other codes per Table 20.3 -/
def STO_NS_STATUS_BUSY : Field := ⟨0x13000c, 0, 1, 0⟩
/-- Table 20.9 (R457): RO, reset 0. command running; 0 none, 1 OK, other codes per Table 20.3 -/
def STO_NS_STATUS_RESULT : Field := ⟨0x13000c, 4, 4, 0⟩
/-- Table 20.9 (R457): RO, reset store. selected namespace -/
def STO_NS_INFO_VALID : Field := ⟨0x130010, 0, 1, 0⟩
/-- Table 20.9 (R457): RO, reset store. selected namespace -/
def STO_NS_INFO_CELL : Field := ⟨0x130010, 1, 1, 0⟩
/-- Table 20.9 (R457): RO, reset store. selected namespace -/
def STO_NS_INFO_DUR : Field := ⟨0x130010, 2, 1, 0⟩
/-- Table 20.9 (R457): RO, reset store. selected namespace -/
def STO_NS_INFO_RET : Field := ⟨0x130010, 3, 1, 0⟩
/-- Table 20.9 (R457): RO, reset store. selected namespace -/
def STO_NS_INFO_WB_EN : Field := ⟨0x130010, 4, 1, 0⟩
/-- Table 20.9 (R457): RO, reset store. extents held -/
def STO_NS_INFO_EXTENTS : Field := ⟨0x130010, 8, 8, 0⟩
/-- Table 20.9 (R457): RO, reset store. logical blocks -/
def STO_NS_BLOCKS_BLOCKS : Field := ⟨0x130014, 0, 32, 0⟩
/-- Table 20.9 (R457): RO, reset store. free extents -/
def STO_FREE_FREE_EXT : Field := ⟨0x130018, 0, 8, 0⟩
/-- Table 20.9 (R457): RWS, reset 100. ms, 1–1,000 -/
def STO_WB_CFG_WB_AGE : Field := ⟨0x130020, 0, 10, 100⟩
/-- Table 20.9 (R457): RO, reset 0. R450, R451 -/
def STO_WB_STATUS_DIRTY : Field := ⟨0x130024, 0, 13, 0⟩
/-- Table 20.9 (R457): RO, reset 0. R450, R451 -/
def STO_WB_STATUS_GRANT : Field := ⟨0x130024, 16, 13, 0⟩
/-- Table 20.9 (R457): RO, reset 0. R450, R451 -/
def STO_WB_STATUS_WB_OK : Field := ⟨0x130024, 31, 1, 0⟩
/-- Table 20.9 (R457): RC, reset 0. saturating -/
def STO_CNT_WB_LOST : Field := ⟨0x130030, 0, 16, 0⟩
/-- Table 20.9 (R457): RC, reset 0. saturating -/
def STO_CNT_MEDIA_ERRS : Field := ⟨0x130030, 16, 16, 0⟩
/-- Table 20.9 (R457): RC, reset 0. NS_FULL and READ_ONLY completions, saturating -/
def STO_CNT2_FULL_REJ : Field := ⟨0x130034, 0, 16, 0⟩
/-- Table 20.9 (R457): RC, reset 0. NS_FULL and READ_ONLY completions, saturating -/
def STO_CNT2_RO_REJ : Field := ⟨0x130034, 16, 16, 0⟩
/-- Table 21.7 (R475): RWS, reset 10. s, 1–60 / ms, 1–100 -/
def STO_MEDIA_CFG_CKPT_INT : Field := ⟨0x130040, 0, 6, 10⟩
/-- Table 21.7 (R475): RWS, reset 5. s, 1–60 / ms, 1–100 -/
def STO_MEDIA_CFG_JRNL_INT : Field := ⟨0x130040, 8, 7, 5⟩
/-- Table 21.7 (R475): RWS, reset 80. %, 50–94 / bits per 1 KiB codeword, 8–64 -/
def STO_RET_CFG_REF_PCT : Field := ⟨0x130044, 0, 7, 80⟩
/-- Table 21.7 (R475): RWS, reset 48. %, 50–94 / bits per 1 KiB codeword, 8–64 -/
def STO_RET_CFG_ECC_REFRESH : Field := ⟨0x130044, 8, 8, 48⟩
/-- Table 21.7 (R475): RWS, reset 50. %, 10–90 / %, 50–94 -/
def STO_HEALTH_CFG_SPARE_WARN : Field := ⟨0x130048, 0, 7, 50⟩
/-- Table 21.7 (R475): RWS, reset 80. %, 10–90 / %, 50–94 -/
def STO_HEALTH_CFG_WEAR_WARN : Field := ⟨0x130048, 8, 7, 80⟩
/-- Table 21.7 (R475): RWS, reset 2. 0 16 V, 1 24 V, 2 30 V; 3 taken as 2 -/
def STO_HOLD_CFG_HOLD_V : Field := ⟨0x13004c, 0, 2, 2⟩
/-- Table 21.7 (R475): RWS, reset 4,096. blocks, 16–4,096 -/
def STO_HOLD_CFG_WB_CAP : Field := ⟨0x13004c, 16, 13, 4096⟩
/-- Table 21.7 (R475): RO, reset 0. µF / mΩ / Table 21.5, 0 not run -/
def STO_HOLD_MEAS_C_MEAS : Field := ⟨0x130050, 0, 16, 0⟩
/-- Table 21.7 (R475): RO, reset 0. µF / mΩ / Table 21.5, 0 not run -/
def STO_HOLD_MEAS_ESR_MEAS : Field := ⟨0x130050, 16, 12, 0⟩
/-- Table 21.7 (R475): RO, reset 0. µF / mΩ / Table 21.5, 0 not run -/
def STO_HOLD_MEAS_MRESULT : Field := ⟨0x130050, 28, 4, 0⟩
/-- Table 21.7 (R475): RO, reset store. % / R464 / R463 / R472 -/
def STO_HEALTH_SPARES : Field := ⟨0x130054, 0, 7, 100⟩
/-- Table 21.7 (R475): RO, reset 0. % / R464 / R463 / R472 -/
def STO_HEALTH_GC_ACTIVE : Field := ⟨0x130054, 8, 1, 0⟩
/-- Table 21.7 (R475): RO, reset 0. % / R464 / R463 / R472 -/
def STO_HEALTH_REFRESH_FG : Field := ⟨0x130054, 9, 1, 0⟩
/-- Table 21.7 (R475): RO, reset 0. % / R464 / R463 / R472 -/
def STO_HEALTH_HOLD_LOW : Field := ⟨0x130054, 10, 1, 0⟩
/-- Table 21.7 (R475): RO, reset store. % saturating at 255 / Table 21.2 / R465 -/
def STO_NS_WEAR_WEAR : Field := ⟨0x130058, 0, 8, 0⟩
/-- Table 21.7 (R475): RO, reset store. % saturating at 255 / Table 21.2 / R465 -/
def STO_NS_WEAR_STATE : Field := ⟨0x130058, 8, 2, 0⟩
/-- Table 21.7 (R475): RO, reset store. % saturating at 255 / Table 21.2 / R465 -/
def STO_NS_WEAR_SHORT : Field := ⟨0x130058, 10, 1, 0⟩
/-- Table 21.7 (R475): RC, reset 0 (spar). power-fail sequences / blocks lost -/
def STO_PF_CNT_PF_EVENTS : Field := ⟨0x13005c, 0, 16, 0⟩
/-- Table 21.7 (R475): RC, reset 0 (spar). power-fail sequences / blocks lost -/
def STO_PF_CNT_PF_LOST : Field := ⟨0x13005c, 16, 16, 0⟩
/-- Table 22.8 (R496): RO, reset 0. 0 STARTUP, 1 OK, 2 FAILED / 0 UNSEEDED, 1 SEEDED, 2 RESEED_DUE -/
def SEC_STATUS_TRNG : Field := ⟨0x140000, 0, 2, 0⟩
/-- Table 22.8 (R496): RO, reset 0. 0 STARTUP, 1 OK, 2 FAILED / 0 UNSEEDED, 1 SEEDED, 2 RESEED_DUE -/
def SEC_STATUS_DRBG : Field := ⟨0x140000, 2, 2, 0⟩
/-- Table 22.8 (R496): RO, reset 0. ms to SEEDED at this start, saturating / SCOPE granted -/
def SEC_STATUS_LIVE_MS : Field := ⟨0x140000, 8, 8, 0⟩
/-- Table 22.8 (R496): RO, reset 0. ms to SEEDED at this start, saturating / SCOPE granted -/
def SEC_STATUS_DBG_OPEN : Field := ⟨0x140000, 16, 3, 0⟩
/-- Table 22.8 (R496): RWS, reset 4,096. requests, 1–65,535 / R486 -/
def SEC_CFG_RESEED_N : Field := ⟨0x140004, 0, 16, 4096⟩
/-- Table 22.8 (R496): RWS, reset 0. requests, 1–65,535 / R486 -/
def SEC_CFG_DBG_NEVER : Field := ⟨0x140004, 16, 1, 0⟩
/-- Table 22.8 (R496): RO, reset fuses. bit k: slot k holds a key -/
def SEC_KEY_STATE_FILLED : Field := ⟨0x140008, 0, 32, 0⟩
/-- Table 22.8 (R496): RWS, reset 0. slots 0, 8–15: bit p permits Pp -/
def SEC_KEY_USE_PARTS (i0 : Nat) : Field := ⟨0x140040 + 4 * (i0 % 16), 0, 8, 0⟩
/-- Table 22.8 (R496): RC, reset 0. saturating -/
def SEC_CNT_HEALTH_FAILS : Field := ⟨0x1400c0, 0, 16, 0⟩
/-- Table 22.8 (R496): RC, reset 0. saturating -/
def SEC_CNT_DBG_FAILS : Field := ⟨0x1400c0, 16, 16, 0⟩
/-- Table 22.8 (R496): RO, reset store. R491, R492 -/
def UPD_STATUS_ACTIVE_BANK : Field := ⟨0x150000, 0, 1, 0⟩
/-- Table 22.8 (R496): RO, reset store. R491, R492 -/
def UPD_STATUS_TRIAL : Field := ⟨0x150000, 1, 1, 0⟩
/-- Table 22.8 (R496): RO, reset store. R491, R492 -/
def UPD_STATUS_TRIES : Field := ⟨0x150000, 2, 2, 0⟩
/-- Table 22.8 (R496): RO, reset store. 0 none, 1 L0, 2 L1 / 2 bits per slot: 0 UNVERIFIED, 1 VERIFIED, 2 FAILED, 3 CONSUMED -/
def UPD_STATUS_ARMED : Field := ⟨0x150000, 4, 2, 0⟩
/-- Table 22.8 (R496): RO, reset store. 0 none, 1 L0, 2 L1 / 2 bits per slot: 0 UNVERIFIED, 1 VERIFIED, 2 FAILED, 3 CONSUMED -/
def UPD_STATUS_SLOT_STATE : Field := ⟨0x150000, 6, 4, 0⟩
/-- Table 22.8 (R496): RO, reset store. 0 none, 1 activated, 2 failed, 3 reverted, 4 confirmed / Table 22.6 -/
def UPD_STATUS_LAST_OUTCOME : Field := ⟨0x150000, 12, 4, 0⟩
/-- Table 22.8 (R496): RO, reset store. 0 none, 1 activated, 2 failed, 3 reverted, 4 confirmed / Table 22.6 -/
def UPD_STATUS_LAST_REASON : Field := ⟨0x150000, 16, 8, 0⟩
/-- Table 22.8 (R496): RO, reset MRAM. rollback counter -/
def UPD_RB_RB_COUNTER : Field := ⟨0x150004, 0, 32, 0⟩
/-- Table 22.8 (R496): RO, reset store. bank b -/
def UPD_BANK_BUNDLE_ID (i0 : Nat) : Field := ⟨0x150010 + 8 * (i0 % 2), 0, 32, 0⟩
/-- Table 22.8 (R496): RO, reset store. bank b -/
def UPD_BANK_SVN_SVN (i0 : Nat) : Field := ⟨0x150014 + 8 * (i0 % 2), 0, 32, 0⟩
/-- Table 22.8 (R496): RO, reset 0. seconds to the TRIAL deadline -/
def UPD_LEFT_SECONDS : Field := ⟨0x150020, 0, 12, 0⟩
/-- Table 23.6 (R513): RO, reset MRAM. R508, R499, R505, R500 -/
def TLY_STATUS_FF_COUNT : Field := ⟨0x160000, 0, 11, 0⟩
/-- Table 23.6 (R513): RO, reset MRAM. R508, R499, R505, R500 -/
def TLY_STATUS_FF_FULL : Field := ⟨0x160000, 11, 1, 0⟩
/-- Table 23.6 (R513): RO, reset MRAM. R508, R499, R505, R500 -/
def TLY_STATUS_KEYLESS : Field := ⟨0x160000, 12, 1, 0⟩
/-- Table 23.6 (R513): RO, reset 0 at power-on and spar reset, unchanged by every other reset (R505). R508, R499, R505, R500 -/
def TLY_STATUS_SCAN_DONE : Field := ⟨0x160000, 13, 1, 0⟩
/-- Table 23.6 (R513): RO, reset MRAM. R508, R499, R505, R500 -/
def TLY_STATUS_WRAPS : Field := ⟨0x160000, 16, 16, 0⟩
/-- Table 23.6 (R513): RO, reset MRAM. RSEQ of the next record -/
def TLY_NEXT_NEXT_RSEQ : Field := ⟨0x160004, 0, 32, 0⟩
/-- Table 23.6 (R513): RW, reset MRAM. R508, R510 -/
def TLY_MARK_RD_MARK : Field := ⟨0x160008, 0, 32, 0⟩
/-- Table 23.6 (R513): RO, reset MRAM. R508, R504 -/
def TLY_CNT0_FF_LOST : Field := ⟨0x16000c, 0, 16, 0⟩
/-- Table 23.6 (R513): RC, reset MRAM. R508, R504 -/
def TLY_CNT0_DROPPED : Field := ⟨0x16000c, 16, 16, 0⟩
/-- Table 23.6 (R513): RC, reset MRAM. saturating -/
def TLY_CNT1_UNREAD_LOST : Field := ⟨0x160010, 0, 16, 0⟩
/-- Table 23.6 (R513): RC, reset MRAM. saturating -/
def TLY_CNT1_MIRROR_FIX : Field := ⟨0x160010, 16, 16, 0⟩
/-- Table 23.6 (R513): RW, reset 0. R510; AREA 0 ring, 1 first-fault, 2–3 taken as 0 -/
def TLY_SEL_START : Field := ⟨0x160020, 0, 24, 0⟩
/-- Table 23.6 (R513): RW, reset 0. R510; AREA 0 ring, 1 first-fault, 2–3 taken as 0 -/
def TLY_SEL_AREA : Field := ⟨0x160020, 24, 2, 0⟩
/-- Table 23.6 (R513): RO, reset 0. R510; AREA 0 ring, 1 first-fault, 2–3 taken as 0 -/
def TLY_SEL_VALID : Field := ⟨0x160020, 31, 1, 0⟩
/-- Table 23.6 (R513): RO, reset 0. word w of the selected record -/
def TLY_DATA_DATA (i0 : Nat) : Field := ⟨0x160040 + 4 * (i0 % 16), 0, 32, 0⟩
/-- Table 24.6 (R528): RW, reset 0. R526 -/
def EVT_INJ_KIND : Field := ⟨0x170000, 0, 3, 0⟩
/-- Table 24.6 (R528): RW, reset 0. R526 -/
def EVT_INJ_ID : Field := ⟨0x170000, 4, 4, 0⟩
/-- Table 24.6 (R528): RW, reset 0. R526 -/
def EVT_INJ_COUNT : Field := ⟨0x170000, 8, 8, 0⟩
/-- Table 24.6 (R528): W1S, reset 0. R526 -/
def EVT_INJ_ARM : Field := ⟨0x170000, 31, 1, 0⟩
/-- Table 24.6 (R528): RO, reset 0. injections left; done -/
def EVT_INJ_STATUS_PENDING : Field := ⟨0x170004, 0, 16, 0⟩
/-- Table 24.6 (R528): RC, reset 0. injections left; done -/
def EVT_INJ_STATUS_DONE : Field := ⟨0x170004, 16, 16, 0⟩
/-- Table 24.6 (R528): WO, reset —. R526 -/
def EVT_RAISE_SOURCE : Field := ⟨0x170008, 0, 7, 0⟩
/-- Table 24.6 (R528): RC, reset 0. memory m, saturating -/
def EVT_ECC_CNT_CE (i0 : Nat) : Field := ⟨0x170040 + 4 * (i0 % 16), 0, 16, 0⟩
/-- Table 24.6 (R528): RC, reset 0. memory m, saturating -/
def EVT_ECC_CNT_UE (i0 : Nat) : Field := ⟨0x170040 + 4 * (i0 % 16), 16, 16, 0⟩
/-- Table 24.6 (R528): RO, reset 0. last UE -/
def EVT_ECC_LAST_ADDR : Field := ⟨0x170080, 0, 40, 0⟩
/-- Table 24.6 (R528): RO, reset 0. last UE -/
def EVT_ECC_LAST_ID : Field := ⟨0x170080, 44, 4, 0⟩
/-- Table 24.6 (R528): RC, reset 0. link l of Table 24.5 -/
def EVT_LINK_CNT_REPLAYS (i0 : Nat) : Field := ⟨0x1700a0 + 4 * (i0 % 4), 0, 16, 0⟩
/-- Table 24.6 (R528): RC, reset 0. link l of Table 24.5 -/
def EVT_LINK_CNT_RETRAINS (i0 : Nat) : Field := ⟨0x1700a0 + 4 * (i0 % 4), 16, 8, 0⟩
/-- Table 24.6 (R528): RO, reset 2. link l of Table 24.5 -/
def EVT_LINK_CNT_LANES (i0 : Nat) : Field := ⟨0x1700a0 + 4 * (i0 % 4), 24, 2, 2⟩
/-- Table 24.6 (R528): RO, reset 0 (spar). R523: LOSSES, losses in the loss record (last 600 s of RTC time); LOSS_LIMIT 1–15 -/
def EVT_CDLOSS_LOSSES : Field := ⟨0x1700c0, 0, 8, 0⟩
/-- Table 24.6 (R528): RO, reset 0 (spar). R523: LOSSES, losses in the loss record (last 600 s of RTC time); LOSS_LIMIT 1–15 -/
def EVT_CDLOSS_HALTED : Field := ⟨0x1700c0, 8, 1, 0⟩
/-- Table 24.6 (R528): RWS, reset 4. R523: LOSSES, losses in the loss record (last 600 s of RTC time); LOSS_LIMIT 1–15 -/
def EVT_CDLOSS_LOSS_LIMIT : Field := ⟨0x1700c0, 16, 4, 4⟩
/-- Table 24.6 (R528): RWS, reset 10. minutes, 1–60 -/
def EVT_SCRUB_SCRUB_MIN : Field := ⟨0x1700c4, 0, 6, 10⟩

end Sys2Proof.Machine
end

