-- ==== Sys2Proof/Machine/RegTable.lean ====
section
/-! DEFINITION.
The register index of Table 28.4 as data: which registers exist, the fields of each, their access codes (Table 0.3),
reset values, what keeps them across a device reset (R9), the value range a write is taken to (the range rules of
R66, R91, R110, R140, R231 and their like) and the values a field table says are "taken as" another.
-/

namespace Sys2Proof.Machine

/-- Block 0, SPR (Tables 28.2 and 28.4). -/
def regTableSPR : List RegDesc :=
  [⟨"SPR_STATUS", 0x0, [], 0,
    [⟨0, 1, .ro, 0, .volatile, 0, 1, []⟩,
     ⟨1, 1, .ro, 0, .spar, 0, 1, []⟩,
     ⟨2, 1, .ro, 0, .spar, 0, 1, []⟩,
     ⟨8, 8, .ro, 33, .volatile, 0, 255, []⟩]⟩,
   ⟨"SPR_RTC", 0x10, [], 4,
    [⟨0, 48, .rw, 0, .spar, 0, 281474976710655, []⟩]⟩,
   ⟨"SPR_RTC_ALARM", 0x18, [], 4,
    [⟨0, 48, .rw, 0, .spar, 0, 281474976710655, []⟩]⟩,
   ⟨"SPR_DT", 0x20, [], 4,
    [⟨0, 64, .ro, 0, .volatile, 0, 18446744073709551615, []⟩]⟩,
   ⟨"SPR_DT_STATUS", 0x28, [], 0,
    [⟨0, 2, .ro, 0, .volatile, 0, 3, []⟩,
     ⟨8, 8, .ro, 0, .volatile, 0, 255, []⟩]⟩,
   ⟨"SPR_DT_CFG", 0x2c, [], 0,
    [⟨0, 17, .rws, 1000, .volatile, 10, 100000, []⟩,
     ⟨24, 8, .rws, 40, .volatile, 1, 255, []⟩]⟩,
   ⟨"SPR_WDG_CFG", 0x40, [], 0,
    [⟨0, 10, .rws, 1000, .volatile, 10, 1000, []⟩,
     ⟨12, 3, .rws, 0, .volatile, 0, 6, []⟩,
     ⟨16, 1, .rws, 0, .volatile, 0, 1, []⟩]⟩,
   ⟨"SPR_WDG_FEED", 0x44, [], 0,
    [⟨0, 32, .wo, 0, .volatile, 0, 4294967295, []⟩]⟩,
   ⟨"SPR_RST_CAUSE", 0x50, [], 0,
    [⟨0, 8, .rc, 0, .spar, 0, 255, []⟩]⟩,
   ⟨"SPR_RST_CMD", 0x54, [], 0,
    [⟨0, 32, .wo, 0, .volatile, 0, 4294967295, []⟩]⟩,
   ⟨"SPR_LIMP_CTL", 0x60, [], 0,
    [⟨0, 1, .w1s, 0, .volatile, 0, 1, []⟩,
     ⟨1, 1, .rws, 0, .volatile, 0, 1, []⟩,
     ⟨8, 4, .rws, 10, .volatile, 1, 15, []⟩]⟩,
   ⟨"SPR_LIMP_IN", 0x64, [], 0,
    [⟨0, 1, .ro, 0, .volatile, 0, 1, []⟩,
     ⟨1, 1, .ro, 0, .volatile, 0, 1, []⟩,
     ⟨2, 1, .w1c, 0, .spar, 0, 1, []⟩]⟩]

/-- Block 1, CLK (Tables 28.2 and 28.4). -/
def regTableCLK : List RegDesc :=
  [⟨"CLK_SRC", 0x10000, [], 0,
    [⟨0, 1, .rw, 0, .volatile, 0, 1, []⟩,
     ⟨1, 1, .rw, 0, .volatile, 0, 1, []⟩,
     ⟨2, 1, .rw, 0, .volatile, 0, 1, []⟩]⟩,
   ⟨"CLK_STATUS", 0x10004, [], 0,
    [⟨0, 1, .ro, 0, .volatile, 0, 1, []⟩,
     ⟨1, 1, .ro, 0, .volatile, 0, 1, []⟩,
     ⟨2, 1, .ro, 0, .volatile, 0, 1, []⟩,
     ⟨3, 1, .ro, 0, .volatile, 0, 1, []⟩,
     ⟨4, 1, .ro, 0, .volatile, 0, 1, []⟩,
     ⟨5, 1, .ro, 0, .volatile, 0, 1, []⟩,
     ⟨6, 1, .w1c, 0, .volatile, 0, 1, []⟩,
     ⟨7, 1, .w1c, 0, .volatile, 0, 1, []⟩]⟩,
   ⟨"CLK_PLL_CFG", 0x10010, [], 0,
    [⟨0, 6, .rws, 4, .volatile, 4, 32, []⟩,
     ⟨8, 1, .rw, 0, .volatile, 0, 1, []⟩,
     ⟨9, 1, .rw, 0, .volatile, 0, 1, []⟩,
     ⟨10, 1, .rw, 1, .volatile, 0, 1, []⟩]⟩]

/-- Block 2, PWR (Tables 28.2 and 28.4). -/
def regTablePWR : List RegDesc :=
  [⟨"PWR_NEXT", 0x20000, [], 0,
    [⟨0, 3, .rw, 0, .volatile, 0, 7, []⟩,
     ⟨8, 1, .rw, 0, .volatile, 0, 1, []⟩]⟩,
   ⟨"PWR_CTL", 0x20004, [], 0,
    [⟨0, 1, .rws, 0, .volatile, 0, 1, []⟩,
     ⟨1, 2, .rws, 1, .volatile, 0, 3, [(0, 0, 1), (3, 3, 1)]⟩,
     ⟨3, 1, .rws, 0, .volatile, 0, 1, []⟩,
     ⟨4, 1, .rws, 0, .volatile, 0, 1, []⟩,
     ⟨5, 1, .rws, 0, .volatile, 0, 1, []⟩,
     ⟨8, 8, .rws, 20, .volatile, 1, 100, []⟩]⟩,
   ⟨"PWR_SAF_ACK", 0x20008, [], 0,
    [⟨0, 1, .w1s, 0, .volatile, 0, 1, []⟩]⟩,
   ⟨"PWR_IDLE_CFG", 0x20010, [], 0,
    [⟨0, 8, .rws, 10, .volatile, 1, 255, []⟩,
     ⟨8, 8, .rws, 0, .volatile, 0, 255, []⟩,
     ⟨16, 8, .rws, 0, .volatile, 0, 255, []⟩]⟩,
   ⟨"PWR_ADAPT", 0x20014, [], 0,
    [⟨0, 8, .rws, 5, .volatile, 1, 255, []⟩,
     ⟨8, 8, .rws, 50, .volatile, 0, 255, [(0, 0, 1)]⟩,
     ⟨16, 1, .rws, 0, .volatile, 0, 1, []⟩,
     ⟨20, 12, .ro, 5, .volatile, 0, 4095, []⟩]⟩,
   ⟨"PWR_RETAIN", 0x20018, [], 4,
    [⟨0, 48, .rw, 0, .volatile, 0, 281474976710655, []⟩]⟩,
   ⟨"PWR_KEEP_OUT", 0x20020, [], 0,
    [⟨0, 12, .rw, 0, .volatile, 0, 4095, []⟩]⟩,
   ⟨"PWR_KEEP_LED", 0x20024, [], 0,
    [⟨0, 24, .rw, 0, .volatile, 0, 16777215, []⟩]⟩,
   ⟨"PWR_RESUME", 0x20028, [], 0,
    [⟨0, 6, .rw, 0, .volatile, 0, 63, []⟩]⟩,
   ⟨"PWR_STATUS", 0x20030, [], 0,
    [⟨0, 3, .ro, 0, .spar, 0, 7, []⟩,
     ⟨4, 4, .ro, 0, .volatile, 0, 15, []⟩,
     ⟨8, 1, .ro, 0, .volatile, 0, 1, []⟩,
     ⟨16, 8, .rc, 0, .volatile, 0, 255, []⟩]⟩,
   ⟨"PWR_DOM_STATUS", 0x20034, [(5, 4)], 0,
    [⟨0, 32, .ro, 0, .volatile, 0, 4294967295, []⟩]⟩,
   ⟨"PWR_PINS", 0x20050, [], 0,
    [⟨0, 4, .ro, 0, .volatile, 0, 15, []⟩,
     ⟨4, 4, .w1c, 0, .volatile, 0, 15, []⟩,
     ⟨8, 12, .ro, 0, .volatile, 0, 4095, []⟩,
     ⟨20, 1, .ro, 1, .spar, 0, 1, []⟩,
     ⟨21, 1, .ro, 0, .volatile, 0, 1, []⟩]⟩]

/-- Block 3, WAK (Tables 28.2 and 28.4). -/
def regTableWAK : List RegDesc :=
  [⟨"WAK_ARM", 0x30000, [], 0,
    [⟨0, 1, .ro, 1, .volatile, 0, 1, []⟩,
     ⟨1, 8, .rw, 0, .volatile, 0, 255, []⟩]⟩,
   ⟨"WAK_BUS_EN", 0x30004, [], 0,
    [⟨0, 18, .rw, 0, .volatile, 0, 262143, []⟩]⟩,
   ⟨"WAK_SI_EN", 0x30008, [], 4,
    [⟨0, 48, .rw, 0, .volatile, 0, 281474976710655, []⟩]⟩,
   ⟨"WAK_FILT", 0x30010, [], 0,
    [⟨0, 8, .rws, 10, .volatile, 1, 255, []⟩,
     ⟨8, 3, .rws, 2, .volatile, 1, 4, []⟩,
     ⟨12, 4, .rws, 2, .volatile, 1, 10, []⟩,
     ⟨16, 1, .rws, 1, .volatile, 0, 1, []⟩]⟩,
   ⟨"WAK_REASON", 0x30020, [], 0,
    [⟨0, 5, .ro, 0, .spar, 0, 31, []⟩,
     ⟨8, 6, .ro, 0, .spar, 0, 63, []⟩,
     ⟨16, 2, .ro, 0, .spar, 0, 3, []⟩]⟩,
   ⟨"WAK_SEEN", 0x30024, [], 0,
    [⟨0, 16, .rc, 0, .spar, 0, 65535, []⟩]⟩,
   ⟨"WAK_FAIL", 0x30028, [], 0,
    [⟨0, 4, .ro, 0, .spar, 0, 15, []⟩,
     ⟨4, 1, .ro, 0, .spar, 0, 1, []⟩,
     ⟨8, 4, .ro, 0, .spar, 0, 15, []⟩,
     ⟨16, 8, .rc, 0, .spar, 0, 255, []⟩,
     ⟨24, 8, .rc, 0, .spar, 0, 255, []⟩]⟩]

/-- Block 4, CHN (Tables 28.2 and 28.4). -/
def regTableCHN : List RegDesc :=
  [⟨"CHN_PORT_CFG", 0x40000, [], 0,
    [⟨0, 2, .rws, 0, .volatile, 0, 3, [(3, 3, 2)]⟩,
     ⟨2, 2, .rws, 0, .volatile, 0, 3, [(3, 3, 2)]⟩,
     ⟨4, 1, .rws, 0, .volatile, 0, 1, []⟩,
     ⟨5, 1, .rws, 1, .volatile, 0, 1, []⟩,
     ⟨8, 1, .rws, 1, .volatile, 0, 1, []⟩,
     ⟨12, 4, .rws, 11, .volatile, 0, 15, [(1, 7, 0), (8, 8, 9)]⟩]⟩,
   ⟨"CHN_ZCFG", 0x40004, [], 0,
    [⟨0, 16, .rws, 34997, .volatile, 0, 65535, []⟩,
     ⟨16, 12, .rws, 0, .volatile, 0, 4095, []⟩]⟩,
   ⟨"CHN_ADDR", 0x40008, [], 0,
    [⟨0, 6, .ro, 62, .spar, 0, 63, []⟩,
     ⟨8, 6, .rws, 0, .volatile, 0, 63, []⟩,
     ⟨16, 8, .ro, 255, .volatile, 0, 255, []⟩]⟩,
   ⟨"CHN_UID", 0x40010, [(4, 4)], 0,
    [⟨0, 32, .ro, 0, .nonvolatile, 0, 4294967295, []⟩]⟩,
   ⟨"CHN_CRUISE", 0x40020, [], 0,
    [⟨0, 16, .ro, 0, .volatile, 0, 65535, []⟩,
     ⟨16, 1, .ro, 0, .volatile, 0, 1, []⟩,
     ⟨17, 1, .ro, 0, .volatile, 0, 1, []⟩,
     ⟨24, 8, .ro, 0, .volatile, 0, 255, []⟩]⟩,
   ⟨"CHN_BYPASS", 0x40030, [], 0,
    [⟨0, 1, .ro, 0, .volatile, 0, 1, []⟩,
     ⟨1, 1, .rw, 0, .volatile, 0, 1, []⟩,
     ⟨2, 1, .w1s, 0, .volatile, 0, 1, []⟩,
     ⟨3, 1, .rws, 0, .volatile, 0, 1, []⟩,
     ⟨4, 4, .ro, 0, .spar, 0, 15, []⟩,
     ⟨8, 16, .rc, 0, .volatile, 0, 65535, []⟩]⟩,
   ⟨"CHN_REMOTE", 0x40040, [], 0,
    [⟨0, 6, .rws, 5, .volatile, 1, 50, []⟩,
     ⟨8, 8, .rws, 20, .volatile, 5, 200, []⟩,
     ⟨16, 8, .rws, 50, .volatile, 5, 255, []⟩,
     ⟨24, 8, .rws, 20, .volatile, 5, 255, []⟩]⟩,
   ⟨"CHN_ATTACH", 0x40044, [], 0,
    [⟨0, 8, .ro, 0, .volatile, 0, 255, []⟩]⟩,
   ⟨"CHN_MAINT", 0x40050, [], 0,
    [⟨0, 1, .rws, 0, .volatile, 0, 1, []⟩,
     ⟨8, 8, .rc, 0, .spar, 0, 255, []⟩]⟩,
   ⟨"CHN_MAINT_CTR", 0x40054, [], 0,
    [⟨0, 32, .ro, 0, .nonvolatile, 0, 4294967295, []⟩]⟩,
   ⟨"CHN_SLEEP", 0x40058, [], 0,
    [⟨0, 1, .rw, 0, .volatile, 0, 1, []⟩,
     ⟨1, 1, .rws, 1, .volatile, 0, 1, []⟩,
     ⟨2, 2, .w1s, 0, .volatile, 0, 3, []⟩]⟩,
   ⟨"CHN_CNT", 0x40060, [], 0,
    [⟨0, 16, .rc, 0, .volatile, 0, 65535, []⟩,
     ⟨16, 16, .rc, 0, .volatile, 0, 65535, []⟩]⟩]

/-- Block 5, PAR (Tables 28.2 and 28.4). -/
def regTablePAR0 : List RegDesc :=
  [⟨"PAR_LAYOUT_ADDR", 0x50000, [], 4,
    [⟨0, 40, .rws, 0, .volatile, 0, 1099511627775, []⟩]⟩,
   ⟨"PAR_LAYOUT_CTL", 0x50008, [], 0,
    [⟨0, 1, .w1s, 0, .volatile, 0, 1, []⟩]⟩,
   ⟨"PAR_LAYOUT_STATUS", 0x5000c, [], 0,
    [⟨0, 4, .ro, 0, .volatile, 0, 15, []⟩,
     ⟨8, 24, .ro, 0, .volatile, 0, 16777215, []⟩]⟩,
   ⟨"PAR_SEAL", 0x50010, [], 0,
    [⟨0, 32, .wo, 0, .volatile, 0, 4294967295, []⟩]⟩,
   ⟨"PAR_SEAL_STATUS", 0x50014, [], 0,
    [⟨0, 1, .ro, 0, .volatile, 0, 1, []⟩,
     ⟨1, 3, .ro, 0, .volatile, 0, 7, []⟩,
     ⟨16, 16, .rc, 0, .volatile, 0, 65535, []⟩]⟩,
   ⟨"PAR_STATE", 0x50020, [], 0,
    [⟨0, 4, .ro, 1, .volatile, 0, 15, []⟩,
     ⟨4, 4, .ro, 0, .volatile, 0, 15, []⟩,
     ⟨8, 4, .ro, 0, .volatile, 0, 15, []⟩,
     ⟨12, 4, .ro, 0, .volatile, 0, 15, []⟩,
     ⟨16, 4, .ro, 0, .volatile, 0, 15, []⟩,
     ⟨20, 4, .ro, 0, .volatile, 0, 15, []⟩,
     ⟨24, 4, .ro, 0, .volatile, 0, 15, []⟩,
     ⟨28, 4, .ro, 0, .volatile, 0, 15, []⟩]⟩,
   ⟨"PAR_RST", 0x50024, [], 0,
    [⟨0, 3, .wo, 0, .volatile, 0, 7, []⟩,
     ⟨16, 16, .wo, 0, .volatile, 0, 65535, []⟩]⟩,
   ⟨"PAR_RST_CFG", 0x50028, [], 0,
    [⟨0, 1, .rws, 0, .volatile, 0, 1, []⟩,
     ⟨8, 8, .rc, 0, .volatile, 0, 255, []⟩]⟩,
   ⟨"PAR_FAULT", 0x50030, [], 0,
    [⟨0, 3, .ro, 0, .volatile, 0, 7, []⟩,
     ⟨4, 3, .ro, 0, .volatile, 0, 7, []⟩,
     ⟨8, 2, .ro, 0, .volatile, 0, 3, []⟩,
     ⟨16, 16, .rc, 0, .volatile, 0, 65535, []⟩]⟩,
   ⟨"PAR_EVT_CNT", 0x50040, [(8, 4)], 0,
    [⟨0, 16, .rc, 0, .volatile, 0, 65535, []⟩,
     ⟨16, 16, .rc, 0, .volatile, 0, 65535, []⟩]⟩,
   ⟨"PAR_BUDGET", 0x50060, [(8, 4)], 0,
    [⟨0, 1, .ro, 0, .volatile, 0, 1, []⟩,
     ⟨1, 1, .ro, 0, .volatile, 0, 1, []⟩,
     ⟨2, 1, .ro, 0, .volatile, 0, 1, []⟩,
     ⟨8, 8, .rc, 0, .volatile, 0, 255, []⟩]⟩,
   ⟨"PAR_SSET_ADDR", 0x50080, [], 4,
    [⟨0, 40, .rws, 0, .volatile, 0, 1099511627775, []⟩]⟩]

def regTablePAR1 : List RegDesc :=
  [⟨"PAR_SSET_CTL", 0x50088, [], 0,
    [⟨0, 1, .w1s, 0, .volatile, 0, 1, []⟩]⟩,
   ⟨"PAR_SSET_STATUS", 0x5008c, [], 0,
    [⟨0, 4, .ro, 0, .volatile, 0, 15, []⟩,
     ⟨4, 4, .ro, 0, .volatile, 0, 15, []⟩,
     ⟨8, 24, .ro, 0, .volatile, 0, 16777215, []⟩]⟩,
   ⟨"PAR_SSET_ID", 0x50090, [], 0,
    [⟨0, 32, .ro, 0, .volatile, 0, 4294967295, []⟩]⟩]

/-- Block 5, PAR. -/
def regTablePAR : List RegDesc := regTablePAR0 ++ regTablePAR1

/-- Block 6, RNG (Tables 28.2 and 28.4). -/
def regTableRNG : List RegDesc :=
  [⟨"RNG_SEL", 0x60000, [], 0,
    [⟨0, 3, .rw, 0, .volatile, 0, 7, []⟩,
     ⟨4, 3, .rw, 0, .volatile, 0, 7, [(7, 7, 6)]⟩,
     ⟨8, 3, .rw, 0, .volatile, 0, 7, [(6, 7, 5)]⟩]⟩,
   ⟨"RNG_BASE", 0x60004, [], 4,
    [⟨0, 48, .rw, 0, .volatile, 0, 281474976710655, []⟩]⟩,
   ⟨"RNG_CFG", 0x6000c, [], 0,
    [⟨0, 4, .rw, 4, .volatile, 0, 15, []⟩,
     ⟨4, 2, .rw, 0, .volatile, 0, 3, []⟩,
     ⟨8, 1, .rw, 0, .volatile, 0, 1, []⟩]⟩,
   ⟨"RNG_SHADOW", 0x60010, [], 4,
    [⟨0, 48, .rw, 0, .volatile, 0, 281474976710655, []⟩]⟩,
   ⟨"RNG_CMD", 0x60018, [], 0,
    [⟨0, 2, .wo, 0, .volatile, 0, 3, []⟩]⟩,
   ⟨"RNG_STATUS", 0x6001c, [], 0,
    [⟨0, 1, .ro, 0, .volatile, 0, 1, []⟩,
     ⟨4, 4, .ro, 0, .volatile, 0, 15, []⟩,
     ⟨8, 7, .ro, 0, .volatile, 0, 127, []⟩]⟩,
   ⟨"RNG_IDX", 0x60020, [], 0,
    [⟨0, 32, .ro, 0, .volatile, 0, 4294967295, []⟩]⟩,
   ⟨"RNG_IDX2", 0x60024, [], 0,
    [⟨0, 32, .ro, 0, .volatile, 0, 4294967295, []⟩]⟩,
   ⟨"RNG_CNT", 0x60028, [], 0,
    [⟨0, 16, .rc, 0, .volatile, 0, 65535, []⟩,
     ⟨16, 16, .rc, 0, .volatile, 0, 65535, []⟩]⟩]

/-- Block 7, ACT (Tables 28.2 and 28.4). -/
def regTableACT0 : List RegDesc :=
  [⟨"ACT_LIMP_ADDR", 0x70000, [], 4,
    [⟨0, 40, .rws, 0, .volatile, 0, 1099511627775, []⟩]⟩,
   ⟨"ACT_LIMP_CTL", 0x70008, [], 0,
    [⟨0, 1, .w1s, 0, .volatile, 0, 1, []⟩]⟩,
   ⟨"ACT_LIMP_STATUS", 0x7000c, [], 0,
    [⟨0, 4, .ro, 0, .volatile, 0, 15, []⟩,
     ⟨8, 24, .ro, 0, .volatile, 0, 16777215, []⟩]⟩,
   ⟨"ACT_LIMP_INFO", 0x70010, [], 0,
    [⟨0, 1, .ro, 0, .nonvolatile, 0, 1, []⟩,
     ⟨8, 8, .ro, 0, .nonvolatile, 0, 255, []⟩,
     ⟨16, 16, .ro, 0, .nonvolatile, 0, 65535, []⟩]⟩,
   ⟨"ACT_LIMP_ID", 0x70014, [], 0,
    [⟨0, 32, .ro, 0, .nonvolatile, 0, 4294967295, []⟩]⟩,
   ⟨"ACT_LIMP_PAIR", 0x70018, [], 0,
    [⟨0, 32, .ro, 0, .nonvolatile, 0, 4294967295, []⟩]⟩,
   ⟨"ACT_SAFE_MAP0", 0x70020, [], 0,
    [⟨0, 32, .rws, 0, .volatile, 0, 4294967295, []⟩]⟩,
   ⟨"ACT_SAFE_MAP1", 0x70024, [], 0,
    [⟨0, 8, .rws, 0, .volatile, 0, 255, []⟩,
     ⟨8, 8, .rws, 0, .volatile, 0, 255, []⟩,
     ⟨16, 16, .rws, 0, .volatile, 0, 65535, []⟩]⟩,
   ⟨"ACT_SAFE_MAP2", 0x70028, [], 0,
    [⟨0, 24, .rws, 0, .volatile, 0, 16777215, []⟩]⟩,
   ⟨"ACT_SAFE_STATUS", 0x70030, [], 0,
    [⟨0, 16, .rc, 0, .volatile, 0, 65535, []⟩,
     ⟨16, 8, .ro, 0, .volatile, 0, 255, []⟩]⟩,
   ⟨"ACT_CLAIM", 0x70040, [(8, 4)], 0,
    [⟨0, 5, .ro, 0, .volatile, 0, 31, []⟩,
     ⟨8, 5, .ro, 0, .volatile, 0, 31, []⟩,
     ⟨16, 3, .ro, 0, .volatile, 0, 7, []⟩,
     ⟨31, 1, .ro, 0, .volatile, 0, 1, []⟩]⟩,
   ⟨"ACT_CNT", 0x70060, [], 0,
    [⟨0, 16, .rc, 0, .volatile, 0, 65535, []⟩,
     ⟨16, 16, .rc, 0, .volatile, 0, 65535, []⟩]⟩]

def regTableACT1 : List RegDesc :=
  [⟨"ACT_CNT2", 0x70064, [], 0,
    [⟨0, 16, .rc, 0, .volatile, 0, 65535, []⟩]⟩]

/-- Block 7, ACT. -/
def regTableACT : List RegDesc := regTableACT0 ++ regTableACT1

/-- Block 8, HS (Tables 28.2 and 28.4). -/
def regTableHS : List RegDesc :=
  [⟨"HS_CFG", 0x80000, [(8, 8)], 0,
    [⟨0, 8, .rws, 16, .volatile, 0, 96, []⟩,
     ⟨8, 4, .rws, 0, .volatile, 0, 15, []⟩,
     ⟨12, 2, .rws, 1, .volatile, 0, 3, []⟩,
     ⟨16, 4, .rws, 0, .volatile, 0, 15, []⟩,
     ⟨20, 1, .rws, 0, .volatile, 0, 1, []⟩,
     ⟨21, 1, .rws, 1, .volatile, 0, 1, []⟩,
     ⟨24, 4, .rws, 0, .volatile, 0, 15, []⟩,
     ⟨28, 3, .rws, 0, .volatile, 0, 7, []⟩,
     ⟨31, 1, .rws, 0, .volatile, 0, 1, []⟩]⟩,
   ⟨"HS_CFG", 0x80040, [(12, 8)], 0,
    [⟨0, 8, .rws, 16, .volatile, 0, 68, []⟩,
     ⟨8, 4, .rws, 0, .volatile, 0, 15, []⟩,
     ⟨12, 2, .rws, 1, .volatile, 0, 3, []⟩,
     ⟨16, 4, .rws, 0, .volatile, 0, 15, []⟩,
     ⟨20, 1, .rws, 0, .volatile, 0, 1, []⟩,
     ⟨21, 1, .rws, 1, .volatile, 0, 1, []⟩,
     ⟨24, 4, .rws, 0, .volatile, 0, 15, []⟩,
     ⟨28, 3, .rws, 0, .volatile, 0, 7, []⟩,
     ⟨31, 1, .rws, 0, .volatile, 0, 1, []⟩]⟩,
   ⟨"HS_CFG", 0x800a0, [(12, 8)], 0,
    [⟨0, 8, .rws, 16, .volatile, 0, 36, []⟩,
     ⟨8, 4, .rws, 0, .volatile, 0, 15, []⟩,
     ⟨12, 2, .rws, 1, .volatile, 0, 3, []⟩,
     ⟨16, 4, .rws, 0, .volatile, 0, 15, []⟩,
     ⟨20, 1, .rws, 0, .volatile, 0, 1, []⟩,
     ⟨21, 1, .rws, 1, .volatile, 0, 1, []⟩,
     ⟨24, 4, .rws, 0, .volatile, 0, 15, []⟩,
     ⟨28, 3, .rws, 0, .volatile, 0, 7, []⟩,
     ⟨31, 1, .rws, 0, .volatile, 0, 1, []⟩]⟩,
   ⟨"HS_DIAG", 0x80004, [(8, 8)], 0,
    [⟨0, 10, .rws, 20, .volatile, 5, 100, []⟩,
     ⟨10, 6, .rws, 5, .volatile, 1, 32, []⟩,
     ⟨16, 8, .rws, 140, .volatile, 100, 160, []⟩]⟩,
   ⟨"HS_DIAG", 0x80044, [(12, 8)], 0,
    [⟨0, 10, .rws, 20, .volatile, 4, 80, []⟩,
     ⟨10, 6, .rws, 5, .volatile, 1, 32, []⟩,
     ⟨16, 8, .rws, 140, .volatile, 100, 160, []⟩]⟩,
   ⟨"HS_DIAG", 0x800a4, [(12, 8)], 0,
    [⟨0, 10, .rws, 20, .volatile, 2, 100, []⟩,
     ⟨10, 6, .rws, 5, .volatile, 1, 32, []⟩,
     ⟨16, 8, .rws, 140, .volatile, 100, 160, []⟩]⟩,
   ⟨"HS_MEAS", 0x80100, [(32, 8)], 0,
    [⟨0, 16, .ro, 0, .volatile, 0, 65535, []⟩,
     ⟨16, 10, .ro, 0, .volatile, 0, 1023, []⟩]⟩,
   ⟨"HS_STATE", 0x80104, [(32, 8)], 0,
    [⟨0, 4, .ro, 0, .volatile, 0, 15, []⟩,
     ⟨4, 1, .ro, 0, .volatile, 0, 1, []⟩,
     ⟨5, 1, .ro, 0, .volatile, 0, 1, []⟩,
     ⟨6, 1, .ro, 0, .volatile, 0, 1, []⟩,
     ⟨7, 1, .ro, 0, .volatile, 0, 1, []⟩,
     ⟨8, 1, .ro, 0, .volatile, 0, 1, []⟩,
     ⟨12, 4, .ro, 0, .volatile, 0, 15, []⟩,
     ⟨16, 8, .ro, 0, .volatile, 0, 255, []⟩,
     ⟨24, 8, .ro, 0, .spar, 0, 255, []⟩]⟩,
   ⟨"HS_WIRE_R", 0x80208, [(15, 8)], 0,
    [⟨0, 16, .rws, 0, .volatile, 0, 65535, []⟩,
     ⟨16, 16, .rws, 1, .volatile, 1, 6000, []⟩]⟩,
   ⟨"HS_WIRE_I", 0x8020c, [(15, 8)], 0,
    [⟨0, 8, .rws, 0, .volatile, 0, 255, []⟩]⟩,
   ⟨"HS_PROF_SEG", 0x80400, [(32, 32), (8, 4)], 0,
    [⟨0, 14, .rws, 0, .volatile, 0, 10000, []⟩,
     ⟨14, 1, .rws, 0, .volatile, 0, 1, []⟩,
     ⟨15, 1, .rws, 0, .volatile, 0, 1, []⟩,
     ⟨16, 16, .rws, 0, .volatile, 0, 65535, []⟩]⟩,
   ⟨"HS_PROF_CFG", 0x80800, [(32, 4)], 0,
    [⟨0, 12, .rws, 100, .volatile, 0, 4095, []⟩,
     ⟨12, 1, .rws, 0, .volatile, 0, 1, []⟩]⟩,
   ⟨"HS_CNT", 0x80900, [], 0,
    [⟨0, 16, .rc, 0, .volatile, 0, 65535, []⟩,
     ⟨16, 16, .rc, 0, .volatile, 0, 65535, []⟩]⟩,
   ⟨"HS_CNT2", 0x80904, [], 0,
    [⟨0, 16, .rc, 0, .volatile, 0, 65535, []⟩,
     ⟨16, 16, .rc, 0, .volatile, 0, 65535, []⟩]⟩,
   ⟨"HS_COMP", 0x80908, [], 0,
    [⟨0, 10, .rws, 260, .volatile, 160, 640, []⟩]⟩]

/-- Block 9, HB (Tables 28.2 and 28.4). -/
def regTableHB0 : List RegDesc :=
  [⟨"HB_PAIR", 0x90000, [], 0,
    [⟨0, 3, .rws, 0, .volatile, 0, 7, []⟩,
     ⟨3, 1, .rws, 0, .volatile, 0, 1, []⟩,
     ⟨4, 3, .rws, 0, .volatile, 0, 7, []⟩,
     ⟨7, 1, .rws, 0, .volatile, 0, 1, []⟩,
     ⟨8, 3, .rws, 0, .volatile, 0, 7, []⟩,
     ⟨11, 1, .rws, 0, .volatile, 0, 1, []⟩,
     ⟨12, 3, .rws, 0, .volatile, 0, 7, []⟩,
     ⟨15, 1, .rws, 0, .volatile, 0, 1, []⟩,
     ⟨16, 3, .rws, 0, .volatile, 0, 7, []⟩,
     ⟨19, 1, .rws, 0, .volatile, 0, 1, []⟩,
     ⟨20, 3, .rws, 0, .volatile, 0, 7, []⟩,
     ⟨23, 1, .rws, 0, .volatile, 0, 1, []⟩,
     ⟨24, 3, .rws, 0, .volatile, 0, 7, []⟩,
     ⟨27, 1, .rws, 0, .volatile, 0, 1, []⟩,
     ⟨28, 3, .rws, 0, .volatile, 0, 7, []⟩,
     ⟨31, 1, .rws, 0, .volatile, 0, 1, []⟩]⟩,
   ⟨"HB_CFG", 0x90040, [(8, 32)], 0,
    [⟨0, 8, .rws, 176, .volatile, 0, 208, []⟩,
     ⟨8, 6, .rws, 10, .volatile, 2, 40, []⟩,
     ⟨14, 2, .rws, 0, .volatile, 0, 3, [(3, 3, 0)]⟩,
     ⟨16, 4, .rws, 0, .volatile, 0, 15, []⟩,
     ⟨20, 8, .rws, 10, .volatile, 1, 100, []⟩,
     ⟨28, 1, .rws, 0, .volatile, 0, 1, []⟩,
     ⟨29, 1, .rws, 0, .volatile, 0, 1, []⟩]⟩,
   ⟨"HB_DIAG", 0x90044, [(8, 32)], 0,
    [⟨0, 8, .rws, 20, .volatile, 1, 255, []⟩,
     ⟨8, 6, .rws, 5, .volatile, 1, 32, []⟩,
     ⟨16, 8, .rws, 140, .volatile, 100, 160, []⟩]⟩,
   ⟨"HB_RIP", 0x90048, [(8, 32)], 0,
    [⟨0, 10, .rws, 20, .volatile, 5, 1000, []⟩,
     ⟨10, 14, .rws, 4000, .volatile, 100, 10000, []⟩,
     ⟨24, 6, .rws, 8, .volatile, 1, 50, []⟩]⟩,
   ⟨"HB_STALL", 0x9004c, [(8, 32)], 0,
    [⟨0, 8, .rws, 50, .volatile, 5, 250, []⟩,
     ⟨8, 8, .rws, 40, .volatile, 0, 255, []⟩,
     ⟨16, 8, .rws, 0, .volatile, 0, 255, []⟩,
     ⟨24, 2, .rws, 2, .volatile, 0, 3, []⟩]⟩,
   ⟨"HB_REV", 0x90050, [(8, 32)], 0,
    [⟨0, 14, .rws, 8000, .volatile, 1000, 10000, []⟩,
     ⟨16, 10, .rws, 100, .volatile, 0, 1023, []⟩]⟩,
   ⟨"HB_REV2", 0x90054, [(8, 32)], 0,
    [⟨0, 11, .rws, 300, .volatile, 10, 2000, []⟩]⟩,
   ⟨"HB_POS", 0x90058, [(8, 32)], 0,
    [⟨0, 32, .ro, 0, .spar, 0, 4294967295, []⟩]⟩,
   ⟨"HB_STATE", 0x9005c, [(8, 32)], 0,
    [⟨0, 4, .ro, 0, .volatile, 0, 15, []⟩,
     ⟨4, 1, .ro, 0, .volatile, 0, 1, []⟩,
     ⟨5, 1, .ro, 0, .volatile, 0, 1, []⟩,
     ⟨6, 1, .ro, 0, .volatile, 0, 1, []⟩,
     ⟨7, 1, .ro, 0, .volatile, 0, 1, []⟩,
     ⟨8, 1, .ro, 0, .spar, 0, 1, []⟩,
     ⟨9, 2, .ro, 0, .volatile, 0, 3, []⟩,
     ⟨12, 3, .ro, 0, .volatile, 0, 7, []⟩,
     ⟨16, 8, .ro, 0, .volatile, 0, 255, []⟩]⟩,
   ⟨"HB_MEAS", 0x90200, [(8, 8)], 0,
    [⟨0, 16, .ro, 0, .volatile, 0, 65535, []⟩,
     ⟨16, 10, .ro, 0, .volatile, 0, 1023, []⟩]⟩,
   ⟨"HB_RIPF", 0x90204, [(8, 8)], 0,
    [⟨0, 16, .ro, 0, .volatile, 0, 65535, []⟩]⟩,
   ⟨"HB_CNT", 0x90300, [], 0,
    [⟨0, 16, .rc, 0, .volatile, 0, 65535, []⟩,
     ⟨16, 16, .rc, 0, .volatile, 0, 65535, []⟩]⟩]

def regTableHB1 : List RegDesc :=
  [⟨"HB_CNT2", 0x90304, [], 0,
    [⟨0, 16, .rc, 0, .volatile, 0, 65535, []⟩,
     ⟨16, 16, .rc, 0, .volatile, 0, 65535, []⟩]⟩,
   ⟨"HB_CNT3", 0x90308, [], 0,
    [⟨0, 16, .rc, 0, .volatile, 0, 65535, []⟩,
     ⟨16, 16, .rc, 0, .volatile, 0, 65535, []⟩]⟩]

/-- Block 9, HB. -/
def regTableHB : List RegDesc := regTableHB0 ++ regTableHB1

/-- Block 10, SV (Tables 28.2 and 28.4). -/
def regTableSV0 : List RegDesc :=
  [⟨"SV_PAIR", 0xa0000, [], 0,
    [⟨0, 4, .rws, 0, .volatile, 0, 15, []⟩]⟩,
   ⟨"SV_CFG", 0xa0040, [(8, 16)], 0,
    [⟨0, 8, .rws, 96, .volatile, 0, 144, []⟩,
     ⟨8, 2, .rws, 1, .volatile, 0, 3, [(3, 3, 2)]⟩,
     ⟨10, 1, .rws, 0, .volatile, 0, 1, []⟩,
     ⟨11, 1, .rws, 0, .volatile, 0, 1, []⟩,
     ⟨12, 2, .rws, 2, .volatile, 0, 3, []⟩,
     ⟨16, 4, .rws, 0, .volatile, 0, 15, []⟩,
     ⟨20, 8, .rws, 0, .volatile, 0, 250, []⟩]⟩,
   ⟨"SV_DIAG", 0xa0044, [(8, 16)], 0,
    [⟨0, 8, .rws, 10, .volatile, 1, 255, []⟩,
     ⟨8, 6, .rws, 4, .volatile, 1, 63, []⟩,
     ⟨16, 8, .rws, 140, .volatile, 100, 160, []⟩]⟩,
   ⟨"SV_KERF", 0xa0048, [(8, 16)], 0,
    [⟨0, 10, .rws, 5, .volatile, 0, 1023, []⟩,
     ⟨10, 10, .rws, 200, .volatile, 0, 1023, []⟩,
     ⟨20, 6, .rws, 20, .volatile, 1, 63, []⟩,
     ⟨26, 6, .rws, 10, .volatile, 1, 63, []⟩]⟩,
   ⟨"SV_LEARN", 0xa004c, [(8, 16)], 0,
    [⟨0, 5, .rws, 0, .volatile, 0, 31, []⟩,
     ⟨8, 1, .rws, 0, .volatile, 0, 1, []⟩,
     ⟨9, 7, .rws, 20, .volatile, 0, 127, []⟩,
     ⟨16, 7, .rws, 50, .volatile, 20, 100, []⟩]⟩,
   ⟨"SV_MEAS", 0xa0100, [(8, 16)], 0,
    [⟨0, 16, .ro, 0, .volatile, 0, 65535, []⟩,
     ⟨16, 10, .ro, 0, .volatile, 0, 1023, []⟩]⟩,
   ⟨"SV_STATE", 0xa0104, [(8, 16)], 0,
    [⟨0, 4, .ro, 0, .volatile, 0, 15, []⟩,
     ⟨4, 1, .ro, 0, .volatile, 0, 1, []⟩,
     ⟨5, 1, .ro, 0, .volatile, 0, 1, []⟩,
     ⟨6, 1, .ro, 0, .volatile, 0, 1, []⟩,
     ⟨7, 1, .ro, 0, .volatile, 0, 1, []⟩,
     ⟨8, 3, .ro, 0, .volatile, 0, 7, []⟩,
     ⟨12, 3, .ro, 0, .volatile, 0, 7, []⟩,
     ⟨16, 8, .ro, 0, .volatile, 0, 255, []⟩]⟩,
   ⟨"SV_KRES", 0xa0108, [(8, 16)], 0,
    [⟨0, 16, .ro, 0, .volatile, 0, 65535, []⟩,
     ⟨16, 16, .ro, 0, .volatile, 0, 65535, []⟩]⟩,
   ⟨"SV_LSTATE", 0xa010c, [(8, 16)], 0,
    [⟨0, 16, .ro, 0, .spar, 0, 65535, []⟩,
     ⟨16, 8, .ro, 0, .spar, 0, 255, []⟩,
     ⟨24, 3, .ro, 0, .spar, 0, 7, []⟩,
     ⟨27, 1, .ro, 0, .spar, 0, 1, []⟩]⟩,
   ⟨"SV_PROF_SEG0", 0xa0400, [(32, 64), (8, 8)], 0,
    [⟨0, 14, .rws, 0, .volatile, 0, 12000, []⟩,
     ⟨14, 2, .rws, 0, .volatile, 0, 3, []⟩,
     ⟨16, 16, .rws, 0, .volatile, 0, 65535, []⟩]⟩,
   ⟨"SV_PROF_SEG1", 0xa0404, [(32, 64), (8, 8)], 0,
    [⟨0, 2, .rws, 0, .volatile, 0, 3, [(3, 3, 2)]⟩,
     ⟨2, 1, .rws, 0, .volatile, 0, 1, []⟩,
     ⟨3, 1, .rws, 0, .volatile, 0, 1, []⟩,
     ⟨4, 1, .rws, 0, .volatile, 0, 1, []⟩]⟩,
   ⟨"SV_CNT", 0xa0c00, [], 0,
    [⟨0, 16, .rc, 0, .volatile, 0, 65535, []⟩,
     ⟨16, 16, .rc, 0, .volatile, 0, 65535, []⟩]⟩]

def regTableSV1 : List RegDesc :=
  [⟨"SV_CNT2", 0xa0c04, [], 0,
    [⟨0, 16, .rc, 0, .volatile, 0, 65535, []⟩,
     ⟨16, 16, .rc, 0, .volatile, 0, 65535, []⟩]⟩]

/-- Block 10, SV. -/
def regTableSV : List RegDesc := regTableSV0 ++ regTableSV1

/-- Block 11, LED (Tables 28.2 and 28.4). -/
def regTableLED : List RegDesc :=
  [⟨"LED_CFG", 0xb0000, [(24, 4)], 0,
    [⟨0, 10, .rws, 100, .volatile, 20, 800, []⟩,
     ⟨10, 1, .rws, 0, .volatile, 0, 1, []⟩,
     ⟨12, 5, .rws, 5, .volatile, 1, 31, []⟩]⟩,
   ⟨"LED_GRP_CFG", 0xb0080, [(3, 16)], 0,
    [⟨0, 4, .rws, 0, .volatile, 0, 12, []⟩,
     ⟨4, 8, .rws, 10, .volatile, 1, 255, []⟩,
     ⟨12, 1, .rws, 0, .volatile, 0, 1, []⟩,
     ⟨13, 1, .rws, 0, .volatile, 0, 1, []⟩]⟩,
   ⟨"LED_GRP_DER", 0xb0084, [(3, 16)], 0,
    [⟨0, 5, .rws, 1, .volatile, 0, 31, [(7, 7, 0), (24, 31, 0)]⟩,
     ⟨8, 8, .rws, 95, .volatile, 40, 150, []⟩,
     ⟨16, 7, .rws, 15, .volatile, 1, 100, []⟩,
     ⟨24, 7, .rws, 20, .volatile, 5, 100, []⟩]⟩,
   ⟨"LED_GRP_NTC", 0xb0088, [(3, 16)], 0,
    [⟨0, 16, .rws, 100, .volatile, 1, 65535, []⟩,
     ⟨16, 16, .rws, 3435, .volatile, 1000, 6000, []⟩]⟩,
   ⟨"LED_GSTAT", 0xb00c0, [(3, 4)], 0,
    [⟨0, 10, .ro, 0, .volatile, 0, 1023, []⟩,
     ⟨10, 7, .ro, 100, .volatile, 0, 127, []⟩,
     ⟨17, 1, .ro, 0, .volatile, 0, 1, []⟩,
     ⟨18, 1, .ro, 0, .volatile, 0, 1, []⟩]⟩,
   ⟨"LED_STATE", 0xb0100, [(24, 8)], 0,
    [⟨0, 4, .ro, 0, .volatile, 0, 15, []⟩,
     ⟨4, 1, .ro, 0, .volatile, 0, 1, []⟩,
     ⟨5, 1, .ro, 0, .volatile, 0, 1, []⟩,
     ⟨6, 1, .ro, 0, .volatile, 0, 1, []⟩,
     ⟨7, 1, .ro, 0, .volatile, 0, 1, []⟩,
     ⟨8, 1, .ro, 0, .volatile, 0, 1, []⟩,
     ⟨9, 1, .ro, 0, .volatile, 0, 1, []⟩,
     ⟨16, 8, .ro, 0, .volatile, 0, 255, []⟩]⟩,
   ⟨"LED_MEAS", 0xb0104, [(24, 8)], 0,
    [⟨0, 10, .ro, 0, .volatile, 0, 1023, []⟩,
     ⟨10, 10, .ro, 0, .volatile, 0, 1023, []⟩,
     ⟨20, 10, .ro, 0, .volatile, 0, 1023, []⟩]⟩,
   ⟨"LED_CNT", 0xb0200, [], 0,
    [⟨0, 16, .rc, 0, .volatile, 0, 65535, []⟩,
     ⟨16, 16, .rc, 0, .volatile, 0, 65535, []⟩]⟩]

/-- Block 12, FIO (Tables 28.2 and 28.4). -/
def regTableFIO : List RegDesc :=
  [⟨"FIO_CFG", 0xc0000, [(16, 8)], 0,
    [⟨0, 2, .rws, 0, .volatile, 0, 3, [(3, 3, 0)]⟩,
     ⟨2, 1, .rws, 0, .volatile, 0, 1, []⟩,
     ⟨3, 1, .rws, 0, .volatile, 0, 1, []⟩,
     ⟨4, 8, .rws, 30, .volatile, 0, 255, []⟩,
     ⟨12, 5, .rws, 8, .volatile, 0, 28, []⟩,
     ⟨17, 4, .rws, 0, .volatile, 0, 15, []⟩,
     ⟨21, 1, .rws, 0, .volatile, 0, 1, []⟩,
     ⟨22, 1, .rws, 0, .volatile, 0, 1, []⟩,
     ⟨23, 4, .rws, 0, .volatile, 0, 15, []⟩,
     ⟨27, 3, .rws, 0, .volatile, 0, 7, []⟩]⟩,
   ⟨"FIO_DIAG", 0xc0004, [(16, 8)], 0,
    [⟨0, 6, .rws, 4, .volatile, 1, 40, []⟩,
     ⟨6, 6, .rws, 5, .volatile, 1, 32, []⟩,
     ⟨12, 1, .rws, 1, .volatile, 0, 1, []⟩,
     ⟨16, 4, .rws, 0, .volatile, 0, 15, []⟩]⟩,
   ⟨"FIO_BLK", 0xc0080, [], 0,
    [⟨0, 6, .rws, 0, .volatile, 0, 63, [(1, 11, 12), (61, 63, 60)]⟩]⟩,
   ⟨"FIO_STATUS", 0xc0084, [], 0,
    [⟨0, 1, .ro, 0, .volatile, 0, 1, []⟩,
     ⟨16, 16, .ro, 0, .volatile, 0, 65535, []⟩]⟩,
   ⟨"FIO_IN", 0xc0088, [], 0,
    [⟨0, 16, .ro, 0, .volatile, 0, 65535, []⟩]⟩,
   ⟨"FIO_CAUSE", 0xc0100, [(16, 8)], 0,
    [⟨0, 1, .ro, 0, .volatile, 0, 1, []⟩,
     ⟨1, 1, .ro, 0, .volatile, 0, 1, []⟩,
     ⟨2, 1, .ro, 0, .volatile, 0, 1, []⟩,
     ⟨3, 1, .ro, 0, .volatile, 0, 1, []⟩,
     ⟨4, 1, .ro, 0, .volatile, 0, 1, []⟩,
     ⟨8, 4, .ro, 0, .volatile, 0, 15, []⟩,
     ⟨16, 8, .ro, 0, .volatile, 0, 255, []⟩]⟩,
   ⟨"FIO_MEAS", 0xc0104, [(16, 8)], 0,
    [⟨0, 12, .ro, 0, .volatile, 0, 4095, []⟩,
     ⟨12, 10, .ro, 0, .volatile, 0, 1023, []⟩,
     ⟨22, 10, .ro, 0, .volatile, 0, 1023, []⟩]⟩,
   ⟨"FIO_CNT", 0xc0200, [], 0,
    [⟨0, 16, .rc, 0, .volatile, 0, 65535, []⟩,
     ⟨16, 16, .rc, 0, .volatile, 0, 65535, []⟩]⟩]

/-- Block 13, SIN (Tables 28.2 and 28.4). -/
def regTableSIN : List RegDesc :=
  [⟨"SIN_CFG", 0xd0000, [(48, 4)], 0,
    [⟨0, 1, .rws, 0, .volatile, 0, 1, []⟩,
     ⟨1, 1, .rws, 0, .volatile, 0, 1, []⟩,
     ⟨2, 2, .rws, 0, .volatile, 0, 3, []⟩,
     ⟨4, 1, .rws, 0, .volatile, 0, 1, []⟩,
     ⟨5, 2, .rws, 0, .volatile, 0, 3, []⟩,
     ⟨7, 6, .rws, 9, .volatile, 0, 63, []⟩,
     ⟨13, 1, .rws, 0, .volatile, 0, 1, []⟩,
     ⟨14, 2, .rws, 0, .volatile, 0, 3, [(3, 3, 0)]⟩,
     ⟨16, 2, .rws, 1, .volatile, 0, 3, [(3, 3, 1)]⟩,
     ⟨18, 8, .rws, 10, .volatile, 1, 255, []⟩]⟩,
   ⟨"SIN_CYC", 0xd0100, [], 0,
    [⟨0, 3, .rws, 3, .volatile, 0, 7, []⟩]⟩,
   ⟨"SIN_CYC_EN", 0xd0104, [], 4,
    [⟨0, 48, .rws, 0, .volatile, 0, 281474976710655, []⟩]⟩,
   ⟨"SIN_LEVEL", 0xd0110, [], 4,
    [⟨0, 48, .ro, 0, .spar, 0, 281474976710655, []⟩]⟩,
   ⟨"SIN_ANA", 0xd0180, [(16, 4)], 0,
    [⟨0, 32, .ro, 0, .volatile, 0, 4294967295, []⟩]⟩,
   ⟨"SIN_AFLT", 0xd01c0, [], 0,
    [⟨0, 16, .ro, 0, .volatile, 0, 65535, []⟩]⟩,
   ⟨"SIN_SCHED", 0xd0200, [], 0,
    [⟨0, 13, .ro, 5990, .volatile, 0, 8191, []⟩]⟩,
   ⟨"SIN_CAL", 0xd0204, [], 0,
    [⟨0, 3, .ro, 0, .volatile, 0, 7, []⟩,
     ⟨8, 8, .ro, 0, .volatile, 0, 255, []⟩,
     ⟨16, 8, .rc, 0, .volatile, 0, 255, []⟩]⟩,
   ⟨"SIN_SNS_CNT", 0xd0210, [], 0,
    [⟨0, 16, .rc, 0, .volatile, 0, 65535, []⟩,
     ⟨16, 16, .rc, 0, .volatile, 0, 65535, []⟩]⟩,
   ⟨"SIN_STREAMS", 0xd0214, [], 0,
    [⟨0, 6, .ro, 0, .volatile, 0, 63, []⟩]⟩]

/-- Block 14, SCL (Tables 28.2 and 28.4). -/
def regTableSCL0 : List RegDesc :=
  [⟨"SCL_CFG", 0xe0000, [], 0,
    [⟨0, 5, .rws, 10, .volatile, 1, 25, []⟩,
     ⟨8, 8, .rws, 50, .volatile, 0, 255, []⟩,
     ⟨16, 7, .rws, 90, .volatile, 50, 99, []⟩,
     ⟨24, 1, .rws, 0, .volatile, 0, 1, []⟩]⟩,
   ⟨"SCL_FLOOR", 0xe0004, [], 0,
    [⟨0, 7, .rws, 20, .volatile, 0, 100, []⟩,
     ⟨8, 7, .rws, 20, .volatile, 0, 100, []⟩,
     ⟨16, 7, .rws, 20, .volatile, 0, 100, []⟩,
     ⟨24, 7, .rws, 20, .volatile, 0, 100, []⟩]⟩,
   ⟨"SCL_PKG", 0xe0008, [], 0,
    [⟨0, 8, .rws, 180, .volatile, 50, 180, []⟩,
     ⟨8, 8, .rws, 140, .volatile, 110, 160, []⟩,
     ⟨16, 7, .rws, 40, .volatile, 10, 100, []⟩]⟩,
   ⟨"SCL_OVL", 0xe000c, [], 0,
    [⟨0, 4, .rws, 10, .volatile, 1, 15, []⟩,
     ⟨8, 4, .rws, 15, .volatile, 0, 15, []⟩]⟩,
   ⟨"SCL_RETRY", 0xe0010, [], 0,
    [⟨0, 8, .rws, 32, .volatile, 0, 255, []⟩,
     ⟨8, 8, .rws, 10, .volatile, 1, 255, []⟩]⟩,
   ⟨"SCL_TRIM", 0xe0020, [(8, 4)], 0,
    [⟨0, 7, .rw, 100, .volatile, 10, 100, []⟩]⟩,
   ⟨"SCL_RUN", 0xe0040, [], 0,
    [⟨0, 8, .rw, 0, .volatile, 0, 255, []⟩,
     ⟨8, 1, .rw, 0, .volatile, 0, 1, []⟩]⟩,
   ⟨"SCL_PKG_TRIM", 0xe0044, [], 0,
    [⟨0, 8, .rw, 180, .volatile, 0, 255, []⟩]⟩,
   ⟨"SCL_STATUS", 0xe0050, [], 0,
    [⟨0, 1, .ro, 0, .volatile, 0, 1, []⟩,
     ⟨1, 1, .ro, 0, .volatile, 0, 1, []⟩,
     ⟨2, 1, .ro, 0, .volatile, 0, 1, []⟩,
     ⟨8, 8, .ro, 100, .volatile, 0, 255, []⟩,
     ⟨16, 12, .ro, 0, .volatile, 0, 4095, []⟩,
     ⟨28, 4, .ro, 3, .volatile, 0, 15, []⟩]⟩,
   ⟨"SCL_PMEAS", 0xe0060, [(8, 8)], 0,
    [⟨0, 16, .ro, 0, .volatile, 0, 65535, []⟩,
     ⟨16, 16, .ro, 0, .volatile, 0, 65535, []⟩]⟩,
   ⟨"SCL_PENERGY", 0xe0064, [(8, 8)], 0,
    [⟨0, 32, .ro, 0, .volatile, 0, 4294967295, []⟩]⟩,
   ⟨"SCL_OVL_CNT", 0xe00a0, [], 0,
    [⟨0, 16, .ro, 0, .volatile, 0, 65535, []⟩,
     ⟨16, 16, .rc, 0, .volatile, 0, 65535, []⟩]⟩]

def regTableSCL1 : List RegDesc :=
  [⟨"SCL_CNT", 0xe00a4, [], 0,
    [⟨0, 16, .rc, 0, .volatile, 0, 65535, []⟩,
     ⟨16, 8, .rc, 0, .volatile, 0, 255, []⟩,
     ⟨24, 8, .rc, 0, .volatile, 0, 255, []⟩]⟩]

/-- Block 14, SCL. -/
def regTableSCL : List RegDesc := regTableSCL0 ++ regTableSCL1

/-- Block 15, SW (Tables 28.2 and 28.4). -/
def regTableSW0 : List RegDesc :=
  [⟨"SW_PORT_CFG", 0xf0000, [(7, 4)], 0,
    [⟨0, 12, .rws, 1, .volatile, 0, 4095, []⟩,
     ⟨12, 1, .rws, 1, .volatile, 0, 1, []⟩,
     ⟨13, 3, .rws, 0, .volatile, 0, 7, []⟩]⟩,
   ⟨"SW_PORT_CFG", 0xf001c, [], 0,
    [⟨0, 12, .rws, 1, .volatile, 0, 4095, []⟩,
     ⟨12, 1, .ro, 0, .volatile, 0, 1, []⟩,
     ⟨13, 3, .rws, 0, .volatile, 0, 7, []⟩]⟩,
   ⟨"SW_CFG", 0xf0020, [], 0,
    [⟨0, 16, .rws, 300, .volatile, 1, 64800, []⟩,
     ⟨16, 12, .rws, 1522, .volatile, 64, 2000, []⟩]⟩,
   ⟨"SW_SALT", 0xf0024, [], 0,
    [⟨0, 32, .rws, 4294967295, .volatile, 0, 4294967295, []⟩]⟩,
   ⟨"SW_PCPMAP", 0xf0028, [], 0,
    [⟨0, 3, .rws, 0, .volatile, 0, 7, []⟩,
     ⟨3, 3, .rws, 1, .volatile, 0, 7, []⟩,
     ⟨6, 3, .rws, 2, .volatile, 0, 7, []⟩,
     ⟨9, 3, .rws, 3, .volatile, 0, 7, []⟩,
     ⟨12, 3, .rws, 4, .volatile, 0, 7, []⟩,
     ⟨15, 3, .rws, 5, .volatile, 0, 7, []⟩,
     ⟨18, 3, .rws, 5, .volatile, 0, 7, []⟩,
     ⟨21, 3, .rws, 7, .volatile, 0, 7, []⟩]⟩,
   ⟨"SW_TX", 0xf002c, [], 0,
    [⟨0, 8, .rws, 10, .volatile, 1, 255, []⟩]⟩,
   ⟨"SW_BUF_GUAR", 0xf0030, [], 0,
    [⟨0, 4, .rws, 2, .volatile, 0, 15, []⟩,
     ⟨4, 4, .rws, 2, .volatile, 0, 15, []⟩,
     ⟨8, 4, .rws, 2, .volatile, 0, 15, []⟩,
     ⟨12, 4, .rws, 2, .volatile, 0, 15, []⟩,
     ⟨16, 4, .rws, 2, .volatile, 0, 15, []⟩,
     ⟨20, 4, .rws, 2, .volatile, 0, 15, []⟩,
     ⟨24, 4, .rws, 4, .volatile, 0, 15, []⟩,
     ⟨28, 4, .rws, 2, .volatile, 0, 15, []⟩]⟩,
   ⟨"SW_BUF_CFG", 0xf0034, [], 0,
    [⟨0, 13, .rws, 512, .volatile, 16, 4096, []⟩,
     ⟨16, 8, .rws, 32, .volatile, 0, 255, []⟩,
     ⟨31, 1, .ro, 0, .volatile, 0, 1, []⟩]⟩,
   ⟨"SW_VLAN_SEL", 0xf0040, [], 0,
    [⟨0, 12, .rw, 0, .volatile, 0, 4095, []⟩]⟩,
   ⟨"SW_VLAN_DATA", 0xf0044, [], 0,
    [⟨0, 8, .rws, 0, .volatile, 0, 255, []⟩,
     ⟨8, 8, .rws, 0, .volatile, 0, 255, []⟩,
     ⟨16, 2, .rws, 0, .volatile, 0, 3, []⟩,
     ⟨18, 1, .rws, 0, .volatile, 0, 1, []⟩,
     ⟨19, 1, .rws, 0, .volatile, 0, 1, []⟩]⟩,
   ⟨"SW_TBL_IDX", 0xf0050, [], 0,
    [⟨0, 14, .rw, 0, .volatile, 0, 16383, []⟩]⟩,
   ⟨"SW_TBL_CMD", 0xf0054, [], 0,
    [⟨0, 2, .wo, 0, .volatile, 0, 3, []⟩]⟩,
   ⟨"SW_TBL_DATA0", 0xf0058, [], 0,
    [⟨0, 32, .rw, 0, .volatile, 0, 4294967295, []⟩]⟩]

def regTableSW1 : List RegDesc :=
  [⟨"SW_TBL_DATA1", 0xf005c, [], 0,
    [⟨0, 16, .rw, 0, .volatile, 0, 65535, []⟩,
     ⟨16, 12, .rw, 0, .volatile, 0, 4095, []⟩]⟩,
   ⟨"SW_TBL_DATA2", 0xf0060, [], 0,
    [⟨0, 8, .rw, 0, .volatile, 0, 255, []⟩,
     ⟨8, 16, .rw, 0, .volatile, 0, 65535, []⟩,
     ⟨24, 1, .rw, 0, .volatile, 0, 1, []⟩,
     ⟨25, 1, .rw, 0, .volatile, 0, 1, []⟩,
     ⟨26, 1, .rw, 0, .volatile, 0, 1, []⟩]⟩,
   ⟨"SW_CBS", 0xf0100, [(2, 64), (8, 4)], 0,
    [⟨0, 24, .rws, 0, .volatile, 0, 16777215, []⟩,
     ⟨31, 1, .rws, 0, .volatile, 0, 1, []⟩]⟩,
   ⟨"SW_GATE_CFG", 0xf0200, [(2, 1024)], 0,
    [⟨0, 1, .rws, 0, .volatile, 0, 1, []⟩,
     ⟨1, 1, .rws, 0, .volatile, 0, 1, []⟩,
     ⟨2, 7, .rws, 1, .volatile, 1, 64, []⟩]⟩,
   ⟨"SW_GATE_CYCLE", 0xf0204, [(2, 1024)], 0,
    [⟨0, 32, .rws, 1000000, .volatile, 10000, 1000000000, []⟩]⟩,
   ⟨"SW_GATE_BASE", 0xf0208, [(2, 1024)], 4,
    [⟨0, 64, .rws, 0, .volatile, 0, 18446744073709551615, []⟩]⟩,
   ⟨"SW_GCL0", 0xf0220, [(2, 1024), (64, 8)], 0,
    [⟨0, 8, .rws, 255, .volatile, 0, 255, []⟩]⟩,
   ⟨"SW_GCL1", 0xf0224, [(2, 1024), (64, 8)], 0,
    [⟨0, 32, .rws, 1000000, .volatile, 1000, 1000000000, []⟩]⟩,
   ⟨"SW_CNT_SEL", 0xf0a00, [], 0,
    [⟨0, 3, .rw, 0, .volatile, 0, 7, []⟩,
     ⟨4, 3, .rw, 0, .volatile, 0, 7, []⟩,
     ⟨8, 5, .rw, 0, .volatile, 0, 31, []⟩]⟩,
   ⟨"SW_CNT_VAL", 0xf0a04, [], 4,
    [⟨0, 64, .rc, 0, .volatile, 0, 18446744073709551615, []⟩]⟩,
   ⟨"SW_STATUS", 0xf0a10, [], 0,
    [⟨0, 15, .ro, 0, .volatile, 0, 32767, []⟩,
     ⟨16, 10, .ro, 0, .volatile, 0, 1023, []⟩,
     ⟨26, 1, .ro, 0, .volatile, 0, 1, []⟩,
     ⟨27, 2, .ro, 0, .volatile, 0, 3, []⟩,
     ⟨29, 1, .ro, 0, .volatile, 0, 1, []⟩]⟩,
   ⟨"SW_BUF_STATUS", 0xf0a14, [], 0,
    [⟨0, 13, .ro, 4096, .volatile, 0, 8191, []⟩,
     ⟨16, 13, .rc, 4096, .volatile, 0, 8191, []⟩]⟩]

def regTableSW2 : List RegDesc :=
  [⟨"SW_RULE0", 0xf0b00, [(64, 16)], 0,
    [⟨0, 8, .rws, 0, .volatile, 0, 255, []⟩,
     ⟨8, 12, .rws, 0, .volatile, 0, 4095, []⟩,
     ⟨22, 2, .rws, 0, .volatile, 0, 3, []⟩,
     ⟨24, 3, .rws, 0, .volatile, 0, 7, []⟩,
     ⟨31, 1, .rws, 0, .volatile, 0, 1, []⟩]⟩,
   ⟨"SW_RULE1", 0xf0b04, [(64, 16)], 0,
    [⟨0, 16, .rws, 0, .volatile, 0, 65535, []⟩,
     ⟨16, 8, .rws, 0, .volatile, 0, 255, []⟩,
     ⟨24, 1, .rws, 0, .volatile, 0, 1, []⟩,
     ⟨25, 6, .rws, 0, .volatile, 0, 63, []⟩,
     ⟨31, 1, .rws, 0, .volatile, 0, 1, []⟩]⟩,
   ⟨"SW_RULE2", 0xf0b08, [(64, 16)], 0,
    [⟨0, 16, .rws, 0, .volatile, 0, 65535, []⟩,
     ⟨16, 16, .rws, 0, .volatile, 0, 65535, []⟩]⟩,
   ⟨"SW_RULE3", 0xf0b0c, [(64, 16)], 0,
    [⟨0, 1, .rws, 0, .volatile, 0, 1, []⟩,
     ⟨1, 1, .rws, 0, .volatile, 0, 1, []⟩,
     ⟨2, 1, .rws, 0, .volatile, 0, 1, []⟩,
     ⟨3, 1, .rws, 0, .volatile, 0, 1, []⟩]⟩,
   ⟨"SW_MSEC_CFG", 0xf0f00, [(2, 32)], 0,
    [⟨0, 1, .rws, 0, .volatile, 0, 1, []⟩,
     ⟨1, 2, .rws, 0, .volatile, 0, 3, []⟩,
     ⟨3, 1, .rws, 1, .volatile, 0, 1, []⟩,
     ⟨4, 1, .rws, 1, .volatile, 0, 1, []⟩,
     ⟨5, 1, .rws, 1, .volatile, 0, 1, []⟩]⟩,
   ⟨"SW_MSEC_WIN", 0xf0f04, [(2, 32)], 0,
    [⟨0, 32, .rws, 0, .volatile, 0, 4294967295, []⟩]⟩,
   ⟨"SW_MSEC_SCI", 0xf0f08, [(2, 32)], 4,
    [⟨0, 64, .rws, 0, .volatile, 0, 18446744073709551615, []⟩]⟩,
   ⟨"SW_MSEC_PEER", 0xf0f10, [(2, 32)], 4,
    [⟨0, 64, .rws, 0, .volatile, 0, 18446744073709551615, []⟩]⟩,
   ⟨"SW_MSEC_STAT", 0xf0f18, [(2, 32)], 0,
    [⟨0, 4, .ro, 0, .volatile, 0, 15, []⟩,
     ⟨4, 2, .ro, 0, .volatile, 0, 3, []⟩,
     ⟨6, 1, .ro, 0, .volatile, 0, 1, []⟩,
     ⟨7, 1, .ro, 0, .volatile, 0, 1, []⟩]⟩]

/-- Block 15, SW. -/
def regTableSW : List RegDesc := regTableSW0 ++ regTableSW1 ++ regTableSW2

/-- Block 16, SUB (Tables 28.2 and 28.4). -/
def regTableSUB0 : List RegDesc :=
  [⟨"SUB_T1S_CFG", 0x100000, [(4, 8)], 0,
    [⟨0, 1, .rws, 1, .volatile, 0, 1, []⟩,
     ⟨1, 4, .rws, 0, .volatile, 0, 15, []⟩,
     ⟨5, 4, .rws, 8, .volatile, 0, 15, []⟩,
     ⟨9, 8, .rws, 32, .volatile, 0, 255, []⟩,
     ⟨17, 4, .rws, 0, .volatile, 0, 15, []⟩,
     ⟨21, 8, .rws, 128, .volatile, 0, 255, []⟩,
     ⟨29, 1, .rws, 1, .volatile, 0, 1, []⟩,
     ⟨30, 1, .rws, 1, .volatile, 0, 1, []⟩,
     ⟨31, 1, .rws, 0, .volatile, 0, 1, []⟩]⟩,
   ⟨"SUB_T1S_STAT", 0x100004, [(4, 8)], 0,
    [⟨0, 1, .ro, 0, .volatile, 0, 1, []⟩,
     ⟨1, 1, .w1c, 0, .volatile, 0, 1, []⟩]⟩,
   ⟨"SUB_CAN_CFG", 0x100040, [(4, 32)], 0,
    [⟨0, 1, .rws, 0, .volatile, 0, 1, []⟩,
     ⟨1, 1, .rws, 0, .volatile, 0, 1, []⟩,
     ⟨2, 1, .rws, 0, .volatile, 0, 1, []⟩,
     ⟨3, 1, .rws, 0, .volatile, 0, 1, []⟩,
     ⟨4, 1, .rws, 1, .volatile, 0, 1, []⟩,
     ⟨5, 1, .rws, 0, .volatile, 0, 1, []⟩,
     ⟨8, 6, .rws, 0, .volatile, 0, 63, []⟩,
     ⟨16, 8, .rws, 100, .volatile, 1, 255, []⟩]⟩,
   ⟨"SUB_CAN_NBT", 0x100044, [(4, 32)], 0,
    [⟨0, 6, .rws, 4, .volatile, 1, 32, []⟩,
     ⟨6, 9, .rws, 79, .volatile, 2, 256, []⟩,
     ⟨15, 8, .rws, 20, .volatile, 1, 128, []⟩,
     ⟨23, 8, .rws, 20, .volatile, 1, 128, []⟩]⟩,
   ⟨"SUB_CAN_DBT", 0x100048, [(4, 32)], 0,
    [⟨0, 6, .rws, 4, .volatile, 1, 32, []⟩,
     ⟨6, 9, .rws, 79, .volatile, 2, 256, []⟩,
     ⟨15, 8, .rws, 20, .volatile, 1, 128, []⟩,
     ⟨23, 8, .rws, 20, .volatile, 1, 128, []⟩]⟩,
   ⟨"SUB_CAN_XBT", 0x10004c, [(4, 32)], 0,
    [⟨0, 6, .rws, 4, .volatile, 1, 32, []⟩,
     ⟨6, 9, .rws, 79, .volatile, 2, 256, []⟩,
     ⟨15, 8, .rws, 20, .volatile, 1, 128, []⟩,
     ⟨23, 8, .rws, 20, .volatile, 1, 128, []⟩]⟩,
   ⟨"SUB_CAN_XPWM", 0x100050, [(4, 32)], 0,
    [⟨0, 6, .rws, 4, .volatile, 0, 63, []⟩,
     ⟨6, 6, .rws, 16, .volatile, 0, 63, []⟩,
     ⟨12, 6, .rws, 0, .volatile, 0, 63, []⟩]⟩,
   ⟨"SUB_CAN_STAT", 0x1000c0, [(4, 4)], 0,
    [⟨0, 2, .ro, 0, .volatile, 0, 3, []⟩,
     ⟨2, 1, .ro, 0, .volatile, 0, 1, []⟩,
     ⟨8, 8, .ro, 0, .volatile, 0, 255, []⟩,
     ⟨16, 8, .ro, 0, .volatile, 0, 255, []⟩]⟩,
   ⟨"SUB_LIN_CFG", 0x100100, [(6, 8)], 0,
    [⟨0, 1, .rws, 0, .volatile, 0, 1, []⟩,
     ⟨1, 1, .rws, 0, .volatile, 0, 1, []⟩,
     ⟨2, 15, .rws, 19200, .volatile, 0, 32767, []⟩,
     ⟨17, 1, .rws, 0, .volatile, 0, 1, []⟩,
     ⟨18, 8, .rws, 50, .volatile, 1, 255, []⟩]⟩,
   ⟨"SUB_LIN_STAT", 0x100104, [(6, 8)], 0,
    [⟨0, 2, .ro, 0, .volatile, 0, 3, []⟩,
     ⟨8, 8, .ro, 0, .volatile, 0, 255, []⟩]⟩,
   ⟨"SUB_CAN_FLT0", 0x100400, [(4, 256), (32, 8)], 0,
    [⟨0, 29, .rws, 0, .volatile, 0, 536870911, []⟩,
     ⟨29, 1, .rws, 0, .volatile, 0, 1, []⟩,
     ⟨31, 1, .rws, 0, .volatile, 0, 1, []⟩]⟩,
   ⟨"SUB_CAN_FLT1", 0x100404, [(4, 256), (32, 8)], 0,
    [⟨0, 29, .rws, 0, .volatile, 0, 536870911, []⟩,
     ⟨29, 1, .rws, 0, .volatile, 0, 1, []⟩,
     ⟨30, 1, .rws, 0, .volatile, 0, 1, []⟩]⟩]

def regTableSUB1 : List RegDesc :=
  [⟨"SUB_TUN_CFG", 0x100800, [(16, 32)], 0,
    [⟨0, 1, .rws, 0, .volatile, 0, 1, []⟩,
     ⟨1, 1, .rws, 0, .volatile, 0, 1, []⟩,
     ⟨2, 1, .rws, 0, .volatile, 0, 1, []⟩,
     ⟨3, 1, .rws, 0, .volatile, 0, 1, []⟩,
     ⟨4, 2, .rws, 0, .volatile, 0, 3, []⟩,
     ⟨6, 3, .rws, 0, .volatile, 0, 7, []⟩,
     ⟨9, 12, .rws, 0, .volatile, 0, 4095, []⟩,
     ⟨21, 10, .rws, 0, .volatile, 0, 1000, []⟩]⟩,
   ⟨"SUB_TUN_DA", 0x100804, [(16, 32)], 4,
    [⟨0, 48, .rws, 0, .volatile, 0, 281474976710655, []⟩]⟩,
   ⟨"SUB_TUN_RX", 0x10080c, [(16, 32)], 4,
    [⟨0, 64, .rws, 0, .volatile, 0, 18446744073709551615, []⟩]⟩,
   ⟨"SUB_TUN_MAP", 0x100814, [(16, 32)], 0,
    [⟨0, 10, .rws, 0, .volatile, 0, 1023, []⟩,
     ⟨16, 16, .rws, 0, .volatile, 0, 65535, []⟩]⟩,
   ⟨"SUB_CNT0", 0x100a00, [], 0,
    [⟨0, 16, .rc, 0, .volatile, 0, 65535, []⟩,
     ⟨16, 16, .rc, 0, .volatile, 0, 65535, []⟩]⟩,
   ⟨"SUB_CNT1", 0x100a04, [], 0,
    [⟨0, 16, .rc, 0, .volatile, 0, 65535, []⟩,
     ⟨16, 16, .rc, 0, .volatile, 0, 65535, []⟩]⟩,
   ⟨"SUB_CNT2", 0x100a08, [], 0,
    [⟨0, 16, .rc, 0, .volatile, 0, 65535, []⟩,
     ⟨16, 16, .rc, 0, .volatile, 0, 65535, []⟩]⟩,
   ⟨"SUB_CNT3", 0x100a0c, [], 0,
    [⟨0, 16, .rc, 0, .volatile, 0, 65535, []⟩,
     ⟨16, 16, .rc, 0, .volatile, 0, 65535, []⟩]⟩]

/-- Block 16, SUB. -/
def regTableSUB : List RegDesc := regTableSUB0 ++ regTableSUB1

/-- Block 17, BRD (Tables 28.2 and 28.4). -/
def regTableBRD : List RegDesc :=
  [⟨"BRD_BIND0", 0x110000, [(16, 16)], 0,
    [⟨0, 1, .rws, 0, .volatile, 0, 1, []⟩,
     ⟨1, 1, .rws, 1, .volatile, 0, 1, []⟩,
     ⟨2, 1, .rws, 0, .volatile, 0, 1, []⟩,
     ⟨4, 4, .rws, 0, .volatile, 0, 15, []⟩,
     ⟨8, 3, .rws, 0, .volatile, 1, 5, []⟩,
     ⟨11, 5, .rws, 0, .volatile, 0, 31, []⟩,
     ⟨16, 3, .rws, 3, .volatile, 0, 7, []⟩,
     ⟨24, 8, .rws, 0, .volatile, 0, 255, []⟩]⟩,
   ⟨"BRD_BIND1", 0x110004, [(16, 16)], 0,
    [⟨0, 16, .rws, 32767, .volatile, 0, 65535, []⟩,
     ⟨16, 10, .rws, 150, .volatile, 10, 1000, []⟩]⟩,
   ⟨"BRD_BIND2", 0x110008, [(16, 16)], 0,
    [⟨0, 6, .rws, 5, .volatile, 1, 50, []⟩]⟩,
   ⟨"BRD_TUN", 0x110100, [(16, 4)], 0,
    [⟨0, 16, .rws, 0, .volatile, 0, 65535, []⟩,
     ⟨16, 16, .rws, 0, .volatile, 0, 65535, []⟩]⟩,
   ⟨"BRD_STATUS", 0x110140, [], 0,
    [⟨0, 8, .ro, 0, .volatile, 0, 255, []⟩,
     ⟨8, 8, .ro, 0, .volatile, 0, 255, []⟩,
     ⟨16, 4, .ro, 0, .volatile, 0, 15, []⟩]⟩,
   ⟨"BRD_CNT0", 0x110150, [], 0,
    [⟨0, 16, .rc, 0, .volatile, 0, 65535, []⟩,
     ⟨16, 16, .rc, 0, .volatile, 0, 65535, []⟩]⟩,
   ⟨"BRD_CNT1", 0x110154, [], 0,
    [⟨0, 16, .rc, 0, .volatile, 0, 65535, []⟩,
     ⟨16, 16, .rc, 0, .volatile, 0, 65535, []⟩]⟩,
   ⟨"BRD_CNT2", 0x110158, [], 0,
    [⟨0, 16, .rc, 0, .volatile, 0, 65535, []⟩,
     ⟨16, 16, .rc, 0, .volatile, 0, 65535, []⟩]⟩,
   ⟨"BRD_CNT3", 0x11015c, [], 0,
    [⟨0, 16, .rc, 0, .volatile, 0, 65535, []⟩,
     ⟨16, 16, .rc, 0, .volatile, 0, 65535, []⟩]⟩]

/-- Block 18, INF (Tables 28.2 and 28.4). -/
def regTableINF : List RegDesc :=
  [⟨"INF_TOL0", 0x120000, [(16, 8)], 0,
    [⟨0, 16, .rws, 0, .volatile, 0, 65535, []⟩,
     ⟨16, 16, .rws, 0, .volatile, 0, 65535, []⟩]⟩,
   ⟨"INF_TOL1", 0x120004, [(16, 8)], 0,
    [⟨0, 16, .rws, 0, .volatile, 0, 65535, []⟩]⟩,
   ⟨"INF_CTX_STAT", 0x120100, [(16, 8)], 0,
    [⟨0, 2, .ro, 0, .volatile, 0, 3, []⟩,
     ⟨4, 2, .ro, 0, .volatile, 0, 3, []⟩,
     ⟨6, 1, .ro, 0, .volatile, 0, 1, []⟩,
     ⟨16, 16, .ro, 0, .volatile, 0, 65535, []⟩]⟩,
   ⟨"INF_CTX_EXEC", 0x120104, [(16, 8)], 0,
    [⟨0, 16, .ro, 0, .volatile, 0, 65535, []⟩,
     ⟨16, 16, .ro, 0, .volatile, 0, 65535, []⟩]⟩,
   ⟨"INF_CH_STAT", 0x120200, [], 0,
    [⟨0, 2, .ro, 0, .volatile, 0, 3, []⟩,
     ⟨2, 2, .ro, 0, .volatile, 0, 3, []⟩]⟩,
   ⟨"INF_MEM", 0x120204, [], 0,
    [⟨0, 16, .ro, 8192, .volatile, 0, 65535, []⟩,
     ⟨16, 16, .ro, 2048, .volatile, 0, 65535, []⟩]⟩,
   ⟨"INF_CNT0", 0x120210, [], 0,
    [⟨0, 16, .rc, 0, .volatile, 0, 65535, []⟩,
     ⟨16, 16, .rc, 0, .volatile, 0, 65535, []⟩]⟩,
   ⟨"INF_CNT1", 0x120214, [], 0,
    [⟨0, 16, .rc, 0, .volatile, 0, 65535, []⟩,
     ⟨16, 16, .rc, 0, .volatile, 0, 65535, []⟩]⟩,
   ⟨"INF_CNT2", 0x120218, [], 0,
    [⟨0, 16, .rc, 0, .volatile, 0, 65535, []⟩,
     ⟨16, 16, .rc, 0, .volatile, 0, 65535, []⟩]⟩,
   ⟨"INF_CNT3", 0x12021c, [], 0,
    [⟨0, 16, .rc, 0, .volatile, 0, 65535, []⟩]⟩]

/-- Block 19, STO (Tables 28.2 and 28.4). -/
def regTableSTO0 : List RegDesc :=
  [⟨"STO_NS_SEL", 0x130000, [], 0,
    [⟨0, 4, .rw, 0, .volatile, 0, 15, []⟩]⟩,
   ⟨"STO_NS_CFG", 0x130004, [], 0,
    [⟨0, 8, .rws, 1, .volatile, 1, 230, []⟩,
     ⟨8, 1, .rws, 0, .volatile, 0, 1, []⟩,
     ⟨9, 1, .rws, 0, .volatile, 0, 1, []⟩,
     ⟨10, 1, .rws, 0, .volatile, 0, 1, []⟩,
     ⟨11, 1, .rws, 0, .volatile, 0, 1, []⟩]⟩,
   ⟨"STO_NS_CMD", 0x130008, [], 0,
    [⟨0, 2, .wo, 0, .volatile, 0, 3, []⟩]⟩,
   ⟨"STO_NS_STATUS", 0x13000c, [], 0,
    [⟨0, 1, .ro, 0, .volatile, 0, 1, []⟩,
     ⟨4, 4, .ro, 0, .volatile, 0, 15, []⟩]⟩,
   ⟨"STO_NS_INFO", 0x130010, [], 0,
    [⟨0, 1, .ro, 0, .nonvolatile, 0, 1, []⟩,
     ⟨1, 1, .ro, 0, .nonvolatile, 0, 1, []⟩,
     ⟨2, 1, .ro, 0, .nonvolatile, 0, 1, []⟩,
     ⟨3, 1, .ro, 0, .nonvolatile, 0, 1, []⟩,
     ⟨4, 1, .ro, 0, .nonvolatile, 0, 1, []⟩,
     ⟨8, 8, .ro, 0, .nonvolatile, 0, 255, []⟩]⟩,
   ⟨"STO_NS_BLOCKS", 0x130014, [], 0,
    [⟨0, 32, .ro, 0, .nonvolatile, 0, 4294967295, []⟩]⟩,
   ⟨"STO_FREE", 0x130018, [], 0,
    [⟨0, 8, .ro, 0, .nonvolatile, 0, 255, []⟩]⟩,
   ⟨"STO_WB_CFG", 0x130020, [], 0,
    [⟨0, 10, .rws, 100, .volatile, 1, 1000, []⟩]⟩,
   ⟨"STO_WB_STATUS", 0x130024, [], 0,
    [⟨0, 13, .ro, 0, .volatile, 0, 8191, []⟩,
     ⟨16, 13, .ro, 0, .volatile, 0, 8191, []⟩,
     ⟨31, 1, .ro, 0, .volatile, 0, 1, []⟩]⟩,
   ⟨"STO_CNT", 0x130030, [], 0,
    [⟨0, 16, .rc, 0, .volatile, 0, 65535, []⟩,
     ⟨16, 16, .rc, 0, .volatile, 0, 65535, []⟩]⟩,
   ⟨"STO_CNT2", 0x130034, [], 0,
    [⟨0, 16, .rc, 0, .volatile, 0, 65535, []⟩,
     ⟨16, 16, .rc, 0, .volatile, 0, 65535, []⟩]⟩,
   ⟨"STO_MEDIA_CFG", 0x130040, [], 0,
    [⟨0, 6, .rws, 10, .volatile, 1, 60, []⟩,
     ⟨8, 7, .rws, 5, .volatile, 1, 100, []⟩]⟩]

def regTableSTO1 : List RegDesc :=
  [⟨"STO_RET_CFG", 0x130044, [], 0,
    [⟨0, 7, .rws, 80, .volatile, 50, 94, []⟩,
     ⟨8, 8, .rws, 48, .volatile, 8, 64, []⟩]⟩,
   ⟨"STO_HEALTH_CFG", 0x130048, [], 0,
    [⟨0, 7, .rws, 50, .volatile, 10, 90, []⟩,
     ⟨8, 7, .rws, 80, .volatile, 50, 94, []⟩]⟩,
   ⟨"STO_HOLD_CFG", 0x13004c, [], 0,
    [⟨0, 2, .rws, 2, .volatile, 0, 3, [(3, 3, 2)]⟩,
     ⟨16, 13, .rws, 4096, .volatile, 16, 4096, []⟩]⟩,
   ⟨"STO_HOLD_MEAS", 0x130050, [], 0,
    [⟨0, 16, .ro, 0, .volatile, 0, 65535, []⟩,
     ⟨16, 12, .ro, 0, .volatile, 0, 4095, []⟩,
     ⟨28, 4, .ro, 0, .volatile, 0, 15, []⟩]⟩,
   ⟨"STO_HEALTH", 0x130054, [], 0,
    [⟨0, 7, .ro, 100, .nonvolatile, 0, 127, []⟩,
     ⟨8, 1, .ro, 0, .volatile, 0, 1, []⟩,
     ⟨9, 1, .ro, 0, .volatile, 0, 1, []⟩,
     ⟨10, 1, .ro, 0, .volatile, 0, 1, []⟩]⟩,
   ⟨"STO_NS_WEAR", 0x130058, [], 0,
    [⟨0, 8, .ro, 0, .nonvolatile, 0, 255, []⟩,
     ⟨8, 2, .ro, 0, .nonvolatile, 0, 3, []⟩,
     ⟨10, 1, .ro, 0, .nonvolatile, 0, 1, []⟩]⟩,
   ⟨"STO_PF_CNT", 0x13005c, [], 0,
    [⟨0, 16, .rc, 0, .spar, 0, 65535, []⟩,
     ⟨16, 16, .rc, 0, .spar, 0, 65535, []⟩]⟩]

/-- Block 19, STO. -/
def regTableSTO : List RegDesc := regTableSTO0 ++ regTableSTO1

/-- Block 20, SEC (Tables 28.2 and 28.4). -/
def regTableSEC : List RegDesc :=
  [⟨"SEC_STATUS", 0x140000, [], 0,
    [⟨0, 2, .ro, 0, .volatile, 0, 3, []⟩,
     ⟨2, 2, .ro, 0, .volatile, 0, 3, []⟩,
     ⟨8, 8, .ro, 0, .volatile, 0, 255, []⟩,
     ⟨16, 3, .ro, 0, .volatile, 0, 7, []⟩]⟩,
   ⟨"SEC_CFG", 0x140004, [], 0,
    [⟨0, 16, .rws, 4096, .volatile, 1, 65535, []⟩,
     ⟨16, 1, .rws, 0, .volatile, 0, 1, []⟩]⟩,
   ⟨"SEC_KEY_STATE", 0x140008, [], 0,
    [⟨0, 32, .ro, 0, .nonvolatile, 0, 4294967295, []⟩]⟩,
   ⟨"SEC_KEY_USE", 0x140040, [(16, 4)], 0,
    [⟨0, 8, .rws, 0, .volatile, 0, 255, []⟩]⟩,
   ⟨"SEC_CNT", 0x1400c0, [], 0,
    [⟨0, 16, .rc, 0, .volatile, 0, 65535, []⟩,
     ⟨16, 16, .rc, 0, .volatile, 0, 65535, []⟩]⟩]

/-- Block 21, UPD (Tables 28.2 and 28.4). -/
def regTableUPD : List RegDesc :=
  [⟨"UPD_STATUS", 0x150000, [], 0,
    [⟨0, 1, .ro, 0, .nonvolatile, 0, 1, []⟩,
     ⟨1, 1, .ro, 0, .nonvolatile, 0, 1, []⟩,
     ⟨2, 2, .ro, 0, .nonvolatile, 0, 3, []⟩,
     ⟨4, 2, .ro, 0, .nonvolatile, 0, 3, []⟩,
     ⟨6, 4, .ro, 0, .nonvolatile, 0, 15, []⟩,
     ⟨12, 4, .ro, 0, .nonvolatile, 0, 15, []⟩,
     ⟨16, 8, .ro, 0, .nonvolatile, 0, 255, []⟩]⟩,
   ⟨"UPD_RB", 0x150004, [], 0,
    [⟨0, 32, .ro, 0, .nonvolatile, 0, 4294967295, []⟩]⟩,
   ⟨"UPD_BANK", 0x150010, [(2, 8)], 0,
    [⟨0, 32, .ro, 0, .nonvolatile, 0, 4294967295, []⟩]⟩,
   ⟨"UPD_BANK_SVN", 0x150014, [(2, 8)], 0,
    [⟨0, 32, .ro, 0, .nonvolatile, 0, 4294967295, []⟩]⟩,
   ⟨"UPD_LEFT", 0x150020, [], 0,
    [⟨0, 12, .ro, 0, .volatile, 0, 4095, []⟩]⟩]

/-- Block 22, TLY (Tables 28.2 and 28.4). -/
def regTableTLY : List RegDesc :=
  [⟨"TLY_STATUS", 0x160000, [], 0,
    [⟨0, 11, .ro, 0, .nonvolatile, 0, 2047, []⟩,
     ⟨11, 1, .ro, 0, .nonvolatile, 0, 1, []⟩,
     ⟨12, 1, .ro, 0, .nonvolatile, 0, 1, []⟩,
     ⟨13, 1, .ro, 0, .nonvolatile, 0, 1, []⟩,
     ⟨16, 16, .ro, 0, .nonvolatile, 0, 65535, []⟩]⟩,
   ⟨"TLY_NEXT", 0x160004, [], 0,
    [⟨0, 32, .ro, 0, .nonvolatile, 0, 4294967295, []⟩]⟩,
   ⟨"TLY_MARK", 0x160008, [], 0,
    [⟨0, 32, .rw, 0, .nonvolatile, 0, 4294967295, []⟩]⟩,
   ⟨"TLY_CNT0", 0x16000c, [], 0,
    [⟨0, 16, .ro, 0, .nonvolatile, 0, 65535, []⟩,
     ⟨16, 16, .rc, 0, .nonvolatile, 0, 65535, []⟩]⟩,
   ⟨"TLY_CNT1", 0x160010, [], 0,
    [⟨0, 16, .rc, 0, .nonvolatile, 0, 65535, []⟩,
     ⟨16, 16, .rc, 0, .nonvolatile, 0, 65535, []⟩]⟩,
   ⟨"TLY_SEL", 0x160020, [], 0,
    [⟨0, 24, .rw, 0, .volatile, 0, 16777215, []⟩,
     ⟨24, 2, .rw, 0, .volatile, 0, 3, [(2, 3, 0)]⟩,
     ⟨31, 1, .ro, 0, .volatile, 0, 1, []⟩]⟩,
   ⟨"TLY_DATA", 0x160040, [(16, 4)], 0,
    [⟨0, 32, .ro, 0, .volatile, 0, 4294967295, []⟩]⟩]

/-- Block 23, EVT (Tables 28.2 and 28.4). -/
def regTableEVT : List RegDesc :=
  [⟨"EVT_INJ", 0x170000, [], 0,
    [⟨0, 3, .rw, 0, .volatile, 0, 7, []⟩,
     ⟨4, 4, .rw, 0, .volatile, 0, 15, []⟩,
     ⟨8, 8, .rw, 0, .volatile, 0, 255, []⟩,
     ⟨31, 1, .w1s, 0, .volatile, 0, 1, []⟩]⟩,
   ⟨"EVT_INJ_STATUS", 0x170004, [], 0,
    [⟨0, 16, .ro, 0, .volatile, 0, 65535, []⟩,
     ⟨16, 16, .rc, 0, .volatile, 0, 65535, []⟩]⟩,
   ⟨"EVT_RAISE", 0x170008, [], 0,
    [⟨0, 7, .wo, 0, .volatile, 0, 127, []⟩]⟩,
   ⟨"EVT_ECC_CNT", 0x170040, [(16, 4)], 0,
    [⟨0, 16, .rc, 0, .volatile, 0, 65535, []⟩,
     ⟨16, 16, .rc, 0, .volatile, 0, 65535, []⟩]⟩,
   ⟨"EVT_ECC_LAST", 0x170080, [], 4,
    [⟨0, 40, .ro, 0, .volatile, 0, 1099511627775, []⟩,
     ⟨44, 4, .ro, 0, .volatile, 0, 15, []⟩]⟩,
   ⟨"EVT_LINK_CNT", 0x1700a0, [(4, 4)], 0,
    [⟨0, 16, .rc, 0, .volatile, 0, 65535, []⟩,
     ⟨16, 8, .rc, 0, .volatile, 0, 255, []⟩,
     ⟨24, 2, .ro, 2, .volatile, 0, 3, []⟩]⟩,
   ⟨"EVT_CDLOSS", 0x1700c0, [], 0,
    [⟨0, 8, .ro, 0, .spar, 0, 255, []⟩,
     ⟨8, 1, .ro, 0, .spar, 0, 1, []⟩,
     ⟨16, 4, .rws, 4, .volatile, 1, 15, []⟩]⟩,
   ⟨"EVT_SCRUB", 0x1700c4, [], 0,
    [⟨0, 6, .rws, 10, .volatile, 1, 60, []⟩]⟩]

/-- The registers of a block of the configuration space; a reserved block has none (Table 28.2). -/
def regBlock : Nat → List RegDesc
  | 0 => regTableSPR
  | 1 => regTableCLK
  | 2 => regTablePWR
  | 3 => regTableWAK
  | 4 => regTableCHN
  | 5 => regTablePAR
  | 6 => regTableRNG
  | 7 => regTableACT
  | 8 => regTableHS
  | 9 => regTableHB
  | 10 => regTableSV
  | 11 => regTableLED
  | 12 => regTableFIO
  | 13 => regTableSIN
  | 14 => regTableSCL
  | 15 => regTableSW
  | 16 => regTableSUB
  | 17 => regTableBRD
  | 18 => regTableINF
  | 19 => regTableSTO
  | 20 => regTableSEC
  | 21 => regTableUPD
  | 22 => regTableTLY
  | 23 => regTableEVT
  | _ => []

end Sys2Proof.Machine
end

