-- ==== Sys2Proof/Machine/StateA.lean ====
section
/-! DEFINITION.
The parts of the machine's state that the spar domain, the power states, waking, the partitions, the rings, the
events, the tally, actuation and the scaler have beyond their registers (chapters 1 to 4, 6 to 12, 14, 23 and 24).
Each field's default is its value right after the power-on reset.
-/

namespace Sys2Proof.Machine

/-! ### The spar domain, power states and waking (chapters 1 to 4) -/

/-- The states of Table 3.1 and SPAR_ONLY; IDLE is per core. -/
inductive PState where
  | run | sleep | deep | off | sparOnly
  deriving DecidableEq, Repr

/-- How far the control die has come: held off; in the boot ROM (from the first instruction to the hand-over, R530);
running partition software; declared lost (R21). -/
inductive CdPhase where
  | off | boot | run | lost
  deriving DecidableEq, Repr

/-- Which kind of start a wake sequence is (R100, R102). -/
inductive StartKind where
  | por | deep | off | restart | sparOnly
  deriving DecidableEq, Repr

/-- A wake sequence of the failure ladder (R100 to R106): the kind of start, the wake reason, the attempt now due or
running, whether it runs, the rails that have reported PGOOD, FRC readiness, the precharge of HOLD, and the causes of
the failed attempts. -/
structure WakeSeq where
  kind : StartKind
  code : Nat
  index : Nat
  /-- the tick of the accepted event (R98), and the tick from which the next limit counts: the rails' enabling, or the failure
  that a pause follows (Table 4.2, R103) -/
  since : Nat := 0
  mark : Nat := 0
  attempt : Nat := 1
  running : Bool := false
  corePg : Bool := false
  ioPg : Bool := false
  linkPg : Bool := false
  bucks : Bool := false
  holdOk : Bool := false
  causes : List Nat := []
  deriving DecidableEq, Repr

/-- A pending entry into a power state (R69 to R73): the target state code (1 SLEEP, 2 DEEP, 3 OFF), whether the idle
timer asked for it, whether the checks of Table 3.3 have passed, and when its wait began. -/
structure Entry where
  target : Nat
  idle : Bool
  passed : Bool := false
  since : Nat
  deriving DecidableEq, Repr

/-- The state of one core for R69: running, in WFI executed while PWR_NEXT read NONE, in WFI executed while it did not
(held: its pipeline stops, and it does not go to IDLE), or in IDLE with its clocks off. -/
inductive CoreState where
  | run | wfi | held | idle
  deriving DecidableEq, Repr

/-- The spar domain beyond its registers. -/
structure SparState where
  /-- VSPAR stands above its supervisor's threshold (R86) -/
  powered : Bool := true
  /-- the spar firmware runs; false within a spar reset (R49) -/
  up : Bool := true
  /-- XS passes supervision now (R35, R37) -/
  xsPass : Bool := true
  /-- the last calibrated XS-to-LPO ratio, LPO cycles per 1,024 ticks times 2^16 (R35, R36) -/
  ratio : Nat := 65536000
  /-- no CD start since the last power-on or spar reset (Table 2.1) -/
  firstStart : Bool := true
  /-- device time and RTC stored at the last sleep entry (R41) -/
  dtEntry : Nat := 0
  rtcEntry : Nat := 0
  /-- the control watchdog counts (R55) -/
  wdgOn : Bool := false
  /-- the tick of the last complete feed, and the PERIOD and CLOSED its window opened with (R53) -/
  wdgSince : Nat := 0
  wdgPeriod : Nat := 1000
  wdgClosed : Nat := 0
  /-- the halves of the feed already given in this window, and whether WDG_WARN was raised -/
  wdgP0 : Bool := false
  wdgSaf : Bool := false
  wdgWarned : Bool := false
  /-- the loss record: RTC times of the counted losses (R523) -/
  losses : List Nat := []
  /-- cause and RTC of the last loss, for CONTROL_RESTORED (R522) -/
  lossCause : Nat := 0
  lossRtc : Nat := 0
  /-- CONTROL_RESTORED is owed to P0 (R522) -/
  restoreDue : Bool := false
  /-- a commanded device reset is under way, so its loss is not counted (R523) -/
  commanded : Bool := false
  /-- RTC times of the failed wake sequences (R107) -/
  failed : List Nat := []
  /-- RTC at the failure that ended the last sequence (R106) -/
  lastFail : Option Nat := none
  deriving DecidableEq, Repr

/-- Device time beyond its register (R40 to R42). -/
structure DtState where
  /-- device time runs: the CD has started (R41) -/
  on : Bool := false
  /-- the part of a nanosecond below SPR_DT, in units of 1/64,000,000 ns -/
  frac : Nat := 0
  /-- the rate correction in force (ppm, signed) and what is left to slew (1/64,000,000 ns, signed) -/
  ppm : Int := 0
  slew : Int := 0
  slewing : Bool := false
  /-- the sum of all steps since the CD start, so that elapsed time can be told from device time (R401) -/
  stepped : Int := 0
  /-- the tick of the last offset that 802.1AS reported (R40) -/
  syncAt : Nat := 0
  deriving DecidableEq, Repr

/-- Power states and waking beyond their registers (chapters 3 and 4). -/
structure PwrState where
  ps : PState := .off
  cd : CdPhase := .off
  /-- the link die's own functions run (LINK buck on) -/
  ldUp : Bool := false
  /-- the CD's two links are meant to run, so the loss criteria of R21 are armed -/
  armed : Bool := false
  /-- the wake sequence in progress (R103); a power-on reset starts one with reason POR -/
  seq : Option WakeSeq := some { kind := .por, code := 1, index := 0 }
  entry : Option Entry := none
  /-- a wake event that arrived after the checks of an entry (R84), and the tick of it (R98) -/
  wakeAfter : Option (Nat × Nat) := none
  wakeAfterAt : Nat := 0
  /-- the tick at which SLEEP was left, while that tick lasts (R98) -/
  woke : Option Nat := none
  /-- a successful attempt whose LINK PGOOD is still due (Table 3.7, step 6) -/
  linkDue : Option WakeSeq := none
  cores : Tab CoreState := []
  /-- SRAM banks not retained, whose zeroing on the resume path has not ended (R577) -/
  unzeroed : List Nat := []
  /-- the configuration shadow is valid, and the seal and the partitions it holds (R77) -/
  shadow : Bool := false
  /-- tick at which the last entry completed, and the last eight sleep durations in microseconds, newest first -/
  entryAt : Nat := 0
  /-- the idle timer asked for the last completed entry (R83) -/
  idleEntry : Bool := false
  /-- since when each core has been in WFI (R69) -/
  wfiAt : Tab Nat := []
  sleeps : List Nat := []
  /-- a completed wake not yet reported to P0 (R99): the causes of its failed attempts -/
  wakeBy : Option (List Nat) := none
  /-- the boot ROM has verified a bank and loaded its images (R479) -/
  bootDone : Bool := false
  /-- ENTRY of the bank's P0_IMAGE, where the boot ROM hands over (R479, R530) -/
  bootEntry : Nat := 0
  /-- domains the output stages keep on in DEEP (R75, R79): the kept channels' keys -/
  kept : List Nat := []
  /-- WAKE_N was low at the last completed entry and has not been high for 1 ms since (R547) -/
  pinHeld : Bool := false
  /-- feeds that went out of range by overvoltage (R557) -/
  overFeeds : List Nat := []
  /-- homes asleep that a held engine owes a signal (R89); delivered at the wake with reason RING -/
  owed : List Nat := []
  deriving DecidableEq, Repr

/-! ### Partitions (chapter 6) -/

/-- An engine's share record of a partition entry (Table 6.4, QOS). -/
structure Qos where
  weight : Nat
  rate : Nat
  burst : Nat
  deriving DecidableEq, Repr

/-- A window record (Table 6.4): PBASE, TARGET, SIZE_LOG2 (0 unused) and PERM (bit 0 R, bit 1 W, bit 2 SHARE). -/
structure Window where
  pbase : Nat
  target : Nat
  size : Nat
  perm : Nat
  deriving DecidableEq, Repr

/-- A partition entry of the layout (Table 6.4); home 0 LOCAL, 1 SAFETY, 2 REMOTE. -/
structure PartEntry where
  part : Nat
  home : Nat
  addr : Nat
  msiAddr : Nat
  msiData : Nat
  evRate : Nat
  evCoalesce : Nat
  iBudget : Nat
  hBudget : Nat
  eBudget : Nat
  escT : Nat
  orphanT : Nat
  qos : List Qos
  windows : List Window
  deriving DecidableEq, Repr

/-- An ownership record (Table 6.5). -/
structure OwnRec where
  kind : Nat
  owner : Nat
  index : Nat
  rank : Nat
  orphan : Nat
  deriving DecidableEq, Repr

/-- A partition reset in progress (R153): its trigger (1 P0, 2 safety partition, 3 self, 4 budget) and start tick. -/
structure Resetting where
  trigger : Nat
  since : Nat
  deriving DecidableEq, Repr

/-- A seal set whose application runs: the stage reached (Table 25.3), its address and its bytes (R535). -/
structure SealSet where
  stage : Nat
  addr : Nat
  image : List Byte
  deriving DecidableEq, Repr

/-- The layout in force and the resets in progress. -/
structure ParState where
  /-- the seal set being applied (R535) -/
  sset : Option SealSet := none
  /-- a layout has been applied since the device reset; until then P0 has its default entry (R580) -/
  applied : Bool := false
  entries : List PartEntry := []
  owners : List OwnRec := []
  resetting : Tab Resetting := []
  deriving DecidableEq, Repr

/-! ### Rings (chapter 7) -/

/-- One ring: its setup (R167) and, once armed, its physical base and indices. For a submission ring `prod` is the
last accepted producer index P and `cons` the count C taken; for a completion or event ring `prod` is the device's
producer index and `cons` the last accepted consumer index. -/
structure Ring where
  base : Nat := 0
  size : Nat := 4
  prio : Nat := 0
  en : Bool := false
  armed : Bool := false
  phys : Nat := 0
  prod : Nat := 0
  cons : Nat := 0
  deriving DecidableEq, Repr

/-- A shadow block (R180): its configured base and, once armed, its physical base. -/
structure Shadow where
  base : Nat := 0
  phys : Nat := 0
  armed : Bool := false
  deriving DecidableEq, Repr

/-- An accepted descriptor that has not completed: engine, header, the NOT_BEFORE in force (rebased by R43) and
tolerance of a timed one, FENCE, its 64 bytes, whether it has started, and the status and result of one that has ended
while an earlier descriptor of its ring has not (R182). -/
structure Work where
  eng : Nat
  hdr : DHdr
  opcode : Nat
  timed : Bool
  notBefore : Nat
  tolUs : Nat
  lateAlways : Bool
  fence : Bool
  body : List Byte
  started : Bool
  fin : Option (Nat × List Byte) := none
  deriving DecidableEq, Repr

/-- The ring engines beyond their registers. -/
structure RngState where
  /-- rings by `part * 64 + engine * 8 + ring` (4 completion); the event ring by `part * 64 + 56` -/
  rings : Tab Ring := []
  shadows : Tab Shadow := []
  /-- accepted descriptors in acceptance order -/
  work : List Work := []
  /-- (partition, engine) pairs whose RING_STALL episode has been raised (R185) -/
  stalled : List (Nat × Nat) := []
  /-- doorbells written before the boot ROM has handed over, kept for their rings: partition, engine, ring, index (R81) -/
  bells : List (Nat × Nat × Nat × Nat) := []
  /-- deficit round robin (R162): what each partition may still be served in its turn, by `part * 8 + engine`, and the
  partition each engine served last; and the submission ring last served, by `part * 8 + engine` (R183) -/
  deficit : Tab Int := []
  drrAt : Tab Nat := []
  turns : Tab Nat := []
  /-- a ring command is being checked, and an ENGINE_RESET held until the check ends (R167) -/
  busy : Bool := false
  heldReset : Option Nat := none
  /-- the token buckets of R162 by `part * 8 + engine`: what a bucket lacked of BURST, in 1/32,768 units, and the tick at
  which it lacked that -/
  spent : Tab (Nat × Nat) := []
  deriving DecidableEq, Repr

/-! ### Events (chapter 24, R158 to R161) -/

/-- An event record before delivery (Table 7.5); PHASE is given at writing. -/
structure EvRec where
  src : Nat
  clsS : Bool
  repeated : Nat
  eseq : Nat
  time : Nat
  payload : List Byte
  deriving DecidableEq, Repr

/-- The event side of one partition. -/
structure PartEv where
  /-- the next ESEQ -/
  eseq : Nat := 0
  /-- tokens taken from the class N bucket since its last refill (R159) -/
  used : Nat := 0
  /-- class N records written and not yet signalled -/
  unsignalled : Nat := 0
  /-- suppressed sources in the order of their first suppressed event, each with its count and last event -/
  suppressed : List EvRec := []
  /-- class S records waiting (R161) -/
  queue : List EvRec := []
  deriving DecidableEq, Repr

/-- An event held on the power die while the control die is lost (R524): its recipient and RTC. -/
structure HeldEv where
  part : Nat
  src : Nat
  clsS : Bool
  rtc : Nat
  payload : List Byte
  deriving DecidableEq, Repr

/-- Event delivery beyond its registers. -/
structure EvtState where
  parts : Tab PartEv := []
  held : List HeldEv := []
  /-- records lost from the held store, by partition, counted in EV_LOST after the restart (R524) -/
  heldLost : Tab Nat := []
  /-- relation of RTC to device time at the last CD start (R524) -/
  rtcStart : Nat := 0
  dtStart : Nat := 0
  deriving DecidableEq, Repr

/-! ### The tally (chapter 23) -/

/-- A tally record (Table 23.1). -/
structure TRec where
  rseq : Nat
  typ : Nat
  flags : Nat
  pstate : Nat
  addr : Nat
  rtc : Nat
  starts : Nat
  payload : List Byte
  prev : BitVec 64
  mac : BitVec 64
  deriving DecidableEq, Repr

/-- One half of a slot (R497): the erased image, a valid record, or damaged. -/
inductive TSlot where
  | erased | damaged
  | valid (r : TRec)
  deriving DecidableEq, Repr

/-- A slot in both halves. -/
structure TPair where
  a : TSlot
  b : TSlot
  deriving DecidableEq, Repr

/-- A record waiting in the spar's queue (R503): what is fixed at its cause. -/
structure TWait where
  typ : Nat
  flags : Nat
  rtc : Nat
  payload : List Byte
  deriving DecidableEq, Repr

/-- The tally beyond its registers. -/
structure TlyState where
  ring : Tab TPair := []
  first : Tab TPair := []
  queue : List TWait := []
  /-- MAC of the last record written (R498) -/
  lastMac : BitVec 64 := 0
  /-- cold starts since manufacture, modulo 2^16 -/
  starts : Nat := 0
  lastClear : Nat := 0
  /-- drops not yet recorded, and the RSEQ of the last record before the first of them (R504) -/
  dropped : Nat := 0
  dropAfter : Nat := 0
  /-- TLY_UNREAD_LOST was raised since RD_MARK last advanced; TLY_FFA_FULL since the last clear (R508) -/
  unreadRaised : Bool := false
  fullRaised : Bool := false
  deriving DecidableEq, Repr

/-! ### The chain (chapter 5) -/

/-- A READ_REQ without its answer (R133): request number, home address, length, times sent, what it fetches (descriptors of an
engine's ring from an index on), and when it was last sent. -/
structure ProxyRead where
  id : Nat
  addr : Nat
  len : Nat
  tries : Nat
  eng : Nat
  ring : Nat
  first : Nat
  since : Nat
  deriving DecidableEq, Repr

/-- A WRITE (type 4) or EVENT (type 5) kept until its SEQ is acknowledged (R133). -/
structure ProxyFrame where
  typ : Nat
  seq : Nat
  body : List Byte
  deriving DecidableEq, Repr

/-- The ring proxy of one REMOTE partition. -/
structure Proxy where
  seq : Nat := 0
  unacked : List ProxyFrame := []
  reads : List ProxyRead := []
  /-- posts that wait because 64 frames are unacknowledged (R133) -/
  waiting : List ProxyFrame := []
  /-- index up to which descriptors have been requested, by `engine * 4 + ring` -/
  asked : Tab Nat := []
  /-- an index has moved since the shadow block was last sent (R188) -/
  stale : Bool := false
  /-- fetched descriptors not yet accepted: engine, ring, index, 64 bytes -/
  fetched : List (Nat × Nat × Nat × List Byte) := []
  /-- when the last valid frame came from the home (R134), and when the first unacknowledged frame was last sent (R133) -/
  heardAt : Nat := 0
  sentAt : Nat := 0
  deriving DecidableEq, Repr

/-- The chain beyond its registers. -/
structure ChainState where
  up0 : Bool := false
  up1 : Bool := false
  /-- a cruise has been seen since the reset, so CRUISE_ID names it -/
  cruised : Bool := false
  pendingAddr : Option Nat := none
  /-- the last ASSIGN carried POS_DUP (R122) -/
  posDup : Bool := false
  /-- an ASSIGN has been received, so unsolicited ANNOUNCE stops (R119) -/
  assigned : Bool := false
  /-- one unsolicited ANNOUNCE is owed once the upstream link is up (R119) -/
  announceDue : Bool := false
  /-- the causes of R124 that remain: 1 CD lost, 2 SPAR_ONLY, 3 clock, 4 FORCE, 5 MAINT, 7 link die's own link lost -/
  causes : List Nat := []
  /-- the chain is cut at this unit: the link die is off, or the bypass cannot join unequal rates (R105, R124) -/
  cut : Bool := false
  /-- with EXT_CFG at 0, the port that the BMCA has made the slave port (R128) -/
  gmPort : Option Nat := none
  proxies : Tab Proxy := []
  nextReq : Nat := 0
  deriving DecidableEq, Repr

/-! ### Actuation, outputs and the scaler (chapters 8 to 12 and 14) -/

/-- How current was brought down when an output last went off or to a lower target (Table 11.2, R288). -/
inductive Decay where
  | slow | fast | clamp
  deriving DecidableEq, Repr

/-- What an output is commanded to or does. -/
inductive Drv where
  | off
  | on
  | pwm (b : PwmBody)
  | pulse (onUs offUs count : Nat)
  | profile (p rep : Nat)
  /-- a profile frozen at its present level by an orphan HOLD (Table 6.9) -/
  | frozen (p : Nat)
  | bridge (b : BridgeBody)
  /-- the last segment of a finished profile held (R220, R257) -/
  | hold (p seg : Nat)
  deriving DecidableEq, Repr

/-- A descriptor whose completion waits for a long effect (R194). -/
structure Job where
  hdr : DHdr
  opcode : Nat
  deriving DecidableEq, Repr

/-- A limp drive of a half-bridge: none, driving, braking, or waiting for a safety hold to end (R209, R212). -/
inductive LimpDrive where
  | none | drive | brake | waiting
  deriving DecidableEq, Repr

/-- The safety-lane hold of a channel (Table 8.5). -/
inductive SafeHold where
  | none | off | brake | reverse
  deriving DecidableEq, Repr

/-- One output channel beyond its registers. -/
structure Chn where
  /-- what the output does, and the commanded state of R225 -/
  drv : Drv := .off
  cmd : Drv := .off
  job : Option Job := none
  safe : SafeHold := .none
  /-- the channel keeps its state until its owner's next descriptor (Table 8.5, R60, R203) -/
  kept : Bool := false
  /-- held by a live CRASH entry (R211) -/
  live : Bool := false
  /-- orphan state: 0 none, 1 OFF, 2 HOLD, 3 LIMP (Table 6.9), since when, and whether it waits for a reversal to end -/
  orphan : Nat := 0
  orphanAt : Nat := 0
  orphanDue : Bool := false
  /-- an orphan or interim brake of 20 ms is running (R30, R156) -/
  braking : Bool := false
  /-- a pending retry of R225 (its number), and retries so far of a field output -/
  retry : Option Nat := none
  retries : Nat := 0
  /-- the tick from which the pending retry's wait counts, moved on by a storm's pause (R225, R320) -/
  retryAt : Nat := 0
  /-- the tick of the last switch-off (R222) -/
  offAt : Option Nat := some 0
  twarn : Bool := false
  /-- a field output's inrush window is open (R287), the causes already reported (R289), and an LED channel kept off by
  NB_SHORT until RESTART (R276) -/
  inrush : Bool := false
  told : Nat := 0
  nbHold : Bool := false
  /-- LED: the present level when it is not DEF_LEVEL (R271) -/
  level : Option Nat := none
  /-- the wire ceiling (0.01 %) and the budget ceiling (%), and the modelled rise in nanokelvin (R227, R228, R318) -/
  wireCeil : Nat := 10000
  wireHot : Bool := false
  budCeil : Nat := 100
  dT : Nat := 0
  /-- the channel's supply feed is out of range, so it is off with its commanded state kept (R545, R557) -/
  feedOff : Bool := false
  /-- elapsed microseconds at which what the output does began, and the level applied then (0.01 %; mA of a solenoid); the
  PWM that runs until that moment, with its own beginning and first level (R217, R220, R236, R258) -/
  runAt : Nat := 0
  fromLvl : Nat := 0
  prev : Option (PwmBody × Nat × Nat) := none
  /-- how the output's current last fell (R259, R288), and that a FULL segment has reached its current (R258) -/
  fall : Decay := .slow
  reached : Bool := false
  /-- LED: the test in progress, 1 of this channel alone, 2 with its upper neighbour too (R277, R278) -/
  test : Nat := 0
  /-- LED: the tick at which the channel's TP_PERIOD began (R277) -/
  testAt : Nat := 0
  /-- SV: the members' shares are in an excursion (R254) -/
  shareOn : Bool := false
  /-- profile progress: segment, passes done, and (SV) the kerf segment's start -/
  seg : Nat := 0
  pass : Nat := 0
  /-- bridges: a drive waiting for DIR_GAP, the last drive's direction (1 A, 2 B) and end tick, ripple period in
  microseconds, consecutive fills, ripples of the reverse phase, and the reversal's direction -/
  wait : Option (BridgeBody × Option Job) := none
  /-- a ripple of the present motion has been accepted (R239) -/
  ripSeen : Bool := false
  dir : Nat := 0
  driveEnd : Option Nat := none
  period : Nat := 0
  fills : Nat := 0
  revRip : Nat := 0
  revDir : Nat := 0
  limpDrive : LimpDrive := .none
  limpDir : Nat := 0
  limpMs : Nat := 0
  /-- LED tests: consecutive failed and passed measurements of OPEN, SHORT_GND and NB_SHORT -/
  openN : Nat := 0
  shortN : Nat := 0
  nbN : Nat := 0
  nbAge : Nat := 0
  /-- SV: a kerf watch runs; its kerf when found (10 µs, mA); the KERF segment's TIME (10 µs) when an update of learning
  is due (R261, R323) -/
  kerf : Bool := false
  found : Option (Nat × Nat) := none
  learnDue : Option Nat := none
  /-- this channel's own last temperature reading in 0.5 °C (R223) -/
  temp : Int := 0
  /-- tick of the last counted ripple (R239) -/
  ripAt : Nat := 0
  /-- LED: the pair of this channel and the next one is shorted (R277) -/
  nbShort : Bool := false
  deriving DecidableEq, Repr

/-- A grant of R200: owner's channel and grantee. -/
structure Grant where
  ch : Nat
  grantee : Nat
  deriving DecidableEq, Repr

/-- A claim of R200. -/
structure Claim where
  lead : Nat
  fol : Nat
  claimant : Nat
  deriving DecidableEq, Repr

/-- A running SEQUENCE: its job, the steps not yet run, the number executed and the channel of the last one. -/
structure SeqRun where
  job : Job
  steps : List SeqStep
  done : Nat
  last : Chan
  since : Nat
  deriving DecidableEq, Repr

/-- A message on its way to the power die on the safety lane (R205): action, source (1 comparator, 2 SAFE_ACTION),
binding, cause, stream and window of a verdict, and the SAFE_ACTION that waits for its acceptance. -/
structure LaneMsg where
  ch : Chan
  op : Nat
  src : Nat
  binding : Nat := 0
  cause : Nat := 0
  stream : Nat := 0
  seq : Nat := 0
  hdr : Option DHdr := none
  deriving DecidableEq, Repr

/-- A limp entry (Table 8.8). -/
structure LimpEntry where
  ch : Chan
  trigger : Nat
  actT : Nat
  actF : Nat
  paramT : Nat
  paramF : Nat
  pulseMs : Nat
  deriving DecidableEq, Repr

/-- One MRAM copy of the limp table: the image with its committed pairing (R207). `good` says that its CHECK holds. -/
structure LimpCopy where
  good : Bool
  id : Nat
  entries : List LimpEntry
  pair : Nat
  deriving DecidableEq, Repr

/-- Actuation and limp beyond their registers. -/
structure ActState where
  grants : List Grant := []
  claims : List Claim := []
  seqs : List SeqRun := []
  lane : List LaneMsg := []
  /-- the staged limp image (R207) -/
  staged : Option LimpCopy := none
  /-- the two MRAM copies, 0 and 1 (ACT_LIMP_INFO.COPY names the active one) -/
  copy0 : Option LimpCopy := none
  copy1 : Option LimpCopy := none
  /-- outputs are in the interim state of R30 -/
  interim : Bool := false
  /-- the outputs were switched off by an entry into DEEP or OFF while the table was applied (Table 3.4) -/
  parked : Bool := false
  /-- the commit of the seal point is due (R207) -/
  commitDue : Bool := false
  deriving DecidableEq, Repr

/-- The per-partition budget state of the scaler (R317 to R319). -/
structure Budget where
  overI : Nat := 0
  /-- the 100 energy slots, newest first, the first one filling (pJ) -/
  slots : List Nat := []
  /-- milliseconds all three budgets have been below RESTORE_PCT -/
  below : Nat := 0
  /-- milliseconds at every floor with a budget exceeded, the present step included -/
  floorFor : Nat := 0
  /-- BUDGET_DERATE has been raised in this excursion -/
  raised : Bool := false
  /-- milliseconds to the next shedding; 0 none -/
  shedWait : Nat := 0
  /-- the number of the 100 ms slot that is filling -/
  slotNo : Nat := 0
  /-- the 100 ms mean of the attributed heat, and the steps it is taken from, newest first (µW) -/
  heat : Nat := 0
  heatLog : List Nat := []
  deriving DecidableEq, Repr

/-- The scaler beyond its registers. -/
structure SclState where
  budgets : Tab Budget := []
  /-- the scaler's own timer in milliseconds -/
  steps : Nat := 0
  /-- the voltage of each VBAT feed at the last step (mV) -/
  feeds : Tab Nat := []
  /-- milliseconds the package has been below its limits, and to the next fall of g -/
  pkgBelow : Nat := 0
  /-- the last second's package dissipation by step, newest first (µW) -/
  pkgLog : List Nat := []
  /-- the factor f of each LED group in 0.01 % (R280) -/
  led : Tab Nat := []
  pkgPhase : Nat := 0
  /-- ticks of the latch-offs within the last second (R320) -/
  latchOffs : List Nat := []
  /-- the tick at which the present retry storm began (R320) -/
  stormAt : Nat := 0
  /-- ticks of restarts within the last second (R313) -/
  restarts : List Nat := []
  pinned : Bool := false
  /-- consecutive windows without loss (R325) -/
  clean : Nat := 0
  /-- losses of the running window by source (switch, SNS, INF, events), and the partitions that suffered them -/
  loss : Tab Nat := []
  lossParts : List Nat := []
  /-- the partitions whose loss contributed to the entering window -/
  ovlParts : List Nat := []
  deriving DecidableEq, Repr

end Sys2Proof.Machine
end

