-- ==== Sys2Proof/Machine/StateB.lean ====
section
/-! DEFINITION.
The parts of the machine's state that sensing, the switch, the sub-networks, brands, inference, the store, the vault,
updates and the fault machinery have beyond their registers (chapters 13, 15 to 22 and 24), and what the device emits.
-/

namespace Sys2Proof.Machine

/-- What the device emits or answers, as an outside observer sees it. -/
inductive Emission where
  /-- the answer to a register read -/
  | regRead (off : Nat) (value : Nat)
  /-- the answer to a doorbell-page read -/
  | doorbellRead (off : Nat) (value : Nat)
  /-- the answer to a core's read of a memory of Table 28.1 -/
  | memRead (addr : Nat) (bytes : List Byte)
  /-- an access fault on the core that made an access (R567, R572) -/
  | accessFault (addr : Nat)
  /-- a frame sent on a chain port by the unit's endpoint, from its destination address on (R114, R117) -/
  | zilek (port : Nat) (bytes : List Byte)
  /-- a MAINT frame that the bypass copies to the spar core, from its destination address on (R125) -/
  | sparFrame (port : Nat) (bytes : List Byte)
  /-- an 802.1AS Sync message sent on a master port, and a pdelay request (R128) -/
  | sync (port : Nat)
  | pdelay (port : Nat)
  /-- the message signal of a LOCAL home: a write of data to an address (R158) -/
  | msi (addr data : Nat)
  /-- the safety island's interrupt line for its partition (R158) -/
  | safetyIrq
  /-- a whistle on a chain port (R95) -/
  | whistle (port : Nat)
  /-- a sleep request on a chain port (R129), and the answer to one: acknowledged or not ready -/
  | sleepRequest (port : Nat)
  | sleepAck (port : Nat) (ok : Bool)
  /-- a wake-up signal on a chain port (R129), on a segment (R375) -/
  | wakeUp (port : Nat)
  /-- a frame a switch port sends, from its destination address on, without FCS (R349) -/
  | frame (port : Nat) (bytes : List Byte)
  /-- a frame handed to the unit's own endpoint behind the internal port, with the flags of its parsing (R334, R360) -/
  | endpoint (port flags : Nat) (bytes : List Byte)
  /-- a frame the bypass passes between C0 and C1 (R125) -/
  | bypassed (port : Nat) (bytes : List Byte)
  /-- a CAN frame on bus k, as the bytes of a record of Table 17.4 from offset 24 -/
  | can (bus : Nat) (bytes : List Byte)
  /-- a LIN header, a LIN response, a go-to-sleep command and a wake pulse (R380, R383) -/
  | linHeader (bus id : Nat)
  | linResponse (bus id : Nat) (classic : Bool) (bytes : List Byte)
  | linSleep (bus : Nat)
  | wakePulse (kind bus : Nat)
  /-- the CONTROL_LOST message and the POWER_DOWN frames of R21 -/
  | controlLost
  | powerDown
  /-- the application cores start at an address with what their argument registers hold, and the safety island at its fixed
  entry with its image loaded (R77, R479, R530) -/
  | coreStart (entry : Nat) (args : List Byte)
  | islandStart
  /-- the answer of DBG_AUTH to a challenge read: UID and NONCE, or zeros (R486) -/
  | challenge (bytes : List Byte)
  deriving DecidableEq, Repr

/-! ### Sensing (chapter 13) -/

/-- A completed window that waits for its inference context (R307): its block number, first sample's sequence and time
and the steps of device time before it, and the memory slot. -/
structure SWin where
  blk : Nat
  seq : Nat
  addr : Nat
  count : Nat
  handed : Bool := false
  steps : Int := 0
  deriving DecidableEq, Repr

/-- An open stream (R303 to R308). -/
structure Strm where
  part : Nat
  slot : Nat
  src : Nat
  kind : Nat
  index : Nat
  rate : Nat
  nsamp : Nat
  hop : Nat
  nblk : Nat
  inf : Bool
  blkEvt : Bool
  ctx : Nat
  base : Nat
  mask : Nat
  flush : Nat
  stream : Nat
  /-- pool demand (ksps) returned at the close (R304) -/
  demand : Nat := 0
  /-- SEQ of the next block's first sample -/
  seq : Nat := 0
  /-- producer and consumer block counts (R308) -/
  prod : Nat := 0
  cons : Nat := 0
  lost : Nat := 0
  gapDue : Bool := false
  /-- no brand written yet, so the next carries FIRST -/
  fresh : Bool := true
  epoch : Nat := 0
  /-- samples of the block being filled (edge sources), and the time of its first sample -/
  buf : List Byte := []
  t0 : Nat := 0
  /-- windows INF has not yet read, oldest first -/
  wins : List SWin := []
  suspended : Bool := false
  /-- a CLOSE that waits for INF (R309) -/
  closing : Option DHdr := none
  /-- tick of the last loss (R308) -/
  lossAt : Option Nat := none
  deriving DecidableEq, Repr

/-- Sensing beyond its registers. -/
structure SnsState where
  /-- pin readings (bit n: SIn reads high), kept between the thresholds (R295), and which pins have been read at all -/
  reading : Nat := 0
  known : Nat := 0
  /-- consecutive samples of each input that disagree with its accepted state (R296) -/
  agree : Tab Nat := []
  /-- the level captured at entry (R94), and the confirming samples of R92 -/
  captured : Option Nat := none
  confirm : Tab Nat := []
  streams : List Strm := []
  /-- the tick of the last conversion of each analog input, and of the last cyclic burst (R298, R299) -/
  anaAt : Tab Nat := []
  burstAt : Nat := 0
  deriving DecidableEq, Repr

/-! ### Inference (chapter 19) and brands (chapter 18) -/

/-- A loaded, loading or reloading context (R422 to R427). `img` is the image; its parts are where its header says. -/
structure Ctx where
  part : Nat := 0
  img : List Byte := []
  imgAddr : Nat := 0
  imgLen : Nat := 0
  mode : Nat := 0
  bulk : Bool := false
  nblk : Nat := 0
  out : Nat := 0
  /-- weight memory taken (KiB) -/
  kibA : Nat := 0
  kibB : Nat := 0
  /-- STREAM of channel A's results in this run, SEQ of the next job's results, and for each channel a GAP that is due,
  whether the run's first result is still to come, and the EPOCH of its last one -/
  stream : Nat := 0
  seq : Nat := 0
  gapA : Bool := false
  gapB : Bool := false
  freshA : Bool := true
  freshB : Bool := true
  epochA : Nat := 0
  epochB : Nat := 0
  /-- the LOAD in progress -/
  load : Option DHdr := none
  /-- the last handed window's SEQ, and when (R405, R406, R416) -/
  handed : Option Nat := none
  handedAt : Nat := 0
  /-- when the golden vector of a BULK context last ran beside the known-answer tests (R434) -/
  goldenAt : Nat := 0
  deriving DecidableEq, Repr

/-- A channel's share of a job: not needed, ready, running since, suspended, ended with a result, aborted, or not run
because its channel failed. -/
inductive Share where
  | unused | ready
  | running (since : Nat)
  | suspended
  | done (record : List Byte)
  | aborted
  | failed
  deriving DecidableEq, Repr

/-- A job (R429 to R431): of a RUN (`hdr`) or of a window (`stream`: its slot and block), its partition, the input, the
input brands, whether a hand-off gap or an input's GAP came before it, where its records go, the steps of device time at
its hand-off, and each channel's share. -/
structure InfJob where
  id : Nat
  ctx : Nat
  part : Nat
  hdr : Option DHdr
  stream : Option (Nat × Nat)
  input : List Byte
  brands : List Byte
  nin : Nat
  gap : Bool
  outAddr : Nat
  steps : Int
  since : Nat
  a : Share
  b : Share
  seq : Nat
  /-- tolerances of classes 1 to 3 as they stood when the job started (R438) -/
  tol : Option (Nat × Nat × Nat) := none
  /-- both channels have ended, and a RUN has completed -/
  settled : Bool := false
  /-- what the comparator has received of each channel, and the bindings it has decided for (R413) -/
  rxA : Option (List Byte) := none
  rxB : Option (List Byte) := none
  decided : List Nat := []
  deriving DecidableEq, Repr

/-- One channel of the engine. -/
structure InfChan where
  /-- a known-answer test runs (R434) -/
  kat : Bool := false
  katSince : Nat := 0
  /-- it was forced, and the context at which the next test's turn starts -/
  forced : Bool := false
  katCtx : Nat := 0
  /-- consecutive passed and failed retests (R435) -/
  passes : Nat := 0
  fails : Nat := 0
  deriving DecidableEq, Repr

/-- Inference beyond its registers. -/
structure InfState where
  ctxs : Tab Ctx := []
  jobs : List InfJob := []
  nextJob : Nat := 0
  chA : InfChan := {}
  chB : InfChan := {}
  deriving DecidableEq, Repr

/-- What a brand consumer keeps of its stream (R405). -/
structure BrandState where
  next : Nat := 0
  tbase : Nat := 0
  deriving DecidableEq, Repr

/-- Brands and the safety island beyond their registers: the consumer state of each tunnel, the pairs that a lockstep
fault has stopped (R410), and the channel drives that NO_INPUT has already acted on (R416). -/
structure BrdState where
  tun : Tab BrandState := []
  stopped : List Nat := []
  deriving DecidableEq, Repr

/-! ### The switch (chapters 15 and 16) -/

/-- An entry of the forwarding table (R339) and the ticks of its recent moves (R341). -/
structure TblEnt where
  mac : Nat
  vid : Nat
  port : Nat
  age : Nat
  static : Bool
  mcast : Bool
  moves : List Nat := []
  deriving DecidableEq, Repr

/-- A VLAN's settings (SW_VLAN_DATA). -/
structure Vlan where
  member : Nat := 0
  untag : Nat := 0
  insPol : Nat := 0
  vlearn : Bool := false
  valid : Bool := false
  deriving DecidableEq, Repr

/-- A frame copy in a queue: the bytes as they leave (without FCS), the cells taken from guaranteed, shared and reserve
space, and what host delivery needs: VID, TCI, ingress port, receive flags and owner. -/
structure QFrame where
  bytes : List Byte
  guar : Nat
  pool : Nat
  res : Nat
  tci : Nat
  port : Nat
  rflags : Nat
  owner : Option Nat
  deriving DecidableEq, Repr

/-- A posted receive buffer of NET or BUS (R338, R388). -/
structure RxBuf where
  hdr : DHdr
  addr : Nat
  size : Nat
  deriving DecidableEq, Repr

/-- A TX whose copies are being admitted (R337): the untagged frame, its VID, TCI and class, the ports left, the mask
admitted, whether a copy was too long for its port, and the start tick. -/
structure TxWait where
  hdr : DHdr
  frame : List Byte
  vid : Nat
  tci : Nat
  cls : Nat
  left : List Nat
  mask : Nat := 0
  long : Bool := false
  since : Nat
  deriving DecidableEq, Repr

/-- A MACsec secure association (R364, R368). -/
structure Sa where
  key : List Byte
  ssci : Nat := 0
  salt : List Byte := []
  /-- next PN for transmit, lowest acceptable PN for receive -/
  pn : Nat
  warned : Bool := false
  deriving DecidableEq, Repr

/-- The switch beyond its registers. -/
structure SwState where
  table : Tab TblEnt := []
  vlans : Tab Vlan := []
  /-- the classification rules in effect: the rules' register fields as they stood when each word 0 was written (R363) -/
  ruleRegs : Tab (BitVec 64) := []
  /-- queues by `port * 8 + class` -/
  queues : Tab (List QFrame) := []
  counters : Tab Nat := []
  /-- shaper credits by `port * 8 + class`, in millionths of a bit (R350) -/
  credits : Tab Int := []
  /-- gate entry in effect on each chain port, and the device time at which it ends (R351) -/
  gates : Tab (Nat × Nat) := []
  /-- tick at which the age clock read 0 (R344) -/
  ageBase : Nat := 0
  storms : Tab Nat := []
  rx : List RxBuf := []
  tx : List TxWait := []
  /-- secure associations by `port * 4 + AN`; transmit ones that wait for USE by 8 more -/
  rxSa : Tab Sa := []
  txSa : Tab Sa := []
  /-- transmit associations whose packet numbers have just passed the warning: port and AN of each (R368) -/
  pnWarn : List (Nat × Nat) := []
  deriving DecidableEq, Repr

/-! ### Sub-networks (chapter 17) -/

/-- A CAN frame: the bytes of Table 17.4 from offset 24 (ID, LEN, RFLAGS, BUS, SDT, VCID, reserved, AF, DATA). -/
structure CanMsg where
  bytes : List Byte
  prio : Nat
  deriving DecidableEq, Repr

/-- A CAN_TX that waits for the bus. -/
structure CanPend where
  hdr : DHdr
  msg : CanMsg
  single : Bool
  since : Nat
  deriving DecidableEq, Repr

/-- A schedule entry of LIN_SCHED. -/
structure LinEntry where
  id : Nat
  publish : Bool
  classic : Bool
  len : Nat
  slot : Nat
  deriving DecidableEq, Repr

/-- A LIN_TX. -/
structure LinPend where
  hdr : DHdr
  id : Nat
  publish : Bool
  classic : Bool
  len : Nat
  data : List Byte
  since : Nat
  deriving DecidableEq, Repr

/-- What a bus's receive stream keeps (R388, R397, R398): whether a run has begun, its STREAM, the next SEQ, a loss that
the next brand reports, whether a brand has been written, and the EPOCH of the last one. -/
structure BusStream where
  run : Bool := false
  stream : Nat := 0
  seq : Nat := 0
  gap : Bool := false
  epoch : Nat := 0
  deriving DecidableEq, Repr

/-- A CAN bus beyond its registers. -/
structure CanBus where
  pend : List CanPend := []
  /-- frames from tunnels that wait for the bus (R392) -/
  ingress : List CanMsg := []
  asleep : Bool := false
  offline : Bool := false
  /-- bus-off, and whether its recovery has started (R378) -/
  off : Bool := false
  recovering : Bool := false
  /-- a BUS_CTL SLEEP that waits for the frame in transmission (R384) -/
  sleepFor : Option DHdr := none
  rx : BusStream := {}
  deriving DecidableEq, Repr

/-- A LIN bus beyond its registers: the schedule running, the next entry, the change due at the end of the current slot
(`some []` stops it), whether a slot runs, the inserted frames, the inserted frame in the present slot, the response
awaited (ID, length or 0, classic checksum), and the tick of the last wake pulse. -/
structure LinBus where
  sched : List LinEntry := []
  pos : Nat := 0
  due : Option (List LinEntry) := none
  slot : Bool := false
  insert : List LinPend := []
  current : Option LinPend := none
  awaits : Option (Nat × Nat × Bool) := none
  asleep : Bool := false
  offline : Bool := false
  wakeAt : Option Nat := none
  rx : BusStream := {}
  deriving DecidableEq, Repr

/-- A tunnel beyond its registers: queued messages, sequence_num sent, and the next one expected. -/
structure Tun where
  msgs : List Byte := []
  txSeq : Nat := 0
  rxSeq : Option Nat := none
  deriving DecidableEq, Repr

/-- Sub-networks beyond their registers. Responses by `bus * 64 + id`: data and classic checksum. -/
structure SubState where
  can : Tab CanBus := []
  lin : Tab LinBus := []
  resp : Tab (List Byte × Bool) := []
  tuns : Tab Tun := []
  rx : List RxBuf := []
  deriving DecidableEq, Repr

/-! ### The store (chapters 20 and 21) -/

/-- A namespace (R441 to R444). -/
structure NsEnt where
  extents : Nat
  pslc : Bool
  journal : Bool
  counted : Bool
  wbEn : Bool
  deriving DecidableEq, Repr

/-- An erase block that holds data: its namespace, logical blocks, effective age in units of 2^-16 s, reads since its
programming, refresh queued (0 no, 1 background, 2 foreground) and the cause. -/
structure EraseBlk where
  ns : Nat
  lbas : List Nat
  age : Nat := 0
  reads : Nat := 0
  queued : Nat := 0
  cause : Nat := 0
  deriving DecidableEq, Repr

/-- A started STO command: its data as taken at the start (R453). -/
structure StoJob where
  hdr : DHdr
  op : Nat
  ns : Nat
  lba : Nat
  count : Nat
  data : List (List Byte)
  wb : Bool
  buf : Nat
  deriving DecidableEq, Repr

/-- The store beyond its registers. -/
structure StoState where
  /-- a power fail has been declared and its sequence has not ended (R467); its step of Table 21.3 -/
  failing : Bool := false
  step : Nat := 0
  /-- blocks drained and lost, and the start tick -/
  pfDrained : Nat := 0
  pfLost : Nat := 0
  pfAt : Nat := 0
  /-- STO_PFAIL is owed after the next start: 1 complete, 2 stopped at V_STOP -/
  pfResult : Nat := 0
  pfTime : Nat := 0
  /-- the pre-regulator's input is below 6.0 V, so the CD stays in reset (R467) -/
  inputLow : Bool := false
  /-- the store's own metadata: namespaces; NS14 and NS15 exist from manufacture (R443) -/
  ns : Tab NsEnt := [(14, ⟨2, true, false, false, false⟩), (15, ⟨8, true, false, false, false⟩)]
  /-- durable blocks by `ns * 2^32 + lba`; an unlisted block reads as zeros -/
  blocks : Tab (List Byte) := []
  ebs : Tab EraseBlk := []
  /-- write-back blocks not yet durable: data, and the tick they became dirty -/
  dirty : Tab (List Byte × Nat) := []
  jobs : List StoJob := []
  /-- FLUSH commands that wait: header and the block keys they wait for, and how many were durable -/
  flushes : List (DHdr × List Nat × Nat) := []
  /-- namespaces mounted since the CD start (R459) -/
  mounted : List Nat := []
  /-- namespaces that the last power loss affected: rescue blocks mapped, atomic writes discarded, and the owner then
  (R459) -/
  affected : Tab (Nat × Nat × Nat) := []
  /-- write-back blocks lost by namespace at the last power loss, and the owner then, for STO_WB_LOST (R467) -/
  pfLostNs : Tab (Nat × Nat) := []
  /-- pages programmed in each namespace since its map or journal was last saved (R458); one page holds one block -/
  unsaved : Tab Nat := []
  /-- the tick of each namespace's last saved map or journal (R458) -/
  savedAt : Tab Nat := []
  /-- the store die is lost (R521) -/
  lost : Bool := false
  /-- health by namespace: state, wear and SHORT (R465) -/
  health : Tab (Nat × Nat × Bool) := []
  /-- RTC at the last start, moved with a write of the RTC (R461, R474), and tick of the last foreground refresh (R463) -/
  rtcStart : Nat := 0
  fgAt : Option Nat := none
  /-- an exit from OFF has not been followed by a mount (R461) -/
  offExit : Bool := false
  /-- HOLD missed its precharge limit at this start (R101); V_H of the measurement in mV (R470) -/
  holdLate : Bool := false
  vh : Nat := 0
  deriving DecidableEq, Repr

/-! ### The vault and updates (chapter 22) -/

/-- A RANDOM held until the DRBG is SEEDED (R482). -/
structure RandHeld where
  hdr : DHdr
  addr : Nat
  len : Nat
  since : Nat
  deriving DecidableEq, Repr

/-- The vault beyond its registers. Keys by slot; volatile slots' writers. -/
structure SecState where
  keys : Tab (List Byte) := []
  writers : Tab Nat := []
  held : List RandHeld := []
  /-- failed startup tests in a row (R483); requests since the last reseed, and its tick (R480) -/
  fails : Nat := 0
  requests : Nat := 0
  seededAt : Nat := 0
  /-- the challenge outstanding and its tick; failures since the device reset; tick of the last failure (R486) -/
  nonce : Option (List Byte × Nat) := none
  dbgFails : Nat := 0
  failAt : Option Nat := none
  /-- slots that a KEY_FAULT has made unusable until a device reset (Table 24.4) -/
  faulty : List Nat := []
  deriving DecidableEq, Repr

/-- What the boot record holds beyond UPD_STATUS and the bank registers (R490 to R493). -/
structure UpdState where
  attempts0 : Nat := 0
  attempts1 : Nat := 0
  /-- activation attempts of each slot; TRIAL_MAX and CONFIRM_S of the trial, and the RTC at its start -/
  trialMax : Nat := 0
  confirmS : Nat := 0
  trialRtc : Nat := 0
  /-- the deadline of R492 has passed without UPD_CONFIRM -/
  expired : Bool := false
  deriving DecidableEq, Repr

/-! ### Faults (chapter 24) -/

/-- An armed injection (R526). -/
structure Inj where
  kind : Nat
  id : Nat
  left : Nat
  deriving DecidableEq, Repr

/-- Fault machinery beyond its registers. -/
structure FltState where
  inj : Option Inj := none
  /-- ticks of recent errors by memory, and of recent replays by link (R519, payloads) -/
  errs : Tab (List Nat) := []
  replays : Tab (List Nat) := []
  /-- replays of one frame in a row, by link (R520) -/
  row : Tab Nat := []
  /-- links lost (R521): 1 CD-LD, 2 PD-LD sideband -/
  lost : List Nat := []
  /-- one scaler step is to be skipped (R526 kind 6) -/
  skip : Bool := false
  deriving DecidableEq, Repr

end Sys2Proof.Machine
end

