-- ==== Sys2Proof/Machine/State.lean ====
section
/-! DEFINITION.
The state of the block: its register file, its memories, the parts that each function has beyond its registers, what
the device has emitted, the free-value counter, and the queue of commands that wait. `State.reset` is the machine
right after the power-on reset (R48).
-/

namespace Sys2Proof.Machine

/-- Why a step can stop with a fault. No meaning of this model raises one: the spec gives every command an effect, and
an access that reaches nothing is answered as R569 to R572 say, not by stopping. -/
inductive Fault where
  /-- Raised by nothing; kept so that the type is inhabited by a name. Safe: no behaviour depends on it. -/
  | none
  deriving DecidableEq, Repr

/-- Why a step can be refused. -/
inductive Refusal where
  /-- The command has no meaning yet. Raised only by an arm of `exec` that names it. Safe: the machine stops. -/
  | notModelled (mnemonic : String)
  deriving DecidableEq, Repr

/-- The machine. -/
structure State where
  /-- commands waiting, first in, first out (the block's own queue, not the spec's) -/
  pending : List Instr
  /-- ticks of XS counted since the power-on reset: the elapsed time that windows and intervals are measured in -/
  now : Nat
  /-- how many free values have been drawn (the model's own field) -/
  freeCtr : Nat
  /-- register fields that differ from their reset value, by `Field.key` -/
  regs : Tab (BitVec 64)
  /-- `_HI` snapshots latched by a read of `_LO` (R569), by offset -/
  latches : Tab (BitVec 32)
  /-- bytes of system SRAM and the safety TCM that are not zero, by physical address -/
  mem : List Host.Cell
  spar : SparState
  dt : DtState
  pwr : PwrState
  par : ParState
  rng : RngState
  evt : EvtState
  tly : TlyState
  chain : ChainState
  act : ActState
  /-- output channels by `kind * 64 + index` -/
  chs : Tab Chn
  scl : SclState
  sns : SnsState
  sw : SwState
  sub : SubState
  brd : BrdState
  inf : InfState
  sto : StoState
  sec : SecState
  upd : UpdState
  flt : FltState
  /-- what the device has emitted or answered, oldest first (the model's own record) -/
  out : List Emission
  deriving DecidableEq, Repr

/-- The machine right after the power-on reset: every register at its reset value, memory empty, the power-on wake
sequence waiting to start with reason POR (R48, R100, R107), SPR_RST_CAUSE naming the power-on reset (Table 2.8), every
output off until attempt 1 applies the limp table (R59, R102), the POWER_ON record waiting for the tally (Table 23.2),
the scan of R505 not yet made, and no command waiting. The power-on wake is no event of a source, so WAK_SEEN reads 0 (log
entry 95). -/
def State.reset : State where
  pending := []
  now := 0
  freeCtr := 0
  regs := [(0x50 * 64, 1), (0x130018 * 64, 230), (0x140008 * 64, 3)]
  latches := []
  mem := []
  spar := {}
  dt := {}
  pwr := {}
  par := {}
  rng := {}
  evt := {}
  tly := { queue := [⟨1, 0, 0, 1 :: List.replicate 31 0⟩] }
  chain := {}
  act := {}
  chs := []
  scl := {}
  sns := {}
  sw := {}
  sub := {}
  brd := {}
  inf := {}
  sto := {}
  sec := {}
  upd := {}
  flt := {}
  out := []

end Sys2Proof.Machine
end

