-- ==== Sys2Proof/Machine/Ops.lean ====
section
/-! DEFINITION.
The named operations every meaning is built from: register fields, memory, the layout's owners and windows, tally
records, event delivery and completion records. Each says in its name what it does and in its docstring which rule it
follows.
-/

namespace Sys2Proof.Machine

/-- What a meaning answers. -/
abbrev Res := Host.Outcome State Fault Refusal

/-! ### Register fields -/

/-- The content of a field. -/
def State.rd (s : State) (f : Field) : Nat := (tabGet (BitVec.ofNat 64 f.reset) s.regs f.key).toNat

/-- Set a field, keeping its width. -/
def State.wr (s : State) (f : Field) (v : Nat) : State :=
  { s with regs := tabSet (BitVec.ofNat 64 f.reset) s.regs f.key (BitVec.ofNat 64 (v % 2 ^ f.width)) }

/-- A one-bit field as a truth value. -/
def State.flag (s : State) (f : Field) : Bool := s.rd f == 1

/-- Set or clear a one-bit field. -/
def State.put (s : State) (f : Field) (b : Bool) : State := s.wr f (if b then 1 else 0)

/-- Saturating count in a field. -/
def State.bump (s : State) (f : Field) (n : Nat) : State := s.wr f (satAdd f.width (s.rd f) n)

/-- Set bits of a field. -/
def State.orF (s : State) (f : Field) (m : Nat) : State := s.wr f (s.rd f ||| m)

/-- Store a signed value in a field. -/
def State.wrInt (s : State) (f : Field) (z : Int) : State := s.wr f (intBits f.width z)

/-- The signed content of a field. -/
def State.rdInt (s : State) (f : Field) : Int := signed f.width (s.rd f)

/-- One more seal violation (R8, R569). -/
def violate (s : State) : State := s.bump PAR_SEAL_STATUS_SEAL_VIOL 1

/-- The unit is sealed (R150). -/
def isSealed (s : State) : Bool := s.flag PAR_SEAL_STATUS_SEALED

/-- The RTC (R38) and device time (R40). -/
def rtc (s : State) : Nat := s.rd SPR_RTC_RTC
def dtNow (s : State) : Nat := s.rd SPR_DT_DT

/-- OPEN_CNT and CAP_FREE follow the open streams (R301, R304). -/
def showStreams (s : State) : State :=
  (s.wr SIN_STREAMS_OPEN_CNT s.sns.streams.length).wr SIN_SCHED_CAP_FREE (5990 - (s.sns.streams.map (·.demand)).sum)

/-! ### Phases of the control die -/

/-- The control die executes: its registers answer and its engines serve. A declared power fail halts it (R467). -/
def cdUp (s : State) : Bool := (s.pwr.cd == .boot || s.pwr.cd == .run) && !s.sto.failing

/-- Do something only while the control die executes: a command from it cannot arrive otherwise (R21, R574). -/
def whileCd (s : State) (t : State) : Res := .next (if cdUp s then t else s)

/-- Ticks of XS in a time given in milliseconds, and milliseconds in ticks (R38). -/
def msToTicks (ms : Nat) : Nat := (ms * 32768 + 999) / 1000
def ticksToMs (t : Nat) : Nat := t * 1000 / 32768

/-- The spar domain runs: in every state but OFF, and while a wake sequence runs (R22, R67, R86). -/
def sparRuns (s : State) : Bool := s.spar.powered && (s.pwr.ps != .off || s.pwr.seq.isSome)

/-! ### Memory (Tables 1.1 and 28.1, R579) -/

/-- System SRAM, SB0 to SB47. -/
def inSram (a : Nat) : Bool := 0x10000000 ≤ a && a < 0x10C00000

/-- The safety TCM. -/
def inTcm (a : Nat) : Bool := 0x20000000 ≤ a && a < 0x20080000

/-- One byte of memory; a byte that nothing has written reads zero (R48, R577). -/
def readByte (s : State) (a : Nat) : Byte := tabGet 0 s.mem a

/-- `n` bytes from an address. -/
def readBytes (s : State) (a : Nat) : Nat → List Byte
  | 0 => []
  | n + 1 => readByte s a :: readBytes s (a + 1) n

/-- The bytes of an image as R579 reads it: outside system SRAM every byte reads as zero. -/
def readImage (s : State) (a : Nat) : Nat → List Byte
  | 0 => []
  | n + 1 => (if inSram a then readByte s a else 0) :: readImage s (a + 1) n

/-- Write bytes into a memory list; only system SRAM and the safety TCM hold any. -/
def memWrite (m : List Host.Cell) (a : Nat) : List Byte → List Host.Cell
  | [] => m
  | b :: bs => memWrite (if inSram a || inTcm a then tabSet 0 m a b else m) (a + 1) bs

/-- Write bytes to memory. -/
def writeBytes (s : State) (a : Nat) (bs : List Byte) : State := { s with mem := memWrite s.mem a bs }

/-! ### The layout in force (R141 to R149, R580) -/

/-- P0's default entry until a layout is applied (R580). -/
def defaultEntry : PartEntry where
  part := 0
  home := 0
  addr := 0
  msiAddr := 0
  msiData := 0
  evRate := 1024
  evCoalesce := 0
  iBudget := 0
  hBudget := 0
  eBudget := 0
  escT := 1
  orphanT := 0
  qos := List.replicate 7 ⟨1, 0, 65535⟩
  windows := [⟨0x10000000, 0x10000000, 23, 3⟩, ⟨0x10800000, 0x10800000, 22, 3⟩]

/-- The entry of a partition, when it takes part. -/
def entryOf (s : State) (p : Nat) : Option PartEntry :=
  if s.par.applied then s.par.entries.find? (fun e => e.part == p)
  else if p = 0 then some defaultEntry else none

/-- The home of a partition: 0 LOCAL, 1 SAFETY, 2 REMOTE; 3 when it takes no part. -/
def homeOf (s : State) (p : Nat) : Nat := match entryOf s p with | some e => e.home | none => 3

/-- The safety partition (R141). -/
def safetyPart (s : State) : Option Nat :=
  if s.par.applied then (s.par.entries.find? (fun e => e.home == 1)).map (·.part) else none

/-- The ownership record of a resource. -/
def ownRec (s : State) (kind index : Nat) : Option OwnRec :=
  s.par.owners.find? (fun r => r.kind == kind && r.index == index)

/-- The owner of a resource, defaults included (Table 6.2). -/
def ownerOf (s : State) (kind index : Nat) : Option Nat :=
  if kind = 10 ∧ (index = 14 ∨ index = 15) then some 0
  else match ownRec s kind index with
    | some r => some r.owner
    | none => if kind = 13 ∨ kind = 14 then some 0 else none

/-- The owner, and P0 when the resource is unowned (R514). -/
def ownerOr0 (s : State) (kind index : Nat) : Nat := (ownerOf s kind index).getD 0

/-- P0 and the safety partition. -/
def p0Safety (s : State) : List Nat := 0 :: (safetyPart s).toList

/-- The state of a partition: 0 UNUSED, 1 STOPPED, 2 RUNNING, 3 DETACHED, 4 RESETTING (Table 6.1). -/
def partState (s : State) (p : Nat) : Nat := s.rd (PAR_STATE_STATE p)

/-- The device translates a partition-relative range through one window with the permission, bit 0 R or bit 1 W
(R149). -/
def translateIn (ws : List Window) (a len perm : Nat) : Option Nat :=
  match ws.find? (fun w => w.size != 0 && w.pbase ≤ a && a + len ≤ w.pbase + 2 ^ w.size && bit w.perm perm) with
  | some w => some (w.target + (a - w.pbase))
  | none => none

/-- Translation in the windows in force of a partition. -/
def translate (s : State) (p a len perm : Nat) : Option Nat :=
  match entryOf s p with
  | some e => translateIn e.windows a len perm
  | none => none

/-! ### Emissions -/

/-- Record what the device emits. -/
def emit (s : State) (e : Emission) : State := { s with out := s.out ++ [e] }

/-- The unit's chain address as a Zilek SRC (R114). -/
def ownAddr (s : State) : Nat := s.rd CHN_ADDR_ADDR

/-- A Zilek frame from its header on (Table 5.1). -/
def zilekBytes (typ flags dst src part seq : Nat) (body : List Byte) : List Byte :=
  [byte (16 + typ), byte flags, byte dst, byte src, byte part, 0] ++ beBytes 2 seq ++ beBytes 2 body.length ++ [0, 0]
    ++ body

/-- The MAC address of a Zilek endpoint, from its chain address; 63 names the group of all units (R114). -/
def zilekMac (addr : Nat) : List Byte := [if addr = 63 then 3 else 2, 0x4F, 0x5A, 0, 0, byte addr]

/-- The Ethernet header of the Zilek frames that the unit sends: to an endpoint, from its own, with an 802.1Q tag of VID
ZVID and PCP 6, and ETYPE (R114). -/
def zilekEth (s : State) (dst : Nat) : List Byte :=
  zilekMac dst ++ zilekMac (ownAddr s) ++ [0x81, 0] ++ beBytes 2 (6 * 8192 + s.rd CHN_ZCFG_ZVID) ++ beBytes 2 (s.rd CHN_ZCFG_ETYPE)

/-! ### MACsec protection of what a chain port sends (R364 to R368) -/

/-- The port's cipher uses extended packet numbers. -/
def xpn (s : State) (p : Nat) : Bool := 2 ≤ s.rd (SW_MSEC_CFG_CIPHER p)

/-- The nonce of IEEE 802.1AE: SCI and PN, or under XPN the salt combined with SSCI and PN. -/
def msecNonce (s : State) (p : Nat) (a : Sa) (sci pn : Nat) : List Byte :=
  if xpn s p then (padTo 12 a.salt).zipWith (· ^^^ ·) (beBytes 4 a.ssci ++ beBytes 8 pn) else beBytes 8 sci ++ beBytes 4 pn

/-- A frame protected by the secure association in use on a port, or none when there is no usable one; with its state, the
association's packet number moved on, and whether that number has now passed the warning (R367, R368). -/
def msecSeal (s : State) (p : Nat) (f : List Byte) : Option (List Byte) × State × Bool :=
  let an := s.rd (SW_MSEC_STAT_TX_AN p)
  let k := p * 4 + an
  match if s.flag (SW_MSEC_STAT_TX_ACTIVE p) then tabFind s.sw.txSa k else none with
  | none => (none, s, false)
  | some a =>
    if (if xpn s p then 2 ^ 64 else 2 ^ 32) ≤ a.pn then (none, s, false)
    else
      let incl := s.flag (SW_MSEC_CFG_INCLUDE_SCI p)
      let conf := s.flag (SW_MSEC_CFG_CONF p)
      let data := f.drop 12
      let hd := f.take 12 ++ [0x88, 0xE5, byte ((if incl then 32 else 0) + (if conf then 12 else 0) + an),
          byte (if data.length < 48 then data.length else 0)] ++ beBytes 4 a.pn
          ++ (if incl then beBytes 8 (s.rd (SW_MSEC_SCI_SCI p)) else [])
      let nonce := msecNonce s p a (s.rd (SW_MSEC_SCI_SCI p)) a.pn
      let out := if conf then hd ++ Config.gcmSeal a.key nonce hd data
        else hd ++ data ++ Config.gcmSeal a.key nonce (hd ++ data) []
      let warn := !a.warned && (if xpn s p then 2 ^ 62 else 0xC0000000) ≤ a.pn + 1
      let s1 := { s with sw := { s.sw with txSa := tabPut s.sw.txSa k { a with pn := a.pn + 1, warned := a.warned || warn } } }
      (some out, if warn then s1.put (SW_MSEC_STAT_PN_WARN p) true else s1, warn)

/-! ### Switch counters (Tables 15.7 and 16.8) -/

/-- The key of a switch counter (Tables 15.7 and 16.8). -/
def cntKey (ctr port cls : Nat) : Nat := ctr * 64 + port * 8 + cls

/-- The counter that SW_CNT_SEL selects: by port and class, by partition, or one for the device. -/
def cntSel (s : State) : Nat :=
  let c := s.rd SW_CNT_SEL_CTR
  let p := s.rd SW_CNT_SEL_PORT
  let k := s.rd SW_CNT_SEL_CLASS
  if c = 8 ∨ c = 9 then cntKey c p k else if c = 10 then cntKey c 0 k
  else if 11 ≤ c ∧ c ≤ 15 then cntKey c 0 0 else cntKey c p 0

/-- SW_CNT_VAL shows the selected counter. -/
def showCnt (s : State) : State := s.wr SW_CNT_VAL_VALUE (tabGet 0 s.sw.counters (cntSel s))

/-- Count; a counter wraps at 2^64. -/
def swCount (s : State) (ctr port cls n : Nat) : State :=
  showCnt { s with sw := { s.sw with counters := tabMod 0 s.sw.counters (cntKey ctr port cls) (fun v => (v + n) % 2 ^ 64) } }

/-! ### Sending Zilek frames (R113 to R117, R124) -/

/-- The switch reaches no chain port: the bypass is engaged, or the chain is cut at this unit (R113, R124). -/
def offChain (s : State) : Bool := s.flag CHN_BYPASS_ACTIVE || s.chain.cut

/-- Send a Zilek frame on a chain port: CRUISE (type 0) and MAINT (type 7) unprotected, every other type protected where
MACsec is configured, and lost and counted where no secure association is usable. While the switch reaches no chain port,
only MAINT answers go out (R113, R117, R125). -/
def sendZilek (s : State) (port typ flags dst part seq : Nat) (body : List Byte) : State :=
  let f := zilekEth s dst ++ zilekBytes typ flags dst (ownAddr s) part seq body
  if offChain s && typ != 7 then s
  else if typ = 0 ∨ typ = 7 ∨ !s.flag (SW_MSEC_CFG_MSEC_EN port) then emit s (.zilek port f)
  else match msecSeal s port f with
    | (some g, t, warn) =>
      emit (if warn then { t with sw := { t.sw with pnWarn := t.sw.pnWarn ++ [(port, t.rd (SW_MSEC_STAT_TX_AN port))] } } else t)
        (.zilek port g)
    | (none, t, _) => swCount t 25 port 0 1

/-- The upstream port of the last cruise (R121). -/
def upstream (s : State) : Nat := s.rd CHN_CRUISE_UPSTREAM

/-! ### Free values -/

/-- Draw the next free value: what the spec leaves open, which nothing constrains. -/
def freeDraw (s : State) : BitVec 64 := Config.freeValue s.freeCtr

/-- The state after a free value has been drawn. -/
def freeNext (s : State) : State := { s with freeCtr := s.freeCtr + 1 }

/-! ### The tally queue (R498, R501, R503, R504) -/

/-- The fault records of Table 23.2. -/
def tallyFault (typ : Nat) : Bool :=
  [2, 3, 4, 5, 6, 9, 10, 12, 13, 14, 15, 16, 17, 18, 19, 21, 22, 24, 32, 33, 34].contains typ

/-- RFLAGS bits 0 to 3 as at the cause (Table 23.1). -/
def tallyFlags (s : State) : Nat :=
  (if s.flag SPR_STATUS_RTC_DEGRADED then 1 else 0) + (if s.flag SPR_STATUS_LIMP_ACTIVE then 2 else 0)
    + (if s.pwr.cd == .lost then 4 else 0) + (if s.sto.failing then 8 else 0)

/-- Remove the newest element of a list that passes a test. -/
def dropNewest {α : Type} (p : α → Bool) (l : List α) : List α :=
  let r := l.reverse
  ((r.takeWhile (fun x => !p x)) ++ (r.dropWhile (fun x => !p x)).drop 1).reverse

/-- A cause asks for a tally record: it joins the queue of 32, dropping by R504 when the queue is full. -/
def tally (s : State) (typ : Nat) (payload : List Byte) : State :=
  let w : TWait := ⟨typ, tallyFlags s, rtc s, padTo 32 payload⟩
  let t := s.tly
  if t.queue.length < 32 then { s with tly := { t with queue := t.queue ++ [w] } }
  else
    let q := t.queue ++ [w]
    let q' := if q.any (fun x => !tallyFault x.typ) then dropNewest (fun x => !tallyFault x.typ) q
              else dropNewest (fun _ => true) q
    ({ s with tly := { t with queue := q', dropped := satAdd 16 t.dropped 1,
                              dropAfter := if t.dropped = 0 then (s.rd TLY_NEXT_NEXT_RSEQ + 2 ^ 32 - 1) % 2 ^ 32
                                           else t.dropAfter } }).bump TLY_CNT0_DROPPED 1

/-! ### Rings -/

/-- The key of a ring: submission rings 0 to 3 and completion ring 4 of an engine; the event ring. -/
def ringKey (p eng ring : Nat) : Nat := p * 64 + eng * 8 + ring
def eventKey (p : Nat) : Nat := p * 64 + 56

/-- A time in microseconds has passed since a tick. -/
def lasted (s : State) (since us : Nat) : Bool := decide (32768 * us ≤ 1000000 * (s.now - since))

/-- A voltage lies above a threshold that holds to within a tolerance, both in mV: between the two limits the spec decides
nothing (log entry 1). -/
def above (s : State) (mv thr tol : Nat) : Bool × State :=
  if thr + tol ≤ mv then (true, s) else if mv + tol < thr then (false, s) else (bit (freeDraw s).toNat 0, freeNext s)

/-- A ring by its key. -/
def ringAt (s : State) (k : Nat) : Ring := tabGet {} s.rng.rings k

/-- Set a ring. -/
def setRing (s : State) (k : Nat) (r : Ring) : State :=
  { s with rng := { s.rng with rings := tabSet {} s.rng.rings k r } }

/-- Room in a completion or event ring: fewer than its size unconsumed. -/
def ringRoom (r : Ring) : Bool := (r.prod + 2 ^ 32 - r.cons) % 2 ^ 32 < 2 ^ r.size

/-- The PHASE of the record at an index: 1 on the first pass, alternating (R168, R178). -/
def phaseOf (r : Ring) : Nat := if (r.prod / 2 ^ r.size) % 2 = 0 then 1 else 0

/-- The physical address of a record's slot. -/
def slotAddr (r : Ring) (len : Nat) : Nat := r.phys + (r.prod % 2 ^ r.size) * len

/-- The shadow block of a partition. -/
def shadowOf (s : State) (p : Nat) : Shadow := tabGet {} s.rng.shadows p

/-! ### The ring proxy's posts (R133, R188) -/

/-- The proxy of a partition. -/
def proxyOf (s : State) (p : Nat) : Proxy := tabGet {} s.chain.proxies p

/-- Set a proxy. -/
def setProxy (s : State) (p : Nat) (x : Proxy) : State :=
  { s with chain := { s.chain with proxies := tabSet {} s.chain.proxies p x } }

/-- A REMOTE partition is attached. -/
def attached (s : State) (p : Nat) : Bool := bit (s.rd CHN_ATTACH_ATTACHED) p

/-- Post a WRITE (type 4) or EVENT (type 5) in the partition's one SEQ stream: it is sent and kept until
acknowledged; while 64 frames are unacknowledged it waits (R133). -/
def proxyPost (s : State) (p typ : Nat) (body : List Byte) : State :=
  let x := proxyOf s p
  if x.unacked.length < 64 && x.waiting.isEmpty then
    let f : ProxyFrame := ⟨typ, x.seq, body⟩
    let at0 := if x.unacked.isEmpty then s.now else x.sentAt
    sendZilek (setProxy s p { x with seq := (x.seq + 1) % 65536, unacked := x.unacked ++ [f], sentAt := at0 })
      (upstream s) typ 0 (match entryOf s p with | some e => e.addr | none => 0) p x.seq body
  else setProxy s p { x with waiting := x.waiting ++ [⟨typ, 0, body⟩] }

/-- The body of a WRITE (Table 5.3): KIND 0 completion records, 1 producer indices, 2 data. -/
def writeBody (kind addr : Nat) (data : List Byte) : List Byte :=
  beBytes 2 data.length ++ [byte kind, 0, 0, 0, 0, 0] ++ beBytes 8 addr ++ data

/-- Store bytes at a translated address of a partition: in memory for LOCAL and SAFETY homes, by WRITE for a REMOTE
one (R187, R188). -/
def storeFor (s : State) (p kind addr : Nat) (data : List Byte) : State :=
  if homeOf s p = 2 then proxyPost s p 4 (writeBody kind addr data) else writeBytes s addr data

/-- The ranges of at most 1,024 bytes that a data transfer is cut into (R188): offset and length. -/
def chunks : Nat → Nat → Nat → List (Nat × Nat)
  | 0, _, _ => []
  | k + 1, o, n => if n = 0 then [] else (o, min 1024 n) :: chunks k (o + 1024) (n - 1024)

/-- The length that a READ_REQ asks for: a multiple of 64 (Table 5.3). -/
def readLen (n : Nat) : Nat := (n + 63) / 64 * 64

/-- The engine number under which a read of a descriptor's data is listed among a proxy's READ_REQs. -/
abbrev DATA : Nat := 7

/-- The READ_REQ of one range of a home's memory (Table 5.3), outstanding until its answer comes (R133, R188). -/
def requestData (p addr : Nat) (s : State) (c : Nat × Nat) : State :=
  let x := proxyOf s p
  let r : ProxyRead := ⟨s.chain.nextReq, addr + c.1, readLen c.2, 1, DATA, 0, 0, s.now⟩
  let s1 := setProxy s p { x with reads := x.reads ++ [r] }
  sendZilek { s1 with chain := { s1.chain with nextReq := (s1.chain.nextReq + 1) % 65536 } } (upstream s) 2 0
    (match entryOf s p with | some e => e.addr | none => 0) p 0
    (beBytes 2 r.id ++ beBytes 2 r.len ++ beBytes 8 r.addr ++ [0, 0, 0, 0])

/-- An access to a bank of system SRAM that the resume path has yet to zero waits until its zeroing has ended, and with it
that of every lower bank (R577). -/
def bankWait (s : State) (a : Nat) : State :=
  if s.pwr.unzeroed.isEmpty || !inSram a then s
  else { s with pwr := { s.pwr with unzeroed := s.pwr.unzeroed.filter (fun n => (a - 0x10000000) / 262144 < n) } }

/-- The data a descriptor names at a translated address: from memory, or for a REMOTE partition by READ_REQ, whose
answer is not the device's to decide; none when that answer is FAULT (R188). -/
def fetchData (s : State) (p addr len : Nat) : State × Option (List Byte) :=
  if homeOf s p ≠ 2 ∨ len = 0 then (bankWait s (addr + (len - 1)), some (readBytes s addr len))
  else
    let s1 := (chunks (len / 1024 + 1) 0 len).foldl (requestData p addr) (freeNext s)
    (s1, if Config.headFault s.freeCtr then none
         else some ((List.range len).map (fun i => Config.headByte s.freeCtr (addr + i))))

/-- The data a descriptor produces: to memory, or for a REMOTE partition by WRITE frames, KIND 2 (R188). -/
def storeData (s : State) (p addr : Nat) (data : List Byte) : State :=
  if homeOf s p = 2 then
    (chunks (data.length / 1024 + 1) 0 data.length).foldl
      (fun t c => storeFor t p 2 (addr + c.1) ((data.drop c.1).take c.2)) s
  else writeBytes (bankWait s (addr + (data.length - 1))) addr data

/-- The engine part of a shadow block (Table 7.7). -/
def shadowEngine (s : State) (p e : Nat) : List Byte :=
  leBytes 2 (ringAt s (ringKey p e 0)).cons ++ leBytes 2 (ringAt s (ringKey p e 1)).cons
    ++ leBytes 2 (ringAt s (ringKey p e 2)).cons ++ leBytes 2 (ringAt s (ringKey p e 3)).cons
    ++ leBytes 2 (ringAt s (ringKey p e 4)).prod ++ [0, 0, 0, 0, 0, 0]

/-- The 128 bytes of a partition's shadow block as its indices stand (Table 7.7). -/
def shadowImage (s : State) (p : Nat) : List Byte :=
  (List.range 7).flatMap (shadowEngine s p) ++ leBytes 2 (ringAt s (eventKey p)).prod ++ List.replicate 14 0

/-- A REMOTE home gets the shadow block by WRITE, KIND 1 (R188). -/
def sendShadow (s : State) (p : Nat) : State :=
  let t := setProxy s p { proxyOf s p with stale := false }
  proxyPost t p 4 (writeBody 1 (shadowOf t p).phys (shadowImage t p))

/-- After an index has moved: its 16-bit entry `i` of the 64 of the shadow block is updated (R180, Table 7.7). A REMOTE home
gets the block after the WRITE whose completion records it covers, and any other move with the next HEARTBEAT (R188). -/
def shadowPut (s : State) (p i v : Nat) : State :=
  let b := shadowOf s p
  if b.armed then
    if homeOf s p = 2 then (if i < 56 ∧ i % 8 = 4 then sendShadow s p else setProxy s p { proxyOf s p with stale := true })
    else writeBytes s (b.phys + 2 * (i % 64)) (leBytes 2 v)
  else s

/-! ### Signals (R158, R89) -/

/-- Signal a partition's home: LOCAL by its message write, SAFETY by its interrupt line; a REMOTE home's signal is the
frame itself. In SLEEP the signal is owed until the wake it causes (R89). -/
def signal (s : State) (p : Nat) : State :=
  match entryOf s p with
  | none => s
  | some e =>
    if e.home = 2 then s
    else if s.pwr.ps == .sleep then
      { s with pwr := { s.pwr with owed := if s.pwr.owed.contains p then s.pwr.owed else s.pwr.owed ++ [p] } }
    else if e.home = 1 then emit s .safetyIrq
    else if e.msiAddr = 0 then s else emit (writeBytes s e.msiAddr (leBytes 4 e.msiData)) (.msi e.msiAddr e.msiData)

/-! ### Events (R158 to R161, R514) -/

/-- The event side of a partition. -/
def partEv (s : State) (p : Nat) : PartEv := tabGet {} s.evt.parts p

/-- Set it. -/
def setPartEv (s : State) (p : Nat) (e : PartEv) : State :=
  { s with evt := { s.evt with parts := tabSet {} s.evt.parts p e } }

/-- A signal of the home covers every record written before it (R159). -/
def signalEvents (s : State) (p : Nat) : State := signal (setPartEv s p { partEv s p with unsignalled := 0 }) p

/-- The 32 bytes of an event record (Table 7.5). -/
def eventBytes (r : EvRec) (phase : Nat) : List Byte :=
  [byte r.src, byte (if r.clsS then 1 else 0)] ++ leBytes 2 r.repeated ++ leBytes 4 r.eseq ++ leBytes 8 r.time
    ++ padTo 12 r.payload ++ [0, 0, 0, byte (phase * 128)]

/-- A record can be written now: the owner is RUNNING and its event ring has room (R161). -/
def canDeliver (s : State) (p : Nat) : Bool :=
  partState s p == 2 && (ringAt s (eventKey p)).armed && ringRoom (ringAt s (eventKey p))

/-- Write an event record to the partition's event ring, or send it as an EVENT frame (R158, R188), and move the
producer index. -/
def writeEvent (s : State) (p : Nat) (r : EvRec) : State :=
  let g := ringAt s (eventKey p)
  let bs := eventBytes r (phaseOf g)
  let s1 := if homeOf s p = 2 then proxyPost s p 5 bs else writeBytes s (slotAddr g 32) bs
  shadowPut (setRing s1 (eventKey p) { g with prod := (g.prod + 1) % 2 ^ 32 }) p 56 (g.prod + 1)

/-- Tokens a class N bucket still holds (R159). -/
def tokens (s : State) (p : Nat) : Nat :=
  (match entryOf s p with | some e => e.evRate | none => 0) - (partEv s p).used

/-- Loss seen by the scaler from a source that OVL_SRC selects (R324): 0 switch, 1 SNS, 2 INF, 3 events. -/
def countLoss (s : State) (src n : Nat) (parts : List Nat) : State :=
  if bit (s.rd SCL_OVL_OVL_SRC) src then
    { s with scl := { s.scl with loss := tabMod 0 s.scl.loss src (· + n),
                                 lossParts := s.scl.lossParts ++ parts.filter (fun p => !s.scl.lossParts.contains p) } }
  else s

/-- Suppress a class N event: the newest event of its source replaces the one held, which counts (R159). -/
def suppress (l : List EvRec) (r : EvRec) : List EvRec :=
  match l with
  | [] => [{ r with repeated := 1 }]
  | x :: t => if x.src = r.src then { r with repeated := satAdd 16 x.repeated 1 } :: t else x :: suppress t r

/-- Queue a class S record that cannot be delivered; a full queue of 16 drops its oldest (R161). The second part is
the dropped record. -/
def queueS (s : State) (p : Nat) (r : EvRec) : State × Option EvRec :=
  let e := partEv s p
  if e.queue.length < 16 then (setPartEv s p { e with queue := e.queue ++ [r] }, none)
  else (setPartEv s p { e with queue := e.queue.drop 1 ++ [r] }, e.queue.head?)

/-- Raise an event to one partition while the control die runs; the second part is a class S record dropped from a
full queue. -/
def raiseOne (s : State) (p src : Nat) (clsS : Bool) (time : Nat) (payload : List Byte) : State × Option EvRec :=
  if partState s p = 0 then (s, none) else
  let e := partEv s p
  let r : EvRec := ⟨src, clsS, 0, e.eseq, time, padTo 12 payload⟩
  let s1 := setPartEv s p { e with eseq := (e.eseq + 1) % 2 ^ 32 }
  if clsS then
    if canDeliver s p && e.queue.isEmpty then (signalEvents (writeEvent s1 p r) p, none) else queueS s1 p r
  else if !canDeliver s p then (countLoss (s1.bump (PAR_EVT_CNT_EV_LOST p) 1) 3 1 [p], none)
  else if tokens s p = 0 then
    ((setPartEv s1 p { partEv s1 p with suppressed := suppress e.suppressed r }).bump (PAR_EVT_CNT_EV_SUPPRESSED p) 1,
      none)
  else
    let n := e.unsignalled + 1
    let s2 := setPartEv (writeEvent s1 p r) p { partEv s1 p with used := e.used + 1, unsignalled := n }
    let co := match entryOf s p with | some x => x.evCoalesce | none => 0
    (if co = 0 ∨ n ≥ 16 then signalEvents s2 p else s2, none)

/-- Hold an event on the power die while the control die does not run (R524). -/
def holdEvent (s : State) (p src : Nat) (clsS : Bool) (payload : List Byte) : State :=
  let h : HeldEv := ⟨p, src, clsS, rtc s, padTo 12 payload⟩
  let l := s.evt.held
  let lose (q : Nat) (ev : EvtState) : EvtState := { ev with heldLost := tabMod 0 ev.heldLost q (· + 1) }
  if l.length < 64 then { s with evt := { s.evt with held := l ++ [h] } }
  else if !clsS then { s with evt := lose p s.evt }
  else if l.any (fun x => !x.clsS) then
    let victim := (l.reverse.find? (fun x => !x.clsS)).map (·.part)
    { s with evt := lose (victim.getD p) { s.evt with held := dropNewest (fun x => !x.clsS) l ++ [h] } }
  else
    match l with
    | [] => s
    | x :: t => tally { s with evt := lose x.part { s.evt with held := t ++ [h] } } 15 [byte x.part, byte x.src]

/-- A class S record dropped from partition q's queue: the tally records it, and unless it came from an S_QUEUE_FULL
itself, S_QUEUE_FULL goes to P0 and the safety partition (R161). -/
def sQueueFull (s : State) (q : Nat) (dropped : Option EvRec) : State :=
  match dropped with
  | none => s
  | some d =>
    let pl := [byte q, byte d.src]
    let s1 := tally s 15 pl
    (p0Safety s).foldl (fun t p =>
      let (t1, d1) := raiseOne t p 92 true (dtNow t) pl
      match d1 with
      | none => t1
      | some x => tally t1 15 [byte p, byte x.src]) s1

/-- Events can be delivered: the control die runs, and its ring engines are not off in SLEEP (log entry 12). -/
def evtOpen (s : State) : Bool := cdUp s && (s.pwr.ps != .sleep || s.flag PWR_CTL_HOLD_FABRIC)

/-- Raise an event to one recipient, held while it cannot be delivered. -/
def raiseTo (s : State) (p src : Nat) (clsS : Bool) (payload : List Byte) : State :=
  if evtOpen s then
    let (t, d) := raiseOne s p src clsS (dtNow s) payload
    sQueueFull t p d
  else holdEvent s p src clsS payload

/-- A list without repeats, first occurrences kept. -/
def dedupe : List Nat → List Nat
  | [] => []
  | x :: xs => x :: (dedupe xs).filter (· != x)

/-- Raise an event: each recipient once, the kind-13 owner of the source included when a record names one (R514). -/
def raise (s : State) (src : Nat) (clsS : Bool) (rcpt : List Nat) (payload : List Byte) : State :=
  (dedupe (rcpt ++ (ownRec s 13 src).toList.map (·.owner))).foldl (fun t p => raiseTo t p src clsS payload) s

/-! ### Completion records (R178, R181, R184, R185) -/

/-- The status codes of Table 7.6 that the model names. -/
abbrev OK : Nat := 0
abbrev TIME_PASSED : Nat := 1
abbrev FAR_FUTURE : Nat := 2
abbrev CANCELLED : Nat := 3
abbrev NOT_OWNER : Nat := 4
abbrev WINDOW_FAULT : Nat := 5
abbrev BAD_OPCODE : Nat := 6
abbrev BAD_FIELD : Nat := 7
abbrev RESERVED_NONZERO : Nat := 8
abbrev SAFETY_HELD : Nat := 9
abbrev LIMP_HELD : Nat := 10
abbrev THERMAL_HOLD : Nat := 11
abbrev CLAIM_CONFLICT : Nat := 12
abbrev MEDIA_LOST : Nat := 16
abbrev MEDIA_ERROR : Nat := 17
abbrev NS_FULL : Nat := 18
abbrev READ_ONLY : Nat := 19
abbrev BUS_OFF : Nat := 24
abbrev NO_RESPONSE : Nat := 25
abbrev TX_TIMEOUT : Nat := 26
abbrev MODEL_INVALID : Nat := 32
abbrev CONTEXT_BUSY : Nat := 33
abbrev ENTROPY_PENDING : Nat := 40
abbrev ENTROPY_TIMEOUT : Nat := 41
abbrev KEY_DENIED : Nat := 42
abbrev VERIFY_FAIL : Nat := 43

/-- The engines of Table 7.2. -/
abbrev ACT : Nat := 0
abbrev SNS : Nat := 1
abbrev NET : Nat := 2
abbrev BUS : Nat := 3
abbrev STO : Nat := 4
abbrev INF : Nat := 5
abbrev SEC : Nat := 6

/-- Is this accepted work the descriptor of that header? -/
def sameWork (eng : Nat) (h : DHdr) (w : Work) : Bool :=
  w.eng == eng && w.hdr.part == h.part && w.hdr.ring == h.ring && w.hdr.sqHead == h.sqHead && w.hdr.tag == h.tag

/-- Forget accepted work that has completed. -/
def dropWork (s : State) (eng : Nat) (h : DHdr) : State :=
  { s with rng := { s.rng with work := s.rng.work.filter (fun w => !sameWork eng h w) } }

/-- The 32 bytes of a completion record (Table 7.4). -/
def complBytes (h : DHdr) (opcode status epoch time phase : Nat) (result : List Byte) : List Byte :=
  leBytes 2 h.tag.toNat ++ [byte status, byte opcode] ++ leBytes 2 h.sqHead.toNat
    ++ [byte (h.ring.val + (if h.rebased then 4 else 0)), byte epoch] ++ leBytes 8 time ++ leBytes 4 h.late.toNat
    ++ padTo 8 result ++ [0, 0, 0, byte (phase * 128)]

/-- Write a completion record and move the completion ring's producer index (R178, R180). -/
def postCompl (s : State) (eng : Nat) (h : DHdr) (opcode status : Nat) (result : List Byte) : State :=
  let k := ringKey h.part.val eng 4
  let g := ringAt s k
  if g.armed then
    let bs := complBytes h opcode status (s.rd SPR_DT_STATUS_EPOCH) (dtNow s) (phaseOf g) result
    let s1 := storeFor s h.part.val 0 (slotAddr g 32) bs
    shadowPut (setRing s1 k { g with prod := (g.prod + 1) % 2 ^ 32 }) h.part.val (8 * eng + 4) (g.prod + 1)
  else s

/-- Write what a descriptor ends with: its work ends, its record is written unless NO_COMPL with OK, and the home is
signalled when SIGNAL asks for it (R173, R178, R184). -/
def finish (s : State) (eng : Nat) (h : DHdr) (opcode status : Nat) (result : List Byte) : State :=
  let s1 := dropWork s eng h
  if h.noCompl && status == OK then s1
  else
    let s2 := postCompl s1 eng h opcode status result
    if h.signal then signal s2 h.part.val else s2

/-- The untimed descriptors of a ring that have not completed, oldest first (R182). -/
def inRing (eng : Nat) (h : DHdr) (w : Work) : Bool :=
  w.eng == eng && w.hdr.part == h.part && w.hdr.ring == h.ring && !w.timed

/-- Records that waited for an earlier descriptor of their ring follow in ring order (R182). -/
def release (eng : Nat) (h : DHdr) : Nat → State → State
  | 0, s => s
  | n + 1, s =>
    match s.rng.work.find? (inRing eng h) with
    | some w => match w.fin with
      | some r => release eng h n (finish s eng w.hdr w.opcode r.1 r.2)
      | none => s
    | none => s

/-- An earlier untimed descriptor of the same ring has started and not completed. -/
def behind (s : State) (eng : Nat) (h : DHdr) : Bool :=
  match s.rng.work.find? (fun w => inRing eng h w && w.started) with
  | some w => !sameWork eng h w && s.rng.work.any (fun x => inRing eng h x && sameWork eng h x)
  | none => false

/-- Complete a descriptor (R178, R182): on ACT, SNS, NET, BUS and SEC an untimed one that ends before an earlier one of
its ring keeps its status and result until that one has completed. -/
def complete (s : State) (eng : Nat) (h : DHdr) (opcode status : Nat) (result : List Byte) : State :=
  if eng = STO ∨ eng = INF then finish s eng h opcode status result
  else if behind s eng h then
    { s with rng := { s.rng with work := s.rng.work.map (fun w =>
        if sameWork eng h w then { w with fin := some (status, result) } else w) } }
  else release eng h s.rng.work.length (finish s eng h opcode status result)

/-- A descriptor starts: its accepted work is marked. -/
def startWork (s : State) (eng : Nat) (h : DHdr) : State :=
  { s with rng := { s.rng with work := s.rng.work.map (fun w =>
      if sameWork eng h w then { w with started := true } else w) } }

/-- The share record of a partition on an engine (Table 6.4, QOS). -/
def qosOf (s : State) (p eng : Nat) : Qos :=
  match entryOf s p with
  | some e => e.qos.getD eng ⟨0, 0, 0⟩
  | none => ⟨0, 0, 0⟩

/-- What a token bucket lacks of BURST now, in 1/32,768 units: it refills at RATE units per ms (R162). -/
def bucketLack (s : State) (p eng : Nat) : Nat :=
  match tabFind s.rng.spent (p * 8 + eng) with
  | none => 0
  | some (d, t) => d - (qosOf s p eng).rate * 1000 * (s.now - t)

/-- The engine is on: in SLEEP only ACT, NET and BUS are, and only with HOLD_FABRIC at 1 (R89). -/
def engineOn (s : State) (eng : Nat) : Bool :=
  s.pwr.ps != .sleep || (s.flag PWR_CTL_HOLD_FABRIC && [ACT, NET, BUS].contains eng)

/-- A partition may be served: the engine is on, and its RATE is 0 or its token count is above zero (R89, R162). -/
def eligible (s : State) (p eng : Nat) : Bool :=
  engineOn s eng
    && ((qosOf s p eng).rate == 0 || bucketLack s p eng < (qosOf s p eng).burst * 32768)

/-- Deduct a cost from a bucket. -/
def spend (s : State) (p eng n : Nat) : State :=
  if (qosOf s p eng).rate = 0 ∨ n = 0 then s
  else { s with rng := { s.rng with spent := tabPut s.rng.spent (p * 8 + eng) (bucketLack s p eng + n * 32768, s.now) } }

/-- The deficit of a partition on an engine, and a change of it. -/
def deficitOf (s : State) (p eng : Nat) : Int := tabGet 0 s.rng.deficit (p * 8 + eng)
def setDeficit (s : State) (p eng : Nat) (d : Int) : State :=
  { s with rng := { s.rng with deficit := tabSet 0 s.rng.deficit (p * 8 + eng) d } }

/-- Deduct a cost from a bucket and from the present turn (R162). -/
def charge (s : State) (p eng n : Nat) : State := setDeficit (spend s p eng n) p eng (deficitOf s p eng - n)

/-- What a descriptor costs at its start (Table 6.10); INF charges after the job. -/
def cost (eng opcode : Nat) (b : List Byte) : Nat :=
  match eng with
  | 0 => 1
  | 1 => 1
  | 2 => if opcode = 1 then (leAt b 24 2 + 63) / 64 else 0
  | 3 => if opcode = 1 ∨ opcode = 2 then 1 else 0
  | 4 => if 1 ≤ opcode ∧ opcode ≤ 4 then leAt b 20 4 else 0
  | 6 => (if [1, 2, 3, 7, 10].contains opcode then (leAt b 20 4 + 63) / 64 else 0)
      + (if [4, 5, 6, 7, 8, 9, 11, 12, 16, 17].contains opcode then 4 else if opcode = 0x20 then 8 else 0)
  | _ => 0

/-- Two accepted descriptors of one submission ring. -/
def sameRing (v w : Work) : Bool := v.eng == w.eng && v.hdr.part == w.hdr.part && v.hdr.ring == w.hdr.ring

/-- The accepted descriptors of its ring that come before one and have not completed. -/
def earlier (s : State) (w : Work) : List Work :=
  (s.rng.work.takeWhile (fun x => !sameWork w.eng w.hdr x)).filter (sameRing w)

/-- A FENCE waits for every earlier descriptor of its ring (R173). -/
def fencedOff (s : State) (w : Work) : Bool := w.fence && !(earlier s w).isEmpty

/-- A descriptor's lateness (R176): 0 of an untimed one. -/
def lateness (s : State) (w : Work) : Nat := if w.timed then dtNow s - w.notBefore else 0

/-- A timed descriptor may execute: it has fallen due, and is within its tolerance or LATE_ALWAYS (R176). -/
def inTime (s : State) (w : Work) : Bool :=
  !w.timed || (decide (w.notBefore ≤ dtNow s) && (w.lateAlways || decide (lateness s w ≤ 1000 * w.tolUs)))

/-- Its ring's order lets an accepted descriptor start (R173, R182): no FENCE holds it; of an untimed one, no earlier untimed
one has yet to start; of a timed one, it has fallen due, and none that may start has a lower NOT_BEFORE, or the same one and an
earlier slot. -/
def ringReady (s : State) (w : Work) : Bool :=
  !w.started && !fencedOff s w &&
    (if w.timed then
      decide (w.notBefore ≤ dtNow s)
        && !(s.rng.work.any (fun x => sameRing w x && x.timed && !x.started && !fencedOff s x && decide (x.notBefore < w.notBefore)))
        && !((earlier s w).any (fun x => x.timed && !x.started && !fencedOff s x && x.notBefore == w.notBefore))
     else !(earlier s w).any (fun x => !x.timed && !x.started))

/-- The first descriptor of a ring that its order lets start. -/
def readyIn (s : State) (p eng ring : Nat) : Option Work :=
  s.rng.work.find? (fun w => w.eng == eng && w.hdr.part.val == p && w.hdr.ring.val == ring && ringReady s w)

/-- The ring that a partition's turn on an engine goes to: the lowest PRIO, and rings of equal PRIO in turn (R183). -/
def ringTurn (s : State) (p eng : Nat) : Option Nat :=
  let l := (List.range 4).filter (fun k => (readyIn s p eng k).isSome)
  let prio (k : Nat) : Nat := (ringAt s (ringKey p eng k)).prio
  ((List.range 4).map (fun j => (tabGet 3 s.rng.turns (p * 8 + eng) + 1 + j) % 4)).find?
    (fun k => l.contains k && l.all (fun x => decide (prio k ≤ prio x)))

/-- What a partition would be served next on an engine. -/
def nextOf (s : State) (p eng : Nat) : Option Work := (ringTurn s p eng).bind (readyIn s p eng)

/-- The units that a partition's next descriptor takes. -/
def nextCost (s : State) (p eng : Nat) : Nat := match nextOf s p eng with | some w => cost eng w.opcode w.body | none => 0

/-- The eligible partitions with a descriptor ready. -/
def readyParts (s : State) (eng : Nat) : List Nat :=
  (List.range 8).filter (fun p => eligible s p eng && (nextOf s p eng).isSome)

/-- Those that deficit round robin serves: WEIGHT nonzero. -/
def weighted (s : State) (eng : Nat) (l : List Nat) : List Nat := l.filter (fun p => (qosOf s p eng).weight != 0)

/-- How far the round must go to serve a partition something of a cost: full visits, and its place after the partition
served last. -/
def visits (s : State) (p eng n : Nat) : Nat × Nat :=
  let w := max 1 (qosOf s p eng).weight
  let need := ((n : Int) - deficitOf s p eng).toNat
  let last := tabGet 7 s.rng.drrAt eng
  if p = last ∧ need = 0 then (0, 0) else (max 1 ((need + w - 1) / w), (p + 15 - last) % 8)

/-- Of the partitions `l` that are ready, each with the cost of what it would be served, one is whom the engine serves next
(R162): the safety partition before all others, then the first that the round reaches with enough deficit, and partitions of
WEIGHT 0 only when no other is ready. -/
def turnAmong (s : State) (eng : Nat) (l : List Nat) (n : Nat → Nat) (p : Nat) : Bool :=
  let g := weighted s eng l
  let far (q : Nat) : Nat := 8 * (visits s q eng (n q)).1 + (visits s q eng (n q)).2
  match (safetyPart s).filter l.contains with
  | some q => p == q
  | none => if g.isEmpty then l.contains p else g.contains p && g.all (fun q => decide (far p ≤ far q))

/-- The partition is the one whose descriptor the engine serves next. -/
def partTurn (s : State) (p eng : Nat) : Bool := turnAmong s eng (readyParts s eng) (fun q => nextCost s q eng) p

/-- An accepted descriptor may start: it is the one the command names, unstarted; its engine serves it next; and for ACT no
safety-lane message is on its way, which only SAFE_ACTION, NOP and CANCEL may overtake (R20, R162, R176, R182, R183, R185). -/
def canStart (s : State) (eng opcode : Nat) (h : DHdr) (b : List Byte) : Bool :=
  match s.rng.work.find? (sameWork eng h) with
  | none => false
  | some w =>
    w.opcode == opcode && w.body == b && { w.hdr with late := h.late } == h
      && h.late.toNat == min (lateness s w / 1000) (2 ^ 32 - 1) && inTime s w
      && ringReady s w && ringTurn s h.part.val eng == some h.ring.val
      && eligible s h.part.val eng && partTurn s h.part.val eng
      && (eng != ACT || [0, 0x20, 0xFF].contains opcode || s.act.lane.isEmpty)

/-- The round moves to the partition that is served: each partition visited on the way gains its WEIGHT, and one with nothing
ready keeps no deficit (R162). -/
def advanceRound (s : State) (p eng : Nat) (l : List Nat) (n : Nat → Nat) : State :=
  let v := visits s p eng (n p)
  let g := weighted s eng l
  let gain (q : Nat) : Nat :=
    (qosOf s q eng).weight * (if decide ((visits s q eng (n q)).2 ≤ v.2) && v.1 != 0 then v.1 else v.1 - 1)
  let s1 := (List.range 8).foldl (fun t q =>
    if g.contains q then setDeficit t q eng (deficitOf t q eng + gain q) else setDeficit t q eng (min 0 (deficitOf t q eng))) s
  { s1 with rng := { s1.rng with drrAt := tabSet 7 s1.rng.drrAt eng p } }

/-- The round moves on to a partition that it serves, unless the safety partition or WEIGHT 0 puts it outside the round. -/
def moveRound (s : State) (p eng : Nat) (l : List Nat) (n : Nat → Nat) : State :=
  if (weighted s eng l).contains p && safetyPart s != some p then advanceRound s p eng l n else s

/-- An engine serves a descriptor: the round and the ring's turn move on, and its cost is charged (R162, R183). INF counts its
service by jobs, and its round moves with them (R429). -/
def serve (s : State) (eng opcode : Nat) (h : DHdr) (b : List Byte) : State :=
  let p := h.part.val
  let s1 := if eng = INF then s else moveRound s p eng (readyParts s eng) (fun q => nextCost s q eng)
  startWork (charge { s1 with rng := { s1.rng with turns := tabSet 3 s1.rng.turns (p * 8 + eng) h.ring.val } } p eng
    (cost eng opcode b)) eng h

/-- The meaning of a descriptor: while the control die executes and the engine may serve it, it starts, is charged and does
what its opcode says (R162, R176, R182 to R185). -/
def descr (eng opcode : Nat) (h : DHdr) (b : List Byte) (s : State) (f : State → State) : Res :=
  whileCd s (if canStart s eng opcode h b then f (serve s eng opcode h b) else s)

/-- Count a WINDOW_FAULT and raise PART_FAULT to the partition and P0 (R149). -/
def windowFault (s : State) (p eng ring addr : Nat) : State :=
  raise (((((s.wr PAR_FAULT_PART p).wr PAR_FAULT_ENGINE eng).wr PAR_FAULT_RING ring)).bump PAR_FAULT_FAULTS 1)
    88 false [p, 0] ([byte p, byte eng, byte ring, 0] ++ leBytes 8 addr)

/-- Complete with WINDOW_FAULT for a failing address (R149). -/
def completeFault (s : State) (eng : Nat) (h : DHdr) (opcode addr : Nat) : State :=
  complete (windowFault s h.part.val eng h.ring.val addr) eng h opcode WINDOW_FAULT []

/-- Read what a descriptor names through its partition's windows, and go on with the bytes; a range that no window gives,
or that the home answers with FAULT, ends it with WINDOW_FAULT (R149, R188). -/
def withData (s : State) (eng : Nat) (h : DHdr) (opcode addr len : Nat) (f : State → List Byte → State) : State :=
  match translate s h.part.val addr len 0 with
  | none => completeFault s eng h opcode addr
  | some a =>
    match fetchData s h.part.val a len with
    | (t, some d) => f t d
    | (t, none) => complete t eng h opcode WINDOW_FAULT []

end Sys2Proof.Machine
end

