-- ==== Sys2Proof/Machine/Channel.lean ====
section
/-! DEFINITION.
The operations on output channels that ACT, protection, the safety lane, the limp table and orphan states share:
status fields by kind, pairs and claims, ceilings, switching, snapshots, and the end of a running job
(chapters 8 to 12).
-/

namespace Sys2Proof.Machine

/-! ### Channels and their status fields -/

/-- The key of a channel. -/
def chKey (c : Chan) : Nat := c.kind * 64 + c.idx

/-- How many channels a kind has (Table 6.2). -/
def chCount : Nat → Nat
  | 1 => 32 | 2 => 8 | 3 => 8 | 4 => 24 | 5 => 16 | _ => 0

/-- KIND and INDEX lie within Table 6.2 (R191). -/
def chOk (c : Chan) : Bool := c.idx < chCount c.kind

/-- Every output channel. -/
def allChans : List Chan :=
  [1, 2, 3, 4, 5].flatMap (fun k => (List.range (chCount k)).map (fun i => ⟨k, i⟩))

/-- A channel's state beyond its registers. -/
def chn (s : State) (c : Chan) : Chn := tabGet {} s.chs (chKey c)

/-- Set it. -/
def setChn (s : State) (c : Chan) (x : Chn) : State := { s with chs := tabSet {} s.chs (chKey c) x }

/-- The CHSTATE field of a channel (Tables 9.3, 10.5, 11.5, 12.7 and 12.9). -/
def chStateF (c : Chan) : Field :=
  match c.kind with
  | 1 => HS_STATE_CHSTATE c.idx
  | 2 => HB_STATE_CHSTATE c.idx
  | 3 => SV_STATE_CHSTATE c.idx
  | 4 => LED_STATE_CHSTATE c.idx
  | _ => FIO_CAUSE_CHSTATE c.idx

/-- The APPLIED field of a channel. -/
def appliedF (c : Chan) : Field :=
  match c.kind with
  | 1 => HS_STATE_APPLIED c.idx
  | 2 => HB_STATE_APPLIED c.idx
  | 3 => SV_STATE_APPLIED c.idx
  | 4 => LED_STATE_APPLIED c.idx
  | _ => FIO_CAUSE_APPLIED c.idx

/-- The latch of a channel; an LED channel has none. -/
def latchF (c : Chan) : Option Field :=
  match c.kind with
  | 1 => some (HS_STATE_LATCHED c.idx)
  | 2 => some (HB_STATE_LATCHED c.idx)
  | 3 => some (SV_STATE_LATCHED c.idx)
  | 4 => none
  | _ => some (FIO_CAUSE_CAUSE c.idx 0)

/-- The thermal-off condition of a channel. -/
def thermF (c : Chan) : Field :=
  match c.kind with
  | 1 => HS_STATE_THERM_OFF c.idx
  | 2 => HB_STATE_THERM_OFF c.idx
  | 3 => SV_STATE_THERM_OFF c.idx
  | 4 => LED_STATE_THERM_OFF c.idx
  | _ => FIO_CAUSE_CAUSE c.idx 1

/-- The open-load condition of a channel. -/
def openF (c : Chan) : Field :=
  match c.kind with
  | 1 => HS_STATE_OPEN c.idx
  | 2 => HB_STATE_OPEN c.idx
  | 3 => SV_STATE_OPEN c.idx
  | 4 => LED_STATE_OPEN c.idx
  | _ => FIO_CAUSE_CAUSE c.idx 2

/-- The measured temperature of a channel. -/
def tempF (c : Chan) : Field :=
  match c.kind with
  | 1 => HS_MEAS_TEMP c.idx
  | 2 => HB_MEAS_TEMP c.idx
  | 3 => SV_MEAS_TEMP c.idx
  | 4 => LED_MEAS_TEMP c.idx
  | _ => FIO_MEAS_TEMP c.idx

/-- The measured current of a channel in milliamperes. -/
def currentMa (s : State) (c : Chan) : Int :=
  match c.kind with
  | 1 => s.rd (HS_MEAS_CURRENT c.idx)
  | 2 => s.rdInt (HB_MEAS_CURRENT c.idx)
  | 3 => s.rd (SV_MEAS_CURRENT c.idx)
  | 4 => (s.rd (LED_MEAS_CURRENT c.idx) : Int) / 10
  | _ => s.rd (FIO_MEAS_CURRENT c.idx)

/-- The channel is latched off, or thermal off. -/
def latched (s : State) (c : Chan) : Bool := match latchF c with | some f => s.flag f | none => false
def thermOff (s : State) (c : Chan) : Bool := s.flag (thermF c)

/-! ### Pairs (R233, R253) -/

/-- The limp table is applied (R59). -/
def limpActive (s : State) : Bool := s.flag SPR_STATUS_LIMP_ACTIVE

/-- The active copy in MRAM, whatever its CHECK. -/
def storedCopy (s : State) : Option LimpCopy :=
  if s.rd ACT_LIMP_INFO_COPY = 0 then s.act.copy0 else s.act.copy1

/-- The limp table in the active copy, when its CHECK holds (R211). -/
def activeCopy (s : State) : Option LimpCopy := (storedCopy s).filter (·.good)

/-- The pairing that HB_PAIR holds. -/
def hbPairWord (s : State) : Nat :=
  (List.range 8).foldl (fun a n => a + (s.rd (HB_PAIR_PARTNER n) + 8 * s.rd (HB_PAIR_PAIRED n)) * 2 ^ (4 * n)) 0

/-- The half-bridge pairing in force: the committed pairing while a table is applied, HB_PAIR otherwise (R207). -/
def pairWord (s : State) : Nat :=
  if limpActive s then (match activeCopy s with | some c => c.pair | none => hbPairWord s) else hbPairWord s

/-- The partner of half-bridge n in a pairing word: named by n and naming it back (R233). -/
def partnerIn (w n : Nat) : Option Nat :=
  let e := (w / 2 ^ (4 * n)) % 16
  let p := e % 8
  let b := (w / 2 ^ (4 * p)) % 16
  if e ≥ 8 ∧ b ≥ 8 ∧ b % 8 = n ∧ p ≠ n then some p else none

/-- The channels that act as one with a channel: both members of a pair, or the channel alone. -/
def members (s : State) (c : Chan) : List Chan :=
  match c.kind with
  | 2 => match partnerIn (pairWord s) c.idx with
    | some p => if c.idx < p then [c, ⟨2, p⟩] else [⟨2, p⟩, c]
    | none => [c]
  | 3 => if bit (s.rd SV_PAIR_PAIR) (c.idx / 2) then [⟨3, c.idx / 2 * 2⟩, ⟨3, c.idx / 2 * 2 + 1⟩] else [c]
  | _ => [c]

/-- The member that governs: the A side of a bridge, the master of a solenoid pair. -/
def master (s : State) (c : Chan) : Chan := (members s c).headD c

/-- The channel is the upper or slave member of a pair. -/
def isSlave (s : State) (c : Chan) : Bool := master s c != c

/-- The channel, or the pair's governing member, is open to the safety lane (R204, R233, R253). -/
def safeOpen (s : State) (c : Chan) : Bool :=
  let m := master s c
  match m.kind with
  | 1 => bit (s.rd ACT_SAFE_MAP0_HS) m.idx
  | 2 => bit (s.rd ACT_SAFE_MAP1_HB) m.idx
  | 3 => bit (s.rd ACT_SAFE_MAP1_SV) m.idx
  | 4 => bit (s.rd ACT_SAFE_MAP2_LED) m.idx
  | _ => bit (s.rd ACT_SAFE_MAP1_FIO) m.idx

/-! ### Claims (R200 to R203) -/

/-- The claim a high-side channel leads, or follows in. -/
def leadClaim (s : State) (c : Chan) : Option Claim :=
  if c.kind = 1 then s.act.claims.find? (fun x => x.lead == c.idx) else none
def folClaim (s : State) (c : Chan) : Option Claim :=
  if c.kind = 1 then s.act.claims.find? (fun x => x.fol == c.idx) else none

/-- The channels one command to a channel moves: its members, and the follower of a claim it leads. -/
def moved (s : State) (c : Chan) : List Chan :=
  members s c ++ (match leadClaim s c with | some x => [⟨1, x.fol⟩] | none => [])

/-! ### Follow channels of LED groups (R274) -/

/-- The follow channel of a group: HS(19 + SUPPLY); a second group naming it takes SUPPLY 0. -/
def followOf (s : State) (g : Nat) : Option Nat :=
  let n := s.rd (LED_GRP_CFG_SUPPLY g)
  if n = 0 ∨ (List.range g).any (fun k => s.rd (LED_GRP_CFG_SUPPLY k) == n) then none else some (19 + n)

/-- The channel is a follow channel of some group. -/
def isFollow (s : State) (c : Chan) : Bool :=
  c.kind == 1 && (List.range 3).any (fun g => followOf s g == some c.idx)

/-! ### Ceilings (R196, R206, R228, R280, R316, R318) -/

/-- The owner a channel's use is charged to: the claimant while it follows in a claim (R144). -/
def chargedTo (s : State) (c : Chan) : Option Nat :=
  match folClaim s c with | some x => some x.claimant | none => ownerOf s c.kind c.idx

/-- A named channel is held by the applied limp table, or by a live CRASH entry (R60, R211). -/
def limpNamed (s : State) (c : Chan) : Bool :=
  match activeCopy s with
  | some t => t.entries.any (fun e => (members s e.ch).contains c)
  | none => false
def limpHeld (s : State) (c : Chan) : Bool :=
  (limpActive s && limpNamed s c) || (chn s (master s c)).live

/-- The package factor spares a channel: a follow channel, or a channel of the safety partition within its heat
budget (R316). -/
def pkgExempt (s : State) (c : Chan) : Bool :=
  isFollow s c || (match safetyPart s, chargedTo s c with
    | some p, some q => p == q && (match entryOf s p with
        | some e => e.hBudget == 0 || decide ((tabGet {} s.scl.budgets p).heat ≤ e.hBudget * 10000)
        | none => false)
    | _, _ => false)

/-- The wire class of a channel; an LED channel has none (R227). -/
def wireClass (s : State) (c : Chan) : Nat :=
  match c.kind with
  | 1 => s.rd (HS_CFG_WIRE c.idx) | 2 => s.rd (HB_CFG_WIRE c.idx) | 3 => s.rd (SV_CFG_WIRE c.idx)
  | 5 => s.rd (FIO_DIAG_WIRE c.idx) | _ => 0

/-- DTMAX of a class in nanokelvin; 0 no model (R227). -/
def dtMax (s : State) (w : Nat) : Nat := if w = 0 then 0 else s.rd (HS_WIRE_I_DTMAX (w - 1)) * 500000000

/-- The lowest ceiling of a channel in 0.01 % (R196); none applies to a safety-lane action, and no partition budget to
a channel the limp table sets (Table 8.6). -/
def ceiling (s : State) (c : Chan) : Nat :=
  let m := master s c
  let x := chn s m
  if x.safe != .none then 10000
  else
    let w := x.wireCeil
    let b := if limpActive s && limpNamed s c then 10000 else x.budCeil * 100
    let g := if pkgExempt s c then 10000 else s.rd SCL_STATUS_PKG_FACTOR * 100
    let l := if c.kind = 4 then tabGet 10000 s.scl.led (c.idx / 8) else 10000
    min (min w b) (min g l)

/-! ### What an output applies (R196, R217 to R220, R235, R236, R258 to R260, R272, R280) -/

/-- Elapsed time in microseconds, as the power die's own timer counts it (R197). -/
def usNow (s : State) : Nat := s.now * 15625 / 512

/-- A level that moves linearly from `a` to `b` over `total`, after a time `t`. -/
def moveTo (a b t total : Nat) : Nat :=
  if total ≤ t then b else if a ≤ b then a + (b - a) * t / total else a - (a - b) * t / total

/-- The start of the PWM period that a time since the first one lies in, in microseconds. -/
def periodStart (freq t : Nat) : Nat := t * freq / 1000000 * 1000000 / freq

/-- The duty of a PWM at a time: 0 before its first on-edge, which PHASE delays; with RAMP it moves from the level at its
start and is updated at every period start (R217). -/
def pwmLevel (b : PwmBody) (began lvl now : Nat) : Nat :=
  if (now - began) * 65536 * b.freq < b.phase * 1000000 then 0
  else if b.ramp then moveTo lvl b.duty (periodStart b.freq (now - began)) (1000 * b.rampMs) else b.duty

/-- A drive descriptor's, limp entry's or reversal's drive: modes 3 and 4. -/
def isDrive (b : BridgeBody) : Bool := b.mode == 3 || b.mode == 4

/-- The duty that a governing channel is commanded to now, in 0.01 %: a solenoid regulates a current instead. -/
def wanted (s : State) (c : Chan) : Nat :=
  let x := chn s c
  let t := usNow s - x.runAt
  match x.drv with
  | .off => 0
  | .on => 10000
  | .pwm b =>
    if usNow s < x.runAt then (match x.prev with | some (p, a, l) => pwmLevel p a l (usNow s) | none => 0)
    else pwmLevel b x.runAt x.fromLvl (usNow s)
  | .pulse on off _ => if t % (on + off) < on then 10000 else 0
  | .profile p _ =>
    if s.flag (HS_PROF_SEG_RAMP p x.seg) then
      moveTo x.fromLvl (s.rd (HS_PROF_SEG_DUTY p x.seg)) t (1000 * s.rd (HS_PROF_SEG_TIME_MS p x.seg))
    else s.rd (HS_PROF_SEG_DUTY p x.seg)
  | .frozen _ => x.fromLvl
  | .bridge b => if isDrive b then moveTo x.fromLvl b.duty t (1000 * b.rampMs) else 0
  | .hold p g => s.rd (HS_PROF_SEG_DUTY p g)

/-- The target of a solenoid's segment now, in mA: RAMP moves it from the previous target over TIME (R258). -/
def svWanted (s : State) (c : Chan) : Nat :=
  let x := chn s c
  match x.drv with
  | .profile p _ =>
    if s.rd (SV_PROF_SEG0_MODE p x.seg) = 1 then
      moveTo x.fromLvl (s.rd (SV_PROF_SEG0_CURRENT p x.seg)) (usNow s - x.runAt) (100 * s.rd (SV_PROF_SEG0_TIME p x.seg))
    else s.rd (SV_PROF_SEG0_CURRENT p x.seg)
  | .hold p g => s.rd (SV_PROF_SEG0_CURRENT p g)
  | _ => 0

/-- The target that a solenoid or pair regulates to: scaled by the ceiling, and a nonzero one never brought below MIN_HOLD
per member (R260). -/
def svTarget (s : State) (c : Chan) : Nat :=
  let w := svWanted s c
  max (w * ceiling s c / 10000) (min w (10 * s.rd (SV_CFG_MIN_HOLD c.idx) * (members s c).length))

/-- A solenoid in a FULL segment stays fully on, unregulated, until its current has reached CURRENT (R258). -/
def svFull (s : State) (c : Chan) : Bool :=
  match (chn s c).drv with
  | .profile p _ => s.rd (SV_PROF_SEG0_MODE p (chn s c).seg) == 2 && !(chn s c).reached && svWanted s c != 0
  | _ => false

/-- The present level of a channel: its duty under the ceiling, or a solenoid's target. -/
def levelNow (s : State) (c : Chan) : Nat := if c.kind = 3 then svWanted s c else min (wanted s c) (ceiling s c)

/-- MIN_ON in microseconds (Tables 9.1, 10.1, 12.1 and 12.4). -/
def minOn (c : Chan) : Nat :=
  match c.kind with
  | 1 => if c.idx < 8 then 50 else if c.idx < 20 then 20 else 10
  | 5 => 50
  | _ => 1

/-- A PWM period's duty with MIN_ON heeded: a shorter on-time is off, a shorter off-time fully on (R217). -/
def minOnDuty (c : Chan) (freq d : Nat) : Nat :=
  if d * 100 < minOn c * freq then 0 else if (10000 - d) * 100 < minOn c * freq then 10000 else d

/-- The VBAT feed of a channel (Table 26.3). -/
def feedIdx (c : Chan) : Nat :=
  match c.kind with
  | 1 => if c.idx < 8 then 0 else if c.idx < 20 then 2 else 3
  | 2 => 1 | 3 => 2 | _ => 3

/-- Battery compensation (R218): d × (VREF / V)^e, at most fully on, V at least 6.0 V, and VREF where the feed has no
measurement (R321). -/
def compDuty (s : State) (c : Chan) (d : Nat) : Nat :=
  let r := 50 * s.rd HS_COMP_VREF
  let v := max 6000 ((tabFind s.scl.feeds (feedIdx c)).getD r)
  let square := if c.kind = 1 then !s.flag (HS_CFG_COMP_EXP c.idx) else Config.fioCompSquare
  min 10000 (if square then d * (r * r) / (v * v) else d * r / v)

/-- The duty and frequency that a high-side or field output runs with now; frequency 0 is static. A static on under a ceiling
runs at 200 Hz with the ceiling as duty, and is never compensated (R217 to R220). -/
def outDuty (s : State) (c : Chan) : Nat × Nat :=
  let d := levelNow s c
  let run (freq : Nat) (comp : Bool) : Nat × Nat := (minOnDuty c freq (if comp then compDuty s c d else d), freq)
  let prof (p : Nat) : Nat × Nat := run (s.rd (HS_PROF_CFG_FREQ p)) (s.flag (HS_PROF_CFG_BATT_COMP p))
  match (chn s c).drv with
  | .off => (0, 0)
  | .on => if d = 10000 then (d, 0) else (minOnDuty c 200 d, 200)
  | .pulse _ _ _ => if d = 10000 ∨ d = 0 then (d, 0) else (minOnDuty c 200 d, 200)
  | .pwm b =>
    match (chn s c).prev with
    | some (p, _, _) => if usNow s < (chn s c).runAt then run p.freq p.comp else run b.freq b.comp
    | none => run b.freq b.comp
  | .profile p _ => prof p
  | .frozen p => prof p
  | .hold p _ => prof p
  | .bridge _ => (0, 0)

/-- An LED channel's present level in 0.1 mA (R271). -/
def ledLevel (s : State) (c : Chan) : Nat := (chn s c).level.getD (s.rd (LED_CFG_DEF_LEVEL c.idx))

/-- What an LED channel sinks (R272, R280): its current in 0.1 mA, the on-time in 4,096ths of a period, and the duty in 0.01 %
of the 1,000 Hz PWM within each on-phase that stands in for a current below 2.0 mA. -/
def ledOut (s : State) (c : Chan) : Nat × Nat × Nat :=
  let d := wanted s c
  let n := if d = 0 then 0 else max 1 ((d * 4096 + 5000) / 10000)
  let l := ledLevel s c * ceiling s c / 10000
  if 20 ≤ l then (l, n, 10000) else (20, n, ledLevel s c * ceiling s c / 20)

/-- What a switch of a half-bridge does: off, on, switched at the duty, or on in the off-phases. -/
inductive Gate where
  | off | on | duty | offPhase
  deriving DecidableEq, Repr

/-- The high-side and low-side switch of one half-bridge. -/
structure Leg where
  high : Gate
  low : Gate
  deriving DecidableEq, Repr

/-- What the switches of a bridge do, A side first (Table 10.2): `decay` is how its off-phases recirculate, 0 SLOW_LOW,
1 SLOW_HIGH, 2 FAST (R235). -/
def gates (paired : Bool) (mode decay : Nat) : Leg × Leg :=
  let rest : Leg := ⟨.off, .off⟩
  let high : Leg := ⟨.duty, if decay = 0 then .offPhase else .off⟩
  let through : Leg := if decay = 0 then ⟨.off, .on⟩ else if decay = 1 then ⟨.offPhase, .duty⟩ else ⟨.off, .duty⟩
  let low : Leg := ⟨if decay = 2 then .off else .offPhase, .duty⟩
  match mode with
  | 1 => (⟨.off, .on⟩, if paired then ⟨.off, .on⟩ else rest)
  | 2 => (⟨.on, .off⟩, if paired then ⟨.on, .off⟩ else rest)
  | 3 => if paired then ((if decay = 1 then ⟨.on, .off⟩ else high), through)
         else (if decay = 1 then ⟨.duty, .offPhase⟩ else high, rest)
  | 4 => if paired then (through, if decay = 1 then ⟨.on, .off⟩ else high) else (low, rest)
  | _ => (rest, rest)

/-- How a bridge's off-phases recirculate: by DECAY, a reversal's drive with FAST (R235, R247). -/
def bridgeDecay (s : State) (m : Chan) : Nat := if (chn s m).safe == .reverse then 2 else s.rd (HB_CFG_DECAY m.idx)

/-- What a bridge's switches do now, the duty with which they are switched, and the time in nanoseconds that both switches of
a half-bridge are off between one and the other (R234, R235). -/
def bridgeOut (s : State) (m : Chan) : (Leg × Leg) × Nat × Nat :=
  match (chn s m).drv with
  | .bridge b =>
    (gates ((members s m).length == 2) b.mode (bridgeDecay s m), if b.freq = 0 then levelNow s m else minOnDuty m b.freq (levelNow s m),
      50 * s.rd (HB_CFG_DEAD m.idx))
  | _ => (gates false 0 0, 0, 50 * s.rd (HB_CFG_DEAD m.idx))

/-- The applied level as a percentage of the commanded one (Table 8.3); a static on, an LED channel and a solenoid report the
ceiling (R219, R260, R280). -/
def appliedPct (s : State) (c : Chan) : Nat :=
  let m := master s c
  let w := wanted s m
  match (chn s m).drv with
  | .off => 0
  | .on => ceiling s c / 100
  | .pulse _ _ _ => ceiling s c / 100
  | _ => if c.kind = 3 ∨ c.kind = 4 then ceiling s c / 100 else if w ≤ ceiling s c then 100 else ceiling s c * 100 / w

/-- How a solenoid's or field output's current falls at a switch-off that its own configuration decides: OFF_DECAY, 3 taken as
2, or DEMAG (R255, R288). -/
def offFall (s : State) (c : Chan) : Decay :=
  match c.kind with
  | 3 => match s.rd (SV_CFG_OFF_DECAY c.idx) with | 0 => .slow | 1 => .fast | _ => .clamp
  | 5 => if s.flag (FIO_CFG_DEMAG c.idx) then .slow else .fast
  | _ => .slow

/-- How a solenoid's current falls into a lower segment: that segment's DECAY, 3 taken as 2 (R258, R259). -/
def segFall (s : State) (p g : Nat) : Decay :=
  match s.rd (SV_PROF_SEG1_DECAY p g) with | 0 => .slow | 1 => .fast | _ => .clamp

/-- The voltage in mV across a coil, or of an output's pin, while an inductive load's current falls (R215, Table 11.2, R288);
`vbat` is the feed. -/
def fallMv (s : State) (c : Chan) (vbat : Nat) : Int :=
  match c.kind, (chn s c).fall with
  | 3, .slow => -1000
  | 3, .fast => -(vbat + 1000 : Int)
  | 3, .clamp => if s.flag (SV_CFG_CLAMP_V c.idx) then -55000 else -40000
  | 5, .slow => -1000
  | 5, _ => vbat - 50000
  | 1, _ => vbat - 45000
  | _, _ => 0

/-- Protection and the safety lane's OFF bring current down with FAST (R259, R288). -/
def fallFast (s : State) (c : Chan) : State := (members s c).foldl (fun t k => setChn t k { chn t k with fall := .fast }) s

/-- A test pulse of an LED channel, or of a pair, stops when a command for one of them reaches the power die, and its result is
discarded (R278). -/
def stopTest (s : State) (c : Chan) : State :=
  if c.kind ≠ 4 then s
  else
    let below : Chan := ⟨4, c.idx - 1⟩
    let s1 := if (chn s c).test ≠ 0 then (setChn s c { chn s c with test := 0 }).bump LED_CNT_TESTS_ABORTED 1 else s
    if c.idx ≠ 0 ∧ (chn s1 below).test = 2 then (setChn s1 below { chn s1 below with test := 0 }).bump LED_CNT_TESTS_ABORTED 1 else s1

/-! ### Switching -/

/-- The CHSTATE code of Table 8.3 for what an output does. A finished profile that holds its last segment reports that
level: off, on or PWM (R220), and a solenoid on or off (R257). -/
def drvCode (s : State) (c : Chan) : Drv → Nat
  | .off => 0
  | .on => if c.kind = 1 ∧ ceiling s c < 10000 then 2 else 1
  | .pwm _ => 2
  | .pulse _ _ _ => 2
  | .profile _ _ => 3
  | .frozen _ => 3
  | .bridge b => match b.mode with | 0 => 0 | 1 => 4 | 2 => 4 | 3 => 5 | 4 => 6 | _ => 7
  | .hold p g =>
    if c.kind = 3 then (if s.rd (SV_PROF_SEG0_CURRENT p g) = 0 then 0 else 1)
    else if s.rd (HS_PROF_SEG_DUTY p g) = 0 then 0
    else if s.rd (HS_PROF_SEG_DUTY p g) = 10000 then 1 else 2

/-- The CHSTATE a channel reports: latched off and thermal off before what it would do. -/
def chCode (s : State) (c : Chan) : Nat :=
  let m := master s c
  if latched s m then 8 else if thermOff s m then 9 else drvCode s c (chn s m).drv

/-- REV of both members of a bridge (R233, R247). -/
def setRev (s : State) (c : Chan) (v : Nat) : State := (members s c).foldl (fun t k => t.wr (HB_STATE_REV k.idx) v) s

/-- Bring CHSTATE and APPLIED of a channel up to date. -/
def showCh (s : State) (c : Chan) : State := (s.wr (chStateF c) (chCode s c)).wr (appliedF c) (ceiling s c / 100)

/-- Bring the members of a pair up to date. -/
def showAll (s : State) (c : Chan) : State := (members s c).foldl showCh s

/-- An output that carries load current. -/
def drvOn : Drv → Bool
  | .off => false
  | .bridge b => b.mode == 3 || b.mode == 4
  | _ => true

/-- An inrush window opens at the first on-edge after at least 100 ms off, and at each restart (R222, R287). -/
def openInrush (s : State) (c : Chan) (again : Bool) : State :=
  let t := match c.kind with | 1 => s.rd (HS_CFG_INRUSH_T c.idx) | 5 => s.rd (FIO_CFG_INRUSH_T c.idx) | _ => 0
  let due := again || (match (chn s c).offAt with | some a => s.now - a ≥ 3277 | none => false)
  if t = 0 ∨ !due then s
  else if c.kind = 1 then s.put (HS_STATE_INRUSH c.idx) true
  else setChn s c { chn s c with inrush := true }

/-- When a new drive of an output begins: a PWM over a running PWM at its next period start, everything else at once (R217). -/
def beginAt (s : State) (x : Chn) (d : Drv) : Nat :=
  match x.drv, d with
  | .pwm p, .pwm _ =>
    if usNow s < x.runAt then x.runAt
    else x.runAt + (((usNow s - x.runAt) * p.freq / 1000000 + 1) * 1000000 + p.freq - 1) / p.freq
  | _, _ => usNow s

/-- The PWM that runs on until a new one begins. -/
def carriesOn (s : State) (x : Chn) (d : Drv) : Option (PwmBody × Nat × Nat) :=
  match x.drv, d with
  | .pwm p, .pwm _ => if usNow s < x.runAt then x.prev else some (p, x.runAt, x.fromLvl)
  | _, _ => none

/-- The level from which what begins now starts: the one applied, of a drive only in the same direction (R217, R236). -/
def startLevel (s : State) (c : Chan) (d : Drv) : Nat :=
  match (chn s c).drv, d with
  | .bridge a, .bridge b => if a.mode = b.mode then levelNow s c else 0
  | _, .bridge _ => 0
  | _, _ => levelNow s c

/-- Make one channel do something: what it does and since when, when it last went off and how its current falls, and its
status. -/
def switch1 (s : State) (d : Drv) (c : Chan) : State :=
  let s1 := if drvOn d && !drvOn (chn s c).drv then openInrush s c false else s
  let x := chn s1 c
  showAll (setChn s1 c { x with
    drv := d, offAt := if drvOn d then none else (x.offAt <|> some s.now)
    runAt := beginAt s1 x d, fromLvl := startLevel s1 c d, prev := carriesOn s1 x d, reached := false
    fall := if drvOn d || !drvOn x.drv then x.fall else offFall s1 c }) c

/-- The group supply follows its channels: on as soon as one is on (R274). -/
def followOn (s : State) (c : Chan) : State :=
  if c.kind = 4 ∧ drvOn (chn s c).drv then
    match followOf s (c.idx / 8) with
    | some h =>
      let f : Chan := ⟨1, h⟩
      if latched s f || thermOff s f then s else switch1 s .on f
    | none => s
  else s

/-- Make a channel do something, its claim's follower with it and its group's supply after it. -/
def switchTo (s : State) (c : Chan) (d : Drv) : State :=
  let m := master s c
  let s1 := followOn (switch1 s d m) m
  match leadClaim s m with
  | some x => switch1 s1 d ⟨1, x.fol⟩
  | none => s1

/-! ### Snapshots and jobs (R194, R195) -/

/-- The FAULT byte of Table 8.3. -/
def faultByte (s : State) (c : Chan) : Nat :=
  (if latched s c || latched s (master s c) then 1 else 0) + (if thermOff s c || thermOff s (master s c) then 2 else 0)
    + (if s.flag (openF (master s c)) then 4 else 0)
    + (if (leadClaim s c).isSome || (folClaim s c).isSome then 8 else 0)
    + (if (chn s (master s c)).safe != .none then 16 else 0) + (if limpHeld s c then 32 else 0)

/-- The ACT RESULT (Table 8.3). -/
def snapshot (s : State) (c : Chan) (rebased : Bool) (steps : Nat) : List Byte :=
  let code := chCode s c
  let app := if code = 0 ∨ code = 8 ∨ code = 9 then 0 else appliedPct s c
  [byte code, byte app] ++ leBytes 2 (intBits 16 (currentMa s c / 10)) ++ leBytes 2 (intBits 16 (s.rdInt (tempF c)))
    ++ [byte (faultByte s c), byte ((if rebased then 1 else 0) + 2 * steps)]

/-- Complete an ACT descriptor with the snapshot of its channel, counting held completions (Table 8.11). -/
def actDone (s : State) (h : DHdr) (opcode status : Nat) (c : Chan) (steps : Nat) : State :=
  let s1 := if status = SAFETY_HELD then s.bump ACT_CNT_HELD_SAFE 1
            else if status = LIMP_HELD then s.bump ACT_CNT_HELD_LIMP 1 else s
  complete s1 ACT h opcode status (snapshot s1 c h.rebased steps)

/-- The RESULT of a record that an engine's descriptor gets without being executed (R195): an ACT record describes the
channel it names, if one, and a SEQUENCE that has executed no step names none. -/
def plainResult (s : State) (eng opcode : Nat) (h : DHdr) (b : List Byte) : List Byte :=
  let c : Chan := ⟨leAt b 16 1, leAt b 17 1⟩
  if eng ≠ ACT ∨ opcode = 0 ∨ opcode = 0xFF then []
  else if opcode = 6 ∨ !chOk c then List.replicate 7 0 ++ [byte (if h.rebased then 1 else 0)]
  else snapshot s c h.rebased 0

/-- The job running on a channel ends, and its descriptor completes with the snapshot of that moment. -/
def endJob (s : State) (c : Chan) (status : Nat) : State :=
  let m := master s c
  match (chn s m).job with
  | none => s
  | some j => actDone (setChn s m { chn s m with job := none }) j.hdr j.opcode status m 0

/-- A job ends without a record: its partition's rings are gone (Table 6.8, R153). A drive that waits for DIR_GAP has
not begun, so it never does; a limp drive that waits is no descriptor's. -/
def dropJob (s0 : State) (c : Chan) : State :=
  let x := chn s0 c
  let s := match x.wait with
    | some (_, some j) => dropWork (setChn s0 c { x with wait := none }) ACT j.hdr
    | some (_, none) => if x.limpDrive == .none then setChn s0 c { x with wait := none } else s0
    | none => s0
  match (chn s c).job with
  | none => s
  | some j => dropWork (setChn s c { chn s c with job := none }) ACT j.hdr

/-- A drive that waits for DIR_GAP never runs: its descriptor completes with a status. -/
def endWait (s : State) (c : Chan) (status : Nat) : State :=
  match (chn s c).wait with
  | none => s
  | some (_, j) =>
    let s1 := setChn s c { chn s c with wait := none }
    match j with
    | some k => actDone s1 k.hdr k.opcode status c 0
    | none => s1

/-- How many channels the safety lane holds now; a pair counts as one (Table 8.11). -/
def showHeld (s : State) : State :=
  s.wr ACT_SAFE_STATUS_SL_HELD (s.chs.filter (fun e => e.2.safe != .none)).length

/-- Begin or end the safety-lane hold of a channel. -/
def setSafe (s : State) (c : Chan) (v : SafeHold) : State :=
  showHeld (setChn s (master s c) { chn s (master s c) with safe := v })

/-- The channel cannot be switched on now: latched off, thermal off, on a feed out of range, or kept off by a
neighbour short. -/
def blocked (s : State) (c : Chan) : Bool :=
  let m := master s c
  (members s c).any (fun k => latched s k || thermOff s k) || (chn s m).feedOff || (chn s m).nbHold

/-- The channel payload of Table 24.2 (R515). -/
def chPayload (s : State) (c : Chan) (sub state : Nat) : List Byte :=
  let i := if c.kind = 1 ∧ c.idx < 8 then currentMa s c / 2 else currentMa s c
  [byte c.kind, byte c.idx, byte sub, byte state] ++ leBytes 2 (intBits 16 (satInt 16 i))
    ++ leBytes 2 (intBits 16 (s.rdInt (tempF c)))

/-- The owners of a channel's faults: the owner, or P0 when unowned; within a claim the claimant and the follower's
owner (R202). -/
def chOwners (s : State) (c : Chan) : List Nat :=
  match (leadClaim s c) <|> (folClaim s c) with
  | some x => [x.claimant, ownerOr0 s 1 x.fol]
  | none => [ownerOr0 s c.kind c.idx]

/-! ### Protection (R221, R223, R243, R264) -/

/-- A kerf watch of a solenoid ends with a result (R262): KERF_RES, KERF_T and DEPTH are written, where no kerf was found
with open values for the last two (log entry 1); a result other than FOUND counts and is reported. -/
def kerfResult (s : State) (c : Chan) (res t depth : Nat) : State :=
  let s1 := ((s.wr (SV_STATE_KERF_RES c.idx) res).wr (SV_KRES_KERF_T c.idx) t).wr (SV_KRES_DEPTH c.idx) depth
  let s2 := setChn s1 c { chn s1 c with kerf := false, found := none }
  let s3 := if 2 ≤ res then s2.bump SV_CNT2_KERF_MISS 1 else s2
  if res ≠ 1 ∨ s.flag (SV_CFG_KERF_ALL c.idx) then
    raise s3 27 false [ownerOr0 s 3 c.idx]
      ([3, byte c.idx, byte res, 0] ++ leBytes 2 (s3.rd (SV_KRES_KERF_T c.idx)) ++ leBytes 2 (s3.rd (SV_KRES_DEPTH c.idx)))
  else s3

/-- A watch that ends without a kerf. -/
def kerfMissed (s : State) (c : Chan) (res : Nat) : State :=
  kerfResult (freeNext (freeNext s)) c res (freeDraw s).toNat (freeDraw (freeNext s)).toNat

/-- The kerf watch of a solenoid ends as ABORTED (Table 11.3). -/
def abortKerf (s : State) (c : Chan) : State := if c.kind = 3 ∧ (chn s c).kerf then kerfMissed s c 6 else s

/-- The lost position of a bridge: POS_VALID clears and HB_POS_LOST goes to the owner (R240). -/
def posLost (s : State) (c : Chan) : State :=
  if s.flag (HB_STATE_POS_VALID c.idx) then
    raise (s.put (HB_STATE_POS_VALID c.idx) false) 22 false [ownerOr0 s 2 c.idx]
      (chPayload s c 2 1 ++ leBytes 4 (s.rd (HB_POS_POS c.idx)))
  else s

/-- A bridge moves: its last ripple is no older than a period of RIP_FMIN, and its ripple frequency was not below (R239,
R240). -/
def turning (s : State) (c : Chan) : Bool :=
  s.rd (HB_RIPF_RIPFREQ c.idx) ≥ s.rd (HB_RIP_RIP_FMIN c.idx) && s.rd (HB_RIPF_RIPFREQ c.idx) != 0
    && (s.now - (chn s c).ripAt) * s.rd (HB_RIP_RIP_FMIN c.idx) ≤ 32768

/-- A bridge enters OFF: a turning motor loses the position (R240). -/
def bridgeOff (s : State) (c : Chan) : State :=
  let m := master s c
  switchTo (if turning s m then posLost s m else s) m .off

/-- A drive of a bridge ends with a cause (Table 10.5): END_CAUSE, the end tick for DIR_GAP, the reference for a
reversal, and its descriptor completes with a status. -/
def endDrive (s : State) (c : Chan) (cause status : Nat) : State :=
  let m := master s c
  let x := chn s m
  match x.drv with
  | .bridge b =>
    if b.mode = 3 ∨ b.mode = 4 then
      endJob (setChn (s.wr (HB_STATE_END_CAUSE m.idx) cause) m
        { x with dir := b.mode - 2, driveEnd := some s.now }) m status
    else s
  | _ => s

/-- Switch a channel off at once, whatever it does: a running job's end, a bridge's position, a solenoid's kerf watch
and a reversal's hold are seen to. `cause` is the bridge's END_CAUSE, `status` what an interrupted job completes with. -/
def cutOff (s0 : State) (c : Chan) (cause status : Nat) : State :=
  let m := master s0 c
  let s := endWait s0 m status
  match m.kind with
  | 2 =>
    let s1 := if turning s m then posLost s m else s
    let d := (chn s1 m).drv
    let s2 := switchTo (setChn s1 m { chn s1 m with limpDrive := .none, braking := false }) m .off
    let drove := match d with | .bridge b => b.mode == 3 || b.mode == 4 | _ => false
    if drove then
      endJob (setChn (s2.wr (HB_STATE_END_CAUSE m.idx) cause) m
        { chn s2 m with driveEnd := some s.now
                        dir := match d with | .bridge b => b.mode - 2 | _ => 0 }) m status
    else endJob s2 m status
  | 3 => endJob (switchTo (abortKerf s m) m .off) m status
  | _ => endJob (switchTo s m .off) m status

/-! ### Ownership of a descriptor's channel (R143, R191, R199, R202, R205, R274) -/

/-- Why a channel may not be named by a partition's ACT descriptor: it is another's, a follow channel, or a field
channel that is no output. -/
def nameFault (s : State) (p : Nat) (c : Chan) : Option Nat :=
  if ownerOf s c.kind c.idx ≠ some p then some NOT_OWNER
  else if isFollow s c then some BAD_FIELD
  else if c.kind = 5 ∧ s.rd (FIO_CFG_MODE c.idx) ≠ 2 then some BAD_FIELD
  else none

/-- Why a higher-ranking source keeps the channel (Table 8.6): safety hold, limp hold, a claim on the follower. -/
def heldFault (s : State) (c : Chan) : Option Nat :=
  if (chn s (master s c)).safe != .none then some SAFETY_HELD
  else if limpHeld s c then some LIMP_HELD
  else if (folClaim s c).isSome then some CLAIM_CONFLICT
  else none

/-- An ACT descriptor of its owner reaches a channel: orphan and kept states end (R60, R157). -/
def ownerActs (s : State) (c : Chan) : State :=
  let x := chn s c
  setChn s c { x with orphan := 0, orphanDue := false, kept := false }

/-- An owner's command takes the channel: orphan and kept states end, and so does a limp drive that outlived its table, and a
test pulse (R60, R157, R278). -/
def takeCh (s0 : State) (c : Chan) : State :=
  let s := stopTest s0 c
  let x := chn s c
  setChn s c { x with orphan := 0, orphanDue := false, kept := false, limpDrive := .none,
                      braking := false }

/-- End a claim: both channels go off, and each stays off until its owner's next descriptor (R203). -/
def endClaim (s : State) (x : Claim) : State :=
  let lead : Chan := ⟨1, x.lead⟩
  let fol : Chan := ⟨1, x.fol⟩
  let s1 := { s with act := { s.act with claims := s.act.claims.filter (· != x) } }
  let k := (s.act.claims.findIdx? (· == x)).getD 0
  let s2 := endJob (switchTo (switchTo s1 lead .off) fol .off) lead OK
  let s3 := setChn s2 lead { chn s2 lead with cmd := .off, kept := true, retry := none }
  let s4 := setChn s3 fol { chn s3 fol with cmd := .off, kept := true, retry := none }
  (List.range 8).foldl (fun t i =>
    if i < k then t else match s1.act.claims[i]? with
      | some y => (((t.wr (ACT_CLAIM_LEAD i) y.lead).wr (ACT_CLAIM_FOLLOWER i) y.fol).wr (ACT_CLAIM_CLAIMANT i)
          y.claimant).put (ACT_CLAIM_VALID i) true
      | none => (((t.wr (ACT_CLAIM_LEAD i) 0).wr (ACT_CLAIM_FOLLOWER i) 0).wr (ACT_CLAIM_CLAIMANT i) 0).put
          (ACT_CLAIM_VALID i) false) s4

/-- End every claim a partition takes part in, as owner or claimant (R144, R203). -/
def endClaimsOf (s : State) (p : Nat) : State :=
  (s.act.claims.filter (fun x => x.claimant == p || ownerOf s 1 x.fol == some p || ownerOf s 1 x.lead == some p)).foldl
    endClaim s

/-! ### Orphan states (R156, R157, Table 6.9) -/

/-- A half-bridge in motion brakes for 20 ms and then switches off; at rest it keeps brake or off (Table 6.9, R30).
With `toOff` a bridge that brakes switches off in the same way: an orphan OFF, and the brake of a reversal or before an
opposing drive, which is motion (R33). -/
def bridgeRest (s : State) (c : Chan) (toOff : Bool) : State :=
  let m := master s c
  let x := chn s m
  let brakeB : BridgeBody := ⟨1, 0, 0, 0, 0, 0, false, false, false⟩
  match x.drv with
  | .bridge b =>
    if x.braking then s
    else if b.mode = 3 ∨ b.mode = 4 ∨ b.mode = 5 then
      let s1 := endJob (setChn (s.wr (HB_STATE_END_CAUSE m.idx) 7) m
        { x with driveEnd := some s.now, dir := if b.mode = 5 then x.dir else b.mode - 2, wait := none, limpDrive := .none }) m OK
      let s2 := switchTo s1 m (.bridge brakeB)
      setChn s2 m { chn s2 m with braking := true }
    else if toOff then
      let s2 := switchTo s m (.bridge brakeB)
      setChn s2 m { chn s2 m with braking := true, wait := none, limpDrive := .none, driveEnd := x.driveEnd <|> some s.now }
    else s
  | _ => s

/-! ### Limp actions (R209 to R212, Table 8.10) -/

/-- The PWM body of a limp PWM action: duty in per mille at 200 Hz, no battery compensation. -/
def limpPwm (permille : Nat) : PwmBody := ⟨200, permille * 10, 0, false, false, 0⟩

/-- A limp drive at 100 % duty (R209). -/
def limpBridge (dir ms : Nat) : BridgeBody := ⟨dir, 10000, 0, ms, 0, 0, false, false, false⟩

/-- A limp entry that is ignored when applied: a solenoid slave, a follow channel, a field channel that is no output
(R253, R274, R291). -/
def limpIgnored (s : State) (c : Chan) : Bool :=
  (c.kind == 3 && isSlave s c) || isFollow s c || (c.kind == 5 && s.rd (FIO_CFG_MODE c.idx) != 2)

/-- What a channel was doing ends because a higher-ranking source takes it: a bridge's drive with an END_CAUSE, a
running train or profile; its descriptor completes with a status. -/
def endRun (s : State) (c : Chan) (cause status : Nat) : State :=
  let m := master s c
  if m.kind = 2 then endDrive (endWait s m status) m cause status else endJob (abortKerf s m) m status

/-- A static limp level: what the output does and what a retry restores. -/
def limpSet (s : State) (c : Chan) (d : Drv) : State :=
  let s1 := setChn s c { chn s c with cmd := d }
  if blocked s c then showAll s1 c else switchTo s1 c d

/-- A drive would oppose one that ended less than DIR_GAP ago (R236). -/
def opposes (s : State) (m : Chan) (mode : Nat) : Bool :=
  let x := chn s m
  x.dir != 0 && x.dir + 2 != mode && (match x.driveEnd with
    | some e => (s.now - e) * 1000 < s.rd (HB_CFG_DIR_GAP m.idx) * 32768
    | none => false)

/-- A limp drive starts, after DIR_GAP where it opposes the last drive, or waits for a safety hold to end (R209, R212,
R236). -/
def limpDriveStart (s : State) (c : Chan) (dir ms : Nat) : State :=
  let x := chn s c
  if x.safe != .none then setChn s c { x with limpDrive := .waiting, limpDir := dir, limpMs := ms }
  else if blocked s c then s
  else
    let s0 := setChn s c { x with limpDrive := .drive, limpDir := dir, limpMs := ms, braking := false }
    if opposes s c dir then
      let s1 := switchTo s0 c (.bridge ⟨1, 0, 0, 0, 0, 0, false, false, false⟩)
      setChn s1 c { chn s1 c with wait := some (limpBridge dir ms, none) }
    else
      let s1 := switchTo s0 c (.bridge (limpBridge dir ms))
      setChn s1 c { chn s1 c with dir := dir - 2, driveEnd := none, period := 0, fills := 0, ripSeen := false }

/-- A segment begins: SEG shows it, and a KERF segment of a solenoid starts its watch, which ends with its result
(R261, R262). -/
def startSeg (s : State) (c : Chan) (p g : Nat) : State :=
  let s1 := setChn s c { chn s c with seg := g, reached := false }
  if c.kind = 3 then
    setChn (s1.wr (SV_STATE_SEG c.idx) g) c { chn s1 c with
      kerf := (chn s1 c).kerf || s.flag (SV_PROF_SEG1_KERF p g)
      fall := if s.rd (SV_PROF_SEG0_CURRENT p g) < svWanted s c then segFall s p g else (chn s1 c).fall }
  else s1

/-- A channel runs a profile from segment 0; a solenoid that was off has no kerf result yet (Table 11.3). Current falls into a
lower first target with that segment's DECAY (R268). -/
def runProfile (s : State) (c : Chan) (p rep : Nat) : State :=
  let s1 := if c.kind = 3 ∧ (chn s c).drv = .off then s.wr (SV_STATE_KERF_RES c.idx) 0 else s
  let lower := c.kind == 3 && decide (s.rd (SV_PROF_SEG0_CURRENT p 0) < svWanted s c)
  let s2 := switchTo s1 c (.profile p rep)
  let s3 := startSeg (setChn s2 c { chn s2 c with pass := 0, seg := 0 }) c p 0
  if lower then setChn s3 c { chn s3 c with fall := segFall s p 0 } else s3

/-- One limp action on a channel (Table 8.10); KEEP touches nothing. `fresh` says that the trigger has just changed, or
that the table is being applied, which is when a drive runs. -/
def limpAction (s0 : State) (c : Chan) (act param pulseMs : Nat) (fresh : Bool) : State :=
  if act = 8 then s0
  else if act = 6 ∨ act = 7 then (if fresh then limpDriveStart s0 c (act - 3) pulseMs else s0)
  else
    let s := setChn s0 c { chn s0 c with limpDrive := .none, wait := none }
    let x := chn s c
    if x.safe != .none then s
    else match act with
    | 1 => limpSet s c .on
    | 2 => limpSet s c (.pwm (limpPwm param))
    | 3 => limpSet (setChn s c { x with level := some param }) c .on
    | 4 => if blocked s c then s else runProfile s c param 0
    | 5 => limpSet s c (.bridge ⟨1, 0, 0, 0, 0, 0, false, false, false⟩)
    | _ => if c.kind = 2 then bridgeOff s c else if c.kind = 3 then switchTo s c .off else limpSet s c .off

/-- Whether an entry's trigger is true (Table 8.8). -/
def limpTrigger (s : State) (e : LimpEntry) : Bool :=
  match e.trigger with
  | 0 => true
  | 1 => s.flag SPR_LIMP_IN_IGN
  | _ => s.flag SPR_LIMP_IN_CRASH_LATCH

/-- One entry acts for the present level of its trigger (R209): what ran on its channel ends first, unless the action
is KEEP. A drive of the owner's that meets a DRIVE entry which does not run brakes for 20 ms and goes off (log entry 93). -/
def limpEntryAct (s : State) (fresh : Bool) (e : LimpEntry) : State :=
  if limpIgnored s e.ch then s
  else
    let c := master s e.ch
    let act := if limpTrigger s e then e.actT else e.actF
    let par := if limpTrigger s e then e.paramT else e.paramF
    let s0 := stopTest s c
    let s1 := match (leadClaim s0 c) <|> (folClaim s0 c) with | some x => endClaim s0 x | none => s0
    let own := (chn s1 c).limpDrive == .none && (match (chn s1 c).drv with | .bridge b => isDrive b | _ => false)
    let s2 := if act = 8 then s1
      else if (act = 6 ∨ act = 7) ∧ !fresh ∧ own then bridgeRest (endRun s1 c 7 OK) c true
      else endRun s1 c 7 OK
    limpAction (setChn s2 c { chn s2 c with orphan := 0, orphanDue := false }) c act par e.pulseMs fresh

/-- The orphan state OFF (Table 6.9): a bridge rests by its brake. -/
def orphanOff (s : State) (c : Chan) : State :=
  match c.kind with
  | 2 => bridgeRest s c true
  | 3 => switchTo (abortKerf s c) c .off
  | _ => setChn (switchTo s c .off) c { chn (switchTo s c .off) c with cmd := .off, retry := none }

/-- A channel in the orphan state LIMP follows its entry of the sealed table (Table 6.9); without one it is off, from the first
moment on. -/
def orphanLimp (s : State) (c : Chan) (first : Bool) : State :=
  match (activeCopy s).bind (fun t => t.entries.find? (fun e => master s e.ch == c)) with
  | some e =>
    if limpIgnored s e.ch then (if first then orphanOff s c else s)
    else limpAction s c (if limpTrigger s e then e.actT else e.actF) (if limpTrigger s e then e.paramT else e.paramF) e.pulseMs true
  | none => if first then orphanOff s c else s

/-- Put a channel into its orphan state of Table 6.9, `o` being its ORPHAN code (0 OFF, 1 HOLD, 2 LIMP). Its job's
record goes with its rings. A reversal that runs completes first (R157). While the limp table is applied its entries
take precedence (R164), and a safety-lane OFF or BRAKE keeps its output (Table 8.6). -/
def orphanNow (s : State) (c : Chan) (o : Nat) : State :=
  let s0 := dropJob s c
  let x := chn s0 c
  if x.safe == .reverse then setChn s0 c { x with orphanDue := true, orphan := o + 1 }
  else if limpActive s0 && limpNamed s0 c then s0
  else if x.safe != .none then setChn s0 c { x with orphan := o + 1, orphanAt := s.now }
  else
    let s1 := setChn s0 c { x with orphan := o + 1, orphanAt := s.now, orphanDue := false, wait := none }
    match o with
    | 0 => orphanOff s1 c
    | 1 =>
      match c.kind with
      | 2 => bridgeRest s1 c x.wait.isSome
      | 3 => s1
      | _ => match x.drv with
        | .profile p _ => switchTo s1 c (.frozen p)
        | .pulse _ _ _ => switchTo s1 c (if wanted s1 c = 0 then .off else .on)
        | _ => s1
    | _ => orphanLimp s1 c true

/-- The output channels a partition owns, the governing member of a pair standing for it. -/
def ownedChans (s : State) (p : Nat) : List Chan :=
  allChans.filter (fun c => ownerOf s c.kind c.idx == some p && !isSlave s c)

/-- The orphan code of a channel's ownership record. -/
def orphanCode (s : State) (c : Chan) : Nat := match ownRec s c.kind c.idx with | some r => r.orphan | none => 0

/-- Every channel of a partition takes its orphan state, its claims ended first (R144, R156). -/
def orphanPart (s : State) (p : Nat) : State :=
  (ownedChans s p).foldl (fun t c => orphanNow t c (orphanCode t c)) (endClaimsOf s p)

end Sys2Proof.Machine
end

