-- ==== Sys2Proof/Machine/Reset.lean ====
section
/-! DEFINITION.
What each reset clears and keeps (Table 2.3), the tally's mirror scan at a reset, the declaration of a lost control
die with its interim state, and the application of the limp table (chapters 1, 2, 8, 23 and 24).
-/

namespace Sys2Proof.Machine

/-! ### Registers by offset -/

/-- Some index of the strides reaches a distance. -/
def dimHit : List (Nat × Nat) → Nat → Bool
  | [], d => d == 0
  | (n, st) :: r, d => (List.range n).any (fun i => i * st ≤ d && dimHit r (d - i * st))

/-- The register at an offset of the configuration space (R568, R575). -/
def regAt (off : Nat) : Option RegDesc :=
  (regBlock (off / 0x10000)).find? (fun r => r.off ≤ off && dimHit r.dims (off - r.off))

/-- The field that a register-file key belongs to. -/
def fieldAt (key : Nat) : Option FieldDesc :=
  (regAt (key / 64)).bind (fun r => r.fields.find? (fun f => f.lsb == key % 64))

/-- Fields that show a present condition of a part that a device reset leaves running: the reference of the spar domain
(R37), the filtered limp inputs (R57), the bypass (R124), the feeds (R545), what each output does and which protection
holds it (R221, R223, "present conditions"), the accepted field inputs, sensing faults, and the scaler's states, which
run through a device reset (R312, R229). Records, measurements and counters are not among them: they return to their
Reset entries (R9; log entry 7). -/
def liveFields : List Field :=
  [SPR_STATUS_XS_OK, SPR_LIMP_IN_IGN, SPR_LIMP_IN_CRASH, CHN_BYPASS_ACTIVE, PWR_PINS_FEED_OK]
    ++ (List.range 32).flatMap (fun n => [HS_STATE_CHSTATE n, HS_STATE_LATCHED n, HS_STATE_THERM_OFF n, HS_STATE_OPEN n,
        HS_STATE_TWARN_ON n, HS_STATE_INRUSH n, HS_STATE_APPLIED n])
    ++ (List.range 8).flatMap (fun n => [HB_STATE_CHSTATE n, HB_STATE_LATCHED n, HB_STATE_THERM_OFF n, HB_STATE_OPEN n,
        HB_STATE_STALL n, HB_STATE_REV n, HB_STATE_APPLIED n, HB_RIPF_RIPFREQ n, SV_STATE_CHSTATE n, SV_STATE_LATCHED n,
        SV_STATE_THERM_OFF n, SV_STATE_OPEN n, SV_STATE_TWARN_ON n, SV_STATE_SEG n, SV_STATE_APPLIED n])
    ++ (List.range 24).flatMap (fun n => [LED_STATE_CHSTATE n, LED_STATE_OPEN n, LED_STATE_SHORT_GND n, LED_STATE_NB_SHORT n,
        LED_STATE_THERM_OFF n, LED_STATE_HEADROOM n, LED_STATE_NB_STALE n, LED_STATE_APPLIED n])
    ++ (List.range 3).flatMap (fun g => [LED_GSTAT_FACTOR g, LED_GSTAT_NTC_FAULT g, LED_GSTAT_SUPPLY_LOST g])
    ++ (List.range 16).flatMap (fun n => [FIO_CAUSE_CHSTATE n, FIO_CAUSE_APPLIED n] ++ (List.range 5).map (FIO_CAUSE_CAUSE n))
    ++ [FIO_STATUS_FAULT, FIO_STATUS_FCHAN, FIO_IN_LEVEL, SIN_AFLT_AFAULT, SIN_CAL_CAL_DEGR, SIN_CAL_SV_CAL_DEGR,
        SCL_STATUS_OVL, SCL_STATUS_PKG_ACTIVE, SCL_STATUS_STORM, SCL_STATUS_PKG_FACTOR]

/-- The keys of the present conditions. -/
def liveKeys : List Nat := liveFields.map (·.key)

/-- A field's content outlives a device reset (R9, R48). -/
def keptOverDevice (key : Nat) : Bool :=
  match fieldAt key with
  | some f => f.keep != .volatile || liveKeys.contains key
  | none => false

/-- A field's content outlives a power-on reset (R48). -/
def keptOverPowerOn (key : Nat) : Bool :=
  match fieldAt key with
  | some f => f.keep == .nonvolatile
  | none => false

/-! ### Coins: choices the spec leaves open -/

/-- A free bit for each element of a list, from one draw on (log entry 1). -/
def coins (n : Nat) : Nat → List Bool
  | 0 => []
  | k + 1 => bit (Config.freeValue n).toNat 0 :: coins (n + 1) k

/-! ### Write-back and in-flight store data at a cut (R468, R469) -/

/-- The key of a logical block. -/
def blkKey (ns lba : Nat) : Nat := ns * 2 ^ 32 + lba

/-- A block of 4,096 zero bytes. -/
def zeroBlk : List Byte := List.replicate 4096 0

/-- The key of an erase block that holds data of a namespace. -/
def ebKey (ns eb : Nat) : Nat := ns * 2 ^ 32 + eb

/-- Pages of a namespace are programmed into an erase block: the blocks leave the erase blocks that held them, and the map
has that many changes not yet saved (R458). -/
def program (s : State) (ns : Nat) (lbas : List Nat) (eb : Nat) : State :=
  let strip (e : Nat × EraseBlk) : Nat × EraseBlk :=
    if e.2.ns = ns then (e.1, { e.2 with lbas := e.2.lbas.filter (fun l => !lbas.contains l) }) else e
  let rest := (s.sto.ebs.map strip).filter (fun e => !e.2.lbas.isEmpty)
  let x := (tabFind s.sto.ebs (ebKey ns eb)).getD { ns := ns, lbas := [] }
  let y := { x with lbas := x.lbas.filter (fun l => !lbas.contains l) ++ lbas }
  { s with sto := { s.sto with ebs := tabPut rest (ebKey ns eb) y
                               unsaved := tabMod 0 s.sto.unsaved ns (· + lbas.length) } }

/-- Make one block hold content durably. -/
def putBlk (s : State) (ns lba : Nat) (d : List Byte) : State :=
  { s with sto := { s.sto with blocks := tabPut s.sto.blocks (blkKey ns lba) d } }

/-- Consecutive blocks from an address. -/
def putBlks (s : State) (ns lba : Nat) : List (List Byte) → State
  | [] => s
  | d :: ds => putBlks (putBlk s ns lba d) ns (lba + 1) ds

/-- Consecutive blocks with their addresses. -/
def numbered (lba : Nat) : List (List Byte) → List (Nat × List Byte)
  | [] => []
  | d :: ds => (lba, d) :: numbered (lba + 1) ds

/-- Blocks of a command whose programs have been issued complete to map update: they hold the new content, no older content
waits for them in the buffer, and an erase block, which the spec does not name, maps them (R154, R451). -/
def landBlks (s : State) (ns : Nat) (l : List (Nat × List Byte)) : State :=
  if l.isEmpty then s
  else
    let keys := l.map (fun x => blkKey ns x.1)
    let s1 := l.foldl (fun t x => putBlk t ns x.1 x.2) (freeNext s)
    let d := tabKeep (fun k => !keys.contains k) s1.sto.dirty
    program ({ s1 with sto := { s1.sto with dirty := d } }.wr STO_WB_STATUS_DIRTY d.length) ns (l.map (·.1)) (freeDraw s).toNat

/-- Unmap a range of blocks (R460). -/
def unmap (s : State) (ns lba n : Nat) : State :=
  let out (k : Nat) : Bool := k < blkKey ns lba || blkKey ns (lba + n) ≤ k
  let strip (e : Nat × EraseBlk) : Nat × EraseBlk :=
    (e.1, if e.2.ns = ns then { e.2 with lbas := e.2.lbas.filter (fun l => l < lba || lba + n ≤ l) } else e.2)
  { s with sto := { s.sto with blocks := tabKeep out s.sto.blocks, dirty := tabKeep out s.sto.dirty,
                               ebs := (s.sto.ebs.map strip).filter (fun e => !e.2.lbas.isEmpty) } }

/-- A started store command cut off: each block of a write-through WRITE is old or new, a WRITE_ATOMIC is whole or
absent, a TRIM is done or not, a write-back WRITE not yet completed is old (Table 21.4). Which of the two is open. -/
def cutJob (s : State) (j : StoJob) : State :=
  let cs := coins s.freeCtr j.data.length
  if j.op = 2 ∧ !j.wb then
    landBlks { s with freeCtr := s.freeCtr + j.data.length } j.ns (((numbered j.lba j.data).zip cs).filter (·.2) |>.map (·.1))
  else if j.op = 3 then
    landBlks { s with freeCtr := s.freeCtr + 1 } j.ns (if cs.headD false then numbered j.lba j.data else [])
  else if j.op = 4 then
    if (coins s.freeCtr 1).headD false then unmap { s with freeCtr := s.freeCtr + 1 } j.ns j.lba j.count
    else { s with freeCtr := s.freeCtr + 1 }
  else s

/-- A started store command of a partition that is reset or detached: a write-through WRITE whose program has been issued, and
a WRITE_ATOMIC whose commit record has been issued, completes to map update, and otherwise the blocks keep their previous content
(Table 6.8); which of the two is open. -/
def endJobPart (s : State) (j : StoJob) : State :=
  if (j.op = 2 ∧ !j.wb) ∨ j.op = 3 then
    landBlks (freeNext s) j.ns (if bit (freeDraw s).toNat 0 then numbered j.lba j.data else [])
  else cutJob s j

/-- Every started store command is cut off, and what the controller held is gone. -/
def cutStore (s : State) : State :=
  let s1 := s.sto.jobs.foldl cutJob s
  { s1 with sto := { s1.sto with jobs := [], flushes := [], dirty := [], mounted := [] } }

/-- A power loss affects a namespace: blocks that reached the rescue extent, atomic writes discarded (R459, R473). -/
def affect (s : State) (ns rescued discarded : Nat) : State :=
  let x := tabGet (0, 0, 0) s.sto.affected ns
  let y := tabPut s.sto.affected ns (x.1 + rescued, x.2.1 + discarded, ownerOr0 s 10 ns)
  { s with sto := { s.sto with affected := y } }

/-- A started command cut off by a power loss. -/
def cutJobPf (s : State) (j : StoJob) : State :=
  if j.op < 2 ∨ 4 < j.op then s
  else affect (cutJob s j) j.ns 0 (if j.op = 3 ∧ (coins s.freeCtr 1).headD false = false then 1 else 0)

/-- A write-back block is lost by a power loss. -/
def losePf (s : State) (key : Nat) : State :=
  let ns := key / 2 ^ 32
  let t := affect s ns 0 0
  let lost := tabPut t.sto.pfLostNs ns ((tabGet (0, 0) t.sto.pfLostNs ns).1 + 1, ownerOr0 t 10 ns)
  { t with sto := { t.sto with pfLostNs := lost } }

/-- The store loses its supply without a drain (R86, R468): commands are cut off and write-back blocks are lost. -/
def powerCut (s : State) : State :=
  let s1 := s.sto.jobs.foldl cutJobPf s
  let s2 := s1.sto.dirty.foldl (fun t e => losePf t e.1) s1
  { s2 with sto := { s2.sto with jobs := [], flushes := [], dirty := [], mounted := [] } }

/-- Logical blocks of a namespace (R441, R442), and the free extents. -/
def nsBlocks (x : NsEnt) : Nat := x.extents * (if x.pslc then 18432 else 57344)
def freeExtents (s : State) : Nat := 230 - ((s.sto.ns.filter (fun e => e.1 < 14)).map (fun e => e.2.extents)).sum

/-- STO_NS_INFO, STO_NS_BLOCKS, STO_FREE and STO_NS_WEAR show the selected namespace (Tables 20.9 and 21.7). -/
def showNs (s : State) : State :=
  let n := s.rd STO_NS_SEL_NS
  let x := (tabFind s.sto.ns n).getD ⟨0, false, false, false, false⟩
  let h := tabGet (0, 0, false) s.sto.health n
  let s1 := (s.put STO_NS_INFO_VALID (tabFind s.sto.ns n).isSome).put STO_NS_INFO_CELL x.pslc
  let s2 := ((s1.put STO_NS_INFO_DUR x.journal).put STO_NS_INFO_RET x.counted).put STO_NS_INFO_WB_EN x.wbEn
  let s3 := ((s2.wr STO_NS_INFO_EXTENTS x.extents).wr STO_NS_BLOCKS_BLOCKS (nsBlocks x)).wr STO_FREE_FREE_EXT (freeExtents s)
  ((s3.wr STO_NS_WEAR_STATE h.1).wr STO_NS_WEAR_WEAR (min 255 h.2.1)).put STO_NS_WEAR_SHORT h.2.2

/-! ### The tally's mirror scan (R497, R505) -/

/-- XSEQ of the next record, and the ring slot of an XSEQ. -/
def nextX (s : State) : Nat := s.rd TLY_STATUS_WRAPS * 2 ^ 32 + s.rd TLY_NEXT_NEXT_RSEQ
def ringSlot (x : Nat) : Nat := x % 7168

/-- An absent slot. -/
def erasedPair : TPair := ⟨.erased, .erased⟩

/-- The repair of one slot: its new content, whether it was repaired, and whether both halves are damaged. -/
def repairSlot (p : TPair) : TPair × Bool × Bool :=
  match p.a, p.b with
  | .valid r, .valid q => if r = q then (p, false, false) else (⟨.valid r, .valid r⟩, true, false)
  | .valid r, _ => (⟨.valid r, .valid r⟩, true, false)
  | _, .valid q => (⟨.valid q, .valid q⟩, true, false)
  | .erased, .erased => (p, false, false)
  | .damaged, .damaged => (p, false, true)
  | _, _ => (erasedPair, true, false)

/-- Scan one slot of an area (0 ring, 1 first-fault). -/
def scanSlot (area : Nat) (s : State) (slot : Nat) : State :=
  let t := if area = 0 then s.tly.ring else s.tly.first
  let (p, fixed, bad) := repairSlot (tabGet erasedPair t slot)
  let t' := tabSet erasedPair t slot p
  let s1 := { s with tly := if area = 0 then { s.tly with ring := t' } else { s.tly with first := t' } }
  let s2 := if fixed then s1.bump TLY_CNT1_MIRROR_FIX 1 else s1
  if bad then raise s2 98 true [0] ([byte area, 1] ++ leBytes 2 slot) else s2

/-- The last 16 written slots of each area are compared and repaired, and SCAN_DONE is set (R505). -/
def mirrorScan (s : State) : State :=
  let n := nextX s
  let f := s.rd TLY_STATUS_FF_COUNT
  let ring := (List.range (min n 16)).map (fun i => ringSlot (n - min n 16 + i))
  let first := (List.range (min f 16)).map (fun i => f - min f 16 + i)
  (first.foldl (scanSlot 1) (ring.foldl (scanSlot 0) s)).put TLY_STATUS_SCAN_DONE true

/-! ### The limp table (R59, R207, R209, R211) -/

/-- Channels that stand for themselves: the governing member of each pair. -/
def governing (s : State) : List Chan := allChans.filter (fun c => !isSlave s c)

/-- A channel that the limp table does not name is off (R30, R59); a safety hold on it stays, and a half-bridge that
brakes finishes its brake. -/
def limpUnnamed (s : State) (c : Chan) : State :=
  let x := chn s c
  if x.safe != .none || x.braking then s
  else
    let s1 := if c.kind = 2 then bridgeOff s c else switchTo (abortKerf s c) c .off
    setChn s1 c { chn s1 c with cmd := .off, retry := none, orphan := 0, orphanDue := false,
                                kept := false, wait := none }

/-- One entry acts as the table is applied. A half-bridge that brakes under R30 takes its level only when the brake
ends, and its drive not at all (R33); a drive sequence that runs continues when the table is applied again (R211). -/
def limpEntryApply (fresh : Bool) (s : State) (e : LimpEntry) : State :=
  let c := master s e.ch
  let x := chn s c
  if x.braking || (!fresh && (x.limpDrive == .drive || x.limpDrive == .brake)) then s
  else limpEntryAct s fresh e

/-- The limp controller applies the active table: the CHECK of its copy, the committed pairing, every claim's end, each
named channel's action and every other channel off. Without a table, or with a bad copy, every output is off. Drives
run for triggers already true only when the table was not applied before (R209). -/
def limpApply (s : State) : State :=
  let fresh := !limpActive s || s.act.parked
  let bad := match storedCopy s with | some c => !c.good | none => false
  let s0 := { s.put SPR_STATUS_LIMP_ACTIVE true with act := { s.act with interim := false, parked := false } }
  let s1 := if bad then
      tally (freeNext s0) 12 ([byte (s.rd ACT_LIMP_INFO_COPY), 0, 0, 0] ++ leBytes 4 (freeDraw s0).toNat)
    else s0
  let s2 := s1.act.claims.foldl endClaim s1
  let s3 := ((governing s2).filter (fun c => !limpNamed s2 c)).foldl limpUnnamed s2
  match activeCopy s3 with
  | some t => t.entries.foldl (limpEntryApply fresh) s3
  | none => s3

/-- The interim state of R30 for one channel: HS, LED and FIO hold, half-bridges in motion brake (a safety reversal
included, R33), a solenoid named in the table keeps its state and every other one goes off. -/
def interim1 (s : State) (c : Chan) : State :=
  match c.kind with
  | 2 =>
    let x := chn s c
    let rev := x.safe == .reverse
    bridgeRest (if rev then setRev (setSafe s c .none) c 0 else s) c (rev || x.wait.isSome)
  | 3 => if limpNamed s c then s else switchTo (abortKerf s c) c .off
  | _ => s

/-- A sequence ends without a record. -/
def dropSeqs (p : SeqRun → Bool) (s : State) : State :=
  (s.act.seqs.filter p).foldl (fun t q => dropWork t ACT q.job.hdr)
    { s with act := { s.act with seqs := s.act.seqs.filter (fun q => !p q) } }

/-- Outputs enter the interim state; running jobs and sequences end without records (R30, R212). -/
def interim (s : State) : State :=
  let s1 := allChans.foldl dropJob (dropSeqs (fun _ => true) s)
  let s2 := (governing s1).foldl interim1 s1
  { s2 with act := { s2.act with interim := true, lane := [] } }

/-! ### Device reset (R48, Table 2.3) -/

/-- What a device reset leaves of a channel: the power die runs on, descriptors in flight are gone, budgets end with
the layout, and an LED's level is its default again (R271). -/
def chnAfterReset (x : Chn) : Chn :=
  { x with job := none, wait := none, budCeil := 100, level := none, orphan := 0, orphanDue := false, kept := false, retries := 0 }

/-- What a device reset leaves of the buses: a transceiver that sleeps stays asleep until ONLINE (R384). -/
def busesAfterReset (x : SubState) : SubState :=
  { can := (x.can.filter (fun e => e.2.asleep)).map (fun e => (e.1, { asleep := true }))
    lin := (x.lin.filter (fun e => e.2.asleep)).map (fun e => (e.1, { asleep := true })) }

/-- The control die and the link die outside its island are cleared, with SRAM, the seal, all partitions and every
register field not marked "(spar)"; the spar domain, the power die's outputs, MRAM, fuses and the store are kept. Claims end by
R203 first, since the limp table is applied (R212). POS_DUP goes with the CD's state (log entry 94). -/
def deviceReset (s0 : State) : State :=
  let s1 := cutStore (s0.act.claims.foldl endClaim s0)
  let s := s1.wr SEC_KEY_STATE_FILLED (s1.rd SEC_KEY_STATE_FILLED % 65536)
  showNs <| showStreams <| showHeld { s with
    regs := tabKeep keptOverDevice s.regs
    latches := []
    mem := []
    dt := { s.dt with on := false, frac := 0, ppm := 0, slew := 0, slewing := false, stepped := 0 }
    pwr := { s.pwr with entry := none, wakeAfter := none, cores := [], unzeroed := [], shadow := false, sleeps := [],
                        kept := [], owed := [], wakeBy := none, bootDone := false }
    par := {}
    rng := {}
    evt := { s.evt with parts := [] }
    chain := { s.chain with cruised := false, pendingAddr := none, posDup := false, assigned := false,
                            announceDue := true, proxies := [], nextReq := 0,
                            gmPort := none }
    act := { s.act with grants := [], claims := [], seqs := [], lane := [], staged := none, commitDue := false }
    chs := (s.chs.map (fun e => (e.1, chnAfterReset e.2))).filter (fun e => e.2 != {})
    scl := { s.scl with budgets := [], pinned := false, clean := 0, loss := [], lossParts := [] }
    sns := { s.sns with streams := [] }
    sw := {}
    sub := busesAfterReset s.sub
    brd := {}
    inf := {}
    sto := { s.sto with lost := false }
    sec := { s.sec with keys := tabKeep (· < 16) s.sec.keys, writers := [], held := [], fails := 0,
                        nonce := none, dbgFails := 0, failAt := none, faulty := [] }
    flt := { lost := s.flt.lost.filter (· == 2) } }

/-- The LINK buck goes off: the link die outside its island stops, with its links and the bypass, and the chain is cut at
this unit (R18, R31, Table 1.7). -/
def linkOff (s : State) : State :=
  { s.put CHN_BYPASS_ACTIVE false with
    pwr := { s.pwr with ldUp := false }
    chain := { s.chain with up0 := false, up1 := false, cut := true } }

/-! ### Loss of the control die (R21, R29, R134, R522 to R524) -/

/-- RTC time elapsed since an RTC value, modulo 2^48. -/
def rtcSince (s : State) (t : Nat) : Nat := (rtc s + 2 ^ 48 - t) % 2 ^ 48

/-- The losses that still fall within the last 600 s of RTC time (R523). -/
def freshLosses (s : State) : List Nat := s.spar.losses.filter (fun t => rtcSince s t ≤ 600 * 32768)

/-- A counted loss joins the loss record; LOSS_LIMIT of them set HALTED and write CD_HALTED (R523, R525). -/
def countCdLoss (s : State) : State :=
  let l := freshLosses s ++ [rtc s]
  let s1 := ({ s with spar := { s.spar with losses := l } }).wr EVT_CDLOSS_LOSSES (min l.length 255)
  if l.length ≥ s.rd EVT_CDLOSS_LOSS_LIMIT then
    tally (s1.put EVT_CDLOSS_HALTED true) 34 ([byte (min l.length 255), 0] ++ leBytes 6 (l.headD 0))
  else s1

/-- A REMOTE partition is detached because the control die is lost: its proxy is gone, and REMOTE_DETACH waits on the
power die (R134, R524). Its channels follow R30, not their orphan states. -/
def detachLost (s : State) (p : Nat) : State :=
  if attached s p then
    let x := proxyOf s p
    let n := x.unacked.length + x.waiting.length
    holdEvent ((setProxy (s.wr CHN_ATTACH_ATTACHED (s.rd CHN_ATTACH_ATTACHED - 2 ^ p)) p {}).wr (PAR_STATE_STATE p) 3)
      0 45 true ([byte p, 5] ++ leBytes 2 n)
  else s

/-- The power die declares the control die lost with a cause of tally type 9: 1 link silence, 2 CORE PGOOD, 3 control
watchdog. Nothing on the control die goes on; the outputs enter the interim state; the watchdog stops (R55). A loss
that a commanded device reset or a power-loss sequence causes is not counted (R523, R527). -/
def controlLost (s : State) (cause : Nat) : State :=
  if s.pwr.cd == .lost || s.pwr.cd == .off then s
  else
    let s0 := tally s 9 [byte cause]
    let s1 : State :=
      { s0 with pwr := { s0.pwr with cd := .lost, armed := false, entry := none, ps := .run }
                spar := { s0.spar with wdgOn := false, wdgWarned := false, lossCause := cause, lossRtc := rtc s,
                                       restoreDue := true }
                rng := { s0.rng with work := [] }
                sns := { s0.sns with streams := [] } }
    let s2 := interim (emit (showStreams s1) .controlLost)
    let s3 := (List.range 8).foldl detachLost s2
    if s.spar.commanded || s.sto.failing then s3 else countCdLoss s3

/-- A device reset that a command asks for: its bit of SPR_RST_CAUSE, then, when a control die runs, the reset itself,
which takes the link down, so that the power die declares the die lost by link silence (R49, R51). -/
def commandReset (s : State) (causeBit : Nat) : State :=
  let s1 := s.orF SPR_RST_CAUSE_CAUSE (2 ^ causeBit)
  if cdUp s then
    deviceReset (controlLost { s1 with spar := { s1.spar with commanded := true } } 1)
  else s1

/-! ### Spar reset (R48, R49, R65, R97) -/

/-- The spar firmware is reset: wake arming and cyclic-sense state clear, DT becomes FREE, and the tally is scanned.
The control die and the outputs keep running. -/
def sparReset (s : State) : State :=
  let s1 : State :=
    { s with spar := { s.spar with up := false, firstStart := true, dtEntry := 0, rtcEntry := 0 }
             sns := { s.sns with captured := none, confirm := [] } }
  let s2 := ((s1.wr WAK_ARM_SRC 0).wr WAK_BUS_EN_BUS 0).wr WAK_SI_EN_SI 0
  mirrorScan ((s2.wr SPR_DT_STATUS_STATE 0).put TLY_STATUS_SCAN_DONE false)

/-! ### Power-on reset (R48, R86) -/

/-- Everything volatile, the RTC and every "(spar)" field are cleared; MRAM, fuses and the store keep their content.
The power-on wake sequence starts, and the POWER_ON record waits with VSPAR in millivolts. -/
def powerOn (s0 : State) (mv : Nat) : State :=
  let s1 := powerCut s0
  let s := s1.wr SEC_KEY_STATE_FILLED (s1.rd SEC_KEY_STATE_FILLED % 65536)
  let r : State :=
    { State.reset with
      pending := s.pending
      freeCtr := s.freeCtr
      regs := tabKeep keptOverPowerOn s.regs
      act := { copy0 := s.act.copy0, copy1 := s.act.copy1 }
      tly := { s.tly with queue := [] }
      sto := { ns := s.sto.ns, blocks := s.sto.blocks, ebs := s.sto.ebs, health := s.sto.health,
               affected := s.sto.affected, unsaved := s.sto.unsaved,
               pfResult := if s.sto.failing then 2 else s.sto.pfResult, pfDrained := s.sto.pfDrained,
               pfLost := s.sto.pfLost, pfLostNs := s.sto.pfLostNs, pfTime := s.sto.pfTime }
      sec := { keys := tabKeep (· < 16) s.sec.keys }
      upd := s.upd
      out := s.out }
  tally (mirrorScan (((showNs r).wr SPR_RST_CAUSE_CAUSE 1).put TLY_STATUS_SCAN_DONE false)) 1 ([1, 0] ++ leBytes 2 mv)

end Sys2Proof.Machine
end

