-- ==== Sys2Proof/Machine/Operands.lean ====
section
/-! DEFINITION.
How a word written to a configuration-space register acts on the register's fields, and what a read returns
(R6 to R9, R66, R569, R570, R573): the forms that every register-write command shares.
-/

namespace Sys2Proof.Machine

/-- A register reached by an offset: its description, the offset of its first word, and whether the offset is that of
its `_HI` word. -/
def regHit (off : Nat) : Option (RegDesc × Nat × Bool) :=
  match (regBlock (off / 0x10000)).find? (fun r => r.off ≤ off && dimHit r.dims (off - r.off)) with
  | some r => some (r, off, false)
  | none =>
    ((regBlock (off / 0x10000)).find? (fun r => r.hi != 0 && r.off + r.hi ≤ off
      && dimHit r.dims (off - r.hi - r.off))).map (fun r => (r, off - r.hi, true))

/-- The register field that a description names at an offset. -/
def fieldOf (base : Nat) (f : FieldDesc) : Field := ⟨base, f.lsb, f.width, f.reset⟩

/-- The bits of a word that fall on a field: of the low word, or of the `_HI` word of a pair. A field that lies in the
other word takes none. -/
def wordBits (f : FieldDesc) (hiWord : Bool) (v : Nat) : Nat :=
  if hiWord then (if f.lsb + f.width ≤ 32 then 0
    else if f.lsb ≥ 32 then bits v (f.lsb - 32 + f.width - 1) (f.lsb - 32)
    else bits v (f.lsb + f.width - 33) 0)
  else (if f.lsb ≥ 32 then 0 else bits v (min 31 (f.lsb + f.width - 1)) f.lsb)

/-- Does a word reach a field at all? -/
def reaches (f : FieldDesc) (hiWord : Bool) : Bool := if hiWord then f.lsb + f.width > 32 else f.lsb < 32

/-- The value a field would have after a word is written to it: in a pair, the other half keeps its bits. -/
def merged (f : FieldDesc) (hiWord : Bool) (old v : Nat) : Nat :=
  let b := wordBits f hiWord v
  if f.lsb ≥ 32 ∨ f.lsb + f.width ≤ 32 then b
  else if hiWord then old % 2 ^ (32 - f.lsb) + b * 2 ^ (32 - f.lsb)
  else old / 2 ^ (32 - f.lsb) * 2 ^ (32 - f.lsb) + b

/-- A value outside a field's range is taken as the nearest limit, and some values are taken as another. -/
def takenAs (f : FieldDesc) (v : Nat) : Nat :=
  match f.taken.find? (fun t => t.1 ≤ v && v ≤ t.2.1) with
  | some t => t.2.2
  | none => clamp f.lo f.hi v

/-- What a write makes of one field by its access code (Table 0.3), before seal rules. -/
def written (f : FieldDesc) (hiWord : Bool) (old v : Nat) : Nat :=
  match f.acc with
  | .rw => takenAs f (merged f hiWord old v)
  | .rws => takenAs f (merged f hiWord old v)
  | .w1c => old - (old &&& wordBits f hiWord v)
  | .w1s => old ||| wordBits f hiWord v
  | _ => old

/-- One field takes a write: a sealed unit's RWS fields keep their values (R8). -/
def writeField (base : Nat) (hiWord : Bool) (v : Nat) (s : State) (f : FieldDesc) : State :=
  if !reaches f hiWord then s
  else if f.acc == .rws && isSealed s then s
  else if f.acc == .ro || f.acc == .rc || f.acc == .wo then s
  else s.wr (fieldOf base f) (written f hiWord (s.rd (fieldOf base f)) v)

/-- The write would change an RWS field of a sealed unit, which counts once (R8). -/
def sealBreach (s : State) (base : Nat) (hiWord : Bool) (v : Nat) (r : RegDesc) : Bool :=
  isSealed s && r.fields.any (fun f => f.acc == .rws && reaches f hiWord
    && merged f hiWord (s.rd (fieldOf base f)) v != s.rd (fieldOf base f))

/-- A register with no writable field: a write is ignored and counted (Table 28.3, code o). The table states the count for the
time after seal; before seal it is the model's choice (log entry 98). -/
def statusOnly (r : RegDesc) : Bool := r.fields.all (fun f => f.acc == .ro || f.acc == .rc)

/-- P0 writes a word to a register: every field takes it by its access code. -/
def writeWord (s : State) (off v : Nat) : State :=
  match regHit off with
  | none => violate s
  | some (r, base, hiWord) =>
    if statusOnly r then violate s
    else
      let s1 := if sealBreach s base hiWord v r then violate s else s
      r.fields.foldl (writeField base hiWord v) s1

/-- A field of a word about to be written, as the command's own rule reads it. -/
def fieldIn (f : Field) (v : Word) : Nat := bits v.toNat (f.lsb + f.width - 1) f.lsb

/-- The word that a read of a register returns (Table 0.3, R6). -/
def readWord (s : State) (r : RegDesc) (base : Nat) (hiWord : Bool) : Nat :=
  r.fields.foldl (fun a f =>
    if f.acc == .wo then a
    else if hiWord then
      a + (if f.lsb ≥ 32 then s.rd (fieldOf base f) * 2 ^ (f.lsb - 32)
           else s.rd (fieldOf base f) / 2 ^ (32 - f.lsb)) % 2 ^ 32
    else a + (if f.lsb ≥ 32 then 0 else s.rd (fieldOf base f) * 2 ^ f.lsb % 2 ^ 32)) 0

/-- The RC fields that a read reaches clear (R7); a field split over a pair clears with its low word. -/
def clearRead (s : State) (r : RegDesc) (base : Nat) (hiWord : Bool) : State :=
  r.fields.foldl (fun t f =>
    if f.acc == .rc && (if hiWord then f.lsb ≥ 32 else f.lsb < 32) then t.wr (fieldOf base f) 0 else t) s

/-! ### Descriptor bodies (R175) -/

/-- A body byte that the opcode's layout does not list is not zero. -/
def bodyDirty (b : List Byte) (listed : List Nat) : Bool :=
  (List.range 48).any (fun i => !listed.contains (16 + i) && leAt b (16 + i) 1 != 0)

end Sys2Proof.Machine
end

