-- ==== Sys2Proof/Machine/Flags.lean ====
section
/-! DEFINITION.
CRC-32C, and the flags and check values of brands (R208, R395 to R403): what the images, records and frames of the
device are stamped with.
-/

namespace Sys2Proof.Machine

/-! ### CRC-32C (Castagnoli, reflected) -/

/-- One bit of the reflected CRC. -/
def crcBit (c : BitVec 32) : BitVec 32 := if c.getLsbD 0 then (c >>> 1) ^^^ 0x82F63B78#32 else c >>> 1

/-- One byte of the reflected CRC. -/
def crcByte (c : BitVec 32) (b : Byte) : BitVec 32 :=
  crcBit (crcBit (crcBit (crcBit (crcBit (crcBit (crcBit (crcBit (c ^^^ b.setWidth 32))))))))

/-- The CRC over bytes from a running value. -/
def crcFrom (c : BitVec 32) (l : List Byte) : BitVec 32 := l.foldl crcByte c

/-- CRC-32C with an initial value and the standard final XOR. -/
def crc32cInit (init : BitVec 32) (l : List Byte) : Nat := (crcFrom init l ^^^ 0xFFFFFFFF#32).toNat

/-- CRC-32C (R208, R399). -/
def crc32c (l : List Byte) : Nat := crc32cInit 0xFFFFFFFF#32 l

/-! ### Brands (Tables 18.1 to 18.4) -/

/-- A brand's fields. -/
structure Brand where
  stream : Nat
  flags : Nat
  hops : Nat
  seq : Nat
  time : Nat
  len : Nat
  check : Nat
  deriving DecidableEq, Repr

/-- FLAGS of Table 18.2. -/
def brandFlags (dts : Nat) (gap lin step first : Bool) : Nat :=
  dts + (if gap then 4 else 0) + (if lin then 8 else 0) + (if step then 16 else 0) + (if first then 32 else 0)

/-- Bytes 0 to 19 in network order (R399). -/
def brandNet20 (b : Brand) : List Byte :=
  beBytes 2 b.stream ++ [byte b.flags, byte b.hops] ++ beBytes 4 b.seq ++ beBytes 8 b.time ++ beBytes 3 b.len ++ [0]

/-- The whole brand in network order. -/
def brandNet (b : Brand) : List Byte := brandNet20 b ++ beBytes 4 b.check

/-- The whole brand in memory order (R395). -/
def brandMem (b : Brand) : List Byte :=
  leBytes 2 b.stream ++ [byte b.flags, byte b.hops] ++ leBytes 4 b.seq ++ leBytes 8 b.time ++ leBytes 3 b.len ++ [0]
    ++ leBytes 4 b.check

/-- A brand read from memory order, and its reserved byte. -/
def brandOfMem (l : List Byte) : Brand :=
  ⟨leAt l 0 2, leAt l 2 1, leAt l 3 1, leAt l 4 4, leAt l 8 8, leAt l 16 3, leAt l 20 4⟩

/-- A brand read from network order. -/
def brandOfNet (l : List Byte) : Brand :=
  ⟨beAt l 0 2, beAt l 2 1, beAt l 3 1, beAt l 4 4, beAt l 8 8, beAt l 16 3, beAt l 20 4⟩

/-- CHECK over the brand, its extension in network order and the stamped data (R399). -/
def brandCheck (b : Brand) (ext data : List Byte) : Nat := crc32c (brandNet20 b ++ ext ++ data)

/-- A brand with its CHECK. -/
def stamp (b : Brand) (ext data : List Byte) : Brand := { b with check := brandCheck b ext data }

/-- The lineage extension (Table 18.4) in network and in memory order. -/
def linNet (ltag nin lflags age : Nat) : List Byte := beBytes 4 ltag ++ [byte nin, byte lflags] ++ beBytes 2 age
def linMem (ltag nin lflags age : Nat) : List Byte := leBytes 4 ltag ++ [byte nin, byte lflags] ++ leBytes 2 age

/-- LTAG over the input brands in the job's order (R402). -/
def ltag (bs : List Brand) : Nat :=
  crc32c (bs.flatMap (fun b => beBytes 2 b.stream ++ beBytes 4 b.seq ++ beBytes 4 b.check))

/-- The format and check tests that open R405: reserved bits, DTS, the reserved byte, LEN and CHECK. -/
def brandSound (b : Brand) (resByte : Nat) (ext data : List Byte) : Bool :=
  b.flags < 64 && b.flags % 4 != 3 && resByte == 0 && data.length == b.len && brandCheck b ext data == b.check

/-- The causes of Table 18.5. -/
abbrev BAD_CHECK : Nat := 1
abbrev GAP : Nat := 2
abbrev REORDER : Nat := 3
abbrev STALE : Nat := 4
abbrev LINEAGE : Nat := 6
abbrev ORIGIN : Nat := 7
abbrev TIMEOUT : Nat := 8
abbrev MISMATCH : Nat := 9
abbrev NO_INPUT : Nat := 10
abbrev THRESHOLD : Nat := 11

/-- Count a cause in BRD_CNT; the causes without a counter there count nowhere (Table 18.10). -/
def countCause (s : State) (cause : Nat) : State :=
  match cause with
  | 1 => s.bump BRD_CNT0_BAD_CHECK 1
  | 2 => s.bump BRD_CNT0_GAP 1
  | 3 => s.bump BRD_CNT1_REORDER 1
  | 4 => s.bump BRD_CNT1_STALE 1
  | 6 => s.bump BRD_CNT2_LINEAGE 1
  | 7 => s.bump BRD_CNT2_ORIGIN 1
  | 9 => s.bump BRD_CNT3_MISMATCHES 1
  | _ => s

/-- BRAND_FAULT to the owner of the context or tunnel and to P0 (R406, R417): check point 1 hand-off, 2 comparator,
3 tunnel. GAP and THRESHOLD neither count nor raise it, but that a tunnel counts a GAP it accepts (Table 18.5). -/
def brandFault (s : State) (point cause owner stream seq : Nat) : State :=
  if cause = GAP then (if point = 3 then countCause s cause else s)
  else if cause = THRESHOLD then s
  else raise (countCause s cause) 68 true [owner, 0] ([byte point, byte cause] ++ leBytes 2 stream ++ leBytes 4 seq)

/-- The status of device time: 0 FREE, 1 COARSE, 2 SYNC (Table 2.1). -/
def dtStatus (s : State) : Nat := s.rd SPR_DT_STATUS_STATE

/-- Device time without its steps: the elapsed timer of R401, up to a constant. -/
def elapsedNs (s : State) : Int := (dtNow s : Int) - s.dt.stepped

end Sys2Proof.Machine
end

