-- ==== Sys2Proof/Machine/Buffer.lean ====
section
/-! DEFINITION.
The switch's cell buffer (R346 to R348, R352): what admitting and freeing do.
-/

namespace Sys2Proof.Machine

/-- A counter that is loss for the scaler (R348). -/
def swDrop (s : State) (ctr port cls n : Nat) (parts : List Nat) : State := countLoss (swCount s ctr port cls n) 0 n parts

/-- The frames queued for a port and class. -/
def queueOf (s : State) (port cls : Nat) : List QFrame := tabGet [] s.sw.queues (port * 8 + cls)

/-- Cells in use, by rule of R347. -/
def cellsUsed (s : State) (f : QFrame → Nat) : Nat := (s.sw.queues.map (fun e => (e.2.map f).sum)).sum

/-- FREE_CELLS and MIN_FREE follow the buffer. -/
def showCells (s : State) : State :=
  let free := 4096 - cellsUsed s (fun q => q.guar + q.pool + q.res)
  (s.wr SW_BUF_STATUS_FREE_CELLS free).wr SW_BUF_STATUS_MIN_FREE (min free (s.rd SW_BUF_STATUS_MIN_FREE))

/-- Set the frames of a queue. -/
def setQueue (s : State) (port cls : Nat) (l : List QFrame) : State :=
  showCells { s with sw := { s.sw with queues := tabSet [] s.sw.queues (port * 8 + cls) l } }

/-- The guaranteed cells of a class and the safety reserve: the reset values of both when the fields ask for too much
(R346). -/
def guarCells (s : State) (cls : Nat) : Nat :=
  if s.flag SW_BUF_CFG_GUAR_ERR then (if cls = 6 then 16 else 8) else 4 * s.rd (SW_BUF_GUAR_GUAR cls)
def resCells (s : State) : Nat := if s.flag SW_BUF_CFG_GUAR_ERR then 128 else 4 * s.rd SW_BUF_CFG_SAF_RES

/-- GUAR_ERR follows the two fields. -/
def showGuar (s : State) : State :=
  s.put SW_BUF_CFG_GUAR_ERR (3584 < 8 * ((List.range 8).map (fun c => 4 * s.rd (SW_BUF_GUAR_GUAR c))).sum
    + 4 * s.rd SW_BUF_CFG_SAF_RES)

/-- The cells of the shared pool. -/
def poolCells (s : State) : Nat := 4096 - 8 * ((List.range 8).map (guarCells s)).sum - resCells s

/-- Cells of a copy of so many bytes, FCS included. -/
def cellsFor (bytes : Nat) : Nat := (bytes + 255) / 256

/-- The first rule of R347 that has room: the cells taken from guaranteed, shared and reserve space. -/
def admitBy (s : State) (port cls n : Nat) (safe : Bool) : Option (Nat × Nat × Nat) :=
  let q := queueOf s port cls
  if (q.map (·.guar)).sum + n ≤ guarCells s cls then some (n, 0, 0)
  else if (q.map (·.pool)).sum + n ≤ s.rd SW_BUF_CFG_SHARE_MAX ∧ cellsUsed s (·.pool) + n ≤ poolCells s then some (0, n, 0)
  else if safe ∧ cellsUsed s (·.res) + n ≤ resCells s then some (0, 0, n)
  else none

/-! ### The gate schedule (R351) -/

/-- The entries of a port's gate list within its cycle: end and gates of each (R351). -/
def gateList (s : State) (p : Nat) : List (Nat × Nat) :=
  let n := s.rd (SW_GATE_CFG_LEN p)
  let cyc := s.rd (SW_GATE_CYCLE_CYCLE p)
  let r := (List.range n).foldl (fun (a : Nat × List (Nat × Nat)) e =>
    if cyc ≤ a.1 then a
    else
      let t := if e + 1 = n then cyc else min cyc (a.1 + s.rd (SW_GCL1_INTERVAL p e))
      (t, a.2 ++ [(t, s.rd (SW_GCL0_GATES p e))])) (0, [])
  r.2

/-- The gates of a port govern it now. -/
def gated (s : State) (p : Nat) : Bool :=
  p < 2 && s.flag (SW_GATE_CFG_GATE_EN p) && !(s.flag (SW_GATE_CFG_NOSYNC p) && dtStatus s != 2)
    && decide (s.rd (SW_GATE_BASE_BASE p) ≤ dtNow s)

/-- The entry of a port's list that (DT − BASE) mod CYCLE falls in, and the device time at which it ends. -/
def gateByTime (s : State) (p : Nat) : Option (Nat × Nat) :=
  let ph := (dtNow s - s.rd (SW_GATE_BASE_BASE p)) % max 1 (s.rd (SW_GATE_CYCLE_CYCLE p))
  let l := gateList s p
  ((List.range l.length).find? (fun e => ph < (l.getD e (0, 0)).1)).map (fun e => (e, dtNow s + ((l.getD e (0, 0)).1 - ph)))

/-- The entry in effect: the one in progress until it ends, and then the one of the present device time. -/
def gateNow (s : State) (p : Nat) : Option (Nat × Nat) :=
  match (tabFind s.sw.gates p).filter (fun x => dtNow s < x.2) with
  | some x => some x
  | none => gateByTime s p

/-- At a step of device time the entry in progress completes in elapsed time: its end moves with the step (R351). -/
def stepGates (s : State) (offset : Int) : State :=
  [0, 1].foldl (fun t p => match if gated s p then gateNow s p else none with
    | some (e, x) => { t with sw := { t.sw with gates := tabPut t.sw.gates p (e, intBits 64 ((x : Int) + offset)) } }
    | none => t) s

/-- Frames waiting at the host port for a partition that resets or detaches are dropped and counted (R353). -/
def dropHost (s : State) (p : Nat) : State :=
  (List.range 8).foldl (fun t c =>
    let q := queueOf t 6 c
    let hit := q.filter (fun f => f.owner == some p)
    if hit.isEmpty then t
    else swDrop (setQueue t 6 c (q.filter (fun f => f.owner != some p))) 10 0 p hit.length [p]) s

end Sys2Proof.Machine
end

