-- ==== Sys2Proof/Machine/Parser.lean ====
section
/-! DEFINITION.
The frame parser (R355 to R360) and the classification rules (R361 to R363). A frame is its bytes from the destination
address on, without FCS.
-/

namespace Sys2Proof.Machine

/-- What the parser has recorded of a frame. -/
structure Parsed where
  etype : Nat
  proto : Option Nat := none
  dscp : Option Nat := none
  dport : Option Nat := none
  trunc : Bool := false
  mal : Bool := false
  /-- the ACF chain of R359 contradicts itself, so the frame is dropped -/
  acf : Bool := false
  deriving DecidableEq, Repr

/-- A TPID the parser follows. -/
def isTpid (t : Nat) : Bool := t == 0x8100 || t == 0x88A8

/-- A frame whose length fields disagree: only its EtherType stands (R358). -/
def malformed (r : Parsed) : Parsed := { etype := r.etype, mal := true }

/-- The parser stops before a header: what has been recorded stands, PROTO does not (Table 16.2). -/
def truncated (r : Parsed) : Parsed := { r with trunc := true, proto := none }

/-- A header of that size at that place ends beyond byte 128, or beyond the frame. -/
def beyond (f : List Byte) (at_ size : Nat) : Bool := 128 < at_ + size || f.length < at_ + size

/-- UDP and TCP (R356, R358): `pay` is the L3 payload. -/
def parseL4 (f : List Byte) (at_ pay : Nat) (r : Parsed) : Parsed :=
  match r.proto with
  | some 17 =>
    if 128 < at_ + 8 ∨ pay < 6 then truncated r
    else if beAt f (at_ + 4) 2 < 8 ∨ pay < beAt f (at_ + 4) 2 then malformed r
    else { r with dport := some (beAt f (at_ + 2) 2) }
  | some 6 =>
    if 128 < at_ + 20 ∨ pay < 13 then truncated r
    else
      let off := leAt f (at_ + 12) 1 / 16
      if off < 5 ∨ pay < 4 * off then malformed r
      else if pay < 20 then truncated r
      else { r with dport := some (beAt f (at_ + 2) 2) }
  | _ => r

/-- IPv4 (Table 16.3); a fragment with an offset ends at L3. -/
def parseV4 (f : List Byte) (at_ : Nat) (r : Parsed) : Parsed :=
  let present := f.length - at_
  let ihl := leAt f at_ 1 % 16
  let total := beAt f (at_ + 2) 2
  if present < 4 then truncated r
  else if leAt f at_ 1 / 16 ≠ 4 ∨ ihl < 5 ∨ total < 4 * ihl ∨ present < total then malformed r
  else
    let r1 := { r with dscp := some (leAt f (at_ + 1) 1 / 4), proto := some (leAt f (at_ + 9) 1) }
    if beAt f (at_ + 6) 2 % 8192 ≠ 0 then r1 else parseL4 f (at_ + 4 * ihl) (total - 4 * ihl) r1

/-- The IPv6 extension headers the parser follows. -/
def isExt (n : Nat) : Bool := n == 0 || n == 43 || n == 44 || n == 60

/-- Up to three IPv6 extension headers, `n` being those still allowed; `next` is the header found at a place with so
much payload left. -/
def parseExt (f : List Byte) : Nat → Nat → Nat → Nat → Parsed → Parsed
  | 0, next, at_, pay, r => if isExt next then truncated r else parseL4 f at_ pay { r with proto := some next }
  | n + 1, next, at_, pay, r =>
    if !isExt next then parseL4 f at_ pay { r with proto := some next }
    else
      let size := (leAt f (at_ + 1) 1 + 1) * 8
      if pay < 2 then malformed r
      else if 128 < at_ + size then truncated r
      else if pay < size then malformed r
      else parseExt f n (leAt f at_ 1) (at_ + size) (pay - size) r

/-- IPv6 (Table 16.3). -/
def parseV6 (f : List Byte) (at_ : Nat) (r : Parsed) : Parsed :=
  let present := f.length - at_
  let pay := beAt f (at_ + 4) 2
  if present < 6 then truncated r
  else if leAt f at_ 1 / 16 ≠ 6 ∨ pay = 0 ∨ present < 40 + pay then malformed r
  else parseExt f 3 (leAt f (at_ + 6) 1) (at_ + 40) pay { r with dscp := some (beAt f at_ 2 / 64 % 64) }

/-- The length in bytes of the ACF message at a place (9 bits of quadlets). -/
def acfLen (f : List Byte) (at_ : Nat) : Nat := 4 * (beAt f at_ 2 % 512)

/-- The messages sum exactly to the data length, and none states a length of 0 (R359). -/
def acfSound (f : List Byte) : Nat → Nat → Nat → Bool
  | 0, _, left => left == 0
  | n + 1, at_, left =>
    if left = 0 then true
    else
      let k := acfLen f at_
      if k = 0 ∨ left < k then false else acfSound f n (at_ + k) (left - k)

/-- The AVTP subtypes of R359 (IEEE 1722). -/
abbrev TSCF : Nat := 0x05
abbrev NTSCF : Nat := 0x82

/-- AVTP (Tables 16.1 and 16.3, R359). -/
def parseAvtp (f : List Byte) (at_ : Nat) (r : Parsed) : Parsed :=
  let present := f.length - at_
  let sub := leAt f at_ 1
  let size := if sub = TSCF then 24 else if sub = NTSCF then 12 else 4
  if beyond f at_ size then truncated r
  else if sub = TSCF ∨ sub = NTSCF then
    let len := if sub = TSCF then beAt f (at_ + 20) 2 else beAt f (at_ + 1) 2 % 2048
    { r with acf := present < size + len || len % 4 != 0 || !acfSound f (len / 4 + 1) (at_ + size) len }
  else if present < 4 + beAt f (at_ + 2) 2 % 2048 then malformed r
  else r

/-- The headers after the tags, by EtherType. -/
def parseL3 (f : List Byte) (at_ : Nat) (etype : Nat) : Parsed :=
  let r : Parsed := { etype := etype }
  match etype with
  | 0x0800 => parseV4 f at_ r
  | 0x86DD => parseV6 f at_ r
  | 0x22F0 => parseAvtp f at_ r
  | _ => r

/-- The parser: at most two tags, then what they lead to; a third TPID stops it at L2. -/
def parse (f : List Byte) : Parsed :=
  let t0 := beAt f 12 2
  if !isTpid t0 then parseL3 f 14 t0
  else
    let t1 := beAt f 16 2
    if !isTpid t1 then parseL3 f 18 t1
    else
      let t2 := beAt f 20 2
      if isTpid t2 then truncated { etype := t2 } else parseL3 f 22 t2

/-! ### Classification rules (R361, R362) -/

/-- Every condition of a rule matches. -/
def ruleHits (s : State) (port vid : Nat) (k : Parsed) (r : Nat) : Bool :=
  let et := s.rd (SW_RULE1_ETYPE r)
  let lo := s.rd (SW_RULE2_DPORT_LO r)
  let hi := s.rd (SW_RULE2_DPORT_HI r)
  s.flag (SW_RULE0_EN r) && bit (s.rd (SW_RULE0_PORTS r)) port
    && (s.rd (SW_RULE0_VID r) == 0 || s.rd (SW_RULE0_VID r) == vid) && (et == 0 || et == k.etype)
    && (!s.flag (SW_RULE1_PROTO_EN r) || k.proto == some (s.rd (SW_RULE1_PROTO r)))
    && (!s.flag (SW_RULE1_DSCP_EN r) || k.dscp == some (s.rd (SW_RULE1_DSCP r)))
    && ((lo == 0 && hi == 0) || (match k.dport with | some d => lo ≤ d && d ≤ hi | none => false))
    && (!s.flag (SW_RULE3_TRUNC_CARE r) || k.trunc == s.flag (SW_RULE3_TRUNC_VAL r))
    && (!s.flag (SW_RULE3_MAL_CARE r) || k.mal == s.flag (SW_RULE3_MAL_VAL r))

/-- The rules in effect, read like the registers that set them (R363). -/
def ruleBank (s : State) : State := { s with regs := s.sw.ruleRegs }

/-- Rule r takes effect as its registers stand: its word 0 has been written (R363). -/
def takeRule (s : State) (r : Nat) : State :=
  let mine (k : Nat) : Bool := fieldKey (0xF0B00 + 16 * r) 0 ≤ k && k < fieldKey (0xF0B10 + 16 * r) 0
  { s with sw := { s.sw with ruleRegs :=
      (tabKeep mine s.regs).foldl (fun t e => tabPut t e.1 e.2) (tabKeep (fun k => !mine k) s.sw.ruleRegs) } }

/-- The class that the first matching rule leaves, or none when it drops the frame. -/
def ruleClass (s : State) (port vid : Nat) (k : Parsed) (cls : Nat) : Option Nat :=
  let t := ruleBank s
  match (List.range 64).find? (ruleHits t port vid k) with
  | none => some cls
  | some r => match t.rd (SW_RULE0_ACTION r) with
    | 1 => some (if t.rd (SW_RULE0_CLASS r) = 6 then 5 else t.rd (SW_RULE0_CLASS r))
    | 2 => none
    | _ => some cls

end Sys2Proof.Machine
end

