-- ==== Sys2Proof/Machine/Streams.lean ====
section
/-! DEFINITION.
Sense streams (R303 to R309): how a block is formed, branded and written, what a full buffer loses, and the samples
that edge sources gather. These operations are shared by sensing, by steps of device time and by SLEEP.
-/

namespace Sys2Proof.Machine

/-- The size of one sample (Table 13.6). -/
def sampleSize : Nat → Nat
  | 2 => 8 | 3 => 8 | 4 => 4 | 5 => 4 | _ => 2

/-- Sources of edges: SI_DIG and FIO_IN (R306). -/
def edgeSrc (src : Nat) : Bool := src == 3 || src == 5

/-- S, the slot size (R304). -/
def slotSize (src nsamp : Nat) : Nat := (32 + nsamp * sampleSize src + 63) / 64 * 64

/-- The address of a block's slot (Table 13.5). -/
def blkAddr (x : Strm) (blk : Nat) : Nat := x.base + (blk % 2 ^ x.nblk) * slotSize x.src x.nsamp

/-- The stream open in a slot. -/
def strmAt (s : State) (p slot : Nat) : Option Strm := s.sns.streams.find? (fun x => x.part == p && x.slot == slot)

/-- Set an open stream. -/
def setStrm (s : State) (x : Strm) : State :=
  { s with sns := { s.sns with streams := s.sns.streams.map (fun y => if y.part == x.part && y.slot == x.slot then x else y) } }

/-- Close a stream: its demand returns to the pool (R304). -/
def endStrm (s : State) (p slot : Nat) : State :=
  showStreams { s with sns := { s.sns with streams := s.sns.streams.filter (fun y => !(y.part == p && y.slot == slot)) } }

/-- A block or window of a stream is lost: LOST counts, the scaler sees it, and the first loss after 100 ms without one
is reported (R308). -/
def loseBlock (s : State) (x : Strm) : State :=
  let quiet := match x.lossAt with | some t => decide (3277 ≤ s.now - t) | none => true
  let y := { x with lost := (x.lost + 1) % 65536, lossAt := some s.now }
  let s1 := countLoss (setStrm s y) 1 1 [x.part]
  if quiet then raise s1 36 false [x.part] ([byte x.slot, 0] ++ leBytes 2 y.lost ++ leBytes 4 x.prod) else s1

/-- What SEQ advances by after a block of n samples: HOP after a whole window, the samples otherwise (R306, R398). -/
def blkAdvance (x : Strm) (n : Nat) : Nat := if x.inf ∧ n = x.nsamp then x.hop else n

/-- The brand of a block (R304 to R306, R398 to R400). -/
def blkBrand (s : State) (x : Strm) (t0 : Nat) (samples : List Byte) : Brand :=
  let ep := s.rd SPR_DT_STATUS_EPOCH
  stamp ⟨x.stream, brandFlags (dtStatus s) x.gapDue false (!x.fresh && x.epoch != ep) x.fresh, 0, x.seq, t0,
    samples.length, 0⟩ [] samples

/-- A block is written: BRAND, BLK, LOST, COUNT and the samples (R305); with INF it waits for its context, unless two
already do, and with BLK_EVT it is reported (R307). -/
def writeBlock (s : State) (x : Strm) (t0 : Nat) (samples : List Byte) : State :=
  let n := samples.length / sampleSize x.src
  let spare := x.inf && 2 ≤ x.wins.length
  let s0 := if spare then loseBlock (s.bump SIN_SNS_CNT_INF_LOST 1) x else s
  let y := (strmAt s0 x.part x.slot).getD x
  let b := blkBrand s0 y t0 samples
  let z := { y with
    seq := (y.seq + blkAdvance y n) % 2 ^ 32, prod := (y.prod + 1) % 2 ^ 32, gapDue := false, fresh := false,
    epoch := s.rd SPR_DT_STATUS_EPOCH, buf := [],
    wins := if y.inf && !spare then y.wins ++ [⟨y.prod, y.seq, blkAddr y y.prod, n, false, s.dt.stepped⟩] else y.wins }
  let s1 := writeBytes (setStrm s0 z) (blkAddr y y.prod)
    (brandMem b ++ leBytes 4 y.prod ++ leBytes 2 y.lost ++ leBytes 2 n ++ samples)
  if y.blkEvt then raise s1 35 false [y.part] ([byte y.slot, 0, 0, 0] ++ leBytes 4 y.prod) else s1

/-- A block completes (R306, R308): over the oldest slot of a full buffer, or lost while INF still has to read that
slot. A block without samples is none. -/
def completeBlock (s : State) (p slot : Nat) (samples : List Byte) (t0 : Nat) : State :=
  match strmAt s p slot with
  | none => s
  | some x =>
    let n := samples.length / sampleSize x.src
    if n = 0 ∨ x.suspended then s
    else if x.wins.any (fun w => w.blk == (x.prod + 2 ^ 32 - 2 ^ x.nblk) % 2 ^ 32) then
      loseBlock (s.bump SIN_SNS_CNT_BLK_LOST 1)
        { x with seq := (x.seq + blkAdvance x n) % 2 ^ 32, gapDue := true, buf := [] }
    else if (x.prod + 2 ^ 32 - x.cons) % 2 ^ 32 = 2 ^ x.nblk then
      let s1 := loseBlock (s.bump SIN_SNS_CNT_BLK_LOST 1) { x with cons := (x.cons + 1) % 2 ^ 32, gapDue := true }
      writeBlock s1 ((strmAt s1 p slot).getD x) t0 samples
    else writeBlock s x t0 samples

/-- The present states as a sample of an edge source (Table 13.6). -/
def edgeSample (s : State) (x : Strm) (toff : Nat) : List Byte :=
  (if x.src = 3 then leBytes 6 (s.rd SIN_LEVEL_LEVEL &&& x.mask) else leBytes 2 (s.rd FIO_IN_LEVEL)) ++ leBytes 2 toff

/-- An edge stream takes a sample of the present states; a block closes before TOFF would exceed 65,535 and when it
holds NSAMP samples (R306). -/
def addEdge (s : State) (p slot : Nat) : State :=
  match strmAt s p slot with
  | none => s
  | some x0 =>
    if x0.suspended then s
    else
      let s1 := if !x0.buf.isEmpty && 65535 < (dtNow s - x0.t0) / 100000 then completeBlock s p slot x0.buf x0.t0 else s
      match strmAt s1 p slot with
      | none => s1
      | some x =>
        let t0 := if x.buf.isEmpty then dtNow s else x.t0
        let b := x.buf ++ edgeSample s x ((dtNow s - t0) / 100000)
        let s2 := setStrm s1 { x with buf := b, t0 := t0 }
        if b.length = x.nsamp * sampleSize x.src then completeBlock s2 p slot b t0 else s2

/-- An accepted change of input n is a sample of every stream of that source that masks it (R306). -/
def edgeSamples (s : State) (src n : Nat) : State :=
  (s.sns.streams.filter (fun x => x.src == src && bit x.mask n)).foldl (fun t x => addEdge t x.part x.slot) s

/-- The partial block of a periodic source: what it has measured since its last block, and how much of it, is what the world
measures and no field of the state, so both are free values here (log entry 1). -/
def partBlock (s : State) (x : Strm) : State :=
  let n := (freeDraw s).toNat % x.nsamp
  let bytes := (List.range (n * sampleSize x.src)).map (Config.randomByte (s.freeCtr + 1))
  completeBlock (freeNext (freeNext s)) x.part x.slot bytes (dtNow s - n * 1000000000 / max 1 x.rate)

/-- Every stream completes its partial block, at a step of device time and at an entry into SLEEP (R309); a PINCH stream has one
only in a drive, which its BLOCK_COMPLETE ends. -/
def closeBlocks (s : State) : State :=
  s.sns.streams.foldl (fun t x => if edgeSrc x.src then completeBlock t x.part x.slot x.buf x.t0
    else if x.src = 2 then t else partBlock t x) s

/-- A stream resumes after SLEEP: its first block carries GAP, a periodic source's SEQ advances by the samples of the
time asleep, and an edge stream opens with a sample of the present states (R309). -/
def wakeStrm (s : State) (x : Strm) : State :=
  let asleep := dtNow s - s.spar.dtEntry
  let s1 := setStrm s { x with suspended := false, gapDue := true, seq := (x.seq + x.rate * asleep / 1000000000) % 2 ^ 32 }
  if edgeSrc x.src then addEdge s1 x.part x.slot else s1

/-- Every suspended stream resumes. -/
def wakeStreams (s : State) : State := (s.sns.streams.filter (·.suspended)).foldl wakeStrm s

/-- The resources an open stream rests on still belong to its partition (R304, R309). -/
def strmOwned (s : State) (x : Strm) : Bool :=
  (match x.src with
    | 1 => ownerOf s x.kind x.index == some x.part
    | 2 => ownerOf s 2 x.index == some x.part || safetyPart s == some x.part
    | 3 => (List.range 48).all (fun n => !bit x.mask n || ownerOf s 6 n == some x.part)
    | 4 => ownerOf s 6 x.index == some x.part
    | 5 => (List.range 16).all (fun n => !bit x.mask n || ownerOf s 5 n == some x.part)
    | _ => true) && (!x.inf || ownerOf s 11 x.ctx == some x.part)

/-- Streams on resources that the sealed layout gives to another partition close at the seal point (R309). -/
def sealStreams (s : State) : State :=
  showStreams { s with sns := { s.sns with streams := s.sns.streams.filter (strmOwned s) } }

end Sys2Proof.Machine
end

