-- ==== Sys2Proof/Machine/Buses.lean ====
section
/-! DEFINITION.
The CAN and LIN controllers' states (R377, R378, R384): what makes a bus operate, what its status registers show, and
how pending frames end when a bus stops. Shared by the bus commands, the clocks, the power states and partition resets.
-/

namespace Sys2Proof.Machine

/-- A CAN and a LIN bus. -/
def canAt (s : State) (k : Nat) : CanBus := tabGet {} s.sub.can k
def linAt (s : State) (l : Nat) : LinBus := tabGet {} s.sub.lin l
def setCan (s : State) (k : Nat) (b : CanBus) : State := { s with sub := { s.sub with can := tabSet {} s.sub.can k b } }
def setLin (s : State) (l : Nat) (b : LinBus) : State := { s with sub := { s.sub with lin := tabSet {} s.sub.lin l b } }

/-- The control die reaches the link die: its rail stands and the link between them is not lost (Table 24.5). -/
def ldLink (s : State) : Bool := s.pwr.ldUp && !s.flt.lost.contains 1

/-- A CAN controller operates: EN, clocked by PLL_F, not asleep and not taken OFFLINE (R377, R384). -/
def canRuns (s : State) (k : Nat) : Bool :=
  cdUp s && ldLink s && s.flag CLK_SRC_SRC_FAB && s.flag (SUB_CAN_CFG_EN k) && !(canAt s k).asleep && !(canAt s k).offline

/-- A LIN controller is enabled and clocked, and it operates. -/
def linOn (s : State) (l : Nat) : Bool :=
  cdUp s && ldLink s && s.flag CLK_SRC_SRC_FAB && s.flag (SUB_LIN_CFG_EN l) && !(linAt s l).offline
def linRuns (s : State) (l : Nat) : Bool := linOn s l && !(linAt s l).asleep

/-- STATE of a CAN bus: 0 off, 1 error-active, 2 error-passive, 3 bus-off (ISO 11898-1). -/
def canState (s : State) (k : Nat) : Nat :=
  if !canRuns s k then 0
  else if (canAt s k).off then 3
  else if 127 < s.rd (SUB_CAN_STAT_TEC k) ∨ 127 < s.rd (SUB_CAN_STAT_REC k) then 2
  else 1

/-- A CAN bus's status follows its controller, which starts afresh when it leaves STATE 0 (log entry 34). -/
def showCan (s : State) (k : Nat) : State :=
  let s1 := if canRuns s k then s
    else ((setCan s k { canAt s k with off := false, recovering := false }).wr (SUB_CAN_STAT_TEC k) 0).wr
      (SUB_CAN_STAT_REC k) 0
  s1.wr (SUB_CAN_STAT_STATE k) (canState s1 k)

/-- A LIN bus's status: 0 off, 1 running, 2 asleep. -/
def showLin (s : State) (l : Nat) : State :=
  s.wr (SUB_LIN_STAT_STATE l) (if !linOn s l then 0 else if (linAt s l).asleep then 2 else 1)

/-- The status of every bus. -/
def showBuses (s : State) : State := (List.range 6).foldl showLin ((List.range 4).foldl showCan s)

/-- 200 MHz / (BRP × (1 + TSEG1 + TSEG2)) lies between two rates in bit/s (R377). -/
def rateOk (brp t1 t2 lo hi : Nat) : Bool :=
  let d := brp * (1 + t1 + t2)
  lo * d ≤ 200000000 && 200000000 ≤ hi * d

/-- The bit timings of a CAN bus fall within Table 17.1; the data phases count with FD_EN and XL_EN, and XL beyond
8 Mb/s needs XLTRX (R376, log entry 35). -/
def timingOk (s : State) (k : Nat) : Bool :=
  rateOk (s.rd (SUB_CAN_NBT_BRP k)) (s.rd (SUB_CAN_NBT_TSEG1 k)) (s.rd (SUB_CAN_NBT_TSEG2 k)) 20000 1000000
    && (!s.flag (SUB_CAN_CFG_FD_EN k)
      || rateOk (s.rd (SUB_CAN_DBT_BRP k)) (s.rd (SUB_CAN_DBT_TSEG1 k)) (s.rd (SUB_CAN_DBT_TSEG2 k)) 1 8000000)
    && (!s.flag (SUB_CAN_CFG_XL_EN k)
      || rateOk (s.rd (SUB_CAN_XBT_BRP k)) (s.rd (SUB_CAN_XBT_TSEG1 k)) (s.rd (SUB_CAN_XBT_TSEG2 k)) 1
          (if s.flag (SUB_CAN_CFG_XLTRX k) then 20000000 else 8000000))

/-- After a write of a CAN bus's configuration: a timing outside Table 17.1 makes EN read 0 and sets TIMING_ERR. -/
def showTiming (s : State) (k : Nat) : State :=
  let ok := timingOk s k
  let s1 := s.put (SUB_CAN_STAT_TIMING_ERR k) (!ok)
  showCan (if ok then s1 else s1.put (SUB_CAN_CFG_EN k) false) k

/-- A coordinator reports PLCA_STATUS 1 (R374). -/
def showPlca (s : State) (g : Nat) : State :=
  if s.flag (SUB_T1S_CFG_PLCA_EN g) && s.rd (SUB_T1S_CFG_LOCAL_ID g) == 0 then s.put (SUB_T1S_STAT_PLCA_STATUS g) true else s

/-- Frames that tunnels have queued for a bus are dropped and counted (R393). -/
def dropIngress (s : State) (k : Nat) : State :=
  let b := canAt s k
  (setCan s k { b with ingress := [] }).bump SUB_CNT2_TUN_DROP b.ingress.length

/-- Every pending frame of a CAN bus ends with a status, and its ingress queue is emptied. -/
def endCan (s : State) (k st : Nat) : State :=
  let l := (canAt s k).pend
  l.foldl (fun t x => complete t BUS x.hdr 1 st []) (dropIngress (setCan s k { canAt s k with pend := [] }) k)

/-- Every pending frame of a LIN bus ends with a status. -/
def endLin (s : State) (l st : Nat) : State :=
  let b := linAt s l
  (b.current.toList ++ b.insert).foldl (fun t x => complete t BUS x.hdr 2 st [])
    (setLin s l { b with insert := [], current := none, awaits := none, slot := false })

/-- A CAN bus goes to sleep, and a SLEEP that waited for its frame completes (R384). -/
def sleepCan (s : State) (k : Nat) : State :=
  let s1 := endCan s k TX_TIMEOUT
  let s2 := showCan (setCan s1 k { canAt s1 k with asleep := true, sleepFor := none }) k
  match (canAt s1 k).sleepFor with
  | some h => complete s2 BUS h 6 OK []
  | none => s2

/-- The frame that a SLEEP waited for has left the bus. -/
def sleepDue (s : State) (k : Nat) : State := if (canAt s k).sleepFor.isSome then sleepCan s k else s

/-- A LIN bus goes to sleep; a commander that runs sends the go-to-sleep command first (R383). -/
def sleepLin (s : State) (l : Nat) : State :=
  let s1 := if linRuns s l && s.rd (SUB_LIN_CFG_MODE l) == 0 then emit s (.linSleep l) else s
  let s2 := endLin s1 l TX_TIMEOUT
  showLin (setLin s2 l { linAt s2 l with asleep := true }) l

/-- Entry into DEEP or OFF puts every bus to sleep (R384). -/
def sleepBuses (s : State) : State := (List.range 6).foldl sleepLin ((List.range 4).foldl sleepCan s)

/-- A partition's LIN schedules stop at the end of the current slot, and the responses of its buses are cleared (R393). -/
def dropLinOwned (s : State) (p : Nat) : State :=
  (List.range 6).foldl (fun t l =>
    if ownerOf t 9 l = some p then
      let b := linAt t l
      let u := setLin t l { b with due := if b.slot then some [] else none, sched := if b.slot then b.sched else [] }
      { u with sub := { u.sub with resp := tabKeep (fun k => k / 64 != l) u.sub.resp } }
    else t) s

/-- Pending bus frames and bus receive buffers of a partition go; a frame already on a bus completes there (Table 6.8,
R393). -/
def dropBus (s0 : State) (p : Nat) : State :=
  let s := dropLinOwned s0 p
  { s with sub := { s.sub with
      can := s.sub.can.map (fun e => (e.1, { e.2 with
        pend := e.2.pend.filter (fun x => x.hdr.part.val != p)
        sleepFor := e.2.sleepFor.filter (fun h => h.part.val != p)
        asleep := e.2.asleep || (e.2.sleepFor.filter (fun h => h.part.val == p)).isSome }))
      lin := s.sub.lin.map (fun e => (e.1, { e.2 with
        insert := e.2.insert.filter (fun x => x.hdr.part.val != p)
        current := e.2.current.filter (fun x => x.hdr.part.val != p) }))
      rx := s.sub.rx.filter (fun b => b.hdr.part.val != p) } }

end Sys2Proof.Machine
end

