-- ==== Sys2Proof/Machine/Tally.lean ====
section
/-! DEFINITION.
Writing and reading the tally (chapter 23), and the commands TALLY_WRITE, TLY_SEL_WRITE and TLY_MARK_WRITE.
-/

namespace Sys2Proof.Machine

/-- PSTATE: the power state coded as LAST_STATE, with 1 for IDLE (Table 23.1). -/
def pstateCode (s : State) : Nat :=
  match s.pwr.ps with
  | .run => if (List.range 4).all (fun k => tabGet .run s.pwr.cores k == .idle) then 1 else 0
  | .sleep => 2
  | .deep => 3
  | .off => 4
  | .sparOnly => 5

/-- The tally key of slot 6, or the all-zero key while it is empty (R499). -/
def tallyKeyless (s : State) : Bool := !bit (s.rd SEC_KEY_STATE_FILLED) 6
def tallyKey (s : State) : BitVec 256 :=
  if tallyKeyless s then 0 else BitVec.ofNat 256 (beNat (tabGet [] s.sec.keys 6))

/-- Bytes 0 to 55 of a record (Table 23.1). -/
def recHead (r : TRec) : List Byte :=
  leBytes 4 r.rseq ++ [byte r.typ, byte r.flags, byte r.pstate, byte r.addr] ++ leBytes 6 r.rtc ++ leBytes 2 r.starts
    ++ padTo 32 r.payload ++ beBytes 8 r.prev.toNat

/-- The 64 bytes of a record. The MAC's first byte is its most significant one. -/
def recBytes (r : TRec) : List Byte := recHead r ++ beBytes 8 r.mac.toNat

/-- The record a waiting entry becomes: RSEQ, PREV and the MAC are given as its write begins (R498 to R502). -/
def buildRec (s : State) (w : TWait) : TRec :=
  let r : TRec :=
    { rseq := s.rd TLY_NEXT_NEXT_RSEQ, typ := w.typ
      flags := w.flags + (if tallyKeyless s then 16 else 0)
      pstate := pstateCode s, addr := s.rd CHN_ADDR_ADDR, rtc := w.rtc, starts := s.tly.starts
      payload := w.payload
      prev := if nextX s = 0 then 0 else s.tly.lastMac, mac := 0 }
  { r with mac := Config.hmac64 (tallyKey s) (recHead r) }

/-- RSEQ advances past a record whose write has begun; WRAPS counts its wrap (R500). -/
def advanceSeq (s : State) : State :=
  let n := (s.rd TLY_NEXT_NEXT_RSEQ + 1) % 2 ^ 32
  let s1 := s.wr TLY_NEXT_NEXT_RSEQ n
  if n = 0 then s1.wr TLY_STATUS_WRAPS ((s.rd TLY_STATUS_WRAPS + 1) % 65536) else s1

/-- A comparison of RSEQ values against NEXT_RSEQ (R500): `a` lies beyond the mark, that is, it is younger. -/
def beyondMark (s : State) (a : Nat) : Bool :=
  let n := s.rd TLY_NEXT_NEXT_RSEQ
  (n + 2 ^ 32 - a) % 2 ^ 32 < (n + 2 ^ 32 - s.rd TLY_MARK_RD_MARK) % 2 ^ 32

/-- What overwriting the record RSEQ − 7,168 counts and raises (R508). -/
def countUnread (s : State) : State :=
  let x := nextX s
  if x < 7168 then s
  else
    let old := (x - 7168) % 2 ^ 32
    if beyondMark s old then
      let s1 := s.bump TLY_CNT1_UNREAD_LOST 1
      if s.tly.unreadRaised then s1
      else raise { s1 with tly := { s1.tly with unreadRaised := true } } 97 false [0]
        (leBytes 4 old ++ leBytes 4 (s.rd TLY_MARK_RD_MARK))
    else s

/-- A fault record goes to the first-fault area while it has room, and otherwise counts in FF_LOST (R501, R508). -/
def firstFault (s : State) (r : TRec) : State :=
  let n := s.rd TLY_STATUS_FF_COUNT
  if n < 1024 then
    let s1 := { s with tly := { s.tly with first := tabSet erasedPair s.tly.first n ⟨.valid r, .valid r⟩ } }
    (s1.wr TLY_STATUS_FF_COUNT (n + 1)).put TLY_STATUS_FF_FULL (n + 1 == 1024)
  else
    let s1 := s.bump TLY_CNT0_FF_LOST 1
    if s.tly.fullRaised then s1
    else raise { s1 with tly := { s1.tly with fullRaised := true } } 96 false [0] (leBytes 4 r.rseq)

/-- Write one record to both halves of the ring area and, for a fault record, of the first-fault area (R502). -/
def writeRec (s : State) (w : TWait) : State :=
  let r := buildRec s w
  let s1 := countUnread s
  let s2 := { s1 with tly := { s1.tly with ring := tabSet erasedPair s1.tly.ring (ringSlot (nextX s))
                                                     ⟨.valid r, .valid r⟩
                                           lastMac := r.mac } }
  let s3 := (advanceSeq s2).put TLY_STATUS_KEYLESS (tallyKeyless s)
  if tallyFault w.typ then firstFault s3 r else s3

/-- The next record to write: POWER_FAIL first once a power fail is declared (R502); and what then waits. -/
def nextWait (s : State) : Option (TWait × List TWait) :=
  match if s.sto.failing then s.tly.queue.findIdx? (fun w => w.typ == 22) else none with
  | some i => (s.tly.queue[i]?).map (fun w => (w, s.tly.queue.eraseIdx i))
  | none => match s.tly.queue with | [] => none | w :: t => some (w, t)

/-- The spar core writes the next queued record; once the queue has room again, the drops are recorded (R502, R504). -/
def tallyWrite (s0 : State) : State :=
  let s := if s0.flag TLY_STATUS_SCAN_DONE then s0 else mirrorScan s0
  match nextWait s with
  | none => s
  | some (w, rest) =>
    let s1 := writeRec { s with tly := { s.tly with queue := rest } } w
    if s1.tly.dropped = 0 then s1
    else tally { s1 with tly := { s1.tly with dropped := 0 } } 23
      (leBytes 2 s1.tly.dropped ++ [0, 0] ++ leBytes 4 s1.tly.dropAfter)

/-- A write interrupted by the loss of VSPAR (R502, R505): in the ring area half A is left damaged (1) or half B (2), and in the
first-fault area, the ring's two writes being complete, half A (3) or half B (4); there the slot counts once half A holds the record. -/
def tallyCut (s : State) (stage : Nat) : State :=
  match nextWait s with
  | none => s
  | some (w, _) =>
    let r := buildRec s w
    let i := ringSlot (nextX s)
    let n := s.rd TLY_STATUS_FF_COUNT
    let p : TPair := match stage with
      | 1 => ⟨.damaged, (tabGet erasedPair s.tly.ring i).b⟩ | 2 => ⟨.valid r, .damaged⟩ | _ => ⟨.valid r, .valid r⟩
    let q : TPair := if stage = 3 then ⟨.damaged, (tabGet erasedPair s.tly.first n).b⟩ else ⟨.valid r, .damaged⟩
    if stage = 0 then s
    else
      let s1 := if stage = 1 then s else { s with tly := { s.tly with lastMac := r.mac } }
      let s2 := advanceSeq { s1 with tly := { s1.tly with ring := tabSet erasedPair s1.tly.ring i p } }
      if stage < 3 ∨ !tallyFault w.typ ∨ 1024 ≤ n then s2
      else
        let s3 := { s2 with tly := { s2.tly with first := tabSet erasedPair s2.tly.first n q } }
        if stage = 3 then s3 else (s3.wr TLY_STATUS_FF_COUNT (n + 1)).put TLY_STATUS_FF_FULL (n + 1 == 1024)

/-! ### Readout (R497, R509, R510, R581) -/

/-- The record a slot pair holds for a reader: a slot being repaired is answered from its valid half. -/
def pairRec (p : TPair) : Option TRec :=
  match p.a, p.b with
  | .valid r, _ => some r
  | _, .valid r => some r
  | _, _ => none

/-- A record of the ring area by its XSEQ, while it survives. -/
def ringRec (s : State) (x : Nat) : Option TRec :=
  if x < nextX s ∧ nextX s ≤ x + 7168 then pairRec (tabGet erasedPair s.tly.ring (ringSlot x)) else none

/-- A record of the first-fault area. -/
def firstRec (s : State) (n : Nat) : Option TRec :=
  if n < s.rd TLY_STATUS_FF_COUNT then pairRec (tabGet erasedPair s.tly.first n) else none

/-- The XSEQ that a ring START names, resolved against NEXT_RSEQ; none beyond the newest record (R581). -/
def ringStart (s : State) (start : Nat) : Option Nat :=
  let n := nextX s
  let d := (start + 2 ^ 24 - n % 2 ^ 24) % 2 ^ 24
  if d < 2 ^ 23 then none else if n + d < 2 ^ 24 then none else some (n + d - 2 ^ 24)

/-- The record TLY_SEL names, shown in TLY_DATA (R510). -/
def showTally (s : State) (area start : Nat) : State :=
  let r := if area = 1 then firstRec s start else (ringStart s start).bind (ringRec s)
  let bs := match r with | some r => recBytes r | none => []
  (List.range 16).foldl (fun t w => t.wr (TLY_DATA_DATA w) (leAt bs (4 * w) 4)) (s.put TLY_SEL_VALID r.isSome)

/-- TALLY_WRITE (R502). Nothing is written within a spar reset, nor in OFF, where the spar core is off (R22). -/
def execTallyWrite (s : State) : Res := .next (if s.spar.up && sparRuns s then tallyWrite s else s)

/-- TLY_SEL_WRITE (R510): P0 selects a record; AREA 2 and 3 are taken as 0. -/
def execTlySelWrite (w : Writer) (v : Word) (s : State) : Res := whileCd s <|
  if w = .safety then violate s
  else
    let area := if fieldIn TLY_SEL_AREA v = 1 then 1 else 0
    showTally ((s.wr TLY_SEL_START (fieldIn TLY_SEL_START v)).wr TLY_SEL_AREA area) area (fieldIn TLY_SEL_START v)

/-- TLY_MARK_WRITE (R510): RD_MARK only moves forward, and not beyond NEXT_RSEQ − 1; anything else is ignored and
counted. -/
def execTlyMarkWrite (w : Writer) (v : Word) (s : State) : Res := whileCd s <|
  let n := s.rd TLY_NEXT_NEXT_RSEQ
  let back (a : Nat) : Nat := (n + 2 ^ 32 - a) % 2 ^ 32
  let d := back v.toNat
  let m := back (s.rd TLY_MARK_RD_MARK)
  if w = .safety then violate s
  else if d = 0 ∨ d > (if m = 0 then 2 ^ 32 else m) then violate s
  else
    let s1 := s.wr TLY_MARK_RD_MARK v.toNat
    { s1 with tly := { s1.tly with unreadRaised := false } }

end Sys2Proof.Machine
end

