-- ==== Sys2Proof/Machine/Work.lean ====
section
/-! DEFINITION.
How a partition's work in flight ends (Table 6.8), and the detachment of a REMOTE partition (R134, R154, R156).
-/

namespace Sys2Proof.Machine

/-- A store command of a partition is cut off: what its programs have reached stays, and the rest is discarded (Table
6.8). Write-back data already completed stays dirty and is flushed. -/
def cutStorePart (s : State) (p : Nat) : State :=
  let mine := s.sto.jobs.filter (fun j => j.hdr.part.val == p)
  let s1 := mine.foldl endJobPart s
  { s1 with sto := { s1.sto with jobs := s1.sto.jobs.filter (fun j => j.hdr.part.val != p),
                                 flushes := s1.sto.flushes.filter (fun f => f.1.part.val != p) } }

/-- A binding is in force: EN, and not disabled at the seal point (R412). -/
def bindOn (s : State) (b : Nat) : Bool := s.flag (BRD_BIND0_EN b) && !bit (s.rd BRD_STATUS_BIND_ERR) b

/-- The bindings of a context, and those of a job that the comparator has still to decide for. -/
def bindsOf (s : State) (ctx : Nat) : List Nat := (List.range 8).filter (fun b => bindOn s b && s.rd (BRD_BIND0_CTX b) == ctx)
def undecided (s : State) (j : InfJob) : List Nat := (bindsOf s j.ctx).filter (fun b => !j.decided.contains b)

/-- An INF engine reset ends every job without records; one that the comparator still waits for stays known to it, so that
its missing results fall under TIMEOUT (R419, R438). -/
def cutJobs (s : State) : State :=
  let cutShare (x : Share) : Share := match x with | .unused => .unused | .done r => .done r | _ => .aborted
  { s with inf := { s.inf with jobs := (s.inf.jobs.filter (fun j => !(undecided s j).isEmpty)).map (fun j =>
      { j with hdr := none, settled := true, a := cutShare j.a, b := cutShare j.b }) } }

/-- A context becomes EMPTY and its weight memory is free again (R426, R427). -/
def freeCtx (s : State) (c : Nat) : State :=
  let x := tabGet {} s.inf.ctxs c
  let s1 := { s with inf := { s.inf with ctxs := tabDel s.inf.ctxs c } }
  let s2 := (s1.bump INF_MEM_A_FREE x.kibA).bump INF_MEM_B_FREE x.kibB
  let s3 := ((s2.wr (INF_CTX_STAT_STATE c) 0).wr (INF_CTX_STAT_MODE c) 0).wr (INF_CTX_STAT_JCLASS c) 0
  ((s3.wr (INF_CTX_STAT_IMAGE_ID c) 0).wr (INF_CTX_EXEC_EXEC_A c) 0).wr (INF_CTX_EXEC_EXEC_B c) 0

/-- The contexts whose LOADs in progress belong to a partition become EMPTY. -/
def abortLoad (s : State) (p : Nat) : State :=
  (s.inf.ctxs.filter (fun e => match e.2.load with | some h => h.part.val == p | none => false)).foldl
    (fun t e => freeCtx t e.1) s

/-- SNS streams of a partition stop, their buffered samples discarded (Table 6.8); their slots close. -/
def dropStreams (s : State) (p : Nat) : State :=
  showStreams { s with sns := { s.sns with streams := s.sns.streams.filter (fun x => x.part != p) } }

/-- Transmissions and receive buffers of NET, held RANDOMs of SEC and jobs of INF of a partition end. -/
def dropOthers (s : State) (p : Nat) : State :=
  { s with sw := { s.sw with tx := s.sw.tx.filter (fun x => x.hdr.part.val != p),
                             rx := s.sw.rx.filter (fun b => b.hdr.part.val != p) }
           sec := { s.sec with held := s.sec.held.filter (fun x => x.hdr.part.val != p) }
           inf := { s.inf with jobs := s.inf.jobs.filter (fun j => j.part != p) } }

/-- Key slots that a test picks become empty (R476, R478). -/
def clearSlots (s : State) (hit : Nat → Bool) : State :=
  let f := (List.range 32).foldl (fun a k => if hit k ∧ bit a k then a - 2 ^ k else a) (s.rd SEC_KEY_STATE_FILLED)
  { (s.wr SEC_KEY_STATE_FILLED f) with
    sec := { s.sec with keys := tabKeep (fun k => !hit k) s.sec.keys, writers := tabKeep (fun k => !hit k) s.sec.writers } }

/-- Every piece of a partition's work ends without a record (R153, R154, Table 6.8). -/
def dropPart (s : State) (p : Nat) : State :=
  let s1 := dropSeqs (fun q => q.job.hdr.part.val == p) s
  let s2 := dropOthers (dropBus (dropStreams s1 p) p) p
  let s3 := dropHost (abortLoad (cutStorePart s2 p) p) p
  { s3 with rng := { s3.rng with work := s3.rng.work.filter (fun w => w.hdr.part.val != p) } }

/-- A REMOTE partition detaches: its proxy and its unacknowledged frames go, P0 learns the cause, its channels take
their orphan states and its work ends (R134, R154, R156). -/
def detach (s : State) (p cause : Nat) : State :=
  if attached s p then
    let x := proxyOf s p
    let n := x.unacked.length + x.waiting.length
    let s1 := (setProxy (s.wr CHN_ATTACH_ATTACHED (s.rd CHN_ATTACH_ATTACHED - 2 ^ p)) p {}).wr (PAR_STATE_STATE p) 3
    dropPart (orphanPart (raise s1 45 true [0] ([byte p, byte cause] ++ leBytes 2 n)) p) p
  else s

/-- Every REMOTE partition detaches (R72, R136). -/
def detachAll (s : State) (cause : Nat) : State := (List.range 8).foldl (fun t p => detach t p cause) s

/-! ### The selected ring's registers (Table 7.9) -/

/-- The ring that RNG_SEL names. -/
def selKey (s : State) : Nat :=
  if s.rd RNG_SEL_RING = 5 then eventKey (s.rd RNG_SEL_PART)
  else ringKey (s.rd RNG_SEL_PART) (s.rd RNG_SEL_ENGINE) (s.rd RNG_SEL_RING)

/-- The setup and index registers show the selected ring. -/
def showRing (s : State) : State :=
  let g := ringAt s (selKey s)
  let s1 := (((s.wr RNG_BASE_BASE g.base).wr RNG_CFG_SIZE_LOG2 g.size).wr RNG_CFG_PRIO g.prio).put RNG_CFG_EN g.en
  ((s1.wr RNG_SHADOW_SHADOW (shadowOf s (s.rd RNG_SEL_PART)).base).wr RNG_IDX_PIDX g.prod).wr RNG_IDX2_CIDX g.cons

/-- RESULT and FAIL_RING of a ring command. -/
def ringResult (s : State) (r : Nat × Nat) : State := (s.wr RNG_STATUS_RESULT r.1).wr RNG_STATUS_FAIL_RING r.2

/-! ### Engine reset (R48, R167, R189) -/

/-- A ring is disarmed, its indices zero. -/
def disarm (s : State) (k : Nat) : State := setRing s k { ringAt s k with armed := false, phys := 0, prod := 0, cons := 0 }

/-- What the proxy has asked for and fetched for an engine's rings goes with them, so that they start again at index 0. -/
def dropFetches (s : State) (p e : Nat) : State :=
  let x := proxyOf s p
  setProxy s p { x with asked := tabKeep (fun k => k / 4 != e) x.asked, reads := x.reads.filter (fun r => r.eng != e),
                        fetched := x.fetched.filter (fun y => y.1 != e) }

/-- Work in flight of one engine ends for every partition, without records. -/
def dropEngine (s : State) (e : Nat) : State :=
  let s1 := { s with rng := { s.rng with work := s.rng.work.filter (fun w => w.eng != e) } }
  match e with
  | 0 => allChans.foldl dropJob (dropSeqs (fun _ => true) s1)
  | 1 => showStreams { s1 with sns := { s1.sns with streams := [] } }
  | 2 => { s1 with sw := { s1.sw with tx := [], rx := [] } }
  | 3 => (List.range 8).foldl dropBus s1
  | 4 => (List.range 8).foldl cutStorePart s1
  | 5 =>
    let s0 := cutJobs s1
    let s2 := (List.range 8).foldl abortLoad { s0 with inf := { s0.inf with chA := {}, chB := {} } }
    let s3 := if s2.rd INF_CH_STAT_A_STATE = 3 then s2.wr INF_CH_STAT_A_STATE 0 else s2
    if s3.rd INF_CH_STAT_B_STATE = 3 then s3.wr INF_CH_STAT_B_STATE 0 else s3
  | _ => { s1 with sec := { s1.sec with held := [] } }

/-- An engine reset (R189): its rings are disarmed for every partition, no record is written, and each affected partition and
P0 learn of it. -/
def resetEngine (s : State) (e : Nat) : State :=
  let hit := (List.range 8).filter (fun p => (List.range 5).any (fun k => (ringAt s (ringKey p e k)).armed))
  let s1 := (List.range 8).foldl (fun t p => dropFetches ((List.range 5).foldl (fun u k => disarm u (ringKey p e k)) t) p e)
    (dropEngine s e)
  showRing (ringResult (raise s1 93 true (hit ++ [0]) [byte e]) (1, 0))

/-- The check of a ring command, a layout, a limp image or a namespace command ends (R147, R167, R207, R444): BUSY, APPLY and STAGE
read 0 again, and a held ENGINE_RESET is performed. -/
def endChecks (s : State) : State :=
  let s1 := (((({ s with rng := { s.rng with busy := false, heldReset := none } }.put RNG_STATUS_BUSY false).put
    PAR_LAYOUT_CTL_APPLY false).put ACT_LIMP_CTL_STAGE false).put STO_NS_STATUS_BUSY false).put SW_STATUS_TBL_BUSY false
  match s.rng.heldReset with
  | some e => if cdUp s1 then resetEngine s1 e else s1
  | none => s1

end Sys2Proof.Machine
end

