-- ==== Sys2Proof/Machine/Domains.lean ====
section
/-! DEFINITION.
What the power states keep and lose, the 152 domains, the idle timer's adaptation, wake events and the first
instruction after a wake (chapters 3 and 4).
-/

namespace Sys2Proof.Machine

/-! ### Domains (Table 3.6, R67, R79) -/

/-- The power-die domain that holds an output channel. -/
def domainOf (c : Chan) : Nat :=
  match c.kind with
  | 1 => if c.idx < 8 then 113 + c.idx / 4 else if c.idx < 20 then 115 + (c.idx - 8) / 6 else 117 + (c.idx - 20) / 6
  | 2 => 119 + c.idx / 4
  | 3 => 121 + c.idx / 4
  | 4 => 123 + c.idx / 8
  | _ => 126 + c.idx / 8

/-- Channels of a test that some domain holds. -/
def anyIn (d : Nat) (l : List Chan) : Bool := l.any (fun c => domainOf c == d)

/-- The channels kept in DEEP by PWR_KEEP_OUT and PWR_KEEP_LED and on as static levels at entry. -/
def keptChans (s : State) : List Chan := allChans.filter (fun c => s.pwr.kept.contains (chKey c))

/-- A domain is on in SLEEP (Table 3.6, R79). -/
def onInSleep (s : State) (d : Nat) : Bool :=
  if (60 ≤ d ∧ d ≤ 70) ∨ d = 77 ∨ d = 78 ∨ d = 80 ∨ (83 ≤ d ∧ d ≤ 85) ∨ d = 87 ∨ d = 92 ∨ d = 93 then false
  else if [71, 72, 73, 74, 79, 81, 82, 86, 88, 90, 91, 94].contains d then s.flag PWR_CTL_HOLD_FABRIC
  else d < 152

/-- The part of the spar domain that runs in DEEP whatever is configured (Table 3.6). -/
def sparDomain (d : Nat) : Bool :=
  (96 ≤ d && d ≤ 100) || (104 ≤ d && d ≤ 106) || (129 ≤ d && d ≤ 131) || d == 133 || d == 134 || d == 140

/-- A domain is on or held in DEEP (Table 3.6, R79). -/
def onInDeep (s : State) (d : Nat) : Bool :=
  if 8 ≤ d ∧ d ≤ 55 then bit (s.rd PWR_RETAIN_RETAIN) (d - 8)
  else if d = 58 ∨ d = 59 then s.flag PWR_CTL_SAF_RETAIN
  else if d = 89 then s.pwr.shadow
  else if d = 111 ∨ d = 128 then !s.pwr.kept.isEmpty
  else if 113 ≤ d ∧ d ≤ 127 then anyIn d (keptChans s)
  else if d = 141 then bit (s.rd WAK_ARM_SRC) 6
  else sparDomain d

/-- The CORE and IO bucks are on in an attempt of a wake sequence (Tables 3.7 and 3.8). -/
def bucksOn (s : State) : Bool := match s.pwr.seq with | some q => q.bucks | none => false

/-- A domain that DEEP allows, "D" in Table 3.6: what SPAR_ONLY powers (R67). -/
def deepAllows (d : Nat) : Bool :=
  sparDomain d || (8 ≤ d && d ≤ 55) || d == 58 || d == 59 || d == 89 || d == 111 || d == 117 || d == 118
    || (123 ≤ d && d ≤ 125) || d == 128 || d == 141

/-- An output domain that the applied limp table needs (R67, R79). -/
def limpDomain (s : State) (d : Nat) : Bool :=
  limpActive s && !s.act.parked && (anyIn d (allChans.filter (fun c => limpNamed s c)) || d == 111 || d == 128)

/-- A domain is on now: in a wake sequence the spar domain first, then the bucks, then at the first instruction the control
die, and the link die with LINK PGOOD (R81, Tables 3.7 and 3.8). -/
def domainOn (s : State) (d : Nat) : Bool :=
  match s.pwr.ps with
  | .run => if d < 96 then cdUp s
            else if d = 101 ∨ d = 102 then cdUp s || bucksOn s
            else if 140 ≤ d then s.pwr.ldUp || d == 140 else d < 152
  | .sleep => onInSleep s d
  | .deep => onInDeep s d || ((d == 101 || d == 102) && bucksOn s)
  | .off => sparRuns s && (sparDomain d || limpDomain s d || ((d == 101 || d == 102) && bucksOn s))
  | .sparOnly => deepAllows d || d == 103 || (142 ≤ d && d ≤ 144) || ((d == 101 || d == 102) && bucksOn s)
      || anyIn d (allChans.filter (fun c => limpNamed s c))

/-- Bring PWR_DOM_STATUS up to date. -/
def showDomains (s : State) : State :=
  (List.range 5).foldl (fun t k => t.wr (PWR_DOM_STATUS_ON k)
    ((List.range 32).foldl (fun a b => if 32 * k + b < 152 ∧ domainOn s (32 * k + b) then a + 2 ^ b else a) 0)) s

/-! ### The device idle timer (R83) -/

/-- The upper limit of CUR_T in milliseconds. -/
def maxIdle (s : State) : Nat := max (s.rd PWR_ADAPT_MAX_T * 10) (s.rd PWR_ADAPT_MIN_T)

/-- CUR_T stays within its range, and holds MIN_T without adaptation. -/
def refreshCur (s : State) : State :=
  s.wr PWR_ADAPT_CUR_T (if s.flag PWR_ADAPT_ADAPT_EN then clamp (s.rd PWR_ADAPT_MIN_T) (maxIdle s) (s.rd PWR_ADAPT_CUR_T)
                        else s.rd PWR_ADAPT_MIN_T)

/-- The rule of R83 for a sleep of a length in microseconds. -/
def nextCur (s : State) (deep : Bool) (sleptUs : Nat) : Nat :=
  let cur := s.rd PWR_ADAPT_CUR_T
  if sleptUs < (if deep then 40000 else 2000) then min (cur * 2) (maxIdle s)
  else if sleptUs > 8 * cur * 1000 then max (cur / 2) (s.rd PWR_ADAPT_MIN_T)
  else cur

/-- After a device-level wake from an idle-timer entry: the sleep, which ended at the accepted wake event, is recorded, and
CUR_T adapts. -/
def adapt (s : State) (deep : Bool) (accepted : Nat) : State :=
  if s.pwr.idleEntry then
    let us := (accepted - s.pwr.entryAt) * 1000000 / 32768
    let s1 := { s with pwr := { s.pwr with sleeps := (us :: s.pwr.sleeps).take 8, idleEntry := false } }
    if s.flag PWR_ADAPT_ADAPT_EN then refreshCur (s1.wr PWR_ADAPT_CUR_T (nextCur s1 deep us)) else s1
  else s

/-! ### The control watchdog's window (R53, R55) -/

/-- The window opens as if a complete feed had just occurred. -/
def feedNow (s : State) : State :=
  { s with spar := { s.spar with wdgSince := s.now, wdgPeriod := s.rd SPR_WDG_CFG_PERIOD,
                                 wdgClosed := s.rd SPR_WDG_CFG_CLOSED, wdgP0 := false, wdgSaf := false,
                                 wdgWarned := false } }

/-- The first instruction after a wake: the watchdog restarts and the loss criteria are armed (R21, R55). -/
def firstInstr (s : State) : State :=
  let s1 := feedNow s
  { s1 with spar := { s1.spar with wdgOn := true }, pwr := { s1.pwr with armed := true } }

/-- A wake-up signal goes out on every segment that asks for it, once its domain has returned (R375). -/
def segWake (s : State) : State :=
  (List.range 4).foldl (fun t g => if t.flag (SUB_T1S_CFG_SEG_WFWD g) then emit t (.wakeUp (2 + g)) else t) s

/-! ### Wake reasons (R98, R99) -/

/-- WAK_REASON names the source of a completed wake. -/
def reportWake (s : State) (code index attempt : Nat) : State :=
  ((s.wr WAK_REASON_CODE code).wr WAK_REASON_INDEX index).wr WAK_REASON_ATTEMPT attempt

/-- WAKE_DONE to P0, and WAKE_RETRIED when an earlier attempt failed. -/
def wakeDone (s : State) (causes : List Nat) : State :=
  let s1 := raise s 6 false [0] [byte (s.rd WAK_REASON_CODE), byte (s.rd WAK_REASON_INDEX),
    byte (s.rd WAK_REASON_ATTEMPT), byte (s.rd PWR_STATUS_LAST_STATE)]
  if causes.isEmpty then s1
  else raise s1 7 true (p0Safety s1) (byte causes.length :: causes.map byte)

/-! ### SLEEP and what it loses -/

/-- The switch keeps its VLAN table and its static entries, and loses dynamic entries, queued frames and secure
associations (R74, R343, R369). -/
def switchLost (s : State) : State :=
  let s1 := (List.range 2).foldl (fun t k => (((t.wr (SW_MSEC_STAT_RX_AN_VALID k) 0).wr (SW_MSEC_STAT_TX_AN k) 0).wr
    (SW_MSEC_STAT_TX_ACTIVE k) 0).wr (SW_MSEC_STAT_PN_WARN k) 0) s
  let tab := s.sw.table.filter (fun e => e.2.static)
  (({ s1 with sw := { s1.sw with table := tab, queues := [], rxSa := [], txSa := [], tx := [], storms := [] } }).wr
    SW_BUF_STATUS_FREE_CELLS 4096).wr SW_STATUS_ENTRIES tab.length

/-- PLL_A is off in SLEEP, and PLL_F unless the fabric is held: what they clocked returns to FRC (Table 3.6). -/
def clocksInSleep (s : State) : State :=
  let s1 := (s.put (CLK_STATUS_LOCK 0) false).put CLK_SRC_SRC_APP false
  if s.flag PWR_CTL_HOLD_FABRIC then s1
  else showBuses (((s1.put (CLK_STATUS_LOCK 1) false).put CLK_SRC_SRC_FAB false).put CLK_SRC_SRC_SAF false)

/-- A context that SLEEP takes: READY becomes RELOADING (R437). -/
def ctxReloading (s : State) (c : Nat) : State :=
  if s.rd (INF_CTX_STAT_STATE c) = 2 then s.wr (INF_CTX_STAT_STATE c) 3 else s

/-- Entry into SLEEP completes (Tables 3.1 and 3.4, R72, R89). The domains of INF go off, so a job that still runs ends
without a record; the spec does not say so (log entry 81). -/
def goSleep (s0 : State) : State :=
  let s := closeBlocks s0
  let hold := s.flag PWR_CTL_HOLD_FABRIC
  let s1 := if hold then s else switchLost (emit (detachAll s 4) .powerDown)
  let s2 := (List.range 16).foldl ctxReloading (clocksInSleep s1)
  { s2 with
    pwr := { s2.pwr with ps := .sleep, armed := hold && s2.pwr.armed }
    spar := { s2.spar with wdgOn := false, dtEntry := dtNow s2, rtcEntry := rtc s2 }
    inf := { s2.inf with jobs := [], chA := { s2.inf.chA with kat := false }, chB := { s2.inf.chB with kat := false } }
    sns := { s2.sns with captured := none, confirm := [],
                         streams := s2.sns.streams.map (fun x => { x with suspended := true }) } }

/-! ### DEEP and OFF -/

/-- A channel that PWR_KEEP_OUT or PWR_KEEP_LED keeps on: it is on as a static level, and only HS20 to HS31 and the LED
channels qualify (R75); a follow channel stays on with a kept channel of its group (R282). -/
def keepsOn (s : State) (c : Chan) : Bool :=
  let still := match (chn s c).drv with | .on => true | _ => false
  match c.kind with
  | 1 => (20 ≤ c.idx && bit (s.rd PWR_KEEP_OUT_KEEP_HS) (c.idx - 20) && still)
      || (List.range 3).any (fun g => followOf s g == some c.idx
            && (List.range 8).any (fun k => bit (s.rd PWR_KEEP_LED_KEEP_LED) (8 * g + k) && drvOn (chn s ⟨4, 8 * g + k⟩).drv))
  | 4 => bit (s.rd PWR_KEEP_LED_KEEP_LED) c.idx && still
  | _ => false

/-- One output at entry into DEEP or OFF, or in the power-loss sequence: kept or off, a running descriptor cancelled (log
entry 13); a turning motor loses its position (R240). -/
def outputDown (keep : List Nat) (s : State) (c : Chan) : State :=
  if keep.contains (chKey c) then s
  else
    let s0 := if c.kind = 2 ∧ turning s c then posLost s c else s
    let s1 := endJob (endWait (abortKerf s0 c) c CANCELLED) c CANCELLED
    let s2 := switch1 s1 .off c
    setChn s2 c { chn s2 c with wait := none, limpDrive := .none, braking := false, retry := none }

/-- RAM that is not retained is lost: it reads zero afterwards (R577). -/
def retainedAddr (s : State) (a : Nat) : Bool :=
  if inSram a then bit (s.rd PWR_RETAIN_RETAIN) ((a - 0x10000000) / 262144) else s.flag PWR_CTL_SAF_RETAIN

/-- The outputs at entry into DEEP or OFF; a table still applied is parked until the wake. -/
def outputsDown (s : State) (keep : List Nat) : State :=
  let s1 := dropSeqs (fun _ => true) s
  let s2 := (governing s1).foldl (outputDown keep) s1
  { s2 with act := { s2.act with parked := limpActive s2, interim := false } }

/-- What goes out and what ends, before the control die and the link die go off: sleep requests, switch contents, contexts, the
clocks, held RANDOMs and volatile keys (R21, R129, R369, R375, R437, R478). -/
def diesEnd (s : State) : State :=
  let s1 := switchLost (sleepBuses (detachAll s 4))
  let s2 := [0, 1].foldl (fun t p => if (if p = 0 then t.chain.up0 else t.chain.up1) then emit t (.sleepRequest p) else t) s1
  let s3 := [0, 1, 2, 3].foldl (fun t g => if t.flag (SUB_T1S_CFG_SLEEP_SEND g) then emit t (.sleepRequest (2 + g)) else t) s2
  let lost := s3.inf.ctxs.map (fun e => e.1)
  let s4 := lost.foldl (fun t c => holdEvent (freeCtx t c) (ownerOr0 t 11 c) 67 false [byte c, 2]) s3
  let s5 := ((emit s4 .powerDown).wr CLK_STATUS_XF_OK 0).wr CLK_STATUS_FRC_OK 0
  let s6 := (List.range 3).foldl (fun t k => t.put (CLK_STATUS_LOCK k) false) s5
  let s7 := ((s6.wr CLK_SRC_SRC_APP 0).wr CLK_SRC_SRC_FAB 0).wr CLK_SRC_SRC_SAF 0
  clearSlots (s7.sec.held.foldl (fun t h => complete t SEC h.hdr 1 ENTROPY_TIMEOUT []) s7) (16 ≤ ·)

/-- What the control die and the link die lose in DEEP and OFF beside RAM (Table 3.4). -/
def diesDown (s : State) : State :=
  let t := linkOff (diesEnd s)
  showStreams { t with
    inf := { t.inf with jobs := [], chA := {}, chB := {} }
    sns := { t.sns with streams := [], captured := none, confirm := [] }
    sub := { t.sub with rx := [], can := t.sub.can.map (fun e => (e.1, { e.2 with rx := {} })),
                         lin := t.sub.lin.map (fun e => (e.1, { e.2 with rx := {}, sched := [], due := none })) }
    sto := { t.sto with jobs := [], flushes := [], dirty := [], mounted := [], unsaved := [] }
    sec := { t.sec with held := [], nonce := none }
    pwr := { t.pwr with cd := .off, armed := false, cores := [], seq := none }
    spar := { t.spar with wdgOn := false, dtEntry := dtNow t, rtcEntry := rtc t }
    rng := { t.rng with work := [] }
    dt := { t.dt with on := false } }

/-- The channels that stay on through an entry into DEEP. -/
def keepList (s : State) : List Nat := (allChans.filter (keepsOn s)).map chKey

/-- Entry into DEEP completes (R72 to R75): the REMOTE partitions detach first, and then every output that is not kept is
off. -/
def goDeep (s0 : State) : State :=
  let s := detachAll s0 4
  let keep := keepList s
  let s1 := diesDown (outputsDown s keep)
  { s1 with
    mem := tabKeep (retainedAddr s1) s1.mem
    pwr := { s1.pwr with ps := .deep, shadow := true, kept := keep,
                         unzeroed := (List.range 48).filter (fun n => !bit (s1.rd PWR_RETAIN_RETAIN) n) } }

/-- The stored rise of a channel at entry into OFF: to 1/255 of DTMAX, rounded up, in nanokelvin (R229). -/
def offRise (s : State) (c : Chan) (x : Chn) : Nat :=
  let top := dtMax s (wireClass s c)
  if top ≠ 0 then ((x.dT * 255 + top - 1) / top) * top / 255 else x.dT

/-- Entry into OFF completes: only MRAM, the store, fuses and the retention latches hold (Table 3.4). -/
def goOff (s : State) : State :=
  let s1 := diesDown (outputsDown (detachAll s 4) [])
  let s2 := allChans.foldl (fun t c => setChn t c { chn t c with dT := offRise t c (chn t c) }) s1
  { s2 with mem := [], pwr := { s2.pwr with ps := .off, shadow := false, kept := [], unzeroed := [] } }

/-- Enter a state by its code: 1 SLEEP, 2 DEEP, 3 OFF. -/
def goTo (s : State) (target : Nat) : State :=
  let s1 := match target with | 1 => goSleep s | 2 => goDeep s | _ => goOff s
  showDomains { s1 with pwr := { s1.pwr with entryAt := s1.now, entry := none, pinHeld := !s1.flag PWR_PINS_WAKEN_LVL } }

/-! ### Wake events -/

/-- A wake sequence is accepted: attempt 1 is due (R103). -/
def startSeq (s : State) (kind : StartKind) (code index : Nat) : State :=
  { s with pwr := { s.pwr with seq := some { kind := kind, code := code, index := index, since := s.now } } }

/-- The cores leave WFI and the request ends (R71). -/
def endRequest (s : State) : State :=
  let s1 := (s.wr PWR_NEXT_NEXT 0).wr PWR_SAF_ACK_ACK 0
  { s1 with pwr := { s1.pwr with entry := none, cores := [] } }

/-- An entry is aborted with a code of ABORT. -/
def abortEntry (s : State) (code : Nat) : State := endRequest (s.wr PWR_STATUS_ABORT code)

/-- A wake from SLEEP reaches its first instruction (R80, R89, R437). -/
def wakeSleep (s : State) (code index : Nat) : State :=
  let s1 := endRequest (adapt s false s.now)
  let s2 := (reportWake (s1.wr PWR_STATUS_LAST_STATE 2) code index 1)
  let owed := s2.pwr.owed
  let s3 := segWake <| firstInstr (wakeStreams { s2 with pwr := { s2.pwr with ps := .run, owed := [], woke := some s.now } })
  owed.foldl signal (wakeDone (showDomains s3) [])

/-- An accepted WAKE_N or an authenticated MAINT DEVICE_RESET clears HALTED and the loss record and starts a restart at
once, which records its bit of SPR_RST_CAUSE (R523). -/
def unhalt (s : State) (causeBit : Nat) : State :=
  let s1 := (s.put EVT_CDLOSS_HALTED false).wr EVT_CDLOSS_LOSSES 0
  let s2 := deviceReset ({ s1 with spar := { s1.spar with losses := [], commanded := false } }.orF SPR_RST_CAUSE_CAUSE
    (2 ^ causeBit))
  startSeq { s2 with pwr := { s2.pwr with cd := .off } } .restart (s2.rd WAK_REASON_CODE) (s2.rd WAK_REASON_INDEX)

/-- The effect of an accepted event on the state the device is in (R71, R84, R103, R106). -/
def wakeNow (s : State) (code index : Nat) : State :=
  match s.pwr.seq with
  | some q =>
    if !q.running ∧ q.attempt = 1 ∧ q.since = s.now ∧ code < q.code ∧ q.kind ≠ .por then
      { s with pwr := { s.pwr with seq := some { q with code := code, index := index } } }
    else s
  | none =>
    match s.pwr.entry with
    | some e =>
      if e.passed then
        match s.pwr.wakeAfter with
        | some (c, _) => if s.pwr.wakeAfterAt = s.now ∧ code < c then
            { s with pwr := { s.pwr with wakeAfter := some (code, index) } } else s
        | none => { s with pwr := { s.pwr with wakeAfter := some (code, index), wakeAfterAt := s.now } }
      else if s.pwr.ps = .sleep then wakeSleep (abortEntry s 1) code index
      else abortEntry (reportWake s code index 1) 1
    | none =>
      match s.pwr.ps with
      | .run => if s.pwr.woke = some s.now ∧ code < s.rd WAK_REASON_CODE then reportWake s code index 1 else s
      | .sleep => wakeSleep s code index
      | .deep => startSeq s .deep code index
      | .off => startSeq s .off code index
      | .sparOnly => startSeq s .sparOnly code index

/-- An event passes its filter (R92, R98, R107): it is seen; under LOCKOUT only WAKE_N acts, and it clears LOCKOUT. -/
def acceptWake (s : State) (code index : Nat) : State :=
  let s1 := s.orF WAK_SEEN_SEEN (2 ^ code)
  if code = 2 ∧ s1.flag EVT_CDLOSS_HALTED then unhalt s1 6
  else if s1.flag WAK_FAIL_LOCKOUT then
    if code = 2 then
      let s2 := (s1.put WAK_FAIL_LOCKOUT false).wr WAK_FAIL_SEQ_FAILS 0
      wakeNow { s2 with spar := { s2.spar with failed := [] } } code index
    else s1.bump WAK_FAIL_LOCKED_EVENTS 1
  else wakeNow s1 code index

/-- The state whose sources count as armed: the target of an entry, or the present state; within the tick that ended a
SLEEP, still SLEEP (R98). -/
def armState (s : State) : PState :=
  match s.pwr.entry with
  | some e => match e.target with | 1 => .sleep | 2 => .deep | _ => .off
  | none => if s.pwr.ps == .run && s.pwr.woke == some s.now then .sleep else s.pwr.ps

/-- A signal that a held engine owes, or a REMOTE descriptor for an engine that is not held, is to wake the device from
SLEEP (R68, R88, R89). -/
def ringDue (s : State) : Bool :=
  s.pwr.ps == .sleep && (!s.pwr.owed.isEmpty
    || (List.range 8).any (fun p => attached s p && (List.range 7).any (fun e => !engineOn s e && (List.range 4).any (fun k =>
        (ringAt s (ringKey p e k)).armed && (ringAt s (ringKey p e k)).prod != (ringAt s (ringKey p e k)).cons))))

/-- A source is armed by its bit of WAK_ARM and the enable bit of its input, bus or port; WAKE_N always is (R92, Table 4.1).
A kept output's fault is no wake event while a sequence runs (R108). -/
def armed (s : State) (code index : Nat) : Bool :=
  let a := s.rd WAK_ARM_SRC
  let b := s.rd WAK_BUS_EN_BUS
  let st := armState s
  let sd := st == .sleep || st == .deep
  let sdo := sd || st == .sparOnly
  match code with
  | 2 => true
  | 3 => sd && bit a 0 && bit (s.rd WAK_SI_EN_SI) index && bit (s.rd SIN_CYC_EN_CYC_EN) index
      && s.flag (SIN_CFG_EN index) && (index < 32 || s.rd (SIN_CFG_AMODE (index)) == 0)
  | 4 => sdo && bit a 1
  | 6 => sdo && bit a 2 && index < 4 && bit b index
  | 7 => sdo && bit a 3 && index < 6 && bit b (4 + index)
  | 8 => sdo && bit a 4 && index < 4 && bit b (10 + index)
  | 9 => sd && bit a 5 && index < 2 && bit b (14 + index)
  | 10 => sd && bit a 6 && index < 2 && bit b (16 + index)
  | 11 => st == .deep && s.pwr.seq.isNone && bit a 7
  | 12 => ringDue s
  | _ => false

/-- The RTC and the alarm have become equal: the alarm wakes when it is armed (R39, Table 4.1). -/
def alarmFire (s : State) : State := if armed s 4 0 then acceptWake s 4 0 else s

/-- The alarm is past at the check of Table 3.3 (R96). -/
def alarmPast (s : State) : Bool :=
  let d := (s.rd SPR_RTC_ALARM_ALARM + 2 ^ 48 - rtc s) % 2 ^ 48
  bit (s.rd WAK_ARM_SRC) 1 && (d < 32 || 2 ^ 47 ≤ d)

end Sys2Proof.Machine
end

