-- ==== Sys2Proof/Machine/Spar.lean ====
section
/-! DEFINITION.
The spar domain's commands (chapter 2): resets, the control watchdog, the slow clocks, the RTC, device time and the
fast clocks; and the passing of one tick of XS, which is what a step does on an empty queue.
-/

namespace Sys2Proof.Machine

/-! ### Time -/

/-- One microsecond in the units of the slew, 1/64,000,000 ns. -/
abbrev slewUs : Int := 64000000000

/-- What one tick of XS moves of a slew: 500 ppm of the tick towards the offset, until 1 µs of it is left (R42). -/
def slewStep (left : Int) : Int :=
  if left < 0 then max (-976562500) (min 0 (left + slewUs)) else min 976562500 (max 0 (left - slewUs))

/-- Device time advances by one tick of XS: 1,953,125/64 ns, with the rate correction in force and, while it slews,
500 ppm towards the offset (R41, R42). -/
def dtTick (s : State) : State :=
  if s.dt.on then
    let m : Int := if s.dt.slewing then slewStep s.dt.slew else 1953125 * s.dt.ppm
    let t : Int := s.dt.frac + 1953125000000 + m
    { (s.wr SPR_DT_DT (intBits 64 ((dtNow s : Int) + t / 64000000))) with
      dt := { s.dt with frac := (t % 64000000).toNat, slew := if s.dt.slewing then s.dt.slew - m else s.dt.slew } }
  else s

/-- The sequences and losses that have left their spans of RTC time no longer count (R107, R523). -/
def ageRecords (s : State) : State :=
  let f := s.spar.failed.filter (fun t => rtcSince s t ≤ 3600 * 32768)
  let l := freshLosses s
  (({ s with spar := { s.spar with failed := f, losses := l } }).wr WAK_FAIL_SEQ_FAILS (min f.length 8)).wr
    EVT_CDLOSS_LOSSES (min l.length 255)

/-- The 802.1AS role of a chain port (R128): 0 none, 1 slave, 2 master. With EXT_CFG at 1 the upstream port of the cruise
is the slave port and the other one the master port. With EXT_CFG at 0 the BMCA runs with priority1 255, so that the unit
never is the grandmaster: without a better clock no port is a master, and once one is heard on a port (DT_CORRECTION),
that port is the slave port. -/
def asRole (s : State) (port : Nat) : Nat :=
  if s.flag CHN_PORT_CFG_EXT_CFG then (if s.chain.cruised then (if port = upstream s then 1 else 2) else 0)
  else match s.chain.gmPort with
    | some g => if port = g then 1 else 2
    | none => 0

/-- Ticks of the sync interval, 2^SYNC_LOG s with SYNC_LOG from −7 to 0 (R128). -/
def syncTicks (s : State) : Nat := 2 ^ (15 + s.rdInt CHN_PORT_CFG_SYNC_LOG).toNat

/-- A chain port can carry the unit's own 802.1AS messages. -/
def asOpen (s : State) (port : Nat) : Bool :=
  cdUp s && s.pwr.ldUp && !offChain s && (if port = 0 then s.chain.up0 else s.chain.up1)

/-- At its tick each master port sends a Sync, at the sync interval, and each port a pdelay request, once per second; both
grids are counted from the power-on reset (R128; log entry 82). -/
def timeFrames (s : State) : State :=
  [0, 1].foldl (fun t p =>
    let t1 := if asOpen t p && t.now % 32768 == 0 then emit t (.pdelay p) else t
    if asOpen t1 p && asRole t1 p == 2 && t1.now % syncTicks t1 == 0 then emit t1 (.sync p) else t1) s

/-- MSEC_PN_WARN of secure associations whose packet numbers the unit's own Zilek frames have taken past the warning
(R368). -/
def warnPn (s : State) : State :=
  s.sw.pnWarn.foldl (fun t x => raise t 47 false [0] [byte x.1, byte x.2]) { s with sw := { s.sw with pnWarn := [] } }

/-- One tick of XS passes (log entry 4): the RTC counts while the spar domain runs and its alarm fires at equality,
device time advances, the unit's 802.1AS messages go out, the records of failed sequences and losses age, a due scan of
the tally is made, and a signal that is owed ends SLEEP (R89). -/
def tick (s : State) : State :=
  let s1 := timeFrames (warnPn (dtTick (endChecks { s with now := s.now + 1, pwr := { s.pwr with woke := none } })))
  if sparRuns s1 then
    let s2 := ageRecords (s1.wr SPR_RTC_RTC ((rtc s1 + 1) % 2 ^ 48))
    let s3 := if s2.flag TLY_STATUS_SCAN_DONE then s2 else mirrorScan s2
    let s4 := if rtc s3 = s3.rd SPR_RTC_ALARM_ALARM then alarmFire s3 else s3
    if ringDue s4 then acceptWake s4 12 0 else s4
  else s1

/-! ### Resets (R48 to R51) -/

/-- POWER_ON_RESET (R48, R556): VSPAR has risen to `mv` millivolts; the supervisor releases at 3.90 V ± 0.15 V. -/
def execPowerOnReset (mv : Nat) (s : State) : Res :=
  let r := above s mv 3900 150
  .next (if r.1 then showDomains (powerOn r.2 mv) else r.2)

/-- VSPAR_FALL (R86, R505): the device is unpowered until VSPAR rises; a tally write under way is cut in the stage
named (0 none, 1 half A, 2 half B). -/
def execVsparFall (stage : Fin 5) (s : State) : Res :=
  let s1 := if s.spar.up then tallyCut s stage.val else s
  let s2 := linkOff (allChans.foldl (fun t c => switch1 (dropJob t c) .off c) s1)
  .next { s2 with pwr := { s2.pwr with ps := .off, cd := .off, armed := false, seq := none, entry := none, linkDue := none }
                  spar := { s2.spar with powered := false, up := false, wdgOn := false }, dt := { s2.dt with on := false } }

/-- SPAR_WDG_EXPIRY (R52): a spar reset, recorded with the function that was in progress. -/
def execSparWdgExpiry (fn : Fin 8) (s : State) : Res :=
  .next (if s.spar.up && sparRuns s then tally ((sparReset s).orF SPR_RST_CAUSE_CAUSE 2) 2 [byte fn.val] else s)

/-- SPAR_RESET_DONE (R49, R65, R97): the firmware runs again; from SLEEP, DEEP or SPAR_ONLY a wake with reason
SPAR_RST follows at once. -/
def execSparResetDone (s : State) : Res :=
  if s.spar.up || !s.spar.powered then .next s
  else
    let s1 := { s with spar := { s.spar with up := true } }
    .next (match s.pwr.ps with
      | .sleep => acceptWake s1 14 0
      | .deep => acceptWake s1 14 0
      | .sparOnly => acceptWake s1 14 0
      | _ => s1)

/-- SPR_RST_CMD (R51): P0's key performs a device reset; anything else counts as a seal violation. -/
def execSprRstCmd (w : Writer) (v : Word) (s : State) : Res := whileCd s <|
  if w = .p0 ∧ v.toNat = 0xD0E5 then showDomains (commandReset s 3) else violate s

/-! ### The control watchdog (R52 to R56) -/

/-- The safety island's feed is required (R56). -/
def safFeed (s : State) : Bool := s.flag SPR_WDG_CFG_SAF_FEED && (safetyPart s).isSome

/-- The feeds missing since the last complete feed: bit 0 P0's, bit 1 the safety island's. -/
def feedsMissing (s : State) : Nat :=
  (if s.spar.wdgP0 then 0 else 1) + (if safFeed s && !s.spar.wdgSaf then 2 else 0)

/-- An expiry: CONTROL_WDG is recorded, and the control die is declared lost (R21, R52). -/
def wdgExpire (s : State) : State :=
  if s.spar.wdgOn && cdUp s then
    let s1 := tally (s.orF SPR_RST_CAUSE_CAUSE 16) 10
      (leBytes 2 s.spar.wdgPeriod ++ [byte (if s.flag SPR_WDG_CFG_SAF_FEED then 1 else 0), byte (feedsMissing s)])
    showDomains (controlLost s1 3)
  else s

/-- The window is open: CLOSED/8 of PERIOD has passed since the last complete feed, and PERIOD has not (R53). -/
def wdgOpen (s : State) : Bool :=
  let t := (s.now - s.spar.wdgSince) * 8000
  s.spar.wdgClosed * s.spar.wdgPeriod * 32768 ≤ t && t < 8 * s.spar.wdgPeriod * 32768

/-- A home gives its half of a feed inside the open window; the feed is complete when no half is missing (R53). -/
def giveFeed (s : State) (w : Writer) : State :=
  if !wdgOpen s then wdgExpire s
  else
    let s1 := { s with spar := { s.spar with wdgP0 := s.spar.wdgP0 || w == .p0,
                                             wdgSaf := s.spar.wdgSaf || w == .safety } }
    if feedsMissing s1 = 0 then feedNow s1 else s1

/-- CONTROL_WDG_EXPIRY (R52, R53): PERIOD has passed without a complete feed. -/
def execControlWdgExpiry (s : State) : Res :=
  .next (if lasted s s.spar.wdgSince (1000 * s.spar.wdgPeriod) then wdgExpire s else s)

/-- SPR_WDG_FEED (R53, R56): each home has its own value; any other value is an expiry, and the safety island's value
is ignored while it is not required. -/
def execSprWdgFeed (w : Writer) (v : Word) (s : State) : Res := whileCd s <|
  if !s.spar.wdgOn then s
  else match w with
    | .p0 => if v.toNat = 0xA55A then giveFeed s .p0 else wdgExpire s
    | .safety => if v.toNat = 0x5AA5 then (if safFeed s then giveFeed s .safety else s) else wdgExpire s

/-- WDG_WARN (R53): three quarters of PERIOD have passed without a complete feed. -/
def execWdgWarn (s : State) : Res := whileCd s <|
  if s.spar.wdgOn && !s.spar.wdgWarned && lasted s s.spar.wdgSince (750 * s.spar.wdgPeriod) then
    raise { s with spar := { s.spar with wdgWarned := true } } 3 true (p0Safety s)
      (leBytes 2 (s.spar.wdgPeriod * 3 / 4) ++ [byte (feedsMissing s)])
  else s

/-! ### The slow clocks (R35 to R37) -/

/-- XS is declared failed by a criterion (1 no edge, 2 ratio): the spar domain goes to the LPO (R36). -/
def xsFail (s : State) (criterion : Nat) : State :=
  let s1 := { s with spar := { s.spar with xsPass := false } }
  if s.flag SPR_STATUS_XS_OK then
    let s2 := ((s1.put SPR_STATUS_XS_OK false).put SPR_STATUS_RTC_DEGRADED true).orF SPR_RST_CAUSE_CAUSE 128
    let s3 := if dtStatus s2 = 1 then s2.wr SPR_DT_STATUS_STATE 0 else s2
    let pl := [byte criterion, 0, 0, 0] ++ leBytes 4 s.spar.ratio
    tally (raise s3 0 false [0] pl) 3 pl
  else s1

/-- XS_NO_EDGE_TIMEOUT (R35). -/
def execXsNoEdgeTimeout (s : State) : Res := .next (if sparRuns s then xsFail s 1 else s)

/-- XS_RATIO_CHECK (R35): `ratio` is the interval's LPO cycles per 1,024 ticks, times 2^16. -/
def execXsRatioCheck (ratio : Nat) (s : State) : Res :=
  .next (if !sparRuns s then s
    else if 10 * (max ratio s.spar.ratio - min ratio s.spar.ratio) > s.spar.ratio then xsFail s 2
    else { s with spar := { s.spar with xsPass := true } })

/-- LPO_CALIBRATE (R36): the ratio is taken while XS passes. -/
def execLpoCalibrate (ratio : Nat) (s : State) : Res :=
  .next (if s.spar.up && sparRuns s && s.spar.xsPass then { s with spar := { s.spar with ratio := ratio } } else s)

/-- XS_RETURN (R37): XS has passed for 1 s, and is the reference again; RTC_DEGRADED stays. -/
def execXsReturn (s : State) : Res :=
  .next (if sparRuns s && s.spar.xsPass then s.put SPR_STATUS_XS_OK true else s)

/-! ### The RTC and its alarm (R38, R39) -/

/-- Fire the alarm when a write has made the RTC and the alarm equal. -/
def fireIfMet (before after : State) : State :=
  if rtc before ≠ before.rd SPR_RTC_ALARM_ALARM ∧ rtc after = after.rd SPR_RTC_ALARM_ALARM then alarmFire after else after

/-- RTC_WRITE (R37 to R40): P0 writes a word of the RTC; `hi` is SPR_RTC_HI. -/
def execRtcWrite (w : Writer) (hi : Bool) (v : Word) (s : State) : Res := whileCd s <|
  if w = .safety then violate s
  else
    let s1 := writeWord s (if hi then 0x14 else 0x10) v.toNat
    let moved := (s.sto.rtcStart + rtc s1 + 2 ^ 48 - rtc s) % 2 ^ 48
    let s0 := { s1 with sto := { s1.sto with rtcStart := moved } }
    let s2 := if s1.flag SPR_STATUS_XS_OK then s0.put SPR_STATUS_RTC_DEGRADED false else s0
    fireIfMet s (if dtStatus s2 = 0 then s2.wr SPR_DT_STATUS_STATE 1 else s2)

/-- RTC_ALARM_WRITE (R39). -/
def execRtcAlarmWrite (w : Writer) (hi : Bool) (v : Word) (s : State) : Res := whileCd s <|
  if w = .safety then violate s else fireIfMet s (writeWord s (if hi then 0x1C else 0x18) v.toNat)

/-- RTC_ALARM_FIRE (R39): the tick that makes the RTC equal to the alarm has come. -/
def execRtcAlarmFire (s : State) : Res :=
  .next (if sparRuns s && rtc s != s.rd SPR_RTC_ALARM_ALARM then
      alarmFire (s.wr SPR_RTC_RTC (s.rd SPR_RTC_ALARM_ALARM)) else s)

/-! ### Device time (R40 to R43, R62) -/

/-- A step rebases accepted, unstarted timed work (R43). -/
def rebase (step : Int) (w : Work) : Work :=
  if w.timed ∧ !w.started then
    { w with notBefore := intBits 64 ((w.notBefore : Int) + step), hdr := { w.hdr with rebased := true } }
  else w

/-- The partitions in state RUNNING. -/
def runningParts (s : State) : List Nat := (List.range 8).filter (fun p => partState s p == 2)

/-- DT_CORRECTION (R42, R43, R128): 802.1AS on the slave port requires a correction; one within STEP_THRESH is slewed, a
larger one stepped at once. Under the BMCA the port it comes from is the slave port. -/
def execDtCorrection (port : Fin 2) (offset : Int) (s0 : State) : Res := whileCd s0 <|
  let s1 := { s0 with dt := { s0.dt with syncAt := s0.now } }
  let s := if s0.flag CHN_PORT_CFG_EXT_CFG then s1 else { s1 with chain := { s1.chain with gmPort := some port.val } }
  if !s.dt.on || asRole s port.val == 2 then s0
  else if offset.natAbs ≤ s.rd SPR_DT_CFG_STEP_THRESH * 1000 then
    if offset.natAbs ≤ 1000 then
      ({ s with dt := { s.dt with slew := offset * 64000000, slewing := false } }).wr SPR_DT_STATUS_STATE 2
    else { s with dt := { s.dt with slew := offset * 64000000, slewing := true } }
  else
    let ep := (s.rd SPR_DT_STATUS_EPOCH + 1) % 256
    let s0 := stepGates (closeBlocks s) offset
    let s1 := ((s0.wr SPR_DT_DT (intBits 64 ((dtNow s : Int) + offset))).wr SPR_DT_STATUS_EPOCH ep).wr SPR_DT_STATUS_STATE 2
    let s2 := { s1 with dt := { s1.dt with slew := 0, slewing := false, stepped := s1.dt.stepped + offset }
                        rng := { s1.rng with work := s1.rng.work.map (rebase offset) } }
    raise s2 1 false (runningParts s2) (leBytes 8 (intBits 64 offset) ++ [byte ep])

/-- DT_SYNC_REACHED (R42): 802.1AS finds the remaining offset of a slew at 1 µs or less, so device time is in SYNC. It does
not move; the rate that holds it from here is open, within 500 ppm. -/
def execDtSyncReached (s : State) : Res := whileCd s <|
  if s.dt.slewing then
    let left : Int := max (-slewUs) (min slewUs s.dt.slew)
    let ppm : Int := ((freeDraw s).toNat % 1001 : Nat) - 500
    ({ freeNext s with dt := { s.dt with slew := left, slewing := false, ppm := ppm } }).wr SPR_DT_STATUS_STATE 2
  else s

/-- SYNC_LOSS (R40): without a valid sync for LOSS_TIME, SYNC becomes COARSE, and the last rate correction is kept. -/
def execSyncLoss (s : State) : Res :=
  whileCd s (if dtStatus s = 2 ∧ lasted s s.dt.syncAt (10000 * s.rd SPR_DT_CFG_LOSS_TIME) then s.wr SPR_DT_STATUS_STATE 1 else s)

/-! ### The fast clocks (R44 to R47) -/

/-- A PLL of R44 is locked: 0 PLL_A, 1 PLL_F, 2 PLL_L. -/
def locked (s : State) (pll : Nat) : Bool := s.flag (CLK_STATUS_LOCK pll)

/-- The enable bit of a PLL. -/
def pllEn (s : State) (pll : Nat) : Bool :=
  match pll with | 0 => s.flag CLK_PLL_CFG_PLLA_EN | 1 => s.flag CLK_PLL_CFG_PLLF_EN | _ => s.flag CLK_PLL_CFG_PLLL_EN

/-- A PLL clocks something: CLK_SRC selects it, or it is PLL_L, which the link PHYs use whenever it is locked. -/
def pllUsed (s : State) (pll : Nat) : Bool :=
  match pll with
  | 0 => s.flag CLK_SRC_SRC_APP
  | 1 => s.flag CLK_SRC_SRC_FAB || s.flag CLK_SRC_SRC_SAF
  | _ => locked s 2

/-- The bypass is wanted for a cause of R124. -/
def wantBypass (s : State) (cause : Nat) : State :=
  if s.chain.causes.contains cause then s else { s with chain := { s.chain with causes := s.chain.causes ++ [cause] } }

/-- The consumers of a PLL go back to FRC. -/
def toFrc (s : State) (pll : Nat) : State :=
  match pll with
  | 0 => s.put CLK_SRC_SRC_APP false
  | 1 => showBuses ((s.put CLK_SRC_SRC_FAB false).put CLK_SRC_SRC_SAF false)
  | _ => s

/-- A PLL stops: its consumers fall back to FRC when it was in use, FALLBACK sets and P0 learns of it (R47); without
PLL_L the chain goes to the bypass (R113). -/
def pllStop (s : State) (pll : Nat) : State :=
  let s1 := s.put (CLK_STATUS_LOCK pll) false
  if pllUsed s pll then
    let s2 := raise ((toFrc s1 pll).put CLK_STATUS_FALLBACK true) 2 true [0] [byte (pll + 1)]
    if pll = 2 then wantBypass s2 3 else s2
  else s1

/-- CLK_SRC_WRITE (R46): a selection of a PLL that is not locked is refused as a whole. -/
def execClkSrcWrite (w : Writer) (v : Word) (s : State) : Res := whileCd s <|
  if w = .safety then violate s
  else
    let a := fieldIn CLK_SRC_SRC_APP v = 1
    let f := fieldIn CLK_SRC_SRC_FAB v = 1 ∨ fieldIn CLK_SRC_SRC_SAF v = 1
    if (a ∧ !locked s 0) ∨ (f ∧ !locked s 1) then s.put CLK_STATUS_REFUSED true
    else
      let s1 := writeWord s 0x10000 v.toNat
      if s1.regs = s.regs then s1 else showBuses (s1.put CLK_STATUS_SWITCHING true)

/-- CLK_SWITCH_DONE (R46). -/
def execClkSwitchDone (s : State) : Res := .next (s.put CLK_STATUS_SWITCHING false)

/-- CLK_PLL_CFG_WRITE (R47): a PLL whose enable bit becomes 0 stops. -/
def execClkPllCfgWrite (w : Writer) (v : Word) (s : State) : Res := whileCd s <|
  if w = .safety then violate s
  else
    let s1 := writeWord s 0x10010 v.toNat
    [0, 1, 2].foldl (fun t k => if pllEn s k && !pllEn s1 k then pllStop t k else t) s1

/-- PLL_LOCK (R44, R101): an enabled PLL locks once XF is ready. -/
def execPllLock (pll : Fin 3) (s : State) : Res :=
  .next (if cdUp s && pllEn s pll.val && s.flag CLK_STATUS_XF_OK then s.put (CLK_STATUS_LOCK pll.val) true else s)

/-- PLL_LOCK_LOSS (R47). -/
def execPllLockLoss (pll : Fin 3) (s : State) : Res := whileCd s <|
  if locked s pll.val then pllStop s pll.val else s

/-- XF_FAIL (R47, R113): one event names XF; every PLL loses its lock, and the chain goes to the bypass. -/
def execXfFail (s : State) : Res := whileCd s <|
  if s.flag CLK_STATUS_XF_OK then
    let s1 := [0, 1, 2].foldl (fun t k => toFrc (t.put (CLK_STATUS_LOCK k) false) k) (s.put CLK_STATUS_XF_OK false)
    wantBypass (raise (s1.put CLK_STATUS_FALLBACK true) 2 true [0] [4]) 3
  else s

/-- XF is enabled: with CORE PGOOD of a running attempt, or as long as the control die runs (Table 3.7). -/
def xfOn (s : State) : Bool := cdUp s || (match s.pwr.seq with | some q => q.running && q.corePg | none => false)

/-- XF_READY (R47, R101). -/
def execXfReady (s : State) : Res := .next (if xfOn s then s.put CLK_STATUS_XF_OK true else s)

/-! ### Declared losses (R21) -/

/-- CORE_PGOOD_LOST (R21): the core rail fails while the control die is meant to run. -/
def execCorePgoodLost (s : State) : Res :=
  .next (if s.pwr.armed && cdUp s then showDomains (controlLost s 2) else s)

/-- CD_RESTART (R522, R523): the spar core holds the control die in device reset and makes attempt 1 due, unless the
loss limit, LOCKOUT or a power-loss sequence holds the restart back. -/
def execCdRestart (s : State) : Res :=
  if s.pwr.cd != .lost || s.flag EVT_CDLOSS_HALTED || s.flag WAK_FAIL_LOCKOUT || s.sto.failing || s.sto.inputLow
     || s.pwr.seq.isSome then .next s
  else
    let s1 := if s.spar.commanded then s else deviceReset (s.orF SPR_RST_CAUSE_CAUSE 64)
    let s2 := { s1 with spar := { s1.spar with commanded := false }, pwr := { s1.pwr with cd := .off } }
    .next (showDomains (startSeq s2 .restart (s2.rd WAK_REASON_CODE) (s2.rd WAK_REASON_INDEX)))

end Sys2Proof.Machine
end

