-- ==== Sys2Proof/Machine/Power.lean ====
section
/-! DEFINITION.
The power-state commands (chapter 3): WFI and IDLE of the cores, requests, the checks of an entry, its completion, and
the timers that deepen a sleep.
-/

namespace Sys2Proof.Machine

/-- Every core of a list is at rest: in WFI or IDLE. -/
def coresRest (s : State) (l : List Nat) : Bool := l.all (fun k => tabGet .run s.pwr.cores k != .run)

/-- Set a core's state. -/
def setCore (s : State) (k : Nat) (c : CoreState) : State :=
  { s with pwr := { s.pwr with cores := tabSet .run s.pwr.cores k c } }

/-- An entry begins (R70). -/
def beginEntry (s : State) (target : Nat) (idle : Bool) : State :=
  { s with pwr := { s.pwr with entry := some { target := target, idle := idle, since := s.now } } }

/-- CORE_WFI (R69, R70): cores 0 to 3 are the application cores, 4 and 5 the safety pairs. A core that executes WFI while
PWR_NEXT reads NONE goes on to IDLE after CORE_IDLE_T; one that executes it while an entry is requested waits for the entry.
The last running application core's WFI begins a requested entry. -/
def execCoreWfi (core : Fin 6) (s : State) : Res := whileCd s <|
  if s.pwr.ps != .run then s
  else
    let s0 := { s with pwr := { s.pwr with wfiAt := tabSet 0 s.pwr.wfiAt core.val s.now } }
    let s1 := setCore s0 core.val (if s.rd PWR_NEXT_NEXT = 0 then .wfi else .held)
    if s.rd PWR_NEXT_NEXT ≠ 0 ∧ s.pwr.entry.isNone ∧ core.val < 4 ∧ coresRest s1 [0, 1, 2, 3] then
      beginEntry s1 (s.rd PWR_NEXT_NEXT) false
    else s1

/-- CORE_IDLE (R69): an application core that has been in WFI for CORE_IDLE_T has its clocks off. -/
def execCoreIdle (core : Fin 4) (s : State) : Res := whileCd s <|
  if s.pwr.ps = .run ∧ tabGet .run s.pwr.cores core.val = .wfi
      ∧ lasted s (tabGet 0 s.pwr.wfiAt core.val) (s.rd PWR_IDLE_CFG_CORE_IDLE_T / 10) then setCore s core.val .idle else s

/-- CORE_WAKE (R68): an interrupt or debug request returns a core to RUN. -/
def execCoreWake (core : Fin 6) (s : State) : Res := whileCd s <|
  if s.pwr.ps = .run then setCore s core.val .run else s

/-- The state an idle-timer entry goes to: POLICY, or the scaler's choice (R69, R322). -/
def idleTarget (s : State) : Nat :=
  if s.rd PWR_CTL_POLICY ≠ 2 then 1
  else if s.flag SCL_CFG_POL_ADAPT then
    let l := s.pwr.sleeps
    if s.rd CHN_ATTACH_ATTACHED ≠ 0 ∨ (l.length = 8 ∧ l.foldl (· + ·) 0 < 8 * 40000) then 1 else 2
  else 2

/-- Accepted work that keeps the device from idling; a posted receive buffer waits for a frame and does not (chapter 3, on
the bench; log entry 83). -/
def keepsAwake (w : Work) : Bool := !(w.started && ((w.eng == NET && w.opcode == 2) || (w.eng == BUS && w.opcode == 3)))

/-- DEV_IDLE_TIMEOUT (R69): all cores and both safety pairs rest, no engine holds accepted work, and AUTO is set. -/
def execDevIdleTimeout (s : State) : Res := whileCd s <|
  if s.flag PWR_CTL_AUTO ∧ s.pwr.ps = .run ∧ s.pwr.entry.isNone ∧ s.rd PWR_NEXT_NEXT = 0
      ∧ coresRest s [0, 1, 2, 3, 4, 5] ∧ !s.rng.work.any keepsAwake then beginEntry s (idleTarget s) true
  else s

/-- PWR_NEXT_WRITE (R70, R90, Table 3.9): writes of other partitions, of NEXT 4 to 7 and during an entry are refused. -/
def execPwrNextWrite (w : Writer) (v : Word) (s : State) : Res := whileCd s <|
  if w = .safety then violate (s.bump PWR_STATUS_REFUSED_CNT 1)
  else if fieldIn PWR_NEXT_NEXT v ≥ 4 ∨ s.pwr.entry.isSome then s.bump PWR_STATUS_REFUSED_CNT 1
  else writeWord s 0x20000 v.toNat

/-- PWR_SAF_ACK (R70): consent is the safety partition's to give. -/
def execPwrSafAck (w : Writer) (v : Word) (s : State) : Res := whileCd s <|
  if w = .safety then (if fieldIn PWR_SAF_ACK_ACK v = 1 then s.put PWR_SAF_ACK_ACK true else s) else violate s

/-- Row 4 of Table 3.3: a half-bridge runs a drive, a reversal or a timed brake, a solenoid runs a profile, or write-back
data waits. A brake that holds until the next descriptor does not count, as a held last segment does not (R268). -/
def entryBusy (s : State) : Bool :=
  (allChans.any (fun c => (match (chn s c).drv with
    | .profile _ _ => c.kind == 3
    | .bridge b => b.mode == 3 || b.mode == 4
    | _ => false) || (c.kind == 2 && ((chn s c).safe == .reverse || (chn s c).braking || (chn s c).wait.isSome
        || (chn s c).limpDrive == .drive || (chn s c).limpDrive == .brake)))) || !s.sto.dirty.isEmpty

/-- The consent of row 3 is missing. An entry from SLEEP asks for none: the safety island's clocks are off there, and it has
consented to the sleep (log entry 84). -/
def consentMissing (s : State) : Bool := s.flag PWR_CTL_SAF_CONSENT && !s.flag PWR_SAF_ACK_ACK && s.pwr.ps != .sleep

/-- The engine is off in the target state, so it holds no timed descriptor through it (R89). -/
def engineOff (s : State) (target eng : Nat) : Bool :=
  target ≥ 2 || !s.flag PWR_CTL_HOLD_FABRIC || [SNS, STO, INF, SEC].contains eng

/-- Row 5 of Table 3.3: accepted, unexecuted timed descriptors. -/
def timedPending (s : State) (target : Nat) : List Work :=
  s.rng.work.filter (fun w => w.timed && !w.started && engineOff s target w.eng)

/-- A descriptor that never started completes with CANCELLED; an ACT record carries its channel's snapshot. -/
def cancelWork (s : State) (w : Work) : State :=
  finish s w.eng w.hdr w.opcode CANCELLED (plainResult s w.eng w.opcode w.hdr w.body)

/-- A check of Table 3.3 stops an entry: from RUN the entry is aborted and the cores leave WFI; from SLEEP the device stays
in SLEEP with the code in ABORT, since no wake source has fired (log entry 84). -/
def stopEntry (s : State) (code : Nat) : State :=
  if s.pwr.ps = .sleep then { s.wr PWR_STATUS_ABORT code with pwr := { s.pwr with entry := none } } else abortEntry s code

/-- The checks of Table 3.3 once nothing has to be waited for. -/
def checkTimed (s : State) (e : Entry) : State :=
  let l := timedPending s e.target
  if l.isEmpty ∨ s.flag PWR_NEXT_FORCE then
    let t := l.foldl cancelWork s
    { t with pwr := { t.pwr with entry := some { e with passed := true } } }
  else stopEntry s 4

/-- A past alarm at an entry (R96): the wake is reported as for a completed one, and ends a SLEEP. -/
def pastAlarm (s : State) : State :=
  let s1 := s.orF WAK_SEEN_SEEN 32
  if s.pwr.ps = .sleep then wakeSleep (abortEntry s1 2) 5 0 else abortEntry (reportWake s1 5 0 1) 2

/-- POWER_ENTRY (R71): the checks in order; rows 3 and 4 wait. -/
def execPowerEntry (s : State) : Res := whileCd s <|
  match s.pwr.entry with
  | none => s
  | some e =>
    if e.passed then s
    else if e.target ≥ 2 ∧ alarmPast s then pastAlarm s
    else if consentMissing s || entryBusy s then s
    else checkTimed s e

/-- ENTRY_WAIT_TIMEOUT (R71): what still waits at ENTRY_WAIT aborts the entry. -/
def execEntryWaitTimeout (s : State) : Res := whileCd s <|
  match s.pwr.entry with
  | none => s
  | some e =>
    if e.passed || !lasted s e.since (1000 * s.rd PWR_CTL_ENTRY_WAIT) then s
    else if consentMissing s then stopEntry s 5
    else if entryBusy s then stopEntry s 3
    else s

/-- ENTRY_COMPLETE (R72 to R74, R84): the state is entered; an event accepted after the checks then wakes at once. The spec
does not say when ABORT returns to 0; here a completed entry clears it (log entry 85). -/
def execEntryComplete (s : State) : Res := whileCd s <|
  match s.pwr.entry with
  | none => s
  | some e =>
    if e.passed then
      let s1 := ((s.wr PWR_NEXT_NEXT 0).wr PWR_SAF_ACK_ACK 0).wr PWR_STATUS_ABORT 0
      let s2 := goTo { s1 with pwr := { s1.pwr with idleEntry := e.idle, wakeAfter := none } } e.target
      match s.pwr.wakeAfter with
      | some (c, i) => wakeNow s2 c i
      | none => s2
    else s

/-- DEEP_AFTER_TIMEOUT (R68): an entry from SLEEP into DEEP begins, with the checks of Table 3.3 to come (R71). -/
def execDeepAfterTimeout (s : State) : Res := whileCd s <|
  if s.pwr.ps = .sleep ∧ s.rd PWR_IDLE_CFG_DEEP_AFTER ≠ 0 ∧ s.pwr.entry.isNone
      ∧ lasted s s.pwr.entryAt (60000000 * s.rd PWR_IDLE_CFG_DEEP_AFTER) then beginEntry s 2 s.pwr.idleEntry else s

/-- OFF_AFTER_TIMEOUT (R68): DEEP becomes OFF; a past alarm ends the sleep instead (log entry 14). Rows 3 to 5 of Table 3.3
concern what DEEP has already stopped. -/
def execOffAfterTimeout (s : State) : Res :=
  .next (if s.pwr.ps = .deep ∧ s.pwr.seq.isNone ∧ s.rd PWR_IDLE_CFG_OFF_AFTER ≠ 0
      ∧ lasted s s.pwr.entryAt (14400000000 * s.rd PWR_IDLE_CFG_OFF_AFTER) then
      (if alarmPast s then acceptWake (s.wr PWR_STATUS_ABORT 2) 5 0 else goTo s 3)
    else s)

end Sys2Proof.Machine
end

