-- ==== Sys2Proof/Machine/Waking.lean ====
section
/-! DEFINITION.
The wake commands (chapter 4) and the start of the control die (R41, R77, R530, R548, R577).
-/

namespace Sys2Proof.Machine

/-! ### Events -/

/-- A filter time is surely reached, or surely missed, by a time in microseconds: measured on the LPO, it carries that
clock's tolerance of 5 % (R92). `num` scales the limit in percent. -/
def surely (s : State) (us lim num : Nat) : Bool :=
  decide (lim * num * (if s.flag SPR_STATUS_RTC_DEGRADED then 105 else 100) ≤ us * 10000)
def surelyNot (s : State) (us lim num : Nat) : Bool :=
  decide (us * 10000 < lim * num * (if s.flag SPR_STATUS_RTC_DEGRADED then 95 else 100))

/-- What a source's filter makes of a signal (Table 4.1): accepted, rejected, or between the two limits, where the spec decides
nothing. -/
def filter (s : State) (code : Nat) (sig : WakeSig) : Option Bool :=
  match code, sig with
  | 2, .low us =>
    let off := s.pwr.ps == .off
    let f := if off then 200 else 100 * s.rd WAK_FILT_WAKEN_FILT
    if surely s us f (if off then 100 else 105) then some true
    else if surelyNot s us f (if off then 25 else 95) then some false else none
  | 6, .pattern a b c total =>
    let t := 10000 * s.rd WAK_FILT_CAN_TWAKE
    if a < 5 ∨ b < 5 ∨ c < 5 ∨ (surely s total t 100 ∧ t < total) then some false
    else if surely s a 50 100 ∧ surely s b 50 100 ∧ surely s c 50 100 ∧ (surelyNot s total t 100 ∨ (total = t ∧ !s.flag SPR_STATUS_RTC_DEGRADED))
      then some true
    else none
  | 7, .dominant us ended =>
    if !ended ∨ surelyNot s us 30 100 then some false else if surely s us 150 100 then some true else none
  | 8, .phy within => some within
  | 9, .phy within => some within
  | _, _ => some false

/-- The PD-LD sideband works: the one path by which the link die's island reports a wake (Table 1.2, R19). -/
def sideband (s : State) : Bool := !s.flt.lost.contains 2

/-- An accepted wake-up signal's own effects: a chain wake-up is forwarded to the other port while WAKE_FWD is 1, in every
state but OFF (R129), and a LIN bus remembers a received wake pulse while the spar domain runs (R383). -/
def signalSeen (s : State) (code index : Nat) : State :=
  if code = 9 then (if index < 2 ∧ s.pwr.ps ≠ .off ∧ s.flag CHN_SLEEP_WAKE_FWD then emit s (.wakeUp (1 - index)) else s)
  else if code = 7 ∧ index < 6 ∧ sparRuns s then setLin s index { linAt s index with wakeAt := some s.now }
  else s

/-- A wake event of WAKE_N needs a high-to-low transition, of a pin that was low at an entry only once it has read high for 1 ms
(R547); every other source has an edge of its own. -/
def falls (s : State) (code : Nat) : Bool := code != 2 || (s.flag PWR_PINS_WAKEN_LVL && !s.pwr.pinHeld)

/-- WAKE_N's level after a signal on it: high, or low once it has been low for the filter time (R547). -/
def pinAfter (s : State) (code : Nat) (sig : WakeSig) (passed : Bool) : State :=
  match code, sig with
  | 2, .high us => { s.put PWR_PINS_WAKEN_LVL true with pwr := { s.pwr with pinHeld := s.pwr.pinHeld && us < 1000 } }
  | 2, .low _ => if passed then s.put PWR_PINS_WAKEN_LVL false else s
  | _, _ => s

/-- WAKE_EVENT (R92): a signal of WAKE_N, CAN, LIN, T1S or a chain port meets its filter; an armed source that passes is
accepted. WAKE_N passes within a spar reset too, since it stays armed (R97). Other codes have commands of their own. -/
def execWakeEvent (code : Fin 16) (index : Fin 64) (sig : WakeSig) (s : State) : Res :=
  let c := code.val
  let r : Bool × State := match filter s c sig with
    | some b => (b, s)
    | none => ((freeDraw s).toNat % 2 == 1, freeNext s)
  let s0 := pinAfter r.2 c sig r.1
  .next (if !s.spar.powered then s
    else if !r.1 || !falls s c || ([2, 6, 7, 8, 9] : List Nat).all (· != c) then s0
    else
      let s1 := signalSeen s0 c index.val
      if armed s c index.val && (c == 2 || (s.spar.up && (sideband s))) then acceptWake s1 c index.val else s1)

/-- WHISTLE_DETECT (R95, Table 4.1): a tone on a chain pair, by its frequency, its amplitude peak to peak, its on and off times
and the 400 µs periods it has held; any other activity is rejected. -/
def execWhistleDetect (port : Fin 2) (kHz mV onUs offUs periods : Nat) (s : State) : Res :=
  let whistle := 2500 ≤ kHz && kHz ≤ 3750 && 200 ≤ mV && 240 ≤ onUs && onUs ≤ 360 && 80 ≤ offUs && offUs ≤ 120 && 3 ≤ periods
  .next (if whistle && s.spar.powered && s.spar.up && sideband s && armed s 10 port.val then acceptWake s 10 port.val else s)

/-- A chain port has a link. -/
def linkUp (s : State) (port : Nat) : Bool := if port = 0 then s.chain.up0 else s.chain.up1

/-- WHISTLE_FORWARD (R95). -/
def execWhistleForward (s : State) : Res := whileCd s <|
  let other := 1 - s.rd WAK_REASON_INDEX % 2
  if s.rd WAK_REASON_CODE = 10 ∧ s.flag WAK_FILT_WHISTLE_FWD ∧ !linkUp s other then emit s (.whistle other) else s

/-! ### The attempt (R100 to R103) -/

/-- Change the sequence in progress. -/
def onSeq (s : State) (f : WakeSeq → WakeSeq) : State :=
  { s with pwr := { s.pwr with seq := s.pwr.seq.map f } }

/-- What attempt 1 of a start resets and applies: an exit from OFF has the effects of a spar reset and a device reset
(R76), in SPAR_ONLY the limp table is applied already (R105), and every other start but that from DEEP applies it (R102). -/
def firstAttempt (s : State) (kind : StartKind) : State :=
  match kind with
  | .deep => s
  | .off =>
    let s1 := sparReset s
    limpApply ((deviceReset { s1 with spar := { s1.spar with up := true }
                                      sto := { s1.sto with offExit := true } }).put PWR_PINS_HOLD_PRE false)
  | .por => limpApply s
  | .restart => if limpActive s && !s.act.interim then s else limpApply s
  | .sparOnly => s

/-- The pause before an attempt is over: 10 ms after failure 1, 100 ms after failure 2 (R103). -/
def paused (s : State) (q : WakeSeq) : Bool :=
  !lasted s q.mark (if q.attempt = 2 then 10000 else if q.attempt = 3 then 100000 else 0)

/-- A sequence from SPAR_ONLY begins 1 s after the failure that ended the one before (R106). -/
def afterFailure (s : State) (q : WakeSeq) : Bool :=
  q.kind != .sparOnly || q.attempt != 1 || (match s.spar.lastFail with | some t => decide (32768 ≤ rtcSince s t) | none => true)

/-- WAKE_ATTEMPT (R100): the attempt that is due starts; the bucks are enabled at once, but at an OFF or power-on start
they wait for the precharge of HOLD. -/
def execWakeAttempt (s : State) : Res :=
  match s.pwr.seq with
  | none => .next s
  | some q =>
    if q.running || s.sto.inputLow || !afterFailure s q || paused s q then .next s
    else
      let s1 := if q.attempt = 1 then firstAttempt { s with sto := { s.sto with holdLate := false } } q.kind else s
      let pre := (q.kind == .off || q.kind == .por) && !q.holdOk
      .next (showDomains (onSeq s1 (fun r =>
        { r with running := true, corePg := false, ioPg := false, linkPg := s1.pwr.ldUp, bucks := !pre, mark := s1.now })))

/-- HOLD_PRECHARGE_TRIP (R550, Table 3.8): the bucks are enabled, never before 5.0 ms. -/
def execHoldPrechargeTrip (s : State) : Res :=
  match s.pwr.seq with
  | none => .next s
  | some q =>
    if q.running && (q.kind == .off || q.kind == .por) && lasted s q.since 5000 then
      .next (showDomains ((onSeq s (fun r =>
        { r with bucks := true, holdOk := true, mark := if r.bucks then r.mark else s.now })).put PWR_PINS_HOLD_PRE true))
    else .next s

/-- HOLD_LATE (R101): the bucks are enabled at 40.0 ms anyway; `hold` is HOLD in 10 mV. -/
def execHoldLate (hold : Nat) (s : State) : Res :=
  match s.pwr.seq with
  | none => .next s
  | some q =>
    if q.running && !q.bucks && lasted s q.since 40000 then
      let s1 := onSeq s (fun r => { r with bucks := true, holdOk := true, mark := s.now })
      .next (showDomains (tally (raise { s1 with sto := { s1.sto with holdLate := true } } 8 false [0] (leBytes 2 hold)) 7
        (leBytes 2 hold)))
    else .next s

/-- XF_LATE (R101): `ms` is the time since XF was enabled. -/
def execXfLate (ms : Nat) (s : State) : Res :=
  .next (if xfOn s && !s.flag CLK_STATUS_XF_OK then
      wantBypass (tally (raise s 9 true [0] (leBytes 2 (min ms 65535))) 8 (leBytes 2 (min ms 65535))) 3
    else s)

/-- LINK PGOOD: the link die's own functions run; the chain stays cut at this unit where its ports' rates differ, and where the
cause of SPAR_ONLY was LINK_PGOOD (R105, R124). -/
def linkOn (s : State) : State :=
  let keep := (s.rd CHN_BYPASS_CAUSE == 6 && !s.chain.causes.isEmpty) || (s.pwr.ps == .sparOnly && s.rd WAK_FAIL_LAST_CAUSE == 3)
  { s with pwr := { s.pwr with ldUp := true, linkDue := none }, chain := { s.chain with cut := s.chain.cut && keep } }

/-- RAIL_PGOOD (R100): 0 CORE, 1 IO, 2 LINK. -/
def execRailPgood (rail : Fin 3) (s : State) : Res :=
  let up (t : State) : State := if rail.val = 2 then linkOn t else t
  .next (match s.pwr.seq with
  | some q =>
    if q.running && q.bucks then
      showDomains (up (onSeq s (fun r => match rail.val with
        | 0 => { r with corePg := true } | 1 => { r with ioPg := true } | _ => { r with linkPg := true })))
    else s
  | none => if cdUp s || s.pwr.ps == .sparOnly then showDomains (up s) else s)

/-! ### SPAR_ONLY and LOCKOUT (R105, R107) -/

/-- A sequence fails: its RTC joins the last eight, and eight within 3,600 s set LOCKOUT. -/
def sequenceFailed (s : State) : State :=
  let f := ((s.spar.failed.filter (fun t => rtcSince s t ≤ 3600 * 32768)) ++ [rtc s])
  let f8 := f.drop (f.length - 8)
  let s1 := ({ s with spar := { s.spar with failed := f8, lastFail := some (rtc s) } }).wr WAK_FAIL_SEQ_FAILS f8.length
  if f8.length = 8 then
    tally (s1.put WAK_FAIL_LOCKOUT true) 6 (f8.flatMap (fun t => leBytes 3 (t / 2 ^ 24)))
  else s1

/-- SPAR_ONLY is entered: the limp table is applied and the bypass commanded; without LINK the chain is cut. The sources that
are armed in SPAR_ONLY stay armed by their registers (R105). -/
def enterSparOnly (s : State) (cause : Nat) : State :=
  let s1 := limpApply { s with pwr := { s.pwr with ps := .sparOnly, cd := .off, seq := none, armed := false, linkDue := none } }
  let cut := cause == 3
  let s2 := { s1 with chain := { s1.chain with cut := s1.chain.cut || cut } }
  let s3 := if cut then s2 else wantBypass s2 2
  showDomains (tally s3 5 [byte cause, byte (if cut then 0 else 1)])

/-- The state a start of a kind comes from, to which its failed attempt returns. -/
def stateBefore (kind : StartKind) : PState :=
  match kind with | .deep => .deep | .sparOnly => .sparOnly | .restart => .run | _ => .off

/-- A limit is missed (R102 to R107): the record, the rails and oscillators that the attempt has enabled go off, and the pause
or SPAR_ONLY follows. A restart, or a start from SPAR_ONLY, finds LINK on and leaves it on unless LINK is what failed. -/
def failAttempt (s : State) (q : WakeSeq) (c : Nat) : State :=
  let s1 := tally ((s.bump WAK_FAIL_TOTAL_FAILS 1).wr WAK_FAIL_LAST_CAUSE c) 4
    [byte c, byte q.attempt, byte (s.rd WAK_FAIL_SEQ_FAILS), byte q.code]
  let s2 := ((if (q.kind == .restart || q.kind == .sparOnly) && c != 3 then s1 else linkOff s1).put CLK_STATUS_XF_OK false).put
    CLK_STATUS_FRC_OK false
  if q.attempt < 3 then
    showDomains { s2 with pwr := { s2.pwr with linkDue := none, seq := some { q with attempt := q.attempt + 1, running := false, mark := s.now, bucks := false, corePg := false, ioPg := false, linkPg := false, causes := q.causes ++ [c] } } }
  else enterSparOnly (sequenceFailed s2) c

/-- LINK misses its limit after the first instruction (Table 3.7, steps 5 and 6): the control die goes off again, as at an entry,
and the sequence goes on from the state it woke from. -/
def backOut (s : State) (q : WakeSeq) : State :=
  let s1 := diesDown s
  { s1 with pwr := { s1.pwr with ps := stateBefore q.kind, shadow := q.kind == .deep && s.flag PWR_STATUS_RESUMED, kept := if q.kind == .deep then keepList s else [], linkDue := none } }

/-- WAKE_ATTEMPT_FAIL (R102 to R107): causes 1 CORE_PGOOD, 2 IO_PGOOD, 3 LINK_PGOOD, 4 FRC; an item that has met its limit
does not fail, nor does a rail within 2.0 ms of its enabling. -/
def execWakeAttemptFail (cause : Fin 4) (s : State) : Res :=
  let c := cause.val + 1
  let late (q : WakeSeq) : Bool := c == 4 || lasted s q.mark 2000
  .next (match s.pwr.seq, s.pwr.linkDue with
  | some q, _ =>
    let missed := match cause.val with
      | 0 => !q.corePg | 1 => !q.ioPg | 2 => !q.linkPg | _ => q.corePg
    if q.running && q.bucks && missed && late q then failAttempt s q c else s
  | none, some q => if c = 3 ∧ late q then failAttempt (backOut s q) q c else s
  | none, none => s)

/-! ### The start of the control die (R41, R77, R98, R548) -/

/-- The position code of a POS ratio (Table 26.5). -/
def posCode (ratio : Nat) : Nat :=
  ((List.range 16).find? (fun k => ratio ≤ 256 * k + 179 && 256 * k + 77 ≤ ratio)).getD 255

/-- The resume record's bank is retained and its CHECK holds (R77). -/
def resumeOk (s : State) : Bool :=
  let b := s.rd PWR_RESUME_RESUME_BANK
  let a := 0x10000000 + b * 262144
  s.pwr.shadow && b < 48 && bit (s.rd PWR_RETAIN_RETAIN) b
    && crc32c (readBytes s a 60) == leNat (readBytes s (a + 60) 4)

/-- Device time at a CD start (R41). -/
def startDt (s : State) : Nat :=
  (s.spar.dtEntry + ((rtc s + 2 ^ 48 - s.spar.rtcEntry) % 2 ^ 48) * 1000000000 / 32768) % 2 ^ 64

/-- Its status (Table 2.1). -/
def startDtStatus (s : State) : Nat := if s.spar.firstStart || s.flag SPR_STATUS_RTC_DEGRADED then 0 else 1

/-- A cold start: the boot ROM runs on a control die that a reset has cleared, and STARTS counts it. A start from DEEP
that cannot resume performs the device reset here, and the limp table applies (R59, R77); so does a start from SPAR_ONLY, where
the table is applied already (R106). -/
def coldStart (s : State) (kind : StartKind) : State :=
  let xf (t : State) : State := t.put CLK_STATUS_XF_OK (s.flag CLK_STATUS_XF_OK)
  let s1 := match kind with
    | .deep => xf (limpApply (deviceReset s))
    | .sparOnly => xf (deviceReset s)
    | _ => s
  { s1 with pwr := { s1.pwr with cd := .boot, kept := [], unzeroed := [], bootDone := false }
            tly := { s1.tly with starts := (s1.tly.starts + 1) % 65536 } }

/-- The resume path: registers and seal stand as the shadow held them, and the resume code starts at the record's ENTRY with its
ARGS (Table 3.5). -/
def resumeStart (s : State) : State :=
  let a := 0x10000000 + s.rd PWR_RESUME_RESUME_BANK * 262144
  emit { s with pwr := { s.pwr with cd := .run, kept := [], shadow := false } }
    (.coreStart (leNat (readBytes s (a + 8) 8)) (readBytes s (a + 16) 44))

/-- LAST_STATE of the state a wake leaves. -/
def showLast (s : State) (kind : StartKind) : State :=
  match kind with
  | .deep => s.wr PWR_STATUS_LAST_STATE 3
  | .off => s.wr PWR_STATUS_LAST_STATE 4
  | .sparOnly => s.wr PWR_STATUS_LAST_STATE 5
  | _ => s

/-- The first boot ROM instruction of a successful attempt, on FRC, with device time set, the position code read and
the vault's start sequence begun (R41, R481, R548). -/
def startCd (s : State) (q : WakeSeq) (pos : Nat) : State :=
  let deep := q.kind == .deep
  let resume := deep && resumeOk s
  let s0 := if deep then adapt s true q.since else s
  let s1 := if resume then resumeStart s0 else coldStart s0 q.kind
  let s2 := showLast (s1.put PWR_STATUS_RESUMED resume) q.kind
  let s3 := if q.kind == .restart then s2 else reportWake s2 q.code q.index q.attempt
  let s4 := (((s3.wr SPR_DT_DT (startDt s)).wr SPR_DT_STATUS_STATE (startDtStatus s)).wr SPR_DT_STATUS_EPOCH 0).wr
    CLK_STATUS_FRC_OK 1
  let s5' := (((s4.wr PWR_PINS_POS_RATIO pos).wr CHN_ADDR_POS (posCode pos)).wr
    SEC_STATUS_TRNG (if s4.sec.fails = 3 then 2 else 0)).wr SEC_STATUS_DRBG 0
  let s5 := ((s5'.wr STO_WB_STATUS_WB_OK 0).wr STO_WB_STATUS_GRANT 0).wr STO_HOLD_MEAS_MRESULT 0
  let s6 : State :=
    { s5 with
      spar := { s5.spar with firstStart := false, commanded := false }
      dt := { on := true }
      evt := { s5.evt with rtcStart := rtc s, dtStart := startDt s, parts := s5.evt.parts.map (fun e => (e.1, { e.2 with used := 0 })) }
      chain := { s5.chain with causes := s5.chain.causes.filter (fun c => c != 1 && c != 2),
                               cut := s5.chain.cut && (s5.rd CHN_BYPASS_CAUSE == 6 || !s5.pwr.ldUp) }
      pwr := { s5.pwr with ps := .run, seq := none, linkDue := if s5.pwr.ldUp then none else some { q with mark := s5.now },
                           wakeBy := if q.kind == .restart then none else some q.causes } }
  let s7 := firstInstr (endRequest (showBuses ((List.range 4).foldl showPlca (if q.kind == .restart then s6 else segWake s6))))
  if resume then { wakeDone s7 q.causes with pwr := { (wakeDone s7 q.causes).pwr with wakeBy := none } } else s7

/-- CD_START: an attempt whose rails stand reaches the first instruction; `pos` is the ratio read at POS. -/
def execCdStart (pos : Nat) (s : State) : Res :=
  match s.pwr.seq with
  | none => .next s
  | some q =>
    if q.running && q.bucks && q.corePg && q.ioPg then .next (showDomains (startCd s q (min pos 4095))) else .next s

/-- BANK_ZERO_DONE (R577): the banks are zeroed in ascending order, from step 4 of Table 3.7 on. -/
def execBankZeroDone (bank : Fin 48) (s : State) : Res := whileCd s <|
  if s.pwr.unzeroed.head? = some bank.val then { s with pwr := { s.pwr with unzeroed := s.pwr.unzeroed.drop 1 } } else s

end Sys2Proof.Machine
end

