-- ==== Sys2Proof/Machine/Rings.lean ====
section
/-! DEFINITION.
The ring commands (chapter 7): arming, engine reset, doorbells, acceptance of descriptors, NOP and CANCEL, and the
stall event.
-/

namespace Sys2Proof.Machine

/-! ### Arming (R166 to R168, Table 7.1) -/

/-- Bytes of one entry: 64 for a descriptor, 32 for a record. -/
def entryLen (ring : Nat) : Nat := if ring < 4 then 64 else 32

/-- The rings of an engine, by ring code, that are enabled. -/
def enabledRings (s : State) (p eng : Nat) : List Nat :=
  (List.range 5).filter (fun k => (ringAt s (ringKey p eng k)).en)

/-- Where a ring lies, when its placement passes the window rule of R166. -/
def placeOf (s : State) (p ring : Nat) (g : Ring) : Option Nat :=
  translate s p g.base (2 ^ g.size * entryLen ring) (if ring < 4 then 0 else 1)

/-- The first failure among one ring's own conditions, 5 to 7 of Table 7.1. -/
def ringFault (s : State) (p ring : Nat) (g : Ring) (row : Nat) : Bool :=
  match row with
  | 5 => g.size < 4 || 12 < g.size
  | 6 => g.base % 64 != 0
  | _ => (placeOf s p ring g).isNone

/-- The first failing ring of a row, as RESULT and FAIL_RING. -/
def firstFail (s : State) (p row : Nat) (l : List (Nat × Nat × Ring)) : Option (Nat × Nat) :=
  (l.find? (fun x => ringFault s p x.2.1 x.2.2 row)).map (fun x => (row, x.1 * 16 + x.2.1))

/-- The enabled rings that a command arms: engine, ring code and setup; the event ring as ring 5. -/
def ringsToArm (s : State) (p : Nat) (engs : List Nat) (events : Bool) : List (Nat × Nat × Ring) :=
  (engs.flatMap (fun e => (enabledRings s p e).map (fun k => (e, k, ringAt s (ringKey p e k)))))
    ++ (if events then [(0, 5, ringAt s (eventKey p))] else [])

/-- Conditions 3 to 7 of Table 7.1, in order: RESULT and FAIL_RING of the first failure. The conditions of the shadow block hold
of both commands (R166). -/
def armFault (s : State) (p : Nat) (engs : List Nat) (events : Bool) : Option (Nat × Nat) :=
  let l := ringsToArm s p engs events
  let sh := shadowOf s p
  if !(ringAt s (eventKey p)).en || sh.base == 0 then some (3, 5)
  else match engs.find? (fun e => (enabledRings s p e).any (· < 4) && !(enabledRings s p e).contains 4) with
    | some e => some (4, e * 16 + 4)
    | none =>
      (firstFail s p 5 l) <|> (firstFail s p 6 l) <|> (if sh.base % 128 != 0 then some (6, 5) else none)
        <|> (firstFail s p 7 l)
        <|> (if (translate s p sh.base 128 1).isNone then some (7, 5) else none)

/-- A malformed doorbell or a refused ring write counts in DB_BAD. -/
def dbBad (s : State) : State := s.bump RNG_CNT_DB_BAD 1

/-- An invalid doorbell is counted and raises RING_FAULT. -/
def ringFaultEvent (s : State) (p eng ring v : Nat) : State :=
  raise (dbBad s) 90 false [p] ([byte eng, byte ring, 0, 0] ++ leBytes 4 v)

/-- A new producer index of a submission ring (R170). One written before the boot ROM has handed over, to a ring not yet armed,
is kept until it is (R81). -/
def producer (s : State) (p eng ring v : Nat) : State :=
  let k := ringKey p eng ring
  let g := ringAt s k
  let d := (v + 2 ^ 32 - g.cons) % 2 ^ 32
  if !g.armed then
    if s.pwr.cd == .boot then
      { s with rng := { s.rng with bells := s.rng.bells.filter (fun b => !(b.1 == p && b.2.1 == eng && b.2.2.1 == ring))
                                              ++ [(p, eng, ring, v)] } }
    else dbBad s
  else if v = g.prod then s
  else if (g.prod + 2 ^ 32 - g.cons) % 2 ^ 32 < d ∧ d ≤ 2 ^ g.size then setRing s k { g with prod := v }
  else ringFaultEvent s p eng ring v

/-- The doorbells kept for a ring are served once it is armed (R81). -/
def serveBells (p eng ring : Nat) (s : State) : State :=
  let hit (b : Nat × Nat × Nat × Nat) : Bool := b.1 == p && b.2.1 == eng && b.2.2.1 == ring
  (s.rng.bells.filter hit).foldl (fun t b => producer t p eng ring b.2.2.2)
    { s with rng := { s.rng with bells := s.rng.bells.filter (fun b => !hit b) } }

/-- One ring becomes armed at index 0, with what a REMOTE home's proxy had fetched for it gone; a doorbell kept for it is
served. -/
def armRing (p : Nat) (s : State) (x : Nat × Nat × Ring) : State :=
  let k := if x.2.1 = 5 then eventKey p else ringKey p x.1 x.2.1
  let s1 := setRing (if x.2.1 < 4 then dropFetches s p x.1 else s) k
    { x.2.2 with armed := true, phys := (placeOf s p x.2.1 x.2.2).getD 0, prod := 0, cons := 0 }
  if x.2.1 < 4 then serveBells p x.1 x.2.1 s1 else s1

/-- The event that tells P0 of the loss that it was restarted from (R522). -/
def restored (s : State) (p : Nat) : State :=
  if p = 0 && s.spar.restoreDue then
    raise { s with spar := { s.spar with restoreDue := false } } 11 true [0]
      ([byte s.spar.lossCause, byte (min s.spar.losses.length 255)] ++ leBytes 6 s.spar.lossRtc)
  else s

/-- A partition's enabled rings and shadow block are armed, and it is launched (Table 6.1, R537). -/
def armPartition (s : State) (p : Nat) : State :=
  let s1 := (ringsToArm s p (List.range 7) true).foldl (armRing p) s
  let b := shadowOf s p
  let s2 := { s1 with rng := { s1.rng with
    shadows := tabSet {} s1.rng.shadows p { b with armed := true, phys := (translate s p b.base 128 1).getD 0 } } }
  restored (s2.wr (PAR_STATE_STATE p) (if homeOf s p = 2 then 3 else 2)) p

/-- A ring command is being checked: BUSY reads 1, here until the next tick of XS, which is within the 50 µs of R167; a second
arming command meanwhile counts in DB_BAD (log entry 20). -/
def busyNow (s : State) : State := { s with rng := { s.rng with busy := true } }.put RNG_STATUS_BUSY true

/-- ARM_PART (R167): the partition that RNG_SEL names. -/
def execArmPart (w : Writer) (s0 : State) : Res := whileCd s0 <|
  let s := busyNow s0
  let p := s.rd RNG_SEL_PART
  if w = .safety then violate s0
  else if s0.rng.busy then dbBad s0
  else if partState s p = 0 then ringResult s (9, 0)
  else if partState s p ≠ 1 then ringResult s (2, 0)
  else match armFault s p (List.range 7) true with
    | some r => ringResult s r
    | none => showRing (ringResult (armPartition s p) (1, 0))

/-- ARM_ENGINE (R167): one partition's enabled rings on one engine. -/
def execArmEngine (w : Writer) (s0 : State) : Res := whileCd s0 <|
  let s := busyNow s0
  let p := s.rd RNG_SEL_PART
  let e := s.rd RNG_SEL_ENGINE
  if w = .safety then violate s0
  else if s0.rng.busy then dbBad s0
  else if partState s p = 0 then ringResult s (9, 0)
  else if (List.range 5).any (fun k => (ringAt s (ringKey p e k)).armed) then ringResult s (2, e * 16)
  else match armFault s p [e] false with
    | some r => ringResult s r
    | none => showRing (ringResult ((ringsToArm s p [e] false).foldl (armRing p) s) (1, 0))

/-! ### Engine reset (R48, R167, R189) -/

/-- ENGINE_RESET (R167, R189): while another ring command is being checked, it is held until that check ends. -/
def execEngineReset (w : Writer) (s : State) : Res := whileCd s <|
  if w = .safety then violate s
  else if s.rng.busy then { s with rng := { s.rng with heldReset := some (s.rd RNG_SEL_ENGINE) } }
  else resetEngine s (s.rd RNG_SEL_ENGINE)

/-! ### Doorbells (R169, R170) -/

/-- The partition's page is this writer's: of a partition of home LOCAL the application cluster's, of the safety partition the
safety island's; an UNUSED or STOPPED partition's page takes no write (R169). -/
def pageOf (s : State) (w : Writer) (p : Nat) : Bool :=
  2 ≤ partState s p && (match w with | .p0 => homeOf s p == 0 | .safety => homeOf s p == 1)

/-- The partition's page takes a doorbell: it is RUNNING (R153, R164, R169). -/
def pageOpen (s : State) (w : Writer) (p : Nat) : Bool := pageOf s w p && partState s p == 2

/-- A new consumer index of a completion ring (ring 4) or of the event ring (ring 5) (R170). -/
def consumer (s : State) (p eng ring v : Nat) : State :=
  let k := if ring = 5 then eventKey p else ringKey p eng 4
  let g := ringAt s k
  let d := (v + 2 ^ 32 - g.cons) % 2 ^ 32
  if !g.armed then dbBad s
  else if 0 < d ∧ d ≤ (g.prod + 2 ^ 32 - g.cons) % 2 ^ 32 then setRing s k { g with cons := v }
  else ringFaultEvent s p eng ring v

/-- PRODUCER_DOORBELL (R170). -/
def execProducerDoorbell (w : Writer) (part : Fin 8) (eng : Fin 7) (ring : Fin 4) (v : Word) (s : State) : Res :=
  whileCd s (if pageOpen s w part.val || s.pwr.cd == .boot then producer s part.val eng.val ring.val v.toNat else dbBad s)

/-- COMPLETION_DOORBELL (R170). -/
def execCompletionDoorbell (w : Writer) (part : Fin 8) (eng : Fin 7) (v : Word) (s : State) : Res :=
  whileCd s (if pageOpen s w part.val then consumer s part.val eng.val 4 v.toNat else dbBad s)

/-- EVENT_DOORBELL (R170). -/
def execEventDoorbell (w : Writer) (part : Fin 8) (v : Word) (s : State) : Res :=
  whileCd s (if pageOpen s w part.val then consumer s part.val 0 5 v.toNat else dbBad s)

/-! ### Acceptance (R171, R172, R175, R185) -/

/-- The opcodes of each engine. -/
def knownOpcode (eng op : Nat) : Bool :=
  op == 0 || op == 0xFF || (match eng with
    | 0 => (1 ≤ op && op ≤ 0x0A) || op == 0x20
    | 1 => 1 ≤ op && op ≤ 4
    | 2 => 1 ≤ op && op ≤ 3
    | 3 => 1 ≤ op && op ≤ 6
    | 4 => 1 ≤ op && op ≤ 6
    | 5 => 1 ≤ op && op ≤ 3
    | _ => (1 ≤ op && op ≤ 0x0C) || op == 0x10 || op == 0x11 || (0x20 ≤ op && op ≤ 0x23))

/-- Slots of the completion ring that are reserved: unconsumed records and accepted work (R185). -/
def reserved (s : State) (p eng : Nat) : Nat :=
  let g := ringAt s (ringKey p eng 4)
  (g.prod + 2 ^ 32 - g.cons) % 2 ^ 32 + (s.rng.work.filter (fun w => w.eng == eng && w.hdr.part.val == p)).length

/-- The timed descriptors in the pool. -/
def pooled (s : State) (p eng : Nat) : Nat :=
  (s.rng.work.filter (fun w => w.eng == eng && w.hdr.part.val == p && w.timed && !w.started)).length

/-- The 64 bytes of the next descriptor: in memory, or fetched by the ring proxy; no bytes where the head answered
the fetch with FAULT (R188). -/
def nextSlot (s : State) (p eng ring : Nat) (g : Ring) : Option (List Byte) :=
  if homeOf s p = 2 then
    ((proxyOf s p).fetched.find? (fun x => x.1 == eng && x.2.1 == ring && x.2.2.1 == g.cons)).map (fun x => x.2.2.2)
  else some (readBytes s (g.phys + (g.cons % 2 ^ g.size) * 64) 64)

/-- The proxy's copy of an accepted descriptor goes. -/
def dropFetched (s : State) (p eng ring idx : Nat) : State :=
  let x := proxyOf s p
  setProxy s p { x with fetched := x.fetched.filter (fun y => !(y.1 == eng && y.2.1 == ring && y.2.2.1 == idx)) }

/-- A header as accepted: C has advanced past the descriptor. -/
def headerOf (p : Fin 8) (ring : Fin 4) (b : List Byte) (c : Nat) : DHdr :=
  let f := leAt b 1 1
  { part := p, ring := ring, tag := BitVec.ofNat 16 (leAt b 2 2), sqHead := BitVec.ofNat 16 c, late := 0,
    rebased := false, noCompl := bit f 4, signal := bit f 5 }

/-- Why a descriptor completes at its acceptance (R175). -/
def acceptFault (s : State) (eng : Nat) (b : List Byte) : Option Nat :=
  let f := leAt b 1 1
  if !knownOpcode eng (leAt b 0 1) then some BAD_OPCODE
  else if f ≥ 64 ∨ leAt b 6 2 ≠ 0 then some RESERVED_NONZERO
  else if bit f 0 ∧ leAt b 8 8 > dtNow s + 2 ^ 40 then some FAR_FUTURE
  else none

/-- C advances past a taken descriptor. -/
def takeSlot (s : State) (p eng ring : Nat) : State :=
  let k := ringKey p eng ring
  let g := ringAt s k
  let c := (g.cons + 1) % 2 ^ 32
  shadowPut (setRing (if homeOf s p = 2 then dropFetched s p eng ring g.cons else s) k { g with cons := c })
    p (8 * eng + ring) c

/-- Acceptance from a ring is stopped (R185): the completion ring's slots are all reserved, or the timed pool is full and the
ring's next descriptor is timed. -/
def acceptStopped (s : State) (p eng ring : Nat) : Bool :=
  let g := ringAt s (ringKey p eng ring)
  let full := decide (2 ^ (ringAt s (ringKey p eng 4)).size ≤ reserved s p eng)
  engineOn s eng && g.armed && partState s p == 2 && g.prod != g.cons && (full || match nextSlot s p eng ring g with
    | some b => bit (leAt b 1 1) 0 && decide (64 ≤ pooled s p eng)
    | none => false)

/-- DESCRIPTOR_ACCEPT (R175, R185). -/
def execDescriptorAccept (part : Fin 8) (eng : Fin 7) (ring : Fin 4) (s : State) : Res := whileCd s <|
  let g := ringAt s (ringKey part.val eng.val ring.val)
  let cq := ringAt s (ringKey part.val eng.val 4)
  if !engineOn s eng.val || !g.armed || partState s part.val != 2 || g.prod == g.cons then s
  else match nextSlot s part.val eng.val ring.val g with
    | none => s
    | some b =>
      let f := leAt b 1 1
      if reserved s part.val eng.val ≥ 2 ^ cq.size ∨ (bit f 0 ∧ pooled s part.val eng.val ≥ 64) then s
      else
        let s1 := takeSlot s part.val eng.val ring.val
        let h := headerOf part ring b ((g.cons + 1) % 2 ^ 32)
        let wk : Work :=
          { eng := eng.val, hdr := h, opcode := leAt b 0 1, timed := bit f 0, notBefore := leAt b 8 8,
            tolUs := if bit f 2 then leAt b 4 2 else 2000, lateAlways := bit f 1, fence := bit f 3, body := b,
            started := false }
        let s2 := { s1 with rng := { s1.rng with
          work := s1.rng.work ++ [wk], stalled := s1.rng.stalled.filter (· != (part.val, eng.val)) } }
        if b.isEmpty then finish (windowFault s2 part.val eng.val ring.val 0) eng.val h 0 WINDOW_FAULT []
        else match acceptFault s1 eng.val b with
        | some st => finish s2 eng.val h (leAt b 0 1) st (plainResult s2 eng.val (leAt b 0 1) h b)
        | none => s2

/-- RING_STALL (R185): acceptance of a ring has been stopped for 10 ms, once per episode. -/
def execRingStall (part : Fin 8) (eng : Fin 7) (ring : Fin 4) (s : State) : Res := whileCd s <|
  if s.rng.stalled.contains (part.val, eng.val) || !acceptStopped s part.val eng.val ring.val then s
  else
    raise ({ s with rng := { s.rng with stalled := s.rng.stalled ++ [(part.val, eng.val)] } }.bump RNG_CNT_STALLS 1)
      91 false [part.val] [byte eng.val, byte ring.val]

/-! ### NOP and CANCEL (R174) -/

/-- NOP. -/
def execNop (h : DHdr) (eng : Fin 7) (b : List Byte) (s : State) : Res :=
  descr eng.val 0 h b s (fun t => complete t eng.val h 0 OK [])

/-- A pooled descriptor of the same partition and engine whose TAG matches. -/
def cancels (eng : Nat) (h : DHdr) (tag mask : BitVec 16) (w : Work) : Bool :=
  w.eng == eng && w.hdr.part == h.part && w.timed && !w.started && (w.hdr.tag &&& mask) == (tag &&& mask)

/-- CANCEL. -/
def execCancel (h : DHdr) (eng : Fin 7) (b : List Byte) (s : State) : Res :=
  let tag := BitVec.ofNat 16 (leAt b 16 2)
  let mask := BitVec.ofNat 16 (leAt b 18 2)
  descr eng.val 0xFF h b s (fun t =>
    if bodyDirty b [16, 17, 18, 19] then complete t eng.val h 0xFF RESERVED_NONZERO []
    else if bit (leAt b 1 1) 0 then complete t eng.val h 0xFF BAD_FIELD []
    else
      let l := t.rng.work.filter (cancels eng.val h tag mask)
      complete (l.foldl cancelWork t) eng.val h 0xFF OK (leBytes 2 l.length))

end Sys2Proof.Machine
end

