-- ==== Sys2Proof/Machine/Parts.lean ====
section
/-! DEFINITION.
The partition commands (chapter 6): the layout, the seal, partition resets, the ends of orphan states, and the
delivery of events.
-/

namespace Sys2Proof.Machine

/-! ### Reading a layout image (R146, Tables 6.3 to 6.5) -/

/-- One window record. -/
def windowAt (b : List Byte) (o : Nat) : Window := ⟨leAt b o 8, leAt b (o + 8) 8, leAt b (o + 16) 1, leAt b (o + 17) 1⟩

/-- One partition entry. -/
def entryAtOff (b : List Byte) (o : Nat) : PartEntry where
  part := leAt b o 1
  home := leAt b (o + 1) 1
  addr := leAt b (o + 2) 1
  msiAddr := leAt b (o + 4) 8
  msiData := leAt b (o + 12) 4
  evRate := leAt b (o + 16) 2
  evCoalesce := leAt b (o + 18) 2
  iBudget := leAt b (o + 20) 2
  hBudget := leAt b (o + 22) 2
  eBudget := leAt b (o + 24) 4
  escT := leAt b (o + 28) 2
  orphanT := leAt b (o + 30) 2
  qos := (List.range 7).map (fun k => ⟨leAt b (o + 32 + 8 * k) 1, leAt b (o + 34 + 8 * k) 2, leAt b (o + 36 + 8 * k) 2⟩)
  windows := (List.range 8).map (fun k => windowAt b (o + 96 + 24 * k))

/-- One ownership record. -/
def ownAtOff (b : List Byte) (o : Nat) : OwnRec := ⟨leAt b o 1, leAt b (o + 1) 1, leAt b (o + 2) 2, leAt b (o + 4) 1, leAt b (o + 5) 1⟩

/-- The offsets of the entries and of the ownership records of an image. -/
def entryOffs (b : List Byte) : List Nat := (List.range (leAt b 6 1)).map (fun i => 16 + 288 * i)
def ownOffs (b : List Byte) : List Nat := (List.range (leAt b 8 2)).map (fun j => 16 + 288 * leAt b 6 1 + 8 * j)

/-- The least of the offending offsets. -/
def least (l : List Nat) : Option Nat := l.foldl (fun a x => match a with | some y => some (min y x) | none => some x) none

/-- Those offsets at which a byte is not zero. -/
def nonzeroAt (b : List Byte) (l : List Nat) : List Nat := l.filter (fun o => leAt b o 1 != 0)

/-! ### The checks of Table 6.6 -/

/-- Row 3: the header. -/
def layoutHeader (b : List Byte) : Option Nat :=
  if leAt b 0 4 ≠ 0x504C5931 then some 0
  else if leAt b 4 2 ≠ 1 then some 4
  else if leAt b 6 1 < 1 ∨ 8 < leAt b 6 1 then some 6
  else if 4200 < leAt b 8 2 then some 8
  else if leAt b 12 4 ≠ 16 + 288 * leAt b 6 1 + 8 * leAt b 8 2 + 4 then some 12
  else none

/-- Row 5: the reserved bytes of the header, the entries and the records, and the reserved bits of PERM. -/
def layoutReserved (b : List Byte) : Option Nat :=
  let ent (o : Nat) : List Nat :=
    [o + 3] ++ (List.range 7).flatMap (fun k => [o + 33 + 8 * k, o + 38 + 8 * k, o + 39 + 8 * k])
      ++ (List.range 8).map (fun j => o + 88 + j)
      ++ (List.range 8).flatMap (fun k => (List.range 6).map (fun j => o + 114 + 24 * k + j))
  let perms := (entryOffs b).flatMap (fun o => (List.range 8).map (fun k => o + 113 + 24 * k))
  least (nonzeroAt b ([7, 10, 11] ++ (entryOffs b).flatMap ent ++ (ownOffs b).flatMap (fun o => [o + 6, o + 7]))
    ++ perms.filter (fun o => 8 ≤ leAt b o 1))

/-- Row 6: what one entry breaks of the home rules; fields that are "otherwise 0" count here (log entry 15). -/
def homeFault (b : List Byte) (o : Nat) : List Nat :=
  let e := entryAtOff b o
  (if 7 < e.part ∨ ((entryOffs b).filter (· < o)).any (fun q => leAt b q 1 == e.part) then [o] else [])
    ++ (if 2 < e.home ∨ (e.part = 0 ∧ e.home ≠ 0)
          ∨ (e.home = 1 ∧ ((entryOffs b).filter (· < o)).any (fun q => leAt b (q + 1) 1 == 1)) then [o + 1] else [])
    ++ (if (e.home = 2 ∧ 30 < e.addr) ∨ (e.home ≠ 2 ∧ e.addr ≠ 0) then [o + 2] else [])
    ++ (if e.home ≠ 0 ∧ e.msiAddr ≠ 0 then [o + 4] else []) ++ (if e.home ≠ 0 ∧ e.msiData ≠ 0 then [o + 12] else [])

/-- Row 6 for the image: P0 must be present. PART out of range or twice counts here too, with the entry's first byte as OFFSET,
and a missing P0 names the first entry (log entry 96). -/
def layoutHome (b : List Byte) : Option Nat :=
  least ((entryOffs b).flatMap (homeFault b) ++ (if (entryOffs b).any (fun o => leAt b o 1 == 0) then [] else [16]))

/-- The index range of a resource kind (Table 6.2): first, and one past the last. -/
def indexRange : Nat → Nat × Nat
  | 1 => (0, 32) | 2 => (0, 8) | 3 => (0, 8) | 4 => (0, 24) | 5 => (0, 16) | 6 => (0, 48) | 7 => (0, 4)
  | 8 => (0, 4) | 9 => (0, 6) | 10 => (0, 14) | 11 => (0, 16) | 12 => (1, 4095) | 13 => (0, 104) | 14 => (0, 1)
  | _ => (0, 0)

/-- Row 7: what one ownership record breaks; ZVID cannot be owned. -/
def ownFault (zvid : Nat) (b : List Byte) (o : Nat) : List Nat :=
  let r := ownAtOff b o
  let g := indexRange r.kind
  let out := 1 ≤ r.kind && r.kind ≤ 5
  (if r.kind = 0 ∨ 14 < r.kind then [o]
   else if r.index < g.1 ∨ g.2 ≤ r.index ∨ (r.kind = 12 ∧ r.index = zvid)
      ∨ ((ownOffs b).filter (· < o)).any (fun q => leAt b q 1 == r.kind && leAt b (q + 2) 2 == r.index) then [o + 2]
   else [])
    ++ (if (entryOffs b).any (fun q => leAt b q 1 == r.owner) then [] else [o + 1])
    ++ (if (out && 15 < r.rank) || (!out && r.rank != 0) then [o + 4] else [])
    ++ (if (out && 2 < r.orphan) || (!out && r.orphan != 0) then [o + 5] else [])

/-- A target range lies wholly in a memory. -/
def rangeIn (lo hi a len : Nat) : Bool := lo ≤ a && a + len ≤ hi

/-- Two ranges overlap. -/
def overlap (a la b lb : Nat) : Bool := a < b + lb && b < a + la

/-- Row 8: what window k of the entry at o breaks of R148. -/
def windowFaultAt (b : List Byte) (o k : Nat) : List Nat :=
  let e := entryAtOff b o
  let wo := o + 96 + 24 * k
  let w := windowAt b wo
  let len := 2 ^ w.size
  let sram := rangeIn 0x10000000 0x10C00000 w.target len
  let others := (entryOffs b).filter (fun q => q != o && leAt b (q + 1) 1 != 2)
  let clash := others.any (fun q => (List.range 8).any (fun j =>
    let v := windowAt b (q + 96 + 24 * j)
    v.size != 0 && v.size ≤ 40 && overlap w.target len v.target (2 ^ v.size) && !(bit w.perm 2 && bit v.perm 2)))
  if w.size = 0 then []
  else if w.size < 12 ∨ 40 < w.size then [wo + 16]
  else
    (if w.pbase % 4096 ≠ 0 ∨ 2 ^ 48 < w.pbase + len
        ∨ (List.range k).any (fun j => let v := windowAt b (o + 96 + 24 * j)
            v.size != 0 && v.size ≤ 40 && overlap w.pbase len v.pbase (2 ^ v.size)) then [wo] else [])
      ++ (if w.target % 4096 ≠ 0 then [wo + 8]
          else if e.home = 2 then []
          else if !sram && !(e.home == 1 && rangeIn 0x20000000 0x20080000 w.target len) then [wo + 8]
          else if sram && clash then [wo + 8] else [])

/-- Row 9: budgets, rates and bursts of one entry; EV_COALESCE above its range counts here (log entry 97). -/
def budgetFault (b : List Byte) (o : Nat) : List Nat :=
  let e := entryAtOff b o
  let outs := (ownOffs b).any (fun q => let r := ownAtOff b q; r.owner == e.part && 1 ≤ r.kind && r.kind ≤ 5)
  let sum := ((entryOffs b).filter (· ≤ o)).foldl (fun a q => a + leAt b (q + 22) 2) 0
  (if e.evRate < 1 ∨ 1024 < e.evRate then [o + 16] else []) ++ (if 10000 < e.evCoalesce then [o + 18] else [])
    ++ (if (outs ∧ e.hBudget = 0) ∨ 1800 < sum then [o + 22] else [])
    ++ (if e.escT < 1 ∨ 6000 < e.escT then [o + 28] else [])
    ++ ((List.range 7).filter (fun k => leAt b (o + 36 + 8 * k) 2 == 0)).map (fun k => o + 36 + 8 * k)

/-- Rows 3 to 9 of Table 6.6 in order: RESULT and OFFSET of the first failure. -/
def layoutFault (zvid : Nat) (b : List Byte) : Option (Nat × Nat) :=
  let n := leAt b 12 4
  match layoutHeader b with
  | some o => some (2, o)
  | none =>
    if crc32c (slice b 0 (n - 4)) ≠ leAt b (n - 4) 4 then some (3, n - 4)
    else ((layoutReserved b).map (fun o => (9, o)))
      <|> ((layoutHome b).map (fun o => (6, o)))
      <|> ((least ((ownOffs b).flatMap (ownFault zvid b))).map (fun o => (4, o)))
      <|> ((least ((entryOffs b).flatMap (fun o => (List.range 8).flatMap (windowFaultAt b o)))).map (fun o => (7, o)))
      <|> ((least ((entryOffs b).flatMap (budgetFault b))).map (fun o => (8, o)))

/-! ### Applying a layout (R147) -/

/-- The image at an address, as R579 reads it: its header names its length. -/
def layoutBytes (s : State) (a : Nat) : List Byte :=
  let h := readImage s a 16
  let n := if (layoutHeader h).isSome then 16 else leAt h 12 4
  readImage s a n

/-- A checked image takes effect: entries, owners, and the states of the partitions; token buckets are full (R578). -/
def takeLayout (s : State) (b : List Byte) : State :=
  let es := (entryOffs b).map (entryAtOff b)
  let s1 := { s with par := { s.par with applied := true, entries := es, owners := (ownOffs b).map (ownAtOff b) } }
  let s2 := (List.range 7).foldl (fun t k =>
    let p := k + 1
    t.wr (PAR_STATE_STATE p) (if es.any (fun e => e.part == p) then 1 else 0)) s1
  { s2 with evt := { s2.evt with parts := s2.evt.parts.map (fun e => (e.1, { e.2 with used := 0 })) }
            rng := { s2.rng with spent := [] } }

/-- Apply the image at an address, reporting RESULT and OFFSET (R147, Table 6.6). -/
def applyLayout (s : State) (a : Nat) : State :=
  let rep (t : State) (r o : Nat) : State := (t.wr PAR_LAYOUT_STATUS_RESULT r).wr PAR_LAYOUT_STATUS_OFFSET o
  let b := layoutBytes s a
  if isSealed s then rep (violate s) 10 0
  else if (List.range 7).any (fun k => 2 ≤ partState s (k + 1)) then rep s 11 0
  else match layoutFault (s.rd CHN_ZCFG_ZVID) b with
    | some (r, o) => rep s r o
    | none => rep (takeLayout s b) 1 0

/-- LAYOUT_APPLY (R147). -/
def execLayoutApply (w : Writer) (s : State) : Res :=
  whileCd s (if w = .safety ∨ s.flag PAR_LAYOUT_CTL_APPLY then violate s
    else applyLayout (s.put PAR_LAYOUT_CTL_APPLY true) (s.rd PAR_LAYOUT_ADDR_ADDR))

/-! ### The seal (R150) -/

/-- Every half-bridge pairing is named back and every pairing joins channels of one owner: a one-sided or self-naming entry
fails too (R233). -/
def pairsOk (s : State) : Bool :=
  (List.range 8).all (fun n => match partnerIn (hbPairWord s) n with
    | some p => ownerOf s 2 n == ownerOf s 2 p | none => !s.flag (HB_PAIR_PAIRED n))
  && (List.range 4).all (fun k => !bit (s.rd SV_PAIR_PAIR) k || ownerOf s 3 (2 * k) == ownerOf s 3 (2 * k + 1))

/-- The first seal check that fails, as SEAL_FAIL. -/
def sealFail (s : State) : Nat :=
  if !s.par.applied then 1
  else if !pairsOk s then 2
  else if (List.range 8).any (fun p => partState s p == 4) then 3
  else if s.flag SPR_WDG_CFG_SAF_FEED && (safetyPart s).isNone then 4
  else 0

/-- The condition of R412 that an enabled binding breaks: 1 context, 2 channel, 3 SL_OP. -/
def bindFault (s : State) (b : Nat) : Option Nat :=
  let c : Chan := ⟨s.rd (BRD_BIND0_KIND b), s.rd (BRD_BIND0_INDEX b)⟩
  let op := s.rd (BRD_BIND0_SL_OP b)
  if safetyPart s = none ∨ ownerOf s 11 (s.rd (BRD_BIND0_CTX b)) ≠ safetyPart s then some 1
  else if !chOk c || !safeOpen s c || (c.kind == 2 && isSlave s c) then some 2
  else if op < 1 ∨ 3 < op ∨ (op = 3 ∧ c.kind ≠ 2) then some 3
  else none

/-- Bindings that break a condition are disabled at the seal point and reported (R412). -/
def sealBindings (s : State) : State :=
  (List.range 8).foldl (fun t b =>
    match if t.flag (BRD_BIND0_EN b) then bindFault t b else none with
    | some f => raise (t.orF BRD_STATUS_BIND_ERR (2 ^ b)) 71 true (p0Safety t) [byte b, byte f]
    | none => t) s

/-- The seal point, or a failed check; the limp commit follows the seal point (R150, R207). -/
def sealUnit (s : State) : State :=
  let f := sealFail s
  let s1 := s.wr PAR_SEAL_STATUS_SEAL_FAIL f
  if f = 0 then
    let s2 := sealBindings (sealStreams (s1.put PAR_SEAL_STATUS_SEALED true))
    { s2 with act := { s2.act with commitDue := true } }
  else s1

/-- PAR_SEAL (R150). -/
def execParSeal (w : Writer) (v : Word) (s : State) : Res := whileCd s <|
  if w = .safety then violate s
  else if v.toNat ≠ 0x5EA1 ∨ isSealed s then s
  else sealUnit s

/-! ### Partition reset (R152, R153, R155) -/

/-- A trigger of a partition reset (1 P0, 2 safety partition, 3 self, 4 budget); one that names P0, an UNUSED or a
RESETTING partition counts in RST_REFUSED. The safety partition's lockstep pair restarts from its entry address (R155), and the
partition's grants end (R200). -/
def beginReset (s : State) (p trigger : Nat) : State :=
  let st := partState s p
  if p = 0 ∨ st = 0 ∨ st = 4 then s.bump PAR_RST_CFG_RST_REFUSED 1
  else
    let s1 := if attached s p then detach s p 7 else dropPart (orphanPart s p) p
    let s2 := clearSlots (s1.wr (PAR_STATE_STATE p) 4) (fun k => tabGet 8 s1.sec.writers k == p)
    let s3 := if safetyPart s = some p then
        { s2 with brd := { s2.brd with stopped := [] }
                  pwr := { s2.pwr with cores := tabSet .run (tabSet .run s2.pwr.cores 4 .run) 5 .run } } else s2
    { s3 with par := { s3.par with resetting := tabPut s3.par.resetting p ⟨trigger, s.now⟩ }
              act := { s3.act with grants := s3.act.grants.filter (fun g => ownerOf s 1 g.ch != some p) } }

/-- PAR_RST (R152): from P0 with the key, or from the safety partition while SAF_RESET is 1. -/
def execParRst (w : Writer) (v : Word) (s : State) : Res := whileCd s <|
  let key := fieldIn PAR_RST_KEY v = 0x7E57
  match w with
  | .p0 => if key then beginReset s (fieldIn PAR_RST_PART v) 1 else s
  | .safety =>
    if !s.flag PAR_RST_CFG_SAF_RESET then violate s
    else if key then beginReset s (fieldIn PAR_RST_PART v) 2 else s

/-- SELF_RESET (R152, R169): a partition's own key on its doorbell page. -/
def execSelfReset (w : Writer) (part : Fin 8) (v : Word) (s : State) : Res := whileCd s <|
  if !pageOf s w part.val then dbBad s
  else if v.toNat = 0x5E1F then beginReset s part.val 3 else s

/-- The rings of a partition are disarmed and its class N events discarded (step 6 of Table 6.7). -/
def disarmPart (s : State) (p : Nat) : State :=
  let s1 := (List.range 7).foldl (fun t e => (List.range 5).foldl (fun u k => disarm u (ringKey p e k)) t) s
  let s2 := setPartEv (disarm s1 (eventKey p)) p { partEv s1 p with suppressed := [], unsignalled := 0 }
  { s2 with rng := { s2.rng with shadows := tabSet {} s2.rng.shadows p { shadowOf s2 p with armed := false, phys := 0 } } }

/-- PART_RESET_DONE (R153). -/
def execPartResetDone (part : Fin 8) (s : State) : Res := whileCd s <|
  let p := part.val
  match tabFind s.par.resetting p with
  | none => s
  | some r =>
    let s1 := (disarmPart s p).wr (PAR_STATE_STATE p) 1
    raise { s1 with par := { s1.par with resetting := tabDel s1.par.resetting p } } 89 true [0, p]
      ([byte p, byte r.trigger] ++ leBytes 2 (min 65535 ((s.now - r.since) * 100000 / 32768)))

/-! ### The ends of orphan states (R157) -/

/-- ORPHAN_TIMEOUT: a channel in HOLD whose owner has a limit goes to OFF. -/
def execOrphanTimeout (c : Chan) (s : State) : Res :=
  let m := master s c
  let limit := match (ownerOf s m.kind m.idx).bind (entryOf s) with | some e => e.orphanT | none => 0
  .next (if (chn s m).orphan = 2 ∧ limit ≠ 0 ∧ lasted s (chn s m).orphanAt (1000000 * limit) then orphanNow s m 0 else s)

/-- ORPHAN_BRAKE_END (R30, R156): the bridge switches off, and under the limp table then takes its entry's level; a drive whose
trigger became true during the brake runs now (R209). -/
def execOrphanBrakeEnd (c : Chan) (s : State) : Res :=
  let m := master s c
  if (chn s m).braking ∧ 20000 ≤ usNow s - (chn s m).runAt then
    let s1 := bridgeOff (setChn s m { chn s m with braking := false }) m
    if (chn s m).limpDrive == .waiting ∧ (chn s m).safe == .none then
      .next (limpDriveStart (setChn s1 m { chn s1 m with limpDrive := .none }) m (chn s m).limpDir (chn s m).limpMs)
    else .next (match (activeCopy s1).bind (fun t => t.entries.find? (fun e => master s1 e.ch == m)) with
      | some e => if limpActive s1 then limpEntryAct s1 false e else s1
      | none => s1)
  else .next s

/-! ### Events (R159 to R161) -/

/-- EVENT_COALESCE_TIMEOUT (R159). -/
def execEventCoalesceTimeout (part : Fin 8) (s : State) : Res :=
  whileCd s (if (partEv s part.val).unsignalled = 0 then s else signalEvents s part.val)

/-- The oldest suppressed source of a partition gets its summarising record, as far as tokens go; one that meets a full ring or
an owner that is not RUNNING is lost, counted, and takes no token (R159, R161). -/
def writeSuppressed (p : Nat) : Nat → State → State
  | 0, s => s
  | n + 1, s =>
    let e := partEv s p
    match e.suppressed with
    | [] => s
    | r :: rest =>
      if !canDeliver s p then
        writeSuppressed p n (countLoss ((setPartEv s p { e with suppressed := rest }).bump (PAR_EVT_CNT_EV_LOST p) 1) 3 1 [p])
      else if tokens s p = 0 then s
      else
        let u := e.unsignalled + 1
        let s1 := setPartEv (writeEvent s p r) p { e with suppressed := rest, used := e.used + 1, unsignalled := u }
        let co := match entryOf s p with | some x => x.evCoalesce | none => 0
        writeSuppressed p n (if co = 0 ∨ u ≥ 16 then signalEvents s1 p else s1)

/-- EVENT_TOKEN_REFILL (R159): every bucket is full again. -/
def execEventTokenRefill (s : State) : Res := whileCd s <|
  (List.range 8).foldl (fun t p =>
    writeSuppressed p (partEv t p).suppressed.length (setPartEv t p { partEv t p with used := 0 })) s

/-- SW_EVENT (R160). -/
def execSwEvent (w : Writer) (part : Fin 8) (v : Word) (s : State) : Res := whileCd s <|
  if !pageOf s w part.val || v.toNat ≥ 3 then dbBad s
  else raise s (104 + 3 * part.val + v.toNat) false [part.val] []

/-- S_QUEUE_DELIVER (R161): the oldest waiting class S record of a partition. -/
def execSQueueDeliver (part : Fin 8) (s : State) : Res := whileCd s <|
  let p := part.val
  match (partEv s p).queue with
  | [] => s
  | r :: rest =>
    if canDeliver s p then signalEvents (writeEvent (setPartEv s p { partEv s p with queue := rest }) p r) p else s

end Sys2Proof.Machine
end

