-- ==== Sys2Proof/Machine/Chain.lean ====
section
/-! DEFINITION.
The chain commands (chapter 5): links, cruise, the bypass, and chain sleep.
-/

namespace Sys2Proof.Machine

/-! ### Received Zilek frames (R115 to R118, Table 5.1) -/

/-- A Zilek frame taken apart: type, AUTH, DST, SRC, PART, SEQ, the body, and the 12 header bytes. -/
structure Zk where
  typ : Nat
  auth : Bool
  dst : Nat
  src : Nat
  part : Nat
  seq : Nat
  body : List Byte
  head : List Byte
  deriving DecidableEq, Repr

/-- The reserved body fields and unlisted bits of each received type are zero (R116). -/
def bodyClean (typ : Nat) (b : List Byte) : Bool :=
  match typ with
  | 0 => leAt b 24 1 < 32 && beAt b 26 2 == 0
  | 1 => beAt b 2 2 == 0
  | 2 => beAt b 12 4 == 0
  | 3 => beAt b 5 3 == 0
  | 4 => beAt b 3 5 == 0
  | 6 => leAt b 3 1 < 8
  | 7 => beAt b 2 2 == 0 && beAt b 30 2 == 0
  | _ => true

/-- A frame, from its Zilek header on, when R116 finds no fault in it. -/
def parseZilek (f : List Byte) : Option Zk :=
  let typ := leAt f 0 1 % 16
  let len := beAt f 8 2
  let body := (f.drop 12).take len
  if f.length < 12 ∨ leAt f 0 1 / 16 ≠ 1 ∨ typ ≥ 8 ∨ len > 1488 ∨ f.length < 12 + len then none
  else if leAt f 1 1 ≥ 2 ∨ leAt f 2 1 ≥ 64 ∨ leAt f 3 1 ≥ 64 ∨ leAt f 5 1 ≠ 0 ∨ beAt f 10 2 ≠ 0 then none
  else if !bodyClean typ body then none
  else some ⟨typ, bit (leAt f 1 1) 0, leAt f 2 1, leAt f 3 1, leAt f 4 1, beAt f 6 2, body, f.take 12⟩

/-- The bypass is engaged. -/
def bypassed (s : State) : Bool := s.flag CHN_BYPASS_ACTIVE

/-- A frame that reaches the unit's endpoint on a chain port: through an engaged bypass it only passes on (R125); where the link
die is off or the chain is cut, it is lost (Table 1.7, R124). -/
def onFrame (s : State) (port : Nat) (f : List Byte) (act : Zk → State → State) : State :=
  if !s.pwr.ldUp then s
  else if bypassed s then emit s (.bypassed (1 - port) f)
  else if !cdUp s || s.chain.cut then s
  else match parseZilek f with
    | none => s.bump CHN_CNT_ZILEK_BAD 1
    | some z => act z s

/-! ### Cruise (R119 to R123, Table 5.4) -/

/-- The unit's unique identifier in network order. -/
def uidBytes (s : State) : List Byte :=
  beBytes 4 (s.rd (CHN_UID_UID 3)) ++ beBytes 4 (s.rd (CHN_UID_UID 2)) ++ beBytes 4 (s.rd (CHN_UID_UID 1))
    ++ beBytes 4 (s.rd (CHN_UID_UID 0))

/-- A CRUISE body that names this unit. -/
def cruiseBody (s : State) (sub newAddr port : Nat) (unsolicited : Bool) : List Byte :=
  let flags := s.rd CHN_CRUISE_RING_SEEN + (if unsolicited then 2 else 0)
    + (if unsolicited && s.flag PWR_STATUS_RESUMED then 4 else 0) + (if s.chain.posDup then 8 else 0)
    + (if limpActive s then 16 else 0)
  [byte sub, byte (s.rd CHN_CRUISE_HOPS)] ++ beBytes 2 (s.rd CHN_CRUISE_CRUISE_ID) ++ uidBytes s
    ++ [byte (s.rd CHN_ADDR_POS), byte (s.rd CHN_ADDR_PIN), byte (ownAddr s), byte newAddr, byte flags, byte port, 0, 0]

/-- Send a CRUISE frame to the group address on a port whose link is up. A unit that forwards one puts its own address into SRC
(log entry 86). -/
def sendCruise (s : State) (port : Nat) (body : List Byte) : State :=
  if linkUp s port then sendZilek s port 0 0 63 0xFF 0 body else s

/-- An ANNOUNCE out of a port. -/
def announceOut (s : State) (port arrived : Nat) (unsolicited : Bool) : State :=
  sendCruise s port (cruiseBody s 2 62 arrived unsolicited)

/-- A CRUISE frame of a subtype. -/
def onCruise (sub : Nat) (s : State) (port : Nat) (f : List Byte) (act : Zk → State → State) : State :=
  onFrame s port f (fun z t => if z.typ = 0 ∧ leAt z.body 0 1 = sub then act z t else t)

/-- DISCOVER (R121). -/
def execDiscover (port : Fin 2) (frame : List Byte) (s : State) : Res :=
  .next (onCruise 1 s port.val frame (fun z t =>
    let id := beAt z.body 2 2
    let p := port.val
    let hops := (leAt z.body 1 1 + 1) % 256
    if !t.chain.cruised || t.rd CHN_CRUISE_CRUISE_ID != id then
      let t1 := (((t.wr CHN_CRUISE_CRUISE_ID id).wr CHN_CRUISE_UPSTREAM p).wr CHN_CRUISE_HOPS hops).put
        CHN_CRUISE_RING_SEEN false
      let t2 := { t1 with chain := { t1.chain with cruised := true } }
      let fwd := z.body.take 1 ++ [byte hops] ++ z.body.drop 2
      announceOut (sendCruise t2 (1 - p) fwd) p p false
    else if p ≠ upstream t then announceOut (t.put CHN_CRUISE_RING_SEEN true) (upstream t) p false
    else t))

/-- ANNOUNCE (R121). -/
def execAnnounce (port : Fin 2) (frame : List Byte) (s : State) : Res :=
  .next (onCruise 2 s port.val frame (fun z t => sendCruise t (upstream t) z.body))

/-- CONFIRM (R121). -/
def execConfirm (port : Fin 2) (frame : List Byte) (s : State) : Res :=
  .next (onCruise 4 s port.val frame (fun z t => sendCruise t (upstream t) z.body))

/-- ANNOUNCE_TIMER (R119): an unaddressed unit announces itself until an ASSIGN arrives. -/
def execAnnounceTimer (s : State) : Res := whileCd s <|
  if ownAddr s = 62 ∧ !s.chain.assigned ∧ !bypassed s then
    (if s.chain.cruised then [upstream s] else [0, 1]).foldl (fun t p => announceOut t p (upstream t) true) s
  else s

/-- ASSIGN (R121, R122): the one that carries this unit's UID is held as pending and answered, and is not forwarded; every other
one is forwarded (log entry 87). One with a NEW_ADDR outside 1 to 30 is counted in ZILEK_BAD (log entry 88). -/
def execAssign (port : Fin 2) (frame : List Byte) (s : State) : Res :=
  .next (onCruise 3 s port.val frame (fun z t =>
    let a := leAt z.body 23 1
    let dup := bit (leAt z.body 24 1) 3
    if slice z.body 4 16 ≠ uidBytes t then sendCruise t (1 - upstream t) z.body
    else if a < 1 ∨ 30 < a then t.bump CHN_CNT_ZILEK_BAD 1
    else
      let t1 := { t with chain := { t.chain with pendingAddr := some a, posDup := dup, assigned := true } }
      let t2 := if dup then raise t1 42 true [0] ([byte (t1.rd CHN_ADDR_POS), 0]
          ++ leBytes 2 (t1.rd CHN_CRUISE_CRUISE_ID)) else t1
      sendCruise t2 (upstream t2) (cruiseBody t2 4 62 (upstream t2) false)))

/-- DONE (R121, R136). -/
def execCruiseDone (port : Fin 2) (frame : List Byte) (s : State) : Res :=
  .next (onCruise 5 s port.val frame (fun z t =>
    let t0 := sendCruise t (1 - upstream t) z.body
    if t.chain.cruised ∧ t.rd CHN_CRUISE_CRUISE_ID = beAt z.body 2 2 then
      let a := t.chain.pendingAddr.getD (ownAddr t)
      let t1 := { t0.wr CHN_ADDR_ADDR a with chain := { t0.chain with pendingAddr := none } }
      let t2 := if a = ownAddr t then t1 else detachAll t1 6
      raise t2 41 false [0] ([byte a, byte (t2.rd CHN_CRUISE_HOPS)] ++ leBytes 2 (t2.rd CHN_CRUISE_CRUISE_ID)
        ++ [byte (t2.rd CHN_CRUISE_RING_SEEN)])
    else t0))

/-- ASSIGN_TIMEOUT (R121). -/
def execAssignTimeout (s : State) : Res := .next { s with chain := { s.chain with pendingAddr := none } }

/-! ### Links (R111, R112) -/

/-- Remove the dynamic table entries that a test picks, counted in FLUSHED (R343 to R345). -/
def flushDynamic (s : State) (hit : TblEnt → Bool) : State :=
  let t := s.sw.table.filter (fun e => e.2.static || !hit e.2)
  swCount (({ s with sw := { s.sw with table := t } }).wr SW_STATUS_ENTRIES t.length) 15 0 0 (s.sw.table.length - t.length)

/-- The partitions whose home is the head (R112). -/
def remoteParts (s : State) : List Nat := (List.range 8).filter (fun p => homeOf s p == 2)

/-- The unit keeps an address through a cold start, and announces itself once, when its upstream link is up and the switch
reaches it (R119). -/
def announceKept (s : State) : State :=
  if s.chain.announceDue && ownAddr s != 62 && linkUp s (upstream s) && !offChain s && cdUp s then
    announceOut { s with chain := { s.chain with announceDue := false } } (upstream s) (upstream s) true
  else s

/-- A chain port's link changes: it is reported, here or once the control die is back (R524), and what was learned on the port
goes (R112, R341). -/
def setLink (s : State) (port : Nat) (up : Bool) : State :=
  let ch := if port = 0 then { s.chain with up0 := up } else { s.chain with up1 := up }
  let s1 := { s with chain := ch }
  if linkUp s port = up then s
  else
    let s2 := if cdUp s then flushDynamic s1 (fun e => !e.mcast && e.port == port) else s1
    announceKept (raise s2 40 false (0 :: remoteParts s2) [byte port, byte (if up then 1 else 0)])

/-- CHAIN_LINK_CHANGE (R112). -/
def execChainLinkChange (port : Fin 2) (up : Bool) (s : State) : Res :=
  .next (if s.pwr.ldUp then setLink s port.val up else s)

/-- CHN_PORT_CFG_WRITE (R111, R536): a port whose RATE or ROLE changes takes its link down and retrains. -/
def execChnPortCfgWrite (w : Writer) (v : Word) (s : State) : Res := whileCd s <|
  if w = .safety then violate s
  else
    let t := writeWord s 0x40000 v.toNat
    let t0 := if t.rd CHN_PORT_CFG_RATE0 ≠ s.rd CHN_PORT_CFG_RATE0 ∨ t.rd CHN_PORT_CFG_ROLE0 ≠ s.rd CHN_PORT_CFG_ROLE0
      then setLink t 0 false else t
    if t.rd CHN_PORT_CFG_RATE1 ≠ s.rd CHN_PORT_CFG_RATE1 ∨ t.rd CHN_PORT_CFG_ROLE1 ≠ s.rd CHN_PORT_CFG_ROLE1
      then setLink t0 1 false else t0

/-! ### The bypass (R124 to R127, R137) -/

/-- The causes of R124 that remain now: a clock cause ends when PLL_L is locked. -/
def remaining (s : State) : List Nat := s.chain.causes.filter (fun c => c != 3 || !locked s 2)

/-- The frames that wait in the switch for the chain ports are lost when the switch is cut off from them (R124). -/
def dropChain (s : State) : State :=
  (List.range 16).foldl (fun t k =>
    let n := (queueOf t (k / 8) (k % 8)).length
    if n = 0 then t else (setQueue t (k / 8) (k % 8) []).bump CHN_BYPASS_BYP_LOST n) s

/-- The bypass engages for a cause that has arisen, or the chain is cut because the rates differ; `lost` frames were in
transit, beside those queued. -/
def engage (s : State) (cause lost : Nat) : State :=
  if !s.pwr.ldUp || !s.chain.causes.contains cause || s.chain.cut then s
  else if bypassed s then s.wr CHN_BYPASS_CAUSE cause
  else if s.rd CHN_PORT_CFG_RATE0 ≠ s.rd CHN_PORT_CFG_RATE1 then
    let t := dropChain (s.wr CHN_BYPASS_CAUSE 6)
    { t with chain := { t.chain with cut := true } }
  else dropChain (((s.put CHN_BYPASS_ACTIVE true).wr CHN_BYPASS_CAUSE (if cause = 7 then 1 else cause)).bump CHN_BYPASS_BYP_LOST lost)

/-- BYPASS_ENGAGE (R124). -/
def execBypassEngage (cause lost : Nat) (s : State) : Res := .next (engage s cause lost)

/-- LD_CONTROL_LOST (R21): by link silence or by the CONTROL_LOST message, the link die wants the bypass. -/
def execLdControlLost (s : State) : Res :=
  .next (if s.pwr.ldUp && (s.pwr.cd == .lost || s.pwr.armed) then wantBypass s 1 else s)

/-- The bypass is left when no cause remains (R127); the unit then announces itself once (R137). CAUSE reads 0 from then on
(log entry 89). -/
def leaveBypass (s : State) (lost : Nat) : State :=
  if (bypassed s || s.chain.cut) && (remaining s).isEmpty && s.pwr.cd == .run then
    let s1 := ((s.put CHN_BYPASS_ACTIVE false).wr CHN_BYPASS_CAUSE 0).bump CHN_BYPASS_BYP_LOST
      (if bypassed s then lost else 0)
    let s2 := { s1 with chain := { s1.chain with cut := false, causes := [] } }
    if bypassed s then
      announceOut { s2 with chain := { s2.chain with announceDue := false } } (upstream s2) (upstream s2) true
    else announceKept s2
  else s

/-- A write of CHN_BYPASS: FORCE comes or goes as a cause, and LEAVE acts at once or is ignored. -/
def writeBypass (s : State) (w : Writer) (v : Word) (lost : Nat) : State :=
  if w = .safety then violate s
  else
    let t := (writeWord s 0x40030 v.toNat).put CHN_BYPASS_LEAVE false
    let t1 := if t.flag CHN_BYPASS_FORCE then wantBypass t 4
      else { t with chain := { t.chain with causes := t.chain.causes.filter (· != 4) } }
    if fieldIn CHN_BYPASS_LEAVE v = 1 then leaveBypass t1 lost else t1

/-- BYPASS_FORCE (R124). -/
def execBypassForce (w : Writer) (v : Word) (s : State) : Res := whileCd s (writeBypass s w v 0)

/-- BYPASS_LEAVE (R127): `lost` frames were in transit. -/
def execBypassLeave (w : Writer) (v : Word) (lost : Nat) (s : State) : Res := whileCd s (writeBypass s w v lost)

/-! ### Sleep and wake (R129) -/

/-- CHAIN_SLEEP_REQ (R129). -/
def execChainSleepReq (port : Fin 2) (s : State) : Res := whileCd s <|
  if s.pwr.ps = .run ∧ linkUp s port.val then
    emit (raise s 43 false [0] [byte port.val]) (.sleepAck port.val (s.flag CHN_SLEEP_SLEEP_OK))
  else s

/-- SEND_WHISTLE (R129): each bit written 1 sends its whistle; the bits read 0 again once it has been sent. -/
def execSendWhistle (w : Writer) (v : Word) (s : State) : Res := whileCd s <|
  if w = .safety then violate s
  else
    let t := (writeWord s 0x40058 v.toNat).wr CHN_SLEEP_SEND_WHISTLE 0
    let t0 := if bit (fieldIn CHN_SLEEP_SEND_WHISTLE v) 0 then emit t (.whistle 0) else t
    if bit (fieldIn CHN_SLEEP_SEND_WHISTLE v) 1 then emit t0 (.whistle 1) else t0

/-! ### The hand-over of the boot ROM (R99, R119, R530) -/

/-- P0_HANDOFF (R530): the cores start at P0's ENTRY, with the active bank in a0 and 0 in a1, at the boot ROM's last feed; a
completed wake is reported, and the unit announces the address it has kept. -/
def execP0Handoff (s : State) : Res :=
  if s.pwr.cd == .boot && s.pwr.bootDone then
    let s0 := emit s (.coreStart s.pwr.bootEntry (leBytes 4 (s.rd UPD_STATUS_ACTIVE_BANK) ++ leBytes 4 0))
    let s1 := announceKept (feedNow { s0 with pwr := { s0.pwr with cd := .run, cores := [] } })
    match s1.pwr.wakeBy with
    | some cs => .next (wakeDone { s1 with pwr := { s1.pwr with wakeBy := none } } cs)
    | none => .next s1
  else .next s

end Sys2Proof.Machine
end

