-- ==== Sys2Proof/Machine/Proxy.lean ====
section
/-! DEFINITION.
The ring proxy (chapter 5, R132 to R139, and R187, R188): attachment, fetching, posting and liveness of REMOTE
partitions.
-/

namespace Sys2Proof.Machine

/-- The chain address of a REMOTE partition's home. -/
def homeAddr (s : State) (p : Nat) : Nat := match entryOf s p with | some e => e.addr | none => 0

/-- A frame the proxy drops and counts (R133, R138). -/
def proxyDrop (s : State) : State := s.bump CHN_CNT_PROXY_DROP 1

/-- A frame of a remote ring type for this unit; `sec` says that MACsec has verified it. An unprotected one is dropped and
counted where MACsec is configured on its port (R117). -/
def onRemote (typ : Nat) (sec : Bool) (s : State) (port : Nat) (f : List Byte) (act : Zk → State → State) : State :=
  onFrame s port f (fun z t =>
    if t.flag (SW_MSEC_CFG_MSEC_EN port) && !sec then swCount t 20 port 0 1
    else if z.typ = typ ∧ (z.dst = ownAddr t ∨ z.dst = 63) then act z t else t)

/-- A frame for an attached partition from its home, which restarts DETACH_T; any other is dropped and counted. -/
def fromHome (z : Zk) (s : State) (act : State → State) : State :=
  if z.part < 8 ∧ attached s z.part ∧ z.src = homeAddr s z.part then
    act (setProxy s z.part { proxyOf s z.part with heardAt := s.now })
  else proxyDrop s

/-! ### Fetching (R133, R188) -/

/-- The READ_REQ of a read. -/
def sendRead (s : State) (p : Nat) (r : ProxyRead) : State :=
  sendZilek s (upstream s) 2 0 (homeAddr s p) p 0 (beBytes 2 r.id ++ beBytes 2 r.len ++ beBytes 8 r.addr ++ [0, 0, 0, 0])

/-- One more READ_REQ for new descriptors of a ring: at most 16, never across a wrap, four outstanding. -/
def fetchOne (p eng ring : Nat) (s : State) : State :=
  let g := ringAt s (ringKey p eng ring)
  let x := proxyOf s p
  let a := tabGet 0 x.asked (eng * 4 + ring)
  let n := min (min 16 ((g.prod + 2 ^ 32 - a) % 2 ^ 32)) (2 ^ g.size - a % 2 ^ g.size)
  if !g.armed ∨ n = 0 ∨ (x.reads.filter (fun r => r.eng != DATA)).length ≥ 4 then s
  else
    let r : ProxyRead := ⟨s.chain.nextReq, g.phys + (a % 2 ^ g.size) * 64, n * 64, 1, eng, ring, a, s.now⟩
    let s1 := setProxy s p { x with reads := x.reads ++ [r],
                                    asked := tabSet 0 x.asked (eng * 4 + ring) ((a + n) % 2 ^ 32) }
    sendRead { s1 with chain := { s1.chain with nextReq := (s1.chain.nextReq + 1) % 65536 } } p r

/-- READ_REQ frames for everything new of a partition, as far as four outstanding requests allow. -/
def fetchAll (s : State) (p : Nat) : State :=
  (List.range 4).foldl (fun t _ => (List.range 28).foldl (fun u k => fetchOne p (k / 4) (k % 4) u) t) s

/-- DOORBELL_FRAME (R133, R138, R187). -/
def execDoorbellFrame (port : Fin 2) (frame : List Byte) (sec : Bool) (s : State) : Res :=
  .next (onRemote 1 sec s port.val frame (fun z t => fromHome z t (fun u =>
    let e := leAt z.body 0 1
    let k := leAt z.body 1 1
    let v := beAt z.body 4 4
    if e ≥ 7 ∨ k > 5 then dbBad u
    else if k < 4 then fetchAll (producer u z.part e k v) z.part
    else consumer u z.part e k v)))

/-- What a READ_RSP brings: the descriptors of its range, each without bytes when the head answered FAULT. -/
def readData (r : ProxyRead) (fault : Bool) (data : List Byte) : List (Nat × Nat × Nat × List Byte) :=
  (List.range (r.len / 64)).map (fun i =>
    (r.eng, r.ring, (r.first + i) % 2 ^ 32, if fault then [] else slice data (64 * i) 64))

/-- READ_RSP (R133, R188): it answers an outstanding request; what a data request brings the descriptor has had as free values
when it started (log entry 90). -/
def execReadRsp (port : Fin 2) (frame : List Byte) (sec : Bool) (s : State) : Res :=
  .next (onRemote 3 sec s port.val frame (fun z t => fromHome z t (fun u =>
    let x := proxyOf u z.part
    match x.reads.find? (fun r => r.id == beAt z.body 0 2) with
    | none => proxyDrop u
    | some r =>
      let rest := x.reads.filter (fun q => q.id != r.id)
      if r.eng = DATA then setProxy u z.part { x with reads := rest }
      else fetchAll (setProxy u z.part { x with reads := rest, fetched := x.fetched ++ readData r (leAt z.body 4 1 == 1) (z.body.drop 8) })
        z.part)))

/-- READ_TIMEOUT (R133): after READ_TMO without an answer the request is sent again, three times in all. -/
def execReadTimeout (part : Fin 8) (id : Nat) (s : State) : Res := whileCd s <|
  let p := part.val
  let x := proxyOf s p
  match x.reads.find? (fun r => r.id == id) with
  | none => s
  | some r =>
    if !lasted s r.since (10 * s.rd CHN_REMOTE_READ_TMO) then s
    else if r.tries ≥ 3 then detach s p 3
    else sendRead (setProxy s p { x with reads := x.reads.map (fun q =>
      if q.id = id then { q with tries := q.tries + 1, since := s.now } else q) }) p r

/-! ### Heartbeats and attachment (R132, R134, R138, R139) -/

/-- The body of a HEARTBEAT that the unit sends. -/
def heartbeatBody (s : State) (state flags : Nat) : List Byte := [0, 0, byte state, byte flags] ++ beBytes 8 (dtNow s)

/-- Frames up to an acknowledged SEQ are done with, and waiting posts follow. -/
def acknowledge (s : State) (p seq : Nat) : State :=
  let x := proxyOf s p
  match x.unacked.findIdx? (fun f => f.seq == seq) with
  | none => s
  | some i =>
    let s1 := setProxy s p { x with unacked := x.unacked.drop (i + 1), waiting := [], sentAt := s.now }
    x.waiting.foldl (fun t f => proxyPost t p f.typ f.body) s1

/-- A partition attaches: every ring and the SEQ stream start at 0 (R132). -/
def attach (s : State) (p : Nat) : State :=
  let zero (t : State) (k : Nat) : State := setRing t k { ringAt t k with prod := 0, cons := 0 }
  let s1 := (List.range 57).foldl (fun t k => zero t (p * 64 + k)) s
  let s2 := (setProxy (s1.orF CHN_ATTACH_ATTACHED (2 ^ p)) p { heardAt := s.now }).wr (PAR_STATE_STATE p) 2
  raise s2 44 false [0] [byte p, byte (homeAddr s p)]

/-- A HEARTBEAT with ATTACH_REQ: refused for a home that is not REMOTE, for a partition whose rings are not armed and
while POS_DUP stands; an attached partition is detached first. -/
def onAttach (z : Zk) (port : Nat) (s : State) : State :=
  let p := z.part
  let answer (t : State) (st fl : Nat) : State := sendZilek t port 6 0 z.src p 0 (heartbeatBody t st fl)
  if homeOf s p ≠ 2 ∨ (partState s p ≠ 2 ∧ partState s p ≠ 3) then answer s 0 4
  else if z.src ≠ homeAddr s p then proxyDrop s
  else if s.chain.posDup then answer s 0 4
  else answer (attach (if attached s p then detach s p 8 else s) p) 1 0

/-- A HEARTBEAT from a home (R133, R134, R138). -/
def onHeartbeat (z : Zk) (port : Nat) (s : State) : State :=
  let fl := leAt z.body 3 1
  if bit fl 0 then (if z.part < 8 then onAttach z port s else proxyDrop s)
  else fromHome z s (fun u => if bit fl 1 then detach u z.part 2 else acknowledge u z.part (beAt z.body 0 2))

/-- HEARTBEAT (R134). -/
def execHeartbeat (port : Fin 2) (frame : List Byte) (sec : Bool) (s : State) : Res :=
  .next (onRemote 6 sec s port.val frame (fun z t => onHeartbeat z port.val t))

/-- ATTACH_REQ (R132, R139). -/
def execAttachReq (port : Fin 2) (frame : List Byte) (sec : Bool) (s : State) : Res :=
  .next (onRemote 6 sec s port.val frame (fun z t => onHeartbeat z port.val t))

/-- DETACH_REQ (R134). -/
def execDetachReq (port : Fin 2) (frame : List Byte) (sec : Bool) (s : State) : Res :=
  .next (onRemote 6 sec s port.val frame (fun z t => onHeartbeat z port.val t))

/-- HEARTBEAT_SEND (R134): the shadow block goes with it when one of its values has changed (R188). -/
def execHeartbeatSend (part : Fin 8) (s : State) : Res := whileCd s <|
  if attached s part.val then
    let t := sendZilek s (upstream s) 6 0 (homeAddr s part.val) part.val 0 (heartbeatBody s 1 0)
    if (proxyOf t part.val).stale then sendShadow t part.val else t
  else s

/-- DETACH_T in milliseconds: at least twice HB_PERIOD (Table 5.8). -/
def detachMs (s : State) : Nat := max (s.rd CHN_REMOTE_DETACH_T) (2 * s.rd CHN_REMOTE_HB_PERIOD)

/-- DETACH_TIMEOUT (R134): no valid frame has come from the home for DETACH_T. -/
def execDetachTimeout (part : Fin 8) (s : State) : Res := whileCd s <|
  if lasted s (proxyOf s part.val).heardAt (1000 * detachMs s) then detach s part.val 1 else s

/-- WRITE_RETRANSMIT (R133): WR_RETX after they were sent, from the first unacknowledged frame on. -/
def execWriteRetransmit (part : Fin 8) (s : State) : Res := whileCd s <|
  let x := proxyOf s part.val
  if lasted s x.sentAt (100 * s.rd CHN_REMOTE_WR_RETX) then
    x.unacked.foldl (fun t f => sendZilek t (upstream t) f.typ 0 (homeAddr t part.val) part.val f.seq f.body)
      (setProxy s part.val { x with sentAt := s.now })
  else s

end Sys2Proof.Machine
end

