-- ==== Sys2Proof/Machine/Maint.lean ====
section
/-! DEFINITION.
MAINT requests and their answers (R34, R50, R130, R131, R509, R581).
-/

namespace Sys2Proof.Machine

/-! ### The tally over MAINT (Table 23.4) -/

/-- Up to `need` present records of an area from an index on, below `stop`; absent slots are skipped. -/
def gather (pick : Nat → Option TRec) (stop : Nat) : Nat → Nat → Nat → List TRec
  | 0, _, _ => []
  | fuel + 1, need, x =>
    if need = 0 ∨ stop ≤ x then []
    else match pick x with
      | some r => r :: gather pick stop fuel (need - 1) (x + 1)
      | none => gather pick stop fuel need (x + 1)

/-- The records of the ring area from a START on; an overwritten START begins at the oldest surviving record. -/
def ringRecords (s : State) (start count : Nat) : List TRec :=
  match ringStart s start with
  | none => []
  | some x => gather (ringRec s) (nextX s) 7168 count (max x (nextX s - 7168))

/-- The records of the first-fault area from a slot on. -/
def firstRecords (s : State) (start count : Nat) : List TRec :=
  gather (firstRec s) (s.rd TLY_STATUS_FF_COUNT) 1024 count start

/-- The status answer of AREA 2. -/
def tallyStatus (s : State) : List Byte :=
  leBytes 4 (s.rd TLY_NEXT_NEXT_RSEQ) ++ leBytes 4 (s.rd TLY_MARK_RD_MARK) ++ leBytes 2 (s.rd TLY_STATUS_FF_COUNT)
    ++ leBytes 2 (s.rd TLY_CNT0_FF_LOST) ++ leBytes 2 (s.rd TLY_CNT0_DROPPED) ++ leBytes 2 (s.rd TLY_CNT1_UNREAD_LOST)
    ++ leBytes 2 (s.rd TLY_CNT1_MIRROR_FIX) ++ [byte (s.rd TLY_STATUS_KEYLESS), 0] ++ leBytes 6 s.tly.lastClear
    ++ leBytes 2 (s.rd TLY_STATUS_WRAPS) ++ [0, 0, 0, 0]

/-- TALLY_READ: MSTATUS, the answer data and, with MARK and a valid tag on the ring area, the moved RD_MARK. -/
def tallyRead (s : State) (arg : Nat) (valid : Bool) : Nat × List Byte × State :=
  let area := arg / 2 ^ 30
  let count := bits arg 28 24
  let start := arg % 2 ^ 24
  if area = 2 then (0, tallyStatus s, s)
  else if area = 3 ∨ count = 0 ∨ count > 16 ∨ (area = 1 ∧ start > 1023) then (2, [], s)
  else
    let l := if area = 0 then ringRecords s start count else firstRecords s start count
    let s1 := match l.getLast? with
      | some r => if area = 0 ∧ valid ∧ bit arg 29 then
          let t := s.wr TLY_MARK_RD_MARK r.rseq
          { t with tly := { t.tly with unreadRaised := t.tly.unreadRaised && !beyondMark s r.rseq } }
        else s
      | none => s
    (0, l.flatMap recBytes, s1)

/-- TALLY_CLEAR acts: the first-fault area is emptied and TALLY_CLEARED becomes its slot 0. The request carries no
requester's UID, so the record's is zero. -/
def tallyClear (s : State) : State :=
  let n := s.rd TLY_STATUS_FF_COUNT
  let l := s.rd TLY_CNT0_FF_LOST
  let s1 := ((s.wr TLY_STATUS_FF_COUNT 0).put TLY_STATUS_FF_FULL false).wr TLY_CNT0_FF_LOST 0
  let s2 := { s1 with tly := { s1.tly with first := [], fullRaised := false, lastClear := rtc s } }
  raise (writeRec s2 ⟨24, tallyFlags s2, rtc s2, padTo 32 (leBytes 2 n ++ leBytes 2 l)⟩) 99 false [0]
    (leBytes 2 n ++ leBytes 2 l)

/-! ### Requests, tags and answers (Table 5.6) -/

/-- The MAINT key of slot 5. -/
def maintKey (s : State) : Option (BitVec 128) :=
  if bit (s.rd SEC_KEY_STATE_FILLED) 5 then some (BitVec.ofNat 128 (beNat (tabGet [] s.sec.keys 5))) else none

/-- The first 8 bytes of the AES-CMAC over a Zilek frame up to its tag (R131). -/
def maintTag (k : BitVec 128) (l : List Byte) : List Byte := (beBytes 16 (Config.cmac (beBytes 16 k.toNat) l).toNat).take 8

/-- Where a request's tag begins in its body. -/
def tagAt (z : Zk) : Nat := 32 + beAt z.body 28 2

/-- The request's tag is valid: AUTH, a fresh MCTR and the right TAG (R131). -/
def tagValid (s : State) (z : Zk) : Bool :=
  match maintKey s with
  | none => false
  | some k => z.auth && s.rd CHN_MAINT_CTR_MCTR_LAST < beAt z.body 20 4
      && slice z.body (tagAt z) 8 == maintTag k (z.head ++ z.body.take (tagAt z))

/-- The request is for this unit: DST its address, with its UID or none; or DST 63 with its UID (R125, Table 5.6). -/
def forUnit (s : State) (z : Zk) : Bool :=
  let u := slice z.body 4 16
  (z.dst == ownAddr s && (u == List.replicate 16 0 || u == uidBytes s)) || (z.dst == 63 && u == uidBytes s)

/-- Answer a request on a port; a request with a valid tag gets a tagged answer. -/
def answer (s : State) (port : Nat) (z : Zk) (valid : Bool) (status : Nat) (data : List Byte) : State :=
  let body := [byte (leAt z.body 0 1 % 128 + 128), byte status, 0, 0] ++ uidBytes s ++ slice z.body 20 4
    ++ slice z.body 24 4 ++ beBytes 2 data.length ++ [0, 0] ++ data
  match maintKey s with
  | some k =>
    if valid then
      let f := (zilekBytes 7 1 z.src (ownAddr s) 0xFF 0 (body ++ List.replicate 8 0)).take (12 + body.length)
      emit s (.zilek port (zilekEth s z.src ++ f ++ maintTag k f))
    else sendZilek s port 7 0 z.src 0xFF 0 body
  | none => sendZilek s port 7 0 z.src 0xFF 0 body

/-- Somebody answers MAINT: the ring proxy while the control die runs, and the spar core while it is lost or the unit is
in SPAR_ONLY and the sideband works; nobody within a spar reset (R49, R130, Table 24.5). -/
def maintServed (s : State) : Bool :=
  s.spar.up && s.pwr.ldUp && ((evtOpen s && ldLink s) || (!cdUp s && !s.flt.lost.contains 2))

/-- A MAINT frame with an operation arrives: through an engaged bypass it also passes on, unless it is addressed to the
unit (R125). A request with an operation outside 1 to 8 is answered BAD_OP (Table 5.6). -/
def onMaint (op : Nat) (s : State) (port : Nat) (f : List Byte) (act : Zk → Bool → State → State) : State :=
  match parseZilek f with
  | none => if !s.pwr.ldUp then s
            else if bypassed s then emit s (.bypassed (1 - port) f)
            else if cdUp s then s.bump CHN_CNT_ZILEK_BAD 1 else s
  | some z =>
    let o := leAt z.body 0 1
    if z.typ ≠ 7 ∨ (o ≠ op ∧ ((1 ≤ o ∧ o ≤ 8) ∨ 128 ≤ o)) then s
    else
      let s1 := if bypassed s && z.dst != ownAddr s then emit s (.bypassed (1 - port) f) else s
      if forUnit s z && maintServed s then (if o = op then act z (tagValid s z) s1 else answer s1 port z (tagValid s z) 2 []) else s1

/-- MCTR_LAST takes the request's counter, which survives every reset (R131). -/
def takeCounter (s : State) (z : Zk) : State := s.wr CHN_MAINT_CTR_MCTR_LAST (beAt z.body 20 4)

/-- A failed authentication. -/
def authFail (s : State) (port : Nat) (z : Zk) : State :=
  answer (s.bump CHN_MAINT_MAINT_FAIL 1) port z false 1 []

/-- IDENT (R130). -/
def execIdent (port : Fin 2) (frame : List Byte) (s : State) : Res :=
  .next (onMaint 1 s port.val frame (fun z v t => answer t port.val z v 0
    (uidBytes t ++ [byte (t.rd CHN_ADDR_POS), byte (ownAddr t), byte (t.rd CHN_ADDR_PIN), 0xB1,
                    byte (t.rd SPR_STATUS_FW_VER)])))

/-- STATUS (R130): the power state is coded as LAST_STATE. -/
def execMaintStatus (port : Fin 2) (frame : List Byte) (s : State) : Res :=
  .next (onMaint 2 s port.val frame (fun z v t => answer t port.val z v 0
    ([byte (pstateCode t), byte (t.rd WAK_REASON_CODE), byte (t.rd WAK_FAIL_SEQ_FAILS + 16 * t.rd WAK_FAIL_LOCKOUT),
      byte (t.rd SPR_STATUS_LIMP_ACTIVE), byte (t.rd CHN_BYPASS_CAUSE), 0, 0, 0] ++ beBytes 6 (rtc t))))

/-- TALLY_READ (R131, R509). -/
def execTallyRead (port : Fin 2) (frame : List Byte) (s : State) : Res :=
  .next (onMaint 3 s port.val frame (fun z v t =>
    if t.flag CHN_MAINT_READ_AUTH && !v then authFail t port.val z
    else
      let arg := beAt z.body 24 4
      let (st, data, t1) := tallyRead t arg v
      let t2 := if v ∧ st = 0 ∧ (t.flag CHN_MAINT_READ_AUTH ∨ bit arg 29) then takeCounter t1 z else t1
      answer t2 port.val z v st data))

/-- TALLY_CLEAR (R131, R509). -/
def execTallyClear (port : Fin 2) (frame : List Byte) (s : State) : Res :=
  .next (onMaint 4 s port.val frame (fun z v t =>
    let arg := beAt z.body 24 4
    if !v then authFail t port.val z
    else if arg ≥ 2048 then answer t port.val z v 2 []
    else if arg ≠ t.rd TLY_STATUS_FF_COUNT then answer t port.val z v 4 []
    else answer (takeCounter (tallyClear t) z) port.val z v 0 []))

/-- MAINT_SPAR_RESET (R50). -/
def execMaintSparReset (port : Fin 2) (frame : List Byte) (s : State) : Res :=
  .next (onMaint 5 s port.val frame (fun z v t =>
    if !v then authFail t port.val z
    else sparReset ((answer (takeCounter t z) port.val z v 0 []).orF SPR_RST_CAUSE_CAUSE 4)))

/-- What an authenticated DEVICE_RESET does in each state (R49, R97, R523). -/
def maintReset (s : State) : State :=
  if s.flag EVT_CDLOSS_HALTED then unhalt s 5
  else if s.pwr.ps == .sparOnly then acceptWake (s.orF SPR_RST_CAUSE_CAUSE 32) 13 0
  else commandReset s 5

/-- MAINT_DEVICE_RESET (R50, R131): under LOCKOUT it is counted and answered LOCKED; a request that fails its authentication is
answered AUTH_FAIL, under LOCKOUT too (log entry 91). -/
def execMaintDeviceReset (port : Fin 2) (frame : List Byte) (s : State) : Res :=
  .next (showDomains (onMaint 6 s port.val frame (fun z v t =>
    if !v then authFail t port.val z
    else if t.flag WAK_FAIL_LOCKOUT then answer (acceptWake (t.orF SPR_RST_CAUSE_CAUSE 32) 13 0) port.val z v 3 []
    else maintReset (answer (takeCounter t z) port.val z v 0 []))))

/-- BYPASS_ON (R124): it acts while BYP_MAINT is 1. -/
def execBypassOn (port : Fin 2) (frame : List Byte) (s : State) : Res :=
  .next (onMaint 7 s port.val frame (fun z v t =>
    if !v then authFail t port.val z
    else if !t.flag CHN_BYPASS_BYP_MAINT then answer t port.val z v 2 []
    else wantBypass (answer (takeCounter t z) port.val z v 0 []) 5))

/-- BYPASS_OFF (R124, R127): the MAINT cause ends; the bypass itself waits for LEAVE. -/
def execBypassOff (port : Fin 2) (frame : List Byte) (s : State) : Res :=
  .next (onMaint 8 s port.val frame (fun z v t =>
    if !v then authFail t port.val z
    else
      let t1 := answer (takeCounter t z) port.val z v 0 []
      { t1 with chain := { t1.chain with causes := t1.chain.causes.filter (· != 5) } }))

end Sys2Proof.Machine
end

