-- ==== Sys2Proof/Machine/Limp.lean ====
section
/-! DEFINITION.
The limp commands (chapters 2 and 8): the limp inputs, the table's staging, commit and application, release, and the
drives that limp entries run.
-/

namespace Sys2Proof.Machine

/-! ### The limp inputs (R57, R58, R211) -/

/-- The owner of the limp inputs (Table 6.2). -/
def limpOwner (s : State) : Nat := ownerOr0 s 14 0

/-- The table is applied and its entries follow their triggers: not within the interim of R30, nor while the outputs
are parked in DEEP or OFF. -/
def limpRuns (s : State) : Bool := limpActive s && !s.act.interim && !s.act.parked

/-- An entry acts on a change of its trigger. A bridge in its 20 ms brake takes its level when the brake ends, and a drive then
runs (R33, R209). -/
def entryTrigger (s : State) (e : LimpEntry) : State :=
  let c := master s e.ch
  let act := if limpTrigger s e then e.actT else e.actF
  if (chn s c).braking then
    setChn s c (if act = 6 ∨ act = 7 then { chn s c with limpDrive := .waiting, limpDir := act - 3, limpMs := e.pulseMs }
                else { chn s c with limpDrive := .none })
  else limpEntryAct s true e

/-- Entries keyed on a trigger (1 IGN, 2 CRASH) act on its change. -/
def onTrigger (s : State) (trigger : Nat) : State :=
  match activeCopy s with
  | some t => (t.entries.filter (fun e => e.trigger == trigger)).foldl entryTrigger s
  | none => s

/-- Channels in the orphan state LIMP follow their entries while no table is applied (Table 6.9). -/
def onTriggerOrphans (s : State) (trigger : Nat) : State :=
  if limpActive s || s.act.interim || s.act.parked || s.pwr.ps == .deep || s.pwr.ps == .off then s
  else match activeCopy s with
    | some t => (t.entries.filter (fun e => e.trigger == trigger)).foldl (fun u e =>
        let c := master u e.ch
        if (chn u c).orphan = 3 ∧ (chn u c).safe == .none ∧ !(chn u c).braking ∧ !(chn u c).orphanDue then orphanLimp u c false
        else u) s
    | none => s

/-- What a voltage makes of a limp input: between its thresholds it keeps the reading (Table 2.5). -/
def inputReading (mv high low : Nat) (now : Bool) : Bool := if high ≤ mv then true else if mv ≤ low then false else now

/-- A CRASH entry holds its channel while the control die runs and CRASH_LIVE is 1 (R211). -/
def liveEntry (s : State) (e : LimpEntry) : State :=
  let s1 := limpEntryAct s true e
  let m := master s1 e.ch
  if limpIgnored s e.ch then s else setChn s1 m { chn s1 m with live := true }

/-- CRASH_LATCH has just set. -/
def onLatch (s : State) : State :=
  if limpRuns s then onTrigger s 2
  else
    let s := onTriggerOrphans s 2
    if s.flag SPR_LIMP_CTL_CRASH_LIVE && cdUp s && !s.act.interim then
    match activeCopy s with
    | some t => (t.entries.filter (fun e => e.trigger == 2)).foldl liveEntry s
    | none => s
  else s

/-- IGN_CHANGE (R57, R58): IGN has stood at a voltage for a time; a reading that is stable for IGN_DEB is accepted. The inputs
are not sensed in OFF. -/
def execIgnChange (mv heldUs : Nat) (s : State) : Res :=
  let level := inputReading mv 5500 2500 (s.flag SPR_LIMP_IN_IGN)
  if !sparRuns s || heldUs < 1000 * s.rd SPR_LIMP_CTL_IGN_DEB || s.flag SPR_LIMP_IN_IGN == level then .next s
  else
    let s1 := raise (s.put SPR_LIMP_IN_IGN level) 4 false [limpOwner s] [byte (if level then 1 else 0)]
    .next (if limpRuns s1 then onTrigger s1 1 else onTriggerOrphans s1 1)

/-- CRASH_EDGE (R57, R58): CRASH has stood at a voltage for a time; 200 µs accept its level, and a rise sets CRASH_LATCH. -/
def execCrashEdge (mv heldUs : Nat) (s : State) : Res :=
  let level := inputReading mv 3500 1500 (s.flag SPR_LIMP_IN_CRASH)
  if !sparRuns s || heldUs < 200 || s.flag SPR_LIMP_IN_CRASH == level then .next s
  else
    let s1 := s.put SPR_LIMP_IN_CRASH level
    let s2 := if level then s1.put SPR_LIMP_IN_CRASH_LATCH true else s1
    let s3 := raise s2 5 true [limpOwner s] [byte (s2.rd SPR_LIMP_IN_CRASH_LATCH), byte (if level then 1 else 0)]
    .next (if level && !s.flag SPR_LIMP_IN_CRASH_LATCH then onLatch s3 else s3)

/-- A live hold ends without an action: the channel keeps its state until its owner's next descriptor (R211). -/
def endLive (s : State) (c : Chan) : State :=
  let x := chn s c
  if x.live then setChn s c { x with live := false, kept := true } else s

/-- CRASH_LATCH_CLEAR (R211): P0 writes SPR_LIMP_IN with the latch's bit. -/
def execCrashLatchClear (w : Writer) (v : Word) (s : State) : Res := whileCd s <|
  if w = .safety then violate s
  else if fieldIn SPR_LIMP_IN_CRASH_LATCH v = 0 ∨ !s.flag SPR_LIMP_IN_CRASH_LATCH then s
  else
    let s1 := s.put SPR_LIMP_IN_CRASH_LATCH false
    let s2 := allChans.foldl endLive s1
    if limpRuns s2 then onTrigger s2 2 else onTriggerOrphans s2 2

/-! ### Release (R60) -/

/-- LIMP_RELEASE (R60): P0 writes SPR_LIMP_CTL; before seal RELEASE is ignored. -/
def execLimpRelease (w : Writer) (v : Word) (s : State) : Res := whileCd s <|
  if w = .safety then violate s
  else
    let s1 := writeWord s 0x60 v.toNat
    if isSealed s1 && s1.pwr.cd == .run then s1 else s1.put SPR_LIMP_CTL_RELEASE false

/-- A named channel keeps its limp state until its owner's next descriptor. -/
def releaseCh (s : State) (c : Chan) : State :=
  if limpNamed s c then setChn s c { chn s c with kept := true, live := false }
  else setChn s c { chn s c with live := false }

/-- LIMP_RELEASED (R60): the limp controller acts on RELEASE. No drive stops. -/
def execLimpReleased (s : State) : Res := whileCd s <|
  if s.flag SPR_LIMP_CTL_RELEASE then
    let s1 := s.put SPR_LIMP_CTL_RELEASE false
    if limpActive s1 then
      let s2 := (governing s1).foldl releaseCh s1
      allChans.foldl showCh { s2.put SPR_STATUS_LIMP_ACTIVE false with act := { s2.act with parked := false } }
    else s1
  else s

/-! ### Limp drives (R209) -/

/-- LIMP_DRIVE_END (R209): PULSE_MS has passed; the bridge brakes for 20 ms. -/
def execLimpDriveEnd (hb : Fin 8) (s : State) : Res :=
  let c := master s ⟨2, hb.val⟩
  if (chn s c).limpDrive == .drive && (chn s c).wait.isNone && decide (1000 * (chn s c).limpMs ≤ usNow s - (chn s c).runAt) then
    let s1 := switchTo s c (.bridge ⟨1, 0, 0, 0, 0, 0, false, false, false⟩)
    .next (setChn s1 c { chn s1 c with limpDrive := .brake, driveEnd := some s.now, dir := (chn s c).limpDir - 2 })
  else .next s

/-- LIMP_BRAKE_END (R209): the bridge switches off. -/
def execLimpBrakeEnd (hb : Fin 8) (s : State) : Res :=
  let c := master s ⟨2, hb.val⟩
  if (chn s c).limpDrive == .brake && decide (20000 ≤ usNow s - (chn s c).runAt) then
    .next (bridgeOff (setChn s c { chn s c with limpDrive := .none }) c)
  else .next s

/-! ### The table's image (R207, R208, R210, Tables 8.7 to 8.10) -/

/-- COUNT of an image, and the offset of an entry. -/
def limpCount (b : List Byte) : Nat := leAt b 6 1
def limpOff (i : Nat) : Nat := 16 + 16 * i

/-- The entry at an offset. -/
def limpAt (b : List Byte) (o : Nat) : LimpEntry :=
  ⟨⟨leAt b o 1, leAt b (o + 1) 1⟩, leAt b (o + 2) 1, leAt b (o + 4) 1, leAt b (o + 5) 1, leAt b (o + 6) 2, leAt b (o + 8) 2,
    leAt b (o + 10) 2⟩

/-- The offsets of an image's entries. -/
def limpOffs (b : List Byte) : List Nat := (List.range (limpCount b)).map limpOff

/-- Row 2: the header. -/
def limpHeader (b : List Byte) : Option Nat :=
  if leAt b 0 4 ≠ 0x4C4D5031 then some 0
  else if leAt b 4 2 ≠ 1 then some 4
  else if 64 < limpCount b then some 6
  else if leAt b 8 4 ≠ 16 + 16 * limpCount b + 4 then some 8
  else none

/-- Row 4: reserved bytes. -/
def limpReserved (b : List Byte) : Option Nat :=
  least (nonzeroAt b (7 :: (limpOffs b).flatMap (fun o => [o + 3, o + 12, o + 13, o + 14, o + 15])))

/-- Row 5: what one entry breaks. -/
def limpChannel (b : List Byte) (o : Nat) : List Nat :=
  let e := limpAt b o
  (if e.ch.kind = 0 ∨ 5 < e.ch.kind then [o]
   else if !chOk e.ch || ((limpOffs b).filter (· < o)).any (fun q => (limpAt b q).ch == e.ch) then [o + 1] else [])
    ++ (if 2 < e.trigger then [o + 2] else [])

/-- The kinds an action applies to (Table 8.10). -/
def limpKinds : Nat → List Nat
  | 0 => [1, 2, 3, 4, 5] | 1 => [1, 5] | 2 => [1, 5] | 3 => [4] | 4 => [3] | 5 => [2] | 6 => [2] | 7 => [2]
  | 8 => [1, 2, 3, 4, 5] | _ => []

/-- The range of an action's parameter. -/
def limpParam : Nat → Nat × Nat
  | 2 => (1, 999) | 3 => (20, 800) | 4 => (0, 31) | _ => (0, 0)

/-- A parameter lies outside its action's range. -/
def paramBad (act p : Nat) : Bool := p < (limpParam act).1 || (limpParam act).2 < p

/-- Row 6: what one entry breaks. -/
def limpActs (b : List Byte) (o : Nat) : List Nat :=
  let e := limpAt b o
  let drive := e.actT = 6 ∨ e.actT = 7 ∨ e.actF = 6 ∨ e.actF = 7
  (if (limpKinds e.actT).contains e.ch.kind then [] else [o + 4])
    ++ (if (limpKinds e.actF).contains e.ch.kind && (e.trigger != 0 || e.actF == 0) then [] else [o + 5])
    ++ (if paramBad e.actT e.paramT then [o + 6] else []) ++ (if paramBad e.actF e.paramF then [o + 8] else [])
    ++ (if drive then (if e.pulseMs < 10 ∨ 5000 < e.pulseMs then [o + 10] else [])
        else if e.pulseMs ≠ 0 then [o + 10] else [])

/-- Row 7: entries that name the upper member of a half-bridge pair of a pairing word. -/
def limpUpper (pair : Nat) (es : List LimpEntry) : Option Nat :=
  ((List.range es.length).find? (fun i => match es[i]? with
    | some e => e.ch.kind == 2 && (match partnerIn pair e.ch.idx with | some p => p < e.ch.idx | none => false)
    | none => false)).map (fun i => limpOff i + 1)

/-- Rows 2 to 7 in order: RESULT and OFFSET of the first failure. -/
def limpFault (pair : Nat) (b : List Byte) : Option (Nat × Nat) :=
  let n := leAt b 8 4
  match limpHeader b with
  | some o => some (2, o)
  | none =>
    if crc32c (slice b 0 (n - 4)) ≠ leAt b (n - 4) 4 then some (3, n - 4)
    else ((limpReserved b).map (fun o => (4, o)))
      <|> ((least ((limpOffs b).flatMap (limpChannel b))).map (fun o => (5, o)))
      <|> ((least ((limpOffs b).flatMap (limpActs b))).map (fun o => (6, o)))
      <|> ((limpUpper pair ((limpOffs b).map (limpAt b))).map (fun o => (7, o)))

/-- RESULT and OFFSET of ACT_LIMP_STATUS. -/
def limpReport (s : State) (r o : Nat) : State := (s.wr ACT_LIMP_STATUS_RESULT r).wr ACT_LIMP_STATUS_OFFSET o

/-- Copy, check and stage the image at an address (R207, R210); a refused image leaves an earlier one staged. -/
def limpStage (s : State) (a : Nat) : State :=
  let h := readImage s a 16
  let b := readImage s a (if (limpHeader h).isSome then 16 else leAt h 8 4)
  if isSealed s then limpReport (violate s) 8 0
  else match limpFault (hbPairWord s) b with
    | some (r, o) => limpReport s r o
    | none =>
      limpReport { s with act := { s.act with staged := some ⟨true, leAt b 12 4, (limpOffs b).map (limpAt b), 0⟩ } } 1 0

/-- LIMP_STAGE (R207): P0 writes ACT_LIMP_CTL. STAGE reads 1 until the next tick (log entry 20). -/
def execLimpStage (w : Writer) (v : Word) (s : State) : Res := whileCd s <|
  if w = .safety then violate s
  else if fieldIn ACT_LIMP_CTL_STAGE v = 0 then s
  else if s.flag ACT_LIMP_CTL_STAGE then violate s
  else limpStage (s.put ACT_LIMP_CTL_STAGE true) (s.rd ACT_LIMP_ADDR_ADDR)

/-! ### Commit and application (R207, R211) -/

/-- The staged table and the sealed pairing become the active copy. -/
def limpWrite (s : State) (t : LimpCopy) : State :=
  let k := 1 - s.rd ACT_LIMP_INFO_COPY
  let c : LimpCopy := { t with pair := hbPairWord s }
  let a := if k = 0 then { s.act with copy0 := some c, staged := none } else { s.act with copy1 := some c, staged := none }
  let s1 := (({ s with act := a }).wr ACT_LIMP_INFO_COPY k).wr ACT_LIMP_INFO_ENTRIES c.entries.length
  let n := (s.rd ACT_LIMP_INFO_LIMP_SEQ + 1) % 65536
  let s2 := ((s1.wr ACT_LIMP_INFO_LIMP_SEQ n).wr ACT_LIMP_ID_TABLE_ID c.id).wr ACT_LIMP_PAIR_PAIR c.pair
  tally s2 11 (leBytes 4 c.id ++ leBytes 2 n ++ [byte k])

/-- A commit while the table is applied switches to the new one at once: each named channel takes its entry, and a
channel no longer named goes off, a drive that runs at its end (R211). -/
def limpSwitch (old s : State) : State :=
  let runs (c : Chan) : Bool := (chn s c).limpDrive == .drive || (chn s c).limpDrive == .brake
  let gone := (governing s).filter (fun c => limpNamed old c && !limpNamed s c && !runs c)
  let s1 := gone.foldl limpUnnamed s
  match activeCopy s1 with
  | some t => t.entries.foldl (limpEntryApply false) s1
  | none => s1

/-- LIMP_COMMIT (R207). -/
def execLimpCommit (s : State) : Res := whileCd s <|
  if s.act.commitDue then
    let s0 := { s with act := { s.act with commitDue := false } }
    match s.act.staged with
    | none => s0
    | some t =>
      match limpUpper (hbPairWord s) t.entries with
      | some o => raise (limpReport s0 9 o) 10 false [0] ([7, 0, 0, 0] ++ leBytes 4 t.id)
      | none => let s1 := limpWrite s0 t; if limpRuns s then limpSwitch s s1 else s1
  else s

/-- LIMP_TABLE_APPLY (R211): the limp controller applies the table where R59 calls for it and it is not applied yet. -/
def execLimpTableApply (s : State) : Res :=
  .next (if s.act.interim || ((s.pwr.cd == .lost || s.pwr.ps == .sparOnly) && !limpActive s) then limpApply s else s)

end Sys2Proof.Machine
end

