-- ==== Sys2Proof/Machine/Act.lean ====
section
/-! DEFINITION.
The actuation engine (chapter 8): the ACT opcodes, sequences, claims and the safety lane.
-/

namespace Sys2Proof.Machine

/-! ### Checks at a descriptor's start (R175, R191, R192, R199, R205) -/

/-- The channel an ACT body names. -/
def chanOf (b : List Byte) : Chan := ⟨leAt b 16 1, leAt b 17 1⟩

/-- Complete an ACT descriptor that is turned away: held completions count (Table 8.11). -/
def actFail (s : State) (op : Nat) (h : DHdr) (b : List Byte) (st : Nat) : State :=
  let s1 := if st = SAFETY_HELD then s.bump ACT_CNT_HELD_SAFE 1
            else if st = LIMP_HELD then s.bump ACT_CNT_HELD_LIMP 1 else s
  complete s1 ACT h op st (plainResult s1 ACT op h b)

/-- A channel that no descriptor of an opcode may name: the slave of a solenoid pair, and for BRIDGE the upper member
of a half-bridge pair (R191, R253). -/
def upperNamed (s : State) (op : Nat) (c : Chan) : Bool :=
  (c.kind == 3 && isSlave s c) || (op == 5 && c.kind == 2 && isSlave s c)

/-- The checks that every channel opcode shares, in order: reserved bytes and flags, KIND and INDEX, the opcode's kinds,
ownership, the opcode's ranges, and what holds the channel. -/
def actFault (s : State) (op : Nat) (h : DHdr) (b : List Byte) (listed : List Nat) (flags : Bool) (kinds : List Nat)
    (range : Bool) : Option Nat :=
  let c := chanOf b
  if bodyDirty b listed || flags then some RESERVED_NONZERO
  else if !chOk c || !kinds.contains c.kind || upperNamed s op c then some BAD_FIELD
  else (nameFault s h.part.val c) <|> (if range then some BAD_FIELD else none) <|> (heldFault s c)

/-- An ACT descriptor to one channel: refused by the shared checks, or acting on the governing member. -/
def onChan (op : Nat) (h : DHdr) (b : List Byte) (s : State) (listed : List Nat) (flags : Bool) (kinds : List Nat)
    (range : State → Chan → Bool) (act : Chan → State → State) : Res :=
  descr ACT op h b s (fun t =>
    match actFault t op h b listed flags kinds (range t (chanOf b)) with
    | some st => actFail t op h b st
    | none => act (master t (chanOf b)) t)

/-- The frequency range of a channel (Tables 9.1, 12.1 and 12.4). -/
def freqRange (c : Chan) : Nat × Nat :=
  match c.kind with
  | 1 => (25, if c.idx < 8 then 500 else if c.idx < 20 then 1000 else 2000)
  | 4 => (100, 4000)
  | _ => (10, 500)

/-- A frequency outside the channel's range. -/
def freqBad (c : Chan) (f : Nat) : Bool := f < (freqRange c).1 || (freqRange c).2 < f

/-- Retries since the count last returned to 0 (R225, R287). -/
def retriesOf (s : State) (c : Chan) : Nat := if c.kind = 1 then s.rd (HS_STATE_RETRIES c.idx) else (chn s c).retries
def setRetries (s : State) (c : Chan) (n : Nat) : State :=
  if c.kind = 1 then s.wr (HS_STATE_RETRIES c.idx) n else setChn s c { chn s c with retries := n }

/-! ### SET, PULSE and PWM (R192, R216, R217, R225, R255, R271, R286) -/

/-- A commanded level reaches its channel: it becomes the commanded state, and the output follows unless a protection
keeps it off. -/
def setLevel (s : State) (c : Chan) (d : Drv) : State :=
  let s1 := setChn s c { chn s c with cmd := d }
  if blocked s1 c then showAll s1 c else switchTo s1 c d

/-- SET off also cancels a pending retry and clears the retry count (R225). -/
def setOff (s : State) (c : Chan) : State :=
  setRetries (setLevel (setChn s c { chn s c with retry := none }) c .off) c 0

/-- SET, and a step of a SEQUENCE, on a channel: what it was running ends with OK. -/
def setCh (s : State) (c : Chan) (on : Bool) : State :=
  let s1 := endRun (takeCh s c) c 4 OK
  if on then setLevel s1 c .on else setOff s1 c

/-- LEVEL lies outside what the kind takes: 0 or 20 to 800 for an LED, 0 for every other kind. -/
def levelBad (c : Chan) (l : Nat) : Bool := if c.kind = 4 then l != 0 && (l < 20 || 800 < l) else l != 0

/-- SET (R192). -/
def execActSet (h : DHdr) (b : List Byte) (s : State) : Res :=
  let st := leAt b 18 1
  let lv := leAt b 20 2
  onChan 1 h b s [16, 17, 18, 20, 21] false [1, 3, 4, 5]
    (fun _ c => st > 1 || (c.kind == 3 && st != 0) || levelBad c lv)
    (fun c t =>
      let t1 := if lv = 0 then t else setChn t c { chn t c with level := some lv }
      actDone (setCh t1 c (st == 1)) h 1 OK c 0)

/-- A train or profile starts on a channel, or ends without effect on one that a protection keeps off (R225). -/
def startJob (s : State) (c : Chan) (begin_ : State → State) (op : Nat) (h : DHdr) (forever : Bool) : State :=
  let s1 := endRun (takeCh s c) c 4 OK
  if blocked s1 c then actDone s1 h op OK c 0
  else
    let s2 := begin_ s1
    if forever then actDone s2 h op OK c 0 else setChn s2 c { chn s2 c with job := some ⟨h, op⟩ }

/-- PULSE (R192). -/
def execActPulse (h : DHdr) (b : List Byte) (s : State) : Res :=
  let on := leAt b 20 4
  let off := leAt b 24 4
  let n := leAt b 28 2
  onChan 2 h b s [16, 17, 20, 21, 22, 23, 24, 25, 26, 27, 28, 29] false [1, 4, 5]
    (fun _ _ => on < 1 || 60000000 < on || off < 1 || 60000000 < off || n < 1)
    (fun c t => startJob t c (fun u => switchTo u c (.pulse on off n)) 2 h false)

/-- PWM (R217): complete once applied. -/
def execActPwm (h : DHdr) (b : List Byte) (s : State) : Res :=
  let p : PwmBody := ⟨leAt b 20 2, leAt b 22 2, leAt b 24 2, bit (leAt b 26 1) 0, bit (leAt b 26 1) 1, leAt b 28 4⟩
  onChan 3 h b s [16, 17, 20, 21, 22, 23, 24, 25, 26, 28, 29, 30, 31] (leAt b 26 1 ≥ 4) [1, 4, 5]
    (fun _ c => freqBad c p.freq || 10000 < p.duty || (p.ramp && 60000 < p.rampMs))
    (fun c t => actDone (setLevel (endRun (takeCh t c) c 4 OK) c (.pwm p)) h 3 OK c 0)

/-! ### PROFILE (R220, R256, R257, R273) -/

/-- The segment of a profile that runs last: the first with END, or segment 7. -/
def lastSeg (s : State) (c : Chan) (p : Nat) : Nat :=
  ((List.range 8).find? (fun g => if c.kind = 3 then s.flag (SV_PROF_SEG1_END p g) else s.flag (HS_PROF_SEG_END p g))).getD 7

/-- The segments of a solenoid profile's pass that run: segment 0, and each later one whose TIME is not 0. -/
def svRuns (s : State) (c : Chan) (p : Nat) : List Nat :=
  (List.range (lastSeg s c p + 1)).filter (fun g => g == 0 || s.rd (SV_PROF_SEG0_TIME p g) != 0)

/-- What R256 refuses in a solenoid profile for a channel or pair. -/
def svProfileBad (s : State) (c : Chan) (p : Nat) : Bool :=
  let two := (members s c).length
  let segs := List.range (lastSeg s c p + 1)
  let runs := svRuns s c p
  let cur (g : Nat) : Nat := s.rd (SV_PROF_SEG0_CURRENT p g)
  let above := (runs.filter (fun g => 2500 * two < cur g)).foldl (fun a g => a + s.rd (SV_PROF_SEG0_TIME p g)) 0
  s.rd (SV_PROF_SEG0_TIME p 0) == 0 || segs.any (fun g => 6000 * two < cur g) || 10000 < above
    || 2500 * two < cur (runs.getLastD 0)
    || segs.any (fun g => s.rd (SV_PROF_SEG0_MODE p g) == 3)
    || 1 < (segs.filter (fun g => s.flag (SV_PROF_SEG1_KERF p g))).length
    || segs.any (fun g => s.flag (SV_PROF_SEG1_KERF p g) && s.rd (SV_PROF_SEG0_MODE p g) != 2)
    || segs.any (fun g => s.flag (SV_PROF_SEG1_LEARN p g) && !s.flag (SV_PROF_SEG1_KERF p g))

/-- What R220 and R273 refuse in a high-side or LED profile. -/
def hsProfileBad (s : State) (c : Chan) (p : Nat) : Bool :=
  s.rd (HS_PROF_SEG_TIME_MS p 0) == 0 || freqBad c (s.rd (HS_PROF_CFG_FREQ p))

/-- PROFILE (R220, R257, R273). -/
def execActProfile (h : DHdr) (b : List Byte) (s : State) : Res :=
  let p := leAt b 18 1
  let rep := leAt b 19 1
  onChan 4 h b s [16, 17, 18, 19] false [1, 3, 4]
    (fun t c => 31 < p || (if c.kind = 3 then svProfileBad t c p else hsProfileBad t c p))
    (fun c t => startJob t c (fun u => runProfile u c p rep) 4 h (rep == 255))

/-! ### BRIDGE (R234 to R241, R246) -/

/-- A bridge mode without a drive. -/
def still (mode : Nat) : BridgeBody := ⟨mode, 0, 0, 0, 0, 0, false, false, false⟩

/-- The signed ripple count of a bridge. -/
def posOf (s : State) (m : Chan) : Int := s.rdInt (HB_POS_POS m.idx)

/-- The position stop of a drive is reached (R241). -/
def posReached (s : State) (m : Chan) (b : BridgeBody) : Bool :=
  let lead : Int := s.rd (HB_STALL_STOP_LEAD m.idx)
  b.stopAtPos && (if b.mode = 3 then b.target - lead ≤ posOf s m else posOf s m ≤ b.target + lead)

/-- A drive that has ended leaves BRAKE_LOW, held until the next descriptor (R236, R241, R242). -/
def driveStop (s : State) (m : Chan) (cause : Nat) : State :=
  switchTo (endDrive s m cause OK) m (.bridge (still 1))

/-- A drive begins (R236); one whose position stop is already reached ends at once. -/
def startDrive (s : State) (m : Chan) (b : BridgeBody) (j : Option Job) : State :=
  let s1 := switchTo ((s.wr (HB_STATE_END_CAUSE m.idx) 0).put (HB_STATE_STALL m.idx) false) m (.bridge b)
  let s2 := setChn s1 m { chn s1 m with job := j, wait := none, cmd := .off, dir := b.mode - 2, driveEnd := none,
                                        fills := 0, period := 0, ripSeen := false }
  if posReached s2 m b then driveStop s2 m 2 else s2

/-- A drive descriptor is applied: a running drive is superseded, and an opposing drive waits out DIR_GAP in BRAKE_LOW. -/
def applyDrive (s : State) (m : Chan) (b : BridgeBody) (j : Option Job) : State :=
  let s1 := endRun (takeCh s m) m 4 OK
  if opposes s1 m b.mode then
    let s2 := switchTo s1 m (.bridge (still 1))
    setChn s2 m { chn s2 m with wait := some (b, j), job := none }
  else startDrive s1 m b j

/-- A mode that drives nothing is applied. -/
def applyStill (s : State) (m : Chan) (mode : Nat) : State :=
  let s1 := endRun (takeCh s m) m 4 OK
  let d : Drv := if mode = 0 then .off else .bridge (still mode)
  let s2 := setChn s1 m { chn s1 m with cmd := d }
  if blocked s2 m then showAll s2 m else if mode = 0 then bridgeOff s2 m else switchTo s2 m d

/-- The target lies behind POS in the drive's direction (R241). -/
def targetBehind (s : State) (m : Chan) (b : BridgeBody) : Bool :=
  b.stopAtPos && (if b.mode = 3 then b.target < posOf s m else posOf s m < b.target)

/-- The BRIDGE body (Table 8.2). -/
def bridgeBody (b : List Byte) : BridgeBody :=
  ⟨leAt b 18 1, leAt b 20 2, leAt b 22 2, leAt b 24 4, leAt b 28 2, signed 32 (leAt b 32 4), bit (leAt b 36 1) 0,
    bit (leAt b 36 1) 1, bit (leAt b 36 1) 2⟩

/-- A drive's fields outside their ranges, or its flags refused (R235, R241, R246). -/
def driveBad (s : State) (m : Chan) (g : BridgeBody) : Bool :=
  10000 < g.duty || (g.duty != 10000 && (g.freq < 100 || 25000 < g.freq)) || g.runMs < 1 || 600000 < g.runMs
    || 10000 < g.rampMs || (g.stopAtPos && !s.flag (HB_STATE_POS_VALID m.idx))
    || (g.armed && (g.mode != 3 + s.rd (HB_CFG_PINCH_DIR m.idx) || !bit (s.rd ACT_SAFE_MAP1_HB) m.idx
        || s.rd (HB_STALL_SNS_RATE m.idx) == 0))

/-- BRIDGE (R234 to R237). -/
def execActBridge (h : DHdr) (b : List Byte) (s : State) : Res :=
  let g := bridgeBody b
  let drive := g.mode = 3 ∨ g.mode = 4
  onChan 5 h b s [16, 17, 18, 20, 21, 22, 23, 24, 25, 26, 27, 28, 29, 32, 33, 34, 35, 36]
    (drive ∧ leAt b 36 1 ≥ 8) [2]
    (fun t c => 5 < g.mode || (drive && driveBad t (master t c) g))
    (fun m t =>
      if !drive then actDone (applyStill t m g.mode) h 5 OK m 0
      else if blocked t m || targetBehind t m g then actDone (ownerActs t m) h 5 OK m 0
      else applyDrive t m g (some ⟨h, 5⟩))

/-! ### SEQUENCE (R193, R194, R212) -/

/-- The steps of a body up to the first STEP 0. -/
def stepsOf (b : List Byte) : List SeqStep :=
  ((List.range 6).map (fun k => (⟨leAt b (16 + 8 * k) 4, ⟨leAt b (20 + 8 * k) 1, leAt b (21 + 8 * k) 1⟩,
    leAt b (22 + 8 * k) 1⟩ : SeqStep))).takeWhile (fun x => x.op != 0)

/-- A step's STEP does not suit its channel: brakes and drives are for half-bridges, named by the governing member; a
solenoid only switches off. -/
def stepBad (s : State) (x : SeqStep) : Bool :=
  5 < x.op || (x.ch.kind == 2 && (x.op == 2 || isSlave s x.ch)) || (x.ch.kind != 2 && 3 ≤ x.op)
    || (x.ch.kind == 3 && (x.op != 1 || isSlave s x.ch))

/-- Why a SEQUENCE completes at its start. -/
def seqFault (s : State) (p : Nat) (b : List Byte) : Option Nat :=
  let l := stepsOf b
  if (List.range 6).any (fun k => leAt b (23 + 8 * k) 1 != 0) then some RESERVED_NONZERO
  else if l.isEmpty || l.any (fun x => !chOk x.ch) then some BAD_FIELD
  else match l.findSome? (fun x => nameFault s p x.ch) with
    | some st => some st
    | none =>
      if l.any (fun x => stepBad s x || 10000000 < x.offsetUs) || !(l.map (·.offsetUs)).Pairwise (· ≤ ·) then some BAD_FIELD
      else none

/-- SEQUENCE (R193). -/
def execActSequence (h : DHdr) (b : List Byte) (s : State) : Res :=
  descr ACT 6 h b s (fun t =>
    match seqFault t h.part.val b with
    | some st => actFail t 6 h b st
    | none =>
      { t with act := { t.act with seqs := t.act.seqs ++ [⟨⟨h, 6⟩, stepsOf b, 0, ⟨0, 0⟩, t.now⟩] } })

/-- What keeps a sequence's step from its channel: a hold, a claim, an orphan state entered since the start, or
another owner (R212). -/
def stepHeld (s : State) (q : SeqRun) (c : Chan) : Option Nat :=
  (heldFault s c)
    <|> (if ownerOf s c.kind c.idx ≠ some q.job.hdr.part.val
           ∨ ((chn s (master s c)).orphan ≠ 0 ∧ q.since ≤ (chn s (master s c)).orphanAt) then some NOT_OWNER else none)

/-- Complete a sequence: its snapshot is that of the last executed step's channel. -/
def seqDone (s : State) (q : SeqRun) (st : Nat) : State :=
  let s1 := if st = SAFETY_HELD then s.bump ACT_CNT_HELD_SAFE 1
            else if st = LIMP_HELD then s.bump ACT_CNT_HELD_LIMP 1 else s
  complete s1 ACT q.job.hdr 6 st
    (if q.done = 0 then List.replicate 7 0 ++ [byte (if q.job.hdr.rebased then 1 else 0)]
     else snapshot s1 q.last q.job.hdr.rebased q.done)

/-- One step takes effect on its channel. -/
def stepDo (s : State) (x : SeqStep) : State :=
  let m := master s x.ch
  match x.op with
  | 1 => if m.kind = 2 then applyStill s m 0 else setCh s m false
  | 2 => setCh s m true
  | 3 => applyStill s m 1
  | o => if blocked s m then takeCh s m else applyDrive s m ⟨o - 1, 10000, 0, 0, 0, 0, false, false, false⟩ none

/-- SEQUENCE_STEP (R194): the next step of the n-th running sequence is due. -/
def execSequenceStep (n : Nat) (s : State) : Res := whileCd s <|
  match s.act.seqs[n]? with
  | none => s
  | some q =>
    match q.steps with
    | [] => s
    | x :: rest =>
      match stepHeld s q x.ch with
      | some st => seqDone { s with act := { s.act with seqs := s.act.seqs.eraseIdx n } } q st
      | none =>
        let q1 : SeqRun := { q with steps := rest, done := q.done + 1, last := x.ch }
        let l := if rest.isEmpty then s.act.seqs.eraseIdx n else s.act.seqs.set n q1
        let s1 := stepDo { s with act := { s.act with seqs := l } } x
        if rest.isEmpty then seqDone s1 q1 OK else s1

/-! ### RESTART and STATUS (R195, R202, R212, R224, R225, R243, R244, R264, R265, R279, R287) -/

/-- Some reading of the channels is at or above 150 °C. -/
def hot (s : State) (l : List Chan) : Bool := l.any (fun c => 300 ≤ (chn s c).temp)

/-- FIO_STATUS follows the causes; FAULT's rise counts, and a cause that has cleared may be reported again (R289). -/
def showFio (s : State) : State :=
  let cause (n : Nat) : Nat := (List.range 5).foldl (fun a j => a + s.rd (FIO_CAUSE_CAUSE n j) * 2 ^ j) 0
  let m := (List.range 16).foldl (fun a n => if cause n = 0 then a else a + 2 ^ n) 0
  let s1 := (List.range 16).foldl (fun t n => setChn t ⟨5, n⟩ { chn t ⟨5, n⟩ with told := (chn t ⟨5, n⟩).told &&& cause n }) s
  let s2 := (s1.put FIO_STATUS_FAULT (m != 0)).wr FIO_STATUS_FCHAN m
  if m ≠ 0 ∧ !s.flag FIO_STATUS_FAULT then s2.bump FIO_CNT_FAULT_EDGES 1 else s2

/-- A channel loses its latch and its thermal-off condition. -/
def clearTrip (s : State) (c : Chan) : State :=
  let s1 := match latchF c with | some f => s.put f false | none => s
  s1.put (thermF c) false

/-- Restart channels that a protection switched off: the conditions clear, a new inrush window opens, and HS, LED and FIO
channels return to their commanded state; bridges and solenoids stay off. -/
def restartCh (s : State) (l : List Chan) : State :=
  let s1 := l.foldl (fun t c => setChn (clearTrip t c) c { chn t c with retry := none, nbHold := false }) s
  match l with
  | [] => s1
  | c :: _ =>
    if c.kind = 2 ∨ c.kind = 3 then showAll s1 c
    else
      let s2 := l.foldl (fun t k => openInrush t k true) s1
      let s3 := if (chn s2 c).feedOff then showAll s2 c else switchTo s2 c (chn s2 c).cmd
      l.foldl showCh (showFio s3)

/-- RESTART (R202, R224, R225): of a thermal-off channel it is held at 150 °C and above, of a claimed one above 150 °C. -/
def execActRestart (h : DHdr) (b : List Byte) (s : State) : Res :=
  onChan 7 h b s [16, 17] false [1, 2, 3, 4, 5] (fun _ _ => false)
    (fun c t =>
      let l := moved t c
      let x := chn t c
      let tripped := l.any (fun k => latched t k || thermOff t k) || x.nbHold
      let claimHot := (leadClaim t c).isSome && l.any (fun k => decide (300 < (chn t k).temp))
      if !tripped then actDone (ownerActs t c) h 7 OK c 0
      else if (hot t l && l.any (thermOff t)) || claimHot then actFail t 7 h b THERMAL_HOLD
      else actDone (restartCh (takeCh t c) l) h 7 OK c 0)

/-- ACT STATUS (R195). -/
def execActStatus (h : DHdr) (b : List Byte) (s : State) : Res :=
  onChan 10 h b s [16, 17] false [1, 2, 3, 4, 5] (fun _ _ => false) (fun c t => actDone (ownerActs t c) h 10 OK (chanOf b) 0)

/-! ### GRANT and CLAIM (R200 to R203) -/

/-- GRANT (R200, R203): a REVOKE is not stopped by the claim that it ends. -/
def execActGrant (h : DHdr) (b : List Byte) (s : State) : Res :=
  let g := leAt b 18 1
  let revoke := bit (leAt b 19 1) 0
  descr ACT 8 h b s (fun t =>
    let c := chanOf b
    match actFault t 8 h b [16, 17, 18, 19] (leAt b 19 1 ≥ 2) [1] (7 < g) with
    | some st =>
      if revoke ∧ st = CLAIM_CONFLICT then
        let t1 : State := { t with act := { t.act with grants := t.act.grants.filter (· != ⟨c.idx, g⟩) } }
        actDone ((t1.act.claims.filter (fun x => x.fol == c.idx && x.claimant == g)).foldl endClaim t1) h 8 OK c 0
      else actFail t 8 h b st
    | none =>
      let t1 := ownerActs t c
      let l := t1.act.grants.filter (· != ⟨c.idx, g⟩)
      actDone { t1 with act := { t1.act with grants := if revoke then l else l ++ [⟨c.idx, g⟩] } } h 8 OK c 0)

/-- The size class of a high-side channel (Table 9.1). -/
def hsClass (n : Nat) : Nat := if n < 8 then 0 else if n < 20 then 1 else 2

/-- A channel cannot join a claim: it does not report off, as latched-off and thermal-off ones do not either, or the safety lane
or the limp table has it. -/
def cannotJoin (s : State) (c : Chan) : Bool := chCode s c != 0 || (chn s c).safe != .none || limpHeld s c

/-- Table 8.4: the first failing row. -/
def claimFault (s : State) (p : Nat) (lead fol : Chan) : Option Nat :=
  if ownerOf s lead.kind lead.idx ≠ some p then some NOT_OWNER
  else if isFollow s lead then some BAD_FIELD
  else if fol.kind ≠ 1 ∨ ownerOf s 1 fol.idx = none ∨ ownerOf s 1 fol.idx = some p
      ∨ !s.act.grants.contains ⟨fol.idx, p⟩ then some CLAIM_CONFLICT
  else if lead.kind ≠ 1 ∨ hsClass lead.idx ≠ hsClass fol.idx then some CLAIM_CONFLICT
  else if s.act.claims.any (fun x => x.lead == lead.idx || x.fol == lead.idx || x.lead == fol.idx || x.fol == fol.idx)
      || 8 ≤ s.act.claims.length then some CLAIM_CONFLICT
  else if cannotJoin s lead || cannotJoin s fol then some CLAIM_CONFLICT
  else none

/-- CLAIM (R200, R201, R203): a RELEASE meets the holds of R60, R202 and R205 like any descriptor. -/
def execActClaim (h : DHdr) (b : List Byte) (s : State) : Res :=
  descr ACT 9 h b s (fun t =>
    let lead := chanOf b
    let fol : Chan := ⟨leAt b 18 1, leAt b 19 1⟩
    let p := h.part.val
    if bodyDirty b [16, 17, 18, 19, 20] || leAt b 20 1 ≥ 2 then actFail t 9 h b RESERVED_NONZERO
    else if !chOk lead || !chOk fol then actFail t 9 h b BAD_FIELD
    else if leAt b 20 1 = 1 then
      match if ownerOf t lead.kind lead.idx ≠ some p then some NOT_OWNER
            else if lead.kind ≠ 1 ∨ isFollow t lead then some BAD_FIELD else heldFault t lead with
      | some st => actFail t 9 h b st
      | none => match t.act.claims.find? (fun x => x.lead == lead.idx && fol.kind == 1 && x.fol == fol.idx && x.claimant == p) with
        | some x => actDone (endClaim t x) h 9 OK lead 0
        | none => actDone t h 9 OK lead 0
    else match claimFault t p lead fol with
      | some st => actFail (t.bump ACT_CNT2_CLAIM_REFUSED 1) 9 h b st
      | none =>
        let i := t.act.claims.length
        let t1 := takeCh { t with act := { t.act with claims := t.act.claims ++ [⟨lead.idx, fol.idx, p⟩] } } lead
        actDone ((((t1.wr (ACT_CLAIM_LEAD i) lead.idx).wr (ACT_CLAIM_FOLLOWER i) fol.idx).wr (ACT_CLAIM_CLAIMANT i) p).put
          (ACT_CLAIM_VALID i) true) h 9 OK lead 0)

/-! ### The safety lane (R204, R205, R247 to R250) -/

/-- A hold has ended: a limp drive that waited for it runs, or the orphan state that waited for a reversal follows
(R157, R212). -/
def holdEnded (s : State) (c : Chan) : State :=
  let x := chn s c
  if x.limpDrive == .waiting then limpDriveStart (setChn s c { x with limpDrive := .none }) c x.limpDir x.limpMs
  else if x.orphanDue then orphanNow s c (x.orphan - 1)
  else setChn s c { x with kept := true }

/-- Why SAFE_ACTION completes at its start (R199, R233, R253). -/
def safeFault (s : State) (p : Nat) (b : List Byte) : Option Nat :=
  let c := chanOf b
  let o := leAt b 18 1
  if safetyPart s ≠ some p then some BAD_OPCODE
  else if bodyDirty b [16, 17, 18] then some RESERVED_NONZERO
  else if !chOk c || (isSlave s c && c.kind == 3) then some BAD_FIELD
  else if !safeOpen s c then some NOT_OWNER
  else if isFollow s c || (c.kind == 5 && s.rd (FIO_CFG_MODE c.idx) != 2) then some BAD_FIELD
  else if o < 1 ∨ 4 < o ∨ (o = 3 ∧ c.kind ≠ 2) then some BAD_FIELD
  else none

/-- SAFE_ACTION (R205): a message goes to the power die, whose acceptance completes the descriptor. -/
def execSafeAction (h : DHdr) (b : List Byte) (s : State) : Res :=
  descr ACT 0x20 h b s (fun t =>
    match safeFault t h.part.val b with
    | some st => actFail t 0x20 h b st
    | none => { t with act := { t.act with lane := t.act.lane ++ [{ ch := chanOf b, op := leAt b 18 1, src := 2, hdr := some h }] } })

/-- OFF and BRAKE: current falls with FAST, what runs ends, a retry is cancelled and the commanded state is off (R230); a reversal ends. -/
def laneOff (s : State) (c : Chan) (brake : Bool) : State :=
  let s1 := endRun (stopTest s c) c 5 SAFETY_HELD
  let s2 := if c.kind = 2 then setRev s1 c 0 else s1
  let s3 := setChn s2 c { chn s2 c with cmd := .off, retry := none, braking := false, orphan := 0, orphanDue := false }
  let s4 := setSafe s3 c (if brake then .brake else .off)
  if c.kind = 2 then
    (if brake then (if blocked s4 c then s4 else switchTo s4 c (.bridge (still 1))) else bridgeOff s4 c)
  else fallFast (switchTo s4 c .off) c

/-- The direction of the reference drive (1 A, 2 B), 0 without one: the drive that runs, or the last one when it ended
less than 500 ms ago (R247). -/
def reference (s : State) (c : Chan) : Nat :=
  let x := chn s c
  match x.drv with
  | .bridge b => if b.mode = 3 ∨ b.mode = 4 then b.mode - 2
                 else (match x.driveEnd with | some e => if (s.now - e) * 1000 < 500 * 32768 then x.dir else 0 | none => 0)
  | _ => match x.driveEnd with | some e => if (s.now - e) * 1000 < 500 * 32768 then x.dir else 0 | none => 0

/-- What a reversal reports (Table 24.2, tally type 13). -/
def reversalReport (s : State) (m : LaneMsg) (c : Chan) : State :=
  let pos := leBytes 4 (s.rd (HB_POS_POS c.idx))
  let s1 := raise (s.bump HB_CNT2_REVERSALS 1) 23 true ([ownerOr0 s 2 c.idx] ++ (safetyPart s).toList)
    ([byte (c.idx + 8 * m.src + 32 * m.binding), byte m.cause] ++ leBytes 2 m.stream ++ pos ++ leBytes 4 m.seq)
  tally s1 13 ([byte c.idx, byte m.src, byte m.binding, byte m.cause] ++ pos ++ leBytes 4 m.seq ++ leBytes 2 m.stream)

/-- REVERSE (R247, R249, R250): phase 1 brakes; the drive it interrupts, or the one that waits for DIR_GAP, completes with
SAFETY_HELD. A reversal already running, or a bridge that a protection has switched off, takes none. -/
def laneReverse (s : State) (m : LaneMsg) (c : Chan) : State :=
  if (chn s c).safe == .reverse || blocked s c then s
  else
    let r := reference s c
    let d := (chn s c).drv
    let drove := match d with | .bridge b => b.mode == 3 || b.mode == 4 | _ => false
    let s1 := switchTo (setSafe s c .reverse) c (.bridge (still 1))
    let s2 := if drove then s1.wr (HB_STATE_END_CAUSE c.idx) 5 else s1
    let s3 := endJob (endWait s2 c SAFETY_HELD) c SAFETY_HELD
    let s4 := setChn (setRev s3 c 1) c
      { chn s3 c with revDir := if r = 0 then 0 else 3 - r, revRip := 0, limpDrive := .none,
                      braking := false, driveEnd := some s.now, dir := r }
    reversalReport s4 m c

/-- RELEASE ends OFF or BRAKE (Table 8.5). -/
def laneRelease (s : State) (c : Chan) : State :=
  if (chn s c).safe == .off || (chn s c).safe == .brake then holdEnded (setSafe s c .none) c else s

/-- The power die acts on a message whose channel is open to the lane: a claim that includes the channel ends first (R204,
R205). -/
def laneAct (s : State) (m : LaneMsg) : State :=
  let c := master s m.ch
  if !safeOpen s c then s else
  let s1 := match (leadClaim s c) <|> (folClaim s c) with
    | some x => if m.op = 4 then s else endClaim s x
    | none => s
  match m.op with
  | 1 => laneOff s1 c false
  | 2 => laneOff s1 c (c.kind == 2)
  | 3 => laneReverse s1 m c
  | _ => laneRelease s1 c

/-- SAFETY_LANE_MSG (R205): the oldest message is accepted, and a SAFE_ACTION completes. -/
def execSafetyLaneMsg (s : State) : Res := whileCd s <|
  match s.act.lane with
  | [] => s
  | m :: rest =>
    let s1 := laneAct ({ s with act := { s.act with lane := rest } }.bump ACT_SAFE_STATUS_SL_COUNT 1) m
    match m.hdr with
    | some h => actDone s1 h 0x20 OK m.ch 0
    | none => s1

/-! ### The ends of trains and profiles (R194, R220, R257) -/

/-- PULSE_TRAIN_END (R194): with its last pulse over, the channel switches off and the PULSE completes. -/
def execPulseTrainEnd (c : Chan) (s : State) : Res :=
  .next (match (chn s c).drv with
    | .pulse on off n => if n * (on + off) - off ≤ usNow s - (chn s c).runAt then endJob (switchTo s c .off) c OK else s
    | _ => s)

/-- The segment after one: none after the last of the pass; a solenoid's segments of TIME 0 are skipped (R257). -/
def nextSeg (s : State) (c : Chan) (p g : Nat) : Option Nat :=
  if c.kind = 3 then (svRuns s c p).find? (fun k => g < k)
  else if g < lastSeg s c p then some (g + 1) else none

/-- The next segment begins from the level that has been reached; a first on-edge after 100 ms off opens an inrush window
(R220, R222, R258). -/
def enterSeg (s : State) (c : Chan) (p g : Nat) : State :=
  let lvl := levelNow s c
  let dark := c.kind != 3 && s.rd (HS_PROF_SEG_DUTY p g) == 0 && !s.flag (HS_PROF_SEG_RAMP p g)
  let s1 := if dark then setChn s c { chn s c with offAt := (chn s c).offAt <|> some s.now }
            else
              let t := openInrush s c false
              setChn t c { chn t c with offAt := none }
  let s2 := startSeg s1 c p g
  setChn s2 c { chn s2 c with runAt := usNow s, fromLvl := lvl }

/-- The last pass has ended: the channel holds its last segment, and the PROFILE completes. -/
def profileDone (s : State) (c : Chan) (p g : Nat) : State := endJob (switchTo s c (.hold p g)) c OK

/-- PROFILE_SEGMENT_END (R220, R257): a channel whose owner's orphan state is HOLD runs no further pass (Table 6.9). -/
def execProfileSegmentEnd (c : Chan) (s : State) : Res :=
  let m := master s c
  .next (match (chn s m).drv with
    | .profile p rep =>
      match nextSeg s m p (chn s m).seg with
      | some g => enterSeg s m p g
      | none =>
        let x := chn s m
        if (rep = 255 ∨ x.pass < rep) ∧ x.orphan ≠ 2 ∧ !s.act.interim then
          enterSeg (setChn s m { x with pass := x.pass + 1 }) m p 0
        else profileDone s m p x.seg
    | _ => s)

end Sys2Proof.Machine
end

