-- ==== Sys2Proof/Machine/Maths.lean ====
section
/-! DEFINITION.
The exponential of R227 and the logarithm of R281 in fixed point, with a resolution of 2^-48 (log entry 3).
-/

namespace Sys2Proof.Machine

/-- The sum of `n` terms of the series of exp(−num/den) from the k-th on, `term` being the k-th in units of 2^-48. -/
def expTerms (num den : Nat) : Nat → Nat → Int → Int
  | 0, _, _ => 0
  | n + 1, k, term => term + expTerms num den n (k + 1) (-(term * num / (den * (k + 1))))

/-- 1 − exp(−num/den) in units of 2^-48, for a quotient up to 1. -/
def expRise (num den : Nat) : Nat := (2 ^ 48 - expTerms num den 24 0 (2 ^ 48)).toNat

/-- The sum of `n` terms of the series of the inverse hyperbolic tangent from the k-th on: `p` is z^(2k+1) and `z2` is z², both
in units of 2^-48. -/
def atanhTerms (z2 : Int) : Nat → Nat → Int → Int
  | 0, _, _ => 0
  | n + 1, k, p => p / (2 * k + 1) + atanhTerms z2 n (k + 1) (p * z2 / 2 ^ 48)

/-- The natural logarithm of a/b in units of 2^-48: both are scaled to between 1 and 2, and the powers of two give multiples of
ln 2. -/
def lnRatio (a b : Nat) : Int :=
  let x : Int := a * 2 ^ b.log2
  let y : Int := b * 2 ^ a.log2
  let z : Int := (x - y) * 2 ^ 48 / (x + y)
  ((a.log2 : Int) - b.log2) * 195103586505167 + 2 * atanhTerms (z * z / 2 ^ 48) 24 0 z

/-- The temperature of an NTC to the nearest 0.5 °C, from its resistance, R25 and BETA (R281); none where the formula gives none. -/
def ntcTemp (ohm r25 beta : Nat) : Option Int :=
  let den : Int := 20 * 2 ^ 48 * beta + 5963 * lnRatio ohm r25
  if ohm = 0 ∨ r25 = 0 ∨ den ≤ 0 then none
  else some ((2 * (20 * (5963 * 2 ^ 48 * beta) - 5463 * den) + 10 * den) / (20 * den))

end Sys2Proof.Machine
end

