-- ==== Sys2Proof/Machine/Outputs.lean ====
section
/-! DEFINITION.
Protection, diagnosis and motion of the output channels (chapters 9 to 12 and 26): over-current, temperature, retries,
open load, ripples, reversals, kerfs, LED tests, the field block and the battery feeds.
-/

namespace Sys2Proof.Machine

/-! ### Latch-offs and the retry policy (R202, R221, R225, R230, R243, R264, R287, R320) -/

/-- RETRY_N of a channel, and the wait in milliseconds before its k-th retry (R225). -/
def retryN (s : State) (c : Chan) : Nat :=
  match c.kind with | 1 => s.rd (HS_CFG_RETRY_N c.idx) | 5 => s.rd (FIO_CFG_RETRY_N c.idx) | _ => 0
def retryMs (s : State) (c : Chan) (k : Nat) : Nat :=
  let t := match c.kind with | 1 => s.rd (HS_CFG_RETRY_T c.idx) | _ => s.rd (FIO_CFG_RETRY_T c.idx)
  min 10000 (10 * 2 ^ t * 2 ^ (k - 1))

/-- A latch-off counts towards a retry storm (R320). -/
def countLatch (s : State) : State :=
  let l := (s.now :: s.scl.latchOffs).filter (fun t => s.now - t < 32768)
  let s1 := { s with scl := { s.scl with latchOffs := l } }
  let n := s.rd SCL_RETRY_STORM_N
  if n ≠ 0 ∧ n ≤ l.length ∧ !s.flag SCL_STATUS_STORM then
    raise ({ s1 with scl := { s1.scl with stormAt := s.now } }.put SCL_STATUS_STORM true) 86 false [0] [2] else s1

/-- The retry policy of a latched channel (R225): the next retry waits, or the last permitted one is spent. -/
def planRetry (s : State) (c : Chan) : State :=
  let m := match folClaim s c with | some x => (⟨1, x.lead⟩ : Chan) | none => c
  let n := retryN s m
  let k := retriesOf s m
  if n = 0 ∨ s.pwr.ps == .deep then s
  else if n = 15 ∨ k < n then setChn s m { chn s m with retry := some (k + 1), retryAt := s.now }
  else if m.kind = 1 then raise s 86 false [ownerOr0 s 1 m.idx] [1, 1, byte m.idx]
  else s

/-- A kept output that trips in DEEP or SPAR_ONLY is recorded (R87, R108). -/
def keptFault (s : State) (c : Chan) (what : Nat) : State :=
  if s.pwr.ps == .deep || s.pwr.ps == .sparOnly then tally s 14 [byte c.kind, byte c.idx, byte what] else s

/-- SUPPLY_LOST of the groups that a follow channel supplies, and LED_SUPPLY to the owners of their channels that are
on (R275). -/
def supplyLost (s : State) (c : Chan) : State :=
  if c.kind = 1 then
    (List.range 3).foldl (fun t g =>
      if followOf t g = some c.idx then
        let lost := latched t c || thermOff t c
        let t1 := t.put (LED_GSTAT_SUPPLY_LOST g) lost
        if lost ∧ !t.flag (LED_GSTAT_SUPPLY_LOST g) then
          ((List.range 8).filter (fun k => drvOn (chn t ⟨4, 8 * g + k⟩).drv)).foldl (fun u k =>
            raise u 29 false [ownerOr0 u 4 (8 * g + k)] (chPayload u ⟨4, 8 * g + k⟩ 1 1 ++ [byte g])) t1
        else t1
      else t) s
  else s

/-- A reversal that a protection or a lost feed ends: the hold is over, and what waited for it follows (R250). -/
def reversalBroken (s : State) (c : Chan) : State :=
  if (chn s c).safe == .reverse then holdEnded (setRev (setSafe s c .none) c 0) c else s

/-- The safety partition also hears of a trip during a reversal (R250). -/
def tripTo (s : State) (c : Chan) : List Nat :=
  chOwners s c ++ (if c.kind = 2 ∧ (chn s (master s c)).safe == .reverse then (safetyPart s).toList else [])

/-- The channels that go off with a channel that trips: its members, and the other channel of its claim. -/
def tripped (s : State) (c : Chan) : List Chan :=
  members s c ++ (match (leadClaim s c) <|> (folClaim s c) with
    | some x => [if c.idx = x.lead then ⟨1, x.fol⟩ else ⟨1, x.lead⟩]
    | none => [])

/-- Which flags a trip sets: a bridge shows it on its A side, every other kind on each channel that goes off. -/
def tripFlags (s : State) (c : Chan) : List Chan := if c.kind = 2 then [master s c] else tripped s c

/-- What was running on a channel that trips ends with OK, its output off with FAST; a bridge is left commanded off. -/
def tripOff (s : State) (c : Chan) : State :=
  let m := master s c
  let s1 := cutOff s m 6 OK
  let s2 := match (leadClaim s c) <|> (folClaim s c) with
    | some x => switch1 (cutOff s1 ⟨1, x.lead⟩ 6 OK) .off ⟨1, x.fol⟩
    | none => s1
  let s3 := fallFast s2 m
  if m.kind = 2 then setChn s3 m { chn s3 m with cmd := .off } else s3

/-- An over-current trip: the channel and whatever acts as one with it is latched and off (R202, R221, R243, R264). What was
running completes with the latch shown (R225, R266). -/
def latchOff (s : State) (c : Chan) (sw : List Byte) : State :=
  let to_ := tripTo s c
  let s1 := tripOff ((tripFlags s c).foldl (fun t k => match latchF k with | some f => t.put f true | none => t) s) c
  let s2 := match c.kind with
    | 1 => s1.bump HS_CNT_LATCHES 1 | 2 => s1.bump HB_CNT_LATCHES 1 | 3 => s1.bump SV_CNT_LATCHES 1 | _ => showFio s1
  let s3 := planRetry (countLatch (keptFault s2 c 1)) c
  let s4 := supplyLost ((tripped s3 c).foldl showCh s3) c
  let s5 := match c.kind with
    | 1 => raise s4 16 false to_ (chPayload s4 c 1 1)
    | 2 => raise s4 19 false to_ (chPayload s4 c 1 1 ++ sw)
    | 3 => raise s4 24 false to_ (chPayload s4 c 1 1)
    | _ => s4
  reversalBroken s5 (master s5 c)

/-- The comparator can trip: the channel is not latched, and carries current or has gone off at its thermal limit at the same
moment (R230). -/
def canTrip (s : State) (c : Chan) : Bool :=
  let m := master s c
  chOk c && !latched s m && (match (chn s m).drv with
    | .off => thermOff s m && (chn s m).offAt == some s.now
    | .bridge b => b.mode != 5
    | _ => true)

/-- An inrush window is open: of a command or restart, or of an on-edge within a pulse train after at least 100 ms off (R222,
R287). -/
def inrushOpen (s : State) (c : Chan) : Bool :=
  let x := chn s c
  let t := 5000 * (if c.kind = 1 then s.rd (HS_CFG_INRUSH_T c.idx) else s.rd (FIO_CFG_INRUSH_T c.idx))
  (if c.kind = 1 then s.flag (HS_STATE_INRUSH c.idx) else c.kind == 5 && x.inrush)
    || (match x.drv with
      | .pulse on off _ => (c.kind == 1 || c.kind == 5) && 100000 ≤ off && decide ((usNow s - x.runAt) % (on + off) < t)
      | _ => false)

/-- The over-current threshold in force, in µA (Tables 9.1, 9.2, 10.3, 11.4 and 12.8): within an inrush window it is raised by
INRUSH_MULT, up to the top of the class range (R222, R287). -/
def latchUa (s : State) (c : Chan) : Nat :=
  match c.kind with
  | 1 =>
    let l := s.rd (HS_CFG_LATCH c.idx)
    let r : Nat × Nat := if c.idx < 8 then (12000000 + 500000 * l, 60000000)
      else if c.idx < 20 then (5000000 + 250000 * l, 22000000) else (1500000 + 125000 * l, 6000000)
    let m := match s.rd (HS_CFG_INRUSH_MULT c.idx) with | 0 => 3 | 1 => 4 | 2 => 6 | _ => 8
    if inrushOpen s c then min r.2 (r.1 * m / 2) else r.1
  | 2 => 4000000 + 125000 * s.rd (HB_CFG_LATCH c.idx)
  | 3 => 1000000 + 62500 * s.rd (SV_CFG_LATCH c.idx)
  | _ =>
    let l := 600000 + 50000 * s.rd (FIO_CFG_LATCH c.idx)
    if inrushOpen s c then min 2000000 (2 * l) else l

/-- A current in mA trips a channel's comparator, whose threshold holds to within ±10 %: between the two limits the spec decides
nothing (Table 9.1; log entry 1). -/
def overCurrent (s : State) (c : Chan) (ma : Nat) : Bool × State :=
  if 110 * latchUa s c ≤ 100000 * ma then (true, s)
  else if 100000 * ma < 90 * latchUa s c then (false, s)
  else (bit (freeDraw s).toNat 0, freeNext s)

/-- A channel's current, in mA, meets its comparator. -/
def comparator (s : State) (c : Chan) (ma : Nat) (sw : List Byte) : State :=
  if canTrip s c then
    let r := overCurrent s c ma
    if r.1 then latchOff r.2 c sw else r.2
  else s

/-- HS_OVERCURRENT (R221, R287): a high-side or field output. -/
def execHsOvercurrent (c : Chan) (ma : Nat) (s : State) : Res :=
  .next (if c.kind = 1 ∨ c.kind = 5 then comparator s c ma [] else s)

/-- HB_OVERCURRENT (R243): `low` names the switch. -/
def execHbOvercurrent (hb : Fin 8) (low : Bool) (ma : Nat) (s : State) : Res :=
  .next (comparator s ⟨2, hb.val⟩ ma [byte (if low then 1 else 0)])

/-- SV_OVERCURRENT (R264). -/
def execSvOvercurrent (sv : Fin 8) (ma : Nat) (s : State) : Res := .next (comparator s ⟨3, sv.val⟩ ma [])

/-- INRUSH_END (R222, R287). -/
def execInrushEnd (c : Chan) (s : State) : Res :=
  .next (if c.kind = 1 then s.put (HS_STATE_INRUSH c.idx) false
    else if c.kind = 5 then setChn s c { chn s c with inrush := false } else s)

/-- RETRY_RESTART (R225, R230, R320): a retry waits for its channel to cool, and while retries are suspended. -/
def execRetryRestart (c : Chan) (s : State) : Res :=
  let x := chn s c
  let l := moved s c
  match x.retry with
  | none => .next s
  | some k =>
    if !latched s c || !lasted s x.retryAt (1000 * retryMs s c k) || s.flag SCL_STATUS_STORM || s.flag SCL_RUN_RETRY_HOLD || s.pwr.ps == .deep
       || (hot s l && l.any (thermOff s)) then .next s
    else
      let s1 := restartCh (setRetries s c k) l
      .next (supplyLost (if c.kind = 1 then s1.bump HS_CNT2_RETRIES_ALL 1 else s1) c)

/-- RETRY_COUNT_RESET (R225): 5 s on without a latch-off. -/
def execRetryCountReset (c : Chan) (s : State) : Res :=
  .next (if (c.kind = 1 ∨ c.kind = 5) ∧ drvOn (chn s c).drv ∧ !latched s c then setRetries s c 0 else s)

/-! ### Temperature (R223, R224, R244, R265, R279, R287) -/

/-- TWARN in 0.5 °C; an LED channel has none. -/
def twarnAt (s : State) (c : Chan) : Option Int :=
  match c.kind with
  | 1 => some (2 * s.rd (HS_DIAG_TWARN c.idx)) | 2 => some (2 * s.rd (HB_DIAG_TWARN c.idx))
  | 3 => some (2 * s.rd (SV_DIAG_TWARN c.idx)) | 5 => some 280 | _ => none

/-- The event source and subtype of a thermal event; a field output reports by its causes. -/
def thermSource (c : Chan) (warn : Bool) : Option (Nat × Nat) :=
  let k := if warn then 2 else 1
  match c.kind with
  | 1 => some (17, k) | 2 => some (20, k) | 3 => some (25, k) | 4 => some (28, 4) | _ => none

/-- A channel's reading is shown; a solenoid pair shows its hotter member on both. -/
def showTemp (s : State) (c : Chan) (t : Int) : State :=
  let s1 := setChn s c { chn s c with temp := t }
  if c.kind = 3 then
    let hotter := (members s1 c).foldl (fun a k => max a (chn s1 k).temp) t
    (members s1 c).foldl (fun u k => u.wrInt (tempF k) hotter) s1
  else s1.wrInt (tempF c) t

/-- 175 °C: the channel is thermal off with whatever acts as one with it. -/
def thermalTrip (s : State) (c : Chan) : State :=
  let to_ := tripTo s c
  let s1 := tripOff ((tripFlags s c).foldl (fun t k => t.put (thermF k) true) s) c
  let s2 := match c.kind with
    | 1 => s1.bump HS_CNT_THERM_OFFS 1 | 2 => s1.bump HB_CNT_THERM_OFFS 1 | 3 => s1.bump SV_CNT_THERM_OFFS 1
    | 4 => s1 | _ => showFio s1
  let s3 := supplyLost ((tripped s2 c).foldl showCh (keptFault s2 c 2)) c
  let s4 := match thermSource c false with
    | some (e, k) => raise s3 e false to_ (chPayload s3 c k 1)
    | none => s3
  reversalBroken s4 (master s4 c)

/-- An excursion above TWARN begins or ends. -/
def warnTemp (s : State) (c : Chan) (t : Int) : State :=
  let show1 (u : State) (b : Bool) : State := match c.kind with
    | 1 => u.put (HS_STATE_TWARN_ON c.idx) b | 3 => u.put (SV_STATE_TWARN_ON c.idx) b | _ => u
  match twarnAt s c with
  | none => s
  | some w =>
    if (chn s c).twarn then
      (if t ≤ w - 20 then show1 (setChn s c { chn s c with twarn := false }) false else s)
    else if w ≤ t then
      let s1 := show1 (setChn s c { chn s c with twarn := true }) true
      match thermSource c true with
      | some (e, k) => raise s1 e false (tripTo s1 c) (chPayload s1 c k 1)
      | none => s1
    else s

/-- THERM_AUTO of a channel: bridges and solenoids have none. -/
def thermAuto (s : State) (c : Chan) : Bool :=
  match c.kind with
  | 1 => s.flag (HS_CFG_THERM_AUTO c.idx)
  | 4 => s.flag (LED_GRP_CFG_THERM_AUTO (c.idx / 8))
  | 5 => s.flag (FIO_CFG_THERM_AUTO c.idx)
  | _ => false

/-- TEMP_SAMPLE (R223, R224, R230): a reading in 0.5 °C units of one channel. THERM_AUTO restarts a channel that is thermal off
while no retry is pending, but a kept channel stays off in DEEP (R87). -/
def execTempSample (c : Chan) (t : Int) (s : State) : Res :=
  if !chOk c then .next s
  else
    let s1 := showTemp s c t
    let m := master s1 c
    let l := moved s1 m
    .next (if 350 ≤ t then (if thermOff s1 m then s1 else thermalTrip s1 c)
      else if thermOff s1 m then
        (if thermAuto s1 c && !hot s1 l && (chn s1 m).retry.isNone && (folClaim s1 c).isNone && s1.pwr.ps != .deep then
          supplyLost (restartCh s1 l) m else s1)
      else warnTemp s1 c t)

/-! ### Open load (R226, R230, R245, R267, R276, R287) -/

/-- OPEN changes on a channel and is reported to its owner with the new state. -/
def openChange (s : State) (c : Chan) (isOpen : Bool) (source sub : Nat) : State :=
  if s.flag (openF c) = isOpen then s
  else raise (s.put (openF c) isOpen) source false [ownerOr0 s c.kind c.idx] (chPayload s c sub (if isOpen then 1 else 0))

/-- What the samples of one debounce time make of OPEN: set when every one is below the threshold, cleared when every one is at
or above 1.25 times it, and kept without samples (R226, R245, R267). -/
def openSamples (thr lo hi n : Nat) (now : Bool) : Bool :=
  if n = 0 then now else if hi < thr then true else if 5 * thr ≤ 4 * lo then false else now

/-- OL_THR of an output in mA: a high-side channel's counts in steps of its class (Tables 9.1, 9.2 and 12.8). -/
def openMa (s : State) (c : Chan) : Nat :=
  match c.kind with
  | 1 => (if c.idx < 8 then 10 else if c.idx < 20 then 5 else 1) * s.rd (HS_DIAG_OL_THR c.idx)
  | _ => 5 * s.rd (FIO_DIAG_OL_THR c.idx)

/-- A high-side or field output yields samples now: outside its inrush window, and not from a PWM on-phase shorter than 150 µs
(R226). -/
def sampled (s : State) (c : Chan) : Bool :=
  let o := outDuty s c
  !inrushOpen s c && o.1 != 0 && (o.2 == 0 || 150 * o.2 ≤ 100 * o.1)

/-- OPEN of an LED channel that is on: its current below half the applied level with its sink below 0.3 V (Table 12.2). -/
def ledOpen (s : State) (c : Chan) (lo hi n vlo vhi : Nat) (now : Bool) : Bool :=
  let l := (ledOut s c).1
  if n = 0 then now else if 2 * hi < l ∧ vhi < 300 then true else if l ≤ 2 * lo ∨ 300 ≤ vlo then false else now

/-- OPEN_LOAD_CHANGE (R226, R276, R287): `n` samples over OL_DEB lie between `lo` and `hi` (mA; 0.1 mA of an LED channel, whose
sink stands between `vlo` and `vhi` mV) and decide OPEN of a channel that is on. A claim's follower keeps its last value, a field
output's OPEN waits while SUPPLY is set, and the check stops in DEEP (R75). -/
def execOpenLoadChange (c : Chan) (lo hi n vlo vhi : Nat) (s : State) : Res :=
  let on := drvOn (chn s c).drv && chOk c && s.pwr.ps != .deep && s.pwr.ps != .off && (c.kind == 4 || sampled s c)
  let isOpen := if c.kind = 4 then ledOpen s c lo hi n vlo vhi (s.flag (openF c)) else openSamples (openMa s c) lo hi n (s.flag (openF c))
  .next (match c.kind with
    | 1 => if on ∧ s.flag (HS_CFG_DIAG_EN c.idx) ∧ (folClaim s c).isNone ∧ s.flag (openF c) ≠ isOpen then
        (openChange s c isOpen 18 1).bump HS_CNT2_OL_EVENTS 1 else s
    | 4 => if on ∧ 2000 * s.rd (LED_CFG_OL_DEB c.idx) ≤ usNow s - (chn s c).runAt ∧ !s.flag (LED_CFG_FMODE c.idx) ∧ !s.flag (LED_GSTAT_SUPPLY_LOST (c.idx / 8)) ∧ s.flag (openF c) ≠ isOpen then
        (if isOpen then (openChange s c isOpen 28 1).bump LED_CNT_FAULTS 1 else openChange s c isOpen 28 1) else s
    | 5 => if on ∧ s.flag (FIO_DIAG_DIAG_EN c.idx) ∧ !s.flag (FIO_CAUSE_CAUSE c.idx 3) then
        showFio (s.put (openF c) isOpen) else s
    | _ => s)

/-- A bridge drives: in a descriptor's, a limp entry's or a reversal's drive. -/
def driving (s : State) (c : Chan) : Bool :=
  match (chn s c).drv with | .bridge b => b.mode == 3 || b.mode == 4 | _ => false

/-- A drive's ramp has ended `us` microseconds ago (R242, R245). -/
def rampOver (s : State) (c : Chan) (us : Nat) : Bool :=
  match (chn s c).drv with | .bridge b => decide (1000 * b.rampMs + us ≤ usNow s - (chn s c).runAt) | _ => true

/-- HB_OPEN_CHANGE (R245): the 1 ms means over OL_DEB lie between `lo` and `hi` mA; a drive is evaluated once its ramp has
ended. -/
def execHbOpenChange (hb : Fin 8) (lo hi : Nat) (s : State) : Res :=
  let m := master s ⟨2, hb.val⟩
  .next (if driving s m && rampOver s m (2000 * s.rd (HB_DIAG_OL_DEB m.idx)) then
      openChange s m (openSamples (10 * s.rd (HB_DIAG_OL_THR m.idx)) lo hi 1 (s.flag (openF m))) 21 1 else s)

/-- SV_OPEN_CHANGE (R267): the current over OL_DEB, a pair's sum, lies between `lo` and `hi` mA, in a segment whose target is at
least twice OL_THR and which has run for OL_DEB, or in the one held. -/
def execSvOpenChange (sv : Fin 8) (lo hi : Nat) (s : State) : Res :=
  let m := master s ⟨3, sv.val⟩
  let thr := 5 * s.rd (SV_DIAG_OL_THR m.idx)
  let due : Bool := match (chn s m).drv with
    | .profile _ _ => decide (500 * s.rd (SV_DIAG_OL_DEB m.idx) ≤ usNow s - (chn s m).runAt)
    | .hold _ _ => true
    | _ => false
  .next (if due ∧ 2 * thr ≤ svTarget s m then openChange s m (openSamples thr lo hi 1 (s.flag (openF m))) 26 1 else s)

/-- SV_SHARE (R254): the members' currents (mA) over the last 10 ms. Once per excursion, a share above 62.5 % of a sum of at
least 1,000 mA goes to the owner with the larger member's share in percent. -/
def execSvShare (sv : Fin 8) (a b : Nat) (s : State) : Res :=
  let m := master s ⟨3, sv.val⟩
  let high := decide (1000 ≤ a + b) && decide (625 * (a + b) < 1000 * max a b)
  .next (if (members s m).length ≠ 2 then s
    else
      let s1 := setChn s m { chn s m with shareOn := high }
      if high ∧ !(chn s m).shareOn then
        raise s1 26 false [ownerOr0 s 3 m.idx] (chPayload s m 2 1 ++ [byte (100 * max a b / (a + b))]) else s1)

/-! ### Drives and ripples (R236 to R242) -/

/-- RUN_MS_EXPIRY (R236): of a descriptor's drive, whose RUN_MS is not 0, also after its descriptor has gone with an engine
reset. -/
def execRunMsExpiry (hb : Fin 8) (s : State) : Res :=
  let m := master s ⟨2, hb.val⟩
  .next (match (chn s m).drv with
    | .bridge b => if isDrive b ∧ b.runMs ≠ 0 ∧ 1000 * b.runMs ≤ usNow s - (chn s m).runAt ∧ (chn s m).limpDrive == .none ∧ (chn s m).safe == .none then driveStop s m 1 else s
    | _ => s)

/-- DIR_GAP_END (R236): the waiting drive starts, unless it has been blocked meanwhile. -/
def execDirGapEnd (hb : Fin 8) (s : State) : Res :=
  let m := master s ⟨2, hb.val⟩
  .next (match (chn s m).wait with
    | none => s
    | some (b, j) =>
      if !(match (chn s m).driveEnd with | some t => lasted s t (1000 * s.rd (HB_CFG_DIR_GAP m.idx)) | none => true) then s
      else if blocked s m then endWait s m OK else startDrive s m b j)

/-- One ripple is counted: POS moves by one in the direction of the last drive; a position stop or a reversal's count
may be met by it. -/
def countRipple (s : State) (m : Chan) : State :=
  let x := chn s m
  let s1 := if x.dir = 2 then s.wr (HB_POS_POS m.idx) (s.rd (HB_POS_POS m.idx) + 2 ^ 32 - 1)
            else if x.dir = 1 then s.wr (HB_POS_POS m.idx) (s.rd (HB_POS_POS m.idx) + 1) else s
  let s2 := setChn s1 m { x with revRip := if s.rd (HB_STATE_REV m.idx) = 2 then x.revRip + 1 else x.revRip }
  match x.drv with
  | .bridge b => if (b.mode = 3 ∨ b.mode = 4) ∧ x.safe == .none ∧ posReached s2 m b then driveStop s2 m 2 else s2
  | _ => s2

/-- Ripples are counted: in a drive, and in BRAKE and FREEWHEEL until their frequency has stayed below RIP_FMIN for 20 ms (R239). -/
def counting (s : State) (m : Chan) : Bool :=
  match (chn s m).drv with
  | .bridge b => isDrive b || decide ((s.now - (chn s m).ripAt) * s.rd (HB_RIP_RIP_FMIN m.idx) * 50
      ≤ 32768 * (50 + s.rd (HB_RIP_RIP_FMIN m.idx)))
  | _ => false

/-- A peak is a ripple: at least RIP_AMP % of the mean, at a frequency between RIP_FMIN and RIP_FMAX; the first of a motion has
no frequency yet (R239). -/
def isRipple (s : State) (m : Chan) (period amp : Nat) : Bool :=
  s.rd (HB_RIP_RIP_AMP m.idx) ≤ amp && (!(chn s m).ripSeen
    || (decide (s.rd (HB_RIP_RIP_FMIN m.idx) * period ≤ 1000000) && decide (1000000 ≤ s.rd (HB_RIP_RIP_FMAX m.idx) * period)))

/-- RIPPLE_ACCEPT (R239): a peak of `amp` percent of the mean arrives `period` microseconds after the last. The first of a motion is
accepted without a reference; after that one outside 0.5 to 2.0 times the last accepted period is rejected. -/
def execRippleAccept (hb : Fin 8) (period amp : Nat) (s : State) : Res :=
  let m := master s ⟨2, hb.val⟩
  let x := chn s m
  .next (match x.drv with
    | .bridge _ =>
      if !counting s m || !isRipple s m period amp then s
      else if !x.ripSeen then countRipple (setChn (s.put (HB_STATE_STALL m.idx) false) m { x with ripSeen := true, fills := 0, ripAt := s.now }) m
      else if x.period ≠ 0 ∧ (2 * period < x.period ∨ 2 * x.period < period) then s.bump HB_CNT3_RIP_REJECTED 1
      else
        let f := if period = 0 then 0 else min 65535 (1000000 / period)
        let s1 := ((s.wr (HB_RIPF_RIPFREQ m.idx) f).put (HB_STATE_STALL m.idx) false)
        countRipple (setChn s1 m { x with period := period, fills := 0, ripAt := s.now }) m
    | _ => s)

/-- RIPPLE_FILL (R239, R240): a ripple is inserted while ripples are counted; eight in a row lose the position. -/
def execRippleFill (hb : Fin 8) (s : State) : Res :=
  let m := master s ⟨2, hb.val⟩
  let x := chn s m
  .next (if counting s m && x.period != 0 then
      let s1 := countRipple (setChn (s.bump HB_CNT3_RIP_FILLED 1) m { x with fills := x.fills + 1 }) m
      if x.fills + 1 = 8 then posLost s1 m else s1
    else s)

/-- STALL (R240, R242): from the end of a drive's ramp on, no ripple has been accepted for `heldMs` with a mean current of at
least `ma`; STALL_I 0 ignores the current. -/
def execStall (hb : Fin 8) (heldMs ma : Nat) (s : State) : Res :=
  let m := master s ⟨2, hb.val⟩
  let x := chn s m
  .next (match x.drv with
    | .bridge b =>
      if (b.mode = 3 ∨ b.mode = 4) ∧ x.safe == .none ∧ !s.flag (HB_STATE_STALL m.idx) ∧ rampOver s m 0
          ∧ 2 * s.rd (HB_STALL_STALL_T m.idx) ≤ heldMs ∧ 100 * s.rd (HB_STALL_STALL_I m.idx) ≤ ma then
        let s1 := (s.put (HB_STATE_STALL m.idx) true).bump HB_CNT2_STALLS 1
        let s2 := raise s1 22 false [ownerOr0 s 2 m.idx] (chPayload s1 m 1 1 ++ leBytes 4 (s.rd (HB_POS_POS m.idx)))
        if b.stallStop then
          let s3 := if b.mode = 4 ∧ s.flag (HB_CFG_NORM_B m.idx) then
            (s2.wr (HB_POS_POS m.idx) 0).put (HB_STATE_POS_VALID m.idx) true else s2
          driveStop (s3.wr (HB_RIPF_RIPFREQ m.idx) 0) m 3
        else s2.wr (HB_RIPF_RIPFREQ m.idx) 0
      else s
    | _ => s)

/-! ### The reversal profile (R247 to R249) -/

/-- REVERSAL_BRAKE_END (R247): phase 2 drives against the reference; without one the profile is over. -/
def execReversalBrakeEnd (hb : Fin 8) (s : State) : Res :=
  let m := master s ⟨2, hb.val⟩
  let x := chn s m
  .next (if x.safe == .reverse && s.rd (HB_STATE_REV m.idx) == 1 then
      if x.revDir = 0 then holdEnded (setSafe (setRev (bridgeOff s m) m 0) m .none) m
      else
        let s1 := switchTo (setRev s m 2) m
          (.bridge ⟨2 + x.revDir, s.rd (HB_REV_REV_DUTY m.idx), 0, s.rd (HB_REV2_REV_MS m.idx), 0, 0, false, false, false⟩)
        setChn s1 m { chn s1 m with dir := x.revDir, revRip := 0, period := 0, fills := 0, ripSeen := false }
    else s)

/-- REVERSAL_DRIVE_END (R247): REV_RIP ripples have been counted, or REV_MS has passed. -/
def execReversalDriveEnd (hb : Fin 8) (s : State) : Res :=
  let m := master s ⟨2, hb.val⟩
  let n := s.rd (HB_REV_REV_RIP m.idx)
  let met := (n != 0 && decide (n ≤ (chn s m).revRip)) || decide (1000 * s.rd (HB_REV2_REV_MS m.idx) ≤ usNow s - (chn s m).runAt)
  .next (if (chn s m).safe == .reverse && s.rd (HB_STATE_REV m.idx) == 2 && met then
      let s1 := switchTo (setRev s m 3) m (.bridge (still 1))
      setChn s1 m { chn s1 m with driveEnd := some s.now }
    else s)

/-- REVERSAL_FINAL_END (R247, R249): the bridge is off until its owner's next descriptor. -/
def execReversalFinalEnd (hb : Fin 8) (s : State) : Res :=
  let m := master s ⟨2, hb.val⟩
  .next (if (chn s m).safe == .reverse && s.rd (HB_STATE_REV m.idx) == 3 then
      holdEnded (setSafe (setRev (bridgeOff s m) m 0) m .none) m
    else s)

/-! ### Kerfs (R261 to R263) -/

/-- The profile that a channel runs. -/
def profOf (s : State) (c : Chan) : Option Nat := match (chn s c).drv with | .profile p _ => some p | _ => none

/-- The KERF segment of a profile. -/
def kerfSeg (s : State) (p : Nat) : Option Nat := (List.range 8).find? (fun g => s.flag (SV_PROF_SEG1_KERF p g))

/-- The channel learns on this profile (R263). -/
def learns (s : State) (c : Chan) (p : Nat) : Bool :=
  s.flag (SV_LEARN_LEARN_EN c.idx) && s.rd (SV_LEARN_PROF c.idx) == p
    && (match kerfSeg s p with | some g => s.flag (SV_PROF_SEG1_LEARN p g) | none => false)

/-- t_learn is in effect. -/
def learned (s : State) (c : Chan) : Bool := s.flag (SV_LSTATE_LVALID c.idx) && 4 ≤ s.rd (SV_LSTATE_LCOUNT c.idx)

/-- What a watch has seen (R261): the running peak, whether the current dipped, the lowest current since with its sample, a
shallow fall, the kerf found, and whether CURRENT was reached before a dip. -/
structure KerfScan where
  peak : Nat := 0
  dip : Bool := false
  low : Nat := 0
  lowAt : Nat := 0
  shallow : Bool := false
  found : Option (Nat × Nat) := none
  ceil : Bool := false
  deriving DecidableEq, Repr

/-- One 10 µs mean of the window: the k-th since the segment began, with the one 100 µs before it (R261). Slopes are in mA per
0.1 ms, `depth` is KDEPTH in mA and `slope` KSLOPE in the same unit. -/
def kerfSample (target depth slope k cur before : Nat) (r : KerfScan) : KerfScan :=
  let peak := max r.peak cur
  let steep := cur + slope ≤ before
  let dipNow := !r.dip && depth ≤ peak - cur && steep
  let low := if r.dip && r.low ≤ cur then r.low else cur
  let lowAt := if r.dip && r.low ≤ cur then r.lowAt else k
  let dip := r.dip || dipNow
  if r.found.isSome then r
  else if dip then
    { r with peak := peak, dip := true, low := low, lowAt := lowAt,
             found := if depth ≤ 4 * (cur - low) then some (lowAt, peak - low) else none }
  else { r with peak := peak, shallow := r.shallow || (depth ≤ 2 * (peak - cur) && steep), ceil := r.ceil || target ≤ cur }

/-- The watch over the means of a segment, from its k-th sample on: only those of the window count. -/
def kerfScan (target depth slope first past : Nat) (all : List Nat) : Nat → List Nat → KerfScan → KerfScan
  | _, [], r => r
  | k, i :: t, r =>
    kerfScan target depth slope first past all (k + 1) t
      (if first ≤ k ∧ k < past then kerfSample target depth slope k i (all.getD (k - 10) i) r
       else if k < first ∧ target ≤ i then { r with ceil := true } else r)

/-- The watch of a channel over the 10 µs means since its KERF segment began, from KWIN_START to KWIN_END (R261). -/
def kerfWatch (s : State) (m : Chan) (i : List Nat) : KerfScan :=
  let first := s.rd (SV_KERF_KWIN_START m.idx)
  kerfScan (svWanted s m) (10 * s.rd (SV_KERF_KDEPTH m.idx)) (2 * s.rd (SV_KERF_KSLOPE m.idx)) (10 * first)
    (10 * max (first + 1) (s.rd (SV_KERF_KWIN_END m.idx))) i 0 i {}

/-- KERF_FOUND (R261): the watch finds a kerf in the means `i` (mA). -/
def execKerfFound (sv : Fin 8) (i : List Nat) (s : State) : Res :=
  let m := master s ⟨3, sv.val⟩
  .next (if (chn s m).kerf && (chn s m).found.isNone then setChn s m { chn s m with found := (kerfWatch s m i).found } else s)

/-- The code of a watch that found no kerf (Table 11.3): CEILING, SHALLOW or MISSING. -/
def kerfMiss (r : KerfScan) : Nat := if r.ceil && !r.dip then 5 else if r.shallow then 4 else 3

/-- KERF_WINDOW_END (R261, R262): the watch has seen the means `i` (mA) up to the end of the segment. -/
def execKerfWindowEnd (sv : Fin 8) (i : List Nat) (s : State) : Res :=
  let m := master s ⟨3, sv.val⟩
  let x := chn s m
  let w := kerfWatch s m i
  .next (if x.kerf then
      let p := (profOf s m).getD (s.rd (SV_LEARN_PROF m.idx))
      let learn := learns s m p
      let time := match kerfSeg s p with | some g => s.rd (SV_PROF_SEG0_TIME p g) * 10 | none => 0
      let s1 := match x.found <|> w.found with
        | some (t, d) =>
          kerfResult s m (if learn && learned s m && s.rd (SV_LSTATE_T_LEARN m.idx) < t then 2 else 1) t d
        | none => kerfMissed s m (kerfMiss w)
      if learn then setChn s1 m { chn s1 m with learnDue := some time } else s1
    else s)

/-! ### LED channels (R274 to R282) -/

/-- Both or one of a neighbour pair's states, as a channel shows them: NB_SHORT and NB_STALE. -/
def showNb (s : State) (n : Nat) : State :=
  let a : Chn := if n = 0 then {} else chn s ⟨4, n - 1⟩
  let b := chn s ⟨4, n⟩
  (s.put (LED_STATE_NB_SHORT n) (a.nbShort || b.nbShort)).put (LED_STATE_NB_STALE n) (16 ≤ a.nbAge || 16 ≤ b.nbAge)

/-- A test's outcome against the present state: two consecutive disagreements change it. -/
def twoTests (now : Bool) (n : Nat) (seen : Bool) : Bool × Nat :=
  if seen = now then (now, 0) else if n + 1 = 2 then (seen, 0) else (now, n + 1)

/-- A confirmed LED fault counts. -/
def ledFault (s : State) (before after : Bool) : State := if after ∧ !before then s.bump LED_CNT_FAULTS 1 else s

/-- The test of OPEN and SHORT_GND of one off channel (Table 12.2). -/
def ledOwn (s : State) (c : Chan) (openFail shortFail : Bool) : State :=
  let x := chn s c
  let o := s.flag (LED_STATE_OPEN c.idx)
  let g := s.flag (LED_STATE_SHORT_GND c.idx)
  let ro := twoTests o x.openN openFail
  let rg := twoTests g x.shortN shortFail
  let s1 := setChn s c { x with openN := ro.2, shortN := rg.2 }
  let s2 := if ro.1 = o then s1 else
    raise (ledFault (s1.put (LED_STATE_OPEN c.idx) ro.1) o ro.1) 28 false [ownerOr0 s 4 c.idx] (chPayload s c 1 (if ro.1 then 1 else 0))
  if rg.1 = g then s2 else
    raise (ledFault (s2.put (LED_STATE_SHORT_GND c.idx) rg.1) g rg.1) 28 false [ownerOr0 s 4 c.idx]
      (chPayload s c 2 (if rg.1 then 1 else 0))

/-- A channel can be tested now: off, or in PWM off-phases of at least 40 µs (R277). -/
def ledOffNow (s : State) (c : Chan) : Bool :=
  let n := (ledOut s c).2.1
  let idle (freq : Nat) : Bool := 40 * 4096 * freq ≤ (4096 - n) * 1000000
  match (chn s c).drv with
  | .off => true
  | .on => false
  | .pulse _ _ _ => n == 0
  | .pwm b => idle b.freq
  | .profile p _ => idle (s.rd (HS_PROF_CFG_FREQ p))
  | .frozen p => idle (s.rd (HS_PROF_CFG_FREQ p))
  | .hold p _ => idle (s.rd (HS_PROF_CFG_FREQ p))
  | .bridge _ => false

/-- An LED channel that NB_OFF switches off until RESTART. -/
def nbOff (s : State) (c : Chan) : State :=
  let s1 := endJob (switchTo s c .off) c OK
  setChn s1 c { chn s1 c with nbHold := true }

/-- The neighbour test of channels n and n + 1 (R276, R277). -/
def ledPair (s : State) (n : Nat) (short : Option Bool) : State :=
  let c : Chan := ⟨4, n⟩
  let d : Chan := ⟨4, n + 1⟩
  let x := chn s c
  match short with
  | none => s
  | some r =>
    let q := twoTests x.nbShort x.nbN r
    let s1 := showNb (showNb (setChn s c { x with nbAge := 0, nbN := q.2, nbShort := q.1 }) n) (n + 1)
    if q.1 = x.nbShort then s1
    else
      let st := if q.1 then 1 else 0
      let s2 := raise (ledFault s1 x.nbShort q.1) 28 false [ownerOr0 s 4 n] (chPayload s1 c 3 st ++ [byte (n + 1)])
      let s3 := raise s2 28 false [ownerOr0 s 4 (n + 1)] (chPayload s2 d 3 st ++ [byte n])
      if q.1 then
        let s4 := if s.flag (LED_GRP_CFG_NB_OFF (n / 8)) then nbOff s3 c else s3
        if s.flag (LED_GRP_CFG_NB_OFF ((n + 1) / 8)) then nbOff s4 d else s4
      else s3

/-- Channel n's TP_PERIOD has gone by since the last one began (R277). -/
def ledDue (s : State) (n : Nat) : Bool := lasted s (chn s ⟨4, n⟩).testAt (10000 * s.rd (LED_GRP_CFG_TP_PERIOD (n / 8)))

/-- A TP_PERIOD begins for channel n: the pair with its upper neighbour has gone one more period without a test, and a test pulse
starts on an off channel, of the pair when both are off in DETECT (R277). -/
def ledBegin (s0 : State) (n : Nat) : State :=
  let c : Chan := ⟨4, n⟩
  let s := setChn s0 c { chn s0 c with testAt := s0.now }
  let s1 := if n = 23 then s
    else showNb (showNb (setChn s c { chn s c with nbAge := min 16 ((chn s c).nbAge + 1) }) n) (n + 1)
  let pair := n != 23 && !s.flag (LED_CFG_FMODE (n + 1)) && !s.flag (LED_GSTAT_SUPPLY_LOST ((n + 1) / 8)) && ledOffNow s ⟨4, n + 1⟩
  if s.flag (LED_GSTAT_SUPPLY_LOST (n / 8)) || !ledOffNow s c || (chn s c).test != 0 then s1
  else setChn s1 c { chn s1 c with test := if pair then 2 else 1 }

/-- A test of channel n ends with its measurements (Table 12.2, R277): the pulse's current below 1.0 mA is OPEN, a pin below 0.4 V
SHORT_GND, and a neighbour pin that follows to within 0.3 V, the pulsed pin having fallen at least 1.0 V below the neighbour's level
before, is a short. A test that has been stopped, or whose supply has gone, has no result (R278, R290). -/
def ledEnd (s : State) (n : Nat) (r : LedMeas) : State :=
  let c : Chan := ⟨4, n⟩
  let kind := (chn s c).test
  let s1 := setChn s c { chn s c with test := 0 }
  let short := (r.nb.map (fun v => decide (v.2.1 + 1000 ≤ v.1 ∧ v.2.2 ≤ v.2.1 + 300)))
  if kind = 0 || s.flag (LED_GSTAT_SUPPLY_LOST (n / 8)) then s1
  else
    let s2 := ledOwn s1 c (decide (r.pulseUa < 1000)) (decide (r.pinMv < 400))
    if kind = 2 ∧ n < 23 then ledPair s2 n short else s2

/-- LED_TEST (R277, R278): in DETECT, once per TP_PERIOD, a test of channel n begins (none), and 20 µs later ends with its
measurements. No tests are made in DEEP or OFF. -/
def execLedTest (n : Fin 24) (r : Option LedMeas) (s : State) : Res :=
  .next (if s.flag (LED_CFG_FMODE n.val) || s.pwr.ps == .deep || s.pwr.ps == .off then s
    else match r with
      | none => if ledDue s n.val then ledBegin s n.val else s
      | some m => ledEnd s n.val m)

/-- Some channel of a group is on or in a PWM period. -/
def groupOn (s : State) (g : Nat) : Bool := (List.range 8).any (fun k => drvOn (chn s ⟨4, 8 * g + k⟩).drv)

/-- FOLLOW_OFF (R274). -/
def execFollowOff (g : Fin 3) (s : State) : Res :=
  .next (match followOf s g.val with
    | some f => if groupOn s g.val then s else switch1 s .off ⟨1, f⟩
    | none => s)

/-- LED_HEADROOM (R275): the sink voltage (mV) has stood below a level for a time; below 0.6 V + 5 Ω × current for 2 ms an excursion
begins, and it ends when the voltage is back. -/
def execLedHeadroom (n : Fin 24) (mv heldUs : Nat) (s : State) : Res :=
  let c : Chan := ⟨4, n.val⟩
  let low := 2 * mv < 1200 + (ledOut s c).1
  .next (if low && heldUs < 2000 then s else if !low then s.put (LED_STATE_HEADROOM n.val) false
    else if drvOn (chn s c).drv && !s.flag (LED_STATE_HEADROOM n.val) && !s.flag (LED_GSTAT_SUPPLY_LOST (n.val / 8)) then
      raise (s.put (LED_STATE_HEADROOM n.val) true) 29 false [ownerOr0 s 4 n.val] (chPayload s c 2 1 ++ [byte (n.val / 8)])
    else s)

/-- A group's factor in 0.01 % changes: FACTOR and every APPLIED follow, and LED_DERATE goes once per excursion to the
owner of each channel that is on. -/
def setFactor (s : State) (g f : Nat) : State :=
  let old := tabGet 10000 s.scl.led g
  let s1 := ({ s with scl := { s.scl with led := tabSet 10000 s.scl.led g f } }).wr (LED_GSTAT_FACTOR g) (f / 100)
  let s2 := (List.range 8).foldl (fun t k => showCh t ⟨4, 8 * g + k⟩) s1
  if old = 10000 ∧ f < 10000 then
    raise s2 30 false (((List.range 8).filter (fun k => drvOn (chn s ⟨4, 8 * g + k⟩).drv)).map (fun k => ownerOr0 s 4 (8 * g + k)))
      ([byte g, 1, byte (f / 100), byte (s.rd (LED_GSTAT_NTC_FAULT g))] ++ leBytes 2 (s2.rd (LED_GSTAT_TGRP g)))
  else s2

/-- f of R280 in 0.01 %, for a temperature in 0.5 °C. -/
def factorOf (s : State) (g : Nat) (t : Int) : Nat :=
  let excess : Int := t - 2 * s.rd (LED_GRP_DER_KNEE g)
  let f : Int := if excess ≤ 0 then 10000 else 10000 - 5 * s.rd (LED_GRP_DER_SLOPE g) * excess
  (max f (100 * s.rd (LED_GRP_DER_FLOOR g))).toNat

/-- The temperature of a group's NTC in 0.5 °C, the mean of the conversions of the resistances (Ω) found over the last second
(R281): none while it is in fault, outside −50 °C to +150 °C or its input not in analog use. -/
def ntcMean (s : State) (g src : Nat) (ohms : List Nat) : Option Int :=
  let ts := ohms.map (fun o => ntcTemp o (100 * s.rd (LED_GRP_NTC_R25 g)) (s.rd (LED_GRP_NTC_BETA g)))
  let sum := ts.foldl (fun (a : Option Int) t => match a, t with | some x, some y => some (x + y) | _, _ => none) (some 0)
  if ohms.isEmpty ∨ s.rd (SIN_CFG_AMODE (24 + src)) = 0 then none
  else match sum with
    | some z => let t := z / (ohms.length : Int); if -100 ≤ t ∧ t ≤ 300 then some t else none
    | none => none

/-- LED_DERATE_UPDATE (R280 to R282): `die` is the 1 s mean of the die sensor that TSRC names, in 0.5 °C, and `ohms` are the
resistances of the NTC over the last second. -/
def execLedDerateUpdate (g : Fin 3) (die : Int) (ohms : List Nat) (s : State) : Res :=
  let src := s.rd (LED_GRP_DER_TSRC g.val)
  let ntc := 8 ≤ src ∧ src ≤ 23
  let t := if ntc then (ntcMean s g.val src ohms).getD 0 else die
  let fault := ntc ∧ (ntcMean s g.val src ohms).isNone
  .next (if s.pwr.ps == .off || (s.pwr.ps == .deep && src != 1 && !ntc) then s
    else if src = 0 ∨ src = 7 ∨ 24 ≤ src then setFactor (s.put (LED_GSTAT_NTC_FAULT g.val) false) g.val 10000
    else if fault then
      (if s.flag (LED_GSTAT_NTC_FAULT g.val) then s
       else raise (s.put (LED_GSTAT_NTC_FAULT g.val) true) 30 false [0]
         ([byte g.val, 2, byte (s.rd (LED_GSTAT_FACTOR g.val)), 1] ++ leBytes 2 (s.rd (LED_GSTAT_TGRP g.val))))
    else
      let s1 := (s.put (LED_GSTAT_NTC_FAULT g.val) false).wrInt (LED_GSTAT_TGRP g.val) t
      setFactor s1 g.val (factorOf s1 g.val t))

/-- NTC_FAULT_HOLD_END (R281). -/
def execNtcFaultHoldEnd (g : Fin 3) (s : State) : Res :=
  .next (if s.flag (LED_GSTAT_NTC_FAULT g.val) then setFactor s g.val (100 * s.rd (LED_GRP_DER_FLOOR g.val)) else s)

/-! ### The field block (R283 to R291) -/

/-- Field inputs are high impedance (Table 26.4). -/
def quiet (s : State) : Bool := s.pwr.ps == .deep || s.pwr.ps == .sparOnly || s.pwr.ps == .off

/-- What a voltage makes of a field input (Table 12.3): its thresholds hold to within ±1.0 V, between whose limits the spec decides
nothing (log entry 1). -/
def fioReading (s : State) (n mv : Nat) (old : Bool) : Bool × State :=
  let type3 := s.flag (FIO_CFG_ITYPE n)
  let thr := if old then (if type3 then 6500 else 10000) else (if type3 then 8500 else 12000)
  if thr + 1000 ≤ mv then (true, s) else if mv + 1000 ≤ thr then (false, s) else (bit (freeDraw s).toNat 0, freeNext s)

/-- FIO_INPUT_ACCEPT (R284, R285): an input has stood at a voltage (mV) for a time; a level held for DEB, at least 50 µs, is
accepted. -/
def execFioInputAccept (n : Fin 16) (mv heldUs : Nat) (s0 : State) : Res :=
  let old := bit (s0.rd FIO_IN_LEVEL) n.val
  let r := fioReading s0 n.val mv old
  let level := r.1
  let s := r.2
  .next (if s0.rd (FIO_CFG_MODE n.val) ≠ 1 ∨ heldUs < max 50 (100 * s0.rd (FIO_CFG_DEB n.val)) ∨ quiet s0
      then s0
    else if old = level then s
    else
      let s1 := edgeSamples
        (s.wr FIO_IN_LEVEL (if level then s.rd FIO_IN_LEVEL + 2 ^ n.val else s.rd FIO_IN_LEVEL - 2 ^ n.val)) 5 n.val
      if s.flag (FIO_CFG_IN_EVT n.val) then
        raise s1 31 false [ownerOr0 s 5 n.val] [5, byte n.val, 2, byte (if level then 1 else 0)] else s1)

/-- The cause bits of a field channel. -/
def causeBits (s : State) (n : Nat) : Nat := (List.range 5).foldl (fun a j => a + s.rd (FIO_CAUSE_CAUSE n j) * 2 ^ j) 0

/-- A scan reports each channel that has gained a cause to its owner (R289). -/
def scanFio (s : State) : State :=
  (List.range 16).foldl (fun t n =>
    let c : Chan := ⟨5, n⟩
    let b := causeBits t n
    if b - (b &&& (chn t c).told) = 0 then t
    else raise (setChn t c { chn t c with told := b }) 31 false [ownerOr0 t 5 n] [5, byte n, 1, byte b]) s

/-- FIO_FAULT_SCAN (R289). -/
def execFioFaultScan (s : State) : Res := .next (if s.flag FIO_STATUS_FAULT then scanFio s else s)

/-- FIO_RESCAN (R289). -/
def execFioRescan (s : State) : Res :=
  .next (if s.flag FIO_STATUS_FAULT then scanFio (s.bump FIO_CNT_RESCANS 1) else s)

/-- FIO_SUPPLY_CAUSE (R289, Table 12.5): the block supply has stood at a voltage (mV) for a time: below UV for 1 ms sets SUPPLY on
the outputs that are on, above UV + 1.0 V for 10 ms clears it. -/
def execFioSupplyCause (mv heldMs : Nat) (s : State) : Res :=
  let uv := 500 * s.rd FIO_BLK_UV
  let low := uv ≠ 0 ∧ mv < uv ∧ 1 ≤ heldMs
  let back := uv + 1000 < mv ∧ 10 ≤ heldMs
  .next (if s.pwr.ps == .deep || s.pwr.ps == .off then s
    else showFio ((List.range 16).foldl (fun t n =>
      if low then (if s.rd (FIO_CFG_MODE n) = 2 ∧ drvOn (chn s ⟨5, n⟩).drv then t.put (FIO_CAUSE_CAUSE n 3) true else t)
      else if back then t.put (FIO_CAUSE_CAUSE n 3) false else t) s))

/-- FIO_INPUT_RANGE (R289, Tables 12.3 and 12.5): an input has stood at a voltage (mV) for a time: within its type's transition band
for 100 ms sets INPUT_RANGE, outside it for 10 ms clears it. -/
def execFioInputRange (n : Fin 16) (mv heldMs : Nat) (s : State) : Res :=
  let inBand := 5000 < mv ∧ mv < (if s.flag (FIO_CFG_ITYPE n.val) then 11000 else 15000)
  .next (if quiet s then s
    else showFio (if s.rd (FIO_CFG_MODE n.val) ≠ 1 then s.put (FIO_CAUSE_CAUSE n.val 4) false
      else if inBand ∧ 100 ≤ heldMs then s.put (FIO_CAUSE_CAUSE n.val 4) true
      else if ¬inBand ∧ 10 ≤ heldMs then s.put (FIO_CAUSE_CAUSE n.val 4) false else s))

/-! ### Battery feeds (R86, R544, R545, R557) -/

/-- The channels of a feed (Table 26.3). -/
def feedChans (f : Nat) : List Chan :=
  match f with
  | 0 => (List.range 8).map (⟨1, ·⟩)
  | 1 => (List.range 8).map (⟨2, ·⟩)
  | 2 => (List.range 12).map (fun i => ⟨1, 8 + i⟩) ++ (List.range 8).map (⟨3, ·⟩)
  | _ => (List.range 12).map (fun i => ⟨1, 20 + i⟩) ++ (List.range 16).map (⟨5, ·⟩)

/-- One channel loses its feed: it is off, a drive, profile or train has ended, and its commanded state is kept; in
DEEP a collapsed feed leaves it off for good (R86). An overvoltage switches off with FAST decay (R557). -/
def feedLost (uv : Bool) (s : State) (c : Chan) : State :=
  let m := master s c
  let s1 := if driving s m then setChn s m { chn s m with cmd := .off } else s
  let s2 := reversalBroken (cutOff s1 m 6 OK) m
  let s2 := if uv then s2 else fallFast s2 m
  let s3 := if uv ∧ s.pwr.ps == .deep then setChn s2 m { chn s2 m with cmd := .off } else s2
  setChn s3 c { chn s3 c with feedOff := true }

/-- A feed leaves its range. A collapse of VBAT4 in DEEP takes the kept LED channels with it (R86, R544). -/
def feedBad (s : State) (f : Nat) (uv : Bool) : State :=
  let s1 := s.wr PWR_PINS_FEED_OK (s.rd PWR_PINS_FEED_OK &&& (15 - 2 ^ f))
  let s2 := (feedChans f).foldl (feedLost uv) (if uv then s1.orF PWR_PINS_FEED_UV (2 ^ f) else s1)
  if uv ∧ f = 3 ∧ s.pwr.ps == .deep then
    (List.range 24).foldl (fun t k => let c : Chan := ⟨4, k⟩; setChn (switchTo t c .off) c { chn (switchTo t c .off) c with cmd := .off }) s2
  else s2

/-- FEED_UNDERVOLTAGE (R545): a feed stays at a voltage (mV) for a time; below 4.5 V ± 0.2 V for 100 µs it counts as lost. -/
def execFeedUndervoltage (f : Fin 4) (mv heldUs : Nat) (s : State) : Res :=
  let r := above s mv 4500 200
  .next (if heldUs < 100 then s else if r.1 then r.2 else feedBad r.2 f.val true)

/-- FEED_OVERVOLTAGE (R557): above 37.0 V ± 1.0 V for 10 µs. -/
def execFeedOvervoltage (f : Fin 4) (mv heldUs : Nat) (s : State) : Res :=
  let r := above s mv 37000 1000
  .next (if heldUs < 10 then s
    else if r.1 then
      let t := feedBad r.2 f.val false
      { t with pwr := { t.pwr with overFeeds := f.val :: t.pwr.overFeeds.filter (· != f.val) } }
    else r.2)

/-- One channel has its feed again: it returns to its commanded state where nothing else keeps it off. -/
def feedBack (s : State) (c : Chan) : State :=
  let s1 := setChn s c { chn s c with feedOff := false }
  let m := master s1 c
  let x := chn s1 m
  if !(chn s c).feedOff || isSlave s1 c || blocked s1 m || x.safe != .none || s.act.parked
      || (s.pwr.ps == .deep && !s.pwr.kept.contains (chKey c)) || s.pwr.ps == .off || x.orphan == 1 then s1
  else switchTo s1 m x.cmd

/-- FEED_RECOVER (R545, R557): a feed stays at a voltage (mV) for a time: above 5.0 V ± 0.2 V for 1 ms it is back, after an
overvoltage once it has also stayed below 35.0 V. -/
def execFeedRecover (f : Fin 4) (mv heldUs : Nat) (s : State) : Res :=
  let r := above s mv 5000 200
  let t := r.2
  .next (if heldUs < 1000 ∨ (35000 ≤ mv ∧ s.pwr.overFeeds.contains f.val) ∨ 38000 ≤ mv then s
    else if r.1 then
      (feedChans f.val).foldl feedBack
        ({ t with pwr := { t.pwr with overFeeds := t.pwr.overFeeds.filter (· != f.val) } }.orF PWR_PINS_FEED_OK (2 ^ f.val))
    else t)

end Sys2Proof.Machine
end

