-- ==== Sys2Proof/Machine/Sense.lean ====
section
/-! DEFINITION.
Switch inputs, analog inputs, ADC calibration and the SNS descriptors (chapter 13).
-/

namespace Sys2Proof.Machine

/-! ### Switch inputs (R294 to R300) -/

/-- An input that takes part in digital sensing. -/
def siDigital (s : State) (n : Nat) : Bool := s.flag (SIN_CFG_EN n) && (n < 32 || s.rd (SIN_CFG_AMODE n) == 0)

/-- A bit of a mask set to a value. -/
def setBit (m n : Nat) (v : Bool) : Nat := if bit m n = v then m else if v then m + 2 ^ n else m - 2 ^ n

/-- The wetting current of an input in mA and its time at each sample in µs, none when it flows all the time: sourced with REF
GND, sunk with REF BAT; a cyclic sample wets with 2 mA for 10 µs, whatever WET selects (Table 13.1, R295). -/
def wetting (s : State) (n : Nat) (cyclic : Bool) : Nat × Option Nat :=
  if cyclic then (2, some 10)
  else (match s.rd (SIN_CFG_WET n) with | 0 => 2 | 1 => 5 | 2 => 10 | _ => 15, if s.flag (SIN_CFG_WCONT n) then none else some 50)

/-- VL, VH and their tolerance in mV, by THR and VSPAR (Table 13.2). -/
def siThresholds (s : State) (n vspar : Nat) : Nat × Nat × Nat :=
  match s.rd (SIN_CFG_THR n) with
  | 0 => (2500, 3000, 200)
  | 1 => (4000, 4600, 300)
  | 2 => (40 * vspar / 100, 50 * vspar / 100, 3 * vspar / 100)
  | _ => (60 * vspar / 100, 70 * vspar / 100, 3 * vspar / 100)

/-- What a pin's voltage says: low, high, or nothing new; within a threshold's tolerance the spec decides nothing (R295; log
entry 1). -/
def pinSays (s : State) (n mv vspar : Nat) : State × Option Bool :=
  let (vl, vh, tol) := siThresholds s n vspar
  let coin := bit (freeDraw s).toNat 0
  if mv + tol < vl then (s, some false)
  else if vh + tol < mv then (s, some true)
  else if mv < vl + tol then (freeNext s, if coin then some false else none)
  else if vh < mv + tol then (freeNext s, if coin then some true else none)
  else (s, none)

/-- One comparison of a pin at a voltage in mV (R295): below VL it reads low, above VH high, and between the two it keeps its
reading; what a pin that has never been read keeps is open (log entry 1). -/
def readPin (s0 : State) (n mv vspar : Nat) : State :=
  let (s, r) := pinSays s0 n mv vspar
  match r with
  | some high => { s with sns := { s.sns with reading := setBit s.sns.reading n high, known := setBit s.sns.known n true } }
  | none =>
  if bit s.sns.known n then s
  else { freeNext s with sns := { s.sns with reading := setBit s.sns.reading n (bit (freeDraw s).toNat 0),
                                             known := setBit s.sns.known n true } }

/-- The contact state of the last reading: closed when low with REF GND, when high with REF BAT (R295). -/
def closed (s : State) (n : Nat) : Bool := bit s.sns.reading n == s.flag (SIN_CFG_REF n)

/-- One sample against the accepted state: after `need` agreeing samples the state is taken; the second part says so. -/
def debounce (s : State) (n need : Nat) : State × Bool :=
  let c := closed s n
  if c = bit (s.rd SIN_LEVEL_LEVEL) n then
    ({ s with sns := { s.sns with agree := tabSet 0 s.sns.agree n 0 } }, false)
  else
    let k := tabGet 0 s.sns.agree n + 1
    if need ≤ k then
      ({ s.wr SIN_LEVEL_LEVEL (setBit (s.rd SIN_LEVEL_LEVEL) n c) with
         sns := { s.sns with agree := tabSet 0 s.sns.agree n 0 } }, true)
    else ({ s with sns := { s.sns with agree := tabSet 0 s.sns.agree n k } }, false)

/-- The RUN sample of one input (R296). -/
def sampleInput (mv : List Nat) (vspar : Nat) (s : State) (n : Nat) : State :=
  if !siDigital s n then s
  else
    let r := debounce (readPin s n (mv.getD n 0) vspar) n (s.rd (SIN_CFG_DEB n) + 1)
    if r.2 then
      let s1 := edgeSamples r.1 3 n
      if s.flag (SIN_CFG_IN_EVT n) then
        raise s1 32 false [ownerOr0 s 6 n] [byte n, byte (if bit (s1.rd SIN_LEVEL_LEVEL) n then 1 else 0)]
      else s1
    else r.1

/-- INPUT_SAMPLE (R296): the pins' voltages and VSPAR at this millisecond, in mV. -/
def execInputSample (mv : List Nat) (vspar : Nat) (s : State) : Res := whileCd s <|
  if s.pwr.ps = .run then (List.range 48).foldl (sampleInput mv vspar) s else s

/-- The cyclic sample of one input (R92, R94, R299, R300): SI_CONFIRM agreeing samples change the accepted state, which
starts nothing by itself; in SLEEP and DEEP, SI_CONFIRM samples that differ from the captured level wake. -/
def burstInput (mv : List Nat) (vspar : Nat) (s : State) (n : Nat) : State :=
  if !siDigital s n || !bit (s.rd SIN_CYC_EN_CYC_EN) n then s
  else
    let need := max 1 (s.rd WAK_FILT_SI_CONFIRM)
    let s1 := (debounce (readPin s n (mv.getD n 0) vspar) n need).1
    match s1.sns.captured with
    | none => s1
    | some cap =>
      if closed s1 n = bit cap n then { s1 with sns := { s1.sns with confirm := tabSet 0 s1.sns.confirm n 0 } }
      else
        let k := tabGet 0 s1.sns.confirm n + 1
        if k < need then { s1 with sns := { s1.sns with confirm := tabSet 0 s1.sns.confirm n k } }
        else
          let s2 := { s1 with sns := { s1.sns with confirm := tabSet 0 s1.sns.confirm n 0 } }
          if (s2.pwr.ps == .sleep || s2.pwr.ps == .deep) && armed s2 3 n then acceptWake s2 3 n else s2

/-- The contact states as one mask. -/
def contacts (s : State) : Nat := (List.range 48).foldl (fun a n => if closed s n then a + 2 ^ n else a) 0

/-- A point of the CYC_PERIOD grid, which runs from the power-on reset, has come since the last burst (R299, R578). -/
def burstDue (s : State) : Bool :=
  let point (t : Nat) : Nat := t * 1000 / (32768 * 8 * 2 ^ s.rd SIN_CYC_CYC_PERIOD)
  point s.sns.burstAt < point s.now

/-- CYCLIC_BURST (R299): the pins' voltages and VSPAR at a grid point, in mV; the first burst after an entry captures the levels of R94. -/
def execCyclicBurst (mv : List Nat) (vspar : Nat) (s : State) : Res :=
  let asleep := s.pwr.ps == .sleep || s.pwr.ps == .deep
  .next (if (asleep || s.pwr.ps == .sparOnly || s.pwr.cd == .lost) && burstDue s then
      let s0 := { s with sns := { s.sns with burstAt := s.now } }
      let s1 := (List.range 48).foldl (burstInput mv vspar) s0
      if asleep && s.sns.captured.isNone && (s1.pwr.ps == .sleep || s1.pwr.ps == .deep) then
        { s1 with sns := { s1.sns with captured := some (contacts s1) } }
      else s1
    else s)

/-- RPU in ohms (Table 13.7). -/
def rpuOhms (s : State) (n : Nat) : Nat := match s.rd (SIN_CFG_RPU n) with | 0 => 1000 | 2 => 100000 | _ => 10000

/-- An LED group takes its temperature from this input (R298). -/
def ntcSource (s : State) (n : Nat) : Bool :=
  (List.range 3).any (fun g => s.rd (LED_GRP_DER_TSRC g) + 24 == n)

/-- ANALOG_CONVERT (R297, R298) of SI(32 + m): the pin voltage in mV, or the resistance in ohms. -/
def execAnalogConvert (m : Fin 16) (value : Nat) (s : State) : Res :=
  let n := 32 + m.val
  let mode := s.rd (SIN_CFG_AMODE n)
  let runs := s.flag (SIN_CFG_EN n) && (((s.pwr.ps == .run || s.pwr.ps == .sleep) && mode != 0)
    || (s.pwr.ps == .deep && mode == 2 && ntcSource s n))
  let bad := mode == 2 && (10 * value < rpuOhms s n || 10 * rpuOhms s n < value)
  let was := bit (s.rd SIN_AFLT_AFAULT) m.val
  let due := s.pwr.ps == .deep || lasted s (tabGet 0 s.sns.anaAt m.val) (1000 * s.rd (SIN_CFG_ANA_MS n))
  .next (if !runs || !due then s
    else
      let s0 := { s with sns := { s.sns with anaAt := tabSet 0 s.sns.anaAt m.val s.now } }
      let s1 := (s0.wr (SIN_ANA_VALUE m.val) (if bad then 0xFFFFFFFF else value)).wr SIN_AFLT_AFAULT
        (setBit (s.rd SIN_AFLT_AFAULT) m.val bad)
      if bad = was then s1 else raise s1 33 false [ownerOr0 s 6 n] [byte n, byte (if bad then 1 else 0)])

/-! ### The measurement scheduler (R301) -/

/-- A slot of a SAR ADC's frame of 512 is reserved for calibration. -/
def calSlot (k : Nat) : Bool := k % 32 == 0

/-- SNS_RATE of a half-bridge in ksps (Table 10.3). -/
def snsKsps (s : State) (hb : Nat) : Nat := match s.rd (HB_STALL_SNS_RATE hb) with | 0 => 5 | 1 => 10 | 2 => 20 | _ => 40

/-- The rate in ksps at which the scheduler samples a channel: a bridge that drives at its SNS_RATE, every other channel at the
base rate, and a solenoid by an ADC of its own at 1 Msps. -/
def schedKsps (s : State) (c : Chan) : Nat :=
  match c.kind with
  | 2 => if driving s (master s c) then snsKsps s (master s c).idx else 20
  | 3 => 1000
  | _ => 20

/-- Solenoid ADC k may be calibrated: its channel is off or in a REGULATE or RAMP segment without a kerf watch (R261, R302). -/
def svCalOk (s : State) (k : Nat) : Bool :=
  let m := master s ⟨3, k⟩
  match (chn s m).drv with
  | .off => true
  | .profile p _ => s.rd (SV_PROF_SEG0_MODE p (chn s m).seg) != 2 && !s.flag (SV_PROF_SEG1_KERF p (chn s m).seg)
  | .hold p g => s.rd (SV_PROF_SEG0_MODE p g) != 2
  | _ => false

/-- ADC_CALIBRATE (R302): a result departing by `departure` (0.01 % of full scale) from the factory value. -/
def execAdcCalibrate (adc : Fin 16) (departure : Int) (s : State) : Res :=
  let k := adc.val
  .next (if departure.natAbs ≤ 100 ∨ (3 ≤ k ∧ k < 8) ∨ (8 ≤ k ∧ !svCalOk s (k - 8)) then s
    else
      let s1 := if k < 3 then s.orF SIN_CAL_CAL_DEGR (2 ^ k) else s.orF SIN_CAL_SV_CAL_DEGR (2 ^ (k - 8))
      raise (s1.bump SIN_CAL_CAL_FAILS 1) 34 true [0] ([byte k, 0] ++ leBytes 2 (intBits 16 departure)))

/-! ### The SNS descriptors (R303, R304, R308) -/

/-- The stream that an OPEN asks for. -/
def openBody (s : State) (p : Nat) (b : List Byte) : Strm :=
  let src := leAt b 17 1
  let rate := leAt b 20 4
  { part := p, slot := leAt b 16 1, src := src, kind := leAt b 18 1, index := leAt b 19 1, rate := rate,
    nsamp := leAt b 24 2, hop := if leAt b 26 2 = 0 then leAt b 24 2 else leAt b 26 2, nblk := leAt b 28 1,
    inf := bit (leAt b 29 1) 0, blkEvt := bit (leAt b 29 1) 1, ctx := leAt b 30 1, base := leAt b 32 8,
    mask := leAt b 40 8, flush := leAt b 48 2, stream := ownAddr s * 1024 + 16 * p + leAt b 16 1,
    demand := if src = 1 ∧ leAt b 18 1 ≠ 3 ∧ 20000 < rate then (rate - 20000 + 999) / 1000 else 0 }

/-- SRC names a channel or input within Table 13.4. -/
def srcBad (s : State) (src kind index : Nat) : Bool :=
  match src with
  | 1 => kind == 0 || !chOk ⟨kind, index⟩
  | 2 => kind != 2 || !chOk ⟨2, index⟩ || isSlave s ⟨2, index⟩
  | 4 => kind != 6 || index < 32 || 47 < index
  | 6 => kind != 0 || index < 1 || 4 < index
  | 7 => kind != 0 || 5 < index
  | 3 => kind != 0 || index != 0
  | 5 => kind != 0 || index != 0
  | _ => true

/-- RATE outside the source's range. -/
def rateBad (x : Strm) : Bool :=
  match x.src with
  | 1 => x.rate < 1 || (if x.kind = 3 then 100000 else 200000) < x.rate
  | 4 => x.rate < 1 || 1000 < x.rate
  | 6 => x.rate < 1 || 1000 < x.rate
  | 7 => x.rate < 1 || 1000 < x.rate
  | _ => x.rate != 0

/-- A field of an OPEN is out of range, its slot is open, or no stream can be opened (R303). -/
def openBad (s : State) (x : Strm) : Bool :=
  15 < x.slot || srcBad s x.src x.kind x.index || rateBad x || x.nsamp < 1 || 240 < x.nsamp || x.nsamp < x.hop
    || x.nblk < 1 || 12 < x.nblk || (x.inf && 15 < x.ctx) || x.base % 64 != 0
    || (match x.src with | 3 => 2 ^ 48 ≤ x.mask | 5 => 2 ^ 16 ≤ x.mask | _ => x.mask != 0)
    || 60000 < x.flush || (edgeSrc x.src && x.flush == 0)
    || homeOf s x.part == 2 || (strmAt s x.part x.slot).isSome || 48 ≤ s.sns.streams.length

/-- What an OPEN names belongs to the partition; a PINCH stream also opens for the safety partition when the bridge is
open to the safety lane (R304). -/
def openOwned (s : State) (x : Strm) : Bool :=
  if x.src = 2 ∧ ownerOf s 2 x.index ≠ some x.part then strmOwned s x && safeOpen s ⟨2, x.index⟩ else strmOwned s x

/-- BLK of every slot is all ones before the stream runs. -/
def clearBlks (s : State) (x : Strm) : State :=
  (List.range (2 ^ x.nblk)).foldl (fun t k => writeBytes t (blkAddr x k + 24) [0xFF, 0xFF, 0xFF, 0xFF]) s

/-- OPEN (R303, R304). -/
def execSnsOpen (h : DHdr) (b : List Byte) (s : State) : Res :=
  descr SNS 1 h b s (fun t =>
    let x := openBody t h.part.val b
    let size := 2 ^ x.nblk * slotSize x.src x.nsamp
    if bodyDirty b ((List.range 34).map (16 + ·)) || leAt b 31 1 != 0 || 4 ≤ leAt b 29 1 then
      complete t SNS h 1 RESERVED_NONZERO []
    else if openBad t x then complete t SNS h 1 BAD_FIELD []
    else if !openOwned t x then complete t SNS h 1 NOT_OWNER []
    else match translate t h.part.val x.base size 1 with
      | none => completeFault t SNS h 1 x.base
      | some a =>
        if x.hop < x.nsamp ∧ !x.inf then complete t SNS h 1 BAD_FIELD []
        else if t.rd SIN_SCHED_CAP_FREE < x.demand then complete t SNS h 1 BAD_FIELD (leBytes 4 (t.rd SIN_SCHED_CAP_FREE))
        else
          let y := { x with base := a, epoch := t.rd SPR_DT_STATUS_EPOCH }
          let t1 := showStreams { clearBlks t y with sns := { t.sns with streams := t.sns.streams ++ [y] } }
          complete t1 SNS h 1 OK (leBytes 2 y.stream))

/-- A stream closes once INF has read its windows (R309). -/
def tryClose (s : State) (p slot : Nat) : State :=
  match strmAt s p slot with
  | none => s
  | some x => match x.closing with
    | some h => if x.wins.isEmpty then complete (endStrm s p slot) SNS h 2 OK [] else s
    | none => s

/-- CLOSE (R303, R309): the partial block is written, an edge stream's as it has gathered it, a periodic one's from the
samples taken since the last block, the first of them `back` nanoseconds ago. -/
def execSnsClose (h : DHdr) (b : List Byte) (samples : List Byte) (back : Nat) (s : State) : Res :=
  descr SNS 2 h b s (fun t =>
    let slot := leAt b 16 1
    if bodyDirty b [16] then complete t SNS h 2 RESERVED_NONZERO []
    else match strmAt t h.part.val slot with
      | none => complete t SNS h 2 BAD_FIELD []
      | some x =>
        if x.closing.isSome then complete t SNS h 2 BAD_FIELD []
        else
          let t1 := if edgeSrc x.src then completeBlock t x.part slot x.buf x.t0
            else completeBlock t x.part slot (samples.take (x.nsamp * sampleSize x.src)) (dtNow t - back)
          tryClose (setStrm t1 { (strmAt t1 x.part slot).getD x with closing := some h }) x.part slot)

/-- RELEASE (R308). -/
def execStreamRelease (h : DHdr) (b : List Byte) (s : State) : Res :=
  descr SNS 3 h b s (fun t =>
    if bodyDirty b [16, 20, 21, 22, 23] then complete t SNS h 3 RESERVED_NONZERO []
    else match strmAt t h.part.val (leAt b 16 1) with
      | none => complete t SNS h 3 BAD_FIELD []
      | some x =>
        let c := leAt b 20 4
        if (x.prod + 2 ^ 32 - x.cons) % 2 ^ 32 < (c + 2 ^ 32 - x.cons) % 2 ^ 32 then complete t SNS h 3 BAD_FIELD []
        else complete (setStrm t { x with cons := c }) SNS h 3 OK [])

/-- The measurement that a READ returns (Table 13.6); feeds and die temperatures have no register, so theirs is open
(log entry 1). A READ of SI_DIG shows the partition's own inputs. -/
def readMeas (s : State) (p src kind index : Nat) : List Byte :=
  match src with
  | 1 => leBytes 2 (intBits 16 (match kind with
      | 1 => if index < 8 then currentMa s ⟨1, index⟩ / 2 else currentMa s ⟨1, index⟩
      | 4 => (s.rd (LED_MEAS_CURRENT index) : Int) * 10
      | _ => currentMa s ⟨kind, index⟩))
  | 3 => leBytes 8 ((List.range 48).foldl (fun a n =>
      if ownerOf s 6 n == some p && bit (s.rd SIN_LEVEL_LEVEL) n then a + 2 ^ n else a) 0)
  | 4 => leBytes 4 (s.rd (SIN_ANA_VALUE (index - 32)))
  | 5 => leBytes 4 (s.rd FIO_IN_LEVEL)
  | _ => leBytes 2 (freeDraw s).toNat

/-- READ (R303). -/
def execSnsRead (h : DHdr) (b : List Byte) (s : State) : Res :=
  descr SNS 4 h b s (fun t =>
    let src := leAt b 17 1
    let kind := leAt b 18 1
    let index := leAt b 19 1
    if bodyDirty b [17, 18, 19] then complete t SNS h 4 RESERVED_NONZERO []
    else if src = 2 ∨ srcBad t src kind index then complete t SNS h 4 BAD_FIELD []
    else if (src = 1 ∨ src = 4) ∧ ownerOf t kind index ≠ some h.part.val then complete t SNS h 4 NOT_OWNER []
    else complete (if src = 6 ∨ src = 7 then freeNext t else t) SNS h 4 OK (readMeas t h.part.val src kind index))

/-- A PINCH stream samples now, or its drive ends now: only armed drives are sampled (R306). -/
def pinchNow (s : State) (x : Strm) : Bool :=
  let y := chn s (master s ⟨2, x.index⟩)
  (match y.drv with | .bridge b => isDrive b && b.armed | _ => false) || y.driveEnd == some s.now

/-- BLOCK_COMPLETE (R306, R309): NSAMP samples, FLUSH_MS, the end of a drive, a step of device time or an entry into
SLEEP completes a block. Its samples are what was measured, the first of them `back` nanoseconds ago; an edge stream's
are those it has gathered. -/
def execBlockComplete (part : Fin 8) (slot : Fin 16) (samples : List Byte) (back : Nat) (s : State) : Res := whileCd s <|
  match strmAt s part.val slot.val with
  | none => s
  | some x =>
    if edgeSrc x.src then completeBlock s part.val slot.val x.buf x.t0
    else if x.src = 2 ∧ !pinchNow s x then s
    else completeBlock s part.val slot.val (samples.take (x.nsamp * sampleSize x.src)) (dtNow s - back)

end Sys2Proof.Machine
end

