-- ==== Sys2Proof/Machine/Scaler.lean ====
section
/-! DEFINITION.
The scaler (chapter 14): harness models and wire ceilings, heat, the package factor, partition budgets with derating,
restoring, escalation and shedding, solenoid learning, restarts, retry storms and sustained overload.
-/

namespace Sys2Proof.Machine

/-- The length of a step in milliseconds (R312). -/
def stepMs (s : State) : Nat := if s.pwr.ps = .deep then 64 else 1

/-- The measurement of a channel; a channel that is not listed carries nothing. -/
def measOf (x : ScalerIn) (c : Chan) : ChMeas :=
  (x.chans.find? (fun m => m.ch == c)).getD ⟨c, 0, 0, 0, 0, 0, 0, 0, 0, 0⟩

/-- The voltage of a channel's VBAT feed in mV (Table 26.3). -/
def feedMv (x : ScalerIn) (c : Chan) : Nat :=
  match (List.range 4).find? (fun f => (feedChans f).contains c) with
  | some 0 => x.feed0 | some 1 => x.feed1 | some 2 => x.feed2 | _ => x.feed3

/-- The measured currents reach the status registers (R311), a pair's sum on its master; a FULL segment that has reached CURRENT
regulates from then on (R258). -/
def showMeas (s : State) (m : ChMeas) : State :=
  match m.ch.kind with
  | 1 => s.wr (HS_MEAS_CURRENT m.ch.idx) m.cur.toNat
  | 2 => s.wrInt (HB_MEAS_CURRENT m.ch.idx) m.cur
  | 3 =>
    let t := if isSlave s m.ch then s else s.wr (SV_MEAS_CURRENT m.ch.idx) m.cur.toNat
    if svFull t m.ch && decide ((svWanted t m.ch : Int) ≤ m.cur) then setChn t m.ch { chn t m.ch with reached := true } else t
  | 4 => (s.wr (LED_MEAS_CURRENT m.ch.idx) m.cur.toNat).wr (LED_MEAS_VSINK m.ch.idx) m.vsink
  | _ => (s.wr (FIO_MEAS_CURRENT m.ch.idx) m.cur.toNat).wr (FIO_MEAS_VPIN m.ch.idx) m.vsink

/-! ### Harness models (R227, R228) -/

/-- ΔT after a step, in nanokelvin (R227). -/
def nextRise (s : State) (w stp dT : Nat) (m : ChMeas) : Nat :=
  let eq := s.rd (HS_WIRE_R_K_HEAT (w - 1)) * m.duty * (m.iOn * m.iOn) / 10000
  let f := expRise stp (100 * s.rd (HS_WIRE_R_TAU (w - 1)))
  if dT ≤ eq then dT + (eq - dT) * f / 2 ^ 48 else dT - (dT - eq) * f / 2 ^ 48

/-- The duty min(1, DTMAX / (K_HEAT × i_on²)) in 0.01 % (R228). -/
def wireDuty (s : State) (w : Nat) (m : ChMeas) : Nat :=
  let k := s.rd (HS_WIRE_R_K_HEAT (w - 1)) * (m.iOn * m.iOn)
  if k = 0 then 10000 else min 10000 (10000 * dtMax s w / k)

/-- One channel's model and wire ceiling (R228), without a model no ceiling; WIRE_DERATE each time the ceiling falls below 100 %. -/
def wireStep (x : ScalerIn) (s : State) (c : Chan) : State :=
  let w := wireClass s c
  let top := dtMax s w
  if top = 0 then setChn s c { chn s c with wireHot := false, wireCeil := 10000 }
  else
    let m := measOf x c
    let y := chn s c
    let dT := nextRise s w (stepMs s) y.dT m
    let hotNow := if 9 * top ≤ 10 * dT then true else if 10 * dT < 8 * top then false else y.wireHot
    let ceil := if hotNow then wireDuty s w m else 10000
    let s1 := setChn s c { y with dT := dT, wireHot := hotNow, wireCeil := ceil }
    let s2 := if c.kind = 1 then s1.wr (HS_STATE_WIRE_PCT c.idx) (min 100 (dT * 100 / top)) else s1
    if y.wireCeil = 10000 ∧ ceil < 10000 then
      raise s2 82 false [ownerOr0 s2 c.kind c.idx]
        ([byte c.kind, byte c.idx, byte w, byte (ceil / 100)] ++ leBytes 2 (min 65535 (dT / 100000000)))
    else s2

/-! ### Heat (R314) -/

/-- Ron25 in mΩ and the energy of an edge in µJ at 13.5 V (Tables 9.1 and 14.2). -/
def heatOf (c : Chan) : Nat × Nat :=
  match c.kind with
  | 1 => if c.idx < 8 then (7, 40) else if c.idx < 20 then (20, 15) else (70, 5)
  | 2 => (30, 25) | 3 => (80, 10) | 5 => (250, 5) | _ => (0, 0)

/-- P_ch in µW (Table 14.2). -/
def chHeat (s : State) (x : ScalerIn) (c : Chan) : Nat :=
  let m := measOf x c
  if c.kind = 4 then m.iMean * (s.rd (LED_MEAS_VSINK c.idx) * 50) / 1000
  else
    let ron : Int := (heatOf c).1 * (1000 + 2 * (s.rdInt (tempF c) - 50))
    let cond := (m.iRms2 : Int) * ron * (if c.kind = 2 then m.switches else 1) / 1000000
    cond.toNat + m.edges * (heatOf c).2 * feedMv x c * 1000 / (13500 * stepMs s) + m.other

/-! ### Partition budgets (R163, R317 to R319) -/

/-- The channels charged to a partition: owned or claimed ones, but for those that the limp table holds (Table 8.6). -/
def charged (s : State) (p : Nat) : List Chan :=
  allChans.filter (fun c => chargedTo s c == some p && !limpHeld s c)

/-- RANK of a channel; a claimed one has its lead's (R330). -/
def rankOf (s : State) (c : Chan) : Nat :=
  let d : Chan := match folClaim s c with | some x => ⟨1, x.lead⟩ | none => c
  match ownRec s d.kind d.idx with | some r => r.rank | none => 0

/-- The floor of the budget ceiling in percent (Table 14.3); a solenoid's is where its target would fall below
MIN_HOLD. -/
def budFloor (s : State) (c : Chan) : Nat :=
  match c.kind with
  | 1 => s.rd SCL_FLOOR_HS_FLOOR | 2 => s.rd SCL_FLOOR_HB_FLOOR | 4 => s.rd SCL_FLOOR_LED_FLOOR
  | 3 =>
    let m := master s c
    let tgt := match (chn s m).drv with
      | .profile p _ => s.rd (SV_PROF_SEG0_CURRENT p (chn s m).seg)
      | .hold p g => s.rd (SV_PROF_SEG0_CURRENT p g)
      | _ => 0
    if tgt = 0 then 0 else min 100 ((1000 * s.rd (SV_CFG_MIN_HOLD m.idx) * (members s m).length + tgt - 1) / tgt)
  | _ => s.rd SCL_FLOOR_FIO_FLOOR

/-- The channels a budget can derate: charged, on, their own governing member, and not held by the safety lane. -/
def deratable (s : State) (p : Nat) : List Chan :=
  (charged s p).filter (fun c => !isSlave s c && drvOn (chn s c).drv && (chn s c).safe == .none)

/-- The budget state of a partition. -/
def budget (s : State) (p : Nat) : Budget := tabGet {} s.scl.budgets p

/-- Set it. -/
def setBudget (s : State) (p : Nat) (b : Budget) : State :=
  { s with scl := { s.scl with budgets := tabSet {} s.scl.budgets p b } }

/-- Lower or raise a channel's budget ceiling. -/
def setCeil (v : Chan → State → Nat) (s : State) (c : Chan) : State := setChn s c { chn s c with budCeil := v c s }

/-- The present values of R317, in µA, pJ and µW, and the trimmed budgets in hundredths of those units: current, energy, heat. -/
def budgetVals (s : State) (x : ScalerIn) (p : Nat) (e : PartEntry) : List (Nat × Nat) :=
  let b := budget s p
  let trim := s.rd (SCL_TRIM_TRIM p)
  [(((charged s p).map (fun c => (measOf x c).iMean)).sum, e.iBudget * trim * 10000),
   (b.slots.sum, e.eBudget * trim * 1000000000),
   (b.heatLog.sum / max 1 b.heatLog.length, e.hBudget * trim * 10000)]

/-- The same values and budgets in the units of their fields: 10 mA, mJ and 10 mW. -/
def budgetUnits (k : Nat) (v : Nat × Nat) : Nat × Nat :=
  let u := if k = 1 then 1000000000 else 10000
  (v.1 / u, v.2 / (100 * u))

/-- What a step charges a partition with: energy into the filling slot, heat into the 100 ms mean, and the measurement registers. -/
def chargeHeat (s : State) (x : ScalerIn) (p : Nat) : State :=
  let l := charged s p
  let b := budget s p
  let roll := min 100 (s.scl.steps / 100 - b.slotNo)
  let spent := (l.map (fun c => feedMv x c * (measOf x c).iMean)).sum * stepMs s
  let slots := match List.replicate roll 0 ++ b.slots with
    | [] => [spent]
    | a :: t => ((a + spent) :: t).take 100
  let n := (99 + stepMs s) / stepMs s
  let log := (((l.map (chHeat s x)).sum) :: b.heatLog).take n
  let heat := log.sum / log.length
  let cur := ((l.map (fun c => (measOf x c).iMean)).sum) / 10000
  let s1 := setBudget s p { b with slots := slots, slotNo := s.scl.steps / 100, heatLog := log, heat := heat }
  ((s1.wr (SCL_PMEAS_I_MEAN p) (min 65535 cur)).wr (SCL_PMEAS_H_MEAN p) (min 65535 (heat / 10000))).wr (SCL_PENERGY_E_WIN p)
    (min (2 ^ 32 - 1) (slots.sum / 1000000000))

/-- I_GRACE in steps, at least one; in DEEP rounded up to whole 64 ms steps (R317, R330). -/
def grace (s : State) : Nat := max 1 ((s.rd SCL_CFG_I_GRACE + stepMs s - 1) / stepMs s)

/-- The budget bits in PAR_BUDGET. -/
def showBits (s : State) (p bs : Nat) : State :=
  (List.range 3).foldl (fun t j => t.put (PAR_BUDGET_DERATING p j) (bit bs j)) s

/-- The lowest number of a list that satisfies a test, by a measure. -/
def lowest (l : List Chan) (f : Chan → Nat) : Option Chan :=
  l.foldl (fun a c => match a with | some d => if f c < f d then some c else a | none => some c) none

/-- One derating step (R318): every channel of the lowest rank above its floor falls by STEP. BUDGET_DERATE goes once
per excursion; with nothing to lower it names kind and index 0xFF. -/
def derate (s : State) (p bs : Nat) (vals : List (Nat × Nat)) : State :=
  let l := (deratable s p).filter (fun c => budFloor s c < (chn s c).budCeil)
  let hit := match lowest l (rankOf s) with | some d => l.filter (fun c => rankOf s c == rankOf s d) | none => []
  let s1 := hit.foldl (setCeil (fun c t => max (budFloor t c) ((chn t c).budCeil - t.rd SCL_CFG_STEP))) s
  let s2 := if hit.isEmpty then s1 else s1.bump SCL_CNT_DERATE_STEPS 1
  if (budget s p).raised then s2
  else
    let k := if bit bs 0 then 0 else if bit bs 1 then 1 else 2
    let v := budgetUnits k (vals.getD k (0, 0))
    let first := match hit.head? with | some c => [byte c.kind, byte c.idx] | none => [0xFF, 0xFF]
    setBudget (raise s2 80 false [p] ([byte p, byte bs] ++ first ++ leBytes 4 v.1 ++ leBytes 4 v.2)) p
      { budget s2 p with raised := true }

/-- A shed channel is off until its owner's next descriptor (R163, R319). -/
def shed (s : State) (p bs : Nat) : State :=
  let s0 := setBudget s p { budget s p with shedWait := 10 }
  match lowest (deratable s0 p) (rankOf s0) with
  | none => s0
  | some c =>
    let s1 := cutOff s0 c 4 OK
    let s2 := setChn s1 c { chn s1 c with cmd := .off, retry := none, kept := true }
    raise s2 81 true [p, 0] [byte p, byte bs, 2, byte c.kind, byte c.idx]

/-- Escalation (R163, R319, R330): a partition whose channels are all at their floors for ESC_T is reset, and P0 or the
safety partition sheds its channels 10 ms apart; not while the control die is lost. -/
def escalate (s : State) (p bs : Nat) (e : PartEntry) : State :=
  let b := budget s p
  let l := deratable s p
  if 0 < b.shedWait then
    (if b.shedWait ≤ stepMs s then shed s p bs else setBudget s p { b with shedWait := b.shedWait - stepMs s })
  else if l.isEmpty || l.any (fun c => budFloor s c < (chn s c).budCeil) then setBudget s p { b with floorFor := 0 }
  else
    let s1 := setBudget s p { b with floorFor := b.floorFor + stepMs s }
    if b.floorFor < e.escT * 10 ∨ s.pwr.cd == .lost then s1
    else
      let s2 := (setBudget s1 p { b with floorFor := 0 }).bump (PAR_BUDGET_ESCALATIONS p) 1
      if p = 0 ∨ safetyPart s = some p then shed s2 p bs
      else beginReset (raise s2 81 true [p, 0] [byte p, byte bs, 1, 0xFF, 0xFF]) p 4

/-- Restoring (R319): the highest rank below 100 % rises by STEP, first after 100 ms below and then every 10 ms. -/
def restoreStep (s : State) (p : Nat) (below : Bool) : State :=
  let b := budget s p
  let n := if below then b.below + stepMs s else 0
  let s1 := setBudget s p { b with below := n, raised := false, floorFor := 0, shedWait := 0 }
  if 100 ≤ n ∧ n % 10 < stepMs s then
    let l := (charged s1 p).filter (fun c => (chn s1 c).budCeil < 100)
    match lowest l (fun c => 255 - rankOf s1 c) with
    | some d => (l.filter (fun c => rankOf s1 c == rankOf s1 d)).foldl
        (setCeil (fun c t => min 100 ((chn t c).budCeil + t.rd SCL_CFG_STEP))) s1
    | none => s1
  else s1

/-- One partition's budgets in one step. -/
def budgetStep (x : ScalerIn) (s0 : State) (p : Nat) : State :=
  match entryOf s0 p with
  | none => s0
  | some e =>
    let s1 := chargeHeat s0 x p
    let vals := budgetVals s1 x p e
    let exceeded (k : Nat) : Bool := let v := vals.getD k (0, 0); v.2 != 0 && v.2 < 100 * v.1
    let b := budget s1 p
    let s := setBudget s1 p { b with overI := if exceeded 0 then b.overI + 1 else 0 }
    let bs := (if exceeded 0 && grace s ≤ b.overI + 1 then 1 else 0) + (if exceeded 1 then 2 else 0)
      + (if exceeded 2 then 4 else 0)
    let below := vals.all (fun v => v.2 == 0 || 10000 * v.1 < s.rd SCL_CFG_RESTORE_PCT * v.2)
    let t := showBits s p bs
    if s.scl.pinned then t
    else if bs = 0 then restoreStep t p below
    else escalate (derate (setBudget t p { budget t p with below := 0 }) p bs vals) p bs e

/-! ### The package (R315, R316) -/

/-- PKG_W in µW, as P0 has trimmed it (R326). -/
def pkgLimit (s : State) : Nat := min (s.rd SCL_PKG_PKG_W) (s.rd SCL_PKG_TRIM_PKG_TRIM) * 100000

/-- PKG_DERATE to P0 and the safety partition. -/
def pkgEvent (s : State) (x : ScalerIn) (cause : Nat) : State :=
  raise s 83 true (p0Safety s) ([byte cause, byte (s.rd SCL_STATUS_PKG_FACTOR)]
    ++ leBytes 2 (min 65535 (s.scl.pkgLog.sum / max 1 s.scl.pkgLog.length / 10000))
    ++ leBytes 2 (intBits 16 x.hot) ++ [byte x.sensor])

/-- The package factor's move in one step: down 5 each 10 ms while a cause stands, up 5 each 100 ms of clear; `mean` is the
window's power and `cause` names what stands. -/
def pkgMove (s : State) (x : ScalerIn) (mean cause : Nat) : State :=
  let g := s.rd SCL_STATUS_PKG_FACTOR
  if s.scl.pinned then s
  else if cause ≠ 0 then
    if s.scl.pkgPhase ≤ stepMs s then
      let t := ({ s with scl := { s.scl with pkgPhase := 10, pkgBelow := 0 } }).wr SCL_STATUS_PKG_FACTOR
        (if g ≤ s.rd SCL_PKG_PKG_FLOOR then g else max (s.rd SCL_PKG_PKG_FLOOR) (g - 5))
      if g = 100 ∧ t.rd SCL_STATUS_PKG_FACTOR < 100 then pkgEvent (t.bump SCL_CNT_PKG_EPISODES 1) x cause else t
    else { s with scl := { s.scl with pkgPhase := s.scl.pkgPhase - stepMs s, pkgBelow := 0 } }
  else
    let ok := 100 * mean < s.rd SCL_CFG_RESTORE_PCT * pkgLimit s && decide (x.hot < (2 * s.rd SCL_PKG_TJ_KNEE : Int) - 20)
    let n := if ok then s.scl.pkgBelow + stepMs s else 0
    let t := { s with scl := { s.scl with pkgPhase := 0, pkgBelow := n } }
    if g < 100 ∧ 100 ≤ n ∧ n % 100 < stepMs s then
      let u := t.wr SCL_STATUS_PKG_FACTOR (min 100 (g + 5))
      if 100 ≤ g + 5 then pkgEvent u x 0 else u
    else t

/-- The package factor in one step (R315): 5 points down every 10 ms while over budget, 5 up every 100 ms once both
conditions have held for 100 ms. -/
def pkgStep (s0 : State) (x : ScalerIn) : State :=
  let total := (allChans.map (chHeat s0 x)).sum + x.supply
  let log := (total :: s0.scl.pkgLog).take ((999 + stepMs s0) / stepMs s0)
  let mean := log.sum / log.length
  let s := { s0 with scl := { s0.scl with pkgLog := log } }.wr SCL_STATUS_PKG_P (min 4095 (mean / 10000))
  let knee : Int := 2 * s.rd SCL_PKG_TJ_KNEE
  let cause := (if pkgLimit s < mean then 1 else 0) + (if knee ≤ x.hot then 2 else 0)
  let s1 := pkgMove s x mean cause
  s1.put SCL_STATUS_PKG_ACTIVE (cause != 0 || s1.rd SCL_STATUS_PKG_FACTOR < 100)

/-! ### Solenoid learning (R263, R323) -/

/-- One channel's update in the step after its KERF segment; nothing changes while LEARN_FREEZE is set. -/
def learnStep (s0 : State) (n : Nat) : State :=
  let c : Chan := ⟨3, n⟩
  match (chn s0 c).learnDue with
  | none => s0
  | some time =>
    let s := setChn s0 c { chn s0 c with learnDue := none }
    let res := s.rd (SV_STATE_KERF_RES n)
    if bit (s.rd SCL_RUN_LEARN_FREEZE) n then s
    else if 0 < s.rd (SV_LSTATE_BACKOFF n) then s.wr (SV_LSTATE_BACKOFF n) (s.rd (SV_LSTATE_BACKOFF n) - 1)
    else if res = 1 then
      let obs : Int := s.rd (SV_KRES_KERF_T n) + 10 * s.rd (SV_LEARN_LMARGIN n)
      let old : Int := s.rd (SV_LSTATE_T_LEARN n)
      let t := if s.flag (SV_LSTATE_LVALID n) then old + (obs - old) / 8 else obs
      ((s.wr (SV_LSTATE_T_LEARN n) (clamp (time * s.rd (SV_LEARN_LMIN_PCT n) / 100) time t.toNat)).put
        (SV_LSTATE_LVALID n) true).bump (SV_LSTATE_LCOUNT n) 1
    else if res = 2 ∨ res = 3 then
      raise ((((s.put (SV_LSTATE_LVALID n) false).wr (SV_LSTATE_LCOUNT n) 0).wr (SV_LSTATE_BACKOFF n) 4).bump SV_CNT2_LEARN_RESETS 1) 85 false
        [ownerOr0 s 3 n] ([byte n, byte res] ++ leBytes 2 (s.rd (SV_KRES_KERF_T n)) ++ leBytes 2 (s.rd (SV_LSTATE_T_LEARN n)))
    else s

/-! ### The step, restarts, storms and overload windows -/

/-- The scaler's timer at a step: the grid of 1 ms, of 64 ms in DEEP, that runs from the power-on reset on (R312, R578). -/
def nextStep (s : State) : Nat :=
  let n := max (s.scl.steps + 1) (s.now * 1000 / 32768)
  if s.pwr.ps = .deep then (n + 63) / 64 * 64 else n

/-- The feeds' voltages are kept for the battery compensation of the next periods (R218). -/
def keepFeeds (s : State) (x : ScalerIn) : State :=
  { s with scl := { s.scl with steps := nextStep s, feeds := [(0, x.feed0), (1, x.feed1), (2, x.feed2), (3, x.feed3)].filter (·.2 != 0) } }

/-- SCALER_STEP (R312): one evaluation, unless an injection skips it (R526). -/
def execScalerStep (x : ScalerIn) (s : State) : Res :=
  .next (if s.pwr.ps = .off then s
    else if s.flt.skip then
      { ((keepFeeds s x).wr EVT_INJ_STATUS_PENDING 0).bump EVT_INJ_STATUS_DONE 1 with flt := { s.flt with skip := false, inj := none } }
    else
      let s1 := x.chans.foldl showMeas (keepFeeds s x)
      let s2 := allChans.foldl (wireStep x) s1
      let s3 := (List.range 8).foldl (budgetStep x) s2
      let s4 := (List.range 8).foldl learnStep (pkgStep s3 x)
      allChans.foldl showCh s4)

/-- After three restarts within 1 s the scaler holds every budget ceiling and the package factor at its floor. -/
def pinFloors (s : State) : State :=
  let s1 := allChans.foldl (setCeil (fun c t => min (chn t c).budCeil (budFloor t c))) s
  let s2 := { s1 with scl := { s1.scl with pinned := true } }.wr SCL_STATUS_PKG_FACTOR (s.rd SCL_PKG_PKG_FLOOR)
  allChans.foldl showCh s2

/-- SCALER_RESTART (R313): cause 1 missed step, 2 measurement missing, 3 microcode check. Ceilings and models hold. -/
def execScalerRestart (cause : Fin 4) (s : State) : Res :=
  let l := (s.now :: s.scl.restarts).filter (fun t => s.now - t < 32768)
  let pay := [byte cause.val, byte (min 255 l.length)]
  let s1 := ({ s with scl := { s.scl with restarts := l } }).bump SCL_CNT_SCL_RESTARTS 1
  let s2 := tally (raise s1 87 true [0] pay) 16 pay
  .next (if s.pwr.ps = .off then s else if 3 ≤ l.length then pinFloors s2 else s2)

/-- A retry's wait was paused in the storm: what it had waited before the storm still counts. -/
def resumeWait (s : State) (c : Chan) : State :=
  let x := chn s c
  if x.retry.isSome then setChn s c { x with retryAt := s.now - (s.scl.stormAt - x.retryAt) } else s

/-- STORM_END (R320): after STORM_HOLD the paused waits continue. -/
def execStormEnd (s : State) : Res :=
  .next (if s.flag SCL_STATUS_STORM && lasted s s.scl.stormAt (1000000 * s.rd SCL_RETRY_STORM_HOLD) then
      raise ((allChans.foldl resumeWait s).put SCL_STATUS_STORM false) 86 false [0] [3]
    else s)

/-- The loss counts of a window as OVERLOAD_SUSTAINED carries them (Table 14.6). -/
def ovlPayload (state : Nat) (cnt : List Nat) (contrib : Nat) : List Byte :=
  [byte state, byte ((List.range 4).foldl (fun a i => if cnt.getD i 0 = 0 then a else a + 2 ^ i) 0)]
    ++ cnt.flatMap (fun n => leBytes 2 (min 65535 n)) ++ [byte contrib]

/-- A set of partitions as a mask. -/
def partMask (l : List Nat) : Nat := (List.range 8).foldl (fun a p => if l.contains p then a + 2 ^ p else a) 0

/-- LOSS_WINDOW_END (R324, R325): while the control die is lost no counts arrive and the state holds. -/
def execLossWindowEnd (s : State) : Res := whileCd s <|
  let cnt := (List.range 4).map (fun i => tabGet 0 s.scl.loss i)
  let total := cnt.sum
  let parts := s.scl.lossParts
  let s0 := ({ s with scl := { s.scl with loss := [], lossParts := [] } }).wr SCL_OVL_CNT_WIN_LOSS (min 65535 total)
  if total ≠ 0 then
    let s1 := { s0 with scl := { s0.scl with clean := 0 } }
    if s.flag SCL_STATUS_OVL then s1
    else
      let s2 := { (s1.put SCL_STATUS_OVL true).bump SCL_OVL_CNT_OVL_EPISODES 1 with
        scl := { s1.scl with ovlParts := parts } }
      raise s2 84 false (0 :: parts.filter (· != 0)) (ovlPayload 1 cnt (partMask parts))
  else if s.flag SCL_STATUS_OVL then
    let n := s.scl.clean + 1
    if s.rd SCL_OVL_OVL_CLEAR ≤ n then
      raise ({ s0.put SCL_STATUS_OVL false with scl := { s0.scl with clean := 0, ovlParts := [] } }) 84 false
        (0 :: s.scl.ovlParts.filter (· != 0)) (ovlPayload 0 cnt (partMask s.scl.ovlParts))
    else { s0 with scl := { s0.scl with clean := n } }
  else s0

end Sys2Proof.Machine
end

