-- ==== Sys2Proof/Machine/Switch.lean ====
section
/-! DEFINITION.
The switch (chapters 15 and 16): MACsec, the fixed bypass rows, VLAN and class, the forwarding table with learning and
aging, admission, transmission order, and the NET descriptors. A frame is its bytes from the destination address on,
without FCS; its length counts the FCS.
-/

namespace Sys2Proof.Machine

/-- The switch runs: in RUN and IDLE, and in SLEEP with HOLD_FABRIC at 1 (R353). -/
def switchUp (s : State) : Bool :=
  cdUp s && (s.pwr.ps == .run || (s.pwr.ps == .sleep && s.flag PWR_CTL_HOLD_FABRIC))

/-! ### Addresses and tags (R114, R335) -/

/-- Destination and source address. -/
def dstOf (f : List Byte) : Nat := beAt f 0 6
def srcOf (f : List Byte) : Nat := beAt f 6 6

/-- A group address. -/
def isGroup (mac : Nat) : Bool := bit mac 40

/-- The frame carries a first tag with TPID 0x8100. -/
def tagged (f : List Byte) : Bool := beAt f 12 2 == 0x8100

/-- The EtherType after such a tag, and where the frame's content begins. -/
def etypeOf (f : List Byte) : Nat := if tagged f then beAt f 16 2 else beAt f 12 2
def contentAt (f : List Byte) : Nat := if tagged f then 18 else 14

/-- The frame without that tag. -/
def untag (f : List Byte) : List Byte := if tagged f then f.take 12 ++ f.drop 16 else f

/-- The frame with a tag. -/
def addTag (f : List Byte) (tci : Nat) : List Byte := f.take 12 ++ [0x81, 0x00] ++ beBytes 2 tci ++ f.drop 12

/-- A Zilek frame, and its type (R114, Table 5.1). -/
def isZilek (s : State) (f : List Byte) : Bool := etypeOf f == s.rd CHN_ZCFG_ETYPE
def zilekType (f : List Byte) : Nat := leAt f (contentAt f) 1 % 16

/-- The group address of all units, and the unit's own address. -/
abbrev zilekGroup : Nat := 0x034F5A00003F
def ownMac (s : State) : Nat := 0x024F5A000000 + ownAddr s

/-- TCI, VID and PCP of a frame: of its first 0x8100 tag, and of the ingress port where that says nothing (R335). -/
def vidOf (s : State) (port : Nat) (f : List Byte) : Nat :=
  if tagged f ∧ beAt f 14 2 % 4096 ≠ 0 then beAt f 14 2 % 4096 else s.rd (SW_PORT_CFG_PVID port)
def tciOf (s : State) (port : Nat) (f : List Byte) : Nat :=
  (if tagged f then beAt f 14 2 / 4096 * 4096 else s.rd (SW_PORT_CFG_DEF_PCP port) * 8192) + vidOf s port f

/-- The class of a PCP; class 6 is Zilek's alone. -/
def classOf (s : State) (pcp : Nat) : Nat := let c := s.rd (SW_PCPMAP_CLASS pcp); if c = 6 then 5 else c

/-- A VLAN's settings; ZVID has C0, C1 and INT as members. -/
def vlanOf (s : State) (vid : Nat) : Vlan :=
  let v := tabGet {} s.sw.vlans vid
  if vid = s.rd CHN_ZCFG_ZVID then { v with member := 0x83, valid := true } else v

/-! ### MACsec (R364 to R367) -/

/-- A frame that uses the uncontrolled port (Table 16.4). -/
def uncontrolled (s : State) (f : List Byte) : Bool :=
  (dstOf f == 0x0180C2000003 && etypeOf f == 0x888E) || dstOf f == 0x0180C200000E
    || (isZilek s f && (zilekType f == 0 || zilekType f == 7))

/-- The full PN behind the 32 bits of a frame, recovered from the lowest acceptable PN under XPN (IEEE 802.1AE). -/
def fullPn (lowest low : Nat) : Nat :=
  let hi := lowest / 2 ^ 32
  if 2 ^ 31 ≤ lowest % 2 ^ 32 ∧ low < 2 ^ 31 then (hi + 1) * 2 ^ 32 + low else hi * 2 ^ 32 + low

/-- What the verification of a received frame answers: a counter of Table 16.8, or the frame with whether it was
verified. -/
inductive MsecIn where
  | drop (ctr : Nat)
  | pass (f : List Byte) (verified : Bool)
  deriving DecidableEq, Repr

/-- The length of a frame's SecTAG, its EtherType included. -/
def secTagLen (f : List Byte) : Nat := if bit (leAt f 14 1) 5 then 16 else 8

/-- The SecTAG is invalid under IEEE 802.1AE: a version bit, ES or SCB beside SC, E without C or C without E, a short
length of 48 or more, a zero PN, or no room for the ICV (log entry 32). -/
def secTagBad (s : State) (p : Nat) (f : List Byte) : Bool :=
  let t := leAt f 14 1
  bit t 7 || (bit t 5 && (bit t 6 || bit t 4)) || (bit t 3 != bit t 2) || 48 ≤ leAt f 15 1
    || (beAt f 16 4 == 0 && !xpn s p) || f.length < 12 + secTagLen f + 16
    || (bit t 5 && beAt f 20 8 != s.rd (SW_MSEC_PEER_PEER_SCI p))

/-- Table 16.5, in its order; the second part is the state with the lowest acceptable PN advanced. -/
def msecVerify (s : State) (p : Nat) (f : List Byte) : MsecIn × State :=
  if !s.flag (SW_MSEC_CFG_MSEC_EN p) then (.pass f false, s)
  else if beAt f 12 2 ≠ 0x88E5 then (if uncontrolled s f then (.pass f false, s) else (.drop 20, s))
  else if secTagBad s p f then (.drop 21, s)
  else
    let t := leAt f 14 1
    let k := p * 4 + t % 4
    match tabFind s.sw.rxSa k with
    | none => (.drop 22, s)
    | some a =>
      let n := 12 + secTagLen f
      let pn := if xpn s p then fullPn a.pn (beAt f 16 4) else beAt f 16 4
      let nonce := msecNonce s p a (s.rd (SW_MSEC_PEER_PEER_SCI p)) pn
      let body := f.drop n
      let opened := if bit t 3 then Config.gcmOpen a.key nonce (f.take n) body
        else (Config.gcmOpen a.key nonce (f.take (f.length - 16)) (f.drop (f.length - 16))).map
          (fun _ => body.take (body.length - 16))
      match opened with
      | none => (.drop 23, s)
      | some d =>
        if s.flag (SW_MSEC_CFG_REPLAY_PROTECT p) ∧ pn < a.pn then (.drop 24, s)
        else (.pass (f.take 12 ++ d) true,
          { s with sw := { s.sw with rxSa := tabPut s.sw.rxSa k { a with pn := max a.pn (pn + 1 - s.rd (SW_MSEC_WIN_REPLAY_WIN p)) } } })

/-- A frame as a MACsec port sends it (R367): protected with the SA in use, or none when there is no usable one. -/
def msecProtect (s : State) (p : Nat) (f : List Byte) : Option (List Byte) × State :=
  if !s.flag (SW_MSEC_CFG_MSEC_EN p) || uncontrolled s f then (some f, s)
  else match msecSeal s p f with
    | (o, t, warn) => (o, if warn then raise t 47 false [0] [byte p, byte (s.rd (SW_MSEC_STAT_TX_AN p))] else t)

/-! ### The forwarding table (R339 to R345) -/

/-- The bucket of a key. -/
def bucketOf (s : State) (mac vid : Nat) : Nat :=
  crc32cInit (BitVec.ofNat 32 (s.rd SW_SALT_HASH_SALT)) (beBytes 6 mac ++ beBytes 2 vid) % 4096

/-- ENTRIES and STATIC_CNT follow the table. -/
def showTable (s : State) : State :=
  (s.wr SW_STATUS_ENTRIES s.sw.table.length).wr SW_STATUS_STATIC_CNT (s.sw.table.filter (fun e => e.2.static)).length

/-- Set or remove an entry. -/
def setEnt (s : State) (i : Nat) (e : Option TblEnt) : State :=
  showTable { s with sw := { s.sw with table := match e with | some x => tabPut s.sw.table i x | none => tabDel s.sw.table i } }

/-- The ways of a bucket, and the index of the entry of a key. -/
def waysOf (s : State) (mac vid : Nat) : List Nat := (List.range 4).map (fun w => 4 * bucketOf s mac vid + w)
def findEnt (s : State) (mac vid : Nat) : Option (Nat × TblEnt) :=
  (waysOf s mac vid).findSome? (fun i => match tabFind s.sw.table i with
    | some e => if e.mac = mac ∧ e.vid = vid then some (i, e) else none
    | none => none)

/-- The age clock, and an entry's age (R344). -/
def ageClock (s : State) : Nat := (s.now - s.sw.ageBase) / 32768 % 65536
def ageOf (s : State) (e : TblEnt) : Nat := (ageClock s + 65536 - e.age) % 65536

/-- An entry moves to another port; 16 moves within 1 s are reported, once per 10 s and VLAN (R341). -/
def moveEnt (s : State) (i : Nat) (e : TblEnt) (port : Nat) : State :=
  let l := (s.now :: e.moves).filter (fun t => s.now - t < 32768)
  let s1 := swCount (setEnt s i (some { e with port := port, age := ageClock s, moves := l })) 12 0 0 1
  let quiet := match tabFind s.sw.storms e.vid with | some t => decide (327680 ≤ s.now - t) | none => true
  if 16 ≤ l.length && quiet then
    raise { s1 with sw := { s1.sw with storms := tabPut s1.sw.storms e.vid s.now } } 46 false [0]
      (leBytes 6 e.mac ++ leBytes 2 e.vid)
  else s1

/-- A full bucket and a new sender (Table 15.6). -/
def insertFull (s : State) (pol : Nat) (x : TblEnt) : State :=
  let s1 := swCount s 11 0 0 1
  let dyn := (waysOf s x.mac x.vid).filterMap (fun i => match tabFind s.sw.table i with
    | some e => if e.static then none else some (i, e)
    | none => none)
  match pol, dyn with
  | 1, d :: ds =>
    let old := ds.foldl (fun a b => if ageOf s a.2 < ageOf s b.2 then b else a) d
    setEnt s1 old.1 (some x)
  | 2, d :: ds => setEnt (freeNext s1) ((((d :: ds)[(freeDraw s1).toNat % (ds.length + 1)]?).getD d).1) (some x)
  | _, _ => s1

/-- The switch learns a sender (R341, R342). -/
def learnSa (s : State) (port vid sa : Nat) : State :=
  let v := vlanOf s vid
  if isGroup sa || !s.flag (SW_PORT_CFG_LEARN_EN port) || !v.vlearn || port == 7 then s
  else match findEnt s sa vid with
  | some (i, e) =>
    if e.port = port then setEnt s i (some { e with age := ageClock s })
    else if e.static then swCount s 13 0 0 1
    else moveEnt s i e port
  | none =>
    let x : TblEnt := ⟨sa, vid, port, ageClock s, false, false, []⟩
    match (waysOf s sa vid).find? (fun i => (tabFind s.sw.table i).isNone) with
    | some i => setEnt s i (some x)
    | none => insertFull s v.insPol x

/-- Where a frame goes (R340), and whether it is discarded as SAME_PORT. -/
def lookup (s : State) (port vid da : Nat) : List Nat × Bool :=
  let m := (vlanOf s vid).member
  let ports (mask : Nat) : List Nat := (List.range 8).filter (fun p => bit mask p && bit m p && p != port)
  match if da = 0xFFFFFFFFFFFF then none else findEnt s da vid with
  | some (_, e) =>
    if e.mcast then (ports e.port, false)
    else if e.port = port then ([], true)
    else (ports (2 ^ e.port), false)
  | none => (ports 0x7F, false)

/-! ### Admission (R346, R347) -/

/-- A frame on its way through the switch: untagged bytes, VID, TCI, class, ingress port, receive flags, a fixed owner at
the host port, a tag that is always sent, and its destinations. -/
structure Plan where
  frame : List Byte
  vid : Nat
  tci : Nat
  cls : Nat
  port : Nat
  rflags : Nat
  owner : Option Nat := none
  keepTag : Bool := false
  dests : List Nat
  deriving DecidableEq, Repr

/-- The bytes that leave on a port. -/
def leaves (s : State) (k : Plan) (port : Nat) : List Byte :=
  if k.keepTag || !bit (vlanOf s k.vid).untag port then addTag k.frame k.tci else k.frame

/-- The VLAN's owner, and whether that is the safety partition. -/
def vidOwner (s : State) (vid : Nat) : Option Nat := ownerOf s 12 vid
def vidSafe (s : State) (vid : Nat) : Bool :=
  match vidOwner s vid with | some p => safetyPart s == some p | none => false

/-- Admit one copy to a queue, when a rule of R347 has room. -/
def admitPort (s : State) (k : Plan) (port : Nat) : Option State :=
  let b := leaves s k port
  (admitBy s port k.cls (cellsFor (b.length + 4)) (vidSafe s k.vid)).map (fun (g, p, r) =>
    setQueue s port k.cls (queueOf s port k.cls ++
      [⟨b, g, p, r, k.tci, k.port, k.rflags, k.owner <|> vidOwner s k.vid⟩]))

/-- One copy of a frame that did not come from HOST: a frame for the host port on an unowned VLAN is dropped there
(R145), and a copy without room is tail-dropped. -/
def copyTo (k : Plan) (s : State) (port : Nat) : State :=
  if port = 6 ∧ (k.owner <|> vidOwner s k.vid).isNone then swCount s 5 6 0 1
  else match admitPort s k port with
    | some t => t
    | none => swDrop s 8 port k.cls 1 (vidOwner s k.vid).toList

/-- A copy admitted, or kept waiting (R337). -/
def sendCopy (k : Plan) (w : TxWait × State) (port : Nat) : TxWait × State :=
  let b := leaves w.2 k port
  if w.2.rd SW_CFG_MAX_FRAME < b.length + 4 then
    ({ w.1 with left := w.1.left.filter (· != port), long := true }, swCount w.2 4 port 0 1)
  else match admitPort w.2 k port with
    | some t => ({ w.1 with left := w.1.left.filter (· != port), mask := w.1.mask + 2 ^ port }, t)
    | none => w

/-- A TX ends with the mask admitted and its class. -/
def endTx (s : State) (w : TxWait) (st : Nat) : State :=
  complete { s with sw := { s.sw with tx := s.sw.tx.filter (fun x => x.hdr != w.hdr) } } NET w.hdr 1 st
    [byte w.mask, byte w.cls]

/-- A waiting TX admits what it can, and ends once no copy is left (R337). -/
def pushTx (s : State) (w : TxWait) : State :=
  let k : Plan := ⟨w.frame, w.vid, w.tci, w.cls, 6, 0, none, false, w.left⟩
  let r := w.left.foldl (sendCopy k) (w, s)
  let s1 := { r.2 with sw := { r.2.sw with tx := r.2.sw.tx.map (fun x => if x.hdr == w.hdr then r.1 else x) } }
  if r.1.left.isEmpty then endTx s1 r.1 (if r.1.mask = 0 ∧ r.1.long then BAD_FIELD else OK) else s1

/-- Waiting TXs use the room that has come free, oldest first. -/
def retryTx (s : State) : State := s.sw.tx.foldl pushTx s

/-! ### The path of a frame (R333 to R335, R340, R341, R359 to R362) -/

/-- Rows 1 to 6 of Table 15.2: what a frame that is taken aside does, or none when no row matches. The empty plan says
that it is dropped. -/
def aside (s : State) (port : Nat) (f : List Byte) : Option (Option Plan) :=
  let da := dstOf f
  let chain := port < 2
  let k : Plan := ⟨untag f, vidOf s port f, tciOf s port f, 6, port, 0, none, false, [7]⟩
  let pcp := classOf s (tciOf s port f / 8192)
  if isZilek s f ∧ da = ownMac s then some (some k)
  else if isZilek s f ∧ da = zilekGroup ∧ chain then
    if zilekType f = 0 then some (some k)
    else some (some { k with vid := s.rd CHN_ZCFG_ZVID, tci := 6 * 8192 + s.rd CHN_ZCFG_ZVID, keepTag := true, dests := [7, 1 - port] })
  else if da = 0x0180C200000E ∧ chain then some (some { k with cls := pcp })
  else if da = 0x0180C2000003 ∧ etypeOf f = 0x888E ∧ chain then some (some { k with cls := pcp, owner := some 0, dests := [6] })
  else if da / 16 = 0x0180C200000 then some none
  else none

/-- The stages from Table 15.2 to the lookup: the state with what they count and learn, and where the frame goes. -/
def route (s : State) (port : Nat) (f : List Byte) (rflags : Nat) : State × Option Plan :=
  let pk := parse f
  match aside s port f with
  | some none => (swCount s 6 port 0 1, none)
  | some (some k) =>
    if dstOf f = 0x0180C200000E ∧ pk.mal then (swCount s 18 port 0 1, none)
    else (s, some { k with rflags := rflags + (if pk.mal then 1 else 0) + (if pk.trunc then 2 else 0) })
  | none =>
    let vid := vidOf s port f
    let v := vlanOf s vid
    if !v.valid || !bit v.member port then (swCount s 5 port 0 1, none)
    else
      let s1 := if pk.trunc then swCount s 17 port 0 1 else s
      let s2 := if pk.mal then swCount s1 18 port 0 1 else s1
      let go := lookup s2 port vid (dstOf f)
      let s3 := learnSa s2 port vid (srcOf f)
      let z := isZilek s f
      if pk.acf then (swCount s3 19 port 0 1, none)
      else
        let c := classOf s (tciOf s port f / 8192)
        match if z then some 6 else ruleClass s port vid pk c with
        | none => (swCount s3 16 port 0 1, none)
        | some cls =>
          let s4 := if go.2 then swCount s3 7 port 0 1 else s3
          (s4, some ⟨untag f, vid, tciOf s port f, cls, port,
            rflags + (if pk.mal then 1 else 0) + (if pk.trunc then 2 else 0), none, false, go.1⟩)

/-- A frame at an engaged bypass (R125): it passes to the other port, but for a MAINT frame to the unit's own address, which the
spar core takes; one to address 63 with the unit's UID does both. -/
def bypassFrame (s : State) (port : Nat) (f : List Byte) : State :=
  match if isZilek s f ∧ zilekType f = 7 then parseZilek (f.drop (contentAt f)) else none with
  | some z =>
    let s1 := if forUnit s z then emit s (.sparFrame port f) else s
    if z.dst = ownAddr s then s1 else emit s1 (.bypassed (1 - port) f)
  | none => emit s (.bypassed (1 - port) f)

/-- FRAME_RECEIVE (R125, R333, R366): a frame arrives whole on C0, C1 or S0 to S3. -/
def execFrameReceive (port : Fin 6) (frame : List Byte) (fcsOk : Bool) (s : State) : Res :=
  let p := port.val
  .next (if p < 2 ∧ s.pwr.ldUp ∧ bypassed s then bypassFrame s p frame
    else if !switchUp s || !ldLink s || (p < 2 && s.chain.cut) then s
    else
      let n := frame.length + 4
      let s1 := swCount (swCount s 0 p 0 1) 1 p 0 n
      let msec := p < 2 && s.flag (SW_MSEC_CFG_MSEC_EN p)
      if !fcsOk ∨ n < 64 ∨ s.rd SW_CFG_MAX_FRAME + (if msec then 32 else 0) < n then swCount s1 4 p 0 1
      else match if p < 2 then msecVerify s1 p frame else (.pass frame false, s1) with
        | (.drop ctr, s2) => swCount s2 ctr p 0 1
        | (.pass f ok, s2) =>
          if f.length + 4 < 64 ∧ !ok ∨ s.rd SW_CFG_MAX_FRAME < f.length + 4 then swCount s2 4 p 0 1
          else match route s2 p f (if ok then 4 else 0) with
            | (s3, none) => s3
            | (s3, some k) => k.dests.foldl (copyTo k) s3)

/-! ### Transmission (R349 to R351) -/

/-- The rate of a port in Mb/s (Table 15.1). -/
def rateOf (s : State) (p : Nat) : Nat :=
  match p with
  | 0 => (match s.rd CHN_PORT_CFG_RATE0 with | 0 => 2500 | 1 => 5000 | _ => 10000)
  | 1 => (match s.rd CHN_PORT_CFG_RATE1 with | 0 => 2500 | 1 => 5000 | _ => 10000)
  | 6 => 20000 | 7 => 10000 | _ => 10

/-- The time of a frame of so many bytes without FCS, its preamble included, in nanoseconds. -/
def txNs (s : State) (p n : Nat) : Nat := (n + 12) * 8000 / rateOf s p

/-- The length a frame has on a port's wire, without FCS. -/
def wireLen (s : State) (p : Nat) (f : List Byte) : Nat :=
  if p < 2 ∧ s.flag (SW_MSEC_CFG_MSEC_EN p) ∧ !uncontrolled s f then
    f.length + (if s.flag (SW_MSEC_CFG_INCLUDE_SCI p) then 32 else 24) else f.length

/-- GATE_ENTRY (R351): the entry in progress has ended, and the one that (DT − BASE) mod CYCLE falls in takes effect until its
end. -/
def execGateEntry (port : Fin 2) (s : State) : Res :=
  let p := port.val
  .next (if !switchUp s then s
    else match if gated s p then gateByTime s p else none with
      | some x => { s with sw := { s.sw with gates := tabPut s.sw.gates p x } }
      | none => { s with sw := { s.sw with gates := tabDel s.sw.gates p } })

/-- The lengths of a list's entries. -/
def gateSpans : Nat → List (Nat × Nat) → List (Nat × Nat)
  | _, [] => []
  | t, (e, g) :: r => (e - t, g) :: gateSpans e r

/-- How long a class stays open over consecutive entries. -/
def openSpan (cls : Nat) : List (Nat × Nat) → Nat
  | [] => 0
  | (d, g) :: r => if bit g cls then d + openSpan cls r else 0

/-- A class's gate is open long enough for a frame of so many nanoseconds. -/
def gateFits (s : State) (p cls ns : Nat) : Bool :=
  if !gated s p then true
  else match gateNow s p with
  | none => true
  | some (e, t) =>
    let l := gateSpans 0 (gateList s p)
    let g := (l.getD e (0, 0xFF)).2
    bit g cls && (l.all (fun x => bit x.2 cls) || ns ≤ (t - dtNow s) + openSpan cls (l.drop (e + 1) ++ l))

/-- A frame fits in some open interval of the list. -/
def gateEver (s : State) (p cls ns : Nat) : Bool :=
  let l := gateSpans 0 (gateList s p)
  !gated s p || l.all (fun x => bit x.2 cls)
    || (List.range l.length).any (fun e => ns ≤ openSpan cls (l.drop e ++ l.take e))

/-- Heads of a queue that fit in no open interval are dropped and counted (R351). -/
def gateDrop (p cls : Nat) : Nat → State → State
  | 0, s => s
  | n + 1, s =>
    match queueOf s p cls with
    | [] => s
    | q :: r =>
      if gateEver s p cls (txNs s p (wireLen s p q.bytes)) then s
      else gateDrop p cls n (swDrop (setQueue s p cls r) 9 p cls 1 q.owner.toList)

/-- A port's enabled slopes exceed 75 % of its rate (R350). -/
def shapeErr (s : State) (p : Nat) : Bool :=
  750 * rateOf s p
    < ((List.range 6).map (fun c => if s.flag (SW_CBS_CBS_EN p c) then s.rd (SW_CBS_IDLE_SLOPE p c) else 0)).sum

/-- The class is shaped: classes 0 to 5 of a chain port with CBS_EN, unless the port's slopes are in error (R350). -/
def shaped (s : State) (p cls : Nat) : Bool :=
  p < 2 && cls ≤ 5 && s.flag (SW_CBS_CBS_EN p cls) && !shapeErr s p

/-- SHAPE_ERR of both ports. -/
def showShape (s : State) : State :=
  [0, 1].foldl (fun t p => t.wr SW_STATUS_SHAPE_ERR (setBit (t.rd SW_STATUS_SHAPE_ERR) p (shapeErr t p))) s

/-- A class's credit, in 10^-6 bits. -/
def credit (s : State) (p cls : Nat) : Int := tabGet 0 s.sw.credits (p * 8 + cls)
def setCredit (s : State) (p cls : Nat) (v : Int) : State :=
  { s with sw := { s.sw with credits := tabSet 0 s.sw.credits (p * 8 + cls) v } }

/-- hiCredit and loCredit from MAX_FRAME and the port rate (IEEE 802.1Q, log entry 33). -/
def hiCredit (s : State) (p cls : Nat) : Int :=
  s.rd SW_CFG_MAX_FRAME * 8 * 1000000 * s.rd (SW_CBS_IDLE_SLOPE p cls) / (rateOf s p * 1000)
def loCredit (s : State) (p cls : Nat) : Int :=
  (s.rd SW_CFG_MAX_FRAME * 8 * 1000000 : Int) * (s.rd (SW_CBS_IDLE_SLOPE p cls) - rateOf s p * 1000) / (rateOf s p * 1000)

/-- Credits over `ns` in which a class does not send: it gains at IDLE_SLOPE while it waits or is below zero, and loses
what is above zero when its queue is empty. -/
def accrue (p ns : Nat) (s : State) (cls : Nat) : State :=
  if !shaped s p cls then s
  else
    let c := credit s p cls + s.rd (SW_CBS_IDLE_SLOPE p cls) * ns
    if (queueOf s p cls).isEmpty then setCredit s p cls (if credit s p cls ≤ 0 then min 0 c else 0)
    else setCredit s p cls (min c (hiCredit s p cls))

/-- The class that transmits next (R349). -/
def nextClass (s : State) (p : Nat) : Option Nat :=
  ((List.range 8).reverse).find? (fun c => match queueOf s p c with
    | [] => false
    | q :: _ => (!shaped s p c || decide (0 ≤ credit s p c)) && gateFits s p c (txNs s p (wireLen s p q.bytes)))

/-- A frame leaves the host port: into the oldest buffer that its owner has posted on ring 2 or 3 (R338). -/
def hostDeliver (s : State) (cls : Nat) (q : QFrame) : State :=
  match q.owner with
  | none => s
  | some p =>
    match s.sw.rx.find? (fun r => r.hdr.part.val == p && r.hdr.ring.val == (if cls < 4 then 2 else 3)) with
    | none => swDrop s 10 0 p 1 [p]
    | some r =>
      if r.size < q.bytes.length then swDrop s 10 0 p 1 [p]
      else
        let s1 := storeData { s with sw := { s.sw with rx := s.sw.rx.filter (· != r) } } p r.addr q.bytes
        complete s1 NET r.hdr 2 OK (leBytes 2 q.bytes.length ++ leBytes 2 q.tci ++ [byte q.port, byte q.rflags, byte cls, 0])

/-- A frame leaves on a port. -/
def sendOut (s : State) (p cls : Nat) (q : QFrame) : State :=
  let out (t : State) (b : List Byte) : State := emit (swCount (swCount t 2 p 0 1) 3 p 0 (b.length + 4)) (.frame p b)
  if p = 7 then emit (swCount (swCount s 2 7 0 1) 3 7 0 (q.bytes.length + 4)) (.endpoint q.port q.rflags q.bytes)
  else if p = 6 then hostDeliver (swCount (swCount s 2 6 0 1) 3 6 0 (q.bytes.length + 4)) cls q
  else if p < 2 then
    match msecProtect s p q.bytes with
    | (some b, t) => out t b
    | (none, t) => swCount t 25 p 0 1
  else out s q.bytes

/-- FRAME_TRANSMIT (R349 to R351): a port starts its next frame, `gap` nanoseconds after the end of its last one. -/
def execFrameTransmit (port : Fin 8) (gap : Nat) (s : State) : Res :=
  let p := port.val
  .next (if !switchUp s || (p < 6 && !ldLink s) || (p < 2 && (offChain s || !linkUp s p)) then s
    else
      let s1 := (List.range 8).foldl (fun t c => gateDrop p c (queueOf t p c).length t) ((List.range 6).foldl (accrue p gap) s)
      match nextClass s1 p with
      | none => retryTx s1
      | some c => match queueOf s1 p c with
        | [] => s1
        | q :: r =>
          let ns := txNs s1 p (wireLen s1 p q.bytes)
          let s2 := setQueue s1 p c r
          let s3 := ((List.range 6).filter (· != c)).foldl (accrue p ns) s2
          let s4 := if shaped s3 p c then
              setCredit s3 p c (max (loCredit s3 p c)
                (credit s3 p c + ((s3.rd (SW_CBS_IDLE_SLOPE p c) : Int) - rateOf s3 p * 1000) * ns)) else s3
          retryTx (sendOut s4 p c q))

/-- AGING_SCAN (R344): the expired dynamic entries go. -/
def execAgingScan (s : State) : Res :=
  let t := s.sw.table.filter (fun e => e.2.static || decide (ageOf s e.2 < s.rd SW_CFG_AGE_TIME))
  .next (if !switchUp s then s
    else swCount (showTable { s with sw := { s.sw with table := t } }) 14 0 0 (s.sw.table.length - t.length))

/-! ### The NET descriptors (R336 to R338, R345) -/

/-- TX (R337). -/
def execNetTx (h : DHdr) (b : List Byte) (s : State) : Res :=
  descr NET 1 h b s (fun t =>
    let len := leAt b 24 2
    let vid := leAt b 26 2
    let pcp := leAt b 28 1
    let ep := leAt b 29 1
    let p := h.part.val
    if bodyDirty b ((List.range 14).map (16 + ·)) || 4096 ≤ vid || 8 ≤ pcp then complete t NET h 1 RESERVED_NONZERO []
    else if 2 ≤ h.ring.val ∨ len < 60 ∨ t.rd SW_CFG_MAX_FRAME < len + 4 ∨ vid = 0 ∨ vid = 4095
        ∨ !(ep == 0xFF || ep == 0 || ep == 1) then complete t NET h 1 BAD_FIELD []
    else if vidOwner t vid ≠ some p then complete t NET h 1 NOT_OWNER []
    else withData t NET h 1 (leAt b 16 8) len (fun t f =>
        if p ≠ 0 ∧ (beAt f 12 2 = t.rd CHN_ZCFG_ETYPE ∨ dstOf f / 16 = 0x0180C200000 ∨ ep ≠ 0xFF) then
          complete t NET h 1 BAD_FIELD []
        else
          let tci := pcp * 8192 + vid
          let t1 := swCount (swCount t 0 6 0 1) 1 6 0 (len + 8)
          let r := if ep = 0xFF then route t1 6 (addTag f tci) 0
            else (t1, some ⟨f, vid, tci, classOf t pcp, 6, 0, none, false, [ep]⟩)
          let w : TxWait := match r.2 with
            | some k => { hdr := h, frame := k.frame, vid := k.vid, tci := k.tci, cls := k.cls, left := k.dests, since := t.now }
            | none => { hdr := h, frame := f, vid := vid, tci := tci, cls := classOf t pcp, left := [], since := t.now }
          pushTx { r.1 with sw := { r.1.sw with tx := r.1.sw.tx ++ [w] } } w))

/-- TX_TIMEOUT (R337): the oldest waiting TX has waited TX_TMO; what it has admitted is sent. -/
def execTxTimeout (s : State) : Res := whileCd s <|
  match s.sw.tx with
  | [] => s
  | w :: _ => if lasted s w.since (1000 * s.rd SW_TX_TX_TMO) then endTx s w TX_TIMEOUT else s

/-- RX_BUF of NET (R338) or, with `bus`, of BUS (R388): one receive buffer is posted. -/
def execRxBuf (bus : Bool) (h : DHdr) (b : List Byte) (s : State) : Res :=
  let eng := if bus then BUS else NET
  let op := if bus then 3 else 2
  descr eng op h b s (fun t =>
    let size := leAt b 24 2
    if bodyDirty b ((List.range 10).map (16 + ·)) then complete t eng h op RESERVED_NONZERO []
    else if h.ring.val < 2 ∨ size < 64 ∨ (if bus then 4096 else 2048) < size then complete t eng h op BAD_FIELD []
    else match translate t h.part.val (leAt b 16 8) size 1 with
      | none => completeFault t eng h op (leAt b 16 8)
      | some a =>
        if bus then { t with sub := { t.sub with rx := t.sub.rx ++ [⟨h, a, size⟩] } }
        else { t with sw := { t.sw with rx := t.sw.rx ++ [⟨h, a, size⟩] } })

/-- FLUSH (R336, R345). -/
def execFlushTable (h : DHdr) (b : List Byte) (s : State) : Res :=
  descr NET 3 h b s (fun t =>
    let port := leAt b 16 1
    let vid := leAt b 18 2
    if h.part.val ≠ 0 then complete t NET h 3 BAD_OPCODE []
    else if bodyDirty b [16, 18, 19] then complete t NET h 3 RESERVED_NONZERO []
    else if 2 ≤ h.ring.val ∨ (8 ≤ port ∧ port ≠ 0xFF) ∨ (4096 ≤ vid ∧ vid ≠ 0xFFFF) then complete t NET h 3 BAD_FIELD []
    else
      let t1 := flushDynamic t (fun e => (port == 0xFF || e.port == port) && (vid == 0xFFFF || e.vid == vid))
      complete t1 NET h 3 OK (leBytes 2 (t.sw.table.length - t1.sw.table.length)))

/-! ### SW_TBL_CMD (R343) -/

/-- A table command runs until the next tick (TBL_BUSY, Table 15.9). -/
def tblRuns (s : State) : State := s.put SW_STATUS_TBL_BUSY true

/-- READ: an entry that is not valid reads as zeros. -/
def tblRead (s0 : State) : State :=
  let s := tblRuns s0
  let e := tabFind s.sw.table (s.rd SW_TBL_IDX_INDEX)
  let x := e.getD ⟨0, 0, 0, 0, false, false, []⟩
  let s1 := ((s.wr SW_TBL_DATA0_MAC_LO (x.mac % 2 ^ 32)).wr SW_TBL_DATA1_MAC_HI (x.mac / 2 ^ 32)).wr SW_TBL_DATA1_VID x.vid
  let s2 := ((s1.wr SW_TBL_DATA2_PORT x.port).wr SW_TBL_DATA2_AGE x.age).put SW_TBL_DATA2_VALID e.isSome
  (s2.put SW_TBL_DATA2_STATIC x.static).put SW_TBL_DATA2_MCAST x.mcast

/-- WRITE: a static entry before seal, at most 512 of them. -/
def tblWrite (s : State) : State :=
  let i := s.rd SW_TBL_IDX_INDEX
  let was := match tabFind s.sw.table i with | some e => e.static | none => false
  if isSealed s ∨ !s.flag SW_TBL_DATA2_STATIC then violate s
  else if !s.flag SW_TBL_DATA2_VALID then setEnt (tblRuns s) i none
  else if !was ∧ 512 ≤ (s.sw.table.filter (fun e => e.2.static)).length then (tblRuns s).put SW_STATUS_STATIC_FULL true
  else setEnt (tblRuns s) i (some ⟨s.rd SW_TBL_DATA1_MAC_HI * 2 ^ 32 + s.rd SW_TBL_DATA0_MAC_LO, s.rd SW_TBL_DATA1_VID,
    s.rd SW_TBL_DATA2_PORT, s.rd SW_TBL_DATA2_AGE, true, s.flag SW_TBL_DATA2_MCAST, []⟩)

/-- CLEAR: the addressed entry, before seal. -/
def tblClear (s : State) : State := if isSealed s then violate s else setEnt (tblRuns s) (s.rd SW_TBL_IDX_INDEX) none

/-- TBL_READ. -/
def execTblRead (w : Writer) (s : State) : Res := whileCd s <| if w = .safety then violate s else tblRead s

/-- TBL_WRITE. -/
def execTblWrite (w : Writer) (s : State) : Res := whileCd s <| if w = .safety then violate s else tblWrite s

/-- TBL_CLEAR. -/
def execTblClear (w : Writer) (s : State) : Res := whileCd s <| if w = .safety then violate s else tblClear s

end Sys2Proof.Machine
end

