-- ==== Sys2Proof/Machine/Subnets.lean ====
section
/-! DEFINITION.
The sub-networks (chapter 17): the segments' PLCA, the CAN and LIN buses, the BUS descriptors, receive records and the
tunnels with their IEEE 1722 messages.
-/

namespace Sys2Proof.Machine

/-! ### Segments (R373 to R375) -/

/-- A segment follows another coordinator. -/
def follower (s : State) (g : Nat) : Bool := s.flag (SUB_T1S_CFG_PLCA_EN g) && s.rd (SUB_T1S_CFG_LOCAL_ID g) != 0

/-- PLCA_STATUS changes, and the segment's owner learns it. -/
def plcaChange (s : State) (g : Nat) (st : Bool) : State :=
  raise (s.put (SUB_T1S_STAT_PLCA_STATUS g) st) 48 false [ownerOr0 s 7 g] [byte g, byte (if st then 1 else 0)]

/-- PLCA_BEACON_LOSS (R374). -/
def execPlcaBeaconLoss (seg : Fin 4) (s : State) : Res := whileCd s <|
  if follower s seg.val && s.flag (SUB_T1S_STAT_PLCA_STATUS seg.val) then plcaChange s seg.val false else s

/-- PLCA_BEACON_RETURN (R374). -/
def execPlcaBeaconReturn (seg : Fin 4) (s : State) : Res := whileCd s <|
  if follower s seg.val && !s.flag (SUB_T1S_STAT_PLCA_STATUS seg.val) then plcaChange s seg.val true else s

/-- T1S_SLEEP_REQ (R375): in RUN it is reported, and acknowledged or answered as a node that is not ready. -/
def execT1sSleepReq (seg : Fin 4) (s : State) : Res := whileCd s <|
  if s.pwr.ps = .run then
    emit (raise s 49 false [ownerOr0 s 7 seg.val] [byte seg.val]) (.sleepAck (2 + seg.val) (s.flag (SUB_T1S_CFG_SLEEP_OK seg.val)))
  else s

/-! ### Frames as the record of Table 17.4 holds them from offset 24 -/

/-- Its header and data. -/
def busBytes (id len rflags bus sdt vcid af : Nat) (data : List Byte) : List Byte :=
  leBytes 4 id ++ leBytes 2 len ++ [byte rflags, byte bus, byte sdt, byte vcid, 0, 0] ++ leBytes 4 af ++ data

/-- Its fields. -/
def msgId (m : List Byte) : Nat := leAt m 0 4 % 2 ^ 29
def msgLen (m : List Byte) : Nat := leAt m 4 2
def msgFlags (m : List Byte) : Nat := leAt m 6 1
def msgFmt (m : List Byte) : Nat := msgFlags m % 4
def msgEff (m : List Byte) : Bool := bit (msgFlags m) 2
def msgData (m : List Byte) : List Byte := m.drop 16

/-- The order of arbitration: the 11 base bits, a base frame before an extended one, then the 18 extended bits. -/
def arbKey (m : List Byte) : Nat :=
  if msgEff m then (msgId m / 2 ^ 18) * 2 ^ 19 + 2 ^ 18 + msgId m % 2 ^ 18 else msgId m % 2048 * 2 ^ 19

/-- A data length the format allows (Table 17.3). -/
def lenOk (fmt len : Nat) : Bool :=
  match fmt with
  | 0 => len ≤ 8
  | 1 => len ≤ 8 || [12, 16, 20, 24, 32, 48, 64].contains len
  | _ => 1 ≤ len && len ≤ 2048

/-- A bus has the format enabled. -/
def fmtOn (s : State) (k fmt : Nat) : Bool :=
  match fmt with | 0 => true | 1 => s.flag (SUB_CAN_CFG_FD_EN k) | _ => s.flag (SUB_CAN_CFG_XL_EN k)

/-! ### Tunnels out (R389 to R391) -/

/-- A tunnel. -/
def tunAt (s : State) (t : Nat) : Tun := tabGet {} s.sub.tuns t
def setTun (s : State) (t : Nat) (x : Tun) : State := { s with sub := { s.sub with tuns := tabSet {} s.sub.tuns t x } }

/-- Zero bytes up to a whole quadlet. -/
def quadPad (l : List Byte) : List Byte := l ++ List.replicate ((4 - l.length % 4) % 4) 0

/-- An ACF message: type and length in quadlets over its bytes from offset 2 on. -/
def acf (typ : Nat) (rest : List Byte) : List Byte :=
  let r := quadPad ([0, 0] ++ rest)
  beBytes 2 (typ * 512 + r.length / 4) ++ r.drop 2

/-- The pad count of a payload. -/
def padCount (n : Nat) : Nat := (4 - n % 4) % 4

/-- The bus message of a frame (Table 17.5): `sync` sets mtv, `time` is the timestamp. -/
def busMsg (brief sync : Bool) (time : Nat) (m : List Byte) : List Byte :=
  let d := msgData m
  let f := msgFlags m
  let b (i : Nat) (v : Nat) : Nat := if bit f i then v else 0
  let mtv := if sync then 32 else 0
  let pad := padCount d.length * 64
  let bus := leAt m 7 1 + 1
  match msgFmt m with
  | 3 => acf 3 ([byte (pad + mtv + bus), byte (msgId m)] ++ beBytes 8 time ++ d)
  | 2 => acf 0x78 ([byte bus, byte (b 6 1)] ++ beBytes 8 time ++ beBytes 2 (msgId m % 2048) ++ [byte (leAt m 8 1), byte (leAt m 9 1)]
      ++ beBytes 4 (leAt m 12 4) ++ beBytes 2 d.length ++ [0, 0] ++ d)
  | fmt =>
    let fl := pad + mtv + b 4 16 + b 2 8 + b 3 4 + (if fmt = 1 then 2 else 0) + b 5 1
    if brief then acf 2 ([byte fl, byte bus] ++ beBytes 4 (msgId m) ++ d)
    else acf 1 ([byte fl, byte bus] ++ beBytes 8 time ++ beBytes 4 (msgId m) ++ d)

/-- A tunnel sends what it has queued as one AVTP frame from the internal port (R389). -/
def tunSend (s : State) (t : Nat) : State :=
  let x := tunAt s t
  if x.msgs.isEmpty then s
  else
    let n := x.msgs.length
    let tci := s.rd (SUB_TUN_CFG_PCP t) * 8192 + s.rd (SUB_TUN_CFG_TVID t)
    let f := beBytes 6 (s.rd (SUB_TUN_DA_DA t)) ++ beBytes 6 (ownMac s) ++ [0x22, 0xF0, 0x82, byte (128 + n / 256), byte n, byte x.txSeq]
      ++ beBytes 6 (ownMac s) ++ beBytes 2 (s.rd (SUB_TUN_MAP_TX_UID t)) ++ x.msgs
    let s1 := setTun s t { x with msgs := [], txSeq := (x.txSeq + 1) % 256 }
    let k : Plan := ⟨f, s.rd (SUB_TUN_CFG_TVID t), tci, classOf s (s.rd (SUB_TUN_CFG_PCP t)), 7, 0, none, true,
      (List.range 2).filter (fun c => bit (s.rd (SUB_TUN_CFG_EPORT t)) c)⟩
    k.dests.foldl (copyTo k) (swCount (swCount s1 0 7 0 1) 1 7 0 (f.length + 8))

/-- A frame of so many message bytes fits in one tagged frame of MAX_FRAME (R391). -/
def tunFits (s : State) (n : Nat) : Bool := 12 + n + 22 ≤ s.rd SW_CFG_MAX_FRAME

/-- A tunnel takes one bus frame with its brand (R390, R391). -/
def tunTake (b : Brand) (m : List Byte) (s : State) (t : Nat) : State :=
  let one := acf 0x79 ([0, 0] ++ brandNet b) ++ busMsg (s.flag (SUB_TUN_CFG_BRIEF t)) (dtStatus s == 2) b.time m
  if !tunFits s one.length then s.bump SUB_CNT1_TUN_TOOBIG 1
  else
    let s1 := if tunFits s ((tunAt s t).msgs.length + one.length) then s else tunSend s t
    let s2 := setTun s1 t { tunAt s1 t with msgs := (tunAt s1 t).msgs ++ one }
    if s.rd (SUB_TUN_CFG_HOLD t) = 0 then tunSend s2 t else s2

/-- Every enabled tunnel whose BUSMASK holds a bus takes the frame. -/
def tunnelOut (s : State) (busBit : Nat) (b : Brand) (m : List Byte) : State :=
  ((List.range 8).filter (fun t => s.flag (SUB_TUN_CFG_EN t) && bit (s.rd (SUB_TUN_MAP_BUSMASK t)) busBit)).foldl (tunTake b m) s

/-- TUNNEL_FLUSH (R390): HOLD has passed since the first queued message. -/
def execTunnelFlush (tun : Fin 8) (s : State) : Res := whileCd s (tunSend s tun.val)

/-! ### Receive records (R388) -/

/-- The brand of a received frame, and its stream after it (R388, R396 to R398). -/
def busBrand (s : State) (local_ : Nat) (x : BusStream) (m : List Byte) : Brand × BusStream :=
  let y := if x.run then x else { run := true, stream := ownAddr s * 1024 + local_ }
  let ep := s.rd SPR_DT_STATUS_EPOCH
  (stamp ⟨y.stream, brandFlags (dtStatus s) y.gap false (x.run && x.epoch != ep) (!x.run), 0, y.seq, dtNow s, m.length, 0⟩ [] m,
    { y with seq := (y.seq + 1) % 2 ^ 32, gap := false, epoch := ep })

/-- A record goes into the oldest posted buffer of the owner's ring; the answer says whether one took it. -/
def deliver (s : State) (kind idx ring : Nat) (b : Brand) (m : List Byte) : State × Bool :=
  let r := brandMem b ++ m
  match s.sub.rx.find? (fun x => ownerOf s kind idx == some x.hdr.part.val && x.hdr.ring.val == ring) with
  | none => (s.bump SUB_CNT0_RX_NOBUF 1, false)
  | some x =>
    if x.size < r.length then (s.bump SUB_CNT0_RX_NOBUF 1, false)
    else
      let s1 := storeData { s with sub := { s.sub with rx := s.sub.rx.filter (· != x) } } x.hdr.part.val x.addr r
      (complete s1 BUS x.hdr 3 OK (leBytes 2 r.length ++ [byte kind, byte idx]), true)

/-! ### CAN (R376 to R379, R387) -/

/-- After a change of its counters: the bus shows its state, and a change among error-active, error-passive and bus-off
is reported to the owner (R378). -/
def canChange (k old : Nat) (s : State) : State :=
  let s1 := showCan s k
  let st := s1.rd (SUB_CAN_STAT_STATE k)
  if st = old ∨ st = 0 ∨ old = 0 then s1
  else raise s1 50 false [ownerOr0 s1 8 k] [byte k, byte st, byte (s1.rd (SUB_CAN_STAT_TEC k)), byte (s1.rd (SUB_CAN_STAT_REC k))]

/-- A bus enters bus-off: its frames end, and recovery starts at once with BO_AUTO (R378, R386, R393). -/
def busOff (s : State) (k : Nat) : State :=
  let s1 := endCan s k BUS_OFF
  setCan s1 k { canAt s1 k with off := true, recovering := s1.flag (SUB_CAN_CFG_BO_AUTO k) }

/-- A transmit error adds 8 to TEC; beyond 255 the bus is off (ISO 11898-1). -/
def txError (s : State) (k : Nat) : State :=
  let n := s.rd (SUB_CAN_STAT_TEC k) + 8
  let s1 := s.wr (SUB_CAN_STAT_TEC k) (min 255 n)
  if 255 < n then busOff s1 k else s1

/-- A successful reception lowers REC: by one, or from the passive range to a value from 119 to 127 that the standard
leaves open (log entry 1). -/
def rxGood (s : State) (k : Nat) : State :=
  let r := s.rd (SUB_CAN_STAT_REC k)
  if 127 < r then (freeNext s).wr (SUB_CAN_STAT_REC k) (119 + (freeDraw s).toNat % 9) else s.wr (SUB_CAN_STAT_REC k) (r - 1)

/-- The first enabled filter that matches (R379); MASK bits at 1 compare (log entry 36). -/
def filterOf (s : State) (k : Nat) (m : List Byte) : Option Nat :=
  (List.range 32).find? (fun f => s.flag (SUB_CAN_FLT0_EN k f) && s.flag (SUB_CAN_FLT0_EFF k f) == msgEff m
    && (s.rd (SUB_CAN_FLT0_ID k f) &&& s.rd (SUB_CAN_FLT1_MASK k f)) == (msgId m &&& s.rd (SUB_CAN_FLT1_MASK k f)))

/-- A received frame: filtered, branded, delivered and tunnelled (R379, R388). -/
def canReceive (s : State) (k : Nat) (m : List Byte) : State :=
  match filterOf s k m with
  | none => s.bump SUB_CNT0_FILT_MISS 1
  | some f =>
    let r := busBrand s (128 + k) (canAt s k).rx m
    let s1 := setCan s k { canAt s k with rx := r.2 }
    let d := if s.flag (SUB_CAN_FLT1_DELIVER k f) then deliver s1 8 k 2 r.1 m else (s1, true)
    let s2 := if d.2 then d.1 else setCan d.1 k { canAt d.1 k with rx := { (canAt d.1 k).rx with gap := true } }
    if s.flag (SUB_CAN_FLT1_TUNNEL k f) then tunnelOut s2 k r.1 m else s2

/-- The frames that compete for a bus: the heads of rings 0 and 1 and of the ingress queue (R387). -/
def contenders (s : State) (k : Nat) : List (Option CanPend × List Byte) :=
  let b := canAt s k
  let head (r : Nat) : List (Option CanPend × List Byte) :=
    ((b.pend.find? (fun x => x.hdr.ring.val == r)).map (fun x => (some x, x.msg.bytes))).toList
  head 0 ++ head 1 ++ (b.ingress.head?.map (fun x => (none, x.bytes))).toList

/-- The one with the lowest identifier; an earlier one in the list wins a tie. -/
def winner (s : State) (k : Nat) : Option (Option CanPend × List Byte) :=
  (contenders s k).foldl (fun a x => match a with
    | none => some x
    | some y => if arbKey x.2 < arbKey y.2 then some x else a) none

/-- The frame that has failed once ends when it is SINGLE_SHOT (R386). -/
def failOnce (s : State) (k : Nat) : State :=
  match winner s k with
  | some (some x, _) =>
    if x.single then
      complete (setCan s k { canAt s k with pend := (canAt s k).pend.filter (fun y => y.hdr != x.hdr) }) BUS x.hdr 1 TX_TIMEOUT []
    else s
  | _ => s

/-- A SLEEP that waits for the frame in transmission waits no longer once that frame has failed. -/
def sleepAfter (ev : CanEv) (k : Nat) (s : State) : State :=
  match ev with | .txError => sleepDue s k | .arbitrationLost => sleepDue s k | _ => s

/-- CAN_FRAME_RX (R378, R379): what the controller of a bus meets, `frame` being the record's bytes from offset 24. -/
def execCanFrameRx (bus : Fin 4) (ev : CanEv) (s : State) : Res :=
  let k := bus.val
  let old := s.rd (SUB_CAN_STAT_STATE k)
  .next (if !canRuns s k || (canAt s k).off then s
    else sleepAfter ev k (match ev with
      | .frame m =>
        let fmt := msgFmt m
        if fmt = 3 ∨ !fmtOn s k fmt ∨ !lenOk fmt (msgLen m) then s
        else canChange k old (canReceive (rxGood s k) k (padTo (16 + (if bit (msgFlags m) 4 then 0 else msgLen m)) m))
      | .rxError => canChange k old (s.bump (SUB_CAN_STAT_REC k) 1)
      | .rxErrorDominant => canChange k old (s.bump (SUB_CAN_STAT_REC k) 8)
      | .txError => canChange k old (txError (failOnce s k) k)
      | .arbitrationLost => failOnce s k))

/-- BUSOFF_RECOVERED (R378): 128 occurrences of 11 recessive bits have ended a recovery that was started. -/
def execBusoffRecovered (bus : Fin 4) (s : State) : Res :=
  let k := bus.val
  .next (if canRuns s k && (canAt s k).off && (canAt s k).recovering then
      canChange k 3 ((((setCan s k { canAt s k with off := false, recovering := false }).wr (SUB_CAN_STAT_TEC k) 0).wr
        (SUB_CAN_STAT_REC k) 0))
    else s)

/-- CAN_TX (R386, Table 17.3). -/
def execCanTx (h : DHdr) (b : List Byte) (s : State) : Res :=
  descr BUS 1 h b s (fun t =>
    let k := leAt b 16 1
    let fmt := leAt b 17 1
    let fl := leAt b 18 1
    let id := leAt b 20 4
    let len := leAt b 24 2
    let inl := bit fl 5
    let eff := bit fl 0
    let rtr := bit fl 2
    let no (st : Nat) : State := complete t BUS h 1 st []
    if bodyDirty b ([16, 17, 18] ++ (List.range 20).map (20 + ·)) || 64 ≤ fl || 2 ^ 29 ≤ id then no RESERVED_NONZERO
    else if 2 ≤ h.ring.val || 4 ≤ k || 3 ≤ fmt || !lenOk fmt len || (inl && 8 < len) || (rtr && fmt != 0)
        || (bit fl 1 && fmt == 0) || (bit fl 4 && fmt != 2) || (eff && fmt == 2) || (!eff && 2048 ≤ id)
        || (fmt != 2 && (leAt b 26 2 != 0 || leAt b 28 4 != 0)) then no BAD_FIELD
    else if ownerOf t 8 k ≠ some h.part.val then no NOT_OWNER
    else if !fmtOn t k fmt then no BAD_FIELD
    else
      let n := if rtr then 0 else len
      let send (u : State) (d : List Byte) : State :=
        if (canAt u k).off then complete u BUS h 1 BUS_OFF []
        else if (canAt u k).sleepFor.isSome then complete u BUS h 1 TX_TIMEOUT []
        else
          let rf := fmt + (if eff then 4 else 0) + (if bit fl 1 then 8 else 0) + (if rtr then 16 else 0) + (if bit fl 4 then 64 else 0)
          let m := busBytes id len rf k (leAt b 26 1) (leAt b 27 1) (leAt b 28 4) d
          setCan u k { canAt u k with pend := (canAt u k).pend ++ [⟨h, ⟨m, arbKey m⟩, bit fl 3, u.now⟩] }
      if inl || n == 0 then send t (slice b 32 n) else withData t BUS h 1 (leAt b 32 8) n send)

/-- A bus has sent its frame: the sender's TEC falls, and its descriptor completes (R386). -/
def canSent (s : State) (k : Nat) : State :=
  match winner s k with
  | none => s
  | some (x, m) =>
    let old := s.rd (SUB_CAN_STAT_STATE k)
    let s1 := emit (s.wr (SUB_CAN_STAT_TEC k) (s.rd (SUB_CAN_STAT_TEC k) - 1)) (.can k m)
    let b := canAt s1 k
    canChange k old (match x with
      | some p => complete (setCan s1 k { b with pend := b.pend.filter (fun y => y.hdr != p.hdr) }) BUS p.hdr 1 OK []
      | none => setCan s1 k { b with ingress := b.ingress.drop 1 })

/-- BUS_FRAME_SENT (R386): of a CAN bus, or of the LIN_TX in the present slot. -/
def execBusFrameSent (lin : Bool) (bus : Fin 6) (s : State) : Res :=
  let k := bus.val
  .next (if lin then
      match (linAt s k).current with
      | some x =>
        if linRuns s k && x.publish then complete (setLin s k { linAt s k with current := none }) BUS x.hdr 2 OK [] else s
      | none => s
    else if canRuns s k && !(canAt s k).off && !s.flag (SUB_CAN_CFG_LISTEN k) then sleepDue (canSent s k) k
    else s)

/-- BUS_TX_TIMEOUT (R386): the oldest pending frame of a bus has waited TX_TMO. -/
def execBusTxTimeout (lin : Bool) (bus : Fin 6) (s : State) : Res := whileCd s <|
  let k := bus.val
  if lin then
    let b := linAt s k
    let due (x : LinPend) : Bool := lasted s x.since (1000 * s.rd (SUB_LIN_CFG_TX_TMO k))
    match b.current, b.insert with
    | some x, _ => if due x then complete (setLin s k { b with current := none }) BUS x.hdr 2 TX_TIMEOUT [] else s
    | none, x :: r => if due x then complete (setLin s k { b with insert := r }) BUS x.hdr 2 TX_TIMEOUT [] else s
    | none, [] => s
  else
    match (canAt s k).pend with
    | x :: r =>
      if lasted s x.since (1000 * s.rd (SUB_CAN_CFG_TX_TMO k)) then
        sleepDue (complete (setCan s k { canAt s k with pend := r }) BUS x.hdr 1 TX_TIMEOUT []) k
      else s
    | [] => s

/-! ### LIN (R380 to R383) -/

/-- The checksum kind of an ID: 60 and 61 are always classic. -/
def linClassic (id : Nat) (asked : Bool) : Bool := id == 60 || id == 61 || asked

/-- The response set for an ID. -/
def respOf (s : State) (l id : Nat) : Option (List Byte × Bool) := tabFind s.sub.resp (l * 64 + id)

/-- The first header after a wake pulse waits 100 ms (R383). -/
def wakeClear (s : State) (l : Nat) : Bool :=
  match (linAt s l).wakeAt with | some t => decide (msToTicks 100 ≤ s.now - t) | none => true

/-- The unit sends a header with the response its table holds, or the header only. -/
def sendOwn (s : State) (l id : Nat) : State :=
  let s1 := emit s (.linHeader l id)
  match respOf s l id with
  | some r => emit s1 (.linResponse l id (linClassic id r.2) r.1)
  | none => s1

/-- The next slot of a commander (R381): an inserted frame first, then the schedule's next entry. -/
def linNext (s : State) (l : Nat) : State :=
  let b := linAt s l
  match b.insert with
  | x :: r =>
    let aw := if x.publish then none else some (x.id, x.len, linClassic x.id x.classic)
    let s1 := emit (setLin s l { b with insert := r, current := some x, slot := true, awaits := aw }) (.linHeader l x.id)
    if x.publish then emit s1 (.linResponse l x.id (linClassic x.id x.classic) x.data) else s1
  | [] =>
    match b.sched[b.pos]? with
    | none => setLin s l { b with slot := false, pos := 0 }
    | some e =>
      let aw := if e.publish then none else some (e.id, e.len, linClassic e.id e.classic)
      let s1 := (setLin s l { b with slot := true, pos := (b.pos + 1) % b.sched.length, awaits := aw }).wr (SUB_LIN_STAT_SCHED_POS l) b.pos
      if e.publish then sendOwn s1 l e.id else emit s1 (.linHeader l e.id)

/-- What the slot that ends leaves open: an awaited response that never came counts, and a LIN_TX ends (R380, R386). -/
def linSlotEnd (s : State) (l : Nat) : State :=
  let b := linAt s l
  let s1 := if b.awaits.isSome then s.bump SUB_CNT3_LIN_ERR 1 else s
  let s2 := setLin s1 l { b with awaits := none, current := none, slot := false,
                                 sched := b.due.getD b.sched, pos := if b.due.isSome then 0 else b.pos, due := none }
  match b.current with
  | some x => complete s2 BUS x.hdr 2 (if x.publish then OK else NO_RESPONSE) []
  | none => s2

/-- LIN_SLOT (R381): the present slot, or the wait after a wake pulse, is over. -/
def execLinSlot (bus : Fin 6) (s : State) : Res :=
  let l := bus.val
  .next (if linRuns s l && s.rd (SUB_LIN_CFG_MODE l) == 0 && wakeClear s l then linNext (linSlotEnd s l) l else s)

/-- With no slot running, what has just been loaded starts at once. -/
def linKick (s : State) (l : Nat) : State :=
  if linRuns s l && !(linAt s l).slot && wakeClear s l then linNext (linSlotEnd s l) l else s

/-- LIN_TX (R381, R386, Table 17.3). -/
def execLinTx (h : DHdr) (b : List Byte) (s : State) : Res :=
  descr BUS 2 h b s (fun t =>
    let l := leAt b 16 1
    let id := leAt b 17 1
    let fl := leAt b 18 1
    let len := leAt b 19 1
    let no (st : Nat) : State := complete t BUS h 2 st []
    if bodyDirty b ([16, 17, 18, 19] ++ (List.range 8).map (24 + ·)) || 4 ≤ fl then no RESERVED_NONZERO
    else if 2 ≤ h.ring.val ∨ 6 ≤ l ∨ 64 ≤ id ∨ len < 1 ∨ 8 < len then no BAD_FIELD
    else if ownerOf t 9 l ≠ some h.part.val then no NOT_OWNER
    else if t.rd (SUB_LIN_CFG_MODE l) = 1 then no BAD_FIELD
    else
      let x : LinPend := ⟨h, id, bit fl 0, bit fl 1, len, slice b 24 len, t.now⟩
      linKick (setLin t l { linAt t l with insert := (linAt t l).insert ++ [x] }) l)

/-- A schedule entry of 4 bytes, and whether it is well formed. -/
def schedEntry (m : List Byte) (i : Nat) : LinEntry :=
  ⟨leAt m (4 * i) 1, bit (leAt m (4 * i + 1) 1) 0, bit (leAt m (4 * i + 1) 1) 1, leAt m (4 * i + 2) 1, leAt m (4 * i + 3) 1⟩
def entryOk (m : List Byte) (i : Nat) : Bool :=
  let e := schedEntry m i
  e.id < 64 && leAt m (4 * i + 1) 1 < 4 && 1 ≤ e.len && e.len ≤ 8 && 1 ≤ e.slot

/-- LIN_SCHED (R381): the table is copied now; it takes effect at the end of the current slot. -/
def execLinSched (h : DHdr) (b : List Byte) (s : State) : Res :=
  descr BUS 4 h b s (fun t =>
    let l := leAt b 16 1
    let sop := leAt b 17 1
    let n := leAt b 18 1
    let no (st : Nat) : State := complete t BUS h 4 st []
    if bodyDirty b ([16, 17, 18] ++ (List.range 8).map (24 + ·)) then no RESERVED_NONZERO
    else if 2 ≤ h.ring.val ∨ 6 ≤ l ∨ 2 ≤ sop ∨ (sop = 1 ∧ (n < 1 ∨ 64 < n)) then no BAD_FIELD
    else if ownerOf t 9 l ≠ some h.part.val then no NOT_OWNER
    else if t.rd (SUB_LIN_CFG_MODE l) = 1 then no BAD_FIELD
    else if sop = 0 then complete (linKick (setLin t l { linAt t l with due := some [] }) l) BUS h 4 OK []
    else withData t BUS h 4 (leAt b 24 8) (4 * n) (fun u m =>
      if !(List.range n).all (entryOk m) then complete u BUS h 4 BAD_FIELD []
      else complete (linKick (setLin u l { linAt u l with due := some ((List.range n).map (schedEntry m)) }) l) BUS h 4 OK []))

/-- Set or clear the response of an ID. -/
def setResp (s : State) (l id : Nat) (r : Option (List Byte × Bool)) : State :=
  { s with sub := { s.sub with resp := match r with | some x => tabPut s.sub.resp (l * 64 + id) x | none => tabDel s.sub.resp (l * 64 + id) } }

/-- LIN_RESP (R382, Table 17.3). -/
def execLinResp (h : DHdr) (b : List Byte) (s : State) : Res :=
  descr BUS 5 h b s (fun t =>
    let l := leAt b 16 1
    let id := leAt b 17 1
    let fl := leAt b 18 1
    let len := leAt b 19 1
    let no (st : Nat) : State := complete t BUS h 5 st []
    if bodyDirty b ([16, 17, 18, 19] ++ (List.range 8).map (24 + ·)) || 4 ≤ fl then no RESERVED_NONZERO
    else if 2 ≤ h.ring.val || 6 ≤ l || 64 ≤ id || (!bit fl 0 && (len < 1 || 8 < len)) then no BAD_FIELD
    else if ownerOf t 9 l ≠ some h.part.val then no NOT_OWNER
    else complete (setResp t l id (if bit fl 0 then none else some (slice b 24 len, bit fl 1))) BUS h 5 OK [])

/-- LIN_HEADER_RX (R382): a responder answers, or listens for the response. -/
def execLinHeaderRx (bus : Fin 6) (id : Fin 64) (s : State) : Res :=
  let l := bus.val
  .next (if !linRuns s l || s.rd (SUB_LIN_CFG_MODE l) == 0 then s
    else match respOf s l id.val with
      | some r => emit (setLin s l { linAt s l with awaits := none }) (.linResponse l id.val (linClassic id.val r.2) r.1)
      | none => setLin s l { linAt s l with awaits := some (id.val, 0, linClassic id.val false) })

/-- A received response: branded, delivered to ring 3, tunnelled with TUNNEL, and handed to a LIN_TX (R386, R388). -/
def linReceive (s : State) (l id : Nat) (classic : Bool) (data : List Byte) : State :=
  let m := busBytes id data.length (3 + if classic then 4 else 0) l 0 0 0 data
  let r := busBrand s (132 + l) (linAt s l).rx m
  let d := deliver (setLin s l { linAt s l with rx := r.2, awaits := none }) 9 l 3 r.1 m
  let s1 := if d.2 then d.1 else setLin d.1 l { linAt d.1 l with rx := { (linAt d.1 l).rx with gap := true } }
  let s2 := if s.flag (SUB_LIN_CFG_TUNNEL l) then tunnelOut s1 (4 + l) r.1 m else s1
  match (linAt s2 l).current with
  | some x => if x.publish then s2 else complete (setLin s2 l { linAt s2 l with current := none }) BUS x.hdr 2 OK (padTo 8 data)
  | none => s2

/-- LIN_RESPONSE_RX (R380): the awaited response is complete with its checksum right (`ok`), or it is not. -/
def execLinResponseRx (bus : Fin 6) (data : List Byte) (ok : Bool) (s : State) : Res :=
  let l := bus.val
  .next (match if linRuns s l then (linAt s l).awaits else none with
    | none => s
    | some (id, len, classic) =>
      if ok && 1 ≤ data.length && data.length ≤ 8 && (len == 0 || data.length == len) then linReceive s l id classic data
      else
        let s1 := (setLin s l { linAt s l with awaits := none, current := none }).bump SUB_CNT3_LIN_ERR 1
        match (linAt s l).current with
        | some x => complete s1 BUS x.hdr 2 NO_RESPONSE []
        | none => s1)

/-- LIN_GOTO_SLEEP (R383): a responder is told to sleep. -/
def execLinGotoSleep (bus : Fin 6) (s : State) : Res :=
  let l := bus.val
  .next (if !linRuns s l || s.rd (SUB_LIN_CFG_MODE l) == 0 then s
    else raise (showLin (setLin s l { linAt s l with asleep := true, awaits := none }) l) 51 false [ownerOr0 s 9 l] [byte l])

/-! ### BUS_CTL (R378, R383, R384) -/

/-- The shared checks of BUS_CTL, and what an operation does to a bus of kind 8 or 9. -/
def busCtl (h : DHdr) (b : List Byte) (s : State) (f : Nat → Nat → State → Option State) : Res :=
  descr BUS 6 h b s (fun t =>
    let kind := leAt b 16 1
    let i := leAt b 17 1
    let no (st : Nat) : State := complete t BUS h 6 st []
    if bodyDirty b [16, 17, 18] then no RESERVED_NONZERO
    else if 2 ≤ h.ring.val ∨ !(kind = 8 ∧ i < 4 ∨ kind = 9 ∧ i < 6) then no BAD_FIELD
    else if ownerOf t kind i ≠ some h.part.val then no NOT_OWNER
    else match f kind i t with
      | some u => complete u BUS h 6 OK []
      | none => no BAD_FIELD)

/-- ONLINE (R384). -/
def execBusOnline (h : DHdr) (b : List Byte) (s : State) : Res :=
  busCtl h b s (fun kind i t => some (
    if kind = 8 then showCan (setCan t i { canAt t i with asleep := false, offline := false }) i
    else showLin (setLin t i { linAt t i with asleep := false, offline := false }) i))

/-- OFFLINE (R385): the bus stops operating; its pending frames wait for TX_TMO. -/
def execBusOffline (h : DHdr) (b : List Byte) (s : State) : Res :=
  busCtl h b s (fun kind i t => some (
    if kind = 8 then showCan (dropIngress (setCan t i { canAt t i with offline := true }) i) i
    else showLin (setLin t i { linAt t i with offline := true }) i))

/-- A CAN bus is to sleep, but a frame is in transmission on it: every other pending frame ends, and the frame keeps the bus
(R384). -/
def sleepLater (s : State) (h : DHdr) (k : Nat) (x : Option CanPend × List Byte) : State :=
  let b := canAt s k
  let s1 := endCan (setCan s k { b with pend := b.pend.filter (fun y => some y.hdr != x.1.map (·.hdr)),
                                        ingress := if x.1.isNone then b.ingress.drop 1 else b.ingress }) k TX_TIMEOUT
  setCan s1 k { canAt s1 k with pend := x.1.toList, ingress := if x.1.isNone then b.ingress.take 1 else [], sleepFor := some h }

/-- SLEEP (R383, R384). Whether a frame that waits for the bus is in transmission is the world's: a free value (log entry 1). -/
def execBusSleep (h : DHdr) (b : List Byte) (s : State) : Res :=
  let k := leAt b 17 1
  match if leAt b 16 1 = 8 ∧ canRuns s k ∧ !(canAt s k).off ∧ !s.flag (SUB_CAN_CFG_LISTEN k) ∧ bit (freeDraw s).toNat 0
      then winner s k else none with
  | some x =>
    descr BUS 6 h b (freeNext s) (fun t =>
      if bodyDirty b [16, 17, 18] then complete t BUS h 6 RESERVED_NONZERO []
      else if 2 ≤ h.ring.val ∨ 4 ≤ k then complete t BUS h 6 BAD_FIELD []
      else if ownerOf t 8 k ≠ some h.part.val then complete t BUS h 6 NOT_OWNER []
      else sleepLater t h k x)
  | none => busCtl h b (freeNext s) (fun kind i t => some (if kind = 8 then sleepCan t i else sleepLin t i))

/-- WAKE (R383): a dominant pulse of 1.0 ms. -/
def execBusWake (h : DHdr) (b : List Byte) (s : State) : Res :=
  busCtl h b s (fun kind i t => some (emit (if kind = 9 then setLin t i { linAt t i with wakeAt := some t.now } else t) (.wakePulse kind i)))

/-- RECOVER (R378): of a CAN bus that waits in bus-off. -/
def execBusRecover (h : DHdr) (b : List Byte) (s : State) : Res :=
  busCtl h b s (fun kind i t => if kind = 8 then
      some (if (canAt t i).off then setCan t i { canAt t i with recovering := true } else t)
    else none)

/-! ### Tunnels in (R389, R392, R404 to R408) -/

/-- A bus message as received: its bus bit (0 to 3 K, 4 to 9 L), and the frame's bytes as rebuilt (R399). -/
structure AcfBus where
  bus : Nat
  msg : List Byte
  deriving DecidableEq, Repr

/-- The payload of an ACF message whose header has so many bytes, less its padding. -/
def acfPayload (m : List Byte) (hd pad : Nat) : Option (List Byte) :=
  if m.length < hd + pad then none else some (((m.drop hd).take (m.length - hd - pad)))

/-- A CAN message, its identifier at an offset and its payload after it. -/
def acfCan (m : List Byte) (idAt : Nat) : Option AcfBus :=
  let f := leAt m 2 1
  let k := leAt m 3 1 % 32
  let b (i v : Nat) : Nat := if bit f i then v else 0
  let fmt := b 1 1
  (acfPayload m (idAt + 4) (f / 64)).bind (fun d =>
    if k < 1 ∨ 4 < k then none
    else some ⟨k - 1, busBytes (beAt m idAt 4 % 2 ^ 29) d.length (fmt + b 3 4 + b 2 8 + b 4 16) (k - 1) 0 0 0 d⟩)

/-- An ACF message as a bus message; none for every other type, an unmapped bus id or lengths that contradict. -/
def acfDecode (m : List Byte) : Option AcfBus :=
  match beAt m 0 2 / 512 with
  | 1 => acfCan m 12
  | 2 => acfCan m 4
  | 3 =>
    let l := leAt m 2 1 % 32
    (acfPayload m 12 (leAt m 2 1 / 64)).bind (fun d =>
      if l < 1 ∨ 6 < l ∨ 64 ≤ leAt m 3 1 ∨ 8 < d.length then none
      else some ⟨3 + l, busBytes (leAt m 3 1) d.length 3 (l - 1) 0 0 0 d⟩)
  | 0x78 =>
    let k := leAt m 2 1 % 32
    let n := beAt m 20 2
    if k < 1 ∨ 4 < k ∨ m.length < 24 + n then none
    else some ⟨k - 1, busBytes (beAt m 12 2 % 2048) n (2 + (if bit (leAt m 3 1) 0 then 64 else 0)) (k - 1) (leAt m 14 1)
      (leAt m 15 1) (beAt m 16 4) (slice m 24 n)⟩
  | _ => none

/-- The check of R405 and R408 for a tunnel: a cause that drops the frame, or none, with whether data is missing
before it, and the stream's state afterwards. -/
def tunBrand (s : State) (t : Nat) (b : Brand) (res : Nat) (data : List Byte) : Option Nat × Bool × BrandState :=
  let x := tabGet {} s.brd.tun t
  if !brandSound b res [] data then (some BAD_CHECK, false, x)
  else if b.stream ≠ s.rd (BRD_TUN_EXP_STREAM t) then (some ORIGIN, false, x)
  else
    let next := if bit b.flags 5 then b.seq else x.next
    let d := (b.seq + 2 ^ 32 - next) % 2 ^ 32
    if 2 ^ 31 ≤ d then (some REORDER, false, { x with next := next })
    else
      let y : BrandState := { next := (b.seq + 1) % 2 ^ 32, tbase := if bit b.flags 4 then b.time else x.tbase }
      let age := s.rd (BRD_TUN_MAX_AGE t)
      if age ≠ 0 ∧ b.flags % 4 = 2 ∧ dtStatus s = 2 ∧ b.time + age * 100000 < dtNow s then (some STALE, false, y)
      else (none, 0 < d || bit b.flags 2, y)

/-- A bus takes part in ingress: mapped by the tunnel, ONLINE, not bus-off (R392). -/
def ingressOk (s : State) (t : Nat) (x : AcfBus) : Bool :=
  bit (s.rd (SUB_TUN_MAP_BUSMASK t)) x.bus &&
    (if x.bus < 4 then
      canRuns s x.bus && !(canAt s x.bus).off && fmtOn s x.bus (msgFmt x.msg) && lenOk (msgFmt x.msg) (msgLen x.msg)
        && (canAt s x.bus).ingress.length < 32 && (canAt s x.bus).sleepFor.isNone
    else linRuns s (x.bus - 4))

/-- An eligible bus message acts: it joins its bus's queue, or sets or clears a response. -/
def ingressTake (s : State) (t : Nat) (x : AcfBus) : State :=
  if !ingressOk s t x then s.bump SUB_CNT2_TUN_DROP 1
  else if x.bus < 4 then
    setCan s x.bus { canAt s x.bus with ingress := (canAt s x.bus).ingress ++ [⟨x.msg, arbKey x.msg⟩] }
  else setResp s (x.bus - 4) (msgId x.msg) (if (msgData x.msg).isEmpty then none else some (msgData x.msg, false))

/-- One ACF message of an accepted frame; `prev` is the brand message just before it. -/
def ingressMsg (t : Nat) (a : State × Option (Brand × Nat)) (m : List Byte) : State × Option (Brand × Nat) :=
  let s := a.1
  if beAt m 0 2 / 512 = 0x79 ∧ m.length = 28 then (s, some (brandOfNet (slice m 4 24), leAt m 23 1))
  else (match acfDecode m with
    | none => s.bump SUB_CNT2_TUN_DROP 1
    | some x =>
      if !s.flag (SUB_TUN_CFG_BRAND_REQ t) then ingressTake s t x
      else match a.2 with
        | none => s.bump SUB_CNT2_TUN_NOBRAND 1
        | some (b, res) =>
          let r := tunBrand s t b res x.msg
          let s1 := { s with brd := { s.brd with tun := tabSet {} s.brd.tun t r.2.2 } }
          match r.1 with
          | some cause => brandFault s1 3 cause 0 b.stream b.seq
          | none => ingressTake (if r.2.1 then brandFault s1 3 GAP 0 b.stream b.seq else s1) t x, none)

/-- The ACF messages of so many bytes. -/
def acfSplit : Nat → List Byte → List (List Byte)
  | 0, _ => []
  | n + 1, l =>
    let k := 4 * (beAt l 0 2 % 512)
    if l.isEmpty ∨ k = 0 then [] else l.take k :: acfSplit n (l.drop k)

/-- TUNNEL_INGRESS (R389, R392): a frame of EtherType 0x22F0, from its destination address on, that has reached the
internal port. -/
def execTunnelIngress (frame : List Byte) (s : State) : Res := whileCd s <|
  let f := untag frame
  let sub := leAt f 14 1
  let hd := if sub = TSCF then 24 else 12
  let n := if sub = TSCF then beAt f 34 2 else beAt f 15 2 % 2048
  let seq := leAt f (if sub = TSCF then 16 else 17) 1
  if beAt f 12 2 ≠ 0x22F0 ∨ !(sub = TSCF ∨ sub = NTSCF) ∨ f.length < 14 + hd + n then s.bump SUB_CNT1_TUN_NOMATCH 1
  else match (List.range 8).find? (fun t => s.flag (SUB_TUN_CFG_EN t) && s.flag (SUB_TUN_CFG_IN_EN t)
      && s.rd (SUB_TUN_RX_RX_STREAM t) == beAt f 18 8) with
    | none => s.bump SUB_CNT1_TUN_NOMATCH 1
    | some t =>
      let x := tunAt s t
      let s1 := match x.rxSeq with | some e => if e = seq then s else s.bump SUB_CNT3_TUN_SEQ_GAP 1 | none => s
      let s2 := setTun s1 t { x with rxSeq := some ((seq + 1) % 256) }
      ((acfSplit n (slice f (14 + hd) n)).foldl (ingressMsg t) (s2, none)).1

end Sys2Proof.Machine
end

