-- ==== Sys2Proof/Machine/Model.lean ====
section
/-! DEFINITION.
Model images of the inference engine (R423 to R426): their layout, the checks that refuse one, and the arithmetic of the
layers.
-/

namespace Sys2Proof.Machine

/-- The parts of a section's header and of a layer record (Table 19.3). -/
structure Layer where
  op : Nat
  flags : Nat
  inCh : Nat
  inW : Nat
  outCh : Nat
  kernel : Nat
  stride : Nat
  shift : Nat
  wOff : Nat
  wLen : Nat
  bOff : Nat
  deriving DecidableEq, Repr

/-- Layer i of a section. -/
def layerAt (sec : List Byte) (i : Nat) : Layer :=
  let o := 16 + 32 * i
  ⟨leAt sec o 1, leAt sec (o + 1) 1, leAt sec (o + 2) 2, leAt sec (o + 4) 2, leAt sec (o + 6) 2, leAt sec (o + 8) 1,
    leAt sec (o + 9) 1, leAt sec (o + 10) 1, leAt sec (o + 12) 4, leAt sec (o + 16) 4, leAt sec (o + 20) 4⟩

/-- A section's layers. -/
def layersOf (sec : List Byte) : List Layer := (List.range (leAt sec 0 2)).map (layerAt sec)

/-- The output width of a layer, and the width its kernel spans: all of the input for DENSE. -/
def span (l : Layer) : Nat := if l.op = 2 then l.inW else l.kernel
def outWidth (l : Layer) : Nat := if l.op = 2 then 1 else (l.inW - l.kernel) / l.stride + 1

/-- Element i of packed INT8 or INT16 values. -/
def elemAt (b : List Byte) (wide : Bool) (i : Nat) : Int :=
  if wide then signed 16 (leAt b (2 * i) 2) else signed 8 (leAt b i 1)

/-- The sum over a kernel window, and the bias. -/
def accumulate (sec : List Byte) (l : Layer) (x : List Int) (w oc : Nat) : Int :=
  let ws := sec.drop l.wOff
  let n := span l * l.inCh
  let sum := ((List.range n).map (fun k =>
    x.getD (w * l.stride * l.inCh + k) 0 * elemAt ws (bit l.flags 1) (oc * n + k))).sum
  sum + (if l.bOff = 0xFFFFFFFF then 0 else signed 32 (leAt sec (l.bOff + 4 * oc) 4))

/-- INT32, or what the spec does not state beyond it (log entry 37). -/
def toInt32 (z : Int) : Int := if -(2 ^ 31) ≤ z ∧ z < 2 ^ 31 then z else Config.accOverflow z

/-- The arithmetic right shift with rounding half up. -/
def roundShift (z : Int) (sh : Nat) : Int := if sh = 0 then z else (z + 2 ^ (sh - 1)) / 2 ^ sh

/-- The largest element of a pooling window. -/
def poolMax (l : Layer) (x : List Int) (w c : Nat) : Int :=
  (List.range l.kernel).foldl (fun a k => max a (x.getD ((w * l.stride + k) * l.inCh + c) 0)) (x.getD (w * l.stride * l.inCh + c) 0)

/-- One output element of a layer (R424). -/
def layerOut (sec : List Byte) (l : Layer) (x : List Int) (w oc : Nat) : Int :=
  let v := if l.op = 3 then poolMax l x w oc else roundShift (toInt32 (accumulate sec l x w oc)) l.shift
  let r := if bit l.flags 0 then max 0 v else v
  satInt (if bit l.flags 2 then 16 else 8) r

/-- A layer's outputs, row by row. -/
def runLayer (sec : List Byte) (x : List Int) (l : Layer) : List Int :=
  (List.range (outWidth l)).flatMap (fun w => (List.range l.outCh).map (layerOut sec l x w))

/-- A section's outputs for an input. -/
def runSection (sec input : List Byte) : List Int :=
  (layersOf sec).foldl (runLayer sec)
    ((List.range (leAt sec 2 2 * leAt sec 4 2)).map (elemAt input (leAt sec 6 1 == 1)))

/-! ### The header and its parts (Table 19.2) -/

/-- Fields of the header. -/
def imgNout (m : List Byte) : Nat := leAt m 6 1
def imgInLen (m : List Byte) : Nat := leAt m 8 4
def imgTotal (m : List Byte) : Nat := leAt m 12 4
def secOff (m : List Byte) (ch : Nat) : Nat := leAt m (16 + 8 * ch) 4
def secLen (m : List Byte) (ch : Nat) : Nat := leAt m (20 + 8 * ch) 4
def sectionOf (m : List Byte) (ch : Nat) : List Byte := slice m (secOff m ch) (secLen m ch)
def imgClass (m : List Byte) (k : Nat) : Nat := leAt m 44 16 / 4 ^ k % 4

/-- RSIZE (Table 19.6). -/
def rsize (m : List Byte) : Nat := (32 + 2 * imgNout m + 63) / 64 * 64

/-- A mode uses a channel: 0 SELF_A, 1 SELF_B, 2 PAIR. -/
def usesCh (mode ch : Nat) : Bool := mode == 2 || mode == ch

/-- The header's own ranges, from its 64 bytes alone. -/
def headerOk (m : List Byte) (bulk : Bool) : Bool :=
  leAt m 0 4 == 0x4D444C31 && leAt m 4 2 == 1 && 1 ≤ imgNout m && imgNout m ≤ 64 && 1 ≤ imgInLen m
    && imgInLen m ≤ (if bulk then 65536 else 8192) && 64 < imgTotal m

/-- Offsets and lengths: unused parts are 0, the parts follow one another, and the golden vector with the CHECK ends the
image (R423). -/
def partsOk (m : List Byte) (mode : Nat) : Bool :=
  let g := leAt m 32 4
  let gl := leAt m 36 4
  let used (ch : Nat) : Bool := secOff m ch % 64 == 0 && 64 ≤ secOff m ch && 16 ≤ secLen m ch
  let okA := if usesCh mode 0 then used 0 else secOff m 0 == 0 && secLen m 0 == 0
  let okB := if usesCh mode 1 then used 1 else secOff m 1 == 0 && secLen m 1 == 0
  let endA := max 64 (secOff m 0 + secLen m 0)
  let endB := max endA (secOff m 1 + secLen m 1)
  okA && okB && (!(usesCh mode 0 && usesCh mode 1) || endA ≤ secOff m 1) && g % 64 == 0 && endB ≤ g
    && gl == imgInLen m + 4 * imgNout m && imgTotal m == g + gl + 4

/-- Reserved fields of a section and its records are zero. -/
def secReserved (sec : List Byte) : Bool :=
  (slice sec 7 9).all (· == 0) && (List.range (min 64 (leAt sec 0 2))).all (fun i =>
    let o := 16 + 32 * i
    leAt sec (o + 1) 1 < 8 && leAt sec (o + 11) 1 == 0 && (slice sec (o + 24) 8).all (· == 0))

/-- One layer record is within its ranges (Table 19.3), with at most `cap` elements on either side (Table 19.1). -/
def layerOk (sec : List Byte) (cap : Nat) (l : Layer) : Bool :=
  let size := l.outCh * span l * l.inCh * (if bit l.flags 1 then 2 else 1)
  1 ≤ l.op && l.op ≤ 3 && 1 ≤ l.inCh && 1 ≤ l.inW && 1 ≤ l.outCh && 1 ≤ l.kernel && l.kernel ≤ 16 && 1 ≤ l.stride
    && l.stride ≤ 16 && (l.op != 2 || (l.kernel == 1 && l.stride == 1)) && (l.op != 3 || l.outCh == l.inCh)
    && l.kernel ≤ l.inW && l.shift ≤ 31 && l.inCh * l.inW ≤ cap && l.outCh * outWidth l ≤ cap
    && (l.op == 3 || (l.wLen == size && l.wOff + l.wLen ≤ sec.length))
    && (if l.op = 3 then l.bOff == 0xFFFFFFFF else l.bOff == 0xFFFFFFFF || l.bOff + 4 * l.outCh ≤ sec.length)

/-- The shapes chain from an input of channels and rows to NOUT outputs. -/
def chainOk (nout : Nat) : Nat → Nat → List Layer → Bool
  | c, w, [] => c * w == nout
  | c, w, l :: r => l.inCh == c && l.inW == w && chainOk nout l.outCh (outWidth l) r

/-- A section is sound (reason 4). -/
def sectionOk (m : List Byte) (ch : Nat) : Bool :=
  let sec := sectionOf m ch
  let n := leAt sec 0 2
  let cap := if ch = 0 then 131072 else 32768
  1 ≤ n && n ≤ 64 && 16 + 32 * n ≤ sec.length && leAt sec 6 1 < 2
    && leAt sec 2 2 * leAt sec 4 2 * (1 + leAt sec 6 1) == imgInLen m && (layersOf sec).all (layerOk sec cap)
    && chainOk (imgNout m) (leAt sec 2 2) (leAt sec 4 2) (layersOf sec)

/-- The golden input, and a channel's expected outputs. -/
def goldenIn (m : List Byte) : List Byte := slice m (leAt m 32 4) (imgInLen m)
def goldenOut (m : List Byte) (ch : Nat) : List Int :=
  (List.range (imgNout m)).map (fun k => elemAt (m.drop (leAt m 32 4 + imgInLen m + 2 * imgNout m * ch)) true k)

/-- KiB of weight memory that a section takes (log entry 38). -/
def secKib (m : List Byte) (ch : Nat) : Nat := (secLen m ch + 1023) / 1024

/-- A used channel passes a test. -/
def onUsed (mode : Nat) (f : Nat → Bool) : Bool := (!usesCh mode 0 || f 0) && (!usesCh mode 1 || f 1)

/-- The first failing reason of Table 19.5; `free` and `up` tell a channel's free weight memory and whether it works,
`ex` its measured time in µs. -/
def imageFault (m : List Byte) (mode : Nat) (bulk : Bool) (free : Nat → Nat) (up : Nat → Bool) (ex : Nat → Nat) : Option Nat :=
  if !headerOk m bulk || !partsOk m mode then some 1
  else if crc32c (slice m 0 (imgTotal m - 4)) ≠ leAt m (imgTotal m - 4) 4 then some 2
  else if leAt m 7 1 ≠ 0 ∨ leAt m 60 4 ≠ 0 ∨ !onUsed mode (fun c => secReserved (sectionOf m c)) then some 3
  else if !onUsed mode (sectionOk m) then some 4
  else if !onUsed mode (fun c => secKib m c ≤ free c) then some 5
  else if !onUsed mode (fun c => up c && runSection (sectionOf m c) (goldenIn m) == goldenOut m c) then some 6
  else if !onUsed mode (fun c => ex c ≤ (if bulk then 50000 else 580)) then some 7
  else none

end Sys2Proof.Machine
end

