-- ==== Sys2Proof/Machine/Infer.lean ====
section
/-! DEFINITION.
The inference engine (chapter 19), the hand-off of windows and the comparator (chapter 18): contexts, jobs, result
records, verdicts and known-answer tests.
-/

namespace Sys2Proof.Machine

/-- The engine's domains are on in RUN and IDLE only (R437). -/
def infUp (s : State) : Bool := cdUp s && s.pwr.ps == .run

/-- Contexts and their states: 0 EMPTY, 1 LOADING, 2 READY, 3 RELOADING. -/
def ctxAt (s : State) (c : Nat) : Ctx := tabGet {} s.inf.ctxs c
def setCtx (s : State) (c : Nat) (x : Ctx) : State := { s with inf := { s.inf with ctxs := tabPut s.inf.ctxs c x } }
def ctxState (s : State) (c : Nat) : Nat := s.rd (INF_CTX_STAT_STATE c)

/-- A channel's state: 0 OK, 1 FAILED, 3 LOCKED. -/
def chState (s : State) (ch : Nat) : Nat := if ch = 0 then s.rd INF_CH_STAT_A_STATE else s.rd INF_CH_STAT_B_STATE
def setChState (s : State) (ch v : Nat) : State := if ch = 0 then s.wr INF_CH_STAT_A_STATE v else s.wr INF_CH_STAT_B_STATE v
def infCh (s : State) (ch : Nat) : InfChan := if ch = 0 then s.inf.chA else s.inf.chB
def setInfCh (s : State) (ch : Nat) (x : InfChan) : State :=
  { s with inf := if ch = 0 then { s.inf with chA := x } else { s.inf with chB := x } }

/-- Jobs. -/
def jobAt (s : State) (id : Nat) : Option InfJob := s.inf.jobs.find? (fun j => j.id == id)
def setJob (s : State) (j : InfJob) : State :=
  { s with inf := { s.inf with jobs := s.inf.jobs.map (fun x => if x.id == j.id then j else x) } }
def shareOf (j : InfJob) (ch : Nat) : Share := if ch = 0 then j.a else j.b
def setShare (j : InfJob) (ch : Nat) (x : Share) : InfJob := if ch = 0 then { j with a := x } else { j with b := x }

/-- A share that is over. -/
def shareOver (x : Share) : Bool := match x with | .unused => true | .done _ => true | .aborted => true | .failed => true | _ => false
def shareReady (x : Share) : Bool := match x with | .ready => true | .suspended => true | _ => false
def shareRuns (x : Share) : Bool := match x with | .running _ => true | _ => false

/-- INT16 outputs of a result record. -/
def outputAt (r : List Byte) (k : Nat) : Int := elemAt (r.drop 32) true k

/-! ### Loading (R425 to R428, R437) -/

/-- Weight memory free to a channel. -/
def freeKib (s : State) (ch : Nat) : Nat := if ch = 0 then s.rd INF_MEM_A_FREE else s.rd INF_MEM_B_FREE

/-- The first failing reason for a context's image, its own weight memory counted as free. -/
def ctxFault (s : State) (x : Ctx) (execA execB : Nat) : Option Nat :=
  imageFault x.img x.mode x.bulk (fun ch => freeKib s ch + (if ch = 0 then x.kibA else x.kibB)) (fun ch => chState s ch == 0)
    (fun ch => if ch = 0 then execA else execB)

/-- A context becomes READY: its memory is taken and its registers describe it. -/
def ctxReady (s : State) (c : Nat) (x : Ctx) (execA execB : Nat) : State :=
  let ka := if usesCh x.mode 0 then secKib x.img 0 else 0
  let kb := if usesCh x.mode 1 then secKib x.img 1 else 0
  let s1 := setCtx s c { x with load := none, kibA := ka, kibB := kb }
  let s2 := (s1.wr INF_MEM_A_FREE (freeKib s 0 + x.kibA - ka)).wr INF_MEM_B_FREE (freeKib s 1 + x.kibB - kb)
  let s3 := ((s2.wr (INF_CTX_STAT_STATE c) 2).wr (INF_CTX_STAT_MODE c) x.mode).put (INF_CTX_STAT_JCLASS c) x.bulk
  ((s3.wr (INF_CTX_STAT_IMAGE_ID c) (leAt x.img 40 4)).wr (INF_CTX_EXEC_EXEC_A c) (if usesCh x.mode 0 then execA else 0)).wr
    (INF_CTX_EXEC_EXEC_B c) (if usesCh x.mode 1 then execB else 0)

/-- INF_LOAD (Table 19.9). -/
def loadEvent (s : State) (c again : Nat) : State :=
  raise s 64 false [ownerOr0 s 11 c] ([byte c, byte again] ++ leBytes 4 (leAt (ctxAt s c).img 40 4)
    ++ leBytes 2 (s.rd (INF_CTX_EXEC_EXEC_A c)) ++ leBytes 2 (s.rd (INF_CTX_EXEC_EXEC_B c)))

/-- A LOAD's image has been reached: the context is LOADING with it. -/
def startLoad (h : DHdr) (b : List Byte) (out : Nat) (s : State) (img : List Byte) : State :=
  let c := leAt b 16 1
  (setCtx s c { part := h.part.val, img := img, imgAddr := leAt b 24 8, imgLen := img.length, mode := leAt b 17 1,
                bulk := leAt b 18 1 == 1, nblk := leAt b 19 1, out := out, load := some h,
                stream := ownAddr s * 1024 + 256 + 2 * c }).wr (INF_CTX_STAT_STATE c) 1

/-- LOAD (R426): the checks at start; a header out of range names no further range, and is refused at the end. -/
def execInfLoad (h : DHdr) (b : List Byte) (s : State) : Res :=
  descr INF 1 h b s (fun t =>
    let c := leAt b 16 1
    let p := h.part.val
    let no (st : Nat) : State := complete t INF h 1 st []
    if bodyDirty b ([16, 17, 18, 19] ++ (List.range 16).map (24 + ·)) then no RESERVED_NONZERO
    else if 16 ≤ c ∨ 3 ≤ leAt b 17 1 ∨ 2 ≤ leAt b 18 1 ∨ leAt b 19 1 < 1 ∨ 12 < leAt b 19 1 ∨ leAt b 32 8 % 64 ≠ 0 then no BAD_FIELD
    else if ownerOf t 11 c ≠ some p then no NOT_OWNER
    else if ctxState t c ≠ 0 then no CONTEXT_BUSY
    else if leAt b 18 1 = 0 ∧ homeOf t p = 2 then no BAD_FIELD
    else withData t INF h 1 (leAt b 24 8) 64 (fun u hd =>
      if !headerOk hd true then startLoad h b 0 u hd
      else
        let size := 2 * 2 ^ leAt b 19 1 * rsize hd
        match translate u p (leAt b 32 8) size 0, translate u p (leAt b 32 8) size 1 with
        | some out, some _ => withData u INF h 1 (leAt b 24 8) (imgTotal hd) (startLoad h b out)
        | _, _ => completeFault u INF h 1 (leAt b 32 8)))

/-- INF_LOAD_COMPLETE (R426): the checks and golden runs end; `execA` and `execB` are the measured times in µs. -/
def execInfLoadComplete (ctx : Fin 16) (execA execB : Nat) (s : State) : Res :=
  let c := ctx.val
  let x := ctxAt s c
  .next (match if infUp s && ctxState s c == 1 then x.load else none with
    | none => s
    | some h => match ctxFault s x execA execB with
      | some r => complete (freeCtx s c) INF h 1 MODEL_INVALID [byte r]
      | none =>
        complete (loadEvent (ctxReady s c x execA execB) c 0) INF h 1 OK
          (leBytes 2 (if usesCh x.mode 0 then execA else 0) ++ leBytes 2 (if usesCh x.mode 1 then execB else 0)))

/-- UNLOAD (R427). -/
def execInfUnload (h : DHdr) (b : List Byte) (s : State) : Res :=
  descr INF 2 h b s (fun t =>
    let c := leAt b 16 1
    let no (st : Nat) : State := complete t INF h 2 st []
    if bodyDirty b [16] then no RESERVED_NONZERO
    else if 16 ≤ c then no BAD_FIELD
    else if ownerOf t 11 c ≠ some h.part.val then no NOT_OWNER
    else if ctxState t c = 1 ∨ t.inf.jobs.any (fun j => j.ctx == c && !j.settled) then no CONTEXT_BUSY
    else complete (freeCtx t c) INF h 2 OK [])

/-- Windows were lost while a context slept: its streams resume with GAP. -/
def lostAsleep (s : State) (c : Nat) : Bool := s.sns.streams.any (fun x => x.inf && x.ctx == c && (x.gapDue || x.lost != 0))

/-- CONTEXT_RELOAD (R437): the image is read again and checked; a reload that fails loses the context. -/
def execContextReload (ctx : Fin 16) (execA execB : Nat) (s : State) : Res :=
  let c := ctx.val
  let x := ctxAt s c
  .next (if !infUp s || ctxState s c != 3 then s
    else
      let got : State × Option (List Byte) := match translate s x.part x.imgAddr x.imgLen 0 with
        | some a => fetchData s x.part a x.imgLen
        | none => (s, none)
      let bad (t : State) : State := raise (freeCtx t c) 67 false [ownerOr0 t 11 c] [byte c, 1]
      match got with
      | (t, none) => bad t
      | (t, some img) =>
        let y := { x with img := img, gapA := x.gapA || lostAsleep t c, gapB := x.gapB || lostAsleep t c }
        match ctxFault t y execA execB with
        | some _ => bad t
        | none => loadEvent (ctxReady t c y execA execB) c 1)

/-! ### Jobs (R429 to R433) -/

/-- A new job of a context. -/
def addJob (s : State) (j : InfJob) : State :=
  let c := j.ctx
  let x := ctxAt s c
  setCtx { s with inf := { s.inf with jobs := s.inf.jobs ++ [j], nextJob := s.inf.nextJob + 1 } } c
    { x with seq := (x.seq + 1) % 2 ^ 32 }

/-- The share that a mode gives a channel. -/
def newShare (mode ch : Nat) : Share := if usesCh mode ch then .ready else .unused

/-- The input brands of a job. -/
def brandsOf (j : InfJob) : List Brand := (List.range j.nin).map (fun i => brandOfMem (slice j.brands (24 * i) 24))

/-- The format of a brand (R405, first line, without the length that a list of brands does not give). -/
def brandForm (l : List Byte) : Bool := leAt l 2 1 < 64 && leAt l 2 1 % 4 != 3 && leAt l 19 1 == 0

/-- The statuses that a RUN on an EMPTY context could complete with: the spec names none (log entry 39). -/
def emptyStatus (s : State) : Nat := [BAD_FIELD, MODEL_INVALID, CONTEXT_BUSY].getD ((freeDraw s).toNat % 3) BAD_FIELD

/-- RUN (R430). -/
def execInfRun (h : DHdr) (b : List Byte) (s : State) : Res :=
  descr INF 3 h b s (fun t =>
    let c := leAt b 16 1
    let n := leAt b 17 1
    let p := h.part.val
    let x := ctxAt t c
    let no (st : Nat) : State := complete t INF h 3 st []
    if bodyDirty b ([16, 17] ++ (List.range 24).map (24 + ·)) then no RESERVED_NONZERO
    else if 16 ≤ c ∨ n < 1 ∨ 16 < n then no BAD_FIELD
    else if ownerOf t 11 c ≠ some p then no NOT_OWNER
    else if ctxState t c = 0 then complete (freeNext t) INF h 3 (emptyStatus t) []
    else if ctxState t c = 1 then no CONTEXT_BUSY
    else match translate t p (leAt b 40 8) (2 * rsize x.img) 1 with
      | none => completeFault t INF h 3 (leAt b 40 8)
      | some out =>
        withData t INF h 3 (leAt b 24 8) (imgInLen x.img) (fun u input =>
          withData u INF h 3 (leAt b 32 8) (24 * n) (fun v brands =>
            let bs := (List.range n).map (fun i => slice brands (24 * i) 24)
            if !bs.all brandForm then complete v INF h 3 BAD_FIELD []
            else addJob v ⟨v.inf.nextJob, c, p, some h, none, input, brands, n, bs.any (fun l => bit (leAt l 2 1) 2), out,
              v.dt.stepped, v.now, newShare x.mode 0, newShare x.mode 1, x.seq, none, false, none, none, []⟩)))

/-- Elapsed age in 10 µs units (R401). -/
def ageOfJob (s : State) (j : InfJob) : Nat :=
  let oldest := (brandsOf j).foldl (fun a b => min a b.time) ((brandsOf j).headD ⟨0, 0, 0, 0, 0, 0, 0⟩).time
  min 65535 ((elapsedNs s - ((oldest : Int) - j.steps)) / 10000).toNat

/-- The result record of a channel (R398, R401 to R403, Table 19.6). -/
def resultRecord (s : State) (j : InfJob) (ch : Nat) (outs : List Int) : List Byte :=
  let x := ctxAt s j.ctx
  let bs := brandsOf j
  let data := outs.flatMap (fun v => leBytes 2 (intBits 16 v))
  let dts := bs.foldl (fun a b => min a (b.flags % 4)) (dtStatus s)
  let hops := min 255 (1 + bs.foldl (fun a b => max a b.hops) 0)
  let tag := ltag bs
  let lf := ch + (if j.gap then 4 else 0)
  let age := ageOfJob s j
  let fresh := if ch = 0 then x.freshA else x.freshB
  let ep := s.rd SPR_DT_STATUS_EPOCH
  let step := !fresh && (if ch = 0 then x.epochA else x.epochB) != ep
  let b := stamp ⟨x.stream + ch, brandFlags dts (if ch = 0 then x.gapA else x.gapB) true step fresh, hops, j.seq, dtNow s,
    data.length, 0⟩ (linNet tag j.nin lf age) data
  padTo (rsize x.img) (brandMem b ++ linMem tag j.nin lf age ++ data)

/-- A channel's result has been written. -/
def resultWritten (s : State) (c ch : Nat) : State :=
  let x := ctxAt s c
  let ep := s.rd SPR_DT_STATUS_EPOCH
  setCtx s c (if ch = 0 then { x with gapA := false, freshA := false, epochA := ep }
              else { x with gapB := false, freshB := false, epochB := ep })

/-- The next result of a channel carries GAP (R403, R432). -/
def resultLost (s : State) (c ch : Nat) : State :=
  let x := ctxAt s c
  setCtx s c (if ch = 0 then { x with gapA := true } else { x with gapB := true })

/-- The tolerance of a class. -/
def tolOf (t : Nat × Nat × Nat) (cls : Nat) : Nat := match cls with | 0 => 0 | 1 => t.1 | 2 => t.2.1 | _ => t.2.2

/-- The outputs of two records that differ beyond their tolerance (R433). -/
def beyondTol (img : List Byte) (t : Nat × Nat × Nat) (ra rb : List Byte) : List Nat :=
  (List.range (imgNout img)).filter (fun k => tolOf t (imgClass img k) < (outputAt ra k - outputAt rb k).natAbs)

/-- The status of a channel in the RESULT of a RUN (Table 19.7). -/
def shareCode (x : Share) : Nat := match x with | .done _ => 0 | .unused => 1 | .failed => 3 | _ => 2

/-- The job is forgotten once nothing waits for it. -/
def forgetJob (s : State) (id : Nat) : State :=
  { s with inf := { s.inf with jobs := s.inf.jobs.filter (fun j => !(j.id == id && j.settled && (undecided s j).isEmpty)) } }

/-- Channel time that a job has taken, in µs: a channel's share takes its context's EXEC. -/
def timeOfJob (s : State) (j : InfJob) : Nat :=
  let ran (x : Share) : Bool := match x with | .done _ => true | .aborted => true | _ => false
  (if ran j.a then s.rd (INF_CTX_EXEC_EXEC_A j.ctx) else 0) + (if ran j.b then s.rd (INF_CTX_EXEC_EXEC_B j.ctx) else 0)

/-- Once both channels have ended: the charge in units of 10 µs (Table 6.10), the comparison of R433, and the completion of a
RUN. -/
def settle (s : State) (id : Nat) : State :=
  match jobAt s id with
  | none => s
  | some j =>
    if j.settled || !(shareOver j.a && shareOver j.b) then s
    else
      let x := ctxAt s j.ctx
      let off := match j.a, j.b with
        | .done ra, .done rb => beyondTol x.img (j.tol.getD (0, 0, 0)) ra rb
        | _, _ => []
      let s0 := charge s j.part INF ((timeOfJob s j + 9) / 10)
      let s1 := match j.a, j.b, off with
        | .done ra, .done rb, k :: _ => raise (s0.bump INF_CNT3_MISMATCH_JOBS 1) 70 true ((safetyPart s).toList ++ [0])
            ([byte j.ctx, byte k] ++ leBytes 2 (intBits 16 (outputAt ra k)) ++ leBytes 2 (intBits 16 (outputAt rb k)))
        | _, _, _ => s0
      let s2 := setJob s1 { j with settled := true }
      forgetJob (match j.hdr with
        | some h => complete s2 INF h 3 OK ([byte (shareCode j.a), byte (shareCode j.b), byte off.length, 0] ++ leBytes 4 j.seq)
        | none => s2) id

/-- A window leaves its stream once INF has read it (R308, R309). -/
def windowRead (s : State) (p slot blk : Nat) : State :=
  match strmAt s p slot with
  | none => s
  | some x => tryClose (setStrm s { x with wins := x.wins.filter (fun w => w.blk != blk) }) p slot

/-- The job that runs on a channel. -/
def runsOn (s : State) (ch : Nat) : Option InfJob := s.inf.jobs.find? (fun j => shareRuns (shareOf j ch))

/-- A share starts: the input is read, and the tolerances in force are taken. -/
def startShare (s : State) (j : InfJob) (ch : Nat) : State :=
  let t := (s.rd (INF_TOL0_TOL1 j.ctx), s.rd (INF_TOL0_TOL2 j.ctx), s.rd (INF_TOL1_TOL3 j.ctx))
  let s1 := setJob s { setShare j ch (.running s.now) with tol := j.tol <|> some t }
  match j.stream with
  | some (slot, blk) => windowRead s1 j.part slot blk
  | none => s1

/-- A job of the safety partition. -/
def safetyJob (s : State) (j : InfJob) : Bool := safetyPart s == some j.part

/-- The jobs that wait on a channel and could run there. -/
def waiting (s : State) (ch : Nat) : List InfJob :=
  s.inf.jobs.filter (fun j => shareReady (shareOf j ch) && ctxState s j.ctx == 2)

/-- The partitions with a job that waits on a channel, as far as their buckets let them be served (R162). -/
def jobParts (s : State) (ch : Nat) : List Nat :=
  (List.range 8).filter (fun p => eligible s p INF && (waiting s ch).any (fun j => j.part == p))

/-- A job is the one that a channel takes next (R162, R429): a job that was suspended resumes unless one of the safety
partition waits, and a partition's jobs run in their order. -/
def jobTurn (s : State) (ch : Nat) (j : InfJob) : Bool :=
  let l := waiting s ch
  let first := (l.find? (fun x => x.part == j.part)).map (·.id) == some j.id
  match if l.any (safetyJob s) then none else l.find? (fun x => shareOf x ch == .suspended) with
  | some r => r.id == j.id
  | none => first && turnAmong s INF (jobParts s ch) (fun _ => 0) j.part

/-- A channel takes a job: the round moves on to its partition unless the job only resumes. -/
def takeJob (s : State) (j : InfJob) (ch : Nat) : State :=
  startShare (if shareOf j ch == .suspended then s else moveRound s j.part INF (jobParts s ch) (fun _ => 0)) j ch

/-- JOB_START (R429, R435): the ready share whose turn it is starts on a free channel, or a safety job suspends another
partition's; on a channel that has failed it is not run. -/
def execJobStart (chan : Fin 2) (id : Nat) (s : State) : Res :=
  let ch := chan.val
  .next (match if infUp s then jobAt s id else none with
    | none => s
    | some j =>
      if !shareReady (shareOf j ch) || ctxState s j.ctx != 2 then s
      else if chState s ch ≠ 0 then settle (resultLost (setJob s (setShare j ch .failed)) j.ctx ch) id
      else if (infCh s ch).kat || !jobTurn s ch j then s
      else match runsOn s ch with
        | none => takeJob s j ch
        | some r => if safetyJob s j && !safetyJob s r then takeJob (setJob s (setShare r ch .suspended)) j ch else s)

/-- INF_JOB_ERR (Table 19.9). -/
def jobErr (s : State) (c ch cause seq : Nat) : State :=
  raise s 66 false [ownerOr0 s 11 c] ([byte c, byte ch, byte cause, 0] ++ leBytes 4 seq)

/-- A share is aborted (R432): no record, and the stream's next result carries GAP. -/
def abortShare (s : State) (j : InfJob) (ch cause : Nat) : State :=
  let s1 := (setJob s (setShare j ch .aborted)).bump INF_CNT1_ABORTS 1
  let s2 := if cause = 2 then s1.bump INF_CNT2_RESIDUE 1 else s1
  settle (jobErr (resultLost s2 j.ctx ch) j.ctx ch cause j.seq) j.id

/-- Where a channel's record goes (R430, R431). -/
def recordAt (s : State) (j : InfJob) (ch : Nat) : Nat :=
  let x := ctxAt s j.ctx
  match j.stream with
  | some _ => x.out + (ch * 2 ^ x.nblk + j.seq % 2 ^ x.nblk) * rsize x.img
  | none => j.outAddr + ch * rsize x.img

/-- JOB_END (R430 to R432): the job on a channel ends, with its result (`fault` 0) or aborted by 1 ECC, 2 residue. -/
def execJobEnd (chan : Fin 2) (fault : Fin 3) (s : State) : Res :=
  let ch := chan.val
  .next (match if infUp s then runsOn s ch else none with
    | none => s
    | some j =>
      if fault.val ≠ 0 then abortShare s j ch fault.val
      else
        let r := resultRecord s j ch (runSection (sectionOf (ctxAt s j.ctx).img ch) j.input)
        let s1 := storeData s j.part (recordAt s j ch) r
        settle (resultWritten (setJob s1 (setShare j ch (.done r))) j.ctx ch) j.id)

/-- JOB_WATCHDOG (R432). -/
def execJobWatchdog (chan : Fin 2) (s : State) : Res :=
  .next (match if infUp s then runsOn s chan.val else none with
    | none => s
    | some j => abortShare s j chan.val 3)

/-! ### The comparator (R412 to R416) -/

/-- The window, or first input, that a job's verdicts name. -/
def jobBrand (j : InfJob) : Brand := (brandsOf j).headD ⟨0, 0, 0, 0, 0, 0, 0⟩

/-- A verdict that acts: SL_OP goes to the power die for the binding's channel, and is reported (R413). -/
def actVerdict (s : State) (b cause stream seq : Nat) (va vb : Int) : State :=
  let c : Chan := ⟨s.rd (BRD_BIND0_KIND b), s.rd (BRD_BIND0_INDEX b)⟩
  let m : LaneMsg := { ch := c, op := s.rd (BRD_BIND0_SL_OP b), src := 1, binding := b, cause := cause, stream := stream, seq := seq }
  let s1 := { s with act := { s.act with lane := s.act.lane ++ [m] } }
  let s2 := ((s1.bump BRD_CNT3_VERDICTS 1).wr BRD_STATUS_LAST_BIND b).wr BRD_STATUS_LAST_CAUSE cause
  raise s2 69 true ((safetyPart s).toList ++ [ownerOr0 s c.kind c.idx])
    ([byte b, byte cause] ++ leBytes 2 stream ++ leBytes 4 seq ++ leBytes 2 (intBits 16 va) ++ leBytes 2 (intBits 16 vb))

/-- A received record passes R405 as the result of this job on its channel. -/
def recordSound (s : State) (j : InfJob) (ch : Nat) (r : List Byte) : Bool :=
  let b := brandOfMem r
  brandSound b (leAt r 19 1) (linNet (leAt r 24 4) (leAt r 28 1) (leAt r 29 1) (leAt r 30 2))
      (slice r 32 (2 * imgNout (ctxAt s j.ctx).img))
    && b.stream == (ctxAt s j.ctx).stream + ch && b.seq == j.seq

/-- LTAG and NIN of a record are those the device computed. -/
def lineageOk (j : InfJob) (r : List Byte) : Bool := leAt r 24 4 == ltag (brandsOf j) && leAt r 28 1 == j.nin

/-- The cause that the first row of Table 18.7 gives for the received records, 0 for no action. -/
def verdictOf (s : State) (j : InfJob) (b : Nat) : Nat :=
  let k := s.rd (BRD_BIND0_OUT_IDX b)
  let rs : List (Nat × List Byte) := (j.rxA.map (fun r => (0, r))).toList ++ (j.rxB.map (fun r => (1, r))).toList
  let tol := tolOf (j.tol.getD (0, 0, 0)) (imgClass (ctxAt s j.ctx).img k)
  if rs.any (fun x => !recordSound s j x.1 x.2) then BAD_CHECK
  else if rs.any (fun x => !lineageOk j x.2) then LINEAGE
  else if (match j.rxA, j.rxB with
      | some ra, some rb => decide (tol < (outputAt ra k - outputAt rb k).natAbs)
      | _, _ => false) then MISMATCH
  else if rs.any (fun x => decide (signed 16 (s.rd (BRD_BIND1_THRESH b)) ≤ outputAt x.2 k)) then THRESHOLD
  else 0

/-- One binding decides with what the comparator holds (R413); a cause that its row does not act on is only reported. -/
def decideBind (id : Nat) (timeout : Bool) (s : State) (b : Nat) : State :=
  match jobAt s id with
  | none => s
  | some j =>
    let w := jobBrand j
    let k := s.rd (BRD_BIND0_OUT_IDX b)
    let va := match j.rxA with | some r => outputAt r k | none => 0
    let vb := match j.rxB with | some r => outputAt r k | none => 0
    let early := verdictOf s { j with tol := j.tol } b
    let cause := if timeout then (if early = BAD_CHECK ∨ early = LINEAGE then early else TIMEOUT) else early
    let s1 := setJob s { j with decided := j.decided ++ [b] }
    if cause = 0 then s1
    else
      let s2 := brandFault s1 2 cause (ownerOr0 s1 11 j.ctx) w.stream w.seq
      if cause = TIMEOUT ∧ !s.flag (BRD_BIND0_MISS_ACT b) then s2 else actVerdict s2 b cause w.stream w.seq va vb

/-- Every binding of a job that is still to decide does so. -/
def decideJob (s : State) (id : Nat) : State :=
  match jobAt s id with
  | none => s
  | some j => forgetJob ((undecided s j).foldl (decideBind id false) s) id

/-- The comparator holds all the results that the mode gives. -/
def allReceived (j : InfJob) : Bool := (shareCode j.a == 1 || j.rxA.isSome) && (shareCode j.b == 1 || j.rxB.isSome)

/-- INF_RESULT (R413): a channel's record reaches the comparator, its bytes changed by `damage` where something has
corrupted it on the way; with every result the comparator decides. -/
def execInfResult (chan : Fin 2) (id : Nat) (damage : List Byte) (s : State) : Res :=
  .next (match if infUp s then jobAt s id else none with
    | none => s
    | some j => match shareOf j chan.val with
      | .done r =>
        let seen := r.zipWith (· ^^^ ·) (padTo r.length damage)
        let k := if chan.val = 0 then { j with rxA := j.rxA <|> some seen } else { j with rxB := j.rxB <|> some seen }
        let s1 := setJob s k
        if allReceived k then decideJob s1 id else s1
      | _ => s)

/-- PAIR_TIMEOUT (R413): PAIR_TMO of a binding has passed since a job's hand-off, and a result is missing. -/
def execPairTimeout (binding : Fin 8) (id : Nat) (s : State) : Res :=
  .next (match if infUp s then jobAt s id else none with
    | none => s
    | some j => if (undecided s j).contains binding.val && !allReceived j
          && lasted s j.since (10 * s.rd (BRD_BIND1_PAIR_TMO binding.val)) then
        forgetJob (decideBind id true s binding.val) id else s)

/-- The binding's channel runs an armed drive, and no window has reached the context for INPUT_TMO since the drive's first
on-edge and the last hand-off (R416); an action of the binding that is already on its way is not sent again. -/
def noInput (s : State) (b : Nat) : Bool :=
  let x := chn s (master s ⟨s.rd (BRD_BIND0_KIND b), s.rd (BRD_BIND0_INDEX b)⟩)
  let ms := s.rd (BRD_BIND2_INPUT_TMO b)
  (match x.drv with | .bridge g => g.armed && isDrive g | _ => false)
    && decide (1000 * ms ≤ usNow s - x.runAt)
    && lasted s (ctxAt s (s.rd (BRD_BIND0_CTX b))).handedAt (1000 * ms)
    && !s.act.lane.any (fun m => m.src == 1 && m.binding == b)

/-- NO_INPUT_TIMEOUT (R416). -/
def execNoInputTimeout (binding : Fin 8) (s : State) : Res :=
  let b := binding.val
  .next (if infUp s && bindOn s b && noInput s b then
      let c := s.rd (BRD_BIND0_CTX b)
      actVerdict (brandFault s 2 NO_INPUT (ownerOr0 s 11 c) 0 0) b NO_INPUT 0 0 0 0
    else s)

/-! ### Hand-off (R307, R404 to R406, R431) -/

/-- Every binding of a context that a test picks acts on a window. -/
def bindsAct (s : State) (l : List Nat) (cause stream seq : Nat) : State :=
  l.foldl (fun t b => actVerdict t b cause stream seq 0 0) s

/-- WINDOW_HANDOFF (R307, R406): the oldest window of a stream that has not been handed over is checked, and becomes the
input of one job while its context is READY. -/
def execWindowHandoff (part : Fin 8) (slot : Fin 16) (s : State) : Res :=
  .next (match if infUp s then strmAt s part.val slot.val else none with
    | none => s
    | some x => match if ctxState s x.ctx = 2 then x.wins.find? (fun w => !w.handed) else none with
      | none => s
      | some w =>
        let c := x.ctx
        let r := readBytes s w.addr 24
        let b := brandOfMem r
        let data := readBytes s (w.addr + 32) (w.count * sampleSize x.src)
        let k := ctxAt s c
        let d := match k.handed with | some q => (b.seq + 2 ^ 32 - (q + x.hop) % 2 ^ 32) % 2 ^ 32 | none => 0
        let owner := ownerOr0 s 11 c
        let cause := if !brandSound b (leAt r 19 1) [] data || b.stream != x.stream then BAD_CHECK
          else if bit b.flags 5 then 0 else if 2 ^ 31 ≤ d then REORDER else if 0 < d then GAP else 0
        if cause = BAD_CHECK ∨ cause = REORDER then
          let s1 := bindsAct (brandFault s 1 cause owner b.stream b.seq) (bindsOf s c) cause b.stream b.seq
          windowRead s1 part.val slot.val w.blk
        else
          let s1 := setCtx (setStrm s { x with wins := x.wins.map (fun v => if v.blk == w.blk then { v with handed := true } else v) }) c
            { k with handed := some b.seq, handedAt := s.now }
          if data.length ≠ imgInLen k.img then
            windowRead (jobErr (s1.bump INF_CNT2_LEN_REJ 1) c 0 4 b.seq) part.val slot.val w.blk
          else
            let act := if cause = GAP then (bindsOf s c).filter (fun q => s.flag (BRD_BIND0_GAP_ACT q)) else []
            addJob (bindsAct s1 act GAP b.stream b.seq)
              ⟨s1.inf.nextJob, c, part.val, none, some (slot.val, w.blk), data, r, 1, cause == GAP || bit b.flags 2, 0, w.steps,
                s.now, newShare k.mode 0, newShare k.mode 1, k.seq, none, false, none, none, act⟩)

/-! ### Known-answer tests (R434, R435) -/

/-- INF_KAT_FAIL: each change of a channel's state goes to P0 and the owners of loaded contexts. -/
def katEvent (s : State) (ch part ctx : Nat) : State :=
  raise s 65 true (0 :: s.inf.ctxs.map (fun e => ownerOr0 s 11 e.1)) [byte ch, byte (chState s ch), byte part, byte ctx]

/-- The READY context of a job class whose model uses a channel. -/
def goldenHere (s : State) (ch : Nat) (bulk : Bool) (c : Nat) : Bool :=
  ctxState s c == 2 && usesCh (ctxAt s c).mode ch && (ctxAt s c).bulk == bulk

/-- The context whose golden vector a test of a channel runs: the RT contexts take turns, and where the channel is idle that of a
BULK context may run instead, at most once per second (R434). -/
def goldenTurn (s : State) (ch ctx : Nat) : Option Nat :=
  if goldenHere s ch true ctx && !(infCh s ch).forced && lasted s (ctxAt s ctx).goldenAt 1000000 then some ctx
  else ((List.range 16).map (fun k => ((infCh s ch).katCtx + k) % 16)).find? (goldenHere s ch false)

/-- A test of a channel ends: the turn passes on behind the context it ran. -/
def goldenRan (s : State) (ch : Nat) (g : Option Nat) : State :=
  match g with
  | none => s
  | some c =>
    if (ctxAt s c).bulk then setCtx s c { ctxAt s c with goldenAt := s.now }
    else setInfCh s ch { infCh s ch with katCtx := (c + 1) % 16 }

/-- A test finds a difference: in the ROM pattern (part 1), or in the golden vector that ran (part 2). -/
def katBad (part : Nat) (g : Option Nat) : Bool := part == 1 || (part == 2 && g.isSome)

/-- KAT_START (R434): due 100 ms after the last one started, at a moment without a ready job; forced 250 ms after it, at a job
boundary or a slice boundary of a BULK job. -/
def execKatStart (chan : Fin 2) (forced : Bool) (s : State) : Res :=
  let ch := chan.val
  let go (t : State) : State :=
    let u := (setInfCh t ch { infCh t ch with kat := true, katSince := t.now, forced := forced }).bump INF_CNT0_KATS 1
    if forced then u.bump INF_CNT0_FORCED 1 else u
  let due := lasted s (infCh s ch).katSince (if forced then 250000 else 100000)
  .next (if !infUp s || chState s ch != 0 || (infCh s ch).kat || !due then s
    else match runsOn s ch with
      | some j => if forced && (ctxAt s j.ctx).bulk then go (setJob s (setShare j ch .suspended)) else s
      | none => if !forced && s.inf.jobs.any (fun j => shareReady (shareOf j ch) && ctxState s j.ctx == 2) then s else go s)

/-- KAT_END (R435): `part` 0 passes, 1 the ROM pattern differs, 2 the golden vector differs; `ctx` names a BULK context whose
golden vector ran on an idle channel. -/
def execKatEnd (chan : Fin 2) (part : Fin 3) (ctx : Fin 16) (s : State) : Res :=
  let ch := chan.val
  .next (if !infUp s || !(infCh s ch).kat then s
    else
      let g := goldenTurn s ch ctx.val
      let s0 := goldenRan s ch g
      let s1 := setInfCh s0 ch { infCh s0 ch with kat := false }
      if !katBad part.val g then s1
      else
        let s2 := setInfCh s1 ch { infCh s1 ch with passes := 0, fails := 0 }
        katEvent (setChState (s2.bump INF_CNT1_KAT_FAILS 1) ch 1) ch part.val (g.getD 0))

/-- KAT_RETEST (R435): a FAILED channel is tested again, 10 ms after the last test. -/
def execKatRetest (chan : Fin 2) (part : Fin 3) (ctx : Fin 16) (s : State) : Res :=
  let ch := chan.val
  let g := goldenTurn s ch ctx.val
  let s0 := goldenRan s ch g
  let x : InfChan := { infCh s0 ch with katSince := s.now }
  .next (if !infUp s || chState s ch != 1 || !lasted s (infCh s ch).katSince 10000 then s
    else if !katBad part.val g then
      let s1 := (setInfCh s0 ch { x with passes := x.passes + 1, fails := 0 }).bump INF_CNT0_KATS 1
      if 2 ≤ x.passes + 1 then katEvent (setChState s1 ch 0) ch 0 (g.getD 0) else s1
    else
      let s1 := ((setInfCh s0 ch { x with passes := 0, fails := x.fails + 1 }).bump INF_CNT0_KATS 1).bump INF_CNT1_KAT_FAILS 1
      if 3 ≤ x.fails + 1 then katEvent (setChState s1 ch 3) ch part.val (g.getD 0) else s1)

end Sys2Proof.Machine
end

