-- ==== Sys2Proof/Machine/Store.lean ====
section
/-! DEFINITION.
The store: namespaces, STO commands, write-back, mounting, retention, refresh and garbage collection (chapters 20 and 21).
-/

namespace Sys2Proof.Machine

/-! ### Namespaces (R441 to R444) -/

/-- A namespace, and its logical blocks. -/
def nsAt (s : State) (n : Nat) : Option NsEnt := tabFind s.sto.ns n
def nsSize (s : State) (n : Nat) : Nat := match nsAt s n with | some x => nsBlocks x | none => 0

/-- The store has mounted its namespaces at this start (R459). -/
def mounted (s : State) (n : Nat) : Bool := s.sto.mounted.contains n

/-- A block key's namespace. -/
def keyNs (k : Nat) : Nat := k / 2 ^ 32

/-- Owner and P0. -/
def nsRcpt (s : State) (n : Nat) : List Nat := [ownerOr0 s 10 n, 0]

/-! ### Health (R465, R466) -/

/-- The health of a namespace: state, wear in percent and SHORT. -/
def healthOf (s : State) (n : Nat) : Nat × Nat × Bool := tabGet (0, 0, false) s.sto.health n

/-- The state that spares and wear alone ask for (Table 21.2). -/
def spareState (s : State) : Nat :=
  let sp := s.rd STO_HEALTH_SPARES
  if sp < 10 then 2 else if sp < s.rd STO_HEALTH_CFG_SPARE_WARN then 1 else 0
def wearState (s : State) (wear : Nat) : Nat :=
  if 110 ≤ wear then 3 else if 95 ≤ wear then 2 else if s.rd STO_HEALTH_CFG_WEAR_WARN ≤ wear then 1 else 0

/-- Set a namespace's health; a change of state or SHORT raises STO_HEALTH. -/
def setHealth (s : State) (n : Nat) (x : Nat × Nat × Bool) (cause : Nat) : State :=
  let old := healthOf s n
  let s1 := { s with sto := { s.sto with health := tabSet (0, 0, false) s.sto.health n x } }
  if old.1 = x.1 ∧ old.2.2 = x.2.2 then s1
  else raise s1 59 false (nsRcpt s1 n) [byte n, byte (x.1 + (if x.2.2 then 4 else 0)), byte cause,
    byte (s.rd STO_HEALTH_SPARES), byte (min 255 x.2.1)]

/-- A namespace's state rises with spares and wear; SHORT sets at no spares and ends above 2 %. -/
def checkHealth (s : State) (n : Nat) : State :=
  let h := healthOf s n
  let sp := s.rd STO_HEALTH_SPARES
  let short := if sp = 0 then true else if 2 < sp then false else h.2.2
  let st := max h.1 (max (spareState s) (wearState s h.2.1))
  setHealth s n (st, h.2.1, short) (if h.1 < spareState s ∨ h.2.2 ≠ short then 1 else 2)

/-- Every namespace is checked. -/
def checkAll (s : State) : State := showNs ((s.sto.ns.map (fun e => e.1)).foldl checkHealth s)

/-- A failed program or erase with no spare erase block left makes a namespace READ_ONLY. -/
def programFailed (s : State) (n : Nat) : State :=
  if s.rd STO_HEALTH_SPARES = 0 then
    let h := healthOf s n
    showNs (setHealth s n (3, h.2.1, h.2.2) 3)
  else s

/-! ### NS_CREATE and NS_DELETE -/

/-- Report a namespace command (Table 20.3); BUSY reads 1 until the next tick (log entry 20). -/
def nsReport (s : State) (r : Nat) : State := showNs ((s.wr STO_NS_STATUS_RESULT r).put STO_NS_STATUS_BUSY true)

/-- NS_CREATE (R444). -/
def execNsCreate (w : Writer) (s : State) : Res := whileCd s <|
  let n := s.rd STO_NS_SEL_NS
  let ex := s.rd STO_NS_CFG_EXTENTS
  if w = .safety then violate s
  else if isSealed s then nsReport (violate s) 2
  else if 14 ≤ n then nsReport s 6
  else if (nsAt s n).isSome then nsReport s 3
  else if ex = 0 ∨ freeExtents s < ex then nsReport s 4
  else
    let x : NsEnt := ⟨ex, s.flag STO_NS_CFG_CELL, s.flag STO_NS_CFG_DUR, s.flag STO_NS_CFG_RET, s.flag STO_NS_CFG_WB_EN⟩
    nsReport (checkHealth { s with sto := { s.sto with ns := tabPut s.sto.ns n x } } n) 1

/-- A namespace has accepted STO work or dirty blocks (Table 20.3, row 5). -/
def nsBusy (s : State) (n : Nat) : Bool :=
  s.rng.work.any (fun w => w.eng == STO && leAt w.body 16 1 == n) || s.sto.jobs.any (fun j => j.ns == n)
    || s.sto.dirty.any (fun e => keyNs e.1 == n)

/-- NS_DELETE (R444): its blocks can no longer be reached, and its health state ends (R465). -/
def execNsDelete (w : Writer) (s : State) : Res := whileCd s <|
  let n := s.rd STO_NS_SEL_NS
  if w = .safety then violate s
  else if isSealed s then nsReport (violate s) 2
  else if 14 ≤ n then nsReport s 6
  else if (nsAt s n).isNone then nsReport s 7
  else if nsBusy s n then nsReport s 5
  else
    let s1 := setHealth s n (0, 0, false) 4
    nsReport { s1 with sto := { s1.sto with
      ns := tabDel s1.sto.ns n
      blocks := tabKeep (fun k => keyNs k != n) s1.sto.blocks
      ebs := tabKeep (fun k => keyNs k != n) s1.sto.ebs
      unsaved := tabDel s1.sto.unsaved n } } 1

/-! ### Blocks and erase blocks -/

/-- What a READ sees of a block: the last WRITE, WRITE_ATOMIC or TRIM that has started, else the buffer, else the media
(R453). -/
def viewBlk (s : State) (ns lba : Nat) : List Byte :=
  let k := blkKey ns lba
  let base := match tabFind s.sto.dirty k with | some d => d.1 | none => tabGet zeroBlk s.sto.blocks k
  s.sto.jobs.foldl (fun a j =>
    if j.ns = ns ∧ j.lba ≤ lba ∧ lba < j.lba + j.count then
      (match j.op with | 2 => j.data.getD (lba - j.lba) zeroBlk | 3 => j.data.getD (lba - j.lba) zeroBlk | 4 => zeroBlk | _ => a)
    else a) base

/-- Cut bytes into blocks. -/
def toBlks (l : List Byte) (n : Nat) : List (List Byte) := (List.range n).map (fun i => slice l (4096 * i) 4096)

/-- An erase block in the table. -/
def setEb (s : State) (k : Nat) (e : EraseBlk) : State := { s with sto := { s.sto with ebs := tabPut s.sto.ebs k e } }

/-- REFRESH_FG follows the queue. -/
def showRefresh (s : State) : State := s.put STO_HEALTH_REFRESH_FG (s.sto.ebs.any (fun e => e.2.queued == 2))

/-- An erase block is queued for background (1) or foreground (2) refresh; the first to enter foreground refresh after 1 s
without any raises STO_REFRESH (R463). -/
def queueEb (s : State) (k level cause : Nat) : State :=
  match tabFind s.sto.ebs k with
  | none => s
  | some e =>
    if level ≤ e.queued then s
    else
      let s1 := showRefresh (setEb s k { e with queued := level, cause := cause })
      if level < 2 then s1
      else
        let calm := !s.sto.ebs.any (fun x => x.2.queued == 2)
          && (match s.sto.fgAt with | some t => decide (32768 ≤ s.now - t) | none => true)
        let s2 := { s1 with sto := { s1.sto with fgAt := some s.now } }
        if calm then raise s2 60 false [0] ([byte e.ns, byte cause, 1, 0]
          ++ leBytes 4 (s1.sto.ebs.filter (fun x => x.2.queued != 0)).length)
        else s2

/-- The refresh an erase block has come to need, and its cause: reads in a COUNTED namespace, age in a STAMPED one (R461,
R462). -/
def ebNeed (s : State) (e : EraseBlk) : Nat × Nat :=
  let pct := s.rd STO_RET_CFG_REF_PCT
  match nsAt s e.ns with
  | none => (0, 0)
  | some x =>
    let limit := if x.counted then (if x.pslc then 100000 else 20000)
                 else (if x.pslc then 10 else 1) * 365 * 86400 * 65536
    let v := if x.counted then e.reads else e.age
    (if 95 * limit ≤ v * 100 then 2 else if pct * limit ≤ v * 100 then 1 else 0, if x.counted then 1 else 2)

/-- Queue what an erase block has come to need. -/
def requeue (s : State) (k : Nat) : State :=
  match tabFind s.sto.ebs k with
  | some e => queueEb s k (ebNeed s e).1 (ebNeed s e).2
  | none => s

/-- Reads of a range count in the erase blocks of a COUNTED namespace (R462). -/
def countReads (s : State) (ns lba n : Nat) : State :=
  match nsAt s ns with
  | some x =>
    if x.counted then
      let hits (e : EraseBlk) : Nat := (e.lbas.filter (fun l => lba ≤ l && l < lba + n)).length
      let s1 := { s with sto := { s.sto with ebs := s.sto.ebs.map (fun (e : Nat × EraseBlk) =>
        if e.2.ns = ns then (e.1, { e.2 with reads := e.2.reads + hits e.2 }) else e) } }
      (s1.sto.ebs.map (fun e => e.1)).foldl requeue s1
    else s
  | none => s

/-! ### STO descriptors (R445 to R448) -/

/-- RESULT of the data commands (Table 20.6). -/
def stoResult (op done : Nat) (wb : Bool) (failing : Option Nat) : List Byte :=
  match op with
  | 1 => leBytes 4 done ++ [0] ++ leBytes 3 (failing.getD 0xFFFFFF)
  | 2 => leBytes 4 done ++ [if wb then 1 else 0, 255, 255, 255]
  | 3 => leBytes 4 done ++ [2, 255, 255, 255]
  | 4 => leBytes 4 done ++ [0, 255, 255, 255]
  | _ => []

/-- Complete a data command without effect. -/
def stoRefuse (s : State) (h : DHdr) (op status : Nat) : State := complete s STO h op status (stoResult op 0 false none)

/-- The most blocks a command names (Table 20.5). -/
def stoMax : Nat → Nat
  | 3 => 64 | 4 => 16777216 | _ => 256

/-- The namespace is in the read-only state. -/
def readOnly (s : State) (n : Nat) : Bool := (healthOf s n).1 == 3

/-- A range would map a block that is not mapped. -/
def mapsNew (s : State) (ns lba n : Nat) : Bool :=
  (List.range n).any (fun i => (tabFind s.sto.blocks (blkKey ns (lba + i))).isNone
    && (tabFind s.sto.dirty (blkKey ns (lba + i))).isNone)

/-- A WRITE that asks for write-back may have it (R450, R472). -/
def wbGranted (s : State) (ns count : Nat) : Bool :=
  s.flag STO_WB_STATUS_WB_OK && (match nsAt s ns with | some x => x.wbEn | none => false)
    && s.sto.dirty.length + count ≤ s.rd STO_WB_STATUS_GRANT && !s.flag STO_HEALTH_HOLD_LOW

/-- A command starts: its data is taken now (R453). -/
def startSto (s : State) (j : StoJob) : State := { s with sto := { s.sto with jobs := s.sto.jobs ++ [j] } }

/-- The landing slots that a range of NS15 lies in (Table 20.2). -/
def slotsHit (ns lba n : Nat) : List Nat :=
  if ns = 15 then (if lba < 73728 then [0] else []) ++ (if 73728 < lba + n then [1] else []) else []

/-- The state of a landing slot (Table 22.8): 0 UNVERIFIED, 1 VERIFIED, 2 FAILED, 3 CONSUMED. -/
def slotState (s : State) (l : Nat) : Nat := s.rd UPD_STATUS_SLOT_STATE / 4 ^ l % 4
def setSlot (s : State) (l v : Nat) : State :=
  s.wr UPD_STATUS_SLOT_STATE (s.rd UPD_STATUS_SLOT_STATE + v * 4 ^ l - slotState s l * 4 ^ l)

/-- The boot record is written to NS14 blocks 0 to 15, whose layout the spec does not give: its content lives in UPD_STATUS
and `upd`, and what a READ of the blocks returns is open (R490; log entry 41). -/
def writeRecord (s : State) : State :=
  putBlks (freeNext s) 14 0 ((List.range 16).map (fun i =>
    (List.range 4096).map (fun k => Config.randomByte s.freeCtr (4096 * i + k))))

/-- A write that starts in a landing slot returns it to UNVERIFIED (R490). -/
def unverify (s : State) (l : Nat) : State := if slotState s l = 0 then s else writeRecord (setSlot s l 0)

/-- The checks of R446 and the start of a READ (1), WRITE (2), WRITE_ATOMIC (3) or TRIM (4). -/
def stoData (op : Nat) (h : DHdr) (b : List Byte) (s : State) : State :=
  let p := h.part.val
  let ns := leAt b 16 1
  let fl := leAt b 17 1
  let count := leAt b 20 4
  let lba := leAt b 24 8
  let buf := leAt b 32 8
  let no := stoRefuse s h op
  if bodyDirty b ([16, 17, 20, 21, 22, 23] ++ (List.range 16).map (24 + ·)) ∨ 2 ≤ fl then no RESERVED_NONZERO
  else if ownerOf s 10 ns ≠ some p then no NOT_OWNER
  else if (nsAt s ns).isNone ∨ count < 1 ∨ stoMax op < count ∨ (fl = 1 ∧ op ≠ 2) ∨ buf % 64 ≠ 0 ∨ (op = 4 ∧ buf ≠ 0)
      ∨ nsSize s ns < lba + count ∨ (homeOf s p = 2 ∧ op ≠ 4) then no BAD_FIELD
  else
    let size := if op = 4 then 0 else 4096 * count
    match if op = 4 then some 0 else translate s p buf size (if op = 1 then 1 else 0) with
    | none => complete (windowFault s p STO h.ring.val buf) STO h op WINDOW_FAULT (stoResult op 0 false none)
    | some a =>
      if s.sto.lost then no MEDIA_LOST
      else if op ≠ 1 ∧ readOnly s ns then stoRefuse (s.bump STO_CNT2_RO_REJ 1) h op READ_ONLY
      else if (op = 2 ∨ op = 3) ∧ (healthOf s ns).2.2 ∧ mapsNew s ns lba count then
        stoRefuse (s.bump STO_CNT2_FULL_REJ 1) h op NS_FULL
      else
        let data := match op with
          | 1 => (List.range count).map (fun i => viewBlk s ns (lba + i))
          | 4 => []
          | _ => toBlks (readBytes s a size) count
        let s1 := if op = 2 ∨ op = 3 then (slotsHit ns lba count).foldl unverify s else s
        startSto s1 ⟨h, op, ns, lba, count, data, fl == 1 && wbGranted s ns count, a⟩

/-- READ (R447). -/
def execStoRead (h : DHdr) (b : List Byte) (s : State) : Res := descr STO 1 h b s (stoData 1 h b)

/-- WRITE (R450). -/
def execStoWrite (h : DHdr) (b : List Byte) (s : State) : Res := descr STO 2 h b s (stoData 2 h b)

/-- WRITE_ATOMIC (R449). -/
def execStoWriteAtomic (h : DHdr) (b : List Byte) (s : State) : Res := descr STO 3 h b s (stoData 3 h b)

/-- TRIM (R460). -/
def execStoTrim (h : DHdr) (b : List Byte) (s : State) : Res := descr STO 4 h b s (stoData 4 h b)

/-- The flushes whose blocks are all durable complete (R452); before the mount they wait (R459). -/
def endFlushes (s : State) : State :=
  if s.sto.mounted.isEmpty then s
  else (s.sto.flushes.filter (fun f => f.2.1.isEmpty)).foldl (fun t f => complete t STO f.1 5 OK (leBytes 4 f.2.2))
    { s with sto := { s.sto with flushes := s.sto.flushes.filter (fun f => !f.2.1.isEmpty) } }

/-- DIRTY follows the buffer. -/
def showDirty (s : State) : State := s.wr STO_WB_STATUS_DIRTY s.sto.dirty.length

/-- Keys leave the write-back buffer; flushes that wait for them count those that a drain made durable. -/
def leaveBuffer (s : State) (keys : List Nat) (drained : Bool) : State :=
  let step (f : DHdr × List Nat × Nat) : DHdr × List Nat × Nat :=
    (f.1, f.2.1.filter (fun k => !keys.contains k),
      f.2.2 + (if drained then (f.2.1.filter (fun k => keys.contains k)).length else 0))
  showDirty (endFlushes { s with sto := { s.sto with dirty := tabKeep (fun k => !keys.contains k) s.sto.dirty
                                                     flushes := s.sto.flushes.map step } })

/-- FLUSH (R452): it waits for the dirty blocks of its namespaces as they stand. -/
def execStoFlush (h : DHdr) (b : List Byte) (s : State) : Res :=
  descr STO 5 h b s (fun t =>
    let ns := leAt b 16 1
    let mine (k : Nat) : Bool := if ns = 255 then ownerOf t 10 (keyNs k) == some h.part.val else keyNs k == ns
    let no (st : Nat) : State := complete t STO h 5 st []
    if bodyDirty b [16] then no RESERVED_NONZERO
    else if ns ≠ 255 ∧ ownerOf t 10 ns ≠ some h.part.val then no NOT_OWNER
    else if ns ≠ 255 ∧ (nsAt t ns).isNone then no BAD_FIELD
    else if t.sto.lost then no MEDIA_LOST
    else endFlushes { t with sto := { t.sto with flushes := t.sto.flushes ++
      [(h, (t.sto.dirty.filter (fun e => mine e.1)).map (fun e => e.1), 0)] } })

/-- RESULT of STATUS (Table 20.6). -/
def statusResult (s : State) (ns : Nat) : List Byte :=
  let hl := healthOf s ns
  leBytes 4 (s.sto.blocks.filter (fun e => keyNs e.1 == ns)).length
    ++ [byte (hl.1 + (if hl.2.2 then 4 else 0)),
        byte ((if s.flag STO_WB_STATUS_WB_OK then 1 else 0)
          + (match nsAt s ns with | some x => if x.wbEn then 2 else 0 | none => 0))]
    ++ leBytes 2 (min 65535 (s.sto.dirty.filter (fun e => keyNs e.1 == ns)).length)

/-- STO_STATUS (R448); before the mount it waits (R459). -/
def execStoStatus (h : DHdr) (b : List Byte) (s : State) : Res :=
  descr STO 6 h b s (fun t =>
    let ns := leAt b 16 1
    let no (st : Nat) : State := complete t STO h 6 st []
    if bodyDirty b [16] then no RESERVED_NONZERO
    else if ownerOf t 10 ns ≠ some h.part.val then no NOT_OWNER
    else if (nsAt t ns).isNone then no BAD_FIELD
    else if t.sto.lost then no MEDIA_LOST
    else if mounted t ns then complete t STO h 6 OK (statusResult t ns)
    else startSto t ⟨h, 6, ns, 0, 0, [], false, 0⟩)

/-! ### Completion (R447, R449, R451) -/

/-- A command changes blocks, and two ranges of one namespace meet. -/
def writes (j : StoJob) : Bool := 2 ≤ j.op && j.op ≤ 4
def meets (a b : StoJob) : Bool := a.ns == b.ns && a.lba < b.lba + b.count && b.lba < a.lba + a.count

/-- The keys of a range that the buffer holds. -/
def dirtyIn (s : State) (j : StoJob) : List Nat :=
  (s.sto.dirty.filter (fun e => blkKey j.ns j.lba ≤ e.1 && e.1 < blkKey j.ns (j.lba + j.count))).map (fun e => e.1)

/-- The logical blocks of a command. -/
def lbasOf (j : StoJob) : List Nat := (List.range j.count).map (j.lba + ·)

/-- One block enters the write-back buffer; one already dirty is replaced and keeps its age (R451). -/
def buffer (ns : Nat) (s : State) (x : Nat × List Byte) : State :=
  let k := blkKey ns x.1
  let t := match tabFind s.sto.dirty k with | some d => d.2 | none => s.now
  { s with sto := { s.sto with dirty := tabPut s.sto.dirty k (x.2, t) } }

/-- What a command that succeeds leaves of the store and of memory. -/
def applySto (s : State) (j : StoJob) (eb : Nat) : State :=
  match j.op with
  | 1 => countReads (writeBytes s j.buf j.data.flatten) j.ns j.lba j.count
  | 2 =>
    if j.wb then showDirty (((lbasOf j).zip j.data).foldl (buffer j.ns) s)
    else program (leaveBuffer (putBlks s j.ns j.lba j.data) (dirtyIn s j) false) j.ns (lbasOf j) eb
  | 3 => program (leaveBuffer (putBlks s j.ns j.lba j.data) (dirtyIn s j) false) j.ns (lbasOf j) eb
  | 4 => unmap (leaveBuffer s (dirtyIn s j) false) j.ns j.lba j.count
  | _ => s

/-- A command that meets a media error at block `k` of its range: a READ has copied the blocks before it, the others change
nothing (R447). -/
def failSto (s : State) (j : StoJob) (k : Nat) : State :=
  let s1 := if j.op = 1 then countReads (writeBytes s j.buf (j.data.take k).flatten) j.ns j.lba (k + 1) else programFailed s j.ns
  let s2 := raise (s1.bump STO_CNT_MEDIA_ERRS 1) 58 false [ownerOr0 s 10 j.ns]
    ([byte j.ns, byte j.op, 0, 0] ++ leBytes 8 (j.lba + k))
  complete s2 STO j.hdr j.op MEDIA_ERROR (stoResult j.op (if j.op = 1 then k else 0) false (some k))

/-- Corrected bits in a codeword call for a refresh (R461, R463). -/
def weakEcc (s : State) (bits : Nat) : Bool := decide (s.rd STO_RET_CFG_ECC_REFRESH ≤ bits)

/-- STO_COMMAND_COMPLETE (R449): the i-th started command reaches the step its completion mode names. Commands on one block
take effect in the order of their starts (R453). `fail` is the block of a media error, `eb` the erase block programmed, and
`weak` the erase blocks in which a read corrected bits, with the most in one codeword (R463). -/
def execStoCommandComplete (i : Nat) (fail : Option Nat) (eb : Nat) (weak : List (Nat × Nat)) (s : State) : Res := whileCd s <|
  match s.sto.jobs[i]? with
  | none => s
  | some j =>
    if !mounted s j.ns || s.sto.lost || (writes j && (s.sto.jobs.take i).any (fun x => writes x && meets x j)) then s
    else
      let s1 := { s with sto := { s.sto with jobs := s.sto.jobs.eraseIdx i } }
      if j.op = 6 then complete s1 STO j.hdr 6 OK (statusResult s1 j.ns)
      else match fail.filter (fun k => decide (k < j.count)) with
        | some k => failSto s1 j k
        | none =>
          let s2 := applySto s1 j eb
          let s3 := if j.op = 1 then
              (weak.filter (fun e => weakEcc s e.2)).foldl (fun t e => queueEb t (ebKey j.ns e.1) 1 3) s2 else s2
          complete s3 STO j.hdr j.op OK (stoResult j.op j.count j.wb none)

/-- The key of the block that has been dirty longest. -/
def oldest (d : Tab (List Byte × Nat)) : Option Nat :=
  (d.foldl (fun (a : Option (Nat × Nat)) e => match a with
    | none => some (e.1, e.2.2)
    | some (k, t) => if e.2.2 < t then some (e.1, e.2.2) else some (k, t)) none).map (fun x => x.1)

/-- The n oldest dirty blocks. -/
def oldestN : Nat → Tab (List Byte × Nat) → Tab (List Byte × Nat)
  | 0, _ => []
  | n + 1, d => match oldest d with
    | none => []
    | some k => (k, (tabGet ([], 0) d k)) :: oldestN n (tabDel d k)

/-- Buffered blocks are programmed, each in its namespace. -/
def drain (s : State) (l : Tab (List Byte × Nat)) (eb : Nat) : State :=
  let s1 := l.foldl (fun t e => program (putBlk t (keyNs e.1) (e.1 % 2 ^ 32) e.2.1) (keyNs e.1) [e.1 % 2 ^ 32] eb) s
  leaveBuffer s1 (l.map (fun e => e.1)) true

/-- Buffered blocks are lost: WB_LOST counts them and STO_WB_LOST tells each owner (Table 20.8). -/
def loseBuffered (s : State) (keys : List Nat) (cause : Nat) : State :=
  let s1 := leaveBuffer (s.bump STO_CNT_WB_LOST keys.length) keys false
  (dedupe (keys.map keyNs)).foldl (fun t n =>
    raise t 57 true (nsRcpt t n) ([byte n, byte cause] ++ leBytes 2 (keys.filter (fun k => keyNs k == n)).length)) s1

/-- The buffer drains (R451, R452, R472): a block has been dirty for WB_AGE, more than 75 % of GRANT is dirty, an entry into a
power state has been requested, a FLUSH waits, or HOLD is low. -/
def drainDue (s : State) : Bool :=
  s.sto.dirty.any (fun e => lasted s e.2.2 (1000 * s.rd STO_WB_CFG_WB_AGE))
    || decide (3 * s.rd STO_WB_STATUS_GRANT < 4 * s.sto.dirty.length) || s.rd PWR_NEXT_NEXT != 0 || s.pwr.entry.isSome
    || !s.sto.flushes.isEmpty || s.flag STO_HEALTH_HOLD_LOW

/-- WB_DRAIN (R451): the n oldest dirty blocks reach step 5, or their programs fail. -/
def execWbDrain (n : Nat) (fail : Bool) (eb : Nat) (s : State) : Res := whileCd s <|
  if s.sto.lost || !drainDue s then s
  else
    let l := oldestN n s.sto.dirty
    if fail then loseBuffered s (l.map (fun e => e.1)) 2 else drain s l eb

/-! ### Mounting (R459) and retention (R461) -/

/-- 2^(r/20) in units of 2^-16, rounded down. -/
def twoPow20 : List Nat :=
  [65536, 67847, 70239, 72716, 75281, 77935, 80684, 83529, 86475, 89524, 92681, 95950, 99334, 102837, 106463, 110217,
   114104, 118128, 122294, 126607]

/-- AF in units of 2^-16 for a temperature in 0.5 °C (R461; log entry 40). -/
def ageFactor (t0 : Int) : Nat :=
  if t0 ≤ 110 then 65536 else twoPow20.getD ((t0.toNat - 110) % 20) 65536 * 2 ^ ((t0.toNat - 110) / 20)

/-- Every programmed erase block of a STAMPED namespace ages by a time in ticks. -/
def ageBlocks (s : State) (ticks : Nat) (t0 : Int) : State :=
  let stamped (n : Nat) : Bool := match nsAt s n with | some x => !x.counted | none => false
  let s1 := { s with sto := { s.sto with ebs := s.sto.ebs.map (fun (e : Nat × EraseBlk) =>
    if stamped e.2.ns then (e.1, { e.2 with age := e.2.age + ticks * ageFactor t0 / 32768 }) else e) } }
  (s1.sto.ebs.map (fun e => e.1)).foldl requeue s1

/-- STO_RECOVERED of one namespace (Table 21.6): held until its recipients run (R473). -/
def recovered (s : State) (e : Nat × Nat × Nat × Nat) : State :=
  let (n, rescued, discarded, owner) := e
  (dedupe [owner, 0]).foldl (fun t p => holdEvent t p 62 false
    ([byte n, byte (1 + (if rescued = 0 then 0 else 2) + (if discarded = 0 then 0 else 4))]
      ++ leBytes 2 (min 65535 (tabGet 0 s.sto.unsaved n)) ++ leBytes 2 rescued ++ leBytes 2 discarded)) s

/-- What the last power loss has to tell: STO_RECOVERED, STO_PFAIL and STO_WB_LOST. -/
def tellPowerLoss (s : State) : State :=
  let s1 := s.sto.affected.foldl recovered s
  let s2 := if s.sto.pfResult = 0 then s1
    else holdEvent s1 0 63 true ([byte s.sto.pfResult, 0] ++ leBytes 2 s.sto.pfDrained ++ leBytes 2 s.sto.pfLost
      ++ leBytes 2 (min 65535 s.sto.pfTime))
  let s3 := s.sto.pfLostNs.foldl (fun t e => (dedupe [e.2.2, 0]).foldl (fun u p =>
    holdEvent u p 57 true ([byte e.1, 2] ++ leBytes 2 e.2.1)) t) s2
  { s3 with sto := { s3.sto with affected := [], pfResult := 0, pfLostNs := [], pfDrained := 0, pfLost := 0, pfTime := 0 } }

/-- STORE_MOUNT (R459): `t0` is the higher of T0's readings at the last sleep entry and now (0.5 °C), `weak` the erase
blocks that the scan after an exit from OFF has read, with the corrected bits of their worst codeword (R461). -/
def execStoreMount (t0 : Int) (weak : List (Nat × Nat × Nat)) (s : State) : Res := whileCd s <|
  if !s.sto.mounted.isEmpty then s
  else
    let s1 := ageBlocks s ((rtc s + 2 ^ 48 - s.sto.rtcStart) % 2 ^ 48) t0
    let stamped (n : Nat) : Bool := match nsAt s n with | some x => !x.counted | none => false
    let s2 := if s.sto.offExit then
        (weak.filter (fun e => stamped e.1 && weakEcc s e.2.2)).foldl (fun t e => queueEb t (ebKey e.1 e.2.1) 1 4) s1 else s1
    let s3 := tellPowerLoss s2
    endFlushes (showNs { s3 with sto := { s3.sto with
      mounted := List.range 16, savedAt := (List.range 16).map (fun n => (n, s.now)), rtcStart := rtc s, offExit := false, unsaved := [] } })

/-- A namespace saves its map every CKPT_INT s, or flushes its journal every JRNL_INT ms (R458). -/
def saveMap (s : State) (n : Nat) (journal : Bool) : State :=
  let us := if journal then 1000 * s.rd STO_MEDIA_CFG_JRNL_INT else 1000000 * s.rd STO_MEDIA_CFG_CKPT_INT
  match nsAt s n with
  | some x =>
    if x.journal = journal ∧ mounted s n ∧ lasted s (tabGet 0 s.sto.savedAt n) us then
      { s with sto := { s.sto with unsaved := tabDel s.sto.unsaved n, savedAt := tabSet 0 s.sto.savedAt n s.now } }
    else s
  | none => s

/-- CHECKPOINT (R458). -/
def execCheckpoint (ns : Fin 16) (s : State) : Res := whileCd s (saveMap s ns.val false)

/-- JOURNAL_FLUSH (R458). -/
def execJournalFlush (ns : Fin 16) (s : State) : Res := whileCd s (saveMap s ns.val true)

/-- Domain 77 is on: refresh, read counting and garbage collection run (R463). -/
def mediaRuns (s : State) : Bool := cdUp s && s.pwr.ps == .run && !s.sto.mounted.isEmpty && !s.sto.lost

/-- RETENTION_UPDATE (R461): 10 s at the present reading of T0. -/
def execRetentionUpdate (t0 : Int) (s : State) : Res := .next (if mediaRuns s then ageBlocks s 327680 t0 else s)

/-- The valid blocks of an erase block move to another, and it is released. -/
def moveEb (s : State) (ns src dst : Nat) : State :=
  match tabFind s.sto.ebs (ebKey ns src) with
  | some e => showRefresh (program s ns e.lbas dst)
  | none => s

/-- REFRESH (R463): a queued erase block is copied to a fresh one. -/
def execRefresh (ns : Fin 16) (src dst : Nat) (s : State) : Res :=
  .next (match tabFind s.sto.ebs (ebKey ns.val src) with
    | none => s
    | some e =>
      if mediaRuns s && e.queued != 0 && (tabFind s.sto.ebs (ebKey ns.val dst)).isNone then
        let t := moveEb s ns.val src dst
        if e.queued = 2 then { t with sto := { t.sto with fgAt := some s.now } } else t
      else s)

/-- GARBAGE_COLLECTION (R464, R465): valid blocks move and the source is freed; `freePm` are the free erase blocks then, in 0.1 % of
the raw media outside the reserved extents, and `spares` and `wear` what the controller then counts. -/
def execGarbageCollection (ns : Fin 16) (src dst : Nat) (freePm : Nat) (spares : Fin 101) (wear : Nat) (s : State) : Res :=
  .next (if mediaRuns s && src != dst then
      let s1 := ((moveEb s ns.val src dst).put STO_HEALTH_GC_ACTIVE (decide (freePm < 80))).wr STO_HEALTH_SPARES spares.val
      let h := healthOf s1 ns.val
      let s2 := { s1 with sto := { s1.sto with health := tabSet (0, 0, false) s1.sto.health ns.val (h.1, wear, h.2.2) } }
      checkAll s2
    else s)

end Sys2Proof.Machine
end

