-- ==== Sys2Proof/Machine/PowerLoss.lean ====
section
/-! DEFINITION.
The power-loss sequence (R467 to R469, R506) and the hold-up measurement (R470 to R472).
-/

namespace Sys2Proof.Machine

/-! ### The sequence of Table 21.3 -/

/-- Steps 1 and 2: every output is off, and no descriptor of any engine completes any more. Programs already issued
complete or not by a choice the spec leaves to the media (Table 21.4). -/
def haltAll (s : State) : State :=
  let s1 := allChans.foldl dropJob (dropSeqs (fun _ => true) s)
  let s2 := (governing s1).foldl (outputDown []) s1
  let s3 := s2.sto.jobs.foldl cutJobPf s2
  { s3 with
    act := { s3.act with parked := limpActive s, interim := false, lane := [] }
    rng := { s3.rng with work := [] }
    inf := { s3.inf with jobs := [], chA := { s3.inf.chA with kat := false }, chB := { s3.inf.chB with kat := false } }
    sto := { s3.sto with jobs := [], flushes := [] }
    pwr := { s3.pwr with entry := none, armed := false } }

/-- POWER_FAIL (R467): the pre-regulator's input stays at a voltage (mV) for a time; below 5.0 V ± 0.2 V for 20 µs power fail is
declared. `hold` is HOLD in 10 mV. -/
def execPowerFail (mv heldUs hold : Nat) (s0 : State) : Res :=
  let r := above s0 mv 5000 200
  let s := r.2
  if heldUs < 20 || s0.sto.failing || s0.sto.inputLow then .next s0
  else if r.1 then .next s
  else
    let n := s.sto.dirty.length
    let s1 := { s with sto := { s.sto with failing := true, step := 2, inputLow := true, pfDrained := 0, pfLost := 0, pfAt := s.now } }
    .next (tally ((haltAll s1).bump STO_PF_CNT_PF_EVENTS 1) 22 (leBytes 2 n ++ leBytes 2 hold))

/-- A restart after a power-loss sequence, unless a sequence of the ladder already waits, the loss limit holds the die, or
the device stays in SPAR_ONLY. -/
def restartAfter (s : State) : State :=
  if s.pwr.seq.isSome || s.pwr.ps == .sparOnly || s.flag EVT_CDLOSS_HALTED then s
  else startSeq s .restart (s.rd WAK_REASON_CODE) (s.rd WAK_REASON_INDEX)

/-- Step 6, or the stop at V_STOP: the bucks are off, the control die is held in device reset, and the limp table
applies. A loss of the control die within the sequence is not counted. -/
def endSequence (s : State) (result : Nat) : State :=
  let time := (s.now - s.sto.pfAt) * 100000 / 32768
  let s1 := deviceReset (controlLost { s with spar := { s.spar with commanded := true } } 2)
  let s2 : State :=
    { linkOff s1 with
      pwr := { s1.pwr with cd := .off, ldUp := false, ps := if s.pwr.ps == .sparOnly then .sparOnly else .run
                           seq := s1.pwr.seq.map (fun q => { q with running := false, bucks := false, corePg := false,
                                                                    ioPg := false, linkPg := false }) }
      spar := { s1.spar with commanded := false, wdgOn := false }
      sto := { s1.sto with failing := false, step := 0, pfResult := result, pfTime := time, mounted := [] } }
  let s3 := showDomains (limpApply s2)
  if s3.sto.inputLow then s3 else restartAfter s3

/-- The rescue extent takes dirty blocks (step 4): they are durable, and their namespaces will report them. -/
def rescue (s : State) (n : Nat) : State :=
  let l := oldestN n s.sto.dirty
  let s1 := l.foldl (fun t e => affect t (keyNs e.1) 1 0) (drain s l 0xFFFFFFFF)
  { s1 with sto := { s1.sto with pfDrained := s1.sto.pfDrained + l.length } }

/-- POWER_FAIL_STEP_DONE: the steps end in order: issued programs (3), rescue (4), journal or open-block list (5), bucks off
(6). -/
def execPowerFailStepDone (s : State) : Res :=
  .next (if !s.sto.failing then s
    else
      let go (t : State) (k : Nat) : State := { t with sto := { t.sto with step := k } }
      match s.sto.step with
      | 2 => go s 3
      | 3 => go (if s.sto.lost then s else rescue s s.sto.dirty.length) 4
      | 4 => go { s with sto := { s.sto with unsaved := if s.sto.lost then s.sto.unsaved else [] } } 5
      | _ => endSequence s 1)

/-- What the reserve below V_STOP writes of the tally: POWER_FAIL and seven more records (Table 23.3). -/
def keepReserve (q : List TWait) : List TWait :=
  q.filter (fun w => w.typ == 22) ++ (q.filter (fun w => w.typ != 22)).take 7

/-- HOLD has fallen to V_STOP = sqrt(v_end² + 0.004 J / c_eff) (R471): HOLD in mV, the measured C in µF and ESR in mΩ. Without a
measurement there is no V_STOP to compare with. -/
def atStop (s : State) (mv : Nat) : Bool :=
  let c := s.rd STO_HOLD_MEAS_C_MEAS
  decide (9 * (c : Int) * ((10 * mv : Int) ^ 2 - (60000 + 4 * s.rd STO_HOLD_MEAS_ESR_MEAS : Int) ^ 2) ≤ 4000000000000)

/-- HOLD_STOP (R467): the controller stops when HOLD (mV) falls to V_STOP; `drained` of the dirty blocks had reached the rescue
extent, and the rest is lost. -/
def execHoldStop (mv drained : Nat) (s : State) : Res :=
  .next (if !s.sto.failing || !atStop s mv then s
    else
      let s1 := if s.sto.step = 3 ∧ !s.sto.lost then rescue s (min drained s.sto.dirty.length) else s
      let n := s1.sto.dirty.length
      let s2 := (s1.sto.dirty.map (fun e => e.1)).foldl losePf s1
      let s3 := { s2.bump STO_PF_CNT_PF_LOST n with
        sto := { s2.sto with dirty := [], pfLost := n }
        tly := { s2.tly with queue := keepReserve s2.tly.queue } }
      endSequence s3 2)

/-- PRE_REGULATOR_INPUT_RETURN (R467): the input stays at a voltage (mV) for a time, above 6.0 V for 10 ms. -/
def execPreRegulatorInputReturn (mv heldUs : Nat) (s : State) : Res :=
  .next (if !s.sto.inputLow || mv ≤ 6000 || heldUs < 10000 then s
    else
      let s1 := { s with sto := { s.sto with inputLow := false } }
      if s1.sto.failing then s1 else restartAfter s1)

/-! ### The hold-up measurement (R470 to R472) -/

/-- GRANT (R471) for V_H in mV, C_MEAS in µF and ESR_MEAS in mΩ: the formula's volts, farads and ohms in units in which it
is exact, before the cap and the floor of 16. -/
def grantRaw (vh c esr : Nat) : Int :=
  let d : Int := (10 * vh : Int) ^ 2 - (60000 + 4 * esr : Int) ^ 2
  let n := (45 * (c : Int) * d - 102000000000000) / 240000000000
  n - n % 16

/-- GRANT. -/
def grantOf (vh c esr cap : Nat) : Nat :=
  let n := grantRaw vh c esr
  if n < 16 then 0 else min n.toNat (min cap 4096)

/-- MRESULT (Table 21.5). -/
def measureResult (late timeout : Bool) (c esr grant : Nat) : Nat :=
  if late then 2 else if timeout then 3 else if c < 47 ∨ 10000 < c ∨ 4000 < esr then 5 else if grant < 16 then 4 else 1

/-- STO_HOLDUP (Table 21.6). -/
def holdupEvent (s : State) : State :=
  raise s 61 false [0] ([byte (s.rd STO_HOLD_MEAS_MRESULT), byte (s.rd STO_HEALTH_HOLD_LOW)]
    ++ leBytes 2 (s.rd STO_HOLD_MEAS_C_MEAS) ++ leBytes 2 (s.rd STO_HOLD_MEAS_ESR_MEAS) ++ leBytes 2 (s.rd STO_WB_STATUS_GRANT))

/-- The owners of namespaces with WB_EN. -/
def wbOwners (s : State) : List Nat := (s.sto.ns.filter (fun e => e.2.wbEn)).map (fun e => ownerOr0 s 10 e.1)

/-- HOLDUP_MEASURE (R470): V_H in mV, C_MEAS in µF, ESR_MEAS in mΩ; `timeout` when it has not ended within 300 ms. -/
def execHoldupMeasure (vh c esr : Nat) (timeout : Bool) (s : State) : Res := whileCd s <|
  if s.rd STO_HOLD_MEAS_MRESULT ≠ 0 then s
  else
    let g := grantOf vh c esr (s.rd STO_HOLD_CFG_WB_CAP)
    let r := measureResult s.sto.holdLate timeout c esr g
    let s0 := { s with sto := { s.sto with vh := vh } }
    let s1 := ((s0.wr STO_HOLD_MEAS_MRESULT r).wr STO_HOLD_MEAS_C_MEAS (min c 65535)).wr STO_HOLD_MEAS_ESR_MEAS (min esr 4095)
    let s2 := (s1.put STO_WB_STATUS_WB_OK (r == 1)).wr STO_WB_STATUS_GRANT (if r = 1 then g else 0)
    raise (holdupEvent s2) 56 false (0 :: wbOwners s2) ([byte (if r = 1 then 1 else 0), 0] ++ leBytes 2 (if r = 1 then g else 0))

/-- HOLD_LOW (R472): HOLD stays at a voltage (mV) for a time; below 0.9 × V_H for 1 ms it is low, and above 0.95 × V_H for 100 ms no
longer. -/
def execHoldLow (mv heldUs : Nat) (s : State) : Res :=
  .next (if s.sto.inputLow then s
    else if s.flag STO_HEALTH_HOLD_LOW then
      (if 95 * s.sto.vh < 100 * mv ∧ 100000 ≤ heldUs then s.put STO_HEALTH_HOLD_LOW false else s)
    else if 10 * mv < 9 * s.sto.vh ∧ 1000 ≤ heldUs then holdupEvent (s.put STO_HEALTH_HOLD_LOW true)
    else s)

end Sys2Proof.Machine
end

