-- ==== Sys2Proof/Machine/Bundle.lean ====
section
/-! DEFINITION.
Bundles and their manifests (R487 to R489): their layouts read from the landing slots and the banks, and the checks of
Table 22.6 in order.
-/

namespace Sys2Proof.Machine

/-- SHA-256 as 32 bytes. -/
def sha (l : List Byte) : List Byte := beBytes 32 (Config.sha256 l).toNat

/-- ASCII text. -/
def ascii (t : String) : List Byte := t.toList.map (fun c => byte c.toNat)

/-- Every byte of a range is zero. -/
def zeros (l : List Byte) (i k : Nat) : Bool := (slice l i k).all (· == 0)

/-! ### Keys (R476) -/

/-- A key slot holds a usable key, and the key. -/
def slotFilled (s : State) (k : Nat) : Bool := k < 32 && bit (s.rd SEC_KEY_STATE_FILLED) k && !s.sec.faulty.contains k
def keyAt (s : State) (k : Nat) : List Byte := if k < 2 then Config.fuseKey k else tabGet [] s.sec.keys k

/-! ### The manifest (Table 22.5) -/

/-- Its fields. -/
def mNcomp (m : List Byte) : Nat := leAt m 6 2
def mBundle (m : List Byte) : Nat := leAt m 8 4
def mSvn (m : List Byte) : Nat := leAt m 12 4
def mNblk (m : List Byte) : Nat := leAt m 16 4
def mPlen (m : List Byte) : Nat := leAt m 20 4
def mMblk (m : List Byte) : Nat := leAt m 41 1

/-- S, the length of the signed part, and the signed part. -/
def mSigned (m : List Byte) : Nat := 2080 + 64 * mNcomp m + 32 * mNblk m
def signedPart (m : List Byte) : List Byte := slice m 0 (mSigned m)

/-- NWRAP, and a wrap: UID, ENC and CT. -/
def mNwrap (m : List Byte) : Nat := leAt m (mSigned m + 3376) 2
def wrapAt (m : List Byte) (i : Nat) : List Byte := slice m (mSigned m + 3380 + 136 * i) 136

/-- A component record. -/
structure Comp where
  kind : Nat
  offset : Nat
  length : Nat
  load : Nat
  entry : Nat
  hash : List Byte
  clean : Bool
  deriving DecidableEq, Repr

/-- Component i. -/
def compAt (m : List Byte) (i : Nat) : Comp :=
  let c := slice m (2080 + 64 * i) 64
  ⟨leAt c 0 1, leAt c 4 4, leAt c 8 4, leAt c 16 8, leAt c 24 8, slice c 32 32, zeros c 1 3 && zeros c 12 4⟩

/-- All of them. -/
def compsOf (m : List Byte) : List Comp := (List.range (mNcomp m)).map (compAt m)

/-- The components of a kind. -/
def ofKind (m : List Byte) (k : Nat) : List Comp := (compsOf m).filter (fun c => c.kind == k)

/-- What one component must meet by itself (R488). -/
def compOk (plen : Nat) (c : Comp) : Bool :=
  1 ≤ c.kind && c.kind ≤ 5 && c.clean && c.offset % 4096 == 0 && c.offset + c.length ≤ plen
    && (match c.kind with
        | 1 => 0x10000000 ≤ c.load && c.load + c.length ≤ 0x10C00000 && c.load ≤ c.entry && c.entry < c.load + c.length
        | 2 => c.load == 0x20000000 && c.load + c.length ≤ 0x20080000 && c.entry == 0x20000000
        | _ => c.load == 0 && c.entry == 0)

/-- Two components do not overlap. -/
def apart (a b : Comp) : Bool := a.offset + a.length ≤ b.offset || b.offset + b.length ≤ a.offset

/-- No two of a list overlap. -/
def allApart : List Comp → Bool
  | [] => true
  | c :: r => r.all (apart c) && allApart r

/-- The fields that a bank's stored manifest and a bundle's have in common are in range and consistent. -/
def manifestOk (m : List Byte) : Bool :=
  leAt m 0 4 == 0x4E414D55 && leAt m 4 2 == 1 && 1 ≤ mNcomp m && mNcomp m ≤ 32 && 1 ≤ mNblk m && mNblk m ≤ 1149
    && 1 ≤ mPlen m && mPlen m ≤ 65488 * mNblk m && 65488 * (mNblk m - 1) < mPlen m
    && 1 ≤ mMblk m && mMblk m ≤ 4 && 1 ≤ leAt m 42 1 && leAt m 42 1 ≤ 3 && zeros m 43 1
    && 1 ≤ leAt m 44 2 && leAt m 44 2 ≤ 3600 && zeros m 46 2 && zeros m 2065 15 && zeros m (mSigned m + 3373) 3
    && (compsOf m).all (compOk (mPlen m)) && allApart (compsOf m)
    && (ofKind m 1).length == 1 && (ofKind m 2).length ≤ 1 && (ofKind m 3).length ≤ 1

/-- The envelope is well formed. -/
def envelopeOk (m : List Byte) : Bool :=
  1 ≤ mNwrap m && mNwrap m ≤ 1024 && zeros m (mSigned m + 3378) 2
    && (List.range (mNwrap m)).all (fun i => zeros (wrapAt m i) 81 7)

/-- Checks 3 to 7 of Table 22.6, which a stored manifest undergoes too: the reason, or 0. -/
def signerCheck (s : State) (uid m : List Byte) : Nat :=
  let ec := slice m 48 65
  let pq := slice m 113 1952
  let n := mSigned m
  let target := slice m 24 16
  if !slotFilled s 2 || !slotFilled s 3 || sha ec != keyAt s 2 || sha pq != keyAt s 3 then 3
  else if !Config.ecdsaVerify ec (sha (signedPart m)) (slice m n 64) then 4
  else if !Config.mldsaVerify pq (signedPart m) (ascii "ozjor-manifest") (slice m (n + 64) 3309) then 5
  else if mSvn m < s.rd UPD_RB_RB_COUNTER then 6
  else if (target != List.replicate 16 0 && target != uid) || leAt m 40 1 != 0xB1 then 7
  else 0

/-- Does every component of a plaintext have its PLAIN_HASH? -/
def plainOk (m plain : List Byte) : Bool := (compsOf m).all (fun c => sha (slice plain c.offset c.length) == c.hash)

/-! ### Frames (Table 22.4) -/

/-- Frame i of a landing slot. -/
def frameOf (s : State) (slot i : Nat) : List Byte :=
  (List.range 16).flatMap (fun k => viewBlk s 15 (73728 * slot + 16 * i + k))

/-- DLEN, and the data that it counts. -/
def frameDlen (f : List Byte) : Nat := leAt f 12 4
def frameData (f : List Byte) : List Byte := slice f 16 (frameDlen f)

/-- A frame's own fields are right. -/
def frameOk (kind idx : Nat) (f : List Byte) : Bool :=
  leAt f 0 4 == 0x4B4C4255 && leAt f 4 1 == kind && zeros f 5 3 && leAt f 8 4 == idx && 1 ≤ frameDlen f
    && frameDlen f ≤ 65488 && zeros f 65520 12 && leAt f 65532 4 == crc32c (slice f 0 65532)

/-- How many manifest frames the first frame announces, as far as it can be believed. -/
def announced (s : State) (slot : Nat) : Nat :=
  let n := mMblk (frameData (frameOf s slot 0))
  if 1 ≤ n ∧ n ≤ 4 then n else 1

/-- The manifest of a landing slot. -/
def landedManifest (s : State) (slot : Nat) : List Byte :=
  (List.range (announced s slot)).flatMap (fun i => frameData (frameOf s slot i))

/-- How many payload frames are checked: NBLK while the slot can hold them. -/
def payloads (s : State) (slot : Nat) (m : List Byte) : Nat :=
  if announced s slot + mNblk m ≤ 4608 then mNblk m else 0

/-- Payload frame i of a slot. -/
def payloadOf (s : State) (slot i : Nat) : List Byte := frameOf s slot (announced s slot + i)

/-- The bundle key: the unit's wrap opened with slot 1 (R488). -/
def bundleKey (s : State) (uid m : List Byte) : Option (List Byte) :=
  match ((List.range (mNwrap m)).map (wrapAt m)).find? (fun w => slice w 0 16 == uid) with
  | some w => if slotFilled s 1 then
      Config.hpkeOpen (keyAt s 1) (slice w 16 65) (ascii "ozjor-bundle-key") (sha (signedPart m)) (slice w 88 48)
    else none
  | none => none

/-- A payload frame decrypted. -/
def openFrame (key m : List Byte) (i : Nat) (f : List Byte) : Option (List Byte) :=
  Config.gcmOpen key (leBytes 4 (mBundle m) ++ leBytes 4 i ++ [0, 0, 0, 0]) (slice f 0 16) (frameData f ++ slice f 65504 16)

/-- All payload frames decrypted. -/
def openAll (key m : List Byte) (fs : List (List Byte)) : Option (List Byte) :=
  ((List.range fs.length).foldr (fun i acc => match acc, openFrame key m i (fs.getD i []) with
    | some r, some d => some (d ++ r)
    | _, _ => none) (some []))

/-- Checks 8 to 11: the reason, or 0 with the plaintext. -/
def payloadCheck (s : State) (uid m : List Byte) (fs : List (List Byte)) : Nat × List Byte :=
  match bundleKey s uid m with
  | none => (8, [])
  | some k =>
    if (List.range fs.length).any (fun i => sha (slice (fs.getD i []) 0 65532)
        != slice m (2080 + 64 * mNcomp m + 32 * i) 32) then (9, [])
    else match openAll k m fs with
      | none => (10, [])
      | some plain => if plainOk m plain then (0, plain) else (11, [])

/-- The checks of Table 22.6 on a landed bundle: the reason, or 0; the manifest; and the plaintext. `media` tells of an
uncorrectable read of the slot. -/
def bundleCheck (s : State) (uid : List Byte) (slot : Nat) (media : Bool) : Nat × List Byte × List Byte :=
  let m := landedManifest s slot
  let mf := announced s slot
  let fs := (List.range (payloads s slot m)).map (payloadOf s slot)
  let framesOk := (List.range mf).all (fun i => frameOk 0 i (frameOf s slot i))
    && (List.range fs.length).all (fun i => frameOk 1 i (fs.getD i []))
  if media then (13, m, [])
  else if !framesOk then (1, m, [])
  else if !manifestOk m || !envelopeOk m || mMblk m != mf || m.length < mSigned m + 3380 + 136 * mNwrap m
      || 4608 < mf + mNblk m || (fs.map frameDlen).sum != mPlen m then (2, m, [])
  else if signerCheck s uid m ≠ 0 then (signerCheck s uid m, m, [])
  else
    let r := payloadCheck s uid m fs
    (r.1, m, r.2)

/-! ### Banks (R490) -/

/-- The first block of a bank. -/
def bankBase (b : Nat) : Nat := if b = 0 then 16 else 18440

/-- The manifest a bank was activated from, and its content. -/
def bankManifest (s : State) (b : Nat) : List Byte :=
  (List.range 64).flatMap (fun i => viewBlk s 14 (bankBase b + i))
def bankBytes (s : State) (b off len : Nat) : List Byte :=
  ((List.range ((off % 4096 + len + 4095) / 4096)).flatMap (fun i => viewBlk s 14 (bankBase b + 64 + off / 4096 + i))).drop
    (off % 4096) |>.take len

/-- Why a bank does not start (R479, step 3), or 0; `media` tells of an uncorrectable read. -/
def bankCheck (s : State) (uid : List Byte) (b : Nat) (media : Bool) : Nat :=
  let m := bankManifest s b
  if media then 13
  else if !manifestOk m then 2
  else if signerCheck s uid m ≠ 0 then signerCheck s uid m
  else if (compsOf m).all (fun c => sha (bankBytes s b c.offset c.length) == c.hash) then 0 else 11

end Sys2Proof.Machine
end

