-- ==== Sys2Proof/Machine/Vault.lean ====
section
/-! DEFINITION.
The vault (chapter 22): entropy, the SEC opcodes on keys and data, MACsec associations, and debug unlock.
-/

namespace Sys2Proof.Machine

/-! ### SEC descriptors (R484) -/

/-- Complete a SEC descriptor with a status and no result. -/
def secEnd (s : State) (h : DHdr) (op st : Nat) : State := complete s SEC h op st []

/-- The status of an opcode that a REMOTE partition may not issue, which the spec does not name (log entry 42). -/
def remoteStatus (s : State) : Nat := if bit (freeDraw s).toNat 0 then BAD_OPCODE else BAD_FIELD

/-- What opens every SEC opcode: P0's own opcodes, those a REMOTE partition may not issue, and reserved bytes. -/
def sec (op : Nat) (p0 remote : Bool) (listed : List Nat) (h : DHdr) (b : List Byte) (s : State) (f : State → State) : Res :=
  descr SEC op h b s (fun t =>
    if p0 && h.part != 0 then secEnd t h op BAD_OPCODE
    else if !remote && homeOf t h.part.val == 2 then secEnd (freeNext t) h op (remoteStatus t)
    else if bodyDirty b listed then secEnd t h op RESERVED_NONZERO
    else f t)

/-- Body offsets of the addresses at 24, 32, 40 and 48. -/
def addrs (n : Nat) : List Nat := (List.range (8 * n)).map (24 + ·)

/-- Input that may be empty: an empty range names no address. -/
def withIn (s : State) (h : DHdr) (op addr len : Nat) (f : State → List Byte → State) : State :=
  if len = 0 then f s [] else withData s SEC h op addr len f

/-- The place of an output in the partition's windows. -/
def withOut (s : State) (h : DHdr) (op addr len : Nat) (f : State → Nat → State) : State :=
  match translate s h.part.val addr len 1 with
  | some a => f s a
  | none => completeFault s SEC h op addr

/-- Write an output and complete. -/
def secOut (s : State) (h : DHdr) (op a : Nat) (d : List Byte) : State := secEnd (storeData s h.part.val a d) h op OK

/-- A partition may use an AES key slot (R478). -/
def keyAllowed (s : State) (p k : Nat) : Bool :=
  slotFilled s k && ((8 ≤ k && k < 16 && bit (s.rd (SEC_KEY_USE_PARTS k)) p)
    || (16 ≤ k && tabFind s.sec.writers k == some p))

/-- A slot takes a key. -/
def setKey (s : State) (k : Nat) (key : List Byte) : State :=
  { (s.orF SEC_KEY_STATE_FILLED (2 ^ k)) with sec := { s.sec with keys := tabPut s.sec.keys k key } }

/-- A volatile slot takes a key from a partition. -/
def setVolatile (s : State) (p k : Nat) (key : List Byte) : State :=
  { setKey s k key with sec := { (setKey s k key).sec with writers := tabPut s.sec.writers k p } }

/-- A partition may write a volatile slot: it is empty, or its own. -/
def mayWrite (s : State) (p k : Nat) : Bool :=
  !s.sec.faulty.contains k && (match tabFind s.sec.writers k with | some w => w == p | none => true)

/-- Fresh DRBG output. -/
def randomBytes (s : State) (n : Nat) : List Byte := (List.range n).map (Config.randomByte s.freeCtr)

/-! ### Entropy (R480 to R483) -/

/-- The DRBG is SEEDED. -/
def seeded (s : State) : Bool := s.rd SEC_STATUS_DRBG == 1

/-- A RANDOM is served. -/
def serveRandom (s : State) (h : DHdr) (a len : Nat) : State :=
  secOut (freeNext { s with sec := { s.sec with requests := s.sec.requests + 1 } }) h 1 a (randomBytes s len)

/-- RANDOM (R482). -/
def execSecRandom (h : DHdr) (b : List Byte) (s : State) : Res :=
  sec 1 false true ([16, 20, 21, 22, 23] ++ addrs 1) h b s (fun t =>
    let len := leAt b 20 4
    if 2 ≤ leAt b 16 1 then secEnd t h 1 RESERVED_NONZERO
    else if len < 1 ∨ 4096 < len then secEnd t h 1 BAD_FIELD
    else withOut t h 1 (leAt b 24 8) len (fun u a =>
      if seeded u then serveRandom u h a len
      else if leAt b 16 1 = 1 then secEnd u h 1 ENTROPY_PENDING
      else { u with sec := { u.sec with held := u.sec.held ++ [⟨h, a, len, u.now⟩] } }))

/-- ENTROPY_TIMEOUT (R482): the oldest held RANDOM has waited 20 ms since its start. -/
def execEntropyTimeout (s : State) : Res := whileCd s <|
  match s.sec.held with
  | [] => s
  | x :: r => if lasted s x.since 20000 then secEnd { s with sec := { s.sec with held := r } } x.hdr 1 ENTROPY_TIMEOUT else s

/-- A change of TRNG or DRBG state raises ENTROPY_STATE. -/
def entropyState (s : State) (trng drbg cause : Nat) : State :=
  if s.rd SEC_STATUS_TRNG = trng ∧ s.rd SEC_STATUS_DRBG = drbg then s
  else raise ((s.wr SEC_STATUS_TRNG trng).wr SEC_STATUS_DRBG drbg) 72 true [0] [byte trng, byte drbg, byte cause]

/-- TRNG_STARTUP_DONE (R481, R483): `ms` is the time since the first boot ROM instruction. -/
def execTrngStartupDone (pass : Bool) (ms : Nat) (s : State) : Res := whileCd s <|
  if s.rd SEC_STATUS_TRNG = 1 ∨ 3 ≤ s.sec.fails then s
  else if pass then
    let s1 := if seeded s || s.rd SEC_STATUS_LIVE_MS != 0 then s else s.wr SEC_STATUS_LIVE_MS (min ms 255)
    let s2 := entropyState { s1 with sec := { s1.sec with fails := 0, held := [], requests := 0, seededAt := s.now } } 1 1 1
    s.sec.held.foldl (fun t x => serveRandom t x.hdr x.addr x.len) s2
  else
    let s1 := { s.bump SEC_CNT_HEALTH_FAILS 1 with sec := { s.sec with fails := s.sec.fails + 1 } }
    if s1.sec.fails = 3 then entropyState s1 2 (s.rd SEC_STATUS_DRBG) 2 else s1

/-- SEED_REWRITE (R480): slot 7 takes 256 bits of fresh output. -/
def execSeedRewrite (s : State) : Res := whileCd s <|
  if seeded s then setKey (freeNext s) 7 (randomBytes s 32) else s

/-- TRNG_CONTINUOUS_FAIL (R483). -/
def execTrngContinuousFail (s : State) : Res := whileCd s <|
  if s.rd SEC_STATUS_TRNG = 1 then
    entropyState { s.bump SEC_CNT_HEALTH_FAILS 1 with sec := { s.sec with fails := 0 } } 2 (s.rd SEC_STATUS_DRBG) 3
  else s

/-- RESEED_DUE (R480): after RESEED_N requests or 60 s the DRBG is reseeded; where the TRNG supplies no entropy, it is due. -/
def execReseedDue (s : State) : Res := whileCd s <|
  if seeded s && (decide (s.rd SEC_CFG_RESEED_N ≤ s.sec.requests) || lasted s s.sec.seededAt 60000000) then
    if s.rd SEC_STATUS_TRNG = 1 then { s with sec := { s.sec with requests := 0, seededAt := s.now } }
    else entropyState s (s.rd SEC_STATUS_TRNG) 2 4
  else s

/-! ### Ciphers, hashes and signatures (Table 22.3) -/

/-- AES_GCM. -/
def execSecAesGcm (h : DHdr) (b : List Byte) (s : State) : Res :=
  sec 2 false false ([16, 17, 18, 19, 20, 21, 22, 23] ++ addrs 3) h b s (fun t =>
    let dir := leAt b 16 1
    let k := leAt b 17 1
    let aad := leAt b 18 2
    let len := leAt b 20 4
    if 2 ≤ dir ∨ 1024 < aad ∨ 65536 < len then secEnd t h 2 BAD_FIELD
    else if !keyAllowed t h.part.val k then secEnd t h 2 KEY_DENIED
    else withIn t h 2 (leAt b 24 8) (len + 16 * dir) (fun u src =>
      let dst (v : State) (f : State → Nat → State) : State :=
        if len = 0 ∧ dir = 1 then f v 0 else withOut v h 2 (leAt b 32 8) (len + 16 * (1 - dir)) f
      dst u (fun v a => withIn v h 2 (leAt b 40 8) (12 + aad) (fun w iva =>
        if dir = 0 then
          secOut w h 2 a (padTo (len + 16) (Config.gcmSeal (keyAt w k) (iva.take 12) (iva.drop 12) src))
        else match Config.gcmOpen (keyAt w k) (iva.take 12) (iva.drop 12) src with
          | some d => secOut w h 2 a (padTo len d)
          | none => secEnd w h 2 VERIFY_FAIL))))

/-- SHA256. -/
def execSecSha256 (h : DHdr) (b : List Byte) (s : State) : Res :=
  sec 3 false true ([20, 21, 22, 23] ++ addrs 2) h b s (fun t =>
    let len := leAt b 20 4
    if 16777216 < len then secEnd t h 3 BAD_FIELD
    else withIn t h 3 (leAt b 24 8) len (fun u src =>
      withOut u h 3 (leAt b 32 8) 32 (fun v a => secOut v h 3 a (sha src))))

/-- HKDF. -/
def execSecHkdf (h : DHdr) (b : List Byte) (s : State) : Res :=
  sec 4 false false ([16, 17, 18, 19, 20, 21] ++ addrs 1) h b s (fun t =>
    let src := leAt b 16 1
    let dst := leAt b 17 1
    let olen := leAt b 18 1
    let salt := leAt b 19 1
    let info := leAt b 20 2
    if dst < 16 ∨ 31 < dst ∨ (olen ≠ 16 ∧ olen ≠ 32) ∨ 64 < salt ∨ 255 < info then secEnd t h 4 BAD_FIELD
    else if !keyAllowed t h.part.val src || !mayWrite t h.part.val dst then secEnd t h 4 KEY_DENIED
    else withIn t h 4 (leAt b 24 8) (salt + info) (fun u d =>
      secEnd (setVolatile u h.part.val dst (padTo olen (Config.hkdf (keyAt u src) (d.take salt) (d.drop salt) olen))) h 4 OK))

/-- ECDSA_SIGN: slot 0, for partitions that SEC_KEY_USE0 permits. -/
def execSecEcdsaSign (h : DHdr) (b : List Byte) (s : State) : Res :=
  sec 5 false false (addrs 2) h b s (fun t =>
    if !slotFilled t 0 || !bit (t.rd (SEC_KEY_USE_PARTS 0)) h.part.val then secEnd t h 5 KEY_DENIED
    else withIn t h 5 (leAt b 24 8) 32 (fun u d => withOut u h 5 (leAt b 32 8) 64 (fun v a =>
      secOut (freeNext v) h 5 a (padTo 64 (Config.ecdsaSign v.freeCtr (keyAt v 0) d)))))

/-- ECDSA_VERIFY. -/
def execSecEcdsaVerify (h : DHdr) (b : List Byte) (s : State) : Res :=
  sec 6 false true (addrs 3) h b s (fun t =>
    withIn t h 6 (leAt b 24 8) 65 (fun u pub => withIn u h 6 (leAt b 32 8) 32 (fun v d =>
      withIn v h 6 (leAt b 40 8) 64 (fun w sig =>
        secEnd w h 6 (if Config.ecdsaVerify pub d sig then OK else VERIFY_FAIL)))))

/-- MLDSA_VERIFY. -/
def execSecMldsaVerify (h : DHdr) (b : List Byte) (s : State) : Res :=
  sec 7 false true ([17, 20, 21, 22, 23] ++ addrs 4) h b s (fun t =>
    let n := leAt b 20 4
    if 65536 < n then secEnd t h 7 BAD_FIELD
    else withIn t h 7 (leAt b 24 8) n (fun u msg => withIn u h 7 (leAt b 32 8) 1952 (fun v pub =>
      withIn v h 7 (leAt b 40 8) 3309 (fun w sig => withIn w h 7 (leAt b 48 8) (leAt b 17 1) (fun x ctx =>
        secEnd x h 7 (if Config.mldsaVerify pub msg ctx sig then OK else VERIFY_FAIL))))))

/-- CMAC. -/
def execSecCmac (h : DHdr) (b : List Byte) (s : State) : Res :=
  sec 10 false false ([17, 20, 21, 22, 23] ++ addrs 2) h b s (fun t =>
    let k := leAt b 17 1
    let len := leAt b 20 4
    if 65536 < len then secEnd t h 10 BAD_FIELD
    else if !keyAllowed t h.part.val k then secEnd t h 10 KEY_DENIED
    else withIn t h 10 (leAt b 24 8) len (fun u d => withOut u h 10 (leAt b 32 8) 16 (fun v a =>
      secOut v h 10 a (beBytes 16 (Config.cmac (keyAt v k) d).toNat))))

/-! ### Keys (R477, R478) -/

/-- KEY_LOAD. -/
def execSecKeyLoad (h : DHdr) (b : List Byte) (s : State) : Res :=
  sec 8 false false ([16, 17] ++ addrs 1) h b s (fun t =>
    let k := leAt b 16 1
    let n := leAt b 17 1
    if k < 16 ∨ 31 < k ∨ (n ≠ 16 ∧ n ≠ 32) then secEnd t h 8 BAD_FIELD
    else if !mayWrite t h.part.val k then secEnd t h 8 KEY_DENIED
    else withIn t h 8 (leAt b 24 8) n (fun u key => secEnd (setVolatile u h.part.val k key) h 8 OK))

/-- KEY_CLEAR. -/
def execSecKeyClear (h : DHdr) (b : List Byte) (s : State) : Res :=
  sec 9 false false [16] h b s (fun t =>
    let k := leAt b 16 1
    if k < 16 ∨ 31 < k then secEnd t h 9 BAD_FIELD
    else if !keyAllowed t h.part.val k then secEnd t h 9 KEY_DENIED
    else secEnd (clearSlots t (· == k)) h 9 OK)

/-- PUBKEY. -/
def execSecPubkey (h : DHdr) (b : List Byte) (s : State) : Res :=
  sec 11 false false ([16] ++ addrs 1) h b s (fun t =>
    let k := leAt b 16 1
    if 2 ≤ k then secEnd t h 11 BAD_FIELD
    else if !slotFilled t k || (k == 0 && !bit (t.rd (SEC_KEY_USE_PARTS 0)) h.part.val) then secEnd t h 11 KEY_DENIED
    else withOut t h 11 (leAt b 24 8) 65 (fun u a => secOut u h 11 a (padTo 65 (Config.publicKey (keyAt u k)))))

/-- The key lengths a provisionable slot takes. -/
def provisionLens (k : Nat) : List Nat := if k = 5 then [16] else if k < 8 then [32] else [16, 32]

/-- KEY_PROVISION (R477). -/
def execKeyProvision (h : DHdr) (b : List Byte) (s : State) : Res :=
  sec 12 true false ([16, 17] ++ addrs 1) h b s (fun t =>
    let k := leAt b 16 1
    let n := leAt b 17 1
    if isSealed t then secEnd (violate t) h 12 KEY_DENIED
    else if k < 2 || k == 7 || 16 ≤ k || bit (t.rd SEC_KEY_STATE_FILLED) k then secEnd t h 12 KEY_DENIED
    else if !(provisionLens k).contains n then secEnd t h 12 BAD_FIELD
    else withIn t h 12 (leAt b 24 8) n (fun u key => secEnd (setKey u k key) h 12 OK))

/-! ### MACsec associations (R368, R485) -/

/-- The key length of a port's cipher. -/
def saLen (s : State) (port : Nat) : Nat := if s.rd (SW_MSEC_CFG_CIPHER port) % 2 = 0 then 16 else 32

/-- The body bytes that an MSEC_INSTALL lists. -/
def msecListed (s : State) (b : List Byte) : List Nat :=
  let port := leAt b 16 1
  let inl := leAt b 19 1 / 2 % 4 == 0
  [16, 17, 18, 19] ++ (if bit (leAt b 19 1) 1 then [20] else []) ++ addrs 1
    ++ (if xpn s port then (List.range 16).map (32 + ·) ++ (if inl && saLen s port == 16 then (List.range 16).map (48 + ·) else [])
        else if inl then (List.range (saLen s port)).map (32 + ·) else [])

/-- A transmit SA comes into use. -/
def useSa (s : State) (port an : Nat) (a : Sa) : State :=
  let s1 := { s with sw := { s.sw with txSa := tabPut (tabDel s.sw.txSa (8 + port * 4 + an)) (port * 4 + an) a } }
  ((s1.wr (SW_MSEC_STAT_TX_AN port) an).put (SW_MSEC_STAT_TX_ACTIVE port) true).put (SW_MSEC_STAT_PN_WARN port) false

/-- An SA is installed. -/
def installSa (s : State) (port dir an : Nat) (use : Bool) (a : Sa) : State :=
  let k := port * 4 + an
  if dir = 1 then
    ({ s with sw := { s.sw with rxSa := tabPut s.sw.rxSa k a } }).orF (SW_MSEC_STAT_RX_AN_VALID port) (2 ^ an)
  else if use then useSa s port an a
  else { s with sw := { s.sw with txSa := tabPut s.sw.txSa (8 + k) a } }

/-- MSEC_INSTALL (R368, R485). -/
def execMsecInstall (h : DHdr) (b : List Byte) (s : State) : Res :=
  sec 16 true false ((List.range 48).map (16 + ·)) h b s (fun t =>
    let port := leAt b 16 1
    let dir := leAt b 17 1
    let an := leAt b 18 1
    let fl := leAt b 19 1
    let k := leAt b 20 1
    let x := xpn t port
    let fromSlot := bit fl 1
    let noKey := bit fl 2
    let no (st : Nat) : State := secEnd t h 16 st
    if 8 ≤ fl then no RESERVED_NONZERO
    else if 2 ≤ port ∨ 2 ≤ dir ∨ 4 ≤ an then no BAD_FIELD
    else if bodyDirty b (msecListed t b) then no RESERVED_NONZERO
    else if noKey then
      match if fl = 5 ∧ dir = 0 then tabFind t.sw.txSa (8 + port * 4 + an) else none with
      | some a => secEnd (useSa t port an a) h 16 OK
      | none => no BAD_FIELD
    else if (fromSlot ∧ (k < 8 ∨ 31 < k)) ∨ (!fromSlot ∧ x ∧ saLen t port = 32) then no BAD_FIELD
    else if fromSlot && (!keyAllowed t 0 k || (keyAt t k).length != saLen t port) then no KEY_DENIED
    else
      let key := if fromSlot then keyAt t k else slice b (if x then 48 else 32) (saLen t port)
      let a : Sa := { key := key, ssci := if x then leAt b 32 4 else 0, salt := if x then slice b 36 12 else [],
                      pn := leAt b 24 8, warned := false }
      secEnd (installSa t port dir an (bit fl 0) a) h 16 OK)

/-- MSEC_RETIRE (R368): the SA is removed and its key cleared; retiring the transmit SA in use leaves none. -/
def execMsecRetire (h : DHdr) (b : List Byte) (s : State) : Res :=
  sec 17 true false [16, 17, 18] h b s (fun t =>
    let port := leAt b 16 1
    let dir := leAt b 17 1
    let an := leAt b 18 1
    let k := port * 4 + an
    if 2 ≤ port ∨ 2 ≤ dir ∨ 4 ≤ an then secEnd t h 17 BAD_FIELD
    else if dir = 1 then
      let m := t.rd (SW_MSEC_STAT_RX_AN_VALID port)
      secEnd ({ t with sw := { t.sw with rxSa := tabDel t.sw.rxSa k } }.wr (SW_MSEC_STAT_RX_AN_VALID port)
        (if bit m an then m - 2 ^ an else m)) h 17 OK
    else
      let u := { t with sw := { t.sw with txSa := tabDel (tabDel t.sw.txSa k) (8 + k) } }
      secEnd (if t.rd (SW_MSEC_STAT_TX_AN port) = an then u.put (SW_MSEC_STAT_TX_ACTIVE port) false else u) h 17 OK)

/-! ### Debug unlock (R486) -/

/-- A challenge may be issued. -/
def challengeOpen (s : State) : Bool :=
  seeded s && s.sec.dbgFails < 8 && (match s.sec.failAt with | some t => decide (32768 ≤ s.now - t) | none => true)
    && !(isSealed s && s.flag SEC_CFG_DBG_NEVER)

/-- DBG_AUTH_CHALLENGE: a read of the DBG_AUTH data register. -/
def execDbgAuthChallenge (s : State) : Res := whileCd s <|
  if challengeOpen s then
    let n := randomBytes s 32
    emit { freeNext s with sec := { s.sec with nonce := some (n, s.now) } } (.challenge (uidBytes s ++ n))
  else emit s (.challenge (List.replicate 48 0))

/-- The response is that of the debug authority to the challenge outstanding: SCOPE, reserved, key and signature. -/
def responseOk (s : State) (r : List Byte) : Bool :=
  match s.sec.nonce with
  | none => false
  | some (n, t) => s.now - t ≤ 60 * 32768 && slotFilled s 4 && sha (slice r 7 65) == keyAt s 4
      && Config.ecdsaVerify (slice r 7 65) (sha (ascii "ozjor-debug" ++ uidBytes s ++ n ++ slice r 0 4)) (slice r 72 64)

/-- DBG_AUTH_RESPONSE: 136 bytes written to DBG_AUTH. -/
def execDbgAuthResponse (r : List Byte) (s : State) : Res := whileCd s <|
  let s1 := { s with sec := { s.sec with nonce := none } }
  if responseOk s r then
    let scope := leAt r 0 1 % 8
    let pl := [byte scope, byte s.sec.dbgFails]
    tally (raise (s1.orF SEC_STATUS_DBG_OPEN scope) 73 true (p0Safety s) pl) 18
      (pl ++ [0, 0] ++ (sha (slice r 7 65)).take 8)
  else { s1.bump SEC_CNT_DBG_FAILS 1 with sec := { s1.sec with dbgFails := s.sec.dbgFails + 1, failAt := some s.now } }

end Sys2Proof.Machine
end

