-- ==== Sys2Proof/Machine/Boot.lean ====
section
/-! DEFINITION.
Updates and the boot ROM (R479, R490 to R495): landing slots, activation, trial, confirmation, revert and secure boot.
-/

namespace Sys2Proof.Machine

/-! ### Landing and arming (R490) -/

/-- The body of an UPD opcode. -/
def upd (op : Nat) (h : DHdr) (b : List Byte) (s : State) (f : Nat → State → State) : Res :=
  sec op true false [16] h b s (fun t =>
    let l := leAt b 16 1
    if (if op = 0x22 ∨ op = 0x23 then 1 else 2) ≤ l then secEnd t h op BAD_FIELD else f l t)

/-- A control command turned away by the state. -/
def updNo (s : State) (h : DHdr) (op r : Nat) : State := complete s SEC h op BAD_FIELD [byte r]

/-- UPD_VERIFY: beside its two signatures, the bytes of its frames and the opening of its wrap are charged (Table 6.10); `media`
tells of an uncorrectable read of the slot. -/
def execUpdVerify (h : DHdr) (b : List Byte) (media : Bool) (s : State) : Res :=
  upd 0x20 h b s (fun l t0 =>
    let t := charge t0 h.part.val SEC (1024 * (announced t0 l + payloads t0 l (landedManifest t0 l)) + 4)
    let r := bundleCheck t (uidBytes t) l media
    complete (writeRecord (setSlot t l (if r.1 = 0 then 1 else 2))) SEC h 0x20 (if r.1 = 0 then OK else VERIFY_FAIL)
      ([byte r.1, 0, 0, 0] ++ leBytes 4 (mBundle r.2.1)))

/-- UPD_ARM. -/
def execUpdArm (h : DHdr) (b : List Byte) (s : State) : Res :=
  upd 0x21 h b s (fun l t =>
    if slotState t l ≠ 1 then updNo t h 0x21 20
    else if t.flag UPD_STATUS_TRIAL then updNo t h 0x21 21
    else
      let u := { t.wr UPD_STATUS_ARMED (l + 1) with
        upd := if l = 0 then { t.upd with attempts0 := 0 } else { t.upd with attempts1 := 0 } }
      secEnd (writeRecord u) h 0x21 OK)

/-- UPD_DISARM. -/
def execUpdDisarm (h : DHdr) (b : List Byte) (s : State) : Res :=
  upd 0x22 h b s (fun _ t => secEnd (writeRecord (t.wr UPD_STATUS_ARMED 0)) h 0x22 OK)

/-- The rollback counter only rises (R493). -/
def raiseCounter (s : State) (v : Nat) : State := s.wr UPD_RB_RB_COUNTER (max v (s.rd UPD_RB_RB_COUNTER))

/-- The SVN of the active bank. -/
def activeSvn (s : State) : Nat := s.rd (UPD_BANK_SVN_SVN (s.rd UPD_STATUS_ACTIVE_BANK))

/-- UPD_CONFIRM (R493). -/
def execUpdConfirm (h : DHdr) (b : List Byte) (s : State) : Res :=
  upd 0x23 h b s (fun _ t =>
    if !t.flag UPD_STATUS_TRIAL then updNo t h 0x23 22
    else
      let u := (((t.put UPD_STATUS_TRIAL false).wr UPD_STATUS_TRIES 0).wr UPD_STATUS_LAST_OUTCOME 4).wr UPD_LEFT_SECONDS 0
      secEnd (raiseCounter (writeRecord { u with upd := { u.upd with expired := false } }) (activeSvn u)) h 0x23 OK)

/-! ### Trial (R492, R494) -/

/-- The RTC time since the start that entered TRIAL has reached a number of quarter seconds (R492). -/
def trialLasted (s : State) (sec4 : Nat) : Bool := decide (sec4 * 8192 ≤ rtcSince s s.upd.trialRtc)

/-- CONFIRM_DEADLINE (R492): a device reset that the next cold start answers with a revert. -/
def execConfirmDeadline (s : State) : Res :=
  .next (if s.flag UPD_STATUS_TRIAL && trialLasted s (4 * s.upd.confirmS) then
      let s1 := { s with upd := { s.upd with expired := true } }
      showDomains (if cdUp s then commandReset s1 3
        else if s.pwr.ps = .deep ∧ s.pwr.seq.isNone then deviceReset (s1.orF SPR_RST_CAUSE_CAUSE 8)
        else s1.orF SPR_RST_CAUSE_CAUSE 8)
    else s)

/-- UPD_CONFIRM_DUE (R494): 75 % of CONFIRM_S has passed. -/
def execUpdConfirmDue (s : State) : Res := whileCd s <|
  if s.flag UPD_STATUS_TRIAL && trialLasted s (3 * s.upd.confirmS) then
    raise s 76 false [0] ([2, 0] ++ leBytes 2 (s.upd.confirmS - s.upd.confirmS * 3 / 4))
  else s

/-! ### Activation (R491) -/

/-- Attempts of a slot. -/
def attemptsOf (s : State) (l : Nat) : Nat := if l = 0 then s.upd.attempts0 else s.upd.attempts1

/-- UPD_ACTIVATION, held for P0, with its tally record (Table 22.7). -/
def tellActivation (s : State) (outcome slot reason bank : Nat) (m : List Byte) : State :=
  let pl := [byte outcome, byte slot, byte reason, byte bank] ++ leBytes 4 (mBundle m) ++ leBytes 4 (mSvn m)
  tally (holdEvent s 0 74 true pl) 20 pl

/-- A failed activation: the slot is FAILED and disarmed, and the active bank unchanged. -/
def activationFailed (s : State) (l reason : Nat) (m : List Byte) : State :=
  let s1 := (((setSlot s l 2).wr UPD_STATUS_ARMED 0).wr UPD_STATUS_LAST_OUTCOME 2).wr UPD_STATUS_LAST_REASON reason
  tellActivation (writeRecord s1) 2 l reason (s.rd UPD_STATUS_ACTIVE_BANK) m

/-- The blocks an activation writes to the inactive bank, in order: the plaintext from block 64, then the manifest. -/
def activationBlocks (plain m : List Byte) : List (Nat × List Byte) :=
  (List.range ((plain.length + 4095) / 4096)).map (fun i => (64 + i, slice plain (4096 * i) 4096))
    ++ (List.range 64).map (fun i => (i, slice m (4096 * i) 4096))

/-- Write blocks to a bank. -/
def writeBank (s : State) (bank : Nat) (l : List (Nat × List Byte)) : State :=
  l.foldl (fun t x => putBlk t 14 (bankBase bank + x.1) x.2) s

/-- Step 5: the new bank is active on trial. -/
def activated (s : State) (l bank : Nat) (m : List Byte) : State :=
  let s1 := ((((setSlot s l 3).wr UPD_STATUS_ARMED 0).wr UPD_STATUS_ACTIVE_BANK bank).wr UPD_STATUS_TRIAL 1).wr UPD_STATUS_TRIES 0
  let s2 := ((s1.wr (UPD_BANK_BUNDLE_ID bank) (mBundle m)).wr (UPD_BANK_SVN_SVN bank) (mSvn m)).wr UPD_STATUS_LAST_OUTCOME 1
  let s3 := (s2.wr UPD_STATUS_LAST_REASON 0).wr UPD_LEFT_SECONDS (leAt m 44 2)
  let s4 := { s3 with upd := { s3.upd with trialMax := leAt m 42 1, confirmS := leAt m 44 2, trialRtc := rtc s, expired := false } }
  tellActivation (holdEvent (writeRecord s4) 0 76 false ([1, 0] ++ leBytes 2 (leAt m 44 2))) 1 l 0 bank m

/-- Activation of an armed slot (R491). `media` tells of an uncorrectable read of the slot, `badWrite` of a failed bank
write; `cut` is how many blocks of the bank had been written when the supply was lost, if it was. -/
def activate (s : State) (l : Nat) (media badWrite : Bool) (cut : Option Nat) : State :=
  if 3 ≤ attemptsOf s l then activationFailed s l 12 (landedManifest s l)
  else
    let s1 := writeRecord { s with upd := if l = 0 then { s.upd with attempts0 := s.upd.attempts0 + 1 }
                                          else { s.upd with attempts1 := s.upd.attempts1 + 1 } }
    let r := bundleCheck s1 (uidBytes s1) l media
    let bank := 1 - s.rd UPD_STATUS_ACTIVE_BANK
    let blks := activationBlocks r.2.2 r.2.1
    match cut with
    | some n => if r.1 = 0 then writeBank s1 bank (blks.take n) else s1
    | none =>
      if r.1 ≠ 0 then activationFailed s1 l r.1 r.2.1
      else if badWrite then activationFailed (writeBank s1 bank (blks.take (freeDraw s1).toNat)) l 13 r.2.1
      else activated (writeBank s1 bank blks) l bank r.2.1

/-! ### Secure boot (R479, R492) -/

/-- The previous bank becomes active and CONFIRMED: cause 1 TRIAL_MAX, 2 deadline, 3 bank invalid. -/
def revert (s : State) (cause : Nat) : State :=
  let old := s.rd UPD_STATUS_ACTIVE_BANK
  let s1 := ((s.wr UPD_STATUS_ACTIVE_BANK (1 - old)).wr UPD_STATUS_TRIAL 0).wr UPD_STATUS_TRIES 0
  let s2 := (s1.wr UPD_STATUS_LAST_OUTCOME 3).wr UPD_LEFT_SECONDS 0
  let pl := [byte cause, byte (1 - old), 0, 0] ++ leBytes 4 (s.rd (UPD_BANK_BUNDLE_ID old))
  tally (holdEvent (writeRecord { s2 with upd := { s2.upd with expired := false } }) 0 75 true pl) 21 pl

/-- The deadline of R492 has passed. -/
def deadlinePassed (s : State) : Bool := s.upd.expired || trialLasted s (4 * s.upd.confirmS)

/-- What a trial comes to at a cold start: the revert, or one more try. `ok` says which banks pass R479. -/
def settleTrial (s : State) (ok : Nat → Bool) : State :=
  let bank := s.rd UPD_STATUS_ACTIVE_BANK
  let can := ok (1 - bank)
  if !s.flag UPD_STATUS_TRIAL then s
  else
    let cause := if deadlinePassed s then 2 else if s.rd UPD_STATUS_TRIES = s.upd.trialMax then 1
      else if !ok bank then 3 else 0
    if cause ≠ 0 ∧ can then revert s cause
    else if cause = 0 then writeRecord (s.wr UPD_STATUS_TRIES (s.rd UPD_STATUS_TRIES + 1))
    else s

/-- Load a component of a bank to its address (R479, step 4). -/
def loadComp (bank : Nat) (s : State) (c : Comp) : State := writeBytes s c.load (bankBytes s bank c.offset c.length)

/-- A bank's images are loaded, and the hand-over can follow. -/
def startBank (s : State) (bank : Nat) : State :=
  let m := bankManifest s bank
  let s1 := (ofKind m 1 ++ ofKind m 2).foldl (loadComp bank) s
  let s2 := if (ofKind m 2).isEmpty then s1 else emit s1 .islandStart
  { s2 with pwr := { s2.pwr with bootDone := true, bootEntry := ((ofKind m 1).map (·.entry)).headD 0 } }

/-- Neither bank passes: BOOT_NONE is recorded, and the control die, held in reset, sends no frame (R479). -/
def bootNone (s : State) (r0 r1 : Nat) : State := controlLost (tally s 19 [byte r0, byte r1]) 1

/-- SECURE_BOOT (R479): at a cold start after the mount of NS14 and NS15. `media` tells of an uncorrectable read of the armed
slot, `badWrite` of a failed bank write, `bad0` and `bad1` of an uncorrectable read of a bank; `cut` ends the activation by a
loss of supply, before anything starts. -/
def execSecureBoot (media badWrite bad0 bad1 : Bool) (cut : Option Nat) (s : State) : Res := whileCd s <|
  if s.pwr.cd != .boot || s.pwr.bootDone || !mounted s 14 then s
  else
    let armed := s.rd UPD_STATUS_ARMED
    let s1 := if armed = 0 then s else activate s (armed - 1) media badWrite cut
    if armed ≠ 0 ∧ cut.isSome then s1
    else
      let uid := uidBytes s1
      let why (b : Nat) : Nat := bankCheck s1 uid b (if b = 0 then bad0 else bad1)
      let s2 := settleTrial s1 (fun b => why b == 0)
      let s3 := if s2.flag UPD_STATUS_TRIAL then s2 else raiseCounter s2 (activeSvn s2)
      let a := s3.rd UPD_STATUS_ACTIVE_BANK
      let ok (b : Nat) : Bool := why b == 0 && s3.rd UPD_RB_RB_COUNTER ≤ mSvn (bankManifest s3 b)
      if ok a then startBank s3 a
      else if ok (1 - a) then startBank s3 (1 - a)
      else bootNone s3 (why 0) (why 1)

end Sys2Proof.Machine
end

