-- ==== Sys2Proof/Machine/Faults.lean ====
section
/-! DEFINITION.
Events and faults that belong to no single function (chapter 24): memory errors, package links, the loss of the control
die, held events, lockstep faults and fault injection.
-/

namespace Sys2Proof.Machine

/-! ### Injection (R526) -/

/-- P0 may inject: before seal, or with processor debug open. -/
def mayInject (s : State) : Bool := !isSealed s || bit (s.rd SEC_STATUS_DBG_OPEN) 0

/-- An armed injection of a kind and target produces this fault: it is used up by one, and the fault carries INJECTED. -/
def takeInj (s : State) (kind id : Nat) : State × Bool :=
  match s.flt.inj with
  | some x =>
    if x.kind = kind ∧ x.id = id ∧ x.left ≠ 0 then
      let left := x.left - 1
      (({ s with flt := { s.flt with inj := if left = 0 then none else some { x with left := left } } }).wr
        EVT_INJ_STATUS_PENDING left).bump EVT_INJ_STATUS_DONE 1 |> (·, true)
    else (s, false)
  | none => (s, false)

/-- EVT_INJ_ARM: the fields take the word, and ARM arms the injection they describe; a lane down for COUNT ms is one injection. -/
def execEvtInjArm (w : Writer) (v : Word) (s : State) : Res := whileCd s <|
  if w = .safety || !mayInject s then violate s
  else
    let kind := fieldIn EVT_INJ_KIND v
    let id := fieldIn EVT_INJ_ID v
    let n := if kind = 5 ∨ kind = 6 then 1 else if kind = 4 then min 1 (fieldIn EVT_INJ_COUNT v) else fieldIn EVT_INJ_COUNT v
    let s1 := ((s.wr EVT_INJ_KIND kind).wr EVT_INJ_ID id).wr EVT_INJ_COUNT (fieldIn EVT_INJ_COUNT v)
    if fieldIn EVT_INJ_ARM v = 1 ∧ 1 ≤ kind ∧ kind ≤ 6 then
      { s1.wr EVT_INJ_STATUS_PENDING n with
        flt := { s1.flt with inj := if n = 0 then none else some ⟨kind, if kind = 5 then id % 2 else id, n⟩
                             skip := kind == 6 } }
    else s1

/-- The class of a source, and whether it is ever raised (Table 24.2). -/
def classS (src : Nat) : Bool :=
  [2, 3, 5, 7, 9, 11, 23, 34, 42, 45, 57, 63, 65, 68, 69, 70, 71, 72, 73, 74, 75, 77, 81, 83, 87, 89, 92, 93, 98, 101,
   102, 103].contains src
def everRaised (src : Nat) : Bool :=
  src < 104 && !([12, 13, 14, 15, 37, 38, 39, 52, 53, 54, 55, 78, 79, 94, 95].contains src)

/-- The recipients of a source whose payload is zero: owners of the resources numbered 0 that the payload then names. -/
def zeroRcpt (s : State) (src : Nat) : List Nat :=
  match src with
  | 1 => runningParts s
  | 3 => p0Safety s
  | 4 => [ownerOr0 s 14 0]
  | 5 => [ownerOr0 s 14 0]
  | 7 => p0Safety s
  | 23 => ownerOr0 s 2 0 :: (safetyPart s).toList
  | 32 => [ownerOr0 s 6 0]
  | 33 => [ownerOr0 s 6 0]
  | 40 => 0 :: remoteParts s
  | 48 => [ownerOr0 s 7 0]
  | 49 => [ownerOr0 s 7 0]
  | 50 => [ownerOr0 s 8 0]
  | 51 => [ownerOr0 s 9 0]
  | 56 => 0 :: wbOwners s
  | 57 => nsRcpt s 0
  | 58 => [ownerOr0 s 10 0]
  | 59 => nsRcpt s 0
  | 62 => nsRcpt s 0
  | 64 => [ownerOr0 s 11 0]
  | 65 => 0 :: s.inf.ctxs.map (fun e => ownerOr0 s 11 e.1)
  | 66 => [ownerOr0 s 11 0]
  | 67 => [ownerOr0 s 11 0]
  | 69 => (safetyPart s).toList ++ [ownerOr0 s (s.rd (BRD_BIND0_KIND 0)) (s.rd (BRD_BIND0_INDEX 0))]
  | 70 => p0Safety s
  | 71 => p0Safety s
  | 73 => p0Safety s
  | 83 => p0Safety s
  | 85 => [ownerOr0 s 3 0]
  | 92 => p0Safety s
  | _ => [0]

/-- EVT_RAISE. -/
def execEvtRaise (w : Writer) (v : Word) (s : State) : Res := whileCd s <|
  let src := fieldIn EVT_RAISE_SOURCE v
  if w = .safety || !mayInject s || 104 ≤ src then violate s
  else if everRaised src then raise s src (classS src) (zeroRcpt s src) []
  else s

/-! ### Memory errors (R517 to R519) -/

/-- The partitions with a window over a physical address. -/
def windowOver (s : State) (addr : Nat) : List Nat :=
  (List.range 8).filter (fun p => match entryOf s p with
    | some e => e.windows.any (fun w => w.size != 0 && w.target ≤ addr && addr < w.target + 2 ^ w.size)
    | none => false)

/-- An error joins those of the last second of its memory. -/
def noteErr (s : State) (mem : Nat) : State :=
  let l := (tabGet [] s.flt.errs mem).filter (fun t => s.now - t < 32768) ++ [s.now]
  { s with flt := { s.flt with errs := tabPut s.flt.errs mem l } }

/-- The ECC payload (R519). -/
def eccPayload (s : State) (mem addr : Nat) (scrub inj : Bool) : List Byte :=
  [byte mem, byte ((if scrub then 1 else 0) + (if inj then 128 else 0))]
    ++ leBytes 2 (min 65535 (tabGet [] s.flt.errs mem).length) ++ leBytes 8 addr

/-- A corrected error: counted, with ECC_CORRECTED. -/
def eccCorrected (s : State) (mem addr : Nat) (scrub inj : Bool) : State :=
  let s1 := noteErr s mem
  raise (s1.bump (EVT_ECC_CNT_CE mem) 1) 100 false [0] (eccPayload s1 mem addr scrub inj)

/-- An uncorrectable error: counted, shown, raised and recorded. -/
def eccFatal (s : State) (mem addr : Nat) (scrub inj : Bool) : State :=
  let s1 := noteErr s mem
  let pl := eccPayload s1 mem addr scrub inj
  let s2 := ((s1.bump (EVT_ECC_CNT_UE mem) 1).wr EVT_ECC_LAST_ADDR addr).wr EVT_ECC_LAST_ID mem
  let rcpt := 0 :: (if mem = 3 ∨ mem = 4 then windowOver s addr else []) ++ (if mem = 4 then (safetyPart s).toList else [])
  tally (raise s2 101 true rcpt pl) 32 pl

/-- An engine meets an uncorrectable word: the descriptor completes with WINDOW_FAULT (R518). -/
def eccEngine (s : State) (addr : Nat) (hit : EccAt) : State :=
  match hit with
  | .work i => match s.rng.work[i]? with
    | some w => if w.started then s
        else finish (windowFault s w.hdr.part.val w.eng w.hdr.ring.val addr) w.eng w.hdr w.opcode WINDOW_FAULT []
    | none => s
  | .slot p e r corrupt =>
    let g := ringAt s (ringKey p.val e.val r.val)
    if !g.armed || partState s p.val != 2 || g.prod == g.cons || 2 ^ (ringAt s (ringKey p.val e.val 4)).size ≤ reserved s p.val e.val
    then s
    else
      let b := (nextSlot s p.val e.val r.val g).getD []
      let s1 := takeSlot s p.val e.val r.val
      let h0 := headerOf p r b ((g.cons + 1) % 2 ^ 32)
      let h := if corrupt then { h0 with tag := 0 } else h0
      finish (windowFault s1 p.val e.val r.val addr) e.val h (if corrupt then 0 else leAt b 0 1) WINDOW_FAULT []
  | _ => s

/-- One half of a tally slot becomes damaged (R505). -/
def eccTally (s : State) (hit : EccAt) : State :=
  match hit with
  | .tally area slot second =>
    let t := if area = 0 then s.tly.ring else s.tly.first
    let p := tabGet erasedPair t slot
    let t' := tabSet erasedPair t slot (if second then ⟨p.a, .damaged⟩ else ⟨.damaged, p.b⟩)
    { s with tly := if area = 0 then { s.tly with ring := t' } else { s.tly with first := t' } }
  | _ => s

/-- A vault slot becomes unusable until a device reset: cause 1 for the fuses, 2 where the second copy disagrees. -/
def keyFault (s : State) (k : Nat) : State :=
  if 32 ≤ k ∨ s.sec.faulty.contains k then s
  else raise { s with sec := { s.sec with faulty := s.sec.faulty ++ [k] } } 77 true [0]
    [byte k, byte (if (5 ≤ k ∧ k ≤ 7) ∨ 16 ≤ k then 2 else 1)]

/-- What an uncorrectable error of a memory does (Table 24.4). An access fault of a core acts on the core alone; the errors
of the inference memories, the spar RAM, the scaler RAM and the store die act through their own commands. -/
def eccEffect (s : State) (mem addr : Nat) (hit : EccAt) : State :=
  match mem with
  | 3 => eccEngine s addr hit
  | 4 => eccEngine s addr hit
  | 5 => if cdUp s then controlLost s 1 else { s with pwr := { s.pwr with shadow := false } }
  | 6 => if s.pwr.cd == .boot then controlLost s 1 else s
  | 7 => if (tabFind s.sw.table addr).isSome then setEnt s addr none else s
  | 8 => match hit with
    | .queue p c => setQueue s p c ((queueOf s p c).drop 1)
    | _ => s
  | 10 => keyFault s addr
  | 11 => eccEngine s addr hit
  | 14 => eccTally s hit
  | _ => s

/-- The memory's die has power: the control die for memories 0 to 11, or on the resume path for memory 5; the power die for
the spar and scaler RAM and the tally. -/
def memPowered (s : State) (mem : Nat) : Bool :=
  if mem = 5 then cdUp s || s.pwr.shadow else if mem ≤ 11 ∨ mem = 15 then cdUp s else true

/-- An error counts as correctable: every error of memory 0, and one in a clean line of memories 1 and 2 (Table 24.4). -/
def refetched (mem : Nat) (hit : EccAt) : Bool := mem == 0 || ((mem == 1 || mem == 2) && hit != .dirty)

/-- ECC_ERROR (R517): an access finds an error. -/
def execEccError (mem : Fin 16) (ue : Bool) (addr : Nat) (hit : EccAt) (s : State) : Res :=
  let m := mem.val
  .next (if !memPowered s m then s
    else
      let (s1, inj) := takeInj s (if ue then 2 else 1) m
      if !ue || refetched m hit then eccCorrected s1 m addr false inj else eccEffect (eccFatal s1 m addr false inj) m addr hit)

/-- A word that the scrubber finds uncorrectable is rewritten as zero; a table entry is invalidated (R527). -/
def scrubbed (s : State) (mem addr : Nat) : State :=
  match mem with
  | 3 => writeBytes s (addr / 8 * 8) (List.replicate 8 0)
  | 4 => writeBytes s (addr / 4 * 4) (List.replicate 4 0)
  | 5 => match regAt (addr / 4 * 4) with
    | some r => r.fields.foldl (fun t f => t.wr (fieldOf (addr / 4 * 4) f) 0) s
    | none => s
  | 7 => if (tabFind s.sw.table addr).isSome then setEnt s addr none else s
  | _ => s

/-- SCRUB (R519, R527): one powered word of memories 3, 4, 5 and 7 is read; `err` tells whether it holds an uncorrectable
error, and is none for a sound word. -/
def execScrub (mem : Fin 16) (addr : Nat) (err : Option Bool) (s : State) : Res := whileCd s <|
  let m := mem.val
  if m ≠ 3 ∧ m ≠ 4 ∧ m ≠ 5 ∧ m ≠ 7 then s
  else match err with
    | none => s
    | some false => let x := takeInj s 1 m; eccCorrected x.1 m addr true x.2
    | some true => let x := takeInj s 2 m; scrubbed (eccFatal x.1 m addr true x.2) m addr

/-! ### Package links (R520, R521) -/

/-- Replays of a link within the last second. -/
def replaysOf (s : State) (link : Nat) : List Nat := (tabGet [] s.flt.replays link).filter (fun t => s.now - t < 32768)

/-- LINK_FAULT: 1 replay limit, 2 lane lost, 3 retrain, 4 link lost, 5 die lost; causes 3 to 5 are recorded (R525). -/
def linkFault (s : State) (link cause : Nat) (inj : Bool) : State :=
  let pl := [byte link, byte (cause + (if inj then 128 else 0))] ++ leBytes 2 (replaysOf s link).length
    ++ [byte (s.rd (EVT_LINK_CNT_LANES link))]
  let s1 := raise s 102 true [0] pl
  if 3 ≤ cause then tally s1 33 pl else s1

/-- LINK_REPLAY (R520): `again` when the frame replayed is the one replayed last. -/
def execLinkReplay (link : Fin 2) (again : Bool) (s : State) : Res := whileCd s <|
  let l := link.val
  let x := takeInj s 3 l
  let s1 := x.1.bump (EVT_LINK_CNT_REPLAYS l) 1
  let row := if again then tabGet 0 s.flt.row l + 1 else 1
  let reps := replaysOf s1 l ++ [s.now]
  let s2 := { s1 with flt := { s1.flt with row := tabPut s1.flt.row l row, replays := tabPut s1.flt.replays l reps } }
  if row = 8 ∨ (reps.filter (fun t => s.now - t ≤ 33)).length = 64 then linkFault s2 l 1 x.2 else s2

/-- LINK_RETRAIN (R520): the link has retrained on both lanes, or on one. -/
def execLinkRetrain (link : Fin 2) (one : Bool) (s : State) : Res := whileCd s <|
  let l := link.val
  let x := if one then takeInj s 4 l else (s, false)
  let lanes := if one then 1 else 2
  let s1 := (x.1.bump (EVT_LINK_CNT_RETRAINS l) 1).wr (EVT_LINK_CNT_LANES l) lanes
  let s2 := { s1 with flt := { s1.flt with row := tabDel s1.flt.row l } }
  let s3 := linkFault s2 l 3 x.2
  if lanes < s.rd (EVT_LINK_CNT_LANES l) then linkFault s3 l 2 x.2 else s3

/-- A link joins the lost ones, and has no lane up. -/
def linkGone (s : State) (link : Nat) : State :=
  { s.wr (EVT_LINK_CNT_LANES link) 0 with
    flt := { s.flt with lost := if s.flt.lost.contains link then s.flt.lost else s.flt.lost ++ [link] } }

/-- The control die's side of a lost link die: chain ports and sub-networks are down (Table 24.5). -/
def ldGone (s : State) (cause : Nat) : State :=
  showBuses (setLink (setLink (linkFault (linkGone s 1) 1 cause false) 0 false) 1 false)

/-- LINK_LOST (R520, R521): no valid frame for 1.0 ms while the links are meant to run (R21). 0 is CD-PD,
1 CD-LD. -/
def execLinkLost (link : Fin 2) (s : State) : Res := whileCd s <|
  if !s.pwr.armed then s
  else if link.val = 0 then
    showDomains (controlLost (linkFault (s.wr (EVT_LINK_CNT_LANES 0) 0) 0 4 false) 1)
  else if s.flt.lost.contains 1 then s
  else wantBypass (ldGone s 4) 7

/-- LINK_PGOOD_LOST (R521): the LINK buck fails while it runs: the link die is lost, and the chain is cut at this unit. -/
def execLinkPgoodLost (s : State) : Res :=
  .next (if !s.pwr.ldUp || s.pwr.cd == .off then s
    else
      let s1 := if cdUp s then ldGone s 5 else linkGone s 1
      showDomains (linkOff s1))

/-- SIDEBAND_PARITY_LOSS (R521): the spar core's MAINT answers stop. -/
def execSidebandParityLoss (s : State) : Res :=
  .next (if s.flt.lost.contains 2 then s else linkFault (linkGone s 2) 2 4 false)

/-- ONFI_LOSS (R521, R456): the store die is lost until a device reset. -/
def execOnfiLoss (s : State) : Res := whileCd s <|
  if s.sto.lost then s
  else
    let s1 := linkFault { s with sto := { s.sto with lost := true } } 3 5 false
    let s2 := loseBuffered { s1 with sto := { s1.sto with flushes := [], jobs := [] } } (s1.sto.dirty.map (fun e => e.1)) 1
    (s2.rng.work.filter (fun w => w.eng == STO)).foldl (fun t w =>
      complete t STO w.hdr w.opcode MEDIA_LOST (stoResult w.opcode 0 false none)) s2

/-- LINK_RECOVERY_RETRY (R521): the retry of a lost CD-LD link or sideband, which may succeed; the bypass stays until LEAVE. -/
def execLinkRecoveryRetry (link : Fin 3) (ok : Bool) (s : State) : Res :=
  let l := link.val
  .next (if l = 0 || !ok || !s.flt.lost.contains l || (l = 1 && !(s.pwr.ldUp && cdUp s)) then s
    else
      let s1 := { s.wr (EVT_LINK_CNT_LANES l) 2 with flt := { s.flt with lost := s.flt.lost.filter (· != l) } }
      if l = 1 then
        let s2 := { s1 with chain := { s1.chain with causes := s1.chain.causes.filter (· != 7) } }
        showBuses (linkFault (s2.bump (EVT_LINK_CNT_RETRAINS 1) 1) 1 3 false)
      else s1)

/-! ### Loss of the control die and what waits for its return (R21, R524) -/

/-- CD_LINK_SILENCE (R21): no valid frame on the CD-PD link for 1.0 ms while the control die is meant to run. -/
def execCdLinkSilence (s : State) : Res :=
  .next (if s.pwr.armed && (s.pwr.cd == .boot || s.pwr.cd == .run) then showDomains (controlLost s 1) else s)

/-- TIME of a held record (R524). -/
def heldTime (s : State) (x : HeldEv) : Nat :=
  (((s.evt.dtStart : Int) - ((s.evt.rtcStart : Int) - x.rtc) * 1000000000 / 32768) % 2 ^ 64).toNat

/-- One held record is delivered. -/
def deliverHeld (s : State) (x : HeldEv) : State :=
  let (t, d) := raiseOne s x.part x.src x.clsS (heldTime s x) x.payload
  sQueueFull t x.part d

/-- HELD_EVENT_DELIVERY (R524): the held records of a partition that is RUNNING, class S first, each class in order. -/
def execHeldEventDelivery (part : Fin 8) (s : State) : Res :=
  let p := part.val
  .next (if !evtOpen s || partState s p != 2 then s
    else
      let mine := s.evt.held.filter (fun x => x.part == p)
      let s1 := { s.bump (PAR_EVT_CNT_EV_LOST p) (tabGet 0 s.evt.heldLost p) with
        evt := { s.evt with held := s.evt.held.filter (fun x => x.part != p), heldLost := tabDel s.evt.heldLost p } }
      (mine.filter (·.clsS) ++ mine.filter (fun x => !x.clsS)).foldl deliverHeld s1)

/-- LOCKSTEP_FAULT (R410): the pair stops until a reset of the safety partition or of the device. -/
def execLockstepFault (pair : Fin 2) (mcycle : Nat) (s : State) : Res := whileCd s <|
  if s.brd.stopped.contains pair.val then s
  else
    let x := takeInj s 5 pair.val
    let s1 := { x.1 with brd := { x.1.brd with stopped := x.1.brd.stopped ++ [pair.val] } }
    let pl (f : Nat) : List Byte := [byte pair.val, byte f, 0, 0] ++ leBytes 8 mcycle
    tally (raise s1 103 true [0] (pl (if x.2 then 128 else 0))) 17 (pl 0)

end Sys2Proof.Machine
end

