-- ==== Sys2Proof/Machine/Registers.lean ====
section
/-! DEFINITION.
Accesses of the cores to the configuration space, the doorbell pages, the mirror window and the memories of Table 28.1
(chapter 28), the application of a seal set (chapter 25), and the start of a timed descriptor (R176).
-/

namespace Sys2Proof.Machine

/-! ### Writes to the configuration space -/

/-- The state a meaning goes on in; no meaning stops (Fault, Refusal). -/
def stOf (r : Res) (s : State) : State :=
  match r with
  | .next t => t
  | .fault _ => s
  | .refused _ => s

/-- The setup registers of the selected ring take a write, unless the ring is armed (R167). -/
def writeRing (s : State) (off v : Nat) : State :=
  if (ringAt s (selKey s)).armed then dbBad s
  else
    let t := writeWord s off v
    setRing t (selKey t) { ringAt t (selKey t) with
      base := t.rd RNG_BASE_BASE, size := t.rd RNG_CFG_SIZE_LOG2, prio := t.rd RNG_CFG_PRIO, en := t.flag RNG_CFG_EN }

/-- The shadow block's base takes a write, unless the block is armed (R167, R180). -/
def writeShadow (s : State) (off v : Nat) : State :=
  let p := s.rd RNG_SEL_PART
  if (shadowOf s p).armed then dbBad s
  else
    let t := writeWord s off v
    { t with rng := { t.rng with shadows := tabSet {} t.rng.shadows p { shadowOf t p with base := t.rd RNG_SHADOW_SHADOW } } }

/-- SW_VLAN_DATA shows the VLAN that SW_VLAN_SEL addresses. -/
def showVlan (s : State) : State :=
  let x := tabGet {} s.sw.vlans (s.rd SW_VLAN_SEL_VID)
  let s1 := ((s.wr SW_VLAN_DATA_MEMBER x.member).wr SW_VLAN_DATA_UNTAG x.untag).wr SW_VLAN_DATA_INS_POL x.insPol
  (s1.put SW_VLAN_DATA_VLEARN x.vlearn).put SW_VLAN_DATA_VALID x.valid

/-- The addressed VLAN takes what SW_VLAN_DATA holds. -/
def takeVlan (s : State) : State :=
  let x : Vlan := ⟨s.rd SW_VLAN_DATA_MEMBER, s.rd SW_VLAN_DATA_UNTAG, s.rd SW_VLAN_DATA_INS_POL,
    s.flag SW_VLAN_DATA_VLEARN, s.flag SW_VLAN_DATA_VALID⟩
  { s with sw := { s.sw with vlans := tabSet {} s.sw.vlans (s.rd SW_VLAN_SEL_VID) x } }

/-- A 10BASE-T1S configuration word is refused as a whole for its NODE_CNT or LOCAL_ID (R373). -/
def t1sBad (v : Nat) : Bool :=
  let node := bits v 8 5
  node < 2 || 12 < node || 11 < bits v 4 1

/-- SUB_T1S_CFG of segment g takes a write (R373). -/
def writeT1s (s : State) (g off v : Nat) : State :=
  if !isSealed s && t1sBad v then violate (s.put (SUB_T1S_STAT_CFG_REFUSED g) true)
  else showPlca (writeWord s off v) g

/-- The learning state of a solenoid channel is cleared (R263). -/
def forget (s : State) (n : Nat) : State :=
  (((s.wr (SV_LSTATE_T_LEARN n) 0).wr (SV_LSTATE_LCOUNT n) 0).wr (SV_LSTATE_BACKOFF n) 0).put (SV_LSTATE_LVALID n) false

/-- What the device does besides, when a register without a command of its own has taken a write. -/
def follow (s : State) (off : Nat) : State :=
  if off = 0x60000 then showRing s
  else if off = 0x20014 then refreshCur s
  else if off = 0xF0030 ∨ off = 0xF0034 then showGuar s
  else if off = 0xF0040 then showVlan s
  else if off = 0xF0044 then takeVlan s
  else if off = 0xF0A00 then showCnt s
  else if 0xF0100 ≤ off ∧ off < 0xF0180 then showShape s
  else if 0xF0B00 ≤ off ∧ off < 0xF0F00 then (if off % 16 = 0 then takeRule s ((off - 0xF0B00) / 16) else s)
  else if 0x100040 ≤ off ∧ off < 0x1000C0 then showTiming s ((off - 0x100040) / 32)
  else if 0x100100 ≤ off ∧ off < 0x100130 then showLin s ((off - 0x100100) / 8)
  else if off = 0x130000 then showNs s
  else if isSealed s then s
  else if 0xA0040 ≤ off ∧ off < 0xA00C0 ∧ off % 16 = 12 then forget s ((off - 0xA0040) / 16)
  else if 0xA0400 ≤ off ∧ off < 0xA0C00 then
    ((List.range 8).filter (fun n => s.rd (SV_LEARN_PROF n) == (off - 0xA0400) / 64)).foldl forget s
  else s

/-- P0 writes a register that has no command of its own. -/
def plainWrite (s : State) (off v : Nat) : State :=
  if off = 0x60004 ∨ off = 0x60008 ∨ off = 0x6000C then writeRing s off v
  else if off = 0x60010 ∨ off = 0x60014 then writeShadow s off v
  else if 0x100000 ≤ off ∧ off < 0x100020 ∧ off % 8 = 0 then writeT1s s ((off - 0x100000) / 8) off v
  else follow (writeWord s off v) off

/-- The write commands of rings, table and namespaces: what an operation code does. -/
def rngCmd (s : State) (w : Writer) (v : Word) : State :=
  match fieldIn RNG_CMD_OP v with
  | 1 => stOf (execArmPart w s) s
  | 2 => stOf (execArmEngine w s) s
  | 3 => stOf (execEngineReset w s) s
  | _ => if w = .safety then violate s else s
def tblCmd (s : State) (w : Writer) (v : Word) : State :=
  match fieldIn SW_TBL_CMD_OP v with
  | 1 => stOf (execTblRead w s) s
  | 2 => stOf (execTblWrite w s) s
  | 3 => stOf (execTblClear w s) s
  | _ => if w = .safety then violate s else s
def nsCmd (s : State) (w : Writer) (v : Word) : State :=
  match fieldIn STO_NS_CMD_OP v with
  | 1 => stOf (execNsCreate w s) s
  | 2 => stOf (execNsDelete w s) s
  | _ => if w = .safety then violate s else s

/-- A write to a register of the spar, clock and power blocks that has a command of its own; none for any other. -/
def ownWriteLow (s : State) (w : Writer) (off : Nat) (v : Word) : Option State :=
  match off with
  | 0x10 => some (stOf (execRtcWrite w false v s) s)
  | 0x14 => some (stOf (execRtcWrite w true v s) s)
  | 0x18 => some (stOf (execRtcAlarmWrite w false v s) s)
  | 0x1C => some (stOf (execRtcAlarmWrite w true v s) s)
  | 0x44 => some (stOf (execSprWdgFeed w v s) s)
  | 0x54 => some (stOf (execSprRstCmd w v s) s)
  | 0x60 => some (stOf (execLimpRelease w v s) s)
  | 0x64 => some (stOf (execCrashLatchClear w v s) s)
  | 0x10000 => some (stOf (execClkSrcWrite w v s) s)
  | 0x10010 => some (stOf (execClkPllCfgWrite w v s) s)
  | 0x20000 => some (stOf (execPwrNextWrite w v s) s)
  | 0x20008 => some (stOf (execPwrSafAck w v s) s)
  | 0x40000 => some (showShape (stOf (execChnPortCfgWrite w v s) s))
  | 0x40030 => some (writeBypass s w v 0)
  | 0x40058 => some (stOf (execSendWhistle w v s) s)
  | _ => none

/-- The same for the other blocks, the seal set's APPLY aside. -/
def ownWriteHigh (s : State) (w : Writer) (off : Nat) (v : Word) : Option State :=
  match off with
  | 0x50008 => some (if w = .p0 ∧ fieldIn PAR_LAYOUT_CTL_APPLY v = 0 then s else stOf (execLayoutApply w s) s)
  | 0x50010 => some (stOf (execParSeal w v s) s)
  | 0x50024 => some (stOf (execParRst w v s) s)
  | 0x60018 => some (rngCmd s w v)
  | 0x70008 => some (stOf (execLimpStage w v s) s)
  | 0xF0054 => some (tblCmd s w v)
  | 0x130008 => some (nsCmd s w v)
  | 0x160008 => some (stOf (execTlyMarkWrite w v s) s)
  | 0x160020 => some (stOf (execTlySelWrite w v s) s)
  | 0x170000 => some (stOf (execEvtInjArm w v s) s)
  | 0x170008 => some (stOf (execEvtRaise w v s) s)
  | _ => none

/-- A write of one register by its writer: by the command of its own that the register has, else by its fields (R7,
R570). -/
def regWrite (s : State) (w : Writer) (off : Nat) (v : Word) : State :=
  match (ownWriteLow s w off v) <|> (ownWriteHigh s w off v) with
  | some t => t
  | none => if w = .safety then violate s else plainWrite s off v.toNat

/-! ### The seal set (R533 to R535, R538) -/

/-- Where the records of a seal set end. -/
def setEnd (b : List Byte) : Nat := 48 + 16 * leAt b 8 2

/-- The layout and limp images: offset and length; where the layout ends. -/
def setLayoutEnd (b : List Byte) : Nat := if leAt b 24 4 = 0 then setEnd b else leAt b 20 4 + leAt b 24 4
def setLimpEnd (b : List Byte) : Nat := if leAt b 32 4 = 0 then setLayoutEnd b else leAt b 28 4 + leAt b 32 4

/-- Row 2 of Table 25.2 for the fixed part of the header: the offset of the first bad field. -/
def setHeader (b : List Byte) : Option Nat :=
  if leAt b 0 4 ≠ 0x53535431 then some 0
  else if leAt b 4 2 ≠ 1 then some 4
  else if 4096 < leAt b 8 2 then some 8
  else if leAt b 12 4 < setEnd b + 4 ∨ 262144 < leAt b 12 4 then some 12
  else none

/-- Row 2 for the parts: each lies past the one before it, aligned, inside the image, as long as its own header says. -/
def setParts (b : List Byte) : Option Nat :=
  let room := leAt b 12 4 - 4
  let lo := leAt b 20 4
  let ln := leAt b 24 4
  let mo := leAt b 28 4
  let mn := leAt b 32 4
  if ln ≠ 0 ∧ (lo % 64 ≠ 0 ∨ lo < setEnd b ∨ room ≤ lo) then some 20
  else if ln ≠ 0 ∧ (room < lo + ln ∨ leAt b (lo + 12) 4 ≠ ln) then some 24
  else if mn ≠ 0 ∧ (mo % 4 ≠ 0 ∨ mo < setLayoutEnd b ∨ room ≤ mo) then some 28
  else if mn ≠ 0 ∧ (room < mo + mn ∨ leAt b (mo + 8) 4 ≠ mn) then some 32
  else none

/-- The offsets of the write records. -/
def setRecs (b : List Byte) : List Nat := (List.range (leAt b 8 2)).map (fun i => 48 + 16 * i)

/-- Row 4: reserved bytes of the header and the records, and the gaps between the parts. -/
def setReserved (b : List Byte) : Option Nat :=
  let gap (x y : Nat) : List Nat := (List.range (y - x)).map (fun i => x + i)
  let lay := if leAt b 24 4 = 0 then [] else gap (setEnd b) (leAt b 20 4)
  let limp := if leAt b 32 4 = 0 then [] else gap (setLayoutEnd b) (leAt b 28 4)
  least ((if leAt b 6 1 < 2 then [] else [6])
    ++ nonzeroAt b ([7, 10, 11] ++ gap 36 48 ++ (setRecs b).flatMap (fun o => gap (o + 12) (o + 16)) ++ lay ++ limp
        ++ gap (setLimpEnd b) (leAt b 12 4 - 4)))

/-- A seal set must not name a register: it does not exist, holds a WO, W1S or W1C field, or is PWR_NEXT,
PAR_LAYOUT_ADDR, ACT_LIMP_ADDR or one of the seal set's own. -/
def badTarget (off : Nat) : Bool :=
  off % 4 != 0 || 0x1000000 ≤ off || (match regHit off with
    | none => true
    | some (r, base, _) => r.fields.any (fun f => f.acc == .wo || f.acc == .w1s || f.acc == .w1c)
        || [0x20000, 0x50000, 0x70000].contains base || (0x50080 ≤ base && base ≤ 0x50090))

/-- Rows 2 to 5 of Table 25.2 in order: RESULT and OFFSET of the first failure. -/
def setFault (b : List Byte) : Option (Nat × Nat) :=
  let n := leAt b 12 4
  match (setHeader b) <|> (setParts b) with
  | some o => some (2, o)
  | none =>
    if crc32c (slice b 0 (n - 4)) ≠ leAt b (n - 4) 4 then some (3, n - 4)
    else ((setReserved b).map (fun o => (4, o)))
      <|> (((setRecs b).find? (fun o => badTarget (leAt b o 4))).map (fun o => (5, o)))

/-- The outcome in PAR_SSET_STATUS. -/
def setReport (s : State) (result stage off : Nat) : State :=
  ((s.wr PAR_SSET_STATUS_RESULT result).wr PAR_SSET_STATUS_STAGE stage).wr PAR_SSET_STATUS_OFFSET off

/-- Stage 1: one record as a write of (old AND NOT MASK) OR (VALUE AND MASK). -/
def setRecord (b : List Byte) (s : State) (o : Nat) : State :=
  let off := leAt b o 4
  let mask := leAt b (o + 4) 4
  let old := match regHit off with | some (r, base, hiWord) => readWord s r base hiWord | none => 0
  regWrite s .p0 off (BitVec.ofNat 32 ((old &&& (0xFFFFFFFF - mask)) ||| (leAt b (o + 8) 4 &&& mask)))

/-- The application ends with its outcome, and APPLY reads 0 again. -/
def setDone (s : State) (result stage : Nat) : State :=
  setReport ({ s with par := { s.par with sset := none } }.put PAR_SSET_CTL_APPLY false) result stage 0

/-- A stage has been reached, and the application goes on. -/
def setOn (s : State) (x : SealSet) (stage : Nat) : State :=
  setReport { s with par := { s.par with sset := some { x with stage := stage } } } 0 stage 0

/-- Stage 2, the layout. A unit that a PAR_SEAL has sealed in the meantime fails every later stage with SEALED (R538). -/
def setLayout (s : State) (x : SealSet) : State :=
  if leAt x.image 24 4 = 0 then setOn s x 3
  else
    let t := applyLayout s (x.addr + leAt x.image 20 4)
    if t.rd PAR_LAYOUT_STATUS_RESULT = 1 then setOn t x 3 else setDone t (if isSealed s then 10 else 6) 3

/-- Stage 3, the limp table. -/
def setLimp (s : State) (x : SealSet) : State :=
  if leAt x.image 32 4 = 0 then setOn s x 4
  else
    let t := limpStage s (x.addr + leAt x.image 28 4)
    if t.rd ACT_LIMP_STATUS_RESULT = 1 then setOn t x 4 else setDone t (if isSealed s then 10 else 7) 4

/-- Stage 4, the seal, with SEAL_AFTER. -/
def setSeal (s : State) (x : SealSet) : State :=
  if !bit (leAt x.image 6 1) 0 then setDone s 1 6
  else if isSealed s then setDone s 10 5
  else
    let t := sealUnit s
    if t.rd PAR_SEAL_STATUS_SEAL_FAIL = 0 then setDone t 1 6 else setDone t 8 5

/-- A seal set's application reaches its next stage, one at each tick (log entry 20). -/
def setStep (s : State) : State :=
  match s.par.sset with
  | none => s
  | some x => if !cdUp s then s else if x.stage = 2 then setLayout s x else if x.stage = 3 then setLimp s x else setSeal s x

/-- What a step does when no command waits: a tick of XS, and with it the next stage of a seal set (log entry 4). -/
def idle (s : State) : State := setStep (tick s)

/-- The image at an address: as long as its header says, when the header holds. -/
def setImage (s : State) (a : Nat) : List Byte :=
  let h := readImage s a 48
  readImage s a (if (setHeader h).isSome then 48 else leAt h 12 4)

/-- Check the seal set at an address and, when it passes, perform its writes, stage 1 (R534, R535). -/
def applySet (s : State) (a : Nat) : State :=
  let b := setImage s a
  if isSealed s then setReport (violate s) 10 1 0
  else match setFault b with
    | some (r, o) => setReport s r 1 o
    | none =>
      let s1 := (setOn (s.put PAR_SSET_CTL_APPLY true) ⟨2, a, b⟩ 2).wr PAR_SSET_ID_SET_ID (leAt b 16 4)
      (setRecs b).foldl (setRecord b) s1

/-- A write of PAR_SSET_CTL; one while an application runs is ignored and counted (R538). -/
def writeSset (s : State) (w : Writer) (v : Word) : State :=
  if w = .safety then violate s
  else if fieldIn PAR_SSET_CTL_APPLY v = 0 then s
  else if s.par.sset.isSome then violate s
  else applySet s (s.rd PAR_SSET_ADDR_ADDR)

/-- SEAL_SET_APPLY (R534). -/
def execSealSetApply (w : Writer) (v : Word) (s : State) : Res := whileCd s (writeSset s w v)

/-! ### Accesses by address (R567 to R572) -/

/-- A configuration-space write: aligned and of 32 bits, else ignored and counted (R569). -/
def cfgWrite (s : State) (w : Writer) (off len : Nat) (v : Word) : State :=
  if len ≠ 4 ∨ off % 4 ≠ 0 then violate s
  else if off = 0x50088 then writeSset s w v
  else regWrite s w off v

/-- A write to a doorbell page (Table 7.2). -/
def pageWrite (s : State) (w : Writer) (off len : Nat) (v : Word) : State :=
  let p : Fin 8 := Fin.ofNat 8 (off / 0x1000)
  let o := off % 0x1000
  let e := o / 0x40
  let k := o % 0x40 / 4
  if len ≠ 4 ∨ off % 4 ≠ 0 then dbBad s
  else if o = 0x200 then stOf (execEventDoorbell w p v s) s
  else if o = 0xFF0 then stOf (execSwEvent w p v s) s
  else if o = 0xFF8 then stOf (execSelfReset w p v s) s
  else if 7 ≤ e ∨ 5 ≤ k then dbBad s
  else if k = 4 then stOf (execCompletionDoorbell w p (Fin.ofNat 7 e) v s) s
  else stOf (execProducerDoorbell w p (Fin.ofNat 7 e) (Fin.ofNat 4 k) v s) s

/-- An access to the safety TCM by other than the safety island: no effect, and counted (R411). -/
def tcmStranger (s : State) : State := s.bump PAR_FAULT_FAULTS 1

/-- A core's write of `len` bytes to an address. -/
def coreWrite (s : State) (w : Writer) (a len : Nat) (v : Word) : State :=
  if 0x40000000 ≤ a ∧ a < 0x41000000 then cfgWrite s w (a - 0x40000000) len v
  else if 0x50000000 ≤ a ∧ a < 0x50008000 then pageWrite s w (a - 0x50000000) len v
  else if 0x60000000 ≤ a ∧ a < 0x61000000 then violate s
  else if inSram a then writeBytes (bankWait s (a + (len - 1))) a (leBytes len v.toNat)
  else if inTcm a then (if w = .safety then writeBytes s a (leBytes len v.toNat) else tcmStranger s)
  else if a < 0x20000 then s
  else emit s (.accessFault a)

/-- REGISTER_WRITE: a core writes `len` bytes of a word at an address. -/
def execRegisterWrite (w : Writer) (addr len : Nat) (v : Word) (s : State) : Res := whileCd s (coreWrite s w addr len v)

/-- Registers whose content follows others are brought up to date before they are read: ring indices, SHAPE_ERR, the
loss record, and the seconds left to a trial's deadline. -/
def refreshed (s : State) (off : Nat) : State :=
  if off / 0x10000 = 6 then showRing s
  else if off / 0x10000 = 15 then showShape s
  else if off = 0x1700C0 then s.wr EVT_CDLOSS_LOSSES (min (freshLosses s).length 255)
  else if off = 0x150020 ∧ s.flag UPD_STATUS_TRIAL then
    s.wr UPD_LEFT_SECONDS (s.upd.confirmS - rtcSince s s.upd.trialRtc / 32768)
  else s

/-- The safety island may not read the tally's selected record: it reads zero, and the read counts in SEAL_VIOL (R510, R570). -/
def hidden (w : Writer) (off : Nat) : Bool := w == .safety && 0x160040 ≤ off && off < 0x160080

/-- The blocks that the mirror window holds (Table 28.2). -/
def mirrored (block : Nat) : Bool := [0, 3, 8, 9, 10, 11, 12, 13, 14, 22].contains block

/-- The word a read shows. Of a bridge's B side HB_POS reads 0 (R233); a ripple frequency is present only until a period of
RIP_FMIN has passed without a ripple (R239; log entry 45). -/
def shownWord (s : State) (r : RegDesc) (base off : Nat) (hiWord : Bool) : Nat :=
  let v := readWord s r base hiWord
  if (List.range 8).any (fun n => (HB_POS_POS n).off == off && isSlave s ⟨2, n⟩) then 0
  else if (List.range 8).any (fun n => (HB_RIPF_RIPFREQ n).off == off
      && decide (32768 < (s.now - (chn s ⟨2, n⟩).ripAt) * s.rd (HB_RIP_RIP_FMIN n))) then v - v % 65536
  else v

/-- A read of the mirror window: nothing clears, nothing latches (R571). -/
def mirrorRead (s : State) (w : Writer) (off len : Nat) : State × Nat :=
  if len ≠ 4 ∨ off % 4 ≠ 0 then (violate s, 0)
  else if hidden w off then (violate s, 0)
  else if !mirrored (off / 0x10000) then (s, 0)
  else match regHit off with
    | none => (s, 0)
    | some (r, base, hiWord) => (s, shownWord s r base off hiWord)

/-- What a read leaves behind: RC fields clear, MIN_FREE starts again from FREE_CELLS, a read of SW_CNT_VAL_LO clears the
selected counter (R7, R354). -/
def afterRead (s : State) (r : RegDesc) (base : Nat) (hiWord : Bool) : State :=
  let t := clearRead s r base hiWord
  if base = SW_BUF_STATUS_MIN_FREE.off then t.wr SW_BUF_STATUS_MIN_FREE (t.rd SW_BUF_STATUS_FREE_CELLS)
  else if base = SW_CNT_VAL_VALUE.off && !hiWord then
    showCnt { t with sw := { t.sw with counters := tabSet 0 t.sw.counters (cntSel t) 0 } }
  else t

/-- A read of the configuration space: `_LO` latches `_HI`, and a latched `_HI` is returned once (R569). -/
def cfgRead (s : State) (w : Writer) (off len : Nat) : State × Nat :=
  if len ≠ 4 ∨ off % 4 ≠ 0 ∨ hidden w off then (violate s, 0)
  else match regHit off with
    | none => (s, 0)
    | some (r, base, hiWord) =>
      let t := refreshed s off
      match (if hiWord then tabFind t.latches off else none) with
      | some x => (afterRead { t with latches := tabDel t.latches off } r base hiWord, x.toNat)
      | none =>
        let v := shownWord t r base off hiWord
        let u := if r.hi = 0 ∨ hiWord then t
          else { t with latches := tabPut t.latches (base + r.hi) (BitVec.ofNat 32 (readWord t r base true)) }
        (afterRead u r base hiWord, v)

/-- A read of a doorbell page returns the last accepted value at the offset (R169); what an offset not listed, or another
width, reads is not stated and is free. -/
def pageRead (s : State) (off len : Nat) : State × Nat :=
  let p := off / 0x1000
  let o := off % 0x1000
  let e := o / 0x40
  let k := o % 0x40 / 4
  if len = 4 ∧ off % 4 = 0 ∧ o = 0x200 then (s, (ringAt s (eventKey p)).cons)
  else if len = 4 ∧ off % 4 = 0 ∧ (o = 0xFF0 ∨ o = 0xFF8) then (s, 0)
  else if len ≠ 4 ∨ off % 4 ≠ 0 ∨ 7 ≤ e ∨ 5 ≤ k then (freeNext s, (freeDraw s).toNat % 2 ^ 32)
  else if k = 4 then (s, (ringAt s (ringKey p e 4)).cons)
  else (s, (ringAt s (ringKey p e k)).prod)

/-- A core's read of `len` bytes at an address, and what answers it. The boot ROM reads zero after the hand-over; what it
holds is free before. -/
def coreRead (s : State) (w : Writer) (a len : Nat) : State :=
  if 0x40000000 ≤ a ∧ a < 0x41000000 then
    let r := cfgRead s w (a - 0x40000000) len
    emit r.1 (.regRead (a - 0x40000000) r.2)
  else if 0x50000000 ≤ a ∧ a < 0x50008000 then
    let r := pageRead s (a - 0x50000000) len
    emit r.1 (.doorbellRead (a - 0x50000000) r.2)
  else if 0x60000000 ≤ a ∧ a < 0x61000000 then
    let r := mirrorRead s w (a - 0x60000000) len
    emit r.1 (.regRead (a - 0x60000000) r.2)
  else if inSram a then emit (bankWait s (a + (len - 1))) (.memRead a (readBytes s a len))
  else if inTcm a then
    if w = .safety then emit s (.memRead a (readBytes s a len))
    else emit (tcmStranger s) (.memRead a (List.replicate len 0))
  else if a < 0x20000 then
    if s.pwr.cd == .run then emit s (.memRead a (List.replicate len 0))
    else emit (freeNext s) (.memRead a (leBytes len (freeDraw s).toNat))
  else emit s (.accessFault a)

/-- RC_REGISTER_READ: a core reads `len` bytes at an address. -/
def execRcRegisterRead (w : Writer) (addr len : Nat) (s : State) : Res := whileCd s (coreRead s w addr len)

/-! ### Timed descriptors (R173, R176, R182) -/

/-- The descriptor of an engine whose opcode its body names, as its own command starts it; `media`, `samples` and `back`
are what UPD_VERIFY and CLOSE measure. -/
def startMedia (op : Nat) (h : DHdr) (b : List Byte) (s : State) : Res :=
  match op with
  | 1 => execStoRead h b s
  | 2 => execStoWrite h b s
  | 3 => execStoWriteAtomic h b s
  | 4 => execStoTrim h b s
  | 5 => execStoFlush h b s
  | _ => execStoStatus h b s
def startAct (op : Nat) (h : DHdr) (b : List Byte) (s : State) : Res :=
  match op with
  | 1 => execActSet h b s
  | 2 => execActPulse h b s
  | 3 => execActPwm h b s
  | 4 => execActProfile h b s
  | 5 => execActBridge h b s
  | 6 => execActSequence h b s
  | 7 => execActRestart h b s
  | 8 => execActGrant h b s
  | 9 => execActClaim h b s
  | 10 => execActStatus h b s
  | _ => execSafeAction h b s
def startBus (op : Nat) (h : DHdr) (b : List Byte) (s : State) : Res :=
  match op with
  | 1 => execCanTx h b s
  | 2 => execLinTx h b s
  | 3 => execRxBuf true h b s
  | 4 => execLinSched h b s
  | 5 => execLinResp h b s
  | _ => match leAt b 18 1 with
    | 1 => execBusOnline h b s
    | 2 => execBusOffline h b s
    | 3 => execBusSleep h b s
    | 4 => execBusWake h b s
    | 5 => execBusRecover h b s
    | _ => busCtl h b s (fun _ _ _ => none)
def startSec (op : Nat) (h : DHdr) (b : List Byte) (media : Bool) (s : State) : Res :=
  match op with
  | 1 => execSecRandom h b s
  | 2 => execSecAesGcm h b s
  | 3 => execSecSha256 h b s
  | 4 => execSecHkdf h b s
  | 5 => execSecEcdsaSign h b s
  | 6 => execSecEcdsaVerify h b s
  | 7 => execSecMldsaVerify h b s
  | 8 => execSecKeyLoad h b s
  | 9 => execSecKeyClear h b s
  | 10 => execSecCmac h b s
  | 11 => execSecPubkey h b s
  | 12 => execKeyProvision h b s
  | 16 => execMsecInstall h b s
  | 17 => execMsecRetire h b s
  | 0x20 => execUpdVerify h b media s
  | 0x21 => execUpdArm h b s
  | 0x22 => execUpdDisarm h b s
  | _ => execUpdConfirm h b s
def startOther (eng op : Nat) (h : DHdr) (b samples : List Byte) (back : Nat) (s : State) : Res :=
  match eng, op with
  | 1, 1 => execSnsOpen h b s
  | 1, 2 => execSnsClose h b samples back s
  | 1, 3 => execStreamRelease h b s
  | 1, _ => execSnsRead h b s
  | 2, 1 => execNetTx h b s
  | 2, 2 => execRxBuf false h b s
  | 2, _ => execFlushTable h b s
  | _, 1 => execInfLoad h b s
  | _, 2 => execInfUnload h b s
  | _, _ => execInfRun h b s

/-- A timed descriptor starts. -/
def startOf (w : Work) (h : DHdr) (media : Bool) (samples : List Byte) (back : Nat) (s : State) : Res :=
  let e : Fin 7 := Fin.ofNat 7 w.eng
  if w.opcode = 0 then execNop h e w.body s
  else if w.opcode = 0xFF then
    execCancel h e w.body s
  else match w.eng with
    | 0 => startAct w.opcode h w.body s
    | 3 => startBus w.opcode h w.body s
    | 4 => startMedia w.opcode h w.body s
    | 6 => startSec w.opcode h w.body media s
    | _ => startOther w.eng w.opcode h w.body samples back s

/-- A timed descriptor waits in the pool of a ring. -/
def waits (p eng ring : Nat) (w : Work) : Bool :=
  w.eng == eng && w.hdr.part.val == p && w.hdr.ring.val == ring && w.timed && !w.started

/-- The next of a ring's timed descriptors: the lowest NOT_BEFORE, the oldest of equals, fenced ones aside (R182). -/
def nextTimed (s : State) (p eng ring : Nat) : Option Work :=
  (s.rng.work.filter (fun w => waits p eng ring w && !fencedOff s w)).foldl (fun a w =>
    match a with
    | none => some w
    | some x => if w.notBefore < x.notBefore then some w else some x) none

/-- TIMED_START (R176): the ring's next timed descriptor has fallen due and starts, or completes with TIME_PASSED. -/
def execTimedStart (part : Fin 8) (eng : Fin 7) (ring : Fin 4) (media : Bool) (samples : List Byte) (back : Nat)
    (s : State) : Res :=
  if !cdUp s || !eligible s part.val eng.val then .next s
  else match nextTimed s part.val eng.val ring.val with
    | none => .next s
    | some w =>
      let late := dtNow s - w.notBefore
      if dtNow s < w.notBefore then .next s
      else if late ≤ 1000 * w.tolUs ∨ w.lateAlways then
        startOf w { w.hdr with late := BitVec.ofNat 32 (min (late / 1000) (2 ^ 32 - 1)) } media samples back s
      else
        .next (complete s w.eng { w.hdr with late := BitVec.ofNat 32 (min (late / 1000) (2 ^ 32 - 1)) } w.opcode TIME_PASSED
          (plainResult s w.eng w.opcode w.hdr w.body))

end Sys2Proof.Machine
end

