-- ==== Sys2Proof/Machine/Dispatch.lean ====
section
/-! DEFINITION.
Which meaning each command has: one arm per constructor of `Instr`, each a direct call of its meaning.
-/

namespace Sys2Proof.Machine

def exec (i : Instr) (s : State) : Host.Outcome State Fault Refusal :=
  match i with
  | .powerOnReset mv => Sys2Proof.Machine.execPowerOnReset mv s
  | .vsparFall stage => Sys2Proof.Machine.execVsparFall stage s
  | .sparWdgExpiry fn => Sys2Proof.Machine.execSparWdgExpiry fn s
  | .sparResetDone => Sys2Proof.Machine.execSparResetDone s
  | .sprRstCmd w v => Sys2Proof.Machine.execSprRstCmd w v s
  | .controlWdgExpiry => Sys2Proof.Machine.execControlWdgExpiry s
  | .sprWdgFeed w v => Sys2Proof.Machine.execSprWdgFeed w v s
  | .wdgWarn => Sys2Proof.Machine.execWdgWarn s
  | .cdLinkSilence => Sys2Proof.Machine.execCdLinkSilence s
  | .corePgoodLost => Sys2Proof.Machine.execCorePgoodLost s
  | .ldControlLost => Sys2Proof.Machine.execLdControlLost s
  | .bypassEngage cause lost => Sys2Proof.Machine.execBypassEngage cause lost s
  | .limpTableApply => Sys2Proof.Machine.execLimpTableApply s
  | .cdRestart => Sys2Proof.Machine.execCdRestart s
  | .xsNoEdgeTimeout => Sys2Proof.Machine.execXsNoEdgeTimeout s
  | .xsRatioCheck ratio => Sys2Proof.Machine.execXsRatioCheck ratio s
  | .lpoCalibrate ratio => Sys2Proof.Machine.execLpoCalibrate ratio s
  | .xsReturn => Sys2Proof.Machine.execXsReturn s
  | .rtcWrite w hi v => Sys2Proof.Machine.execRtcWrite w hi v s
  | .rtcAlarmWrite w hi v => Sys2Proof.Machine.execRtcAlarmWrite w hi v s
  | .rtcAlarmFire => Sys2Proof.Machine.execRtcAlarmFire s
  | .dtCorrection port offset => Sys2Proof.Machine.execDtCorrection port offset s
  | .dtSyncReached => Sys2Proof.Machine.execDtSyncReached s
  | .syncLoss => Sys2Proof.Machine.execSyncLoss s
  | .clkSrcWrite w v => Sys2Proof.Machine.execClkSrcWrite w v s
  | .clkSwitchDone => Sys2Proof.Machine.execClkSwitchDone s
  | .clkPllCfgWrite w v => Sys2Proof.Machine.execClkPllCfgWrite w v s
  | .pllLock pll => Sys2Proof.Machine.execPllLock pll s
  | .pllLockLoss pll => Sys2Proof.Machine.execPllLockLoss pll s
  | .xfFail => Sys2Proof.Machine.execXfFail s
  | .xfReady => Sys2Proof.Machine.execXfReady s
  | .ignChange mv held => Sys2Proof.Machine.execIgnChange mv held s
  | .crashEdge mv held => Sys2Proof.Machine.execCrashEdge mv held s
  | .crashLatchClear w v => Sys2Proof.Machine.execCrashLatchClear w v s
  | .limpRelease w v => Sys2Proof.Machine.execLimpRelease w v s
  | .limpReleased => Sys2Proof.Machine.execLimpReleased s
  | .limpDriveEnd hb => Sys2Proof.Machine.execLimpDriveEnd hb s
  | .limpBrakeEnd hb => Sys2Proof.Machine.execLimpBrakeEnd hb s
  | .coreWfi core => Sys2Proof.Machine.execCoreWfi core s
  | .coreIdle core => Sys2Proof.Machine.execCoreIdle core s
  | .coreWake core => Sys2Proof.Machine.execCoreWake core s
  | .devIdleTimeout => Sys2Proof.Machine.execDevIdleTimeout s
  | .pwrNextWrite w v => Sys2Proof.Machine.execPwrNextWrite w v s
  | .pwrSafAck w v => Sys2Proof.Machine.execPwrSafAck w v s
  | .powerEntry => Sys2Proof.Machine.execPowerEntry s
  | .entryWaitTimeout => Sys2Proof.Machine.execEntryWaitTimeout s
  | .entryComplete => Sys2Proof.Machine.execEntryComplete s
  | .deepAfterTimeout => Sys2Proof.Machine.execDeepAfterTimeout s
  | .offAfterTimeout => Sys2Proof.Machine.execOffAfterTimeout s
  | .wakeEvent code index sig => Sys2Proof.Machine.execWakeEvent code index sig s
  | .whistleDetect port kHz mV onUs offUs periods => Sys2Proof.Machine.execWhistleDetect port kHz mV onUs offUs periods s
  | .whistleForward => Sys2Proof.Machine.execWhistleForward s
  | .wakeAttempt => Sys2Proof.Machine.execWakeAttempt s
  | .railPgood rail => Sys2Proof.Machine.execRailPgood rail s
  | .wakeAttemptFail cause => Sys2Proof.Machine.execWakeAttemptFail cause s
  | .holdLate hold => Sys2Proof.Machine.execHoldLate hold s
  | .xfLate ms => Sys2Proof.Machine.execXfLate ms s
  | .cdStart pos => Sys2Proof.Machine.execCdStart pos s
  | .bankZeroDone bank => Sys2Proof.Machine.execBankZeroDone bank s
  | .secureBoot media badWrite bad0 bad1 cut => Sys2Proof.Machine.execSecureBoot media badWrite bad0 bad1 cut s
  | .p0Handoff => Sys2Proof.Machine.execP0Handoff s
  | .confirmDeadline => Sys2Proof.Machine.execConfirmDeadline s
  | .updConfirmDue => Sys2Proof.Machine.execUpdConfirmDue s
  | .chainLinkChange port up => Sys2Proof.Machine.execChainLinkChange port up s
  | .chnPortCfgWrite w v => Sys2Proof.Machine.execChnPortCfgWrite w v s
  | .discover port frame => Sys2Proof.Machine.execDiscover port frame s
  | .announce port frame => Sys2Proof.Machine.execAnnounce port frame s
  | .announceTimer => Sys2Proof.Machine.execAnnounceTimer s
  | .assign port frame => Sys2Proof.Machine.execAssign port frame s
  | .confirm port frame => Sys2Proof.Machine.execConfirm port frame s
  | .cruiseDone port frame => Sys2Proof.Machine.execCruiseDone port frame s
  | .assignTimeout => Sys2Proof.Machine.execAssignTimeout s
  | .doorbellFrame port frame sec => Sys2Proof.Machine.execDoorbellFrame port frame sec s
  | .readRsp port frame sec => Sys2Proof.Machine.execReadRsp port frame sec s
  | .readTimeout part id => Sys2Proof.Machine.execReadTimeout part id s
  | .heartbeat port frame sec => Sys2Proof.Machine.execHeartbeat port frame sec s
  | .attachReq port frame sec => Sys2Proof.Machine.execAttachReq port frame sec s
  | .detachReq port frame sec => Sys2Proof.Machine.execDetachReq port frame sec s
  | .heartbeatSend part => Sys2Proof.Machine.execHeartbeatSend part s
  | .detachTimeout part => Sys2Proof.Machine.execDetachTimeout part s
  | .writeRetransmit part => Sys2Proof.Machine.execWriteRetransmit part s
  | .ident port frame => Sys2Proof.Machine.execIdent port frame s
  | .maintStatus port frame => Sys2Proof.Machine.execMaintStatus port frame s
  | .tallyRead port frame => Sys2Proof.Machine.execTallyRead port frame s
  | .tallyClear port frame => Sys2Proof.Machine.execTallyClear port frame s
  | .maintSparReset port frame => Sys2Proof.Machine.execMaintSparReset port frame s
  | .maintDeviceReset port frame => Sys2Proof.Machine.execMaintDeviceReset port frame s
  | .bypassOn port frame => Sys2Proof.Machine.execBypassOn port frame s
  | .bypassOff port frame => Sys2Proof.Machine.execBypassOff port frame s
  | .bypassForce w v => Sys2Proof.Machine.execBypassForce w v s
  | .bypassLeave w v lost => Sys2Proof.Machine.execBypassLeave w v lost s
  | .chainSleepReq port => Sys2Proof.Machine.execChainSleepReq port s
  | .sendWhistle w v => Sys2Proof.Machine.execSendWhistle w v s
  | .layoutApply w => Sys2Proof.Machine.execLayoutApply w s
  | .parSeal w v => Sys2Proof.Machine.execParSeal w v s
  | .limpCommit => Sys2Proof.Machine.execLimpCommit s
  | .parRst w v => Sys2Proof.Machine.execParRst w v s
  | .selfReset w part v => Sys2Proof.Machine.execSelfReset w part v s
  | .partResetDone part => Sys2Proof.Machine.execPartResetDone part s
  | .orphanTimeout c => Sys2Proof.Machine.execOrphanTimeout c s
  | .orphanBrakeEnd c => Sys2Proof.Machine.execOrphanBrakeEnd c s
  | .eventCoalesceTimeout part => Sys2Proof.Machine.execEventCoalesceTimeout part s
  | .eventTokenRefill => Sys2Proof.Machine.execEventTokenRefill s
  | .swEvent w part v => Sys2Proof.Machine.execSwEvent w part v s
  | .sQueueDeliver part => Sys2Proof.Machine.execSQueueDeliver part s
  | .armPart w => Sys2Proof.Machine.execArmPart w s
  | .armEngine w => Sys2Proof.Machine.execArmEngine w s
  | .engineReset w => Sys2Proof.Machine.execEngineReset w s
  | .producerDoorbell w part eng ring v => Sys2Proof.Machine.execProducerDoorbell w part eng ring v s
  | .completionDoorbell w part eng v => Sys2Proof.Machine.execCompletionDoorbell w part eng v s
  | .eventDoorbell w part v => Sys2Proof.Machine.execEventDoorbell w part v s
  | .descriptorAccept part eng ring => Sys2Proof.Machine.execDescriptorAccept part eng ring s
  | .timedStart part eng ring media samples back => Sys2Proof.Machine.execTimedStart part eng ring media samples back s
  | .ringStall part eng ring => Sys2Proof.Machine.execRingStall part eng ring s
  | .nop h eng b => Sys2Proof.Machine.execNop h eng b s
  | .cancel h eng b => Sys2Proof.Machine.execCancel h eng b s
  | .actSet h b => Sys2Proof.Machine.execActSet h b s
  | .actPulse h b => Sys2Proof.Machine.execActPulse h b s
  | .actPwm h b => Sys2Proof.Machine.execActPwm h b s
  | .actProfile h b => Sys2Proof.Machine.execActProfile h b s
  | .actBridge h b => Sys2Proof.Machine.execActBridge h b s
  | .actSequence h b => Sys2Proof.Machine.execActSequence h b s
  | .sequenceStep n => Sys2Proof.Machine.execSequenceStep n s
  | .actRestart h b => Sys2Proof.Machine.execActRestart h b s
  | .actGrant h b => Sys2Proof.Machine.execActGrant h b s
  | .actClaim h b => Sys2Proof.Machine.execActClaim h b s
  | .actStatus h b => Sys2Proof.Machine.execActStatus h b s
  | .safeAction h b => Sys2Proof.Machine.execSafeAction h b s
  | .safetyLaneMsg => Sys2Proof.Machine.execSafetyLaneMsg s
  | .limpStage w v => Sys2Proof.Machine.execLimpStage w v s
  | .pulseTrainEnd c => Sys2Proof.Machine.execPulseTrainEnd c s
  | .profileSegmentEnd c => Sys2Proof.Machine.execProfileSegmentEnd c s
  | .hsOvercurrent c ma => Sys2Proof.Machine.execHsOvercurrent c ma s
  | .tempSample c t => Sys2Proof.Machine.execTempSample c t s
  | .inrushEnd c => Sys2Proof.Machine.execInrushEnd c s
  | .retryRestart c => Sys2Proof.Machine.execRetryRestart c s
  | .retryCountReset c => Sys2Proof.Machine.execRetryCountReset c s
  | .openLoadChange c lo hi n vlo vhi => Sys2Proof.Machine.execOpenLoadChange c lo hi n vlo vhi s
  | .runMsExpiry hb => Sys2Proof.Machine.execRunMsExpiry hb s
  | .dirGapEnd hb => Sys2Proof.Machine.execDirGapEnd hb s
  | .rippleAccept hb period amp => Sys2Proof.Machine.execRippleAccept hb period amp s
  | .rippleFill hb => Sys2Proof.Machine.execRippleFill hb s
  | .stall hb held ma => Sys2Proof.Machine.execStall hb held ma s
  | .hbOvercurrent hb low ma => Sys2Proof.Machine.execHbOvercurrent hb low ma s
  | .hbOpenChange hb lo hi => Sys2Proof.Machine.execHbOpenChange hb lo hi s
  | .reversalBrakeEnd hb => Sys2Proof.Machine.execReversalBrakeEnd hb s
  | .reversalDriveEnd hb => Sys2Proof.Machine.execReversalDriveEnd hb s
  | .reversalFinalEnd hb => Sys2Proof.Machine.execReversalFinalEnd hb s
  | .svOvercurrent sv ma => Sys2Proof.Machine.execSvOvercurrent sv ma s
  | .kerfFound sv m => Sys2Proof.Machine.execKerfFound sv m s
  | .kerfWindowEnd sv m => Sys2Proof.Machine.execKerfWindowEnd sv m s
  | .svShare sv a b => Sys2Proof.Machine.execSvShare sv a b s
  | .svOpenChange sv lo hi => Sys2Proof.Machine.execSvOpenChange sv lo hi s
  | .ledTest n r => Sys2Proof.Machine.execLedTest n r s
  | .followOff g => Sys2Proof.Machine.execFollowOff g s
  | .ledHeadroom n mv held => Sys2Proof.Machine.execLedHeadroom n mv held s
  | .ledDerateUpdate g die ohms => Sys2Proof.Machine.execLedDerateUpdate g die ohms s
  | .ntcFaultHoldEnd g => Sys2Proof.Machine.execNtcFaultHoldEnd g s
  | .fioInputAccept n mv held => Sys2Proof.Machine.execFioInputAccept n mv held s
  | .fioFaultScan => Sys2Proof.Machine.execFioFaultScan s
  | .fioRescan => Sys2Proof.Machine.execFioRescan s
  | .fioSupplyCause mv held => Sys2Proof.Machine.execFioSupplyCause mv held s
  | .fioInputRange n mv held => Sys2Proof.Machine.execFioInputRange n mv held s
  | .inputSample mv vspar => Sys2Proof.Machine.execInputSample mv vspar s
  | .cyclicBurst mv vspar => Sys2Proof.Machine.execCyclicBurst mv vspar s
  | .analogConvert m value => Sys2Proof.Machine.execAnalogConvert m value s
  | .adcCalibrate adc departure => Sys2Proof.Machine.execAdcCalibrate adc departure s
  | .snsOpen h b => Sys2Proof.Machine.execSnsOpen h b s
  | .snsClose h b samples back => Sys2Proof.Machine.execSnsClose h b samples back s
  | .streamRelease h b => Sys2Proof.Machine.execStreamRelease h b s
  | .snsRead h b => Sys2Proof.Machine.execSnsRead h b s
  | .blockComplete part slot samples back => Sys2Proof.Machine.execBlockComplete part slot samples back s
  | .windowHandoff part slot => Sys2Proof.Machine.execWindowHandoff part slot s
  | .scalerStep x => Sys2Proof.Machine.execScalerStep x s
  | .scalerRestart cause => Sys2Proof.Machine.execScalerRestart cause s
  | .stormEnd => Sys2Proof.Machine.execStormEnd s
  | .lossWindowEnd => Sys2Proof.Machine.execLossWindowEnd s
  | .frameReceive port frame fcsOk => Sys2Proof.Machine.execFrameReceive port frame fcsOk s
  | .frameTransmit port gap => Sys2Proof.Machine.execFrameTransmit port gap s
  | .gateEntry port => Sys2Proof.Machine.execGateEntry port s
  | .agingScan => Sys2Proof.Machine.execAgingScan s
  | .netTx h b => Sys2Proof.Machine.execNetTx h b s
  | .txTimeout => Sys2Proof.Machine.execTxTimeout s
  | .rxBuf bus h b => Sys2Proof.Machine.execRxBuf bus h b s
  | .flushTable h b => Sys2Proof.Machine.execFlushTable h b s
  | .tblRead w => Sys2Proof.Machine.execTblRead w s
  | .tblWrite w => Sys2Proof.Machine.execTblWrite w s
  | .tblClear w => Sys2Proof.Machine.execTblClear w s
  | .plcaBeaconLoss seg => Sys2Proof.Machine.execPlcaBeaconLoss seg s
  | .t1sSleepReq seg => Sys2Proof.Machine.execT1sSleepReq seg s
  | .canFrameRx bus ev => Sys2Proof.Machine.execCanFrameRx bus ev s
  | .busoffRecovered bus => Sys2Proof.Machine.execBusoffRecovered bus s
  | .canTx h b => Sys2Proof.Machine.execCanTx h b s
  | .busFrameSent lin bus => Sys2Proof.Machine.execBusFrameSent lin bus s
  | .busTxTimeout lin bus => Sys2Proof.Machine.execBusTxTimeout lin bus s
  | .linTx h b => Sys2Proof.Machine.execLinTx h b s
  | .linSched h b => Sys2Proof.Machine.execLinSched h b s
  | .linSlot bus => Sys2Proof.Machine.execLinSlot bus s
  | .linResp h b => Sys2Proof.Machine.execLinResp h b s
  | .linHeaderRx bus id => Sys2Proof.Machine.execLinHeaderRx bus id s
  | .linResponseRx bus data ok => Sys2Proof.Machine.execLinResponseRx bus data ok s
  | .linGotoSleep bus => Sys2Proof.Machine.execLinGotoSleep bus s
  | .busOnline h b => Sys2Proof.Machine.execBusOnline h b s
  | .busOffline h b => Sys2Proof.Machine.execBusOffline h b s
  | .busSleep h b => Sys2Proof.Machine.execBusSleep h b s
  | .busWake h b => Sys2Proof.Machine.execBusWake h b s
  | .busRecover h b => Sys2Proof.Machine.execBusRecover h b s
  | .tunnelIngress frame => Sys2Proof.Machine.execTunnelIngress frame s
  | .tunnelFlush tun => Sys2Proof.Machine.execTunnelFlush tun s
  | .infResult chan id damage => Sys2Proof.Machine.execInfResult chan id damage s
  | .pairTimeout binding id => Sys2Proof.Machine.execPairTimeout binding id s
  | .noInputTimeout binding => Sys2Proof.Machine.execNoInputTimeout binding s
  | .lockstepFault pair mcycle => Sys2Proof.Machine.execLockstepFault pair mcycle s
  | .infLoad h b => Sys2Proof.Machine.execInfLoad h b s
  | .infUnload h b => Sys2Proof.Machine.execInfUnload h b s
  | .infRun h b => Sys2Proof.Machine.execInfRun h b s
  | .jobStart chan id => Sys2Proof.Machine.execJobStart chan id s
  | .jobEnd chan fault => Sys2Proof.Machine.execJobEnd chan fault s
  | .jobWatchdog chan => Sys2Proof.Machine.execJobWatchdog chan s
  | .katStart chan forced => Sys2Proof.Machine.execKatStart chan forced s
  | .katEnd chan part ctx => Sys2Proof.Machine.execKatEnd chan part ctx s
  | .katRetest chan part ctx => Sys2Proof.Machine.execKatRetest chan part ctx s
  | .contextReload ctx execA execB => Sys2Proof.Machine.execContextReload ctx execA execB s
  | .nsCreate w => Sys2Proof.Machine.execNsCreate w s
  | .nsDelete w => Sys2Proof.Machine.execNsDelete w s
  | .stoRead h b => Sys2Proof.Machine.execStoRead h b s
  | .stoWrite h b => Sys2Proof.Machine.execStoWrite h b s
  | .stoWriteAtomic h b => Sys2Proof.Machine.execStoWriteAtomic h b s
  | .stoTrim h b => Sys2Proof.Machine.execStoTrim h b s
  | .stoFlush h b => Sys2Proof.Machine.execStoFlush h b s
  | .stoStatus h b => Sys2Proof.Machine.execStoStatus h b s
  | .wbDrain n fail eb => Sys2Proof.Machine.execWbDrain n fail eb s
  | .storeMount t0 weak => Sys2Proof.Machine.execStoreMount t0 weak s
  | .checkpoint ns => Sys2Proof.Machine.execCheckpoint ns s
  | .journalFlush ns => Sys2Proof.Machine.execJournalFlush ns s
  | .retentionUpdate t0 => Sys2Proof.Machine.execRetentionUpdate t0 s
  | .refresh ns src dst => Sys2Proof.Machine.execRefresh ns src dst s
  | .garbageCollection ns src dst freePm spares wear => Sys2Proof.Machine.execGarbageCollection ns src dst freePm spares wear s
  | .powerFail mv heldUs hold => Sys2Proof.Machine.execPowerFail mv heldUs hold s
  | .powerFailStepDone => Sys2Proof.Machine.execPowerFailStepDone s
  | .holdStop mv drained => Sys2Proof.Machine.execHoldStop mv drained s
  | .holdupMeasure vh c esr timeout => Sys2Proof.Machine.execHoldupMeasure vh c esr timeout s
  | .holdLow mv heldUs => Sys2Proof.Machine.execHoldLow mv heldUs s
  | .secRandom h b => Sys2Proof.Machine.execSecRandom h b s
  | .entropyTimeout => Sys2Proof.Machine.execEntropyTimeout s
  | .trngStartupDone pass ms => Sys2Proof.Machine.execTrngStartupDone pass ms s
  | .seedRewrite => Sys2Proof.Machine.execSeedRewrite s
  | .trngContinuousFail => Sys2Proof.Machine.execTrngContinuousFail s
  | .reseedDue => Sys2Proof.Machine.execReseedDue s
  | .secAesGcm h b => Sys2Proof.Machine.execSecAesGcm h b s
  | .secSha256 h b => Sys2Proof.Machine.execSecSha256 h b s
  | .secHkdf h b => Sys2Proof.Machine.execSecHkdf h b s
  | .secEcdsaSign h b => Sys2Proof.Machine.execSecEcdsaSign h b s
  | .secEcdsaVerify h b => Sys2Proof.Machine.execSecEcdsaVerify h b s
  | .secMldsaVerify h b => Sys2Proof.Machine.execSecMldsaVerify h b s
  | .secKeyLoad h b => Sys2Proof.Machine.execSecKeyLoad h b s
  | .secKeyClear h b => Sys2Proof.Machine.execSecKeyClear h b s
  | .secCmac h b => Sys2Proof.Machine.execSecCmac h b s
  | .secPubkey h b => Sys2Proof.Machine.execSecPubkey h b s
  | .keyProvision h b => Sys2Proof.Machine.execKeyProvision h b s
  | .msecInstall h b => Sys2Proof.Machine.execMsecInstall h b s
  | .msecRetire h b => Sys2Proof.Machine.execMsecRetire h b s
  | .updVerify h b media => Sys2Proof.Machine.execUpdVerify h b media s
  | .updArm h b => Sys2Proof.Machine.execUpdArm h b s
  | .updDisarm h b => Sys2Proof.Machine.execUpdDisarm h b s
  | .updConfirm h b => Sys2Proof.Machine.execUpdConfirm h b s
  | .dbgAuthChallenge => Sys2Proof.Machine.execDbgAuthChallenge s
  | .dbgAuthResponse r => Sys2Proof.Machine.execDbgAuthResponse r s
  | .tallyWrite => Sys2Proof.Machine.execTallyWrite s
  | .tlySelWrite w v => Sys2Proof.Machine.execTlySelWrite w v s
  | .tlyMarkWrite w v => Sys2Proof.Machine.execTlyMarkWrite w v s
  | .eccError mem ue addr hit => Sys2Proof.Machine.execEccError mem ue addr hit s
  | .scrub mem addr err => Sys2Proof.Machine.execScrub mem addr err s
  | .linkReplay link again => Sys2Proof.Machine.execLinkReplay link again s
  | .linkRetrain link one => Sys2Proof.Machine.execLinkRetrain link one s
  | .linkLost link => Sys2Proof.Machine.execLinkLost link s
  | .sidebandParityLoss => Sys2Proof.Machine.execSidebandParityLoss s
  | .onfiLoss => Sys2Proof.Machine.execOnfiLoss s
  | .heldEventDelivery part => Sys2Proof.Machine.execHeldEventDelivery part s
  | .evtInjArm w v => Sys2Proof.Machine.execEvtInjArm w v s
  | .evtRaise w v => Sys2Proof.Machine.execEvtRaise w v s
  | .sealSetApply w v => Sys2Proof.Machine.execSealSetApply w v s
  | .feedUndervoltage f mv held => Sys2Proof.Machine.execFeedUndervoltage f mv held s
  | .feedOvervoltage f mv held => Sys2Proof.Machine.execFeedOvervoltage f mv held s
  | .feedRecover f mv held => Sys2Proof.Machine.execFeedRecover f mv held s
  | .rcRegisterRead w addr len => Sys2Proof.Machine.execRcRegisterRead w addr len s
  | .registerWrite w addr len v => Sys2Proof.Machine.execRegisterWrite w addr len v s
  | .plcaBeaconReturn seg => Sys2Proof.Machine.execPlcaBeaconReturn seg s
  | .holdPrechargeTrip => Sys2Proof.Machine.execHoldPrechargeTrip s
  | .linkPgoodLost => Sys2Proof.Machine.execLinkPgoodLost s
  | .preRegulatorInputReturn mv heldUs => Sys2Proof.Machine.execPreRegulatorInputReturn mv heldUs s
  | .infLoadComplete ctx execA execB => Sys2Proof.Machine.execInfLoadComplete ctx execA execB s
  | .stoCommandComplete n fail eb weak => Sys2Proof.Machine.execStoCommandComplete n fail eb weak s
  | .linkRecoveryRetry link ok => Sys2Proof.Machine.execLinkRecoveryRetry link ok s

end Sys2Proof.Machine
end

