-- ==== Sys2Proof/Machine/Step.lean ====
section
/-! DEFINITION.
One step of the block: the command at the front of its queue acts on the state with the queue's rest. With nothing
waiting, one tick of the slow clock passes (log entry 4).
-/

namespace Sys2Proof.Machine

/-- One step. -/
def step (s : State) : Host.Outcome State Fault Refusal :=
  match s.pending with
  | [] => .next (idle s)
  | c :: rest => exec c { s with pending := rest }

/-- The state with the command that a word spells put in front of its queue; unchanged where the word spells none. -/
def State.withFetchWord (s : State) (nbits w : Nat) : State :=
  match decodeTableWord nbits w with
  | some c => { s with pending := c :: s.pending }
  | none => s

end Sys2Proof.Machine
end

