-- ==== Sys2Proof/Spans.lean ====
section
/-! DEFINITION.
The registers of Table 28.4 as sets of offsets: what a statement about frames names when it says which registers a
command may change. One definition per register, named as the register index names it; a register with instances is
one set, of every instance's offset.
-/

namespace Sys2Proof.Machine

/-- The offsets of a register: `n` instances from a base, a stride apart; a register with two indexes has `m` instances
of each of its rows. -/
structure Span where
  base : Nat
  n : Nat
  stride : Nat
  m : Nat
  inner : Nat
  deriving DecidableEq, Repr

/-- An offset is that of an instance of the register. -/
def Span.Has (r : Span) (off : Nat) : Prop := ∃ i < r.n, ∃ j < r.m, off = r.base + r.stride * i + r.inner * j

namespace Reg

def SPR_STATUS : Span := ⟨0x0, 1, 0, 1, 0⟩
def SPR_RTC : Span := ⟨0x10, 1, 0, 1, 0⟩
def SPR_RTC_ALARM : Span := ⟨0x18, 1, 0, 1, 0⟩
def SPR_DT : Span := ⟨0x20, 1, 0, 1, 0⟩
def SPR_DT_STATUS : Span := ⟨0x28, 1, 0, 1, 0⟩
def SPR_DT_CFG : Span := ⟨0x2c, 1, 0, 1, 0⟩
def SPR_WDG_CFG : Span := ⟨0x40, 1, 0, 1, 0⟩
def SPR_WDG_FEED : Span := ⟨0x44, 1, 0, 1, 0⟩
def SPR_RST_CAUSE : Span := ⟨0x50, 1, 0, 1, 0⟩
def SPR_RST_CMD : Span := ⟨0x54, 1, 0, 1, 0⟩
def SPR_LIMP_CTL : Span := ⟨0x60, 1, 0, 1, 0⟩
def SPR_LIMP_IN : Span := ⟨0x64, 1, 0, 1, 0⟩
def CLK_SRC : Span := ⟨0x10000, 1, 0, 1, 0⟩
def CLK_STATUS : Span := ⟨0x10004, 1, 0, 1, 0⟩
def CLK_PLL_CFG : Span := ⟨0x10010, 1, 0, 1, 0⟩
def PWR_NEXT : Span := ⟨0x20000, 1, 0, 1, 0⟩
def PWR_CTL : Span := ⟨0x20004, 1, 0, 1, 0⟩
def PWR_SAF_ACK : Span := ⟨0x20008, 1, 0, 1, 0⟩
def PWR_IDLE_CFG : Span := ⟨0x20010, 1, 0, 1, 0⟩
def PWR_ADAPT : Span := ⟨0x20014, 1, 0, 1, 0⟩
def PWR_RETAIN : Span := ⟨0x20018, 1, 0, 1, 0⟩
def PWR_KEEP_OUT : Span := ⟨0x20020, 1, 0, 1, 0⟩
def PWR_KEEP_LED : Span := ⟨0x20024, 1, 0, 1, 0⟩
def PWR_RESUME : Span := ⟨0x20028, 1, 0, 1, 0⟩
def PWR_STATUS : Span := ⟨0x20030, 1, 0, 1, 0⟩
def PWR_DOM_STATUS : Span := ⟨0x20034, 5, 4, 1, 0⟩
def PWR_PINS : Span := ⟨0x20050, 1, 0, 1, 0⟩
def WAK_ARM : Span := ⟨0x30000, 1, 0, 1, 0⟩
def WAK_BUS_EN : Span := ⟨0x30004, 1, 0, 1, 0⟩
def WAK_SI_EN : Span := ⟨0x30008, 1, 0, 1, 0⟩
def WAK_FILT : Span := ⟨0x30010, 1, 0, 1, 0⟩
def WAK_REASON : Span := ⟨0x30020, 1, 0, 1, 0⟩
def WAK_SEEN : Span := ⟨0x30024, 1, 0, 1, 0⟩
def WAK_FAIL : Span := ⟨0x30028, 1, 0, 1, 0⟩
def CHN_PORT_CFG : Span := ⟨0x40000, 1, 0, 1, 0⟩
def CHN_ZCFG : Span := ⟨0x40004, 1, 0, 1, 0⟩
def CHN_ADDR : Span := ⟨0x40008, 1, 0, 1, 0⟩
def CHN_UID : Span := ⟨0x40010, 4, 4, 1, 0⟩
def CHN_CRUISE : Span := ⟨0x40020, 1, 0, 1, 0⟩
def CHN_BYPASS : Span := ⟨0x40030, 1, 0, 1, 0⟩
def CHN_REMOTE : Span := ⟨0x40040, 1, 0, 1, 0⟩
def CHN_ATTACH : Span := ⟨0x40044, 1, 0, 1, 0⟩
def CHN_MAINT : Span := ⟨0x40050, 1, 0, 1, 0⟩
def CHN_MAINT_CTR : Span := ⟨0x40054, 1, 0, 1, 0⟩
def CHN_SLEEP : Span := ⟨0x40058, 1, 0, 1, 0⟩
def CHN_CNT : Span := ⟨0x40060, 1, 0, 1, 0⟩
def PAR_LAYOUT_ADDR : Span := ⟨0x50000, 1, 0, 1, 0⟩
def PAR_LAYOUT_CTL : Span := ⟨0x50008, 1, 0, 1, 0⟩
def PAR_LAYOUT_STATUS : Span := ⟨0x5000c, 1, 0, 1, 0⟩
def PAR_SEAL : Span := ⟨0x50010, 1, 0, 1, 0⟩
def PAR_SEAL_STATUS : Span := ⟨0x50014, 1, 0, 1, 0⟩
def PAR_STATE : Span := ⟨0x50020, 1, 0, 1, 0⟩
def PAR_RST : Span := ⟨0x50024, 1, 0, 1, 0⟩
def PAR_RST_CFG : Span := ⟨0x50028, 1, 0, 1, 0⟩
def PAR_FAULT : Span := ⟨0x50030, 1, 0, 1, 0⟩
def PAR_EVT_CNT : Span := ⟨0x50040, 8, 4, 1, 0⟩
def PAR_BUDGET : Span := ⟨0x50060, 8, 4, 1, 0⟩
def PAR_SSET_ADDR : Span := ⟨0x50080, 1, 0, 1, 0⟩
def PAR_SSET_CTL : Span := ⟨0x50088, 1, 0, 1, 0⟩
def PAR_SSET_STATUS : Span := ⟨0x5008c, 1, 0, 1, 0⟩
def PAR_SSET_ID : Span := ⟨0x50090, 1, 0, 1, 0⟩
def RNG_SEL : Span := ⟨0x60000, 1, 0, 1, 0⟩
def RNG_BASE : Span := ⟨0x60004, 1, 0, 1, 0⟩
def RNG_CFG : Span := ⟨0x6000c, 1, 0, 1, 0⟩
def RNG_SHADOW : Span := ⟨0x60010, 1, 0, 1, 0⟩
def RNG_CMD : Span := ⟨0x60018, 1, 0, 1, 0⟩
def RNG_STATUS : Span := ⟨0x6001c, 1, 0, 1, 0⟩
def RNG_IDX : Span := ⟨0x60020, 1, 0, 1, 0⟩
def RNG_IDX2 : Span := ⟨0x60024, 1, 0, 1, 0⟩
def RNG_CNT : Span := ⟨0x60028, 1, 0, 1, 0⟩
def ACT_LIMP_ADDR : Span := ⟨0x70000, 1, 0, 1, 0⟩
def ACT_LIMP_CTL : Span := ⟨0x70008, 1, 0, 1, 0⟩
def ACT_LIMP_STATUS : Span := ⟨0x7000c, 1, 0, 1, 0⟩
def ACT_LIMP_INFO : Span := ⟨0x70010, 1, 0, 1, 0⟩
def ACT_LIMP_ID : Span := ⟨0x70014, 1, 0, 1, 0⟩
def ACT_LIMP_PAIR : Span := ⟨0x70018, 1, 0, 1, 0⟩
def ACT_SAFE_MAP0 : Span := ⟨0x70020, 1, 0, 1, 0⟩
def ACT_SAFE_MAP1 : Span := ⟨0x70024, 1, 0, 1, 0⟩
def ACT_SAFE_MAP2 : Span := ⟨0x70028, 1, 0, 1, 0⟩
def ACT_SAFE_STATUS : Span := ⟨0x70030, 1, 0, 1, 0⟩
def ACT_CLAIM : Span := ⟨0x70040, 8, 4, 1, 0⟩
def ACT_CNT : Span := ⟨0x70060, 1, 0, 1, 0⟩
def ACT_CNT2 : Span := ⟨0x70064, 1, 0, 1, 0⟩
def HS_CFG : Span := ⟨0x80000, 32, 8, 1, 0⟩
def HS_DIAG : Span := ⟨0x80004, 32, 8, 1, 0⟩
def HS_MEAS : Span := ⟨0x80100, 32, 8, 1, 0⟩
def HS_STATE : Span := ⟨0x80104, 32, 8, 1, 0⟩
def HS_WIRE_R : Span := ⟨0x80208, 15, 8, 1, 0⟩
def HS_WIRE_I : Span := ⟨0x8020c, 15, 8, 1, 0⟩
def HS_PROF_SEG : Span := ⟨0x80400, 32, 32, 8, 4⟩
def HS_PROF_CFG : Span := ⟨0x80800, 32, 4, 1, 0⟩
def HS_CNT : Span := ⟨0x80900, 1, 0, 1, 0⟩
def HS_CNT2 : Span := ⟨0x80904, 1, 0, 1, 0⟩
def HS_COMP : Span := ⟨0x80908, 1, 0, 1, 0⟩
def HB_PAIR : Span := ⟨0x90000, 1, 0, 1, 0⟩
def HB_CFG : Span := ⟨0x90040, 8, 32, 1, 0⟩
def HB_DIAG : Span := ⟨0x90044, 8, 32, 1, 0⟩
def HB_RIP : Span := ⟨0x90048, 8, 32, 1, 0⟩
def HB_STALL : Span := ⟨0x9004c, 8, 32, 1, 0⟩
def HB_REV : Span := ⟨0x90050, 8, 32, 1, 0⟩
def HB_REV2 : Span := ⟨0x90054, 8, 32, 1, 0⟩
def HB_POS : Span := ⟨0x90058, 8, 32, 1, 0⟩
def HB_STATE : Span := ⟨0x9005c, 8, 32, 1, 0⟩
def HB_MEAS : Span := ⟨0x90200, 8, 8, 1, 0⟩
def HB_RIPF : Span := ⟨0x90204, 8, 8, 1, 0⟩
def HB_CNT : Span := ⟨0x90300, 1, 0, 1, 0⟩
def HB_CNT2 : Span := ⟨0x90304, 1, 0, 1, 0⟩
def HB_CNT3 : Span := ⟨0x90308, 1, 0, 1, 0⟩
def SV_PAIR : Span := ⟨0xa0000, 1, 0, 1, 0⟩
def SV_CFG : Span := ⟨0xa0040, 8, 16, 1, 0⟩
def SV_DIAG : Span := ⟨0xa0044, 8, 16, 1, 0⟩
def SV_KERF : Span := ⟨0xa0048, 8, 16, 1, 0⟩
def SV_LEARN : Span := ⟨0xa004c, 8, 16, 1, 0⟩
def SV_MEAS : Span := ⟨0xa0100, 8, 16, 1, 0⟩
def SV_STATE : Span := ⟨0xa0104, 8, 16, 1, 0⟩
def SV_KRES : Span := ⟨0xa0108, 8, 16, 1, 0⟩
def SV_LSTATE : Span := ⟨0xa010c, 8, 16, 1, 0⟩
def SV_PROF_SEG0 : Span := ⟨0xa0400, 32, 64, 8, 8⟩
def SV_PROF_SEG1 : Span := ⟨0xa0404, 32, 64, 8, 8⟩
def SV_CNT : Span := ⟨0xa0c00, 1, 0, 1, 0⟩
def SV_CNT2 : Span := ⟨0xa0c04, 1, 0, 1, 0⟩
def LED_CFG : Span := ⟨0xb0000, 24, 4, 1, 0⟩
def LED_GRP_CFG : Span := ⟨0xb0080, 3, 16, 1, 0⟩
def LED_GRP_DER : Span := ⟨0xb0084, 3, 16, 1, 0⟩
def LED_GRP_NTC : Span := ⟨0xb0088, 3, 16, 1, 0⟩
def LED_GSTAT : Span := ⟨0xb00c0, 3, 4, 1, 0⟩
def LED_STATE : Span := ⟨0xb0100, 24, 8, 1, 0⟩
def LED_MEAS : Span := ⟨0xb0104, 24, 8, 1, 0⟩
def LED_CNT : Span := ⟨0xb0200, 1, 0, 1, 0⟩
def FIO_CFG : Span := ⟨0xc0000, 16, 8, 1, 0⟩
def FIO_DIAG : Span := ⟨0xc0004, 16, 8, 1, 0⟩
def FIO_BLK : Span := ⟨0xc0080, 1, 0, 1, 0⟩
def FIO_STATUS : Span := ⟨0xc0084, 1, 0, 1, 0⟩
def FIO_IN : Span := ⟨0xc0088, 1, 0, 1, 0⟩
def FIO_CAUSE : Span := ⟨0xc0100, 16, 8, 1, 0⟩
def FIO_MEAS : Span := ⟨0xc0104, 16, 8, 1, 0⟩
def FIO_CNT : Span := ⟨0xc0200, 1, 0, 1, 0⟩
def SIN_CFG : Span := ⟨0xd0000, 48, 4, 1, 0⟩
def SIN_CYC : Span := ⟨0xd0100, 1, 0, 1, 0⟩
def SIN_CYC_EN : Span := ⟨0xd0104, 1, 0, 1, 0⟩
def SIN_LEVEL : Span := ⟨0xd0110, 1, 0, 1, 0⟩
def SIN_ANA : Span := ⟨0xd0180, 16, 4, 1, 0⟩
def SIN_AFLT : Span := ⟨0xd01c0, 1, 0, 1, 0⟩
def SIN_SCHED : Span := ⟨0xd0200, 1, 0, 1, 0⟩
def SIN_CAL : Span := ⟨0xd0204, 1, 0, 1, 0⟩
def SIN_SNS_CNT : Span := ⟨0xd0210, 1, 0, 1, 0⟩
def SIN_STREAMS : Span := ⟨0xd0214, 1, 0, 1, 0⟩
def SCL_CFG : Span := ⟨0xe0000, 1, 0, 1, 0⟩
def SCL_FLOOR : Span := ⟨0xe0004, 1, 0, 1, 0⟩
def SCL_PKG : Span := ⟨0xe0008, 1, 0, 1, 0⟩
def SCL_OVL : Span := ⟨0xe000c, 1, 0, 1, 0⟩
def SCL_RETRY : Span := ⟨0xe0010, 1, 0, 1, 0⟩
def SCL_TRIM : Span := ⟨0xe0020, 8, 4, 1, 0⟩
def SCL_RUN : Span := ⟨0xe0040, 1, 0, 1, 0⟩
def SCL_PKG_TRIM : Span := ⟨0xe0044, 1, 0, 1, 0⟩
def SCL_STATUS : Span := ⟨0xe0050, 1, 0, 1, 0⟩
def SCL_PMEAS : Span := ⟨0xe0060, 8, 8, 1, 0⟩
def SCL_PENERGY : Span := ⟨0xe0064, 8, 8, 1, 0⟩
def SCL_OVL_CNT : Span := ⟨0xe00a0, 1, 0, 1, 0⟩
def SCL_CNT : Span := ⟨0xe00a4, 1, 0, 1, 0⟩
def SW_PORT_CFG : Span := ⟨0xf0000, 8, 4, 1, 0⟩
def SW_CFG : Span := ⟨0xf0020, 1, 0, 1, 0⟩
def SW_SALT : Span := ⟨0xf0024, 1, 0, 1, 0⟩
def SW_PCPMAP : Span := ⟨0xf0028, 1, 0, 1, 0⟩
def SW_TX : Span := ⟨0xf002c, 1, 0, 1, 0⟩
def SW_BUF_GUAR : Span := ⟨0xf0030, 1, 0, 1, 0⟩
def SW_BUF_CFG : Span := ⟨0xf0034, 1, 0, 1, 0⟩
def SW_VLAN_SEL : Span := ⟨0xf0040, 1, 0, 1, 0⟩
def SW_VLAN_DATA : Span := ⟨0xf0044, 1, 0, 1, 0⟩
def SW_TBL_IDX : Span := ⟨0xf0050, 1, 0, 1, 0⟩
def SW_TBL_CMD : Span := ⟨0xf0054, 1, 0, 1, 0⟩
def SW_TBL_DATA0 : Span := ⟨0xf0058, 1, 0, 1, 0⟩
def SW_TBL_DATA1 : Span := ⟨0xf005c, 1, 0, 1, 0⟩
def SW_TBL_DATA2 : Span := ⟨0xf0060, 1, 0, 1, 0⟩
def SW_CBS : Span := ⟨0xf0100, 2, 64, 8, 4⟩
def SW_GATE_CFG : Span := ⟨0xf0200, 2, 1024, 1, 0⟩
def SW_GATE_CYCLE : Span := ⟨0xf0204, 2, 1024, 1, 0⟩
def SW_GATE_BASE : Span := ⟨0xf0208, 2, 1024, 1, 0⟩
def SW_GCL0 : Span := ⟨0xf0220, 2, 1024, 64, 8⟩
def SW_GCL1 : Span := ⟨0xf0224, 2, 1024, 64, 8⟩
def SW_CNT_SEL : Span := ⟨0xf0a00, 1, 0, 1, 0⟩
def SW_CNT_VAL : Span := ⟨0xf0a04, 1, 0, 1, 0⟩
def SW_STATUS : Span := ⟨0xf0a10, 1, 0, 1, 0⟩
def SW_BUF_STATUS : Span := ⟨0xf0a14, 1, 0, 1, 0⟩
def SW_RULE0 : Span := ⟨0xf0b00, 64, 16, 1, 0⟩
def SW_RULE1 : Span := ⟨0xf0b04, 64, 16, 1, 0⟩
def SW_RULE2 : Span := ⟨0xf0b08, 64, 16, 1, 0⟩
def SW_RULE3 : Span := ⟨0xf0b0c, 64, 16, 1, 0⟩
def SW_MSEC_CFG : Span := ⟨0xf0f00, 2, 32, 1, 0⟩
def SW_MSEC_WIN : Span := ⟨0xf0f04, 2, 32, 1, 0⟩
def SW_MSEC_SCI : Span := ⟨0xf0f08, 2, 32, 1, 0⟩
def SW_MSEC_PEER : Span := ⟨0xf0f10, 2, 32, 1, 0⟩
def SW_MSEC_STAT : Span := ⟨0xf0f18, 2, 32, 1, 0⟩
def SUB_T1S_CFG : Span := ⟨0x100000, 4, 8, 1, 0⟩
def SUB_T1S_STAT : Span := ⟨0x100004, 4, 8, 1, 0⟩
def SUB_CAN_CFG : Span := ⟨0x100040, 4, 32, 1, 0⟩
def SUB_CAN_NBT : Span := ⟨0x100044, 4, 32, 1, 0⟩
def SUB_CAN_DBT : Span := ⟨0x100048, 4, 32, 1, 0⟩
def SUB_CAN_XBT : Span := ⟨0x10004c, 4, 32, 1, 0⟩
def SUB_CAN_XPWM : Span := ⟨0x100050, 4, 32, 1, 0⟩
def SUB_CAN_STAT : Span := ⟨0x1000c0, 4, 4, 1, 0⟩
def SUB_LIN_CFG : Span := ⟨0x100100, 6, 8, 1, 0⟩
def SUB_LIN_STAT : Span := ⟨0x100104, 6, 8, 1, 0⟩
def SUB_CAN_FLT0 : Span := ⟨0x100400, 4, 256, 32, 8⟩
def SUB_CAN_FLT1 : Span := ⟨0x100404, 4, 256, 32, 8⟩
def SUB_TUN_CFG : Span := ⟨0x100800, 16, 32, 1, 0⟩
def SUB_TUN_DA : Span := ⟨0x100804, 16, 32, 1, 0⟩
def SUB_TUN_RX : Span := ⟨0x10080c, 16, 32, 1, 0⟩
def SUB_TUN_MAP : Span := ⟨0x100814, 16, 32, 1, 0⟩
def SUB_CNT0 : Span := ⟨0x100a00, 1, 0, 1, 0⟩
def SUB_CNT1 : Span := ⟨0x100a04, 1, 0, 1, 0⟩
def SUB_CNT2 : Span := ⟨0x100a08, 1, 0, 1, 0⟩
def SUB_CNT3 : Span := ⟨0x100a0c, 1, 0, 1, 0⟩
def BRD_BIND0 : Span := ⟨0x110000, 16, 16, 1, 0⟩
def BRD_BIND1 : Span := ⟨0x110004, 16, 16, 1, 0⟩
def BRD_BIND2 : Span := ⟨0x110008, 16, 16, 1, 0⟩
def BRD_TUN : Span := ⟨0x110100, 16, 4, 1, 0⟩
def BRD_STATUS : Span := ⟨0x110140, 1, 0, 1, 0⟩
def BRD_CNT0 : Span := ⟨0x110150, 1, 0, 1, 0⟩
def BRD_CNT1 : Span := ⟨0x110154, 1, 0, 1, 0⟩
def BRD_CNT2 : Span := ⟨0x110158, 1, 0, 1, 0⟩
def BRD_CNT3 : Span := ⟨0x11015c, 1, 0, 1, 0⟩
def INF_TOL0 : Span := ⟨0x120000, 16, 8, 1, 0⟩
def INF_TOL1 : Span := ⟨0x120004, 16, 8, 1, 0⟩
def INF_CTX_STAT : Span := ⟨0x120100, 16, 8, 1, 0⟩
def INF_CTX_EXEC : Span := ⟨0x120104, 16, 8, 1, 0⟩
def INF_CH_STAT : Span := ⟨0x120200, 1, 0, 1, 0⟩
def INF_MEM : Span := ⟨0x120204, 1, 0, 1, 0⟩
def INF_CNT0 : Span := ⟨0x120210, 1, 0, 1, 0⟩
def INF_CNT1 : Span := ⟨0x120214, 1, 0, 1, 0⟩
def INF_CNT2 : Span := ⟨0x120218, 1, 0, 1, 0⟩
def INF_CNT3 : Span := ⟨0x12021c, 1, 0, 1, 0⟩
def STO_NS_SEL : Span := ⟨0x130000, 1, 0, 1, 0⟩
def STO_NS_CFG : Span := ⟨0x130004, 1, 0, 1, 0⟩
def STO_NS_CMD : Span := ⟨0x130008, 1, 0, 1, 0⟩
def STO_NS_STATUS : Span := ⟨0x13000c, 1, 0, 1, 0⟩
def STO_NS_INFO : Span := ⟨0x130010, 1, 0, 1, 0⟩
def STO_NS_BLOCKS : Span := ⟨0x130014, 1, 0, 1, 0⟩
def STO_FREE : Span := ⟨0x130018, 1, 0, 1, 0⟩
def STO_WB_CFG : Span := ⟨0x130020, 1, 0, 1, 0⟩
def STO_WB_STATUS : Span := ⟨0x130024, 1, 0, 1, 0⟩
def STO_CNT : Span := ⟨0x130030, 1, 0, 1, 0⟩
def STO_CNT2 : Span := ⟨0x130034, 1, 0, 1, 0⟩
def STO_MEDIA_CFG : Span := ⟨0x130040, 1, 0, 1, 0⟩
def STO_RET_CFG : Span := ⟨0x130044, 1, 0, 1, 0⟩
def STO_HEALTH_CFG : Span := ⟨0x130048, 1, 0, 1, 0⟩
def STO_HOLD_CFG : Span := ⟨0x13004c, 1, 0, 1, 0⟩
def STO_HOLD_MEAS : Span := ⟨0x130050, 1, 0, 1, 0⟩
def STO_HEALTH : Span := ⟨0x130054, 1, 0, 1, 0⟩
def STO_NS_WEAR : Span := ⟨0x130058, 1, 0, 1, 0⟩
def STO_PF_CNT : Span := ⟨0x13005c, 1, 0, 1, 0⟩
def SEC_STATUS : Span := ⟨0x140000, 1, 0, 1, 0⟩
def SEC_CFG : Span := ⟨0x140004, 1, 0, 1, 0⟩
def SEC_KEY_STATE : Span := ⟨0x140008, 1, 0, 1, 0⟩
def SEC_KEY_USE : Span := ⟨0x140040, 16, 4, 1, 0⟩
def SEC_CNT : Span := ⟨0x1400c0, 1, 0, 1, 0⟩
def UPD_STATUS : Span := ⟨0x150000, 1, 0, 1, 0⟩
def UPD_RB : Span := ⟨0x150004, 1, 0, 1, 0⟩
def UPD_BANK : Span := ⟨0x150010, 2, 8, 1, 0⟩
def UPD_BANK_SVN : Span := ⟨0x150014, 2, 8, 1, 0⟩
def UPD_LEFT : Span := ⟨0x150020, 1, 0, 1, 0⟩
def TLY_STATUS : Span := ⟨0x160000, 1, 0, 1, 0⟩
def TLY_NEXT : Span := ⟨0x160004, 1, 0, 1, 0⟩
def TLY_MARK : Span := ⟨0x160008, 1, 0, 1, 0⟩
def TLY_CNT0 : Span := ⟨0x16000c, 1, 0, 1, 0⟩
def TLY_CNT1 : Span := ⟨0x160010, 1, 0, 1, 0⟩
def TLY_SEL : Span := ⟨0x160020, 1, 0, 1, 0⟩
def TLY_DATA : Span := ⟨0x160040, 16, 4, 1, 0⟩
def EVT_INJ : Span := ⟨0x170000, 1, 0, 1, 0⟩
def EVT_INJ_STATUS : Span := ⟨0x170004, 1, 0, 1, 0⟩
def EVT_RAISE : Span := ⟨0x170008, 1, 0, 1, 0⟩
def EVT_ECC_CNT : Span := ⟨0x170040, 16, 4, 1, 0⟩
def EVT_ECC_LAST : Span := ⟨0x170080, 1, 0, 1, 0⟩
def EVT_LINK_CNT : Span := ⟨0x1700a0, 4, 4, 1, 0⟩
def EVT_CDLOSS : Span := ⟨0x1700c0, 1, 0, 1, 0⟩
def EVT_SCRUB : Span := ⟨0x1700c4, 1, 0, 1, 0⟩

end Reg

end Sys2Proof.Machine
end

