-- ==== Sys2Proof/WellFormed.lean ====
section
/-! DEFINITION.
Which commands are well formed: what a command's operands must be for it to be one that the spec describes. A descriptor
body is a whole 64-byte image (R172), a channel exists (Table 6.2), a Zilek frame has a header, a core's access has a
width a core has, and measured numbers fit the registers that show them. A meaning does not depend on it.
-/

namespace Sys2Proof

/-- The channel exists: a kind of Table 6.2 and an index of that kind. -/
def Chan.wf (c : Chan) : Bool :=
  match c.kind with
  | 1 => c.idx < 32
  | 2 => c.idx < 8
  | 3 => c.idx < 8
  | 4 => c.idx < 24
  | 5 => c.idx < 16
  | _ => false

/-- The image of a descriptor: 64 bytes (R172). -/
def bodyWf (b : List Byte) : Bool := b.length == 64

/-- A Zilek frame is given from its 12-byte header on (R115, Table 5.1). -/
def zilekWf (f : List Byte) : Bool := 12 ≤ f.length

/-- An Ethernet frame has both addresses and an EtherType (R334). -/
def frameWf (f : List Byte) : Bool := 14 ≤ f.length

/-- A core's access is of 1, 2, 4 or 8 bytes at a 40-bit address (R3, R567). -/
def accessWf (addr len : Nat) : Bool := addr < 2 ^ 40 && [1, 2, 4, 8].contains len

/-- A measurement fits so many bits. -/
def fits (w n : Nat) : Bool := n < 2 ^ w

/-- What an LED test measures fits: its current in 32 bits, its voltages in 16. -/
def LedMeas.wf (m : LedMeas) : Bool :=
  fits 32 m.pulseUa && fits 16 m.pinMv &&
    match m.nb with
    | none => true
    | some (was, pin, nb) => fits 16 was && fits 16 pin && fits 16 nb

/-- Every channel that a scaler step measures exists, and each is measured once. -/
def ScalerIn.wf (x : ScalerIn) : Bool :=
  x.chans.all (fun m => m.ch.wf) && decide ((x.chans.map (fun m => (m.ch.kind, m.ch.idx))).Nodup)

/-- A record of a received CAN frame is one of Table 17.4: at most 24 bytes of fields and 2,048 of data. -/
def CanEv.wf (e : CanEv) : Bool :=
  match e with
  | .frame bs => bs.length ≤ 2072
  | .rxError => true
  | .rxErrorDominant => true
  | .txError => true
  | .arbitrationLost => true

/-- The command is well formed. -/
def Instr.wf (i : Instr) : Bool :=
  match i with
  | .powerOnReset mv => fits 16 mv
  | .vsparFall _ => true
  | .sparWdgExpiry _ => true
  | .sparResetDone => true
  | .sprRstCmd _ _ => true
  | .controlWdgExpiry => true
  | .sprWdgFeed _ _ => true
  | .wdgWarn => true
  | .cdLinkSilence => true
  | .corePgoodLost => true
  | .ldControlLost => true
  | .bypassEngage cause lost => fits 16 lost && [1, 2, 3, 4, 5, 7].contains cause
  | .limpTableApply => true
  | .cdRestart => true
  | .xsNoEdgeTimeout => true
  | .xsRatioCheck ratio => fits 32 ratio
  | .lpoCalibrate ratio => fits 32 ratio
  | .xsReturn => true
  | .rtcWrite _ _ _ => true
  | .rtcAlarmWrite _ _ _ => true
  | .rtcAlarmFire => true
  | .dtCorrection _ _ => true
  | .dtSyncReached => true
  | .syncLoss => true
  | .clkSrcWrite _ _ => true
  | .clkSwitchDone => true
  | .clkPllCfgWrite _ _ => true
  | .pllLock _ => true
  | .pllLockLoss _ => true
  | .xfFail => true
  | .xfReady => true
  | .ignChange mv held => fits 16 mv && fits 32 held
  | .crashEdge mv held => fits 16 mv && fits 32 held
  | .crashLatchClear _ _ => true
  | .limpRelease _ _ => true
  | .limpReleased => true
  | .limpDriveEnd _ => true
  | .limpBrakeEnd _ => true
  | .coreWfi _ => true
  | .coreIdle _ => true
  | .coreWake _ => true
  | .devIdleTimeout => true
  | .pwrNextWrite _ _ => true
  | .pwrSafAck _ _ => true
  | .powerEntry => true
  | .entryWaitTimeout => true
  | .entryComplete => true
  | .deepAfterTimeout => true
  | .offAfterTimeout => true
  | .wakeEvent _ _ _ => true
  | .whistleDetect _ _ _ _ _ _ => true
  | .whistleForward => true
  | .wakeAttempt => true
  | .railPgood _ => true
  | .wakeAttemptFail _ => true
  | .holdLate hold => fits 16 hold
  | .xfLate ms => fits 16 ms
  | .cdStart pos => fits 12 pos
  | .bankZeroDone _ => true
  | .secureBoot _ _ _ _ _ => true
  | .p0Handoff => true
  | .confirmDeadline => true
  | .updConfirmDue => true
  | .chainLinkChange _ _ => true
  | .chnPortCfgWrite _ _ => true
  | .discover _ frame => zilekWf frame
  | .announce _ frame => zilekWf frame
  | .announceTimer => true
  | .assign _ frame => zilekWf frame
  | .confirm _ frame => zilekWf frame
  | .cruiseDone _ frame => zilekWf frame
  | .assignTimeout => true
  | .doorbellFrame _ frame _ => zilekWf frame
  | .readRsp _ frame _ => zilekWf frame
  | .readTimeout _ id => fits 32 id
  | .heartbeat _ frame _ => zilekWf frame
  | .attachReq _ frame _ => zilekWf frame
  | .detachReq _ frame _ => zilekWf frame
  | .heartbeatSend _ => true
  | .detachTimeout _ => true
  | .writeRetransmit _ => true
  | .ident _ frame => zilekWf frame
  | .maintStatus _ frame => zilekWf frame
  | .tallyRead _ frame => zilekWf frame
  | .tallyClear _ frame => zilekWf frame
  | .maintSparReset _ frame => zilekWf frame
  | .maintDeviceReset _ frame => zilekWf frame
  | .bypassOn _ frame => zilekWf frame
  | .bypassOff _ frame => zilekWf frame
  | .bypassForce _ _ => true
  | .bypassLeave _ _ lost => fits 16 lost
  | .chainSleepReq _ => true
  | .sendWhistle _ _ => true
  | .layoutApply _ => true
  | .parSeal _ _ => true
  | .limpCommit => true
  | .parRst _ _ => true
  | .selfReset _ _ _ => true
  | .partResetDone _ => true
  | .orphanTimeout c => c.wf
  | .orphanBrakeEnd c => c.wf
  | .eventCoalesceTimeout _ => true
  | .eventTokenRefill => true
  | .swEvent _ _ _ => true
  | .sQueueDeliver _ => true
  | .armPart _ => true
  | .armEngine _ => true
  | .engineReset _ => true
  | .producerDoorbell _ _ _ _ _ => true
  | .completionDoorbell _ _ _ _ => true
  | .eventDoorbell _ _ _ => true
  | .descriptorAccept _ _ _ => true
  | .timedStart _ _ _ _ _ _ => true
  | .ringStall _ _ _ => true
  | .nop _ _ b => bodyWf b
  | .cancel _ _ b => bodyWf b
  | .actSet _ b => bodyWf b
  | .actPulse _ b => bodyWf b
  | .actPwm _ b => bodyWf b
  | .actProfile _ b => bodyWf b
  | .actBridge _ b => bodyWf b
  | .actSequence _ b => bodyWf b
  | .sequenceStep _ => true
  | .actRestart _ b => bodyWf b
  | .actGrant _ b => bodyWf b
  | .actClaim _ b => bodyWf b
  | .actStatus _ b => bodyWf b
  | .safeAction _ b => bodyWf b
  | .safetyLaneMsg => true
  | .limpStage _ _ => true
  | .pulseTrainEnd c => c.wf
  | .profileSegmentEnd c => c.wf
  | .hsOvercurrent c ma => c.wf && fits 24 ma
  | .tempSample c _ => c.wf
  | .inrushEnd c => c.wf
  | .retryRestart c => c.wf
  | .retryCountReset c => c.wf
  | .openLoadChange c lo hi n vlo vhi => c.wf && fits 24 lo && fits 24 hi && fits 16 n && fits 24 vlo && fits 24 vhi
  | .runMsExpiry _ => true
  | .dirGapEnd _ => true
  | .rippleAccept _ period amp => fits 32 period && fits 24 amp
  | .rippleFill _ => true
  | .stall _ held ma => fits 16 held && fits 24 ma
  | .hbOvercurrent _ _ ma => fits 24 ma
  | .hbOpenChange _ lo hi => fits 24 lo && fits 24 hi
  | .reversalBrakeEnd _ => true
  | .reversalDriveEnd _ => true
  | .reversalFinalEnd _ => true
  | .svOvercurrent _ ma => fits 24 ma
  | .kerfFound _ ks => ks.all (fits 16)
  | .kerfWindowEnd _ ks => ks.all (fits 16)
  | .svShare _ a b => fits 24 a && fits 24 b
  | .svOpenChange _ lo hi => fits 24 lo && fits 24 hi
  | .ledTest _ r => (r.map LedMeas.wf).getD true
  | .followOff _ => true
  | .ledHeadroom _ mv held => fits 16 mv && fits 32 held
  | .ledDerateUpdate _ _ ohms => ohms.all (fits 32)
  | .ntcFaultHoldEnd _ => true
  | .fioInputAccept _ mv held => fits 16 mv && fits 32 held
  | .fioFaultScan => true
  | .fioRescan => true
  | .fioSupplyCause mv held => fits 16 mv && fits 32 held
  | .fioInputRange _ mv held => fits 16 mv && fits 32 held
  | .inputSample mv vspar => mv.length == 48 && mv.all (fits 16) && fits 16 vspar
  | .cyclicBurst mv vspar => mv.length == 48 && mv.all (fits 16) && fits 16 vspar
  | .analogConvert _ value => fits 16 value
  | .adcCalibrate _ _ => true
  | .snsOpen _ b => bodyWf b
  | .snsClose _ b _ _ => bodyWf b
  | .streamRelease _ b => bodyWf b
  | .snsRead _ b => bodyWf b
  | .blockComplete _ _ _ _ => true
  | .windowHandoff _ _ => true
  | .scalerStep x => x.wf
  | .scalerRestart _ => true
  | .stormEnd => true
  | .lossWindowEnd => true
  | .frameReceive _ frame _ => frameWf frame
  | .frameTransmit _ _ => true
  | .gateEntry _ => true
  | .agingScan => true
  | .netTx _ b => bodyWf b
  | .txTimeout => true
  | .rxBuf _ _ b => bodyWf b
  | .flushTable _ b => bodyWf b
  | .tblRead _ => true
  | .tblWrite _ => true
  | .tblClear _ => true
  | .plcaBeaconLoss _ => true
  | .t1sSleepReq _ => true
  | .canFrameRx _ ev => ev.wf
  | .busoffRecovered _ => true
  | .canTx _ b => bodyWf b
  | .busFrameSent _ _ => true
  | .busTxTimeout _ _ => true
  | .linTx _ b => bodyWf b
  | .linSched _ b => bodyWf b
  | .linSlot _ => true
  | .linResp _ b => bodyWf b
  | .linHeaderRx _ _ => true
  | .linResponseRx _ data _ => data.length ≤ 9
  | .linGotoSleep _ => true
  | .busOnline _ b => bodyWf b
  | .busOffline _ b => bodyWf b
  | .busSleep _ b => bodyWf b
  | .busWake _ b => bodyWf b
  | .busRecover _ b => bodyWf b
  | .tunnelIngress frame => frameWf frame
  | .tunnelFlush _ => true
  | .infResult _ id _ => fits 32 id
  | .pairTimeout _ id => fits 32 id
  | .noInputTimeout _ => true
  | .lockstepFault _ mcycle => fits 64 mcycle
  | .infLoad _ b => bodyWf b
  | .infUnload _ b => bodyWf b
  | .infRun _ b => bodyWf b
  | .jobStart _ id => fits 32 id
  | .jobEnd _ _ => true
  | .jobWatchdog _ => true
  | .katStart _ _ => true
  | .katEnd _ _ _ => true
  | .katRetest _ _ _ => true
  | .contextReload _ execA execB => fits 32 execA && fits 32 execB
  | .nsCreate _ => true
  | .nsDelete _ => true
  | .stoRead _ b => bodyWf b
  | .stoWrite _ b => bodyWf b
  | .stoWriteAtomic _ b => bodyWf b
  | .stoTrim _ b => bodyWf b
  | .stoFlush _ b => bodyWf b
  | .stoStatus _ b => bodyWf b
  | .wbDrain _ _ _ => true
  | .storeMount _ _ => true
  | .checkpoint _ => true
  | .journalFlush _ => true
  | .retentionUpdate _ => true
  | .refresh _ _ _ => true
  | .garbageCollection _ _ _ _ _ _ => true
  | .powerFail _ _ hold => fits 16 hold
  | .powerFailStepDone => true
  | .holdStop _ _ => true
  | .holdupMeasure vh c esr _ => fits 16 c && fits 16 esr && fits 16 vh
  | .holdLow _ _ => true
  | .secRandom _ b => bodyWf b
  | .entropyTimeout => true
  | .trngStartupDone _ ms => fits 16 ms
  | .seedRewrite => true
  | .trngContinuousFail => true
  | .reseedDue => true
  | .secAesGcm _ b => bodyWf b
  | .secSha256 _ b => bodyWf b
  | .secHkdf _ b => bodyWf b
  | .secEcdsaSign _ b => bodyWf b
  | .secEcdsaVerify _ b => bodyWf b
  | .secMldsaVerify _ b => bodyWf b
  | .secKeyLoad _ b => bodyWf b
  | .secKeyClear _ b => bodyWf b
  | .secCmac _ b => bodyWf b
  | .secPubkey _ b => bodyWf b
  | .keyProvision _ b => bodyWf b
  | .msecInstall _ b => bodyWf b
  | .msecRetire _ b => bodyWf b
  | .updVerify _ b _ => bodyWf b
  | .updArm _ b => bodyWf b
  | .updDisarm _ b => bodyWf b
  | .updConfirm _ b => bodyWf b
  | .dbgAuthChallenge => true
  | .dbgAuthResponse _ => true
  | .tallyWrite => true
  | .tlySelWrite _ _ => true
  | .tlyMarkWrite _ _ => true
  | .eccError _ _ addr _ => fits 40 addr
  | .scrub _ addr _ => fits 40 addr
  | .linkReplay _ _ => true
  | .linkRetrain _ _ => true
  | .linkLost _ => true
  | .sidebandParityLoss => true
  | .onfiLoss => true
  | .heldEventDelivery _ => true
  | .evtInjArm _ _ => true
  | .evtRaise _ _ => true
  | .sealSetApply _ _ => true
  | .feedUndervoltage _ mv held => fits 16 mv && fits 32 held
  | .feedOvervoltage _ mv held => fits 16 mv && fits 32 held
  | .feedRecover _ mv held => fits 16 mv && fits 32 held
  | .rcRegisterRead _ addr len => accessWf addr len
  | .registerWrite _ addr len _ => accessWf addr len
  | .plcaBeaconReturn _ => true
  | .holdPrechargeTrip => true
  | .linkPgoodLost => true
  | .preRegulatorInputReturn _ _ => true
  | .infLoadComplete _ execA execB => fits 32 execA && fits 32 execB
  | .stoCommandComplete _ _ _ _ => true
  | .linkRecoveryRetry _ _ => true

end Sys2Proof
end

