-- ==== Sys2Proof/Safety.lean ====
section
/-! DEFINITION.
What counts as a sound state, and what a frame is: the terms that statements about every state use.
-/

namespace Sys2Proof.Machine

/-- The memory is in its one canonical form: addresses rise strictly, no entry equals what an unlisted address reads as
(zero), and every listed address lies in system SRAM or the safety TCM, the only memories of Table 28.1 that software
writes. -/
abbrev Memory.wf (m : List Host.Cell) : Prop := tabWf 0 m ∧ ∀ e ∈ m, inSram e.1 = true ∨ inTcm e.1 = true

/-- A sound state: memory in canonical form, and the register file listed in strictly rising order, so that each register
has one content. -/
def Inv (s : State) : Prop := Memory.wf s.mem ∧ tabSorted s.regs

/-- A command that a state's control die can take from its cores: the die executes and is in RUN. -/
def coreRuns (s : State) : Prop := cdUp s = true ∧ s.pwr.ps = .run

/-! ### Frames -/

/-- The bytes that the device's own records occupy in its partitions' memory (Table 7.1): the event ring, the completion
rings, the shadow block and the word of the message write, as armed and laid out in the state. -/
def recordByte (s : State) (a : Nat) : Prop :=
  ∃ p, (∃ k, (k = eventKey p ∨ ∃ eng, k = ringKey p eng 4)
          ∧ (ringAt s k).phys ≤ a ∧ a < (ringAt s k).phys + 2 ^ (ringAt s k).size * 32)
    ∨ ((shadowOf s p).phys ≤ a ∧ a < (shadowOf s p).phys + 128)
    ∨ ∃ e, entryOf s p = some e ∧ e.msiAddr ≤ a ∧ a < e.msiAddr + 4

/-- The parts of the state beside the register fields. `records` are the bytes of `recordByte`, `memory` every other
byte, and `layout` what says where those bytes lie. What events, completions and tally records move wherever they arise has
parts of its own: `owed` signals, ring indices (`rings`), the tally's `queue`, the `proxies` with their posts, the `loss` that
the scaler counts, and the packet numbers and counters of the frames on the `wire`; `banks` are those still to be zeroed, which
an access ends. `pwr`, `rng`, `tly`, `chain`, `scl` and `sw` are the rest of those groups. -/
inductive Part where
  | memory | records | layout | pending | now | freeCtr | latches | spar | dt | pwr | owed | banks | par | rng | rings | evt | tly
  | queue | chain | proxies | act | chs | scl | loss | sns | sw | wire | sub | brd | inf | sto | sec | upd | flt | out
  deriving DecidableEq, Repr

/-- A part is the same in two states. -/
def Part.Same : Part → State → State → Prop
  | .memory, s, t => ∀ a, ¬ recordByte s a → readByte t a = readByte s a
  | .records, s, t => ∀ a, recordByte s a → readByte t a = readByte s a
  | .layout, s, t => (∀ p, entryOf t p = entryOf s p) ∧ (∀ p, shadowOf t p = shadowOf s p)
      ∧ ∀ k, (ringAt t k).phys = (ringAt s k).phys ∧ (ringAt t k).size = (ringAt s k).size
  | .pending, s, t => t.pending = s.pending
  | .now, s, t => t.now = s.now
  | .freeCtr, s, t => t.freeCtr = s.freeCtr
  | .latches, s, t => t.latches = s.latches
  | .spar, s, t => t.spar = s.spar
  | .dt, s, t => t.dt = s.dt
  | .pwr, s, t => { t.pwr with owed := [], unzeroed := [] } = { s.pwr with owed := [], unzeroed := [] }
  | .owed, s, t => t.pwr.owed = s.pwr.owed
  | .banks, s, t => t.pwr.unzeroed = s.pwr.unzeroed
  | .par, s, t => t.par = s.par
  | .rng, s, t => { t.rng with rings := [] } = { s.rng with rings := [] }
  | .rings, s, t => t.rng.rings = s.rng.rings
  | .evt, s, t => t.evt = s.evt
  | .tly, s, t => { t.tly with queue := [], dropped := 0, dropAfter := 0 } = { s.tly with queue := [], dropped := 0, dropAfter := 0 }
  | .queue, s, t => t.tly.queue = s.tly.queue ∧ t.tly.dropped = s.tly.dropped ∧ t.tly.dropAfter = s.tly.dropAfter
  | .chain, s, t => { t.chain with proxies := [], nextReq := 0 } = { s.chain with proxies := [], nextReq := 0 }
  | .proxies, s, t => t.chain.proxies = s.chain.proxies ∧ t.chain.nextReq = s.chain.nextReq
  | .act, s, t => t.act = s.act
  | .chs, s, t => t.chs = s.chs
  | .scl, s, t => { t.scl with loss := [], lossParts := [] } = { s.scl with loss := [], lossParts := [] }
  | .loss, s, t => t.scl.loss = s.scl.loss ∧ t.scl.lossParts = s.scl.lossParts
  | .sns, s, t => t.sns = s.sns
  | .sw, s, t => { t.sw with counters := [], txSa := [], pnWarn := [] } = { s.sw with counters := [], txSa := [], pnWarn := [] }
  | .wire, s, t => t.sw.counters = s.sw.counters ∧ t.sw.txSa = s.sw.txSa ∧ t.sw.pnWarn = s.sw.pnWarn
  | .sub, s, t => t.sub = s.sub
  | .brd, s, t => t.brd = s.brd
  | .inf, s, t => t.inf = s.inf
  | .sto, s, t => t.sto = s.sto
  | .sec, s, t => t.sec = s.sec
  | .upd, s, t => t.upd = s.upd
  | .flt, s, t => t.flt = s.flt
  | .out, s, t => t.out = s.out

/-- A frame: every register field outside the named registers holds what it held, and every part of the state outside the
named parts is the same. -/
def Frame (w : List Span) (g : List Part) (s t : State) : Prop :=
  (∀ f : Field, f.lsb < 64 → (∀ r ∈ w, ¬ r.Has f.off) → t.rd f = s.rd f) ∧ ∀ x : Part, x ∉ g → x.Same s t

end Sys2Proof.Machine
end

