-- ==== Sys2Proof/Terms.lean ====
section
/-! DEFINITION.
The terms that statements about single commands share: when a frame is heard, when a descriptor is served, and what a
completed descriptor leaves; and which commands may write the tally.
-/

namespace Sys2Proof.Machine

/-! ### When a command is heard -/

/-- A Zilek frame of a type reaches the unit's endpoint: the link die is powered, no bypass passes the frame on and none has cut
the chain, the control die executes, and R116 finds no fault in it. -/
def Heard (s : State) (frame : List Byte) (typ : Nat) (z : Zk) : Prop :=
  s.pwr.ldUp = true ∧ bypassed s = false ∧ s.chain.cut = false ∧ cdUp s = true ∧ parseZilek frame = some z ∧ z.typ = typ

/-- A remote frame is for this unit, arrived protected where its port demands it (R117), names an attached partition and comes
from its home (R133, R138). -/
def FromHome (s : State) (port : Nat) (sec : Bool) (z : Zk) : Prop :=
  (s.flag (SW_MSEC_CFG_MSEC_EN port) = false ∨ sec = true) ∧ (z.dst = ownAddr s ∨ z.dst = 63)
    ∧ z.part < 8 ∧ attached s z.part = true ∧ z.src = homeAddr s z.part

/-- The state in which such a frame acts: its partition's home has just been heard (R138). -/
def heardFrom (s : State) (z : Zk) : State := setProxy s z.part { proxyOf s z.part with heardAt := s.now }

/-- A MAINT request of an operation reaches the unit that it names while somebody answers MAINT (R125, R130). -/
def Asked (s : State) (frame : List Byte) (op : Nat) (z : Zk) : Prop :=
  parseZilek frame = some z ∧ z.typ = 7 ∧ leAt z.body 0 1 = op ∧ forUnit s z = true ∧ maintServed s = true

/-- The state in which it is answered: an engaged bypass has passed on a request that was not for this unit alone (R125). -/
def asked (s : State) (port : Nat) (frame : List Byte) (z : Zk) : State :=
  if bypassed s && z.dst != ownAddr s then emit s (.bypassed (1 - port) frame) else s

/-- A descriptor of an engine is served: the control die executes, the descriptor was accepted with this opcode and body and is
unstarted, its start time has come, and its engine serves it next (R20, R89, R162, R173, R176, R182, R183, R185). -/
def Served (s : State) (eng op : Nat) (h : DHdr) (b : List Byte) : Prop := cdUp s = true ∧ canStart s eng op h b = true

/-- The state in which a served descriptor acts: its engine's round has moved on, its partition's bucket is charged, and it is
started (R162, R183, Table 6.10). -/
def begun (s : State) (eng op : Nat) (h : DHdr) (b : List Byte) : State := serve s eng op h b

/-! ### Commands by what they may write -/

/-- The commands that may write the tally's record areas, or cut a write short, or advance what their chain rests on
(R497, R502, R505, R508): the record write itself, the scans and counts of a reset or a wake, TALLY_READ's MARK and
TALLY_CLEAR, an error of the MRAM, and the register writes that may carry one of them. -/
def writesTally : Instr → Bool
  | .powerOnReset _ => true
  | .vsparFall _ => true
  | .sparWdgExpiry _ => true
  | .wakeAttempt => true
  | .cdStart _ => true
  | .tallyRead _ _ => true
  | .tallyClear _ _ => true
  | .maintSparReset _ _ => true
  | .tallyWrite => true
  | .tlyMarkWrite _ _ => true
  | .eccError _ _ _ _ => true
  | .sealSetApply _ _ => true
  | .registerWrite _ _ _ _ => true
  | _ => false

end Sys2Proof.Machine
end

