-- ==== Sys2Proof/Certificates/Slice0/Obligations.lean ====
section
/-! DEFINITION.
The statements for the provers, one proposition each. A clause's comment names its command.
-/

open Sys2Proof Sys2Proof.Machine

/-- Power-on, spar and device resets. POWER_ON_RESET leaves SPR_RST_CAUSE naming the power-on reset alone, the spar
domain, device time, the layout, the switch and every output channel as after manufacture and the power-on wake
sequence waiting, and keeps the MRAM copies of the limp table and the update record; VSPAR_FALL leaves the device
unpowered; SPAR_WDG_EXPIRY records its cause, makes device time FREE and clears the wake arming while the control die
and the power state stay; SPAR_RESET_DONE in RUN only lets the firmware run again. Each clause names the operands and
the states it holds for, concludes that exec answers a next state, and gives that state whole, or by its frame and
what it holds. -/
def Obligations.ResetCommands : Prop :=
  -- POWER_ON_RESET
  (∀ (mv : Nat) (s : State), 4050 ≤ mv → ∃ t, exec (.powerOnReset mv) s = .next t ∧ t.rd SPR_RST_CAUSE_CAUSE = 1 ∧
     t.spar = {} ∧ t.dt = {} ∧ t.par = {} ∧ t.sw.table = [] ∧ t.sw.vlans = [] ∧ t.sw.queues = [] ∧ t.sw.rxSa = [] ∧
     t.chs = [] ∧ t.latches = [] ∧ t.pwr.ps = .off ∧ t.pwr.cd = .off ∧
     t.pwr.seq = some { kind := .por, code := 1, index := 0 } ∧ t.act.copy0 = s.act.copy0 ∧
     t.act.copy1 = s.act.copy1 ∧ t.upd = s.upd ∧ t.pending = s.pending) ∧
  -- VSPAR_FALL
  (∀ (stage : Fin 5) (s : State), ∃ t, exec (.vsparFall stage) s = .next t ∧ Frame [Reg.CHN_BYPASS, Reg.HS_STATE,
     Reg.HB_STATE, Reg.SV_STATE, Reg.LED_STATE, Reg.FIO_CAUSE, Reg.TLY_STATUS, Reg.TLY_NEXT] [.spar, .dt, .pwr, .rng,
     .tly, .chain, .chs] s t ∧ t.pwr.ps = .off ∧ t.pwr.cd = .off ∧ t.pwr.ldUp = false ∧ t.pwr.seq = none ∧
     t.spar.up = false ∧ t.spar.wdgOn = false ∧ t.dt.on = false) ∧
  -- SPAR_WDG_EXPIRY
  (∀ (fn : Fin 8) (s : State), s.spar.up = true → sparRuns s = true → ∃ t, exec (.sparWdgExpiry fn) s = .next t ∧
     Frame [Reg.SPR_DT_STATUS, Reg.SPR_RST_CAUSE, Reg.WAK_ARM, Reg.WAK_BUS_EN, Reg.WAK_SI_EN, Reg.PAR_EVT_CNT,
     Reg.SW_CNT_VAL, Reg.SW_MSEC_STAT, Reg.TLY_STATUS, Reg.TLY_CNT0, Reg.TLY_CNT1] [.records, .spar, .owed, .rings,
     .evt, .tly, .queue, .proxies, .loss, .sns, .wire, .out] s t ∧ t.spar.up = false ∧ t.rd SPR_DT_STATUS_STATE = 0 ∧
     t.rd WAK_ARM_SRC = 0 ∧ t.rd SPR_RST_CAUSE_CAUSE = (s.rd SPR_RST_CAUSE_CAUSE ||| 2) % 256 ∧ t.pwr.ps = s.pwr.ps ∧
     t.pwr.cd = s.pwr.cd) ∧
  -- SPAR_RESET_DONE
  (∀ (s : State), s.spar.up = false → s.spar.powered = true → s.pwr.ps = .run →
     exec .sparResetDone s = .next ({ s with spar := { s.spar with up := true } }))

/-- Loss of the control die and its restart. A watchdog expiry, a wrong feed, a silent link or a lost core rail declares
the control die lost with its cause and asks for the interim table; a right feed is taken; the warning is raised
once; the link die's loss of its control die and an engaged bypass are recorded; the interim table is applied; a
restart begins by a device reset and a wake sequence of kind restart. Each clause names the operands and the states
it holds for, concludes that exec answers a next state, and gives that state whole, or by its frame and what it
holds. -/
def Obligations.ControlLosses : Prop :=
  -- CONTROL_WDG_EXPIRY
  (∀ (s : State), s.spar.wdgOn = true → cdUp s = true → lasted s s.spar.wdgSince (1000 * s.spar.wdgPeriod) = true →
     ∃ t, exec .controlWdgExpiry s = .next t ∧ Frame [Reg.SPR_RST_CAUSE, Reg.PWR_DOM_STATUS, Reg.CHN_ATTACH,
     Reg.PAR_STATE, Reg.PAR_EVT_CNT, Reg.ACT_SAFE_STATUS, Reg.ACT_CNT, Reg.HS_STATE, Reg.HB_STATE, Reg.SV_STATE,
     Reg.SV_KRES, Reg.SV_CNT2, Reg.LED_STATE, Reg.FIO_CAUSE, Reg.SIN_SCHED, Reg.SIN_STREAMS, Reg.SW_CNT_VAL,
     Reg.SW_MSEC_STAT, Reg.TLY_CNT0, Reg.EVT_CDLOSS] [.records, .freeCtr, .spar, .pwr, .owed, .rng, .rings, .evt,
     .queue, .proxies, .act, .chs, .loss, .sns, .wire, .out] s t ∧ t.pwr.cd = .lost ∧ t.spar.wdgOn = false ∧
     t.spar.lossCause = 3 ∧ t.act.interim = true) ∧
  -- SPR_WDG_FEED
  (∀ (v : Word) (s : State), cdUp s = true → s.spar.wdgOn = true → v.toNat = 0xA55A → wdgOpen s = true →
     safFeed s = false → exec (.sprWdgFeed .p0 v) s = .next (feedNow s)) ∧
  -- SPR_WDG_FEED
  (∀ (v : Word) (s : State), cdUp s = true → s.spar.wdgOn = true → v.toNat ≠ 0xA55A → ∃ t,
     exec (.sprWdgFeed .p0 v) s = .next t ∧ Frame [Reg.SPR_RST_CAUSE, Reg.PWR_DOM_STATUS, Reg.CHN_ATTACH,
     Reg.PAR_STATE, Reg.PAR_EVT_CNT, Reg.ACT_SAFE_STATUS, Reg.ACT_CNT, Reg.HS_STATE, Reg.HB_STATE, Reg.SV_STATE,
     Reg.SV_KRES, Reg.SV_CNT2, Reg.LED_STATE, Reg.FIO_CAUSE, Reg.SIN_SCHED, Reg.SIN_STREAMS, Reg.SW_CNT_VAL,
     Reg.SW_MSEC_STAT, Reg.TLY_CNT0, Reg.EVT_CDLOSS] [.records, .freeCtr, .spar, .pwr, .owed, .rng, .rings, .evt,
     .queue, .proxies, .act, .chs, .loss, .sns, .wire, .out] s t ∧ t.pwr.cd = .lost ∧ t.spar.lossCause = 3) ∧
  -- WDG_WARN
  (∀ (s : State), cdUp s = true → s.spar.wdgOn = true → s.spar.wdgWarned = false →
     lasted s s.spar.wdgSince (750 * s.spar.wdgPeriod) = true →
     exec .wdgWarn s = .next (raise { s with spar := { s.spar with wdgWarned := true } } 3 true (p0Safety s) (leBytes 2 (s.spar.wdgPeriod * 3 / 4) ++ [byte (feedsMissing s)]))) ∧
  -- CD_LINK_SILENCE
  (∀ (s : State), s.pwr.armed = true → s.pwr.cd = .run → ∃ t, exec .cdLinkSilence s = .next t ∧
     Frame [Reg.PWR_DOM_STATUS, Reg.CHN_ATTACH, Reg.PAR_STATE, Reg.PAR_EVT_CNT, Reg.ACT_SAFE_STATUS, Reg.ACT_CNT,
     Reg.HS_STATE, Reg.HB_STATE, Reg.SV_STATE, Reg.SV_KRES, Reg.SV_CNT2, Reg.LED_STATE, Reg.FIO_CAUSE, Reg.SIN_SCHED,
     Reg.SIN_STREAMS, Reg.SW_CNT_VAL, Reg.SW_MSEC_STAT, Reg.TLY_CNT0, Reg.EVT_CDLOSS] [.records, .freeCtr, .spar,
     .pwr, .owed, .rng, .rings, .evt, .queue, .proxies, .act, .chs, .loss, .sns, .wire, .out] s t ∧
     t.pwr.cd = .lost ∧ t.spar.lossCause = 1 ∧ t.act.interim = true) ∧
  -- CORE_PGOOD_LOST
  (∀ (s : State), s.pwr.armed = true → cdUp s = true → ∃ t, exec .corePgoodLost s = .next t ∧
     Frame [Reg.PWR_DOM_STATUS, Reg.CHN_ATTACH, Reg.PAR_STATE, Reg.PAR_EVT_CNT, Reg.ACT_SAFE_STATUS, Reg.ACT_CNT,
     Reg.HS_STATE, Reg.HB_STATE, Reg.SV_STATE, Reg.SV_KRES, Reg.SV_CNT2, Reg.LED_STATE, Reg.FIO_CAUSE, Reg.SIN_SCHED,
     Reg.SIN_STREAMS, Reg.SW_CNT_VAL, Reg.SW_MSEC_STAT, Reg.TLY_CNT0, Reg.EVT_CDLOSS] [.records, .freeCtr, .spar,
     .pwr, .owed, .rng, .rings, .evt, .queue, .proxies, .act, .chs, .loss, .sns, .wire, .out] s t ∧
     t.pwr.cd = .lost ∧ t.spar.lossCause = 2 ∧ t.act.interim = true) ∧
  -- LD_CONTROL_LOST
  (∀ (s : State), s.pwr.ldUp = true → s.pwr.cd = .lost → ∃ t, exec .ldControlLost s = .next t ∧
     Frame [] [.chain] s t ∧ 1 ∈ t.chain.causes) ∧
  -- BYPASS_ENGAGE
  (∀ (cause : Nat) (lost : Nat) (s : State), s.pwr.ldUp = true → s.chain.causes.contains cause = true →
     s.chain.cut = false → bypassed s = false → s.rd CHN_PORT_CFG_RATE0 = s.rd CHN_PORT_CFG_RATE1 → cause ≠ 7 →
     exec (.bypassEngage cause lost) s = .next (dropChain (((s.put CHN_BYPASS_ACTIVE true).wr CHN_BYPASS_CAUSE cause).bump CHN_BYPASS_BYP_LOST lost))) ∧
  -- LIMP_TABLE_APPLY
  (∀ (s : State), s.act.interim = true → exec .limpTableApply s = .next (limpApply s)) ∧
  -- CD_RESTART
  (∀ (s : State), s.pwr.cd = .lost → s.flag EVT_CDLOSS_HALTED = false → s.flag WAK_FAIL_LOCKOUT = false →
     s.sto.failing = false → s.sto.inputLow = false → s.pwr.seq = none → s.spar.commanded = false → ∃ t,
     exec .cdRestart s = .next t ∧ t.pwr.cd = .off ∧ t.mem = [] ∧ t.par = {} ∧ (∃ q, t.pwr.seq = some q ∧
     q.kind = .restart ∧ q.attempt = 1 ∧ q.running = false))

/-- The slow clocks, the RTC and device time. XS is failed on missing edges or a ratio off by more than a tenth, and
returns after a pass; the RTC and its alarm take P0's words, and a write of the RTC takes device time's status from 0
to 1; the alarm fires at equality; a correction within 1 us slews, within STEP_THRESH slews on, and beyond it steps
device time, its EPOCH and its status; slewing ends within 500 ppm; a lost sync takes its status from 2 to 1. Each
clause names the operands and the states it holds for, concludes that exec answers a next state, and gives that state
whole, or by its frame and what it holds. -/
def Obligations.SlowClocksAndTime : Prop :=
  -- XS_NO_EDGE_TIMEOUT
  (∀ (s : State), sparRuns s = true → s.flag SPR_STATUS_XS_OK = true → ∃ t, exec .xsNoEdgeTimeout s = .next t ∧
     Frame [Reg.SPR_STATUS, Reg.SPR_DT_STATUS, Reg.SPR_RST_CAUSE, Reg.PAR_EVT_CNT, Reg.SW_CNT_VAL, Reg.SW_MSEC_STAT,
     Reg.TLY_CNT0] [.records, .spar, .owed, .rings, .evt, .queue, .proxies, .loss, .wire, .out] s t ∧
     t.flag SPR_STATUS_XS_OK = false ∧ t.flag SPR_STATUS_RTC_DEGRADED = true ∧ t.spar.xsPass = false ∧
     t.rd SPR_RST_CAUSE_CAUSE = (s.rd SPR_RST_CAUSE_CAUSE ||| 128) % 256) ∧
  -- XS_RATIO_CHECK
  (∀ (ratio : Nat) (s : State), sparRuns s = true →
     10 * (max ratio s.spar.ratio - min ratio s.spar.ratio) ≤ s.spar.ratio →
     exec (.xsRatioCheck ratio) s = .next ({ s with spar := { s.spar with xsPass := true } })) ∧
  -- XS_RATIO_CHECK
  (∀ (ratio : Nat) (s : State), sparRuns s = true →
     s.spar.ratio < 10 * (max ratio s.spar.ratio - min ratio s.spar.ratio) →
     exec (.xsRatioCheck ratio) s = .next (xsFail s 2)) ∧
  -- LPO_CALIBRATE
  (∀ (ratio : Nat) (s : State), s.spar.up = true → sparRuns s = true → s.spar.xsPass = true →
     exec (.lpoCalibrate ratio) s = .next ({ s with spar := { s.spar with ratio := ratio } })) ∧
  -- XS_RETURN
  (∀ (s : State), sparRuns s = true → s.spar.xsPass = true → ∃ t, exec .xsReturn s = .next t ∧
     Frame [Reg.SPR_STATUS] [] s t ∧ t.flag SPR_STATUS_XS_OK = true) ∧
  -- RTC_WRITE
  (∀ (hi : Bool) (v : Word) (s : State), cdUp s = true → s.pwr.ps = .run → s.pwr.entry = none →
     s.flag SPR_STATUS_XS_OK = true → s.rd SPR_RTC_RTC < 2 ^ 48 → s.pwr.woke ≠ some s.now → ∃ t,
     exec (.rtcWrite .p0 hi v) s = .next t ∧
     t.rd SPR_RTC_RTC = (if hi then s.rd SPR_RTC_RTC % 2 ^ 32 + v.toNat % 2 ^ 16 * 2 ^ 32 else s.rd SPR_RTC_RTC / 2 ^ 32 * 2 ^ 32 + v.toNat) ∧
     t.flag SPR_STATUS_RTC_DEGRADED = false ∧
     t.rd SPR_DT_STATUS_STATE = (if s.rd SPR_DT_STATUS_STATE = 0 then 1 else s.rd SPR_DT_STATUS_STATE)) ∧
  -- RTC_ALARM_WRITE
  (∀ (hi : Bool) (v : Word) (s : State), cdUp s = true →
     exec (.rtcAlarmWrite .p0 hi v) s = .next (fireIfMet s (writeWord s (if hi then 0x1C else 0x18) v.toNat))) ∧
  -- RTC_ALARM_FIRE
  (∀ (s : State), sparRuns s = true → s.rd SPR_RTC_RTC ≠ s.rd SPR_RTC_ALARM_ALARM →
     exec .rtcAlarmFire s = .next (alarmFire (s.wr SPR_RTC_RTC (s.rd SPR_RTC_ALARM_ALARM)))) ∧
  -- DT_CORRECTION
  (∀ (port : Fin 2) (offset : Int) (s : State), cdUp s = true → s.dt.on = true →
     s.flag CHN_PORT_CFG_EXT_CFG = false ∨ s.chain.cruised = false ∨ port.val = upstream s →
     offset.natAbs ≤ s.rd SPR_DT_CFG_STEP_THRESH * 1000 → offset.natAbs ≤ 1000 → ∃ t,
     exec (.dtCorrection port offset) s = .next t ∧ Frame [Reg.SPR_DT, Reg.SPR_DT_STATUS, Reg.PAR_EVT_CNT,
     Reg.SIN_SNS_CNT, Reg.SW_CNT_VAL, Reg.SW_MSEC_STAT, Reg.TLY_CNT0] [.memory, .records, .freeCtr, .dt, .owed, .rng,
     .rings, .evt, .queue, .chain, .proxies, .loss, .sns, .sw, .wire, .out] s t ∧ t.rd SPR_DT_STATUS_STATE = 2 ∧
     t.dt.slew = offset * 64000000 ∧ t.dt.slewing = false ∧ t.dt.syncAt = s.now ∧ dtNow t = dtNow s) ∧
  -- DT_CORRECTION
  (∀ (port : Fin 2) (offset : Int) (s : State), cdUp s = true → s.dt.on = true →
     s.flag CHN_PORT_CFG_EXT_CFG = false ∨ s.chain.cruised = false ∨ port.val = upstream s →
     offset.natAbs ≤ s.rd SPR_DT_CFG_STEP_THRESH * 1000 → 1000 < offset.natAbs → ∃ t,
     exec (.dtCorrection port offset) s = .next t ∧ Frame [Reg.SPR_DT, Reg.SPR_DT_STATUS, Reg.PAR_EVT_CNT,
     Reg.SIN_SNS_CNT, Reg.SW_CNT_VAL, Reg.SW_MSEC_STAT, Reg.TLY_CNT0] [.memory, .records, .freeCtr, .dt, .owed, .rng,
     .rings, .evt, .queue, .chain, .proxies, .loss, .sns, .sw, .wire, .out] s t ∧ t.dt.slew = offset * 64000000 ∧
     t.dt.slewing = true ∧ t.dt.syncAt = s.now ∧ dtNow t = dtNow s ∧
     t.rd SPR_DT_STATUS_STATE = s.rd SPR_DT_STATUS_STATE) ∧
  -- DT_CORRECTION
  (∀ (port : Fin 2) (offset : Int) (s : State), cdUp s = true → s.dt.on = true →
     s.flag CHN_PORT_CFG_EXT_CFG = false ∨ s.chain.cruised = false ∨ port.val = upstream s →
     s.rd SPR_DT_CFG_STEP_THRESH * 1000 < offset.natAbs → ∃ t, exec (.dtCorrection port offset) s = .next t ∧
     Frame [Reg.SPR_DT, Reg.SPR_DT_STATUS, Reg.PAR_EVT_CNT, Reg.SIN_SNS_CNT, Reg.SW_CNT_VAL, Reg.SW_MSEC_STAT,
     Reg.TLY_CNT0] [.memory, .records, .freeCtr, .dt, .owed, .rng, .rings, .evt, .queue, .chain, .proxies, .loss,
     .sns, .sw, .wire, .out] s t ∧ dtNow t = intBits 64 (dtNow s + offset) % 2 ^ 64 ∧
     t.rd SPR_DT_STATUS_EPOCH = (s.rd SPR_DT_STATUS_EPOCH + 1) % 256 ∧ t.rd SPR_DT_STATUS_STATE = 2 ∧
     t.dt.slewing = false ∧ t.dt.syncAt = s.now) ∧
  -- DT_SYNC_REACHED
  (∀ (s : State), cdUp s = true → s.dt.slewing = true → ∃ t, exec .dtSyncReached s = .next t ∧
     Frame [Reg.SPR_DT_STATUS] [.freeCtr, .dt] s t ∧ t.rd SPR_DT_STATUS_STATE = 2 ∧ t.dt.slewing = false ∧
     -500 ≤ t.dt.ppm ∧ t.dt.ppm ≤ 500 ∧ t.dt.slew = max (-64000000000) (min 64000000000 s.dt.slew)) ∧
  -- SYNC_LOSS
  (∀ (s : State), cdUp s = true → s.rd SPR_DT_STATUS_STATE = 2 →
     lasted s s.dt.syncAt (10000 * s.rd SPR_DT_CFG_LOSS_TIME) = true → ∃ t, exec .syncLoss s = .next t ∧
     Frame [Reg.SPR_DT_STATUS] [] s t ∧ t.rd SPR_DT_STATUS_STATE = 1)

/-- The fast clocks. A source whose PLL is not locked is refused and keeps its setting; an accepted switch of sources
shows SWITCHING until it is done; a PLL taken off stops; lock and loss of lock; failure of XF falls back to FRC on
every domain, and its return is shown. Each clause names the operands and the states it holds for, concludes that
exec answers a next state, and gives that state whole, or by its frame and what it holds. -/
def Obligations.FastClocks : Prop :=
  -- CLK_SRC_WRITE
  (∀ (v : Word) (s : State), cdUp s = true → (fieldIn CLK_SRC_SRC_APP v = 1 ∧ locked s 0 = false) → ∃ t,
     exec (.clkSrcWrite .p0 v) s = .next t ∧ Frame [Reg.CLK_SRC, Reg.CLK_STATUS, Reg.PAR_SEAL_STATUS,
     Reg.SUB_CAN_STAT, Reg.SUB_LIN_STAT] [.sub] s t ∧ t.flag CLK_STATUS_REFUSED = true ∧
     t.rd CLK_SRC_SRC_APP = s.rd CLK_SRC_SRC_APP) ∧
  -- CLK_SRC_WRITE
  (∀ (v : Word) (s : State), cdUp s = true → locked s 0 = true → locked s 1 = true →
     (writeWord s 0x10000 v.toNat).regs ≠ s.regs →
     exec (.clkSrcWrite .p0 v) s = .next (showBuses ((writeWord s 0x10000 v.toNat).put CLK_STATUS_SWITCHING true))) ∧
  -- CLK_SWITCH_DONE
  (∀ (s : State), ∃ t, exec .clkSwitchDone s = .next t ∧ Frame [Reg.CLK_STATUS] [] s t ∧
     t.flag CLK_STATUS_SWITCHING = false) ∧
  -- CLK_PLL_CFG_WRITE
  (∀ (v : Word) (s : State), cdUp s = true → exec (.clkPllCfgWrite .p0 v) s = .next ([0, 1,
     2].foldl (fun t k => if pllEn s k && !pllEn (writeWord s 0x10010 v.toNat) k then pllStop t k else t) (writeWord s 0x10010 v.toNat))) ∧
  -- PLL_LOCK
  (∀ (pll : Fin 3) (s : State), cdUp s = true → pllEn s pll.val = true → s.flag CLK_STATUS_XF_OK = true → ∃ t,
     exec (.pllLock pll) s = .next t ∧ Frame [Reg.CLK_STATUS] [] s t ∧ locked t pll.val = true) ∧
  -- PLL_LOCK_LOSS
  (∀ (pll : Fin 3) (s : State), cdUp s = true → locked s pll.val = true → ∃ t, exec (.pllLockLoss pll) s = .next t ∧
     Frame [Reg.CLK_SRC, Reg.CLK_STATUS, Reg.PAR_EVT_CNT, Reg.SW_CNT_VAL, Reg.SW_MSEC_STAT, Reg.SUB_CAN_STAT,
     Reg.SUB_LIN_STAT, Reg.TLY_CNT0] [.records, .owed, .rings, .evt, .queue, .chain, .proxies, .loss, .wire, .sub,
     .out] s t ∧ locked t pll.val = false) ∧
  -- XF_FAIL
  (∀ (s : State), cdUp s = true → s.flag CLK_STATUS_XF_OK = true → ∃ t, exec .xfFail s = .next t ∧
     Frame [Reg.CLK_SRC, Reg.CLK_STATUS, Reg.PAR_EVT_CNT, Reg.SW_CNT_VAL, Reg.SW_MSEC_STAT, Reg.SUB_CAN_STAT,
     Reg.SUB_LIN_STAT, Reg.TLY_CNT0] [.records, .owed, .rings, .evt, .queue, .chain, .proxies, .loss, .wire, .sub,
     .out] s t ∧ t.flag CLK_STATUS_XF_OK = false ∧ t.flag CLK_STATUS_FALLBACK = true ∧ locked t 0 = false ∧
     locked t 1 = false ∧ locked t 2 = false ∧ t.flag CLK_SRC_SRC_APP = false ∧ t.flag CLK_SRC_SRC_FAB = false ∧
     t.flag CLK_SRC_SRC_SAF = false) ∧
  -- XF_READY
  (∀ (s : State), xfOn s = true → ∃ t, exec .xfReady s = .next t ∧ Frame [Reg.CLK_STATUS] [] s t ∧
     t.flag CLK_STATUS_XF_OK = true)

/-- The limp inputs, the limp table and its drives. The levels of IGN and CRASH and the crash latch; RELEASE is taken
only after seal in the run phase and ends limp; a drive and a brake of a limp entry end; an image without fault is
staged, a sealed unit refuses staging with result 8 and counts it; a commit writes the other MRAM copy and its
identity, switches limp channels over while limp runs, and stops with result 9 on a pairing fault. Each clause names
the operands and the states it holds for, concludes that exec answers a next state, and gives that state whole, or by
its frame and what it holds. -/
def Obligations.LimpInputsAndTable : Prop :=
  -- IGN_CHANGE
  (∀ (mv : Nat) (heldUs : Nat) (s : State), sparRuns s = true → 1000 * s.rd SPR_LIMP_CTL_IGN_DEB ≤ heldUs →
     5500 ≤ mv → s.flag SPR_LIMP_IN_IGN = false → ∃ t, exec (.ignChange mv heldUs) s = .next t ∧
     Frame [Reg.SPR_LIMP_IN, Reg.PAR_EVT_CNT, Reg.ACT_CLAIM, Reg.ACT_CNT, Reg.HS_STATE, Reg.HB_STATE, Reg.SV_STATE,
     Reg.SV_KRES, Reg.SV_CNT2, Reg.LED_STATE, Reg.LED_CNT, Reg.FIO_CAUSE, Reg.SW_CNT_VAL, Reg.SW_MSEC_STAT,
     Reg.TLY_CNT0] [.records, .freeCtr, .owed, .rng, .rings, .evt, .queue, .proxies, .act, .chs, .loss, .wire,
     .out] s t ∧ t.flag SPR_LIMP_IN_IGN = true) ∧
  -- IGN_CHANGE
  (∀ (mv : Nat) (heldUs : Nat) (s : State), sparRuns s = true → 1000 * s.rd SPR_LIMP_CTL_IGN_DEB ≤ heldUs →
     mv ≤ 2500 → s.flag SPR_LIMP_IN_IGN = true → ∃ t, exec (.ignChange mv heldUs) s = .next t ∧
     Frame [Reg.SPR_LIMP_IN, Reg.PAR_EVT_CNT, Reg.ACT_CLAIM, Reg.ACT_CNT, Reg.HS_STATE, Reg.HB_STATE, Reg.SV_STATE,
     Reg.SV_KRES, Reg.SV_CNT2, Reg.LED_STATE, Reg.LED_CNT, Reg.FIO_CAUSE, Reg.SW_CNT_VAL, Reg.SW_MSEC_STAT,
     Reg.TLY_CNT0] [.records, .freeCtr, .owed, .rng, .rings, .evt, .queue, .proxies, .act, .chs, .loss, .wire,
     .out] s t ∧ t.flag SPR_LIMP_IN_IGN = false) ∧
  -- IGN_CHANGE
  (∀ (mv : Nat) (heldUs : Nat) (s : State), heldUs < 1000 * s.rd SPR_LIMP_CTL_IGN_DEB ∨ (2500 < mv ∧ mv < 5500) →
     exec (.ignChange mv heldUs) s = .next (s)) ∧
  -- CRASH_EDGE
  (∀ (mv : Nat) (heldUs : Nat) (s : State), sparRuns s = true → 200 ≤ heldUs → 3500 ≤ mv →
     s.flag SPR_LIMP_IN_CRASH = false → ∃ t, exec (.crashEdge mv heldUs) s = .next t ∧ Frame [Reg.SPR_LIMP_IN,
     Reg.PAR_EVT_CNT, Reg.ACT_CLAIM, Reg.ACT_CNT, Reg.HS_STATE, Reg.HB_STATE, Reg.SV_STATE, Reg.SV_KRES, Reg.SV_CNT2,
     Reg.LED_STATE, Reg.LED_CNT, Reg.FIO_CAUSE, Reg.SW_CNT_VAL, Reg.SW_MSEC_STAT, Reg.TLY_CNT0] [.records, .freeCtr,
     .owed, .rng, .rings, .evt, .queue, .proxies, .act, .chs, .loss, .wire, .out] s t ∧
     t.flag SPR_LIMP_IN_CRASH = true ∧ t.flag SPR_LIMP_IN_CRASH_LATCH = true) ∧
  -- CRASH_EDGE
  (∀ (mv : Nat) (heldUs : Nat) (s : State), sparRuns s = true → 200 ≤ heldUs → mv ≤ 1500 →
     s.flag SPR_LIMP_IN_CRASH = true → ∃ t, exec (.crashEdge mv heldUs) s = .next t ∧ Frame [Reg.SPR_LIMP_IN,
     Reg.PAR_EVT_CNT, Reg.ACT_CLAIM, Reg.ACT_CNT, Reg.HS_STATE, Reg.HB_STATE, Reg.SV_STATE, Reg.SV_KRES, Reg.SV_CNT2,
     Reg.LED_STATE, Reg.LED_CNT, Reg.FIO_CAUSE, Reg.SW_CNT_VAL, Reg.SW_MSEC_STAT, Reg.TLY_CNT0] [.records, .freeCtr,
     .owed, .rng, .rings, .evt, .queue, .proxies, .act, .chs, .loss, .wire, .out] s t ∧
     t.flag SPR_LIMP_IN_CRASH = false ∧ t.flag SPR_LIMP_IN_CRASH_LATCH = s.flag SPR_LIMP_IN_CRASH_LATCH) ∧
  -- CRASH_LATCH_CLEAR
  (∀ (v : Word) (s : State), cdUp s = true → fieldIn SPR_LIMP_IN_CRASH_LATCH v = 1 →
     s.flag SPR_LIMP_IN_CRASH_LATCH = true → ∃ t, exec (.crashLatchClear .p0 v) s = .next t ∧ Frame [Reg.SPR_LIMP_IN,
     Reg.PAR_SEAL_STATUS, Reg.PAR_EVT_CNT, Reg.ACT_CLAIM, Reg.ACT_CNT, Reg.HS_STATE, Reg.HB_STATE, Reg.SV_STATE,
     Reg.SV_KRES, Reg.SV_CNT2, Reg.LED_STATE, Reg.LED_CNT, Reg.FIO_CAUSE, Reg.SW_CNT_VAL, Reg.SW_MSEC_STAT,
     Reg.TLY_CNT0] [.records, .freeCtr, .owed, .rng, .rings, .evt, .queue, .proxies, .act, .chs, .loss, .wire,
     .out] s t ∧ t.flag SPR_LIMP_IN_CRASH_LATCH = false ∧ t.flag SPR_LIMP_IN_CRASH = s.flag SPR_LIMP_IN_CRASH) ∧
  -- LIMP_RELEASE
  (∀ (v : Word) (s : State), cdUp s = true → s.flag PAR_SEAL_STATUS_SEALED = false → ∃ t,
     exec (.limpRelease .p0 v) s = .next t ∧ Frame [Reg.SPR_LIMP_CTL, Reg.PAR_SEAL_STATUS] [] s t ∧
     t.flag SPR_LIMP_CTL_RELEASE = false ∧ t.flag SPR_STATUS_LIMP_ACTIVE = s.flag SPR_STATUS_LIMP_ACTIVE) ∧
  -- LIMP_RELEASE
  (∀ (v : Word) (s : State), cdUp s = true → s.flag PAR_SEAL_STATUS_SEALED = true → s.pwr.cd = .run →
     bit v.toNat 0 = true → ∃ t, exec (.limpRelease .p0 v) s = .next t ∧ Frame [Reg.SPR_LIMP_CTL,
     Reg.PAR_SEAL_STATUS] [] s t ∧ t.flag SPR_LIMP_CTL_RELEASE = true) ∧
  -- LIMP_RELEASED
  (∀ (s : State), cdUp s = true → s.flag SPR_LIMP_CTL_RELEASE = true → s.flag SPR_STATUS_LIMP_ACTIVE = true → ∃ t,
     exec .limpReleased s = .next t ∧ Frame [Reg.SPR_STATUS, Reg.SPR_LIMP_CTL, Reg.HS_STATE, Reg.HB_STATE,
     Reg.SV_STATE, Reg.LED_STATE, Reg.FIO_CAUSE] [.act, .chs] s t ∧ t.flag SPR_LIMP_CTL_RELEASE = false ∧
     t.flag SPR_STATUS_LIMP_ACTIVE = false ∧ t.act.parked = false) ∧
  -- LIMP_DRIVE_END
  (∀ (hb : Fin 8) (s : State), (chn s (master s ⟨2, hb.val⟩)).limpDrive = .drive →
     (chn s (master s ⟨2, hb.val⟩)).wait = none →
     1000 * (chn s (master s ⟨2, hb.val⟩)).limpMs ≤ usNow s - (chn s (master s ⟨2, hb.val⟩)).runAt → ∃ t,
     exec (.limpDriveEnd hb) s = .next t ∧ Frame [Reg.HS_STATE, Reg.HB_STATE, Reg.SV_STATE, Reg.LED_STATE,
     Reg.FIO_CAUSE] [.chs] s t ∧ (chn t (master s ⟨2, hb.val⟩)).limpDrive = .brake ∧
     (chn t (master s ⟨2, hb.val⟩)).driveEnd = some s.now) ∧
  -- LIMP_BRAKE_END
  (∀ (hb : Fin 8) (s : State), (chn s (master s ⟨2, hb.val⟩)).limpDrive = .brake →
     20000 ≤ usNow s - (chn s (master s ⟨2, hb.val⟩)).runAt → ∃ t, exec (.limpBrakeEnd hb) s = .next t ∧
     Frame [Reg.PAR_EVT_CNT, Reg.HS_STATE, Reg.HB_STATE, Reg.SV_STATE, Reg.LED_STATE, Reg.FIO_CAUSE, Reg.SW_CNT_VAL,
     Reg.SW_MSEC_STAT, Reg.TLY_CNT0] [.records, .owed, .rings, .evt, .queue, .proxies, .chs, .loss, .wire,
     .out] s t ∧ (chn t (master s ⟨2, hb.val⟩)).limpDrive = .none) ∧
  -- LIMP_STAGE
  (∀ (v : Word) (b : List Byte) (s : State), cdUp s = true → fieldIn ACT_LIMP_CTL_STAGE v ≠ 0 →
     s.flag ACT_LIMP_CTL_STAGE = false → s.flag PAR_SEAL_STATUS_SEALED = false →
     limpHeader (readImage s (s.rd ACT_LIMP_ADDR_ADDR) 16) = none → limpFault (hbPairWord s) b = none →
     b = readImage s (s.rd ACT_LIMP_ADDR_ADDR) (leAt (readImage s (s.rd ACT_LIMP_ADDR_ADDR) 16) 8 4) → ∃ t,
     exec (.limpStage .p0 v) s = .next t ∧ Frame [Reg.PAR_SEAL_STATUS, Reg.ACT_LIMP_CTL,
     Reg.ACT_LIMP_STATUS] [.act] s t ∧ t.rd ACT_LIMP_STATUS_RESULT = 1 ∧ t.rd ACT_LIMP_STATUS_OFFSET = 0 ∧
     t.act.staged = some ⟨true, leAt b 12 4, (limpOffs b).map (limpAt b), 0⟩) ∧
  -- LIMP_STAGE
  (∀ (v : Word) (s : State), cdUp s = true → fieldIn ACT_LIMP_CTL_STAGE v ≠ 0 → s.flag ACT_LIMP_CTL_STAGE = false →
     s.flag PAR_SEAL_STATUS_SEALED = true → ∃ t, exec (.limpStage .p0 v) s = .next t ∧ Frame [Reg.PAR_SEAL_STATUS,
     Reg.ACT_LIMP_CTL, Reg.ACT_LIMP_STATUS] [.act] s t ∧ t.rd ACT_LIMP_STATUS_RESULT = 8 ∧
     t.act.staged = s.act.staged ∧ t.rd PAR_SEAL_STATUS_SEAL_VIOL = satAdd 16 (s.rd PAR_SEAL_STATUS_SEAL_VIOL) 1) ∧
  -- LIMP_COMMIT
  (∀ (w : LimpCopy) (s : State), cdUp s = true → s.act.commitDue = true → s.act.staged = some w →
     limpUpper (hbPairWord s) w.entries = none → limpRuns s = false → ∃ t, exec .limpCommit s = .next t ∧
     Frame [Reg.PAR_EVT_CNT, Reg.ACT_LIMP_STATUS, Reg.ACT_LIMP_INFO, Reg.ACT_LIMP_ID, Reg.ACT_LIMP_PAIR,
     Reg.ACT_CLAIM, Reg.ACT_CNT, Reg.HS_STATE, Reg.HB_STATE, Reg.SV_STATE, Reg.SV_KRES, Reg.SV_CNT2, Reg.LED_STATE,
     Reg.LED_CNT, Reg.FIO_CAUSE, Reg.SW_CNT_VAL, Reg.SW_MSEC_STAT, Reg.TLY_CNT0] [.records, .freeCtr, .owed, .rng,
     .rings, .evt, .queue, .proxies, .act, .chs, .loss, .wire, .out] s t ∧ t.act.commitDue = false ∧
     t.act.staged = none ∧ t.rd ACT_LIMP_INFO_LIMP_SEQ = (s.rd ACT_LIMP_INFO_LIMP_SEQ + 1) % 65536 ∧
     t.rd ACT_LIMP_INFO_COPY = 1 - s.rd ACT_LIMP_INFO_COPY ∧ t.rd ACT_LIMP_ID_TABLE_ID = w.id % 2 ^ 32) ∧
  -- LIMP_COMMIT
  (∀ (w : LimpCopy) (s : State), cdUp s = true → s.act.commitDue = true → s.act.staged = some w →
     limpUpper (hbPairWord s) w.entries = none → limpRuns s = true →
     exec .limpCommit s = .next (limpSwitch s (limpWrite { s with act := { s.act with commitDue := false } } w))) ∧
  -- LIMP_COMMIT
  (∀ (w : LimpCopy) (o : Nat) (s : State), cdUp s = true → s.act.commitDue = true → s.act.staged = some w →
     limpUpper (hbPairWord s) w.entries = some o → ∃ t, exec .limpCommit s = .next t ∧ Frame [Reg.PAR_EVT_CNT,
     Reg.ACT_LIMP_STATUS, Reg.ACT_LIMP_INFO, Reg.ACT_LIMP_ID, Reg.ACT_LIMP_PAIR, Reg.ACT_CLAIM, Reg.ACT_CNT,
     Reg.HS_STATE, Reg.HB_STATE, Reg.SV_STATE, Reg.SV_KRES, Reg.SV_CNT2, Reg.LED_STATE, Reg.LED_CNT, Reg.FIO_CAUSE,
     Reg.SW_CNT_VAL, Reg.SW_MSEC_STAT, Reg.TLY_CNT0] [.records, .freeCtr, .owed, .rng, .rings, .evt, .queue,
     .proxies, .act, .chs, .loss, .wire, .out] s t ∧ t.rd ACT_LIMP_STATUS_RESULT = 9 ∧
     t.rd ACT_LIMP_STATUS_OFFSET = o % 2 ^ 24 ∧ t.act.staged = some w ∧ t.act.commitDue = false ∧
     t.rd ACT_LIMP_INFO_LIMP_SEQ = s.rd ACT_LIMP_INFO_LIMP_SEQ)

/-- Requests, checks and completion of power-state entries. WFI, IDLE and wake-up of cores; the last application core's
WFI or the idle timeout begins the entry that was asked for; PWR_NEXT takes P0's word, refuses NEXT 4 to 7 and a
write during an entry, and counts a write of the safety island twice (log entry 76); the safety partition consents;
an entry passes its checks, or ends with the ABORT code of the check that failed; a passed entry reaches SLEEP or
OFF, and the timeouts reach DEEP and OFF. Each clause names the operands and the states it holds for, concludes that
exec answers a next state, and gives that state whole, or by its frame and what it holds. -/
def Obligations.PowerStates : Prop :=
  -- CORE_WFI
  (∀ (core : Fin 6) (s : State), cdUp s = true → s.pwr.ps = .run → s.rd PWR_NEXT_NEXT = 0 → ∃ t,
     exec (.coreWfi core) s = .next t ∧ Frame [] [.pwr] s t ∧ tabGet .run t.pwr.cores core.val = .wfi ∧
     t.pwr.entry = s.pwr.entry) ∧
  -- CORE_WFI
  (∀ (core : Fin 6) (s : State), cdUp s = true → s.pwr.ps = .run → s.rd PWR_NEXT_NEXT ≠ 0 → s.pwr.entry = none →
     core.val < 4 → coresRest (setCore s core.val .held) [0, 1, 2, 3] = true → ∃ t,
     exec (.coreWfi core) s = .next t ∧ Frame [] [.pwr] s t ∧ tabGet .run t.pwr.cores core.val = .held ∧
     t.pwr.entry = some { target := s.rd PWR_NEXT_NEXT, idle := false, since := s.now }) ∧
  -- CORE_IDLE
  (∀ (core : Fin 4) (s : State), cdUp s = true → s.pwr.ps = .run → tabGet .run s.pwr.cores core.val = .wfi →
     lasted s (tabGet 0 s.pwr.wfiAt core.val) (s.rd PWR_IDLE_CFG_CORE_IDLE_T / 10) = true → ∃ t,
     exec (.coreIdle core) s = .next t ∧ Frame [] [.pwr] s t ∧ tabGet .run t.pwr.cores core.val = .idle) ∧
  -- CORE_WAKE
  (∀ (core : Fin 6) (s : State), cdUp s = true → s.pwr.ps = .run → ∃ t, exec (.coreWake core) s = .next t ∧
     Frame [] [.pwr] s t ∧ tabGet .run t.pwr.cores core.val = .run) ∧
  -- DEV_IDLE_TIMEOUT
  (∀ (s : State), cdUp s = true → s.flag PWR_CTL_AUTO = true → s.pwr.ps = .run → s.pwr.entry = none →
     s.rd PWR_NEXT_NEXT = 0 → coresRest s [0, 1, 2, 3, 4, 5] = true → s.rng.work.any keepsAwake = false → ∃ t,
     exec .devIdleTimeout s = .next t ∧ Frame [] [.pwr] s t ∧
     t.pwr.entry = some { target := idleTarget s, idle := true, since := s.now }) ∧
  -- PWR_NEXT_WRITE
  (∀ (v : Word) (s : State), cdUp s = true → fieldIn PWR_NEXT_NEXT v < 4 → s.pwr.entry = none →
     exec (.pwrNextWrite .p0 v) s = .next (writeWord s 0x20000 v.toNat)) ∧
  -- PWR_NEXT_WRITE
  (∀ (v : Word) (s : State), cdUp s = true → fieldIn PWR_NEXT_NEXT v ≥ 4 ∨ s.pwr.entry.isSome = true →
     exec (.pwrNextWrite .p0 v) s = .next (s.bump PWR_STATUS_REFUSED_CNT 1)) ∧
  -- PWR_NEXT_WRITE
  (∀ (v : Word) (s : State), cdUp s = true →
     exec (.pwrNextWrite .safety v) s = .next (violate (s.bump PWR_STATUS_REFUSED_CNT 1))) ∧
  -- PWR_SAF_ACK
  (∀ (v : Word) (s : State), cdUp s = true → fieldIn PWR_SAF_ACK_ACK v = 1 → ∃ t,
     exec (.pwrSafAck .safety v) s = .next t ∧ Frame [Reg.PWR_SAF_ACK, Reg.PAR_SEAL_STATUS] [] s t ∧
     t.flag PWR_SAF_ACK_ACK = true) ∧
  -- POWER_ENTRY
  (∀ (e : Entry) (s : State), cdUp s = true → s.pwr.entry = some e → e.passed = false → ¬ (2 ≤ e.target ∧
     alarmPast s = true) → consentMissing s = false → entryBusy s = false → timedPending s e.target = [] → ∃ t,
     exec .powerEntry s = .next t ∧ Frame [Reg.PWR_NEXT, Reg.PWR_SAF_ACK, Reg.PWR_ADAPT, Reg.PWR_STATUS,
     Reg.PWR_DOM_STATUS, Reg.WAK_REASON, Reg.WAK_SEEN, Reg.PAR_EVT_CNT, Reg.SIN_SNS_CNT, Reg.SW_CNT_VAL,
     Reg.SW_MSEC_STAT, Reg.TLY_CNT0] [.memory, .records, .spar, .pwr, .owed, .rng, .rings, .evt, .queue, .proxies,
     .loss, .sns, .wire, .out] s t ∧ t.pwr.entry = some { e with passed := true }) ∧
  -- POWER_ENTRY
  (∀ (e : Entry) (s : State), cdUp s = true → s.pwr.entry = some e → e.passed = false → ¬ (2 ≤ e.target ∧
     alarmPast s = true) → consentMissing s = false → entryBusy s = false → timedPending s e.target ≠ [] →
     s.flag PWR_NEXT_FORCE = false → ∃ t, exec .powerEntry s = .next t ∧ Frame [Reg.PWR_NEXT, Reg.PWR_SAF_ACK,
     Reg.PWR_ADAPT, Reg.PWR_STATUS, Reg.PWR_DOM_STATUS, Reg.WAK_REASON, Reg.WAK_SEEN, Reg.PAR_EVT_CNT,
     Reg.SIN_SNS_CNT, Reg.SW_CNT_VAL, Reg.SW_MSEC_STAT, Reg.TLY_CNT0] [.memory, .records, .spar, .pwr, .owed, .rng,
     .rings, .evt, .queue, .proxies, .loss, .sns, .wire, .out] s t ∧ t.pwr.entry = none ∧ t.rd PWR_STATUS_ABORT = 4) ∧
  -- ENTRY_WAIT_TIMEOUT
  (∀ (e : Entry) (s : State), cdUp s = true → s.pwr.entry = some e → e.passed = false →
     lasted s e.since (1000 * s.rd PWR_CTL_ENTRY_WAIT) = true → consentMissing s = true → ∃ t,
     exec .entryWaitTimeout s = .next t ∧ Frame [Reg.PWR_NEXT, Reg.PWR_SAF_ACK, Reg.PWR_STATUS] [.pwr] s t ∧
     t.pwr.entry = none ∧ t.rd PWR_STATUS_ABORT = 5) ∧
  -- ENTRY_WAIT_TIMEOUT
  (∀ (e : Entry) (s : State), cdUp s = true → s.pwr.entry = some e → e.passed = false →
     lasted s e.since (1000 * s.rd PWR_CTL_ENTRY_WAIT) = true → consentMissing s = false → entryBusy s = true → ∃ t,
     exec .entryWaitTimeout s = .next t ∧ Frame [Reg.PWR_NEXT, Reg.PWR_SAF_ACK, Reg.PWR_STATUS] [.pwr] s t ∧
     t.pwr.entry = none ∧ t.rd PWR_STATUS_ABORT = 3) ∧
  -- ENTRY_COMPLETE
  (∀ (e : Entry) (s : State), cdUp s = true → s.pwr.entry = some e → e.passed = true → e.target = 1 →
     s.pwr.wakeAfter = none → ∃ t, exec .entryComplete s = .next t ∧ Frame [Reg.CLK_SRC, Reg.CLK_STATUS,
     Reg.PWR_NEXT, Reg.PWR_SAF_ACK, Reg.PWR_ADAPT, Reg.PWR_STATUS, Reg.PWR_DOM_STATUS, Reg.WAK_REASON,
     Reg.CHN_BYPASS, Reg.CHN_ATTACH, Reg.PAR_STATE, Reg.PAR_EVT_CNT, Reg.ACT_CLAIM, Reg.ACT_CNT, Reg.HS_STATE,
     Reg.HB_STATE, Reg.SV_STATE, Reg.SV_KRES, Reg.SV_CNT2, Reg.LED_STATE, Reg.FIO_CAUSE, Reg.SIN_SCHED,
     Reg.SIN_SNS_CNT, Reg.SIN_STREAMS, Reg.SW_CNT_VAL, Reg.SW_STATUS, Reg.SW_BUF_STATUS, Reg.SW_MSEC_STAT,
     Reg.SUB_CAN_STAT, Reg.SUB_LIN_STAT, Reg.SUB_CNT2, Reg.INF_CTX_STAT, Reg.INF_CTX_EXEC, Reg.INF_MEM,
     Reg.STO_WB_STATUS, Reg.SEC_KEY_STATE, Reg.TLY_CNT0] [.memory, .records, .freeCtr, .spar, .dt, .pwr, .owed,
     .banks, .rng, .rings, .evt, .queue, .chain, .proxies, .act, .chs, .loss, .sns, .sw, .wire, .sub, .inf, .sto,
     .sec, .out] s t ∧ t.pwr.ps = .sleep ∧ t.pwr.entry = none ∧ t.rd PWR_NEXT_NEXT = 0 ∧ t.rd PWR_STATUS_ABORT = 0 ∧
     t.rd PWR_SAF_ACK_ACK = 0) ∧
  -- ENTRY_COMPLETE
  (∀ (e : Entry) (s : State), cdUp s = true → s.pwr.entry = some e → e.passed = true → e.target = 3 →
     s.pwr.wakeAfter = none → ∃ t, exec .entryComplete s = .next t ∧ Frame [Reg.CLK_SRC, Reg.CLK_STATUS,
     Reg.PWR_NEXT, Reg.PWR_SAF_ACK, Reg.PWR_ADAPT, Reg.PWR_STATUS, Reg.PWR_DOM_STATUS, Reg.WAK_REASON,
     Reg.CHN_BYPASS, Reg.CHN_ATTACH, Reg.PAR_STATE, Reg.PAR_EVT_CNT, Reg.ACT_CLAIM, Reg.ACT_CNT, Reg.HS_STATE,
     Reg.HB_STATE, Reg.SV_STATE, Reg.SV_KRES, Reg.SV_CNT2, Reg.LED_STATE, Reg.FIO_CAUSE, Reg.SIN_SCHED,
     Reg.SIN_SNS_CNT, Reg.SIN_STREAMS, Reg.SW_CNT_VAL, Reg.SW_STATUS, Reg.SW_BUF_STATUS, Reg.SW_MSEC_STAT,
     Reg.SUB_CAN_STAT, Reg.SUB_LIN_STAT, Reg.SUB_CNT2, Reg.INF_CTX_STAT, Reg.INF_CTX_EXEC, Reg.INF_MEM,
     Reg.STO_WB_STATUS, Reg.SEC_KEY_STATE, Reg.TLY_CNT0] [.memory, .records, .freeCtr, .spar, .dt, .pwr, .owed,
     .banks, .rng, .rings, .evt, .queue, .chain, .proxies, .act, .chs, .loss, .sns, .sw, .wire, .sub, .inf, .sto,
     .sec, .out] s t ∧ t.pwr.ps = .off ∧ t.pwr.cd = .off ∧ t.pwr.ldUp = false ∧ t.mem = []) ∧
  -- DEEP_AFTER_TIMEOUT
  (∀ (s : State), cdUp s = true → s.pwr.ps = .sleep → s.rd PWR_IDLE_CFG_DEEP_AFTER ≠ 0 → s.pwr.entry = none →
     lasted s s.pwr.entryAt (60000000 * s.rd PWR_IDLE_CFG_DEEP_AFTER) = true →
     exec .deepAfterTimeout s = .next ({ s with pwr := { s.pwr with entry := some { target := 2, idle := s.pwr.idleEntry, since := s.now } } })) ∧
  -- OFF_AFTER_TIMEOUT
  (∀ (s : State), s.pwr.ps = .deep → s.pwr.seq = none → s.rd PWR_IDLE_CFG_OFF_AFTER ≠ 0 →
     lasted s s.pwr.entryAt (14400000000 * s.rd PWR_IDLE_CFG_OFF_AFTER) = true → alarmPast s = false → ∃ t,
     exec .offAfterTimeout s = .next t ∧ t.pwr.ps = .off ∧ t.pwr.cd = .off)

/-- Wake events and what they wake. An armed source wakes SLEEP at once with its reason, starts a wake sequence from
DEEP, and only counts in LOCKED_EVENTS under lockout; a whistle starts a sequence from DEEP and is passed on to the
other port when its link is down and WHISTLE_FWD asks for it. Each clause names the operands and the states it holds
for, concludes that exec answers a next state, and gives that state whole, or by its frame and what it holds. -/
def Obligations.WakeEvents : Prop :=
  -- WAKE_EVENT
  (∀ (code : Fin 16) (index : Fin 64) (sig : WakeSig) (s : State), s.spar.powered = true → s.spar.up = true →
     sideband s = true → filter s code.val sig = some true → armed s code.val index.val = true →
     code.val = 6 ∨ code.val = 8 → s.pwr.ps = .sleep → s.pwr.entry = none → s.pwr.seq = none →
     s.flag EVT_CDLOSS_HALTED = false → s.flag WAK_FAIL_LOCKOUT = false → ∃ t,
     exec (.wakeEvent code index sig) s = .next t ∧ t.pwr.ps = .run ∧ t.rd WAK_REASON_CODE = code.val ∧
     t.rd WAK_REASON_INDEX = index.val ∧ t.rd WAK_REASON_ATTEMPT = 1 ∧ t.rd PWR_STATUS_LAST_STATE = 2 ∧
     t.spar.wdgOn = true ∧ t.pwr.armed = true) ∧
  -- WAKE_EVENT
  (∀ (code : Fin 16) (index : Fin 64) (sig : WakeSig) (s : State), s.spar.powered = true → s.spar.up = true →
     sideband s = true → filter s code.val sig = some true → armed s code.val index.val = true →
     code.val = 6 ∨ code.val = 8 → s.pwr.ps = .deep → s.pwr.entry = none → s.pwr.seq = none →
     s.flag EVT_CDLOSS_HALTED = false → s.flag WAK_FAIL_LOCKOUT = false → ∃ t,
     exec (.wakeEvent code index sig) s = .next t ∧ t.pwr.ps = .deep ∧
     t.pwr.seq = some { kind := .deep, code := code.val, index := index.val, since := s.now } ∧
     t.rd WAK_SEEN_SEEN = (s.rd WAK_SEEN_SEEN ||| 2 ^ code.val) % 2 ^ 16) ∧
  -- WAKE_EVENT
  (∀ (code : Fin 16) (index : Fin 64) (sig : WakeSig) (s : State), s.spar.powered = true → s.spar.up = true →
     sideband s = true → filter s code.val sig = some true → armed s code.val index.val = true →
     code.val = 6 ∨ code.val = 8 → s.flag WAK_FAIL_LOCKOUT = true → ∃ t,
     exec (.wakeEvent code index sig) s = .next t ∧ t.pwr = s.pwr ∧
     t.rd WAK_FAIL_LOCKED_EVENTS = satAdd 8 (s.rd WAK_FAIL_LOCKED_EVENTS) 1) ∧
  -- WAKE_EVENT
  (∀ (index : Fin 64) (sig : WakeSig) (s : State), s.spar.powered = true → s.flag PWR_PINS_WAKEN_LVL = true →
     s.pwr.pinHeld = false → filter s 2 sig = some true →
     exec (.wakeEvent 2 index sig) s = .next (acceptWake (pinAfter s 2 sig true) 2 index.val)) ∧
  -- WAKE_EVENT
  (∀ (code : Fin 16) (index : Fin 64) (sig : WakeSig) (s : State), s.spar.powered = true → s.spar.up = true →
     sideband s = true → filter s code.val sig = some true → armed s code.val index.val = true →
     code.val = 7 ∨ code.val = 9 →
     exec (.wakeEvent code index sig) s = .next (acceptWake (signalSeen s code.val index.val) code.val index.val)) ∧
  -- WHISTLE_DETECT
  (∀ (port : Fin 2) (kHz : Nat) (mV : Nat) (onUs : Nat) (offUs : Nat) (periods : Nat) (s : State), 2500 ≤ kHz →
     kHz ≤ 3750 → 200 ≤ mV → 240 ≤ onUs → onUs ≤ 360 → 80 ≤ offUs → offUs ≤ 120 → 3 ≤ periods →
     s.spar.powered = true → s.spar.up = true → sideband s = true → armed s 10 port.val = true → s.pwr.ps = .deep →
     s.pwr.entry = none → s.pwr.seq = none → s.flag EVT_CDLOSS_HALTED = false → s.flag WAK_FAIL_LOCKOUT = false →
     ∃ t, exec (.whistleDetect port kHz mV onUs offUs periods) s = .next t ∧
     t.pwr.seq = some { kind := .deep, code := 10, index := port.val, since := s.now }) ∧
  -- WHISTLE_FORWARD
  (∀ (s : State), cdUp s = true → s.rd WAK_REASON_CODE = 10 → s.flag WAK_FILT_WHISTLE_FWD = true →
     linkUp s (1 - s.rd WAK_REASON_INDEX % 2) = false → ∃ t, exec .whistleForward s = .next t ∧ Frame [] [.out] s t ∧
     t.out = s.out ++ [.whistle (1 - s.rd WAK_REASON_INDEX % 2)])

/-- The attempts of a wake sequence and the start of the control die. The start of an attempt; precharge, its lateness
and the rails' power-good; a failed attempt counts and starts the next, the third leaves SPAR_ONLY with limp active;
the control die starts with its reason, device time and position strap; secure boot with a good active bank raises
the rollback counter; the hand-over lets software run; an update's deadline. Each clause names the operands and the
states it holds for, concludes that exec answers a next state, and gives that state whole, or by its frame and what
it holds. -/
def Obligations.WakeSequence : Prop :=
  -- WAKE_ATTEMPT
  (∀ (q : WakeSeq) (s : State), s.pwr.seq = some q → q.running = false → s.sto.inputLow = false →
     afterFailure s q = true → paused s q = false → q.attempt ≠ 1 → ∃ t, exec .wakeAttempt s = .next t ∧
     t.pwr.seq = some { q with running := true, corePg := false, ioPg := false, linkPg := s.pwr.ldUp, bucks := !((q.kind == .off || q.kind == .por) && !q.holdOk), mark := s.now }) ∧
  -- WAKE_ATTEMPT
  (∀ (q : WakeSeq) (s : State), s.pwr.seq = some q → q.running = false → s.sto.inputLow = false →
     afterFailure s q = true → paused s q = false → q.attempt = 1 → q.kind = .por ∨ q.kind = .deep → ∃ t,
     exec .wakeAttempt s = .next t ∧
     t.pwr.seq = some { q with running := true, corePg := false, ioPg := false, linkPg := s.pwr.ldUp, bucks := !(q.kind == .por && !q.holdOk), mark := s.now }) ∧
  -- HOLD_PRECHARGE_TRIP
  (∀ (q : WakeSeq) (s : State), s.pwr.seq = some q → q.running = true → q.kind = .off ∨ q.kind = .por →
     lasted s q.since 5000 = true → ∃ t, exec .holdPrechargeTrip s = .next t ∧ Frame [Reg.PWR_DOM_STATUS,
     Reg.PWR_PINS] [.pwr] s t ∧ t.flag PWR_PINS_HOLD_PRE = true ∧
     t.pwr.seq = some { q with bucks := true, holdOk := true, mark := if q.bucks then q.mark else s.now }) ∧
  -- HOLD_LATE
  (∀ (hold : Nat) (q : WakeSeq) (s : State), s.pwr.seq = some q → q.running = true → q.bucks = false →
     lasted s q.since 40000 = true → ∃ t, exec (.holdLate hold) s = .next t ∧ Frame [Reg.PWR_DOM_STATUS,
     Reg.PAR_EVT_CNT, Reg.SW_CNT_VAL, Reg.SW_MSEC_STAT, Reg.TLY_CNT0] [.records, .pwr, .owed, .rings, .evt, .queue,
     .proxies, .loss, .wire, .sto, .out] s t ∧ t.sto.holdLate = true ∧
     t.pwr.seq = some { q with bucks := true, holdOk := true, mark := s.now }) ∧
  -- XF_LATE
  (∀ (ms : Nat) (s : State), xfOn s = true → s.flag CLK_STATUS_XF_OK = false → ∃ t, exec (.xfLate ms) s = .next t ∧
     Frame [Reg.PAR_EVT_CNT, Reg.SW_CNT_VAL, Reg.SW_MSEC_STAT, Reg.TLY_CNT0] [.records, .owed, .rings, .evt, .queue,
     .chain, .proxies, .loss, .wire, .out] s t ∧ 3 ∈ t.chain.causes) ∧
  -- RAIL_PGOOD
  (∀ (rail : Fin 3) (q : WakeSeq) (s : State), s.pwr.seq = some q → q.running = true → q.bucks = true → ∃ t,
     exec (.railPgood rail) s = .next t ∧ Frame [Reg.PWR_DOM_STATUS] [.pwr, .chain] s t ∧
     t.pwr.seq = some { q with corePg := q.corePg || rail.val == 0, ioPg := q.ioPg || rail.val == 1, linkPg := q.linkPg || rail.val == 2 } ∧
     (rail.val = 2 → t.pwr.ldUp = true)) ∧
  -- WAKE_ATTEMPT_FAIL
  (∀ (cause : Fin 4) (q : WakeSeq) (s : State), s.pwr.seq = some q → q.running = true → q.bucks = true →
     (cause.val = 0 → q.corePg = false) → (cause.val = 1 → q.ioPg = false) → (cause.val = 2 → q.linkPg = false) →
     (cause.val = 3 → q.corePg = true) → cause.val = 3 ∨ lasted s q.mark 2000 = true → q.attempt < 3 → ∃ t,
     exec (.wakeAttemptFail cause) s = .next t ∧ Frame [Reg.SPR_STATUS, Reg.CLK_SRC, Reg.CLK_STATUS,
     Reg.PWR_DOM_STATUS, Reg.WAK_FAIL, Reg.CHN_BYPASS, Reg.CHN_ATTACH, Reg.PAR_STATE, Reg.PAR_EVT_CNT, Reg.ACT_CLAIM,
     Reg.ACT_CNT, Reg.HS_STATE, Reg.HB_STATE, Reg.SV_STATE, Reg.SV_KRES, Reg.SV_CNT2, Reg.LED_STATE, Reg.LED_CNT,
     Reg.FIO_CAUSE, Reg.SIN_SCHED, Reg.SIN_STREAMS, Reg.SW_CNT_VAL, Reg.SW_STATUS, Reg.SW_BUF_STATUS,
     Reg.SW_MSEC_STAT, Reg.SUB_CAN_STAT, Reg.SUB_LIN_STAT, Reg.SUB_CNT2, Reg.INF_CTX_STAT, Reg.INF_CTX_EXEC,
     Reg.INF_MEM, Reg.STO_WB_STATUS, Reg.SEC_KEY_STATE, Reg.TLY_CNT0] [.records, .freeCtr, .spar, .dt, .pwr, .owed,
     .rng, .rings, .evt, .queue, .chain, .proxies, .act, .chs, .loss, .sns, .sw, .wire, .sub, .inf, .sto, .sec,
     .out] s t ∧ t.rd WAK_FAIL_TOTAL_FAILS = satAdd 8 (s.rd WAK_FAIL_TOTAL_FAILS) 1 ∧
     t.rd WAK_FAIL_LAST_CAUSE = cause.val + 1 ∧
     t.pwr.seq = some { q with attempt := q.attempt + 1, running := false, mark := s.now, bucks := false, corePg := false, ioPg := false, linkPg := false, causes := q.causes ++ [cause.val + 1] }) ∧
  -- WAKE_ATTEMPT_FAIL
  (∀ (cause : Fin 4) (q : WakeSeq) (s : State), s.pwr.seq = some q → q.running = true → q.bucks = true →
     (cause.val = 0 → q.corePg = false) → (cause.val = 1 → q.ioPg = false) → (cause.val = 2 → q.linkPg = false) →
     (cause.val = 3 → q.corePg = true) → cause.val = 3 ∨ lasted s q.mark 2000 = true → 3 ≤ q.attempt → ∃ t,
     exec (.wakeAttemptFail cause) s = .next t ∧ Frame [Reg.SPR_STATUS, Reg.CLK_SRC, Reg.CLK_STATUS,
     Reg.PWR_DOM_STATUS, Reg.WAK_FAIL, Reg.CHN_BYPASS, Reg.CHN_ATTACH, Reg.PAR_STATE, Reg.PAR_EVT_CNT, Reg.ACT_CLAIM,
     Reg.ACT_CNT, Reg.HS_STATE, Reg.HB_STATE, Reg.SV_STATE, Reg.SV_KRES, Reg.SV_CNT2, Reg.LED_STATE, Reg.LED_CNT,
     Reg.FIO_CAUSE, Reg.SIN_SCHED, Reg.SIN_STREAMS, Reg.SW_CNT_VAL, Reg.SW_STATUS, Reg.SW_BUF_STATUS,
     Reg.SW_MSEC_STAT, Reg.SUB_CAN_STAT, Reg.SUB_LIN_STAT, Reg.SUB_CNT2, Reg.INF_CTX_STAT, Reg.INF_CTX_EXEC,
     Reg.INF_MEM, Reg.STO_WB_STATUS, Reg.SEC_KEY_STATE, Reg.TLY_CNT0] [.records, .freeCtr, .spar, .dt, .pwr, .owed,
     .rng, .rings, .evt, .queue, .chain, .proxies, .act, .chs, .loss, .sns, .sw, .wire, .sub, .inf, .sto, .sec,
     .out] s t ∧ t.pwr.ps = .sparOnly ∧ t.pwr.cd = .off ∧ t.pwr.seq = none ∧
     t.rd WAK_FAIL_TOTAL_FAILS = satAdd 8 (s.rd WAK_FAIL_TOTAL_FAILS) 1 ∧ t.flag SPR_STATUS_LIMP_ACTIVE = true) ∧
  -- CD_START
  (∀ (pos : Nat) (q : WakeSeq) (s : State), s.pwr.seq = some q → q.running = true → q.bucks = true →
     q.corePg = true → q.ioPg = true → q.kind = .por → ∃ t, exec (.cdStart pos) s = .next t ∧ t.pwr.ps = .run ∧
     t.pwr.cd = .boot ∧ t.pwr.seq = none ∧ t.dt.on = true ∧ t.rd WAK_REASON_CODE = q.code % 32 ∧
     t.rd SPR_DT_DT = startDt s ∧ t.rd SPR_DT_STATUS_STATE = startDtStatus s ∧
     t.rd PWR_PINS_POS_RATIO = min pos 4095 ∧ t.spar.wdgOn = true ∧ t.pwr.wakeBy = some q.causes) ∧
  -- BANK_ZERO_DONE
  (∀ (bank : Fin 48) (s : State), cdUp s = true → s.pwr.unzeroed.head? = some bank.val → ∃ t,
     exec (.bankZeroDone bank) s = .next t ∧ Frame [] [.banks] s t ∧ t.pwr.unzeroed = s.pwr.unzeroed.drop 1) ∧
  -- SECURE_BOOT
  (∀ (media : Bool) (badWrite : Bool) (bad0 : Bool) (bad1 : Bool) (cut : Option Nat) (s : State), cdUp s = true →
     s.pwr.cd = .boot → s.pwr.bootDone = false → mounted s 14 = true → s.rd UPD_STATUS_ARMED = 0 →
     s.flag UPD_STATUS_TRIAL = false → s.rd UPD_STATUS_ACTIVE_BANK = 0 → bad1 = true → ∃ t,
     exec (.secureBoot media badWrite bad0 bad1 cut) s = .next t ∧ Frame [Reg.CHN_ATTACH, Reg.PAR_STATE,
     Reg.PAR_EVT_CNT, Reg.ACT_SAFE_STATUS, Reg.ACT_CNT, Reg.HS_STATE, Reg.HB_STATE, Reg.SV_STATE, Reg.SV_KRES,
     Reg.SV_CNT2, Reg.LED_STATE, Reg.FIO_CAUSE, Reg.SIN_SCHED, Reg.SIN_STREAMS, Reg.SW_CNT_VAL, Reg.SW_MSEC_STAT,
     Reg.UPD_STATUS, Reg.UPD_RB, Reg.UPD_BANK, Reg.UPD_BANK_SVN, Reg.UPD_LEFT, Reg.TLY_CNT0,
     Reg.EVT_CDLOSS] [.memory, .records, .freeCtr, .spar, .pwr, .owed, .rng, .rings, .evt, .queue, .proxies, .act,
     .chs, .loss, .sns, .wire, .sto, .upd, .out] s t ∧ (bankCheck s (uidBytes s) 0 bad0 = 0 ∧
     max (activeSvn s) (s.rd UPD_RB_RB_COUNTER) ≤ mSvn (bankManifest s 0) → t.pwr.bootDone = true ∧
     t.rd UPD_RB_RB_COUNTER = max (activeSvn s) (s.rd UPD_RB_RB_COUNTER) % 2 ^ 32 ∧
     t.rd UPD_STATUS_ACTIVE_BANK = 0) ∧ (bad0 = true → t.pwr.bootDone = false ∧ t.pwr.cd = .lost)) ∧
  -- P0_HANDOFF
  (∀ (s : State), s.pwr.cd = .boot → s.pwr.bootDone = true → s.pwr.wakeBy = none → ∃ t, exec .p0Handoff s = .next t ∧
     Frame [Reg.PAR_EVT_CNT, Reg.SW_CNT_VAL, Reg.SW_MSEC_STAT, Reg.TLY_CNT0] [.records, .spar, .pwr, .owed, .rings,
     .evt, .queue, .chain, .proxies, .loss, .wire, .out] s t ∧ t.pwr.cd = .run ∧ t.pwr.cores = [] ∧
     t.spar.wdgSince = s.now) ∧
  -- CONFIRM_DEADLINE
  (∀ (s : State), s.flag UPD_STATUS_TRIAL = true → trialLasted s (4 * s.upd.confirmS) = true → ∃ t,
     exec .confirmDeadline s = .next t ∧ t.upd.expired = true) ∧
  -- UPD_CONFIRM_DUE
  (∀ (s : State), cdUp s = true → s.flag UPD_STATUS_TRIAL = true → trialLasted s (3 * s.upd.confirmS) = true →
     exec .updConfirmDue s = .next (raise s 76 false [0] ([2,
     0] ++ leBytes 2 (s.upd.confirmS - s.upd.confirmS * 3 / 4))))

/-- Chain links and the cruise. A link goes up or down on its port alone, and a changed rate takes it down; DISCOVER sets
the cruise's number, upstream port and hops; ANNOUNCE, CONFIRM and foreign ASSIGN are passed on; an ASSIGN for this
unit is kept until DONE, which takes the address; ASSIGN_TIMEOUT forgets it. Each clause names the operands and the
states it holds for, concludes that exec answers a next state, and gives that state whole, or by its frame and what
it holds. -/
def Obligations.ChainCruise : Prop :=
  -- CHAIN_LINK_CHANGE
  (∀ (port : Fin 2) (up : Bool) (s : State), s.pwr.ldUp = true → ∃ t, exec (.chainLinkChange port up) s = .next t ∧
     Frame [Reg.PAR_EVT_CNT, Reg.SW_CNT_VAL, Reg.SW_STATUS, Reg.SW_MSEC_STAT, Reg.TLY_CNT0] [.records, .owed, .rings,
     .evt, .queue, .chain, .proxies, .loss, .sw, .wire, .out] s t ∧ linkUp t port.val = up ∧
     linkUp t (1 - port.val) = linkUp s (1 - port.val)) ∧
  -- CHN_PORT_CFG_WRITE
  (∀ (v : Word) (s : State), cdUp s = true →
     (writeWord s 0x40000 v.toNat).rd CHN_PORT_CFG_RATE0 ≠ s.rd CHN_PORT_CFG_RATE0 → ∃ t,
     exec (.chnPortCfgWrite .p0 v) s = .next t ∧ Frame [Reg.CHN_PORT_CFG, Reg.PAR_SEAL_STATUS, Reg.PAR_EVT_CNT,
     Reg.SW_CNT_VAL, Reg.SW_STATUS, Reg.SW_MSEC_STAT, Reg.TLY_CNT0] [.records, .owed, .rings, .evt, .queue, .chain,
     .proxies, .loss, .sw, .wire, .out] s t ∧ linkUp t 0 = false) ∧
  -- CHN_PORT_CFG_WRITE
  (∀ (v : Word) (s : State), cdUp s = true →
     (writeWord s 0x40000 v.toNat).rd CHN_PORT_CFG_RATE1 ≠ s.rd CHN_PORT_CFG_RATE1 → ∃ t,
     exec (.chnPortCfgWrite .p0 v) s = .next t ∧ Frame [Reg.CHN_PORT_CFG, Reg.PAR_SEAL_STATUS, Reg.PAR_EVT_CNT,
     Reg.SW_CNT_VAL, Reg.SW_STATUS, Reg.SW_MSEC_STAT, Reg.TLY_CNT0] [.records, .owed, .rings, .evt, .queue, .chain,
     .proxies, .loss, .sw, .wire, .out] s t ∧ linkUp t 1 = false) ∧
  -- DISCOVER
  (∀ (port : Fin 2) (frame : List Byte) (z : Zk) (s : State), Heard s frame 0 z → leAt z.body 0 1 = 1 →
     s.chain.cruised = false ∨ s.rd CHN_CRUISE_CRUISE_ID ≠ beAt z.body 2 2 → ∃ t,
     exec (.discover port frame) s = .next t ∧ Frame [Reg.CHN_CRUISE, Reg.CHN_CNT, Reg.SW_CNT_VAL,
     Reg.SW_MSEC_STAT] [.chain, .wire, .out] s t ∧ t.rd CHN_CRUISE_CRUISE_ID = beAt z.body 2 2 % 65536 ∧
     t.rd CHN_CRUISE_UPSTREAM = port.val ∧ t.rd CHN_CRUISE_HOPS = (leAt z.body 1 1 + 1) % 256 ∧
     t.flag CHN_CRUISE_RING_SEEN = false ∧ t.chain.cruised = true) ∧
  -- ANNOUNCE
  (∀ (port : Fin 2) (frame : List Byte) (z : Zk) (s : State), Heard s frame 0 z → leAt z.body 0 1 = 2 →
     exec (.announce port frame) s = .next (sendCruise s (upstream s) z.body)) ∧
  -- CONFIRM
  (∀ (port : Fin 2) (frame : List Byte) (z : Zk) (s : State), Heard s frame 0 z → leAt z.body 0 1 = 4 →
     exec (.confirm port frame) s = .next (sendCruise s (upstream s) z.body)) ∧
  -- ANNOUNCE_TIMER
  (∀ (s : State), cdUp s = true → ownAddr s = 62 → s.chain.assigned = false → bypassed s = false →
     s.chain.cruised = true → exec .announceTimer s = .next (announceOut s (upstream s) (upstream s) true)) ∧
  -- ASSIGN
  (∀ (port : Fin 2) (frame : List Byte) (z : Zk) (s : State), Heard s frame 0 z → leAt z.body 0 1 = 3 →
     slice z.body 4 16 = uidBytes s → 1 ≤ leAt z.body 23 1 → leAt z.body 23 1 ≤ 30 → ∃ t,
     exec (.assign port frame) s = .next t ∧ Frame [Reg.CHN_CNT, Reg.PAR_EVT_CNT, Reg.SW_CNT_VAL, Reg.SW_MSEC_STAT,
     Reg.TLY_CNT0] [.records, .owed, .rings, .evt, .queue, .chain, .proxies, .loss, .wire, .out] s t ∧
     t.chain.pendingAddr = some (leAt z.body 23 1) ∧ t.chain.assigned = true ∧
     t.chain.posDup = bit (leAt z.body 24 1) 3 ∧ t.rd CHN_ADDR_ADDR = s.rd CHN_ADDR_ADDR) ∧
  -- ASSIGN
  (∀ (port : Fin 2) (frame : List Byte) (z : Zk) (s : State), Heard s frame 0 z → leAt z.body 0 1 = 3 →
     slice z.body 4 16 ≠ uidBytes s → exec (.assign port frame) s = .next (sendCruise s (1 - upstream s) z.body)) ∧
  -- DONE
  (∀ (port : Fin 2) (frame : List Byte) (z : Zk) (s : State), Heard s frame 0 z → leAt z.body 0 1 = 5 →
     s.chain.cruised = true → s.rd CHN_CRUISE_CRUISE_ID = beAt z.body 2 2 → ∃ t,
     exec (.cruiseDone port frame) s = .next t ∧ Frame [Reg.CHN_ADDR, Reg.CHN_ATTACH, Reg.CHN_CNT, Reg.PAR_STATE,
     Reg.PAR_EVT_CNT, Reg.ACT_CLAIM, Reg.ACT_CNT, Reg.HS_STATE, Reg.HB_STATE, Reg.SV_STATE, Reg.SV_KRES, Reg.SV_CNT2,
     Reg.LED_STATE, Reg.FIO_CAUSE, Reg.SIN_SCHED, Reg.SIN_STREAMS, Reg.SW_CNT_VAL, Reg.SW_BUF_STATUS,
     Reg.SW_MSEC_STAT, Reg.INF_CTX_STAT, Reg.INF_CTX_EXEC, Reg.INF_MEM, Reg.STO_WB_STATUS, Reg.TLY_CNT0] [.records,
     .freeCtr, .owed, .rng, .rings, .evt, .queue, .chain, .proxies, .act, .chs, .loss, .sns, .sw, .wire, .sub, .inf,
     .sto, .sec, .out] s t ∧ t.rd CHN_ADDR_ADDR = s.chain.pendingAddr.getD (ownAddr s) % 64 ∧
     t.chain.pendingAddr = none) ∧
  -- ASSIGN_TIMEOUT
  (∀ (s : State), ∃ t, exec .assignTimeout s = .next t ∧ Frame [] [.chain] s t ∧ t.chain.pendingAddr = none)

/-- The ring proxy of REMOTE partitions. Doorbells, read answers and heartbeats from a partition's home move its indices,
fetch its descriptors and acknowledge its posts; a read is asked again three times and then detaches; ATTACH_REQ
attaches and answers; a detach or a silent home clears the partition's ATTACHED bit; unacknowledged posts are sent
again, one frame each. Each clause names the operands and the states it holds for, concludes that exec answers a next
state, and gives that state whole, or by its frame and what it holds. -/
def Obligations.RingProxy : Prop :=
  -- DOORBELL_FRAME
  (∀ (port : Fin 2) (frame : List Byte) (sec : Bool) (z : Zk) (s : State), Heard s frame 1 z →
     FromHome s port.val sec z → leAt z.body 0 1 < 7 → leAt z.body 1 1 < 4 →
     exec (.doorbellFrame port frame sec) s = .next (fetchAll (producer (heardFrom s z) z.part (leAt z.body 0 1) (leAt z.body 1 1) (beAt z.body 4 4)) z.part)) ∧
  -- DOORBELL_FRAME
  (∀ (port : Fin 2) (frame : List Byte) (sec : Bool) (z : Zk) (s : State), Heard s frame 1 z →
     FromHome s port.val sec z → leAt z.body 0 1 < 7 → leAt z.body 1 1 = 4 ∨ leAt z.body 1 1 = 5 →
     exec (.doorbellFrame port frame sec) s = .next (consumer (heardFrom s z) z.part (leAt z.body 0 1) (leAt z.body 1 1) (beAt z.body 4 4))) ∧
  -- READ_RSP
  (∀ (port : Fin 2) (frame : List Byte) (sec : Bool) (z : Zk) (r : ProxyRead) (s : State), Heard s frame 3 z →
     FromHome s port.val sec z →
     (proxyOf (heardFrom s z) z.part).reads.find? (fun q => q.id == beAt z.body 0 2) = some r → r.eng ≠ DATA →
     exec (.readRsp port frame sec) s = .next (fetchAll (setProxy (heardFrom s z) z.part { proxyOf (heardFrom s z) z.part with reads := (proxyOf (heardFrom s z) z.part).reads.filter (fun q => q.id != r.id), fetched := (proxyOf (heardFrom s z) z.part).fetched ++ readData r (leAt z.body 4 1 == 1) (z.body.drop 8) }) z.part)) ∧
  -- READ_TIMEOUT
  (∀ (part : Fin 8) (id : Nat) (r : ProxyRead) (s : State), cdUp s = true →
     (proxyOf s part.val).reads.find? (fun q => q.id == id) = some r →
     lasted s r.since (10 * s.rd CHN_REMOTE_READ_TMO) = true → r.tries < 3 →
     exec (.readTimeout part id) s = .next (sendRead (setProxy s part.val { proxyOf s part.val with reads := (proxyOf s part.val).reads.map (fun q => if q.id = id then { q with tries := q.tries + 1, since := s.now } else q) }) part.val r)) ∧
  -- READ_TIMEOUT
  (∀ (part : Fin 8) (id : Nat) (r : ProxyRead) (s : State), cdUp s = true →
     (proxyOf s part.val).reads.find? (fun q => q.id == id) = some r →
     lasted s r.since (10 * s.rd CHN_REMOTE_READ_TMO) = true → 3 ≤ r.tries → attached s part.val = true → ∃ t,
     exec (.readTimeout part id) s = .next t ∧ Frame [Reg.CHN_ATTACH, Reg.PAR_STATE, Reg.PAR_EVT_CNT, Reg.ACT_CLAIM,
     Reg.ACT_CNT, Reg.HS_STATE, Reg.HB_STATE, Reg.SV_STATE, Reg.SV_KRES, Reg.SV_CNT2, Reg.LED_STATE, Reg.FIO_CAUSE,
     Reg.SIN_SCHED, Reg.SIN_STREAMS, Reg.SW_CNT_VAL, Reg.SW_BUF_STATUS, Reg.SW_MSEC_STAT, Reg.INF_CTX_STAT,
     Reg.INF_CTX_EXEC, Reg.INF_MEM, Reg.STO_WB_STATUS, Reg.TLY_CNT0] [.records, .freeCtr, .owed, .rng, .rings, .evt,
     .queue, .proxies, .act, .chs, .loss, .sns, .sw, .wire, .sub, .inf, .sto, .sec, .out] s t ∧
     t.rd CHN_ATTACH_ATTACHED = (s.rd CHN_ATTACH_ATTACHED - 2 ^ part.val) % 256) ∧
  -- HEARTBEAT
  (∀ (port : Fin 2) (frame : List Byte) (sec : Bool) (z : Zk) (s : State), Heard s frame 6 z →
     FromHome s port.val sec z → bit (leAt z.body 3 1) 0 = false → bit (leAt z.body 3 1) 1 = false →
     exec (.heartbeat port frame sec) s = .next (acknowledge (heardFrom s z) z.part (beAt z.body 0 2))) ∧
  -- ATTACH_REQ
  (∀ (port : Fin 2) (frame : List Byte) (sec : Bool) (z : Zk) (s : State), Heard s frame 6 z →
     s.flag (SW_MSEC_CFG_MSEC_EN port.val) = false ∨ sec = true → z.dst = ownAddr s ∨ z.dst = 63 →
     bit (leAt z.body 3 1) 0 = true → z.part < 8 → homeOf s z.part = 2 →
     partState s z.part = 2 ∨ partState s z.part = 3 → z.src = homeAddr s z.part → s.chain.posDup = false →
     attached s z.part = false →
     exec (.attachReq port frame sec) s = .next (sendZilek (attach s z.part) port.val 6 0 z.src z.part 0 (heartbeatBody (attach s z.part) 1 0))) ∧
  -- DETACH_REQ
  (∀ (port : Fin 2) (frame : List Byte) (sec : Bool) (z : Zk) (s : State), Heard s frame 6 z →
     FromHome s port.val sec z → bit (leAt z.body 3 1) 0 = false → bit (leAt z.body 3 1) 1 = true → ∃ t,
     exec (.detachReq port frame sec) s = .next t ∧ Frame [Reg.CHN_ATTACH, Reg.CHN_CNT, Reg.PAR_STATE,
     Reg.PAR_EVT_CNT, Reg.ACT_CLAIM, Reg.ACT_CNT, Reg.HS_STATE, Reg.HB_STATE, Reg.SV_STATE, Reg.SV_KRES, Reg.SV_CNT2,
     Reg.LED_STATE, Reg.FIO_CAUSE, Reg.SIN_SCHED, Reg.SIN_STREAMS, Reg.SW_CNT_VAL, Reg.SW_BUF_STATUS,
     Reg.SW_MSEC_STAT, Reg.INF_CTX_STAT, Reg.INF_CTX_EXEC, Reg.INF_MEM, Reg.STO_WB_STATUS, Reg.TLY_CNT0] [.records,
     .freeCtr, .owed, .rng, .rings, .evt, .queue, .proxies, .act, .chs, .loss, .sns, .sw, .wire, .sub, .inf, .sto,
     .sec, .out] s t ∧ t.rd CHN_ATTACH_ATTACHED = (s.rd CHN_ATTACH_ATTACHED - 2 ^ z.part) % 256) ∧
  -- HEARTBEAT_SEND
  (∀ (part : Fin 8) (s : State), cdUp s = true → attached s part.val = true →
     (proxyOf (sendZilek s (upstream s) 6 0 (homeAddr s part.val) part.val 0 (heartbeatBody s 1 0)) part.val).stale = false →
     exec (.heartbeatSend part) s = .next (sendZilek s (upstream s) 6 0 (homeAddr s part.val) part.val 0 (heartbeatBody s 1 0))) ∧
  -- DETACH_TIMEOUT
  (∀ (part : Fin 8) (s : State), cdUp s = true → lasted s (proxyOf s part.val).heardAt (1000 * detachMs s) = true →
     attached s part.val = true → ∃ t, exec (.detachTimeout part) s = .next t ∧ Frame [Reg.CHN_ATTACH, Reg.PAR_STATE,
     Reg.PAR_EVT_CNT, Reg.ACT_CLAIM, Reg.ACT_CNT, Reg.HS_STATE, Reg.HB_STATE, Reg.SV_STATE, Reg.SV_KRES, Reg.SV_CNT2,
     Reg.LED_STATE, Reg.FIO_CAUSE, Reg.SIN_SCHED, Reg.SIN_STREAMS, Reg.SW_CNT_VAL, Reg.SW_BUF_STATUS,
     Reg.SW_MSEC_STAT, Reg.INF_CTX_STAT, Reg.INF_CTX_EXEC, Reg.INF_MEM, Reg.STO_WB_STATUS, Reg.TLY_CNT0] [.records,
     .freeCtr, .owed, .rng, .rings, .evt, .queue, .proxies, .act, .chs, .loss, .sns, .sw, .wire, .sub, .inf, .sto,
     .sec, .out] s t ∧ t.rd CHN_ATTACH_ATTACHED = (s.rd CHN_ATTACH_ATTACHED - 2 ^ part.val) % 256) ∧
  -- WRITE_RETRANSMIT
  (∀ (part : Fin 8) (s : State), cdUp s = true →
     lasted s (proxyOf s part.val).sentAt (100 * s.rd CHN_REMOTE_WR_RETX) = true →
     exec (.writeRetransmit part) s = .next ((proxyOf s part.val).unacked.foldl (fun u f => sendZilek u (upstream u) f.typ 0 (homeAddr u part.val) part.val f.seq f.body) (setProxy s part.val { proxyOf s part.val with sentAt := s.now })))

/-- MAINT requests over the chain. What each MAINT operation answers and does when its request is heard, with the tag
that it needs; BYPASS by MAINT, by P0's FORCE and LEAVE; a chain sleep request is answered by SLEEP_OK; SEND_WHISTLE
whistles on the ports named. Each clause names the operands and the states it holds for, concludes that exec answers
a next state, and gives that state whole, or by its frame and what it holds. -/
def Obligations.Maintenance : Prop :=
  -- IDENT
  (∀ (port : Fin 2) (frame : List Byte) (z : Zk) (u : State) (s : State), Asked s frame 1 z →
     u = asked s port.val frame z →
     exec (.ident port frame) s = .next (answer u port.val z (tagValid s z) 0 (uidBytes u ++ [byte (u.rd CHN_ADDR_POS),
     byte (ownAddr u), byte (u.rd CHN_ADDR_PIN), 0xB1, byte (u.rd SPR_STATUS_FW_VER)]))) ∧
  -- STATUS
  (∀ (port : Fin 2) (frame : List Byte) (z : Zk) (u : State) (s : State), Asked s frame 2 z →
     u = asked s port.val frame z →
     exec (.maintStatus port frame) s = .next (answer u port.val z (tagValid s z) 0 ([byte (pstateCode u),
     byte (u.rd WAK_REASON_CODE), byte (u.rd WAK_FAIL_SEQ_FAILS + 16 * u.rd WAK_FAIL_LOCKOUT),
     byte (u.rd SPR_STATUS_LIMP_ACTIVE), byte (u.rd CHN_BYPASS_CAUSE), 0, 0, 0] ++ beBytes 6 (rtc u)))) ∧
  -- TALLY_READ
  (∀ (port : Fin 2) (frame : List Byte) (z : Zk) (u : State) (s : State), Asked s frame 3 z →
     u = asked s port.val frame z → u.flag CHN_MAINT_READ_AUTH = false → beAt z.body 24 4 / 1073741824 = 2 →
     bit (beAt z.body 24 4) 29 = false →
     exec (.tallyRead port frame) s = .next (answer u port.val z (tagValid s z) 0 (tallyStatus u))) ∧
  -- TALLY_READ
  (∀ (port : Fin 2) (frame : List Byte) (z : Zk) (u : State) (s : State), Asked s frame 3 z →
     u = asked s port.val frame z → u.flag CHN_MAINT_READ_AUTH = true → tagValid s z = false →
     exec (.tallyRead port frame) s = .next (authFail u port.val z)) ∧
  -- TALLY_CLEAR
  (∀ (port : Fin 2) (frame : List Byte) (z : Zk) (u : State) (s : State), Asked s frame 4 z →
     u = asked s port.val frame z → tagValid s z = true → beAt z.body 24 4 = u.rd TLY_STATUS_FF_COUNT →
     u.rd TLY_STATUS_FF_COUNT < 2048 →
     exec (.tallyClear port frame) s = .next (answer (takeCounter (tallyClear u) z) port.val z true 0 [])) ∧
  -- MAINT_SPAR_RESET
  (∀ (port : Fin 2) (frame : List Byte) (z : Zk) (s : State), Asked s frame 5 z → tagValid s z = true → ∃ t,
     exec (.maintSparReset port frame) s = .next t ∧ Frame [Reg.SPR_DT_STATUS, Reg.SPR_RST_CAUSE, Reg.WAK_ARM,
     Reg.WAK_BUS_EN, Reg.WAK_SI_EN, Reg.CHN_MAINT, Reg.CHN_MAINT_CTR, Reg.CHN_CNT, Reg.PAR_EVT_CNT, Reg.SW_CNT_VAL,
     Reg.SW_MSEC_STAT, Reg.TLY_STATUS, Reg.TLY_CNT0, Reg.TLY_CNT1] [.records, .spar, .owed, .rings, .evt, .tly,
     .queue, .proxies, .loss, .sns, .wire, .out] s t ∧ t.spar.up = false ∧
     t.rd SPR_RST_CAUSE_CAUSE = (s.rd SPR_RST_CAUSE_CAUSE ||| 4) % 256 ∧
     t.rd CHN_MAINT_CTR_MCTR_LAST = beAt z.body 20 4 % 2 ^ 32) ∧
  -- MAINT_DEVICE_RESET
  (∀ (port : Fin 2) (frame : List Byte) (z : Zk) (s : State), Asked s frame 6 z → tagValid s z = true →
     s.flag WAK_FAIL_LOCKOUT = false → s.flag EVT_CDLOSS_HALTED = false → s.pwr.ps = .run → cdUp s = true → ∃ t,
     exec (.maintDeviceReset port frame) s = .next t ∧ t.pwr.cd = .lost ∧ t.mem = [] ∧ t.par = {} ∧ t.rng = {}) ∧
  -- BYPASS_ON
  (∀ (port : Fin 2) (frame : List Byte) (z : Zk) (s : State), Asked s frame 7 z → tagValid s z = true →
     s.flag CHN_BYPASS_BYP_MAINT = true → ∃ t, exec (.bypassOn port frame) s = .next t ∧ Frame [Reg.CHN_MAINT,
     Reg.CHN_MAINT_CTR, Reg.CHN_CNT, Reg.SW_CNT_VAL, Reg.SW_MSEC_STAT] [.chain, .wire, .out] s t ∧ 5 ∈ t.chain.causes) ∧
  -- BYPASS_OFF
  (∀ (port : Fin 2) (frame : List Byte) (z : Zk) (s : State), Asked s frame 8 z → tagValid s z = true → ∃ t,
     exec (.bypassOff port frame) s = .next t ∧ Frame [Reg.CHN_MAINT, Reg.CHN_MAINT_CTR, Reg.CHN_CNT, Reg.SW_CNT_VAL,
     Reg.SW_MSEC_STAT] [.chain, .wire, .out] s t ∧ 5 ∉ t.chain.causes ∧
     t.flag CHN_BYPASS_ACTIVE = s.flag CHN_BYPASS_ACTIVE) ∧
  -- BYPASS_FORCE
  (∀ (v : Word) (s : State), cdUp s = true → s.flag PAR_SEAL_STATUS_SEALED = false → fieldIn CHN_BYPASS_LEAVE v = 0 →
     bit v.toNat 1 = true → ∃ t, exec (.bypassForce .p0 v) s = .next t ∧ Frame [Reg.CHN_BYPASS, Reg.PAR_SEAL_STATUS,
     Reg.SW_CNT_VAL, Reg.SW_MSEC_STAT] [.chain, .wire, .out] s t ∧ 4 ∈ t.chain.causes ∧ t.flag CHN_BYPASS_FORCE = true) ∧
  -- BYPASS_LEAVE
  (∀ (v : Word) (lost : Nat) (s : State), cdUp s = true → fieldIn CHN_BYPASS_LEAVE v = 1 →
     exec (.bypassLeave .p0 v lost) s = .next (writeBypass s .p0 v lost)) ∧
  -- CHAIN_SLEEP_REQ
  (∀ (port : Fin 2) (s : State), cdUp s = true → s.pwr.ps = .run → linkUp s port.val = true →
     exec (.chainSleepReq port) s = .next (emit (raise s 43 false [0] [byte port.val]) (.sleepAck port.val (s.flag CHN_SLEEP_SLEEP_OK)))) ∧
  -- SEND_WHISTLE
  (∀ (v : Word) (s : State), cdUp s = true → ∃ t, exec (.sendWhistle .p0 v) s = .next t ∧ Frame [Reg.CHN_SLEEP,
     Reg.PAR_SEAL_STATUS] [.out] s t ∧ t.rd CHN_SLEEP_SEND_WHISTLE = 0 ∧
     t.out = s.out ++ (if bit (fieldIn CHN_SLEEP_SEND_WHISTLE v) 0 then [.whistle 0] else []) ++ (if bit (fieldIn CHN_SLEEP_SEND_WHISTLE v) 1 then [.whistle 1] else []))

/-- The layout image, the seal point and partition resets. A layout without fault comes into force and one with a fault
or after seal reports it and leaves the layout; PAR_SEAL seals when nothing is wrong and otherwise reports why and
stays unsealed; partition resets by P0, by the safety island under SAF_RESET and by the partition itself begin and
end; orphan states time out, except during limp. Each clause names the operands and the states it holds for,
concludes that exec answers a next state, and gives that state whole, or by its frame and what it holds. -/
def Obligations.LayoutAndSeal : Prop :=
  -- LAYOUT_APPLY
  (∀ (s : State), cdUp s = true → s.flag PAR_LAYOUT_CTL_APPLY = false → s.flag PAR_SEAL_STATUS_SEALED = false →
     (List.range 7).any (fun k => 2 ≤ partState s (k + 1)) = false →
     layoutFault (s.rd CHN_ZCFG_ZVID) (layoutBytes s (s.rd PAR_LAYOUT_ADDR_ADDR)) = none → ∃ t,
     exec (.layoutApply .p0) s = .next t ∧ Frame [Reg.PAR_LAYOUT_CTL, Reg.PAR_LAYOUT_STATUS, Reg.PAR_SEAL_STATUS,
     Reg.PAR_STATE] [.layout, .par, .rng, .evt] s t ∧ t.rd PAR_LAYOUT_STATUS_RESULT = 1 ∧
     t.rd PAR_LAYOUT_STATUS_OFFSET = 0 ∧ t.par.applied = true ∧
     t.par.entries = (entryOffs (layoutBytes s (s.rd PAR_LAYOUT_ADDR_ADDR))).map (entryAtOff (layoutBytes s (s.rd PAR_LAYOUT_ADDR_ADDR))) ∧
     t.par.owners = (ownOffs (layoutBytes s (s.rd PAR_LAYOUT_ADDR_ADDR))).map (ownAtOff (layoutBytes s (s.rd PAR_LAYOUT_ADDR_ADDR)))) ∧
  -- LAYOUT_APPLY
  (∀ (r o : Nat) (s : State), cdUp s = true → s.flag PAR_LAYOUT_CTL_APPLY = false →
     s.flag PAR_SEAL_STATUS_SEALED = false → (List.range 7).any (fun k => 2 ≤ partState s (k + 1)) = false →
     layoutFault (s.rd CHN_ZCFG_ZVID) (layoutBytes s (s.rd PAR_LAYOUT_ADDR_ADDR)) = some (r, o) → ∃ t,
     exec (.layoutApply .p0) s = .next t ∧ Frame [Reg.PAR_LAYOUT_CTL, Reg.PAR_LAYOUT_STATUS, Reg.PAR_SEAL_STATUS,
     Reg.PAR_STATE] [.layout, .par, .rng, .evt] s t ∧ t.rd PAR_LAYOUT_STATUS_RESULT = r % 16 ∧
     t.rd PAR_LAYOUT_STATUS_OFFSET = o % 2 ^ 24 ∧ t.par = s.par) ∧
  -- LAYOUT_APPLY
  (∀ (s : State), cdUp s = true → s.flag PAR_LAYOUT_CTL_APPLY = false → s.flag PAR_SEAL_STATUS_SEALED = true → ∃ t,
     exec (.layoutApply .p0) s = .next t ∧ Frame [Reg.PAR_LAYOUT_CTL, Reg.PAR_LAYOUT_STATUS, Reg.PAR_SEAL_STATUS,
     Reg.PAR_STATE] [.layout, .par, .rng, .evt] s t ∧ t.rd PAR_LAYOUT_STATUS_RESULT = 10 ∧ t.par = s.par) ∧
  -- PAR_SEAL
  (∀ (v : Word) (s : State), cdUp s = true → v.toNat = 0x5EA1 → s.flag PAR_SEAL_STATUS_SEALED = false →
     sealFail s = 0 → ∃ t, exec (.parSeal .p0 v) s = .next t ∧ Frame [Reg.PAR_SEAL_STATUS, Reg.PAR_EVT_CNT,
     Reg.SIN_SCHED, Reg.SIN_STREAMS, Reg.SW_CNT_VAL, Reg.SW_MSEC_STAT, Reg.BRD_STATUS, Reg.TLY_CNT0] [.records,
     .owed, .rings, .evt, .queue, .proxies, .act, .loss, .sns, .wire, .out] s t ∧
     t.flag PAR_SEAL_STATUS_SEALED = true ∧ t.rd PAR_SEAL_STATUS_SEAL_FAIL = 0 ∧ t.act.commitDue = true) ∧
  -- PAR_SEAL
  (∀ (v : Word) (s : State), cdUp s = true → v.toNat = 0x5EA1 → s.flag PAR_SEAL_STATUS_SEALED = false →
     sealFail s ≠ 0 → ∃ t, exec (.parSeal .p0 v) s = .next t ∧ Frame [Reg.PAR_SEAL_STATUS, Reg.PAR_EVT_CNT,
     Reg.SIN_SCHED, Reg.SIN_STREAMS, Reg.SW_CNT_VAL, Reg.SW_MSEC_STAT, Reg.BRD_STATUS, Reg.TLY_CNT0] [.records,
     .owed, .rings, .evt, .queue, .proxies, .act, .loss, .sns, .wire, .out] s t ∧
     t.flag PAR_SEAL_STATUS_SEALED = false ∧ t.rd PAR_SEAL_STATUS_SEAL_FAIL = sealFail s ∧ t.act = s.act) ∧
  -- PAR_RST
  (∀ (v : Word) (s : State), cdUp s = true → fieldIn PAR_RST_KEY v = 0x7E57 →
     exec (.parRst .p0 v) s = .next (beginReset s (fieldIn PAR_RST_PART v) 1)) ∧
  -- PAR_RST
  (∀ (v : Word) (s : State), cdUp s = true → s.flag PAR_RST_CFG_SAF_RESET = true → fieldIn PAR_RST_KEY v = 0x7E57 →
     exec (.parRst .safety v) s = .next (beginReset s (fieldIn PAR_RST_PART v) 2)) ∧
  -- SELF_RESET
  (∀ (w : Writer) (part : Fin 8) (v : Word) (s : State), cdUp s = true → pageOf s w part.val = true →
     v.toNat = 0x5E1F → part.val ≠ 0 → partState s part.val = 2 → ∃ t, exec (.selfReset w part v) s = .next t ∧
     Frame [Reg.CHN_ATTACH, Reg.PAR_STATE, Reg.PAR_RST_CFG, Reg.PAR_EVT_CNT, Reg.RNG_CNT, Reg.ACT_CLAIM, Reg.ACT_CNT,
     Reg.HS_STATE, Reg.HB_STATE, Reg.SV_STATE, Reg.SV_KRES, Reg.SV_CNT2, Reg.LED_STATE, Reg.FIO_CAUSE, Reg.SIN_SCHED,
     Reg.SIN_STREAMS, Reg.SW_CNT_VAL, Reg.SW_BUF_STATUS, Reg.SW_MSEC_STAT, Reg.INF_CTX_STAT, Reg.INF_CTX_EXEC,
     Reg.INF_MEM, Reg.STO_WB_STATUS, Reg.SEC_KEY_STATE, Reg.TLY_CNT0] [.memory, .records, .layout, .freeCtr, .pwr,
     .owed, .par, .rng, .rings, .evt, .queue, .proxies, .act, .chs, .loss, .sns, .sw, .wire, .sub, .brd, .inf, .sto,
     .sec, .out] s t ∧ partState t part.val = 4 ∧ tabFind t.par.resetting part.val = some ⟨3, s.now⟩) ∧
  -- PART_RESET_DONE
  (∀ (part : Fin 8) (r : Resetting) (s : State), cdUp s = true → tabFind s.par.resetting part.val = some r → ∃ t,
     exec (.partResetDone part) s = .next t ∧ Frame [Reg.PAR_STATE, Reg.PAR_EVT_CNT, Reg.SW_CNT_VAL,
     Reg.SW_MSEC_STAT, Reg.TLY_CNT0] [.memory, .records, .layout, .owed, .par, .rng, .rings, .evt, .queue, .proxies,
     .loss, .wire, .out] s t ∧ partState t part.val = 1 ∧ tabFind t.par.resetting part.val = none) ∧
  -- ORPHAN_TIMEOUT
  (∀ (c : Chan) (e : PartEntry) (s : State), (chn s (master s c)).orphan = 2 →
     (ownerOf s (master s c).kind (master s c).idx).bind (entryOf s) = some e → e.orphanT ≠ 0 →
     lasted s (chn s (master s c)).orphanAt (1000000 * e.orphanT) = true →
     exec (.orphanTimeout c) s = .next (orphanNow s (master s c) 0)) ∧
  -- ORPHAN_BRAKE_END
  (∀ (c : Chan) (m : Chan) (u : State) (s : State), m = master s c → (chn s m).braking = true →
     20000 ≤ usNow s - (chn s m).runAt → (chn s m).limpDrive ≠ .waiting →
     u = bridgeOff (setChn s m { chn s m with braking := false }) m → limpActive u = false →
     exec (.orphanBrakeEnd c) s = .next (u))

/-- Events: coalescing, tokens, software events and the class S queue. A coalescing timeout leaves nothing unsignalled; a
refill gives every partition its tokens back; a software event of a page's owner raises its source; a waiting class S
record is delivered. Each clause names the operands and the states it holds for, concludes that exec answers a next
state, and gives that state whole, or by its frame and what it holds. -/
def Obligations.EventDelivery : Prop :=
  -- EVENT_COALESCE_TIMEOUT
  (∀ (part : Fin 8) (s : State), cdUp s = true → (partEv s part.val).unsignalled ≠ 0 → ∃ t,
     exec (.eventCoalesceTimeout part) s = .next t ∧ Frame [] [.records, .owed, .evt, .out] s t ∧
     (partEv t part.val).unsignalled = 0) ∧
  -- EVENT_TOKEN_REFILL
  (∀ (s : State), cdUp s = true → (∀ p, (partEv s p).suppressed = []) → ∃ t, exec .eventTokenRefill s = .next t ∧
     Frame [Reg.PAR_EVT_CNT, Reg.SW_CNT_VAL, Reg.SW_MSEC_STAT] [.records, .owed, .rings, .evt, .proxies, .loss,
     .wire, .out] s t ∧ (∀ p, p < 8 → (partEv t p).used = 0)) ∧
  -- SW_EVENT
  (∀ (w : Writer) (part : Fin 8) (v : Word) (s : State), cdUp s = true → pageOf s w part.val = true → v.toNat < 3 →
     exec (.swEvent w part v) s = .next (raise s (104 + 3 * part.val + v.toNat) false [part.val] [])) ∧
  -- S_QUEUE_DELIVER
  (∀ (part : Fin 8) (r : EvRec) (rest : List EvRec) (s : State), cdUp s = true →
     (partEv s part.val).queue = r :: rest → canDeliver s part.val = true → ∃ t,
     exec (.sQueueDeliver part) s = .next t ∧ Frame [Reg.SW_CNT_VAL, Reg.SW_MSEC_STAT] [.records, .owed, .rings,
     .evt, .proxies, .wire, .out] s t ∧ (partEv t part.val).queue = rest)

/-- Arming, doorbells and engine resets of rings. ARM_PART, ARM_ENGINE and ENGINE_RESET report their result, and a failed
arming leaves the rings as they were; an ARM while one runs is counted and an ENGINE_RESET is kept until it has
ended; a doorbell to an open page within range moves its index, and to a closed page counts in DB_BAD; one written
before its ring is armed again in a boot is kept. Each clause names the operands and the states it holds for,
concludes that exec answers a next state, and gives that state whole, or by its frame and what it holds. -/
def Obligations.RingSetup : Prop :=
  -- ARM_PART
  (∀ (u : State) (s : State), cdUp s = true → s.rng.busy = false → u = busyNow s →
     partState u (u.rd RNG_SEL_PART) = 1 → armFault u (u.rd RNG_SEL_PART) (List.range 7) true = none →
     exec (.armPart .p0) s = .next (showRing (ringResult (armPartition u (u.rd RNG_SEL_PART)) (1, 0)))) ∧
  -- ARM_PART
  (∀ (u : State) (r : Nat × Nat) (s : State), cdUp s = true → s.rng.busy = false → u = busyNow s →
     partState u (u.rd RNG_SEL_PART) = 1 → armFault u (u.rd RNG_SEL_PART) (List.range 7) true = some r →
     exec (.armPart .p0) s = .next (ringResult u r)) ∧
  -- ARM_PART
  (∀ (s : State), cdUp s = true → s.rng.busy = true → exec (.armPart .p0) s = .next (dbBad s)) ∧
  -- ARM_ENGINE
  (∀ (u : State) (s : State), cdUp s = true → s.rng.busy = false → u = busyNow s →
     partState u (u.rd RNG_SEL_PART) ≠ 0 →
     (List.range 5).any (fun k => (ringAt u (ringKey (u.rd RNG_SEL_PART) (u.rd RNG_SEL_ENGINE) k)).armed) = false →
     armFault u (u.rd RNG_SEL_PART) [u.rd RNG_SEL_ENGINE] false = none →
     exec (.armEngine .p0) s = .next (showRing (ringResult ((ringsToArm u (u.rd RNG_SEL_PART) [u.rd RNG_SEL_ENGINE] false).foldl (armRing (u.rd RNG_SEL_PART)) u) (1,
     0)))) ∧
  -- ENGINE_RESET
  (∀ (s : State), cdUp s = true → s.rng.busy = false →
     exec (.engineReset .p0) s = .next (resetEngine s (s.rd RNG_SEL_ENGINE))) ∧
  -- ENGINE_RESET
  (∀ (s : State), cdUp s = true → s.rng.busy = true → ∃ t, exec (.engineReset .p0) s = .next t ∧
     Frame [Reg.PAR_SEAL_STATUS, Reg.PAR_EVT_CNT, Reg.RNG_BASE, Reg.RNG_CFG, Reg.RNG_SHADOW, Reg.RNG_STATUS,
     Reg.RNG_IDX, Reg.RNG_IDX2, Reg.SIN_SCHED, Reg.SIN_STREAMS, Reg.SW_CNT_VAL, Reg.SW_MSEC_STAT, Reg.INF_CTX_STAT,
     Reg.INF_CTX_EXEC, Reg.INF_CH_STAT, Reg.INF_MEM, Reg.STO_WB_STATUS, Reg.TLY_CNT0] [.memory, .records, .layout,
     .freeCtr, .owed, .rng, .rings, .evt, .queue, .proxies, .act, .chs, .loss, .sns, .sw, .wire, .sub, .inf, .sto,
     .sec, .out] s t ∧ t.rng.heldReset = some (s.rd RNG_SEL_ENGINE) ∧ t.rng.rings = s.rng.rings ∧
     t.rng.work = s.rng.work) ∧
  -- PRODUCER_DOORBELL
  (∀ (w : Writer) (part : Fin 8) (eng : Fin 7) (ring : Fin 4) (v : Word) (g : Ring) (s : State), cdUp s = true →
     pageOpen s w part.val = true → g = ringAt s (ringKey part.val eng.val ring.val) → g.armed = true →
     (g.prod + 2 ^ 32 - g.cons) % 2 ^ 32 < (v.toNat + 2 ^ 32 - g.cons) % 2 ^ 32 →
     (v.toNat + 2 ^ 32 - g.cons) % 2 ^ 32 ≤ 2 ^ g.size →
     exec (.producerDoorbell w part eng ring v) s = .next (setRing s (ringKey part.val eng.val ring.val) { g with prod := v.toNat })) ∧
  -- PRODUCER_DOORBELL
  (∀ (w : Writer) (part : Fin 8) (eng : Fin 7) (ring : Fin 4) (v : Word) (s : State), cdUp s = true →
     s.pwr.cd = .run → pageOpen s w part.val = false → ∃ t, exec (.producerDoorbell w part eng ring v) s = .next t ∧
     Frame [Reg.PAR_EVT_CNT, Reg.RNG_CNT, Reg.SW_CNT_VAL, Reg.SW_MSEC_STAT, Reg.TLY_CNT0] [.records, .owed, .rng,
     .rings, .evt, .queue, .proxies, .loss, .wire, .out] s t ∧ t.rng = s.rng ∧
     t.rd RNG_CNT_DB_BAD = satAdd 16 (s.rd RNG_CNT_DB_BAD) 1) ∧
  -- COMPLETION_DOORBELL
  (∀ (w : Writer) (part : Fin 8) (eng : Fin 7) (v : Word) (g : Ring) (s : State), cdUp s = true →
     pageOpen s w part.val = true → g = ringAt s (ringKey part.val eng.val 4) → g.armed = true →
     0 < (v.toNat + 2 ^ 32 - g.cons) % 2 ^ 32 →
     (v.toNat + 2 ^ 32 - g.cons) % 2 ^ 32 ≤ (g.prod + 2 ^ 32 - g.cons) % 2 ^ 32 →
     exec (.completionDoorbell w part eng v) s = .next (setRing s (ringKey part.val eng.val 4) { g with cons := v.toNat })) ∧
  -- EVENT_DOORBELL
  (∀ (w : Writer) (part : Fin 8) (v : Word) (g : Ring) (s : State), cdUp s = true → pageOpen s w part.val = true →
     g = ringAt s (eventKey part.val) → g.armed = true → 0 < (v.toNat + 2 ^ 32 - g.cons) % 2 ^ 32 →
     (v.toNat + 2 ^ 32 - g.cons) % 2 ^ 32 ≤ (g.prod + 2 ^ 32 - g.cons) % 2 ^ 32 →
     exec (.eventDoorbell w part v) s = .next (setRing s (eventKey part.val) { g with cons := v.toNat })) ∧
  -- PRODUCER_DOORBELL
  (∀ (w : Writer) (part : Fin 8) (eng : Fin 7) (ring : Fin 4) (v : Word) (s : State), cdUp s = true →
     s.pwr.cd = .boot → (ringAt s (ringKey part.val eng.val ring.val)).armed = false → ∃ t,
     exec (.producerDoorbell w part eng ring v) s = .next t ∧ Frame [Reg.PAR_EVT_CNT, Reg.RNG_CNT, Reg.SW_CNT_VAL,
     Reg.SW_MSEC_STAT, Reg.TLY_CNT0] [.records, .owed, .rng, .rings, .evt, .queue, .proxies, .loss, .wire,
     .out] s t ∧ t.rng.rings = s.rng.rings ∧ (part.val, eng.val, ring.val, v.toNat) ∈ t.rng.bells)

/-- Acceptance of descriptors, ring stalls, NOP and CANCEL. An acceptable descriptor joins the work of its engine with
its header's fields and the ring's consumer index advances; a stall is counted once; NOP completes with OK; CANCEL
completes the descriptors it matches and then itself with their number; a timed descriptor starts within its
tolerance and else completes with TIME_PASSED. Each clause names the operands and the states it holds for, concludes
that exec answers a next state, and gives that state whole, or by its frame and what it holds. -/
def Obligations.Descriptors : Prop :=
  -- DESCRIPTOR_ACCEPT
  (∀ (part : Fin 8) (eng : Fin 7) (ring : Fin 4) (b : List Byte) (s : State), cdUp s = true →
     engineOn s eng.val = true → (ringAt s (ringKey part.val eng.val ring.val)).armed = true →
     partState s part.val = 2 →
     (ringAt s (ringKey part.val eng.val ring.val)).prod ≠ (ringAt s (ringKey part.val eng.val ring.val)).cons →
     nextSlot s part.val eng.val ring.val (ringAt s (ringKey part.val eng.val ring.val)) = some b → b ≠ [] →
     reserved s part.val eng.val < 2 ^ (ringAt s (ringKey part.val eng.val 4)).size → bit (leAt b 1 1) 0 = false →
     acceptFault (takeSlot s part.val eng.val ring.val) eng.val b = none → ∃ t,
     exec (.descriptorAccept part eng ring) s = .next t ∧ Frame [Reg.PAR_FAULT, Reg.PAR_EVT_CNT, Reg.SW_CNT_VAL,
     Reg.SW_MSEC_STAT, Reg.TLY_CNT0] [.records, .owed, .rng, .rings, .evt, .queue, .proxies, .loss, .wire,
     .out] s t ∧
     t.rng.work = s.rng.work ++ [{ eng := eng.val, hdr := headerOf part ring b (((ringAt s (ringKey part.val eng.val ring.val)).cons + 1) % 2 ^ 32), opcode := leAt b 0 1, timed := false, notBefore := leAt b 8 8, tolUs := if bit (leAt b 1 1) 2 then leAt b 4 2 else 2000, lateAlways := bit (leAt b 1 1) 1, fence := bit (leAt b 1 1) 3, body := b, started := false }] ∧
     (ringAt t (ringKey part.val eng.val ring.val)).cons = ((ringAt s (ringKey part.val eng.val ring.val)).cons + 1) % 2 ^ 32) ∧
  -- RING_STALL
  (∀ (part : Fin 8) (eng : Fin 7) (ring : Fin 4) (s : State), cdUp s = true → s.rng.stalled.contains (part.val,
     eng.val) = false → acceptStopped s part.val eng.val ring.val = true → ∃ t,
     exec (.ringStall part eng ring) s = .next t ∧ Frame [Reg.PAR_EVT_CNT, Reg.RNG_CNT, Reg.SW_CNT_VAL,
     Reg.SW_MSEC_STAT, Reg.TLY_CNT0] [.records, .owed, .rng, .rings, .evt, .queue, .proxies, .loss, .wire,
     .out] s t ∧ (part.val, eng.val) ∈ t.rng.stalled ∧ t.rd RNG_CNT_STALLS = satAdd 16 (s.rd RNG_CNT_STALLS) 1) ∧
  -- NOP
  (∀ (h : DHdr) (eng : Fin 7) (b : List Byte) (s : State), Served s eng.val 0 h b →
     exec (.nop h eng b) s = .next (complete (begun s eng.val 0 h b) eng.val h 0 OK [])) ∧
  -- CANCEL
  (∀ (h : DHdr) (eng : Fin 7) (b : List Byte) (u : State) (l : List Work) (s : State), Served s eng.val 0xFF h b →
     bodyDirty b [16, 17, 18, 19] = false → bit (leAt b 1 1) 0 = false → u = begun s eng.val 0xFF h b →
     l = u.rng.work.filter (cancels eng.val h (BitVec.ofNat 16 (leAt b 16 2)) (BitVec.ofNat 16 (leAt b 18 2))) →
     exec (.cancel h eng b) s = .next (complete (l.foldl cancelWork u) eng.val h 0xFF OK (leBytes 2 l.length))) ∧
  -- CANCEL
  (∀ (h : DHdr) (eng : Fin 7) (b : List Byte) (s : State), Served s eng.val 0xFF h b → bodyDirty b [16, 17, 18,
     19] = true →
     exec (.cancel h eng b) s = .next (complete (begun s eng.val 0xFF h b) eng.val h 0xFF RESERVED_NONZERO [])) ∧
  -- TIMED_START
  (∀ (part : Fin 8) (eng : Fin 7) (ring : Fin 4) (media : Bool) (samples : List Byte) (back : Nat) (w : Work) (s : State),
     cdUp s = true → eligible s part.val eng.val = true → nextTimed s part.val eng.val ring.val = some w →
     w.notBefore ≤ dtNow s → dtNow s - w.notBefore ≤ 1000 * w.tolUs ∨ w.lateAlways = true → ∃ t,
     exec (.timedStart part eng ring media samples back) s = .next t ∧
     startOf w { w.hdr with late := BitVec.ofNat 32 (min ((dtNow s - w.notBefore) / 1000) (2 ^ 32 - 1)) } media samples back s = .next t) ∧
  -- TIMED_START
  (∀ (part : Fin 8) (eng : Fin 7) (ring : Fin 4) (media : Bool) (samples : List Byte) (back : Nat) (w : Work) (s : State),
     cdUp s = true → eligible s part.val eng.val = true → nextTimed s part.val eng.val ring.val = some w →
     w.notBefore ≤ dtNow s → dtNow s - w.notBefore ≤ 1000 * w.tolUs ∨ w.lateAlways = true → w.opcode = 0 →
     w.eng = eng.val →
     Served s eng.val 0 { w.hdr with late := BitVec.ofNat 32 (min ((dtNow s - w.notBefore) / 1000) (2 ^ 32 - 1)) } w.body →
     exec (.timedStart part eng ring media samples back) s = .next (complete (begun s eng.val 0 { w.hdr with late := BitVec.ofNat 32 (min ((dtNow s - w.notBefore) / 1000) (2 ^ 32 - 1)) } w.body) eng.val { w.hdr with late := BitVec.ofNat 32 (min ((dtNow s - w.notBefore) / 1000) (2 ^ 32 - 1)) } 0 OK [])) ∧
  -- TIMED_START
  (∀ (part : Fin 8) (eng : Fin 7) (ring : Fin 4) (media : Bool) (samples : List Byte) (back : Nat) (w : Work) (s : State),
     cdUp s = true → eligible s part.val eng.val = true → nextTimed s part.val eng.val ring.val = some w →
     w.notBefore ≤ dtNow s → 1000 * w.tolUs < dtNow s - w.notBefore → w.lateAlways = false →
     exec (.timedStart part eng ring media samples back) s = .next (complete s w.eng { w.hdr with late := BitVec.ofNat 32 (min ((dtNow s - w.notBefore) / 1000) (2 ^ 32 - 1)) } w.opcode TIME_PASSED (plainResult s w.eng w.opcode w.hdr w.body)))

/-- SET, PULSE, PWM and PROFILE on a channel. SET, PULSE, PWM and PROFILE without fault put their channel into the state
asked for and complete or keep their job, a fault completes with its status; the end of a pulse train and of a
profile segment. Each clause names the operands and the states it holds for, concludes that exec answers a next
state, and gives that state whole, or by its frame and what it holds. -/
def Obligations.ActLevels : Prop :=
  -- SET
  (∀ (h : DHdr) (b : List Byte) (u : State) (c : Chan) (s : State), Served s ACT 1 h b → u = begun s ACT 1 h b →
     c = master u (chanOf b) → actFault u 1 h b [16, 17, 18, 20, 21] false [1, 3, 4,
     5] (leAt b 18 1 > 1 || ((chanOf b).kind == 3 && leAt b 18 1 != 0) || levelBad (chanOf b) (leAt b 20 2)) = none →
     exec (.actSet h b) s = .next (actDone (setCh (if leAt b 20 2 = 0 then u else setChn u c { chn u c with level := some (leAt b 20 2) }) c (leAt b 18 1 == 1)) h 1 OK c 0)) ∧
  -- PULSE
  (∀ (h : DHdr) (b : List Byte) (u : State) (c : Chan) (s : State), Served s ACT 2 h b → u = begun s ACT 2 h b →
     c = master u (chanOf b) → actFault u 2 h b [16, 17, 20, 21, 22, 23, 24, 25, 26, 27, 28, 29] false [1, 4,
     5] (leAt b 20 4 < 1 || 60000000 < leAt b 20 4 || leAt b 24 4 < 1 || 60000000 < leAt b 24 4 || leAt b 28 2 < 1) = none →
     exec (.actPulse h b) s = .next (startJob u c (fun v => switchTo v c (.pulse (leAt b 20 4) (leAt b 24 4) (leAt b 28 2))) 2 h false)) ∧
  -- PWM
  (∀ (h : DHdr) (b : List Byte) (u : State) (c : Chan) (s : State), Served s ACT 3 h b → u = begun s ACT 3 h b →
     c = master u (chanOf b) → actFault u 3 h b [16, 17, 20, 21, 22, 23, 24, 25, 26, 28, 29, 30,
     31] (leAt b 26 1 ≥ 4) [1, 4,
     5] (freqBad (chanOf b) (leAt b 20 2) || 10000 < leAt b 22 2 || (bit (leAt b 26 1) 1 && 60000 < leAt b 28 4)) = none →
     exec (.actPwm h b) s = .next (actDone (setLevel (endRun (takeCh u c) c 4 OK) c (.pwm ⟨leAt b 20 2, leAt b 22 2, leAt b 24 2, bit (leAt b 26 1) 0, bit (leAt b 26 1) 1, leAt b 28 4⟩)) h 3 OK c 0)) ∧
  -- PROFILE
  (∀ (h : DHdr) (b : List Byte) (u : State) (c : Chan) (s : State), Served s ACT 4 h b → u = begun s ACT 4 h b →
     c = master u (chanOf b) → actFault u 4 h b [16, 17, 18, 19] false [1, 3,
     4] (31 < leAt b 18 1 || (if (chanOf b).kind = 3 then svProfileBad u (chanOf b) (leAt b 18 1) else hsProfileBad u (chanOf b) (leAt b 18 1))) = none →
     exec (.actProfile h b) s = .next (startJob u c (fun v => runProfile v c (leAt b 18 1) (leAt b 19 1)) 4 h (leAt b 19 1 == 255))) ∧
  -- SET
  (∀ (h : DHdr) (b : List Byte) (u : State) (st : Nat) (s : State), Served s ACT 1 h b → u = begun s ACT 1 h b →
     actFault u 1 h b [16, 17, 18, 20, 21] false [1, 3, 4,
     5] (leAt b 18 1 > 1 || ((chanOf b).kind == 3 && leAt b 18 1 != 0) || levelBad (chanOf b) (leAt b 20 2)) = some st →
     exec (.actSet h b) s = .next (actFail u 1 h b st)) ∧
  -- PULSE_TRAIN_END
  (∀ (c : Chan) (on off n : Nat) (s : State), (chn s c).drv = .pulse on off n →
     n * (on + off) - off ≤ usNow s - (chn s c).runAt →
     exec (.pulseTrainEnd c) s = .next (endJob (switchTo s c .off) c OK)) ∧
  -- PROFILE_SEGMENT_END
  (∀ (c : Chan) (p rep g : Nat) (s : State), (chn s (master s c)).drv = .profile p rep →
     nextSeg s (master s c) p (chn s (master s c)).seg = some g → ∃ t, exec (.profileSegmentEnd c) s = .next t ∧
     Frame [Reg.ACT_CNT, Reg.HS_STATE, Reg.HB_STATE, Reg.SV_STATE, Reg.LED_STATE, Reg.FIO_CAUSE, Reg.SW_CNT_VAL,
     Reg.SW_MSEC_STAT] [.records, .owed, .rng, .rings, .proxies, .chs, .wire, .out] s t ∧ (chn t (master s c)).seg = g) ∧
  -- PROFILE_SEGMENT_END
  (∀ (c : Chan) (p rep : Nat) (s : State), (chn s (master s c)).drv = .profile p rep →
     nextSeg s (master s c) p (chn s (master s c)).seg = none → ¬ ((rep = 255 ∨ (chn s (master s c)).pass < rep) ∧
     (chn s (master s c)).orphan ≠ 2 ∧ (!s.act.interim) = true) →
     exec (.profileSegmentEnd c) s = .next (endJob (switchTo s (master s c) (.hold p (chn s (master s c)).seg)) (master s c) OK))

/-- BRIDGE, SEQUENCE, RESTART and STATUS. A BRIDGE drives or stills its bridge; a SEQUENCE is kept and its steps are done
in order, the last or a held one ending it; RESTART clears the latch of channels that may restart; STATUS answers.
Each clause names the operands and the states it holds for, concludes that exec answers a next state, and gives that
state whole, or by its frame and what it holds. -/
def Obligations.ActBridgesAndSequences : Prop :=
  -- BRIDGE
  (∀ (h : DHdr) (b : List Byte) (u : State) (c : Chan) (s : State), Served s ACT 5 h b → u = begun s ACT 5 h b →
     c = master u (chanOf b) → actFault u 5 h b [16, 17, 18, 20, 21, 22, 23, 24, 25, 26, 27, 28, 29, 32, 33, 34, 35,
     36] (((bridgeBody b).mode = 3 ∨ (bridgeBody b).mode = 4) ∧
     leAt b 36 1 ≥ 8) [2] (5 < (bridgeBody b).mode || (((bridgeBody b).mode = 3 ∨ (bridgeBody b).mode = 4) && driveBad u (master u (chanOf b)) (bridgeBody b))) = none →
     (bridgeBody b).mode = 3 ∨ (bridgeBody b).mode = 4 → blocked u c = false →
     targetBehind u c (bridgeBody b) = false →
     exec (.actBridge h b) s = .next (applyDrive u c (bridgeBody b) (some ⟨h, 5⟩))) ∧
  -- BRIDGE
  (∀ (h : DHdr) (b : List Byte) (u : State) (c : Chan) (s : State), Served s ACT 5 h b → u = begun s ACT 5 h b →
     c = master u (chanOf b) → actFault u 5 h b [16, 17, 18, 20, 21, 22, 23, 24, 25, 26, 27, 28, 29, 32, 33, 34, 35,
     36] (((bridgeBody b).mode = 3 ∨ (bridgeBody b).mode = 4) ∧
     leAt b 36 1 ≥ 8) [2] (5 < (bridgeBody b).mode || (((bridgeBody b).mode = 3 ∨ (bridgeBody b).mode = 4) && driveBad u (master u (chanOf b)) (bridgeBody b))) = none →
     ¬ ((bridgeBody b).mode = 3 ∨ (bridgeBody b).mode = 4) →
     exec (.actBridge h b) s = .next (actDone (applyStill u c (bridgeBody b).mode) h 5 OK c 0)) ∧
  -- SEQUENCE
  (∀ (h : DHdr) (b : List Byte) (u : State) (s : State), Served s ACT 6 h b → u = begun s ACT 6 h b →
     seqFault u h.part.val b = none →
     exec (.actSequence h b) s = .next ({ u with act := { u.act with seqs := u.act.seqs ++ [⟨⟨h, 6⟩, stepsOf b, 0, ⟨0, 0⟩, u.now⟩] } })) ∧
  -- SEQUENCE_STEP
  (∀ (n : Nat) (q : SeqRun) (x : SeqStep) (rest : List SeqStep) (s : State), cdUp s = true →
     s.act.seqs[n]? = some q → q.steps = x :: rest → stepHeld s q x.ch = none → rest ≠ [] →
     exec (.sequenceStep n) s = .next (stepDo { s with act := { s.act with seqs := s.act.seqs.set n { q with steps := rest, done := q.done + 1, last := x.ch } } } x)) ∧
  -- SEQUENCE_STEP
  (∀ (n : Nat) (q : SeqRun) (x : SeqStep) (s : State), cdUp s = true → s.act.seqs[n]? = some q → q.steps = [x] →
     stepHeld s q x.ch = none →
     exec (.sequenceStep n) s = .next (seqDone (stepDo { s with act := { s.act with seqs := s.act.seqs.eraseIdx n } } x) { q with steps := [], done := q.done + 1, last := x.ch } OK)) ∧
  -- SEQUENCE_STEP
  (∀ (n : Nat) (q : SeqRun) (x : SeqStep) (rest : List SeqStep) (st : Nat) (s : State), cdUp s = true →
     s.act.seqs[n]? = some q → q.steps = x :: rest → stepHeld s q x.ch = some st →
     exec (.sequenceStep n) s = .next (seqDone { s with act := { s.act with seqs := s.act.seqs.eraseIdx n } } q st)) ∧
  -- RESTART
  (∀ (h : DHdr) (b : List Byte) (u : State) (c : Chan) (s : State), Served s ACT 7 h b → u = begun s ACT 7 h b →
     c = master u (chanOf b) → actFault u 7 h b [16, 17] false [1, 2, 3, 4, 5] (false) = none →
     ((moved u c).any (fun k => latched u k || thermOff u k) || (chn u c).nbHold) = true →
     ((hot u (moved u c) && (moved u c).any (thermOff u)) || ((leadClaim u c).isSome && (moved u c).any (fun k => decide (300 < (chn u k).temp)))) = false →
     exec (.actRestart h b) s = .next (actDone (restartCh (takeCh u c) (moved u c)) h 7 OK c 0)) ∧
  -- ACT_STATUS
  (∀ (h : DHdr) (b : List Byte) (u : State) (c : Chan) (s : State), Served s ACT 10 h b → u = begun s ACT 10 h b →
     c = master u (chanOf b) → actFault u 10 h b [16, 17] false [1, 2, 3, 4, 5] (false) = none →
     exec (.actStatus h b) s = .next (actDone (ownerActs u c) h 10 OK (chanOf b) 0))

/-- GRANT and CLAIM. GRANT adds or removes exactly its pair; an unowned CLAIM on a granted channel is kept, a second one
is refused and counted, and a release ends it; a safety action joins the lane, and the lane's oldest message acts.
Each clause names the operands and the states it holds for, concludes that exec answers a next state, and gives that
state whole, or by its frame and what it holds. -/
def Obligations.ClaimsAndGrants : Prop :=
  -- GRANT
  (∀ (h : DHdr) (b : List Byte) (u : State) (s : State), Served s ACT 8 h b → u = begun s ACT 8 h b →
     actFault u 8 h b [16, 17, 18, 19] (leAt b 19 1 ≥ 2) [1] (7 < leAt b 18 1) = none → bit (leAt b 19 1) 0 = false →
     ∃ t, exec (.actGrant h b) s = .next t ∧ Frame [Reg.ACT_CLAIM, Reg.ACT_CNT, Reg.HS_STATE, Reg.HB_STATE,
     Reg.SV_STATE, Reg.LED_STATE, Reg.FIO_CAUSE, Reg.SW_CNT_VAL, Reg.SW_MSEC_STAT] [.records, .owed, .rng, .rings,
     .proxies, .act, .chs, .wire, .out] s t ∧ (⟨(chanOf b).idx, leAt b 18 1⟩ : Grant) ∈ t.act.grants ∧
     t.act.claims = s.act.claims) ∧
  -- GRANT
  (∀ (h : DHdr) (b : List Byte) (u : State) (s : State), Served s ACT 8 h b → u = begun s ACT 8 h b →
     actFault u 8 h b [16, 17, 18, 19] (leAt b 19 1 ≥ 2) [1] (7 < leAt b 18 1) = none → bit (leAt b 19 1) 0 = true →
     ∃ t, exec (.actGrant h b) s = .next t ∧ Frame [Reg.ACT_CLAIM, Reg.ACT_CNT, Reg.HS_STATE, Reg.HB_STATE,
     Reg.SV_STATE, Reg.LED_STATE, Reg.FIO_CAUSE, Reg.SW_CNT_VAL, Reg.SW_MSEC_STAT] [.records, .owed, .rng, .rings,
     .proxies, .act, .chs, .wire, .out] s t ∧ (⟨(chanOf b).idx, leAt b 18 1⟩ : Grant) ∉ t.act.grants ∧
     t.act.claims = s.act.claims) ∧
  -- CLAIM
  (∀ (h : DHdr) (b : List Byte) (u : State) (s : State), Served s ACT 9 h b → u = begun s ACT 9 h b →
     bodyDirty b [16, 17, 18, 19, 20] = false → leAt b 20 1 = 0 → (chanOf b).kind = 1 → chOk (chanOf b) = true →
     chOk ⟨leAt b 18 1, leAt b 19 1⟩ = true → claimFault u h.part.val (chanOf b) ⟨leAt b 18 1, leAt b 19 1⟩ = none →
     ∃ t, exec (.actClaim h b) s = .next t ∧ Frame [Reg.ACT_CLAIM, Reg.ACT_CNT, Reg.ACT_CNT2, Reg.HS_STATE,
     Reg.HB_STATE, Reg.SV_STATE, Reg.LED_STATE, Reg.LED_CNT, Reg.FIO_CAUSE, Reg.SW_CNT_VAL,
     Reg.SW_MSEC_STAT] [.records, .owed, .rng, .rings, .proxies, .act, .chs, .wire, .out] s t ∧
     t.act.claims = s.act.claims ++ [⟨(chanOf b).idx, leAt b 19 1, h.part.val⟩] ∧ t.act.grants = s.act.grants) ∧
  -- CLAIM
  (∀ (h : DHdr) (b : List Byte) (u : State) (st : Nat) (s : State), Served s ACT 9 h b → u = begun s ACT 9 h b →
     bodyDirty b [16, 17, 18, 19, 20] = false → leAt b 20 1 = 0 → (chanOf b).kind = 1 → chOk (chanOf b) = true →
     chOk ⟨leAt b 18 1, leAt b 19 1⟩ = true →
     claimFault u h.part.val (chanOf b) ⟨leAt b 18 1, leAt b 19 1⟩ = some st → ∃ t,
     exec (.actClaim h b) s = .next t ∧ Frame [Reg.ACT_CLAIM, Reg.ACT_CNT, Reg.ACT_CNT2, Reg.HS_STATE, Reg.HB_STATE,
     Reg.SV_STATE, Reg.LED_STATE, Reg.LED_CNT, Reg.FIO_CAUSE, Reg.SW_CNT_VAL, Reg.SW_MSEC_STAT] [.records, .owed,
     .rng, .rings, .proxies, .act, .chs, .wire, .out] s t ∧ t.act = s.act ∧ t.chs = s.chs ∧
     t.rd ACT_CNT2_CLAIM_REFUSED = satAdd 16 (s.rd ACT_CNT2_CLAIM_REFUSED) 1) ∧
  -- CLAIM
  (∀ (h : DHdr) (b : List Byte) (u : State) (k : Claim) (s : State), Served s ACT 9 h b → u = begun s ACT 9 h b →
     bodyDirty b [16, 17, 18, 19, 20] = false → leAt b 20 1 = 1 → (chanOf b).kind = 1 → chOk (chanOf b) = true →
     chOk ⟨leAt b 18 1, leAt b 19 1⟩ = true → ownerOf u 1 (chanOf b).idx = some h.part.val →
     u.act.claims.find? (fun x => x.lead == (chanOf b).idx && (leAt b 18 1 == 1) && x.fol == leAt b 19 1 && x.claimant == h.part.val) = some k →
     isFollow u (chanOf b) = false → heldFault u (chanOf b) = none →
     exec (.actClaim h b) s = .next (actDone (endClaim u k) h 9 OK (chanOf b) 0)) ∧
  -- SAFE_ACTION
  (∀ (h : DHdr) (b : List Byte) (u : State) (s : State), Served s ACT 32 h b → u = begun s ACT 32 h b →
     safeFault u h.part.val b = none → ∃ t, exec (.safeAction h b) s = .next t ∧ Frame [Reg.ACT_CNT, Reg.SW_CNT_VAL,
     Reg.SW_MSEC_STAT] [.records, .owed, .rng, .rings, .proxies, .act, .wire, .out] s t ∧
     t.act.lane = s.act.lane ++ [{ ch := chanOf b, op := leAt b 18 1, src := 2, hdr := some h }] ∧ t.chs = s.chs) ∧
  -- SAFETY_LANE_MSG
  (∀ (m : LaneMsg) (rest : List LaneMsg) (s : State), cdUp s = true → s.act.lane = m :: rest → m.hdr = none →
     exec .safetyLaneMsg s = .next (laneAct ({ s with act := { s.act with lane := rest } }.bump ACT_SAFE_STATUS_SL_COUNT 1) m)) ∧
  -- SAFETY_LANE_MSG
  (∀ (m : LaneMsg) (rest : List LaneMsg) (h : DHdr) (s : State), cdUp s = true → s.act.lane = m :: rest →
     m.hdr = some h →
     exec .safetyLaneMsg s = .next (actDone (laneAct ({ s with act := { s.act with lane := rest } }.bump ACT_SAFE_STATUS_SL_COUNT 1) m) h 0x20 OK m.ch 0))

/-- Over-current, temperature, retries and open load. A current surely above the threshold latches its channel off, and
one surely below it does nothing (between the two the comparator's answer is free, log entry 1); the inrush window
ends; a retry that is due restarts its channel; a temperature sample trips, warns or restores; open-load changes are
shown, counted and raised; unequal sharing of parallel solenoids is raised. Each clause names the operands and the
states it holds for, concludes that exec answers a next state, and gives that state whole, or by its frame and what
it holds. -/
def Obligations.ProtectionTrips : Prop :=
  -- HS_OVERCURRENT
  (∀ (c : Chan) (ma : Nat) (s : State), c.kind = 1 ∨ c.kind = 5 → canTrip s c = true →
     110 * latchUa s c ≤ 100000 * ma → exec (.hsOvercurrent c ma) s = .next (latchOff s c [])) ∧
  -- HS_OVERCURRENT
  (∀ (c : Chan) (ma : Nat) (s : State), c.kind = 1 ∨ c.kind = 5 → 100000 * ma < 90 * latchUa s c →
     exec (.hsOvercurrent c ma) s = .next (s)) ∧
  -- HB_OVERCURRENT
  (∀ (hb : Fin 8) (low : Bool) (ma : Nat) (s : State), canTrip s ⟨2, hb.val⟩ = true →
     110 * latchUa s ⟨2, hb.val⟩ ≤ 100000 * ma →
     exec (.hbOvercurrent hb low ma) s = .next (latchOff s ⟨2, hb.val⟩ [byte (if low then 1 else 0)])) ∧
  -- SV_OVERCURRENT
  (∀ (sv : Fin 8) (ma : Nat) (s : State), canTrip s ⟨3, sv.val⟩ = true → 110 * latchUa s ⟨3, sv.val⟩ ≤ 100000 * ma →
     exec (.svOvercurrent sv ma) s = .next (latchOff s ⟨3, sv.val⟩ [])) ∧
  -- INRUSH_END
  (∀ (c : Chan) (s : State), c.kind = 1 → exec (.inrushEnd c) s = .next (s.put (HS_STATE_INRUSH c.idx) false)) ∧
  -- RETRY_RESTART
  (∀ (c : Chan) (k : Nat) (s : State), (chn s c).retry = some k → latched s c = true →
     lasted s (chn s c).retryAt (1000 * retryMs s c k) = true → s.flag SCL_STATUS_STORM = false →
     s.flag SCL_RUN_RETRY_HOLD = false → (s.pwr.ps == .deep) = false →
     (hot s (moved s c) && (moved s c).any (thermOff s)) = false → c.kind = 1 →
     exec (.retryRestart c) s = .next (supplyLost ((restartCh (setRetries s c k) (moved s c)).bump HS_CNT2_RETRIES_ALL 1) c)) ∧
  -- RETRY_COUNT_RESET
  (∀ (c : Chan) (s : State), c.kind = 1 → drvOn (chn s c).drv = true → latched s c = false →
     exec (.retryCountReset c) s = .next (s.wr (HS_STATE_RETRIES c.idx) 0)) ∧
  -- TEMP_SAMPLE
  (∀ (c : Chan) (v : Int) (s : State), chOk c = true →
     thermOff (showTemp s c v) (master (showTemp s c v) c) = false → 350 ≤ v →
     exec (.tempSample c v) s = .next (thermalTrip (showTemp s c v) c)) ∧
  -- TEMP_SAMPLE
  (∀ (c : Chan) (v : Int) (s : State), chOk c = true →
     thermOff (showTemp s c v) (master (showTemp s c v) c) = false → v < 350 →
     exec (.tempSample c v) s = .next (warnTemp (showTemp s c v) c v)) ∧
  -- TEMP_SAMPLE
  (∀ (c : Chan) (v : Int) (s : State), chOk c = true → thermOff (showTemp s c v) (master (showTemp s c v) c) = true →
     v < 350 → thermAuto (showTemp s c v) c = true →
     hot (showTemp s c v) (moved (showTemp s c v) (master (showTemp s c v) c)) = false →
     ((showTemp s c v).pwr.ps == .deep) = false → (chn (showTemp s c v) (master (showTemp s c v) c)).retry = none →
     folClaim (showTemp s c v) c = none →
     exec (.tempSample c v) s = .next (supplyLost (restartCh (showTemp s c v) (moved (showTemp s c v) (master (showTemp s c v) c))) (master (showTemp s c v) c))) ∧
  -- OPEN_LOAD_CHANGE
  (∀ (c : Chan) (lo : Nat) (hi : Nat) (n : Nat) (vlo : Nat) (vhi : Nat) (isOpen : Bool) (s : State), c.kind = 1 →
     drvOn (chn s c).drv = true → chOk c = true → s.pwr.ps = .run → sampled s c = true →
     isOpen = openSamples (openMa s c) lo hi n (s.flag (openF c)) → s.flag (HS_CFG_DIAG_EN c.idx) = true →
     folClaim s c = none → s.flag (openF c) ≠ isOpen →
     exec (.openLoadChange c lo hi n vlo vhi) s = .next ((raise (s.put (openF c) isOpen) 18 false [ownerOr0 s 1 c.idx] (chPayload s c 1 (if isOpen then 1 else 0))).bump HS_CNT2_OL_EVENTS 1)) ∧
  -- HB_OPEN_CHANGE
  (∀ (hb : Fin 8) (lo : Nat) (hi : Nat) (s : State), driving s (master s ⟨2, hb.val⟩) = true →
     rampOver s (master s ⟨2, hb.val⟩) (2000 * s.rd (HB_DIAG_OL_DEB (master s ⟨2, hb.val⟩).idx)) = true →
     exec (.hbOpenChange hb lo hi) s = .next (openChange s (master s ⟨2, hb.val⟩) (openSamples (10 * s.rd (HB_DIAG_OL_THR (master s ⟨2, hb.val⟩).idx)) lo hi 1 (s.flag (openF (master s ⟨2, hb.val⟩)))) 21 1)) ∧
  -- SV_OPEN_CHANGE
  (∀ (sv : Fin 8) (lo : Nat) (hi : Nat) (p g : Nat) (s : State), (chn s (master s ⟨3, sv.val⟩)).drv = .hold p g →
     2 * (5 * s.rd (SV_DIAG_OL_THR (master s ⟨3, sv.val⟩).idx)) ≤ svTarget s (master s ⟨3, sv.val⟩) →
     exec (.svOpenChange sv lo hi) s = .next (openChange s (master s ⟨3, sv.val⟩) (openSamples (5 * s.rd (SV_DIAG_OL_THR (master s ⟨3, sv.val⟩).idx)) lo hi 1 (s.flag (openF (master s ⟨3, sv.val⟩)))) 26 1)) ∧
  -- SV_SHARE
  (∀ (sv : Fin 8) (a : Nat) (b : Nat) (s : State), (members s (master s ⟨3, sv.val⟩)).length = 2 → 1000 ≤ a + b →
     625 * (a + b) < 1000 * max a b → (chn s (master s ⟨3, sv.val⟩)).shareOn = false →
     exec (.svShare sv a b) s = .next (raise (setChn s (master s ⟨3, sv.val⟩) { chn s (master s ⟨3, sv.val⟩) with shareOn := true }) 26 false [ownerOr0 s 3 (master s ⟨3, sv.val⟩).idx] (chPayload s (master s ⟨3, sv.val⟩) 2 1 ++ [byte (100 * max a b / (a + b))]))) ∧
  -- SV_SHARE
  (∀ (sv : Fin 8) (a : Nat) (b : Nat) (s : State), (members s (master s ⟨3, sv.val⟩)).length = 2 → a + b < 1000 →
     exec (.svShare sv a b) s = .next (setChn s (master s ⟨3, sv.val⟩) { chn s (master s ⟨3, sv.val⟩) with shareOn := false }))

/-- Drives, ripples, stall and the reversal profile. A drive's time ends; a waiting direction change starts or ends;
ripples are rejected out of range, counted in it, filled when missing and at the eighth fill lose the position; a
stall is raised; the brake, the drive and the final brake of a reversal follow each other. Each clause names the
operands and the states it holds for, concludes that exec answers a next state, and gives that state whole, or by its
frame and what it holds. -/
def Obligations.BridgeMotion : Prop :=
  -- RUN_MS_EXPIRY
  (∀ (hb : Fin 8) (d : BridgeBody) (s : State), (chn s (master s ⟨2, hb.val⟩)).drv = .bridge d → isDrive d = true →
     d.runMs ≠ 0 → 1000 * d.runMs ≤ usNow s - (chn s (master s ⟨2, hb.val⟩)).runAt →
     ((chn s (master s ⟨2, hb.val⟩)).limpDrive == .none) = true →
     ((chn s (master s ⟨2, hb.val⟩)).safe == .none) = true →
     exec (.runMsExpiry hb) s = .next (driveStop s (master s ⟨2, hb.val⟩) 1)) ∧
  -- DIR_GAP_END
  (∀ (hb : Fin 8) (d : BridgeBody) (j : Option Job) (at_ : Nat) (s : State),
     (chn s (master s ⟨2, hb.val⟩)).wait = some (d, j) → (chn s (master s ⟨2, hb.val⟩)).driveEnd = some at_ →
     lasted s at_ (1000 * s.rd (HB_CFG_DIR_GAP (master s ⟨2, hb.val⟩).idx)) = true →
     blocked s (master s ⟨2, hb.val⟩) = false →
     exec (.dirGapEnd hb) s = .next (startDrive s (master s ⟨2, hb.val⟩) d j)) ∧
  -- DIR_GAP_END
  (∀ (hb : Fin 8) (d : BridgeBody) (j : Option Job) (at_ : Nat) (s : State),
     (chn s (master s ⟨2, hb.val⟩)).wait = some (d, j) → (chn s (master s ⟨2, hb.val⟩)).driveEnd = some at_ →
     lasted s at_ (1000 * s.rd (HB_CFG_DIR_GAP (master s ⟨2, hb.val⟩).idx)) = true →
     blocked s (master s ⟨2, hb.val⟩) = true → exec (.dirGapEnd hb) s = .next (endWait s (master s ⟨2, hb.val⟩) OK)) ∧
  -- RIPPLE_ACCEPT
  (∀ (hb : Fin 8) (period : Nat) (amp : Nat) (d : BridgeBody) (s : State),
     (chn s (master s ⟨2, hb.val⟩)).drv = .bridge d → counting s (master s ⟨2, hb.val⟩) = true →
     isRipple s (master s ⟨2, hb.val⟩) period amp = true → (chn s (master s ⟨2, hb.val⟩)).ripSeen = true →
     (chn s (master s ⟨2, hb.val⟩)).period ≠ 0 →
     2 * period < (chn s (master s ⟨2, hb.val⟩)).period ∨ 2 * (chn s (master s ⟨2, hb.val⟩)).period < period → ∃ t,
     exec (.rippleAccept hb period amp) s = .next t ∧ Frame [Reg.ACT_CNT, Reg.HS_STATE, Reg.HB_POS, Reg.HB_RIPF,
     Reg.HB_STATE, Reg.HB_CNT3, Reg.SV_STATE, Reg.LED_STATE, Reg.FIO_CAUSE, Reg.SW_CNT_VAL,
     Reg.SW_MSEC_STAT] [.records, .owed, .rng, .rings, .proxies, .chs, .wire, .out] s t ∧ t.chs = s.chs ∧
     t.rd HB_CNT3_RIP_REJECTED = satAdd 16 (s.rd HB_CNT3_RIP_REJECTED) 1) ∧
  -- RIPPLE_ACCEPT
  (∀ (hb : Fin 8) (period : Nat) (amp : Nat) (d : BridgeBody) (s : State),
     (chn s (master s ⟨2, hb.val⟩)).drv = .bridge d → counting s (master s ⟨2, hb.val⟩) = true →
     isRipple s (master s ⟨2, hb.val⟩) period amp = true → (chn s (master s ⟨2, hb.val⟩)).ripSeen = true →
     ¬ ((chn s (master s ⟨2, hb.val⟩)).period ≠ 0 ∧
     (2 * period < (chn s (master s ⟨2, hb.val⟩)).period ∨ 2 * (chn s (master s ⟨2, hb.val⟩)).period < period)) →
     exec (.rippleAccept hb period amp) s = .next (countRipple (setChn ((s.wr (HB_RIPF_RIPFREQ (master s ⟨2, hb.val⟩).idx) (if period = 0 then 0 else min 65535 (1000000 / period))).put (HB_STATE_STALL (master s ⟨2, hb.val⟩).idx) false) (master s ⟨2, hb.val⟩) { chn s (master s ⟨2, hb.val⟩) with period := period, fills := 0, ripAt := s.now }) (master s ⟨2, hb.val⟩))) ∧
  -- RIPPLE_FILL
  (∀ (hb : Fin 8) (s : State), counting s (master s ⟨2, hb.val⟩) = true →
     ((chn s (master s ⟨2, hb.val⟩)).period != 0) = true → (chn s (master s ⟨2, hb.val⟩)).fills + 1 ≠ 8 →
     exec (.rippleFill hb) s = .next (countRipple (setChn (s.bump HB_CNT3_RIP_FILLED 1) (master s ⟨2, hb.val⟩) { chn s (master s ⟨2, hb.val⟩) with fills := (chn s (master s ⟨2, hb.val⟩)).fills + 1 }) (master s ⟨2, hb.val⟩))) ∧
  -- RIPPLE_FILL
  (∀ (hb : Fin 8) (s : State), counting s (master s ⟨2, hb.val⟩) = true →
     ((chn s (master s ⟨2, hb.val⟩)).period != 0) = true → (chn s (master s ⟨2, hb.val⟩)).fills + 1 = 8 →
     exec (.rippleFill hb) s = .next (posLost (countRipple (setChn (s.bump HB_CNT3_RIP_FILLED 1) (master s ⟨2, hb.val⟩) { chn s (master s ⟨2, hb.val⟩) with fills := 8 }) (master s ⟨2, hb.val⟩)) (master s ⟨2, hb.val⟩))) ∧
  -- STALL
  (∀ (hb : Fin 8) (heldMs : Nat) (ma : Nat) (d : BridgeBody) (u : State) (s : State),
     (chn s (master s ⟨2, hb.val⟩)).drv = .bridge d → d.mode = 3 ∨ d.mode = 4 →
     ((chn s (master s ⟨2, hb.val⟩)).safe == .none) = true →
     s.flag (HB_STATE_STALL (master s ⟨2, hb.val⟩).idx) = false → rampOver s (master s ⟨2, hb.val⟩) 0 = true →
     2 * s.rd (HB_STALL_STALL_T (master s ⟨2, hb.val⟩).idx) ≤ heldMs →
     100 * s.rd (HB_STALL_STALL_I (master s ⟨2, hb.val⟩).idx) ≤ ma → d.stallStop = false →
     u = (s.put (HB_STATE_STALL (master s ⟨2, hb.val⟩).idx) true).bump HB_CNT2_STALLS 1 →
     exec (.stall hb heldMs ma) s = .next ((raise u 22 false [ownerOr0 s 2 (master s ⟨2, hb.val⟩).idx] (chPayload u (master s ⟨2, hb.val⟩) 1 1 ++ leBytes 4 (s.rd (HB_POS_POS (master s ⟨2, hb.val⟩).idx)))).wr (HB_RIPF_RIPFREQ (master s ⟨2, hb.val⟩).idx) 0)) ∧
  -- REVERSAL_BRAKE_END
  (∀ (hb : Fin 8) (u : State) (s : State), ((chn s (master s ⟨2, hb.val⟩)).safe == .reverse) = true →
     (s.rd (HB_STATE_REV (master s ⟨2, hb.val⟩).idx) == 1) = true → (chn s (master s ⟨2, hb.val⟩)).revDir ≠ 0 →
     u = switchTo (setRev s (master s ⟨2, hb.val⟩) 2) (master s ⟨2, hb.val⟩) (.bridge ⟨2 + (chn s (master s ⟨2, hb.val⟩)).revDir, s.rd (HB_REV_REV_DUTY (master s ⟨2, hb.val⟩).idx), 0, s.rd (HB_REV2_REV_MS (master s ⟨2, hb.val⟩).idx), 0, 0, false, false, false⟩) →
     exec (.reversalBrakeEnd hb) s = .next (setChn u (master s ⟨2, hb.val⟩) { chn u (master s ⟨2, hb.val⟩) with dir := (chn s (master s ⟨2, hb.val⟩)).revDir, revRip := 0, period := 0, fills := 0, ripSeen := false })) ∧
  -- REVERSAL_DRIVE_END
  (∀ (hb : Fin 8) (u : State) (s : State), ((chn s (master s ⟨2, hb.val⟩)).safe == .reverse) = true →
     (s.rd (HB_STATE_REV (master s ⟨2, hb.val⟩).idx) == 2) = true →
     1000 * s.rd (HB_REV2_REV_MS (master s ⟨2, hb.val⟩).idx) ≤ usNow s - (chn s (master s ⟨2, hb.val⟩)).runAt →
     u = switchTo (setRev s (master s ⟨2, hb.val⟩) 3) (master s ⟨2, hb.val⟩) (.bridge (still 1)) →
     exec (.reversalDriveEnd hb) s = .next (setChn u (master s ⟨2, hb.val⟩) { chn u (master s ⟨2, hb.val⟩) with driveEnd := some s.now })) ∧
  -- REVERSAL_FINAL_END
  (∀ (hb : Fin 8) (s : State), ((chn s (master s ⟨2, hb.val⟩)).safe == .reverse) = true →
     (s.rd (HB_STATE_REV (master s ⟨2, hb.val⟩).idx) == 3) = true →
     exec (.reversalFinalEnd hb) s = .next (holdEnded (setSafe (setRev (bridgeOff s (master s ⟨2, hb.val⟩)) (master s ⟨2, hb.val⟩) 0) (master s ⟨2, hb.val⟩) .none) (master s ⟨2, hb.val⟩)))

/-- Kerf results, LED tests, follow supplies and derating. The end of travel is found, learned or missed; LED tests show
open and short outputs; a group's follow supply goes off; headroom is raised and cleared; the derating factor follows
the temperature source, and a failed source holds and then falls to the floor. Each clause names the operands and the
states it holds for, concludes that exec answers a next state, and gives that state whole, or by its frame and what
it holds. -/
def Obligations.KerfsAndLeds : Prop :=
  -- KERF_FOUND
  (∀ (sv : Fin 8) (i : List Nat) (s : State), (chn s (master s ⟨3, sv.val⟩)).kerf = true →
     (chn s (master s ⟨3, sv.val⟩)).found = none →
     exec (.kerfFound sv i) s = .next (setChn s (master s ⟨3, sv.val⟩) { chn s (master s ⟨3, sv.val⟩) with found := (kerfWatch s (master s ⟨3, sv.val⟩) i).found })) ∧
  -- KERF_WINDOW_END
  (∀ (sv : Fin 8) (i : List Nat) (p rep : Nat) (s : State), (chn s (master s ⟨3, sv.val⟩)).kerf = true →
     (chn s (master s ⟨3, sv.val⟩)).found = none → (kerfWatch s (master s ⟨3, sv.val⟩) i).found = none →
     (chn s (master s ⟨3, sv.val⟩)).drv = .profile p rep → learns s (master s ⟨3, sv.val⟩) p = false →
     exec (.kerfWindowEnd sv i) s = .next (kerfMissed s (master s ⟨3, sv.val⟩) (kerfMiss (kerfWatch s (master s ⟨3, sv.val⟩) i)))) ∧
  -- KERF_WINDOW_END
  (∀ (sv : Fin 8) (i : List Nat) (p rep tEnd depth : Nat) (s : State), (chn s (master s ⟨3, sv.val⟩)).kerf = true →
     (chn s (master s ⟨3, sv.val⟩)).found = some (tEnd, depth) →
     (chn s (master s ⟨3, sv.val⟩)).drv = .profile p rep → learns s (master s ⟨3, sv.val⟩) p = false →
     exec (.kerfWindowEnd sv i) s = .next (kerfResult s (master s ⟨3, sv.val⟩) 1 tEnd depth)) ∧
  -- LED_TEST
  (∀ (n : Fin 24) (s : State), s.flag (LED_CFG_FMODE n.val) = false → (s.pwr.ps == .deep) = false →
     (s.pwr.ps == .off) = false → ledDue s n.val = true → exec (.ledTest n none) s = .next (ledBegin s n.val)) ∧
  -- LED_TEST
  (∀ (n : Fin 24) (r : LedMeas) (s : State), s.flag (LED_CFG_FMODE n.val) = false → (s.pwr.ps == .deep) = false →
     (s.pwr.ps == .off) = false → s.flag (LED_GSTAT_SUPPLY_LOST (n.val / 8)) = false → (chn s ⟨4, n.val⟩).test = 1 →
     exec (.ledTest n (some r)) s = .next (ledOwn (setChn s ⟨4, n.val⟩ { chn s ⟨4, n.val⟩ with test := 0 }) ⟨4, n.val⟩ (decide (r.pulseUa < 1000)) (decide (r.pinMv < 400)))) ∧
  -- LED_TEST
  (∀ (n : Fin 24) (r : LedMeas) (s : State), s.flag (LED_CFG_FMODE n.val) = false → (s.pwr.ps == .deep) = false →
     (s.pwr.ps == .off) = false → s.flag (LED_GSTAT_SUPPLY_LOST (n.val / 8)) = false → (chn s ⟨4, n.val⟩).test = 2 →
     n.val < 23 →
     exec (.ledTest n (some r)) s = .next (ledPair (ledOwn (setChn s ⟨4, n.val⟩ { chn s ⟨4, n.val⟩ with test := 0 }) ⟨4, n.val⟩ (decide (r.pulseUa < 1000)) (decide (r.pinMv < 400))) n.val (r.nb.map (fun v => decide (v.2.1 + 1000 ≤ v.1 ∧
     v.2.2 ≤ v.2.1 + 300))))) ∧
  -- FOLLOW_OFF
  (∀ (g : Fin 3) (f : Nat) (s : State), followOf s g.val = some f → groupOn s g.val = false →
     exec (.followOff g) s = .next (switch1 s .off ⟨1, f⟩)) ∧
  -- LED_HEADROOM
  (∀ (n : Fin 24) (mv : Nat) (heldUs : Nat) (s : State), 2 * mv < 1200 + (ledOut s ⟨4, n.val⟩).1 → 2000 ≤ heldUs →
     drvOn (chn s ⟨4, n.val⟩).drv = true → s.flag (LED_STATE_HEADROOM n.val) = false →
     s.flag (LED_GSTAT_SUPPLY_LOST (n.val / 8)) = false →
     exec (.ledHeadroom n mv heldUs) s = .next (raise (s.put (LED_STATE_HEADROOM n.val) true) 29 false [ownerOr0 s 4 n.val] (chPayload s ⟨4, n.val⟩ 2 1 ++ [byte (n.val / 8)]))) ∧
  -- LED_HEADROOM
  (∀ (n : Fin 24) (mv : Nat) (heldUs : Nat) (s : State), 1200 + (ledOut s ⟨4, n.val⟩).1 ≤ 2 * mv →
     exec (.ledHeadroom n mv heldUs) s = .next (s.put (LED_STATE_HEADROOM n.val) false)) ∧
  -- LED_DERATE_UPDATE
  (∀ (g : Fin 3) (die : Int) (ohms : List Nat) (s : State), (s.pwr.ps == .off) = false →
     (s.pwr.ps == .deep) = false → s.rd (LED_GRP_DER_TSRC g.val) = 0 →
     exec (.ledDerateUpdate g die ohms) s = .next (setFactor (s.put (LED_GSTAT_NTC_FAULT g.val) false) g.val 10000)) ∧
  -- LED_DERATE_UPDATE
  (∀ (g : Fin 3) (die : Int) (ohms : List Nat) (u : State) (s : State), s.pwr.ps = .run →
     1 ≤ s.rd (LED_GRP_DER_TSRC g.val) → s.rd (LED_GRP_DER_TSRC g.val) ≤ 6 →
     u = (s.put (LED_GSTAT_NTC_FAULT g.val) false).wrInt (LED_GSTAT_TGRP g.val) die →
     exec (.ledDerateUpdate g die ohms) s = .next (setFactor u g.val (factorOf u g.val die))) ∧
  -- LED_DERATE_UPDATE
  (∀ (g : Fin 3) (die : Int) (ohms : List Nat) (u : State) (v : Int) (s : State), s.pwr.ps = .run →
     8 ≤ s.rd (LED_GRP_DER_TSRC g.val) → s.rd (LED_GRP_DER_TSRC g.val) ≤ 23 →
     ntcMean s g.val (s.rd (LED_GRP_DER_TSRC g.val)) ohms = some v →
     u = (s.put (LED_GSTAT_NTC_FAULT g.val) false).wrInt (LED_GSTAT_TGRP g.val) v →
     exec (.ledDerateUpdate g die ohms) s = .next (setFactor u g.val (factorOf u g.val v))) ∧
  -- LED_DERATE_UPDATE
  (∀ (g : Fin 3) (die : Int) (ohms : List Nat) (s : State), s.pwr.ps = .run → 8 ≤ s.rd (LED_GRP_DER_TSRC g.val) →
     s.rd (LED_GRP_DER_TSRC g.val) ≤ 23 → ntcMean s g.val (s.rd (LED_GRP_DER_TSRC g.val)) ohms = none →
     s.flag (LED_GSTAT_NTC_FAULT g.val) = false →
     exec (.ledDerateUpdate g die ohms) s = .next (raise (s.put (LED_GSTAT_NTC_FAULT g.val) true) 30 false [0] ([byte g.val,
     2, byte (s.rd (LED_GSTAT_FACTOR g.val)), 1] ++ leBytes 2 (s.rd (LED_GSTAT_TGRP g.val))))) ∧
  -- NTC_FAULT_HOLD_END
  (∀ (g : Fin 3) (s : State), s.flag (LED_GSTAT_NTC_FAULT g.val) = true →
     exec (.ntcFaultHoldEnd g) s = .next (setFactor s g.val (100 * s.rd (LED_GRP_DER_FLOOR g.val))))

/-- The field block and the battery feeds. A field input's new level is accepted; field faults scan, rescan and clear;
the supply and the band of an input show; a feed goes below, above and back into its range. Each clause names the
operands and the states it holds for, concludes that exec answers a next state, and gives that state whole, or by its
frame and what it holds. -/
def Obligations.FieldAndFeeds : Prop :=
  -- FIO_INPUT_ACCEPT
  (∀ (n : Fin 16) (mv : Nat) (heldUs : Nat) (s : State), s.rd (FIO_CFG_MODE n.val) = 1 →
     max 50 (100 * s.rd (FIO_CFG_DEB n.val)) ≤ heldUs → quiet s = false → bit (s.rd FIO_IN_LEVEL) n.val = false →
     s.flag (FIO_CFG_ITYPE n.val) = false → 13000 ≤ mv → s.flag (FIO_CFG_IN_EVT n.val) = false →
     exec (.fioInputAccept n mv heldUs) s = .next (edgeSamples (s.wr FIO_IN_LEVEL (s.rd FIO_IN_LEVEL + 2 ^ n.val)) 5 n.val)) ∧
  -- FIO_INPUT_ACCEPT
  (∀ (n : Fin 16) (mv : Nat) (heldUs : Nat) (s : State), s.rd (FIO_CFG_MODE n.val) = 1 →
     max 50 (100 * s.rd (FIO_CFG_DEB n.val)) ≤ heldUs → quiet s = false → bit (s.rd FIO_IN_LEVEL) n.val = true →
     s.flag (FIO_CFG_ITYPE n.val) = true → mv ≤ 5500 → s.flag (FIO_CFG_IN_EVT n.val) = true →
     exec (.fioInputAccept n mv heldUs) s = .next (raise (edgeSamples (s.wr FIO_IN_LEVEL (s.rd FIO_IN_LEVEL - 2 ^ n.val)) 5 n.val) 31 false [ownerOr0 s 5 n.val] [5,
     byte n.val, 2, 0])) ∧
  -- FIO_FAULT_SCAN
  (∀ (s : State), s.flag FIO_STATUS_FAULT = true → exec .fioFaultScan s = .next (scanFio s)) ∧
  -- FIO_RESCAN
  (∀ (s : State), s.flag FIO_STATUS_FAULT = true → exec .fioRescan s = .next (scanFio (s.bump FIO_CNT_RESCANS 1))) ∧
  -- FIO_SUPPLY_CAUSE
  (∀ (mv : Nat) (heldMs : Nat) (s : State), (s.pwr.ps == .deep) = false → (s.pwr.ps == .off) = false →
     500 * s.rd FIO_BLK_UV + 1000 < mv → 10 ≤ heldMs →
     exec (.fioSupplyCause mv heldMs) s = .next (showFio ((List.range 16).foldl (fun x n => x.put (FIO_CAUSE_CAUSE n 3) false) s))) ∧
  -- FIO_INPUT_RANGE
  (∀ (n : Fin 16) (mv : Nat) (heldMs : Nat) (s : State), quiet s = false → s.rd (FIO_CFG_MODE n.val) = 1 →
     5000 < mv → mv < 11000 → 100 ≤ heldMs →
     exec (.fioInputRange n mv heldMs) s = .next (showFio (s.put (FIO_CAUSE_CAUSE n.val 4) true))) ∧
  -- FIO_INPUT_RANGE
  (∀ (n : Fin 16) (mv : Nat) (heldMs : Nat) (s : State), quiet s = false → s.rd (FIO_CFG_MODE n.val) ≠ 1 →
     exec (.fioInputRange n mv heldMs) s = .next (showFio (s.put (FIO_CAUSE_CAUSE n.val 4) false))) ∧
  -- FEED_UNDERVOLTAGE
  (∀ (f : Fin 4) (mv : Nat) (heldUs : Nat) (s : State), 100 ≤ heldUs → mv < 4300 → ∃ t,
     exec (.feedUndervoltage f mv heldUs) s = .next t ∧ Frame [Reg.PAR_EVT_CNT, Reg.ACT_SAFE_STATUS, Reg.ACT_CNT,
     Reg.HS_STATE, Reg.HB_STATE, Reg.SV_STATE, Reg.SV_KRES, Reg.SV_CNT2, Reg.LED_STATE, Reg.FIO_CAUSE,
     Reg.SW_CNT_VAL, Reg.SW_MSEC_STAT, Reg.TLY_CNT0, Reg.PWR_PINS] [.records, .freeCtr, .owed, .rng, .rings, .evt,
     .queue, .proxies, .chs, .loss, .wire, .out] s t ∧
     t.rd PWR_PINS_FEED_OK = (s.rd PWR_PINS_FEED_OK &&& (15 - 2 ^ f.val)) % 16 ∧
     t.rd PWR_PINS_FEED_UV = (s.rd PWR_PINS_FEED_UV ||| 2 ^ f.val) % 16) ∧
  -- FEED_UNDERVOLTAGE
  (∀ (f : Fin 4) (mv : Nat) (heldUs : Nat) (s : State), 4700 ≤ mv → exec (.feedUndervoltage f mv heldUs) s = .next (s)) ∧
  -- FEED_OVERVOLTAGE
  (∀ (f : Fin 4) (mv : Nat) (heldUs : Nat) (s : State), 10 ≤ heldUs → 38000 ≤ mv → ∃ t,
     exec (.feedOvervoltage f mv heldUs) s = .next t ∧ Frame [Reg.PAR_EVT_CNT, Reg.ACT_SAFE_STATUS, Reg.ACT_CNT,
     Reg.HS_STATE, Reg.HB_STATE, Reg.SV_STATE, Reg.SV_KRES, Reg.SV_CNT2, Reg.LED_STATE, Reg.FIO_CAUSE,
     Reg.SW_CNT_VAL, Reg.SW_MSEC_STAT, Reg.TLY_CNT0, Reg.PWR_PINS] [.records, .freeCtr, .pwr, .owed, .rng, .rings,
     .evt, .queue, .proxies, .chs, .loss, .wire, .out] s t ∧
     t.rd PWR_PINS_FEED_OK = (s.rd PWR_PINS_FEED_OK &&& (15 - 2 ^ f.val)) % 16 ∧
     t.rd PWR_PINS_FEED_UV = s.rd PWR_PINS_FEED_UV ∧ f.val ∈ t.pwr.overFeeds) ∧
  -- FEED_RECOVER
  (∀ (f : Fin 4) (mv : Nat) (heldUs : Nat) (s : State), 1000 ≤ heldUs → 5200 ≤ mv → mv < 35000 → ∃ t,
     exec (.feedRecover f mv heldUs) s = .next t ∧ Frame [Reg.HS_STATE, Reg.HB_STATE, Reg.SV_STATE, Reg.LED_STATE,
     Reg.FIO_CAUSE, Reg.PWR_PINS] [.freeCtr, .pwr, .chs] s t ∧
     t.rd PWR_PINS_FEED_OK = (s.rd PWR_PINS_FEED_OK ||| 2 ^ f.val) % 16)

/-- Switch inputs, analog inputs and calibration. An input burst samples all 48 contacts; cyclic sensing captures its
reference in SLEEP and samples against it in DEEP; a conversion shows its value; a calibration is refused beyond its
limit. Each clause names the operands and the states it holds for, concludes that exec answers a next state, and
gives that state whole, or by its frame and what it holds. -/
def Obligations.InputsAndConversions : Prop :=
  -- INPUT_SAMPLE
  (∀ (mv : List Nat) (vspar : Nat) (s : State), cdUp s = true → s.pwr.ps = .run →
     exec (.inputSample mv vspar) s = .next ((List.range 48).foldl (sampleInput mv vspar) s)) ∧
  -- CYCLIC_BURST
  (∀ (mv : List Nat) (vspar : Nat) (u : State) (s : State), s.pwr.ps = .sleep → burstDue s = true →
     s.sns.captured = none →
     u = (List.range 48).foldl (burstInput mv vspar) { s with sns := { s.sns with burstAt := s.now } } →
     u.pwr.ps = .sleep →
     exec (.cyclicBurst mv vspar) s = .next ({ u with sns := { u.sns with captured := some (contacts u) } })) ∧
  -- CYCLIC_BURST
  (∀ (mv : List Nat) (vspar : Nat) (cap : Nat) (s : State), s.pwr.ps = .deep → burstDue s = true →
     s.sns.captured = some cap →
     exec (.cyclicBurst mv vspar) s = .next ((List.range 48).foldl (burstInput mv vspar) { s with sns := { s.sns with burstAt := s.now } })) ∧
  -- ANALOG_CONVERT
  (∀ (m : Fin 16) (value : Nat) (s : State), s.flag (SIN_CFG_EN (32 + m.val)) = true → s.pwr.ps = .run →
     s.rd (SIN_CFG_AMODE (32 + m.val)) = 1 →
     lasted s (tabGet 0 s.sns.anaAt m.val) (1000 * s.rd (SIN_CFG_ANA_MS (32 + m.val))) = true →
     bit (s.rd SIN_AFLT_AFAULT) m.val = false → ∃ t, exec (.analogConvert m value) s = .next t ∧
     Frame [Reg.PAR_EVT_CNT, Reg.SIN_ANA, Reg.SIN_AFLT, Reg.SW_CNT_VAL, Reg.SW_MSEC_STAT, Reg.TLY_CNT0] [.records,
     .owed, .rings, .evt, .queue, .proxies, .loss, .sns, .wire, .out] s t ∧
     t.rd (SIN_ANA_VALUE m.val) = value % 2 ^ 32 ∧ t.rd SIN_AFLT_AFAULT = s.rd SIN_AFLT_AFAULT % 2 ^ 16) ∧
  -- ADC_CALIBRATE
  (∀ (adc : Fin 16) (departure : Int) (s : State), 100 < departure.natAbs → adc.val < 3 → ∃ t,
     exec (.adcCalibrate adc departure) s = .next t ∧ Frame [Reg.PAR_EVT_CNT, Reg.SIN_CAL, Reg.SW_CNT_VAL,
     Reg.SW_MSEC_STAT, Reg.TLY_CNT0] [.records, .owed, .rings, .evt, .queue, .proxies, .loss, .wire, .out] s t ∧
     t.rd SIN_CAL_CAL_FAILS = satAdd 8 (s.rd SIN_CAL_CAL_FAILS) 1) ∧
  -- ADC_CALIBRATE
  (∀ (adc : Fin 16) (departure : Int) (s : State), departure.natAbs ≤ 100 →
     exec (.adcCalibrate adc departure) s = .next (s))

/-- The SNS descriptors, blocks and windows. SNS_OPEN within capacity opens its stream and answers its slot, CLOSE ends
it with its last block, READ answers the converted value; blocks complete; a window is handed to inference or refused
for its check; RELEASE, in the order of the two counts modulo 2^32 (DEDUCED for counts that have wrapped), sets C or
completes with BAD_FIELD. Each clause names the operands and the states it holds for, concludes that exec answers a
next state, and gives that state whole, or by its frame and what it holds. -/
def Obligations.StreamDescriptors : Prop :=
  -- OPEN
  (∀ (h : DHdr) (b : List Byte) (u : State) (x : Strm) (a : Nat) (s : State), Served s SNS 1 h b →
     u = begun s SNS 1 h b → x = openBody u h.part.val b → bodyDirty b ((List.range 34).map (16 + ·)) = false →
     leAt b 31 1 = 0 → leAt b 29 1 < 4 → openBad u x = false → openOwned u x = true →
     translate u h.part.val x.base (2 ^ x.nblk * slotSize x.src x.nsamp) 1 = some a → (x.hop < x.nsamp →
     x.inf = true) → x.demand ≤ u.rd SIN_SCHED_CAP_FREE →
     exec (.snsOpen h b) s = .next (complete (showStreams { clearBlks u { x with base := a, epoch := u.rd SPR_DT_STATUS_EPOCH } with sns := { u.sns with streams := u.sns.streams ++ [{ x with base := a, epoch := u.rd SPR_DT_STATUS_EPOCH }] } }) SNS h 1 OK (leBytes 2 x.stream))) ∧
  -- CLOSE
  (∀ (h : DHdr) (b : List Byte) (samples : List Byte) (back : Nat) (u v : State) (x : Strm) (s : State),
     Served s SNS 2 h b → u = begun s SNS 2 h b → bodyDirty b [16] = false →
     strmAt u h.part.val (leAt b 16 1) = some x → x.closing = none →
     v = (if edgeSrc x.src then completeBlock u x.part (leAt b 16 1) x.buf x.t0 else completeBlock u x.part (leAt b 16 1) (samples.take (x.nsamp * sampleSize x.src)) (dtNow u - back)) →
     exec (.snsClose h b samples back) s = .next (tryClose (setStrm v { (strmAt v x.part (leAt b 16 1)).getD x with closing := some h }) x.part (leAt b 16 1))) ∧
  -- SNS_READ
  (∀ (h : DHdr) (b : List Byte) (u : State) (s : State), Served s SNS 4 h b → u = begun s SNS 4 h b →
     bodyDirty b [17, 18, 19] = false → leAt b 17 1 = 4 → srcBad u 4 (leAt b 18 1) (leAt b 19 1) = false →
     ownerOf u (leAt b 18 1) (leAt b 19 1) = some h.part.val →
     exec (.snsRead h b) s = .next (complete u SNS h 4 OK (leBytes 4 (u.rd (SIN_ANA_VALUE (leAt b 19 1 - 32)))))) ∧
  -- BLOCK_COMPLETE
  (∀ (part : Fin 8) (slot : Fin 16) (samples : List Byte) (back : Nat) (x : Strm) (s : State), cdUp s = true →
     strmAt s part.val slot.val = some x → edgeSrc x.src = true →
     exec (.blockComplete part slot samples back) s = .next (completeBlock s part.val slot.val x.buf x.t0)) ∧
  -- BLOCK_COMPLETE
  (∀ (part : Fin 8) (slot : Fin 16) (samples : List Byte) (back : Nat) (x : Strm) (s : State), cdUp s = true →
     strmAt s part.val slot.val = some x → edgeSrc x.src = false → x.src ≠ 2 →
     exec (.blockComplete part slot samples back) s = .next (completeBlock s part.val slot.val (samples.take (x.nsamp * sampleSize x.src)) (dtNow s - back))) ∧
  -- WINDOW_HANDOFF
  (∀ (part : Fin 8) (slot : Fin 16) (x : Strm) (w : SWin) (b : Brand) (s : State), infUp s = true →
     strmAt s part.val slot.val = some x → ctxState s x.ctx = 2 → x.wins.find? (fun w => !w.handed) = some w →
     b = brandOfMem (readBytes s w.addr 24) →
     brandSound b (leAt (readBytes s w.addr 24) 19 1) [] (readBytes s (w.addr + 32) (w.count * sampleSize x.src)) = false →
     exec (.windowHandoff part slot) s = .next (windowRead (bindsAct (brandFault s 1 BAD_CHECK (ownerOr0 s 11 x.ctx) b.stream b.seq) (bindsOf s x.ctx) BAD_CHECK b.stream b.seq) part.val slot.val w.blk)) ∧
  -- WINDOW_HANDOFF
  (∀ (part : Fin 8) (slot : Fin 16) (x : Strm) (w : SWin) (r data : List Byte) (u : State) (s : State),
     infUp s = true → strmAt s part.val slot.val = some x → ctxState s x.ctx = 2 →
     x.wins.find? (fun w => !w.handed) = some w → r = readBytes s w.addr 24 →
     data = readBytes s (w.addr + 32) (w.count * sampleSize x.src) →
     brandSound (brandOfMem r) (leAt r 19 1) [] data = true → (brandOfMem r).stream = x.stream →
     bit (brandOfMem r).flags 5 = true → data.length = imgInLen (ctxAt s x.ctx).img →
     u = setCtx (setStrm s { x with wins := x.wins.map (fun v => if v.blk == w.blk then { v with handed := true } else v) }) x.ctx { ctxAt s x.ctx with handed := some (brandOfMem r).seq, handedAt := s.now } →
     exec (.windowHandoff part slot) s = .next (addJob u ⟨u.inf.nextJob, x.ctx, part.val, none, some (slot.val, w.blk), data, r, 1, bit (brandOfMem r).flags 2, 0, w.steps, s.now, newShare (ctxAt s x.ctx).mode 0, newShare (ctxAt s x.ctx).mode 1, (ctxAt s x.ctx).seq, none, false, none, none, []⟩)) ∧
  -- STREAM_RELEASE
  (∀ (h : DHdr) (b : List Byte) (u : State) (x : Strm) (s : State), Served s SNS 3 h b → u = begun s SNS 3 h b →
     bodyDirty b [16, 20, 21, 22, 23] = false → strmAt u h.part.val (leAt b 16 1) = some x →
     (leAt b 20 4 + 2 ^ 32 - x.cons) % 2 ^ 32 ≤ (x.prod + 2 ^ 32 - x.cons) % 2 ^ 32 →
     exec (.streamRelease h b) s = .next (complete (setStrm u { x with cons := leAt b 20 4 }) SNS h 3 OK [])) ∧
  -- STREAM_RELEASE
  (∀ (h : DHdr) (b : List Byte) (u : State) (x : Strm) (s : State), Served s SNS 3 h b → u = begun s SNS 3 h b →
     bodyDirty b [16, 20, 21, 22, 23] = false → strmAt u h.part.val (leAt b 16 1) = some x →
     (x.prod + 2 ^ 32 - x.cons) % 2 ^ 32 < (leAt b 20 4 + 2 ^ 32 - x.cons) % 2 ^ 32 →
     exec (.streamRelease h b) s = .next (complete u SNS h 3 BAD_FIELD []))

/-- The scaler: steps, restarts, storms and loss windows. A scaler step measures, budgets, scales and shows every
channel, or is skipped under injection; restarts within a second count up to the pinning third; a storm ends; a loss
window shows, prolongs and ends OVL. Each clause names the operands and the states it holds for, concludes that exec
answers a next state, and gives that state whole, or by its frame and what it holds. -/
def Obligations.ScalerSteps : Prop :=
  -- SCALER_STEP
  (∀ (x : ScalerIn) (u : State) (s : State), s.pwr.ps ≠ .off → s.flt.skip = false →
     u = (List.range 8).foldl (budgetStep x) (allChans.foldl (wireStep x) (x.chans.foldl showMeas (keepFeeds s x))) →
     exec (.scalerStep x) s = .next (allChans.foldl showCh ((List.range 8).foldl learnStep (pkgStep u x)))) ∧
  -- SCALER_STEP
  (∀ (x : ScalerIn) (s : State), s.pwr.ps ≠ .off → s.flt.skip = true → ∃ t, exec (.scalerStep x) s = .next t ∧
     Frame [Reg.CHN_ATTACH, Reg.PAR_STATE, Reg.PAR_RST_CFG, Reg.PAR_EVT_CNT, Reg.PAR_BUDGET, Reg.ACT_CLAIM,
     Reg.ACT_CNT, Reg.HS_MEAS, Reg.HS_STATE, Reg.HB_MEAS, Reg.HB_STATE, Reg.SV_MEAS, Reg.SV_STATE, Reg.SV_KRES,
     Reg.SV_LSTATE, Reg.SV_CNT2, Reg.LED_STATE, Reg.LED_MEAS, Reg.FIO_CAUSE, Reg.FIO_MEAS, Reg.SIN_SCHED,
     Reg.SIN_STREAMS, Reg.SCL_STATUS, Reg.SCL_PMEAS, Reg.SCL_PENERGY, Reg.SCL_CNT, Reg.SW_CNT_VAL, Reg.SW_BUF_STATUS,
     Reg.SW_MSEC_STAT, Reg.INF_CTX_STAT, Reg.INF_CTX_EXEC, Reg.INF_MEM, Reg.STO_WB_STATUS, Reg.SEC_KEY_STATE,
     Reg.TLY_CNT0, Reg.EVT_INJ_STATUS] [.memory, .records, .layout, .freeCtr, .pwr, .owed, .par, .rng, .rings, .evt,
     .queue, .proxies, .act, .chs, .scl, .loss, .sns, .sw, .wire, .sub, .brd, .inf, .sto, .sec, .flt, .out] s t ∧
     t.flt.skip = false ∧ t.flt.inj = none ∧ t.rd EVT_INJ_STATUS_PENDING = 0 ∧ t.chs = s.chs) ∧
  -- SCALER_RESTART
  (∀ (cause : Fin 4) (s : State), s.pwr.ps ≠ .off →
     ((s.now :: s.scl.restarts).filter (fun t => s.now - t < 32768)).length < 3 → ∃ t,
     exec (.scalerRestart cause) s = .next t ∧ Frame [Reg.PAR_EVT_CNT, Reg.HS_STATE, Reg.HB_STATE, Reg.SV_STATE,
     Reg.LED_STATE, Reg.FIO_CAUSE, Reg.SCL_STATUS, Reg.SCL_CNT, Reg.SW_CNT_VAL, Reg.SW_MSEC_STAT,
     Reg.TLY_CNT0] [.records, .owed, .rings, .evt, .queue, .proxies, .chs, .scl, .loss, .wire, .out] s t ∧
     t.rd SCL_CNT_SCL_RESTARTS = satAdd 8 (s.rd SCL_CNT_SCL_RESTARTS) 1 ∧
     t.scl.restarts = (s.now :: s.scl.restarts).filter (fun t => s.now - t < 32768) ∧ t.chs = s.chs) ∧
  -- SCALER_RESTART
  (∀ (cause : Fin 4) (s : State), s.pwr.ps ≠ .off →
     3 ≤ ((s.now :: s.scl.restarts).filter (fun t => s.now - t < 32768)).length → ∃ t,
     exec (.scalerRestart cause) s = .next t ∧ Frame [Reg.PAR_EVT_CNT, Reg.HS_STATE, Reg.HB_STATE, Reg.SV_STATE,
     Reg.LED_STATE, Reg.FIO_CAUSE, Reg.SCL_STATUS, Reg.SCL_CNT, Reg.SW_CNT_VAL, Reg.SW_MSEC_STAT,
     Reg.TLY_CNT0] [.records, .owed, .rings, .evt, .queue, .proxies, .chs, .scl, .loss, .wire, .out] s t ∧
     t.scl.pinned = true ∧ t.rd SCL_STATUS_PKG_FACTOR = s.rd SCL_PKG_PKG_FLOOR % 256) ∧
  -- STORM_END
  (∀ (s : State), s.flag SCL_STATUS_STORM = true →
     lasted s s.scl.stormAt (1000000 * s.rd SCL_RETRY_STORM_HOLD) = true → ∃ t, exec .stormEnd s = .next t ∧
     Frame [Reg.PAR_EVT_CNT, Reg.SCL_STATUS, Reg.SW_CNT_VAL, Reg.SW_MSEC_STAT, Reg.TLY_CNT0] [.records, .owed,
     .rings, .evt, .queue, .proxies, .chs, .loss, .wire, .out] s t ∧ t.flag SCL_STATUS_STORM = false) ∧
  -- LOSS_WINDOW_END
  (∀ (s : State), cdUp s = true → ((List.range 4).map (fun i => tabGet 0 s.scl.loss i)).sum = 0 →
     s.flag SCL_STATUS_OVL = true → s.rd SCL_OVL_OVL_CLEAR ≤ s.scl.clean + 1 → ∃ t, exec .lossWindowEnd s = .next t ∧
     Frame [Reg.PAR_EVT_CNT, Reg.SCL_STATUS, Reg.SCL_OVL_CNT, Reg.SW_CNT_VAL, Reg.SW_MSEC_STAT,
     Reg.TLY_CNT0] [.records, .owed, .rings, .evt, .queue, .proxies, .scl, .loss, .wire, .out] s t ∧
     t.flag SCL_STATUS_OVL = false ∧ t.scl.clean = 0) ∧
  -- LOSS_WINDOW_END
  (∀ (s : State), cdUp s = true → ((List.range 4).map (fun i => tabGet 0 s.scl.loss i)).sum = 0 →
     s.flag SCL_STATUS_OVL = true → s.scl.clean + 1 < s.rd SCL_OVL_OVL_CLEAR → ∃ t, exec .lossWindowEnd s = .next t ∧
     Frame [Reg.PAR_EVT_CNT, Reg.SCL_STATUS, Reg.SCL_OVL_CNT, Reg.SW_CNT_VAL, Reg.SW_MSEC_STAT,
     Reg.TLY_CNT0] [.records, .owed, .rings, .evt, .queue, .proxies, .scl, .loss, .wire, .out] s t ∧
     t.flag SCL_STATUS_OVL = true ∧ t.scl.clean = s.scl.clean + 1 ∧ t.rd SCL_OVL_CNT_WIN_LOSS = 0) ∧
  -- LOSS_WINDOW_END
  (∀ (s : State), cdUp s = true → ((List.range 4).map (fun i => tabGet 0 s.scl.loss i)).sum ≠ 0 →
     s.flag SCL_STATUS_OVL = false → ∃ t, exec .lossWindowEnd s = .next t ∧ Frame [Reg.PAR_EVT_CNT, Reg.SCL_STATUS,
     Reg.SCL_OVL_CNT, Reg.SW_CNT_VAL, Reg.SW_MSEC_STAT, Reg.TLY_CNT0] [.records, .owed, .rings, .evt, .queue,
     .proxies, .scl, .loss, .wire, .out] s t ∧ t.flag SCL_STATUS_OVL = true ∧ t.scl.clean = 0 ∧
     t.rd SCL_OVL_CNT_OVL_EPISODES = satAdd 16 (s.rd SCL_OVL_CNT_OVL_EPISODES) 1)

/-- Inference contexts: LOAD, UNLOAD and the reload after sleep. LOAD starts reading its image, and ends READY with its
times or with MODEL_INVALID and why; UNLOAD frees a context or finds it busy; a context is read again after sleep.
Each clause names the operands and the states it holds for, concludes that exec answers a next state, and gives that
state whole, or by its frame and what it holds. -/
def Obligations.Contexts : Prop :=
  -- LOAD
  (∀ (h : DHdr) (b : List Byte) (u : State) (hd : List Byte) (out out2 : Nat) (s : State), Served s INF 1 h b →
     u = begun s INF 1 h b → bodyDirty b ([16, 17, 18, 19] ++ (List.range 16).map (24 + ·)) = false →
     leAt b 16 1 < 16 → leAt b 17 1 < 3 → leAt b 18 1 < 2 → 1 ≤ leAt b 19 1 → leAt b 19 1 ≤ 12 →
     leAt b 32 8 % 64 = 0 → ownerOf u 11 (leAt b 16 1) = some h.part.val → ctxState u (leAt b 16 1) = 0 →
     ¬ (leAt b 18 1 = 0 ∧ homeOf u h.part.val = 2) → (∀ f, withData u INF h 1 (leAt b 24 8) 64 f = f u hd) →
     headerOk hd true = true → translate u h.part.val (leAt b 32 8) (2 * 2 ^ leAt b 19 1 * rsize hd) 0 = some out →
     translate u h.part.val (leAt b 32 8) (2 * 2 ^ leAt b 19 1 * rsize hd) 1 = some out2 →
     exec (.infLoad h b) s = .next (withData u INF h 1 (leAt b 24 8) (imgTotal hd) (startLoad h b out))) ∧
  -- INF_LOAD_COMPLETE
  (∀ (ctx : Fin 16) (execA : Nat) (execB : Nat) (h : DHdr) (s : State), infUp s = true → ctxState s ctx.val = 1 →
     (ctxAt s ctx.val).load = some h → ctxFault s (ctxAt s ctx.val) execA execB = none →
     exec (.infLoadComplete ctx execA execB) s = .next (complete (loadEvent (ctxReady s ctx.val (ctxAt s ctx.val) execA execB) ctx.val 0) INF h 1 OK (leBytes 2 (if usesCh (ctxAt s ctx.val).mode 0 then execA else 0) ++ leBytes 2 (if usesCh (ctxAt s ctx.val).mode 1 then execB else 0)))) ∧
  -- INF_LOAD_COMPLETE
  (∀ (ctx : Fin 16) (execA : Nat) (execB : Nat) (h : DHdr) (why : Nat) (s : State), infUp s = true →
     ctxState s ctx.val = 1 → (ctxAt s ctx.val).load = some h → ctxFault s (ctxAt s ctx.val) execA execB = some why →
     exec (.infLoadComplete ctx execA execB) s = .next (complete (freeCtx s ctx.val) INF h 1 MODEL_INVALID [byte why])) ∧
  -- UNLOAD
  (∀ (h : DHdr) (b : List Byte) (u : State) (s : State), Served s INF 2 h b → u = begun s INF 2 h b →
     bodyDirty b [16] = false → leAt b 16 1 < 16 → ownerOf u 11 (leAt b 16 1) = some h.part.val →
     ctxState u (leAt b 16 1) ≠ 1 → u.inf.jobs.any (fun j => j.ctx == leAt b 16 1 && !j.settled) = false →
     exec (.infUnload h b) s = .next (complete (freeCtx u (leAt b 16 1)) INF h 2 OK [])) ∧
  -- UNLOAD
  (∀ (h : DHdr) (b : List Byte) (u : State) (s : State), Served s INF 2 h b → u = begun s INF 2 h b →
     bodyDirty b [16] = false → leAt b 16 1 < 16 → ownerOf u 11 (leAt b 16 1) = some h.part.val →
     (ctxState u (leAt b 16 1) = 1 ∨ u.inf.jobs.any (fun j => j.ctx == leAt b 16 1 && !j.settled) = true) →
     exec (.infUnload h b) s = .next (complete u INF h 2 CONTEXT_BUSY [])) ∧
  -- CONTEXT_RELOAD
  (∀ (ctx : Fin 16) (execA : Nat) (execB : Nat) (a : Nat) (u : State) (img : List Byte) (y : Ctx) (s : State),
     infUp s = true → ctxState s ctx.val = 3 →
     translate s (ctxAt s ctx.val).part (ctxAt s ctx.val).imgAddr (ctxAt s ctx.val).imgLen 0 = some a →
     fetchData s (ctxAt s ctx.val).part a (ctxAt s ctx.val).imgLen = (u, some img) →
     y = { ctxAt s ctx.val with img := img, gapA := (ctxAt s ctx.val).gapA || lostAsleep u ctx.val, gapB := (ctxAt s ctx.val).gapB || lostAsleep u ctx.val } →
     ctxFault u y execA execB = none →
     exec (.contextReload ctx execA execB) s = .next (loadEvent (ctxReady u ctx.val y execA execB) ctx.val 1))

/-- Inference jobs: RUN, start, end and abort. RUN is kept as a job with its brands, or finds no room; a ready share
starts on an idle channel, ahead of a lower one; the end of a share writes its result record; a fault or the watchdog
aborts it. Each clause names the operands and the states it holds for, concludes that exec answers a next state, and
gives that state whole, or by its frame and what it holds. -/
def Obligations.Jobs : Prop :=
  -- RUN
  (∀ (h : DHdr) (b : List Byte) (u : State) (v w : State) (out : Nat) (input brands : List Byte) (s : State),
     Served s INF 3 h b → u = begun s INF 3 h b → bodyDirty b ([16, 17] ++ (List.range 24).map (24 + ·)) = false →
     leAt b 16 1 < 16 → 1 ≤ leAt b 17 1 → leAt b 17 1 ≤ 16 → ownerOf u 11 (leAt b 16 1) = some h.part.val →
     ctxState u (leAt b 16 1) = 2 →
     translate u h.part.val (leAt b 40 8) (2 * rsize (ctxAt u (leAt b 16 1)).img) 1 = some out → (∀ f,
     withData u INF h 3 (leAt b 24 8) (imgInLen (ctxAt u (leAt b 16 1)).img) f = f v input) → (∀ f,
     withData v INF h 3 (leAt b 32 8) (24 * leAt b 17 1) f = f w brands) →
     ((List.range (leAt b 17 1)).map (fun i => slice brands (24 * i) 24)).all brandForm = true →
     exec (.infRun h b) s = .next (addJob w ⟨w.inf.nextJob, leAt b 16 1, h.part.val, some h, none, input, brands, leAt b 17 1, ((List.range (leAt b 17 1)).map (fun i => slice brands (24 * i) 24)).any (fun l => bit (leAt l 2 1) 2), out, w.dt.stepped, w.now, newShare (ctxAt u (leAt b 16 1)).mode 0, newShare (ctxAt u (leAt b 16 1)).mode 1, (ctxAt u (leAt b 16 1)).seq, none, false, none, none, []⟩)) ∧
  -- RUN
  (∀ (h : DHdr) (b : List Byte) (u : State) (s : State), Served s INF 3 h b → u = begun s INF 3 h b →
     bodyDirty b ([16, 17] ++ (List.range 24).map (24 + ·)) = false → leAt b 16 1 < 16 → 1 ≤ leAt b 17 1 →
     leAt b 17 1 ≤ 16 → ownerOf u 11 (leAt b 16 1) = some h.part.val → ctxState u (leAt b 16 1) = 1 →
     exec (.infRun h b) s = .next (complete u INF h 3 CONTEXT_BUSY [])) ∧
  -- JOB_START
  (∀ (chan : Fin 2) (id : Nat) (j : InfJob) (s : State), infUp s = true → jobAt s id = some j →
     shareReady (shareOf j chan.val) = true → ctxState s j.ctx = 2 → chState s chan.val = 0 →
     (infCh s chan.val).kat = false → jobTurn s chan.val j = true → runsOn s chan.val = none →
     exec (.jobStart chan id) s = .next (takeJob s j chan.val)) ∧
  -- JOB_START
  (∀ (chan : Fin 2) (id : Nat) (j r : InfJob) (s : State), infUp s = true → jobAt s id = some j →
     shareReady (shareOf j chan.val) = true → ctxState s j.ctx = 2 → chState s chan.val = 0 →
     (infCh s chan.val).kat = false → jobTurn s chan.val j = true → safetyJob s j = true →
     runsOn s chan.val = some r → safetyJob s r = false →
     exec (.jobStart chan id) s = .next (takeJob (setJob s (setShare r chan.val .suspended)) j chan.val)) ∧
  -- JOB_END
  (∀ (chan : Fin 2) (j : InfJob) (r : List Byte) (s : State), infUp s = true → runsOn s chan.val = some j →
     r = resultRecord s j chan.val (runSection (sectionOf (ctxAt s j.ctx).img chan.val) j.input) →
     exec (.jobEnd chan 0) s = .next (settle (resultWritten (setJob (storeData s j.part (recordAt s j chan.val) r) (setShare j chan.val (.done r))) j.ctx chan.val) j.id)) ∧
  -- JOB_END
  (∀ (chan : Fin 2) (fault : Fin 3) (j : InfJob) (s : State), infUp s = true → runsOn s chan.val = some j →
     fault.val ≠ 0 → exec (.jobEnd chan fault) s = .next (abortShare s j chan.val fault.val)) ∧
  -- JOB_WATCHDOG
  (∀ (chan : Fin 2) (j : InfJob) (s : State), infUp s = true → runsOn s chan.val = some j →
     exec (.jobWatchdog chan) s = .next (abortShare s j chan.val 3))

/-- The comparator and the known-answer tests. A share's result is compared when both are there, late pairs and missing
inputs are decided as faults; a known-answer test starts, ends, fails its channel and at the retest restores or
removes it. Each clause names the operands and the states it holds for, concludes that exec answers a next state, and
gives that state whole, or by its frame and what it holds. -/
def Obligations.Verdicts : Prop :=
  -- INF_RESULT
  (∀ (chan : Fin 2) (id : Nat) (damage : List Byte) (j k : InfJob) (r : List Byte) (s : State), infUp s = true →
     jobAt s id = some j → shareOf j chan.val = .done r →
     k = (if chan.val = 0 then { j with rxA := j.rxA <|> some (r.zipWith (· ^^^ ·) (padTo r.length damage)) } else { j with rxB := j.rxB <|> some (r.zipWith (· ^^^ ·) (padTo r.length damage)) }) →
     exec (.infResult chan id damage) s = .next (if allReceived k then decideJob (setJob s k) id else setJob s k)) ∧
  -- PAIR_TIMEOUT
  (∀ (binding : Fin 8) (id : Nat) (j : InfJob) (s : State), infUp s = true → jobAt s id = some j →
     (undecided s j).contains binding.val = true → allReceived j = false →
     lasted s j.since (10 * s.rd (BRD_BIND1_PAIR_TMO binding.val)) = true →
     exec (.pairTimeout binding id) s = .next (forgetJob (decideBind id true s binding.val) id)) ∧
  -- NO_INPUT_TIMEOUT
  (∀ (binding : Fin 8) (s : State), infUp s = true → bindOn s binding.val = true → noInput s binding.val = true →
     exec (.noInputTimeout binding) s = .next (actVerdict (brandFault s 2 NO_INPUT (ownerOr0 s 11 (s.rd (BRD_BIND0_CTX binding.val))) 0 0) binding.val NO_INPUT 0 0 0 0)) ∧
  -- KAT_START
  (∀ (chan : Fin 2) (s : State), infUp s = true → chState s chan.val = 0 → (infCh s chan.val).kat = false →
     lasted s (infCh s chan.val).katSince 250000 = true → runsOn s chan.val = none →
     exec (.katStart chan true) s = .next (((setInfCh s chan.val { infCh s chan.val with kat := true, katSince := s.now, forced := true }).bump INF_CNT0_KATS 1).bump INF_CNT0_FORCED 1)) ∧
  -- KAT_START
  (∀ (chan : Fin 2) (s : State), infUp s = true → chState s chan.val = 0 → (infCh s chan.val).kat = false →
     lasted s (infCh s chan.val).katSince 100000 = true → runsOn s chan.val = none →
     s.inf.jobs.any (fun j => shareReady (shareOf j chan.val) && ctxState s j.ctx == 2) = false →
     exec (.katStart chan false) s = .next ((setInfCh s chan.val { infCh s chan.val with kat := true, katSince := s.now, forced := false }).bump INF_CNT0_KATS 1)) ∧
  -- KAT_END
  (∀ (chan : Fin 2) (part : Fin 3) (ctx : Fin 16) (g : Option Nat) (u : State) (s : State), infUp s = true →
     (infCh s chan.val).kat = true → g = goldenTurn s chan.val ctx.val → katBad part.val g = false →
     u = goldenRan s chan.val g →
     exec (.katEnd chan part ctx) s = .next (setInfCh u chan.val { infCh u chan.val with kat := false })) ∧
  -- KAT_END
  (∀ (chan : Fin 2) (part : Fin 3) (ctx : Fin 16) (g : Option Nat) (v u : State) (s : State), infUp s = true →
     (infCh s chan.val).kat = true → g = goldenTurn s chan.val ctx.val → katBad part.val g = true →
     v = goldenRan s chan.val g → u = setInfCh v chan.val { infCh v chan.val with kat := false } →
     exec (.katEnd chan part ctx) s = .next (katEvent (setChState ((setInfCh u chan.val { infCh u chan.val with passes := 0, fails := 0 }).bump INF_CNT1_KAT_FAILS 1) chan.val 1) chan.val part.val (g.getD 0))) ∧
  -- KAT_RETEST
  (∀ (chan : Fin 2) (part : Fin 3) (ctx : Fin 16) (g : Option Nat) (u : State) (s : State), infUp s = true →
     chState s chan.val = 1 → lasted s (infCh s chan.val).katSince 10000 = true → g = goldenTurn s chan.val ctx.val →
     katBad part.val g = false → u = goldenRan s chan.val g → 2 ≤ (infCh u chan.val).passes + 1 →
     exec (.katRetest chan part ctx) s = .next (katEvent (setChState ((setInfCh u chan.val { infCh u chan.val with katSince := s.now, passes := (infCh u chan.val).passes + 1, fails := 0 }).bump INF_CNT0_KATS 1) chan.val 0) chan.val 0 (g.getD 0))) ∧
  -- KAT_RETEST
  (∀ (chan : Fin 2) (part : Fin 3) (ctx : Fin 16) (g : Option Nat) (u : State) (s : State), infUp s = true →
     chState s chan.val = 1 → lasted s (infCh s chan.val).katSince 10000 = true → g = goldenTurn s chan.val ctx.val →
     katBad part.val g = true → u = goldenRan s chan.val g → 3 ≤ (infCh u chan.val).fails + 1 →
     exec (.katRetest chan part ctx) s = .next (katEvent (setChState (((setInfCh u chan.val { infCh u chan.val with katSince := s.now, passes := 0, fails := (infCh u chan.val).fails + 1 }).bump INF_CNT0_KATS 1).bump INF_CNT1_KAT_FAILS 1) chan.val 3) chan.val part.val (g.getD 0)))

/-- Frames through the switch, gates and aging. A unit in bypass passes frames on, but for MAINT that is for itself
alone; a bad frame is counted and dropped; a good one is copied to its destinations; a queued frame is sent; gates,
aging and PLCA; a sleep request of a segment is answered. Each clause names the operands and the states it holds for,
concludes that exec answers a next state, and gives that state whole, or by its frame and what it holds. -/
def Obligations.SwitchFrames : Prop :=
  -- FRAME_RECEIVE
  (∀ (port : Fin 6) (frame : List Byte) (fcsOk : Bool) (s : State), port.val < 2 → s.pwr.ldUp = true →
     bypassed s = true → exec (.frameReceive port frame fcsOk) s = .next (bypassFrame s port.val frame)) ∧
  -- FRAME_RECEIVE
  (∀ (port : Fin 6) (frame : List Byte) (fcsOk : Bool) (s : State), ¬ (port.val < 2 ∧ bypassed s = true) →
     s.chain.cut = false → switchUp s = true → ldLink s = true → (fcsOk = false ∨ frame.length + 4 < 64) →
     exec (.frameReceive port frame fcsOk) s = .next (swCount (swCount (swCount s 0 port.val 0 1) 1 port.val 0 (frame.length + 4)) 4 port.val 0 1)) ∧
  -- FRAME_RECEIVE
  (∀ (port : Fin 6) (frame : List Byte) (u : State) (k : Plan) (s : State), 2 ≤ port.val → switchUp s = true →
     ldLink s = true → 64 ≤ frame.length + 4 → frame.length + 4 ≤ s.rd SW_CFG_MAX_FRAME →
     route (swCount (swCount s 0 port.val 0 1) 1 port.val 0 (frame.length + 4)) port.val frame 0 = (u, some k) →
     exec (.frameReceive port frame true) s = .next (k.dests.foldl (copyTo k) u)) ∧
  -- FRAME_TRANSMIT
  (∀ (port : Fin 8) (gap : Nat) (u v : State) (c : Nat) (q : QFrame) (rest : List QFrame) (s : State),
     switchUp s = true → 2 ≤ port.val → (port.val < 6 → ldLink s = true) →
     u = (List.range 8).foldl (fun t c => gateDrop port.val c (queueOf t port.val c).length t) ((List.range 6).foldl (accrue port.val gap) s) →
     nextClass u port.val = some c → queueOf u port.val c = q :: rest →
     v = ((List.range 6).filter (· != c)).foldl (accrue port.val (txNs u port.val (wireLen u port.val q.bytes))) (setQueue u port.val c rest) →
     shaped v port.val c = false → exec (.frameTransmit port gap) s = .next (retryTx (sendOut v port.val c q))) ∧
  -- GATE_ENTRY
  (∀ (port : Fin 2) (s : State), switchUp s = true → gated s port.val = false → ∃ t,
     exec (.gateEntry port) s = .next t ∧ Frame [] [.sw] s t ∧ t.sw.gates = tabDel s.sw.gates port.val ∧
     t.sw.table = s.sw.table) ∧
  -- AGING_SCAN
  (∀ (s : State), switchUp s = true → ∃ t, exec .agingScan s = .next t ∧ Frame [Reg.SW_CNT_VAL, Reg.SW_STATUS] [.sw,
     .wire] s t ∧ t.sw.table = s.sw.table.filter (fun e => e.2.static || decide (ageOf s e.2 < s.rd SW_CFG_AGE_TIME))) ∧
  -- PLCA_BEACON_LOSS
  (∀ (seg : Fin 4) (s : State), cdUp s = true → follower s seg.val = true →
     s.flag (SUB_T1S_STAT_PLCA_STATUS seg.val) = true →
     exec (.plcaBeaconLoss seg) s = .next (plcaChange s seg.val false)) ∧
  -- PLCA_BEACON_RETURN
  (∀ (seg : Fin 4) (s : State), cdUp s = true → follower s seg.val = true →
     s.flag (SUB_T1S_STAT_PLCA_STATUS seg.val) = false →
     exec (.plcaBeaconReturn seg) s = .next (plcaChange s seg.val true)) ∧
  -- T1S_SLEEP_REQ
  (∀ (seg : Fin 4) (s : State), cdUp s = true → s.pwr.ps = .run →
     exec (.t1sSleepReq seg) s = .next (emit (raise s 49 false [ownerOr0 s 7 seg.val] [byte seg.val]) (.sleepAck (2 + seg.val) (s.flag (SUB_T1S_CFG_SLEEP_OK seg.val)))))

/-- The NET descriptors and the table commands. NET_TX queues its frame and completes with TX_TIMEOUT when it waits too
long; receive buffers are kept; FLUSH_TABLE removes what it names; the table commands read, write a static entry
before seal and clear. Each clause names the operands and the states it holds for, concludes that exec answers a next
state, and gives that state whole, or by its frame and what it holds. -/
def Obligations.SwitchDescriptors : Prop :=
  -- TX
  (∀ (h : DHdr) (b : List Byte) (u : State) (v : State) (frame : List Byte) (r : State × Option Plan) (k : Plan) (w : TxWait) (s : State),
     Served s NET 1 h b → u = begun s NET 1 h b → bodyDirty b ((List.range 14).map (16 + ·)) = false →
     leAt b 26 2 < 4096 → leAt b 28 1 < 8 → h.ring.val < 2 → 60 ≤ leAt b 24 2 →
     leAt b 24 2 + 4 ≤ u.rd SW_CFG_MAX_FRAME → leAt b 26 2 ≠ 0 → leAt b 26 2 ≠ 4095 → leAt b 29 1 = 255 →
     vidOwner u (leAt b 26 2) = some h.part.val → (∀ f,
     withData u NET h 1 (leAt b 16 8) (leAt b 24 2) f = f v frame) →
     (h.part.val = 0 ∨ (beAt frame 12 2 ≠ v.rd CHN_ZCFG_ETYPE ∧ dstOf frame / 16 ≠ 0x0180C200000)) →
     r = route (swCount (swCount v 0 6 0 1) 1 6 0 (leAt b 24 2 + 8)) 6 (addTag frame (leAt b 28 1 * 8192 + leAt b 26 2)) 0 →
     r.2 = some k →
     w = { hdr := h, frame := k.frame, vid := k.vid, tci := k.tci, cls := k.cls, left := k.dests, since := v.now } →
     exec (.netTx h b) s = .next (pushTx { r.1 with sw := { r.1.sw with tx := r.1.sw.tx ++ [w] } } w)) ∧
  -- TX_TIMEOUT
  (∀ (w : TxWait) (rest : List TxWait) (s : State), cdUp s = true → s.sw.tx = w :: rest →
     lasted s w.since (1000 * s.rd SW_TX_TX_TMO) = true → exec .txTimeout s = .next (endTx s w TX_TIMEOUT)) ∧
  -- RX_BUF
  (∀ (h : DHdr) (b : List Byte) (u : State) (a : Nat) (s : State), Served s NET 2 h b → u = begun s NET 2 h b →
     bodyDirty b ((List.range 10).map (16 + ·)) = false → 2 ≤ h.ring.val → 64 ≤ leAt b 24 2 → leAt b 24 2 ≤ 2048 →
     translate u h.part.val (leAt b 16 8) (leAt b 24 2) 1 = some a →
     exec (.rxBuf false h b) s = .next ({ u with sw := { u.sw with rx := u.sw.rx ++ [⟨h, a, leAt b 24 2⟩] } })) ∧
  -- RX_BUF
  (∀ (h : DHdr) (b : List Byte) (u : State) (a : Nat) (s : State), Served s BUS 3 h b → u = begun s BUS 3 h b →
     bodyDirty b ((List.range 10).map (16 + ·)) = false → 2 ≤ h.ring.val → 64 ≤ leAt b 24 2 → leAt b 24 2 ≤ 4096 →
     translate u h.part.val (leAt b 16 8) (leAt b 24 2) 1 = some a →
     exec (.rxBuf true h b) s = .next ({ u with sub := { u.sub with rx := u.sub.rx ++ [⟨h, a, leAt b 24 2⟩] } })) ∧
  -- FLUSH_TABLE
  (∀ (h : DHdr) (b : List Byte) (u : State) (v : State) (s : State), Served s NET 3 h b → u = begun s NET 3 h b →
     bodyDirty b [16, 18, 19] = false → h.part.val = 0 → h.ring.val < 2 → (leAt b 16 1 < 8 ∨ leAt b 16 1 = 255) →
     (leAt b 18 2 < 4096 ∨ leAt b 18 2 = 65535) →
     v = flushDynamic u (fun e => (leAt b 16 1 == 0xFF || e.port == leAt b 16 1) && (leAt b 18 2 == 0xFFFF || e.vid == leAt b 18 2)) →
     exec (.flushTable h b) s = .next (complete v NET h 3 OK (leBytes 2 (u.sw.table.length - v.sw.table.length)))) ∧
  -- TBL_READ
  (∀ (e : TblEnt) (s : State), cdUp s = true → tabFind s.sw.table (s.rd SW_TBL_IDX_INDEX) = some e → ∃ t,
     exec (.tblRead .p0) s = .next t ∧ Frame [Reg.PAR_SEAL_STATUS, Reg.SW_TBL_DATA0, Reg.SW_TBL_DATA1,
     Reg.SW_TBL_DATA2, Reg.SW_STATUS] [] s t ∧ t.rd SW_TBL_DATA0_MAC_LO = e.mac % 2 ^ 32 ∧
     t.rd SW_TBL_DATA1_VID = e.vid % 4096 ∧ t.rd SW_TBL_DATA2_PORT = e.port % 256 ∧
     t.flag SW_TBL_DATA2_VALID = true ∧ t.flag SW_TBL_DATA2_STATIC = e.static ∧ t.flag SW_TBL_DATA2_MCAST = e.mcast) ∧
  -- TBL_READ
  (∀ (s : State), cdUp s = true → tabFind s.sw.table (s.rd SW_TBL_IDX_INDEX) = none → ∃ t,
     exec (.tblRead .p0) s = .next t ∧ Frame [Reg.PAR_SEAL_STATUS, Reg.SW_TBL_DATA0, Reg.SW_TBL_DATA1,
     Reg.SW_TBL_DATA2, Reg.SW_STATUS] [] s t ∧ t.rd SW_TBL_DATA0_MAC_LO = 0 ∧ t.rd SW_TBL_DATA1_VID = 0 ∧
     t.flag SW_TBL_DATA2_VALID = false ∧ t.flag SW_TBL_DATA2_STATIC = false) ∧
  -- TBL_WRITE
  (∀ (s : State), cdUp s = true → s.flag PAR_SEAL_STATUS_SEALED = false → s.flag SW_TBL_DATA2_STATIC = true →
     s.flag SW_TBL_DATA2_VALID = true → (s.sw.table.filter (fun e => e.2.static)).length < 512 →
     exec (.tblWrite .p0) s = .next (setEnt (s.put SW_STATUS_TBL_BUSY true) (s.rd SW_TBL_IDX_INDEX) (some ⟨s.rd SW_TBL_DATA1_MAC_HI * 2 ^ 32 + s.rd SW_TBL_DATA0_MAC_LO, s.rd SW_TBL_DATA1_VID, s.rd SW_TBL_DATA2_PORT, s.rd SW_TBL_DATA2_AGE, true, s.flag SW_TBL_DATA2_MCAST, []⟩))) ∧
  -- TBL_WRITE
  (∀ (s : State), cdUp s = true → s.flag PAR_SEAL_STATUS_SEALED = true → ∃ t, exec (.tblWrite .p0) s = .next t ∧
     Frame [Reg.PAR_SEAL_STATUS, Reg.SW_STATUS] [.sw] s t ∧ t.sw = s.sw ∧
     t.rd PAR_SEAL_STATUS_SEAL_VIOL = satAdd 16 (s.rd PAR_SEAL_STATUS_SEAL_VIOL) 1) ∧
  -- TBL_CLEAR
  (∀ (s : State), cdUp s = true → s.flag PAR_SEAL_STATUS_SEALED = false →
     exec (.tblClear .p0) s = .next (setEnt (s.put SW_STATUS_TBL_BUSY true) (s.rd SW_TBL_IDX_INDEX) none))

/-- CAN frames: reception, errors, transmission and bus-off. Reception of a good frame, errors in reception and
transmission, the transmit queue of CAN and LIN, and bus-off with its recovery and notice. Each clause names the
operands and the states it holds for, concludes that exec answers a next state, and gives that state whole, or by its
frame and what it holds. -/
def Obligations.CanFrames : Prop :=
  -- CAN_FRAME_RX
  (∀ (bus : Fin 4) (ev : CanEv) (m : List Byte)  (s : State), canRuns s bus.val = true →
     (canAt s bus.val).off = false → ev = .frame m → msgFmt m ≠ 3 → fmtOn s bus.val (msgFmt m) = true →
     lenOk (msgFmt m) (msgLen m) = true →
     exec (.canFrameRx bus ev) s = .next (canChange bus.val (s.rd (SUB_CAN_STAT_STATE bus.val)) (canReceive (rxGood s bus.val) bus.val (padTo (16 + (if bit (msgFlags m) 4 then 0 else msgLen m)) m)))) ∧
  -- CAN_FRAME_RX
  (∀ (bus : Fin 4) (ev : CanEv) (s : State), canRuns s bus.val = true → (canAt s bus.val).off = false →
     ev = .txError →
     exec (.canFrameRx bus ev) s = .next (sleepDue (canChange bus.val (s.rd (SUB_CAN_STAT_STATE bus.val)) (txError (failOnce s bus.val) bus.val)) bus.val)) ∧
  -- BUSOFF_RECOVERED
  (∀ (bus : Fin 4) (s : State), canRuns s bus.val = true → (canAt s bus.val).off = true →
     (canAt s bus.val).recovering = true →
     exec (.busoffRecovered bus) s = .next (canChange bus.val 3 (((setCan s bus.val { canAt s bus.val with off := false, recovering := false }).wr (SUB_CAN_STAT_TEC bus.val) 0).wr (SUB_CAN_STAT_REC bus.val) 0))) ∧
  -- CAN_TX
  (∀ (h : DHdr) (b : List Byte) (u : State) (m : List Byte) (s : State), Served s BUS 1 h b → u = begun s BUS 1 h b →
     bodyDirty b ([16, 17, 18] ++ (List.range 20).map (20 + ·)) = false → leAt b 18 1 < 64 → leAt b 20 4 < 2 ^ 29 →
     h.ring.val < 2 → leAt b 16 1 < 4 → lenOk 0 (leAt b 24 2) = true → leAt b 17 1 = 0 → bit (leAt b 18 1) 0 = true →
     bit (leAt b 18 1) 1 = false → bit (leAt b 18 1) 2 = false → bit (leAt b 18 1) 4 = false →
     bit (leAt b 18 1) 5 = true → leAt b 24 2 ≤ 8 → leAt b 26 2 = 0 → leAt b 26 1 = 0 → leAt b 27 1 = 0 →
     leAt b 28 4 = 0 → ownerOf u 8 (leAt b 16 1) = some h.part.val → fmtOn u (leAt b 16 1) 0 = true →
     (canAt u (leAt b 16 1)).off = false → (canAt u (leAt b 16 1)).sleepFor = none →
     m = busBytes (leAt b 20 4) (leAt b 24 2) 4 (leAt b 16 1) 0 0 0 (slice b 32 (leAt b 24 2)) →
     exec (.canTx h b) s = .next (setCan u (leAt b 16 1) { canAt u (leAt b 16 1) with pend := (canAt u (leAt b 16 1)).pend ++ [⟨h, ⟨m, arbKey m⟩, bit (leAt b 18 1) 3, u.now⟩] })) ∧
  -- CAN_TX
  (∀ (h : DHdr) (b : List Byte) (u : State) (s : State), Served s BUS 1 h b → u = begun s BUS 1 h b →
     bodyDirty b ([16, 17, 18] ++ (List.range 20).map (20 + ·)) = false → leAt b 18 1 < 64 → leAt b 20 4 < 2 ^ 29 →
     h.ring.val < 2 → leAt b 16 1 < 4 → lenOk 0 (leAt b 24 2) = true → leAt b 17 1 = 0 → bit (leAt b 18 1) 0 = true →
     bit (leAt b 18 1) 1 = false → bit (leAt b 18 1) 2 = false → bit (leAt b 18 1) 4 = false →
     bit (leAt b 18 1) 5 = true → leAt b 24 2 ≤ 8 → leAt b 26 2 = 0 → leAt b 26 1 = 0 → leAt b 27 1 = 0 →
     leAt b 28 4 = 0 → ownerOf u 8 (leAt b 16 1) = some h.part.val → fmtOn u (leAt b 16 1) 0 = true →
     (canAt u (leAt b 16 1)).off = true → exec (.canTx h b) s = .next (complete u BUS h 1 BUS_OFF [])) ∧
  -- BUS_FRAME_SENT
  (∀ (bus : Fin 6) (s : State), canRuns s bus.val = true → (canAt s bus.val).off = false →
     s.flag (SUB_CAN_CFG_LISTEN bus.val) = false →
     exec (.busFrameSent false bus) s = .next (sleepDue (canSent s bus.val) bus.val)) ∧
  -- BUS_FRAME_SENT
  (∀ (bus : Fin 6) (x : LinPend) (s : State), linRuns s bus.val = true → (linAt s bus.val).current = some x →
     x.publish = true →
     exec (.busFrameSent true bus) s = .next (complete (setLin s bus.val { linAt s bus.val with current := none }) BUS x.hdr 2 OK [])) ∧
  -- BUS_TX_TIMEOUT
  (∀ (bus : Fin 6) (x : CanPend) (rest : List CanPend) (s : State), cdUp s = true →
     (canAt s bus.val).pend = x :: rest → lasted s x.since (1000 * s.rd (SUB_CAN_CFG_TX_TMO bus.val)) = true →
     exec (.busTxTimeout false bus) s = .next (sleepDue (complete (setCan s bus.val { canAt s bus.val with pend := rest }) BUS x.hdr 1 TX_TIMEOUT []) bus.val)) ∧
  -- BUS_TX_TIMEOUT
  (∀ (bus : Fin 6) (x : LinPend) (s : State), cdUp s = true → (linAt s bus.val).current = some x →
     lasted s x.since (1000 * s.rd (SUB_LIN_CFG_TX_TMO bus.val)) = true →
     exec (.busTxTimeout true bus) s = .next (complete (setLin s bus.val { linAt s bus.val with current := none }) BUS x.hdr 2 TX_TIMEOUT []))

/-- LIN schedules, responses and sleep. The LIN master and slave tasks: headers, schedule tables, responses, sleep and
wake-up. Each clause names the operands and the states it holds for, concludes that exec answers a next state, and
gives that state whole, or by its frame and what it holds. -/
def Obligations.LinFrames : Prop :=
  -- LIN_TX
  (∀ (h : DHdr) (b : List Byte) (u : State) (s : State), Served s BUS 2 h b → u = begun s BUS 2 h b →
     bodyDirty b ([16, 17, 18, 19] ++ (List.range 8).map (24 + ·)) = false → leAt b 18 1 < 4 → h.ring.val < 2 →
     leAt b 16 1 < 6 → leAt b 17 1 < 64 → 1 ≤ leAt b 19 1 → leAt b 19 1 ≤ 8 →
     ownerOf u 9 (leAt b 16 1) = some h.part.val → u.rd (SUB_LIN_CFG_MODE (leAt b 16 1)) ≠ 1 →
     exec (.linTx h b) s = .next (linKick (setLin u (leAt b 16 1) { linAt u (leAt b 16 1) with insert := (linAt u (leAt b 16 1)).insert ++ [⟨h, leAt b 17 1, bit (leAt b 18 1) 0, bit (leAt b 18 1) 1, leAt b 19 1, slice b 24 (leAt b 19 1), u.now⟩] }) (leAt b 16 1))) ∧
  -- LIN_SCHED
  (∀ (h : DHdr) (b : List Byte) (u : State) (s : State), Served s BUS 4 h b → u = begun s BUS 4 h b →
     bodyDirty b ([16, 17, 18] ++ (List.range 8).map (24 + ·)) = false → h.ring.val < 2 → leAt b 16 1 < 6 →
     leAt b 17 1 = 0 → ownerOf u 9 (leAt b 16 1) = some h.part.val → u.rd (SUB_LIN_CFG_MODE (leAt b 16 1)) ≠ 1 →
     exec (.linSched h b) s = .next (complete (linKick (setLin u (leAt b 16 1) { linAt u (leAt b 16 1) with due := some [] }) (leAt b 16 1)) BUS h 4 OK [])) ∧
  -- LIN_SCHED
  (∀ (h : DHdr) (b : List Byte) (u v : State) (m : List Byte) (s : State), Served s BUS 4 h b →
     u = begun s BUS 4 h b → bodyDirty b ([16, 17, 18] ++ (List.range 8).map (24 + ·)) = false → h.ring.val < 2 →
     leAt b 16 1 < 6 → leAt b 17 1 = 1 → 1 ≤ leAt b 18 1 → leAt b 18 1 ≤ 64 →
     ownerOf u 9 (leAt b 16 1) = some h.part.val → u.rd (SUB_LIN_CFG_MODE (leAt b 16 1)) ≠ 1 → (∀ f,
     withData u BUS h 4 (leAt b 24 8) (4 * leAt b 18 1) f = f v m) →
     (List.range (leAt b 18 1)).all (entryOk m) = true →
     exec (.linSched h b) s = .next (complete (linKick (setLin v (leAt b 16 1) { linAt v (leAt b 16 1) with due := some ((List.range (leAt b 18 1)).map (schedEntry m)) }) (leAt b 16 1)) BUS h 4 OK [])) ∧
  -- LIN_SLOT
  (∀ (bus : Fin 6) (s : State), linRuns s bus.val = true → s.rd (SUB_LIN_CFG_MODE bus.val) = 0 →
     wakeClear s bus.val = true → exec (.linSlot bus) s = .next (linNext (linSlotEnd s bus.val) bus.val)) ∧
  -- LIN_RESP
  (∀ (h : DHdr) (b : List Byte) (u : State) (s : State), Served s BUS 5 h b → u = begun s BUS 5 h b →
     bodyDirty b ([16, 17, 18, 19] ++ (List.range 8).map (24 + ·)) = false → leAt b 18 1 < 4 → h.ring.val < 2 →
     leAt b 16 1 < 6 → leAt b 17 1 < 64 → bit (leAt b 18 1) 0 = false → 1 ≤ leAt b 19 1 → leAt b 19 1 ≤ 8 →
     ownerOf u 9 (leAt b 16 1) = some h.part.val →
     exec (.linResp h b) s = .next (complete (setResp u (leAt b 16 1) (leAt b 17 1) (some (slice b 24 (leAt b 19 1),
     bit (leAt b 18 1) 1))) BUS h 5 OK [])) ∧
  -- LIN_HEADER_RX
  (∀ (bus : Fin 6) (id : Fin 64) (r : List Byte × Bool) (s : State), linRuns s bus.val = true →
     s.rd (SUB_LIN_CFG_MODE bus.val) ≠ 0 → respOf s bus.val id.val = some r →
     exec (.linHeaderRx bus id) s = .next (emit (setLin s bus.val { linAt s bus.val with awaits := none }) (.linResponse bus.val id.val (linClassic id.val r.2) r.1))) ∧
  -- LIN_HEADER_RX
  (∀ (bus : Fin 6) (id : Fin 64) (s : State), linRuns s bus.val = true → s.rd (SUB_LIN_CFG_MODE bus.val) ≠ 0 →
     respOf s bus.val id.val = none →
     exec (.linHeaderRx bus id) s = .next (setLin s bus.val { linAt s bus.val with awaits := some (id.val, 0, linClassic id.val false) })) ∧
  -- LIN_RESPONSE_RX
  (∀ (bus : Fin 6) (data : List Byte) (id len : Nat) (classic : Bool) (s : State), linRuns s bus.val = true →
     (linAt s bus.val).awaits = some (id, len, classic) → 1 ≤ data.length → data.length ≤ 8 →
     (len = 0 ∨ data.length = len) →
     exec (.linResponseRx bus data true) s = .next (linReceive s bus.val id classic data)) ∧
  -- LIN_RESPONSE_RX
  (∀ (bus : Fin 6) (data : List Byte) (id len : Nat) (classic : Bool) (x : LinPend) (s : State),
     linRuns s bus.val = true → (linAt s bus.val).awaits = some (id, len, classic) →
     (linAt s bus.val).current = some x →
     exec (.linResponseRx bus data false) s = .next (complete ((setLin s bus.val { linAt s bus.val with awaits := none, current := none }).bump SUB_CNT3_LIN_ERR 1) BUS x.hdr 2 NO_RESPONSE [])) ∧
  -- LIN_GOTO_SLEEP
  (∀ (bus : Fin 6) (s : State), linRuns s bus.val = true → s.rd (SUB_LIN_CFG_MODE bus.val) ≠ 0 →
     exec (.linGotoSleep bus) s = .next (raise (showLin (setLin s bus.val { linAt s bus.val with asleep := true, awaits := none }) bus.val) 51 false [ownerOr0 s 9 bus.val] [byte bus.val]))

/-- BUS_CTL and the tunnels. BUS_CTL's online, offline, sleep, wake and recover, and the tunnels between buses and
frames. Each clause names the operands and the states it holds for, concludes that exec answers a next state, and
gives that state whole, or by its frame and what it holds. -/
def Obligations.BusControlAndTunnels : Prop :=
  -- ONLINE
  (∀ (h : DHdr) (b : List Byte) (u : State) (s : State), Served s BUS 6 h b → u = begun s BUS 6 h b →
     bodyDirty b [16, 17, 18] = false → h.ring.val < 2 → leAt b 16 1 = 8 → leAt b 17 1 < 4 →
     ownerOf u 8 (leAt b 17 1) = some h.part.val →
     exec (.busOnline h b) s = .next (complete (showCan (setCan u (leAt b 17 1) { canAt u (leAt b 17 1) with asleep := false, offline := false }) (leAt b 17 1)) BUS h 6 OK [])) ∧
  -- ONLINE
  (∀ (h : DHdr) (b : List Byte) (u : State) (s : State), Served s BUS 6 h b → u = begun s BUS 6 h b →
     bodyDirty b [16, 17, 18] = false → h.ring.val < 2 → leAt b 16 1 = 9 → leAt b 17 1 < 6 →
     ownerOf u 9 (leAt b 17 1) = some h.part.val →
     exec (.busOnline h b) s = .next (complete (showLin (setLin u (leAt b 17 1) { linAt u (leAt b 17 1) with asleep := false, offline := false }) (leAt b 17 1)) BUS h 6 OK [])) ∧
  -- OFFLINE
  (∀ (h : DHdr) (b : List Byte) (u : State) (s : State), Served s BUS 6 h b → u = begun s BUS 6 h b →
     bodyDirty b [16, 17, 18] = false → h.ring.val < 2 → leAt b 16 1 = 8 → leAt b 17 1 < 4 →
     ownerOf u 8 (leAt b 17 1) = some h.part.val →
     exec (.busOffline h b) s = .next (complete (showCan (dropIngress (setCan u (leAt b 17 1) { canAt u (leAt b 17 1) with offline := true }) (leAt b 17 1)) (leAt b 17 1)) BUS h 6 OK [])) ∧
  -- OFFLINE
  (∀ (h : DHdr) (b : List Byte) (u : State) (s : State), Served s BUS 6 h b → u = begun s BUS 6 h b →
     bodyDirty b [16, 17, 18] = false → h.ring.val < 2 → leAt b 16 1 = 9 → leAt b 17 1 < 6 →
     ownerOf u 9 (leAt b 17 1) = some h.part.val →
     exec (.busOffline h b) s = .next (complete (showLin (setLin u (leAt b 17 1) { linAt u (leAt b 17 1) with offline := true }) (leAt b 17 1)) BUS h 6 OK [])) ∧
  -- BUS_SLEEP
  (∀ (h : DHdr) (b : List Byte) (u : State) (s : State), Served (freeNext s) BUS 6 h b →
     u = begun (freeNext s) BUS 6 h b → bodyDirty b [16, 17, 18] = false → h.ring.val < 2 → leAt b 16 1 = 8 →
     leAt b 17 1 < 4 → ownerOf u 8 (leAt b 17 1) = some h.part.val → winner s (leAt b 17 1) = none →
     exec (.busSleep h b) s = .next (complete (sleepCan u (leAt b 17 1)) BUS h 6 OK [])) ∧
  -- BUS_SLEEP
  (∀ (h : DHdr) (b : List Byte) (u : State) (s : State), Served (freeNext s) BUS 6 h b →
     u = begun (freeNext s) BUS 6 h b → bodyDirty b [16, 17, 18] = false → h.ring.val < 2 → leAt b 16 1 = 9 →
     leAt b 17 1 < 6 → ownerOf u 9 (leAt b 17 1) = some h.part.val →
     exec (.busSleep h b) s = .next (complete (sleepLin u (leAt b 17 1)) BUS h 6 OK [])) ∧
  -- BUS_WAKE
  (∀ (h : DHdr) (b : List Byte) (u : State) (s : State), Served s BUS 6 h b → u = begun s BUS 6 h b →
     bodyDirty b [16, 17, 18] = false → h.ring.val < 2 → leAt b 16 1 = 9 → leAt b 17 1 < 6 →
     ownerOf u 9 (leAt b 17 1) = some h.part.val →
     exec (.busWake h b) s = .next (complete (emit (setLin u (leAt b 17 1) { linAt u (leAt b 17 1) with wakeAt := some u.now }) (.wakePulse 9 (leAt b 17 1))) BUS h 6 OK [])) ∧
  -- BUS_WAKE
  (∀ (h : DHdr) (b : List Byte) (u : State) (s : State), Served s BUS 6 h b → u = begun s BUS 6 h b →
     bodyDirty b [16, 17, 18] = false → h.ring.val < 2 → leAt b 16 1 = 8 → leAt b 17 1 < 4 →
     ownerOf u 8 (leAt b 17 1) = some h.part.val →
     exec (.busWake h b) s = .next (complete (emit u (.wakePulse 8 (leAt b 17 1))) BUS h 6 OK [])) ∧
  -- RECOVER
  (∀ (h : DHdr) (b : List Byte) (u : State) (s : State), Served s BUS 6 h b → u = begun s BUS 6 h b →
     bodyDirty b [16, 17, 18] = false → h.ring.val < 2 → leAt b 16 1 = 8 → leAt b 17 1 < 4 →
     ownerOf u 8 (leAt b 17 1) = some h.part.val → (canAt u (leAt b 17 1)).off = true →
     exec (.busRecover h b) s = .next (complete (setCan u (leAt b 17 1) { canAt u (leAt b 17 1) with recovering := true }) BUS h 6 OK [])) ∧
  -- TUNNEL_INGRESS
  (∀ (frame : List Byte) (s : State), cdUp s = true → beAt (untag frame) 12 2 ≠ 0x22F0 → ∃ t,
     exec (.tunnelIngress frame) s = .next t ∧ Frame [Reg.PAR_EVT_CNT, Reg.SW_CNT_VAL, Reg.SW_MSEC_STAT,
     Reg.SUB_CNT1, Reg.SUB_CNT2, Reg.SUB_CNT3, Reg.BRD_CNT0, Reg.BRD_CNT1, Reg.BRD_CNT2, Reg.BRD_CNT3,
     Reg.TLY_CNT0] [.records, .owed, .rings, .evt, .queue, .proxies, .loss, .wire, .sub, .brd, .out] s t ∧
     t.rd SUB_CNT1_TUN_NOMATCH = satAdd 16 (s.rd SUB_CNT1_TUN_NOMATCH) 1 ∧ t.out = s.out) ∧
  -- TUNNEL_INGRESS
  (∀ (frame : List Byte) (f : List Byte) (n k : Nat) (s : State), cdUp s = true → f = untag frame →
     beAt f 12 2 = 0x22F0 → leAt f 14 1 = NTSCF → n = beAt f 15 2 % 2048 → 26 + n ≤ f.length →
     (List.range 8).find? (fun k => s.flag (SUB_TUN_CFG_EN k) && s.flag (SUB_TUN_CFG_IN_EN k) && s.rd (SUB_TUN_RX_RX_STREAM k) == beAt f 18 8) = some k →
     (tunAt s k).rxSeq = some (leAt f 17 1) →
     exec (.tunnelIngress frame) s = .next (((acfSplit n (slice f 26 n)).foldl (ingressMsg k) (setTun s k { tunAt s k with rxSeq := some ((leAt f 17 1 + 1) % 256) },
     none)).1)) ∧
  -- TUNNEL_FLUSH
  (∀ (tun : Fin 8) (s : State), cdUp s = true → exec (.tunnelFlush tun) s = .next (tunSend s tun.val))

/-- Namespaces, mounting and the health of the store. Creating, deleting and mounting namespaces, and wear and health of
the store. Each clause names the operands and the states it holds for, concludes that exec answers a next state, and
gives that state whole, or by its frame and what it holds. -/
def Obligations.StoreNamespaces : Prop :=
  -- NS_CREATE
  (∀ (s : State), cdUp s = true → s.flag PAR_SEAL_STATUS_SEALED = false → s.rd STO_NS_SEL_NS < 14 →
     nsAt s (s.rd STO_NS_SEL_NS) = none → s.rd STO_NS_CFG_EXTENTS ≠ 0 → s.rd STO_NS_CFG_EXTENTS ≤ freeExtents s →
     ∃ t, exec (.nsCreate .p0) s = .next t ∧ Frame [Reg.PAR_SEAL_STATUS, Reg.PAR_EVT_CNT, Reg.SW_CNT_VAL,
     Reg.SW_MSEC_STAT, Reg.STO_NS_STATUS, Reg.STO_NS_INFO, Reg.STO_NS_BLOCKS, Reg.STO_FREE, Reg.STO_NS_WEAR,
     Reg.TLY_CNT0] [.records, .owed, .rings, .evt, .queue, .proxies, .loss, .wire, .sto, .out] s t ∧
     t.rd STO_NS_STATUS_RESULT = 1 ∧
     tabFind t.sto.ns (s.rd STO_NS_SEL_NS) = some ⟨s.rd STO_NS_CFG_EXTENTS, s.flag STO_NS_CFG_CELL, s.flag STO_NS_CFG_DUR, s.flag STO_NS_CFG_RET, s.flag STO_NS_CFG_WB_EN⟩) ∧
  -- NS_CREATE
  (∀ (s : State), cdUp s = true → s.flag PAR_SEAL_STATUS_SEALED = true → ∃ t, exec (.nsCreate .p0) s = .next t ∧
     Frame [Reg.PAR_SEAL_STATUS, Reg.PAR_EVT_CNT, Reg.SW_CNT_VAL, Reg.SW_MSEC_STAT, Reg.STO_NS_STATUS,
     Reg.STO_NS_INFO, Reg.STO_NS_BLOCKS, Reg.STO_FREE, Reg.STO_NS_WEAR, Reg.TLY_CNT0] [.records, .owed, .rings, .evt,
     .queue, .proxies, .loss, .wire, .sto, .out] s t ∧ t.rd STO_NS_STATUS_RESULT = 2 ∧ t.sto.ns = s.sto.ns) ∧
  -- NS_DELETE
  (∀ (v : State) (s : State), cdUp s = true → s.flag PAR_SEAL_STATUS_SEALED = false → s.rd STO_NS_SEL_NS < 14 →
     nsAt s (s.rd STO_NS_SEL_NS) ≠ none → nsBusy s (s.rd STO_NS_SEL_NS) = false →
     v = setHealth s (s.rd STO_NS_SEL_NS) (0, 0, false) 4 →
     exec (.nsDelete .p0) s = .next (nsReport { v with sto := { v.sto with ns := tabDel v.sto.ns (s.rd STO_NS_SEL_NS), blocks := tabKeep (fun k => keyNs k != s.rd STO_NS_SEL_NS) v.sto.blocks, ebs := tabKeep (fun k => keyNs k != s.rd STO_NS_SEL_NS) v.sto.ebs, unsaved := tabDel v.sto.unsaved (s.rd STO_NS_SEL_NS) } } 1)) ∧
  -- STORE_MOUNT
  (∀ (t0 : Int) (weak : List (Nat × Nat × Nat)) (s : State), cdUp s = true → s.sto.mounted = [] → ∃ t,
     exec (.storeMount t0 weak) s = .next t ∧ Frame [Reg.PAR_EVT_CNT, Reg.SW_CNT_VAL, Reg.SW_MSEC_STAT,
     Reg.STO_NS_INFO, Reg.STO_NS_BLOCKS, Reg.STO_FREE, Reg.STO_HEALTH, Reg.STO_NS_WEAR, Reg.TLY_CNT0] [.records,
     .owed, .rng, .rings, .evt, .queue, .proxies, .loss, .wire, .sto, .out] s t ∧ t.sto.mounted = List.range 16 ∧
     t.sto.unsaved = [] ∧ t.sto.offExit = false ∧ t.sto.rtcStart = rtc s) ∧
  -- CHECKPOINT
  (∀ (ns : Fin 16) (x : NsEnt) (s : State), cdUp s = true → nsAt s ns.val = some x → x.journal = false →
     mounted s ns.val = true →
     lasted s (tabGet 0 s.sto.savedAt ns.val) (1000000 * s.rd STO_MEDIA_CFG_CKPT_INT) = true → ∃ t,
     exec (.checkpoint ns) s = .next t ∧ Frame [] [.sto] s t ∧ t.sto.unsaved = tabDel s.sto.unsaved ns.val ∧
     t.sto.blocks = s.sto.blocks) ∧
  -- JOURNAL_FLUSH
  (∀ (ns : Fin 16) (x : NsEnt) (s : State), cdUp s = true → nsAt s ns.val = some x → x.journal = true →
     mounted s ns.val = true → lasted s (tabGet 0 s.sto.savedAt ns.val) (1000 * s.rd STO_MEDIA_CFG_JRNL_INT) = true →
     ∃ t, exec (.journalFlush ns) s = .next t ∧ Frame [] [.sto] s t ∧ t.sto.unsaved = tabDel s.sto.unsaved ns.val ∧
     t.sto.blocks = s.sto.blocks) ∧
  -- RETENTION_UPDATE
  (∀ (t0 : Int) (s : State), mediaRuns s = true → exec (.retentionUpdate t0) s = .next (ageBlocks s 327680 t0)) ∧
  -- REFRESH
  (∀ (ns : Fin 16) (src : Nat) (dst : Nat) (e : EraseBlk) (s : State), mediaRuns s = true →
     tabFind s.sto.ebs (ebKey ns.val src) = some e → e.queued = 1 → tabFind s.sto.ebs (ebKey ns.val dst) = none →
     exec (.refresh ns src dst) s = .next (moveEb s ns.val src dst)) ∧
  -- GARBAGE_COLLECTION
  (∀ (ns : Fin 16) (src : Nat) (dst : Nat) (freePm : Nat) (spares : Fin 101) (wear : Nat) (v : State) (s : State),
     mediaRuns s = true → src ≠ dst →
     v = ((moveEb s ns.val src dst).put STO_HEALTH_GC_ACTIVE (decide (freePm < 80))).wr STO_HEALTH_SPARES spares.val →
     exec (.garbageCollection ns src dst freePm spares wear) s = .next (checkAll { v with sto := { v.sto with health := tabSet (0, 0, false) v.sto.health ns.val ((healthOf v ns.val).1, wear, (healthOf v ns.val).2.2) } }))

/-- STO descriptors and their completion. READ, WRITE, ATOMIC, TRIM, FLUSH and STATUS of the store, their completion and
the drain of the write-back buffer. Each clause names the operands and the states it holds for, concludes that exec
answers a next state, and gives that state whole, or by its frame and what it holds. -/
def Obligations.StoreCommands : Prop :=
  -- READ
  (∀ (h : DHdr) (b : List Byte) (u : State) (a : Nat) (s : State), Served s STO 1 h b → u = begun s STO 1 h b →
     bodyDirty b ([16, 17, 20, 21, 22, 23] ++ (List.range 16).map (24 + ·)) = false →
     ownerOf u 10 (leAt b 16 1) = some h.part.val → nsAt u (leAt b 16 1) ≠ none → 1 ≤ leAt b 20 4 →
     leAt b 20 4 ≤ 256 → leAt b 17 1 = 0 → leAt b 32 8 % 64 = 0 →
     leAt b 24 8 + leAt b 20 4 ≤ nsSize u (leAt b 16 1) → homeOf u h.part.val ≠ 2 →
     translate u h.part.val (leAt b 32 8) (4096 * leAt b 20 4) 1 = some a → u.sto.lost = false →
     exec (.stoRead h b) s = .next (startSto (u) ⟨h, 1, (leAt b 16 1), leAt b 24 8, leAt b 20 4, (List.range (leAt b 20 4)).map (fun i => viewBlk u (leAt b 16 1) (leAt b 24 8 + i)), false, a⟩)) ∧
  -- WRITE
  (∀ (h : DHdr) (b : List Byte) (u : State) (a : Nat) (s : State), Served s STO 2 h b → u = begun s STO 2 h b →
     bodyDirty b ([16, 17, 20, 21, 22, 23] ++ (List.range 16).map (24 + ·)) = false →
     ownerOf u 10 (leAt b 16 1) = some h.part.val → nsAt u (leAt b 16 1) ≠ none → 1 ≤ leAt b 20 4 →
     leAt b 20 4 ≤ 256 → leAt b 17 1 < 2 → leAt b 32 8 % 64 = 0 →
     leAt b 24 8 + leAt b 20 4 ≤ nsSize u (leAt b 16 1) → homeOf u h.part.val ≠ 2 →
     translate u h.part.val (leAt b 32 8) (4096 * leAt b 20 4) 0 = some a → u.sto.lost = false →
     readOnly u (leAt b 16 1) = false → ((healthOf u (leAt b 16 1)).2.2 = true →
     mapsNew u (leAt b 16 1) (leAt b 24 8) (leAt b 20 4) = false) →
     exec (.stoWrite h b) s = .next (startSto ((slotsHit (leAt b 16 1) (leAt b 24 8) (leAt b 20 4)).foldl unverify u) ⟨h, 2, (leAt b 16 1), leAt b 24 8, leAt b 20 4, toBlks (readBytes u a (4096 * leAt b 20 4)) (leAt b 20 4), leAt b 17 1 == 1 && wbGranted u (leAt b 16 1) (leAt b 20 4), a⟩)) ∧
  -- WRITE_ATOMIC
  (∀ (h : DHdr) (b : List Byte) (u : State) (a : Nat) (s : State), Served s STO 3 h b → u = begun s STO 3 h b →
     bodyDirty b ([16, 17, 20, 21, 22, 23] ++ (List.range 16).map (24 + ·)) = false →
     ownerOf u 10 (leAt b 16 1) = some h.part.val → nsAt u (leAt b 16 1) ≠ none → 1 ≤ leAt b 20 4 →
     leAt b 20 4 ≤ 64 → leAt b 17 1 = 0 → leAt b 32 8 % 64 = 0 → leAt b 24 8 + leAt b 20 4 ≤ nsSize u (leAt b 16 1) →
     homeOf u h.part.val ≠ 2 → translate u h.part.val (leAt b 32 8) (4096 * leAt b 20 4) 0 = some a →
     u.sto.lost = false → readOnly u (leAt b 16 1) = false → ((healthOf u (leAt b 16 1)).2.2 = true →
     mapsNew u (leAt b 16 1) (leAt b 24 8) (leAt b 20 4) = false) →
     exec (.stoWriteAtomic h b) s = .next (startSto ((slotsHit (leAt b 16 1) (leAt b 24 8) (leAt b 20 4)).foldl unverify u) ⟨h, 3, (leAt b 16 1), leAt b 24 8, leAt b 20 4, toBlks (readBytes u a (4096 * leAt b 20 4)) (leAt b 20 4), false, a⟩)) ∧
  -- TRIM
  (∀ (h : DHdr) (b : List Byte) (u : State) (s : State), Served s STO 4 h b → u = begun s STO 4 h b →
     bodyDirty b ([16, 17, 20, 21, 22, 23] ++ (List.range 16).map (24 + ·)) = false →
     ownerOf u 10 (leAt b 16 1) = some h.part.val → nsAt u (leAt b 16 1) ≠ none → 1 ≤ leAt b 20 4 →
     leAt b 20 4 ≤ 16777216 → leAt b 17 1 = 0 → leAt b 32 8 = 0 →
     leAt b 24 8 + leAt b 20 4 ≤ nsSize u (leAt b 16 1) → u.sto.lost = false → readOnly u (leAt b 16 1) = false →
     exec (.stoTrim h b) s = .next (startSto (u) ⟨h, 4, (leAt b 16 1), leAt b 24 8, leAt b 20 4, [], false, 0⟩)) ∧
  -- FLUSH
  (∀ (h : DHdr) (b : List Byte) (u : State) (s : State), Served s STO 5 h b → u = begun s STO 5 h b →
     bodyDirty b [16] = false → (leAt b 16 1) ≠ 255 → ownerOf u 10 (leAt b 16 1) = some h.part.val →
     nsAt u (leAt b 16 1) ≠ none → u.sto.lost = false →
     exec (.stoFlush h b) s = .next (endFlushes { u with sto := { u.sto with flushes := u.sto.flushes ++ [(h, (u.sto.dirty.filter (fun e => keyNs e.1 == (leAt b 16 1))).map (fun e => e.1), 0)] } })) ∧
  -- STO_STATUS
  (∀ (h : DHdr) (b : List Byte) (u : State) (s : State), Served s STO 6 h b → u = begun s STO 6 h b →
     bodyDirty b [16] = false → ownerOf u 10 (leAt b 16 1) = some h.part.val → nsAt u (leAt b 16 1) ≠ none →
     u.sto.lost = false → mounted u (leAt b 16 1) = true →
     exec (.stoStatus h b) s = .next (complete u STO h 6 OK (statusResult u (leAt b 16 1)))) ∧
  -- STO_COMMAND_COMPLETE
  (∀ (i : Nat) (eb : Nat) (weak : List (Nat × Nat)) (j : StoJob) (v : State) (s : State), cdUp s = true →
     s.sto.jobs[i]? = some j → mounted s j.ns = true → s.sto.lost = false →
     (s.sto.jobs.take i).any (fun x => writes x && meets x j) = false → (j.op = 2 ∨ j.op = 3 ∨ j.op = 4) →
     v = { s with sto := { s.sto with jobs := s.sto.jobs.eraseIdx i } } →
     exec (.stoCommandComplete i none eb weak) s = .next (complete (applySto v j eb) STO j.hdr j.op OK (stoResult j.op j.count j.wb none))) ∧
  -- STO_COMMAND_COMPLETE
  (∀ (i : Nat) (fail : Option Nat) (eb : Nat) (weak : List (Nat × Nat)) (j : StoJob) (k : Nat) (s : State),
     cdUp s = true → s.sto.jobs[i]? = some j → mounted s j.ns = true → s.sto.lost = false →
     (s.sto.jobs.take i).any (fun x => writes x && meets x j) = false → j.op ≠ 6 → fail = some k → k < j.count →
     exec (.stoCommandComplete i fail eb weak) s = .next (failSto { s with sto := { s.sto with jobs := s.sto.jobs.eraseIdx i } } j k)) ∧
  -- WB_DRAIN
  (∀ (n : Nat) (eb : Nat) (s : State), cdUp s = true → s.sto.lost = false → drainDue s = true →
     exec (.wbDrain n false eb) s = .next (drain s (oldestN n s.sto.dirty) eb)) ∧
  -- WB_DRAIN
  (∀ (n : Nat) (eb : Nat) (s : State), cdUp s = true → s.sto.lost = false → drainDue s = true →
     exec (.wbDrain n true eb) s = .next (loseBuffered s ((oldestN n s.sto.dirty).map (fun e => e.1)) 2))

/-- The power-loss sequence and the hold-up measurement. A declared power fail and its steps in order, the stop at the
hold-up's end, the input's return, and the hold-up measurement with its grant. Each clause names the operands and the
states it holds for, concludes that exec answers a next state, and gives that state whole, or by its frame and what
it holds. -/
def Obligations.PowerLossSequence : Prop :=
  -- POWER_FAIL
  (∀ (mv : Nat) (heldUs : Nat) (hold : Nat) (s : State), s.sto.failing = false → s.sto.inputLow = false → mv < 4800 →
     20 ≤ heldUs → ∃ t, exec (.powerFail mv heldUs hold) s = .next t ∧ Frame [Reg.PAR_EVT_CNT, Reg.ACT_CNT,
     Reg.HS_STATE, Reg.HB_STATE, Reg.SV_STATE, Reg.SV_KRES, Reg.SV_CNT2, Reg.LED_STATE, Reg.FIO_CAUSE,
     Reg.SW_CNT_VAL, Reg.SW_MSEC_STAT, Reg.STO_WB_STATUS, Reg.STO_PF_CNT, Reg.TLY_CNT0] [.records, .freeCtr, .pwr,
     .owed, .rng, .rings, .evt, .queue, .proxies, .act, .chs, .loss, .wire, .inf, .sto, .out] s t ∧
     t.sto.failing = true ∧ t.sto.step = 2 ∧ t.sto.jobs = [] ∧ t.sto.flushes = [] ∧ t.rng.work = [] ∧
     t.inf.jobs = [] ∧ t.pwr.armed = false ∧ t.rd STO_PF_CNT_PF_EVENTS = satAdd 16 (s.rd STO_PF_CNT_PF_EVENTS) 1) ∧
  -- POWER_FAIL_STEP_DONE
  (∀ (s : State), s.sto.failing = true → s.sto.step = 2 → ∃ t, exec .powerFailStepDone s = .next t ∧ t.sto.step = 3 ∧
     t.sto.failing = true ∧ t.chs = s.chs) ∧
  -- POWER_FAIL_STEP_DONE
  (∀ (s : State), s.sto.failing = true → s.sto.step = 3 → s.sto.lost = false → ∃ t,
     exec .powerFailStepDone s = .next t ∧ t.sto.step = 4) ∧
  -- POWER_FAIL_STEP_DONE
  (∀ (s : State), s.sto.failing = true → s.sto.step = 4 → s.sto.lost = false → ∃ t,
     exec .powerFailStepDone s = .next t ∧ t.sto.step = 5 ∧ t.sto.unsaved = []) ∧
  -- POWER_FAIL_STEP_DONE
  (∀ (s : State), s.sto.failing = true → s.sto.step = 5 → exec .powerFailStepDone s = .next (endSequence s 1)) ∧
  -- HOLD_STOP
  (∀ (mv : Nat) (drained : Nat) (s : State), s.sto.failing = true → atStop s mv = true → s.sto.step = 4 →
     exec (.holdStop mv drained) s = .next (endSequence { ((s.sto.dirty.map (fun e => e.1)).foldl losePf s).bump STO_PF_CNT_PF_LOST s.sto.dirty.length with sto := { ((s.sto.dirty.map (fun e => e.1)).foldl losePf s).sto with dirty := [], pfLost := s.sto.dirty.length }, tly := { ((s.sto.dirty.map (fun e => e.1)).foldl losePf s).tly with queue := keepReserve ((s.sto.dirty.map (fun e => e.1)).foldl losePf s).tly.queue } } 2)) ∧
  -- PRE_REGULATOR_INPUT_RETURN
  (∀ (mv : Nat) (heldUs : Nat) (s : State), s.sto.inputLow = true → s.sto.failing = true → 6000 < mv →
     10000 ≤ heldUs → ∃ t, exec (.preRegulatorInputReturn mv heldUs) s = .next t ∧ Frame [] [.pwr, .sto] s t ∧
     t.sto.inputLow = false ∧ t.sto.failing = true ∧ t.pwr = s.pwr) ∧
  -- PRE_REGULATOR_INPUT_RETURN
  (∀ (mv : Nat) (heldUs : Nat) (s : State), s.sto.inputLow = true → s.sto.failing = false → 6000 < mv →
     10000 ≤ heldUs → s.pwr.seq = none → (s.pwr.ps == .sparOnly) = false → s.flag EVT_CDLOSS_HALTED = false →
     exec (.preRegulatorInputReturn mv heldUs) s = .next (startSeq { s with sto := { s.sto with inputLow := false } } .restart (s.rd WAK_REASON_CODE) (s.rd WAK_REASON_INDEX))) ∧
  -- HOLDUP_MEASURE
  (∀ (vh : Nat) (cap : Nat) (esr : Nat) (g : Nat) (s : State), cdUp s = true → s.rd STO_HOLD_MEAS_MRESULT = 0 →
     s.sto.holdLate = false → 47 ≤ cap → cap ≤ 10000 → esr ≤ 4000 →
     g = grantOf vh cap esr (s.rd STO_HOLD_CFG_WB_CAP) → 16 ≤ g → ∃ t,
     exec (.holdupMeasure vh cap esr false) s = .next t ∧ Frame [Reg.PAR_EVT_CNT, Reg.SW_CNT_VAL, Reg.SW_MSEC_STAT,
     Reg.STO_WB_STATUS, Reg.STO_HOLD_MEAS, Reg.TLY_CNT0] [.records, .owed, .rings, .evt, .queue, .proxies, .loss,
     .wire, .sto, .out] s t ∧ t.rd STO_HOLD_MEAS_MRESULT = 1 ∧ t.rd STO_HOLD_MEAS_C_MEAS = cap ∧
     t.rd STO_HOLD_MEAS_ESR_MEAS = esr ∧ t.flag STO_WB_STATUS_WB_OK = true ∧ t.rd STO_WB_STATUS_GRANT = g % 2 ^ 13) ∧
  -- HOLD_LOW
  (∀ (mv : Nat) (heldUs : Nat) (s : State), s.sto.inputLow = false → s.flag STO_HEALTH_HOLD_LOW = false →
     10 * mv < 9 * s.sto.vh → 1000 ≤ heldUs →
     exec (.holdLow mv heldUs) s = .next (holdupEvent (s.put STO_HEALTH_HOLD_LOW true))) ∧
  -- HOLD_LOW
  (∀ (mv : Nat) (heldUs : Nat) (s : State), s.sto.inputLow = false → s.flag STO_HEALTH_HOLD_LOW = true →
     95 * s.sto.vh < 100 * mv → 100000 ≤ heldUs →
     exec (.holdLow mv heldUs) s = .next (s.put STO_HEALTH_HOLD_LOW false))

/-- Random numbers and the health of their source. SEC_RANDOM answers drawn bytes when seeded and waits otherwise; the
waiting time out; the health tests of the source, its reseed and the stored seed. Each clause names the operands and
the states it holds for, concludes that exec answers a next state, and gives that state whole, or by its frame and
what it holds. -/
def Obligations.Entropy : Prop :=
  -- RANDOM
  (∀ (h : DHdr) (b : List Byte) (u : State) (a : Nat) (s : State), Served s SEC 1 h b → u = begun s SEC 1 h b →
     bodyDirty b ([16, 20, 21, 22, 23] ++ addrs 1) = false → leAt b 16 1 < 2 → 1 ≤ leAt b 20 4 → leAt b 20 4 ≤ 4096 →
     translate u h.part.val (leAt b 24 8) (leAt b 20 4) 1 = some a → seeded u = true →
     exec (.secRandom h b) s = .next (secOut (freeNext { u with sec := { u.sec with requests := u.sec.requests + 1 } }) h 1 a (randomBytes u (leAt b 20 4)))) ∧
  -- RANDOM
  (∀ (h : DHdr) (b : List Byte) (u : State) (a : Nat) (s : State), Served s SEC 1 h b → u = begun s SEC 1 h b →
     bodyDirty b ([16, 20, 21, 22, 23] ++ addrs 1) = false → leAt b 16 1 = 0 → 1 ≤ leAt b 20 4 → leAt b 20 4 ≤ 4096 →
     translate u h.part.val (leAt b 24 8) (leAt b 20 4) 1 = some a → seeded u = false →
     exec (.secRandom h b) s = .next ({ u with sec := { u.sec with held := u.sec.held ++ [⟨h, a, leAt b 20 4, u.now⟩] } })) ∧
  -- ENTROPY_TIMEOUT
  (∀ (x : RandHeld) (rest : List RandHeld) (s : State), cdUp s = true → s.sec.held = x :: rest →
     lasted s x.since 20000 = true →
     exec .entropyTimeout s = .next (secEnd { s with sec := { s.sec with held := rest } } x.hdr 1 ENTROPY_TIMEOUT)) ∧
  -- TRNG_STARTUP_DONE
  (∀ (ms : Nat) (s : State), cdUp s = true → s.rd SEC_STATUS_TRNG ≠ 1 → s.sec.fails < 3 → s.sec.held = [] →
     s.rd SEC_STATUS_DRBG ≠ 1 → s.rd SEC_STATUS_LIVE_MS = 0 → ∃ t, exec (.trngStartupDone true ms) s = .next t ∧
     Frame [Reg.PAR_EVT_CNT, Reg.SW_CNT_VAL, Reg.SW_MSEC_STAT, Reg.SEC_STATUS, Reg.SEC_CNT, Reg.TLY_CNT0] [.memory,
     .records, .freeCtr, .owed, .banks, .rng, .rings, .evt, .queue, .proxies, .loss, .wire, .sec, .out] s t ∧
     t.rd SEC_STATUS_TRNG = 1 ∧ t.rd SEC_STATUS_DRBG = 1 ∧ t.rd SEC_STATUS_LIVE_MS = min ms 255 ∧ t.sec.fails = 0) ∧
  -- TRNG_STARTUP_DONE
  (∀ (ms : Nat) (s : State), cdUp s = true → s.rd SEC_STATUS_TRNG ≠ 1 → s.sec.fails + 1 < 3 → ∃ t,
     exec (.trngStartupDone false ms) s = .next t ∧ Frame [Reg.PAR_EVT_CNT, Reg.SW_CNT_VAL, Reg.SW_MSEC_STAT,
     Reg.SEC_STATUS, Reg.SEC_CNT, Reg.TLY_CNT0] [.memory, .records, .freeCtr, .owed, .banks, .rng, .rings, .evt,
     .queue, .proxies, .loss, .wire, .sec, .out] s t ∧ t.sec.fails = s.sec.fails + 1 ∧
     t.rd SEC_STATUS_TRNG = s.rd SEC_STATUS_TRNG ∧ t.rd SEC_CNT_HEALTH_FAILS = satAdd 16 (s.rd SEC_CNT_HEALTH_FAILS) 1) ∧
  -- SEED_REWRITE
  (∀ (s : State), cdUp s = true → seeded s = true →
     exec .seedRewrite s = .next (setKey (freeNext s) 7 (randomBytes s 32))) ∧
  -- TRNG_CONTINUOUS_FAIL
  (∀ (s : State), cdUp s = true → s.rd SEC_STATUS_TRNG = 1 → ∃ t, exec .trngContinuousFail s = .next t ∧
     Frame [Reg.PAR_EVT_CNT, Reg.SW_CNT_VAL, Reg.SW_MSEC_STAT, Reg.SEC_STATUS, Reg.SEC_CNT, Reg.TLY_CNT0] [.records,
     .owed, .rings, .evt, .queue, .proxies, .loss, .wire, .sec, .out] s t ∧ t.rd SEC_STATUS_TRNG = 2 ∧
     t.rd SEC_STATUS_DRBG = s.rd SEC_STATUS_DRBG % 4 ∧ t.sec.fails = 0 ∧
     t.rd SEC_CNT_HEALTH_FAILS = satAdd 16 (s.rd SEC_CNT_HEALTH_FAILS) 1) ∧
  -- RESEED_DUE
  (∀ (s : State), cdUp s = true → s.rd SEC_STATUS_DRBG = 1 → s.rd SEC_STATUS_TRNG ≠ 1 →
     s.rd SEC_CFG_RESEED_N ≤ s.sec.requests → ∃ t, exec .reseedDue s = .next t ∧ Frame [Reg.PAR_EVT_CNT,
     Reg.SW_CNT_VAL, Reg.SW_MSEC_STAT, Reg.SEC_STATUS, Reg.TLY_CNT0] [.records, .owed, .rings, .evt, .queue,
     .proxies, .loss, .wire, .sec, .out] s t ∧ t.rd SEC_STATUS_DRBG = 2)

/-- Ciphers, hashes and signatures of the vault. What AES-GCM, SHA-256, HKDF, ECDSA, ML-DSA and CMAC descriptors complete
with when their fields, keys and ranges are good; the algorithms themselves are opaque (log entry 2). Each clause
names the operands and the states it holds for, concludes that exec answers a next state, and gives that state whole,
or by its frame and what it holds. -/
def Obligations.Ciphers : Prop :=
  -- AES_GCM
  (∀ (h : DHdr) (b : List Byte) (u : State) (v w : State) (a : Nat) (src iva : List Byte) (s : State),
     Served s SEC 2 h b → u = begun s SEC 2 h b → homeOf u h.part.val ≠ 2 → bodyDirty b ([16, 17, 18, 19, 20, 21, 22,
     23] ++ addrs 3) = false → leAt b 16 1 = 0 → leAt b 18 2 ≤ 1024 → leAt b 20 4 ≤ 65536 →
     keyAllowed u h.part.val (leAt b 17 1) = true → (∀ f, withIn u h 2 (leAt b 24 8) (leAt b 20 4) f = f v src) →
     translate v h.part.val (leAt b 32 8) (leAt b 20 4 + 16) 1 = some a → (∀ f,
     withIn v h 2 (leAt b 40 8) (12 + leAt b 18 2) f = f w iva) →
     exec (.secAesGcm h b) s = .next (secOut w h 2 a (padTo (leAt b 20 4 + 16) (Config.gcmSeal (keyAt w (leAt b 17 1)) (iva.take 12) (iva.drop 12) src)))) ∧
  -- AES_GCM
  (∀ (h : DHdr) (b : List Byte) (u : State) (v w : State) (a : Nat) (src iva : List Byte) (s : State),
     Served s SEC 2 h b → u = begun s SEC 2 h b → homeOf u h.part.val ≠ 2 → bodyDirty b ([16, 17, 18, 19, 20, 21, 22,
     23] ++ addrs 3) = false → leAt b 16 1 = 1 → leAt b 18 2 ≤ 1024 → 1 ≤ leAt b 20 4 → leAt b 20 4 ≤ 65536 →
     keyAllowed u h.part.val (leAt b 17 1) = true → (∀ f,
     withIn u h 2 (leAt b 24 8) (leAt b 20 4 + 16) f = f v src) →
     translate v h.part.val (leAt b 32 8) (leAt b 20 4) 1 = some a → (∀ f,
     withIn v h 2 (leAt b 40 8) (12 + leAt b 18 2) f = f w iva) →
     exec (.secAesGcm h b) s = .next (match Config.gcmOpen (keyAt w (leAt b 17 1)) (iva.take 12) (iva.drop 12) src with | some d => secOut w h 2 a (padTo (leAt b 20 4) d) | none => secEnd w h 2 VERIFY_FAIL)) ∧
  -- SHA256
  (∀ (h : DHdr) (b : List Byte) (u : State) (v : State) (a : Nat) (src : List Byte) (s : State), Served s SEC 3 h b →
     u = begun s SEC 3 h b → bodyDirty b ([20, 21, 22, 23] ++ addrs 2) = false → leAt b 20 4 ≤ 16777216 → (∀ f,
     withIn u h 3 (leAt b 24 8) (leAt b 20 4) f = f v src) → translate v h.part.val (leAt b 32 8) 32 1 = some a →
     exec (.secSha256 h b) s = .next (secOut v h 3 a (sha src))) ∧
  -- HKDF
  (∀ (h : DHdr) (b : List Byte) (u : State) (v : State) (d : List Byte) (s : State), Served s SEC 4 h b →
     u = begun s SEC 4 h b → homeOf u h.part.val ≠ 2 → bodyDirty b ([16, 17, 18, 19, 20, 21] ++ addrs 1) = false →
     16 ≤ leAt b 17 1 → leAt b 17 1 ≤ 31 → (leAt b 18 1 = 16 ∨ leAt b 18 1 = 32) → leAt b 19 1 ≤ 64 →
     leAt b 20 2 ≤ 255 → keyAllowed u h.part.val (leAt b 16 1) = true → mayWrite u h.part.val (leAt b 17 1) = true →
     (∀ f, withIn u h 4 (leAt b 24 8) (leAt b 19 1 + leAt b 20 2) f = f v d) →
     exec (.secHkdf h b) s = .next (secEnd (setVolatile v h.part.val (leAt b 17 1) (padTo (leAt b 18 1) (Config.hkdf (keyAt v (leAt b 16 1)) (d.take (leAt b 19 1)) (d.drop (leAt b 19 1)) (leAt b 18 1)))) h 4 OK)) ∧
  -- ECDSA_SIGN
  (∀ (h : DHdr) (b : List Byte) (u : State) (v : State) (a : Nat) (d : List Byte) (s : State), Served s SEC 5 h b →
     u = begun s SEC 5 h b → homeOf u h.part.val ≠ 2 → bodyDirty b (addrs 2) = false → slotFilled u 0 = true →
     bit (u.rd (SEC_KEY_USE_PARTS 0)) h.part.val = true → (∀ f, withIn u h 5 (leAt b 24 8) 32 f = f v d) →
     translate v h.part.val (leAt b 32 8) 64 1 = some a →
     exec (.secEcdsaSign h b) s = .next (secOut (freeNext v) h 5 a (padTo 64 (Config.ecdsaSign v.freeCtr (keyAt v 0) d)))) ∧
  -- ECDSA_VERIFY
  (∀ (h : DHdr) (b : List Byte) (u : State) (v w x : State) (pub d sig : List Byte) (s : State), Served s SEC 6 h b →
     u = begun s SEC 6 h b → bodyDirty b (addrs 3) = false → (∀ f, withIn u h 6 (leAt b 24 8) 65 f = f v pub) → (∀ f,
     withIn v h 6 (leAt b 32 8) 32 f = f w d) → (∀ f, withIn w h 6 (leAt b 40 8) 64 f = f x sig) →
     exec (.secEcdsaVerify h b) s = .next (secEnd x h 6 (if Config.ecdsaVerify pub d sig then OK else VERIFY_FAIL))) ∧
  -- MLDSA_VERIFY
  (∀ (h : DHdr) (b : List Byte) (u : State) (v w x y : State) (msg pub sig ctx : List Byte) (s : State),
     Served s SEC 7 h b → u = begun s SEC 7 h b → bodyDirty b ([17, 20, 21, 22, 23] ++ addrs 4) = false →
     leAt b 20 4 ≤ 65536 → (∀ f, withIn u h 7 (leAt b 24 8) (leAt b 20 4) f = f v msg) → (∀ f,
     withIn v h 7 (leAt b 32 8) 1952 f = f w pub) → (∀ f, withIn w h 7 (leAt b 40 8) 3309 f = f x sig) → (∀ f,
     withIn x h 7 (leAt b 48 8) (leAt b 17 1) f = f y ctx) →
     exec (.secMldsaVerify h b) s = .next (secEnd y h 7 (if Config.mldsaVerify pub msg ctx sig then OK else VERIFY_FAIL))) ∧
  -- CMAC
  (∀ (h : DHdr) (b : List Byte) (u : State) (v : State) (a : Nat) (d : List Byte) (s : State), Served s SEC 10 h b →
     u = begun s SEC 10 h b → homeOf u h.part.val ≠ 2 → bodyDirty b ([17, 20, 21, 22, 23] ++ addrs 2) = false →
     leAt b 20 4 ≤ 65536 → keyAllowed u h.part.val (leAt b 17 1) = true → (∀ f,
     withIn u h 10 (leAt b 24 8) (leAt b 20 4) f = f v d) → translate v h.part.val (leAt b 32 8) 16 1 = some a →
     exec (.secCmac h b) s = .next (secOut v h 10 a (beBytes 16 (Config.cmac (keyAt v (leAt b 17 1)) d).toNat)))

/-- Keys and MACsec associations of the vault. Loading, clearing and provisioning keys, with who may and before seal
only; the public key; MACsec associations are installed and retired. Each clause names the operands and the states it
holds for, concludes that exec answers a next state, and gives that state whole, or by its frame and what it holds. -/
def Obligations.VaultKeys : Prop :=
  -- KEY_LOAD
  (∀ (h : DHdr) (b : List Byte) (u : State) (v : State) (key : List Byte) (s : State), Served s SEC 8 h b →
     u = begun s SEC 8 h b → homeOf u h.part.val ≠ 2 → bodyDirty b ([16, 17] ++ addrs 1) = false → 16 ≤ leAt b 16 1 →
     leAt b 16 1 ≤ 31 → (leAt b 17 1 = 16 ∨ leAt b 17 1 = 32) → mayWrite u h.part.val (leAt b 16 1) = true → (∀ f,
     withIn u h 8 (leAt b 24 8) (leAt b 17 1) f = f v key) →
     exec (.secKeyLoad h b) s = .next (secEnd (setVolatile v h.part.val (leAt b 16 1) key) h 8 OK)) ∧
  -- KEY_LOAD
  (∀ (h : DHdr) (b : List Byte) (u : State) (s : State), Served s SEC 8 h b → u = begun s SEC 8 h b →
     homeOf u h.part.val ≠ 2 → bodyDirty b ([16, 17] ++ addrs 1) = false → 16 ≤ leAt b 16 1 → leAt b 16 1 ≤ 31 →
     (leAt b 17 1 = 16 ∨ leAt b 17 1 = 32) → mayWrite u h.part.val (leAt b 16 1) = false →
     exec (.secKeyLoad h b) s = .next (secEnd u h 8 KEY_DENIED)) ∧
  -- KEY_CLEAR
  (∀ (h : DHdr) (b : List Byte) (u : State) (s : State), Served s SEC 9 h b → u = begun s SEC 9 h b →
     homeOf u h.part.val ≠ 2 → bodyDirty b [16] = false → 16 ≤ leAt b 16 1 → leAt b 16 1 ≤ 31 →
     keyAllowed u h.part.val (leAt b 16 1) = true →
     exec (.secKeyClear h b) s = .next (secEnd (clearSlots u (· == (leAt b 16 1))) h 9 OK)) ∧
  -- PUBKEY
  (∀ (h : DHdr) (b : List Byte) (u : State) (a : Nat) (s : State), Served s SEC 11 h b → u = begun s SEC 11 h b →
     homeOf u h.part.val ≠ 2 → bodyDirty b ([16] ++ addrs 1) = false → leAt b 16 1 = 1 → slotFilled u 1 = true →
     translate u h.part.val (leAt b 24 8) 65 1 = some a →
     exec (.secPubkey h b) s = .next (secOut u h 11 a (padTo 65 (Config.publicKey (keyAt u 1))))) ∧
  -- KEY_PROVISION
  (∀ (h : DHdr) (b : List Byte) (u : State) (v : State) (key : List Byte) (s : State), Served s SEC 12 h b →
     u = begun s SEC 12 h b → h.part = 0 → homeOf u h.part.val ≠ 2 → bodyDirty b ([16, 17] ++ addrs 1) = false →
     isSealed u = false → 2 ≤ leAt b 16 1 → leAt b 16 1 < 16 → leAt b 16 1 ≠ 7 →
     bit (u.rd SEC_KEY_STATE_FILLED) (leAt b 16 1) = false →
     (provisionLens (leAt b 16 1)).contains (leAt b 17 1) = true → (∀ f,
     withIn u h 12 (leAt b 24 8) (leAt b 17 1) f = f v key) →
     exec (.keyProvision h b) s = .next (secEnd (setKey v (leAt b 16 1) key) h 12 OK)) ∧
  -- KEY_PROVISION
  (∀ (h : DHdr) (b : List Byte) (u : State) (s : State), Served s SEC 12 h b → u = begun s SEC 12 h b → h.part = 0 →
     homeOf u h.part.val ≠ 2 → bodyDirty b ([16, 17] ++ addrs 1) = false → isSealed u = true →
     exec (.keyProvision h b) s = .next (secEnd (violate u) h 12 KEY_DENIED)) ∧
  -- MSEC_INSTALL
  (∀ (h : DHdr) (b : List Byte) (u : State) (s : State), Served s SEC 16 h b → u = begun s SEC 16 h b → h.part = 0 →
     homeOf u h.part.val ≠ 2 → bodyDirty b ((List.range 48).map (16 + ·)) = false → leAt b 16 1 < 2 →
     leAt b 17 1 < 2 → leAt b 18 1 < 4 → (leAt b 19 1 = 2 ∨ leAt b 19 1 = 3) → bodyDirty b (msecListed u b) = false →
     8 ≤ leAt b 20 1 → leAt b 20 1 ≤ 31 → keyAllowed u 0 (leAt b 20 1) = true →
     (keyAt u (leAt b 20 1)).length = saLen u (leAt b 16 1) → xpn u (leAt b 16 1) = false →
     exec (.msecInstall h b) s = .next (secEnd (installSa u (leAt b 16 1) (leAt b 17 1) (leAt b 18 1) (bit (leAt b 19 1) 0) { key := keyAt u (leAt b 20 1), ssci := 0, salt := [], pn := leAt b 24 8, warned := false }) h 16 OK)) ∧
  -- MSEC_RETIRE
  (∀ (h : DHdr) (b : List Byte) (u : State) (s : State), Served s SEC 17 h b → u = begun s SEC 17 h b → h.part = 0 →
     homeOf u h.part.val ≠ 2 → bodyDirty b [16, 17, 18] = false → leAt b 16 1 < 2 → leAt b 17 1 = 1 →
     leAt b 18 1 < 4 →
     exec (.msecRetire h b) s = .next (secEnd ({ u with sw := { u.sw with rxSa := tabDel u.sw.rxSa (leAt b 16 1 * 4 + leAt b 18 1) } }.wr (SW_MSEC_STAT_RX_AN_VALID (leAt b 16 1)) (if bit (u.rd (SW_MSEC_STAT_RX_AN_VALID (leAt b 16 1))) (leAt b 18 1) then u.rd (SW_MSEC_STAT_RX_AN_VALID (leAt b 16 1)) - 2 ^ leAt b 18 1 else u.rd (SW_MSEC_STAT_RX_AN_VALID (leAt b 16 1)))) h 17 OK))

/-- Updates: verification, arming and confirmation. VERIFY shows its slot good or bad and completes so; ARM, DISARM and
CONFIRM change the update record or are refused with their reason; a debug challenge and its response. Each clause
names the operands and the states it holds for, concludes that exec answers a next state, and gives that state whole,
or by its frame and what it holds. -/
def Obligations.Updates : Prop :=
  -- UPD_VERIFY
  (∀ (h : DHdr) (b : List Byte) (media : Bool) (u : State) (v : State) (r : Nat × List Byte × List Byte) (s : State),
     Served s SEC 32 h b → u = begun s SEC 32 h b → h.part = 0 → homeOf u h.part.val ≠ 2 → bodyDirty b [16] = false →
     leAt b 16 1 < 2 →
     v = charge u h.part.val SEC (1024 * (announced u (leAt b 16 1) + payloads u (leAt b 16 1) (landedManifest u (leAt b 16 1))) + 4) →
     r = bundleCheck v (uidBytes v) (leAt b 16 1) media →
     exec (.updVerify h b media) s = .next (complete (writeRecord (setSlot v (leAt b 16 1) (if r.1 = 0 then 1 else 2))) SEC h 0x20 (if r.1 = 0 then OK else VERIFY_FAIL) ([byte r.1,
     0, 0, 0] ++ leBytes 4 (mBundle r.2.1)))) ∧
  -- UPD_ARM
  (∀ (h : DHdr) (b : List Byte) (u : State) (s : State), Served s SEC 33 h b → u = begun s SEC 33 h b → h.part = 0 →
     homeOf u h.part.val ≠ 2 → bodyDirty b [16] = false → leAt b 16 1 < 2 → slotState u (leAt b 16 1) = 1 →
     u.flag UPD_STATUS_TRIAL = false → leAt b 16 1 = 0 →
     exec (.updArm h b) s = .next (secEnd (writeRecord { u.wr UPD_STATUS_ARMED 1 with upd := { u.upd with attempts0 := 0 } }) h 0x21 OK)) ∧
  -- UPD_ARM
  (∀ (h : DHdr) (b : List Byte) (u : State) (s : State), Served s SEC 33 h b → u = begun s SEC 33 h b → h.part = 0 →
     homeOf u h.part.val ≠ 2 → bodyDirty b [16] = false → leAt b 16 1 < 2 → slotState u (leAt b 16 1) = 1 →
     u.flag UPD_STATUS_TRIAL = false → leAt b 16 1 = 1 →
     exec (.updArm h b) s = .next (secEnd (writeRecord { u.wr UPD_STATUS_ARMED 2 with upd := { u.upd with attempts1 := 0 } }) h 0x21 OK)) ∧
  -- UPD_ARM
  (∀ (h : DHdr) (b : List Byte) (u : State) (s : State), Served s SEC 33 h b → u = begun s SEC 33 h b → h.part = 0 →
     homeOf u h.part.val ≠ 2 → bodyDirty b [16] = false → leAt b 16 1 < 2 → slotState u (leAt b 16 1) ≠ 1 →
     exec (.updArm h b) s = .next (updNo u h 0x21 20)) ∧
  -- UPD_DISARM
  (∀ (h : DHdr) (b : List Byte) (u : State) (s : State), Served s SEC 34 h b → u = begun s SEC 34 h b → h.part = 0 →
     homeOf u h.part.val ≠ 2 → bodyDirty b [16] = false → leAt b 16 1 < 1 →
     exec (.updDisarm h b) s = .next (secEnd (writeRecord (u.wr UPD_STATUS_ARMED 0)) h 0x22 OK)) ∧
  -- UPD_CONFIRM
  (∀ (h : DHdr) (b : List Byte) (u : State) (v : State) (s : State), Served s SEC 35 h b → u = begun s SEC 35 h b →
     h.part = 0 → homeOf u h.part.val ≠ 2 → bodyDirty b [16] = false → leAt b 16 1 < 1 →
     u.flag UPD_STATUS_TRIAL = true →
     v = (((u.put UPD_STATUS_TRIAL false).wr UPD_STATUS_TRIES 0).wr UPD_STATUS_LAST_OUTCOME 4).wr UPD_LEFT_SECONDS 0 →
     exec (.updConfirm h b) s = .next (secEnd (raiseCounter (writeRecord { v with upd := { v.upd with expired := false } }) (activeSvn v)) h 0x23 OK)) ∧
  -- UPD_CONFIRM
  (∀ (h : DHdr) (b : List Byte) (u : State) (s : State), Served s SEC 35 h b → u = begun s SEC 35 h b → h.part = 0 →
     homeOf u h.part.val ≠ 2 → bodyDirty b [16] = false → leAt b 16 1 < 1 → u.flag UPD_STATUS_TRIAL = false →
     exec (.updConfirm h b) s = .next (updNo u h 0x23 22)) ∧
  -- DBG_AUTH_CHALLENGE
  (∀ (s : State), cdUp s = true → challengeOpen s = true → ∃ t, exec .dbgAuthChallenge s = .next t ∧
     Frame [] [.freeCtr, .sec, .out] s t ∧ t.sec.nonce = some (randomBytes s 32, s.now) ∧
     t.out = s.out ++ [.challenge (uidBytes s ++ randomBytes s 32)]) ∧
  -- DBG_AUTH_CHALLENGE
  (∀ (s : State), cdUp s = true → challengeOpen s = false → ∃ t, exec .dbgAuthChallenge s = .next t ∧
     Frame [] [.freeCtr, .sec, .out] s t ∧ t.sec = s.sec ∧ t.out = s.out ++ [.challenge (List.replicate 48 0)]) ∧
  -- DBG_AUTH_RESPONSE
  (∀ (r : List Byte) (s : State), cdUp s = true → ∃ t, exec (.dbgAuthResponse r) s = .next t ∧
     Frame [Reg.PAR_EVT_CNT, Reg.SW_CNT_VAL, Reg.SW_MSEC_STAT, Reg.SEC_STATUS, Reg.SEC_CNT, Reg.TLY_CNT0] [.records,
     .owed, .rings, .evt, .queue, .proxies, .loss, .wire, .sec, .out] s t ∧ t.sec.nonce = none ∧
     t.rd SEC_STATUS_DBG_OPEN = (if responseOk s r = true then (s.rd SEC_STATUS_DBG_OPEN ||| (leAt r 0 1 % 8)) % 8 else s.rd SEC_STATUS_DBG_OPEN) ∧
     t.sec.dbgFails = (if responseOk s r = true then s.sec.dbgFails else s.sec.dbgFails + 1) ∧
     (responseOk s r = false → t.sec.failAt = some s.now ∧
     t.rd SEC_CNT_DBG_FAILS = satAdd 16 (s.rd SEC_CNT_DBG_FAILS) 1))

/-- Memory errors, package links and fault injection. A corrected or fatal memory error of a powered memory; scrubbing;
replays, retrains and losses of the package links, and the recovery of a degraded one. Each clause names the operands
and the states it holds for, concludes that exec answers a next state, and gives that state whole, or by its frame
and what it holds. -/
def Obligations.FaultsAndInjection : Prop :=
  -- ECC_ERROR
  (∀ (mem : Fin 16) (ue : Bool) (addr : Nat) (hit : EccAt) (s : State), memPowered s mem.val = true →
     (ue = false ∨ refetched mem.val hit = true) →
     exec (.eccError mem ue addr hit) s = .next (eccCorrected (takeInj s (if ue then 2 else 1) mem.val).1 mem.val addr false (takeInj s (if ue then 2 else 1) mem.val).2)) ∧
  -- ECC_ERROR
  (∀ (mem : Fin 16) (addr : Nat) (hit : EccAt) (s : State), memPowered s mem.val = true →
     refetched mem.val hit = false →
     exec (.eccError mem true addr hit) s = .next (eccEffect (eccFatal (takeInj s 2 mem.val).1 mem.val addr false (takeInj s 2 mem.val).2) mem.val addr hit)) ∧
  -- SCRUB
  (∀ (mem : Fin 16) (addr : Nat) (s : State), cdUp s = true → exec (.scrub mem addr none) s = .next (s)) ∧
  -- SCRUB
  (∀ (addr : Nat) (err : Option Bool) (s : State), cdUp s = true → err = some true →
     exec (.scrub 3 addr err) s = .next (writeBytes (eccFatal (takeInj s 2 3).1 3 addr true (takeInj s 2 3).2) (addr / 8 * 8) (List.replicate 8 0))) ∧
  -- LINK_REPLAY
  (∀ (link : Fin 2) (u : State) (s : State), cdUp s = true → s.flt.inj = none →
     u = { s.bump (EVT_LINK_CNT_REPLAYS link.val) 1 with flt := { s.flt with row := tabPut s.flt.row link.val 1, replays := tabPut s.flt.replays link.val (replaysOf s link.val ++ [s.now]) } } →
     ((replaysOf s link.val ++ [s.now]).filter (fun x => s.now - x ≤ 33)).length ≠ 64 →
     exec (.linkReplay link false) s = .next (u)) ∧
  -- LINK_RETRAIN
  (∀ (link : Fin 2) (u : State) (s : State), cdUp s = true → s.rd (EVT_LINK_CNT_LANES link.val) ≤ 2 →
     u = (s.bump (EVT_LINK_CNT_RETRAINS link.val) 1).wr (EVT_LINK_CNT_LANES link.val) 2 →
     exec (.linkRetrain link false) s = .next (linkFault { u with flt := { u.flt with row := tabDel u.flt.row link.val } } link.val 3 false)) ∧
  -- LINK_LOST
  (∀ (s : State), cdUp s = true → s.pwr.armed = true → s.flt.lost.contains 1 = false →
     exec (.linkLost 1) s = .next (wantBypass (ldGone s 4) 7)) ∧
  -- LINK_LOST
  (∀ (s : State), cdUp s = true → s.pwr.armed = true →
     exec (.linkLost 0) s = .next (showDomains (controlLost (linkFault (s.wr (EVT_LINK_CNT_LANES 0) 0) 0 4 false) 1))) ∧
  -- LINK_PGOOD_LOST
  (∀ (s : State), s.pwr.ldUp = true → (s.pwr.cd == .off) = false → ∃ t, exec .linkPgoodLost s = .next t ∧
     Frame [Reg.PWR_DOM_STATUS, Reg.CHN_BYPASS, Reg.PAR_EVT_CNT, Reg.SW_CNT_VAL, Reg.SW_STATUS, Reg.SW_MSEC_STAT,
     Reg.SUB_CAN_STAT, Reg.SUB_LIN_STAT, Reg.TLY_CNT0, Reg.EVT_LINK_CNT] [.records, .pwr, .owed, .rings, .evt,
     .queue, .chain, .proxies, .loss, .sw, .wire, .sub, .flt, .out] s t ∧ t.pwr.ldUp = false ∧ t.chain.cut = true ∧
     t.chain.up0 = false ∧ t.chain.up1 = false ∧ t.flag CHN_BYPASS_ACTIVE = false) ∧
  -- SIDEBAND_PARITY_LOSS
  (∀ (s : State), s.flt.lost.contains 2 = false → ∃ t, exec .sidebandParityLoss s = .next t ∧ Frame [Reg.PAR_EVT_CNT,
     Reg.SW_CNT_VAL, Reg.SW_MSEC_STAT, Reg.TLY_CNT0, Reg.EVT_LINK_CNT] [.records, .owed, .rings, .evt, .queue,
     .proxies, .loss, .wire, .flt, .out] s t ∧ t.flt.lost = s.flt.lost ++ [2]) ∧
  -- ONFI_LOSS
  (∀ (s : State), cdUp s = true → s.sto.lost = false → ∃ t, exec .onfiLoss s = .next t ∧ Frame [Reg.PAR_EVT_CNT,
     Reg.SW_CNT_VAL, Reg.SW_MSEC_STAT, Reg.STO_WB_STATUS, Reg.STO_CNT, Reg.TLY_CNT0] [.records, .owed, .rng, .rings,
     .evt, .queue, .proxies, .loss, .wire, .sto, .out] s t ∧ t.sto.lost = true ∧ t.sto.jobs = [] ∧ t.sto.flushes = []) ∧
  -- LINK_RECOVERY_RETRY
  (∀ (s : State), s.flt.lost.contains 2 = true → ∃ t, exec (.linkRecoveryRetry 2 true) s = .next t ∧
     Frame [Reg.PAR_EVT_CNT, Reg.SW_CNT_VAL, Reg.SW_MSEC_STAT, Reg.SUB_CAN_STAT, Reg.SUB_LIN_STAT, Reg.TLY_CNT0,
     Reg.EVT_LINK_CNT] [.records, .owed, .rings, .evt, .queue, .chain, .proxies, .loss, .wire, .sub, .flt,
     .out] s t ∧ t.flt.lost = s.flt.lost.filter (· != 2) ∧ t.rd (EVT_LINK_CNT_LANES 2) = 2)

/-- Fault injection, held events and lockstep faults. Fault injection is armed or refused, raised events are sent or
refused, held events are delivered in class order, and a lockstep fault stops its pair once. Each clause names the
operands and the states it holds for, concludes that exec answers a next state, and gives that state whole, or by its
frame and what it holds. -/
def Obligations.InjectionAndLockstep : Prop :=
  -- EVT_INJ_ARM
  (∀ (v : Word) (s : State), cdUp s = true → mayInject s = true → fieldIn EVT_INJ_ARM v = 1 →
     1 ≤ fieldIn EVT_INJ_KIND v → fieldIn EVT_INJ_KIND v ≤ 3 → 1 ≤ fieldIn EVT_INJ_COUNT v → ∃ t,
     exec (.evtInjArm .p0 v) s = .next t ∧ Frame [Reg.PAR_SEAL_STATUS, Reg.EVT_INJ, Reg.EVT_INJ_STATUS] [.flt] s t ∧
     t.flt.inj = some ⟨fieldIn EVT_INJ_KIND v, fieldIn EVT_INJ_ID v, fieldIn EVT_INJ_COUNT v⟩ ∧ t.flt.skip = false) ∧
  -- EVT_INJ_ARM
  (∀ (v : Word) (s : State), cdUp s = true → mayInject s = false → exec (.evtInjArm .p0 v) s = .next (violate s)) ∧
  -- EVT_RAISE
  (∀ (v : Word) (s : State), cdUp s = true → mayInject s = true → fieldIn EVT_RAISE_SOURCE v < 104 →
     everRaised (fieldIn EVT_RAISE_SOURCE v) = true →
     exec (.evtRaise .p0 v) s = .next (raise s (fieldIn EVT_RAISE_SOURCE v) (classS (fieldIn EVT_RAISE_SOURCE v)) (zeroRcpt s (fieldIn EVT_RAISE_SOURCE v)) [])) ∧
  -- EVT_RAISE
  (∀ (v : Word) (s : State), cdUp s = true → mayInject s = true → 104 ≤ fieldIn EVT_RAISE_SOURCE v → ∃ t,
     exec (.evtRaise .p0 v) s = .next t ∧ Frame [Reg.PAR_SEAL_STATUS, Reg.PAR_EVT_CNT, Reg.SW_CNT_VAL,
     Reg.SW_MSEC_STAT, Reg.TLY_CNT0] [.records, .owed, .rings, .evt, .queue, .proxies, .loss, .wire, .out] s t ∧
     t.rd PAR_SEAL_STATUS_SEAL_VIOL = satAdd 16 (s.rd PAR_SEAL_STATUS_SEAL_VIOL) 1 ∧ t.evt = s.evt) ∧
  -- HELD_EVENT_DELIVERY
  (∀ (part : Fin 8) (u : State) (s : State), evtOpen s = true → partState s part.val = 2 →
     u = { s.bump (PAR_EVT_CNT_EV_LOST part.val) (tabGet 0 s.evt.heldLost part.val) with evt := { s.evt with held := s.evt.held.filter (fun x => x.part != part.val), heldLost := tabDel s.evt.heldLost part.val } } →
     exec (.heldEventDelivery part) s = .next (((s.evt.held.filter (fun x => x.part == part.val)).filter (·.clsS) ++ (s.evt.held.filter (fun x => x.part == part.val)).filter (fun x => !x.clsS)).foldl deliverHeld u)) ∧
  -- LOCKSTEP_FAULT
  (∀ (pair : Fin 2) (mcycle : Nat) (s : State), cdUp s = true → s.brd.stopped.contains pair.val = false → ∃ t,
     exec (.lockstepFault pair mcycle) s = .next t ∧ Frame [Reg.PAR_EVT_CNT, Reg.SW_CNT_VAL, Reg.SW_MSEC_STAT,
     Reg.TLY_CNT0, Reg.EVT_INJ_STATUS] [.records, .owed, .rings, .evt, .queue, .proxies, .loss, .wire, .brd, .flt,
     .out] s t ∧ t.brd.stopped = s.brd.stopped ++ [pair.val]) ∧
  -- LOCKSTEP_FAULT
  (∀ (pair : Fin 2) (mcycle : Nat) (s : State), cdUp s = true → s.brd.stopped.contains pair.val = true →
     exec (.lockstepFault pair mcycle) s = .next (s))

/-- Writing and selecting tally records. The next waiting record is written, or nothing when none waits; the selected
first-fault record is shown; RD_MARK only moves forward. Each clause names the operands and the states it holds for,
concludes that exec answers a next state, and gives that state whole, or by its frame and what it holds. -/
def Obligations.TallyCommands : Prop :=
  -- TALLY_WRITE
  (∀ (w : TWait) (rest : List TWait) (u : State) (s : State), s.spar.up = true → sparRuns s = true →
     s.flag TLY_STATUS_SCAN_DONE = true → nextWait s = some (w, rest) → s.tly.dropped = 0 →
     u = writeRec { s with tly := { s.tly with queue := rest } } w → u.tly.dropped = 0 →
     exec .tallyWrite s = .next (u)) ∧
  -- TALLY_WRITE
  (∀ (s : State), s.spar.up = true → s.flag TLY_STATUS_SCAN_DONE = true → nextWait s = none →
     exec .tallyWrite s = .next (s)) ∧
  -- TLY_SEL_WRITE
  (∀ (v : Word) (e : TRec) (s : State), cdUp s = true → fieldIn TLY_SEL_AREA v = 1 →
     firstRec ((s.wr TLY_SEL_START (fieldIn TLY_SEL_START v)).wr TLY_SEL_AREA 1) (fieldIn TLY_SEL_START v) = some e →
     exec (.tlySelWrite .p0 v) s = .next ((List.range 16).foldl (fun x w => x.wr (TLY_DATA_DATA w) (leAt (recBytes e) (4 * w) 4)) (((s.wr TLY_SEL_START (fieldIn TLY_SEL_START v)).wr TLY_SEL_AREA 1).put TLY_SEL_VALID true))) ∧
  -- TLY_MARK_WRITE
  (∀ (v : Word) (s : State), cdUp s = true →
     (s.rd TLY_NEXT_NEXT_RSEQ + 2 ^ 32 - s.rd TLY_MARK_RD_MARK) % 2 ^ 32 ≠ 0 →
     (s.rd TLY_NEXT_NEXT_RSEQ + 2 ^ 32 - v.toNat) % 2 ^ 32 ≠ 0 →
     (s.rd TLY_NEXT_NEXT_RSEQ + 2 ^ 32 - v.toNat) % 2 ^ 32 ≤ (s.rd TLY_NEXT_NEXT_RSEQ + 2 ^ 32 - s.rd TLY_MARK_RD_MARK) % 2 ^ 32 →
     ∃ t, exec (.tlyMarkWrite .p0 v) s = .next t ∧ Frame [Reg.PAR_SEAL_STATUS, Reg.TLY_MARK] [.tly] s t ∧
     t.rd TLY_MARK_RD_MARK = v.toNat ∧ t.tly.unreadRaised = false) ∧
  -- TLY_MARK_WRITE
  (∀ (v : Word) (s : State), cdUp s = true → exec (.tlyMarkWrite .safety v) s = .next (violate s))

/-- Reads and writes of the cores by address, and the seal set. Accesses to the configuration space: a misaligned, narrow
or wide write is ignored and counted, an aligned one acts as its register's command or by its fields, a read answers
and leaves what a read leaves; SRAM is read and written; a write to the mirror window is counted; a seal set is
refused after seal, and otherwise begins with its register records, the later stages following one at each tick (log
entry 20). Each clause names the operands and the states it holds for, concludes that exec answers a next state, and
gives that state whole, or by its frame and what it holds. -/
def Obligations.CoreAccesses : Prop :=
  -- REGISTER_WRITE
  (∀ (w : Writer) (addr : Nat) (len : Nat) (v : Word) (s : State), cdUp s = true → 0x40000000 ≤ addr →
     addr < 0x41000000 → (len ≠ 4 ∨ (addr - 0x40000000) % 4 ≠ 0) →
     exec (.registerWrite w addr len v) s = .next (violate s)) ∧
  -- REGISTER_WRITE
  (∀ (w : Writer) (addr : Nat) (v : Word) (s : State), cdUp s = true → 0x40000000 ≤ addr → addr < 0x41000000 →
     addr % 4 = 0 → addr ≠ 0x40050088 →
     exec (.registerWrite w addr 4 v) s = .next (regWrite s w (addr - 0x40000000) v)) ∧
  -- REGISTER_WRITE
  (∀ (w : Writer) (addr : Nat) (len : Nat) (v : Word) (s : State), cdUp s = true → inSram addr = true →
     addr < 0x40000000 →
     exec (.registerWrite w addr len v) s = .next (writeBytes (bankWait s (addr + (len - 1))) addr (leBytes len v.toNat))) ∧
  -- REGISTER_WRITE
  (∀ (w : Writer) (addr : Nat) (len : Nat) (v : Word) (s : State), cdUp s = true → 0x60000000 ≤ addr →
     addr < 0x61000000 → exec (.registerWrite w addr len v) s = .next (violate s)) ∧
  -- RC_REGISTER_READ
  (∀ (w : Writer) (addr : Nat) (len : Nat) (s : State), cdUp s = true → 0x40000000 ≤ addr → addr < 0x41000000 →
     exec (.rcRegisterRead w addr len) s = .next (emit (cfgRead s w (addr - 0x40000000) len).1 (.regRead (addr - 0x40000000) (cfgRead s w (addr - 0x40000000) len).2))) ∧
  -- RC_REGISTER_READ
  (∀ (w : Writer) (addr : Nat) (len : Nat) (s : State), cdUp s = true → inSram addr = true → addr < 0x40000000 →
     exec (.rcRegisterRead w addr len) s = .next (emit (bankWait s (addr + (len - 1))) (.memRead addr (readBytes s addr len)))) ∧
  -- SEAL_SET_APPLY
  (∀ (v : Word) (s : State), cdUp s = true → fieldIn PAR_SSET_CTL_APPLY v ≠ 0 →
     s.flag PAR_SEAL_STATUS_SEALED = true → s.par.sset = none → ∃ t, exec (.sealSetApply .p0 v) s = .next t ∧
     t.rd PAR_SSET_STATUS_RESULT = 10 ∧ t.rd PAR_SSET_STATUS_STAGE = 1 ∧
     t.rd PAR_SEAL_STATUS_SEAL_VIOL = satAdd 16 (s.rd PAR_SEAL_STATUS_SEAL_VIOL) 1 ∧ t.par = s.par) ∧
  -- SEAL_SET_APPLY
  (∀ (v : Word) (a : Nat) (b : List Byte) (s : State), cdUp s = true → fieldIn PAR_SSET_CTL_APPLY v ≠ 0 →
     s.flag PAR_SEAL_STATUS_SEALED = false → a = s.rd PAR_SSET_ADDR_ADDR → b = setImage s a → setFault b = none →
     s.par.sset = none →
     exec (.sealSetApply .p0 v) s = .next ((setRecs b).foldl (setRecord b) ((setOn (s.put PAR_SSET_CTL_APPLY true) ⟨2, a, b⟩ 2).wr PAR_SSET_ID_SET_ID (leAt b 16 4))))

/-- A step runs the command at the front of the queue. For every state and command: with the command at the front of the
queue, a step is exec of that command on the state with the queue's rest. -/
def Obligations.StepRunsTheCommand : Prop :=
  (∀ (s : State) (c : Instr) (q : List Instr), s.pending = c :: q → step s = exec c { s with pending := q })

/-- Every step answers a next state, and takes one command off the queue. From every state the step answers a next state,
never a fault or a refusal, and the queue has lost its front command and nothing else; on an empty queue the step is
one tick of the slow clock, which is the model's choice (log entry 4). -/
def Obligations.StepAlwaysAnswers : Prop :=
  (∀ s : State, ∃ t, step s = .next t ∧ t.pending = s.pending.tail) ∧
  (∀ s : State, s.pending = [] → step s = .next (idle s))

/-- Every step keeps a sound state sound. From every sound state, with memory in its canonical form (addresses rising, no
zero byte listed, nothing outside system SRAM and the safety TCM) and the register file in rising order, a step
answers only sound states. -/
def Obligations.StepKeepsSound : Prop :=
  (∀ s t : State, Inv s → step s = .next t → Inv t)

/-- The state after reset is sound, and what it holds. The state after reset is sound; its queue is empty and its memory
reads zero everywhere; every register field but SPR_RST_CAUSE, STO_FREE and SEC_KEY_STATE reads the reset value of
its field table (values that a table leaves open are the model's, log entries 10 and 73); SPR_RST_CAUSE names the
power-on reset alone; every domain is off and the power-on wake sequence waits. -/
def Obligations.ResetIsSound : Prop :=
  (Inv State.reset) ∧
  (State.reset.pending = []) ∧
  (∀ a : Nat, readByte State.reset a = 0) ∧
  (∀ f : Field, f.reset < 2 ^ 64 → f.key ≠ SPR_RST_CAUSE_CAUSE.key → f.key ≠ STO_FREE_FREE_EXT.key →
     f.key ≠ SEC_KEY_STATE_FILLED.key → State.reset.rd f = f.reset) ∧
  (State.reset.rd SPR_RST_CAUSE_CAUSE = 1) ∧
  (State.reset.pwr.ps = .off ∧ State.reset.pwr.cd = .off)

/-- No other command alters a written tally record. Whatever command runs, unless it is one that Terms names in
writesTally (a tally write or what cuts one short, MARK and clear, the scans at a reset or a wake, an MRAM error, a
register write that may carry one of them): both areas of the record array, the MAC that the next record chains to
and the count of starts are as before. -/
def Obligations.TallyKept : Prop :=
  (∀ (c : Instr) (s t : State), writesTally c = false → exec c s = .next t → t.tly.ring = s.tly.ring ∧
     t.tly.first = s.tly.first ∧ t.tly.lastMac = s.tly.lastMac ∧ t.tly.starts = s.tly.starts)

/-- What a write makes of a field, by its access code. For a field that lies in one word: RO, RC and WO ignore the
written value; RW, and RWS before seal, take it, limited as the field table says; RWS after seal ignores it; in W1C
each 1 clears its bit and each 0 leaves it; in W1S each 1 sets its bit and each 0 leaves it; no other field changes. -/
def Obligations.AccessCodes : Prop :=
  (∀ (s : State) (base v : Nat) (f : FieldDesc), f.acc = .ro ∨ f.acc = .rc ∨ f.acc = .wo →
     writeField base false v s f = s) ∧
  (∀ (s : State) (base v : Nat) (f : FieldDesc), f.acc = .rws → isSealed s = true → writeField base false v s f = s) ∧
  (∀ (s : State) (base v : Nat) (f : FieldDesc), f.acc = .rw ∨ (f.acc = .rws ∧ isSealed s = false) →
     f.lsb + f.width ≤ 32 → f.lsb < 32 →
     (writeField base false v s f).rd (fieldOf base f) = takenAs f (bits v (min 31 (f.lsb + f.width - 1)) f.lsb) % 2 ^ f.width) ∧
  (∀ (s : State) (base v i : Nat) (f : FieldDesc), f.acc = .w1c → f.lsb + f.width ≤ 32 → i < f.width →
     s.rd (fieldOf base f) < 2 ^ f.width →
     ((writeField base false v s f).rd (fieldOf base f)).testBit i = ((s.rd (fieldOf base f)).testBit i && !v.testBit (f.lsb + i))) ∧
  (∀ (s : State) (base v i : Nat) (f : FieldDesc), f.acc = .w1s → f.lsb + f.width ≤ 32 → i < f.width →
     s.rd (fieldOf base f) < 2 ^ f.width →
     ((writeField base false v s f).rd (fieldOf base f)).testBit i = ((s.rd (fieldOf base f)).testBit i || v.testBit (f.lsb + i))) ∧
  (∀ (s : State) (base v : Nat) (hi : Bool) (f : FieldDesc) (k : Field), k.key ≠ (fieldOf base f).key →
     (writeField base hi v s f).rd k = s.rd k)

/-- A sealed register of RWS fields keeps every field, and a changing write counts once. After seal, a write to a
register whose fields are all RWS leaves the machine as it is when every field it reaches already holds the value
carried, and otherwise counts one seal violation and does nothing else. -/
def Obligations.SealedRegisters : Prop :=
  (∀ (s : State) (off v base : Nat) (hi : Bool) (r : RegDesc), isSealed s = true → regHit off = some (r, base, hi) →
     r.fields ≠ [] → (∀ f ∈ r.fields, f.acc = .rws) → (∃ f ∈ r.fields, reaches f hi = true ∧
     merged f hi (s.rd (fieldOf base f)) v ≠ s.rd (fieldOf base f)) → writeWord s off v = violate s) ∧
  (∀ (s : State) (off v base : Nat) (hi : Bool) (r : RegDesc), isSealed s = true → regHit off = some (r, base, hi) →
     r.fields ≠ [] → (∀ f ∈ r.fields, f.acc = .rws) → (∀ f ∈ r.fields, reaches f hi = true →
     merged f hi (s.rd (fieldOf base f)) v = s.rd (fieldOf base f)) → writeWord s off v = s)

/-- The safety island writes only its own registers. An aligned 32-bit write by the safety island to any offset of the
configuration space, listed or reserved, other than SPR_WDG_FEED, PWR_SAF_ACK, PAR_RST and PWR_NEXT, counts one seal
violation and does nothing else (SW_STATUS.SHAPE_ERR is only shown anew after CHN_PORT_CFG). A write of PWR_NEXT
counts in REFUSED_CNT as well (log entry 76). -/
def Obligations.SafetyIslandWrites : Prop :=
  (∀ (s : State) (off : Nat) (v : Word), cdUp s = true → off < 0x1000000 → off % 4 = 0 → off ≠ 0x44 → off ≠ 0x20008 →
     off ≠ 0x50024 → off ≠ 0x20000 → off ≠ 0x40000 →
     exec (.registerWrite .safety (0x40000000 + off) 4 v) s = .next (violate s)) ∧
  (∀ (s : State) (v : Word), cdUp s = true →
     exec (.registerWrite .safety 0x40040000 4 v) s = .next (showShape (violate s))) ∧
  (∀ (s : State) (v : Word), cdUp s = true →
     exec (.registerWrite .safety 0x40020000 4 v) s = .next (violate (s.bump PWR_STATUS_REFUSED_CNT 1)))

/-- Cores and memory. A core's write to system SRAM stores the low bytes of its word, least significant first, at the
addresses it names and changes nothing else; a read answers the bytes stored there. Another core than the safety
island's neither reads nor writes the safety TCM: the access counts in PAR_FAULT, a read answers zeros. An access at
or above the remote window is an access fault on the core and nothing else. -/
def Obligations.CoreMemory : Prop :=
  (∀ (w : Writer) (a len : Nat) (v : Word) (s : State), cdUp s = true → 0x10000000 ≤ a → a + len ≤ 0x10C00000 →
     0 < len → ∃ t, exec (.registerWrite w a len v) s = .next t ∧ (∀ i, i < len →
     readByte t (a + i) = byte (v.toNat / 256 ^ i)) ∧ (∀ x, (x < a ∨ a + len ≤ x) → readByte t x = readByte s x) ∧
     t.pwr.unzeroed = s.pwr.unzeroed.filter (fun n => (a + (len - 1) - 0x10000000) / 262144 < n) ∧
     { t with mem := s.mem, pwr := { t.pwr with unzeroed := s.pwr.unzeroed } } = s) ∧
  (∀ (w : Writer) (a len : Nat) (s : State), cdUp s = true → 0x10000000 ≤ a → a + len ≤ 0x10C00000 → 0 < len →
     exec (.rcRegisterRead w a len) s = .next { s with pwr := { s.pwr with unzeroed := s.pwr.unzeroed.filter (fun n => (a + (len - 1) - 0x10000000) / 262144 < n) }, out := s.out ++ [.memRead a ((List.range len).map (fun i => readByte s (a + i)))] }) ∧
  (∀ (a len : Nat) (v : Word) (s : State), cdUp s = true → inTcm a = true →
     exec (.registerWrite .p0 a len v) s = .next (s.bump PAR_FAULT_FAULTS 1)) ∧
  (∀ (a len : Nat) (s : State), cdUp s = true → inTcm a = true →
     exec (.rcRegisterRead .p0 a len) s = .next (emit (s.bump PAR_FAULT_FAULTS 1) (.memRead a (List.replicate len 0)))) ∧
  (∀ (w : Writer) (a len : Nat) (v : Word) (s : State), cdUp s = true → 0x100000000 ≤ a →
     exec (.registerWrite w a len v) s = .next { s with out := s.out ++ [.accessFault a] } ∧
     exec (.rcRegisterRead w a len) s = .next { s with out := s.out ++ [.accessFault a] })

/-- A read of the low word of a pair latches the high word. Reading SPR_RTC_LO answers the RTC's low word and latches its
high word; reading SPR_RTC_HI with a latched word answers it, once; without one it answers the RTC's high word. -/
def Obligations.LatchedPairs : Prop :=
  (∀ (w : Writer) (s : State), cdUp s = true → ∃ t, exec (.rcRegisterRead w 0x40000010 4) s = .next t ∧
     Frame [] [.latches, .out] s t ∧ t.out = s.out ++ [.regRead 0x10 (s.rd SPR_RTC_RTC % 2 ^ 32)] ∧
     tabFind t.latches 0x14 = some (BitVec.ofNat 32 (s.rd SPR_RTC_RTC / 2 ^ 32))) ∧
  (∀ (w : Writer) (x : BitVec 32) (s : State), cdUp s = true → tabFind s.latches 0x14 = some x →
     exec (.rcRegisterRead w 0x40000014 4) s = .next { s with latches := tabDel s.latches 0x14, out := s.out ++ [.regRead 0x14 x.toNat] }) ∧
  (∀ (w : Writer) (s : State), cdUp s = true → tabFind s.latches 0x14 = none →
     exec (.rcRegisterRead w 0x40000014 4) s = .next { s with out := s.out ++ [.regRead 0x14 (s.rd SPR_RTC_RTC / 2 ^ 32 % 2 ^ 32)] })

/-- The tally queue of 32 and what it drops. A cause's record joins the queue while fewer than 32 wait. With 32 waiting,
the newest record that is no fault record is dropped, or the newest when all are; the arriving record counts among
them (log entry 80). Each drop counts in DROPPED and takes no RSEQ, and no record already written changes. -/
def Obligations.TallyQueueDrops : Prop :=
  (∀ (s : State) (typ : Nat) (pl : List Byte), s.tly.queue.length < 32 →
     tally s typ pl = { s with tly := { s.tly with queue := s.tly.queue ++ [⟨typ, tallyFlags s, rtc s, padTo 32 pl⟩] } }) ∧
  (∀ (s : State) (typ : Nat) (pl : List Byte) (x : TWait) (l m : List TWait), 32 ≤ s.tly.queue.length →
     s.tly.queue ++ [⟨typ, tallyFlags s, rtc s, padTo 32 pl⟩] = l ++ x :: m → tallyFault x.typ = false → (∀ y ∈ m,
     tallyFault y.typ = true) → (tally s typ pl).tly.queue = l ++ m) ∧
  (∀ (s : State) (typ : Nat) (pl : List Byte), 32 ≤ s.tly.queue.length → tallyFault typ = true → (∀ y ∈ s.tly.queue,
     tallyFault y.typ = true) → (tally s typ pl).tly.queue = s.tly.queue) ∧
  (∀ (s : State) (typ : Nat) (pl : List Byte), 32 ≤ s.tly.queue.length →
     (tally s typ pl).rd TLY_CNT0_DROPPED = satAdd 16 (s.rd TLY_CNT0_DROPPED) 1 ∧
     (tally s typ pl).tly.dropped = satAdd 16 s.tly.dropped 1 ∧
     (tally s typ pl).rd TLY_NEXT_NEXT_RSEQ = s.rd TLY_NEXT_NEXT_RSEQ ∧ (tally s typ pl).tly.ring = s.tly.ring ∧
     (tally s typ pl).tly.first = s.tly.first)

/-- Only the key written by P0 resets the device. R51: SPR_RST_CMD written with 0x0000_D0E5 by P0 performs a device reset
(the control die is released from reset again, and SRAM, the layout and the rings are cleared); any other value, and
any write from another partition, leaves the machine as it is but for one seal violation. -/
def Obligations.ResetCommandKey : Prop :=
  -- SPR_RST_CMD
  (∀ (v : Word) (s : State), cdUp s = true → v.toNat = 0xD0E5 → ∃ t, exec (.sprRstCmd .p0 v) s = .next t ∧
     t.mem = [] ∧ t.par = {} ∧ t.rng = {} ∧ t.pwr.cd = .lost) ∧
  -- SPR_RST_CMD
  (∀ (w : Writer) (v : Word) (s : State), cdUp s = true → w = .safety ∨ v.toNat ≠ 0xD0E5 →
     exec (.sprRstCmd w v) s = .next (violate s))

/-- PWR_NEXT is ignored while an entry completes. R90: P0's write of PWR_NEXT while an earlier entry is still completing
changes nothing but REFUSED_CNT, which counts it. -/
def Obligations.EntryRefusesNext : Prop :=
  -- PWR_NEXT_WRITE
  (∀ (v : Word) (e : Entry) (s : State), cdUp s = true → s.pwr.entry = some e → ∃ t,
     exec (.pwrNextWrite .p0 v) s = .next t ∧ (∀ k : Field, k.key ≠ PWR_STATUS_REFUSED_CNT.key → t.rd k = s.rd k) ∧
     { t with regs := s.regs } = s ∧ t.rd PWR_STATUS_REFUSED_CNT = min (s.rd PWR_STATUS_REFUSED_CNT + 1) 255)

/-- RELEASE returns the blocks up to CONS. R308: of an open stream with consumer count C and producer count P, RELEASE
sets C to CONS when CONS lies between them, and any other CONS completes with BAD_FIELD and leaves the counts. -/
def Obligations.StreamRelease : Prop :=
  -- STREAM_RELEASE
  (∀ (h : DHdr) (b : List Byte) (u : State) (x : Strm) (s : State), Served s SNS 3 h b → u = begun s SNS 3 h b →
     bodyDirty b [16, 20, 21, 22, 23] = false → strmAt u h.part.val (leAt b 16 1) = some x → x.prod < 2 ^ 32 →
     x.cons ≤ leAt b 20 4 → leAt b 20 4 ≤ x.prod →
     exec (.streamRelease h b) s = .next (complete (setStrm u { x with cons := leAt b 20 4 }) SNS h 3 OK [])) ∧
  -- STREAM_RELEASE
  (∀ (h : DHdr) (b : List Byte) (u : State) (x : Strm) (s : State), Served s SNS 3 h b → u = begun s SNS 3 h b →
     bodyDirty b [16, 20, 21, 22, 23] = false → strmAt u h.part.val (leAt b 16 1) = some x → x.prod < 2 ^ 32 →
     x.cons ≤ x.prod → leAt b 20 4 < x.cons ∨ x.prod < leAt b 20 4 →
     exec (.streamRelease h b) s = .next (complete u SNS h 3 BAD_FIELD []))

/-- The completion record of a LOCAL or SAFETY partition. When a completion is posted for a partition whose home has
memory, with its completion ring armed in system SRAM and its shadow block not armed, the 32 bytes of the next slot
hold Table 7.4's fields, the producer index advances by one, and no other byte changes. -/
def Obligations.CompletionRecords : Prop :=
  (∀ (s : State) (eng : Nat) (h : DHdr) (opcode status : Nat) (result : List Byte) (g : Ring) (a : Nat),
     homeOf s h.part.val ≠ 2 → g = ringAt s (ringKey h.part.val eng 4) → g.armed = true →
     (shadowOf s h.part.val).armed = false → a = g.phys + g.prod % 2 ^ g.size * 32 → 0x10000000 ≤ a →
     a + 32 ≤ 0x10C00000 → ∃ (t : State) (r : List Byte), postCompl s eng h opcode status result = t ∧
     r = readBytes t a 32 ∧ leAt r 0 2 = h.tag.toNat ∧ leAt r 2 1 = status % 256 ∧ leAt r 3 1 = opcode % 256 ∧
     leAt r 4 2 = h.sqHead.toNat ∧ leAt r 6 1 = h.ring.val + (if h.rebased then 4 else 0) ∧
     leAt r 7 1 = s.rd SPR_DT_STATUS_EPOCH % 256 ∧ leAt r 8 8 = dtNow s % 2 ^ 64 ∧ leAt r 16 4 = h.late.toNat ∧
     slice r 20 8 = padTo 8 result ∧ leAt r 28 3 = 0 ∧
     leAt r 31 1 = (if g.prod / 2 ^ g.size % 2 = 0 then 128 else 0) ∧
     ringAt t (ringKey h.part.val eng 4) = { g with prod := (g.prod + 1) % 2 ^ 32 } ∧ ∀ x, (x < a ∨ a + 32 ≤ x) →
     readByte t x = readByte s x)

/-- What becomes of a raised event, by class. While events can be delivered: an event for an UNUSED partition is neither
written nor counted; a class N event whose owner is not RUNNING or whose event ring is full is lost and counted in
EV_LOST and writes nothing; a class S event then waits in the queue of 16, the oldest waiting record leaving a full
queue; a class N event without a token is suppressed and counted. ESEQ advances by one whatever becomes of the event. -/
def Obligations.EventClasses : Prop :=
  (∀ (s : State) (p src time : Nat) (c : Bool) (pl : List Byte), partState s p = 0 → raiseOne s p src c time pl = (s,
     none)) ∧
  (∀ (s : State) (p src time : Nat) (pl : List Byte), p < 8 → partState s p ≠ 0 → canDeliver s p = false → ∃ t,
     raiseOne s p src false time pl = (t, none) ∧ t.mem = s.mem ∧ t.rng = s.rng ∧
     t.rd (PAR_EVT_CNT_EV_LOST p) = satAdd 16 (s.rd (PAR_EVT_CNT_EV_LOST p)) 1 ∧
     partEv t p = { partEv s p with eseq := ((partEv s p).eseq + 1) % 2 ^ 32 }) ∧
  (∀ (s : State) (p src time : Nat) (pl : List Byte), partState s p ≠ 0 → canDeliver s p = false →
     (partEv s p).queue.length < 16 → ∃ t, raiseOne s p src true time pl = (t, none) ∧ t.mem = s.mem ∧
     t.regs = s.regs ∧
     partEv t p = { partEv s p with queue := (partEv s p).queue ++ [⟨src, true, 0, (partEv s p).eseq, time, padTo 12 pl⟩], eseq := ((partEv s p).eseq + 1) % 2 ^ 32 }) ∧
  (∀ (s : State) (p src time : Nat) (pl : List Byte) (x : EvRec) (l : List EvRec), partState s p ≠ 0 →
     canDeliver s p = false → (partEv s p).queue = x :: l → l.length = 15 → ∃ t, raiseOne s p src true time pl = (t,
     some x) ∧ t.mem = s.mem ∧ t.regs = s.regs ∧
     (partEv t p).queue = l ++ [⟨src, true, 0, (partEv s p).eseq, time, padTo 12 pl⟩]) ∧
  (∀ (s : State) (p src time : Nat) (pl : List Byte), p < 8 → partState s p ≠ 0 → canDeliver s p = true →
     tokens s p = 0 → ∃ t, raiseOne s p src false time pl = (t, none) ∧ t.mem = s.mem ∧ t.rng = s.rng ∧
     t.rd (PAR_EVT_CNT_EV_SUPPRESSED p) = satAdd 16 (s.rd (PAR_EVT_CNT_EV_SUPPRESSED p)) 1 ∧
     (partEv t p).suppressed = suppress (partEv s p).suppressed ⟨src, false, 0, (partEv s p).eseq, time, padTo 12 pl⟩)
end

