-- ==== Sys2Proof/Laws/Tab.lean ====
section
/-! SUPPORT.
The laws of the sparse table: reading after an update, and the canonical form that every update keeps.
-/

namespace Sys2Proof.Machine

variable {α : Type}

theorem tabFind_put (t : Tab α) (i j : Nat) (v : α) :
    tabFind (tabPut t i v) j = if j = i then some v else tabFind t j := by
  induction t with
  | nil =>
    by_cases h : j = i
    · simp [tabPut, tabFind, h]
    · simp [tabPut, tabFind, h, Ne.symm h]
  | cons e r ih =>
    obtain ⟨k, w⟩ := e
    by_cases h : j = i
    · subst h
      by_cases h1 : j < k
      · simp [tabPut, tabFind, h1]
      · by_cases h2 : j = k
        · subst h2; simp [tabPut, tabFind]
        · simp [tabPut, tabFind, h1, h2, Ne.symm h2, ih]
    · by_cases h1 : i < k
      · simp [tabPut, tabFind, h1, h, Ne.symm h]
      · by_cases h2 : i = k
        · subst h2; simp [tabPut, tabFind, h, Ne.symm h]
        · by_cases h3 : k = j
          · subst h3; simp [tabPut, tabFind, h1, h2, h]
          · simp [tabPut, tabFind, h1, h2, h, h3, ih]

theorem tabFind_del (t : Tab α) (i j : Nat) : tabFind (tabDel t i) j = if j = i then none else tabFind t j := by
  induction t with
  | nil => simp [tabDel, tabFind]
  | cons e r ih =>
    obtain ⟨k, w⟩ := e
    by_cases hk : k = i
    · subst hk
      have : tabDel ((k, w) :: r) k = tabDel r k := by simp [tabDel]
      rw [this, ih]
      by_cases h : j = k
      · simp [h]
      · simp [h, tabFind, Ne.symm h]
    · have : tabDel ((k, w) :: r) i = (k, w) :: tabDel r i := by simp [tabDel, hk]
      rw [this]
      by_cases h : j = i
      · subst h; simp [tabFind, hk, ih]
      · simp [tabFind, ih, h]

/-- What a key holds after an update. -/
theorem tabGet_set [DecidableEq α] (d : α) (t : Tab α) (i j : Nat) (v : α) :
    tabGet d (tabSet d t i v) j = if j = i then v else tabGet d t j := by
  unfold tabGet tabSet
  split_ifs with h1 h2 h2
  · simp [tabFind_del, h2, h1]
  · simp [tabFind_del, h2]
  · simp [tabFind_put, h2]
  · simp [tabFind_put, h2]

@[simp] theorem tabGet_set_same [DecidableEq α] (d : α) (t : Tab α) (i : Nat) (v : α) :
    tabGet d (tabSet d t i v) i = v := by simp [tabGet_set]

theorem tabGet_set_other [DecidableEq α] (d : α) (t : Tab α) {i j : Nat} (v : α) (h : j ≠ i) :
    tabGet d (tabSet d t i v) j = tabGet d t j := by simp [tabGet_set, h]

@[simp] theorem tabGet_nil (d : α) (i : Nat) : tabGet d [] i = d := rfl

theorem mem_tabPut (t : Tab α) (i : Nat) (v : α) (e : Nat × α) (h : e ∈ tabPut t i v) : e = (i, v) ∨ e ∈ t := by
  induction t with
  | nil => simpa [tabPut] using h
  | cons x r ih =>
    obtain ⟨k, w⟩ := x
    unfold tabPut at h
    split_ifs at h
    · simpa using h
    · simp only [List.mem_cons] at h ⊢; tauto
    · simp only [List.mem_cons] at h ⊢
      rcases h with h | h
      · tauto
      · rcases ih h with h | h <;> tauto

/-- Listing a key keeps the keys rising. -/
theorem tabPut_sorted (t : Tab α) (i : Nat) (v : α) (h : tabSorted t) : tabSorted (tabPut t i v) := by
  induction t with
  | nil => simp [tabPut, tabSorted]
  | cons x r ih =>
    obtain ⟨k, w⟩ := x
    obtain ⟨h1, h2⟩ := List.pairwise_cons.1 h
    unfold tabPut
    split_ifs with c1 c2
    · refine List.pairwise_cons.2 ⟨fun e he => ?_, h⟩
      rcases List.mem_cons.1 he with rfl | he
      · exact c1
      · exact lt_trans c1 (h1 e he)
    · subst c2; exact List.pairwise_cons.2 ⟨h1, h2⟩
    · refine List.pairwise_cons.2 ⟨fun e he => ?_, ih h2⟩
      rcases mem_tabPut r i v e he with rfl | he
      · show k < i; omega
      · exact h1 e he

theorem tabDel_sorted (t : Tab α) (i : Nat) (h : tabSorted t) : tabSorted (tabDel t i) := h.sublist List.filter_sublist

theorem tabKeep_sorted (p : Nat → Bool) (t : Tab α) (h : tabSorted t) : tabSorted (tabKeep p t) :=
  h.sublist List.filter_sublist

/-- An update keeps the keys rising. -/
theorem tabSet_sorted [DecidableEq α] (d : α) (t : Tab α) (i : Nat) (v : α) (h : tabSorted t) :
    tabSorted (tabSet d t i v) := by
  unfold tabSet
  split_ifs
  · exact tabDel_sorted t i h
  · exact tabPut_sorted t i v h

theorem mem_tabSet [DecidableEq α] (d : α) (t : Tab α) (i : Nat) (v : α) (e : Nat × α) (h : e ∈ tabSet d t i v) :
    (e = (i, v) ∧ v ≠ d) ∨ e ∈ t := by
  unfold tabSet at h
  split_ifs at h with c
  · exact Or.inr (List.mem_of_mem_filter h)
  · rcases mem_tabPut t i v e h with h | h
    · exact Or.inl ⟨h, c⟩
    · exact Or.inr h

/-- An update keeps the canonical form. -/
theorem tabSet_wf [DecidableEq α] (d : α) (t : Tab α) (i : Nat) (v : α) (h : tabWf d t) : tabWf d (tabSet d t i v) := by
  refine ⟨tabSet_sorted d t i v h.1, fun e he => ?_⟩
  rcases mem_tabSet d t i v e he with ⟨rfl, c⟩ | he
  · exact c
  · exact h.2 e he

theorem tabKeep_wf (p : Nat → Bool) (d : α) (t : Tab α) (h : tabWf d t) : tabWf d (tabKeep p t) :=
  ⟨tabKeep_sorted p t h.1, fun e he => h.2 e (List.mem_of_mem_filter he)⟩

end Sys2Proof.Machine
end

