-- ==== Sys2Proof/Laws/Frame.lean ====
section
/-! SUPPORT.
The calculus of frames: `Keeps w g s t` says that going from `s` to `t` keeps a sound state sound and changes only the
registers `w` and the parts `g`. The laws of the other files of this folder say it of every operation.
-/

namespace Sys2Proof.Machine

/-- A field lies in a register. -/
def Field.In (r : Span) (f : Field) : Prop := r.Has f.off ∧ f.lsb < 64

/-- Parts compared by equality. -/
def Part.plain : Part → Bool
  | .memory | .records | .layout => false
  | _ => true

/-- Named among the registers `w`, this set says that any register may change. -/
def Reg.every : Span := ⟨0, 0, 0, 0, 0⟩

/-- From `s` to `t` the state stays sound, and only the registers `w` and the parts `g` change. -/
structure Keeps (w : List Span) (g : List Part) (s t : State) : Prop where
  inv : Inv s → Inv t
  regs : Reg.every ∉ w → ∀ f : Field, f.lsb < 64 → (∀ r ∈ w, ¬ r.Has f.off) → t.rd f = s.rd f
  layout : Part.layout ∉ g → Part.layout.Same s t
  same : Part.memory ∉ g → Part.records ∉ g → t.mem = s.mem
  memory : Part.memory ∉ g → Part.layout ∉ g → Part.memory.Same s t
  plain : ∀ x : Part, x ∉ g → x.plain = true → x.Same s t

theorem layout_refl (s : State) : Part.layout.Same s s := ⟨fun _ => rfl, fun _ => rfl, fun _ => ⟨rfl, rfl⟩⟩

theorem layout_trans {s t u : State} (h : Part.layout.Same s t) (k : Part.layout.Same t u) : Part.layout.Same s u :=
  ⟨fun p => (k.1 p).trans (h.1 p), fun p => (k.2.1 p).trans (h.2.1 p),
   fun r => ⟨(k.2.2 r).1.trans (h.2.2 r).1, (k.2.2 r).2.trans (h.2.2 r).2⟩⟩

theorem recordByte_of_layout {s t : State} (h : Part.layout.Same s t) (a : Nat) : recordByte t a ↔ recordByte s a := by
  unfold recordByte
  refine exists_congr fun p => or_congr (exists_congr fun k => ?_) (or_congr ?_ (exists_congr fun e => ?_))
  · rw [(h.2.2 k).1, (h.2.2 k).2]
  · rw [h.2.1 p]
  · rw [h.1 p]

theorem plain_trans {x : Part} (hx : x.plain = true) {s t u : State} (h : x.Same s t) (k : x.Same t u) : x.Same s u := by
  cases x <;> simp_all [Part.plain, Part.Same]

theorem plain_refl {x : Part} (hx : x.plain = true) (s : State) : x.Same s s := by
  cases x <;> simp_all [Part.plain, Part.Same]

/-- A list within another, as a test. -/
def within {α : Type} [DecidableEq α] (l m : List α) : Bool := l.all (fun x => m.contains x)

theorem of_within {α : Type} [DecidableEq α] {l m : List α} (h : within l m = true) : l ⊆ m := by
  intro x hx
  have := (List.all_eq_true.1 h) x hx
  simpa using this

/-- Registers within others, as a test; any register may be among `Reg.every`. -/
def regsWithin (l m : List Span) : Bool := m.contains Reg.every || within l m

theorem of_regsWithin {l m : List Span} (h : regsWithin l m = true) : Reg.every ∉ m → l ⊆ m := by
  intro he
  unfold regsWithin at h
  rcases Bool.or_eq_true _ _ ▸ h with h | h
  · exact absurd (by simpa using h) he
  · exact of_within h

theorem within_trans {α : Type} [DecidableEq α] {k l m : List α} (h : within l m = true) (hk : within k l = true) :
    within k m = true :=
  List.all_eq_true.2 fun x hx => by simpa using of_within h (of_within hk hx)

theorem regsWithin_trans {k l m : List Span} (h : regsWithin l m = true) (hk : within k l = true) : regsWithin k m = true := by
  unfold regsWithin at h ⊢
  rcases Bool.or_eq_true _ _ ▸ h with h | h
  · rw [h, Bool.true_or]
  · rw [within_trans h hk, Bool.or_true]

namespace Keeps

variable {w : List Span} {g : List Part} {s t u : State}

protected theorem refl (s : State) : Keeps w g s s :=
  ⟨id, fun _ _ _ _ => rfl, fun _ => layout_refl s, fun _ _ => rfl, fun _ _ _ _ => rfl, fun _ _ h => plain_refl h s⟩

protected theorem trans (h : Keeps w g s t) (k : Keeps w g t u) : Keeps w g s u where
  inv i := k.inv (h.inv i)
  regs he f hf hw := (k.regs he f hf hw).trans (h.regs he f hf hw)
  layout hl := layout_trans (h.layout hl) (k.layout hl)
  same h1 h2 := (k.same h1 h2).trans (h.same h1 h2)
  memory h1 h2 a ha := (k.memory h1 h2 a (fun x => ha ((recordByte_of_layout (h.layout h2) a).1 x))).trans
    (h.memory h1 h2 a ha)
  plain x hx hp := plain_trans hp (h.plain x hx hp) (k.plain x hx hp)

theorem mono {w' : List Span} {g' : List Part} (h : Keeps w g s t) (hw : Reg.every ∉ w' → w ⊆ w') (hg : g ⊆ g') : Keeps w' g' s t where
  inv := h.inv
  regs he f hf hr := h.regs (fun x => he (hw he x)) f hf (fun r hr' => hr r (hw he hr'))
  layout hl := h.layout (fun x => hl (hg x))
  same h1 h2 := h.same (fun x => h1 (hg x)) (fun x => h2 (hg x))
  memory h1 h2 := h.memory (fun x => h1 (hg x)) (fun x => h2 (hg x))
  plain x hx hp := h.plain x (fun y => hx (hg y)) hp

/-- Go on after `h` by an operation that keeps less. -/
theorem then_ {w' : List Span} {g' : List Part} (k : Keeps w' g' t u) (hw : regsWithin w' w = true)
    (hg : within g' g = true) (h : Keeps w g s t) : Keeps w g s u := h.trans (k.mono (of_regsWithin hw) (of_within hg))

/-- The frame that `Keeps` gives. -/
theorem frame (h : Keeps w g s t) (h0 : Reg.every ∉ w) (h1 : Part.memory ∈ g ∨ Part.records ∉ g ∨ Part.layout ∉ g)
    (h2 : Part.memory ∈ g → Part.records ∈ g) : Frame w g s t := by
  refine ⟨h.regs h0, fun x hx => ?_⟩
  cases x with
  | memory =>
    intro a ha
    by_cases hr : Part.records ∈ g
    · have hl : Part.layout ∉ g := by tauto
      exact h.memory hx hl a ha
    · have := h.same hx hr; unfold readByte; rw [this]
  | records =>
    intro a _
    have hm : Part.memory ∉ g := fun c => hx (h2 c)
    have := h.same hm hx; unfold readByte; rw [this]
  | layout => exact h.layout hx
  | _ => exact h.plain _ hx rfl

/-- An update that leaves registers and memory alone. -/
theorem upd (hr : u.regs = t.regs) (hm : u.mem = t.mem)
    (hl : Part.layout ∈ g ∨ (u.par = t.par ∧ u.rng.shadows = t.rng.shadows ∧ u.rng.rings = t.rng.rings))
    (hp : ∀ x : Part, x ∉ g → x.plain = true → x.Same t u) (h : Keeps w g s t) : Keeps w g s u := by
  refine h.trans ⟨fun i => ?_, fun _ f _ _ => ?_, fun hl' => ?_, fun _ _ => hm, fun _ _ a _ => ?_, hp⟩
  · unfold Inv; rw [hr, hm]; exact i
  · unfold State.rd; rw [hr]
  · rcases hl with hl | ⟨h1, h2, h3⟩
    · exact absurd hl hl'
    · refine ⟨fun p => ?_, fun p => ?_, fun k => ?_⟩
      · unfold entryOf; rw [h1]
      · unfold shadowOf; rw [h2]
      · unfold ringAt; rw [h3]; exact ⟨rfl, rfl⟩
  · unfold readByte; rw [hm]

/-! A state with one field replaced. -/

theorem set_pending {x : List Instr} (hg : Part.pending ∈ g) (h : Keeps w g s t) :
    Keeps w g s { t with pending := x } :=
  upd (t := t) rfl rfl (.inr ⟨rfl, rfl, rfl⟩) (fun y hy hp => by
    cases y <;> first | rfl | exact ⟨rfl, rfl⟩ | exact ⟨rfl, rfl, rfl⟩ | exact absurd hp (by decide) | exact absurd hg hy) h

theorem set_now {x : Nat} (hg : Part.now ∈ g) (h : Keeps w g s t) :
    Keeps w g s { t with now := x } :=
  upd (t := t) rfl rfl (.inr ⟨rfl, rfl, rfl⟩) (fun y hy hp => by
    cases y <;> first | rfl | exact ⟨rfl, rfl⟩ | exact ⟨rfl, rfl, rfl⟩ | exact absurd hp (by decide) | exact absurd hg hy) h

theorem set_freeCtr {x : Nat} (hg : Part.freeCtr ∈ g) (h : Keeps w g s t) :
    Keeps w g s { t with freeCtr := x } :=
  upd (t := t) rfl rfl (.inr ⟨rfl, rfl, rfl⟩) (fun y hy hp => by
    cases y <;> first | rfl | exact ⟨rfl, rfl⟩ | exact ⟨rfl, rfl, rfl⟩ | exact absurd hp (by decide) | exact absurd hg hy) h

theorem set_latches {x : Tab (BitVec 32)} (hg : Part.latches ∈ g) (h : Keeps w g s t) :
    Keeps w g s { t with latches := x } :=
  upd (t := t) rfl rfl (.inr ⟨rfl, rfl, rfl⟩) (fun y hy hp => by
    cases y <;> first | rfl | exact ⟨rfl, rfl⟩ | exact ⟨rfl, rfl, rfl⟩ | exact absurd hp (by decide) | exact absurd hg hy) h

theorem set_spar {x : SparState} (hg : Part.spar ∈ g) (h : Keeps w g s t) :
    Keeps w g s { t with spar := x } :=
  upd (t := t) rfl rfl (.inr ⟨rfl, rfl, rfl⟩) (fun y hy hp => by
    cases y <;> first | rfl | exact ⟨rfl, rfl⟩ | exact ⟨rfl, rfl, rfl⟩ | exact absurd hp (by decide) | exact absurd hg hy) h

theorem set_dt {x : DtState} (hg : Part.dt ∈ g) (h : Keeps w g s t) :
    Keeps w g s { t with dt := x } :=
  upd (t := t) rfl rfl (.inr ⟨rfl, rfl, rfl⟩) (fun y hy hp => by
    cases y <;> first | rfl | exact ⟨rfl, rfl⟩ | exact ⟨rfl, rfl, rfl⟩ | exact absurd hp (by decide) | exact absurd hg hy) h

theorem set_evt {x : EvtState} (hg : Part.evt ∈ g) (h : Keeps w g s t) :
    Keeps w g s { t with evt := x } :=
  upd (t := t) rfl rfl (.inr ⟨rfl, rfl, rfl⟩) (fun y hy hp => by
    cases y <;> first | rfl | exact ⟨rfl, rfl⟩ | exact ⟨rfl, rfl, rfl⟩ | exact absurd hp (by decide) | exact absurd hg hy) h

theorem set_act {x : ActState} (hg : Part.act ∈ g) (h : Keeps w g s t) :
    Keeps w g s { t with act := x } :=
  upd (t := t) rfl rfl (.inr ⟨rfl, rfl, rfl⟩) (fun y hy hp => by
    cases y <;> first | rfl | exact ⟨rfl, rfl⟩ | exact ⟨rfl, rfl, rfl⟩ | exact absurd hp (by decide) | exact absurd hg hy) h

theorem set_chs {x : Tab Chn} (hg : Part.chs ∈ g) (h : Keeps w g s t) :
    Keeps w g s { t with chs := x } :=
  upd (t := t) rfl rfl (.inr ⟨rfl, rfl, rfl⟩) (fun y hy hp => by
    cases y <;> first | rfl | exact ⟨rfl, rfl⟩ | exact ⟨rfl, rfl, rfl⟩ | exact absurd hp (by decide) | exact absurd hg hy) h

theorem set_sns {x : SnsState} (hg : Part.sns ∈ g) (h : Keeps w g s t) :
    Keeps w g s { t with sns := x } :=
  upd (t := t) rfl rfl (.inr ⟨rfl, rfl, rfl⟩) (fun y hy hp => by
    cases y <;> first | rfl | exact ⟨rfl, rfl⟩ | exact ⟨rfl, rfl, rfl⟩ | exact absurd hp (by decide) | exact absurd hg hy) h

theorem set_sub {x : SubState} (hg : Part.sub ∈ g) (h : Keeps w g s t) :
    Keeps w g s { t with sub := x } :=
  upd (t := t) rfl rfl (.inr ⟨rfl, rfl, rfl⟩) (fun y hy hp => by
    cases y <;> first | rfl | exact ⟨rfl, rfl⟩ | exact ⟨rfl, rfl, rfl⟩ | exact absurd hp (by decide) | exact absurd hg hy) h

theorem set_brd {x : BrdState} (hg : Part.brd ∈ g) (h : Keeps w g s t) :
    Keeps w g s { t with brd := x } :=
  upd (t := t) rfl rfl (.inr ⟨rfl, rfl, rfl⟩) (fun y hy hp => by
    cases y <;> first | rfl | exact ⟨rfl, rfl⟩ | exact ⟨rfl, rfl, rfl⟩ | exact absurd hp (by decide) | exact absurd hg hy) h

theorem set_inf {x : InfState} (hg : Part.inf ∈ g) (h : Keeps w g s t) :
    Keeps w g s { t with inf := x } :=
  upd (t := t) rfl rfl (.inr ⟨rfl, rfl, rfl⟩) (fun y hy hp => by
    cases y <;> first | rfl | exact ⟨rfl, rfl⟩ | exact ⟨rfl, rfl, rfl⟩ | exact absurd hp (by decide) | exact absurd hg hy) h

theorem set_sto {x : StoState} (hg : Part.sto ∈ g) (h : Keeps w g s t) :
    Keeps w g s { t with sto := x } :=
  upd (t := t) rfl rfl (.inr ⟨rfl, rfl, rfl⟩) (fun y hy hp => by
    cases y <;> first | rfl | exact ⟨rfl, rfl⟩ | exact ⟨rfl, rfl, rfl⟩ | exact absurd hp (by decide) | exact absurd hg hy) h

theorem set_sec {x : SecState} (hg : Part.sec ∈ g) (h : Keeps w g s t) :
    Keeps w g s { t with sec := x } :=
  upd (t := t) rfl rfl (.inr ⟨rfl, rfl, rfl⟩) (fun y hy hp => by
    cases y <;> first | rfl | exact ⟨rfl, rfl⟩ | exact ⟨rfl, rfl, rfl⟩ | exact absurd hp (by decide) | exact absurd hg hy) h

theorem set_upd {x : UpdState} (hg : Part.upd ∈ g) (h : Keeps w g s t) :
    Keeps w g s { t with upd := x } :=
  upd (t := t) rfl rfl (.inr ⟨rfl, rfl, rfl⟩) (fun y hy hp => by
    cases y <;> first | rfl | exact ⟨rfl, rfl⟩ | exact ⟨rfl, rfl, rfl⟩ | exact absurd hp (by decide) | exact absurd hg hy) h

theorem set_flt {x : FltState} (hg : Part.flt ∈ g) (h : Keeps w g s t) :
    Keeps w g s { t with flt := x } :=
  upd (t := t) rfl rfl (.inr ⟨rfl, rfl, rfl⟩) (fun y hy hp => by
    cases y <;> first | rfl | exact ⟨rfl, rfl⟩ | exact ⟨rfl, rfl, rfl⟩ | exact absurd hp (by decide) | exact absurd hg hy) h

theorem set_out {x : List Emission} (hg : Part.out ∈ g) (h : Keeps w g s t) :
    Keeps w g s { t with out := x } :=
  upd (t := t) rfl rfl (.inr ⟨rfl, rfl, rfl⟩) (fun y hy hp => by
    cases y <;> first | rfl | exact ⟨rfl, rfl⟩ | exact ⟨rfl, rfl, rfl⟩ | exact absurd hp (by decide) | exact absurd hg hy) h

theorem set_par {x : ParState} (hg : Part.par ∈ g) (hl : Part.layout ∈ g) (h : Keeps w g s t) :
    Keeps w g s { t with par := x } :=
  upd (t := t) rfl rfl (.inl hl) (fun y hy hp => by
    cases y <;> first | rfl | exact ⟨rfl, rfl⟩ | exact ⟨rfl, rfl, rfl⟩ | exact absurd hp (by decide) | exact absurd hg hy) h

theorem set_pwr {x : PwrState} (h0 : Part.pwr ∈ g) (h1 : x.owed = t.pwr.owed) (h2 : x.unzeroed = t.pwr.unzeroed) (h : Keeps w g s t) :
    Keeps w g s { t with pwr := x } :=
  upd (t := t) rfl rfl (.inr ⟨rfl, rfl, rfl⟩) (fun y hy hp => by
    cases y <;> first | rfl | exact ⟨rfl, rfl⟩ | exact ⟨rfl, rfl, rfl⟩ | exact absurd hp (by decide) | exact absurd h0 hy | exact h1 | exact h2) h

theorem set_owed {x : PwrState} (h0 : { x with owed := [], unzeroed := [] } = { t.pwr with owed := [], unzeroed := [] }) (h1 : Part.owed ∈ g) (h2 : x.unzeroed = t.pwr.unzeroed) (h : Keeps w g s t) :
    Keeps w g s { t with pwr := x } :=
  upd (t := t) rfl rfl (.inr ⟨rfl, rfl, rfl⟩) (fun y hy hp => by
    cases y <;> first | rfl | exact ⟨rfl, rfl⟩ | exact ⟨rfl, rfl, rfl⟩ | exact absurd hp (by decide) | exact h0 | exact absurd h1 hy | exact h2) h

theorem set_banks {x : PwrState} (h0 : { x with owed := [], unzeroed := [] } = { t.pwr with owed := [], unzeroed := [] }) (h1 : x.owed = t.pwr.owed) (h2 : Part.banks ∈ g) (h : Keeps w g s t) :
    Keeps w g s { t with pwr := x } :=
  upd (t := t) rfl rfl (.inr ⟨rfl, rfl, rfl⟩) (fun y hy hp => by
    cases y <;> first | rfl | exact ⟨rfl, rfl⟩ | exact ⟨rfl, rfl, rfl⟩ | exact absurd hp (by decide) | exact h0 | exact h1 | exact absurd h2 hy) h

theorem set_pwr_owed {x : PwrState} (h0 : Part.pwr ∈ g) (h1 : Part.owed ∈ g) (h2 : x.unzeroed = t.pwr.unzeroed) (h : Keeps w g s t) :
    Keeps w g s { t with pwr := x } :=
  upd (t := t) rfl rfl (.inr ⟨rfl, rfl, rfl⟩) (fun y hy hp => by
    cases y <;> first | rfl | exact ⟨rfl, rfl⟩ | exact ⟨rfl, rfl, rfl⟩ | exact absurd hp (by decide) | exact absurd h0 hy | exact absurd h1 hy | exact h2) h

theorem set_pwr_banks {x : PwrState} (h0 : Part.pwr ∈ g) (h1 : x.owed = t.pwr.owed) (h2 : Part.banks ∈ g) (h : Keeps w g s t) :
    Keeps w g s { t with pwr := x } :=
  upd (t := t) rfl rfl (.inr ⟨rfl, rfl, rfl⟩) (fun y hy hp => by
    cases y <;> first | rfl | exact ⟨rfl, rfl⟩ | exact ⟨rfl, rfl, rfl⟩ | exact absurd hp (by decide) | exact absurd h0 hy | exact h1 | exact absurd h2 hy) h

theorem set_owed_banks {x : PwrState} (h0 : { x with owed := [], unzeroed := [] } = { t.pwr with owed := [], unzeroed := [] }) (h1 : Part.owed ∈ g) (h2 : Part.banks ∈ g) (h : Keeps w g s t) :
    Keeps w g s { t with pwr := x } :=
  upd (t := t) rfl rfl (.inr ⟨rfl, rfl, rfl⟩) (fun y hy hp => by
    cases y <;> first | rfl | exact ⟨rfl, rfl⟩ | exact ⟨rfl, rfl, rfl⟩ | exact absurd hp (by decide) | exact h0 | exact absurd h1 hy | exact absurd h2 hy) h

theorem set_pwr_owed_banks {x : PwrState} (h0 : Part.pwr ∈ g) (h1 : Part.owed ∈ g) (h2 : Part.banks ∈ g) (h : Keeps w g s t) :
    Keeps w g s { t with pwr := x } :=
  upd (t := t) rfl rfl (.inr ⟨rfl, rfl, rfl⟩) (fun y hy hp => by
    cases y <;> first | rfl | exact ⟨rfl, rfl⟩ | exact ⟨rfl, rfl, rfl⟩ | exact absurd hp (by decide) | exact absurd h0 hy | exact absurd h1 hy | exact absurd h2 hy) h

theorem set_tly {x : TlyState} (h0 : Part.tly ∈ g) (h1 : x.queue = t.tly.queue ∧ x.dropped = t.tly.dropped ∧ x.dropAfter = t.tly.dropAfter) (h : Keeps w g s t) :
    Keeps w g s { t with tly := x } :=
  upd (t := t) rfl rfl (.inr ⟨rfl, rfl, rfl⟩) (fun y hy hp => by
    cases y <;> first | rfl | exact ⟨rfl, rfl⟩ | exact ⟨rfl, rfl, rfl⟩ | exact absurd hp (by decide) | exact absurd h0 hy | exact h1) h

theorem set_queue {x : TlyState} (h0 : { x with queue := [], dropped := 0, dropAfter := 0 } = { t.tly with queue := [], dropped := 0, dropAfter := 0 }) (h1 : Part.queue ∈ g) (h : Keeps w g s t) :
    Keeps w g s { t with tly := x } :=
  upd (t := t) rfl rfl (.inr ⟨rfl, rfl, rfl⟩) (fun y hy hp => by
    cases y <;> first | rfl | exact ⟨rfl, rfl⟩ | exact ⟨rfl, rfl, rfl⟩ | exact absurd hp (by decide) | exact h0 | exact absurd h1 hy) h

theorem set_tly_queue {x : TlyState} (h0 : Part.tly ∈ g) (h1 : Part.queue ∈ g) (h : Keeps w g s t) :
    Keeps w g s { t with tly := x } :=
  upd (t := t) rfl rfl (.inr ⟨rfl, rfl, rfl⟩) (fun y hy hp => by
    cases y <;> first | rfl | exact ⟨rfl, rfl⟩ | exact ⟨rfl, rfl, rfl⟩ | exact absurd hp (by decide) | exact absurd h0 hy | exact absurd h1 hy) h

theorem set_chain {x : ChainState} (h0 : Part.chain ∈ g) (h1 : x.proxies = t.chain.proxies ∧ x.nextReq = t.chain.nextReq) (h : Keeps w g s t) :
    Keeps w g s { t with chain := x } :=
  upd (t := t) rfl rfl (.inr ⟨rfl, rfl, rfl⟩) (fun y hy hp => by
    cases y <;> first | rfl | exact ⟨rfl, rfl⟩ | exact ⟨rfl, rfl, rfl⟩ | exact absurd hp (by decide) | exact absurd h0 hy | exact h1) h

theorem set_proxies {x : ChainState} (h0 : { x with proxies := [], nextReq := 0 } = { t.chain with proxies := [], nextReq := 0 }) (h1 : Part.proxies ∈ g) (h : Keeps w g s t) :
    Keeps w g s { t with chain := x } :=
  upd (t := t) rfl rfl (.inr ⟨rfl, rfl, rfl⟩) (fun y hy hp => by
    cases y <;> first | rfl | exact ⟨rfl, rfl⟩ | exact ⟨rfl, rfl, rfl⟩ | exact absurd hp (by decide) | exact h0 | exact absurd h1 hy) h

theorem set_chain_proxies {x : ChainState} (h0 : Part.chain ∈ g) (h1 : Part.proxies ∈ g) (h : Keeps w g s t) :
    Keeps w g s { t with chain := x } :=
  upd (t := t) rfl rfl (.inr ⟨rfl, rfl, rfl⟩) (fun y hy hp => by
    cases y <;> first | rfl | exact ⟨rfl, rfl⟩ | exact ⟨rfl, rfl, rfl⟩ | exact absurd hp (by decide) | exact absurd h0 hy | exact absurd h1 hy) h

theorem set_scl {x : SclState} (h0 : Part.scl ∈ g) (h1 : x.loss = t.scl.loss ∧ x.lossParts = t.scl.lossParts) (h : Keeps w g s t) :
    Keeps w g s { t with scl := x } :=
  upd (t := t) rfl rfl (.inr ⟨rfl, rfl, rfl⟩) (fun y hy hp => by
    cases y <;> first | rfl | exact ⟨rfl, rfl⟩ | exact ⟨rfl, rfl, rfl⟩ | exact absurd hp (by decide) | exact absurd h0 hy | exact h1) h

theorem set_loss {x : SclState} (h0 : { x with loss := [], lossParts := [] } = { t.scl with loss := [], lossParts := [] }) (h1 : Part.loss ∈ g) (h : Keeps w g s t) :
    Keeps w g s { t with scl := x } :=
  upd (t := t) rfl rfl (.inr ⟨rfl, rfl, rfl⟩) (fun y hy hp => by
    cases y <;> first | rfl | exact ⟨rfl, rfl⟩ | exact ⟨rfl, rfl, rfl⟩ | exact absurd hp (by decide) | exact h0 | exact absurd h1 hy) h

theorem set_scl_loss {x : SclState} (h0 : Part.scl ∈ g) (h1 : Part.loss ∈ g) (h : Keeps w g s t) :
    Keeps w g s { t with scl := x } :=
  upd (t := t) rfl rfl (.inr ⟨rfl, rfl, rfl⟩) (fun y hy hp => by
    cases y <;> first | rfl | exact ⟨rfl, rfl⟩ | exact ⟨rfl, rfl, rfl⟩ | exact absurd hp (by decide) | exact absurd h0 hy | exact absurd h1 hy) h

theorem set_sw {x : SwState} (h0 : Part.sw ∈ g) (h1 : x.counters = t.sw.counters ∧ x.txSa = t.sw.txSa ∧ x.pnWarn = t.sw.pnWarn) (h : Keeps w g s t) :
    Keeps w g s { t with sw := x } :=
  upd (t := t) rfl rfl (.inr ⟨rfl, rfl, rfl⟩) (fun y hy hp => by
    cases y <;> first | rfl | exact ⟨rfl, rfl⟩ | exact ⟨rfl, rfl, rfl⟩ | exact absurd hp (by decide) | exact absurd h0 hy | exact h1) h

theorem set_wire {x : SwState} (h0 : { x with counters := [], txSa := [], pnWarn := [] } = { t.sw with counters := [], txSa := [], pnWarn := [] }) (h1 : Part.wire ∈ g) (h : Keeps w g s t) :
    Keeps w g s { t with sw := x } :=
  upd (t := t) rfl rfl (.inr ⟨rfl, rfl, rfl⟩) (fun y hy hp => by
    cases y <;> first | rfl | exact ⟨rfl, rfl⟩ | exact ⟨rfl, rfl, rfl⟩ | exact absurd hp (by decide) | exact h0 | exact absurd h1 hy) h

theorem set_sw_wire {x : SwState} (h0 : Part.sw ∈ g) (h1 : Part.wire ∈ g) (h : Keeps w g s t) :
    Keeps w g s { t with sw := x } :=
  upd (t := t) rfl rfl (.inr ⟨rfl, rfl, rfl⟩) (fun y hy hp => by
    cases y <;> first | rfl | exact ⟨rfl, rfl⟩ | exact ⟨rfl, rfl, rfl⟩ | exact absurd hp (by decide) | exact absurd h0 hy | exact absurd h1 hy) h

theorem set_rng {x : RngState} (hg : Part.rng ∈ g) (hs : x.rings = t.rng.rings) (hr : x.shadows = t.rng.shadows) (h : Keeps w g s t) :
    Keeps w g s { t with rng := x } :=
  upd (t := t) rfl rfl (.inr ⟨rfl, hr, hs⟩) (fun y hy hp => by
    cases y <;> first | rfl | exact ⟨rfl, rfl⟩ | exact ⟨rfl, rfl, rfl⟩ | exact absurd hp (by decide) | exact absurd hg hy | exact hs) h

theorem set_rings {x : RngState} (hg : Part.rings ∈ g) (hl : Part.layout ∈ g) (hs : { x with rings := [] } = { t.rng with rings := [] }) (h : Keeps w g s t) :
    Keeps w g s { t with rng := x } :=
  upd (t := t) rfl rfl (.inl hl) (fun y hy hp => by
    cases y <;> first | rfl | exact ⟨rfl, rfl⟩ | exact ⟨rfl, rfl, rfl⟩ | exact absurd hp (by decide) | exact absurd hg hy | exact hs) h

theorem set_rng_layout {x : RngState} (hg : Part.rng ∈ g) (hl : Part.layout ∈ g) (hs : x.rings = t.rng.rings) (h : Keeps w g s t) :
    Keeps w g s { t with rng := x } :=
  upd (t := t) rfl rfl (.inl hl) (fun y hy hp => by
    cases y <;> first | rfl | exact ⟨rfl, rfl⟩ | exact ⟨rfl, rfl, rfl⟩ | exact absurd hp (by decide) | exact absurd hg hy | exact hs) h

theorem set_rng_rings {x : RngState} (hg : Part.rng ∈ g) (hs : Part.rings ∈ g) (hl : Part.layout ∈ g) (h : Keeps w g s t) :
    Keeps w g s { t with rng := x } :=
  upd (t := t) rfl rfl (.inl hl) (fun y hy hp => by
    cases y <;> first | rfl | exact ⟨rfl, rfl⟩ | exact ⟨rfl, rfl, rfl⟩ | exact absurd hp (by decide) | exact absurd hg hy | exact absurd hs hy) h

/-- A state whose registers or memory are replaced. -/
theorem anew (he : Reg.every ∈ w) (hm : Part.memory ∈ g) (hl : Part.layout ∈ g) (hi : Inv t → Inv u)
    (hp : ∀ x : Part, x ∉ g → x.plain = true → x.Same t u) (h : Keeps w g s t) : Keeps w g s u :=
  h.trans ⟨hi, fun x => absurd he x, fun x => absurd hl x, fun x => absurd hm x, fun x => absurd hm x, hp⟩

/-- A state whose memory is replaced. -/
theorem remem {xpending : List Instr} {xnow : Nat} {xfreeCtr : Nat} {xlatches : Tab (BitVec 32)} {xmem : List Host.Cell} {xspar : SparState} {xdt : DtState} {xpwr : PwrState} {xpar : ParState} {xrng : RngState} {xevt : EvtState} {xtly : TlyState} {xchain : ChainState} {xact : ActState} {xchs : Tab Chn} {xscl : SclState} {xsns : SnsState} {xsw : SwState} {xsub : SubState} {xbrd : BrdState} {xinf : InfState} {xsto : StoState} {xsec : SecState} {xupd : UpdState} {xflt : FltState} {xout : List Emission}
    (hm : Part.memory ∈ g) (hi : Memory.wf t.mem → Memory.wf xmem) (hl : xpar = t.par ∧ xrng = t.rng)
    (hp : (Part.pending ∈ g ∨ xpending = t.pending) ∧
      (Part.now ∈ g ∨ xnow = t.now) ∧
      (Part.freeCtr ∈ g ∨ xfreeCtr = t.freeCtr) ∧
      (Part.latches ∈ g ∨ xlatches = t.latches) ∧
      (Part.spar ∈ g ∨ xspar = t.spar) ∧
      (Part.dt ∈ g ∨ xdt = t.dt) ∧
      (Part.pwr ∈ g ∨ { xpwr with owed := [], unzeroed := [] } = { t.pwr with owed := [], unzeroed := [] }) ∧
      (Part.owed ∈ g ∨ xpwr.owed = t.pwr.owed) ∧
      (Part.banks ∈ g ∨ xpwr.unzeroed = t.pwr.unzeroed) ∧
      (Part.par ∈ g ∨ xpar = t.par) ∧
      (Part.rng ∈ g ∨ { xrng with rings := [] } = { t.rng with rings := [] }) ∧
      (Part.rings ∈ g ∨ xrng.rings = t.rng.rings) ∧
      (Part.evt ∈ g ∨ xevt = t.evt) ∧
      (Part.tly ∈ g ∨ { xtly with queue := [], dropped := 0, dropAfter := 0 } = { t.tly with queue := [], dropped := 0, dropAfter := 0 }) ∧
      (Part.queue ∈ g ∨ (xtly.queue = t.tly.queue ∧ xtly.dropped = t.tly.dropped ∧ xtly.dropAfter = t.tly.dropAfter)) ∧
      (Part.chain ∈ g ∨ { xchain with proxies := [], nextReq := 0 } = { t.chain with proxies := [], nextReq := 0 }) ∧
      (Part.proxies ∈ g ∨ (xchain.proxies = t.chain.proxies ∧ xchain.nextReq = t.chain.nextReq)) ∧
      (Part.act ∈ g ∨ xact = t.act) ∧
      (Part.chs ∈ g ∨ xchs = t.chs) ∧
      (Part.scl ∈ g ∨ { xscl with loss := [], lossParts := [] } = { t.scl with loss := [], lossParts := [] }) ∧
      (Part.loss ∈ g ∨ (xscl.loss = t.scl.loss ∧ xscl.lossParts = t.scl.lossParts)) ∧
      (Part.sns ∈ g ∨ xsns = t.sns) ∧
      (Part.sw ∈ g ∨ { xsw with counters := [], txSa := [], pnWarn := [] } = { t.sw with counters := [], txSa := [], pnWarn := [] }) ∧
      (Part.wire ∈ g ∨ (xsw.counters = t.sw.counters ∧ xsw.txSa = t.sw.txSa ∧ xsw.pnWarn = t.sw.pnWarn)) ∧
      (Part.sub ∈ g ∨ xsub = t.sub) ∧
      (Part.brd ∈ g ∨ xbrd = t.brd) ∧
      (Part.inf ∈ g ∨ xinf = t.inf) ∧
      (Part.sto ∈ g ∨ xsto = t.sto) ∧
      (Part.sec ∈ g ∨ xsec = t.sec) ∧
      (Part.upd ∈ g ∨ xupd = t.upd) ∧
      (Part.flt ∈ g ∨ xflt = t.flt) ∧
      (Part.out ∈ g ∨ xout = t.out))
    (h : Keeps w g s t) : Keeps w g s (State.mk xpending xnow xfreeCtr t.regs xlatches xmem xspar xdt xpwr xpar xrng xevt xtly xchain xact xchs xscl xsns xsw xsub xbrd xinf xsto xsec xupd xflt xout) := by
  obtain ⟨hpending, hnow, hfreeCtr, hlatches, hspar, hdt, hpwr, howed, hbanks, hpar, hrng, hrings, hevt, htly, hqueue, hchain, hproxies, hact, hchs, hscl, hloss, hsns, hsw, hwire, hsub, hbrd, hinf, hsto, hsec, hupd, hflt, hout⟩ := hp
  refine h.trans ⟨fun i => ⟨hi i.1, i.2⟩, fun _ f _ _ => rfl,
    fun _ => ⟨fun p => by unfold entryOf; rw [hl.1], fun p => by unfold shadowOf; rw [hl.2],
      fun k => by unfold ringAt; rw [hl.2]; exact ⟨rfl, rfl⟩⟩, fun x => absurd hm x, fun x => absurd hm x,
    fun x hx hp => ?_⟩
  cases x
  case pending => exact hpending.resolve_left hx
  case now => exact hnow.resolve_left hx
  case freeCtr => exact hfreeCtr.resolve_left hx
  case latches => exact hlatches.resolve_left hx
  case spar => exact hspar.resolve_left hx
  case dt => exact hdt.resolve_left hx
  case pwr => exact hpwr.resolve_left hx
  case owed => exact howed.resolve_left hx
  case banks => exact hbanks.resolve_left hx
  case par => exact hpar.resolve_left hx
  case rng => exact hrng.resolve_left hx
  case rings => exact hrings.resolve_left hx
  case evt => exact hevt.resolve_left hx
  case tly => exact htly.resolve_left hx
  case queue => exact hqueue.resolve_left hx
  case chain => exact hchain.resolve_left hx
  case proxies => exact hproxies.resolve_left hx
  case act => exact hact.resolve_left hx
  case chs => exact hchs.resolve_left hx
  case scl => exact hscl.resolve_left hx
  case loss => exact hloss.resolve_left hx
  case sns => exact hsns.resolve_left hx
  case sw => exact hsw.resolve_left hx
  case wire => exact hwire.resolve_left hx
  case sub => exact hsub.resolve_left hx
  case brd => exact hbrd.resolve_left hx
  case inf => exact hinf.resolve_left hx
  case sto => exact hsto.resolve_left hx
  case sec => exact hsec.resolve_left hx
  case upd => exact hupd.resolve_left hx
  case flt => exact hflt.resolve_left hx
  case out => exact hout.resolve_left hx
  all_goals exact absurd hp (by decide)

/-- A state built from another one's registers and memory. -/
theorem rebuilt {xpending : List Instr} {xnow : Nat} {xfreeCtr : Nat} {xlatches : Tab (BitVec 32)} {xspar : SparState} {xdt : DtState} {xpwr : PwrState} {xpar : ParState} {xrng : RngState} {xevt : EvtState} {xtly : TlyState} {xchain : ChainState} {xact : ActState} {xchs : Tab Chn} {xscl : SclState} {xsns : SnsState} {xsw : SwState} {xsub : SubState} {xbrd : BrdState} {xinf : InfState} {xsto : StoState} {xsec : SecState} {xupd : UpdState} {xflt : FltState} {xout : List Emission}
    (hl : Part.layout ∈ g ∨ (xpar = t.par ∧ xrng.shadows = t.rng.shadows ∧ xrng.rings = t.rng.rings))
    (hp : (Part.pending ∈ g ∨ xpending = t.pending) ∧
      (Part.now ∈ g ∨ xnow = t.now) ∧
      (Part.freeCtr ∈ g ∨ xfreeCtr = t.freeCtr) ∧
      (Part.latches ∈ g ∨ xlatches = t.latches) ∧
      (Part.spar ∈ g ∨ xspar = t.spar) ∧
      (Part.dt ∈ g ∨ xdt = t.dt) ∧
      (Part.pwr ∈ g ∨ { xpwr with owed := [], unzeroed := [] } = { t.pwr with owed := [], unzeroed := [] }) ∧
      (Part.owed ∈ g ∨ xpwr.owed = t.pwr.owed) ∧
      (Part.banks ∈ g ∨ xpwr.unzeroed = t.pwr.unzeroed) ∧
      (Part.par ∈ g ∨ xpar = t.par) ∧
      (Part.rng ∈ g ∨ { xrng with rings := [] } = { t.rng with rings := [] }) ∧
      (Part.rings ∈ g ∨ xrng.rings = t.rng.rings) ∧
      (Part.evt ∈ g ∨ xevt = t.evt) ∧
      (Part.tly ∈ g ∨ { xtly with queue := [], dropped := 0, dropAfter := 0 } = { t.tly with queue := [], dropped := 0, dropAfter := 0 }) ∧
      (Part.queue ∈ g ∨ (xtly.queue = t.tly.queue ∧ xtly.dropped = t.tly.dropped ∧ xtly.dropAfter = t.tly.dropAfter)) ∧
      (Part.chain ∈ g ∨ { xchain with proxies := [], nextReq := 0 } = { t.chain with proxies := [], nextReq := 0 }) ∧
      (Part.proxies ∈ g ∨ (xchain.proxies = t.chain.proxies ∧ xchain.nextReq = t.chain.nextReq)) ∧
      (Part.act ∈ g ∨ xact = t.act) ∧
      (Part.chs ∈ g ∨ xchs = t.chs) ∧
      (Part.scl ∈ g ∨ { xscl with loss := [], lossParts := [] } = { t.scl with loss := [], lossParts := [] }) ∧
      (Part.loss ∈ g ∨ (xscl.loss = t.scl.loss ∧ xscl.lossParts = t.scl.lossParts)) ∧
      (Part.sns ∈ g ∨ xsns = t.sns) ∧
      (Part.sw ∈ g ∨ { xsw with counters := [], txSa := [], pnWarn := [] } = { t.sw with counters := [], txSa := [], pnWarn := [] }) ∧
      (Part.wire ∈ g ∨ (xsw.counters = t.sw.counters ∧ xsw.txSa = t.sw.txSa ∧ xsw.pnWarn = t.sw.pnWarn)) ∧
      (Part.sub ∈ g ∨ xsub = t.sub) ∧
      (Part.brd ∈ g ∨ xbrd = t.brd) ∧
      (Part.inf ∈ g ∨ xinf = t.inf) ∧
      (Part.sto ∈ g ∨ xsto = t.sto) ∧
      (Part.sec ∈ g ∨ xsec = t.sec) ∧
      (Part.upd ∈ g ∨ xupd = t.upd) ∧
      (Part.flt ∈ g ∨ xflt = t.flt) ∧
      (Part.out ∈ g ∨ xout = t.out))
    (h : Keeps w g s t) : Keeps w g s (State.mk xpending xnow xfreeCtr t.regs xlatches t.mem xspar xdt xpwr xpar xrng xevt xtly xchain xact xchs xscl xsns xsw xsub xbrd xinf xsto xsec xupd xflt xout) := by
  obtain ⟨hpending, hnow, hfreeCtr, hlatches, hspar, hdt, hpwr, howed, hbanks, hpar, hrng, hrings, hevt, htly, hqueue, hchain, hproxies, hact, hchs, hscl, hloss, hsns, hsw, hwire, hsub, hbrd, hinf, hsto, hsec, hupd, hflt, hout⟩ := hp
  refine upd (t := t) rfl rfl hl (fun x hx hp => ?_) h
  cases x
  case pending => exact hpending.resolve_left hx
  case now => exact hnow.resolve_left hx
  case freeCtr => exact hfreeCtr.resolve_left hx
  case latches => exact hlatches.resolve_left hx
  case spar => exact hspar.resolve_left hx
  case dt => exact hdt.resolve_left hx
  case pwr => exact hpwr.resolve_left hx
  case owed => exact howed.resolve_left hx
  case banks => exact hbanks.resolve_left hx
  case par => exact hpar.resolve_left hx
  case rng => exact hrng.resolve_left hx
  case rings => exact hrings.resolve_left hx
  case evt => exact hevt.resolve_left hx
  case tly => exact htly.resolve_left hx
  case queue => exact hqueue.resolve_left hx
  case chain => exact hchain.resolve_left hx
  case proxies => exact hproxies.resolve_left hx
  case act => exact hact.resolve_left hx
  case chs => exact hchs.resolve_left hx
  case scl => exact hscl.resolve_left hx
  case loss => exact hloss.resolve_left hx
  case sns => exact hsns.resolve_left hx
  case sw => exact hsw.resolve_left hx
  case wire => exact hwire.resolve_left hx
  case sub => exact hsub.resolve_left hx
  case brd => exact hbrd.resolve_left hx
  case inf => exact hinf.resolve_left hx
  case sto => exact hsto.resolve_left hx
  case sec => exact hsec.resolve_left hx
  case upd => exact hupd.resolve_left hx
  case flt => exact hflt.resolve_left hx
  case out => exact hout.resolve_left hx
  all_goals exact absurd hp (by decide)

theorem foldl {β : Type} {f : State → β → State} (hf : ∀ t x, Keeps w g t (f t x)) (l : List β) (h : Keeps w g s t) :
    Keeps w g s (l.foldl f t) := by
  induction l generalizing t with
  | nil => exact h
  | cons x xs ih => exact ih (h.trans (hf t x))

theorem foldr {β : Type} {f : β → State → State} (hf : ∀ t x, Keeps w g t (f x t)) (l : List β) (h : Keeps w g s t) :
    Keeps w g s (l.foldr f t) := by
  induction l with
  | nil => exact h
  | cons x xs ih => exact ih.trans (hf _ x)

/-- The state in a pair that an operation answers. -/
theorem ofFst {β : Type} {x : State × β} {b : β} (e : x = (t, b)) (h : Keeps w g s x.1) : Keeps w g s t := by
  subst e; exact h

/-- A state under a name. -/
theorem ofEq (e : u = t) (h : Keeps w g s t) : Keeps w g s u := by
  subst e; exact h

theorem ofSnd {β : Type} {x : β × State} {b : β} (e : x = (b, t)) (h : Keeps w g s x.2) : Keeps w g s t := by
  subst e; exact h

theorem ite {c : Prop} [Decidable c] (h1 : c → Keeps w g s t) (h2 : ¬ c → Keeps w g s u) :
    Keeps w g s (if c then t else u) := by
  split
  · exact h1 ‹_›
  · exact h2 ‹_›

end Keeps

/-- Every next state of an outcome keeps. -/
def KeepsR (w : List Span) (g : List Part) (s : State) (r : Res) : Prop := ∀ t, r = .next t → Keeps w g s t

theorem KeepsR.next {w : List Span} {g : List Part} {s t : State} (h : Keeps w g s t) : KeepsR w g s (.next t) := by
  intro u hu; cases hu; exact h

theorem KeepsR.mono {w w' : List Span} {g g' : List Part} {s : State} {r : Res} (h : KeepsR w' g' s r)
    (hw : regsWithin w' w = true) (hg : within g' g = true) : KeepsR w g s r :=
  fun t e => (h t e).mono (of_regsWithin hw) (of_within hg)

theorem KeepsR.whileCd {w : List Span} {g : List Part} {s t : State} (h : Keeps w g s t) :
    KeepsR w g s (whileCd s t) := by
  unfold Sys2Proof.Machine.whileCd
  exact KeepsR.next (Keeps.ite (fun _ => h) (fun _ => Keeps.refl s))

/-- The state an operation answers, if any, keeps. -/
abbrev KeepsO (w : List Span) (g : List Part) (s : State) (o : Option State) : Prop := ∀ u, o = some u → Keeps w g s u

namespace KeepsO

variable {w : List Span} {g : List Part} {s t : State}

theorem mono {w' : List Span} {g' : List Part} {o : Option State} (h : KeepsO w' g' s o) (hw : regsWithin w' w = true)
    (hg : within g' g = true) : KeepsO w g s o :=
  fun t e => (h t e).mono (of_regsWithin hw) (of_within hg)

theorem orElse {a b : Option State} (h1 : KeepsO w g s a) (h2 : KeepsO w g s b) : KeepsO w g s (a <|> b) := by
  cases a with
  | none => simpa using h2
  | some x => simpa using h1

theorem some (h : Keeps w g s t) : KeepsO w g s (some t) := by
  intro u e; cases e; exact h

theorem none : KeepsO w g s none := by
  intro u e; cases e

theorem ite {c : Prop} [Decidable c] {a b : Option State} (h1 : c → KeepsO w g s a) (h2 : ¬ c → KeepsO w g s b) :
    KeepsO w g s (if c then a else b) := by
  split
  · exact h1 ‹_›
  · exact h2 ‹_›

end KeepsO

/-! ### Register fields -/

/-- Setting one field leaves every field with another key. -/
theorem rd_wr_key (s : State) {f h : Field} (v : Nat) (hn : f.key ≠ h.key) : (s.wr h v).rd f = s.rd f := by
  unfold State.rd State.wr tabGet
  simp only
  have : tabFind (tabSet (BitVec.ofNat 64 h.reset) s.regs h.key (BitVec.ofNat 64 (v % 2 ^ h.width))) f.key
      = tabFind s.regs f.key := by
    unfold tabSet
    split
    · rw [tabFind_del, if_neg hn]
    · rw [tabFind_put, if_neg hn]
  rw [this]

/-- Setting one field leaves the fields of every other register. -/
theorem rd_wr_off (s : State) {f h : Field} (v : Nat) (hf : f.lsb < 64) (hh : h.lsb < 64) (hn : f.off ≠ h.off) :
    (s.wr h v).rd f = s.rd f :=
  rd_wr_key s v (by unfold Field.key fieldKey; omega)

/-- A field just set holds the value, cut to its width. -/
theorem rd_wr_same (s : State) (f : Field) (v : Nat) (hw : f.width ≤ 64) : (s.wr f v).rd f = v % 2 ^ f.width := by
  unfold State.rd State.wr
  simp only [tabGet_set_same, BitVec.toNat_ofNat]
  exact Nat.mod_eq_of_lt (lt_of_lt_of_le (Nat.mod_lt _ (by positivity)) (Nat.pow_le_pow_right (by norm_num) hw))

namespace Keeps

variable {w : List Span} {g : List Part} {s t u : State}

theorem wr {r : Span} {f : Field} {v : Nat} (hf : f.In r) (hr : r ∈ w) (h : Keeps w g s t) : Keeps w g s (t.wr f v) := by
  refine h.trans ⟨fun i => ⟨i.1, tabSet_sorted _ _ _ _ i.2⟩, fun _ k hk hw => ?_, fun _ => ⟨fun _ => rfl, fun _ => rfl,
    fun _ => ⟨rfl, rfl⟩⟩, fun _ _ => rfl, fun _ _ _ _ => rfl, fun x _ hp => ?_⟩
  · exact rd_wr_off t v hk hf.2 (fun e => hw r hr (e ▸ hf.1))
  · cases x <;> simp_all [Part.plain, Part.Same, State.wr]

/-- Any field, where any register may change. -/
theorem wrEvery {f : Field} {v : Nat} (he : Reg.every ∈ w) (h : Keeps w g s t) : Keeps w g s (t.wr f v) :=
  h.trans ⟨fun i => ⟨i.1, tabSet_sorted _ _ _ _ i.2⟩, fun x => absurd he x, fun _ => layout_refl t, fun _ _ => rfl,
    fun _ _ _ _ => rfl, fun x _ hp => by cases x <;> simp_all [Part.plain, Part.Same, State.wr]⟩

theorem putEvery {f : Field} {b : Bool} (he : Reg.every ∈ w) (h : Keeps w g s t) : Keeps w g s (t.put f b) :=
  h.wrEvery he

theorem bumpEvery {f : Field} {n : Nat} (he : Reg.every ∈ w) (h : Keeps w g s t) : Keeps w g s (t.bump f n) :=
  h.wrEvery he

theorem orFEvery {f : Field} {n : Nat} (he : Reg.every ∈ w) (h : Keeps w g s t) : Keeps w g s (t.orF f n) :=
  h.wrEvery he

theorem wrIntEvery {f : Field} {z : Int} (he : Reg.every ∈ w) (h : Keeps w g s t) : Keeps w g s (t.wrInt f z) :=
  h.wrEvery he

theorem wrAny {l : List Span} {f : Field} {v : Nat} (hf : ∃ r ∈ l, f.In r) (hl : within l w = true)
    (h : Keeps w g s t) : Keeps w g s (t.wr f v) := by
  obtain ⟨r, hr, hf⟩ := hf
  exact h.wr hf (of_within hl hr)

theorem putAny {l : List Span} {f : Field} {b : Bool} (hf : ∃ r ∈ l, f.In r) (hl : within l w = true)
    (h : Keeps w g s t) : Keeps w g s (t.put f b) := h.wrAny hf hl

theorem wrIntAny {l : List Span} {f : Field} {z : Int} (hf : ∃ r ∈ l, f.In r) (hl : within l w = true)
    (h : Keeps w g s t) : Keeps w g s (t.wrInt f z) := h.wrAny hf hl

theorem put {r : Span} {f : Field} {b : Bool} (hf : f.In r) (hr : r ∈ w) (h : Keeps w g s t) :
    Keeps w g s (t.put f b) := h.wr hf hr

theorem bump {r : Span} {f : Field} {n : Nat} (hf : f.In r) (hr : r ∈ w) (h : Keeps w g s t) :
    Keeps w g s (t.bump f n) := h.wr hf hr

theorem orF {r : Span} {f : Field} {n : Nat} (hf : f.In r) (hr : r ∈ w) (h : Keeps w g s t) :
    Keeps w g s (t.orF f n) := h.wr hf hr

theorem wrInt {r : Span} {f : Field} {z : Int} (hf : f.In r) (hr : r ∈ w) (h : Keeps w g s t) :
    Keeps w g s (t.wrInt f z) := h.wr hf hr

end Keeps

/-! ### Memory -/

/-- One byte written: it reads back where memory is, and every other byte is as before. -/
theorem memWrite_wf (m : List Host.Cell) (a : Nat) (bs : List Byte) (h : Memory.wf m) : Memory.wf (memWrite m a bs) := by
  induction bs generalizing m a with
  | nil => exact h
  | cons b bs ih =>
    unfold memWrite
    refine ih _ _ ?_
    split
    · rename_i c
      refine ⟨tabSet_wf _ _ _ _ h.1, fun e he => ?_⟩
      rcases mem_tabSet _ _ _ _ e he with ⟨rfl, _⟩ | he
      · simpa using c
      · exact h.2 e he
    · exact h

theorem memKeep_wf (p : Nat → Bool) (m : List Host.Cell) (h : Memory.wf m) : Memory.wf (tabKeep p m) :=
  ⟨tabKeep_wf p 0 m h.1, fun e he => h.2 e (List.mem_of_mem_filter he)⟩

/-- Bytes outside the range written are as before. -/
theorem memWrite_out (m : List Host.Cell) (a x : Nat) (bs : List Byte) (h : x < a ∨ a + bs.length ≤ x) :
    tabGet 0 (memWrite m a bs) x = tabGet 0 m x := by
  induction bs generalizing m a with
  | nil => rfl
  | cons b bs ih =>
    simp only [List.length_cons] at h
    unfold memWrite
    rw [ih _ _ (by omega)]
    split
    · exact tabGet_set_other _ _ _ (by omega)
    · rfl

theorem readByte_writeBytes_out (s : State) (a x : Nat) (bs : List Byte) (h : x < a ∨ a + bs.length ≤ x) :
    readByte (writeBytes s a bs) x = readByte s x := memWrite_out s.mem a x bs h

/-- Bytes of memory just written read back. -/
theorem memWrite_in (m : List Host.Cell) (a i : Nat) (bs : List Byte) (hi : i < bs.length)
    (h : inSram (a + i) = true ∨ inTcm (a + i) = true) : tabGet 0 (memWrite m a bs) (a + i) = bs[i] := by
  induction bs generalizing m a i with
  | nil => simp at hi
  | cons b bs ih =>
    unfold memWrite
    cases i with
    | zero =>
      rw [memWrite_out _ _ _ _ (by omega)]
      have : (inSram a || inTcm a) = true := by simpa using h
      simp [this]
    | succ k =>
      have e : a + (k + 1) = a + 1 + k := by omega
      have hk : k < bs.length := by simpa using hi
      rw [e]
      rw [ih _ (a + 1) k hk (by rw [← e]; exact h)]
      simp

theorem readByte_writeBytes_in (s : State) (a i : Nat) (bs : List Byte) (hi : i < bs.length)
    (h : inSram (a + i) = true ∨ inTcm (a + i) = true) : readByte (writeBytes s a bs) (a + i) = bs[i] :=
  memWrite_in s.mem a i bs hi h

theorem writeBytes_same (s : State) (a : Nat) (bs : List Byte) {x : Part} (hp : x.plain = true) :
    x.Same s (writeBytes s a bs) := by
  cases x <;> simp_all [Part.plain, Part.Same, writeBytes]

theorem writeBytes_inv (s : State) (a : Nat) (bs : List Byte) (h : Inv s) : Inv (writeBytes s a bs) :=
  ⟨memWrite_wf _ _ _ h.1, h.2⟩

namespace Keeps

variable {w : List Span} {g : List Part} {s t u : State}

/-- Bytes written anywhere. -/
theorem writeBytes {a : Nat} {bs : List Byte} (hm : Part.memory ∈ g) (h : Keeps w g s t) :
    Keeps w g s (writeBytes t a bs) :=
  h.trans ⟨writeBytes_inv t a bs, fun _ _ _ _ => rfl, fun _ => layout_refl t, fun x => absurd hm x, fun x => absurd hm x,
    fun _ _ hp => writeBytes_same t a bs hp⟩

/-- Bytes written within the device's own records. -/
theorem writeRecord {a : Nat} {bs : List Byte} (hm : Part.records ∈ g)
    (hb : ∀ x, a ≤ x → x < a + bs.length → recordByte t x) (h : Keeps w g s t) :
    Keeps w g s (Machine.writeBytes t a bs) :=
  h.trans ⟨writeBytes_inv t a bs, fun _ _ _ _ => rfl, fun _ => layout_refl t, fun _ x => absurd hm x,
    fun _ _ x hx => readByte_writeBytes_out t a x bs (by
      by_contra c; push Not at c; exact hx (hb x c.1 c.2)),
    fun _ _ hp => writeBytes_same t a bs hp⟩

end Keeps

end Sys2Proof.Machine
end

