-- ==== Sys2Proof/Laws/Bytes.lean ====
section
/-! SUPPORT.
Lengths of the byte structures the device writes, and where its records lie.
-/

namespace Sys2Proof.Machine

@[simp] theorem leBytes_length (k n : Nat) : (leBytes k n).length = k := by
  induction k generalizing n with
  | zero => rfl
  | succ k ih => simp [leBytes, ih]

@[simp] theorem beBytes_length (k n : Nat) : (beBytes k n).length = k := by simp [beBytes]

@[simp] theorem slice_length (l : List Byte) (i k : Nat) : (slice l i k).length = k := by
  simp only [slice, List.length_append, List.length_replicate]
  have : ((l.drop i).take k).length ≤ k := List.length_take_le _ _
  omega

@[simp] theorem padTo_length (n : Nat) (l : List Byte) : (padTo n l).length = n := slice_length l 0 n

theorem eventBytes_length (r : EvRec) (phase : Nat) : (eventBytes r phase).length = 32 := by simp [eventBytes]

theorem complBytes_length (h : DHdr) (opcode status epoch time phase : Nat) (result : List Byte) :
    (complBytes h opcode status epoch time phase result).length = 32 := by simp [complBytes]

/-- A record's slot lies within its ring. -/
theorem slotAddr_bounds (g : Ring) (n : Nat) {x : Nat} (h1 : slotAddr g n ≤ x) (h2 : x < slotAddr g n + n) :
    g.phys ≤ x ∧ x < g.phys + 2 ^ g.size * n := by
  unfold slotAddr at h1 h2
  have hm : g.prod % 2 ^ g.size + 1 ≤ 2 ^ g.size := Nat.mod_lt _ (by positivity)
  have hmul := Nat.mul_le_mul_right n hm
  rw [Nat.add_mul, one_mul] at hmul
  exact ⟨by omega, by omega⟩

namespace Keeps

variable {w : List Span} {g : List Part} {s t : State}

/-- A ring set with its place and size unchanged. -/
theorem setIdx {k : Nat} {r : Ring} (hr : Part.rings ∈ g) (h1 : r.phys = (ringAt t k).phys)
    (h2 : r.size = (ringAt t k).size) (h : Keeps w g s t) : Keeps w g s (setRing t k r) := by
  refine h.trans ⟨id, fun _ _ _ _ => rfl, fun _ => ⟨fun _ => rfl, fun _ => rfl, fun j => ?_⟩, fun _ _ => rfl,
    fun _ _ _ _ => rfl, fun x hx hp => ?_⟩
  · unfold setRing ringAt
    simp only [tabGet_set]
    split
    · rename_i e; subst e; exact ⟨h1, h2⟩
    · exact ⟨rfl, rfl⟩
  · cases x <;> first | rfl | exact ⟨rfl, rfl⟩ | exact ⟨rfl, rfl, rfl⟩ | exact absurd hr hx | simp_all [Part.plain]

/-- A ring set anew. -/
theorem setRing {k : Nat} {r : Ring} (hr : Part.rings ∈ g) (hl : Part.layout ∈ g) (h : Keeps w g s t) :
    Keeps w g s (setRing t k r) := by
  refine Keeps.upd (t := t) rfl rfl (Or.inl hl) (fun x hx hp => ?_) h
  cases x <;> first | rfl | exact ⟨rfl, rfl⟩ | exact ⟨rfl, rfl, rfl⟩ | exact absurd hr hx | simp_all [Part.plain]

end Keeps

end Sys2Proof.Machine
end

