-- ==== Sys2Proof/Laws/Fields.lean ====
section
/-! SUPPORT.
Which register of Table 28.4 each field lies in.
-/

namespace Sys2Proof.Machine

theorem in_SPR_STATUS_XS_OK : SPR_STATUS_XS_OK.In Reg.SPR_STATUS := ⟨⟨0, by decide, 0, by decide, rfl⟩, by decide⟩
theorem in_SPR_STATUS_RTC_DEGRADED : SPR_STATUS_RTC_DEGRADED.In Reg.SPR_STATUS := ⟨⟨0, by decide, 0, by decide, rfl⟩, by decide⟩
theorem in_SPR_STATUS_LIMP_ACTIVE : SPR_STATUS_LIMP_ACTIVE.In Reg.SPR_STATUS := ⟨⟨0, by decide, 0, by decide, rfl⟩, by decide⟩
theorem in_SPR_STATUS_FW_VER : SPR_STATUS_FW_VER.In Reg.SPR_STATUS := ⟨⟨0, by decide, 0, by decide, rfl⟩, by decide⟩
theorem in_SPR_RTC_RTC : SPR_RTC_RTC.In Reg.SPR_RTC := ⟨⟨0, by decide, 0, by decide, rfl⟩, by decide⟩
theorem in_SPR_RTC_ALARM_ALARM : SPR_RTC_ALARM_ALARM.In Reg.SPR_RTC_ALARM := ⟨⟨0, by decide, 0, by decide, rfl⟩, by decide⟩
theorem in_SPR_DT_DT : SPR_DT_DT.In Reg.SPR_DT := ⟨⟨0, by decide, 0, by decide, rfl⟩, by decide⟩
theorem in_SPR_DT_STATUS_STATE : SPR_DT_STATUS_STATE.In Reg.SPR_DT_STATUS := ⟨⟨0, by decide, 0, by decide, rfl⟩, by decide⟩
theorem in_SPR_DT_STATUS_EPOCH : SPR_DT_STATUS_EPOCH.In Reg.SPR_DT_STATUS := ⟨⟨0, by decide, 0, by decide, rfl⟩, by decide⟩
theorem in_SPR_DT_CFG_STEP_THRESH : SPR_DT_CFG_STEP_THRESH.In Reg.SPR_DT_CFG := ⟨⟨0, by decide, 0, by decide, rfl⟩, by decide⟩
theorem in_SPR_DT_CFG_LOSS_TIME : SPR_DT_CFG_LOSS_TIME.In Reg.SPR_DT_CFG := ⟨⟨0, by decide, 0, by decide, rfl⟩, by decide⟩
theorem in_SPR_WDG_CFG_PERIOD : SPR_WDG_CFG_PERIOD.In Reg.SPR_WDG_CFG := ⟨⟨0, by decide, 0, by decide, rfl⟩, by decide⟩
theorem in_SPR_WDG_CFG_CLOSED : SPR_WDG_CFG_CLOSED.In Reg.SPR_WDG_CFG := ⟨⟨0, by decide, 0, by decide, rfl⟩, by decide⟩
theorem in_SPR_WDG_CFG_SAF_FEED : SPR_WDG_CFG_SAF_FEED.In Reg.SPR_WDG_CFG := ⟨⟨0, by decide, 0, by decide, rfl⟩, by decide⟩
theorem in_SPR_WDG_FEED_KEY : SPR_WDG_FEED_KEY.In Reg.SPR_WDG_FEED := ⟨⟨0, by decide, 0, by decide, rfl⟩, by decide⟩
theorem in_SPR_RST_CAUSE_CAUSE : SPR_RST_CAUSE_CAUSE.In Reg.SPR_RST_CAUSE := ⟨⟨0, by decide, 0, by decide, rfl⟩, by decide⟩
theorem in_SPR_RST_CMD_KEY : SPR_RST_CMD_KEY.In Reg.SPR_RST_CMD := ⟨⟨0, by decide, 0, by decide, rfl⟩, by decide⟩
theorem in_SPR_LIMP_CTL_RELEASE : SPR_LIMP_CTL_RELEASE.In Reg.SPR_LIMP_CTL := ⟨⟨0, by decide, 0, by decide, rfl⟩, by decide⟩
theorem in_SPR_LIMP_CTL_CRASH_LIVE : SPR_LIMP_CTL_CRASH_LIVE.In Reg.SPR_LIMP_CTL := ⟨⟨0, by decide, 0, by decide, rfl⟩, by decide⟩
theorem in_SPR_LIMP_CTL_IGN_DEB : SPR_LIMP_CTL_IGN_DEB.In Reg.SPR_LIMP_CTL := ⟨⟨0, by decide, 0, by decide, rfl⟩, by decide⟩
theorem in_SPR_LIMP_IN_IGN : SPR_LIMP_IN_IGN.In Reg.SPR_LIMP_IN := ⟨⟨0, by decide, 0, by decide, rfl⟩, by decide⟩
theorem in_SPR_LIMP_IN_CRASH : SPR_LIMP_IN_CRASH.In Reg.SPR_LIMP_IN := ⟨⟨0, by decide, 0, by decide, rfl⟩, by decide⟩
theorem in_SPR_LIMP_IN_CRASH_LATCH : SPR_LIMP_IN_CRASH_LATCH.In Reg.SPR_LIMP_IN := ⟨⟨0, by decide, 0, by decide, rfl⟩, by decide⟩
theorem in_CLK_SRC_SRC_APP : CLK_SRC_SRC_APP.In Reg.CLK_SRC := ⟨⟨0, by decide, 0, by decide, rfl⟩, by decide⟩
theorem in_CLK_SRC_SRC_FAB : CLK_SRC_SRC_FAB.In Reg.CLK_SRC := ⟨⟨0, by decide, 0, by decide, rfl⟩, by decide⟩
theorem in_CLK_SRC_SRC_SAF : CLK_SRC_SRC_SAF.In Reg.CLK_SRC := ⟨⟨0, by decide, 0, by decide, rfl⟩, by decide⟩
theorem in_CLK_STATUS_FRC_OK : CLK_STATUS_FRC_OK.In Reg.CLK_STATUS := ⟨⟨0, by decide, 0, by decide, rfl⟩, by decide⟩
theorem in_CLK_STATUS_XF_OK : CLK_STATUS_XF_OK.In Reg.CLK_STATUS := ⟨⟨0, by decide, 0, by decide, rfl⟩, by decide⟩
theorem in_CLK_STATUS_LOCK (j : Nat) : (CLK_STATUS_LOCK j).In Reg.CLK_STATUS := ⟨⟨0, by decide, 0, by decide, rfl⟩, by unfold CLK_STATUS_LOCK; dsimp only; omega⟩
theorem in_CLK_STATUS_SWITCHING : CLK_STATUS_SWITCHING.In Reg.CLK_STATUS := ⟨⟨0, by decide, 0, by decide, rfl⟩, by decide⟩
theorem in_CLK_STATUS_REFUSED : CLK_STATUS_REFUSED.In Reg.CLK_STATUS := ⟨⟨0, by decide, 0, by decide, rfl⟩, by decide⟩
theorem in_CLK_STATUS_FALLBACK : CLK_STATUS_FALLBACK.In Reg.CLK_STATUS := ⟨⟨0, by decide, 0, by decide, rfl⟩, by decide⟩
theorem in_CLK_PLL_CFG_PLLA_MULT : CLK_PLL_CFG_PLLA_MULT.In Reg.CLK_PLL_CFG := ⟨⟨0, by decide, 0, by decide, rfl⟩, by decide⟩
theorem in_CLK_PLL_CFG_PLLA_EN : CLK_PLL_CFG_PLLA_EN.In Reg.CLK_PLL_CFG := ⟨⟨0, by decide, 0, by decide, rfl⟩, by decide⟩
theorem in_CLK_PLL_CFG_PLLF_EN : CLK_PLL_CFG_PLLF_EN.In Reg.CLK_PLL_CFG := ⟨⟨0, by decide, 0, by decide, rfl⟩, by decide⟩
theorem in_CLK_PLL_CFG_PLLL_EN : CLK_PLL_CFG_PLLL_EN.In Reg.CLK_PLL_CFG := ⟨⟨0, by decide, 0, by decide, rfl⟩, by decide⟩
theorem in_PWR_NEXT_NEXT : PWR_NEXT_NEXT.In Reg.PWR_NEXT := ⟨⟨0, by decide, 0, by decide, rfl⟩, by decide⟩
theorem in_PWR_NEXT_FORCE : PWR_NEXT_FORCE.In Reg.PWR_NEXT := ⟨⟨0, by decide, 0, by decide, rfl⟩, by decide⟩
theorem in_PWR_CTL_AUTO : PWR_CTL_AUTO.In Reg.PWR_CTL := ⟨⟨0, by decide, 0, by decide, rfl⟩, by decide⟩
theorem in_PWR_CTL_POLICY : PWR_CTL_POLICY.In Reg.PWR_CTL := ⟨⟨0, by decide, 0, by decide, rfl⟩, by decide⟩
theorem in_PWR_CTL_HOLD_FABRIC : PWR_CTL_HOLD_FABRIC.In Reg.PWR_CTL := ⟨⟨0, by decide, 0, by decide, rfl⟩, by decide⟩
theorem in_PWR_CTL_SAF_CONSENT : PWR_CTL_SAF_CONSENT.In Reg.PWR_CTL := ⟨⟨0, by decide, 0, by decide, rfl⟩, by decide⟩
theorem in_PWR_CTL_SAF_RETAIN : PWR_CTL_SAF_RETAIN.In Reg.PWR_CTL := ⟨⟨0, by decide, 0, by decide, rfl⟩, by decide⟩
theorem in_PWR_CTL_ENTRY_WAIT : PWR_CTL_ENTRY_WAIT.In Reg.PWR_CTL := ⟨⟨0, by decide, 0, by decide, rfl⟩, by decide⟩
theorem in_PWR_SAF_ACK_ACK : PWR_SAF_ACK_ACK.In Reg.PWR_SAF_ACK := ⟨⟨0, by decide, 0, by decide, rfl⟩, by decide⟩
theorem in_PWR_IDLE_CFG_CORE_IDLE_T : PWR_IDLE_CFG_CORE_IDLE_T.In Reg.PWR_IDLE_CFG := ⟨⟨0, by decide, 0, by decide, rfl⟩, by decide⟩
theorem in_PWR_IDLE_CFG_DEEP_AFTER : PWR_IDLE_CFG_DEEP_AFTER.In Reg.PWR_IDLE_CFG := ⟨⟨0, by decide, 0, by decide, rfl⟩, by decide⟩
theorem in_PWR_IDLE_CFG_OFF_AFTER : PWR_IDLE_CFG_OFF_AFTER.In Reg.PWR_IDLE_CFG := ⟨⟨0, by decide, 0, by decide, rfl⟩, by decide⟩
theorem in_PWR_ADAPT_MIN_T : PWR_ADAPT_MIN_T.In Reg.PWR_ADAPT := ⟨⟨0, by decide, 0, by decide, rfl⟩, by decide⟩
theorem in_PWR_ADAPT_MAX_T : PWR_ADAPT_MAX_T.In Reg.PWR_ADAPT := ⟨⟨0, by decide, 0, by decide, rfl⟩, by decide⟩
theorem in_PWR_ADAPT_ADAPT_EN : PWR_ADAPT_ADAPT_EN.In Reg.PWR_ADAPT := ⟨⟨0, by decide, 0, by decide, rfl⟩, by decide⟩
theorem in_PWR_ADAPT_CUR_T : PWR_ADAPT_CUR_T.In Reg.PWR_ADAPT := ⟨⟨0, by decide, 0, by decide, rfl⟩, by decide⟩
theorem in_PWR_RETAIN_RETAIN : PWR_RETAIN_RETAIN.In Reg.PWR_RETAIN := ⟨⟨0, by decide, 0, by decide, rfl⟩, by decide⟩
theorem in_PWR_KEEP_OUT_KEEP_HS : PWR_KEEP_OUT_KEEP_HS.In Reg.PWR_KEEP_OUT := ⟨⟨0, by decide, 0, by decide, rfl⟩, by decide⟩
theorem in_PWR_KEEP_LED_KEEP_LED : PWR_KEEP_LED_KEEP_LED.In Reg.PWR_KEEP_LED := ⟨⟨0, by decide, 0, by decide, rfl⟩, by decide⟩
theorem in_PWR_RESUME_RESUME_BANK : PWR_RESUME_RESUME_BANK.In Reg.PWR_RESUME := ⟨⟨0, by decide, 0, by decide, rfl⟩, by decide⟩
theorem in_PWR_STATUS_LAST_STATE : PWR_STATUS_LAST_STATE.In Reg.PWR_STATUS := ⟨⟨0, by decide, 0, by decide, rfl⟩, by decide⟩
theorem in_PWR_STATUS_ABORT : PWR_STATUS_ABORT.In Reg.PWR_STATUS := ⟨⟨0, by decide, 0, by decide, rfl⟩, by decide⟩
theorem in_PWR_STATUS_RESUMED : PWR_STATUS_RESUMED.In Reg.PWR_STATUS := ⟨⟨0, by decide, 0, by decide, rfl⟩, by decide⟩
theorem in_PWR_STATUS_REFUSED_CNT : PWR_STATUS_REFUSED_CNT.In Reg.PWR_STATUS := ⟨⟨0, by decide, 0, by decide, rfl⟩, by decide⟩
theorem in_PWR_DOM_STATUS_ON (i0 : Nat) : (PWR_DOM_STATUS_ON i0).In Reg.PWR_DOM_STATUS := ⟨⟨i0 % _, Nat.mod_lt _ (by decide), 0, by decide, rfl⟩, by unfold PWR_DOM_STATUS_ON; dsimp only; omega⟩
theorem in_PWR_PINS_FEED_OK : PWR_PINS_FEED_OK.In Reg.PWR_PINS := ⟨⟨0, by decide, 0, by decide, rfl⟩, by decide⟩
theorem in_PWR_PINS_FEED_UV : PWR_PINS_FEED_UV.In Reg.PWR_PINS := ⟨⟨0, by decide, 0, by decide, rfl⟩, by decide⟩
theorem in_PWR_PINS_POS_RATIO : PWR_PINS_POS_RATIO.In Reg.PWR_PINS := ⟨⟨0, by decide, 0, by decide, rfl⟩, by decide⟩
theorem in_PWR_PINS_WAKEN_LVL : PWR_PINS_WAKEN_LVL.In Reg.PWR_PINS := ⟨⟨0, by decide, 0, by decide, rfl⟩, by decide⟩
theorem in_PWR_PINS_HOLD_PRE : PWR_PINS_HOLD_PRE.In Reg.PWR_PINS := ⟨⟨0, by decide, 0, by decide, rfl⟩, by decide⟩
theorem in_WAK_ARM_WAKEN : WAK_ARM_WAKEN.In Reg.WAK_ARM := ⟨⟨0, by decide, 0, by decide, rfl⟩, by decide⟩
theorem in_WAK_ARM_SRC : WAK_ARM_SRC.In Reg.WAK_ARM := ⟨⟨0, by decide, 0, by decide, rfl⟩, by decide⟩
theorem in_WAK_BUS_EN_BUS : WAK_BUS_EN_BUS.In Reg.WAK_BUS_EN := ⟨⟨0, by decide, 0, by decide, rfl⟩, by decide⟩
theorem in_WAK_SI_EN_SI : WAK_SI_EN_SI.In Reg.WAK_SI_EN := ⟨⟨0, by decide, 0, by decide, rfl⟩, by decide⟩
theorem in_WAK_FILT_WAKEN_FILT : WAK_FILT_WAKEN_FILT.In Reg.WAK_FILT := ⟨⟨0, by decide, 0, by decide, rfl⟩, by decide⟩
theorem in_WAK_FILT_SI_CONFIRM : WAK_FILT_SI_CONFIRM.In Reg.WAK_FILT := ⟨⟨0, by decide, 0, by decide, rfl⟩, by decide⟩
theorem in_WAK_FILT_CAN_TWAKE : WAK_FILT_CAN_TWAKE.In Reg.WAK_FILT := ⟨⟨0, by decide, 0, by decide, rfl⟩, by decide⟩
theorem in_WAK_FILT_WHISTLE_FWD : WAK_FILT_WHISTLE_FWD.In Reg.WAK_FILT := ⟨⟨0, by decide, 0, by decide, rfl⟩, by decide⟩
theorem in_WAK_REASON_CODE : WAK_REASON_CODE.In Reg.WAK_REASON := ⟨⟨0, by decide, 0, by decide, rfl⟩, by decide⟩
theorem in_WAK_REASON_INDEX : WAK_REASON_INDEX.In Reg.WAK_REASON := ⟨⟨0, by decide, 0, by decide, rfl⟩, by decide⟩
theorem in_WAK_REASON_ATTEMPT : WAK_REASON_ATTEMPT.In Reg.WAK_REASON := ⟨⟨0, by decide, 0, by decide, rfl⟩, by decide⟩
theorem in_WAK_SEEN_SEEN : WAK_SEEN_SEEN.In Reg.WAK_SEEN := ⟨⟨0, by decide, 0, by decide, rfl⟩, by decide⟩
theorem in_WAK_FAIL_SEQ_FAILS : WAK_FAIL_SEQ_FAILS.In Reg.WAK_FAIL := ⟨⟨0, by decide, 0, by decide, rfl⟩, by decide⟩
theorem in_WAK_FAIL_LOCKOUT : WAK_FAIL_LOCKOUT.In Reg.WAK_FAIL := ⟨⟨0, by decide, 0, by decide, rfl⟩, by decide⟩
theorem in_WAK_FAIL_LAST_CAUSE : WAK_FAIL_LAST_CAUSE.In Reg.WAK_FAIL := ⟨⟨0, by decide, 0, by decide, rfl⟩, by decide⟩
theorem in_WAK_FAIL_TOTAL_FAILS : WAK_FAIL_TOTAL_FAILS.In Reg.WAK_FAIL := ⟨⟨0, by decide, 0, by decide, rfl⟩, by decide⟩
theorem in_WAK_FAIL_LOCKED_EVENTS : WAK_FAIL_LOCKED_EVENTS.In Reg.WAK_FAIL := ⟨⟨0, by decide, 0, by decide, rfl⟩, by decide⟩
theorem in_CHN_PORT_CFG_RATE0 : CHN_PORT_CFG_RATE0.In Reg.CHN_PORT_CFG := ⟨⟨0, by decide, 0, by decide, rfl⟩, by decide⟩
theorem in_CHN_PORT_CFG_RATE1 : CHN_PORT_CFG_RATE1.In Reg.CHN_PORT_CFG := ⟨⟨0, by decide, 0, by decide, rfl⟩, by decide⟩
theorem in_CHN_PORT_CFG_ROLE0 : CHN_PORT_CFG_ROLE0.In Reg.CHN_PORT_CFG := ⟨⟨0, by decide, 0, by decide, rfl⟩, by decide⟩
theorem in_CHN_PORT_CFG_ROLE1 : CHN_PORT_CFG_ROLE1.In Reg.CHN_PORT_CFG := ⟨⟨0, by decide, 0, by decide, rfl⟩, by decide⟩
theorem in_CHN_PORT_CFG_EXT_CFG : CHN_PORT_CFG_EXT_CFG.In Reg.CHN_PORT_CFG := ⟨⟨0, by decide, 0, by decide, rfl⟩, by decide⟩
theorem in_CHN_PORT_CFG_SYNC_LOG : CHN_PORT_CFG_SYNC_LOG.In Reg.CHN_PORT_CFG := ⟨⟨0, by decide, 0, by decide, rfl⟩, by decide⟩
theorem in_CHN_ZCFG_ETYPE : CHN_ZCFG_ETYPE.In Reg.CHN_ZCFG := ⟨⟨0, by decide, 0, by decide, rfl⟩, by decide⟩
theorem in_CHN_ZCFG_ZVID : CHN_ZCFG_ZVID.In Reg.CHN_ZCFG := ⟨⟨0, by decide, 0, by decide, rfl⟩, by decide⟩
theorem in_CHN_ADDR_ADDR : CHN_ADDR_ADDR.In Reg.CHN_ADDR := ⟨⟨0, by decide, 0, by decide, rfl⟩, by decide⟩
theorem in_CHN_ADDR_PIN : CHN_ADDR_PIN.In Reg.CHN_ADDR := ⟨⟨0, by decide, 0, by decide, rfl⟩, by decide⟩
theorem in_CHN_ADDR_POS : CHN_ADDR_POS.In Reg.CHN_ADDR := ⟨⟨0, by decide, 0, by decide, rfl⟩, by decide⟩
theorem in_CHN_UID_UID (i0 : Nat) : (CHN_UID_UID i0).In Reg.CHN_UID := ⟨⟨i0 % _, Nat.mod_lt _ (by decide), 0, by decide, rfl⟩, by unfold CHN_UID_UID; dsimp only; omega⟩
theorem in_CHN_CRUISE_CRUISE_ID : CHN_CRUISE_CRUISE_ID.In Reg.CHN_CRUISE := ⟨⟨0, by decide, 0, by decide, rfl⟩, by decide⟩
theorem in_CHN_CRUISE_UPSTREAM : CHN_CRUISE_UPSTREAM.In Reg.CHN_CRUISE := ⟨⟨0, by decide, 0, by decide, rfl⟩, by decide⟩
theorem in_CHN_CRUISE_RING_SEEN : CHN_CRUISE_RING_SEEN.In Reg.CHN_CRUISE := ⟨⟨0, by decide, 0, by decide, rfl⟩, by decide⟩
theorem in_CHN_CRUISE_HOPS : CHN_CRUISE_HOPS.In Reg.CHN_CRUISE := ⟨⟨0, by decide, 0, by decide, rfl⟩, by decide⟩
theorem in_CHN_BYPASS_ACTIVE : CHN_BYPASS_ACTIVE.In Reg.CHN_BYPASS := ⟨⟨0, by decide, 0, by decide, rfl⟩, by decide⟩
theorem in_CHN_BYPASS_FORCE : CHN_BYPASS_FORCE.In Reg.CHN_BYPASS := ⟨⟨0, by decide, 0, by decide, rfl⟩, by decide⟩
theorem in_CHN_BYPASS_LEAVE : CHN_BYPASS_LEAVE.In Reg.CHN_BYPASS := ⟨⟨0, by decide, 0, by decide, rfl⟩, by decide⟩
theorem in_CHN_BYPASS_BYP_MAINT : CHN_BYPASS_BYP_MAINT.In Reg.CHN_BYPASS := ⟨⟨0, by decide, 0, by decide, rfl⟩, by decide⟩
theorem in_CHN_BYPASS_CAUSE : CHN_BYPASS_CAUSE.In Reg.CHN_BYPASS := ⟨⟨0, by decide, 0, by decide, rfl⟩, by decide⟩
theorem in_CHN_BYPASS_BYP_LOST : CHN_BYPASS_BYP_LOST.In Reg.CHN_BYPASS := ⟨⟨0, by decide, 0, by decide, rfl⟩, by decide⟩
theorem in_CHN_REMOTE_HB_PERIOD : CHN_REMOTE_HB_PERIOD.In Reg.CHN_REMOTE := ⟨⟨0, by decide, 0, by decide, rfl⟩, by decide⟩
theorem in_CHN_REMOTE_DETACH_T : CHN_REMOTE_DETACH_T.In Reg.CHN_REMOTE := ⟨⟨0, by decide, 0, by decide, rfl⟩, by decide⟩
theorem in_CHN_REMOTE_READ_TMO : CHN_REMOTE_READ_TMO.In Reg.CHN_REMOTE := ⟨⟨0, by decide, 0, by decide, rfl⟩, by decide⟩
theorem in_CHN_REMOTE_WR_RETX : CHN_REMOTE_WR_RETX.In Reg.CHN_REMOTE := ⟨⟨0, by decide, 0, by decide, rfl⟩, by decide⟩
theorem in_CHN_ATTACH_ATTACHED : CHN_ATTACH_ATTACHED.In Reg.CHN_ATTACH := ⟨⟨0, by decide, 0, by decide, rfl⟩, by decide⟩
theorem in_CHN_MAINT_READ_AUTH : CHN_MAINT_READ_AUTH.In Reg.CHN_MAINT := ⟨⟨0, by decide, 0, by decide, rfl⟩, by decide⟩
theorem in_CHN_MAINT_MAINT_FAIL : CHN_MAINT_MAINT_FAIL.In Reg.CHN_MAINT := ⟨⟨0, by decide, 0, by decide, rfl⟩, by decide⟩
theorem in_CHN_MAINT_CTR_MCTR_LAST : CHN_MAINT_CTR_MCTR_LAST.In Reg.CHN_MAINT_CTR := ⟨⟨0, by decide, 0, by decide, rfl⟩, by decide⟩
theorem in_CHN_SLEEP_SLEEP_OK : CHN_SLEEP_SLEEP_OK.In Reg.CHN_SLEEP := ⟨⟨0, by decide, 0, by decide, rfl⟩, by decide⟩
theorem in_CHN_SLEEP_WAKE_FWD : CHN_SLEEP_WAKE_FWD.In Reg.CHN_SLEEP := ⟨⟨0, by decide, 0, by decide, rfl⟩, by decide⟩
theorem in_CHN_SLEEP_SEND_WHISTLE : CHN_SLEEP_SEND_WHISTLE.In Reg.CHN_SLEEP := ⟨⟨0, by decide, 0, by decide, rfl⟩, by decide⟩
theorem in_CHN_CNT_ZILEK_BAD : CHN_CNT_ZILEK_BAD.In Reg.CHN_CNT := ⟨⟨0, by decide, 0, by decide, rfl⟩, by decide⟩
theorem in_CHN_CNT_PROXY_DROP : CHN_CNT_PROXY_DROP.In Reg.CHN_CNT := ⟨⟨0, by decide, 0, by decide, rfl⟩, by decide⟩
theorem in_PAR_LAYOUT_ADDR_ADDR : PAR_LAYOUT_ADDR_ADDR.In Reg.PAR_LAYOUT_ADDR := ⟨⟨0, by decide, 0, by decide, rfl⟩, by decide⟩
theorem in_PAR_LAYOUT_CTL_APPLY : PAR_LAYOUT_CTL_APPLY.In Reg.PAR_LAYOUT_CTL := ⟨⟨0, by decide, 0, by decide, rfl⟩, by decide⟩
theorem in_PAR_LAYOUT_STATUS_RESULT : PAR_LAYOUT_STATUS_RESULT.In Reg.PAR_LAYOUT_STATUS := ⟨⟨0, by decide, 0, by decide, rfl⟩, by decide⟩
theorem in_PAR_LAYOUT_STATUS_OFFSET : PAR_LAYOUT_STATUS_OFFSET.In Reg.PAR_LAYOUT_STATUS := ⟨⟨0, by decide, 0, by decide, rfl⟩, by decide⟩
theorem in_PAR_SEAL_KEY : PAR_SEAL_KEY.In Reg.PAR_SEAL := ⟨⟨0, by decide, 0, by decide, rfl⟩, by decide⟩
theorem in_PAR_SEAL_STATUS_SEALED : PAR_SEAL_STATUS_SEALED.In Reg.PAR_SEAL_STATUS := ⟨⟨0, by decide, 0, by decide, rfl⟩, by decide⟩
theorem in_PAR_SEAL_STATUS_SEAL_FAIL : PAR_SEAL_STATUS_SEAL_FAIL.In Reg.PAR_SEAL_STATUS := ⟨⟨0, by decide, 0, by decide, rfl⟩, by decide⟩
theorem in_PAR_SEAL_STATUS_SEAL_VIOL : PAR_SEAL_STATUS_SEAL_VIOL.In Reg.PAR_SEAL_STATUS := ⟨⟨0, by decide, 0, by decide, rfl⟩, by decide⟩
theorem in_PAR_STATE_STATE (j : Nat) : (PAR_STATE_STATE j).In Reg.PAR_STATE := ⟨⟨0, by decide, 0, by decide, rfl⟩, by unfold PAR_STATE_STATE; dsimp only; omega⟩
theorem in_PAR_RST_PART : PAR_RST_PART.In Reg.PAR_RST := ⟨⟨0, by decide, 0, by decide, rfl⟩, by decide⟩
theorem in_PAR_RST_KEY : PAR_RST_KEY.In Reg.PAR_RST := ⟨⟨0, by decide, 0, by decide, rfl⟩, by decide⟩
theorem in_PAR_RST_CFG_SAF_RESET : PAR_RST_CFG_SAF_RESET.In Reg.PAR_RST_CFG := ⟨⟨0, by decide, 0, by decide, rfl⟩, by decide⟩
theorem in_PAR_RST_CFG_RST_REFUSED : PAR_RST_CFG_RST_REFUSED.In Reg.PAR_RST_CFG := ⟨⟨0, by decide, 0, by decide, rfl⟩, by decide⟩
theorem in_PAR_FAULT_PART : PAR_FAULT_PART.In Reg.PAR_FAULT := ⟨⟨0, by decide, 0, by decide, rfl⟩, by decide⟩
theorem in_PAR_FAULT_ENGINE : PAR_FAULT_ENGINE.In Reg.PAR_FAULT := ⟨⟨0, by decide, 0, by decide, rfl⟩, by decide⟩
theorem in_PAR_FAULT_RING : PAR_FAULT_RING.In Reg.PAR_FAULT := ⟨⟨0, by decide, 0, by decide, rfl⟩, by decide⟩
theorem in_PAR_FAULT_FAULTS : PAR_FAULT_FAULTS.In Reg.PAR_FAULT := ⟨⟨0, by decide, 0, by decide, rfl⟩, by decide⟩
theorem in_PAR_EVT_CNT_EV_LOST (i0 : Nat) : (PAR_EVT_CNT_EV_LOST i0).In Reg.PAR_EVT_CNT := ⟨⟨i0 % _, Nat.mod_lt _ (by decide), 0, by decide, rfl⟩, by unfold PAR_EVT_CNT_EV_LOST; dsimp only; omega⟩
theorem in_PAR_EVT_CNT_EV_SUPPRESSED (i0 : Nat) : (PAR_EVT_CNT_EV_SUPPRESSED i0).In Reg.PAR_EVT_CNT := ⟨⟨i0 % _, Nat.mod_lt _ (by decide), 0, by decide, rfl⟩, by unfold PAR_EVT_CNT_EV_SUPPRESSED; dsimp only; omega⟩
theorem in_PAR_BUDGET_DERATING (i0 : Nat) (j : Nat) : (PAR_BUDGET_DERATING i0 j).In Reg.PAR_BUDGET := ⟨⟨i0 % _, Nat.mod_lt _ (by decide), 0, by decide, rfl⟩, by unfold PAR_BUDGET_DERATING; dsimp only; omega⟩
theorem in_PAR_BUDGET_ESCALATIONS (i0 : Nat) : (PAR_BUDGET_ESCALATIONS i0).In Reg.PAR_BUDGET := ⟨⟨i0 % _, Nat.mod_lt _ (by decide), 0, by decide, rfl⟩, by unfold PAR_BUDGET_ESCALATIONS; dsimp only; omega⟩
theorem in_PAR_SSET_ADDR_ADDR : PAR_SSET_ADDR_ADDR.In Reg.PAR_SSET_ADDR := ⟨⟨0, by decide, 0, by decide, rfl⟩, by decide⟩
theorem in_PAR_SSET_CTL_APPLY : PAR_SSET_CTL_APPLY.In Reg.PAR_SSET_CTL := ⟨⟨0, by decide, 0, by decide, rfl⟩, by decide⟩
theorem in_PAR_SSET_STATUS_RESULT : PAR_SSET_STATUS_RESULT.In Reg.PAR_SSET_STATUS := ⟨⟨0, by decide, 0, by decide, rfl⟩, by decide⟩
theorem in_PAR_SSET_STATUS_STAGE : PAR_SSET_STATUS_STAGE.In Reg.PAR_SSET_STATUS := ⟨⟨0, by decide, 0, by decide, rfl⟩, by decide⟩
theorem in_PAR_SSET_STATUS_OFFSET : PAR_SSET_STATUS_OFFSET.In Reg.PAR_SSET_STATUS := ⟨⟨0, by decide, 0, by decide, rfl⟩, by decide⟩
theorem in_PAR_SSET_ID_SET_ID : PAR_SSET_ID_SET_ID.In Reg.PAR_SSET_ID := ⟨⟨0, by decide, 0, by decide, rfl⟩, by decide⟩
theorem in_RNG_SEL_PART : RNG_SEL_PART.In Reg.RNG_SEL := ⟨⟨0, by decide, 0, by decide, rfl⟩, by decide⟩
theorem in_RNG_SEL_ENGINE : RNG_SEL_ENGINE.In Reg.RNG_SEL := ⟨⟨0, by decide, 0, by decide, rfl⟩, by decide⟩
theorem in_RNG_SEL_RING : RNG_SEL_RING.In Reg.RNG_SEL := ⟨⟨0, by decide, 0, by decide, rfl⟩, by decide⟩
theorem in_RNG_BASE_BASE : RNG_BASE_BASE.In Reg.RNG_BASE := ⟨⟨0, by decide, 0, by decide, rfl⟩, by decide⟩
theorem in_RNG_CFG_SIZE_LOG2 : RNG_CFG_SIZE_LOG2.In Reg.RNG_CFG := ⟨⟨0, by decide, 0, by decide, rfl⟩, by decide⟩
theorem in_RNG_CFG_PRIO : RNG_CFG_PRIO.In Reg.RNG_CFG := ⟨⟨0, by decide, 0, by decide, rfl⟩, by decide⟩
theorem in_RNG_CFG_EN : RNG_CFG_EN.In Reg.RNG_CFG := ⟨⟨0, by decide, 0, by decide, rfl⟩, by decide⟩
theorem in_RNG_SHADOW_SHADOW : RNG_SHADOW_SHADOW.In Reg.RNG_SHADOW := ⟨⟨0, by decide, 0, by decide, rfl⟩, by decide⟩
theorem in_RNG_CMD_OP : RNG_CMD_OP.In Reg.RNG_CMD := ⟨⟨0, by decide, 0, by decide, rfl⟩, by decide⟩
theorem in_RNG_STATUS_BUSY : RNG_STATUS_BUSY.In Reg.RNG_STATUS := ⟨⟨0, by decide, 0, by decide, rfl⟩, by decide⟩
theorem in_RNG_STATUS_RESULT : RNG_STATUS_RESULT.In Reg.RNG_STATUS := ⟨⟨0, by decide, 0, by decide, rfl⟩, by decide⟩
theorem in_RNG_STATUS_FAIL_RING : RNG_STATUS_FAIL_RING.In Reg.RNG_STATUS := ⟨⟨0, by decide, 0, by decide, rfl⟩, by decide⟩
theorem in_RNG_IDX_PIDX : RNG_IDX_PIDX.In Reg.RNG_IDX := ⟨⟨0, by decide, 0, by decide, rfl⟩, by decide⟩
theorem in_RNG_IDX2_CIDX : RNG_IDX2_CIDX.In Reg.RNG_IDX2 := ⟨⟨0, by decide, 0, by decide, rfl⟩, by decide⟩
theorem in_RNG_CNT_DB_BAD : RNG_CNT_DB_BAD.In Reg.RNG_CNT := ⟨⟨0, by decide, 0, by decide, rfl⟩, by decide⟩
theorem in_RNG_CNT_STALLS : RNG_CNT_STALLS.In Reg.RNG_CNT := ⟨⟨0, by decide, 0, by decide, rfl⟩, by decide⟩
theorem in_ACT_LIMP_ADDR_ADDR : ACT_LIMP_ADDR_ADDR.In Reg.ACT_LIMP_ADDR := ⟨⟨0, by decide, 0, by decide, rfl⟩, by decide⟩
theorem in_ACT_LIMP_CTL_STAGE : ACT_LIMP_CTL_STAGE.In Reg.ACT_LIMP_CTL := ⟨⟨0, by decide, 0, by decide, rfl⟩, by decide⟩
theorem in_ACT_LIMP_STATUS_RESULT : ACT_LIMP_STATUS_RESULT.In Reg.ACT_LIMP_STATUS := ⟨⟨0, by decide, 0, by decide, rfl⟩, by decide⟩
theorem in_ACT_LIMP_STATUS_OFFSET : ACT_LIMP_STATUS_OFFSET.In Reg.ACT_LIMP_STATUS := ⟨⟨0, by decide, 0, by decide, rfl⟩, by decide⟩
theorem in_ACT_LIMP_INFO_COPY : ACT_LIMP_INFO_COPY.In Reg.ACT_LIMP_INFO := ⟨⟨0, by decide, 0, by decide, rfl⟩, by decide⟩
theorem in_ACT_LIMP_INFO_ENTRIES : ACT_LIMP_INFO_ENTRIES.In Reg.ACT_LIMP_INFO := ⟨⟨0, by decide, 0, by decide, rfl⟩, by decide⟩
theorem in_ACT_LIMP_INFO_LIMP_SEQ : ACT_LIMP_INFO_LIMP_SEQ.In Reg.ACT_LIMP_INFO := ⟨⟨0, by decide, 0, by decide, rfl⟩, by decide⟩
theorem in_ACT_LIMP_ID_TABLE_ID : ACT_LIMP_ID_TABLE_ID.In Reg.ACT_LIMP_ID := ⟨⟨0, by decide, 0, by decide, rfl⟩, by decide⟩
theorem in_ACT_LIMP_PAIR_PAIR : ACT_LIMP_PAIR_PAIR.In Reg.ACT_LIMP_PAIR := ⟨⟨0, by decide, 0, by decide, rfl⟩, by decide⟩
theorem in_ACT_SAFE_MAP0_HS : ACT_SAFE_MAP0_HS.In Reg.ACT_SAFE_MAP0 := ⟨⟨0, by decide, 0, by decide, rfl⟩, by decide⟩
theorem in_ACT_SAFE_MAP1_HB : ACT_SAFE_MAP1_HB.In Reg.ACT_SAFE_MAP1 := ⟨⟨0, by decide, 0, by decide, rfl⟩, by decide⟩
theorem in_ACT_SAFE_MAP1_SV : ACT_SAFE_MAP1_SV.In Reg.ACT_SAFE_MAP1 := ⟨⟨0, by decide, 0, by decide, rfl⟩, by decide⟩
theorem in_ACT_SAFE_MAP1_FIO : ACT_SAFE_MAP1_FIO.In Reg.ACT_SAFE_MAP1 := ⟨⟨0, by decide, 0, by decide, rfl⟩, by decide⟩
theorem in_ACT_SAFE_MAP2_LED : ACT_SAFE_MAP2_LED.In Reg.ACT_SAFE_MAP2 := ⟨⟨0, by decide, 0, by decide, rfl⟩, by decide⟩
theorem in_ACT_SAFE_STATUS_SL_COUNT : ACT_SAFE_STATUS_SL_COUNT.In Reg.ACT_SAFE_STATUS := ⟨⟨0, by decide, 0, by decide, rfl⟩, by decide⟩
theorem in_ACT_SAFE_STATUS_SL_HELD : ACT_SAFE_STATUS_SL_HELD.In Reg.ACT_SAFE_STATUS := ⟨⟨0, by decide, 0, by decide, rfl⟩, by decide⟩
theorem in_ACT_CLAIM_LEAD (i0 : Nat) : (ACT_CLAIM_LEAD i0).In Reg.ACT_CLAIM := ⟨⟨i0 % _, Nat.mod_lt _ (by decide), 0, by decide, rfl⟩, by unfold ACT_CLAIM_LEAD; dsimp only; omega⟩
theorem in_ACT_CLAIM_FOLLOWER (i0 : Nat) : (ACT_CLAIM_FOLLOWER i0).In Reg.ACT_CLAIM := ⟨⟨i0 % _, Nat.mod_lt _ (by decide), 0, by decide, rfl⟩, by unfold ACT_CLAIM_FOLLOWER; dsimp only; omega⟩
theorem in_ACT_CLAIM_CLAIMANT (i0 : Nat) : (ACT_CLAIM_CLAIMANT i0).In Reg.ACT_CLAIM := ⟨⟨i0 % _, Nat.mod_lt _ (by decide), 0, by decide, rfl⟩, by unfold ACT_CLAIM_CLAIMANT; dsimp only; omega⟩
theorem in_ACT_CLAIM_VALID (i0 : Nat) : (ACT_CLAIM_VALID i0).In Reg.ACT_CLAIM := ⟨⟨i0 % _, Nat.mod_lt _ (by decide), 0, by decide, rfl⟩, by unfold ACT_CLAIM_VALID; dsimp only; omega⟩
theorem in_ACT_CNT_HELD_SAFE : ACT_CNT_HELD_SAFE.In Reg.ACT_CNT := ⟨⟨0, by decide, 0, by decide, rfl⟩, by decide⟩
theorem in_ACT_CNT_HELD_LIMP : ACT_CNT_HELD_LIMP.In Reg.ACT_CNT := ⟨⟨0, by decide, 0, by decide, rfl⟩, by decide⟩
theorem in_ACT_CNT2_CLAIM_REFUSED : ACT_CNT2_CLAIM_REFUSED.In Reg.ACT_CNT2 := ⟨⟨0, by decide, 0, by decide, rfl⟩, by decide⟩
theorem in_HS_CFG_LATCH (i0 : Nat) : (HS_CFG_LATCH i0).In Reg.HS_CFG := ⟨⟨i0 % _, Nat.mod_lt _ (by decide), 0, by decide, rfl⟩, by unfold HS_CFG_LATCH; dsimp only; omega⟩
theorem in_HS_CFG_INRUSH_T (i0 : Nat) : (HS_CFG_INRUSH_T i0).In Reg.HS_CFG := ⟨⟨i0 % _, Nat.mod_lt _ (by decide), 0, by decide, rfl⟩, by unfold HS_CFG_INRUSH_T; dsimp only; omega⟩
theorem in_HS_CFG_INRUSH_MULT (i0 : Nat) : (HS_CFG_INRUSH_MULT i0).In Reg.HS_CFG := ⟨⟨i0 % _, Nat.mod_lt _ (by decide), 0, by decide, rfl⟩, by unfold HS_CFG_INRUSH_MULT; dsimp only; omega⟩
theorem in_HS_CFG_WIRE (i0 : Nat) : (HS_CFG_WIRE i0).In Reg.HS_CFG := ⟨⟨i0 % _, Nat.mod_lt _ (by decide), 0, by decide, rfl⟩, by unfold HS_CFG_WIRE; dsimp only; omega⟩
theorem in_HS_CFG_COMP_EXP (i0 : Nat) : (HS_CFG_COMP_EXP i0).In Reg.HS_CFG := ⟨⟨i0 % _, Nat.mod_lt _ (by decide), 0, by decide, rfl⟩, by unfold HS_CFG_COMP_EXP; dsimp only; omega⟩
theorem in_HS_CFG_DIAG_EN (i0 : Nat) : (HS_CFG_DIAG_EN i0).In Reg.HS_CFG := ⟨⟨i0 % _, Nat.mod_lt _ (by decide), 0, by decide, rfl⟩, by unfold HS_CFG_DIAG_EN; dsimp only; omega⟩
theorem in_HS_CFG_RETRY_N (i0 : Nat) : (HS_CFG_RETRY_N i0).In Reg.HS_CFG := ⟨⟨i0 % _, Nat.mod_lt _ (by decide), 0, by decide, rfl⟩, by unfold HS_CFG_RETRY_N; dsimp only; omega⟩
theorem in_HS_CFG_RETRY_T (i0 : Nat) : (HS_CFG_RETRY_T i0).In Reg.HS_CFG := ⟨⟨i0 % _, Nat.mod_lt _ (by decide), 0, by decide, rfl⟩, by unfold HS_CFG_RETRY_T; dsimp only; omega⟩
theorem in_HS_CFG_THERM_AUTO (i0 : Nat) : (HS_CFG_THERM_AUTO i0).In Reg.HS_CFG := ⟨⟨i0 % _, Nat.mod_lt _ (by decide), 0, by decide, rfl⟩, by unfold HS_CFG_THERM_AUTO; dsimp only; omega⟩
theorem in_HS_DIAG_OL_THR (i0 : Nat) : (HS_DIAG_OL_THR i0).In Reg.HS_DIAG := ⟨⟨i0 % _, Nat.mod_lt _ (by decide), 0, by decide, rfl⟩, by unfold HS_DIAG_OL_THR; dsimp only; omega⟩
theorem in_HS_DIAG_OL_DEB (i0 : Nat) : (HS_DIAG_OL_DEB i0).In Reg.HS_DIAG := ⟨⟨i0 % _, Nat.mod_lt _ (by decide), 0, by decide, rfl⟩, by unfold HS_DIAG_OL_DEB; dsimp only; omega⟩
theorem in_HS_DIAG_TWARN (i0 : Nat) : (HS_DIAG_TWARN i0).In Reg.HS_DIAG := ⟨⟨i0 % _, Nat.mod_lt _ (by decide), 0, by decide, rfl⟩, by unfold HS_DIAG_TWARN; dsimp only; omega⟩
theorem in_HS_MEAS_CURRENT (i0 : Nat) : (HS_MEAS_CURRENT i0).In Reg.HS_MEAS := ⟨⟨i0 % _, Nat.mod_lt _ (by decide), 0, by decide, rfl⟩, by unfold HS_MEAS_CURRENT; dsimp only; omega⟩
theorem in_HS_MEAS_TEMP (i0 : Nat) : (HS_MEAS_TEMP i0).In Reg.HS_MEAS := ⟨⟨i0 % _, Nat.mod_lt _ (by decide), 0, by decide, rfl⟩, by unfold HS_MEAS_TEMP; dsimp only; omega⟩
theorem in_HS_STATE_CHSTATE (i0 : Nat) : (HS_STATE_CHSTATE i0).In Reg.HS_STATE := ⟨⟨i0 % _, Nat.mod_lt _ (by decide), 0, by decide, rfl⟩, by unfold HS_STATE_CHSTATE; dsimp only; omega⟩
theorem in_HS_STATE_LATCHED (i0 : Nat) : (HS_STATE_LATCHED i0).In Reg.HS_STATE := ⟨⟨i0 % _, Nat.mod_lt _ (by decide), 0, by decide, rfl⟩, by unfold HS_STATE_LATCHED; dsimp only; omega⟩
theorem in_HS_STATE_THERM_OFF (i0 : Nat) : (HS_STATE_THERM_OFF i0).In Reg.HS_STATE := ⟨⟨i0 % _, Nat.mod_lt _ (by decide), 0, by decide, rfl⟩, by unfold HS_STATE_THERM_OFF; dsimp only; omega⟩
theorem in_HS_STATE_OPEN (i0 : Nat) : (HS_STATE_OPEN i0).In Reg.HS_STATE := ⟨⟨i0 % _, Nat.mod_lt _ (by decide), 0, by decide, rfl⟩, by unfold HS_STATE_OPEN; dsimp only; omega⟩
theorem in_HS_STATE_TWARN_ON (i0 : Nat) : (HS_STATE_TWARN_ON i0).In Reg.HS_STATE := ⟨⟨i0 % _, Nat.mod_lt _ (by decide), 0, by decide, rfl⟩, by unfold HS_STATE_TWARN_ON; dsimp only; omega⟩
theorem in_HS_STATE_INRUSH (i0 : Nat) : (HS_STATE_INRUSH i0).In Reg.HS_STATE := ⟨⟨i0 % _, Nat.mod_lt _ (by decide), 0, by decide, rfl⟩, by unfold HS_STATE_INRUSH; dsimp only; omega⟩
theorem in_HS_STATE_RETRIES (i0 : Nat) : (HS_STATE_RETRIES i0).In Reg.HS_STATE := ⟨⟨i0 % _, Nat.mod_lt _ (by decide), 0, by decide, rfl⟩, by unfold HS_STATE_RETRIES; dsimp only; omega⟩
theorem in_HS_STATE_APPLIED (i0 : Nat) : (HS_STATE_APPLIED i0).In Reg.HS_STATE := ⟨⟨i0 % _, Nat.mod_lt _ (by decide), 0, by decide, rfl⟩, by unfold HS_STATE_APPLIED; dsimp only; omega⟩
theorem in_HS_STATE_WIRE_PCT (i0 : Nat) : (HS_STATE_WIRE_PCT i0).In Reg.HS_STATE := ⟨⟨i0 % _, Nat.mod_lt _ (by decide), 0, by decide, rfl⟩, by unfold HS_STATE_WIRE_PCT; dsimp only; omega⟩
theorem in_HS_WIRE_R_K_HEAT (i0 : Nat) : (HS_WIRE_R_K_HEAT i0).In Reg.HS_WIRE_R := ⟨⟨i0 % _, Nat.mod_lt _ (by decide), 0, by decide, rfl⟩, by unfold HS_WIRE_R_K_HEAT; dsimp only; omega⟩
theorem in_HS_WIRE_R_TAU (i0 : Nat) : (HS_WIRE_R_TAU i0).In Reg.HS_WIRE_R := ⟨⟨i0 % _, Nat.mod_lt _ (by decide), 0, by decide, rfl⟩, by unfold HS_WIRE_R_TAU; dsimp only; omega⟩
theorem in_HS_WIRE_I_DTMAX (i0 : Nat) : (HS_WIRE_I_DTMAX i0).In Reg.HS_WIRE_I := ⟨⟨i0 % _, Nat.mod_lt _ (by decide), 0, by decide, rfl⟩, by unfold HS_WIRE_I_DTMAX; dsimp only; omega⟩
theorem in_HS_PROF_SEG_DUTY (i0 : Nat) (i1 : Nat) : (HS_PROF_SEG_DUTY i0 i1).In Reg.HS_PROF_SEG := ⟨⟨i0 % _, Nat.mod_lt _ (by decide), i1 % _, Nat.mod_lt _ (by decide), rfl⟩, by unfold HS_PROF_SEG_DUTY; dsimp only; omega⟩
theorem in_HS_PROF_SEG_RAMP (i0 : Nat) (i1 : Nat) : (HS_PROF_SEG_RAMP i0 i1).In Reg.HS_PROF_SEG := ⟨⟨i0 % _, Nat.mod_lt _ (by decide), i1 % _, Nat.mod_lt _ (by decide), rfl⟩, by unfold HS_PROF_SEG_RAMP; dsimp only; omega⟩
theorem in_HS_PROF_SEG_END (i0 : Nat) (i1 : Nat) : (HS_PROF_SEG_END i0 i1).In Reg.HS_PROF_SEG := ⟨⟨i0 % _, Nat.mod_lt _ (by decide), i1 % _, Nat.mod_lt _ (by decide), rfl⟩, by unfold HS_PROF_SEG_END; dsimp only; omega⟩
theorem in_HS_PROF_SEG_TIME_MS (i0 : Nat) (i1 : Nat) : (HS_PROF_SEG_TIME_MS i0 i1).In Reg.HS_PROF_SEG := ⟨⟨i0 % _, Nat.mod_lt _ (by decide), i1 % _, Nat.mod_lt _ (by decide), rfl⟩, by unfold HS_PROF_SEG_TIME_MS; dsimp only; omega⟩
theorem in_HS_PROF_CFG_FREQ (i0 : Nat) : (HS_PROF_CFG_FREQ i0).In Reg.HS_PROF_CFG := ⟨⟨i0 % _, Nat.mod_lt _ (by decide), 0, by decide, rfl⟩, by unfold HS_PROF_CFG_FREQ; dsimp only; omega⟩
theorem in_HS_PROF_CFG_BATT_COMP (i0 : Nat) : (HS_PROF_CFG_BATT_COMP i0).In Reg.HS_PROF_CFG := ⟨⟨i0 % _, Nat.mod_lt _ (by decide), 0, by decide, rfl⟩, by unfold HS_PROF_CFG_BATT_COMP; dsimp only; omega⟩
theorem in_HS_CNT_LATCHES : HS_CNT_LATCHES.In Reg.HS_CNT := ⟨⟨0, by decide, 0, by decide, rfl⟩, by decide⟩
theorem in_HS_CNT_THERM_OFFS : HS_CNT_THERM_OFFS.In Reg.HS_CNT := ⟨⟨0, by decide, 0, by decide, rfl⟩, by decide⟩
theorem in_HS_CNT2_OL_EVENTS : HS_CNT2_OL_EVENTS.In Reg.HS_CNT2 := ⟨⟨0, by decide, 0, by decide, rfl⟩, by decide⟩
theorem in_HS_CNT2_RETRIES_ALL : HS_CNT2_RETRIES_ALL.In Reg.HS_CNT2 := ⟨⟨0, by decide, 0, by decide, rfl⟩, by decide⟩
theorem in_HS_COMP_VREF : HS_COMP_VREF.In Reg.HS_COMP := ⟨⟨0, by decide, 0, by decide, rfl⟩, by decide⟩
theorem in_HB_PAIR_PAIRED (j : Nat) : (HB_PAIR_PAIRED j).In Reg.HB_PAIR := ⟨⟨0, by decide, 0, by decide, rfl⟩, by unfold HB_PAIR_PAIRED; dsimp only; omega⟩
theorem in_HB_PAIR_PARTNER (j : Nat) : (HB_PAIR_PARTNER j).In Reg.HB_PAIR := ⟨⟨0, by decide, 0, by decide, rfl⟩, by unfold HB_PAIR_PARTNER; dsimp only; omega⟩
theorem in_HB_CFG_LATCH (i0 : Nat) : (HB_CFG_LATCH i0).In Reg.HB_CFG := ⟨⟨i0 % _, Nat.mod_lt _ (by decide), 0, by decide, rfl⟩, by unfold HB_CFG_LATCH; dsimp only; omega⟩
theorem in_HB_CFG_DEAD (i0 : Nat) : (HB_CFG_DEAD i0).In Reg.HB_CFG := ⟨⟨i0 % _, Nat.mod_lt _ (by decide), 0, by decide, rfl⟩, by unfold HB_CFG_DEAD; dsimp only; omega⟩
theorem in_HB_CFG_DECAY (i0 : Nat) : (HB_CFG_DECAY i0).In Reg.HB_CFG := ⟨⟨i0 % _, Nat.mod_lt _ (by decide), 0, by decide, rfl⟩, by unfold HB_CFG_DECAY; dsimp only; omega⟩
theorem in_HB_CFG_WIRE (i0 : Nat) : (HB_CFG_WIRE i0).In Reg.HB_CFG := ⟨⟨i0 % _, Nat.mod_lt _ (by decide), 0, by decide, rfl⟩, by unfold HB_CFG_WIRE; dsimp only; omega⟩
theorem in_HB_CFG_DIR_GAP (i0 : Nat) : (HB_CFG_DIR_GAP i0).In Reg.HB_CFG := ⟨⟨i0 % _, Nat.mod_lt _ (by decide), 0, by decide, rfl⟩, by unfold HB_CFG_DIR_GAP; dsimp only; omega⟩
theorem in_HB_CFG_PINCH_DIR (i0 : Nat) : (HB_CFG_PINCH_DIR i0).In Reg.HB_CFG := ⟨⟨i0 % _, Nat.mod_lt _ (by decide), 0, by decide, rfl⟩, by unfold HB_CFG_PINCH_DIR; dsimp only; omega⟩
theorem in_HB_CFG_NORM_B (i0 : Nat) : (HB_CFG_NORM_B i0).In Reg.HB_CFG := ⟨⟨i0 % _, Nat.mod_lt _ (by decide), 0, by decide, rfl⟩, by unfold HB_CFG_NORM_B; dsimp only; omega⟩
theorem in_HB_DIAG_OL_THR (i0 : Nat) : (HB_DIAG_OL_THR i0).In Reg.HB_DIAG := ⟨⟨i0 % _, Nat.mod_lt _ (by decide), 0, by decide, rfl⟩, by unfold HB_DIAG_OL_THR; dsimp only; omega⟩
theorem in_HB_DIAG_OL_DEB (i0 : Nat) : (HB_DIAG_OL_DEB i0).In Reg.HB_DIAG := ⟨⟨i0 % _, Nat.mod_lt _ (by decide), 0, by decide, rfl⟩, by unfold HB_DIAG_OL_DEB; dsimp only; omega⟩
theorem in_HB_DIAG_TWARN (i0 : Nat) : (HB_DIAG_TWARN i0).In Reg.HB_DIAG := ⟨⟨i0 % _, Nat.mod_lt _ (by decide), 0, by decide, rfl⟩, by unfold HB_DIAG_TWARN; dsimp only; omega⟩
theorem in_HB_RIP_RIP_FMIN (i0 : Nat) : (HB_RIP_RIP_FMIN i0).In Reg.HB_RIP := ⟨⟨i0 % _, Nat.mod_lt _ (by decide), 0, by decide, rfl⟩, by unfold HB_RIP_RIP_FMIN; dsimp only; omega⟩
theorem in_HB_RIP_RIP_FMAX (i0 : Nat) : (HB_RIP_RIP_FMAX i0).In Reg.HB_RIP := ⟨⟨i0 % _, Nat.mod_lt _ (by decide), 0, by decide, rfl⟩, by unfold HB_RIP_RIP_FMAX; dsimp only; omega⟩
theorem in_HB_RIP_RIP_AMP (i0 : Nat) : (HB_RIP_RIP_AMP i0).In Reg.HB_RIP := ⟨⟨i0 % _, Nat.mod_lt _ (by decide), 0, by decide, rfl⟩, by unfold HB_RIP_RIP_AMP; dsimp only; omega⟩
theorem in_HB_STALL_STALL_T (i0 : Nat) : (HB_STALL_STALL_T i0).In Reg.HB_STALL := ⟨⟨i0 % _, Nat.mod_lt _ (by decide), 0, by decide, rfl⟩, by unfold HB_STALL_STALL_T; dsimp only; omega⟩
theorem in_HB_STALL_STALL_I (i0 : Nat) : (HB_STALL_STALL_I i0).In Reg.HB_STALL := ⟨⟨i0 % _, Nat.mod_lt _ (by decide), 0, by decide, rfl⟩, by unfold HB_STALL_STALL_I; dsimp only; omega⟩
theorem in_HB_STALL_STOP_LEAD (i0 : Nat) : (HB_STALL_STOP_LEAD i0).In Reg.HB_STALL := ⟨⟨i0 % _, Nat.mod_lt _ (by decide), 0, by decide, rfl⟩, by unfold HB_STALL_STOP_LEAD; dsimp only; omega⟩
theorem in_HB_STALL_SNS_RATE (i0 : Nat) : (HB_STALL_SNS_RATE i0).In Reg.HB_STALL := ⟨⟨i0 % _, Nat.mod_lt _ (by decide), 0, by decide, rfl⟩, by unfold HB_STALL_SNS_RATE; dsimp only; omega⟩
theorem in_HB_REV_REV_DUTY (i0 : Nat) : (HB_REV_REV_DUTY i0).In Reg.HB_REV := ⟨⟨i0 % _, Nat.mod_lt _ (by decide), 0, by decide, rfl⟩, by unfold HB_REV_REV_DUTY; dsimp only; omega⟩
theorem in_HB_REV_REV_RIP (i0 : Nat) : (HB_REV_REV_RIP i0).In Reg.HB_REV := ⟨⟨i0 % _, Nat.mod_lt _ (by decide), 0, by decide, rfl⟩, by unfold HB_REV_REV_RIP; dsimp only; omega⟩
theorem in_HB_REV2_REV_MS (i0 : Nat) : (HB_REV2_REV_MS i0).In Reg.HB_REV2 := ⟨⟨i0 % _, Nat.mod_lt _ (by decide), 0, by decide, rfl⟩, by unfold HB_REV2_REV_MS; dsimp only; omega⟩
theorem in_HB_POS_POS (i0 : Nat) : (HB_POS_POS i0).In Reg.HB_POS := ⟨⟨i0 % _, Nat.mod_lt _ (by decide), 0, by decide, rfl⟩, by unfold HB_POS_POS; dsimp only; omega⟩
theorem in_HB_STATE_CHSTATE (i0 : Nat) : (HB_STATE_CHSTATE i0).In Reg.HB_STATE := ⟨⟨i0 % _, Nat.mod_lt _ (by decide), 0, by decide, rfl⟩, by unfold HB_STATE_CHSTATE; dsimp only; omega⟩
theorem in_HB_STATE_LATCHED (i0 : Nat) : (HB_STATE_LATCHED i0).In Reg.HB_STATE := ⟨⟨i0 % _, Nat.mod_lt _ (by decide), 0, by decide, rfl⟩, by unfold HB_STATE_LATCHED; dsimp only; omega⟩
theorem in_HB_STATE_THERM_OFF (i0 : Nat) : (HB_STATE_THERM_OFF i0).In Reg.HB_STATE := ⟨⟨i0 % _, Nat.mod_lt _ (by decide), 0, by decide, rfl⟩, by unfold HB_STATE_THERM_OFF; dsimp only; omega⟩
theorem in_HB_STATE_OPEN (i0 : Nat) : (HB_STATE_OPEN i0).In Reg.HB_STATE := ⟨⟨i0 % _, Nat.mod_lt _ (by decide), 0, by decide, rfl⟩, by unfold HB_STATE_OPEN; dsimp only; omega⟩
theorem in_HB_STATE_STALL (i0 : Nat) : (HB_STATE_STALL i0).In Reg.HB_STATE := ⟨⟨i0 % _, Nat.mod_lt _ (by decide), 0, by decide, rfl⟩, by unfold HB_STATE_STALL; dsimp only; omega⟩
theorem in_HB_STATE_POS_VALID (i0 : Nat) : (HB_STATE_POS_VALID i0).In Reg.HB_STATE := ⟨⟨i0 % _, Nat.mod_lt _ (by decide), 0, by decide, rfl⟩, by unfold HB_STATE_POS_VALID; dsimp only; omega⟩
theorem in_HB_STATE_REV (i0 : Nat) : (HB_STATE_REV i0).In Reg.HB_STATE := ⟨⟨i0 % _, Nat.mod_lt _ (by decide), 0, by decide, rfl⟩, by unfold HB_STATE_REV; dsimp only; omega⟩
theorem in_HB_STATE_END_CAUSE (i0 : Nat) : (HB_STATE_END_CAUSE i0).In Reg.HB_STATE := ⟨⟨i0 % _, Nat.mod_lt _ (by decide), 0, by decide, rfl⟩, by unfold HB_STATE_END_CAUSE; dsimp only; omega⟩
theorem in_HB_STATE_APPLIED (i0 : Nat) : (HB_STATE_APPLIED i0).In Reg.HB_STATE := ⟨⟨i0 % _, Nat.mod_lt _ (by decide), 0, by decide, rfl⟩, by unfold HB_STATE_APPLIED; dsimp only; omega⟩
theorem in_HB_MEAS_CURRENT (i0 : Nat) : (HB_MEAS_CURRENT i0).In Reg.HB_MEAS := ⟨⟨i0 % _, Nat.mod_lt _ (by decide), 0, by decide, rfl⟩, by unfold HB_MEAS_CURRENT; dsimp only; omega⟩
theorem in_HB_MEAS_TEMP (i0 : Nat) : (HB_MEAS_TEMP i0).In Reg.HB_MEAS := ⟨⟨i0 % _, Nat.mod_lt _ (by decide), 0, by decide, rfl⟩, by unfold HB_MEAS_TEMP; dsimp only; omega⟩
theorem in_HB_RIPF_RIPFREQ (i0 : Nat) : (HB_RIPF_RIPFREQ i0).In Reg.HB_RIPF := ⟨⟨i0 % _, Nat.mod_lt _ (by decide), 0, by decide, rfl⟩, by unfold HB_RIPF_RIPFREQ; dsimp only; omega⟩
theorem in_HB_CNT_LATCHES : HB_CNT_LATCHES.In Reg.HB_CNT := ⟨⟨0, by decide, 0, by decide, rfl⟩, by decide⟩
theorem in_HB_CNT_THERM_OFFS : HB_CNT_THERM_OFFS.In Reg.HB_CNT := ⟨⟨0, by decide, 0, by decide, rfl⟩, by decide⟩
theorem in_HB_CNT2_STALLS : HB_CNT2_STALLS.In Reg.HB_CNT2 := ⟨⟨0, by decide, 0, by decide, rfl⟩, by decide⟩
theorem in_HB_CNT2_REVERSALS : HB_CNT2_REVERSALS.In Reg.HB_CNT2 := ⟨⟨0, by decide, 0, by decide, rfl⟩, by decide⟩
theorem in_HB_CNT3_RIP_FILLED : HB_CNT3_RIP_FILLED.In Reg.HB_CNT3 := ⟨⟨0, by decide, 0, by decide, rfl⟩, by decide⟩
theorem in_HB_CNT3_RIP_REJECTED : HB_CNT3_RIP_REJECTED.In Reg.HB_CNT3 := ⟨⟨0, by decide, 0, by decide, rfl⟩, by decide⟩
theorem in_SV_PAIR_PAIR : SV_PAIR_PAIR.In Reg.SV_PAIR := ⟨⟨0, by decide, 0, by decide, rfl⟩, by decide⟩
theorem in_SV_CFG_LATCH (i0 : Nat) : (SV_CFG_LATCH i0).In Reg.SV_CFG := ⟨⟨i0 % _, Nat.mod_lt _ (by decide), 0, by decide, rfl⟩, by unfold SV_CFG_LATCH; dsimp only; omega⟩
theorem in_SV_CFG_OFF_DECAY (i0 : Nat) : (SV_CFG_OFF_DECAY i0).In Reg.SV_CFG := ⟨⟨i0 % _, Nat.mod_lt _ (by decide), 0, by decide, rfl⟩, by unfold SV_CFG_OFF_DECAY; dsimp only; omega⟩
theorem in_SV_CFG_CLAMP_V (i0 : Nat) : (SV_CFG_CLAMP_V i0).In Reg.SV_CFG := ⟨⟨i0 % _, Nat.mod_lt _ (by decide), 0, by decide, rfl⟩, by unfold SV_CFG_CLAMP_V; dsimp only; omega⟩
theorem in_SV_CFG_KERF_ALL (i0 : Nat) : (SV_CFG_KERF_ALL i0).In Reg.SV_CFG := ⟨⟨i0 % _, Nat.mod_lt _ (by decide), 0, by decide, rfl⟩, by unfold SV_CFG_KERF_ALL; dsimp only; omega⟩
theorem in_SV_CFG_FREQ (i0 : Nat) : (SV_CFG_FREQ i0).In Reg.SV_CFG := ⟨⟨i0 % _, Nat.mod_lt _ (by decide), 0, by decide, rfl⟩, by unfold SV_CFG_FREQ; dsimp only; omega⟩
theorem in_SV_CFG_WIRE (i0 : Nat) : (SV_CFG_WIRE i0).In Reg.SV_CFG := ⟨⟨i0 % _, Nat.mod_lt _ (by decide), 0, by decide, rfl⟩, by unfold SV_CFG_WIRE; dsimp only; omega⟩
theorem in_SV_CFG_MIN_HOLD (i0 : Nat) : (SV_CFG_MIN_HOLD i0).In Reg.SV_CFG := ⟨⟨i0 % _, Nat.mod_lt _ (by decide), 0, by decide, rfl⟩, by unfold SV_CFG_MIN_HOLD; dsimp only; omega⟩
theorem in_SV_DIAG_OL_THR (i0 : Nat) : (SV_DIAG_OL_THR i0).In Reg.SV_DIAG := ⟨⟨i0 % _, Nat.mod_lt _ (by decide), 0, by decide, rfl⟩, by unfold SV_DIAG_OL_THR; dsimp only; omega⟩
theorem in_SV_DIAG_OL_DEB (i0 : Nat) : (SV_DIAG_OL_DEB i0).In Reg.SV_DIAG := ⟨⟨i0 % _, Nat.mod_lt _ (by decide), 0, by decide, rfl⟩, by unfold SV_DIAG_OL_DEB; dsimp only; omega⟩
theorem in_SV_DIAG_TWARN (i0 : Nat) : (SV_DIAG_TWARN i0).In Reg.SV_DIAG := ⟨⟨i0 % _, Nat.mod_lt _ (by decide), 0, by decide, rfl⟩, by unfold SV_DIAG_TWARN; dsimp only; omega⟩
theorem in_SV_KERF_KWIN_START (i0 : Nat) : (SV_KERF_KWIN_START i0).In Reg.SV_KERF := ⟨⟨i0 % _, Nat.mod_lt _ (by decide), 0, by decide, rfl⟩, by unfold SV_KERF_KWIN_START; dsimp only; omega⟩
theorem in_SV_KERF_KWIN_END (i0 : Nat) : (SV_KERF_KWIN_END i0).In Reg.SV_KERF := ⟨⟨i0 % _, Nat.mod_lt _ (by decide), 0, by decide, rfl⟩, by unfold SV_KERF_KWIN_END; dsimp only; omega⟩
theorem in_SV_KERF_KDEPTH (i0 : Nat) : (SV_KERF_KDEPTH i0).In Reg.SV_KERF := ⟨⟨i0 % _, Nat.mod_lt _ (by decide), 0, by decide, rfl⟩, by unfold SV_KERF_KDEPTH; dsimp only; omega⟩
theorem in_SV_KERF_KSLOPE (i0 : Nat) : (SV_KERF_KSLOPE i0).In Reg.SV_KERF := ⟨⟨i0 % _, Nat.mod_lt _ (by decide), 0, by decide, rfl⟩, by unfold SV_KERF_KSLOPE; dsimp only; omega⟩
theorem in_SV_LEARN_PROF (i0 : Nat) : (SV_LEARN_PROF i0).In Reg.SV_LEARN := ⟨⟨i0 % _, Nat.mod_lt _ (by decide), 0, by decide, rfl⟩, by unfold SV_LEARN_PROF; dsimp only; omega⟩
theorem in_SV_LEARN_LEARN_EN (i0 : Nat) : (SV_LEARN_LEARN_EN i0).In Reg.SV_LEARN := ⟨⟨i0 % _, Nat.mod_lt _ (by decide), 0, by decide, rfl⟩, by unfold SV_LEARN_LEARN_EN; dsimp only; omega⟩
theorem in_SV_LEARN_LMARGIN (i0 : Nat) : (SV_LEARN_LMARGIN i0).In Reg.SV_LEARN := ⟨⟨i0 % _, Nat.mod_lt _ (by decide), 0, by decide, rfl⟩, by unfold SV_LEARN_LMARGIN; dsimp only; omega⟩
theorem in_SV_LEARN_LMIN_PCT (i0 : Nat) : (SV_LEARN_LMIN_PCT i0).In Reg.SV_LEARN := ⟨⟨i0 % _, Nat.mod_lt _ (by decide), 0, by decide, rfl⟩, by unfold SV_LEARN_LMIN_PCT; dsimp only; omega⟩
theorem in_SV_MEAS_CURRENT (i0 : Nat) : (SV_MEAS_CURRENT i0).In Reg.SV_MEAS := ⟨⟨i0 % _, Nat.mod_lt _ (by decide), 0, by decide, rfl⟩, by unfold SV_MEAS_CURRENT; dsimp only; omega⟩
theorem in_SV_MEAS_TEMP (i0 : Nat) : (SV_MEAS_TEMP i0).In Reg.SV_MEAS := ⟨⟨i0 % _, Nat.mod_lt _ (by decide), 0, by decide, rfl⟩, by unfold SV_MEAS_TEMP; dsimp only; omega⟩
theorem in_SV_STATE_CHSTATE (i0 : Nat) : (SV_STATE_CHSTATE i0).In Reg.SV_STATE := ⟨⟨i0 % _, Nat.mod_lt _ (by decide), 0, by decide, rfl⟩, by unfold SV_STATE_CHSTATE; dsimp only; omega⟩
theorem in_SV_STATE_LATCHED (i0 : Nat) : (SV_STATE_LATCHED i0).In Reg.SV_STATE := ⟨⟨i0 % _, Nat.mod_lt _ (by decide), 0, by decide, rfl⟩, by unfold SV_STATE_LATCHED; dsimp only; omega⟩
theorem in_SV_STATE_THERM_OFF (i0 : Nat) : (SV_STATE_THERM_OFF i0).In Reg.SV_STATE := ⟨⟨i0 % _, Nat.mod_lt _ (by decide), 0, by decide, rfl⟩, by unfold SV_STATE_THERM_OFF; dsimp only; omega⟩
theorem in_SV_STATE_OPEN (i0 : Nat) : (SV_STATE_OPEN i0).In Reg.SV_STATE := ⟨⟨i0 % _, Nat.mod_lt _ (by decide), 0, by decide, rfl⟩, by unfold SV_STATE_OPEN; dsimp only; omega⟩
theorem in_SV_STATE_TWARN_ON (i0 : Nat) : (SV_STATE_TWARN_ON i0).In Reg.SV_STATE := ⟨⟨i0 % _, Nat.mod_lt _ (by decide), 0, by decide, rfl⟩, by unfold SV_STATE_TWARN_ON; dsimp only; omega⟩
theorem in_SV_STATE_SEG (i0 : Nat) : (SV_STATE_SEG i0).In Reg.SV_STATE := ⟨⟨i0 % _, Nat.mod_lt _ (by decide), 0, by decide, rfl⟩, by unfold SV_STATE_SEG; dsimp only; omega⟩
theorem in_SV_STATE_KERF_RES (i0 : Nat) : (SV_STATE_KERF_RES i0).In Reg.SV_STATE := ⟨⟨i0 % _, Nat.mod_lt _ (by decide), 0, by decide, rfl⟩, by unfold SV_STATE_KERF_RES; dsimp only; omega⟩
theorem in_SV_STATE_APPLIED (i0 : Nat) : (SV_STATE_APPLIED i0).In Reg.SV_STATE := ⟨⟨i0 % _, Nat.mod_lt _ (by decide), 0, by decide, rfl⟩, by unfold SV_STATE_APPLIED; dsimp only; omega⟩
theorem in_SV_KRES_KERF_T (i0 : Nat) : (SV_KRES_KERF_T i0).In Reg.SV_KRES := ⟨⟨i0 % _, Nat.mod_lt _ (by decide), 0, by decide, rfl⟩, by unfold SV_KRES_KERF_T; dsimp only; omega⟩
theorem in_SV_KRES_DEPTH (i0 : Nat) : (SV_KRES_DEPTH i0).In Reg.SV_KRES := ⟨⟨i0 % _, Nat.mod_lt _ (by decide), 0, by decide, rfl⟩, by unfold SV_KRES_DEPTH; dsimp only; omega⟩
theorem in_SV_LSTATE_T_LEARN (i0 : Nat) : (SV_LSTATE_T_LEARN i0).In Reg.SV_LSTATE := ⟨⟨i0 % _, Nat.mod_lt _ (by decide), 0, by decide, rfl⟩, by unfold SV_LSTATE_T_LEARN; dsimp only; omega⟩
theorem in_SV_LSTATE_LCOUNT (i0 : Nat) : (SV_LSTATE_LCOUNT i0).In Reg.SV_LSTATE := ⟨⟨i0 % _, Nat.mod_lt _ (by decide), 0, by decide, rfl⟩, by unfold SV_LSTATE_LCOUNT; dsimp only; omega⟩
theorem in_SV_LSTATE_BACKOFF (i0 : Nat) : (SV_LSTATE_BACKOFF i0).In Reg.SV_LSTATE := ⟨⟨i0 % _, Nat.mod_lt _ (by decide), 0, by decide, rfl⟩, by unfold SV_LSTATE_BACKOFF; dsimp only; omega⟩
theorem in_SV_LSTATE_LVALID (i0 : Nat) : (SV_LSTATE_LVALID i0).In Reg.SV_LSTATE := ⟨⟨i0 % _, Nat.mod_lt _ (by decide), 0, by decide, rfl⟩, by unfold SV_LSTATE_LVALID; dsimp only; omega⟩
theorem in_SV_PROF_SEG0_CURRENT (i0 : Nat) (i1 : Nat) : (SV_PROF_SEG0_CURRENT i0 i1).In Reg.SV_PROF_SEG0 := ⟨⟨i0 % _, Nat.mod_lt _ (by decide), i1 % _, Nat.mod_lt _ (by decide), rfl⟩, by unfold SV_PROF_SEG0_CURRENT; dsimp only; omega⟩
theorem in_SV_PROF_SEG0_MODE (i0 : Nat) (i1 : Nat) : (SV_PROF_SEG0_MODE i0 i1).In Reg.SV_PROF_SEG0 := ⟨⟨i0 % _, Nat.mod_lt _ (by decide), i1 % _, Nat.mod_lt _ (by decide), rfl⟩, by unfold SV_PROF_SEG0_MODE; dsimp only; omega⟩
theorem in_SV_PROF_SEG0_TIME (i0 : Nat) (i1 : Nat) : (SV_PROF_SEG0_TIME i0 i1).In Reg.SV_PROF_SEG0 := ⟨⟨i0 % _, Nat.mod_lt _ (by decide), i1 % _, Nat.mod_lt _ (by decide), rfl⟩, by unfold SV_PROF_SEG0_TIME; dsimp only; omega⟩
theorem in_SV_PROF_SEG1_DECAY (i0 : Nat) (i1 : Nat) : (SV_PROF_SEG1_DECAY i0 i1).In Reg.SV_PROF_SEG1 := ⟨⟨i0 % _, Nat.mod_lt _ (by decide), i1 % _, Nat.mod_lt _ (by decide), rfl⟩, by unfold SV_PROF_SEG1_DECAY; dsimp only; omega⟩
theorem in_SV_PROF_SEG1_KERF (i0 : Nat) (i1 : Nat) : (SV_PROF_SEG1_KERF i0 i1).In Reg.SV_PROF_SEG1 := ⟨⟨i0 % _, Nat.mod_lt _ (by decide), i1 % _, Nat.mod_lt _ (by decide), rfl⟩, by unfold SV_PROF_SEG1_KERF; dsimp only; omega⟩
theorem in_SV_PROF_SEG1_LEARN (i0 : Nat) (i1 : Nat) : (SV_PROF_SEG1_LEARN i0 i1).In Reg.SV_PROF_SEG1 := ⟨⟨i0 % _, Nat.mod_lt _ (by decide), i1 % _, Nat.mod_lt _ (by decide), rfl⟩, by unfold SV_PROF_SEG1_LEARN; dsimp only; omega⟩
theorem in_SV_PROF_SEG1_END (i0 : Nat) (i1 : Nat) : (SV_PROF_SEG1_END i0 i1).In Reg.SV_PROF_SEG1 := ⟨⟨i0 % _, Nat.mod_lt _ (by decide), i1 % _, Nat.mod_lt _ (by decide), rfl⟩, by unfold SV_PROF_SEG1_END; dsimp only; omega⟩
theorem in_SV_CNT_LATCHES : SV_CNT_LATCHES.In Reg.SV_CNT := ⟨⟨0, by decide, 0, by decide, rfl⟩, by decide⟩
theorem in_SV_CNT_THERM_OFFS : SV_CNT_THERM_OFFS.In Reg.SV_CNT := ⟨⟨0, by decide, 0, by decide, rfl⟩, by decide⟩
theorem in_SV_CNT2_KERF_MISS : SV_CNT2_KERF_MISS.In Reg.SV_CNT2 := ⟨⟨0, by decide, 0, by decide, rfl⟩, by decide⟩
theorem in_SV_CNT2_LEARN_RESETS : SV_CNT2_LEARN_RESETS.In Reg.SV_CNT2 := ⟨⟨0, by decide, 0, by decide, rfl⟩, by decide⟩
theorem in_LED_CFG_DEF_LEVEL (i0 : Nat) : (LED_CFG_DEF_LEVEL i0).In Reg.LED_CFG := ⟨⟨i0 % _, Nat.mod_lt _ (by decide), 0, by decide, rfl⟩, by unfold LED_CFG_DEF_LEVEL; dsimp only; omega⟩
theorem in_LED_CFG_FMODE (i0 : Nat) : (LED_CFG_FMODE i0).In Reg.LED_CFG := ⟨⟨i0 % _, Nat.mod_lt _ (by decide), 0, by decide, rfl⟩, by unfold LED_CFG_FMODE; dsimp only; omega⟩
theorem in_LED_CFG_OL_DEB (i0 : Nat) : (LED_CFG_OL_DEB i0).In Reg.LED_CFG := ⟨⟨i0 % _, Nat.mod_lt _ (by decide), 0, by decide, rfl⟩, by unfold LED_CFG_OL_DEB; dsimp only; omega⟩
theorem in_LED_GRP_CFG_SUPPLY (i0 : Nat) : (LED_GRP_CFG_SUPPLY i0).In Reg.LED_GRP_CFG := ⟨⟨i0 % _, Nat.mod_lt _ (by decide), 0, by decide, rfl⟩, by unfold LED_GRP_CFG_SUPPLY; dsimp only; omega⟩
theorem in_LED_GRP_CFG_TP_PERIOD (i0 : Nat) : (LED_GRP_CFG_TP_PERIOD i0).In Reg.LED_GRP_CFG := ⟨⟨i0 % _, Nat.mod_lt _ (by decide), 0, by decide, rfl⟩, by unfold LED_GRP_CFG_TP_PERIOD; dsimp only; omega⟩
theorem in_LED_GRP_CFG_NB_OFF (i0 : Nat) : (LED_GRP_CFG_NB_OFF i0).In Reg.LED_GRP_CFG := ⟨⟨i0 % _, Nat.mod_lt _ (by decide), 0, by decide, rfl⟩, by unfold LED_GRP_CFG_NB_OFF; dsimp only; omega⟩
theorem in_LED_GRP_CFG_THERM_AUTO (i0 : Nat) : (LED_GRP_CFG_THERM_AUTO i0).In Reg.LED_GRP_CFG := ⟨⟨i0 % _, Nat.mod_lt _ (by decide), 0, by decide, rfl⟩, by unfold LED_GRP_CFG_THERM_AUTO; dsimp only; omega⟩
theorem in_LED_GRP_DER_TSRC (i0 : Nat) : (LED_GRP_DER_TSRC i0).In Reg.LED_GRP_DER := ⟨⟨i0 % _, Nat.mod_lt _ (by decide), 0, by decide, rfl⟩, by unfold LED_GRP_DER_TSRC; dsimp only; omega⟩
theorem in_LED_GRP_DER_KNEE (i0 : Nat) : (LED_GRP_DER_KNEE i0).In Reg.LED_GRP_DER := ⟨⟨i0 % _, Nat.mod_lt _ (by decide), 0, by decide, rfl⟩, by unfold LED_GRP_DER_KNEE; dsimp only; omega⟩
theorem in_LED_GRP_DER_SLOPE (i0 : Nat) : (LED_GRP_DER_SLOPE i0).In Reg.LED_GRP_DER := ⟨⟨i0 % _, Nat.mod_lt _ (by decide), 0, by decide, rfl⟩, by unfold LED_GRP_DER_SLOPE; dsimp only; omega⟩
theorem in_LED_GRP_DER_FLOOR (i0 : Nat) : (LED_GRP_DER_FLOOR i0).In Reg.LED_GRP_DER := ⟨⟨i0 % _, Nat.mod_lt _ (by decide), 0, by decide, rfl⟩, by unfold LED_GRP_DER_FLOOR; dsimp only; omega⟩
theorem in_LED_GRP_NTC_R25 (i0 : Nat) : (LED_GRP_NTC_R25 i0).In Reg.LED_GRP_NTC := ⟨⟨i0 % _, Nat.mod_lt _ (by decide), 0, by decide, rfl⟩, by unfold LED_GRP_NTC_R25; dsimp only; omega⟩
theorem in_LED_GRP_NTC_BETA (i0 : Nat) : (LED_GRP_NTC_BETA i0).In Reg.LED_GRP_NTC := ⟨⟨i0 % _, Nat.mod_lt _ (by decide), 0, by decide, rfl⟩, by unfold LED_GRP_NTC_BETA; dsimp only; omega⟩
theorem in_LED_GSTAT_TGRP (i0 : Nat) : (LED_GSTAT_TGRP i0).In Reg.LED_GSTAT := ⟨⟨i0 % _, Nat.mod_lt _ (by decide), 0, by decide, rfl⟩, by unfold LED_GSTAT_TGRP; dsimp only; omega⟩
theorem in_LED_GSTAT_FACTOR (i0 : Nat) : (LED_GSTAT_FACTOR i0).In Reg.LED_GSTAT := ⟨⟨i0 % _, Nat.mod_lt _ (by decide), 0, by decide, rfl⟩, by unfold LED_GSTAT_FACTOR; dsimp only; omega⟩
theorem in_LED_GSTAT_NTC_FAULT (i0 : Nat) : (LED_GSTAT_NTC_FAULT i0).In Reg.LED_GSTAT := ⟨⟨i0 % _, Nat.mod_lt _ (by decide), 0, by decide, rfl⟩, by unfold LED_GSTAT_NTC_FAULT; dsimp only; omega⟩
theorem in_LED_GSTAT_SUPPLY_LOST (i0 : Nat) : (LED_GSTAT_SUPPLY_LOST i0).In Reg.LED_GSTAT := ⟨⟨i0 % _, Nat.mod_lt _ (by decide), 0, by decide, rfl⟩, by unfold LED_GSTAT_SUPPLY_LOST; dsimp only; omega⟩
theorem in_LED_STATE_CHSTATE (i0 : Nat) : (LED_STATE_CHSTATE i0).In Reg.LED_STATE := ⟨⟨i0 % _, Nat.mod_lt _ (by decide), 0, by decide, rfl⟩, by unfold LED_STATE_CHSTATE; dsimp only; omega⟩
theorem in_LED_STATE_OPEN (i0 : Nat) : (LED_STATE_OPEN i0).In Reg.LED_STATE := ⟨⟨i0 % _, Nat.mod_lt _ (by decide), 0, by decide, rfl⟩, by unfold LED_STATE_OPEN; dsimp only; omega⟩
theorem in_LED_STATE_SHORT_GND (i0 : Nat) : (LED_STATE_SHORT_GND i0).In Reg.LED_STATE := ⟨⟨i0 % _, Nat.mod_lt _ (by decide), 0, by decide, rfl⟩, by unfold LED_STATE_SHORT_GND; dsimp only; omega⟩
theorem in_LED_STATE_NB_SHORT (i0 : Nat) : (LED_STATE_NB_SHORT i0).In Reg.LED_STATE := ⟨⟨i0 % _, Nat.mod_lt _ (by decide), 0, by decide, rfl⟩, by unfold LED_STATE_NB_SHORT; dsimp only; omega⟩
theorem in_LED_STATE_THERM_OFF (i0 : Nat) : (LED_STATE_THERM_OFF i0).In Reg.LED_STATE := ⟨⟨i0 % _, Nat.mod_lt _ (by decide), 0, by decide, rfl⟩, by unfold LED_STATE_THERM_OFF; dsimp only; omega⟩
theorem in_LED_STATE_HEADROOM (i0 : Nat) : (LED_STATE_HEADROOM i0).In Reg.LED_STATE := ⟨⟨i0 % _, Nat.mod_lt _ (by decide), 0, by decide, rfl⟩, by unfold LED_STATE_HEADROOM; dsimp only; omega⟩
theorem in_LED_STATE_NB_STALE (i0 : Nat) : (LED_STATE_NB_STALE i0).In Reg.LED_STATE := ⟨⟨i0 % _, Nat.mod_lt _ (by decide), 0, by decide, rfl⟩, by unfold LED_STATE_NB_STALE; dsimp only; omega⟩
theorem in_LED_STATE_APPLIED (i0 : Nat) : (LED_STATE_APPLIED i0).In Reg.LED_STATE := ⟨⟨i0 % _, Nat.mod_lt _ (by decide), 0, by decide, rfl⟩, by unfold LED_STATE_APPLIED; dsimp only; omega⟩
theorem in_LED_MEAS_CURRENT (i0 : Nat) : (LED_MEAS_CURRENT i0).In Reg.LED_MEAS := ⟨⟨i0 % _, Nat.mod_lt _ (by decide), 0, by decide, rfl⟩, by unfold LED_MEAS_CURRENT; dsimp only; omega⟩
theorem in_LED_MEAS_VSINK (i0 : Nat) : (LED_MEAS_VSINK i0).In Reg.LED_MEAS := ⟨⟨i0 % _, Nat.mod_lt _ (by decide), 0, by decide, rfl⟩, by unfold LED_MEAS_VSINK; dsimp only; omega⟩
theorem in_LED_MEAS_TEMP (i0 : Nat) : (LED_MEAS_TEMP i0).In Reg.LED_MEAS := ⟨⟨i0 % _, Nat.mod_lt _ (by decide), 0, by decide, rfl⟩, by unfold LED_MEAS_TEMP; dsimp only; omega⟩
theorem in_LED_CNT_FAULTS : LED_CNT_FAULTS.In Reg.LED_CNT := ⟨⟨0, by decide, 0, by decide, rfl⟩, by decide⟩
theorem in_LED_CNT_TESTS_ABORTED : LED_CNT_TESTS_ABORTED.In Reg.LED_CNT := ⟨⟨0, by decide, 0, by decide, rfl⟩, by decide⟩
theorem in_FIO_CFG_MODE (i0 : Nat) : (FIO_CFG_MODE i0).In Reg.FIO_CFG := ⟨⟨i0 % _, Nat.mod_lt _ (by decide), 0, by decide, rfl⟩, by unfold FIO_CFG_MODE; dsimp only; omega⟩
theorem in_FIO_CFG_ITYPE (i0 : Nat) : (FIO_CFG_ITYPE i0).In Reg.FIO_CFG := ⟨⟨i0 % _, Nat.mod_lt _ (by decide), 0, by decide, rfl⟩, by unfold FIO_CFG_ITYPE; dsimp only; omega⟩
theorem in_FIO_CFG_IN_EVT (i0 : Nat) : (FIO_CFG_IN_EVT i0).In Reg.FIO_CFG := ⟨⟨i0 % _, Nat.mod_lt _ (by decide), 0, by decide, rfl⟩, by unfold FIO_CFG_IN_EVT; dsimp only; omega⟩
theorem in_FIO_CFG_DEB (i0 : Nat) : (FIO_CFG_DEB i0).In Reg.FIO_CFG := ⟨⟨i0 % _, Nat.mod_lt _ (by decide), 0, by decide, rfl⟩, by unfold FIO_CFG_DEB; dsimp only; omega⟩
theorem in_FIO_CFG_LATCH (i0 : Nat) : (FIO_CFG_LATCH i0).In Reg.FIO_CFG := ⟨⟨i0 % _, Nat.mod_lt _ (by decide), 0, by decide, rfl⟩, by unfold FIO_CFG_LATCH; dsimp only; omega⟩
theorem in_FIO_CFG_INRUSH_T (i0 : Nat) : (FIO_CFG_INRUSH_T i0).In Reg.FIO_CFG := ⟨⟨i0 % _, Nat.mod_lt _ (by decide), 0, by decide, rfl⟩, by unfold FIO_CFG_INRUSH_T; dsimp only; omega⟩
theorem in_FIO_CFG_DEMAG (i0 : Nat) : (FIO_CFG_DEMAG i0).In Reg.FIO_CFG := ⟨⟨i0 % _, Nat.mod_lt _ (by decide), 0, by decide, rfl⟩, by unfold FIO_CFG_DEMAG; dsimp only; omega⟩
theorem in_FIO_CFG_THERM_AUTO (i0 : Nat) : (FIO_CFG_THERM_AUTO i0).In Reg.FIO_CFG := ⟨⟨i0 % _, Nat.mod_lt _ (by decide), 0, by decide, rfl⟩, by unfold FIO_CFG_THERM_AUTO; dsimp only; omega⟩
theorem in_FIO_CFG_RETRY_N (i0 : Nat) : (FIO_CFG_RETRY_N i0).In Reg.FIO_CFG := ⟨⟨i0 % _, Nat.mod_lt _ (by decide), 0, by decide, rfl⟩, by unfold FIO_CFG_RETRY_N; dsimp only; omega⟩
theorem in_FIO_CFG_RETRY_T (i0 : Nat) : (FIO_CFG_RETRY_T i0).In Reg.FIO_CFG := ⟨⟨i0 % _, Nat.mod_lt _ (by decide), 0, by decide, rfl⟩, by unfold FIO_CFG_RETRY_T; dsimp only; omega⟩
theorem in_FIO_DIAG_OL_THR (i0 : Nat) : (FIO_DIAG_OL_THR i0).In Reg.FIO_DIAG := ⟨⟨i0 % _, Nat.mod_lt _ (by decide), 0, by decide, rfl⟩, by unfold FIO_DIAG_OL_THR; dsimp only; omega⟩
theorem in_FIO_DIAG_OL_DEB (i0 : Nat) : (FIO_DIAG_OL_DEB i0).In Reg.FIO_DIAG := ⟨⟨i0 % _, Nat.mod_lt _ (by decide), 0, by decide, rfl⟩, by unfold FIO_DIAG_OL_DEB; dsimp only; omega⟩
theorem in_FIO_DIAG_DIAG_EN (i0 : Nat) : (FIO_DIAG_DIAG_EN i0).In Reg.FIO_DIAG := ⟨⟨i0 % _, Nat.mod_lt _ (by decide), 0, by decide, rfl⟩, by unfold FIO_DIAG_DIAG_EN; dsimp only; omega⟩
theorem in_FIO_DIAG_WIRE (i0 : Nat) : (FIO_DIAG_WIRE i0).In Reg.FIO_DIAG := ⟨⟨i0 % _, Nat.mod_lt _ (by decide), 0, by decide, rfl⟩, by unfold FIO_DIAG_WIRE; dsimp only; omega⟩
theorem in_FIO_BLK_UV : FIO_BLK_UV.In Reg.FIO_BLK := ⟨⟨0, by decide, 0, by decide, rfl⟩, by decide⟩
theorem in_FIO_STATUS_FAULT : FIO_STATUS_FAULT.In Reg.FIO_STATUS := ⟨⟨0, by decide, 0, by decide, rfl⟩, by decide⟩
theorem in_FIO_STATUS_FCHAN : FIO_STATUS_FCHAN.In Reg.FIO_STATUS := ⟨⟨0, by decide, 0, by decide, rfl⟩, by decide⟩
theorem in_FIO_IN_LEVEL : FIO_IN_LEVEL.In Reg.FIO_IN := ⟨⟨0, by decide, 0, by decide, rfl⟩, by decide⟩
theorem in_FIO_CAUSE_CAUSE (i0 : Nat) (j : Nat) : (FIO_CAUSE_CAUSE i0 j).In Reg.FIO_CAUSE := ⟨⟨i0 % _, Nat.mod_lt _ (by decide), 0, by decide, rfl⟩, by unfold FIO_CAUSE_CAUSE; dsimp only; omega⟩
theorem in_FIO_CAUSE_CHSTATE (i0 : Nat) : (FIO_CAUSE_CHSTATE i0).In Reg.FIO_CAUSE := ⟨⟨i0 % _, Nat.mod_lt _ (by decide), 0, by decide, rfl⟩, by unfold FIO_CAUSE_CHSTATE; dsimp only; omega⟩
theorem in_FIO_CAUSE_APPLIED (i0 : Nat) : (FIO_CAUSE_APPLIED i0).In Reg.FIO_CAUSE := ⟨⟨i0 % _, Nat.mod_lt _ (by decide), 0, by decide, rfl⟩, by unfold FIO_CAUSE_APPLIED; dsimp only; omega⟩
theorem in_FIO_MEAS_CURRENT (i0 : Nat) : (FIO_MEAS_CURRENT i0).In Reg.FIO_MEAS := ⟨⟨i0 % _, Nat.mod_lt _ (by decide), 0, by decide, rfl⟩, by unfold FIO_MEAS_CURRENT; dsimp only; omega⟩
theorem in_FIO_MEAS_VPIN (i0 : Nat) : (FIO_MEAS_VPIN i0).In Reg.FIO_MEAS := ⟨⟨i0 % _, Nat.mod_lt _ (by decide), 0, by decide, rfl⟩, by unfold FIO_MEAS_VPIN; dsimp only; omega⟩
theorem in_FIO_MEAS_TEMP (i0 : Nat) : (FIO_MEAS_TEMP i0).In Reg.FIO_MEAS := ⟨⟨i0 % _, Nat.mod_lt _ (by decide), 0, by decide, rfl⟩, by unfold FIO_MEAS_TEMP; dsimp only; omega⟩
theorem in_FIO_CNT_FAULT_EDGES : FIO_CNT_FAULT_EDGES.In Reg.FIO_CNT := ⟨⟨0, by decide, 0, by decide, rfl⟩, by decide⟩
theorem in_FIO_CNT_RESCANS : FIO_CNT_RESCANS.In Reg.FIO_CNT := ⟨⟨0, by decide, 0, by decide, rfl⟩, by decide⟩
theorem in_SIN_CFG_EN (i0 : Nat) : (SIN_CFG_EN i0).In Reg.SIN_CFG := ⟨⟨i0 % _, Nat.mod_lt _ (by decide), 0, by decide, rfl⟩, by unfold SIN_CFG_EN; dsimp only; omega⟩
theorem in_SIN_CFG_REF (i0 : Nat) : (SIN_CFG_REF i0).In Reg.SIN_CFG := ⟨⟨i0 % _, Nat.mod_lt _ (by decide), 0, by decide, rfl⟩, by unfold SIN_CFG_REF; dsimp only; omega⟩
theorem in_SIN_CFG_WET (i0 : Nat) : (SIN_CFG_WET i0).In Reg.SIN_CFG := ⟨⟨i0 % _, Nat.mod_lt _ (by decide), 0, by decide, rfl⟩, by unfold SIN_CFG_WET; dsimp only; omega⟩
theorem in_SIN_CFG_WCONT (i0 : Nat) : (SIN_CFG_WCONT i0).In Reg.SIN_CFG := ⟨⟨i0 % _, Nat.mod_lt _ (by decide), 0, by decide, rfl⟩, by unfold SIN_CFG_WCONT; dsimp only; omega⟩
theorem in_SIN_CFG_THR (i0 : Nat) : (SIN_CFG_THR i0).In Reg.SIN_CFG := ⟨⟨i0 % _, Nat.mod_lt _ (by decide), 0, by decide, rfl⟩, by unfold SIN_CFG_THR; dsimp only; omega⟩
theorem in_SIN_CFG_DEB (i0 : Nat) : (SIN_CFG_DEB i0).In Reg.SIN_CFG := ⟨⟨i0 % _, Nat.mod_lt _ (by decide), 0, by decide, rfl⟩, by unfold SIN_CFG_DEB; dsimp only; omega⟩
theorem in_SIN_CFG_IN_EVT (i0 : Nat) : (SIN_CFG_IN_EVT i0).In Reg.SIN_CFG := ⟨⟨i0 % _, Nat.mod_lt _ (by decide), 0, by decide, rfl⟩, by unfold SIN_CFG_IN_EVT; dsimp only; omega⟩
theorem in_SIN_CFG_AMODE (i0 : Nat) : (SIN_CFG_AMODE i0).In Reg.SIN_CFG := ⟨⟨i0 % _, Nat.mod_lt _ (by decide), 0, by decide, rfl⟩, by unfold SIN_CFG_AMODE; dsimp only; omega⟩
theorem in_SIN_CFG_RPU (i0 : Nat) : (SIN_CFG_RPU i0).In Reg.SIN_CFG := ⟨⟨i0 % _, Nat.mod_lt _ (by decide), 0, by decide, rfl⟩, by unfold SIN_CFG_RPU; dsimp only; omega⟩
theorem in_SIN_CFG_ANA_MS (i0 : Nat) : (SIN_CFG_ANA_MS i0).In Reg.SIN_CFG := ⟨⟨i0 % _, Nat.mod_lt _ (by decide), 0, by decide, rfl⟩, by unfold SIN_CFG_ANA_MS; dsimp only; omega⟩
theorem in_SIN_CYC_CYC_PERIOD : SIN_CYC_CYC_PERIOD.In Reg.SIN_CYC := ⟨⟨0, by decide, 0, by decide, rfl⟩, by decide⟩
theorem in_SIN_CYC_EN_CYC_EN : SIN_CYC_EN_CYC_EN.In Reg.SIN_CYC_EN := ⟨⟨0, by decide, 0, by decide, rfl⟩, by decide⟩
theorem in_SIN_LEVEL_LEVEL : SIN_LEVEL_LEVEL.In Reg.SIN_LEVEL := ⟨⟨0, by decide, 0, by decide, rfl⟩, by decide⟩
theorem in_SIN_ANA_VALUE (i0 : Nat) : (SIN_ANA_VALUE i0).In Reg.SIN_ANA := ⟨⟨i0 % _, Nat.mod_lt _ (by decide), 0, by decide, rfl⟩, by unfold SIN_ANA_VALUE; dsimp only; omega⟩
theorem in_SIN_AFLT_AFAULT : SIN_AFLT_AFAULT.In Reg.SIN_AFLT := ⟨⟨0, by decide, 0, by decide, rfl⟩, by decide⟩
theorem in_SIN_SCHED_CAP_FREE : SIN_SCHED_CAP_FREE.In Reg.SIN_SCHED := ⟨⟨0, by decide, 0, by decide, rfl⟩, by decide⟩
theorem in_SIN_CAL_CAL_DEGR : SIN_CAL_CAL_DEGR.In Reg.SIN_CAL := ⟨⟨0, by decide, 0, by decide, rfl⟩, by decide⟩
theorem in_SIN_CAL_SV_CAL_DEGR : SIN_CAL_SV_CAL_DEGR.In Reg.SIN_CAL := ⟨⟨0, by decide, 0, by decide, rfl⟩, by decide⟩
theorem in_SIN_CAL_CAL_FAILS : SIN_CAL_CAL_FAILS.In Reg.SIN_CAL := ⟨⟨0, by decide, 0, by decide, rfl⟩, by decide⟩
theorem in_SIN_SNS_CNT_BLK_LOST : SIN_SNS_CNT_BLK_LOST.In Reg.SIN_SNS_CNT := ⟨⟨0, by decide, 0, by decide, rfl⟩, by decide⟩
theorem in_SIN_SNS_CNT_INF_LOST : SIN_SNS_CNT_INF_LOST.In Reg.SIN_SNS_CNT := ⟨⟨0, by decide, 0, by decide, rfl⟩, by decide⟩
theorem in_SIN_STREAMS_OPEN_CNT : SIN_STREAMS_OPEN_CNT.In Reg.SIN_STREAMS := ⟨⟨0, by decide, 0, by decide, rfl⟩, by decide⟩
theorem in_SCL_CFG_STEP : SCL_CFG_STEP.In Reg.SCL_CFG := ⟨⟨0, by decide, 0, by decide, rfl⟩, by decide⟩
theorem in_SCL_CFG_I_GRACE : SCL_CFG_I_GRACE.In Reg.SCL_CFG := ⟨⟨0, by decide, 0, by decide, rfl⟩, by decide⟩
theorem in_SCL_CFG_RESTORE_PCT : SCL_CFG_RESTORE_PCT.In Reg.SCL_CFG := ⟨⟨0, by decide, 0, by decide, rfl⟩, by decide⟩
theorem in_SCL_CFG_POL_ADAPT : SCL_CFG_POL_ADAPT.In Reg.SCL_CFG := ⟨⟨0, by decide, 0, by decide, rfl⟩, by decide⟩
theorem in_SCL_FLOOR_HS_FLOOR : SCL_FLOOR_HS_FLOOR.In Reg.SCL_FLOOR := ⟨⟨0, by decide, 0, by decide, rfl⟩, by decide⟩
theorem in_SCL_FLOOR_HB_FLOOR : SCL_FLOOR_HB_FLOOR.In Reg.SCL_FLOOR := ⟨⟨0, by decide, 0, by decide, rfl⟩, by decide⟩
theorem in_SCL_FLOOR_LED_FLOOR : SCL_FLOOR_LED_FLOOR.In Reg.SCL_FLOOR := ⟨⟨0, by decide, 0, by decide, rfl⟩, by decide⟩
theorem in_SCL_FLOOR_FIO_FLOOR : SCL_FLOOR_FIO_FLOOR.In Reg.SCL_FLOOR := ⟨⟨0, by decide, 0, by decide, rfl⟩, by decide⟩
theorem in_SCL_PKG_PKG_W : SCL_PKG_PKG_W.In Reg.SCL_PKG := ⟨⟨0, by decide, 0, by decide, rfl⟩, by decide⟩
theorem in_SCL_PKG_TJ_KNEE : SCL_PKG_TJ_KNEE.In Reg.SCL_PKG := ⟨⟨0, by decide, 0, by decide, rfl⟩, by decide⟩
theorem in_SCL_PKG_PKG_FLOOR : SCL_PKG_PKG_FLOOR.In Reg.SCL_PKG := ⟨⟨0, by decide, 0, by decide, rfl⟩, by decide⟩
theorem in_SCL_OVL_OVL_CLEAR : SCL_OVL_OVL_CLEAR.In Reg.SCL_OVL := ⟨⟨0, by decide, 0, by decide, rfl⟩, by decide⟩
theorem in_SCL_OVL_OVL_SRC : SCL_OVL_OVL_SRC.In Reg.SCL_OVL := ⟨⟨0, by decide, 0, by decide, rfl⟩, by decide⟩
theorem in_SCL_RETRY_STORM_N : SCL_RETRY_STORM_N.In Reg.SCL_RETRY := ⟨⟨0, by decide, 0, by decide, rfl⟩, by decide⟩
theorem in_SCL_RETRY_STORM_HOLD : SCL_RETRY_STORM_HOLD.In Reg.SCL_RETRY := ⟨⟨0, by decide, 0, by decide, rfl⟩, by decide⟩
theorem in_SCL_TRIM_TRIM (i0 : Nat) : (SCL_TRIM_TRIM i0).In Reg.SCL_TRIM := ⟨⟨i0 % _, Nat.mod_lt _ (by decide), 0, by decide, rfl⟩, by unfold SCL_TRIM_TRIM; dsimp only; omega⟩
theorem in_SCL_RUN_LEARN_FREEZE : SCL_RUN_LEARN_FREEZE.In Reg.SCL_RUN := ⟨⟨0, by decide, 0, by decide, rfl⟩, by decide⟩
theorem in_SCL_RUN_RETRY_HOLD : SCL_RUN_RETRY_HOLD.In Reg.SCL_RUN := ⟨⟨0, by decide, 0, by decide, rfl⟩, by decide⟩
theorem in_SCL_PKG_TRIM_PKG_TRIM : SCL_PKG_TRIM_PKG_TRIM.In Reg.SCL_PKG_TRIM := ⟨⟨0, by decide, 0, by decide, rfl⟩, by decide⟩
theorem in_SCL_STATUS_OVL : SCL_STATUS_OVL.In Reg.SCL_STATUS := ⟨⟨0, by decide, 0, by decide, rfl⟩, by decide⟩
theorem in_SCL_STATUS_PKG_ACTIVE : SCL_STATUS_PKG_ACTIVE.In Reg.SCL_STATUS := ⟨⟨0, by decide, 0, by decide, rfl⟩, by decide⟩
theorem in_SCL_STATUS_STORM : SCL_STATUS_STORM.In Reg.SCL_STATUS := ⟨⟨0, by decide, 0, by decide, rfl⟩, by decide⟩
theorem in_SCL_STATUS_PKG_FACTOR : SCL_STATUS_PKG_FACTOR.In Reg.SCL_STATUS := ⟨⟨0, by decide, 0, by decide, rfl⟩, by decide⟩
theorem in_SCL_STATUS_PKG_P : SCL_STATUS_PKG_P.In Reg.SCL_STATUS := ⟨⟨0, by decide, 0, by decide, rfl⟩, by decide⟩
theorem in_SCL_STATUS_UCODE_VER : SCL_STATUS_UCODE_VER.In Reg.SCL_STATUS := ⟨⟨0, by decide, 0, by decide, rfl⟩, by decide⟩
theorem in_SCL_PMEAS_I_MEAN (i0 : Nat) : (SCL_PMEAS_I_MEAN i0).In Reg.SCL_PMEAS := ⟨⟨i0 % _, Nat.mod_lt _ (by decide), 0, by decide, rfl⟩, by unfold SCL_PMEAS_I_MEAN; dsimp only; omega⟩
theorem in_SCL_PMEAS_H_MEAN (i0 : Nat) : (SCL_PMEAS_H_MEAN i0).In Reg.SCL_PMEAS := ⟨⟨i0 % _, Nat.mod_lt _ (by decide), 0, by decide, rfl⟩, by unfold SCL_PMEAS_H_MEAN; dsimp only; omega⟩
theorem in_SCL_PENERGY_E_WIN (i0 : Nat) : (SCL_PENERGY_E_WIN i0).In Reg.SCL_PENERGY := ⟨⟨i0 % _, Nat.mod_lt _ (by decide), 0, by decide, rfl⟩, by unfold SCL_PENERGY_E_WIN; dsimp only; omega⟩
theorem in_SCL_OVL_CNT_WIN_LOSS : SCL_OVL_CNT_WIN_LOSS.In Reg.SCL_OVL_CNT := ⟨⟨0, by decide, 0, by decide, rfl⟩, by decide⟩
theorem in_SCL_OVL_CNT_OVL_EPISODES : SCL_OVL_CNT_OVL_EPISODES.In Reg.SCL_OVL_CNT := ⟨⟨0, by decide, 0, by decide, rfl⟩, by decide⟩
theorem in_SCL_CNT_DERATE_STEPS : SCL_CNT_DERATE_STEPS.In Reg.SCL_CNT := ⟨⟨0, by decide, 0, by decide, rfl⟩, by decide⟩
theorem in_SCL_CNT_PKG_EPISODES : SCL_CNT_PKG_EPISODES.In Reg.SCL_CNT := ⟨⟨0, by decide, 0, by decide, rfl⟩, by decide⟩
theorem in_SCL_CNT_SCL_RESTARTS : SCL_CNT_SCL_RESTARTS.In Reg.SCL_CNT := ⟨⟨0, by decide, 0, by decide, rfl⟩, by decide⟩
theorem in_SW_PORT_CFG_PVID (i0 : Nat) : (SW_PORT_CFG_PVID i0).In Reg.SW_PORT_CFG := ⟨⟨i0 % _, Nat.mod_lt _ (by decide), 0, by decide, rfl⟩, by unfold SW_PORT_CFG_PVID; dsimp only; omega⟩
theorem in_SW_PORT_CFG_LEARN_EN (i0 : Nat) : (SW_PORT_CFG_LEARN_EN i0).In Reg.SW_PORT_CFG := ⟨⟨i0 % _, Nat.mod_lt _ (by decide), 0, by decide, rfl⟩, by unfold SW_PORT_CFG_LEARN_EN; dsimp only; omega⟩
theorem in_SW_PORT_CFG_DEF_PCP (i0 : Nat) : (SW_PORT_CFG_DEF_PCP i0).In Reg.SW_PORT_CFG := ⟨⟨i0 % _, Nat.mod_lt _ (by decide), 0, by decide, rfl⟩, by unfold SW_PORT_CFG_DEF_PCP; dsimp only; omega⟩
theorem in_SW_CFG_AGE_TIME : SW_CFG_AGE_TIME.In Reg.SW_CFG := ⟨⟨0, by decide, 0, by decide, rfl⟩, by decide⟩
theorem in_SW_CFG_MAX_FRAME : SW_CFG_MAX_FRAME.In Reg.SW_CFG := ⟨⟨0, by decide, 0, by decide, rfl⟩, by decide⟩
theorem in_SW_SALT_HASH_SALT : SW_SALT_HASH_SALT.In Reg.SW_SALT := ⟨⟨0, by decide, 0, by decide, rfl⟩, by decide⟩
theorem in_SW_PCPMAP_CLASS (j : Nat) : (SW_PCPMAP_CLASS j).In Reg.SW_PCPMAP := ⟨⟨0, by decide, 0, by decide, rfl⟩, by unfold SW_PCPMAP_CLASS; dsimp only; omega⟩
theorem in_SW_TX_TX_TMO : SW_TX_TX_TMO.In Reg.SW_TX := ⟨⟨0, by decide, 0, by decide, rfl⟩, by decide⟩
theorem in_SW_BUF_GUAR_GUAR (j : Nat) : (SW_BUF_GUAR_GUAR j).In Reg.SW_BUF_GUAR := ⟨⟨0, by decide, 0, by decide, rfl⟩, by unfold SW_BUF_GUAR_GUAR; dsimp only; omega⟩
theorem in_SW_BUF_CFG_SHARE_MAX : SW_BUF_CFG_SHARE_MAX.In Reg.SW_BUF_CFG := ⟨⟨0, by decide, 0, by decide, rfl⟩, by decide⟩
theorem in_SW_BUF_CFG_SAF_RES : SW_BUF_CFG_SAF_RES.In Reg.SW_BUF_CFG := ⟨⟨0, by decide, 0, by decide, rfl⟩, by decide⟩
theorem in_SW_BUF_CFG_GUAR_ERR : SW_BUF_CFG_GUAR_ERR.In Reg.SW_BUF_CFG := ⟨⟨0, by decide, 0, by decide, rfl⟩, by decide⟩
theorem in_SW_VLAN_SEL_VID : SW_VLAN_SEL_VID.In Reg.SW_VLAN_SEL := ⟨⟨0, by decide, 0, by decide, rfl⟩, by decide⟩
theorem in_SW_VLAN_DATA_MEMBER : SW_VLAN_DATA_MEMBER.In Reg.SW_VLAN_DATA := ⟨⟨0, by decide, 0, by decide, rfl⟩, by decide⟩
theorem in_SW_VLAN_DATA_UNTAG : SW_VLAN_DATA_UNTAG.In Reg.SW_VLAN_DATA := ⟨⟨0, by decide, 0, by decide, rfl⟩, by decide⟩
theorem in_SW_VLAN_DATA_INS_POL : SW_VLAN_DATA_INS_POL.In Reg.SW_VLAN_DATA := ⟨⟨0, by decide, 0, by decide, rfl⟩, by decide⟩
theorem in_SW_VLAN_DATA_VLEARN : SW_VLAN_DATA_VLEARN.In Reg.SW_VLAN_DATA := ⟨⟨0, by decide, 0, by decide, rfl⟩, by decide⟩
theorem in_SW_VLAN_DATA_VALID : SW_VLAN_DATA_VALID.In Reg.SW_VLAN_DATA := ⟨⟨0, by decide, 0, by decide, rfl⟩, by decide⟩
theorem in_SW_TBL_IDX_INDEX : SW_TBL_IDX_INDEX.In Reg.SW_TBL_IDX := ⟨⟨0, by decide, 0, by decide, rfl⟩, by decide⟩
theorem in_SW_TBL_CMD_OP : SW_TBL_CMD_OP.In Reg.SW_TBL_CMD := ⟨⟨0, by decide, 0, by decide, rfl⟩, by decide⟩
theorem in_SW_TBL_DATA0_MAC_LO : SW_TBL_DATA0_MAC_LO.In Reg.SW_TBL_DATA0 := ⟨⟨0, by decide, 0, by decide, rfl⟩, by decide⟩
theorem in_SW_TBL_DATA1_MAC_HI : SW_TBL_DATA1_MAC_HI.In Reg.SW_TBL_DATA1 := ⟨⟨0, by decide, 0, by decide, rfl⟩, by decide⟩
theorem in_SW_TBL_DATA1_VID : SW_TBL_DATA1_VID.In Reg.SW_TBL_DATA1 := ⟨⟨0, by decide, 0, by decide, rfl⟩, by decide⟩
theorem in_SW_TBL_DATA2_PORT : SW_TBL_DATA2_PORT.In Reg.SW_TBL_DATA2 := ⟨⟨0, by decide, 0, by decide, rfl⟩, by decide⟩
theorem in_SW_TBL_DATA2_AGE : SW_TBL_DATA2_AGE.In Reg.SW_TBL_DATA2 := ⟨⟨0, by decide, 0, by decide, rfl⟩, by decide⟩
theorem in_SW_TBL_DATA2_VALID : SW_TBL_DATA2_VALID.In Reg.SW_TBL_DATA2 := ⟨⟨0, by decide, 0, by decide, rfl⟩, by decide⟩
theorem in_SW_TBL_DATA2_STATIC : SW_TBL_DATA2_STATIC.In Reg.SW_TBL_DATA2 := ⟨⟨0, by decide, 0, by decide, rfl⟩, by decide⟩
theorem in_SW_TBL_DATA2_MCAST : SW_TBL_DATA2_MCAST.In Reg.SW_TBL_DATA2 := ⟨⟨0, by decide, 0, by decide, rfl⟩, by decide⟩
theorem in_SW_CBS_IDLE_SLOPE (i0 : Nat) (i1 : Nat) : (SW_CBS_IDLE_SLOPE i0 i1).In Reg.SW_CBS := ⟨⟨i0 % _, Nat.mod_lt _ (by decide), i1 % _, Nat.mod_lt _ (by decide), rfl⟩, by unfold SW_CBS_IDLE_SLOPE; dsimp only; omega⟩
theorem in_SW_CBS_CBS_EN (i0 : Nat) (i1 : Nat) : (SW_CBS_CBS_EN i0 i1).In Reg.SW_CBS := ⟨⟨i0 % _, Nat.mod_lt _ (by decide), i1 % _, Nat.mod_lt _ (by decide), rfl⟩, by unfold SW_CBS_CBS_EN; dsimp only; omega⟩
theorem in_SW_GATE_CFG_GATE_EN (i0 : Nat) : (SW_GATE_CFG_GATE_EN i0).In Reg.SW_GATE_CFG := ⟨⟨i0 % _, Nat.mod_lt _ (by decide), 0, by decide, rfl⟩, by unfold SW_GATE_CFG_GATE_EN; dsimp only; omega⟩
theorem in_SW_GATE_CFG_NOSYNC (i0 : Nat) : (SW_GATE_CFG_NOSYNC i0).In Reg.SW_GATE_CFG := ⟨⟨i0 % _, Nat.mod_lt _ (by decide), 0, by decide, rfl⟩, by unfold SW_GATE_CFG_NOSYNC; dsimp only; omega⟩
theorem in_SW_GATE_CFG_LEN (i0 : Nat) : (SW_GATE_CFG_LEN i0).In Reg.SW_GATE_CFG := ⟨⟨i0 % _, Nat.mod_lt _ (by decide), 0, by decide, rfl⟩, by unfold SW_GATE_CFG_LEN; dsimp only; omega⟩
theorem in_SW_GATE_CYCLE_CYCLE (i0 : Nat) : (SW_GATE_CYCLE_CYCLE i0).In Reg.SW_GATE_CYCLE := ⟨⟨i0 % _, Nat.mod_lt _ (by decide), 0, by decide, rfl⟩, by unfold SW_GATE_CYCLE_CYCLE; dsimp only; omega⟩
theorem in_SW_GATE_BASE_BASE (i0 : Nat) : (SW_GATE_BASE_BASE i0).In Reg.SW_GATE_BASE := ⟨⟨i0 % _, Nat.mod_lt _ (by decide), 0, by decide, rfl⟩, by unfold SW_GATE_BASE_BASE; dsimp only; omega⟩
theorem in_SW_GCL0_GATES (i0 : Nat) (i1 : Nat) : (SW_GCL0_GATES i0 i1).In Reg.SW_GCL0 := ⟨⟨i0 % _, Nat.mod_lt _ (by decide), i1 % _, Nat.mod_lt _ (by decide), rfl⟩, by unfold SW_GCL0_GATES; dsimp only; omega⟩
theorem in_SW_GCL1_INTERVAL (i0 : Nat) (i1 : Nat) : (SW_GCL1_INTERVAL i0 i1).In Reg.SW_GCL1 := ⟨⟨i0 % _, Nat.mod_lt _ (by decide), i1 % _, Nat.mod_lt _ (by decide), rfl⟩, by unfold SW_GCL1_INTERVAL; dsimp only; omega⟩
theorem in_SW_CNT_SEL_PORT : SW_CNT_SEL_PORT.In Reg.SW_CNT_SEL := ⟨⟨0, by decide, 0, by decide, rfl⟩, by decide⟩
theorem in_SW_CNT_SEL_CLASS : SW_CNT_SEL_CLASS.In Reg.SW_CNT_SEL := ⟨⟨0, by decide, 0, by decide, rfl⟩, by decide⟩
theorem in_SW_CNT_SEL_CTR : SW_CNT_SEL_CTR.In Reg.SW_CNT_SEL := ⟨⟨0, by decide, 0, by decide, rfl⟩, by decide⟩
theorem in_SW_CNT_VAL_VALUE : SW_CNT_VAL_VALUE.In Reg.SW_CNT_VAL := ⟨⟨0, by decide, 0, by decide, rfl⟩, by decide⟩
theorem in_SW_STATUS_ENTRIES : SW_STATUS_ENTRIES.In Reg.SW_STATUS := ⟨⟨0, by decide, 0, by decide, rfl⟩, by decide⟩
theorem in_SW_STATUS_STATIC_CNT : SW_STATUS_STATIC_CNT.In Reg.SW_STATUS := ⟨⟨0, by decide, 0, by decide, rfl⟩, by decide⟩
theorem in_SW_STATUS_STATIC_FULL : SW_STATUS_STATIC_FULL.In Reg.SW_STATUS := ⟨⟨0, by decide, 0, by decide, rfl⟩, by decide⟩
theorem in_SW_STATUS_SHAPE_ERR : SW_STATUS_SHAPE_ERR.In Reg.SW_STATUS := ⟨⟨0, by decide, 0, by decide, rfl⟩, by decide⟩
theorem in_SW_STATUS_TBL_BUSY : SW_STATUS_TBL_BUSY.In Reg.SW_STATUS := ⟨⟨0, by decide, 0, by decide, rfl⟩, by decide⟩
theorem in_SW_BUF_STATUS_FREE_CELLS : SW_BUF_STATUS_FREE_CELLS.In Reg.SW_BUF_STATUS := ⟨⟨0, by decide, 0, by decide, rfl⟩, by decide⟩
theorem in_SW_BUF_STATUS_MIN_FREE : SW_BUF_STATUS_MIN_FREE.In Reg.SW_BUF_STATUS := ⟨⟨0, by decide, 0, by decide, rfl⟩, by decide⟩
theorem in_SW_RULE0_PORTS (i0 : Nat) : (SW_RULE0_PORTS i0).In Reg.SW_RULE0 := ⟨⟨i0 % _, Nat.mod_lt _ (by decide), 0, by decide, rfl⟩, by unfold SW_RULE0_PORTS; dsimp only; omega⟩
theorem in_SW_RULE0_VID (i0 : Nat) : (SW_RULE0_VID i0).In Reg.SW_RULE0 := ⟨⟨i0 % _, Nat.mod_lt _ (by decide), 0, by decide, rfl⟩, by unfold SW_RULE0_VID; dsimp only; omega⟩
theorem in_SW_RULE0_ACTION (i0 : Nat) : (SW_RULE0_ACTION i0).In Reg.SW_RULE0 := ⟨⟨i0 % _, Nat.mod_lt _ (by decide), 0, by decide, rfl⟩, by unfold SW_RULE0_ACTION; dsimp only; omega⟩
theorem in_SW_RULE0_CLASS (i0 : Nat) : (SW_RULE0_CLASS i0).In Reg.SW_RULE0 := ⟨⟨i0 % _, Nat.mod_lt _ (by decide), 0, by decide, rfl⟩, by unfold SW_RULE0_CLASS; dsimp only; omega⟩
theorem in_SW_RULE0_EN (i0 : Nat) : (SW_RULE0_EN i0).In Reg.SW_RULE0 := ⟨⟨i0 % _, Nat.mod_lt _ (by decide), 0, by decide, rfl⟩, by unfold SW_RULE0_EN; dsimp only; omega⟩
theorem in_SW_RULE1_ETYPE (i0 : Nat) : (SW_RULE1_ETYPE i0).In Reg.SW_RULE1 := ⟨⟨i0 % _, Nat.mod_lt _ (by decide), 0, by decide, rfl⟩, by unfold SW_RULE1_ETYPE; dsimp only; omega⟩
theorem in_SW_RULE1_PROTO (i0 : Nat) : (SW_RULE1_PROTO i0).In Reg.SW_RULE1 := ⟨⟨i0 % _, Nat.mod_lt _ (by decide), 0, by decide, rfl⟩, by unfold SW_RULE1_PROTO; dsimp only; omega⟩
theorem in_SW_RULE1_PROTO_EN (i0 : Nat) : (SW_RULE1_PROTO_EN i0).In Reg.SW_RULE1 := ⟨⟨i0 % _, Nat.mod_lt _ (by decide), 0, by decide, rfl⟩, by unfold SW_RULE1_PROTO_EN; dsimp only; omega⟩
theorem in_SW_RULE1_DSCP (i0 : Nat) : (SW_RULE1_DSCP i0).In Reg.SW_RULE1 := ⟨⟨i0 % _, Nat.mod_lt _ (by decide), 0, by decide, rfl⟩, by unfold SW_RULE1_DSCP; dsimp only; omega⟩
theorem in_SW_RULE1_DSCP_EN (i0 : Nat) : (SW_RULE1_DSCP_EN i0).In Reg.SW_RULE1 := ⟨⟨i0 % _, Nat.mod_lt _ (by decide), 0, by decide, rfl⟩, by unfold SW_RULE1_DSCP_EN; dsimp only; omega⟩
theorem in_SW_RULE2_DPORT_LO (i0 : Nat) : (SW_RULE2_DPORT_LO i0).In Reg.SW_RULE2 := ⟨⟨i0 % _, Nat.mod_lt _ (by decide), 0, by decide, rfl⟩, by unfold SW_RULE2_DPORT_LO; dsimp only; omega⟩
theorem in_SW_RULE2_DPORT_HI (i0 : Nat) : (SW_RULE2_DPORT_HI i0).In Reg.SW_RULE2 := ⟨⟨i0 % _, Nat.mod_lt _ (by decide), 0, by decide, rfl⟩, by unfold SW_RULE2_DPORT_HI; dsimp only; omega⟩
theorem in_SW_RULE3_TRUNC_CARE (i0 : Nat) : (SW_RULE3_TRUNC_CARE i0).In Reg.SW_RULE3 := ⟨⟨i0 % _, Nat.mod_lt _ (by decide), 0, by decide, rfl⟩, by unfold SW_RULE3_TRUNC_CARE; dsimp only; omega⟩
theorem in_SW_RULE3_TRUNC_VAL (i0 : Nat) : (SW_RULE3_TRUNC_VAL i0).In Reg.SW_RULE3 := ⟨⟨i0 % _, Nat.mod_lt _ (by decide), 0, by decide, rfl⟩, by unfold SW_RULE3_TRUNC_VAL; dsimp only; omega⟩
theorem in_SW_RULE3_MAL_CARE (i0 : Nat) : (SW_RULE3_MAL_CARE i0).In Reg.SW_RULE3 := ⟨⟨i0 % _, Nat.mod_lt _ (by decide), 0, by decide, rfl⟩, by unfold SW_RULE3_MAL_CARE; dsimp only; omega⟩
theorem in_SW_RULE3_MAL_VAL (i0 : Nat) : (SW_RULE3_MAL_VAL i0).In Reg.SW_RULE3 := ⟨⟨i0 % _, Nat.mod_lt _ (by decide), 0, by decide, rfl⟩, by unfold SW_RULE3_MAL_VAL; dsimp only; omega⟩
theorem in_SW_MSEC_CFG_MSEC_EN (i0 : Nat) : (SW_MSEC_CFG_MSEC_EN i0).In Reg.SW_MSEC_CFG := ⟨⟨i0 % _, Nat.mod_lt _ (by decide), 0, by decide, rfl⟩, by unfold SW_MSEC_CFG_MSEC_EN; dsimp only; omega⟩
theorem in_SW_MSEC_CFG_CIPHER (i0 : Nat) : (SW_MSEC_CFG_CIPHER i0).In Reg.SW_MSEC_CFG := ⟨⟨i0 % _, Nat.mod_lt _ (by decide), 0, by decide, rfl⟩, by unfold SW_MSEC_CFG_CIPHER; dsimp only; omega⟩
theorem in_SW_MSEC_CFG_INCLUDE_SCI (i0 : Nat) : (SW_MSEC_CFG_INCLUDE_SCI i0).In Reg.SW_MSEC_CFG := ⟨⟨i0 % _, Nat.mod_lt _ (by decide), 0, by decide, rfl⟩, by unfold SW_MSEC_CFG_INCLUDE_SCI; dsimp only; omega⟩
theorem in_SW_MSEC_CFG_REPLAY_PROTECT (i0 : Nat) : (SW_MSEC_CFG_REPLAY_PROTECT i0).In Reg.SW_MSEC_CFG := ⟨⟨i0 % _, Nat.mod_lt _ (by decide), 0, by decide, rfl⟩, by unfold SW_MSEC_CFG_REPLAY_PROTECT; dsimp only; omega⟩
theorem in_SW_MSEC_CFG_CONF (i0 : Nat) : (SW_MSEC_CFG_CONF i0).In Reg.SW_MSEC_CFG := ⟨⟨i0 % _, Nat.mod_lt _ (by decide), 0, by decide, rfl⟩, by unfold SW_MSEC_CFG_CONF; dsimp only; omega⟩
theorem in_SW_MSEC_WIN_REPLAY_WIN (i0 : Nat) : (SW_MSEC_WIN_REPLAY_WIN i0).In Reg.SW_MSEC_WIN := ⟨⟨i0 % _, Nat.mod_lt _ (by decide), 0, by decide, rfl⟩, by unfold SW_MSEC_WIN_REPLAY_WIN; dsimp only; omega⟩
theorem in_SW_MSEC_SCI_SCI (i0 : Nat) : (SW_MSEC_SCI_SCI i0).In Reg.SW_MSEC_SCI := ⟨⟨i0 % _, Nat.mod_lt _ (by decide), 0, by decide, rfl⟩, by unfold SW_MSEC_SCI_SCI; dsimp only; omega⟩
theorem in_SW_MSEC_PEER_PEER_SCI (i0 : Nat) : (SW_MSEC_PEER_PEER_SCI i0).In Reg.SW_MSEC_PEER := ⟨⟨i0 % _, Nat.mod_lt _ (by decide), 0, by decide, rfl⟩, by unfold SW_MSEC_PEER_PEER_SCI; dsimp only; omega⟩
theorem in_SW_MSEC_STAT_RX_AN_VALID (i0 : Nat) : (SW_MSEC_STAT_RX_AN_VALID i0).In Reg.SW_MSEC_STAT := ⟨⟨i0 % _, Nat.mod_lt _ (by decide), 0, by decide, rfl⟩, by unfold SW_MSEC_STAT_RX_AN_VALID; dsimp only; omega⟩
theorem in_SW_MSEC_STAT_TX_AN (i0 : Nat) : (SW_MSEC_STAT_TX_AN i0).In Reg.SW_MSEC_STAT := ⟨⟨i0 % _, Nat.mod_lt _ (by decide), 0, by decide, rfl⟩, by unfold SW_MSEC_STAT_TX_AN; dsimp only; omega⟩
theorem in_SW_MSEC_STAT_TX_ACTIVE (i0 : Nat) : (SW_MSEC_STAT_TX_ACTIVE i0).In Reg.SW_MSEC_STAT := ⟨⟨i0 % _, Nat.mod_lt _ (by decide), 0, by decide, rfl⟩, by unfold SW_MSEC_STAT_TX_ACTIVE; dsimp only; omega⟩
theorem in_SW_MSEC_STAT_PN_WARN (i0 : Nat) : (SW_MSEC_STAT_PN_WARN i0).In Reg.SW_MSEC_STAT := ⟨⟨i0 % _, Nat.mod_lt _ (by decide), 0, by decide, rfl⟩, by unfold SW_MSEC_STAT_PN_WARN; dsimp only; omega⟩
theorem in_SUB_T1S_CFG_PLCA_EN (i0 : Nat) : (SUB_T1S_CFG_PLCA_EN i0).In Reg.SUB_T1S_CFG := ⟨⟨i0 % _, Nat.mod_lt _ (by decide), 0, by decide, rfl⟩, by unfold SUB_T1S_CFG_PLCA_EN; dsimp only; omega⟩
theorem in_SUB_T1S_CFG_LOCAL_ID (i0 : Nat) : (SUB_T1S_CFG_LOCAL_ID i0).In Reg.SUB_T1S_CFG := ⟨⟨i0 % _, Nat.mod_lt _ (by decide), 0, by decide, rfl⟩, by unfold SUB_T1S_CFG_LOCAL_ID; dsimp only; omega⟩
theorem in_SUB_T1S_CFG_NODE_CNT (i0 : Nat) : (SUB_T1S_CFG_NODE_CNT i0).In Reg.SUB_T1S_CFG := ⟨⟨i0 % _, Nat.mod_lt _ (by decide), 0, by decide, rfl⟩, by unfold SUB_T1S_CFG_NODE_CNT; dsimp only; omega⟩
theorem in_SUB_T1S_CFG_TO_TIMER (i0 : Nat) : (SUB_T1S_CFG_TO_TIMER i0).In Reg.SUB_T1S_CFG := ⟨⟨i0 % _, Nat.mod_lt _ (by decide), 0, by decide, rfl⟩, by unfold SUB_T1S_CFG_TO_TIMER; dsimp only; omega⟩
theorem in_SUB_T1S_CFG_MAX_BC (i0 : Nat) : (SUB_T1S_CFG_MAX_BC i0).In Reg.SUB_T1S_CFG := ⟨⟨i0 % _, Nat.mod_lt _ (by decide), 0, by decide, rfl⟩, by unfold SUB_T1S_CFG_MAX_BC; dsimp only; omega⟩
theorem in_SUB_T1S_CFG_BURST_TMR (i0 : Nat) : (SUB_T1S_CFG_BURST_TMR i0).In Reg.SUB_T1S_CFG := ⟨⟨i0 % _, Nat.mod_lt _ (by decide), 0, by decide, rfl⟩, by unfold SUB_T1S_CFG_BURST_TMR; dsimp only; omega⟩
theorem in_SUB_T1S_CFG_SLEEP_SEND (i0 : Nat) : (SUB_T1S_CFG_SLEEP_SEND i0).In Reg.SUB_T1S_CFG := ⟨⟨i0 % _, Nat.mod_lt _ (by decide), 0, by decide, rfl⟩, by unfold SUB_T1S_CFG_SLEEP_SEND; dsimp only; omega⟩
theorem in_SUB_T1S_CFG_SEG_WFWD (i0 : Nat) : (SUB_T1S_CFG_SEG_WFWD i0).In Reg.SUB_T1S_CFG := ⟨⟨i0 % _, Nat.mod_lt _ (by decide), 0, by decide, rfl⟩, by unfold SUB_T1S_CFG_SEG_WFWD; dsimp only; omega⟩
theorem in_SUB_T1S_CFG_SLEEP_OK (i0 : Nat) : (SUB_T1S_CFG_SLEEP_OK i0).In Reg.SUB_T1S_CFG := ⟨⟨i0 % _, Nat.mod_lt _ (by decide), 0, by decide, rfl⟩, by unfold SUB_T1S_CFG_SLEEP_OK; dsimp only; omega⟩
theorem in_SUB_T1S_STAT_PLCA_STATUS (i0 : Nat) : (SUB_T1S_STAT_PLCA_STATUS i0).In Reg.SUB_T1S_STAT := ⟨⟨i0 % _, Nat.mod_lt _ (by decide), 0, by decide, rfl⟩, by unfold SUB_T1S_STAT_PLCA_STATUS; dsimp only; omega⟩
theorem in_SUB_T1S_STAT_CFG_REFUSED (i0 : Nat) : (SUB_T1S_STAT_CFG_REFUSED i0).In Reg.SUB_T1S_STAT := ⟨⟨i0 % _, Nat.mod_lt _ (by decide), 0, by decide, rfl⟩, by unfold SUB_T1S_STAT_CFG_REFUSED; dsimp only; omega⟩
theorem in_SUB_CAN_CFG_EN (i0 : Nat) : (SUB_CAN_CFG_EN i0).In Reg.SUB_CAN_CFG := ⟨⟨i0 % _, Nat.mod_lt _ (by decide), 0, by decide, rfl⟩, by unfold SUB_CAN_CFG_EN; dsimp only; omega⟩
theorem in_SUB_CAN_CFG_FD_EN (i0 : Nat) : (SUB_CAN_CFG_FD_EN i0).In Reg.SUB_CAN_CFG := ⟨⟨i0 % _, Nat.mod_lt _ (by decide), 0, by decide, rfl⟩, by unfold SUB_CAN_CFG_FD_EN; dsimp only; omega⟩
theorem in_SUB_CAN_CFG_XL_EN (i0 : Nat) : (SUB_CAN_CFG_XL_EN i0).In Reg.SUB_CAN_CFG := ⟨⟨i0 % _, Nat.mod_lt _ (by decide), 0, by decide, rfl⟩, by unfold SUB_CAN_CFG_XL_EN; dsimp only; omega⟩
theorem in_SUB_CAN_CFG_XLTRX (i0 : Nat) : (SUB_CAN_CFG_XLTRX i0).In Reg.SUB_CAN_CFG := ⟨⟨i0 % _, Nat.mod_lt _ (by decide), 0, by decide, rfl⟩, by unfold SUB_CAN_CFG_XLTRX; dsimp only; omega⟩
theorem in_SUB_CAN_CFG_BO_AUTO (i0 : Nat) : (SUB_CAN_CFG_BO_AUTO i0).In Reg.SUB_CAN_CFG := ⟨⟨i0 % _, Nat.mod_lt _ (by decide), 0, by decide, rfl⟩, by unfold SUB_CAN_CFG_BO_AUTO; dsimp only; omega⟩
theorem in_SUB_CAN_CFG_LISTEN (i0 : Nat) : (SUB_CAN_CFG_LISTEN i0).In Reg.SUB_CAN_CFG := ⟨⟨i0 % _, Nat.mod_lt _ (by decide), 0, by decide, rfl⟩, by unfold SUB_CAN_CFG_LISTEN; dsimp only; omega⟩
theorem in_SUB_CAN_CFG_TDCO (i0 : Nat) : (SUB_CAN_CFG_TDCO i0).In Reg.SUB_CAN_CFG := ⟨⟨i0 % _, Nat.mod_lt _ (by decide), 0, by decide, rfl⟩, by unfold SUB_CAN_CFG_TDCO; dsimp only; omega⟩
theorem in_SUB_CAN_CFG_TX_TMO (i0 : Nat) : (SUB_CAN_CFG_TX_TMO i0).In Reg.SUB_CAN_CFG := ⟨⟨i0 % _, Nat.mod_lt _ (by decide), 0, by decide, rfl⟩, by unfold SUB_CAN_CFG_TX_TMO; dsimp only; omega⟩
theorem in_SUB_CAN_NBT_BRP (i0 : Nat) : (SUB_CAN_NBT_BRP i0).In Reg.SUB_CAN_NBT := ⟨⟨i0 % _, Nat.mod_lt _ (by decide), 0, by decide, rfl⟩, by unfold SUB_CAN_NBT_BRP; dsimp only; omega⟩
theorem in_SUB_CAN_NBT_TSEG1 (i0 : Nat) : (SUB_CAN_NBT_TSEG1 i0).In Reg.SUB_CAN_NBT := ⟨⟨i0 % _, Nat.mod_lt _ (by decide), 0, by decide, rfl⟩, by unfold SUB_CAN_NBT_TSEG1; dsimp only; omega⟩
theorem in_SUB_CAN_NBT_TSEG2 (i0 : Nat) : (SUB_CAN_NBT_TSEG2 i0).In Reg.SUB_CAN_NBT := ⟨⟨i0 % _, Nat.mod_lt _ (by decide), 0, by decide, rfl⟩, by unfold SUB_CAN_NBT_TSEG2; dsimp only; omega⟩
theorem in_SUB_CAN_NBT_SJW (i0 : Nat) : (SUB_CAN_NBT_SJW i0).In Reg.SUB_CAN_NBT := ⟨⟨i0 % _, Nat.mod_lt _ (by decide), 0, by decide, rfl⟩, by unfold SUB_CAN_NBT_SJW; dsimp only; omega⟩
theorem in_SUB_CAN_DBT_BRP (i0 : Nat) : (SUB_CAN_DBT_BRP i0).In Reg.SUB_CAN_DBT := ⟨⟨i0 % _, Nat.mod_lt _ (by decide), 0, by decide, rfl⟩, by unfold SUB_CAN_DBT_BRP; dsimp only; omega⟩
theorem in_SUB_CAN_DBT_TSEG1 (i0 : Nat) : (SUB_CAN_DBT_TSEG1 i0).In Reg.SUB_CAN_DBT := ⟨⟨i0 % _, Nat.mod_lt _ (by decide), 0, by decide, rfl⟩, by unfold SUB_CAN_DBT_TSEG1; dsimp only; omega⟩
theorem in_SUB_CAN_DBT_TSEG2 (i0 : Nat) : (SUB_CAN_DBT_TSEG2 i0).In Reg.SUB_CAN_DBT := ⟨⟨i0 % _, Nat.mod_lt _ (by decide), 0, by decide, rfl⟩, by unfold SUB_CAN_DBT_TSEG2; dsimp only; omega⟩
theorem in_SUB_CAN_DBT_SJW (i0 : Nat) : (SUB_CAN_DBT_SJW i0).In Reg.SUB_CAN_DBT := ⟨⟨i0 % _, Nat.mod_lt _ (by decide), 0, by decide, rfl⟩, by unfold SUB_CAN_DBT_SJW; dsimp only; omega⟩
theorem in_SUB_CAN_XBT_BRP (i0 : Nat) : (SUB_CAN_XBT_BRP i0).In Reg.SUB_CAN_XBT := ⟨⟨i0 % _, Nat.mod_lt _ (by decide), 0, by decide, rfl⟩, by unfold SUB_CAN_XBT_BRP; dsimp only; omega⟩
theorem in_SUB_CAN_XBT_TSEG1 (i0 : Nat) : (SUB_CAN_XBT_TSEG1 i0).In Reg.SUB_CAN_XBT := ⟨⟨i0 % _, Nat.mod_lt _ (by decide), 0, by decide, rfl⟩, by unfold SUB_CAN_XBT_TSEG1; dsimp only; omega⟩
theorem in_SUB_CAN_XBT_TSEG2 (i0 : Nat) : (SUB_CAN_XBT_TSEG2 i0).In Reg.SUB_CAN_XBT := ⟨⟨i0 % _, Nat.mod_lt _ (by decide), 0, by decide, rfl⟩, by unfold SUB_CAN_XBT_TSEG2; dsimp only; omega⟩
theorem in_SUB_CAN_XBT_SJW (i0 : Nat) : (SUB_CAN_XBT_SJW i0).In Reg.SUB_CAN_XBT := ⟨⟨i0 % _, Nat.mod_lt _ (by decide), 0, by decide, rfl⟩, by unfold SUB_CAN_XBT_SJW; dsimp only; omega⟩
theorem in_SUB_CAN_XPWM_PWMS (i0 : Nat) : (SUB_CAN_XPWM_PWMS i0).In Reg.SUB_CAN_XPWM := ⟨⟨i0 % _, Nat.mod_lt _ (by decide), 0, by decide, rfl⟩, by unfold SUB_CAN_XPWM_PWMS; dsimp only; omega⟩
theorem in_SUB_CAN_XPWM_PWML (i0 : Nat) : (SUB_CAN_XPWM_PWML i0).In Reg.SUB_CAN_XPWM := ⟨⟨i0 % _, Nat.mod_lt _ (by decide), 0, by decide, rfl⟩, by unfold SUB_CAN_XPWM_PWML; dsimp only; omega⟩
theorem in_SUB_CAN_XPWM_PWMO (i0 : Nat) : (SUB_CAN_XPWM_PWMO i0).In Reg.SUB_CAN_XPWM := ⟨⟨i0 % _, Nat.mod_lt _ (by decide), 0, by decide, rfl⟩, by unfold SUB_CAN_XPWM_PWMO; dsimp only; omega⟩
theorem in_SUB_CAN_STAT_STATE (i0 : Nat) : (SUB_CAN_STAT_STATE i0).In Reg.SUB_CAN_STAT := ⟨⟨i0 % _, Nat.mod_lt _ (by decide), 0, by decide, rfl⟩, by unfold SUB_CAN_STAT_STATE; dsimp only; omega⟩
theorem in_SUB_CAN_STAT_TIMING_ERR (i0 : Nat) : (SUB_CAN_STAT_TIMING_ERR i0).In Reg.SUB_CAN_STAT := ⟨⟨i0 % _, Nat.mod_lt _ (by decide), 0, by decide, rfl⟩, by unfold SUB_CAN_STAT_TIMING_ERR; dsimp only; omega⟩
theorem in_SUB_CAN_STAT_TEC (i0 : Nat) : (SUB_CAN_STAT_TEC i0).In Reg.SUB_CAN_STAT := ⟨⟨i0 % _, Nat.mod_lt _ (by decide), 0, by decide, rfl⟩, by unfold SUB_CAN_STAT_TEC; dsimp only; omega⟩
theorem in_SUB_CAN_STAT_REC (i0 : Nat) : (SUB_CAN_STAT_REC i0).In Reg.SUB_CAN_STAT := ⟨⟨i0 % _, Nat.mod_lt _ (by decide), 0, by decide, rfl⟩, by unfold SUB_CAN_STAT_REC; dsimp only; omega⟩
theorem in_SUB_LIN_CFG_EN (i0 : Nat) : (SUB_LIN_CFG_EN i0).In Reg.SUB_LIN_CFG := ⟨⟨i0 % _, Nat.mod_lt _ (by decide), 0, by decide, rfl⟩, by unfold SUB_LIN_CFG_EN; dsimp only; omega⟩
theorem in_SUB_LIN_CFG_MODE (i0 : Nat) : (SUB_LIN_CFG_MODE i0).In Reg.SUB_LIN_CFG := ⟨⟨i0 % _, Nat.mod_lt _ (by decide), 0, by decide, rfl⟩, by unfold SUB_LIN_CFG_MODE; dsimp only; omega⟩
theorem in_SUB_LIN_CFG_BAUD (i0 : Nat) : (SUB_LIN_CFG_BAUD i0).In Reg.SUB_LIN_CFG := ⟨⟨i0 % _, Nat.mod_lt _ (by decide), 0, by decide, rfl⟩, by unfold SUB_LIN_CFG_BAUD; dsimp only; omega⟩
theorem in_SUB_LIN_CFG_TUNNEL (i0 : Nat) : (SUB_LIN_CFG_TUNNEL i0).In Reg.SUB_LIN_CFG := ⟨⟨i0 % _, Nat.mod_lt _ (by decide), 0, by decide, rfl⟩, by unfold SUB_LIN_CFG_TUNNEL; dsimp only; omega⟩
theorem in_SUB_LIN_CFG_TX_TMO (i0 : Nat) : (SUB_LIN_CFG_TX_TMO i0).In Reg.SUB_LIN_CFG := ⟨⟨i0 % _, Nat.mod_lt _ (by decide), 0, by decide, rfl⟩, by unfold SUB_LIN_CFG_TX_TMO; dsimp only; omega⟩
theorem in_SUB_LIN_STAT_STATE (i0 : Nat) : (SUB_LIN_STAT_STATE i0).In Reg.SUB_LIN_STAT := ⟨⟨i0 % _, Nat.mod_lt _ (by decide), 0, by decide, rfl⟩, by unfold SUB_LIN_STAT_STATE; dsimp only; omega⟩
theorem in_SUB_LIN_STAT_SCHED_POS (i0 : Nat) : (SUB_LIN_STAT_SCHED_POS i0).In Reg.SUB_LIN_STAT := ⟨⟨i0 % _, Nat.mod_lt _ (by decide), 0, by decide, rfl⟩, by unfold SUB_LIN_STAT_SCHED_POS; dsimp only; omega⟩
theorem in_SUB_CAN_FLT0_ID (i0 : Nat) (i1 : Nat) : (SUB_CAN_FLT0_ID i0 i1).In Reg.SUB_CAN_FLT0 := ⟨⟨i0 % _, Nat.mod_lt _ (by decide), i1 % _, Nat.mod_lt _ (by decide), rfl⟩, by unfold SUB_CAN_FLT0_ID; dsimp only; omega⟩
theorem in_SUB_CAN_FLT0_EFF (i0 : Nat) (i1 : Nat) : (SUB_CAN_FLT0_EFF i0 i1).In Reg.SUB_CAN_FLT0 := ⟨⟨i0 % _, Nat.mod_lt _ (by decide), i1 % _, Nat.mod_lt _ (by decide), rfl⟩, by unfold SUB_CAN_FLT0_EFF; dsimp only; omega⟩
theorem in_SUB_CAN_FLT0_EN (i0 : Nat) (i1 : Nat) : (SUB_CAN_FLT0_EN i0 i1).In Reg.SUB_CAN_FLT0 := ⟨⟨i0 % _, Nat.mod_lt _ (by decide), i1 % _, Nat.mod_lt _ (by decide), rfl⟩, by unfold SUB_CAN_FLT0_EN; dsimp only; omega⟩
theorem in_SUB_CAN_FLT1_MASK (i0 : Nat) (i1 : Nat) : (SUB_CAN_FLT1_MASK i0 i1).In Reg.SUB_CAN_FLT1 := ⟨⟨i0 % _, Nat.mod_lt _ (by decide), i1 % _, Nat.mod_lt _ (by decide), rfl⟩, by unfold SUB_CAN_FLT1_MASK; dsimp only; omega⟩
theorem in_SUB_CAN_FLT1_DELIVER (i0 : Nat) (i1 : Nat) : (SUB_CAN_FLT1_DELIVER i0 i1).In Reg.SUB_CAN_FLT1 := ⟨⟨i0 % _, Nat.mod_lt _ (by decide), i1 % _, Nat.mod_lt _ (by decide), rfl⟩, by unfold SUB_CAN_FLT1_DELIVER; dsimp only; omega⟩
theorem in_SUB_CAN_FLT1_TUNNEL (i0 : Nat) (i1 : Nat) : (SUB_CAN_FLT1_TUNNEL i0 i1).In Reg.SUB_CAN_FLT1 := ⟨⟨i0 % _, Nat.mod_lt _ (by decide), i1 % _, Nat.mod_lt _ (by decide), rfl⟩, by unfold SUB_CAN_FLT1_TUNNEL; dsimp only; omega⟩
theorem in_SUB_TUN_CFG_EN (i0 : Nat) : (SUB_TUN_CFG_EN i0).In Reg.SUB_TUN_CFG := ⟨⟨i0 % _, Nat.mod_lt _ (by decide), 0, by decide, rfl⟩, by unfold SUB_TUN_CFG_EN; dsimp only; omega⟩
theorem in_SUB_TUN_CFG_IN_EN (i0 : Nat) : (SUB_TUN_CFG_IN_EN i0).In Reg.SUB_TUN_CFG := ⟨⟨i0 % _, Nat.mod_lt _ (by decide), 0, by decide, rfl⟩, by unfold SUB_TUN_CFG_IN_EN; dsimp only; omega⟩
theorem in_SUB_TUN_CFG_BRIEF (i0 : Nat) : (SUB_TUN_CFG_BRIEF i0).In Reg.SUB_TUN_CFG := ⟨⟨i0 % _, Nat.mod_lt _ (by decide), 0, by decide, rfl⟩, by unfold SUB_TUN_CFG_BRIEF; dsimp only; omega⟩
theorem in_SUB_TUN_CFG_BRAND_REQ (i0 : Nat) : (SUB_TUN_CFG_BRAND_REQ i0).In Reg.SUB_TUN_CFG := ⟨⟨i0 % _, Nat.mod_lt _ (by decide), 0, by decide, rfl⟩, by unfold SUB_TUN_CFG_BRAND_REQ; dsimp only; omega⟩
theorem in_SUB_TUN_CFG_EPORT (i0 : Nat) : (SUB_TUN_CFG_EPORT i0).In Reg.SUB_TUN_CFG := ⟨⟨i0 % _, Nat.mod_lt _ (by decide), 0, by decide, rfl⟩, by unfold SUB_TUN_CFG_EPORT; dsimp only; omega⟩
theorem in_SUB_TUN_CFG_PCP (i0 : Nat) : (SUB_TUN_CFG_PCP i0).In Reg.SUB_TUN_CFG := ⟨⟨i0 % _, Nat.mod_lt _ (by decide), 0, by decide, rfl⟩, by unfold SUB_TUN_CFG_PCP; dsimp only; omega⟩
theorem in_SUB_TUN_CFG_TVID (i0 : Nat) : (SUB_TUN_CFG_TVID i0).In Reg.SUB_TUN_CFG := ⟨⟨i0 % _, Nat.mod_lt _ (by decide), 0, by decide, rfl⟩, by unfold SUB_TUN_CFG_TVID; dsimp only; omega⟩
theorem in_SUB_TUN_CFG_HOLD (i0 : Nat) : (SUB_TUN_CFG_HOLD i0).In Reg.SUB_TUN_CFG := ⟨⟨i0 % _, Nat.mod_lt _ (by decide), 0, by decide, rfl⟩, by unfold SUB_TUN_CFG_HOLD; dsimp only; omega⟩
theorem in_SUB_TUN_DA_DA (i0 : Nat) : (SUB_TUN_DA_DA i0).In Reg.SUB_TUN_DA := ⟨⟨i0 % _, Nat.mod_lt _ (by decide), 0, by decide, rfl⟩, by unfold SUB_TUN_DA_DA; dsimp only; omega⟩
theorem in_SUB_TUN_RX_RX_STREAM (i0 : Nat) : (SUB_TUN_RX_RX_STREAM i0).In Reg.SUB_TUN_RX := ⟨⟨i0 % _, Nat.mod_lt _ (by decide), 0, by decide, rfl⟩, by unfold SUB_TUN_RX_RX_STREAM; dsimp only; omega⟩
theorem in_SUB_TUN_MAP_BUSMASK (i0 : Nat) : (SUB_TUN_MAP_BUSMASK i0).In Reg.SUB_TUN_MAP := ⟨⟨i0 % _, Nat.mod_lt _ (by decide), 0, by decide, rfl⟩, by unfold SUB_TUN_MAP_BUSMASK; dsimp only; omega⟩
theorem in_SUB_TUN_MAP_TX_UID (i0 : Nat) : (SUB_TUN_MAP_TX_UID i0).In Reg.SUB_TUN_MAP := ⟨⟨i0 % _, Nat.mod_lt _ (by decide), 0, by decide, rfl⟩, by unfold SUB_TUN_MAP_TX_UID; dsimp only; omega⟩
theorem in_SUB_CNT0_FILT_MISS : SUB_CNT0_FILT_MISS.In Reg.SUB_CNT0 := ⟨⟨0, by decide, 0, by decide, rfl⟩, by decide⟩
theorem in_SUB_CNT0_RX_NOBUF : SUB_CNT0_RX_NOBUF.In Reg.SUB_CNT0 := ⟨⟨0, by decide, 0, by decide, rfl⟩, by decide⟩
theorem in_SUB_CNT1_TUN_TOOBIG : SUB_CNT1_TUN_TOOBIG.In Reg.SUB_CNT1 := ⟨⟨0, by decide, 0, by decide, rfl⟩, by decide⟩
theorem in_SUB_CNT1_TUN_NOMATCH : SUB_CNT1_TUN_NOMATCH.In Reg.SUB_CNT1 := ⟨⟨0, by decide, 0, by decide, rfl⟩, by decide⟩
theorem in_SUB_CNT2_TUN_DROP : SUB_CNT2_TUN_DROP.In Reg.SUB_CNT2 := ⟨⟨0, by decide, 0, by decide, rfl⟩, by decide⟩
theorem in_SUB_CNT2_TUN_NOBRAND : SUB_CNT2_TUN_NOBRAND.In Reg.SUB_CNT2 := ⟨⟨0, by decide, 0, by decide, rfl⟩, by decide⟩
theorem in_SUB_CNT3_TUN_SEQ_GAP : SUB_CNT3_TUN_SEQ_GAP.In Reg.SUB_CNT3 := ⟨⟨0, by decide, 0, by decide, rfl⟩, by decide⟩
theorem in_SUB_CNT3_LIN_ERR : SUB_CNT3_LIN_ERR.In Reg.SUB_CNT3 := ⟨⟨0, by decide, 0, by decide, rfl⟩, by decide⟩
theorem in_BRD_BIND0_EN (i0 : Nat) : (BRD_BIND0_EN i0).In Reg.BRD_BIND0 := ⟨⟨i0 % _, Nat.mod_lt _ (by decide), 0, by decide, rfl⟩, by unfold BRD_BIND0_EN; dsimp only; omega⟩
theorem in_BRD_BIND0_MISS_ACT (i0 : Nat) : (BRD_BIND0_MISS_ACT i0).In Reg.BRD_BIND0 := ⟨⟨i0 % _, Nat.mod_lt _ (by decide), 0, by decide, rfl⟩, by unfold BRD_BIND0_MISS_ACT; dsimp only; omega⟩
theorem in_BRD_BIND0_GAP_ACT (i0 : Nat) : (BRD_BIND0_GAP_ACT i0).In Reg.BRD_BIND0 := ⟨⟨i0 % _, Nat.mod_lt _ (by decide), 0, by decide, rfl⟩, by unfold BRD_BIND0_GAP_ACT; dsimp only; omega⟩
theorem in_BRD_BIND0_CTX (i0 : Nat) : (BRD_BIND0_CTX i0).In Reg.BRD_BIND0 := ⟨⟨i0 % _, Nat.mod_lt _ (by decide), 0, by decide, rfl⟩, by unfold BRD_BIND0_CTX; dsimp only; omega⟩
theorem in_BRD_BIND0_KIND (i0 : Nat) : (BRD_BIND0_KIND i0).In Reg.BRD_BIND0 := ⟨⟨i0 % _, Nat.mod_lt _ (by decide), 0, by decide, rfl⟩, by unfold BRD_BIND0_KIND; dsimp only; omega⟩
theorem in_BRD_BIND0_INDEX (i0 : Nat) : (BRD_BIND0_INDEX i0).In Reg.BRD_BIND0 := ⟨⟨i0 % _, Nat.mod_lt _ (by decide), 0, by decide, rfl⟩, by unfold BRD_BIND0_INDEX; dsimp only; omega⟩
theorem in_BRD_BIND0_SL_OP (i0 : Nat) : (BRD_BIND0_SL_OP i0).In Reg.BRD_BIND0 := ⟨⟨i0 % _, Nat.mod_lt _ (by decide), 0, by decide, rfl⟩, by unfold BRD_BIND0_SL_OP; dsimp only; omega⟩
theorem in_BRD_BIND0_OUT_IDX (i0 : Nat) : (BRD_BIND0_OUT_IDX i0).In Reg.BRD_BIND0 := ⟨⟨i0 % _, Nat.mod_lt _ (by decide), 0, by decide, rfl⟩, by unfold BRD_BIND0_OUT_IDX; dsimp only; omega⟩
theorem in_BRD_BIND1_THRESH (i0 : Nat) : (BRD_BIND1_THRESH i0).In Reg.BRD_BIND1 := ⟨⟨i0 % _, Nat.mod_lt _ (by decide), 0, by decide, rfl⟩, by unfold BRD_BIND1_THRESH; dsimp only; omega⟩
theorem in_BRD_BIND1_PAIR_TMO (i0 : Nat) : (BRD_BIND1_PAIR_TMO i0).In Reg.BRD_BIND1 := ⟨⟨i0 % _, Nat.mod_lt _ (by decide), 0, by decide, rfl⟩, by unfold BRD_BIND1_PAIR_TMO; dsimp only; omega⟩
theorem in_BRD_BIND2_INPUT_TMO (i0 : Nat) : (BRD_BIND2_INPUT_TMO i0).In Reg.BRD_BIND2 := ⟨⟨i0 % _, Nat.mod_lt _ (by decide), 0, by decide, rfl⟩, by unfold BRD_BIND2_INPUT_TMO; dsimp only; omega⟩
theorem in_BRD_TUN_EXP_STREAM (i0 : Nat) : (BRD_TUN_EXP_STREAM i0).In Reg.BRD_TUN := ⟨⟨i0 % _, Nat.mod_lt _ (by decide), 0, by decide, rfl⟩, by unfold BRD_TUN_EXP_STREAM; dsimp only; omega⟩
theorem in_BRD_TUN_MAX_AGE (i0 : Nat) : (BRD_TUN_MAX_AGE i0).In Reg.BRD_TUN := ⟨⟨i0 % _, Nat.mod_lt _ (by decide), 0, by decide, rfl⟩, by unfold BRD_TUN_MAX_AGE; dsimp only; omega⟩
theorem in_BRD_STATUS_BIND_ERR : BRD_STATUS_BIND_ERR.In Reg.BRD_STATUS := ⟨⟨0, by decide, 0, by decide, rfl⟩, by decide⟩
theorem in_BRD_STATUS_LAST_BIND : BRD_STATUS_LAST_BIND.In Reg.BRD_STATUS := ⟨⟨0, by decide, 0, by decide, rfl⟩, by decide⟩
theorem in_BRD_STATUS_LAST_CAUSE : BRD_STATUS_LAST_CAUSE.In Reg.BRD_STATUS := ⟨⟨0, by decide, 0, by decide, rfl⟩, by decide⟩
theorem in_BRD_CNT0_BAD_CHECK : BRD_CNT0_BAD_CHECK.In Reg.BRD_CNT0 := ⟨⟨0, by decide, 0, by decide, rfl⟩, by decide⟩
theorem in_BRD_CNT0_GAP : BRD_CNT0_GAP.In Reg.BRD_CNT0 := ⟨⟨0, by decide, 0, by decide, rfl⟩, by decide⟩
theorem in_BRD_CNT1_REORDER : BRD_CNT1_REORDER.In Reg.BRD_CNT1 := ⟨⟨0, by decide, 0, by decide, rfl⟩, by decide⟩
theorem in_BRD_CNT1_STALE : BRD_CNT1_STALE.In Reg.BRD_CNT1 := ⟨⟨0, by decide, 0, by decide, rfl⟩, by decide⟩
theorem in_BRD_CNT2_LINEAGE : BRD_CNT2_LINEAGE.In Reg.BRD_CNT2 := ⟨⟨0, by decide, 0, by decide, rfl⟩, by decide⟩
theorem in_BRD_CNT2_ORIGIN : BRD_CNT2_ORIGIN.In Reg.BRD_CNT2 := ⟨⟨0, by decide, 0, by decide, rfl⟩, by decide⟩
theorem in_BRD_CNT3_VERDICTS : BRD_CNT3_VERDICTS.In Reg.BRD_CNT3 := ⟨⟨0, by decide, 0, by decide, rfl⟩, by decide⟩
theorem in_BRD_CNT3_MISMATCHES : BRD_CNT3_MISMATCHES.In Reg.BRD_CNT3 := ⟨⟨0, by decide, 0, by decide, rfl⟩, by decide⟩
theorem in_INF_TOL0_TOL1 (i0 : Nat) : (INF_TOL0_TOL1 i0).In Reg.INF_TOL0 := ⟨⟨i0 % _, Nat.mod_lt _ (by decide), 0, by decide, rfl⟩, by unfold INF_TOL0_TOL1; dsimp only; omega⟩
theorem in_INF_TOL0_TOL2 (i0 : Nat) : (INF_TOL0_TOL2 i0).In Reg.INF_TOL0 := ⟨⟨i0 % _, Nat.mod_lt _ (by decide), 0, by decide, rfl⟩, by unfold INF_TOL0_TOL2; dsimp only; omega⟩
theorem in_INF_TOL1_TOL3 (i0 : Nat) : (INF_TOL1_TOL3 i0).In Reg.INF_TOL1 := ⟨⟨i0 % _, Nat.mod_lt _ (by decide), 0, by decide, rfl⟩, by unfold INF_TOL1_TOL3; dsimp only; omega⟩
theorem in_INF_CTX_STAT_STATE (i0 : Nat) : (INF_CTX_STAT_STATE i0).In Reg.INF_CTX_STAT := ⟨⟨i0 % _, Nat.mod_lt _ (by decide), 0, by decide, rfl⟩, by unfold INF_CTX_STAT_STATE; dsimp only; omega⟩
theorem in_INF_CTX_STAT_MODE (i0 : Nat) : (INF_CTX_STAT_MODE i0).In Reg.INF_CTX_STAT := ⟨⟨i0 % _, Nat.mod_lt _ (by decide), 0, by decide, rfl⟩, by unfold INF_CTX_STAT_MODE; dsimp only; omega⟩
theorem in_INF_CTX_STAT_JCLASS (i0 : Nat) : (INF_CTX_STAT_JCLASS i0).In Reg.INF_CTX_STAT := ⟨⟨i0 % _, Nat.mod_lt _ (by decide), 0, by decide, rfl⟩, by unfold INF_CTX_STAT_JCLASS; dsimp only; omega⟩
theorem in_INF_CTX_STAT_IMAGE_ID (i0 : Nat) : (INF_CTX_STAT_IMAGE_ID i0).In Reg.INF_CTX_STAT := ⟨⟨i0 % _, Nat.mod_lt _ (by decide), 0, by decide, rfl⟩, by unfold INF_CTX_STAT_IMAGE_ID; dsimp only; omega⟩
theorem in_INF_CTX_EXEC_EXEC_A (i0 : Nat) : (INF_CTX_EXEC_EXEC_A i0).In Reg.INF_CTX_EXEC := ⟨⟨i0 % _, Nat.mod_lt _ (by decide), 0, by decide, rfl⟩, by unfold INF_CTX_EXEC_EXEC_A; dsimp only; omega⟩
theorem in_INF_CTX_EXEC_EXEC_B (i0 : Nat) : (INF_CTX_EXEC_EXEC_B i0).In Reg.INF_CTX_EXEC := ⟨⟨i0 % _, Nat.mod_lt _ (by decide), 0, by decide, rfl⟩, by unfold INF_CTX_EXEC_EXEC_B; dsimp only; omega⟩
theorem in_INF_CH_STAT_A_STATE : INF_CH_STAT_A_STATE.In Reg.INF_CH_STAT := ⟨⟨0, by decide, 0, by decide, rfl⟩, by decide⟩
theorem in_INF_CH_STAT_B_STATE : INF_CH_STAT_B_STATE.In Reg.INF_CH_STAT := ⟨⟨0, by decide, 0, by decide, rfl⟩, by decide⟩
theorem in_INF_MEM_A_FREE : INF_MEM_A_FREE.In Reg.INF_MEM := ⟨⟨0, by decide, 0, by decide, rfl⟩, by decide⟩
theorem in_INF_MEM_B_FREE : INF_MEM_B_FREE.In Reg.INF_MEM := ⟨⟨0, by decide, 0, by decide, rfl⟩, by decide⟩
theorem in_INF_CNT0_KATS : INF_CNT0_KATS.In Reg.INF_CNT0 := ⟨⟨0, by decide, 0, by decide, rfl⟩, by decide⟩
theorem in_INF_CNT0_FORCED : INF_CNT0_FORCED.In Reg.INF_CNT0 := ⟨⟨0, by decide, 0, by decide, rfl⟩, by decide⟩
theorem in_INF_CNT1_KAT_FAILS : INF_CNT1_KAT_FAILS.In Reg.INF_CNT1 := ⟨⟨0, by decide, 0, by decide, rfl⟩, by decide⟩
theorem in_INF_CNT1_ABORTS : INF_CNT1_ABORTS.In Reg.INF_CNT1 := ⟨⟨0, by decide, 0, by decide, rfl⟩, by decide⟩
theorem in_INF_CNT2_RESIDUE : INF_CNT2_RESIDUE.In Reg.INF_CNT2 := ⟨⟨0, by decide, 0, by decide, rfl⟩, by decide⟩
theorem in_INF_CNT2_LEN_REJ : INF_CNT2_LEN_REJ.In Reg.INF_CNT2 := ⟨⟨0, by decide, 0, by decide, rfl⟩, by decide⟩
theorem in_INF_CNT3_MISMATCH_JOBS : INF_CNT3_MISMATCH_JOBS.In Reg.INF_CNT3 := ⟨⟨0, by decide, 0, by decide, rfl⟩, by decide⟩
theorem in_STO_NS_SEL_NS : STO_NS_SEL_NS.In Reg.STO_NS_SEL := ⟨⟨0, by decide, 0, by decide, rfl⟩, by decide⟩
theorem in_STO_NS_CFG_EXTENTS : STO_NS_CFG_EXTENTS.In Reg.STO_NS_CFG := ⟨⟨0, by decide, 0, by decide, rfl⟩, by decide⟩
theorem in_STO_NS_CFG_CELL : STO_NS_CFG_CELL.In Reg.STO_NS_CFG := ⟨⟨0, by decide, 0, by decide, rfl⟩, by decide⟩
theorem in_STO_NS_CFG_DUR : STO_NS_CFG_DUR.In Reg.STO_NS_CFG := ⟨⟨0, by decide, 0, by decide, rfl⟩, by decide⟩
theorem in_STO_NS_CFG_RET : STO_NS_CFG_RET.In Reg.STO_NS_CFG := ⟨⟨0, by decide, 0, by decide, rfl⟩, by decide⟩
theorem in_STO_NS_CFG_WB_EN : STO_NS_CFG_WB_EN.In Reg.STO_NS_CFG := ⟨⟨0, by decide, 0, by decide, rfl⟩, by decide⟩
theorem in_STO_NS_CMD_OP : STO_NS_CMD_OP.In Reg.STO_NS_CMD := ⟨⟨0, by decide, 0, by decide, rfl⟩, by decide⟩
theorem in_STO_NS_STATUS_BUSY : STO_NS_STATUS_BUSY.In Reg.STO_NS_STATUS := ⟨⟨0, by decide, 0, by decide, rfl⟩, by decide⟩
theorem in_STO_NS_STATUS_RESULT : STO_NS_STATUS_RESULT.In Reg.STO_NS_STATUS := ⟨⟨0, by decide, 0, by decide, rfl⟩, by decide⟩
theorem in_STO_NS_INFO_VALID : STO_NS_INFO_VALID.In Reg.STO_NS_INFO := ⟨⟨0, by decide, 0, by decide, rfl⟩, by decide⟩
theorem in_STO_NS_INFO_CELL : STO_NS_INFO_CELL.In Reg.STO_NS_INFO := ⟨⟨0, by decide, 0, by decide, rfl⟩, by decide⟩
theorem in_STO_NS_INFO_DUR : STO_NS_INFO_DUR.In Reg.STO_NS_INFO := ⟨⟨0, by decide, 0, by decide, rfl⟩, by decide⟩
theorem in_STO_NS_INFO_RET : STO_NS_INFO_RET.In Reg.STO_NS_INFO := ⟨⟨0, by decide, 0, by decide, rfl⟩, by decide⟩
theorem in_STO_NS_INFO_WB_EN : STO_NS_INFO_WB_EN.In Reg.STO_NS_INFO := ⟨⟨0, by decide, 0, by decide, rfl⟩, by decide⟩
theorem in_STO_NS_INFO_EXTENTS : STO_NS_INFO_EXTENTS.In Reg.STO_NS_INFO := ⟨⟨0, by decide, 0, by decide, rfl⟩, by decide⟩
theorem in_STO_NS_BLOCKS_BLOCKS : STO_NS_BLOCKS_BLOCKS.In Reg.STO_NS_BLOCKS := ⟨⟨0, by decide, 0, by decide, rfl⟩, by decide⟩
theorem in_STO_FREE_FREE_EXT : STO_FREE_FREE_EXT.In Reg.STO_FREE := ⟨⟨0, by decide, 0, by decide, rfl⟩, by decide⟩
theorem in_STO_WB_CFG_WB_AGE : STO_WB_CFG_WB_AGE.In Reg.STO_WB_CFG := ⟨⟨0, by decide, 0, by decide, rfl⟩, by decide⟩
theorem in_STO_WB_STATUS_DIRTY : STO_WB_STATUS_DIRTY.In Reg.STO_WB_STATUS := ⟨⟨0, by decide, 0, by decide, rfl⟩, by decide⟩
theorem in_STO_WB_STATUS_GRANT : STO_WB_STATUS_GRANT.In Reg.STO_WB_STATUS := ⟨⟨0, by decide, 0, by decide, rfl⟩, by decide⟩
theorem in_STO_WB_STATUS_WB_OK : STO_WB_STATUS_WB_OK.In Reg.STO_WB_STATUS := ⟨⟨0, by decide, 0, by decide, rfl⟩, by decide⟩
theorem in_STO_CNT_WB_LOST : STO_CNT_WB_LOST.In Reg.STO_CNT := ⟨⟨0, by decide, 0, by decide, rfl⟩, by decide⟩
theorem in_STO_CNT_MEDIA_ERRS : STO_CNT_MEDIA_ERRS.In Reg.STO_CNT := ⟨⟨0, by decide, 0, by decide, rfl⟩, by decide⟩
theorem in_STO_CNT2_FULL_REJ : STO_CNT2_FULL_REJ.In Reg.STO_CNT2 := ⟨⟨0, by decide, 0, by decide, rfl⟩, by decide⟩
theorem in_STO_CNT2_RO_REJ : STO_CNT2_RO_REJ.In Reg.STO_CNT2 := ⟨⟨0, by decide, 0, by decide, rfl⟩, by decide⟩
theorem in_STO_MEDIA_CFG_CKPT_INT : STO_MEDIA_CFG_CKPT_INT.In Reg.STO_MEDIA_CFG := ⟨⟨0, by decide, 0, by decide, rfl⟩, by decide⟩
theorem in_STO_MEDIA_CFG_JRNL_INT : STO_MEDIA_CFG_JRNL_INT.In Reg.STO_MEDIA_CFG := ⟨⟨0, by decide, 0, by decide, rfl⟩, by decide⟩
theorem in_STO_RET_CFG_REF_PCT : STO_RET_CFG_REF_PCT.In Reg.STO_RET_CFG := ⟨⟨0, by decide, 0, by decide, rfl⟩, by decide⟩
theorem in_STO_RET_CFG_ECC_REFRESH : STO_RET_CFG_ECC_REFRESH.In Reg.STO_RET_CFG := ⟨⟨0, by decide, 0, by decide, rfl⟩, by decide⟩
theorem in_STO_HEALTH_CFG_SPARE_WARN : STO_HEALTH_CFG_SPARE_WARN.In Reg.STO_HEALTH_CFG := ⟨⟨0, by decide, 0, by decide, rfl⟩, by decide⟩
theorem in_STO_HEALTH_CFG_WEAR_WARN : STO_HEALTH_CFG_WEAR_WARN.In Reg.STO_HEALTH_CFG := ⟨⟨0, by decide, 0, by decide, rfl⟩, by decide⟩
theorem in_STO_HOLD_CFG_HOLD_V : STO_HOLD_CFG_HOLD_V.In Reg.STO_HOLD_CFG := ⟨⟨0, by decide, 0, by decide, rfl⟩, by decide⟩
theorem in_STO_HOLD_CFG_WB_CAP : STO_HOLD_CFG_WB_CAP.In Reg.STO_HOLD_CFG := ⟨⟨0, by decide, 0, by decide, rfl⟩, by decide⟩
theorem in_STO_HOLD_MEAS_C_MEAS : STO_HOLD_MEAS_C_MEAS.In Reg.STO_HOLD_MEAS := ⟨⟨0, by decide, 0, by decide, rfl⟩, by decide⟩
theorem in_STO_HOLD_MEAS_ESR_MEAS : STO_HOLD_MEAS_ESR_MEAS.In Reg.STO_HOLD_MEAS := ⟨⟨0, by decide, 0, by decide, rfl⟩, by decide⟩
theorem in_STO_HOLD_MEAS_MRESULT : STO_HOLD_MEAS_MRESULT.In Reg.STO_HOLD_MEAS := ⟨⟨0, by decide, 0, by decide, rfl⟩, by decide⟩
theorem in_STO_HEALTH_SPARES : STO_HEALTH_SPARES.In Reg.STO_HEALTH := ⟨⟨0, by decide, 0, by decide, rfl⟩, by decide⟩
theorem in_STO_HEALTH_GC_ACTIVE : STO_HEALTH_GC_ACTIVE.In Reg.STO_HEALTH := ⟨⟨0, by decide, 0, by decide, rfl⟩, by decide⟩
theorem in_STO_HEALTH_REFRESH_FG : STO_HEALTH_REFRESH_FG.In Reg.STO_HEALTH := ⟨⟨0, by decide, 0, by decide, rfl⟩, by decide⟩
theorem in_STO_HEALTH_HOLD_LOW : STO_HEALTH_HOLD_LOW.In Reg.STO_HEALTH := ⟨⟨0, by decide, 0, by decide, rfl⟩, by decide⟩
theorem in_STO_NS_WEAR_WEAR : STO_NS_WEAR_WEAR.In Reg.STO_NS_WEAR := ⟨⟨0, by decide, 0, by decide, rfl⟩, by decide⟩
theorem in_STO_NS_WEAR_STATE : STO_NS_WEAR_STATE.In Reg.STO_NS_WEAR := ⟨⟨0, by decide, 0, by decide, rfl⟩, by decide⟩
theorem in_STO_NS_WEAR_SHORT : STO_NS_WEAR_SHORT.In Reg.STO_NS_WEAR := ⟨⟨0, by decide, 0, by decide, rfl⟩, by decide⟩
theorem in_STO_PF_CNT_PF_EVENTS : STO_PF_CNT_PF_EVENTS.In Reg.STO_PF_CNT := ⟨⟨0, by decide, 0, by decide, rfl⟩, by decide⟩
theorem in_STO_PF_CNT_PF_LOST : STO_PF_CNT_PF_LOST.In Reg.STO_PF_CNT := ⟨⟨0, by decide, 0, by decide, rfl⟩, by decide⟩
theorem in_SEC_STATUS_TRNG : SEC_STATUS_TRNG.In Reg.SEC_STATUS := ⟨⟨0, by decide, 0, by decide, rfl⟩, by decide⟩
theorem in_SEC_STATUS_DRBG : SEC_STATUS_DRBG.In Reg.SEC_STATUS := ⟨⟨0, by decide, 0, by decide, rfl⟩, by decide⟩
theorem in_SEC_STATUS_LIVE_MS : SEC_STATUS_LIVE_MS.In Reg.SEC_STATUS := ⟨⟨0, by decide, 0, by decide, rfl⟩, by decide⟩
theorem in_SEC_STATUS_DBG_OPEN : SEC_STATUS_DBG_OPEN.In Reg.SEC_STATUS := ⟨⟨0, by decide, 0, by decide, rfl⟩, by decide⟩
theorem in_SEC_CFG_RESEED_N : SEC_CFG_RESEED_N.In Reg.SEC_CFG := ⟨⟨0, by decide, 0, by decide, rfl⟩, by decide⟩
theorem in_SEC_CFG_DBG_NEVER : SEC_CFG_DBG_NEVER.In Reg.SEC_CFG := ⟨⟨0, by decide, 0, by decide, rfl⟩, by decide⟩
theorem in_SEC_KEY_STATE_FILLED : SEC_KEY_STATE_FILLED.In Reg.SEC_KEY_STATE := ⟨⟨0, by decide, 0, by decide, rfl⟩, by decide⟩
theorem in_SEC_KEY_USE_PARTS (i0 : Nat) : (SEC_KEY_USE_PARTS i0).In Reg.SEC_KEY_USE := ⟨⟨i0 % _, Nat.mod_lt _ (by decide), 0, by decide, rfl⟩, by unfold SEC_KEY_USE_PARTS; dsimp only; omega⟩
theorem in_SEC_CNT_HEALTH_FAILS : SEC_CNT_HEALTH_FAILS.In Reg.SEC_CNT := ⟨⟨0, by decide, 0, by decide, rfl⟩, by decide⟩
theorem in_SEC_CNT_DBG_FAILS : SEC_CNT_DBG_FAILS.In Reg.SEC_CNT := ⟨⟨0, by decide, 0, by decide, rfl⟩, by decide⟩
theorem in_UPD_STATUS_ACTIVE_BANK : UPD_STATUS_ACTIVE_BANK.In Reg.UPD_STATUS := ⟨⟨0, by decide, 0, by decide, rfl⟩, by decide⟩
theorem in_UPD_STATUS_TRIAL : UPD_STATUS_TRIAL.In Reg.UPD_STATUS := ⟨⟨0, by decide, 0, by decide, rfl⟩, by decide⟩
theorem in_UPD_STATUS_TRIES : UPD_STATUS_TRIES.In Reg.UPD_STATUS := ⟨⟨0, by decide, 0, by decide, rfl⟩, by decide⟩
theorem in_UPD_STATUS_ARMED : UPD_STATUS_ARMED.In Reg.UPD_STATUS := ⟨⟨0, by decide, 0, by decide, rfl⟩, by decide⟩
theorem in_UPD_STATUS_SLOT_STATE : UPD_STATUS_SLOT_STATE.In Reg.UPD_STATUS := ⟨⟨0, by decide, 0, by decide, rfl⟩, by decide⟩
theorem in_UPD_STATUS_LAST_OUTCOME : UPD_STATUS_LAST_OUTCOME.In Reg.UPD_STATUS := ⟨⟨0, by decide, 0, by decide, rfl⟩, by decide⟩
theorem in_UPD_STATUS_LAST_REASON : UPD_STATUS_LAST_REASON.In Reg.UPD_STATUS := ⟨⟨0, by decide, 0, by decide, rfl⟩, by decide⟩
theorem in_UPD_RB_RB_COUNTER : UPD_RB_RB_COUNTER.In Reg.UPD_RB := ⟨⟨0, by decide, 0, by decide, rfl⟩, by decide⟩
theorem in_UPD_BANK_BUNDLE_ID (i0 : Nat) : (UPD_BANK_BUNDLE_ID i0).In Reg.UPD_BANK := ⟨⟨i0 % _, Nat.mod_lt _ (by decide), 0, by decide, rfl⟩, by unfold UPD_BANK_BUNDLE_ID; dsimp only; omega⟩
theorem in_UPD_BANK_SVN_SVN (i0 : Nat) : (UPD_BANK_SVN_SVN i0).In Reg.UPD_BANK_SVN := ⟨⟨i0 % _, Nat.mod_lt _ (by decide), 0, by decide, rfl⟩, by unfold UPD_BANK_SVN_SVN; dsimp only; omega⟩
theorem in_UPD_LEFT_SECONDS : UPD_LEFT_SECONDS.In Reg.UPD_LEFT := ⟨⟨0, by decide, 0, by decide, rfl⟩, by decide⟩
theorem in_TLY_STATUS_FF_COUNT : TLY_STATUS_FF_COUNT.In Reg.TLY_STATUS := ⟨⟨0, by decide, 0, by decide, rfl⟩, by decide⟩
theorem in_TLY_STATUS_FF_FULL : TLY_STATUS_FF_FULL.In Reg.TLY_STATUS := ⟨⟨0, by decide, 0, by decide, rfl⟩, by decide⟩
theorem in_TLY_STATUS_KEYLESS : TLY_STATUS_KEYLESS.In Reg.TLY_STATUS := ⟨⟨0, by decide, 0, by decide, rfl⟩, by decide⟩
theorem in_TLY_STATUS_SCAN_DONE : TLY_STATUS_SCAN_DONE.In Reg.TLY_STATUS := ⟨⟨0, by decide, 0, by decide, rfl⟩, by decide⟩
theorem in_TLY_STATUS_WRAPS : TLY_STATUS_WRAPS.In Reg.TLY_STATUS := ⟨⟨0, by decide, 0, by decide, rfl⟩, by decide⟩
theorem in_TLY_NEXT_NEXT_RSEQ : TLY_NEXT_NEXT_RSEQ.In Reg.TLY_NEXT := ⟨⟨0, by decide, 0, by decide, rfl⟩, by decide⟩
theorem in_TLY_MARK_RD_MARK : TLY_MARK_RD_MARK.In Reg.TLY_MARK := ⟨⟨0, by decide, 0, by decide, rfl⟩, by decide⟩
theorem in_TLY_CNT0_FF_LOST : TLY_CNT0_FF_LOST.In Reg.TLY_CNT0 := ⟨⟨0, by decide, 0, by decide, rfl⟩, by decide⟩
theorem in_TLY_CNT0_DROPPED : TLY_CNT0_DROPPED.In Reg.TLY_CNT0 := ⟨⟨0, by decide, 0, by decide, rfl⟩, by decide⟩
theorem in_TLY_CNT1_UNREAD_LOST : TLY_CNT1_UNREAD_LOST.In Reg.TLY_CNT1 := ⟨⟨0, by decide, 0, by decide, rfl⟩, by decide⟩
theorem in_TLY_CNT1_MIRROR_FIX : TLY_CNT1_MIRROR_FIX.In Reg.TLY_CNT1 := ⟨⟨0, by decide, 0, by decide, rfl⟩, by decide⟩
theorem in_TLY_SEL_START : TLY_SEL_START.In Reg.TLY_SEL := ⟨⟨0, by decide, 0, by decide, rfl⟩, by decide⟩
theorem in_TLY_SEL_AREA : TLY_SEL_AREA.In Reg.TLY_SEL := ⟨⟨0, by decide, 0, by decide, rfl⟩, by decide⟩
theorem in_TLY_SEL_VALID : TLY_SEL_VALID.In Reg.TLY_SEL := ⟨⟨0, by decide, 0, by decide, rfl⟩, by decide⟩
theorem in_TLY_DATA_DATA (i0 : Nat) : (TLY_DATA_DATA i0).In Reg.TLY_DATA := ⟨⟨i0 % _, Nat.mod_lt _ (by decide), 0, by decide, rfl⟩, by unfold TLY_DATA_DATA; dsimp only; omega⟩
theorem in_EVT_INJ_KIND : EVT_INJ_KIND.In Reg.EVT_INJ := ⟨⟨0, by decide, 0, by decide, rfl⟩, by decide⟩
theorem in_EVT_INJ_ID : EVT_INJ_ID.In Reg.EVT_INJ := ⟨⟨0, by decide, 0, by decide, rfl⟩, by decide⟩
theorem in_EVT_INJ_COUNT : EVT_INJ_COUNT.In Reg.EVT_INJ := ⟨⟨0, by decide, 0, by decide, rfl⟩, by decide⟩
theorem in_EVT_INJ_ARM : EVT_INJ_ARM.In Reg.EVT_INJ := ⟨⟨0, by decide, 0, by decide, rfl⟩, by decide⟩
theorem in_EVT_INJ_STATUS_PENDING : EVT_INJ_STATUS_PENDING.In Reg.EVT_INJ_STATUS := ⟨⟨0, by decide, 0, by decide, rfl⟩, by decide⟩
theorem in_EVT_INJ_STATUS_DONE : EVT_INJ_STATUS_DONE.In Reg.EVT_INJ_STATUS := ⟨⟨0, by decide, 0, by decide, rfl⟩, by decide⟩
theorem in_EVT_RAISE_SOURCE : EVT_RAISE_SOURCE.In Reg.EVT_RAISE := ⟨⟨0, by decide, 0, by decide, rfl⟩, by decide⟩
theorem in_EVT_ECC_CNT_CE (i0 : Nat) : (EVT_ECC_CNT_CE i0).In Reg.EVT_ECC_CNT := ⟨⟨i0 % _, Nat.mod_lt _ (by decide), 0, by decide, rfl⟩, by unfold EVT_ECC_CNT_CE; dsimp only; omega⟩
theorem in_EVT_ECC_CNT_UE (i0 : Nat) : (EVT_ECC_CNT_UE i0).In Reg.EVT_ECC_CNT := ⟨⟨i0 % _, Nat.mod_lt _ (by decide), 0, by decide, rfl⟩, by unfold EVT_ECC_CNT_UE; dsimp only; omega⟩
theorem in_EVT_ECC_LAST_ADDR : EVT_ECC_LAST_ADDR.In Reg.EVT_ECC_LAST := ⟨⟨0, by decide, 0, by decide, rfl⟩, by decide⟩
theorem in_EVT_ECC_LAST_ID : EVT_ECC_LAST_ID.In Reg.EVT_ECC_LAST := ⟨⟨0, by decide, 0, by decide, rfl⟩, by decide⟩
theorem in_EVT_LINK_CNT_REPLAYS (i0 : Nat) : (EVT_LINK_CNT_REPLAYS i0).In Reg.EVT_LINK_CNT := ⟨⟨i0 % _, Nat.mod_lt _ (by decide), 0, by decide, rfl⟩, by unfold EVT_LINK_CNT_REPLAYS; dsimp only; omega⟩
theorem in_EVT_LINK_CNT_RETRAINS (i0 : Nat) : (EVT_LINK_CNT_RETRAINS i0).In Reg.EVT_LINK_CNT := ⟨⟨i0 % _, Nat.mod_lt _ (by decide), 0, by decide, rfl⟩, by unfold EVT_LINK_CNT_RETRAINS; dsimp only; omega⟩
theorem in_EVT_LINK_CNT_LANES (i0 : Nat) : (EVT_LINK_CNT_LANES i0).In Reg.EVT_LINK_CNT := ⟨⟨i0 % _, Nat.mod_lt _ (by decide), 0, by decide, rfl⟩, by unfold EVT_LINK_CNT_LANES; dsimp only; omega⟩
theorem in_EVT_CDLOSS_LOSSES : EVT_CDLOSS_LOSSES.In Reg.EVT_CDLOSS := ⟨⟨0, by decide, 0, by decide, rfl⟩, by decide⟩
theorem in_EVT_CDLOSS_HALTED : EVT_CDLOSS_HALTED.In Reg.EVT_CDLOSS := ⟨⟨0, by decide, 0, by decide, rfl⟩, by decide⟩
theorem in_EVT_CDLOSS_LOSS_LIMIT : EVT_CDLOSS_LOSS_LIMIT.In Reg.EVT_CDLOSS := ⟨⟨0, by decide, 0, by decide, rfl⟩, by decide⟩
theorem in_EVT_SCRUB_SCRUB_MIN : EVT_SCRUB_SCRUB_MIN.In Reg.EVT_SCRUB := ⟨⟨0, by decide, 0, by decide, rfl⟩, by decide⟩

/-- The status registers of the output channels. -/
abbrev chanRegs : List Span := [Reg.HS_STATE, Reg.HB_STATE, Reg.SV_STATE, Reg.LED_STATE, Reg.FIO_CAUSE]

theorem in_chStateF (c : Chan) : ∃ r ∈ chanRegs, (chStateF c).In r := by
  unfold chStateF
  split
  · exact ⟨Reg.HS_STATE, by decide, in_HS_STATE_CHSTATE _⟩
  · exact ⟨Reg.HB_STATE, by decide, in_HB_STATE_CHSTATE _⟩
  · exact ⟨Reg.SV_STATE, by decide, in_SV_STATE_CHSTATE _⟩
  · exact ⟨Reg.LED_STATE, by decide, in_LED_STATE_CHSTATE _⟩
  · exact ⟨Reg.FIO_CAUSE, by decide, in_FIO_CAUSE_CHSTATE _⟩

theorem in_appliedF (c : Chan) : ∃ r ∈ chanRegs, (appliedF c).In r := by
  unfold appliedF
  split
  · exact ⟨Reg.HS_STATE, by decide, in_HS_STATE_APPLIED _⟩
  · exact ⟨Reg.HB_STATE, by decide, in_HB_STATE_APPLIED _⟩
  · exact ⟨Reg.SV_STATE, by decide, in_SV_STATE_APPLIED _⟩
  · exact ⟨Reg.LED_STATE, by decide, in_LED_STATE_APPLIED _⟩
  · exact ⟨Reg.FIO_CAUSE, by decide, in_FIO_CAUSE_APPLIED _⟩

theorem in_thermF (c : Chan) : ∃ r ∈ chanRegs, (thermF c).In r := by
  unfold thermF
  split
  · exact ⟨Reg.HS_STATE, by decide, in_HS_STATE_THERM_OFF _⟩
  · exact ⟨Reg.HB_STATE, by decide, in_HB_STATE_THERM_OFF _⟩
  · exact ⟨Reg.SV_STATE, by decide, in_SV_STATE_THERM_OFF _⟩
  · exact ⟨Reg.LED_STATE, by decide, in_LED_STATE_THERM_OFF _⟩
  · exact ⟨Reg.FIO_CAUSE, by decide, in_FIO_CAUSE_CAUSE _ _⟩

theorem in_openF (c : Chan) : ∃ r ∈ chanRegs, (openF c).In r := by
  unfold openF
  split
  · exact ⟨Reg.HS_STATE, by decide, in_HS_STATE_OPEN _⟩
  · exact ⟨Reg.HB_STATE, by decide, in_HB_STATE_OPEN _⟩
  · exact ⟨Reg.SV_STATE, by decide, in_SV_STATE_OPEN _⟩
  · exact ⟨Reg.LED_STATE, by decide, in_LED_STATE_OPEN _⟩
  · exact ⟨Reg.FIO_CAUSE, by decide, in_FIO_CAUSE_CAUSE _ _⟩

theorem in_latchF {c : Chan} {f : Field} (h : latchF c = some f) :
    ∃ r ∈ [Reg.HS_STATE, Reg.HB_STATE, Reg.SV_STATE, Reg.FIO_CAUSE], f.In r := by
  unfold latchF at h
  split at h
  · cases h; exact ⟨Reg.HS_STATE, by decide, in_HS_STATE_LATCHED _⟩
  · cases h; exact ⟨Reg.HB_STATE, by decide, in_HB_STATE_LATCHED _⟩
  · cases h; exact ⟨Reg.SV_STATE, by decide, in_SV_STATE_LATCHED _⟩
  · cases h
  · cases h; exact ⟨Reg.FIO_CAUSE, by decide, in_FIO_CAUSE_CAUSE _ _⟩

theorem in_tempF (c : Chan) :
    ∃ r ∈ [Reg.HS_MEAS, Reg.HB_MEAS, Reg.SV_MEAS, Reg.LED_MEAS, Reg.FIO_MEAS], (tempF c).In r := by
  unfold tempF
  split
  · exact ⟨Reg.HS_MEAS, by decide, in_HS_MEAS_TEMP _⟩
  · exact ⟨Reg.HB_MEAS, by decide, in_HB_MEAS_TEMP _⟩
  · exact ⟨Reg.SV_MEAS, by decide, in_SV_MEAS_TEMP _⟩
  · exact ⟨Reg.LED_MEAS, by decide, in_LED_MEAS_TEMP _⟩
  · exact ⟨Reg.FIO_MEAS, by decide, in_FIO_MEAS_TEMP _⟩

end Sys2Proof.Machine
end

