-- ==== Sys2Proof/Laws/Ops.lean ====
section
/-! SUPPORT.
What the operations of Machine/Ops.lean change, and that they keep a sound state sound.
-/

namespace Sys2Proof.Machine

theorem violate_keeps (s : State) :
    Keeps [Reg.PAR_SEAL_STATUS] [] s (violate s) := by
  unfold violate
  try dsimp only
  with_reducible refine Keeps.bump (in_PAR_SEAL_STATUS_SEAL_VIOL) (by decide) ?_
  with_reducible exact Keeps.refl _

theorem showStreams_keeps (s : State) :
    Keeps [Reg.SIN_SCHED, Reg.SIN_STREAMS] [] s (showStreams s) := by
  unfold showStreams
  try dsimp only
  with_reducible refine Keeps.wr (in_SIN_SCHED_CAP_FREE) (by decide) ?_
  with_reducible refine Keeps.wr (in_SIN_STREAMS_OPEN_CNT) (by decide) ?_
  with_reducible exact Keeps.refl _

theorem emit_keeps (s : State) (e : Emission) :
    Keeps [] [.out] s (emit s e) := by
  unfold emit
  try dsimp only
  with_reducible refine Keeps.set_out (by decide) ?_
  with_reducible exact Keeps.refl _

theorem msecSeal_keeps (s : State) (p : Nat) (f : List Byte) : Keeps [Reg.SW_MSEC_STAT] [Part.wire] s (msecSeal s p f).2.1 := by
  unfold msecSeal
  dsimp only
  split
  · exact Keeps.refl _
  · rename_i a _
    by_cases hc : (if xpn s p then 2 ^ 64 else 2 ^ 32) ≤ a.pn
    · rw [if_pos hc]; exact Keeps.refl _
    · rw [if_neg hc]
      refine Keeps.ite (fun _ => ?_) (fun _ => ?_)
      · refine Keeps.put (in_SW_MSEC_STAT_PN_WARN _) (by decide) ?_
        exact Keeps.upd (t := s) rfl rfl (Or.inr ⟨rfl, rfl, rfl⟩) (fun x hx hp => by cases x <;> first | rfl | exact ⟨rfl, rfl⟩ | exact ⟨rfl, rfl, rfl⟩ | exact absurd (by decide) hx | cases hp) (Keeps.refl _)
      · exact Keeps.upd (t := s) rfl rfl (Or.inr ⟨rfl, rfl, rfl⟩) (fun x hx hp => by cases x <;> first | rfl | exact ⟨rfl, rfl⟩ | exact ⟨rfl, rfl, rfl⟩ | exact absurd (by decide) hx | cases hp) (Keeps.refl _)

theorem msecSeal_at {s t : State} {p : Nat} {f : List Byte} {o : Option (List Byte)} {b : Bool} (e : msecSeal s p f = (o, t, b)) :
    Keeps [Reg.SW_MSEC_STAT] [Part.wire] s t := by
  have h := msecSeal_keeps s p f
  rw [e] at h
  exact h

theorem showCnt_keeps (s : State) :
    Keeps [Reg.SW_CNT_VAL] [] s (showCnt s) := by
  unfold showCnt
  try dsimp only
  with_reducible refine Keeps.wr (in_SW_CNT_VAL_VALUE) (by decide) ?_
  with_reducible exact Keeps.refl _

theorem swCount_keeps (s : State) (ctr : Nat) (port : Nat) (cls : Nat) (n : Nat) :
    Keeps [Reg.SW_CNT_VAL] [.wire] s (swCount s ctr port cls n) := by
  unfold swCount
  try dsimp only
  with_reducible refine (showCnt_keeps _).then_ (by decide) (by decide) ?_
  with_reducible refine Keeps.set_wire rfl (by decide) ?_
  with_reducible exact Keeps.refl _

theorem sendZilek_keeps (s : State) (port : Nat) (typ : Nat) (flags : Nat) (dst : Nat) (part : Nat) (seq : Nat) (body : List Byte) :
    Keeps [Reg.SW_CNT_VAL, Reg.SW_MSEC_STAT] [.wire, .out] s (sendZilek s port typ flags dst part seq body) := by
  unfold sendZilek
  try dsimp only
  with_reducible refine Keeps.ite (fun _ => ?_) (fun _ => ?_)
  with_reducible exact Keeps.refl _
  with_reducible refine Keeps.ite (fun _ => ?_) (fun _ => ?_)
  with_reducible refine (emit_keeps _ _).then_ (by decide) (by decide) ?_
  with_reducible exact Keeps.refl _
  split
  with_reducible refine (emit_keeps _ _).then_ (by decide) (by decide) ?_
  with_reducible refine Keeps.ite (fun _ => ?_) (fun _ => ?_)
  with_reducible refine Keeps.set_wire rfl (by decide) ?_
  with_reducible refine (msecSeal_at (by assumption)).then_ (by decide) (by decide) ?_
  with_reducible exact Keeps.refl _
  with_reducible refine (msecSeal_at (by assumption)).then_ (by decide) (by decide) ?_
  with_reducible exact Keeps.refl _
  with_reducible refine (swCount_keeps _ _ _ _ _).then_ (by decide) (by decide) ?_
  with_reducible refine (msecSeal_at (by assumption)).then_ (by decide) (by decide) ?_
  with_reducible exact Keeps.refl _

theorem freeNext_keeps (s : State) :
    Keeps [] [.freeCtr] s (freeNext s) := by
  unfold freeNext
  try dsimp only
  with_reducible refine Keeps.set_freeCtr (by decide) ?_
  with_reducible exact Keeps.refl _

theorem tally_keeps (s : State) (typ : Nat) (payload : List Byte) :
    Keeps [Reg.TLY_CNT0] [.queue] s (tally s typ payload) := by
  unfold tally
  try dsimp only
  with_reducible refine Keeps.ite (fun _ => ?_) (fun _ => ?_)
  with_reducible refine Keeps.set_queue rfl (by decide) ?_
  with_reducible exact Keeps.refl _
  with_reducible refine Keeps.bump (in_TLY_CNT0_DROPPED) (by decide) ?_
  with_reducible refine Keeps.set_queue rfl (by decide) ?_
  with_reducible exact Keeps.refl _

theorem above_keeps (s : State) (mv : Nat) (thr : Nat) (tol : Nat) :
    Keeps [] [.freeCtr] s (above s mv thr tol).2 := by
  unfold above
  try dsimp only
  split
  with_reducible exact Keeps.refl _
  split
  with_reducible exact Keeps.refl _
  with_reducible refine (freeNext_keeps _).then_ (by decide) (by decide) ?_
  with_reducible exact Keeps.refl _

theorem setProxy_keeps (s : State) (p : Nat) (x : Proxy) :
    Keeps [] [.proxies] s (setProxy s p x) := by
  unfold setProxy
  try dsimp only
  with_reducible refine Keeps.set_proxies rfl (by decide) ?_
  with_reducible exact Keeps.refl _

theorem proxyPost_keeps (s : State) (p : Nat) (typ : Nat) (body : List Byte) :
    Keeps [Reg.SW_CNT_VAL, Reg.SW_MSEC_STAT] [.proxies, .wire, .out] s (proxyPost s p typ body) := by
  unfold proxyPost
  try dsimp only
  with_reducible refine Keeps.ite (fun _ => ?_) (fun _ => ?_)
  with_reducible refine (sendZilek_keeps _ _ _ _ _ _ _ _).then_ (by decide) (by decide) ?_
  with_reducible refine (setProxy_keeps _ _ _).then_ (by decide) (by decide) ?_
  with_reducible exact Keeps.refl _
  with_reducible refine (setProxy_keeps _ _ _).then_ (by decide) (by decide) ?_
  with_reducible exact Keeps.refl _

theorem storeFor_keeps (s : State) (p : Nat) (kind : Nat) (addr : Nat) (data : List Byte) :
    Keeps [Reg.SW_CNT_VAL, Reg.SW_MSEC_STAT] [.memory, .records, .proxies, .wire, .out] s (storeFor s p kind addr data) := by
  unfold storeFor
  try dsimp only
  with_reducible refine Keeps.ite (fun _ => ?_) (fun _ => ?_)
  with_reducible refine (proxyPost_keeps _ _ _ _).then_ (by decide) (by decide) ?_
  with_reducible exact Keeps.refl _
  with_reducible refine Keeps.writeBytes (by decide) ?_
  with_reducible exact Keeps.refl _

theorem requestData_keeps (p : Nat) (addr : Nat) (s : State) (c : Nat × Nat) :
    Keeps [Reg.SW_CNT_VAL, Reg.SW_MSEC_STAT] [.proxies, .wire, .out] s (requestData p addr s c) := by
  unfold requestData
  try dsimp only
  with_reducible refine (sendZilek_keeps _ _ _ _ _ _ _ _).then_ (by decide) (by decide) ?_
  with_reducible refine Keeps.set_proxies rfl (by decide) ?_
  with_reducible refine (setProxy_keeps _ _ _).then_ (by decide) (by decide) ?_
  with_reducible exact Keeps.refl _

theorem bankWait_keeps (s : State) (a : Nat) :
    Keeps [] [.banks] s (bankWait s a) := by
  unfold bankWait
  try dsimp only
  with_reducible refine Keeps.ite (fun _ => ?_) (fun _ => ?_)
  with_reducible exact Keeps.refl _
  with_reducible refine Keeps.set_banks rfl rfl (by decide) ?_
  with_reducible exact Keeps.refl _

theorem fetchData_keeps (s : State) (p : Nat) (addr : Nat) (len : Nat) :
    Keeps [Reg.SW_CNT_VAL, Reg.SW_MSEC_STAT] [.freeCtr, .banks, .proxies, .wire, .out] s (fetchData s p addr len).1 := by
  unfold fetchData
  try dsimp only
  split
  with_reducible refine (bankWait_keeps _ _).then_ (by decide) (by decide) ?_
  with_reducible exact Keeps.refl _
  with_reducible refine Keeps.foldl (fun _ _ => ?_) _ ?_
  with_reducible refine (requestData_keeps _ _ _ _).then_ (by decide) (by decide) ?_
  with_reducible exact Keeps.refl _
  with_reducible refine (freeNext_keeps _).then_ (by decide) (by decide) ?_
  with_reducible exact Keeps.refl _

theorem storeData_keeps (s : State) (p : Nat) (addr : Nat) (data : List Byte) :
    Keeps [Reg.SW_CNT_VAL, Reg.SW_MSEC_STAT] [.memory, .records, .banks, .proxies, .wire, .out] s (storeData s p addr data) := by
  unfold storeData
  try dsimp only
  with_reducible refine Keeps.ite (fun _ => ?_) (fun _ => ?_)
  with_reducible refine Keeps.foldl (fun _ _ => ?_) _ ?_
  with_reducible refine (storeFor_keeps _ _ _ _ _).then_ (by decide) (by decide) ?_
  with_reducible exact Keeps.refl _
  with_reducible exact Keeps.refl _
  with_reducible refine Keeps.writeBytes (by decide) ?_
  with_reducible refine (bankWait_keeps _ _).then_ (by decide) (by decide) ?_
  with_reducible exact Keeps.refl _

theorem sendShadow_keeps (s : State) (p : Nat) :
    Keeps [Reg.SW_CNT_VAL, Reg.SW_MSEC_STAT] [.proxies, .wire, .out] s (sendShadow s p) := by
  unfold sendShadow
  try dsimp only
  with_reducible refine (proxyPost_keeps _ _ _ _).then_ (by decide) (by decide) ?_
  with_reducible refine (setProxy_keeps _ _ _).then_ (by decide) (by decide) ?_
  with_reducible exact Keeps.refl _

theorem shadowPut_keeps (s : State) (p : Nat) (i : Nat) (v : Nat) :
    Keeps [Reg.SW_CNT_VAL, Reg.SW_MSEC_STAT] [.records, .proxies, .wire, .out] s (shadowPut s p i v) := by
  unfold shadowPut
  dsimp only
  split
  · split
    · split
      · exact (sendShadow_keeps _ _).then_ (by decide) (by decide) (Keeps.refl _)
      · exact (setProxy_keeps _ _ _).then_ (by decide) (by decide) (Keeps.refl _)
    · refine Keeps.writeRecord (by decide) (fun x h1 h2 => ?_) (Keeps.refl _)
      rw [leBytes_length] at h2
      exact ⟨p, Or.inr (Or.inl ⟨by omega, by omega⟩)⟩
  · exact Keeps.refl _

theorem signal_keeps (s : State) (p : Nat) :
    Keeps [] [.records, .owed, .out] s (signal s p) := by
  unfold signal
  split
  · exact Keeps.refl _
  · rename_i e he
    split
    · exact Keeps.refl _
    · split
      · refine Keeps.upd (t := s) rfl rfl (Or.inr ⟨rfl, rfl, rfl⟩) (fun x hx hp => by cases x <;> first | rfl | exact ⟨rfl, rfl⟩ | exact ⟨rfl, rfl, rfl⟩ | exact absurd (by decide) hx | cases hp) (Keeps.refl _)
      · split
        · exact (emit_keeps _ _).then_ (by decide) (by decide) (Keeps.refl _)
        · split
          · exact Keeps.refl _
          · refine (emit_keeps _ _).then_ (by decide) (by decide) ?_
            refine Keeps.writeRecord (by decide) (fun x h1 h2 => ?_) (Keeps.refl _)
            rw [leBytes_length] at h2
            exact ⟨p, Or.inr (Or.inr ⟨e, he, h1, h2⟩)⟩

theorem setPartEv_keeps (s : State) (p : Nat) (e : PartEv) :
    Keeps [] [.evt] s (setPartEv s p e) := by
  unfold setPartEv
  try dsimp only
  with_reducible refine Keeps.set_evt (by decide) ?_
  with_reducible exact Keeps.refl _

theorem signalEvents_keeps (s : State) (p : Nat) :
    Keeps [] [.records, .owed, .evt, .out] s (signalEvents s p) := by
  unfold signalEvents
  try dsimp only
  with_reducible refine (signal_keeps _ _).then_ (by decide) (by decide) ?_
  with_reducible refine (setPartEv_keeps _ _ _).then_ (by decide) (by decide) ?_
  with_reducible exact Keeps.refl _

theorem writeEvent_keeps (s : State) (p : Nat) (r : EvRec) :
    Keeps [Reg.SW_CNT_VAL, Reg.SW_MSEC_STAT] [.records, .rings, .proxies, .wire, .out] s (writeEvent s p r) := by
  unfold writeEvent
  dsimp only
  refine (shadowPut_keeps _ _ _ _).then_ (by decide) (by decide) ?_
  have h1 : Keeps [Reg.SW_CNT_VAL, Reg.SW_MSEC_STAT] [.records, .rings, .proxies, .wire, .out] s
      (if homeOf s p = 2 then proxyPost s p 5 (eventBytes r (phaseOf (ringAt s (eventKey p))))
        else writeBytes s (slotAddr (ringAt s (eventKey p)) 32) (eventBytes r (phaseOf (ringAt s (eventKey p))))) := by
    split
    · exact (proxyPost_keeps _ _ _ _).then_ (by decide) (by decide) (Keeps.refl _)
    · refine Keeps.writeRecord (by decide) (fun x h1 h2 => ?_) (Keeps.refl _)
      rw [eventBytes_length] at h2
      exact ⟨p, Or.inl ⟨_, Or.inl rfl, slotAddr_bounds _ 32 h1 h2⟩⟩
  exact Keeps.setIdx (by decide) ((h1.layout (by decide)).2.2 _).1.symm ((h1.layout (by decide)).2.2 _).2.symm h1

theorem countLoss_keeps (s : State) (src : Nat) (n : Nat) (parts : List Nat) :
    Keeps [] [.loss] s (countLoss s src n parts) := by
  unfold countLoss
  try dsimp only
  with_reducible refine Keeps.ite (fun _ => ?_) (fun _ => ?_)
  with_reducible refine Keeps.set_loss rfl (by decide) ?_
  with_reducible exact Keeps.refl _
  with_reducible exact Keeps.refl _

theorem queueS_keeps (s : State) (p : Nat) (r : EvRec) :
    Keeps [] [.evt] s (queueS s p r).1 := by
  unfold queueS
  try dsimp only
  split
  with_reducible refine (setPartEv_keeps _ _ _).then_ (by decide) (by decide) ?_
  with_reducible exact Keeps.refl _
  with_reducible refine (setPartEv_keeps _ _ _).then_ (by decide) (by decide) ?_
  with_reducible exact Keeps.refl _

theorem raiseOne_keeps (s : State) (p : Nat) (src : Nat) (clsS : Bool) (time : Nat) (payload : List Byte) :
    Keeps [Reg.PAR_EVT_CNT, Reg.SW_CNT_VAL, Reg.SW_MSEC_STAT] [.records, .owed, .rings, .evt, .proxies, .loss, .wire, .out] s (raiseOne s p src clsS time payload).1 := by
  unfold raiseOne
  try dsimp only
  split
  with_reducible exact Keeps.refl _
  split
  split
  with_reducible refine (signalEvents_keeps _ _).then_ (by decide) (by decide) ?_
  with_reducible refine (writeEvent_keeps _ _ _).then_ (by decide) (by decide) ?_
  with_reducible refine (setPartEv_keeps _ _ _).then_ (by decide) (by decide) ?_
  with_reducible exact Keeps.refl _
  with_reducible refine (queueS_keeps _ _ _).then_ (by decide) (by decide) ?_
  with_reducible refine (setPartEv_keeps _ _ _).then_ (by decide) (by decide) ?_
  with_reducible exact Keeps.refl _
  split
  with_reducible refine (countLoss_keeps _ _ _ _).then_ (by decide) (by decide) ?_
  with_reducible refine Keeps.bump (in_PAR_EVT_CNT_EV_LOST _) (by decide) ?_
  with_reducible refine (setPartEv_keeps _ _ _).then_ (by decide) (by decide) ?_
  with_reducible exact Keeps.refl _
  split
  with_reducible refine Keeps.bump (in_PAR_EVT_CNT_EV_SUPPRESSED _) (by decide) ?_
  with_reducible refine (setPartEv_keeps _ _ _).then_ (by decide) (by decide) ?_
  with_reducible refine (setPartEv_keeps _ _ _).then_ (by decide) (by decide) ?_
  with_reducible exact Keeps.refl _
  with_reducible refine Keeps.ite (fun _ => ?_) (fun _ => ?_)
  with_reducible refine (signalEvents_keeps _ _).then_ (by decide) (by decide) ?_
  with_reducible refine (setPartEv_keeps _ _ _).then_ (by decide) (by decide) ?_
  with_reducible refine (writeEvent_keeps _ _ _).then_ (by decide) (by decide) ?_
  with_reducible refine (setPartEv_keeps _ _ _).then_ (by decide) (by decide) ?_
  with_reducible exact Keeps.refl _
  with_reducible refine (setPartEv_keeps _ _ _).then_ (by decide) (by decide) ?_
  with_reducible refine (writeEvent_keeps _ _ _).then_ (by decide) (by decide) ?_
  with_reducible refine (setPartEv_keeps _ _ _).then_ (by decide) (by decide) ?_
  with_reducible exact Keeps.refl _

theorem holdEvent_keeps (s : State) (p : Nat) (src : Nat) (clsS : Bool) (payload : List Byte) :
    Keeps [Reg.TLY_CNT0] [.evt, .queue] s (holdEvent s p src clsS payload) := by
  unfold holdEvent
  try dsimp only
  with_reducible refine Keeps.ite (fun _ => ?_) (fun _ => ?_)
  with_reducible refine Keeps.set_evt (by decide) ?_
  with_reducible exact Keeps.refl _
  with_reducible refine Keeps.ite (fun _ => ?_) (fun _ => ?_)
  with_reducible refine Keeps.set_evt (by decide) ?_
  with_reducible exact Keeps.refl _
  with_reducible refine Keeps.ite (fun _ => ?_) (fun _ => ?_)
  with_reducible refine Keeps.set_evt (by decide) ?_
  with_reducible exact Keeps.refl _
  split
  with_reducible exact Keeps.refl _
  with_reducible refine (tally_keeps _ _ _).then_ (by decide) (by decide) ?_
  with_reducible refine Keeps.set_evt (by decide) ?_
  with_reducible exact Keeps.refl _

theorem sQueueFull_keeps (s : State) (q : Nat) (dropped : Option EvRec) :
    Keeps [Reg.PAR_EVT_CNT, Reg.SW_CNT_VAL, Reg.SW_MSEC_STAT, Reg.TLY_CNT0] [.records, .owed, .rings, .evt, .queue, .proxies, .loss, .wire, .out] s (sQueueFull s q dropped) := by
  unfold sQueueFull
  try dsimp only
  split
  with_reducible exact Keeps.refl _
  with_reducible refine Keeps.foldl (fun _ _ => ?_) _ ?_
  split
  with_reducible refine (raiseOne_keeps _ _ _ _ _ _).then_ (by decide) (by decide) ?_
  with_reducible exact Keeps.refl _
  with_reducible refine (tally_keeps _ _ _).then_ (by decide) (by decide) ?_
  with_reducible refine (raiseOne_keeps _ _ _ _ _ _).then_ (by decide) (by decide) ?_
  with_reducible exact Keeps.refl _
  with_reducible refine (tally_keeps _ _ _).then_ (by decide) (by decide) ?_
  with_reducible exact Keeps.refl _

theorem raiseTo_keeps (s : State) (p : Nat) (src : Nat) (clsS : Bool) (payload : List Byte) :
    Keeps [Reg.PAR_EVT_CNT, Reg.SW_CNT_VAL, Reg.SW_MSEC_STAT, Reg.TLY_CNT0] [.records, .owed, .rings, .evt, .queue, .proxies, .loss, .wire, .out] s (raiseTo s p src clsS payload) := by
  unfold raiseTo
  try dsimp only
  with_reducible refine Keeps.ite (fun _ => ?_) (fun _ => ?_)
  with_reducible refine (sQueueFull_keeps _ _ _).then_ (by decide) (by decide) ?_
  with_reducible refine (raiseOne_keeps _ _ _ _ _ _).then_ (by decide) (by decide) ?_
  with_reducible exact Keeps.refl _
  with_reducible refine (holdEvent_keeps _ _ _ _ _).then_ (by decide) (by decide) ?_
  with_reducible exact Keeps.refl _

theorem raise_keeps (s : State) (src : Nat) (clsS : Bool) (rcpt : List Nat) (payload : List Byte) :
    Keeps [Reg.PAR_EVT_CNT, Reg.SW_CNT_VAL, Reg.SW_MSEC_STAT, Reg.TLY_CNT0] [.records, .owed, .rings, .evt, .queue, .proxies, .loss, .wire, .out] s (raise s src clsS rcpt payload) := by
  unfold raise
  try dsimp only
  with_reducible refine Keeps.foldl (fun _ _ => ?_) _ ?_
  with_reducible refine (raiseTo_keeps _ _ _ _ _).then_ (by decide) (by decide) ?_
  with_reducible exact Keeps.refl _
  with_reducible exact Keeps.refl _

theorem dropWork_keeps (s : State) (eng : Nat) (h : DHdr) :
    Keeps [] [.rng] s (dropWork s eng h) := by
  unfold dropWork
  try dsimp only
  with_reducible refine Keeps.set_rng (by decide) rfl rfl ?_
  with_reducible exact Keeps.refl _

theorem postCompl_keeps (s : State) (eng : Nat) (h : DHdr) (opcode : Nat) (status : Nat) (result : List Byte) :
    Keeps [Reg.SW_CNT_VAL, Reg.SW_MSEC_STAT] [.records, .rings, .proxies, .wire, .out] s (postCompl s eng h opcode status result) := by
  unfold postCompl
  dsimp only
  split
  · refine (shadowPut_keeps _ _ _ _).then_ (by decide) (by decide) ?_
    have h1 : Keeps [Reg.SW_CNT_VAL, Reg.SW_MSEC_STAT] [.records, .rings, .proxies, .wire, .out] s (storeFor s h.part.val 0
        (slotAddr (ringAt s (ringKey h.part.val eng 4)) 32)
        (complBytes h opcode status (s.rd SPR_DT_STATUS_EPOCH) (dtNow s)
          (phaseOf (ringAt s (ringKey h.part.val eng 4))) result)) := by
      unfold storeFor
      split
      · exact (proxyPost_keeps _ _ _ _).then_ (by decide) (by decide) (Keeps.refl _)
      · refine Keeps.writeRecord (by decide) (fun x h1 h2 => ?_) (Keeps.refl _)
        rw [complBytes_length] at h2
        exact ⟨_, Or.inl ⟨_, Or.inr ⟨_, rfl⟩, slotAddr_bounds _ 32 h1 h2⟩⟩
    exact Keeps.setIdx (by decide) ((h1.layout (by decide)).2.2 _).1.symm ((h1.layout (by decide)).2.2 _).2.symm h1
  · exact Keeps.refl _

theorem finish_keeps (s : State) (eng : Nat) (h : DHdr) (opcode : Nat) (status : Nat) (result : List Byte) :
    Keeps [Reg.SW_CNT_VAL, Reg.SW_MSEC_STAT] [.records, .owed, .rng, .rings, .proxies, .wire, .out] s (finish s eng h opcode status result) := by
  unfold finish
  try dsimp only
  with_reducible refine Keeps.ite (fun _ => ?_) (fun _ => ?_)
  with_reducible refine (dropWork_keeps _ _ _).then_ (by decide) (by decide) ?_
  with_reducible exact Keeps.refl _
  with_reducible refine Keeps.ite (fun _ => ?_) (fun _ => ?_)
  with_reducible refine (signal_keeps _ _).then_ (by decide) (by decide) ?_
  with_reducible refine (postCompl_keeps _ _ _ _ _ _).then_ (by decide) (by decide) ?_
  with_reducible refine (dropWork_keeps _ _ _).then_ (by decide) (by decide) ?_
  with_reducible exact Keeps.refl _
  with_reducible refine (postCompl_keeps _ _ _ _ _ _).then_ (by decide) (by decide) ?_
  with_reducible refine (dropWork_keeps _ _ _).then_ (by decide) (by decide) ?_
  with_reducible exact Keeps.refl _

theorem release_keeps (eng : Nat) (h : DHdr) (n : Nat) (s : State) :
    Keeps [Reg.SW_CNT_VAL, Reg.SW_MSEC_STAT] [.records, .owed, .rng, .rings, .proxies, .wire, .out] s (release eng h n s) := by
  induction n generalizing s with
  | zero => exact Keeps.refl _
  | succ n ih =>
    unfold release
    split
    · split
      · exact ((finish_keeps _ _ _ _ _ _).then_ (by decide) (by decide) (Keeps.refl _)).trans (ih _)
      · exact Keeps.refl _
    · exact Keeps.refl _

theorem complete_keeps (s : State) (eng : Nat) (h : DHdr) (opcode : Nat) (status : Nat) (result : List Byte) :
    Keeps [Reg.SW_CNT_VAL, Reg.SW_MSEC_STAT] [.records, .owed, .rng, .rings, .proxies, .wire, .out] s (complete s eng h opcode status result) := by
  unfold complete
  try dsimp only
  with_reducible refine Keeps.ite (fun _ => ?_) (fun _ => ?_)
  with_reducible refine (finish_keeps _ _ _ _ _ _).then_ (by decide) (by decide) ?_
  with_reducible exact Keeps.refl _
  with_reducible refine Keeps.ite (fun _ => ?_) (fun _ => ?_)
  with_reducible refine Keeps.set_rng (by decide) rfl rfl ?_
  with_reducible exact Keeps.refl _
  with_reducible refine (release_keeps _ _ _ _).then_ (by decide) (by decide) ?_
  with_reducible refine (finish_keeps _ _ _ _ _ _).then_ (by decide) (by decide) ?_
  with_reducible exact Keeps.refl _

theorem startWork_keeps (s : State) (eng : Nat) (h : DHdr) :
    Keeps [] [.rng] s (startWork s eng h) := by
  unfold startWork
  try dsimp only
  with_reducible refine Keeps.set_rng (by decide) rfl rfl ?_
  with_reducible exact Keeps.refl _

theorem spend_keeps (s : State) (p : Nat) (eng : Nat) (n : Nat) :
    Keeps [] [.rng] s (spend s p eng n) := by
  unfold spend
  try dsimp only
  with_reducible refine Keeps.ite (fun _ => ?_) (fun _ => ?_)
  with_reducible exact Keeps.refl _
  with_reducible refine Keeps.set_rng (by decide) rfl rfl ?_
  with_reducible exact Keeps.refl _

theorem setDeficit_keeps (s : State) (p : Nat) (eng : Nat) (d : Int) :
    Keeps [] [.rng] s (setDeficit s p eng d) := by
  unfold setDeficit
  try dsimp only
  with_reducible refine Keeps.set_rng (by decide) rfl rfl ?_
  with_reducible exact Keeps.refl _

theorem charge_keeps (s : State) (p : Nat) (eng : Nat) (n : Nat) :
    Keeps [] [.rng] s (charge s p eng n) := by
  unfold charge
  try dsimp only
  with_reducible refine (setDeficit_keeps _ _ _ _).then_ (by decide) (by decide) ?_
  with_reducible refine (spend_keeps _ _ _ _).then_ (by decide) (by decide) ?_
  with_reducible exact Keeps.refl _

theorem advanceRound_keeps (s : State) (p : Nat) (eng : Nat) (l : List Nat) (n : Nat → Nat) :
    Keeps [] [.rng] s (advanceRound s p eng l n) := by
  unfold advanceRound
  try dsimp only
  with_reducible refine Keeps.set_rng (by decide) rfl rfl ?_
  with_reducible refine Keeps.foldl (fun _ _ => ?_) _ ?_
  with_reducible refine Keeps.ite (fun _ => ?_) (fun _ => ?_)
  with_reducible refine (setDeficit_keeps _ _ _ _).then_ (by decide) (by decide) ?_
  with_reducible exact Keeps.refl _
  with_reducible refine (setDeficit_keeps _ _ _ _).then_ (by decide) (by decide) ?_
  with_reducible exact Keeps.refl _
  with_reducible exact Keeps.refl _

theorem moveRound_keeps (s : State) (p : Nat) (eng : Nat) (l : List Nat) (n : Nat → Nat) :
    Keeps [] [.rng] s (moveRound s p eng l n) := by
  unfold moveRound
  try dsimp only
  with_reducible refine Keeps.ite (fun _ => ?_) (fun _ => ?_)
  with_reducible refine (advanceRound_keeps _ _ _ _ _).then_ (by decide) (by decide) ?_
  with_reducible exact Keeps.refl _
  with_reducible exact Keeps.refl _

theorem serve_keeps (s : State) (eng : Nat) (opcode : Nat) (h : DHdr) (b : List Byte) :
    Keeps [] [.rng] s (serve s eng opcode h b) := by
  unfold serve
  try dsimp only
  with_reducible refine (startWork_keeps _ _ _).then_ (by decide) (by decide) ?_
  with_reducible refine (charge_keeps _ _ _ _).then_ (by decide) (by decide) ?_
  with_reducible refine Keeps.set_rng (by decide) rfl rfl ?_
  with_reducible refine Keeps.ite (fun _ => ?_) (fun _ => ?_)
  with_reducible exact Keeps.refl _
  with_reducible refine (moveRound_keeps _ _ _ _ _).then_ (by decide) (by decide) ?_
  with_reducible exact Keeps.refl _

theorem descr_keeps {w : List Span} {g : List Part} {eng opcode : Nat} {h : DHdr} {b : List Byte} {s : State}
    {f : State → State} (hg : within [Part.rng] g = true) (hf : ∀ t, Keeps w g t (f t)) :
    KeepsR w g s (descr eng opcode h b s f) := by
  unfold descr
  refine KeepsR.whileCd (Keeps.ite (fun _ => ?_) (fun _ => Keeps.refl _))
  refine Keeps.trans ?_ (hf _)
  exact (serve_keeps _ _ _ _ _).then_ (by simp [regsWithin, within]) hg (Keeps.refl _)

theorem windowFault_keeps (s : State) (p : Nat) (eng : Nat) (ring : Nat) (addr : Nat) :
    Keeps [Reg.PAR_FAULT, Reg.PAR_EVT_CNT, Reg.SW_CNT_VAL, Reg.SW_MSEC_STAT, Reg.TLY_CNT0] [.records, .owed, .rings, .evt, .queue, .proxies, .loss, .wire, .out] s (windowFault s p eng ring addr) := by
  unfold windowFault
  try dsimp only
  with_reducible refine (raise_keeps _ _ _ _ _).then_ (by decide) (by decide) ?_
  with_reducible refine Keeps.bump (in_PAR_FAULT_FAULTS) (by decide) ?_
  with_reducible refine Keeps.wr (in_PAR_FAULT_RING) (by decide) ?_
  with_reducible refine Keeps.wr (in_PAR_FAULT_ENGINE) (by decide) ?_
  with_reducible refine Keeps.wr (in_PAR_FAULT_PART) (by decide) ?_
  with_reducible exact Keeps.refl _

theorem completeFault_keeps (s : State) (eng : Nat) (h : DHdr) (opcode : Nat) (addr : Nat) :
    Keeps [Reg.PAR_FAULT, Reg.PAR_EVT_CNT, Reg.SW_CNT_VAL, Reg.SW_MSEC_STAT, Reg.TLY_CNT0] [.records, .owed, .rng, .rings, .evt, .queue, .proxies, .loss, .wire, .out] s (completeFault s eng h opcode addr) := by
  unfold completeFault
  try dsimp only
  with_reducible refine (complete_keeps _ _ _ _ _ _).then_ (by decide) (by decide) ?_
  with_reducible refine (windowFault_keeps _ _ _ _ _).then_ (by decide) (by decide) ?_
  with_reducible exact Keeps.refl _

theorem withData_keeps {w : List Span} {g : List Part} {s : State} {eng : Nat} {h : DHdr} {opcode addr len : Nat}
    {f : State → List Byte → State} (hw : regsWithin [Reg.PAR_FAULT, Reg.PAR_EVT_CNT, Reg.SW_CNT_VAL, Reg.SW_MSEC_STAT, Reg.TLY_CNT0] w = true)
    (hg : within [Part.records, .freeCtr, .owed, .banks, .rng, .rings, .evt, .queue, .proxies, .loss, .wire, .out] g = true)
    (hf : ∀ t d, Keeps w g t (f t d)) : Keeps w g s (withData s eng h opcode addr len f) := by
  have k : ∀ {t u : State}, Keeps [Reg.PAR_FAULT, Reg.PAR_EVT_CNT, Reg.SW_CNT_VAL, Reg.SW_MSEC_STAT, Reg.TLY_CNT0] [Part.records, .freeCtr, .owed, .banks, .rng, .rings, .evt, .queue, .proxies, .loss, .wire, .out] t u → Keeps w g t u :=
    fun h => h.mono (of_regsWithin hw) (of_within hg)
  unfold withData
  split
  · exact k ((completeFault_keeps _ _ _ _ _).then_ (by decide) (by decide) (Keeps.refl _))
  · rename_i a _
    have h0 : Keeps w g s (fetchData s h.part.val a len).1 :=
      k ((fetchData_keeps _ _ _ _).then_ (by decide) (by decide) (Keeps.refl _))
    split
    · rename_i t d e
      exact (Keeps.ofFst e h0).trans (hf _ _)
    · rename_i t e
      exact (Keeps.ofFst e h0).trans (k ((complete_keeps _ _ _ _ _ _).then_ (by decide) (by decide) (Keeps.refl _)))

end Sys2Proof.Machine
end

