-- ==== Sys2Proof/Laws/Channel.lean ====
section
/-! SUPPORT.
What the operations of Machine/Channel.lean change, and that they keep a sound state sound.
-/

namespace Sys2Proof.Machine

theorem setChn_keeps (s : State) (c : Chan) (x : Chn) :
    Keeps [] [.chs] s (setChn s c x) := by
  unfold setChn
  try dsimp only
  with_reducible refine Keeps.set_chs (by decide) ?_
  with_reducible exact Keeps.refl _

theorem fallFast_keeps (s : State) (c : Chan) :
    Keeps [] [.chs] s (fallFast s c) := by
  unfold fallFast
  try dsimp only
  with_reducible refine Keeps.foldl (fun _ _ => ?_) _ ?_
  with_reducible refine (setChn_keeps _ _ _).then_ (by decide) (by decide) ?_
  with_reducible exact Keeps.refl _
  with_reducible exact Keeps.refl _

theorem stopTest_keeps (s : State) (c : Chan) :
    Keeps [Reg.LED_CNT] [.chs] s (stopTest s c) := by
  unfold stopTest
  try dsimp only
  with_reducible refine Keeps.ite (fun _ => ?_) (fun _ => ?_)
  with_reducible exact Keeps.refl _
  with_reducible refine Keeps.ite (fun _ => ?_) (fun _ => ?_)
  with_reducible refine Keeps.bump (in_LED_CNT_TESTS_ABORTED) (by decide) ?_
  with_reducible refine (setChn_keeps _ _ _).then_ (by decide) (by decide) ?_
  with_reducible refine Keeps.ite (fun _ => ?_) (fun _ => ?_)
  with_reducible refine Keeps.bump (in_LED_CNT_TESTS_ABORTED) (by decide) ?_
  with_reducible refine (setChn_keeps _ _ _).then_ (by decide) (by decide) ?_
  with_reducible exact Keeps.refl _
  with_reducible exact Keeps.refl _
  with_reducible refine Keeps.ite (fun _ => ?_) (fun _ => ?_)
  with_reducible refine Keeps.bump (in_LED_CNT_TESTS_ABORTED) (by decide) ?_
  with_reducible refine (setChn_keeps _ _ _).then_ (by decide) (by decide) ?_
  with_reducible exact Keeps.refl _
  with_reducible exact Keeps.refl _

theorem setRev_keeps (s : State) (c : Chan) (v : Nat) :
    Keeps [Reg.HB_STATE] [] s (setRev s c v) := by
  unfold setRev
  try dsimp only
  with_reducible refine Keeps.foldl (fun _ _ => ?_) _ ?_
  with_reducible refine Keeps.wr (in_HB_STATE_REV _) (by decide) ?_
  with_reducible exact Keeps.refl _
  with_reducible exact Keeps.refl _

theorem showCh_keeps (s : State) (c : Chan) :
    Keeps [Reg.HS_STATE, Reg.HB_STATE, Reg.SV_STATE, Reg.LED_STATE, Reg.FIO_CAUSE] [] s (showCh s c) := by
  unfold showCh
  try dsimp only
  with_reducible refine Keeps.wrAny (in_appliedF _) (by decide) ?_
  with_reducible refine Keeps.wrAny (in_chStateF _) (by decide) ?_
  with_reducible exact Keeps.refl _

theorem showAll_keeps (s : State) (c : Chan) :
    Keeps [Reg.HS_STATE, Reg.HB_STATE, Reg.SV_STATE, Reg.LED_STATE, Reg.FIO_CAUSE] [] s (showAll s c) := by
  unfold showAll
  try dsimp only
  with_reducible refine Keeps.foldl (fun _ _ => ?_) _ ?_
  with_reducible refine (showCh_keeps _ _).then_ (by decide) (by decide) ?_
  with_reducible exact Keeps.refl _
  with_reducible exact Keeps.refl _

theorem openInrush_keeps (s : State) (c : Chan) (again : Bool) :
    Keeps [Reg.HS_STATE] [.chs] s (openInrush s c again) := by
  unfold openInrush
  try dsimp only
  with_reducible refine Keeps.ite (fun _ => ?_) (fun _ => ?_)
  with_reducible exact Keeps.refl _
  with_reducible refine Keeps.ite (fun _ => ?_) (fun _ => ?_)
  with_reducible refine Keeps.put (in_HS_STATE_INRUSH _) (by decide) ?_
  with_reducible exact Keeps.refl _
  with_reducible refine (setChn_keeps _ _ _).then_ (by decide) (by decide) ?_
  with_reducible exact Keeps.refl _

theorem switch1_keeps (s : State) (d : Drv) (c : Chan) :
    Keeps [Reg.HS_STATE, Reg.HB_STATE, Reg.SV_STATE, Reg.LED_STATE, Reg.FIO_CAUSE] [.chs] s (switch1 s d c) := by
  unfold switch1
  try dsimp only
  with_reducible refine (showAll_keeps _ _).then_ (by decide) (by decide) ?_
  with_reducible refine (setChn_keeps _ _ _).then_ (by decide) (by decide) ?_
  with_reducible refine Keeps.ite (fun _ => ?_) (fun _ => ?_)
  with_reducible refine (openInrush_keeps _ _ _).then_ (by decide) (by decide) ?_
  with_reducible exact Keeps.refl _
  with_reducible exact Keeps.refl _

theorem followOn_keeps (s : State) (c : Chan) :
    Keeps [Reg.HS_STATE, Reg.HB_STATE, Reg.SV_STATE, Reg.LED_STATE, Reg.FIO_CAUSE] [.chs] s (followOn s c) := by
  unfold followOn
  try dsimp only
  with_reducible refine Keeps.ite (fun _ => ?_) (fun _ => ?_)
  split
  with_reducible refine Keeps.ite (fun _ => ?_) (fun _ => ?_)
  with_reducible exact Keeps.refl _
  with_reducible refine (switch1_keeps _ _ _).then_ (by decide) (by decide) ?_
  with_reducible exact Keeps.refl _
  with_reducible exact Keeps.refl _
  with_reducible exact Keeps.refl _

theorem switchTo_keeps (s : State) (c : Chan) (d : Drv) :
    Keeps [Reg.HS_STATE, Reg.HB_STATE, Reg.SV_STATE, Reg.LED_STATE, Reg.FIO_CAUSE] [.chs] s (switchTo s c d) := by
  unfold switchTo
  try dsimp only
  split
  with_reducible refine (switch1_keeps _ _ _).then_ (by decide) (by decide) ?_
  with_reducible refine (followOn_keeps _ _).then_ (by decide) (by decide) ?_
  with_reducible refine (switch1_keeps _ _ _).then_ (by decide) (by decide) ?_
  with_reducible exact Keeps.refl _
  with_reducible refine (followOn_keeps _ _).then_ (by decide) (by decide) ?_
  with_reducible refine (switch1_keeps _ _ _).then_ (by decide) (by decide) ?_
  with_reducible exact Keeps.refl _

theorem actDone_keeps (s : State) (h : DHdr) (opcode : Nat) (status : Nat) (c : Chan) (steps : Nat) :
    Keeps [Reg.ACT_CNT, Reg.SW_CNT_VAL, Reg.SW_MSEC_STAT] [.records, .owed, .rng, .rings, .proxies, .wire, .out] s (actDone s h opcode status c steps) := by
  unfold actDone
  try dsimp only
  with_reducible refine (complete_keeps _ _ _ _ _ _).then_ (by decide) (by decide) ?_
  with_reducible refine Keeps.ite (fun _ => ?_) (fun _ => ?_)
  with_reducible refine Keeps.bump (in_ACT_CNT_HELD_SAFE) (by decide) ?_
  with_reducible exact Keeps.refl _
  with_reducible refine Keeps.ite (fun _ => ?_) (fun _ => ?_)
  with_reducible refine Keeps.bump (in_ACT_CNT_HELD_LIMP) (by decide) ?_
  with_reducible exact Keeps.refl _
  with_reducible exact Keeps.refl _

theorem endJob_keeps (s : State) (c : Chan) (status : Nat) :
    Keeps [Reg.ACT_CNT, Reg.SW_CNT_VAL, Reg.SW_MSEC_STAT] [.records, .owed, .rng, .rings, .proxies, .chs, .wire, .out] s (endJob s c status) := by
  unfold endJob
  try dsimp only
  split
  with_reducible exact Keeps.refl _
  with_reducible refine (actDone_keeps _ _ _ _ _ _).then_ (by decide) (by decide) ?_
  with_reducible refine (setChn_keeps _ _ _).then_ (by decide) (by decide) ?_
  with_reducible exact Keeps.refl _

theorem dropJob_keeps (s0 : State) (c : Chan) :
    Keeps [] [.rng, .chs] s0 (dropJob s0 c) := by
  unfold dropJob
  try dsimp only
  split
  split
  with_reducible refine (dropWork_keeps _ _ _).then_ (by decide) (by decide) ?_
  with_reducible refine (setChn_keeps _ _ _).then_ (by decide) (by decide) ?_
  with_reducible exact Keeps.refl _
  with_reducible refine Keeps.ite (fun _ => ?_) (fun _ => ?_)
  with_reducible refine (setChn_keeps _ _ _).then_ (by decide) (by decide) ?_
  with_reducible exact Keeps.refl _
  with_reducible exact Keeps.refl _
  with_reducible exact Keeps.refl _
  with_reducible refine (dropWork_keeps _ _ _).then_ (by decide) (by decide) ?_
  with_reducible refine (setChn_keeps _ _ _).then_ (by decide) (by decide) ?_
  split
  with_reducible refine (dropWork_keeps _ _ _).then_ (by decide) (by decide) ?_
  with_reducible refine (setChn_keeps _ _ _).then_ (by decide) (by decide) ?_
  with_reducible exact Keeps.refl _
  with_reducible refine Keeps.ite (fun _ => ?_) (fun _ => ?_)
  with_reducible refine (setChn_keeps _ _ _).then_ (by decide) (by decide) ?_
  with_reducible exact Keeps.refl _
  with_reducible exact Keeps.refl _
  with_reducible exact Keeps.refl _

theorem endWait_keeps (s : State) (c : Chan) (status : Nat) :
    Keeps [Reg.ACT_CNT, Reg.SW_CNT_VAL, Reg.SW_MSEC_STAT] [.records, .owed, .rng, .rings, .proxies, .chs, .wire, .out] s (endWait s c status) := by
  unfold endWait
  try dsimp only
  split
  with_reducible exact Keeps.refl _
  split
  with_reducible refine (actDone_keeps _ _ _ _ _ _).then_ (by decide) (by decide) ?_
  with_reducible refine (setChn_keeps _ _ _).then_ (by decide) (by decide) ?_
  with_reducible exact Keeps.refl _
  with_reducible refine (setChn_keeps _ _ _).then_ (by decide) (by decide) ?_
  with_reducible exact Keeps.refl _

theorem showHeld_keeps (s : State) :
    Keeps [Reg.ACT_SAFE_STATUS] [] s (showHeld s) := by
  unfold showHeld
  try dsimp only
  with_reducible refine Keeps.wr (in_ACT_SAFE_STATUS_SL_HELD) (by decide) ?_
  with_reducible exact Keeps.refl _

theorem setSafe_keeps (s : State) (c : Chan) (v : SafeHold) :
    Keeps [Reg.ACT_SAFE_STATUS] [.chs] s (setSafe s c v) := by
  unfold setSafe
  try dsimp only
  with_reducible refine (showHeld_keeps _).then_ (by decide) (by decide) ?_
  with_reducible refine (setChn_keeps _ _ _).then_ (by decide) (by decide) ?_
  with_reducible exact Keeps.refl _

theorem kerfResult_keeps (s : State) (c : Chan) (res : Nat) (t : Nat) (depth : Nat) :
    Keeps [Reg.PAR_EVT_CNT, Reg.SV_STATE, Reg.SV_KRES, Reg.SV_CNT2, Reg.SW_CNT_VAL, Reg.SW_MSEC_STAT, Reg.TLY_CNT0] [.records, .owed, .rings, .evt, .queue, .proxies, .chs, .loss, .wire, .out] s (kerfResult s c res t depth) := by
  unfold kerfResult
  try dsimp only
  with_reducible refine Keeps.ite (fun _ => ?_) (fun _ => ?_)
  with_reducible refine (raise_keeps _ _ _ _ _).then_ (by decide) (by decide) ?_
  with_reducible refine Keeps.ite (fun _ => ?_) (fun _ => ?_)
  with_reducible refine Keeps.bump (in_SV_CNT2_KERF_MISS) (by decide) ?_
  with_reducible refine (setChn_keeps _ _ _).then_ (by decide) (by decide) ?_
  with_reducible refine Keeps.wr (in_SV_KRES_DEPTH _) (by decide) ?_
  with_reducible refine Keeps.wr (in_SV_KRES_KERF_T _) (by decide) ?_
  with_reducible refine Keeps.wr (in_SV_STATE_KERF_RES _) (by decide) ?_
  with_reducible exact Keeps.refl _
  with_reducible refine (setChn_keeps _ _ _).then_ (by decide) (by decide) ?_
  with_reducible refine Keeps.wr (in_SV_KRES_DEPTH _) (by decide) ?_
  with_reducible refine Keeps.wr (in_SV_KRES_KERF_T _) (by decide) ?_
  with_reducible refine Keeps.wr (in_SV_STATE_KERF_RES _) (by decide) ?_
  with_reducible exact Keeps.refl _
  with_reducible refine Keeps.ite (fun _ => ?_) (fun _ => ?_)
  with_reducible refine Keeps.bump (in_SV_CNT2_KERF_MISS) (by decide) ?_
  with_reducible refine (setChn_keeps _ _ _).then_ (by decide) (by decide) ?_
  with_reducible refine Keeps.wr (in_SV_KRES_DEPTH _) (by decide) ?_
  with_reducible refine Keeps.wr (in_SV_KRES_KERF_T _) (by decide) ?_
  with_reducible refine Keeps.wr (in_SV_STATE_KERF_RES _) (by decide) ?_
  with_reducible exact Keeps.refl _
  with_reducible refine (setChn_keeps _ _ _).then_ (by decide) (by decide) ?_
  with_reducible refine Keeps.wr (in_SV_KRES_DEPTH _) (by decide) ?_
  with_reducible refine Keeps.wr (in_SV_KRES_KERF_T _) (by decide) ?_
  with_reducible refine Keeps.wr (in_SV_STATE_KERF_RES _) (by decide) ?_
  with_reducible exact Keeps.refl _

theorem kerfMissed_keeps (s : State) (c : Chan) (res : Nat) :
    Keeps [Reg.PAR_EVT_CNT, Reg.SV_STATE, Reg.SV_KRES, Reg.SV_CNT2, Reg.SW_CNT_VAL, Reg.SW_MSEC_STAT, Reg.TLY_CNT0] [.records, .freeCtr, .owed, .rings, .evt, .queue, .proxies, .chs, .loss, .wire, .out] s (kerfMissed s c res) := by
  unfold kerfMissed
  try dsimp only
  with_reducible refine (kerfResult_keeps _ _ _ _ _).then_ (by decide) (by decide) ?_
  with_reducible refine (freeNext_keeps _).then_ (by decide) (by decide) ?_
  with_reducible refine (freeNext_keeps _).then_ (by decide) (by decide) ?_
  with_reducible exact Keeps.refl _

theorem abortKerf_keeps (s : State) (c : Chan) :
    Keeps [Reg.PAR_EVT_CNT, Reg.SV_STATE, Reg.SV_KRES, Reg.SV_CNT2, Reg.SW_CNT_VAL, Reg.SW_MSEC_STAT, Reg.TLY_CNT0] [.records, .freeCtr, .owed, .rings, .evt, .queue, .proxies, .chs, .loss, .wire, .out] s (abortKerf s c) := by
  unfold abortKerf
  try dsimp only
  with_reducible refine Keeps.ite (fun _ => ?_) (fun _ => ?_)
  with_reducible refine (kerfMissed_keeps _ _ _).then_ (by decide) (by decide) ?_
  with_reducible exact Keeps.refl _
  with_reducible exact Keeps.refl _

theorem posLost_keeps (s : State) (c : Chan) :
    Keeps [Reg.PAR_EVT_CNT, Reg.HB_STATE, Reg.SW_CNT_VAL, Reg.SW_MSEC_STAT, Reg.TLY_CNT0] [.records, .owed, .rings, .evt, .queue, .proxies, .loss, .wire, .out] s (posLost s c) := by
  unfold posLost
  try dsimp only
  with_reducible refine Keeps.ite (fun _ => ?_) (fun _ => ?_)
  with_reducible refine (raise_keeps _ _ _ _ _).then_ (by decide) (by decide) ?_
  with_reducible refine Keeps.put (in_HB_STATE_POS_VALID _) (by decide) ?_
  with_reducible exact Keeps.refl _
  with_reducible exact Keeps.refl _

theorem bridgeOff_keeps (s : State) (c : Chan) :
    Keeps [Reg.PAR_EVT_CNT, Reg.HS_STATE, Reg.HB_STATE, Reg.SV_STATE, Reg.LED_STATE, Reg.FIO_CAUSE, Reg.SW_CNT_VAL, Reg.SW_MSEC_STAT, Reg.TLY_CNT0] [.records, .owed, .rings, .evt, .queue, .proxies, .chs, .loss, .wire, .out] s (bridgeOff s c) := by
  unfold bridgeOff
  try dsimp only
  with_reducible refine (switchTo_keeps _ _ _).then_ (by decide) (by decide) ?_
  with_reducible refine Keeps.ite (fun _ => ?_) (fun _ => ?_)
  with_reducible refine (posLost_keeps _ _).then_ (by decide) (by decide) ?_
  with_reducible exact Keeps.refl _
  with_reducible exact Keeps.refl _

theorem endDrive_keeps (s : State) (c : Chan) (cause : Nat) (status : Nat) :
    Keeps [Reg.ACT_CNT, Reg.HB_STATE, Reg.SW_CNT_VAL, Reg.SW_MSEC_STAT] [.records, .owed, .rng, .rings, .proxies, .chs, .wire, .out] s (endDrive s c cause status) := by
  unfold endDrive
  try dsimp only
  split
  with_reducible refine Keeps.ite (fun _ => ?_) (fun _ => ?_)
  with_reducible refine (endJob_keeps _ _ _).then_ (by decide) (by decide) ?_
  with_reducible refine (setChn_keeps _ _ _).then_ (by decide) (by decide) ?_
  with_reducible refine Keeps.wr (in_HB_STATE_END_CAUSE _) (by decide) ?_
  with_reducible exact Keeps.refl _
  with_reducible exact Keeps.refl _
  with_reducible exact Keeps.refl _

theorem cutOff_keeps (s0 : State) (c : Chan) (cause : Nat) (status : Nat) :
    Keeps [Reg.PAR_EVT_CNT, Reg.ACT_CNT, Reg.HS_STATE, Reg.HB_STATE, Reg.SV_STATE, Reg.SV_KRES, Reg.SV_CNT2, Reg.LED_STATE, Reg.FIO_CAUSE, Reg.SW_CNT_VAL, Reg.SW_MSEC_STAT, Reg.TLY_CNT0] [.records, .freeCtr, .owed, .rng, .rings, .evt, .queue, .proxies, .chs, .loss, .wire, .out] s0 (cutOff s0 c cause status) := by
  unfold cutOff
  try dsimp only
  split
  with_reducible refine Keeps.ite (fun _ => ?_) (fun _ => ?_)
  with_reducible refine (endJob_keeps _ _ _).then_ (by decide) (by decide) ?_
  with_reducible refine (setChn_keeps _ _ _).then_ (by decide) (by decide) ?_
  with_reducible refine Keeps.wr (in_HB_STATE_END_CAUSE _) (by decide) ?_
  with_reducible refine (switchTo_keeps _ _ _).then_ (by decide) (by decide) ?_
  with_reducible refine (setChn_keeps _ _ _).then_ (by decide) (by decide) ?_
  with_reducible refine Keeps.ite (fun _ => ?_) (fun _ => ?_)
  with_reducible refine (posLost_keeps _ _).then_ (by decide) (by decide) ?_
  with_reducible refine (endWait_keeps _ _ _).then_ (by decide) (by decide) ?_
  with_reducible exact Keeps.refl _
  with_reducible refine (endWait_keeps _ _ _).then_ (by decide) (by decide) ?_
  with_reducible exact Keeps.refl _
  with_reducible refine (endJob_keeps _ _ _).then_ (by decide) (by decide) ?_
  with_reducible refine (switchTo_keeps _ _ _).then_ (by decide) (by decide) ?_
  with_reducible refine (setChn_keeps _ _ _).then_ (by decide) (by decide) ?_
  with_reducible refine Keeps.ite (fun _ => ?_) (fun _ => ?_)
  with_reducible refine (posLost_keeps _ _).then_ (by decide) (by decide) ?_
  with_reducible refine (endWait_keeps _ _ _).then_ (by decide) (by decide) ?_
  with_reducible exact Keeps.refl _
  with_reducible refine (endWait_keeps _ _ _).then_ (by decide) (by decide) ?_
  with_reducible exact Keeps.refl _
  with_reducible refine (endJob_keeps _ _ _).then_ (by decide) (by decide) ?_
  with_reducible refine (switchTo_keeps _ _ _).then_ (by decide) (by decide) ?_
  with_reducible refine (abortKerf_keeps _ _).then_ (by decide) (by decide) ?_
  with_reducible refine (endWait_keeps _ _ _).then_ (by decide) (by decide) ?_
  with_reducible exact Keeps.refl _
  with_reducible refine (endJob_keeps _ _ _).then_ (by decide) (by decide) ?_
  with_reducible refine (switchTo_keeps _ _ _).then_ (by decide) (by decide) ?_
  with_reducible refine (endWait_keeps _ _ _).then_ (by decide) (by decide) ?_
  with_reducible exact Keeps.refl _

theorem ownerActs_keeps (s : State) (c : Chan) :
    Keeps [] [.chs] s (ownerActs s c) := by
  unfold ownerActs
  try dsimp only
  with_reducible refine (setChn_keeps _ _ _).then_ (by decide) (by decide) ?_
  with_reducible exact Keeps.refl _

theorem takeCh_keeps (s0 : State) (c : Chan) :
    Keeps [Reg.LED_CNT] [.chs] s0 (takeCh s0 c) := by
  unfold takeCh
  try dsimp only
  with_reducible refine (setChn_keeps _ _ _).then_ (by decide) (by decide) ?_
  with_reducible refine (stopTest_keeps _ _).then_ (by decide) (by decide) ?_
  with_reducible exact Keeps.refl _

theorem endClaim_keeps (s : State) (x : Claim) :
    Keeps [Reg.ACT_CLAIM, Reg.ACT_CNT, Reg.HS_STATE, Reg.HB_STATE, Reg.SV_STATE, Reg.LED_STATE, Reg.FIO_CAUSE, Reg.SW_CNT_VAL, Reg.SW_MSEC_STAT] [.records, .owed, .rng, .rings, .proxies, .act, .chs, .wire, .out] s (endClaim s x) := by
  unfold endClaim
  try dsimp only
  with_reducible refine Keeps.foldl (fun _ _ => ?_) _ ?_
  with_reducible refine Keeps.ite (fun _ => ?_) (fun _ => ?_)
  with_reducible exact Keeps.refl _
  split
  with_reducible refine Keeps.put (in_ACT_CLAIM_VALID _) (by decide) ?_
  with_reducible refine Keeps.wr (in_ACT_CLAIM_CLAIMANT _) (by decide) ?_
  with_reducible refine Keeps.wr (in_ACT_CLAIM_FOLLOWER _) (by decide) ?_
  with_reducible refine Keeps.wr (in_ACT_CLAIM_LEAD _) (by decide) ?_
  with_reducible exact Keeps.refl _
  with_reducible refine Keeps.put (in_ACT_CLAIM_VALID _) (by decide) ?_
  with_reducible refine Keeps.wr (in_ACT_CLAIM_CLAIMANT _) (by decide) ?_
  with_reducible refine Keeps.wr (in_ACT_CLAIM_FOLLOWER _) (by decide) ?_
  with_reducible refine Keeps.wr (in_ACT_CLAIM_LEAD _) (by decide) ?_
  with_reducible exact Keeps.refl _
  with_reducible refine (setChn_keeps _ _ _).then_ (by decide) (by decide) ?_
  with_reducible refine (setChn_keeps _ _ _).then_ (by decide) (by decide) ?_
  with_reducible refine (endJob_keeps _ _ _).then_ (by decide) (by decide) ?_
  with_reducible refine (switchTo_keeps _ _ _).then_ (by decide) (by decide) ?_
  with_reducible refine (switchTo_keeps _ _ _).then_ (by decide) (by decide) ?_
  with_reducible refine Keeps.set_act (by decide) ?_
  with_reducible exact Keeps.refl _

theorem endClaimsOf_keeps (s : State) (p : Nat) :
    Keeps [Reg.ACT_CLAIM, Reg.ACT_CNT, Reg.HS_STATE, Reg.HB_STATE, Reg.SV_STATE, Reg.LED_STATE, Reg.FIO_CAUSE, Reg.SW_CNT_VAL, Reg.SW_MSEC_STAT] [.records, .owed, .rng, .rings, .proxies, .act, .chs, .wire, .out] s (endClaimsOf s p) := by
  unfold endClaimsOf
  try dsimp only
  with_reducible refine Keeps.foldl (fun _ _ => ?_) _ ?_
  with_reducible refine (endClaim_keeps _ _).then_ (by decide) (by decide) ?_
  with_reducible exact Keeps.refl _
  with_reducible exact Keeps.refl _

theorem bridgeRest_keeps (s : State) (c : Chan) (toOff : Bool) :
    Keeps [Reg.ACT_CNT, Reg.HS_STATE, Reg.HB_STATE, Reg.SV_STATE, Reg.LED_STATE, Reg.FIO_CAUSE, Reg.SW_CNT_VAL, Reg.SW_MSEC_STAT] [.records, .owed, .rng, .rings, .proxies, .chs, .wire, .out] s (bridgeRest s c toOff) := by
  unfold bridgeRest
  try dsimp only
  split
  with_reducible refine Keeps.ite (fun _ => ?_) (fun _ => ?_)
  with_reducible exact Keeps.refl _
  with_reducible refine Keeps.ite (fun _ => ?_) (fun _ => ?_)
  with_reducible refine (setChn_keeps _ _ _).then_ (by decide) (by decide) ?_
  with_reducible refine (switchTo_keeps _ _ _).then_ (by decide) (by decide) ?_
  with_reducible refine (endJob_keeps _ _ _).then_ (by decide) (by decide) ?_
  with_reducible refine (setChn_keeps _ _ _).then_ (by decide) (by decide) ?_
  with_reducible refine Keeps.wr (in_HB_STATE_END_CAUSE _) (by decide) ?_
  with_reducible exact Keeps.refl _
  with_reducible refine Keeps.ite (fun _ => ?_) (fun _ => ?_)
  with_reducible refine (setChn_keeps _ _ _).then_ (by decide) (by decide) ?_
  with_reducible refine (switchTo_keeps _ _ _).then_ (by decide) (by decide) ?_
  with_reducible exact Keeps.refl _
  with_reducible exact Keeps.refl _
  with_reducible exact Keeps.refl _

theorem endRun_keeps (s : State) (c : Chan) (cause : Nat) (status : Nat) :
    Keeps [Reg.PAR_EVT_CNT, Reg.ACT_CNT, Reg.HB_STATE, Reg.SV_STATE, Reg.SV_KRES, Reg.SV_CNT2, Reg.SW_CNT_VAL, Reg.SW_MSEC_STAT, Reg.TLY_CNT0] [.records, .freeCtr, .owed, .rng, .rings, .evt, .queue, .proxies, .chs, .loss, .wire, .out] s (endRun s c cause status) := by
  unfold endRun
  try dsimp only
  with_reducible refine Keeps.ite (fun _ => ?_) (fun _ => ?_)
  with_reducible refine (endDrive_keeps _ _ _ _).then_ (by decide) (by decide) ?_
  with_reducible refine (endWait_keeps _ _ _).then_ (by decide) (by decide) ?_
  with_reducible exact Keeps.refl _
  with_reducible refine (endJob_keeps _ _ _).then_ (by decide) (by decide) ?_
  with_reducible refine (abortKerf_keeps _ _).then_ (by decide) (by decide) ?_
  with_reducible exact Keeps.refl _

theorem limpSet_keeps (s : State) (c : Chan) (d : Drv) :
    Keeps [Reg.HS_STATE, Reg.HB_STATE, Reg.SV_STATE, Reg.LED_STATE, Reg.FIO_CAUSE] [.chs] s (limpSet s c d) := by
  unfold limpSet
  try dsimp only
  with_reducible refine Keeps.ite (fun _ => ?_) (fun _ => ?_)
  with_reducible refine (showAll_keeps _ _).then_ (by decide) (by decide) ?_
  with_reducible refine (setChn_keeps _ _ _).then_ (by decide) (by decide) ?_
  with_reducible exact Keeps.refl _
  with_reducible refine (switchTo_keeps _ _ _).then_ (by decide) (by decide) ?_
  with_reducible refine (setChn_keeps _ _ _).then_ (by decide) (by decide) ?_
  with_reducible exact Keeps.refl _

theorem limpDriveStart_keeps (s : State) (c : Chan) (dir : Nat) (ms : Nat) :
    Keeps [Reg.HS_STATE, Reg.HB_STATE, Reg.SV_STATE, Reg.LED_STATE, Reg.FIO_CAUSE] [.chs] s (limpDriveStart s c dir ms) := by
  unfold limpDriveStart
  try dsimp only
  with_reducible refine Keeps.ite (fun _ => ?_) (fun _ => ?_)
  with_reducible refine (setChn_keeps _ _ _).then_ (by decide) (by decide) ?_
  with_reducible exact Keeps.refl _
  with_reducible refine Keeps.ite (fun _ => ?_) (fun _ => ?_)
  with_reducible exact Keeps.refl _
  with_reducible refine Keeps.ite (fun _ => ?_) (fun _ => ?_)
  with_reducible refine (setChn_keeps _ _ _).then_ (by decide) (by decide) ?_
  with_reducible refine (switchTo_keeps _ _ _).then_ (by decide) (by decide) ?_
  with_reducible refine (setChn_keeps _ _ _).then_ (by decide) (by decide) ?_
  with_reducible exact Keeps.refl _
  with_reducible refine (setChn_keeps _ _ _).then_ (by decide) (by decide) ?_
  with_reducible refine (switchTo_keeps _ _ _).then_ (by decide) (by decide) ?_
  with_reducible refine (setChn_keeps _ _ _).then_ (by decide) (by decide) ?_
  with_reducible exact Keeps.refl _

theorem startSeg_keeps (s : State) (c : Chan) (p : Nat) (g : Nat) :
    Keeps [Reg.SV_STATE] [.chs] s (startSeg s c p g) := by
  unfold startSeg
  try dsimp only
  with_reducible refine Keeps.ite (fun _ => ?_) (fun _ => ?_)
  with_reducible refine (setChn_keeps _ _ _).then_ (by decide) (by decide) ?_
  with_reducible refine Keeps.wr (in_SV_STATE_SEG _) (by decide) ?_
  with_reducible refine (setChn_keeps _ _ _).then_ (by decide) (by decide) ?_
  with_reducible exact Keeps.refl _
  with_reducible refine (setChn_keeps _ _ _).then_ (by decide) (by decide) ?_
  with_reducible exact Keeps.refl _

theorem runProfile_keeps (s : State) (c : Chan) (p : Nat) (rep : Nat) :
    Keeps [Reg.HS_STATE, Reg.HB_STATE, Reg.SV_STATE, Reg.LED_STATE, Reg.FIO_CAUSE] [.chs] s (runProfile s c p rep) := by
  unfold runProfile
  try dsimp only
  with_reducible refine Keeps.ite (fun _ => ?_) (fun _ => ?_)
  with_reducible refine (setChn_keeps _ _ _).then_ (by decide) (by decide) ?_
  with_reducible refine (startSeg_keeps _ _ _ _).then_ (by decide) (by decide) ?_
  with_reducible refine (setChn_keeps _ _ _).then_ (by decide) (by decide) ?_
  with_reducible refine (switchTo_keeps _ _ _).then_ (by decide) (by decide) ?_
  with_reducible refine Keeps.ite (fun _ => ?_) (fun _ => ?_)
  with_reducible refine Keeps.wr (in_SV_STATE_KERF_RES _) (by decide) ?_
  with_reducible exact Keeps.refl _
  with_reducible exact Keeps.refl _
  with_reducible refine (startSeg_keeps _ _ _ _).then_ (by decide) (by decide) ?_
  with_reducible refine (setChn_keeps _ _ _).then_ (by decide) (by decide) ?_
  with_reducible refine (switchTo_keeps _ _ _).then_ (by decide) (by decide) ?_
  with_reducible refine Keeps.ite (fun _ => ?_) (fun _ => ?_)
  with_reducible refine Keeps.wr (in_SV_STATE_KERF_RES _) (by decide) ?_
  with_reducible exact Keeps.refl _
  with_reducible exact Keeps.refl _

theorem limpAction_keeps (s0 : State) (c : Chan) (act : Nat) (param : Nat) (pulseMs : Nat) (fresh : Bool) :
    Keeps [Reg.PAR_EVT_CNT, Reg.HS_STATE, Reg.HB_STATE, Reg.SV_STATE, Reg.LED_STATE, Reg.FIO_CAUSE, Reg.SW_CNT_VAL, Reg.SW_MSEC_STAT, Reg.TLY_CNT0] [.records, .owed, .rings, .evt, .queue, .proxies, .chs, .loss, .wire, .out] s0 (limpAction s0 c act param pulseMs fresh) := by
  unfold limpAction
  try dsimp only
  with_reducible refine Keeps.ite (fun _ => ?_) (fun _ => ?_)
  with_reducible exact Keeps.refl _
  with_reducible refine Keeps.ite (fun _ => ?_) (fun _ => ?_)
  with_reducible refine Keeps.ite (fun _ => ?_) (fun _ => ?_)
  with_reducible refine (limpDriveStart_keeps _ _ _ _).then_ (by decide) (by decide) ?_
  with_reducible exact Keeps.refl _
  with_reducible exact Keeps.refl _
  with_reducible refine Keeps.ite (fun _ => ?_) (fun _ => ?_)
  with_reducible refine (setChn_keeps _ _ _).then_ (by decide) (by decide) ?_
  with_reducible exact Keeps.refl _
  split
  with_reducible refine (limpSet_keeps _ _ _).then_ (by decide) (by decide) ?_
  with_reducible refine (setChn_keeps _ _ _).then_ (by decide) (by decide) ?_
  with_reducible exact Keeps.refl _
  with_reducible refine (limpSet_keeps _ _ _).then_ (by decide) (by decide) ?_
  with_reducible refine (setChn_keeps _ _ _).then_ (by decide) (by decide) ?_
  with_reducible exact Keeps.refl _
  with_reducible refine (limpSet_keeps _ _ _).then_ (by decide) (by decide) ?_
  with_reducible refine (setChn_keeps _ _ _).then_ (by decide) (by decide) ?_
  with_reducible refine (setChn_keeps _ _ _).then_ (by decide) (by decide) ?_
  with_reducible exact Keeps.refl _
  with_reducible refine Keeps.ite (fun _ => ?_) (fun _ => ?_)
  with_reducible refine (setChn_keeps _ _ _).then_ (by decide) (by decide) ?_
  with_reducible exact Keeps.refl _
  with_reducible refine (runProfile_keeps _ _ _ _).then_ (by decide) (by decide) ?_
  with_reducible refine (setChn_keeps _ _ _).then_ (by decide) (by decide) ?_
  with_reducible exact Keeps.refl _
  with_reducible refine (limpSet_keeps _ _ _).then_ (by decide) (by decide) ?_
  with_reducible refine (setChn_keeps _ _ _).then_ (by decide) (by decide) ?_
  with_reducible exact Keeps.refl _
  with_reducible refine Keeps.ite (fun _ => ?_) (fun _ => ?_)
  with_reducible refine (bridgeOff_keeps _ _).then_ (by decide) (by decide) ?_
  with_reducible refine (setChn_keeps _ _ _).then_ (by decide) (by decide) ?_
  with_reducible exact Keeps.refl _
  with_reducible refine Keeps.ite (fun _ => ?_) (fun _ => ?_)
  with_reducible refine (switchTo_keeps _ _ _).then_ (by decide) (by decide) ?_
  with_reducible refine (setChn_keeps _ _ _).then_ (by decide) (by decide) ?_
  with_reducible exact Keeps.refl _
  with_reducible refine (limpSet_keeps _ _ _).then_ (by decide) (by decide) ?_
  with_reducible refine (setChn_keeps _ _ _).then_ (by decide) (by decide) ?_
  with_reducible exact Keeps.refl _

theorem limpEntryAct_keeps (s : State) (fresh : Bool) (e : LimpEntry) :
    Keeps [Reg.PAR_EVT_CNT, Reg.ACT_CLAIM, Reg.ACT_CNT, Reg.HS_STATE, Reg.HB_STATE, Reg.SV_STATE, Reg.SV_KRES, Reg.SV_CNT2, Reg.LED_STATE, Reg.LED_CNT, Reg.FIO_CAUSE, Reg.SW_CNT_VAL, Reg.SW_MSEC_STAT, Reg.TLY_CNT0] [.records, .freeCtr, .owed, .rng, .rings, .evt, .queue, .proxies, .act, .chs, .loss, .wire, .out] s (limpEntryAct s fresh e) := by
  unfold limpEntryAct
  try dsimp only
  with_reducible refine Keeps.ite (fun _ => ?_) (fun _ => ?_)
  with_reducible exact Keeps.refl _
  with_reducible refine (limpAction_keeps _ _ _ _ _ _).then_ (by decide) (by decide) ?_
  with_reducible refine (setChn_keeps _ _ _).then_ (by decide) (by decide) ?_
  with_reducible refine Keeps.ite (fun _ => ?_) (fun _ => ?_)
  split
  with_reducible refine (endClaim_keeps _ _).then_ (by decide) (by decide) ?_
  with_reducible refine (stopTest_keeps _ _).then_ (by decide) (by decide) ?_
  with_reducible exact Keeps.refl _
  with_reducible refine (stopTest_keeps _ _).then_ (by decide) (by decide) ?_
  with_reducible exact Keeps.refl _
  with_reducible refine Keeps.ite (fun _ => ?_) (fun _ => ?_)
  with_reducible refine (bridgeRest_keeps _ _ _).then_ (by decide) (by decide) ?_
  with_reducible refine (endRun_keeps _ _ _ _).then_ (by decide) (by decide) ?_
  split
  with_reducible refine (endClaim_keeps _ _).then_ (by decide) (by decide) ?_
  with_reducible refine (stopTest_keeps _ _).then_ (by decide) (by decide) ?_
  with_reducible exact Keeps.refl _
  with_reducible refine (stopTest_keeps _ _).then_ (by decide) (by decide) ?_
  with_reducible exact Keeps.refl _
  with_reducible refine (endRun_keeps _ _ _ _).then_ (by decide) (by decide) ?_
  split
  with_reducible refine (endClaim_keeps _ _).then_ (by decide) (by decide) ?_
  with_reducible refine (stopTest_keeps _ _).then_ (by decide) (by decide) ?_
  with_reducible exact Keeps.refl _
  with_reducible refine (stopTest_keeps _ _).then_ (by decide) (by decide) ?_
  with_reducible exact Keeps.refl _

theorem orphanOff_keeps (s : State) (c : Chan) :
    Keeps [Reg.PAR_EVT_CNT, Reg.ACT_CNT, Reg.HS_STATE, Reg.HB_STATE, Reg.SV_STATE, Reg.SV_KRES, Reg.SV_CNT2, Reg.LED_STATE, Reg.FIO_CAUSE, Reg.SW_CNT_VAL, Reg.SW_MSEC_STAT, Reg.TLY_CNT0] [.records, .freeCtr, .owed, .rng, .rings, .evt, .queue, .proxies, .chs, .loss, .wire, .out] s (orphanOff s c) := by
  unfold orphanOff
  try dsimp only
  split
  with_reducible refine (bridgeRest_keeps _ _ _).then_ (by decide) (by decide) ?_
  with_reducible exact Keeps.refl _
  with_reducible refine (switchTo_keeps _ _ _).then_ (by decide) (by decide) ?_
  with_reducible refine (abortKerf_keeps _ _).then_ (by decide) (by decide) ?_
  with_reducible exact Keeps.refl _
  with_reducible refine (setChn_keeps _ _ _).then_ (by decide) (by decide) ?_
  with_reducible refine (switchTo_keeps _ _ _).then_ (by decide) (by decide) ?_
  with_reducible exact Keeps.refl _

theorem orphanLimp_keeps (s : State) (c : Chan) (first : Bool) :
    Keeps [Reg.PAR_EVT_CNT, Reg.ACT_CNT, Reg.HS_STATE, Reg.HB_STATE, Reg.SV_STATE, Reg.SV_KRES, Reg.SV_CNT2, Reg.LED_STATE, Reg.FIO_CAUSE, Reg.SW_CNT_VAL, Reg.SW_MSEC_STAT, Reg.TLY_CNT0] [.records, .freeCtr, .owed, .rng, .rings, .evt, .queue, .proxies, .chs, .loss, .wire, .out] s (orphanLimp s c first) := by
  unfold orphanLimp
  try dsimp only
  split
  with_reducible refine Keeps.ite (fun _ => ?_) (fun _ => ?_)
  with_reducible refine Keeps.ite (fun _ => ?_) (fun _ => ?_)
  with_reducible refine (orphanOff_keeps _ _).then_ (by decide) (by decide) ?_
  with_reducible exact Keeps.refl _
  with_reducible exact Keeps.refl _
  with_reducible refine (limpAction_keeps _ _ _ _ _ _).then_ (by decide) (by decide) ?_
  with_reducible exact Keeps.refl _
  with_reducible refine Keeps.ite (fun _ => ?_) (fun _ => ?_)
  with_reducible refine (orphanOff_keeps _ _).then_ (by decide) (by decide) ?_
  with_reducible exact Keeps.refl _
  with_reducible exact Keeps.refl _

theorem orphanNow_keeps (s : State) (c : Chan) (o : Nat) :
    Keeps [Reg.PAR_EVT_CNT, Reg.ACT_CNT, Reg.HS_STATE, Reg.HB_STATE, Reg.SV_STATE, Reg.SV_KRES, Reg.SV_CNT2, Reg.LED_STATE, Reg.FIO_CAUSE, Reg.SW_CNT_VAL, Reg.SW_MSEC_STAT, Reg.TLY_CNT0] [.records, .freeCtr, .owed, .rng, .rings, .evt, .queue, .proxies, .chs, .loss, .wire, .out] s (orphanNow s c o) := by
  unfold orphanNow
  try dsimp only
  with_reducible refine Keeps.ite (fun _ => ?_) (fun _ => ?_)
  with_reducible refine (setChn_keeps _ _ _).then_ (by decide) (by decide) ?_
  with_reducible refine (dropJob_keeps _ _).then_ (by decide) (by decide) ?_
  with_reducible exact Keeps.refl _
  with_reducible refine Keeps.ite (fun _ => ?_) (fun _ => ?_)
  with_reducible refine (dropJob_keeps _ _).then_ (by decide) (by decide) ?_
  with_reducible exact Keeps.refl _
  with_reducible refine Keeps.ite (fun _ => ?_) (fun _ => ?_)
  with_reducible refine (setChn_keeps _ _ _).then_ (by decide) (by decide) ?_
  with_reducible refine (dropJob_keeps _ _).then_ (by decide) (by decide) ?_
  with_reducible exact Keeps.refl _
  split
  with_reducible refine (orphanOff_keeps _ _).then_ (by decide) (by decide) ?_
  with_reducible refine (setChn_keeps _ _ _).then_ (by decide) (by decide) ?_
  with_reducible refine (dropJob_keeps _ _).then_ (by decide) (by decide) ?_
  with_reducible exact Keeps.refl _
  split
  with_reducible refine (bridgeRest_keeps _ _ _).then_ (by decide) (by decide) ?_
  with_reducible refine (setChn_keeps _ _ _).then_ (by decide) (by decide) ?_
  with_reducible refine (dropJob_keeps _ _).then_ (by decide) (by decide) ?_
  with_reducible exact Keeps.refl _
  with_reducible refine (setChn_keeps _ _ _).then_ (by decide) (by decide) ?_
  with_reducible refine (dropJob_keeps _ _).then_ (by decide) (by decide) ?_
  with_reducible exact Keeps.refl _
  split
  with_reducible refine (switchTo_keeps _ _ _).then_ (by decide) (by decide) ?_
  with_reducible refine (setChn_keeps _ _ _).then_ (by decide) (by decide) ?_
  with_reducible refine (dropJob_keeps _ _).then_ (by decide) (by decide) ?_
  with_reducible exact Keeps.refl _
  with_reducible refine (switchTo_keeps _ _ _).then_ (by decide) (by decide) ?_
  with_reducible refine (setChn_keeps _ _ _).then_ (by decide) (by decide) ?_
  with_reducible refine (dropJob_keeps _ _).then_ (by decide) (by decide) ?_
  with_reducible exact Keeps.refl _
  with_reducible refine (setChn_keeps _ _ _).then_ (by decide) (by decide) ?_
  with_reducible refine (dropJob_keeps _ _).then_ (by decide) (by decide) ?_
  with_reducible exact Keeps.refl _
  with_reducible refine (orphanLimp_keeps _ _ _).then_ (by decide) (by decide) ?_
  with_reducible refine (setChn_keeps _ _ _).then_ (by decide) (by decide) ?_
  with_reducible refine (dropJob_keeps _ _).then_ (by decide) (by decide) ?_
  with_reducible exact Keeps.refl _

theorem orphanPart_keeps (s : State) (p : Nat) :
    Keeps [Reg.PAR_EVT_CNT, Reg.ACT_CLAIM, Reg.ACT_CNT, Reg.HS_STATE, Reg.HB_STATE, Reg.SV_STATE, Reg.SV_KRES, Reg.SV_CNT2, Reg.LED_STATE, Reg.FIO_CAUSE, Reg.SW_CNT_VAL, Reg.SW_MSEC_STAT, Reg.TLY_CNT0] [.records, .freeCtr, .owed, .rng, .rings, .evt, .queue, .proxies, .act, .chs, .loss, .wire, .out] s (orphanPart s p) := by
  unfold orphanPart
  try dsimp only
  with_reducible refine Keeps.foldl (fun _ _ => ?_) _ ?_
  with_reducible refine (orphanNow_keeps _ _ _).then_ (by decide) (by decide) ?_
  with_reducible exact Keeps.refl _
  with_reducible refine (endClaimsOf_keeps _ _).then_ (by decide) (by decide) ?_
  with_reducible exact Keeps.refl _

end Sys2Proof.Machine
end

