-- ==== Sys2Proof/Laws/Act.lean ====
section
/-! SUPPORT.
What the operations of Machine/Act.lean change, and that they keep a sound state sound.
-/

namespace Sys2Proof.Machine

theorem actFail_keeps (s : State) (op : Nat) (h : DHdr) (b : List Byte) (st : Nat) :
    Keeps [Reg.ACT_CNT, Reg.SW_CNT_VAL, Reg.SW_MSEC_STAT] [.records, .owed, .rng, .rings, .proxies, .wire, .out] s (actFail s op h b st) := by
  unfold actFail
  try dsimp only
  with_reducible refine (complete_keeps _ _ _ _ _ _).then_ (by decide) (by decide) ?_
  with_reducible refine Keeps.ite (fun _ => ?_) (fun _ => ?_)
  with_reducible refine Keeps.bump (in_ACT_CNT_HELD_SAFE) (by decide) ?_
  with_reducible exact Keeps.refl _
  with_reducible refine Keeps.ite (fun _ => ?_) (fun _ => ?_)
  with_reducible refine Keeps.bump (in_ACT_CNT_HELD_LIMP) (by decide) ?_
  with_reducible exact Keeps.refl _
  with_reducible exact Keeps.refl _

theorem onChan_keeps {w : List Span} {g : List Part} {op : Nat} {h : DHdr} {b : List Byte} {s : State} {listed : List Nat} {flags : Bool} {kinds : List Nat}
    {range : State → Chan → Bool} {act : Chan → State → State} (hw : regsWithin [Reg.ACT_CNT, Reg.SW_CNT_VAL, Reg.SW_MSEC_STAT] w = true)
    (hg : within [Part.records, .owed, .rng, .rings, .proxies, .wire, .out] g = true)
    (hr : within [Part.rng] g = true) (hf : ∀ c t, Keeps w g t (act c t)) :
    KeepsR w g s (onChan op h b s listed flags kinds range act) := by
  have k : ∀ {t u : State}, Keeps [Reg.ACT_CNT, Reg.SW_CNT_VAL, Reg.SW_MSEC_STAT] [Part.records, .owed, .rng, .rings, .proxies, .wire, .out] t u → Keeps w g t u :=
    fun h => h.mono (of_regsWithin hw) (of_within hg)
  unfold onChan
  refine descr_keeps hr (fun _ => ?_)
  split
  · exact k ((actFail_keeps _ _ _ _ _).then_ (by decide) (by decide) (Keeps.refl _))
  · exact hf _ _

theorem setRetries_keeps (s : State) (c : Chan) (n : Nat) :
    Keeps [Reg.HS_STATE] [.chs] s (setRetries s c n) := by
  unfold setRetries
  try dsimp only
  with_reducible refine Keeps.ite (fun _ => ?_) (fun _ => ?_)
  with_reducible refine Keeps.wr (in_HS_STATE_RETRIES _) (by decide) ?_
  with_reducible exact Keeps.refl _
  with_reducible refine (setChn_keeps _ _ _).then_ (by decide) (by decide) ?_
  with_reducible exact Keeps.refl _

theorem setLevel_keeps (s : State) (c : Chan) (d : Drv) :
    Keeps [Reg.HS_STATE, Reg.HB_STATE, Reg.SV_STATE, Reg.LED_STATE, Reg.FIO_CAUSE] [.chs] s (setLevel s c d) := by
  unfold setLevel
  try dsimp only
  with_reducible refine Keeps.ite (fun _ => ?_) (fun _ => ?_)
  with_reducible refine (showAll_keeps _ _).then_ (by decide) (by decide) ?_
  with_reducible refine (setChn_keeps _ _ _).then_ (by decide) (by decide) ?_
  with_reducible exact Keeps.refl _
  with_reducible refine (switchTo_keeps _ _ _).then_ (by decide) (by decide) ?_
  with_reducible refine (setChn_keeps _ _ _).then_ (by decide) (by decide) ?_
  with_reducible exact Keeps.refl _

theorem setOff_keeps (s : State) (c : Chan) :
    Keeps [Reg.HS_STATE, Reg.HB_STATE, Reg.SV_STATE, Reg.LED_STATE, Reg.FIO_CAUSE] [.chs] s (setOff s c) := by
  unfold setOff
  try dsimp only
  with_reducible refine (setRetries_keeps _ _ _).then_ (by decide) (by decide) ?_
  with_reducible refine (setLevel_keeps _ _ _).then_ (by decide) (by decide) ?_
  with_reducible refine (setChn_keeps _ _ _).then_ (by decide) (by decide) ?_
  with_reducible exact Keeps.refl _

theorem setCh_keeps (s : State) (c : Chan) (on : Bool) :
    Keeps [Reg.PAR_EVT_CNT, Reg.ACT_CNT, Reg.HS_STATE, Reg.HB_STATE, Reg.SV_STATE, Reg.SV_KRES, Reg.SV_CNT2, Reg.LED_STATE, Reg.LED_CNT, Reg.FIO_CAUSE, Reg.SW_CNT_VAL, Reg.SW_MSEC_STAT, Reg.TLY_CNT0] [.records, .freeCtr, .owed, .rng, .rings, .evt, .queue, .proxies, .chs, .loss, .wire, .out] s (setCh s c on) := by
  unfold setCh
  try dsimp only
  with_reducible refine Keeps.ite (fun _ => ?_) (fun _ => ?_)
  with_reducible refine (setLevel_keeps _ _ _).then_ (by decide) (by decide) ?_
  with_reducible refine (endRun_keeps _ _ _ _).then_ (by decide) (by decide) ?_
  with_reducible refine (takeCh_keeps _ _).then_ (by decide) (by decide) ?_
  with_reducible exact Keeps.refl _
  with_reducible refine (setOff_keeps _ _).then_ (by decide) (by decide) ?_
  with_reducible refine (endRun_keeps _ _ _ _).then_ (by decide) (by decide) ?_
  with_reducible refine (takeCh_keeps _ _).then_ (by decide) (by decide) ?_
  with_reducible exact Keeps.refl _

theorem execActSet_keeps (h : DHdr) (b : List Byte) (s : State) :
    KeepsR [Reg.PAR_EVT_CNT, Reg.ACT_CNT, Reg.HS_STATE, Reg.HB_STATE, Reg.SV_STATE, Reg.SV_KRES, Reg.SV_CNT2, Reg.LED_STATE, Reg.LED_CNT, Reg.FIO_CAUSE, Reg.SW_CNT_VAL, Reg.SW_MSEC_STAT, Reg.TLY_CNT0] [.records, .freeCtr, .owed, .rng, .rings, .evt, .queue, .proxies, .chs, .loss, .wire, .out] s (execActSet h b s) := by
  unfold execActSet
  try dsimp only
  with_reducible refine onChan_keeps (by decide) (by decide) (by decide) (fun _ _ => ?_)
  with_reducible refine (actDone_keeps _ _ _ _ _ _).then_ (by decide) (by decide) ?_
  with_reducible refine (setCh_keeps _ _ _).then_ (by decide) (by decide) ?_
  with_reducible refine Keeps.ite (fun _ => ?_) (fun _ => ?_)
  with_reducible exact Keeps.refl _
  with_reducible refine (setChn_keeps _ _ _).then_ (by decide) (by decide) ?_
  with_reducible exact Keeps.refl _

theorem startJob_keeps {w : List Span} {g : List Part} {s : State} {c : Chan} {begin_ : State → State} {op : Nat} {h : DHdr} {forever : Bool} (hw : regsWithin [Reg.PAR_EVT_CNT, Reg.ACT_CNT, Reg.HB_STATE, Reg.SV_STATE, Reg.SV_KRES, Reg.SV_CNT2, Reg.LED_CNT, Reg.SW_CNT_VAL, Reg.SW_MSEC_STAT, Reg.TLY_CNT0] w = true)
    (hg : within [Part.records, .freeCtr, .owed, .rng, .rings, .evt, .queue, .proxies, .chs, .loss, .wire, .out] g = true)
    (hf : ∀ t, Keeps w g t (begin_ t)) :
    Keeps w g s (startJob s c begin_ op h forever) := by
  have k : ∀ {t u : State}, Keeps [Reg.PAR_EVT_CNT, Reg.ACT_CNT, Reg.HB_STATE, Reg.SV_STATE, Reg.SV_KRES, Reg.SV_CNT2, Reg.LED_CNT, Reg.SW_CNT_VAL, Reg.SW_MSEC_STAT, Reg.TLY_CNT0] [Part.records, .freeCtr, .owed, .rng, .rings, .evt, .queue, .proxies, .chs, .loss, .wire, .out] t u → Keeps w g t u :=
    fun h => h.mono (of_regsWithin hw) (of_within hg)
  have h1 : Keeps w g s (endRun (takeCh s c) c 4 OK) :=
    k ((endRun_keeps _ _ _ _).then_ (by decide) (by decide) ((takeCh_keeps _ _).then_ (by decide) (by decide) (Keeps.refl _)))
  unfold startJob
  dsimp only
  refine Keeps.ite (fun _ => h1.trans ?_) (fun _ => h1.trans ((hf _).trans (Keeps.ite (fun _ => ?_) (fun _ => ?_))))
  · exact k ((actDone_keeps _ _ _ _ _ _).then_ (by decide) (by decide) (Keeps.refl _))
  · exact k ((actDone_keeps _ _ _ _ _ _).then_ (by decide) (by decide) (Keeps.refl _))
  · exact k ((setChn_keeps _ _ _).then_ (by decide) (by decide) (Keeps.refl _))

theorem execActPulse_keeps (h : DHdr) (b : List Byte) (s : State) :
    KeepsR [Reg.PAR_EVT_CNT, Reg.ACT_CNT, Reg.HS_STATE, Reg.HB_STATE, Reg.SV_STATE, Reg.SV_KRES, Reg.SV_CNT2, Reg.LED_STATE, Reg.LED_CNT, Reg.FIO_CAUSE, Reg.SW_CNT_VAL, Reg.SW_MSEC_STAT, Reg.TLY_CNT0] [.records, .freeCtr, .owed, .rng, .rings, .evt, .queue, .proxies, .chs, .loss, .wire, .out] s (execActPulse h b s) := by
  unfold execActPulse
  try dsimp only
  with_reducible refine onChan_keeps (by decide) (by decide) (by decide) (fun _ _ => ?_)
  with_reducible refine Keeps.trans ?_ (startJob_keeps (by decide) (by decide) (fun _ => ?_))
  with_reducible exact Keeps.refl _
  with_reducible refine (switchTo_keeps _ _ _).then_ (by decide) (by decide) ?_
  with_reducible exact Keeps.refl _

theorem execActPwm_keeps (h : DHdr) (b : List Byte) (s : State) :
    KeepsR [Reg.PAR_EVT_CNT, Reg.ACT_CNT, Reg.HS_STATE, Reg.HB_STATE, Reg.SV_STATE, Reg.SV_KRES, Reg.SV_CNT2, Reg.LED_STATE, Reg.LED_CNT, Reg.FIO_CAUSE, Reg.SW_CNT_VAL, Reg.SW_MSEC_STAT, Reg.TLY_CNT0] [.records, .freeCtr, .owed, .rng, .rings, .evt, .queue, .proxies, .chs, .loss, .wire, .out] s (execActPwm h b s) := by
  unfold execActPwm
  try dsimp only
  with_reducible refine onChan_keeps (by decide) (by decide) (by decide) (fun _ _ => ?_)
  with_reducible refine (actDone_keeps _ _ _ _ _ _).then_ (by decide) (by decide) ?_
  with_reducible refine (setLevel_keeps _ _ _).then_ (by decide) (by decide) ?_
  with_reducible refine (endRun_keeps _ _ _ _).then_ (by decide) (by decide) ?_
  with_reducible refine (takeCh_keeps _ _).then_ (by decide) (by decide) ?_
  with_reducible exact Keeps.refl _

theorem execActProfile_keeps (h : DHdr) (b : List Byte) (s : State) :
    KeepsR [Reg.PAR_EVT_CNT, Reg.ACT_CNT, Reg.HS_STATE, Reg.HB_STATE, Reg.SV_STATE, Reg.SV_KRES, Reg.SV_CNT2, Reg.LED_STATE, Reg.LED_CNT, Reg.FIO_CAUSE, Reg.SW_CNT_VAL, Reg.SW_MSEC_STAT, Reg.TLY_CNT0] [.records, .freeCtr, .owed, .rng, .rings, .evt, .queue, .proxies, .chs, .loss, .wire, .out] s (execActProfile h b s) := by
  unfold execActProfile
  try dsimp only
  with_reducible refine onChan_keeps (by decide) (by decide) (by decide) (fun _ _ => ?_)
  with_reducible refine Keeps.trans ?_ (startJob_keeps (by decide) (by decide) (fun _ => ?_))
  with_reducible exact Keeps.refl _
  with_reducible refine (runProfile_keeps _ _ _ _).then_ (by decide) (by decide) ?_
  with_reducible exact Keeps.refl _

theorem driveStop_keeps (s : State) (m : Chan) (cause : Nat) :
    Keeps [Reg.ACT_CNT, Reg.HS_STATE, Reg.HB_STATE, Reg.SV_STATE, Reg.LED_STATE, Reg.FIO_CAUSE, Reg.SW_CNT_VAL, Reg.SW_MSEC_STAT] [.records, .owed, .rng, .rings, .proxies, .chs, .wire, .out] s (driveStop s m cause) := by
  unfold driveStop
  try dsimp only
  with_reducible refine (switchTo_keeps _ _ _).then_ (by decide) (by decide) ?_
  with_reducible refine (endDrive_keeps _ _ _ _).then_ (by decide) (by decide) ?_
  with_reducible exact Keeps.refl _

theorem startDrive_keeps (s : State) (m : Chan) (b : BridgeBody) (j : Option Job) :
    Keeps [Reg.ACT_CNT, Reg.HS_STATE, Reg.HB_STATE, Reg.SV_STATE, Reg.LED_STATE, Reg.FIO_CAUSE, Reg.SW_CNT_VAL, Reg.SW_MSEC_STAT] [.records, .owed, .rng, .rings, .proxies, .chs, .wire, .out] s (startDrive s m b j) := by
  unfold startDrive
  try dsimp only
  with_reducible refine Keeps.ite (fun _ => ?_) (fun _ => ?_)
  with_reducible refine (driveStop_keeps _ _ _).then_ (by decide) (by decide) ?_
  with_reducible refine (setChn_keeps _ _ _).then_ (by decide) (by decide) ?_
  with_reducible refine (switchTo_keeps _ _ _).then_ (by decide) (by decide) ?_
  with_reducible refine Keeps.put (in_HB_STATE_STALL _) (by decide) ?_
  with_reducible refine Keeps.wr (in_HB_STATE_END_CAUSE _) (by decide) ?_
  with_reducible exact Keeps.refl _
  with_reducible refine (setChn_keeps _ _ _).then_ (by decide) (by decide) ?_
  with_reducible refine (switchTo_keeps _ _ _).then_ (by decide) (by decide) ?_
  with_reducible refine Keeps.put (in_HB_STATE_STALL _) (by decide) ?_
  with_reducible refine Keeps.wr (in_HB_STATE_END_CAUSE _) (by decide) ?_
  with_reducible exact Keeps.refl _

theorem applyDrive_keeps (s : State) (m : Chan) (b : BridgeBody) (j : Option Job) :
    Keeps [Reg.PAR_EVT_CNT, Reg.ACT_CNT, Reg.HS_STATE, Reg.HB_STATE, Reg.SV_STATE, Reg.SV_KRES, Reg.SV_CNT2, Reg.LED_STATE, Reg.LED_CNT, Reg.FIO_CAUSE, Reg.SW_CNT_VAL, Reg.SW_MSEC_STAT, Reg.TLY_CNT0] [.records, .freeCtr, .owed, .rng, .rings, .evt, .queue, .proxies, .chs, .loss, .wire, .out] s (applyDrive s m b j) := by
  unfold applyDrive
  try dsimp only
  with_reducible refine Keeps.ite (fun _ => ?_) (fun _ => ?_)
  with_reducible refine (setChn_keeps _ _ _).then_ (by decide) (by decide) ?_
  with_reducible refine (switchTo_keeps _ _ _).then_ (by decide) (by decide) ?_
  with_reducible refine (endRun_keeps _ _ _ _).then_ (by decide) (by decide) ?_
  with_reducible refine (takeCh_keeps _ _).then_ (by decide) (by decide) ?_
  with_reducible exact Keeps.refl _
  with_reducible refine (startDrive_keeps _ _ _ _).then_ (by decide) (by decide) ?_
  with_reducible refine (endRun_keeps _ _ _ _).then_ (by decide) (by decide) ?_
  with_reducible refine (takeCh_keeps _ _).then_ (by decide) (by decide) ?_
  with_reducible exact Keeps.refl _

theorem applyStill_keeps (s : State) (m : Chan) (mode : Nat) :
    Keeps [Reg.PAR_EVT_CNT, Reg.ACT_CNT, Reg.HS_STATE, Reg.HB_STATE, Reg.SV_STATE, Reg.SV_KRES, Reg.SV_CNT2, Reg.LED_STATE, Reg.LED_CNT, Reg.FIO_CAUSE, Reg.SW_CNT_VAL, Reg.SW_MSEC_STAT, Reg.TLY_CNT0] [.records, .freeCtr, .owed, .rng, .rings, .evt, .queue, .proxies, .chs, .loss, .wire, .out] s (applyStill s m mode) := by
  unfold applyStill
  try dsimp only
  with_reducible refine Keeps.ite (fun _ => ?_) (fun _ => ?_)
  with_reducible refine (showAll_keeps _ _).then_ (by decide) (by decide) ?_
  with_reducible refine (setChn_keeps _ _ _).then_ (by decide) (by decide) ?_
  with_reducible refine (endRun_keeps _ _ _ _).then_ (by decide) (by decide) ?_
  with_reducible refine (takeCh_keeps _ _).then_ (by decide) (by decide) ?_
  with_reducible exact Keeps.refl _
  with_reducible refine Keeps.ite (fun _ => ?_) (fun _ => ?_)
  with_reducible refine (bridgeOff_keeps _ _).then_ (by decide) (by decide) ?_
  with_reducible refine (setChn_keeps _ _ _).then_ (by decide) (by decide) ?_
  with_reducible refine (endRun_keeps _ _ _ _).then_ (by decide) (by decide) ?_
  with_reducible refine (takeCh_keeps _ _).then_ (by decide) (by decide) ?_
  with_reducible exact Keeps.refl _
  with_reducible refine (switchTo_keeps _ _ _).then_ (by decide) (by decide) ?_
  with_reducible refine (setChn_keeps _ _ _).then_ (by decide) (by decide) ?_
  with_reducible refine (endRun_keeps _ _ _ _).then_ (by decide) (by decide) ?_
  with_reducible refine (takeCh_keeps _ _).then_ (by decide) (by decide) ?_
  with_reducible exact Keeps.refl _

theorem execActBridge_keeps (h : DHdr) (b : List Byte) (s : State) :
    KeepsR [Reg.PAR_EVT_CNT, Reg.ACT_CNT, Reg.HS_STATE, Reg.HB_STATE, Reg.SV_STATE, Reg.SV_KRES, Reg.SV_CNT2, Reg.LED_STATE, Reg.LED_CNT, Reg.FIO_CAUSE, Reg.SW_CNT_VAL, Reg.SW_MSEC_STAT, Reg.TLY_CNT0] [.records, .freeCtr, .owed, .rng, .rings, .evt, .queue, .proxies, .chs, .loss, .wire, .out] s (execActBridge h b s) := by
  unfold execActBridge
  try dsimp only
  with_reducible refine onChan_keeps (by decide) (by decide) (by decide) (fun _ _ => ?_)
  with_reducible refine Keeps.ite (fun _ => ?_) (fun _ => ?_)
  with_reducible refine (actDone_keeps _ _ _ _ _ _).then_ (by decide) (by decide) ?_
  with_reducible refine (applyStill_keeps _ _ _).then_ (by decide) (by decide) ?_
  with_reducible exact Keeps.refl _
  with_reducible refine Keeps.ite (fun _ => ?_) (fun _ => ?_)
  with_reducible refine (actDone_keeps _ _ _ _ _ _).then_ (by decide) (by decide) ?_
  with_reducible refine (ownerActs_keeps _ _).then_ (by decide) (by decide) ?_
  with_reducible exact Keeps.refl _
  with_reducible refine (applyDrive_keeps _ _ _ _).then_ (by decide) (by decide) ?_
  with_reducible exact Keeps.refl _

theorem execActSequence_keeps (h : DHdr) (b : List Byte) (s : State) :
    KeepsR [Reg.ACT_CNT, Reg.SW_CNT_VAL, Reg.SW_MSEC_STAT] [.records, .owed, .rng, .rings, .proxies, .act, .wire, .out] s (execActSequence h b s) := by
  unfold execActSequence
  try dsimp only
  with_reducible refine descr_keeps (by decide) (fun _ => ?_)
  split
  with_reducible refine (actFail_keeps _ _ _ _ _).then_ (by decide) (by decide) ?_
  with_reducible exact Keeps.refl _
  with_reducible refine Keeps.set_act (by decide) ?_
  with_reducible exact Keeps.refl _

theorem seqDone_keeps (s : State) (q : SeqRun) (st : Nat) :
    Keeps [Reg.ACT_CNT, Reg.SW_CNT_VAL, Reg.SW_MSEC_STAT] [.records, .owed, .rng, .rings, .proxies, .wire, .out] s (seqDone s q st) := by
  unfold seqDone
  try dsimp only
  with_reducible refine (complete_keeps _ _ _ _ _ _).then_ (by decide) (by decide) ?_
  with_reducible refine Keeps.ite (fun _ => ?_) (fun _ => ?_)
  with_reducible refine Keeps.bump (in_ACT_CNT_HELD_SAFE) (by decide) ?_
  with_reducible exact Keeps.refl _
  with_reducible refine Keeps.ite (fun _ => ?_) (fun _ => ?_)
  with_reducible refine Keeps.bump (in_ACT_CNT_HELD_LIMP) (by decide) ?_
  with_reducible exact Keeps.refl _
  with_reducible exact Keeps.refl _

theorem stepDo_keeps (s : State) (x : SeqStep) :
    Keeps [Reg.PAR_EVT_CNT, Reg.ACT_CNT, Reg.HS_STATE, Reg.HB_STATE, Reg.SV_STATE, Reg.SV_KRES, Reg.SV_CNT2, Reg.LED_STATE, Reg.LED_CNT, Reg.FIO_CAUSE, Reg.SW_CNT_VAL, Reg.SW_MSEC_STAT, Reg.TLY_CNT0] [.records, .freeCtr, .owed, .rng, .rings, .evt, .queue, .proxies, .chs, .loss, .wire, .out] s (stepDo s x) := by
  unfold stepDo
  try dsimp only
  split
  with_reducible refine Keeps.ite (fun _ => ?_) (fun _ => ?_)
  with_reducible refine (applyStill_keeps _ _ _).then_ (by decide) (by decide) ?_
  with_reducible exact Keeps.refl _
  with_reducible refine (setCh_keeps _ _ _).then_ (by decide) (by decide) ?_
  with_reducible exact Keeps.refl _
  with_reducible refine (setCh_keeps _ _ _).then_ (by decide) (by decide) ?_
  with_reducible exact Keeps.refl _
  with_reducible refine (applyStill_keeps _ _ _).then_ (by decide) (by decide) ?_
  with_reducible exact Keeps.refl _
  with_reducible refine Keeps.ite (fun _ => ?_) (fun _ => ?_)
  with_reducible refine (takeCh_keeps _ _).then_ (by decide) (by decide) ?_
  with_reducible exact Keeps.refl _
  with_reducible refine (applyDrive_keeps _ _ _ _).then_ (by decide) (by decide) ?_
  with_reducible exact Keeps.refl _

theorem execSequenceStep_keeps (n : Nat) (s : State) :
    KeepsR [Reg.PAR_EVT_CNT, Reg.ACT_CNT, Reg.HS_STATE, Reg.HB_STATE, Reg.SV_STATE, Reg.SV_KRES, Reg.SV_CNT2, Reg.LED_STATE, Reg.LED_CNT, Reg.FIO_CAUSE, Reg.SW_CNT_VAL, Reg.SW_MSEC_STAT, Reg.TLY_CNT0] [.records, .freeCtr, .owed, .rng, .rings, .evt, .queue, .proxies, .act, .chs, .loss, .wire, .out] s (execSequenceStep n s) := by
  unfold execSequenceStep
  try dsimp only
  with_reducible refine KeepsR.whileCd ?_
  split
  with_reducible exact Keeps.refl _
  split
  with_reducible exact Keeps.refl _
  split
  with_reducible refine (seqDone_keeps _ _ _).then_ (by decide) (by decide) ?_
  with_reducible refine Keeps.set_act (by decide) ?_
  with_reducible exact Keeps.refl _
  with_reducible refine Keeps.ite (fun _ => ?_) (fun _ => ?_)
  with_reducible refine (seqDone_keeps _ _ _).then_ (by decide) (by decide) ?_
  with_reducible refine (stepDo_keeps _ _).then_ (by decide) (by decide) ?_
  with_reducible refine Keeps.set_act (by decide) ?_
  with_reducible exact Keeps.refl _
  with_reducible refine (stepDo_keeps _ _).then_ (by decide) (by decide) ?_
  with_reducible refine Keeps.set_act (by decide) ?_
  with_reducible exact Keeps.refl _

theorem showFio_keeps (s : State) :
    Keeps [Reg.FIO_STATUS, Reg.FIO_CNT] [.chs] s (showFio s) := by
  unfold showFio
  try dsimp only
  with_reducible refine Keeps.ite (fun _ => ?_) (fun _ => ?_)
  with_reducible refine Keeps.bump (in_FIO_CNT_FAULT_EDGES) (by decide) ?_
  with_reducible refine Keeps.wr (in_FIO_STATUS_FCHAN) (by decide) ?_
  with_reducible refine Keeps.put (in_FIO_STATUS_FAULT) (by decide) ?_
  with_reducible refine Keeps.foldl (fun _ _ => ?_) _ ?_
  with_reducible refine (setChn_keeps _ _ _).then_ (by decide) (by decide) ?_
  with_reducible exact Keeps.refl _
  with_reducible exact Keeps.refl _
  with_reducible refine Keeps.wr (in_FIO_STATUS_FCHAN) (by decide) ?_
  with_reducible refine Keeps.put (in_FIO_STATUS_FAULT) (by decide) ?_
  with_reducible refine Keeps.foldl (fun _ _ => ?_) _ ?_
  with_reducible refine (setChn_keeps _ _ _).then_ (by decide) (by decide) ?_
  with_reducible exact Keeps.refl _
  with_reducible exact Keeps.refl _

theorem clearTrip_keeps (s : State) (c : Chan) :
    Keeps [Reg.every] [] s (clearTrip s c) := by
  unfold clearTrip
  try dsimp only
  with_reducible refine Keeps.putEvery (by decide) ?_
  split
  with_reducible refine Keeps.putEvery (by decide) ?_
  with_reducible exact Keeps.refl _
  with_reducible exact Keeps.refl _

theorem restartCh_keeps (s : State) (l : List Chan) :
    Keeps [Reg.every] [.chs] s (restartCh s l) := by
  unfold restartCh
  try dsimp only
  split
  with_reducible refine Keeps.foldl (fun _ _ => ?_) _ ?_
  with_reducible refine (setChn_keeps _ _ _).then_ (by decide) (by decide) ?_
  with_reducible refine (clearTrip_keeps _ _).then_ (by decide) (by decide) ?_
  with_reducible exact Keeps.refl _
  with_reducible exact Keeps.refl _
  with_reducible refine Keeps.ite (fun _ => ?_) (fun _ => ?_)
  with_reducible refine (showAll_keeps _ _).then_ (by decide) (by decide) ?_
  with_reducible refine Keeps.foldl (fun _ _ => ?_) _ ?_
  with_reducible refine (setChn_keeps _ _ _).then_ (by decide) (by decide) ?_
  with_reducible refine (clearTrip_keeps _ _).then_ (by decide) (by decide) ?_
  with_reducible exact Keeps.refl _
  with_reducible exact Keeps.refl _
  with_reducible refine Keeps.foldl (fun _ _ => ?_) _ ?_
  with_reducible refine (showCh_keeps _ _).then_ (by decide) (by decide) ?_
  with_reducible exact Keeps.refl _
  with_reducible refine (showFio_keeps _).then_ (by decide) (by decide) ?_
  with_reducible refine Keeps.ite (fun _ => ?_) (fun _ => ?_)
  with_reducible refine (showAll_keeps _ _).then_ (by decide) (by decide) ?_
  with_reducible refine Keeps.foldl (fun _ _ => ?_) _ ?_
  with_reducible refine (openInrush_keeps _ _ _).then_ (by decide) (by decide) ?_
  with_reducible exact Keeps.refl _
  with_reducible refine Keeps.foldl (fun _ _ => ?_) _ ?_
  with_reducible refine (setChn_keeps _ _ _).then_ (by decide) (by decide) ?_
  with_reducible refine (clearTrip_keeps _ _).then_ (by decide) (by decide) ?_
  with_reducible exact Keeps.refl _
  with_reducible exact Keeps.refl _
  with_reducible refine (switchTo_keeps _ _ _).then_ (by decide) (by decide) ?_
  with_reducible refine Keeps.foldl (fun _ _ => ?_) _ ?_
  with_reducible refine (openInrush_keeps _ _ _).then_ (by decide) (by decide) ?_
  with_reducible exact Keeps.refl _
  with_reducible refine Keeps.foldl (fun _ _ => ?_) _ ?_
  with_reducible refine (setChn_keeps _ _ _).then_ (by decide) (by decide) ?_
  with_reducible refine (clearTrip_keeps _ _).then_ (by decide) (by decide) ?_
  with_reducible exact Keeps.refl _
  with_reducible exact Keeps.refl _

theorem execActRestart_keeps (h : DHdr) (b : List Byte) (s : State) :
    KeepsR [Reg.every] [.records, .owed, .rng, .rings, .proxies, .chs, .wire, .out] s (execActRestart h b s) := by
  unfold execActRestart
  try dsimp only
  with_reducible refine onChan_keeps (by decide) (by decide) (by decide) (fun _ _ => ?_)
  with_reducible refine Keeps.ite (fun _ => ?_) (fun _ => ?_)
  with_reducible refine (actDone_keeps _ _ _ _ _ _).then_ (by decide) (by decide) ?_
  with_reducible refine (ownerActs_keeps _ _).then_ (by decide) (by decide) ?_
  with_reducible exact Keeps.refl _
  with_reducible refine Keeps.ite (fun _ => ?_) (fun _ => ?_)
  with_reducible refine (actFail_keeps _ _ _ _ _).then_ (by decide) (by decide) ?_
  with_reducible exact Keeps.refl _
  with_reducible refine (actDone_keeps _ _ _ _ _ _).then_ (by decide) (by decide) ?_
  with_reducible refine (restartCh_keeps _ _).then_ (by decide) (by decide) ?_
  with_reducible refine (takeCh_keeps _ _).then_ (by decide) (by decide) ?_
  with_reducible exact Keeps.refl _

theorem execActStatus_keeps (h : DHdr) (b : List Byte) (s : State) :
    KeepsR [Reg.ACT_CNT, Reg.SW_CNT_VAL, Reg.SW_MSEC_STAT] [.records, .owed, .rng, .rings, .proxies, .chs, .wire, .out] s (execActStatus h b s) := by
  unfold execActStatus
  try dsimp only
  with_reducible refine onChan_keeps (by decide) (by decide) (by decide) (fun _ _ => ?_)
  with_reducible refine (actDone_keeps _ _ _ _ _ _).then_ (by decide) (by decide) ?_
  with_reducible refine (ownerActs_keeps _ _).then_ (by decide) (by decide) ?_
  with_reducible exact Keeps.refl _

theorem execActGrant_keeps (h : DHdr) (b : List Byte) (s : State) :
    KeepsR [Reg.ACT_CLAIM, Reg.ACT_CNT, Reg.HS_STATE, Reg.HB_STATE, Reg.SV_STATE, Reg.LED_STATE, Reg.FIO_CAUSE, Reg.SW_CNT_VAL, Reg.SW_MSEC_STAT] [.records, .owed, .rng, .rings, .proxies, .act, .chs, .wire, .out] s (execActGrant h b s) := by
  unfold execActGrant
  try dsimp only
  with_reducible refine descr_keeps (by decide) (fun _ => ?_)
  split
  with_reducible refine Keeps.ite (fun _ => ?_) (fun _ => ?_)
  with_reducible refine (actDone_keeps _ _ _ _ _ _).then_ (by decide) (by decide) ?_
  with_reducible refine Keeps.foldl (fun _ _ => ?_) _ ?_
  with_reducible refine (endClaim_keeps _ _).then_ (by decide) (by decide) ?_
  with_reducible exact Keeps.refl _
  with_reducible refine Keeps.set_act (by decide) ?_
  with_reducible exact Keeps.refl _
  with_reducible refine (actFail_keeps _ _ _ _ _).then_ (by decide) (by decide) ?_
  with_reducible exact Keeps.refl _
  with_reducible refine (actDone_keeps _ _ _ _ _ _).then_ (by decide) (by decide) ?_
  with_reducible refine Keeps.set_act (by decide) ?_
  with_reducible refine (ownerActs_keeps _ _).then_ (by decide) (by decide) ?_
  with_reducible exact Keeps.refl _

theorem execActClaim_keeps (h : DHdr) (b : List Byte) (s : State) :
    KeepsR [Reg.ACT_CLAIM, Reg.ACT_CNT, Reg.ACT_CNT2, Reg.HS_STATE, Reg.HB_STATE, Reg.SV_STATE, Reg.LED_STATE, Reg.LED_CNT, Reg.FIO_CAUSE, Reg.SW_CNT_VAL, Reg.SW_MSEC_STAT] [.records, .owed, .rng, .rings, .proxies, .act, .chs, .wire, .out] s (execActClaim h b s) := by
  unfold execActClaim
  try dsimp only
  with_reducible refine descr_keeps (by decide) (fun _ => ?_)
  with_reducible refine Keeps.ite (fun _ => ?_) (fun _ => ?_)
  with_reducible refine (actFail_keeps _ _ _ _ _).then_ (by decide) (by decide) ?_
  with_reducible exact Keeps.refl _
  with_reducible refine Keeps.ite (fun _ => ?_) (fun _ => ?_)
  with_reducible refine (actFail_keeps _ _ _ _ _).then_ (by decide) (by decide) ?_
  with_reducible exact Keeps.refl _
  with_reducible refine Keeps.ite (fun _ => ?_) (fun _ => ?_)
  split
  with_reducible refine (actFail_keeps _ _ _ _ _).then_ (by decide) (by decide) ?_
  with_reducible exact Keeps.refl _
  split
  with_reducible refine (actDone_keeps _ _ _ _ _ _).then_ (by decide) (by decide) ?_
  with_reducible refine (endClaim_keeps _ _).then_ (by decide) (by decide) ?_
  with_reducible exact Keeps.refl _
  with_reducible refine (actDone_keeps _ _ _ _ _ _).then_ (by decide) (by decide) ?_
  with_reducible exact Keeps.refl _
  split
  with_reducible refine (actFail_keeps _ _ _ _ _).then_ (by decide) (by decide) ?_
  with_reducible refine Keeps.bump (in_ACT_CNT2_CLAIM_REFUSED) (by decide) ?_
  with_reducible exact Keeps.refl _
  with_reducible refine (actDone_keeps _ _ _ _ _ _).then_ (by decide) (by decide) ?_
  with_reducible refine Keeps.put (in_ACT_CLAIM_VALID _) (by decide) ?_
  with_reducible refine Keeps.wr (in_ACT_CLAIM_CLAIMANT _) (by decide) ?_
  with_reducible refine Keeps.wr (in_ACT_CLAIM_FOLLOWER _) (by decide) ?_
  with_reducible refine Keeps.wr (in_ACT_CLAIM_LEAD _) (by decide) ?_
  with_reducible refine (takeCh_keeps _ _).then_ (by decide) (by decide) ?_
  with_reducible refine Keeps.set_act (by decide) ?_
  with_reducible exact Keeps.refl _

theorem holdEnded_keeps (s : State) (c : Chan) :
    Keeps [Reg.PAR_EVT_CNT, Reg.ACT_CNT, Reg.HS_STATE, Reg.HB_STATE, Reg.SV_STATE, Reg.SV_KRES, Reg.SV_CNT2, Reg.LED_STATE, Reg.FIO_CAUSE, Reg.SW_CNT_VAL, Reg.SW_MSEC_STAT, Reg.TLY_CNT0] [.records, .freeCtr, .owed, .rng, .rings, .evt, .queue, .proxies, .chs, .loss, .wire, .out] s (holdEnded s c) := by
  unfold holdEnded
  try dsimp only
  with_reducible refine Keeps.ite (fun _ => ?_) (fun _ => ?_)
  with_reducible refine (limpDriveStart_keeps _ _ _ _).then_ (by decide) (by decide) ?_
  with_reducible refine (setChn_keeps _ _ _).then_ (by decide) (by decide) ?_
  with_reducible exact Keeps.refl _
  with_reducible refine Keeps.ite (fun _ => ?_) (fun _ => ?_)
  with_reducible refine (orphanNow_keeps _ _ _).then_ (by decide) (by decide) ?_
  with_reducible exact Keeps.refl _
  with_reducible refine (setChn_keeps _ _ _).then_ (by decide) (by decide) ?_
  with_reducible exact Keeps.refl _

theorem execSafeAction_keeps (h : DHdr) (b : List Byte) (s : State) :
    KeepsR [Reg.ACT_CNT, Reg.SW_CNT_VAL, Reg.SW_MSEC_STAT] [.records, .owed, .rng, .rings, .proxies, .act, .wire, .out] s (execSafeAction h b s) := by
  unfold execSafeAction
  try dsimp only
  with_reducible refine descr_keeps (by decide) (fun _ => ?_)
  split
  with_reducible refine (actFail_keeps _ _ _ _ _).then_ (by decide) (by decide) ?_
  with_reducible exact Keeps.refl _
  with_reducible refine Keeps.set_act (by decide) ?_
  with_reducible exact Keeps.refl _

theorem laneOff_keeps (s : State) (c : Chan) (brake : Bool) :
    Keeps [Reg.PAR_EVT_CNT, Reg.ACT_SAFE_STATUS, Reg.ACT_CNT, Reg.HS_STATE, Reg.HB_STATE, Reg.SV_STATE, Reg.SV_KRES, Reg.SV_CNT2, Reg.LED_STATE, Reg.LED_CNT, Reg.FIO_CAUSE, Reg.SW_CNT_VAL, Reg.SW_MSEC_STAT, Reg.TLY_CNT0] [.records, .freeCtr, .owed, .rng, .rings, .evt, .queue, .proxies, .chs, .loss, .wire, .out] s (laneOff s c brake) := by
  unfold laneOff
  try dsimp only
  with_reducible refine Keeps.ite (fun _ => ?_) (fun _ => ?_)
  with_reducible refine Keeps.ite (fun _ => ?_) (fun _ => ?_)
  with_reducible refine Keeps.ite (fun _ => ?_) (fun _ => ?_)
  with_reducible refine (setSafe_keeps _ _ _).then_ (by decide) (by decide) ?_
  with_reducible refine (setChn_keeps _ _ _).then_ (by decide) (by decide) ?_
  with_reducible refine Keeps.ite (fun _ => ?_) (fun _ => ?_)
  with_reducible refine (setRev_keeps _ _ _).then_ (by decide) (by decide) ?_
  with_reducible refine (endRun_keeps _ _ _ _).then_ (by decide) (by decide) ?_
  with_reducible refine (stopTest_keeps _ _).then_ (by decide) (by decide) ?_
  with_reducible exact Keeps.refl _
  with_reducible refine (endRun_keeps _ _ _ _).then_ (by decide) (by decide) ?_
  with_reducible refine (stopTest_keeps _ _).then_ (by decide) (by decide) ?_
  with_reducible exact Keeps.refl _
  with_reducible refine (switchTo_keeps _ _ _).then_ (by decide) (by decide) ?_
  with_reducible refine (setSafe_keeps _ _ _).then_ (by decide) (by decide) ?_
  with_reducible refine (setChn_keeps _ _ _).then_ (by decide) (by decide) ?_
  with_reducible refine Keeps.ite (fun _ => ?_) (fun _ => ?_)
  with_reducible refine (setRev_keeps _ _ _).then_ (by decide) (by decide) ?_
  with_reducible refine (endRun_keeps _ _ _ _).then_ (by decide) (by decide) ?_
  with_reducible refine (stopTest_keeps _ _).then_ (by decide) (by decide) ?_
  with_reducible exact Keeps.refl _
  with_reducible refine (endRun_keeps _ _ _ _).then_ (by decide) (by decide) ?_
  with_reducible refine (stopTest_keeps _ _).then_ (by decide) (by decide) ?_
  with_reducible exact Keeps.refl _
  with_reducible refine (bridgeOff_keeps _ _).then_ (by decide) (by decide) ?_
  with_reducible refine (setSafe_keeps _ _ _).then_ (by decide) (by decide) ?_
  with_reducible refine (setChn_keeps _ _ _).then_ (by decide) (by decide) ?_
  with_reducible refine Keeps.ite (fun _ => ?_) (fun _ => ?_)
  with_reducible refine (setRev_keeps _ _ _).then_ (by decide) (by decide) ?_
  with_reducible refine (endRun_keeps _ _ _ _).then_ (by decide) (by decide) ?_
  with_reducible refine (stopTest_keeps _ _).then_ (by decide) (by decide) ?_
  with_reducible exact Keeps.refl _
  with_reducible refine (endRun_keeps _ _ _ _).then_ (by decide) (by decide) ?_
  with_reducible refine (stopTest_keeps _ _).then_ (by decide) (by decide) ?_
  with_reducible exact Keeps.refl _
  with_reducible refine (fallFast_keeps _ _).then_ (by decide) (by decide) ?_
  with_reducible refine (switchTo_keeps _ _ _).then_ (by decide) (by decide) ?_
  with_reducible refine (setSafe_keeps _ _ _).then_ (by decide) (by decide) ?_
  with_reducible refine (setChn_keeps _ _ _).then_ (by decide) (by decide) ?_
  with_reducible refine Keeps.ite (fun _ => ?_) (fun _ => ?_)
  with_reducible refine (setRev_keeps _ _ _).then_ (by decide) (by decide) ?_
  with_reducible refine (endRun_keeps _ _ _ _).then_ (by decide) (by decide) ?_
  with_reducible refine (stopTest_keeps _ _).then_ (by decide) (by decide) ?_
  with_reducible exact Keeps.refl _
  with_reducible refine (endRun_keeps _ _ _ _).then_ (by decide) (by decide) ?_
  with_reducible refine (stopTest_keeps _ _).then_ (by decide) (by decide) ?_
  with_reducible exact Keeps.refl _

theorem reversalReport_keeps (s : State) (m : LaneMsg) (c : Chan) :
    Keeps [Reg.PAR_EVT_CNT, Reg.HB_CNT2, Reg.SW_CNT_VAL, Reg.SW_MSEC_STAT, Reg.TLY_CNT0] [.records, .owed, .rings, .evt, .queue, .proxies, .loss, .wire, .out] s (reversalReport s m c) := by
  unfold reversalReport
  try dsimp only
  with_reducible refine (tally_keeps _ _ _).then_ (by decide) (by decide) ?_
  with_reducible refine (raise_keeps _ _ _ _ _).then_ (by decide) (by decide) ?_
  with_reducible refine Keeps.bump (in_HB_CNT2_REVERSALS) (by decide) ?_
  with_reducible exact Keeps.refl _

theorem laneReverse_keeps (s : State) (m : LaneMsg) (c : Chan) :
    Keeps [Reg.PAR_EVT_CNT, Reg.ACT_SAFE_STATUS, Reg.ACT_CNT, Reg.HS_STATE, Reg.HB_STATE, Reg.HB_CNT2, Reg.SV_STATE, Reg.LED_STATE, Reg.FIO_CAUSE, Reg.SW_CNT_VAL, Reg.SW_MSEC_STAT, Reg.TLY_CNT0] [.records, .owed, .rng, .rings, .evt, .queue, .proxies, .chs, .loss, .wire, .out] s (laneReverse s m c) := by
  unfold laneReverse
  try dsimp only
  with_reducible refine Keeps.ite (fun _ => ?_) (fun _ => ?_)
  with_reducible exact Keeps.refl _
  with_reducible refine (reversalReport_keeps _ _ _).then_ (by decide) (by decide) ?_
  with_reducible refine (setChn_keeps _ _ _).then_ (by decide) (by decide) ?_
  with_reducible refine (setRev_keeps _ _ _).then_ (by decide) (by decide) ?_
  with_reducible refine (endJob_keeps _ _ _).then_ (by decide) (by decide) ?_
  with_reducible refine (endWait_keeps _ _ _).then_ (by decide) (by decide) ?_
  with_reducible refine Keeps.ite (fun _ => ?_) (fun _ => ?_)
  with_reducible refine Keeps.wr (in_HB_STATE_END_CAUSE _) (by decide) ?_
  with_reducible refine (switchTo_keeps _ _ _).then_ (by decide) (by decide) ?_
  with_reducible refine (setSafe_keeps _ _ _).then_ (by decide) (by decide) ?_
  with_reducible exact Keeps.refl _
  with_reducible refine (switchTo_keeps _ _ _).then_ (by decide) (by decide) ?_
  with_reducible refine (setSafe_keeps _ _ _).then_ (by decide) (by decide) ?_
  with_reducible exact Keeps.refl _

theorem laneRelease_keeps (s : State) (c : Chan) :
    Keeps [Reg.PAR_EVT_CNT, Reg.ACT_SAFE_STATUS, Reg.ACT_CNT, Reg.HS_STATE, Reg.HB_STATE, Reg.SV_STATE, Reg.SV_KRES, Reg.SV_CNT2, Reg.LED_STATE, Reg.FIO_CAUSE, Reg.SW_CNT_VAL, Reg.SW_MSEC_STAT, Reg.TLY_CNT0] [.records, .freeCtr, .owed, .rng, .rings, .evt, .queue, .proxies, .chs, .loss, .wire, .out] s (laneRelease s c) := by
  unfold laneRelease
  try dsimp only
  with_reducible refine Keeps.ite (fun _ => ?_) (fun _ => ?_)
  with_reducible refine (holdEnded_keeps _ _).then_ (by decide) (by decide) ?_
  with_reducible refine (setSafe_keeps _ _ _).then_ (by decide) (by decide) ?_
  with_reducible exact Keeps.refl _
  with_reducible exact Keeps.refl _

theorem laneAct_keeps (s : State) (m : LaneMsg) :
    Keeps [Reg.PAR_EVT_CNT, Reg.ACT_SAFE_STATUS, Reg.ACT_CLAIM, Reg.ACT_CNT, Reg.HS_STATE, Reg.HB_STATE, Reg.HB_CNT2, Reg.SV_STATE, Reg.SV_KRES, Reg.SV_CNT2, Reg.LED_STATE, Reg.LED_CNT, Reg.FIO_CAUSE, Reg.SW_CNT_VAL, Reg.SW_MSEC_STAT, Reg.TLY_CNT0] [.records, .freeCtr, .owed, .rng, .rings, .evt, .queue, .proxies, .act, .chs, .loss, .wire, .out] s (laneAct s m) := by
  unfold laneAct
  try dsimp only
  with_reducible refine Keeps.ite (fun _ => ?_) (fun _ => ?_)
  with_reducible exact Keeps.refl _
  split
  with_reducible refine (laneOff_keeps _ _ _).then_ (by decide) (by decide) ?_
  split
  with_reducible refine Keeps.ite (fun _ => ?_) (fun _ => ?_)
  with_reducible exact Keeps.refl _
  with_reducible refine (endClaim_keeps _ _).then_ (by decide) (by decide) ?_
  with_reducible exact Keeps.refl _
  with_reducible exact Keeps.refl _
  with_reducible refine (laneOff_keeps _ _ _).then_ (by decide) (by decide) ?_
  split
  with_reducible refine Keeps.ite (fun _ => ?_) (fun _ => ?_)
  with_reducible exact Keeps.refl _
  with_reducible refine (endClaim_keeps _ _).then_ (by decide) (by decide) ?_
  with_reducible exact Keeps.refl _
  with_reducible exact Keeps.refl _
  with_reducible refine (laneReverse_keeps _ _ _).then_ (by decide) (by decide) ?_
  split
  with_reducible refine Keeps.ite (fun _ => ?_) (fun _ => ?_)
  with_reducible exact Keeps.refl _
  with_reducible refine (endClaim_keeps _ _).then_ (by decide) (by decide) ?_
  with_reducible exact Keeps.refl _
  with_reducible exact Keeps.refl _
  with_reducible refine (laneRelease_keeps _ _).then_ (by decide) (by decide) ?_
  split
  with_reducible refine Keeps.ite (fun _ => ?_) (fun _ => ?_)
  with_reducible exact Keeps.refl _
  with_reducible refine (endClaim_keeps _ _).then_ (by decide) (by decide) ?_
  with_reducible exact Keeps.refl _
  with_reducible exact Keeps.refl _

theorem execSafetyLaneMsg_keeps (s : State) :
    KeepsR [Reg.PAR_EVT_CNT, Reg.ACT_SAFE_STATUS, Reg.ACT_CLAIM, Reg.ACT_CNT, Reg.HS_STATE, Reg.HB_STATE, Reg.HB_CNT2, Reg.SV_STATE, Reg.SV_KRES, Reg.SV_CNT2, Reg.LED_STATE, Reg.LED_CNT, Reg.FIO_CAUSE, Reg.SW_CNT_VAL, Reg.SW_MSEC_STAT, Reg.TLY_CNT0] [.records, .freeCtr, .owed, .rng, .rings, .evt, .queue, .proxies, .act, .chs, .loss, .wire, .out] s (execSafetyLaneMsg s) := by
  unfold execSafetyLaneMsg
  try dsimp only
  with_reducible refine KeepsR.whileCd ?_
  split
  with_reducible exact Keeps.refl _
  split
  with_reducible refine (actDone_keeps _ _ _ _ _ _).then_ (by decide) (by decide) ?_
  with_reducible refine (laneAct_keeps _ _).then_ (by decide) (by decide) ?_
  with_reducible refine Keeps.bump (in_ACT_SAFE_STATUS_SL_COUNT) (by decide) ?_
  with_reducible refine Keeps.set_act (by decide) ?_
  with_reducible exact Keeps.refl _
  with_reducible refine (laneAct_keeps _ _).then_ (by decide) (by decide) ?_
  with_reducible refine Keeps.bump (in_ACT_SAFE_STATUS_SL_COUNT) (by decide) ?_
  with_reducible refine Keeps.set_act (by decide) ?_
  with_reducible exact Keeps.refl _

theorem execPulseTrainEnd_keeps (c : Chan) (s : State) :
    KeepsR [Reg.ACT_CNT, Reg.HS_STATE, Reg.HB_STATE, Reg.SV_STATE, Reg.LED_STATE, Reg.FIO_CAUSE, Reg.SW_CNT_VAL, Reg.SW_MSEC_STAT] [.records, .owed, .rng, .rings, .proxies, .chs, .wire, .out] s (execPulseTrainEnd c s) := by
  unfold execPulseTrainEnd
  try dsimp only
  with_reducible refine KeepsR.next ?_
  split
  with_reducible refine Keeps.ite (fun _ => ?_) (fun _ => ?_)
  with_reducible refine (endJob_keeps _ _ _).then_ (by decide) (by decide) ?_
  with_reducible refine (switchTo_keeps _ _ _).then_ (by decide) (by decide) ?_
  with_reducible exact Keeps.refl _
  with_reducible exact Keeps.refl _
  with_reducible exact Keeps.refl _

theorem enterSeg_keeps (s : State) (c : Chan) (p : Nat) (g : Nat) :
    Keeps [Reg.HS_STATE, Reg.SV_STATE] [.chs] s (enterSeg s c p g) := by
  unfold enterSeg
  try dsimp only
  with_reducible refine (setChn_keeps _ _ _).then_ (by decide) (by decide) ?_
  with_reducible refine (startSeg_keeps _ _ _ _).then_ (by decide) (by decide) ?_
  with_reducible refine Keeps.ite (fun _ => ?_) (fun _ => ?_)
  with_reducible refine (setChn_keeps _ _ _).then_ (by decide) (by decide) ?_
  with_reducible exact Keeps.refl _
  with_reducible refine (setChn_keeps _ _ _).then_ (by decide) (by decide) ?_
  with_reducible refine (openInrush_keeps _ _ _).then_ (by decide) (by decide) ?_
  with_reducible exact Keeps.refl _

theorem profileDone_keeps (s : State) (c : Chan) (p : Nat) (g : Nat) :
    Keeps [Reg.ACT_CNT, Reg.HS_STATE, Reg.HB_STATE, Reg.SV_STATE, Reg.LED_STATE, Reg.FIO_CAUSE, Reg.SW_CNT_VAL, Reg.SW_MSEC_STAT] [.records, .owed, .rng, .rings, .proxies, .chs, .wire, .out] s (profileDone s c p g) := by
  unfold profileDone
  try dsimp only
  with_reducible refine (endJob_keeps _ _ _).then_ (by decide) (by decide) ?_
  with_reducible refine (switchTo_keeps _ _ _).then_ (by decide) (by decide) ?_
  with_reducible exact Keeps.refl _

theorem execProfileSegmentEnd_keeps (c : Chan) (s : State) :
    KeepsR [Reg.ACT_CNT, Reg.HS_STATE, Reg.HB_STATE, Reg.SV_STATE, Reg.LED_STATE, Reg.FIO_CAUSE, Reg.SW_CNT_VAL, Reg.SW_MSEC_STAT] [.records, .owed, .rng, .rings, .proxies, .chs, .wire, .out] s (execProfileSegmentEnd c s) := by
  unfold execProfileSegmentEnd
  try dsimp only
  with_reducible refine KeepsR.next ?_
  split
  split
  with_reducible refine (enterSeg_keeps _ _ _ _).then_ (by decide) (by decide) ?_
  with_reducible exact Keeps.refl _
  with_reducible refine Keeps.ite (fun _ => ?_) (fun _ => ?_)
  with_reducible refine (enterSeg_keeps _ _ _ _).then_ (by decide) (by decide) ?_
  with_reducible refine (setChn_keeps _ _ _).then_ (by decide) (by decide) ?_
  with_reducible exact Keeps.refl _
  with_reducible refine (profileDone_keeps _ _ _ _).then_ (by decide) (by decide) ?_
  with_reducible exact Keeps.refl _
  with_reducible exact Keeps.refl _

end Sys2Proof.Machine
end

