-- ==== Sys2Proof/Laws/Buses.lean ====
section
/-! SUPPORT.
What the operations of Machine/Buses.lean change, and that they keep a sound state sound.
-/

namespace Sys2Proof.Machine

theorem setCan_keeps (s : State) (k : Nat) (b : CanBus) :
    Keeps [] [.sub] s (setCan s k b) := by
  unfold setCan
  try dsimp only
  with_reducible refine Keeps.set_sub (by decide) ?_
  with_reducible exact Keeps.refl _

theorem setLin_keeps (s : State) (l : Nat) (b : LinBus) :
    Keeps [] [.sub] s (setLin s l b) := by
  unfold setLin
  try dsimp only
  with_reducible refine Keeps.set_sub (by decide) ?_
  with_reducible exact Keeps.refl _

theorem showCan_keeps (s : State) (k : Nat) :
    Keeps [Reg.SUB_CAN_STAT] [.sub] s (showCan s k) := by
  unfold showCan
  try dsimp only
  with_reducible refine Keeps.wr (in_SUB_CAN_STAT_STATE _) (by decide) ?_
  with_reducible refine Keeps.ite (fun _ => ?_) (fun _ => ?_)
  with_reducible exact Keeps.refl _
  with_reducible refine Keeps.wr (in_SUB_CAN_STAT_REC _) (by decide) ?_
  with_reducible refine Keeps.wr (in_SUB_CAN_STAT_TEC _) (by decide) ?_
  with_reducible refine (setCan_keeps _ _ _).then_ (by decide) (by decide) ?_
  with_reducible exact Keeps.refl _

theorem showLin_keeps (s : State) (l : Nat) :
    Keeps [Reg.SUB_LIN_STAT] [] s (showLin s l) := by
  unfold showLin
  try dsimp only
  with_reducible refine Keeps.wr (in_SUB_LIN_STAT_STATE _) (by decide) ?_
  with_reducible exact Keeps.refl _

theorem showBuses_keeps (s : State) :
    Keeps [Reg.SUB_CAN_STAT, Reg.SUB_LIN_STAT] [.sub] s (showBuses s) := by
  unfold showBuses
  try dsimp only
  with_reducible refine Keeps.foldl (fun _ _ => ?_) _ ?_
  with_reducible refine (showLin_keeps _ _).then_ (by decide) (by decide) ?_
  with_reducible exact Keeps.refl _
  with_reducible refine Keeps.foldl (fun _ _ => ?_) _ ?_
  with_reducible refine (showCan_keeps _ _).then_ (by decide) (by decide) ?_
  with_reducible exact Keeps.refl _
  with_reducible exact Keeps.refl _

theorem showTiming_keeps (s : State) (k : Nat) :
    Keeps [Reg.SUB_CAN_CFG, Reg.SUB_CAN_STAT] [.sub] s (showTiming s k) := by
  unfold showTiming
  try dsimp only
  with_reducible refine (showCan_keeps _ _).then_ (by decide) (by decide) ?_
  with_reducible refine Keeps.ite (fun _ => ?_) (fun _ => ?_)
  with_reducible refine Keeps.put (in_SUB_CAN_STAT_TIMING_ERR _) (by decide) ?_
  with_reducible exact Keeps.refl _
  with_reducible refine Keeps.put (in_SUB_CAN_CFG_EN _) (by decide) ?_
  with_reducible refine Keeps.put (in_SUB_CAN_STAT_TIMING_ERR _) (by decide) ?_
  with_reducible exact Keeps.refl _

theorem showPlca_keeps (s : State) (g : Nat) :
    Keeps [Reg.SUB_T1S_STAT] [] s (showPlca s g) := by
  unfold showPlca
  try dsimp only
  with_reducible refine Keeps.ite (fun _ => ?_) (fun _ => ?_)
  with_reducible refine Keeps.put (in_SUB_T1S_STAT_PLCA_STATUS _) (by decide) ?_
  with_reducible exact Keeps.refl _
  with_reducible exact Keeps.refl _

theorem dropIngress_keeps (s : State) (k : Nat) :
    Keeps [Reg.SUB_CNT2] [.sub] s (dropIngress s k) := by
  unfold dropIngress
  try dsimp only
  with_reducible refine Keeps.bump (in_SUB_CNT2_TUN_DROP) (by decide) ?_
  with_reducible refine (setCan_keeps _ _ _).then_ (by decide) (by decide) ?_
  with_reducible exact Keeps.refl _

theorem endCan_keeps (s : State) (k : Nat) (st : Nat) :
    Keeps [Reg.SW_CNT_VAL, Reg.SW_MSEC_STAT, Reg.SUB_CNT2] [.records, .owed, .rng, .rings, .proxies, .wire, .sub, .out] s (endCan s k st) := by
  unfold endCan
  try dsimp only
  with_reducible refine Keeps.foldl (fun _ _ => ?_) _ ?_
  with_reducible refine (complete_keeps _ _ _ _ _ _).then_ (by decide) (by decide) ?_
  with_reducible exact Keeps.refl _
  with_reducible refine (dropIngress_keeps _ _).then_ (by decide) (by decide) ?_
  with_reducible refine (setCan_keeps _ _ _).then_ (by decide) (by decide) ?_
  with_reducible exact Keeps.refl _

theorem endLin_keeps (s : State) (l : Nat) (st : Nat) :
    Keeps [Reg.SW_CNT_VAL, Reg.SW_MSEC_STAT] [.records, .owed, .rng, .rings, .proxies, .wire, .sub, .out] s (endLin s l st) := by
  unfold endLin
  try dsimp only
  with_reducible refine Keeps.foldl (fun _ _ => ?_) _ ?_
  with_reducible refine (complete_keeps _ _ _ _ _ _).then_ (by decide) (by decide) ?_
  with_reducible exact Keeps.refl _
  with_reducible refine (setLin_keeps _ _ _).then_ (by decide) (by decide) ?_
  with_reducible exact Keeps.refl _

theorem sleepCan_keeps (s : State) (k : Nat) :
    Keeps [Reg.SW_CNT_VAL, Reg.SW_MSEC_STAT, Reg.SUB_CAN_STAT, Reg.SUB_CNT2] [.records, .owed, .rng, .rings, .proxies, .wire, .sub, .out] s (sleepCan s k) := by
  unfold sleepCan
  try dsimp only
  split
  with_reducible refine (complete_keeps _ _ _ _ _ _).then_ (by decide) (by decide) ?_
  with_reducible refine (showCan_keeps _ _).then_ (by decide) (by decide) ?_
  with_reducible refine (setCan_keeps _ _ _).then_ (by decide) (by decide) ?_
  with_reducible refine (endCan_keeps _ _ _).then_ (by decide) (by decide) ?_
  with_reducible exact Keeps.refl _
  with_reducible refine (showCan_keeps _ _).then_ (by decide) (by decide) ?_
  with_reducible refine (setCan_keeps _ _ _).then_ (by decide) (by decide) ?_
  with_reducible refine (endCan_keeps _ _ _).then_ (by decide) (by decide) ?_
  with_reducible exact Keeps.refl _

theorem sleepDue_keeps (s : State) (k : Nat) :
    Keeps [Reg.SW_CNT_VAL, Reg.SW_MSEC_STAT, Reg.SUB_CAN_STAT, Reg.SUB_CNT2] [.records, .owed, .rng, .rings, .proxies, .wire, .sub, .out] s (sleepDue s k) := by
  unfold sleepDue
  try dsimp only
  with_reducible refine Keeps.ite (fun _ => ?_) (fun _ => ?_)
  with_reducible refine (sleepCan_keeps _ _).then_ (by decide) (by decide) ?_
  with_reducible exact Keeps.refl _
  with_reducible exact Keeps.refl _

theorem sleepLin_keeps (s : State) (l : Nat) :
    Keeps [Reg.SW_CNT_VAL, Reg.SW_MSEC_STAT, Reg.SUB_LIN_STAT] [.records, .owed, .rng, .rings, .proxies, .wire, .sub, .out] s (sleepLin s l) := by
  unfold sleepLin
  try dsimp only
  with_reducible refine (showLin_keeps _ _).then_ (by decide) (by decide) ?_
  with_reducible refine (setLin_keeps _ _ _).then_ (by decide) (by decide) ?_
  with_reducible refine (endLin_keeps _ _ _).then_ (by decide) (by decide) ?_
  with_reducible refine Keeps.ite (fun _ => ?_) (fun _ => ?_)
  with_reducible refine (emit_keeps _ _).then_ (by decide) (by decide) ?_
  with_reducible exact Keeps.refl _
  with_reducible exact Keeps.refl _

theorem sleepBuses_keeps (s : State) :
    Keeps [Reg.SW_CNT_VAL, Reg.SW_MSEC_STAT, Reg.SUB_CAN_STAT, Reg.SUB_LIN_STAT, Reg.SUB_CNT2] [.records, .owed, .rng, .rings, .proxies, .wire, .sub, .out] s (sleepBuses s) := by
  unfold sleepBuses
  try dsimp only
  with_reducible refine Keeps.foldl (fun _ _ => ?_) _ ?_
  with_reducible refine (sleepLin_keeps _ _).then_ (by decide) (by decide) ?_
  with_reducible exact Keeps.refl _
  with_reducible refine Keeps.foldl (fun _ _ => ?_) _ ?_
  with_reducible refine (sleepCan_keeps _ _).then_ (by decide) (by decide) ?_
  with_reducible exact Keeps.refl _
  with_reducible exact Keeps.refl _

theorem dropLinOwned_keeps (s : State) (p : Nat) :
    Keeps [] [.sub] s (dropLinOwned s p) := by
  unfold dropLinOwned
  try dsimp only
  with_reducible refine Keeps.foldl (fun _ _ => ?_) _ ?_
  with_reducible refine Keeps.ite (fun _ => ?_) (fun _ => ?_)
  with_reducible refine Keeps.set_sub (by decide) ?_
  with_reducible refine (setLin_keeps _ _ _).then_ (by decide) (by decide) ?_
  with_reducible exact Keeps.refl _
  with_reducible exact Keeps.refl _
  with_reducible exact Keeps.refl _

theorem dropBus_keeps (s0 : State) (p : Nat) :
    Keeps [] [.sub] s0 (dropBus s0 p) := by
  unfold dropBus
  try dsimp only
  with_reducible refine Keeps.set_sub (by decide) ?_
  with_reducible refine (dropLinOwned_keeps _ _).then_ (by decide) (by decide) ?_
  with_reducible exact Keeps.refl _

end Sys2Proof.Machine
end

