-- ==== Sys2Proof/Laws/Reset.lean ====
section
/-! SUPPORT.
What the operations of Machine/Reset.lean change, and that they keep a sound state sound.
-/

namespace Sys2Proof.Machine

theorem program_keeps (s : State) (ns : Nat) (lbas : List Nat) (eb : Nat) :
    Keeps [] [.sto] s (program s ns lbas eb) := by
  unfold program
  try dsimp only
  with_reducible refine Keeps.set_sto (by decide) ?_
  with_reducible exact Keeps.refl _

theorem putBlk_keeps (s : State) (ns : Nat) (lba : Nat) (d : List Byte) :
    Keeps [] [.sto] s (putBlk s ns lba d) := by
  unfold putBlk
  try dsimp only
  with_reducible refine Keeps.set_sto (by decide) ?_
  with_reducible exact Keeps.refl _

theorem putBlks_keeps (s : State) (ns lba : Nat) (l : List (List Byte)) :
    Keeps [] [.sto] s (putBlks s ns lba l) := by
  induction l generalizing s lba with
  | nil => exact Keeps.refl _
  | cons d ds ih =>
    unfold putBlks
    exact ((putBlk_keeps _ _ _ _).then_ (by decide) (by decide) (Keeps.refl _)).trans (ih _ _)

theorem landBlks_keeps (s : State) (ns : Nat) (l : List (Nat × List Byte)) :
    Keeps [Reg.STO_WB_STATUS] [.freeCtr, .sto] s (landBlks s ns l) := by
  unfold landBlks
  try dsimp only
  with_reducible refine Keeps.ite (fun _ => ?_) (fun _ => ?_)
  with_reducible exact Keeps.refl _
  with_reducible refine (program_keeps _ _ _ _).then_ (by decide) (by decide) ?_
  with_reducible refine Keeps.wr (in_STO_WB_STATUS_DIRTY) (by decide) ?_
  with_reducible refine Keeps.set_sto (by decide) ?_
  with_reducible refine Keeps.foldl (fun _ _ => ?_) _ ?_
  with_reducible refine (putBlk_keeps _ _ _ _).then_ (by decide) (by decide) ?_
  with_reducible exact Keeps.refl _
  with_reducible refine (freeNext_keeps _).then_ (by decide) (by decide) ?_
  with_reducible exact Keeps.refl _

theorem unmap_keeps (s : State) (ns : Nat) (lba : Nat) (n : Nat) :
    Keeps [] [.sto] s (unmap s ns lba n) := by
  unfold unmap
  try dsimp only
  with_reducible refine Keeps.set_sto (by decide) ?_
  with_reducible exact Keeps.refl _

theorem cutJob_keeps (s : State) (j : StoJob) :
    Keeps [Reg.STO_WB_STATUS] [.freeCtr, .sto] s (cutJob s j) := by
  unfold cutJob
  try dsimp only
  with_reducible refine Keeps.ite (fun _ => ?_) (fun _ => ?_)
  with_reducible refine (landBlks_keeps _ _ _).then_ (by decide) (by decide) ?_
  with_reducible refine Keeps.set_freeCtr (by decide) ?_
  with_reducible exact Keeps.refl _
  with_reducible refine Keeps.ite (fun _ => ?_) (fun _ => ?_)
  with_reducible refine (landBlks_keeps _ _ _).then_ (by decide) (by decide) ?_
  with_reducible refine Keeps.set_freeCtr (by decide) ?_
  with_reducible exact Keeps.refl _
  with_reducible refine Keeps.ite (fun _ => ?_) (fun _ => ?_)
  with_reducible refine Keeps.ite (fun _ => ?_) (fun _ => ?_)
  with_reducible refine (unmap_keeps _ _ _ _).then_ (by decide) (by decide) ?_
  with_reducible refine Keeps.set_freeCtr (by decide) ?_
  with_reducible exact Keeps.refl _
  with_reducible refine Keeps.set_freeCtr (by decide) ?_
  with_reducible exact Keeps.refl _
  with_reducible exact Keeps.refl _

theorem endJobPart_keeps (s : State) (j : StoJob) :
    Keeps [Reg.STO_WB_STATUS] [.freeCtr, .sto] s (endJobPart s j) := by
  unfold endJobPart
  try dsimp only
  with_reducible refine Keeps.ite (fun _ => ?_) (fun _ => ?_)
  with_reducible refine (landBlks_keeps _ _ _).then_ (by decide) (by decide) ?_
  with_reducible refine (freeNext_keeps _).then_ (by decide) (by decide) ?_
  with_reducible exact Keeps.refl _
  with_reducible refine (cutJob_keeps _ _).then_ (by decide) (by decide) ?_
  with_reducible exact Keeps.refl _

theorem cutStore_keeps (s : State) :
    Keeps [Reg.STO_WB_STATUS] [.freeCtr, .sto] s (cutStore s) := by
  unfold cutStore
  try dsimp only
  with_reducible refine Keeps.set_sto (by decide) ?_
  with_reducible refine Keeps.foldl (fun _ _ => ?_) _ ?_
  with_reducible refine (cutJob_keeps _ _).then_ (by decide) (by decide) ?_
  with_reducible exact Keeps.refl _
  with_reducible exact Keeps.refl _

theorem affect_keeps (s : State) (ns : Nat) (rescued : Nat) (discarded : Nat) :
    Keeps [] [.sto] s (affect s ns rescued discarded) := by
  unfold affect
  try dsimp only
  with_reducible refine Keeps.set_sto (by decide) ?_
  with_reducible exact Keeps.refl _

theorem cutJobPf_keeps (s : State) (j : StoJob) :
    Keeps [Reg.STO_WB_STATUS] [.freeCtr, .sto] s (cutJobPf s j) := by
  unfold cutJobPf
  try dsimp only
  with_reducible refine Keeps.ite (fun _ => ?_) (fun _ => ?_)
  with_reducible exact Keeps.refl _
  with_reducible refine (affect_keeps _ _ _ _).then_ (by decide) (by decide) ?_
  with_reducible refine (cutJob_keeps _ _).then_ (by decide) (by decide) ?_
  with_reducible exact Keeps.refl _

theorem losePf_keeps (s : State) (key : Nat) :
    Keeps [] [.sto] s (losePf s key) := by
  unfold losePf
  try dsimp only
  with_reducible refine Keeps.set_sto (by decide) ?_
  with_reducible refine (affect_keeps _ _ _ _).then_ (by decide) (by decide) ?_
  with_reducible exact Keeps.refl _

theorem powerCut_keeps (s : State) :
    Keeps [Reg.STO_WB_STATUS] [.freeCtr, .sto] s (powerCut s) := by
  unfold powerCut
  try dsimp only
  with_reducible refine Keeps.set_sto (by decide) ?_
  with_reducible refine Keeps.foldl (fun _ _ => ?_) _ ?_
  with_reducible refine (losePf_keeps _ _).then_ (by decide) (by decide) ?_
  with_reducible exact Keeps.refl _
  with_reducible refine Keeps.foldl (fun _ _ => ?_) _ ?_
  with_reducible refine (cutJobPf_keeps _ _).then_ (by decide) (by decide) ?_
  with_reducible exact Keeps.refl _
  with_reducible exact Keeps.refl _

theorem showNs_keeps (s : State) :
    Keeps [Reg.STO_NS_INFO, Reg.STO_NS_BLOCKS, Reg.STO_FREE, Reg.STO_NS_WEAR] [] s (showNs s) := by
  unfold showNs
  try dsimp only
  with_reducible refine Keeps.put (in_STO_NS_WEAR_SHORT) (by decide) ?_
  with_reducible refine Keeps.wr (in_STO_NS_WEAR_WEAR) (by decide) ?_
  with_reducible refine Keeps.wr (in_STO_NS_WEAR_STATE) (by decide) ?_
  with_reducible refine Keeps.wr (in_STO_FREE_FREE_EXT) (by decide) ?_
  with_reducible refine Keeps.wr (in_STO_NS_BLOCKS_BLOCKS) (by decide) ?_
  with_reducible refine Keeps.wr (in_STO_NS_INFO_EXTENTS) (by decide) ?_
  with_reducible refine Keeps.put (in_STO_NS_INFO_WB_EN) (by decide) ?_
  with_reducible refine Keeps.put (in_STO_NS_INFO_RET) (by decide) ?_
  with_reducible refine Keeps.put (in_STO_NS_INFO_DUR) (by decide) ?_
  with_reducible refine Keeps.put (in_STO_NS_INFO_CELL) (by decide) ?_
  with_reducible refine Keeps.put (in_STO_NS_INFO_VALID) (by decide) ?_
  with_reducible exact Keeps.refl _

theorem scanSlot_keeps (area : Nat) (s : State) (slot : Nat) :
    Keeps [Reg.PAR_EVT_CNT, Reg.SW_CNT_VAL, Reg.SW_MSEC_STAT, Reg.TLY_CNT0, Reg.TLY_CNT1] [.records, .owed, .rings, .evt, .tly, .queue, .proxies, .loss, .wire, .out] s (scanSlot area s slot) := by
  unfold scanSlot
  try dsimp only
  with_reducible refine Keeps.ite (fun _ => ?_) (fun _ => ?_)
  with_reducible refine (raise_keeps _ _ _ _ _).then_ (by decide) (by decide) ?_
  with_reducible refine Keeps.ite (fun _ => ?_) (fun _ => ?_)
  with_reducible refine Keeps.bump (in_TLY_CNT1_MIRROR_FIX) (by decide) ?_
  with_reducible refine Keeps.set_tly_queue (by decide) (by decide) ?_
  with_reducible exact Keeps.refl _
  with_reducible refine Keeps.set_tly_queue (by decide) (by decide) ?_
  with_reducible exact Keeps.refl _
  with_reducible refine Keeps.ite (fun _ => ?_) (fun _ => ?_)
  with_reducible refine Keeps.bump (in_TLY_CNT1_MIRROR_FIX) (by decide) ?_
  with_reducible refine Keeps.set_tly_queue (by decide) (by decide) ?_
  with_reducible exact Keeps.refl _
  with_reducible refine Keeps.set_tly_queue (by decide) (by decide) ?_
  with_reducible exact Keeps.refl _

theorem mirrorScan_keeps (s : State) :
    Keeps [Reg.PAR_EVT_CNT, Reg.SW_CNT_VAL, Reg.SW_MSEC_STAT, Reg.TLY_STATUS, Reg.TLY_CNT0, Reg.TLY_CNT1] [.records, .owed, .rings, .evt, .tly, .queue, .proxies, .loss, .wire, .out] s (mirrorScan s) := by
  unfold mirrorScan
  try dsimp only
  with_reducible refine Keeps.put (in_TLY_STATUS_SCAN_DONE) (by decide) ?_
  with_reducible refine Keeps.foldl (fun _ _ => ?_) _ ?_
  with_reducible refine (scanSlot_keeps _ _ _).then_ (by decide) (by decide) ?_
  with_reducible exact Keeps.refl _
  with_reducible refine Keeps.foldl (fun _ _ => ?_) _ ?_
  with_reducible refine (scanSlot_keeps _ _ _).then_ (by decide) (by decide) ?_
  with_reducible exact Keeps.refl _
  with_reducible exact Keeps.refl _

theorem limpUnnamed_keeps (s : State) (c : Chan) :
    Keeps [Reg.PAR_EVT_CNT, Reg.HS_STATE, Reg.HB_STATE, Reg.SV_STATE, Reg.SV_KRES, Reg.SV_CNT2, Reg.LED_STATE, Reg.FIO_CAUSE, Reg.SW_CNT_VAL, Reg.SW_MSEC_STAT, Reg.TLY_CNT0] [.records, .freeCtr, .owed, .rings, .evt, .queue, .proxies, .chs, .loss, .wire, .out] s (limpUnnamed s c) := by
  unfold limpUnnamed
  try dsimp only
  with_reducible refine Keeps.ite (fun _ => ?_) (fun _ => ?_)
  with_reducible exact Keeps.refl _
  with_reducible refine (setChn_keeps _ _ _).then_ (by decide) (by decide) ?_
  with_reducible refine Keeps.ite (fun _ => ?_) (fun _ => ?_)
  with_reducible refine (bridgeOff_keeps _ _).then_ (by decide) (by decide) ?_
  with_reducible exact Keeps.refl _
  with_reducible refine (switchTo_keeps _ _ _).then_ (by decide) (by decide) ?_
  with_reducible refine (abortKerf_keeps _ _).then_ (by decide) (by decide) ?_
  with_reducible exact Keeps.refl _

theorem limpEntryApply_keeps (fresh : Bool) (s : State) (e : LimpEntry) :
    Keeps [Reg.PAR_EVT_CNT, Reg.ACT_CLAIM, Reg.ACT_CNT, Reg.HS_STATE, Reg.HB_STATE, Reg.SV_STATE, Reg.SV_KRES, Reg.SV_CNT2, Reg.LED_STATE, Reg.LED_CNT, Reg.FIO_CAUSE, Reg.SW_CNT_VAL, Reg.SW_MSEC_STAT, Reg.TLY_CNT0] [.records, .freeCtr, .owed, .rng, .rings, .evt, .queue, .proxies, .act, .chs, .loss, .wire, .out] s (limpEntryApply fresh s e) := by
  unfold limpEntryApply
  try dsimp only
  with_reducible refine Keeps.ite (fun _ => ?_) (fun _ => ?_)
  with_reducible exact Keeps.refl _
  with_reducible refine (limpEntryAct_keeps _ _ _).then_ (by decide) (by decide) ?_
  with_reducible exact Keeps.refl _

theorem limpApply_keeps (s : State) :
    Keeps [Reg.SPR_STATUS, Reg.PAR_EVT_CNT, Reg.ACT_CLAIM, Reg.ACT_CNT, Reg.HS_STATE, Reg.HB_STATE, Reg.SV_STATE, Reg.SV_KRES, Reg.SV_CNT2, Reg.LED_STATE, Reg.LED_CNT, Reg.FIO_CAUSE, Reg.SW_CNT_VAL, Reg.SW_MSEC_STAT, Reg.TLY_CNT0] [.records, .freeCtr, .owed, .rng, .rings, .evt, .queue, .proxies, .act, .chs, .loss, .wire, .out] s (limpApply s) := by
  unfold limpApply
  try dsimp only
  split
  with_reducible refine Keeps.foldl (fun _ _ => ?_) _ ?_
  with_reducible refine (limpEntryApply_keeps _ _ _).then_ (by decide) (by decide) ?_
  with_reducible exact Keeps.refl _
  with_reducible refine Keeps.foldl (fun _ _ => ?_) _ ?_
  with_reducible refine (limpUnnamed_keeps _ _).then_ (by decide) (by decide) ?_
  with_reducible exact Keeps.refl _
  with_reducible refine Keeps.foldl (fun _ _ => ?_) _ ?_
  with_reducible refine (endClaim_keeps _ _).then_ (by decide) (by decide) ?_
  with_reducible exact Keeps.refl _
  with_reducible refine Keeps.ite (fun _ => ?_) (fun _ => ?_)
  with_reducible refine (tally_keeps _ _ _).then_ (by decide) (by decide) ?_
  with_reducible refine (freeNext_keeps _).then_ (by decide) (by decide) ?_
  with_reducible refine Keeps.set_act (by decide) ?_
  with_reducible refine Keeps.put (in_SPR_STATUS_LIMP_ACTIVE) (by decide) ?_
  with_reducible exact Keeps.refl _
  with_reducible refine Keeps.set_act (by decide) ?_
  with_reducible refine Keeps.put (in_SPR_STATUS_LIMP_ACTIVE) (by decide) ?_
  with_reducible exact Keeps.refl _
  with_reducible refine Keeps.foldl (fun _ _ => ?_) _ ?_
  with_reducible refine (limpUnnamed_keeps _ _).then_ (by decide) (by decide) ?_
  with_reducible exact Keeps.refl _
  with_reducible refine Keeps.foldl (fun _ _ => ?_) _ ?_
  with_reducible refine (endClaim_keeps _ _).then_ (by decide) (by decide) ?_
  with_reducible exact Keeps.refl _
  with_reducible refine Keeps.ite (fun _ => ?_) (fun _ => ?_)
  with_reducible refine (tally_keeps _ _ _).then_ (by decide) (by decide) ?_
  with_reducible refine (freeNext_keeps _).then_ (by decide) (by decide) ?_
  with_reducible refine Keeps.set_act (by decide) ?_
  with_reducible refine Keeps.put (in_SPR_STATUS_LIMP_ACTIVE) (by decide) ?_
  with_reducible exact Keeps.refl _
  with_reducible refine Keeps.set_act (by decide) ?_
  with_reducible refine Keeps.put (in_SPR_STATUS_LIMP_ACTIVE) (by decide) ?_
  with_reducible exact Keeps.refl _

theorem interim1_keeps (s : State) (c : Chan) :
    Keeps [Reg.PAR_EVT_CNT, Reg.ACT_SAFE_STATUS, Reg.ACT_CNT, Reg.HS_STATE, Reg.HB_STATE, Reg.SV_STATE, Reg.SV_KRES, Reg.SV_CNT2, Reg.LED_STATE, Reg.FIO_CAUSE, Reg.SW_CNT_VAL, Reg.SW_MSEC_STAT, Reg.TLY_CNT0] [.records, .freeCtr, .owed, .rng, .rings, .evt, .queue, .proxies, .chs, .loss, .wire, .out] s (interim1 s c) := by
  unfold interim1
  try dsimp only
  split
  with_reducible refine (bridgeRest_keeps _ _ _).then_ (by decide) (by decide) ?_
  with_reducible refine Keeps.ite (fun _ => ?_) (fun _ => ?_)
  with_reducible refine (setRev_keeps _ _ _).then_ (by decide) (by decide) ?_
  with_reducible refine (setSafe_keeps _ _ _).then_ (by decide) (by decide) ?_
  with_reducible exact Keeps.refl _
  with_reducible exact Keeps.refl _
  with_reducible refine Keeps.ite (fun _ => ?_) (fun _ => ?_)
  with_reducible exact Keeps.refl _
  with_reducible refine (switchTo_keeps _ _ _).then_ (by decide) (by decide) ?_
  with_reducible refine (abortKerf_keeps _ _).then_ (by decide) (by decide) ?_
  with_reducible exact Keeps.refl _
  with_reducible exact Keeps.refl _

theorem dropSeqs_keeps (p : SeqRun → Bool) (s : State) :
    Keeps [] [.rng, .act] s (dropSeqs p s) := by
  unfold dropSeqs
  try dsimp only
  with_reducible refine Keeps.foldl (fun _ _ => ?_) _ ?_
  with_reducible refine (dropWork_keeps _ _ _).then_ (by decide) (by decide) ?_
  with_reducible exact Keeps.refl _
  with_reducible refine Keeps.set_act (by decide) ?_
  with_reducible exact Keeps.refl _

theorem interim_keeps (s : State) :
    Keeps [Reg.PAR_EVT_CNT, Reg.ACT_SAFE_STATUS, Reg.ACT_CNT, Reg.HS_STATE, Reg.HB_STATE, Reg.SV_STATE, Reg.SV_KRES, Reg.SV_CNT2, Reg.LED_STATE, Reg.FIO_CAUSE, Reg.SW_CNT_VAL, Reg.SW_MSEC_STAT, Reg.TLY_CNT0] [.records, .freeCtr, .owed, .rng, .rings, .evt, .queue, .proxies, .act, .chs, .loss, .wire, .out] s (interim s) := by
  unfold interim
  try dsimp only
  with_reducible refine Keeps.set_act (by decide) ?_
  with_reducible refine Keeps.foldl (fun _ _ => ?_) _ ?_
  with_reducible refine (interim1_keeps _ _).then_ (by decide) (by decide) ?_
  with_reducible exact Keeps.refl _
  with_reducible refine Keeps.foldl (fun _ _ => ?_) _ ?_
  with_reducible refine (dropJob_keeps _ _).then_ (by decide) (by decide) ?_
  with_reducible exact Keeps.refl _
  with_reducible refine (dropSeqs_keeps _ _).then_ (by decide) (by decide) ?_
  with_reducible exact Keeps.refl _

theorem deviceReset_keeps (s0 : State) :
    Keeps [Reg.every] [.memory, .records, .layout, .freeCtr, .latches, .dt, .pwr, .owed, .banks, .par, .rng, .rings, .evt, .chain, .proxies, .act, .chs, .scl, .loss, .sns, .sw, .wire, .sub, .brd, .inf, .sto, .sec, .flt, .out] s0 (deviceReset s0) := by
  unfold deviceReset
  refine (showNs_keeps _).then_ (by decide) (by decide) ?_
  refine (showStreams_keeps _).then_ (by decide) (by decide) ?_
  refine (showHeld_keeps _).then_ (by decide) (by decide) ?_
  refine Keeps.anew (t := (cutStore (s0.act.claims.foldl endClaim s0)).wr SEC_KEY_STATE_FILLED ((cutStore (s0.act.claims.foldl endClaim s0)).rd SEC_KEY_STATE_FILLED % 65536))
    (by decide) (by decide) (by decide) (fun i => ⟨⟨⟨List.Pairwise.nil, by simp⟩, by simp⟩, tabKeep_sorted _ _ i.2⟩)
    (fun x hx hp => by cases x <;> first | exact absurd (by decide) hx | exact absurd hp (by decide) | rfl | exact ⟨rfl, rfl⟩ | exact ⟨rfl, rfl, rfl⟩) ?_
  refine Keeps.wrEvery (by decide) ?_
  refine (cutStore_keeps _).then_ (by decide) (by decide) ?_
  exact Keeps.foldl (fun _ _ => (endClaim_keeps _ _).then_ (by decide) (by decide) (Keeps.refl _)) _ (Keeps.refl _)

theorem linkOff_keeps (s : State) :
    Keeps [Reg.CHN_BYPASS] [.pwr, .chain] s (linkOff s) := by
  unfold linkOff
  try dsimp only
  with_reducible refine Keeps.rebuilt ?_ ?_ ?_
  · with_reducible exact .inr ⟨rfl, rfl, rfl⟩
  · with_reducible exact ⟨.inr rfl, .inr rfl, .inr rfl, .inr rfl, .inr rfl, .inr rfl, .inl (by decide), .inr rfl, .inr rfl, .inr rfl, .inr rfl, .inr rfl, .inr rfl, .inr rfl, .inr ⟨rfl, rfl, rfl⟩, .inl (by decide), .inr ⟨rfl, rfl⟩, .inr rfl, .inr rfl, .inr rfl, .inr ⟨rfl, rfl⟩, .inr rfl, .inr rfl, .inr ⟨rfl, rfl, rfl⟩, .inr rfl, .inr rfl, .inr rfl, .inr rfl, .inr rfl, .inr rfl, .inr rfl, .inr rfl⟩
  with_reducible refine Keeps.put (in_CHN_BYPASS_ACTIVE) (by decide) ?_
  with_reducible exact Keeps.refl _

theorem countCdLoss_keeps (s : State) :
    Keeps [Reg.TLY_CNT0, Reg.EVT_CDLOSS] [.spar, .queue] s (countCdLoss s) := by
  unfold countCdLoss
  try dsimp only
  with_reducible refine Keeps.ite (fun _ => ?_) (fun _ => ?_)
  with_reducible refine (tally_keeps _ _ _).then_ (by decide) (by decide) ?_
  with_reducible refine Keeps.put (in_EVT_CDLOSS_HALTED) (by decide) ?_
  with_reducible refine Keeps.wr (in_EVT_CDLOSS_LOSSES) (by decide) ?_
  with_reducible refine Keeps.set_spar (by decide) ?_
  with_reducible exact Keeps.refl _
  with_reducible refine Keeps.wr (in_EVT_CDLOSS_LOSSES) (by decide) ?_
  with_reducible refine Keeps.set_spar (by decide) ?_
  with_reducible exact Keeps.refl _

theorem detachLost_keeps (s : State) (p : Nat) :
    Keeps [Reg.CHN_ATTACH, Reg.PAR_STATE, Reg.TLY_CNT0] [.evt, .queue, .proxies] s (detachLost s p) := by
  unfold detachLost
  try dsimp only
  with_reducible refine Keeps.ite (fun _ => ?_) (fun _ => ?_)
  with_reducible refine (holdEvent_keeps _ _ _ _ _).then_ (by decide) (by decide) ?_
  with_reducible refine Keeps.wr (in_PAR_STATE_STATE _) (by decide) ?_
  with_reducible refine (setProxy_keeps _ _ _).then_ (by decide) (by decide) ?_
  with_reducible refine Keeps.wr (in_CHN_ATTACH_ATTACHED) (by decide) ?_
  with_reducible exact Keeps.refl _
  with_reducible exact Keeps.refl _

theorem controlLost_keeps (s : State) (cause : Nat) :
    Keeps [Reg.CHN_ATTACH, Reg.PAR_STATE, Reg.PAR_EVT_CNT, Reg.ACT_SAFE_STATUS, Reg.ACT_CNT, Reg.HS_STATE, Reg.HB_STATE, Reg.SV_STATE, Reg.SV_KRES, Reg.SV_CNT2, Reg.LED_STATE, Reg.FIO_CAUSE, Reg.SIN_SCHED, Reg.SIN_STREAMS, Reg.SW_CNT_VAL, Reg.SW_MSEC_STAT, Reg.TLY_CNT0, Reg.EVT_CDLOSS] [.records, .freeCtr, .spar, .pwr, .owed, .rng, .rings, .evt, .queue, .proxies, .act, .chs, .loss, .sns, .wire, .out] s (controlLost s cause) := by
  unfold controlLost
  try dsimp only
  with_reducible refine Keeps.ite (fun _ => ?_) (fun _ => ?_)
  with_reducible exact Keeps.refl _
  with_reducible refine Keeps.ite (fun _ => ?_) (fun _ => ?_)
  with_reducible refine Keeps.foldl (fun _ _ => ?_) _ ?_
  with_reducible refine (detachLost_keeps _ _).then_ (by decide) (by decide) ?_
  with_reducible exact Keeps.refl _
  with_reducible refine (interim_keeps _).then_ (by decide) (by decide) ?_
  with_reducible refine (emit_keeps _ _).then_ (by decide) (by decide) ?_
  with_reducible refine (showStreams_keeps _).then_ (by decide) (by decide) ?_
  with_reducible refine Keeps.rebuilt ?_ ?_ ?_
  · with_reducible exact .inr ⟨rfl, rfl, rfl⟩
  · with_reducible exact ⟨.inr rfl, .inr rfl, .inr rfl, .inr rfl, .inl (by decide), .inr rfl, .inl (by decide), .inr rfl, .inr rfl, .inr rfl, .inl (by decide), .inr rfl, .inr rfl, .inr rfl, .inl (by decide), .inr rfl, .inl (by decide), .inr rfl, .inr rfl, .inr rfl, .inl (by decide), .inl (by decide), .inr rfl, .inl (by decide), .inr rfl, .inr rfl, .inr rfl, .inr rfl, .inr rfl, .inr rfl, .inr rfl, .inr rfl⟩
  with_reducible refine (tally_keeps _ _ _).then_ (by decide) (by decide) ?_
  with_reducible exact Keeps.refl _
  with_reducible refine (countCdLoss_keeps _).then_ (by decide) (by decide) ?_
  with_reducible refine Keeps.foldl (fun _ _ => ?_) _ ?_
  with_reducible refine (detachLost_keeps _ _).then_ (by decide) (by decide) ?_
  with_reducible exact Keeps.refl _
  with_reducible refine (interim_keeps _).then_ (by decide) (by decide) ?_
  with_reducible refine (emit_keeps _ _).then_ (by decide) (by decide) ?_
  with_reducible refine (showStreams_keeps _).then_ (by decide) (by decide) ?_
  with_reducible refine Keeps.rebuilt ?_ ?_ ?_
  · with_reducible exact .inr ⟨rfl, rfl, rfl⟩
  · with_reducible exact ⟨.inr rfl, .inr rfl, .inr rfl, .inr rfl, .inl (by decide), .inr rfl, .inl (by decide), .inr rfl, .inr rfl, .inr rfl, .inl (by decide), .inr rfl, .inr rfl, .inr rfl, .inl (by decide), .inr rfl, .inl (by decide), .inr rfl, .inr rfl, .inr rfl, .inl (by decide), .inl (by decide), .inr rfl, .inl (by decide), .inr rfl, .inr rfl, .inr rfl, .inr rfl, .inr rfl, .inr rfl, .inr rfl, .inr rfl⟩
  with_reducible refine (tally_keeps _ _ _).then_ (by decide) (by decide) ?_
  with_reducible exact Keeps.refl _

theorem commandReset_keeps (s : State) (causeBit : Nat) :
    Keeps [Reg.every] [.memory, .records, .layout, .freeCtr, .latches, .spar, .dt, .pwr, .owed, .banks, .par, .rng, .rings, .evt, .queue, .chain, .proxies, .act, .chs, .scl, .loss, .sns, .sw, .wire, .sub, .brd, .inf, .sto, .sec, .flt, .out] s (commandReset s causeBit) := by
  unfold commandReset
  try dsimp only
  with_reducible refine Keeps.ite (fun _ => ?_) (fun _ => ?_)
  with_reducible refine (deviceReset_keeps _).then_ (by decide) (by decide) ?_
  with_reducible refine (controlLost_keeps _ _).then_ (by decide) (by decide) ?_
  with_reducible refine Keeps.set_spar (by decide) ?_
  with_reducible refine Keeps.orFEvery (by decide) ?_
  with_reducible exact Keeps.refl _
  with_reducible refine Keeps.orFEvery (by decide) ?_
  with_reducible exact Keeps.refl _

theorem sparReset_keeps (s : State) :
    Keeps [Reg.SPR_DT_STATUS, Reg.WAK_ARM, Reg.WAK_BUS_EN, Reg.WAK_SI_EN, Reg.PAR_EVT_CNT, Reg.SW_CNT_VAL, Reg.SW_MSEC_STAT, Reg.TLY_STATUS, Reg.TLY_CNT0, Reg.TLY_CNT1] [.records, .spar, .owed, .rings, .evt, .tly, .queue, .proxies, .loss, .sns, .wire, .out] s (sparReset s) := by
  unfold sparReset
  try dsimp only
  with_reducible refine (mirrorScan_keeps _).then_ (by decide) (by decide) ?_
  with_reducible refine Keeps.put (in_TLY_STATUS_SCAN_DONE) (by decide) ?_
  with_reducible refine Keeps.wr (in_SPR_DT_STATUS_STATE) (by decide) ?_
  with_reducible refine Keeps.wr (in_WAK_SI_EN_SI) (by decide) ?_
  with_reducible refine Keeps.wr (in_WAK_BUS_EN_BUS) (by decide) ?_
  with_reducible refine Keeps.wr (in_WAK_ARM_SRC) (by decide) ?_
  with_reducible refine Keeps.rebuilt ?_ ?_ ?_
  · with_reducible exact .inr ⟨rfl, rfl, rfl⟩
  · with_reducible exact ⟨.inr rfl, .inr rfl, .inr rfl, .inr rfl, .inl (by decide), .inr rfl, .inr rfl, .inr rfl, .inr rfl, .inr rfl, .inr rfl, .inr rfl, .inr rfl, .inr rfl, .inl (by decide), .inr rfl, .inl (by decide), .inr rfl, .inr rfl, .inr rfl, .inl (by decide), .inl (by decide), .inr rfl, .inl (by decide), .inr rfl, .inr rfl, .inr rfl, .inr rfl, .inr rfl, .inr rfl, .inr rfl, .inr rfl⟩
  with_reducible exact Keeps.refl _

theorem powerOn_keeps (s0 : State) (mv : Nat) :
    Keeps [Reg.every] [.memory, .records, .layout, .now, .freeCtr, .latches, .spar, .dt, .pwr, .owed, .banks, .par, .rng, .rings, .evt, .tly, .queue, .chain, .proxies, .act, .chs, .scl, .loss, .sns, .sw, .wire, .sub, .brd, .inf, .sto, .sec, .upd, .flt, .out] s0 (powerOn s0 mv) := by
  unfold powerOn
  refine (tally_keeps _ _ _).then_ (by decide) (by decide) ?_
  refine (mirrorScan_keeps _).then_ (by decide) (by decide) ?_
  refine Keeps.wrEvery (by decide) ?_
  refine Keeps.wrEvery (by decide) ?_
  refine (showNs_keeps _).then_ (by decide) (by decide) ?_
  refine Keeps.anew (t := (powerCut s0).wr SEC_KEY_STATE_FILLED ((powerCut s0).rd SEC_KEY_STATE_FILLED % 65536))
    (by decide) (by decide) (by decide) (fun i => ⟨⟨⟨List.Pairwise.nil, by simp [State.reset]⟩, by simp [State.reset]⟩,
      tabKeep_sorted _ _ i.2⟩)
    (fun x hx hp => by cases x <;> first | exact absurd (by decide) hx | exact absurd hp (by decide) | rfl | exact ⟨rfl, rfl⟩ | exact ⟨rfl, rfl, rfl⟩) ?_
  refine Keeps.wrEvery (by decide) ?_
  exact (powerCut_keeps _).then_ (by decide) (by decide) (Keeps.refl _)

end Sys2Proof.Machine
end

