-- ==== Sys2Proof/Laws/Streams.lean ====
section
/-! SUPPORT.
What the operations of Machine/Streams.lean change, and that they keep a sound state sound.
-/

namespace Sys2Proof.Machine

theorem setStrm_keeps (s : State) (x : Strm) :
    Keeps [] [.sns] s (setStrm s x) := by
  unfold setStrm
  try dsimp only
  with_reducible refine Keeps.set_sns (by decide) ?_
  with_reducible exact Keeps.refl _

theorem endStrm_keeps (s : State) (p : Nat) (slot : Nat) :
    Keeps [Reg.SIN_SCHED, Reg.SIN_STREAMS] [.sns] s (endStrm s p slot) := by
  unfold endStrm
  try dsimp only
  with_reducible refine (showStreams_keeps _).then_ (by decide) (by decide) ?_
  with_reducible refine Keeps.set_sns (by decide) ?_
  with_reducible exact Keeps.refl _

theorem loseBlock_keeps (s : State) (x : Strm) :
    Keeps [Reg.PAR_EVT_CNT, Reg.SW_CNT_VAL, Reg.SW_MSEC_STAT, Reg.TLY_CNT0] [.records, .owed, .rings, .evt, .queue, .proxies, .loss, .sns, .wire, .out] s (loseBlock s x) := by
  unfold loseBlock
  try dsimp only
  with_reducible refine Keeps.ite (fun _ => ?_) (fun _ => ?_)
  with_reducible refine (raise_keeps _ _ _ _ _).then_ (by decide) (by decide) ?_
  with_reducible refine (countLoss_keeps _ _ _ _).then_ (by decide) (by decide) ?_
  with_reducible refine (setStrm_keeps _ _).then_ (by decide) (by decide) ?_
  with_reducible exact Keeps.refl _
  with_reducible refine (countLoss_keeps _ _ _ _).then_ (by decide) (by decide) ?_
  with_reducible refine (setStrm_keeps _ _).then_ (by decide) (by decide) ?_
  with_reducible exact Keeps.refl _

theorem writeBlock_keeps (s : State) (x : Strm) (t0 : Nat) (samples : List Byte) :
    Keeps [Reg.PAR_EVT_CNT, Reg.SIN_SNS_CNT, Reg.SW_CNT_VAL, Reg.SW_MSEC_STAT, Reg.TLY_CNT0] [.memory, .records, .owed, .rings, .evt, .queue, .proxies, .loss, .sns, .wire, .out] s (writeBlock s x t0 samples) := by
  unfold writeBlock
  try dsimp only
  with_reducible refine Keeps.ite (fun _ => ?_) (fun _ => ?_)
  with_reducible refine (raise_keeps _ _ _ _ _).then_ (by decide) (by decide) ?_
  with_reducible refine Keeps.writeBytes (by decide) ?_
  with_reducible refine (setStrm_keeps _ _).then_ (by decide) (by decide) ?_
  with_reducible refine Keeps.ite (fun _ => ?_) (fun _ => ?_)
  with_reducible refine (loseBlock_keeps _ _).then_ (by decide) (by decide) ?_
  with_reducible refine Keeps.bump (in_SIN_SNS_CNT_INF_LOST) (by decide) ?_
  with_reducible exact Keeps.refl _
  with_reducible exact Keeps.refl _
  with_reducible refine Keeps.writeBytes (by decide) ?_
  with_reducible refine (setStrm_keeps _ _).then_ (by decide) (by decide) ?_
  with_reducible refine Keeps.ite (fun _ => ?_) (fun _ => ?_)
  with_reducible refine (loseBlock_keeps _ _).then_ (by decide) (by decide) ?_
  with_reducible refine Keeps.bump (in_SIN_SNS_CNT_INF_LOST) (by decide) ?_
  with_reducible exact Keeps.refl _
  with_reducible exact Keeps.refl _

theorem completeBlock_keeps (s : State) (p : Nat) (slot : Nat) (samples : List Byte) (t0 : Nat) :
    Keeps [Reg.PAR_EVT_CNT, Reg.SIN_SNS_CNT, Reg.SW_CNT_VAL, Reg.SW_MSEC_STAT, Reg.TLY_CNT0] [.memory, .records, .owed, .rings, .evt, .queue, .proxies, .loss, .sns, .wire, .out] s (completeBlock s p slot samples t0) := by
  unfold completeBlock
  try dsimp only
  split
  with_reducible exact Keeps.refl _
  with_reducible refine Keeps.ite (fun _ => ?_) (fun _ => ?_)
  with_reducible exact Keeps.refl _
  with_reducible refine Keeps.ite (fun _ => ?_) (fun _ => ?_)
  with_reducible refine (loseBlock_keeps _ _).then_ (by decide) (by decide) ?_
  with_reducible refine Keeps.bump (in_SIN_SNS_CNT_BLK_LOST) (by decide) ?_
  with_reducible exact Keeps.refl _
  with_reducible refine Keeps.ite (fun _ => ?_) (fun _ => ?_)
  with_reducible refine (writeBlock_keeps _ _ _ _).then_ (by decide) (by decide) ?_
  with_reducible refine (loseBlock_keeps _ _).then_ (by decide) (by decide) ?_
  with_reducible refine Keeps.bump (in_SIN_SNS_CNT_BLK_LOST) (by decide) ?_
  with_reducible exact Keeps.refl _
  with_reducible refine (writeBlock_keeps _ _ _ _).then_ (by decide) (by decide) ?_
  with_reducible exact Keeps.refl _

theorem addEdge_keeps (s : State) (p : Nat) (slot : Nat) :
    Keeps [Reg.PAR_EVT_CNT, Reg.SIN_SNS_CNT, Reg.SW_CNT_VAL, Reg.SW_MSEC_STAT, Reg.TLY_CNT0] [.memory, .records, .owed, .rings, .evt, .queue, .proxies, .loss, .sns, .wire, .out] s (addEdge s p slot) := by
  unfold addEdge
  try dsimp only
  split
  with_reducible exact Keeps.refl _
  with_reducible refine Keeps.ite (fun _ => ?_) (fun _ => ?_)
  with_reducible exact Keeps.refl _
  split
  with_reducible refine Keeps.ite (fun _ => ?_) (fun _ => ?_)
  with_reducible refine (completeBlock_keeps _ _ _ _ _).then_ (by decide) (by decide) ?_
  with_reducible exact Keeps.refl _
  with_reducible exact Keeps.refl _
  with_reducible refine Keeps.ite (fun _ => ?_) (fun _ => ?_)
  with_reducible refine (completeBlock_keeps _ _ _ _ _).then_ (by decide) (by decide) ?_
  with_reducible refine (setStrm_keeps _ _).then_ (by decide) (by decide) ?_
  with_reducible refine Keeps.ite (fun _ => ?_) (fun _ => ?_)
  with_reducible refine (completeBlock_keeps _ _ _ _ _).then_ (by decide) (by decide) ?_
  with_reducible exact Keeps.refl _
  with_reducible exact Keeps.refl _
  with_reducible refine (setStrm_keeps _ _).then_ (by decide) (by decide) ?_
  with_reducible refine Keeps.ite (fun _ => ?_) (fun _ => ?_)
  with_reducible refine (completeBlock_keeps _ _ _ _ _).then_ (by decide) (by decide) ?_
  with_reducible exact Keeps.refl _
  with_reducible exact Keeps.refl _

theorem edgeSamples_keeps (s : State) (src : Nat) (n : Nat) :
    Keeps [Reg.PAR_EVT_CNT, Reg.SIN_SNS_CNT, Reg.SW_CNT_VAL, Reg.SW_MSEC_STAT, Reg.TLY_CNT0] [.memory, .records, .owed, .rings, .evt, .queue, .proxies, .loss, .sns, .wire, .out] s (edgeSamples s src n) := by
  unfold edgeSamples
  try dsimp only
  with_reducible refine Keeps.foldl (fun _ _ => ?_) _ ?_
  with_reducible refine (addEdge_keeps _ _ _).then_ (by decide) (by decide) ?_
  with_reducible exact Keeps.refl _
  with_reducible exact Keeps.refl _

theorem partBlock_keeps (s : State) (x : Strm) :
    Keeps [Reg.PAR_EVT_CNT, Reg.SIN_SNS_CNT, Reg.SW_CNT_VAL, Reg.SW_MSEC_STAT, Reg.TLY_CNT0] [.memory, .records, .freeCtr, .owed, .rings, .evt, .queue, .proxies, .loss, .sns, .wire, .out] s (partBlock s x) := by
  unfold partBlock
  try dsimp only
  with_reducible refine (completeBlock_keeps _ _ _ _ _).then_ (by decide) (by decide) ?_
  with_reducible refine (freeNext_keeps _).then_ (by decide) (by decide) ?_
  with_reducible refine (freeNext_keeps _).then_ (by decide) (by decide) ?_
  with_reducible exact Keeps.refl _

theorem closeBlocks_keeps (s : State) :
    Keeps [Reg.PAR_EVT_CNT, Reg.SIN_SNS_CNT, Reg.SW_CNT_VAL, Reg.SW_MSEC_STAT, Reg.TLY_CNT0] [.memory, .records, .freeCtr, .owed, .rings, .evt, .queue, .proxies, .loss, .sns, .wire, .out] s (closeBlocks s) := by
  unfold closeBlocks
  try dsimp only
  with_reducible refine Keeps.foldl (fun _ _ => ?_) _ ?_
  with_reducible refine Keeps.ite (fun _ => ?_) (fun _ => ?_)
  with_reducible refine (completeBlock_keeps _ _ _ _ _).then_ (by decide) (by decide) ?_
  with_reducible exact Keeps.refl _
  with_reducible refine Keeps.ite (fun _ => ?_) (fun _ => ?_)
  with_reducible exact Keeps.refl _
  with_reducible refine (partBlock_keeps _ _).then_ (by decide) (by decide) ?_
  with_reducible exact Keeps.refl _
  with_reducible exact Keeps.refl _

theorem wakeStrm_keeps (s : State) (x : Strm) :
    Keeps [Reg.PAR_EVT_CNT, Reg.SIN_SNS_CNT, Reg.SW_CNT_VAL, Reg.SW_MSEC_STAT, Reg.TLY_CNT0] [.memory, .records, .owed, .rings, .evt, .queue, .proxies, .loss, .sns, .wire, .out] s (wakeStrm s x) := by
  unfold wakeStrm
  try dsimp only
  with_reducible refine Keeps.ite (fun _ => ?_) (fun _ => ?_)
  with_reducible refine (addEdge_keeps _ _ _).then_ (by decide) (by decide) ?_
  with_reducible refine (setStrm_keeps _ _).then_ (by decide) (by decide) ?_
  with_reducible exact Keeps.refl _
  with_reducible refine (setStrm_keeps _ _).then_ (by decide) (by decide) ?_
  with_reducible exact Keeps.refl _

theorem wakeStreams_keeps (s : State) :
    Keeps [Reg.PAR_EVT_CNT, Reg.SIN_SNS_CNT, Reg.SW_CNT_VAL, Reg.SW_MSEC_STAT, Reg.TLY_CNT0] [.memory, .records, .owed, .rings, .evt, .queue, .proxies, .loss, .sns, .wire, .out] s (wakeStreams s) := by
  unfold wakeStreams
  try dsimp only
  with_reducible refine Keeps.foldl (fun _ _ => ?_) _ ?_
  with_reducible refine (wakeStrm_keeps _ _).then_ (by decide) (by decide) ?_
  with_reducible exact Keeps.refl _
  with_reducible exact Keeps.refl _

theorem sealStreams_keeps (s : State) :
    Keeps [Reg.SIN_SCHED, Reg.SIN_STREAMS] [.sns] s (sealStreams s) := by
  unfold sealStreams
  try dsimp only
  with_reducible refine (showStreams_keeps _).then_ (by decide) (by decide) ?_
  with_reducible refine Keeps.set_sns (by decide) ?_
  with_reducible exact Keeps.refl _

end Sys2Proof.Machine
end

