-- ==== Sys2Proof/Laws/Buffer.lean ====
section
/-! SUPPORT.
What the operations of Machine/Buffer.lean change, and that they keep a sound state sound.
-/

namespace Sys2Proof.Machine

theorem swDrop_keeps (s : State) (ctr : Nat) (port : Nat) (cls : Nat) (n : Nat) (parts : List Nat) :
    Keeps [Reg.SW_CNT_VAL] [.loss, .wire] s (swDrop s ctr port cls n parts) := by
  unfold swDrop
  try dsimp only
  with_reducible refine (countLoss_keeps _ _ _ _).then_ (by decide) (by decide) ?_
  with_reducible refine (swCount_keeps _ _ _ _ _).then_ (by decide) (by decide) ?_
  with_reducible exact Keeps.refl _

theorem showCells_keeps (s : State) :
    Keeps [Reg.SW_BUF_STATUS] [] s (showCells s) := by
  unfold showCells
  try dsimp only
  with_reducible refine Keeps.wr (in_SW_BUF_STATUS_MIN_FREE) (by decide) ?_
  with_reducible refine Keeps.wr (in_SW_BUF_STATUS_FREE_CELLS) (by decide) ?_
  with_reducible exact Keeps.refl _

theorem setQueue_keeps (s : State) (port : Nat) (cls : Nat) (l : List QFrame) :
    Keeps [Reg.SW_BUF_STATUS] [.sw] s (setQueue s port cls l) := by
  unfold setQueue
  try dsimp only
  with_reducible refine (showCells_keeps _).then_ (by decide) (by decide) ?_
  with_reducible refine Keeps.set_sw (by decide) ⟨rfl, rfl, rfl⟩ ?_
  with_reducible exact Keeps.refl _

theorem showGuar_keeps (s : State) :
    Keeps [Reg.SW_BUF_CFG] [] s (showGuar s) := by
  unfold showGuar
  try dsimp only
  with_reducible refine Keeps.put (in_SW_BUF_CFG_GUAR_ERR) (by decide) ?_
  with_reducible exact Keeps.refl _

theorem stepGates_keeps (s : State) (offset : Int) :
    Keeps [] [.sw] s (stepGates s offset) := by
  unfold stepGates
  try dsimp only
  with_reducible refine Keeps.foldl (fun _ _ => ?_) _ ?_
  split
  with_reducible refine Keeps.set_sw (by decide) ⟨rfl, rfl, rfl⟩ ?_
  with_reducible exact Keeps.refl _
  with_reducible exact Keeps.refl _
  with_reducible exact Keeps.refl _

theorem dropHost_keeps (s : State) (p : Nat) :
    Keeps [Reg.SW_CNT_VAL, Reg.SW_BUF_STATUS] [.loss, .sw, .wire] s (dropHost s p) := by
  unfold dropHost
  try dsimp only
  with_reducible refine Keeps.foldl (fun _ _ => ?_) _ ?_
  with_reducible refine Keeps.ite (fun _ => ?_) (fun _ => ?_)
  with_reducible exact Keeps.refl _
  with_reducible refine (swDrop_keeps _ _ _ _ _ _).then_ (by decide) (by decide) ?_
  with_reducible refine (setQueue_keeps _ _ _ _).then_ (by decide) (by decide) ?_
  with_reducible exact Keeps.refl _
  with_reducible exact Keeps.refl _

end Sys2Proof.Machine
end

