-- ==== Sys2Proof/Laws/Work.lean ====
section
/-! SUPPORT.
What the operations of Machine/Work.lean change, and that they keep a sound state sound.
-/

namespace Sys2Proof.Machine

theorem cutStorePart_keeps (s : State) (p : Nat) :
    Keeps [Reg.STO_WB_STATUS] [.freeCtr, .sto] s (cutStorePart s p) := by
  unfold cutStorePart
  try dsimp only
  with_reducible refine Keeps.set_sto (by decide) ?_
  with_reducible refine Keeps.foldl (fun _ _ => ?_) _ ?_
  with_reducible refine (endJobPart_keeps _ _).then_ (by decide) (by decide) ?_
  with_reducible exact Keeps.refl _
  with_reducible exact Keeps.refl _

theorem cutJobs_keeps (s : State) :
    Keeps [] [.inf] s (cutJobs s) := by
  unfold cutJobs
  try dsimp only
  with_reducible refine Keeps.set_inf (by decide) ?_
  with_reducible exact Keeps.refl _

theorem freeCtx_keeps (s : State) (c : Nat) :
    Keeps [Reg.INF_CTX_STAT, Reg.INF_CTX_EXEC, Reg.INF_MEM] [.inf] s (freeCtx s c) := by
  unfold freeCtx
  try dsimp only
  with_reducible refine Keeps.wr (in_INF_CTX_EXEC_EXEC_B _) (by decide) ?_
  with_reducible refine Keeps.wr (in_INF_CTX_EXEC_EXEC_A _) (by decide) ?_
  with_reducible refine Keeps.wr (in_INF_CTX_STAT_IMAGE_ID _) (by decide) ?_
  with_reducible refine Keeps.wr (in_INF_CTX_STAT_JCLASS _) (by decide) ?_
  with_reducible refine Keeps.wr (in_INF_CTX_STAT_MODE _) (by decide) ?_
  with_reducible refine Keeps.wr (in_INF_CTX_STAT_STATE _) (by decide) ?_
  with_reducible refine Keeps.bump (in_INF_MEM_B_FREE) (by decide) ?_
  with_reducible refine Keeps.bump (in_INF_MEM_A_FREE) (by decide) ?_
  with_reducible refine Keeps.set_inf (by decide) ?_
  with_reducible exact Keeps.refl _

theorem abortLoad_keeps (s : State) (p : Nat) :
    Keeps [Reg.INF_CTX_STAT, Reg.INF_CTX_EXEC, Reg.INF_MEM] [.inf] s (abortLoad s p) := by
  unfold abortLoad
  try dsimp only
  with_reducible refine Keeps.foldl (fun _ _ => ?_) _ ?_
  with_reducible refine (freeCtx_keeps _ _).then_ (by decide) (by decide) ?_
  with_reducible exact Keeps.refl _
  with_reducible exact Keeps.refl _

theorem dropStreams_keeps (s : State) (p : Nat) :
    Keeps [Reg.SIN_SCHED, Reg.SIN_STREAMS] [.sns] s (dropStreams s p) := by
  unfold dropStreams
  try dsimp only
  with_reducible refine (showStreams_keeps _).then_ (by decide) (by decide) ?_
  with_reducible refine Keeps.set_sns (by decide) ?_
  with_reducible exact Keeps.refl _

theorem dropOthers_keeps (s : State) (p : Nat) :
    Keeps [] [.sw, .inf, .sec] s (dropOthers s p) := by
  unfold dropOthers
  try dsimp only
  with_reducible refine Keeps.rebuilt ?_ ?_ ?_
  · with_reducible exact .inr ⟨rfl, rfl, rfl⟩
  · with_reducible exact ⟨.inr rfl, .inr rfl, .inr rfl, .inr rfl, .inr rfl, .inr rfl, .inr rfl, .inr rfl, .inr rfl, .inr rfl, .inr rfl, .inr rfl, .inr rfl, .inr rfl, .inr ⟨rfl, rfl, rfl⟩, .inr rfl, .inr ⟨rfl, rfl⟩, .inr rfl, .inr rfl, .inr rfl, .inr ⟨rfl, rfl⟩, .inr rfl, .inl (by decide), .inr ⟨rfl, rfl, rfl⟩, .inr rfl, .inr rfl, .inl (by decide), .inr rfl, .inl (by decide), .inr rfl, .inr rfl, .inr rfl⟩
  with_reducible exact Keeps.refl _

theorem clearSlots_keeps (s : State) (hit : Nat → Bool) :
    Keeps [Reg.SEC_KEY_STATE] [.sec] s (clearSlots s hit) := by
  unfold clearSlots
  try dsimp only
  with_reducible refine Keeps.set_sec (by decide) ?_
  with_reducible refine Keeps.wr (in_SEC_KEY_STATE_FILLED) (by decide) ?_
  with_reducible exact Keeps.refl _

theorem dropPart_keeps (s : State) (p : Nat) :
    Keeps [Reg.SIN_SCHED, Reg.SIN_STREAMS, Reg.SW_CNT_VAL, Reg.SW_BUF_STATUS, Reg.INF_CTX_STAT, Reg.INF_CTX_EXEC, Reg.INF_MEM, Reg.STO_WB_STATUS] [.freeCtr, .rng, .act, .loss, .sns, .sw, .wire, .sub, .inf, .sto, .sec] s (dropPart s p) := by
  unfold dropPart
  try dsimp only
  with_reducible refine Keeps.set_rng (by decide) rfl rfl ?_
  with_reducible refine (dropHost_keeps _ _).then_ (by decide) (by decide) ?_
  with_reducible refine (abortLoad_keeps _ _).then_ (by decide) (by decide) ?_
  with_reducible refine (cutStorePart_keeps _ _).then_ (by decide) (by decide) ?_
  with_reducible refine (dropOthers_keeps _ _).then_ (by decide) (by decide) ?_
  with_reducible refine (dropBus_keeps _ _).then_ (by decide) (by decide) ?_
  with_reducible refine (dropStreams_keeps _ _).then_ (by decide) (by decide) ?_
  with_reducible refine (dropSeqs_keeps _ _).then_ (by decide) (by decide) ?_
  with_reducible exact Keeps.refl _

theorem detach_keeps (s : State) (p : Nat) (cause : Nat) :
    Keeps [Reg.CHN_ATTACH, Reg.PAR_STATE, Reg.PAR_EVT_CNT, Reg.ACT_CLAIM, Reg.ACT_CNT, Reg.HS_STATE, Reg.HB_STATE, Reg.SV_STATE, Reg.SV_KRES, Reg.SV_CNT2, Reg.LED_STATE, Reg.FIO_CAUSE, Reg.SIN_SCHED, Reg.SIN_STREAMS, Reg.SW_CNT_VAL, Reg.SW_BUF_STATUS, Reg.SW_MSEC_STAT, Reg.INF_CTX_STAT, Reg.INF_CTX_EXEC, Reg.INF_MEM, Reg.STO_WB_STATUS, Reg.TLY_CNT0] [.records, .freeCtr, .owed, .rng, .rings, .evt, .queue, .proxies, .act, .chs, .loss, .sns, .sw, .wire, .sub, .inf, .sto, .sec, .out] s (detach s p cause) := by
  unfold detach
  try dsimp only
  with_reducible refine Keeps.ite (fun _ => ?_) (fun _ => ?_)
  with_reducible refine (dropPart_keeps _ _).then_ (by decide) (by decide) ?_
  with_reducible refine (orphanPart_keeps _ _).then_ (by decide) (by decide) ?_
  with_reducible refine (raise_keeps _ _ _ _ _).then_ (by decide) (by decide) ?_
  with_reducible refine Keeps.wr (in_PAR_STATE_STATE _) (by decide) ?_
  with_reducible refine (setProxy_keeps _ _ _).then_ (by decide) (by decide) ?_
  with_reducible refine Keeps.wr (in_CHN_ATTACH_ATTACHED) (by decide) ?_
  with_reducible exact Keeps.refl _
  with_reducible exact Keeps.refl _

theorem detachAll_keeps (s : State) (cause : Nat) :
    Keeps [Reg.CHN_ATTACH, Reg.PAR_STATE, Reg.PAR_EVT_CNT, Reg.ACT_CLAIM, Reg.ACT_CNT, Reg.HS_STATE, Reg.HB_STATE, Reg.SV_STATE, Reg.SV_KRES, Reg.SV_CNT2, Reg.LED_STATE, Reg.FIO_CAUSE, Reg.SIN_SCHED, Reg.SIN_STREAMS, Reg.SW_CNT_VAL, Reg.SW_BUF_STATUS, Reg.SW_MSEC_STAT, Reg.INF_CTX_STAT, Reg.INF_CTX_EXEC, Reg.INF_MEM, Reg.STO_WB_STATUS, Reg.TLY_CNT0] [.records, .freeCtr, .owed, .rng, .rings, .evt, .queue, .proxies, .act, .chs, .loss, .sns, .sw, .wire, .sub, .inf, .sto, .sec, .out] s (detachAll s cause) := by
  unfold detachAll
  try dsimp only
  with_reducible refine Keeps.foldl (fun _ _ => ?_) _ ?_
  with_reducible refine (detach_keeps _ _ _).then_ (by decide) (by decide) ?_
  with_reducible exact Keeps.refl _
  with_reducible exact Keeps.refl _

theorem showRing_keeps (s : State) :
    Keeps [Reg.RNG_BASE, Reg.RNG_CFG, Reg.RNG_SHADOW, Reg.RNG_IDX, Reg.RNG_IDX2] [] s (showRing s) := by
  unfold showRing
  try dsimp only
  with_reducible refine Keeps.wr (in_RNG_IDX2_CIDX) (by decide) ?_
  with_reducible refine Keeps.wr (in_RNG_IDX_PIDX) (by decide) ?_
  with_reducible refine Keeps.wr (in_RNG_SHADOW_SHADOW) (by decide) ?_
  with_reducible refine Keeps.put (in_RNG_CFG_EN) (by decide) ?_
  with_reducible refine Keeps.wr (in_RNG_CFG_PRIO) (by decide) ?_
  with_reducible refine Keeps.wr (in_RNG_CFG_SIZE_LOG2) (by decide) ?_
  with_reducible refine Keeps.wr (in_RNG_BASE_BASE) (by decide) ?_
  with_reducible exact Keeps.refl _

theorem ringResult_keeps (s : State) (r : Nat × Nat) :
    Keeps [Reg.RNG_STATUS] [] s (ringResult s r) := by
  unfold ringResult
  try dsimp only
  with_reducible refine Keeps.wr (in_RNG_STATUS_FAIL_RING) (by decide) ?_
  with_reducible refine Keeps.wr (in_RNG_STATUS_RESULT) (by decide) ?_
  with_reducible exact Keeps.refl _

theorem disarm_keeps (s : State) (k : Nat) :
    Keeps [] [.layout, .rings] s (disarm s k) := by
  unfold disarm
  try dsimp only
  with_reducible refine Keeps.setRing (by decide) (by decide) ?_
  with_reducible exact Keeps.refl _

theorem dropFetches_keeps (s : State) (p : Nat) (e : Nat) :
    Keeps [] [.proxies] s (dropFetches s p e) := by
  unfold dropFetches
  try dsimp only
  with_reducible refine (setProxy_keeps _ _ _).then_ (by decide) (by decide) ?_
  with_reducible exact Keeps.refl _

theorem dropEngine_keeps (s : State) (e : Nat) :
    Keeps [Reg.SIN_SCHED, Reg.SIN_STREAMS, Reg.INF_CTX_STAT, Reg.INF_CTX_EXEC, Reg.INF_CH_STAT, Reg.INF_MEM, Reg.STO_WB_STATUS] [.freeCtr, .rng, .act, .chs, .sns, .sw, .sub, .inf, .sto, .sec] s (dropEngine s e) := by
  unfold dropEngine
  have h1 : Keeps [] [.rng] s { s with rng := { s.rng with work := s.rng.work.filter (fun w => w.eng != e) } } :=
    Keeps.upd (t := s) rfl rfl (Or.inr ⟨rfl, rfl, rfl⟩)
      (fun x hx hp => by cases x <;> first | rfl | exact ⟨rfl, rfl⟩ | exact ⟨rfl, rfl, rfl⟩ | exact absurd (by decide) hx | cases hp) (Keeps.refl _)
  extract_lets r s1
  replace h1 : Keeps [] [.rng] s s1 := h1
  clear_value s1
  split <;> try dsimp only
  with_reducible refine Keeps.foldl (fun _ _ => ?_) _ ?_
  with_reducible refine (dropJob_keeps _ _).then_ (by decide) (by decide) ?_
  with_reducible exact Keeps.refl _
  with_reducible refine (dropSeqs_keeps _ _).then_ (by decide) (by decide) ?_
  with_reducible exact h1.then_ (by decide) (by decide) (Keeps.refl _)
  with_reducible refine (showStreams_keeps _).then_ (by decide) (by decide) ?_
  with_reducible refine Keeps.set_sns (by decide) ?_
  with_reducible exact h1.then_ (by decide) (by decide) (Keeps.refl _)
  with_reducible refine Keeps.set_sw (by decide) ⟨rfl, rfl, rfl⟩ ?_
  with_reducible exact h1.then_ (by decide) (by decide) (Keeps.refl _)
  with_reducible refine Keeps.foldl (fun _ _ => ?_) _ ?_
  with_reducible refine (dropBus_keeps _ _).then_ (by decide) (by decide) ?_
  with_reducible exact Keeps.refl _
  with_reducible exact h1.then_ (by decide) (by decide) (Keeps.refl _)
  with_reducible refine Keeps.foldl (fun _ _ => ?_) _ ?_
  with_reducible refine (cutStorePart_keeps _ _).then_ (by decide) (by decide) ?_
  with_reducible exact Keeps.refl _
  with_reducible exact h1.then_ (by decide) (by decide) (Keeps.refl _)
  with_reducible refine Keeps.ite (fun _ => ?_) (fun _ => ?_)
  with_reducible refine Keeps.wr (in_INF_CH_STAT_B_STATE) (by decide) ?_
  with_reducible refine Keeps.ite (fun _ => ?_) (fun _ => ?_)
  with_reducible refine Keeps.wr (in_INF_CH_STAT_A_STATE) (by decide) ?_
  with_reducible refine Keeps.foldl (fun _ _ => ?_) _ ?_
  with_reducible refine (abortLoad_keeps _ _).then_ (by decide) (by decide) ?_
  with_reducible exact Keeps.refl _
  with_reducible refine Keeps.set_inf (by decide) ?_
  with_reducible refine (cutJobs_keeps _).then_ (by decide) (by decide) ?_
  with_reducible exact h1.then_ (by decide) (by decide) (Keeps.refl _)
  with_reducible refine Keeps.foldl (fun _ _ => ?_) _ ?_
  with_reducible refine (abortLoad_keeps _ _).then_ (by decide) (by decide) ?_
  with_reducible exact Keeps.refl _
  with_reducible refine Keeps.set_inf (by decide) ?_
  with_reducible refine (cutJobs_keeps _).then_ (by decide) (by decide) ?_
  with_reducible exact h1.then_ (by decide) (by decide) (Keeps.refl _)
  with_reducible refine Keeps.ite (fun _ => ?_) (fun _ => ?_)
  with_reducible refine Keeps.wr (in_INF_CH_STAT_A_STATE) (by decide) ?_
  with_reducible refine Keeps.foldl (fun _ _ => ?_) _ ?_
  with_reducible refine (abortLoad_keeps _ _).then_ (by decide) (by decide) ?_
  with_reducible exact Keeps.refl _
  with_reducible refine Keeps.set_inf (by decide) ?_
  with_reducible refine (cutJobs_keeps _).then_ (by decide) (by decide) ?_
  with_reducible exact h1.then_ (by decide) (by decide) (Keeps.refl _)
  with_reducible refine Keeps.foldl (fun _ _ => ?_) _ ?_
  with_reducible refine (abortLoad_keeps _ _).then_ (by decide) (by decide) ?_
  with_reducible exact Keeps.refl _
  with_reducible refine Keeps.set_inf (by decide) ?_
  with_reducible refine (cutJobs_keeps _).then_ (by decide) (by decide) ?_
  with_reducible exact h1.then_ (by decide) (by decide) (Keeps.refl _)
  with_reducible refine Keeps.set_sec (by decide) ?_
  with_reducible exact h1.then_ (by decide) (by decide) (Keeps.refl _)

theorem resetEngine_keeps (s : State) (e : Nat) :
    Keeps [Reg.PAR_EVT_CNT, Reg.RNG_BASE, Reg.RNG_CFG, Reg.RNG_SHADOW, Reg.RNG_STATUS, Reg.RNG_IDX, Reg.RNG_IDX2, Reg.SIN_SCHED, Reg.SIN_STREAMS, Reg.SW_CNT_VAL, Reg.SW_MSEC_STAT, Reg.INF_CTX_STAT, Reg.INF_CTX_EXEC, Reg.INF_CH_STAT, Reg.INF_MEM, Reg.STO_WB_STATUS, Reg.TLY_CNT0] [.records, .layout, .freeCtr, .owed, .rng, .rings, .evt, .queue, .proxies, .act, .chs, .loss, .sns, .sw, .wire, .sub, .inf, .sto, .sec, .out] s (resetEngine s e) := by
  unfold resetEngine
  try dsimp only
  with_reducible refine (showRing_keeps _).then_ (by decide) (by decide) ?_
  with_reducible refine (ringResult_keeps _ _).then_ (by decide) (by decide) ?_
  with_reducible refine (raise_keeps _ _ _ _ _).then_ (by decide) (by decide) ?_
  with_reducible refine Keeps.foldl (fun _ _ => ?_) _ ?_
  with_reducible refine (dropFetches_keeps _ _ _).then_ (by decide) (by decide) ?_
  with_reducible refine Keeps.foldl (fun _ _ => ?_) _ ?_
  with_reducible refine (disarm_keeps _ _).then_ (by decide) (by decide) ?_
  with_reducible exact Keeps.refl _
  with_reducible exact Keeps.refl _
  with_reducible refine (dropEngine_keeps _ _).then_ (by decide) (by decide) ?_
  with_reducible exact Keeps.refl _

theorem endChecks_keeps (s : State) :
    Keeps [Reg.PAR_LAYOUT_CTL, Reg.PAR_EVT_CNT, Reg.RNG_BASE, Reg.RNG_CFG, Reg.RNG_SHADOW, Reg.RNG_STATUS, Reg.RNG_IDX, Reg.RNG_IDX2, Reg.ACT_LIMP_CTL, Reg.SIN_SCHED, Reg.SIN_STREAMS, Reg.SW_CNT_VAL, Reg.SW_STATUS, Reg.SW_MSEC_STAT, Reg.INF_CTX_STAT, Reg.INF_CTX_EXEC, Reg.INF_CH_STAT, Reg.INF_MEM, Reg.STO_NS_STATUS, Reg.STO_WB_STATUS, Reg.TLY_CNT0] [.records, .layout, .freeCtr, .owed, .rng, .rings, .evt, .queue, .proxies, .act, .chs, .loss, .sns, .sw, .wire, .sub, .inf, .sto, .sec, .out] s (endChecks s) := by
  unfold endChecks
  try dsimp only
  split
  with_reducible refine Keeps.ite (fun _ => ?_) (fun _ => ?_)
  with_reducible refine (resetEngine_keeps _ _).then_ (by decide) (by decide) ?_
  with_reducible refine Keeps.put (in_SW_STATUS_TBL_BUSY) (by decide) ?_
  with_reducible refine Keeps.put (in_STO_NS_STATUS_BUSY) (by decide) ?_
  with_reducible refine Keeps.put (in_ACT_LIMP_CTL_STAGE) (by decide) ?_
  with_reducible refine Keeps.put (in_PAR_LAYOUT_CTL_APPLY) (by decide) ?_
  with_reducible refine Keeps.put (in_RNG_STATUS_BUSY) (by decide) ?_
  with_reducible refine Keeps.set_rng (by decide) rfl rfl ?_
  with_reducible exact Keeps.refl _
  with_reducible refine Keeps.put (in_SW_STATUS_TBL_BUSY) (by decide) ?_
  with_reducible refine Keeps.put (in_STO_NS_STATUS_BUSY) (by decide) ?_
  with_reducible refine Keeps.put (in_ACT_LIMP_CTL_STAGE) (by decide) ?_
  with_reducible refine Keeps.put (in_PAR_LAYOUT_CTL_APPLY) (by decide) ?_
  with_reducible refine Keeps.put (in_RNG_STATUS_BUSY) (by decide) ?_
  with_reducible refine Keeps.set_rng (by decide) rfl rfl ?_
  with_reducible exact Keeps.refl _
  with_reducible refine Keeps.put (in_SW_STATUS_TBL_BUSY) (by decide) ?_
  with_reducible refine Keeps.put (in_STO_NS_STATUS_BUSY) (by decide) ?_
  with_reducible refine Keeps.put (in_ACT_LIMP_CTL_STAGE) (by decide) ?_
  with_reducible refine Keeps.put (in_PAR_LAYOUT_CTL_APPLY) (by decide) ?_
  with_reducible refine Keeps.put (in_RNG_STATUS_BUSY) (by decide) ?_
  with_reducible refine Keeps.set_rng (by decide) rfl rfl ?_
  with_reducible exact Keeps.refl _

end Sys2Proof.Machine
end

