-- ==== Sys2Proof/Laws/Domains.lean ====
section
/-! SUPPORT.
What the operations of Machine/Domains.lean change, and that they keep a sound state sound.
-/

namespace Sys2Proof.Machine

theorem showDomains_keeps (s : State) :
    Keeps [Reg.PWR_DOM_STATUS] [] s (showDomains s) := by
  unfold showDomains
  try dsimp only
  with_reducible refine Keeps.foldl (fun _ _ => ?_) _ ?_
  with_reducible refine Keeps.wr (in_PWR_DOM_STATUS_ON _) (by decide) ?_
  with_reducible exact Keeps.refl _
  with_reducible exact Keeps.refl _

theorem refreshCur_keeps (s : State) :
    Keeps [Reg.PWR_ADAPT] [] s (refreshCur s) := by
  unfold refreshCur
  try dsimp only
  with_reducible refine Keeps.wr (in_PWR_ADAPT_CUR_T) (by decide) ?_
  with_reducible exact Keeps.refl _

theorem adapt_keeps (s : State) (deep : Bool) (accepted : Nat) :
    Keeps [Reg.PWR_ADAPT] [.pwr] s (adapt s deep accepted) := by
  unfold adapt
  try dsimp only
  with_reducible refine Keeps.ite (fun _ => ?_) (fun _ => ?_)
  with_reducible refine Keeps.ite (fun _ => ?_) (fun _ => ?_)
  with_reducible refine (refreshCur_keeps _).then_ (by decide) (by decide) ?_
  with_reducible refine Keeps.wr (in_PWR_ADAPT_CUR_T) (by decide) ?_
  with_reducible refine Keeps.set_pwr (by decide) rfl rfl ?_
  with_reducible exact Keeps.refl _
  with_reducible refine Keeps.set_pwr (by decide) rfl rfl ?_
  with_reducible exact Keeps.refl _
  with_reducible exact Keeps.refl _

theorem feedNow_keeps (s : State) :
    Keeps [] [.spar] s (feedNow s) := by
  unfold feedNow
  try dsimp only
  with_reducible refine Keeps.set_spar (by decide) ?_
  with_reducible exact Keeps.refl _

theorem firstInstr_keeps (s : State) :
    Keeps [] [.spar, .pwr] s (firstInstr s) := by
  unfold firstInstr
  try dsimp only
  with_reducible refine Keeps.rebuilt ?_ ?_ ?_
  · with_reducible exact .inr ⟨rfl, rfl, rfl⟩
  · with_reducible exact ⟨.inr rfl, .inr rfl, .inr rfl, .inr rfl, .inl (by decide), .inr rfl, .inl (by decide), .inr rfl, .inr rfl, .inr rfl, .inr rfl, .inr rfl, .inr rfl, .inr rfl, .inr ⟨rfl, rfl, rfl⟩, .inr rfl, .inr ⟨rfl, rfl⟩, .inr rfl, .inr rfl, .inr rfl, .inr ⟨rfl, rfl⟩, .inr rfl, .inr rfl, .inr ⟨rfl, rfl, rfl⟩, .inr rfl, .inr rfl, .inr rfl, .inr rfl, .inr rfl, .inr rfl, .inr rfl, .inr rfl⟩
  with_reducible refine (feedNow_keeps _).then_ (by decide) (by decide) ?_
  with_reducible exact Keeps.refl _

theorem segWake_keeps (s : State) :
    Keeps [] [.out] s (segWake s) := by
  unfold segWake
  try dsimp only
  with_reducible refine Keeps.foldl (fun _ _ => ?_) _ ?_
  with_reducible refine Keeps.ite (fun _ => ?_) (fun _ => ?_)
  with_reducible refine (emit_keeps _ _).then_ (by decide) (by decide) ?_
  with_reducible exact Keeps.refl _
  with_reducible exact Keeps.refl _
  with_reducible exact Keeps.refl _

theorem reportWake_keeps (s : State) (code : Nat) (index : Nat) (attempt : Nat) :
    Keeps [Reg.WAK_REASON] [] s (reportWake s code index attempt) := by
  unfold reportWake
  try dsimp only
  with_reducible refine Keeps.wr (in_WAK_REASON_ATTEMPT) (by decide) ?_
  with_reducible refine Keeps.wr (in_WAK_REASON_INDEX) (by decide) ?_
  with_reducible refine Keeps.wr (in_WAK_REASON_CODE) (by decide) ?_
  with_reducible exact Keeps.refl _

theorem wakeDone_keeps (s : State) (causes : List Nat) :
    Keeps [Reg.PAR_EVT_CNT, Reg.SW_CNT_VAL, Reg.SW_MSEC_STAT, Reg.TLY_CNT0] [.records, .owed, .rings, .evt, .queue, .proxies, .loss, .wire, .out] s (wakeDone s causes) := by
  unfold wakeDone
  try dsimp only
  with_reducible refine Keeps.ite (fun _ => ?_) (fun _ => ?_)
  with_reducible refine (raise_keeps _ _ _ _ _).then_ (by decide) (by decide) ?_
  with_reducible exact Keeps.refl _
  with_reducible refine (raise_keeps _ _ _ _ _).then_ (by decide) (by decide) ?_
  with_reducible refine (raise_keeps _ _ _ _ _).then_ (by decide) (by decide) ?_
  with_reducible exact Keeps.refl _

theorem switchLost_keeps (s : State) :
    Keeps [Reg.SW_STATUS, Reg.SW_BUF_STATUS, Reg.SW_MSEC_STAT] [.sw, .wire] s (switchLost s) := by
  unfold switchLost
  try dsimp only
  with_reducible refine Keeps.wr (in_SW_STATUS_ENTRIES) (by decide) ?_
  with_reducible refine Keeps.wr (in_SW_BUF_STATUS_FREE_CELLS) (by decide) ?_
  with_reducible refine Keeps.set_sw_wire (by decide) (by decide) ?_
  with_reducible refine Keeps.foldl (fun _ _ => ?_) _ ?_
  with_reducible refine Keeps.wr (in_SW_MSEC_STAT_PN_WARN _) (by decide) ?_
  with_reducible refine Keeps.wr (in_SW_MSEC_STAT_TX_ACTIVE _) (by decide) ?_
  with_reducible refine Keeps.wr (in_SW_MSEC_STAT_TX_AN _) (by decide) ?_
  with_reducible refine Keeps.wr (in_SW_MSEC_STAT_RX_AN_VALID _) (by decide) ?_
  with_reducible exact Keeps.refl _
  with_reducible exact Keeps.refl _

theorem clocksInSleep_keeps (s : State) :
    Keeps [Reg.CLK_SRC, Reg.CLK_STATUS, Reg.SUB_CAN_STAT, Reg.SUB_LIN_STAT] [.sub] s (clocksInSleep s) := by
  unfold clocksInSleep
  try dsimp only
  with_reducible refine Keeps.ite (fun _ => ?_) (fun _ => ?_)
  with_reducible refine Keeps.put (in_CLK_SRC_SRC_APP) (by decide) ?_
  with_reducible refine Keeps.put (in_CLK_STATUS_LOCK _) (by decide) ?_
  with_reducible exact Keeps.refl _
  with_reducible refine (showBuses_keeps _).then_ (by decide) (by decide) ?_
  with_reducible refine Keeps.put (in_CLK_SRC_SRC_SAF) (by decide) ?_
  with_reducible refine Keeps.put (in_CLK_SRC_SRC_FAB) (by decide) ?_
  with_reducible refine Keeps.put (in_CLK_STATUS_LOCK _) (by decide) ?_
  with_reducible refine Keeps.put (in_CLK_SRC_SRC_APP) (by decide) ?_
  with_reducible refine Keeps.put (in_CLK_STATUS_LOCK _) (by decide) ?_
  with_reducible exact Keeps.refl _

theorem ctxReloading_keeps (s : State) (c : Nat) :
    Keeps [Reg.INF_CTX_STAT] [] s (ctxReloading s c) := by
  unfold ctxReloading
  try dsimp only
  with_reducible refine Keeps.ite (fun _ => ?_) (fun _ => ?_)
  with_reducible refine Keeps.wr (in_INF_CTX_STAT_STATE _) (by decide) ?_
  with_reducible exact Keeps.refl _
  with_reducible exact Keeps.refl _

theorem goSleep_keeps (s0 : State) :
    Keeps [Reg.CLK_SRC, Reg.CLK_STATUS, Reg.CHN_ATTACH, Reg.PAR_STATE, Reg.PAR_EVT_CNT, Reg.ACT_CLAIM, Reg.ACT_CNT, Reg.HS_STATE, Reg.HB_STATE, Reg.SV_STATE, Reg.SV_KRES, Reg.SV_CNT2, Reg.LED_STATE, Reg.FIO_CAUSE, Reg.SIN_SCHED, Reg.SIN_SNS_CNT, Reg.SIN_STREAMS, Reg.SW_CNT_VAL, Reg.SW_STATUS, Reg.SW_BUF_STATUS, Reg.SW_MSEC_STAT, Reg.SUB_CAN_STAT, Reg.SUB_LIN_STAT, Reg.INF_CTX_STAT, Reg.INF_CTX_EXEC, Reg.INF_MEM, Reg.STO_WB_STATUS, Reg.TLY_CNT0] [.memory, .records, .freeCtr, .spar, .pwr, .owed, .rng, .rings, .evt, .queue, .proxies, .act, .chs, .loss, .sns, .sw, .wire, .sub, .inf, .sto, .sec, .out] s0 (goSleep s0) := by
  unfold goSleep
  try dsimp only
  with_reducible refine Keeps.rebuilt ?_ ?_ ?_
  · with_reducible exact .inr ⟨rfl, rfl, rfl⟩
  · with_reducible exact ⟨.inr rfl, .inr rfl, .inr rfl, .inr rfl, .inl (by decide), .inr rfl, .inl (by decide), .inr rfl, .inr rfl, .inr rfl, .inr rfl, .inr rfl, .inr rfl, .inr rfl, .inl (by decide), .inr rfl, .inl (by decide), .inr rfl, .inr rfl, .inr rfl, .inl (by decide), .inl (by decide), .inr rfl, .inl (by decide), .inr rfl, .inr rfl, .inl (by decide), .inr rfl, .inr rfl, .inr rfl, .inr rfl, .inr rfl⟩
  with_reducible refine Keeps.foldl (fun _ _ => ?_) _ ?_
  with_reducible refine (ctxReloading_keeps _ _).then_ (by decide) (by decide) ?_
  with_reducible exact Keeps.refl _
  with_reducible refine (clocksInSleep_keeps _).then_ (by decide) (by decide) ?_
  with_reducible refine Keeps.ite (fun _ => ?_) (fun _ => ?_)
  with_reducible refine (closeBlocks_keeps _).then_ (by decide) (by decide) ?_
  with_reducible exact Keeps.refl _
  with_reducible refine (switchLost_keeps _).then_ (by decide) (by decide) ?_
  with_reducible refine (emit_keeps _ _).then_ (by decide) (by decide) ?_
  with_reducible refine (detachAll_keeps _ _).then_ (by decide) (by decide) ?_
  with_reducible refine (closeBlocks_keeps _).then_ (by decide) (by decide) ?_
  with_reducible exact Keeps.refl _

theorem outputDown_keeps (keep : List Nat) (s : State) (c : Chan) :
    Keeps [Reg.PAR_EVT_CNT, Reg.ACT_CNT, Reg.HS_STATE, Reg.HB_STATE, Reg.SV_STATE, Reg.SV_KRES, Reg.SV_CNT2, Reg.LED_STATE, Reg.FIO_CAUSE, Reg.SW_CNT_VAL, Reg.SW_MSEC_STAT, Reg.TLY_CNT0] [.records, .freeCtr, .owed, .rng, .rings, .evt, .queue, .proxies, .chs, .loss, .wire, .out] s (outputDown keep s c) := by
  unfold outputDown
  try dsimp only
  with_reducible refine Keeps.ite (fun _ => ?_) (fun _ => ?_)
  with_reducible exact Keeps.refl _
  with_reducible refine (setChn_keeps _ _ _).then_ (by decide) (by decide) ?_
  with_reducible refine (switch1_keeps _ _ _).then_ (by decide) (by decide) ?_
  with_reducible refine (endJob_keeps _ _ _).then_ (by decide) (by decide) ?_
  with_reducible refine (endWait_keeps _ _ _).then_ (by decide) (by decide) ?_
  with_reducible refine (abortKerf_keeps _ _).then_ (by decide) (by decide) ?_
  with_reducible refine Keeps.ite (fun _ => ?_) (fun _ => ?_)
  with_reducible refine (posLost_keeps _ _).then_ (by decide) (by decide) ?_
  with_reducible exact Keeps.refl _
  with_reducible exact Keeps.refl _

theorem outputsDown_keeps (s : State) (keep : List Nat) :
    Keeps [Reg.PAR_EVT_CNT, Reg.ACT_CNT, Reg.HS_STATE, Reg.HB_STATE, Reg.SV_STATE, Reg.SV_KRES, Reg.SV_CNT2, Reg.LED_STATE, Reg.FIO_CAUSE, Reg.SW_CNT_VAL, Reg.SW_MSEC_STAT, Reg.TLY_CNT0] [.records, .freeCtr, .owed, .rng, .rings, .evt, .queue, .proxies, .act, .chs, .loss, .wire, .out] s (outputsDown s keep) := by
  unfold outputsDown
  try dsimp only
  with_reducible refine Keeps.set_act (by decide) ?_
  with_reducible refine Keeps.foldl (fun _ _ => ?_) _ ?_
  with_reducible refine (outputDown_keeps _ _ _).then_ (by decide) (by decide) ?_
  with_reducible exact Keeps.refl _
  with_reducible refine (dropSeqs_keeps _ _).then_ (by decide) (by decide) ?_
  with_reducible exact Keeps.refl _

theorem diesEnd_keeps (s : State) :
    Keeps [Reg.CLK_SRC, Reg.CLK_STATUS, Reg.CHN_ATTACH, Reg.PAR_STATE, Reg.PAR_EVT_CNT, Reg.ACT_CLAIM, Reg.ACT_CNT, Reg.HS_STATE, Reg.HB_STATE, Reg.SV_STATE, Reg.SV_KRES, Reg.SV_CNT2, Reg.LED_STATE, Reg.FIO_CAUSE, Reg.SIN_SCHED, Reg.SIN_STREAMS, Reg.SW_CNT_VAL, Reg.SW_STATUS, Reg.SW_BUF_STATUS, Reg.SW_MSEC_STAT, Reg.SUB_CAN_STAT, Reg.SUB_LIN_STAT, Reg.SUB_CNT2, Reg.INF_CTX_STAT, Reg.INF_CTX_EXEC, Reg.INF_MEM, Reg.STO_WB_STATUS, Reg.SEC_KEY_STATE, Reg.TLY_CNT0] [.records, .freeCtr, .owed, .rng, .rings, .evt, .queue, .proxies, .act, .chs, .loss, .sns, .sw, .wire, .sub, .inf, .sto, .sec, .out] s (diesEnd s) := by
  unfold diesEnd
  try dsimp only
  with_reducible refine (clearSlots_keeps _ _).then_ (by decide) (by decide) ?_
  with_reducible refine Keeps.foldl (fun _ _ => ?_) _ ?_
  with_reducible refine (complete_keeps _ _ _ _ _ _).then_ (by decide) (by decide) ?_
  with_reducible exact Keeps.refl _
  with_reducible refine Keeps.wr (in_CLK_SRC_SRC_SAF) (by decide) ?_
  with_reducible refine Keeps.wr (in_CLK_SRC_SRC_FAB) (by decide) ?_
  with_reducible refine Keeps.wr (in_CLK_SRC_SRC_APP) (by decide) ?_
  with_reducible refine Keeps.foldl (fun _ _ => ?_) _ ?_
  with_reducible refine Keeps.put (in_CLK_STATUS_LOCK _) (by decide) ?_
  with_reducible exact Keeps.refl _
  with_reducible refine Keeps.wr (in_CLK_STATUS_FRC_OK) (by decide) ?_
  with_reducible refine Keeps.wr (in_CLK_STATUS_XF_OK) (by decide) ?_
  with_reducible refine (emit_keeps _ _).then_ (by decide) (by decide) ?_
  with_reducible refine Keeps.foldl (fun _ _ => ?_) _ ?_
  with_reducible refine (holdEvent_keeps _ _ _ _ _).then_ (by decide) (by decide) ?_
  with_reducible refine (freeCtx_keeps _ _).then_ (by decide) (by decide) ?_
  with_reducible exact Keeps.refl _
  with_reducible refine Keeps.foldl (fun _ _ => ?_) _ ?_
  with_reducible refine Keeps.ite (fun _ => ?_) (fun _ => ?_)
  with_reducible refine (emit_keeps _ _).then_ (by decide) (by decide) ?_
  with_reducible exact Keeps.refl _
  with_reducible exact Keeps.refl _
  with_reducible refine Keeps.foldl (fun _ _ => ?_) _ ?_
  with_reducible refine Keeps.ite (fun _ => ?_) (fun _ => ?_)
  with_reducible refine (emit_keeps _ _).then_ (by decide) (by decide) ?_
  with_reducible exact Keeps.refl _
  with_reducible exact Keeps.refl _
  with_reducible refine (switchLost_keeps _).then_ (by decide) (by decide) ?_
  with_reducible refine (sleepBuses_keeps _).then_ (by decide) (by decide) ?_
  with_reducible refine (detachAll_keeps _ _).then_ (by decide) (by decide) ?_
  with_reducible exact Keeps.refl _

theorem diesDown_keeps (s : State) :
    Keeps [Reg.CLK_SRC, Reg.CLK_STATUS, Reg.CHN_BYPASS, Reg.CHN_ATTACH, Reg.PAR_STATE, Reg.PAR_EVT_CNT, Reg.ACT_CLAIM, Reg.ACT_CNT, Reg.HS_STATE, Reg.HB_STATE, Reg.SV_STATE, Reg.SV_KRES, Reg.SV_CNT2, Reg.LED_STATE, Reg.FIO_CAUSE, Reg.SIN_SCHED, Reg.SIN_STREAMS, Reg.SW_CNT_VAL, Reg.SW_STATUS, Reg.SW_BUF_STATUS, Reg.SW_MSEC_STAT, Reg.SUB_CAN_STAT, Reg.SUB_LIN_STAT, Reg.SUB_CNT2, Reg.INF_CTX_STAT, Reg.INF_CTX_EXEC, Reg.INF_MEM, Reg.STO_WB_STATUS, Reg.SEC_KEY_STATE, Reg.TLY_CNT0] [.records, .freeCtr, .spar, .dt, .pwr, .owed, .rng, .rings, .evt, .queue, .chain, .proxies, .act, .chs, .loss, .sns, .sw, .wire, .sub, .inf, .sto, .sec, .out] s (diesDown s) := by
  unfold diesDown
  try dsimp only
  with_reducible refine (showStreams_keeps _).then_ (by decide) (by decide) ?_
  with_reducible refine Keeps.rebuilt ?_ ?_ ?_
  · with_reducible exact .inr ⟨rfl, rfl, rfl⟩
  · with_reducible exact ⟨.inr rfl, .inr rfl, .inr rfl, .inr rfl, .inl (by decide), .inl (by decide), .inl (by decide), .inr rfl, .inr rfl, .inr rfl, .inl (by decide), .inr rfl, .inr rfl, .inr rfl, .inl (by decide), .inr rfl, .inl (by decide), .inr rfl, .inr rfl, .inr rfl, .inl (by decide), .inl (by decide), .inr rfl, .inl (by decide), .inl (by decide), .inr rfl, .inl (by decide), .inl (by decide), .inl (by decide), .inr rfl, .inr rfl, .inr rfl⟩
  with_reducible refine (linkOff_keeps _).then_ (by decide) (by decide) ?_
  with_reducible refine (diesEnd_keeps _).then_ (by decide) (by decide) ?_
  with_reducible exact Keeps.refl _

theorem goDeep_keeps (s0 : State) :
    Keeps [Reg.CLK_SRC, Reg.CLK_STATUS, Reg.CHN_BYPASS, Reg.CHN_ATTACH, Reg.PAR_STATE, Reg.PAR_EVT_CNT, Reg.ACT_CLAIM, Reg.ACT_CNT, Reg.HS_STATE, Reg.HB_STATE, Reg.SV_STATE, Reg.SV_KRES, Reg.SV_CNT2, Reg.LED_STATE, Reg.FIO_CAUSE, Reg.SIN_SCHED, Reg.SIN_STREAMS, Reg.SW_CNT_VAL, Reg.SW_STATUS, Reg.SW_BUF_STATUS, Reg.SW_MSEC_STAT, Reg.SUB_CAN_STAT, Reg.SUB_LIN_STAT, Reg.SUB_CNT2, Reg.INF_CTX_STAT, Reg.INF_CTX_EXEC, Reg.INF_MEM, Reg.STO_WB_STATUS, Reg.SEC_KEY_STATE, Reg.TLY_CNT0] [.memory, .records, .freeCtr, .spar, .dt, .pwr, .owed, .banks, .rng, .rings, .evt, .queue, .chain, .proxies, .act, .chs, .loss, .sns, .sw, .wire, .sub, .inf, .sto, .sec, .out] s0 (goDeep s0) := by
  unfold goDeep
  dsimp only
  refine Keeps.remem (t := diesDown (outputsDown (detachAll s0 4) (keepList (detachAll s0 4)))) (by decide)
    (memKeep_wf _ _)
    (by constructor <;> with_reducible rfl)
    (by refine ⟨?_, ?_, ?_, ?_, ?_, ?_, ?_, ?_, ?_, ?_, ?_, ?_, ?_, ?_, ?_, ?_, ?_, ?_, ?_, ?_, ?_, ?_, ?_, ?_, ?_, ?_, ?_, ?_, ?_, ?_, ?_, ?_⟩ <;>
      first | exact Or.inl (by decide) | exact Or.inr rfl | exact Or.inr ⟨rfl, rfl⟩ | exact Or.inr ⟨rfl, rfl, rfl⟩) ?_
  refine (diesDown_keeps _).then_ (by decide) (by decide) ?_
  refine (outputsDown_keeps _ _).then_ (by decide) (by decide) ?_
  exact (detachAll_keeps _ _).then_ (by decide) (by decide) (Keeps.refl _)

theorem goOff_keeps (s : State) :
    Keeps [Reg.CLK_SRC, Reg.CLK_STATUS, Reg.CHN_BYPASS, Reg.CHN_ATTACH, Reg.PAR_STATE, Reg.PAR_EVT_CNT, Reg.ACT_CLAIM, Reg.ACT_CNT, Reg.HS_STATE, Reg.HB_STATE, Reg.SV_STATE, Reg.SV_KRES, Reg.SV_CNT2, Reg.LED_STATE, Reg.FIO_CAUSE, Reg.SIN_SCHED, Reg.SIN_STREAMS, Reg.SW_CNT_VAL, Reg.SW_STATUS, Reg.SW_BUF_STATUS, Reg.SW_MSEC_STAT, Reg.SUB_CAN_STAT, Reg.SUB_LIN_STAT, Reg.SUB_CNT2, Reg.INF_CTX_STAT, Reg.INF_CTX_EXEC, Reg.INF_MEM, Reg.STO_WB_STATUS, Reg.SEC_KEY_STATE, Reg.TLY_CNT0] [.memory, .records, .freeCtr, .spar, .dt, .pwr, .owed, .banks, .rng, .rings, .evt, .queue, .chain, .proxies, .act, .chs, .loss, .sns, .sw, .wire, .sub, .inf, .sto, .sec, .out] s (goOff s) := by
  unfold goOff
  dsimp only
  refine Keeps.remem (t := allChans.foldl (fun t c => setChn t c { chn t c with dT := offRise t c (chn t c) })
    (diesDown (outputsDown (detachAll s 4) []))) (by decide) (fun _ => ⟨⟨List.Pairwise.nil, by simp⟩, by simp⟩) ⟨rfl, rfl⟩
    (by refine ⟨?_, ?_, ?_, ?_, ?_, ?_, ?_, ?_, ?_, ?_, ?_, ?_, ?_, ?_, ?_, ?_, ?_, ?_, ?_, ?_, ?_, ?_, ?_, ?_, ?_, ?_, ?_, ?_, ?_, ?_, ?_, ?_⟩ <;>
      first | exact Or.inl (by decide) | exact Or.inr rfl | exact Or.inr ⟨rfl, rfl⟩ | exact Or.inr ⟨rfl, rfl, rfl⟩) ?_
  refine Keeps.foldl (fun _ _ => (setChn_keeps _ _ _).then_ (by decide) (by decide) (Keeps.refl _)) _ ?_
  refine (diesDown_keeps _).then_ (by decide) (by decide) ?_
  refine (outputsDown_keeps _ _).then_ (by decide) (by decide) ?_
  exact (detachAll_keeps _ _).then_ (by decide) (by decide) (Keeps.refl _)

theorem goTo_keeps (s : State) (target : Nat) :
    Keeps [Reg.CLK_SRC, Reg.CLK_STATUS, Reg.PWR_DOM_STATUS, Reg.CHN_BYPASS, Reg.CHN_ATTACH, Reg.PAR_STATE, Reg.PAR_EVT_CNT, Reg.ACT_CLAIM, Reg.ACT_CNT, Reg.HS_STATE, Reg.HB_STATE, Reg.SV_STATE, Reg.SV_KRES, Reg.SV_CNT2, Reg.LED_STATE, Reg.FIO_CAUSE, Reg.SIN_SCHED, Reg.SIN_SNS_CNT, Reg.SIN_STREAMS, Reg.SW_CNT_VAL, Reg.SW_STATUS, Reg.SW_BUF_STATUS, Reg.SW_MSEC_STAT, Reg.SUB_CAN_STAT, Reg.SUB_LIN_STAT, Reg.SUB_CNT2, Reg.INF_CTX_STAT, Reg.INF_CTX_EXEC, Reg.INF_MEM, Reg.STO_WB_STATUS, Reg.SEC_KEY_STATE, Reg.TLY_CNT0] [.memory, .records, .freeCtr, .spar, .dt, .pwr, .owed, .banks, .rng, .rings, .evt, .queue, .chain, .proxies, .act, .chs, .loss, .sns, .sw, .wire, .sub, .inf, .sto, .sec, .out] s (goTo s target) := by
  unfold goTo
  try dsimp only
  with_reducible refine (showDomains_keeps _).then_ (by decide) (by decide) ?_
  with_reducible refine Keeps.set_pwr (by decide) rfl rfl ?_
  split
  with_reducible refine (goSleep_keeps _).then_ (by decide) (by decide) ?_
  with_reducible exact Keeps.refl _
  with_reducible refine (goDeep_keeps _).then_ (by decide) (by decide) ?_
  with_reducible exact Keeps.refl _
  with_reducible refine (goOff_keeps _).then_ (by decide) (by decide) ?_
  with_reducible exact Keeps.refl _

theorem startSeq_keeps (s : State) (kind : StartKind) (code : Nat) (index : Nat) :
    Keeps [] [.pwr] s (startSeq s kind code index) := by
  unfold startSeq
  try dsimp only
  with_reducible refine Keeps.set_pwr (by decide) rfl rfl ?_
  with_reducible exact Keeps.refl _

theorem endRequest_keeps (s : State) :
    Keeps [Reg.PWR_NEXT, Reg.PWR_SAF_ACK] [.pwr] s (endRequest s) := by
  unfold endRequest
  try dsimp only
  with_reducible refine Keeps.set_pwr (by decide) rfl rfl ?_
  with_reducible refine Keeps.wr (in_PWR_SAF_ACK_ACK) (by decide) ?_
  with_reducible refine Keeps.wr (in_PWR_NEXT_NEXT) (by decide) ?_
  with_reducible exact Keeps.refl _

theorem abortEntry_keeps (s : State) (code : Nat) :
    Keeps [Reg.PWR_NEXT, Reg.PWR_SAF_ACK, Reg.PWR_STATUS] [.pwr] s (abortEntry s code) := by
  unfold abortEntry
  try dsimp only
  with_reducible refine (endRequest_keeps _).then_ (by decide) (by decide) ?_
  with_reducible refine Keeps.wr (in_PWR_STATUS_ABORT) (by decide) ?_
  with_reducible exact Keeps.refl _

theorem wakeSleep_keeps (s : State) (code : Nat) (index : Nat) :
    Keeps [Reg.PWR_NEXT, Reg.PWR_SAF_ACK, Reg.PWR_ADAPT, Reg.PWR_STATUS, Reg.PWR_DOM_STATUS, Reg.WAK_REASON, Reg.PAR_EVT_CNT, Reg.SIN_SNS_CNT, Reg.SW_CNT_VAL, Reg.SW_MSEC_STAT, Reg.TLY_CNT0] [.memory, .records, .spar, .pwr, .owed, .rings, .evt, .queue, .proxies, .loss, .sns, .wire, .out] s (wakeSleep s code index) := by
  unfold wakeSleep
  try dsimp only
  with_reducible refine Keeps.foldl (fun _ _ => ?_) _ ?_
  with_reducible refine (signal_keeps _ _).then_ (by decide) (by decide) ?_
  with_reducible exact Keeps.refl _
  with_reducible refine (wakeDone_keeps _ _).then_ (by decide) (by decide) ?_
  with_reducible refine (showDomains_keeps _).then_ (by decide) (by decide) ?_
  with_reducible refine (segWake_keeps _).then_ (by decide) (by decide) ?_
  with_reducible refine (firstInstr_keeps _).then_ (by decide) (by decide) ?_
  with_reducible refine (wakeStreams_keeps _).then_ (by decide) (by decide) ?_
  with_reducible refine Keeps.set_pwr_owed (by decide) (by decide) rfl ?_
  with_reducible refine (reportWake_keeps _ _ _ _).then_ (by decide) (by decide) ?_
  with_reducible refine Keeps.wr (in_PWR_STATUS_LAST_STATE) (by decide) ?_
  with_reducible refine (endRequest_keeps _).then_ (by decide) (by decide) ?_
  with_reducible refine (adapt_keeps _ _ _).then_ (by decide) (by decide) ?_
  with_reducible exact Keeps.refl _

theorem unhalt_keeps (s : State) (causeBit : Nat) :
    Keeps [Reg.every] [.memory, .records, .layout, .freeCtr, .latches, .spar, .dt, .pwr, .owed, .banks, .par, .rng, .rings, .evt, .chain, .proxies, .act, .chs, .scl, .loss, .sns, .sw, .wire, .sub, .brd, .inf, .sto, .sec, .flt, .out] s (unhalt s causeBit) := by
  unfold unhalt
  try dsimp only
  with_reducible refine (startSeq_keeps _ _ _ _).then_ (by decide) (by decide) ?_
  with_reducible refine Keeps.set_pwr (by decide) rfl rfl ?_
  with_reducible refine (deviceReset_keeps _).then_ (by decide) (by decide) ?_
  with_reducible refine Keeps.orFEvery (by decide) ?_
  with_reducible refine Keeps.set_spar (by decide) ?_
  with_reducible refine Keeps.wrEvery (by decide) ?_
  with_reducible refine Keeps.putEvery (by decide) ?_
  with_reducible exact Keeps.refl _

theorem wakeNow_keeps (s : State) (code : Nat) (index : Nat) :
    Keeps [Reg.PWR_NEXT, Reg.PWR_SAF_ACK, Reg.PWR_ADAPT, Reg.PWR_STATUS, Reg.PWR_DOM_STATUS, Reg.WAK_REASON, Reg.PAR_EVT_CNT, Reg.SIN_SNS_CNT, Reg.SW_CNT_VAL, Reg.SW_MSEC_STAT, Reg.TLY_CNT0] [.memory, .records, .spar, .pwr, .owed, .rings, .evt, .queue, .proxies, .loss, .sns, .wire, .out] s (wakeNow s code index) := by
  unfold wakeNow
  try dsimp only
  split
  with_reducible refine Keeps.ite (fun _ => ?_) (fun _ => ?_)
  with_reducible refine Keeps.set_pwr (by decide) rfl rfl ?_
  with_reducible exact Keeps.refl _
  with_reducible exact Keeps.refl _
  split
  with_reducible refine Keeps.ite (fun _ => ?_) (fun _ => ?_)
  split
  with_reducible refine Keeps.ite (fun _ => ?_) (fun _ => ?_)
  with_reducible refine Keeps.set_pwr (by decide) rfl rfl ?_
  with_reducible exact Keeps.refl _
  with_reducible exact Keeps.refl _
  with_reducible refine Keeps.set_pwr (by decide) rfl rfl ?_
  with_reducible exact Keeps.refl _
  with_reducible refine Keeps.ite (fun _ => ?_) (fun _ => ?_)
  with_reducible refine (wakeSleep_keeps _ _ _).then_ (by decide) (by decide) ?_
  with_reducible refine (abortEntry_keeps _ _).then_ (by decide) (by decide) ?_
  with_reducible exact Keeps.refl _
  with_reducible refine (abortEntry_keeps _ _).then_ (by decide) (by decide) ?_
  with_reducible refine (reportWake_keeps _ _ _ _).then_ (by decide) (by decide) ?_
  with_reducible exact Keeps.refl _
  split
  with_reducible refine Keeps.ite (fun _ => ?_) (fun _ => ?_)
  with_reducible refine (reportWake_keeps _ _ _ _).then_ (by decide) (by decide) ?_
  with_reducible exact Keeps.refl _
  with_reducible exact Keeps.refl _
  with_reducible refine (wakeSleep_keeps _ _ _).then_ (by decide) (by decide) ?_
  with_reducible exact Keeps.refl _
  with_reducible refine (startSeq_keeps _ _ _ _).then_ (by decide) (by decide) ?_
  with_reducible exact Keeps.refl _
  with_reducible refine (startSeq_keeps _ _ _ _).then_ (by decide) (by decide) ?_
  with_reducible exact Keeps.refl _
  with_reducible refine (startSeq_keeps _ _ _ _).then_ (by decide) (by decide) ?_
  with_reducible exact Keeps.refl _

theorem acceptWake_keeps (s : State) (code : Nat) (index : Nat) :
    Keeps [Reg.every] [.memory, .records, .layout, .freeCtr, .latches, .spar, .dt, .pwr, .owed, .banks, .par, .rng, .rings, .evt, .queue, .chain, .proxies, .act, .chs, .scl, .loss, .sns, .sw, .wire, .sub, .brd, .inf, .sto, .sec, .flt, .out] s (acceptWake s code index) := by
  unfold acceptWake
  try dsimp only
  with_reducible refine Keeps.ite (fun _ => ?_) (fun _ => ?_)
  with_reducible refine (unhalt_keeps _ _).then_ (by decide) (by decide) ?_
  with_reducible refine Keeps.orFEvery (by decide) ?_
  with_reducible exact Keeps.refl _
  with_reducible refine Keeps.ite (fun _ => ?_) (fun _ => ?_)
  with_reducible refine Keeps.ite (fun _ => ?_) (fun _ => ?_)
  with_reducible refine (wakeNow_keeps _ _ _).then_ (by decide) (by decide) ?_
  with_reducible refine Keeps.set_spar (by decide) ?_
  with_reducible refine Keeps.wrEvery (by decide) ?_
  with_reducible refine Keeps.putEvery (by decide) ?_
  with_reducible refine Keeps.orFEvery (by decide) ?_
  with_reducible exact Keeps.refl _
  with_reducible refine Keeps.bumpEvery (by decide) ?_
  with_reducible refine Keeps.orFEvery (by decide) ?_
  with_reducible exact Keeps.refl _
  with_reducible refine (wakeNow_keeps _ _ _).then_ (by decide) (by decide) ?_
  with_reducible refine Keeps.orFEvery (by decide) ?_
  with_reducible exact Keeps.refl _

theorem alarmFire_keeps (s : State) :
    Keeps [Reg.every] [.memory, .records, .layout, .freeCtr, .latches, .spar, .dt, .pwr, .owed, .banks, .par, .rng, .rings, .evt, .queue, .chain, .proxies, .act, .chs, .scl, .loss, .sns, .sw, .wire, .sub, .brd, .inf, .sto, .sec, .flt, .out] s (alarmFire s) := by
  unfold alarmFire
  try dsimp only
  with_reducible refine Keeps.ite (fun _ => ?_) (fun _ => ?_)
  with_reducible refine (acceptWake_keeps _ _ _).then_ (by decide) (by decide) ?_
  with_reducible exact Keeps.refl _
  with_reducible exact Keeps.refl _

end Sys2Proof.Machine
end

