-- ==== Sys2Proof/Laws/Store.lean ====
section
/-! SUPPORT.
What the operations of Machine/Store.lean change, and that they keep a sound state sound.
-/

namespace Sys2Proof.Machine

theorem setHealth_keeps (s : State) (n : Nat) (x : Nat × Nat × Bool) (cause : Nat) :
    Keeps [Reg.PAR_EVT_CNT, Reg.SW_CNT_VAL, Reg.SW_MSEC_STAT, Reg.TLY_CNT0] [.records, .owed, .rings, .evt, .queue, .proxies, .loss, .wire, .sto, .out] s (setHealth s n x cause) := by
  unfold setHealth
  try dsimp only
  with_reducible refine Keeps.ite (fun _ => ?_) (fun _ => ?_)
  with_reducible refine Keeps.set_sto (by decide) ?_
  with_reducible exact Keeps.refl _
  with_reducible refine (raise_keeps _ _ _ _ _).then_ (by decide) (by decide) ?_
  with_reducible refine Keeps.set_sto (by decide) ?_
  with_reducible exact Keeps.refl _

theorem checkHealth_keeps (s : State) (n : Nat) :
    Keeps [Reg.PAR_EVT_CNT, Reg.SW_CNT_VAL, Reg.SW_MSEC_STAT, Reg.TLY_CNT0] [.records, .owed, .rings, .evt, .queue, .proxies, .loss, .wire, .sto, .out] s (checkHealth s n) := by
  unfold checkHealth
  try dsimp only
  with_reducible refine (setHealth_keeps _ _ _ _).then_ (by decide) (by decide) ?_
  with_reducible exact Keeps.refl _

theorem checkAll_keeps (s : State) :
    Keeps [Reg.PAR_EVT_CNT, Reg.SW_CNT_VAL, Reg.SW_MSEC_STAT, Reg.STO_NS_INFO, Reg.STO_NS_BLOCKS, Reg.STO_FREE, Reg.STO_NS_WEAR, Reg.TLY_CNT0] [.records, .owed, .rings, .evt, .queue, .proxies, .loss, .wire, .sto, .out] s (checkAll s) := by
  unfold checkAll
  try dsimp only
  with_reducible refine (showNs_keeps _).then_ (by decide) (by decide) ?_
  with_reducible refine Keeps.foldl (fun _ _ => ?_) _ ?_
  with_reducible refine (checkHealth_keeps _ _).then_ (by decide) (by decide) ?_
  with_reducible exact Keeps.refl _
  with_reducible exact Keeps.refl _

theorem programFailed_keeps (s : State) (n : Nat) :
    Keeps [Reg.PAR_EVT_CNT, Reg.SW_CNT_VAL, Reg.SW_MSEC_STAT, Reg.STO_NS_INFO, Reg.STO_NS_BLOCKS, Reg.STO_FREE, Reg.STO_NS_WEAR, Reg.TLY_CNT0] [.records, .owed, .rings, .evt, .queue, .proxies, .loss, .wire, .sto, .out] s (programFailed s n) := by
  unfold programFailed
  try dsimp only
  with_reducible refine Keeps.ite (fun _ => ?_) (fun _ => ?_)
  with_reducible refine (showNs_keeps _).then_ (by decide) (by decide) ?_
  with_reducible refine (setHealth_keeps _ _ _ _).then_ (by decide) (by decide) ?_
  with_reducible exact Keeps.refl _
  with_reducible exact Keeps.refl _

theorem nsReport_keeps (s : State) (r : Nat) :
    Keeps [Reg.STO_NS_STATUS, Reg.STO_NS_INFO, Reg.STO_NS_BLOCKS, Reg.STO_FREE, Reg.STO_NS_WEAR] [] s (nsReport s r) := by
  unfold nsReport
  try dsimp only
  with_reducible refine (showNs_keeps _).then_ (by decide) (by decide) ?_
  with_reducible refine Keeps.put (in_STO_NS_STATUS_BUSY) (by decide) ?_
  with_reducible refine Keeps.wr (in_STO_NS_STATUS_RESULT) (by decide) ?_
  with_reducible exact Keeps.refl _

theorem execNsCreate_keeps (w : Writer) (s : State) :
    KeepsR [Reg.PAR_SEAL_STATUS, Reg.PAR_EVT_CNT, Reg.SW_CNT_VAL, Reg.SW_MSEC_STAT, Reg.STO_NS_STATUS, Reg.STO_NS_INFO, Reg.STO_NS_BLOCKS, Reg.STO_FREE, Reg.STO_NS_WEAR, Reg.TLY_CNT0] [.records, .owed, .rings, .evt, .queue, .proxies, .loss, .wire, .sto, .out] s (execNsCreate w s) := by
  unfold execNsCreate
  try dsimp only
  with_reducible refine KeepsR.whileCd ?_
  with_reducible refine Keeps.ite (fun _ => ?_) (fun _ => ?_)
  with_reducible refine (violate_keeps _).then_ (by decide) (by decide) ?_
  with_reducible exact Keeps.refl _
  with_reducible refine Keeps.ite (fun _ => ?_) (fun _ => ?_)
  with_reducible refine (nsReport_keeps _ _).then_ (by decide) (by decide) ?_
  with_reducible refine (violate_keeps _).then_ (by decide) (by decide) ?_
  with_reducible exact Keeps.refl _
  with_reducible refine Keeps.ite (fun _ => ?_) (fun _ => ?_)
  with_reducible refine (nsReport_keeps _ _).then_ (by decide) (by decide) ?_
  with_reducible exact Keeps.refl _
  with_reducible refine Keeps.ite (fun _ => ?_) (fun _ => ?_)
  with_reducible refine (nsReport_keeps _ _).then_ (by decide) (by decide) ?_
  with_reducible exact Keeps.refl _
  with_reducible refine Keeps.ite (fun _ => ?_) (fun _ => ?_)
  with_reducible refine (nsReport_keeps _ _).then_ (by decide) (by decide) ?_
  with_reducible exact Keeps.refl _
  with_reducible refine (nsReport_keeps _ _).then_ (by decide) (by decide) ?_
  with_reducible refine (checkHealth_keeps _ _).then_ (by decide) (by decide) ?_
  with_reducible refine Keeps.set_sto (by decide) ?_
  with_reducible exact Keeps.refl _

theorem execNsDelete_keeps (w : Writer) (s : State) :
    KeepsR [Reg.PAR_SEAL_STATUS, Reg.PAR_EVT_CNT, Reg.SW_CNT_VAL, Reg.SW_MSEC_STAT, Reg.STO_NS_STATUS, Reg.STO_NS_INFO, Reg.STO_NS_BLOCKS, Reg.STO_FREE, Reg.STO_NS_WEAR, Reg.TLY_CNT0] [.records, .owed, .rings, .evt, .queue, .proxies, .loss, .wire, .sto, .out] s (execNsDelete w s) := by
  unfold execNsDelete
  try dsimp only
  with_reducible refine KeepsR.whileCd ?_
  with_reducible refine Keeps.ite (fun _ => ?_) (fun _ => ?_)
  with_reducible refine (violate_keeps _).then_ (by decide) (by decide) ?_
  with_reducible exact Keeps.refl _
  with_reducible refine Keeps.ite (fun _ => ?_) (fun _ => ?_)
  with_reducible refine (nsReport_keeps _ _).then_ (by decide) (by decide) ?_
  with_reducible refine (violate_keeps _).then_ (by decide) (by decide) ?_
  with_reducible exact Keeps.refl _
  with_reducible refine Keeps.ite (fun _ => ?_) (fun _ => ?_)
  with_reducible refine (nsReport_keeps _ _).then_ (by decide) (by decide) ?_
  with_reducible exact Keeps.refl _
  with_reducible refine Keeps.ite (fun _ => ?_) (fun _ => ?_)
  with_reducible refine (nsReport_keeps _ _).then_ (by decide) (by decide) ?_
  with_reducible exact Keeps.refl _
  with_reducible refine Keeps.ite (fun _ => ?_) (fun _ => ?_)
  with_reducible refine (nsReport_keeps _ _).then_ (by decide) (by decide) ?_
  with_reducible exact Keeps.refl _
  with_reducible refine (nsReport_keeps _ _).then_ (by decide) (by decide) ?_
  with_reducible refine Keeps.set_sto (by decide) ?_
  with_reducible refine (setHealth_keeps _ _ _ _).then_ (by decide) (by decide) ?_
  with_reducible exact Keeps.refl _

theorem setEb_keeps (s : State) (k : Nat) (e : EraseBlk) :
    Keeps [] [.sto] s (setEb s k e) := by
  unfold setEb
  try dsimp only
  with_reducible refine Keeps.set_sto (by decide) ?_
  with_reducible exact Keeps.refl _

theorem showRefresh_keeps (s : State) :
    Keeps [Reg.STO_HEALTH] [] s (showRefresh s) := by
  unfold showRefresh
  try dsimp only
  with_reducible refine Keeps.put (in_STO_HEALTH_REFRESH_FG) (by decide) ?_
  with_reducible exact Keeps.refl _

theorem queueEb_keeps (s : State) (k : Nat) (level : Nat) (cause : Nat) :
    Keeps [Reg.PAR_EVT_CNT, Reg.SW_CNT_VAL, Reg.SW_MSEC_STAT, Reg.STO_HEALTH, Reg.TLY_CNT0] [.records, .owed, .rings, .evt, .queue, .proxies, .loss, .wire, .sto, .out] s (queueEb s k level cause) := by
  unfold queueEb
  try dsimp only
  split
  with_reducible exact Keeps.refl _
  with_reducible refine Keeps.ite (fun _ => ?_) (fun _ => ?_)
  with_reducible exact Keeps.refl _
  with_reducible refine Keeps.ite (fun _ => ?_) (fun _ => ?_)
  with_reducible refine (showRefresh_keeps _).then_ (by decide) (by decide) ?_
  with_reducible refine (setEb_keeps _ _ _).then_ (by decide) (by decide) ?_
  with_reducible exact Keeps.refl _
  with_reducible refine Keeps.ite (fun _ => ?_) (fun _ => ?_)
  with_reducible refine (raise_keeps _ _ _ _ _).then_ (by decide) (by decide) ?_
  with_reducible refine Keeps.set_sto (by decide) ?_
  with_reducible refine (showRefresh_keeps _).then_ (by decide) (by decide) ?_
  with_reducible refine (setEb_keeps _ _ _).then_ (by decide) (by decide) ?_
  with_reducible exact Keeps.refl _
  with_reducible refine Keeps.set_sto (by decide) ?_
  with_reducible refine (showRefresh_keeps _).then_ (by decide) (by decide) ?_
  with_reducible refine (setEb_keeps _ _ _).then_ (by decide) (by decide) ?_
  with_reducible exact Keeps.refl _

theorem requeue_keeps (s : State) (k : Nat) :
    Keeps [Reg.PAR_EVT_CNT, Reg.SW_CNT_VAL, Reg.SW_MSEC_STAT, Reg.STO_HEALTH, Reg.TLY_CNT0] [.records, .owed, .rings, .evt, .queue, .proxies, .loss, .wire, .sto, .out] s (requeue s k) := by
  unfold requeue
  try dsimp only
  split
  with_reducible refine (queueEb_keeps _ _ _ _).then_ (by decide) (by decide) ?_
  with_reducible exact Keeps.refl _
  with_reducible exact Keeps.refl _

theorem countReads_keeps (s : State) (ns : Nat) (lba : Nat) (n : Nat) :
    Keeps [Reg.PAR_EVT_CNT, Reg.SW_CNT_VAL, Reg.SW_MSEC_STAT, Reg.STO_HEALTH, Reg.TLY_CNT0] [.records, .owed, .rings, .evt, .queue, .proxies, .loss, .wire, .sto, .out] s (countReads s ns lba n) := by
  unfold countReads
  try dsimp only
  split
  with_reducible refine Keeps.ite (fun _ => ?_) (fun _ => ?_)
  with_reducible refine Keeps.foldl (fun _ _ => ?_) _ ?_
  with_reducible refine (requeue_keeps _ _).then_ (by decide) (by decide) ?_
  with_reducible exact Keeps.refl _
  with_reducible refine Keeps.set_sto (by decide) ?_
  with_reducible exact Keeps.refl _
  with_reducible exact Keeps.refl _
  with_reducible exact Keeps.refl _

theorem stoRefuse_keeps (s : State) (h : DHdr) (op : Nat) (status : Nat) :
    Keeps [Reg.SW_CNT_VAL, Reg.SW_MSEC_STAT] [.records, .owed, .rng, .rings, .proxies, .wire, .out] s (stoRefuse s h op status) := by
  unfold stoRefuse
  try dsimp only
  with_reducible refine (complete_keeps _ _ _ _ _ _).then_ (by decide) (by decide) ?_
  with_reducible exact Keeps.refl _

theorem startSto_keeps (s : State) (j : StoJob) :
    Keeps [] [.sto] s (startSto s j) := by
  unfold startSto
  try dsimp only
  with_reducible refine Keeps.set_sto (by decide) ?_
  with_reducible exact Keeps.refl _

theorem setSlot_keeps (s : State) (l : Nat) (v : Nat) :
    Keeps [Reg.UPD_STATUS] [] s (setSlot s l v) := by
  unfold setSlot
  try dsimp only
  with_reducible refine Keeps.wr (in_UPD_STATUS_SLOT_STATE) (by decide) ?_
  with_reducible exact Keeps.refl _

theorem writeRecord_keeps (s : State) :
    Keeps [] [.freeCtr, .sto] s (writeRecord s) := by
  unfold writeRecord
  try dsimp only
  with_reducible refine (putBlks_keeps _ _ _ _).then_ (by decide) (by decide) ?_
  with_reducible refine (freeNext_keeps _).then_ (by decide) (by decide) ?_
  with_reducible exact Keeps.refl _

theorem unverify_keeps (s : State) (l : Nat) :
    Keeps [Reg.UPD_STATUS] [.freeCtr, .sto] s (unverify s l) := by
  unfold unverify
  try dsimp only
  with_reducible refine Keeps.ite (fun _ => ?_) (fun _ => ?_)
  with_reducible exact Keeps.refl _
  with_reducible refine (writeRecord_keeps _).then_ (by decide) (by decide) ?_
  with_reducible refine (setSlot_keeps _ _ _).then_ (by decide) (by decide) ?_
  with_reducible exact Keeps.refl _

theorem stoData_keeps (op : Nat) (h : DHdr) (b : List Byte) (s : State) :
    Keeps [Reg.PAR_FAULT, Reg.PAR_EVT_CNT, Reg.SW_CNT_VAL, Reg.SW_MSEC_STAT, Reg.STO_CNT2, Reg.UPD_STATUS, Reg.TLY_CNT0] [.records, .freeCtr, .owed, .rng, .rings, .evt, .queue, .proxies, .loss, .wire, .sto, .out] s (stoData op h b s) := by
  unfold stoData
  try dsimp only
  with_reducible refine Keeps.ite (fun _ => ?_) (fun _ => ?_)
  with_reducible refine (stoRefuse_keeps _ _ _ _).then_ (by decide) (by decide) ?_
  with_reducible exact Keeps.refl _
  with_reducible refine Keeps.ite (fun _ => ?_) (fun _ => ?_)
  with_reducible refine (stoRefuse_keeps _ _ _ _).then_ (by decide) (by decide) ?_
  with_reducible exact Keeps.refl _
  with_reducible refine Keeps.ite (fun _ => ?_) (fun _ => ?_)
  with_reducible refine (stoRefuse_keeps _ _ _ _).then_ (by decide) (by decide) ?_
  with_reducible exact Keeps.refl _
  split
  with_reducible refine (complete_keeps _ _ _ _ _ _).then_ (by decide) (by decide) ?_
  with_reducible refine (windowFault_keeps _ _ _ _ _).then_ (by decide) (by decide) ?_
  with_reducible exact Keeps.refl _
  with_reducible refine Keeps.ite (fun _ => ?_) (fun _ => ?_)
  with_reducible refine (stoRefuse_keeps _ _ _ _).then_ (by decide) (by decide) ?_
  with_reducible exact Keeps.refl _
  with_reducible refine Keeps.ite (fun _ => ?_) (fun _ => ?_)
  with_reducible refine (stoRefuse_keeps _ _ _ _).then_ (by decide) (by decide) ?_
  with_reducible refine Keeps.bump (in_STO_CNT2_RO_REJ) (by decide) ?_
  with_reducible exact Keeps.refl _
  with_reducible refine Keeps.ite (fun _ => ?_) (fun _ => ?_)
  with_reducible refine (stoRefuse_keeps _ _ _ _).then_ (by decide) (by decide) ?_
  with_reducible refine Keeps.bump (in_STO_CNT2_FULL_REJ) (by decide) ?_
  with_reducible exact Keeps.refl _
  with_reducible refine (startSto_keeps _ _).then_ (by decide) (by decide) ?_
  with_reducible refine Keeps.ite (fun _ => ?_) (fun _ => ?_)
  with_reducible refine Keeps.foldl (fun _ _ => ?_) _ ?_
  with_reducible refine (unverify_keeps _ _).then_ (by decide) (by decide) ?_
  with_reducible exact Keeps.refl _
  with_reducible exact Keeps.refl _
  with_reducible exact Keeps.refl _

theorem execStoRead_keeps (h : DHdr) (b : List Byte) (s : State) :
    KeepsR [Reg.PAR_FAULT, Reg.PAR_EVT_CNT, Reg.SW_CNT_VAL, Reg.SW_MSEC_STAT, Reg.STO_CNT2, Reg.UPD_STATUS, Reg.TLY_CNT0] [.records, .freeCtr, .owed, .rng, .rings, .evt, .queue, .proxies, .loss, .wire, .sto, .out] s (execStoRead h b s) := by
  unfold execStoRead
  try dsimp only
  with_reducible refine descr_keeps (by decide) (fun _ => ?_)
  with_reducible refine (stoData_keeps _ _ _ _).then_ (by decide) (by decide) ?_
  with_reducible exact Keeps.refl _

theorem execStoWrite_keeps (h : DHdr) (b : List Byte) (s : State) :
    KeepsR [Reg.PAR_FAULT, Reg.PAR_EVT_CNT, Reg.SW_CNT_VAL, Reg.SW_MSEC_STAT, Reg.STO_CNT2, Reg.UPD_STATUS, Reg.TLY_CNT0] [.records, .freeCtr, .owed, .rng, .rings, .evt, .queue, .proxies, .loss, .wire, .sto, .out] s (execStoWrite h b s) := by
  unfold execStoWrite
  try dsimp only
  with_reducible refine descr_keeps (by decide) (fun _ => ?_)
  with_reducible refine (stoData_keeps _ _ _ _).then_ (by decide) (by decide) ?_
  with_reducible exact Keeps.refl _

theorem execStoWriteAtomic_keeps (h : DHdr) (b : List Byte) (s : State) :
    KeepsR [Reg.PAR_FAULT, Reg.PAR_EVT_CNT, Reg.SW_CNT_VAL, Reg.SW_MSEC_STAT, Reg.STO_CNT2, Reg.UPD_STATUS, Reg.TLY_CNT0] [.records, .freeCtr, .owed, .rng, .rings, .evt, .queue, .proxies, .loss, .wire, .sto, .out] s (execStoWriteAtomic h b s) := by
  unfold execStoWriteAtomic
  try dsimp only
  with_reducible refine descr_keeps (by decide) (fun _ => ?_)
  with_reducible refine (stoData_keeps _ _ _ _).then_ (by decide) (by decide) ?_
  with_reducible exact Keeps.refl _

theorem execStoTrim_keeps (h : DHdr) (b : List Byte) (s : State) :
    KeepsR [Reg.PAR_FAULT, Reg.PAR_EVT_CNT, Reg.SW_CNT_VAL, Reg.SW_MSEC_STAT, Reg.STO_CNT2, Reg.UPD_STATUS, Reg.TLY_CNT0] [.records, .freeCtr, .owed, .rng, .rings, .evt, .queue, .proxies, .loss, .wire, .sto, .out] s (execStoTrim h b s) := by
  unfold execStoTrim
  try dsimp only
  with_reducible refine descr_keeps (by decide) (fun _ => ?_)
  with_reducible refine (stoData_keeps _ _ _ _).then_ (by decide) (by decide) ?_
  with_reducible exact Keeps.refl _

theorem endFlushes_keeps (s : State) :
    Keeps [Reg.SW_CNT_VAL, Reg.SW_MSEC_STAT] [.records, .owed, .rng, .rings, .proxies, .wire, .sto, .out] s (endFlushes s) := by
  unfold endFlushes
  try dsimp only
  with_reducible refine Keeps.ite (fun _ => ?_) (fun _ => ?_)
  with_reducible exact Keeps.refl _
  with_reducible refine Keeps.foldl (fun _ _ => ?_) _ ?_
  with_reducible refine (complete_keeps _ _ _ _ _ _).then_ (by decide) (by decide) ?_
  with_reducible exact Keeps.refl _
  with_reducible refine Keeps.set_sto (by decide) ?_
  with_reducible exact Keeps.refl _

theorem showDirty_keeps (s : State) :
    Keeps [Reg.STO_WB_STATUS] [] s (showDirty s) := by
  unfold showDirty
  try dsimp only
  with_reducible refine Keeps.wr (in_STO_WB_STATUS_DIRTY) (by decide) ?_
  with_reducible exact Keeps.refl _

theorem leaveBuffer_keeps (s : State) (keys : List Nat) (drained : Bool) :
    Keeps [Reg.SW_CNT_VAL, Reg.SW_MSEC_STAT, Reg.STO_WB_STATUS] [.records, .owed, .rng, .rings, .proxies, .wire, .sto, .out] s (leaveBuffer s keys drained) := by
  unfold leaveBuffer
  try dsimp only
  with_reducible refine (showDirty_keeps _).then_ (by decide) (by decide) ?_
  with_reducible refine (endFlushes_keeps _).then_ (by decide) (by decide) ?_
  with_reducible refine Keeps.set_sto (by decide) ?_
  with_reducible exact Keeps.refl _

theorem execStoFlush_keeps (h : DHdr) (b : List Byte) (s : State) :
    KeepsR [Reg.SW_CNT_VAL, Reg.SW_MSEC_STAT] [.records, .owed, .rng, .rings, .proxies, .wire, .sto, .out] s (execStoFlush h b s) := by
  unfold execStoFlush
  try dsimp only
  with_reducible refine descr_keeps (by decide) (fun _ => ?_)
  with_reducible refine Keeps.ite (fun _ => ?_) (fun _ => ?_)
  with_reducible refine (complete_keeps _ _ _ _ _ _).then_ (by decide) (by decide) ?_
  with_reducible exact Keeps.refl _
  with_reducible refine Keeps.ite (fun _ => ?_) (fun _ => ?_)
  with_reducible refine (complete_keeps _ _ _ _ _ _).then_ (by decide) (by decide) ?_
  with_reducible exact Keeps.refl _
  with_reducible refine Keeps.ite (fun _ => ?_) (fun _ => ?_)
  with_reducible refine (complete_keeps _ _ _ _ _ _).then_ (by decide) (by decide) ?_
  with_reducible exact Keeps.refl _
  with_reducible refine Keeps.ite (fun _ => ?_) (fun _ => ?_)
  with_reducible refine (complete_keeps _ _ _ _ _ _).then_ (by decide) (by decide) ?_
  with_reducible exact Keeps.refl _
  with_reducible refine (endFlushes_keeps _).then_ (by decide) (by decide) ?_
  with_reducible refine Keeps.set_sto (by decide) ?_
  with_reducible exact Keeps.refl _

theorem execStoStatus_keeps (h : DHdr) (b : List Byte) (s : State) :
    KeepsR [Reg.SW_CNT_VAL, Reg.SW_MSEC_STAT] [.records, .owed, .rng, .rings, .proxies, .wire, .sto, .out] s (execStoStatus h b s) := by
  unfold execStoStatus
  try dsimp only
  with_reducible refine descr_keeps (by decide) (fun _ => ?_)
  with_reducible refine Keeps.ite (fun _ => ?_) (fun _ => ?_)
  with_reducible refine (complete_keeps _ _ _ _ _ _).then_ (by decide) (by decide) ?_
  with_reducible exact Keeps.refl _
  with_reducible refine Keeps.ite (fun _ => ?_) (fun _ => ?_)
  with_reducible refine (complete_keeps _ _ _ _ _ _).then_ (by decide) (by decide) ?_
  with_reducible exact Keeps.refl _
  with_reducible refine Keeps.ite (fun _ => ?_) (fun _ => ?_)
  with_reducible refine (complete_keeps _ _ _ _ _ _).then_ (by decide) (by decide) ?_
  with_reducible exact Keeps.refl _
  with_reducible refine Keeps.ite (fun _ => ?_) (fun _ => ?_)
  with_reducible refine (complete_keeps _ _ _ _ _ _).then_ (by decide) (by decide) ?_
  with_reducible exact Keeps.refl _
  with_reducible refine Keeps.ite (fun _ => ?_) (fun _ => ?_)
  with_reducible refine (complete_keeps _ _ _ _ _ _).then_ (by decide) (by decide) ?_
  with_reducible exact Keeps.refl _
  with_reducible refine (startSto_keeps _ _).then_ (by decide) (by decide) ?_
  with_reducible exact Keeps.refl _

theorem buffer_keeps (ns : Nat) (s : State) (x : Nat × List Byte) :
    Keeps [] [.sto] s (buffer ns s x) := by
  unfold buffer
  try dsimp only
  with_reducible refine Keeps.set_sto (by decide) ?_
  with_reducible exact Keeps.refl _

theorem applySto_keeps (s : State) (j : StoJob) (eb : Nat) :
    Keeps [Reg.PAR_EVT_CNT, Reg.SW_CNT_VAL, Reg.SW_MSEC_STAT, Reg.STO_WB_STATUS, Reg.STO_HEALTH, Reg.TLY_CNT0] [.memory, .records, .owed, .rng, .rings, .evt, .queue, .proxies, .loss, .wire, .sto, .out] s (applySto s j eb) := by
  unfold applySto
  try dsimp only
  split
  with_reducible refine (countReads_keeps _ _ _ _).then_ (by decide) (by decide) ?_
  with_reducible refine Keeps.writeBytes (by decide) ?_
  with_reducible exact Keeps.refl _
  with_reducible refine Keeps.ite (fun _ => ?_) (fun _ => ?_)
  with_reducible refine (showDirty_keeps _).then_ (by decide) (by decide) ?_
  with_reducible refine Keeps.foldl (fun _ _ => ?_) _ ?_
  with_reducible refine (buffer_keeps _ _ _).then_ (by decide) (by decide) ?_
  with_reducible exact Keeps.refl _
  with_reducible exact Keeps.refl _
  with_reducible refine (program_keeps _ _ _ _).then_ (by decide) (by decide) ?_
  with_reducible refine (leaveBuffer_keeps _ _ _).then_ (by decide) (by decide) ?_
  with_reducible refine (putBlks_keeps _ _ _ _).then_ (by decide) (by decide) ?_
  with_reducible exact Keeps.refl _
  with_reducible refine (program_keeps _ _ _ _).then_ (by decide) (by decide) ?_
  with_reducible refine (leaveBuffer_keeps _ _ _).then_ (by decide) (by decide) ?_
  with_reducible refine (putBlks_keeps _ _ _ _).then_ (by decide) (by decide) ?_
  with_reducible exact Keeps.refl _
  with_reducible refine (unmap_keeps _ _ _ _).then_ (by decide) (by decide) ?_
  with_reducible refine (leaveBuffer_keeps _ _ _).then_ (by decide) (by decide) ?_
  with_reducible exact Keeps.refl _
  with_reducible exact Keeps.refl _

theorem failSto_keeps (s : State) (j : StoJob) (k : Nat) :
    Keeps [Reg.PAR_EVT_CNT, Reg.SW_CNT_VAL, Reg.SW_MSEC_STAT, Reg.STO_NS_INFO, Reg.STO_NS_BLOCKS, Reg.STO_FREE, Reg.STO_CNT, Reg.STO_HEALTH, Reg.STO_NS_WEAR, Reg.TLY_CNT0] [.memory, .records, .owed, .rng, .rings, .evt, .queue, .proxies, .loss, .wire, .sto, .out] s (failSto s j k) := by
  unfold failSto
  try dsimp only
  with_reducible refine (complete_keeps _ _ _ _ _ _).then_ (by decide) (by decide) ?_
  with_reducible refine (raise_keeps _ _ _ _ _).then_ (by decide) (by decide) ?_
  with_reducible refine Keeps.bump (in_STO_CNT_MEDIA_ERRS) (by decide) ?_
  with_reducible refine Keeps.ite (fun _ => ?_) (fun _ => ?_)
  with_reducible refine (countReads_keeps _ _ _ _).then_ (by decide) (by decide) ?_
  with_reducible refine Keeps.writeBytes (by decide) ?_
  with_reducible exact Keeps.refl _
  with_reducible refine (programFailed_keeps _ _).then_ (by decide) (by decide) ?_
  with_reducible exact Keeps.refl _

theorem execStoCommandComplete_keeps (i : Nat) (fail : Option Nat) (eb : Nat) (weak : List (Nat × Nat)) (s : State) :
    KeepsR [Reg.PAR_EVT_CNT, Reg.SW_CNT_VAL, Reg.SW_MSEC_STAT, Reg.STO_NS_INFO, Reg.STO_NS_BLOCKS, Reg.STO_FREE, Reg.STO_WB_STATUS, Reg.STO_CNT, Reg.STO_HEALTH, Reg.STO_NS_WEAR, Reg.TLY_CNT0] [.memory, .records, .owed, .rng, .rings, .evt, .queue, .proxies, .loss, .wire, .sto, .out] s (execStoCommandComplete i fail eb weak s) := by
  unfold execStoCommandComplete
  try dsimp only
  with_reducible refine KeepsR.whileCd ?_
  split
  with_reducible exact Keeps.refl _
  with_reducible refine Keeps.ite (fun _ => ?_) (fun _ => ?_)
  with_reducible exact Keeps.refl _
  with_reducible refine Keeps.ite (fun _ => ?_) (fun _ => ?_)
  with_reducible refine (complete_keeps _ _ _ _ _ _).then_ (by decide) (by decide) ?_
  with_reducible refine Keeps.set_sto (by decide) ?_
  with_reducible exact Keeps.refl _
  split
  with_reducible refine (failSto_keeps _ _ _).then_ (by decide) (by decide) ?_
  with_reducible refine Keeps.set_sto (by decide) ?_
  with_reducible exact Keeps.refl _
  with_reducible refine (complete_keeps _ _ _ _ _ _).then_ (by decide) (by decide) ?_
  with_reducible refine Keeps.ite (fun _ => ?_) (fun _ => ?_)
  with_reducible refine Keeps.foldl (fun _ _ => ?_) _ ?_
  with_reducible refine (queueEb_keeps _ _ _ _).then_ (by decide) (by decide) ?_
  with_reducible exact Keeps.refl _
  with_reducible refine (applySto_keeps _ _ _).then_ (by decide) (by decide) ?_
  with_reducible refine Keeps.set_sto (by decide) ?_
  with_reducible exact Keeps.refl _
  with_reducible refine (applySto_keeps _ _ _).then_ (by decide) (by decide) ?_
  with_reducible refine Keeps.set_sto (by decide) ?_
  with_reducible exact Keeps.refl _

theorem drain_keeps (s : State) (l : Tab (List Byte × Nat)) (eb : Nat) :
    Keeps [Reg.SW_CNT_VAL, Reg.SW_MSEC_STAT, Reg.STO_WB_STATUS] [.records, .owed, .rng, .rings, .proxies, .wire, .sto, .out] s (drain s l eb) := by
  unfold drain
  try dsimp only
  with_reducible refine (leaveBuffer_keeps _ _ _).then_ (by decide) (by decide) ?_
  with_reducible refine Keeps.foldl (fun _ _ => ?_) _ ?_
  with_reducible refine (program_keeps _ _ _ _).then_ (by decide) (by decide) ?_
  with_reducible refine (putBlk_keeps _ _ _ _).then_ (by decide) (by decide) ?_
  with_reducible exact Keeps.refl _
  with_reducible exact Keeps.refl _

theorem loseBuffered_keeps (s : State) (keys : List Nat) (cause : Nat) :
    Keeps [Reg.PAR_EVT_CNT, Reg.SW_CNT_VAL, Reg.SW_MSEC_STAT, Reg.STO_WB_STATUS, Reg.STO_CNT, Reg.TLY_CNT0] [.records, .owed, .rng, .rings, .evt, .queue, .proxies, .loss, .wire, .sto, .out] s (loseBuffered s keys cause) := by
  unfold loseBuffered
  try dsimp only
  with_reducible refine Keeps.foldl (fun _ _ => ?_) _ ?_
  with_reducible refine (raise_keeps _ _ _ _ _).then_ (by decide) (by decide) ?_
  with_reducible exact Keeps.refl _
  with_reducible refine (leaveBuffer_keeps _ _ _).then_ (by decide) (by decide) ?_
  with_reducible refine Keeps.bump (in_STO_CNT_WB_LOST) (by decide) ?_
  with_reducible exact Keeps.refl _

theorem execWbDrain_keeps (n : Nat) (fail : Bool) (eb : Nat) (s : State) :
    KeepsR [Reg.PAR_EVT_CNT, Reg.SW_CNT_VAL, Reg.SW_MSEC_STAT, Reg.STO_WB_STATUS, Reg.STO_CNT, Reg.TLY_CNT0] [.records, .owed, .rng, .rings, .evt, .queue, .proxies, .loss, .wire, .sto, .out] s (execWbDrain n fail eb s) := by
  unfold execWbDrain
  try dsimp only
  with_reducible refine KeepsR.whileCd ?_
  with_reducible refine Keeps.ite (fun _ => ?_) (fun _ => ?_)
  with_reducible exact Keeps.refl _
  with_reducible refine Keeps.ite (fun _ => ?_) (fun _ => ?_)
  with_reducible refine (loseBuffered_keeps _ _ _).then_ (by decide) (by decide) ?_
  with_reducible exact Keeps.refl _
  with_reducible refine (drain_keeps _ _ _).then_ (by decide) (by decide) ?_
  with_reducible exact Keeps.refl _

theorem ageBlocks_keeps (s : State) (ticks : Nat) (t0 : Int) :
    Keeps [Reg.PAR_EVT_CNT, Reg.SW_CNT_VAL, Reg.SW_MSEC_STAT, Reg.STO_HEALTH, Reg.TLY_CNT0] [.records, .owed, .rings, .evt, .queue, .proxies, .loss, .wire, .sto, .out] s (ageBlocks s ticks t0) := by
  unfold ageBlocks
  try dsimp only
  with_reducible refine Keeps.foldl (fun _ _ => ?_) _ ?_
  with_reducible refine (requeue_keeps _ _).then_ (by decide) (by decide) ?_
  with_reducible exact Keeps.refl _
  with_reducible refine Keeps.set_sto (by decide) ?_
  with_reducible exact Keeps.refl _

theorem recovered_keeps (s : State) (e : Nat × Nat × Nat × Nat) :
    Keeps [Reg.TLY_CNT0] [.evt, .queue] s (recovered s e) := by
  unfold recovered
  try dsimp only
  with_reducible refine Keeps.foldl (fun _ _ => ?_) _ ?_
  with_reducible refine (holdEvent_keeps _ _ _ _ _).then_ (by decide) (by decide) ?_
  with_reducible exact Keeps.refl _
  with_reducible exact Keeps.refl _

theorem tellPowerLoss_keeps (s : State) :
    Keeps [Reg.TLY_CNT0] [.evt, .queue, .sto] s (tellPowerLoss s) := by
  unfold tellPowerLoss
  try dsimp only
  with_reducible refine Keeps.set_sto (by decide) ?_
  with_reducible refine Keeps.foldl (fun _ _ => ?_) _ ?_
  with_reducible refine Keeps.foldl (fun _ _ => ?_) _ ?_
  with_reducible refine (holdEvent_keeps _ _ _ _ _).then_ (by decide) (by decide) ?_
  with_reducible exact Keeps.refl _
  with_reducible exact Keeps.refl _
  with_reducible refine Keeps.ite (fun _ => ?_) (fun _ => ?_)
  with_reducible refine Keeps.foldl (fun _ _ => ?_) _ ?_
  with_reducible refine (recovered_keeps _ _).then_ (by decide) (by decide) ?_
  with_reducible exact Keeps.refl _
  with_reducible exact Keeps.refl _
  with_reducible refine (holdEvent_keeps _ _ _ _ _).then_ (by decide) (by decide) ?_
  with_reducible refine Keeps.foldl (fun _ _ => ?_) _ ?_
  with_reducible refine (recovered_keeps _ _).then_ (by decide) (by decide) ?_
  with_reducible exact Keeps.refl _
  with_reducible exact Keeps.refl _

theorem execStoreMount_keeps (t0 : Int) (weak : List (Nat × Nat × Nat)) (s : State) :
    KeepsR [Reg.PAR_EVT_CNT, Reg.SW_CNT_VAL, Reg.SW_MSEC_STAT, Reg.STO_NS_INFO, Reg.STO_NS_BLOCKS, Reg.STO_FREE, Reg.STO_HEALTH, Reg.STO_NS_WEAR, Reg.TLY_CNT0] [.records, .owed, .rng, .rings, .evt, .queue, .proxies, .loss, .wire, .sto, .out] s (execStoreMount t0 weak s) := by
  unfold execStoreMount
  try dsimp only
  with_reducible refine KeepsR.whileCd ?_
  with_reducible refine Keeps.ite (fun _ => ?_) (fun _ => ?_)
  with_reducible exact Keeps.refl _
  with_reducible refine (endFlushes_keeps _).then_ (by decide) (by decide) ?_
  with_reducible refine (showNs_keeps _).then_ (by decide) (by decide) ?_
  with_reducible refine Keeps.set_sto (by decide) ?_
  with_reducible refine (tellPowerLoss_keeps _).then_ (by decide) (by decide) ?_
  with_reducible refine Keeps.ite (fun _ => ?_) (fun _ => ?_)
  with_reducible refine Keeps.foldl (fun _ _ => ?_) _ ?_
  with_reducible refine (queueEb_keeps _ _ _ _).then_ (by decide) (by decide) ?_
  with_reducible exact Keeps.refl _
  with_reducible refine (ageBlocks_keeps _ _ _).then_ (by decide) (by decide) ?_
  with_reducible exact Keeps.refl _
  with_reducible refine (ageBlocks_keeps _ _ _).then_ (by decide) (by decide) ?_
  with_reducible exact Keeps.refl _

theorem saveMap_keeps (s : State) (n : Nat) (journal : Bool) :
    Keeps [] [.sto] s (saveMap s n journal) := by
  unfold saveMap
  try dsimp only
  split
  with_reducible refine Keeps.ite (fun _ => ?_) (fun _ => ?_)
  with_reducible refine Keeps.set_sto (by decide) ?_
  with_reducible exact Keeps.refl _
  with_reducible exact Keeps.refl _
  with_reducible exact Keeps.refl _

theorem execCheckpoint_keeps (ns : Fin 16) (s : State) :
    KeepsR [] [.sto] s (execCheckpoint ns s) := by
  unfold execCheckpoint
  try dsimp only
  with_reducible refine KeepsR.whileCd ?_
  with_reducible refine (saveMap_keeps _ _ _).then_ (by decide) (by decide) ?_
  with_reducible exact Keeps.refl _

theorem execJournalFlush_keeps (ns : Fin 16) (s : State) :
    KeepsR [] [.sto] s (execJournalFlush ns s) := by
  unfold execJournalFlush
  try dsimp only
  with_reducible refine KeepsR.whileCd ?_
  with_reducible refine (saveMap_keeps _ _ _).then_ (by decide) (by decide) ?_
  with_reducible exact Keeps.refl _

theorem execRetentionUpdate_keeps (t0 : Int) (s : State) :
    KeepsR [Reg.PAR_EVT_CNT, Reg.SW_CNT_VAL, Reg.SW_MSEC_STAT, Reg.STO_HEALTH, Reg.TLY_CNT0] [.records, .owed, .rings, .evt, .queue, .proxies, .loss, .wire, .sto, .out] s (execRetentionUpdate t0 s) := by
  unfold execRetentionUpdate
  try dsimp only
  with_reducible refine KeepsR.next ?_
  with_reducible refine Keeps.ite (fun _ => ?_) (fun _ => ?_)
  with_reducible refine (ageBlocks_keeps _ _ _).then_ (by decide) (by decide) ?_
  with_reducible exact Keeps.refl _
  with_reducible exact Keeps.refl _

theorem moveEb_keeps (s : State) (ns : Nat) (src : Nat) (dst : Nat) :
    Keeps [Reg.STO_HEALTH] [.sto] s (moveEb s ns src dst) := by
  unfold moveEb
  try dsimp only
  split
  with_reducible refine (showRefresh_keeps _).then_ (by decide) (by decide) ?_
  with_reducible refine (program_keeps _ _ _ _).then_ (by decide) (by decide) ?_
  with_reducible exact Keeps.refl _
  with_reducible exact Keeps.refl _

theorem execRefresh_keeps (ns : Fin 16) (src : Nat) (dst : Nat) (s : State) :
    KeepsR [Reg.STO_HEALTH] [.sto] s (execRefresh ns src dst s) := by
  unfold execRefresh
  try dsimp only
  with_reducible refine KeepsR.next ?_
  split
  with_reducible exact Keeps.refl _
  with_reducible refine Keeps.ite (fun _ => ?_) (fun _ => ?_)
  with_reducible refine Keeps.ite (fun _ => ?_) (fun _ => ?_)
  with_reducible refine Keeps.set_sto (by decide) ?_
  with_reducible refine (moveEb_keeps _ _ _ _).then_ (by decide) (by decide) ?_
  with_reducible exact Keeps.refl _
  with_reducible refine (moveEb_keeps _ _ _ _).then_ (by decide) (by decide) ?_
  with_reducible exact Keeps.refl _
  with_reducible exact Keeps.refl _

theorem execGarbageCollection_keeps (ns : Fin 16) (src : Nat) (dst : Nat) (freePm : Nat) (spares : Fin 101) (wear : Nat) (s : State) :
    KeepsR [Reg.PAR_EVT_CNT, Reg.SW_CNT_VAL, Reg.SW_MSEC_STAT, Reg.STO_NS_INFO, Reg.STO_NS_BLOCKS, Reg.STO_FREE, Reg.STO_HEALTH, Reg.STO_NS_WEAR, Reg.TLY_CNT0] [.records, .owed, .rings, .evt, .queue, .proxies, .loss, .wire, .sto, .out] s (execGarbageCollection ns src dst freePm spares wear s) := by
  unfold execGarbageCollection
  try dsimp only
  with_reducible refine KeepsR.next ?_
  with_reducible refine Keeps.ite (fun _ => ?_) (fun _ => ?_)
  with_reducible refine (checkAll_keeps _).then_ (by decide) (by decide) ?_
  with_reducible refine Keeps.set_sto (by decide) ?_
  with_reducible refine Keeps.wr (in_STO_HEALTH_SPARES) (by decide) ?_
  with_reducible refine Keeps.put (in_STO_HEALTH_GC_ACTIVE) (by decide) ?_
  with_reducible refine (moveEb_keeps _ _ _ _).then_ (by decide) (by decide) ?_
  with_reducible exact Keeps.refl _
  with_reducible exact Keeps.refl _

end Sys2Proof.Machine
end

