-- ==== Sys2Proof/Laws/Vault.lean ====
section
/-! SUPPORT.
What the operations of Machine/Vault.lean change, and that they keep a sound state sound.
-/

namespace Sys2Proof.Machine

theorem secEnd_keeps (s : State) (h : DHdr) (op : Nat) (st : Nat) :
    Keeps [Reg.SW_CNT_VAL, Reg.SW_MSEC_STAT] [.records, .owed, .rng, .rings, .proxies, .wire, .out] s (secEnd s h op st) := by
  unfold secEnd
  try dsimp only
  with_reducible refine (complete_keeps _ _ _ _ _ _).then_ (by decide) (by decide) ?_
  with_reducible exact Keeps.refl _

theorem sec_keeps {w : List Span} {g : List Part} {op : Nat} {p0 remote : Bool} {listed : List Nat} {h : DHdr} {b : List Byte} {s : State} {f : State → State} (hw : regsWithin [Reg.SW_CNT_VAL, Reg.SW_MSEC_STAT] w = true)
    (hg : within [Part.records, .freeCtr, .owed, .rng, .rings, .proxies, .wire, .out] g = true)
    (hr : within [Part.rng] g = true) (hf : ∀ t, Keeps w g t (f t)) :
    KeepsR w g s (sec op p0 remote listed h b s f) := by
  have k : ∀ {t u : State}, Keeps [Reg.SW_CNT_VAL, Reg.SW_MSEC_STAT] [Part.records, .freeCtr, .owed, .rng, .rings, .proxies, .wire, .out] t u → Keeps w g t u :=
    fun h => h.mono (of_regsWithin hw) (of_within hg)
  unfold sec
  refine descr_keeps hr (fun t => ?_)
  refine Keeps.ite (fun _ => ?_) fun _ => Keeps.ite (fun _ => ?_) fun _ => Keeps.ite (fun _ => ?_) fun _ => hf _
  · exact k ((secEnd_keeps _ _ _ _).then_ (by decide) (by decide) (Keeps.refl _))
  · exact k ((secEnd_keeps _ _ _ _).then_ (by decide) (by decide) ((freeNext_keeps _).then_ (by decide) (by decide) (Keeps.refl _)))
  · exact k ((secEnd_keeps _ _ _ _).then_ (by decide) (by decide) (Keeps.refl _))

theorem withIn_keeps {w : List Span} {g : List Part} {s : State} {h : DHdr} {op addr len : Nat} {f : State → List Byte → State} (hw : regsWithin [Reg.PAR_FAULT, Reg.PAR_EVT_CNT, Reg.SW_CNT_VAL, Reg.SW_MSEC_STAT, Reg.TLY_CNT0] w = true)
    (hg : within [Part.records, .freeCtr, .owed, .banks, .rng, .rings, .evt, .queue, .proxies, .loss, .wire, .out] g = true)
    (hf : ∀ t d, Keeps w g t (f t d)) :
    Keeps w g s (withIn s h op addr len f) := by
  have k : ∀ {t u : State}, Keeps [Reg.PAR_FAULT, Reg.PAR_EVT_CNT, Reg.SW_CNT_VAL, Reg.SW_MSEC_STAT, Reg.TLY_CNT0] [Part.records, .freeCtr, .owed, .banks, .rng, .rings, .evt, .queue, .proxies, .loss, .wire, .out] t u → Keeps w g t u :=
    fun h => h.mono (of_regsWithin hw) (of_within hg)
  unfold withIn
  exact Keeps.ite (fun _ => hf _ _) (fun _ => withData_keeps hw hg hf)

theorem withOut_keeps {w : List Span} {g : List Part} {s : State} {h : DHdr} {op addr len : Nat} {f : State → Nat → State} (hw : regsWithin [Reg.PAR_FAULT, Reg.PAR_EVT_CNT, Reg.SW_CNT_VAL, Reg.SW_MSEC_STAT, Reg.TLY_CNT0] w = true)
    (hg : within [Part.records, .owed, .rng, .rings, .evt, .queue, .proxies, .loss, .wire, .out] g = true)
    (hf : ∀ t a, Keeps w g t (f t a)) :
    Keeps w g s (withOut s h op addr len f) := by
  have k : ∀ {t u : State}, Keeps [Reg.PAR_FAULT, Reg.PAR_EVT_CNT, Reg.SW_CNT_VAL, Reg.SW_MSEC_STAT, Reg.TLY_CNT0] [Part.records, .owed, .rng, .rings, .evt, .queue, .proxies, .loss, .wire, .out] t u → Keeps w g t u :=
    fun h => h.mono (of_regsWithin hw) (of_within hg)
  unfold withOut
  split
  · exact hf _ _
  · exact k ((completeFault_keeps _ _ _ _ _).then_ (by decide) (by decide) (Keeps.refl _))

theorem secOut_keeps (s : State) (h : DHdr) (op : Nat) (a : Nat) (d : List Byte) :
    Keeps [Reg.SW_CNT_VAL, Reg.SW_MSEC_STAT] [.memory, .records, .owed, .banks, .rng, .rings, .proxies, .wire, .out] s (secOut s h op a d) := by
  unfold secOut
  try dsimp only
  with_reducible refine (secEnd_keeps _ _ _ _).then_ (by decide) (by decide) ?_
  with_reducible refine (storeData_keeps _ _ _ _).then_ (by decide) (by decide) ?_
  with_reducible exact Keeps.refl _

theorem setKey_keeps (s : State) (k : Nat) (key : List Byte) :
    Keeps [Reg.SEC_KEY_STATE] [.sec] s (setKey s k key) := by
  unfold setKey
  try dsimp only
  with_reducible refine Keeps.set_sec (by decide) ?_
  with_reducible refine Keeps.orF (in_SEC_KEY_STATE_FILLED) (by decide) ?_
  with_reducible exact Keeps.refl _

theorem setVolatile_keeps (s : State) (p : Nat) (k : Nat) (key : List Byte) :
    Keeps [Reg.SEC_KEY_STATE] [.sec] s (setVolatile s p k key) := by
  unfold setVolatile
  try dsimp only
  with_reducible refine Keeps.set_sec (by decide) ?_
  with_reducible refine (setKey_keeps _ _ _).then_ (by decide) (by decide) ?_
  with_reducible exact Keeps.refl _

theorem serveRandom_keeps (s : State) (h : DHdr) (a : Nat) (len : Nat) :
    Keeps [Reg.SW_CNT_VAL, Reg.SW_MSEC_STAT] [.memory, .records, .freeCtr, .owed, .banks, .rng, .rings, .proxies, .wire, .sec, .out] s (serveRandom s h a len) := by
  unfold serveRandom
  try dsimp only
  with_reducible refine (secOut_keeps _ _ _ _ _).then_ (by decide) (by decide) ?_
  with_reducible refine (freeNext_keeps _).then_ (by decide) (by decide) ?_
  with_reducible refine Keeps.set_sec (by decide) ?_
  with_reducible exact Keeps.refl _

theorem execSecRandom_keeps (h : DHdr) (b : List Byte) (s : State) :
    KeepsR [Reg.PAR_FAULT, Reg.PAR_EVT_CNT, Reg.SW_CNT_VAL, Reg.SW_MSEC_STAT, Reg.TLY_CNT0] [.memory, .records, .freeCtr, .owed, .banks, .rng, .rings, .evt, .queue, .proxies, .loss, .wire, .sec, .out] s (execSecRandom h b s) := by
  unfold execSecRandom
  try dsimp only
  with_reducible refine sec_keeps (by decide) (by decide) (by decide) (fun _ => ?_)
  with_reducible refine Keeps.ite (fun _ => ?_) (fun _ => ?_)
  with_reducible refine (secEnd_keeps _ _ _ _).then_ (by decide) (by decide) ?_
  with_reducible exact Keeps.refl _
  with_reducible refine Keeps.ite (fun _ => ?_) (fun _ => ?_)
  with_reducible refine (secEnd_keeps _ _ _ _).then_ (by decide) (by decide) ?_
  with_reducible exact Keeps.refl _
  with_reducible refine Keeps.trans ?_ (withOut_keeps (by decide) (by decide) (fun _ _ => ?_))
  with_reducible exact Keeps.refl _
  with_reducible refine Keeps.ite (fun _ => ?_) (fun _ => ?_)
  with_reducible refine (serveRandom_keeps _ _ _ _).then_ (by decide) (by decide) ?_
  with_reducible exact Keeps.refl _
  with_reducible refine Keeps.ite (fun _ => ?_) (fun _ => ?_)
  with_reducible refine (secEnd_keeps _ _ _ _).then_ (by decide) (by decide) ?_
  with_reducible exact Keeps.refl _
  with_reducible refine Keeps.set_sec (by decide) ?_
  with_reducible exact Keeps.refl _

theorem execEntropyTimeout_keeps (s : State) :
    KeepsR [Reg.SW_CNT_VAL, Reg.SW_MSEC_STAT] [.records, .owed, .rng, .rings, .proxies, .wire, .sec, .out] s (execEntropyTimeout s) := by
  unfold execEntropyTimeout
  try dsimp only
  with_reducible refine KeepsR.whileCd ?_
  split
  with_reducible exact Keeps.refl _
  with_reducible refine Keeps.ite (fun _ => ?_) (fun _ => ?_)
  with_reducible refine (secEnd_keeps _ _ _ _).then_ (by decide) (by decide) ?_
  with_reducible refine Keeps.set_sec (by decide) ?_
  with_reducible exact Keeps.refl _
  with_reducible exact Keeps.refl _

theorem entropyState_keeps (s : State) (trng : Nat) (drbg : Nat) (cause : Nat) :
    Keeps [Reg.PAR_EVT_CNT, Reg.SW_CNT_VAL, Reg.SW_MSEC_STAT, Reg.SEC_STATUS, Reg.TLY_CNT0] [.records, .owed, .rings, .evt, .queue, .proxies, .loss, .wire, .out] s (entropyState s trng drbg cause) := by
  unfold entropyState
  try dsimp only
  with_reducible refine Keeps.ite (fun _ => ?_) (fun _ => ?_)
  with_reducible exact Keeps.refl _
  with_reducible refine (raise_keeps _ _ _ _ _).then_ (by decide) (by decide) ?_
  with_reducible refine Keeps.wr (in_SEC_STATUS_DRBG) (by decide) ?_
  with_reducible refine Keeps.wr (in_SEC_STATUS_TRNG) (by decide) ?_
  with_reducible exact Keeps.refl _

theorem execTrngStartupDone_keeps (pass : Bool) (ms : Nat) (s : State) :
    KeepsR [Reg.PAR_EVT_CNT, Reg.SW_CNT_VAL, Reg.SW_MSEC_STAT, Reg.SEC_STATUS, Reg.SEC_CNT, Reg.TLY_CNT0] [.memory, .records, .freeCtr, .owed, .banks, .rng, .rings, .evt, .queue, .proxies, .loss, .wire, .sec, .out] s (execTrngStartupDone pass ms s) := by
  unfold execTrngStartupDone
  try dsimp only
  with_reducible refine KeepsR.whileCd ?_
  with_reducible refine Keeps.ite (fun _ => ?_) (fun _ => ?_)
  with_reducible exact Keeps.refl _
  with_reducible refine Keeps.ite (fun _ => ?_) (fun _ => ?_)
  with_reducible refine Keeps.foldl (fun _ _ => ?_) _ ?_
  with_reducible refine (serveRandom_keeps _ _ _ _).then_ (by decide) (by decide) ?_
  with_reducible exact Keeps.refl _
  with_reducible refine (entropyState_keeps _ _ _ _).then_ (by decide) (by decide) ?_
  with_reducible refine Keeps.set_sec (by decide) ?_
  with_reducible refine Keeps.ite (fun _ => ?_) (fun _ => ?_)
  with_reducible exact Keeps.refl _
  with_reducible refine Keeps.wr (in_SEC_STATUS_LIVE_MS) (by decide) ?_
  with_reducible exact Keeps.refl _
  with_reducible refine Keeps.ite (fun _ => ?_) (fun _ => ?_)
  with_reducible refine (entropyState_keeps _ _ _ _).then_ (by decide) (by decide) ?_
  with_reducible refine Keeps.set_sec (by decide) ?_
  with_reducible refine Keeps.bump (in_SEC_CNT_HEALTH_FAILS) (by decide) ?_
  with_reducible exact Keeps.refl _
  with_reducible refine Keeps.set_sec (by decide) ?_
  with_reducible refine Keeps.bump (in_SEC_CNT_HEALTH_FAILS) (by decide) ?_
  with_reducible exact Keeps.refl _

theorem execSeedRewrite_keeps (s : State) :
    KeepsR [Reg.SEC_KEY_STATE] [.freeCtr, .sec] s (execSeedRewrite s) := by
  unfold execSeedRewrite
  try dsimp only
  with_reducible refine KeepsR.whileCd ?_
  with_reducible refine Keeps.ite (fun _ => ?_) (fun _ => ?_)
  with_reducible refine (setKey_keeps _ _ _).then_ (by decide) (by decide) ?_
  with_reducible refine (freeNext_keeps _).then_ (by decide) (by decide) ?_
  with_reducible exact Keeps.refl _
  with_reducible exact Keeps.refl _

theorem execTrngContinuousFail_keeps (s : State) :
    KeepsR [Reg.PAR_EVT_CNT, Reg.SW_CNT_VAL, Reg.SW_MSEC_STAT, Reg.SEC_STATUS, Reg.SEC_CNT, Reg.TLY_CNT0] [.records, .owed, .rings, .evt, .queue, .proxies, .loss, .wire, .sec, .out] s (execTrngContinuousFail s) := by
  unfold execTrngContinuousFail
  try dsimp only
  with_reducible refine KeepsR.whileCd ?_
  with_reducible refine Keeps.ite (fun _ => ?_) (fun _ => ?_)
  with_reducible refine (entropyState_keeps _ _ _ _).then_ (by decide) (by decide) ?_
  with_reducible refine Keeps.set_sec (by decide) ?_
  with_reducible refine Keeps.bump (in_SEC_CNT_HEALTH_FAILS) (by decide) ?_
  with_reducible exact Keeps.refl _
  with_reducible exact Keeps.refl _

theorem execReseedDue_keeps (s : State) :
    KeepsR [Reg.PAR_EVT_CNT, Reg.SW_CNT_VAL, Reg.SW_MSEC_STAT, Reg.SEC_STATUS, Reg.TLY_CNT0] [.records, .owed, .rings, .evt, .queue, .proxies, .loss, .wire, .sec, .out] s (execReseedDue s) := by
  unfold execReseedDue
  try dsimp only
  with_reducible refine KeepsR.whileCd ?_
  with_reducible refine Keeps.ite (fun _ => ?_) (fun _ => ?_)
  with_reducible refine Keeps.ite (fun _ => ?_) (fun _ => ?_)
  with_reducible refine Keeps.set_sec (by decide) ?_
  with_reducible exact Keeps.refl _
  with_reducible refine (entropyState_keeps _ _ _ _).then_ (by decide) (by decide) ?_
  with_reducible exact Keeps.refl _
  with_reducible exact Keeps.refl _

theorem execSecAesGcm_keeps (h : DHdr) (b : List Byte) (s : State) :
    KeepsR [Reg.PAR_FAULT, Reg.PAR_EVT_CNT, Reg.SW_CNT_VAL, Reg.SW_MSEC_STAT, Reg.TLY_CNT0] [.memory, .records, .freeCtr, .owed, .banks, .rng, .rings, .evt, .queue, .proxies, .loss, .wire, .out] s (execSecAesGcm h b s) := by
  unfold execSecAesGcm
  try dsimp only
  with_reducible refine sec_keeps (by decide) (by decide) (by decide) (fun _ => ?_)
  with_reducible refine Keeps.ite (fun _ => ?_) (fun _ => ?_)
  with_reducible refine (secEnd_keeps _ _ _ _).then_ (by decide) (by decide) ?_
  with_reducible exact Keeps.refl _
  with_reducible refine Keeps.ite (fun _ => ?_) (fun _ => ?_)
  with_reducible refine (secEnd_keeps _ _ _ _).then_ (by decide) (by decide) ?_
  with_reducible exact Keeps.refl _
  with_reducible refine Keeps.trans ?_ (withIn_keeps (by decide) (by decide) (fun _ _ => ?_))
  with_reducible exact Keeps.refl _
  with_reducible refine Keeps.ite (fun _ => ?_) (fun _ => ?_)
  with_reducible refine Keeps.trans ?_ (withIn_keeps (by decide) (by decide) (fun _ _ => ?_))
  with_reducible exact Keeps.refl _
  with_reducible refine Keeps.ite (fun _ => ?_) (fun _ => ?_)
  with_reducible refine (secOut_keeps _ _ _ _ _).then_ (by decide) (by decide) ?_
  with_reducible exact Keeps.refl _
  split
  with_reducible refine (secOut_keeps _ _ _ _ _).then_ (by decide) (by decide) ?_
  with_reducible exact Keeps.refl _
  with_reducible refine (secEnd_keeps _ _ _ _).then_ (by decide) (by decide) ?_
  with_reducible exact Keeps.refl _
  with_reducible refine Keeps.trans ?_ (withOut_keeps (by decide) (by decide) (fun _ _ => ?_))
  with_reducible exact Keeps.refl _
  with_reducible refine Keeps.trans ?_ (withIn_keeps (by decide) (by decide) (fun _ _ => ?_))
  with_reducible exact Keeps.refl _
  with_reducible refine Keeps.ite (fun _ => ?_) (fun _ => ?_)
  with_reducible refine (secOut_keeps _ _ _ _ _).then_ (by decide) (by decide) ?_
  with_reducible exact Keeps.refl _
  split
  with_reducible refine (secOut_keeps _ _ _ _ _).then_ (by decide) (by decide) ?_
  with_reducible exact Keeps.refl _
  with_reducible refine (secEnd_keeps _ _ _ _).then_ (by decide) (by decide) ?_
  with_reducible exact Keeps.refl _

theorem execSecSha256_keeps (h : DHdr) (b : List Byte) (s : State) :
    KeepsR [Reg.PAR_FAULT, Reg.PAR_EVT_CNT, Reg.SW_CNT_VAL, Reg.SW_MSEC_STAT, Reg.TLY_CNT0] [.memory, .records, .freeCtr, .owed, .banks, .rng, .rings, .evt, .queue, .proxies, .loss, .wire, .out] s (execSecSha256 h b s) := by
  unfold execSecSha256
  try dsimp only
  with_reducible refine sec_keeps (by decide) (by decide) (by decide) (fun _ => ?_)
  with_reducible refine Keeps.ite (fun _ => ?_) (fun _ => ?_)
  with_reducible refine (secEnd_keeps _ _ _ _).then_ (by decide) (by decide) ?_
  with_reducible exact Keeps.refl _
  with_reducible refine Keeps.trans ?_ (withIn_keeps (by decide) (by decide) (fun _ _ => ?_))
  with_reducible exact Keeps.refl _
  with_reducible refine Keeps.trans ?_ (withOut_keeps (by decide) (by decide) (fun _ _ => ?_))
  with_reducible exact Keeps.refl _
  with_reducible refine (secOut_keeps _ _ _ _ _).then_ (by decide) (by decide) ?_
  with_reducible exact Keeps.refl _

theorem execSecHkdf_keeps (h : DHdr) (b : List Byte) (s : State) :
    KeepsR [Reg.PAR_FAULT, Reg.PAR_EVT_CNT, Reg.SW_CNT_VAL, Reg.SW_MSEC_STAT, Reg.SEC_KEY_STATE, Reg.TLY_CNT0] [.records, .freeCtr, .owed, .banks, .rng, .rings, .evt, .queue, .proxies, .loss, .wire, .sec, .out] s (execSecHkdf h b s) := by
  unfold execSecHkdf
  try dsimp only
  with_reducible refine sec_keeps (by decide) (by decide) (by decide) (fun _ => ?_)
  with_reducible refine Keeps.ite (fun _ => ?_) (fun _ => ?_)
  with_reducible refine (secEnd_keeps _ _ _ _).then_ (by decide) (by decide) ?_
  with_reducible exact Keeps.refl _
  with_reducible refine Keeps.ite (fun _ => ?_) (fun _ => ?_)
  with_reducible refine (secEnd_keeps _ _ _ _).then_ (by decide) (by decide) ?_
  with_reducible exact Keeps.refl _
  with_reducible refine Keeps.trans ?_ (withIn_keeps (by decide) (by decide) (fun _ _ => ?_))
  with_reducible exact Keeps.refl _
  with_reducible refine (secEnd_keeps _ _ _ _).then_ (by decide) (by decide) ?_
  with_reducible refine (setVolatile_keeps _ _ _ _).then_ (by decide) (by decide) ?_
  with_reducible exact Keeps.refl _

theorem execSecEcdsaSign_keeps (h : DHdr) (b : List Byte) (s : State) :
    KeepsR [Reg.PAR_FAULT, Reg.PAR_EVT_CNT, Reg.SW_CNT_VAL, Reg.SW_MSEC_STAT, Reg.TLY_CNT0] [.memory, .records, .freeCtr, .owed, .banks, .rng, .rings, .evt, .queue, .proxies, .loss, .wire, .out] s (execSecEcdsaSign h b s) := by
  unfold execSecEcdsaSign
  try dsimp only
  with_reducible refine sec_keeps (by decide) (by decide) (by decide) (fun _ => ?_)
  with_reducible refine Keeps.ite (fun _ => ?_) (fun _ => ?_)
  with_reducible refine (secEnd_keeps _ _ _ _).then_ (by decide) (by decide) ?_
  with_reducible exact Keeps.refl _
  with_reducible refine Keeps.trans ?_ (withIn_keeps (by decide) (by decide) (fun _ _ => ?_))
  with_reducible exact Keeps.refl _
  with_reducible refine Keeps.trans ?_ (withOut_keeps (by decide) (by decide) (fun _ _ => ?_))
  with_reducible exact Keeps.refl _
  with_reducible refine (secOut_keeps _ _ _ _ _).then_ (by decide) (by decide) ?_
  with_reducible refine (freeNext_keeps _).then_ (by decide) (by decide) ?_
  with_reducible exact Keeps.refl _

theorem execSecEcdsaVerify_keeps (h : DHdr) (b : List Byte) (s : State) :
    KeepsR [Reg.PAR_FAULT, Reg.PAR_EVT_CNT, Reg.SW_CNT_VAL, Reg.SW_MSEC_STAT, Reg.TLY_CNT0] [.records, .freeCtr, .owed, .banks, .rng, .rings, .evt, .queue, .proxies, .loss, .wire, .out] s (execSecEcdsaVerify h b s) := by
  unfold execSecEcdsaVerify
  try dsimp only
  with_reducible refine sec_keeps (by decide) (by decide) (by decide) (fun _ => ?_)
  with_reducible refine Keeps.trans ?_ (withIn_keeps (by decide) (by decide) (fun _ _ => ?_))
  with_reducible exact Keeps.refl _
  with_reducible refine Keeps.trans ?_ (withIn_keeps (by decide) (by decide) (fun _ _ => ?_))
  with_reducible exact Keeps.refl _
  with_reducible refine Keeps.trans ?_ (withIn_keeps (by decide) (by decide) (fun _ _ => ?_))
  with_reducible exact Keeps.refl _
  with_reducible refine (secEnd_keeps _ _ _ _).then_ (by decide) (by decide) ?_
  with_reducible exact Keeps.refl _

theorem execSecMldsaVerify_keeps (h : DHdr) (b : List Byte) (s : State) :
    KeepsR [Reg.PAR_FAULT, Reg.PAR_EVT_CNT, Reg.SW_CNT_VAL, Reg.SW_MSEC_STAT, Reg.TLY_CNT0] [.records, .freeCtr, .owed, .banks, .rng, .rings, .evt, .queue, .proxies, .loss, .wire, .out] s (execSecMldsaVerify h b s) := by
  unfold execSecMldsaVerify
  try dsimp only
  with_reducible refine sec_keeps (by decide) (by decide) (by decide) (fun _ => ?_)
  with_reducible refine Keeps.ite (fun _ => ?_) (fun _ => ?_)
  with_reducible refine (secEnd_keeps _ _ _ _).then_ (by decide) (by decide) ?_
  with_reducible exact Keeps.refl _
  with_reducible refine Keeps.trans ?_ (withIn_keeps (by decide) (by decide) (fun _ _ => ?_))
  with_reducible exact Keeps.refl _
  with_reducible refine Keeps.trans ?_ (withIn_keeps (by decide) (by decide) (fun _ _ => ?_))
  with_reducible exact Keeps.refl _
  with_reducible refine Keeps.trans ?_ (withIn_keeps (by decide) (by decide) (fun _ _ => ?_))
  with_reducible exact Keeps.refl _
  with_reducible refine Keeps.trans ?_ (withIn_keeps (by decide) (by decide) (fun _ _ => ?_))
  with_reducible exact Keeps.refl _
  with_reducible refine (secEnd_keeps _ _ _ _).then_ (by decide) (by decide) ?_
  with_reducible exact Keeps.refl _

theorem execSecCmac_keeps (h : DHdr) (b : List Byte) (s : State) :
    KeepsR [Reg.PAR_FAULT, Reg.PAR_EVT_CNT, Reg.SW_CNT_VAL, Reg.SW_MSEC_STAT, Reg.TLY_CNT0] [.memory, .records, .freeCtr, .owed, .banks, .rng, .rings, .evt, .queue, .proxies, .loss, .wire, .out] s (execSecCmac h b s) := by
  unfold execSecCmac
  try dsimp only
  with_reducible refine sec_keeps (by decide) (by decide) (by decide) (fun _ => ?_)
  with_reducible refine Keeps.ite (fun _ => ?_) (fun _ => ?_)
  with_reducible refine (secEnd_keeps _ _ _ _).then_ (by decide) (by decide) ?_
  with_reducible exact Keeps.refl _
  with_reducible refine Keeps.ite (fun _ => ?_) (fun _ => ?_)
  with_reducible refine (secEnd_keeps _ _ _ _).then_ (by decide) (by decide) ?_
  with_reducible exact Keeps.refl _
  with_reducible refine Keeps.trans ?_ (withIn_keeps (by decide) (by decide) (fun _ _ => ?_))
  with_reducible exact Keeps.refl _
  with_reducible refine Keeps.trans ?_ (withOut_keeps (by decide) (by decide) (fun _ _ => ?_))
  with_reducible exact Keeps.refl _
  with_reducible refine (secOut_keeps _ _ _ _ _).then_ (by decide) (by decide) ?_
  with_reducible exact Keeps.refl _

theorem execSecKeyLoad_keeps (h : DHdr) (b : List Byte) (s : State) :
    KeepsR [Reg.PAR_FAULT, Reg.PAR_EVT_CNT, Reg.SW_CNT_VAL, Reg.SW_MSEC_STAT, Reg.SEC_KEY_STATE, Reg.TLY_CNT0] [.records, .freeCtr, .owed, .banks, .rng, .rings, .evt, .queue, .proxies, .loss, .wire, .sec, .out] s (execSecKeyLoad h b s) := by
  unfold execSecKeyLoad
  try dsimp only
  with_reducible refine sec_keeps (by decide) (by decide) (by decide) (fun _ => ?_)
  with_reducible refine Keeps.ite (fun _ => ?_) (fun _ => ?_)
  with_reducible refine (secEnd_keeps _ _ _ _).then_ (by decide) (by decide) ?_
  with_reducible exact Keeps.refl _
  with_reducible refine Keeps.ite (fun _ => ?_) (fun _ => ?_)
  with_reducible refine (secEnd_keeps _ _ _ _).then_ (by decide) (by decide) ?_
  with_reducible exact Keeps.refl _
  with_reducible refine Keeps.trans ?_ (withIn_keeps (by decide) (by decide) (fun _ _ => ?_))
  with_reducible exact Keeps.refl _
  with_reducible refine (secEnd_keeps _ _ _ _).then_ (by decide) (by decide) ?_
  with_reducible refine (setVolatile_keeps _ _ _ _).then_ (by decide) (by decide) ?_
  with_reducible exact Keeps.refl _

theorem execSecKeyClear_keeps (h : DHdr) (b : List Byte) (s : State) :
    KeepsR [Reg.SW_CNT_VAL, Reg.SW_MSEC_STAT, Reg.SEC_KEY_STATE] [.records, .freeCtr, .owed, .rng, .rings, .proxies, .wire, .sec, .out] s (execSecKeyClear h b s) := by
  unfold execSecKeyClear
  try dsimp only
  with_reducible refine sec_keeps (by decide) (by decide) (by decide) (fun _ => ?_)
  with_reducible refine Keeps.ite (fun _ => ?_) (fun _ => ?_)
  with_reducible refine (secEnd_keeps _ _ _ _).then_ (by decide) (by decide) ?_
  with_reducible exact Keeps.refl _
  with_reducible refine Keeps.ite (fun _ => ?_) (fun _ => ?_)
  with_reducible refine (secEnd_keeps _ _ _ _).then_ (by decide) (by decide) ?_
  with_reducible exact Keeps.refl _
  with_reducible refine (secEnd_keeps _ _ _ _).then_ (by decide) (by decide) ?_
  with_reducible refine (clearSlots_keeps _ _).then_ (by decide) (by decide) ?_
  with_reducible exact Keeps.refl _

theorem execSecPubkey_keeps (h : DHdr) (b : List Byte) (s : State) :
    KeepsR [Reg.PAR_FAULT, Reg.PAR_EVT_CNT, Reg.SW_CNT_VAL, Reg.SW_MSEC_STAT, Reg.TLY_CNT0] [.memory, .records, .freeCtr, .owed, .banks, .rng, .rings, .evt, .queue, .proxies, .loss, .wire, .out] s (execSecPubkey h b s) := by
  unfold execSecPubkey
  try dsimp only
  with_reducible refine sec_keeps (by decide) (by decide) (by decide) (fun _ => ?_)
  with_reducible refine Keeps.ite (fun _ => ?_) (fun _ => ?_)
  with_reducible refine (secEnd_keeps _ _ _ _).then_ (by decide) (by decide) ?_
  with_reducible exact Keeps.refl _
  with_reducible refine Keeps.ite (fun _ => ?_) (fun _ => ?_)
  with_reducible refine (secEnd_keeps _ _ _ _).then_ (by decide) (by decide) ?_
  with_reducible exact Keeps.refl _
  with_reducible refine Keeps.trans ?_ (withOut_keeps (by decide) (by decide) (fun _ _ => ?_))
  with_reducible exact Keeps.refl _
  with_reducible refine (secOut_keeps _ _ _ _ _).then_ (by decide) (by decide) ?_
  with_reducible exact Keeps.refl _

theorem execKeyProvision_keeps (h : DHdr) (b : List Byte) (s : State) :
    KeepsR [Reg.PAR_SEAL_STATUS, Reg.PAR_FAULT, Reg.PAR_EVT_CNT, Reg.SW_CNT_VAL, Reg.SW_MSEC_STAT, Reg.SEC_KEY_STATE, Reg.TLY_CNT0] [.records, .freeCtr, .owed, .banks, .rng, .rings, .evt, .queue, .proxies, .loss, .wire, .sec, .out] s (execKeyProvision h b s) := by
  unfold execKeyProvision
  try dsimp only
  with_reducible refine sec_keeps (by decide) (by decide) (by decide) (fun _ => ?_)
  with_reducible refine Keeps.ite (fun _ => ?_) (fun _ => ?_)
  with_reducible refine (secEnd_keeps _ _ _ _).then_ (by decide) (by decide) ?_
  with_reducible refine (violate_keeps _).then_ (by decide) (by decide) ?_
  with_reducible exact Keeps.refl _
  with_reducible refine Keeps.ite (fun _ => ?_) (fun _ => ?_)
  with_reducible refine (secEnd_keeps _ _ _ _).then_ (by decide) (by decide) ?_
  with_reducible exact Keeps.refl _
  with_reducible refine Keeps.ite (fun _ => ?_) (fun _ => ?_)
  with_reducible refine (secEnd_keeps _ _ _ _).then_ (by decide) (by decide) ?_
  with_reducible exact Keeps.refl _
  with_reducible refine Keeps.trans ?_ (withIn_keeps (by decide) (by decide) (fun _ _ => ?_))
  with_reducible exact Keeps.refl _
  with_reducible refine (secEnd_keeps _ _ _ _).then_ (by decide) (by decide) ?_
  with_reducible refine (setKey_keeps _ _ _).then_ (by decide) (by decide) ?_
  with_reducible exact Keeps.refl _

theorem useSa_keeps (s : State) (port : Nat) (an : Nat) (a : Sa) :
    Keeps [Reg.SW_MSEC_STAT] [.wire] s (useSa s port an a) := by
  unfold useSa
  try dsimp only
  with_reducible refine Keeps.put (in_SW_MSEC_STAT_PN_WARN _) (by decide) ?_
  with_reducible refine Keeps.put (in_SW_MSEC_STAT_TX_ACTIVE _) (by decide) ?_
  with_reducible refine Keeps.wr (in_SW_MSEC_STAT_TX_AN _) (by decide) ?_
  with_reducible refine Keeps.set_wire rfl (by decide) ?_
  with_reducible exact Keeps.refl _

theorem installSa_keeps (s : State) (port : Nat) (dir : Nat) (an : Nat) (use : Bool) (a : Sa) :
    Keeps [Reg.SW_MSEC_STAT] [.sw, .wire] s (installSa s port dir an use a) := by
  unfold installSa
  try dsimp only
  with_reducible refine Keeps.ite (fun _ => ?_) (fun _ => ?_)
  with_reducible refine Keeps.orF (in_SW_MSEC_STAT_RX_AN_VALID _) (by decide) ?_
  with_reducible refine Keeps.set_sw (by decide) ⟨rfl, rfl, rfl⟩ ?_
  with_reducible exact Keeps.refl _
  with_reducible refine Keeps.ite (fun _ => ?_) (fun _ => ?_)
  with_reducible refine (useSa_keeps _ _ _ _).then_ (by decide) (by decide) ?_
  with_reducible exact Keeps.refl _
  with_reducible refine Keeps.set_wire rfl (by decide) ?_
  with_reducible exact Keeps.refl _

theorem execMsecInstall_keeps (h : DHdr) (b : List Byte) (s : State) :
    KeepsR [Reg.SW_CNT_VAL, Reg.SW_MSEC_STAT] [.records, .freeCtr, .owed, .rng, .rings, .proxies, .sw, .wire, .out] s (execMsecInstall h b s) := by
  unfold execMsecInstall
  try dsimp only
  with_reducible refine sec_keeps (by decide) (by decide) (by decide) (fun _ => ?_)
  with_reducible refine Keeps.ite (fun _ => ?_) (fun _ => ?_)
  with_reducible refine (secEnd_keeps _ _ _ _).then_ (by decide) (by decide) ?_
  with_reducible exact Keeps.refl _
  with_reducible refine Keeps.ite (fun _ => ?_) (fun _ => ?_)
  with_reducible refine (secEnd_keeps _ _ _ _).then_ (by decide) (by decide) ?_
  with_reducible exact Keeps.refl _
  with_reducible refine Keeps.ite (fun _ => ?_) (fun _ => ?_)
  with_reducible refine (secEnd_keeps _ _ _ _).then_ (by decide) (by decide) ?_
  with_reducible exact Keeps.refl _
  with_reducible refine Keeps.ite (fun _ => ?_) (fun _ => ?_)
  split
  with_reducible refine (secEnd_keeps _ _ _ _).then_ (by decide) (by decide) ?_
  with_reducible refine (useSa_keeps _ _ _ _).then_ (by decide) (by decide) ?_
  with_reducible exact Keeps.refl _
  with_reducible refine (secEnd_keeps _ _ _ _).then_ (by decide) (by decide) ?_
  with_reducible exact Keeps.refl _
  with_reducible refine Keeps.ite (fun _ => ?_) (fun _ => ?_)
  with_reducible refine (secEnd_keeps _ _ _ _).then_ (by decide) (by decide) ?_
  with_reducible exact Keeps.refl _
  with_reducible refine Keeps.ite (fun _ => ?_) (fun _ => ?_)
  with_reducible refine (secEnd_keeps _ _ _ _).then_ (by decide) (by decide) ?_
  with_reducible exact Keeps.refl _
  with_reducible refine (secEnd_keeps _ _ _ _).then_ (by decide) (by decide) ?_
  with_reducible refine (installSa_keeps _ _ _ _ _ _).then_ (by decide) (by decide) ?_
  with_reducible exact Keeps.refl _

theorem execMsecRetire_keeps (h : DHdr) (b : List Byte) (s : State) :
    KeepsR [Reg.SW_CNT_VAL, Reg.SW_MSEC_STAT] [.records, .freeCtr, .owed, .rng, .rings, .proxies, .sw, .wire, .out] s (execMsecRetire h b s) := by
  unfold execMsecRetire
  try dsimp only
  with_reducible refine sec_keeps (by decide) (by decide) (by decide) (fun _ => ?_)
  with_reducible refine Keeps.ite (fun _ => ?_) (fun _ => ?_)
  with_reducible refine (secEnd_keeps _ _ _ _).then_ (by decide) (by decide) ?_
  with_reducible exact Keeps.refl _
  with_reducible refine Keeps.ite (fun _ => ?_) (fun _ => ?_)
  with_reducible refine (secEnd_keeps _ _ _ _).then_ (by decide) (by decide) ?_
  with_reducible refine Keeps.wr (in_SW_MSEC_STAT_RX_AN_VALID _) (by decide) ?_
  with_reducible refine Keeps.set_sw (by decide) ⟨rfl, rfl, rfl⟩ ?_
  with_reducible exact Keeps.refl _
  with_reducible refine (secEnd_keeps _ _ _ _).then_ (by decide) (by decide) ?_
  with_reducible refine Keeps.ite (fun _ => ?_) (fun _ => ?_)
  with_reducible refine Keeps.put (in_SW_MSEC_STAT_TX_ACTIVE _) (by decide) ?_
  with_reducible refine Keeps.set_wire rfl (by decide) ?_
  with_reducible exact Keeps.refl _
  with_reducible refine Keeps.set_wire rfl (by decide) ?_
  with_reducible exact Keeps.refl _

theorem execDbgAuthChallenge_keeps (s : State) :
    KeepsR [] [.freeCtr, .sec, .out] s (execDbgAuthChallenge s) := by
  unfold execDbgAuthChallenge
  try dsimp only
  with_reducible refine KeepsR.whileCd ?_
  with_reducible refine Keeps.ite (fun _ => ?_) (fun _ => ?_)
  with_reducible refine (emit_keeps _ _).then_ (by decide) (by decide) ?_
  with_reducible refine Keeps.set_sec (by decide) ?_
  with_reducible refine (freeNext_keeps _).then_ (by decide) (by decide) ?_
  with_reducible exact Keeps.refl _
  with_reducible refine (emit_keeps _ _).then_ (by decide) (by decide) ?_
  with_reducible exact Keeps.refl _

theorem execDbgAuthResponse_keeps (r : List Byte) (s : State) :
    KeepsR [Reg.PAR_EVT_CNT, Reg.SW_CNT_VAL, Reg.SW_MSEC_STAT, Reg.SEC_STATUS, Reg.SEC_CNT, Reg.TLY_CNT0] [.records, .owed, .rings, .evt, .queue, .proxies, .loss, .wire, .sec, .out] s (execDbgAuthResponse r s) := by
  unfold execDbgAuthResponse
  try dsimp only
  with_reducible refine KeepsR.whileCd ?_
  with_reducible refine Keeps.ite (fun _ => ?_) (fun _ => ?_)
  with_reducible refine (tally_keeps _ _ _).then_ (by decide) (by decide) ?_
  with_reducible refine (raise_keeps _ _ _ _ _).then_ (by decide) (by decide) ?_
  with_reducible refine Keeps.orF (in_SEC_STATUS_DBG_OPEN) (by decide) ?_
  with_reducible refine Keeps.set_sec (by decide) ?_
  with_reducible exact Keeps.refl _
  with_reducible refine Keeps.set_sec (by decide) ?_
  with_reducible refine Keeps.bump (in_SEC_CNT_DBG_FAILS) (by decide) ?_
  with_reducible refine Keeps.set_sec (by decide) ?_
  with_reducible exact Keeps.refl _

end Sys2Proof.Machine
end

