-- ==== Sys2Proof/Laws/Boot.lean ====
section
/-! SUPPORT.
What the operations of Machine/Boot.lean change, and that they keep a sound state sound.
-/

namespace Sys2Proof.Machine

theorem upd_keeps {w : List Span} {g : List Part} {op : Nat} {h : DHdr} {b : List Byte} {s : State} {f : Nat → State → State} (hw : regsWithin [Reg.SW_CNT_VAL, Reg.SW_MSEC_STAT] w = true)
    (hg : within [Part.records, .freeCtr, .owed, .rng, .rings, .proxies, .wire, .out] g = true)
    (hr : within [Part.rng] g = true) (hf : ∀ l t, Keeps w g t (f l t)) :
    KeepsR w g s (upd op h b s f) := by
  have k : ∀ {t u : State}, Keeps [Reg.SW_CNT_VAL, Reg.SW_MSEC_STAT] [Part.records, .freeCtr, .owed, .rng, .rings, .proxies, .wire, .out] t u → Keeps w g t u :=
    fun h => h.mono (of_regsWithin hw) (of_within hg)
  unfold upd
  refine sec_keeps hw hg hr (fun t => ?_)
  dsimp only
  refine Keeps.ite (fun _ => ?_) fun _ => hf _ _
  exact k ((secEnd_keeps _ _ _ _).then_ (by decide) (by decide) (Keeps.refl _))

theorem updNo_keeps (s : State) (h : DHdr) (op : Nat) (r : Nat) :
    Keeps [Reg.SW_CNT_VAL, Reg.SW_MSEC_STAT] [.records, .owed, .rng, .rings, .proxies, .wire, .out] s (updNo s h op r) := by
  unfold updNo
  try dsimp only
  with_reducible refine (complete_keeps _ _ _ _ _ _).then_ (by decide) (by decide) ?_
  with_reducible exact Keeps.refl _

theorem execUpdVerify_keeps (h : DHdr) (b : List Byte) (media : Bool) (s : State) :
    KeepsR [Reg.SW_CNT_VAL, Reg.SW_MSEC_STAT, Reg.UPD_STATUS] [.records, .freeCtr, .owed, .rng, .rings, .proxies, .wire, .sto, .out] s (execUpdVerify h b media s) := by
  unfold execUpdVerify
  try dsimp only
  with_reducible refine upd_keeps (by decide) (by decide) (by decide) (fun _ _ => ?_)
  with_reducible refine (complete_keeps _ _ _ _ _ _).then_ (by decide) (by decide) ?_
  with_reducible refine (writeRecord_keeps _).then_ (by decide) (by decide) ?_
  with_reducible refine (setSlot_keeps _ _ _).then_ (by decide) (by decide) ?_
  with_reducible refine (charge_keeps _ _ _ _).then_ (by decide) (by decide) ?_
  with_reducible exact Keeps.refl _

theorem execUpdArm_keeps (h : DHdr) (b : List Byte) (s : State) :
    KeepsR [Reg.SW_CNT_VAL, Reg.SW_MSEC_STAT, Reg.UPD_STATUS] [.records, .freeCtr, .owed, .rng, .rings, .proxies, .wire, .sto, .upd, .out] s (execUpdArm h b s) := by
  unfold execUpdArm
  try dsimp only
  with_reducible refine upd_keeps (by decide) (by decide) (by decide) (fun _ _ => ?_)
  with_reducible refine Keeps.ite (fun _ => ?_) (fun _ => ?_)
  with_reducible refine (updNo_keeps _ _ _ _).then_ (by decide) (by decide) ?_
  with_reducible exact Keeps.refl _
  with_reducible refine Keeps.ite (fun _ => ?_) (fun _ => ?_)
  with_reducible refine (updNo_keeps _ _ _ _).then_ (by decide) (by decide) ?_
  with_reducible exact Keeps.refl _
  with_reducible refine (secEnd_keeps _ _ _ _).then_ (by decide) (by decide) ?_
  with_reducible refine (writeRecord_keeps _).then_ (by decide) (by decide) ?_
  with_reducible refine Keeps.set_upd (by decide) ?_
  with_reducible refine Keeps.wr (in_UPD_STATUS_ARMED) (by decide) ?_
  with_reducible exact Keeps.refl _

theorem execUpdDisarm_keeps (h : DHdr) (b : List Byte) (s : State) :
    KeepsR [Reg.SW_CNT_VAL, Reg.SW_MSEC_STAT, Reg.UPD_STATUS] [.records, .freeCtr, .owed, .rng, .rings, .proxies, .wire, .sto, .out] s (execUpdDisarm h b s) := by
  unfold execUpdDisarm
  try dsimp only
  with_reducible refine upd_keeps (by decide) (by decide) (by decide) (fun _ _ => ?_)
  with_reducible refine (secEnd_keeps _ _ _ _).then_ (by decide) (by decide) ?_
  with_reducible refine (writeRecord_keeps _).then_ (by decide) (by decide) ?_
  with_reducible refine Keeps.wr (in_UPD_STATUS_ARMED) (by decide) ?_
  with_reducible exact Keeps.refl _

theorem raiseCounter_keeps (s : State) (v : Nat) :
    Keeps [Reg.UPD_RB] [] s (raiseCounter s v) := by
  unfold raiseCounter
  try dsimp only
  with_reducible refine Keeps.wr (in_UPD_RB_RB_COUNTER) (by decide) ?_
  with_reducible exact Keeps.refl _

theorem execUpdConfirm_keeps (h : DHdr) (b : List Byte) (s : State) :
    KeepsR [Reg.SW_CNT_VAL, Reg.SW_MSEC_STAT, Reg.UPD_STATUS, Reg.UPD_RB, Reg.UPD_LEFT] [.records, .freeCtr, .owed, .rng, .rings, .proxies, .wire, .sto, .upd, .out] s (execUpdConfirm h b s) := by
  unfold execUpdConfirm
  try dsimp only
  with_reducible refine upd_keeps (by decide) (by decide) (by decide) (fun _ _ => ?_)
  with_reducible refine Keeps.ite (fun _ => ?_) (fun _ => ?_)
  with_reducible refine (updNo_keeps _ _ _ _).then_ (by decide) (by decide) ?_
  with_reducible exact Keeps.refl _
  with_reducible refine (secEnd_keeps _ _ _ _).then_ (by decide) (by decide) ?_
  with_reducible refine (raiseCounter_keeps _ _).then_ (by decide) (by decide) ?_
  with_reducible refine (writeRecord_keeps _).then_ (by decide) (by decide) ?_
  with_reducible refine Keeps.set_upd (by decide) ?_
  with_reducible refine Keeps.wr (in_UPD_LEFT_SECONDS) (by decide) ?_
  with_reducible refine Keeps.wr (in_UPD_STATUS_LAST_OUTCOME) (by decide) ?_
  with_reducible refine Keeps.wr (in_UPD_STATUS_TRIES) (by decide) ?_
  with_reducible refine Keeps.put (in_UPD_STATUS_TRIAL) (by decide) ?_
  with_reducible exact Keeps.refl _

theorem execConfirmDeadline_keeps (s : State) :
    KeepsR [Reg.every] [.memory, .records, .layout, .freeCtr, .latches, .spar, .dt, .pwr, .owed, .banks, .par, .rng, .rings, .evt, .queue, .chain, .proxies, .act, .chs, .scl, .loss, .sns, .sw, .wire, .sub, .brd, .inf, .sto, .sec, .upd, .flt, .out] s (execConfirmDeadline s) := by
  unfold execConfirmDeadline
  try dsimp only
  with_reducible refine KeepsR.next ?_
  with_reducible refine Keeps.ite (fun _ => ?_) (fun _ => ?_)
  with_reducible refine (showDomains_keeps _).then_ (by decide) (by decide) ?_
  with_reducible refine Keeps.ite (fun _ => ?_) (fun _ => ?_)
  with_reducible refine (commandReset_keeps _ _).then_ (by decide) (by decide) ?_
  with_reducible refine Keeps.set_upd (by decide) ?_
  with_reducible exact Keeps.refl _
  with_reducible refine Keeps.ite (fun _ => ?_) (fun _ => ?_)
  with_reducible refine (deviceReset_keeps _).then_ (by decide) (by decide) ?_
  with_reducible refine Keeps.orFEvery (by decide) ?_
  with_reducible refine Keeps.set_upd (by decide) ?_
  with_reducible exact Keeps.refl _
  with_reducible refine Keeps.orFEvery (by decide) ?_
  with_reducible refine Keeps.set_upd (by decide) ?_
  with_reducible exact Keeps.refl _
  with_reducible exact Keeps.refl _

theorem execUpdConfirmDue_keeps (s : State) :
    KeepsR [Reg.PAR_EVT_CNT, Reg.SW_CNT_VAL, Reg.SW_MSEC_STAT, Reg.TLY_CNT0] [.records, .owed, .rings, .evt, .queue, .proxies, .loss, .wire, .out] s (execUpdConfirmDue s) := by
  unfold execUpdConfirmDue
  try dsimp only
  with_reducible refine KeepsR.whileCd ?_
  with_reducible refine Keeps.ite (fun _ => ?_) (fun _ => ?_)
  with_reducible refine (raise_keeps _ _ _ _ _).then_ (by decide) (by decide) ?_
  with_reducible exact Keeps.refl _
  with_reducible exact Keeps.refl _

theorem tellActivation_keeps (s : State) (outcome : Nat) (slot : Nat) (reason : Nat) (bank : Nat) (m : List Byte) :
    Keeps [Reg.TLY_CNT0] [.evt, .queue] s (tellActivation s outcome slot reason bank m) := by
  unfold tellActivation
  try dsimp only
  with_reducible refine (tally_keeps _ _ _).then_ (by decide) (by decide) ?_
  with_reducible refine (holdEvent_keeps _ _ _ _ _).then_ (by decide) (by decide) ?_
  with_reducible exact Keeps.refl _

theorem activationFailed_keeps (s : State) (l : Nat) (reason : Nat) (m : List Byte) :
    Keeps [Reg.UPD_STATUS, Reg.TLY_CNT0] [.freeCtr, .evt, .queue, .sto] s (activationFailed s l reason m) := by
  unfold activationFailed
  try dsimp only
  with_reducible refine (tellActivation_keeps _ _ _ _ _ _).then_ (by decide) (by decide) ?_
  with_reducible refine (writeRecord_keeps _).then_ (by decide) (by decide) ?_
  with_reducible refine Keeps.wr (in_UPD_STATUS_LAST_REASON) (by decide) ?_
  with_reducible refine Keeps.wr (in_UPD_STATUS_LAST_OUTCOME) (by decide) ?_
  with_reducible refine Keeps.wr (in_UPD_STATUS_ARMED) (by decide) ?_
  with_reducible refine (setSlot_keeps _ _ _).then_ (by decide) (by decide) ?_
  with_reducible exact Keeps.refl _

theorem writeBank_keeps (s : State) (bank : Nat) (l : List (Nat × List Byte)) :
    Keeps [] [.sto] s (writeBank s bank l) := by
  unfold writeBank
  try dsimp only
  with_reducible refine Keeps.foldl (fun _ _ => ?_) _ ?_
  with_reducible refine (putBlk_keeps _ _ _ _).then_ (by decide) (by decide) ?_
  with_reducible exact Keeps.refl _
  with_reducible exact Keeps.refl _

theorem activated_keeps (s : State) (l : Nat) (bank : Nat) (m : List Byte) :
    Keeps [Reg.UPD_STATUS, Reg.UPD_BANK, Reg.UPD_BANK_SVN, Reg.UPD_LEFT, Reg.TLY_CNT0] [.freeCtr, .evt, .queue, .sto, .upd] s (activated s l bank m) := by
  unfold activated
  try dsimp only
  with_reducible refine (tellActivation_keeps _ _ _ _ _ _).then_ (by decide) (by decide) ?_
  with_reducible refine (holdEvent_keeps _ _ _ _ _).then_ (by decide) (by decide) ?_
  with_reducible refine (writeRecord_keeps _).then_ (by decide) (by decide) ?_
  with_reducible refine Keeps.set_upd (by decide) ?_
  with_reducible refine Keeps.wr (in_UPD_LEFT_SECONDS) (by decide) ?_
  with_reducible refine Keeps.wr (in_UPD_STATUS_LAST_REASON) (by decide) ?_
  with_reducible refine Keeps.wr (in_UPD_STATUS_LAST_OUTCOME) (by decide) ?_
  with_reducible refine Keeps.wr (in_UPD_BANK_SVN_SVN _) (by decide) ?_
  with_reducible refine Keeps.wr (in_UPD_BANK_BUNDLE_ID _) (by decide) ?_
  with_reducible refine Keeps.wr (in_UPD_STATUS_TRIES) (by decide) ?_
  with_reducible refine Keeps.wr (in_UPD_STATUS_TRIAL) (by decide) ?_
  with_reducible refine Keeps.wr (in_UPD_STATUS_ACTIVE_BANK) (by decide) ?_
  with_reducible refine Keeps.wr (in_UPD_STATUS_ARMED) (by decide) ?_
  with_reducible refine (setSlot_keeps _ _ _).then_ (by decide) (by decide) ?_
  with_reducible exact Keeps.refl _

theorem activate_keeps (s : State) (l : Nat) (media : Bool) (badWrite : Bool) (cut : Option Nat) :
    Keeps [Reg.UPD_STATUS, Reg.UPD_BANK, Reg.UPD_BANK_SVN, Reg.UPD_LEFT, Reg.TLY_CNT0] [.freeCtr, .evt, .queue, .sto, .upd] s (activate s l media badWrite cut) := by
  unfold activate
  try dsimp only
  with_reducible refine Keeps.ite (fun _ => ?_) (fun _ => ?_)
  with_reducible refine (activationFailed_keeps _ _ _ _).then_ (by decide) (by decide) ?_
  with_reducible exact Keeps.refl _
  split
  with_reducible refine Keeps.ite (fun _ => ?_) (fun _ => ?_)
  with_reducible refine (writeBank_keeps _ _ _).then_ (by decide) (by decide) ?_
  with_reducible refine (writeRecord_keeps _).then_ (by decide) (by decide) ?_
  with_reducible refine Keeps.set_upd (by decide) ?_
  with_reducible exact Keeps.refl _
  with_reducible refine (writeRecord_keeps _).then_ (by decide) (by decide) ?_
  with_reducible refine Keeps.set_upd (by decide) ?_
  with_reducible exact Keeps.refl _
  with_reducible refine Keeps.ite (fun _ => ?_) (fun _ => ?_)
  with_reducible refine (activationFailed_keeps _ _ _ _).then_ (by decide) (by decide) ?_
  with_reducible refine (writeRecord_keeps _).then_ (by decide) (by decide) ?_
  with_reducible refine Keeps.set_upd (by decide) ?_
  with_reducible exact Keeps.refl _
  with_reducible refine Keeps.ite (fun _ => ?_) (fun _ => ?_)
  with_reducible refine (activationFailed_keeps _ _ _ _).then_ (by decide) (by decide) ?_
  with_reducible refine (writeBank_keeps _ _ _).then_ (by decide) (by decide) ?_
  with_reducible refine (writeRecord_keeps _).then_ (by decide) (by decide) ?_
  with_reducible refine Keeps.set_upd (by decide) ?_
  with_reducible exact Keeps.refl _
  with_reducible refine (activated_keeps _ _ _ _).then_ (by decide) (by decide) ?_
  with_reducible refine (writeBank_keeps _ _ _).then_ (by decide) (by decide) ?_
  with_reducible refine (writeRecord_keeps _).then_ (by decide) (by decide) ?_
  with_reducible refine Keeps.set_upd (by decide) ?_
  with_reducible exact Keeps.refl _

theorem revert_keeps (s : State) (cause : Nat) :
    Keeps [Reg.UPD_STATUS, Reg.UPD_LEFT, Reg.TLY_CNT0] [.freeCtr, .evt, .queue, .sto, .upd] s (revert s cause) := by
  unfold revert
  try dsimp only
  with_reducible refine (tally_keeps _ _ _).then_ (by decide) (by decide) ?_
  with_reducible refine (holdEvent_keeps _ _ _ _ _).then_ (by decide) (by decide) ?_
  with_reducible refine (writeRecord_keeps _).then_ (by decide) (by decide) ?_
  with_reducible refine Keeps.set_upd (by decide) ?_
  with_reducible refine Keeps.wr (in_UPD_LEFT_SECONDS) (by decide) ?_
  with_reducible refine Keeps.wr (in_UPD_STATUS_LAST_OUTCOME) (by decide) ?_
  with_reducible refine Keeps.wr (in_UPD_STATUS_TRIES) (by decide) ?_
  with_reducible refine Keeps.wr (in_UPD_STATUS_TRIAL) (by decide) ?_
  with_reducible refine Keeps.wr (in_UPD_STATUS_ACTIVE_BANK) (by decide) ?_
  with_reducible exact Keeps.refl _

theorem settleTrial_keeps (s : State) (ok : Nat → Bool) :
    Keeps [Reg.UPD_STATUS, Reg.UPD_LEFT, Reg.TLY_CNT0] [.freeCtr, .evt, .queue, .sto, .upd] s (settleTrial s ok) := by
  unfold settleTrial
  try dsimp only
  with_reducible refine Keeps.ite (fun _ => ?_) (fun _ => ?_)
  with_reducible exact Keeps.refl _
  with_reducible refine Keeps.ite (fun _ => ?_) (fun _ => ?_)
  with_reducible refine (revert_keeps _ _).then_ (by decide) (by decide) ?_
  with_reducible exact Keeps.refl _
  with_reducible refine Keeps.ite (fun _ => ?_) (fun _ => ?_)
  with_reducible refine (writeRecord_keeps _).then_ (by decide) (by decide) ?_
  with_reducible refine Keeps.wr (in_UPD_STATUS_TRIES) (by decide) ?_
  with_reducible exact Keeps.refl _
  with_reducible exact Keeps.refl _

theorem loadComp_keeps (bank : Nat) (s : State) (c : Comp) :
    Keeps [] [.memory, .records] s (loadComp bank s c) := by
  unfold loadComp
  try dsimp only
  with_reducible refine Keeps.writeBytes (by decide) ?_
  with_reducible exact Keeps.refl _

theorem startBank_keeps (s : State) (bank : Nat) :
    Keeps [] [.memory, .records, .pwr, .out] s (startBank s bank) := by
  unfold startBank
  try dsimp only
  with_reducible refine Keeps.set_pwr (by decide) rfl rfl ?_
  with_reducible refine Keeps.ite (fun _ => ?_) (fun _ => ?_)
  with_reducible refine Keeps.foldl (fun _ _ => ?_) _ ?_
  with_reducible refine (loadComp_keeps _ _ _).then_ (by decide) (by decide) ?_
  with_reducible exact Keeps.refl _
  with_reducible exact Keeps.refl _
  with_reducible refine (emit_keeps _ _).then_ (by decide) (by decide) ?_
  with_reducible refine Keeps.foldl (fun _ _ => ?_) _ ?_
  with_reducible refine (loadComp_keeps _ _ _).then_ (by decide) (by decide) ?_
  with_reducible exact Keeps.refl _
  with_reducible exact Keeps.refl _

theorem bootNone_keeps (s : State) (r0 : Nat) (r1 : Nat) :
    Keeps [Reg.CHN_ATTACH, Reg.PAR_STATE, Reg.PAR_EVT_CNT, Reg.ACT_SAFE_STATUS, Reg.ACT_CNT, Reg.HS_STATE, Reg.HB_STATE, Reg.SV_STATE, Reg.SV_KRES, Reg.SV_CNT2, Reg.LED_STATE, Reg.FIO_CAUSE, Reg.SIN_SCHED, Reg.SIN_STREAMS, Reg.SW_CNT_VAL, Reg.SW_MSEC_STAT, Reg.TLY_CNT0, Reg.EVT_CDLOSS] [.records, .freeCtr, .spar, .pwr, .owed, .rng, .rings, .evt, .queue, .proxies, .act, .chs, .loss, .sns, .wire, .out] s (bootNone s r0 r1) := by
  unfold bootNone
  try dsimp only
  with_reducible refine (controlLost_keeps _ _).then_ (by decide) (by decide) ?_
  with_reducible refine (tally_keeps _ _ _).then_ (by decide) (by decide) ?_
  with_reducible exact Keeps.refl _

theorem execSecureBoot_keeps (media : Bool) (badWrite : Bool) (bad0 : Bool) (bad1 : Bool) (cut : Option Nat) (s : State) :
    KeepsR [Reg.CHN_ATTACH, Reg.PAR_STATE, Reg.PAR_EVT_CNT, Reg.ACT_SAFE_STATUS, Reg.ACT_CNT, Reg.HS_STATE, Reg.HB_STATE, Reg.SV_STATE, Reg.SV_KRES, Reg.SV_CNT2, Reg.LED_STATE, Reg.FIO_CAUSE, Reg.SIN_SCHED, Reg.SIN_STREAMS, Reg.SW_CNT_VAL, Reg.SW_MSEC_STAT, Reg.UPD_STATUS, Reg.UPD_RB, Reg.UPD_BANK, Reg.UPD_BANK_SVN, Reg.UPD_LEFT, Reg.TLY_CNT0, Reg.EVT_CDLOSS] [.memory, .records, .freeCtr, .spar, .pwr, .owed, .rng, .rings, .evt, .queue, .proxies, .act, .chs, .loss, .sns, .wire, .sto, .upd, .out] s (execSecureBoot media badWrite bad0 bad1 cut s) := by
  unfold execSecureBoot
  try dsimp only
  with_reducible refine KeepsR.whileCd ?_
  with_reducible refine Keeps.ite (fun _ => ?_) (fun _ => ?_)
  with_reducible exact Keeps.refl _
  with_reducible refine Keeps.ite (fun _ => ?_) (fun _ => ?_)
  with_reducible refine Keeps.ite (fun _ => ?_) (fun _ => ?_)
  with_reducible exact Keeps.refl _
  with_reducible refine (activate_keeps _ _ _ _ _).then_ (by decide) (by decide) ?_
  with_reducible exact Keeps.refl _
  with_reducible refine Keeps.ite (fun _ => ?_) (fun _ => ?_)
  with_reducible refine (startBank_keeps _ _).then_ (by decide) (by decide) ?_
  with_reducible refine Keeps.ite (fun _ => ?_) (fun _ => ?_)
  with_reducible refine (settleTrial_keeps _ _).then_ (by decide) (by decide) ?_
  with_reducible refine Keeps.ite (fun _ => ?_) (fun _ => ?_)
  with_reducible exact Keeps.refl _
  with_reducible refine (activate_keeps _ _ _ _ _).then_ (by decide) (by decide) ?_
  with_reducible exact Keeps.refl _
  with_reducible refine (raiseCounter_keeps _ _).then_ (by decide) (by decide) ?_
  with_reducible refine (settleTrial_keeps _ _).then_ (by decide) (by decide) ?_
  with_reducible refine Keeps.ite (fun _ => ?_) (fun _ => ?_)
  with_reducible exact Keeps.refl _
  with_reducible refine (activate_keeps _ _ _ _ _).then_ (by decide) (by decide) ?_
  with_reducible exact Keeps.refl _
  with_reducible refine Keeps.ite (fun _ => ?_) (fun _ => ?_)
  with_reducible refine (startBank_keeps _ _).then_ (by decide) (by decide) ?_
  with_reducible refine Keeps.ite (fun _ => ?_) (fun _ => ?_)
  with_reducible refine (settleTrial_keeps _ _).then_ (by decide) (by decide) ?_
  with_reducible refine Keeps.ite (fun _ => ?_) (fun _ => ?_)
  with_reducible exact Keeps.refl _
  with_reducible refine (activate_keeps _ _ _ _ _).then_ (by decide) (by decide) ?_
  with_reducible exact Keeps.refl _
  with_reducible refine (raiseCounter_keeps _ _).then_ (by decide) (by decide) ?_
  with_reducible refine (settleTrial_keeps _ _).then_ (by decide) (by decide) ?_
  with_reducible refine Keeps.ite (fun _ => ?_) (fun _ => ?_)
  with_reducible exact Keeps.refl _
  with_reducible refine (activate_keeps _ _ _ _ _).then_ (by decide) (by decide) ?_
  with_reducible exact Keeps.refl _
  with_reducible refine (bootNone_keeps _ _ _).then_ (by decide) (by decide) ?_
  with_reducible refine Keeps.ite (fun _ => ?_) (fun _ => ?_)
  with_reducible refine (settleTrial_keeps _ _).then_ (by decide) (by decide) ?_
  with_reducible refine Keeps.ite (fun _ => ?_) (fun _ => ?_)
  with_reducible exact Keeps.refl _
  with_reducible refine (activate_keeps _ _ _ _ _).then_ (by decide) (by decide) ?_
  with_reducible exact Keeps.refl _
  with_reducible refine (raiseCounter_keeps _ _).then_ (by decide) (by decide) ?_
  with_reducible refine (settleTrial_keeps _ _).then_ (by decide) (by decide) ?_
  with_reducible refine Keeps.ite (fun _ => ?_) (fun _ => ?_)
  with_reducible exact Keeps.refl _
  with_reducible refine (activate_keeps _ _ _ _ _).then_ (by decide) (by decide) ?_
  with_reducible exact Keeps.refl _

end Sys2Proof.Machine
end

