-- ==== Sys2Proof/Laws/Bundle.lean ====
section
/-! SUPPORT.
What the operations of Machine/Bundle.lean change, and that they keep a sound state sound.
-/

namespace Sys2Proof.Machine



end Sys2Proof.Machine
end

