-- ==== Sys2Proof/Laws/Operands.lean ====
section
/-! SUPPORT.
What the operations of Machine/Operands.lean change, and that they keep a sound state sound.
-/

namespace Sys2Proof.Machine

theorem writeField_keepsIn {r : Span} {base : Nat} {hiWord : Bool} {v : Nat} {s : State} {f : FieldDesc}
    (hb : r.Has base) (hf : f.lsb < 64) : Keeps [r] [] s (writeField base hiWord v s f) := by
  unfold writeField
  exact Keeps.ite (fun _ => Keeps.refl _) fun _ => Keeps.ite (fun _ => Keeps.refl _) fun _ =>
    Keeps.ite (fun _ => Keeps.refl _) fun _ => (Keeps.refl _).wr (f := fieldOf base f) ⟨hb, hf⟩ (List.mem_singleton.2 rfl)

theorem writeField_keeps (base : Nat) (hiWord : Bool) (v : Nat) (s : State) (f : FieldDesc) :
    Keeps [Reg.every] [] s (writeField base hiWord v s f) := by
  unfold writeField
  exact Keeps.ite (fun _ => Keeps.refl _) fun _ => Keeps.ite (fun _ => Keeps.refl _) fun _ =>
    Keeps.ite (fun _ => Keeps.refl _) fun _ => (Keeps.refl _).wrEvery (by decide)

/-- A write to one register: what its offset hits lies in that register. -/
def RegAt (off : Nat) (r : Span) : Prop :=
  match regHit off with
  | some (d, base, _) => r.Has base ∧ ∀ f ∈ d.fields, f.lsb < 64
  | none => True

/-- The same as a test. -/
def regAtB (off : Nat) (r : Span) : Bool :=
  match regHit off with
  | some (d, base, _) => (List.range r.n).any (fun i => (List.range r.m).any (fun j =>
      base == r.base + r.stride * i + r.inner * j)) && d.fields.all (fun f => f.lsb < 64)
  | none => true

theorem regAt_of {off : Nat} {r : Span} (h : regAtB off r = true) : RegAt off r := by
  unfold regAtB at h
  unfold RegAt
  split
  · rename_i d base hi e
    rw [e] at h
    simp only [Bool.and_eq_true, List.any_eq_true, List.all_eq_true, List.mem_range, beq_iff_eq, decide_eq_true_eq] at h
    obtain ⟨⟨i, hi, j, hj, e⟩, hl⟩ := h
    exact ⟨⟨i, hi, j, hj, e⟩, hl⟩
  · trivial

theorem writeWord_any (s : State) (off v : Nat) : Keeps [Reg.every] [] s (writeWord s off v) := by
  unfold writeWord
  split
  · exact (violate_keeps _).then_ (by decide) (by decide) (Keeps.refl _)
  · refine Keeps.ite (fun _ => (violate_keeps _).then_ (by decide) (by decide) (Keeps.refl _)) (fun _ => ?_)
    refine Keeps.foldl (fun _ _ => writeField_keeps _ _ _ _ _) _ ?_
    exact Keeps.ite (fun _ => (violate_keeps _).then_ (by decide) (by decide) (Keeps.refl _)) (fun _ => Keeps.refl _)

theorem at_0x40000 : RegAt 0x40000 Reg.CHN_PORT_CFG := regAt_of (by decide)

theorem at_0x40030 : RegAt 0x40030 Reg.CHN_BYPASS := regAt_of (by decide)

theorem at_0x40058 : RegAt 0x40058 Reg.CHN_SLEEP := regAt_of (by decide)

theorem at_0x60 : RegAt 0x60 Reg.SPR_LIMP_CTL := regAt_of (by decide)

theorem at_0x20000 : RegAt 0x20000 Reg.PWR_NEXT := regAt_of (by decide)

theorem at_0x14 : RegAt 0x14 Reg.SPR_RTC := regAt_of (by decide)

theorem at_0x10 : RegAt 0x10 Reg.SPR_RTC := regAt_of (by decide)

theorem at_0x1C : RegAt 0x1C Reg.SPR_RTC_ALARM := regAt_of (by decide)

theorem at_0x18 : RegAt 0x18 Reg.SPR_RTC_ALARM := regAt_of (by decide)

theorem at_0x10000 : RegAt 0x10000 Reg.CLK_SRC := regAt_of (by decide)

theorem at_0x10010 : RegAt 0x10010 Reg.CLK_PLL_CFG := regAt_of (by decide)

theorem at_rtc (hi : Bool) : RegAt (if hi then 0x14 else 0x10) Reg.SPR_RTC := by
  cases hi
  · exact at_0x10
  · exact at_0x14

theorem at_alarm (hi : Bool) : RegAt (if hi then 0x1C else 0x18) Reg.SPR_RTC_ALARM := by
  cases hi
  · exact at_0x18
  · exact at_0x1C

theorem writeWord_keepsAt {off : Nat} {r : Span} (h : RegAt off r) (s : State) (v : Nat) :
    Keeps [Reg.PAR_SEAL_STATUS, r] [] s (writeWord s off v) := by
  unfold writeWord
  unfold RegAt at h
  split
  · exact (violate_keeps _).then_ (by simp [regsWithin, within]) rfl (Keeps.refl _)
  · rename_i d base hi e
    rw [e] at h
    refine Keeps.ite (fun _ => (violate_keeps _).then_ (by simp [regsWithin, within]) rfl (Keeps.refl _)) (fun _ => ?_)
    have h1 : ∀ (l : List FieldDesc) (t : State), (∀ f ∈ l, f.lsb < 64) →
        Keeps [Reg.PAR_SEAL_STATUS, r] [] t (l.foldl (writeField base hi v) t) := by
      intro l
      induction l with
      | nil => exact fun t _ => Keeps.refl t
      | cons f fs ih =>
        intro t hl
        exact ((writeField_keepsIn h.1 (hl f List.mem_cons_self)).mono (fun _ => by simp) (by simp)).trans
          (ih _ (fun g hg => hl g (List.mem_cons_of_mem _ hg)))
    refine Keeps.trans ?_ (h1 _ _ h.2)
    exact Keeps.ite (fun _ => (violate_keeps _).then_ (by simp [regsWithin, within]) rfl (Keeps.refl _)) (fun _ => Keeps.refl _)

theorem clearRead_keeps (s : State) (r : RegDesc) (base : Nat) (hiWord : Bool) :
    Keeps [Reg.every] [] s (clearRead s r base hiWord) := by
  unfold clearRead
  exact Keeps.foldl (fun _ _ => Keeps.ite (fun _ => (Keeps.refl _).wrEvery (by decide)) (fun _ => Keeps.refl _)) _
    (Keeps.refl _)

end Sys2Proof.Machine
end

