-- ==== Sys2Proof/Laws/Tally.lean ====
section
/-! SUPPORT.
What the operations of Machine/Tally.lean change, and that they keep a sound state sound.
-/

namespace Sys2Proof.Machine

theorem advanceSeq_keeps (s : State) :
    Keeps [Reg.TLY_STATUS, Reg.TLY_NEXT] [] s (advanceSeq s) := by
  unfold advanceSeq
  try dsimp only
  with_reducible refine Keeps.ite (fun _ => ?_) (fun _ => ?_)
  with_reducible refine Keeps.wr (in_TLY_STATUS_WRAPS) (by decide) ?_
  with_reducible refine Keeps.wr (in_TLY_NEXT_NEXT_RSEQ) (by decide) ?_
  with_reducible exact Keeps.refl _
  with_reducible refine Keeps.wr (in_TLY_NEXT_NEXT_RSEQ) (by decide) ?_
  with_reducible exact Keeps.refl _

theorem countUnread_keeps (s : State) :
    Keeps [Reg.PAR_EVT_CNT, Reg.SW_CNT_VAL, Reg.SW_MSEC_STAT, Reg.TLY_CNT0, Reg.TLY_CNT1] [.records, .owed, .rings, .evt, .tly, .queue, .proxies, .loss, .wire, .out] s (countUnread s) := by
  unfold countUnread
  try dsimp only
  with_reducible refine Keeps.ite (fun _ => ?_) (fun _ => ?_)
  with_reducible exact Keeps.refl _
  with_reducible refine Keeps.ite (fun _ => ?_) (fun _ => ?_)
  with_reducible refine Keeps.ite (fun _ => ?_) (fun _ => ?_)
  with_reducible refine Keeps.bump (in_TLY_CNT1_UNREAD_LOST) (by decide) ?_
  with_reducible exact Keeps.refl _
  with_reducible refine (raise_keeps _ _ _ _ _).then_ (by decide) (by decide) ?_
  with_reducible refine Keeps.set_tly (by decide) ⟨rfl, rfl, rfl⟩ ?_
  with_reducible refine Keeps.bump (in_TLY_CNT1_UNREAD_LOST) (by decide) ?_
  with_reducible exact Keeps.refl _
  with_reducible exact Keeps.refl _

theorem firstFault_keeps (s : State) (r : TRec) :
    Keeps [Reg.PAR_EVT_CNT, Reg.SW_CNT_VAL, Reg.SW_MSEC_STAT, Reg.TLY_STATUS, Reg.TLY_CNT0] [.records, .owed, .rings, .evt, .tly, .queue, .proxies, .loss, .wire, .out] s (firstFault s r) := by
  unfold firstFault
  try dsimp only
  with_reducible refine Keeps.ite (fun _ => ?_) (fun _ => ?_)
  with_reducible refine Keeps.put (in_TLY_STATUS_FF_FULL) (by decide) ?_
  with_reducible refine Keeps.wr (in_TLY_STATUS_FF_COUNT) (by decide) ?_
  with_reducible refine Keeps.set_tly (by decide) ⟨rfl, rfl, rfl⟩ ?_
  with_reducible exact Keeps.refl _
  with_reducible refine Keeps.ite (fun _ => ?_) (fun _ => ?_)
  with_reducible refine Keeps.bump (in_TLY_CNT0_FF_LOST) (by decide) ?_
  with_reducible exact Keeps.refl _
  with_reducible refine (raise_keeps _ _ _ _ _).then_ (by decide) (by decide) ?_
  with_reducible refine Keeps.set_tly (by decide) ⟨rfl, rfl, rfl⟩ ?_
  with_reducible refine Keeps.bump (in_TLY_CNT0_FF_LOST) (by decide) ?_
  with_reducible exact Keeps.refl _

theorem writeRec_keeps (s : State) (w : TWait) :
    Keeps [Reg.PAR_EVT_CNT, Reg.SW_CNT_VAL, Reg.SW_MSEC_STAT, Reg.TLY_STATUS, Reg.TLY_NEXT, Reg.TLY_CNT0, Reg.TLY_CNT1] [.records, .owed, .rings, .evt, .tly, .queue, .proxies, .loss, .wire, .out] s (writeRec s w) := by
  unfold writeRec
  try dsimp only
  with_reducible refine Keeps.ite (fun _ => ?_) (fun _ => ?_)
  with_reducible refine (firstFault_keeps _ _).then_ (by decide) (by decide) ?_
  with_reducible refine Keeps.put (in_TLY_STATUS_KEYLESS) (by decide) ?_
  with_reducible refine (advanceSeq_keeps _).then_ (by decide) (by decide) ?_
  with_reducible refine Keeps.set_tly_queue (by decide) (by decide) ?_
  with_reducible refine (countUnread_keeps _).then_ (by decide) (by decide) ?_
  with_reducible exact Keeps.refl _
  with_reducible refine Keeps.put (in_TLY_STATUS_KEYLESS) (by decide) ?_
  with_reducible refine (advanceSeq_keeps _).then_ (by decide) (by decide) ?_
  with_reducible refine Keeps.set_tly_queue (by decide) (by decide) ?_
  with_reducible refine (countUnread_keeps _).then_ (by decide) (by decide) ?_
  with_reducible exact Keeps.refl _

theorem tallyWrite_keeps (s0 : State) :
    Keeps [Reg.PAR_EVT_CNT, Reg.SW_CNT_VAL, Reg.SW_MSEC_STAT, Reg.TLY_STATUS, Reg.TLY_NEXT, Reg.TLY_CNT0, Reg.TLY_CNT1] [.records, .owed, .rings, .evt, .tly, .queue, .proxies, .loss, .wire, .out] s0 (tallyWrite s0) := by
  unfold tallyWrite
  try dsimp only
  split
  with_reducible refine Keeps.ite (fun _ => ?_) (fun _ => ?_)
  with_reducible exact Keeps.refl _
  with_reducible refine (mirrorScan_keeps _).then_ (by decide) (by decide) ?_
  with_reducible exact Keeps.refl _
  with_reducible refine Keeps.ite (fun _ => ?_) (fun _ => ?_)
  with_reducible refine (writeRec_keeps _ _).then_ (by decide) (by decide) ?_
  with_reducible refine Keeps.set_queue rfl (by decide) ?_
  with_reducible refine Keeps.ite (fun _ => ?_) (fun _ => ?_)
  with_reducible exact Keeps.refl _
  with_reducible refine (mirrorScan_keeps _).then_ (by decide) (by decide) ?_
  with_reducible exact Keeps.refl _
  with_reducible refine (tally_keeps _ _ _).then_ (by decide) (by decide) ?_
  with_reducible refine Keeps.set_queue rfl (by decide) ?_
  with_reducible refine (writeRec_keeps _ _).then_ (by decide) (by decide) ?_
  with_reducible refine Keeps.set_queue rfl (by decide) ?_
  with_reducible refine Keeps.ite (fun _ => ?_) (fun _ => ?_)
  with_reducible exact Keeps.refl _
  with_reducible refine (mirrorScan_keeps _).then_ (by decide) (by decide) ?_
  with_reducible exact Keeps.refl _

theorem tallyCut_keeps (s : State) (stage : Nat) :
    Keeps [Reg.TLY_STATUS, Reg.TLY_NEXT] [.tly] s (tallyCut s stage) := by
  unfold tallyCut
  try dsimp only
  split
  with_reducible exact Keeps.refl _
  with_reducible refine Keeps.ite (fun _ => ?_) (fun _ => ?_)
  with_reducible exact Keeps.refl _
  with_reducible refine Keeps.ite (fun _ => ?_) (fun _ => ?_)
  with_reducible refine (advanceSeq_keeps _).then_ (by decide) (by decide) ?_
  with_reducible refine Keeps.set_tly (by decide) ⟨rfl, rfl, rfl⟩ ?_
  with_reducible refine Keeps.ite (fun _ => ?_) (fun _ => ?_)
  with_reducible exact Keeps.refl _
  with_reducible refine Keeps.set_tly (by decide) ⟨rfl, rfl, rfl⟩ ?_
  with_reducible exact Keeps.refl _
  with_reducible refine Keeps.ite (fun _ => ?_) (fun _ => ?_)
  with_reducible refine Keeps.set_tly (by decide) ⟨rfl, rfl, rfl⟩ ?_
  with_reducible refine (advanceSeq_keeps _).then_ (by decide) (by decide) ?_
  with_reducible refine Keeps.set_tly (by decide) ⟨rfl, rfl, rfl⟩ ?_
  with_reducible refine Keeps.ite (fun _ => ?_) (fun _ => ?_)
  with_reducible exact Keeps.refl _
  with_reducible refine Keeps.set_tly (by decide) ⟨rfl, rfl, rfl⟩ ?_
  with_reducible exact Keeps.refl _
  with_reducible refine Keeps.put (in_TLY_STATUS_FF_FULL) (by decide) ?_
  with_reducible refine Keeps.wr (in_TLY_STATUS_FF_COUNT) (by decide) ?_
  with_reducible refine Keeps.set_tly (by decide) ⟨rfl, rfl, rfl⟩ ?_
  with_reducible refine (advanceSeq_keeps _).then_ (by decide) (by decide) ?_
  with_reducible refine Keeps.set_tly (by decide) ⟨rfl, rfl, rfl⟩ ?_
  with_reducible refine Keeps.ite (fun _ => ?_) (fun _ => ?_)
  with_reducible exact Keeps.refl _
  with_reducible refine Keeps.set_tly (by decide) ⟨rfl, rfl, rfl⟩ ?_
  with_reducible exact Keeps.refl _

theorem showTally_keeps (s : State) (area : Nat) (start : Nat) :
    Keeps [Reg.TLY_SEL, Reg.TLY_DATA] [] s (showTally s area start) := by
  unfold showTally
  try dsimp only
  with_reducible refine Keeps.foldl (fun _ _ => ?_) _ ?_
  with_reducible refine Keeps.wr (in_TLY_DATA_DATA _) (by decide) ?_
  with_reducible exact Keeps.refl _
  with_reducible refine Keeps.put (in_TLY_SEL_VALID) (by decide) ?_
  with_reducible exact Keeps.refl _

theorem execTallyWrite_keeps (s : State) :
    KeepsR [Reg.PAR_EVT_CNT, Reg.SW_CNT_VAL, Reg.SW_MSEC_STAT, Reg.TLY_STATUS, Reg.TLY_NEXT, Reg.TLY_CNT0, Reg.TLY_CNT1] [.records, .owed, .rings, .evt, .tly, .queue, .proxies, .loss, .wire, .out] s (execTallyWrite s) := by
  unfold execTallyWrite
  try dsimp only
  with_reducible refine KeepsR.next ?_
  with_reducible refine Keeps.ite (fun _ => ?_) (fun _ => ?_)
  with_reducible refine (tallyWrite_keeps _).then_ (by decide) (by decide) ?_
  with_reducible exact Keeps.refl _
  with_reducible exact Keeps.refl _

theorem execTlySelWrite_keeps (w : Writer) (v : Word) (s : State) :
    KeepsR [Reg.PAR_SEAL_STATUS, Reg.TLY_SEL, Reg.TLY_DATA] [] s (execTlySelWrite w v s) := by
  unfold execTlySelWrite
  try dsimp only
  with_reducible refine KeepsR.whileCd ?_
  with_reducible refine Keeps.ite (fun _ => ?_) (fun _ => ?_)
  with_reducible refine (violate_keeps _).then_ (by decide) (by decide) ?_
  with_reducible exact Keeps.refl _
  with_reducible refine (showTally_keeps _ _ _).then_ (by decide) (by decide) ?_
  with_reducible refine Keeps.wr (in_TLY_SEL_AREA) (by decide) ?_
  with_reducible refine Keeps.wr (in_TLY_SEL_START) (by decide) ?_
  with_reducible exact Keeps.refl _

theorem execTlyMarkWrite_keeps (w : Writer) (v : Word) (s : State) :
    KeepsR [Reg.PAR_SEAL_STATUS, Reg.TLY_MARK] [.tly] s (execTlyMarkWrite w v s) := by
  unfold execTlyMarkWrite
  try dsimp only
  with_reducible refine KeepsR.whileCd ?_
  with_reducible refine Keeps.ite (fun _ => ?_) (fun _ => ?_)
  with_reducible refine (violate_keeps _).then_ (by decide) (by decide) ?_
  with_reducible exact Keeps.refl _
  with_reducible refine Keeps.ite (fun _ => ?_) (fun _ => ?_)
  with_reducible refine (violate_keeps _).then_ (by decide) (by decide) ?_
  with_reducible exact Keeps.refl _
  with_reducible refine Keeps.set_tly (by decide) ⟨rfl, rfl, rfl⟩ ?_
  with_reducible refine Keeps.wr (in_TLY_MARK_RD_MARK) (by decide) ?_
  with_reducible exact Keeps.refl _

end Sys2Proof.Machine
end

