-- ==== Sys2Proof/Laws/Spar.lean ====
section
/-! SUPPORT.
What the operations of Machine/Spar.lean change, and that they keep a sound state sound.
-/

namespace Sys2Proof.Machine

theorem dtTick_keeps (s : State) :
    Keeps [Reg.SPR_DT] [.dt] s (dtTick s) := by
  unfold dtTick
  try dsimp only
  with_reducible refine Keeps.ite (fun _ => ?_) (fun _ => ?_)
  with_reducible refine Keeps.set_dt (by decide) ?_
  with_reducible refine Keeps.wr (in_SPR_DT_DT) (by decide) ?_
  with_reducible exact Keeps.refl _
  with_reducible exact Keeps.refl _

theorem ageRecords_keeps (s : State) :
    Keeps [Reg.WAK_FAIL, Reg.EVT_CDLOSS] [.spar] s (ageRecords s) := by
  unfold ageRecords
  try dsimp only
  with_reducible refine Keeps.wr (in_EVT_CDLOSS_LOSSES) (by decide) ?_
  with_reducible refine Keeps.wr (in_WAK_FAIL_SEQ_FAILS) (by decide) ?_
  with_reducible refine Keeps.set_spar (by decide) ?_
  with_reducible exact Keeps.refl _

theorem timeFrames_keeps (s : State) :
    Keeps [] [.out] s (timeFrames s) := by
  unfold timeFrames
  try dsimp only
  with_reducible refine Keeps.foldl (fun _ _ => ?_) _ ?_
  with_reducible refine Keeps.ite (fun _ => ?_) (fun _ => ?_)
  with_reducible refine (emit_keeps _ _).then_ (by decide) (by decide) ?_
  with_reducible refine Keeps.ite (fun _ => ?_) (fun _ => ?_)
  with_reducible refine (emit_keeps _ _).then_ (by decide) (by decide) ?_
  with_reducible exact Keeps.refl _
  with_reducible exact Keeps.refl _
  with_reducible refine Keeps.ite (fun _ => ?_) (fun _ => ?_)
  with_reducible refine (emit_keeps _ _).then_ (by decide) (by decide) ?_
  with_reducible exact Keeps.refl _
  with_reducible exact Keeps.refl _
  with_reducible exact Keeps.refl _

theorem warnPn_keeps (s : State) :
    Keeps [Reg.PAR_EVT_CNT, Reg.SW_CNT_VAL, Reg.SW_MSEC_STAT, Reg.TLY_CNT0] [.records, .owed, .rings, .evt, .queue, .proxies, .loss, .wire, .out] s (warnPn s) := by
  unfold warnPn
  try dsimp only
  with_reducible refine Keeps.foldl (fun _ _ => ?_) _ ?_
  with_reducible refine (raise_keeps _ _ _ _ _).then_ (by decide) (by decide) ?_
  with_reducible exact Keeps.refl _
  with_reducible refine Keeps.set_wire rfl (by decide) ?_
  with_reducible exact Keeps.refl _

theorem tick_keeps (s : State) :
    Keeps [Reg.every] [.memory, .records, .layout, .now, .freeCtr, .latches, .spar, .dt, .pwr, .owed, .banks, .par, .rng, .rings, .evt, .tly, .queue, .chain, .proxies, .act, .chs, .scl, .loss, .sns, .sw, .wire, .sub, .brd, .inf, .sto, .sec, .flt, .out] s (tick s) := by
  unfold tick
  try dsimp only
  with_reducible refine Keeps.ite (fun _ => ?_) (fun _ => ?_)
  with_reducible refine Keeps.ite (fun _ => ?_) (fun _ => ?_)
  with_reducible refine (acceptWake_keeps _ _ _).then_ (by decide) (by decide) ?_
  with_reducible refine Keeps.ite (fun _ => ?_) (fun _ => ?_)
  with_reducible refine (alarmFire_keeps _).then_ (by decide) (by decide) ?_
  with_reducible refine Keeps.ite (fun _ => ?_) (fun _ => ?_)
  with_reducible refine (ageRecords_keeps _).then_ (by decide) (by decide) ?_
  with_reducible refine Keeps.wrEvery (by decide) ?_
  with_reducible refine (timeFrames_keeps _).then_ (by decide) (by decide) ?_
  with_reducible refine (warnPn_keeps _).then_ (by decide) (by decide) ?_
  with_reducible refine (dtTick_keeps _).then_ (by decide) (by decide) ?_
  with_reducible refine (endChecks_keeps _).then_ (by decide) (by decide) ?_
  with_reducible refine Keeps.rebuilt ?_ ?_ ?_
  · with_reducible exact .inl (by decide)
  · with_reducible exact ⟨.inr rfl, .inl (by decide), .inr rfl, .inr rfl, .inr rfl, .inr rfl, .inl (by decide), .inr rfl, .inr rfl, .inr rfl, .inr rfl, .inr rfl, .inr rfl, .inr rfl, .inl (by decide), .inr rfl, .inl (by decide), .inr rfl, .inr rfl, .inr rfl, .inl (by decide), .inr rfl, .inr rfl, .inl (by decide), .inr rfl, .inr rfl, .inr rfl, .inr rfl, .inr rfl, .inr rfl, .inr rfl, .inr rfl⟩
  with_reducible exact Keeps.refl _
  with_reducible refine (mirrorScan_keeps _).then_ (by decide) (by decide) ?_
  with_reducible refine (ageRecords_keeps _).then_ (by decide) (by decide) ?_
  with_reducible refine Keeps.wrEvery (by decide) ?_
  with_reducible refine (timeFrames_keeps _).then_ (by decide) (by decide) ?_
  with_reducible refine (warnPn_keeps _).then_ (by decide) (by decide) ?_
  with_reducible refine (dtTick_keeps _).then_ (by decide) (by decide) ?_
  with_reducible refine (endChecks_keeps _).then_ (by decide) (by decide) ?_
  with_reducible refine Keeps.rebuilt ?_ ?_ ?_
  · with_reducible exact .inl (by decide)
  · with_reducible exact ⟨.inr rfl, .inl (by decide), .inr rfl, .inr rfl, .inr rfl, .inr rfl, .inl (by decide), .inr rfl, .inr rfl, .inr rfl, .inr rfl, .inr rfl, .inr rfl, .inr rfl, .inl (by decide), .inr rfl, .inl (by decide), .inr rfl, .inr rfl, .inr rfl, .inl (by decide), .inr rfl, .inr rfl, .inl (by decide), .inr rfl, .inr rfl, .inr rfl, .inr rfl, .inr rfl, .inr rfl, .inr rfl, .inr rfl⟩
  with_reducible exact Keeps.refl _
  with_reducible refine Keeps.ite (fun _ => ?_) (fun _ => ?_)
  with_reducible refine (ageRecords_keeps _).then_ (by decide) (by decide) ?_
  with_reducible refine Keeps.wrEvery (by decide) ?_
  with_reducible refine (timeFrames_keeps _).then_ (by decide) (by decide) ?_
  with_reducible refine (warnPn_keeps _).then_ (by decide) (by decide) ?_
  with_reducible refine (dtTick_keeps _).then_ (by decide) (by decide) ?_
  with_reducible refine (endChecks_keeps _).then_ (by decide) (by decide) ?_
  with_reducible refine Keeps.rebuilt ?_ ?_ ?_
  · with_reducible exact .inl (by decide)
  · with_reducible exact ⟨.inr rfl, .inl (by decide), .inr rfl, .inr rfl, .inr rfl, .inr rfl, .inl (by decide), .inr rfl, .inr rfl, .inr rfl, .inr rfl, .inr rfl, .inr rfl, .inr rfl, .inl (by decide), .inr rfl, .inl (by decide), .inr rfl, .inr rfl, .inr rfl, .inl (by decide), .inr rfl, .inr rfl, .inl (by decide), .inr rfl, .inr rfl, .inr rfl, .inr rfl, .inr rfl, .inr rfl, .inr rfl, .inr rfl⟩
  with_reducible exact Keeps.refl _
  with_reducible refine (mirrorScan_keeps _).then_ (by decide) (by decide) ?_
  with_reducible refine (ageRecords_keeps _).then_ (by decide) (by decide) ?_
  with_reducible refine Keeps.wrEvery (by decide) ?_
  with_reducible refine (timeFrames_keeps _).then_ (by decide) (by decide) ?_
  with_reducible refine (warnPn_keeps _).then_ (by decide) (by decide) ?_
  with_reducible refine (dtTick_keeps _).then_ (by decide) (by decide) ?_
  with_reducible refine (endChecks_keeps _).then_ (by decide) (by decide) ?_
  with_reducible refine Keeps.rebuilt ?_ ?_ ?_
  · with_reducible exact .inl (by decide)
  · with_reducible exact ⟨.inr rfl, .inl (by decide), .inr rfl, .inr rfl, .inr rfl, .inr rfl, .inl (by decide), .inr rfl, .inr rfl, .inr rfl, .inr rfl, .inr rfl, .inr rfl, .inr rfl, .inl (by decide), .inr rfl, .inl (by decide), .inr rfl, .inr rfl, .inr rfl, .inl (by decide), .inr rfl, .inr rfl, .inl (by decide), .inr rfl, .inr rfl, .inr rfl, .inr rfl, .inr rfl, .inr rfl, .inr rfl, .inr rfl⟩
  with_reducible exact Keeps.refl _
  with_reducible refine Keeps.ite (fun _ => ?_) (fun _ => ?_)
  with_reducible refine (alarmFire_keeps _).then_ (by decide) (by decide) ?_
  with_reducible refine Keeps.ite (fun _ => ?_) (fun _ => ?_)
  with_reducible refine (ageRecords_keeps _).then_ (by decide) (by decide) ?_
  with_reducible refine Keeps.wrEvery (by decide) ?_
  with_reducible refine (timeFrames_keeps _).then_ (by decide) (by decide) ?_
  with_reducible refine (warnPn_keeps _).then_ (by decide) (by decide) ?_
  with_reducible refine (dtTick_keeps _).then_ (by decide) (by decide) ?_
  with_reducible refine (endChecks_keeps _).then_ (by decide) (by decide) ?_
  with_reducible refine Keeps.rebuilt ?_ ?_ ?_
  · with_reducible exact .inl (by decide)
  · with_reducible exact ⟨.inr rfl, .inl (by decide), .inr rfl, .inr rfl, .inr rfl, .inr rfl, .inl (by decide), .inr rfl, .inr rfl, .inr rfl, .inr rfl, .inr rfl, .inr rfl, .inr rfl, .inl (by decide), .inr rfl, .inl (by decide), .inr rfl, .inr rfl, .inr rfl, .inl (by decide), .inr rfl, .inr rfl, .inl (by decide), .inr rfl, .inr rfl, .inr rfl, .inr rfl, .inr rfl, .inr rfl, .inr rfl, .inr rfl⟩
  with_reducible exact Keeps.refl _
  with_reducible refine (mirrorScan_keeps _).then_ (by decide) (by decide) ?_
  with_reducible refine (ageRecords_keeps _).then_ (by decide) (by decide) ?_
  with_reducible refine Keeps.wrEvery (by decide) ?_
  with_reducible refine (timeFrames_keeps _).then_ (by decide) (by decide) ?_
  with_reducible refine (warnPn_keeps _).then_ (by decide) (by decide) ?_
  with_reducible refine (dtTick_keeps _).then_ (by decide) (by decide) ?_
  with_reducible refine (endChecks_keeps _).then_ (by decide) (by decide) ?_
  with_reducible refine Keeps.rebuilt ?_ ?_ ?_
  · with_reducible exact .inl (by decide)
  · with_reducible exact ⟨.inr rfl, .inl (by decide), .inr rfl, .inr rfl, .inr rfl, .inr rfl, .inl (by decide), .inr rfl, .inr rfl, .inr rfl, .inr rfl, .inr rfl, .inr rfl, .inr rfl, .inl (by decide), .inr rfl, .inl (by decide), .inr rfl, .inr rfl, .inr rfl, .inl (by decide), .inr rfl, .inr rfl, .inl (by decide), .inr rfl, .inr rfl, .inr rfl, .inr rfl, .inr rfl, .inr rfl, .inr rfl, .inr rfl⟩
  with_reducible exact Keeps.refl _
  with_reducible refine Keeps.ite (fun _ => ?_) (fun _ => ?_)
  with_reducible refine (ageRecords_keeps _).then_ (by decide) (by decide) ?_
  with_reducible refine Keeps.wrEvery (by decide) ?_
  with_reducible refine (timeFrames_keeps _).then_ (by decide) (by decide) ?_
  with_reducible refine (warnPn_keeps _).then_ (by decide) (by decide) ?_
  with_reducible refine (dtTick_keeps _).then_ (by decide) (by decide) ?_
  with_reducible refine (endChecks_keeps _).then_ (by decide) (by decide) ?_
  with_reducible refine Keeps.rebuilt ?_ ?_ ?_
  · with_reducible exact .inl (by decide)
  · with_reducible exact ⟨.inr rfl, .inl (by decide), .inr rfl, .inr rfl, .inr rfl, .inr rfl, .inl (by decide), .inr rfl, .inr rfl, .inr rfl, .inr rfl, .inr rfl, .inr rfl, .inr rfl, .inl (by decide), .inr rfl, .inl (by decide), .inr rfl, .inr rfl, .inr rfl, .inl (by decide), .inr rfl, .inr rfl, .inl (by decide), .inr rfl, .inr rfl, .inr rfl, .inr rfl, .inr rfl, .inr rfl, .inr rfl, .inr rfl⟩
  with_reducible exact Keeps.refl _
  with_reducible refine (mirrorScan_keeps _).then_ (by decide) (by decide) ?_
  with_reducible refine (ageRecords_keeps _).then_ (by decide) (by decide) ?_
  with_reducible refine Keeps.wrEvery (by decide) ?_
  with_reducible refine (timeFrames_keeps _).then_ (by decide) (by decide) ?_
  with_reducible refine (warnPn_keeps _).then_ (by decide) (by decide) ?_
  with_reducible refine (dtTick_keeps _).then_ (by decide) (by decide) ?_
  with_reducible refine (endChecks_keeps _).then_ (by decide) (by decide) ?_
  with_reducible refine Keeps.rebuilt ?_ ?_ ?_
  · with_reducible exact .inl (by decide)
  · with_reducible exact ⟨.inr rfl, .inl (by decide), .inr rfl, .inr rfl, .inr rfl, .inr rfl, .inl (by decide), .inr rfl, .inr rfl, .inr rfl, .inr rfl, .inr rfl, .inr rfl, .inr rfl, .inl (by decide), .inr rfl, .inl (by decide), .inr rfl, .inr rfl, .inr rfl, .inl (by decide), .inr rfl, .inr rfl, .inl (by decide), .inr rfl, .inr rfl, .inr rfl, .inr rfl, .inr rfl, .inr rfl, .inr rfl, .inr rfl⟩
  with_reducible exact Keeps.refl _
  with_reducible refine (timeFrames_keeps _).then_ (by decide) (by decide) ?_
  with_reducible refine (warnPn_keeps _).then_ (by decide) (by decide) ?_
  with_reducible refine (dtTick_keeps _).then_ (by decide) (by decide) ?_
  with_reducible refine (endChecks_keeps _).then_ (by decide) (by decide) ?_
  with_reducible refine Keeps.rebuilt ?_ ?_ ?_
  · with_reducible exact .inl (by decide)
  · with_reducible exact ⟨.inr rfl, .inl (by decide), .inr rfl, .inr rfl, .inr rfl, .inr rfl, .inl (by decide), .inr rfl, .inr rfl, .inr rfl, .inr rfl, .inr rfl, .inr rfl, .inr rfl, .inl (by decide), .inr rfl, .inl (by decide), .inr rfl, .inr rfl, .inr rfl, .inl (by decide), .inr rfl, .inr rfl, .inl (by decide), .inr rfl, .inr rfl, .inr rfl, .inr rfl, .inr rfl, .inr rfl, .inr rfl, .inr rfl⟩
  with_reducible exact Keeps.refl _

theorem execPowerOnReset_keeps (mv : Nat) (s : State) :
    KeepsR [Reg.every] [.memory, .records, .layout, .now, .freeCtr, .latches, .spar, .dt, .pwr, .owed, .banks, .par, .rng, .rings, .evt, .tly, .queue, .chain, .proxies, .act, .chs, .scl, .loss, .sns, .sw, .wire, .sub, .brd, .inf, .sto, .sec, .upd, .flt, .out] s (execPowerOnReset mv s) := by
  unfold execPowerOnReset
  try dsimp only
  with_reducible refine KeepsR.next ?_
  with_reducible refine Keeps.ite (fun _ => ?_) (fun _ => ?_)
  with_reducible refine (showDomains_keeps _).then_ (by decide) (by decide) ?_
  with_reducible refine (powerOn_keeps _ _).then_ (by decide) (by decide) ?_
  with_reducible refine (above_keeps _ _ _ _).then_ (by decide) (by decide) ?_
  with_reducible exact Keeps.refl _
  with_reducible refine (above_keeps _ _ _ _).then_ (by decide) (by decide) ?_
  with_reducible exact Keeps.refl _

theorem execVsparFall_keeps (stage : Fin 5) (s : State) :
    KeepsR [Reg.CHN_BYPASS, Reg.HS_STATE, Reg.HB_STATE, Reg.SV_STATE, Reg.LED_STATE, Reg.FIO_CAUSE, Reg.TLY_STATUS, Reg.TLY_NEXT] [.spar, .dt, .pwr, .rng, .tly, .chain, .chs] s (execVsparFall stage s) := by
  unfold execVsparFall
  try dsimp only
  with_reducible refine KeepsR.next ?_
  with_reducible refine Keeps.rebuilt ?_ ?_ ?_
  · with_reducible exact .inr ⟨rfl, rfl, rfl⟩
  · with_reducible exact ⟨.inr rfl, .inr rfl, .inr rfl, .inr rfl, .inl (by decide), .inl (by decide), .inl (by decide), .inr rfl, .inr rfl, .inr rfl, .inr rfl, .inr rfl, .inr rfl, .inr rfl, .inr ⟨rfl, rfl, rfl⟩, .inr rfl, .inr ⟨rfl, rfl⟩, .inr rfl, .inr rfl, .inr rfl, .inr ⟨rfl, rfl⟩, .inr rfl, .inr rfl, .inr ⟨rfl, rfl, rfl⟩, .inr rfl, .inr rfl, .inr rfl, .inr rfl, .inr rfl, .inr rfl, .inr rfl, .inr rfl⟩
  with_reducible refine (linkOff_keeps _).then_ (by decide) (by decide) ?_
  with_reducible refine Keeps.foldl (fun _ _ => ?_) _ ?_
  with_reducible refine (switch1_keeps _ _ _).then_ (by decide) (by decide) ?_
  with_reducible refine (dropJob_keeps _ _).then_ (by decide) (by decide) ?_
  with_reducible exact Keeps.refl _
  with_reducible refine Keeps.ite (fun _ => ?_) (fun _ => ?_)
  with_reducible refine (tallyCut_keeps _ _).then_ (by decide) (by decide) ?_
  with_reducible exact Keeps.refl _
  with_reducible exact Keeps.refl _

theorem execSparWdgExpiry_keeps (fn : Fin 8) (s : State) :
    KeepsR [Reg.SPR_DT_STATUS, Reg.SPR_RST_CAUSE, Reg.WAK_ARM, Reg.WAK_BUS_EN, Reg.WAK_SI_EN, Reg.PAR_EVT_CNT, Reg.SW_CNT_VAL, Reg.SW_MSEC_STAT, Reg.TLY_STATUS, Reg.TLY_CNT0, Reg.TLY_CNT1] [.records, .spar, .owed, .rings, .evt, .tly, .queue, .proxies, .loss, .sns, .wire, .out] s (execSparWdgExpiry fn s) := by
  unfold execSparWdgExpiry
  try dsimp only
  with_reducible refine KeepsR.next ?_
  with_reducible refine Keeps.ite (fun _ => ?_) (fun _ => ?_)
  with_reducible refine (tally_keeps _ _ _).then_ (by decide) (by decide) ?_
  with_reducible refine Keeps.orF (in_SPR_RST_CAUSE_CAUSE) (by decide) ?_
  with_reducible refine (sparReset_keeps _).then_ (by decide) (by decide) ?_
  with_reducible exact Keeps.refl _
  with_reducible exact Keeps.refl _

theorem execSparResetDone_keeps (s : State) :
    KeepsR [Reg.every] [.memory, .records, .layout, .freeCtr, .latches, .spar, .dt, .pwr, .owed, .banks, .par, .rng, .rings, .evt, .queue, .chain, .proxies, .act, .chs, .scl, .loss, .sns, .sw, .wire, .sub, .brd, .inf, .sto, .sec, .flt, .out] s (execSparResetDone s) := by
  unfold execSparResetDone
  try dsimp only
  split
  with_reducible refine KeepsR.next ?_
  with_reducible exact Keeps.refl _
  with_reducible refine KeepsR.next ?_
  split
  with_reducible refine (acceptWake_keeps _ _ _).then_ (by decide) (by decide) ?_
  with_reducible refine Keeps.set_spar (by decide) ?_
  with_reducible exact Keeps.refl _
  with_reducible refine (acceptWake_keeps _ _ _).then_ (by decide) (by decide) ?_
  with_reducible refine Keeps.set_spar (by decide) ?_
  with_reducible exact Keeps.refl _
  with_reducible refine (acceptWake_keeps _ _ _).then_ (by decide) (by decide) ?_
  with_reducible refine Keeps.set_spar (by decide) ?_
  with_reducible exact Keeps.refl _
  with_reducible refine Keeps.set_spar (by decide) ?_
  with_reducible exact Keeps.refl _

theorem execSprRstCmd_keeps (w : Writer) (v : Word) (s : State) :
    KeepsR [Reg.every] [.memory, .records, .layout, .freeCtr, .latches, .spar, .dt, .pwr, .owed, .banks, .par, .rng, .rings, .evt, .queue, .chain, .proxies, .act, .chs, .scl, .loss, .sns, .sw, .wire, .sub, .brd, .inf, .sto, .sec, .flt, .out] s (execSprRstCmd w v s) := by
  unfold execSprRstCmd
  try dsimp only
  with_reducible refine KeepsR.whileCd ?_
  with_reducible refine Keeps.ite (fun _ => ?_) (fun _ => ?_)
  with_reducible refine (showDomains_keeps _).then_ (by decide) (by decide) ?_
  with_reducible refine (commandReset_keeps _ _).then_ (by decide) (by decide) ?_
  with_reducible exact Keeps.refl _
  with_reducible refine (violate_keeps _).then_ (by decide) (by decide) ?_
  with_reducible exact Keeps.refl _

theorem wdgExpire_keeps (s : State) :
    Keeps [Reg.SPR_RST_CAUSE, Reg.PWR_DOM_STATUS, Reg.CHN_ATTACH, Reg.PAR_STATE, Reg.PAR_EVT_CNT, Reg.ACT_SAFE_STATUS, Reg.ACT_CNT, Reg.HS_STATE, Reg.HB_STATE, Reg.SV_STATE, Reg.SV_KRES, Reg.SV_CNT2, Reg.LED_STATE, Reg.FIO_CAUSE, Reg.SIN_SCHED, Reg.SIN_STREAMS, Reg.SW_CNT_VAL, Reg.SW_MSEC_STAT, Reg.TLY_CNT0, Reg.EVT_CDLOSS] [.records, .freeCtr, .spar, .pwr, .owed, .rng, .rings, .evt, .queue, .proxies, .act, .chs, .loss, .sns, .wire, .out] s (wdgExpire s) := by
  unfold wdgExpire
  try dsimp only
  with_reducible refine Keeps.ite (fun _ => ?_) (fun _ => ?_)
  with_reducible refine (showDomains_keeps _).then_ (by decide) (by decide) ?_
  with_reducible refine (controlLost_keeps _ _).then_ (by decide) (by decide) ?_
  with_reducible refine (tally_keeps _ _ _).then_ (by decide) (by decide) ?_
  with_reducible refine Keeps.orF (in_SPR_RST_CAUSE_CAUSE) (by decide) ?_
  with_reducible exact Keeps.refl _
  with_reducible exact Keeps.refl _

theorem giveFeed_keeps (s : State) (w : Writer) :
    Keeps [Reg.SPR_RST_CAUSE, Reg.PWR_DOM_STATUS, Reg.CHN_ATTACH, Reg.PAR_STATE, Reg.PAR_EVT_CNT, Reg.ACT_SAFE_STATUS, Reg.ACT_CNT, Reg.HS_STATE, Reg.HB_STATE, Reg.SV_STATE, Reg.SV_KRES, Reg.SV_CNT2, Reg.LED_STATE, Reg.FIO_CAUSE, Reg.SIN_SCHED, Reg.SIN_STREAMS, Reg.SW_CNT_VAL, Reg.SW_MSEC_STAT, Reg.TLY_CNT0, Reg.EVT_CDLOSS] [.records, .freeCtr, .spar, .pwr, .owed, .rng, .rings, .evt, .queue, .proxies, .act, .chs, .loss, .sns, .wire, .out] s (giveFeed s w) := by
  unfold giveFeed
  try dsimp only
  with_reducible refine Keeps.ite (fun _ => ?_) (fun _ => ?_)
  with_reducible refine (wdgExpire_keeps _).then_ (by decide) (by decide) ?_
  with_reducible exact Keeps.refl _
  with_reducible refine Keeps.ite (fun _ => ?_) (fun _ => ?_)
  with_reducible refine (feedNow_keeps _).then_ (by decide) (by decide) ?_
  with_reducible refine Keeps.set_spar (by decide) ?_
  with_reducible exact Keeps.refl _
  with_reducible refine Keeps.set_spar (by decide) ?_
  with_reducible exact Keeps.refl _

theorem execControlWdgExpiry_keeps (s : State) :
    KeepsR [Reg.SPR_RST_CAUSE, Reg.PWR_DOM_STATUS, Reg.CHN_ATTACH, Reg.PAR_STATE, Reg.PAR_EVT_CNT, Reg.ACT_SAFE_STATUS, Reg.ACT_CNT, Reg.HS_STATE, Reg.HB_STATE, Reg.SV_STATE, Reg.SV_KRES, Reg.SV_CNT2, Reg.LED_STATE, Reg.FIO_CAUSE, Reg.SIN_SCHED, Reg.SIN_STREAMS, Reg.SW_CNT_VAL, Reg.SW_MSEC_STAT, Reg.TLY_CNT0, Reg.EVT_CDLOSS] [.records, .freeCtr, .spar, .pwr, .owed, .rng, .rings, .evt, .queue, .proxies, .act, .chs, .loss, .sns, .wire, .out] s (execControlWdgExpiry s) := by
  unfold execControlWdgExpiry
  try dsimp only
  with_reducible refine KeepsR.next ?_
  with_reducible refine Keeps.ite (fun _ => ?_) (fun _ => ?_)
  with_reducible refine (wdgExpire_keeps _).then_ (by decide) (by decide) ?_
  with_reducible exact Keeps.refl _
  with_reducible exact Keeps.refl _

theorem execSprWdgFeed_keeps (w : Writer) (v : Word) (s : State) :
    KeepsR [Reg.SPR_RST_CAUSE, Reg.PWR_DOM_STATUS, Reg.CHN_ATTACH, Reg.PAR_STATE, Reg.PAR_EVT_CNT, Reg.ACT_SAFE_STATUS, Reg.ACT_CNT, Reg.HS_STATE, Reg.HB_STATE, Reg.SV_STATE, Reg.SV_KRES, Reg.SV_CNT2, Reg.LED_STATE, Reg.FIO_CAUSE, Reg.SIN_SCHED, Reg.SIN_STREAMS, Reg.SW_CNT_VAL, Reg.SW_MSEC_STAT, Reg.TLY_CNT0, Reg.EVT_CDLOSS] [.records, .freeCtr, .spar, .pwr, .owed, .rng, .rings, .evt, .queue, .proxies, .act, .chs, .loss, .sns, .wire, .out] s (execSprWdgFeed w v s) := by
  unfold execSprWdgFeed
  try dsimp only
  with_reducible refine KeepsR.whileCd ?_
  with_reducible refine Keeps.ite (fun _ => ?_) (fun _ => ?_)
  with_reducible exact Keeps.refl _
  split
  with_reducible refine Keeps.ite (fun _ => ?_) (fun _ => ?_)
  with_reducible refine (giveFeed_keeps _ _).then_ (by decide) (by decide) ?_
  with_reducible exact Keeps.refl _
  with_reducible refine (wdgExpire_keeps _).then_ (by decide) (by decide) ?_
  with_reducible exact Keeps.refl _
  with_reducible refine Keeps.ite (fun _ => ?_) (fun _ => ?_)
  with_reducible refine Keeps.ite (fun _ => ?_) (fun _ => ?_)
  with_reducible refine (giveFeed_keeps _ _).then_ (by decide) (by decide) ?_
  with_reducible exact Keeps.refl _
  with_reducible exact Keeps.refl _
  with_reducible refine (wdgExpire_keeps _).then_ (by decide) (by decide) ?_
  with_reducible exact Keeps.refl _

theorem execWdgWarn_keeps (s : State) :
    KeepsR [Reg.PAR_EVT_CNT, Reg.SW_CNT_VAL, Reg.SW_MSEC_STAT, Reg.TLY_CNT0] [.records, .spar, .owed, .rings, .evt, .queue, .proxies, .loss, .wire, .out] s (execWdgWarn s) := by
  unfold execWdgWarn
  try dsimp only
  with_reducible refine KeepsR.whileCd ?_
  with_reducible refine Keeps.ite (fun _ => ?_) (fun _ => ?_)
  with_reducible refine (raise_keeps _ _ _ _ _).then_ (by decide) (by decide) ?_
  with_reducible refine Keeps.set_spar (by decide) ?_
  with_reducible exact Keeps.refl _
  with_reducible exact Keeps.refl _

theorem xsFail_keeps (s : State) (criterion : Nat) :
    Keeps [Reg.SPR_STATUS, Reg.SPR_DT_STATUS, Reg.SPR_RST_CAUSE, Reg.PAR_EVT_CNT, Reg.SW_CNT_VAL, Reg.SW_MSEC_STAT, Reg.TLY_CNT0] [.records, .spar, .owed, .rings, .evt, .queue, .proxies, .loss, .wire, .out] s (xsFail s criterion) := by
  unfold xsFail
  try dsimp only
  with_reducible refine Keeps.ite (fun _ => ?_) (fun _ => ?_)
  with_reducible refine (tally_keeps _ _ _).then_ (by decide) (by decide) ?_
  with_reducible refine (raise_keeps _ _ _ _ _).then_ (by decide) (by decide) ?_
  with_reducible refine Keeps.ite (fun _ => ?_) (fun _ => ?_)
  with_reducible refine Keeps.wr (in_SPR_DT_STATUS_STATE) (by decide) ?_
  with_reducible refine Keeps.orF (in_SPR_RST_CAUSE_CAUSE) (by decide) ?_
  with_reducible refine Keeps.put (in_SPR_STATUS_RTC_DEGRADED) (by decide) ?_
  with_reducible refine Keeps.put (in_SPR_STATUS_XS_OK) (by decide) ?_
  with_reducible refine Keeps.set_spar (by decide) ?_
  with_reducible exact Keeps.refl _
  with_reducible refine Keeps.orF (in_SPR_RST_CAUSE_CAUSE) (by decide) ?_
  with_reducible refine Keeps.put (in_SPR_STATUS_RTC_DEGRADED) (by decide) ?_
  with_reducible refine Keeps.put (in_SPR_STATUS_XS_OK) (by decide) ?_
  with_reducible refine Keeps.set_spar (by decide) ?_
  with_reducible exact Keeps.refl _
  with_reducible refine Keeps.set_spar (by decide) ?_
  with_reducible exact Keeps.refl _

theorem execXsNoEdgeTimeout_keeps (s : State) :
    KeepsR [Reg.SPR_STATUS, Reg.SPR_DT_STATUS, Reg.SPR_RST_CAUSE, Reg.PAR_EVT_CNT, Reg.SW_CNT_VAL, Reg.SW_MSEC_STAT, Reg.TLY_CNT0] [.records, .spar, .owed, .rings, .evt, .queue, .proxies, .loss, .wire, .out] s (execXsNoEdgeTimeout s) := by
  unfold execXsNoEdgeTimeout
  try dsimp only
  with_reducible refine KeepsR.next ?_
  with_reducible refine Keeps.ite (fun _ => ?_) (fun _ => ?_)
  with_reducible refine (xsFail_keeps _ _).then_ (by decide) (by decide) ?_
  with_reducible exact Keeps.refl _
  with_reducible exact Keeps.refl _

theorem execXsRatioCheck_keeps (ratio : Nat) (s : State) :
    KeepsR [Reg.SPR_STATUS, Reg.SPR_DT_STATUS, Reg.SPR_RST_CAUSE, Reg.PAR_EVT_CNT, Reg.SW_CNT_VAL, Reg.SW_MSEC_STAT, Reg.TLY_CNT0] [.records, .spar, .owed, .rings, .evt, .queue, .proxies, .loss, .wire, .out] s (execXsRatioCheck ratio s) := by
  unfold execXsRatioCheck
  try dsimp only
  with_reducible refine KeepsR.next ?_
  with_reducible refine Keeps.ite (fun _ => ?_) (fun _ => ?_)
  with_reducible exact Keeps.refl _
  with_reducible refine Keeps.ite (fun _ => ?_) (fun _ => ?_)
  with_reducible refine (xsFail_keeps _ _).then_ (by decide) (by decide) ?_
  with_reducible exact Keeps.refl _
  with_reducible refine Keeps.set_spar (by decide) ?_
  with_reducible exact Keeps.refl _

theorem execLpoCalibrate_keeps (ratio : Nat) (s : State) :
    KeepsR [] [.spar] s (execLpoCalibrate ratio s) := by
  unfold execLpoCalibrate
  try dsimp only
  with_reducible refine KeepsR.next ?_
  with_reducible refine Keeps.ite (fun _ => ?_) (fun _ => ?_)
  with_reducible refine Keeps.set_spar (by decide) ?_
  with_reducible exact Keeps.refl _
  with_reducible exact Keeps.refl _

theorem execXsReturn_keeps (s : State) :
    KeepsR [Reg.SPR_STATUS] [] s (execXsReturn s) := by
  unfold execXsReturn
  try dsimp only
  with_reducible refine KeepsR.next ?_
  with_reducible refine Keeps.ite (fun _ => ?_) (fun _ => ?_)
  with_reducible refine Keeps.put (in_SPR_STATUS_XS_OK) (by decide) ?_
  with_reducible exact Keeps.refl _
  with_reducible exact Keeps.refl _

theorem fireIfMet_keeps (before : State) (after : State) :
    Keeps [Reg.every] [.memory, .records, .layout, .freeCtr, .latches, .spar, .dt, .pwr, .owed, .banks, .par, .rng, .rings, .evt, .queue, .chain, .proxies, .act, .chs, .scl, .loss, .sns, .sw, .wire, .sub, .brd, .inf, .sto, .sec, .flt, .out] after (fireIfMet before after) := by
  unfold fireIfMet
  try dsimp only
  with_reducible refine Keeps.ite (fun _ => ?_) (fun _ => ?_)
  with_reducible refine (alarmFire_keeps _).then_ (by decide) (by decide) ?_
  with_reducible exact Keeps.refl _
  with_reducible exact Keeps.refl _

theorem execRtcWrite_keeps (w : Writer) (hi : Bool) (v : Word) (s : State) :
    KeepsR [Reg.every] [.memory, .records, .layout, .freeCtr, .latches, .spar, .dt, .pwr, .owed, .banks, .par, .rng, .rings, .evt, .queue, .chain, .proxies, .act, .chs, .scl, .loss, .sns, .sw, .wire, .sub, .brd, .inf, .sto, .sec, .flt, .out] s (execRtcWrite w hi v s) := by
  unfold execRtcWrite
  try dsimp only
  with_reducible refine KeepsR.whileCd ?_
  with_reducible refine Keeps.ite (fun _ => ?_) (fun _ => ?_)
  with_reducible refine (violate_keeps _).then_ (by decide) (by decide) ?_
  with_reducible exact Keeps.refl _
  with_reducible refine (fireIfMet_keeps _ _).then_ (by decide) (by decide) ?_
  with_reducible refine Keeps.ite (fun _ => ?_) (fun _ => ?_)
  with_reducible refine Keeps.wrEvery (by decide) ?_
  with_reducible refine Keeps.ite (fun _ => ?_) (fun _ => ?_)
  with_reducible refine Keeps.putEvery (by decide) ?_
  with_reducible refine Keeps.set_sto (by decide) ?_
  with_reducible refine (writeWord_keepsAt (at_rtc _) _ _).then_ (by decide) (by decide) ?_
  with_reducible exact Keeps.refl _
  with_reducible refine Keeps.set_sto (by decide) ?_
  with_reducible refine (writeWord_keepsAt (at_rtc _) _ _).then_ (by decide) (by decide) ?_
  with_reducible exact Keeps.refl _
  with_reducible refine Keeps.ite (fun _ => ?_) (fun _ => ?_)
  with_reducible refine Keeps.putEvery (by decide) ?_
  with_reducible refine Keeps.set_sto (by decide) ?_
  with_reducible refine (writeWord_keepsAt (at_rtc _) _ _).then_ (by decide) (by decide) ?_
  with_reducible exact Keeps.refl _
  with_reducible refine Keeps.set_sto (by decide) ?_
  with_reducible refine (writeWord_keepsAt (at_rtc _) _ _).then_ (by decide) (by decide) ?_
  with_reducible exact Keeps.refl _

theorem execRtcAlarmWrite_keeps (w : Writer) (hi : Bool) (v : Word) (s : State) :
    KeepsR [Reg.every] [.memory, .records, .layout, .freeCtr, .latches, .spar, .dt, .pwr, .owed, .banks, .par, .rng, .rings, .evt, .queue, .chain, .proxies, .act, .chs, .scl, .loss, .sns, .sw, .wire, .sub, .brd, .inf, .sto, .sec, .flt, .out] s (execRtcAlarmWrite w hi v s) := by
  unfold execRtcAlarmWrite
  try dsimp only
  with_reducible refine KeepsR.whileCd ?_
  with_reducible refine Keeps.ite (fun _ => ?_) (fun _ => ?_)
  with_reducible refine (violate_keeps _).then_ (by decide) (by decide) ?_
  with_reducible exact Keeps.refl _
  with_reducible refine (fireIfMet_keeps _ _).then_ (by decide) (by decide) ?_
  with_reducible refine (writeWord_keepsAt (at_alarm _) _ _).then_ (by decide) (by decide) ?_
  with_reducible exact Keeps.refl _

theorem execRtcAlarmFire_keeps (s : State) :
    KeepsR [Reg.every] [.memory, .records, .layout, .freeCtr, .latches, .spar, .dt, .pwr, .owed, .banks, .par, .rng, .rings, .evt, .queue, .chain, .proxies, .act, .chs, .scl, .loss, .sns, .sw, .wire, .sub, .brd, .inf, .sto, .sec, .flt, .out] s (execRtcAlarmFire s) := by
  unfold execRtcAlarmFire
  try dsimp only
  with_reducible refine KeepsR.next ?_
  with_reducible refine Keeps.ite (fun _ => ?_) (fun _ => ?_)
  with_reducible refine (alarmFire_keeps _).then_ (by decide) (by decide) ?_
  with_reducible refine Keeps.wrEvery (by decide) ?_
  with_reducible exact Keeps.refl _
  with_reducible exact Keeps.refl _

theorem execDtCorrection_keeps (port : Fin 2) (offset : Int) (s0 : State) :
    KeepsR [Reg.SPR_DT, Reg.SPR_DT_STATUS, Reg.PAR_EVT_CNT, Reg.SIN_SNS_CNT, Reg.SW_CNT_VAL, Reg.SW_MSEC_STAT, Reg.TLY_CNT0] [.memory, .records, .freeCtr, .dt, .owed, .rng, .rings, .evt, .queue, .chain, .proxies, .loss, .sns, .sw, .wire, .out] s0 (execDtCorrection port offset s0) := by
  unfold execDtCorrection
  try dsimp only
  with_reducible refine KeepsR.whileCd ?_
  with_reducible refine Keeps.ite (fun _ => ?_) (fun _ => ?_)
  with_reducible exact Keeps.refl _
  with_reducible refine Keeps.ite (fun _ => ?_) (fun _ => ?_)
  with_reducible refine Keeps.ite (fun _ => ?_) (fun _ => ?_)
  with_reducible refine Keeps.wr (in_SPR_DT_STATUS_STATE) (by decide) ?_
  with_reducible refine Keeps.set_dt (by decide) ?_
  with_reducible refine Keeps.ite (fun _ => ?_) (fun _ => ?_)
  with_reducible refine Keeps.set_dt (by decide) ?_
  with_reducible exact Keeps.refl _
  with_reducible refine Keeps.rebuilt ?_ ?_ ?_
  · with_reducible exact .inr ⟨rfl, rfl, rfl⟩
  · with_reducible exact ⟨.inr rfl, .inr rfl, .inr rfl, .inr rfl, .inr rfl, .inl (by decide), .inr rfl, .inr rfl, .inr rfl, .inr rfl, .inr rfl, .inr rfl, .inr rfl, .inr rfl, .inl (by decide), .inl (by decide), .inl (by decide), .inr rfl, .inr rfl, .inr rfl, .inl (by decide), .inr rfl, .inr rfl, .inl (by decide), .inr rfl, .inr rfl, .inr rfl, .inr rfl, .inr rfl, .inr rfl, .inr rfl, .inr rfl⟩
  with_reducible exact Keeps.refl _
  with_reducible refine Keeps.set_dt (by decide) ?_
  with_reducible refine Keeps.ite (fun _ => ?_) (fun _ => ?_)
  with_reducible refine Keeps.set_dt (by decide) ?_
  with_reducible exact Keeps.refl _
  with_reducible refine Keeps.rebuilt ?_ ?_ ?_
  · with_reducible exact .inr ⟨rfl, rfl, rfl⟩
  · with_reducible exact ⟨.inr rfl, .inr rfl, .inr rfl, .inr rfl, .inr rfl, .inl (by decide), .inr rfl, .inr rfl, .inr rfl, .inr rfl, .inr rfl, .inr rfl, .inr rfl, .inr rfl, .inl (by decide), .inl (by decide), .inl (by decide), .inr rfl, .inr rfl, .inr rfl, .inl (by decide), .inr rfl, .inr rfl, .inl (by decide), .inr rfl, .inr rfl, .inr rfl, .inr rfl, .inr rfl, .inr rfl, .inr rfl, .inr rfl⟩
  with_reducible exact Keeps.refl _
  with_reducible refine (raise_keeps _ _ _ _ _).then_ (by decide) (by decide) ?_
  with_reducible refine Keeps.rebuilt ?_ ?_ ?_
  · with_reducible exact .inr ⟨rfl, rfl, rfl⟩
  · with_reducible exact ⟨.inr rfl, .inr rfl, .inr rfl, .inr rfl, .inr rfl, .inl (by decide), .inr rfl, .inr rfl, .inr rfl, .inr rfl, .inl (by decide), .inr rfl, .inr rfl, .inr rfl, .inl (by decide), .inr rfl, .inl (by decide), .inr rfl, .inr rfl, .inr rfl, .inl (by decide), .inr rfl, .inr rfl, .inl (by decide), .inr rfl, .inr rfl, .inr rfl, .inr rfl, .inr rfl, .inr rfl, .inr rfl, .inr rfl⟩
  with_reducible refine Keeps.wr (in_SPR_DT_STATUS_STATE) (by decide) ?_
  with_reducible refine Keeps.wr (in_SPR_DT_STATUS_EPOCH) (by decide) ?_
  with_reducible refine Keeps.wr (in_SPR_DT_DT) (by decide) ?_
  with_reducible refine (stepGates_keeps _ _).then_ (by decide) (by decide) ?_
  with_reducible refine (closeBlocks_keeps _).then_ (by decide) (by decide) ?_
  with_reducible refine Keeps.ite (fun _ => ?_) (fun _ => ?_)
  with_reducible refine Keeps.set_dt (by decide) ?_
  with_reducible exact Keeps.refl _
  with_reducible refine Keeps.rebuilt ?_ ?_ ?_
  · with_reducible exact .inr ⟨rfl, rfl, rfl⟩
  · with_reducible exact ⟨.inr rfl, .inr rfl, .inr rfl, .inr rfl, .inr rfl, .inl (by decide), .inr rfl, .inr rfl, .inr rfl, .inr rfl, .inr rfl, .inr rfl, .inr rfl, .inr rfl, .inl (by decide), .inl (by decide), .inl (by decide), .inr rfl, .inr rfl, .inr rfl, .inl (by decide), .inr rfl, .inr rfl, .inl (by decide), .inr rfl, .inr rfl, .inr rfl, .inr rfl, .inr rfl, .inr rfl, .inr rfl, .inr rfl⟩
  with_reducible exact Keeps.refl _

theorem execDtSyncReached_keeps (s : State) :
    KeepsR [Reg.SPR_DT_STATUS] [.freeCtr, .dt] s (execDtSyncReached s) := by
  unfold execDtSyncReached
  try dsimp only
  with_reducible refine KeepsR.whileCd ?_
  with_reducible refine Keeps.ite (fun _ => ?_) (fun _ => ?_)
  with_reducible refine Keeps.wr (in_SPR_DT_STATUS_STATE) (by decide) ?_
  with_reducible refine Keeps.set_dt (by decide) ?_
  with_reducible refine (freeNext_keeps _).then_ (by decide) (by decide) ?_
  with_reducible exact Keeps.refl _
  with_reducible exact Keeps.refl _

theorem execSyncLoss_keeps (s : State) :
    KeepsR [Reg.SPR_DT_STATUS] [] s (execSyncLoss s) := by
  unfold execSyncLoss
  try dsimp only
  with_reducible refine KeepsR.whileCd ?_
  with_reducible refine Keeps.ite (fun _ => ?_) (fun _ => ?_)
  with_reducible refine Keeps.wr (in_SPR_DT_STATUS_STATE) (by decide) ?_
  with_reducible exact Keeps.refl _
  with_reducible exact Keeps.refl _

theorem wantBypass_keeps (s : State) (cause : Nat) :
    Keeps [] [.chain] s (wantBypass s cause) := by
  unfold wantBypass
  try dsimp only
  with_reducible refine Keeps.ite (fun _ => ?_) (fun _ => ?_)
  with_reducible exact Keeps.refl _
  with_reducible refine Keeps.set_chain (by decide) ⟨rfl, rfl⟩ ?_
  with_reducible exact Keeps.refl _

theorem toFrc_keeps (s : State) (pll : Nat) :
    Keeps [Reg.CLK_SRC, Reg.SUB_CAN_STAT, Reg.SUB_LIN_STAT] [.sub] s (toFrc s pll) := by
  unfold toFrc
  try dsimp only
  split
  with_reducible refine Keeps.put (in_CLK_SRC_SRC_APP) (by decide) ?_
  with_reducible exact Keeps.refl _
  with_reducible refine (showBuses_keeps _).then_ (by decide) (by decide) ?_
  with_reducible refine Keeps.put (in_CLK_SRC_SRC_SAF) (by decide) ?_
  with_reducible refine Keeps.put (in_CLK_SRC_SRC_FAB) (by decide) ?_
  with_reducible exact Keeps.refl _
  with_reducible exact Keeps.refl _

theorem pllStop_keeps (s : State) (pll : Nat) :
    Keeps [Reg.CLK_SRC, Reg.CLK_STATUS, Reg.PAR_EVT_CNT, Reg.SW_CNT_VAL, Reg.SW_MSEC_STAT, Reg.SUB_CAN_STAT, Reg.SUB_LIN_STAT, Reg.TLY_CNT0] [.records, .owed, .rings, .evt, .queue, .chain, .proxies, .loss, .wire, .sub, .out] s (pllStop s pll) := by
  unfold pllStop
  try dsimp only
  with_reducible refine Keeps.ite (fun _ => ?_) (fun _ => ?_)
  with_reducible refine Keeps.ite (fun _ => ?_) (fun _ => ?_)
  with_reducible refine (wantBypass_keeps _ _).then_ (by decide) (by decide) ?_
  with_reducible refine (raise_keeps _ _ _ _ _).then_ (by decide) (by decide) ?_
  with_reducible refine Keeps.put (in_CLK_STATUS_FALLBACK) (by decide) ?_
  with_reducible refine (toFrc_keeps _ _).then_ (by decide) (by decide) ?_
  with_reducible refine Keeps.put (in_CLK_STATUS_LOCK _) (by decide) ?_
  with_reducible exact Keeps.refl _
  with_reducible refine (raise_keeps _ _ _ _ _).then_ (by decide) (by decide) ?_
  with_reducible refine Keeps.put (in_CLK_STATUS_FALLBACK) (by decide) ?_
  with_reducible refine (toFrc_keeps _ _).then_ (by decide) (by decide) ?_
  with_reducible refine Keeps.put (in_CLK_STATUS_LOCK _) (by decide) ?_
  with_reducible exact Keeps.refl _
  with_reducible refine Keeps.put (in_CLK_STATUS_LOCK _) (by decide) ?_
  with_reducible exact Keeps.refl _

theorem execClkSrcWrite_keeps (w : Writer) (v : Word) (s : State) :
    KeepsR [Reg.CLK_SRC, Reg.CLK_STATUS, Reg.PAR_SEAL_STATUS, Reg.SUB_CAN_STAT, Reg.SUB_LIN_STAT] [.sub] s (execClkSrcWrite w v s) := by
  unfold execClkSrcWrite
  try dsimp only
  with_reducible refine KeepsR.whileCd ?_
  with_reducible refine Keeps.ite (fun _ => ?_) (fun _ => ?_)
  with_reducible refine (violate_keeps _).then_ (by decide) (by decide) ?_
  with_reducible exact Keeps.refl _
  with_reducible refine Keeps.ite (fun _ => ?_) (fun _ => ?_)
  with_reducible refine Keeps.put (in_CLK_STATUS_REFUSED) (by decide) ?_
  with_reducible exact Keeps.refl _
  with_reducible refine Keeps.ite (fun _ => ?_) (fun _ => ?_)
  with_reducible refine (writeWord_keepsAt at_0x10000 _ _).then_ (by decide) (by decide) ?_
  with_reducible exact Keeps.refl _
  with_reducible refine (showBuses_keeps _).then_ (by decide) (by decide) ?_
  with_reducible refine Keeps.put (in_CLK_STATUS_SWITCHING) (by decide) ?_
  with_reducible refine (writeWord_keepsAt at_0x10000 _ _).then_ (by decide) (by decide) ?_
  with_reducible exact Keeps.refl _

theorem execClkSwitchDone_keeps (s : State) :
    KeepsR [Reg.CLK_STATUS] [] s (execClkSwitchDone s) := by
  unfold execClkSwitchDone
  try dsimp only
  with_reducible refine KeepsR.next ?_
  with_reducible refine Keeps.put (in_CLK_STATUS_SWITCHING) (by decide) ?_
  with_reducible exact Keeps.refl _

theorem execClkPllCfgWrite_keeps (w : Writer) (v : Word) (s : State) :
    KeepsR [Reg.CLK_SRC, Reg.CLK_STATUS, Reg.CLK_PLL_CFG, Reg.PAR_SEAL_STATUS, Reg.PAR_EVT_CNT, Reg.SW_CNT_VAL, Reg.SW_MSEC_STAT, Reg.SUB_CAN_STAT, Reg.SUB_LIN_STAT, Reg.TLY_CNT0] [.records, .owed, .rings, .evt, .queue, .chain, .proxies, .loss, .wire, .sub, .out] s (execClkPllCfgWrite w v s) := by
  unfold execClkPllCfgWrite
  try dsimp only
  with_reducible refine KeepsR.whileCd ?_
  with_reducible refine Keeps.ite (fun _ => ?_) (fun _ => ?_)
  with_reducible refine (violate_keeps _).then_ (by decide) (by decide) ?_
  with_reducible exact Keeps.refl _
  with_reducible refine Keeps.foldl (fun _ _ => ?_) _ ?_
  with_reducible refine Keeps.ite (fun _ => ?_) (fun _ => ?_)
  with_reducible refine (pllStop_keeps _ _).then_ (by decide) (by decide) ?_
  with_reducible exact Keeps.refl _
  with_reducible exact Keeps.refl _
  with_reducible refine (writeWord_keepsAt at_0x10010 _ _).then_ (by decide) (by decide) ?_
  with_reducible exact Keeps.refl _

theorem execPllLock_keeps (pll : Fin 3) (s : State) :
    KeepsR [Reg.CLK_STATUS] [] s (execPllLock pll s) := by
  unfold execPllLock
  try dsimp only
  with_reducible refine KeepsR.next ?_
  with_reducible refine Keeps.ite (fun _ => ?_) (fun _ => ?_)
  with_reducible refine Keeps.put (in_CLK_STATUS_LOCK _) (by decide) ?_
  with_reducible exact Keeps.refl _
  with_reducible exact Keeps.refl _

theorem execPllLockLoss_keeps (pll : Fin 3) (s : State) :
    KeepsR [Reg.CLK_SRC, Reg.CLK_STATUS, Reg.PAR_EVT_CNT, Reg.SW_CNT_VAL, Reg.SW_MSEC_STAT, Reg.SUB_CAN_STAT, Reg.SUB_LIN_STAT, Reg.TLY_CNT0] [.records, .owed, .rings, .evt, .queue, .chain, .proxies, .loss, .wire, .sub, .out] s (execPllLockLoss pll s) := by
  unfold execPllLockLoss
  try dsimp only
  with_reducible refine KeepsR.whileCd ?_
  with_reducible refine Keeps.ite (fun _ => ?_) (fun _ => ?_)
  with_reducible refine (pllStop_keeps _ _).then_ (by decide) (by decide) ?_
  with_reducible exact Keeps.refl _
  with_reducible exact Keeps.refl _

theorem execXfFail_keeps (s : State) :
    KeepsR [Reg.CLK_SRC, Reg.CLK_STATUS, Reg.PAR_EVT_CNT, Reg.SW_CNT_VAL, Reg.SW_MSEC_STAT, Reg.SUB_CAN_STAT, Reg.SUB_LIN_STAT, Reg.TLY_CNT0] [.records, .owed, .rings, .evt, .queue, .chain, .proxies, .loss, .wire, .sub, .out] s (execXfFail s) := by
  unfold execXfFail
  try dsimp only
  with_reducible refine KeepsR.whileCd ?_
  with_reducible refine Keeps.ite (fun _ => ?_) (fun _ => ?_)
  with_reducible refine (wantBypass_keeps _ _).then_ (by decide) (by decide) ?_
  with_reducible refine (raise_keeps _ _ _ _ _).then_ (by decide) (by decide) ?_
  with_reducible refine Keeps.put (in_CLK_STATUS_FALLBACK) (by decide) ?_
  with_reducible refine Keeps.foldl (fun _ _ => ?_) _ ?_
  with_reducible refine (toFrc_keeps _ _).then_ (by decide) (by decide) ?_
  with_reducible refine Keeps.put (in_CLK_STATUS_LOCK _) (by decide) ?_
  with_reducible exact Keeps.refl _
  with_reducible refine Keeps.put (in_CLK_STATUS_XF_OK) (by decide) ?_
  with_reducible exact Keeps.refl _
  with_reducible exact Keeps.refl _

theorem execXfReady_keeps (s : State) :
    KeepsR [Reg.CLK_STATUS] [] s (execXfReady s) := by
  unfold execXfReady
  try dsimp only
  with_reducible refine KeepsR.next ?_
  with_reducible refine Keeps.ite (fun _ => ?_) (fun _ => ?_)
  with_reducible refine Keeps.put (in_CLK_STATUS_XF_OK) (by decide) ?_
  with_reducible exact Keeps.refl _
  with_reducible exact Keeps.refl _

theorem execCorePgoodLost_keeps (s : State) :
    KeepsR [Reg.PWR_DOM_STATUS, Reg.CHN_ATTACH, Reg.PAR_STATE, Reg.PAR_EVT_CNT, Reg.ACT_SAFE_STATUS, Reg.ACT_CNT, Reg.HS_STATE, Reg.HB_STATE, Reg.SV_STATE, Reg.SV_KRES, Reg.SV_CNT2, Reg.LED_STATE, Reg.FIO_CAUSE, Reg.SIN_SCHED, Reg.SIN_STREAMS, Reg.SW_CNT_VAL, Reg.SW_MSEC_STAT, Reg.TLY_CNT0, Reg.EVT_CDLOSS] [.records, .freeCtr, .spar, .pwr, .owed, .rng, .rings, .evt, .queue, .proxies, .act, .chs, .loss, .sns, .wire, .out] s (execCorePgoodLost s) := by
  unfold execCorePgoodLost
  try dsimp only
  with_reducible refine KeepsR.next ?_
  with_reducible refine Keeps.ite (fun _ => ?_) (fun _ => ?_)
  with_reducible refine (showDomains_keeps _).then_ (by decide) (by decide) ?_
  with_reducible refine (controlLost_keeps _ _).then_ (by decide) (by decide) ?_
  with_reducible exact Keeps.refl _
  with_reducible exact Keeps.refl _

theorem execCdRestart_keeps (s : State) :
    KeepsR [Reg.every] [.memory, .records, .layout, .freeCtr, .latches, .spar, .dt, .pwr, .owed, .banks, .par, .rng, .rings, .evt, .chain, .proxies, .act, .chs, .scl, .loss, .sns, .sw, .wire, .sub, .brd, .inf, .sto, .sec, .flt, .out] s (execCdRestart s) := by
  unfold execCdRestart
  try dsimp only
  split
  with_reducible refine KeepsR.next ?_
  with_reducible exact Keeps.refl _
  with_reducible refine KeepsR.next ?_
  with_reducible refine (showDomains_keeps _).then_ (by decide) (by decide) ?_
  with_reducible refine (startSeq_keeps _ _ _ _).then_ (by decide) (by decide) ?_
  with_reducible refine Keeps.rebuilt ?_ ?_ ?_
  · with_reducible exact .inl (by decide)
  · with_reducible exact ⟨.inr rfl, .inr rfl, .inr rfl, .inr rfl, .inl (by decide), .inr rfl, .inl (by decide), .inr rfl, .inr rfl, .inr rfl, .inr rfl, .inr rfl, .inr rfl, .inr rfl, .inr ⟨rfl, rfl, rfl⟩, .inr rfl, .inl (by decide), .inr rfl, .inr rfl, .inr rfl, .inl (by decide), .inr rfl, .inr rfl, .inl (by decide), .inr rfl, .inr rfl, .inr rfl, .inr rfl, .inr rfl, .inr rfl, .inr rfl, .inr rfl⟩
  with_reducible refine Keeps.ite (fun _ => ?_) (fun _ => ?_)
  with_reducible exact Keeps.refl _
  with_reducible refine (deviceReset_keeps _).then_ (by decide) (by decide) ?_
  with_reducible refine Keeps.orFEvery (by decide) ?_
  with_reducible exact Keeps.refl _

end Sys2Proof.Machine
end

