-- ==== Sys2Proof/Laws/Chain.lean ====
section
/-! SUPPORT.
What the operations of Machine/Chain.lean change, and that they keep a sound state sound.
-/

namespace Sys2Proof.Machine

theorem onFrame_keeps {w : List Span} {g : List Part} {s : State} {port : Nat} {f : List Byte} {act : Zk → State → State} (hw : regsWithin [Reg.CHN_CNT] w = true)
    (hg : within [Part.out] g = true)
    (hf : ∀ z t, Keeps w g t (act z t)) :
    Keeps w g s (onFrame s port f act) := by
  have k : ∀ {t u : State}, Keeps [Reg.CHN_CNT] [Part.out] t u → Keeps w g t u :=
    fun h => h.mono (of_regsWithin hw) (of_within hg)
  unfold onFrame
  refine Keeps.ite (fun _ => Keeps.refl _) fun _ => Keeps.ite (fun _ => ?_) fun _ => Keeps.ite (fun _ => Keeps.refl _) fun _ => ?_
  · exact k ((emit_keeps _ _).then_ (by decide) (by decide) (Keeps.refl _))
  · split
    · exact k ((Keeps.refl _).bump in_CHN_CNT_ZILEK_BAD (by decide))
    · exact hf _ _

theorem sendCruise_keeps (s : State) (port : Nat) (body : List Byte) :
    Keeps [Reg.SW_CNT_VAL, Reg.SW_MSEC_STAT] [.wire, .out] s (sendCruise s port body) := by
  unfold sendCruise
  try dsimp only
  with_reducible refine Keeps.ite (fun _ => ?_) (fun _ => ?_)
  with_reducible refine (sendZilek_keeps _ _ _ _ _ _ _ _).then_ (by decide) (by decide) ?_
  with_reducible exact Keeps.refl _
  with_reducible exact Keeps.refl _

theorem announceOut_keeps (s : State) (port : Nat) (arrived : Nat) (unsolicited : Bool) :
    Keeps [Reg.SW_CNT_VAL, Reg.SW_MSEC_STAT] [.wire, .out] s (announceOut s port arrived unsolicited) := by
  unfold announceOut
  try dsimp only
  with_reducible refine (sendCruise_keeps _ _ _).then_ (by decide) (by decide) ?_
  with_reducible exact Keeps.refl _

theorem onCruise_keeps {w : List Span} {g : List Part} {sub : Nat} {s : State} {port : Nat} {f : List Byte} {act : Zk → State → State} (hw : regsWithin [Reg.CHN_CNT] w = true)
    (hg : within [Part.out] g = true)
    (hf : ∀ z t, Keeps w g t (act z t)) :
    Keeps w g s (onCruise sub s port f act) := by
  have k : ∀ {t u : State}, Keeps [Reg.CHN_CNT] [Part.out] t u → Keeps w g t u :=
    fun h => h.mono (of_regsWithin hw) (of_within hg)
  unfold onCruise
  exact onFrame_keeps hw hg (fun _ _ => Keeps.ite (fun _ => hf _ _) (fun _ => Keeps.refl _))

theorem execDiscover_keeps (port : Fin 2) (frame : List Byte) (s : State) :
    KeepsR [Reg.CHN_CRUISE, Reg.CHN_CNT, Reg.SW_CNT_VAL, Reg.SW_MSEC_STAT] [.chain, .wire, .out] s (execDiscover port frame s) := by
  unfold execDiscover
  try dsimp only
  with_reducible refine KeepsR.next ?_
  with_reducible refine onCruise_keeps (by decide) (by decide) (fun _ _ => ?_)
  with_reducible refine Keeps.ite (fun _ => ?_) (fun _ => ?_)
  with_reducible refine (announceOut_keeps _ _ _ _).then_ (by decide) (by decide) ?_
  with_reducible refine (sendCruise_keeps _ _ _).then_ (by decide) (by decide) ?_
  with_reducible refine Keeps.set_chain (by decide) ⟨rfl, rfl⟩ ?_
  with_reducible refine Keeps.put (in_CHN_CRUISE_RING_SEEN) (by decide) ?_
  with_reducible refine Keeps.wr (in_CHN_CRUISE_HOPS) (by decide) ?_
  with_reducible refine Keeps.wr (in_CHN_CRUISE_UPSTREAM) (by decide) ?_
  with_reducible refine Keeps.wr (in_CHN_CRUISE_CRUISE_ID) (by decide) ?_
  with_reducible exact Keeps.refl _
  with_reducible refine Keeps.ite (fun _ => ?_) (fun _ => ?_)
  with_reducible refine (announceOut_keeps _ _ _ _).then_ (by decide) (by decide) ?_
  with_reducible refine Keeps.put (in_CHN_CRUISE_RING_SEEN) (by decide) ?_
  with_reducible exact Keeps.refl _
  with_reducible exact Keeps.refl _

theorem execAnnounce_keeps (port : Fin 2) (frame : List Byte) (s : State) :
    KeepsR [Reg.CHN_CNT, Reg.SW_CNT_VAL, Reg.SW_MSEC_STAT] [.wire, .out] s (execAnnounce port frame s) := by
  unfold execAnnounce
  try dsimp only
  with_reducible refine KeepsR.next ?_
  with_reducible refine onCruise_keeps (by decide) (by decide) (fun _ _ => ?_)
  with_reducible refine (sendCruise_keeps _ _ _).then_ (by decide) (by decide) ?_
  with_reducible exact Keeps.refl _

theorem execConfirm_keeps (port : Fin 2) (frame : List Byte) (s : State) :
    KeepsR [Reg.CHN_CNT, Reg.SW_CNT_VAL, Reg.SW_MSEC_STAT] [.wire, .out] s (execConfirm port frame s) := by
  unfold execConfirm
  try dsimp only
  with_reducible refine KeepsR.next ?_
  with_reducible refine onCruise_keeps (by decide) (by decide) (fun _ _ => ?_)
  with_reducible refine (sendCruise_keeps _ _ _).then_ (by decide) (by decide) ?_
  with_reducible exact Keeps.refl _

theorem execAnnounceTimer_keeps (s : State) :
    KeepsR [Reg.SW_CNT_VAL, Reg.SW_MSEC_STAT] [.wire, .out] s (execAnnounceTimer s) := by
  unfold execAnnounceTimer
  try dsimp only
  with_reducible refine KeepsR.whileCd ?_
  with_reducible refine Keeps.ite (fun _ => ?_) (fun _ => ?_)
  with_reducible refine Keeps.foldl (fun _ _ => ?_) _ ?_
  with_reducible refine (announceOut_keeps _ _ _ _).then_ (by decide) (by decide) ?_
  with_reducible exact Keeps.refl _
  with_reducible exact Keeps.refl _
  with_reducible exact Keeps.refl _

theorem execAssign_keeps (port : Fin 2) (frame : List Byte) (s : State) :
    KeepsR [Reg.CHN_CNT, Reg.PAR_EVT_CNT, Reg.SW_CNT_VAL, Reg.SW_MSEC_STAT, Reg.TLY_CNT0] [.records, .owed, .rings, .evt, .queue, .chain, .proxies, .loss, .wire, .out] s (execAssign port frame s) := by
  unfold execAssign
  try dsimp only
  with_reducible refine KeepsR.next ?_
  with_reducible refine onCruise_keeps (by decide) (by decide) (fun _ _ => ?_)
  with_reducible refine Keeps.ite (fun _ => ?_) (fun _ => ?_)
  with_reducible refine (sendCruise_keeps _ _ _).then_ (by decide) (by decide) ?_
  with_reducible exact Keeps.refl _
  with_reducible refine Keeps.ite (fun _ => ?_) (fun _ => ?_)
  with_reducible refine Keeps.bump (in_CHN_CNT_ZILEK_BAD) (by decide) ?_
  with_reducible exact Keeps.refl _
  with_reducible refine (sendCruise_keeps _ _ _).then_ (by decide) (by decide) ?_
  with_reducible refine Keeps.ite (fun _ => ?_) (fun _ => ?_)
  with_reducible refine (raise_keeps _ _ _ _ _).then_ (by decide) (by decide) ?_
  with_reducible refine Keeps.set_chain (by decide) ⟨rfl, rfl⟩ ?_
  with_reducible exact Keeps.refl _
  with_reducible refine Keeps.set_chain (by decide) ⟨rfl, rfl⟩ ?_
  with_reducible exact Keeps.refl _

theorem execCruiseDone_keeps (port : Fin 2) (frame : List Byte) (s : State) :
    KeepsR [Reg.CHN_ADDR, Reg.CHN_ATTACH, Reg.CHN_CNT, Reg.PAR_STATE, Reg.PAR_EVT_CNT, Reg.ACT_CLAIM, Reg.ACT_CNT, Reg.HS_STATE, Reg.HB_STATE, Reg.SV_STATE, Reg.SV_KRES, Reg.SV_CNT2, Reg.LED_STATE, Reg.FIO_CAUSE, Reg.SIN_SCHED, Reg.SIN_STREAMS, Reg.SW_CNT_VAL, Reg.SW_BUF_STATUS, Reg.SW_MSEC_STAT, Reg.INF_CTX_STAT, Reg.INF_CTX_EXEC, Reg.INF_MEM, Reg.STO_WB_STATUS, Reg.TLY_CNT0] [.records, .freeCtr, .owed, .rng, .rings, .evt, .queue, .chain, .proxies, .act, .chs, .loss, .sns, .sw, .wire, .sub, .inf, .sto, .sec, .out] s (execCruiseDone port frame s) := by
  unfold execCruiseDone
  try dsimp only
  with_reducible refine KeepsR.next ?_
  with_reducible refine onCruise_keeps (by decide) (by decide) (fun _ _ => ?_)
  with_reducible refine Keeps.ite (fun _ => ?_) (fun _ => ?_)
  with_reducible refine (raise_keeps _ _ _ _ _).then_ (by decide) (by decide) ?_
  with_reducible refine Keeps.ite (fun _ => ?_) (fun _ => ?_)
  with_reducible refine Keeps.set_chain (by decide) ⟨rfl, rfl⟩ ?_
  with_reducible refine Keeps.wr (in_CHN_ADDR_ADDR) (by decide) ?_
  with_reducible refine (sendCruise_keeps _ _ _).then_ (by decide) (by decide) ?_
  with_reducible exact Keeps.refl _
  with_reducible refine (detachAll_keeps _ _).then_ (by decide) (by decide) ?_
  with_reducible refine Keeps.set_chain (by decide) ⟨rfl, rfl⟩ ?_
  with_reducible refine Keeps.wr (in_CHN_ADDR_ADDR) (by decide) ?_
  with_reducible refine (sendCruise_keeps _ _ _).then_ (by decide) (by decide) ?_
  with_reducible exact Keeps.refl _
  with_reducible refine (sendCruise_keeps _ _ _).then_ (by decide) (by decide) ?_
  with_reducible exact Keeps.refl _

theorem execAssignTimeout_keeps (s : State) :
    KeepsR [] [.chain] s (execAssignTimeout s) := by
  unfold execAssignTimeout
  try dsimp only
  with_reducible refine KeepsR.next ?_
  with_reducible refine Keeps.set_chain (by decide) ⟨rfl, rfl⟩ ?_
  with_reducible exact Keeps.refl _

theorem flushDynamic_keeps (s : State) (hit : TblEnt → Bool) :
    Keeps [Reg.SW_CNT_VAL, Reg.SW_STATUS] [.sw, .wire] s (flushDynamic s hit) := by
  unfold flushDynamic
  try dsimp only
  with_reducible refine (swCount_keeps _ _ _ _ _).then_ (by decide) (by decide) ?_
  with_reducible refine Keeps.wr (in_SW_STATUS_ENTRIES) (by decide) ?_
  with_reducible refine Keeps.set_sw (by decide) ⟨rfl, rfl, rfl⟩ ?_
  with_reducible exact Keeps.refl _

theorem announceKept_keeps (s : State) :
    Keeps [Reg.SW_CNT_VAL, Reg.SW_MSEC_STAT] [.chain, .wire, .out] s (announceKept s) := by
  unfold announceKept
  try dsimp only
  with_reducible refine Keeps.ite (fun _ => ?_) (fun _ => ?_)
  with_reducible refine (announceOut_keeps _ _ _ _).then_ (by decide) (by decide) ?_
  with_reducible refine Keeps.set_chain (by decide) ⟨rfl, rfl⟩ ?_
  with_reducible exact Keeps.refl _
  with_reducible exact Keeps.refl _

theorem setLink_keeps (s : State) (port : Nat) (up : Bool) :
    Keeps [Reg.PAR_EVT_CNT, Reg.SW_CNT_VAL, Reg.SW_STATUS, Reg.SW_MSEC_STAT, Reg.TLY_CNT0] [.records, .owed, .rings, .evt, .queue, .chain, .proxies, .loss, .sw, .wire, .out] s (setLink s port up) := by
  unfold setLink
  try dsimp only
  with_reducible refine Keeps.ite (fun _ => ?_) (fun _ => ?_)
  with_reducible exact Keeps.refl _
  with_reducible refine (announceKept_keeps _).then_ (by decide) (by decide) ?_
  with_reducible refine (raise_keeps _ _ _ _ _).then_ (by decide) (by decide) ?_
  with_reducible refine Keeps.ite (fun _ => ?_) (fun _ => ?_)
  with_reducible refine (flushDynamic_keeps _ _).then_ (by decide) (by decide) ?_
  with_reducible refine Keeps.set_chain_proxies (by decide) (by decide) ?_
  with_reducible exact Keeps.refl _
  with_reducible refine Keeps.set_chain_proxies (by decide) (by decide) ?_
  with_reducible exact Keeps.refl _

theorem execChainLinkChange_keeps (port : Fin 2) (up : Bool) (s : State) :
    KeepsR [Reg.PAR_EVT_CNT, Reg.SW_CNT_VAL, Reg.SW_STATUS, Reg.SW_MSEC_STAT, Reg.TLY_CNT0] [.records, .owed, .rings, .evt, .queue, .chain, .proxies, .loss, .sw, .wire, .out] s (execChainLinkChange port up s) := by
  unfold execChainLinkChange
  try dsimp only
  with_reducible refine KeepsR.next ?_
  with_reducible refine Keeps.ite (fun _ => ?_) (fun _ => ?_)
  with_reducible refine (setLink_keeps _ _ _).then_ (by decide) (by decide) ?_
  with_reducible exact Keeps.refl _
  with_reducible exact Keeps.refl _

theorem execChnPortCfgWrite_keeps (w : Writer) (v : Word) (s : State) :
    KeepsR [Reg.CHN_PORT_CFG, Reg.PAR_SEAL_STATUS, Reg.PAR_EVT_CNT, Reg.SW_CNT_VAL, Reg.SW_STATUS, Reg.SW_MSEC_STAT, Reg.TLY_CNT0] [.records, .owed, .rings, .evt, .queue, .chain, .proxies, .loss, .sw, .wire, .out] s (execChnPortCfgWrite w v s) := by
  unfold execChnPortCfgWrite
  try dsimp only
  with_reducible refine KeepsR.whileCd ?_
  with_reducible refine Keeps.ite (fun _ => ?_) (fun _ => ?_)
  with_reducible refine (violate_keeps _).then_ (by decide) (by decide) ?_
  with_reducible exact Keeps.refl _
  with_reducible refine Keeps.ite (fun _ => ?_) (fun _ => ?_)
  with_reducible refine (setLink_keeps _ _ _).then_ (by decide) (by decide) ?_
  with_reducible refine Keeps.ite (fun _ => ?_) (fun _ => ?_)
  with_reducible refine (setLink_keeps _ _ _).then_ (by decide) (by decide) ?_
  with_reducible refine (writeWord_keepsAt at_0x40000 _ _).then_ (by decide) (by decide) ?_
  with_reducible exact Keeps.refl _
  with_reducible refine (writeWord_keepsAt at_0x40000 _ _).then_ (by decide) (by decide) ?_
  with_reducible exact Keeps.refl _
  with_reducible refine Keeps.ite (fun _ => ?_) (fun _ => ?_)
  with_reducible refine (setLink_keeps _ _ _).then_ (by decide) (by decide) ?_
  with_reducible refine (writeWord_keepsAt at_0x40000 _ _).then_ (by decide) (by decide) ?_
  with_reducible exact Keeps.refl _
  with_reducible refine (writeWord_keepsAt at_0x40000 _ _).then_ (by decide) (by decide) ?_
  with_reducible exact Keeps.refl _

theorem dropChain_keeps (s : State) :
    Keeps [Reg.CHN_BYPASS, Reg.SW_BUF_STATUS] [.sw] s (dropChain s) := by
  unfold dropChain
  try dsimp only
  with_reducible refine Keeps.foldl (fun _ _ => ?_) _ ?_
  with_reducible refine Keeps.ite (fun _ => ?_) (fun _ => ?_)
  with_reducible exact Keeps.refl _
  with_reducible refine Keeps.bump (in_CHN_BYPASS_BYP_LOST) (by decide) ?_
  with_reducible refine (setQueue_keeps _ _ _ _).then_ (by decide) (by decide) ?_
  with_reducible exact Keeps.refl _
  with_reducible exact Keeps.refl _

theorem engage_keeps (s : State) (cause : Nat) (lost : Nat) :
    Keeps [Reg.CHN_BYPASS, Reg.SW_BUF_STATUS] [.chain, .sw] s (engage s cause lost) := by
  unfold engage
  try dsimp only
  with_reducible refine Keeps.ite (fun _ => ?_) (fun _ => ?_)
  with_reducible exact Keeps.refl _
  with_reducible refine Keeps.ite (fun _ => ?_) (fun _ => ?_)
  with_reducible refine Keeps.wr (in_CHN_BYPASS_CAUSE) (by decide) ?_
  with_reducible exact Keeps.refl _
  with_reducible refine Keeps.ite (fun _ => ?_) (fun _ => ?_)
  with_reducible refine Keeps.set_chain (by decide) ⟨rfl, rfl⟩ ?_
  with_reducible refine (dropChain_keeps _).then_ (by decide) (by decide) ?_
  with_reducible refine Keeps.wr (in_CHN_BYPASS_CAUSE) (by decide) ?_
  with_reducible exact Keeps.refl _
  with_reducible refine (dropChain_keeps _).then_ (by decide) (by decide) ?_
  with_reducible refine Keeps.bump (in_CHN_BYPASS_BYP_LOST) (by decide) ?_
  with_reducible refine Keeps.wr (in_CHN_BYPASS_CAUSE) (by decide) ?_
  with_reducible refine Keeps.put (in_CHN_BYPASS_ACTIVE) (by decide) ?_
  with_reducible exact Keeps.refl _

theorem execBypassEngage_keeps (cause : Nat) (lost : Nat) (s : State) :
    KeepsR [Reg.CHN_BYPASS, Reg.SW_BUF_STATUS] [.chain, .sw] s (execBypassEngage cause lost s) := by
  unfold execBypassEngage
  try dsimp only
  with_reducible refine KeepsR.next ?_
  with_reducible refine (engage_keeps _ _ _).then_ (by decide) (by decide) ?_
  with_reducible exact Keeps.refl _

theorem execLdControlLost_keeps (s : State) :
    KeepsR [] [.chain] s (execLdControlLost s) := by
  unfold execLdControlLost
  try dsimp only
  with_reducible refine KeepsR.next ?_
  with_reducible refine Keeps.ite (fun _ => ?_) (fun _ => ?_)
  with_reducible refine (wantBypass_keeps _ _).then_ (by decide) (by decide) ?_
  with_reducible exact Keeps.refl _
  with_reducible exact Keeps.refl _

theorem leaveBypass_keeps (s : State) (lost : Nat) :
    Keeps [Reg.CHN_BYPASS, Reg.SW_CNT_VAL, Reg.SW_MSEC_STAT] [.chain, .wire, .out] s (leaveBypass s lost) := by
  unfold leaveBypass
  try dsimp only
  with_reducible refine Keeps.ite (fun _ => ?_) (fun _ => ?_)
  with_reducible refine Keeps.ite (fun _ => ?_) (fun _ => ?_)
  with_reducible refine (announceOut_keeps _ _ _ _).then_ (by decide) (by decide) ?_
  with_reducible refine Keeps.set_chain (by decide) ⟨rfl, rfl⟩ ?_
  with_reducible refine Keeps.bump (in_CHN_BYPASS_BYP_LOST) (by decide) ?_
  with_reducible refine Keeps.wr (in_CHN_BYPASS_CAUSE) (by decide) ?_
  with_reducible refine Keeps.put (in_CHN_BYPASS_ACTIVE) (by decide) ?_
  with_reducible exact Keeps.refl _
  with_reducible refine (announceKept_keeps _).then_ (by decide) (by decide) ?_
  with_reducible refine Keeps.set_chain (by decide) ⟨rfl, rfl⟩ ?_
  with_reducible refine Keeps.bump (in_CHN_BYPASS_BYP_LOST) (by decide) ?_
  with_reducible refine Keeps.wr (in_CHN_BYPASS_CAUSE) (by decide) ?_
  with_reducible refine Keeps.put (in_CHN_BYPASS_ACTIVE) (by decide) ?_
  with_reducible exact Keeps.refl _
  with_reducible exact Keeps.refl _

theorem writeBypass_keeps (s : State) (w : Writer) (v : Word) (lost : Nat) :
    Keeps [Reg.CHN_BYPASS, Reg.PAR_SEAL_STATUS, Reg.SW_CNT_VAL, Reg.SW_MSEC_STAT] [.chain, .wire, .out] s (writeBypass s w v lost) := by
  unfold writeBypass
  try dsimp only
  with_reducible refine Keeps.ite (fun _ => ?_) (fun _ => ?_)
  with_reducible refine (violate_keeps _).then_ (by decide) (by decide) ?_
  with_reducible exact Keeps.refl _
  with_reducible refine Keeps.ite (fun _ => ?_) (fun _ => ?_)
  with_reducible refine (leaveBypass_keeps _ _).then_ (by decide) (by decide) ?_
  with_reducible refine Keeps.ite (fun _ => ?_) (fun _ => ?_)
  with_reducible refine (wantBypass_keeps _ _).then_ (by decide) (by decide) ?_
  with_reducible refine Keeps.put (in_CHN_BYPASS_LEAVE) (by decide) ?_
  with_reducible refine (writeWord_keepsAt at_0x40030 _ _).then_ (by decide) (by decide) ?_
  with_reducible exact Keeps.refl _
  with_reducible refine Keeps.set_chain (by decide) ⟨rfl, rfl⟩ ?_
  with_reducible refine Keeps.put (in_CHN_BYPASS_LEAVE) (by decide) ?_
  with_reducible refine (writeWord_keepsAt at_0x40030 _ _).then_ (by decide) (by decide) ?_
  with_reducible exact Keeps.refl _
  with_reducible refine Keeps.ite (fun _ => ?_) (fun _ => ?_)
  with_reducible refine (wantBypass_keeps _ _).then_ (by decide) (by decide) ?_
  with_reducible refine Keeps.put (in_CHN_BYPASS_LEAVE) (by decide) ?_
  with_reducible refine (writeWord_keepsAt at_0x40030 _ _).then_ (by decide) (by decide) ?_
  with_reducible exact Keeps.refl _
  with_reducible refine Keeps.set_chain (by decide) ⟨rfl, rfl⟩ ?_
  with_reducible refine Keeps.put (in_CHN_BYPASS_LEAVE) (by decide) ?_
  with_reducible refine (writeWord_keepsAt at_0x40030 _ _).then_ (by decide) (by decide) ?_
  with_reducible exact Keeps.refl _

theorem execBypassForce_keeps (w : Writer) (v : Word) (s : State) :
    KeepsR [Reg.CHN_BYPASS, Reg.PAR_SEAL_STATUS, Reg.SW_CNT_VAL, Reg.SW_MSEC_STAT] [.chain, .wire, .out] s (execBypassForce w v s) := by
  unfold execBypassForce
  try dsimp only
  with_reducible refine KeepsR.whileCd ?_
  with_reducible refine (writeBypass_keeps _ _ _ _).then_ (by decide) (by decide) ?_
  with_reducible exact Keeps.refl _

theorem execBypassLeave_keeps (w : Writer) (v : Word) (lost : Nat) (s : State) :
    KeepsR [Reg.CHN_BYPASS, Reg.PAR_SEAL_STATUS, Reg.SW_CNT_VAL, Reg.SW_MSEC_STAT] [.chain, .wire, .out] s (execBypassLeave w v lost s) := by
  unfold execBypassLeave
  try dsimp only
  with_reducible refine KeepsR.whileCd ?_
  with_reducible refine (writeBypass_keeps _ _ _ _).then_ (by decide) (by decide) ?_
  with_reducible exact Keeps.refl _

theorem execChainSleepReq_keeps (port : Fin 2) (s : State) :
    KeepsR [Reg.PAR_EVT_CNT, Reg.SW_CNT_VAL, Reg.SW_MSEC_STAT, Reg.TLY_CNT0] [.records, .owed, .rings, .evt, .queue, .proxies, .loss, .wire, .out] s (execChainSleepReq port s) := by
  unfold execChainSleepReq
  try dsimp only
  with_reducible refine KeepsR.whileCd ?_
  with_reducible refine Keeps.ite (fun _ => ?_) (fun _ => ?_)
  with_reducible refine (emit_keeps _ _).then_ (by decide) (by decide) ?_
  with_reducible refine (raise_keeps _ _ _ _ _).then_ (by decide) (by decide) ?_
  with_reducible exact Keeps.refl _
  with_reducible exact Keeps.refl _

theorem execSendWhistle_keeps (w : Writer) (v : Word) (s : State) :
    KeepsR [Reg.CHN_SLEEP, Reg.PAR_SEAL_STATUS] [.out] s (execSendWhistle w v s) := by
  unfold execSendWhistle
  try dsimp only
  with_reducible refine KeepsR.whileCd ?_
  with_reducible refine Keeps.ite (fun _ => ?_) (fun _ => ?_)
  with_reducible refine (violate_keeps _).then_ (by decide) (by decide) ?_
  with_reducible exact Keeps.refl _
  with_reducible refine Keeps.ite (fun _ => ?_) (fun _ => ?_)
  with_reducible refine (emit_keeps _ _).then_ (by decide) (by decide) ?_
  with_reducible refine Keeps.ite (fun _ => ?_) (fun _ => ?_)
  with_reducible refine (emit_keeps _ _).then_ (by decide) (by decide) ?_
  with_reducible refine Keeps.wr (in_CHN_SLEEP_SEND_WHISTLE) (by decide) ?_
  with_reducible refine (writeWord_keepsAt at_0x40058 _ _).then_ (by decide) (by decide) ?_
  with_reducible exact Keeps.refl _
  with_reducible refine Keeps.wr (in_CHN_SLEEP_SEND_WHISTLE) (by decide) ?_
  with_reducible refine (writeWord_keepsAt at_0x40058 _ _).then_ (by decide) (by decide) ?_
  with_reducible exact Keeps.refl _
  with_reducible refine Keeps.ite (fun _ => ?_) (fun _ => ?_)
  with_reducible refine (emit_keeps _ _).then_ (by decide) (by decide) ?_
  with_reducible refine Keeps.wr (in_CHN_SLEEP_SEND_WHISTLE) (by decide) ?_
  with_reducible refine (writeWord_keepsAt at_0x40058 _ _).then_ (by decide) (by decide) ?_
  with_reducible exact Keeps.refl _
  with_reducible refine Keeps.wr (in_CHN_SLEEP_SEND_WHISTLE) (by decide) ?_
  with_reducible refine (writeWord_keepsAt at_0x40058 _ _).then_ (by decide) (by decide) ?_
  with_reducible exact Keeps.refl _

theorem execP0Handoff_keeps (s : State) :
    KeepsR [Reg.PAR_EVT_CNT, Reg.SW_CNT_VAL, Reg.SW_MSEC_STAT, Reg.TLY_CNT0] [.records, .spar, .pwr, .owed, .rings, .evt, .queue, .chain, .proxies, .loss, .wire, .out] s (execP0Handoff s) := by
  unfold execP0Handoff
  try dsimp only
  split
  split
  with_reducible refine KeepsR.next ?_
  with_reducible refine (wakeDone_keeps _ _).then_ (by decide) (by decide) ?_
  with_reducible refine Keeps.set_pwr (by decide) rfl rfl ?_
  with_reducible refine (announceKept_keeps _).then_ (by decide) (by decide) ?_
  with_reducible refine (feedNow_keeps _).then_ (by decide) (by decide) ?_
  with_reducible refine Keeps.set_pwr (by decide) rfl rfl ?_
  with_reducible refine (emit_keeps _ _).then_ (by decide) (by decide) ?_
  with_reducible exact Keeps.refl _
  with_reducible refine KeepsR.next ?_
  with_reducible refine (announceKept_keeps _).then_ (by decide) (by decide) ?_
  with_reducible refine (feedNow_keeps _).then_ (by decide) (by decide) ?_
  with_reducible refine Keeps.set_pwr (by decide) rfl rfl ?_
  with_reducible refine (emit_keeps _ _).then_ (by decide) (by decide) ?_
  with_reducible exact Keeps.refl _
  with_reducible refine KeepsR.next ?_
  with_reducible exact Keeps.refl _

end Sys2Proof.Machine
end

