-- ==== Sys2Proof/Laws/Power.lean ====
section
/-! SUPPORT.
What the operations of Machine/Power.lean change, and that they keep a sound state sound.
-/

namespace Sys2Proof.Machine

theorem setCore_keeps (s : State) (k : Nat) (c : CoreState) :
    Keeps [] [.pwr] s (setCore s k c) := by
  unfold setCore
  try dsimp only
  with_reducible refine Keeps.set_pwr (by decide) rfl rfl ?_
  with_reducible exact Keeps.refl _

theorem beginEntry_keeps (s : State) (target : Nat) (idle : Bool) :
    Keeps [] [.pwr] s (beginEntry s target idle) := by
  unfold beginEntry
  try dsimp only
  with_reducible refine Keeps.set_pwr (by decide) rfl rfl ?_
  with_reducible exact Keeps.refl _

theorem execCoreWfi_keeps (core : Fin 6) (s : State) :
    KeepsR [] [.pwr] s (execCoreWfi core s) := by
  unfold execCoreWfi
  try dsimp only
  with_reducible refine KeepsR.whileCd ?_
  with_reducible refine Keeps.ite (fun _ => ?_) (fun _ => ?_)
  with_reducible exact Keeps.refl _
  with_reducible refine Keeps.ite (fun _ => ?_) (fun _ => ?_)
  with_reducible refine (beginEntry_keeps _ _ _).then_ (by decide) (by decide) ?_
  with_reducible refine (setCore_keeps _ _ _).then_ (by decide) (by decide) ?_
  with_reducible refine Keeps.set_pwr (by decide) rfl rfl ?_
  with_reducible exact Keeps.refl _
  with_reducible refine (setCore_keeps _ _ _).then_ (by decide) (by decide) ?_
  with_reducible refine Keeps.set_pwr (by decide) rfl rfl ?_
  with_reducible exact Keeps.refl _

theorem execCoreIdle_keeps (core : Fin 4) (s : State) :
    KeepsR [] [.pwr] s (execCoreIdle core s) := by
  unfold execCoreIdle
  try dsimp only
  with_reducible refine KeepsR.whileCd ?_
  with_reducible refine Keeps.ite (fun _ => ?_) (fun _ => ?_)
  with_reducible refine (setCore_keeps _ _ _).then_ (by decide) (by decide) ?_
  with_reducible exact Keeps.refl _
  with_reducible exact Keeps.refl _

theorem execCoreWake_keeps (core : Fin 6) (s : State) :
    KeepsR [] [.pwr] s (execCoreWake core s) := by
  unfold execCoreWake
  try dsimp only
  with_reducible refine KeepsR.whileCd ?_
  with_reducible refine Keeps.ite (fun _ => ?_) (fun _ => ?_)
  with_reducible refine (setCore_keeps _ _ _).then_ (by decide) (by decide) ?_
  with_reducible exact Keeps.refl _
  with_reducible exact Keeps.refl _

theorem execDevIdleTimeout_keeps (s : State) :
    KeepsR [] [.pwr] s (execDevIdleTimeout s) := by
  unfold execDevIdleTimeout
  try dsimp only
  with_reducible refine KeepsR.whileCd ?_
  with_reducible refine Keeps.ite (fun _ => ?_) (fun _ => ?_)
  with_reducible refine (beginEntry_keeps _ _ _).then_ (by decide) (by decide) ?_
  with_reducible exact Keeps.refl _
  with_reducible exact Keeps.refl _

theorem execPwrNextWrite_keeps (w : Writer) (v : Word) (s : State) :
    KeepsR [Reg.PWR_NEXT, Reg.PWR_STATUS, Reg.PAR_SEAL_STATUS] [] s (execPwrNextWrite w v s) := by
  unfold execPwrNextWrite
  try dsimp only
  with_reducible refine KeepsR.whileCd ?_
  with_reducible refine Keeps.ite (fun _ => ?_) (fun _ => ?_)
  with_reducible refine (violate_keeps _).then_ (by decide) (by decide) ?_
  with_reducible refine Keeps.bump (in_PWR_STATUS_REFUSED_CNT) (by decide) ?_
  with_reducible exact Keeps.refl _
  with_reducible refine Keeps.ite (fun _ => ?_) (fun _ => ?_)
  with_reducible refine Keeps.bump (in_PWR_STATUS_REFUSED_CNT) (by decide) ?_
  with_reducible exact Keeps.refl _
  with_reducible refine (writeWord_keepsAt at_0x20000 _ _).then_ (by decide) (by decide) ?_
  with_reducible exact Keeps.refl _

theorem execPwrSafAck_keeps (w : Writer) (v : Word) (s : State) :
    KeepsR [Reg.PWR_SAF_ACK, Reg.PAR_SEAL_STATUS] [] s (execPwrSafAck w v s) := by
  unfold execPwrSafAck
  try dsimp only
  with_reducible refine KeepsR.whileCd ?_
  with_reducible refine Keeps.ite (fun _ => ?_) (fun _ => ?_)
  with_reducible refine Keeps.ite (fun _ => ?_) (fun _ => ?_)
  with_reducible refine Keeps.put (in_PWR_SAF_ACK_ACK) (by decide) ?_
  with_reducible exact Keeps.refl _
  with_reducible exact Keeps.refl _
  with_reducible refine (violate_keeps _).then_ (by decide) (by decide) ?_
  with_reducible exact Keeps.refl _

theorem cancelWork_keeps (s : State) (w : Work) :
    Keeps [Reg.SW_CNT_VAL, Reg.SW_MSEC_STAT] [.records, .owed, .rng, .rings, .proxies, .wire, .out] s (cancelWork s w) := by
  unfold cancelWork
  try dsimp only
  with_reducible refine (finish_keeps _ _ _ _ _ _).then_ (by decide) (by decide) ?_
  with_reducible exact Keeps.refl _

theorem stopEntry_keeps (s : State) (code : Nat) :
    Keeps [Reg.PWR_NEXT, Reg.PWR_SAF_ACK, Reg.PWR_STATUS] [.pwr] s (stopEntry s code) := by
  unfold stopEntry
  try dsimp only
  with_reducible refine Keeps.ite (fun _ => ?_) (fun _ => ?_)
  with_reducible refine Keeps.set_pwr (by decide) rfl rfl ?_
  with_reducible refine Keeps.wr (in_PWR_STATUS_ABORT) (by decide) ?_
  with_reducible exact Keeps.refl _
  with_reducible refine (abortEntry_keeps _ _).then_ (by decide) (by decide) ?_
  with_reducible exact Keeps.refl _

theorem checkTimed_keeps (s : State) (e : Entry) :
    Keeps [Reg.PWR_NEXT, Reg.PWR_SAF_ACK, Reg.PWR_STATUS, Reg.SW_CNT_VAL, Reg.SW_MSEC_STAT] [.records, .pwr, .owed, .rng, .rings, .proxies, .wire, .out] s (checkTimed s e) := by
  unfold checkTimed
  try dsimp only
  with_reducible refine Keeps.ite (fun _ => ?_) (fun _ => ?_)
  with_reducible refine Keeps.set_pwr (by decide) rfl rfl ?_
  with_reducible refine Keeps.foldl (fun _ _ => ?_) _ ?_
  with_reducible refine (cancelWork_keeps _ _).then_ (by decide) (by decide) ?_
  with_reducible exact Keeps.refl _
  with_reducible exact Keeps.refl _
  with_reducible refine (stopEntry_keeps _ _).then_ (by decide) (by decide) ?_
  with_reducible exact Keeps.refl _

theorem pastAlarm_keeps (s : State) :
    Keeps [Reg.PWR_NEXT, Reg.PWR_SAF_ACK, Reg.PWR_ADAPT, Reg.PWR_STATUS, Reg.PWR_DOM_STATUS, Reg.WAK_REASON, Reg.WAK_SEEN, Reg.PAR_EVT_CNT, Reg.SIN_SNS_CNT, Reg.SW_CNT_VAL, Reg.SW_MSEC_STAT, Reg.TLY_CNT0] [.memory, .records, .spar, .pwr, .owed, .rings, .evt, .queue, .proxies, .loss, .sns, .wire, .out] s (pastAlarm s) := by
  unfold pastAlarm
  try dsimp only
  with_reducible refine Keeps.ite (fun _ => ?_) (fun _ => ?_)
  with_reducible refine (wakeSleep_keeps _ _ _).then_ (by decide) (by decide) ?_
  with_reducible refine (abortEntry_keeps _ _).then_ (by decide) (by decide) ?_
  with_reducible refine Keeps.orF (in_WAK_SEEN_SEEN) (by decide) ?_
  with_reducible exact Keeps.refl _
  with_reducible refine (abortEntry_keeps _ _).then_ (by decide) (by decide) ?_
  with_reducible refine (reportWake_keeps _ _ _ _).then_ (by decide) (by decide) ?_
  with_reducible refine Keeps.orF (in_WAK_SEEN_SEEN) (by decide) ?_
  with_reducible exact Keeps.refl _

theorem execPowerEntry_keeps (s : State) :
    KeepsR [Reg.PWR_NEXT, Reg.PWR_SAF_ACK, Reg.PWR_ADAPT, Reg.PWR_STATUS, Reg.PWR_DOM_STATUS, Reg.WAK_REASON, Reg.WAK_SEEN, Reg.PAR_EVT_CNT, Reg.SIN_SNS_CNT, Reg.SW_CNT_VAL, Reg.SW_MSEC_STAT, Reg.TLY_CNT0] [.memory, .records, .spar, .pwr, .owed, .rng, .rings, .evt, .queue, .proxies, .loss, .sns, .wire, .out] s (execPowerEntry s) := by
  unfold execPowerEntry
  try dsimp only
  with_reducible refine KeepsR.whileCd ?_
  split
  with_reducible exact Keeps.refl _
  with_reducible refine Keeps.ite (fun _ => ?_) (fun _ => ?_)
  with_reducible exact Keeps.refl _
  with_reducible refine Keeps.ite (fun _ => ?_) (fun _ => ?_)
  with_reducible refine (pastAlarm_keeps _).then_ (by decide) (by decide) ?_
  with_reducible exact Keeps.refl _
  with_reducible refine Keeps.ite (fun _ => ?_) (fun _ => ?_)
  with_reducible exact Keeps.refl _
  with_reducible refine (checkTimed_keeps _ _).then_ (by decide) (by decide) ?_
  with_reducible exact Keeps.refl _

theorem execEntryWaitTimeout_keeps (s : State) :
    KeepsR [Reg.PWR_NEXT, Reg.PWR_SAF_ACK, Reg.PWR_STATUS] [.pwr] s (execEntryWaitTimeout s) := by
  unfold execEntryWaitTimeout
  try dsimp only
  with_reducible refine KeepsR.whileCd ?_
  split
  with_reducible exact Keeps.refl _
  with_reducible refine Keeps.ite (fun _ => ?_) (fun _ => ?_)
  with_reducible exact Keeps.refl _
  with_reducible refine Keeps.ite (fun _ => ?_) (fun _ => ?_)
  with_reducible refine (stopEntry_keeps _ _).then_ (by decide) (by decide) ?_
  with_reducible exact Keeps.refl _
  with_reducible refine Keeps.ite (fun _ => ?_) (fun _ => ?_)
  with_reducible refine (stopEntry_keeps _ _).then_ (by decide) (by decide) ?_
  with_reducible exact Keeps.refl _
  with_reducible exact Keeps.refl _

theorem execEntryComplete_keeps (s : State) :
    KeepsR [Reg.CLK_SRC, Reg.CLK_STATUS, Reg.PWR_NEXT, Reg.PWR_SAF_ACK, Reg.PWR_ADAPT, Reg.PWR_STATUS, Reg.PWR_DOM_STATUS, Reg.WAK_REASON, Reg.CHN_BYPASS, Reg.CHN_ATTACH, Reg.PAR_STATE, Reg.PAR_EVT_CNT, Reg.ACT_CLAIM, Reg.ACT_CNT, Reg.HS_STATE, Reg.HB_STATE, Reg.SV_STATE, Reg.SV_KRES, Reg.SV_CNT2, Reg.LED_STATE, Reg.FIO_CAUSE, Reg.SIN_SCHED, Reg.SIN_SNS_CNT, Reg.SIN_STREAMS, Reg.SW_CNT_VAL, Reg.SW_STATUS, Reg.SW_BUF_STATUS, Reg.SW_MSEC_STAT, Reg.SUB_CAN_STAT, Reg.SUB_LIN_STAT, Reg.SUB_CNT2, Reg.INF_CTX_STAT, Reg.INF_CTX_EXEC, Reg.INF_MEM, Reg.STO_WB_STATUS, Reg.SEC_KEY_STATE, Reg.TLY_CNT0] [.memory, .records, .freeCtr, .spar, .dt, .pwr, .owed, .banks, .rng, .rings, .evt, .queue, .chain, .proxies, .act, .chs, .loss, .sns, .sw, .wire, .sub, .inf, .sto, .sec, .out] s (execEntryComplete s) := by
  unfold execEntryComplete
  try dsimp only
  with_reducible refine KeepsR.whileCd ?_
  split
  with_reducible exact Keeps.refl _
  with_reducible refine Keeps.ite (fun _ => ?_) (fun _ => ?_)
  split
  with_reducible refine (wakeNow_keeps _ _ _).then_ (by decide) (by decide) ?_
  with_reducible refine (goTo_keeps _ _).then_ (by decide) (by decide) ?_
  with_reducible refine Keeps.set_pwr (by decide) rfl rfl ?_
  with_reducible refine Keeps.wr (in_PWR_STATUS_ABORT) (by decide) ?_
  with_reducible refine Keeps.wr (in_PWR_SAF_ACK_ACK) (by decide) ?_
  with_reducible refine Keeps.wr (in_PWR_NEXT_NEXT) (by decide) ?_
  with_reducible exact Keeps.refl _
  with_reducible refine (goTo_keeps _ _).then_ (by decide) (by decide) ?_
  with_reducible refine Keeps.set_pwr (by decide) rfl rfl ?_
  with_reducible refine Keeps.wr (in_PWR_STATUS_ABORT) (by decide) ?_
  with_reducible refine Keeps.wr (in_PWR_SAF_ACK_ACK) (by decide) ?_
  with_reducible refine Keeps.wr (in_PWR_NEXT_NEXT) (by decide) ?_
  with_reducible exact Keeps.refl _
  with_reducible exact Keeps.refl _

theorem execDeepAfterTimeout_keeps (s : State) :
    KeepsR [] [.pwr] s (execDeepAfterTimeout s) := by
  unfold execDeepAfterTimeout
  try dsimp only
  with_reducible refine KeepsR.whileCd ?_
  with_reducible refine Keeps.ite (fun _ => ?_) (fun _ => ?_)
  with_reducible refine (beginEntry_keeps _ _ _).then_ (by decide) (by decide) ?_
  with_reducible exact Keeps.refl _
  with_reducible exact Keeps.refl _

theorem execOffAfterTimeout_keeps (s : State) :
    KeepsR [Reg.every] [.memory, .records, .layout, .freeCtr, .latches, .spar, .dt, .pwr, .owed, .banks, .par, .rng, .rings, .evt, .queue, .chain, .proxies, .act, .chs, .scl, .loss, .sns, .sw, .wire, .sub, .brd, .inf, .sto, .sec, .flt, .out] s (execOffAfterTimeout s) := by
  unfold execOffAfterTimeout
  try dsimp only
  with_reducible refine KeepsR.next ?_
  with_reducible refine Keeps.ite (fun _ => ?_) (fun _ => ?_)
  with_reducible refine Keeps.ite (fun _ => ?_) (fun _ => ?_)
  with_reducible refine (acceptWake_keeps _ _ _).then_ (by decide) (by decide) ?_
  with_reducible refine Keeps.wrEvery (by decide) ?_
  with_reducible exact Keeps.refl _
  with_reducible refine (goTo_keeps _ _).then_ (by decide) (by decide) ?_
  with_reducible exact Keeps.refl _
  with_reducible exact Keeps.refl _

end Sys2Proof.Machine
end

