-- ==== Sys2Proof/Laws/Rings.lean ====
section
/-! SUPPORT.
What the operations of Machine/Rings.lean change, and that they keep a sound state sound.
-/

namespace Sys2Proof.Machine

theorem dbBad_keeps (s : State) :
    Keeps [Reg.RNG_CNT] [] s (dbBad s) := by
  unfold dbBad
  try dsimp only
  with_reducible refine Keeps.bump (in_RNG_CNT_DB_BAD) (by decide) ?_
  with_reducible exact Keeps.refl _

theorem ringFaultEvent_keeps (s : State) (p : Nat) (eng : Nat) (ring : Nat) (v : Nat) :
    Keeps [Reg.PAR_EVT_CNT, Reg.RNG_CNT, Reg.SW_CNT_VAL, Reg.SW_MSEC_STAT, Reg.TLY_CNT0] [.records, .owed, .rings, .evt, .queue, .proxies, .loss, .wire, .out] s (ringFaultEvent s p eng ring v) := by
  unfold ringFaultEvent
  try dsimp only
  with_reducible refine (raise_keeps _ _ _ _ _).then_ (by decide) (by decide) ?_
  with_reducible refine (dbBad_keeps _).then_ (by decide) (by decide) ?_
  with_reducible exact Keeps.refl _

theorem producer_keeps (s : State) (p : Nat) (eng : Nat) (ring : Nat) (v : Nat) :
    Keeps [Reg.PAR_EVT_CNT, Reg.RNG_CNT, Reg.SW_CNT_VAL, Reg.SW_MSEC_STAT, Reg.TLY_CNT0] [.records, .owed, .rng, .rings, .evt, .queue, .proxies, .loss, .wire, .out] s (producer s p eng ring v) := by
  unfold producer
  try dsimp only
  with_reducible refine Keeps.ite (fun _ => ?_) (fun _ => ?_)
  with_reducible refine Keeps.ite (fun _ => ?_) (fun _ => ?_)
  with_reducible refine Keeps.set_rng (by decide) rfl rfl ?_
  with_reducible exact Keeps.refl _
  with_reducible refine (dbBad_keeps _).then_ (by decide) (by decide) ?_
  with_reducible exact Keeps.refl _
  with_reducible refine Keeps.ite (fun _ => ?_) (fun _ => ?_)
  with_reducible exact Keeps.refl _
  with_reducible refine Keeps.ite (fun _ => ?_) (fun _ => ?_)
  with_reducible refine Keeps.setIdx (by decide) rfl rfl ?_
  with_reducible exact Keeps.refl _
  with_reducible refine (ringFaultEvent_keeps _ _ _ _ _).then_ (by decide) (by decide) ?_
  with_reducible exact Keeps.refl _

theorem serveBells_keeps (p : Nat) (eng : Nat) (ring : Nat) (s : State) :
    Keeps [Reg.PAR_EVT_CNT, Reg.RNG_CNT, Reg.SW_CNT_VAL, Reg.SW_MSEC_STAT, Reg.TLY_CNT0] [.records, .owed, .rng, .rings, .evt, .queue, .proxies, .loss, .wire, .out] s (serveBells p eng ring s) := by
  unfold serveBells
  try dsimp only
  with_reducible refine Keeps.foldl (fun _ _ => ?_) _ ?_
  with_reducible refine (producer_keeps _ _ _ _ _).then_ (by decide) (by decide) ?_
  with_reducible exact Keeps.refl _
  with_reducible refine Keeps.set_rng (by decide) rfl rfl ?_
  with_reducible exact Keeps.refl _

theorem armRing_keeps (p : Nat) (s : State) (x : Nat × Nat × Ring) :
    Keeps [Reg.PAR_EVT_CNT, Reg.RNG_CNT, Reg.SW_CNT_VAL, Reg.SW_MSEC_STAT, Reg.TLY_CNT0] [.records, .layout, .owed, .rng, .rings, .evt, .queue, .proxies, .loss, .wire, .out] s (armRing p s x) := by
  unfold armRing
  try dsimp only
  with_reducible refine Keeps.ite (fun _ => ?_) (fun _ => ?_)
  with_reducible refine (serveBells_keeps _ _ _ _).then_ (by decide) (by decide) ?_
  with_reducible refine Keeps.setRing (by decide) (by decide) ?_
  with_reducible refine Keeps.ite (fun _ => ?_) (fun _ => ?_)
  with_reducible refine (dropFetches_keeps _ _ _).then_ (by decide) (by decide) ?_
  with_reducible exact Keeps.refl _
  with_reducible exact Keeps.refl _
  with_reducible refine Keeps.setRing (by decide) (by decide) ?_
  with_reducible refine Keeps.ite (fun _ => ?_) (fun _ => ?_)
  with_reducible refine (dropFetches_keeps _ _ _).then_ (by decide) (by decide) ?_
  with_reducible exact Keeps.refl _
  with_reducible exact Keeps.refl _

theorem restored_keeps (s : State) (p : Nat) :
    Keeps [Reg.PAR_EVT_CNT, Reg.SW_CNT_VAL, Reg.SW_MSEC_STAT, Reg.TLY_CNT0] [.records, .spar, .owed, .rings, .evt, .queue, .proxies, .loss, .wire, .out] s (restored s p) := by
  unfold restored
  try dsimp only
  with_reducible refine Keeps.ite (fun _ => ?_) (fun _ => ?_)
  with_reducible refine (raise_keeps _ _ _ _ _).then_ (by decide) (by decide) ?_
  with_reducible refine Keeps.set_spar (by decide) ?_
  with_reducible exact Keeps.refl _
  with_reducible exact Keeps.refl _

theorem armPartition_keeps (s : State) (p : Nat) :
    Keeps [Reg.PAR_STATE, Reg.PAR_EVT_CNT, Reg.RNG_CNT, Reg.SW_CNT_VAL, Reg.SW_MSEC_STAT, Reg.TLY_CNT0] [.records, .layout, .spar, .owed, .rng, .rings, .evt, .queue, .proxies, .loss, .wire, .out] s (armPartition s p) := by
  unfold armPartition
  try dsimp only
  with_reducible refine (restored_keeps _ _).then_ (by decide) (by decide) ?_
  with_reducible refine Keeps.wr (in_PAR_STATE_STATE _) (by decide) ?_
  with_reducible refine Keeps.set_rng_layout (by decide) (by decide) rfl ?_
  with_reducible refine Keeps.foldl (fun _ _ => ?_) _ ?_
  with_reducible refine (armRing_keeps _ _ _).then_ (by decide) (by decide) ?_
  with_reducible exact Keeps.refl _
  with_reducible exact Keeps.refl _

theorem busyNow_keeps (s : State) :
    Keeps [Reg.RNG_STATUS] [.rng] s (busyNow s) := by
  unfold busyNow
  try dsimp only
  with_reducible refine Keeps.put (in_RNG_STATUS_BUSY) (by decide) ?_
  with_reducible refine Keeps.set_rng (by decide) rfl rfl ?_
  with_reducible exact Keeps.refl _

theorem execArmPart_keeps (w : Writer) (s0 : State) :
    KeepsR [Reg.PAR_SEAL_STATUS, Reg.PAR_STATE, Reg.PAR_EVT_CNT, Reg.RNG_BASE, Reg.RNG_CFG, Reg.RNG_SHADOW, Reg.RNG_STATUS, Reg.RNG_IDX, Reg.RNG_IDX2, Reg.RNG_CNT, Reg.SW_CNT_VAL, Reg.SW_MSEC_STAT, Reg.TLY_CNT0] [.records, .layout, .spar, .owed, .rng, .rings, .evt, .queue, .proxies, .loss, .wire, .out] s0 (execArmPart w s0) := by
  unfold execArmPart
  try dsimp only
  with_reducible refine KeepsR.whileCd ?_
  with_reducible refine Keeps.ite (fun _ => ?_) (fun _ => ?_)
  with_reducible refine (violate_keeps _).then_ (by decide) (by decide) ?_
  with_reducible exact Keeps.refl _
  with_reducible refine Keeps.ite (fun _ => ?_) (fun _ => ?_)
  with_reducible refine (dbBad_keeps _).then_ (by decide) (by decide) ?_
  with_reducible exact Keeps.refl _
  with_reducible refine Keeps.ite (fun _ => ?_) (fun _ => ?_)
  with_reducible refine (ringResult_keeps _ _).then_ (by decide) (by decide) ?_
  with_reducible refine (busyNow_keeps _).then_ (by decide) (by decide) ?_
  with_reducible exact Keeps.refl _
  with_reducible refine Keeps.ite (fun _ => ?_) (fun _ => ?_)
  with_reducible refine (ringResult_keeps _ _).then_ (by decide) (by decide) ?_
  with_reducible refine (busyNow_keeps _).then_ (by decide) (by decide) ?_
  with_reducible exact Keeps.refl _
  split
  with_reducible refine (ringResult_keeps _ _).then_ (by decide) (by decide) ?_
  with_reducible refine (busyNow_keeps _).then_ (by decide) (by decide) ?_
  with_reducible exact Keeps.refl _
  with_reducible refine (showRing_keeps _).then_ (by decide) (by decide) ?_
  with_reducible refine (ringResult_keeps _ _).then_ (by decide) (by decide) ?_
  with_reducible refine (armPartition_keeps _ _).then_ (by decide) (by decide) ?_
  with_reducible refine (busyNow_keeps _).then_ (by decide) (by decide) ?_
  with_reducible exact Keeps.refl _

theorem execArmEngine_keeps (w : Writer) (s0 : State) :
    KeepsR [Reg.PAR_SEAL_STATUS, Reg.PAR_EVT_CNT, Reg.RNG_BASE, Reg.RNG_CFG, Reg.RNG_SHADOW, Reg.RNG_STATUS, Reg.RNG_IDX, Reg.RNG_IDX2, Reg.RNG_CNT, Reg.SW_CNT_VAL, Reg.SW_MSEC_STAT, Reg.TLY_CNT0] [.records, .layout, .owed, .rng, .rings, .evt, .queue, .proxies, .loss, .wire, .out] s0 (execArmEngine w s0) := by
  unfold execArmEngine
  try dsimp only
  with_reducible refine KeepsR.whileCd ?_
  with_reducible refine Keeps.ite (fun _ => ?_) (fun _ => ?_)
  with_reducible refine (violate_keeps _).then_ (by decide) (by decide) ?_
  with_reducible exact Keeps.refl _
  with_reducible refine Keeps.ite (fun _ => ?_) (fun _ => ?_)
  with_reducible refine (dbBad_keeps _).then_ (by decide) (by decide) ?_
  with_reducible exact Keeps.refl _
  with_reducible refine Keeps.ite (fun _ => ?_) (fun _ => ?_)
  with_reducible refine (ringResult_keeps _ _).then_ (by decide) (by decide) ?_
  with_reducible refine (busyNow_keeps _).then_ (by decide) (by decide) ?_
  with_reducible exact Keeps.refl _
  with_reducible refine Keeps.ite (fun _ => ?_) (fun _ => ?_)
  with_reducible refine (ringResult_keeps _ _).then_ (by decide) (by decide) ?_
  with_reducible refine (busyNow_keeps _).then_ (by decide) (by decide) ?_
  with_reducible exact Keeps.refl _
  split
  with_reducible refine (ringResult_keeps _ _).then_ (by decide) (by decide) ?_
  with_reducible refine (busyNow_keeps _).then_ (by decide) (by decide) ?_
  with_reducible exact Keeps.refl _
  with_reducible refine (showRing_keeps _).then_ (by decide) (by decide) ?_
  with_reducible refine (ringResult_keeps _ _).then_ (by decide) (by decide) ?_
  with_reducible refine Keeps.foldl (fun _ _ => ?_) _ ?_
  with_reducible refine (armRing_keeps _ _ _).then_ (by decide) (by decide) ?_
  with_reducible exact Keeps.refl _
  with_reducible refine (busyNow_keeps _).then_ (by decide) (by decide) ?_
  with_reducible exact Keeps.refl _

theorem execEngineReset_keeps (w : Writer) (s : State) :
    KeepsR [Reg.PAR_SEAL_STATUS, Reg.PAR_EVT_CNT, Reg.RNG_BASE, Reg.RNG_CFG, Reg.RNG_SHADOW, Reg.RNG_STATUS, Reg.RNG_IDX, Reg.RNG_IDX2, Reg.SIN_SCHED, Reg.SIN_STREAMS, Reg.SW_CNT_VAL, Reg.SW_MSEC_STAT, Reg.INF_CTX_STAT, Reg.INF_CTX_EXEC, Reg.INF_CH_STAT, Reg.INF_MEM, Reg.STO_WB_STATUS, Reg.TLY_CNT0] [.records, .layout, .freeCtr, .owed, .rng, .rings, .evt, .queue, .proxies, .act, .chs, .loss, .sns, .sw, .wire, .sub, .inf, .sto, .sec, .out] s (execEngineReset w s) := by
  unfold execEngineReset
  try dsimp only
  with_reducible refine KeepsR.whileCd ?_
  with_reducible refine Keeps.ite (fun _ => ?_) (fun _ => ?_)
  with_reducible refine (violate_keeps _).then_ (by decide) (by decide) ?_
  with_reducible exact Keeps.refl _
  with_reducible refine Keeps.ite (fun _ => ?_) (fun _ => ?_)
  with_reducible refine Keeps.set_rng (by decide) rfl rfl ?_
  with_reducible exact Keeps.refl _
  with_reducible refine (resetEngine_keeps _ _).then_ (by decide) (by decide) ?_
  with_reducible exact Keeps.refl _

theorem consumer_keeps (s : State) (p : Nat) (eng : Nat) (ring : Nat) (v : Nat) :
    Keeps [Reg.PAR_EVT_CNT, Reg.RNG_CNT, Reg.SW_CNT_VAL, Reg.SW_MSEC_STAT, Reg.TLY_CNT0] [.records, .owed, .rings, .evt, .queue, .proxies, .loss, .wire, .out] s (consumer s p eng ring v) := by
  unfold consumer
  try dsimp only
  with_reducible refine Keeps.ite (fun _ => ?_) (fun _ => ?_)
  with_reducible refine (dbBad_keeps _).then_ (by decide) (by decide) ?_
  with_reducible exact Keeps.refl _
  with_reducible refine Keeps.ite (fun _ => ?_) (fun _ => ?_)
  with_reducible refine Keeps.setIdx (by decide) rfl rfl ?_
  with_reducible exact Keeps.refl _
  with_reducible refine (ringFaultEvent_keeps _ _ _ _ _).then_ (by decide) (by decide) ?_
  with_reducible exact Keeps.refl _

theorem execProducerDoorbell_keeps (w : Writer) (part : Fin 8) (eng : Fin 7) (ring : Fin 4) (v : Word) (s : State) :
    KeepsR [Reg.PAR_EVT_CNT, Reg.RNG_CNT, Reg.SW_CNT_VAL, Reg.SW_MSEC_STAT, Reg.TLY_CNT0] [.records, .owed, .rng, .rings, .evt, .queue, .proxies, .loss, .wire, .out] s (execProducerDoorbell w part eng ring v s) := by
  unfold execProducerDoorbell
  try dsimp only
  with_reducible refine KeepsR.whileCd ?_
  with_reducible refine Keeps.ite (fun _ => ?_) (fun _ => ?_)
  with_reducible refine (producer_keeps _ _ _ _ _).then_ (by decide) (by decide) ?_
  with_reducible exact Keeps.refl _
  with_reducible refine (dbBad_keeps _).then_ (by decide) (by decide) ?_
  with_reducible exact Keeps.refl _

theorem execCompletionDoorbell_keeps (w : Writer) (part : Fin 8) (eng : Fin 7) (v : Word) (s : State) :
    KeepsR [Reg.PAR_EVT_CNT, Reg.RNG_CNT, Reg.SW_CNT_VAL, Reg.SW_MSEC_STAT, Reg.TLY_CNT0] [.records, .owed, .rings, .evt, .queue, .proxies, .loss, .wire, .out] s (execCompletionDoorbell w part eng v s) := by
  unfold execCompletionDoorbell
  try dsimp only
  with_reducible refine KeepsR.whileCd ?_
  with_reducible refine Keeps.ite (fun _ => ?_) (fun _ => ?_)
  with_reducible refine (consumer_keeps _ _ _ _ _).then_ (by decide) (by decide) ?_
  with_reducible exact Keeps.refl _
  with_reducible refine (dbBad_keeps _).then_ (by decide) (by decide) ?_
  with_reducible exact Keeps.refl _

theorem execEventDoorbell_keeps (w : Writer) (part : Fin 8) (v : Word) (s : State) :
    KeepsR [Reg.PAR_EVT_CNT, Reg.RNG_CNT, Reg.SW_CNT_VAL, Reg.SW_MSEC_STAT, Reg.TLY_CNT0] [.records, .owed, .rings, .evt, .queue, .proxies, .loss, .wire, .out] s (execEventDoorbell w part v s) := by
  unfold execEventDoorbell
  try dsimp only
  with_reducible refine KeepsR.whileCd ?_
  with_reducible refine Keeps.ite (fun _ => ?_) (fun _ => ?_)
  with_reducible refine (consumer_keeps _ _ _ _ _).then_ (by decide) (by decide) ?_
  with_reducible exact Keeps.refl _
  with_reducible refine (dbBad_keeps _).then_ (by decide) (by decide) ?_
  with_reducible exact Keeps.refl _

theorem dropFetched_keeps (s : State) (p : Nat) (eng : Nat) (ring : Nat) (idx : Nat) :
    Keeps [] [.proxies] s (dropFetched s p eng ring idx) := by
  unfold dropFetched
  try dsimp only
  with_reducible refine (setProxy_keeps _ _ _).then_ (by decide) (by decide) ?_
  with_reducible exact Keeps.refl _

theorem takeSlot_keeps (s : State) (p : Nat) (eng : Nat) (ring : Nat) :
    Keeps [Reg.SW_CNT_VAL, Reg.SW_MSEC_STAT] [.records, .rings, .proxies, .wire, .out] s (takeSlot s p eng ring) := by
  unfold takeSlot
  try dsimp only
  with_reducible refine (shadowPut_keeps _ _ _ _).then_ (by decide) (by decide) ?_
  split
  with_reducible refine Keeps.setIdx (by decide) rfl rfl ?_
  with_reducible refine (dropFetched_keeps _ _ _ _ _).then_ (by decide) (by decide) ?_
  with_reducible exact Keeps.refl _
  with_reducible refine Keeps.setIdx (by decide) rfl rfl ?_
  with_reducible exact Keeps.refl _

theorem execDescriptorAccept_keeps (part : Fin 8) (eng : Fin 7) (ring : Fin 4) (s : State) :
    KeepsR [Reg.PAR_FAULT, Reg.PAR_EVT_CNT, Reg.SW_CNT_VAL, Reg.SW_MSEC_STAT, Reg.TLY_CNT0] [.records, .owed, .rng, .rings, .evt, .queue, .proxies, .loss, .wire, .out] s (execDescriptorAccept part eng ring s) := by
  unfold execDescriptorAccept
  try dsimp only
  with_reducible refine KeepsR.whileCd ?_
  with_reducible refine Keeps.ite (fun _ => ?_) (fun _ => ?_)
  with_reducible exact Keeps.refl _
  split
  with_reducible exact Keeps.refl _
  with_reducible refine Keeps.ite (fun _ => ?_) (fun _ => ?_)
  with_reducible exact Keeps.refl _
  with_reducible refine Keeps.ite (fun _ => ?_) (fun _ => ?_)
  with_reducible refine (finish_keeps _ _ _ _ _ _).then_ (by decide) (by decide) ?_
  with_reducible refine (windowFault_keeps _ _ _ _ _).then_ (by decide) (by decide) ?_
  with_reducible refine Keeps.set_rng (by decide) rfl rfl ?_
  with_reducible refine (takeSlot_keeps _ _ _ _).then_ (by decide) (by decide) ?_
  with_reducible exact Keeps.refl _
  split
  with_reducible refine (finish_keeps _ _ _ _ _ _).then_ (by decide) (by decide) ?_
  with_reducible refine Keeps.set_rng (by decide) rfl rfl ?_
  with_reducible refine (takeSlot_keeps _ _ _ _).then_ (by decide) (by decide) ?_
  with_reducible exact Keeps.refl _
  with_reducible refine Keeps.set_rng (by decide) rfl rfl ?_
  with_reducible refine (takeSlot_keeps _ _ _ _).then_ (by decide) (by decide) ?_
  with_reducible exact Keeps.refl _

theorem execRingStall_keeps (part : Fin 8) (eng : Fin 7) (ring : Fin 4) (s : State) :
    KeepsR [Reg.PAR_EVT_CNT, Reg.RNG_CNT, Reg.SW_CNT_VAL, Reg.SW_MSEC_STAT, Reg.TLY_CNT0] [.records, .owed, .rng, .rings, .evt, .queue, .proxies, .loss, .wire, .out] s (execRingStall part eng ring s) := by
  unfold execRingStall
  try dsimp only
  with_reducible refine KeepsR.whileCd ?_
  with_reducible refine Keeps.ite (fun _ => ?_) (fun _ => ?_)
  with_reducible exact Keeps.refl _
  with_reducible refine (raise_keeps _ _ _ _ _).then_ (by decide) (by decide) ?_
  with_reducible refine Keeps.bump (in_RNG_CNT_STALLS) (by decide) ?_
  with_reducible refine Keeps.set_rng (by decide) rfl rfl ?_
  with_reducible exact Keeps.refl _

theorem execNop_keeps (h : DHdr) (eng : Fin 7) (b : List Byte) (s : State) :
    KeepsR [Reg.SW_CNT_VAL, Reg.SW_MSEC_STAT] [.records, .owed, .rng, .rings, .proxies, .wire, .out] s (execNop h eng b s) := by
  unfold execNop
  try dsimp only
  with_reducible refine descr_keeps (by decide) (fun _ => ?_)
  with_reducible refine (complete_keeps _ _ _ _ _ _).then_ (by decide) (by decide) ?_
  with_reducible exact Keeps.refl _

theorem execCancel_keeps (h : DHdr) (eng : Fin 7) (b : List Byte) (s : State) :
    KeepsR [Reg.SW_CNT_VAL, Reg.SW_MSEC_STAT] [.records, .owed, .rng, .rings, .proxies, .wire, .out] s (execCancel h eng b s) := by
  unfold execCancel
  try dsimp only
  with_reducible refine descr_keeps (by decide) (fun _ => ?_)
  with_reducible refine Keeps.ite (fun _ => ?_) (fun _ => ?_)
  with_reducible refine (complete_keeps _ _ _ _ _ _).then_ (by decide) (by decide) ?_
  with_reducible exact Keeps.refl _
  with_reducible refine Keeps.ite (fun _ => ?_) (fun _ => ?_)
  with_reducible refine (complete_keeps _ _ _ _ _ _).then_ (by decide) (by decide) ?_
  with_reducible exact Keeps.refl _
  with_reducible refine (complete_keeps _ _ _ _ _ _).then_ (by decide) (by decide) ?_
  with_reducible refine Keeps.foldl (fun _ _ => ?_) _ ?_
  with_reducible refine (cancelWork_keeps _ _).then_ (by decide) (by decide) ?_
  with_reducible exact Keeps.refl _
  with_reducible exact Keeps.refl _

end Sys2Proof.Machine
end

