-- ==== Sys2Proof/Laws/Switch.lean ====
section
/-! SUPPORT.
What the operations of Machine/Switch.lean change, and that they keep a sound state sound.
-/

namespace Sys2Proof.Machine

theorem msecVerify_keeps (s : State) (p : Nat) (f : List Byte) :
    Keeps [] [.sw] s (msecVerify s p f).2 := by
  unfold msecVerify
  try dsimp only
  split
  with_reducible exact Keeps.refl _
  split
  split
  with_reducible exact Keeps.refl _
  with_reducible exact Keeps.refl _
  split
  with_reducible exact Keeps.refl _
  split
  with_reducible exact Keeps.refl _
  split
  with_reducible exact Keeps.refl _
  split
  split
  with_reducible exact Keeps.refl _
  with_reducible refine Keeps.rebuilt ?_ ?_ ?_
  · with_reducible exact .inr ⟨rfl, rfl, rfl⟩
  · with_reducible exact ⟨.inr rfl, .inr rfl, .inr rfl, .inr rfl, .inr rfl, .inr rfl, .inr rfl, .inr rfl, .inr rfl, .inr rfl, .inr rfl, .inr rfl, .inr rfl, .inr rfl, .inr ⟨rfl, rfl, rfl⟩, .inr rfl, .inr ⟨rfl, rfl⟩, .inr rfl, .inr rfl, .inr rfl, .inr ⟨rfl, rfl⟩, .inr rfl, .inl (by decide), .inr ⟨rfl, rfl, rfl⟩, .inr rfl, .inr rfl, .inr rfl, .inr rfl, .inr rfl, .inr rfl, .inr rfl, .inr rfl⟩
  with_reducible exact Keeps.refl _
  split
  with_reducible exact Keeps.refl _
  with_reducible refine Keeps.rebuilt ?_ ?_ ?_
  · with_reducible exact .inr ⟨rfl, rfl, rfl⟩
  · with_reducible exact ⟨.inr rfl, .inr rfl, .inr rfl, .inr rfl, .inr rfl, .inr rfl, .inr rfl, .inr rfl, .inr rfl, .inr rfl, .inr rfl, .inr rfl, .inr rfl, .inr rfl, .inr ⟨rfl, rfl, rfl⟩, .inr rfl, .inr ⟨rfl, rfl⟩, .inr rfl, .inr rfl, .inr rfl, .inr ⟨rfl, rfl⟩, .inr rfl, .inl (by decide), .inr ⟨rfl, rfl, rfl⟩, .inr rfl, .inr rfl, .inr rfl, .inr rfl, .inr rfl, .inr rfl, .inr rfl, .inr rfl⟩
  with_reducible exact Keeps.refl _

theorem msecProtect_keeps (s : State) (p : Nat) (f : List Byte) :
    Keeps [Reg.PAR_EVT_CNT, Reg.SW_CNT_VAL, Reg.SW_MSEC_STAT, Reg.TLY_CNT0] [.records, .owed, .rings, .evt, .queue, .proxies, .loss, .wire, .out] s (msecProtect s p f).2 := by
  unfold msecProtect
  try dsimp only
  split
  with_reducible exact Keeps.refl _
  with_reducible refine Keeps.ite (fun _ => ?_) (fun _ => ?_)
  with_reducible refine (raise_keeps _ _ _ _ _).then_ (by decide) (by decide) ?_
  with_reducible refine (msecSeal_keeps _ _ _).then_ (by decide) (by decide) ?_
  with_reducible exact Keeps.refl _
  with_reducible refine (msecSeal_keeps _ _ _).then_ (by decide) (by decide) ?_
  with_reducible exact Keeps.refl _

theorem showTable_keeps (s : State) :
    Keeps [Reg.SW_STATUS] [] s (showTable s) := by
  unfold showTable
  try dsimp only
  with_reducible refine Keeps.wr (in_SW_STATUS_STATIC_CNT) (by decide) ?_
  with_reducible refine Keeps.wr (in_SW_STATUS_ENTRIES) (by decide) ?_
  with_reducible exact Keeps.refl _

theorem setEnt_keeps (s : State) (i : Nat) (e : Option TblEnt) :
    Keeps [Reg.SW_STATUS] [.sw] s (setEnt s i e) := by
  unfold setEnt
  try dsimp only
  with_reducible refine (showTable_keeps _).then_ (by decide) (by decide) ?_
  with_reducible refine Keeps.set_sw (by decide) ⟨rfl, rfl, rfl⟩ ?_
  with_reducible exact Keeps.refl _

theorem moveEnt_keeps (s : State) (i : Nat) (e : TblEnt) (port : Nat) :
    Keeps [Reg.PAR_EVT_CNT, Reg.SW_CNT_VAL, Reg.SW_STATUS, Reg.SW_MSEC_STAT, Reg.TLY_CNT0] [.records, .owed, .rings, .evt, .queue, .proxies, .loss, .sw, .wire, .out] s (moveEnt s i e port) := by
  unfold moveEnt
  try dsimp only
  with_reducible refine Keeps.ite (fun _ => ?_) (fun _ => ?_)
  with_reducible refine (raise_keeps _ _ _ _ _).then_ (by decide) (by decide) ?_
  with_reducible refine Keeps.set_sw (by decide) ⟨rfl, rfl, rfl⟩ ?_
  with_reducible refine (swCount_keeps _ _ _ _ _).then_ (by decide) (by decide) ?_
  with_reducible refine (setEnt_keeps _ _ _).then_ (by decide) (by decide) ?_
  with_reducible exact Keeps.refl _
  with_reducible refine (swCount_keeps _ _ _ _ _).then_ (by decide) (by decide) ?_
  with_reducible refine (setEnt_keeps _ _ _).then_ (by decide) (by decide) ?_
  with_reducible exact Keeps.refl _

theorem insertFull_keeps (s : State) (pol : Nat) (x : TblEnt) :
    Keeps [Reg.SW_CNT_VAL, Reg.SW_STATUS] [.freeCtr, .sw, .wire] s (insertFull s pol x) := by
  unfold insertFull
  try dsimp only
  split
  with_reducible refine (setEnt_keeps _ _ _).then_ (by decide) (by decide) ?_
  with_reducible refine (swCount_keeps _ _ _ _ _).then_ (by decide) (by decide) ?_
  with_reducible exact Keeps.refl _
  with_reducible refine (setEnt_keeps _ _ _).then_ (by decide) (by decide) ?_
  with_reducible refine (freeNext_keeps _).then_ (by decide) (by decide) ?_
  with_reducible refine (swCount_keeps _ _ _ _ _).then_ (by decide) (by decide) ?_
  with_reducible exact Keeps.refl _
  with_reducible refine (swCount_keeps _ _ _ _ _).then_ (by decide) (by decide) ?_
  with_reducible exact Keeps.refl _

theorem learnSa_keeps (s : State) (port : Nat) (vid : Nat) (sa : Nat) :
    Keeps [Reg.PAR_EVT_CNT, Reg.SW_CNT_VAL, Reg.SW_STATUS, Reg.SW_MSEC_STAT, Reg.TLY_CNT0] [.records, .freeCtr, .owed, .rings, .evt, .queue, .proxies, .loss, .sw, .wire, .out] s (learnSa s port vid sa) := by
  unfold learnSa
  try dsimp only
  with_reducible refine Keeps.ite (fun _ => ?_) (fun _ => ?_)
  with_reducible exact Keeps.refl _
  split
  with_reducible refine Keeps.ite (fun _ => ?_) (fun _ => ?_)
  with_reducible refine (setEnt_keeps _ _ _).then_ (by decide) (by decide) ?_
  with_reducible exact Keeps.refl _
  with_reducible refine Keeps.ite (fun _ => ?_) (fun _ => ?_)
  with_reducible refine (swCount_keeps _ _ _ _ _).then_ (by decide) (by decide) ?_
  with_reducible exact Keeps.refl _
  with_reducible refine (moveEnt_keeps _ _ _ _).then_ (by decide) (by decide) ?_
  with_reducible exact Keeps.refl _
  split
  with_reducible refine (setEnt_keeps _ _ _).then_ (by decide) (by decide) ?_
  with_reducible exact Keeps.refl _
  with_reducible refine (insertFull_keeps _ _ _).then_ (by decide) (by decide) ?_
  with_reducible exact Keeps.refl _

theorem admitPort_keeps (s : State) (k : Plan) (port : Nat) :
    KeepsO [Reg.SW_BUF_STATUS] [.sw] s (admitPort s k port) := by
  intro t ht
  unfold admitPort at ht
  simp only [Option.map_eq_some_iff] at ht
  obtain ⟨_, _, rfl⟩ := ht
  exact (setQueue_keeps _ _ _ _).then_ (by decide) (by decide) (Keeps.refl _)

theorem copyTo_keeps (k : Plan) (s : State) (port : Nat) :
    Keeps [Reg.SW_CNT_VAL, Reg.SW_BUF_STATUS] [.loss, .sw, .wire] s (copyTo k s port) := by
  unfold copyTo
  try dsimp only
  with_reducible refine Keeps.ite (fun _ => ?_) (fun _ => ?_)
  with_reducible refine (swCount_keeps _ _ _ _ _).then_ (by decide) (by decide) ?_
  with_reducible exact Keeps.refl _
  split
  with_reducible refine (admitPort_keeps _ _ _ _ (by assumption)).then_ (by decide) (by decide) ?_
  with_reducible exact Keeps.refl _
  with_reducible refine (swDrop_keeps _ _ _ _ _ _).then_ (by decide) (by decide) ?_
  with_reducible exact Keeps.refl _

theorem endTx_keeps (s : State) (w : TxWait) (st : Nat) :
    Keeps [Reg.SW_CNT_VAL, Reg.SW_MSEC_STAT] [.records, .owed, .rng, .rings, .proxies, .sw, .wire, .out] s (endTx s w st) := by
  unfold endTx
  try dsimp only
  with_reducible refine (complete_keeps _ _ _ _ _ _).then_ (by decide) (by decide) ?_
  with_reducible refine Keeps.set_sw (by decide) ⟨rfl, rfl, rfl⟩ ?_
  with_reducible exact Keeps.refl _

theorem sendCopy_keeps (k : Plan) (w : TxWait × State) (port : Nat) :
    Keeps [Reg.SW_CNT_VAL, Reg.SW_BUF_STATUS, Reg.SW_MSEC_STAT] [Part.records, .owed, .rng, .rings, .proxies, .sw, .wire, .out] w.2 (sendCopy k w port).2 := by
  unfold sendCopy
  dsimp only
  split
  · exact (swCount_keeps _ _ _ _ _).then_ (by decide) (by decide) (Keeps.refl _)
  · split
    · exact (admitPort_keeps _ _ _ _ (by assumption)).then_ (by decide) (by decide) (Keeps.refl _)
    · exact Keeps.refl _

theorem sendCopies_keeps (k : Plan) (l : List Nat) (w : TxWait × State) :
    Keeps [Reg.SW_CNT_VAL, Reg.SW_BUF_STATUS, Reg.SW_MSEC_STAT] [Part.records, .owed, .rng, .rings, .proxies, .sw, .wire, .out] w.2 (l.foldl (sendCopy k) w).2 := by
  induction l generalizing w with
  | nil => exact Keeps.refl _
  | cons x xs ih => exact (sendCopy_keeps k w x).trans (ih _)

theorem pushTx_keeps (s : State) (w : TxWait) :
    Keeps [Reg.SW_CNT_VAL, Reg.SW_BUF_STATUS, Reg.SW_MSEC_STAT] [Part.records, .owed, .rng, .rings, .proxies, .sw, .wire, .out] s (pushTx s w) := by
  unfold pushTx
  dsimp only
  with_reducible refine Keeps.ite (fun _ => ?_) (fun _ => ?_)
  with_reducible refine (endTx_keeps _ _ _).then_ (by decide) (by decide) ?_
  with_reducible refine Keeps.set_sw (by decide) ⟨rfl, rfl, rfl⟩ ?_
  with_reducible exact sendCopies_keeps _ _ (_, _)
  with_reducible refine Keeps.set_sw (by decide) ⟨rfl, rfl, rfl⟩ ?_
  with_reducible exact sendCopies_keeps _ _ (_, _)

theorem retryTx_keeps (s : State) :
    Keeps [Reg.SW_CNT_VAL, Reg.SW_BUF_STATUS, Reg.SW_MSEC_STAT] [.records, .owed, .rng, .rings, .proxies, .sw, .wire, .out] s (retryTx s) := by
  unfold retryTx
  try dsimp only
  with_reducible refine Keeps.foldl (fun _ _ => ?_) _ ?_
  with_reducible refine (pushTx_keeps _ _).then_ (by decide) (by decide) ?_
  with_reducible exact Keeps.refl _
  with_reducible exact Keeps.refl _

theorem route_keeps (s : State) (port : Nat) (f : List Byte) (rflags : Nat) :
    Keeps [Reg.PAR_EVT_CNT, Reg.SW_CNT_VAL, Reg.SW_STATUS, Reg.SW_MSEC_STAT, Reg.TLY_CNT0] [.records, .freeCtr, .owed, .rings, .evt, .queue, .proxies, .loss, .sw, .wire, .out] s (route s port f rflags).1 := by
  unfold route
  try dsimp only
  split
  with_reducible refine (swCount_keeps _ _ _ _ _).then_ (by decide) (by decide) ?_
  with_reducible exact Keeps.refl _
  split
  with_reducible refine (swCount_keeps _ _ _ _ _).then_ (by decide) (by decide) ?_
  with_reducible exact Keeps.refl _
  with_reducible exact Keeps.refl _
  split
  with_reducible refine (swCount_keeps _ _ _ _ _).then_ (by decide) (by decide) ?_
  with_reducible exact Keeps.refl _
  split
  with_reducible refine (swCount_keeps _ _ _ _ _).then_ (by decide) (by decide) ?_
  with_reducible refine (learnSa_keeps _ _ _ _).then_ (by decide) (by decide) ?_
  with_reducible refine Keeps.ite (fun _ => ?_) (fun _ => ?_)
  with_reducible refine (swCount_keeps _ _ _ _ _).then_ (by decide) (by decide) ?_
  with_reducible refine Keeps.ite (fun _ => ?_) (fun _ => ?_)
  with_reducible refine (swCount_keeps _ _ _ _ _).then_ (by decide) (by decide) ?_
  with_reducible exact Keeps.refl _
  with_reducible exact Keeps.refl _
  with_reducible refine Keeps.ite (fun _ => ?_) (fun _ => ?_)
  with_reducible refine (swCount_keeps _ _ _ _ _).then_ (by decide) (by decide) ?_
  with_reducible exact Keeps.refl _
  with_reducible exact Keeps.refl _
  split
  with_reducible refine (swCount_keeps _ _ _ _ _).then_ (by decide) (by decide) ?_
  with_reducible refine (learnSa_keeps _ _ _ _).then_ (by decide) (by decide) ?_
  with_reducible refine Keeps.ite (fun _ => ?_) (fun _ => ?_)
  with_reducible refine (swCount_keeps _ _ _ _ _).then_ (by decide) (by decide) ?_
  with_reducible refine Keeps.ite (fun _ => ?_) (fun _ => ?_)
  with_reducible refine (swCount_keeps _ _ _ _ _).then_ (by decide) (by decide) ?_
  with_reducible exact Keeps.refl _
  with_reducible exact Keeps.refl _
  with_reducible refine Keeps.ite (fun _ => ?_) (fun _ => ?_)
  with_reducible refine (swCount_keeps _ _ _ _ _).then_ (by decide) (by decide) ?_
  with_reducible exact Keeps.refl _
  with_reducible exact Keeps.refl _
  with_reducible refine Keeps.ite (fun _ => ?_) (fun _ => ?_)
  with_reducible refine (swCount_keeps _ _ _ _ _).then_ (by decide) (by decide) ?_
  with_reducible refine (learnSa_keeps _ _ _ _).then_ (by decide) (by decide) ?_
  with_reducible refine Keeps.ite (fun _ => ?_) (fun _ => ?_)
  with_reducible refine (swCount_keeps _ _ _ _ _).then_ (by decide) (by decide) ?_
  with_reducible refine Keeps.ite (fun _ => ?_) (fun _ => ?_)
  with_reducible refine (swCount_keeps _ _ _ _ _).then_ (by decide) (by decide) ?_
  with_reducible exact Keeps.refl _
  with_reducible exact Keeps.refl _
  with_reducible refine Keeps.ite (fun _ => ?_) (fun _ => ?_)
  with_reducible refine (swCount_keeps _ _ _ _ _).then_ (by decide) (by decide) ?_
  with_reducible exact Keeps.refl _
  with_reducible exact Keeps.refl _
  with_reducible refine (learnSa_keeps _ _ _ _).then_ (by decide) (by decide) ?_
  with_reducible refine Keeps.ite (fun _ => ?_) (fun _ => ?_)
  with_reducible refine (swCount_keeps _ _ _ _ _).then_ (by decide) (by decide) ?_
  with_reducible refine Keeps.ite (fun _ => ?_) (fun _ => ?_)
  with_reducible refine (swCount_keeps _ _ _ _ _).then_ (by decide) (by decide) ?_
  with_reducible exact Keeps.refl _
  with_reducible exact Keeps.refl _
  with_reducible refine Keeps.ite (fun _ => ?_) (fun _ => ?_)
  with_reducible refine (swCount_keeps _ _ _ _ _).then_ (by decide) (by decide) ?_
  with_reducible exact Keeps.refl _
  with_reducible exact Keeps.refl _

theorem bypassFrame_keeps (s : State) (port : Nat) (f : List Byte) :
    Keeps [] [.out] s (bypassFrame s port f) := by
  unfold bypassFrame
  try dsimp only
  split
  with_reducible refine Keeps.ite (fun _ => ?_) (fun _ => ?_)
  with_reducible refine Keeps.ite (fun _ => ?_) (fun _ => ?_)
  with_reducible refine (emit_keeps _ _).then_ (by decide) (by decide) ?_
  with_reducible exact Keeps.refl _
  with_reducible exact Keeps.refl _
  with_reducible refine (emit_keeps _ _).then_ (by decide) (by decide) ?_
  with_reducible refine Keeps.ite (fun _ => ?_) (fun _ => ?_)
  with_reducible refine (emit_keeps _ _).then_ (by decide) (by decide) ?_
  with_reducible exact Keeps.refl _
  with_reducible exact Keeps.refl _
  with_reducible refine (emit_keeps _ _).then_ (by decide) (by decide) ?_
  with_reducible exact Keeps.refl _

theorem execFrameReceive_keeps (port : Fin 6) (frame : List Byte) (fcsOk : Bool) (s : State) :
    KeepsR [Reg.PAR_EVT_CNT, Reg.SW_CNT_VAL, Reg.SW_STATUS, Reg.SW_BUF_STATUS, Reg.SW_MSEC_STAT, Reg.TLY_CNT0] [.records, .freeCtr, .owed, .rings, .evt, .queue, .proxies, .loss, .sw, .wire, .out] s (execFrameReceive port frame fcsOk s) := by
  unfold execFrameReceive
  try dsimp only
  with_reducible refine KeepsR.next ?_
  with_reducible refine Keeps.ite (fun _ => ?_) (fun _ => ?_)
  with_reducible refine (bypassFrame_keeps _ _ _).then_ (by decide) (by decide) ?_
  with_reducible exact Keeps.refl _
  with_reducible refine Keeps.ite (fun _ => ?_) (fun _ => ?_)
  with_reducible exact Keeps.refl _
  with_reducible refine Keeps.ite (fun _ => ?_) (fun _ => ?_)
  with_reducible refine (swCount_keeps _ _ _ _ _).then_ (by decide) (by decide) ?_
  with_reducible refine (swCount_keeps _ _ _ _ _).then_ (by decide) (by decide) ?_
  with_reducible refine (swCount_keeps _ _ _ _ _).then_ (by decide) (by decide) ?_
  with_reducible exact Keeps.refl _
  split
  with_reducible refine (swCount_keeps _ _ _ _ _).then_ (by decide) (by decide) ?_
  with_reducible refine Keeps.ofSnd (by assumption) ?_
  split
  with_reducible refine (msecVerify_keeps _ _ _).then_ (by decide) (by decide) ?_
  with_reducible refine (swCount_keeps _ _ _ _ _).then_ (by decide) (by decide) ?_
  with_reducible refine (swCount_keeps _ _ _ _ _).then_ (by decide) (by decide) ?_
  with_reducible exact Keeps.refl _
  with_reducible refine (swCount_keeps _ _ _ _ _).then_ (by decide) (by decide) ?_
  with_reducible refine (swCount_keeps _ _ _ _ _).then_ (by decide) (by decide) ?_
  with_reducible exact Keeps.refl _
  with_reducible refine Keeps.ite (fun _ => ?_) (fun _ => ?_)
  with_reducible refine (swCount_keeps _ _ _ _ _).then_ (by decide) (by decide) ?_
  with_reducible refine Keeps.ofSnd (by assumption) ?_
  split
  with_reducible refine (msecVerify_keeps _ _ _).then_ (by decide) (by decide) ?_
  with_reducible refine (swCount_keeps _ _ _ _ _).then_ (by decide) (by decide) ?_
  with_reducible refine (swCount_keeps _ _ _ _ _).then_ (by decide) (by decide) ?_
  with_reducible exact Keeps.refl _
  with_reducible refine (swCount_keeps _ _ _ _ _).then_ (by decide) (by decide) ?_
  with_reducible refine (swCount_keeps _ _ _ _ _).then_ (by decide) (by decide) ?_
  with_reducible exact Keeps.refl _
  split
  with_reducible refine Keeps.ofFst (by assumption) ?_
  with_reducible refine (route_keeps _ _ _ _).then_ (by decide) (by decide) ?_
  with_reducible refine Keeps.ofSnd (by assumption) ?_
  split
  with_reducible refine (msecVerify_keeps _ _ _).then_ (by decide) (by decide) ?_
  with_reducible refine (swCount_keeps _ _ _ _ _).then_ (by decide) (by decide) ?_
  with_reducible refine (swCount_keeps _ _ _ _ _).then_ (by decide) (by decide) ?_
  with_reducible exact Keeps.refl _
  with_reducible refine (swCount_keeps _ _ _ _ _).then_ (by decide) (by decide) ?_
  with_reducible refine (swCount_keeps _ _ _ _ _).then_ (by decide) (by decide) ?_
  with_reducible exact Keeps.refl _
  with_reducible refine Keeps.foldl (fun _ _ => ?_) _ ?_
  with_reducible refine (copyTo_keeps _ _ _).then_ (by decide) (by decide) ?_
  with_reducible exact Keeps.refl _
  with_reducible refine Keeps.ofFst (by assumption) ?_
  with_reducible refine (route_keeps _ _ _ _).then_ (by decide) (by decide) ?_
  with_reducible refine Keeps.ofSnd (by assumption) ?_
  split
  with_reducible refine (msecVerify_keeps _ _ _).then_ (by decide) (by decide) ?_
  with_reducible refine (swCount_keeps _ _ _ _ _).then_ (by decide) (by decide) ?_
  with_reducible refine (swCount_keeps _ _ _ _ _).then_ (by decide) (by decide) ?_
  with_reducible exact Keeps.refl _
  with_reducible refine (swCount_keeps _ _ _ _ _).then_ (by decide) (by decide) ?_
  with_reducible refine (swCount_keeps _ _ _ _ _).then_ (by decide) (by decide) ?_
  with_reducible exact Keeps.refl _

theorem execGateEntry_keeps (port : Fin 2) (s : State) :
    KeepsR [] [.sw] s (execGateEntry port s) := by
  unfold execGateEntry
  try dsimp only
  with_reducible refine KeepsR.next ?_
  with_reducible refine Keeps.ite (fun _ => ?_) (fun _ => ?_)
  with_reducible exact Keeps.refl _
  split
  with_reducible refine Keeps.set_sw (by decide) ⟨rfl, rfl, rfl⟩ ?_
  with_reducible exact Keeps.refl _
  with_reducible refine Keeps.set_sw (by decide) ⟨rfl, rfl, rfl⟩ ?_
  with_reducible exact Keeps.refl _

theorem gateDrop_keeps (p cls n : Nat) (s : State) :
    Keeps [Reg.SW_CNT_VAL, Reg.SW_BUF_STATUS] [Part.loss, .sw, .wire] s (gateDrop p cls n s) := by
  induction n generalizing s with
  | zero => exact Keeps.refl _
  | succ n ih =>
    unfold gateDrop
    split
    · exact Keeps.refl _
    · refine Keeps.ite (fun _ => Keeps.refl _) (fun _ => Keeps.trans ?_ (ih _))
      refine (swDrop_keeps _ _ _ _ _ _).then_ (by decide) (by decide) ?_
      exact (setQueue_keeps _ _ _ _).then_ (by decide) (by decide) (Keeps.refl _)

theorem showShape_keeps (s : State) :
    Keeps [Reg.SW_STATUS] [] s (showShape s) := by
  unfold showShape
  try dsimp only
  with_reducible refine Keeps.foldl (fun _ _ => ?_) _ ?_
  with_reducible refine Keeps.wr (in_SW_STATUS_SHAPE_ERR) (by decide) ?_
  with_reducible exact Keeps.refl _
  with_reducible exact Keeps.refl _

theorem setCredit_keeps (s : State) (p : Nat) (cls : Nat) (v : Int) :
    Keeps [] [.sw] s (setCredit s p cls v) := by
  unfold setCredit
  try dsimp only
  with_reducible refine Keeps.set_sw (by decide) ⟨rfl, rfl, rfl⟩ ?_
  with_reducible exact Keeps.refl _

theorem accrue_keeps (p : Nat) (ns : Nat) (s : State) (cls : Nat) :
    Keeps [] [.sw] s (accrue p ns s cls) := by
  unfold accrue
  try dsimp only
  with_reducible refine Keeps.ite (fun _ => ?_) (fun _ => ?_)
  with_reducible exact Keeps.refl _
  with_reducible refine Keeps.ite (fun _ => ?_) (fun _ => ?_)
  with_reducible refine (setCredit_keeps _ _ _ _).then_ (by decide) (by decide) ?_
  with_reducible exact Keeps.refl _
  with_reducible refine (setCredit_keeps _ _ _ _).then_ (by decide) (by decide) ?_
  with_reducible exact Keeps.refl _

theorem hostDeliver_keeps (s : State) (cls : Nat) (q : QFrame) :
    Keeps [Reg.SW_CNT_VAL, Reg.SW_MSEC_STAT] [.memory, .records, .owed, .banks, .rng, .rings, .proxies, .loss, .sw, .wire, .out] s (hostDeliver s cls q) := by
  unfold hostDeliver
  try dsimp only
  split
  with_reducible exact Keeps.refl _
  split
  with_reducible refine (swDrop_keeps _ _ _ _ _ _).then_ (by decide) (by decide) ?_
  with_reducible exact Keeps.refl _
  with_reducible refine Keeps.ite (fun _ => ?_) (fun _ => ?_)
  with_reducible refine (swDrop_keeps _ _ _ _ _ _).then_ (by decide) (by decide) ?_
  with_reducible exact Keeps.refl _
  with_reducible refine (complete_keeps _ _ _ _ _ _).then_ (by decide) (by decide) ?_
  with_reducible refine (storeData_keeps _ _ _ _).then_ (by decide) (by decide) ?_
  with_reducible refine Keeps.set_sw (by decide) ⟨rfl, rfl, rfl⟩ ?_
  with_reducible exact Keeps.refl _

theorem sendOut_keeps (s : State) (p : Nat) (cls : Nat) (q : QFrame) :
    Keeps [Reg.PAR_EVT_CNT, Reg.SW_CNT_VAL, Reg.SW_MSEC_STAT, Reg.TLY_CNT0] [.memory, .records, .owed, .banks, .rng, .rings, .evt, .queue, .proxies, .loss, .sw, .wire, .out] s (sendOut s p cls q) := by
  unfold sendOut
  try dsimp only
  with_reducible refine Keeps.ite (fun _ => ?_) (fun _ => ?_)
  with_reducible refine (emit_keeps _ _).then_ (by decide) (by decide) ?_
  with_reducible refine (swCount_keeps _ _ _ _ _).then_ (by decide) (by decide) ?_
  with_reducible refine (swCount_keeps _ _ _ _ _).then_ (by decide) (by decide) ?_
  with_reducible exact Keeps.refl _
  with_reducible refine Keeps.ite (fun _ => ?_) (fun _ => ?_)
  with_reducible refine (hostDeliver_keeps _ _ _).then_ (by decide) (by decide) ?_
  with_reducible refine (swCount_keeps _ _ _ _ _).then_ (by decide) (by decide) ?_
  with_reducible refine (swCount_keeps _ _ _ _ _).then_ (by decide) (by decide) ?_
  with_reducible exact Keeps.refl _
  with_reducible refine Keeps.ite (fun _ => ?_) (fun _ => ?_)
  split
  with_reducible refine (emit_keeps _ _).then_ (by decide) (by decide) ?_
  with_reducible refine (swCount_keeps _ _ _ _ _).then_ (by decide) (by decide) ?_
  with_reducible refine (swCount_keeps _ _ _ _ _).then_ (by decide) (by decide) ?_
  with_reducible refine Keeps.ofSnd (by assumption) ?_
  with_reducible refine (msecProtect_keeps _ _ _).then_ (by decide) (by decide) ?_
  with_reducible exact Keeps.refl _
  with_reducible refine (swCount_keeps _ _ _ _ _).then_ (by decide) (by decide) ?_
  with_reducible refine Keeps.ofSnd (by assumption) ?_
  with_reducible refine (msecProtect_keeps _ _ _).then_ (by decide) (by decide) ?_
  with_reducible exact Keeps.refl _
  with_reducible refine (emit_keeps _ _).then_ (by decide) (by decide) ?_
  with_reducible refine (swCount_keeps _ _ _ _ _).then_ (by decide) (by decide) ?_
  with_reducible refine (swCount_keeps _ _ _ _ _).then_ (by decide) (by decide) ?_
  with_reducible exact Keeps.refl _

theorem execFrameTransmit_keeps (port : Fin 8) (gap : Nat) (s : State) :
    KeepsR [Reg.PAR_EVT_CNT, Reg.SW_CNT_VAL, Reg.SW_BUF_STATUS, Reg.SW_MSEC_STAT, Reg.TLY_CNT0] [.memory, .records, .owed, .banks, .rng, .rings, .evt, .queue, .proxies, .loss, .sw, .wire, .out] s (execFrameTransmit port gap s) := by
  unfold execFrameTransmit
  try dsimp only
  with_reducible refine KeepsR.next ?_
  with_reducible refine Keeps.ite (fun _ => ?_) (fun _ => ?_)
  with_reducible exact Keeps.refl _
  split
  with_reducible refine (retryTx_keeps _).then_ (by decide) (by decide) ?_
  with_reducible refine Keeps.foldl (fun _ _ => ?_) _ ?_
  with_reducible refine (gateDrop_keeps _ _ _ _).then_ (by decide) (by decide) ?_
  with_reducible exact Keeps.refl _
  with_reducible refine Keeps.foldl (fun _ _ => ?_) _ ?_
  with_reducible refine (accrue_keeps _ _ _ _).then_ (by decide) (by decide) ?_
  with_reducible exact Keeps.refl _
  with_reducible exact Keeps.refl _
  split
  with_reducible refine Keeps.foldl (fun _ _ => ?_) _ ?_
  with_reducible refine (gateDrop_keeps _ _ _ _).then_ (by decide) (by decide) ?_
  with_reducible exact Keeps.refl _
  with_reducible refine Keeps.foldl (fun _ _ => ?_) _ ?_
  with_reducible refine (accrue_keeps _ _ _ _).then_ (by decide) (by decide) ?_
  with_reducible exact Keeps.refl _
  with_reducible exact Keeps.refl _
  with_reducible refine (retryTx_keeps _).then_ (by decide) (by decide) ?_
  with_reducible refine (sendOut_keeps _ _ _ _).then_ (by decide) (by decide) ?_
  with_reducible refine Keeps.ite (fun _ => ?_) (fun _ => ?_)
  with_reducible refine (setCredit_keeps _ _ _ _).then_ (by decide) (by decide) ?_
  with_reducible refine Keeps.foldl (fun _ _ => ?_) _ ?_
  with_reducible refine (accrue_keeps _ _ _ _).then_ (by decide) (by decide) ?_
  with_reducible exact Keeps.refl _
  with_reducible refine (setQueue_keeps _ _ _ _).then_ (by decide) (by decide) ?_
  with_reducible refine Keeps.foldl (fun _ _ => ?_) _ ?_
  with_reducible refine (gateDrop_keeps _ _ _ _).then_ (by decide) (by decide) ?_
  with_reducible exact Keeps.refl _
  with_reducible refine Keeps.foldl (fun _ _ => ?_) _ ?_
  with_reducible refine (accrue_keeps _ _ _ _).then_ (by decide) (by decide) ?_
  with_reducible exact Keeps.refl _
  with_reducible exact Keeps.refl _
  with_reducible refine Keeps.foldl (fun _ _ => ?_) _ ?_
  with_reducible refine (accrue_keeps _ _ _ _).then_ (by decide) (by decide) ?_
  with_reducible exact Keeps.refl _
  with_reducible refine (setQueue_keeps _ _ _ _).then_ (by decide) (by decide) ?_
  with_reducible refine Keeps.foldl (fun _ _ => ?_) _ ?_
  with_reducible refine (gateDrop_keeps _ _ _ _).then_ (by decide) (by decide) ?_
  with_reducible exact Keeps.refl _
  with_reducible refine Keeps.foldl (fun _ _ => ?_) _ ?_
  with_reducible refine (accrue_keeps _ _ _ _).then_ (by decide) (by decide) ?_
  with_reducible exact Keeps.refl _
  with_reducible exact Keeps.refl _

theorem execAgingScan_keeps (s : State) :
    KeepsR [Reg.SW_CNT_VAL, Reg.SW_STATUS] [.sw, .wire] s (execAgingScan s) := by
  unfold execAgingScan
  try dsimp only
  with_reducible refine KeepsR.next ?_
  with_reducible refine Keeps.ite (fun _ => ?_) (fun _ => ?_)
  with_reducible exact Keeps.refl _
  with_reducible refine (swCount_keeps _ _ _ _ _).then_ (by decide) (by decide) ?_
  with_reducible refine (showTable_keeps _).then_ (by decide) (by decide) ?_
  with_reducible refine Keeps.set_sw (by decide) ⟨rfl, rfl, rfl⟩ ?_
  with_reducible exact Keeps.refl _

theorem execNetTx_keeps (h : DHdr) (b : List Byte) (s : State) :
    KeepsR [Reg.PAR_FAULT, Reg.PAR_EVT_CNT, Reg.SW_CNT_VAL, Reg.SW_STATUS, Reg.SW_BUF_STATUS, Reg.SW_MSEC_STAT, Reg.TLY_CNT0] [.records, .freeCtr, .owed, .banks, .rng, .rings, .evt, .queue, .proxies, .loss, .sw, .wire, .out] s (execNetTx h b s) := by
  unfold execNetTx
  try dsimp only
  with_reducible refine descr_keeps (by decide) (fun _ => ?_)
  with_reducible refine Keeps.ite (fun _ => ?_) (fun _ => ?_)
  with_reducible refine (complete_keeps _ _ _ _ _ _).then_ (by decide) (by decide) ?_
  with_reducible exact Keeps.refl _
  with_reducible refine Keeps.ite (fun _ => ?_) (fun _ => ?_)
  with_reducible refine (complete_keeps _ _ _ _ _ _).then_ (by decide) (by decide) ?_
  with_reducible exact Keeps.refl _
  with_reducible refine Keeps.ite (fun _ => ?_) (fun _ => ?_)
  with_reducible refine (complete_keeps _ _ _ _ _ _).then_ (by decide) (by decide) ?_
  with_reducible exact Keeps.refl _
  with_reducible refine Keeps.trans ?_ (withData_keeps (by decide) (by decide) (fun _ _ => ?_))
  with_reducible exact Keeps.refl _
  with_reducible refine Keeps.ite (fun _ => ?_) (fun _ => ?_)
  with_reducible refine (complete_keeps _ _ _ _ _ _).then_ (by decide) (by decide) ?_
  with_reducible exact Keeps.refl _
  with_reducible refine (pushTx_keeps _ _).then_ (by decide) (by decide) ?_
  with_reducible refine Keeps.set_sw (by decide) ⟨rfl, rfl, rfl⟩ ?_
  split
  with_reducible refine (route_keeps _ _ _ _).then_ (by decide) (by decide) ?_
  with_reducible refine (swCount_keeps _ _ _ _ _).then_ (by decide) (by decide) ?_
  with_reducible refine (swCount_keeps _ _ _ _ _).then_ (by decide) (by decide) ?_
  with_reducible exact Keeps.refl _
  with_reducible refine (swCount_keeps _ _ _ _ _).then_ (by decide) (by decide) ?_
  with_reducible refine (swCount_keeps _ _ _ _ _).then_ (by decide) (by decide) ?_
  with_reducible exact Keeps.refl _

theorem execTxTimeout_keeps (s : State) :
    KeepsR [Reg.SW_CNT_VAL, Reg.SW_MSEC_STAT] [.records, .owed, .rng, .rings, .proxies, .sw, .wire, .out] s (execTxTimeout s) := by
  unfold execTxTimeout
  try dsimp only
  with_reducible refine KeepsR.whileCd ?_
  split
  with_reducible exact Keeps.refl _
  with_reducible refine Keeps.ite (fun _ => ?_) (fun _ => ?_)
  with_reducible refine (endTx_keeps _ _ _).then_ (by decide) (by decide) ?_
  with_reducible exact Keeps.refl _
  with_reducible exact Keeps.refl _

theorem execRxBuf_keeps (bus : Bool) (h : DHdr) (b : List Byte) (s : State) :
    KeepsR [Reg.PAR_FAULT, Reg.PAR_EVT_CNT, Reg.SW_CNT_VAL, Reg.SW_MSEC_STAT, Reg.TLY_CNT0] [.records, .owed, .rng, .rings, .evt, .queue, .proxies, .loss, .sw, .wire, .sub, .out] s (execRxBuf bus h b s) := by
  unfold execRxBuf
  try dsimp only
  with_reducible refine descr_keeps (by decide) (fun _ => ?_)
  with_reducible refine Keeps.ite (fun _ => ?_) (fun _ => ?_)
  with_reducible refine (complete_keeps _ _ _ _ _ _).then_ (by decide) (by decide) ?_
  with_reducible exact Keeps.refl _
  with_reducible refine Keeps.ite (fun _ => ?_) (fun _ => ?_)
  with_reducible refine (complete_keeps _ _ _ _ _ _).then_ (by decide) (by decide) ?_
  with_reducible exact Keeps.refl _
  split
  with_reducible refine (completeFault_keeps _ _ _ _ _).then_ (by decide) (by decide) ?_
  with_reducible exact Keeps.refl _
  with_reducible refine Keeps.ite (fun _ => ?_) (fun _ => ?_)
  with_reducible refine Keeps.set_sub (by decide) ?_
  with_reducible exact Keeps.refl _
  with_reducible refine Keeps.set_sw (by decide) ⟨rfl, rfl, rfl⟩ ?_
  with_reducible exact Keeps.refl _

theorem execFlushTable_keeps (h : DHdr) (b : List Byte) (s : State) :
    KeepsR [Reg.SW_CNT_VAL, Reg.SW_STATUS, Reg.SW_MSEC_STAT] [.records, .owed, .rng, .rings, .proxies, .sw, .wire, .out] s (execFlushTable h b s) := by
  unfold execFlushTable
  try dsimp only
  with_reducible refine descr_keeps (by decide) (fun _ => ?_)
  with_reducible refine Keeps.ite (fun _ => ?_) (fun _ => ?_)
  with_reducible refine (complete_keeps _ _ _ _ _ _).then_ (by decide) (by decide) ?_
  with_reducible exact Keeps.refl _
  with_reducible refine Keeps.ite (fun _ => ?_) (fun _ => ?_)
  with_reducible refine (complete_keeps _ _ _ _ _ _).then_ (by decide) (by decide) ?_
  with_reducible exact Keeps.refl _
  with_reducible refine Keeps.ite (fun _ => ?_) (fun _ => ?_)
  with_reducible refine (complete_keeps _ _ _ _ _ _).then_ (by decide) (by decide) ?_
  with_reducible exact Keeps.refl _
  with_reducible refine (complete_keeps _ _ _ _ _ _).then_ (by decide) (by decide) ?_
  with_reducible refine (flushDynamic_keeps _ _).then_ (by decide) (by decide) ?_
  with_reducible exact Keeps.refl _

theorem tblRuns_keeps (s : State) :
    Keeps [Reg.SW_STATUS] [] s (tblRuns s) := by
  unfold tblRuns
  try dsimp only
  with_reducible refine Keeps.put (in_SW_STATUS_TBL_BUSY) (by decide) ?_
  with_reducible exact Keeps.refl _

theorem tblRead_keeps (s0 : State) :
    Keeps [Reg.SW_TBL_DATA0, Reg.SW_TBL_DATA1, Reg.SW_TBL_DATA2, Reg.SW_STATUS] [] s0 (tblRead s0) := by
  unfold tblRead
  try dsimp only
  with_reducible refine Keeps.put (in_SW_TBL_DATA2_MCAST) (by decide) ?_
  with_reducible refine Keeps.put (in_SW_TBL_DATA2_STATIC) (by decide) ?_
  with_reducible refine Keeps.put (in_SW_TBL_DATA2_VALID) (by decide) ?_
  with_reducible refine Keeps.wr (in_SW_TBL_DATA2_AGE) (by decide) ?_
  with_reducible refine Keeps.wr (in_SW_TBL_DATA2_PORT) (by decide) ?_
  with_reducible refine Keeps.wr (in_SW_TBL_DATA1_VID) (by decide) ?_
  with_reducible refine Keeps.wr (in_SW_TBL_DATA1_MAC_HI) (by decide) ?_
  with_reducible refine Keeps.wr (in_SW_TBL_DATA0_MAC_LO) (by decide) ?_
  with_reducible refine (tblRuns_keeps _).then_ (by decide) (by decide) ?_
  with_reducible exact Keeps.refl _

theorem tblWrite_keeps (s : State) :
    Keeps [Reg.PAR_SEAL_STATUS, Reg.SW_STATUS] [.sw] s (tblWrite s) := by
  unfold tblWrite
  try dsimp only
  with_reducible refine Keeps.ite (fun _ => ?_) (fun _ => ?_)
  with_reducible refine (violate_keeps _).then_ (by decide) (by decide) ?_
  with_reducible exact Keeps.refl _
  with_reducible refine Keeps.ite (fun _ => ?_) (fun _ => ?_)
  with_reducible refine (setEnt_keeps _ _ _).then_ (by decide) (by decide) ?_
  with_reducible refine (tblRuns_keeps _).then_ (by decide) (by decide) ?_
  with_reducible exact Keeps.refl _
  with_reducible refine Keeps.ite (fun _ => ?_) (fun _ => ?_)
  with_reducible refine Keeps.put (in_SW_STATUS_STATIC_FULL) (by decide) ?_
  with_reducible refine (tblRuns_keeps _).then_ (by decide) (by decide) ?_
  with_reducible exact Keeps.refl _
  with_reducible refine (setEnt_keeps _ _ _).then_ (by decide) (by decide) ?_
  with_reducible refine (tblRuns_keeps _).then_ (by decide) (by decide) ?_
  with_reducible exact Keeps.refl _

theorem tblClear_keeps (s : State) :
    Keeps [Reg.PAR_SEAL_STATUS, Reg.SW_STATUS] [.sw] s (tblClear s) := by
  unfold tblClear
  try dsimp only
  with_reducible refine Keeps.ite (fun _ => ?_) (fun _ => ?_)
  with_reducible refine (violate_keeps _).then_ (by decide) (by decide) ?_
  with_reducible exact Keeps.refl _
  with_reducible refine (setEnt_keeps _ _ _).then_ (by decide) (by decide) ?_
  with_reducible refine (tblRuns_keeps _).then_ (by decide) (by decide) ?_
  with_reducible exact Keeps.refl _

theorem execTblRead_keeps (w : Writer) (s : State) :
    KeepsR [Reg.PAR_SEAL_STATUS, Reg.SW_TBL_DATA0, Reg.SW_TBL_DATA1, Reg.SW_TBL_DATA2, Reg.SW_STATUS] [] s (execTblRead w s) := by
  unfold execTblRead
  try dsimp only
  with_reducible refine KeepsR.whileCd ?_
  with_reducible refine Keeps.ite (fun _ => ?_) (fun _ => ?_)
  with_reducible refine (violate_keeps _).then_ (by decide) (by decide) ?_
  with_reducible exact Keeps.refl _
  with_reducible refine (tblRead_keeps _).then_ (by decide) (by decide) ?_
  with_reducible exact Keeps.refl _

theorem execTblWrite_keeps (w : Writer) (s : State) :
    KeepsR [Reg.PAR_SEAL_STATUS, Reg.SW_STATUS] [.sw] s (execTblWrite w s) := by
  unfold execTblWrite
  try dsimp only
  with_reducible refine KeepsR.whileCd ?_
  with_reducible refine Keeps.ite (fun _ => ?_) (fun _ => ?_)
  with_reducible refine (violate_keeps _).then_ (by decide) (by decide) ?_
  with_reducible exact Keeps.refl _
  with_reducible refine (tblWrite_keeps _).then_ (by decide) (by decide) ?_
  with_reducible exact Keeps.refl _

theorem execTblClear_keeps (w : Writer) (s : State) :
    KeepsR [Reg.PAR_SEAL_STATUS, Reg.SW_STATUS] [.sw] s (execTblClear w s) := by
  unfold execTblClear
  try dsimp only
  with_reducible refine KeepsR.whileCd ?_
  with_reducible refine Keeps.ite (fun _ => ?_) (fun _ => ?_)
  with_reducible refine (violate_keeps _).then_ (by decide) (by decide) ?_
  with_reducible exact Keeps.refl _
  with_reducible refine (tblClear_keeps _).then_ (by decide) (by decide) ?_
  with_reducible exact Keeps.refl _

end Sys2Proof.Machine
end

