-- ==== Sys2Proof/Laws/Faults.lean ====
section
/-! SUPPORT.
What the operations of Machine/Faults.lean change, and that they keep a sound state sound.
-/

namespace Sys2Proof.Machine

theorem takeInj_keeps (s : State) (kind : Nat) (id : Nat) :
    Keeps [Reg.EVT_INJ_STATUS] [.flt] s (takeInj s kind id).1 := by
  unfold takeInj
  try dsimp only
  split
  split
  with_reducible refine Keeps.bump (in_EVT_INJ_STATUS_DONE) (by decide) ?_
  with_reducible refine Keeps.wr (in_EVT_INJ_STATUS_PENDING) (by decide) ?_
  split
  with_reducible refine Keeps.set_flt (by decide) ?_
  with_reducible exact Keeps.refl _
  with_reducible refine Keeps.set_flt (by decide) ?_
  with_reducible exact Keeps.refl _
  with_reducible exact Keeps.refl _
  with_reducible exact Keeps.refl _

theorem execEvtInjArm_keeps (w : Writer) (v : Word) (s : State) :
    KeepsR [Reg.PAR_SEAL_STATUS, Reg.EVT_INJ, Reg.EVT_INJ_STATUS] [.flt] s (execEvtInjArm w v s) := by
  unfold execEvtInjArm
  try dsimp only
  with_reducible refine KeepsR.whileCd ?_
  with_reducible refine Keeps.ite (fun _ => ?_) (fun _ => ?_)
  with_reducible refine (violate_keeps _).then_ (by decide) (by decide) ?_
  with_reducible exact Keeps.refl _
  with_reducible refine Keeps.ite (fun _ => ?_) (fun _ => ?_)
  with_reducible refine Keeps.set_flt (by decide) ?_
  with_reducible refine Keeps.wr (in_EVT_INJ_STATUS_PENDING) (by decide) ?_
  with_reducible refine Keeps.wr (in_EVT_INJ_COUNT) (by decide) ?_
  with_reducible refine Keeps.wr (in_EVT_INJ_ID) (by decide) ?_
  with_reducible refine Keeps.wr (in_EVT_INJ_KIND) (by decide) ?_
  with_reducible exact Keeps.refl _
  with_reducible refine Keeps.wr (in_EVT_INJ_COUNT) (by decide) ?_
  with_reducible refine Keeps.wr (in_EVT_INJ_ID) (by decide) ?_
  with_reducible refine Keeps.wr (in_EVT_INJ_KIND) (by decide) ?_
  with_reducible exact Keeps.refl _

theorem execEvtRaise_keeps (w : Writer) (v : Word) (s : State) :
    KeepsR [Reg.PAR_SEAL_STATUS, Reg.PAR_EVT_CNT, Reg.SW_CNT_VAL, Reg.SW_MSEC_STAT, Reg.TLY_CNT0] [.records, .owed, .rings, .evt, .queue, .proxies, .loss, .wire, .out] s (execEvtRaise w v s) := by
  unfold execEvtRaise
  try dsimp only
  with_reducible refine KeepsR.whileCd ?_
  with_reducible refine Keeps.ite (fun _ => ?_) (fun _ => ?_)
  with_reducible refine (violate_keeps _).then_ (by decide) (by decide) ?_
  with_reducible exact Keeps.refl _
  with_reducible refine Keeps.ite (fun _ => ?_) (fun _ => ?_)
  with_reducible refine (raise_keeps _ _ _ _ _).then_ (by decide) (by decide) ?_
  with_reducible exact Keeps.refl _
  with_reducible exact Keeps.refl _

theorem noteErr_keeps (s : State) (mem : Nat) :
    Keeps [] [.flt] s (noteErr s mem) := by
  unfold noteErr
  try dsimp only
  with_reducible refine Keeps.set_flt (by decide) ?_
  with_reducible exact Keeps.refl _

theorem eccCorrected_keeps (s : State) (mem : Nat) (addr : Nat) (scrub : Bool) (inj : Bool) :
    Keeps [Reg.PAR_EVT_CNT, Reg.SW_CNT_VAL, Reg.SW_MSEC_STAT, Reg.TLY_CNT0, Reg.EVT_ECC_CNT] [.records, .owed, .rings, .evt, .queue, .proxies, .loss, .wire, .flt, .out] s (eccCorrected s mem addr scrub inj) := by
  unfold eccCorrected
  try dsimp only
  with_reducible refine (raise_keeps _ _ _ _ _).then_ (by decide) (by decide) ?_
  with_reducible refine Keeps.bump (in_EVT_ECC_CNT_CE _) (by decide) ?_
  with_reducible refine (noteErr_keeps _ _).then_ (by decide) (by decide) ?_
  with_reducible exact Keeps.refl _

theorem eccFatal_keeps (s : State) (mem : Nat) (addr : Nat) (scrub : Bool) (inj : Bool) :
    Keeps [Reg.PAR_EVT_CNT, Reg.SW_CNT_VAL, Reg.SW_MSEC_STAT, Reg.TLY_CNT0, Reg.EVT_ECC_CNT, Reg.EVT_ECC_LAST] [.records, .owed, .rings, .evt, .queue, .proxies, .loss, .wire, .flt, .out] s (eccFatal s mem addr scrub inj) := by
  unfold eccFatal
  try dsimp only
  with_reducible refine (tally_keeps _ _ _).then_ (by decide) (by decide) ?_
  with_reducible refine (raise_keeps _ _ _ _ _).then_ (by decide) (by decide) ?_
  with_reducible refine Keeps.wr (in_EVT_ECC_LAST_ID) (by decide) ?_
  with_reducible refine Keeps.wr (in_EVT_ECC_LAST_ADDR) (by decide) ?_
  with_reducible refine Keeps.bump (in_EVT_ECC_CNT_UE _) (by decide) ?_
  with_reducible refine (noteErr_keeps _ _).then_ (by decide) (by decide) ?_
  with_reducible exact Keeps.refl _

theorem eccEngine_keeps (s : State) (addr : Nat) (hit : EccAt) :
    Keeps [Reg.PAR_FAULT, Reg.PAR_EVT_CNT, Reg.SW_CNT_VAL, Reg.SW_MSEC_STAT, Reg.TLY_CNT0] [.records, .owed, .rng, .rings, .evt, .queue, .proxies, .loss, .wire, .out] s (eccEngine s addr hit) := by
  unfold eccEngine
  try dsimp only
  split
  split
  with_reducible refine Keeps.ite (fun _ => ?_) (fun _ => ?_)
  with_reducible exact Keeps.refl _
  with_reducible refine (finish_keeps _ _ _ _ _ _).then_ (by decide) (by decide) ?_
  with_reducible refine (windowFault_keeps _ _ _ _ _).then_ (by decide) (by decide) ?_
  with_reducible exact Keeps.refl _
  with_reducible exact Keeps.refl _
  with_reducible refine Keeps.ite (fun _ => ?_) (fun _ => ?_)
  with_reducible exact Keeps.refl _
  with_reducible refine (finish_keeps _ _ _ _ _ _).then_ (by decide) (by decide) ?_
  with_reducible refine (windowFault_keeps _ _ _ _ _).then_ (by decide) (by decide) ?_
  with_reducible refine (takeSlot_keeps _ _ _ _).then_ (by decide) (by decide) ?_
  with_reducible exact Keeps.refl _
  with_reducible exact Keeps.refl _

theorem eccTally_keeps (s : State) (hit : EccAt) :
    Keeps [] [.tly, .queue] s (eccTally s hit) := by
  unfold eccTally
  try dsimp only
  split
  with_reducible refine Keeps.set_tly_queue (by decide) (by decide) ?_
  with_reducible exact Keeps.refl _
  with_reducible exact Keeps.refl _

theorem keyFault_keeps (s : State) (k : Nat) :
    Keeps [Reg.PAR_EVT_CNT, Reg.SW_CNT_VAL, Reg.SW_MSEC_STAT, Reg.TLY_CNT0] [.records, .owed, .rings, .evt, .queue, .proxies, .loss, .wire, .sec, .out] s (keyFault s k) := by
  unfold keyFault
  try dsimp only
  with_reducible refine Keeps.ite (fun _ => ?_) (fun _ => ?_)
  with_reducible exact Keeps.refl _
  with_reducible refine (raise_keeps _ _ _ _ _).then_ (by decide) (by decide) ?_
  with_reducible refine Keeps.set_sec (by decide) ?_
  with_reducible exact Keeps.refl _

theorem eccEffect_keeps (s : State) (mem : Nat) (addr : Nat) (hit : EccAt) :
    Keeps [Reg.CHN_ATTACH, Reg.PAR_STATE, Reg.PAR_FAULT, Reg.PAR_EVT_CNT, Reg.ACT_SAFE_STATUS, Reg.ACT_CNT, Reg.HS_STATE, Reg.HB_STATE, Reg.SV_STATE, Reg.SV_KRES, Reg.SV_CNT2, Reg.LED_STATE, Reg.FIO_CAUSE, Reg.SIN_SCHED, Reg.SIN_STREAMS, Reg.SW_CNT_VAL, Reg.SW_STATUS, Reg.SW_BUF_STATUS, Reg.SW_MSEC_STAT, Reg.TLY_CNT0, Reg.EVT_CDLOSS] [.records, .freeCtr, .spar, .pwr, .owed, .rng, .rings, .evt, .tly, .queue, .proxies, .act, .chs, .loss, .sns, .sw, .wire, .sec, .out] s (eccEffect s mem addr hit) := by
  unfold eccEffect
  try dsimp only
  split
  with_reducible refine (eccEngine_keeps _ _ _).then_ (by decide) (by decide) ?_
  with_reducible exact Keeps.refl _
  with_reducible refine (eccEngine_keeps _ _ _).then_ (by decide) (by decide) ?_
  with_reducible exact Keeps.refl _
  with_reducible refine Keeps.ite (fun _ => ?_) (fun _ => ?_)
  with_reducible refine (controlLost_keeps _ _).then_ (by decide) (by decide) ?_
  with_reducible exact Keeps.refl _
  with_reducible refine Keeps.set_pwr (by decide) rfl rfl ?_
  with_reducible exact Keeps.refl _
  with_reducible refine Keeps.ite (fun _ => ?_) (fun _ => ?_)
  with_reducible refine (controlLost_keeps _ _).then_ (by decide) (by decide) ?_
  with_reducible exact Keeps.refl _
  with_reducible exact Keeps.refl _
  with_reducible refine Keeps.ite (fun _ => ?_) (fun _ => ?_)
  with_reducible refine (setEnt_keeps _ _ _).then_ (by decide) (by decide) ?_
  with_reducible exact Keeps.refl _
  with_reducible exact Keeps.refl _
  split
  with_reducible refine (setQueue_keeps _ _ _ _).then_ (by decide) (by decide) ?_
  with_reducible exact Keeps.refl _
  with_reducible exact Keeps.refl _
  with_reducible refine (keyFault_keeps _ _).then_ (by decide) (by decide) ?_
  with_reducible exact Keeps.refl _
  with_reducible refine (eccEngine_keeps _ _ _).then_ (by decide) (by decide) ?_
  with_reducible exact Keeps.refl _
  with_reducible refine (eccTally_keeps _ _).then_ (by decide) (by decide) ?_
  with_reducible exact Keeps.refl _
  with_reducible exact Keeps.refl _

theorem execEccError_keeps (mem : Fin 16) (ue : Bool) (addr : Nat) (hit : EccAt) (s : State) :
    KeepsR [Reg.CHN_ATTACH, Reg.PAR_STATE, Reg.PAR_FAULT, Reg.PAR_EVT_CNT, Reg.ACT_SAFE_STATUS, Reg.ACT_CNT, Reg.HS_STATE, Reg.HB_STATE, Reg.SV_STATE, Reg.SV_KRES, Reg.SV_CNT2, Reg.LED_STATE, Reg.FIO_CAUSE, Reg.SIN_SCHED, Reg.SIN_STREAMS, Reg.SW_CNT_VAL, Reg.SW_STATUS, Reg.SW_BUF_STATUS, Reg.SW_MSEC_STAT, Reg.TLY_CNT0, Reg.EVT_INJ_STATUS, Reg.EVT_ECC_CNT, Reg.EVT_ECC_LAST, Reg.EVT_CDLOSS] [.records, .freeCtr, .spar, .pwr, .owed, .rng, .rings, .evt, .tly, .queue, .proxies, .act, .chs, .loss, .sns, .sw, .wire, .sec, .flt, .out] s (execEccError mem ue addr hit s) := by
  unfold execEccError
  try dsimp only
  with_reducible refine KeepsR.next ?_
  with_reducible refine Keeps.ite (fun _ => ?_) (fun _ => ?_)
  with_reducible exact Keeps.refl _
  with_reducible refine Keeps.ite (fun _ => ?_) (fun _ => ?_)
  with_reducible refine (eccCorrected_keeps _ _ _ _ _).then_ (by decide) (by decide) ?_
  with_reducible refine (takeInj_keeps _ _ _).then_ (by decide) (by decide) ?_
  with_reducible exact Keeps.refl _
  with_reducible refine (eccEffect_keeps _ _ _ _).then_ (by decide) (by decide) ?_
  with_reducible refine (eccFatal_keeps _ _ _ _ _).then_ (by decide) (by decide) ?_
  with_reducible refine (takeInj_keeps _ _ _).then_ (by decide) (by decide) ?_
  with_reducible exact Keeps.refl _

theorem scrubbed_keeps (s : State) (mem : Nat) (addr : Nat) :
    Keeps [Reg.every] [.memory, .records, .sw] s (scrubbed s mem addr) := by
  unfold scrubbed
  try dsimp only
  split
  with_reducible refine Keeps.writeBytes (by decide) ?_
  with_reducible exact Keeps.refl _
  with_reducible refine Keeps.writeBytes (by decide) ?_
  with_reducible exact Keeps.refl _
  split
  with_reducible refine Keeps.foldl (fun _ _ => ?_) _ ?_
  with_reducible refine Keeps.wrEvery (by decide) ?_
  with_reducible exact Keeps.refl _
  with_reducible exact Keeps.refl _
  with_reducible exact Keeps.refl _
  with_reducible refine Keeps.ite (fun _ => ?_) (fun _ => ?_)
  with_reducible refine (setEnt_keeps _ _ _).then_ (by decide) (by decide) ?_
  with_reducible exact Keeps.refl _
  with_reducible exact Keeps.refl _
  with_reducible exact Keeps.refl _

theorem execScrub_keeps (mem : Fin 16) (addr : Nat) (err : Option Bool) (s : State) :
    KeepsR [Reg.every] [.memory, .records, .owed, .rings, .evt, .queue, .proxies, .loss, .sw, .wire, .flt, .out] s (execScrub mem addr err s) := by
  unfold execScrub
  try dsimp only
  with_reducible refine KeepsR.whileCd ?_
  with_reducible refine Keeps.ite (fun _ => ?_) (fun _ => ?_)
  with_reducible exact Keeps.refl _
  split
  with_reducible exact Keeps.refl _
  with_reducible refine (eccCorrected_keeps _ _ _ _ _).then_ (by decide) (by decide) ?_
  with_reducible refine (takeInj_keeps _ _ _).then_ (by decide) (by decide) ?_
  with_reducible exact Keeps.refl _
  with_reducible refine (scrubbed_keeps _ _ _).then_ (by decide) (by decide) ?_
  with_reducible refine (eccFatal_keeps _ _ _ _ _).then_ (by decide) (by decide) ?_
  with_reducible refine (takeInj_keeps _ _ _).then_ (by decide) (by decide) ?_
  with_reducible exact Keeps.refl _

theorem linkFault_keeps (s : State) (link : Nat) (cause : Nat) (inj : Bool) :
    Keeps [Reg.PAR_EVT_CNT, Reg.SW_CNT_VAL, Reg.SW_MSEC_STAT, Reg.TLY_CNT0] [.records, .owed, .rings, .evt, .queue, .proxies, .loss, .wire, .out] s (linkFault s link cause inj) := by
  unfold linkFault
  try dsimp only
  with_reducible refine Keeps.ite (fun _ => ?_) (fun _ => ?_)
  with_reducible refine (tally_keeps _ _ _).then_ (by decide) (by decide) ?_
  with_reducible refine (raise_keeps _ _ _ _ _).then_ (by decide) (by decide) ?_
  with_reducible exact Keeps.refl _
  with_reducible refine (raise_keeps _ _ _ _ _).then_ (by decide) (by decide) ?_
  with_reducible exact Keeps.refl _

theorem execLinkReplay_keeps (link : Fin 2) (again : Bool) (s : State) :
    KeepsR [Reg.PAR_EVT_CNT, Reg.SW_CNT_VAL, Reg.SW_MSEC_STAT, Reg.TLY_CNT0, Reg.EVT_INJ_STATUS, Reg.EVT_LINK_CNT] [.records, .owed, .rings, .evt, .queue, .proxies, .loss, .wire, .flt, .out] s (execLinkReplay link again s) := by
  unfold execLinkReplay
  try dsimp only
  with_reducible refine KeepsR.whileCd ?_
  with_reducible refine Keeps.ite (fun _ => ?_) (fun _ => ?_)
  with_reducible refine (linkFault_keeps _ _ _ _).then_ (by decide) (by decide) ?_
  with_reducible refine Keeps.set_flt (by decide) ?_
  with_reducible refine Keeps.bump (in_EVT_LINK_CNT_REPLAYS _) (by decide) ?_
  with_reducible refine (takeInj_keeps _ _ _).then_ (by decide) (by decide) ?_
  with_reducible exact Keeps.refl _
  with_reducible refine Keeps.set_flt (by decide) ?_
  with_reducible refine Keeps.bump (in_EVT_LINK_CNT_REPLAYS _) (by decide) ?_
  with_reducible refine (takeInj_keeps _ _ _).then_ (by decide) (by decide) ?_
  with_reducible exact Keeps.refl _

theorem execLinkRetrain_keeps (link : Fin 2) (one : Bool) (s : State) :
    KeepsR [Reg.PAR_EVT_CNT, Reg.SW_CNT_VAL, Reg.SW_MSEC_STAT, Reg.TLY_CNT0, Reg.EVT_INJ_STATUS, Reg.EVT_LINK_CNT] [.records, .owed, .rings, .evt, .queue, .proxies, .loss, .wire, .flt, .out] s (execLinkRetrain link one s) := by
  unfold execLinkRetrain
  try dsimp only
  with_reducible refine KeepsR.whileCd ?_
  with_reducible refine Keeps.ite (fun _ => ?_) (fun _ => ?_)
  with_reducible refine (linkFault_keeps _ _ _ _).then_ (by decide) (by decide) ?_
  with_reducible refine (linkFault_keeps _ _ _ _).then_ (by decide) (by decide) ?_
  with_reducible refine Keeps.set_flt (by decide) ?_
  with_reducible refine Keeps.wr (in_EVT_LINK_CNT_LANES _) (by decide) ?_
  with_reducible refine Keeps.bump (in_EVT_LINK_CNT_RETRAINS _) (by decide) ?_
  split
  with_reducible refine (takeInj_keeps _ _ _).then_ (by decide) (by decide) ?_
  with_reducible exact Keeps.refl _
  with_reducible exact Keeps.refl _
  with_reducible refine (linkFault_keeps _ _ _ _).then_ (by decide) (by decide) ?_
  with_reducible refine Keeps.set_flt (by decide) ?_
  with_reducible refine Keeps.wr (in_EVT_LINK_CNT_LANES _) (by decide) ?_
  with_reducible refine Keeps.bump (in_EVT_LINK_CNT_RETRAINS _) (by decide) ?_
  split
  with_reducible refine (takeInj_keeps _ _ _).then_ (by decide) (by decide) ?_
  with_reducible exact Keeps.refl _
  with_reducible exact Keeps.refl _

theorem linkGone_keeps (s : State) (link : Nat) :
    Keeps [Reg.EVT_LINK_CNT] [.flt] s (linkGone s link) := by
  unfold linkGone
  try dsimp only
  with_reducible refine Keeps.set_flt (by decide) ?_
  with_reducible refine Keeps.wr (in_EVT_LINK_CNT_LANES _) (by decide) ?_
  with_reducible exact Keeps.refl _

theorem ldGone_keeps (s : State) (cause : Nat) :
    Keeps [Reg.PAR_EVT_CNT, Reg.SW_CNT_VAL, Reg.SW_STATUS, Reg.SW_MSEC_STAT, Reg.SUB_CAN_STAT, Reg.SUB_LIN_STAT, Reg.TLY_CNT0, Reg.EVT_LINK_CNT] [.records, .owed, .rings, .evt, .queue, .chain, .proxies, .loss, .sw, .wire, .sub, .flt, .out] s (ldGone s cause) := by
  unfold ldGone
  try dsimp only
  with_reducible refine (showBuses_keeps _).then_ (by decide) (by decide) ?_
  with_reducible refine (setLink_keeps _ _ _).then_ (by decide) (by decide) ?_
  with_reducible refine (setLink_keeps _ _ _).then_ (by decide) (by decide) ?_
  with_reducible refine (linkFault_keeps _ _ _ _).then_ (by decide) (by decide) ?_
  with_reducible refine (linkGone_keeps _ _).then_ (by decide) (by decide) ?_
  with_reducible exact Keeps.refl _

theorem execLinkLost_keeps (link : Fin 2) (s : State) :
    KeepsR [Reg.PWR_DOM_STATUS, Reg.CHN_ATTACH, Reg.PAR_STATE, Reg.PAR_EVT_CNT, Reg.ACT_SAFE_STATUS, Reg.ACT_CNT, Reg.HS_STATE, Reg.HB_STATE, Reg.SV_STATE, Reg.SV_KRES, Reg.SV_CNT2, Reg.LED_STATE, Reg.FIO_CAUSE, Reg.SIN_SCHED, Reg.SIN_STREAMS, Reg.SW_CNT_VAL, Reg.SW_STATUS, Reg.SW_MSEC_STAT, Reg.SUB_CAN_STAT, Reg.SUB_LIN_STAT, Reg.TLY_CNT0, Reg.EVT_LINK_CNT, Reg.EVT_CDLOSS] [.records, .freeCtr, .spar, .pwr, .owed, .rng, .rings, .evt, .queue, .chain, .proxies, .act, .chs, .loss, .sns, .sw, .wire, .sub, .flt, .out] s (execLinkLost link s) := by
  unfold execLinkLost
  try dsimp only
  with_reducible refine KeepsR.whileCd ?_
  with_reducible refine Keeps.ite (fun _ => ?_) (fun _ => ?_)
  with_reducible exact Keeps.refl _
  with_reducible refine Keeps.ite (fun _ => ?_) (fun _ => ?_)
  with_reducible refine (showDomains_keeps _).then_ (by decide) (by decide) ?_
  with_reducible refine (controlLost_keeps _ _).then_ (by decide) (by decide) ?_
  with_reducible refine (linkFault_keeps _ _ _ _).then_ (by decide) (by decide) ?_
  with_reducible refine Keeps.wr (in_EVT_LINK_CNT_LANES _) (by decide) ?_
  with_reducible exact Keeps.refl _
  with_reducible refine Keeps.ite (fun _ => ?_) (fun _ => ?_)
  with_reducible exact Keeps.refl _
  with_reducible refine (wantBypass_keeps _ _).then_ (by decide) (by decide) ?_
  with_reducible refine (ldGone_keeps _ _).then_ (by decide) (by decide) ?_
  with_reducible exact Keeps.refl _

theorem execLinkPgoodLost_keeps (s : State) :
    KeepsR [Reg.PWR_DOM_STATUS, Reg.CHN_BYPASS, Reg.PAR_EVT_CNT, Reg.SW_CNT_VAL, Reg.SW_STATUS, Reg.SW_MSEC_STAT, Reg.SUB_CAN_STAT, Reg.SUB_LIN_STAT, Reg.TLY_CNT0, Reg.EVT_LINK_CNT] [.records, .pwr, .owed, .rings, .evt, .queue, .chain, .proxies, .loss, .sw, .wire, .sub, .flt, .out] s (execLinkPgoodLost s) := by
  unfold execLinkPgoodLost
  try dsimp only
  with_reducible refine KeepsR.next ?_
  with_reducible refine Keeps.ite (fun _ => ?_) (fun _ => ?_)
  with_reducible exact Keeps.refl _
  with_reducible refine (showDomains_keeps _).then_ (by decide) (by decide) ?_
  with_reducible refine (linkOff_keeps _).then_ (by decide) (by decide) ?_
  with_reducible refine Keeps.ite (fun _ => ?_) (fun _ => ?_)
  with_reducible refine (ldGone_keeps _ _).then_ (by decide) (by decide) ?_
  with_reducible exact Keeps.refl _
  with_reducible refine (linkGone_keeps _ _).then_ (by decide) (by decide) ?_
  with_reducible exact Keeps.refl _

theorem execSidebandParityLoss_keeps (s : State) :
    KeepsR [Reg.PAR_EVT_CNT, Reg.SW_CNT_VAL, Reg.SW_MSEC_STAT, Reg.TLY_CNT0, Reg.EVT_LINK_CNT] [.records, .owed, .rings, .evt, .queue, .proxies, .loss, .wire, .flt, .out] s (execSidebandParityLoss s) := by
  unfold execSidebandParityLoss
  try dsimp only
  with_reducible refine KeepsR.next ?_
  with_reducible refine Keeps.ite (fun _ => ?_) (fun _ => ?_)
  with_reducible exact Keeps.refl _
  with_reducible refine (linkFault_keeps _ _ _ _).then_ (by decide) (by decide) ?_
  with_reducible refine (linkGone_keeps _ _).then_ (by decide) (by decide) ?_
  with_reducible exact Keeps.refl _

theorem execOnfiLoss_keeps (s : State) :
    KeepsR [Reg.PAR_EVT_CNT, Reg.SW_CNT_VAL, Reg.SW_MSEC_STAT, Reg.STO_WB_STATUS, Reg.STO_CNT, Reg.TLY_CNT0] [.records, .owed, .rng, .rings, .evt, .queue, .proxies, .loss, .wire, .sto, .out] s (execOnfiLoss s) := by
  unfold execOnfiLoss
  try dsimp only
  with_reducible refine KeepsR.whileCd ?_
  with_reducible refine Keeps.ite (fun _ => ?_) (fun _ => ?_)
  with_reducible exact Keeps.refl _
  with_reducible refine Keeps.foldl (fun _ _ => ?_) _ ?_
  with_reducible refine (complete_keeps _ _ _ _ _ _).then_ (by decide) (by decide) ?_
  with_reducible exact Keeps.refl _
  with_reducible refine (loseBuffered_keeps _ _ _).then_ (by decide) (by decide) ?_
  with_reducible refine Keeps.set_sto (by decide) ?_
  with_reducible refine (linkFault_keeps _ _ _ _).then_ (by decide) (by decide) ?_
  with_reducible refine Keeps.set_sto (by decide) ?_
  with_reducible exact Keeps.refl _

theorem execLinkRecoveryRetry_keeps (link : Fin 3) (ok : Bool) (s : State) :
    KeepsR [Reg.PAR_EVT_CNT, Reg.SW_CNT_VAL, Reg.SW_MSEC_STAT, Reg.SUB_CAN_STAT, Reg.SUB_LIN_STAT, Reg.TLY_CNT0, Reg.EVT_LINK_CNT] [.records, .owed, .rings, .evt, .queue, .chain, .proxies, .loss, .wire, .sub, .flt, .out] s (execLinkRecoveryRetry link ok s) := by
  unfold execLinkRecoveryRetry
  try dsimp only
  with_reducible refine KeepsR.next ?_
  with_reducible refine Keeps.ite (fun _ => ?_) (fun _ => ?_)
  with_reducible exact Keeps.refl _
  with_reducible refine Keeps.ite (fun _ => ?_) (fun _ => ?_)
  with_reducible refine (showBuses_keeps _).then_ (by decide) (by decide) ?_
  with_reducible refine (linkFault_keeps _ _ _ _).then_ (by decide) (by decide) ?_
  with_reducible refine Keeps.bump (in_EVT_LINK_CNT_RETRAINS _) (by decide) ?_
  with_reducible refine Keeps.rebuilt ?_ ?_ ?_
  · with_reducible exact .inr ⟨rfl, rfl, rfl⟩
  · with_reducible exact ⟨.inr rfl, .inr rfl, .inr rfl, .inr rfl, .inr rfl, .inr rfl, .inr rfl, .inr rfl, .inr rfl, .inr rfl, .inr rfl, .inr rfl, .inr rfl, .inr rfl, .inl (by decide), .inl (by decide), .inl (by decide), .inr rfl, .inr rfl, .inr rfl, .inl (by decide), .inr rfl, .inr rfl, .inl (by decide), .inr rfl, .inr rfl, .inr rfl, .inr rfl, .inr rfl, .inr rfl, .inl (by decide), .inr rfl⟩
  with_reducible refine Keeps.wr (in_EVT_LINK_CNT_LANES _) (by decide) ?_
  with_reducible exact Keeps.refl _
  with_reducible refine Keeps.set_flt (by decide) ?_
  with_reducible refine Keeps.wr (in_EVT_LINK_CNT_LANES _) (by decide) ?_
  with_reducible exact Keeps.refl _

theorem execCdLinkSilence_keeps (s : State) :
    KeepsR [Reg.PWR_DOM_STATUS, Reg.CHN_ATTACH, Reg.PAR_STATE, Reg.PAR_EVT_CNT, Reg.ACT_SAFE_STATUS, Reg.ACT_CNT, Reg.HS_STATE, Reg.HB_STATE, Reg.SV_STATE, Reg.SV_KRES, Reg.SV_CNT2, Reg.LED_STATE, Reg.FIO_CAUSE, Reg.SIN_SCHED, Reg.SIN_STREAMS, Reg.SW_CNT_VAL, Reg.SW_MSEC_STAT, Reg.TLY_CNT0, Reg.EVT_CDLOSS] [.records, .freeCtr, .spar, .pwr, .owed, .rng, .rings, .evt, .queue, .proxies, .act, .chs, .loss, .sns, .wire, .out] s (execCdLinkSilence s) := by
  unfold execCdLinkSilence
  try dsimp only
  with_reducible refine KeepsR.next ?_
  with_reducible refine Keeps.ite (fun _ => ?_) (fun _ => ?_)
  with_reducible refine (showDomains_keeps _).then_ (by decide) (by decide) ?_
  with_reducible refine (controlLost_keeps _ _).then_ (by decide) (by decide) ?_
  with_reducible exact Keeps.refl _
  with_reducible exact Keeps.refl _

theorem deliverHeld_keeps (s : State) (x : HeldEv) :
    Keeps [Reg.PAR_EVT_CNT, Reg.SW_CNT_VAL, Reg.SW_MSEC_STAT, Reg.TLY_CNT0] [.records, .owed, .rings, .evt, .queue, .proxies, .loss, .wire, .out] s (deliverHeld s x) := by
  unfold deliverHeld
  try dsimp only
  with_reducible refine (sQueueFull_keeps _ _ _).then_ (by decide) (by decide) ?_
  with_reducible refine (raiseOne_keeps _ _ _ _ _ _).then_ (by decide) (by decide) ?_
  with_reducible exact Keeps.refl _

theorem execHeldEventDelivery_keeps (part : Fin 8) (s : State) :
    KeepsR [Reg.PAR_EVT_CNT, Reg.SW_CNT_VAL, Reg.SW_MSEC_STAT, Reg.TLY_CNT0] [.records, .owed, .rings, .evt, .queue, .proxies, .loss, .wire, .out] s (execHeldEventDelivery part s) := by
  unfold execHeldEventDelivery
  try dsimp only
  with_reducible refine KeepsR.next ?_
  with_reducible refine Keeps.ite (fun _ => ?_) (fun _ => ?_)
  with_reducible exact Keeps.refl _
  with_reducible refine Keeps.foldl (fun _ _ => ?_) _ ?_
  with_reducible refine (deliverHeld_keeps _ _).then_ (by decide) (by decide) ?_
  with_reducible exact Keeps.refl _
  with_reducible refine Keeps.set_evt (by decide) ?_
  with_reducible refine Keeps.bump (in_PAR_EVT_CNT_EV_LOST _) (by decide) ?_
  with_reducible exact Keeps.refl _

theorem execLockstepFault_keeps (pair : Fin 2) (mcycle : Nat) (s : State) :
    KeepsR [Reg.PAR_EVT_CNT, Reg.SW_CNT_VAL, Reg.SW_MSEC_STAT, Reg.TLY_CNT0, Reg.EVT_INJ_STATUS] [.records, .owed, .rings, .evt, .queue, .proxies, .loss, .wire, .brd, .flt, .out] s (execLockstepFault pair mcycle s) := by
  unfold execLockstepFault
  try dsimp only
  with_reducible refine KeepsR.whileCd ?_
  with_reducible refine Keeps.ite (fun _ => ?_) (fun _ => ?_)
  with_reducible exact Keeps.refl _
  with_reducible refine (tally_keeps _ _ _).then_ (by decide) (by decide) ?_
  with_reducible refine (raise_keeps _ _ _ _ _).then_ (by decide) (by decide) ?_
  with_reducible refine Keeps.set_brd (by decide) ?_
  with_reducible refine (takeInj_keeps _ _ _).then_ (by decide) (by decide) ?_
  with_reducible exact Keeps.refl _

end Sys2Proof.Machine
end

