-- ==== Sys2Proof/Laws/Flags.lean ====
section
/-! SUPPORT.
What the operations of Machine/Flags.lean change, and that they keep a sound state sound.
-/

namespace Sys2Proof.Machine

theorem countCause_keeps (s : State) (cause : Nat) :
    Keeps [Reg.BRD_CNT0, Reg.BRD_CNT1, Reg.BRD_CNT2, Reg.BRD_CNT3] [] s (countCause s cause) := by
  unfold countCause
  try dsimp only
  split
  with_reducible refine Keeps.bump (in_BRD_CNT0_BAD_CHECK) (by decide) ?_
  with_reducible exact Keeps.refl _
  with_reducible refine Keeps.bump (in_BRD_CNT0_GAP) (by decide) ?_
  with_reducible exact Keeps.refl _
  with_reducible refine Keeps.bump (in_BRD_CNT1_REORDER) (by decide) ?_
  with_reducible exact Keeps.refl _
  with_reducible refine Keeps.bump (in_BRD_CNT1_STALE) (by decide) ?_
  with_reducible exact Keeps.refl _
  with_reducible refine Keeps.bump (in_BRD_CNT2_LINEAGE) (by decide) ?_
  with_reducible exact Keeps.refl _
  with_reducible refine Keeps.bump (in_BRD_CNT2_ORIGIN) (by decide) ?_
  with_reducible exact Keeps.refl _
  with_reducible refine Keeps.bump (in_BRD_CNT3_MISMATCHES) (by decide) ?_
  with_reducible exact Keeps.refl _
  with_reducible exact Keeps.refl _

theorem brandFault_keeps (s : State) (point : Nat) (cause : Nat) (owner : Nat) (stream : Nat) (seq : Nat) :
    Keeps [Reg.PAR_EVT_CNT, Reg.SW_CNT_VAL, Reg.SW_MSEC_STAT, Reg.BRD_CNT0, Reg.BRD_CNT1, Reg.BRD_CNT2, Reg.BRD_CNT3, Reg.TLY_CNT0] [.records, .owed, .rings, .evt, .queue, .proxies, .loss, .wire, .out] s (brandFault s point cause owner stream seq) := by
  unfold brandFault
  try dsimp only
  with_reducible refine Keeps.ite (fun _ => ?_) (fun _ => ?_)
  with_reducible refine Keeps.ite (fun _ => ?_) (fun _ => ?_)
  with_reducible refine (countCause_keeps _ _).then_ (by decide) (by decide) ?_
  with_reducible exact Keeps.refl _
  with_reducible exact Keeps.refl _
  with_reducible refine Keeps.ite (fun _ => ?_) (fun _ => ?_)
  with_reducible exact Keeps.refl _
  with_reducible refine (raise_keeps _ _ _ _ _).then_ (by decide) (by decide) ?_
  with_reducible refine (countCause_keeps _ _).then_ (by decide) (by decide) ?_
  with_reducible exact Keeps.refl _

end Sys2Proof.Machine
end

