-- ==== Sys2Proof/Laws/Sense.lean ====
section
/-! SUPPORT.
What the operations of Machine/Sense.lean change, and that they keep a sound state sound.
-/

namespace Sys2Proof.Machine

theorem pinSays_keeps (s : State) (n : Nat) (mv : Nat) (vspar : Nat) :
    Keeps [] [.freeCtr] s (pinSays s n mv vspar).1 := by
  unfold pinSays
  try dsimp only
  split
  with_reducible exact Keeps.refl _
  split
  with_reducible exact Keeps.refl _
  split
  with_reducible refine (freeNext_keeps _).then_ (by decide) (by decide) ?_
  with_reducible exact Keeps.refl _
  split
  with_reducible refine (freeNext_keeps _).then_ (by decide) (by decide) ?_
  with_reducible exact Keeps.refl _
  with_reducible exact Keeps.refl _

theorem readPin_keeps (s0 : State) (n : Nat) (mv : Nat) (vspar : Nat) :
    Keeps [] [.freeCtr, .sns] s0 (readPin s0 n mv vspar) := by
  unfold readPin
  try dsimp only
  split
  with_reducible refine Keeps.set_sns (by decide) ?_
  with_reducible refine (pinSays_keeps _ _ _ _).then_ (by decide) (by decide) ?_
  with_reducible exact Keeps.refl _
  with_reducible refine Keeps.ite (fun _ => ?_) (fun _ => ?_)
  with_reducible refine (pinSays_keeps _ _ _ _).then_ (by decide) (by decide) ?_
  with_reducible exact Keeps.refl _
  with_reducible refine Keeps.set_sns (by decide) ?_
  with_reducible refine (freeNext_keeps _).then_ (by decide) (by decide) ?_
  with_reducible refine (pinSays_keeps _ _ _ _).then_ (by decide) (by decide) ?_
  with_reducible exact Keeps.refl _

theorem debounce_keeps (s : State) (n : Nat) (need : Nat) :
    Keeps [Reg.SIN_LEVEL] [.sns] s (debounce s n need).1 := by
  unfold debounce
  try dsimp only
  split
  with_reducible refine Keeps.rebuilt ?_ ?_ ?_
  · with_reducible exact .inr ⟨rfl, rfl, rfl⟩
  · with_reducible exact ⟨.inr rfl, .inr rfl, .inr rfl, .inr rfl, .inr rfl, .inr rfl, .inr rfl, .inr rfl, .inr rfl, .inr rfl, .inr rfl, .inr rfl, .inr rfl, .inr rfl, .inr ⟨rfl, rfl, rfl⟩, .inr rfl, .inr ⟨rfl, rfl⟩, .inr rfl, .inr rfl, .inr rfl, .inr ⟨rfl, rfl⟩, .inl (by decide), .inr rfl, .inr ⟨rfl, rfl, rfl⟩, .inr rfl, .inr rfl, .inr rfl, .inr rfl, .inr rfl, .inr rfl, .inr rfl, .inr rfl⟩
  with_reducible exact Keeps.refl _
  split
  with_reducible refine Keeps.rebuilt ?_ ?_ ?_
  · with_reducible exact .inr ⟨rfl, rfl, rfl⟩
  · with_reducible exact ⟨.inr rfl, .inr rfl, .inr rfl, .inr rfl, .inr rfl, .inr rfl, .inr rfl, .inr rfl, .inr rfl, .inr rfl, .inr rfl, .inr rfl, .inr rfl, .inr rfl, .inr ⟨rfl, rfl, rfl⟩, .inr rfl, .inr ⟨rfl, rfl⟩, .inr rfl, .inr rfl, .inr rfl, .inr ⟨rfl, rfl⟩, .inl (by decide), .inr rfl, .inr ⟨rfl, rfl, rfl⟩, .inr rfl, .inr rfl, .inr rfl, .inr rfl, .inr rfl, .inr rfl, .inr rfl, .inr rfl⟩
  with_reducible refine Keeps.wr (in_SIN_LEVEL_LEVEL) (by decide) ?_
  with_reducible exact Keeps.refl _
  with_reducible refine Keeps.rebuilt ?_ ?_ ?_
  · with_reducible exact .inr ⟨rfl, rfl, rfl⟩
  · with_reducible exact ⟨.inr rfl, .inr rfl, .inr rfl, .inr rfl, .inr rfl, .inr rfl, .inr rfl, .inr rfl, .inr rfl, .inr rfl, .inr rfl, .inr rfl, .inr rfl, .inr rfl, .inr ⟨rfl, rfl, rfl⟩, .inr rfl, .inr ⟨rfl, rfl⟩, .inr rfl, .inr rfl, .inr rfl, .inr ⟨rfl, rfl⟩, .inl (by decide), .inr rfl, .inr ⟨rfl, rfl, rfl⟩, .inr rfl, .inr rfl, .inr rfl, .inr rfl, .inr rfl, .inr rfl, .inr rfl, .inr rfl⟩
  with_reducible exact Keeps.refl _

theorem sampleInput_keeps (mv : List Nat) (vspar : Nat) (s : State) (n : Nat) :
    Keeps [Reg.PAR_EVT_CNT, Reg.SIN_LEVEL, Reg.SIN_SNS_CNT, Reg.SW_CNT_VAL, Reg.SW_MSEC_STAT, Reg.TLY_CNT0] [.memory, .records, .freeCtr, .owed, .rings, .evt, .queue, .proxies, .loss, .sns, .wire, .out] s (sampleInput mv vspar s n) := by
  unfold sampleInput
  try dsimp only
  with_reducible refine Keeps.ite (fun _ => ?_) (fun _ => ?_)
  with_reducible exact Keeps.refl _
  with_reducible refine Keeps.ite (fun _ => ?_) (fun _ => ?_)
  with_reducible refine Keeps.ite (fun _ => ?_) (fun _ => ?_)
  with_reducible refine (raise_keeps _ _ _ _ _).then_ (by decide) (by decide) ?_
  with_reducible refine (edgeSamples_keeps _ _ _).then_ (by decide) (by decide) ?_
  with_reducible refine (debounce_keeps _ _ _).then_ (by decide) (by decide) ?_
  with_reducible refine (readPin_keeps _ _ _ _).then_ (by decide) (by decide) ?_
  with_reducible exact Keeps.refl _
  with_reducible refine (edgeSamples_keeps _ _ _).then_ (by decide) (by decide) ?_
  with_reducible refine (debounce_keeps _ _ _).then_ (by decide) (by decide) ?_
  with_reducible refine (readPin_keeps _ _ _ _).then_ (by decide) (by decide) ?_
  with_reducible exact Keeps.refl _
  with_reducible refine (debounce_keeps _ _ _).then_ (by decide) (by decide) ?_
  with_reducible refine (readPin_keeps _ _ _ _).then_ (by decide) (by decide) ?_
  with_reducible exact Keeps.refl _

theorem execInputSample_keeps (mv : List Nat) (vspar : Nat) (s : State) :
    KeepsR [Reg.PAR_EVT_CNT, Reg.SIN_LEVEL, Reg.SIN_SNS_CNT, Reg.SW_CNT_VAL, Reg.SW_MSEC_STAT, Reg.TLY_CNT0] [.memory, .records, .freeCtr, .owed, .rings, .evt, .queue, .proxies, .loss, .sns, .wire, .out] s (execInputSample mv vspar s) := by
  unfold execInputSample
  try dsimp only
  with_reducible refine KeepsR.whileCd ?_
  with_reducible refine Keeps.ite (fun _ => ?_) (fun _ => ?_)
  with_reducible refine Keeps.foldl (fun _ _ => ?_) _ ?_
  with_reducible refine (sampleInput_keeps _ _ _ _).then_ (by decide) (by decide) ?_
  with_reducible exact Keeps.refl _
  with_reducible exact Keeps.refl _
  with_reducible exact Keeps.refl _

theorem burstInput_keeps (mv : List Nat) (vspar : Nat) (s : State) (n : Nat) :
    Keeps [Reg.every] [.memory, .records, .layout, .freeCtr, .latches, .spar, .dt, .pwr, .owed, .banks, .par, .rng, .rings, .evt, .queue, .chain, .proxies, .act, .chs, .scl, .loss, .sns, .sw, .wire, .sub, .brd, .inf, .sto, .sec, .flt, .out] s (burstInput mv vspar s n) := by
  unfold burstInput
  try dsimp only
  with_reducible refine Keeps.ite (fun _ => ?_) (fun _ => ?_)
  with_reducible exact Keeps.refl _
  split
  with_reducible refine (debounce_keeps _ _ _).then_ (by decide) (by decide) ?_
  with_reducible refine (readPin_keeps _ _ _ _).then_ (by decide) (by decide) ?_
  with_reducible exact Keeps.refl _
  with_reducible refine Keeps.ite (fun _ => ?_) (fun _ => ?_)
  with_reducible refine Keeps.set_sns (by decide) ?_
  with_reducible refine (debounce_keeps _ _ _).then_ (by decide) (by decide) ?_
  with_reducible refine (readPin_keeps _ _ _ _).then_ (by decide) (by decide) ?_
  with_reducible exact Keeps.refl _
  with_reducible refine Keeps.ite (fun _ => ?_) (fun _ => ?_)
  with_reducible refine Keeps.set_sns (by decide) ?_
  with_reducible refine (debounce_keeps _ _ _).then_ (by decide) (by decide) ?_
  with_reducible refine (readPin_keeps _ _ _ _).then_ (by decide) (by decide) ?_
  with_reducible exact Keeps.refl _
  with_reducible refine Keeps.ite (fun _ => ?_) (fun _ => ?_)
  with_reducible refine (acceptWake_keeps _ _ _).then_ (by decide) (by decide) ?_
  with_reducible refine Keeps.set_sns (by decide) ?_
  with_reducible refine (debounce_keeps _ _ _).then_ (by decide) (by decide) ?_
  with_reducible refine (readPin_keeps _ _ _ _).then_ (by decide) (by decide) ?_
  with_reducible exact Keeps.refl _
  with_reducible refine Keeps.set_sns (by decide) ?_
  with_reducible refine (debounce_keeps _ _ _).then_ (by decide) (by decide) ?_
  with_reducible refine (readPin_keeps _ _ _ _).then_ (by decide) (by decide) ?_
  with_reducible exact Keeps.refl _

theorem execCyclicBurst_keeps (mv : List Nat) (vspar : Nat) (s : State) :
    KeepsR [Reg.every] [.memory, .records, .layout, .freeCtr, .latches, .spar, .dt, .pwr, .owed, .banks, .par, .rng, .rings, .evt, .queue, .chain, .proxies, .act, .chs, .scl, .loss, .sns, .sw, .wire, .sub, .brd, .inf, .sto, .sec, .flt, .out] s (execCyclicBurst mv vspar s) := by
  unfold execCyclicBurst
  try dsimp only
  with_reducible refine KeepsR.next ?_
  with_reducible refine Keeps.ite (fun _ => ?_) (fun _ => ?_)
  with_reducible refine Keeps.ite (fun _ => ?_) (fun _ => ?_)
  with_reducible refine Keeps.set_sns (by decide) ?_
  with_reducible refine Keeps.foldl (fun _ _ => ?_) _ ?_
  with_reducible refine (burstInput_keeps _ _ _ _).then_ (by decide) (by decide) ?_
  with_reducible exact Keeps.refl _
  with_reducible refine Keeps.set_sns (by decide) ?_
  with_reducible exact Keeps.refl _
  with_reducible refine Keeps.foldl (fun _ _ => ?_) _ ?_
  with_reducible refine (burstInput_keeps _ _ _ _).then_ (by decide) (by decide) ?_
  with_reducible exact Keeps.refl _
  with_reducible refine Keeps.set_sns (by decide) ?_
  with_reducible exact Keeps.refl _
  with_reducible exact Keeps.refl _

theorem execAnalogConvert_keeps (m : Fin 16) (value : Nat) (s : State) :
    KeepsR [Reg.PAR_EVT_CNT, Reg.SIN_ANA, Reg.SIN_AFLT, Reg.SW_CNT_VAL, Reg.SW_MSEC_STAT, Reg.TLY_CNT0] [.records, .owed, .rings, .evt, .queue, .proxies, .loss, .sns, .wire, .out] s (execAnalogConvert m value s) := by
  unfold execAnalogConvert
  try dsimp only
  with_reducible refine KeepsR.next ?_
  with_reducible refine Keeps.ite (fun _ => ?_) (fun _ => ?_)
  with_reducible exact Keeps.refl _
  with_reducible refine Keeps.ite (fun _ => ?_) (fun _ => ?_)
  with_reducible refine Keeps.wr (in_SIN_AFLT_AFAULT) (by decide) ?_
  with_reducible refine Keeps.wr (in_SIN_ANA_VALUE _) (by decide) ?_
  with_reducible refine Keeps.set_sns (by decide) ?_
  with_reducible exact Keeps.refl _
  with_reducible refine (raise_keeps _ _ _ _ _).then_ (by decide) (by decide) ?_
  with_reducible refine Keeps.wr (in_SIN_AFLT_AFAULT) (by decide) ?_
  with_reducible refine Keeps.wr (in_SIN_ANA_VALUE _) (by decide) ?_
  with_reducible refine Keeps.set_sns (by decide) ?_
  with_reducible exact Keeps.refl _

theorem execAdcCalibrate_keeps (adc : Fin 16) (departure : Int) (s : State) :
    KeepsR [Reg.PAR_EVT_CNT, Reg.SIN_CAL, Reg.SW_CNT_VAL, Reg.SW_MSEC_STAT, Reg.TLY_CNT0] [.records, .owed, .rings, .evt, .queue, .proxies, .loss, .wire, .out] s (execAdcCalibrate adc departure s) := by
  unfold execAdcCalibrate
  try dsimp only
  with_reducible refine KeepsR.next ?_
  with_reducible refine Keeps.ite (fun _ => ?_) (fun _ => ?_)
  with_reducible exact Keeps.refl _
  with_reducible refine (raise_keeps _ _ _ _ _).then_ (by decide) (by decide) ?_
  with_reducible refine Keeps.bump (in_SIN_CAL_CAL_FAILS) (by decide) ?_
  with_reducible refine Keeps.ite (fun _ => ?_) (fun _ => ?_)
  with_reducible refine Keeps.orF (in_SIN_CAL_CAL_DEGR) (by decide) ?_
  with_reducible exact Keeps.refl _
  with_reducible refine Keeps.orF (in_SIN_CAL_SV_CAL_DEGR) (by decide) ?_
  with_reducible exact Keeps.refl _

theorem clearBlks_keeps (s : State) (x : Strm) :
    Keeps [] [.memory, .records] s (clearBlks s x) := by
  unfold clearBlks
  try dsimp only
  with_reducible refine Keeps.foldl (fun _ _ => ?_) _ ?_
  with_reducible refine Keeps.writeBytes (by decide) ?_
  with_reducible exact Keeps.refl _
  with_reducible exact Keeps.refl _

theorem execSnsOpen_keeps (h : DHdr) (b : List Byte) (s : State) :
    KeepsR [Reg.PAR_FAULT, Reg.PAR_EVT_CNT, Reg.SIN_SCHED, Reg.SIN_STREAMS, Reg.SW_CNT_VAL, Reg.SW_MSEC_STAT, Reg.TLY_CNT0] [.memory, .records, .owed, .rng, .rings, .evt, .queue, .proxies, .loss, .sns, .wire, .out] s (execSnsOpen h b s) := by
  unfold execSnsOpen
  try dsimp only
  with_reducible refine descr_keeps (by decide) (fun _ => ?_)
  with_reducible refine Keeps.ite (fun _ => ?_) (fun _ => ?_)
  with_reducible refine (complete_keeps _ _ _ _ _ _).then_ (by decide) (by decide) ?_
  with_reducible exact Keeps.refl _
  with_reducible refine Keeps.ite (fun _ => ?_) (fun _ => ?_)
  with_reducible refine (complete_keeps _ _ _ _ _ _).then_ (by decide) (by decide) ?_
  with_reducible exact Keeps.refl _
  with_reducible refine Keeps.ite (fun _ => ?_) (fun _ => ?_)
  with_reducible refine (complete_keeps _ _ _ _ _ _).then_ (by decide) (by decide) ?_
  with_reducible exact Keeps.refl _
  split
  with_reducible refine (completeFault_keeps _ _ _ _ _).then_ (by decide) (by decide) ?_
  with_reducible exact Keeps.refl _
  with_reducible refine Keeps.ite (fun _ => ?_) (fun _ => ?_)
  with_reducible refine (complete_keeps _ _ _ _ _ _).then_ (by decide) (by decide) ?_
  with_reducible exact Keeps.refl _
  with_reducible refine Keeps.ite (fun _ => ?_) (fun _ => ?_)
  with_reducible refine (complete_keeps _ _ _ _ _ _).then_ (by decide) (by decide) ?_
  with_reducible exact Keeps.refl _
  with_reducible refine (complete_keeps _ _ _ _ _ _).then_ (by decide) (by decide) ?_
  with_reducible refine (showStreams_keeps _).then_ (by decide) (by decide) ?_
  with_reducible refine Keeps.set_sns (by decide) ?_
  with_reducible refine (clearBlks_keeps _ _).then_ (by decide) (by decide) ?_
  with_reducible exact Keeps.refl _

theorem tryClose_keeps (s : State) (p : Nat) (slot : Nat) :
    Keeps [Reg.SIN_SCHED, Reg.SIN_STREAMS, Reg.SW_CNT_VAL, Reg.SW_MSEC_STAT] [.records, .owed, .rng, .rings, .proxies, .sns, .wire, .out] s (tryClose s p slot) := by
  unfold tryClose
  try dsimp only
  split
  with_reducible exact Keeps.refl _
  split
  with_reducible refine Keeps.ite (fun _ => ?_) (fun _ => ?_)
  with_reducible refine (complete_keeps _ _ _ _ _ _).then_ (by decide) (by decide) ?_
  with_reducible refine (endStrm_keeps _ _ _).then_ (by decide) (by decide) ?_
  with_reducible exact Keeps.refl _
  with_reducible exact Keeps.refl _
  with_reducible exact Keeps.refl _

theorem execSnsClose_keeps (h : DHdr) (b : List Byte) (samples : List Byte) (back : Nat) (s : State) :
    KeepsR [Reg.PAR_EVT_CNT, Reg.SIN_SCHED, Reg.SIN_SNS_CNT, Reg.SIN_STREAMS, Reg.SW_CNT_VAL, Reg.SW_MSEC_STAT, Reg.TLY_CNT0] [.memory, .records, .owed, .rng, .rings, .evt, .queue, .proxies, .loss, .sns, .wire, .out] s (execSnsClose h b samples back s) := by
  unfold execSnsClose
  try dsimp only
  with_reducible refine descr_keeps (by decide) (fun _ => ?_)
  with_reducible refine Keeps.ite (fun _ => ?_) (fun _ => ?_)
  with_reducible refine (complete_keeps _ _ _ _ _ _).then_ (by decide) (by decide) ?_
  with_reducible exact Keeps.refl _
  split
  with_reducible refine (complete_keeps _ _ _ _ _ _).then_ (by decide) (by decide) ?_
  with_reducible exact Keeps.refl _
  with_reducible refine Keeps.ite (fun _ => ?_) (fun _ => ?_)
  with_reducible refine (complete_keeps _ _ _ _ _ _).then_ (by decide) (by decide) ?_
  with_reducible exact Keeps.refl _
  with_reducible refine (tryClose_keeps _ _ _).then_ (by decide) (by decide) ?_
  with_reducible refine (setStrm_keeps _ _).then_ (by decide) (by decide) ?_
  with_reducible refine Keeps.ite (fun _ => ?_) (fun _ => ?_)
  with_reducible refine (completeBlock_keeps _ _ _ _ _).then_ (by decide) (by decide) ?_
  with_reducible exact Keeps.refl _
  with_reducible refine (completeBlock_keeps _ _ _ _ _).then_ (by decide) (by decide) ?_
  with_reducible exact Keeps.refl _

theorem execStreamRelease_keeps (h : DHdr) (b : List Byte) (s : State) :
    KeepsR [Reg.SW_CNT_VAL, Reg.SW_MSEC_STAT] [.records, .owed, .rng, .rings, .proxies, .sns, .wire, .out] s (execStreamRelease h b s) := by
  unfold execStreamRelease
  try dsimp only
  with_reducible refine descr_keeps (by decide) (fun _ => ?_)
  with_reducible refine Keeps.ite (fun _ => ?_) (fun _ => ?_)
  with_reducible refine (complete_keeps _ _ _ _ _ _).then_ (by decide) (by decide) ?_
  with_reducible exact Keeps.refl _
  split
  with_reducible refine (complete_keeps _ _ _ _ _ _).then_ (by decide) (by decide) ?_
  with_reducible exact Keeps.refl _
  with_reducible refine Keeps.ite (fun _ => ?_) (fun _ => ?_)
  with_reducible refine (complete_keeps _ _ _ _ _ _).then_ (by decide) (by decide) ?_
  with_reducible exact Keeps.refl _
  with_reducible refine (complete_keeps _ _ _ _ _ _).then_ (by decide) (by decide) ?_
  with_reducible refine (setStrm_keeps _ _).then_ (by decide) (by decide) ?_
  with_reducible exact Keeps.refl _

theorem execSnsRead_keeps (h : DHdr) (b : List Byte) (s : State) :
    KeepsR [Reg.SW_CNT_VAL, Reg.SW_MSEC_STAT] [.records, .freeCtr, .owed, .rng, .rings, .proxies, .wire, .out] s (execSnsRead h b s) := by
  unfold execSnsRead
  try dsimp only
  with_reducible refine descr_keeps (by decide) (fun _ => ?_)
  with_reducible refine Keeps.ite (fun _ => ?_) (fun _ => ?_)
  with_reducible refine (complete_keeps _ _ _ _ _ _).then_ (by decide) (by decide) ?_
  with_reducible exact Keeps.refl _
  with_reducible refine Keeps.ite (fun _ => ?_) (fun _ => ?_)
  with_reducible refine (complete_keeps _ _ _ _ _ _).then_ (by decide) (by decide) ?_
  with_reducible exact Keeps.refl _
  with_reducible refine Keeps.ite (fun _ => ?_) (fun _ => ?_)
  with_reducible refine (complete_keeps _ _ _ _ _ _).then_ (by decide) (by decide) ?_
  with_reducible exact Keeps.refl _
  with_reducible refine (complete_keeps _ _ _ _ _ _).then_ (by decide) (by decide) ?_
  with_reducible refine Keeps.ite (fun _ => ?_) (fun _ => ?_)
  with_reducible refine (freeNext_keeps _).then_ (by decide) (by decide) ?_
  with_reducible exact Keeps.refl _
  with_reducible exact Keeps.refl _

theorem execBlockComplete_keeps (part : Fin 8) (slot : Fin 16) (samples : List Byte) (back : Nat) (s : State) :
    KeepsR [Reg.PAR_EVT_CNT, Reg.SIN_SNS_CNT, Reg.SW_CNT_VAL, Reg.SW_MSEC_STAT, Reg.TLY_CNT0] [.memory, .records, .owed, .rings, .evt, .queue, .proxies, .loss, .sns, .wire, .out] s (execBlockComplete part slot samples back s) := by
  unfold execBlockComplete
  try dsimp only
  with_reducible refine KeepsR.whileCd ?_
  split
  with_reducible exact Keeps.refl _
  with_reducible refine Keeps.ite (fun _ => ?_) (fun _ => ?_)
  with_reducible refine (completeBlock_keeps _ _ _ _ _).then_ (by decide) (by decide) ?_
  with_reducible exact Keeps.refl _
  with_reducible refine Keeps.ite (fun _ => ?_) (fun _ => ?_)
  with_reducible exact Keeps.refl _
  with_reducible refine (completeBlock_keeps _ _ _ _ _).then_ (by decide) (by decide) ?_
  with_reducible exact Keeps.refl _

end Sys2Proof.Machine
end

