-- ==== Sys2Proof/Laws/Infer.lean ====
section
/-! SUPPORT.
What the operations of Machine/Infer.lean change, and that they keep a sound state sound.
-/

namespace Sys2Proof.Machine

theorem setCtx_keeps (s : State) (c : Nat) (x : Ctx) :
    Keeps [] [.inf] s (setCtx s c x) := by
  unfold setCtx
  try dsimp only
  with_reducible refine Keeps.set_inf (by decide) ?_
  with_reducible exact Keeps.refl _

theorem setChState_keeps (s : State) (ch : Nat) (v : Nat) :
    Keeps [Reg.INF_CH_STAT] [] s (setChState s ch v) := by
  unfold setChState
  try dsimp only
  with_reducible refine Keeps.ite (fun _ => ?_) (fun _ => ?_)
  with_reducible refine Keeps.wr (in_INF_CH_STAT_A_STATE) (by decide) ?_
  with_reducible exact Keeps.refl _
  with_reducible refine Keeps.wr (in_INF_CH_STAT_B_STATE) (by decide) ?_
  with_reducible exact Keeps.refl _

theorem setInfCh_keeps (s : State) (ch : Nat) (x : InfChan) :
    Keeps [] [.inf] s (setInfCh s ch x) := by
  unfold setInfCh
  try dsimp only
  with_reducible refine Keeps.set_inf (by decide) ?_
  with_reducible exact Keeps.refl _

theorem setJob_keeps (s : State) (j : InfJob) :
    Keeps [] [.inf] s (setJob s j) := by
  unfold setJob
  try dsimp only
  with_reducible refine Keeps.set_inf (by decide) ?_
  with_reducible exact Keeps.refl _

theorem ctxReady_keeps (s : State) (c : Nat) (x : Ctx) (execA : Nat) (execB : Nat) :
    Keeps [Reg.INF_CTX_STAT, Reg.INF_CTX_EXEC, Reg.INF_MEM] [.inf] s (ctxReady s c x execA execB) := by
  unfold ctxReady
  try dsimp only
  with_reducible refine Keeps.wr (in_INF_CTX_EXEC_EXEC_B _) (by decide) ?_
  with_reducible refine Keeps.wr (in_INF_CTX_EXEC_EXEC_A _) (by decide) ?_
  with_reducible refine Keeps.wr (in_INF_CTX_STAT_IMAGE_ID _) (by decide) ?_
  with_reducible refine Keeps.put (in_INF_CTX_STAT_JCLASS _) (by decide) ?_
  with_reducible refine Keeps.wr (in_INF_CTX_STAT_MODE _) (by decide) ?_
  with_reducible refine Keeps.wr (in_INF_CTX_STAT_STATE _) (by decide) ?_
  with_reducible refine Keeps.wr (in_INF_MEM_B_FREE) (by decide) ?_
  with_reducible refine Keeps.wr (in_INF_MEM_A_FREE) (by decide) ?_
  with_reducible refine (setCtx_keeps _ _ _).then_ (by decide) (by decide) ?_
  with_reducible exact Keeps.refl _

theorem loadEvent_keeps (s : State) (c : Nat) (again : Nat) :
    Keeps [Reg.PAR_EVT_CNT, Reg.SW_CNT_VAL, Reg.SW_MSEC_STAT, Reg.TLY_CNT0] [.records, .owed, .rings, .evt, .queue, .proxies, .loss, .wire, .out] s (loadEvent s c again) := by
  unfold loadEvent
  try dsimp only
  with_reducible refine (raise_keeps _ _ _ _ _).then_ (by decide) (by decide) ?_
  with_reducible exact Keeps.refl _

theorem startLoad_keeps (h : DHdr) (b : List Byte) (out : Nat) (s : State) (img : List Byte) :
    Keeps [Reg.INF_CTX_STAT] [.inf] s (startLoad h b out s img) := by
  unfold startLoad
  try dsimp only
  with_reducible refine Keeps.wr (in_INF_CTX_STAT_STATE _) (by decide) ?_
  with_reducible refine (setCtx_keeps _ _ _).then_ (by decide) (by decide) ?_
  with_reducible exact Keeps.refl _

theorem execInfLoad_keeps (h : DHdr) (b : List Byte) (s : State) :
    KeepsR [Reg.PAR_FAULT, Reg.PAR_EVT_CNT, Reg.SW_CNT_VAL, Reg.SW_MSEC_STAT, Reg.INF_CTX_STAT, Reg.TLY_CNT0] [.records, .freeCtr, .owed, .banks, .rng, .rings, .evt, .queue, .proxies, .loss, .wire, .inf, .out] s (execInfLoad h b s) := by
  unfold execInfLoad
  try dsimp only
  with_reducible refine descr_keeps (by decide) (fun _ => ?_)
  with_reducible refine Keeps.ite (fun _ => ?_) (fun _ => ?_)
  with_reducible refine (complete_keeps _ _ _ _ _ _).then_ (by decide) (by decide) ?_
  with_reducible exact Keeps.refl _
  with_reducible refine Keeps.ite (fun _ => ?_) (fun _ => ?_)
  with_reducible refine (complete_keeps _ _ _ _ _ _).then_ (by decide) (by decide) ?_
  with_reducible exact Keeps.refl _
  with_reducible refine Keeps.ite (fun _ => ?_) (fun _ => ?_)
  with_reducible refine (complete_keeps _ _ _ _ _ _).then_ (by decide) (by decide) ?_
  with_reducible exact Keeps.refl _
  with_reducible refine Keeps.ite (fun _ => ?_) (fun _ => ?_)
  with_reducible refine (complete_keeps _ _ _ _ _ _).then_ (by decide) (by decide) ?_
  with_reducible exact Keeps.refl _
  with_reducible refine Keeps.ite (fun _ => ?_) (fun _ => ?_)
  with_reducible refine (complete_keeps _ _ _ _ _ _).then_ (by decide) (by decide) ?_
  with_reducible exact Keeps.refl _
  with_reducible refine Keeps.trans ?_ (withData_keeps (by decide) (by decide) (fun _ _ => ?_))
  with_reducible exact Keeps.refl _
  with_reducible refine Keeps.ite (fun _ => ?_) (fun _ => ?_)
  with_reducible refine (startLoad_keeps _ _ _ _ _).then_ (by decide) (by decide) ?_
  with_reducible exact Keeps.refl _
  split
  with_reducible refine Keeps.trans ?_ (withData_keeps (by decide) (by decide) (fun _ _ => ?_))
  with_reducible exact Keeps.refl _
  with_reducible refine (startLoad_keeps _ _ _ _ _).then_ (by decide) (by decide) ?_
  with_reducible exact Keeps.refl _
  with_reducible refine (completeFault_keeps _ _ _ _ _).then_ (by decide) (by decide) ?_
  with_reducible exact Keeps.refl _

theorem execInfLoadComplete_keeps (ctx : Fin 16) (execA : Nat) (execB : Nat) (s : State) :
    KeepsR [Reg.PAR_EVT_CNT, Reg.SW_CNT_VAL, Reg.SW_MSEC_STAT, Reg.INF_CTX_STAT, Reg.INF_CTX_EXEC, Reg.INF_MEM, Reg.TLY_CNT0] [.records, .owed, .rng, .rings, .evt, .queue, .proxies, .loss, .wire, .inf, .out] s (execInfLoadComplete ctx execA execB s) := by
  unfold execInfLoadComplete
  try dsimp only
  with_reducible refine KeepsR.next ?_
  split
  with_reducible exact Keeps.refl _
  split
  with_reducible refine (complete_keeps _ _ _ _ _ _).then_ (by decide) (by decide) ?_
  with_reducible refine (freeCtx_keeps _ _).then_ (by decide) (by decide) ?_
  with_reducible exact Keeps.refl _
  with_reducible refine (complete_keeps _ _ _ _ _ _).then_ (by decide) (by decide) ?_
  with_reducible refine (loadEvent_keeps _ _ _).then_ (by decide) (by decide) ?_
  with_reducible refine (ctxReady_keeps _ _ _ _ _).then_ (by decide) (by decide) ?_
  with_reducible exact Keeps.refl _

theorem execInfUnload_keeps (h : DHdr) (b : List Byte) (s : State) :
    KeepsR [Reg.SW_CNT_VAL, Reg.SW_MSEC_STAT, Reg.INF_CTX_STAT, Reg.INF_CTX_EXEC, Reg.INF_MEM] [.records, .owed, .rng, .rings, .proxies, .wire, .inf, .out] s (execInfUnload h b s) := by
  unfold execInfUnload
  try dsimp only
  with_reducible refine descr_keeps (by decide) (fun _ => ?_)
  with_reducible refine Keeps.ite (fun _ => ?_) (fun _ => ?_)
  with_reducible refine (complete_keeps _ _ _ _ _ _).then_ (by decide) (by decide) ?_
  with_reducible exact Keeps.refl _
  with_reducible refine Keeps.ite (fun _ => ?_) (fun _ => ?_)
  with_reducible refine (complete_keeps _ _ _ _ _ _).then_ (by decide) (by decide) ?_
  with_reducible exact Keeps.refl _
  with_reducible refine Keeps.ite (fun _ => ?_) (fun _ => ?_)
  with_reducible refine (complete_keeps _ _ _ _ _ _).then_ (by decide) (by decide) ?_
  with_reducible exact Keeps.refl _
  with_reducible refine Keeps.ite (fun _ => ?_) (fun _ => ?_)
  with_reducible refine (complete_keeps _ _ _ _ _ _).then_ (by decide) (by decide) ?_
  with_reducible exact Keeps.refl _
  with_reducible refine (complete_keeps _ _ _ _ _ _).then_ (by decide) (by decide) ?_
  with_reducible refine (freeCtx_keeps _ _).then_ (by decide) (by decide) ?_
  with_reducible exact Keeps.refl _

theorem execContextReload_keeps (ctx : Fin 16) (execA : Nat) (execB : Nat) (s : State) :
    KeepsR [Reg.PAR_EVT_CNT, Reg.SW_CNT_VAL, Reg.SW_MSEC_STAT, Reg.INF_CTX_STAT, Reg.INF_CTX_EXEC, Reg.INF_MEM, Reg.TLY_CNT0] [.records, .freeCtr, .owed, .banks, .rings, .evt, .queue, .proxies, .loss, .wire, .inf, .out] s (execContextReload ctx execA execB s) := by
  unfold execContextReload
  try dsimp only
  with_reducible refine KeepsR.next ?_
  with_reducible refine Keeps.ite (fun _ => ?_) (fun _ => ?_)
  with_reducible exact Keeps.refl _
  split
  with_reducible refine (raise_keeps _ _ _ _ _).then_ (by decide) (by decide) ?_
  with_reducible refine (freeCtx_keeps _ _).then_ (by decide) (by decide) ?_
  with_reducible refine Keeps.ofFst (by assumption) ?_
  split
  with_reducible refine (fetchData_keeps _ _ _ _).then_ (by decide) (by decide) ?_
  with_reducible exact Keeps.refl _
  with_reducible exact Keeps.refl _
  split
  with_reducible refine (raise_keeps _ _ _ _ _).then_ (by decide) (by decide) ?_
  with_reducible refine (freeCtx_keeps _ _).then_ (by decide) (by decide) ?_
  with_reducible refine Keeps.ofFst (by assumption) ?_
  split
  with_reducible refine (fetchData_keeps _ _ _ _).then_ (by decide) (by decide) ?_
  with_reducible exact Keeps.refl _
  with_reducible exact Keeps.refl _
  with_reducible refine (loadEvent_keeps _ _ _).then_ (by decide) (by decide) ?_
  with_reducible refine (ctxReady_keeps _ _ _ _ _).then_ (by decide) (by decide) ?_
  with_reducible refine Keeps.ofFst (by assumption) ?_
  split
  with_reducible refine (fetchData_keeps _ _ _ _).then_ (by decide) (by decide) ?_
  with_reducible exact Keeps.refl _
  with_reducible exact Keeps.refl _

theorem addJob_keeps (s : State) (j : InfJob) :
    Keeps [] [.inf] s (addJob s j) := by
  unfold addJob
  try dsimp only
  with_reducible refine (setCtx_keeps _ _ _).then_ (by decide) (by decide) ?_
  with_reducible refine Keeps.set_inf (by decide) ?_
  with_reducible exact Keeps.refl _

theorem execInfRun_keeps (h : DHdr) (b : List Byte) (s : State) :
    KeepsR [Reg.PAR_FAULT, Reg.PAR_EVT_CNT, Reg.SW_CNT_VAL, Reg.SW_MSEC_STAT, Reg.TLY_CNT0] [.records, .freeCtr, .owed, .banks, .rng, .rings, .evt, .queue, .proxies, .loss, .wire, .inf, .out] s (execInfRun h b s) := by
  unfold execInfRun
  try dsimp only
  with_reducible refine descr_keeps (by decide) (fun _ => ?_)
  with_reducible refine Keeps.ite (fun _ => ?_) (fun _ => ?_)
  with_reducible refine (complete_keeps _ _ _ _ _ _).then_ (by decide) (by decide) ?_
  with_reducible exact Keeps.refl _
  with_reducible refine Keeps.ite (fun _ => ?_) (fun _ => ?_)
  with_reducible refine (complete_keeps _ _ _ _ _ _).then_ (by decide) (by decide) ?_
  with_reducible exact Keeps.refl _
  with_reducible refine Keeps.ite (fun _ => ?_) (fun _ => ?_)
  with_reducible refine (complete_keeps _ _ _ _ _ _).then_ (by decide) (by decide) ?_
  with_reducible exact Keeps.refl _
  with_reducible refine Keeps.ite (fun _ => ?_) (fun _ => ?_)
  with_reducible refine (complete_keeps _ _ _ _ _ _).then_ (by decide) (by decide) ?_
  with_reducible refine (freeNext_keeps _).then_ (by decide) (by decide) ?_
  with_reducible exact Keeps.refl _
  with_reducible refine Keeps.ite (fun _ => ?_) (fun _ => ?_)
  with_reducible refine (complete_keeps _ _ _ _ _ _).then_ (by decide) (by decide) ?_
  with_reducible exact Keeps.refl _
  split
  with_reducible refine (completeFault_keeps _ _ _ _ _).then_ (by decide) (by decide) ?_
  with_reducible exact Keeps.refl _
  with_reducible refine Keeps.trans ?_ (withData_keeps (by decide) (by decide) (fun _ _ => ?_))
  with_reducible exact Keeps.refl _
  with_reducible refine Keeps.trans ?_ (withData_keeps (by decide) (by decide) (fun _ _ => ?_))
  with_reducible exact Keeps.refl _
  with_reducible refine Keeps.ite (fun _ => ?_) (fun _ => ?_)
  with_reducible refine (complete_keeps _ _ _ _ _ _).then_ (by decide) (by decide) ?_
  with_reducible exact Keeps.refl _
  with_reducible refine (addJob_keeps _ _).then_ (by decide) (by decide) ?_
  with_reducible exact Keeps.refl _

theorem resultWritten_keeps (s : State) (c : Nat) (ch : Nat) :
    Keeps [] [.inf] s (resultWritten s c ch) := by
  unfold resultWritten
  try dsimp only
  with_reducible refine (setCtx_keeps _ _ _).then_ (by decide) (by decide) ?_
  with_reducible exact Keeps.refl _

theorem resultLost_keeps (s : State) (c : Nat) (ch : Nat) :
    Keeps [] [.inf] s (resultLost s c ch) := by
  unfold resultLost
  try dsimp only
  with_reducible refine (setCtx_keeps _ _ _).then_ (by decide) (by decide) ?_
  with_reducible exact Keeps.refl _

theorem forgetJob_keeps (s : State) (id : Nat) :
    Keeps [] [.inf] s (forgetJob s id) := by
  unfold forgetJob
  try dsimp only
  with_reducible refine Keeps.set_inf (by decide) ?_
  with_reducible exact Keeps.refl _

theorem settle_keeps (s : State) (id : Nat) :
    Keeps [Reg.PAR_EVT_CNT, Reg.SW_CNT_VAL, Reg.SW_MSEC_STAT, Reg.INF_CNT3, Reg.TLY_CNT0] [.records, .owed, .rng, .rings, .evt, .queue, .proxies, .loss, .wire, .inf, .out] s (settle s id) := by
  unfold settle
  try dsimp only
  split
  with_reducible exact Keeps.refl _
  with_reducible refine Keeps.ite (fun _ => ?_) (fun _ => ?_)
  with_reducible exact Keeps.refl _
  with_reducible refine (forgetJob_keeps _ _).then_ (by decide) (by decide) ?_
  split
  with_reducible refine (complete_keeps _ _ _ _ _ _).then_ (by decide) (by decide) ?_
  with_reducible refine (setJob_keeps _ _).then_ (by decide) (by decide) ?_
  split
  with_reducible refine (raise_keeps _ _ _ _ _).then_ (by decide) (by decide) ?_
  with_reducible refine Keeps.bump (in_INF_CNT3_MISMATCH_JOBS) (by decide) ?_
  with_reducible refine (charge_keeps _ _ _ _).then_ (by decide) (by decide) ?_
  with_reducible exact Keeps.refl _
  with_reducible refine (charge_keeps _ _ _ _).then_ (by decide) (by decide) ?_
  with_reducible exact Keeps.refl _
  with_reducible refine (setJob_keeps _ _).then_ (by decide) (by decide) ?_
  split
  with_reducible refine (raise_keeps _ _ _ _ _).then_ (by decide) (by decide) ?_
  with_reducible refine Keeps.bump (in_INF_CNT3_MISMATCH_JOBS) (by decide) ?_
  with_reducible refine (charge_keeps _ _ _ _).then_ (by decide) (by decide) ?_
  with_reducible exact Keeps.refl _
  with_reducible refine (charge_keeps _ _ _ _).then_ (by decide) (by decide) ?_
  with_reducible exact Keeps.refl _

theorem windowRead_keeps (s : State) (p : Nat) (slot : Nat) (blk : Nat) :
    Keeps [Reg.SIN_SCHED, Reg.SIN_STREAMS, Reg.SW_CNT_VAL, Reg.SW_MSEC_STAT] [.records, .owed, .rng, .rings, .proxies, .sns, .wire, .out] s (windowRead s p slot blk) := by
  unfold windowRead
  try dsimp only
  split
  with_reducible exact Keeps.refl _
  with_reducible refine (tryClose_keeps _ _ _).then_ (by decide) (by decide) ?_
  with_reducible refine (setStrm_keeps _ _).then_ (by decide) (by decide) ?_
  with_reducible exact Keeps.refl _

theorem startShare_keeps (s : State) (j : InfJob) (ch : Nat) :
    Keeps [Reg.SIN_SCHED, Reg.SIN_STREAMS, Reg.SW_CNT_VAL, Reg.SW_MSEC_STAT] [.records, .owed, .rng, .rings, .proxies, .sns, .wire, .inf, .out] s (startShare s j ch) := by
  unfold startShare
  try dsimp only
  split
  with_reducible refine (windowRead_keeps _ _ _ _).then_ (by decide) (by decide) ?_
  with_reducible refine (setJob_keeps _ _).then_ (by decide) (by decide) ?_
  with_reducible exact Keeps.refl _
  with_reducible refine (setJob_keeps _ _).then_ (by decide) (by decide) ?_
  with_reducible exact Keeps.refl _

theorem takeJob_keeps (s : State) (j : InfJob) (ch : Nat) :
    Keeps [Reg.SIN_SCHED, Reg.SIN_STREAMS, Reg.SW_CNT_VAL, Reg.SW_MSEC_STAT] [.records, .owed, .rng, .rings, .proxies, .sns, .wire, .inf, .out] s (takeJob s j ch) := by
  unfold takeJob
  try dsimp only
  with_reducible refine (startShare_keeps _ _ _).then_ (by decide) (by decide) ?_
  with_reducible refine Keeps.ite (fun _ => ?_) (fun _ => ?_)
  with_reducible exact Keeps.refl _
  with_reducible refine (moveRound_keeps _ _ _ _ _).then_ (by decide) (by decide) ?_
  with_reducible exact Keeps.refl _

theorem execJobStart_keeps (chan : Fin 2) (id : Nat) (s : State) :
    KeepsR [Reg.PAR_EVT_CNT, Reg.SIN_SCHED, Reg.SIN_STREAMS, Reg.SW_CNT_VAL, Reg.SW_MSEC_STAT, Reg.INF_CNT3, Reg.TLY_CNT0] [.records, .owed, .rng, .rings, .evt, .queue, .proxies, .loss, .sns, .wire, .inf, .out] s (execJobStart chan id s) := by
  unfold execJobStart
  try dsimp only
  with_reducible refine KeepsR.next ?_
  split
  with_reducible exact Keeps.refl _
  with_reducible refine Keeps.ite (fun _ => ?_) (fun _ => ?_)
  with_reducible exact Keeps.refl _
  with_reducible refine Keeps.ite (fun _ => ?_) (fun _ => ?_)
  with_reducible refine (settle_keeps _ _).then_ (by decide) (by decide) ?_
  with_reducible refine (resultLost_keeps _ _ _).then_ (by decide) (by decide) ?_
  with_reducible refine (setJob_keeps _ _).then_ (by decide) (by decide) ?_
  with_reducible exact Keeps.refl _
  with_reducible refine Keeps.ite (fun _ => ?_) (fun _ => ?_)
  with_reducible exact Keeps.refl _
  split
  with_reducible refine (takeJob_keeps _ _ _).then_ (by decide) (by decide) ?_
  with_reducible exact Keeps.refl _
  with_reducible refine Keeps.ite (fun _ => ?_) (fun _ => ?_)
  with_reducible refine (takeJob_keeps _ _ _).then_ (by decide) (by decide) ?_
  with_reducible refine (setJob_keeps _ _).then_ (by decide) (by decide) ?_
  with_reducible exact Keeps.refl _
  with_reducible exact Keeps.refl _

theorem jobErr_keeps (s : State) (c : Nat) (ch : Nat) (cause : Nat) (seq : Nat) :
    Keeps [Reg.PAR_EVT_CNT, Reg.SW_CNT_VAL, Reg.SW_MSEC_STAT, Reg.TLY_CNT0] [.records, .owed, .rings, .evt, .queue, .proxies, .loss, .wire, .out] s (jobErr s c ch cause seq) := by
  unfold jobErr
  try dsimp only
  with_reducible refine (raise_keeps _ _ _ _ _).then_ (by decide) (by decide) ?_
  with_reducible exact Keeps.refl _

theorem abortShare_keeps (s : State) (j : InfJob) (ch : Nat) (cause : Nat) :
    Keeps [Reg.PAR_EVT_CNT, Reg.SW_CNT_VAL, Reg.SW_MSEC_STAT, Reg.INF_CNT1, Reg.INF_CNT2, Reg.INF_CNT3, Reg.TLY_CNT0] [.records, .owed, .rng, .rings, .evt, .queue, .proxies, .loss, .wire, .inf, .out] s (abortShare s j ch cause) := by
  unfold abortShare
  try dsimp only
  with_reducible refine (settle_keeps _ _).then_ (by decide) (by decide) ?_
  with_reducible refine (jobErr_keeps _ _ _ _ _).then_ (by decide) (by decide) ?_
  with_reducible refine (resultLost_keeps _ _ _).then_ (by decide) (by decide) ?_
  with_reducible refine Keeps.ite (fun _ => ?_) (fun _ => ?_)
  with_reducible refine Keeps.bump (in_INF_CNT2_RESIDUE) (by decide) ?_
  with_reducible refine Keeps.bump (in_INF_CNT1_ABORTS) (by decide) ?_
  with_reducible refine (setJob_keeps _ _).then_ (by decide) (by decide) ?_
  with_reducible exact Keeps.refl _
  with_reducible refine Keeps.bump (in_INF_CNT1_ABORTS) (by decide) ?_
  with_reducible refine (setJob_keeps _ _).then_ (by decide) (by decide) ?_
  with_reducible exact Keeps.refl _

theorem execJobEnd_keeps (chan : Fin 2) (fault : Fin 3) (s : State) :
    KeepsR [Reg.PAR_EVT_CNT, Reg.SW_CNT_VAL, Reg.SW_MSEC_STAT, Reg.INF_CNT1, Reg.INF_CNT2, Reg.INF_CNT3, Reg.TLY_CNT0] [.memory, .records, .owed, .banks, .rng, .rings, .evt, .queue, .proxies, .loss, .wire, .inf, .out] s (execJobEnd chan fault s) := by
  unfold execJobEnd
  try dsimp only
  with_reducible refine KeepsR.next ?_
  split
  with_reducible exact Keeps.refl _
  with_reducible refine Keeps.ite (fun _ => ?_) (fun _ => ?_)
  with_reducible refine (abortShare_keeps _ _ _ _).then_ (by decide) (by decide) ?_
  with_reducible exact Keeps.refl _
  with_reducible refine (settle_keeps _ _).then_ (by decide) (by decide) ?_
  with_reducible refine (resultWritten_keeps _ _ _).then_ (by decide) (by decide) ?_
  with_reducible refine (setJob_keeps _ _).then_ (by decide) (by decide) ?_
  with_reducible refine (storeData_keeps _ _ _ _).then_ (by decide) (by decide) ?_
  with_reducible exact Keeps.refl _

theorem execJobWatchdog_keeps (chan : Fin 2) (s : State) :
    KeepsR [Reg.PAR_EVT_CNT, Reg.SW_CNT_VAL, Reg.SW_MSEC_STAT, Reg.INF_CNT1, Reg.INF_CNT2, Reg.INF_CNT3, Reg.TLY_CNT0] [.records, .owed, .rng, .rings, .evt, .queue, .proxies, .loss, .wire, .inf, .out] s (execJobWatchdog chan s) := by
  unfold execJobWatchdog
  try dsimp only
  with_reducible refine KeepsR.next ?_
  split
  with_reducible exact Keeps.refl _
  with_reducible refine (abortShare_keeps _ _ _ _).then_ (by decide) (by decide) ?_
  with_reducible exact Keeps.refl _

theorem actVerdict_keeps (s : State) (b : Nat) (cause : Nat) (stream : Nat) (seq : Nat) (va : Int) (vb : Int) :
    Keeps [Reg.PAR_EVT_CNT, Reg.SW_CNT_VAL, Reg.SW_MSEC_STAT, Reg.BRD_STATUS, Reg.BRD_CNT3, Reg.TLY_CNT0] [.records, .owed, .rings, .evt, .queue, .proxies, .act, .loss, .wire, .out] s (actVerdict s b cause stream seq va vb) := by
  unfold actVerdict
  try dsimp only
  with_reducible refine (raise_keeps _ _ _ _ _).then_ (by decide) (by decide) ?_
  with_reducible refine Keeps.wr (in_BRD_STATUS_LAST_CAUSE) (by decide) ?_
  with_reducible refine Keeps.wr (in_BRD_STATUS_LAST_BIND) (by decide) ?_
  with_reducible refine Keeps.bump (in_BRD_CNT3_VERDICTS) (by decide) ?_
  with_reducible refine Keeps.set_act (by decide) ?_
  with_reducible exact Keeps.refl _

theorem decideBind_keeps (id : Nat) (timeout : Bool) (s : State) (b : Nat) :
    Keeps [Reg.PAR_EVT_CNT, Reg.SW_CNT_VAL, Reg.SW_MSEC_STAT, Reg.BRD_STATUS, Reg.BRD_CNT0, Reg.BRD_CNT1, Reg.BRD_CNT2, Reg.BRD_CNT3, Reg.TLY_CNT0] [.records, .owed, .rings, .evt, .queue, .proxies, .act, .loss, .wire, .inf, .out] s (decideBind id timeout s b) := by
  unfold decideBind
  try dsimp only
  split
  with_reducible exact Keeps.refl _
  with_reducible refine Keeps.ite (fun _ => ?_) (fun _ => ?_)
  with_reducible refine (setJob_keeps _ _).then_ (by decide) (by decide) ?_
  with_reducible exact Keeps.refl _
  with_reducible refine Keeps.ite (fun _ => ?_) (fun _ => ?_)
  with_reducible refine (brandFault_keeps _ _ _ _ _ _).then_ (by decide) (by decide) ?_
  with_reducible refine (setJob_keeps _ _).then_ (by decide) (by decide) ?_
  with_reducible exact Keeps.refl _
  with_reducible refine (actVerdict_keeps _ _ _ _ _ _ _).then_ (by decide) (by decide) ?_
  with_reducible refine (brandFault_keeps _ _ _ _ _ _).then_ (by decide) (by decide) ?_
  with_reducible refine (setJob_keeps _ _).then_ (by decide) (by decide) ?_
  with_reducible exact Keeps.refl _

theorem decideJob_keeps (s : State) (id : Nat) :
    Keeps [Reg.PAR_EVT_CNT, Reg.SW_CNT_VAL, Reg.SW_MSEC_STAT, Reg.BRD_STATUS, Reg.BRD_CNT0, Reg.BRD_CNT1, Reg.BRD_CNT2, Reg.BRD_CNT3, Reg.TLY_CNT0] [.records, .owed, .rings, .evt, .queue, .proxies, .act, .loss, .wire, .inf, .out] s (decideJob s id) := by
  unfold decideJob
  try dsimp only
  split
  with_reducible exact Keeps.refl _
  with_reducible refine (forgetJob_keeps _ _).then_ (by decide) (by decide) ?_
  with_reducible refine Keeps.foldl (fun _ _ => ?_) _ ?_
  with_reducible refine (decideBind_keeps _ _ _ _).then_ (by decide) (by decide) ?_
  with_reducible exact Keeps.refl _
  with_reducible exact Keeps.refl _

theorem execInfResult_keeps (chan : Fin 2) (id : Nat) (damage : List Byte) (s : State) :
    KeepsR [Reg.PAR_EVT_CNT, Reg.SW_CNT_VAL, Reg.SW_MSEC_STAT, Reg.BRD_STATUS, Reg.BRD_CNT0, Reg.BRD_CNT1, Reg.BRD_CNT2, Reg.BRD_CNT3, Reg.TLY_CNT0] [.records, .owed, .rings, .evt, .queue, .proxies, .act, .loss, .wire, .inf, .out] s (execInfResult chan id damage s) := by
  unfold execInfResult
  try dsimp only
  with_reducible refine KeepsR.next ?_
  split
  with_reducible exact Keeps.refl _
  split
  with_reducible refine Keeps.ite (fun _ => ?_) (fun _ => ?_)
  with_reducible refine (decideJob_keeps _ _).then_ (by decide) (by decide) ?_
  with_reducible refine (setJob_keeps _ _).then_ (by decide) (by decide) ?_
  with_reducible exact Keeps.refl _
  with_reducible refine (setJob_keeps _ _).then_ (by decide) (by decide) ?_
  with_reducible exact Keeps.refl _
  with_reducible exact Keeps.refl _

theorem execPairTimeout_keeps (binding : Fin 8) (id : Nat) (s : State) :
    KeepsR [Reg.PAR_EVT_CNT, Reg.SW_CNT_VAL, Reg.SW_MSEC_STAT, Reg.BRD_STATUS, Reg.BRD_CNT0, Reg.BRD_CNT1, Reg.BRD_CNT2, Reg.BRD_CNT3, Reg.TLY_CNT0] [.records, .owed, .rings, .evt, .queue, .proxies, .act, .loss, .wire, .inf, .out] s (execPairTimeout binding id s) := by
  unfold execPairTimeout
  try dsimp only
  with_reducible refine KeepsR.next ?_
  split
  with_reducible exact Keeps.refl _
  with_reducible refine Keeps.ite (fun _ => ?_) (fun _ => ?_)
  with_reducible refine (forgetJob_keeps _ _).then_ (by decide) (by decide) ?_
  with_reducible refine (decideBind_keeps _ _ _ _).then_ (by decide) (by decide) ?_
  with_reducible exact Keeps.refl _
  with_reducible exact Keeps.refl _

theorem execNoInputTimeout_keeps (binding : Fin 8) (s : State) :
    KeepsR [Reg.PAR_EVT_CNT, Reg.SW_CNT_VAL, Reg.SW_MSEC_STAT, Reg.BRD_STATUS, Reg.BRD_CNT0, Reg.BRD_CNT1, Reg.BRD_CNT2, Reg.BRD_CNT3, Reg.TLY_CNT0] [.records, .owed, .rings, .evt, .queue, .proxies, .act, .loss, .wire, .out] s (execNoInputTimeout binding s) := by
  unfold execNoInputTimeout
  try dsimp only
  with_reducible refine KeepsR.next ?_
  with_reducible refine Keeps.ite (fun _ => ?_) (fun _ => ?_)
  with_reducible refine (actVerdict_keeps _ _ _ _ _ _ _).then_ (by decide) (by decide) ?_
  with_reducible refine (brandFault_keeps _ _ _ _ _ _).then_ (by decide) (by decide) ?_
  with_reducible exact Keeps.refl _
  with_reducible exact Keeps.refl _

theorem bindsAct_keeps (s : State) (l : List Nat) (cause : Nat) (stream : Nat) (seq : Nat) :
    Keeps [Reg.PAR_EVT_CNT, Reg.SW_CNT_VAL, Reg.SW_MSEC_STAT, Reg.BRD_STATUS, Reg.BRD_CNT3, Reg.TLY_CNT0] [.records, .owed, .rings, .evt, .queue, .proxies, .act, .loss, .wire, .out] s (bindsAct s l cause stream seq) := by
  unfold bindsAct
  try dsimp only
  with_reducible refine Keeps.foldl (fun _ _ => ?_) _ ?_
  with_reducible refine (actVerdict_keeps _ _ _ _ _ _ _).then_ (by decide) (by decide) ?_
  with_reducible exact Keeps.refl _
  with_reducible exact Keeps.refl _

theorem execWindowHandoff_keeps (part : Fin 8) (slot : Fin 16) (s : State) :
    KeepsR [Reg.PAR_EVT_CNT, Reg.SIN_SCHED, Reg.SIN_STREAMS, Reg.SW_CNT_VAL, Reg.SW_MSEC_STAT, Reg.BRD_STATUS, Reg.BRD_CNT0, Reg.BRD_CNT1, Reg.BRD_CNT2, Reg.BRD_CNT3, Reg.INF_CNT2, Reg.TLY_CNT0] [.records, .owed, .rng, .rings, .evt, .queue, .proxies, .act, .loss, .sns, .wire, .inf, .out] s (execWindowHandoff part slot s) := by
  unfold execWindowHandoff
  try dsimp only
  with_reducible refine KeepsR.next ?_
  split
  with_reducible exact Keeps.refl _
  split
  with_reducible exact Keeps.refl _
  with_reducible refine Keeps.ite (fun _ => ?_) (fun _ => ?_)
  with_reducible refine (windowRead_keeps _ _ _ _).then_ (by decide) (by decide) ?_
  with_reducible refine (bindsAct_keeps _ _ _ _ _).then_ (by decide) (by decide) ?_
  with_reducible refine (brandFault_keeps _ _ _ _ _ _).then_ (by decide) (by decide) ?_
  with_reducible exact Keeps.refl _
  with_reducible refine Keeps.ite (fun _ => ?_) (fun _ => ?_)
  with_reducible refine (windowRead_keeps _ _ _ _).then_ (by decide) (by decide) ?_
  with_reducible refine (jobErr_keeps _ _ _ _ _).then_ (by decide) (by decide) ?_
  with_reducible refine Keeps.bump (in_INF_CNT2_LEN_REJ) (by decide) ?_
  with_reducible refine (setCtx_keeps _ _ _).then_ (by decide) (by decide) ?_
  with_reducible refine (setStrm_keeps _ _).then_ (by decide) (by decide) ?_
  with_reducible exact Keeps.refl _
  with_reducible refine (addJob_keeps _ _).then_ (by decide) (by decide) ?_
  with_reducible refine (bindsAct_keeps _ _ _ _ _).then_ (by decide) (by decide) ?_
  with_reducible refine (setCtx_keeps _ _ _).then_ (by decide) (by decide) ?_
  with_reducible refine (setStrm_keeps _ _).then_ (by decide) (by decide) ?_
  with_reducible exact Keeps.refl _

theorem katEvent_keeps (s : State) (ch : Nat) (part : Nat) (ctx : Nat) :
    Keeps [Reg.PAR_EVT_CNT, Reg.SW_CNT_VAL, Reg.SW_MSEC_STAT, Reg.TLY_CNT0] [.records, .owed, .rings, .evt, .queue, .proxies, .loss, .wire, .out] s (katEvent s ch part ctx) := by
  unfold katEvent
  try dsimp only
  with_reducible refine (raise_keeps _ _ _ _ _).then_ (by decide) (by decide) ?_
  with_reducible exact Keeps.refl _

theorem goldenRan_keeps (s : State) (ch : Nat) (g : Option Nat) :
    Keeps [] [.inf] s (goldenRan s ch g) := by
  unfold goldenRan
  try dsimp only
  split
  with_reducible exact Keeps.refl _
  with_reducible refine Keeps.ite (fun _ => ?_) (fun _ => ?_)
  with_reducible refine (setCtx_keeps _ _ _).then_ (by decide) (by decide) ?_
  with_reducible exact Keeps.refl _
  with_reducible refine (setInfCh_keeps _ _ _).then_ (by decide) (by decide) ?_
  with_reducible exact Keeps.refl _

theorem execKatStart_keeps (chan : Fin 2) (forced : Bool) (s : State) :
    KeepsR [Reg.INF_CNT0] [.inf] s (execKatStart chan forced s) := by
  unfold execKatStart
  try dsimp only
  with_reducible refine KeepsR.next ?_
  with_reducible refine Keeps.ite (fun _ => ?_) (fun _ => ?_)
  with_reducible exact Keeps.refl _
  split
  with_reducible refine Keeps.ite (fun _ => ?_) (fun _ => ?_)
  with_reducible refine Keeps.ite (fun _ => ?_) (fun _ => ?_)
  with_reducible refine Keeps.bump (in_INF_CNT0_FORCED) (by decide) ?_
  with_reducible refine Keeps.bump (in_INF_CNT0_KATS) (by decide) ?_
  with_reducible refine (setInfCh_keeps _ _ _).then_ (by decide) (by decide) ?_
  with_reducible refine (setJob_keeps _ _).then_ (by decide) (by decide) ?_
  with_reducible exact Keeps.refl _
  with_reducible refine Keeps.bump (in_INF_CNT0_KATS) (by decide) ?_
  with_reducible refine (setInfCh_keeps _ _ _).then_ (by decide) (by decide) ?_
  with_reducible refine (setJob_keeps _ _).then_ (by decide) (by decide) ?_
  with_reducible exact Keeps.refl _
  with_reducible exact Keeps.refl _
  with_reducible refine Keeps.ite (fun _ => ?_) (fun _ => ?_)
  with_reducible exact Keeps.refl _
  with_reducible refine Keeps.ite (fun _ => ?_) (fun _ => ?_)
  with_reducible refine Keeps.bump (in_INF_CNT0_FORCED) (by decide) ?_
  with_reducible refine Keeps.bump (in_INF_CNT0_KATS) (by decide) ?_
  with_reducible refine (setInfCh_keeps _ _ _).then_ (by decide) (by decide) ?_
  with_reducible exact Keeps.refl _
  with_reducible refine Keeps.bump (in_INF_CNT0_KATS) (by decide) ?_
  with_reducible refine (setInfCh_keeps _ _ _).then_ (by decide) (by decide) ?_
  with_reducible exact Keeps.refl _

theorem execKatEnd_keeps (chan : Fin 2) (part : Fin 3) (ctx : Fin 16) (s : State) :
    KeepsR [Reg.PAR_EVT_CNT, Reg.SW_CNT_VAL, Reg.SW_MSEC_STAT, Reg.INF_CH_STAT, Reg.INF_CNT1, Reg.TLY_CNT0] [.records, .owed, .rings, .evt, .queue, .proxies, .loss, .wire, .inf, .out] s (execKatEnd chan part ctx s) := by
  unfold execKatEnd
  try dsimp only
  with_reducible refine KeepsR.next ?_
  with_reducible refine Keeps.ite (fun _ => ?_) (fun _ => ?_)
  with_reducible exact Keeps.refl _
  with_reducible refine Keeps.ite (fun _ => ?_) (fun _ => ?_)
  with_reducible refine (setInfCh_keeps _ _ _).then_ (by decide) (by decide) ?_
  with_reducible refine (goldenRan_keeps _ _ _).then_ (by decide) (by decide) ?_
  with_reducible exact Keeps.refl _
  with_reducible refine (katEvent_keeps _ _ _ _).then_ (by decide) (by decide) ?_
  with_reducible refine (setChState_keeps _ _ _).then_ (by decide) (by decide) ?_
  with_reducible refine Keeps.bump (in_INF_CNT1_KAT_FAILS) (by decide) ?_
  with_reducible refine (setInfCh_keeps _ _ _).then_ (by decide) (by decide) ?_
  with_reducible refine (setInfCh_keeps _ _ _).then_ (by decide) (by decide) ?_
  with_reducible refine (goldenRan_keeps _ _ _).then_ (by decide) (by decide) ?_
  with_reducible exact Keeps.refl _

theorem execKatRetest_keeps (chan : Fin 2) (part : Fin 3) (ctx : Fin 16) (s : State) :
    KeepsR [Reg.PAR_EVT_CNT, Reg.SW_CNT_VAL, Reg.SW_MSEC_STAT, Reg.INF_CH_STAT, Reg.INF_CNT0, Reg.INF_CNT1, Reg.TLY_CNT0] [.records, .owed, .rings, .evt, .queue, .proxies, .loss, .wire, .inf, .out] s (execKatRetest chan part ctx s) := by
  unfold execKatRetest
  try dsimp only
  with_reducible refine KeepsR.next ?_
  with_reducible refine Keeps.ite (fun _ => ?_) (fun _ => ?_)
  with_reducible exact Keeps.refl _
  with_reducible refine Keeps.ite (fun _ => ?_) (fun _ => ?_)
  with_reducible refine Keeps.ite (fun _ => ?_) (fun _ => ?_)
  with_reducible refine (katEvent_keeps _ _ _ _).then_ (by decide) (by decide) ?_
  with_reducible refine (setChState_keeps _ _ _).then_ (by decide) (by decide) ?_
  with_reducible refine Keeps.bump (in_INF_CNT0_KATS) (by decide) ?_
  with_reducible refine (setInfCh_keeps _ _ _).then_ (by decide) (by decide) ?_
  with_reducible refine (goldenRan_keeps _ _ _).then_ (by decide) (by decide) ?_
  with_reducible exact Keeps.refl _
  with_reducible refine Keeps.bump (in_INF_CNT0_KATS) (by decide) ?_
  with_reducible refine (setInfCh_keeps _ _ _).then_ (by decide) (by decide) ?_
  with_reducible refine (goldenRan_keeps _ _ _).then_ (by decide) (by decide) ?_
  with_reducible exact Keeps.refl _
  with_reducible refine Keeps.ite (fun _ => ?_) (fun _ => ?_)
  with_reducible refine (katEvent_keeps _ _ _ _).then_ (by decide) (by decide) ?_
  with_reducible refine (setChState_keeps _ _ _).then_ (by decide) (by decide) ?_
  with_reducible refine Keeps.bump (in_INF_CNT1_KAT_FAILS) (by decide) ?_
  with_reducible refine Keeps.bump (in_INF_CNT0_KATS) (by decide) ?_
  with_reducible refine (setInfCh_keeps _ _ _).then_ (by decide) (by decide) ?_
  with_reducible refine (goldenRan_keeps _ _ _).then_ (by decide) (by decide) ?_
  with_reducible exact Keeps.refl _
  with_reducible refine Keeps.bump (in_INF_CNT1_KAT_FAILS) (by decide) ?_
  with_reducible refine Keeps.bump (in_INF_CNT0_KATS) (by decide) ?_
  with_reducible refine (setInfCh_keeps _ _ _).then_ (by decide) (by decide) ?_
  with_reducible refine (goldenRan_keeps _ _ _).then_ (by decide) (by decide) ?_
  with_reducible exact Keeps.refl _

end Sys2Proof.Machine
end

