-- ==== Sys2Proof/Laws/Limp.lean ====
section
/-! SUPPORT.
What the operations of Machine/Limp.lean change, and that they keep a sound state sound.
-/

namespace Sys2Proof.Machine

theorem entryTrigger_keeps (s : State) (e : LimpEntry) :
    Keeps [Reg.PAR_EVT_CNT, Reg.ACT_CLAIM, Reg.ACT_CNT, Reg.HS_STATE, Reg.HB_STATE, Reg.SV_STATE, Reg.SV_KRES, Reg.SV_CNT2, Reg.LED_STATE, Reg.LED_CNT, Reg.FIO_CAUSE, Reg.SW_CNT_VAL, Reg.SW_MSEC_STAT, Reg.TLY_CNT0] [.records, .freeCtr, .owed, .rng, .rings, .evt, .queue, .proxies, .act, .chs, .loss, .wire, .out] s (entryTrigger s e) := by
  unfold entryTrigger
  try dsimp only
  with_reducible refine Keeps.ite (fun _ => ?_) (fun _ => ?_)
  with_reducible refine (setChn_keeps _ _ _).then_ (by decide) (by decide) ?_
  with_reducible exact Keeps.refl _
  with_reducible refine (limpEntryAct_keeps _ _ _).then_ (by decide) (by decide) ?_
  with_reducible exact Keeps.refl _

theorem onTrigger_keeps (s : State) (trigger : Nat) :
    Keeps [Reg.PAR_EVT_CNT, Reg.ACT_CLAIM, Reg.ACT_CNT, Reg.HS_STATE, Reg.HB_STATE, Reg.SV_STATE, Reg.SV_KRES, Reg.SV_CNT2, Reg.LED_STATE, Reg.LED_CNT, Reg.FIO_CAUSE, Reg.SW_CNT_VAL, Reg.SW_MSEC_STAT, Reg.TLY_CNT0] [.records, .freeCtr, .owed, .rng, .rings, .evt, .queue, .proxies, .act, .chs, .loss, .wire, .out] s (onTrigger s trigger) := by
  unfold onTrigger
  try dsimp only
  split
  with_reducible refine Keeps.foldl (fun _ _ => ?_) _ ?_
  with_reducible refine (entryTrigger_keeps _ _).then_ (by decide) (by decide) ?_
  with_reducible exact Keeps.refl _
  with_reducible exact Keeps.refl _
  with_reducible exact Keeps.refl _

theorem onTriggerOrphans_keeps (s : State) (trigger : Nat) :
    Keeps [Reg.PAR_EVT_CNT, Reg.ACT_CNT, Reg.HS_STATE, Reg.HB_STATE, Reg.SV_STATE, Reg.SV_KRES, Reg.SV_CNT2, Reg.LED_STATE, Reg.FIO_CAUSE, Reg.SW_CNT_VAL, Reg.SW_MSEC_STAT, Reg.TLY_CNT0] [.records, .freeCtr, .owed, .rng, .rings, .evt, .queue, .proxies, .chs, .loss, .wire, .out] s (onTriggerOrphans s trigger) := by
  unfold onTriggerOrphans
  try dsimp only
  with_reducible refine Keeps.ite (fun _ => ?_) (fun _ => ?_)
  with_reducible exact Keeps.refl _
  split
  with_reducible refine Keeps.foldl (fun _ _ => ?_) _ ?_
  with_reducible refine Keeps.ite (fun _ => ?_) (fun _ => ?_)
  with_reducible refine (orphanLimp_keeps _ _ _).then_ (by decide) (by decide) ?_
  with_reducible exact Keeps.refl _
  with_reducible exact Keeps.refl _
  with_reducible exact Keeps.refl _
  with_reducible exact Keeps.refl _

theorem liveEntry_keeps (s : State) (e : LimpEntry) :
    Keeps [Reg.PAR_EVT_CNT, Reg.ACT_CLAIM, Reg.ACT_CNT, Reg.HS_STATE, Reg.HB_STATE, Reg.SV_STATE, Reg.SV_KRES, Reg.SV_CNT2, Reg.LED_STATE, Reg.LED_CNT, Reg.FIO_CAUSE, Reg.SW_CNT_VAL, Reg.SW_MSEC_STAT, Reg.TLY_CNT0] [.records, .freeCtr, .owed, .rng, .rings, .evt, .queue, .proxies, .act, .chs, .loss, .wire, .out] s (liveEntry s e) := by
  unfold liveEntry
  try dsimp only
  with_reducible refine Keeps.ite (fun _ => ?_) (fun _ => ?_)
  with_reducible exact Keeps.refl _
  with_reducible refine (setChn_keeps _ _ _).then_ (by decide) (by decide) ?_
  with_reducible refine (limpEntryAct_keeps _ _ _).then_ (by decide) (by decide) ?_
  with_reducible exact Keeps.refl _

theorem onLatch_keeps (s : State) :
    Keeps [Reg.PAR_EVT_CNT, Reg.ACT_CLAIM, Reg.ACT_CNT, Reg.HS_STATE, Reg.HB_STATE, Reg.SV_STATE, Reg.SV_KRES, Reg.SV_CNT2, Reg.LED_STATE, Reg.LED_CNT, Reg.FIO_CAUSE, Reg.SW_CNT_VAL, Reg.SW_MSEC_STAT, Reg.TLY_CNT0] [.records, .freeCtr, .owed, .rng, .rings, .evt, .queue, .proxies, .act, .chs, .loss, .wire, .out] s (onLatch s) := by
  unfold onLatch
  try dsimp only
  with_reducible refine Keeps.ite (fun _ => ?_) (fun _ => ?_)
  with_reducible refine (onTrigger_keeps _ _).then_ (by decide) (by decide) ?_
  with_reducible exact Keeps.refl _
  with_reducible refine Keeps.ite (fun _ => ?_) (fun _ => ?_)
  split
  with_reducible refine Keeps.foldl (fun _ _ => ?_) _ ?_
  with_reducible refine (liveEntry_keeps _ _).then_ (by decide) (by decide) ?_
  with_reducible exact Keeps.refl _
  with_reducible refine (onTriggerOrphans_keeps _ _).then_ (by decide) (by decide) ?_
  with_reducible exact Keeps.refl _
  with_reducible refine (onTriggerOrphans_keeps _ _).then_ (by decide) (by decide) ?_
  with_reducible exact Keeps.refl _
  with_reducible refine (onTriggerOrphans_keeps _ _).then_ (by decide) (by decide) ?_
  with_reducible exact Keeps.refl _

theorem execIgnChange_keeps (mv : Nat) (heldUs : Nat) (s : State) :
    KeepsR [Reg.SPR_LIMP_IN, Reg.PAR_EVT_CNT, Reg.ACT_CLAIM, Reg.ACT_CNT, Reg.HS_STATE, Reg.HB_STATE, Reg.SV_STATE, Reg.SV_KRES, Reg.SV_CNT2, Reg.LED_STATE, Reg.LED_CNT, Reg.FIO_CAUSE, Reg.SW_CNT_VAL, Reg.SW_MSEC_STAT, Reg.TLY_CNT0] [.records, .freeCtr, .owed, .rng, .rings, .evt, .queue, .proxies, .act, .chs, .loss, .wire, .out] s (execIgnChange mv heldUs s) := by
  unfold execIgnChange
  try dsimp only
  split
  with_reducible refine KeepsR.next ?_
  with_reducible exact Keeps.refl _
  with_reducible refine KeepsR.next ?_
  with_reducible refine Keeps.ite (fun _ => ?_) (fun _ => ?_)
  with_reducible refine (onTrigger_keeps _ _).then_ (by decide) (by decide) ?_
  with_reducible refine (raise_keeps _ _ _ _ _).then_ (by decide) (by decide) ?_
  with_reducible refine Keeps.put (in_SPR_LIMP_IN_IGN) (by decide) ?_
  with_reducible exact Keeps.refl _
  with_reducible refine (onTriggerOrphans_keeps _ _).then_ (by decide) (by decide) ?_
  with_reducible refine (raise_keeps _ _ _ _ _).then_ (by decide) (by decide) ?_
  with_reducible refine Keeps.put (in_SPR_LIMP_IN_IGN) (by decide) ?_
  with_reducible exact Keeps.refl _

theorem execCrashEdge_keeps (mv : Nat) (heldUs : Nat) (s : State) :
    KeepsR [Reg.SPR_LIMP_IN, Reg.PAR_EVT_CNT, Reg.ACT_CLAIM, Reg.ACT_CNT, Reg.HS_STATE, Reg.HB_STATE, Reg.SV_STATE, Reg.SV_KRES, Reg.SV_CNT2, Reg.LED_STATE, Reg.LED_CNT, Reg.FIO_CAUSE, Reg.SW_CNT_VAL, Reg.SW_MSEC_STAT, Reg.TLY_CNT0] [.records, .freeCtr, .owed, .rng, .rings, .evt, .queue, .proxies, .act, .chs, .loss, .wire, .out] s (execCrashEdge mv heldUs s) := by
  unfold execCrashEdge
  try dsimp only
  split
  with_reducible refine KeepsR.next ?_
  with_reducible exact Keeps.refl _
  with_reducible refine KeepsR.next ?_
  with_reducible refine Keeps.ite (fun _ => ?_) (fun _ => ?_)
  with_reducible refine (onLatch_keeps _).then_ (by decide) (by decide) ?_
  with_reducible refine (raise_keeps _ _ _ _ _).then_ (by decide) (by decide) ?_
  with_reducible refine Keeps.ite (fun _ => ?_) (fun _ => ?_)
  with_reducible refine Keeps.put (in_SPR_LIMP_IN_CRASH_LATCH) (by decide) ?_
  with_reducible refine Keeps.put (in_SPR_LIMP_IN_CRASH) (by decide) ?_
  with_reducible exact Keeps.refl _
  with_reducible refine Keeps.put (in_SPR_LIMP_IN_CRASH) (by decide) ?_
  with_reducible exact Keeps.refl _
  with_reducible refine (raise_keeps _ _ _ _ _).then_ (by decide) (by decide) ?_
  with_reducible refine Keeps.ite (fun _ => ?_) (fun _ => ?_)
  with_reducible refine Keeps.put (in_SPR_LIMP_IN_CRASH_LATCH) (by decide) ?_
  with_reducible refine Keeps.put (in_SPR_LIMP_IN_CRASH) (by decide) ?_
  with_reducible exact Keeps.refl _
  with_reducible refine Keeps.put (in_SPR_LIMP_IN_CRASH) (by decide) ?_
  with_reducible exact Keeps.refl _

theorem endLive_keeps (s : State) (c : Chan) :
    Keeps [] [.chs] s (endLive s c) := by
  unfold endLive
  try dsimp only
  with_reducible refine Keeps.ite (fun _ => ?_) (fun _ => ?_)
  with_reducible refine (setChn_keeps _ _ _).then_ (by decide) (by decide) ?_
  with_reducible exact Keeps.refl _
  with_reducible exact Keeps.refl _

theorem execCrashLatchClear_keeps (w : Writer) (v : Word) (s : State) :
    KeepsR [Reg.SPR_LIMP_IN, Reg.PAR_SEAL_STATUS, Reg.PAR_EVT_CNT, Reg.ACT_CLAIM, Reg.ACT_CNT, Reg.HS_STATE, Reg.HB_STATE, Reg.SV_STATE, Reg.SV_KRES, Reg.SV_CNT2, Reg.LED_STATE, Reg.LED_CNT, Reg.FIO_CAUSE, Reg.SW_CNT_VAL, Reg.SW_MSEC_STAT, Reg.TLY_CNT0] [.records, .freeCtr, .owed, .rng, .rings, .evt, .queue, .proxies, .act, .chs, .loss, .wire, .out] s (execCrashLatchClear w v s) := by
  unfold execCrashLatchClear
  try dsimp only
  with_reducible refine KeepsR.whileCd ?_
  with_reducible refine Keeps.ite (fun _ => ?_) (fun _ => ?_)
  with_reducible refine (violate_keeps _).then_ (by decide) (by decide) ?_
  with_reducible exact Keeps.refl _
  with_reducible refine Keeps.ite (fun _ => ?_) (fun _ => ?_)
  with_reducible exact Keeps.refl _
  with_reducible refine Keeps.ite (fun _ => ?_) (fun _ => ?_)
  with_reducible refine (onTrigger_keeps _ _).then_ (by decide) (by decide) ?_
  with_reducible refine Keeps.foldl (fun _ _ => ?_) _ ?_
  with_reducible refine (endLive_keeps _ _).then_ (by decide) (by decide) ?_
  with_reducible exact Keeps.refl _
  with_reducible refine Keeps.put (in_SPR_LIMP_IN_CRASH_LATCH) (by decide) ?_
  with_reducible exact Keeps.refl _
  with_reducible refine (onTriggerOrphans_keeps _ _).then_ (by decide) (by decide) ?_
  with_reducible refine Keeps.foldl (fun _ _ => ?_) _ ?_
  with_reducible refine (endLive_keeps _ _).then_ (by decide) (by decide) ?_
  with_reducible exact Keeps.refl _
  with_reducible refine Keeps.put (in_SPR_LIMP_IN_CRASH_LATCH) (by decide) ?_
  with_reducible exact Keeps.refl _

theorem execLimpRelease_keeps (w : Writer) (v : Word) (s : State) :
    KeepsR [Reg.SPR_LIMP_CTL, Reg.PAR_SEAL_STATUS] [] s (execLimpRelease w v s) := by
  unfold execLimpRelease
  try dsimp only
  with_reducible refine KeepsR.whileCd ?_
  with_reducible refine Keeps.ite (fun _ => ?_) (fun _ => ?_)
  with_reducible refine (violate_keeps _).then_ (by decide) (by decide) ?_
  with_reducible exact Keeps.refl _
  with_reducible refine Keeps.ite (fun _ => ?_) (fun _ => ?_)
  with_reducible refine (writeWord_keepsAt at_0x60 _ _).then_ (by decide) (by decide) ?_
  with_reducible exact Keeps.refl _
  with_reducible refine Keeps.put (in_SPR_LIMP_CTL_RELEASE) (by decide) ?_
  with_reducible refine (writeWord_keepsAt at_0x60 _ _).then_ (by decide) (by decide) ?_
  with_reducible exact Keeps.refl _

theorem releaseCh_keeps (s : State) (c : Chan) :
    Keeps [] [.chs] s (releaseCh s c) := by
  unfold releaseCh
  try dsimp only
  with_reducible refine Keeps.ite (fun _ => ?_) (fun _ => ?_)
  with_reducible refine (setChn_keeps _ _ _).then_ (by decide) (by decide) ?_
  with_reducible exact Keeps.refl _
  with_reducible refine (setChn_keeps _ _ _).then_ (by decide) (by decide) ?_
  with_reducible exact Keeps.refl _

theorem execLimpReleased_keeps (s : State) :
    KeepsR [Reg.SPR_STATUS, Reg.SPR_LIMP_CTL, Reg.HS_STATE, Reg.HB_STATE, Reg.SV_STATE, Reg.LED_STATE, Reg.FIO_CAUSE] [.act, .chs] s (execLimpReleased s) := by
  unfold execLimpReleased
  try dsimp only
  with_reducible refine KeepsR.whileCd ?_
  with_reducible refine Keeps.ite (fun _ => ?_) (fun _ => ?_)
  with_reducible refine Keeps.ite (fun _ => ?_) (fun _ => ?_)
  with_reducible refine Keeps.foldl (fun _ _ => ?_) _ ?_
  with_reducible refine (showCh_keeps _ _).then_ (by decide) (by decide) ?_
  with_reducible exact Keeps.refl _
  with_reducible refine Keeps.set_act (by decide) ?_
  with_reducible refine Keeps.put (in_SPR_STATUS_LIMP_ACTIVE) (by decide) ?_
  with_reducible refine Keeps.foldl (fun _ _ => ?_) _ ?_
  with_reducible refine (releaseCh_keeps _ _).then_ (by decide) (by decide) ?_
  with_reducible exact Keeps.refl _
  with_reducible refine Keeps.put (in_SPR_LIMP_CTL_RELEASE) (by decide) ?_
  with_reducible exact Keeps.refl _
  with_reducible refine Keeps.put (in_SPR_LIMP_CTL_RELEASE) (by decide) ?_
  with_reducible exact Keeps.refl _
  with_reducible exact Keeps.refl _

theorem execLimpDriveEnd_keeps (hb : Fin 8) (s : State) :
    KeepsR [Reg.HS_STATE, Reg.HB_STATE, Reg.SV_STATE, Reg.LED_STATE, Reg.FIO_CAUSE] [.chs] s (execLimpDriveEnd hb s) := by
  unfold execLimpDriveEnd
  try dsimp only
  split
  with_reducible refine KeepsR.next ?_
  with_reducible refine (setChn_keeps _ _ _).then_ (by decide) (by decide) ?_
  with_reducible refine (switchTo_keeps _ _ _).then_ (by decide) (by decide) ?_
  with_reducible exact Keeps.refl _
  with_reducible refine KeepsR.next ?_
  with_reducible exact Keeps.refl _

theorem execLimpBrakeEnd_keeps (hb : Fin 8) (s : State) :
    KeepsR [Reg.PAR_EVT_CNT, Reg.HS_STATE, Reg.HB_STATE, Reg.SV_STATE, Reg.LED_STATE, Reg.FIO_CAUSE, Reg.SW_CNT_VAL, Reg.SW_MSEC_STAT, Reg.TLY_CNT0] [.records, .owed, .rings, .evt, .queue, .proxies, .chs, .loss, .wire, .out] s (execLimpBrakeEnd hb s) := by
  unfold execLimpBrakeEnd
  try dsimp only
  split
  with_reducible refine KeepsR.next ?_
  with_reducible refine (bridgeOff_keeps _ _).then_ (by decide) (by decide) ?_
  with_reducible refine (setChn_keeps _ _ _).then_ (by decide) (by decide) ?_
  with_reducible exact Keeps.refl _
  with_reducible refine KeepsR.next ?_
  with_reducible exact Keeps.refl _

theorem limpReport_keeps (s : State) (r : Nat) (o : Nat) :
    Keeps [Reg.ACT_LIMP_STATUS] [] s (limpReport s r o) := by
  unfold limpReport
  try dsimp only
  with_reducible refine Keeps.wr (in_ACT_LIMP_STATUS_OFFSET) (by decide) ?_
  with_reducible refine Keeps.wr (in_ACT_LIMP_STATUS_RESULT) (by decide) ?_
  with_reducible exact Keeps.refl _

theorem limpStage_keeps (s : State) (a : Nat) :
    Keeps [Reg.PAR_SEAL_STATUS, Reg.ACT_LIMP_STATUS] [.act] s (limpStage s a) := by
  unfold limpStage
  try dsimp only
  with_reducible refine Keeps.ite (fun _ => ?_) (fun _ => ?_)
  with_reducible refine (limpReport_keeps _ _ _).then_ (by decide) (by decide) ?_
  with_reducible refine (violate_keeps _).then_ (by decide) (by decide) ?_
  with_reducible exact Keeps.refl _
  split
  with_reducible refine (limpReport_keeps _ _ _).then_ (by decide) (by decide) ?_
  with_reducible exact Keeps.refl _
  with_reducible refine (limpReport_keeps _ _ _).then_ (by decide) (by decide) ?_
  with_reducible refine Keeps.set_act (by decide) ?_
  with_reducible exact Keeps.refl _

theorem execLimpStage_keeps (w : Writer) (v : Word) (s : State) :
    KeepsR [Reg.PAR_SEAL_STATUS, Reg.ACT_LIMP_CTL, Reg.ACT_LIMP_STATUS] [.act] s (execLimpStage w v s) := by
  unfold execLimpStage
  try dsimp only
  with_reducible refine KeepsR.whileCd ?_
  with_reducible refine Keeps.ite (fun _ => ?_) (fun _ => ?_)
  with_reducible refine (violate_keeps _).then_ (by decide) (by decide) ?_
  with_reducible exact Keeps.refl _
  with_reducible refine Keeps.ite (fun _ => ?_) (fun _ => ?_)
  with_reducible exact Keeps.refl _
  with_reducible refine Keeps.ite (fun _ => ?_) (fun _ => ?_)
  with_reducible refine (violate_keeps _).then_ (by decide) (by decide) ?_
  with_reducible exact Keeps.refl _
  with_reducible refine (limpStage_keeps _ _).then_ (by decide) (by decide) ?_
  with_reducible refine Keeps.put (in_ACT_LIMP_CTL_STAGE) (by decide) ?_
  with_reducible exact Keeps.refl _

theorem limpWrite_keeps (s : State) (t : LimpCopy) :
    Keeps [Reg.ACT_LIMP_INFO, Reg.ACT_LIMP_ID, Reg.ACT_LIMP_PAIR, Reg.TLY_CNT0] [.queue, .act] s (limpWrite s t) := by
  unfold limpWrite
  try dsimp only
  with_reducible refine (tally_keeps _ _ _).then_ (by decide) (by decide) ?_
  with_reducible refine Keeps.wr (in_ACT_LIMP_PAIR_PAIR) (by decide) ?_
  with_reducible refine Keeps.wr (in_ACT_LIMP_ID_TABLE_ID) (by decide) ?_
  with_reducible refine Keeps.wr (in_ACT_LIMP_INFO_LIMP_SEQ) (by decide) ?_
  with_reducible refine Keeps.wr (in_ACT_LIMP_INFO_ENTRIES) (by decide) ?_
  with_reducible refine Keeps.wr (in_ACT_LIMP_INFO_COPY) (by decide) ?_
  with_reducible refine Keeps.set_act (by decide) ?_
  with_reducible exact Keeps.refl _

theorem limpSwitch_keeps (old : State) (s : State) :
    Keeps [Reg.PAR_EVT_CNT, Reg.ACT_CLAIM, Reg.ACT_CNT, Reg.HS_STATE, Reg.HB_STATE, Reg.SV_STATE, Reg.SV_KRES, Reg.SV_CNT2, Reg.LED_STATE, Reg.LED_CNT, Reg.FIO_CAUSE, Reg.SW_CNT_VAL, Reg.SW_MSEC_STAT, Reg.TLY_CNT0] [.records, .freeCtr, .owed, .rng, .rings, .evt, .queue, .proxies, .act, .chs, .loss, .wire, .out] s (limpSwitch old s) := by
  unfold limpSwitch
  try dsimp only
  split
  with_reducible refine Keeps.foldl (fun _ _ => ?_) _ ?_
  with_reducible refine (limpEntryApply_keeps _ _ _).then_ (by decide) (by decide) ?_
  with_reducible exact Keeps.refl _
  with_reducible refine Keeps.foldl (fun _ _ => ?_) _ ?_
  with_reducible refine (limpUnnamed_keeps _ _).then_ (by decide) (by decide) ?_
  with_reducible exact Keeps.refl _
  with_reducible exact Keeps.refl _
  with_reducible refine Keeps.foldl (fun _ _ => ?_) _ ?_
  with_reducible refine (limpUnnamed_keeps _ _).then_ (by decide) (by decide) ?_
  with_reducible exact Keeps.refl _
  with_reducible exact Keeps.refl _

theorem execLimpCommit_keeps (s : State) :
    KeepsR [Reg.PAR_EVT_CNT, Reg.ACT_LIMP_STATUS, Reg.ACT_LIMP_INFO, Reg.ACT_LIMP_ID, Reg.ACT_LIMP_PAIR, Reg.ACT_CLAIM, Reg.ACT_CNT, Reg.HS_STATE, Reg.HB_STATE, Reg.SV_STATE, Reg.SV_KRES, Reg.SV_CNT2, Reg.LED_STATE, Reg.LED_CNT, Reg.FIO_CAUSE, Reg.SW_CNT_VAL, Reg.SW_MSEC_STAT, Reg.TLY_CNT0] [.records, .freeCtr, .owed, .rng, .rings, .evt, .queue, .proxies, .act, .chs, .loss, .wire, .out] s (execLimpCommit s) := by
  unfold execLimpCommit
  try dsimp only
  with_reducible refine KeepsR.whileCd ?_
  with_reducible refine Keeps.ite (fun _ => ?_) (fun _ => ?_)
  split
  with_reducible refine Keeps.set_act (by decide) ?_
  with_reducible exact Keeps.refl _
  split
  with_reducible refine (raise_keeps _ _ _ _ _).then_ (by decide) (by decide) ?_
  with_reducible refine (limpReport_keeps _ _ _).then_ (by decide) (by decide) ?_
  with_reducible refine Keeps.set_act (by decide) ?_
  with_reducible exact Keeps.refl _
  with_reducible refine Keeps.ite (fun _ => ?_) (fun _ => ?_)
  with_reducible refine (limpSwitch_keeps _ _).then_ (by decide) (by decide) ?_
  with_reducible refine (limpWrite_keeps _ _).then_ (by decide) (by decide) ?_
  with_reducible refine Keeps.set_act (by decide) ?_
  with_reducible exact Keeps.refl _
  with_reducible refine (limpWrite_keeps _ _).then_ (by decide) (by decide) ?_
  with_reducible refine Keeps.set_act (by decide) ?_
  with_reducible exact Keeps.refl _
  with_reducible exact Keeps.refl _

theorem execLimpTableApply_keeps (s : State) :
    KeepsR [Reg.SPR_STATUS, Reg.PAR_EVT_CNT, Reg.ACT_CLAIM, Reg.ACT_CNT, Reg.HS_STATE, Reg.HB_STATE, Reg.SV_STATE, Reg.SV_KRES, Reg.SV_CNT2, Reg.LED_STATE, Reg.LED_CNT, Reg.FIO_CAUSE, Reg.SW_CNT_VAL, Reg.SW_MSEC_STAT, Reg.TLY_CNT0] [.records, .freeCtr, .owed, .rng, .rings, .evt, .queue, .proxies, .act, .chs, .loss, .wire, .out] s (execLimpTableApply s) := by
  unfold execLimpTableApply
  try dsimp only
  with_reducible refine KeepsR.next ?_
  with_reducible refine Keeps.ite (fun _ => ?_) (fun _ => ?_)
  with_reducible refine (limpApply_keeps _).then_ (by decide) (by decide) ?_
  with_reducible exact Keeps.refl _
  with_reducible exact Keeps.refl _

end Sys2Proof.Machine
end

