-- ==== Sys2Proof/Laws/Maint.lean ====
section
/-! SUPPORT.
What the operations of Machine/Maint.lean change, and that they keep a sound state sound.
-/

namespace Sys2Proof.Machine

theorem tallyRead_keeps (s : State) (arg : Nat) (valid : Bool) :
    Keeps [Reg.TLY_MARK] [.tly] s (tallyRead s arg valid).2.2 := by
  unfold tallyRead
  try dsimp only
  split
  with_reducible exact Keeps.refl _
  split
  with_reducible exact Keeps.refl _
  split
  split
  with_reducible refine Keeps.ite (fun _ => ?_) (fun _ => ?_)
  with_reducible refine Keeps.set_tly (by decide) ⟨rfl, rfl, rfl⟩ ?_
  with_reducible refine Keeps.wr (in_TLY_MARK_RD_MARK) (by decide) ?_
  with_reducible exact Keeps.refl _
  with_reducible exact Keeps.refl _
  with_reducible exact Keeps.refl _
  split
  with_reducible refine Keeps.ite (fun _ => ?_) (fun _ => ?_)
  with_reducible refine Keeps.set_tly (by decide) ⟨rfl, rfl, rfl⟩ ?_
  with_reducible refine Keeps.wr (in_TLY_MARK_RD_MARK) (by decide) ?_
  with_reducible exact Keeps.refl _
  with_reducible exact Keeps.refl _
  with_reducible exact Keeps.refl _

theorem tallyClear_keeps (s : State) :
    Keeps [Reg.PAR_EVT_CNT, Reg.SW_CNT_VAL, Reg.SW_MSEC_STAT, Reg.TLY_STATUS, Reg.TLY_NEXT, Reg.TLY_CNT0, Reg.TLY_CNT1] [.records, .owed, .rings, .evt, .tly, .queue, .proxies, .loss, .wire, .out] s (tallyClear s) := by
  unfold tallyClear
  try dsimp only
  with_reducible refine (raise_keeps _ _ _ _ _).then_ (by decide) (by decide) ?_
  with_reducible refine (writeRec_keeps _ _).then_ (by decide) (by decide) ?_
  with_reducible refine Keeps.set_tly (by decide) ⟨rfl, rfl, rfl⟩ ?_
  with_reducible refine Keeps.wr (in_TLY_CNT0_FF_LOST) (by decide) ?_
  with_reducible refine Keeps.put (in_TLY_STATUS_FF_FULL) (by decide) ?_
  with_reducible refine Keeps.wr (in_TLY_STATUS_FF_COUNT) (by decide) ?_
  with_reducible exact Keeps.refl _

theorem answer_keeps (s : State) (port : Nat) (z : Zk) (valid : Bool) (status : Nat) (data : List Byte) :
    Keeps [Reg.SW_CNT_VAL, Reg.SW_MSEC_STAT] [.wire, .out] s (answer s port z valid status data) := by
  unfold answer
  try dsimp only
  split
  with_reducible refine Keeps.ite (fun _ => ?_) (fun _ => ?_)
  with_reducible refine (emit_keeps _ _).then_ (by decide) (by decide) ?_
  with_reducible exact Keeps.refl _
  with_reducible refine (sendZilek_keeps _ _ _ _ _ _ _ _).then_ (by decide) (by decide) ?_
  with_reducible exact Keeps.refl _
  with_reducible refine (sendZilek_keeps _ _ _ _ _ _ _ _).then_ (by decide) (by decide) ?_
  with_reducible exact Keeps.refl _

theorem onMaint_keeps {w : List Span} {g : List Part} {op : Nat} {s : State} {port : Nat} {f : List Byte} {act : Zk → Bool → State → State} (hw : regsWithin [Reg.CHN_CNT, Reg.SW_CNT_VAL, Reg.SW_MSEC_STAT] w = true)
    (hg : within [Part.wire, .out] g = true)
    (hf : ∀ z b t, Keeps w g t (act z b t)) :
    Keeps w g s (onMaint op s port f act) := by
  have k : ∀ {t u : State}, Keeps [Reg.CHN_CNT, Reg.SW_CNT_VAL, Reg.SW_MSEC_STAT] [Part.wire, .out] t u → Keeps w g t u :=
    fun h => h.mono (of_regsWithin hw) (of_within hg)
  have he : Keeps w g s (emit s (.bypassed (1 - port) f)) := k ((emit_keeps _ _).then_ (by decide) (by decide) (Keeps.refl _))
  unfold onMaint
  split
  · refine Keeps.ite (fun _ => Keeps.refl _) fun _ => Keeps.ite (fun _ => he) fun _ => Keeps.ite (fun _ => ?_) fun _ => Keeps.refl _
    exact k ((Keeps.refl _).bump in_CHN_CNT_ZILEK_BAD (by decide))
  · rename_i z _
    have h1 : Keeps w g s (if (bypassed s && z.dst != ownAddr s) = true then emit s (.bypassed (1 - port) f) else s) :=
      Keeps.ite (fun _ => he) (fun _ => Keeps.refl _)
    exact Keeps.ite (fun _ => Keeps.refl _) fun _ => Keeps.ite
      (fun _ => Keeps.ite (fun _ => h1.trans (hf _ _ _)) fun _ => h1.trans (k ((answer_keeps _ _ _ _ _ _).then_ (by decide) (by decide) (Keeps.refl _))))
      (fun _ => h1)

theorem takeCounter_keeps (s : State) (z : Zk) :
    Keeps [Reg.CHN_MAINT_CTR] [] s (takeCounter s z) := by
  unfold takeCounter
  try dsimp only
  with_reducible refine Keeps.wr (in_CHN_MAINT_CTR_MCTR_LAST) (by decide) ?_
  with_reducible exact Keeps.refl _

theorem authFail_keeps (s : State) (port : Nat) (z : Zk) :
    Keeps [Reg.CHN_MAINT, Reg.SW_CNT_VAL, Reg.SW_MSEC_STAT] [.wire, .out] s (authFail s port z) := by
  unfold authFail
  try dsimp only
  with_reducible refine (answer_keeps _ _ _ _ _ _).then_ (by decide) (by decide) ?_
  with_reducible refine Keeps.bump (in_CHN_MAINT_MAINT_FAIL) (by decide) ?_
  with_reducible exact Keeps.refl _

theorem execIdent_keeps (port : Fin 2) (frame : List Byte) (s : State) :
    KeepsR [Reg.CHN_CNT, Reg.SW_CNT_VAL, Reg.SW_MSEC_STAT] [.wire, .out] s (execIdent port frame s) := by
  unfold execIdent
  try dsimp only
  with_reducible refine KeepsR.next ?_
  with_reducible refine onMaint_keeps (by decide) (by decide) (fun _ _ _ => ?_)
  with_reducible refine (answer_keeps _ _ _ _ _ _).then_ (by decide) (by decide) ?_
  with_reducible exact Keeps.refl _

theorem execMaintStatus_keeps (port : Fin 2) (frame : List Byte) (s : State) :
    KeepsR [Reg.CHN_CNT, Reg.SW_CNT_VAL, Reg.SW_MSEC_STAT] [.wire, .out] s (execMaintStatus port frame s) := by
  unfold execMaintStatus
  try dsimp only
  with_reducible refine KeepsR.next ?_
  with_reducible refine onMaint_keeps (by decide) (by decide) (fun _ _ _ => ?_)
  with_reducible refine (answer_keeps _ _ _ _ _ _).then_ (by decide) (by decide) ?_
  with_reducible exact Keeps.refl _

theorem execTallyRead_keeps (port : Fin 2) (frame : List Byte) (s : State) :
    KeepsR [Reg.CHN_MAINT, Reg.CHN_MAINT_CTR, Reg.CHN_CNT, Reg.SW_CNT_VAL, Reg.SW_MSEC_STAT, Reg.TLY_MARK] [.tly, .wire, .out] s (execTallyRead port frame s) := by
  unfold execTallyRead
  try dsimp only
  with_reducible refine KeepsR.next ?_
  with_reducible refine onMaint_keeps (by decide) (by decide) (fun _ _ _ => ?_)
  with_reducible refine Keeps.ite (fun _ => ?_) (fun _ => ?_)
  with_reducible refine (authFail_keeps _ _ _).then_ (by decide) (by decide) ?_
  with_reducible exact Keeps.refl _
  with_reducible refine (answer_keeps _ _ _ _ _ _).then_ (by decide) (by decide) ?_
  with_reducible refine Keeps.ite (fun _ => ?_) (fun _ => ?_)
  with_reducible refine (takeCounter_keeps _ _).then_ (by decide) (by decide) ?_
  with_reducible refine (tallyRead_keeps _ _ _).then_ (by decide) (by decide) ?_
  with_reducible exact Keeps.refl _
  with_reducible refine (tallyRead_keeps _ _ _).then_ (by decide) (by decide) ?_
  with_reducible exact Keeps.refl _

theorem execTallyClear_keeps (port : Fin 2) (frame : List Byte) (s : State) :
    KeepsR [Reg.CHN_MAINT, Reg.CHN_MAINT_CTR, Reg.CHN_CNT, Reg.PAR_EVT_CNT, Reg.SW_CNT_VAL, Reg.SW_MSEC_STAT, Reg.TLY_STATUS, Reg.TLY_NEXT, Reg.TLY_CNT0, Reg.TLY_CNT1] [.records, .owed, .rings, .evt, .tly, .queue, .proxies, .loss, .wire, .out] s (execTallyClear port frame s) := by
  unfold execTallyClear
  try dsimp only
  with_reducible refine KeepsR.next ?_
  with_reducible refine onMaint_keeps (by decide) (by decide) (fun _ _ _ => ?_)
  with_reducible refine Keeps.ite (fun _ => ?_) (fun _ => ?_)
  with_reducible refine (authFail_keeps _ _ _).then_ (by decide) (by decide) ?_
  with_reducible exact Keeps.refl _
  with_reducible refine Keeps.ite (fun _ => ?_) (fun _ => ?_)
  with_reducible refine (answer_keeps _ _ _ _ _ _).then_ (by decide) (by decide) ?_
  with_reducible exact Keeps.refl _
  with_reducible refine Keeps.ite (fun _ => ?_) (fun _ => ?_)
  with_reducible refine (answer_keeps _ _ _ _ _ _).then_ (by decide) (by decide) ?_
  with_reducible exact Keeps.refl _
  with_reducible refine (answer_keeps _ _ _ _ _ _).then_ (by decide) (by decide) ?_
  with_reducible refine (takeCounter_keeps _ _).then_ (by decide) (by decide) ?_
  with_reducible refine (tallyClear_keeps _).then_ (by decide) (by decide) ?_
  with_reducible exact Keeps.refl _

theorem execMaintSparReset_keeps (port : Fin 2) (frame : List Byte) (s : State) :
    KeepsR [Reg.SPR_DT_STATUS, Reg.SPR_RST_CAUSE, Reg.WAK_ARM, Reg.WAK_BUS_EN, Reg.WAK_SI_EN, Reg.CHN_MAINT, Reg.CHN_MAINT_CTR, Reg.CHN_CNT, Reg.PAR_EVT_CNT, Reg.SW_CNT_VAL, Reg.SW_MSEC_STAT, Reg.TLY_STATUS, Reg.TLY_CNT0, Reg.TLY_CNT1] [.records, .spar, .owed, .rings, .evt, .tly, .queue, .proxies, .loss, .sns, .wire, .out] s (execMaintSparReset port frame s) := by
  unfold execMaintSparReset
  try dsimp only
  with_reducible refine KeepsR.next ?_
  with_reducible refine onMaint_keeps (by decide) (by decide) (fun _ _ _ => ?_)
  with_reducible refine Keeps.ite (fun _ => ?_) (fun _ => ?_)
  with_reducible refine (authFail_keeps _ _ _).then_ (by decide) (by decide) ?_
  with_reducible exact Keeps.refl _
  with_reducible refine (sparReset_keeps _).then_ (by decide) (by decide) ?_
  with_reducible refine Keeps.orF (in_SPR_RST_CAUSE_CAUSE) (by decide) ?_
  with_reducible refine (answer_keeps _ _ _ _ _ _).then_ (by decide) (by decide) ?_
  with_reducible refine (takeCounter_keeps _ _).then_ (by decide) (by decide) ?_
  with_reducible exact Keeps.refl _

theorem maintReset_keeps (s : State) :
    Keeps [Reg.every] [.memory, .records, .layout, .freeCtr, .latches, .spar, .dt, .pwr, .owed, .banks, .par, .rng, .rings, .evt, .queue, .chain, .proxies, .act, .chs, .scl, .loss, .sns, .sw, .wire, .sub, .brd, .inf, .sto, .sec, .flt, .out] s (maintReset s) := by
  unfold maintReset
  try dsimp only
  with_reducible refine Keeps.ite (fun _ => ?_) (fun _ => ?_)
  with_reducible refine (unhalt_keeps _ _).then_ (by decide) (by decide) ?_
  with_reducible exact Keeps.refl _
  with_reducible refine Keeps.ite (fun _ => ?_) (fun _ => ?_)
  with_reducible refine (acceptWake_keeps _ _ _).then_ (by decide) (by decide) ?_
  with_reducible refine Keeps.orFEvery (by decide) ?_
  with_reducible exact Keeps.refl _
  with_reducible refine (commandReset_keeps _ _).then_ (by decide) (by decide) ?_
  with_reducible exact Keeps.refl _

theorem execMaintDeviceReset_keeps (port : Fin 2) (frame : List Byte) (s : State) :
    KeepsR [Reg.every] [.memory, .records, .layout, .freeCtr, .latches, .spar, .dt, .pwr, .owed, .banks, .par, .rng, .rings, .evt, .queue, .chain, .proxies, .act, .chs, .scl, .loss, .sns, .sw, .wire, .sub, .brd, .inf, .sto, .sec, .flt, .out] s (execMaintDeviceReset port frame s) := by
  unfold execMaintDeviceReset
  try dsimp only
  with_reducible refine KeepsR.next ?_
  with_reducible refine (showDomains_keeps _).then_ (by decide) (by decide) ?_
  with_reducible refine onMaint_keeps (by decide) (by decide) (fun _ _ _ => ?_)
  with_reducible refine Keeps.ite (fun _ => ?_) (fun _ => ?_)
  with_reducible refine (authFail_keeps _ _ _).then_ (by decide) (by decide) ?_
  with_reducible exact Keeps.refl _
  with_reducible refine Keeps.ite (fun _ => ?_) (fun _ => ?_)
  with_reducible refine (answer_keeps _ _ _ _ _ _).then_ (by decide) (by decide) ?_
  with_reducible refine (acceptWake_keeps _ _ _).then_ (by decide) (by decide) ?_
  with_reducible refine Keeps.orFEvery (by decide) ?_
  with_reducible exact Keeps.refl _
  with_reducible refine (maintReset_keeps _).then_ (by decide) (by decide) ?_
  with_reducible refine (answer_keeps _ _ _ _ _ _).then_ (by decide) (by decide) ?_
  with_reducible refine (takeCounter_keeps _ _).then_ (by decide) (by decide) ?_
  with_reducible exact Keeps.refl _

theorem execBypassOn_keeps (port : Fin 2) (frame : List Byte) (s : State) :
    KeepsR [Reg.CHN_MAINT, Reg.CHN_MAINT_CTR, Reg.CHN_CNT, Reg.SW_CNT_VAL, Reg.SW_MSEC_STAT] [.chain, .wire, .out] s (execBypassOn port frame s) := by
  unfold execBypassOn
  try dsimp only
  with_reducible refine KeepsR.next ?_
  with_reducible refine onMaint_keeps (by decide) (by decide) (fun _ _ _ => ?_)
  with_reducible refine Keeps.ite (fun _ => ?_) (fun _ => ?_)
  with_reducible refine (authFail_keeps _ _ _).then_ (by decide) (by decide) ?_
  with_reducible exact Keeps.refl _
  with_reducible refine Keeps.ite (fun _ => ?_) (fun _ => ?_)
  with_reducible refine (answer_keeps _ _ _ _ _ _).then_ (by decide) (by decide) ?_
  with_reducible exact Keeps.refl _
  with_reducible refine (wantBypass_keeps _ _).then_ (by decide) (by decide) ?_
  with_reducible refine (answer_keeps _ _ _ _ _ _).then_ (by decide) (by decide) ?_
  with_reducible refine (takeCounter_keeps _ _).then_ (by decide) (by decide) ?_
  with_reducible exact Keeps.refl _

theorem execBypassOff_keeps (port : Fin 2) (frame : List Byte) (s : State) :
    KeepsR [Reg.CHN_MAINT, Reg.CHN_MAINT_CTR, Reg.CHN_CNT, Reg.SW_CNT_VAL, Reg.SW_MSEC_STAT] [.chain, .wire, .out] s (execBypassOff port frame s) := by
  unfold execBypassOff
  try dsimp only
  with_reducible refine KeepsR.next ?_
  with_reducible refine onMaint_keeps (by decide) (by decide) (fun _ _ _ => ?_)
  with_reducible refine Keeps.ite (fun _ => ?_) (fun _ => ?_)
  with_reducible refine (authFail_keeps _ _ _).then_ (by decide) (by decide) ?_
  with_reducible exact Keeps.refl _
  with_reducible refine Keeps.set_chain (by decide) ⟨rfl, rfl⟩ ?_
  with_reducible refine (answer_keeps _ _ _ _ _ _).then_ (by decide) (by decide) ?_
  with_reducible refine (takeCounter_keeps _ _).then_ (by decide) (by decide) ?_
  with_reducible exact Keeps.refl _

end Sys2Proof.Machine
end

