-- ==== Sys2Proof/Laws/Model.lean ====
section
/-! SUPPORT.
What the operations of Machine/Model.lean change, and that they keep a sound state sound.
-/

namespace Sys2Proof.Machine



end Sys2Proof.Machine
end

