-- ==== Sys2Proof/Laws/Outputs.lean ====
section
/-! SUPPORT.
What the operations of Machine/Outputs.lean change, and that they keep a sound state sound.
-/

namespace Sys2Proof.Machine

theorem countLatch_keeps (s : State) :
    Keeps [Reg.PAR_EVT_CNT, Reg.SCL_STATUS, Reg.SW_CNT_VAL, Reg.SW_MSEC_STAT, Reg.TLY_CNT0] [.records, .owed, .rings, .evt, .queue, .proxies, .scl, .loss, .wire, .out] s (countLatch s) := by
  unfold countLatch
  try dsimp only
  with_reducible refine Keeps.ite (fun _ => ?_) (fun _ => ?_)
  with_reducible refine (raise_keeps _ _ _ _ _).then_ (by decide) (by decide) ?_
  with_reducible refine Keeps.put (in_SCL_STATUS_STORM) (by decide) ?_
  with_reducible refine Keeps.set_scl (by decide) ⟨rfl, rfl⟩ ?_
  with_reducible exact Keeps.refl _
  with_reducible refine Keeps.set_scl (by decide) ⟨rfl, rfl⟩ ?_
  with_reducible exact Keeps.refl _

theorem planRetry_keeps (s : State) (c : Chan) :
    Keeps [Reg.PAR_EVT_CNT, Reg.SW_CNT_VAL, Reg.SW_MSEC_STAT, Reg.TLY_CNT0] [.records, .owed, .rings, .evt, .queue, .proxies, .chs, .loss, .wire, .out] s (planRetry s c) := by
  unfold planRetry
  try dsimp only
  with_reducible refine Keeps.ite (fun _ => ?_) (fun _ => ?_)
  with_reducible exact Keeps.refl _
  with_reducible refine Keeps.ite (fun _ => ?_) (fun _ => ?_)
  with_reducible refine (setChn_keeps _ _ _).then_ (by decide) (by decide) ?_
  with_reducible exact Keeps.refl _
  with_reducible refine Keeps.ite (fun _ => ?_) (fun _ => ?_)
  with_reducible refine (raise_keeps _ _ _ _ _).then_ (by decide) (by decide) ?_
  with_reducible exact Keeps.refl _
  with_reducible exact Keeps.refl _

theorem keptFault_keeps (s : State) (c : Chan) (what : Nat) :
    Keeps [Reg.TLY_CNT0] [.queue] s (keptFault s c what) := by
  unfold keptFault
  try dsimp only
  with_reducible refine Keeps.ite (fun _ => ?_) (fun _ => ?_)
  with_reducible refine (tally_keeps _ _ _).then_ (by decide) (by decide) ?_
  with_reducible exact Keeps.refl _
  with_reducible exact Keeps.refl _

theorem supplyLost_keeps (s : State) (c : Chan) :
    Keeps [Reg.PAR_EVT_CNT, Reg.LED_GSTAT, Reg.SW_CNT_VAL, Reg.SW_MSEC_STAT, Reg.TLY_CNT0] [.records, .owed, .rings, .evt, .queue, .proxies, .loss, .wire, .out] s (supplyLost s c) := by
  unfold supplyLost
  try dsimp only
  with_reducible refine Keeps.ite (fun _ => ?_) (fun _ => ?_)
  with_reducible refine Keeps.foldl (fun _ _ => ?_) _ ?_
  with_reducible refine Keeps.ite (fun _ => ?_) (fun _ => ?_)
  with_reducible refine Keeps.ite (fun _ => ?_) (fun _ => ?_)
  with_reducible refine Keeps.foldl (fun _ _ => ?_) _ ?_
  with_reducible refine (raise_keeps _ _ _ _ _).then_ (by decide) (by decide) ?_
  with_reducible exact Keeps.refl _
  with_reducible refine Keeps.put (in_LED_GSTAT_SUPPLY_LOST _) (by decide) ?_
  with_reducible exact Keeps.refl _
  with_reducible refine Keeps.put (in_LED_GSTAT_SUPPLY_LOST _) (by decide) ?_
  with_reducible exact Keeps.refl _
  with_reducible exact Keeps.refl _
  with_reducible exact Keeps.refl _
  with_reducible exact Keeps.refl _

theorem reversalBroken_keeps (s : State) (c : Chan) :
    Keeps [Reg.PAR_EVT_CNT, Reg.ACT_SAFE_STATUS, Reg.ACT_CNT, Reg.HS_STATE, Reg.HB_STATE, Reg.SV_STATE, Reg.SV_KRES, Reg.SV_CNT2, Reg.LED_STATE, Reg.FIO_CAUSE, Reg.SW_CNT_VAL, Reg.SW_MSEC_STAT, Reg.TLY_CNT0] [.records, .freeCtr, .owed, .rng, .rings, .evt, .queue, .proxies, .chs, .loss, .wire, .out] s (reversalBroken s c) := by
  unfold reversalBroken
  try dsimp only
  with_reducible refine Keeps.ite (fun _ => ?_) (fun _ => ?_)
  with_reducible refine (holdEnded_keeps _ _).then_ (by decide) (by decide) ?_
  with_reducible refine (setRev_keeps _ _ _).then_ (by decide) (by decide) ?_
  with_reducible refine (setSafe_keeps _ _ _).then_ (by decide) (by decide) ?_
  with_reducible exact Keeps.refl _
  with_reducible exact Keeps.refl _

theorem tripOff_keeps (s : State) (c : Chan) :
    Keeps [Reg.PAR_EVT_CNT, Reg.ACT_CNT, Reg.HS_STATE, Reg.HB_STATE, Reg.SV_STATE, Reg.SV_KRES, Reg.SV_CNT2, Reg.LED_STATE, Reg.FIO_CAUSE, Reg.SW_CNT_VAL, Reg.SW_MSEC_STAT, Reg.TLY_CNT0] [.records, .freeCtr, .owed, .rng, .rings, .evt, .queue, .proxies, .chs, .loss, .wire, .out] s (tripOff s c) := by
  unfold tripOff
  try dsimp only
  with_reducible refine Keeps.ite (fun _ => ?_) (fun _ => ?_)
  with_reducible refine (setChn_keeps _ _ _).then_ (by decide) (by decide) ?_
  with_reducible refine (fallFast_keeps _ _).then_ (by decide) (by decide) ?_
  split
  with_reducible refine (switch1_keeps _ _ _).then_ (by decide) (by decide) ?_
  with_reducible refine (cutOff_keeps _ _ _ _).then_ (by decide) (by decide) ?_
  with_reducible refine (cutOff_keeps _ _ _ _).then_ (by decide) (by decide) ?_
  with_reducible exact Keeps.refl _
  with_reducible refine (cutOff_keeps _ _ _ _).then_ (by decide) (by decide) ?_
  with_reducible exact Keeps.refl _
  with_reducible refine (fallFast_keeps _ _).then_ (by decide) (by decide) ?_
  split
  with_reducible refine (switch1_keeps _ _ _).then_ (by decide) (by decide) ?_
  with_reducible refine (cutOff_keeps _ _ _ _).then_ (by decide) (by decide) ?_
  with_reducible refine (cutOff_keeps _ _ _ _).then_ (by decide) (by decide) ?_
  with_reducible exact Keeps.refl _
  with_reducible refine (cutOff_keeps _ _ _ _).then_ (by decide) (by decide) ?_
  with_reducible exact Keeps.refl _

theorem latchOff_keeps (s : State) (c : Chan) (sw : List Byte) :
    Keeps [Reg.every] [.records, .freeCtr, .owed, .rng, .rings, .evt, .queue, .proxies, .chs, .scl, .loss, .wire, .out] s (latchOff s c sw) := by
  unfold latchOff
  try dsimp only
  with_reducible refine (reversalBroken_keeps _ _).then_ (by decide) (by decide) ?_
  split
  with_reducible refine (raise_keeps _ _ _ _ _).then_ (by decide) (by decide) ?_
  with_reducible refine (supplyLost_keeps _ _).then_ (by decide) (by decide) ?_
  with_reducible refine Keeps.foldl (fun _ _ => ?_) _ ?_
  with_reducible refine (showCh_keeps _ _).then_ (by decide) (by decide) ?_
  with_reducible exact Keeps.refl _
  with_reducible refine (planRetry_keeps _ _).then_ (by decide) (by decide) ?_
  with_reducible refine (countLatch_keeps _).then_ (by decide) (by decide) ?_
  with_reducible refine (keptFault_keeps _ _ _).then_ (by decide) (by decide) ?_
  split
  with_reducible refine Keeps.bumpEvery (by decide) ?_
  with_reducible refine (tripOff_keeps _ _).then_ (by decide) (by decide) ?_
  with_reducible refine Keeps.foldl (fun _ _ => ?_) _ ?_
  split
  with_reducible refine Keeps.putEvery (by decide) ?_
  with_reducible exact Keeps.refl _
  with_reducible exact Keeps.refl _
  with_reducible exact Keeps.refl _
  with_reducible refine Keeps.bumpEvery (by decide) ?_
  with_reducible refine (tripOff_keeps _ _).then_ (by decide) (by decide) ?_
  with_reducible refine Keeps.foldl (fun _ _ => ?_) _ ?_
  split
  with_reducible refine Keeps.putEvery (by decide) ?_
  with_reducible exact Keeps.refl _
  with_reducible exact Keeps.refl _
  with_reducible exact Keeps.refl _
  with_reducible refine Keeps.bumpEvery (by decide) ?_
  with_reducible refine (tripOff_keeps _ _).then_ (by decide) (by decide) ?_
  with_reducible refine Keeps.foldl (fun _ _ => ?_) _ ?_
  split
  with_reducible refine Keeps.putEvery (by decide) ?_
  with_reducible exact Keeps.refl _
  with_reducible exact Keeps.refl _
  with_reducible exact Keeps.refl _
  with_reducible refine (showFio_keeps _).then_ (by decide) (by decide) ?_
  with_reducible refine (tripOff_keeps _ _).then_ (by decide) (by decide) ?_
  with_reducible refine Keeps.foldl (fun _ _ => ?_) _ ?_
  split
  with_reducible refine Keeps.putEvery (by decide) ?_
  with_reducible exact Keeps.refl _
  with_reducible exact Keeps.refl _
  with_reducible exact Keeps.refl _
  with_reducible refine (raise_keeps _ _ _ _ _).then_ (by decide) (by decide) ?_
  with_reducible refine (supplyLost_keeps _ _).then_ (by decide) (by decide) ?_
  with_reducible refine Keeps.foldl (fun _ _ => ?_) _ ?_
  with_reducible refine (showCh_keeps _ _).then_ (by decide) (by decide) ?_
  with_reducible exact Keeps.refl _
  with_reducible refine (planRetry_keeps _ _).then_ (by decide) (by decide) ?_
  with_reducible refine (countLatch_keeps _).then_ (by decide) (by decide) ?_
  with_reducible refine (keptFault_keeps _ _ _).then_ (by decide) (by decide) ?_
  split
  with_reducible refine Keeps.bumpEvery (by decide) ?_
  with_reducible refine (tripOff_keeps _ _).then_ (by decide) (by decide) ?_
  with_reducible refine Keeps.foldl (fun _ _ => ?_) _ ?_
  split
  with_reducible refine Keeps.putEvery (by decide) ?_
  with_reducible exact Keeps.refl _
  with_reducible exact Keeps.refl _
  with_reducible exact Keeps.refl _
  with_reducible refine Keeps.bumpEvery (by decide) ?_
  with_reducible refine (tripOff_keeps _ _).then_ (by decide) (by decide) ?_
  with_reducible refine Keeps.foldl (fun _ _ => ?_) _ ?_
  split
  with_reducible refine Keeps.putEvery (by decide) ?_
  with_reducible exact Keeps.refl _
  with_reducible exact Keeps.refl _
  with_reducible exact Keeps.refl _
  with_reducible refine Keeps.bumpEvery (by decide) ?_
  with_reducible refine (tripOff_keeps _ _).then_ (by decide) (by decide) ?_
  with_reducible refine Keeps.foldl (fun _ _ => ?_) _ ?_
  split
  with_reducible refine Keeps.putEvery (by decide) ?_
  with_reducible exact Keeps.refl _
  with_reducible exact Keeps.refl _
  with_reducible exact Keeps.refl _
  with_reducible refine (showFio_keeps _).then_ (by decide) (by decide) ?_
  with_reducible refine (tripOff_keeps _ _).then_ (by decide) (by decide) ?_
  with_reducible refine Keeps.foldl (fun _ _ => ?_) _ ?_
  split
  with_reducible refine Keeps.putEvery (by decide) ?_
  with_reducible exact Keeps.refl _
  with_reducible exact Keeps.refl _
  with_reducible exact Keeps.refl _
  with_reducible refine (raise_keeps _ _ _ _ _).then_ (by decide) (by decide) ?_
  with_reducible refine (supplyLost_keeps _ _).then_ (by decide) (by decide) ?_
  with_reducible refine Keeps.foldl (fun _ _ => ?_) _ ?_
  with_reducible refine (showCh_keeps _ _).then_ (by decide) (by decide) ?_
  with_reducible exact Keeps.refl _
  with_reducible refine (planRetry_keeps _ _).then_ (by decide) (by decide) ?_
  with_reducible refine (countLatch_keeps _).then_ (by decide) (by decide) ?_
  with_reducible refine (keptFault_keeps _ _ _).then_ (by decide) (by decide) ?_
  split
  with_reducible refine Keeps.bumpEvery (by decide) ?_
  with_reducible refine (tripOff_keeps _ _).then_ (by decide) (by decide) ?_
  with_reducible refine Keeps.foldl (fun _ _ => ?_) _ ?_
  split
  with_reducible refine Keeps.putEvery (by decide) ?_
  with_reducible exact Keeps.refl _
  with_reducible exact Keeps.refl _
  with_reducible exact Keeps.refl _
  with_reducible refine Keeps.bumpEvery (by decide) ?_
  with_reducible refine (tripOff_keeps _ _).then_ (by decide) (by decide) ?_
  with_reducible refine Keeps.foldl (fun _ _ => ?_) _ ?_
  split
  with_reducible refine Keeps.putEvery (by decide) ?_
  with_reducible exact Keeps.refl _
  with_reducible exact Keeps.refl _
  with_reducible exact Keeps.refl _
  with_reducible refine Keeps.bumpEvery (by decide) ?_
  with_reducible refine (tripOff_keeps _ _).then_ (by decide) (by decide) ?_
  with_reducible refine Keeps.foldl (fun _ _ => ?_) _ ?_
  split
  with_reducible refine Keeps.putEvery (by decide) ?_
  with_reducible exact Keeps.refl _
  with_reducible exact Keeps.refl _
  with_reducible exact Keeps.refl _
  with_reducible refine (showFio_keeps _).then_ (by decide) (by decide) ?_
  with_reducible refine (tripOff_keeps _ _).then_ (by decide) (by decide) ?_
  with_reducible refine Keeps.foldl (fun _ _ => ?_) _ ?_
  split
  with_reducible refine Keeps.putEvery (by decide) ?_
  with_reducible exact Keeps.refl _
  with_reducible exact Keeps.refl _
  with_reducible exact Keeps.refl _
  with_reducible refine (supplyLost_keeps _ _).then_ (by decide) (by decide) ?_
  with_reducible refine Keeps.foldl (fun _ _ => ?_) _ ?_
  with_reducible refine (showCh_keeps _ _).then_ (by decide) (by decide) ?_
  with_reducible exact Keeps.refl _
  with_reducible refine (planRetry_keeps _ _).then_ (by decide) (by decide) ?_
  with_reducible refine (countLatch_keeps _).then_ (by decide) (by decide) ?_
  with_reducible refine (keptFault_keeps _ _ _).then_ (by decide) (by decide) ?_
  split
  with_reducible refine Keeps.bumpEvery (by decide) ?_
  with_reducible refine (tripOff_keeps _ _).then_ (by decide) (by decide) ?_
  with_reducible refine Keeps.foldl (fun _ _ => ?_) _ ?_
  split
  with_reducible refine Keeps.putEvery (by decide) ?_
  with_reducible exact Keeps.refl _
  with_reducible exact Keeps.refl _
  with_reducible exact Keeps.refl _
  with_reducible refine Keeps.bumpEvery (by decide) ?_
  with_reducible refine (tripOff_keeps _ _).then_ (by decide) (by decide) ?_
  with_reducible refine Keeps.foldl (fun _ _ => ?_) _ ?_
  split
  with_reducible refine Keeps.putEvery (by decide) ?_
  with_reducible exact Keeps.refl _
  with_reducible exact Keeps.refl _
  with_reducible exact Keeps.refl _
  with_reducible refine Keeps.bumpEvery (by decide) ?_
  with_reducible refine (tripOff_keeps _ _).then_ (by decide) (by decide) ?_
  with_reducible refine Keeps.foldl (fun _ _ => ?_) _ ?_
  split
  with_reducible refine Keeps.putEvery (by decide) ?_
  with_reducible exact Keeps.refl _
  with_reducible exact Keeps.refl _
  with_reducible exact Keeps.refl _
  with_reducible refine (showFio_keeps _).then_ (by decide) (by decide) ?_
  with_reducible refine (tripOff_keeps _ _).then_ (by decide) (by decide) ?_
  with_reducible refine Keeps.foldl (fun _ _ => ?_) _ ?_
  split
  with_reducible refine Keeps.putEvery (by decide) ?_
  with_reducible exact Keeps.refl _
  with_reducible exact Keeps.refl _
  with_reducible exact Keeps.refl _

theorem overCurrent_keeps (s : State) (c : Chan) (ma : Nat) :
    Keeps [] [.freeCtr] s (overCurrent s c ma).2 := by
  unfold overCurrent
  try dsimp only
  split
  with_reducible exact Keeps.refl _
  split
  with_reducible exact Keeps.refl _
  with_reducible refine (freeNext_keeps _).then_ (by decide) (by decide) ?_
  with_reducible exact Keeps.refl _

theorem comparator_keeps (s : State) (c : Chan) (ma : Nat) (sw : List Byte) :
    Keeps [Reg.every] [.records, .freeCtr, .owed, .rng, .rings, .evt, .queue, .proxies, .chs, .scl, .loss, .wire, .out] s (comparator s c ma sw) := by
  unfold comparator
  try dsimp only
  with_reducible refine Keeps.ite (fun _ => ?_) (fun _ => ?_)
  with_reducible refine Keeps.ite (fun _ => ?_) (fun _ => ?_)
  with_reducible refine (latchOff_keeps _ _ _).then_ (by decide) (by decide) ?_
  with_reducible refine (overCurrent_keeps _ _ _).then_ (by decide) (by decide) ?_
  with_reducible exact Keeps.refl _
  with_reducible refine (overCurrent_keeps _ _ _).then_ (by decide) (by decide) ?_
  with_reducible exact Keeps.refl _
  with_reducible exact Keeps.refl _

theorem execHsOvercurrent_keeps (c : Chan) (ma : Nat) (s : State) :
    KeepsR [Reg.every] [.records, .freeCtr, .owed, .rng, .rings, .evt, .queue, .proxies, .chs, .scl, .loss, .wire, .out] s (execHsOvercurrent c ma s) := by
  unfold execHsOvercurrent
  try dsimp only
  with_reducible refine KeepsR.next ?_
  with_reducible refine Keeps.ite (fun _ => ?_) (fun _ => ?_)
  with_reducible refine (comparator_keeps _ _ _ _).then_ (by decide) (by decide) ?_
  with_reducible exact Keeps.refl _
  with_reducible exact Keeps.refl _

theorem execHbOvercurrent_keeps (hb : Fin 8) (low : Bool) (ma : Nat) (s : State) :
    KeepsR [Reg.every] [.records, .freeCtr, .owed, .rng, .rings, .evt, .queue, .proxies, .chs, .scl, .loss, .wire, .out] s (execHbOvercurrent hb low ma s) := by
  unfold execHbOvercurrent
  try dsimp only
  with_reducible refine KeepsR.next ?_
  with_reducible refine (comparator_keeps _ _ _ _).then_ (by decide) (by decide) ?_
  with_reducible exact Keeps.refl _

theorem execSvOvercurrent_keeps (sv : Fin 8) (ma : Nat) (s : State) :
    KeepsR [Reg.every] [.records, .freeCtr, .owed, .rng, .rings, .evt, .queue, .proxies, .chs, .scl, .loss, .wire, .out] s (execSvOvercurrent sv ma s) := by
  unfold execSvOvercurrent
  try dsimp only
  with_reducible refine KeepsR.next ?_
  with_reducible refine (comparator_keeps _ _ _ _).then_ (by decide) (by decide) ?_
  with_reducible exact Keeps.refl _

theorem execInrushEnd_keeps (c : Chan) (s : State) :
    KeepsR [Reg.HS_STATE] [.chs] s (execInrushEnd c s) := by
  unfold execInrushEnd
  try dsimp only
  with_reducible refine KeepsR.next ?_
  with_reducible refine Keeps.ite (fun _ => ?_) (fun _ => ?_)
  with_reducible refine Keeps.put (in_HS_STATE_INRUSH _) (by decide) ?_
  with_reducible exact Keeps.refl _
  with_reducible refine Keeps.ite (fun _ => ?_) (fun _ => ?_)
  with_reducible refine (setChn_keeps _ _ _).then_ (by decide) (by decide) ?_
  with_reducible exact Keeps.refl _
  with_reducible exact Keeps.refl _

theorem execRetryRestart_keeps (c : Chan) (s : State) :
    KeepsR [Reg.every] [.records, .owed, .rings, .evt, .queue, .proxies, .chs, .loss, .wire, .out] s (execRetryRestart c s) := by
  unfold execRetryRestart
  try dsimp only
  split
  with_reducible refine KeepsR.next ?_
  with_reducible exact Keeps.refl _
  split
  with_reducible refine KeepsR.next ?_
  with_reducible exact Keeps.refl _
  with_reducible refine KeepsR.next ?_
  with_reducible refine (supplyLost_keeps _ _).then_ (by decide) (by decide) ?_
  with_reducible refine Keeps.ite (fun _ => ?_) (fun _ => ?_)
  with_reducible refine Keeps.bumpEvery (by decide) ?_
  with_reducible refine (restartCh_keeps _ _).then_ (by decide) (by decide) ?_
  with_reducible refine (setRetries_keeps _ _ _).then_ (by decide) (by decide) ?_
  with_reducible exact Keeps.refl _
  with_reducible refine (restartCh_keeps _ _).then_ (by decide) (by decide) ?_
  with_reducible refine (setRetries_keeps _ _ _).then_ (by decide) (by decide) ?_
  with_reducible exact Keeps.refl _

theorem execRetryCountReset_keeps (c : Chan) (s : State) :
    KeepsR [Reg.HS_STATE] [.chs] s (execRetryCountReset c s) := by
  unfold execRetryCountReset
  try dsimp only
  with_reducible refine KeepsR.next ?_
  with_reducible refine Keeps.ite (fun _ => ?_) (fun _ => ?_)
  with_reducible refine (setRetries_keeps _ _ _).then_ (by decide) (by decide) ?_
  with_reducible exact Keeps.refl _
  with_reducible exact Keeps.refl _

theorem showTemp_keeps (s : State) (c : Chan) (t : Int) :
    Keeps [Reg.HS_MEAS, Reg.HB_MEAS, Reg.SV_MEAS, Reg.LED_MEAS, Reg.FIO_MEAS] [.chs] s (showTemp s c t) := by
  unfold showTemp
  try dsimp only
  with_reducible refine Keeps.ite (fun _ => ?_) (fun _ => ?_)
  with_reducible refine Keeps.foldl (fun _ _ => ?_) _ ?_
  with_reducible refine Keeps.wrIntAny (in_tempF _) (by decide) ?_
  with_reducible exact Keeps.refl _
  with_reducible refine (setChn_keeps _ _ _).then_ (by decide) (by decide) ?_
  with_reducible exact Keeps.refl _
  with_reducible refine Keeps.wrIntAny (in_tempF _) (by decide) ?_
  with_reducible refine (setChn_keeps _ _ _).then_ (by decide) (by decide) ?_
  with_reducible exact Keeps.refl _

theorem thermalTrip_keeps (s : State) (c : Chan) :
    Keeps [Reg.PAR_EVT_CNT, Reg.ACT_SAFE_STATUS, Reg.ACT_CNT, Reg.HS_STATE, Reg.HS_CNT, Reg.HB_STATE, Reg.HB_CNT, Reg.SV_STATE, Reg.SV_KRES, Reg.SV_CNT, Reg.SV_CNT2, Reg.LED_STATE, Reg.LED_GSTAT, Reg.FIO_STATUS, Reg.FIO_CAUSE, Reg.FIO_CNT, Reg.SW_CNT_VAL, Reg.SW_MSEC_STAT, Reg.TLY_CNT0] [.records, .freeCtr, .owed, .rng, .rings, .evt, .queue, .proxies, .chs, .loss, .wire, .out] s (thermalTrip s c) := by
  unfold thermalTrip
  try dsimp only
  with_reducible refine (reversalBroken_keeps _ _).then_ (by decide) (by decide) ?_
  split
  with_reducible refine (raise_keeps _ _ _ _ _).then_ (by decide) (by decide) ?_
  with_reducible refine (supplyLost_keeps _ _).then_ (by decide) (by decide) ?_
  with_reducible refine Keeps.foldl (fun _ _ => ?_) _ ?_
  with_reducible refine (showCh_keeps _ _).then_ (by decide) (by decide) ?_
  with_reducible exact Keeps.refl _
  with_reducible refine (keptFault_keeps _ _ _).then_ (by decide) (by decide) ?_
  split
  with_reducible refine Keeps.bump (in_HS_CNT_THERM_OFFS) (by decide) ?_
  with_reducible refine (tripOff_keeps _ _).then_ (by decide) (by decide) ?_
  with_reducible refine Keeps.foldl (fun _ _ => ?_) _ ?_
  with_reducible refine Keeps.putAny (in_thermF _) (by decide) ?_
  with_reducible exact Keeps.refl _
  with_reducible exact Keeps.refl _
  with_reducible refine Keeps.bump (in_HB_CNT_THERM_OFFS) (by decide) ?_
  with_reducible refine (tripOff_keeps _ _).then_ (by decide) (by decide) ?_
  with_reducible refine Keeps.foldl (fun _ _ => ?_) _ ?_
  with_reducible refine Keeps.putAny (in_thermF _) (by decide) ?_
  with_reducible exact Keeps.refl _
  with_reducible exact Keeps.refl _
  with_reducible refine Keeps.bump (in_SV_CNT_THERM_OFFS) (by decide) ?_
  with_reducible refine (tripOff_keeps _ _).then_ (by decide) (by decide) ?_
  with_reducible refine Keeps.foldl (fun _ _ => ?_) _ ?_
  with_reducible refine Keeps.putAny (in_thermF _) (by decide) ?_
  with_reducible exact Keeps.refl _
  with_reducible exact Keeps.refl _
  with_reducible refine (tripOff_keeps _ _).then_ (by decide) (by decide) ?_
  with_reducible refine Keeps.foldl (fun _ _ => ?_) _ ?_
  with_reducible refine Keeps.putAny (in_thermF _) (by decide) ?_
  with_reducible exact Keeps.refl _
  with_reducible exact Keeps.refl _
  with_reducible refine (showFio_keeps _).then_ (by decide) (by decide) ?_
  with_reducible refine (tripOff_keeps _ _).then_ (by decide) (by decide) ?_
  with_reducible refine Keeps.foldl (fun _ _ => ?_) _ ?_
  with_reducible refine Keeps.putAny (in_thermF _) (by decide) ?_
  with_reducible exact Keeps.refl _
  with_reducible exact Keeps.refl _
  with_reducible refine (supplyLost_keeps _ _).then_ (by decide) (by decide) ?_
  with_reducible refine Keeps.foldl (fun _ _ => ?_) _ ?_
  with_reducible refine (showCh_keeps _ _).then_ (by decide) (by decide) ?_
  with_reducible exact Keeps.refl _
  with_reducible refine (keptFault_keeps _ _ _).then_ (by decide) (by decide) ?_
  split
  with_reducible refine Keeps.bump (in_HS_CNT_THERM_OFFS) (by decide) ?_
  with_reducible refine (tripOff_keeps _ _).then_ (by decide) (by decide) ?_
  with_reducible refine Keeps.foldl (fun _ _ => ?_) _ ?_
  with_reducible refine Keeps.putAny (in_thermF _) (by decide) ?_
  with_reducible exact Keeps.refl _
  with_reducible exact Keeps.refl _
  with_reducible refine Keeps.bump (in_HB_CNT_THERM_OFFS) (by decide) ?_
  with_reducible refine (tripOff_keeps _ _).then_ (by decide) (by decide) ?_
  with_reducible refine Keeps.foldl (fun _ _ => ?_) _ ?_
  with_reducible refine Keeps.putAny (in_thermF _) (by decide) ?_
  with_reducible exact Keeps.refl _
  with_reducible exact Keeps.refl _
  with_reducible refine Keeps.bump (in_SV_CNT_THERM_OFFS) (by decide) ?_
  with_reducible refine (tripOff_keeps _ _).then_ (by decide) (by decide) ?_
  with_reducible refine Keeps.foldl (fun _ _ => ?_) _ ?_
  with_reducible refine Keeps.putAny (in_thermF _) (by decide) ?_
  with_reducible exact Keeps.refl _
  with_reducible exact Keeps.refl _
  with_reducible refine (tripOff_keeps _ _).then_ (by decide) (by decide) ?_
  with_reducible refine Keeps.foldl (fun _ _ => ?_) _ ?_
  with_reducible refine Keeps.putAny (in_thermF _) (by decide) ?_
  with_reducible exact Keeps.refl _
  with_reducible exact Keeps.refl _
  with_reducible refine (showFio_keeps _).then_ (by decide) (by decide) ?_
  with_reducible refine (tripOff_keeps _ _).then_ (by decide) (by decide) ?_
  with_reducible refine Keeps.foldl (fun _ _ => ?_) _ ?_
  with_reducible refine Keeps.putAny (in_thermF _) (by decide) ?_
  with_reducible exact Keeps.refl _
  with_reducible exact Keeps.refl _

theorem warnTemp_keeps (s : State) (c : Chan) (t : Int) :
    Keeps [Reg.PAR_EVT_CNT, Reg.HS_STATE, Reg.SV_STATE, Reg.SW_CNT_VAL, Reg.SW_MSEC_STAT, Reg.TLY_CNT0] [.records, .owed, .rings, .evt, .queue, .proxies, .chs, .loss, .wire, .out] s (warnTemp s c t) := by
  unfold warnTemp
  try dsimp only
  split
  with_reducible exact Keeps.refl _
  with_reducible refine Keeps.ite (fun _ => ?_) (fun _ => ?_)
  with_reducible refine Keeps.ite (fun _ => ?_) (fun _ => ?_)
  split
  with_reducible refine Keeps.put (in_HS_STATE_TWARN_ON _) (by decide) ?_
  with_reducible refine (setChn_keeps _ _ _).then_ (by decide) (by decide) ?_
  with_reducible exact Keeps.refl _
  with_reducible refine Keeps.put (in_SV_STATE_TWARN_ON _) (by decide) ?_
  with_reducible refine (setChn_keeps _ _ _).then_ (by decide) (by decide) ?_
  with_reducible exact Keeps.refl _
  with_reducible refine (setChn_keeps _ _ _).then_ (by decide) (by decide) ?_
  with_reducible exact Keeps.refl _
  with_reducible exact Keeps.refl _
  with_reducible refine Keeps.ite (fun _ => ?_) (fun _ => ?_)
  split
  with_reducible refine (raise_keeps _ _ _ _ _).then_ (by decide) (by decide) ?_
  split
  with_reducible refine Keeps.put (in_HS_STATE_TWARN_ON _) (by decide) ?_
  with_reducible refine (setChn_keeps _ _ _).then_ (by decide) (by decide) ?_
  with_reducible exact Keeps.refl _
  with_reducible refine Keeps.put (in_SV_STATE_TWARN_ON _) (by decide) ?_
  with_reducible refine (setChn_keeps _ _ _).then_ (by decide) (by decide) ?_
  with_reducible exact Keeps.refl _
  with_reducible refine (setChn_keeps _ _ _).then_ (by decide) (by decide) ?_
  with_reducible exact Keeps.refl _
  split
  with_reducible refine Keeps.put (in_HS_STATE_TWARN_ON _) (by decide) ?_
  with_reducible refine (setChn_keeps _ _ _).then_ (by decide) (by decide) ?_
  with_reducible exact Keeps.refl _
  with_reducible refine Keeps.put (in_SV_STATE_TWARN_ON _) (by decide) ?_
  with_reducible refine (setChn_keeps _ _ _).then_ (by decide) (by decide) ?_
  with_reducible exact Keeps.refl _
  with_reducible refine (setChn_keeps _ _ _).then_ (by decide) (by decide) ?_
  with_reducible exact Keeps.refl _
  with_reducible exact Keeps.refl _

theorem execTempSample_keeps (c : Chan) (t : Int) (s : State) :
    KeepsR [Reg.every] [.records, .freeCtr, .owed, .rng, .rings, .evt, .queue, .proxies, .chs, .loss, .wire, .out] s (execTempSample c t s) := by
  unfold execTempSample
  try dsimp only
  split
  with_reducible refine KeepsR.next ?_
  with_reducible exact Keeps.refl _
  with_reducible refine KeepsR.next ?_
  with_reducible refine Keeps.ite (fun _ => ?_) (fun _ => ?_)
  with_reducible refine Keeps.ite (fun _ => ?_) (fun _ => ?_)
  with_reducible refine (showTemp_keeps _ _ _).then_ (by decide) (by decide) ?_
  with_reducible exact Keeps.refl _
  with_reducible refine (thermalTrip_keeps _ _).then_ (by decide) (by decide) ?_
  with_reducible refine (showTemp_keeps _ _ _).then_ (by decide) (by decide) ?_
  with_reducible exact Keeps.refl _
  with_reducible refine Keeps.ite (fun _ => ?_) (fun _ => ?_)
  with_reducible refine Keeps.ite (fun _ => ?_) (fun _ => ?_)
  with_reducible refine (supplyLost_keeps _ _).then_ (by decide) (by decide) ?_
  with_reducible refine (restartCh_keeps _ _).then_ (by decide) (by decide) ?_
  with_reducible refine (showTemp_keeps _ _ _).then_ (by decide) (by decide) ?_
  with_reducible exact Keeps.refl _
  with_reducible refine (showTemp_keeps _ _ _).then_ (by decide) (by decide) ?_
  with_reducible exact Keeps.refl _
  with_reducible refine (warnTemp_keeps _ _ _).then_ (by decide) (by decide) ?_
  with_reducible refine (showTemp_keeps _ _ _).then_ (by decide) (by decide) ?_
  with_reducible exact Keeps.refl _

theorem openChange_keeps (s : State) (c : Chan) (isOpen : Bool) (source : Nat) (sub : Nat) :
    Keeps [Reg.PAR_EVT_CNT, Reg.HS_STATE, Reg.HB_STATE, Reg.SV_STATE, Reg.LED_STATE, Reg.FIO_CAUSE, Reg.SW_CNT_VAL, Reg.SW_MSEC_STAT, Reg.TLY_CNT0] [.records, .owed, .rings, .evt, .queue, .proxies, .loss, .wire, .out] s (openChange s c isOpen source sub) := by
  unfold openChange
  try dsimp only
  with_reducible refine Keeps.ite (fun _ => ?_) (fun _ => ?_)
  with_reducible exact Keeps.refl _
  with_reducible refine (raise_keeps _ _ _ _ _).then_ (by decide) (by decide) ?_
  with_reducible refine Keeps.putAny (in_openF _) (by decide) ?_
  with_reducible exact Keeps.refl _

theorem execOpenLoadChange_keeps (c : Chan) (lo : Nat) (hi : Nat) (n : Nat) (vlo : Nat) (vhi : Nat) (s : State) :
    KeepsR [Reg.PAR_EVT_CNT, Reg.HS_STATE, Reg.HS_CNT2, Reg.HB_STATE, Reg.SV_STATE, Reg.LED_STATE, Reg.LED_CNT, Reg.FIO_STATUS, Reg.FIO_CAUSE, Reg.FIO_CNT, Reg.SW_CNT_VAL, Reg.SW_MSEC_STAT, Reg.TLY_CNT0] [.records, .owed, .rings, .evt, .queue, .proxies, .chs, .loss, .wire, .out] s (execOpenLoadChange c lo hi n vlo vhi s) := by
  unfold execOpenLoadChange
  try dsimp only
  with_reducible refine KeepsR.next ?_
  split
  with_reducible refine Keeps.ite (fun _ => ?_) (fun _ => ?_)
  with_reducible refine Keeps.bump (in_HS_CNT2_OL_EVENTS) (by decide) ?_
  with_reducible refine (openChange_keeps _ _ _ _ _).then_ (by decide) (by decide) ?_
  with_reducible exact Keeps.refl _
  with_reducible exact Keeps.refl _
  with_reducible refine Keeps.ite (fun _ => ?_) (fun _ => ?_)
  with_reducible refine Keeps.ite (fun _ => ?_) (fun _ => ?_)
  with_reducible refine Keeps.bump (in_LED_CNT_FAULTS) (by decide) ?_
  with_reducible refine (openChange_keeps _ _ _ _ _).then_ (by decide) (by decide) ?_
  with_reducible exact Keeps.refl _
  with_reducible refine (openChange_keeps _ _ _ _ _).then_ (by decide) (by decide) ?_
  with_reducible exact Keeps.refl _
  with_reducible exact Keeps.refl _
  with_reducible refine Keeps.ite (fun _ => ?_) (fun _ => ?_)
  with_reducible refine (showFio_keeps _).then_ (by decide) (by decide) ?_
  with_reducible refine Keeps.putAny (in_openF _) (by decide) ?_
  with_reducible exact Keeps.refl _
  with_reducible exact Keeps.refl _
  with_reducible exact Keeps.refl _

theorem execHbOpenChange_keeps (hb : Fin 8) (lo : Nat) (hi : Nat) (s : State) :
    KeepsR [Reg.PAR_EVT_CNT, Reg.HS_STATE, Reg.HB_STATE, Reg.SV_STATE, Reg.LED_STATE, Reg.FIO_CAUSE, Reg.SW_CNT_VAL, Reg.SW_MSEC_STAT, Reg.TLY_CNT0] [.records, .owed, .rings, .evt, .queue, .proxies, .loss, .wire, .out] s (execHbOpenChange hb lo hi s) := by
  unfold execHbOpenChange
  try dsimp only
  with_reducible refine KeepsR.next ?_
  with_reducible refine Keeps.ite (fun _ => ?_) (fun _ => ?_)
  with_reducible refine (openChange_keeps _ _ _ _ _).then_ (by decide) (by decide) ?_
  with_reducible exact Keeps.refl _
  with_reducible exact Keeps.refl _

theorem execSvOpenChange_keeps (sv : Fin 8) (lo : Nat) (hi : Nat) (s : State) :
    KeepsR [Reg.PAR_EVT_CNT, Reg.HS_STATE, Reg.HB_STATE, Reg.SV_STATE, Reg.LED_STATE, Reg.FIO_CAUSE, Reg.SW_CNT_VAL, Reg.SW_MSEC_STAT, Reg.TLY_CNT0] [.records, .owed, .rings, .evt, .queue, .proxies, .loss, .wire, .out] s (execSvOpenChange sv lo hi s) := by
  unfold execSvOpenChange
  try dsimp only
  with_reducible refine KeepsR.next ?_
  with_reducible refine Keeps.ite (fun _ => ?_) (fun _ => ?_)
  with_reducible refine (openChange_keeps _ _ _ _ _).then_ (by decide) (by decide) ?_
  with_reducible exact Keeps.refl _
  with_reducible exact Keeps.refl _

theorem execSvShare_keeps (sv : Fin 8) (a : Nat) (b : Nat) (s : State) :
    KeepsR [Reg.PAR_EVT_CNT, Reg.SW_CNT_VAL, Reg.SW_MSEC_STAT, Reg.TLY_CNT0] [.records, .owed, .rings, .evt, .queue, .proxies, .chs, .loss, .wire, .out] s (execSvShare sv a b s) := by
  unfold execSvShare
  try dsimp only
  with_reducible refine KeepsR.next ?_
  with_reducible refine Keeps.ite (fun _ => ?_) (fun _ => ?_)
  with_reducible exact Keeps.refl _
  with_reducible refine Keeps.ite (fun _ => ?_) (fun _ => ?_)
  with_reducible refine (raise_keeps _ _ _ _ _).then_ (by decide) (by decide) ?_
  with_reducible refine (setChn_keeps _ _ _).then_ (by decide) (by decide) ?_
  with_reducible exact Keeps.refl _
  with_reducible refine (setChn_keeps _ _ _).then_ (by decide) (by decide) ?_
  with_reducible exact Keeps.refl _

theorem execRunMsExpiry_keeps (hb : Fin 8) (s : State) :
    KeepsR [Reg.ACT_CNT, Reg.HS_STATE, Reg.HB_STATE, Reg.SV_STATE, Reg.LED_STATE, Reg.FIO_CAUSE, Reg.SW_CNT_VAL, Reg.SW_MSEC_STAT] [.records, .owed, .rng, .rings, .proxies, .chs, .wire, .out] s (execRunMsExpiry hb s) := by
  unfold execRunMsExpiry
  try dsimp only
  with_reducible refine KeepsR.next ?_
  split
  with_reducible refine Keeps.ite (fun _ => ?_) (fun _ => ?_)
  with_reducible refine (driveStop_keeps _ _ _).then_ (by decide) (by decide) ?_
  with_reducible exact Keeps.refl _
  with_reducible exact Keeps.refl _
  with_reducible exact Keeps.refl _

theorem execDirGapEnd_keeps (hb : Fin 8) (s : State) :
    KeepsR [Reg.ACT_CNT, Reg.HS_STATE, Reg.HB_STATE, Reg.SV_STATE, Reg.LED_STATE, Reg.FIO_CAUSE, Reg.SW_CNT_VAL, Reg.SW_MSEC_STAT] [.records, .owed, .rng, .rings, .proxies, .chs, .wire, .out] s (execDirGapEnd hb s) := by
  unfold execDirGapEnd
  try dsimp only
  with_reducible refine KeepsR.next ?_
  split
  with_reducible exact Keeps.refl _
  with_reducible refine Keeps.ite (fun _ => ?_) (fun _ => ?_)
  with_reducible exact Keeps.refl _
  with_reducible refine Keeps.ite (fun _ => ?_) (fun _ => ?_)
  with_reducible refine (endWait_keeps _ _ _).then_ (by decide) (by decide) ?_
  with_reducible exact Keeps.refl _
  with_reducible refine (startDrive_keeps _ _ _ _).then_ (by decide) (by decide) ?_
  with_reducible exact Keeps.refl _

theorem countRipple_keeps (s : State) (m : Chan) :
    Keeps [Reg.ACT_CNT, Reg.HS_STATE, Reg.HB_POS, Reg.HB_STATE, Reg.SV_STATE, Reg.LED_STATE, Reg.FIO_CAUSE, Reg.SW_CNT_VAL, Reg.SW_MSEC_STAT] [.records, .owed, .rng, .rings, .proxies, .chs, .wire, .out] s (countRipple s m) := by
  unfold countRipple
  try dsimp only
  split
  with_reducible refine Keeps.ite (fun _ => ?_) (fun _ => ?_)
  with_reducible refine (driveStop_keeps _ _ _).then_ (by decide) (by decide) ?_
  with_reducible refine (setChn_keeps _ _ _).then_ (by decide) (by decide) ?_
  with_reducible refine Keeps.ite (fun _ => ?_) (fun _ => ?_)
  with_reducible refine Keeps.wr (in_HB_POS_POS _) (by decide) ?_
  with_reducible exact Keeps.refl _
  with_reducible refine Keeps.ite (fun _ => ?_) (fun _ => ?_)
  with_reducible refine Keeps.wr (in_HB_POS_POS _) (by decide) ?_
  with_reducible exact Keeps.refl _
  with_reducible exact Keeps.refl _
  with_reducible refine (setChn_keeps _ _ _).then_ (by decide) (by decide) ?_
  with_reducible refine Keeps.ite (fun _ => ?_) (fun _ => ?_)
  with_reducible refine Keeps.wr (in_HB_POS_POS _) (by decide) ?_
  with_reducible exact Keeps.refl _
  with_reducible refine Keeps.ite (fun _ => ?_) (fun _ => ?_)
  with_reducible refine Keeps.wr (in_HB_POS_POS _) (by decide) ?_
  with_reducible exact Keeps.refl _
  with_reducible exact Keeps.refl _
  with_reducible refine (setChn_keeps _ _ _).then_ (by decide) (by decide) ?_
  with_reducible refine Keeps.ite (fun _ => ?_) (fun _ => ?_)
  with_reducible refine Keeps.wr (in_HB_POS_POS _) (by decide) ?_
  with_reducible exact Keeps.refl _
  with_reducible refine Keeps.ite (fun _ => ?_) (fun _ => ?_)
  with_reducible refine Keeps.wr (in_HB_POS_POS _) (by decide) ?_
  with_reducible exact Keeps.refl _
  with_reducible exact Keeps.refl _

theorem execRippleAccept_keeps (hb : Fin 8) (period : Nat) (amp : Nat) (s : State) :
    KeepsR [Reg.ACT_CNT, Reg.HS_STATE, Reg.HB_POS, Reg.HB_RIPF, Reg.HB_STATE, Reg.HB_CNT3, Reg.SV_STATE, Reg.LED_STATE, Reg.FIO_CAUSE, Reg.SW_CNT_VAL, Reg.SW_MSEC_STAT] [.records, .owed, .rng, .rings, .proxies, .chs, .wire, .out] s (execRippleAccept hb period amp s) := by
  unfold execRippleAccept
  try dsimp only
  with_reducible refine KeepsR.next ?_
  split
  with_reducible refine Keeps.ite (fun _ => ?_) (fun _ => ?_)
  with_reducible exact Keeps.refl _
  with_reducible refine Keeps.ite (fun _ => ?_) (fun _ => ?_)
  with_reducible refine (countRipple_keeps _ _).then_ (by decide) (by decide) ?_
  with_reducible refine (setChn_keeps _ _ _).then_ (by decide) (by decide) ?_
  with_reducible refine Keeps.put (in_HB_STATE_STALL _) (by decide) ?_
  with_reducible exact Keeps.refl _
  with_reducible refine Keeps.ite (fun _ => ?_) (fun _ => ?_)
  with_reducible refine Keeps.bump (in_HB_CNT3_RIP_REJECTED) (by decide) ?_
  with_reducible exact Keeps.refl _
  with_reducible refine (countRipple_keeps _ _).then_ (by decide) (by decide) ?_
  with_reducible refine (setChn_keeps _ _ _).then_ (by decide) (by decide) ?_
  with_reducible refine Keeps.put (in_HB_STATE_STALL _) (by decide) ?_
  with_reducible refine Keeps.wr (in_HB_RIPF_RIPFREQ _) (by decide) ?_
  with_reducible exact Keeps.refl _
  with_reducible exact Keeps.refl _

theorem execRippleFill_keeps (hb : Fin 8) (s : State) :
    KeepsR [Reg.PAR_EVT_CNT, Reg.ACT_CNT, Reg.HS_STATE, Reg.HB_POS, Reg.HB_STATE, Reg.HB_CNT3, Reg.SV_STATE, Reg.LED_STATE, Reg.FIO_CAUSE, Reg.SW_CNT_VAL, Reg.SW_MSEC_STAT, Reg.TLY_CNT0] [.records, .owed, .rng, .rings, .evt, .queue, .proxies, .chs, .loss, .wire, .out] s (execRippleFill hb s) := by
  unfold execRippleFill
  try dsimp only
  with_reducible refine KeepsR.next ?_
  with_reducible refine Keeps.ite (fun _ => ?_) (fun _ => ?_)
  with_reducible refine Keeps.ite (fun _ => ?_) (fun _ => ?_)
  with_reducible refine (posLost_keeps _ _).then_ (by decide) (by decide) ?_
  with_reducible refine (countRipple_keeps _ _).then_ (by decide) (by decide) ?_
  with_reducible refine (setChn_keeps _ _ _).then_ (by decide) (by decide) ?_
  with_reducible refine Keeps.bump (in_HB_CNT3_RIP_FILLED) (by decide) ?_
  with_reducible exact Keeps.refl _
  with_reducible refine (countRipple_keeps _ _).then_ (by decide) (by decide) ?_
  with_reducible refine (setChn_keeps _ _ _).then_ (by decide) (by decide) ?_
  with_reducible refine Keeps.bump (in_HB_CNT3_RIP_FILLED) (by decide) ?_
  with_reducible exact Keeps.refl _
  with_reducible exact Keeps.refl _

theorem execStall_keeps (hb : Fin 8) (heldMs : Nat) (ma : Nat) (s : State) :
    KeepsR [Reg.PAR_EVT_CNT, Reg.ACT_CNT, Reg.HS_STATE, Reg.HB_POS, Reg.HB_RIPF, Reg.HB_STATE, Reg.HB_CNT2, Reg.SV_STATE, Reg.LED_STATE, Reg.FIO_CAUSE, Reg.SW_CNT_VAL, Reg.SW_MSEC_STAT, Reg.TLY_CNT0] [.records, .owed, .rng, .rings, .evt, .queue, .proxies, .chs, .loss, .wire, .out] s (execStall hb heldMs ma s) := by
  unfold execStall
  try dsimp only
  with_reducible refine KeepsR.next ?_
  split
  with_reducible refine Keeps.ite (fun _ => ?_) (fun _ => ?_)
  with_reducible refine Keeps.ite (fun _ => ?_) (fun _ => ?_)
  with_reducible refine (driveStop_keeps _ _ _).then_ (by decide) (by decide) ?_
  with_reducible refine Keeps.wr (in_HB_RIPF_RIPFREQ _) (by decide) ?_
  with_reducible refine Keeps.ite (fun _ => ?_) (fun _ => ?_)
  with_reducible refine Keeps.put (in_HB_STATE_POS_VALID _) (by decide) ?_
  with_reducible refine Keeps.wr (in_HB_POS_POS _) (by decide) ?_
  with_reducible refine (raise_keeps _ _ _ _ _).then_ (by decide) (by decide) ?_
  with_reducible refine Keeps.bump (in_HB_CNT2_STALLS) (by decide) ?_
  with_reducible refine Keeps.put (in_HB_STATE_STALL _) (by decide) ?_
  with_reducible exact Keeps.refl _
  with_reducible refine (raise_keeps _ _ _ _ _).then_ (by decide) (by decide) ?_
  with_reducible refine Keeps.bump (in_HB_CNT2_STALLS) (by decide) ?_
  with_reducible refine Keeps.put (in_HB_STATE_STALL _) (by decide) ?_
  with_reducible exact Keeps.refl _
  with_reducible refine Keeps.wr (in_HB_RIPF_RIPFREQ _) (by decide) ?_
  with_reducible refine (raise_keeps _ _ _ _ _).then_ (by decide) (by decide) ?_
  with_reducible refine Keeps.bump (in_HB_CNT2_STALLS) (by decide) ?_
  with_reducible refine Keeps.put (in_HB_STATE_STALL _) (by decide) ?_
  with_reducible exact Keeps.refl _
  with_reducible exact Keeps.refl _
  with_reducible exact Keeps.refl _

theorem execReversalBrakeEnd_keeps (hb : Fin 8) (s : State) :
    KeepsR [Reg.PAR_EVT_CNT, Reg.ACT_SAFE_STATUS, Reg.ACT_CNT, Reg.HS_STATE, Reg.HB_STATE, Reg.SV_STATE, Reg.SV_KRES, Reg.SV_CNT2, Reg.LED_STATE, Reg.FIO_CAUSE, Reg.SW_CNT_VAL, Reg.SW_MSEC_STAT, Reg.TLY_CNT0] [.records, .freeCtr, .owed, .rng, .rings, .evt, .queue, .proxies, .chs, .loss, .wire, .out] s (execReversalBrakeEnd hb s) := by
  unfold execReversalBrakeEnd
  try dsimp only
  with_reducible refine KeepsR.next ?_
  with_reducible refine Keeps.ite (fun _ => ?_) (fun _ => ?_)
  with_reducible refine Keeps.ite (fun _ => ?_) (fun _ => ?_)
  with_reducible refine (holdEnded_keeps _ _).then_ (by decide) (by decide) ?_
  with_reducible refine (setSafe_keeps _ _ _).then_ (by decide) (by decide) ?_
  with_reducible refine (setRev_keeps _ _ _).then_ (by decide) (by decide) ?_
  with_reducible refine (bridgeOff_keeps _ _).then_ (by decide) (by decide) ?_
  with_reducible exact Keeps.refl _
  with_reducible refine (setChn_keeps _ _ _).then_ (by decide) (by decide) ?_
  with_reducible refine (switchTo_keeps _ _ _).then_ (by decide) (by decide) ?_
  with_reducible refine (setRev_keeps _ _ _).then_ (by decide) (by decide) ?_
  with_reducible exact Keeps.refl _
  with_reducible exact Keeps.refl _

theorem execReversalDriveEnd_keeps (hb : Fin 8) (s : State) :
    KeepsR [Reg.HS_STATE, Reg.HB_STATE, Reg.SV_STATE, Reg.LED_STATE, Reg.FIO_CAUSE] [.chs] s (execReversalDriveEnd hb s) := by
  unfold execReversalDriveEnd
  try dsimp only
  with_reducible refine KeepsR.next ?_
  with_reducible refine Keeps.ite (fun _ => ?_) (fun _ => ?_)
  with_reducible refine (setChn_keeps _ _ _).then_ (by decide) (by decide) ?_
  with_reducible refine (switchTo_keeps _ _ _).then_ (by decide) (by decide) ?_
  with_reducible refine (setRev_keeps _ _ _).then_ (by decide) (by decide) ?_
  with_reducible exact Keeps.refl _
  with_reducible exact Keeps.refl _

theorem execReversalFinalEnd_keeps (hb : Fin 8) (s : State) :
    KeepsR [Reg.PAR_EVT_CNT, Reg.ACT_SAFE_STATUS, Reg.ACT_CNT, Reg.HS_STATE, Reg.HB_STATE, Reg.SV_STATE, Reg.SV_KRES, Reg.SV_CNT2, Reg.LED_STATE, Reg.FIO_CAUSE, Reg.SW_CNT_VAL, Reg.SW_MSEC_STAT, Reg.TLY_CNT0] [.records, .freeCtr, .owed, .rng, .rings, .evt, .queue, .proxies, .chs, .loss, .wire, .out] s (execReversalFinalEnd hb s) := by
  unfold execReversalFinalEnd
  try dsimp only
  with_reducible refine KeepsR.next ?_
  with_reducible refine Keeps.ite (fun _ => ?_) (fun _ => ?_)
  with_reducible refine (holdEnded_keeps _ _).then_ (by decide) (by decide) ?_
  with_reducible refine (setSafe_keeps _ _ _).then_ (by decide) (by decide) ?_
  with_reducible refine (setRev_keeps _ _ _).then_ (by decide) (by decide) ?_
  with_reducible refine (bridgeOff_keeps _ _).then_ (by decide) (by decide) ?_
  with_reducible exact Keeps.refl _
  with_reducible exact Keeps.refl _

theorem execKerfFound_keeps (sv : Fin 8) (i : List Nat) (s : State) :
    KeepsR [] [.chs] s (execKerfFound sv i s) := by
  unfold execKerfFound
  try dsimp only
  with_reducible refine KeepsR.next ?_
  with_reducible refine Keeps.ite (fun _ => ?_) (fun _ => ?_)
  with_reducible refine (setChn_keeps _ _ _).then_ (by decide) (by decide) ?_
  with_reducible exact Keeps.refl _
  with_reducible exact Keeps.refl _

theorem execKerfWindowEnd_keeps (sv : Fin 8) (i : List Nat) (s : State) :
    KeepsR [Reg.PAR_EVT_CNT, Reg.SV_STATE, Reg.SV_KRES, Reg.SV_CNT2, Reg.SW_CNT_VAL, Reg.SW_MSEC_STAT, Reg.TLY_CNT0] [.records, .freeCtr, .owed, .rings, .evt, .queue, .proxies, .chs, .loss, .wire, .out] s (execKerfWindowEnd sv i s) := by
  unfold execKerfWindowEnd
  try dsimp only
  with_reducible refine KeepsR.next ?_
  with_reducible refine Keeps.ite (fun _ => ?_) (fun _ => ?_)
  with_reducible refine Keeps.ite (fun _ => ?_) (fun _ => ?_)
  with_reducible refine (setChn_keeps _ _ _).then_ (by decide) (by decide) ?_
  split
  with_reducible refine (kerfResult_keeps _ _ _ _ _).then_ (by decide) (by decide) ?_
  with_reducible exact Keeps.refl _
  with_reducible refine (kerfMissed_keeps _ _ _).then_ (by decide) (by decide) ?_
  with_reducible exact Keeps.refl _
  split
  with_reducible refine (kerfResult_keeps _ _ _ _ _).then_ (by decide) (by decide) ?_
  with_reducible exact Keeps.refl _
  with_reducible refine (kerfMissed_keeps _ _ _).then_ (by decide) (by decide) ?_
  with_reducible exact Keeps.refl _
  with_reducible exact Keeps.refl _

theorem showNb_keeps (s : State) (n : Nat) :
    Keeps [Reg.LED_STATE] [] s (showNb s n) := by
  unfold showNb
  try dsimp only
  with_reducible refine Keeps.put (in_LED_STATE_NB_STALE _) (by decide) ?_
  with_reducible refine Keeps.put (in_LED_STATE_NB_SHORT _) (by decide) ?_
  with_reducible exact Keeps.refl _

theorem ledFault_keeps (s : State) (before : Bool) (after : Bool) :
    Keeps [Reg.LED_CNT] [] s (ledFault s before after) := by
  unfold ledFault
  try dsimp only
  with_reducible refine Keeps.ite (fun _ => ?_) (fun _ => ?_)
  with_reducible refine Keeps.bump (in_LED_CNT_FAULTS) (by decide) ?_
  with_reducible exact Keeps.refl _
  with_reducible exact Keeps.refl _

theorem ledOwn_keeps (s : State) (c : Chan) (openFail : Bool) (shortFail : Bool) :
    Keeps [Reg.PAR_EVT_CNT, Reg.LED_STATE, Reg.LED_CNT, Reg.SW_CNT_VAL, Reg.SW_MSEC_STAT, Reg.TLY_CNT0] [.records, .owed, .rings, .evt, .queue, .proxies, .chs, .loss, .wire, .out] s (ledOwn s c openFail shortFail) := by
  unfold ledOwn
  try dsimp only
  with_reducible refine Keeps.ite (fun _ => ?_) (fun _ => ?_)
  with_reducible refine Keeps.ite (fun _ => ?_) (fun _ => ?_)
  with_reducible refine (setChn_keeps _ _ _).then_ (by decide) (by decide) ?_
  with_reducible exact Keeps.refl _
  with_reducible refine (raise_keeps _ _ _ _ _).then_ (by decide) (by decide) ?_
  with_reducible refine (ledFault_keeps _ _ _).then_ (by decide) (by decide) ?_
  with_reducible refine Keeps.put (in_LED_STATE_OPEN _) (by decide) ?_
  with_reducible refine (setChn_keeps _ _ _).then_ (by decide) (by decide) ?_
  with_reducible exact Keeps.refl _
  with_reducible refine (raise_keeps _ _ _ _ _).then_ (by decide) (by decide) ?_
  with_reducible refine (ledFault_keeps _ _ _).then_ (by decide) (by decide) ?_
  with_reducible refine Keeps.put (in_LED_STATE_SHORT_GND _) (by decide) ?_
  with_reducible refine Keeps.ite (fun _ => ?_) (fun _ => ?_)
  with_reducible refine (setChn_keeps _ _ _).then_ (by decide) (by decide) ?_
  with_reducible exact Keeps.refl _
  with_reducible refine (raise_keeps _ _ _ _ _).then_ (by decide) (by decide) ?_
  with_reducible refine (ledFault_keeps _ _ _).then_ (by decide) (by decide) ?_
  with_reducible refine Keeps.put (in_LED_STATE_OPEN _) (by decide) ?_
  with_reducible refine (setChn_keeps _ _ _).then_ (by decide) (by decide) ?_
  with_reducible exact Keeps.refl _

theorem nbOff_keeps (s : State) (c : Chan) :
    Keeps [Reg.ACT_CNT, Reg.HS_STATE, Reg.HB_STATE, Reg.SV_STATE, Reg.LED_STATE, Reg.FIO_CAUSE, Reg.SW_CNT_VAL, Reg.SW_MSEC_STAT] [.records, .owed, .rng, .rings, .proxies, .chs, .wire, .out] s (nbOff s c) := by
  unfold nbOff
  try dsimp only
  with_reducible refine (setChn_keeps _ _ _).then_ (by decide) (by decide) ?_
  with_reducible refine (endJob_keeps _ _ _).then_ (by decide) (by decide) ?_
  with_reducible refine (switchTo_keeps _ _ _).then_ (by decide) (by decide) ?_
  with_reducible exact Keeps.refl _

theorem ledPair_keeps (s : State) (n : Nat) (short : Option Bool) :
    Keeps [Reg.PAR_EVT_CNT, Reg.ACT_CNT, Reg.HS_STATE, Reg.HB_STATE, Reg.SV_STATE, Reg.LED_STATE, Reg.LED_CNT, Reg.FIO_CAUSE, Reg.SW_CNT_VAL, Reg.SW_MSEC_STAT, Reg.TLY_CNT0] [.records, .owed, .rng, .rings, .evt, .queue, .proxies, .chs, .loss, .wire, .out] s (ledPair s n short) := by
  unfold ledPair
  try dsimp only
  split
  with_reducible exact Keeps.refl _
  with_reducible refine Keeps.ite (fun _ => ?_) (fun _ => ?_)
  with_reducible refine (showNb_keeps _ _).then_ (by decide) (by decide) ?_
  with_reducible refine (showNb_keeps _ _).then_ (by decide) (by decide) ?_
  with_reducible refine (setChn_keeps _ _ _).then_ (by decide) (by decide) ?_
  with_reducible exact Keeps.refl _
  with_reducible refine Keeps.ite (fun _ => ?_) (fun _ => ?_)
  with_reducible refine Keeps.ite (fun _ => ?_) (fun _ => ?_)
  with_reducible refine (nbOff_keeps _ _).then_ (by decide) (by decide) ?_
  with_reducible refine Keeps.ite (fun _ => ?_) (fun _ => ?_)
  with_reducible refine (nbOff_keeps _ _).then_ (by decide) (by decide) ?_
  with_reducible refine (raise_keeps _ _ _ _ _).then_ (by decide) (by decide) ?_
  with_reducible refine (raise_keeps _ _ _ _ _).then_ (by decide) (by decide) ?_
  with_reducible refine (ledFault_keeps _ _ _).then_ (by decide) (by decide) ?_
  with_reducible refine (showNb_keeps _ _).then_ (by decide) (by decide) ?_
  with_reducible refine (showNb_keeps _ _).then_ (by decide) (by decide) ?_
  with_reducible refine (setChn_keeps _ _ _).then_ (by decide) (by decide) ?_
  with_reducible exact Keeps.refl _
  with_reducible refine (raise_keeps _ _ _ _ _).then_ (by decide) (by decide) ?_
  with_reducible refine (raise_keeps _ _ _ _ _).then_ (by decide) (by decide) ?_
  with_reducible refine (ledFault_keeps _ _ _).then_ (by decide) (by decide) ?_
  with_reducible refine (showNb_keeps _ _).then_ (by decide) (by decide) ?_
  with_reducible refine (showNb_keeps _ _).then_ (by decide) (by decide) ?_
  with_reducible refine (setChn_keeps _ _ _).then_ (by decide) (by decide) ?_
  with_reducible exact Keeps.refl _
  with_reducible refine Keeps.ite (fun _ => ?_) (fun _ => ?_)
  with_reducible refine (nbOff_keeps _ _).then_ (by decide) (by decide) ?_
  with_reducible refine (raise_keeps _ _ _ _ _).then_ (by decide) (by decide) ?_
  with_reducible refine (raise_keeps _ _ _ _ _).then_ (by decide) (by decide) ?_
  with_reducible refine (ledFault_keeps _ _ _).then_ (by decide) (by decide) ?_
  with_reducible refine (showNb_keeps _ _).then_ (by decide) (by decide) ?_
  with_reducible refine (showNb_keeps _ _).then_ (by decide) (by decide) ?_
  with_reducible refine (setChn_keeps _ _ _).then_ (by decide) (by decide) ?_
  with_reducible exact Keeps.refl _
  with_reducible refine (raise_keeps _ _ _ _ _).then_ (by decide) (by decide) ?_
  with_reducible refine (raise_keeps _ _ _ _ _).then_ (by decide) (by decide) ?_
  with_reducible refine (ledFault_keeps _ _ _).then_ (by decide) (by decide) ?_
  with_reducible refine (showNb_keeps _ _).then_ (by decide) (by decide) ?_
  with_reducible refine (showNb_keeps _ _).then_ (by decide) (by decide) ?_
  with_reducible refine (setChn_keeps _ _ _).then_ (by decide) (by decide) ?_
  with_reducible exact Keeps.refl _
  with_reducible refine (raise_keeps _ _ _ _ _).then_ (by decide) (by decide) ?_
  with_reducible refine (raise_keeps _ _ _ _ _).then_ (by decide) (by decide) ?_
  with_reducible refine (ledFault_keeps _ _ _).then_ (by decide) (by decide) ?_
  with_reducible refine (showNb_keeps _ _).then_ (by decide) (by decide) ?_
  with_reducible refine (showNb_keeps _ _).then_ (by decide) (by decide) ?_
  with_reducible refine (setChn_keeps _ _ _).then_ (by decide) (by decide) ?_
  with_reducible exact Keeps.refl _

theorem ledBegin_keeps (s0 : State) (n : Nat) :
    Keeps [Reg.LED_STATE] [.chs] s0 (ledBegin s0 n) := by
  unfold ledBegin
  try dsimp only
  with_reducible refine Keeps.ite (fun _ => ?_) (fun _ => ?_)
  with_reducible refine Keeps.ite (fun _ => ?_) (fun _ => ?_)
  with_reducible refine (setChn_keeps _ _ _).then_ (by decide) (by decide) ?_
  with_reducible exact Keeps.refl _
  with_reducible refine (showNb_keeps _ _).then_ (by decide) (by decide) ?_
  with_reducible refine (showNb_keeps _ _).then_ (by decide) (by decide) ?_
  with_reducible refine (setChn_keeps _ _ _).then_ (by decide) (by decide) ?_
  with_reducible refine (setChn_keeps _ _ _).then_ (by decide) (by decide) ?_
  with_reducible exact Keeps.refl _
  with_reducible refine (setChn_keeps _ _ _).then_ (by decide) (by decide) ?_
  with_reducible refine Keeps.ite (fun _ => ?_) (fun _ => ?_)
  with_reducible refine (setChn_keeps _ _ _).then_ (by decide) (by decide) ?_
  with_reducible exact Keeps.refl _
  with_reducible refine (showNb_keeps _ _).then_ (by decide) (by decide) ?_
  with_reducible refine (showNb_keeps _ _).then_ (by decide) (by decide) ?_
  with_reducible refine (setChn_keeps _ _ _).then_ (by decide) (by decide) ?_
  with_reducible refine (setChn_keeps _ _ _).then_ (by decide) (by decide) ?_
  with_reducible exact Keeps.refl _

theorem ledEnd_keeps (s : State) (n : Nat) (r : LedMeas) :
    Keeps [Reg.PAR_EVT_CNT, Reg.ACT_CNT, Reg.HS_STATE, Reg.HB_STATE, Reg.SV_STATE, Reg.LED_STATE, Reg.LED_CNT, Reg.FIO_CAUSE, Reg.SW_CNT_VAL, Reg.SW_MSEC_STAT, Reg.TLY_CNT0] [.records, .owed, .rng, .rings, .evt, .queue, .proxies, .chs, .loss, .wire, .out] s (ledEnd s n r) := by
  unfold ledEnd
  try dsimp only
  with_reducible refine Keeps.ite (fun _ => ?_) (fun _ => ?_)
  with_reducible refine (setChn_keeps _ _ _).then_ (by decide) (by decide) ?_
  with_reducible exact Keeps.refl _
  with_reducible refine Keeps.ite (fun _ => ?_) (fun _ => ?_)
  with_reducible refine (ledPair_keeps _ _ _).then_ (by decide) (by decide) ?_
  with_reducible refine (ledOwn_keeps _ _ _ _).then_ (by decide) (by decide) ?_
  with_reducible refine (setChn_keeps _ _ _).then_ (by decide) (by decide) ?_
  with_reducible exact Keeps.refl _
  with_reducible refine (ledOwn_keeps _ _ _ _).then_ (by decide) (by decide) ?_
  with_reducible refine (setChn_keeps _ _ _).then_ (by decide) (by decide) ?_
  with_reducible exact Keeps.refl _

theorem execLedTest_keeps (n : Fin 24) (r : Option LedMeas) (s : State) :
    KeepsR [Reg.PAR_EVT_CNT, Reg.ACT_CNT, Reg.HS_STATE, Reg.HB_STATE, Reg.SV_STATE, Reg.LED_STATE, Reg.LED_CNT, Reg.FIO_CAUSE, Reg.SW_CNT_VAL, Reg.SW_MSEC_STAT, Reg.TLY_CNT0] [.records, .owed, .rng, .rings, .evt, .queue, .proxies, .chs, .loss, .wire, .out] s (execLedTest n r s) := by
  unfold execLedTest
  try dsimp only
  with_reducible refine KeepsR.next ?_
  with_reducible refine Keeps.ite (fun _ => ?_) (fun _ => ?_)
  with_reducible exact Keeps.refl _
  split
  with_reducible refine Keeps.ite (fun _ => ?_) (fun _ => ?_)
  with_reducible refine (ledBegin_keeps _ _).then_ (by decide) (by decide) ?_
  with_reducible exact Keeps.refl _
  with_reducible exact Keeps.refl _
  with_reducible refine (ledEnd_keeps _ _ _).then_ (by decide) (by decide) ?_
  with_reducible exact Keeps.refl _

theorem execFollowOff_keeps (g : Fin 3) (s : State) :
    KeepsR [Reg.HS_STATE, Reg.HB_STATE, Reg.SV_STATE, Reg.LED_STATE, Reg.FIO_CAUSE] [.chs] s (execFollowOff g s) := by
  unfold execFollowOff
  try dsimp only
  with_reducible refine KeepsR.next ?_
  split
  with_reducible refine Keeps.ite (fun _ => ?_) (fun _ => ?_)
  with_reducible exact Keeps.refl _
  with_reducible refine (switch1_keeps _ _ _).then_ (by decide) (by decide) ?_
  with_reducible exact Keeps.refl _
  with_reducible exact Keeps.refl _

theorem execLedHeadroom_keeps (n : Fin 24) (mv : Nat) (heldUs : Nat) (s : State) :
    KeepsR [Reg.PAR_EVT_CNT, Reg.LED_STATE, Reg.SW_CNT_VAL, Reg.SW_MSEC_STAT, Reg.TLY_CNT0] [.records, .owed, .rings, .evt, .queue, .proxies, .loss, .wire, .out] s (execLedHeadroom n mv heldUs s) := by
  unfold execLedHeadroom
  try dsimp only
  with_reducible refine KeepsR.next ?_
  with_reducible refine Keeps.ite (fun _ => ?_) (fun _ => ?_)
  with_reducible exact Keeps.refl _
  with_reducible refine Keeps.ite (fun _ => ?_) (fun _ => ?_)
  with_reducible refine Keeps.put (in_LED_STATE_HEADROOM _) (by decide) ?_
  with_reducible exact Keeps.refl _
  with_reducible refine Keeps.ite (fun _ => ?_) (fun _ => ?_)
  with_reducible refine (raise_keeps _ _ _ _ _).then_ (by decide) (by decide) ?_
  with_reducible refine Keeps.put (in_LED_STATE_HEADROOM _) (by decide) ?_
  with_reducible exact Keeps.refl _
  with_reducible exact Keeps.refl _

theorem setFactor_keeps (s : State) (g : Nat) (f : Nat) :
    Keeps [Reg.PAR_EVT_CNT, Reg.HS_STATE, Reg.HB_STATE, Reg.SV_STATE, Reg.LED_STATE, Reg.LED_GSTAT, Reg.FIO_CAUSE, Reg.SW_CNT_VAL, Reg.SW_MSEC_STAT, Reg.TLY_CNT0] [.records, .owed, .rings, .evt, .queue, .proxies, .scl, .loss, .wire, .out] s (setFactor s g f) := by
  unfold setFactor
  try dsimp only
  with_reducible refine Keeps.ite (fun _ => ?_) (fun _ => ?_)
  with_reducible refine (raise_keeps _ _ _ _ _).then_ (by decide) (by decide) ?_
  with_reducible refine Keeps.foldl (fun _ _ => ?_) _ ?_
  with_reducible refine (showCh_keeps _ _).then_ (by decide) (by decide) ?_
  with_reducible exact Keeps.refl _
  with_reducible refine Keeps.wr (in_LED_GSTAT_FACTOR _) (by decide) ?_
  with_reducible refine Keeps.set_scl (by decide) ⟨rfl, rfl⟩ ?_
  with_reducible exact Keeps.refl _
  with_reducible refine Keeps.foldl (fun _ _ => ?_) _ ?_
  with_reducible refine (showCh_keeps _ _).then_ (by decide) (by decide) ?_
  with_reducible exact Keeps.refl _
  with_reducible refine Keeps.wr (in_LED_GSTAT_FACTOR _) (by decide) ?_
  with_reducible refine Keeps.set_scl (by decide) ⟨rfl, rfl⟩ ?_
  with_reducible exact Keeps.refl _

theorem execLedDerateUpdate_keeps (g : Fin 3) (die : Int) (ohms : List Nat) (s : State) :
    KeepsR [Reg.PAR_EVT_CNT, Reg.HS_STATE, Reg.HB_STATE, Reg.SV_STATE, Reg.LED_STATE, Reg.LED_GSTAT, Reg.FIO_CAUSE, Reg.SW_CNT_VAL, Reg.SW_MSEC_STAT, Reg.TLY_CNT0] [.records, .owed, .rings, .evt, .queue, .proxies, .scl, .loss, .wire, .out] s (execLedDerateUpdate g die ohms s) := by
  unfold execLedDerateUpdate
  try dsimp only
  with_reducible refine KeepsR.next ?_
  with_reducible refine Keeps.ite (fun _ => ?_) (fun _ => ?_)
  with_reducible exact Keeps.refl _
  with_reducible refine Keeps.ite (fun _ => ?_) (fun _ => ?_)
  with_reducible refine (setFactor_keeps _ _ _).then_ (by decide) (by decide) ?_
  with_reducible refine Keeps.put (in_LED_GSTAT_NTC_FAULT _) (by decide) ?_
  with_reducible exact Keeps.refl _
  with_reducible refine Keeps.ite (fun _ => ?_) (fun _ => ?_)
  with_reducible refine Keeps.ite (fun _ => ?_) (fun _ => ?_)
  with_reducible exact Keeps.refl _
  with_reducible refine (raise_keeps _ _ _ _ _).then_ (by decide) (by decide) ?_
  with_reducible refine Keeps.put (in_LED_GSTAT_NTC_FAULT _) (by decide) ?_
  with_reducible exact Keeps.refl _
  with_reducible refine (setFactor_keeps _ _ _).then_ (by decide) (by decide) ?_
  with_reducible refine Keeps.wrInt (in_LED_GSTAT_TGRP _) (by decide) ?_
  with_reducible refine Keeps.put (in_LED_GSTAT_NTC_FAULT _) (by decide) ?_
  with_reducible exact Keeps.refl _

theorem execNtcFaultHoldEnd_keeps (g : Fin 3) (s : State) :
    KeepsR [Reg.PAR_EVT_CNT, Reg.HS_STATE, Reg.HB_STATE, Reg.SV_STATE, Reg.LED_STATE, Reg.LED_GSTAT, Reg.FIO_CAUSE, Reg.SW_CNT_VAL, Reg.SW_MSEC_STAT, Reg.TLY_CNT0] [.records, .owed, .rings, .evt, .queue, .proxies, .scl, .loss, .wire, .out] s (execNtcFaultHoldEnd g s) := by
  unfold execNtcFaultHoldEnd
  try dsimp only
  with_reducible refine KeepsR.next ?_
  with_reducible refine Keeps.ite (fun _ => ?_) (fun _ => ?_)
  with_reducible refine (setFactor_keeps _ _ _).then_ (by decide) (by decide) ?_
  with_reducible exact Keeps.refl _
  with_reducible exact Keeps.refl _

theorem fioReading_keeps (s : State) (n : Nat) (mv : Nat) (old : Bool) :
    Keeps [] [.freeCtr] s (fioReading s n mv old).2 := by
  unfold fioReading
  try dsimp only
  split
  split
  split
  with_reducible exact Keeps.refl _
  split
  with_reducible exact Keeps.refl _
  with_reducible refine (freeNext_keeps _).then_ (by decide) (by decide) ?_
  with_reducible exact Keeps.refl _
  split
  with_reducible exact Keeps.refl _
  split
  with_reducible exact Keeps.refl _
  with_reducible refine (freeNext_keeps _).then_ (by decide) (by decide) ?_
  with_reducible exact Keeps.refl _
  split
  split
  with_reducible exact Keeps.refl _
  split
  with_reducible exact Keeps.refl _
  with_reducible refine (freeNext_keeps _).then_ (by decide) (by decide) ?_
  with_reducible exact Keeps.refl _
  split
  with_reducible exact Keeps.refl _
  split
  with_reducible exact Keeps.refl _
  with_reducible refine (freeNext_keeps _).then_ (by decide) (by decide) ?_
  with_reducible exact Keeps.refl _

theorem execFioInputAccept_keeps (n : Fin 16) (mv : Nat) (heldUs : Nat) (s0 : State) :
    KeepsR [Reg.PAR_EVT_CNT, Reg.FIO_IN, Reg.SIN_SNS_CNT, Reg.SW_CNT_VAL, Reg.SW_MSEC_STAT, Reg.TLY_CNT0] [.memory, .records, .freeCtr, .owed, .rings, .evt, .queue, .proxies, .loss, .sns, .wire, .out] s0 (execFioInputAccept n mv heldUs s0) := by
  unfold execFioInputAccept
  try dsimp only
  with_reducible refine KeepsR.next ?_
  with_reducible refine Keeps.ite (fun _ => ?_) (fun _ => ?_)
  with_reducible exact Keeps.refl _
  with_reducible refine Keeps.ite (fun _ => ?_) (fun _ => ?_)
  with_reducible refine (fioReading_keeps _ _ _ _).then_ (by decide) (by decide) ?_
  with_reducible exact Keeps.refl _
  with_reducible refine Keeps.ite (fun _ => ?_) (fun _ => ?_)
  with_reducible refine (raise_keeps _ _ _ _ _).then_ (by decide) (by decide) ?_
  with_reducible refine (edgeSamples_keeps _ _ _).then_ (by decide) (by decide) ?_
  with_reducible refine Keeps.wr (in_FIO_IN_LEVEL) (by decide) ?_
  with_reducible refine (fioReading_keeps _ _ _ _).then_ (by decide) (by decide) ?_
  with_reducible exact Keeps.refl _
  with_reducible refine (edgeSamples_keeps _ _ _).then_ (by decide) (by decide) ?_
  with_reducible refine Keeps.wr (in_FIO_IN_LEVEL) (by decide) ?_
  with_reducible refine (fioReading_keeps _ _ _ _).then_ (by decide) (by decide) ?_
  with_reducible exact Keeps.refl _

theorem scanFio_keeps (s : State) :
    Keeps [Reg.PAR_EVT_CNT, Reg.SW_CNT_VAL, Reg.SW_MSEC_STAT, Reg.TLY_CNT0] [.records, .owed, .rings, .evt, .queue, .proxies, .chs, .loss, .wire, .out] s (scanFio s) := by
  unfold scanFio
  try dsimp only
  with_reducible refine Keeps.foldl (fun _ _ => ?_) _ ?_
  with_reducible refine Keeps.ite (fun _ => ?_) (fun _ => ?_)
  with_reducible exact Keeps.refl _
  with_reducible refine (raise_keeps _ _ _ _ _).then_ (by decide) (by decide) ?_
  with_reducible refine (setChn_keeps _ _ _).then_ (by decide) (by decide) ?_
  with_reducible exact Keeps.refl _
  with_reducible exact Keeps.refl _

theorem execFioFaultScan_keeps (s : State) :
    KeepsR [Reg.PAR_EVT_CNT, Reg.SW_CNT_VAL, Reg.SW_MSEC_STAT, Reg.TLY_CNT0] [.records, .owed, .rings, .evt, .queue, .proxies, .chs, .loss, .wire, .out] s (execFioFaultScan s) := by
  unfold execFioFaultScan
  try dsimp only
  with_reducible refine KeepsR.next ?_
  with_reducible refine Keeps.ite (fun _ => ?_) (fun _ => ?_)
  with_reducible refine (scanFio_keeps _).then_ (by decide) (by decide) ?_
  with_reducible exact Keeps.refl _
  with_reducible exact Keeps.refl _

theorem execFioRescan_keeps (s : State) :
    KeepsR [Reg.PAR_EVT_CNT, Reg.FIO_CNT, Reg.SW_CNT_VAL, Reg.SW_MSEC_STAT, Reg.TLY_CNT0] [.records, .owed, .rings, .evt, .queue, .proxies, .chs, .loss, .wire, .out] s (execFioRescan s) := by
  unfold execFioRescan
  try dsimp only
  with_reducible refine KeepsR.next ?_
  with_reducible refine Keeps.ite (fun _ => ?_) (fun _ => ?_)
  with_reducible refine (scanFio_keeps _).then_ (by decide) (by decide) ?_
  with_reducible refine Keeps.bump (in_FIO_CNT_RESCANS) (by decide) ?_
  with_reducible exact Keeps.refl _
  with_reducible exact Keeps.refl _

theorem execFioSupplyCause_keeps (mv : Nat) (heldMs : Nat) (s : State) :
    KeepsR [Reg.FIO_STATUS, Reg.FIO_CAUSE, Reg.FIO_CNT] [.chs] s (execFioSupplyCause mv heldMs s) := by
  unfold execFioSupplyCause
  try dsimp only
  with_reducible refine KeepsR.next ?_
  with_reducible refine Keeps.ite (fun _ => ?_) (fun _ => ?_)
  with_reducible exact Keeps.refl _
  with_reducible refine (showFio_keeps _).then_ (by decide) (by decide) ?_
  with_reducible refine Keeps.foldl (fun _ _ => ?_) _ ?_
  with_reducible refine Keeps.ite (fun _ => ?_) (fun _ => ?_)
  with_reducible refine Keeps.ite (fun _ => ?_) (fun _ => ?_)
  with_reducible refine Keeps.put (in_FIO_CAUSE_CAUSE _ _) (by decide) ?_
  with_reducible exact Keeps.refl _
  with_reducible exact Keeps.refl _
  with_reducible refine Keeps.ite (fun _ => ?_) (fun _ => ?_)
  with_reducible refine Keeps.put (in_FIO_CAUSE_CAUSE _ _) (by decide) ?_
  with_reducible exact Keeps.refl _
  with_reducible exact Keeps.refl _
  with_reducible exact Keeps.refl _

theorem execFioInputRange_keeps (n : Fin 16) (mv : Nat) (heldMs : Nat) (s : State) :
    KeepsR [Reg.FIO_STATUS, Reg.FIO_CAUSE, Reg.FIO_CNT] [.chs] s (execFioInputRange n mv heldMs s) := by
  unfold execFioInputRange
  try dsimp only
  with_reducible refine KeepsR.next ?_
  with_reducible refine Keeps.ite (fun _ => ?_) (fun _ => ?_)
  with_reducible exact Keeps.refl _
  with_reducible refine (showFio_keeps _).then_ (by decide) (by decide) ?_
  with_reducible refine Keeps.ite (fun _ => ?_) (fun _ => ?_)
  with_reducible refine Keeps.put (in_FIO_CAUSE_CAUSE _ _) (by decide) ?_
  with_reducible exact Keeps.refl _
  with_reducible refine Keeps.ite (fun _ => ?_) (fun _ => ?_)
  with_reducible refine Keeps.put (in_FIO_CAUSE_CAUSE _ _) (by decide) ?_
  with_reducible exact Keeps.refl _
  with_reducible refine Keeps.ite (fun _ => ?_) (fun _ => ?_)
  with_reducible refine Keeps.put (in_FIO_CAUSE_CAUSE _ _) (by decide) ?_
  with_reducible exact Keeps.refl _
  with_reducible exact Keeps.refl _

theorem feedLost_keeps (uv : Bool) (s : State) (c : Chan) :
    Keeps [Reg.PAR_EVT_CNT, Reg.ACT_SAFE_STATUS, Reg.ACT_CNT, Reg.HS_STATE, Reg.HB_STATE, Reg.SV_STATE, Reg.SV_KRES, Reg.SV_CNT2, Reg.LED_STATE, Reg.FIO_CAUSE, Reg.SW_CNT_VAL, Reg.SW_MSEC_STAT, Reg.TLY_CNT0] [.records, .freeCtr, .owed, .rng, .rings, .evt, .queue, .proxies, .chs, .loss, .wire, .out] s (feedLost uv s c) := by
  unfold feedLost
  try dsimp only
  with_reducible refine (setChn_keeps _ _ _).then_ (by decide) (by decide) ?_
  with_reducible refine Keeps.ite (fun _ => ?_) (fun _ => ?_)
  with_reducible refine (setChn_keeps _ _ _).then_ (by decide) (by decide) ?_
  with_reducible refine Keeps.ite (fun _ => ?_) (fun _ => ?_)
  with_reducible refine (reversalBroken_keeps _ _).then_ (by decide) (by decide) ?_
  with_reducible refine (cutOff_keeps _ _ _ _).then_ (by decide) (by decide) ?_
  with_reducible refine Keeps.ite (fun _ => ?_) (fun _ => ?_)
  with_reducible refine (setChn_keeps _ _ _).then_ (by decide) (by decide) ?_
  with_reducible exact Keeps.refl _
  with_reducible exact Keeps.refl _
  with_reducible refine (fallFast_keeps _ _).then_ (by decide) (by decide) ?_
  with_reducible refine (reversalBroken_keeps _ _).then_ (by decide) (by decide) ?_
  with_reducible refine (cutOff_keeps _ _ _ _).then_ (by decide) (by decide) ?_
  with_reducible refine Keeps.ite (fun _ => ?_) (fun _ => ?_)
  with_reducible refine (setChn_keeps _ _ _).then_ (by decide) (by decide) ?_
  with_reducible exact Keeps.refl _
  with_reducible exact Keeps.refl _
  with_reducible refine Keeps.ite (fun _ => ?_) (fun _ => ?_)
  with_reducible refine (reversalBroken_keeps _ _).then_ (by decide) (by decide) ?_
  with_reducible refine (cutOff_keeps _ _ _ _).then_ (by decide) (by decide) ?_
  with_reducible refine Keeps.ite (fun _ => ?_) (fun _ => ?_)
  with_reducible refine (setChn_keeps _ _ _).then_ (by decide) (by decide) ?_
  with_reducible exact Keeps.refl _
  with_reducible exact Keeps.refl _
  with_reducible refine (fallFast_keeps _ _).then_ (by decide) (by decide) ?_
  with_reducible refine (reversalBroken_keeps _ _).then_ (by decide) (by decide) ?_
  with_reducible refine (cutOff_keeps _ _ _ _).then_ (by decide) (by decide) ?_
  with_reducible refine Keeps.ite (fun _ => ?_) (fun _ => ?_)
  with_reducible refine (setChn_keeps _ _ _).then_ (by decide) (by decide) ?_
  with_reducible exact Keeps.refl _
  with_reducible exact Keeps.refl _

theorem feedBad_keeps (s : State) (f : Nat) (uv : Bool) :
    Keeps [Reg.PAR_EVT_CNT, Reg.ACT_SAFE_STATUS, Reg.ACT_CNT, Reg.HS_STATE, Reg.HB_STATE, Reg.SV_STATE, Reg.SV_KRES, Reg.SV_CNT2, Reg.LED_STATE, Reg.FIO_CAUSE, Reg.SW_CNT_VAL, Reg.SW_MSEC_STAT, Reg.TLY_CNT0, Reg.PWR_PINS] [.records, .freeCtr, .owed, .rng, .rings, .evt, .queue, .proxies, .chs, .loss, .wire, .out] s (feedBad s f uv) := by
  unfold feedBad
  try dsimp only
  with_reducible refine Keeps.ite (fun _ => ?_) (fun _ => ?_)
  with_reducible refine Keeps.foldl (fun _ _ => ?_) _ ?_
  with_reducible refine (setChn_keeps _ _ _).then_ (by decide) (by decide) ?_
  with_reducible refine (switchTo_keeps _ _ _).then_ (by decide) (by decide) ?_
  with_reducible exact Keeps.refl _
  with_reducible refine Keeps.foldl (fun _ _ => ?_) _ ?_
  with_reducible refine (feedLost_keeps _ _ _).then_ (by decide) (by decide) ?_
  with_reducible exact Keeps.refl _
  with_reducible refine Keeps.ite (fun _ => ?_) (fun _ => ?_)
  with_reducible refine Keeps.orF (in_PWR_PINS_FEED_UV) (by decide) ?_
  with_reducible refine Keeps.wr (in_PWR_PINS_FEED_OK) (by decide) ?_
  with_reducible exact Keeps.refl _
  with_reducible refine Keeps.wr (in_PWR_PINS_FEED_OK) (by decide) ?_
  with_reducible exact Keeps.refl _
  with_reducible refine Keeps.foldl (fun _ _ => ?_) _ ?_
  with_reducible refine (feedLost_keeps _ _ _).then_ (by decide) (by decide) ?_
  with_reducible exact Keeps.refl _
  with_reducible refine Keeps.ite (fun _ => ?_) (fun _ => ?_)
  with_reducible refine Keeps.orF (in_PWR_PINS_FEED_UV) (by decide) ?_
  with_reducible refine Keeps.wr (in_PWR_PINS_FEED_OK) (by decide) ?_
  with_reducible exact Keeps.refl _
  with_reducible refine Keeps.wr (in_PWR_PINS_FEED_OK) (by decide) ?_
  with_reducible exact Keeps.refl _

theorem execFeedUndervoltage_keeps (f : Fin 4) (mv : Nat) (heldUs : Nat) (s : State) :
    KeepsR [Reg.PAR_EVT_CNT, Reg.ACT_SAFE_STATUS, Reg.ACT_CNT, Reg.HS_STATE, Reg.HB_STATE, Reg.SV_STATE, Reg.SV_KRES, Reg.SV_CNT2, Reg.LED_STATE, Reg.FIO_CAUSE, Reg.SW_CNT_VAL, Reg.SW_MSEC_STAT, Reg.TLY_CNT0, Reg.PWR_PINS] [.records, .freeCtr, .owed, .rng, .rings, .evt, .queue, .proxies, .chs, .loss, .wire, .out] s (execFeedUndervoltage f mv heldUs s) := by
  unfold execFeedUndervoltage
  try dsimp only
  with_reducible refine KeepsR.next ?_
  with_reducible refine Keeps.ite (fun _ => ?_) (fun _ => ?_)
  with_reducible exact Keeps.refl _
  with_reducible refine Keeps.ite (fun _ => ?_) (fun _ => ?_)
  with_reducible refine (above_keeps _ _ _ _).then_ (by decide) (by decide) ?_
  with_reducible exact Keeps.refl _
  with_reducible refine (feedBad_keeps _ _ _).then_ (by decide) (by decide) ?_
  with_reducible refine (above_keeps _ _ _ _).then_ (by decide) (by decide) ?_
  with_reducible exact Keeps.refl _

theorem execFeedOvervoltage_keeps (f : Fin 4) (mv : Nat) (heldUs : Nat) (s : State) :
    KeepsR [Reg.PAR_EVT_CNT, Reg.ACT_SAFE_STATUS, Reg.ACT_CNT, Reg.HS_STATE, Reg.HB_STATE, Reg.SV_STATE, Reg.SV_KRES, Reg.SV_CNT2, Reg.LED_STATE, Reg.FIO_CAUSE, Reg.SW_CNT_VAL, Reg.SW_MSEC_STAT, Reg.TLY_CNT0, Reg.PWR_PINS] [.records, .freeCtr, .pwr, .owed, .rng, .rings, .evt, .queue, .proxies, .chs, .loss, .wire, .out] s (execFeedOvervoltage f mv heldUs s) := by
  unfold execFeedOvervoltage
  try dsimp only
  with_reducible refine KeepsR.next ?_
  with_reducible refine Keeps.ite (fun _ => ?_) (fun _ => ?_)
  with_reducible exact Keeps.refl _
  with_reducible refine Keeps.ite (fun _ => ?_) (fun _ => ?_)
  with_reducible refine Keeps.set_pwr (by decide) rfl rfl ?_
  with_reducible refine (feedBad_keeps _ _ _).then_ (by decide) (by decide) ?_
  with_reducible refine (above_keeps _ _ _ _).then_ (by decide) (by decide) ?_
  with_reducible exact Keeps.refl _
  with_reducible refine (above_keeps _ _ _ _).then_ (by decide) (by decide) ?_
  with_reducible exact Keeps.refl _

theorem feedBack_keeps (s : State) (c : Chan) :
    Keeps [Reg.HS_STATE, Reg.HB_STATE, Reg.SV_STATE, Reg.LED_STATE, Reg.FIO_CAUSE] [.chs] s (feedBack s c) := by
  unfold feedBack
  try dsimp only
  with_reducible refine Keeps.ite (fun _ => ?_) (fun _ => ?_)
  with_reducible refine (setChn_keeps _ _ _).then_ (by decide) (by decide) ?_
  with_reducible exact Keeps.refl _
  with_reducible refine (switchTo_keeps _ _ _).then_ (by decide) (by decide) ?_
  with_reducible refine (setChn_keeps _ _ _).then_ (by decide) (by decide) ?_
  with_reducible exact Keeps.refl _

theorem execFeedRecover_keeps (f : Fin 4) (mv : Nat) (heldUs : Nat) (s : State) :
    KeepsR [Reg.HS_STATE, Reg.HB_STATE, Reg.SV_STATE, Reg.LED_STATE, Reg.FIO_CAUSE, Reg.PWR_PINS] [.freeCtr, .pwr, .chs] s (execFeedRecover f mv heldUs s) := by
  unfold execFeedRecover
  try dsimp only
  with_reducible refine KeepsR.next ?_
  with_reducible refine Keeps.ite (fun _ => ?_) (fun _ => ?_)
  with_reducible exact Keeps.refl _
  with_reducible refine Keeps.ite (fun _ => ?_) (fun _ => ?_)
  with_reducible refine Keeps.foldl (fun _ _ => ?_) _ ?_
  with_reducible refine (feedBack_keeps _ _).then_ (by decide) (by decide) ?_
  with_reducible exact Keeps.refl _
  with_reducible refine Keeps.orF (in_PWR_PINS_FEED_OK) (by decide) ?_
  with_reducible refine Keeps.set_pwr (by decide) rfl rfl ?_
  with_reducible refine (above_keeps _ _ _ _).then_ (by decide) (by decide) ?_
  with_reducible exact Keeps.refl _
  with_reducible refine (above_keeps _ _ _ _).then_ (by decide) (by decide) ?_
  with_reducible exact Keeps.refl _

end Sys2Proof.Machine
end

