-- ==== Sys2Proof/Laws/Parser.lean ====
section
/-! SUPPORT.
What the operations of Machine/Parser.lean change, and that they keep a sound state sound.
-/

namespace Sys2Proof.Machine

theorem takeRule_keeps (s : State) (r : Nat) :
    Keeps [] [.sw] s (takeRule s r) := by
  unfold takeRule
  try dsimp only
  with_reducible refine Keeps.set_sw (by decide) ⟨rfl, rfl, rfl⟩ ?_
  with_reducible exact Keeps.refl _

end Sys2Proof.Machine
end

