-- ==== Sys2Proof/Laws/Parts.lean ====
section
/-! SUPPORT.
What the operations of Machine/Parts.lean change, and that they keep a sound state sound.
-/

namespace Sys2Proof.Machine

theorem takeLayout_keeps (s : State) (b : List Byte) :
    Keeps [Reg.PAR_STATE] [.layout, .par, .rng, .evt] s (takeLayout s b) := by
  unfold takeLayout
  try dsimp only
  with_reducible refine Keeps.rebuilt ?_ ?_ ?_
  · with_reducible exact .inl (by decide)
  · with_reducible exact ⟨.inr rfl, .inr rfl, .inr rfl, .inr rfl, .inr rfl, .inr rfl, .inr rfl, .inr rfl, .inr rfl, .inr rfl, .inl (by decide), .inr rfl, .inl (by decide), .inr rfl, .inr ⟨rfl, rfl, rfl⟩, .inr rfl, .inr ⟨rfl, rfl⟩, .inr rfl, .inr rfl, .inr rfl, .inr ⟨rfl, rfl⟩, .inr rfl, .inr rfl, .inr ⟨rfl, rfl, rfl⟩, .inr rfl, .inr rfl, .inr rfl, .inr rfl, .inr rfl, .inr rfl, .inr rfl, .inr rfl⟩
  with_reducible refine Keeps.foldl (fun _ _ => ?_) _ ?_
  with_reducible refine Keeps.wr (in_PAR_STATE_STATE _) (by decide) ?_
  with_reducible exact Keeps.refl _
  with_reducible refine Keeps.set_par (by decide) (by decide) ?_
  with_reducible exact Keeps.refl _

theorem applyLayout_keeps (s : State) (a : Nat) :
    Keeps [Reg.PAR_LAYOUT_STATUS, Reg.PAR_SEAL_STATUS, Reg.PAR_STATE] [.layout, .par, .rng, .evt] s (applyLayout s a) := by
  unfold applyLayout
  try dsimp only
  with_reducible refine Keeps.ite (fun _ => ?_) (fun _ => ?_)
  with_reducible refine Keeps.wr (in_PAR_LAYOUT_STATUS_OFFSET) (by decide) ?_
  with_reducible refine Keeps.wr (in_PAR_LAYOUT_STATUS_RESULT) (by decide) ?_
  with_reducible refine (violate_keeps _).then_ (by decide) (by decide) ?_
  with_reducible exact Keeps.refl _
  with_reducible refine Keeps.ite (fun _ => ?_) (fun _ => ?_)
  with_reducible refine Keeps.wr (in_PAR_LAYOUT_STATUS_OFFSET) (by decide) ?_
  with_reducible refine Keeps.wr (in_PAR_LAYOUT_STATUS_RESULT) (by decide) ?_
  with_reducible exact Keeps.refl _
  split
  with_reducible refine Keeps.wr (in_PAR_LAYOUT_STATUS_OFFSET) (by decide) ?_
  with_reducible refine Keeps.wr (in_PAR_LAYOUT_STATUS_RESULT) (by decide) ?_
  with_reducible exact Keeps.refl _
  with_reducible refine Keeps.wr (in_PAR_LAYOUT_STATUS_OFFSET) (by decide) ?_
  with_reducible refine Keeps.wr (in_PAR_LAYOUT_STATUS_RESULT) (by decide) ?_
  with_reducible refine (takeLayout_keeps _ _).then_ (by decide) (by decide) ?_
  with_reducible exact Keeps.refl _

theorem execLayoutApply_keeps (w : Writer) (s : State) :
    KeepsR [Reg.PAR_LAYOUT_CTL, Reg.PAR_LAYOUT_STATUS, Reg.PAR_SEAL_STATUS, Reg.PAR_STATE] [.layout, .par, .rng, .evt] s (execLayoutApply w s) := by
  unfold execLayoutApply
  try dsimp only
  with_reducible refine KeepsR.whileCd ?_
  with_reducible refine Keeps.ite (fun _ => ?_) (fun _ => ?_)
  with_reducible refine (violate_keeps _).then_ (by decide) (by decide) ?_
  with_reducible exact Keeps.refl _
  with_reducible refine (applyLayout_keeps _ _).then_ (by decide) (by decide) ?_
  with_reducible refine Keeps.put (in_PAR_LAYOUT_CTL_APPLY) (by decide) ?_
  with_reducible exact Keeps.refl _

theorem sealBindings_keeps (s : State) :
    Keeps [Reg.PAR_EVT_CNT, Reg.SW_CNT_VAL, Reg.SW_MSEC_STAT, Reg.BRD_STATUS, Reg.TLY_CNT0] [.records, .owed, .rings, .evt, .queue, .proxies, .loss, .wire, .out] s (sealBindings s) := by
  unfold sealBindings
  try dsimp only
  with_reducible refine Keeps.foldl (fun _ _ => ?_) _ ?_
  split
  with_reducible refine (raise_keeps _ _ _ _ _).then_ (by decide) (by decide) ?_
  with_reducible refine Keeps.orF (in_BRD_STATUS_BIND_ERR) (by decide) ?_
  with_reducible exact Keeps.refl _
  with_reducible exact Keeps.refl _
  with_reducible exact Keeps.refl _

theorem sealUnit_keeps (s : State) :
    Keeps [Reg.PAR_SEAL_STATUS, Reg.PAR_EVT_CNT, Reg.SIN_SCHED, Reg.SIN_STREAMS, Reg.SW_CNT_VAL, Reg.SW_MSEC_STAT, Reg.BRD_STATUS, Reg.TLY_CNT0] [.records, .owed, .rings, .evt, .queue, .proxies, .act, .loss, .sns, .wire, .out] s (sealUnit s) := by
  unfold sealUnit
  try dsimp only
  with_reducible refine Keeps.ite (fun _ => ?_) (fun _ => ?_)
  with_reducible refine Keeps.set_act (by decide) ?_
  with_reducible refine (sealBindings_keeps _).then_ (by decide) (by decide) ?_
  with_reducible refine (sealStreams_keeps _).then_ (by decide) (by decide) ?_
  with_reducible refine Keeps.put (in_PAR_SEAL_STATUS_SEALED) (by decide) ?_
  with_reducible refine Keeps.wr (in_PAR_SEAL_STATUS_SEAL_FAIL) (by decide) ?_
  with_reducible exact Keeps.refl _
  with_reducible refine Keeps.wr (in_PAR_SEAL_STATUS_SEAL_FAIL) (by decide) ?_
  with_reducible exact Keeps.refl _

theorem execParSeal_keeps (w : Writer) (v : Word) (s : State) :
    KeepsR [Reg.PAR_SEAL_STATUS, Reg.PAR_EVT_CNT, Reg.SIN_SCHED, Reg.SIN_STREAMS, Reg.SW_CNT_VAL, Reg.SW_MSEC_STAT, Reg.BRD_STATUS, Reg.TLY_CNT0] [.records, .owed, .rings, .evt, .queue, .proxies, .act, .loss, .sns, .wire, .out] s (execParSeal w v s) := by
  unfold execParSeal
  try dsimp only
  with_reducible refine KeepsR.whileCd ?_
  with_reducible refine Keeps.ite (fun _ => ?_) (fun _ => ?_)
  with_reducible refine (violate_keeps _).then_ (by decide) (by decide) ?_
  with_reducible exact Keeps.refl _
  with_reducible refine Keeps.ite (fun _ => ?_) (fun _ => ?_)
  with_reducible exact Keeps.refl _
  with_reducible refine (sealUnit_keeps _).then_ (by decide) (by decide) ?_
  with_reducible exact Keeps.refl _

theorem beginReset_keeps (s : State) (p : Nat) (trigger : Nat) :
    Keeps [Reg.CHN_ATTACH, Reg.PAR_STATE, Reg.PAR_RST_CFG, Reg.PAR_EVT_CNT, Reg.ACT_CLAIM, Reg.ACT_CNT, Reg.HS_STATE, Reg.HB_STATE, Reg.SV_STATE, Reg.SV_KRES, Reg.SV_CNT2, Reg.LED_STATE, Reg.FIO_CAUSE, Reg.SIN_SCHED, Reg.SIN_STREAMS, Reg.SW_CNT_VAL, Reg.SW_BUF_STATUS, Reg.SW_MSEC_STAT, Reg.INF_CTX_STAT, Reg.INF_CTX_EXEC, Reg.INF_MEM, Reg.STO_WB_STATUS, Reg.SEC_KEY_STATE, Reg.TLY_CNT0] [.records, .layout, .freeCtr, .pwr, .owed, .par, .rng, .rings, .evt, .queue, .proxies, .act, .chs, .loss, .sns, .sw, .wire, .sub, .brd, .inf, .sto, .sec, .out] s (beginReset s p trigger) := by
  unfold beginReset
  try dsimp only
  with_reducible refine Keeps.ite (fun _ => ?_) (fun _ => ?_)
  with_reducible refine Keeps.bump (in_PAR_RST_CFG_RST_REFUSED) (by decide) ?_
  with_reducible exact Keeps.refl _
  with_reducible refine Keeps.rebuilt ?_ ?_ ?_
  · with_reducible exact .inl (by decide)
  · with_reducible exact ⟨.inr rfl, .inr rfl, .inr rfl, .inr rfl, .inr rfl, .inr rfl, .inr rfl, .inr rfl, .inr rfl, .inl (by decide), .inr rfl, .inr rfl, .inr rfl, .inr rfl, .inl (by decide), .inr rfl, .inl (by decide), .inl (by decide), .inr rfl, .inr rfl, .inl (by decide), .inr rfl, .inr rfl, .inl (by decide), .inr rfl, .inr rfl, .inr rfl, .inr rfl, .inr rfl, .inr rfl, .inr rfl, .inr rfl⟩
  with_reducible refine Keeps.ite (fun _ => ?_) (fun _ => ?_)
  with_reducible refine Keeps.rebuilt ?_ ?_ ?_
  · with_reducible exact .inl (by decide)
  · with_reducible exact ⟨.inr rfl, .inr rfl, .inr rfl, .inr rfl, .inr rfl, .inr rfl, .inl (by decide), .inr rfl, .inr rfl, .inr rfl, .inr rfl, .inr rfl, .inr rfl, .inr rfl, .inl (by decide), .inr rfl, .inl (by decide), .inr rfl, .inr rfl, .inr rfl, .inl (by decide), .inr rfl, .inr rfl, .inl (by decide), .inr rfl, .inl (by decide), .inr rfl, .inr rfl, .inr rfl, .inr rfl, .inr rfl, .inr rfl⟩
  with_reducible refine (clearSlots_keeps _ _).then_ (by decide) (by decide) ?_
  with_reducible refine Keeps.wr (in_PAR_STATE_STATE _) (by decide) ?_
  with_reducible refine Keeps.ite (fun _ => ?_) (fun _ => ?_)
  with_reducible refine (detach_keeps _ _ _).then_ (by decide) (by decide) ?_
  with_reducible exact Keeps.refl _
  with_reducible refine (dropPart_keeps _ _).then_ (by decide) (by decide) ?_
  with_reducible refine (orphanPart_keeps _ _).then_ (by decide) (by decide) ?_
  with_reducible exact Keeps.refl _
  with_reducible refine (clearSlots_keeps _ _).then_ (by decide) (by decide) ?_
  with_reducible refine Keeps.wr (in_PAR_STATE_STATE _) (by decide) ?_
  with_reducible refine Keeps.ite (fun _ => ?_) (fun _ => ?_)
  with_reducible refine (detach_keeps _ _ _).then_ (by decide) (by decide) ?_
  with_reducible exact Keeps.refl _
  with_reducible refine (dropPart_keeps _ _).then_ (by decide) (by decide) ?_
  with_reducible refine (orphanPart_keeps _ _).then_ (by decide) (by decide) ?_
  with_reducible exact Keeps.refl _

theorem execParRst_keeps (w : Writer) (v : Word) (s : State) :
    KeepsR [Reg.CHN_ATTACH, Reg.PAR_SEAL_STATUS, Reg.PAR_STATE, Reg.PAR_RST_CFG, Reg.PAR_EVT_CNT, Reg.ACT_CLAIM, Reg.ACT_CNT, Reg.HS_STATE, Reg.HB_STATE, Reg.SV_STATE, Reg.SV_KRES, Reg.SV_CNT2, Reg.LED_STATE, Reg.FIO_CAUSE, Reg.SIN_SCHED, Reg.SIN_STREAMS, Reg.SW_CNT_VAL, Reg.SW_BUF_STATUS, Reg.SW_MSEC_STAT, Reg.INF_CTX_STAT, Reg.INF_CTX_EXEC, Reg.INF_MEM, Reg.STO_WB_STATUS, Reg.SEC_KEY_STATE, Reg.TLY_CNT0] [.records, .layout, .freeCtr, .pwr, .owed, .par, .rng, .rings, .evt, .queue, .proxies, .act, .chs, .loss, .sns, .sw, .wire, .sub, .brd, .inf, .sto, .sec, .out] s (execParRst w v s) := by
  unfold execParRst
  try dsimp only
  with_reducible refine KeepsR.whileCd ?_
  split
  with_reducible refine Keeps.ite (fun _ => ?_) (fun _ => ?_)
  with_reducible refine (beginReset_keeps _ _ _).then_ (by decide) (by decide) ?_
  with_reducible exact Keeps.refl _
  with_reducible exact Keeps.refl _
  with_reducible refine Keeps.ite (fun _ => ?_) (fun _ => ?_)
  with_reducible refine (violate_keeps _).then_ (by decide) (by decide) ?_
  with_reducible exact Keeps.refl _
  with_reducible refine Keeps.ite (fun _ => ?_) (fun _ => ?_)
  with_reducible refine (beginReset_keeps _ _ _).then_ (by decide) (by decide) ?_
  with_reducible exact Keeps.refl _
  with_reducible exact Keeps.refl _

theorem execSelfReset_keeps (w : Writer) (part : Fin 8) (v : Word) (s : State) :
    KeepsR [Reg.CHN_ATTACH, Reg.PAR_STATE, Reg.PAR_RST_CFG, Reg.PAR_EVT_CNT, Reg.RNG_CNT, Reg.ACT_CLAIM, Reg.ACT_CNT, Reg.HS_STATE, Reg.HB_STATE, Reg.SV_STATE, Reg.SV_KRES, Reg.SV_CNT2, Reg.LED_STATE, Reg.FIO_CAUSE, Reg.SIN_SCHED, Reg.SIN_STREAMS, Reg.SW_CNT_VAL, Reg.SW_BUF_STATUS, Reg.SW_MSEC_STAT, Reg.INF_CTX_STAT, Reg.INF_CTX_EXEC, Reg.INF_MEM, Reg.STO_WB_STATUS, Reg.SEC_KEY_STATE, Reg.TLY_CNT0] [.records, .layout, .freeCtr, .pwr, .owed, .par, .rng, .rings, .evt, .queue, .proxies, .act, .chs, .loss, .sns, .sw, .wire, .sub, .brd, .inf, .sto, .sec, .out] s (execSelfReset w part v s) := by
  unfold execSelfReset
  try dsimp only
  with_reducible refine KeepsR.whileCd ?_
  with_reducible refine Keeps.ite (fun _ => ?_) (fun _ => ?_)
  with_reducible refine (dbBad_keeps _).then_ (by decide) (by decide) ?_
  with_reducible exact Keeps.refl _
  with_reducible refine Keeps.ite (fun _ => ?_) (fun _ => ?_)
  with_reducible refine (beginReset_keeps _ _ _).then_ (by decide) (by decide) ?_
  with_reducible exact Keeps.refl _
  with_reducible exact Keeps.refl _

theorem disarmPart_keeps (s : State) (p : Nat) :
    Keeps [] [.layout, .rng, .rings, .evt] s (disarmPart s p) := by
  unfold disarmPart
  try dsimp only
  with_reducible refine Keeps.set_rng_layout (by decide) (by decide) rfl ?_
  with_reducible refine (setPartEv_keeps _ _ _).then_ (by decide) (by decide) ?_
  with_reducible refine (disarm_keeps _ _).then_ (by decide) (by decide) ?_
  with_reducible refine Keeps.foldl (fun _ _ => ?_) _ ?_
  with_reducible refine Keeps.foldl (fun _ _ => ?_) _ ?_
  with_reducible refine (disarm_keeps _ _).then_ (by decide) (by decide) ?_
  with_reducible exact Keeps.refl _
  with_reducible exact Keeps.refl _
  with_reducible exact Keeps.refl _

theorem execPartResetDone_keeps (part : Fin 8) (s : State) :
    KeepsR [Reg.PAR_STATE, Reg.PAR_EVT_CNT, Reg.SW_CNT_VAL, Reg.SW_MSEC_STAT, Reg.TLY_CNT0] [.records, .layout, .owed, .par, .rng, .rings, .evt, .queue, .proxies, .loss, .wire, .out] s (execPartResetDone part s) := by
  unfold execPartResetDone
  try dsimp only
  with_reducible refine KeepsR.whileCd ?_
  split
  with_reducible exact Keeps.refl _
  with_reducible refine (raise_keeps _ _ _ _ _).then_ (by decide) (by decide) ?_
  with_reducible refine Keeps.set_par (by decide) (by decide) ?_
  with_reducible refine Keeps.wr (in_PAR_STATE_STATE _) (by decide) ?_
  with_reducible refine (disarmPart_keeps _ _).then_ (by decide) (by decide) ?_
  with_reducible exact Keeps.refl _

theorem execOrphanTimeout_keeps (c : Chan) (s : State) :
    KeepsR [Reg.PAR_EVT_CNT, Reg.ACT_CNT, Reg.HS_STATE, Reg.HB_STATE, Reg.SV_STATE, Reg.SV_KRES, Reg.SV_CNT2, Reg.LED_STATE, Reg.FIO_CAUSE, Reg.SW_CNT_VAL, Reg.SW_MSEC_STAT, Reg.TLY_CNT0] [.records, .freeCtr, .owed, .rng, .rings, .evt, .queue, .proxies, .chs, .loss, .wire, .out] s (execOrphanTimeout c s) := by
  unfold execOrphanTimeout
  try dsimp only
  with_reducible refine KeepsR.next ?_
  with_reducible refine Keeps.ite (fun _ => ?_) (fun _ => ?_)
  with_reducible refine (orphanNow_keeps _ _ _).then_ (by decide) (by decide) ?_
  with_reducible exact Keeps.refl _
  with_reducible exact Keeps.refl _

theorem execOrphanBrakeEnd_keeps (c : Chan) (s : State) :
    KeepsR [Reg.PAR_EVT_CNT, Reg.ACT_CLAIM, Reg.ACT_CNT, Reg.HS_STATE, Reg.HB_STATE, Reg.SV_STATE, Reg.SV_KRES, Reg.SV_CNT2, Reg.LED_STATE, Reg.LED_CNT, Reg.FIO_CAUSE, Reg.SW_CNT_VAL, Reg.SW_MSEC_STAT, Reg.TLY_CNT0] [.records, .freeCtr, .owed, .rng, .rings, .evt, .queue, .proxies, .act, .chs, .loss, .wire, .out] s (execOrphanBrakeEnd c s) := by
  unfold execOrphanBrakeEnd
  try dsimp only
  split
  split
  with_reducible refine KeepsR.next ?_
  with_reducible refine (limpDriveStart_keeps _ _ _ _).then_ (by decide) (by decide) ?_
  with_reducible refine (setChn_keeps _ _ _).then_ (by decide) (by decide) ?_
  with_reducible refine (bridgeOff_keeps _ _).then_ (by decide) (by decide) ?_
  with_reducible refine (setChn_keeps _ _ _).then_ (by decide) (by decide) ?_
  with_reducible exact Keeps.refl _
  with_reducible refine KeepsR.next ?_
  split
  with_reducible refine Keeps.ite (fun _ => ?_) (fun _ => ?_)
  with_reducible refine (limpEntryAct_keeps _ _ _).then_ (by decide) (by decide) ?_
  with_reducible refine (bridgeOff_keeps _ _).then_ (by decide) (by decide) ?_
  with_reducible refine (setChn_keeps _ _ _).then_ (by decide) (by decide) ?_
  with_reducible exact Keeps.refl _
  with_reducible refine (bridgeOff_keeps _ _).then_ (by decide) (by decide) ?_
  with_reducible refine (setChn_keeps _ _ _).then_ (by decide) (by decide) ?_
  with_reducible exact Keeps.refl _
  with_reducible refine (bridgeOff_keeps _ _).then_ (by decide) (by decide) ?_
  with_reducible refine (setChn_keeps _ _ _).then_ (by decide) (by decide) ?_
  with_reducible exact Keeps.refl _
  with_reducible refine KeepsR.next ?_
  with_reducible exact Keeps.refl _

theorem execEventCoalesceTimeout_keeps (part : Fin 8) (s : State) :
    KeepsR [] [.records, .owed, .evt, .out] s (execEventCoalesceTimeout part s) := by
  unfold execEventCoalesceTimeout
  try dsimp only
  with_reducible refine KeepsR.whileCd ?_
  with_reducible refine Keeps.ite (fun _ => ?_) (fun _ => ?_)
  with_reducible exact Keeps.refl _
  with_reducible refine (signalEvents_keeps _ _).then_ (by decide) (by decide) ?_
  with_reducible exact Keeps.refl _

theorem writeSuppressed_keeps (p n : Nat) (s : State) :
    Keeps [Reg.PAR_EVT_CNT, Reg.SW_CNT_VAL, Reg.SW_MSEC_STAT] [Part.records, .owed, .rings, .evt, .proxies, .loss, .wire, .out] s (writeSuppressed p n s) := by
  induction n generalizing s with
  | zero => exact Keeps.refl _
  | succ n ih =>
    unfold writeSuppressed
    dsimp only
    split
    · exact Keeps.refl _
    · refine Keeps.ite (fun _ => ?_) (fun _ => Keeps.ite (fun _ => Keeps.refl _) (fun _ => ?_))
      · refine Keeps.trans ?_ (ih _)
        refine (countLoss_keeps _ _ _ _).then_ (by decide) (by decide) ?_
        refine Keeps.bump (in_PAR_EVT_CNT_EV_LOST _) (by decide) ?_
        exact (setPartEv_keeps _ _ _).then_ (by decide) (by decide) (Keeps.refl _)
      · refine Keeps.trans ?_ (ih _)
        refine Keeps.ite (fun _ => ?_) (fun _ => ?_)
        · refine (signalEvents_keeps _ _).then_ (by decide) (by decide) ?_
          refine (setPartEv_keeps _ _ _).then_ (by decide) (by decide) ?_
          exact (writeEvent_keeps _ _ _).then_ (by decide) (by decide) (Keeps.refl _)
        · refine (setPartEv_keeps _ _ _).then_ (by decide) (by decide) ?_
          exact (writeEvent_keeps _ _ _).then_ (by decide) (by decide) (Keeps.refl _)

theorem execEventTokenRefill_keeps (s : State) :
    KeepsR [Reg.PAR_EVT_CNT, Reg.SW_CNT_VAL, Reg.SW_MSEC_STAT] [.records, .owed, .rings, .evt, .proxies, .loss, .wire, .out] s (execEventTokenRefill s) := by
  unfold execEventTokenRefill
  try dsimp only
  with_reducible refine KeepsR.whileCd ?_
  with_reducible refine Keeps.foldl (fun _ _ => ?_) _ ?_
  with_reducible refine (writeSuppressed_keeps _ _ _).then_ (by decide) (by decide) ?_
  with_reducible refine (setPartEv_keeps _ _ _).then_ (by decide) (by decide) ?_
  with_reducible exact Keeps.refl _
  with_reducible exact Keeps.refl _

theorem execSwEvent_keeps (w : Writer) (part : Fin 8) (v : Word) (s : State) :
    KeepsR [Reg.PAR_EVT_CNT, Reg.RNG_CNT, Reg.SW_CNT_VAL, Reg.SW_MSEC_STAT, Reg.TLY_CNT0] [.records, .owed, .rings, .evt, .queue, .proxies, .loss, .wire, .out] s (execSwEvent w part v s) := by
  unfold execSwEvent
  try dsimp only
  with_reducible refine KeepsR.whileCd ?_
  with_reducible refine Keeps.ite (fun _ => ?_) (fun _ => ?_)
  with_reducible refine (dbBad_keeps _).then_ (by decide) (by decide) ?_
  with_reducible exact Keeps.refl _
  with_reducible refine (raise_keeps _ _ _ _ _).then_ (by decide) (by decide) ?_
  with_reducible exact Keeps.refl _

theorem execSQueueDeliver_keeps (part : Fin 8) (s : State) :
    KeepsR [Reg.SW_CNT_VAL, Reg.SW_MSEC_STAT] [.records, .owed, .rings, .evt, .proxies, .wire, .out] s (execSQueueDeliver part s) := by
  unfold execSQueueDeliver
  try dsimp only
  with_reducible refine KeepsR.whileCd ?_
  split
  with_reducible exact Keeps.refl _
  with_reducible refine Keeps.ite (fun _ => ?_) (fun _ => ?_)
  with_reducible refine (signalEvents_keeps _ _).then_ (by decide) (by decide) ?_
  with_reducible refine (writeEvent_keeps _ _ _).then_ (by decide) (by decide) ?_
  with_reducible refine (setPartEv_keeps _ _ _).then_ (by decide) (by decide) ?_
  with_reducible exact Keeps.refl _
  with_reducible exact Keeps.refl _

end Sys2Proof.Machine
end

