-- ==== Sys2Proof/Laws/PowerLoss.lean ====
section
/-! SUPPORT.
What the operations of Machine/PowerLoss.lean change, and that they keep a sound state sound.
-/

namespace Sys2Proof.Machine

theorem haltAll_keeps (s : State) :
    Keeps [Reg.PAR_EVT_CNT, Reg.ACT_CNT, Reg.HS_STATE, Reg.HB_STATE, Reg.SV_STATE, Reg.SV_KRES, Reg.SV_CNT2, Reg.LED_STATE, Reg.FIO_CAUSE, Reg.SW_CNT_VAL, Reg.SW_MSEC_STAT, Reg.STO_WB_STATUS, Reg.TLY_CNT0] [.records, .freeCtr, .pwr, .owed, .rng, .rings, .evt, .queue, .proxies, .act, .chs, .loss, .wire, .inf, .sto, .out] s (haltAll s) := by
  unfold haltAll
  try dsimp only
  with_reducible refine Keeps.rebuilt ?_ ?_ ?_
  · with_reducible exact .inr ⟨rfl, rfl, rfl⟩
  · with_reducible exact ⟨.inr rfl, .inr rfl, .inr rfl, .inr rfl, .inr rfl, .inr rfl, .inl (by decide), .inr rfl, .inr rfl, .inr rfl, .inl (by decide), .inr rfl, .inr rfl, .inr rfl, .inl (by decide), .inr rfl, .inl (by decide), .inl (by decide), .inr rfl, .inr rfl, .inl (by decide), .inr rfl, .inr rfl, .inl (by decide), .inr rfl, .inr rfl, .inl (by decide), .inl (by decide), .inr rfl, .inr rfl, .inr rfl, .inr rfl⟩
  with_reducible refine Keeps.foldl (fun _ _ => ?_) _ ?_
  with_reducible refine (cutJobPf_keeps _ _).then_ (by decide) (by decide) ?_
  with_reducible exact Keeps.refl _
  with_reducible refine Keeps.foldl (fun _ _ => ?_) _ ?_
  with_reducible refine (outputDown_keeps _ _ _).then_ (by decide) (by decide) ?_
  with_reducible exact Keeps.refl _
  with_reducible refine Keeps.foldl (fun _ _ => ?_) _ ?_
  with_reducible refine (dropJob_keeps _ _).then_ (by decide) (by decide) ?_
  with_reducible exact Keeps.refl _
  with_reducible refine (dropSeqs_keeps _ _).then_ (by decide) (by decide) ?_
  with_reducible exact Keeps.refl _

theorem execPowerFail_keeps (mv : Nat) (heldUs : Nat) (hold : Nat) (s0 : State) :
    KeepsR [Reg.PAR_EVT_CNT, Reg.ACT_CNT, Reg.HS_STATE, Reg.HB_STATE, Reg.SV_STATE, Reg.SV_KRES, Reg.SV_CNT2, Reg.LED_STATE, Reg.FIO_CAUSE, Reg.SW_CNT_VAL, Reg.SW_MSEC_STAT, Reg.STO_WB_STATUS, Reg.STO_PF_CNT, Reg.TLY_CNT0] [.records, .freeCtr, .pwr, .owed, .rng, .rings, .evt, .queue, .proxies, .act, .chs, .loss, .wire, .inf, .sto, .out] s0 (execPowerFail mv heldUs hold s0) := by
  unfold execPowerFail
  try dsimp only
  split
  with_reducible refine KeepsR.next ?_
  with_reducible exact Keeps.refl _
  split
  with_reducible refine KeepsR.next ?_
  with_reducible refine (above_keeps _ _ _ _).then_ (by decide) (by decide) ?_
  with_reducible exact Keeps.refl _
  with_reducible refine KeepsR.next ?_
  with_reducible refine (tally_keeps _ _ _).then_ (by decide) (by decide) ?_
  with_reducible refine Keeps.bump (in_STO_PF_CNT_PF_EVENTS) (by decide) ?_
  with_reducible refine (haltAll_keeps _).then_ (by decide) (by decide) ?_
  with_reducible refine Keeps.set_sto (by decide) ?_
  with_reducible refine (above_keeps _ _ _ _).then_ (by decide) (by decide) ?_
  with_reducible exact Keeps.refl _

theorem restartAfter_keeps (s : State) :
    Keeps [] [.pwr] s (restartAfter s) := by
  unfold restartAfter
  try dsimp only
  with_reducible refine Keeps.ite (fun _ => ?_) (fun _ => ?_)
  with_reducible exact Keeps.refl _
  with_reducible refine (startSeq_keeps _ _ _ _).then_ (by decide) (by decide) ?_
  with_reducible exact Keeps.refl _

theorem endSequence_keeps (s : State) (result : Nat) :
    Keeps [Reg.every] [.memory, .records, .layout, .freeCtr, .latches, .spar, .dt, .pwr, .owed, .banks, .par, .rng, .rings, .evt, .queue, .chain, .proxies, .act, .chs, .scl, .loss, .sns, .sw, .wire, .sub, .brd, .inf, .sto, .sec, .flt, .out] s (endSequence s result) := by
  unfold endSequence
  try dsimp only
  with_reducible refine Keeps.ite (fun _ => ?_) (fun _ => ?_)
  with_reducible refine (showDomains_keeps _).then_ (by decide) (by decide) ?_
  with_reducible refine (limpApply_keeps _).then_ (by decide) (by decide) ?_
  with_reducible refine Keeps.rebuilt ?_ ?_ ?_
  · with_reducible exact .inl (by decide)
  · with_reducible exact ⟨.inr rfl, .inr rfl, .inr rfl, .inr rfl, .inl (by decide), .inr rfl, .inl (by decide), .inl (by decide), .inl (by decide), .inr rfl, .inr rfl, .inr rfl, .inr rfl, .inr rfl, .inl (by decide), .inr rfl, .inl (by decide), .inr rfl, .inr rfl, .inr rfl, .inl (by decide), .inr rfl, .inr rfl, .inl (by decide), .inr rfl, .inr rfl, .inr rfl, .inl (by decide), .inr rfl, .inr rfl, .inr rfl, .inr rfl⟩
  with_reducible refine (linkOff_keeps _).then_ (by decide) (by decide) ?_
  with_reducible refine (deviceReset_keeps _).then_ (by decide) (by decide) ?_
  with_reducible refine (controlLost_keeps _ _).then_ (by decide) (by decide) ?_
  with_reducible refine Keeps.set_spar (by decide) ?_
  with_reducible exact Keeps.refl _
  with_reducible refine (restartAfter_keeps _).then_ (by decide) (by decide) ?_
  with_reducible refine (showDomains_keeps _).then_ (by decide) (by decide) ?_
  with_reducible refine (limpApply_keeps _).then_ (by decide) (by decide) ?_
  with_reducible refine Keeps.rebuilt ?_ ?_ ?_
  · with_reducible exact .inl (by decide)
  · with_reducible exact ⟨.inr rfl, .inr rfl, .inr rfl, .inr rfl, .inl (by decide), .inr rfl, .inl (by decide), .inl (by decide), .inl (by decide), .inr rfl, .inr rfl, .inr rfl, .inr rfl, .inr rfl, .inl (by decide), .inr rfl, .inl (by decide), .inr rfl, .inr rfl, .inr rfl, .inl (by decide), .inr rfl, .inr rfl, .inl (by decide), .inr rfl, .inr rfl, .inr rfl, .inl (by decide), .inr rfl, .inr rfl, .inr rfl, .inr rfl⟩
  with_reducible refine (linkOff_keeps _).then_ (by decide) (by decide) ?_
  with_reducible refine (deviceReset_keeps _).then_ (by decide) (by decide) ?_
  with_reducible refine (controlLost_keeps _ _).then_ (by decide) (by decide) ?_
  with_reducible refine Keeps.set_spar (by decide) ?_
  with_reducible exact Keeps.refl _

theorem rescue_keeps (s : State) (n : Nat) :
    Keeps [Reg.SW_CNT_VAL, Reg.SW_MSEC_STAT, Reg.STO_WB_STATUS] [.records, .owed, .rng, .rings, .proxies, .wire, .sto, .out] s (rescue s n) := by
  unfold rescue
  try dsimp only
  with_reducible refine Keeps.set_sto (by decide) ?_
  with_reducible refine Keeps.foldl (fun _ _ => ?_) _ ?_
  with_reducible refine (affect_keeps _ _ _ _).then_ (by decide) (by decide) ?_
  with_reducible exact Keeps.refl _
  with_reducible refine (drain_keeps _ _ _).then_ (by decide) (by decide) ?_
  with_reducible exact Keeps.refl _

theorem execPowerFailStepDone_keeps (s : State) :
    KeepsR [Reg.every] [.memory, .records, .layout, .freeCtr, .latches, .spar, .dt, .pwr, .owed, .banks, .par, .rng, .rings, .evt, .queue, .chain, .proxies, .act, .chs, .scl, .loss, .sns, .sw, .wire, .sub, .brd, .inf, .sto, .sec, .flt, .out] s (execPowerFailStepDone s) := by
  unfold execPowerFailStepDone
  try dsimp only
  with_reducible refine KeepsR.next ?_
  with_reducible refine Keeps.ite (fun _ => ?_) (fun _ => ?_)
  with_reducible exact Keeps.refl _
  split
  with_reducible refine Keeps.set_sto (by decide) ?_
  with_reducible exact Keeps.refl _
  with_reducible refine Keeps.set_sto (by decide) ?_
  with_reducible refine Keeps.ite (fun _ => ?_) (fun _ => ?_)
  with_reducible exact Keeps.refl _
  with_reducible refine (rescue_keeps _ _).then_ (by decide) (by decide) ?_
  with_reducible exact Keeps.refl _
  with_reducible refine Keeps.set_sto (by decide) ?_
  with_reducible exact Keeps.refl _
  with_reducible refine (endSequence_keeps _ _).then_ (by decide) (by decide) ?_
  with_reducible exact Keeps.refl _

theorem execHoldStop_keeps (mv : Nat) (drained : Nat) (s : State) :
    KeepsR [Reg.every] [.memory, .records, .layout, .freeCtr, .latches, .spar, .dt, .pwr, .owed, .banks, .par, .rng, .rings, .evt, .queue, .chain, .proxies, .act, .chs, .scl, .loss, .sns, .sw, .wire, .sub, .brd, .inf, .sto, .sec, .flt, .out] s (execHoldStop mv drained s) := by
  unfold execHoldStop
  try dsimp only
  with_reducible refine KeepsR.next ?_
  with_reducible refine Keeps.ite (fun _ => ?_) (fun _ => ?_)
  with_reducible exact Keeps.refl _
  with_reducible refine (endSequence_keeps _ _).then_ (by decide) (by decide) ?_
  with_reducible refine Keeps.rebuilt ?_ ?_ ?_
  · with_reducible exact .inl (by decide)
  · with_reducible exact ⟨.inr rfl, .inr rfl, .inr rfl, .inr rfl, .inr rfl, .inr rfl, .inr rfl, .inr rfl, .inr rfl, .inr rfl, .inr rfl, .inr rfl, .inr rfl, .inr rfl, .inl (by decide), .inr rfl, .inl (by decide), .inr rfl, .inr rfl, .inr rfl, .inl (by decide), .inr rfl, .inr rfl, .inl (by decide), .inr rfl, .inr rfl, .inr rfl, .inl (by decide), .inr rfl, .inr rfl, .inr rfl, .inr rfl⟩
  with_reducible refine Keeps.bumpEvery (by decide) ?_
  with_reducible refine Keeps.foldl (fun _ _ => ?_) _ ?_
  with_reducible refine (losePf_keeps _ _).then_ (by decide) (by decide) ?_
  with_reducible exact Keeps.refl _
  with_reducible refine Keeps.ite (fun _ => ?_) (fun _ => ?_)
  with_reducible refine (rescue_keeps _ _).then_ (by decide) (by decide) ?_
  with_reducible exact Keeps.refl _
  with_reducible exact Keeps.refl _

theorem execPreRegulatorInputReturn_keeps (mv : Nat) (heldUs : Nat) (s : State) :
    KeepsR [] [.pwr, .sto] s (execPreRegulatorInputReturn mv heldUs s) := by
  unfold execPreRegulatorInputReturn
  try dsimp only
  with_reducible refine KeepsR.next ?_
  with_reducible refine Keeps.ite (fun _ => ?_) (fun _ => ?_)
  with_reducible exact Keeps.refl _
  with_reducible refine Keeps.ite (fun _ => ?_) (fun _ => ?_)
  with_reducible refine Keeps.set_sto (by decide) ?_
  with_reducible exact Keeps.refl _
  with_reducible refine (restartAfter_keeps _).then_ (by decide) (by decide) ?_
  with_reducible refine Keeps.set_sto (by decide) ?_
  with_reducible exact Keeps.refl _

theorem holdupEvent_keeps (s : State) :
    Keeps [Reg.PAR_EVT_CNT, Reg.SW_CNT_VAL, Reg.SW_MSEC_STAT, Reg.TLY_CNT0] [.records, .owed, .rings, .evt, .queue, .proxies, .loss, .wire, .out] s (holdupEvent s) := by
  unfold holdupEvent
  try dsimp only
  with_reducible refine (raise_keeps _ _ _ _ _).then_ (by decide) (by decide) ?_
  with_reducible exact Keeps.refl _

theorem execHoldupMeasure_keeps (vh : Nat) (c : Nat) (esr : Nat) (timeout : Bool) (s : State) :
    KeepsR [Reg.PAR_EVT_CNT, Reg.SW_CNT_VAL, Reg.SW_MSEC_STAT, Reg.STO_WB_STATUS, Reg.STO_HOLD_MEAS, Reg.TLY_CNT0] [.records, .owed, .rings, .evt, .queue, .proxies, .loss, .wire, .sto, .out] s (execHoldupMeasure vh c esr timeout s) := by
  unfold execHoldupMeasure
  try dsimp only
  with_reducible refine KeepsR.whileCd ?_
  with_reducible refine Keeps.ite (fun _ => ?_) (fun _ => ?_)
  with_reducible exact Keeps.refl _
  with_reducible refine (raise_keeps _ _ _ _ _).then_ (by decide) (by decide) ?_
  with_reducible refine (holdupEvent_keeps _).then_ (by decide) (by decide) ?_
  with_reducible refine Keeps.wr (in_STO_WB_STATUS_GRANT) (by decide) ?_
  with_reducible refine Keeps.put (in_STO_WB_STATUS_WB_OK) (by decide) ?_
  with_reducible refine Keeps.wr (in_STO_HOLD_MEAS_ESR_MEAS) (by decide) ?_
  with_reducible refine Keeps.wr (in_STO_HOLD_MEAS_C_MEAS) (by decide) ?_
  with_reducible refine Keeps.wr (in_STO_HOLD_MEAS_MRESULT) (by decide) ?_
  with_reducible refine Keeps.set_sto (by decide) ?_
  with_reducible exact Keeps.refl _

theorem execHoldLow_keeps (mv : Nat) (heldUs : Nat) (s : State) :
    KeepsR [Reg.PAR_EVT_CNT, Reg.SW_CNT_VAL, Reg.SW_MSEC_STAT, Reg.STO_HEALTH, Reg.TLY_CNT0] [.records, .owed, .rings, .evt, .queue, .proxies, .loss, .wire, .out] s (execHoldLow mv heldUs s) := by
  unfold execHoldLow
  try dsimp only
  with_reducible refine KeepsR.next ?_
  with_reducible refine Keeps.ite (fun _ => ?_) (fun _ => ?_)
  with_reducible exact Keeps.refl _
  with_reducible refine Keeps.ite (fun _ => ?_) (fun _ => ?_)
  with_reducible refine Keeps.ite (fun _ => ?_) (fun _ => ?_)
  with_reducible refine Keeps.put (in_STO_HEALTH_HOLD_LOW) (by decide) ?_
  with_reducible exact Keeps.refl _
  with_reducible exact Keeps.refl _
  with_reducible refine Keeps.ite (fun _ => ?_) (fun _ => ?_)
  with_reducible refine (holdupEvent_keeps _).then_ (by decide) (by decide) ?_
  with_reducible refine Keeps.put (in_STO_HEALTH_HOLD_LOW) (by decide) ?_
  with_reducible exact Keeps.refl _
  with_reducible exact Keeps.refl _

end Sys2Proof.Machine
end

