-- ==== Sys2Proof/Laws/Proxy.lean ====
section
/-! SUPPORT.
What the operations of Machine/Proxy.lean change, and that they keep a sound state sound.
-/

namespace Sys2Proof.Machine

theorem proxyDrop_keeps (s : State) :
    Keeps [Reg.CHN_CNT] [] s (proxyDrop s) := by
  unfold proxyDrop
  try dsimp only
  with_reducible refine Keeps.bump (in_CHN_CNT_PROXY_DROP) (by decide) ?_
  with_reducible exact Keeps.refl _

theorem onRemote_keeps {w : List Span} {g : List Part} {typ : Nat} {sec : Bool} {s : State} {port : Nat} {f : List Byte} {act : Zk → State → State} (hw : regsWithin [Reg.CHN_CNT, Reg.SW_CNT_VAL] w = true)
    (hg : within [Part.wire, .out] g = true)
    (hf : ∀ z t, Keeps w g t (act z t)) :
    Keeps w g s (onRemote typ sec s port f act) := by
  have k : ∀ {t u : State}, Keeps [Reg.CHN_CNT, Reg.SW_CNT_VAL] [Part.wire, .out] t u → Keeps w g t u :=
    fun h => h.mono (of_regsWithin hw) (of_within hg)
  unfold onRemote
  refine onFrame_keeps (regsWithin_trans hw (by decide)) (within_trans hg (by decide)) (fun _ _ => Keeps.ite (fun _ => ?_) fun _ => Keeps.ite (fun _ => hf _ _) (fun _ => Keeps.refl _))
  exact k ((swCount_keeps _ _ _ _ _).then_ (by decide) (by decide) (Keeps.refl _))

theorem fromHome_keeps {w : List Span} {g : List Part} {z : Zk} {s : State} {act : State → State} (hw : regsWithin [Reg.CHN_CNT] w = true)
    (hg : within [Part.proxies] g = true)
    (hf : ∀ t, Keeps w g t (act t)) :
    Keeps w g s (fromHome z s act) := by
  have k : ∀ {t u : State}, Keeps [Reg.CHN_CNT] [Part.proxies] t u → Keeps w g t u :=
    fun h => h.mono (of_regsWithin hw) (of_within hg)
  unfold fromHome
  refine Keeps.ite (fun _ => ?_) (fun _ => ?_)
  · exact Keeps.trans (k ((setProxy_keeps _ _ _).then_ (by decide) (by decide) (Keeps.refl _))) (hf _)
  · exact k ((proxyDrop_keeps _).then_ (by decide) (by decide) (Keeps.refl _))

theorem sendRead_keeps (s : State) (p : Nat) (r : ProxyRead) :
    Keeps [Reg.SW_CNT_VAL, Reg.SW_MSEC_STAT] [.wire, .out] s (sendRead s p r) := by
  unfold sendRead
  try dsimp only
  with_reducible refine (sendZilek_keeps _ _ _ _ _ _ _ _).then_ (by decide) (by decide) ?_
  with_reducible exact Keeps.refl _

theorem fetchOne_keeps (p : Nat) (eng : Nat) (ring : Nat) (s : State) :
    Keeps [Reg.SW_CNT_VAL, Reg.SW_MSEC_STAT] [.proxies, .wire, .out] s (fetchOne p eng ring s) := by
  unfold fetchOne
  try dsimp only
  with_reducible refine Keeps.ite (fun _ => ?_) (fun _ => ?_)
  with_reducible exact Keeps.refl _
  with_reducible refine (sendRead_keeps _ _ _).then_ (by decide) (by decide) ?_
  with_reducible refine Keeps.set_proxies rfl (by decide) ?_
  with_reducible refine (setProxy_keeps _ _ _).then_ (by decide) (by decide) ?_
  with_reducible exact Keeps.refl _

theorem fetchAll_keeps (s : State) (p : Nat) :
    Keeps [Reg.SW_CNT_VAL, Reg.SW_MSEC_STAT] [.proxies, .wire, .out] s (fetchAll s p) := by
  unfold fetchAll
  try dsimp only
  with_reducible refine Keeps.foldl (fun _ _ => ?_) _ ?_
  with_reducible refine Keeps.foldl (fun _ _ => ?_) _ ?_
  with_reducible refine (fetchOne_keeps _ _ _ _).then_ (by decide) (by decide) ?_
  with_reducible exact Keeps.refl _
  with_reducible exact Keeps.refl _
  with_reducible exact Keeps.refl _

theorem execDoorbellFrame_keeps (port : Fin 2) (frame : List Byte) (sec : Bool) (s : State) :
    KeepsR [Reg.CHN_CNT, Reg.PAR_EVT_CNT, Reg.RNG_CNT, Reg.SW_CNT_VAL, Reg.SW_MSEC_STAT, Reg.TLY_CNT0] [.records, .owed, .rng, .rings, .evt, .queue, .proxies, .loss, .wire, .out] s (execDoorbellFrame port frame sec s) := by
  unfold execDoorbellFrame
  try dsimp only
  with_reducible refine KeepsR.next ?_
  with_reducible refine onRemote_keeps (by decide) (by decide) (fun _ _ => ?_)
  with_reducible refine fromHome_keeps (by decide) (by decide) (fun _ => ?_)
  with_reducible refine Keeps.ite (fun _ => ?_) (fun _ => ?_)
  with_reducible refine (dbBad_keeps _).then_ (by decide) (by decide) ?_
  with_reducible exact Keeps.refl _
  with_reducible refine Keeps.ite (fun _ => ?_) (fun _ => ?_)
  with_reducible refine (fetchAll_keeps _ _).then_ (by decide) (by decide) ?_
  with_reducible refine (producer_keeps _ _ _ _ _).then_ (by decide) (by decide) ?_
  with_reducible exact Keeps.refl _
  with_reducible refine (consumer_keeps _ _ _ _ _).then_ (by decide) (by decide) ?_
  with_reducible exact Keeps.refl _

theorem execReadRsp_keeps (port : Fin 2) (frame : List Byte) (sec : Bool) (s : State) :
    KeepsR [Reg.CHN_CNT, Reg.SW_CNT_VAL, Reg.SW_MSEC_STAT] [.proxies, .wire, .out] s (execReadRsp port frame sec s) := by
  unfold execReadRsp
  try dsimp only
  with_reducible refine KeepsR.next ?_
  with_reducible refine onRemote_keeps (by decide) (by decide) (fun _ _ => ?_)
  with_reducible refine fromHome_keeps (by decide) (by decide) (fun _ => ?_)
  split
  with_reducible refine (proxyDrop_keeps _).then_ (by decide) (by decide) ?_
  with_reducible exact Keeps.refl _
  with_reducible refine Keeps.ite (fun _ => ?_) (fun _ => ?_)
  with_reducible refine (setProxy_keeps _ _ _).then_ (by decide) (by decide) ?_
  with_reducible exact Keeps.refl _
  with_reducible refine (fetchAll_keeps _ _).then_ (by decide) (by decide) ?_
  with_reducible refine (setProxy_keeps _ _ _).then_ (by decide) (by decide) ?_
  with_reducible exact Keeps.refl _

theorem execReadTimeout_keeps (part : Fin 8) (id : Nat) (s : State) :
    KeepsR [Reg.CHN_ATTACH, Reg.PAR_STATE, Reg.PAR_EVT_CNT, Reg.ACT_CLAIM, Reg.ACT_CNT, Reg.HS_STATE, Reg.HB_STATE, Reg.SV_STATE, Reg.SV_KRES, Reg.SV_CNT2, Reg.LED_STATE, Reg.FIO_CAUSE, Reg.SIN_SCHED, Reg.SIN_STREAMS, Reg.SW_CNT_VAL, Reg.SW_BUF_STATUS, Reg.SW_MSEC_STAT, Reg.INF_CTX_STAT, Reg.INF_CTX_EXEC, Reg.INF_MEM, Reg.STO_WB_STATUS, Reg.TLY_CNT0] [.records, .freeCtr, .owed, .rng, .rings, .evt, .queue, .proxies, .act, .chs, .loss, .sns, .sw, .wire, .sub, .inf, .sto, .sec, .out] s (execReadTimeout part id s) := by
  unfold execReadTimeout
  try dsimp only
  with_reducible refine KeepsR.whileCd ?_
  split
  with_reducible exact Keeps.refl _
  with_reducible refine Keeps.ite (fun _ => ?_) (fun _ => ?_)
  with_reducible exact Keeps.refl _
  with_reducible refine Keeps.ite (fun _ => ?_) (fun _ => ?_)
  with_reducible refine (detach_keeps _ _ _).then_ (by decide) (by decide) ?_
  with_reducible exact Keeps.refl _
  with_reducible refine (sendRead_keeps _ _ _).then_ (by decide) (by decide) ?_
  with_reducible refine (setProxy_keeps _ _ _).then_ (by decide) (by decide) ?_
  with_reducible exact Keeps.refl _

theorem acknowledge_keeps (s : State) (p : Nat) (seq : Nat) :
    Keeps [Reg.SW_CNT_VAL, Reg.SW_MSEC_STAT] [.proxies, .wire, .out] s (acknowledge s p seq) := by
  unfold acknowledge
  try dsimp only
  split
  with_reducible exact Keeps.refl _
  with_reducible refine Keeps.foldl (fun _ _ => ?_) _ ?_
  with_reducible refine (proxyPost_keeps _ _ _ _).then_ (by decide) (by decide) ?_
  with_reducible exact Keeps.refl _
  with_reducible refine (setProxy_keeps _ _ _).then_ (by decide) (by decide) ?_
  with_reducible exact Keeps.refl _

theorem attach_keeps (s : State) (p : Nat) :
    Keeps [Reg.CHN_ATTACH, Reg.PAR_STATE, Reg.PAR_EVT_CNT, Reg.SW_CNT_VAL, Reg.SW_MSEC_STAT, Reg.TLY_CNT0] [.records, .owed, .rings, .evt, .queue, .proxies, .loss, .wire, .out] s (attach s p) := by
  unfold attach
  try dsimp only
  with_reducible refine (raise_keeps _ _ _ _ _).then_ (by decide) (by decide) ?_
  with_reducible refine Keeps.wr (in_PAR_STATE_STATE _) (by decide) ?_
  with_reducible refine (setProxy_keeps _ _ _).then_ (by decide) (by decide) ?_
  with_reducible refine Keeps.orF (in_CHN_ATTACH_ATTACHED) (by decide) ?_
  with_reducible refine Keeps.foldl (fun _ _ => ?_) _ ?_
  with_reducible refine Keeps.setIdx (by decide) rfl rfl ?_
  with_reducible exact Keeps.refl _
  with_reducible exact Keeps.refl _

theorem onAttach_keeps (z : Zk) (port : Nat) (s : State) :
    Keeps [Reg.CHN_ATTACH, Reg.CHN_CNT, Reg.PAR_STATE, Reg.PAR_EVT_CNT, Reg.ACT_CLAIM, Reg.ACT_CNT, Reg.HS_STATE, Reg.HB_STATE, Reg.SV_STATE, Reg.SV_KRES, Reg.SV_CNT2, Reg.LED_STATE, Reg.FIO_CAUSE, Reg.SIN_SCHED, Reg.SIN_STREAMS, Reg.SW_CNT_VAL, Reg.SW_BUF_STATUS, Reg.SW_MSEC_STAT, Reg.INF_CTX_STAT, Reg.INF_CTX_EXEC, Reg.INF_MEM, Reg.STO_WB_STATUS, Reg.TLY_CNT0] [.records, .freeCtr, .owed, .rng, .rings, .evt, .queue, .proxies, .act, .chs, .loss, .sns, .sw, .wire, .sub, .inf, .sto, .sec, .out] s (onAttach z port s) := by
  unfold onAttach
  try dsimp only
  with_reducible refine Keeps.ite (fun _ => ?_) (fun _ => ?_)
  with_reducible refine (sendZilek_keeps _ _ _ _ _ _ _ _).then_ (by decide) (by decide) ?_
  with_reducible exact Keeps.refl _
  with_reducible refine Keeps.ite (fun _ => ?_) (fun _ => ?_)
  with_reducible refine (proxyDrop_keeps _).then_ (by decide) (by decide) ?_
  with_reducible exact Keeps.refl _
  with_reducible refine Keeps.ite (fun _ => ?_) (fun _ => ?_)
  with_reducible refine (sendZilek_keeps _ _ _ _ _ _ _ _).then_ (by decide) (by decide) ?_
  with_reducible exact Keeps.refl _
  with_reducible refine (sendZilek_keeps _ _ _ _ _ _ _ _).then_ (by decide) (by decide) ?_
  with_reducible refine (attach_keeps _ _).then_ (by decide) (by decide) ?_
  with_reducible refine Keeps.ite (fun _ => ?_) (fun _ => ?_)
  with_reducible refine (detach_keeps _ _ _).then_ (by decide) (by decide) ?_
  with_reducible exact Keeps.refl _
  with_reducible exact Keeps.refl _

theorem onHeartbeat_keeps (z : Zk) (port : Nat) (s : State) :
    Keeps [Reg.CHN_ATTACH, Reg.CHN_CNT, Reg.PAR_STATE, Reg.PAR_EVT_CNT, Reg.ACT_CLAIM, Reg.ACT_CNT, Reg.HS_STATE, Reg.HB_STATE, Reg.SV_STATE, Reg.SV_KRES, Reg.SV_CNT2, Reg.LED_STATE, Reg.FIO_CAUSE, Reg.SIN_SCHED, Reg.SIN_STREAMS, Reg.SW_CNT_VAL, Reg.SW_BUF_STATUS, Reg.SW_MSEC_STAT, Reg.INF_CTX_STAT, Reg.INF_CTX_EXEC, Reg.INF_MEM, Reg.STO_WB_STATUS, Reg.TLY_CNT0] [.records, .freeCtr, .owed, .rng, .rings, .evt, .queue, .proxies, .act, .chs, .loss, .sns, .sw, .wire, .sub, .inf, .sto, .sec, .out] s (onHeartbeat z port s) := by
  unfold onHeartbeat
  try dsimp only
  with_reducible refine Keeps.ite (fun _ => ?_) (fun _ => ?_)
  with_reducible refine Keeps.ite (fun _ => ?_) (fun _ => ?_)
  with_reducible refine (onAttach_keeps _ _ _).then_ (by decide) (by decide) ?_
  with_reducible exact Keeps.refl _
  with_reducible refine (proxyDrop_keeps _).then_ (by decide) (by decide) ?_
  with_reducible exact Keeps.refl _
  with_reducible refine fromHome_keeps (by decide) (by decide) (fun _ => ?_)
  with_reducible refine Keeps.ite (fun _ => ?_) (fun _ => ?_)
  with_reducible refine (detach_keeps _ _ _).then_ (by decide) (by decide) ?_
  with_reducible exact Keeps.refl _
  with_reducible refine (acknowledge_keeps _ _ _).then_ (by decide) (by decide) ?_
  with_reducible exact Keeps.refl _

theorem execHeartbeat_keeps (port : Fin 2) (frame : List Byte) (sec : Bool) (s : State) :
    KeepsR [Reg.CHN_ATTACH, Reg.CHN_CNT, Reg.PAR_STATE, Reg.PAR_EVT_CNT, Reg.ACT_CLAIM, Reg.ACT_CNT, Reg.HS_STATE, Reg.HB_STATE, Reg.SV_STATE, Reg.SV_KRES, Reg.SV_CNT2, Reg.LED_STATE, Reg.FIO_CAUSE, Reg.SIN_SCHED, Reg.SIN_STREAMS, Reg.SW_CNT_VAL, Reg.SW_BUF_STATUS, Reg.SW_MSEC_STAT, Reg.INF_CTX_STAT, Reg.INF_CTX_EXEC, Reg.INF_MEM, Reg.STO_WB_STATUS, Reg.TLY_CNT0] [.records, .freeCtr, .owed, .rng, .rings, .evt, .queue, .proxies, .act, .chs, .loss, .sns, .sw, .wire, .sub, .inf, .sto, .sec, .out] s (execHeartbeat port frame sec s) := by
  unfold execHeartbeat
  try dsimp only
  with_reducible refine KeepsR.next ?_
  with_reducible refine onRemote_keeps (by decide) (by decide) (fun _ _ => ?_)
  with_reducible refine (onHeartbeat_keeps _ _ _).then_ (by decide) (by decide) ?_
  with_reducible exact Keeps.refl _

theorem execAttachReq_keeps (port : Fin 2) (frame : List Byte) (sec : Bool) (s : State) :
    KeepsR [Reg.CHN_ATTACH, Reg.CHN_CNT, Reg.PAR_STATE, Reg.PAR_EVT_CNT, Reg.ACT_CLAIM, Reg.ACT_CNT, Reg.HS_STATE, Reg.HB_STATE, Reg.SV_STATE, Reg.SV_KRES, Reg.SV_CNT2, Reg.LED_STATE, Reg.FIO_CAUSE, Reg.SIN_SCHED, Reg.SIN_STREAMS, Reg.SW_CNT_VAL, Reg.SW_BUF_STATUS, Reg.SW_MSEC_STAT, Reg.INF_CTX_STAT, Reg.INF_CTX_EXEC, Reg.INF_MEM, Reg.STO_WB_STATUS, Reg.TLY_CNT0] [.records, .freeCtr, .owed, .rng, .rings, .evt, .queue, .proxies, .act, .chs, .loss, .sns, .sw, .wire, .sub, .inf, .sto, .sec, .out] s (execAttachReq port frame sec s) := by
  unfold execAttachReq
  try dsimp only
  with_reducible refine KeepsR.next ?_
  with_reducible refine onRemote_keeps (by decide) (by decide) (fun _ _ => ?_)
  with_reducible refine (onHeartbeat_keeps _ _ _).then_ (by decide) (by decide) ?_
  with_reducible exact Keeps.refl _

theorem execDetachReq_keeps (port : Fin 2) (frame : List Byte) (sec : Bool) (s : State) :
    KeepsR [Reg.CHN_ATTACH, Reg.CHN_CNT, Reg.PAR_STATE, Reg.PAR_EVT_CNT, Reg.ACT_CLAIM, Reg.ACT_CNT, Reg.HS_STATE, Reg.HB_STATE, Reg.SV_STATE, Reg.SV_KRES, Reg.SV_CNT2, Reg.LED_STATE, Reg.FIO_CAUSE, Reg.SIN_SCHED, Reg.SIN_STREAMS, Reg.SW_CNT_VAL, Reg.SW_BUF_STATUS, Reg.SW_MSEC_STAT, Reg.INF_CTX_STAT, Reg.INF_CTX_EXEC, Reg.INF_MEM, Reg.STO_WB_STATUS, Reg.TLY_CNT0] [.records, .freeCtr, .owed, .rng, .rings, .evt, .queue, .proxies, .act, .chs, .loss, .sns, .sw, .wire, .sub, .inf, .sto, .sec, .out] s (execDetachReq port frame sec s) := by
  unfold execDetachReq
  try dsimp only
  with_reducible refine KeepsR.next ?_
  with_reducible refine onRemote_keeps (by decide) (by decide) (fun _ _ => ?_)
  with_reducible refine (onHeartbeat_keeps _ _ _).then_ (by decide) (by decide) ?_
  with_reducible exact Keeps.refl _

theorem execHeartbeatSend_keeps (part : Fin 8) (s : State) :
    KeepsR [Reg.SW_CNT_VAL, Reg.SW_MSEC_STAT] [.proxies, .wire, .out] s (execHeartbeatSend part s) := by
  unfold execHeartbeatSend
  try dsimp only
  with_reducible refine KeepsR.whileCd ?_
  with_reducible refine Keeps.ite (fun _ => ?_) (fun _ => ?_)
  with_reducible refine Keeps.ite (fun _ => ?_) (fun _ => ?_)
  with_reducible refine (sendShadow_keeps _ _).then_ (by decide) (by decide) ?_
  with_reducible refine (sendZilek_keeps _ _ _ _ _ _ _ _).then_ (by decide) (by decide) ?_
  with_reducible exact Keeps.refl _
  with_reducible refine (sendZilek_keeps _ _ _ _ _ _ _ _).then_ (by decide) (by decide) ?_
  with_reducible exact Keeps.refl _
  with_reducible exact Keeps.refl _

theorem execDetachTimeout_keeps (part : Fin 8) (s : State) :
    KeepsR [Reg.CHN_ATTACH, Reg.PAR_STATE, Reg.PAR_EVT_CNT, Reg.ACT_CLAIM, Reg.ACT_CNT, Reg.HS_STATE, Reg.HB_STATE, Reg.SV_STATE, Reg.SV_KRES, Reg.SV_CNT2, Reg.LED_STATE, Reg.FIO_CAUSE, Reg.SIN_SCHED, Reg.SIN_STREAMS, Reg.SW_CNT_VAL, Reg.SW_BUF_STATUS, Reg.SW_MSEC_STAT, Reg.INF_CTX_STAT, Reg.INF_CTX_EXEC, Reg.INF_MEM, Reg.STO_WB_STATUS, Reg.TLY_CNT0] [.records, .freeCtr, .owed, .rng, .rings, .evt, .queue, .proxies, .act, .chs, .loss, .sns, .sw, .wire, .sub, .inf, .sto, .sec, .out] s (execDetachTimeout part s) := by
  unfold execDetachTimeout
  try dsimp only
  with_reducible refine KeepsR.whileCd ?_
  with_reducible refine Keeps.ite (fun _ => ?_) (fun _ => ?_)
  with_reducible refine (detach_keeps _ _ _).then_ (by decide) (by decide) ?_
  with_reducible exact Keeps.refl _
  with_reducible exact Keeps.refl _

theorem execWriteRetransmit_keeps (part : Fin 8) (s : State) :
    KeepsR [Reg.SW_CNT_VAL, Reg.SW_MSEC_STAT] [.proxies, .wire, .out] s (execWriteRetransmit part s) := by
  unfold execWriteRetransmit
  try dsimp only
  with_reducible refine KeepsR.whileCd ?_
  with_reducible refine Keeps.ite (fun _ => ?_) (fun _ => ?_)
  with_reducible refine Keeps.foldl (fun _ _ => ?_) _ ?_
  with_reducible refine (sendZilek_keeps _ _ _ _ _ _ _ _).then_ (by decide) (by decide) ?_
  with_reducible exact Keeps.refl _
  with_reducible refine (setProxy_keeps _ _ _).then_ (by decide) (by decide) ?_
  with_reducible exact Keeps.refl _
  with_reducible exact Keeps.refl _

end Sys2Proof.Machine
end

