-- ==== Sys2Proof/Laws/Subnets.lean ====
section
/-! SUPPORT.
What the operations of Machine/Subnets.lean change, and that they keep a sound state sound.
-/

namespace Sys2Proof.Machine

theorem plcaChange_keeps (s : State) (g : Nat) (st : Bool) :
    Keeps [Reg.PAR_EVT_CNT, Reg.SW_CNT_VAL, Reg.SW_MSEC_STAT, Reg.SUB_T1S_STAT, Reg.TLY_CNT0] [.records, .owed, .rings, .evt, .queue, .proxies, .loss, .wire, .out] s (plcaChange s g st) := by
  unfold plcaChange
  try dsimp only
  with_reducible refine (raise_keeps _ _ _ _ _).then_ (by decide) (by decide) ?_
  with_reducible refine Keeps.put (in_SUB_T1S_STAT_PLCA_STATUS _) (by decide) ?_
  with_reducible exact Keeps.refl _

theorem execPlcaBeaconLoss_keeps (seg : Fin 4) (s : State) :
    KeepsR [Reg.PAR_EVT_CNT, Reg.SW_CNT_VAL, Reg.SW_MSEC_STAT, Reg.SUB_T1S_STAT, Reg.TLY_CNT0] [.records, .owed, .rings, .evt, .queue, .proxies, .loss, .wire, .out] s (execPlcaBeaconLoss seg s) := by
  unfold execPlcaBeaconLoss
  try dsimp only
  with_reducible refine KeepsR.whileCd ?_
  with_reducible refine Keeps.ite (fun _ => ?_) (fun _ => ?_)
  with_reducible refine (plcaChange_keeps _ _ _).then_ (by decide) (by decide) ?_
  with_reducible exact Keeps.refl _
  with_reducible exact Keeps.refl _

theorem execPlcaBeaconReturn_keeps (seg : Fin 4) (s : State) :
    KeepsR [Reg.PAR_EVT_CNT, Reg.SW_CNT_VAL, Reg.SW_MSEC_STAT, Reg.SUB_T1S_STAT, Reg.TLY_CNT0] [.records, .owed, .rings, .evt, .queue, .proxies, .loss, .wire, .out] s (execPlcaBeaconReturn seg s) := by
  unfold execPlcaBeaconReturn
  try dsimp only
  with_reducible refine KeepsR.whileCd ?_
  with_reducible refine Keeps.ite (fun _ => ?_) (fun _ => ?_)
  with_reducible refine (plcaChange_keeps _ _ _).then_ (by decide) (by decide) ?_
  with_reducible exact Keeps.refl _
  with_reducible exact Keeps.refl _

theorem execT1sSleepReq_keeps (seg : Fin 4) (s : State) :
    KeepsR [Reg.PAR_EVT_CNT, Reg.SW_CNT_VAL, Reg.SW_MSEC_STAT, Reg.TLY_CNT0] [.records, .owed, .rings, .evt, .queue, .proxies, .loss, .wire, .out] s (execT1sSleepReq seg s) := by
  unfold execT1sSleepReq
  try dsimp only
  with_reducible refine KeepsR.whileCd ?_
  with_reducible refine Keeps.ite (fun _ => ?_) (fun _ => ?_)
  with_reducible refine (emit_keeps _ _).then_ (by decide) (by decide) ?_
  with_reducible refine (raise_keeps _ _ _ _ _).then_ (by decide) (by decide) ?_
  with_reducible exact Keeps.refl _
  with_reducible exact Keeps.refl _

theorem setTun_keeps (s : State) (t : Nat) (x : Tun) :
    Keeps [] [.sub] s (setTun s t x) := by
  unfold setTun
  try dsimp only
  with_reducible refine Keeps.set_sub (by decide) ?_
  with_reducible exact Keeps.refl _

theorem tunSend_keeps (s : State) (t : Nat) :
    Keeps [Reg.SW_CNT_VAL, Reg.SW_BUF_STATUS] [.loss, .sw, .wire, .sub] s (tunSend s t) := by
  unfold tunSend
  try dsimp only
  with_reducible refine Keeps.ite (fun _ => ?_) (fun _ => ?_)
  with_reducible exact Keeps.refl _
  with_reducible refine Keeps.foldl (fun _ _ => ?_) _ ?_
  with_reducible refine (copyTo_keeps _ _ _).then_ (by decide) (by decide) ?_
  with_reducible exact Keeps.refl _
  with_reducible refine (swCount_keeps _ _ _ _ _).then_ (by decide) (by decide) ?_
  with_reducible refine (swCount_keeps _ _ _ _ _).then_ (by decide) (by decide) ?_
  with_reducible refine (setTun_keeps _ _ _).then_ (by decide) (by decide) ?_
  with_reducible exact Keeps.refl _

theorem tunTake_keeps (b : Brand) (m : List Byte) (s : State) (t : Nat) :
    Keeps [Reg.SW_CNT_VAL, Reg.SW_BUF_STATUS, Reg.SUB_CNT1] [.loss, .sw, .wire, .sub] s (tunTake b m s t) := by
  unfold tunTake
  try dsimp only
  with_reducible refine Keeps.ite (fun _ => ?_) (fun _ => ?_)
  with_reducible refine Keeps.bump (in_SUB_CNT1_TUN_TOOBIG) (by decide) ?_
  with_reducible exact Keeps.refl _
  with_reducible refine Keeps.ite (fun _ => ?_) (fun _ => ?_)
  with_reducible refine (tunSend_keeps _ _).then_ (by decide) (by decide) ?_
  with_reducible refine (setTun_keeps _ _ _).then_ (by decide) (by decide) ?_
  with_reducible refine Keeps.ite (fun _ => ?_) (fun _ => ?_)
  with_reducible exact Keeps.refl _
  with_reducible refine (tunSend_keeps _ _).then_ (by decide) (by decide) ?_
  with_reducible exact Keeps.refl _
  with_reducible refine (setTun_keeps _ _ _).then_ (by decide) (by decide) ?_
  with_reducible refine Keeps.ite (fun _ => ?_) (fun _ => ?_)
  with_reducible exact Keeps.refl _
  with_reducible refine (tunSend_keeps _ _).then_ (by decide) (by decide) ?_
  with_reducible exact Keeps.refl _

theorem tunnelOut_keeps (s : State) (busBit : Nat) (b : Brand) (m : List Byte) :
    Keeps [Reg.SW_CNT_VAL, Reg.SW_BUF_STATUS, Reg.SUB_CNT1] [.loss, .sw, .wire, .sub] s (tunnelOut s busBit b m) := by
  unfold tunnelOut
  try dsimp only
  with_reducible refine Keeps.foldl (fun _ _ => ?_) _ ?_
  with_reducible refine (tunTake_keeps _ _ _ _).then_ (by decide) (by decide) ?_
  with_reducible exact Keeps.refl _
  with_reducible exact Keeps.refl _

theorem execTunnelFlush_keeps (tun : Fin 8) (s : State) :
    KeepsR [Reg.SW_CNT_VAL, Reg.SW_BUF_STATUS] [.loss, .sw, .wire, .sub] s (execTunnelFlush tun s) := by
  unfold execTunnelFlush
  try dsimp only
  with_reducible refine KeepsR.whileCd ?_
  with_reducible refine (tunSend_keeps _ _).then_ (by decide) (by decide) ?_
  with_reducible exact Keeps.refl _

theorem deliver_keeps (s : State) (kind : Nat) (idx : Nat) (ring : Nat) (b : Brand) (m : List Byte) :
    Keeps [Reg.SW_CNT_VAL, Reg.SW_MSEC_STAT, Reg.SUB_CNT0] [.memory, .records, .owed, .banks, .rng, .rings, .proxies, .wire, .sub, .out] s (deliver s kind idx ring b m).1 := by
  unfold deliver
  try dsimp only
  split
  with_reducible refine Keeps.bump (in_SUB_CNT0_RX_NOBUF) (by decide) ?_
  with_reducible exact Keeps.refl _
  split
  with_reducible refine Keeps.bump (in_SUB_CNT0_RX_NOBUF) (by decide) ?_
  with_reducible exact Keeps.refl _
  with_reducible refine (complete_keeps _ _ _ _ _ _).then_ (by decide) (by decide) ?_
  with_reducible refine (storeData_keeps _ _ _ _).then_ (by decide) (by decide) ?_
  with_reducible refine Keeps.set_sub (by decide) ?_
  with_reducible exact Keeps.refl _

theorem canChange_keeps (k : Nat) (old : Nat) (s : State) :
    Keeps [Reg.PAR_EVT_CNT, Reg.SW_CNT_VAL, Reg.SW_MSEC_STAT, Reg.SUB_CAN_STAT, Reg.TLY_CNT0] [.records, .owed, .rings, .evt, .queue, .proxies, .loss, .wire, .sub, .out] s (canChange k old s) := by
  unfold canChange
  try dsimp only
  with_reducible refine Keeps.ite (fun _ => ?_) (fun _ => ?_)
  with_reducible refine (showCan_keeps _ _).then_ (by decide) (by decide) ?_
  with_reducible exact Keeps.refl _
  with_reducible refine (raise_keeps _ _ _ _ _).then_ (by decide) (by decide) ?_
  with_reducible refine (showCan_keeps _ _).then_ (by decide) (by decide) ?_
  with_reducible exact Keeps.refl _

theorem busOff_keeps (s : State) (k : Nat) :
    Keeps [Reg.SW_CNT_VAL, Reg.SW_MSEC_STAT, Reg.SUB_CNT2] [.records, .owed, .rng, .rings, .proxies, .wire, .sub, .out] s (busOff s k) := by
  unfold busOff
  try dsimp only
  with_reducible refine (setCan_keeps _ _ _).then_ (by decide) (by decide) ?_
  with_reducible refine (endCan_keeps _ _ _).then_ (by decide) (by decide) ?_
  with_reducible exact Keeps.refl _

theorem txError_keeps (s : State) (k : Nat) :
    Keeps [Reg.SW_CNT_VAL, Reg.SW_MSEC_STAT, Reg.SUB_CAN_STAT, Reg.SUB_CNT2] [.records, .owed, .rng, .rings, .proxies, .wire, .sub, .out] s (txError s k) := by
  unfold txError
  try dsimp only
  with_reducible refine Keeps.ite (fun _ => ?_) (fun _ => ?_)
  with_reducible refine (busOff_keeps _ _).then_ (by decide) (by decide) ?_
  with_reducible refine Keeps.wr (in_SUB_CAN_STAT_TEC _) (by decide) ?_
  with_reducible exact Keeps.refl _
  with_reducible refine Keeps.wr (in_SUB_CAN_STAT_TEC _) (by decide) ?_
  with_reducible exact Keeps.refl _

theorem rxGood_keeps (s : State) (k : Nat) :
    Keeps [Reg.SUB_CAN_STAT] [.freeCtr] s (rxGood s k) := by
  unfold rxGood
  try dsimp only
  with_reducible refine Keeps.ite (fun _ => ?_) (fun _ => ?_)
  with_reducible refine Keeps.wr (in_SUB_CAN_STAT_REC _) (by decide) ?_
  with_reducible refine (freeNext_keeps _).then_ (by decide) (by decide) ?_
  with_reducible exact Keeps.refl _
  with_reducible refine Keeps.wr (in_SUB_CAN_STAT_REC _) (by decide) ?_
  with_reducible exact Keeps.refl _

theorem canReceive_keeps (s : State) (k : Nat) (m : List Byte) :
    Keeps [Reg.SW_CNT_VAL, Reg.SW_BUF_STATUS, Reg.SW_MSEC_STAT, Reg.SUB_CNT0, Reg.SUB_CNT1] [.memory, .records, .owed, .banks, .rng, .rings, .proxies, .loss, .sw, .wire, .sub, .out] s (canReceive s k m) := by
  unfold canReceive
  try dsimp only
  split
  with_reducible refine Keeps.bump (in_SUB_CNT0_FILT_MISS) (by decide) ?_
  with_reducible exact Keeps.refl _
  with_reducible refine Keeps.ite (fun _ => ?_) (fun _ => ?_)
  with_reducible refine (tunnelOut_keeps _ _ _ _).then_ (by decide) (by decide) ?_
  with_reducible refine Keeps.ite (fun _ => ?_) (fun _ => ?_)
  split
  with_reducible refine (deliver_keeps _ _ _ _ _ _).then_ (by decide) (by decide) ?_
  with_reducible refine (setCan_keeps _ _ _).then_ (by decide) (by decide) ?_
  with_reducible exact Keeps.refl _
  with_reducible refine (setCan_keeps _ _ _).then_ (by decide) (by decide) ?_
  with_reducible exact Keeps.refl _
  with_reducible refine (setCan_keeps _ _ _).then_ (by decide) (by decide) ?_
  split
  with_reducible refine (deliver_keeps _ _ _ _ _ _).then_ (by decide) (by decide) ?_
  with_reducible refine (setCan_keeps _ _ _).then_ (by decide) (by decide) ?_
  with_reducible exact Keeps.refl _
  with_reducible refine (setCan_keeps _ _ _).then_ (by decide) (by decide) ?_
  with_reducible exact Keeps.refl _
  with_reducible refine Keeps.ite (fun _ => ?_) (fun _ => ?_)
  split
  with_reducible refine (deliver_keeps _ _ _ _ _ _).then_ (by decide) (by decide) ?_
  with_reducible refine (setCan_keeps _ _ _).then_ (by decide) (by decide) ?_
  with_reducible exact Keeps.refl _
  with_reducible refine (setCan_keeps _ _ _).then_ (by decide) (by decide) ?_
  with_reducible exact Keeps.refl _
  with_reducible refine (setCan_keeps _ _ _).then_ (by decide) (by decide) ?_
  split
  with_reducible refine (deliver_keeps _ _ _ _ _ _).then_ (by decide) (by decide) ?_
  with_reducible refine (setCan_keeps _ _ _).then_ (by decide) (by decide) ?_
  with_reducible exact Keeps.refl _
  with_reducible refine (setCan_keeps _ _ _).then_ (by decide) (by decide) ?_
  with_reducible exact Keeps.refl _

theorem failOnce_keeps (s : State) (k : Nat) :
    Keeps [Reg.SW_CNT_VAL, Reg.SW_MSEC_STAT] [.records, .owed, .rng, .rings, .proxies, .wire, .sub, .out] s (failOnce s k) := by
  unfold failOnce
  try dsimp only
  split
  with_reducible refine Keeps.ite (fun _ => ?_) (fun _ => ?_)
  with_reducible refine (complete_keeps _ _ _ _ _ _).then_ (by decide) (by decide) ?_
  with_reducible refine (setCan_keeps _ _ _).then_ (by decide) (by decide) ?_
  with_reducible exact Keeps.refl _
  with_reducible exact Keeps.refl _
  with_reducible exact Keeps.refl _

theorem sleepAfter_keeps (ev : CanEv) (k : Nat) (s : State) :
    Keeps [Reg.SW_CNT_VAL, Reg.SW_MSEC_STAT, Reg.SUB_CAN_STAT, Reg.SUB_CNT2] [.records, .owed, .rng, .rings, .proxies, .wire, .sub, .out] s (sleepAfter ev k s) := by
  unfold sleepAfter
  try dsimp only
  split
  with_reducible refine (sleepDue_keeps _ _).then_ (by decide) (by decide) ?_
  with_reducible exact Keeps.refl _
  with_reducible refine (sleepDue_keeps _ _).then_ (by decide) (by decide) ?_
  with_reducible exact Keeps.refl _
  with_reducible exact Keeps.refl _

theorem execCanFrameRx_keeps (bus : Fin 4) (ev : CanEv) (s : State) :
    KeepsR [Reg.PAR_EVT_CNT, Reg.SW_CNT_VAL, Reg.SW_BUF_STATUS, Reg.SW_MSEC_STAT, Reg.SUB_CAN_STAT, Reg.SUB_CNT0, Reg.SUB_CNT1, Reg.SUB_CNT2, Reg.TLY_CNT0] [.memory, .records, .freeCtr, .owed, .banks, .rng, .rings, .evt, .queue, .proxies, .loss, .sw, .wire, .sub, .out] s (execCanFrameRx bus ev s) := by
  unfold execCanFrameRx
  try dsimp only
  with_reducible refine KeepsR.next ?_
  with_reducible refine Keeps.ite (fun _ => ?_) (fun _ => ?_)
  with_reducible exact Keeps.refl _
  with_reducible refine (sleepAfter_keeps _ _ _).then_ (by decide) (by decide) ?_
  split
  with_reducible refine Keeps.ite (fun _ => ?_) (fun _ => ?_)
  with_reducible exact Keeps.refl _
  with_reducible refine (canChange_keeps _ _ _).then_ (by decide) (by decide) ?_
  with_reducible refine (canReceive_keeps _ _ _).then_ (by decide) (by decide) ?_
  with_reducible refine (rxGood_keeps _ _).then_ (by decide) (by decide) ?_
  with_reducible exact Keeps.refl _
  with_reducible refine (canChange_keeps _ _ _).then_ (by decide) (by decide) ?_
  with_reducible refine Keeps.bump (in_SUB_CAN_STAT_REC _) (by decide) ?_
  with_reducible exact Keeps.refl _
  with_reducible refine (canChange_keeps _ _ _).then_ (by decide) (by decide) ?_
  with_reducible refine Keeps.bump (in_SUB_CAN_STAT_REC _) (by decide) ?_
  with_reducible exact Keeps.refl _
  with_reducible refine (canChange_keeps _ _ _).then_ (by decide) (by decide) ?_
  with_reducible refine (txError_keeps _ _).then_ (by decide) (by decide) ?_
  with_reducible refine (failOnce_keeps _ _).then_ (by decide) (by decide) ?_
  with_reducible exact Keeps.refl _
  with_reducible refine (failOnce_keeps _ _).then_ (by decide) (by decide) ?_
  with_reducible exact Keeps.refl _

theorem execBusoffRecovered_keeps (bus : Fin 4) (s : State) :
    KeepsR [Reg.PAR_EVT_CNT, Reg.SW_CNT_VAL, Reg.SW_MSEC_STAT, Reg.SUB_CAN_STAT, Reg.TLY_CNT0] [.records, .owed, .rings, .evt, .queue, .proxies, .loss, .wire, .sub, .out] s (execBusoffRecovered bus s) := by
  unfold execBusoffRecovered
  try dsimp only
  with_reducible refine KeepsR.next ?_
  with_reducible refine Keeps.ite (fun _ => ?_) (fun _ => ?_)
  with_reducible refine (canChange_keeps _ _ _).then_ (by decide) (by decide) ?_
  with_reducible refine Keeps.wr (in_SUB_CAN_STAT_REC _) (by decide) ?_
  with_reducible refine Keeps.wr (in_SUB_CAN_STAT_TEC _) (by decide) ?_
  with_reducible refine (setCan_keeps _ _ _).then_ (by decide) (by decide) ?_
  with_reducible exact Keeps.refl _
  with_reducible exact Keeps.refl _

theorem execCanTx_keeps (h : DHdr) (b : List Byte) (s : State) :
    KeepsR [Reg.PAR_FAULT, Reg.PAR_EVT_CNT, Reg.SW_CNT_VAL, Reg.SW_MSEC_STAT, Reg.TLY_CNT0] [.records, .freeCtr, .owed, .banks, .rng, .rings, .evt, .queue, .proxies, .loss, .wire, .sub, .out] s (execCanTx h b s) := by
  unfold execCanTx
  try dsimp only
  with_reducible refine descr_keeps (by decide) (fun _ => ?_)
  with_reducible refine Keeps.ite (fun _ => ?_) (fun _ => ?_)
  with_reducible refine (complete_keeps _ _ _ _ _ _).then_ (by decide) (by decide) ?_
  with_reducible exact Keeps.refl _
  with_reducible refine Keeps.ite (fun _ => ?_) (fun _ => ?_)
  with_reducible refine (complete_keeps _ _ _ _ _ _).then_ (by decide) (by decide) ?_
  with_reducible exact Keeps.refl _
  with_reducible refine Keeps.ite (fun _ => ?_) (fun _ => ?_)
  with_reducible refine (complete_keeps _ _ _ _ _ _).then_ (by decide) (by decide) ?_
  with_reducible exact Keeps.refl _
  with_reducible refine Keeps.ite (fun _ => ?_) (fun _ => ?_)
  with_reducible refine (complete_keeps _ _ _ _ _ _).then_ (by decide) (by decide) ?_
  with_reducible exact Keeps.refl _
  with_reducible refine Keeps.ite (fun _ => ?_) (fun _ => ?_)
  with_reducible refine Keeps.ite (fun _ => ?_) (fun _ => ?_)
  with_reducible refine (complete_keeps _ _ _ _ _ _).then_ (by decide) (by decide) ?_
  with_reducible exact Keeps.refl _
  with_reducible refine Keeps.ite (fun _ => ?_) (fun _ => ?_)
  with_reducible refine (complete_keeps _ _ _ _ _ _).then_ (by decide) (by decide) ?_
  with_reducible exact Keeps.refl _
  with_reducible refine (setCan_keeps _ _ _).then_ (by decide) (by decide) ?_
  with_reducible exact Keeps.refl _
  with_reducible refine Keeps.trans ?_ (withData_keeps (by decide) (by decide) (fun _ _ => ?_))
  with_reducible exact Keeps.refl _
  with_reducible refine Keeps.ite (fun _ => ?_) (fun _ => ?_)
  with_reducible refine (complete_keeps _ _ _ _ _ _).then_ (by decide) (by decide) ?_
  with_reducible exact Keeps.refl _
  with_reducible refine Keeps.ite (fun _ => ?_) (fun _ => ?_)
  with_reducible refine (complete_keeps _ _ _ _ _ _).then_ (by decide) (by decide) ?_
  with_reducible exact Keeps.refl _
  with_reducible refine (setCan_keeps _ _ _).then_ (by decide) (by decide) ?_
  with_reducible exact Keeps.refl _

theorem canSent_keeps (s : State) (k : Nat) :
    Keeps [Reg.PAR_EVT_CNT, Reg.SW_CNT_VAL, Reg.SW_MSEC_STAT, Reg.SUB_CAN_STAT, Reg.TLY_CNT0] [.records, .owed, .rng, .rings, .evt, .queue, .proxies, .loss, .wire, .sub, .out] s (canSent s k) := by
  unfold canSent
  try dsimp only
  split
  with_reducible exact Keeps.refl _
  with_reducible refine (canChange_keeps _ _ _).then_ (by decide) (by decide) ?_
  split
  with_reducible refine (complete_keeps _ _ _ _ _ _).then_ (by decide) (by decide) ?_
  with_reducible refine (setCan_keeps _ _ _).then_ (by decide) (by decide) ?_
  with_reducible refine (emit_keeps _ _).then_ (by decide) (by decide) ?_
  with_reducible refine Keeps.wr (in_SUB_CAN_STAT_TEC _) (by decide) ?_
  with_reducible exact Keeps.refl _
  with_reducible refine (setCan_keeps _ _ _).then_ (by decide) (by decide) ?_
  with_reducible refine (emit_keeps _ _).then_ (by decide) (by decide) ?_
  with_reducible refine Keeps.wr (in_SUB_CAN_STAT_TEC _) (by decide) ?_
  with_reducible exact Keeps.refl _

theorem execBusFrameSent_keeps (lin : Bool) (bus : Fin 6) (s : State) :
    KeepsR [Reg.PAR_EVT_CNT, Reg.SW_CNT_VAL, Reg.SW_MSEC_STAT, Reg.SUB_CAN_STAT, Reg.SUB_CNT2, Reg.TLY_CNT0] [.records, .owed, .rng, .rings, .evt, .queue, .proxies, .loss, .wire, .sub, .out] s (execBusFrameSent lin bus s) := by
  unfold execBusFrameSent
  try dsimp only
  with_reducible refine KeepsR.next ?_
  with_reducible refine Keeps.ite (fun _ => ?_) (fun _ => ?_)
  split
  with_reducible refine Keeps.ite (fun _ => ?_) (fun _ => ?_)
  with_reducible refine (complete_keeps _ _ _ _ _ _).then_ (by decide) (by decide) ?_
  with_reducible refine (setLin_keeps _ _ _).then_ (by decide) (by decide) ?_
  with_reducible exact Keeps.refl _
  with_reducible exact Keeps.refl _
  with_reducible exact Keeps.refl _
  with_reducible refine Keeps.ite (fun _ => ?_) (fun _ => ?_)
  with_reducible refine (sleepDue_keeps _ _).then_ (by decide) (by decide) ?_
  with_reducible refine (canSent_keeps _ _).then_ (by decide) (by decide) ?_
  with_reducible exact Keeps.refl _
  with_reducible exact Keeps.refl _

theorem execBusTxTimeout_keeps (lin : Bool) (bus : Fin 6) (s : State) :
    KeepsR [Reg.SW_CNT_VAL, Reg.SW_MSEC_STAT, Reg.SUB_CAN_STAT, Reg.SUB_CNT2] [.records, .owed, .rng, .rings, .proxies, .wire, .sub, .out] s (execBusTxTimeout lin bus s) := by
  unfold execBusTxTimeout
  try dsimp only
  with_reducible refine KeepsR.whileCd ?_
  with_reducible refine Keeps.ite (fun _ => ?_) (fun _ => ?_)
  split
  with_reducible refine Keeps.ite (fun _ => ?_) (fun _ => ?_)
  with_reducible refine (complete_keeps _ _ _ _ _ _).then_ (by decide) (by decide) ?_
  with_reducible refine (setLin_keeps _ _ _).then_ (by decide) (by decide) ?_
  with_reducible exact Keeps.refl _
  with_reducible exact Keeps.refl _
  with_reducible refine Keeps.ite (fun _ => ?_) (fun _ => ?_)
  with_reducible refine (complete_keeps _ _ _ _ _ _).then_ (by decide) (by decide) ?_
  with_reducible refine (setLin_keeps _ _ _).then_ (by decide) (by decide) ?_
  with_reducible exact Keeps.refl _
  with_reducible exact Keeps.refl _
  with_reducible exact Keeps.refl _
  split
  with_reducible refine Keeps.ite (fun _ => ?_) (fun _ => ?_)
  with_reducible refine (sleepDue_keeps _ _).then_ (by decide) (by decide) ?_
  with_reducible refine (complete_keeps _ _ _ _ _ _).then_ (by decide) (by decide) ?_
  with_reducible refine (setCan_keeps _ _ _).then_ (by decide) (by decide) ?_
  with_reducible exact Keeps.refl _
  with_reducible exact Keeps.refl _
  with_reducible exact Keeps.refl _

theorem sendOwn_keeps (s : State) (l : Nat) (id : Nat) :
    Keeps [] [.out] s (sendOwn s l id) := by
  unfold sendOwn
  try dsimp only
  split
  with_reducible refine (emit_keeps _ _).then_ (by decide) (by decide) ?_
  with_reducible refine (emit_keeps _ _).then_ (by decide) (by decide) ?_
  with_reducible exact Keeps.refl _
  with_reducible refine (emit_keeps _ _).then_ (by decide) (by decide) ?_
  with_reducible exact Keeps.refl _

theorem linNext_keeps (s : State) (l : Nat) :
    Keeps [Reg.SUB_LIN_STAT] [.sub, .out] s (linNext s l) := by
  unfold linNext
  try dsimp only
  split
  with_reducible refine Keeps.ite (fun _ => ?_) (fun _ => ?_)
  with_reducible refine (emit_keeps _ _).then_ (by decide) (by decide) ?_
  with_reducible refine (emit_keeps _ _).then_ (by decide) (by decide) ?_
  with_reducible refine (setLin_keeps _ _ _).then_ (by decide) (by decide) ?_
  with_reducible exact Keeps.refl _
  with_reducible refine (emit_keeps _ _).then_ (by decide) (by decide) ?_
  with_reducible refine (setLin_keeps _ _ _).then_ (by decide) (by decide) ?_
  with_reducible exact Keeps.refl _
  split
  with_reducible refine (setLin_keeps _ _ _).then_ (by decide) (by decide) ?_
  with_reducible exact Keeps.refl _
  with_reducible refine Keeps.ite (fun _ => ?_) (fun _ => ?_)
  with_reducible refine (sendOwn_keeps _ _ _).then_ (by decide) (by decide) ?_
  with_reducible refine Keeps.wr (in_SUB_LIN_STAT_SCHED_POS _) (by decide) ?_
  with_reducible refine (setLin_keeps _ _ _).then_ (by decide) (by decide) ?_
  with_reducible exact Keeps.refl _
  with_reducible refine (emit_keeps _ _).then_ (by decide) (by decide) ?_
  with_reducible refine Keeps.wr (in_SUB_LIN_STAT_SCHED_POS _) (by decide) ?_
  with_reducible refine (setLin_keeps _ _ _).then_ (by decide) (by decide) ?_
  with_reducible exact Keeps.refl _

theorem linSlotEnd_keeps (s : State) (l : Nat) :
    Keeps [Reg.SW_CNT_VAL, Reg.SW_MSEC_STAT, Reg.SUB_CNT3] [.records, .owed, .rng, .rings, .proxies, .wire, .sub, .out] s (linSlotEnd s l) := by
  unfold linSlotEnd
  try dsimp only
  split
  with_reducible refine (complete_keeps _ _ _ _ _ _).then_ (by decide) (by decide) ?_
  with_reducible refine (setLin_keeps _ _ _).then_ (by decide) (by decide) ?_
  with_reducible refine Keeps.ite (fun _ => ?_) (fun _ => ?_)
  with_reducible refine Keeps.bump (in_SUB_CNT3_LIN_ERR) (by decide) ?_
  with_reducible exact Keeps.refl _
  with_reducible exact Keeps.refl _
  with_reducible refine (setLin_keeps _ _ _).then_ (by decide) (by decide) ?_
  with_reducible refine Keeps.ite (fun _ => ?_) (fun _ => ?_)
  with_reducible refine Keeps.bump (in_SUB_CNT3_LIN_ERR) (by decide) ?_
  with_reducible exact Keeps.refl _
  with_reducible exact Keeps.refl _

theorem execLinSlot_keeps (bus : Fin 6) (s : State) :
    KeepsR [Reg.SW_CNT_VAL, Reg.SW_MSEC_STAT, Reg.SUB_LIN_STAT, Reg.SUB_CNT3] [.records, .owed, .rng, .rings, .proxies, .wire, .sub, .out] s (execLinSlot bus s) := by
  unfold execLinSlot
  try dsimp only
  with_reducible refine KeepsR.next ?_
  with_reducible refine Keeps.ite (fun _ => ?_) (fun _ => ?_)
  with_reducible refine (linNext_keeps _ _).then_ (by decide) (by decide) ?_
  with_reducible refine (linSlotEnd_keeps _ _).then_ (by decide) (by decide) ?_
  with_reducible exact Keeps.refl _
  with_reducible exact Keeps.refl _

theorem linKick_keeps (s : State) (l : Nat) :
    Keeps [Reg.SW_CNT_VAL, Reg.SW_MSEC_STAT, Reg.SUB_LIN_STAT, Reg.SUB_CNT3] [.records, .owed, .rng, .rings, .proxies, .wire, .sub, .out] s (linKick s l) := by
  unfold linKick
  try dsimp only
  with_reducible refine Keeps.ite (fun _ => ?_) (fun _ => ?_)
  with_reducible refine (linNext_keeps _ _).then_ (by decide) (by decide) ?_
  with_reducible refine (linSlotEnd_keeps _ _).then_ (by decide) (by decide) ?_
  with_reducible exact Keeps.refl _
  with_reducible exact Keeps.refl _

theorem execLinTx_keeps (h : DHdr) (b : List Byte) (s : State) :
    KeepsR [Reg.SW_CNT_VAL, Reg.SW_MSEC_STAT, Reg.SUB_LIN_STAT, Reg.SUB_CNT3] [.records, .owed, .rng, .rings, .proxies, .wire, .sub, .out] s (execLinTx h b s) := by
  unfold execLinTx
  try dsimp only
  with_reducible refine descr_keeps (by decide) (fun _ => ?_)
  with_reducible refine Keeps.ite (fun _ => ?_) (fun _ => ?_)
  with_reducible refine (complete_keeps _ _ _ _ _ _).then_ (by decide) (by decide) ?_
  with_reducible exact Keeps.refl _
  with_reducible refine Keeps.ite (fun _ => ?_) (fun _ => ?_)
  with_reducible refine (complete_keeps _ _ _ _ _ _).then_ (by decide) (by decide) ?_
  with_reducible exact Keeps.refl _
  with_reducible refine Keeps.ite (fun _ => ?_) (fun _ => ?_)
  with_reducible refine (complete_keeps _ _ _ _ _ _).then_ (by decide) (by decide) ?_
  with_reducible exact Keeps.refl _
  with_reducible refine Keeps.ite (fun _ => ?_) (fun _ => ?_)
  with_reducible refine (complete_keeps _ _ _ _ _ _).then_ (by decide) (by decide) ?_
  with_reducible exact Keeps.refl _
  with_reducible refine (linKick_keeps _ _).then_ (by decide) (by decide) ?_
  with_reducible refine (setLin_keeps _ _ _).then_ (by decide) (by decide) ?_
  with_reducible exact Keeps.refl _

theorem execLinSched_keeps (h : DHdr) (b : List Byte) (s : State) :
    KeepsR [Reg.PAR_FAULT, Reg.PAR_EVT_CNT, Reg.SW_CNT_VAL, Reg.SW_MSEC_STAT, Reg.SUB_LIN_STAT, Reg.SUB_CNT3, Reg.TLY_CNT0] [.records, .freeCtr, .owed, .banks, .rng, .rings, .evt, .queue, .proxies, .loss, .wire, .sub, .out] s (execLinSched h b s) := by
  unfold execLinSched
  try dsimp only
  with_reducible refine descr_keeps (by decide) (fun _ => ?_)
  with_reducible refine Keeps.ite (fun _ => ?_) (fun _ => ?_)
  with_reducible refine (complete_keeps _ _ _ _ _ _).then_ (by decide) (by decide) ?_
  with_reducible exact Keeps.refl _
  with_reducible refine Keeps.ite (fun _ => ?_) (fun _ => ?_)
  with_reducible refine (complete_keeps _ _ _ _ _ _).then_ (by decide) (by decide) ?_
  with_reducible exact Keeps.refl _
  with_reducible refine Keeps.ite (fun _ => ?_) (fun _ => ?_)
  with_reducible refine (complete_keeps _ _ _ _ _ _).then_ (by decide) (by decide) ?_
  with_reducible exact Keeps.refl _
  with_reducible refine Keeps.ite (fun _ => ?_) (fun _ => ?_)
  with_reducible refine (complete_keeps _ _ _ _ _ _).then_ (by decide) (by decide) ?_
  with_reducible exact Keeps.refl _
  with_reducible refine Keeps.ite (fun _ => ?_) (fun _ => ?_)
  with_reducible refine (complete_keeps _ _ _ _ _ _).then_ (by decide) (by decide) ?_
  with_reducible refine (linKick_keeps _ _).then_ (by decide) (by decide) ?_
  with_reducible refine (setLin_keeps _ _ _).then_ (by decide) (by decide) ?_
  with_reducible exact Keeps.refl _
  with_reducible refine Keeps.trans ?_ (withData_keeps (by decide) (by decide) (fun _ _ => ?_))
  with_reducible exact Keeps.refl _
  with_reducible refine Keeps.ite (fun _ => ?_) (fun _ => ?_)
  with_reducible refine (complete_keeps _ _ _ _ _ _).then_ (by decide) (by decide) ?_
  with_reducible exact Keeps.refl _
  with_reducible refine (complete_keeps _ _ _ _ _ _).then_ (by decide) (by decide) ?_
  with_reducible refine (linKick_keeps _ _).then_ (by decide) (by decide) ?_
  with_reducible refine (setLin_keeps _ _ _).then_ (by decide) (by decide) ?_
  with_reducible exact Keeps.refl _

theorem setResp_keeps (s : State) (l : Nat) (id : Nat) (r : Option (List Byte × Bool)) :
    Keeps [] [.sub] s (setResp s l id r) := by
  unfold setResp
  try dsimp only
  with_reducible refine Keeps.set_sub (by decide) ?_
  with_reducible exact Keeps.refl _

theorem execLinResp_keeps (h : DHdr) (b : List Byte) (s : State) :
    KeepsR [Reg.SW_CNT_VAL, Reg.SW_MSEC_STAT] [.records, .owed, .rng, .rings, .proxies, .wire, .sub, .out] s (execLinResp h b s) := by
  unfold execLinResp
  try dsimp only
  with_reducible refine descr_keeps (by decide) (fun _ => ?_)
  with_reducible refine Keeps.ite (fun _ => ?_) (fun _ => ?_)
  with_reducible refine (complete_keeps _ _ _ _ _ _).then_ (by decide) (by decide) ?_
  with_reducible exact Keeps.refl _
  with_reducible refine Keeps.ite (fun _ => ?_) (fun _ => ?_)
  with_reducible refine (complete_keeps _ _ _ _ _ _).then_ (by decide) (by decide) ?_
  with_reducible exact Keeps.refl _
  with_reducible refine Keeps.ite (fun _ => ?_) (fun _ => ?_)
  with_reducible refine (complete_keeps _ _ _ _ _ _).then_ (by decide) (by decide) ?_
  with_reducible exact Keeps.refl _
  with_reducible refine (complete_keeps _ _ _ _ _ _).then_ (by decide) (by decide) ?_
  with_reducible refine (setResp_keeps _ _ _ _).then_ (by decide) (by decide) ?_
  with_reducible exact Keeps.refl _

theorem execLinHeaderRx_keeps (bus : Fin 6) (id : Fin 64) (s : State) :
    KeepsR [] [.sub, .out] s (execLinHeaderRx bus id s) := by
  unfold execLinHeaderRx
  try dsimp only
  with_reducible refine KeepsR.next ?_
  with_reducible refine Keeps.ite (fun _ => ?_) (fun _ => ?_)
  with_reducible exact Keeps.refl _
  split
  with_reducible refine (emit_keeps _ _).then_ (by decide) (by decide) ?_
  with_reducible refine (setLin_keeps _ _ _).then_ (by decide) (by decide) ?_
  with_reducible exact Keeps.refl _
  with_reducible refine (setLin_keeps _ _ _).then_ (by decide) (by decide) ?_
  with_reducible exact Keeps.refl _

theorem linReceive_keeps (s : State) (l : Nat) (id : Nat) (classic : Bool) (data : List Byte) :
    Keeps [Reg.SW_CNT_VAL, Reg.SW_BUF_STATUS, Reg.SW_MSEC_STAT, Reg.SUB_CNT0, Reg.SUB_CNT1] [.memory, .records, .owed, .banks, .rng, .rings, .proxies, .loss, .sw, .wire, .sub, .out] s (linReceive s l id classic data) := by
  unfold linReceive
  try dsimp only
  split
  with_reducible refine Keeps.ite (fun _ => ?_) (fun _ => ?_)
  with_reducible refine Keeps.ite (fun _ => ?_) (fun _ => ?_)
  with_reducible refine (tunnelOut_keeps _ _ _ _).then_ (by decide) (by decide) ?_
  with_reducible refine Keeps.ite (fun _ => ?_) (fun _ => ?_)
  with_reducible refine (deliver_keeps _ _ _ _ _ _).then_ (by decide) (by decide) ?_
  with_reducible refine (setLin_keeps _ _ _).then_ (by decide) (by decide) ?_
  with_reducible exact Keeps.refl _
  with_reducible refine (setLin_keeps _ _ _).then_ (by decide) (by decide) ?_
  with_reducible refine (deliver_keeps _ _ _ _ _ _).then_ (by decide) (by decide) ?_
  with_reducible refine (setLin_keeps _ _ _).then_ (by decide) (by decide) ?_
  with_reducible exact Keeps.refl _
  with_reducible refine Keeps.ite (fun _ => ?_) (fun _ => ?_)
  with_reducible refine (deliver_keeps _ _ _ _ _ _).then_ (by decide) (by decide) ?_
  with_reducible refine (setLin_keeps _ _ _).then_ (by decide) (by decide) ?_
  with_reducible exact Keeps.refl _
  with_reducible refine (setLin_keeps _ _ _).then_ (by decide) (by decide) ?_
  with_reducible refine (deliver_keeps _ _ _ _ _ _).then_ (by decide) (by decide) ?_
  with_reducible refine (setLin_keeps _ _ _).then_ (by decide) (by decide) ?_
  with_reducible exact Keeps.refl _
  with_reducible refine (complete_keeps _ _ _ _ _ _).then_ (by decide) (by decide) ?_
  with_reducible refine (setLin_keeps _ _ _).then_ (by decide) (by decide) ?_
  with_reducible refine Keeps.ite (fun _ => ?_) (fun _ => ?_)
  with_reducible refine (tunnelOut_keeps _ _ _ _).then_ (by decide) (by decide) ?_
  with_reducible refine Keeps.ite (fun _ => ?_) (fun _ => ?_)
  with_reducible refine (deliver_keeps _ _ _ _ _ _).then_ (by decide) (by decide) ?_
  with_reducible refine (setLin_keeps _ _ _).then_ (by decide) (by decide) ?_
  with_reducible exact Keeps.refl _
  with_reducible refine (setLin_keeps _ _ _).then_ (by decide) (by decide) ?_
  with_reducible refine (deliver_keeps _ _ _ _ _ _).then_ (by decide) (by decide) ?_
  with_reducible refine (setLin_keeps _ _ _).then_ (by decide) (by decide) ?_
  with_reducible exact Keeps.refl _
  with_reducible refine Keeps.ite (fun _ => ?_) (fun _ => ?_)
  with_reducible refine (deliver_keeps _ _ _ _ _ _).then_ (by decide) (by decide) ?_
  with_reducible refine (setLin_keeps _ _ _).then_ (by decide) (by decide) ?_
  with_reducible exact Keeps.refl _
  with_reducible refine (setLin_keeps _ _ _).then_ (by decide) (by decide) ?_
  with_reducible refine (deliver_keeps _ _ _ _ _ _).then_ (by decide) (by decide) ?_
  with_reducible refine (setLin_keeps _ _ _).then_ (by decide) (by decide) ?_
  with_reducible exact Keeps.refl _
  with_reducible refine Keeps.ite (fun _ => ?_) (fun _ => ?_)
  with_reducible refine (tunnelOut_keeps _ _ _ _).then_ (by decide) (by decide) ?_
  with_reducible refine Keeps.ite (fun _ => ?_) (fun _ => ?_)
  with_reducible refine (deliver_keeps _ _ _ _ _ _).then_ (by decide) (by decide) ?_
  with_reducible refine (setLin_keeps _ _ _).then_ (by decide) (by decide) ?_
  with_reducible exact Keeps.refl _
  with_reducible refine (setLin_keeps _ _ _).then_ (by decide) (by decide) ?_
  with_reducible refine (deliver_keeps _ _ _ _ _ _).then_ (by decide) (by decide) ?_
  with_reducible refine (setLin_keeps _ _ _).then_ (by decide) (by decide) ?_
  with_reducible exact Keeps.refl _
  with_reducible refine Keeps.ite (fun _ => ?_) (fun _ => ?_)
  with_reducible refine (deliver_keeps _ _ _ _ _ _).then_ (by decide) (by decide) ?_
  with_reducible refine (setLin_keeps _ _ _).then_ (by decide) (by decide) ?_
  with_reducible exact Keeps.refl _
  with_reducible refine (setLin_keeps _ _ _).then_ (by decide) (by decide) ?_
  with_reducible refine (deliver_keeps _ _ _ _ _ _).then_ (by decide) (by decide) ?_
  with_reducible refine (setLin_keeps _ _ _).then_ (by decide) (by decide) ?_
  with_reducible exact Keeps.refl _

theorem execLinResponseRx_keeps (bus : Fin 6) (data : List Byte) (ok : Bool) (s : State) :
    KeepsR [Reg.SW_CNT_VAL, Reg.SW_BUF_STATUS, Reg.SW_MSEC_STAT, Reg.SUB_CNT0, Reg.SUB_CNT1, Reg.SUB_CNT3] [.memory, .records, .owed, .banks, .rng, .rings, .proxies, .loss, .sw, .wire, .sub, .out] s (execLinResponseRx bus data ok s) := by
  unfold execLinResponseRx
  try dsimp only
  with_reducible refine KeepsR.next ?_
  split
  with_reducible exact Keeps.refl _
  with_reducible refine Keeps.ite (fun _ => ?_) (fun _ => ?_)
  with_reducible refine (linReceive_keeps _ _ _ _ _).then_ (by decide) (by decide) ?_
  with_reducible exact Keeps.refl _
  split
  with_reducible refine (complete_keeps _ _ _ _ _ _).then_ (by decide) (by decide) ?_
  with_reducible refine Keeps.bump (in_SUB_CNT3_LIN_ERR) (by decide) ?_
  with_reducible refine (setLin_keeps _ _ _).then_ (by decide) (by decide) ?_
  with_reducible exact Keeps.refl _
  with_reducible refine Keeps.bump (in_SUB_CNT3_LIN_ERR) (by decide) ?_
  with_reducible refine (setLin_keeps _ _ _).then_ (by decide) (by decide) ?_
  with_reducible exact Keeps.refl _

theorem execLinGotoSleep_keeps (bus : Fin 6) (s : State) :
    KeepsR [Reg.PAR_EVT_CNT, Reg.SW_CNT_VAL, Reg.SW_MSEC_STAT, Reg.SUB_LIN_STAT, Reg.TLY_CNT0] [.records, .owed, .rings, .evt, .queue, .proxies, .loss, .wire, .sub, .out] s (execLinGotoSleep bus s) := by
  unfold execLinGotoSleep
  try dsimp only
  with_reducible refine KeepsR.next ?_
  with_reducible refine Keeps.ite (fun _ => ?_) (fun _ => ?_)
  with_reducible exact Keeps.refl _
  with_reducible refine (raise_keeps _ _ _ _ _).then_ (by decide) (by decide) ?_
  with_reducible refine (showLin_keeps _ _).then_ (by decide) (by decide) ?_
  with_reducible refine (setLin_keeps _ _ _).then_ (by decide) (by decide) ?_
  with_reducible exact Keeps.refl _

theorem busCtl_keeps {w : List Span} {g : List Part} {h : DHdr} {b : List Byte} {s : State} {f : Nat → Nat → State → Option State} (hw : regsWithin [Reg.SW_CNT_VAL, Reg.SW_MSEC_STAT] w = true)
    (hg : within [Part.records, .owed, .rng, .rings, .proxies, .wire, .out] g = true)
    (hr : within [Part.rng] g = true) (hf : ∀ k i t, KeepsO w g t (f k i t)) :
    KeepsR w g s (busCtl h b s f) := by
  have k : ∀ {t u : State}, Keeps [Reg.SW_CNT_VAL, Reg.SW_MSEC_STAT] [Part.records, .owed, .rng, .rings, .proxies, .wire, .out] t u → Keeps w g t u :=
    fun h => h.mono (of_regsWithin hw) (of_within hg)
  unfold busCtl
  refine descr_keeps hr (fun t => ?_)
  dsimp only
  refine Keeps.ite (fun _ => ?_) fun _ => Keeps.ite (fun _ => ?_) fun _ => Keeps.ite (fun _ => ?_) fun _ => ?_
  · exact k ((complete_keeps _ _ _ _ _ _).then_ (by decide) (by decide) (Keeps.refl _))
  · exact k ((complete_keeps _ _ _ _ _ _).then_ (by decide) (by decide) (Keeps.refl _))
  · exact k ((complete_keeps _ _ _ _ _ _).then_ (by decide) (by decide) (Keeps.refl _))
  · split
    · rename_i u e
      exact (hf _ _ _ _ e).trans (k ((complete_keeps _ _ _ _ _ _).then_ (by decide) (by decide) (Keeps.refl _)))
    · exact k ((complete_keeps _ _ _ _ _ _).then_ (by decide) (by decide) (Keeps.refl _))

theorem execBusOnline_keeps (h : DHdr) (b : List Byte) (s : State) :
    KeepsR [Reg.SW_CNT_VAL, Reg.SW_MSEC_STAT, Reg.SUB_CAN_STAT, Reg.SUB_LIN_STAT] [.records, .owed, .rng, .rings, .proxies, .wire, .sub, .out] s (execBusOnline h b s) := by
  unfold execBusOnline
  try dsimp only
  with_reducible refine busCtl_keeps (by decide) (by decide) (by decide) (fun _ _ _ => ?_)
  with_reducible refine KeepsO.some ?_
  with_reducible refine Keeps.ite (fun _ => ?_) (fun _ => ?_)
  with_reducible refine (showCan_keeps _ _).then_ (by decide) (by decide) ?_
  with_reducible refine (setCan_keeps _ _ _).then_ (by decide) (by decide) ?_
  with_reducible exact Keeps.refl _
  with_reducible refine (showLin_keeps _ _).then_ (by decide) (by decide) ?_
  with_reducible refine (setLin_keeps _ _ _).then_ (by decide) (by decide) ?_
  with_reducible exact Keeps.refl _

theorem execBusOffline_keeps (h : DHdr) (b : List Byte) (s : State) :
    KeepsR [Reg.SW_CNT_VAL, Reg.SW_MSEC_STAT, Reg.SUB_CAN_STAT, Reg.SUB_LIN_STAT, Reg.SUB_CNT2] [.records, .owed, .rng, .rings, .proxies, .wire, .sub, .out] s (execBusOffline h b s) := by
  unfold execBusOffline
  try dsimp only
  with_reducible refine busCtl_keeps (by decide) (by decide) (by decide) (fun _ _ _ => ?_)
  with_reducible refine KeepsO.some ?_
  with_reducible refine Keeps.ite (fun _ => ?_) (fun _ => ?_)
  with_reducible refine (showCan_keeps _ _).then_ (by decide) (by decide) ?_
  with_reducible refine (dropIngress_keeps _ _).then_ (by decide) (by decide) ?_
  with_reducible refine (setCan_keeps _ _ _).then_ (by decide) (by decide) ?_
  with_reducible exact Keeps.refl _
  with_reducible refine (showLin_keeps _ _).then_ (by decide) (by decide) ?_
  with_reducible refine (setLin_keeps _ _ _).then_ (by decide) (by decide) ?_
  with_reducible exact Keeps.refl _

theorem sleepLater_keeps (s : State) (h : DHdr) (k : Nat) (x : Option CanPend × List Byte) :
    Keeps [Reg.SW_CNT_VAL, Reg.SW_MSEC_STAT, Reg.SUB_CNT2] [.records, .owed, .rng, .rings, .proxies, .wire, .sub, .out] s (sleepLater s h k x) := by
  unfold sleepLater
  try dsimp only
  with_reducible refine (setCan_keeps _ _ _).then_ (by decide) (by decide) ?_
  with_reducible refine (endCan_keeps _ _ _).then_ (by decide) (by decide) ?_
  with_reducible refine (setCan_keeps _ _ _).then_ (by decide) (by decide) ?_
  with_reducible exact Keeps.refl _

theorem execBusSleep_keeps (h : DHdr) (b : List Byte) (s : State) :
    KeepsR [Reg.SW_CNT_VAL, Reg.SW_MSEC_STAT, Reg.SUB_CAN_STAT, Reg.SUB_LIN_STAT, Reg.SUB_CNT2] [.records, .freeCtr, .owed, .rng, .rings, .proxies, .wire, .sub, .out] s (execBusSleep h b s) := by
  unfold execBusSleep
  dsimp only
  split
  · intro t ht
    refine Keeps.trans ((freeNext_keeps s).then_ (by decide) (by decide) (Keeps.refl _)) ?_
    revert t
    refine descr_keeps (by decide) fun _ => ?_
    with_reducible refine Keeps.ite (fun _ => ?_) (fun _ => ?_)
    with_reducible refine (complete_keeps _ _ _ _ _ _).then_ (by decide) (by decide) ?_
    with_reducible exact Keeps.refl _
    with_reducible refine Keeps.ite (fun _ => ?_) (fun _ => ?_)
    with_reducible refine (complete_keeps _ _ _ _ _ _).then_ (by decide) (by decide) ?_
    with_reducible exact Keeps.refl _
    with_reducible refine Keeps.ite (fun _ => ?_) (fun _ => ?_)
    with_reducible refine (complete_keeps _ _ _ _ _ _).then_ (by decide) (by decide) ?_
    with_reducible exact Keeps.refl _
    with_reducible refine (sleepLater_keeps _ _ _ _).then_ (by decide) (by decide) ?_
    with_reducible exact Keeps.refl _
  · intro t ht
    refine Keeps.trans ((freeNext_keeps s).then_ (by decide) (by decide) (Keeps.refl _)) ?_
    revert t
    refine busCtl_keeps (by decide) (by decide) (by decide) (fun _ _ _ => ?_)
    refine KeepsO.some (Keeps.ite (fun _ => ?_) (fun _ => ?_))
    · exact (sleepCan_keeps _ _).then_ (by decide) (by decide) (Keeps.refl _)
    · exact (sleepLin_keeps _ _).then_ (by decide) (by decide) (Keeps.refl _)

theorem execBusWake_keeps (h : DHdr) (b : List Byte) (s : State) :
    KeepsR [Reg.SW_CNT_VAL, Reg.SW_MSEC_STAT] [.records, .owed, .rng, .rings, .proxies, .wire, .sub, .out] s (execBusWake h b s) := by
  unfold execBusWake
  try dsimp only
  with_reducible refine busCtl_keeps (by decide) (by decide) (by decide) (fun _ _ _ => ?_)
  with_reducible refine KeepsO.some ?_
  with_reducible refine (emit_keeps _ _).then_ (by decide) (by decide) ?_
  with_reducible refine Keeps.ite (fun _ => ?_) (fun _ => ?_)
  with_reducible refine (setLin_keeps _ _ _).then_ (by decide) (by decide) ?_
  with_reducible exact Keeps.refl _
  with_reducible exact Keeps.refl _

theorem execBusRecover_keeps (h : DHdr) (b : List Byte) (s : State) :
    KeepsR [Reg.SW_CNT_VAL, Reg.SW_MSEC_STAT] [.records, .owed, .rng, .rings, .proxies, .wire, .sub, .out] s (execBusRecover h b s) := by
  unfold execBusRecover
  try dsimp only
  with_reducible refine busCtl_keeps (by decide) (by decide) (by decide) (fun _ _ _ => ?_)
  with_reducible refine KeepsO.ite (fun _ => ?_) (fun _ => ?_)
  with_reducible refine KeepsO.some ?_
  with_reducible refine Keeps.ite (fun _ => ?_) (fun _ => ?_)
  with_reducible refine (setCan_keeps _ _ _).then_ (by decide) (by decide) ?_
  with_reducible exact Keeps.refl _
  with_reducible exact Keeps.refl _
  with_reducible exact KeepsO.none

theorem ingressTake_keeps (s : State) (t : Nat) (x : AcfBus) :
    Keeps [Reg.SUB_CNT2] [.sub] s (ingressTake s t x) := by
  unfold ingressTake
  try dsimp only
  with_reducible refine Keeps.ite (fun _ => ?_) (fun _ => ?_)
  with_reducible refine Keeps.bump (in_SUB_CNT2_TUN_DROP) (by decide) ?_
  with_reducible exact Keeps.refl _
  with_reducible refine Keeps.ite (fun _ => ?_) (fun _ => ?_)
  with_reducible refine (setCan_keeps _ _ _).then_ (by decide) (by decide) ?_
  with_reducible exact Keeps.refl _
  with_reducible refine (setResp_keeps _ _ _ _).then_ (by decide) (by decide) ?_
  with_reducible exact Keeps.refl _

theorem ingressMsg_keeps (t : Nat) (s : State) (o : Option (Brand × Nat)) (m : List Byte) :
    Keeps [Reg.PAR_EVT_CNT, Reg.SW_CNT_VAL, Reg.SW_MSEC_STAT, Reg.SUB_CNT1, Reg.SUB_CNT2, Reg.SUB_CNT3, Reg.BRD_CNT0, Reg.BRD_CNT1, Reg.BRD_CNT2, Reg.BRD_CNT3, Reg.TLY_CNT0] [Part.records, .owed, .rings, .evt, .queue, .proxies, .loss, .wire, .sub, .brd, .out] s (ingressMsg t (s, o) m).1 := by
  unfold ingressMsg
  dsimp only
  split
  · exact Keeps.refl _
  · dsimp only
    split
    with_reducible refine Keeps.bump in_SUB_CNT2_TUN_DROP (by decide) ?_
    with_reducible exact Keeps.refl _
    with_reducible refine Keeps.ite (fun _ => ?_) (fun _ => ?_)
    with_reducible refine (ingressTake_keeps _ _ _).then_ (by decide) (by decide) ?_
    with_reducible exact Keeps.refl _
    split
    with_reducible refine Keeps.bump in_SUB_CNT2_TUN_NOBRAND (by decide) ?_
    with_reducible exact Keeps.refl _
    split
    with_reducible refine (brandFault_keeps _ _ _ _ _ _).then_ (by decide) (by decide) ?_
    with_reducible refine Keeps.set_brd (by decide) ?_
    with_reducible exact Keeps.refl _
    with_reducible refine (ingressTake_keeps _ _ _).then_ (by decide) (by decide) ?_
    with_reducible refine Keeps.ite (fun _ => ?_) (fun _ => ?_)
    with_reducible refine (brandFault_keeps _ _ _ _ _ _).then_ (by decide) (by decide) ?_
    with_reducible refine Keeps.set_brd (by decide) ?_
    with_reducible exact Keeps.refl _
    with_reducible refine Keeps.set_brd (by decide) ?_
    with_reducible exact Keeps.refl _

theorem ingressMsgs_keeps (t : Nat) (l : List (List Byte)) (s : State) (o : Option (Brand × Nat)) :
    Keeps [Reg.PAR_EVT_CNT, Reg.SW_CNT_VAL, Reg.SW_MSEC_STAT, Reg.SUB_CNT1, Reg.SUB_CNT2, Reg.SUB_CNT3, Reg.BRD_CNT0, Reg.BRD_CNT1, Reg.BRD_CNT2, Reg.BRD_CNT3, Reg.TLY_CNT0] [Part.records, .owed, .rings, .evt, .queue, .proxies, .loss, .wire, .sub, .brd, .out] s (l.foldl (ingressMsg t) (s, o)).1 := by
  induction l generalizing s o with
  | nil => exact Keeps.refl _
  | cons m ms ih =>
    rw [List.foldl_cons]
    refine (ingressMsg_keeps t s o m).trans ?_
    exact ih (ingressMsg t (s, o) m).1 (ingressMsg t (s, o) m).2

theorem execTunnelIngress_keeps (frame : List Byte) (s : State) :
    KeepsR [Reg.PAR_EVT_CNT, Reg.SW_CNT_VAL, Reg.SW_MSEC_STAT, Reg.SUB_CNT1, Reg.SUB_CNT2, Reg.SUB_CNT3, Reg.BRD_CNT0, Reg.BRD_CNT1, Reg.BRD_CNT2, Reg.BRD_CNT3, Reg.TLY_CNT0] [.records, .owed, .rings, .evt, .queue, .proxies, .loss, .wire, .sub, .brd, .out] s (execTunnelIngress frame s) := by
  unfold execTunnelIngress
  try dsimp only
  with_reducible refine KeepsR.whileCd ?_
  with_reducible refine Keeps.ite (fun _ => ?_) (fun _ => ?_)
  with_reducible refine Keeps.bump (in_SUB_CNT1_TUN_NOMATCH) (by decide) ?_
  with_reducible exact Keeps.refl _
  split
  with_reducible refine Keeps.bump (in_SUB_CNT1_TUN_NOMATCH) (by decide) ?_
  with_reducible exact Keeps.refl _
  with_reducible refine (ingressMsgs_keeps _ _ _ _).then_ (by decide) (by decide) ?_
  with_reducible refine (setTun_keeps _ _ _).then_ (by decide) (by decide) ?_
  split
  with_reducible refine Keeps.ite (fun _ => ?_) (fun _ => ?_)
  with_reducible exact Keeps.refl _
  with_reducible refine Keeps.bump (in_SUB_CNT3_TUN_SEQ_GAP) (by decide) ?_
  with_reducible exact Keeps.refl _
  with_reducible exact Keeps.refl _

end Sys2Proof.Machine
end

