-- ==== Sys2Proof/Laws/Registers.lean ====
section
/-! SUPPORT.
What the operations of Machine/Registers.lean change, and that they keep a sound state sound.
-/

namespace Sys2Proof.Machine

theorem stOf_keeps {w : List Span} {g : List Part} {r : Res} {s t : State} (h : KeepsR w g t r) (hs : Keeps w g t s) :
    Keeps w g t (stOf r s) := by
  unfold stOf
  split
  · exact h _ rfl
  · exact hs
  · exact hs

theorem writeRing_keeps (s : State) (off : Nat) (v : Nat) :
    Keeps [Reg.every] [.layout, .rings] s (writeRing s off v) := by
  unfold writeRing
  try dsimp only
  with_reducible refine Keeps.ite (fun _ => ?_) (fun _ => ?_)
  with_reducible refine (dbBad_keeps _).then_ (by decide) (by decide) ?_
  with_reducible exact Keeps.refl _
  with_reducible refine Keeps.setRing (by decide) (by decide) ?_
  with_reducible refine (writeWord_any _ _ _).then_ (by decide) (by decide) ?_
  with_reducible exact Keeps.refl _

theorem writeShadow_keeps (s : State) (off : Nat) (v : Nat) :
    Keeps [Reg.every] [.layout, .rng] s (writeShadow s off v) := by
  unfold writeShadow
  try dsimp only
  with_reducible refine Keeps.ite (fun _ => ?_) (fun _ => ?_)
  with_reducible refine (dbBad_keeps _).then_ (by decide) (by decide) ?_
  with_reducible exact Keeps.refl _
  with_reducible refine Keeps.set_rng_layout (by decide) (by decide) rfl ?_
  with_reducible refine (writeWord_any _ _ _).then_ (by decide) (by decide) ?_
  with_reducible exact Keeps.refl _

theorem showVlan_keeps (s : State) :
    Keeps [Reg.SW_VLAN_DATA] [] s (showVlan s) := by
  unfold showVlan
  try dsimp only
  with_reducible refine Keeps.put (in_SW_VLAN_DATA_VALID) (by decide) ?_
  with_reducible refine Keeps.put (in_SW_VLAN_DATA_VLEARN) (by decide) ?_
  with_reducible refine Keeps.wr (in_SW_VLAN_DATA_INS_POL) (by decide) ?_
  with_reducible refine Keeps.wr (in_SW_VLAN_DATA_UNTAG) (by decide) ?_
  with_reducible refine Keeps.wr (in_SW_VLAN_DATA_MEMBER) (by decide) ?_
  with_reducible exact Keeps.refl _

theorem takeVlan_keeps (s : State) :
    Keeps [] [.sw] s (takeVlan s) := by
  unfold takeVlan
  try dsimp only
  with_reducible refine Keeps.set_sw (by decide) ⟨rfl, rfl, rfl⟩ ?_
  with_reducible exact Keeps.refl _

theorem writeT1s_keeps (s : State) (g : Nat) (off : Nat) (v : Nat) :
    Keeps [Reg.every] [] s (writeT1s s g off v) := by
  unfold writeT1s
  try dsimp only
  with_reducible refine Keeps.ite (fun _ => ?_) (fun _ => ?_)
  with_reducible refine (violate_keeps _).then_ (by decide) (by decide) ?_
  with_reducible refine Keeps.putEvery (by decide) ?_
  with_reducible exact Keeps.refl _
  with_reducible refine (showPlca_keeps _ _).then_ (by decide) (by decide) ?_
  with_reducible refine (writeWord_any _ _ _).then_ (by decide) (by decide) ?_
  with_reducible exact Keeps.refl _

theorem forget_keeps (s : State) (n : Nat) :
    Keeps [Reg.SV_LSTATE] [] s (forget s n) := by
  unfold forget
  try dsimp only
  with_reducible refine Keeps.put (in_SV_LSTATE_LVALID _) (by decide) ?_
  with_reducible refine Keeps.wr (in_SV_LSTATE_BACKOFF _) (by decide) ?_
  with_reducible refine Keeps.wr (in_SV_LSTATE_LCOUNT _) (by decide) ?_
  with_reducible refine Keeps.wr (in_SV_LSTATE_T_LEARN _) (by decide) ?_
  with_reducible exact Keeps.refl _

theorem follow_keeps (s : State) (off : Nat) :
    Keeps [Reg.PWR_ADAPT, Reg.RNG_BASE, Reg.RNG_CFG, Reg.RNG_SHADOW, Reg.RNG_IDX, Reg.RNG_IDX2, Reg.SV_LSTATE, Reg.SW_BUF_CFG, Reg.SW_VLAN_DATA, Reg.SW_CNT_VAL, Reg.SW_STATUS, Reg.SUB_CAN_CFG, Reg.SUB_CAN_STAT, Reg.SUB_LIN_STAT, Reg.STO_NS_INFO, Reg.STO_NS_BLOCKS, Reg.STO_FREE, Reg.STO_NS_WEAR] [.sw, .sub] s (follow s off) := by
  unfold follow
  try dsimp only
  with_reducible refine Keeps.ite (fun _ => ?_) (fun _ => ?_)
  with_reducible refine (showRing_keeps _).then_ (by decide) (by decide) ?_
  with_reducible exact Keeps.refl _
  with_reducible refine Keeps.ite (fun _ => ?_) (fun _ => ?_)
  with_reducible refine (refreshCur_keeps _).then_ (by decide) (by decide) ?_
  with_reducible exact Keeps.refl _
  with_reducible refine Keeps.ite (fun _ => ?_) (fun _ => ?_)
  with_reducible refine (showGuar_keeps _).then_ (by decide) (by decide) ?_
  with_reducible exact Keeps.refl _
  with_reducible refine Keeps.ite (fun _ => ?_) (fun _ => ?_)
  with_reducible refine (showVlan_keeps _).then_ (by decide) (by decide) ?_
  with_reducible exact Keeps.refl _
  with_reducible refine Keeps.ite (fun _ => ?_) (fun _ => ?_)
  with_reducible refine (takeVlan_keeps _).then_ (by decide) (by decide) ?_
  with_reducible exact Keeps.refl _
  with_reducible refine Keeps.ite (fun _ => ?_) (fun _ => ?_)
  with_reducible refine (showCnt_keeps _).then_ (by decide) (by decide) ?_
  with_reducible exact Keeps.refl _
  with_reducible refine Keeps.ite (fun _ => ?_) (fun _ => ?_)
  with_reducible refine (showShape_keeps _).then_ (by decide) (by decide) ?_
  with_reducible exact Keeps.refl _
  with_reducible refine Keeps.ite (fun _ => ?_) (fun _ => ?_)
  with_reducible refine Keeps.ite (fun _ => ?_) (fun _ => ?_)
  with_reducible refine (takeRule_keeps _ _).then_ (by decide) (by decide) ?_
  with_reducible exact Keeps.refl _
  with_reducible exact Keeps.refl _
  with_reducible refine Keeps.ite (fun _ => ?_) (fun _ => ?_)
  with_reducible refine (showTiming_keeps _ _).then_ (by decide) (by decide) ?_
  with_reducible exact Keeps.refl _
  with_reducible refine Keeps.ite (fun _ => ?_) (fun _ => ?_)
  with_reducible refine (showLin_keeps _ _).then_ (by decide) (by decide) ?_
  with_reducible exact Keeps.refl _
  with_reducible refine Keeps.ite (fun _ => ?_) (fun _ => ?_)
  with_reducible refine (showNs_keeps _).then_ (by decide) (by decide) ?_
  with_reducible exact Keeps.refl _
  with_reducible refine Keeps.ite (fun _ => ?_) (fun _ => ?_)
  with_reducible exact Keeps.refl _
  with_reducible refine Keeps.ite (fun _ => ?_) (fun _ => ?_)
  with_reducible refine (forget_keeps _ _).then_ (by decide) (by decide) ?_
  with_reducible exact Keeps.refl _
  with_reducible refine Keeps.ite (fun _ => ?_) (fun _ => ?_)
  with_reducible refine Keeps.foldl (fun _ _ => ?_) _ ?_
  with_reducible refine (forget_keeps _ _).then_ (by decide) (by decide) ?_
  with_reducible exact Keeps.refl _
  with_reducible exact Keeps.refl _
  with_reducible exact Keeps.refl _

theorem plainWrite_keeps (s : State) (off : Nat) (v : Nat) :
    Keeps [Reg.every] [.layout, .rng, .rings, .sw, .sub] s (plainWrite s off v) := by
  unfold plainWrite
  try dsimp only
  with_reducible refine Keeps.ite (fun _ => ?_) (fun _ => ?_)
  with_reducible refine (writeRing_keeps _ _ _).then_ (by decide) (by decide) ?_
  with_reducible exact Keeps.refl _
  with_reducible refine Keeps.ite (fun _ => ?_) (fun _ => ?_)
  with_reducible refine (writeShadow_keeps _ _ _).then_ (by decide) (by decide) ?_
  with_reducible exact Keeps.refl _
  with_reducible refine Keeps.ite (fun _ => ?_) (fun _ => ?_)
  with_reducible refine (writeT1s_keeps _ _ _ _).then_ (by decide) (by decide) ?_
  with_reducible exact Keeps.refl _
  with_reducible refine (follow_keeps _ _).then_ (by decide) (by decide) ?_
  with_reducible refine (writeWord_any _ _ _).then_ (by decide) (by decide) ?_
  with_reducible exact Keeps.refl _

theorem rngCmd_keeps (s : State) (w : Writer) (v : Word) :
    Keeps [Reg.PAR_SEAL_STATUS, Reg.PAR_STATE, Reg.PAR_EVT_CNT, Reg.RNG_BASE, Reg.RNG_CFG, Reg.RNG_SHADOW, Reg.RNG_STATUS, Reg.RNG_IDX, Reg.RNG_IDX2, Reg.RNG_CNT, Reg.SIN_SCHED, Reg.SIN_STREAMS, Reg.SW_CNT_VAL, Reg.SW_MSEC_STAT, Reg.INF_CTX_STAT, Reg.INF_CTX_EXEC, Reg.INF_CH_STAT, Reg.INF_MEM, Reg.STO_WB_STATUS, Reg.TLY_CNT0] [.records, .layout, .freeCtr, .spar, .owed, .rng, .rings, .evt, .queue, .proxies, .act, .chs, .loss, .sns, .sw, .wire, .sub, .inf, .sto, .sec, .out] s (rngCmd s w v) := by
  unfold rngCmd
  try dsimp only
  split
  with_reducible refine stOf_keeps ((execArmPart_keeps _ _).mono (by decide) (by decide)) ?_
  with_reducible exact Keeps.refl _
  with_reducible refine stOf_keeps ((execArmEngine_keeps _ _).mono (by decide) (by decide)) ?_
  with_reducible exact Keeps.refl _
  with_reducible refine stOf_keeps ((execEngineReset_keeps _ _).mono (by decide) (by decide)) ?_
  with_reducible exact Keeps.refl _
  with_reducible refine Keeps.ite (fun _ => ?_) (fun _ => ?_)
  with_reducible refine (violate_keeps _).then_ (by decide) (by decide) ?_
  with_reducible exact Keeps.refl _
  with_reducible exact Keeps.refl _

theorem tblCmd_keeps (s : State) (w : Writer) (v : Word) :
    Keeps [Reg.PAR_SEAL_STATUS, Reg.SW_TBL_DATA0, Reg.SW_TBL_DATA1, Reg.SW_TBL_DATA2, Reg.SW_STATUS] [.sw] s (tblCmd s w v) := by
  unfold tblCmd
  try dsimp only
  split
  with_reducible refine stOf_keeps ((execTblRead_keeps _ _).mono (by decide) (by decide)) ?_
  with_reducible exact Keeps.refl _
  with_reducible refine stOf_keeps ((execTblWrite_keeps _ _).mono (by decide) (by decide)) ?_
  with_reducible exact Keeps.refl _
  with_reducible refine stOf_keeps ((execTblClear_keeps _ _).mono (by decide) (by decide)) ?_
  with_reducible exact Keeps.refl _
  with_reducible refine Keeps.ite (fun _ => ?_) (fun _ => ?_)
  with_reducible refine (violate_keeps _).then_ (by decide) (by decide) ?_
  with_reducible exact Keeps.refl _
  with_reducible exact Keeps.refl _

theorem nsCmd_keeps (s : State) (w : Writer) (v : Word) :
    Keeps [Reg.PAR_SEAL_STATUS, Reg.PAR_EVT_CNT, Reg.SW_CNT_VAL, Reg.SW_MSEC_STAT, Reg.STO_NS_STATUS, Reg.STO_NS_INFO, Reg.STO_NS_BLOCKS, Reg.STO_FREE, Reg.STO_NS_WEAR, Reg.TLY_CNT0] [.records, .owed, .rings, .evt, .queue, .proxies, .loss, .wire, .sto, .out] s (nsCmd s w v) := by
  unfold nsCmd
  try dsimp only
  split
  with_reducible refine stOf_keeps ((execNsCreate_keeps _ _).mono (by decide) (by decide)) ?_
  with_reducible exact Keeps.refl _
  with_reducible refine stOf_keeps ((execNsDelete_keeps _ _).mono (by decide) (by decide)) ?_
  with_reducible exact Keeps.refl _
  with_reducible refine Keeps.ite (fun _ => ?_) (fun _ => ?_)
  with_reducible refine (violate_keeps _).then_ (by decide) (by decide) ?_
  with_reducible exact Keeps.refl _
  with_reducible exact Keeps.refl _

theorem ownWriteLow_keeps (s : State) (w : Writer) (off : Nat) (v : Word) :
    KeepsO [Reg.every] [.memory, .records, .layout, .freeCtr, .latches, .spar, .dt, .pwr, .owed, .banks, .par, .rng, .rings, .evt, .queue, .chain, .proxies, .act, .chs, .scl, .loss, .sns, .sw, .wire, .sub, .brd, .inf, .sto, .sec, .flt, .out] s (ownWriteLow s w off v) := by
  unfold ownWriteLow
  split
  · exact KeepsO.some (stOf_keeps ((execRtcWrite_keeps _ _ _ _).mono (by decide) (by decide)) (Keeps.refl _))
  · exact KeepsO.some (stOf_keeps ((execRtcWrite_keeps _ _ _ _).mono (by decide) (by decide)) (Keeps.refl _))
  · exact KeepsO.some (stOf_keeps ((execRtcAlarmWrite_keeps _ _ _ _).mono (by decide) (by decide)) (Keeps.refl _))
  · exact KeepsO.some (stOf_keeps ((execRtcAlarmWrite_keeps _ _ _ _).mono (by decide) (by decide)) (Keeps.refl _))
  · exact KeepsO.some (stOf_keeps ((execSprWdgFeed_keeps _ _ _).mono (by decide) (by decide)) (Keeps.refl _))
  · exact KeepsO.some (stOf_keeps ((execSprRstCmd_keeps _ _ _).mono (by decide) (by decide)) (Keeps.refl _))
  · exact KeepsO.some (stOf_keeps ((execLimpRelease_keeps _ _ _).mono (by decide) (by decide)) (Keeps.refl _))
  · exact KeepsO.some (stOf_keeps ((execCrashLatchClear_keeps _ _ _).mono (by decide) (by decide)) (Keeps.refl _))
  · exact KeepsO.some (stOf_keeps ((execClkSrcWrite_keeps _ _ _).mono (by decide) (by decide)) (Keeps.refl _))
  · exact KeepsO.some (stOf_keeps ((execClkPllCfgWrite_keeps _ _ _).mono (by decide) (by decide)) (Keeps.refl _))
  · exact KeepsO.some (stOf_keeps ((execPwrNextWrite_keeps _ _ _).mono (by decide) (by decide)) (Keeps.refl _))
  · exact KeepsO.some (stOf_keeps ((execPwrSafAck_keeps _ _ _).mono (by decide) (by decide)) (Keeps.refl _))
  · exact KeepsO.some ((showShape_keeps _).then_ (by decide) (by decide) (stOf_keeps ((execChnPortCfgWrite_keeps _ _ _).mono (by decide) (by decide)) (Keeps.refl _)))
  · exact KeepsO.some ((writeBypass_keeps _ _ _ _).then_ (by decide) (by decide) (Keeps.refl _))
  · exact KeepsO.some (stOf_keeps ((execSendWhistle_keeps _ _ _).mono (by decide) (by decide)) (Keeps.refl _))
  · exact KeepsO.none

theorem ownWriteHigh_keeps (s : State) (w : Writer) (off : Nat) (v : Word) :
    KeepsO [Reg.every] [.records, .layout, .freeCtr, .spar, .pwr, .owed, .par, .rng, .rings, .evt, .tly, .queue, .proxies, .act, .chs, .loss, .sns, .sw, .wire, .sub, .brd, .inf, .sto, .sec, .flt, .out] s (ownWriteHigh s w off v) := by
  unfold ownWriteHigh
  split
  · exact KeepsO.some (Keeps.ite (fun _ => Keeps.refl _) (fun _ => stOf_keeps ((execLayoutApply_keeps _ _).mono (by decide) (by decide)) (Keeps.refl _)))
  · exact KeepsO.some (stOf_keeps ((execParSeal_keeps _ _ _).mono (by decide) (by decide)) (Keeps.refl _))
  · exact KeepsO.some (stOf_keeps ((execParRst_keeps _ _ _).mono (by decide) (by decide)) (Keeps.refl _))
  · exact KeepsO.some ((rngCmd_keeps _ _ _).then_ (by decide) (by decide) (Keeps.refl _))
  · exact KeepsO.some (stOf_keeps ((execLimpStage_keeps _ _ _).mono (by decide) (by decide)) (Keeps.refl _))
  · exact KeepsO.some ((tblCmd_keeps _ _ _).then_ (by decide) (by decide) (Keeps.refl _))
  · exact KeepsO.some ((nsCmd_keeps _ _ _).then_ (by decide) (by decide) (Keeps.refl _))
  · exact KeepsO.some (stOf_keeps ((execTlyMarkWrite_keeps _ _ _).mono (by decide) (by decide)) (Keeps.refl _))
  · exact KeepsO.some (stOf_keeps ((execTlySelWrite_keeps _ _ _).mono (by decide) (by decide)) (Keeps.refl _))
  · exact KeepsO.some (stOf_keeps ((execEvtInjArm_keeps _ _ _).mono (by decide) (by decide)) (Keeps.refl _))
  · exact KeepsO.some (stOf_keeps ((execEvtRaise_keeps _ _ _).mono (by decide) (by decide)) (Keeps.refl _))
  · exact KeepsO.none

theorem regWrite_keeps (s : State) (w : Writer) (off : Nat) (v : Word) :
    Keeps [Reg.every] [.memory, .records, .layout, .freeCtr, .latches, .spar, .dt, .pwr, .owed, .banks, .par, .rng, .rings, .evt, .tly, .queue, .chain, .proxies, .act, .chs, .scl, .loss, .sns, .sw, .wire, .sub, .brd, .inf, .sto, .sec, .flt, .out] s (regWrite s w off v) := by
  unfold regWrite
  try dsimp only
  split
  exact (KeepsO.orElse ((ownWriteLow_keeps _ _ _ _).mono (by decide) (by decide)) ((ownWriteHigh_keeps _ _ _ _).mono (by decide) (by decide))) _ (by assumption)
  with_reducible refine Keeps.ite (fun _ => ?_) (fun _ => ?_)
  with_reducible refine (violate_keeps _).then_ (by decide) (by decide) ?_
  with_reducible exact Keeps.refl _
  with_reducible refine (plainWrite_keeps _ _ _).then_ (by decide) (by decide) ?_
  with_reducible exact Keeps.refl _

theorem setReport_keeps (s : State) (result : Nat) (stage : Nat) (off : Nat) :
    Keeps [Reg.PAR_SSET_STATUS] [] s (setReport s result stage off) := by
  unfold setReport
  try dsimp only
  with_reducible refine Keeps.wr (in_PAR_SSET_STATUS_OFFSET) (by decide) ?_
  with_reducible refine Keeps.wr (in_PAR_SSET_STATUS_STAGE) (by decide) ?_
  with_reducible refine Keeps.wr (in_PAR_SSET_STATUS_RESULT) (by decide) ?_
  with_reducible exact Keeps.refl _

theorem setRecord_keeps (b : List Byte) (s : State) (o : Nat) :
    Keeps [Reg.every] [.memory, .records, .layout, .freeCtr, .latches, .spar, .dt, .pwr, .owed, .banks, .par, .rng, .rings, .evt, .tly, .queue, .chain, .proxies, .act, .chs, .scl, .loss, .sns, .sw, .wire, .sub, .brd, .inf, .sto, .sec, .flt, .out] s (setRecord b s o) := by
  unfold setRecord
  try dsimp only
  with_reducible refine (regWrite_keeps _ _ _ _).then_ (by decide) (by decide) ?_
  with_reducible exact Keeps.refl _

theorem setDone_keeps (s : State) (result : Nat) (stage : Nat) :
    Keeps [Reg.PAR_SSET_CTL, Reg.PAR_SSET_STATUS] [.layout, .par] s (setDone s result stage) := by
  unfold setDone
  try dsimp only
  with_reducible refine (setReport_keeps _ _ _ _).then_ (by decide) (by decide) ?_
  with_reducible refine Keeps.put (in_PAR_SSET_CTL_APPLY) (by decide) ?_
  with_reducible refine Keeps.set_par (by decide) (by decide) ?_
  with_reducible exact Keeps.refl _

theorem setOn_keeps (s : State) (x : SealSet) (stage : Nat) :
    Keeps [Reg.PAR_SSET_STATUS] [.layout, .par] s (setOn s x stage) := by
  unfold setOn
  try dsimp only
  with_reducible refine (setReport_keeps _ _ _ _).then_ (by decide) (by decide) ?_
  with_reducible refine Keeps.set_par (by decide) (by decide) ?_
  with_reducible exact Keeps.refl _

theorem setLayout_keeps (s : State) (x : SealSet) :
    Keeps [Reg.PAR_LAYOUT_STATUS, Reg.PAR_SEAL_STATUS, Reg.PAR_STATE, Reg.PAR_SSET_CTL, Reg.PAR_SSET_STATUS] [.layout, .par, .rng, .evt] s (setLayout s x) := by
  unfold setLayout
  try dsimp only
  with_reducible refine Keeps.ite (fun _ => ?_) (fun _ => ?_)
  with_reducible refine (setOn_keeps _ _ _).then_ (by decide) (by decide) ?_
  with_reducible exact Keeps.refl _
  with_reducible refine Keeps.ite (fun _ => ?_) (fun _ => ?_)
  with_reducible refine (setOn_keeps _ _ _).then_ (by decide) (by decide) ?_
  with_reducible refine (applyLayout_keeps _ _).then_ (by decide) (by decide) ?_
  with_reducible exact Keeps.refl _
  with_reducible refine (setDone_keeps _ _ _).then_ (by decide) (by decide) ?_
  with_reducible refine (applyLayout_keeps _ _).then_ (by decide) (by decide) ?_
  with_reducible exact Keeps.refl _

theorem setLimp_keeps (s : State) (x : SealSet) :
    Keeps [Reg.PAR_SEAL_STATUS, Reg.ACT_LIMP_STATUS, Reg.PAR_SSET_CTL, Reg.PAR_SSET_STATUS] [.layout, .par, .act] s (setLimp s x) := by
  unfold setLimp
  try dsimp only
  with_reducible refine Keeps.ite (fun _ => ?_) (fun _ => ?_)
  with_reducible refine (setOn_keeps _ _ _).then_ (by decide) (by decide) ?_
  with_reducible exact Keeps.refl _
  with_reducible refine Keeps.ite (fun _ => ?_) (fun _ => ?_)
  with_reducible refine (setOn_keeps _ _ _).then_ (by decide) (by decide) ?_
  with_reducible refine (limpStage_keeps _ _).then_ (by decide) (by decide) ?_
  with_reducible exact Keeps.refl _
  with_reducible refine (setDone_keeps _ _ _).then_ (by decide) (by decide) ?_
  with_reducible refine (limpStage_keeps _ _).then_ (by decide) (by decide) ?_
  with_reducible exact Keeps.refl _

theorem setSeal_keeps (s : State) (x : SealSet) :
    Keeps [Reg.PAR_SEAL_STATUS, Reg.PAR_EVT_CNT, Reg.SIN_SCHED, Reg.SIN_STREAMS, Reg.SW_CNT_VAL, Reg.SW_MSEC_STAT, Reg.BRD_STATUS, Reg.TLY_CNT0, Reg.PAR_SSET_CTL, Reg.PAR_SSET_STATUS] [.records, .layout, .owed, .par, .rings, .evt, .queue, .proxies, .act, .loss, .sns, .wire, .out] s (setSeal s x) := by
  unfold setSeal
  try dsimp only
  with_reducible refine Keeps.ite (fun _ => ?_) (fun _ => ?_)
  with_reducible refine (setDone_keeps _ _ _).then_ (by decide) (by decide) ?_
  with_reducible exact Keeps.refl _
  with_reducible refine Keeps.ite (fun _ => ?_) (fun _ => ?_)
  with_reducible refine (setDone_keeps _ _ _).then_ (by decide) (by decide) ?_
  with_reducible exact Keeps.refl _
  with_reducible refine Keeps.ite (fun _ => ?_) (fun _ => ?_)
  with_reducible refine (setDone_keeps _ _ _).then_ (by decide) (by decide) ?_
  with_reducible refine (sealUnit_keeps _).then_ (by decide) (by decide) ?_
  with_reducible exact Keeps.refl _
  with_reducible refine (setDone_keeps _ _ _).then_ (by decide) (by decide) ?_
  with_reducible refine (sealUnit_keeps _).then_ (by decide) (by decide) ?_
  with_reducible exact Keeps.refl _

theorem setStep_keeps (s : State) :
    Keeps [Reg.PAR_LAYOUT_STATUS, Reg.PAR_SEAL_STATUS, Reg.PAR_STATE, Reg.PAR_EVT_CNT, Reg.ACT_LIMP_STATUS, Reg.SIN_SCHED, Reg.SIN_STREAMS, Reg.SW_CNT_VAL, Reg.SW_MSEC_STAT, Reg.BRD_STATUS, Reg.TLY_CNT0, Reg.PAR_SSET_CTL, Reg.PAR_SSET_STATUS] [.records, .layout, .owed, .par, .rng, .rings, .evt, .queue, .proxies, .act, .loss, .sns, .wire, .out] s (setStep s) := by
  unfold setStep
  try dsimp only
  split
  with_reducible exact Keeps.refl _
  with_reducible refine Keeps.ite (fun _ => ?_) (fun _ => ?_)
  with_reducible exact Keeps.refl _
  with_reducible refine Keeps.ite (fun _ => ?_) (fun _ => ?_)
  with_reducible refine (setLayout_keeps _ _).then_ (by decide) (by decide) ?_
  with_reducible exact Keeps.refl _
  with_reducible refine Keeps.ite (fun _ => ?_) (fun _ => ?_)
  with_reducible refine (setLimp_keeps _ _).then_ (by decide) (by decide) ?_
  with_reducible exact Keeps.refl _
  with_reducible refine (setSeal_keeps _ _).then_ (by decide) (by decide) ?_
  with_reducible exact Keeps.refl _

theorem idle_keeps (s : State) :
    Keeps [Reg.every] [.memory, .records, .layout, .now, .freeCtr, .latches, .spar, .dt, .pwr, .owed, .banks, .par, .rng, .rings, .evt, .tly, .queue, .chain, .proxies, .act, .chs, .scl, .loss, .sns, .sw, .wire, .sub, .brd, .inf, .sto, .sec, .flt, .out] s (idle s) := by
  unfold idle
  try dsimp only
  with_reducible refine (setStep_keeps _).then_ (by decide) (by decide) ?_
  with_reducible refine (tick_keeps _).then_ (by decide) (by decide) ?_
  with_reducible exact Keeps.refl _

theorem applySet_keeps (s : State) (a : Nat) :
    Keeps [Reg.every] [.memory, .records, .layout, .freeCtr, .latches, .spar, .dt, .pwr, .owed, .banks, .par, .rng, .rings, .evt, .tly, .queue, .chain, .proxies, .act, .chs, .scl, .loss, .sns, .sw, .wire, .sub, .brd, .inf, .sto, .sec, .flt, .out] s (applySet s a) := by
  unfold applySet
  try dsimp only
  with_reducible refine Keeps.ite (fun _ => ?_) (fun _ => ?_)
  with_reducible refine (setReport_keeps _ _ _ _).then_ (by decide) (by decide) ?_
  with_reducible refine (violate_keeps _).then_ (by decide) (by decide) ?_
  with_reducible exact Keeps.refl _
  split
  with_reducible refine (setReport_keeps _ _ _ _).then_ (by decide) (by decide) ?_
  with_reducible exact Keeps.refl _
  with_reducible refine Keeps.foldl (fun _ _ => ?_) _ ?_
  with_reducible refine (setRecord_keeps _ _ _).then_ (by decide) (by decide) ?_
  with_reducible exact Keeps.refl _
  with_reducible refine Keeps.wrEvery (by decide) ?_
  with_reducible refine (setOn_keeps _ _ _).then_ (by decide) (by decide) ?_
  with_reducible refine Keeps.putEvery (by decide) ?_
  with_reducible exact Keeps.refl _

theorem writeSset_keeps (s : State) (w : Writer) (v : Word) :
    Keeps [Reg.every] [.memory, .records, .layout, .freeCtr, .latches, .spar, .dt, .pwr, .owed, .banks, .par, .rng, .rings, .evt, .tly, .queue, .chain, .proxies, .act, .chs, .scl, .loss, .sns, .sw, .wire, .sub, .brd, .inf, .sto, .sec, .flt, .out] s (writeSset s w v) := by
  unfold writeSset
  try dsimp only
  with_reducible refine Keeps.ite (fun _ => ?_) (fun _ => ?_)
  with_reducible refine (violate_keeps _).then_ (by decide) (by decide) ?_
  with_reducible exact Keeps.refl _
  with_reducible refine Keeps.ite (fun _ => ?_) (fun _ => ?_)
  with_reducible exact Keeps.refl _
  with_reducible refine Keeps.ite (fun _ => ?_) (fun _ => ?_)
  with_reducible refine (violate_keeps _).then_ (by decide) (by decide) ?_
  with_reducible exact Keeps.refl _
  with_reducible refine (applySet_keeps _ _).then_ (by decide) (by decide) ?_
  with_reducible exact Keeps.refl _

theorem execSealSetApply_keeps (w : Writer) (v : Word) (s : State) :
    KeepsR [Reg.every] [.memory, .records, .layout, .freeCtr, .latches, .spar, .dt, .pwr, .owed, .banks, .par, .rng, .rings, .evt, .tly, .queue, .chain, .proxies, .act, .chs, .scl, .loss, .sns, .sw, .wire, .sub, .brd, .inf, .sto, .sec, .flt, .out] s (execSealSetApply w v s) := by
  unfold execSealSetApply
  try dsimp only
  with_reducible refine KeepsR.whileCd ?_
  with_reducible refine (writeSset_keeps _ _ _).then_ (by decide) (by decide) ?_
  with_reducible exact Keeps.refl _

theorem cfgWrite_keeps (s : State) (w : Writer) (off : Nat) (len : Nat) (v : Word) :
    Keeps [Reg.every] [.memory, .records, .layout, .freeCtr, .latches, .spar, .dt, .pwr, .owed, .banks, .par, .rng, .rings, .evt, .tly, .queue, .chain, .proxies, .act, .chs, .scl, .loss, .sns, .sw, .wire, .sub, .brd, .inf, .sto, .sec, .flt, .out] s (cfgWrite s w off len v) := by
  unfold cfgWrite
  try dsimp only
  with_reducible refine Keeps.ite (fun _ => ?_) (fun _ => ?_)
  with_reducible refine (violate_keeps _).then_ (by decide) (by decide) ?_
  with_reducible exact Keeps.refl _
  with_reducible refine Keeps.ite (fun _ => ?_) (fun _ => ?_)
  with_reducible refine (writeSset_keeps _ _ _).then_ (by decide) (by decide) ?_
  with_reducible exact Keeps.refl _
  with_reducible refine (regWrite_keeps _ _ _ _).then_ (by decide) (by decide) ?_
  with_reducible exact Keeps.refl _

theorem pageWrite_keeps (s : State) (w : Writer) (off : Nat) (len : Nat) (v : Word) :
    Keeps [Reg.CHN_ATTACH, Reg.PAR_STATE, Reg.PAR_RST_CFG, Reg.PAR_EVT_CNT, Reg.RNG_CNT, Reg.ACT_CLAIM, Reg.ACT_CNT, Reg.HS_STATE, Reg.HB_STATE, Reg.SV_STATE, Reg.SV_KRES, Reg.SV_CNT2, Reg.LED_STATE, Reg.FIO_CAUSE, Reg.SIN_SCHED, Reg.SIN_STREAMS, Reg.SW_CNT_VAL, Reg.SW_BUF_STATUS, Reg.SW_MSEC_STAT, Reg.INF_CTX_STAT, Reg.INF_CTX_EXEC, Reg.INF_MEM, Reg.STO_WB_STATUS, Reg.SEC_KEY_STATE, Reg.TLY_CNT0] [.records, .layout, .freeCtr, .pwr, .owed, .par, .rng, .rings, .evt, .queue, .proxies, .act, .chs, .loss, .sns, .sw, .wire, .sub, .brd, .inf, .sto, .sec, .out] s (pageWrite s w off len v) := by
  unfold pageWrite
  try dsimp only
  with_reducible refine Keeps.ite (fun _ => ?_) (fun _ => ?_)
  with_reducible refine (dbBad_keeps _).then_ (by decide) (by decide) ?_
  with_reducible exact Keeps.refl _
  with_reducible refine Keeps.ite (fun _ => ?_) (fun _ => ?_)
  with_reducible refine stOf_keeps ((execEventDoorbell_keeps _ _ _ _).mono (by decide) (by decide)) ?_
  with_reducible exact Keeps.refl _
  with_reducible refine Keeps.ite (fun _ => ?_) (fun _ => ?_)
  with_reducible refine stOf_keeps ((execSwEvent_keeps _ _ _ _).mono (by decide) (by decide)) ?_
  with_reducible exact Keeps.refl _
  with_reducible refine Keeps.ite (fun _ => ?_) (fun _ => ?_)
  with_reducible refine stOf_keeps ((execSelfReset_keeps _ _ _ _).mono (by decide) (by decide)) ?_
  with_reducible exact Keeps.refl _
  with_reducible refine Keeps.ite (fun _ => ?_) (fun _ => ?_)
  with_reducible refine (dbBad_keeps _).then_ (by decide) (by decide) ?_
  with_reducible exact Keeps.refl _
  with_reducible refine Keeps.ite (fun _ => ?_) (fun _ => ?_)
  with_reducible refine stOf_keeps ((execCompletionDoorbell_keeps _ _ _ _ _).mono (by decide) (by decide)) ?_
  with_reducible exact Keeps.refl _
  with_reducible refine stOf_keeps ((execProducerDoorbell_keeps _ _ _ _ _ _).mono (by decide) (by decide)) ?_
  with_reducible exact Keeps.refl _

theorem tcmStranger_keeps (s : State) :
    Keeps [Reg.PAR_FAULT] [] s (tcmStranger s) := by
  unfold tcmStranger
  try dsimp only
  with_reducible refine Keeps.bump (in_PAR_FAULT_FAULTS) (by decide) ?_
  with_reducible exact Keeps.refl _

theorem coreWrite_keeps (s : State) (w : Writer) (a : Nat) (len : Nat) (v : Word) :
    Keeps [Reg.every] [.memory, .records, .layout, .freeCtr, .latches, .spar, .dt, .pwr, .owed, .banks, .par, .rng, .rings, .evt, .tly, .queue, .chain, .proxies, .act, .chs, .scl, .loss, .sns, .sw, .wire, .sub, .brd, .inf, .sto, .sec, .flt, .out] s (coreWrite s w a len v) := by
  unfold coreWrite
  try dsimp only
  with_reducible refine Keeps.ite (fun _ => ?_) (fun _ => ?_)
  with_reducible refine (cfgWrite_keeps _ _ _ _ _).then_ (by decide) (by decide) ?_
  with_reducible exact Keeps.refl _
  with_reducible refine Keeps.ite (fun _ => ?_) (fun _ => ?_)
  with_reducible refine (pageWrite_keeps _ _ _ _ _).then_ (by decide) (by decide) ?_
  with_reducible exact Keeps.refl _
  with_reducible refine Keeps.ite (fun _ => ?_) (fun _ => ?_)
  with_reducible refine (violate_keeps _).then_ (by decide) (by decide) ?_
  with_reducible exact Keeps.refl _
  with_reducible refine Keeps.ite (fun _ => ?_) (fun _ => ?_)
  with_reducible refine Keeps.writeBytes (by decide) ?_
  with_reducible refine (bankWait_keeps _ _).then_ (by decide) (by decide) ?_
  with_reducible exact Keeps.refl _
  with_reducible refine Keeps.ite (fun _ => ?_) (fun _ => ?_)
  with_reducible refine Keeps.ite (fun _ => ?_) (fun _ => ?_)
  with_reducible refine Keeps.writeBytes (by decide) ?_
  with_reducible exact Keeps.refl _
  with_reducible refine (tcmStranger_keeps _).then_ (by decide) (by decide) ?_
  with_reducible exact Keeps.refl _
  with_reducible refine Keeps.ite (fun _ => ?_) (fun _ => ?_)
  with_reducible exact Keeps.refl _
  with_reducible refine (emit_keeps _ _).then_ (by decide) (by decide) ?_
  with_reducible exact Keeps.refl _

theorem execRegisterWrite_keeps (w : Writer) (addr : Nat) (len : Nat) (v : Word) (s : State) :
    KeepsR [Reg.every] [.memory, .records, .layout, .freeCtr, .latches, .spar, .dt, .pwr, .owed, .banks, .par, .rng, .rings, .evt, .tly, .queue, .chain, .proxies, .act, .chs, .scl, .loss, .sns, .sw, .wire, .sub, .brd, .inf, .sto, .sec, .flt, .out] s (execRegisterWrite w addr len v s) := by
  unfold execRegisterWrite
  try dsimp only
  with_reducible refine KeepsR.whileCd ?_
  with_reducible refine (coreWrite_keeps _ _ _ _ _).then_ (by decide) (by decide) ?_
  with_reducible exact Keeps.refl _

theorem refreshed_keeps (s : State) (off : Nat) :
    Keeps [Reg.RNG_BASE, Reg.RNG_CFG, Reg.RNG_SHADOW, Reg.RNG_IDX, Reg.RNG_IDX2, Reg.SW_STATUS, Reg.UPD_LEFT, Reg.EVT_CDLOSS] [] s (refreshed s off) := by
  unfold refreshed
  try dsimp only
  with_reducible refine Keeps.ite (fun _ => ?_) (fun _ => ?_)
  with_reducible refine (showRing_keeps _).then_ (by decide) (by decide) ?_
  with_reducible exact Keeps.refl _
  with_reducible refine Keeps.ite (fun _ => ?_) (fun _ => ?_)
  with_reducible refine (showShape_keeps _).then_ (by decide) (by decide) ?_
  with_reducible exact Keeps.refl _
  with_reducible refine Keeps.ite (fun _ => ?_) (fun _ => ?_)
  with_reducible refine Keeps.wr (in_EVT_CDLOSS_LOSSES) (by decide) ?_
  with_reducible exact Keeps.refl _
  with_reducible refine Keeps.ite (fun _ => ?_) (fun _ => ?_)
  with_reducible refine Keeps.wr (in_UPD_LEFT_SECONDS) (by decide) ?_
  with_reducible exact Keeps.refl _
  with_reducible exact Keeps.refl _

theorem mirrorRead_keeps (s : State) (w : Writer) (off : Nat) (len : Nat) :
    Keeps [Reg.PAR_SEAL_STATUS] [] s (mirrorRead s w off len).1 := by
  unfold mirrorRead
  try dsimp only
  split
  with_reducible refine (violate_keeps _).then_ (by decide) (by decide) ?_
  with_reducible exact Keeps.refl _
  split
  with_reducible refine (violate_keeps _).then_ (by decide) (by decide) ?_
  with_reducible exact Keeps.refl _
  split
  with_reducible exact Keeps.refl _
  split
  with_reducible exact Keeps.refl _
  with_reducible exact Keeps.refl _

theorem afterRead_keeps (s : State) (r : RegDesc) (base : Nat) (hiWord : Bool) :
    Keeps [Reg.every] [.wire] s (afterRead s r base hiWord) := by
  unfold afterRead
  try dsimp only
  with_reducible refine Keeps.ite (fun _ => ?_) (fun _ => ?_)
  with_reducible refine Keeps.wrEvery (by decide) ?_
  with_reducible refine (clearRead_keeps _ _ _ _).then_ (by decide) (by decide) ?_
  with_reducible exact Keeps.refl _
  with_reducible refine Keeps.ite (fun _ => ?_) (fun _ => ?_)
  with_reducible refine (showCnt_keeps _).then_ (by decide) (by decide) ?_
  with_reducible refine Keeps.set_wire rfl (by decide) ?_
  with_reducible refine (clearRead_keeps _ _ _ _).then_ (by decide) (by decide) ?_
  with_reducible exact Keeps.refl _
  with_reducible refine (clearRead_keeps _ _ _ _).then_ (by decide) (by decide) ?_
  with_reducible exact Keeps.refl _

theorem cfgRead_keeps (s : State) (w : Writer) (off : Nat) (len : Nat) :
    Keeps [Reg.every] [.latches, .wire] s (cfgRead s w off len).1 := by
  unfold cfgRead
  try dsimp only
  split
  with_reducible refine (violate_keeps _).then_ (by decide) (by decide) ?_
  with_reducible exact Keeps.refl _
  split
  with_reducible exact Keeps.refl _
  split
  with_reducible refine (afterRead_keeps _ _ _ _).then_ (by decide) (by decide) ?_
  with_reducible refine Keeps.set_latches (by decide) ?_
  with_reducible refine (refreshed_keeps _ _).then_ (by decide) (by decide) ?_
  with_reducible exact Keeps.refl _
  with_reducible refine (afterRead_keeps _ _ _ _).then_ (by decide) (by decide) ?_
  with_reducible refine Keeps.ite (fun _ => ?_) (fun _ => ?_)
  with_reducible refine (refreshed_keeps _ _).then_ (by decide) (by decide) ?_
  with_reducible exact Keeps.refl _
  with_reducible refine Keeps.set_latches (by decide) ?_
  with_reducible refine (refreshed_keeps _ _).then_ (by decide) (by decide) ?_
  with_reducible exact Keeps.refl _

theorem pageRead_keeps (s : State) (off : Nat) (len : Nat) :
    Keeps [] [.freeCtr] s (pageRead s off len).1 := by
  unfold pageRead
  try dsimp only
  split
  with_reducible exact Keeps.refl _
  split
  with_reducible exact Keeps.refl _
  split
  with_reducible refine (freeNext_keeps _).then_ (by decide) (by decide) ?_
  with_reducible exact Keeps.refl _
  split
  with_reducible exact Keeps.refl _
  with_reducible exact Keeps.refl _

theorem coreRead_keeps (s : State) (w : Writer) (a : Nat) (len : Nat) :
    Keeps [Reg.every] [.freeCtr, .latches, .banks, .wire, .out] s (coreRead s w a len) := by
  unfold coreRead
  try dsimp only
  with_reducible refine Keeps.ite (fun _ => ?_) (fun _ => ?_)
  with_reducible refine (emit_keeps _ _).then_ (by decide) (by decide) ?_
  with_reducible refine (cfgRead_keeps _ _ _ _).then_ (by decide) (by decide) ?_
  with_reducible exact Keeps.refl _
  with_reducible refine Keeps.ite (fun _ => ?_) (fun _ => ?_)
  with_reducible refine (emit_keeps _ _).then_ (by decide) (by decide) ?_
  with_reducible refine (pageRead_keeps _ _ _).then_ (by decide) (by decide) ?_
  with_reducible exact Keeps.refl _
  with_reducible refine Keeps.ite (fun _ => ?_) (fun _ => ?_)
  with_reducible refine (emit_keeps _ _).then_ (by decide) (by decide) ?_
  with_reducible refine (mirrorRead_keeps _ _ _ _).then_ (by decide) (by decide) ?_
  with_reducible exact Keeps.refl _
  with_reducible refine Keeps.ite (fun _ => ?_) (fun _ => ?_)
  with_reducible refine (emit_keeps _ _).then_ (by decide) (by decide) ?_
  with_reducible refine (bankWait_keeps _ _).then_ (by decide) (by decide) ?_
  with_reducible exact Keeps.refl _
  with_reducible refine Keeps.ite (fun _ => ?_) (fun _ => ?_)
  with_reducible refine Keeps.ite (fun _ => ?_) (fun _ => ?_)
  with_reducible refine (emit_keeps _ _).then_ (by decide) (by decide) ?_
  with_reducible exact Keeps.refl _
  with_reducible refine (emit_keeps _ _).then_ (by decide) (by decide) ?_
  with_reducible refine (tcmStranger_keeps _).then_ (by decide) (by decide) ?_
  with_reducible exact Keeps.refl _
  with_reducible refine Keeps.ite (fun _ => ?_) (fun _ => ?_)
  with_reducible refine Keeps.ite (fun _ => ?_) (fun _ => ?_)
  with_reducible refine (emit_keeps _ _).then_ (by decide) (by decide) ?_
  with_reducible exact Keeps.refl _
  with_reducible refine (emit_keeps _ _).then_ (by decide) (by decide) ?_
  with_reducible refine (freeNext_keeps _).then_ (by decide) (by decide) ?_
  with_reducible exact Keeps.refl _
  with_reducible refine (emit_keeps _ _).then_ (by decide) (by decide) ?_
  with_reducible exact Keeps.refl _

theorem execRcRegisterRead_keeps (w : Writer) (addr : Nat) (len : Nat) (s : State) :
    KeepsR [Reg.every] [.freeCtr, .latches, .banks, .wire, .out] s (execRcRegisterRead w addr len s) := by
  unfold execRcRegisterRead
  try dsimp only
  with_reducible refine KeepsR.whileCd ?_
  with_reducible refine (coreRead_keeps _ _ _ _).then_ (by decide) (by decide) ?_
  with_reducible exact Keeps.refl _

theorem startMedia_keeps (op : Nat) (h : DHdr) (b : List Byte) (s : State) :
    KeepsR [Reg.PAR_FAULT, Reg.PAR_EVT_CNT, Reg.SW_CNT_VAL, Reg.SW_MSEC_STAT, Reg.STO_CNT2, Reg.UPD_STATUS, Reg.TLY_CNT0] [.records, .freeCtr, .owed, .rng, .rings, .evt, .queue, .proxies, .loss, .wire, .sto, .out] s (startMedia op h b s) := by
  unfold startMedia
  try dsimp only
  split
  with_reducible exact (execStoRead_keeps _ _ _).mono (by decide) (by decide)
  with_reducible exact (execStoWrite_keeps _ _ _).mono (by decide) (by decide)
  with_reducible exact (execStoWriteAtomic_keeps _ _ _).mono (by decide) (by decide)
  with_reducible exact (execStoTrim_keeps _ _ _).mono (by decide) (by decide)
  with_reducible exact (execStoFlush_keeps _ _ _).mono (by decide) (by decide)
  with_reducible exact (execStoStatus_keeps _ _ _).mono (by decide) (by decide)

theorem startAct_keeps (op : Nat) (h : DHdr) (b : List Byte) (s : State) :
    KeepsR [Reg.every] [.records, .freeCtr, .owed, .rng, .rings, .evt, .queue, .proxies, .act, .chs, .loss, .wire, .out] s (startAct op h b s) := by
  unfold startAct
  try dsimp only
  split
  with_reducible exact (execActSet_keeps _ _ _).mono (by decide) (by decide)
  with_reducible exact (execActPulse_keeps _ _ _).mono (by decide) (by decide)
  with_reducible exact (execActPwm_keeps _ _ _).mono (by decide) (by decide)
  with_reducible exact (execActProfile_keeps _ _ _).mono (by decide) (by decide)
  with_reducible exact (execActBridge_keeps _ _ _).mono (by decide) (by decide)
  with_reducible exact (execActSequence_keeps _ _ _).mono (by decide) (by decide)
  with_reducible exact (execActRestart_keeps _ _ _).mono (by decide) (by decide)
  with_reducible exact (execActGrant_keeps _ _ _).mono (by decide) (by decide)
  with_reducible exact (execActClaim_keeps _ _ _).mono (by decide) (by decide)
  with_reducible exact (execActStatus_keeps _ _ _).mono (by decide) (by decide)
  with_reducible exact (execSafeAction_keeps _ _ _).mono (by decide) (by decide)

theorem startBus_keeps (op : Nat) (h : DHdr) (b : List Byte) (s : State) :
    KeepsR [Reg.PAR_FAULT, Reg.PAR_EVT_CNT, Reg.SW_CNT_VAL, Reg.SW_MSEC_STAT, Reg.SUB_CAN_STAT, Reg.SUB_LIN_STAT, Reg.SUB_CNT2, Reg.SUB_CNT3, Reg.TLY_CNT0] [.records, .freeCtr, .owed, .banks, .rng, .rings, .evt, .queue, .proxies, .loss, .sw, .wire, .sub, .out] s (startBus op h b s) := by
  unfold startBus
  try dsimp only
  split
  with_reducible exact (execCanTx_keeps _ _ _).mono (by decide) (by decide)
  with_reducible exact (execLinTx_keeps _ _ _).mono (by decide) (by decide)
  with_reducible exact (execRxBuf_keeps _ _ _ _).mono (by decide) (by decide)
  with_reducible exact (execLinSched_keeps _ _ _).mono (by decide) (by decide)
  with_reducible exact (execLinResp_keeps _ _ _).mono (by decide) (by decide)
  split
  with_reducible exact (execBusOnline_keeps _ _ _).mono (by decide) (by decide)
  with_reducible exact (execBusOffline_keeps _ _ _).mono (by decide) (by decide)
  with_reducible exact (execBusSleep_keeps _ _ _).mono (by decide) (by decide)
  with_reducible exact (execBusWake_keeps _ _ _).mono (by decide) (by decide)
  with_reducible exact (execBusRecover_keeps _ _ _).mono (by decide) (by decide)
  with_reducible refine busCtl_keeps (by decide) (by decide) (by decide) (fun _ _ _ => ?_)
  with_reducible exact KeepsO.none

theorem startSec_keeps (op : Nat) (h : DHdr) (b : List Byte) (media : Bool) (s : State) :
    KeepsR [Reg.PAR_SEAL_STATUS, Reg.PAR_FAULT, Reg.PAR_EVT_CNT, Reg.SW_CNT_VAL, Reg.SW_MSEC_STAT, Reg.SEC_KEY_STATE, Reg.UPD_STATUS, Reg.UPD_RB, Reg.UPD_LEFT, Reg.TLY_CNT0] [.memory, .records, .freeCtr, .owed, .banks, .rng, .rings, .evt, .queue, .proxies, .loss, .sw, .wire, .sto, .sec, .upd, .out] s (startSec op h b media s) := by
  unfold startSec
  try dsimp only
  split
  with_reducible exact (execSecRandom_keeps _ _ _).mono (by decide) (by decide)
  with_reducible exact (execSecAesGcm_keeps _ _ _).mono (by decide) (by decide)
  with_reducible exact (execSecSha256_keeps _ _ _).mono (by decide) (by decide)
  with_reducible exact (execSecHkdf_keeps _ _ _).mono (by decide) (by decide)
  with_reducible exact (execSecEcdsaSign_keeps _ _ _).mono (by decide) (by decide)
  with_reducible exact (execSecEcdsaVerify_keeps _ _ _).mono (by decide) (by decide)
  with_reducible exact (execSecMldsaVerify_keeps _ _ _).mono (by decide) (by decide)
  with_reducible exact (execSecKeyLoad_keeps _ _ _).mono (by decide) (by decide)
  with_reducible exact (execSecKeyClear_keeps _ _ _).mono (by decide) (by decide)
  with_reducible exact (execSecCmac_keeps _ _ _).mono (by decide) (by decide)
  with_reducible exact (execSecPubkey_keeps _ _ _).mono (by decide) (by decide)
  with_reducible exact (execKeyProvision_keeps _ _ _).mono (by decide) (by decide)
  with_reducible exact (execMsecInstall_keeps _ _ _).mono (by decide) (by decide)
  with_reducible exact (execMsecRetire_keeps _ _ _).mono (by decide) (by decide)
  with_reducible exact (execUpdVerify_keeps _ _ _ _).mono (by decide) (by decide)
  with_reducible exact (execUpdArm_keeps _ _ _).mono (by decide) (by decide)
  with_reducible exact (execUpdDisarm_keeps _ _ _).mono (by decide) (by decide)
  with_reducible exact (execUpdConfirm_keeps _ _ _).mono (by decide) (by decide)

theorem startOther_keeps (eng : Nat) (op : Nat) (h : DHdr) (b : List Byte) (samples : List Byte) (back : Nat) (s : State) :
    KeepsR [Reg.PAR_FAULT, Reg.PAR_EVT_CNT, Reg.SIN_SCHED, Reg.SIN_SNS_CNT, Reg.SIN_STREAMS, Reg.SW_CNT_VAL, Reg.SW_STATUS, Reg.SW_BUF_STATUS, Reg.SW_MSEC_STAT, Reg.INF_CTX_STAT, Reg.INF_CTX_EXEC, Reg.INF_MEM, Reg.TLY_CNT0] [.memory, .records, .freeCtr, .owed, .banks, .rng, .rings, .evt, .queue, .proxies, .loss, .sns, .sw, .wire, .sub, .inf, .out] s (startOther eng op h b samples back s) := by
  unfold startOther
  try dsimp only
  split
  with_reducible exact (execSnsOpen_keeps _ _ _).mono (by decide) (by decide)
  with_reducible exact (execSnsClose_keeps _ _ _ _ _).mono (by decide) (by decide)
  with_reducible exact (execStreamRelease_keeps _ _ _).mono (by decide) (by decide)
  with_reducible exact (execSnsRead_keeps _ _ _).mono (by decide) (by decide)
  with_reducible exact (execNetTx_keeps _ _ _).mono (by decide) (by decide)
  with_reducible exact (execRxBuf_keeps _ _ _ _).mono (by decide) (by decide)
  with_reducible exact (execFlushTable_keeps _ _ _).mono (by decide) (by decide)
  with_reducible exact (execInfLoad_keeps _ _ _).mono (by decide) (by decide)
  with_reducible exact (execInfUnload_keeps _ _ _).mono (by decide) (by decide)
  with_reducible exact (execInfRun_keeps _ _ _).mono (by decide) (by decide)

theorem startOf_keeps (w : Work) (h : DHdr) (media : Bool) (samples : List Byte) (back : Nat) (s : State) :
    KeepsR [Reg.every] [.memory, .records, .freeCtr, .owed, .banks, .rng, .rings, .evt, .queue, .proxies, .act, .chs, .loss, .sns, .sw, .wire, .sub, .inf, .sto, .sec, .upd, .out] s (startOf w h media samples back s) := by
  unfold startOf
  try dsimp only
  split
  with_reducible exact (execNop_keeps _ _ _ _).mono (by decide) (by decide)
  split
  with_reducible exact (execCancel_keeps _ _ _ _).mono (by decide) (by decide)
  split
  with_reducible exact (startAct_keeps _ _ _ _).mono (by decide) (by decide)
  with_reducible exact (startBus_keeps _ _ _ _).mono (by decide) (by decide)
  with_reducible exact (startMedia_keeps _ _ _ _).mono (by decide) (by decide)
  with_reducible exact (startSec_keeps _ _ _ _ _).mono (by decide) (by decide)
  with_reducible exact (startOther_keeps _ _ _ _ _ _ _).mono (by decide) (by decide)

theorem execTimedStart_keeps (part : Fin 8) (eng : Fin 7) (ring : Fin 4) (media : Bool) (samples : List Byte) (back : Nat) (s : State) :
    KeepsR [Reg.every] [.memory, .records, .freeCtr, .owed, .banks, .rng, .rings, .evt, .queue, .proxies, .act, .chs, .loss, .sns, .sw, .wire, .sub, .inf, .sto, .sec, .upd, .out] s (execTimedStart part eng ring media samples back s) := by
  unfold execTimedStart
  try dsimp only
  split
  with_reducible refine KeepsR.next ?_
  with_reducible exact Keeps.refl _
  split
  with_reducible refine KeepsR.next ?_
  with_reducible exact Keeps.refl _
  split
  with_reducible refine KeepsR.next ?_
  with_reducible exact Keeps.refl _
  split
  with_reducible exact (startOf_keeps _ _ _ _ _ _).mono (by decide) (by decide)
  with_reducible refine KeepsR.next ?_
  with_reducible refine (complete_keeps _ _ _ _ _ _).then_ (by decide) (by decide) ?_
  with_reducible exact Keeps.refl _

end Sys2Proof.Machine
end

