-- ==== Sys2Proof/Laws/Scaler.lean ====
section
/-! SUPPORT.
What the operations of Machine/Scaler.lean change, and that they keep a sound state sound.
-/

namespace Sys2Proof.Machine

theorem showMeas_keeps (s : State) (m : ChMeas) :
    Keeps [Reg.HS_MEAS, Reg.HB_MEAS, Reg.SV_MEAS, Reg.LED_MEAS, Reg.FIO_MEAS] [.chs] s (showMeas s m) := by
  unfold showMeas
  try dsimp only
  split
  with_reducible refine Keeps.wr (in_HS_MEAS_CURRENT _) (by decide) ?_
  with_reducible exact Keeps.refl _
  with_reducible refine Keeps.wrInt (in_HB_MEAS_CURRENT _) (by decide) ?_
  with_reducible exact Keeps.refl _
  with_reducible refine Keeps.ite (fun _ => ?_) (fun _ => ?_)
  with_reducible refine (setChn_keeps _ _ _).then_ (by decide) (by decide) ?_
  with_reducible refine Keeps.ite (fun _ => ?_) (fun _ => ?_)
  with_reducible exact Keeps.refl _
  with_reducible refine Keeps.wr (in_SV_MEAS_CURRENT _) (by decide) ?_
  with_reducible exact Keeps.refl _
  with_reducible refine Keeps.ite (fun _ => ?_) (fun _ => ?_)
  with_reducible exact Keeps.refl _
  with_reducible refine Keeps.wr (in_SV_MEAS_CURRENT _) (by decide) ?_
  with_reducible exact Keeps.refl _
  with_reducible refine Keeps.wr (in_LED_MEAS_VSINK _) (by decide) ?_
  with_reducible refine Keeps.wr (in_LED_MEAS_CURRENT _) (by decide) ?_
  with_reducible exact Keeps.refl _
  with_reducible refine Keeps.wr (in_FIO_MEAS_VPIN _) (by decide) ?_
  with_reducible refine Keeps.wr (in_FIO_MEAS_CURRENT _) (by decide) ?_
  with_reducible exact Keeps.refl _

theorem wireStep_keeps (x : ScalerIn) (s : State) (c : Chan) :
    Keeps [Reg.PAR_EVT_CNT, Reg.HS_STATE, Reg.SW_CNT_VAL, Reg.SW_MSEC_STAT, Reg.TLY_CNT0] [.records, .owed, .rings, .evt, .queue, .proxies, .chs, .loss, .wire, .out] s (wireStep x s c) := by
  unfold wireStep
  try dsimp only
  with_reducible refine Keeps.ite (fun _ => ?_) (fun _ => ?_)
  with_reducible refine (setChn_keeps _ _ _).then_ (by decide) (by decide) ?_
  with_reducible exact Keeps.refl _
  with_reducible refine Keeps.ite (fun _ => ?_) (fun _ => ?_)
  with_reducible refine (raise_keeps _ _ _ _ _).then_ (by decide) (by decide) ?_
  with_reducible refine Keeps.ite (fun _ => ?_) (fun _ => ?_)
  with_reducible refine Keeps.wr (in_HS_STATE_WIRE_PCT _) (by decide) ?_
  with_reducible refine (setChn_keeps _ _ _).then_ (by decide) (by decide) ?_
  with_reducible exact Keeps.refl _
  with_reducible refine (setChn_keeps _ _ _).then_ (by decide) (by decide) ?_
  with_reducible exact Keeps.refl _
  with_reducible refine Keeps.ite (fun _ => ?_) (fun _ => ?_)
  with_reducible refine Keeps.wr (in_HS_STATE_WIRE_PCT _) (by decide) ?_
  with_reducible refine (setChn_keeps _ _ _).then_ (by decide) (by decide) ?_
  with_reducible exact Keeps.refl _
  with_reducible refine (setChn_keeps _ _ _).then_ (by decide) (by decide) ?_
  with_reducible exact Keeps.refl _

theorem setBudget_keeps (s : State) (p : Nat) (b : Budget) :
    Keeps [] [.scl] s (setBudget s p b) := by
  unfold setBudget
  try dsimp only
  with_reducible refine Keeps.set_scl (by decide) ⟨rfl, rfl⟩ ?_
  with_reducible exact Keeps.refl _

theorem setCeil_keeps (v : Chan → State → Nat) (s : State) (c : Chan) :
    Keeps [] [.chs] s (setCeil v s c) := by
  unfold setCeil
  try dsimp only
  with_reducible refine (setChn_keeps _ _ _).then_ (by decide) (by decide) ?_
  with_reducible exact Keeps.refl _

theorem chargeHeat_keeps (s : State) (x : ScalerIn) (p : Nat) :
    Keeps [Reg.SCL_PMEAS, Reg.SCL_PENERGY] [.scl] s (chargeHeat s x p) := by
  unfold chargeHeat
  try dsimp only
  with_reducible refine Keeps.wr (in_SCL_PENERGY_E_WIN _) (by decide) ?_
  with_reducible refine Keeps.wr (in_SCL_PMEAS_H_MEAN _) (by decide) ?_
  with_reducible refine Keeps.wr (in_SCL_PMEAS_I_MEAN _) (by decide) ?_
  with_reducible refine (setBudget_keeps _ _ _).then_ (by decide) (by decide) ?_
  with_reducible exact Keeps.refl _

theorem showBits_keeps (s : State) (p : Nat) (bs : Nat) :
    Keeps [Reg.PAR_BUDGET] [] s (showBits s p bs) := by
  unfold showBits
  try dsimp only
  with_reducible refine Keeps.foldl (fun _ _ => ?_) _ ?_
  with_reducible refine Keeps.put (in_PAR_BUDGET_DERATING _ _) (by decide) ?_
  with_reducible exact Keeps.refl _
  with_reducible exact Keeps.refl _

theorem derate_keeps (s : State) (p : Nat) (bs : Nat) (vals : List (Nat × Nat)) :
    Keeps [Reg.PAR_EVT_CNT, Reg.SCL_CNT, Reg.SW_CNT_VAL, Reg.SW_MSEC_STAT, Reg.TLY_CNT0] [.records, .owed, .rings, .evt, .queue, .proxies, .chs, .scl, .loss, .wire, .out] s (derate s p bs vals) := by
  unfold derate
  try dsimp only
  with_reducible refine Keeps.ite (fun _ => ?_) (fun _ => ?_)
  with_reducible refine Keeps.ite (fun _ => ?_) (fun _ => ?_)
  with_reducible refine Keeps.foldl (fun _ _ => ?_) _ ?_
  with_reducible refine (setCeil_keeps _ _ _).then_ (by decide) (by decide) ?_
  with_reducible exact Keeps.refl _
  with_reducible exact Keeps.refl _
  with_reducible refine Keeps.bump (in_SCL_CNT_DERATE_STEPS) (by decide) ?_
  with_reducible refine Keeps.foldl (fun _ _ => ?_) _ ?_
  with_reducible refine (setCeil_keeps _ _ _).then_ (by decide) (by decide) ?_
  with_reducible exact Keeps.refl _
  with_reducible exact Keeps.refl _
  with_reducible refine (setBudget_keeps _ _ _).then_ (by decide) (by decide) ?_
  with_reducible refine (raise_keeps _ _ _ _ _).then_ (by decide) (by decide) ?_
  with_reducible refine Keeps.ite (fun _ => ?_) (fun _ => ?_)
  with_reducible refine Keeps.foldl (fun _ _ => ?_) _ ?_
  with_reducible refine (setCeil_keeps _ _ _).then_ (by decide) (by decide) ?_
  with_reducible exact Keeps.refl _
  with_reducible exact Keeps.refl _
  with_reducible refine Keeps.bump (in_SCL_CNT_DERATE_STEPS) (by decide) ?_
  with_reducible refine Keeps.foldl (fun _ _ => ?_) _ ?_
  with_reducible refine (setCeil_keeps _ _ _).then_ (by decide) (by decide) ?_
  with_reducible exact Keeps.refl _
  with_reducible exact Keeps.refl _

theorem shed_keeps (s : State) (p : Nat) (bs : Nat) :
    Keeps [Reg.PAR_EVT_CNT, Reg.ACT_CNT, Reg.HS_STATE, Reg.HB_STATE, Reg.SV_STATE, Reg.SV_KRES, Reg.SV_CNT2, Reg.LED_STATE, Reg.FIO_CAUSE, Reg.SW_CNT_VAL, Reg.SW_MSEC_STAT, Reg.TLY_CNT0] [.records, .freeCtr, .owed, .rng, .rings, .evt, .queue, .proxies, .chs, .scl, .loss, .wire, .out] s (shed s p bs) := by
  unfold shed
  try dsimp only
  split
  with_reducible refine (setBudget_keeps _ _ _).then_ (by decide) (by decide) ?_
  with_reducible exact Keeps.refl _
  with_reducible refine (raise_keeps _ _ _ _ _).then_ (by decide) (by decide) ?_
  with_reducible refine (setChn_keeps _ _ _).then_ (by decide) (by decide) ?_
  with_reducible refine (cutOff_keeps _ _ _ _).then_ (by decide) (by decide) ?_
  with_reducible refine (setBudget_keeps _ _ _).then_ (by decide) (by decide) ?_
  with_reducible exact Keeps.refl _

theorem escalate_keeps (s : State) (p : Nat) (bs : Nat) (e : PartEntry) :
    Keeps [Reg.CHN_ATTACH, Reg.PAR_STATE, Reg.PAR_RST_CFG, Reg.PAR_EVT_CNT, Reg.PAR_BUDGET, Reg.ACT_CLAIM, Reg.ACT_CNT, Reg.HS_STATE, Reg.HB_STATE, Reg.SV_STATE, Reg.SV_KRES, Reg.SV_CNT2, Reg.LED_STATE, Reg.FIO_CAUSE, Reg.SIN_SCHED, Reg.SIN_STREAMS, Reg.SW_CNT_VAL, Reg.SW_BUF_STATUS, Reg.SW_MSEC_STAT, Reg.INF_CTX_STAT, Reg.INF_CTX_EXEC, Reg.INF_MEM, Reg.STO_WB_STATUS, Reg.SEC_KEY_STATE, Reg.TLY_CNT0] [.records, .layout, .freeCtr, .pwr, .owed, .par, .rng, .rings, .evt, .queue, .proxies, .act, .chs, .scl, .loss, .sns, .sw, .wire, .sub, .brd, .inf, .sto, .sec, .out] s (escalate s p bs e) := by
  unfold escalate
  try dsimp only
  with_reducible refine Keeps.ite (fun _ => ?_) (fun _ => ?_)
  with_reducible refine Keeps.ite (fun _ => ?_) (fun _ => ?_)
  with_reducible refine (shed_keeps _ _ _).then_ (by decide) (by decide) ?_
  with_reducible exact Keeps.refl _
  with_reducible refine (setBudget_keeps _ _ _).then_ (by decide) (by decide) ?_
  with_reducible exact Keeps.refl _
  with_reducible refine Keeps.ite (fun _ => ?_) (fun _ => ?_)
  with_reducible refine (setBudget_keeps _ _ _).then_ (by decide) (by decide) ?_
  with_reducible exact Keeps.refl _
  with_reducible refine Keeps.ite (fun _ => ?_) (fun _ => ?_)
  with_reducible refine (setBudget_keeps _ _ _).then_ (by decide) (by decide) ?_
  with_reducible exact Keeps.refl _
  with_reducible refine Keeps.ite (fun _ => ?_) (fun _ => ?_)
  with_reducible refine (shed_keeps _ _ _).then_ (by decide) (by decide) ?_
  with_reducible refine Keeps.bump (in_PAR_BUDGET_ESCALATIONS _) (by decide) ?_
  with_reducible refine (setBudget_keeps _ _ _).then_ (by decide) (by decide) ?_
  with_reducible refine (setBudget_keeps _ _ _).then_ (by decide) (by decide) ?_
  with_reducible exact Keeps.refl _
  with_reducible refine (beginReset_keeps _ _ _).then_ (by decide) (by decide) ?_
  with_reducible refine (raise_keeps _ _ _ _ _).then_ (by decide) (by decide) ?_
  with_reducible refine Keeps.bump (in_PAR_BUDGET_ESCALATIONS _) (by decide) ?_
  with_reducible refine (setBudget_keeps _ _ _).then_ (by decide) (by decide) ?_
  with_reducible refine (setBudget_keeps _ _ _).then_ (by decide) (by decide) ?_
  with_reducible exact Keeps.refl _

theorem restoreStep_keeps (s : State) (p : Nat) (below : Bool) :
    Keeps [] [.chs, .scl] s (restoreStep s p below) := by
  unfold restoreStep
  try dsimp only
  with_reducible refine Keeps.ite (fun _ => ?_) (fun _ => ?_)
  split
  with_reducible refine Keeps.foldl (fun _ _ => ?_) _ ?_
  with_reducible refine (setCeil_keeps _ _ _).then_ (by decide) (by decide) ?_
  with_reducible exact Keeps.refl _
  with_reducible refine (setBudget_keeps _ _ _).then_ (by decide) (by decide) ?_
  with_reducible exact Keeps.refl _
  with_reducible refine (setBudget_keeps _ _ _).then_ (by decide) (by decide) ?_
  with_reducible exact Keeps.refl _
  with_reducible refine (setBudget_keeps _ _ _).then_ (by decide) (by decide) ?_
  with_reducible exact Keeps.refl _

theorem budgetStep_keeps (x : ScalerIn) (s0 : State) (p : Nat) :
    Keeps [Reg.CHN_ATTACH, Reg.PAR_STATE, Reg.PAR_RST_CFG, Reg.PAR_EVT_CNT, Reg.PAR_BUDGET, Reg.ACT_CLAIM, Reg.ACT_CNT, Reg.HS_STATE, Reg.HB_STATE, Reg.SV_STATE, Reg.SV_KRES, Reg.SV_CNT2, Reg.LED_STATE, Reg.FIO_CAUSE, Reg.SIN_SCHED, Reg.SIN_STREAMS, Reg.SCL_PMEAS, Reg.SCL_PENERGY, Reg.SCL_CNT, Reg.SW_CNT_VAL, Reg.SW_BUF_STATUS, Reg.SW_MSEC_STAT, Reg.INF_CTX_STAT, Reg.INF_CTX_EXEC, Reg.INF_MEM, Reg.STO_WB_STATUS, Reg.SEC_KEY_STATE, Reg.TLY_CNT0] [.records, .layout, .freeCtr, .pwr, .owed, .par, .rng, .rings, .evt, .queue, .proxies, .act, .chs, .scl, .loss, .sns, .sw, .wire, .sub, .brd, .inf, .sto, .sec, .out] s0 (budgetStep x s0 p) := by
  unfold budgetStep
  try dsimp only
  split
  with_reducible exact Keeps.refl _
  with_reducible refine Keeps.ite (fun _ => ?_) (fun _ => ?_)
  with_reducible refine (showBits_keeps _ _ _).then_ (by decide) (by decide) ?_
  with_reducible refine (setBudget_keeps _ _ _).then_ (by decide) (by decide) ?_
  with_reducible refine (chargeHeat_keeps _ _ _).then_ (by decide) (by decide) ?_
  with_reducible exact Keeps.refl _
  with_reducible refine Keeps.ite (fun _ => ?_) (fun _ => ?_)
  with_reducible refine (restoreStep_keeps _ _ _).then_ (by decide) (by decide) ?_
  with_reducible refine (showBits_keeps _ _ _).then_ (by decide) (by decide) ?_
  with_reducible refine (setBudget_keeps _ _ _).then_ (by decide) (by decide) ?_
  with_reducible refine (chargeHeat_keeps _ _ _).then_ (by decide) (by decide) ?_
  with_reducible exact Keeps.refl _
  with_reducible refine (escalate_keeps _ _ _ _).then_ (by decide) (by decide) ?_
  with_reducible refine (derate_keeps _ _ _ _).then_ (by decide) (by decide) ?_
  with_reducible refine (setBudget_keeps _ _ _).then_ (by decide) (by decide) ?_
  with_reducible refine (showBits_keeps _ _ _).then_ (by decide) (by decide) ?_
  with_reducible refine (setBudget_keeps _ _ _).then_ (by decide) (by decide) ?_
  with_reducible refine (chargeHeat_keeps _ _ _).then_ (by decide) (by decide) ?_
  with_reducible exact Keeps.refl _

theorem pkgEvent_keeps (s : State) (x : ScalerIn) (cause : Nat) :
    Keeps [Reg.PAR_EVT_CNT, Reg.SW_CNT_VAL, Reg.SW_MSEC_STAT, Reg.TLY_CNT0] [.records, .owed, .rings, .evt, .queue, .proxies, .loss, .wire, .out] s (pkgEvent s x cause) := by
  unfold pkgEvent
  try dsimp only
  with_reducible refine (raise_keeps _ _ _ _ _).then_ (by decide) (by decide) ?_
  with_reducible exact Keeps.refl _

theorem pkgMove_keeps (s : State) (x : ScalerIn) (mean : Nat) (cause : Nat) :
    Keeps [Reg.PAR_EVT_CNT, Reg.SCL_STATUS, Reg.SCL_CNT, Reg.SW_CNT_VAL, Reg.SW_MSEC_STAT, Reg.TLY_CNT0] [.records, .owed, .rings, .evt, .queue, .proxies, .scl, .loss, .wire, .out] s (pkgMove s x mean cause) := by
  unfold pkgMove
  try dsimp only
  with_reducible refine Keeps.ite (fun _ => ?_) (fun _ => ?_)
  with_reducible exact Keeps.refl _
  with_reducible refine Keeps.ite (fun _ => ?_) (fun _ => ?_)
  with_reducible refine Keeps.ite (fun _ => ?_) (fun _ => ?_)
  with_reducible refine Keeps.ite (fun _ => ?_) (fun _ => ?_)
  with_reducible refine (pkgEvent_keeps _ _ _).then_ (by decide) (by decide) ?_
  with_reducible refine Keeps.bump (in_SCL_CNT_PKG_EPISODES) (by decide) ?_
  with_reducible refine Keeps.wr (in_SCL_STATUS_PKG_FACTOR) (by decide) ?_
  with_reducible refine Keeps.set_scl (by decide) ⟨rfl, rfl⟩ ?_
  with_reducible exact Keeps.refl _
  with_reducible refine Keeps.wr (in_SCL_STATUS_PKG_FACTOR) (by decide) ?_
  with_reducible refine Keeps.set_scl (by decide) ⟨rfl, rfl⟩ ?_
  with_reducible exact Keeps.refl _
  with_reducible refine Keeps.set_scl (by decide) ⟨rfl, rfl⟩ ?_
  with_reducible exact Keeps.refl _
  with_reducible refine Keeps.ite (fun _ => ?_) (fun _ => ?_)
  with_reducible refine Keeps.ite (fun _ => ?_) (fun _ => ?_)
  with_reducible refine (pkgEvent_keeps _ _ _).then_ (by decide) (by decide) ?_
  with_reducible refine Keeps.wr (in_SCL_STATUS_PKG_FACTOR) (by decide) ?_
  with_reducible refine Keeps.set_scl (by decide) ⟨rfl, rfl⟩ ?_
  with_reducible exact Keeps.refl _
  with_reducible refine Keeps.wr (in_SCL_STATUS_PKG_FACTOR) (by decide) ?_
  with_reducible refine Keeps.set_scl (by decide) ⟨rfl, rfl⟩ ?_
  with_reducible exact Keeps.refl _
  with_reducible refine Keeps.set_scl (by decide) ⟨rfl, rfl⟩ ?_
  with_reducible exact Keeps.refl _

theorem pkgStep_keeps (s0 : State) (x : ScalerIn) :
    Keeps [Reg.PAR_EVT_CNT, Reg.SCL_STATUS, Reg.SCL_CNT, Reg.SW_CNT_VAL, Reg.SW_MSEC_STAT, Reg.TLY_CNT0] [.records, .owed, .rings, .evt, .queue, .proxies, .scl, .loss, .wire, .out] s0 (pkgStep s0 x) := by
  unfold pkgStep
  try dsimp only
  with_reducible refine Keeps.put (in_SCL_STATUS_PKG_ACTIVE) (by decide) ?_
  with_reducible refine (pkgMove_keeps _ _ _ _).then_ (by decide) (by decide) ?_
  with_reducible refine Keeps.wr (in_SCL_STATUS_PKG_P) (by decide) ?_
  with_reducible refine Keeps.set_scl (by decide) ⟨rfl, rfl⟩ ?_
  with_reducible exact Keeps.refl _

theorem learnStep_keeps (s0 : State) (n : Nat) :
    Keeps [Reg.PAR_EVT_CNT, Reg.SV_LSTATE, Reg.SV_CNT2, Reg.SW_CNT_VAL, Reg.SW_MSEC_STAT, Reg.TLY_CNT0] [.records, .owed, .rings, .evt, .queue, .proxies, .chs, .loss, .wire, .out] s0 (learnStep s0 n) := by
  unfold learnStep
  try dsimp only
  split
  with_reducible exact Keeps.refl _
  with_reducible refine Keeps.ite (fun _ => ?_) (fun _ => ?_)
  with_reducible refine (setChn_keeps _ _ _).then_ (by decide) (by decide) ?_
  with_reducible exact Keeps.refl _
  with_reducible refine Keeps.ite (fun _ => ?_) (fun _ => ?_)
  with_reducible refine Keeps.wr (in_SV_LSTATE_BACKOFF _) (by decide) ?_
  with_reducible refine (setChn_keeps _ _ _).then_ (by decide) (by decide) ?_
  with_reducible exact Keeps.refl _
  with_reducible refine Keeps.ite (fun _ => ?_) (fun _ => ?_)
  with_reducible refine Keeps.bump (in_SV_LSTATE_LCOUNT _) (by decide) ?_
  with_reducible refine Keeps.put (in_SV_LSTATE_LVALID _) (by decide) ?_
  with_reducible refine Keeps.wr (in_SV_LSTATE_T_LEARN _) (by decide) ?_
  with_reducible refine (setChn_keeps _ _ _).then_ (by decide) (by decide) ?_
  with_reducible exact Keeps.refl _
  with_reducible refine Keeps.ite (fun _ => ?_) (fun _ => ?_)
  with_reducible refine (raise_keeps _ _ _ _ _).then_ (by decide) (by decide) ?_
  with_reducible refine Keeps.bump (in_SV_CNT2_LEARN_RESETS) (by decide) ?_
  with_reducible refine Keeps.wr (in_SV_LSTATE_BACKOFF _) (by decide) ?_
  with_reducible refine Keeps.wr (in_SV_LSTATE_LCOUNT _) (by decide) ?_
  with_reducible refine Keeps.put (in_SV_LSTATE_LVALID _) (by decide) ?_
  with_reducible refine (setChn_keeps _ _ _).then_ (by decide) (by decide) ?_
  with_reducible exact Keeps.refl _
  with_reducible refine (setChn_keeps _ _ _).then_ (by decide) (by decide) ?_
  with_reducible exact Keeps.refl _

theorem keepFeeds_keeps (s : State) (x : ScalerIn) :
    Keeps [] [.scl] s (keepFeeds s x) := by
  unfold keepFeeds
  try dsimp only
  with_reducible refine Keeps.set_scl (by decide) ⟨rfl, rfl⟩ ?_
  with_reducible exact Keeps.refl _

theorem execScalerStep_keeps (x : ScalerIn) (s : State) :
    KeepsR [Reg.CHN_ATTACH, Reg.PAR_STATE, Reg.PAR_RST_CFG, Reg.PAR_EVT_CNT, Reg.PAR_BUDGET, Reg.ACT_CLAIM, Reg.ACT_CNT, Reg.HS_MEAS, Reg.HS_STATE, Reg.HB_MEAS, Reg.HB_STATE, Reg.SV_MEAS, Reg.SV_STATE, Reg.SV_KRES, Reg.SV_LSTATE, Reg.SV_CNT2, Reg.LED_STATE, Reg.LED_MEAS, Reg.FIO_CAUSE, Reg.FIO_MEAS, Reg.SIN_SCHED, Reg.SIN_STREAMS, Reg.SCL_STATUS, Reg.SCL_PMEAS, Reg.SCL_PENERGY, Reg.SCL_CNT, Reg.SW_CNT_VAL, Reg.SW_BUF_STATUS, Reg.SW_MSEC_STAT, Reg.INF_CTX_STAT, Reg.INF_CTX_EXEC, Reg.INF_MEM, Reg.STO_WB_STATUS, Reg.SEC_KEY_STATE, Reg.TLY_CNT0, Reg.EVT_INJ_STATUS] [.records, .layout, .freeCtr, .pwr, .owed, .par, .rng, .rings, .evt, .queue, .proxies, .act, .chs, .scl, .loss, .sns, .sw, .wire, .sub, .brd, .inf, .sto, .sec, .flt, .out] s (execScalerStep x s) := by
  unfold execScalerStep
  try dsimp only
  with_reducible refine KeepsR.next ?_
  with_reducible refine Keeps.ite (fun _ => ?_) (fun _ => ?_)
  with_reducible exact Keeps.refl _
  with_reducible refine Keeps.ite (fun _ => ?_) (fun _ => ?_)
  with_reducible refine Keeps.set_flt (by decide) ?_
  with_reducible refine Keeps.bump (in_EVT_INJ_STATUS_DONE) (by decide) ?_
  with_reducible refine Keeps.wr (in_EVT_INJ_STATUS_PENDING) (by decide) ?_
  with_reducible refine (keepFeeds_keeps _ _).then_ (by decide) (by decide) ?_
  with_reducible exact Keeps.refl _
  with_reducible refine Keeps.foldl (fun _ _ => ?_) _ ?_
  with_reducible refine (showCh_keeps _ _).then_ (by decide) (by decide) ?_
  with_reducible exact Keeps.refl _
  with_reducible refine Keeps.foldl (fun _ _ => ?_) _ ?_
  with_reducible refine (learnStep_keeps _ _).then_ (by decide) (by decide) ?_
  with_reducible exact Keeps.refl _
  with_reducible refine (pkgStep_keeps _ _).then_ (by decide) (by decide) ?_
  with_reducible refine Keeps.foldl (fun _ _ => ?_) _ ?_
  with_reducible refine (budgetStep_keeps _ _ _).then_ (by decide) (by decide) ?_
  with_reducible exact Keeps.refl _
  with_reducible refine Keeps.foldl (fun _ _ => ?_) _ ?_
  with_reducible refine (wireStep_keeps _ _ _).then_ (by decide) (by decide) ?_
  with_reducible exact Keeps.refl _
  with_reducible refine Keeps.foldl (fun _ _ => ?_) _ ?_
  with_reducible refine (showMeas_keeps _ _).then_ (by decide) (by decide) ?_
  with_reducible exact Keeps.refl _
  with_reducible refine (keepFeeds_keeps _ _).then_ (by decide) (by decide) ?_
  with_reducible exact Keeps.refl _

theorem pinFloors_keeps (s : State) :
    Keeps [Reg.HS_STATE, Reg.HB_STATE, Reg.SV_STATE, Reg.LED_STATE, Reg.FIO_CAUSE, Reg.SCL_STATUS] [.chs, .scl] s (pinFloors s) := by
  unfold pinFloors
  try dsimp only
  with_reducible refine Keeps.foldl (fun _ _ => ?_) _ ?_
  with_reducible refine (showCh_keeps _ _).then_ (by decide) (by decide) ?_
  with_reducible exact Keeps.refl _
  with_reducible refine Keeps.wr (in_SCL_STATUS_PKG_FACTOR) (by decide) ?_
  with_reducible refine Keeps.set_scl (by decide) ⟨rfl, rfl⟩ ?_
  with_reducible refine Keeps.foldl (fun _ _ => ?_) _ ?_
  with_reducible refine (setCeil_keeps _ _ _).then_ (by decide) (by decide) ?_
  with_reducible exact Keeps.refl _
  with_reducible exact Keeps.refl _

theorem execScalerRestart_keeps (cause : Fin 4) (s : State) :
    KeepsR [Reg.PAR_EVT_CNT, Reg.HS_STATE, Reg.HB_STATE, Reg.SV_STATE, Reg.LED_STATE, Reg.FIO_CAUSE, Reg.SCL_STATUS, Reg.SCL_CNT, Reg.SW_CNT_VAL, Reg.SW_MSEC_STAT, Reg.TLY_CNT0] [.records, .owed, .rings, .evt, .queue, .proxies, .chs, .scl, .loss, .wire, .out] s (execScalerRestart cause s) := by
  unfold execScalerRestart
  try dsimp only
  with_reducible refine KeepsR.next ?_
  with_reducible refine Keeps.ite (fun _ => ?_) (fun _ => ?_)
  with_reducible exact Keeps.refl _
  with_reducible refine Keeps.ite (fun _ => ?_) (fun _ => ?_)
  with_reducible refine (pinFloors_keeps _).then_ (by decide) (by decide) ?_
  with_reducible refine (tally_keeps _ _ _).then_ (by decide) (by decide) ?_
  with_reducible refine (raise_keeps _ _ _ _ _).then_ (by decide) (by decide) ?_
  with_reducible refine Keeps.bump (in_SCL_CNT_SCL_RESTARTS) (by decide) ?_
  with_reducible refine Keeps.set_scl (by decide) ⟨rfl, rfl⟩ ?_
  with_reducible exact Keeps.refl _
  with_reducible refine (tally_keeps _ _ _).then_ (by decide) (by decide) ?_
  with_reducible refine (raise_keeps _ _ _ _ _).then_ (by decide) (by decide) ?_
  with_reducible refine Keeps.bump (in_SCL_CNT_SCL_RESTARTS) (by decide) ?_
  with_reducible refine Keeps.set_scl (by decide) ⟨rfl, rfl⟩ ?_
  with_reducible exact Keeps.refl _

theorem resumeWait_keeps (s : State) (c : Chan) :
    Keeps [] [.chs] s (resumeWait s c) := by
  unfold resumeWait
  try dsimp only
  with_reducible refine Keeps.ite (fun _ => ?_) (fun _ => ?_)
  with_reducible refine (setChn_keeps _ _ _).then_ (by decide) (by decide) ?_
  with_reducible exact Keeps.refl _
  with_reducible exact Keeps.refl _

theorem execStormEnd_keeps (s : State) :
    KeepsR [Reg.PAR_EVT_CNT, Reg.SCL_STATUS, Reg.SW_CNT_VAL, Reg.SW_MSEC_STAT, Reg.TLY_CNT0] [.records, .owed, .rings, .evt, .queue, .proxies, .chs, .loss, .wire, .out] s (execStormEnd s) := by
  unfold execStormEnd
  try dsimp only
  with_reducible refine KeepsR.next ?_
  with_reducible refine Keeps.ite (fun _ => ?_) (fun _ => ?_)
  with_reducible refine (raise_keeps _ _ _ _ _).then_ (by decide) (by decide) ?_
  with_reducible refine Keeps.put (in_SCL_STATUS_STORM) (by decide) ?_
  with_reducible refine Keeps.foldl (fun _ _ => ?_) _ ?_
  with_reducible refine (resumeWait_keeps _ _).then_ (by decide) (by decide) ?_
  with_reducible exact Keeps.refl _
  with_reducible exact Keeps.refl _
  with_reducible exact Keeps.refl _

theorem execLossWindowEnd_keeps (s : State) :
    KeepsR [Reg.PAR_EVT_CNT, Reg.SCL_STATUS, Reg.SCL_OVL_CNT, Reg.SW_CNT_VAL, Reg.SW_MSEC_STAT, Reg.TLY_CNT0] [.records, .owed, .rings, .evt, .queue, .proxies, .scl, .loss, .wire, .out] s (execLossWindowEnd s) := by
  unfold execLossWindowEnd
  try dsimp only
  with_reducible refine KeepsR.whileCd ?_
  with_reducible refine Keeps.ite (fun _ => ?_) (fun _ => ?_)
  with_reducible refine Keeps.ite (fun _ => ?_) (fun _ => ?_)
  with_reducible refine Keeps.set_scl (by decide) ⟨rfl, rfl⟩ ?_
  with_reducible refine Keeps.wr (in_SCL_OVL_CNT_WIN_LOSS) (by decide) ?_
  with_reducible refine Keeps.set_loss rfl (by decide) ?_
  with_reducible exact Keeps.refl _
  with_reducible refine (raise_keeps _ _ _ _ _).then_ (by decide) (by decide) ?_
  with_reducible refine Keeps.set_scl (by decide) ⟨rfl, rfl⟩ ?_
  with_reducible refine Keeps.bump (in_SCL_OVL_CNT_OVL_EPISODES) (by decide) ?_
  with_reducible refine Keeps.put (in_SCL_STATUS_OVL) (by decide) ?_
  with_reducible refine Keeps.set_scl (by decide) ⟨rfl, rfl⟩ ?_
  with_reducible refine Keeps.wr (in_SCL_OVL_CNT_WIN_LOSS) (by decide) ?_
  with_reducible refine Keeps.set_loss rfl (by decide) ?_
  with_reducible exact Keeps.refl _
  with_reducible refine Keeps.ite (fun _ => ?_) (fun _ => ?_)
  with_reducible refine Keeps.ite (fun _ => ?_) (fun _ => ?_)
  with_reducible refine (raise_keeps _ _ _ _ _).then_ (by decide) (by decide) ?_
  with_reducible refine Keeps.set_scl (by decide) ⟨rfl, rfl⟩ ?_
  with_reducible refine Keeps.put (in_SCL_STATUS_OVL) (by decide) ?_
  with_reducible refine Keeps.wr (in_SCL_OVL_CNT_WIN_LOSS) (by decide) ?_
  with_reducible refine Keeps.set_loss rfl (by decide) ?_
  with_reducible exact Keeps.refl _
  with_reducible refine Keeps.set_scl (by decide) ⟨rfl, rfl⟩ ?_
  with_reducible refine Keeps.wr (in_SCL_OVL_CNT_WIN_LOSS) (by decide) ?_
  with_reducible refine Keeps.set_loss rfl (by decide) ?_
  with_reducible exact Keeps.refl _
  with_reducible refine Keeps.wr (in_SCL_OVL_CNT_WIN_LOSS) (by decide) ?_
  with_reducible refine Keeps.set_loss rfl (by decide) ?_
  with_reducible exact Keeps.refl _

end Sys2Proof.Machine
end

