-- ==== Sys2Proof/Laws/State.lean ====
section
/-! SUPPORT.
One law per field per update of the state, each true by unfolding, so that no later proof unfolds a record update; and
what a register field, a ring, an event side and a channel read as after an update of their own kind.
-/

namespace Sys2Proof.Machine

@[simp] theorem wr_pending (s : State) (f : Field) (v : Nat) : (s.wr f v).pending = s.pending := rfl
@[simp] theorem wr_now (s : State) (f : Field) (v : Nat) : (s.wr f v).now = s.now := rfl
@[simp] theorem wr_freeCtr (s : State) (f : Field) (v : Nat) : (s.wr f v).freeCtr = s.freeCtr := rfl
@[simp] theorem wr_latches (s : State) (f : Field) (v : Nat) : (s.wr f v).latches = s.latches := rfl
@[simp] theorem wr_mem (s : State) (f : Field) (v : Nat) : (s.wr f v).mem = s.mem := rfl
@[simp] theorem wr_spar (s : State) (f : Field) (v : Nat) : (s.wr f v).spar = s.spar := rfl
@[simp] theorem wr_dt (s : State) (f : Field) (v : Nat) : (s.wr f v).dt = s.dt := rfl
@[simp] theorem wr_pwr (s : State) (f : Field) (v : Nat) : (s.wr f v).pwr = s.pwr := rfl
@[simp] theorem wr_par (s : State) (f : Field) (v : Nat) : (s.wr f v).par = s.par := rfl
@[simp] theorem wr_rng (s : State) (f : Field) (v : Nat) : (s.wr f v).rng = s.rng := rfl
@[simp] theorem wr_evt (s : State) (f : Field) (v : Nat) : (s.wr f v).evt = s.evt := rfl
@[simp] theorem wr_tly (s : State) (f : Field) (v : Nat) : (s.wr f v).tly = s.tly := rfl
@[simp] theorem wr_chain (s : State) (f : Field) (v : Nat) : (s.wr f v).chain = s.chain := rfl
@[simp] theorem wr_act (s : State) (f : Field) (v : Nat) : (s.wr f v).act = s.act := rfl
@[simp] theorem wr_chs (s : State) (f : Field) (v : Nat) : (s.wr f v).chs = s.chs := rfl
@[simp] theorem wr_scl (s : State) (f : Field) (v : Nat) : (s.wr f v).scl = s.scl := rfl
@[simp] theorem wr_sns (s : State) (f : Field) (v : Nat) : (s.wr f v).sns = s.sns := rfl
@[simp] theorem wr_sw (s : State) (f : Field) (v : Nat) : (s.wr f v).sw = s.sw := rfl
@[simp] theorem wr_sub (s : State) (f : Field) (v : Nat) : (s.wr f v).sub = s.sub := rfl
@[simp] theorem wr_brd (s : State) (f : Field) (v : Nat) : (s.wr f v).brd = s.brd := rfl
@[simp] theorem wr_inf (s : State) (f : Field) (v : Nat) : (s.wr f v).inf = s.inf := rfl
@[simp] theorem wr_sto (s : State) (f : Field) (v : Nat) : (s.wr f v).sto = s.sto := rfl
@[simp] theorem wr_sec (s : State) (f : Field) (v : Nat) : (s.wr f v).sec = s.sec := rfl
@[simp] theorem wr_upd (s : State) (f : Field) (v : Nat) : (s.wr f v).upd = s.upd := rfl
@[simp] theorem wr_flt (s : State) (f : Field) (v : Nat) : (s.wr f v).flt = s.flt := rfl
@[simp] theorem wr_out (s : State) (f : Field) (v : Nat) : (s.wr f v).out = s.out := rfl
@[simp] theorem put_pending (s : State) (f : Field) (b : Bool) : (s.put f b).pending = s.pending := rfl
@[simp] theorem put_now (s : State) (f : Field) (b : Bool) : (s.put f b).now = s.now := rfl
@[simp] theorem put_freeCtr (s : State) (f : Field) (b : Bool) : (s.put f b).freeCtr = s.freeCtr := rfl
@[simp] theorem put_latches (s : State) (f : Field) (b : Bool) : (s.put f b).latches = s.latches := rfl
@[simp] theorem put_mem (s : State) (f : Field) (b : Bool) : (s.put f b).mem = s.mem := rfl
@[simp] theorem put_spar (s : State) (f : Field) (b : Bool) : (s.put f b).spar = s.spar := rfl
@[simp] theorem put_dt (s : State) (f : Field) (b : Bool) : (s.put f b).dt = s.dt := rfl
@[simp] theorem put_pwr (s : State) (f : Field) (b : Bool) : (s.put f b).pwr = s.pwr := rfl
@[simp] theorem put_par (s : State) (f : Field) (b : Bool) : (s.put f b).par = s.par := rfl
@[simp] theorem put_rng (s : State) (f : Field) (b : Bool) : (s.put f b).rng = s.rng := rfl
@[simp] theorem put_evt (s : State) (f : Field) (b : Bool) : (s.put f b).evt = s.evt := rfl
@[simp] theorem put_tly (s : State) (f : Field) (b : Bool) : (s.put f b).tly = s.tly := rfl
@[simp] theorem put_chain (s : State) (f : Field) (b : Bool) : (s.put f b).chain = s.chain := rfl
@[simp] theorem put_act (s : State) (f : Field) (b : Bool) : (s.put f b).act = s.act := rfl
@[simp] theorem put_chs (s : State) (f : Field) (b : Bool) : (s.put f b).chs = s.chs := rfl
@[simp] theorem put_scl (s : State) (f : Field) (b : Bool) : (s.put f b).scl = s.scl := rfl
@[simp] theorem put_sns (s : State) (f : Field) (b : Bool) : (s.put f b).sns = s.sns := rfl
@[simp] theorem put_sw (s : State) (f : Field) (b : Bool) : (s.put f b).sw = s.sw := rfl
@[simp] theorem put_sub (s : State) (f : Field) (b : Bool) : (s.put f b).sub = s.sub := rfl
@[simp] theorem put_brd (s : State) (f : Field) (b : Bool) : (s.put f b).brd = s.brd := rfl
@[simp] theorem put_inf (s : State) (f : Field) (b : Bool) : (s.put f b).inf = s.inf := rfl
@[simp] theorem put_sto (s : State) (f : Field) (b : Bool) : (s.put f b).sto = s.sto := rfl
@[simp] theorem put_sec (s : State) (f : Field) (b : Bool) : (s.put f b).sec = s.sec := rfl
@[simp] theorem put_upd (s : State) (f : Field) (b : Bool) : (s.put f b).upd = s.upd := rfl
@[simp] theorem put_flt (s : State) (f : Field) (b : Bool) : (s.put f b).flt = s.flt := rfl
@[simp] theorem put_out (s : State) (f : Field) (b : Bool) : (s.put f b).out = s.out := rfl
@[simp] theorem bump_pending (s : State) (f : Field) (n : Nat) : (s.bump f n).pending = s.pending := rfl
@[simp] theorem bump_now (s : State) (f : Field) (n : Nat) : (s.bump f n).now = s.now := rfl
@[simp] theorem bump_freeCtr (s : State) (f : Field) (n : Nat) : (s.bump f n).freeCtr = s.freeCtr := rfl
@[simp] theorem bump_latches (s : State) (f : Field) (n : Nat) : (s.bump f n).latches = s.latches := rfl
@[simp] theorem bump_mem (s : State) (f : Field) (n : Nat) : (s.bump f n).mem = s.mem := rfl
@[simp] theorem bump_spar (s : State) (f : Field) (n : Nat) : (s.bump f n).spar = s.spar := rfl
@[simp] theorem bump_dt (s : State) (f : Field) (n : Nat) : (s.bump f n).dt = s.dt := rfl
@[simp] theorem bump_pwr (s : State) (f : Field) (n : Nat) : (s.bump f n).pwr = s.pwr := rfl
@[simp] theorem bump_par (s : State) (f : Field) (n : Nat) : (s.bump f n).par = s.par := rfl
@[simp] theorem bump_rng (s : State) (f : Field) (n : Nat) : (s.bump f n).rng = s.rng := rfl
@[simp] theorem bump_evt (s : State) (f : Field) (n : Nat) : (s.bump f n).evt = s.evt := rfl
@[simp] theorem bump_tly (s : State) (f : Field) (n : Nat) : (s.bump f n).tly = s.tly := rfl
@[simp] theorem bump_chain (s : State) (f : Field) (n : Nat) : (s.bump f n).chain = s.chain := rfl
@[simp] theorem bump_act (s : State) (f : Field) (n : Nat) : (s.bump f n).act = s.act := rfl
@[simp] theorem bump_chs (s : State) (f : Field) (n : Nat) : (s.bump f n).chs = s.chs := rfl
@[simp] theorem bump_scl (s : State) (f : Field) (n : Nat) : (s.bump f n).scl = s.scl := rfl
@[simp] theorem bump_sns (s : State) (f : Field) (n : Nat) : (s.bump f n).sns = s.sns := rfl
@[simp] theorem bump_sw (s : State) (f : Field) (n : Nat) : (s.bump f n).sw = s.sw := rfl
@[simp] theorem bump_sub (s : State) (f : Field) (n : Nat) : (s.bump f n).sub = s.sub := rfl
@[simp] theorem bump_brd (s : State) (f : Field) (n : Nat) : (s.bump f n).brd = s.brd := rfl
@[simp] theorem bump_inf (s : State) (f : Field) (n : Nat) : (s.bump f n).inf = s.inf := rfl
@[simp] theorem bump_sto (s : State) (f : Field) (n : Nat) : (s.bump f n).sto = s.sto := rfl
@[simp] theorem bump_sec (s : State) (f : Field) (n : Nat) : (s.bump f n).sec = s.sec := rfl
@[simp] theorem bump_upd (s : State) (f : Field) (n : Nat) : (s.bump f n).upd = s.upd := rfl
@[simp] theorem bump_flt (s : State) (f : Field) (n : Nat) : (s.bump f n).flt = s.flt := rfl
@[simp] theorem bump_out (s : State) (f : Field) (n : Nat) : (s.bump f n).out = s.out := rfl
@[simp] theorem orF_pending (s : State) (f : Field) (m : Nat) : (s.orF f m).pending = s.pending := rfl
@[simp] theorem orF_now (s : State) (f : Field) (m : Nat) : (s.orF f m).now = s.now := rfl
@[simp] theorem orF_freeCtr (s : State) (f : Field) (m : Nat) : (s.orF f m).freeCtr = s.freeCtr := rfl
@[simp] theorem orF_latches (s : State) (f : Field) (m : Nat) : (s.orF f m).latches = s.latches := rfl
@[simp] theorem orF_mem (s : State) (f : Field) (m : Nat) : (s.orF f m).mem = s.mem := rfl
@[simp] theorem orF_spar (s : State) (f : Field) (m : Nat) : (s.orF f m).spar = s.spar := rfl
@[simp] theorem orF_dt (s : State) (f : Field) (m : Nat) : (s.orF f m).dt = s.dt := rfl
@[simp] theorem orF_pwr (s : State) (f : Field) (m : Nat) : (s.orF f m).pwr = s.pwr := rfl
@[simp] theorem orF_par (s : State) (f : Field) (m : Nat) : (s.orF f m).par = s.par := rfl
@[simp] theorem orF_rng (s : State) (f : Field) (m : Nat) : (s.orF f m).rng = s.rng := rfl
@[simp] theorem orF_evt (s : State) (f : Field) (m : Nat) : (s.orF f m).evt = s.evt := rfl
@[simp] theorem orF_tly (s : State) (f : Field) (m : Nat) : (s.orF f m).tly = s.tly := rfl
@[simp] theorem orF_chain (s : State) (f : Field) (m : Nat) : (s.orF f m).chain = s.chain := rfl
@[simp] theorem orF_act (s : State) (f : Field) (m : Nat) : (s.orF f m).act = s.act := rfl
@[simp] theorem orF_chs (s : State) (f : Field) (m : Nat) : (s.orF f m).chs = s.chs := rfl
@[simp] theorem orF_scl (s : State) (f : Field) (m : Nat) : (s.orF f m).scl = s.scl := rfl
@[simp] theorem orF_sns (s : State) (f : Field) (m : Nat) : (s.orF f m).sns = s.sns := rfl
@[simp] theorem orF_sw (s : State) (f : Field) (m : Nat) : (s.orF f m).sw = s.sw := rfl
@[simp] theorem orF_sub (s : State) (f : Field) (m : Nat) : (s.orF f m).sub = s.sub := rfl
@[simp] theorem orF_brd (s : State) (f : Field) (m : Nat) : (s.orF f m).brd = s.brd := rfl
@[simp] theorem orF_inf (s : State) (f : Field) (m : Nat) : (s.orF f m).inf = s.inf := rfl
@[simp] theorem orF_sto (s : State) (f : Field) (m : Nat) : (s.orF f m).sto = s.sto := rfl
@[simp] theorem orF_sec (s : State) (f : Field) (m : Nat) : (s.orF f m).sec = s.sec := rfl
@[simp] theorem orF_upd (s : State) (f : Field) (m : Nat) : (s.orF f m).upd = s.upd := rfl
@[simp] theorem orF_flt (s : State) (f : Field) (m : Nat) : (s.orF f m).flt = s.flt := rfl
@[simp] theorem orF_out (s : State) (f : Field) (m : Nat) : (s.orF f m).out = s.out := rfl
@[simp] theorem wrInt_pending (s : State) (f : Field) (z : Int) : (s.wrInt f z).pending = s.pending := rfl
@[simp] theorem wrInt_now (s : State) (f : Field) (z : Int) : (s.wrInt f z).now = s.now := rfl
@[simp] theorem wrInt_freeCtr (s : State) (f : Field) (z : Int) : (s.wrInt f z).freeCtr = s.freeCtr := rfl
@[simp] theorem wrInt_latches (s : State) (f : Field) (z : Int) : (s.wrInt f z).latches = s.latches := rfl
@[simp] theorem wrInt_mem (s : State) (f : Field) (z : Int) : (s.wrInt f z).mem = s.mem := rfl
@[simp] theorem wrInt_spar (s : State) (f : Field) (z : Int) : (s.wrInt f z).spar = s.spar := rfl
@[simp] theorem wrInt_dt (s : State) (f : Field) (z : Int) : (s.wrInt f z).dt = s.dt := rfl
@[simp] theorem wrInt_pwr (s : State) (f : Field) (z : Int) : (s.wrInt f z).pwr = s.pwr := rfl
@[simp] theorem wrInt_par (s : State) (f : Field) (z : Int) : (s.wrInt f z).par = s.par := rfl
@[simp] theorem wrInt_rng (s : State) (f : Field) (z : Int) : (s.wrInt f z).rng = s.rng := rfl
@[simp] theorem wrInt_evt (s : State) (f : Field) (z : Int) : (s.wrInt f z).evt = s.evt := rfl
@[simp] theorem wrInt_tly (s : State) (f : Field) (z : Int) : (s.wrInt f z).tly = s.tly := rfl
@[simp] theorem wrInt_chain (s : State) (f : Field) (z : Int) : (s.wrInt f z).chain = s.chain := rfl
@[simp] theorem wrInt_act (s : State) (f : Field) (z : Int) : (s.wrInt f z).act = s.act := rfl
@[simp] theorem wrInt_chs (s : State) (f : Field) (z : Int) : (s.wrInt f z).chs = s.chs := rfl
@[simp] theorem wrInt_scl (s : State) (f : Field) (z : Int) : (s.wrInt f z).scl = s.scl := rfl
@[simp] theorem wrInt_sns (s : State) (f : Field) (z : Int) : (s.wrInt f z).sns = s.sns := rfl
@[simp] theorem wrInt_sw (s : State) (f : Field) (z : Int) : (s.wrInt f z).sw = s.sw := rfl
@[simp] theorem wrInt_sub (s : State) (f : Field) (z : Int) : (s.wrInt f z).sub = s.sub := rfl
@[simp] theorem wrInt_brd (s : State) (f : Field) (z : Int) : (s.wrInt f z).brd = s.brd := rfl
@[simp] theorem wrInt_inf (s : State) (f : Field) (z : Int) : (s.wrInt f z).inf = s.inf := rfl
@[simp] theorem wrInt_sto (s : State) (f : Field) (z : Int) : (s.wrInt f z).sto = s.sto := rfl
@[simp] theorem wrInt_sec (s : State) (f : Field) (z : Int) : (s.wrInt f z).sec = s.sec := rfl
@[simp] theorem wrInt_upd (s : State) (f : Field) (z : Int) : (s.wrInt f z).upd = s.upd := rfl
@[simp] theorem wrInt_flt (s : State) (f : Field) (z : Int) : (s.wrInt f z).flt = s.flt := rfl
@[simp] theorem wrInt_out (s : State) (f : Field) (z : Int) : (s.wrInt f z).out = s.out := rfl
@[simp] theorem writeBytes_pending (s : State) (a : Nat) (bs : List Byte) : (writeBytes s a bs).pending = s.pending := rfl
@[simp] theorem writeBytes_now (s : State) (a : Nat) (bs : List Byte) : (writeBytes s a bs).now = s.now := rfl
@[simp] theorem writeBytes_freeCtr (s : State) (a : Nat) (bs : List Byte) : (writeBytes s a bs).freeCtr = s.freeCtr := rfl
@[simp] theorem writeBytes_regs (s : State) (a : Nat) (bs : List Byte) : (writeBytes s a bs).regs = s.regs := rfl
@[simp] theorem writeBytes_latches (s : State) (a : Nat) (bs : List Byte) : (writeBytes s a bs).latches = s.latches := rfl
@[simp] theorem writeBytes_spar (s : State) (a : Nat) (bs : List Byte) : (writeBytes s a bs).spar = s.spar := rfl
@[simp] theorem writeBytes_dt (s : State) (a : Nat) (bs : List Byte) : (writeBytes s a bs).dt = s.dt := rfl
@[simp] theorem writeBytes_pwr (s : State) (a : Nat) (bs : List Byte) : (writeBytes s a bs).pwr = s.pwr := rfl
@[simp] theorem writeBytes_par (s : State) (a : Nat) (bs : List Byte) : (writeBytes s a bs).par = s.par := rfl
@[simp] theorem writeBytes_rng (s : State) (a : Nat) (bs : List Byte) : (writeBytes s a bs).rng = s.rng := rfl
@[simp] theorem writeBytes_evt (s : State) (a : Nat) (bs : List Byte) : (writeBytes s a bs).evt = s.evt := rfl
@[simp] theorem writeBytes_tly (s : State) (a : Nat) (bs : List Byte) : (writeBytes s a bs).tly = s.tly := rfl
@[simp] theorem writeBytes_chain (s : State) (a : Nat) (bs : List Byte) : (writeBytes s a bs).chain = s.chain := rfl
@[simp] theorem writeBytes_act (s : State) (a : Nat) (bs : List Byte) : (writeBytes s a bs).act = s.act := rfl
@[simp] theorem writeBytes_chs (s : State) (a : Nat) (bs : List Byte) : (writeBytes s a bs).chs = s.chs := rfl
@[simp] theorem writeBytes_scl (s : State) (a : Nat) (bs : List Byte) : (writeBytes s a bs).scl = s.scl := rfl
@[simp] theorem writeBytes_sns (s : State) (a : Nat) (bs : List Byte) : (writeBytes s a bs).sns = s.sns := rfl
@[simp] theorem writeBytes_sw (s : State) (a : Nat) (bs : List Byte) : (writeBytes s a bs).sw = s.sw := rfl
@[simp] theorem writeBytes_sub (s : State) (a : Nat) (bs : List Byte) : (writeBytes s a bs).sub = s.sub := rfl
@[simp] theorem writeBytes_brd (s : State) (a : Nat) (bs : List Byte) : (writeBytes s a bs).brd = s.brd := rfl
@[simp] theorem writeBytes_inf (s : State) (a : Nat) (bs : List Byte) : (writeBytes s a bs).inf = s.inf := rfl
@[simp] theorem writeBytes_sto (s : State) (a : Nat) (bs : List Byte) : (writeBytes s a bs).sto = s.sto := rfl
@[simp] theorem writeBytes_sec (s : State) (a : Nat) (bs : List Byte) : (writeBytes s a bs).sec = s.sec := rfl
@[simp] theorem writeBytes_upd (s : State) (a : Nat) (bs : List Byte) : (writeBytes s a bs).upd = s.upd := rfl
@[simp] theorem writeBytes_flt (s : State) (a : Nat) (bs : List Byte) : (writeBytes s a bs).flt = s.flt := rfl
@[simp] theorem writeBytes_out (s : State) (a : Nat) (bs : List Byte) : (writeBytes s a bs).out = s.out := rfl
@[simp] theorem emit_pending (s : State) (e : Emission) : (emit s e).pending = s.pending := rfl
@[simp] theorem emit_now (s : State) (e : Emission) : (emit s e).now = s.now := rfl
@[simp] theorem emit_freeCtr (s : State) (e : Emission) : (emit s e).freeCtr = s.freeCtr := rfl
@[simp] theorem emit_regs (s : State) (e : Emission) : (emit s e).regs = s.regs := rfl
@[simp] theorem emit_latches (s : State) (e : Emission) : (emit s e).latches = s.latches := rfl
@[simp] theorem emit_mem (s : State) (e : Emission) : (emit s e).mem = s.mem := rfl
@[simp] theorem emit_spar (s : State) (e : Emission) : (emit s e).spar = s.spar := rfl
@[simp] theorem emit_dt (s : State) (e : Emission) : (emit s e).dt = s.dt := rfl
@[simp] theorem emit_pwr (s : State) (e : Emission) : (emit s e).pwr = s.pwr := rfl
@[simp] theorem emit_par (s : State) (e : Emission) : (emit s e).par = s.par := rfl
@[simp] theorem emit_rng (s : State) (e : Emission) : (emit s e).rng = s.rng := rfl
@[simp] theorem emit_evt (s : State) (e : Emission) : (emit s e).evt = s.evt := rfl
@[simp] theorem emit_tly (s : State) (e : Emission) : (emit s e).tly = s.tly := rfl
@[simp] theorem emit_chain (s : State) (e : Emission) : (emit s e).chain = s.chain := rfl
@[simp] theorem emit_act (s : State) (e : Emission) : (emit s e).act = s.act := rfl
@[simp] theorem emit_chs (s : State) (e : Emission) : (emit s e).chs = s.chs := rfl
@[simp] theorem emit_scl (s : State) (e : Emission) : (emit s e).scl = s.scl := rfl
@[simp] theorem emit_sns (s : State) (e : Emission) : (emit s e).sns = s.sns := rfl
@[simp] theorem emit_sw (s : State) (e : Emission) : (emit s e).sw = s.sw := rfl
@[simp] theorem emit_sub (s : State) (e : Emission) : (emit s e).sub = s.sub := rfl
@[simp] theorem emit_brd (s : State) (e : Emission) : (emit s e).brd = s.brd := rfl
@[simp] theorem emit_inf (s : State) (e : Emission) : (emit s e).inf = s.inf := rfl
@[simp] theorem emit_sto (s : State) (e : Emission) : (emit s e).sto = s.sto := rfl
@[simp] theorem emit_sec (s : State) (e : Emission) : (emit s e).sec = s.sec := rfl
@[simp] theorem emit_upd (s : State) (e : Emission) : (emit s e).upd = s.upd := rfl
@[simp] theorem emit_flt (s : State) (e : Emission) : (emit s e).flt = s.flt := rfl
@[simp] theorem freeNext_pending (s : State) : (freeNext s).pending = s.pending := rfl
@[simp] theorem freeNext_now (s : State) : (freeNext s).now = s.now := rfl
@[simp] theorem freeNext_regs (s : State) : (freeNext s).regs = s.regs := rfl
@[simp] theorem freeNext_latches (s : State) : (freeNext s).latches = s.latches := rfl
@[simp] theorem freeNext_mem (s : State) : (freeNext s).mem = s.mem := rfl
@[simp] theorem freeNext_spar (s : State) : (freeNext s).spar = s.spar := rfl
@[simp] theorem freeNext_dt (s : State) : (freeNext s).dt = s.dt := rfl
@[simp] theorem freeNext_pwr (s : State) : (freeNext s).pwr = s.pwr := rfl
@[simp] theorem freeNext_par (s : State) : (freeNext s).par = s.par := rfl
@[simp] theorem freeNext_rng (s : State) : (freeNext s).rng = s.rng := rfl
@[simp] theorem freeNext_evt (s : State) : (freeNext s).evt = s.evt := rfl
@[simp] theorem freeNext_tly (s : State) : (freeNext s).tly = s.tly := rfl
@[simp] theorem freeNext_chain (s : State) : (freeNext s).chain = s.chain := rfl
@[simp] theorem freeNext_act (s : State) : (freeNext s).act = s.act := rfl
@[simp] theorem freeNext_chs (s : State) : (freeNext s).chs = s.chs := rfl
@[simp] theorem freeNext_scl (s : State) : (freeNext s).scl = s.scl := rfl
@[simp] theorem freeNext_sns (s : State) : (freeNext s).sns = s.sns := rfl
@[simp] theorem freeNext_sw (s : State) : (freeNext s).sw = s.sw := rfl
@[simp] theorem freeNext_sub (s : State) : (freeNext s).sub = s.sub := rfl
@[simp] theorem freeNext_brd (s : State) : (freeNext s).brd = s.brd := rfl
@[simp] theorem freeNext_inf (s : State) : (freeNext s).inf = s.inf := rfl
@[simp] theorem freeNext_sto (s : State) : (freeNext s).sto = s.sto := rfl
@[simp] theorem freeNext_sec (s : State) : (freeNext s).sec = s.sec := rfl
@[simp] theorem freeNext_upd (s : State) : (freeNext s).upd = s.upd := rfl
@[simp] theorem freeNext_flt (s : State) : (freeNext s).flt = s.flt := rfl
@[simp] theorem freeNext_out (s : State) : (freeNext s).out = s.out := rfl
@[simp] theorem setRing_pending (s : State) (k : Nat) (r : Ring) : (setRing s k r).pending = s.pending := rfl
@[simp] theorem setRing_now (s : State) (k : Nat) (r : Ring) : (setRing s k r).now = s.now := rfl
@[simp] theorem setRing_freeCtr (s : State) (k : Nat) (r : Ring) : (setRing s k r).freeCtr = s.freeCtr := rfl
@[simp] theorem setRing_regs (s : State) (k : Nat) (r : Ring) : (setRing s k r).regs = s.regs := rfl
@[simp] theorem setRing_latches (s : State) (k : Nat) (r : Ring) : (setRing s k r).latches = s.latches := rfl
@[simp] theorem setRing_mem (s : State) (k : Nat) (r : Ring) : (setRing s k r).mem = s.mem := rfl
@[simp] theorem setRing_spar (s : State) (k : Nat) (r : Ring) : (setRing s k r).spar = s.spar := rfl
@[simp] theorem setRing_dt (s : State) (k : Nat) (r : Ring) : (setRing s k r).dt = s.dt := rfl
@[simp] theorem setRing_pwr (s : State) (k : Nat) (r : Ring) : (setRing s k r).pwr = s.pwr := rfl
@[simp] theorem setRing_par (s : State) (k : Nat) (r : Ring) : (setRing s k r).par = s.par := rfl
@[simp] theorem setRing_evt (s : State) (k : Nat) (r : Ring) : (setRing s k r).evt = s.evt := rfl
@[simp] theorem setRing_tly (s : State) (k : Nat) (r : Ring) : (setRing s k r).tly = s.tly := rfl
@[simp] theorem setRing_chain (s : State) (k : Nat) (r : Ring) : (setRing s k r).chain = s.chain := rfl
@[simp] theorem setRing_act (s : State) (k : Nat) (r : Ring) : (setRing s k r).act = s.act := rfl
@[simp] theorem setRing_chs (s : State) (k : Nat) (r : Ring) : (setRing s k r).chs = s.chs := rfl
@[simp] theorem setRing_scl (s : State) (k : Nat) (r : Ring) : (setRing s k r).scl = s.scl := rfl
@[simp] theorem setRing_sns (s : State) (k : Nat) (r : Ring) : (setRing s k r).sns = s.sns := rfl
@[simp] theorem setRing_sw (s : State) (k : Nat) (r : Ring) : (setRing s k r).sw = s.sw := rfl
@[simp] theorem setRing_sub (s : State) (k : Nat) (r : Ring) : (setRing s k r).sub = s.sub := rfl
@[simp] theorem setRing_brd (s : State) (k : Nat) (r : Ring) : (setRing s k r).brd = s.brd := rfl
@[simp] theorem setRing_inf (s : State) (k : Nat) (r : Ring) : (setRing s k r).inf = s.inf := rfl
@[simp] theorem setRing_sto (s : State) (k : Nat) (r : Ring) : (setRing s k r).sto = s.sto := rfl
@[simp] theorem setRing_sec (s : State) (k : Nat) (r : Ring) : (setRing s k r).sec = s.sec := rfl
@[simp] theorem setRing_upd (s : State) (k : Nat) (r : Ring) : (setRing s k r).upd = s.upd := rfl
@[simp] theorem setRing_flt (s : State) (k : Nat) (r : Ring) : (setRing s k r).flt = s.flt := rfl
@[simp] theorem setRing_out (s : State) (k : Nat) (r : Ring) : (setRing s k r).out = s.out := rfl
@[simp] theorem setProxy_pending (s : State) (p : Nat) (x : Proxy) : (setProxy s p x).pending = s.pending := rfl
@[simp] theorem setProxy_now (s : State) (p : Nat) (x : Proxy) : (setProxy s p x).now = s.now := rfl
@[simp] theorem setProxy_freeCtr (s : State) (p : Nat) (x : Proxy) : (setProxy s p x).freeCtr = s.freeCtr := rfl
@[simp] theorem setProxy_regs (s : State) (p : Nat) (x : Proxy) : (setProxy s p x).regs = s.regs := rfl
@[simp] theorem setProxy_latches (s : State) (p : Nat) (x : Proxy) : (setProxy s p x).latches = s.latches := rfl
@[simp] theorem setProxy_mem (s : State) (p : Nat) (x : Proxy) : (setProxy s p x).mem = s.mem := rfl
@[simp] theorem setProxy_spar (s : State) (p : Nat) (x : Proxy) : (setProxy s p x).spar = s.spar := rfl
@[simp] theorem setProxy_dt (s : State) (p : Nat) (x : Proxy) : (setProxy s p x).dt = s.dt := rfl
@[simp] theorem setProxy_pwr (s : State) (p : Nat) (x : Proxy) : (setProxy s p x).pwr = s.pwr := rfl
@[simp] theorem setProxy_par (s : State) (p : Nat) (x : Proxy) : (setProxy s p x).par = s.par := rfl
@[simp] theorem setProxy_rng (s : State) (p : Nat) (x : Proxy) : (setProxy s p x).rng = s.rng := rfl
@[simp] theorem setProxy_evt (s : State) (p : Nat) (x : Proxy) : (setProxy s p x).evt = s.evt := rfl
@[simp] theorem setProxy_tly (s : State) (p : Nat) (x : Proxy) : (setProxy s p x).tly = s.tly := rfl
@[simp] theorem setProxy_act (s : State) (p : Nat) (x : Proxy) : (setProxy s p x).act = s.act := rfl
@[simp] theorem setProxy_chs (s : State) (p : Nat) (x : Proxy) : (setProxy s p x).chs = s.chs := rfl
@[simp] theorem setProxy_scl (s : State) (p : Nat) (x : Proxy) : (setProxy s p x).scl = s.scl := rfl
@[simp] theorem setProxy_sns (s : State) (p : Nat) (x : Proxy) : (setProxy s p x).sns = s.sns := rfl
@[simp] theorem setProxy_sw (s : State) (p : Nat) (x : Proxy) : (setProxy s p x).sw = s.sw := rfl
@[simp] theorem setProxy_sub (s : State) (p : Nat) (x : Proxy) : (setProxy s p x).sub = s.sub := rfl
@[simp] theorem setProxy_brd (s : State) (p : Nat) (x : Proxy) : (setProxy s p x).brd = s.brd := rfl
@[simp] theorem setProxy_inf (s : State) (p : Nat) (x : Proxy) : (setProxy s p x).inf = s.inf := rfl
@[simp] theorem setProxy_sto (s : State) (p : Nat) (x : Proxy) : (setProxy s p x).sto = s.sto := rfl
@[simp] theorem setProxy_sec (s : State) (p : Nat) (x : Proxy) : (setProxy s p x).sec = s.sec := rfl
@[simp] theorem setProxy_upd (s : State) (p : Nat) (x : Proxy) : (setProxy s p x).upd = s.upd := rfl
@[simp] theorem setProxy_flt (s : State) (p : Nat) (x : Proxy) : (setProxy s p x).flt = s.flt := rfl
@[simp] theorem setProxy_out (s : State) (p : Nat) (x : Proxy) : (setProxy s p x).out = s.out := rfl
@[simp] theorem setPartEv_pending (s : State) (p : Nat) (e : PartEv) : (setPartEv s p e).pending = s.pending := rfl
@[simp] theorem setPartEv_now (s : State) (p : Nat) (e : PartEv) : (setPartEv s p e).now = s.now := rfl
@[simp] theorem setPartEv_freeCtr (s : State) (p : Nat) (e : PartEv) : (setPartEv s p e).freeCtr = s.freeCtr := rfl
@[simp] theorem setPartEv_regs (s : State) (p : Nat) (e : PartEv) : (setPartEv s p e).regs = s.regs := rfl
@[simp] theorem setPartEv_latches (s : State) (p : Nat) (e : PartEv) : (setPartEv s p e).latches = s.latches := rfl
@[simp] theorem setPartEv_mem (s : State) (p : Nat) (e : PartEv) : (setPartEv s p e).mem = s.mem := rfl
@[simp] theorem setPartEv_spar (s : State) (p : Nat) (e : PartEv) : (setPartEv s p e).spar = s.spar := rfl
@[simp] theorem setPartEv_dt (s : State) (p : Nat) (e : PartEv) : (setPartEv s p e).dt = s.dt := rfl
@[simp] theorem setPartEv_pwr (s : State) (p : Nat) (e : PartEv) : (setPartEv s p e).pwr = s.pwr := rfl
@[simp] theorem setPartEv_par (s : State) (p : Nat) (e : PartEv) : (setPartEv s p e).par = s.par := rfl
@[simp] theorem setPartEv_rng (s : State) (p : Nat) (e : PartEv) : (setPartEv s p e).rng = s.rng := rfl
@[simp] theorem setPartEv_tly (s : State) (p : Nat) (e : PartEv) : (setPartEv s p e).tly = s.tly := rfl
@[simp] theorem setPartEv_chain (s : State) (p : Nat) (e : PartEv) : (setPartEv s p e).chain = s.chain := rfl
@[simp] theorem setPartEv_act (s : State) (p : Nat) (e : PartEv) : (setPartEv s p e).act = s.act := rfl
@[simp] theorem setPartEv_chs (s : State) (p : Nat) (e : PartEv) : (setPartEv s p e).chs = s.chs := rfl
@[simp] theorem setPartEv_scl (s : State) (p : Nat) (e : PartEv) : (setPartEv s p e).scl = s.scl := rfl
@[simp] theorem setPartEv_sns (s : State) (p : Nat) (e : PartEv) : (setPartEv s p e).sns = s.sns := rfl
@[simp] theorem setPartEv_sw (s : State) (p : Nat) (e : PartEv) : (setPartEv s p e).sw = s.sw := rfl
@[simp] theorem setPartEv_sub (s : State) (p : Nat) (e : PartEv) : (setPartEv s p e).sub = s.sub := rfl
@[simp] theorem setPartEv_brd (s : State) (p : Nat) (e : PartEv) : (setPartEv s p e).brd = s.brd := rfl
@[simp] theorem setPartEv_inf (s : State) (p : Nat) (e : PartEv) : (setPartEv s p e).inf = s.inf := rfl
@[simp] theorem setPartEv_sto (s : State) (p : Nat) (e : PartEv) : (setPartEv s p e).sto = s.sto := rfl
@[simp] theorem setPartEv_sec (s : State) (p : Nat) (e : PartEv) : (setPartEv s p e).sec = s.sec := rfl
@[simp] theorem setPartEv_upd (s : State) (p : Nat) (e : PartEv) : (setPartEv s p e).upd = s.upd := rfl
@[simp] theorem setPartEv_flt (s : State) (p : Nat) (e : PartEv) : (setPartEv s p e).flt = s.flt := rfl
@[simp] theorem setPartEv_out (s : State) (p : Nat) (e : PartEv) : (setPartEv s p e).out = s.out := rfl
@[simp] theorem dropWork_pending (s : State) (eng : Nat) (h : DHdr) : (dropWork s eng h).pending = s.pending := rfl
@[simp] theorem dropWork_now (s : State) (eng : Nat) (h : DHdr) : (dropWork s eng h).now = s.now := rfl
@[simp] theorem dropWork_freeCtr (s : State) (eng : Nat) (h : DHdr) : (dropWork s eng h).freeCtr = s.freeCtr := rfl
@[simp] theorem dropWork_regs (s : State) (eng : Nat) (h : DHdr) : (dropWork s eng h).regs = s.regs := rfl
@[simp] theorem dropWork_latches (s : State) (eng : Nat) (h : DHdr) : (dropWork s eng h).latches = s.latches := rfl
@[simp] theorem dropWork_mem (s : State) (eng : Nat) (h : DHdr) : (dropWork s eng h).mem = s.mem := rfl
@[simp] theorem dropWork_spar (s : State) (eng : Nat) (h : DHdr) : (dropWork s eng h).spar = s.spar := rfl
@[simp] theorem dropWork_dt (s : State) (eng : Nat) (h : DHdr) : (dropWork s eng h).dt = s.dt := rfl
@[simp] theorem dropWork_pwr (s : State) (eng : Nat) (h : DHdr) : (dropWork s eng h).pwr = s.pwr := rfl
@[simp] theorem dropWork_par (s : State) (eng : Nat) (h : DHdr) : (dropWork s eng h).par = s.par := rfl
@[simp] theorem dropWork_evt (s : State) (eng : Nat) (h : DHdr) : (dropWork s eng h).evt = s.evt := rfl
@[simp] theorem dropWork_tly (s : State) (eng : Nat) (h : DHdr) : (dropWork s eng h).tly = s.tly := rfl
@[simp] theorem dropWork_chain (s : State) (eng : Nat) (h : DHdr) : (dropWork s eng h).chain = s.chain := rfl
@[simp] theorem dropWork_act (s : State) (eng : Nat) (h : DHdr) : (dropWork s eng h).act = s.act := rfl
@[simp] theorem dropWork_chs (s : State) (eng : Nat) (h : DHdr) : (dropWork s eng h).chs = s.chs := rfl
@[simp] theorem dropWork_scl (s : State) (eng : Nat) (h : DHdr) : (dropWork s eng h).scl = s.scl := rfl
@[simp] theorem dropWork_sns (s : State) (eng : Nat) (h : DHdr) : (dropWork s eng h).sns = s.sns := rfl
@[simp] theorem dropWork_sw (s : State) (eng : Nat) (h : DHdr) : (dropWork s eng h).sw = s.sw := rfl
@[simp] theorem dropWork_sub (s : State) (eng : Nat) (h : DHdr) : (dropWork s eng h).sub = s.sub := rfl
@[simp] theorem dropWork_brd (s : State) (eng : Nat) (h : DHdr) : (dropWork s eng h).brd = s.brd := rfl
@[simp] theorem dropWork_inf (s : State) (eng : Nat) (h : DHdr) : (dropWork s eng h).inf = s.inf := rfl
@[simp] theorem dropWork_sto (s : State) (eng : Nat) (h : DHdr) : (dropWork s eng h).sto = s.sto := rfl
@[simp] theorem dropWork_sec (s : State) (eng : Nat) (h : DHdr) : (dropWork s eng h).sec = s.sec := rfl
@[simp] theorem dropWork_upd (s : State) (eng : Nat) (h : DHdr) : (dropWork s eng h).upd = s.upd := rfl
@[simp] theorem dropWork_flt (s : State) (eng : Nat) (h : DHdr) : (dropWork s eng h).flt = s.flt := rfl
@[simp] theorem dropWork_out (s : State) (eng : Nat) (h : DHdr) : (dropWork s eng h).out = s.out := rfl
@[simp] theorem setChn_pending (s : State) (c : Chan) (x : Chn) : (setChn s c x).pending = s.pending := rfl
@[simp] theorem setChn_now (s : State) (c : Chan) (x : Chn) : (setChn s c x).now = s.now := rfl
@[simp] theorem setChn_freeCtr (s : State) (c : Chan) (x : Chn) : (setChn s c x).freeCtr = s.freeCtr := rfl
@[simp] theorem setChn_regs (s : State) (c : Chan) (x : Chn) : (setChn s c x).regs = s.regs := rfl
@[simp] theorem setChn_latches (s : State) (c : Chan) (x : Chn) : (setChn s c x).latches = s.latches := rfl
@[simp] theorem setChn_mem (s : State) (c : Chan) (x : Chn) : (setChn s c x).mem = s.mem := rfl
@[simp] theorem setChn_spar (s : State) (c : Chan) (x : Chn) : (setChn s c x).spar = s.spar := rfl
@[simp] theorem setChn_dt (s : State) (c : Chan) (x : Chn) : (setChn s c x).dt = s.dt := rfl
@[simp] theorem setChn_pwr (s : State) (c : Chan) (x : Chn) : (setChn s c x).pwr = s.pwr := rfl
@[simp] theorem setChn_par (s : State) (c : Chan) (x : Chn) : (setChn s c x).par = s.par := rfl
@[simp] theorem setChn_rng (s : State) (c : Chan) (x : Chn) : (setChn s c x).rng = s.rng := rfl
@[simp] theorem setChn_evt (s : State) (c : Chan) (x : Chn) : (setChn s c x).evt = s.evt := rfl
@[simp] theorem setChn_tly (s : State) (c : Chan) (x : Chn) : (setChn s c x).tly = s.tly := rfl
@[simp] theorem setChn_chain (s : State) (c : Chan) (x : Chn) : (setChn s c x).chain = s.chain := rfl
@[simp] theorem setChn_act (s : State) (c : Chan) (x : Chn) : (setChn s c x).act = s.act := rfl
@[simp] theorem setChn_scl (s : State) (c : Chan) (x : Chn) : (setChn s c x).scl = s.scl := rfl
@[simp] theorem setChn_sns (s : State) (c : Chan) (x : Chn) : (setChn s c x).sns = s.sns := rfl
@[simp] theorem setChn_sw (s : State) (c : Chan) (x : Chn) : (setChn s c x).sw = s.sw := rfl
@[simp] theorem setChn_sub (s : State) (c : Chan) (x : Chn) : (setChn s c x).sub = s.sub := rfl
@[simp] theorem setChn_brd (s : State) (c : Chan) (x : Chn) : (setChn s c x).brd = s.brd := rfl
@[simp] theorem setChn_inf (s : State) (c : Chan) (x : Chn) : (setChn s c x).inf = s.inf := rfl
@[simp] theorem setChn_sto (s : State) (c : Chan) (x : Chn) : (setChn s c x).sto = s.sto := rfl
@[simp] theorem setChn_sec (s : State) (c : Chan) (x : Chn) : (setChn s c x).sec = s.sec := rfl
@[simp] theorem setChn_upd (s : State) (c : Chan) (x : Chn) : (setChn s c x).upd = s.upd := rfl
@[simp] theorem setChn_flt (s : State) (c : Chan) (x : Chn) : (setChn s c x).flt = s.flt := rfl
@[simp] theorem setChn_out (s : State) (c : Chan) (x : Chn) : (setChn s c x).out = s.out := rfl
@[simp] theorem violate_pending (s : State) : (violate s).pending = s.pending := rfl
@[simp] theorem violate_now (s : State) : (violate s).now = s.now := rfl
@[simp] theorem violate_freeCtr (s : State) : (violate s).freeCtr = s.freeCtr := rfl
@[simp] theorem violate_latches (s : State) : (violate s).latches = s.latches := rfl
@[simp] theorem violate_mem (s : State) : (violate s).mem = s.mem := rfl
@[simp] theorem violate_spar (s : State) : (violate s).spar = s.spar := rfl
@[simp] theorem violate_dt (s : State) : (violate s).dt = s.dt := rfl
@[simp] theorem violate_pwr (s : State) : (violate s).pwr = s.pwr := rfl
@[simp] theorem violate_par (s : State) : (violate s).par = s.par := rfl
@[simp] theorem violate_rng (s : State) : (violate s).rng = s.rng := rfl
@[simp] theorem violate_evt (s : State) : (violate s).evt = s.evt := rfl
@[simp] theorem violate_tly (s : State) : (violate s).tly = s.tly := rfl
@[simp] theorem violate_chain (s : State) : (violate s).chain = s.chain := rfl
@[simp] theorem violate_act (s : State) : (violate s).act = s.act := rfl
@[simp] theorem violate_chs (s : State) : (violate s).chs = s.chs := rfl
@[simp] theorem violate_scl (s : State) : (violate s).scl = s.scl := rfl
@[simp] theorem violate_sns (s : State) : (violate s).sns = s.sns := rfl
@[simp] theorem violate_sw (s : State) : (violate s).sw = s.sw := rfl
@[simp] theorem violate_sub (s : State) : (violate s).sub = s.sub := rfl
@[simp] theorem violate_brd (s : State) : (violate s).brd = s.brd := rfl
@[simp] theorem violate_inf (s : State) : (violate s).inf = s.inf := rfl
@[simp] theorem violate_sto (s : State) : (violate s).sto = s.sto := rfl
@[simp] theorem violate_sec (s : State) : (violate s).sec = s.sec := rfl
@[simp] theorem violate_upd (s : State) : (violate s).upd = s.upd := rfl
@[simp] theorem violate_flt (s : State) : (violate s).flt = s.flt := rfl
@[simp] theorem violate_out (s : State) : (violate s).out = s.out := rfl
@[simp] theorem writeBytes_rd (s : State) (a : Nat) (bs : List Byte) (h : Field) : (writeBytes s a bs).rd h = s.rd h := rfl
@[simp] theorem emit_rd (s : State) (e : Emission) (h : Field) : (emit s e).rd h = s.rd h := rfl
@[simp] theorem freeNext_rd (s : State) (h : Field) : (freeNext s).rd h = s.rd h := rfl
@[simp] theorem setRing_rd (s : State) (k : Nat) (r : Ring) (h : Field) : (setRing s k r).rd h = s.rd h := rfl
@[simp] theorem setProxy_rd (s : State) (p : Nat) (x : Proxy) (h : Field) : (setProxy s p x).rd h = s.rd h := rfl
@[simp] theorem setPartEv_rd (s : State) (p : Nat) (e : PartEv) (h : Field) : (setPartEv s p e).rd h = s.rd h := rfl
@[simp] theorem dropWork_rd (s : State) (eng : Nat) (h : DHdr) (f : Field) : (dropWork s eng h).rd f = s.rd f := rfl
@[simp] theorem setChn_rd (s : State) (c : Chan) (x : Chn) (h : Field) : (setChn s c x).rd h = s.rd h := rfl
@[simp] theorem emit_out (s : State) (e : Emission) : (emit s e).out = s.out ++ [e] := rfl
@[simp] theorem freeNext_freeCtr (s : State) : (freeNext s).freeCtr = s.freeCtr + 1 := rfl
@[simp] theorem writeBytes_mem (s : State) (a : Nat) (bs : List Byte) : (writeBytes s a bs).mem = memWrite s.mem a bs := rfl

/-! ### Reading after an update -/

/-- A field just set or cleared as a truth value. -/
theorem rd_put_same (s : State) (f : Field) (b : Bool) (h1 : 1 ≤ f.width) (h2 : f.width ≤ 64) :
    (s.put f b).rd f = if b then 1 else 0 := by
  have h : 2 ≤ 2 ^ f.width := by
    calc 2 = 2 ^ 1 := rfl
      _ ≤ 2 ^ f.width := Nat.pow_le_pow_right (by norm_num) h1
  unfold State.put
  rw [rd_wr_same _ _ _ h2]
  split <;> exact Nat.mod_eq_of_lt (by omega)

theorem flag_put_same (s : State) (f : Field) (b : Bool) (h1 : 1 ≤ f.width) (h2 : f.width ≤ 64) :
    (s.put f b).flag f = b := by
  unfold State.flag
  rw [rd_put_same s f b h1 h2]
  cases b <;> rfl

/-- A counter just counted: it holds the sum, or its largest value (saturation). -/
theorem rd_bump_same (s : State) (f : Field) (n : Nat) (h2 : f.width ≤ 64) :
    (s.bump f n).rd f = min (s.rd f + n) (2 ^ f.width - 1) := by
  unfold State.bump satAdd
  rw [rd_wr_same _ _ _ h2]
  have : 0 < 2 ^ f.width := by positivity
  exact Nat.mod_eq_of_lt (by omega)

theorem rd_orF_same (s : State) (f : Field) (n : Nat) (h2 : f.width ≤ 64) :
    (s.orF f n).rd f = (s.rd f ||| n) % 2 ^ f.width := rd_wr_same _ _ _ h2

theorem rd_put_key (s : State) {f h : Field} (b : Bool) (hn : f.key ≠ h.key) : (s.put h b).rd f = s.rd f :=
  rd_wr_key s _ hn

theorem rd_bump_key (s : State) {f h : Field} (n : Nat) (hn : f.key ≠ h.key) : (s.bump h n).rd f = s.rd f :=
  rd_wr_key s _ hn

theorem rd_orF_key (s : State) {f h : Field} (n : Nat) (hn : f.key ≠ h.key) : (s.orF h n).rd f = s.rd f :=
  rd_wr_key s _ hn

theorem rd_wrInt_key (s : State) {f h : Field} (z : Int) (hn : f.key ≠ h.key) : (s.wrInt h z).rd f = s.rd f :=
  rd_wr_key s _ hn

@[simp] theorem ringAt_setRing_same (s : State) (k : Nat) (r : Ring) : ringAt (setRing s k r) k = r := by
  simp [ringAt, setRing]

theorem ringAt_setRing_other (s : State) {k j : Nat} (r : Ring) (h : j ≠ k) : ringAt (setRing s k r) j = ringAt s j := by
  simp [ringAt, setRing, tabGet_set_other _ _ _ h]

@[simp] theorem partEv_setPartEv_same (s : State) (p : Nat) (e : PartEv) : partEv (setPartEv s p e) p = e := by
  simp [partEv, setPartEv]

theorem partEv_setPartEv_other (s : State) {p q : Nat} (e : PartEv) (h : q ≠ p) :
    partEv (setPartEv s p e) q = partEv s q := by
  simp [partEv, setPartEv, tabGet_set_other _ _ _ h]

@[simp] theorem proxyOf_setProxy_same (s : State) (p : Nat) (x : Proxy) : proxyOf (setProxy s p x) p = x := by
  simp [proxyOf, setProxy]

@[simp] theorem chn_setChn_same (s : State) (c : Chan) (x : Chn) : chn (setChn s c x) c = x := by
  simp [chn, setChn]

theorem chn_setChn_other (s : State) {c d : Chan} (x : Chn) (h : chKey d ≠ chKey c) : chn (setChn s c x) d = chn s d := by
  simp [chn, setChn, tabGet_set_other _ _ _ h]

/-- What a field holds after an operation that does not name its register. -/
theorem Keeps.rd {w : List Span} {g : List Part} {s t : State} (h : Keeps w g s t) (he : Reg.every ∉ w) (f : Field)
    (hf : f.lsb < 64) (hw : ∀ r ∈ w, ¬ r.Has f.off) : t.rd f = s.rd f := h.regs he f hf hw

end Sys2Proof.Machine
end

