-- ==== Sys2Proof/Laws/Through.lean ====
section
/-! SUPPORT.
What the operations that every meaning ends with (events, tally records, completions, the views of the register file) leave
as it was, one law per field: with them a proof reads a field of the next state without unfolding the operation.
-/

namespace Sys2Proof.Machine

/-- An offset lies in none of the registers, as a test. -/
def clearOf (w : List Span) (off : Nat) : Bool :=
  w.all fun r => (List.range r.n).all fun i => (List.range r.m).all fun j => off != r.base + r.stride * i + r.inner * j

theorem of_clearOf {w : List Span} {off : Nat} (h : clearOf w off = true) : ∀ r ∈ w, ¬ r.Has off := by
  intro r hr ⟨i, hi, j, hj, e⟩
  have := List.all_eq_true.1 h r hr
  have := List.all_eq_true.1 (List.all_eq_true.1 this i (List.mem_range.2 hi)) j (List.mem_range.2 hj)
  simp [e] at this

/-- An outcome's next state with its frame and what it holds: the form of every statement of a command's effect. -/
theorem KeepsR.runs {w : List Span} {g : List Part} {s t : State} {r : Res} {P : State → Prop} (k : KeepsR w g s r)
    (e : r = .next t) (h0 : Reg.every ∉ w) (h1 : Part.memory ∈ g ∨ Part.records ∉ g ∨ Part.layout ∉ g)
    (h2 : Part.memory ∈ g → Part.records ∈ g) (p : P t) : ∃ t, r = .next t ∧ Frame w g s t ∧ P t :=
  ⟨t, e, (k t e).frame h0 h1 h2, p⟩

theorem pwr_ext {x y : PwrState} (h : { x with owed := [], unzeroed := [] } = { y with owed := [], unzeroed := [] }) (k0 : x.owed = y.owed) (k1 : x.unzeroed = y.unzeroed) : x = y := by
  cases x; cases y; simp_all

theorem rng_ext {x y : RngState} (h : { x with rings := [] } = { y with rings := [] }) (k0 : x.rings = y.rings) : x = y := by
  cases x; cases y; simp_all

theorem tly_ext {x y : TlyState} (h : { x with queue := [], dropped := 0, dropAfter := 0 } = { y with queue := [], dropped := 0, dropAfter := 0 }) (k0 : x.queue = y.queue ∧ x.dropped = y.dropped ∧ x.dropAfter = y.dropAfter) : x = y := by
  cases x; cases y; simp_all

theorem chain_ext {x y : ChainState} (h : { x with proxies := [], nextReq := 0 } = { y with proxies := [], nextReq := 0 }) (k0 : x.proxies = y.proxies ∧ x.nextReq = y.nextReq) : x = y := by
  cases x; cases y; simp_all

theorem scl_ext {x y : SclState} (h : { x with loss := [], lossParts := [] } = { y with loss := [], lossParts := [] }) (k0 : x.loss = y.loss ∧ x.lossParts = y.lossParts) : x = y := by
  cases x; cases y; simp_all

theorem sw_ext {x y : SwState} (h : { x with counters := [], txSa := [], pnWarn := [] } = { y with counters := [], txSa := [], pnWarn := [] }) (k0 : x.counters = y.counters ∧ x.txSa = y.txSa ∧ x.pnWarn = y.pnWarn) : x = y := by
  cases x; cases y; simp_all

@[simp] theorem signal_pending (s : State) (p : Nat) : (signal s p).pending = s.pending := (signal_keeps s p).plain .pending (by decide) rfl
@[simp] theorem signal_now (s : State) (p : Nat) : (signal s p).now = s.now := (signal_keeps s p).plain .now (by decide) rfl
@[simp] theorem signal_freeCtr (s : State) (p : Nat) : (signal s p).freeCtr = s.freeCtr := (signal_keeps s p).plain .freeCtr (by decide) rfl
@[simp] theorem signal_latches (s : State) (p : Nat) : (signal s p).latches = s.latches := (signal_keeps s p).plain .latches (by decide) rfl
@[simp] theorem signal_spar (s : State) (p : Nat) : (signal s p).spar = s.spar := (signal_keeps s p).plain .spar (by decide) rfl
@[simp] theorem signal_dt (s : State) (p : Nat) : (signal s p).dt = s.dt := (signal_keeps s p).plain .dt (by decide) rfl
@[simp] theorem signal_par (s : State) (p : Nat) : (signal s p).par = s.par := (signal_keeps s p).plain .par (by decide) rfl
@[simp] theorem signal_evt (s : State) (p : Nat) : (signal s p).evt = s.evt := (signal_keeps s p).plain .evt (by decide) rfl
@[simp] theorem signal_act (s : State) (p : Nat) : (signal s p).act = s.act := (signal_keeps s p).plain .act (by decide) rfl
@[simp] theorem signal_chs (s : State) (p : Nat) : (signal s p).chs = s.chs := (signal_keeps s p).plain .chs (by decide) rfl
@[simp] theorem signal_sns (s : State) (p : Nat) : (signal s p).sns = s.sns := (signal_keeps s p).plain .sns (by decide) rfl
@[simp] theorem signal_sub (s : State) (p : Nat) : (signal s p).sub = s.sub := (signal_keeps s p).plain .sub (by decide) rfl
@[simp] theorem signal_brd (s : State) (p : Nat) : (signal s p).brd = s.brd := (signal_keeps s p).plain .brd (by decide) rfl
@[simp] theorem signal_inf (s : State) (p : Nat) : (signal s p).inf = s.inf := (signal_keeps s p).plain .inf (by decide) rfl
@[simp] theorem signal_sto (s : State) (p : Nat) : (signal s p).sto = s.sto := (signal_keeps s p).plain .sto (by decide) rfl
@[simp] theorem signal_sec (s : State) (p : Nat) : (signal s p).sec = s.sec := (signal_keeps s p).plain .sec (by decide) rfl
@[simp] theorem signal_upd (s : State) (p : Nat) : (signal s p).upd = s.upd := (signal_keeps s p).plain .upd (by decide) rfl
@[simp] theorem signal_flt (s : State) (p : Nat) : (signal s p).flt = s.flt := (signal_keeps s p).plain .flt (by decide) rfl
@[simp] theorem signal_pwr_ps (s : State) (p : Nat) : (signal s p).pwr.ps = s.pwr.ps := congrArg (·.ps) ((signal_keeps s p).plain .pwr (by decide) rfl)
@[simp] theorem signal_pwr_cd (s : State) (p : Nat) : (signal s p).pwr.cd = s.pwr.cd := congrArg (·.cd) ((signal_keeps s p).plain .pwr (by decide) rfl)
@[simp] theorem signal_pwr_ldUp (s : State) (p : Nat) : (signal s p).pwr.ldUp = s.pwr.ldUp := congrArg (·.ldUp) ((signal_keeps s p).plain .pwr (by decide) rfl)
@[simp] theorem signal_pwr_armed (s : State) (p : Nat) : (signal s p).pwr.armed = s.pwr.armed := congrArg (·.armed) ((signal_keeps s p).plain .pwr (by decide) rfl)
@[simp] theorem signal_pwr_seq (s : State) (p : Nat) : (signal s p).pwr.seq = s.pwr.seq := congrArg (·.seq) ((signal_keeps s p).plain .pwr (by decide) rfl)
@[simp] theorem signal_pwr_entry (s : State) (p : Nat) : (signal s p).pwr.entry = s.pwr.entry := congrArg (·.entry) ((signal_keeps s p).plain .pwr (by decide) rfl)
@[simp] theorem signal_pwr_wakeAfter (s : State) (p : Nat) : (signal s p).pwr.wakeAfter = s.pwr.wakeAfter := congrArg (·.wakeAfter) ((signal_keeps s p).plain .pwr (by decide) rfl)
@[simp] theorem signal_pwr_wakeAfterAt (s : State) (p : Nat) : (signal s p).pwr.wakeAfterAt = s.pwr.wakeAfterAt := congrArg (·.wakeAfterAt) ((signal_keeps s p).plain .pwr (by decide) rfl)
@[simp] theorem signal_pwr_woke (s : State) (p : Nat) : (signal s p).pwr.woke = s.pwr.woke := congrArg (·.woke) ((signal_keeps s p).plain .pwr (by decide) rfl)
@[simp] theorem signal_pwr_linkDue (s : State) (p : Nat) : (signal s p).pwr.linkDue = s.pwr.linkDue := congrArg (·.linkDue) ((signal_keeps s p).plain .pwr (by decide) rfl)
@[simp] theorem signal_pwr_cores (s : State) (p : Nat) : (signal s p).pwr.cores = s.pwr.cores := congrArg (·.cores) ((signal_keeps s p).plain .pwr (by decide) rfl)
@[simp] theorem signal_pwr_shadow (s : State) (p : Nat) : (signal s p).pwr.shadow = s.pwr.shadow := congrArg (·.shadow) ((signal_keeps s p).plain .pwr (by decide) rfl)
@[simp] theorem signal_pwr_entryAt (s : State) (p : Nat) : (signal s p).pwr.entryAt = s.pwr.entryAt := congrArg (·.entryAt) ((signal_keeps s p).plain .pwr (by decide) rfl)
@[simp] theorem signal_pwr_idleEntry (s : State) (p : Nat) : (signal s p).pwr.idleEntry = s.pwr.idleEntry := congrArg (·.idleEntry) ((signal_keeps s p).plain .pwr (by decide) rfl)
@[simp] theorem signal_pwr_wfiAt (s : State) (p : Nat) : (signal s p).pwr.wfiAt = s.pwr.wfiAt := congrArg (·.wfiAt) ((signal_keeps s p).plain .pwr (by decide) rfl)
@[simp] theorem signal_pwr_sleeps (s : State) (p : Nat) : (signal s p).pwr.sleeps = s.pwr.sleeps := congrArg (·.sleeps) ((signal_keeps s p).plain .pwr (by decide) rfl)
@[simp] theorem signal_pwr_wakeBy (s : State) (p : Nat) : (signal s p).pwr.wakeBy = s.pwr.wakeBy := congrArg (·.wakeBy) ((signal_keeps s p).plain .pwr (by decide) rfl)
@[simp] theorem signal_pwr_bootDone (s : State) (p : Nat) : (signal s p).pwr.bootDone = s.pwr.bootDone := congrArg (·.bootDone) ((signal_keeps s p).plain .pwr (by decide) rfl)
@[simp] theorem signal_pwr_bootEntry (s : State) (p : Nat) : (signal s p).pwr.bootEntry = s.pwr.bootEntry := congrArg (·.bootEntry) ((signal_keeps s p).plain .pwr (by decide) rfl)
@[simp] theorem signal_pwr_kept (s : State) (p : Nat) : (signal s p).pwr.kept = s.pwr.kept := congrArg (·.kept) ((signal_keeps s p).plain .pwr (by decide) rfl)
@[simp] theorem signal_pwr_pinHeld (s : State) (p : Nat) : (signal s p).pwr.pinHeld = s.pwr.pinHeld := congrArg (·.pinHeld) ((signal_keeps s p).plain .pwr (by decide) rfl)
@[simp] theorem signal_pwr_overFeeds (s : State) (p : Nat) : (signal s p).pwr.overFeeds = s.pwr.overFeeds := congrArg (·.overFeeds) ((signal_keeps s p).plain .pwr (by decide) rfl)
@[simp] theorem signal_pwr_unzeroed (s : State) (p : Nat) : (signal s p).pwr.unzeroed = s.pwr.unzeroed := ((signal_keeps s p).plain .banks (by decide) rfl)
@[simp] theorem signal_rng (s : State) (p : Nat) : (signal s p).rng = s.rng := rng_ext ((signal_keeps s p).plain .rng (by decide) rfl) ((signal_keeps s p).plain .rings (by decide) rfl)
@[simp] theorem signal_tly (s : State) (p : Nat) : (signal s p).tly = s.tly := tly_ext ((signal_keeps s p).plain .tly (by decide) rfl) ((signal_keeps s p).plain .queue (by decide) rfl)
@[simp] theorem signal_chain (s : State) (p : Nat) : (signal s p).chain = s.chain := chain_ext ((signal_keeps s p).plain .chain (by decide) rfl) ((signal_keeps s p).plain .proxies (by decide) rfl)
@[simp] theorem signal_scl (s : State) (p : Nat) : (signal s p).scl = s.scl := scl_ext ((signal_keeps s p).plain .scl (by decide) rfl) ((signal_keeps s p).plain .loss (by decide) rfl)
@[simp] theorem signal_sw (s : State) (p : Nat) : (signal s p).sw = s.sw := sw_ext ((signal_keeps s p).plain .sw (by decide) rfl) ((signal_keeps s p).plain .wire (by decide) rfl)
@[simp] theorem signal_rd (s : State) (p : Nat) {fx : Field} (hx : fx.lsb < 64) : (signal s p).rd fx = s.rd fx :=
  (signal_keeps s p).rd (by decide) fx hx (by simp)
@[simp] theorem countLoss_pending (s : State) (src : Nat) (n : Nat) (parts : List Nat) : (countLoss s src n parts).pending = s.pending := (countLoss_keeps s src n parts).plain .pending (by decide) rfl
@[simp] theorem countLoss_now (s : State) (src : Nat) (n : Nat) (parts : List Nat) : (countLoss s src n parts).now = s.now := (countLoss_keeps s src n parts).plain .now (by decide) rfl
@[simp] theorem countLoss_freeCtr (s : State) (src : Nat) (n : Nat) (parts : List Nat) : (countLoss s src n parts).freeCtr = s.freeCtr := (countLoss_keeps s src n parts).plain .freeCtr (by decide) rfl
@[simp] theorem countLoss_latches (s : State) (src : Nat) (n : Nat) (parts : List Nat) : (countLoss s src n parts).latches = s.latches := (countLoss_keeps s src n parts).plain .latches (by decide) rfl
@[simp] theorem countLoss_spar (s : State) (src : Nat) (n : Nat) (parts : List Nat) : (countLoss s src n parts).spar = s.spar := (countLoss_keeps s src n parts).plain .spar (by decide) rfl
@[simp] theorem countLoss_dt (s : State) (src : Nat) (n : Nat) (parts : List Nat) : (countLoss s src n parts).dt = s.dt := (countLoss_keeps s src n parts).plain .dt (by decide) rfl
@[simp] theorem countLoss_par (s : State) (src : Nat) (n : Nat) (parts : List Nat) : (countLoss s src n parts).par = s.par := (countLoss_keeps s src n parts).plain .par (by decide) rfl
@[simp] theorem countLoss_evt (s : State) (src : Nat) (n : Nat) (parts : List Nat) : (countLoss s src n parts).evt = s.evt := (countLoss_keeps s src n parts).plain .evt (by decide) rfl
@[simp] theorem countLoss_act (s : State) (src : Nat) (n : Nat) (parts : List Nat) : (countLoss s src n parts).act = s.act := (countLoss_keeps s src n parts).plain .act (by decide) rfl
@[simp] theorem countLoss_chs (s : State) (src : Nat) (n : Nat) (parts : List Nat) : (countLoss s src n parts).chs = s.chs := (countLoss_keeps s src n parts).plain .chs (by decide) rfl
@[simp] theorem countLoss_sns (s : State) (src : Nat) (n : Nat) (parts : List Nat) : (countLoss s src n parts).sns = s.sns := (countLoss_keeps s src n parts).plain .sns (by decide) rfl
@[simp] theorem countLoss_sub (s : State) (src : Nat) (n : Nat) (parts : List Nat) : (countLoss s src n parts).sub = s.sub := (countLoss_keeps s src n parts).plain .sub (by decide) rfl
@[simp] theorem countLoss_brd (s : State) (src : Nat) (n : Nat) (parts : List Nat) : (countLoss s src n parts).brd = s.brd := (countLoss_keeps s src n parts).plain .brd (by decide) rfl
@[simp] theorem countLoss_inf (s : State) (src : Nat) (n : Nat) (parts : List Nat) : (countLoss s src n parts).inf = s.inf := (countLoss_keeps s src n parts).plain .inf (by decide) rfl
@[simp] theorem countLoss_sto (s : State) (src : Nat) (n : Nat) (parts : List Nat) : (countLoss s src n parts).sto = s.sto := (countLoss_keeps s src n parts).plain .sto (by decide) rfl
@[simp] theorem countLoss_sec (s : State) (src : Nat) (n : Nat) (parts : List Nat) : (countLoss s src n parts).sec = s.sec := (countLoss_keeps s src n parts).plain .sec (by decide) rfl
@[simp] theorem countLoss_upd (s : State) (src : Nat) (n : Nat) (parts : List Nat) : (countLoss s src n parts).upd = s.upd := (countLoss_keeps s src n parts).plain .upd (by decide) rfl
@[simp] theorem countLoss_flt (s : State) (src : Nat) (n : Nat) (parts : List Nat) : (countLoss s src n parts).flt = s.flt := (countLoss_keeps s src n parts).plain .flt (by decide) rfl
@[simp] theorem countLoss_out (s : State) (src : Nat) (n : Nat) (parts : List Nat) : (countLoss s src n parts).out = s.out := (countLoss_keeps s src n parts).plain .out (by decide) rfl
@[simp] theorem countLoss_pwr (s : State) (src : Nat) (n : Nat) (parts : List Nat) : (countLoss s src n parts).pwr = s.pwr := pwr_ext ((countLoss_keeps s src n parts).plain .pwr (by decide) rfl) ((countLoss_keeps s src n parts).plain .owed (by decide) rfl) ((countLoss_keeps s src n parts).plain .banks (by decide) rfl)
@[simp] theorem countLoss_rng (s : State) (src : Nat) (n : Nat) (parts : List Nat) : (countLoss s src n parts).rng = s.rng := rng_ext ((countLoss_keeps s src n parts).plain .rng (by decide) rfl) ((countLoss_keeps s src n parts).plain .rings (by decide) rfl)
@[simp] theorem countLoss_tly (s : State) (src : Nat) (n : Nat) (parts : List Nat) : (countLoss s src n parts).tly = s.tly := tly_ext ((countLoss_keeps s src n parts).plain .tly (by decide) rfl) ((countLoss_keeps s src n parts).plain .queue (by decide) rfl)
@[simp] theorem countLoss_chain (s : State) (src : Nat) (n : Nat) (parts : List Nat) : (countLoss s src n parts).chain = s.chain := chain_ext ((countLoss_keeps s src n parts).plain .chain (by decide) rfl) ((countLoss_keeps s src n parts).plain .proxies (by decide) rfl)
@[simp] theorem countLoss_scl_budgets (s : State) (src : Nat) (n : Nat) (parts : List Nat) : (countLoss s src n parts).scl.budgets = s.scl.budgets := congrArg (·.budgets) ((countLoss_keeps s src n parts).plain .scl (by decide) rfl)
@[simp] theorem countLoss_scl_steps (s : State) (src : Nat) (n : Nat) (parts : List Nat) : (countLoss s src n parts).scl.steps = s.scl.steps := congrArg (·.steps) ((countLoss_keeps s src n parts).plain .scl (by decide) rfl)
@[simp] theorem countLoss_scl_feeds (s : State) (src : Nat) (n : Nat) (parts : List Nat) : (countLoss s src n parts).scl.feeds = s.scl.feeds := congrArg (·.feeds) ((countLoss_keeps s src n parts).plain .scl (by decide) rfl)
@[simp] theorem countLoss_scl_pkgBelow (s : State) (src : Nat) (n : Nat) (parts : List Nat) : (countLoss s src n parts).scl.pkgBelow = s.scl.pkgBelow := congrArg (·.pkgBelow) ((countLoss_keeps s src n parts).plain .scl (by decide) rfl)
@[simp] theorem countLoss_scl_pkgLog (s : State) (src : Nat) (n : Nat) (parts : List Nat) : (countLoss s src n parts).scl.pkgLog = s.scl.pkgLog := congrArg (·.pkgLog) ((countLoss_keeps s src n parts).plain .scl (by decide) rfl)
@[simp] theorem countLoss_scl_led (s : State) (src : Nat) (n : Nat) (parts : List Nat) : (countLoss s src n parts).scl.led = s.scl.led := congrArg (·.led) ((countLoss_keeps s src n parts).plain .scl (by decide) rfl)
@[simp] theorem countLoss_scl_pkgPhase (s : State) (src : Nat) (n : Nat) (parts : List Nat) : (countLoss s src n parts).scl.pkgPhase = s.scl.pkgPhase := congrArg (·.pkgPhase) ((countLoss_keeps s src n parts).plain .scl (by decide) rfl)
@[simp] theorem countLoss_scl_latchOffs (s : State) (src : Nat) (n : Nat) (parts : List Nat) : (countLoss s src n parts).scl.latchOffs = s.scl.latchOffs := congrArg (·.latchOffs) ((countLoss_keeps s src n parts).plain .scl (by decide) rfl)
@[simp] theorem countLoss_scl_stormAt (s : State) (src : Nat) (n : Nat) (parts : List Nat) : (countLoss s src n parts).scl.stormAt = s.scl.stormAt := congrArg (·.stormAt) ((countLoss_keeps s src n parts).plain .scl (by decide) rfl)
@[simp] theorem countLoss_scl_restarts (s : State) (src : Nat) (n : Nat) (parts : List Nat) : (countLoss s src n parts).scl.restarts = s.scl.restarts := congrArg (·.restarts) ((countLoss_keeps s src n parts).plain .scl (by decide) rfl)
@[simp] theorem countLoss_scl_pinned (s : State) (src : Nat) (n : Nat) (parts : List Nat) : (countLoss s src n parts).scl.pinned = s.scl.pinned := congrArg (·.pinned) ((countLoss_keeps s src n parts).plain .scl (by decide) rfl)
@[simp] theorem countLoss_scl_clean (s : State) (src : Nat) (n : Nat) (parts : List Nat) : (countLoss s src n parts).scl.clean = s.scl.clean := congrArg (·.clean) ((countLoss_keeps s src n parts).plain .scl (by decide) rfl)
@[simp] theorem countLoss_scl_ovlParts (s : State) (src : Nat) (n : Nat) (parts : List Nat) : (countLoss s src n parts).scl.ovlParts = s.scl.ovlParts := congrArg (·.ovlParts) ((countLoss_keeps s src n parts).plain .scl (by decide) rfl)
@[simp] theorem countLoss_sw (s : State) (src : Nat) (n : Nat) (parts : List Nat) : (countLoss s src n parts).sw = s.sw := sw_ext ((countLoss_keeps s src n parts).plain .sw (by decide) rfl) ((countLoss_keeps s src n parts).plain .wire (by decide) rfl)
@[simp] theorem countLoss_mem (s : State) (src : Nat) (n : Nat) (parts : List Nat) : (countLoss s src n parts).mem = s.mem := (countLoss_keeps s src n parts).same (by decide) (by decide)
@[simp] theorem countLoss_rd (s : State) (src : Nat) (n : Nat) (parts : List Nat) {fx : Field} (hx : fx.lsb < 64) : (countLoss s src n parts).rd fx = s.rd fx :=
  (countLoss_keeps s src n parts).rd (by decide) fx hx (by simp)
@[simp] theorem raiseTo_pending (s : State) (p : Nat) (src : Nat) (clsS : Bool) (payload : List Byte) : (raiseTo s p src clsS payload).pending = s.pending := (raiseTo_keeps s p src clsS payload).plain .pending (by decide) rfl
@[simp] theorem raiseTo_now (s : State) (p : Nat) (src : Nat) (clsS : Bool) (payload : List Byte) : (raiseTo s p src clsS payload).now = s.now := (raiseTo_keeps s p src clsS payload).plain .now (by decide) rfl
@[simp] theorem raiseTo_freeCtr (s : State) (p : Nat) (src : Nat) (clsS : Bool) (payload : List Byte) : (raiseTo s p src clsS payload).freeCtr = s.freeCtr := (raiseTo_keeps s p src clsS payload).plain .freeCtr (by decide) rfl
@[simp] theorem raiseTo_latches (s : State) (p : Nat) (src : Nat) (clsS : Bool) (payload : List Byte) : (raiseTo s p src clsS payload).latches = s.latches := (raiseTo_keeps s p src clsS payload).plain .latches (by decide) rfl
@[simp] theorem raiseTo_spar (s : State) (p : Nat) (src : Nat) (clsS : Bool) (payload : List Byte) : (raiseTo s p src clsS payload).spar = s.spar := (raiseTo_keeps s p src clsS payload).plain .spar (by decide) rfl
@[simp] theorem raiseTo_dt (s : State) (p : Nat) (src : Nat) (clsS : Bool) (payload : List Byte) : (raiseTo s p src clsS payload).dt = s.dt := (raiseTo_keeps s p src clsS payload).plain .dt (by decide) rfl
@[simp] theorem raiseTo_par (s : State) (p : Nat) (src : Nat) (clsS : Bool) (payload : List Byte) : (raiseTo s p src clsS payload).par = s.par := (raiseTo_keeps s p src clsS payload).plain .par (by decide) rfl
@[simp] theorem raiseTo_act (s : State) (p : Nat) (src : Nat) (clsS : Bool) (payload : List Byte) : (raiseTo s p src clsS payload).act = s.act := (raiseTo_keeps s p src clsS payload).plain .act (by decide) rfl
@[simp] theorem raiseTo_chs (s : State) (p : Nat) (src : Nat) (clsS : Bool) (payload : List Byte) : (raiseTo s p src clsS payload).chs = s.chs := (raiseTo_keeps s p src clsS payload).plain .chs (by decide) rfl
@[simp] theorem raiseTo_sns (s : State) (p : Nat) (src : Nat) (clsS : Bool) (payload : List Byte) : (raiseTo s p src clsS payload).sns = s.sns := (raiseTo_keeps s p src clsS payload).plain .sns (by decide) rfl
@[simp] theorem raiseTo_sub (s : State) (p : Nat) (src : Nat) (clsS : Bool) (payload : List Byte) : (raiseTo s p src clsS payload).sub = s.sub := (raiseTo_keeps s p src clsS payload).plain .sub (by decide) rfl
@[simp] theorem raiseTo_brd (s : State) (p : Nat) (src : Nat) (clsS : Bool) (payload : List Byte) : (raiseTo s p src clsS payload).brd = s.brd := (raiseTo_keeps s p src clsS payload).plain .brd (by decide) rfl
@[simp] theorem raiseTo_inf (s : State) (p : Nat) (src : Nat) (clsS : Bool) (payload : List Byte) : (raiseTo s p src clsS payload).inf = s.inf := (raiseTo_keeps s p src clsS payload).plain .inf (by decide) rfl
@[simp] theorem raiseTo_sto (s : State) (p : Nat) (src : Nat) (clsS : Bool) (payload : List Byte) : (raiseTo s p src clsS payload).sto = s.sto := (raiseTo_keeps s p src clsS payload).plain .sto (by decide) rfl
@[simp] theorem raiseTo_sec (s : State) (p : Nat) (src : Nat) (clsS : Bool) (payload : List Byte) : (raiseTo s p src clsS payload).sec = s.sec := (raiseTo_keeps s p src clsS payload).plain .sec (by decide) rfl
@[simp] theorem raiseTo_upd (s : State) (p : Nat) (src : Nat) (clsS : Bool) (payload : List Byte) : (raiseTo s p src clsS payload).upd = s.upd := (raiseTo_keeps s p src clsS payload).plain .upd (by decide) rfl
@[simp] theorem raiseTo_flt (s : State) (p : Nat) (src : Nat) (clsS : Bool) (payload : List Byte) : (raiseTo s p src clsS payload).flt = s.flt := (raiseTo_keeps s p src clsS payload).plain .flt (by decide) rfl
@[simp] theorem raiseTo_pwr_ps (s : State) (p : Nat) (src : Nat) (clsS : Bool) (payload : List Byte) : (raiseTo s p src clsS payload).pwr.ps = s.pwr.ps := congrArg (·.ps) ((raiseTo_keeps s p src clsS payload).plain .pwr (by decide) rfl)
@[simp] theorem raiseTo_pwr_cd (s : State) (p : Nat) (src : Nat) (clsS : Bool) (payload : List Byte) : (raiseTo s p src clsS payload).pwr.cd = s.pwr.cd := congrArg (·.cd) ((raiseTo_keeps s p src clsS payload).plain .pwr (by decide) rfl)
@[simp] theorem raiseTo_pwr_ldUp (s : State) (p : Nat) (src : Nat) (clsS : Bool) (payload : List Byte) : (raiseTo s p src clsS payload).pwr.ldUp = s.pwr.ldUp := congrArg (·.ldUp) ((raiseTo_keeps s p src clsS payload).plain .pwr (by decide) rfl)
@[simp] theorem raiseTo_pwr_armed (s : State) (p : Nat) (src : Nat) (clsS : Bool) (payload : List Byte) : (raiseTo s p src clsS payload).pwr.armed = s.pwr.armed := congrArg (·.armed) ((raiseTo_keeps s p src clsS payload).plain .pwr (by decide) rfl)
@[simp] theorem raiseTo_pwr_seq (s : State) (p : Nat) (src : Nat) (clsS : Bool) (payload : List Byte) : (raiseTo s p src clsS payload).pwr.seq = s.pwr.seq := congrArg (·.seq) ((raiseTo_keeps s p src clsS payload).plain .pwr (by decide) rfl)
@[simp] theorem raiseTo_pwr_entry (s : State) (p : Nat) (src : Nat) (clsS : Bool) (payload : List Byte) : (raiseTo s p src clsS payload).pwr.entry = s.pwr.entry := congrArg (·.entry) ((raiseTo_keeps s p src clsS payload).plain .pwr (by decide) rfl)
@[simp] theorem raiseTo_pwr_wakeAfter (s : State) (p : Nat) (src : Nat) (clsS : Bool) (payload : List Byte) : (raiseTo s p src clsS payload).pwr.wakeAfter = s.pwr.wakeAfter := congrArg (·.wakeAfter) ((raiseTo_keeps s p src clsS payload).plain .pwr (by decide) rfl)
@[simp] theorem raiseTo_pwr_wakeAfterAt (s : State) (p : Nat) (src : Nat) (clsS : Bool) (payload : List Byte) : (raiseTo s p src clsS payload).pwr.wakeAfterAt = s.pwr.wakeAfterAt := congrArg (·.wakeAfterAt) ((raiseTo_keeps s p src clsS payload).plain .pwr (by decide) rfl)
@[simp] theorem raiseTo_pwr_woke (s : State) (p : Nat) (src : Nat) (clsS : Bool) (payload : List Byte) : (raiseTo s p src clsS payload).pwr.woke = s.pwr.woke := congrArg (·.woke) ((raiseTo_keeps s p src clsS payload).plain .pwr (by decide) rfl)
@[simp] theorem raiseTo_pwr_linkDue (s : State) (p : Nat) (src : Nat) (clsS : Bool) (payload : List Byte) : (raiseTo s p src clsS payload).pwr.linkDue = s.pwr.linkDue := congrArg (·.linkDue) ((raiseTo_keeps s p src clsS payload).plain .pwr (by decide) rfl)
@[simp] theorem raiseTo_pwr_cores (s : State) (p : Nat) (src : Nat) (clsS : Bool) (payload : List Byte) : (raiseTo s p src clsS payload).pwr.cores = s.pwr.cores := congrArg (·.cores) ((raiseTo_keeps s p src clsS payload).plain .pwr (by decide) rfl)
@[simp] theorem raiseTo_pwr_shadow (s : State) (p : Nat) (src : Nat) (clsS : Bool) (payload : List Byte) : (raiseTo s p src clsS payload).pwr.shadow = s.pwr.shadow := congrArg (·.shadow) ((raiseTo_keeps s p src clsS payload).plain .pwr (by decide) rfl)
@[simp] theorem raiseTo_pwr_entryAt (s : State) (p : Nat) (src : Nat) (clsS : Bool) (payload : List Byte) : (raiseTo s p src clsS payload).pwr.entryAt = s.pwr.entryAt := congrArg (·.entryAt) ((raiseTo_keeps s p src clsS payload).plain .pwr (by decide) rfl)
@[simp] theorem raiseTo_pwr_idleEntry (s : State) (p : Nat) (src : Nat) (clsS : Bool) (payload : List Byte) : (raiseTo s p src clsS payload).pwr.idleEntry = s.pwr.idleEntry := congrArg (·.idleEntry) ((raiseTo_keeps s p src clsS payload).plain .pwr (by decide) rfl)
@[simp] theorem raiseTo_pwr_wfiAt (s : State) (p : Nat) (src : Nat) (clsS : Bool) (payload : List Byte) : (raiseTo s p src clsS payload).pwr.wfiAt = s.pwr.wfiAt := congrArg (·.wfiAt) ((raiseTo_keeps s p src clsS payload).plain .pwr (by decide) rfl)
@[simp] theorem raiseTo_pwr_sleeps (s : State) (p : Nat) (src : Nat) (clsS : Bool) (payload : List Byte) : (raiseTo s p src clsS payload).pwr.sleeps = s.pwr.sleeps := congrArg (·.sleeps) ((raiseTo_keeps s p src clsS payload).plain .pwr (by decide) rfl)
@[simp] theorem raiseTo_pwr_wakeBy (s : State) (p : Nat) (src : Nat) (clsS : Bool) (payload : List Byte) : (raiseTo s p src clsS payload).pwr.wakeBy = s.pwr.wakeBy := congrArg (·.wakeBy) ((raiseTo_keeps s p src clsS payload).plain .pwr (by decide) rfl)
@[simp] theorem raiseTo_pwr_bootDone (s : State) (p : Nat) (src : Nat) (clsS : Bool) (payload : List Byte) : (raiseTo s p src clsS payload).pwr.bootDone = s.pwr.bootDone := congrArg (·.bootDone) ((raiseTo_keeps s p src clsS payload).plain .pwr (by decide) rfl)
@[simp] theorem raiseTo_pwr_bootEntry (s : State) (p : Nat) (src : Nat) (clsS : Bool) (payload : List Byte) : (raiseTo s p src clsS payload).pwr.bootEntry = s.pwr.bootEntry := congrArg (·.bootEntry) ((raiseTo_keeps s p src clsS payload).plain .pwr (by decide) rfl)
@[simp] theorem raiseTo_pwr_kept (s : State) (p : Nat) (src : Nat) (clsS : Bool) (payload : List Byte) : (raiseTo s p src clsS payload).pwr.kept = s.pwr.kept := congrArg (·.kept) ((raiseTo_keeps s p src clsS payload).plain .pwr (by decide) rfl)
@[simp] theorem raiseTo_pwr_pinHeld (s : State) (p : Nat) (src : Nat) (clsS : Bool) (payload : List Byte) : (raiseTo s p src clsS payload).pwr.pinHeld = s.pwr.pinHeld := congrArg (·.pinHeld) ((raiseTo_keeps s p src clsS payload).plain .pwr (by decide) rfl)
@[simp] theorem raiseTo_pwr_overFeeds (s : State) (p : Nat) (src : Nat) (clsS : Bool) (payload : List Byte) : (raiseTo s p src clsS payload).pwr.overFeeds = s.pwr.overFeeds := congrArg (·.overFeeds) ((raiseTo_keeps s p src clsS payload).plain .pwr (by decide) rfl)
@[simp] theorem raiseTo_pwr_unzeroed (s : State) (p : Nat) (src : Nat) (clsS : Bool) (payload : List Byte) : (raiseTo s p src clsS payload).pwr.unzeroed = s.pwr.unzeroed := ((raiseTo_keeps s p src clsS payload).plain .banks (by decide) rfl)
@[simp] theorem raiseTo_rng_shadows (s : State) (p : Nat) (src : Nat) (clsS : Bool) (payload : List Byte) : (raiseTo s p src clsS payload).rng.shadows = s.rng.shadows := congrArg (·.shadows) ((raiseTo_keeps s p src clsS payload).plain .rng (by decide) rfl)
@[simp] theorem raiseTo_rng_work (s : State) (p : Nat) (src : Nat) (clsS : Bool) (payload : List Byte) : (raiseTo s p src clsS payload).rng.work = s.rng.work := congrArg (·.work) ((raiseTo_keeps s p src clsS payload).plain .rng (by decide) rfl)
@[simp] theorem raiseTo_rng_stalled (s : State) (p : Nat) (src : Nat) (clsS : Bool) (payload : List Byte) : (raiseTo s p src clsS payload).rng.stalled = s.rng.stalled := congrArg (·.stalled) ((raiseTo_keeps s p src clsS payload).plain .rng (by decide) rfl)
@[simp] theorem raiseTo_rng_bells (s : State) (p : Nat) (src : Nat) (clsS : Bool) (payload : List Byte) : (raiseTo s p src clsS payload).rng.bells = s.rng.bells := congrArg (·.bells) ((raiseTo_keeps s p src clsS payload).plain .rng (by decide) rfl)
@[simp] theorem raiseTo_rng_deficit (s : State) (p : Nat) (src : Nat) (clsS : Bool) (payload : List Byte) : (raiseTo s p src clsS payload).rng.deficit = s.rng.deficit := congrArg (·.deficit) ((raiseTo_keeps s p src clsS payload).plain .rng (by decide) rfl)
@[simp] theorem raiseTo_rng_drrAt (s : State) (p : Nat) (src : Nat) (clsS : Bool) (payload : List Byte) : (raiseTo s p src clsS payload).rng.drrAt = s.rng.drrAt := congrArg (·.drrAt) ((raiseTo_keeps s p src clsS payload).plain .rng (by decide) rfl)
@[simp] theorem raiseTo_rng_turns (s : State) (p : Nat) (src : Nat) (clsS : Bool) (payload : List Byte) : (raiseTo s p src clsS payload).rng.turns = s.rng.turns := congrArg (·.turns) ((raiseTo_keeps s p src clsS payload).plain .rng (by decide) rfl)
@[simp] theorem raiseTo_rng_busy (s : State) (p : Nat) (src : Nat) (clsS : Bool) (payload : List Byte) : (raiseTo s p src clsS payload).rng.busy = s.rng.busy := congrArg (·.busy) ((raiseTo_keeps s p src clsS payload).plain .rng (by decide) rfl)
@[simp] theorem raiseTo_rng_heldReset (s : State) (p : Nat) (src : Nat) (clsS : Bool) (payload : List Byte) : (raiseTo s p src clsS payload).rng.heldReset = s.rng.heldReset := congrArg (·.heldReset) ((raiseTo_keeps s p src clsS payload).plain .rng (by decide) rfl)
@[simp] theorem raiseTo_rng_spent (s : State) (p : Nat) (src : Nat) (clsS : Bool) (payload : List Byte) : (raiseTo s p src clsS payload).rng.spent = s.rng.spent := congrArg (·.spent) ((raiseTo_keeps s p src clsS payload).plain .rng (by decide) rfl)
@[simp] theorem raiseTo_tly_ring (s : State) (p : Nat) (src : Nat) (clsS : Bool) (payload : List Byte) : (raiseTo s p src clsS payload).tly.ring = s.tly.ring := congrArg (·.ring) ((raiseTo_keeps s p src clsS payload).plain .tly (by decide) rfl)
@[simp] theorem raiseTo_tly_first (s : State) (p : Nat) (src : Nat) (clsS : Bool) (payload : List Byte) : (raiseTo s p src clsS payload).tly.first = s.tly.first := congrArg (·.first) ((raiseTo_keeps s p src clsS payload).plain .tly (by decide) rfl)
@[simp] theorem raiseTo_tly_lastMac (s : State) (p : Nat) (src : Nat) (clsS : Bool) (payload : List Byte) : (raiseTo s p src clsS payload).tly.lastMac = s.tly.lastMac := congrArg (·.lastMac) ((raiseTo_keeps s p src clsS payload).plain .tly (by decide) rfl)
@[simp] theorem raiseTo_tly_starts (s : State) (p : Nat) (src : Nat) (clsS : Bool) (payload : List Byte) : (raiseTo s p src clsS payload).tly.starts = s.tly.starts := congrArg (·.starts) ((raiseTo_keeps s p src clsS payload).plain .tly (by decide) rfl)
@[simp] theorem raiseTo_tly_lastClear (s : State) (p : Nat) (src : Nat) (clsS : Bool) (payload : List Byte) : (raiseTo s p src clsS payload).tly.lastClear = s.tly.lastClear := congrArg (·.lastClear) ((raiseTo_keeps s p src clsS payload).plain .tly (by decide) rfl)
@[simp] theorem raiseTo_tly_unreadRaised (s : State) (p : Nat) (src : Nat) (clsS : Bool) (payload : List Byte) : (raiseTo s p src clsS payload).tly.unreadRaised = s.tly.unreadRaised := congrArg (·.unreadRaised) ((raiseTo_keeps s p src clsS payload).plain .tly (by decide) rfl)
@[simp] theorem raiseTo_tly_fullRaised (s : State) (p : Nat) (src : Nat) (clsS : Bool) (payload : List Byte) : (raiseTo s p src clsS payload).tly.fullRaised = s.tly.fullRaised := congrArg (·.fullRaised) ((raiseTo_keeps s p src clsS payload).plain .tly (by decide) rfl)
@[simp] theorem raiseTo_chain_up0 (s : State) (p : Nat) (src : Nat) (clsS : Bool) (payload : List Byte) : (raiseTo s p src clsS payload).chain.up0 = s.chain.up0 := congrArg (·.up0) ((raiseTo_keeps s p src clsS payload).plain .chain (by decide) rfl)
@[simp] theorem raiseTo_chain_up1 (s : State) (p : Nat) (src : Nat) (clsS : Bool) (payload : List Byte) : (raiseTo s p src clsS payload).chain.up1 = s.chain.up1 := congrArg (·.up1) ((raiseTo_keeps s p src clsS payload).plain .chain (by decide) rfl)
@[simp] theorem raiseTo_chain_cruised (s : State) (p : Nat) (src : Nat) (clsS : Bool) (payload : List Byte) : (raiseTo s p src clsS payload).chain.cruised = s.chain.cruised := congrArg (·.cruised) ((raiseTo_keeps s p src clsS payload).plain .chain (by decide) rfl)
@[simp] theorem raiseTo_chain_pendingAddr (s : State) (p : Nat) (src : Nat) (clsS : Bool) (payload : List Byte) : (raiseTo s p src clsS payload).chain.pendingAddr = s.chain.pendingAddr := congrArg (·.pendingAddr) ((raiseTo_keeps s p src clsS payload).plain .chain (by decide) rfl)
@[simp] theorem raiseTo_chain_posDup (s : State) (p : Nat) (src : Nat) (clsS : Bool) (payload : List Byte) : (raiseTo s p src clsS payload).chain.posDup = s.chain.posDup := congrArg (·.posDup) ((raiseTo_keeps s p src clsS payload).plain .chain (by decide) rfl)
@[simp] theorem raiseTo_chain_assigned (s : State) (p : Nat) (src : Nat) (clsS : Bool) (payload : List Byte) : (raiseTo s p src clsS payload).chain.assigned = s.chain.assigned := congrArg (·.assigned) ((raiseTo_keeps s p src clsS payload).plain .chain (by decide) rfl)
@[simp] theorem raiseTo_chain_announceDue (s : State) (p : Nat) (src : Nat) (clsS : Bool) (payload : List Byte) : (raiseTo s p src clsS payload).chain.announceDue = s.chain.announceDue := congrArg (·.announceDue) ((raiseTo_keeps s p src clsS payload).plain .chain (by decide) rfl)
@[simp] theorem raiseTo_chain_causes (s : State) (p : Nat) (src : Nat) (clsS : Bool) (payload : List Byte) : (raiseTo s p src clsS payload).chain.causes = s.chain.causes := congrArg (·.causes) ((raiseTo_keeps s p src clsS payload).plain .chain (by decide) rfl)
@[simp] theorem raiseTo_chain_cut (s : State) (p : Nat) (src : Nat) (clsS : Bool) (payload : List Byte) : (raiseTo s p src clsS payload).chain.cut = s.chain.cut := congrArg (·.cut) ((raiseTo_keeps s p src clsS payload).plain .chain (by decide) rfl)
@[simp] theorem raiseTo_chain_gmPort (s : State) (p : Nat) (src : Nat) (clsS : Bool) (payload : List Byte) : (raiseTo s p src clsS payload).chain.gmPort = s.chain.gmPort := congrArg (·.gmPort) ((raiseTo_keeps s p src clsS payload).plain .chain (by decide) rfl)
@[simp] theorem raiseTo_scl_budgets (s : State) (p : Nat) (src : Nat) (clsS : Bool) (payload : List Byte) : (raiseTo s p src clsS payload).scl.budgets = s.scl.budgets := congrArg (·.budgets) ((raiseTo_keeps s p src clsS payload).plain .scl (by decide) rfl)
@[simp] theorem raiseTo_scl_steps (s : State) (p : Nat) (src : Nat) (clsS : Bool) (payload : List Byte) : (raiseTo s p src clsS payload).scl.steps = s.scl.steps := congrArg (·.steps) ((raiseTo_keeps s p src clsS payload).plain .scl (by decide) rfl)
@[simp] theorem raiseTo_scl_feeds (s : State) (p : Nat) (src : Nat) (clsS : Bool) (payload : List Byte) : (raiseTo s p src clsS payload).scl.feeds = s.scl.feeds := congrArg (·.feeds) ((raiseTo_keeps s p src clsS payload).plain .scl (by decide) rfl)
@[simp] theorem raiseTo_scl_pkgBelow (s : State) (p : Nat) (src : Nat) (clsS : Bool) (payload : List Byte) : (raiseTo s p src clsS payload).scl.pkgBelow = s.scl.pkgBelow := congrArg (·.pkgBelow) ((raiseTo_keeps s p src clsS payload).plain .scl (by decide) rfl)
@[simp] theorem raiseTo_scl_pkgLog (s : State) (p : Nat) (src : Nat) (clsS : Bool) (payload : List Byte) : (raiseTo s p src clsS payload).scl.pkgLog = s.scl.pkgLog := congrArg (·.pkgLog) ((raiseTo_keeps s p src clsS payload).plain .scl (by decide) rfl)
@[simp] theorem raiseTo_scl_led (s : State) (p : Nat) (src : Nat) (clsS : Bool) (payload : List Byte) : (raiseTo s p src clsS payload).scl.led = s.scl.led := congrArg (·.led) ((raiseTo_keeps s p src clsS payload).plain .scl (by decide) rfl)
@[simp] theorem raiseTo_scl_pkgPhase (s : State) (p : Nat) (src : Nat) (clsS : Bool) (payload : List Byte) : (raiseTo s p src clsS payload).scl.pkgPhase = s.scl.pkgPhase := congrArg (·.pkgPhase) ((raiseTo_keeps s p src clsS payload).plain .scl (by decide) rfl)
@[simp] theorem raiseTo_scl_latchOffs (s : State) (p : Nat) (src : Nat) (clsS : Bool) (payload : List Byte) : (raiseTo s p src clsS payload).scl.latchOffs = s.scl.latchOffs := congrArg (·.latchOffs) ((raiseTo_keeps s p src clsS payload).plain .scl (by decide) rfl)
@[simp] theorem raiseTo_scl_stormAt (s : State) (p : Nat) (src : Nat) (clsS : Bool) (payload : List Byte) : (raiseTo s p src clsS payload).scl.stormAt = s.scl.stormAt := congrArg (·.stormAt) ((raiseTo_keeps s p src clsS payload).plain .scl (by decide) rfl)
@[simp] theorem raiseTo_scl_restarts (s : State) (p : Nat) (src : Nat) (clsS : Bool) (payload : List Byte) : (raiseTo s p src clsS payload).scl.restarts = s.scl.restarts := congrArg (·.restarts) ((raiseTo_keeps s p src clsS payload).plain .scl (by decide) rfl)
@[simp] theorem raiseTo_scl_pinned (s : State) (p : Nat) (src : Nat) (clsS : Bool) (payload : List Byte) : (raiseTo s p src clsS payload).scl.pinned = s.scl.pinned := congrArg (·.pinned) ((raiseTo_keeps s p src clsS payload).plain .scl (by decide) rfl)
@[simp] theorem raiseTo_scl_clean (s : State) (p : Nat) (src : Nat) (clsS : Bool) (payload : List Byte) : (raiseTo s p src clsS payload).scl.clean = s.scl.clean := congrArg (·.clean) ((raiseTo_keeps s p src clsS payload).plain .scl (by decide) rfl)
@[simp] theorem raiseTo_scl_ovlParts (s : State) (p : Nat) (src : Nat) (clsS : Bool) (payload : List Byte) : (raiseTo s p src clsS payload).scl.ovlParts = s.scl.ovlParts := congrArg (·.ovlParts) ((raiseTo_keeps s p src clsS payload).plain .scl (by decide) rfl)
@[simp] theorem raiseTo_sw_table (s : State) (p : Nat) (src : Nat) (clsS : Bool) (payload : List Byte) : (raiseTo s p src clsS payload).sw.table = s.sw.table := congrArg (·.table) ((raiseTo_keeps s p src clsS payload).plain .sw (by decide) rfl)
@[simp] theorem raiseTo_sw_vlans (s : State) (p : Nat) (src : Nat) (clsS : Bool) (payload : List Byte) : (raiseTo s p src clsS payload).sw.vlans = s.sw.vlans := congrArg (·.vlans) ((raiseTo_keeps s p src clsS payload).plain .sw (by decide) rfl)
@[simp] theorem raiseTo_sw_ruleRegs (s : State) (p : Nat) (src : Nat) (clsS : Bool) (payload : List Byte) : (raiseTo s p src clsS payload).sw.ruleRegs = s.sw.ruleRegs := congrArg (·.ruleRegs) ((raiseTo_keeps s p src clsS payload).plain .sw (by decide) rfl)
@[simp] theorem raiseTo_sw_queues (s : State) (p : Nat) (src : Nat) (clsS : Bool) (payload : List Byte) : (raiseTo s p src clsS payload).sw.queues = s.sw.queues := congrArg (·.queues) ((raiseTo_keeps s p src clsS payload).plain .sw (by decide) rfl)
@[simp] theorem raiseTo_sw_credits (s : State) (p : Nat) (src : Nat) (clsS : Bool) (payload : List Byte) : (raiseTo s p src clsS payload).sw.credits = s.sw.credits := congrArg (·.credits) ((raiseTo_keeps s p src clsS payload).plain .sw (by decide) rfl)
@[simp] theorem raiseTo_sw_gates (s : State) (p : Nat) (src : Nat) (clsS : Bool) (payload : List Byte) : (raiseTo s p src clsS payload).sw.gates = s.sw.gates := congrArg (·.gates) ((raiseTo_keeps s p src clsS payload).plain .sw (by decide) rfl)
@[simp] theorem raiseTo_sw_ageBase (s : State) (p : Nat) (src : Nat) (clsS : Bool) (payload : List Byte) : (raiseTo s p src clsS payload).sw.ageBase = s.sw.ageBase := congrArg (·.ageBase) ((raiseTo_keeps s p src clsS payload).plain .sw (by decide) rfl)
@[simp] theorem raiseTo_sw_storms (s : State) (p : Nat) (src : Nat) (clsS : Bool) (payload : List Byte) : (raiseTo s p src clsS payload).sw.storms = s.sw.storms := congrArg (·.storms) ((raiseTo_keeps s p src clsS payload).plain .sw (by decide) rfl)
@[simp] theorem raiseTo_sw_rx (s : State) (p : Nat) (src : Nat) (clsS : Bool) (payload : List Byte) : (raiseTo s p src clsS payload).sw.rx = s.sw.rx := congrArg (·.rx) ((raiseTo_keeps s p src clsS payload).plain .sw (by decide) rfl)
@[simp] theorem raiseTo_sw_tx (s : State) (p : Nat) (src : Nat) (clsS : Bool) (payload : List Byte) : (raiseTo s p src clsS payload).sw.tx = s.sw.tx := congrArg (·.tx) ((raiseTo_keeps s p src clsS payload).plain .sw (by decide) rfl)
@[simp] theorem raiseTo_sw_rxSa (s : State) (p : Nat) (src : Nat) (clsS : Bool) (payload : List Byte) : (raiseTo s p src clsS payload).sw.rxSa = s.sw.rxSa := congrArg (·.rxSa) ((raiseTo_keeps s p src clsS payload).plain .sw (by decide) rfl)
theorem raiseTo_rd (s : State) (p : Nat) (src : Nat) (clsS : Bool) (payload : List Byte) {fx : Field} (hx : fx.lsb < 64) (hc : clearOf [Reg.PAR_EVT_CNT, Reg.SW_CNT_VAL, Reg.SW_MSEC_STAT, Reg.TLY_CNT0] fx.off = true) :
    (raiseTo s p src clsS payload).rd fx = s.rd fx := (raiseTo_keeps s p src clsS payload).rd (by decide) fx hx (of_clearOf hc)
@[simp] theorem raise_pending (s : State) (src : Nat) (clsS : Bool) (rcpt : List Nat) (payload : List Byte) : (raise s src clsS rcpt payload).pending = s.pending := (raise_keeps s src clsS rcpt payload).plain .pending (by decide) rfl
@[simp] theorem raise_now (s : State) (src : Nat) (clsS : Bool) (rcpt : List Nat) (payload : List Byte) : (raise s src clsS rcpt payload).now = s.now := (raise_keeps s src clsS rcpt payload).plain .now (by decide) rfl
@[simp] theorem raise_freeCtr (s : State) (src : Nat) (clsS : Bool) (rcpt : List Nat) (payload : List Byte) : (raise s src clsS rcpt payload).freeCtr = s.freeCtr := (raise_keeps s src clsS rcpt payload).plain .freeCtr (by decide) rfl
@[simp] theorem raise_latches (s : State) (src : Nat) (clsS : Bool) (rcpt : List Nat) (payload : List Byte) : (raise s src clsS rcpt payload).latches = s.latches := (raise_keeps s src clsS rcpt payload).plain .latches (by decide) rfl
@[simp] theorem raise_spar (s : State) (src : Nat) (clsS : Bool) (rcpt : List Nat) (payload : List Byte) : (raise s src clsS rcpt payload).spar = s.spar := (raise_keeps s src clsS rcpt payload).plain .spar (by decide) rfl
@[simp] theorem raise_dt (s : State) (src : Nat) (clsS : Bool) (rcpt : List Nat) (payload : List Byte) : (raise s src clsS rcpt payload).dt = s.dt := (raise_keeps s src clsS rcpt payload).plain .dt (by decide) rfl
@[simp] theorem raise_par (s : State) (src : Nat) (clsS : Bool) (rcpt : List Nat) (payload : List Byte) : (raise s src clsS rcpt payload).par = s.par := (raise_keeps s src clsS rcpt payload).plain .par (by decide) rfl
@[simp] theorem raise_act (s : State) (src : Nat) (clsS : Bool) (rcpt : List Nat) (payload : List Byte) : (raise s src clsS rcpt payload).act = s.act := (raise_keeps s src clsS rcpt payload).plain .act (by decide) rfl
@[simp] theorem raise_chs (s : State) (src : Nat) (clsS : Bool) (rcpt : List Nat) (payload : List Byte) : (raise s src clsS rcpt payload).chs = s.chs := (raise_keeps s src clsS rcpt payload).plain .chs (by decide) rfl
@[simp] theorem raise_sns (s : State) (src : Nat) (clsS : Bool) (rcpt : List Nat) (payload : List Byte) : (raise s src clsS rcpt payload).sns = s.sns := (raise_keeps s src clsS rcpt payload).plain .sns (by decide) rfl
@[simp] theorem raise_sub (s : State) (src : Nat) (clsS : Bool) (rcpt : List Nat) (payload : List Byte) : (raise s src clsS rcpt payload).sub = s.sub := (raise_keeps s src clsS rcpt payload).plain .sub (by decide) rfl
@[simp] theorem raise_brd (s : State) (src : Nat) (clsS : Bool) (rcpt : List Nat) (payload : List Byte) : (raise s src clsS rcpt payload).brd = s.brd := (raise_keeps s src clsS rcpt payload).plain .brd (by decide) rfl
@[simp] theorem raise_inf (s : State) (src : Nat) (clsS : Bool) (rcpt : List Nat) (payload : List Byte) : (raise s src clsS rcpt payload).inf = s.inf := (raise_keeps s src clsS rcpt payload).plain .inf (by decide) rfl
@[simp] theorem raise_sto (s : State) (src : Nat) (clsS : Bool) (rcpt : List Nat) (payload : List Byte) : (raise s src clsS rcpt payload).sto = s.sto := (raise_keeps s src clsS rcpt payload).plain .sto (by decide) rfl
@[simp] theorem raise_sec (s : State) (src : Nat) (clsS : Bool) (rcpt : List Nat) (payload : List Byte) : (raise s src clsS rcpt payload).sec = s.sec := (raise_keeps s src clsS rcpt payload).plain .sec (by decide) rfl
@[simp] theorem raise_upd (s : State) (src : Nat) (clsS : Bool) (rcpt : List Nat) (payload : List Byte) : (raise s src clsS rcpt payload).upd = s.upd := (raise_keeps s src clsS rcpt payload).plain .upd (by decide) rfl
@[simp] theorem raise_flt (s : State) (src : Nat) (clsS : Bool) (rcpt : List Nat) (payload : List Byte) : (raise s src clsS rcpt payload).flt = s.flt := (raise_keeps s src clsS rcpt payload).plain .flt (by decide) rfl
@[simp] theorem raise_pwr_ps (s : State) (src : Nat) (clsS : Bool) (rcpt : List Nat) (payload : List Byte) : (raise s src clsS rcpt payload).pwr.ps = s.pwr.ps := congrArg (·.ps) ((raise_keeps s src clsS rcpt payload).plain .pwr (by decide) rfl)
@[simp] theorem raise_pwr_cd (s : State) (src : Nat) (clsS : Bool) (rcpt : List Nat) (payload : List Byte) : (raise s src clsS rcpt payload).pwr.cd = s.pwr.cd := congrArg (·.cd) ((raise_keeps s src clsS rcpt payload).plain .pwr (by decide) rfl)
@[simp] theorem raise_pwr_ldUp (s : State) (src : Nat) (clsS : Bool) (rcpt : List Nat) (payload : List Byte) : (raise s src clsS rcpt payload).pwr.ldUp = s.pwr.ldUp := congrArg (·.ldUp) ((raise_keeps s src clsS rcpt payload).plain .pwr (by decide) rfl)
@[simp] theorem raise_pwr_armed (s : State) (src : Nat) (clsS : Bool) (rcpt : List Nat) (payload : List Byte) : (raise s src clsS rcpt payload).pwr.armed = s.pwr.armed := congrArg (·.armed) ((raise_keeps s src clsS rcpt payload).plain .pwr (by decide) rfl)
@[simp] theorem raise_pwr_seq (s : State) (src : Nat) (clsS : Bool) (rcpt : List Nat) (payload : List Byte) : (raise s src clsS rcpt payload).pwr.seq = s.pwr.seq := congrArg (·.seq) ((raise_keeps s src clsS rcpt payload).plain .pwr (by decide) rfl)
@[simp] theorem raise_pwr_entry (s : State) (src : Nat) (clsS : Bool) (rcpt : List Nat) (payload : List Byte) : (raise s src clsS rcpt payload).pwr.entry = s.pwr.entry := congrArg (·.entry) ((raise_keeps s src clsS rcpt payload).plain .pwr (by decide) rfl)
@[simp] theorem raise_pwr_wakeAfter (s : State) (src : Nat) (clsS : Bool) (rcpt : List Nat) (payload : List Byte) : (raise s src clsS rcpt payload).pwr.wakeAfter = s.pwr.wakeAfter := congrArg (·.wakeAfter) ((raise_keeps s src clsS rcpt payload).plain .pwr (by decide) rfl)
@[simp] theorem raise_pwr_wakeAfterAt (s : State) (src : Nat) (clsS : Bool) (rcpt : List Nat) (payload : List Byte) : (raise s src clsS rcpt payload).pwr.wakeAfterAt = s.pwr.wakeAfterAt := congrArg (·.wakeAfterAt) ((raise_keeps s src clsS rcpt payload).plain .pwr (by decide) rfl)
@[simp] theorem raise_pwr_woke (s : State) (src : Nat) (clsS : Bool) (rcpt : List Nat) (payload : List Byte) : (raise s src clsS rcpt payload).pwr.woke = s.pwr.woke := congrArg (·.woke) ((raise_keeps s src clsS rcpt payload).plain .pwr (by decide) rfl)
@[simp] theorem raise_pwr_linkDue (s : State) (src : Nat) (clsS : Bool) (rcpt : List Nat) (payload : List Byte) : (raise s src clsS rcpt payload).pwr.linkDue = s.pwr.linkDue := congrArg (·.linkDue) ((raise_keeps s src clsS rcpt payload).plain .pwr (by decide) rfl)
@[simp] theorem raise_pwr_cores (s : State) (src : Nat) (clsS : Bool) (rcpt : List Nat) (payload : List Byte) : (raise s src clsS rcpt payload).pwr.cores = s.pwr.cores := congrArg (·.cores) ((raise_keeps s src clsS rcpt payload).plain .pwr (by decide) rfl)
@[simp] theorem raise_pwr_shadow (s : State) (src : Nat) (clsS : Bool) (rcpt : List Nat) (payload : List Byte) : (raise s src clsS rcpt payload).pwr.shadow = s.pwr.shadow := congrArg (·.shadow) ((raise_keeps s src clsS rcpt payload).plain .pwr (by decide) rfl)
@[simp] theorem raise_pwr_entryAt (s : State) (src : Nat) (clsS : Bool) (rcpt : List Nat) (payload : List Byte) : (raise s src clsS rcpt payload).pwr.entryAt = s.pwr.entryAt := congrArg (·.entryAt) ((raise_keeps s src clsS rcpt payload).plain .pwr (by decide) rfl)
@[simp] theorem raise_pwr_idleEntry (s : State) (src : Nat) (clsS : Bool) (rcpt : List Nat) (payload : List Byte) : (raise s src clsS rcpt payload).pwr.idleEntry = s.pwr.idleEntry := congrArg (·.idleEntry) ((raise_keeps s src clsS rcpt payload).plain .pwr (by decide) rfl)
@[simp] theorem raise_pwr_wfiAt (s : State) (src : Nat) (clsS : Bool) (rcpt : List Nat) (payload : List Byte) : (raise s src clsS rcpt payload).pwr.wfiAt = s.pwr.wfiAt := congrArg (·.wfiAt) ((raise_keeps s src clsS rcpt payload).plain .pwr (by decide) rfl)
@[simp] theorem raise_pwr_sleeps (s : State) (src : Nat) (clsS : Bool) (rcpt : List Nat) (payload : List Byte) : (raise s src clsS rcpt payload).pwr.sleeps = s.pwr.sleeps := congrArg (·.sleeps) ((raise_keeps s src clsS rcpt payload).plain .pwr (by decide) rfl)
@[simp] theorem raise_pwr_wakeBy (s : State) (src : Nat) (clsS : Bool) (rcpt : List Nat) (payload : List Byte) : (raise s src clsS rcpt payload).pwr.wakeBy = s.pwr.wakeBy := congrArg (·.wakeBy) ((raise_keeps s src clsS rcpt payload).plain .pwr (by decide) rfl)
@[simp] theorem raise_pwr_bootDone (s : State) (src : Nat) (clsS : Bool) (rcpt : List Nat) (payload : List Byte) : (raise s src clsS rcpt payload).pwr.bootDone = s.pwr.bootDone := congrArg (·.bootDone) ((raise_keeps s src clsS rcpt payload).plain .pwr (by decide) rfl)
@[simp] theorem raise_pwr_bootEntry (s : State) (src : Nat) (clsS : Bool) (rcpt : List Nat) (payload : List Byte) : (raise s src clsS rcpt payload).pwr.bootEntry = s.pwr.bootEntry := congrArg (·.bootEntry) ((raise_keeps s src clsS rcpt payload).plain .pwr (by decide) rfl)
@[simp] theorem raise_pwr_kept (s : State) (src : Nat) (clsS : Bool) (rcpt : List Nat) (payload : List Byte) : (raise s src clsS rcpt payload).pwr.kept = s.pwr.kept := congrArg (·.kept) ((raise_keeps s src clsS rcpt payload).plain .pwr (by decide) rfl)
@[simp] theorem raise_pwr_pinHeld (s : State) (src : Nat) (clsS : Bool) (rcpt : List Nat) (payload : List Byte) : (raise s src clsS rcpt payload).pwr.pinHeld = s.pwr.pinHeld := congrArg (·.pinHeld) ((raise_keeps s src clsS rcpt payload).plain .pwr (by decide) rfl)
@[simp] theorem raise_pwr_overFeeds (s : State) (src : Nat) (clsS : Bool) (rcpt : List Nat) (payload : List Byte) : (raise s src clsS rcpt payload).pwr.overFeeds = s.pwr.overFeeds := congrArg (·.overFeeds) ((raise_keeps s src clsS rcpt payload).plain .pwr (by decide) rfl)
@[simp] theorem raise_pwr_unzeroed (s : State) (src : Nat) (clsS : Bool) (rcpt : List Nat) (payload : List Byte) : (raise s src clsS rcpt payload).pwr.unzeroed = s.pwr.unzeroed := ((raise_keeps s src clsS rcpt payload).plain .banks (by decide) rfl)
@[simp] theorem raise_rng_shadows (s : State) (src : Nat) (clsS : Bool) (rcpt : List Nat) (payload : List Byte) : (raise s src clsS rcpt payload).rng.shadows = s.rng.shadows := congrArg (·.shadows) ((raise_keeps s src clsS rcpt payload).plain .rng (by decide) rfl)
@[simp] theorem raise_rng_work (s : State) (src : Nat) (clsS : Bool) (rcpt : List Nat) (payload : List Byte) : (raise s src clsS rcpt payload).rng.work = s.rng.work := congrArg (·.work) ((raise_keeps s src clsS rcpt payload).plain .rng (by decide) rfl)
@[simp] theorem raise_rng_stalled (s : State) (src : Nat) (clsS : Bool) (rcpt : List Nat) (payload : List Byte) : (raise s src clsS rcpt payload).rng.stalled = s.rng.stalled := congrArg (·.stalled) ((raise_keeps s src clsS rcpt payload).plain .rng (by decide) rfl)
@[simp] theorem raise_rng_bells (s : State) (src : Nat) (clsS : Bool) (rcpt : List Nat) (payload : List Byte) : (raise s src clsS rcpt payload).rng.bells = s.rng.bells := congrArg (·.bells) ((raise_keeps s src clsS rcpt payload).plain .rng (by decide) rfl)
@[simp] theorem raise_rng_deficit (s : State) (src : Nat) (clsS : Bool) (rcpt : List Nat) (payload : List Byte) : (raise s src clsS rcpt payload).rng.deficit = s.rng.deficit := congrArg (·.deficit) ((raise_keeps s src clsS rcpt payload).plain .rng (by decide) rfl)
@[simp] theorem raise_rng_drrAt (s : State) (src : Nat) (clsS : Bool) (rcpt : List Nat) (payload : List Byte) : (raise s src clsS rcpt payload).rng.drrAt = s.rng.drrAt := congrArg (·.drrAt) ((raise_keeps s src clsS rcpt payload).plain .rng (by decide) rfl)
@[simp] theorem raise_rng_turns (s : State) (src : Nat) (clsS : Bool) (rcpt : List Nat) (payload : List Byte) : (raise s src clsS rcpt payload).rng.turns = s.rng.turns := congrArg (·.turns) ((raise_keeps s src clsS rcpt payload).plain .rng (by decide) rfl)
@[simp] theorem raise_rng_busy (s : State) (src : Nat) (clsS : Bool) (rcpt : List Nat) (payload : List Byte) : (raise s src clsS rcpt payload).rng.busy = s.rng.busy := congrArg (·.busy) ((raise_keeps s src clsS rcpt payload).plain .rng (by decide) rfl)
@[simp] theorem raise_rng_heldReset (s : State) (src : Nat) (clsS : Bool) (rcpt : List Nat) (payload : List Byte) : (raise s src clsS rcpt payload).rng.heldReset = s.rng.heldReset := congrArg (·.heldReset) ((raise_keeps s src clsS rcpt payload).plain .rng (by decide) rfl)
@[simp] theorem raise_rng_spent (s : State) (src : Nat) (clsS : Bool) (rcpt : List Nat) (payload : List Byte) : (raise s src clsS rcpt payload).rng.spent = s.rng.spent := congrArg (·.spent) ((raise_keeps s src clsS rcpt payload).plain .rng (by decide) rfl)
@[simp] theorem raise_tly_ring (s : State) (src : Nat) (clsS : Bool) (rcpt : List Nat) (payload : List Byte) : (raise s src clsS rcpt payload).tly.ring = s.tly.ring := congrArg (·.ring) ((raise_keeps s src clsS rcpt payload).plain .tly (by decide) rfl)
@[simp] theorem raise_tly_first (s : State) (src : Nat) (clsS : Bool) (rcpt : List Nat) (payload : List Byte) : (raise s src clsS rcpt payload).tly.first = s.tly.first := congrArg (·.first) ((raise_keeps s src clsS rcpt payload).plain .tly (by decide) rfl)
@[simp] theorem raise_tly_lastMac (s : State) (src : Nat) (clsS : Bool) (rcpt : List Nat) (payload : List Byte) : (raise s src clsS rcpt payload).tly.lastMac = s.tly.lastMac := congrArg (·.lastMac) ((raise_keeps s src clsS rcpt payload).plain .tly (by decide) rfl)
@[simp] theorem raise_tly_starts (s : State) (src : Nat) (clsS : Bool) (rcpt : List Nat) (payload : List Byte) : (raise s src clsS rcpt payload).tly.starts = s.tly.starts := congrArg (·.starts) ((raise_keeps s src clsS rcpt payload).plain .tly (by decide) rfl)
@[simp] theorem raise_tly_lastClear (s : State) (src : Nat) (clsS : Bool) (rcpt : List Nat) (payload : List Byte) : (raise s src clsS rcpt payload).tly.lastClear = s.tly.lastClear := congrArg (·.lastClear) ((raise_keeps s src clsS rcpt payload).plain .tly (by decide) rfl)
@[simp] theorem raise_tly_unreadRaised (s : State) (src : Nat) (clsS : Bool) (rcpt : List Nat) (payload : List Byte) : (raise s src clsS rcpt payload).tly.unreadRaised = s.tly.unreadRaised := congrArg (·.unreadRaised) ((raise_keeps s src clsS rcpt payload).plain .tly (by decide) rfl)
@[simp] theorem raise_tly_fullRaised (s : State) (src : Nat) (clsS : Bool) (rcpt : List Nat) (payload : List Byte) : (raise s src clsS rcpt payload).tly.fullRaised = s.tly.fullRaised := congrArg (·.fullRaised) ((raise_keeps s src clsS rcpt payload).plain .tly (by decide) rfl)
@[simp] theorem raise_chain_up0 (s : State) (src : Nat) (clsS : Bool) (rcpt : List Nat) (payload : List Byte) : (raise s src clsS rcpt payload).chain.up0 = s.chain.up0 := congrArg (·.up0) ((raise_keeps s src clsS rcpt payload).plain .chain (by decide) rfl)
@[simp] theorem raise_chain_up1 (s : State) (src : Nat) (clsS : Bool) (rcpt : List Nat) (payload : List Byte) : (raise s src clsS rcpt payload).chain.up1 = s.chain.up1 := congrArg (·.up1) ((raise_keeps s src clsS rcpt payload).plain .chain (by decide) rfl)
@[simp] theorem raise_chain_cruised (s : State) (src : Nat) (clsS : Bool) (rcpt : List Nat) (payload : List Byte) : (raise s src clsS rcpt payload).chain.cruised = s.chain.cruised := congrArg (·.cruised) ((raise_keeps s src clsS rcpt payload).plain .chain (by decide) rfl)
@[simp] theorem raise_chain_pendingAddr (s : State) (src : Nat) (clsS : Bool) (rcpt : List Nat) (payload : List Byte) : (raise s src clsS rcpt payload).chain.pendingAddr = s.chain.pendingAddr := congrArg (·.pendingAddr) ((raise_keeps s src clsS rcpt payload).plain .chain (by decide) rfl)
@[simp] theorem raise_chain_posDup (s : State) (src : Nat) (clsS : Bool) (rcpt : List Nat) (payload : List Byte) : (raise s src clsS rcpt payload).chain.posDup = s.chain.posDup := congrArg (·.posDup) ((raise_keeps s src clsS rcpt payload).plain .chain (by decide) rfl)
@[simp] theorem raise_chain_assigned (s : State) (src : Nat) (clsS : Bool) (rcpt : List Nat) (payload : List Byte) : (raise s src clsS rcpt payload).chain.assigned = s.chain.assigned := congrArg (·.assigned) ((raise_keeps s src clsS rcpt payload).plain .chain (by decide) rfl)
@[simp] theorem raise_chain_announceDue (s : State) (src : Nat) (clsS : Bool) (rcpt : List Nat) (payload : List Byte) : (raise s src clsS rcpt payload).chain.announceDue = s.chain.announceDue := congrArg (·.announceDue) ((raise_keeps s src clsS rcpt payload).plain .chain (by decide) rfl)
@[simp] theorem raise_chain_causes (s : State) (src : Nat) (clsS : Bool) (rcpt : List Nat) (payload : List Byte) : (raise s src clsS rcpt payload).chain.causes = s.chain.causes := congrArg (·.causes) ((raise_keeps s src clsS rcpt payload).plain .chain (by decide) rfl)
@[simp] theorem raise_chain_cut (s : State) (src : Nat) (clsS : Bool) (rcpt : List Nat) (payload : List Byte) : (raise s src clsS rcpt payload).chain.cut = s.chain.cut := congrArg (·.cut) ((raise_keeps s src clsS rcpt payload).plain .chain (by decide) rfl)
@[simp] theorem raise_chain_gmPort (s : State) (src : Nat) (clsS : Bool) (rcpt : List Nat) (payload : List Byte) : (raise s src clsS rcpt payload).chain.gmPort = s.chain.gmPort := congrArg (·.gmPort) ((raise_keeps s src clsS rcpt payload).plain .chain (by decide) rfl)
@[simp] theorem raise_scl_budgets (s : State) (src : Nat) (clsS : Bool) (rcpt : List Nat) (payload : List Byte) : (raise s src clsS rcpt payload).scl.budgets = s.scl.budgets := congrArg (·.budgets) ((raise_keeps s src clsS rcpt payload).plain .scl (by decide) rfl)
@[simp] theorem raise_scl_steps (s : State) (src : Nat) (clsS : Bool) (rcpt : List Nat) (payload : List Byte) : (raise s src clsS rcpt payload).scl.steps = s.scl.steps := congrArg (·.steps) ((raise_keeps s src clsS rcpt payload).plain .scl (by decide) rfl)
@[simp] theorem raise_scl_feeds (s : State) (src : Nat) (clsS : Bool) (rcpt : List Nat) (payload : List Byte) : (raise s src clsS rcpt payload).scl.feeds = s.scl.feeds := congrArg (·.feeds) ((raise_keeps s src clsS rcpt payload).plain .scl (by decide) rfl)
@[simp] theorem raise_scl_pkgBelow (s : State) (src : Nat) (clsS : Bool) (rcpt : List Nat) (payload : List Byte) : (raise s src clsS rcpt payload).scl.pkgBelow = s.scl.pkgBelow := congrArg (·.pkgBelow) ((raise_keeps s src clsS rcpt payload).plain .scl (by decide) rfl)
@[simp] theorem raise_scl_pkgLog (s : State) (src : Nat) (clsS : Bool) (rcpt : List Nat) (payload : List Byte) : (raise s src clsS rcpt payload).scl.pkgLog = s.scl.pkgLog := congrArg (·.pkgLog) ((raise_keeps s src clsS rcpt payload).plain .scl (by decide) rfl)
@[simp] theorem raise_scl_led (s : State) (src : Nat) (clsS : Bool) (rcpt : List Nat) (payload : List Byte) : (raise s src clsS rcpt payload).scl.led = s.scl.led := congrArg (·.led) ((raise_keeps s src clsS rcpt payload).plain .scl (by decide) rfl)
@[simp] theorem raise_scl_pkgPhase (s : State) (src : Nat) (clsS : Bool) (rcpt : List Nat) (payload : List Byte) : (raise s src clsS rcpt payload).scl.pkgPhase = s.scl.pkgPhase := congrArg (·.pkgPhase) ((raise_keeps s src clsS rcpt payload).plain .scl (by decide) rfl)
@[simp] theorem raise_scl_latchOffs (s : State) (src : Nat) (clsS : Bool) (rcpt : List Nat) (payload : List Byte) : (raise s src clsS rcpt payload).scl.latchOffs = s.scl.latchOffs := congrArg (·.latchOffs) ((raise_keeps s src clsS rcpt payload).plain .scl (by decide) rfl)
@[simp] theorem raise_scl_stormAt (s : State) (src : Nat) (clsS : Bool) (rcpt : List Nat) (payload : List Byte) : (raise s src clsS rcpt payload).scl.stormAt = s.scl.stormAt := congrArg (·.stormAt) ((raise_keeps s src clsS rcpt payload).plain .scl (by decide) rfl)
@[simp] theorem raise_scl_restarts (s : State) (src : Nat) (clsS : Bool) (rcpt : List Nat) (payload : List Byte) : (raise s src clsS rcpt payload).scl.restarts = s.scl.restarts := congrArg (·.restarts) ((raise_keeps s src clsS rcpt payload).plain .scl (by decide) rfl)
@[simp] theorem raise_scl_pinned (s : State) (src : Nat) (clsS : Bool) (rcpt : List Nat) (payload : List Byte) : (raise s src clsS rcpt payload).scl.pinned = s.scl.pinned := congrArg (·.pinned) ((raise_keeps s src clsS rcpt payload).plain .scl (by decide) rfl)
@[simp] theorem raise_scl_clean (s : State) (src : Nat) (clsS : Bool) (rcpt : List Nat) (payload : List Byte) : (raise s src clsS rcpt payload).scl.clean = s.scl.clean := congrArg (·.clean) ((raise_keeps s src clsS rcpt payload).plain .scl (by decide) rfl)
@[simp] theorem raise_scl_ovlParts (s : State) (src : Nat) (clsS : Bool) (rcpt : List Nat) (payload : List Byte) : (raise s src clsS rcpt payload).scl.ovlParts = s.scl.ovlParts := congrArg (·.ovlParts) ((raise_keeps s src clsS rcpt payload).plain .scl (by decide) rfl)
@[simp] theorem raise_sw_table (s : State) (src : Nat) (clsS : Bool) (rcpt : List Nat) (payload : List Byte) : (raise s src clsS rcpt payload).sw.table = s.sw.table := congrArg (·.table) ((raise_keeps s src clsS rcpt payload).plain .sw (by decide) rfl)
@[simp] theorem raise_sw_vlans (s : State) (src : Nat) (clsS : Bool) (rcpt : List Nat) (payload : List Byte) : (raise s src clsS rcpt payload).sw.vlans = s.sw.vlans := congrArg (·.vlans) ((raise_keeps s src clsS rcpt payload).plain .sw (by decide) rfl)
@[simp] theorem raise_sw_ruleRegs (s : State) (src : Nat) (clsS : Bool) (rcpt : List Nat) (payload : List Byte) : (raise s src clsS rcpt payload).sw.ruleRegs = s.sw.ruleRegs := congrArg (·.ruleRegs) ((raise_keeps s src clsS rcpt payload).plain .sw (by decide) rfl)
@[simp] theorem raise_sw_queues (s : State) (src : Nat) (clsS : Bool) (rcpt : List Nat) (payload : List Byte) : (raise s src clsS rcpt payload).sw.queues = s.sw.queues := congrArg (·.queues) ((raise_keeps s src clsS rcpt payload).plain .sw (by decide) rfl)
@[simp] theorem raise_sw_credits (s : State) (src : Nat) (clsS : Bool) (rcpt : List Nat) (payload : List Byte) : (raise s src clsS rcpt payload).sw.credits = s.sw.credits := congrArg (·.credits) ((raise_keeps s src clsS rcpt payload).plain .sw (by decide) rfl)
@[simp] theorem raise_sw_gates (s : State) (src : Nat) (clsS : Bool) (rcpt : List Nat) (payload : List Byte) : (raise s src clsS rcpt payload).sw.gates = s.sw.gates := congrArg (·.gates) ((raise_keeps s src clsS rcpt payload).plain .sw (by decide) rfl)
@[simp] theorem raise_sw_ageBase (s : State) (src : Nat) (clsS : Bool) (rcpt : List Nat) (payload : List Byte) : (raise s src clsS rcpt payload).sw.ageBase = s.sw.ageBase := congrArg (·.ageBase) ((raise_keeps s src clsS rcpt payload).plain .sw (by decide) rfl)
@[simp] theorem raise_sw_storms (s : State) (src : Nat) (clsS : Bool) (rcpt : List Nat) (payload : List Byte) : (raise s src clsS rcpt payload).sw.storms = s.sw.storms := congrArg (·.storms) ((raise_keeps s src clsS rcpt payload).plain .sw (by decide) rfl)
@[simp] theorem raise_sw_rx (s : State) (src : Nat) (clsS : Bool) (rcpt : List Nat) (payload : List Byte) : (raise s src clsS rcpt payload).sw.rx = s.sw.rx := congrArg (·.rx) ((raise_keeps s src clsS rcpt payload).plain .sw (by decide) rfl)
@[simp] theorem raise_sw_tx (s : State) (src : Nat) (clsS : Bool) (rcpt : List Nat) (payload : List Byte) : (raise s src clsS rcpt payload).sw.tx = s.sw.tx := congrArg (·.tx) ((raise_keeps s src clsS rcpt payload).plain .sw (by decide) rfl)
@[simp] theorem raise_sw_rxSa (s : State) (src : Nat) (clsS : Bool) (rcpt : List Nat) (payload : List Byte) : (raise s src clsS rcpt payload).sw.rxSa = s.sw.rxSa := congrArg (·.rxSa) ((raise_keeps s src clsS rcpt payload).plain .sw (by decide) rfl)
theorem raise_rd (s : State) (src : Nat) (clsS : Bool) (rcpt : List Nat) (payload : List Byte) {fx : Field} (hx : fx.lsb < 64) (hc : clearOf [Reg.PAR_EVT_CNT, Reg.SW_CNT_VAL, Reg.SW_MSEC_STAT, Reg.TLY_CNT0] fx.off = true) :
    (raise s src clsS rcpt payload).rd fx = s.rd fx := (raise_keeps s src clsS rcpt payload).rd (by decide) fx hx (of_clearOf hc)
@[simp] theorem holdEvent_pending (s : State) (p : Nat) (src : Nat) (clsS : Bool) (payload : List Byte) : (holdEvent s p src clsS payload).pending = s.pending := (holdEvent_keeps s p src clsS payload).plain .pending (by decide) rfl
@[simp] theorem holdEvent_now (s : State) (p : Nat) (src : Nat) (clsS : Bool) (payload : List Byte) : (holdEvent s p src clsS payload).now = s.now := (holdEvent_keeps s p src clsS payload).plain .now (by decide) rfl
@[simp] theorem holdEvent_freeCtr (s : State) (p : Nat) (src : Nat) (clsS : Bool) (payload : List Byte) : (holdEvent s p src clsS payload).freeCtr = s.freeCtr := (holdEvent_keeps s p src clsS payload).plain .freeCtr (by decide) rfl
@[simp] theorem holdEvent_latches (s : State) (p : Nat) (src : Nat) (clsS : Bool) (payload : List Byte) : (holdEvent s p src clsS payload).latches = s.latches := (holdEvent_keeps s p src clsS payload).plain .latches (by decide) rfl
@[simp] theorem holdEvent_spar (s : State) (p : Nat) (src : Nat) (clsS : Bool) (payload : List Byte) : (holdEvent s p src clsS payload).spar = s.spar := (holdEvent_keeps s p src clsS payload).plain .spar (by decide) rfl
@[simp] theorem holdEvent_dt (s : State) (p : Nat) (src : Nat) (clsS : Bool) (payload : List Byte) : (holdEvent s p src clsS payload).dt = s.dt := (holdEvent_keeps s p src clsS payload).plain .dt (by decide) rfl
@[simp] theorem holdEvent_par (s : State) (p : Nat) (src : Nat) (clsS : Bool) (payload : List Byte) : (holdEvent s p src clsS payload).par = s.par := (holdEvent_keeps s p src clsS payload).plain .par (by decide) rfl
@[simp] theorem holdEvent_act (s : State) (p : Nat) (src : Nat) (clsS : Bool) (payload : List Byte) : (holdEvent s p src clsS payload).act = s.act := (holdEvent_keeps s p src clsS payload).plain .act (by decide) rfl
@[simp] theorem holdEvent_chs (s : State) (p : Nat) (src : Nat) (clsS : Bool) (payload : List Byte) : (holdEvent s p src clsS payload).chs = s.chs := (holdEvent_keeps s p src clsS payload).plain .chs (by decide) rfl
@[simp] theorem holdEvent_sns (s : State) (p : Nat) (src : Nat) (clsS : Bool) (payload : List Byte) : (holdEvent s p src clsS payload).sns = s.sns := (holdEvent_keeps s p src clsS payload).plain .sns (by decide) rfl
@[simp] theorem holdEvent_sub (s : State) (p : Nat) (src : Nat) (clsS : Bool) (payload : List Byte) : (holdEvent s p src clsS payload).sub = s.sub := (holdEvent_keeps s p src clsS payload).plain .sub (by decide) rfl
@[simp] theorem holdEvent_brd (s : State) (p : Nat) (src : Nat) (clsS : Bool) (payload : List Byte) : (holdEvent s p src clsS payload).brd = s.brd := (holdEvent_keeps s p src clsS payload).plain .brd (by decide) rfl
@[simp] theorem holdEvent_inf (s : State) (p : Nat) (src : Nat) (clsS : Bool) (payload : List Byte) : (holdEvent s p src clsS payload).inf = s.inf := (holdEvent_keeps s p src clsS payload).plain .inf (by decide) rfl
@[simp] theorem holdEvent_sto (s : State) (p : Nat) (src : Nat) (clsS : Bool) (payload : List Byte) : (holdEvent s p src clsS payload).sto = s.sto := (holdEvent_keeps s p src clsS payload).plain .sto (by decide) rfl
@[simp] theorem holdEvent_sec (s : State) (p : Nat) (src : Nat) (clsS : Bool) (payload : List Byte) : (holdEvent s p src clsS payload).sec = s.sec := (holdEvent_keeps s p src clsS payload).plain .sec (by decide) rfl
@[simp] theorem holdEvent_upd (s : State) (p : Nat) (src : Nat) (clsS : Bool) (payload : List Byte) : (holdEvent s p src clsS payload).upd = s.upd := (holdEvent_keeps s p src clsS payload).plain .upd (by decide) rfl
@[simp] theorem holdEvent_flt (s : State) (p : Nat) (src : Nat) (clsS : Bool) (payload : List Byte) : (holdEvent s p src clsS payload).flt = s.flt := (holdEvent_keeps s p src clsS payload).plain .flt (by decide) rfl
@[simp] theorem holdEvent_out (s : State) (p : Nat) (src : Nat) (clsS : Bool) (payload : List Byte) : (holdEvent s p src clsS payload).out = s.out := (holdEvent_keeps s p src clsS payload).plain .out (by decide) rfl
@[simp] theorem holdEvent_pwr (s : State) (p : Nat) (src : Nat) (clsS : Bool) (payload : List Byte) : (holdEvent s p src clsS payload).pwr = s.pwr := pwr_ext ((holdEvent_keeps s p src clsS payload).plain .pwr (by decide) rfl) ((holdEvent_keeps s p src clsS payload).plain .owed (by decide) rfl) ((holdEvent_keeps s p src clsS payload).plain .banks (by decide) rfl)
@[simp] theorem holdEvent_rng (s : State) (p : Nat) (src : Nat) (clsS : Bool) (payload : List Byte) : (holdEvent s p src clsS payload).rng = s.rng := rng_ext ((holdEvent_keeps s p src clsS payload).plain .rng (by decide) rfl) ((holdEvent_keeps s p src clsS payload).plain .rings (by decide) rfl)
@[simp] theorem holdEvent_tly_ring (s : State) (p : Nat) (src : Nat) (clsS : Bool) (payload : List Byte) : (holdEvent s p src clsS payload).tly.ring = s.tly.ring := congrArg (·.ring) ((holdEvent_keeps s p src clsS payload).plain .tly (by decide) rfl)
@[simp] theorem holdEvent_tly_first (s : State) (p : Nat) (src : Nat) (clsS : Bool) (payload : List Byte) : (holdEvent s p src clsS payload).tly.first = s.tly.first := congrArg (·.first) ((holdEvent_keeps s p src clsS payload).plain .tly (by decide) rfl)
@[simp] theorem holdEvent_tly_lastMac (s : State) (p : Nat) (src : Nat) (clsS : Bool) (payload : List Byte) : (holdEvent s p src clsS payload).tly.lastMac = s.tly.lastMac := congrArg (·.lastMac) ((holdEvent_keeps s p src clsS payload).plain .tly (by decide) rfl)
@[simp] theorem holdEvent_tly_starts (s : State) (p : Nat) (src : Nat) (clsS : Bool) (payload : List Byte) : (holdEvent s p src clsS payload).tly.starts = s.tly.starts := congrArg (·.starts) ((holdEvent_keeps s p src clsS payload).plain .tly (by decide) rfl)
@[simp] theorem holdEvent_tly_lastClear (s : State) (p : Nat) (src : Nat) (clsS : Bool) (payload : List Byte) : (holdEvent s p src clsS payload).tly.lastClear = s.tly.lastClear := congrArg (·.lastClear) ((holdEvent_keeps s p src clsS payload).plain .tly (by decide) rfl)
@[simp] theorem holdEvent_tly_unreadRaised (s : State) (p : Nat) (src : Nat) (clsS : Bool) (payload : List Byte) : (holdEvent s p src clsS payload).tly.unreadRaised = s.tly.unreadRaised := congrArg (·.unreadRaised) ((holdEvent_keeps s p src clsS payload).plain .tly (by decide) rfl)
@[simp] theorem holdEvent_tly_fullRaised (s : State) (p : Nat) (src : Nat) (clsS : Bool) (payload : List Byte) : (holdEvent s p src clsS payload).tly.fullRaised = s.tly.fullRaised := congrArg (·.fullRaised) ((holdEvent_keeps s p src clsS payload).plain .tly (by decide) rfl)
@[simp] theorem holdEvent_chain (s : State) (p : Nat) (src : Nat) (clsS : Bool) (payload : List Byte) : (holdEvent s p src clsS payload).chain = s.chain := chain_ext ((holdEvent_keeps s p src clsS payload).plain .chain (by decide) rfl) ((holdEvent_keeps s p src clsS payload).plain .proxies (by decide) rfl)
@[simp] theorem holdEvent_scl (s : State) (p : Nat) (src : Nat) (clsS : Bool) (payload : List Byte) : (holdEvent s p src clsS payload).scl = s.scl := scl_ext ((holdEvent_keeps s p src clsS payload).plain .scl (by decide) rfl) ((holdEvent_keeps s p src clsS payload).plain .loss (by decide) rfl)
@[simp] theorem holdEvent_sw (s : State) (p : Nat) (src : Nat) (clsS : Bool) (payload : List Byte) : (holdEvent s p src clsS payload).sw = s.sw := sw_ext ((holdEvent_keeps s p src clsS payload).plain .sw (by decide) rfl) ((holdEvent_keeps s p src clsS payload).plain .wire (by decide) rfl)
@[simp] theorem holdEvent_mem (s : State) (p : Nat) (src : Nat) (clsS : Bool) (payload : List Byte) : (holdEvent s p src clsS payload).mem = s.mem := (holdEvent_keeps s p src clsS payload).same (by decide) (by decide)
theorem holdEvent_rd (s : State) (p : Nat) (src : Nat) (clsS : Bool) (payload : List Byte) {fx : Field} (hx : fx.lsb < 64) (hc : clearOf [Reg.TLY_CNT0] fx.off = true) :
    (holdEvent s p src clsS payload).rd fx = s.rd fx := (holdEvent_keeps s p src clsS payload).rd (by decide) fx hx (of_clearOf hc)
@[simp] theorem sQueueFull_pending (s : State) (q : Nat) (dropped : Option EvRec) : (sQueueFull s q dropped).pending = s.pending := (sQueueFull_keeps s q dropped).plain .pending (by decide) rfl
@[simp] theorem sQueueFull_now (s : State) (q : Nat) (dropped : Option EvRec) : (sQueueFull s q dropped).now = s.now := (sQueueFull_keeps s q dropped).plain .now (by decide) rfl
@[simp] theorem sQueueFull_freeCtr (s : State) (q : Nat) (dropped : Option EvRec) : (sQueueFull s q dropped).freeCtr = s.freeCtr := (sQueueFull_keeps s q dropped).plain .freeCtr (by decide) rfl
@[simp] theorem sQueueFull_latches (s : State) (q : Nat) (dropped : Option EvRec) : (sQueueFull s q dropped).latches = s.latches := (sQueueFull_keeps s q dropped).plain .latches (by decide) rfl
@[simp] theorem sQueueFull_spar (s : State) (q : Nat) (dropped : Option EvRec) : (sQueueFull s q dropped).spar = s.spar := (sQueueFull_keeps s q dropped).plain .spar (by decide) rfl
@[simp] theorem sQueueFull_dt (s : State) (q : Nat) (dropped : Option EvRec) : (sQueueFull s q dropped).dt = s.dt := (sQueueFull_keeps s q dropped).plain .dt (by decide) rfl
@[simp] theorem sQueueFull_par (s : State) (q : Nat) (dropped : Option EvRec) : (sQueueFull s q dropped).par = s.par := (sQueueFull_keeps s q dropped).plain .par (by decide) rfl
@[simp] theorem sQueueFull_act (s : State) (q : Nat) (dropped : Option EvRec) : (sQueueFull s q dropped).act = s.act := (sQueueFull_keeps s q dropped).plain .act (by decide) rfl
@[simp] theorem sQueueFull_chs (s : State) (q : Nat) (dropped : Option EvRec) : (sQueueFull s q dropped).chs = s.chs := (sQueueFull_keeps s q dropped).plain .chs (by decide) rfl
@[simp] theorem sQueueFull_sns (s : State) (q : Nat) (dropped : Option EvRec) : (sQueueFull s q dropped).sns = s.sns := (sQueueFull_keeps s q dropped).plain .sns (by decide) rfl
@[simp] theorem sQueueFull_sub (s : State) (q : Nat) (dropped : Option EvRec) : (sQueueFull s q dropped).sub = s.sub := (sQueueFull_keeps s q dropped).plain .sub (by decide) rfl
@[simp] theorem sQueueFull_brd (s : State) (q : Nat) (dropped : Option EvRec) : (sQueueFull s q dropped).brd = s.brd := (sQueueFull_keeps s q dropped).plain .brd (by decide) rfl
@[simp] theorem sQueueFull_inf (s : State) (q : Nat) (dropped : Option EvRec) : (sQueueFull s q dropped).inf = s.inf := (sQueueFull_keeps s q dropped).plain .inf (by decide) rfl
@[simp] theorem sQueueFull_sto (s : State) (q : Nat) (dropped : Option EvRec) : (sQueueFull s q dropped).sto = s.sto := (sQueueFull_keeps s q dropped).plain .sto (by decide) rfl
@[simp] theorem sQueueFull_sec (s : State) (q : Nat) (dropped : Option EvRec) : (sQueueFull s q dropped).sec = s.sec := (sQueueFull_keeps s q dropped).plain .sec (by decide) rfl
@[simp] theorem sQueueFull_upd (s : State) (q : Nat) (dropped : Option EvRec) : (sQueueFull s q dropped).upd = s.upd := (sQueueFull_keeps s q dropped).plain .upd (by decide) rfl
@[simp] theorem sQueueFull_flt (s : State) (q : Nat) (dropped : Option EvRec) : (sQueueFull s q dropped).flt = s.flt := (sQueueFull_keeps s q dropped).plain .flt (by decide) rfl
@[simp] theorem sQueueFull_pwr_ps (s : State) (q : Nat) (dropped : Option EvRec) : (sQueueFull s q dropped).pwr.ps = s.pwr.ps := congrArg (·.ps) ((sQueueFull_keeps s q dropped).plain .pwr (by decide) rfl)
@[simp] theorem sQueueFull_pwr_cd (s : State) (q : Nat) (dropped : Option EvRec) : (sQueueFull s q dropped).pwr.cd = s.pwr.cd := congrArg (·.cd) ((sQueueFull_keeps s q dropped).plain .pwr (by decide) rfl)
@[simp] theorem sQueueFull_pwr_ldUp (s : State) (q : Nat) (dropped : Option EvRec) : (sQueueFull s q dropped).pwr.ldUp = s.pwr.ldUp := congrArg (·.ldUp) ((sQueueFull_keeps s q dropped).plain .pwr (by decide) rfl)
@[simp] theorem sQueueFull_pwr_armed (s : State) (q : Nat) (dropped : Option EvRec) : (sQueueFull s q dropped).pwr.armed = s.pwr.armed := congrArg (·.armed) ((sQueueFull_keeps s q dropped).plain .pwr (by decide) rfl)
@[simp] theorem sQueueFull_pwr_seq (s : State) (q : Nat) (dropped : Option EvRec) : (sQueueFull s q dropped).pwr.seq = s.pwr.seq := congrArg (·.seq) ((sQueueFull_keeps s q dropped).plain .pwr (by decide) rfl)
@[simp] theorem sQueueFull_pwr_entry (s : State) (q : Nat) (dropped : Option EvRec) : (sQueueFull s q dropped).pwr.entry = s.pwr.entry := congrArg (·.entry) ((sQueueFull_keeps s q dropped).plain .pwr (by decide) rfl)
@[simp] theorem sQueueFull_pwr_wakeAfter (s : State) (q : Nat) (dropped : Option EvRec) : (sQueueFull s q dropped).pwr.wakeAfter = s.pwr.wakeAfter := congrArg (·.wakeAfter) ((sQueueFull_keeps s q dropped).plain .pwr (by decide) rfl)
@[simp] theorem sQueueFull_pwr_wakeAfterAt (s : State) (q : Nat) (dropped : Option EvRec) : (sQueueFull s q dropped).pwr.wakeAfterAt = s.pwr.wakeAfterAt := congrArg (·.wakeAfterAt) ((sQueueFull_keeps s q dropped).plain .pwr (by decide) rfl)
@[simp] theorem sQueueFull_pwr_woke (s : State) (q : Nat) (dropped : Option EvRec) : (sQueueFull s q dropped).pwr.woke = s.pwr.woke := congrArg (·.woke) ((sQueueFull_keeps s q dropped).plain .pwr (by decide) rfl)
@[simp] theorem sQueueFull_pwr_linkDue (s : State) (q : Nat) (dropped : Option EvRec) : (sQueueFull s q dropped).pwr.linkDue = s.pwr.linkDue := congrArg (·.linkDue) ((sQueueFull_keeps s q dropped).plain .pwr (by decide) rfl)
@[simp] theorem sQueueFull_pwr_cores (s : State) (q : Nat) (dropped : Option EvRec) : (sQueueFull s q dropped).pwr.cores = s.pwr.cores := congrArg (·.cores) ((sQueueFull_keeps s q dropped).plain .pwr (by decide) rfl)
@[simp] theorem sQueueFull_pwr_shadow (s : State) (q : Nat) (dropped : Option EvRec) : (sQueueFull s q dropped).pwr.shadow = s.pwr.shadow := congrArg (·.shadow) ((sQueueFull_keeps s q dropped).plain .pwr (by decide) rfl)
@[simp] theorem sQueueFull_pwr_entryAt (s : State) (q : Nat) (dropped : Option EvRec) : (sQueueFull s q dropped).pwr.entryAt = s.pwr.entryAt := congrArg (·.entryAt) ((sQueueFull_keeps s q dropped).plain .pwr (by decide) rfl)
@[simp] theorem sQueueFull_pwr_idleEntry (s : State) (q : Nat) (dropped : Option EvRec) : (sQueueFull s q dropped).pwr.idleEntry = s.pwr.idleEntry := congrArg (·.idleEntry) ((sQueueFull_keeps s q dropped).plain .pwr (by decide) rfl)
@[simp] theorem sQueueFull_pwr_wfiAt (s : State) (q : Nat) (dropped : Option EvRec) : (sQueueFull s q dropped).pwr.wfiAt = s.pwr.wfiAt := congrArg (·.wfiAt) ((sQueueFull_keeps s q dropped).plain .pwr (by decide) rfl)
@[simp] theorem sQueueFull_pwr_sleeps (s : State) (q : Nat) (dropped : Option EvRec) : (sQueueFull s q dropped).pwr.sleeps = s.pwr.sleeps := congrArg (·.sleeps) ((sQueueFull_keeps s q dropped).plain .pwr (by decide) rfl)
@[simp] theorem sQueueFull_pwr_wakeBy (s : State) (q : Nat) (dropped : Option EvRec) : (sQueueFull s q dropped).pwr.wakeBy = s.pwr.wakeBy := congrArg (·.wakeBy) ((sQueueFull_keeps s q dropped).plain .pwr (by decide) rfl)
@[simp] theorem sQueueFull_pwr_bootDone (s : State) (q : Nat) (dropped : Option EvRec) : (sQueueFull s q dropped).pwr.bootDone = s.pwr.bootDone := congrArg (·.bootDone) ((sQueueFull_keeps s q dropped).plain .pwr (by decide) rfl)
@[simp] theorem sQueueFull_pwr_bootEntry (s : State) (q : Nat) (dropped : Option EvRec) : (sQueueFull s q dropped).pwr.bootEntry = s.pwr.bootEntry := congrArg (·.bootEntry) ((sQueueFull_keeps s q dropped).plain .pwr (by decide) rfl)
@[simp] theorem sQueueFull_pwr_kept (s : State) (q : Nat) (dropped : Option EvRec) : (sQueueFull s q dropped).pwr.kept = s.pwr.kept := congrArg (·.kept) ((sQueueFull_keeps s q dropped).plain .pwr (by decide) rfl)
@[simp] theorem sQueueFull_pwr_pinHeld (s : State) (q : Nat) (dropped : Option EvRec) : (sQueueFull s q dropped).pwr.pinHeld = s.pwr.pinHeld := congrArg (·.pinHeld) ((sQueueFull_keeps s q dropped).plain .pwr (by decide) rfl)
@[simp] theorem sQueueFull_pwr_overFeeds (s : State) (q : Nat) (dropped : Option EvRec) : (sQueueFull s q dropped).pwr.overFeeds = s.pwr.overFeeds := congrArg (·.overFeeds) ((sQueueFull_keeps s q dropped).plain .pwr (by decide) rfl)
@[simp] theorem sQueueFull_pwr_unzeroed (s : State) (q : Nat) (dropped : Option EvRec) : (sQueueFull s q dropped).pwr.unzeroed = s.pwr.unzeroed := ((sQueueFull_keeps s q dropped).plain .banks (by decide) rfl)
@[simp] theorem sQueueFull_rng_shadows (s : State) (q : Nat) (dropped : Option EvRec) : (sQueueFull s q dropped).rng.shadows = s.rng.shadows := congrArg (·.shadows) ((sQueueFull_keeps s q dropped).plain .rng (by decide) rfl)
@[simp] theorem sQueueFull_rng_work (s : State) (q : Nat) (dropped : Option EvRec) : (sQueueFull s q dropped).rng.work = s.rng.work := congrArg (·.work) ((sQueueFull_keeps s q dropped).plain .rng (by decide) rfl)
@[simp] theorem sQueueFull_rng_stalled (s : State) (q : Nat) (dropped : Option EvRec) : (sQueueFull s q dropped).rng.stalled = s.rng.stalled := congrArg (·.stalled) ((sQueueFull_keeps s q dropped).plain .rng (by decide) rfl)
@[simp] theorem sQueueFull_rng_bells (s : State) (q : Nat) (dropped : Option EvRec) : (sQueueFull s q dropped).rng.bells = s.rng.bells := congrArg (·.bells) ((sQueueFull_keeps s q dropped).plain .rng (by decide) rfl)
@[simp] theorem sQueueFull_rng_deficit (s : State) (q : Nat) (dropped : Option EvRec) : (sQueueFull s q dropped).rng.deficit = s.rng.deficit := congrArg (·.deficit) ((sQueueFull_keeps s q dropped).plain .rng (by decide) rfl)
@[simp] theorem sQueueFull_rng_drrAt (s : State) (q : Nat) (dropped : Option EvRec) : (sQueueFull s q dropped).rng.drrAt = s.rng.drrAt := congrArg (·.drrAt) ((sQueueFull_keeps s q dropped).plain .rng (by decide) rfl)
@[simp] theorem sQueueFull_rng_turns (s : State) (q : Nat) (dropped : Option EvRec) : (sQueueFull s q dropped).rng.turns = s.rng.turns := congrArg (·.turns) ((sQueueFull_keeps s q dropped).plain .rng (by decide) rfl)
@[simp] theorem sQueueFull_rng_busy (s : State) (q : Nat) (dropped : Option EvRec) : (sQueueFull s q dropped).rng.busy = s.rng.busy := congrArg (·.busy) ((sQueueFull_keeps s q dropped).plain .rng (by decide) rfl)
@[simp] theorem sQueueFull_rng_heldReset (s : State) (q : Nat) (dropped : Option EvRec) : (sQueueFull s q dropped).rng.heldReset = s.rng.heldReset := congrArg (·.heldReset) ((sQueueFull_keeps s q dropped).plain .rng (by decide) rfl)
@[simp] theorem sQueueFull_rng_spent (s : State) (q : Nat) (dropped : Option EvRec) : (sQueueFull s q dropped).rng.spent = s.rng.spent := congrArg (·.spent) ((sQueueFull_keeps s q dropped).plain .rng (by decide) rfl)
@[simp] theorem sQueueFull_tly_ring (s : State) (q : Nat) (dropped : Option EvRec) : (sQueueFull s q dropped).tly.ring = s.tly.ring := congrArg (·.ring) ((sQueueFull_keeps s q dropped).plain .tly (by decide) rfl)
@[simp] theorem sQueueFull_tly_first (s : State) (q : Nat) (dropped : Option EvRec) : (sQueueFull s q dropped).tly.first = s.tly.first := congrArg (·.first) ((sQueueFull_keeps s q dropped).plain .tly (by decide) rfl)
@[simp] theorem sQueueFull_tly_lastMac (s : State) (q : Nat) (dropped : Option EvRec) : (sQueueFull s q dropped).tly.lastMac = s.tly.lastMac := congrArg (·.lastMac) ((sQueueFull_keeps s q dropped).plain .tly (by decide) rfl)
@[simp] theorem sQueueFull_tly_starts (s : State) (q : Nat) (dropped : Option EvRec) : (sQueueFull s q dropped).tly.starts = s.tly.starts := congrArg (·.starts) ((sQueueFull_keeps s q dropped).plain .tly (by decide) rfl)
@[simp] theorem sQueueFull_tly_lastClear (s : State) (q : Nat) (dropped : Option EvRec) : (sQueueFull s q dropped).tly.lastClear = s.tly.lastClear := congrArg (·.lastClear) ((sQueueFull_keeps s q dropped).plain .tly (by decide) rfl)
@[simp] theorem sQueueFull_tly_unreadRaised (s : State) (q : Nat) (dropped : Option EvRec) : (sQueueFull s q dropped).tly.unreadRaised = s.tly.unreadRaised := congrArg (·.unreadRaised) ((sQueueFull_keeps s q dropped).plain .tly (by decide) rfl)
@[simp] theorem sQueueFull_tly_fullRaised (s : State) (q : Nat) (dropped : Option EvRec) : (sQueueFull s q dropped).tly.fullRaised = s.tly.fullRaised := congrArg (·.fullRaised) ((sQueueFull_keeps s q dropped).plain .tly (by decide) rfl)
@[simp] theorem sQueueFull_chain_up0 (s : State) (q : Nat) (dropped : Option EvRec) : (sQueueFull s q dropped).chain.up0 = s.chain.up0 := congrArg (·.up0) ((sQueueFull_keeps s q dropped).plain .chain (by decide) rfl)
@[simp] theorem sQueueFull_chain_up1 (s : State) (q : Nat) (dropped : Option EvRec) : (sQueueFull s q dropped).chain.up1 = s.chain.up1 := congrArg (·.up1) ((sQueueFull_keeps s q dropped).plain .chain (by decide) rfl)
@[simp] theorem sQueueFull_chain_cruised (s : State) (q : Nat) (dropped : Option EvRec) : (sQueueFull s q dropped).chain.cruised = s.chain.cruised := congrArg (·.cruised) ((sQueueFull_keeps s q dropped).plain .chain (by decide) rfl)
@[simp] theorem sQueueFull_chain_pendingAddr (s : State) (q : Nat) (dropped : Option EvRec) : (sQueueFull s q dropped).chain.pendingAddr = s.chain.pendingAddr := congrArg (·.pendingAddr) ((sQueueFull_keeps s q dropped).plain .chain (by decide) rfl)
@[simp] theorem sQueueFull_chain_posDup (s : State) (q : Nat) (dropped : Option EvRec) : (sQueueFull s q dropped).chain.posDup = s.chain.posDup := congrArg (·.posDup) ((sQueueFull_keeps s q dropped).plain .chain (by decide) rfl)
@[simp] theorem sQueueFull_chain_assigned (s : State) (q : Nat) (dropped : Option EvRec) : (sQueueFull s q dropped).chain.assigned = s.chain.assigned := congrArg (·.assigned) ((sQueueFull_keeps s q dropped).plain .chain (by decide) rfl)
@[simp] theorem sQueueFull_chain_announceDue (s : State) (q : Nat) (dropped : Option EvRec) : (sQueueFull s q dropped).chain.announceDue = s.chain.announceDue := congrArg (·.announceDue) ((sQueueFull_keeps s q dropped).plain .chain (by decide) rfl)
@[simp] theorem sQueueFull_chain_causes (s : State) (q : Nat) (dropped : Option EvRec) : (sQueueFull s q dropped).chain.causes = s.chain.causes := congrArg (·.causes) ((sQueueFull_keeps s q dropped).plain .chain (by decide) rfl)
@[simp] theorem sQueueFull_chain_cut (s : State) (q : Nat) (dropped : Option EvRec) : (sQueueFull s q dropped).chain.cut = s.chain.cut := congrArg (·.cut) ((sQueueFull_keeps s q dropped).plain .chain (by decide) rfl)
@[simp] theorem sQueueFull_chain_gmPort (s : State) (q : Nat) (dropped : Option EvRec) : (sQueueFull s q dropped).chain.gmPort = s.chain.gmPort := congrArg (·.gmPort) ((sQueueFull_keeps s q dropped).plain .chain (by decide) rfl)
@[simp] theorem sQueueFull_scl_budgets (s : State) (q : Nat) (dropped : Option EvRec) : (sQueueFull s q dropped).scl.budgets = s.scl.budgets := congrArg (·.budgets) ((sQueueFull_keeps s q dropped).plain .scl (by decide) rfl)
@[simp] theorem sQueueFull_scl_steps (s : State) (q : Nat) (dropped : Option EvRec) : (sQueueFull s q dropped).scl.steps = s.scl.steps := congrArg (·.steps) ((sQueueFull_keeps s q dropped).plain .scl (by decide) rfl)
@[simp] theorem sQueueFull_scl_feeds (s : State) (q : Nat) (dropped : Option EvRec) : (sQueueFull s q dropped).scl.feeds = s.scl.feeds := congrArg (·.feeds) ((sQueueFull_keeps s q dropped).plain .scl (by decide) rfl)
@[simp] theorem sQueueFull_scl_pkgBelow (s : State) (q : Nat) (dropped : Option EvRec) : (sQueueFull s q dropped).scl.pkgBelow = s.scl.pkgBelow := congrArg (·.pkgBelow) ((sQueueFull_keeps s q dropped).plain .scl (by decide) rfl)
@[simp] theorem sQueueFull_scl_pkgLog (s : State) (q : Nat) (dropped : Option EvRec) : (sQueueFull s q dropped).scl.pkgLog = s.scl.pkgLog := congrArg (·.pkgLog) ((sQueueFull_keeps s q dropped).plain .scl (by decide) rfl)
@[simp] theorem sQueueFull_scl_led (s : State) (q : Nat) (dropped : Option EvRec) : (sQueueFull s q dropped).scl.led = s.scl.led := congrArg (·.led) ((sQueueFull_keeps s q dropped).plain .scl (by decide) rfl)
@[simp] theorem sQueueFull_scl_pkgPhase (s : State) (q : Nat) (dropped : Option EvRec) : (sQueueFull s q dropped).scl.pkgPhase = s.scl.pkgPhase := congrArg (·.pkgPhase) ((sQueueFull_keeps s q dropped).plain .scl (by decide) rfl)
@[simp] theorem sQueueFull_scl_latchOffs (s : State) (q : Nat) (dropped : Option EvRec) : (sQueueFull s q dropped).scl.latchOffs = s.scl.latchOffs := congrArg (·.latchOffs) ((sQueueFull_keeps s q dropped).plain .scl (by decide) rfl)
@[simp] theorem sQueueFull_scl_stormAt (s : State) (q : Nat) (dropped : Option EvRec) : (sQueueFull s q dropped).scl.stormAt = s.scl.stormAt := congrArg (·.stormAt) ((sQueueFull_keeps s q dropped).plain .scl (by decide) rfl)
@[simp] theorem sQueueFull_scl_restarts (s : State) (q : Nat) (dropped : Option EvRec) : (sQueueFull s q dropped).scl.restarts = s.scl.restarts := congrArg (·.restarts) ((sQueueFull_keeps s q dropped).plain .scl (by decide) rfl)
@[simp] theorem sQueueFull_scl_pinned (s : State) (q : Nat) (dropped : Option EvRec) : (sQueueFull s q dropped).scl.pinned = s.scl.pinned := congrArg (·.pinned) ((sQueueFull_keeps s q dropped).plain .scl (by decide) rfl)
@[simp] theorem sQueueFull_scl_clean (s : State) (q : Nat) (dropped : Option EvRec) : (sQueueFull s q dropped).scl.clean = s.scl.clean := congrArg (·.clean) ((sQueueFull_keeps s q dropped).plain .scl (by decide) rfl)
@[simp] theorem sQueueFull_scl_ovlParts (s : State) (q : Nat) (dropped : Option EvRec) : (sQueueFull s q dropped).scl.ovlParts = s.scl.ovlParts := congrArg (·.ovlParts) ((sQueueFull_keeps s q dropped).plain .scl (by decide) rfl)
@[simp] theorem sQueueFull_sw_table (s : State) (q : Nat) (dropped : Option EvRec) : (sQueueFull s q dropped).sw.table = s.sw.table := congrArg (·.table) ((sQueueFull_keeps s q dropped).plain .sw (by decide) rfl)
@[simp] theorem sQueueFull_sw_vlans (s : State) (q : Nat) (dropped : Option EvRec) : (sQueueFull s q dropped).sw.vlans = s.sw.vlans := congrArg (·.vlans) ((sQueueFull_keeps s q dropped).plain .sw (by decide) rfl)
@[simp] theorem sQueueFull_sw_ruleRegs (s : State) (q : Nat) (dropped : Option EvRec) : (sQueueFull s q dropped).sw.ruleRegs = s.sw.ruleRegs := congrArg (·.ruleRegs) ((sQueueFull_keeps s q dropped).plain .sw (by decide) rfl)
@[simp] theorem sQueueFull_sw_queues (s : State) (q : Nat) (dropped : Option EvRec) : (sQueueFull s q dropped).sw.queues = s.sw.queues := congrArg (·.queues) ((sQueueFull_keeps s q dropped).plain .sw (by decide) rfl)
@[simp] theorem sQueueFull_sw_credits (s : State) (q : Nat) (dropped : Option EvRec) : (sQueueFull s q dropped).sw.credits = s.sw.credits := congrArg (·.credits) ((sQueueFull_keeps s q dropped).plain .sw (by decide) rfl)
@[simp] theorem sQueueFull_sw_gates (s : State) (q : Nat) (dropped : Option EvRec) : (sQueueFull s q dropped).sw.gates = s.sw.gates := congrArg (·.gates) ((sQueueFull_keeps s q dropped).plain .sw (by decide) rfl)
@[simp] theorem sQueueFull_sw_ageBase (s : State) (q : Nat) (dropped : Option EvRec) : (sQueueFull s q dropped).sw.ageBase = s.sw.ageBase := congrArg (·.ageBase) ((sQueueFull_keeps s q dropped).plain .sw (by decide) rfl)
@[simp] theorem sQueueFull_sw_storms (s : State) (q : Nat) (dropped : Option EvRec) : (sQueueFull s q dropped).sw.storms = s.sw.storms := congrArg (·.storms) ((sQueueFull_keeps s q dropped).plain .sw (by decide) rfl)
@[simp] theorem sQueueFull_sw_rx (s : State) (q : Nat) (dropped : Option EvRec) : (sQueueFull s q dropped).sw.rx = s.sw.rx := congrArg (·.rx) ((sQueueFull_keeps s q dropped).plain .sw (by decide) rfl)
@[simp] theorem sQueueFull_sw_tx (s : State) (q : Nat) (dropped : Option EvRec) : (sQueueFull s q dropped).sw.tx = s.sw.tx := congrArg (·.tx) ((sQueueFull_keeps s q dropped).plain .sw (by decide) rfl)
@[simp] theorem sQueueFull_sw_rxSa (s : State) (q : Nat) (dropped : Option EvRec) : (sQueueFull s q dropped).sw.rxSa = s.sw.rxSa := congrArg (·.rxSa) ((sQueueFull_keeps s q dropped).plain .sw (by decide) rfl)
theorem sQueueFull_rd (s : State) (q : Nat) (dropped : Option EvRec) {fx : Field} (hx : fx.lsb < 64) (hc : clearOf [Reg.PAR_EVT_CNT, Reg.SW_CNT_VAL, Reg.SW_MSEC_STAT, Reg.TLY_CNT0] fx.off = true) :
    (sQueueFull s q dropped).rd fx = s.rd fx := (sQueueFull_keeps s q dropped).rd (by decide) fx hx (of_clearOf hc)
@[simp] theorem tally_pending (s : State) (typ : Nat) (payload : List Byte) : (tally s typ payload).pending = s.pending := (tally_keeps s typ payload).plain .pending (by decide) rfl
@[simp] theorem tally_now (s : State) (typ : Nat) (payload : List Byte) : (tally s typ payload).now = s.now := (tally_keeps s typ payload).plain .now (by decide) rfl
@[simp] theorem tally_freeCtr (s : State) (typ : Nat) (payload : List Byte) : (tally s typ payload).freeCtr = s.freeCtr := (tally_keeps s typ payload).plain .freeCtr (by decide) rfl
@[simp] theorem tally_latches (s : State) (typ : Nat) (payload : List Byte) : (tally s typ payload).latches = s.latches := (tally_keeps s typ payload).plain .latches (by decide) rfl
@[simp] theorem tally_spar (s : State) (typ : Nat) (payload : List Byte) : (tally s typ payload).spar = s.spar := (tally_keeps s typ payload).plain .spar (by decide) rfl
@[simp] theorem tally_dt (s : State) (typ : Nat) (payload : List Byte) : (tally s typ payload).dt = s.dt := (tally_keeps s typ payload).plain .dt (by decide) rfl
@[simp] theorem tally_par (s : State) (typ : Nat) (payload : List Byte) : (tally s typ payload).par = s.par := (tally_keeps s typ payload).plain .par (by decide) rfl
@[simp] theorem tally_evt (s : State) (typ : Nat) (payload : List Byte) : (tally s typ payload).evt = s.evt := (tally_keeps s typ payload).plain .evt (by decide) rfl
@[simp] theorem tally_act (s : State) (typ : Nat) (payload : List Byte) : (tally s typ payload).act = s.act := (tally_keeps s typ payload).plain .act (by decide) rfl
@[simp] theorem tally_chs (s : State) (typ : Nat) (payload : List Byte) : (tally s typ payload).chs = s.chs := (tally_keeps s typ payload).plain .chs (by decide) rfl
@[simp] theorem tally_sns (s : State) (typ : Nat) (payload : List Byte) : (tally s typ payload).sns = s.sns := (tally_keeps s typ payload).plain .sns (by decide) rfl
@[simp] theorem tally_sub (s : State) (typ : Nat) (payload : List Byte) : (tally s typ payload).sub = s.sub := (tally_keeps s typ payload).plain .sub (by decide) rfl
@[simp] theorem tally_brd (s : State) (typ : Nat) (payload : List Byte) : (tally s typ payload).brd = s.brd := (tally_keeps s typ payload).plain .brd (by decide) rfl
@[simp] theorem tally_inf (s : State) (typ : Nat) (payload : List Byte) : (tally s typ payload).inf = s.inf := (tally_keeps s typ payload).plain .inf (by decide) rfl
@[simp] theorem tally_sto (s : State) (typ : Nat) (payload : List Byte) : (tally s typ payload).sto = s.sto := (tally_keeps s typ payload).plain .sto (by decide) rfl
@[simp] theorem tally_sec (s : State) (typ : Nat) (payload : List Byte) : (tally s typ payload).sec = s.sec := (tally_keeps s typ payload).plain .sec (by decide) rfl
@[simp] theorem tally_upd (s : State) (typ : Nat) (payload : List Byte) : (tally s typ payload).upd = s.upd := (tally_keeps s typ payload).plain .upd (by decide) rfl
@[simp] theorem tally_flt (s : State) (typ : Nat) (payload : List Byte) : (tally s typ payload).flt = s.flt := (tally_keeps s typ payload).plain .flt (by decide) rfl
@[simp] theorem tally_out (s : State) (typ : Nat) (payload : List Byte) : (tally s typ payload).out = s.out := (tally_keeps s typ payload).plain .out (by decide) rfl
@[simp] theorem tally_pwr (s : State) (typ : Nat) (payload : List Byte) : (tally s typ payload).pwr = s.pwr := pwr_ext ((tally_keeps s typ payload).plain .pwr (by decide) rfl) ((tally_keeps s typ payload).plain .owed (by decide) rfl) ((tally_keeps s typ payload).plain .banks (by decide) rfl)
@[simp] theorem tally_rng (s : State) (typ : Nat) (payload : List Byte) : (tally s typ payload).rng = s.rng := rng_ext ((tally_keeps s typ payload).plain .rng (by decide) rfl) ((tally_keeps s typ payload).plain .rings (by decide) rfl)
@[simp] theorem tally_tly_ring (s : State) (typ : Nat) (payload : List Byte) : (tally s typ payload).tly.ring = s.tly.ring := congrArg (·.ring) ((tally_keeps s typ payload).plain .tly (by decide) rfl)
@[simp] theorem tally_tly_first (s : State) (typ : Nat) (payload : List Byte) : (tally s typ payload).tly.first = s.tly.first := congrArg (·.first) ((tally_keeps s typ payload).plain .tly (by decide) rfl)
@[simp] theorem tally_tly_lastMac (s : State) (typ : Nat) (payload : List Byte) : (tally s typ payload).tly.lastMac = s.tly.lastMac := congrArg (·.lastMac) ((tally_keeps s typ payload).plain .tly (by decide) rfl)
@[simp] theorem tally_tly_starts (s : State) (typ : Nat) (payload : List Byte) : (tally s typ payload).tly.starts = s.tly.starts := congrArg (·.starts) ((tally_keeps s typ payload).plain .tly (by decide) rfl)
@[simp] theorem tally_tly_lastClear (s : State) (typ : Nat) (payload : List Byte) : (tally s typ payload).tly.lastClear = s.tly.lastClear := congrArg (·.lastClear) ((tally_keeps s typ payload).plain .tly (by decide) rfl)
@[simp] theorem tally_tly_unreadRaised (s : State) (typ : Nat) (payload : List Byte) : (tally s typ payload).tly.unreadRaised = s.tly.unreadRaised := congrArg (·.unreadRaised) ((tally_keeps s typ payload).plain .tly (by decide) rfl)
@[simp] theorem tally_tly_fullRaised (s : State) (typ : Nat) (payload : List Byte) : (tally s typ payload).tly.fullRaised = s.tly.fullRaised := congrArg (·.fullRaised) ((tally_keeps s typ payload).plain .tly (by decide) rfl)
@[simp] theorem tally_chain (s : State) (typ : Nat) (payload : List Byte) : (tally s typ payload).chain = s.chain := chain_ext ((tally_keeps s typ payload).plain .chain (by decide) rfl) ((tally_keeps s typ payload).plain .proxies (by decide) rfl)
@[simp] theorem tally_scl (s : State) (typ : Nat) (payload : List Byte) : (tally s typ payload).scl = s.scl := scl_ext ((tally_keeps s typ payload).plain .scl (by decide) rfl) ((tally_keeps s typ payload).plain .loss (by decide) rfl)
@[simp] theorem tally_sw (s : State) (typ : Nat) (payload : List Byte) : (tally s typ payload).sw = s.sw := sw_ext ((tally_keeps s typ payload).plain .sw (by decide) rfl) ((tally_keeps s typ payload).plain .wire (by decide) rfl)
@[simp] theorem tally_mem (s : State) (typ : Nat) (payload : List Byte) : (tally s typ payload).mem = s.mem := (tally_keeps s typ payload).same (by decide) (by decide)
theorem tally_rd (s : State) (typ : Nat) (payload : List Byte) {fx : Field} (hx : fx.lsb < 64) (hc : clearOf [Reg.TLY_CNT0] fx.off = true) :
    (tally s typ payload).rd fx = s.rd fx := (tally_keeps s typ payload).rd (by decide) fx hx (of_clearOf hc)
@[simp] theorem postCompl_pending (s : State) (eng : Nat) (h : DHdr) (opcode : Nat) (status : Nat) (result : List Byte) : (postCompl s eng h opcode status result).pending = s.pending := (postCompl_keeps s eng h opcode status result).plain .pending (by decide) rfl
@[simp] theorem postCompl_now (s : State) (eng : Nat) (h : DHdr) (opcode : Nat) (status : Nat) (result : List Byte) : (postCompl s eng h opcode status result).now = s.now := (postCompl_keeps s eng h opcode status result).plain .now (by decide) rfl
@[simp] theorem postCompl_freeCtr (s : State) (eng : Nat) (h : DHdr) (opcode : Nat) (status : Nat) (result : List Byte) : (postCompl s eng h opcode status result).freeCtr = s.freeCtr := (postCompl_keeps s eng h opcode status result).plain .freeCtr (by decide) rfl
@[simp] theorem postCompl_latches (s : State) (eng : Nat) (h : DHdr) (opcode : Nat) (status : Nat) (result : List Byte) : (postCompl s eng h opcode status result).latches = s.latches := (postCompl_keeps s eng h opcode status result).plain .latches (by decide) rfl
@[simp] theorem postCompl_spar (s : State) (eng : Nat) (h : DHdr) (opcode : Nat) (status : Nat) (result : List Byte) : (postCompl s eng h opcode status result).spar = s.spar := (postCompl_keeps s eng h opcode status result).plain .spar (by decide) rfl
@[simp] theorem postCompl_dt (s : State) (eng : Nat) (h : DHdr) (opcode : Nat) (status : Nat) (result : List Byte) : (postCompl s eng h opcode status result).dt = s.dt := (postCompl_keeps s eng h opcode status result).plain .dt (by decide) rfl
@[simp] theorem postCompl_par (s : State) (eng : Nat) (h : DHdr) (opcode : Nat) (status : Nat) (result : List Byte) : (postCompl s eng h opcode status result).par = s.par := (postCompl_keeps s eng h opcode status result).plain .par (by decide) rfl
@[simp] theorem postCompl_evt (s : State) (eng : Nat) (h : DHdr) (opcode : Nat) (status : Nat) (result : List Byte) : (postCompl s eng h opcode status result).evt = s.evt := (postCompl_keeps s eng h opcode status result).plain .evt (by decide) rfl
@[simp] theorem postCompl_act (s : State) (eng : Nat) (h : DHdr) (opcode : Nat) (status : Nat) (result : List Byte) : (postCompl s eng h opcode status result).act = s.act := (postCompl_keeps s eng h opcode status result).plain .act (by decide) rfl
@[simp] theorem postCompl_chs (s : State) (eng : Nat) (h : DHdr) (opcode : Nat) (status : Nat) (result : List Byte) : (postCompl s eng h opcode status result).chs = s.chs := (postCompl_keeps s eng h opcode status result).plain .chs (by decide) rfl
@[simp] theorem postCompl_sns (s : State) (eng : Nat) (h : DHdr) (opcode : Nat) (status : Nat) (result : List Byte) : (postCompl s eng h opcode status result).sns = s.sns := (postCompl_keeps s eng h opcode status result).plain .sns (by decide) rfl
@[simp] theorem postCompl_sub (s : State) (eng : Nat) (h : DHdr) (opcode : Nat) (status : Nat) (result : List Byte) : (postCompl s eng h opcode status result).sub = s.sub := (postCompl_keeps s eng h opcode status result).plain .sub (by decide) rfl
@[simp] theorem postCompl_brd (s : State) (eng : Nat) (h : DHdr) (opcode : Nat) (status : Nat) (result : List Byte) : (postCompl s eng h opcode status result).brd = s.brd := (postCompl_keeps s eng h opcode status result).plain .brd (by decide) rfl
@[simp] theorem postCompl_inf (s : State) (eng : Nat) (h : DHdr) (opcode : Nat) (status : Nat) (result : List Byte) : (postCompl s eng h opcode status result).inf = s.inf := (postCompl_keeps s eng h opcode status result).plain .inf (by decide) rfl
@[simp] theorem postCompl_sto (s : State) (eng : Nat) (h : DHdr) (opcode : Nat) (status : Nat) (result : List Byte) : (postCompl s eng h opcode status result).sto = s.sto := (postCompl_keeps s eng h opcode status result).plain .sto (by decide) rfl
@[simp] theorem postCompl_sec (s : State) (eng : Nat) (h : DHdr) (opcode : Nat) (status : Nat) (result : List Byte) : (postCompl s eng h opcode status result).sec = s.sec := (postCompl_keeps s eng h opcode status result).plain .sec (by decide) rfl
@[simp] theorem postCompl_upd (s : State) (eng : Nat) (h : DHdr) (opcode : Nat) (status : Nat) (result : List Byte) : (postCompl s eng h opcode status result).upd = s.upd := (postCompl_keeps s eng h opcode status result).plain .upd (by decide) rfl
@[simp] theorem postCompl_flt (s : State) (eng : Nat) (h : DHdr) (opcode : Nat) (status : Nat) (result : List Byte) : (postCompl s eng h opcode status result).flt = s.flt := (postCompl_keeps s eng h opcode status result).plain .flt (by decide) rfl
@[simp] theorem postCompl_pwr (s : State) (eng : Nat) (h : DHdr) (opcode : Nat) (status : Nat) (result : List Byte) : (postCompl s eng h opcode status result).pwr = s.pwr := pwr_ext ((postCompl_keeps s eng h opcode status result).plain .pwr (by decide) rfl) ((postCompl_keeps s eng h opcode status result).plain .owed (by decide) rfl) ((postCompl_keeps s eng h opcode status result).plain .banks (by decide) rfl)
@[simp] theorem postCompl_rng_shadows (s : State) (eng : Nat) (h : DHdr) (opcode : Nat) (status : Nat) (result : List Byte) : (postCompl s eng h opcode status result).rng.shadows = s.rng.shadows := congrArg (·.shadows) ((postCompl_keeps s eng h opcode status result).plain .rng (by decide) rfl)
@[simp] theorem postCompl_rng_work (s : State) (eng : Nat) (h : DHdr) (opcode : Nat) (status : Nat) (result : List Byte) : (postCompl s eng h opcode status result).rng.work = s.rng.work := congrArg (·.work) ((postCompl_keeps s eng h opcode status result).plain .rng (by decide) rfl)
@[simp] theorem postCompl_rng_stalled (s : State) (eng : Nat) (h : DHdr) (opcode : Nat) (status : Nat) (result : List Byte) : (postCompl s eng h opcode status result).rng.stalled = s.rng.stalled := congrArg (·.stalled) ((postCompl_keeps s eng h opcode status result).plain .rng (by decide) rfl)
@[simp] theorem postCompl_rng_bells (s : State) (eng : Nat) (h : DHdr) (opcode : Nat) (status : Nat) (result : List Byte) : (postCompl s eng h opcode status result).rng.bells = s.rng.bells := congrArg (·.bells) ((postCompl_keeps s eng h opcode status result).plain .rng (by decide) rfl)
@[simp] theorem postCompl_rng_deficit (s : State) (eng : Nat) (h : DHdr) (opcode : Nat) (status : Nat) (result : List Byte) : (postCompl s eng h opcode status result).rng.deficit = s.rng.deficit := congrArg (·.deficit) ((postCompl_keeps s eng h opcode status result).plain .rng (by decide) rfl)
@[simp] theorem postCompl_rng_drrAt (s : State) (eng : Nat) (h : DHdr) (opcode : Nat) (status : Nat) (result : List Byte) : (postCompl s eng h opcode status result).rng.drrAt = s.rng.drrAt := congrArg (·.drrAt) ((postCompl_keeps s eng h opcode status result).plain .rng (by decide) rfl)
@[simp] theorem postCompl_rng_turns (s : State) (eng : Nat) (h : DHdr) (opcode : Nat) (status : Nat) (result : List Byte) : (postCompl s eng h opcode status result).rng.turns = s.rng.turns := congrArg (·.turns) ((postCompl_keeps s eng h opcode status result).plain .rng (by decide) rfl)
@[simp] theorem postCompl_rng_busy (s : State) (eng : Nat) (h : DHdr) (opcode : Nat) (status : Nat) (result : List Byte) : (postCompl s eng h opcode status result).rng.busy = s.rng.busy := congrArg (·.busy) ((postCompl_keeps s eng h opcode status result).plain .rng (by decide) rfl)
@[simp] theorem postCompl_rng_heldReset (s : State) (eng : Nat) (h : DHdr) (opcode : Nat) (status : Nat) (result : List Byte) : (postCompl s eng h opcode status result).rng.heldReset = s.rng.heldReset := congrArg (·.heldReset) ((postCompl_keeps s eng h opcode status result).plain .rng (by decide) rfl)
@[simp] theorem postCompl_rng_spent (s : State) (eng : Nat) (h : DHdr) (opcode : Nat) (status : Nat) (result : List Byte) : (postCompl s eng h opcode status result).rng.spent = s.rng.spent := congrArg (·.spent) ((postCompl_keeps s eng h opcode status result).plain .rng (by decide) rfl)
@[simp] theorem postCompl_tly (s : State) (eng : Nat) (h : DHdr) (opcode : Nat) (status : Nat) (result : List Byte) : (postCompl s eng h opcode status result).tly = s.tly := tly_ext ((postCompl_keeps s eng h opcode status result).plain .tly (by decide) rfl) ((postCompl_keeps s eng h opcode status result).plain .queue (by decide) rfl)
@[simp] theorem postCompl_chain_up0 (s : State) (eng : Nat) (h : DHdr) (opcode : Nat) (status : Nat) (result : List Byte) : (postCompl s eng h opcode status result).chain.up0 = s.chain.up0 := congrArg (·.up0) ((postCompl_keeps s eng h opcode status result).plain .chain (by decide) rfl)
@[simp] theorem postCompl_chain_up1 (s : State) (eng : Nat) (h : DHdr) (opcode : Nat) (status : Nat) (result : List Byte) : (postCompl s eng h opcode status result).chain.up1 = s.chain.up1 := congrArg (·.up1) ((postCompl_keeps s eng h opcode status result).plain .chain (by decide) rfl)
@[simp] theorem postCompl_chain_cruised (s : State) (eng : Nat) (h : DHdr) (opcode : Nat) (status : Nat) (result : List Byte) : (postCompl s eng h opcode status result).chain.cruised = s.chain.cruised := congrArg (·.cruised) ((postCompl_keeps s eng h opcode status result).plain .chain (by decide) rfl)
@[simp] theorem postCompl_chain_pendingAddr (s : State) (eng : Nat) (h : DHdr) (opcode : Nat) (status : Nat) (result : List Byte) : (postCompl s eng h opcode status result).chain.pendingAddr = s.chain.pendingAddr := congrArg (·.pendingAddr) ((postCompl_keeps s eng h opcode status result).plain .chain (by decide) rfl)
@[simp] theorem postCompl_chain_posDup (s : State) (eng : Nat) (h : DHdr) (opcode : Nat) (status : Nat) (result : List Byte) : (postCompl s eng h opcode status result).chain.posDup = s.chain.posDup := congrArg (·.posDup) ((postCompl_keeps s eng h opcode status result).plain .chain (by decide) rfl)
@[simp] theorem postCompl_chain_assigned (s : State) (eng : Nat) (h : DHdr) (opcode : Nat) (status : Nat) (result : List Byte) : (postCompl s eng h opcode status result).chain.assigned = s.chain.assigned := congrArg (·.assigned) ((postCompl_keeps s eng h opcode status result).plain .chain (by decide) rfl)
@[simp] theorem postCompl_chain_announceDue (s : State) (eng : Nat) (h : DHdr) (opcode : Nat) (status : Nat) (result : List Byte) : (postCompl s eng h opcode status result).chain.announceDue = s.chain.announceDue := congrArg (·.announceDue) ((postCompl_keeps s eng h opcode status result).plain .chain (by decide) rfl)
@[simp] theorem postCompl_chain_causes (s : State) (eng : Nat) (h : DHdr) (opcode : Nat) (status : Nat) (result : List Byte) : (postCompl s eng h opcode status result).chain.causes = s.chain.causes := congrArg (·.causes) ((postCompl_keeps s eng h opcode status result).plain .chain (by decide) rfl)
@[simp] theorem postCompl_chain_cut (s : State) (eng : Nat) (h : DHdr) (opcode : Nat) (status : Nat) (result : List Byte) : (postCompl s eng h opcode status result).chain.cut = s.chain.cut := congrArg (·.cut) ((postCompl_keeps s eng h opcode status result).plain .chain (by decide) rfl)
@[simp] theorem postCompl_chain_gmPort (s : State) (eng : Nat) (h : DHdr) (opcode : Nat) (status : Nat) (result : List Byte) : (postCompl s eng h opcode status result).chain.gmPort = s.chain.gmPort := congrArg (·.gmPort) ((postCompl_keeps s eng h opcode status result).plain .chain (by decide) rfl)
@[simp] theorem postCompl_scl (s : State) (eng : Nat) (h : DHdr) (opcode : Nat) (status : Nat) (result : List Byte) : (postCompl s eng h opcode status result).scl = s.scl := scl_ext ((postCompl_keeps s eng h opcode status result).plain .scl (by decide) rfl) ((postCompl_keeps s eng h opcode status result).plain .loss (by decide) rfl)
@[simp] theorem postCompl_sw_table (s : State) (eng : Nat) (h : DHdr) (opcode : Nat) (status : Nat) (result : List Byte) : (postCompl s eng h opcode status result).sw.table = s.sw.table := congrArg (·.table) ((postCompl_keeps s eng h opcode status result).plain .sw (by decide) rfl)
@[simp] theorem postCompl_sw_vlans (s : State) (eng : Nat) (h : DHdr) (opcode : Nat) (status : Nat) (result : List Byte) : (postCompl s eng h opcode status result).sw.vlans = s.sw.vlans := congrArg (·.vlans) ((postCompl_keeps s eng h opcode status result).plain .sw (by decide) rfl)
@[simp] theorem postCompl_sw_ruleRegs (s : State) (eng : Nat) (h : DHdr) (opcode : Nat) (status : Nat) (result : List Byte) : (postCompl s eng h opcode status result).sw.ruleRegs = s.sw.ruleRegs := congrArg (·.ruleRegs) ((postCompl_keeps s eng h opcode status result).plain .sw (by decide) rfl)
@[simp] theorem postCompl_sw_queues (s : State) (eng : Nat) (h : DHdr) (opcode : Nat) (status : Nat) (result : List Byte) : (postCompl s eng h opcode status result).sw.queues = s.sw.queues := congrArg (·.queues) ((postCompl_keeps s eng h opcode status result).plain .sw (by decide) rfl)
@[simp] theorem postCompl_sw_credits (s : State) (eng : Nat) (h : DHdr) (opcode : Nat) (status : Nat) (result : List Byte) : (postCompl s eng h opcode status result).sw.credits = s.sw.credits := congrArg (·.credits) ((postCompl_keeps s eng h opcode status result).plain .sw (by decide) rfl)
@[simp] theorem postCompl_sw_gates (s : State) (eng : Nat) (h : DHdr) (opcode : Nat) (status : Nat) (result : List Byte) : (postCompl s eng h opcode status result).sw.gates = s.sw.gates := congrArg (·.gates) ((postCompl_keeps s eng h opcode status result).plain .sw (by decide) rfl)
@[simp] theorem postCompl_sw_ageBase (s : State) (eng : Nat) (h : DHdr) (opcode : Nat) (status : Nat) (result : List Byte) : (postCompl s eng h opcode status result).sw.ageBase = s.sw.ageBase := congrArg (·.ageBase) ((postCompl_keeps s eng h opcode status result).plain .sw (by decide) rfl)
@[simp] theorem postCompl_sw_storms (s : State) (eng : Nat) (h : DHdr) (opcode : Nat) (status : Nat) (result : List Byte) : (postCompl s eng h opcode status result).sw.storms = s.sw.storms := congrArg (·.storms) ((postCompl_keeps s eng h opcode status result).plain .sw (by decide) rfl)
@[simp] theorem postCompl_sw_rx (s : State) (eng : Nat) (h : DHdr) (opcode : Nat) (status : Nat) (result : List Byte) : (postCompl s eng h opcode status result).sw.rx = s.sw.rx := congrArg (·.rx) ((postCompl_keeps s eng h opcode status result).plain .sw (by decide) rfl)
@[simp] theorem postCompl_sw_tx (s : State) (eng : Nat) (h : DHdr) (opcode : Nat) (status : Nat) (result : List Byte) : (postCompl s eng h opcode status result).sw.tx = s.sw.tx := congrArg (·.tx) ((postCompl_keeps s eng h opcode status result).plain .sw (by decide) rfl)
@[simp] theorem postCompl_sw_rxSa (s : State) (eng : Nat) (h : DHdr) (opcode : Nat) (status : Nat) (result : List Byte) : (postCompl s eng h opcode status result).sw.rxSa = s.sw.rxSa := congrArg (·.rxSa) ((postCompl_keeps s eng h opcode status result).plain .sw (by decide) rfl)
theorem postCompl_rd (s : State) (eng : Nat) (h : DHdr) (opcode : Nat) (status : Nat) (result : List Byte) {fx : Field} (hx : fx.lsb < 64) (hc : clearOf [Reg.SW_CNT_VAL, Reg.SW_MSEC_STAT] fx.off = true) :
    (postCompl s eng h opcode status result).rd fx = s.rd fx := (postCompl_keeps s eng h opcode status result).rd (by decide) fx hx (of_clearOf hc)
@[simp] theorem finish_pending (s : State) (eng : Nat) (h : DHdr) (opcode : Nat) (status : Nat) (result : List Byte) : (finish s eng h opcode status result).pending = s.pending := (finish_keeps s eng h opcode status result).plain .pending (by decide) rfl
@[simp] theorem finish_now (s : State) (eng : Nat) (h : DHdr) (opcode : Nat) (status : Nat) (result : List Byte) : (finish s eng h opcode status result).now = s.now := (finish_keeps s eng h opcode status result).plain .now (by decide) rfl
@[simp] theorem finish_freeCtr (s : State) (eng : Nat) (h : DHdr) (opcode : Nat) (status : Nat) (result : List Byte) : (finish s eng h opcode status result).freeCtr = s.freeCtr := (finish_keeps s eng h opcode status result).plain .freeCtr (by decide) rfl
@[simp] theorem finish_latches (s : State) (eng : Nat) (h : DHdr) (opcode : Nat) (status : Nat) (result : List Byte) : (finish s eng h opcode status result).latches = s.latches := (finish_keeps s eng h opcode status result).plain .latches (by decide) rfl
@[simp] theorem finish_spar (s : State) (eng : Nat) (h : DHdr) (opcode : Nat) (status : Nat) (result : List Byte) : (finish s eng h opcode status result).spar = s.spar := (finish_keeps s eng h opcode status result).plain .spar (by decide) rfl
@[simp] theorem finish_dt (s : State) (eng : Nat) (h : DHdr) (opcode : Nat) (status : Nat) (result : List Byte) : (finish s eng h opcode status result).dt = s.dt := (finish_keeps s eng h opcode status result).plain .dt (by decide) rfl
@[simp] theorem finish_par (s : State) (eng : Nat) (h : DHdr) (opcode : Nat) (status : Nat) (result : List Byte) : (finish s eng h opcode status result).par = s.par := (finish_keeps s eng h opcode status result).plain .par (by decide) rfl
@[simp] theorem finish_evt (s : State) (eng : Nat) (h : DHdr) (opcode : Nat) (status : Nat) (result : List Byte) : (finish s eng h opcode status result).evt = s.evt := (finish_keeps s eng h opcode status result).plain .evt (by decide) rfl
@[simp] theorem finish_act (s : State) (eng : Nat) (h : DHdr) (opcode : Nat) (status : Nat) (result : List Byte) : (finish s eng h opcode status result).act = s.act := (finish_keeps s eng h opcode status result).plain .act (by decide) rfl
@[simp] theorem finish_chs (s : State) (eng : Nat) (h : DHdr) (opcode : Nat) (status : Nat) (result : List Byte) : (finish s eng h opcode status result).chs = s.chs := (finish_keeps s eng h opcode status result).plain .chs (by decide) rfl
@[simp] theorem finish_sns (s : State) (eng : Nat) (h : DHdr) (opcode : Nat) (status : Nat) (result : List Byte) : (finish s eng h opcode status result).sns = s.sns := (finish_keeps s eng h opcode status result).plain .sns (by decide) rfl
@[simp] theorem finish_sub (s : State) (eng : Nat) (h : DHdr) (opcode : Nat) (status : Nat) (result : List Byte) : (finish s eng h opcode status result).sub = s.sub := (finish_keeps s eng h opcode status result).plain .sub (by decide) rfl
@[simp] theorem finish_brd (s : State) (eng : Nat) (h : DHdr) (opcode : Nat) (status : Nat) (result : List Byte) : (finish s eng h opcode status result).brd = s.brd := (finish_keeps s eng h opcode status result).plain .brd (by decide) rfl
@[simp] theorem finish_inf (s : State) (eng : Nat) (h : DHdr) (opcode : Nat) (status : Nat) (result : List Byte) : (finish s eng h opcode status result).inf = s.inf := (finish_keeps s eng h opcode status result).plain .inf (by decide) rfl
@[simp] theorem finish_sto (s : State) (eng : Nat) (h : DHdr) (opcode : Nat) (status : Nat) (result : List Byte) : (finish s eng h opcode status result).sto = s.sto := (finish_keeps s eng h opcode status result).plain .sto (by decide) rfl
@[simp] theorem finish_sec (s : State) (eng : Nat) (h : DHdr) (opcode : Nat) (status : Nat) (result : List Byte) : (finish s eng h opcode status result).sec = s.sec := (finish_keeps s eng h opcode status result).plain .sec (by decide) rfl
@[simp] theorem finish_upd (s : State) (eng : Nat) (h : DHdr) (opcode : Nat) (status : Nat) (result : List Byte) : (finish s eng h opcode status result).upd = s.upd := (finish_keeps s eng h opcode status result).plain .upd (by decide) rfl
@[simp] theorem finish_flt (s : State) (eng : Nat) (h : DHdr) (opcode : Nat) (status : Nat) (result : List Byte) : (finish s eng h opcode status result).flt = s.flt := (finish_keeps s eng h opcode status result).plain .flt (by decide) rfl
@[simp] theorem finish_pwr_ps (s : State) (eng : Nat) (h : DHdr) (opcode : Nat) (status : Nat) (result : List Byte) : (finish s eng h opcode status result).pwr.ps = s.pwr.ps := congrArg (·.ps) ((finish_keeps s eng h opcode status result).plain .pwr (by decide) rfl)
@[simp] theorem finish_pwr_cd (s : State) (eng : Nat) (h : DHdr) (opcode : Nat) (status : Nat) (result : List Byte) : (finish s eng h opcode status result).pwr.cd = s.pwr.cd := congrArg (·.cd) ((finish_keeps s eng h opcode status result).plain .pwr (by decide) rfl)
@[simp] theorem finish_pwr_ldUp (s : State) (eng : Nat) (h : DHdr) (opcode : Nat) (status : Nat) (result : List Byte) : (finish s eng h opcode status result).pwr.ldUp = s.pwr.ldUp := congrArg (·.ldUp) ((finish_keeps s eng h opcode status result).plain .pwr (by decide) rfl)
@[simp] theorem finish_pwr_armed (s : State) (eng : Nat) (h : DHdr) (opcode : Nat) (status : Nat) (result : List Byte) : (finish s eng h opcode status result).pwr.armed = s.pwr.armed := congrArg (·.armed) ((finish_keeps s eng h opcode status result).plain .pwr (by decide) rfl)
@[simp] theorem finish_pwr_seq (s : State) (eng : Nat) (h : DHdr) (opcode : Nat) (status : Nat) (result : List Byte) : (finish s eng h opcode status result).pwr.seq = s.pwr.seq := congrArg (·.seq) ((finish_keeps s eng h opcode status result).plain .pwr (by decide) rfl)
@[simp] theorem finish_pwr_entry (s : State) (eng : Nat) (h : DHdr) (opcode : Nat) (status : Nat) (result : List Byte) : (finish s eng h opcode status result).pwr.entry = s.pwr.entry := congrArg (·.entry) ((finish_keeps s eng h opcode status result).plain .pwr (by decide) rfl)
@[simp] theorem finish_pwr_wakeAfter (s : State) (eng : Nat) (h : DHdr) (opcode : Nat) (status : Nat) (result : List Byte) : (finish s eng h opcode status result).pwr.wakeAfter = s.pwr.wakeAfter := congrArg (·.wakeAfter) ((finish_keeps s eng h opcode status result).plain .pwr (by decide) rfl)
@[simp] theorem finish_pwr_wakeAfterAt (s : State) (eng : Nat) (h : DHdr) (opcode : Nat) (status : Nat) (result : List Byte) : (finish s eng h opcode status result).pwr.wakeAfterAt = s.pwr.wakeAfterAt := congrArg (·.wakeAfterAt) ((finish_keeps s eng h opcode status result).plain .pwr (by decide) rfl)
@[simp] theorem finish_pwr_woke (s : State) (eng : Nat) (h : DHdr) (opcode : Nat) (status : Nat) (result : List Byte) : (finish s eng h opcode status result).pwr.woke = s.pwr.woke := congrArg (·.woke) ((finish_keeps s eng h opcode status result).plain .pwr (by decide) rfl)
@[simp] theorem finish_pwr_linkDue (s : State) (eng : Nat) (h : DHdr) (opcode : Nat) (status : Nat) (result : List Byte) : (finish s eng h opcode status result).pwr.linkDue = s.pwr.linkDue := congrArg (·.linkDue) ((finish_keeps s eng h opcode status result).plain .pwr (by decide) rfl)
@[simp] theorem finish_pwr_cores (s : State) (eng : Nat) (h : DHdr) (opcode : Nat) (status : Nat) (result : List Byte) : (finish s eng h opcode status result).pwr.cores = s.pwr.cores := congrArg (·.cores) ((finish_keeps s eng h opcode status result).plain .pwr (by decide) rfl)
@[simp] theorem finish_pwr_shadow (s : State) (eng : Nat) (h : DHdr) (opcode : Nat) (status : Nat) (result : List Byte) : (finish s eng h opcode status result).pwr.shadow = s.pwr.shadow := congrArg (·.shadow) ((finish_keeps s eng h opcode status result).plain .pwr (by decide) rfl)
@[simp] theorem finish_pwr_entryAt (s : State) (eng : Nat) (h : DHdr) (opcode : Nat) (status : Nat) (result : List Byte) : (finish s eng h opcode status result).pwr.entryAt = s.pwr.entryAt := congrArg (·.entryAt) ((finish_keeps s eng h opcode status result).plain .pwr (by decide) rfl)
@[simp] theorem finish_pwr_idleEntry (s : State) (eng : Nat) (h : DHdr) (opcode : Nat) (status : Nat) (result : List Byte) : (finish s eng h opcode status result).pwr.idleEntry = s.pwr.idleEntry := congrArg (·.idleEntry) ((finish_keeps s eng h opcode status result).plain .pwr (by decide) rfl)
@[simp] theorem finish_pwr_wfiAt (s : State) (eng : Nat) (h : DHdr) (opcode : Nat) (status : Nat) (result : List Byte) : (finish s eng h opcode status result).pwr.wfiAt = s.pwr.wfiAt := congrArg (·.wfiAt) ((finish_keeps s eng h opcode status result).plain .pwr (by decide) rfl)
@[simp] theorem finish_pwr_sleeps (s : State) (eng : Nat) (h : DHdr) (opcode : Nat) (status : Nat) (result : List Byte) : (finish s eng h opcode status result).pwr.sleeps = s.pwr.sleeps := congrArg (·.sleeps) ((finish_keeps s eng h opcode status result).plain .pwr (by decide) rfl)
@[simp] theorem finish_pwr_wakeBy (s : State) (eng : Nat) (h : DHdr) (opcode : Nat) (status : Nat) (result : List Byte) : (finish s eng h opcode status result).pwr.wakeBy = s.pwr.wakeBy := congrArg (·.wakeBy) ((finish_keeps s eng h opcode status result).plain .pwr (by decide) rfl)
@[simp] theorem finish_pwr_bootDone (s : State) (eng : Nat) (h : DHdr) (opcode : Nat) (status : Nat) (result : List Byte) : (finish s eng h opcode status result).pwr.bootDone = s.pwr.bootDone := congrArg (·.bootDone) ((finish_keeps s eng h opcode status result).plain .pwr (by decide) rfl)
@[simp] theorem finish_pwr_bootEntry (s : State) (eng : Nat) (h : DHdr) (opcode : Nat) (status : Nat) (result : List Byte) : (finish s eng h opcode status result).pwr.bootEntry = s.pwr.bootEntry := congrArg (·.bootEntry) ((finish_keeps s eng h opcode status result).plain .pwr (by decide) rfl)
@[simp] theorem finish_pwr_kept (s : State) (eng : Nat) (h : DHdr) (opcode : Nat) (status : Nat) (result : List Byte) : (finish s eng h opcode status result).pwr.kept = s.pwr.kept := congrArg (·.kept) ((finish_keeps s eng h opcode status result).plain .pwr (by decide) rfl)
@[simp] theorem finish_pwr_pinHeld (s : State) (eng : Nat) (h : DHdr) (opcode : Nat) (status : Nat) (result : List Byte) : (finish s eng h opcode status result).pwr.pinHeld = s.pwr.pinHeld := congrArg (·.pinHeld) ((finish_keeps s eng h opcode status result).plain .pwr (by decide) rfl)
@[simp] theorem finish_pwr_overFeeds (s : State) (eng : Nat) (h : DHdr) (opcode : Nat) (status : Nat) (result : List Byte) : (finish s eng h opcode status result).pwr.overFeeds = s.pwr.overFeeds := congrArg (·.overFeeds) ((finish_keeps s eng h opcode status result).plain .pwr (by decide) rfl)
@[simp] theorem finish_pwr_unzeroed (s : State) (eng : Nat) (h : DHdr) (opcode : Nat) (status : Nat) (result : List Byte) : (finish s eng h opcode status result).pwr.unzeroed = s.pwr.unzeroed := ((finish_keeps s eng h opcode status result).plain .banks (by decide) rfl)
@[simp] theorem finish_tly (s : State) (eng : Nat) (h : DHdr) (opcode : Nat) (status : Nat) (result : List Byte) : (finish s eng h opcode status result).tly = s.tly := tly_ext ((finish_keeps s eng h opcode status result).plain .tly (by decide) rfl) ((finish_keeps s eng h opcode status result).plain .queue (by decide) rfl)
@[simp] theorem finish_chain_up0 (s : State) (eng : Nat) (h : DHdr) (opcode : Nat) (status : Nat) (result : List Byte) : (finish s eng h opcode status result).chain.up0 = s.chain.up0 := congrArg (·.up0) ((finish_keeps s eng h opcode status result).plain .chain (by decide) rfl)
@[simp] theorem finish_chain_up1 (s : State) (eng : Nat) (h : DHdr) (opcode : Nat) (status : Nat) (result : List Byte) : (finish s eng h opcode status result).chain.up1 = s.chain.up1 := congrArg (·.up1) ((finish_keeps s eng h opcode status result).plain .chain (by decide) rfl)
@[simp] theorem finish_chain_cruised (s : State) (eng : Nat) (h : DHdr) (opcode : Nat) (status : Nat) (result : List Byte) : (finish s eng h opcode status result).chain.cruised = s.chain.cruised := congrArg (·.cruised) ((finish_keeps s eng h opcode status result).plain .chain (by decide) rfl)
@[simp] theorem finish_chain_pendingAddr (s : State) (eng : Nat) (h : DHdr) (opcode : Nat) (status : Nat) (result : List Byte) : (finish s eng h opcode status result).chain.pendingAddr = s.chain.pendingAddr := congrArg (·.pendingAddr) ((finish_keeps s eng h opcode status result).plain .chain (by decide) rfl)
@[simp] theorem finish_chain_posDup (s : State) (eng : Nat) (h : DHdr) (opcode : Nat) (status : Nat) (result : List Byte) : (finish s eng h opcode status result).chain.posDup = s.chain.posDup := congrArg (·.posDup) ((finish_keeps s eng h opcode status result).plain .chain (by decide) rfl)
@[simp] theorem finish_chain_assigned (s : State) (eng : Nat) (h : DHdr) (opcode : Nat) (status : Nat) (result : List Byte) : (finish s eng h opcode status result).chain.assigned = s.chain.assigned := congrArg (·.assigned) ((finish_keeps s eng h opcode status result).plain .chain (by decide) rfl)
@[simp] theorem finish_chain_announceDue (s : State) (eng : Nat) (h : DHdr) (opcode : Nat) (status : Nat) (result : List Byte) : (finish s eng h opcode status result).chain.announceDue = s.chain.announceDue := congrArg (·.announceDue) ((finish_keeps s eng h opcode status result).plain .chain (by decide) rfl)
@[simp] theorem finish_chain_causes (s : State) (eng : Nat) (h : DHdr) (opcode : Nat) (status : Nat) (result : List Byte) : (finish s eng h opcode status result).chain.causes = s.chain.causes := congrArg (·.causes) ((finish_keeps s eng h opcode status result).plain .chain (by decide) rfl)
@[simp] theorem finish_chain_cut (s : State) (eng : Nat) (h : DHdr) (opcode : Nat) (status : Nat) (result : List Byte) : (finish s eng h opcode status result).chain.cut = s.chain.cut := congrArg (·.cut) ((finish_keeps s eng h opcode status result).plain .chain (by decide) rfl)
@[simp] theorem finish_chain_gmPort (s : State) (eng : Nat) (h : DHdr) (opcode : Nat) (status : Nat) (result : List Byte) : (finish s eng h opcode status result).chain.gmPort = s.chain.gmPort := congrArg (·.gmPort) ((finish_keeps s eng h opcode status result).plain .chain (by decide) rfl)
@[simp] theorem finish_scl (s : State) (eng : Nat) (h : DHdr) (opcode : Nat) (status : Nat) (result : List Byte) : (finish s eng h opcode status result).scl = s.scl := scl_ext ((finish_keeps s eng h opcode status result).plain .scl (by decide) rfl) ((finish_keeps s eng h opcode status result).plain .loss (by decide) rfl)
@[simp] theorem finish_sw_table (s : State) (eng : Nat) (h : DHdr) (opcode : Nat) (status : Nat) (result : List Byte) : (finish s eng h opcode status result).sw.table = s.sw.table := congrArg (·.table) ((finish_keeps s eng h opcode status result).plain .sw (by decide) rfl)
@[simp] theorem finish_sw_vlans (s : State) (eng : Nat) (h : DHdr) (opcode : Nat) (status : Nat) (result : List Byte) : (finish s eng h opcode status result).sw.vlans = s.sw.vlans := congrArg (·.vlans) ((finish_keeps s eng h opcode status result).plain .sw (by decide) rfl)
@[simp] theorem finish_sw_ruleRegs (s : State) (eng : Nat) (h : DHdr) (opcode : Nat) (status : Nat) (result : List Byte) : (finish s eng h opcode status result).sw.ruleRegs = s.sw.ruleRegs := congrArg (·.ruleRegs) ((finish_keeps s eng h opcode status result).plain .sw (by decide) rfl)
@[simp] theorem finish_sw_queues (s : State) (eng : Nat) (h : DHdr) (opcode : Nat) (status : Nat) (result : List Byte) : (finish s eng h opcode status result).sw.queues = s.sw.queues := congrArg (·.queues) ((finish_keeps s eng h opcode status result).plain .sw (by decide) rfl)
@[simp] theorem finish_sw_credits (s : State) (eng : Nat) (h : DHdr) (opcode : Nat) (status : Nat) (result : List Byte) : (finish s eng h opcode status result).sw.credits = s.sw.credits := congrArg (·.credits) ((finish_keeps s eng h opcode status result).plain .sw (by decide) rfl)
@[simp] theorem finish_sw_gates (s : State) (eng : Nat) (h : DHdr) (opcode : Nat) (status : Nat) (result : List Byte) : (finish s eng h opcode status result).sw.gates = s.sw.gates := congrArg (·.gates) ((finish_keeps s eng h opcode status result).plain .sw (by decide) rfl)
@[simp] theorem finish_sw_ageBase (s : State) (eng : Nat) (h : DHdr) (opcode : Nat) (status : Nat) (result : List Byte) : (finish s eng h opcode status result).sw.ageBase = s.sw.ageBase := congrArg (·.ageBase) ((finish_keeps s eng h opcode status result).plain .sw (by decide) rfl)
@[simp] theorem finish_sw_storms (s : State) (eng : Nat) (h : DHdr) (opcode : Nat) (status : Nat) (result : List Byte) : (finish s eng h opcode status result).sw.storms = s.sw.storms := congrArg (·.storms) ((finish_keeps s eng h opcode status result).plain .sw (by decide) rfl)
@[simp] theorem finish_sw_rx (s : State) (eng : Nat) (h : DHdr) (opcode : Nat) (status : Nat) (result : List Byte) : (finish s eng h opcode status result).sw.rx = s.sw.rx := congrArg (·.rx) ((finish_keeps s eng h opcode status result).plain .sw (by decide) rfl)
@[simp] theorem finish_sw_tx (s : State) (eng : Nat) (h : DHdr) (opcode : Nat) (status : Nat) (result : List Byte) : (finish s eng h opcode status result).sw.tx = s.sw.tx := congrArg (·.tx) ((finish_keeps s eng h opcode status result).plain .sw (by decide) rfl)
@[simp] theorem finish_sw_rxSa (s : State) (eng : Nat) (h : DHdr) (opcode : Nat) (status : Nat) (result : List Byte) : (finish s eng h opcode status result).sw.rxSa = s.sw.rxSa := congrArg (·.rxSa) ((finish_keeps s eng h opcode status result).plain .sw (by decide) rfl)
theorem finish_rd (s : State) (eng : Nat) (h : DHdr) (opcode : Nat) (status : Nat) (result : List Byte) {fx : Field} (hx : fx.lsb < 64) (hc : clearOf [Reg.SW_CNT_VAL, Reg.SW_MSEC_STAT] fx.off = true) :
    (finish s eng h opcode status result).rd fx = s.rd fx := (finish_keeps s eng h opcode status result).rd (by decide) fx hx (of_clearOf hc)
@[simp] theorem complete_pending (s : State) (eng : Nat) (h : DHdr) (opcode : Nat) (status : Nat) (result : List Byte) : (complete s eng h opcode status result).pending = s.pending := (complete_keeps s eng h opcode status result).plain .pending (by decide) rfl
@[simp] theorem complete_now (s : State) (eng : Nat) (h : DHdr) (opcode : Nat) (status : Nat) (result : List Byte) : (complete s eng h opcode status result).now = s.now := (complete_keeps s eng h opcode status result).plain .now (by decide) rfl
@[simp] theorem complete_freeCtr (s : State) (eng : Nat) (h : DHdr) (opcode : Nat) (status : Nat) (result : List Byte) : (complete s eng h opcode status result).freeCtr = s.freeCtr := (complete_keeps s eng h opcode status result).plain .freeCtr (by decide) rfl
@[simp] theorem complete_latches (s : State) (eng : Nat) (h : DHdr) (opcode : Nat) (status : Nat) (result : List Byte) : (complete s eng h opcode status result).latches = s.latches := (complete_keeps s eng h opcode status result).plain .latches (by decide) rfl
@[simp] theorem complete_spar (s : State) (eng : Nat) (h : DHdr) (opcode : Nat) (status : Nat) (result : List Byte) : (complete s eng h opcode status result).spar = s.spar := (complete_keeps s eng h opcode status result).plain .spar (by decide) rfl
@[simp] theorem complete_dt (s : State) (eng : Nat) (h : DHdr) (opcode : Nat) (status : Nat) (result : List Byte) : (complete s eng h opcode status result).dt = s.dt := (complete_keeps s eng h opcode status result).plain .dt (by decide) rfl
@[simp] theorem complete_par (s : State) (eng : Nat) (h : DHdr) (opcode : Nat) (status : Nat) (result : List Byte) : (complete s eng h opcode status result).par = s.par := (complete_keeps s eng h opcode status result).plain .par (by decide) rfl
@[simp] theorem complete_evt (s : State) (eng : Nat) (h : DHdr) (opcode : Nat) (status : Nat) (result : List Byte) : (complete s eng h opcode status result).evt = s.evt := (complete_keeps s eng h opcode status result).plain .evt (by decide) rfl
@[simp] theorem complete_act (s : State) (eng : Nat) (h : DHdr) (opcode : Nat) (status : Nat) (result : List Byte) : (complete s eng h opcode status result).act = s.act := (complete_keeps s eng h opcode status result).plain .act (by decide) rfl
@[simp] theorem complete_chs (s : State) (eng : Nat) (h : DHdr) (opcode : Nat) (status : Nat) (result : List Byte) : (complete s eng h opcode status result).chs = s.chs := (complete_keeps s eng h opcode status result).plain .chs (by decide) rfl
@[simp] theorem complete_sns (s : State) (eng : Nat) (h : DHdr) (opcode : Nat) (status : Nat) (result : List Byte) : (complete s eng h opcode status result).sns = s.sns := (complete_keeps s eng h opcode status result).plain .sns (by decide) rfl
@[simp] theorem complete_sub (s : State) (eng : Nat) (h : DHdr) (opcode : Nat) (status : Nat) (result : List Byte) : (complete s eng h opcode status result).sub = s.sub := (complete_keeps s eng h opcode status result).plain .sub (by decide) rfl
@[simp] theorem complete_brd (s : State) (eng : Nat) (h : DHdr) (opcode : Nat) (status : Nat) (result : List Byte) : (complete s eng h opcode status result).brd = s.brd := (complete_keeps s eng h opcode status result).plain .brd (by decide) rfl
@[simp] theorem complete_inf (s : State) (eng : Nat) (h : DHdr) (opcode : Nat) (status : Nat) (result : List Byte) : (complete s eng h opcode status result).inf = s.inf := (complete_keeps s eng h opcode status result).plain .inf (by decide) rfl
@[simp] theorem complete_sto (s : State) (eng : Nat) (h : DHdr) (opcode : Nat) (status : Nat) (result : List Byte) : (complete s eng h opcode status result).sto = s.sto := (complete_keeps s eng h opcode status result).plain .sto (by decide) rfl
@[simp] theorem complete_sec (s : State) (eng : Nat) (h : DHdr) (opcode : Nat) (status : Nat) (result : List Byte) : (complete s eng h opcode status result).sec = s.sec := (complete_keeps s eng h opcode status result).plain .sec (by decide) rfl
@[simp] theorem complete_upd (s : State) (eng : Nat) (h : DHdr) (opcode : Nat) (status : Nat) (result : List Byte) : (complete s eng h opcode status result).upd = s.upd := (complete_keeps s eng h opcode status result).plain .upd (by decide) rfl
@[simp] theorem complete_flt (s : State) (eng : Nat) (h : DHdr) (opcode : Nat) (status : Nat) (result : List Byte) : (complete s eng h opcode status result).flt = s.flt := (complete_keeps s eng h opcode status result).plain .flt (by decide) rfl
@[simp] theorem complete_pwr_ps (s : State) (eng : Nat) (h : DHdr) (opcode : Nat) (status : Nat) (result : List Byte) : (complete s eng h opcode status result).pwr.ps = s.pwr.ps := congrArg (·.ps) ((complete_keeps s eng h opcode status result).plain .pwr (by decide) rfl)
@[simp] theorem complete_pwr_cd (s : State) (eng : Nat) (h : DHdr) (opcode : Nat) (status : Nat) (result : List Byte) : (complete s eng h opcode status result).pwr.cd = s.pwr.cd := congrArg (·.cd) ((complete_keeps s eng h opcode status result).plain .pwr (by decide) rfl)
@[simp] theorem complete_pwr_ldUp (s : State) (eng : Nat) (h : DHdr) (opcode : Nat) (status : Nat) (result : List Byte) : (complete s eng h opcode status result).pwr.ldUp = s.pwr.ldUp := congrArg (·.ldUp) ((complete_keeps s eng h opcode status result).plain .pwr (by decide) rfl)
@[simp] theorem complete_pwr_armed (s : State) (eng : Nat) (h : DHdr) (opcode : Nat) (status : Nat) (result : List Byte) : (complete s eng h opcode status result).pwr.armed = s.pwr.armed := congrArg (·.armed) ((complete_keeps s eng h opcode status result).plain .pwr (by decide) rfl)
@[simp] theorem complete_pwr_seq (s : State) (eng : Nat) (h : DHdr) (opcode : Nat) (status : Nat) (result : List Byte) : (complete s eng h opcode status result).pwr.seq = s.pwr.seq := congrArg (·.seq) ((complete_keeps s eng h opcode status result).plain .pwr (by decide) rfl)
@[simp] theorem complete_pwr_entry (s : State) (eng : Nat) (h : DHdr) (opcode : Nat) (status : Nat) (result : List Byte) : (complete s eng h opcode status result).pwr.entry = s.pwr.entry := congrArg (·.entry) ((complete_keeps s eng h opcode status result).plain .pwr (by decide) rfl)
@[simp] theorem complete_pwr_wakeAfter (s : State) (eng : Nat) (h : DHdr) (opcode : Nat) (status : Nat) (result : List Byte) : (complete s eng h opcode status result).pwr.wakeAfter = s.pwr.wakeAfter := congrArg (·.wakeAfter) ((complete_keeps s eng h opcode status result).plain .pwr (by decide) rfl)
@[simp] theorem complete_pwr_wakeAfterAt (s : State) (eng : Nat) (h : DHdr) (opcode : Nat) (status : Nat) (result : List Byte) : (complete s eng h opcode status result).pwr.wakeAfterAt = s.pwr.wakeAfterAt := congrArg (·.wakeAfterAt) ((complete_keeps s eng h opcode status result).plain .pwr (by decide) rfl)
@[simp] theorem complete_pwr_woke (s : State) (eng : Nat) (h : DHdr) (opcode : Nat) (status : Nat) (result : List Byte) : (complete s eng h opcode status result).pwr.woke = s.pwr.woke := congrArg (·.woke) ((complete_keeps s eng h opcode status result).plain .pwr (by decide) rfl)
@[simp] theorem complete_pwr_linkDue (s : State) (eng : Nat) (h : DHdr) (opcode : Nat) (status : Nat) (result : List Byte) : (complete s eng h opcode status result).pwr.linkDue = s.pwr.linkDue := congrArg (·.linkDue) ((complete_keeps s eng h opcode status result).plain .pwr (by decide) rfl)
@[simp] theorem complete_pwr_cores (s : State) (eng : Nat) (h : DHdr) (opcode : Nat) (status : Nat) (result : List Byte) : (complete s eng h opcode status result).pwr.cores = s.pwr.cores := congrArg (·.cores) ((complete_keeps s eng h opcode status result).plain .pwr (by decide) rfl)
@[simp] theorem complete_pwr_shadow (s : State) (eng : Nat) (h : DHdr) (opcode : Nat) (status : Nat) (result : List Byte) : (complete s eng h opcode status result).pwr.shadow = s.pwr.shadow := congrArg (·.shadow) ((complete_keeps s eng h opcode status result).plain .pwr (by decide) rfl)
@[simp] theorem complete_pwr_entryAt (s : State) (eng : Nat) (h : DHdr) (opcode : Nat) (status : Nat) (result : List Byte) : (complete s eng h opcode status result).pwr.entryAt = s.pwr.entryAt := congrArg (·.entryAt) ((complete_keeps s eng h opcode status result).plain .pwr (by decide) rfl)
@[simp] theorem complete_pwr_idleEntry (s : State) (eng : Nat) (h : DHdr) (opcode : Nat) (status : Nat) (result : List Byte) : (complete s eng h opcode status result).pwr.idleEntry = s.pwr.idleEntry := congrArg (·.idleEntry) ((complete_keeps s eng h opcode status result).plain .pwr (by decide) rfl)
@[simp] theorem complete_pwr_wfiAt (s : State) (eng : Nat) (h : DHdr) (opcode : Nat) (status : Nat) (result : List Byte) : (complete s eng h opcode status result).pwr.wfiAt = s.pwr.wfiAt := congrArg (·.wfiAt) ((complete_keeps s eng h opcode status result).plain .pwr (by decide) rfl)
@[simp] theorem complete_pwr_sleeps (s : State) (eng : Nat) (h : DHdr) (opcode : Nat) (status : Nat) (result : List Byte) : (complete s eng h opcode status result).pwr.sleeps = s.pwr.sleeps := congrArg (·.sleeps) ((complete_keeps s eng h opcode status result).plain .pwr (by decide) rfl)
@[simp] theorem complete_pwr_wakeBy (s : State) (eng : Nat) (h : DHdr) (opcode : Nat) (status : Nat) (result : List Byte) : (complete s eng h opcode status result).pwr.wakeBy = s.pwr.wakeBy := congrArg (·.wakeBy) ((complete_keeps s eng h opcode status result).plain .pwr (by decide) rfl)
@[simp] theorem complete_pwr_bootDone (s : State) (eng : Nat) (h : DHdr) (opcode : Nat) (status : Nat) (result : List Byte) : (complete s eng h opcode status result).pwr.bootDone = s.pwr.bootDone := congrArg (·.bootDone) ((complete_keeps s eng h opcode status result).plain .pwr (by decide) rfl)
@[simp] theorem complete_pwr_bootEntry (s : State) (eng : Nat) (h : DHdr) (opcode : Nat) (status : Nat) (result : List Byte) : (complete s eng h opcode status result).pwr.bootEntry = s.pwr.bootEntry := congrArg (·.bootEntry) ((complete_keeps s eng h opcode status result).plain .pwr (by decide) rfl)
@[simp] theorem complete_pwr_kept (s : State) (eng : Nat) (h : DHdr) (opcode : Nat) (status : Nat) (result : List Byte) : (complete s eng h opcode status result).pwr.kept = s.pwr.kept := congrArg (·.kept) ((complete_keeps s eng h opcode status result).plain .pwr (by decide) rfl)
@[simp] theorem complete_pwr_pinHeld (s : State) (eng : Nat) (h : DHdr) (opcode : Nat) (status : Nat) (result : List Byte) : (complete s eng h opcode status result).pwr.pinHeld = s.pwr.pinHeld := congrArg (·.pinHeld) ((complete_keeps s eng h opcode status result).plain .pwr (by decide) rfl)
@[simp] theorem complete_pwr_overFeeds (s : State) (eng : Nat) (h : DHdr) (opcode : Nat) (status : Nat) (result : List Byte) : (complete s eng h opcode status result).pwr.overFeeds = s.pwr.overFeeds := congrArg (·.overFeeds) ((complete_keeps s eng h opcode status result).plain .pwr (by decide) rfl)
@[simp] theorem complete_pwr_unzeroed (s : State) (eng : Nat) (h : DHdr) (opcode : Nat) (status : Nat) (result : List Byte) : (complete s eng h opcode status result).pwr.unzeroed = s.pwr.unzeroed := ((complete_keeps s eng h opcode status result).plain .banks (by decide) rfl)
@[simp] theorem complete_tly (s : State) (eng : Nat) (h : DHdr) (opcode : Nat) (status : Nat) (result : List Byte) : (complete s eng h opcode status result).tly = s.tly := tly_ext ((complete_keeps s eng h opcode status result).plain .tly (by decide) rfl) ((complete_keeps s eng h opcode status result).plain .queue (by decide) rfl)
@[simp] theorem complete_chain_up0 (s : State) (eng : Nat) (h : DHdr) (opcode : Nat) (status : Nat) (result : List Byte) : (complete s eng h opcode status result).chain.up0 = s.chain.up0 := congrArg (·.up0) ((complete_keeps s eng h opcode status result).plain .chain (by decide) rfl)
@[simp] theorem complete_chain_up1 (s : State) (eng : Nat) (h : DHdr) (opcode : Nat) (status : Nat) (result : List Byte) : (complete s eng h opcode status result).chain.up1 = s.chain.up1 := congrArg (·.up1) ((complete_keeps s eng h opcode status result).plain .chain (by decide) rfl)
@[simp] theorem complete_chain_cruised (s : State) (eng : Nat) (h : DHdr) (opcode : Nat) (status : Nat) (result : List Byte) : (complete s eng h opcode status result).chain.cruised = s.chain.cruised := congrArg (·.cruised) ((complete_keeps s eng h opcode status result).plain .chain (by decide) rfl)
@[simp] theorem complete_chain_pendingAddr (s : State) (eng : Nat) (h : DHdr) (opcode : Nat) (status : Nat) (result : List Byte) : (complete s eng h opcode status result).chain.pendingAddr = s.chain.pendingAddr := congrArg (·.pendingAddr) ((complete_keeps s eng h opcode status result).plain .chain (by decide) rfl)
@[simp] theorem complete_chain_posDup (s : State) (eng : Nat) (h : DHdr) (opcode : Nat) (status : Nat) (result : List Byte) : (complete s eng h opcode status result).chain.posDup = s.chain.posDup := congrArg (·.posDup) ((complete_keeps s eng h opcode status result).plain .chain (by decide) rfl)
@[simp] theorem complete_chain_assigned (s : State) (eng : Nat) (h : DHdr) (opcode : Nat) (status : Nat) (result : List Byte) : (complete s eng h opcode status result).chain.assigned = s.chain.assigned := congrArg (·.assigned) ((complete_keeps s eng h opcode status result).plain .chain (by decide) rfl)
@[simp] theorem complete_chain_announceDue (s : State) (eng : Nat) (h : DHdr) (opcode : Nat) (status : Nat) (result : List Byte) : (complete s eng h opcode status result).chain.announceDue = s.chain.announceDue := congrArg (·.announceDue) ((complete_keeps s eng h opcode status result).plain .chain (by decide) rfl)
@[simp] theorem complete_chain_causes (s : State) (eng : Nat) (h : DHdr) (opcode : Nat) (status : Nat) (result : List Byte) : (complete s eng h opcode status result).chain.causes = s.chain.causes := congrArg (·.causes) ((complete_keeps s eng h opcode status result).plain .chain (by decide) rfl)
@[simp] theorem complete_chain_cut (s : State) (eng : Nat) (h : DHdr) (opcode : Nat) (status : Nat) (result : List Byte) : (complete s eng h opcode status result).chain.cut = s.chain.cut := congrArg (·.cut) ((complete_keeps s eng h opcode status result).plain .chain (by decide) rfl)
@[simp] theorem complete_chain_gmPort (s : State) (eng : Nat) (h : DHdr) (opcode : Nat) (status : Nat) (result : List Byte) : (complete s eng h opcode status result).chain.gmPort = s.chain.gmPort := congrArg (·.gmPort) ((complete_keeps s eng h opcode status result).plain .chain (by decide) rfl)
@[simp] theorem complete_scl (s : State) (eng : Nat) (h : DHdr) (opcode : Nat) (status : Nat) (result : List Byte) : (complete s eng h opcode status result).scl = s.scl := scl_ext ((complete_keeps s eng h opcode status result).plain .scl (by decide) rfl) ((complete_keeps s eng h opcode status result).plain .loss (by decide) rfl)
@[simp] theorem complete_sw_table (s : State) (eng : Nat) (h : DHdr) (opcode : Nat) (status : Nat) (result : List Byte) : (complete s eng h opcode status result).sw.table = s.sw.table := congrArg (·.table) ((complete_keeps s eng h opcode status result).plain .sw (by decide) rfl)
@[simp] theorem complete_sw_vlans (s : State) (eng : Nat) (h : DHdr) (opcode : Nat) (status : Nat) (result : List Byte) : (complete s eng h opcode status result).sw.vlans = s.sw.vlans := congrArg (·.vlans) ((complete_keeps s eng h opcode status result).plain .sw (by decide) rfl)
@[simp] theorem complete_sw_ruleRegs (s : State) (eng : Nat) (h : DHdr) (opcode : Nat) (status : Nat) (result : List Byte) : (complete s eng h opcode status result).sw.ruleRegs = s.sw.ruleRegs := congrArg (·.ruleRegs) ((complete_keeps s eng h opcode status result).plain .sw (by decide) rfl)
@[simp] theorem complete_sw_queues (s : State) (eng : Nat) (h : DHdr) (opcode : Nat) (status : Nat) (result : List Byte) : (complete s eng h opcode status result).sw.queues = s.sw.queues := congrArg (·.queues) ((complete_keeps s eng h opcode status result).plain .sw (by decide) rfl)
@[simp] theorem complete_sw_credits (s : State) (eng : Nat) (h : DHdr) (opcode : Nat) (status : Nat) (result : List Byte) : (complete s eng h opcode status result).sw.credits = s.sw.credits := congrArg (·.credits) ((complete_keeps s eng h opcode status result).plain .sw (by decide) rfl)
@[simp] theorem complete_sw_gates (s : State) (eng : Nat) (h : DHdr) (opcode : Nat) (status : Nat) (result : List Byte) : (complete s eng h opcode status result).sw.gates = s.sw.gates := congrArg (·.gates) ((complete_keeps s eng h opcode status result).plain .sw (by decide) rfl)
@[simp] theorem complete_sw_ageBase (s : State) (eng : Nat) (h : DHdr) (opcode : Nat) (status : Nat) (result : List Byte) : (complete s eng h opcode status result).sw.ageBase = s.sw.ageBase := congrArg (·.ageBase) ((complete_keeps s eng h opcode status result).plain .sw (by decide) rfl)
@[simp] theorem complete_sw_storms (s : State) (eng : Nat) (h : DHdr) (opcode : Nat) (status : Nat) (result : List Byte) : (complete s eng h opcode status result).sw.storms = s.sw.storms := congrArg (·.storms) ((complete_keeps s eng h opcode status result).plain .sw (by decide) rfl)
@[simp] theorem complete_sw_rx (s : State) (eng : Nat) (h : DHdr) (opcode : Nat) (status : Nat) (result : List Byte) : (complete s eng h opcode status result).sw.rx = s.sw.rx := congrArg (·.rx) ((complete_keeps s eng h opcode status result).plain .sw (by decide) rfl)
@[simp] theorem complete_sw_tx (s : State) (eng : Nat) (h : DHdr) (opcode : Nat) (status : Nat) (result : List Byte) : (complete s eng h opcode status result).sw.tx = s.sw.tx := congrArg (·.tx) ((complete_keeps s eng h opcode status result).plain .sw (by decide) rfl)
@[simp] theorem complete_sw_rxSa (s : State) (eng : Nat) (h : DHdr) (opcode : Nat) (status : Nat) (result : List Byte) : (complete s eng h opcode status result).sw.rxSa = s.sw.rxSa := congrArg (·.rxSa) ((complete_keeps s eng h opcode status result).plain .sw (by decide) rfl)
theorem complete_rd (s : State) (eng : Nat) (h : DHdr) (opcode : Nat) (status : Nat) (result : List Byte) {fx : Field} (hx : fx.lsb < 64) (hc : clearOf [Reg.SW_CNT_VAL, Reg.SW_MSEC_STAT] fx.off = true) :
    (complete s eng h opcode status result).rd fx = s.rd fx := (complete_keeps s eng h opcode status result).rd (by decide) fx hx (of_clearOf hc)
@[simp] theorem completeFault_pending (s : State) (eng : Nat) (h : DHdr) (opcode : Nat) (addr : Nat) : (completeFault s eng h opcode addr).pending = s.pending := (completeFault_keeps s eng h opcode addr).plain .pending (by decide) rfl
@[simp] theorem completeFault_now (s : State) (eng : Nat) (h : DHdr) (opcode : Nat) (addr : Nat) : (completeFault s eng h opcode addr).now = s.now := (completeFault_keeps s eng h opcode addr).plain .now (by decide) rfl
@[simp] theorem completeFault_freeCtr (s : State) (eng : Nat) (h : DHdr) (opcode : Nat) (addr : Nat) : (completeFault s eng h opcode addr).freeCtr = s.freeCtr := (completeFault_keeps s eng h opcode addr).plain .freeCtr (by decide) rfl
@[simp] theorem completeFault_latches (s : State) (eng : Nat) (h : DHdr) (opcode : Nat) (addr : Nat) : (completeFault s eng h opcode addr).latches = s.latches := (completeFault_keeps s eng h opcode addr).plain .latches (by decide) rfl
@[simp] theorem completeFault_spar (s : State) (eng : Nat) (h : DHdr) (opcode : Nat) (addr : Nat) : (completeFault s eng h opcode addr).spar = s.spar := (completeFault_keeps s eng h opcode addr).plain .spar (by decide) rfl
@[simp] theorem completeFault_dt (s : State) (eng : Nat) (h : DHdr) (opcode : Nat) (addr : Nat) : (completeFault s eng h opcode addr).dt = s.dt := (completeFault_keeps s eng h opcode addr).plain .dt (by decide) rfl
@[simp] theorem completeFault_par (s : State) (eng : Nat) (h : DHdr) (opcode : Nat) (addr : Nat) : (completeFault s eng h opcode addr).par = s.par := (completeFault_keeps s eng h opcode addr).plain .par (by decide) rfl
@[simp] theorem completeFault_act (s : State) (eng : Nat) (h : DHdr) (opcode : Nat) (addr : Nat) : (completeFault s eng h opcode addr).act = s.act := (completeFault_keeps s eng h opcode addr).plain .act (by decide) rfl
@[simp] theorem completeFault_chs (s : State) (eng : Nat) (h : DHdr) (opcode : Nat) (addr : Nat) : (completeFault s eng h opcode addr).chs = s.chs := (completeFault_keeps s eng h opcode addr).plain .chs (by decide) rfl
@[simp] theorem completeFault_sns (s : State) (eng : Nat) (h : DHdr) (opcode : Nat) (addr : Nat) : (completeFault s eng h opcode addr).sns = s.sns := (completeFault_keeps s eng h opcode addr).plain .sns (by decide) rfl
@[simp] theorem completeFault_sub (s : State) (eng : Nat) (h : DHdr) (opcode : Nat) (addr : Nat) : (completeFault s eng h opcode addr).sub = s.sub := (completeFault_keeps s eng h opcode addr).plain .sub (by decide) rfl
@[simp] theorem completeFault_brd (s : State) (eng : Nat) (h : DHdr) (opcode : Nat) (addr : Nat) : (completeFault s eng h opcode addr).brd = s.brd := (completeFault_keeps s eng h opcode addr).plain .brd (by decide) rfl
@[simp] theorem completeFault_inf (s : State) (eng : Nat) (h : DHdr) (opcode : Nat) (addr : Nat) : (completeFault s eng h opcode addr).inf = s.inf := (completeFault_keeps s eng h opcode addr).plain .inf (by decide) rfl
@[simp] theorem completeFault_sto (s : State) (eng : Nat) (h : DHdr) (opcode : Nat) (addr : Nat) : (completeFault s eng h opcode addr).sto = s.sto := (completeFault_keeps s eng h opcode addr).plain .sto (by decide) rfl
@[simp] theorem completeFault_sec (s : State) (eng : Nat) (h : DHdr) (opcode : Nat) (addr : Nat) : (completeFault s eng h opcode addr).sec = s.sec := (completeFault_keeps s eng h opcode addr).plain .sec (by decide) rfl
@[simp] theorem completeFault_upd (s : State) (eng : Nat) (h : DHdr) (opcode : Nat) (addr : Nat) : (completeFault s eng h opcode addr).upd = s.upd := (completeFault_keeps s eng h opcode addr).plain .upd (by decide) rfl
@[simp] theorem completeFault_flt (s : State) (eng : Nat) (h : DHdr) (opcode : Nat) (addr : Nat) : (completeFault s eng h opcode addr).flt = s.flt := (completeFault_keeps s eng h opcode addr).plain .flt (by decide) rfl
@[simp] theorem completeFault_pwr_ps (s : State) (eng : Nat) (h : DHdr) (opcode : Nat) (addr : Nat) : (completeFault s eng h opcode addr).pwr.ps = s.pwr.ps := congrArg (·.ps) ((completeFault_keeps s eng h opcode addr).plain .pwr (by decide) rfl)
@[simp] theorem completeFault_pwr_cd (s : State) (eng : Nat) (h : DHdr) (opcode : Nat) (addr : Nat) : (completeFault s eng h opcode addr).pwr.cd = s.pwr.cd := congrArg (·.cd) ((completeFault_keeps s eng h opcode addr).plain .pwr (by decide) rfl)
@[simp] theorem completeFault_pwr_ldUp (s : State) (eng : Nat) (h : DHdr) (opcode : Nat) (addr : Nat) : (completeFault s eng h opcode addr).pwr.ldUp = s.pwr.ldUp := congrArg (·.ldUp) ((completeFault_keeps s eng h opcode addr).plain .pwr (by decide) rfl)
@[simp] theorem completeFault_pwr_armed (s : State) (eng : Nat) (h : DHdr) (opcode : Nat) (addr : Nat) : (completeFault s eng h opcode addr).pwr.armed = s.pwr.armed := congrArg (·.armed) ((completeFault_keeps s eng h opcode addr).plain .pwr (by decide) rfl)
@[simp] theorem completeFault_pwr_seq (s : State) (eng : Nat) (h : DHdr) (opcode : Nat) (addr : Nat) : (completeFault s eng h opcode addr).pwr.seq = s.pwr.seq := congrArg (·.seq) ((completeFault_keeps s eng h opcode addr).plain .pwr (by decide) rfl)
@[simp] theorem completeFault_pwr_entry (s : State) (eng : Nat) (h : DHdr) (opcode : Nat) (addr : Nat) : (completeFault s eng h opcode addr).pwr.entry = s.pwr.entry := congrArg (·.entry) ((completeFault_keeps s eng h opcode addr).plain .pwr (by decide) rfl)
@[simp] theorem completeFault_pwr_wakeAfter (s : State) (eng : Nat) (h : DHdr) (opcode : Nat) (addr : Nat) : (completeFault s eng h opcode addr).pwr.wakeAfter = s.pwr.wakeAfter := congrArg (·.wakeAfter) ((completeFault_keeps s eng h opcode addr).plain .pwr (by decide) rfl)
@[simp] theorem completeFault_pwr_wakeAfterAt (s : State) (eng : Nat) (h : DHdr) (opcode : Nat) (addr : Nat) : (completeFault s eng h opcode addr).pwr.wakeAfterAt = s.pwr.wakeAfterAt := congrArg (·.wakeAfterAt) ((completeFault_keeps s eng h opcode addr).plain .pwr (by decide) rfl)
@[simp] theorem completeFault_pwr_woke (s : State) (eng : Nat) (h : DHdr) (opcode : Nat) (addr : Nat) : (completeFault s eng h opcode addr).pwr.woke = s.pwr.woke := congrArg (·.woke) ((completeFault_keeps s eng h opcode addr).plain .pwr (by decide) rfl)
@[simp] theorem completeFault_pwr_linkDue (s : State) (eng : Nat) (h : DHdr) (opcode : Nat) (addr : Nat) : (completeFault s eng h opcode addr).pwr.linkDue = s.pwr.linkDue := congrArg (·.linkDue) ((completeFault_keeps s eng h opcode addr).plain .pwr (by decide) rfl)
@[simp] theorem completeFault_pwr_cores (s : State) (eng : Nat) (h : DHdr) (opcode : Nat) (addr : Nat) : (completeFault s eng h opcode addr).pwr.cores = s.pwr.cores := congrArg (·.cores) ((completeFault_keeps s eng h opcode addr).plain .pwr (by decide) rfl)
@[simp] theorem completeFault_pwr_shadow (s : State) (eng : Nat) (h : DHdr) (opcode : Nat) (addr : Nat) : (completeFault s eng h opcode addr).pwr.shadow = s.pwr.shadow := congrArg (·.shadow) ((completeFault_keeps s eng h opcode addr).plain .pwr (by decide) rfl)
@[simp] theorem completeFault_pwr_entryAt (s : State) (eng : Nat) (h : DHdr) (opcode : Nat) (addr : Nat) : (completeFault s eng h opcode addr).pwr.entryAt = s.pwr.entryAt := congrArg (·.entryAt) ((completeFault_keeps s eng h opcode addr).plain .pwr (by decide) rfl)
@[simp] theorem completeFault_pwr_idleEntry (s : State) (eng : Nat) (h : DHdr) (opcode : Nat) (addr : Nat) : (completeFault s eng h opcode addr).pwr.idleEntry = s.pwr.idleEntry := congrArg (·.idleEntry) ((completeFault_keeps s eng h opcode addr).plain .pwr (by decide) rfl)
@[simp] theorem completeFault_pwr_wfiAt (s : State) (eng : Nat) (h : DHdr) (opcode : Nat) (addr : Nat) : (completeFault s eng h opcode addr).pwr.wfiAt = s.pwr.wfiAt := congrArg (·.wfiAt) ((completeFault_keeps s eng h opcode addr).plain .pwr (by decide) rfl)
@[simp] theorem completeFault_pwr_sleeps (s : State) (eng : Nat) (h : DHdr) (opcode : Nat) (addr : Nat) : (completeFault s eng h opcode addr).pwr.sleeps = s.pwr.sleeps := congrArg (·.sleeps) ((completeFault_keeps s eng h opcode addr).plain .pwr (by decide) rfl)
@[simp] theorem completeFault_pwr_wakeBy (s : State) (eng : Nat) (h : DHdr) (opcode : Nat) (addr : Nat) : (completeFault s eng h opcode addr).pwr.wakeBy = s.pwr.wakeBy := congrArg (·.wakeBy) ((completeFault_keeps s eng h opcode addr).plain .pwr (by decide) rfl)
@[simp] theorem completeFault_pwr_bootDone (s : State) (eng : Nat) (h : DHdr) (opcode : Nat) (addr : Nat) : (completeFault s eng h opcode addr).pwr.bootDone = s.pwr.bootDone := congrArg (·.bootDone) ((completeFault_keeps s eng h opcode addr).plain .pwr (by decide) rfl)
@[simp] theorem completeFault_pwr_bootEntry (s : State) (eng : Nat) (h : DHdr) (opcode : Nat) (addr : Nat) : (completeFault s eng h opcode addr).pwr.bootEntry = s.pwr.bootEntry := congrArg (·.bootEntry) ((completeFault_keeps s eng h opcode addr).plain .pwr (by decide) rfl)
@[simp] theorem completeFault_pwr_kept (s : State) (eng : Nat) (h : DHdr) (opcode : Nat) (addr : Nat) : (completeFault s eng h opcode addr).pwr.kept = s.pwr.kept := congrArg (·.kept) ((completeFault_keeps s eng h opcode addr).plain .pwr (by decide) rfl)
@[simp] theorem completeFault_pwr_pinHeld (s : State) (eng : Nat) (h : DHdr) (opcode : Nat) (addr : Nat) : (completeFault s eng h opcode addr).pwr.pinHeld = s.pwr.pinHeld := congrArg (·.pinHeld) ((completeFault_keeps s eng h opcode addr).plain .pwr (by decide) rfl)
@[simp] theorem completeFault_pwr_overFeeds (s : State) (eng : Nat) (h : DHdr) (opcode : Nat) (addr : Nat) : (completeFault s eng h opcode addr).pwr.overFeeds = s.pwr.overFeeds := congrArg (·.overFeeds) ((completeFault_keeps s eng h opcode addr).plain .pwr (by decide) rfl)
@[simp] theorem completeFault_pwr_unzeroed (s : State) (eng : Nat) (h : DHdr) (opcode : Nat) (addr : Nat) : (completeFault s eng h opcode addr).pwr.unzeroed = s.pwr.unzeroed := ((completeFault_keeps s eng h opcode addr).plain .banks (by decide) rfl)
@[simp] theorem completeFault_tly_ring (s : State) (eng : Nat) (h : DHdr) (opcode : Nat) (addr : Nat) : (completeFault s eng h opcode addr).tly.ring = s.tly.ring := congrArg (·.ring) ((completeFault_keeps s eng h opcode addr).plain .tly (by decide) rfl)
@[simp] theorem completeFault_tly_first (s : State) (eng : Nat) (h : DHdr) (opcode : Nat) (addr : Nat) : (completeFault s eng h opcode addr).tly.first = s.tly.first := congrArg (·.first) ((completeFault_keeps s eng h opcode addr).plain .tly (by decide) rfl)
@[simp] theorem completeFault_tly_lastMac (s : State) (eng : Nat) (h : DHdr) (opcode : Nat) (addr : Nat) : (completeFault s eng h opcode addr).tly.lastMac = s.tly.lastMac := congrArg (·.lastMac) ((completeFault_keeps s eng h opcode addr).plain .tly (by decide) rfl)
@[simp] theorem completeFault_tly_starts (s : State) (eng : Nat) (h : DHdr) (opcode : Nat) (addr : Nat) : (completeFault s eng h opcode addr).tly.starts = s.tly.starts := congrArg (·.starts) ((completeFault_keeps s eng h opcode addr).plain .tly (by decide) rfl)
@[simp] theorem completeFault_tly_lastClear (s : State) (eng : Nat) (h : DHdr) (opcode : Nat) (addr : Nat) : (completeFault s eng h opcode addr).tly.lastClear = s.tly.lastClear := congrArg (·.lastClear) ((completeFault_keeps s eng h opcode addr).plain .tly (by decide) rfl)
@[simp] theorem completeFault_tly_unreadRaised (s : State) (eng : Nat) (h : DHdr) (opcode : Nat) (addr : Nat) : (completeFault s eng h opcode addr).tly.unreadRaised = s.tly.unreadRaised := congrArg (·.unreadRaised) ((completeFault_keeps s eng h opcode addr).plain .tly (by decide) rfl)
@[simp] theorem completeFault_tly_fullRaised (s : State) (eng : Nat) (h : DHdr) (opcode : Nat) (addr : Nat) : (completeFault s eng h opcode addr).tly.fullRaised = s.tly.fullRaised := congrArg (·.fullRaised) ((completeFault_keeps s eng h opcode addr).plain .tly (by decide) rfl)
@[simp] theorem completeFault_chain_up0 (s : State) (eng : Nat) (h : DHdr) (opcode : Nat) (addr : Nat) : (completeFault s eng h opcode addr).chain.up0 = s.chain.up0 := congrArg (·.up0) ((completeFault_keeps s eng h opcode addr).plain .chain (by decide) rfl)
@[simp] theorem completeFault_chain_up1 (s : State) (eng : Nat) (h : DHdr) (opcode : Nat) (addr : Nat) : (completeFault s eng h opcode addr).chain.up1 = s.chain.up1 := congrArg (·.up1) ((completeFault_keeps s eng h opcode addr).plain .chain (by decide) rfl)
@[simp] theorem completeFault_chain_cruised (s : State) (eng : Nat) (h : DHdr) (opcode : Nat) (addr : Nat) : (completeFault s eng h opcode addr).chain.cruised = s.chain.cruised := congrArg (·.cruised) ((completeFault_keeps s eng h opcode addr).plain .chain (by decide) rfl)
@[simp] theorem completeFault_chain_pendingAddr (s : State) (eng : Nat) (h : DHdr) (opcode : Nat) (addr : Nat) : (completeFault s eng h opcode addr).chain.pendingAddr = s.chain.pendingAddr := congrArg (·.pendingAddr) ((completeFault_keeps s eng h opcode addr).plain .chain (by decide) rfl)
@[simp] theorem completeFault_chain_posDup (s : State) (eng : Nat) (h : DHdr) (opcode : Nat) (addr : Nat) : (completeFault s eng h opcode addr).chain.posDup = s.chain.posDup := congrArg (·.posDup) ((completeFault_keeps s eng h opcode addr).plain .chain (by decide) rfl)
@[simp] theorem completeFault_chain_assigned (s : State) (eng : Nat) (h : DHdr) (opcode : Nat) (addr : Nat) : (completeFault s eng h opcode addr).chain.assigned = s.chain.assigned := congrArg (·.assigned) ((completeFault_keeps s eng h opcode addr).plain .chain (by decide) rfl)
@[simp] theorem completeFault_chain_announceDue (s : State) (eng : Nat) (h : DHdr) (opcode : Nat) (addr : Nat) : (completeFault s eng h opcode addr).chain.announceDue = s.chain.announceDue := congrArg (·.announceDue) ((completeFault_keeps s eng h opcode addr).plain .chain (by decide) rfl)
@[simp] theorem completeFault_chain_causes (s : State) (eng : Nat) (h : DHdr) (opcode : Nat) (addr : Nat) : (completeFault s eng h opcode addr).chain.causes = s.chain.causes := congrArg (·.causes) ((completeFault_keeps s eng h opcode addr).plain .chain (by decide) rfl)
@[simp] theorem completeFault_chain_cut (s : State) (eng : Nat) (h : DHdr) (opcode : Nat) (addr : Nat) : (completeFault s eng h opcode addr).chain.cut = s.chain.cut := congrArg (·.cut) ((completeFault_keeps s eng h opcode addr).plain .chain (by decide) rfl)
@[simp] theorem completeFault_chain_gmPort (s : State) (eng : Nat) (h : DHdr) (opcode : Nat) (addr : Nat) : (completeFault s eng h opcode addr).chain.gmPort = s.chain.gmPort := congrArg (·.gmPort) ((completeFault_keeps s eng h opcode addr).plain .chain (by decide) rfl)
@[simp] theorem completeFault_scl_budgets (s : State) (eng : Nat) (h : DHdr) (opcode : Nat) (addr : Nat) : (completeFault s eng h opcode addr).scl.budgets = s.scl.budgets := congrArg (·.budgets) ((completeFault_keeps s eng h opcode addr).plain .scl (by decide) rfl)
@[simp] theorem completeFault_scl_steps (s : State) (eng : Nat) (h : DHdr) (opcode : Nat) (addr : Nat) : (completeFault s eng h opcode addr).scl.steps = s.scl.steps := congrArg (·.steps) ((completeFault_keeps s eng h opcode addr).plain .scl (by decide) rfl)
@[simp] theorem completeFault_scl_feeds (s : State) (eng : Nat) (h : DHdr) (opcode : Nat) (addr : Nat) : (completeFault s eng h opcode addr).scl.feeds = s.scl.feeds := congrArg (·.feeds) ((completeFault_keeps s eng h opcode addr).plain .scl (by decide) rfl)
@[simp] theorem completeFault_scl_pkgBelow (s : State) (eng : Nat) (h : DHdr) (opcode : Nat) (addr : Nat) : (completeFault s eng h opcode addr).scl.pkgBelow = s.scl.pkgBelow := congrArg (·.pkgBelow) ((completeFault_keeps s eng h opcode addr).plain .scl (by decide) rfl)
@[simp] theorem completeFault_scl_pkgLog (s : State) (eng : Nat) (h : DHdr) (opcode : Nat) (addr : Nat) : (completeFault s eng h opcode addr).scl.pkgLog = s.scl.pkgLog := congrArg (·.pkgLog) ((completeFault_keeps s eng h opcode addr).plain .scl (by decide) rfl)
@[simp] theorem completeFault_scl_led (s : State) (eng : Nat) (h : DHdr) (opcode : Nat) (addr : Nat) : (completeFault s eng h opcode addr).scl.led = s.scl.led := congrArg (·.led) ((completeFault_keeps s eng h opcode addr).plain .scl (by decide) rfl)
@[simp] theorem completeFault_scl_pkgPhase (s : State) (eng : Nat) (h : DHdr) (opcode : Nat) (addr : Nat) : (completeFault s eng h opcode addr).scl.pkgPhase = s.scl.pkgPhase := congrArg (·.pkgPhase) ((completeFault_keeps s eng h opcode addr).plain .scl (by decide) rfl)
@[simp] theorem completeFault_scl_latchOffs (s : State) (eng : Nat) (h : DHdr) (opcode : Nat) (addr : Nat) : (completeFault s eng h opcode addr).scl.latchOffs = s.scl.latchOffs := congrArg (·.latchOffs) ((completeFault_keeps s eng h opcode addr).plain .scl (by decide) rfl)
@[simp] theorem completeFault_scl_stormAt (s : State) (eng : Nat) (h : DHdr) (opcode : Nat) (addr : Nat) : (completeFault s eng h opcode addr).scl.stormAt = s.scl.stormAt := congrArg (·.stormAt) ((completeFault_keeps s eng h opcode addr).plain .scl (by decide) rfl)
@[simp] theorem completeFault_scl_restarts (s : State) (eng : Nat) (h : DHdr) (opcode : Nat) (addr : Nat) : (completeFault s eng h opcode addr).scl.restarts = s.scl.restarts := congrArg (·.restarts) ((completeFault_keeps s eng h opcode addr).plain .scl (by decide) rfl)
@[simp] theorem completeFault_scl_pinned (s : State) (eng : Nat) (h : DHdr) (opcode : Nat) (addr : Nat) : (completeFault s eng h opcode addr).scl.pinned = s.scl.pinned := congrArg (·.pinned) ((completeFault_keeps s eng h opcode addr).plain .scl (by decide) rfl)
@[simp] theorem completeFault_scl_clean (s : State) (eng : Nat) (h : DHdr) (opcode : Nat) (addr : Nat) : (completeFault s eng h opcode addr).scl.clean = s.scl.clean := congrArg (·.clean) ((completeFault_keeps s eng h opcode addr).plain .scl (by decide) rfl)
@[simp] theorem completeFault_scl_ovlParts (s : State) (eng : Nat) (h : DHdr) (opcode : Nat) (addr : Nat) : (completeFault s eng h opcode addr).scl.ovlParts = s.scl.ovlParts := congrArg (·.ovlParts) ((completeFault_keeps s eng h opcode addr).plain .scl (by decide) rfl)
@[simp] theorem completeFault_sw_table (s : State) (eng : Nat) (h : DHdr) (opcode : Nat) (addr : Nat) : (completeFault s eng h opcode addr).sw.table = s.sw.table := congrArg (·.table) ((completeFault_keeps s eng h opcode addr).plain .sw (by decide) rfl)
@[simp] theorem completeFault_sw_vlans (s : State) (eng : Nat) (h : DHdr) (opcode : Nat) (addr : Nat) : (completeFault s eng h opcode addr).sw.vlans = s.sw.vlans := congrArg (·.vlans) ((completeFault_keeps s eng h opcode addr).plain .sw (by decide) rfl)
@[simp] theorem completeFault_sw_ruleRegs (s : State) (eng : Nat) (h : DHdr) (opcode : Nat) (addr : Nat) : (completeFault s eng h opcode addr).sw.ruleRegs = s.sw.ruleRegs := congrArg (·.ruleRegs) ((completeFault_keeps s eng h opcode addr).plain .sw (by decide) rfl)
@[simp] theorem completeFault_sw_queues (s : State) (eng : Nat) (h : DHdr) (opcode : Nat) (addr : Nat) : (completeFault s eng h opcode addr).sw.queues = s.sw.queues := congrArg (·.queues) ((completeFault_keeps s eng h opcode addr).plain .sw (by decide) rfl)
@[simp] theorem completeFault_sw_credits (s : State) (eng : Nat) (h : DHdr) (opcode : Nat) (addr : Nat) : (completeFault s eng h opcode addr).sw.credits = s.sw.credits := congrArg (·.credits) ((completeFault_keeps s eng h opcode addr).plain .sw (by decide) rfl)
@[simp] theorem completeFault_sw_gates (s : State) (eng : Nat) (h : DHdr) (opcode : Nat) (addr : Nat) : (completeFault s eng h opcode addr).sw.gates = s.sw.gates := congrArg (·.gates) ((completeFault_keeps s eng h opcode addr).plain .sw (by decide) rfl)
@[simp] theorem completeFault_sw_ageBase (s : State) (eng : Nat) (h : DHdr) (opcode : Nat) (addr : Nat) : (completeFault s eng h opcode addr).sw.ageBase = s.sw.ageBase := congrArg (·.ageBase) ((completeFault_keeps s eng h opcode addr).plain .sw (by decide) rfl)
@[simp] theorem completeFault_sw_storms (s : State) (eng : Nat) (h : DHdr) (opcode : Nat) (addr : Nat) : (completeFault s eng h opcode addr).sw.storms = s.sw.storms := congrArg (·.storms) ((completeFault_keeps s eng h opcode addr).plain .sw (by decide) rfl)
@[simp] theorem completeFault_sw_rx (s : State) (eng : Nat) (h : DHdr) (opcode : Nat) (addr : Nat) : (completeFault s eng h opcode addr).sw.rx = s.sw.rx := congrArg (·.rx) ((completeFault_keeps s eng h opcode addr).plain .sw (by decide) rfl)
@[simp] theorem completeFault_sw_tx (s : State) (eng : Nat) (h : DHdr) (opcode : Nat) (addr : Nat) : (completeFault s eng h opcode addr).sw.tx = s.sw.tx := congrArg (·.tx) ((completeFault_keeps s eng h opcode addr).plain .sw (by decide) rfl)
@[simp] theorem completeFault_sw_rxSa (s : State) (eng : Nat) (h : DHdr) (opcode : Nat) (addr : Nat) : (completeFault s eng h opcode addr).sw.rxSa = s.sw.rxSa := congrArg (·.rxSa) ((completeFault_keeps s eng h opcode addr).plain .sw (by decide) rfl)
theorem completeFault_rd (s : State) (eng : Nat) (h : DHdr) (opcode : Nat) (addr : Nat) {fx : Field} (hx : fx.lsb < 64) (hc : clearOf [Reg.PAR_FAULT, Reg.PAR_EVT_CNT, Reg.SW_CNT_VAL, Reg.SW_MSEC_STAT, Reg.TLY_CNT0] fx.off = true) :
    (completeFault s eng h opcode addr).rd fx = s.rd fx := (completeFault_keeps s eng h opcode addr).rd (by decide) fx hx (of_clearOf hc)
@[simp] theorem windowFault_pending (s : State) (p : Nat) (eng : Nat) (ring : Nat) (addr : Nat) : (windowFault s p eng ring addr).pending = s.pending := (windowFault_keeps s p eng ring addr).plain .pending (by decide) rfl
@[simp] theorem windowFault_now (s : State) (p : Nat) (eng : Nat) (ring : Nat) (addr : Nat) : (windowFault s p eng ring addr).now = s.now := (windowFault_keeps s p eng ring addr).plain .now (by decide) rfl
@[simp] theorem windowFault_freeCtr (s : State) (p : Nat) (eng : Nat) (ring : Nat) (addr : Nat) : (windowFault s p eng ring addr).freeCtr = s.freeCtr := (windowFault_keeps s p eng ring addr).plain .freeCtr (by decide) rfl
@[simp] theorem windowFault_latches (s : State) (p : Nat) (eng : Nat) (ring : Nat) (addr : Nat) : (windowFault s p eng ring addr).latches = s.latches := (windowFault_keeps s p eng ring addr).plain .latches (by decide) rfl
@[simp] theorem windowFault_spar (s : State) (p : Nat) (eng : Nat) (ring : Nat) (addr : Nat) : (windowFault s p eng ring addr).spar = s.spar := (windowFault_keeps s p eng ring addr).plain .spar (by decide) rfl
@[simp] theorem windowFault_dt (s : State) (p : Nat) (eng : Nat) (ring : Nat) (addr : Nat) : (windowFault s p eng ring addr).dt = s.dt := (windowFault_keeps s p eng ring addr).plain .dt (by decide) rfl
@[simp] theorem windowFault_par (s : State) (p : Nat) (eng : Nat) (ring : Nat) (addr : Nat) : (windowFault s p eng ring addr).par = s.par := (windowFault_keeps s p eng ring addr).plain .par (by decide) rfl
@[simp] theorem windowFault_act (s : State) (p : Nat) (eng : Nat) (ring : Nat) (addr : Nat) : (windowFault s p eng ring addr).act = s.act := (windowFault_keeps s p eng ring addr).plain .act (by decide) rfl
@[simp] theorem windowFault_chs (s : State) (p : Nat) (eng : Nat) (ring : Nat) (addr : Nat) : (windowFault s p eng ring addr).chs = s.chs := (windowFault_keeps s p eng ring addr).plain .chs (by decide) rfl
@[simp] theorem windowFault_sns (s : State) (p : Nat) (eng : Nat) (ring : Nat) (addr : Nat) : (windowFault s p eng ring addr).sns = s.sns := (windowFault_keeps s p eng ring addr).plain .sns (by decide) rfl
@[simp] theorem windowFault_sub (s : State) (p : Nat) (eng : Nat) (ring : Nat) (addr : Nat) : (windowFault s p eng ring addr).sub = s.sub := (windowFault_keeps s p eng ring addr).plain .sub (by decide) rfl
@[simp] theorem windowFault_brd (s : State) (p : Nat) (eng : Nat) (ring : Nat) (addr : Nat) : (windowFault s p eng ring addr).brd = s.brd := (windowFault_keeps s p eng ring addr).plain .brd (by decide) rfl
@[simp] theorem windowFault_inf (s : State) (p : Nat) (eng : Nat) (ring : Nat) (addr : Nat) : (windowFault s p eng ring addr).inf = s.inf := (windowFault_keeps s p eng ring addr).plain .inf (by decide) rfl
@[simp] theorem windowFault_sto (s : State) (p : Nat) (eng : Nat) (ring : Nat) (addr : Nat) : (windowFault s p eng ring addr).sto = s.sto := (windowFault_keeps s p eng ring addr).plain .sto (by decide) rfl
@[simp] theorem windowFault_sec (s : State) (p : Nat) (eng : Nat) (ring : Nat) (addr : Nat) : (windowFault s p eng ring addr).sec = s.sec := (windowFault_keeps s p eng ring addr).plain .sec (by decide) rfl
@[simp] theorem windowFault_upd (s : State) (p : Nat) (eng : Nat) (ring : Nat) (addr : Nat) : (windowFault s p eng ring addr).upd = s.upd := (windowFault_keeps s p eng ring addr).plain .upd (by decide) rfl
@[simp] theorem windowFault_flt (s : State) (p : Nat) (eng : Nat) (ring : Nat) (addr : Nat) : (windowFault s p eng ring addr).flt = s.flt := (windowFault_keeps s p eng ring addr).plain .flt (by decide) rfl
@[simp] theorem windowFault_pwr_ps (s : State) (p : Nat) (eng : Nat) (ring : Nat) (addr : Nat) : (windowFault s p eng ring addr).pwr.ps = s.pwr.ps := congrArg (·.ps) ((windowFault_keeps s p eng ring addr).plain .pwr (by decide) rfl)
@[simp] theorem windowFault_pwr_cd (s : State) (p : Nat) (eng : Nat) (ring : Nat) (addr : Nat) : (windowFault s p eng ring addr).pwr.cd = s.pwr.cd := congrArg (·.cd) ((windowFault_keeps s p eng ring addr).plain .pwr (by decide) rfl)
@[simp] theorem windowFault_pwr_ldUp (s : State) (p : Nat) (eng : Nat) (ring : Nat) (addr : Nat) : (windowFault s p eng ring addr).pwr.ldUp = s.pwr.ldUp := congrArg (·.ldUp) ((windowFault_keeps s p eng ring addr).plain .pwr (by decide) rfl)
@[simp] theorem windowFault_pwr_armed (s : State) (p : Nat) (eng : Nat) (ring : Nat) (addr : Nat) : (windowFault s p eng ring addr).pwr.armed = s.pwr.armed := congrArg (·.armed) ((windowFault_keeps s p eng ring addr).plain .pwr (by decide) rfl)
@[simp] theorem windowFault_pwr_seq (s : State) (p : Nat) (eng : Nat) (ring : Nat) (addr : Nat) : (windowFault s p eng ring addr).pwr.seq = s.pwr.seq := congrArg (·.seq) ((windowFault_keeps s p eng ring addr).plain .pwr (by decide) rfl)
@[simp] theorem windowFault_pwr_entry (s : State) (p : Nat) (eng : Nat) (ring : Nat) (addr : Nat) : (windowFault s p eng ring addr).pwr.entry = s.pwr.entry := congrArg (·.entry) ((windowFault_keeps s p eng ring addr).plain .pwr (by decide) rfl)
@[simp] theorem windowFault_pwr_wakeAfter (s : State) (p : Nat) (eng : Nat) (ring : Nat) (addr : Nat) : (windowFault s p eng ring addr).pwr.wakeAfter = s.pwr.wakeAfter := congrArg (·.wakeAfter) ((windowFault_keeps s p eng ring addr).plain .pwr (by decide) rfl)
@[simp] theorem windowFault_pwr_wakeAfterAt (s : State) (p : Nat) (eng : Nat) (ring : Nat) (addr : Nat) : (windowFault s p eng ring addr).pwr.wakeAfterAt = s.pwr.wakeAfterAt := congrArg (·.wakeAfterAt) ((windowFault_keeps s p eng ring addr).plain .pwr (by decide) rfl)
@[simp] theorem windowFault_pwr_woke (s : State) (p : Nat) (eng : Nat) (ring : Nat) (addr : Nat) : (windowFault s p eng ring addr).pwr.woke = s.pwr.woke := congrArg (·.woke) ((windowFault_keeps s p eng ring addr).plain .pwr (by decide) rfl)
@[simp] theorem windowFault_pwr_linkDue (s : State) (p : Nat) (eng : Nat) (ring : Nat) (addr : Nat) : (windowFault s p eng ring addr).pwr.linkDue = s.pwr.linkDue := congrArg (·.linkDue) ((windowFault_keeps s p eng ring addr).plain .pwr (by decide) rfl)
@[simp] theorem windowFault_pwr_cores (s : State) (p : Nat) (eng : Nat) (ring : Nat) (addr : Nat) : (windowFault s p eng ring addr).pwr.cores = s.pwr.cores := congrArg (·.cores) ((windowFault_keeps s p eng ring addr).plain .pwr (by decide) rfl)
@[simp] theorem windowFault_pwr_shadow (s : State) (p : Nat) (eng : Nat) (ring : Nat) (addr : Nat) : (windowFault s p eng ring addr).pwr.shadow = s.pwr.shadow := congrArg (·.shadow) ((windowFault_keeps s p eng ring addr).plain .pwr (by decide) rfl)
@[simp] theorem windowFault_pwr_entryAt (s : State) (p : Nat) (eng : Nat) (ring : Nat) (addr : Nat) : (windowFault s p eng ring addr).pwr.entryAt = s.pwr.entryAt := congrArg (·.entryAt) ((windowFault_keeps s p eng ring addr).plain .pwr (by decide) rfl)
@[simp] theorem windowFault_pwr_idleEntry (s : State) (p : Nat) (eng : Nat) (ring : Nat) (addr : Nat) : (windowFault s p eng ring addr).pwr.idleEntry = s.pwr.idleEntry := congrArg (·.idleEntry) ((windowFault_keeps s p eng ring addr).plain .pwr (by decide) rfl)
@[simp] theorem windowFault_pwr_wfiAt (s : State) (p : Nat) (eng : Nat) (ring : Nat) (addr : Nat) : (windowFault s p eng ring addr).pwr.wfiAt = s.pwr.wfiAt := congrArg (·.wfiAt) ((windowFault_keeps s p eng ring addr).plain .pwr (by decide) rfl)
@[simp] theorem windowFault_pwr_sleeps (s : State) (p : Nat) (eng : Nat) (ring : Nat) (addr : Nat) : (windowFault s p eng ring addr).pwr.sleeps = s.pwr.sleeps := congrArg (·.sleeps) ((windowFault_keeps s p eng ring addr).plain .pwr (by decide) rfl)
@[simp] theorem windowFault_pwr_wakeBy (s : State) (p : Nat) (eng : Nat) (ring : Nat) (addr : Nat) : (windowFault s p eng ring addr).pwr.wakeBy = s.pwr.wakeBy := congrArg (·.wakeBy) ((windowFault_keeps s p eng ring addr).plain .pwr (by decide) rfl)
@[simp] theorem windowFault_pwr_bootDone (s : State) (p : Nat) (eng : Nat) (ring : Nat) (addr : Nat) : (windowFault s p eng ring addr).pwr.bootDone = s.pwr.bootDone := congrArg (·.bootDone) ((windowFault_keeps s p eng ring addr).plain .pwr (by decide) rfl)
@[simp] theorem windowFault_pwr_bootEntry (s : State) (p : Nat) (eng : Nat) (ring : Nat) (addr : Nat) : (windowFault s p eng ring addr).pwr.bootEntry = s.pwr.bootEntry := congrArg (·.bootEntry) ((windowFault_keeps s p eng ring addr).plain .pwr (by decide) rfl)
@[simp] theorem windowFault_pwr_kept (s : State) (p : Nat) (eng : Nat) (ring : Nat) (addr : Nat) : (windowFault s p eng ring addr).pwr.kept = s.pwr.kept := congrArg (·.kept) ((windowFault_keeps s p eng ring addr).plain .pwr (by decide) rfl)
@[simp] theorem windowFault_pwr_pinHeld (s : State) (p : Nat) (eng : Nat) (ring : Nat) (addr : Nat) : (windowFault s p eng ring addr).pwr.pinHeld = s.pwr.pinHeld := congrArg (·.pinHeld) ((windowFault_keeps s p eng ring addr).plain .pwr (by decide) rfl)
@[simp] theorem windowFault_pwr_overFeeds (s : State) (p : Nat) (eng : Nat) (ring : Nat) (addr : Nat) : (windowFault s p eng ring addr).pwr.overFeeds = s.pwr.overFeeds := congrArg (·.overFeeds) ((windowFault_keeps s p eng ring addr).plain .pwr (by decide) rfl)
@[simp] theorem windowFault_pwr_unzeroed (s : State) (p : Nat) (eng : Nat) (ring : Nat) (addr : Nat) : (windowFault s p eng ring addr).pwr.unzeroed = s.pwr.unzeroed := ((windowFault_keeps s p eng ring addr).plain .banks (by decide) rfl)
@[simp] theorem windowFault_rng_shadows (s : State) (p : Nat) (eng : Nat) (ring : Nat) (addr : Nat) : (windowFault s p eng ring addr).rng.shadows = s.rng.shadows := congrArg (·.shadows) ((windowFault_keeps s p eng ring addr).plain .rng (by decide) rfl)
@[simp] theorem windowFault_rng_work (s : State) (p : Nat) (eng : Nat) (ring : Nat) (addr : Nat) : (windowFault s p eng ring addr).rng.work = s.rng.work := congrArg (·.work) ((windowFault_keeps s p eng ring addr).plain .rng (by decide) rfl)
@[simp] theorem windowFault_rng_stalled (s : State) (p : Nat) (eng : Nat) (ring : Nat) (addr : Nat) : (windowFault s p eng ring addr).rng.stalled = s.rng.stalled := congrArg (·.stalled) ((windowFault_keeps s p eng ring addr).plain .rng (by decide) rfl)
@[simp] theorem windowFault_rng_bells (s : State) (p : Nat) (eng : Nat) (ring : Nat) (addr : Nat) : (windowFault s p eng ring addr).rng.bells = s.rng.bells := congrArg (·.bells) ((windowFault_keeps s p eng ring addr).plain .rng (by decide) rfl)
@[simp] theorem windowFault_rng_deficit (s : State) (p : Nat) (eng : Nat) (ring : Nat) (addr : Nat) : (windowFault s p eng ring addr).rng.deficit = s.rng.deficit := congrArg (·.deficit) ((windowFault_keeps s p eng ring addr).plain .rng (by decide) rfl)
@[simp] theorem windowFault_rng_drrAt (s : State) (p : Nat) (eng : Nat) (ring : Nat) (addr : Nat) : (windowFault s p eng ring addr).rng.drrAt = s.rng.drrAt := congrArg (·.drrAt) ((windowFault_keeps s p eng ring addr).plain .rng (by decide) rfl)
@[simp] theorem windowFault_rng_turns (s : State) (p : Nat) (eng : Nat) (ring : Nat) (addr : Nat) : (windowFault s p eng ring addr).rng.turns = s.rng.turns := congrArg (·.turns) ((windowFault_keeps s p eng ring addr).plain .rng (by decide) rfl)
@[simp] theorem windowFault_rng_busy (s : State) (p : Nat) (eng : Nat) (ring : Nat) (addr : Nat) : (windowFault s p eng ring addr).rng.busy = s.rng.busy := congrArg (·.busy) ((windowFault_keeps s p eng ring addr).plain .rng (by decide) rfl)
@[simp] theorem windowFault_rng_heldReset (s : State) (p : Nat) (eng : Nat) (ring : Nat) (addr : Nat) : (windowFault s p eng ring addr).rng.heldReset = s.rng.heldReset := congrArg (·.heldReset) ((windowFault_keeps s p eng ring addr).plain .rng (by decide) rfl)
@[simp] theorem windowFault_rng_spent (s : State) (p : Nat) (eng : Nat) (ring : Nat) (addr : Nat) : (windowFault s p eng ring addr).rng.spent = s.rng.spent := congrArg (·.spent) ((windowFault_keeps s p eng ring addr).plain .rng (by decide) rfl)
@[simp] theorem windowFault_tly_ring (s : State) (p : Nat) (eng : Nat) (ring : Nat) (addr : Nat) : (windowFault s p eng ring addr).tly.ring = s.tly.ring := congrArg (·.ring) ((windowFault_keeps s p eng ring addr).plain .tly (by decide) rfl)
@[simp] theorem windowFault_tly_first (s : State) (p : Nat) (eng : Nat) (ring : Nat) (addr : Nat) : (windowFault s p eng ring addr).tly.first = s.tly.first := congrArg (·.first) ((windowFault_keeps s p eng ring addr).plain .tly (by decide) rfl)
@[simp] theorem windowFault_tly_lastMac (s : State) (p : Nat) (eng : Nat) (ring : Nat) (addr : Nat) : (windowFault s p eng ring addr).tly.lastMac = s.tly.lastMac := congrArg (·.lastMac) ((windowFault_keeps s p eng ring addr).plain .tly (by decide) rfl)
@[simp] theorem windowFault_tly_starts (s : State) (p : Nat) (eng : Nat) (ring : Nat) (addr : Nat) : (windowFault s p eng ring addr).tly.starts = s.tly.starts := congrArg (·.starts) ((windowFault_keeps s p eng ring addr).plain .tly (by decide) rfl)
@[simp] theorem windowFault_tly_lastClear (s : State) (p : Nat) (eng : Nat) (ring : Nat) (addr : Nat) : (windowFault s p eng ring addr).tly.lastClear = s.tly.lastClear := congrArg (·.lastClear) ((windowFault_keeps s p eng ring addr).plain .tly (by decide) rfl)
@[simp] theorem windowFault_tly_unreadRaised (s : State) (p : Nat) (eng : Nat) (ring : Nat) (addr : Nat) : (windowFault s p eng ring addr).tly.unreadRaised = s.tly.unreadRaised := congrArg (·.unreadRaised) ((windowFault_keeps s p eng ring addr).plain .tly (by decide) rfl)
@[simp] theorem windowFault_tly_fullRaised (s : State) (p : Nat) (eng : Nat) (ring : Nat) (addr : Nat) : (windowFault s p eng ring addr).tly.fullRaised = s.tly.fullRaised := congrArg (·.fullRaised) ((windowFault_keeps s p eng ring addr).plain .tly (by decide) rfl)
@[simp] theorem windowFault_chain_up0 (s : State) (p : Nat) (eng : Nat) (ring : Nat) (addr : Nat) : (windowFault s p eng ring addr).chain.up0 = s.chain.up0 := congrArg (·.up0) ((windowFault_keeps s p eng ring addr).plain .chain (by decide) rfl)
@[simp] theorem windowFault_chain_up1 (s : State) (p : Nat) (eng : Nat) (ring : Nat) (addr : Nat) : (windowFault s p eng ring addr).chain.up1 = s.chain.up1 := congrArg (·.up1) ((windowFault_keeps s p eng ring addr).plain .chain (by decide) rfl)
@[simp] theorem windowFault_chain_cruised (s : State) (p : Nat) (eng : Nat) (ring : Nat) (addr : Nat) : (windowFault s p eng ring addr).chain.cruised = s.chain.cruised := congrArg (·.cruised) ((windowFault_keeps s p eng ring addr).plain .chain (by decide) rfl)
@[simp] theorem windowFault_chain_pendingAddr (s : State) (p : Nat) (eng : Nat) (ring : Nat) (addr : Nat) : (windowFault s p eng ring addr).chain.pendingAddr = s.chain.pendingAddr := congrArg (·.pendingAddr) ((windowFault_keeps s p eng ring addr).plain .chain (by decide) rfl)
@[simp] theorem windowFault_chain_posDup (s : State) (p : Nat) (eng : Nat) (ring : Nat) (addr : Nat) : (windowFault s p eng ring addr).chain.posDup = s.chain.posDup := congrArg (·.posDup) ((windowFault_keeps s p eng ring addr).plain .chain (by decide) rfl)
@[simp] theorem windowFault_chain_assigned (s : State) (p : Nat) (eng : Nat) (ring : Nat) (addr : Nat) : (windowFault s p eng ring addr).chain.assigned = s.chain.assigned := congrArg (·.assigned) ((windowFault_keeps s p eng ring addr).plain .chain (by decide) rfl)
@[simp] theorem windowFault_chain_announceDue (s : State) (p : Nat) (eng : Nat) (ring : Nat) (addr : Nat) : (windowFault s p eng ring addr).chain.announceDue = s.chain.announceDue := congrArg (·.announceDue) ((windowFault_keeps s p eng ring addr).plain .chain (by decide) rfl)
@[simp] theorem windowFault_chain_causes (s : State) (p : Nat) (eng : Nat) (ring : Nat) (addr : Nat) : (windowFault s p eng ring addr).chain.causes = s.chain.causes := congrArg (·.causes) ((windowFault_keeps s p eng ring addr).plain .chain (by decide) rfl)
@[simp] theorem windowFault_chain_cut (s : State) (p : Nat) (eng : Nat) (ring : Nat) (addr : Nat) : (windowFault s p eng ring addr).chain.cut = s.chain.cut := congrArg (·.cut) ((windowFault_keeps s p eng ring addr).plain .chain (by decide) rfl)
@[simp] theorem windowFault_chain_gmPort (s : State) (p : Nat) (eng : Nat) (ring : Nat) (addr : Nat) : (windowFault s p eng ring addr).chain.gmPort = s.chain.gmPort := congrArg (·.gmPort) ((windowFault_keeps s p eng ring addr).plain .chain (by decide) rfl)
@[simp] theorem windowFault_scl_budgets (s : State) (p : Nat) (eng : Nat) (ring : Nat) (addr : Nat) : (windowFault s p eng ring addr).scl.budgets = s.scl.budgets := congrArg (·.budgets) ((windowFault_keeps s p eng ring addr).plain .scl (by decide) rfl)
@[simp] theorem windowFault_scl_steps (s : State) (p : Nat) (eng : Nat) (ring : Nat) (addr : Nat) : (windowFault s p eng ring addr).scl.steps = s.scl.steps := congrArg (·.steps) ((windowFault_keeps s p eng ring addr).plain .scl (by decide) rfl)
@[simp] theorem windowFault_scl_feeds (s : State) (p : Nat) (eng : Nat) (ring : Nat) (addr : Nat) : (windowFault s p eng ring addr).scl.feeds = s.scl.feeds := congrArg (·.feeds) ((windowFault_keeps s p eng ring addr).plain .scl (by decide) rfl)
@[simp] theorem windowFault_scl_pkgBelow (s : State) (p : Nat) (eng : Nat) (ring : Nat) (addr : Nat) : (windowFault s p eng ring addr).scl.pkgBelow = s.scl.pkgBelow := congrArg (·.pkgBelow) ((windowFault_keeps s p eng ring addr).plain .scl (by decide) rfl)
@[simp] theorem windowFault_scl_pkgLog (s : State) (p : Nat) (eng : Nat) (ring : Nat) (addr : Nat) : (windowFault s p eng ring addr).scl.pkgLog = s.scl.pkgLog := congrArg (·.pkgLog) ((windowFault_keeps s p eng ring addr).plain .scl (by decide) rfl)
@[simp] theorem windowFault_scl_led (s : State) (p : Nat) (eng : Nat) (ring : Nat) (addr : Nat) : (windowFault s p eng ring addr).scl.led = s.scl.led := congrArg (·.led) ((windowFault_keeps s p eng ring addr).plain .scl (by decide) rfl)
@[simp] theorem windowFault_scl_pkgPhase (s : State) (p : Nat) (eng : Nat) (ring : Nat) (addr : Nat) : (windowFault s p eng ring addr).scl.pkgPhase = s.scl.pkgPhase := congrArg (·.pkgPhase) ((windowFault_keeps s p eng ring addr).plain .scl (by decide) rfl)
@[simp] theorem windowFault_scl_latchOffs (s : State) (p : Nat) (eng : Nat) (ring : Nat) (addr : Nat) : (windowFault s p eng ring addr).scl.latchOffs = s.scl.latchOffs := congrArg (·.latchOffs) ((windowFault_keeps s p eng ring addr).plain .scl (by decide) rfl)
@[simp] theorem windowFault_scl_stormAt (s : State) (p : Nat) (eng : Nat) (ring : Nat) (addr : Nat) : (windowFault s p eng ring addr).scl.stormAt = s.scl.stormAt := congrArg (·.stormAt) ((windowFault_keeps s p eng ring addr).plain .scl (by decide) rfl)
@[simp] theorem windowFault_scl_restarts (s : State) (p : Nat) (eng : Nat) (ring : Nat) (addr : Nat) : (windowFault s p eng ring addr).scl.restarts = s.scl.restarts := congrArg (·.restarts) ((windowFault_keeps s p eng ring addr).plain .scl (by decide) rfl)
@[simp] theorem windowFault_scl_pinned (s : State) (p : Nat) (eng : Nat) (ring : Nat) (addr : Nat) : (windowFault s p eng ring addr).scl.pinned = s.scl.pinned := congrArg (·.pinned) ((windowFault_keeps s p eng ring addr).plain .scl (by decide) rfl)
@[simp] theorem windowFault_scl_clean (s : State) (p : Nat) (eng : Nat) (ring : Nat) (addr : Nat) : (windowFault s p eng ring addr).scl.clean = s.scl.clean := congrArg (·.clean) ((windowFault_keeps s p eng ring addr).plain .scl (by decide) rfl)
@[simp] theorem windowFault_scl_ovlParts (s : State) (p : Nat) (eng : Nat) (ring : Nat) (addr : Nat) : (windowFault s p eng ring addr).scl.ovlParts = s.scl.ovlParts := congrArg (·.ovlParts) ((windowFault_keeps s p eng ring addr).plain .scl (by decide) rfl)
@[simp] theorem windowFault_sw_table (s : State) (p : Nat) (eng : Nat) (ring : Nat) (addr : Nat) : (windowFault s p eng ring addr).sw.table = s.sw.table := congrArg (·.table) ((windowFault_keeps s p eng ring addr).plain .sw (by decide) rfl)
@[simp] theorem windowFault_sw_vlans (s : State) (p : Nat) (eng : Nat) (ring : Nat) (addr : Nat) : (windowFault s p eng ring addr).sw.vlans = s.sw.vlans := congrArg (·.vlans) ((windowFault_keeps s p eng ring addr).plain .sw (by decide) rfl)
@[simp] theorem windowFault_sw_ruleRegs (s : State) (p : Nat) (eng : Nat) (ring : Nat) (addr : Nat) : (windowFault s p eng ring addr).sw.ruleRegs = s.sw.ruleRegs := congrArg (·.ruleRegs) ((windowFault_keeps s p eng ring addr).plain .sw (by decide) rfl)
@[simp] theorem windowFault_sw_queues (s : State) (p : Nat) (eng : Nat) (ring : Nat) (addr : Nat) : (windowFault s p eng ring addr).sw.queues = s.sw.queues := congrArg (·.queues) ((windowFault_keeps s p eng ring addr).plain .sw (by decide) rfl)
@[simp] theorem windowFault_sw_credits (s : State) (p : Nat) (eng : Nat) (ring : Nat) (addr : Nat) : (windowFault s p eng ring addr).sw.credits = s.sw.credits := congrArg (·.credits) ((windowFault_keeps s p eng ring addr).plain .sw (by decide) rfl)
@[simp] theorem windowFault_sw_gates (s : State) (p : Nat) (eng : Nat) (ring : Nat) (addr : Nat) : (windowFault s p eng ring addr).sw.gates = s.sw.gates := congrArg (·.gates) ((windowFault_keeps s p eng ring addr).plain .sw (by decide) rfl)
@[simp] theorem windowFault_sw_ageBase (s : State) (p : Nat) (eng : Nat) (ring : Nat) (addr : Nat) : (windowFault s p eng ring addr).sw.ageBase = s.sw.ageBase := congrArg (·.ageBase) ((windowFault_keeps s p eng ring addr).plain .sw (by decide) rfl)
@[simp] theorem windowFault_sw_storms (s : State) (p : Nat) (eng : Nat) (ring : Nat) (addr : Nat) : (windowFault s p eng ring addr).sw.storms = s.sw.storms := congrArg (·.storms) ((windowFault_keeps s p eng ring addr).plain .sw (by decide) rfl)
@[simp] theorem windowFault_sw_rx (s : State) (p : Nat) (eng : Nat) (ring : Nat) (addr : Nat) : (windowFault s p eng ring addr).sw.rx = s.sw.rx := congrArg (·.rx) ((windowFault_keeps s p eng ring addr).plain .sw (by decide) rfl)
@[simp] theorem windowFault_sw_tx (s : State) (p : Nat) (eng : Nat) (ring : Nat) (addr : Nat) : (windowFault s p eng ring addr).sw.tx = s.sw.tx := congrArg (·.tx) ((windowFault_keeps s p eng ring addr).plain .sw (by decide) rfl)
@[simp] theorem windowFault_sw_rxSa (s : State) (p : Nat) (eng : Nat) (ring : Nat) (addr : Nat) : (windowFault s p eng ring addr).sw.rxSa = s.sw.rxSa := congrArg (·.rxSa) ((windowFault_keeps s p eng ring addr).plain .sw (by decide) rfl)
theorem windowFault_rd (s : State) (p : Nat) (eng : Nat) (ring : Nat) (addr : Nat) {fx : Field} (hx : fx.lsb < 64) (hc : clearOf [Reg.PAR_FAULT, Reg.PAR_EVT_CNT, Reg.SW_CNT_VAL, Reg.SW_MSEC_STAT, Reg.TLY_CNT0] fx.off = true) :
    (windowFault s p eng ring addr).rd fx = s.rd fx := (windowFault_keeps s p eng ring addr).rd (by decide) fx hx (of_clearOf hc)
@[simp] theorem charge_pending (s : State) (p : Nat) (eng : Nat) (n : Nat) : (charge s p eng n).pending = s.pending := (charge_keeps s p eng n).plain .pending (by decide) rfl
@[simp] theorem charge_now (s : State) (p : Nat) (eng : Nat) (n : Nat) : (charge s p eng n).now = s.now := (charge_keeps s p eng n).plain .now (by decide) rfl
@[simp] theorem charge_freeCtr (s : State) (p : Nat) (eng : Nat) (n : Nat) : (charge s p eng n).freeCtr = s.freeCtr := (charge_keeps s p eng n).plain .freeCtr (by decide) rfl
@[simp] theorem charge_latches (s : State) (p : Nat) (eng : Nat) (n : Nat) : (charge s p eng n).latches = s.latches := (charge_keeps s p eng n).plain .latches (by decide) rfl
@[simp] theorem charge_spar (s : State) (p : Nat) (eng : Nat) (n : Nat) : (charge s p eng n).spar = s.spar := (charge_keeps s p eng n).plain .spar (by decide) rfl
@[simp] theorem charge_dt (s : State) (p : Nat) (eng : Nat) (n : Nat) : (charge s p eng n).dt = s.dt := (charge_keeps s p eng n).plain .dt (by decide) rfl
@[simp] theorem charge_par (s : State) (p : Nat) (eng : Nat) (n : Nat) : (charge s p eng n).par = s.par := (charge_keeps s p eng n).plain .par (by decide) rfl
@[simp] theorem charge_evt (s : State) (p : Nat) (eng : Nat) (n : Nat) : (charge s p eng n).evt = s.evt := (charge_keeps s p eng n).plain .evt (by decide) rfl
@[simp] theorem charge_act (s : State) (p : Nat) (eng : Nat) (n : Nat) : (charge s p eng n).act = s.act := (charge_keeps s p eng n).plain .act (by decide) rfl
@[simp] theorem charge_chs (s : State) (p : Nat) (eng : Nat) (n : Nat) : (charge s p eng n).chs = s.chs := (charge_keeps s p eng n).plain .chs (by decide) rfl
@[simp] theorem charge_sns (s : State) (p : Nat) (eng : Nat) (n : Nat) : (charge s p eng n).sns = s.sns := (charge_keeps s p eng n).plain .sns (by decide) rfl
@[simp] theorem charge_sub (s : State) (p : Nat) (eng : Nat) (n : Nat) : (charge s p eng n).sub = s.sub := (charge_keeps s p eng n).plain .sub (by decide) rfl
@[simp] theorem charge_brd (s : State) (p : Nat) (eng : Nat) (n : Nat) : (charge s p eng n).brd = s.brd := (charge_keeps s p eng n).plain .brd (by decide) rfl
@[simp] theorem charge_inf (s : State) (p : Nat) (eng : Nat) (n : Nat) : (charge s p eng n).inf = s.inf := (charge_keeps s p eng n).plain .inf (by decide) rfl
@[simp] theorem charge_sto (s : State) (p : Nat) (eng : Nat) (n : Nat) : (charge s p eng n).sto = s.sto := (charge_keeps s p eng n).plain .sto (by decide) rfl
@[simp] theorem charge_sec (s : State) (p : Nat) (eng : Nat) (n : Nat) : (charge s p eng n).sec = s.sec := (charge_keeps s p eng n).plain .sec (by decide) rfl
@[simp] theorem charge_upd (s : State) (p : Nat) (eng : Nat) (n : Nat) : (charge s p eng n).upd = s.upd := (charge_keeps s p eng n).plain .upd (by decide) rfl
@[simp] theorem charge_flt (s : State) (p : Nat) (eng : Nat) (n : Nat) : (charge s p eng n).flt = s.flt := (charge_keeps s p eng n).plain .flt (by decide) rfl
@[simp] theorem charge_out (s : State) (p : Nat) (eng : Nat) (n : Nat) : (charge s p eng n).out = s.out := (charge_keeps s p eng n).plain .out (by decide) rfl
@[simp] theorem charge_pwr (s : State) (p : Nat) (eng : Nat) (n : Nat) : (charge s p eng n).pwr = s.pwr := pwr_ext ((charge_keeps s p eng n).plain .pwr (by decide) rfl) ((charge_keeps s p eng n).plain .owed (by decide) rfl) ((charge_keeps s p eng n).plain .banks (by decide) rfl)
@[simp] theorem charge_rng_rings (s : State) (p : Nat) (eng : Nat) (n : Nat) : (charge s p eng n).rng.rings = s.rng.rings := ((charge_keeps s p eng n).plain .rings (by decide) rfl)
@[simp] theorem charge_tly (s : State) (p : Nat) (eng : Nat) (n : Nat) : (charge s p eng n).tly = s.tly := tly_ext ((charge_keeps s p eng n).plain .tly (by decide) rfl) ((charge_keeps s p eng n).plain .queue (by decide) rfl)
@[simp] theorem charge_chain (s : State) (p : Nat) (eng : Nat) (n : Nat) : (charge s p eng n).chain = s.chain := chain_ext ((charge_keeps s p eng n).plain .chain (by decide) rfl) ((charge_keeps s p eng n).plain .proxies (by decide) rfl)
@[simp] theorem charge_scl (s : State) (p : Nat) (eng : Nat) (n : Nat) : (charge s p eng n).scl = s.scl := scl_ext ((charge_keeps s p eng n).plain .scl (by decide) rfl) ((charge_keeps s p eng n).plain .loss (by decide) rfl)
@[simp] theorem charge_sw (s : State) (p : Nat) (eng : Nat) (n : Nat) : (charge s p eng n).sw = s.sw := sw_ext ((charge_keeps s p eng n).plain .sw (by decide) rfl) ((charge_keeps s p eng n).plain .wire (by decide) rfl)
@[simp] theorem charge_mem (s : State) (p : Nat) (eng : Nat) (n : Nat) : (charge s p eng n).mem = s.mem := (charge_keeps s p eng n).same (by decide) (by decide)
@[simp] theorem charge_rd (s : State) (p : Nat) (eng : Nat) (n : Nat) {fx : Field} (hx : fx.lsb < 64) : (charge s p eng n).rd fx = s.rd fx :=
  (charge_keeps s p eng n).rd (by decide) fx hx (by simp)
@[simp] theorem startWork_pending (s : State) (eng : Nat) (h : DHdr) : (startWork s eng h).pending = s.pending := (startWork_keeps s eng h).plain .pending (by decide) rfl
@[simp] theorem startWork_now (s : State) (eng : Nat) (h : DHdr) : (startWork s eng h).now = s.now := (startWork_keeps s eng h).plain .now (by decide) rfl
@[simp] theorem startWork_freeCtr (s : State) (eng : Nat) (h : DHdr) : (startWork s eng h).freeCtr = s.freeCtr := (startWork_keeps s eng h).plain .freeCtr (by decide) rfl
@[simp] theorem startWork_latches (s : State) (eng : Nat) (h : DHdr) : (startWork s eng h).latches = s.latches := (startWork_keeps s eng h).plain .latches (by decide) rfl
@[simp] theorem startWork_spar (s : State) (eng : Nat) (h : DHdr) : (startWork s eng h).spar = s.spar := (startWork_keeps s eng h).plain .spar (by decide) rfl
@[simp] theorem startWork_dt (s : State) (eng : Nat) (h : DHdr) : (startWork s eng h).dt = s.dt := (startWork_keeps s eng h).plain .dt (by decide) rfl
@[simp] theorem startWork_par (s : State) (eng : Nat) (h : DHdr) : (startWork s eng h).par = s.par := (startWork_keeps s eng h).plain .par (by decide) rfl
@[simp] theorem startWork_evt (s : State) (eng : Nat) (h : DHdr) : (startWork s eng h).evt = s.evt := (startWork_keeps s eng h).plain .evt (by decide) rfl
@[simp] theorem startWork_act (s : State) (eng : Nat) (h : DHdr) : (startWork s eng h).act = s.act := (startWork_keeps s eng h).plain .act (by decide) rfl
@[simp] theorem startWork_chs (s : State) (eng : Nat) (h : DHdr) : (startWork s eng h).chs = s.chs := (startWork_keeps s eng h).plain .chs (by decide) rfl
@[simp] theorem startWork_sns (s : State) (eng : Nat) (h : DHdr) : (startWork s eng h).sns = s.sns := (startWork_keeps s eng h).plain .sns (by decide) rfl
@[simp] theorem startWork_sub (s : State) (eng : Nat) (h : DHdr) : (startWork s eng h).sub = s.sub := (startWork_keeps s eng h).plain .sub (by decide) rfl
@[simp] theorem startWork_brd (s : State) (eng : Nat) (h : DHdr) : (startWork s eng h).brd = s.brd := (startWork_keeps s eng h).plain .brd (by decide) rfl
@[simp] theorem startWork_inf (s : State) (eng : Nat) (h : DHdr) : (startWork s eng h).inf = s.inf := (startWork_keeps s eng h).plain .inf (by decide) rfl
@[simp] theorem startWork_sto (s : State) (eng : Nat) (h : DHdr) : (startWork s eng h).sto = s.sto := (startWork_keeps s eng h).plain .sto (by decide) rfl
@[simp] theorem startWork_sec (s : State) (eng : Nat) (h : DHdr) : (startWork s eng h).sec = s.sec := (startWork_keeps s eng h).plain .sec (by decide) rfl
@[simp] theorem startWork_upd (s : State) (eng : Nat) (h : DHdr) : (startWork s eng h).upd = s.upd := (startWork_keeps s eng h).plain .upd (by decide) rfl
@[simp] theorem startWork_flt (s : State) (eng : Nat) (h : DHdr) : (startWork s eng h).flt = s.flt := (startWork_keeps s eng h).plain .flt (by decide) rfl
@[simp] theorem startWork_out (s : State) (eng : Nat) (h : DHdr) : (startWork s eng h).out = s.out := (startWork_keeps s eng h).plain .out (by decide) rfl
@[simp] theorem startWork_pwr (s : State) (eng : Nat) (h : DHdr) : (startWork s eng h).pwr = s.pwr := pwr_ext ((startWork_keeps s eng h).plain .pwr (by decide) rfl) ((startWork_keeps s eng h).plain .owed (by decide) rfl) ((startWork_keeps s eng h).plain .banks (by decide) rfl)
@[simp] theorem startWork_rng_rings (s : State) (eng : Nat) (h : DHdr) : (startWork s eng h).rng.rings = s.rng.rings := ((startWork_keeps s eng h).plain .rings (by decide) rfl)
@[simp] theorem startWork_tly (s : State) (eng : Nat) (h : DHdr) : (startWork s eng h).tly = s.tly := tly_ext ((startWork_keeps s eng h).plain .tly (by decide) rfl) ((startWork_keeps s eng h).plain .queue (by decide) rfl)
@[simp] theorem startWork_chain (s : State) (eng : Nat) (h : DHdr) : (startWork s eng h).chain = s.chain := chain_ext ((startWork_keeps s eng h).plain .chain (by decide) rfl) ((startWork_keeps s eng h).plain .proxies (by decide) rfl)
@[simp] theorem startWork_scl (s : State) (eng : Nat) (h : DHdr) : (startWork s eng h).scl = s.scl := scl_ext ((startWork_keeps s eng h).plain .scl (by decide) rfl) ((startWork_keeps s eng h).plain .loss (by decide) rfl)
@[simp] theorem startWork_sw (s : State) (eng : Nat) (h : DHdr) : (startWork s eng h).sw = s.sw := sw_ext ((startWork_keeps s eng h).plain .sw (by decide) rfl) ((startWork_keeps s eng h).plain .wire (by decide) rfl)
@[simp] theorem startWork_mem (s : State) (eng : Nat) (h : DHdr) : (startWork s eng h).mem = s.mem := (startWork_keeps s eng h).same (by decide) (by decide)
@[simp] theorem startWork_rd (s : State) (eng : Nat) (h : DHdr) {fx : Field} (hx : fx.lsb < 64) : (startWork s eng h).rd fx = s.rd fx :=
  (startWork_keeps s eng h).rd (by decide) fx hx (by simp)
@[simp] theorem showDomains_pending (s : State) : (showDomains s).pending = s.pending := (showDomains_keeps s).plain .pending (by decide) rfl
@[simp] theorem showDomains_now (s : State) : (showDomains s).now = s.now := (showDomains_keeps s).plain .now (by decide) rfl
@[simp] theorem showDomains_freeCtr (s : State) : (showDomains s).freeCtr = s.freeCtr := (showDomains_keeps s).plain .freeCtr (by decide) rfl
@[simp] theorem showDomains_latches (s : State) : (showDomains s).latches = s.latches := (showDomains_keeps s).plain .latches (by decide) rfl
@[simp] theorem showDomains_spar (s : State) : (showDomains s).spar = s.spar := (showDomains_keeps s).plain .spar (by decide) rfl
@[simp] theorem showDomains_dt (s : State) : (showDomains s).dt = s.dt := (showDomains_keeps s).plain .dt (by decide) rfl
@[simp] theorem showDomains_par (s : State) : (showDomains s).par = s.par := (showDomains_keeps s).plain .par (by decide) rfl
@[simp] theorem showDomains_evt (s : State) : (showDomains s).evt = s.evt := (showDomains_keeps s).plain .evt (by decide) rfl
@[simp] theorem showDomains_act (s : State) : (showDomains s).act = s.act := (showDomains_keeps s).plain .act (by decide) rfl
@[simp] theorem showDomains_chs (s : State) : (showDomains s).chs = s.chs := (showDomains_keeps s).plain .chs (by decide) rfl
@[simp] theorem showDomains_sns (s : State) : (showDomains s).sns = s.sns := (showDomains_keeps s).plain .sns (by decide) rfl
@[simp] theorem showDomains_sub (s : State) : (showDomains s).sub = s.sub := (showDomains_keeps s).plain .sub (by decide) rfl
@[simp] theorem showDomains_brd (s : State) : (showDomains s).brd = s.brd := (showDomains_keeps s).plain .brd (by decide) rfl
@[simp] theorem showDomains_inf (s : State) : (showDomains s).inf = s.inf := (showDomains_keeps s).plain .inf (by decide) rfl
@[simp] theorem showDomains_sto (s : State) : (showDomains s).sto = s.sto := (showDomains_keeps s).plain .sto (by decide) rfl
@[simp] theorem showDomains_sec (s : State) : (showDomains s).sec = s.sec := (showDomains_keeps s).plain .sec (by decide) rfl
@[simp] theorem showDomains_upd (s : State) : (showDomains s).upd = s.upd := (showDomains_keeps s).plain .upd (by decide) rfl
@[simp] theorem showDomains_flt (s : State) : (showDomains s).flt = s.flt := (showDomains_keeps s).plain .flt (by decide) rfl
@[simp] theorem showDomains_out (s : State) : (showDomains s).out = s.out := (showDomains_keeps s).plain .out (by decide) rfl
@[simp] theorem showDomains_pwr (s : State) : (showDomains s).pwr = s.pwr := pwr_ext ((showDomains_keeps s).plain .pwr (by decide) rfl) ((showDomains_keeps s).plain .owed (by decide) rfl) ((showDomains_keeps s).plain .banks (by decide) rfl)
@[simp] theorem showDomains_rng (s : State) : (showDomains s).rng = s.rng := rng_ext ((showDomains_keeps s).plain .rng (by decide) rfl) ((showDomains_keeps s).plain .rings (by decide) rfl)
@[simp] theorem showDomains_tly (s : State) : (showDomains s).tly = s.tly := tly_ext ((showDomains_keeps s).plain .tly (by decide) rfl) ((showDomains_keeps s).plain .queue (by decide) rfl)
@[simp] theorem showDomains_chain (s : State) : (showDomains s).chain = s.chain := chain_ext ((showDomains_keeps s).plain .chain (by decide) rfl) ((showDomains_keeps s).plain .proxies (by decide) rfl)
@[simp] theorem showDomains_scl (s : State) : (showDomains s).scl = s.scl := scl_ext ((showDomains_keeps s).plain .scl (by decide) rfl) ((showDomains_keeps s).plain .loss (by decide) rfl)
@[simp] theorem showDomains_sw (s : State) : (showDomains s).sw = s.sw := sw_ext ((showDomains_keeps s).plain .sw (by decide) rfl) ((showDomains_keeps s).plain .wire (by decide) rfl)
@[simp] theorem showDomains_mem (s : State) : (showDomains s).mem = s.mem := (showDomains_keeps s).same (by decide) (by decide)
theorem showDomains_rd (s : State) {fx : Field} (hx : fx.lsb < 64) (hc : clearOf [Reg.PWR_DOM_STATUS] fx.off = true) :
    (showDomains s).rd fx = s.rd fx := (showDomains_keeps s).rd (by decide) fx hx (of_clearOf hc)
@[simp] theorem sendZilek_pending (s : State) (port : Nat) (typ : Nat) (flags : Nat) (dst : Nat) (part : Nat) (seq : Nat) (body : List Byte) : (sendZilek s port typ flags dst part seq body).pending = s.pending := (sendZilek_keeps s port typ flags dst part seq body).plain .pending (by decide) rfl
@[simp] theorem sendZilek_now (s : State) (port : Nat) (typ : Nat) (flags : Nat) (dst : Nat) (part : Nat) (seq : Nat) (body : List Byte) : (sendZilek s port typ flags dst part seq body).now = s.now := (sendZilek_keeps s port typ flags dst part seq body).plain .now (by decide) rfl
@[simp] theorem sendZilek_freeCtr (s : State) (port : Nat) (typ : Nat) (flags : Nat) (dst : Nat) (part : Nat) (seq : Nat) (body : List Byte) : (sendZilek s port typ flags dst part seq body).freeCtr = s.freeCtr := (sendZilek_keeps s port typ flags dst part seq body).plain .freeCtr (by decide) rfl
@[simp] theorem sendZilek_latches (s : State) (port : Nat) (typ : Nat) (flags : Nat) (dst : Nat) (part : Nat) (seq : Nat) (body : List Byte) : (sendZilek s port typ flags dst part seq body).latches = s.latches := (sendZilek_keeps s port typ flags dst part seq body).plain .latches (by decide) rfl
@[simp] theorem sendZilek_spar (s : State) (port : Nat) (typ : Nat) (flags : Nat) (dst : Nat) (part : Nat) (seq : Nat) (body : List Byte) : (sendZilek s port typ flags dst part seq body).spar = s.spar := (sendZilek_keeps s port typ flags dst part seq body).plain .spar (by decide) rfl
@[simp] theorem sendZilek_dt (s : State) (port : Nat) (typ : Nat) (flags : Nat) (dst : Nat) (part : Nat) (seq : Nat) (body : List Byte) : (sendZilek s port typ flags dst part seq body).dt = s.dt := (sendZilek_keeps s port typ flags dst part seq body).plain .dt (by decide) rfl
@[simp] theorem sendZilek_par (s : State) (port : Nat) (typ : Nat) (flags : Nat) (dst : Nat) (part : Nat) (seq : Nat) (body : List Byte) : (sendZilek s port typ flags dst part seq body).par = s.par := (sendZilek_keeps s port typ flags dst part seq body).plain .par (by decide) rfl
@[simp] theorem sendZilek_evt (s : State) (port : Nat) (typ : Nat) (flags : Nat) (dst : Nat) (part : Nat) (seq : Nat) (body : List Byte) : (sendZilek s port typ flags dst part seq body).evt = s.evt := (sendZilek_keeps s port typ flags dst part seq body).plain .evt (by decide) rfl
@[simp] theorem sendZilek_act (s : State) (port : Nat) (typ : Nat) (flags : Nat) (dst : Nat) (part : Nat) (seq : Nat) (body : List Byte) : (sendZilek s port typ flags dst part seq body).act = s.act := (sendZilek_keeps s port typ flags dst part seq body).plain .act (by decide) rfl
@[simp] theorem sendZilek_chs (s : State) (port : Nat) (typ : Nat) (flags : Nat) (dst : Nat) (part : Nat) (seq : Nat) (body : List Byte) : (sendZilek s port typ flags dst part seq body).chs = s.chs := (sendZilek_keeps s port typ flags dst part seq body).plain .chs (by decide) rfl
@[simp] theorem sendZilek_sns (s : State) (port : Nat) (typ : Nat) (flags : Nat) (dst : Nat) (part : Nat) (seq : Nat) (body : List Byte) : (sendZilek s port typ flags dst part seq body).sns = s.sns := (sendZilek_keeps s port typ flags dst part seq body).plain .sns (by decide) rfl
@[simp] theorem sendZilek_sub (s : State) (port : Nat) (typ : Nat) (flags : Nat) (dst : Nat) (part : Nat) (seq : Nat) (body : List Byte) : (sendZilek s port typ flags dst part seq body).sub = s.sub := (sendZilek_keeps s port typ flags dst part seq body).plain .sub (by decide) rfl
@[simp] theorem sendZilek_brd (s : State) (port : Nat) (typ : Nat) (flags : Nat) (dst : Nat) (part : Nat) (seq : Nat) (body : List Byte) : (sendZilek s port typ flags dst part seq body).brd = s.brd := (sendZilek_keeps s port typ flags dst part seq body).plain .brd (by decide) rfl
@[simp] theorem sendZilek_inf (s : State) (port : Nat) (typ : Nat) (flags : Nat) (dst : Nat) (part : Nat) (seq : Nat) (body : List Byte) : (sendZilek s port typ flags dst part seq body).inf = s.inf := (sendZilek_keeps s port typ flags dst part seq body).plain .inf (by decide) rfl
@[simp] theorem sendZilek_sto (s : State) (port : Nat) (typ : Nat) (flags : Nat) (dst : Nat) (part : Nat) (seq : Nat) (body : List Byte) : (sendZilek s port typ flags dst part seq body).sto = s.sto := (sendZilek_keeps s port typ flags dst part seq body).plain .sto (by decide) rfl
@[simp] theorem sendZilek_sec (s : State) (port : Nat) (typ : Nat) (flags : Nat) (dst : Nat) (part : Nat) (seq : Nat) (body : List Byte) : (sendZilek s port typ flags dst part seq body).sec = s.sec := (sendZilek_keeps s port typ flags dst part seq body).plain .sec (by decide) rfl
@[simp] theorem sendZilek_upd (s : State) (port : Nat) (typ : Nat) (flags : Nat) (dst : Nat) (part : Nat) (seq : Nat) (body : List Byte) : (sendZilek s port typ flags dst part seq body).upd = s.upd := (sendZilek_keeps s port typ flags dst part seq body).plain .upd (by decide) rfl
@[simp] theorem sendZilek_flt (s : State) (port : Nat) (typ : Nat) (flags : Nat) (dst : Nat) (part : Nat) (seq : Nat) (body : List Byte) : (sendZilek s port typ flags dst part seq body).flt = s.flt := (sendZilek_keeps s port typ flags dst part seq body).plain .flt (by decide) rfl
@[simp] theorem sendZilek_pwr (s : State) (port : Nat) (typ : Nat) (flags : Nat) (dst : Nat) (part : Nat) (seq : Nat) (body : List Byte) : (sendZilek s port typ flags dst part seq body).pwr = s.pwr := pwr_ext ((sendZilek_keeps s port typ flags dst part seq body).plain .pwr (by decide) rfl) ((sendZilek_keeps s port typ flags dst part seq body).plain .owed (by decide) rfl) ((sendZilek_keeps s port typ flags dst part seq body).plain .banks (by decide) rfl)
@[simp] theorem sendZilek_rng (s : State) (port : Nat) (typ : Nat) (flags : Nat) (dst : Nat) (part : Nat) (seq : Nat) (body : List Byte) : (sendZilek s port typ flags dst part seq body).rng = s.rng := rng_ext ((sendZilek_keeps s port typ flags dst part seq body).plain .rng (by decide) rfl) ((sendZilek_keeps s port typ flags dst part seq body).plain .rings (by decide) rfl)
@[simp] theorem sendZilek_tly (s : State) (port : Nat) (typ : Nat) (flags : Nat) (dst : Nat) (part : Nat) (seq : Nat) (body : List Byte) : (sendZilek s port typ flags dst part seq body).tly = s.tly := tly_ext ((sendZilek_keeps s port typ flags dst part seq body).plain .tly (by decide) rfl) ((sendZilek_keeps s port typ flags dst part seq body).plain .queue (by decide) rfl)
@[simp] theorem sendZilek_chain (s : State) (port : Nat) (typ : Nat) (flags : Nat) (dst : Nat) (part : Nat) (seq : Nat) (body : List Byte) : (sendZilek s port typ flags dst part seq body).chain = s.chain := chain_ext ((sendZilek_keeps s port typ flags dst part seq body).plain .chain (by decide) rfl) ((sendZilek_keeps s port typ flags dst part seq body).plain .proxies (by decide) rfl)
@[simp] theorem sendZilek_scl (s : State) (port : Nat) (typ : Nat) (flags : Nat) (dst : Nat) (part : Nat) (seq : Nat) (body : List Byte) : (sendZilek s port typ flags dst part seq body).scl = s.scl := scl_ext ((sendZilek_keeps s port typ flags dst part seq body).plain .scl (by decide) rfl) ((sendZilek_keeps s port typ flags dst part seq body).plain .loss (by decide) rfl)
@[simp] theorem sendZilek_sw_table (s : State) (port : Nat) (typ : Nat) (flags : Nat) (dst : Nat) (part : Nat) (seq : Nat) (body : List Byte) : (sendZilek s port typ flags dst part seq body).sw.table = s.sw.table := congrArg (·.table) ((sendZilek_keeps s port typ flags dst part seq body).plain .sw (by decide) rfl)
@[simp] theorem sendZilek_sw_vlans (s : State) (port : Nat) (typ : Nat) (flags : Nat) (dst : Nat) (part : Nat) (seq : Nat) (body : List Byte) : (sendZilek s port typ flags dst part seq body).sw.vlans = s.sw.vlans := congrArg (·.vlans) ((sendZilek_keeps s port typ flags dst part seq body).plain .sw (by decide) rfl)
@[simp] theorem sendZilek_sw_ruleRegs (s : State) (port : Nat) (typ : Nat) (flags : Nat) (dst : Nat) (part : Nat) (seq : Nat) (body : List Byte) : (sendZilek s port typ flags dst part seq body).sw.ruleRegs = s.sw.ruleRegs := congrArg (·.ruleRegs) ((sendZilek_keeps s port typ flags dst part seq body).plain .sw (by decide) rfl)
@[simp] theorem sendZilek_sw_queues (s : State) (port : Nat) (typ : Nat) (flags : Nat) (dst : Nat) (part : Nat) (seq : Nat) (body : List Byte) : (sendZilek s port typ flags dst part seq body).sw.queues = s.sw.queues := congrArg (·.queues) ((sendZilek_keeps s port typ flags dst part seq body).plain .sw (by decide) rfl)
@[simp] theorem sendZilek_sw_credits (s : State) (port : Nat) (typ : Nat) (flags : Nat) (dst : Nat) (part : Nat) (seq : Nat) (body : List Byte) : (sendZilek s port typ flags dst part seq body).sw.credits = s.sw.credits := congrArg (·.credits) ((sendZilek_keeps s port typ flags dst part seq body).plain .sw (by decide) rfl)
@[simp] theorem sendZilek_sw_gates (s : State) (port : Nat) (typ : Nat) (flags : Nat) (dst : Nat) (part : Nat) (seq : Nat) (body : List Byte) : (sendZilek s port typ flags dst part seq body).sw.gates = s.sw.gates := congrArg (·.gates) ((sendZilek_keeps s port typ flags dst part seq body).plain .sw (by decide) rfl)
@[simp] theorem sendZilek_sw_ageBase (s : State) (port : Nat) (typ : Nat) (flags : Nat) (dst : Nat) (part : Nat) (seq : Nat) (body : List Byte) : (sendZilek s port typ flags dst part seq body).sw.ageBase = s.sw.ageBase := congrArg (·.ageBase) ((sendZilek_keeps s port typ flags dst part seq body).plain .sw (by decide) rfl)
@[simp] theorem sendZilek_sw_storms (s : State) (port : Nat) (typ : Nat) (flags : Nat) (dst : Nat) (part : Nat) (seq : Nat) (body : List Byte) : (sendZilek s port typ flags dst part seq body).sw.storms = s.sw.storms := congrArg (·.storms) ((sendZilek_keeps s port typ flags dst part seq body).plain .sw (by decide) rfl)
@[simp] theorem sendZilek_sw_rx (s : State) (port : Nat) (typ : Nat) (flags : Nat) (dst : Nat) (part : Nat) (seq : Nat) (body : List Byte) : (sendZilek s port typ flags dst part seq body).sw.rx = s.sw.rx := congrArg (·.rx) ((sendZilek_keeps s port typ flags dst part seq body).plain .sw (by decide) rfl)
@[simp] theorem sendZilek_sw_tx (s : State) (port : Nat) (typ : Nat) (flags : Nat) (dst : Nat) (part : Nat) (seq : Nat) (body : List Byte) : (sendZilek s port typ flags dst part seq body).sw.tx = s.sw.tx := congrArg (·.tx) ((sendZilek_keeps s port typ flags dst part seq body).plain .sw (by decide) rfl)
@[simp] theorem sendZilek_sw_rxSa (s : State) (port : Nat) (typ : Nat) (flags : Nat) (dst : Nat) (part : Nat) (seq : Nat) (body : List Byte) : (sendZilek s port typ flags dst part seq body).sw.rxSa = s.sw.rxSa := congrArg (·.rxSa) ((sendZilek_keeps s port typ flags dst part seq body).plain .sw (by decide) rfl)
@[simp] theorem sendZilek_mem (s : State) (port : Nat) (typ : Nat) (flags : Nat) (dst : Nat) (part : Nat) (seq : Nat) (body : List Byte) : (sendZilek s port typ flags dst part seq body).mem = s.mem := (sendZilek_keeps s port typ flags dst part seq body).same (by decide) (by decide)
theorem sendZilek_rd (s : State) (port : Nat) (typ : Nat) (flags : Nat) (dst : Nat) (part : Nat) (seq : Nat) (body : List Byte) {fx : Field} (hx : fx.lsb < 64) (hc : clearOf [Reg.SW_CNT_VAL, Reg.SW_MSEC_STAT] fx.off = true) :
    (sendZilek s port typ flags dst part seq body).rd fx = s.rd fx := (sendZilek_keeps s port typ flags dst part seq body).rd (by decide) fx hx (of_clearOf hc)
@[simp] theorem proxyPost_pending (s : State) (p : Nat) (typ : Nat) (body : List Byte) : (proxyPost s p typ body).pending = s.pending := (proxyPost_keeps s p typ body).plain .pending (by decide) rfl
@[simp] theorem proxyPost_now (s : State) (p : Nat) (typ : Nat) (body : List Byte) : (proxyPost s p typ body).now = s.now := (proxyPost_keeps s p typ body).plain .now (by decide) rfl
@[simp] theorem proxyPost_freeCtr (s : State) (p : Nat) (typ : Nat) (body : List Byte) : (proxyPost s p typ body).freeCtr = s.freeCtr := (proxyPost_keeps s p typ body).plain .freeCtr (by decide) rfl
@[simp] theorem proxyPost_latches (s : State) (p : Nat) (typ : Nat) (body : List Byte) : (proxyPost s p typ body).latches = s.latches := (proxyPost_keeps s p typ body).plain .latches (by decide) rfl
@[simp] theorem proxyPost_spar (s : State) (p : Nat) (typ : Nat) (body : List Byte) : (proxyPost s p typ body).spar = s.spar := (proxyPost_keeps s p typ body).plain .spar (by decide) rfl
@[simp] theorem proxyPost_dt (s : State) (p : Nat) (typ : Nat) (body : List Byte) : (proxyPost s p typ body).dt = s.dt := (proxyPost_keeps s p typ body).plain .dt (by decide) rfl
@[simp] theorem proxyPost_par (s : State) (p : Nat) (typ : Nat) (body : List Byte) : (proxyPost s p typ body).par = s.par := (proxyPost_keeps s p typ body).plain .par (by decide) rfl
@[simp] theorem proxyPost_evt (s : State) (p : Nat) (typ : Nat) (body : List Byte) : (proxyPost s p typ body).evt = s.evt := (proxyPost_keeps s p typ body).plain .evt (by decide) rfl
@[simp] theorem proxyPost_act (s : State) (p : Nat) (typ : Nat) (body : List Byte) : (proxyPost s p typ body).act = s.act := (proxyPost_keeps s p typ body).plain .act (by decide) rfl
@[simp] theorem proxyPost_chs (s : State) (p : Nat) (typ : Nat) (body : List Byte) : (proxyPost s p typ body).chs = s.chs := (proxyPost_keeps s p typ body).plain .chs (by decide) rfl
@[simp] theorem proxyPost_sns (s : State) (p : Nat) (typ : Nat) (body : List Byte) : (proxyPost s p typ body).sns = s.sns := (proxyPost_keeps s p typ body).plain .sns (by decide) rfl
@[simp] theorem proxyPost_sub (s : State) (p : Nat) (typ : Nat) (body : List Byte) : (proxyPost s p typ body).sub = s.sub := (proxyPost_keeps s p typ body).plain .sub (by decide) rfl
@[simp] theorem proxyPost_brd (s : State) (p : Nat) (typ : Nat) (body : List Byte) : (proxyPost s p typ body).brd = s.brd := (proxyPost_keeps s p typ body).plain .brd (by decide) rfl
@[simp] theorem proxyPost_inf (s : State) (p : Nat) (typ : Nat) (body : List Byte) : (proxyPost s p typ body).inf = s.inf := (proxyPost_keeps s p typ body).plain .inf (by decide) rfl
@[simp] theorem proxyPost_sto (s : State) (p : Nat) (typ : Nat) (body : List Byte) : (proxyPost s p typ body).sto = s.sto := (proxyPost_keeps s p typ body).plain .sto (by decide) rfl
@[simp] theorem proxyPost_sec (s : State) (p : Nat) (typ : Nat) (body : List Byte) : (proxyPost s p typ body).sec = s.sec := (proxyPost_keeps s p typ body).plain .sec (by decide) rfl
@[simp] theorem proxyPost_upd (s : State) (p : Nat) (typ : Nat) (body : List Byte) : (proxyPost s p typ body).upd = s.upd := (proxyPost_keeps s p typ body).plain .upd (by decide) rfl
@[simp] theorem proxyPost_flt (s : State) (p : Nat) (typ : Nat) (body : List Byte) : (proxyPost s p typ body).flt = s.flt := (proxyPost_keeps s p typ body).plain .flt (by decide) rfl
@[simp] theorem proxyPost_pwr (s : State) (p : Nat) (typ : Nat) (body : List Byte) : (proxyPost s p typ body).pwr = s.pwr := pwr_ext ((proxyPost_keeps s p typ body).plain .pwr (by decide) rfl) ((proxyPost_keeps s p typ body).plain .owed (by decide) rfl) ((proxyPost_keeps s p typ body).plain .banks (by decide) rfl)
@[simp] theorem proxyPost_rng (s : State) (p : Nat) (typ : Nat) (body : List Byte) : (proxyPost s p typ body).rng = s.rng := rng_ext ((proxyPost_keeps s p typ body).plain .rng (by decide) rfl) ((proxyPost_keeps s p typ body).plain .rings (by decide) rfl)
@[simp] theorem proxyPost_tly (s : State) (p : Nat) (typ : Nat) (body : List Byte) : (proxyPost s p typ body).tly = s.tly := tly_ext ((proxyPost_keeps s p typ body).plain .tly (by decide) rfl) ((proxyPost_keeps s p typ body).plain .queue (by decide) rfl)
@[simp] theorem proxyPost_chain_up0 (s : State) (p : Nat) (typ : Nat) (body : List Byte) : (proxyPost s p typ body).chain.up0 = s.chain.up0 := congrArg (·.up0) ((proxyPost_keeps s p typ body).plain .chain (by decide) rfl)
@[simp] theorem proxyPost_chain_up1 (s : State) (p : Nat) (typ : Nat) (body : List Byte) : (proxyPost s p typ body).chain.up1 = s.chain.up1 := congrArg (·.up1) ((proxyPost_keeps s p typ body).plain .chain (by decide) rfl)
@[simp] theorem proxyPost_chain_cruised (s : State) (p : Nat) (typ : Nat) (body : List Byte) : (proxyPost s p typ body).chain.cruised = s.chain.cruised := congrArg (·.cruised) ((proxyPost_keeps s p typ body).plain .chain (by decide) rfl)
@[simp] theorem proxyPost_chain_pendingAddr (s : State) (p : Nat) (typ : Nat) (body : List Byte) : (proxyPost s p typ body).chain.pendingAddr = s.chain.pendingAddr := congrArg (·.pendingAddr) ((proxyPost_keeps s p typ body).plain .chain (by decide) rfl)
@[simp] theorem proxyPost_chain_posDup (s : State) (p : Nat) (typ : Nat) (body : List Byte) : (proxyPost s p typ body).chain.posDup = s.chain.posDup := congrArg (·.posDup) ((proxyPost_keeps s p typ body).plain .chain (by decide) rfl)
@[simp] theorem proxyPost_chain_assigned (s : State) (p : Nat) (typ : Nat) (body : List Byte) : (proxyPost s p typ body).chain.assigned = s.chain.assigned := congrArg (·.assigned) ((proxyPost_keeps s p typ body).plain .chain (by decide) rfl)
@[simp] theorem proxyPost_chain_announceDue (s : State) (p : Nat) (typ : Nat) (body : List Byte) : (proxyPost s p typ body).chain.announceDue = s.chain.announceDue := congrArg (·.announceDue) ((proxyPost_keeps s p typ body).plain .chain (by decide) rfl)
@[simp] theorem proxyPost_chain_causes (s : State) (p : Nat) (typ : Nat) (body : List Byte) : (proxyPost s p typ body).chain.causes = s.chain.causes := congrArg (·.causes) ((proxyPost_keeps s p typ body).plain .chain (by decide) rfl)
@[simp] theorem proxyPost_chain_cut (s : State) (p : Nat) (typ : Nat) (body : List Byte) : (proxyPost s p typ body).chain.cut = s.chain.cut := congrArg (·.cut) ((proxyPost_keeps s p typ body).plain .chain (by decide) rfl)
@[simp] theorem proxyPost_chain_gmPort (s : State) (p : Nat) (typ : Nat) (body : List Byte) : (proxyPost s p typ body).chain.gmPort = s.chain.gmPort := congrArg (·.gmPort) ((proxyPost_keeps s p typ body).plain .chain (by decide) rfl)
@[simp] theorem proxyPost_scl (s : State) (p : Nat) (typ : Nat) (body : List Byte) : (proxyPost s p typ body).scl = s.scl := scl_ext ((proxyPost_keeps s p typ body).plain .scl (by decide) rfl) ((proxyPost_keeps s p typ body).plain .loss (by decide) rfl)
@[simp] theorem proxyPost_sw_table (s : State) (p : Nat) (typ : Nat) (body : List Byte) : (proxyPost s p typ body).sw.table = s.sw.table := congrArg (·.table) ((proxyPost_keeps s p typ body).plain .sw (by decide) rfl)
@[simp] theorem proxyPost_sw_vlans (s : State) (p : Nat) (typ : Nat) (body : List Byte) : (proxyPost s p typ body).sw.vlans = s.sw.vlans := congrArg (·.vlans) ((proxyPost_keeps s p typ body).plain .sw (by decide) rfl)
@[simp] theorem proxyPost_sw_ruleRegs (s : State) (p : Nat) (typ : Nat) (body : List Byte) : (proxyPost s p typ body).sw.ruleRegs = s.sw.ruleRegs := congrArg (·.ruleRegs) ((proxyPost_keeps s p typ body).plain .sw (by decide) rfl)
@[simp] theorem proxyPost_sw_queues (s : State) (p : Nat) (typ : Nat) (body : List Byte) : (proxyPost s p typ body).sw.queues = s.sw.queues := congrArg (·.queues) ((proxyPost_keeps s p typ body).plain .sw (by decide) rfl)
@[simp] theorem proxyPost_sw_credits (s : State) (p : Nat) (typ : Nat) (body : List Byte) : (proxyPost s p typ body).sw.credits = s.sw.credits := congrArg (·.credits) ((proxyPost_keeps s p typ body).plain .sw (by decide) rfl)
@[simp] theorem proxyPost_sw_gates (s : State) (p : Nat) (typ : Nat) (body : List Byte) : (proxyPost s p typ body).sw.gates = s.sw.gates := congrArg (·.gates) ((proxyPost_keeps s p typ body).plain .sw (by decide) rfl)
@[simp] theorem proxyPost_sw_ageBase (s : State) (p : Nat) (typ : Nat) (body : List Byte) : (proxyPost s p typ body).sw.ageBase = s.sw.ageBase := congrArg (·.ageBase) ((proxyPost_keeps s p typ body).plain .sw (by decide) rfl)
@[simp] theorem proxyPost_sw_storms (s : State) (p : Nat) (typ : Nat) (body : List Byte) : (proxyPost s p typ body).sw.storms = s.sw.storms := congrArg (·.storms) ((proxyPost_keeps s p typ body).plain .sw (by decide) rfl)
@[simp] theorem proxyPost_sw_rx (s : State) (p : Nat) (typ : Nat) (body : List Byte) : (proxyPost s p typ body).sw.rx = s.sw.rx := congrArg (·.rx) ((proxyPost_keeps s p typ body).plain .sw (by decide) rfl)
@[simp] theorem proxyPost_sw_tx (s : State) (p : Nat) (typ : Nat) (body : List Byte) : (proxyPost s p typ body).sw.tx = s.sw.tx := congrArg (·.tx) ((proxyPost_keeps s p typ body).plain .sw (by decide) rfl)
@[simp] theorem proxyPost_sw_rxSa (s : State) (p : Nat) (typ : Nat) (body : List Byte) : (proxyPost s p typ body).sw.rxSa = s.sw.rxSa := congrArg (·.rxSa) ((proxyPost_keeps s p typ body).plain .sw (by decide) rfl)
@[simp] theorem proxyPost_mem (s : State) (p : Nat) (typ : Nat) (body : List Byte) : (proxyPost s p typ body).mem = s.mem := (proxyPost_keeps s p typ body).same (by decide) (by decide)
theorem proxyPost_rd (s : State) (p : Nat) (typ : Nat) (body : List Byte) {fx : Field} (hx : fx.lsb < 64) (hc : clearOf [Reg.SW_CNT_VAL, Reg.SW_MSEC_STAT] fx.off = true) :
    (proxyPost s p typ body).rd fx = s.rd fx := (proxyPost_keeps s p typ body).rd (by decide) fx hx (of_clearOf hc)
@[simp] theorem storeFor_pending (s : State) (p : Nat) (kind : Nat) (addr : Nat) (data : List Byte) : (storeFor s p kind addr data).pending = s.pending := (storeFor_keeps s p kind addr data).plain .pending (by decide) rfl
@[simp] theorem storeFor_now (s : State) (p : Nat) (kind : Nat) (addr : Nat) (data : List Byte) : (storeFor s p kind addr data).now = s.now := (storeFor_keeps s p kind addr data).plain .now (by decide) rfl
@[simp] theorem storeFor_freeCtr (s : State) (p : Nat) (kind : Nat) (addr : Nat) (data : List Byte) : (storeFor s p kind addr data).freeCtr = s.freeCtr := (storeFor_keeps s p kind addr data).plain .freeCtr (by decide) rfl
@[simp] theorem storeFor_latches (s : State) (p : Nat) (kind : Nat) (addr : Nat) (data : List Byte) : (storeFor s p kind addr data).latches = s.latches := (storeFor_keeps s p kind addr data).plain .latches (by decide) rfl
@[simp] theorem storeFor_spar (s : State) (p : Nat) (kind : Nat) (addr : Nat) (data : List Byte) : (storeFor s p kind addr data).spar = s.spar := (storeFor_keeps s p kind addr data).plain .spar (by decide) rfl
@[simp] theorem storeFor_dt (s : State) (p : Nat) (kind : Nat) (addr : Nat) (data : List Byte) : (storeFor s p kind addr data).dt = s.dt := (storeFor_keeps s p kind addr data).plain .dt (by decide) rfl
@[simp] theorem storeFor_par (s : State) (p : Nat) (kind : Nat) (addr : Nat) (data : List Byte) : (storeFor s p kind addr data).par = s.par := (storeFor_keeps s p kind addr data).plain .par (by decide) rfl
@[simp] theorem storeFor_evt (s : State) (p : Nat) (kind : Nat) (addr : Nat) (data : List Byte) : (storeFor s p kind addr data).evt = s.evt := (storeFor_keeps s p kind addr data).plain .evt (by decide) rfl
@[simp] theorem storeFor_act (s : State) (p : Nat) (kind : Nat) (addr : Nat) (data : List Byte) : (storeFor s p kind addr data).act = s.act := (storeFor_keeps s p kind addr data).plain .act (by decide) rfl
@[simp] theorem storeFor_chs (s : State) (p : Nat) (kind : Nat) (addr : Nat) (data : List Byte) : (storeFor s p kind addr data).chs = s.chs := (storeFor_keeps s p kind addr data).plain .chs (by decide) rfl
@[simp] theorem storeFor_sns (s : State) (p : Nat) (kind : Nat) (addr : Nat) (data : List Byte) : (storeFor s p kind addr data).sns = s.sns := (storeFor_keeps s p kind addr data).plain .sns (by decide) rfl
@[simp] theorem storeFor_sub (s : State) (p : Nat) (kind : Nat) (addr : Nat) (data : List Byte) : (storeFor s p kind addr data).sub = s.sub := (storeFor_keeps s p kind addr data).plain .sub (by decide) rfl
@[simp] theorem storeFor_brd (s : State) (p : Nat) (kind : Nat) (addr : Nat) (data : List Byte) : (storeFor s p kind addr data).brd = s.brd := (storeFor_keeps s p kind addr data).plain .brd (by decide) rfl
@[simp] theorem storeFor_inf (s : State) (p : Nat) (kind : Nat) (addr : Nat) (data : List Byte) : (storeFor s p kind addr data).inf = s.inf := (storeFor_keeps s p kind addr data).plain .inf (by decide) rfl
@[simp] theorem storeFor_sto (s : State) (p : Nat) (kind : Nat) (addr : Nat) (data : List Byte) : (storeFor s p kind addr data).sto = s.sto := (storeFor_keeps s p kind addr data).plain .sto (by decide) rfl
@[simp] theorem storeFor_sec (s : State) (p : Nat) (kind : Nat) (addr : Nat) (data : List Byte) : (storeFor s p kind addr data).sec = s.sec := (storeFor_keeps s p kind addr data).plain .sec (by decide) rfl
@[simp] theorem storeFor_upd (s : State) (p : Nat) (kind : Nat) (addr : Nat) (data : List Byte) : (storeFor s p kind addr data).upd = s.upd := (storeFor_keeps s p kind addr data).plain .upd (by decide) rfl
@[simp] theorem storeFor_flt (s : State) (p : Nat) (kind : Nat) (addr : Nat) (data : List Byte) : (storeFor s p kind addr data).flt = s.flt := (storeFor_keeps s p kind addr data).plain .flt (by decide) rfl
@[simp] theorem storeFor_pwr (s : State) (p : Nat) (kind : Nat) (addr : Nat) (data : List Byte) : (storeFor s p kind addr data).pwr = s.pwr := pwr_ext ((storeFor_keeps s p kind addr data).plain .pwr (by decide) rfl) ((storeFor_keeps s p kind addr data).plain .owed (by decide) rfl) ((storeFor_keeps s p kind addr data).plain .banks (by decide) rfl)
@[simp] theorem storeFor_rng (s : State) (p : Nat) (kind : Nat) (addr : Nat) (data : List Byte) : (storeFor s p kind addr data).rng = s.rng := rng_ext ((storeFor_keeps s p kind addr data).plain .rng (by decide) rfl) ((storeFor_keeps s p kind addr data).plain .rings (by decide) rfl)
@[simp] theorem storeFor_tly (s : State) (p : Nat) (kind : Nat) (addr : Nat) (data : List Byte) : (storeFor s p kind addr data).tly = s.tly := tly_ext ((storeFor_keeps s p kind addr data).plain .tly (by decide) rfl) ((storeFor_keeps s p kind addr data).plain .queue (by decide) rfl)
@[simp] theorem storeFor_chain_up0 (s : State) (p : Nat) (kind : Nat) (addr : Nat) (data : List Byte) : (storeFor s p kind addr data).chain.up0 = s.chain.up0 := congrArg (·.up0) ((storeFor_keeps s p kind addr data).plain .chain (by decide) rfl)
@[simp] theorem storeFor_chain_up1 (s : State) (p : Nat) (kind : Nat) (addr : Nat) (data : List Byte) : (storeFor s p kind addr data).chain.up1 = s.chain.up1 := congrArg (·.up1) ((storeFor_keeps s p kind addr data).plain .chain (by decide) rfl)
@[simp] theorem storeFor_chain_cruised (s : State) (p : Nat) (kind : Nat) (addr : Nat) (data : List Byte) : (storeFor s p kind addr data).chain.cruised = s.chain.cruised := congrArg (·.cruised) ((storeFor_keeps s p kind addr data).plain .chain (by decide) rfl)
@[simp] theorem storeFor_chain_pendingAddr (s : State) (p : Nat) (kind : Nat) (addr : Nat) (data : List Byte) : (storeFor s p kind addr data).chain.pendingAddr = s.chain.pendingAddr := congrArg (·.pendingAddr) ((storeFor_keeps s p kind addr data).plain .chain (by decide) rfl)
@[simp] theorem storeFor_chain_posDup (s : State) (p : Nat) (kind : Nat) (addr : Nat) (data : List Byte) : (storeFor s p kind addr data).chain.posDup = s.chain.posDup := congrArg (·.posDup) ((storeFor_keeps s p kind addr data).plain .chain (by decide) rfl)
@[simp] theorem storeFor_chain_assigned (s : State) (p : Nat) (kind : Nat) (addr : Nat) (data : List Byte) : (storeFor s p kind addr data).chain.assigned = s.chain.assigned := congrArg (·.assigned) ((storeFor_keeps s p kind addr data).plain .chain (by decide) rfl)
@[simp] theorem storeFor_chain_announceDue (s : State) (p : Nat) (kind : Nat) (addr : Nat) (data : List Byte) : (storeFor s p kind addr data).chain.announceDue = s.chain.announceDue := congrArg (·.announceDue) ((storeFor_keeps s p kind addr data).plain .chain (by decide) rfl)
@[simp] theorem storeFor_chain_causes (s : State) (p : Nat) (kind : Nat) (addr : Nat) (data : List Byte) : (storeFor s p kind addr data).chain.causes = s.chain.causes := congrArg (·.causes) ((storeFor_keeps s p kind addr data).plain .chain (by decide) rfl)
@[simp] theorem storeFor_chain_cut (s : State) (p : Nat) (kind : Nat) (addr : Nat) (data : List Byte) : (storeFor s p kind addr data).chain.cut = s.chain.cut := congrArg (·.cut) ((storeFor_keeps s p kind addr data).plain .chain (by decide) rfl)
@[simp] theorem storeFor_chain_gmPort (s : State) (p : Nat) (kind : Nat) (addr : Nat) (data : List Byte) : (storeFor s p kind addr data).chain.gmPort = s.chain.gmPort := congrArg (·.gmPort) ((storeFor_keeps s p kind addr data).plain .chain (by decide) rfl)
@[simp] theorem storeFor_scl (s : State) (p : Nat) (kind : Nat) (addr : Nat) (data : List Byte) : (storeFor s p kind addr data).scl = s.scl := scl_ext ((storeFor_keeps s p kind addr data).plain .scl (by decide) rfl) ((storeFor_keeps s p kind addr data).plain .loss (by decide) rfl)
@[simp] theorem storeFor_sw_table (s : State) (p : Nat) (kind : Nat) (addr : Nat) (data : List Byte) : (storeFor s p kind addr data).sw.table = s.sw.table := congrArg (·.table) ((storeFor_keeps s p kind addr data).plain .sw (by decide) rfl)
@[simp] theorem storeFor_sw_vlans (s : State) (p : Nat) (kind : Nat) (addr : Nat) (data : List Byte) : (storeFor s p kind addr data).sw.vlans = s.sw.vlans := congrArg (·.vlans) ((storeFor_keeps s p kind addr data).plain .sw (by decide) rfl)
@[simp] theorem storeFor_sw_ruleRegs (s : State) (p : Nat) (kind : Nat) (addr : Nat) (data : List Byte) : (storeFor s p kind addr data).sw.ruleRegs = s.sw.ruleRegs := congrArg (·.ruleRegs) ((storeFor_keeps s p kind addr data).plain .sw (by decide) rfl)
@[simp] theorem storeFor_sw_queues (s : State) (p : Nat) (kind : Nat) (addr : Nat) (data : List Byte) : (storeFor s p kind addr data).sw.queues = s.sw.queues := congrArg (·.queues) ((storeFor_keeps s p kind addr data).plain .sw (by decide) rfl)
@[simp] theorem storeFor_sw_credits (s : State) (p : Nat) (kind : Nat) (addr : Nat) (data : List Byte) : (storeFor s p kind addr data).sw.credits = s.sw.credits := congrArg (·.credits) ((storeFor_keeps s p kind addr data).plain .sw (by decide) rfl)
@[simp] theorem storeFor_sw_gates (s : State) (p : Nat) (kind : Nat) (addr : Nat) (data : List Byte) : (storeFor s p kind addr data).sw.gates = s.sw.gates := congrArg (·.gates) ((storeFor_keeps s p kind addr data).plain .sw (by decide) rfl)
@[simp] theorem storeFor_sw_ageBase (s : State) (p : Nat) (kind : Nat) (addr : Nat) (data : List Byte) : (storeFor s p kind addr data).sw.ageBase = s.sw.ageBase := congrArg (·.ageBase) ((storeFor_keeps s p kind addr data).plain .sw (by decide) rfl)
@[simp] theorem storeFor_sw_storms (s : State) (p : Nat) (kind : Nat) (addr : Nat) (data : List Byte) : (storeFor s p kind addr data).sw.storms = s.sw.storms := congrArg (·.storms) ((storeFor_keeps s p kind addr data).plain .sw (by decide) rfl)
@[simp] theorem storeFor_sw_rx (s : State) (p : Nat) (kind : Nat) (addr : Nat) (data : List Byte) : (storeFor s p kind addr data).sw.rx = s.sw.rx := congrArg (·.rx) ((storeFor_keeps s p kind addr data).plain .sw (by decide) rfl)
@[simp] theorem storeFor_sw_tx (s : State) (p : Nat) (kind : Nat) (addr : Nat) (data : List Byte) : (storeFor s p kind addr data).sw.tx = s.sw.tx := congrArg (·.tx) ((storeFor_keeps s p kind addr data).plain .sw (by decide) rfl)
@[simp] theorem storeFor_sw_rxSa (s : State) (p : Nat) (kind : Nat) (addr : Nat) (data : List Byte) : (storeFor s p kind addr data).sw.rxSa = s.sw.rxSa := congrArg (·.rxSa) ((storeFor_keeps s p kind addr data).plain .sw (by decide) rfl)
theorem storeFor_rd (s : State) (p : Nat) (kind : Nat) (addr : Nat) (data : List Byte) {fx : Field} (hx : fx.lsb < 64) (hc : clearOf [Reg.SW_CNT_VAL, Reg.SW_MSEC_STAT] fx.off = true) :
    (storeFor s p kind addr data).rd fx = s.rd fx := (storeFor_keeps s p kind addr data).rd (by decide) fx hx (of_clearOf hc)
@[simp] theorem storeData_pending (s : State) (p : Nat) (addr : Nat) (data : List Byte) : (storeData s p addr data).pending = s.pending := (storeData_keeps s p addr data).plain .pending (by decide) rfl
@[simp] theorem storeData_now (s : State) (p : Nat) (addr : Nat) (data : List Byte) : (storeData s p addr data).now = s.now := (storeData_keeps s p addr data).plain .now (by decide) rfl
@[simp] theorem storeData_freeCtr (s : State) (p : Nat) (addr : Nat) (data : List Byte) : (storeData s p addr data).freeCtr = s.freeCtr := (storeData_keeps s p addr data).plain .freeCtr (by decide) rfl
@[simp] theorem storeData_latches (s : State) (p : Nat) (addr : Nat) (data : List Byte) : (storeData s p addr data).latches = s.latches := (storeData_keeps s p addr data).plain .latches (by decide) rfl
@[simp] theorem storeData_spar (s : State) (p : Nat) (addr : Nat) (data : List Byte) : (storeData s p addr data).spar = s.spar := (storeData_keeps s p addr data).plain .spar (by decide) rfl
@[simp] theorem storeData_dt (s : State) (p : Nat) (addr : Nat) (data : List Byte) : (storeData s p addr data).dt = s.dt := (storeData_keeps s p addr data).plain .dt (by decide) rfl
@[simp] theorem storeData_par (s : State) (p : Nat) (addr : Nat) (data : List Byte) : (storeData s p addr data).par = s.par := (storeData_keeps s p addr data).plain .par (by decide) rfl
@[simp] theorem storeData_evt (s : State) (p : Nat) (addr : Nat) (data : List Byte) : (storeData s p addr data).evt = s.evt := (storeData_keeps s p addr data).plain .evt (by decide) rfl
@[simp] theorem storeData_act (s : State) (p : Nat) (addr : Nat) (data : List Byte) : (storeData s p addr data).act = s.act := (storeData_keeps s p addr data).plain .act (by decide) rfl
@[simp] theorem storeData_chs (s : State) (p : Nat) (addr : Nat) (data : List Byte) : (storeData s p addr data).chs = s.chs := (storeData_keeps s p addr data).plain .chs (by decide) rfl
@[simp] theorem storeData_sns (s : State) (p : Nat) (addr : Nat) (data : List Byte) : (storeData s p addr data).sns = s.sns := (storeData_keeps s p addr data).plain .sns (by decide) rfl
@[simp] theorem storeData_sub (s : State) (p : Nat) (addr : Nat) (data : List Byte) : (storeData s p addr data).sub = s.sub := (storeData_keeps s p addr data).plain .sub (by decide) rfl
@[simp] theorem storeData_brd (s : State) (p : Nat) (addr : Nat) (data : List Byte) : (storeData s p addr data).brd = s.brd := (storeData_keeps s p addr data).plain .brd (by decide) rfl
@[simp] theorem storeData_inf (s : State) (p : Nat) (addr : Nat) (data : List Byte) : (storeData s p addr data).inf = s.inf := (storeData_keeps s p addr data).plain .inf (by decide) rfl
@[simp] theorem storeData_sto (s : State) (p : Nat) (addr : Nat) (data : List Byte) : (storeData s p addr data).sto = s.sto := (storeData_keeps s p addr data).plain .sto (by decide) rfl
@[simp] theorem storeData_sec (s : State) (p : Nat) (addr : Nat) (data : List Byte) : (storeData s p addr data).sec = s.sec := (storeData_keeps s p addr data).plain .sec (by decide) rfl
@[simp] theorem storeData_upd (s : State) (p : Nat) (addr : Nat) (data : List Byte) : (storeData s p addr data).upd = s.upd := (storeData_keeps s p addr data).plain .upd (by decide) rfl
@[simp] theorem storeData_flt (s : State) (p : Nat) (addr : Nat) (data : List Byte) : (storeData s p addr data).flt = s.flt := (storeData_keeps s p addr data).plain .flt (by decide) rfl
@[simp] theorem storeData_pwr_ps (s : State) (p : Nat) (addr : Nat) (data : List Byte) : (storeData s p addr data).pwr.ps = s.pwr.ps := congrArg (·.ps) ((storeData_keeps s p addr data).plain .pwr (by decide) rfl)
@[simp] theorem storeData_pwr_cd (s : State) (p : Nat) (addr : Nat) (data : List Byte) : (storeData s p addr data).pwr.cd = s.pwr.cd := congrArg (·.cd) ((storeData_keeps s p addr data).plain .pwr (by decide) rfl)
@[simp] theorem storeData_pwr_ldUp (s : State) (p : Nat) (addr : Nat) (data : List Byte) : (storeData s p addr data).pwr.ldUp = s.pwr.ldUp := congrArg (·.ldUp) ((storeData_keeps s p addr data).plain .pwr (by decide) rfl)
@[simp] theorem storeData_pwr_armed (s : State) (p : Nat) (addr : Nat) (data : List Byte) : (storeData s p addr data).pwr.armed = s.pwr.armed := congrArg (·.armed) ((storeData_keeps s p addr data).plain .pwr (by decide) rfl)
@[simp] theorem storeData_pwr_seq (s : State) (p : Nat) (addr : Nat) (data : List Byte) : (storeData s p addr data).pwr.seq = s.pwr.seq := congrArg (·.seq) ((storeData_keeps s p addr data).plain .pwr (by decide) rfl)
@[simp] theorem storeData_pwr_entry (s : State) (p : Nat) (addr : Nat) (data : List Byte) : (storeData s p addr data).pwr.entry = s.pwr.entry := congrArg (·.entry) ((storeData_keeps s p addr data).plain .pwr (by decide) rfl)
@[simp] theorem storeData_pwr_wakeAfter (s : State) (p : Nat) (addr : Nat) (data : List Byte) : (storeData s p addr data).pwr.wakeAfter = s.pwr.wakeAfter := congrArg (·.wakeAfter) ((storeData_keeps s p addr data).plain .pwr (by decide) rfl)
@[simp] theorem storeData_pwr_wakeAfterAt (s : State) (p : Nat) (addr : Nat) (data : List Byte) : (storeData s p addr data).pwr.wakeAfterAt = s.pwr.wakeAfterAt := congrArg (·.wakeAfterAt) ((storeData_keeps s p addr data).plain .pwr (by decide) rfl)
@[simp] theorem storeData_pwr_woke (s : State) (p : Nat) (addr : Nat) (data : List Byte) : (storeData s p addr data).pwr.woke = s.pwr.woke := congrArg (·.woke) ((storeData_keeps s p addr data).plain .pwr (by decide) rfl)
@[simp] theorem storeData_pwr_linkDue (s : State) (p : Nat) (addr : Nat) (data : List Byte) : (storeData s p addr data).pwr.linkDue = s.pwr.linkDue := congrArg (·.linkDue) ((storeData_keeps s p addr data).plain .pwr (by decide) rfl)
@[simp] theorem storeData_pwr_cores (s : State) (p : Nat) (addr : Nat) (data : List Byte) : (storeData s p addr data).pwr.cores = s.pwr.cores := congrArg (·.cores) ((storeData_keeps s p addr data).plain .pwr (by decide) rfl)
@[simp] theorem storeData_pwr_shadow (s : State) (p : Nat) (addr : Nat) (data : List Byte) : (storeData s p addr data).pwr.shadow = s.pwr.shadow := congrArg (·.shadow) ((storeData_keeps s p addr data).plain .pwr (by decide) rfl)
@[simp] theorem storeData_pwr_entryAt (s : State) (p : Nat) (addr : Nat) (data : List Byte) : (storeData s p addr data).pwr.entryAt = s.pwr.entryAt := congrArg (·.entryAt) ((storeData_keeps s p addr data).plain .pwr (by decide) rfl)
@[simp] theorem storeData_pwr_idleEntry (s : State) (p : Nat) (addr : Nat) (data : List Byte) : (storeData s p addr data).pwr.idleEntry = s.pwr.idleEntry := congrArg (·.idleEntry) ((storeData_keeps s p addr data).plain .pwr (by decide) rfl)
@[simp] theorem storeData_pwr_wfiAt (s : State) (p : Nat) (addr : Nat) (data : List Byte) : (storeData s p addr data).pwr.wfiAt = s.pwr.wfiAt := congrArg (·.wfiAt) ((storeData_keeps s p addr data).plain .pwr (by decide) rfl)
@[simp] theorem storeData_pwr_sleeps (s : State) (p : Nat) (addr : Nat) (data : List Byte) : (storeData s p addr data).pwr.sleeps = s.pwr.sleeps := congrArg (·.sleeps) ((storeData_keeps s p addr data).plain .pwr (by decide) rfl)
@[simp] theorem storeData_pwr_wakeBy (s : State) (p : Nat) (addr : Nat) (data : List Byte) : (storeData s p addr data).pwr.wakeBy = s.pwr.wakeBy := congrArg (·.wakeBy) ((storeData_keeps s p addr data).plain .pwr (by decide) rfl)
@[simp] theorem storeData_pwr_bootDone (s : State) (p : Nat) (addr : Nat) (data : List Byte) : (storeData s p addr data).pwr.bootDone = s.pwr.bootDone := congrArg (·.bootDone) ((storeData_keeps s p addr data).plain .pwr (by decide) rfl)
@[simp] theorem storeData_pwr_bootEntry (s : State) (p : Nat) (addr : Nat) (data : List Byte) : (storeData s p addr data).pwr.bootEntry = s.pwr.bootEntry := congrArg (·.bootEntry) ((storeData_keeps s p addr data).plain .pwr (by decide) rfl)
@[simp] theorem storeData_pwr_kept (s : State) (p : Nat) (addr : Nat) (data : List Byte) : (storeData s p addr data).pwr.kept = s.pwr.kept := congrArg (·.kept) ((storeData_keeps s p addr data).plain .pwr (by decide) rfl)
@[simp] theorem storeData_pwr_pinHeld (s : State) (p : Nat) (addr : Nat) (data : List Byte) : (storeData s p addr data).pwr.pinHeld = s.pwr.pinHeld := congrArg (·.pinHeld) ((storeData_keeps s p addr data).plain .pwr (by decide) rfl)
@[simp] theorem storeData_pwr_overFeeds (s : State) (p : Nat) (addr : Nat) (data : List Byte) : (storeData s p addr data).pwr.overFeeds = s.pwr.overFeeds := congrArg (·.overFeeds) ((storeData_keeps s p addr data).plain .pwr (by decide) rfl)
@[simp] theorem storeData_pwr_owed (s : State) (p : Nat) (addr : Nat) (data : List Byte) : (storeData s p addr data).pwr.owed = s.pwr.owed := ((storeData_keeps s p addr data).plain .owed (by decide) rfl)
@[simp] theorem storeData_rng (s : State) (p : Nat) (addr : Nat) (data : List Byte) : (storeData s p addr data).rng = s.rng := rng_ext ((storeData_keeps s p addr data).plain .rng (by decide) rfl) ((storeData_keeps s p addr data).plain .rings (by decide) rfl)
@[simp] theorem storeData_tly (s : State) (p : Nat) (addr : Nat) (data : List Byte) : (storeData s p addr data).tly = s.tly := tly_ext ((storeData_keeps s p addr data).plain .tly (by decide) rfl) ((storeData_keeps s p addr data).plain .queue (by decide) rfl)
@[simp] theorem storeData_chain_up0 (s : State) (p : Nat) (addr : Nat) (data : List Byte) : (storeData s p addr data).chain.up0 = s.chain.up0 := congrArg (·.up0) ((storeData_keeps s p addr data).plain .chain (by decide) rfl)
@[simp] theorem storeData_chain_up1 (s : State) (p : Nat) (addr : Nat) (data : List Byte) : (storeData s p addr data).chain.up1 = s.chain.up1 := congrArg (·.up1) ((storeData_keeps s p addr data).plain .chain (by decide) rfl)
@[simp] theorem storeData_chain_cruised (s : State) (p : Nat) (addr : Nat) (data : List Byte) : (storeData s p addr data).chain.cruised = s.chain.cruised := congrArg (·.cruised) ((storeData_keeps s p addr data).plain .chain (by decide) rfl)
@[simp] theorem storeData_chain_pendingAddr (s : State) (p : Nat) (addr : Nat) (data : List Byte) : (storeData s p addr data).chain.pendingAddr = s.chain.pendingAddr := congrArg (·.pendingAddr) ((storeData_keeps s p addr data).plain .chain (by decide) rfl)
@[simp] theorem storeData_chain_posDup (s : State) (p : Nat) (addr : Nat) (data : List Byte) : (storeData s p addr data).chain.posDup = s.chain.posDup := congrArg (·.posDup) ((storeData_keeps s p addr data).plain .chain (by decide) rfl)
@[simp] theorem storeData_chain_assigned (s : State) (p : Nat) (addr : Nat) (data : List Byte) : (storeData s p addr data).chain.assigned = s.chain.assigned := congrArg (·.assigned) ((storeData_keeps s p addr data).plain .chain (by decide) rfl)
@[simp] theorem storeData_chain_announceDue (s : State) (p : Nat) (addr : Nat) (data : List Byte) : (storeData s p addr data).chain.announceDue = s.chain.announceDue := congrArg (·.announceDue) ((storeData_keeps s p addr data).plain .chain (by decide) rfl)
@[simp] theorem storeData_chain_causes (s : State) (p : Nat) (addr : Nat) (data : List Byte) : (storeData s p addr data).chain.causes = s.chain.causes := congrArg (·.causes) ((storeData_keeps s p addr data).plain .chain (by decide) rfl)
@[simp] theorem storeData_chain_cut (s : State) (p : Nat) (addr : Nat) (data : List Byte) : (storeData s p addr data).chain.cut = s.chain.cut := congrArg (·.cut) ((storeData_keeps s p addr data).plain .chain (by decide) rfl)
@[simp] theorem storeData_chain_gmPort (s : State) (p : Nat) (addr : Nat) (data : List Byte) : (storeData s p addr data).chain.gmPort = s.chain.gmPort := congrArg (·.gmPort) ((storeData_keeps s p addr data).plain .chain (by decide) rfl)
@[simp] theorem storeData_scl (s : State) (p : Nat) (addr : Nat) (data : List Byte) : (storeData s p addr data).scl = s.scl := scl_ext ((storeData_keeps s p addr data).plain .scl (by decide) rfl) ((storeData_keeps s p addr data).plain .loss (by decide) rfl)
@[simp] theorem storeData_sw_table (s : State) (p : Nat) (addr : Nat) (data : List Byte) : (storeData s p addr data).sw.table = s.sw.table := congrArg (·.table) ((storeData_keeps s p addr data).plain .sw (by decide) rfl)
@[simp] theorem storeData_sw_vlans (s : State) (p : Nat) (addr : Nat) (data : List Byte) : (storeData s p addr data).sw.vlans = s.sw.vlans := congrArg (·.vlans) ((storeData_keeps s p addr data).plain .sw (by decide) rfl)
@[simp] theorem storeData_sw_ruleRegs (s : State) (p : Nat) (addr : Nat) (data : List Byte) : (storeData s p addr data).sw.ruleRegs = s.sw.ruleRegs := congrArg (·.ruleRegs) ((storeData_keeps s p addr data).plain .sw (by decide) rfl)
@[simp] theorem storeData_sw_queues (s : State) (p : Nat) (addr : Nat) (data : List Byte) : (storeData s p addr data).sw.queues = s.sw.queues := congrArg (·.queues) ((storeData_keeps s p addr data).plain .sw (by decide) rfl)
@[simp] theorem storeData_sw_credits (s : State) (p : Nat) (addr : Nat) (data : List Byte) : (storeData s p addr data).sw.credits = s.sw.credits := congrArg (·.credits) ((storeData_keeps s p addr data).plain .sw (by decide) rfl)
@[simp] theorem storeData_sw_gates (s : State) (p : Nat) (addr : Nat) (data : List Byte) : (storeData s p addr data).sw.gates = s.sw.gates := congrArg (·.gates) ((storeData_keeps s p addr data).plain .sw (by decide) rfl)
@[simp] theorem storeData_sw_ageBase (s : State) (p : Nat) (addr : Nat) (data : List Byte) : (storeData s p addr data).sw.ageBase = s.sw.ageBase := congrArg (·.ageBase) ((storeData_keeps s p addr data).plain .sw (by decide) rfl)
@[simp] theorem storeData_sw_storms (s : State) (p : Nat) (addr : Nat) (data : List Byte) : (storeData s p addr data).sw.storms = s.sw.storms := congrArg (·.storms) ((storeData_keeps s p addr data).plain .sw (by decide) rfl)
@[simp] theorem storeData_sw_rx (s : State) (p : Nat) (addr : Nat) (data : List Byte) : (storeData s p addr data).sw.rx = s.sw.rx := congrArg (·.rx) ((storeData_keeps s p addr data).plain .sw (by decide) rfl)
@[simp] theorem storeData_sw_tx (s : State) (p : Nat) (addr : Nat) (data : List Byte) : (storeData s p addr data).sw.tx = s.sw.tx := congrArg (·.tx) ((storeData_keeps s p addr data).plain .sw (by decide) rfl)
@[simp] theorem storeData_sw_rxSa (s : State) (p : Nat) (addr : Nat) (data : List Byte) : (storeData s p addr data).sw.rxSa = s.sw.rxSa := congrArg (·.rxSa) ((storeData_keeps s p addr data).plain .sw (by decide) rfl)
theorem storeData_rd (s : State) (p : Nat) (addr : Nat) (data : List Byte) {fx : Field} (hx : fx.lsb < 64) (hc : clearOf [Reg.SW_CNT_VAL, Reg.SW_MSEC_STAT] fx.off = true) :
    (storeData s p addr data).rd fx = s.rd fx := (storeData_keeps s p addr data).rd (by decide) fx hx (of_clearOf hc)
@[simp] theorem showStreams_pending (s : State) : (showStreams s).pending = s.pending := (showStreams_keeps s).plain .pending (by decide) rfl
@[simp] theorem showStreams_now (s : State) : (showStreams s).now = s.now := (showStreams_keeps s).plain .now (by decide) rfl
@[simp] theorem showStreams_freeCtr (s : State) : (showStreams s).freeCtr = s.freeCtr := (showStreams_keeps s).plain .freeCtr (by decide) rfl
@[simp] theorem showStreams_latches (s : State) : (showStreams s).latches = s.latches := (showStreams_keeps s).plain .latches (by decide) rfl
@[simp] theorem showStreams_spar (s : State) : (showStreams s).spar = s.spar := (showStreams_keeps s).plain .spar (by decide) rfl
@[simp] theorem showStreams_dt (s : State) : (showStreams s).dt = s.dt := (showStreams_keeps s).plain .dt (by decide) rfl
@[simp] theorem showStreams_par (s : State) : (showStreams s).par = s.par := (showStreams_keeps s).plain .par (by decide) rfl
@[simp] theorem showStreams_evt (s : State) : (showStreams s).evt = s.evt := (showStreams_keeps s).plain .evt (by decide) rfl
@[simp] theorem showStreams_act (s : State) : (showStreams s).act = s.act := (showStreams_keeps s).plain .act (by decide) rfl
@[simp] theorem showStreams_chs (s : State) : (showStreams s).chs = s.chs := (showStreams_keeps s).plain .chs (by decide) rfl
@[simp] theorem showStreams_sns (s : State) : (showStreams s).sns = s.sns := (showStreams_keeps s).plain .sns (by decide) rfl
@[simp] theorem showStreams_sub (s : State) : (showStreams s).sub = s.sub := (showStreams_keeps s).plain .sub (by decide) rfl
@[simp] theorem showStreams_brd (s : State) : (showStreams s).brd = s.brd := (showStreams_keeps s).plain .brd (by decide) rfl
@[simp] theorem showStreams_inf (s : State) : (showStreams s).inf = s.inf := (showStreams_keeps s).plain .inf (by decide) rfl
@[simp] theorem showStreams_sto (s : State) : (showStreams s).sto = s.sto := (showStreams_keeps s).plain .sto (by decide) rfl
@[simp] theorem showStreams_sec (s : State) : (showStreams s).sec = s.sec := (showStreams_keeps s).plain .sec (by decide) rfl
@[simp] theorem showStreams_upd (s : State) : (showStreams s).upd = s.upd := (showStreams_keeps s).plain .upd (by decide) rfl
@[simp] theorem showStreams_flt (s : State) : (showStreams s).flt = s.flt := (showStreams_keeps s).plain .flt (by decide) rfl
@[simp] theorem showStreams_out (s : State) : (showStreams s).out = s.out := (showStreams_keeps s).plain .out (by decide) rfl
@[simp] theorem showStreams_pwr (s : State) : (showStreams s).pwr = s.pwr := pwr_ext ((showStreams_keeps s).plain .pwr (by decide) rfl) ((showStreams_keeps s).plain .owed (by decide) rfl) ((showStreams_keeps s).plain .banks (by decide) rfl)
@[simp] theorem showStreams_rng (s : State) : (showStreams s).rng = s.rng := rng_ext ((showStreams_keeps s).plain .rng (by decide) rfl) ((showStreams_keeps s).plain .rings (by decide) rfl)
@[simp] theorem showStreams_tly (s : State) : (showStreams s).tly = s.tly := tly_ext ((showStreams_keeps s).plain .tly (by decide) rfl) ((showStreams_keeps s).plain .queue (by decide) rfl)
@[simp] theorem showStreams_chain (s : State) : (showStreams s).chain = s.chain := chain_ext ((showStreams_keeps s).plain .chain (by decide) rfl) ((showStreams_keeps s).plain .proxies (by decide) rfl)
@[simp] theorem showStreams_scl (s : State) : (showStreams s).scl = s.scl := scl_ext ((showStreams_keeps s).plain .scl (by decide) rfl) ((showStreams_keeps s).plain .loss (by decide) rfl)
@[simp] theorem showStreams_sw (s : State) : (showStreams s).sw = s.sw := sw_ext ((showStreams_keeps s).plain .sw (by decide) rfl) ((showStreams_keeps s).plain .wire (by decide) rfl)
@[simp] theorem showStreams_mem (s : State) : (showStreams s).mem = s.mem := (showStreams_keeps s).same (by decide) (by decide)
theorem showStreams_rd (s : State) {fx : Field} (hx : fx.lsb < 64) (hc : clearOf [Reg.SIN_SCHED, Reg.SIN_STREAMS] fx.off = true) :
    (showStreams s).rd fx = s.rd fx := (showStreams_keeps s).rd (by decide) fx hx (of_clearOf hc)
@[simp] theorem showHeld_pending (s : State) : (showHeld s).pending = s.pending := (showHeld_keeps s).plain .pending (by decide) rfl
@[simp] theorem showHeld_now (s : State) : (showHeld s).now = s.now := (showHeld_keeps s).plain .now (by decide) rfl
@[simp] theorem showHeld_freeCtr (s : State) : (showHeld s).freeCtr = s.freeCtr := (showHeld_keeps s).plain .freeCtr (by decide) rfl
@[simp] theorem showHeld_latches (s : State) : (showHeld s).latches = s.latches := (showHeld_keeps s).plain .latches (by decide) rfl
@[simp] theorem showHeld_spar (s : State) : (showHeld s).spar = s.spar := (showHeld_keeps s).plain .spar (by decide) rfl
@[simp] theorem showHeld_dt (s : State) : (showHeld s).dt = s.dt := (showHeld_keeps s).plain .dt (by decide) rfl
@[simp] theorem showHeld_par (s : State) : (showHeld s).par = s.par := (showHeld_keeps s).plain .par (by decide) rfl
@[simp] theorem showHeld_evt (s : State) : (showHeld s).evt = s.evt := (showHeld_keeps s).plain .evt (by decide) rfl
@[simp] theorem showHeld_act (s : State) : (showHeld s).act = s.act := (showHeld_keeps s).plain .act (by decide) rfl
@[simp] theorem showHeld_chs (s : State) : (showHeld s).chs = s.chs := (showHeld_keeps s).plain .chs (by decide) rfl
@[simp] theorem showHeld_sns (s : State) : (showHeld s).sns = s.sns := (showHeld_keeps s).plain .sns (by decide) rfl
@[simp] theorem showHeld_sub (s : State) : (showHeld s).sub = s.sub := (showHeld_keeps s).plain .sub (by decide) rfl
@[simp] theorem showHeld_brd (s : State) : (showHeld s).brd = s.brd := (showHeld_keeps s).plain .brd (by decide) rfl
@[simp] theorem showHeld_inf (s : State) : (showHeld s).inf = s.inf := (showHeld_keeps s).plain .inf (by decide) rfl
@[simp] theorem showHeld_sto (s : State) : (showHeld s).sto = s.sto := (showHeld_keeps s).plain .sto (by decide) rfl
@[simp] theorem showHeld_sec (s : State) : (showHeld s).sec = s.sec := (showHeld_keeps s).plain .sec (by decide) rfl
@[simp] theorem showHeld_upd (s : State) : (showHeld s).upd = s.upd := (showHeld_keeps s).plain .upd (by decide) rfl
@[simp] theorem showHeld_flt (s : State) : (showHeld s).flt = s.flt := (showHeld_keeps s).plain .flt (by decide) rfl
@[simp] theorem showHeld_out (s : State) : (showHeld s).out = s.out := (showHeld_keeps s).plain .out (by decide) rfl
@[simp] theorem showHeld_pwr (s : State) : (showHeld s).pwr = s.pwr := pwr_ext ((showHeld_keeps s).plain .pwr (by decide) rfl) ((showHeld_keeps s).plain .owed (by decide) rfl) ((showHeld_keeps s).plain .banks (by decide) rfl)
@[simp] theorem showHeld_rng (s : State) : (showHeld s).rng = s.rng := rng_ext ((showHeld_keeps s).plain .rng (by decide) rfl) ((showHeld_keeps s).plain .rings (by decide) rfl)
@[simp] theorem showHeld_tly (s : State) : (showHeld s).tly = s.tly := tly_ext ((showHeld_keeps s).plain .tly (by decide) rfl) ((showHeld_keeps s).plain .queue (by decide) rfl)
@[simp] theorem showHeld_chain (s : State) : (showHeld s).chain = s.chain := chain_ext ((showHeld_keeps s).plain .chain (by decide) rfl) ((showHeld_keeps s).plain .proxies (by decide) rfl)
@[simp] theorem showHeld_scl (s : State) : (showHeld s).scl = s.scl := scl_ext ((showHeld_keeps s).plain .scl (by decide) rfl) ((showHeld_keeps s).plain .loss (by decide) rfl)
@[simp] theorem showHeld_sw (s : State) : (showHeld s).sw = s.sw := sw_ext ((showHeld_keeps s).plain .sw (by decide) rfl) ((showHeld_keeps s).plain .wire (by decide) rfl)
@[simp] theorem showHeld_mem (s : State) : (showHeld s).mem = s.mem := (showHeld_keeps s).same (by decide) (by decide)
theorem showHeld_rd (s : State) {fx : Field} (hx : fx.lsb < 64) (hc : clearOf [Reg.ACT_SAFE_STATUS] fx.off = true) :
    (showHeld s).rd fx = s.rd fx := (showHeld_keeps s).rd (by decide) fx hx (of_clearOf hc)
@[simp] theorem showBuses_pending (s : State) : (showBuses s).pending = s.pending := (showBuses_keeps s).plain .pending (by decide) rfl
@[simp] theorem showBuses_now (s : State) : (showBuses s).now = s.now := (showBuses_keeps s).plain .now (by decide) rfl
@[simp] theorem showBuses_freeCtr (s : State) : (showBuses s).freeCtr = s.freeCtr := (showBuses_keeps s).plain .freeCtr (by decide) rfl
@[simp] theorem showBuses_latches (s : State) : (showBuses s).latches = s.latches := (showBuses_keeps s).plain .latches (by decide) rfl
@[simp] theorem showBuses_spar (s : State) : (showBuses s).spar = s.spar := (showBuses_keeps s).plain .spar (by decide) rfl
@[simp] theorem showBuses_dt (s : State) : (showBuses s).dt = s.dt := (showBuses_keeps s).plain .dt (by decide) rfl
@[simp] theorem showBuses_par (s : State) : (showBuses s).par = s.par := (showBuses_keeps s).plain .par (by decide) rfl
@[simp] theorem showBuses_evt (s : State) : (showBuses s).evt = s.evt := (showBuses_keeps s).plain .evt (by decide) rfl
@[simp] theorem showBuses_act (s : State) : (showBuses s).act = s.act := (showBuses_keeps s).plain .act (by decide) rfl
@[simp] theorem showBuses_chs (s : State) : (showBuses s).chs = s.chs := (showBuses_keeps s).plain .chs (by decide) rfl
@[simp] theorem showBuses_sns (s : State) : (showBuses s).sns = s.sns := (showBuses_keeps s).plain .sns (by decide) rfl
@[simp] theorem showBuses_brd (s : State) : (showBuses s).brd = s.brd := (showBuses_keeps s).plain .brd (by decide) rfl
@[simp] theorem showBuses_inf (s : State) : (showBuses s).inf = s.inf := (showBuses_keeps s).plain .inf (by decide) rfl
@[simp] theorem showBuses_sto (s : State) : (showBuses s).sto = s.sto := (showBuses_keeps s).plain .sto (by decide) rfl
@[simp] theorem showBuses_sec (s : State) : (showBuses s).sec = s.sec := (showBuses_keeps s).plain .sec (by decide) rfl
@[simp] theorem showBuses_upd (s : State) : (showBuses s).upd = s.upd := (showBuses_keeps s).plain .upd (by decide) rfl
@[simp] theorem showBuses_flt (s : State) : (showBuses s).flt = s.flt := (showBuses_keeps s).plain .flt (by decide) rfl
@[simp] theorem showBuses_out (s : State) : (showBuses s).out = s.out := (showBuses_keeps s).plain .out (by decide) rfl
@[simp] theorem showBuses_pwr (s : State) : (showBuses s).pwr = s.pwr := pwr_ext ((showBuses_keeps s).plain .pwr (by decide) rfl) ((showBuses_keeps s).plain .owed (by decide) rfl) ((showBuses_keeps s).plain .banks (by decide) rfl)
@[simp] theorem showBuses_rng (s : State) : (showBuses s).rng = s.rng := rng_ext ((showBuses_keeps s).plain .rng (by decide) rfl) ((showBuses_keeps s).plain .rings (by decide) rfl)
@[simp] theorem showBuses_tly (s : State) : (showBuses s).tly = s.tly := tly_ext ((showBuses_keeps s).plain .tly (by decide) rfl) ((showBuses_keeps s).plain .queue (by decide) rfl)
@[simp] theorem showBuses_chain (s : State) : (showBuses s).chain = s.chain := chain_ext ((showBuses_keeps s).plain .chain (by decide) rfl) ((showBuses_keeps s).plain .proxies (by decide) rfl)
@[simp] theorem showBuses_scl (s : State) : (showBuses s).scl = s.scl := scl_ext ((showBuses_keeps s).plain .scl (by decide) rfl) ((showBuses_keeps s).plain .loss (by decide) rfl)
@[simp] theorem showBuses_sw (s : State) : (showBuses s).sw = s.sw := sw_ext ((showBuses_keeps s).plain .sw (by decide) rfl) ((showBuses_keeps s).plain .wire (by decide) rfl)
@[simp] theorem showBuses_mem (s : State) : (showBuses s).mem = s.mem := (showBuses_keeps s).same (by decide) (by decide)
theorem showBuses_rd (s : State) {fx : Field} (hx : fx.lsb < 64) (hc : clearOf [Reg.SUB_CAN_STAT, Reg.SUB_LIN_STAT] fx.off = true) :
    (showBuses s).rd fx = s.rd fx := (showBuses_keeps s).rd (by decide) fx hx (of_clearOf hc)
@[simp] theorem showNs_pending (s : State) : (showNs s).pending = s.pending := (showNs_keeps s).plain .pending (by decide) rfl
@[simp] theorem showNs_now (s : State) : (showNs s).now = s.now := (showNs_keeps s).plain .now (by decide) rfl
@[simp] theorem showNs_freeCtr (s : State) : (showNs s).freeCtr = s.freeCtr := (showNs_keeps s).plain .freeCtr (by decide) rfl
@[simp] theorem showNs_latches (s : State) : (showNs s).latches = s.latches := (showNs_keeps s).plain .latches (by decide) rfl
@[simp] theorem showNs_spar (s : State) : (showNs s).spar = s.spar := (showNs_keeps s).plain .spar (by decide) rfl
@[simp] theorem showNs_dt (s : State) : (showNs s).dt = s.dt := (showNs_keeps s).plain .dt (by decide) rfl
@[simp] theorem showNs_par (s : State) : (showNs s).par = s.par := (showNs_keeps s).plain .par (by decide) rfl
@[simp] theorem showNs_evt (s : State) : (showNs s).evt = s.evt := (showNs_keeps s).plain .evt (by decide) rfl
@[simp] theorem showNs_act (s : State) : (showNs s).act = s.act := (showNs_keeps s).plain .act (by decide) rfl
@[simp] theorem showNs_chs (s : State) : (showNs s).chs = s.chs := (showNs_keeps s).plain .chs (by decide) rfl
@[simp] theorem showNs_sns (s : State) : (showNs s).sns = s.sns := (showNs_keeps s).plain .sns (by decide) rfl
@[simp] theorem showNs_sub (s : State) : (showNs s).sub = s.sub := (showNs_keeps s).plain .sub (by decide) rfl
@[simp] theorem showNs_brd (s : State) : (showNs s).brd = s.brd := (showNs_keeps s).plain .brd (by decide) rfl
@[simp] theorem showNs_inf (s : State) : (showNs s).inf = s.inf := (showNs_keeps s).plain .inf (by decide) rfl
@[simp] theorem showNs_sto (s : State) : (showNs s).sto = s.sto := (showNs_keeps s).plain .sto (by decide) rfl
@[simp] theorem showNs_sec (s : State) : (showNs s).sec = s.sec := (showNs_keeps s).plain .sec (by decide) rfl
@[simp] theorem showNs_upd (s : State) : (showNs s).upd = s.upd := (showNs_keeps s).plain .upd (by decide) rfl
@[simp] theorem showNs_flt (s : State) : (showNs s).flt = s.flt := (showNs_keeps s).plain .flt (by decide) rfl
@[simp] theorem showNs_out (s : State) : (showNs s).out = s.out := (showNs_keeps s).plain .out (by decide) rfl
@[simp] theorem showNs_pwr (s : State) : (showNs s).pwr = s.pwr := pwr_ext ((showNs_keeps s).plain .pwr (by decide) rfl) ((showNs_keeps s).plain .owed (by decide) rfl) ((showNs_keeps s).plain .banks (by decide) rfl)
@[simp] theorem showNs_rng (s : State) : (showNs s).rng = s.rng := rng_ext ((showNs_keeps s).plain .rng (by decide) rfl) ((showNs_keeps s).plain .rings (by decide) rfl)
@[simp] theorem showNs_tly (s : State) : (showNs s).tly = s.tly := tly_ext ((showNs_keeps s).plain .tly (by decide) rfl) ((showNs_keeps s).plain .queue (by decide) rfl)
@[simp] theorem showNs_chain (s : State) : (showNs s).chain = s.chain := chain_ext ((showNs_keeps s).plain .chain (by decide) rfl) ((showNs_keeps s).plain .proxies (by decide) rfl)
@[simp] theorem showNs_scl (s : State) : (showNs s).scl = s.scl := scl_ext ((showNs_keeps s).plain .scl (by decide) rfl) ((showNs_keeps s).plain .loss (by decide) rfl)
@[simp] theorem showNs_sw (s : State) : (showNs s).sw = s.sw := sw_ext ((showNs_keeps s).plain .sw (by decide) rfl) ((showNs_keeps s).plain .wire (by decide) rfl)
@[simp] theorem showNs_mem (s : State) : (showNs s).mem = s.mem := (showNs_keeps s).same (by decide) (by decide)
theorem showNs_rd (s : State) {fx : Field} (hx : fx.lsb < 64) (hc : clearOf [Reg.STO_NS_INFO, Reg.STO_NS_BLOCKS, Reg.STO_FREE, Reg.STO_NS_WEAR] fx.off = true) :
    (showNs s).rd fx = s.rd fx := (showNs_keeps s).rd (by decide) fx hx (of_clearOf hc)
@[simp] theorem showCh_pending (s : State) (c : Chan) : (showCh s c).pending = s.pending := (showCh_keeps s c).plain .pending (by decide) rfl
@[simp] theorem showCh_now (s : State) (c : Chan) : (showCh s c).now = s.now := (showCh_keeps s c).plain .now (by decide) rfl
@[simp] theorem showCh_freeCtr (s : State) (c : Chan) : (showCh s c).freeCtr = s.freeCtr := (showCh_keeps s c).plain .freeCtr (by decide) rfl
@[simp] theorem showCh_latches (s : State) (c : Chan) : (showCh s c).latches = s.latches := (showCh_keeps s c).plain .latches (by decide) rfl
@[simp] theorem showCh_spar (s : State) (c : Chan) : (showCh s c).spar = s.spar := (showCh_keeps s c).plain .spar (by decide) rfl
@[simp] theorem showCh_dt (s : State) (c : Chan) : (showCh s c).dt = s.dt := (showCh_keeps s c).plain .dt (by decide) rfl
@[simp] theorem showCh_par (s : State) (c : Chan) : (showCh s c).par = s.par := (showCh_keeps s c).plain .par (by decide) rfl
@[simp] theorem showCh_evt (s : State) (c : Chan) : (showCh s c).evt = s.evt := (showCh_keeps s c).plain .evt (by decide) rfl
@[simp] theorem showCh_act (s : State) (c : Chan) : (showCh s c).act = s.act := (showCh_keeps s c).plain .act (by decide) rfl
@[simp] theorem showCh_chs (s : State) (c : Chan) : (showCh s c).chs = s.chs := (showCh_keeps s c).plain .chs (by decide) rfl
@[simp] theorem showCh_sns (s : State) (c : Chan) : (showCh s c).sns = s.sns := (showCh_keeps s c).plain .sns (by decide) rfl
@[simp] theorem showCh_sub (s : State) (c : Chan) : (showCh s c).sub = s.sub := (showCh_keeps s c).plain .sub (by decide) rfl
@[simp] theorem showCh_brd (s : State) (c : Chan) : (showCh s c).brd = s.brd := (showCh_keeps s c).plain .brd (by decide) rfl
@[simp] theorem showCh_inf (s : State) (c : Chan) : (showCh s c).inf = s.inf := (showCh_keeps s c).plain .inf (by decide) rfl
@[simp] theorem showCh_sto (s : State) (c : Chan) : (showCh s c).sto = s.sto := (showCh_keeps s c).plain .sto (by decide) rfl
@[simp] theorem showCh_sec (s : State) (c : Chan) : (showCh s c).sec = s.sec := (showCh_keeps s c).plain .sec (by decide) rfl
@[simp] theorem showCh_upd (s : State) (c : Chan) : (showCh s c).upd = s.upd := (showCh_keeps s c).plain .upd (by decide) rfl
@[simp] theorem showCh_flt (s : State) (c : Chan) : (showCh s c).flt = s.flt := (showCh_keeps s c).plain .flt (by decide) rfl
@[simp] theorem showCh_out (s : State) (c : Chan) : (showCh s c).out = s.out := (showCh_keeps s c).plain .out (by decide) rfl
@[simp] theorem showCh_pwr (s : State) (c : Chan) : (showCh s c).pwr = s.pwr := pwr_ext ((showCh_keeps s c).plain .pwr (by decide) rfl) ((showCh_keeps s c).plain .owed (by decide) rfl) ((showCh_keeps s c).plain .banks (by decide) rfl)
@[simp] theorem showCh_rng (s : State) (c : Chan) : (showCh s c).rng = s.rng := rng_ext ((showCh_keeps s c).plain .rng (by decide) rfl) ((showCh_keeps s c).plain .rings (by decide) rfl)
@[simp] theorem showCh_tly (s : State) (c : Chan) : (showCh s c).tly = s.tly := tly_ext ((showCh_keeps s c).plain .tly (by decide) rfl) ((showCh_keeps s c).plain .queue (by decide) rfl)
@[simp] theorem showCh_chain (s : State) (c : Chan) : (showCh s c).chain = s.chain := chain_ext ((showCh_keeps s c).plain .chain (by decide) rfl) ((showCh_keeps s c).plain .proxies (by decide) rfl)
@[simp] theorem showCh_scl (s : State) (c : Chan) : (showCh s c).scl = s.scl := scl_ext ((showCh_keeps s c).plain .scl (by decide) rfl) ((showCh_keeps s c).plain .loss (by decide) rfl)
@[simp] theorem showCh_sw (s : State) (c : Chan) : (showCh s c).sw = s.sw := sw_ext ((showCh_keeps s c).plain .sw (by decide) rfl) ((showCh_keeps s c).plain .wire (by decide) rfl)
@[simp] theorem showCh_mem (s : State) (c : Chan) : (showCh s c).mem = s.mem := (showCh_keeps s c).same (by decide) (by decide)
theorem showCh_rd (s : State) (c : Chan) {fx : Field} (hx : fx.lsb < 64) (hc : clearOf [Reg.HS_STATE, Reg.HB_STATE, Reg.SV_STATE, Reg.LED_STATE, Reg.FIO_CAUSE] fx.off = true) :
    (showCh s c).rd fx = s.rd fx := (showCh_keeps s c).rd (by decide) fx hx (of_clearOf hc)
@[simp] theorem showCells_pending (s : State) : (showCells s).pending = s.pending := (showCells_keeps s).plain .pending (by decide) rfl
@[simp] theorem showCells_now (s : State) : (showCells s).now = s.now := (showCells_keeps s).plain .now (by decide) rfl
@[simp] theorem showCells_freeCtr (s : State) : (showCells s).freeCtr = s.freeCtr := (showCells_keeps s).plain .freeCtr (by decide) rfl
@[simp] theorem showCells_latches (s : State) : (showCells s).latches = s.latches := (showCells_keeps s).plain .latches (by decide) rfl
@[simp] theorem showCells_spar (s : State) : (showCells s).spar = s.spar := (showCells_keeps s).plain .spar (by decide) rfl
@[simp] theorem showCells_dt (s : State) : (showCells s).dt = s.dt := (showCells_keeps s).plain .dt (by decide) rfl
@[simp] theorem showCells_par (s : State) : (showCells s).par = s.par := (showCells_keeps s).plain .par (by decide) rfl
@[simp] theorem showCells_evt (s : State) : (showCells s).evt = s.evt := (showCells_keeps s).plain .evt (by decide) rfl
@[simp] theorem showCells_act (s : State) : (showCells s).act = s.act := (showCells_keeps s).plain .act (by decide) rfl
@[simp] theorem showCells_chs (s : State) : (showCells s).chs = s.chs := (showCells_keeps s).plain .chs (by decide) rfl
@[simp] theorem showCells_sns (s : State) : (showCells s).sns = s.sns := (showCells_keeps s).plain .sns (by decide) rfl
@[simp] theorem showCells_sub (s : State) : (showCells s).sub = s.sub := (showCells_keeps s).plain .sub (by decide) rfl
@[simp] theorem showCells_brd (s : State) : (showCells s).brd = s.brd := (showCells_keeps s).plain .brd (by decide) rfl
@[simp] theorem showCells_inf (s : State) : (showCells s).inf = s.inf := (showCells_keeps s).plain .inf (by decide) rfl
@[simp] theorem showCells_sto (s : State) : (showCells s).sto = s.sto := (showCells_keeps s).plain .sto (by decide) rfl
@[simp] theorem showCells_sec (s : State) : (showCells s).sec = s.sec := (showCells_keeps s).plain .sec (by decide) rfl
@[simp] theorem showCells_upd (s : State) : (showCells s).upd = s.upd := (showCells_keeps s).plain .upd (by decide) rfl
@[simp] theorem showCells_flt (s : State) : (showCells s).flt = s.flt := (showCells_keeps s).plain .flt (by decide) rfl
@[simp] theorem showCells_out (s : State) : (showCells s).out = s.out := (showCells_keeps s).plain .out (by decide) rfl
@[simp] theorem showCells_pwr (s : State) : (showCells s).pwr = s.pwr := pwr_ext ((showCells_keeps s).plain .pwr (by decide) rfl) ((showCells_keeps s).plain .owed (by decide) rfl) ((showCells_keeps s).plain .banks (by decide) rfl)
@[simp] theorem showCells_rng (s : State) : (showCells s).rng = s.rng := rng_ext ((showCells_keeps s).plain .rng (by decide) rfl) ((showCells_keeps s).plain .rings (by decide) rfl)
@[simp] theorem showCells_tly (s : State) : (showCells s).tly = s.tly := tly_ext ((showCells_keeps s).plain .tly (by decide) rfl) ((showCells_keeps s).plain .queue (by decide) rfl)
@[simp] theorem showCells_chain (s : State) : (showCells s).chain = s.chain := chain_ext ((showCells_keeps s).plain .chain (by decide) rfl) ((showCells_keeps s).plain .proxies (by decide) rfl)
@[simp] theorem showCells_scl (s : State) : (showCells s).scl = s.scl := scl_ext ((showCells_keeps s).plain .scl (by decide) rfl) ((showCells_keeps s).plain .loss (by decide) rfl)
@[simp] theorem showCells_sw (s : State) : (showCells s).sw = s.sw := sw_ext ((showCells_keeps s).plain .sw (by decide) rfl) ((showCells_keeps s).plain .wire (by decide) rfl)
@[simp] theorem showCells_mem (s : State) : (showCells s).mem = s.mem := (showCells_keeps s).same (by decide) (by decide)
theorem showCells_rd (s : State) {fx : Field} (hx : fx.lsb < 64) (hc : clearOf [Reg.SW_BUF_STATUS] fx.off = true) :
    (showCells s).rd fx = s.rd fx := (showCells_keeps s).rd (by decide) fx hx (of_clearOf hc)
@[simp] theorem countCause_pending (s : State) (cause : Nat) : (countCause s cause).pending = s.pending := (countCause_keeps s cause).plain .pending (by decide) rfl
@[simp] theorem countCause_now (s : State) (cause : Nat) : (countCause s cause).now = s.now := (countCause_keeps s cause).plain .now (by decide) rfl
@[simp] theorem countCause_freeCtr (s : State) (cause : Nat) : (countCause s cause).freeCtr = s.freeCtr := (countCause_keeps s cause).plain .freeCtr (by decide) rfl
@[simp] theorem countCause_latches (s : State) (cause : Nat) : (countCause s cause).latches = s.latches := (countCause_keeps s cause).plain .latches (by decide) rfl
@[simp] theorem countCause_spar (s : State) (cause : Nat) : (countCause s cause).spar = s.spar := (countCause_keeps s cause).plain .spar (by decide) rfl
@[simp] theorem countCause_dt (s : State) (cause : Nat) : (countCause s cause).dt = s.dt := (countCause_keeps s cause).plain .dt (by decide) rfl
@[simp] theorem countCause_par (s : State) (cause : Nat) : (countCause s cause).par = s.par := (countCause_keeps s cause).plain .par (by decide) rfl
@[simp] theorem countCause_evt (s : State) (cause : Nat) : (countCause s cause).evt = s.evt := (countCause_keeps s cause).plain .evt (by decide) rfl
@[simp] theorem countCause_act (s : State) (cause : Nat) : (countCause s cause).act = s.act := (countCause_keeps s cause).plain .act (by decide) rfl
@[simp] theorem countCause_chs (s : State) (cause : Nat) : (countCause s cause).chs = s.chs := (countCause_keeps s cause).plain .chs (by decide) rfl
@[simp] theorem countCause_sns (s : State) (cause : Nat) : (countCause s cause).sns = s.sns := (countCause_keeps s cause).plain .sns (by decide) rfl
@[simp] theorem countCause_sub (s : State) (cause : Nat) : (countCause s cause).sub = s.sub := (countCause_keeps s cause).plain .sub (by decide) rfl
@[simp] theorem countCause_brd (s : State) (cause : Nat) : (countCause s cause).brd = s.brd := (countCause_keeps s cause).plain .brd (by decide) rfl
@[simp] theorem countCause_inf (s : State) (cause : Nat) : (countCause s cause).inf = s.inf := (countCause_keeps s cause).plain .inf (by decide) rfl
@[simp] theorem countCause_sto (s : State) (cause : Nat) : (countCause s cause).sto = s.sto := (countCause_keeps s cause).plain .sto (by decide) rfl
@[simp] theorem countCause_sec (s : State) (cause : Nat) : (countCause s cause).sec = s.sec := (countCause_keeps s cause).plain .sec (by decide) rfl
@[simp] theorem countCause_upd (s : State) (cause : Nat) : (countCause s cause).upd = s.upd := (countCause_keeps s cause).plain .upd (by decide) rfl
@[simp] theorem countCause_flt (s : State) (cause : Nat) : (countCause s cause).flt = s.flt := (countCause_keeps s cause).plain .flt (by decide) rfl
@[simp] theorem countCause_out (s : State) (cause : Nat) : (countCause s cause).out = s.out := (countCause_keeps s cause).plain .out (by decide) rfl
@[simp] theorem countCause_pwr (s : State) (cause : Nat) : (countCause s cause).pwr = s.pwr := pwr_ext ((countCause_keeps s cause).plain .pwr (by decide) rfl) ((countCause_keeps s cause).plain .owed (by decide) rfl) ((countCause_keeps s cause).plain .banks (by decide) rfl)
@[simp] theorem countCause_rng (s : State) (cause : Nat) : (countCause s cause).rng = s.rng := rng_ext ((countCause_keeps s cause).plain .rng (by decide) rfl) ((countCause_keeps s cause).plain .rings (by decide) rfl)
@[simp] theorem countCause_tly (s : State) (cause : Nat) : (countCause s cause).tly = s.tly := tly_ext ((countCause_keeps s cause).plain .tly (by decide) rfl) ((countCause_keeps s cause).plain .queue (by decide) rfl)
@[simp] theorem countCause_chain (s : State) (cause : Nat) : (countCause s cause).chain = s.chain := chain_ext ((countCause_keeps s cause).plain .chain (by decide) rfl) ((countCause_keeps s cause).plain .proxies (by decide) rfl)
@[simp] theorem countCause_scl (s : State) (cause : Nat) : (countCause s cause).scl = s.scl := scl_ext ((countCause_keeps s cause).plain .scl (by decide) rfl) ((countCause_keeps s cause).plain .loss (by decide) rfl)
@[simp] theorem countCause_sw (s : State) (cause : Nat) : (countCause s cause).sw = s.sw := sw_ext ((countCause_keeps s cause).plain .sw (by decide) rfl) ((countCause_keeps s cause).plain .wire (by decide) rfl)
@[simp] theorem countCause_mem (s : State) (cause : Nat) : (countCause s cause).mem = s.mem := (countCause_keeps s cause).same (by decide) (by decide)
theorem countCause_rd (s : State) (cause : Nat) {fx : Field} (hx : fx.lsb < 64) (hc : clearOf [Reg.BRD_CNT0, Reg.BRD_CNT1, Reg.BRD_CNT2, Reg.BRD_CNT3] fx.off = true) :
    (countCause s cause).rd fx = s.rd fx := (countCause_keeps s cause).rd (by decide) fx hx (of_clearOf hc)
@[simp] theorem brandFault_pending (s : State) (point : Nat) (cause : Nat) (owner : Nat) (stream : Nat) (seq : Nat) : (brandFault s point cause owner stream seq).pending = s.pending := (brandFault_keeps s point cause owner stream seq).plain .pending (by decide) rfl
@[simp] theorem brandFault_now (s : State) (point : Nat) (cause : Nat) (owner : Nat) (stream : Nat) (seq : Nat) : (brandFault s point cause owner stream seq).now = s.now := (brandFault_keeps s point cause owner stream seq).plain .now (by decide) rfl
@[simp] theorem brandFault_freeCtr (s : State) (point : Nat) (cause : Nat) (owner : Nat) (stream : Nat) (seq : Nat) : (brandFault s point cause owner stream seq).freeCtr = s.freeCtr := (brandFault_keeps s point cause owner stream seq).plain .freeCtr (by decide) rfl
@[simp] theorem brandFault_latches (s : State) (point : Nat) (cause : Nat) (owner : Nat) (stream : Nat) (seq : Nat) : (brandFault s point cause owner stream seq).latches = s.latches := (brandFault_keeps s point cause owner stream seq).plain .latches (by decide) rfl
@[simp] theorem brandFault_spar (s : State) (point : Nat) (cause : Nat) (owner : Nat) (stream : Nat) (seq : Nat) : (brandFault s point cause owner stream seq).spar = s.spar := (brandFault_keeps s point cause owner stream seq).plain .spar (by decide) rfl
@[simp] theorem brandFault_dt (s : State) (point : Nat) (cause : Nat) (owner : Nat) (stream : Nat) (seq : Nat) : (brandFault s point cause owner stream seq).dt = s.dt := (brandFault_keeps s point cause owner stream seq).plain .dt (by decide) rfl
@[simp] theorem brandFault_par (s : State) (point : Nat) (cause : Nat) (owner : Nat) (stream : Nat) (seq : Nat) : (brandFault s point cause owner stream seq).par = s.par := (brandFault_keeps s point cause owner stream seq).plain .par (by decide) rfl
@[simp] theorem brandFault_act (s : State) (point : Nat) (cause : Nat) (owner : Nat) (stream : Nat) (seq : Nat) : (brandFault s point cause owner stream seq).act = s.act := (brandFault_keeps s point cause owner stream seq).plain .act (by decide) rfl
@[simp] theorem brandFault_chs (s : State) (point : Nat) (cause : Nat) (owner : Nat) (stream : Nat) (seq : Nat) : (brandFault s point cause owner stream seq).chs = s.chs := (brandFault_keeps s point cause owner stream seq).plain .chs (by decide) rfl
@[simp] theorem brandFault_sns (s : State) (point : Nat) (cause : Nat) (owner : Nat) (stream : Nat) (seq : Nat) : (brandFault s point cause owner stream seq).sns = s.sns := (brandFault_keeps s point cause owner stream seq).plain .sns (by decide) rfl
@[simp] theorem brandFault_sub (s : State) (point : Nat) (cause : Nat) (owner : Nat) (stream : Nat) (seq : Nat) : (brandFault s point cause owner stream seq).sub = s.sub := (brandFault_keeps s point cause owner stream seq).plain .sub (by decide) rfl
@[simp] theorem brandFault_brd (s : State) (point : Nat) (cause : Nat) (owner : Nat) (stream : Nat) (seq : Nat) : (brandFault s point cause owner stream seq).brd = s.brd := (brandFault_keeps s point cause owner stream seq).plain .brd (by decide) rfl
@[simp] theorem brandFault_inf (s : State) (point : Nat) (cause : Nat) (owner : Nat) (stream : Nat) (seq : Nat) : (brandFault s point cause owner stream seq).inf = s.inf := (brandFault_keeps s point cause owner stream seq).plain .inf (by decide) rfl
@[simp] theorem brandFault_sto (s : State) (point : Nat) (cause : Nat) (owner : Nat) (stream : Nat) (seq : Nat) : (brandFault s point cause owner stream seq).sto = s.sto := (brandFault_keeps s point cause owner stream seq).plain .sto (by decide) rfl
@[simp] theorem brandFault_sec (s : State) (point : Nat) (cause : Nat) (owner : Nat) (stream : Nat) (seq : Nat) : (brandFault s point cause owner stream seq).sec = s.sec := (brandFault_keeps s point cause owner stream seq).plain .sec (by decide) rfl
@[simp] theorem brandFault_upd (s : State) (point : Nat) (cause : Nat) (owner : Nat) (stream : Nat) (seq : Nat) : (brandFault s point cause owner stream seq).upd = s.upd := (brandFault_keeps s point cause owner stream seq).plain .upd (by decide) rfl
@[simp] theorem brandFault_flt (s : State) (point : Nat) (cause : Nat) (owner : Nat) (stream : Nat) (seq : Nat) : (brandFault s point cause owner stream seq).flt = s.flt := (brandFault_keeps s point cause owner stream seq).plain .flt (by decide) rfl
@[simp] theorem brandFault_pwr_ps (s : State) (point : Nat) (cause : Nat) (owner : Nat) (stream : Nat) (seq : Nat) : (brandFault s point cause owner stream seq).pwr.ps = s.pwr.ps := congrArg (·.ps) ((brandFault_keeps s point cause owner stream seq).plain .pwr (by decide) rfl)
@[simp] theorem brandFault_pwr_cd (s : State) (point : Nat) (cause : Nat) (owner : Nat) (stream : Nat) (seq : Nat) : (brandFault s point cause owner stream seq).pwr.cd = s.pwr.cd := congrArg (·.cd) ((brandFault_keeps s point cause owner stream seq).plain .pwr (by decide) rfl)
@[simp] theorem brandFault_pwr_ldUp (s : State) (point : Nat) (cause : Nat) (owner : Nat) (stream : Nat) (seq : Nat) : (brandFault s point cause owner stream seq).pwr.ldUp = s.pwr.ldUp := congrArg (·.ldUp) ((brandFault_keeps s point cause owner stream seq).plain .pwr (by decide) rfl)
@[simp] theorem brandFault_pwr_armed (s : State) (point : Nat) (cause : Nat) (owner : Nat) (stream : Nat) (seq : Nat) : (brandFault s point cause owner stream seq).pwr.armed = s.pwr.armed := congrArg (·.armed) ((brandFault_keeps s point cause owner stream seq).plain .pwr (by decide) rfl)
@[simp] theorem brandFault_pwr_seq (s : State) (point : Nat) (cause : Nat) (owner : Nat) (stream : Nat) (seq : Nat) : (brandFault s point cause owner stream seq).pwr.seq = s.pwr.seq := congrArg (·.seq) ((brandFault_keeps s point cause owner stream seq).plain .pwr (by decide) rfl)
@[simp] theorem brandFault_pwr_entry (s : State) (point : Nat) (cause : Nat) (owner : Nat) (stream : Nat) (seq : Nat) : (brandFault s point cause owner stream seq).pwr.entry = s.pwr.entry := congrArg (·.entry) ((brandFault_keeps s point cause owner stream seq).plain .pwr (by decide) rfl)
@[simp] theorem brandFault_pwr_wakeAfter (s : State) (point : Nat) (cause : Nat) (owner : Nat) (stream : Nat) (seq : Nat) : (brandFault s point cause owner stream seq).pwr.wakeAfter = s.pwr.wakeAfter := congrArg (·.wakeAfter) ((brandFault_keeps s point cause owner stream seq).plain .pwr (by decide) rfl)
@[simp] theorem brandFault_pwr_wakeAfterAt (s : State) (point : Nat) (cause : Nat) (owner : Nat) (stream : Nat) (seq : Nat) : (brandFault s point cause owner stream seq).pwr.wakeAfterAt = s.pwr.wakeAfterAt := congrArg (·.wakeAfterAt) ((brandFault_keeps s point cause owner stream seq).plain .pwr (by decide) rfl)
@[simp] theorem brandFault_pwr_woke (s : State) (point : Nat) (cause : Nat) (owner : Nat) (stream : Nat) (seq : Nat) : (brandFault s point cause owner stream seq).pwr.woke = s.pwr.woke := congrArg (·.woke) ((brandFault_keeps s point cause owner stream seq).plain .pwr (by decide) rfl)
@[simp] theorem brandFault_pwr_linkDue (s : State) (point : Nat) (cause : Nat) (owner : Nat) (stream : Nat) (seq : Nat) : (brandFault s point cause owner stream seq).pwr.linkDue = s.pwr.linkDue := congrArg (·.linkDue) ((brandFault_keeps s point cause owner stream seq).plain .pwr (by decide) rfl)
@[simp] theorem brandFault_pwr_cores (s : State) (point : Nat) (cause : Nat) (owner : Nat) (stream : Nat) (seq : Nat) : (brandFault s point cause owner stream seq).pwr.cores = s.pwr.cores := congrArg (·.cores) ((brandFault_keeps s point cause owner stream seq).plain .pwr (by decide) rfl)
@[simp] theorem brandFault_pwr_shadow (s : State) (point : Nat) (cause : Nat) (owner : Nat) (stream : Nat) (seq : Nat) : (brandFault s point cause owner stream seq).pwr.shadow = s.pwr.shadow := congrArg (·.shadow) ((brandFault_keeps s point cause owner stream seq).plain .pwr (by decide) rfl)
@[simp] theorem brandFault_pwr_entryAt (s : State) (point : Nat) (cause : Nat) (owner : Nat) (stream : Nat) (seq : Nat) : (brandFault s point cause owner stream seq).pwr.entryAt = s.pwr.entryAt := congrArg (·.entryAt) ((brandFault_keeps s point cause owner stream seq).plain .pwr (by decide) rfl)
@[simp] theorem brandFault_pwr_idleEntry (s : State) (point : Nat) (cause : Nat) (owner : Nat) (stream : Nat) (seq : Nat) : (brandFault s point cause owner stream seq).pwr.idleEntry = s.pwr.idleEntry := congrArg (·.idleEntry) ((brandFault_keeps s point cause owner stream seq).plain .pwr (by decide) rfl)
@[simp] theorem brandFault_pwr_wfiAt (s : State) (point : Nat) (cause : Nat) (owner : Nat) (stream : Nat) (seq : Nat) : (brandFault s point cause owner stream seq).pwr.wfiAt = s.pwr.wfiAt := congrArg (·.wfiAt) ((brandFault_keeps s point cause owner stream seq).plain .pwr (by decide) rfl)
@[simp] theorem brandFault_pwr_sleeps (s : State) (point : Nat) (cause : Nat) (owner : Nat) (stream : Nat) (seq : Nat) : (brandFault s point cause owner stream seq).pwr.sleeps = s.pwr.sleeps := congrArg (·.sleeps) ((brandFault_keeps s point cause owner stream seq).plain .pwr (by decide) rfl)
@[simp] theorem brandFault_pwr_wakeBy (s : State) (point : Nat) (cause : Nat) (owner : Nat) (stream : Nat) (seq : Nat) : (brandFault s point cause owner stream seq).pwr.wakeBy = s.pwr.wakeBy := congrArg (·.wakeBy) ((brandFault_keeps s point cause owner stream seq).plain .pwr (by decide) rfl)
@[simp] theorem brandFault_pwr_bootDone (s : State) (point : Nat) (cause : Nat) (owner : Nat) (stream : Nat) (seq : Nat) : (brandFault s point cause owner stream seq).pwr.bootDone = s.pwr.bootDone := congrArg (·.bootDone) ((brandFault_keeps s point cause owner stream seq).plain .pwr (by decide) rfl)
@[simp] theorem brandFault_pwr_bootEntry (s : State) (point : Nat) (cause : Nat) (owner : Nat) (stream : Nat) (seq : Nat) : (brandFault s point cause owner stream seq).pwr.bootEntry = s.pwr.bootEntry := congrArg (·.bootEntry) ((brandFault_keeps s point cause owner stream seq).plain .pwr (by decide) rfl)
@[simp] theorem brandFault_pwr_kept (s : State) (point : Nat) (cause : Nat) (owner : Nat) (stream : Nat) (seq : Nat) : (brandFault s point cause owner stream seq).pwr.kept = s.pwr.kept := congrArg (·.kept) ((brandFault_keeps s point cause owner stream seq).plain .pwr (by decide) rfl)
@[simp] theorem brandFault_pwr_pinHeld (s : State) (point : Nat) (cause : Nat) (owner : Nat) (stream : Nat) (seq : Nat) : (brandFault s point cause owner stream seq).pwr.pinHeld = s.pwr.pinHeld := congrArg (·.pinHeld) ((brandFault_keeps s point cause owner stream seq).plain .pwr (by decide) rfl)
@[simp] theorem brandFault_pwr_overFeeds (s : State) (point : Nat) (cause : Nat) (owner : Nat) (stream : Nat) (seq : Nat) : (brandFault s point cause owner stream seq).pwr.overFeeds = s.pwr.overFeeds := congrArg (·.overFeeds) ((brandFault_keeps s point cause owner stream seq).plain .pwr (by decide) rfl)
@[simp] theorem brandFault_pwr_unzeroed (s : State) (point : Nat) (cause : Nat) (owner : Nat) (stream : Nat) (seq : Nat) : (brandFault s point cause owner stream seq).pwr.unzeroed = s.pwr.unzeroed := ((brandFault_keeps s point cause owner stream seq).plain .banks (by decide) rfl)
@[simp] theorem brandFault_rng_shadows (s : State) (point : Nat) (cause : Nat) (owner : Nat) (stream : Nat) (seq : Nat) : (brandFault s point cause owner stream seq).rng.shadows = s.rng.shadows := congrArg (·.shadows) ((brandFault_keeps s point cause owner stream seq).plain .rng (by decide) rfl)
@[simp] theorem brandFault_rng_work (s : State) (point : Nat) (cause : Nat) (owner : Nat) (stream : Nat) (seq : Nat) : (brandFault s point cause owner stream seq).rng.work = s.rng.work := congrArg (·.work) ((brandFault_keeps s point cause owner stream seq).plain .rng (by decide) rfl)
@[simp] theorem brandFault_rng_stalled (s : State) (point : Nat) (cause : Nat) (owner : Nat) (stream : Nat) (seq : Nat) : (brandFault s point cause owner stream seq).rng.stalled = s.rng.stalled := congrArg (·.stalled) ((brandFault_keeps s point cause owner stream seq).plain .rng (by decide) rfl)
@[simp] theorem brandFault_rng_bells (s : State) (point : Nat) (cause : Nat) (owner : Nat) (stream : Nat) (seq : Nat) : (brandFault s point cause owner stream seq).rng.bells = s.rng.bells := congrArg (·.bells) ((brandFault_keeps s point cause owner stream seq).plain .rng (by decide) rfl)
@[simp] theorem brandFault_rng_deficit (s : State) (point : Nat) (cause : Nat) (owner : Nat) (stream : Nat) (seq : Nat) : (brandFault s point cause owner stream seq).rng.deficit = s.rng.deficit := congrArg (·.deficit) ((brandFault_keeps s point cause owner stream seq).plain .rng (by decide) rfl)
@[simp] theorem brandFault_rng_drrAt (s : State) (point : Nat) (cause : Nat) (owner : Nat) (stream : Nat) (seq : Nat) : (brandFault s point cause owner stream seq).rng.drrAt = s.rng.drrAt := congrArg (·.drrAt) ((brandFault_keeps s point cause owner stream seq).plain .rng (by decide) rfl)
@[simp] theorem brandFault_rng_turns (s : State) (point : Nat) (cause : Nat) (owner : Nat) (stream : Nat) (seq : Nat) : (brandFault s point cause owner stream seq).rng.turns = s.rng.turns := congrArg (·.turns) ((brandFault_keeps s point cause owner stream seq).plain .rng (by decide) rfl)
@[simp] theorem brandFault_rng_busy (s : State) (point : Nat) (cause : Nat) (owner : Nat) (stream : Nat) (seq : Nat) : (brandFault s point cause owner stream seq).rng.busy = s.rng.busy := congrArg (·.busy) ((brandFault_keeps s point cause owner stream seq).plain .rng (by decide) rfl)
@[simp] theorem brandFault_rng_heldReset (s : State) (point : Nat) (cause : Nat) (owner : Nat) (stream : Nat) (seq : Nat) : (brandFault s point cause owner stream seq).rng.heldReset = s.rng.heldReset := congrArg (·.heldReset) ((brandFault_keeps s point cause owner stream seq).plain .rng (by decide) rfl)
@[simp] theorem brandFault_rng_spent (s : State) (point : Nat) (cause : Nat) (owner : Nat) (stream : Nat) (seq : Nat) : (brandFault s point cause owner stream seq).rng.spent = s.rng.spent := congrArg (·.spent) ((brandFault_keeps s point cause owner stream seq).plain .rng (by decide) rfl)
@[simp] theorem brandFault_tly_ring (s : State) (point : Nat) (cause : Nat) (owner : Nat) (stream : Nat) (seq : Nat) : (brandFault s point cause owner stream seq).tly.ring = s.tly.ring := congrArg (·.ring) ((brandFault_keeps s point cause owner stream seq).plain .tly (by decide) rfl)
@[simp] theorem brandFault_tly_first (s : State) (point : Nat) (cause : Nat) (owner : Nat) (stream : Nat) (seq : Nat) : (brandFault s point cause owner stream seq).tly.first = s.tly.first := congrArg (·.first) ((brandFault_keeps s point cause owner stream seq).plain .tly (by decide) rfl)
@[simp] theorem brandFault_tly_lastMac (s : State) (point : Nat) (cause : Nat) (owner : Nat) (stream : Nat) (seq : Nat) : (brandFault s point cause owner stream seq).tly.lastMac = s.tly.lastMac := congrArg (·.lastMac) ((brandFault_keeps s point cause owner stream seq).plain .tly (by decide) rfl)
@[simp] theorem brandFault_tly_starts (s : State) (point : Nat) (cause : Nat) (owner : Nat) (stream : Nat) (seq : Nat) : (brandFault s point cause owner stream seq).tly.starts = s.tly.starts := congrArg (·.starts) ((brandFault_keeps s point cause owner stream seq).plain .tly (by decide) rfl)
@[simp] theorem brandFault_tly_lastClear (s : State) (point : Nat) (cause : Nat) (owner : Nat) (stream : Nat) (seq : Nat) : (brandFault s point cause owner stream seq).tly.lastClear = s.tly.lastClear := congrArg (·.lastClear) ((brandFault_keeps s point cause owner stream seq).plain .tly (by decide) rfl)
@[simp] theorem brandFault_tly_unreadRaised (s : State) (point : Nat) (cause : Nat) (owner : Nat) (stream : Nat) (seq : Nat) : (brandFault s point cause owner stream seq).tly.unreadRaised = s.tly.unreadRaised := congrArg (·.unreadRaised) ((brandFault_keeps s point cause owner stream seq).plain .tly (by decide) rfl)
@[simp] theorem brandFault_tly_fullRaised (s : State) (point : Nat) (cause : Nat) (owner : Nat) (stream : Nat) (seq : Nat) : (brandFault s point cause owner stream seq).tly.fullRaised = s.tly.fullRaised := congrArg (·.fullRaised) ((brandFault_keeps s point cause owner stream seq).plain .tly (by decide) rfl)
@[simp] theorem brandFault_chain_up0 (s : State) (point : Nat) (cause : Nat) (owner : Nat) (stream : Nat) (seq : Nat) : (brandFault s point cause owner stream seq).chain.up0 = s.chain.up0 := congrArg (·.up0) ((brandFault_keeps s point cause owner stream seq).plain .chain (by decide) rfl)
@[simp] theorem brandFault_chain_up1 (s : State) (point : Nat) (cause : Nat) (owner : Nat) (stream : Nat) (seq : Nat) : (brandFault s point cause owner stream seq).chain.up1 = s.chain.up1 := congrArg (·.up1) ((brandFault_keeps s point cause owner stream seq).plain .chain (by decide) rfl)
@[simp] theorem brandFault_chain_cruised (s : State) (point : Nat) (cause : Nat) (owner : Nat) (stream : Nat) (seq : Nat) : (brandFault s point cause owner stream seq).chain.cruised = s.chain.cruised := congrArg (·.cruised) ((brandFault_keeps s point cause owner stream seq).plain .chain (by decide) rfl)
@[simp] theorem brandFault_chain_pendingAddr (s : State) (point : Nat) (cause : Nat) (owner : Nat) (stream : Nat) (seq : Nat) : (brandFault s point cause owner stream seq).chain.pendingAddr = s.chain.pendingAddr := congrArg (·.pendingAddr) ((brandFault_keeps s point cause owner stream seq).plain .chain (by decide) rfl)
@[simp] theorem brandFault_chain_posDup (s : State) (point : Nat) (cause : Nat) (owner : Nat) (stream : Nat) (seq : Nat) : (brandFault s point cause owner stream seq).chain.posDup = s.chain.posDup := congrArg (·.posDup) ((brandFault_keeps s point cause owner stream seq).plain .chain (by decide) rfl)
@[simp] theorem brandFault_chain_assigned (s : State) (point : Nat) (cause : Nat) (owner : Nat) (stream : Nat) (seq : Nat) : (brandFault s point cause owner stream seq).chain.assigned = s.chain.assigned := congrArg (·.assigned) ((brandFault_keeps s point cause owner stream seq).plain .chain (by decide) rfl)
@[simp] theorem brandFault_chain_announceDue (s : State) (point : Nat) (cause : Nat) (owner : Nat) (stream : Nat) (seq : Nat) : (brandFault s point cause owner stream seq).chain.announceDue = s.chain.announceDue := congrArg (·.announceDue) ((brandFault_keeps s point cause owner stream seq).plain .chain (by decide) rfl)
@[simp] theorem brandFault_chain_causes (s : State) (point : Nat) (cause : Nat) (owner : Nat) (stream : Nat) (seq : Nat) : (brandFault s point cause owner stream seq).chain.causes = s.chain.causes := congrArg (·.causes) ((brandFault_keeps s point cause owner stream seq).plain .chain (by decide) rfl)
@[simp] theorem brandFault_chain_cut (s : State) (point : Nat) (cause : Nat) (owner : Nat) (stream : Nat) (seq : Nat) : (brandFault s point cause owner stream seq).chain.cut = s.chain.cut := congrArg (·.cut) ((brandFault_keeps s point cause owner stream seq).plain .chain (by decide) rfl)
@[simp] theorem brandFault_chain_gmPort (s : State) (point : Nat) (cause : Nat) (owner : Nat) (stream : Nat) (seq : Nat) : (brandFault s point cause owner stream seq).chain.gmPort = s.chain.gmPort := congrArg (·.gmPort) ((brandFault_keeps s point cause owner stream seq).plain .chain (by decide) rfl)
@[simp] theorem brandFault_scl_budgets (s : State) (point : Nat) (cause : Nat) (owner : Nat) (stream : Nat) (seq : Nat) : (brandFault s point cause owner stream seq).scl.budgets = s.scl.budgets := congrArg (·.budgets) ((brandFault_keeps s point cause owner stream seq).plain .scl (by decide) rfl)
@[simp] theorem brandFault_scl_steps (s : State) (point : Nat) (cause : Nat) (owner : Nat) (stream : Nat) (seq : Nat) : (brandFault s point cause owner stream seq).scl.steps = s.scl.steps := congrArg (·.steps) ((brandFault_keeps s point cause owner stream seq).plain .scl (by decide) rfl)
@[simp] theorem brandFault_scl_feeds (s : State) (point : Nat) (cause : Nat) (owner : Nat) (stream : Nat) (seq : Nat) : (brandFault s point cause owner stream seq).scl.feeds = s.scl.feeds := congrArg (·.feeds) ((brandFault_keeps s point cause owner stream seq).plain .scl (by decide) rfl)
@[simp] theorem brandFault_scl_pkgBelow (s : State) (point : Nat) (cause : Nat) (owner : Nat) (stream : Nat) (seq : Nat) : (brandFault s point cause owner stream seq).scl.pkgBelow = s.scl.pkgBelow := congrArg (·.pkgBelow) ((brandFault_keeps s point cause owner stream seq).plain .scl (by decide) rfl)
@[simp] theorem brandFault_scl_pkgLog (s : State) (point : Nat) (cause : Nat) (owner : Nat) (stream : Nat) (seq : Nat) : (brandFault s point cause owner stream seq).scl.pkgLog = s.scl.pkgLog := congrArg (·.pkgLog) ((brandFault_keeps s point cause owner stream seq).plain .scl (by decide) rfl)
@[simp] theorem brandFault_scl_led (s : State) (point : Nat) (cause : Nat) (owner : Nat) (stream : Nat) (seq : Nat) : (brandFault s point cause owner stream seq).scl.led = s.scl.led := congrArg (·.led) ((brandFault_keeps s point cause owner stream seq).plain .scl (by decide) rfl)
@[simp] theorem brandFault_scl_pkgPhase (s : State) (point : Nat) (cause : Nat) (owner : Nat) (stream : Nat) (seq : Nat) : (brandFault s point cause owner stream seq).scl.pkgPhase = s.scl.pkgPhase := congrArg (·.pkgPhase) ((brandFault_keeps s point cause owner stream seq).plain .scl (by decide) rfl)
@[simp] theorem brandFault_scl_latchOffs (s : State) (point : Nat) (cause : Nat) (owner : Nat) (stream : Nat) (seq : Nat) : (brandFault s point cause owner stream seq).scl.latchOffs = s.scl.latchOffs := congrArg (·.latchOffs) ((brandFault_keeps s point cause owner stream seq).plain .scl (by decide) rfl)
@[simp] theorem brandFault_scl_stormAt (s : State) (point : Nat) (cause : Nat) (owner : Nat) (stream : Nat) (seq : Nat) : (brandFault s point cause owner stream seq).scl.stormAt = s.scl.stormAt := congrArg (·.stormAt) ((brandFault_keeps s point cause owner stream seq).plain .scl (by decide) rfl)
@[simp] theorem brandFault_scl_restarts (s : State) (point : Nat) (cause : Nat) (owner : Nat) (stream : Nat) (seq : Nat) : (brandFault s point cause owner stream seq).scl.restarts = s.scl.restarts := congrArg (·.restarts) ((brandFault_keeps s point cause owner stream seq).plain .scl (by decide) rfl)
@[simp] theorem brandFault_scl_pinned (s : State) (point : Nat) (cause : Nat) (owner : Nat) (stream : Nat) (seq : Nat) : (brandFault s point cause owner stream seq).scl.pinned = s.scl.pinned := congrArg (·.pinned) ((brandFault_keeps s point cause owner stream seq).plain .scl (by decide) rfl)
@[simp] theorem brandFault_scl_clean (s : State) (point : Nat) (cause : Nat) (owner : Nat) (stream : Nat) (seq : Nat) : (brandFault s point cause owner stream seq).scl.clean = s.scl.clean := congrArg (·.clean) ((brandFault_keeps s point cause owner stream seq).plain .scl (by decide) rfl)
@[simp] theorem brandFault_scl_ovlParts (s : State) (point : Nat) (cause : Nat) (owner : Nat) (stream : Nat) (seq : Nat) : (brandFault s point cause owner stream seq).scl.ovlParts = s.scl.ovlParts := congrArg (·.ovlParts) ((brandFault_keeps s point cause owner stream seq).plain .scl (by decide) rfl)
@[simp] theorem brandFault_sw_table (s : State) (point : Nat) (cause : Nat) (owner : Nat) (stream : Nat) (seq : Nat) : (brandFault s point cause owner stream seq).sw.table = s.sw.table := congrArg (·.table) ((brandFault_keeps s point cause owner stream seq).plain .sw (by decide) rfl)
@[simp] theorem brandFault_sw_vlans (s : State) (point : Nat) (cause : Nat) (owner : Nat) (stream : Nat) (seq : Nat) : (brandFault s point cause owner stream seq).sw.vlans = s.sw.vlans := congrArg (·.vlans) ((brandFault_keeps s point cause owner stream seq).plain .sw (by decide) rfl)
@[simp] theorem brandFault_sw_ruleRegs (s : State) (point : Nat) (cause : Nat) (owner : Nat) (stream : Nat) (seq : Nat) : (brandFault s point cause owner stream seq).sw.ruleRegs = s.sw.ruleRegs := congrArg (·.ruleRegs) ((brandFault_keeps s point cause owner stream seq).plain .sw (by decide) rfl)
@[simp] theorem brandFault_sw_queues (s : State) (point : Nat) (cause : Nat) (owner : Nat) (stream : Nat) (seq : Nat) : (brandFault s point cause owner stream seq).sw.queues = s.sw.queues := congrArg (·.queues) ((brandFault_keeps s point cause owner stream seq).plain .sw (by decide) rfl)
@[simp] theorem brandFault_sw_credits (s : State) (point : Nat) (cause : Nat) (owner : Nat) (stream : Nat) (seq : Nat) : (brandFault s point cause owner stream seq).sw.credits = s.sw.credits := congrArg (·.credits) ((brandFault_keeps s point cause owner stream seq).plain .sw (by decide) rfl)
@[simp] theorem brandFault_sw_gates (s : State) (point : Nat) (cause : Nat) (owner : Nat) (stream : Nat) (seq : Nat) : (brandFault s point cause owner stream seq).sw.gates = s.sw.gates := congrArg (·.gates) ((brandFault_keeps s point cause owner stream seq).plain .sw (by decide) rfl)
@[simp] theorem brandFault_sw_ageBase (s : State) (point : Nat) (cause : Nat) (owner : Nat) (stream : Nat) (seq : Nat) : (brandFault s point cause owner stream seq).sw.ageBase = s.sw.ageBase := congrArg (·.ageBase) ((brandFault_keeps s point cause owner stream seq).plain .sw (by decide) rfl)
@[simp] theorem brandFault_sw_storms (s : State) (point : Nat) (cause : Nat) (owner : Nat) (stream : Nat) (seq : Nat) : (brandFault s point cause owner stream seq).sw.storms = s.sw.storms := congrArg (·.storms) ((brandFault_keeps s point cause owner stream seq).plain .sw (by decide) rfl)
@[simp] theorem brandFault_sw_rx (s : State) (point : Nat) (cause : Nat) (owner : Nat) (stream : Nat) (seq : Nat) : (brandFault s point cause owner stream seq).sw.rx = s.sw.rx := congrArg (·.rx) ((brandFault_keeps s point cause owner stream seq).plain .sw (by decide) rfl)
@[simp] theorem brandFault_sw_tx (s : State) (point : Nat) (cause : Nat) (owner : Nat) (stream : Nat) (seq : Nat) : (brandFault s point cause owner stream seq).sw.tx = s.sw.tx := congrArg (·.tx) ((brandFault_keeps s point cause owner stream seq).plain .sw (by decide) rfl)
@[simp] theorem brandFault_sw_rxSa (s : State) (point : Nat) (cause : Nat) (owner : Nat) (stream : Nat) (seq : Nat) : (brandFault s point cause owner stream seq).sw.rxSa = s.sw.rxSa := congrArg (·.rxSa) ((brandFault_keeps s point cause owner stream seq).plain .sw (by decide) rfl)
theorem brandFault_rd (s : State) (point : Nat) (cause : Nat) (owner : Nat) (stream : Nat) (seq : Nat) {fx : Field} (hx : fx.lsb < 64) (hc : clearOf [Reg.PAR_EVT_CNT, Reg.SW_CNT_VAL, Reg.SW_MSEC_STAT, Reg.BRD_CNT0, Reg.BRD_CNT1, Reg.BRD_CNT2, Reg.BRD_CNT3, Reg.TLY_CNT0] fx.off = true) :
    (brandFault s point cause owner stream seq).rd fx = s.rd fx := (brandFault_keeps s point cause owner stream seq).rd (by decide) fx hx (of_clearOf hc)

end Sys2Proof.Machine
end

