-- ==== Sys2Proof/Laws/Waking.lean ====
section
/-! SUPPORT.
What the operations of Machine/Waking.lean change, and that they keep a sound state sound.
-/

namespace Sys2Proof.Machine

theorem signalSeen_keeps (s : State) (code : Nat) (index : Nat) :
    Keeps [] [.sub, .out] s (signalSeen s code index) := by
  unfold signalSeen
  try dsimp only
  with_reducible refine Keeps.ite (fun _ => ?_) (fun _ => ?_)
  with_reducible refine Keeps.ite (fun _ => ?_) (fun _ => ?_)
  with_reducible refine (emit_keeps _ _).then_ (by decide) (by decide) ?_
  with_reducible exact Keeps.refl _
  with_reducible exact Keeps.refl _
  with_reducible refine Keeps.ite (fun _ => ?_) (fun _ => ?_)
  with_reducible refine (setLin_keeps _ _ _).then_ (by decide) (by decide) ?_
  with_reducible exact Keeps.refl _
  with_reducible exact Keeps.refl _

theorem pinAfter_keeps (s : State) (code : Nat) (sig : WakeSig) (passed : Bool) :
    Keeps [Reg.PWR_PINS] [.pwr] s (pinAfter s code sig passed) := by
  unfold pinAfter
  try dsimp only
  split
  with_reducible refine Keeps.set_pwr (by decide) rfl rfl ?_
  with_reducible refine Keeps.put (in_PWR_PINS_WAKEN_LVL) (by decide) ?_
  with_reducible exact Keeps.refl _
  with_reducible refine Keeps.ite (fun _ => ?_) (fun _ => ?_)
  with_reducible refine Keeps.put (in_PWR_PINS_WAKEN_LVL) (by decide) ?_
  with_reducible exact Keeps.refl _
  with_reducible exact Keeps.refl _
  with_reducible exact Keeps.refl _

theorem execWakeEvent_keeps (code : Fin 16) (index : Fin 64) (sig : WakeSig) (s : State) :
    KeepsR [Reg.every] [.memory, .records, .layout, .freeCtr, .latches, .spar, .dt, .pwr, .owed, .banks, .par, .rng, .rings, .evt, .queue, .chain, .proxies, .act, .chs, .scl, .loss, .sns, .sw, .wire, .sub, .brd, .inf, .sto, .sec, .flt, .out] s (execWakeEvent code index sig s) := by
  unfold execWakeEvent
  try dsimp only
  with_reducible refine KeepsR.next ?_
  with_reducible refine Keeps.ite (fun _ => ?_) (fun _ => ?_)
  with_reducible exact Keeps.refl _
  with_reducible refine Keeps.ite (fun _ => ?_) (fun _ => ?_)
  with_reducible refine (pinAfter_keeps _ _ _ _).then_ (by decide) (by decide) ?_
  split
  with_reducible exact Keeps.refl _
  with_reducible refine (freeNext_keeps _).then_ (by decide) (by decide) ?_
  with_reducible exact Keeps.refl _
  with_reducible refine Keeps.ite (fun _ => ?_) (fun _ => ?_)
  with_reducible refine (acceptWake_keeps _ _ _).then_ (by decide) (by decide) ?_
  with_reducible refine (signalSeen_keeps _ _ _).then_ (by decide) (by decide) ?_
  with_reducible refine (pinAfter_keeps _ _ _ _).then_ (by decide) (by decide) ?_
  split
  with_reducible exact Keeps.refl _
  with_reducible refine (freeNext_keeps _).then_ (by decide) (by decide) ?_
  with_reducible exact Keeps.refl _
  with_reducible refine (signalSeen_keeps _ _ _).then_ (by decide) (by decide) ?_
  with_reducible refine (pinAfter_keeps _ _ _ _).then_ (by decide) (by decide) ?_
  split
  with_reducible exact Keeps.refl _
  with_reducible refine (freeNext_keeps _).then_ (by decide) (by decide) ?_
  with_reducible exact Keeps.refl _

theorem execWhistleDetect_keeps (port : Fin 2) (kHz : Nat) (mV : Nat) (onUs : Nat) (offUs : Nat) (periods : Nat) (s : State) :
    KeepsR [Reg.every] [.memory, .records, .layout, .freeCtr, .latches, .spar, .dt, .pwr, .owed, .banks, .par, .rng, .rings, .evt, .queue, .chain, .proxies, .act, .chs, .scl, .loss, .sns, .sw, .wire, .sub, .brd, .inf, .sto, .sec, .flt, .out] s (execWhistleDetect port kHz mV onUs offUs periods s) := by
  unfold execWhistleDetect
  try dsimp only
  with_reducible refine KeepsR.next ?_
  with_reducible refine Keeps.ite (fun _ => ?_) (fun _ => ?_)
  with_reducible refine (acceptWake_keeps _ _ _).then_ (by decide) (by decide) ?_
  with_reducible exact Keeps.refl _
  with_reducible exact Keeps.refl _

theorem execWhistleForward_keeps (s : State) :
    KeepsR [] [.out] s (execWhistleForward s) := by
  unfold execWhistleForward
  try dsimp only
  with_reducible refine KeepsR.whileCd ?_
  with_reducible refine Keeps.ite (fun _ => ?_) (fun _ => ?_)
  with_reducible refine (emit_keeps _ _).then_ (by decide) (by decide) ?_
  with_reducible exact Keeps.refl _
  with_reducible exact Keeps.refl _

theorem onSeq_keeps (s : State) (f : WakeSeq → WakeSeq) :
    Keeps [] [.pwr] s (onSeq s f) := by
  unfold onSeq
  try dsimp only
  with_reducible refine Keeps.set_pwr (by decide) rfl rfl ?_
  with_reducible exact Keeps.refl _

theorem firstAttempt_keeps (s : State) (kind : StartKind) :
    Keeps [Reg.every] [.memory, .records, .layout, .freeCtr, .latches, .spar, .dt, .pwr, .owed, .banks, .par, .rng, .rings, .evt, .tly, .queue, .chain, .proxies, .act, .chs, .scl, .loss, .sns, .sw, .wire, .sub, .brd, .inf, .sto, .sec, .flt, .out] s (firstAttempt s kind) := by
  unfold firstAttempt
  try dsimp only
  split
  with_reducible exact Keeps.refl _
  with_reducible refine (limpApply_keeps _).then_ (by decide) (by decide) ?_
  with_reducible refine Keeps.putEvery (by decide) ?_
  with_reducible refine (deviceReset_keeps _).then_ (by decide) (by decide) ?_
  with_reducible refine Keeps.rebuilt ?_ ?_ ?_
  · with_reducible exact .inl (by decide)
  · with_reducible exact ⟨.inr rfl, .inr rfl, .inr rfl, .inr rfl, .inl (by decide), .inr rfl, .inr rfl, .inr rfl, .inr rfl, .inr rfl, .inr rfl, .inr rfl, .inr rfl, .inr rfl, .inl (by decide), .inr rfl, .inl (by decide), .inr rfl, .inr rfl, .inr rfl, .inl (by decide), .inr rfl, .inr rfl, .inl (by decide), .inr rfl, .inr rfl, .inr rfl, .inl (by decide), .inr rfl, .inr rfl, .inr rfl, .inr rfl⟩
  with_reducible refine (sparReset_keeps _).then_ (by decide) (by decide) ?_
  with_reducible exact Keeps.refl _
  with_reducible refine (limpApply_keeps _).then_ (by decide) (by decide) ?_
  with_reducible exact Keeps.refl _
  with_reducible refine Keeps.ite (fun _ => ?_) (fun _ => ?_)
  with_reducible exact Keeps.refl _
  with_reducible refine (limpApply_keeps _).then_ (by decide) (by decide) ?_
  with_reducible exact Keeps.refl _
  with_reducible exact Keeps.refl _

theorem execWakeAttempt_keeps (s : State) :
    KeepsR [Reg.every] [.memory, .records, .layout, .freeCtr, .latches, .spar, .dt, .pwr, .owed, .banks, .par, .rng, .rings, .evt, .tly, .queue, .chain, .proxies, .act, .chs, .scl, .loss, .sns, .sw, .wire, .sub, .brd, .inf, .sto, .sec, .flt, .out] s (execWakeAttempt s) := by
  unfold execWakeAttempt
  try dsimp only
  split
  with_reducible refine KeepsR.next ?_
  with_reducible exact Keeps.refl _
  split
  with_reducible refine KeepsR.next ?_
  with_reducible exact Keeps.refl _
  with_reducible refine KeepsR.next ?_
  with_reducible refine (showDomains_keeps _).then_ (by decide) (by decide) ?_
  with_reducible refine (onSeq_keeps _ _).then_ (by decide) (by decide) ?_
  with_reducible refine Keeps.ite (fun _ => ?_) (fun _ => ?_)
  with_reducible refine (firstAttempt_keeps _ _).then_ (by decide) (by decide) ?_
  with_reducible refine Keeps.set_sto (by decide) ?_
  with_reducible exact Keeps.refl _
  with_reducible exact Keeps.refl _

theorem execHoldPrechargeTrip_keeps (s : State) :
    KeepsR [Reg.PWR_DOM_STATUS, Reg.PWR_PINS] [.pwr] s (execHoldPrechargeTrip s) := by
  unfold execHoldPrechargeTrip
  try dsimp only
  split
  with_reducible refine KeepsR.next ?_
  with_reducible exact Keeps.refl _
  split
  with_reducible refine KeepsR.next ?_
  with_reducible refine (showDomains_keeps _).then_ (by decide) (by decide) ?_
  with_reducible refine Keeps.put (in_PWR_PINS_HOLD_PRE) (by decide) ?_
  with_reducible refine (onSeq_keeps _ _).then_ (by decide) (by decide) ?_
  with_reducible exact Keeps.refl _
  with_reducible refine KeepsR.next ?_
  with_reducible exact Keeps.refl _

theorem execHoldLate_keeps (hold : Nat) (s : State) :
    KeepsR [Reg.PWR_DOM_STATUS, Reg.PAR_EVT_CNT, Reg.SW_CNT_VAL, Reg.SW_MSEC_STAT, Reg.TLY_CNT0] [.records, .pwr, .owed, .rings, .evt, .queue, .proxies, .loss, .wire, .sto, .out] s (execHoldLate hold s) := by
  unfold execHoldLate
  try dsimp only
  split
  with_reducible refine KeepsR.next ?_
  with_reducible exact Keeps.refl _
  split
  with_reducible refine KeepsR.next ?_
  with_reducible refine (showDomains_keeps _).then_ (by decide) (by decide) ?_
  with_reducible refine (tally_keeps _ _ _).then_ (by decide) (by decide) ?_
  with_reducible refine (raise_keeps _ _ _ _ _).then_ (by decide) (by decide) ?_
  with_reducible refine Keeps.set_sto (by decide) ?_
  with_reducible refine (onSeq_keeps _ _).then_ (by decide) (by decide) ?_
  with_reducible exact Keeps.refl _
  with_reducible refine KeepsR.next ?_
  with_reducible exact Keeps.refl _

theorem execXfLate_keeps (ms : Nat) (s : State) :
    KeepsR [Reg.PAR_EVT_CNT, Reg.SW_CNT_VAL, Reg.SW_MSEC_STAT, Reg.TLY_CNT0] [.records, .owed, .rings, .evt, .queue, .chain, .proxies, .loss, .wire, .out] s (execXfLate ms s) := by
  unfold execXfLate
  try dsimp only
  with_reducible refine KeepsR.next ?_
  with_reducible refine Keeps.ite (fun _ => ?_) (fun _ => ?_)
  with_reducible refine (wantBypass_keeps _ _).then_ (by decide) (by decide) ?_
  with_reducible refine (tally_keeps _ _ _).then_ (by decide) (by decide) ?_
  with_reducible refine (raise_keeps _ _ _ _ _).then_ (by decide) (by decide) ?_
  with_reducible exact Keeps.refl _
  with_reducible exact Keeps.refl _

theorem linkOn_keeps (s : State) :
    Keeps [] [.pwr, .chain] s (linkOn s) := by
  unfold linkOn
  try dsimp only
  with_reducible refine Keeps.rebuilt ?_ ?_ ?_
  · with_reducible exact .inr ⟨rfl, rfl, rfl⟩
  · with_reducible exact ⟨.inr rfl, .inr rfl, .inr rfl, .inr rfl, .inr rfl, .inr rfl, .inl (by decide), .inr rfl, .inr rfl, .inr rfl, .inr rfl, .inr rfl, .inr rfl, .inr rfl, .inr ⟨rfl, rfl, rfl⟩, .inl (by decide), .inr ⟨rfl, rfl⟩, .inr rfl, .inr rfl, .inr rfl, .inr ⟨rfl, rfl⟩, .inr rfl, .inr rfl, .inr ⟨rfl, rfl, rfl⟩, .inr rfl, .inr rfl, .inr rfl, .inr rfl, .inr rfl, .inr rfl, .inr rfl, .inr rfl⟩
  with_reducible exact Keeps.refl _

theorem execRailPgood_keeps (rail : Fin 3) (s : State) :
    KeepsR [Reg.PWR_DOM_STATUS] [.pwr, .chain] s (execRailPgood rail s) := by
  unfold execRailPgood
  try dsimp only
  with_reducible refine KeepsR.next ?_
  split
  with_reducible refine Keeps.ite (fun _ => ?_) (fun _ => ?_)
  with_reducible refine (showDomains_keeps _).then_ (by decide) (by decide) ?_
  with_reducible refine Keeps.ite (fun _ => ?_) (fun _ => ?_)
  with_reducible refine (linkOn_keeps _).then_ (by decide) (by decide) ?_
  with_reducible refine (onSeq_keeps _ _).then_ (by decide) (by decide) ?_
  with_reducible exact Keeps.refl _
  with_reducible refine (onSeq_keeps _ _).then_ (by decide) (by decide) ?_
  with_reducible exact Keeps.refl _
  with_reducible exact Keeps.refl _
  with_reducible refine Keeps.ite (fun _ => ?_) (fun _ => ?_)
  with_reducible refine (showDomains_keeps _).then_ (by decide) (by decide) ?_
  with_reducible refine Keeps.ite (fun _ => ?_) (fun _ => ?_)
  with_reducible refine (linkOn_keeps _).then_ (by decide) (by decide) ?_
  with_reducible exact Keeps.refl _
  with_reducible exact Keeps.refl _
  with_reducible exact Keeps.refl _

theorem sequenceFailed_keeps (s : State) :
    Keeps [Reg.WAK_FAIL, Reg.TLY_CNT0] [.spar, .queue] s (sequenceFailed s) := by
  unfold sequenceFailed
  try dsimp only
  with_reducible refine Keeps.ite (fun _ => ?_) (fun _ => ?_)
  with_reducible refine (tally_keeps _ _ _).then_ (by decide) (by decide) ?_
  with_reducible refine Keeps.put (in_WAK_FAIL_LOCKOUT) (by decide) ?_
  with_reducible refine Keeps.wr (in_WAK_FAIL_SEQ_FAILS) (by decide) ?_
  with_reducible refine Keeps.set_spar (by decide) ?_
  with_reducible exact Keeps.refl _
  with_reducible refine Keeps.wr (in_WAK_FAIL_SEQ_FAILS) (by decide) ?_
  with_reducible refine Keeps.set_spar (by decide) ?_
  with_reducible exact Keeps.refl _

theorem enterSparOnly_keeps (s : State) (cause : Nat) :
    Keeps [Reg.SPR_STATUS, Reg.PWR_DOM_STATUS, Reg.PAR_EVT_CNT, Reg.ACT_CLAIM, Reg.ACT_CNT, Reg.HS_STATE, Reg.HB_STATE, Reg.SV_STATE, Reg.SV_KRES, Reg.SV_CNT2, Reg.LED_STATE, Reg.LED_CNT, Reg.FIO_CAUSE, Reg.SW_CNT_VAL, Reg.SW_MSEC_STAT, Reg.TLY_CNT0] [.records, .freeCtr, .pwr, .owed, .rng, .rings, .evt, .queue, .chain, .proxies, .act, .chs, .loss, .wire, .out] s (enterSparOnly s cause) := by
  unfold enterSparOnly
  try dsimp only
  with_reducible refine (showDomains_keeps _).then_ (by decide) (by decide) ?_
  with_reducible refine (tally_keeps _ _ _).then_ (by decide) (by decide) ?_
  with_reducible refine Keeps.ite (fun _ => ?_) (fun _ => ?_)
  with_reducible refine Keeps.set_chain (by decide) ⟨rfl, rfl⟩ ?_
  with_reducible refine (limpApply_keeps _).then_ (by decide) (by decide) ?_
  with_reducible refine Keeps.set_pwr (by decide) rfl rfl ?_
  with_reducible exact Keeps.refl _
  with_reducible refine (wantBypass_keeps _ _).then_ (by decide) (by decide) ?_
  with_reducible refine Keeps.set_chain (by decide) ⟨rfl, rfl⟩ ?_
  with_reducible refine (limpApply_keeps _).then_ (by decide) (by decide) ?_
  with_reducible refine Keeps.set_pwr (by decide) rfl rfl ?_
  with_reducible exact Keeps.refl _

theorem failAttempt_keeps (s : State) (q : WakeSeq) (c : Nat) :
    Keeps [Reg.SPR_STATUS, Reg.CLK_STATUS, Reg.PWR_DOM_STATUS, Reg.WAK_FAIL, Reg.CHN_BYPASS, Reg.PAR_EVT_CNT, Reg.ACT_CLAIM, Reg.ACT_CNT, Reg.HS_STATE, Reg.HB_STATE, Reg.SV_STATE, Reg.SV_KRES, Reg.SV_CNT2, Reg.LED_STATE, Reg.LED_CNT, Reg.FIO_CAUSE, Reg.SW_CNT_VAL, Reg.SW_MSEC_STAT, Reg.TLY_CNT0] [.records, .freeCtr, .spar, .pwr, .owed, .rng, .rings, .evt, .queue, .chain, .proxies, .act, .chs, .loss, .wire, .out] s (failAttempt s q c) := by
  unfold failAttempt
  try dsimp only
  with_reducible refine Keeps.ite (fun _ => ?_) (fun _ => ?_)
  with_reducible refine (showDomains_keeps _).then_ (by decide) (by decide) ?_
  with_reducible refine Keeps.set_pwr (by decide) rfl rfl ?_
  with_reducible refine Keeps.put (in_CLK_STATUS_FRC_OK) (by decide) ?_
  with_reducible refine Keeps.put (in_CLK_STATUS_XF_OK) (by decide) ?_
  with_reducible refine Keeps.ite (fun _ => ?_) (fun _ => ?_)
  with_reducible refine (tally_keeps _ _ _).then_ (by decide) (by decide) ?_
  with_reducible refine Keeps.wr (in_WAK_FAIL_LAST_CAUSE) (by decide) ?_
  with_reducible refine Keeps.bump (in_WAK_FAIL_TOTAL_FAILS) (by decide) ?_
  with_reducible exact Keeps.refl _
  with_reducible refine (linkOff_keeps _).then_ (by decide) (by decide) ?_
  with_reducible refine (tally_keeps _ _ _).then_ (by decide) (by decide) ?_
  with_reducible refine Keeps.wr (in_WAK_FAIL_LAST_CAUSE) (by decide) ?_
  with_reducible refine Keeps.bump (in_WAK_FAIL_TOTAL_FAILS) (by decide) ?_
  with_reducible exact Keeps.refl _
  with_reducible refine (enterSparOnly_keeps _ _).then_ (by decide) (by decide) ?_
  with_reducible refine (sequenceFailed_keeps _).then_ (by decide) (by decide) ?_
  with_reducible refine Keeps.put (in_CLK_STATUS_FRC_OK) (by decide) ?_
  with_reducible refine Keeps.put (in_CLK_STATUS_XF_OK) (by decide) ?_
  with_reducible refine Keeps.ite (fun _ => ?_) (fun _ => ?_)
  with_reducible refine (tally_keeps _ _ _).then_ (by decide) (by decide) ?_
  with_reducible refine Keeps.wr (in_WAK_FAIL_LAST_CAUSE) (by decide) ?_
  with_reducible refine Keeps.bump (in_WAK_FAIL_TOTAL_FAILS) (by decide) ?_
  with_reducible exact Keeps.refl _
  with_reducible refine (linkOff_keeps _).then_ (by decide) (by decide) ?_
  with_reducible refine (tally_keeps _ _ _).then_ (by decide) (by decide) ?_
  with_reducible refine Keeps.wr (in_WAK_FAIL_LAST_CAUSE) (by decide) ?_
  with_reducible refine Keeps.bump (in_WAK_FAIL_TOTAL_FAILS) (by decide) ?_
  with_reducible exact Keeps.refl _

theorem backOut_keeps (s : State) (q : WakeSeq) :
    Keeps [Reg.CLK_SRC, Reg.CLK_STATUS, Reg.CHN_BYPASS, Reg.CHN_ATTACH, Reg.PAR_STATE, Reg.PAR_EVT_CNT, Reg.ACT_CLAIM, Reg.ACT_CNT, Reg.HS_STATE, Reg.HB_STATE, Reg.SV_STATE, Reg.SV_KRES, Reg.SV_CNT2, Reg.LED_STATE, Reg.FIO_CAUSE, Reg.SIN_SCHED, Reg.SIN_STREAMS, Reg.SW_CNT_VAL, Reg.SW_STATUS, Reg.SW_BUF_STATUS, Reg.SW_MSEC_STAT, Reg.SUB_CAN_STAT, Reg.SUB_LIN_STAT, Reg.SUB_CNT2, Reg.INF_CTX_STAT, Reg.INF_CTX_EXEC, Reg.INF_MEM, Reg.STO_WB_STATUS, Reg.SEC_KEY_STATE, Reg.TLY_CNT0] [.records, .freeCtr, .spar, .dt, .pwr, .owed, .rng, .rings, .evt, .queue, .chain, .proxies, .act, .chs, .loss, .sns, .sw, .wire, .sub, .inf, .sto, .sec, .out] s (backOut s q) := by
  unfold backOut
  try dsimp only
  with_reducible refine Keeps.set_pwr (by decide) rfl rfl ?_
  with_reducible refine (diesDown_keeps _).then_ (by decide) (by decide) ?_
  with_reducible exact Keeps.refl _

theorem execWakeAttemptFail_keeps (cause : Fin 4) (s : State) :
    KeepsR [Reg.SPR_STATUS, Reg.CLK_SRC, Reg.CLK_STATUS, Reg.PWR_DOM_STATUS, Reg.WAK_FAIL, Reg.CHN_BYPASS, Reg.CHN_ATTACH, Reg.PAR_STATE, Reg.PAR_EVT_CNT, Reg.ACT_CLAIM, Reg.ACT_CNT, Reg.HS_STATE, Reg.HB_STATE, Reg.SV_STATE, Reg.SV_KRES, Reg.SV_CNT2, Reg.LED_STATE, Reg.LED_CNT, Reg.FIO_CAUSE, Reg.SIN_SCHED, Reg.SIN_STREAMS, Reg.SW_CNT_VAL, Reg.SW_STATUS, Reg.SW_BUF_STATUS, Reg.SW_MSEC_STAT, Reg.SUB_CAN_STAT, Reg.SUB_LIN_STAT, Reg.SUB_CNT2, Reg.INF_CTX_STAT, Reg.INF_CTX_EXEC, Reg.INF_MEM, Reg.STO_WB_STATUS, Reg.SEC_KEY_STATE, Reg.TLY_CNT0] [.records, .freeCtr, .spar, .dt, .pwr, .owed, .rng, .rings, .evt, .queue, .chain, .proxies, .act, .chs, .loss, .sns, .sw, .wire, .sub, .inf, .sto, .sec, .out] s (execWakeAttemptFail cause s) := by
  unfold execWakeAttemptFail
  try dsimp only
  with_reducible refine KeepsR.next ?_
  split
  with_reducible refine Keeps.ite (fun _ => ?_) (fun _ => ?_)
  with_reducible refine (failAttempt_keeps _ _ _).then_ (by decide) (by decide) ?_
  with_reducible exact Keeps.refl _
  with_reducible exact Keeps.refl _
  with_reducible refine Keeps.ite (fun _ => ?_) (fun _ => ?_)
  with_reducible refine (failAttempt_keeps _ _ _).then_ (by decide) (by decide) ?_
  with_reducible refine (backOut_keeps _ _).then_ (by decide) (by decide) ?_
  with_reducible exact Keeps.refl _
  with_reducible exact Keeps.refl _
  with_reducible exact Keeps.refl _

theorem coldStart_keeps (s : State) (kind : StartKind) :
    Keeps [Reg.every] [.memory, .records, .layout, .freeCtr, .latches, .dt, .pwr, .owed, .banks, .par, .rng, .rings, .evt, .tly, .queue, .chain, .proxies, .act, .chs, .scl, .loss, .sns, .sw, .wire, .sub, .brd, .inf, .sto, .sec, .flt, .out] s (coldStart s kind) := by
  unfold coldStart
  try dsimp only
  with_reducible refine Keeps.rebuilt ?_ ?_ ?_
  · with_reducible exact .inl (by decide)
  · with_reducible exact ⟨.inr rfl, .inr rfl, .inr rfl, .inr rfl, .inr rfl, .inr rfl, .inl (by decide), .inr rfl, .inl (by decide), .inr rfl, .inr rfl, .inr rfl, .inr rfl, .inl (by decide), .inl (by decide), .inr rfl, .inl (by decide), .inr rfl, .inr rfl, .inr rfl, .inl (by decide), .inr rfl, .inr rfl, .inl (by decide), .inr rfl, .inr rfl, .inr rfl, .inr rfl, .inr rfl, .inr rfl, .inr rfl, .inr rfl⟩
  split
  with_reducible refine Keeps.putEvery (by decide) ?_
  with_reducible refine (limpApply_keeps _).then_ (by decide) (by decide) ?_
  with_reducible refine (deviceReset_keeps _).then_ (by decide) (by decide) ?_
  with_reducible exact Keeps.refl _
  with_reducible refine Keeps.putEvery (by decide) ?_
  with_reducible refine (deviceReset_keeps _).then_ (by decide) (by decide) ?_
  with_reducible exact Keeps.refl _
  with_reducible exact Keeps.refl _

theorem resumeStart_keeps (s : State) :
    Keeps [] [.pwr, .out] s (resumeStart s) := by
  unfold resumeStart
  try dsimp only
  with_reducible refine (emit_keeps _ _).then_ (by decide) (by decide) ?_
  with_reducible refine Keeps.set_pwr (by decide) rfl rfl ?_
  with_reducible exact Keeps.refl _

theorem showLast_keeps (s : State) (kind : StartKind) :
    Keeps [Reg.PWR_STATUS] [] s (showLast s kind) := by
  unfold showLast
  try dsimp only
  split
  with_reducible refine Keeps.wr (in_PWR_STATUS_LAST_STATE) (by decide) ?_
  with_reducible exact Keeps.refl _
  with_reducible refine Keeps.wr (in_PWR_STATUS_LAST_STATE) (by decide) ?_
  with_reducible exact Keeps.refl _
  with_reducible refine Keeps.wr (in_PWR_STATUS_LAST_STATE) (by decide) ?_
  with_reducible exact Keeps.refl _
  with_reducible exact Keeps.refl _

theorem startCd_keeps (s : State) (q : WakeSeq) (pos : Nat) :
    Keeps [Reg.every] [.memory, .records, .layout, .freeCtr, .latches, .spar, .dt, .pwr, .owed, .banks, .par, .rng, .rings, .evt, .tly, .queue, .chain, .proxies, .act, .chs, .scl, .loss, .sns, .sw, .wire, .sub, .brd, .inf, .sto, .sec, .flt, .out] s (startCd s q pos) := by
  unfold startCd
  try dsimp only
  with_reducible refine Keeps.ite (fun _ => ?_) (fun _ => ?_)
  with_reducible refine Keeps.set_pwr (by decide) rfl rfl ?_
  with_reducible refine (wakeDone_keeps _ _).then_ (by decide) (by decide) ?_
  with_reducible refine (firstInstr_keeps _).then_ (by decide) (by decide) ?_
  with_reducible refine (endRequest_keeps _).then_ (by decide) (by decide) ?_
  with_reducible refine (showBuses_keeps _).then_ (by decide) (by decide) ?_
  with_reducible refine Keeps.foldl (fun _ _ => ?_) _ ?_
  with_reducible refine (showPlca_keeps _ _).then_ (by decide) (by decide) ?_
  with_reducible exact Keeps.refl _
  with_reducible refine Keeps.ite (fun _ => ?_) (fun _ => ?_)
  with_reducible refine Keeps.rebuilt ?_ ?_ ?_
  · with_reducible exact .inl (by decide)
  · with_reducible exact ⟨.inr rfl, .inr rfl, .inr rfl, .inr rfl, .inl (by decide), .inl (by decide), .inl (by decide), .inr rfl, .inr rfl, .inr rfl, .inr rfl, .inr rfl, .inl (by decide), .inr rfl, .inl (by decide), .inl (by decide), .inl (by decide), .inr rfl, .inr rfl, .inr rfl, .inl (by decide), .inr rfl, .inr rfl, .inl (by decide), .inr rfl, .inr rfl, .inr rfl, .inr rfl, .inr rfl, .inr rfl, .inr rfl, .inr rfl⟩
  with_reducible refine Keeps.wrEvery (by decide) ?_
  with_reducible refine Keeps.wrEvery (by decide) ?_
  with_reducible refine Keeps.wrEvery (by decide) ?_
  with_reducible refine Keeps.wrEvery (by decide) ?_
  with_reducible refine Keeps.wrEvery (by decide) ?_
  with_reducible refine Keeps.wrEvery (by decide) ?_
  with_reducible refine Keeps.wrEvery (by decide) ?_
  with_reducible refine Keeps.wrEvery (by decide) ?_
  with_reducible refine Keeps.wrEvery (by decide) ?_
  with_reducible refine Keeps.wrEvery (by decide) ?_
  with_reducible refine Keeps.wrEvery (by decide) ?_
  with_reducible refine Keeps.ite (fun _ => ?_) (fun _ => ?_)
  with_reducible refine (showLast_keeps _ _).then_ (by decide) (by decide) ?_
  with_reducible refine Keeps.putEvery (by decide) ?_
  with_reducible refine Keeps.ite (fun _ => ?_) (fun _ => ?_)
  with_reducible refine (resumeStart_keeps _).then_ (by decide) (by decide) ?_
  with_reducible refine Keeps.ite (fun _ => ?_) (fun _ => ?_)
  with_reducible refine (adapt_keeps _ _ _).then_ (by decide) (by decide) ?_
  with_reducible exact Keeps.refl _
  with_reducible exact Keeps.refl _
  with_reducible refine (coldStart_keeps _ _).then_ (by decide) (by decide) ?_
  with_reducible refine Keeps.ite (fun _ => ?_) (fun _ => ?_)
  with_reducible refine (adapt_keeps _ _ _).then_ (by decide) (by decide) ?_
  with_reducible exact Keeps.refl _
  with_reducible exact Keeps.refl _
  with_reducible refine (reportWake_keeps _ _ _ _).then_ (by decide) (by decide) ?_
  with_reducible refine (showLast_keeps _ _).then_ (by decide) (by decide) ?_
  with_reducible refine Keeps.putEvery (by decide) ?_
  with_reducible refine Keeps.ite (fun _ => ?_) (fun _ => ?_)
  with_reducible refine (resumeStart_keeps _).then_ (by decide) (by decide) ?_
  with_reducible refine Keeps.ite (fun _ => ?_) (fun _ => ?_)
  with_reducible refine (adapt_keeps _ _ _).then_ (by decide) (by decide) ?_
  with_reducible exact Keeps.refl _
  with_reducible exact Keeps.refl _
  with_reducible refine (coldStart_keeps _ _).then_ (by decide) (by decide) ?_
  with_reducible refine Keeps.ite (fun _ => ?_) (fun _ => ?_)
  with_reducible refine (adapt_keeps _ _ _).then_ (by decide) (by decide) ?_
  with_reducible exact Keeps.refl _
  with_reducible exact Keeps.refl _
  with_reducible refine (segWake_keeps _).then_ (by decide) (by decide) ?_
  with_reducible refine Keeps.rebuilt ?_ ?_ ?_
  · with_reducible exact .inl (by decide)
  · with_reducible exact ⟨.inr rfl, .inr rfl, .inr rfl, .inr rfl, .inl (by decide), .inl (by decide), .inl (by decide), .inr rfl, .inr rfl, .inr rfl, .inr rfl, .inr rfl, .inl (by decide), .inr rfl, .inl (by decide), .inl (by decide), .inl (by decide), .inr rfl, .inr rfl, .inr rfl, .inl (by decide), .inr rfl, .inr rfl, .inl (by decide), .inr rfl, .inr rfl, .inr rfl, .inr rfl, .inr rfl, .inr rfl, .inr rfl, .inr rfl⟩
  with_reducible refine Keeps.wrEvery (by decide) ?_
  with_reducible refine Keeps.wrEvery (by decide) ?_
  with_reducible refine Keeps.wrEvery (by decide) ?_
  with_reducible refine Keeps.wrEvery (by decide) ?_
  with_reducible refine Keeps.wrEvery (by decide) ?_
  with_reducible refine Keeps.wrEvery (by decide) ?_
  with_reducible refine Keeps.wrEvery (by decide) ?_
  with_reducible refine Keeps.wrEvery (by decide) ?_
  with_reducible refine Keeps.wrEvery (by decide) ?_
  with_reducible refine Keeps.wrEvery (by decide) ?_
  with_reducible refine Keeps.wrEvery (by decide) ?_
  with_reducible refine Keeps.ite (fun _ => ?_) (fun _ => ?_)
  with_reducible refine (showLast_keeps _ _).then_ (by decide) (by decide) ?_
  with_reducible refine Keeps.putEvery (by decide) ?_
  with_reducible refine Keeps.ite (fun _ => ?_) (fun _ => ?_)
  with_reducible refine (resumeStart_keeps _).then_ (by decide) (by decide) ?_
  with_reducible refine Keeps.ite (fun _ => ?_) (fun _ => ?_)
  with_reducible refine (adapt_keeps _ _ _).then_ (by decide) (by decide) ?_
  with_reducible exact Keeps.refl _
  with_reducible exact Keeps.refl _
  with_reducible refine (coldStart_keeps _ _).then_ (by decide) (by decide) ?_
  with_reducible refine Keeps.ite (fun _ => ?_) (fun _ => ?_)
  with_reducible refine (adapt_keeps _ _ _).then_ (by decide) (by decide) ?_
  with_reducible exact Keeps.refl _
  with_reducible exact Keeps.refl _
  with_reducible refine (reportWake_keeps _ _ _ _).then_ (by decide) (by decide) ?_
  with_reducible refine (showLast_keeps _ _).then_ (by decide) (by decide) ?_
  with_reducible refine Keeps.putEvery (by decide) ?_
  with_reducible refine Keeps.ite (fun _ => ?_) (fun _ => ?_)
  with_reducible refine (resumeStart_keeps _).then_ (by decide) (by decide) ?_
  with_reducible refine Keeps.ite (fun _ => ?_) (fun _ => ?_)
  with_reducible refine (adapt_keeps _ _ _).then_ (by decide) (by decide) ?_
  with_reducible exact Keeps.refl _
  with_reducible exact Keeps.refl _
  with_reducible refine (coldStart_keeps _ _).then_ (by decide) (by decide) ?_
  with_reducible refine Keeps.ite (fun _ => ?_) (fun _ => ?_)
  with_reducible refine (adapt_keeps _ _ _).then_ (by decide) (by decide) ?_
  with_reducible exact Keeps.refl _
  with_reducible exact Keeps.refl _
  with_reducible refine (firstInstr_keeps _).then_ (by decide) (by decide) ?_
  with_reducible refine (endRequest_keeps _).then_ (by decide) (by decide) ?_
  with_reducible refine (showBuses_keeps _).then_ (by decide) (by decide) ?_
  with_reducible refine Keeps.foldl (fun _ _ => ?_) _ ?_
  with_reducible refine (showPlca_keeps _ _).then_ (by decide) (by decide) ?_
  with_reducible exact Keeps.refl _
  with_reducible refine Keeps.ite (fun _ => ?_) (fun _ => ?_)
  with_reducible refine Keeps.rebuilt ?_ ?_ ?_
  · with_reducible exact .inl (by decide)
  · with_reducible exact ⟨.inr rfl, .inr rfl, .inr rfl, .inr rfl, .inl (by decide), .inl (by decide), .inl (by decide), .inr rfl, .inr rfl, .inr rfl, .inr rfl, .inr rfl, .inl (by decide), .inr rfl, .inl (by decide), .inl (by decide), .inl (by decide), .inr rfl, .inr rfl, .inr rfl, .inl (by decide), .inr rfl, .inr rfl, .inl (by decide), .inr rfl, .inr rfl, .inr rfl, .inr rfl, .inr rfl, .inr rfl, .inr rfl, .inr rfl⟩
  with_reducible refine Keeps.wrEvery (by decide) ?_
  with_reducible refine Keeps.wrEvery (by decide) ?_
  with_reducible refine Keeps.wrEvery (by decide) ?_
  with_reducible refine Keeps.wrEvery (by decide) ?_
  with_reducible refine Keeps.wrEvery (by decide) ?_
  with_reducible refine Keeps.wrEvery (by decide) ?_
  with_reducible refine Keeps.wrEvery (by decide) ?_
  with_reducible refine Keeps.wrEvery (by decide) ?_
  with_reducible refine Keeps.wrEvery (by decide) ?_
  with_reducible refine Keeps.wrEvery (by decide) ?_
  with_reducible refine Keeps.wrEvery (by decide) ?_
  with_reducible refine Keeps.ite (fun _ => ?_) (fun _ => ?_)
  with_reducible refine (showLast_keeps _ _).then_ (by decide) (by decide) ?_
  with_reducible refine Keeps.putEvery (by decide) ?_
  with_reducible refine Keeps.ite (fun _ => ?_) (fun _ => ?_)
  with_reducible refine (resumeStart_keeps _).then_ (by decide) (by decide) ?_
  with_reducible refine Keeps.ite (fun _ => ?_) (fun _ => ?_)
  with_reducible refine (adapt_keeps _ _ _).then_ (by decide) (by decide) ?_
  with_reducible exact Keeps.refl _
  with_reducible exact Keeps.refl _
  with_reducible refine (coldStart_keeps _ _).then_ (by decide) (by decide) ?_
  with_reducible refine Keeps.ite (fun _ => ?_) (fun _ => ?_)
  with_reducible refine (adapt_keeps _ _ _).then_ (by decide) (by decide) ?_
  with_reducible exact Keeps.refl _
  with_reducible exact Keeps.refl _
  with_reducible refine (reportWake_keeps _ _ _ _).then_ (by decide) (by decide) ?_
  with_reducible refine (showLast_keeps _ _).then_ (by decide) (by decide) ?_
  with_reducible refine Keeps.putEvery (by decide) ?_
  with_reducible refine Keeps.ite (fun _ => ?_) (fun _ => ?_)
  with_reducible refine (resumeStart_keeps _).then_ (by decide) (by decide) ?_
  with_reducible refine Keeps.ite (fun _ => ?_) (fun _ => ?_)
  with_reducible refine (adapt_keeps _ _ _).then_ (by decide) (by decide) ?_
  with_reducible exact Keeps.refl _
  with_reducible exact Keeps.refl _
  with_reducible refine (coldStart_keeps _ _).then_ (by decide) (by decide) ?_
  with_reducible refine Keeps.ite (fun _ => ?_) (fun _ => ?_)
  with_reducible refine (adapt_keeps _ _ _).then_ (by decide) (by decide) ?_
  with_reducible exact Keeps.refl _
  with_reducible exact Keeps.refl _
  with_reducible refine (segWake_keeps _).then_ (by decide) (by decide) ?_
  with_reducible refine Keeps.rebuilt ?_ ?_ ?_
  · with_reducible exact .inl (by decide)
  · with_reducible exact ⟨.inr rfl, .inr rfl, .inr rfl, .inr rfl, .inl (by decide), .inl (by decide), .inl (by decide), .inr rfl, .inr rfl, .inr rfl, .inr rfl, .inr rfl, .inl (by decide), .inr rfl, .inl (by decide), .inl (by decide), .inl (by decide), .inr rfl, .inr rfl, .inr rfl, .inl (by decide), .inr rfl, .inr rfl, .inl (by decide), .inr rfl, .inr rfl, .inr rfl, .inr rfl, .inr rfl, .inr rfl, .inr rfl, .inr rfl⟩
  with_reducible refine Keeps.wrEvery (by decide) ?_
  with_reducible refine Keeps.wrEvery (by decide) ?_
  with_reducible refine Keeps.wrEvery (by decide) ?_
  with_reducible refine Keeps.wrEvery (by decide) ?_
  with_reducible refine Keeps.wrEvery (by decide) ?_
  with_reducible refine Keeps.wrEvery (by decide) ?_
  with_reducible refine Keeps.wrEvery (by decide) ?_
  with_reducible refine Keeps.wrEvery (by decide) ?_
  with_reducible refine Keeps.wrEvery (by decide) ?_
  with_reducible refine Keeps.wrEvery (by decide) ?_
  with_reducible refine Keeps.wrEvery (by decide) ?_
  with_reducible refine Keeps.ite (fun _ => ?_) (fun _ => ?_)
  with_reducible refine (showLast_keeps _ _).then_ (by decide) (by decide) ?_
  with_reducible refine Keeps.putEvery (by decide) ?_
  with_reducible refine Keeps.ite (fun _ => ?_) (fun _ => ?_)
  with_reducible refine (resumeStart_keeps _).then_ (by decide) (by decide) ?_
  with_reducible refine Keeps.ite (fun _ => ?_) (fun _ => ?_)
  with_reducible refine (adapt_keeps _ _ _).then_ (by decide) (by decide) ?_
  with_reducible exact Keeps.refl _
  with_reducible exact Keeps.refl _
  with_reducible refine (coldStart_keeps _ _).then_ (by decide) (by decide) ?_
  with_reducible refine Keeps.ite (fun _ => ?_) (fun _ => ?_)
  with_reducible refine (adapt_keeps _ _ _).then_ (by decide) (by decide) ?_
  with_reducible exact Keeps.refl _
  with_reducible exact Keeps.refl _
  with_reducible refine (reportWake_keeps _ _ _ _).then_ (by decide) (by decide) ?_
  with_reducible refine (showLast_keeps _ _).then_ (by decide) (by decide) ?_
  with_reducible refine Keeps.putEvery (by decide) ?_
  with_reducible refine Keeps.ite (fun _ => ?_) (fun _ => ?_)
  with_reducible refine (resumeStart_keeps _).then_ (by decide) (by decide) ?_
  with_reducible refine Keeps.ite (fun _ => ?_) (fun _ => ?_)
  with_reducible refine (adapt_keeps _ _ _).then_ (by decide) (by decide) ?_
  with_reducible exact Keeps.refl _
  with_reducible exact Keeps.refl _
  with_reducible refine (coldStart_keeps _ _).then_ (by decide) (by decide) ?_
  with_reducible refine Keeps.ite (fun _ => ?_) (fun _ => ?_)
  with_reducible refine (adapt_keeps _ _ _).then_ (by decide) (by decide) ?_
  with_reducible exact Keeps.refl _
  with_reducible exact Keeps.refl _

theorem execCdStart_keeps (pos : Nat) (s : State) :
    KeepsR [Reg.every] [.memory, .records, .layout, .freeCtr, .latches, .spar, .dt, .pwr, .owed, .banks, .par, .rng, .rings, .evt, .tly, .queue, .chain, .proxies, .act, .chs, .scl, .loss, .sns, .sw, .wire, .sub, .brd, .inf, .sto, .sec, .flt, .out] s (execCdStart pos s) := by
  unfold execCdStart
  try dsimp only
  split
  with_reducible refine KeepsR.next ?_
  with_reducible exact Keeps.refl _
  split
  with_reducible refine KeepsR.next ?_
  with_reducible refine (showDomains_keeps _).then_ (by decide) (by decide) ?_
  with_reducible refine (startCd_keeps _ _ _).then_ (by decide) (by decide) ?_
  with_reducible exact Keeps.refl _
  with_reducible refine KeepsR.next ?_
  with_reducible exact Keeps.refl _

theorem execBankZeroDone_keeps (bank : Fin 48) (s : State) :
    KeepsR [] [.banks] s (execBankZeroDone bank s) := by
  unfold execBankZeroDone
  try dsimp only
  with_reducible refine KeepsR.whileCd ?_
  with_reducible refine Keeps.ite (fun _ => ?_) (fun _ => ?_)
  with_reducible refine Keeps.set_banks rfl rfl (by decide) ?_
  with_reducible exact Keeps.refl _
  with_reducible exact Keeps.refl _

end Sys2Proof.Machine
end

