-- ==== Sys2Proof/Laws/Step.lean ====
section
/-! SUPPORT.
What every command and every step keeps, whatever the command.
-/

namespace Sys2Proof.Machine

/-- The parts of the state that a command may change: all but the queue. -/
def anyPart : List Part := [.memory, .records, .layout, .now, .freeCtr, .latches, .spar, .dt, .pwr, .owed, .banks, .par, .rng, .rings, .evt, .tly, .queue, .chain, .proxies, .act, .chs, .scl, .loss, .sns, .sw, .wire, .sub, .brd, .inf, .sto, .sec, .upd, .flt, .out]

/-- A command keeps a sound state sound and leaves the queue alone. -/
theorem exec_keeps (c : Instr) (s : State) : KeepsR [Reg.every] anyPart s (exec c s) := by
  cases c with
  | powerOnReset x0 => exact (execPowerOnReset_keeps x0 s).mono (by decide) (by decide)
  | vsparFall x0 => exact (execVsparFall_keeps x0 s).mono (by decide) (by decide)
  | sparWdgExpiry x0 => exact (execSparWdgExpiry_keeps x0 s).mono (by decide) (by decide)
  | sparResetDone => exact (execSparResetDone_keeps s).mono (by decide) (by decide)
  | sprRstCmd x0 x1 => exact (execSprRstCmd_keeps x0 x1 s).mono (by decide) (by decide)
  | controlWdgExpiry => exact (execControlWdgExpiry_keeps s).mono (by decide) (by decide)
  | sprWdgFeed x0 x1 => exact (execSprWdgFeed_keeps x0 x1 s).mono (by decide) (by decide)
  | wdgWarn => exact (execWdgWarn_keeps s).mono (by decide) (by decide)
  | cdLinkSilence => exact (execCdLinkSilence_keeps s).mono (by decide) (by decide)
  | corePgoodLost => exact (execCorePgoodLost_keeps s).mono (by decide) (by decide)
  | ldControlLost => exact (execLdControlLost_keeps s).mono (by decide) (by decide)
  | bypassEngage x0 x1 => exact (execBypassEngage_keeps x0 x1 s).mono (by decide) (by decide)
  | limpTableApply => exact (execLimpTableApply_keeps s).mono (by decide) (by decide)
  | cdRestart => exact (execCdRestart_keeps s).mono (by decide) (by decide)
  | xsNoEdgeTimeout => exact (execXsNoEdgeTimeout_keeps s).mono (by decide) (by decide)
  | xsRatioCheck x0 => exact (execXsRatioCheck_keeps x0 s).mono (by decide) (by decide)
  | lpoCalibrate x0 => exact (execLpoCalibrate_keeps x0 s).mono (by decide) (by decide)
  | xsReturn => exact (execXsReturn_keeps s).mono (by decide) (by decide)
  | rtcWrite x0 x1 x2 => exact (execRtcWrite_keeps x0 x1 x2 s).mono (by decide) (by decide)
  | rtcAlarmWrite x0 x1 x2 => exact (execRtcAlarmWrite_keeps x0 x1 x2 s).mono (by decide) (by decide)
  | rtcAlarmFire => exact (execRtcAlarmFire_keeps s).mono (by decide) (by decide)
  | dtCorrection x0 x1 => exact (execDtCorrection_keeps x0 x1 s).mono (by decide) (by decide)
  | dtSyncReached => exact (execDtSyncReached_keeps s).mono (by decide) (by decide)
  | syncLoss => exact (execSyncLoss_keeps s).mono (by decide) (by decide)
  | clkSrcWrite x0 x1 => exact (execClkSrcWrite_keeps x0 x1 s).mono (by decide) (by decide)
  | clkSwitchDone => exact (execClkSwitchDone_keeps s).mono (by decide) (by decide)
  | clkPllCfgWrite x0 x1 => exact (execClkPllCfgWrite_keeps x0 x1 s).mono (by decide) (by decide)
  | pllLock x0 => exact (execPllLock_keeps x0 s).mono (by decide) (by decide)
  | pllLockLoss x0 => exact (execPllLockLoss_keeps x0 s).mono (by decide) (by decide)
  | xfFail => exact (execXfFail_keeps s).mono (by decide) (by decide)
  | xfReady => exact (execXfReady_keeps s).mono (by decide) (by decide)
  | ignChange x0 x1 => exact (execIgnChange_keeps x0 x1 s).mono (by decide) (by decide)
  | crashEdge x0 x1 => exact (execCrashEdge_keeps x0 x1 s).mono (by decide) (by decide)
  | crashLatchClear x0 x1 => exact (execCrashLatchClear_keeps x0 x1 s).mono (by decide) (by decide)
  | limpRelease x0 x1 => exact (execLimpRelease_keeps x0 x1 s).mono (by decide) (by decide)
  | limpReleased => exact (execLimpReleased_keeps s).mono (by decide) (by decide)
  | limpDriveEnd x0 => exact (execLimpDriveEnd_keeps x0 s).mono (by decide) (by decide)
  | limpBrakeEnd x0 => exact (execLimpBrakeEnd_keeps x0 s).mono (by decide) (by decide)
  | coreWfi x0 => exact (execCoreWfi_keeps x0 s).mono (by decide) (by decide)
  | coreIdle x0 => exact (execCoreIdle_keeps x0 s).mono (by decide) (by decide)
  | coreWake x0 => exact (execCoreWake_keeps x0 s).mono (by decide) (by decide)
  | devIdleTimeout => exact (execDevIdleTimeout_keeps s).mono (by decide) (by decide)
  | pwrNextWrite x0 x1 => exact (execPwrNextWrite_keeps x0 x1 s).mono (by decide) (by decide)
  | pwrSafAck x0 x1 => exact (execPwrSafAck_keeps x0 x1 s).mono (by decide) (by decide)
  | powerEntry => exact (execPowerEntry_keeps s).mono (by decide) (by decide)
  | entryWaitTimeout => exact (execEntryWaitTimeout_keeps s).mono (by decide) (by decide)
  | entryComplete => exact (execEntryComplete_keeps s).mono (by decide) (by decide)
  | deepAfterTimeout => exact (execDeepAfterTimeout_keeps s).mono (by decide) (by decide)
  | offAfterTimeout => exact (execOffAfterTimeout_keeps s).mono (by decide) (by decide)
  | wakeEvent x0 x1 x2 => exact (execWakeEvent_keeps x0 x1 x2 s).mono (by decide) (by decide)
  | whistleDetect x0 x1 x2 x3 x4 x5 => exact (execWhistleDetect_keeps x0 x1 x2 x3 x4 x5 s).mono (by decide) (by decide)
  | whistleForward => exact (execWhistleForward_keeps s).mono (by decide) (by decide)
  | wakeAttempt => exact (execWakeAttempt_keeps s).mono (by decide) (by decide)
  | railPgood x0 => exact (execRailPgood_keeps x0 s).mono (by decide) (by decide)
  | wakeAttemptFail x0 => exact (execWakeAttemptFail_keeps x0 s).mono (by decide) (by decide)
  | holdLate x0 => exact (execHoldLate_keeps x0 s).mono (by decide) (by decide)
  | xfLate x0 => exact (execXfLate_keeps x0 s).mono (by decide) (by decide)
  | cdStart x0 => exact (execCdStart_keeps x0 s).mono (by decide) (by decide)
  | bankZeroDone x0 => exact (execBankZeroDone_keeps x0 s).mono (by decide) (by decide)
  | secureBoot x0 x1 x2 x3 x4 => exact (execSecureBoot_keeps x0 x1 x2 x3 x4 s).mono (by decide) (by decide)
  | p0Handoff => exact (execP0Handoff_keeps s).mono (by decide) (by decide)
  | confirmDeadline => exact (execConfirmDeadline_keeps s).mono (by decide) (by decide)
  | updConfirmDue => exact (execUpdConfirmDue_keeps s).mono (by decide) (by decide)
  | chainLinkChange x0 x1 => exact (execChainLinkChange_keeps x0 x1 s).mono (by decide) (by decide)
  | chnPortCfgWrite x0 x1 => exact (execChnPortCfgWrite_keeps x0 x1 s).mono (by decide) (by decide)
  | discover x0 x1 => exact (execDiscover_keeps x0 x1 s).mono (by decide) (by decide)
  | announce x0 x1 => exact (execAnnounce_keeps x0 x1 s).mono (by decide) (by decide)
  | announceTimer => exact (execAnnounceTimer_keeps s).mono (by decide) (by decide)
  | assign x0 x1 => exact (execAssign_keeps x0 x1 s).mono (by decide) (by decide)
  | confirm x0 x1 => exact (execConfirm_keeps x0 x1 s).mono (by decide) (by decide)
  | cruiseDone x0 x1 => exact (execCruiseDone_keeps x0 x1 s).mono (by decide) (by decide)
  | assignTimeout => exact (execAssignTimeout_keeps s).mono (by decide) (by decide)
  | doorbellFrame x0 x1 x2 => exact (execDoorbellFrame_keeps x0 x1 x2 s).mono (by decide) (by decide)
  | readRsp x0 x1 x2 => exact (execReadRsp_keeps x0 x1 x2 s).mono (by decide) (by decide)
  | readTimeout x0 x1 => exact (execReadTimeout_keeps x0 x1 s).mono (by decide) (by decide)
  | heartbeat x0 x1 x2 => exact (execHeartbeat_keeps x0 x1 x2 s).mono (by decide) (by decide)
  | attachReq x0 x1 x2 => exact (execAttachReq_keeps x0 x1 x2 s).mono (by decide) (by decide)
  | detachReq x0 x1 x2 => exact (execDetachReq_keeps x0 x1 x2 s).mono (by decide) (by decide)
  | heartbeatSend x0 => exact (execHeartbeatSend_keeps x0 s).mono (by decide) (by decide)
  | detachTimeout x0 => exact (execDetachTimeout_keeps x0 s).mono (by decide) (by decide)
  | writeRetransmit x0 => exact (execWriteRetransmit_keeps x0 s).mono (by decide) (by decide)
  | ident x0 x1 => exact (execIdent_keeps x0 x1 s).mono (by decide) (by decide)
  | maintStatus x0 x1 => exact (execMaintStatus_keeps x0 x1 s).mono (by decide) (by decide)
  | tallyRead x0 x1 => exact (execTallyRead_keeps x0 x1 s).mono (by decide) (by decide)
  | tallyClear x0 x1 => exact (execTallyClear_keeps x0 x1 s).mono (by decide) (by decide)
  | maintSparReset x0 x1 => exact (execMaintSparReset_keeps x0 x1 s).mono (by decide) (by decide)
  | maintDeviceReset x0 x1 => exact (execMaintDeviceReset_keeps x0 x1 s).mono (by decide) (by decide)
  | bypassOn x0 x1 => exact (execBypassOn_keeps x0 x1 s).mono (by decide) (by decide)
  | bypassOff x0 x1 => exact (execBypassOff_keeps x0 x1 s).mono (by decide) (by decide)
  | bypassForce x0 x1 => exact (execBypassForce_keeps x0 x1 s).mono (by decide) (by decide)
  | bypassLeave x0 x1 x2 => exact (execBypassLeave_keeps x0 x1 x2 s).mono (by decide) (by decide)
  | chainSleepReq x0 => exact (execChainSleepReq_keeps x0 s).mono (by decide) (by decide)
  | sendWhistle x0 x1 => exact (execSendWhistle_keeps x0 x1 s).mono (by decide) (by decide)
  | layoutApply x0 => exact (execLayoutApply_keeps x0 s).mono (by decide) (by decide)
  | parSeal x0 x1 => exact (execParSeal_keeps x0 x1 s).mono (by decide) (by decide)
  | limpCommit => exact (execLimpCommit_keeps s).mono (by decide) (by decide)
  | parRst x0 x1 => exact (execParRst_keeps x0 x1 s).mono (by decide) (by decide)
  | selfReset x0 x1 x2 => exact (execSelfReset_keeps x0 x1 x2 s).mono (by decide) (by decide)
  | partResetDone x0 => exact (execPartResetDone_keeps x0 s).mono (by decide) (by decide)
  | orphanTimeout x0 => exact (execOrphanTimeout_keeps x0 s).mono (by decide) (by decide)
  | orphanBrakeEnd x0 => exact (execOrphanBrakeEnd_keeps x0 s).mono (by decide) (by decide)
  | eventCoalesceTimeout x0 => exact (execEventCoalesceTimeout_keeps x0 s).mono (by decide) (by decide)
  | eventTokenRefill => exact (execEventTokenRefill_keeps s).mono (by decide) (by decide)
  | swEvent x0 x1 x2 => exact (execSwEvent_keeps x0 x1 x2 s).mono (by decide) (by decide)
  | sQueueDeliver x0 => exact (execSQueueDeliver_keeps x0 s).mono (by decide) (by decide)
  | armPart x0 => exact (execArmPart_keeps x0 s).mono (by decide) (by decide)
  | armEngine x0 => exact (execArmEngine_keeps x0 s).mono (by decide) (by decide)
  | engineReset x0 => exact (execEngineReset_keeps x0 s).mono (by decide) (by decide)
  | producerDoorbell x0 x1 x2 x3 x4 => exact (execProducerDoorbell_keeps x0 x1 x2 x3 x4 s).mono (by decide) (by decide)
  | completionDoorbell x0 x1 x2 x3 => exact (execCompletionDoorbell_keeps x0 x1 x2 x3 s).mono (by decide) (by decide)
  | eventDoorbell x0 x1 x2 => exact (execEventDoorbell_keeps x0 x1 x2 s).mono (by decide) (by decide)
  | descriptorAccept x0 x1 x2 => exact (execDescriptorAccept_keeps x0 x1 x2 s).mono (by decide) (by decide)
  | timedStart x0 x1 x2 x3 x4 x5 => exact (execTimedStart_keeps x0 x1 x2 x3 x4 x5 s).mono (by decide) (by decide)
  | ringStall x0 x1 x2 => exact (execRingStall_keeps x0 x1 x2 s).mono (by decide) (by decide)
  | nop x0 x1 x2 => exact (execNop_keeps x0 x1 x2 s).mono (by decide) (by decide)
  | cancel x0 x1 x2 => exact (execCancel_keeps x0 x1 x2 s).mono (by decide) (by decide)
  | actSet x0 x1 => exact (execActSet_keeps x0 x1 s).mono (by decide) (by decide)
  | actPulse x0 x1 => exact (execActPulse_keeps x0 x1 s).mono (by decide) (by decide)
  | actPwm x0 x1 => exact (execActPwm_keeps x0 x1 s).mono (by decide) (by decide)
  | actProfile x0 x1 => exact (execActProfile_keeps x0 x1 s).mono (by decide) (by decide)
  | actBridge x0 x1 => exact (execActBridge_keeps x0 x1 s).mono (by decide) (by decide)
  | actSequence x0 x1 => exact (execActSequence_keeps x0 x1 s).mono (by decide) (by decide)
  | sequenceStep x0 => exact (execSequenceStep_keeps x0 s).mono (by decide) (by decide)
  | actRestart x0 x1 => exact (execActRestart_keeps x0 x1 s).mono (by decide) (by decide)
  | actGrant x0 x1 => exact (execActGrant_keeps x0 x1 s).mono (by decide) (by decide)
  | actClaim x0 x1 => exact (execActClaim_keeps x0 x1 s).mono (by decide) (by decide)
  | actStatus x0 x1 => exact (execActStatus_keeps x0 x1 s).mono (by decide) (by decide)
  | safeAction x0 x1 => exact (execSafeAction_keeps x0 x1 s).mono (by decide) (by decide)
  | safetyLaneMsg => exact (execSafetyLaneMsg_keeps s).mono (by decide) (by decide)
  | limpStage x0 x1 => exact (execLimpStage_keeps x0 x1 s).mono (by decide) (by decide)
  | pulseTrainEnd x0 => exact (execPulseTrainEnd_keeps x0 s).mono (by decide) (by decide)
  | profileSegmentEnd x0 => exact (execProfileSegmentEnd_keeps x0 s).mono (by decide) (by decide)
  | hsOvercurrent x0 x1 => exact (execHsOvercurrent_keeps x0 x1 s).mono (by decide) (by decide)
  | tempSample x0 x1 => exact (execTempSample_keeps x0 x1 s).mono (by decide) (by decide)
  | inrushEnd x0 => exact (execInrushEnd_keeps x0 s).mono (by decide) (by decide)
  | retryRestart x0 => exact (execRetryRestart_keeps x0 s).mono (by decide) (by decide)
  | retryCountReset x0 => exact (execRetryCountReset_keeps x0 s).mono (by decide) (by decide)
  | openLoadChange x0 x1 x2 x3 x4 x5 => exact (execOpenLoadChange_keeps x0 x1 x2 x3 x4 x5 s).mono (by decide) (by decide)
  | runMsExpiry x0 => exact (execRunMsExpiry_keeps x0 s).mono (by decide) (by decide)
  | dirGapEnd x0 => exact (execDirGapEnd_keeps x0 s).mono (by decide) (by decide)
  | rippleAccept x0 x1 x2 => exact (execRippleAccept_keeps x0 x1 x2 s).mono (by decide) (by decide)
  | rippleFill x0 => exact (execRippleFill_keeps x0 s).mono (by decide) (by decide)
  | stall x0 x1 x2 => exact (execStall_keeps x0 x1 x2 s).mono (by decide) (by decide)
  | hbOvercurrent x0 x1 x2 => exact (execHbOvercurrent_keeps x0 x1 x2 s).mono (by decide) (by decide)
  | hbOpenChange x0 x1 x2 => exact (execHbOpenChange_keeps x0 x1 x2 s).mono (by decide) (by decide)
  | reversalBrakeEnd x0 => exact (execReversalBrakeEnd_keeps x0 s).mono (by decide) (by decide)
  | reversalDriveEnd x0 => exact (execReversalDriveEnd_keeps x0 s).mono (by decide) (by decide)
  | reversalFinalEnd x0 => exact (execReversalFinalEnd_keeps x0 s).mono (by decide) (by decide)
  | svOvercurrent x0 x1 => exact (execSvOvercurrent_keeps x0 x1 s).mono (by decide) (by decide)
  | kerfFound x0 x1 => exact (execKerfFound_keeps x0 x1 s).mono (by decide) (by decide)
  | kerfWindowEnd x0 x1 => exact (execKerfWindowEnd_keeps x0 x1 s).mono (by decide) (by decide)
  | svShare x0 x1 x2 => exact (execSvShare_keeps x0 x1 x2 s).mono (by decide) (by decide)
  | svOpenChange x0 x1 x2 => exact (execSvOpenChange_keeps x0 x1 x2 s).mono (by decide) (by decide)
  | ledTest x0 x1 => exact (execLedTest_keeps x0 x1 s).mono (by decide) (by decide)
  | followOff x0 => exact (execFollowOff_keeps x0 s).mono (by decide) (by decide)
  | ledHeadroom x0 x1 x2 => exact (execLedHeadroom_keeps x0 x1 x2 s).mono (by decide) (by decide)
  | ledDerateUpdate x0 x1 x2 => exact (execLedDerateUpdate_keeps x0 x1 x2 s).mono (by decide) (by decide)
  | ntcFaultHoldEnd x0 => exact (execNtcFaultHoldEnd_keeps x0 s).mono (by decide) (by decide)
  | fioInputAccept x0 x1 x2 => exact (execFioInputAccept_keeps x0 x1 x2 s).mono (by decide) (by decide)
  | fioFaultScan => exact (execFioFaultScan_keeps s).mono (by decide) (by decide)
  | fioRescan => exact (execFioRescan_keeps s).mono (by decide) (by decide)
  | fioSupplyCause x0 x1 => exact (execFioSupplyCause_keeps x0 x1 s).mono (by decide) (by decide)
  | fioInputRange x0 x1 x2 => exact (execFioInputRange_keeps x0 x1 x2 s).mono (by decide) (by decide)
  | inputSample x0 x1 => exact (execInputSample_keeps x0 x1 s).mono (by decide) (by decide)
  | cyclicBurst x0 x1 => exact (execCyclicBurst_keeps x0 x1 s).mono (by decide) (by decide)
  | analogConvert x0 x1 => exact (execAnalogConvert_keeps x0 x1 s).mono (by decide) (by decide)
  | adcCalibrate x0 x1 => exact (execAdcCalibrate_keeps x0 x1 s).mono (by decide) (by decide)
  | snsOpen x0 x1 => exact (execSnsOpen_keeps x0 x1 s).mono (by decide) (by decide)
  | snsClose x0 x1 x2 x3 => exact (execSnsClose_keeps x0 x1 x2 x3 s).mono (by decide) (by decide)
  | streamRelease x0 x1 => exact (execStreamRelease_keeps x0 x1 s).mono (by decide) (by decide)
  | snsRead x0 x1 => exact (execSnsRead_keeps x0 x1 s).mono (by decide) (by decide)
  | blockComplete x0 x1 x2 x3 => exact (execBlockComplete_keeps x0 x1 x2 x3 s).mono (by decide) (by decide)
  | windowHandoff x0 x1 => exact (execWindowHandoff_keeps x0 x1 s).mono (by decide) (by decide)
  | scalerStep x0 => exact (execScalerStep_keeps x0 s).mono (by decide) (by decide)
  | scalerRestart x0 => exact (execScalerRestart_keeps x0 s).mono (by decide) (by decide)
  | stormEnd => exact (execStormEnd_keeps s).mono (by decide) (by decide)
  | lossWindowEnd => exact (execLossWindowEnd_keeps s).mono (by decide) (by decide)
  | frameReceive x0 x1 x2 => exact (execFrameReceive_keeps x0 x1 x2 s).mono (by decide) (by decide)
  | frameTransmit x0 x1 => exact (execFrameTransmit_keeps x0 x1 s).mono (by decide) (by decide)
  | gateEntry x0 => exact (execGateEntry_keeps x0 s).mono (by decide) (by decide)
  | agingScan => exact (execAgingScan_keeps s).mono (by decide) (by decide)
  | netTx x0 x1 => exact (execNetTx_keeps x0 x1 s).mono (by decide) (by decide)
  | txTimeout => exact (execTxTimeout_keeps s).mono (by decide) (by decide)
  | rxBuf x0 x1 x2 => exact (execRxBuf_keeps x0 x1 x2 s).mono (by decide) (by decide)
  | flushTable x0 x1 => exact (execFlushTable_keeps x0 x1 s).mono (by decide) (by decide)
  | tblRead x0 => exact (execTblRead_keeps x0 s).mono (by decide) (by decide)
  | tblWrite x0 => exact (execTblWrite_keeps x0 s).mono (by decide) (by decide)
  | tblClear x0 => exact (execTblClear_keeps x0 s).mono (by decide) (by decide)
  | plcaBeaconLoss x0 => exact (execPlcaBeaconLoss_keeps x0 s).mono (by decide) (by decide)
  | t1sSleepReq x0 => exact (execT1sSleepReq_keeps x0 s).mono (by decide) (by decide)
  | canFrameRx x0 x1 => exact (execCanFrameRx_keeps x0 x1 s).mono (by decide) (by decide)
  | busoffRecovered x0 => exact (execBusoffRecovered_keeps x0 s).mono (by decide) (by decide)
  | canTx x0 x1 => exact (execCanTx_keeps x0 x1 s).mono (by decide) (by decide)
  | busFrameSent x0 x1 => exact (execBusFrameSent_keeps x0 x1 s).mono (by decide) (by decide)
  | busTxTimeout x0 x1 => exact (execBusTxTimeout_keeps x0 x1 s).mono (by decide) (by decide)
  | linTx x0 x1 => exact (execLinTx_keeps x0 x1 s).mono (by decide) (by decide)
  | linSched x0 x1 => exact (execLinSched_keeps x0 x1 s).mono (by decide) (by decide)
  | linSlot x0 => exact (execLinSlot_keeps x0 s).mono (by decide) (by decide)
  | linResp x0 x1 => exact (execLinResp_keeps x0 x1 s).mono (by decide) (by decide)
  | linHeaderRx x0 x1 => exact (execLinHeaderRx_keeps x0 x1 s).mono (by decide) (by decide)
  | linResponseRx x0 x1 x2 => exact (execLinResponseRx_keeps x0 x1 x2 s).mono (by decide) (by decide)
  | linGotoSleep x0 => exact (execLinGotoSleep_keeps x0 s).mono (by decide) (by decide)
  | busOnline x0 x1 => exact (execBusOnline_keeps x0 x1 s).mono (by decide) (by decide)
  | busOffline x0 x1 => exact (execBusOffline_keeps x0 x1 s).mono (by decide) (by decide)
  | busSleep x0 x1 => exact (execBusSleep_keeps x0 x1 s).mono (by decide) (by decide)
  | busWake x0 x1 => exact (execBusWake_keeps x0 x1 s).mono (by decide) (by decide)
  | busRecover x0 x1 => exact (execBusRecover_keeps x0 x1 s).mono (by decide) (by decide)
  | tunnelIngress x0 => exact (execTunnelIngress_keeps x0 s).mono (by decide) (by decide)
  | tunnelFlush x0 => exact (execTunnelFlush_keeps x0 s).mono (by decide) (by decide)
  | infResult x0 x1 x2 => exact (execInfResult_keeps x0 x1 x2 s).mono (by decide) (by decide)
  | pairTimeout x0 x1 => exact (execPairTimeout_keeps x0 x1 s).mono (by decide) (by decide)
  | noInputTimeout x0 => exact (execNoInputTimeout_keeps x0 s).mono (by decide) (by decide)
  | lockstepFault x0 x1 => exact (execLockstepFault_keeps x0 x1 s).mono (by decide) (by decide)
  | infLoad x0 x1 => exact (execInfLoad_keeps x0 x1 s).mono (by decide) (by decide)
  | infUnload x0 x1 => exact (execInfUnload_keeps x0 x1 s).mono (by decide) (by decide)
  | infRun x0 x1 => exact (execInfRun_keeps x0 x1 s).mono (by decide) (by decide)
  | jobStart x0 x1 => exact (execJobStart_keeps x0 x1 s).mono (by decide) (by decide)
  | jobEnd x0 x1 => exact (execJobEnd_keeps x0 x1 s).mono (by decide) (by decide)
  | jobWatchdog x0 => exact (execJobWatchdog_keeps x0 s).mono (by decide) (by decide)
  | katStart x0 x1 => exact (execKatStart_keeps x0 x1 s).mono (by decide) (by decide)
  | katEnd x0 x1 x2 => exact (execKatEnd_keeps x0 x1 x2 s).mono (by decide) (by decide)
  | katRetest x0 x1 x2 => exact (execKatRetest_keeps x0 x1 x2 s).mono (by decide) (by decide)
  | contextReload x0 x1 x2 => exact (execContextReload_keeps x0 x1 x2 s).mono (by decide) (by decide)
  | nsCreate x0 => exact (execNsCreate_keeps x0 s).mono (by decide) (by decide)
  | nsDelete x0 => exact (execNsDelete_keeps x0 s).mono (by decide) (by decide)
  | stoRead x0 x1 => exact (execStoRead_keeps x0 x1 s).mono (by decide) (by decide)
  | stoWrite x0 x1 => exact (execStoWrite_keeps x0 x1 s).mono (by decide) (by decide)
  | stoWriteAtomic x0 x1 => exact (execStoWriteAtomic_keeps x0 x1 s).mono (by decide) (by decide)
  | stoTrim x0 x1 => exact (execStoTrim_keeps x0 x1 s).mono (by decide) (by decide)
  | stoFlush x0 x1 => exact (execStoFlush_keeps x0 x1 s).mono (by decide) (by decide)
  | stoStatus x0 x1 => exact (execStoStatus_keeps x0 x1 s).mono (by decide) (by decide)
  | wbDrain x0 x1 x2 => exact (execWbDrain_keeps x0 x1 x2 s).mono (by decide) (by decide)
  | storeMount x0 x1 => exact (execStoreMount_keeps x0 x1 s).mono (by decide) (by decide)
  | checkpoint x0 => exact (execCheckpoint_keeps x0 s).mono (by decide) (by decide)
  | journalFlush x0 => exact (execJournalFlush_keeps x0 s).mono (by decide) (by decide)
  | retentionUpdate x0 => exact (execRetentionUpdate_keeps x0 s).mono (by decide) (by decide)
  | refresh x0 x1 x2 => exact (execRefresh_keeps x0 x1 x2 s).mono (by decide) (by decide)
  | garbageCollection x0 x1 x2 x3 x4 x5 => exact (execGarbageCollection_keeps x0 x1 x2 x3 x4 x5 s).mono (by decide) (by decide)
  | powerFail x0 x1 x2 => exact (execPowerFail_keeps x0 x1 x2 s).mono (by decide) (by decide)
  | powerFailStepDone => exact (execPowerFailStepDone_keeps s).mono (by decide) (by decide)
  | holdStop x0 x1 => exact (execHoldStop_keeps x0 x1 s).mono (by decide) (by decide)
  | holdupMeasure x0 x1 x2 x3 => exact (execHoldupMeasure_keeps x0 x1 x2 x3 s).mono (by decide) (by decide)
  | holdLow x0 x1 => exact (execHoldLow_keeps x0 x1 s).mono (by decide) (by decide)
  | secRandom x0 x1 => exact (execSecRandom_keeps x0 x1 s).mono (by decide) (by decide)
  | entropyTimeout => exact (execEntropyTimeout_keeps s).mono (by decide) (by decide)
  | trngStartupDone x0 x1 => exact (execTrngStartupDone_keeps x0 x1 s).mono (by decide) (by decide)
  | seedRewrite => exact (execSeedRewrite_keeps s).mono (by decide) (by decide)
  | trngContinuousFail => exact (execTrngContinuousFail_keeps s).mono (by decide) (by decide)
  | reseedDue => exact (execReseedDue_keeps s).mono (by decide) (by decide)
  | secAesGcm x0 x1 => exact (execSecAesGcm_keeps x0 x1 s).mono (by decide) (by decide)
  | secSha256 x0 x1 => exact (execSecSha256_keeps x0 x1 s).mono (by decide) (by decide)
  | secHkdf x0 x1 => exact (execSecHkdf_keeps x0 x1 s).mono (by decide) (by decide)
  | secEcdsaSign x0 x1 => exact (execSecEcdsaSign_keeps x0 x1 s).mono (by decide) (by decide)
  | secEcdsaVerify x0 x1 => exact (execSecEcdsaVerify_keeps x0 x1 s).mono (by decide) (by decide)
  | secMldsaVerify x0 x1 => exact (execSecMldsaVerify_keeps x0 x1 s).mono (by decide) (by decide)
  | secKeyLoad x0 x1 => exact (execSecKeyLoad_keeps x0 x1 s).mono (by decide) (by decide)
  | secKeyClear x0 x1 => exact (execSecKeyClear_keeps x0 x1 s).mono (by decide) (by decide)
  | secCmac x0 x1 => exact (execSecCmac_keeps x0 x1 s).mono (by decide) (by decide)
  | secPubkey x0 x1 => exact (execSecPubkey_keeps x0 x1 s).mono (by decide) (by decide)
  | keyProvision x0 x1 => exact (execKeyProvision_keeps x0 x1 s).mono (by decide) (by decide)
  | msecInstall x0 x1 => exact (execMsecInstall_keeps x0 x1 s).mono (by decide) (by decide)
  | msecRetire x0 x1 => exact (execMsecRetire_keeps x0 x1 s).mono (by decide) (by decide)
  | updVerify x0 x1 x2 => exact (execUpdVerify_keeps x0 x1 x2 s).mono (by decide) (by decide)
  | updArm x0 x1 => exact (execUpdArm_keeps x0 x1 s).mono (by decide) (by decide)
  | updDisarm x0 x1 => exact (execUpdDisarm_keeps x0 x1 s).mono (by decide) (by decide)
  | updConfirm x0 x1 => exact (execUpdConfirm_keeps x0 x1 s).mono (by decide) (by decide)
  | dbgAuthChallenge => exact (execDbgAuthChallenge_keeps s).mono (by decide) (by decide)
  | dbgAuthResponse x0 => exact (execDbgAuthResponse_keeps x0 s).mono (by decide) (by decide)
  | tallyWrite => exact (execTallyWrite_keeps s).mono (by decide) (by decide)
  | tlySelWrite x0 x1 => exact (execTlySelWrite_keeps x0 x1 s).mono (by decide) (by decide)
  | tlyMarkWrite x0 x1 => exact (execTlyMarkWrite_keeps x0 x1 s).mono (by decide) (by decide)
  | eccError x0 x1 x2 x3 => exact (execEccError_keeps x0 x1 x2 x3 s).mono (by decide) (by decide)
  | scrub x0 x1 x2 => exact (execScrub_keeps x0 x1 x2 s).mono (by decide) (by decide)
  | linkReplay x0 x1 => exact (execLinkReplay_keeps x0 x1 s).mono (by decide) (by decide)
  | linkRetrain x0 x1 => exact (execLinkRetrain_keeps x0 x1 s).mono (by decide) (by decide)
  | linkLost x0 => exact (execLinkLost_keeps x0 s).mono (by decide) (by decide)
  | sidebandParityLoss => exact (execSidebandParityLoss_keeps s).mono (by decide) (by decide)
  | onfiLoss => exact (execOnfiLoss_keeps s).mono (by decide) (by decide)
  | heldEventDelivery x0 => exact (execHeldEventDelivery_keeps x0 s).mono (by decide) (by decide)
  | evtInjArm x0 x1 => exact (execEvtInjArm_keeps x0 x1 s).mono (by decide) (by decide)
  | evtRaise x0 x1 => exact (execEvtRaise_keeps x0 x1 s).mono (by decide) (by decide)
  | sealSetApply x0 x1 => exact (execSealSetApply_keeps x0 x1 s).mono (by decide) (by decide)
  | feedUndervoltage x0 x1 x2 => exact (execFeedUndervoltage_keeps x0 x1 x2 s).mono (by decide) (by decide)
  | feedOvervoltage x0 x1 x2 => exact (execFeedOvervoltage_keeps x0 x1 x2 s).mono (by decide) (by decide)
  | feedRecover x0 x1 x2 => exact (execFeedRecover_keeps x0 x1 x2 s).mono (by decide) (by decide)
  | rcRegisterRead x0 x1 x2 => exact (execRcRegisterRead_keeps x0 x1 x2 s).mono (by decide) (by decide)
  | registerWrite x0 x1 x2 x3 => exact (execRegisterWrite_keeps x0 x1 x2 x3 s).mono (by decide) (by decide)
  | plcaBeaconReturn x0 => exact (execPlcaBeaconReturn_keeps x0 s).mono (by decide) (by decide)
  | holdPrechargeTrip => exact (execHoldPrechargeTrip_keeps s).mono (by decide) (by decide)
  | linkPgoodLost => exact (execLinkPgoodLost_keeps s).mono (by decide) (by decide)
  | preRegulatorInputReturn x0 x1 => exact (execPreRegulatorInputReturn_keeps x0 x1 s).mono (by decide) (by decide)
  | infLoadComplete x0 x1 x2 => exact (execInfLoadComplete_keeps x0 x1 x2 s).mono (by decide) (by decide)
  | stoCommandComplete x0 x1 x2 x3 => exact (execStoCommandComplete_keeps x0 x1 x2 x3 s).mono (by decide) (by decide)
  | linkRecoveryRetry x0 x1 => exact (execLinkRecoveryRetry_keeps x0 x1 s).mono (by decide) (by decide)

end Sys2Proof.Machine
end

