-- ==== Sys2Proof/Tests/Slice0.lean ====
section
/-! SUPPORT.
The model's own tests: well-formedness refuses an ill-formed term for each of its checks; values that the spec's worked examples
state; and, for every clause of the statements that has hypotheses, a concrete state and operands that meet all of them together.
-/

set_option Elab.async false
set_option linter.unusedVariables false
namespace Sys2Proof.Tests
open Sys2Proof Sys2Proof.Machine

/-- The device awake: the control die runs partition software in RUN, and no wake sequence is in progress. -/
def awake : State :=
  { State.reset with now := 2 ^ 42, pwr := { ps := .run, cd := .run, ldUp := true, armed := true, seq := none, bootDone := true } }

/-- A descriptor's header: partition 0, ring 0. -/
def hdr : DHdr := ⟨0, 0, 7, 1, 0, false, false, false⟩

/-- A descriptor's 64 bytes, of which the listed ones differ from zero. -/
def body (l : List (Nat × Nat)) : List Byte :=
  (List.range 64).map (fun i => BitVec.ofNat 8 (tabGet 0 l i))


/-- The device awake with one accepted descriptor, which its engine serves next. -/
def queued (eng op : Nat) (b : List Byte) : State :=
  { awake with rng := { awake.rng with work := [⟨eng, hdr, op, false, 0, 2000, false, false, b, false, none⟩] } }


/-- A Zilek frame: header fields, then the body. -/
def zframe (typ auth dst src part seq : Nat) (b : List Byte) : List Byte :=
  [0x10 + typ, auth, dst, src, part, 0, seq / 256, seq, b.length / 256, b.length, 0, 0].map (BitVec.ofNat 8) ++ b

/-- A frame's body of n bytes, of which the listed ones differ from zero. -/
def zbody (n : Nat) (l : List (Nat × Nat)) : List Byte := (List.range n).map (fun i => BitVec.ofNat 8 (tabGet 0 l i))

/-- What R116 reads from a frame. -/
def zOf (f : List Byte) : Zk := (parseZilek f).getD ⟨0, false, 0, 0, 0, 0, [], []⟩

/-- Partition 1 is attached from the unit at address 5. -/
def remote : State :=
  { awake with par := { awake.par with applied := true, entries := [defaultEntry, { defaultEntry with part := 1, home := 2, addr := 5 }] } }.wr
    CHN_ATTACH_ATTACHED 2

theorem zOf_eq {f : List Byte} (h : (parseZilek f).isSome = true) : parseZilek f = some (zOf f) := by
  unfold zOf; cases hp : parseZilek f with
  | none => rw [hp] at h; cases h
  | some z => rfl

/-- The maintenance key is filled. -/
def keyed : State := awake.wr SEC_KEY_STATE_FILLED 32

/-- A MAINT request of an operation with counter value 1, from its header up to its tag. -/
def mbare (op : Nat) : List Byte :=
  [0x17, 1, 62, 5, 1, 0, 0, 0, 0, 40, 0, 0].map (BitVec.ofNat 8) ++ zbody 32 [(0, op), (23, 1)]

/-- The request with its tag (R130). -/
def mreq (op : Nat) : List Byte := mbare op ++ maintTag 0 (mbare op)
theorem tag_of {s : State} {z : Zk} {k : BitVec 128} (hk : maintKey s = some k) (ha : z.auth = true)
    (hc : s.rd CHN_MAINT_CTR_MCTR_LAST < beAt z.body 20 4)
    (ht : slice z.body (tagAt z) 8 = maintTag k (z.head ++ z.body.take (tagAt z))) : tagValid s z = true := by
  unfold tagValid; rw [hk]; simp [ha, hc, ht]

theorem test_tag : slice (zOf (mreq 4)).body (tagAt (zOf (mreq 4))) 8 = maintTag 0 ((zOf (mreq 4)).head ++ (zOf (mreq 4)).body.take (tagAt (zOf (mreq 4)))) := by rfl
theorem test_asked : Asked keyed (mreq 4) 4 (zOf (mreq 4)) := ⟨zOf_eq (by decide +kernel), by decide +kernel, by decide +kernel, by decide +kernel, by decide +kernel⟩
theorem test_tagv : tagValid keyed (zOf (mreq 4)) = true := tag_of (k := 0) (by decide +kernel) (by decide +kernel) (by decide +kernel) test_tag

/-- Partition 0 runs. -/
def running : State := awake.wr (PAR_STATE_STATE 0) 2

theorem withData_of {s t : State} {eng op addr len a : Nat} {h : DHdr} {d : List Byte}
    (ht : translate s h.part.val addr len 0 = some a) (hf : fetchData s h.part.val a len = (t, some d)) :
    ∀ f, withData s eng h op addr len f = f t d := by
  intro f; unfold withData; rw [ht]; dsimp only; rw [hf]

/-- The same on a ring of its own. -/
def queuedOn (ring : Fin 4) (eng op : Nat) (b : List Byte) : State :=
  { awake with rng := { awake.rng with work := [⟨eng, { hdr with ring := ring }, op, false, 0, 2000, false, false, b, false, none⟩] } }

theorem withIn_of {s t : State} {op addr len a : Nat} {h : DHdr} {d : List Byte} (hl : len ≠ 0)
    (ht : translate s h.part.val addr len 0 = some a) (hf : fetchData s h.part.val a len = (t, some d)) :
    ∀ f, withIn s h op addr len f = f t d := by
  intro f; unfold withIn; rw [if_neg hl]; exact withData_of ht hf f

/-- Bytes of an image that a test places. -/
def image0 : List Host.Cell :=
  [(0x10000000, 49), (0x10000001, 80), (0x10000002, 77), (0x10000003, 76), (0x10000004, 1), (0x10000008, 20),
    (0x10000010, 186), (0x10000011, 58), (0x10000012, 79), (0x10000013, 70)]

/-- Bytes of an image that a test places. -/
def image1 : List Byte :=
  [49, 80, 77, 76, 1, 0, 0, 0, 20, 0, 0, 0, 0, 0, 0, 0, 186, 58, 79, 70]

/-- Bytes of an image that a test places. -/
def image2 : List Host.Cell :=
  [(0x10000000, 49), (0x10000001, 89), (0x10000002, 76), (0x10000003, 80), (0x10000004, 1), (0x10000006, 1),
    (0x1000000c, 52), (0x1000000d, 1), (0x10000021, 4), (0x1000002c, 1), (0x10000030, 1), (0x10000034, 255),
    (0x10000035, 255), (0x10000038, 1), (0x1000003c, 255), (0x1000003d, 255), (0x10000040, 1), (0x10000044, 255),
    (0x10000045, 255), (0x10000048, 1), (0x1000004c, 255), (0x1000004d, 255), (0x10000050, 1), (0x10000054, 255),
    (0x10000055, 255), (0x10000058, 1), (0x1000005c, 255), (0x1000005d, 255), (0x10000060, 1), (0x10000064, 255),
    (0x10000065, 255), (0x10000130, 204), (0x10000131, 96), (0x10000132, 79), (0x10000133, 123)]

/-- Bytes of an image that a test places. -/
def image3 : List Host.Cell :=
  [(0x10000002, 32), (0x10000010, 4), (0x10000014, 130), (0x10000015, 33), (0x10000016, 228), (0x10000017, 149)]

/-- Bytes of an image that a test places. -/
def image4 : List Byte :=
  [49, 76, 68, 77, 1, 0, 1, 0, 1, 0, 0, 0, 137, 0, 0, 0, 64, 0, 0, 0, 49, 0, 0, 0, 0, 0, 0, 0, 0, 0, 0, 0, 128,
    0, 0, 0, 5, 0, 0, 0] ++
  [0, 0, 0, 0, 0, 0, 0, 0, 0, 0, 0, 0, 0, 0, 0, 0, 0, 0, 0, 0, 0, 0, 0, 0, 1, 0, 1, 0, 1, 0, 0, 0, 0, 0, 0, 0, 0,
    0, 0, 0] ++
  [2, 0, 1, 0, 1, 0, 1, 0, 1, 1, 0, 0, 48, 0, 0, 0, 1, 0, 0, 0, 255, 255, 255, 255, 0, 0, 0, 0, 0, 0, 0, 0, 3, 0,
    0, 0, 0, 0, 0, 0] ++
  [0, 0, 0, 0, 0, 0, 0, 0, 2, 6, 0, 6, 0, 226, 145, 255, 254]

/-- Bytes of an image that a test places. -/
def image5 : List Host.Cell :=
  [(0x10000000, 49), (0x10000001, 76), (0x10000002, 68), (0x10000003, 77), (0x10000004, 1), (0x10000006, 1),
    (0x10000008, 1), (0x1000000c, 137), (0x10000010, 64), (0x10000014, 49), (0x10000020, 128), (0x10000024, 5)]

/-- Bytes of an image that a test places. -/
def image6 : List Byte :=
  [49, 76, 68, 77, 1, 0, 1, 0, 1, 0, 0, 0, 137, 0, 0, 0, 64, 0, 0, 0, 49, 0, 0, 0, 0, 0, 0, 0, 0, 0, 0, 0, 128,
    0, 0, 0, 5, 0, 0, 0] ++
  [0, 0, 0, 0, 0, 0, 0, 0, 0, 0, 0, 0, 0, 0, 0, 0, 0, 0, 0, 0, 0, 0, 0, 0]

/-- Bytes of an image that a test places. -/
def image7 : List Host.Cell :=
  [(0x10000000, 49), (0x10000001, 76), (0x10000002, 68), (0x10000003, 77), (0x10000004, 1), (0x10000006, 1),
    (0x10000008, 1), (0x1000000c, 137), (0x10000010, 64), (0x10000014, 49), (0x10000020, 128), (0x10000024, 5),
    (0x10000040, 1), (0x10000042, 1), (0x10000044, 1), (0x10000050, 2), (0x10000052, 1), (0x10000054, 1),
    (0x10000056, 1), (0x10000058, 1), (0x10000059, 1), (0x1000005c, 48), (0x10000060, 1), (0x10000064, 255),
    (0x10000065, 255), (0x10000066, 255), (0x10000067, 255), (0x10000070, 3), (0x10000080, 2), (0x10000081, 6),
    (0x10000083, 6), (0x10000085, 226), (0x10000086, 145), (0x10000087, 255), (0x10000088, 254)]

/-- Bytes of an image that a test places. -/
def image8 : List Host.Cell :=
  [(0x10000000, 1), (0x10000002, 1), (0x10000003, 1)]

/-- Bytes of an image that a test places. -/
def image9 : List Byte :=
  [0, 0, 0, 0, 0, 0, 0, 0, 0, 0, 0, 0, 34, 240, 130, 128, 0, 1, 0, 0, 0, 0, 0, 0, 0, 5, 0, 0, 0, 0, 0, 0, 0, 0,
    0, 0, 0, 0, 0, 0] ++
  [0, 0, 0, 0, 0, 0, 0, 0, 0, 0, 0, 0]

/-- Bytes of an image that a test places. -/
def image10 : List Host.Cell :=
  [(0x10000000, 49), (0x10000001, 84), (0x10000002, 83), (0x10000003, 83), (0x10000004, 1), (0x1000000c, 52),
    (0x10000030, 11), (0x10000031, 251), (0x10000032, 184), (0x10000033, 221)]

/-! ### Ill-formed commands -/

theorem test_wf_refuses_0 :
    ([.powerOnReset (2 ^ 16),
      .bypassEngage 0 (2 ^ 16),
      .bypassEngage 6 0,
      .xsRatioCheck (2 ^ 32),
      .lpoCalibrate (2 ^ 32),
      .ignChange (2 ^ 16) 0,
      .ignChange 0 (2 ^ 32),
      .crashEdge (2 ^ 16) 0,
      .crashEdge 0 (2 ^ 32),
      .holdLate (2 ^ 16)] : List Instr).all (fun i => !i.wf) = true := by
  decide +kernel

theorem test_wf_refuses_1 :
    ([.xfLate (2 ^ 16),
      .cdStart (2 ^ 12),
      .discover 0 [],
      .announce 0 [],
      .assign 0 [],
      .confirm 0 [],
      .cruiseDone 0 [],
      .doorbellFrame 0 [] false,
      .readRsp 0 [] false,
      .readTimeout 0 (2 ^ 32)] : List Instr).all (fun i => !i.wf) = true := by
  decide +kernel

theorem test_wf_refuses_2 :
    ([.heartbeat 0 [] false,
      .attachReq 0 [] false,
      .detachReq 0 [] false,
      .ident 0 [],
      .maintStatus 0 [],
      .tallyRead 0 [],
      .tallyClear 0 [],
      .maintSparReset 0 [],
      .maintDeviceReset 0 [],
      .bypassOn 0 []] : List Instr).all (fun i => !i.wf) = true := by
  decide +kernel

theorem test_wf_refuses_3 :
    ([.bypassOff 0 [],
      .bypassLeave .p0 0 (2 ^ 16),
      .orphanTimeout ⟨9, 0⟩,
      .orphanBrakeEnd ⟨9, 0⟩,
      .nop hdr 0 [],
      .cancel hdr 0 [],
      .actSet hdr [],
      .actPulse hdr [],
      .actPwm hdr [],
      .actProfile hdr []] : List Instr).all (fun i => !i.wf) = true := by
  decide +kernel

theorem test_wf_refuses_4 :
    ([.actBridge hdr [],
      .actSequence hdr [],
      .actRestart hdr [],
      .actGrant hdr [],
      .actClaim hdr [],
      .actStatus hdr [],
      .safeAction hdr [],
      .pulseTrainEnd ⟨9, 0⟩,
      .profileSegmentEnd ⟨9, 0⟩,
      .hsOvercurrent ⟨9, 0⟩ 0] : List Instr).all (fun i => !i.wf) = true := by
  decide +kernel

theorem test_wf_refuses_5 :
    ([.hsOvercurrent ⟨1, 0⟩ (2 ^ 24),
      .tempSample ⟨9, 0⟩ 0,
      .inrushEnd ⟨9, 0⟩,
      .retryRestart ⟨9, 0⟩,
      .retryCountReset ⟨9, 0⟩,
      .openLoadChange ⟨9, 0⟩ 0 0 0 0 0,
      .openLoadChange ⟨1, 0⟩ (2 ^ 24) 0 0 0 0,
      .openLoadChange ⟨1, 0⟩ 0 (2 ^ 24) 0 0 0,
      .openLoadChange ⟨1, 0⟩ 0 0 (2 ^ 16) 0 0,
      .openLoadChange ⟨1, 0⟩ 0 0 0 (2 ^ 24) 0] : List Instr).all (fun i => !i.wf) = true := by
  decide +kernel

theorem test_wf_refuses_6 :
    ([.openLoadChange ⟨1, 0⟩ 0 0 0 0 (2 ^ 24),
      .rippleAccept 0 (2 ^ 32) 0,
      .rippleAccept 0 0 (2 ^ 24),
      .stall 0 (2 ^ 16) 0,
      .stall 0 0 (2 ^ 24),
      .hbOvercurrent 0 false (2 ^ 24),
      .hbOpenChange 0 (2 ^ 24) 0,
      .hbOpenChange 0 0 (2 ^ 24),
      .svOvercurrent 0 (2 ^ 24),
      .kerfFound 0 [2 ^ 16]] : List Instr).all (fun i => !i.wf) = true := by
  decide +kernel

theorem test_wf_refuses_7 :
    ([.kerfWindowEnd 0 [2 ^ 16],
      .svShare 0 (2 ^ 24) 0,
      .svShare 0 0 (2 ^ 24),
      .svOpenChange 0 (2 ^ 24) 0,
      .svOpenChange 0 0 (2 ^ 24),
      .ledTest 0 (some ⟨2 ^ 32, 0, none⟩),
      .ledTest 0 (some ⟨0, 2 ^ 16, none⟩),
      .ledTest 0 (some ⟨0, 0, some (0, 0, 2 ^ 16)⟩),
      .ledHeadroom 0 (2 ^ 16) 0,
      .ledHeadroom 0 0 (2 ^ 32)] : List Instr).all (fun i => !i.wf) = true := by
  decide +kernel

theorem test_wf_refuses_8 :
    ([.ledDerateUpdate 0 0 [2 ^ 32],
      .fioInputAccept 0 (2 ^ 16) 0,
      .fioInputAccept 0 0 (2 ^ 32),
      .fioSupplyCause (2 ^ 16) 0,
      .fioSupplyCause 0 (2 ^ 32),
      .fioInputRange 0 (2 ^ 16) 0,
      .fioInputRange 0 0 (2 ^ 32),
      .inputSample [] 0,
      .inputSample (List.replicate 48 (2 ^ 16)) 0,
      .inputSample (List.replicate 48 0) (2 ^ 16)] : List Instr).all (fun i => !i.wf) = true := by
  decide +kernel

theorem test_wf_refuses_9 :
    ([.cyclicBurst [] 0,
      .cyclicBurst (List.replicate 48 (2 ^ 16)) 0,
      .cyclicBurst (List.replicate 48 0) (2 ^ 16),
      .analogConvert 0 (2 ^ 16),
      .snsOpen hdr [],
      .snsClose hdr [] [] 0,
      .streamRelease hdr [],
      .snsRead hdr [],
      .scalerStep ⟨[⟨⟨9, 0⟩, 0, 0, 0, 0, 0, 0, 0, 0, 0⟩], 0, 0, 0, 0, 0, 0, 0⟩,
      .frameReceive 0 [] false] : List Instr).all (fun i => !i.wf) = true := by
  decide +kernel

theorem test_wf_refuses_10 :
    ([.netTx hdr [],
      .rxBuf false hdr [],
      .flushTable hdr [],
      .canFrameRx 0 (.frame (List.replicate 2073 0)),
      .canTx hdr [],
      .linTx hdr [],
      .linSched hdr [],
      .linResp hdr [],
      .linResponseRx 0 (List.replicate 10 0) false,
      .busOnline hdr []] : List Instr).all (fun i => !i.wf) = true := by
  decide +kernel

theorem test_wf_refuses_11 :
    ([.busOffline hdr [],
      .busSleep hdr [],
      .busWake hdr [],
      .busRecover hdr [],
      .tunnelIngress [],
      .infResult 0 (2 ^ 32) [],
      .pairTimeout 0 (2 ^ 32),
      .lockstepFault 0 (2 ^ 64),
      .infLoad hdr [],
      .infUnload hdr []] : List Instr).all (fun i => !i.wf) = true := by
  decide +kernel

theorem test_wf_refuses_12 :
    ([.infRun hdr [],
      .jobStart 0 (2 ^ 32),
      .contextReload 0 (2 ^ 32) 0,
      .contextReload 0 0 (2 ^ 32),
      .stoRead hdr [],
      .stoWrite hdr [],
      .stoWriteAtomic hdr [],
      .stoTrim hdr [],
      .stoFlush hdr [],
      .stoStatus hdr []] : List Instr).all (fun i => !i.wf) = true := by
  decide +kernel

theorem test_wf_refuses_13 :
    ([.powerFail 0 0 (2 ^ 16),
      .holdupMeasure 0 (2 ^ 16) 0 false,
      .holdupMeasure 0 0 (2 ^ 16) false,
      .holdupMeasure (2 ^ 16) 0 0 false,
      .secRandom hdr [],
      .trngStartupDone false (2 ^ 16),
      .secAesGcm hdr [],
      .secSha256 hdr [],
      .secHkdf hdr [],
      .secEcdsaSign hdr []] : List Instr).all (fun i => !i.wf) = true := by
  decide +kernel

theorem test_wf_refuses_14 :
    ([.secEcdsaVerify hdr [],
      .secMldsaVerify hdr [],
      .secKeyLoad hdr [],
      .secKeyClear hdr [],
      .secCmac hdr [],
      .secPubkey hdr [],
      .keyProvision hdr [],
      .msecInstall hdr [],
      .msecRetire hdr [],
      .updVerify hdr [] false] : List Instr).all (fun i => !i.wf) = true := by
  decide +kernel

theorem test_wf_refuses_15 :
    ([.updArm hdr [],
      .updDisarm hdr [],
      .updConfirm hdr [],
      .eccError 0 false (2 ^ 40) .nowhere,
      .scrub 0 (2 ^ 40) none,
      .feedUndervoltage 0 (2 ^ 16) 0,
      .feedUndervoltage 0 0 (2 ^ 32),
      .feedOvervoltage 0 (2 ^ 16) 0,
      .feedOvervoltage 0 0 (2 ^ 32),
      .feedRecover 0 (2 ^ 16) 0] : List Instr).all (fun i => !i.wf) = true := by
  decide +kernel

theorem test_wf_refuses_16 :
    ([.feedRecover 0 0 (2 ^ 32),
      .rcRegisterRead .p0 0 3,
      .rcRegisterRead .p0 (2 ^ 40) 4,
      .registerWrite .p0 0 3 0,
      .registerWrite .p0 (2 ^ 40) 4 0,
      .infLoadComplete 0 (2 ^ 32) 0,
      .infLoadComplete 0 0 (2 ^ 32)] : List Instr).all (fun i => !i.wf) = true := by
  decide +kernel

/-! ### The spec's worked examples -/

/-- The heater of chapter 9: 60 % at 13.0 V is 48.90 % at 14.4 V and 83.80 % at 11.0 V. -/
theorem test_compensated_duty :
    compDuty { awake with scl := { awake.scl with feeds := [(feedIdx ⟨1, 3⟩, 14400)] } } ⟨1, 3⟩ 6000 = 4890 ∧
    compDuty { awake with scl := { awake.scl with feeds := [(feedIdx ⟨1, 3⟩, 11000)] } } ⟨1, 3⟩ 6000 = 8380 := by decide +kernel

/-- The lamp of chapter 9: LATCH 0 of a medium channel is 5.0 A, and 10.0 A in its inrush window with INRUSH_MULT 1. -/
theorem test_latch_threshold :
    latchUa ((awake.wr (HS_CFG_LATCH 12) 0).wr (HS_CFG_INRUSH_MULT 12) 1) ⟨1, 12⟩ = 5000000 ∧
    latchUa (((awake.wr (HS_CFG_LATCH 12) 0).wr (HS_CFG_INRUSH_MULT 12) 1).put (HS_STATE_INRUSH 12) true) ⟨1, 12⟩ = 10000000 := by
  decide +kernel

/-- The strips of chapter 12: a duty of 4,000 is 1,638 of 4,096 steps. -/
theorem test_led_steps :
    (ledOut { awake with chs := [(chKey ⟨4, 0⟩, { drv := .pwm ⟨1000, 4000, 0, false, false, 0⟩, level := some 200 })] } ⟨4, 0⟩).2.1
      = 1638 := by decide +kernel

/-- Chapter 12's derating example: 874 Ω of a 10 kΩ sensor with B 3,435 is 105 °C. -/
theorem test_ntc_temperature : ntcTemp 874 10000 3435 = some 210 := by decide +kernel

/-- The grant of chapter 20's example. -/
theorem test_grant : grantOf 24000 320 500 512 = 512 := by decide +kernel

/-- The position resistor of chapter 5's example is code 5. -/
theorem test_position_code : posCode 1407 = 5 := by decide +kernel

/-- The standard check value of CRC-32C (RFC 3720): of the text 123456789. -/
theorem test_crc : crc32c (ascii "123456789") = 0xE3069283 := by decide +kernel

/-! ### Hypotheses that are met -/

theorem witness_StepRunsTheCommand_0 : ∃ (s : State) (c : Instr) (q : List Instr), s.pending = c :: q :=
  ⟨{ awake with pending := [.xfReady] }, .xfReady, [], rfl⟩

theorem witness_StepAlwaysAnswers_1 : ∃ s : State, s.pending = [] := ⟨awake, rfl⟩

theorem witness_StepKeepsSound_0 : ∃ s t : State, Inv s ∧ step s = .next t :=
  ⟨State.reset, idle State.reset, ⟨by decide +kernel, by decide +kernel⟩, rfl⟩

theorem witness_ResetIsSound_3 : ∃ f : Field, f.reset < 2 ^ 64 ∧ f.key ≠ SPR_RST_CAUSE_CAUSE.key ∧ f.key ≠ STO_FREE_FREE_EXT.key ∧
    f.key ≠ SEC_KEY_STATE_FILLED.key := ⟨SPR_RTC_RTC, by decide +kernel⟩

theorem witness_TallyKept_0 : ∃ (c : Instr) (s t : State), writesTally c = false ∧ exec c s = .next t :=
  ⟨.nop hdr 0 (body []), awake, _, rfl, rfl⟩

theorem witness_AccessCodes_0 : ∃ f : FieldDesc, f.acc = .ro ∨ f.acc = .rc ∨ f.acc = .wo :=
  ⟨⟨0, 1, .ro, 0, .volatile, 0, 1, []⟩, .inl rfl⟩

theorem witness_AccessCodes_1 : ∃ (s : State) (f : FieldDesc), f.acc = .rws ∧ isSealed s = true :=
  ⟨awake.put PAR_SEAL_STATUS_SEALED true, ⟨0, 1, .rws, 0, .volatile, 0, 1, []⟩, rfl, by decide +kernel⟩

theorem witness_AccessCodes_2 : ∃ (s : State) (f : FieldDesc),
    (f.acc = .rw ∨ (f.acc = .rws ∧ isSealed s = false)) ∧ f.lsb + f.width ≤ 32 ∧ f.lsb < 32 :=
  ⟨awake, ⟨0, 32, .rw, 0, .volatile, 0, 1, []⟩, .inl rfl, by decide, by decide⟩

theorem witness_AccessCodes_3 : ∃ (s : State) (base i : Nat) (f : FieldDesc),
    f.acc = .w1c ∧ f.lsb + f.width ≤ 32 ∧ i < f.width ∧ s.rd (fieldOf base f) < 2 ^ f.width :=
  ⟨awake, 0, 31, ⟨0, 32, .w1c, 0, .volatile, 0, 1, []⟩, rfl, by decide, by decide, by decide +kernel⟩

theorem witness_AccessCodes_4 : ∃ (s : State) (base i : Nat) (f : FieldDesc),
    f.acc = .w1s ∧ f.lsb + f.width ≤ 32 ∧ i < f.width ∧ s.rd (fieldOf base f) < 2 ^ f.width :=
  ⟨awake, 0, 31, ⟨0, 32, .w1s, 0, .volatile, 0, 1, []⟩, rfl, by decide, by decide, by decide +kernel⟩

theorem witness_AccessCodes_5 : ∃ (base : Nat) (f : FieldDesc) (k : Field), k.key ≠ (fieldOf base f).key :=
  ⟨0, ⟨0, 32, .rw, 0, .volatile, 0, 1, []⟩, SPR_RTC_RTC, by decide +kernel⟩

/-- A register all of whose fields are RWS. -/
def sealedAt : Nat := 0x80000

theorem witness_SealedRegisters_0 : ∃ (s : State) (off v base : Nat) (hi : Bool) (r : RegDesc), isSealed s = true ∧
    regHit off = some (r, base, hi) ∧ r.fields ≠ [] ∧ (∀ f ∈ r.fields, f.acc = .rws) ∧
    (∃ f ∈ r.fields, reaches f hi = true ∧ merged f hi (s.rd (fieldOf base f)) v ≠ s.rd (fieldOf base f)) :=
  ⟨awake.put PAR_SEAL_STATUS_SEALED true, sealedAt, 0xFF, sealedAt, false, _, by decide +kernel, rfl, by decide +kernel,
    by decide +kernel, by decide +kernel⟩

theorem witness_SealedRegisters_1 : ∃ (s : State) (off v base : Nat) (hi : Bool) (r : RegDesc), isSealed s = true ∧
    regHit off = some (r, base, hi) ∧ r.fields ≠ [] ∧ (∀ f ∈ r.fields, f.acc = .rws) ∧
    (∀ f ∈ r.fields, reaches f hi = true → merged f hi (s.rd (fieldOf base f)) v = s.rd (fieldOf base f)) :=
  ⟨(State.reset).put PAR_SEAL_STATUS_SEALED true, sealedAt, (readWord State.reset ((regHit sealedAt).getD (⟨"", 0, [], 0, []⟩, 0, false)).1 sealedAt false), sealedAt, false, _, by decide +kernel, rfl, by decide +kernel,
    by decide +kernel, by decide +kernel⟩

theorem witness_SafetyIslandWrites_0 : ∃ (s : State) (off : Nat), cdUp s = true ∧ off < 0x1000000 ∧ off % 4 = 0 ∧ off ≠ 0x44 ∧
    off ≠ 0x20008 ∧ off ≠ 0x50024 ∧ off ≠ 0x20000 ∧ off ≠ 0x40000 := ⟨awake, 0xFFFFFC, by decide +kernel⟩

theorem witness_SafetyIslandWrites_1 : ∃ s : State, cdUp s = true := ⟨awake, by decide +kernel⟩

theorem witness_CoreMemory_0 : ∃ (a len : Nat) (s : State), cdUp s = true ∧ 0x10000000 ≤ a ∧ a + len ≤ 0x10C00000 ∧ 0 < len :=
  ⟨0x10BFFFF8, 8, awake, by decide +kernel⟩

theorem witness_CoreMemory_2 : ∃ (a : Nat) (s : State), cdUp s = true ∧ inTcm a = true := ⟨0x20000000, awake, by decide +kernel⟩

theorem witness_CoreMemory_4 : ∃ (a : Nat) (s : State), cdUp s = true ∧ 0x100000000 ≤ a := ⟨0x100000000, awake, by decide +kernel⟩

theorem witness_LatchedPairs_1 : ∃ (x : BitVec 32) (s : State), cdUp s = true ∧ tabFind s.latches 0x14 = some x :=
  ⟨5, { awake with latches := [(0x14, 5)] }, by decide +kernel, rfl⟩

theorem witness_LatchedPairs_2 : ∃ s : State, cdUp s = true ∧ tabFind s.latches 0x14 = none := ⟨awake, by decide +kernel, rfl⟩

theorem witness_TallyQueueDrops_0 : ∃ s : State, s.tly.queue.length < 32 := ⟨awake, by decide +kernel⟩

/-- The device awake with a full tally queue of records of one type. -/
def tallyFull (typ : Nat) : State := { awake with tly := { awake.tly with queue := List.replicate 32 ⟨typ, 0, 0, []⟩ } }

theorem witness_TallyQueueDrops_1 : ∃ (s : State) (typ : Nat) (pl : List Byte) (x : TWait) (l m : List TWait),
    32 ≤ s.tly.queue.length ∧ s.tly.queue ++ [⟨typ, tallyFlags s, rtc s, padTo 32 pl⟩] = l ++ x :: m ∧
    tallyFault x.typ = false ∧ (∀ y ∈ m, tallyFault y.typ = true) :=
  ⟨tallyFull 1, 1, [], _, (tallyFull 1).tly.queue, [], by decide +kernel, rfl, by decide +kernel, by decide +kernel⟩

theorem witness_TallyQueueDrops_2 : ∃ (s : State) (typ : Nat), 32 ≤ s.tly.queue.length ∧ tallyFault typ = true ∧
    (∀ y ∈ s.tly.queue, tallyFault y.typ = true) := ⟨tallyFull 9, 9, by decide +kernel⟩

theorem witness_TallyQueueDrops_3 : ∃ s : State, 32 ≤ s.tly.queue.length := ⟨tallyFull 1, by decide +kernel⟩

theorem witness_CompletionRecords_0 : ∃ (s : State) (eng : Nat) (h : DHdr) (g : Ring) (a : Nat), homeOf s h.part.val ≠ 2 ∧
    g = ringAt s (ringKey h.part.val eng 4) ∧ g.armed = true ∧ (shadowOf s h.part.val).armed = false ∧
    a = g.phys + g.prod % 2 ^ g.size * 32 ∧ 0x10000000 ≤ a ∧ a + 32 ≤ 0x10C00000 :=
  ⟨{ awake with rng := { awake.rng with rings := [(ringKey 0 0 4, { armed := true, phys := 0x10BFFFE0 })] } }, 0, hdr, _, _,
    by decide +kernel, rfl, by decide +kernel, by decide +kernel, rfl, by decide +kernel, by decide +kernel⟩

theorem witness_EventClasses_0 : ∃ (s : State) (p : Nat), partState s p = 0 := ⟨awake, 1, by decide +kernel⟩

theorem witness_EventClasses_1 : ∃ (s : State) (p : Nat), p < 8 ∧ partState s p ≠ 0 ∧ canDeliver s p = false :=
  ⟨running, 0, by decide +kernel⟩

theorem witness_EventClasses_2 : ∃ (s : State) (p : Nat), partState s p ≠ 0 ∧ canDeliver s p = false ∧ (partEv s p).queue.length < 16 :=
  ⟨running, 0, by decide +kernel⟩

theorem witness_EventClasses_3 : ∃ (s : State) (p : Nat) (x : EvRec) (l : List EvRec), partState s p ≠ 0 ∧ canDeliver s p = false ∧
    (partEv s p).queue = x :: l ∧ l.length = 15 :=
  ⟨{ running with evt := { running.evt with parts := [(0, { queue := List.replicate 16 ⟨1, true, 0, 0, 0, []⟩ })] } }, 0,
    ⟨1, true, 0, 0, 0, []⟩, List.replicate 15 ⟨1, true, 0, 0, 0, []⟩, by decide +kernel⟩

theorem witness_EventClasses_4 : ∃ (s : State) (p : Nat), p < 8 ∧ partState s p ≠ 0 ∧ canDeliver s p = true ∧ tokens s p = 0 :=
  ⟨{ running with rng := { running.rng with rings := [(eventKey 0, { armed := true })] }
                  evt := { running.evt with parts := [(0, { used := 1000000000 })] } }, 0, by decide +kernel⟩

theorem witness_ResetCommands_0 :
    ∃ (mv : Nat) (s : State), 4050 ≤ mv :=
  ⟨4050, awake, by decide +kernel⟩

theorem witness_ResetCommands_2 :
    ∃ (fn : Fin 8) (s : State), s.spar.up = true ∧ sparRuns s = true :=
  ⟨0, { awake with spar := { awake.spar with up := true } }, by decide +kernel, by decide +kernel⟩

theorem witness_ResetCommands_3 :
    ∃ (s : State), s.spar.up = false ∧ s.spar.powered = true ∧ s.pwr.ps = .run :=
  ⟨{ awake with spar := { awake.spar with up := false, powered := true }, pwr := { awake.pwr with ps := .run } },
    by decide +kernel, by decide +kernel, by decide +kernel⟩

theorem witness_ControlLosses_0 :
    ∃ (s : State), s.spar.wdgOn = true ∧ cdUp s = true ∧ lasted s s.spar.wdgSince (1000 * s.spar.wdgPeriod) = true :=
  ⟨{ awake with spar := { awake.spar with wdgOn := true } }, by decide +kernel, by decide +kernel, by decide +kernel⟩

theorem witness_ControlLosses_1 :
    ∃ (v : Word) (s : State), cdUp s = true ∧ s.spar.wdgOn = true ∧ v.toNat = 0xA55A ∧ wdgOpen s = true ∧ safFeed s =
      false :=
  ⟨0xA55A, { awake with spar := { awake.spar with wdgOn := true, wdgSince := 2 ^ 42 - 1, wdgPeriod := 1000 } },
    by decide +kernel, by decide +kernel, by decide +kernel, by decide +kernel, by decide +kernel⟩

theorem witness_ControlLosses_2 :
    ∃ (v : Word) (s : State), cdUp s = true ∧ s.spar.wdgOn = true ∧ v.toNat ≠ 0xA55A :=
  ⟨0, { awake with spar := { awake.spar with wdgOn := true } }, by decide +kernel, by decide +kernel, by decide +kernel⟩

theorem witness_ControlLosses_3 :
    ∃ (s : State), cdUp s = true ∧ s.spar.wdgOn = true ∧ s.spar.wdgWarned = false ∧ lasted s s.spar.wdgSince (750 *
      s.spar.wdgPeriod) = true :=
  ⟨{ awake with spar := { awake.spar with wdgOn := true, wdgWarned := false } }, by decide +kernel, by decide +kernel,
    by decide +kernel, by decide +kernel⟩

theorem witness_ControlLosses_4 :
    ∃ (s : State), s.pwr.armed = true ∧ s.pwr.cd = .run :=
  ⟨{ awake with pwr := { awake.pwr with armed := true, cd := .run } }, by decide +kernel, by decide +kernel⟩

theorem witness_ControlLosses_5 :
    ∃ (s : State), s.pwr.armed = true ∧ cdUp s = true :=
  ⟨{ awake with pwr := { awake.pwr with armed := true } }, by decide +kernel, by decide +kernel⟩

theorem witness_ControlLosses_6 :
    ∃ (s : State), s.pwr.ldUp = true ∧ s.pwr.cd = .lost :=
  ⟨{ awake with pwr := { awake.pwr with ldUp := true, cd := .lost } }, by decide +kernel, by decide +kernel⟩

theorem witness_ControlLosses_7 :
    ∃ (cause : Nat) (lost : Nat) (s : State), s.pwr.ldUp = true ∧ s.chain.causes.contains cause = true ∧ s.chain.cut =
      false ∧ bypassed s = false ∧ s.rd CHN_PORT_CFG_RATE0 = s.rd CHN_PORT_CFG_RATE1 ∧ cause ≠ 7 :=
  ⟨3, 0,
    { awake with pwr := { awake.pwr with ldUp := true }, chain := { awake.chain with cut := false, causes := [3] } },
    by decide +kernel, by decide +kernel, by decide +kernel, by decide +kernel, by decide +kernel, by decide +kernel⟩

theorem witness_ControlLosses_8 :
    ∃ (s : State), s.act.interim = true :=
  ⟨{ awake with act := { awake.act with interim := true } }, by decide +kernel⟩

theorem witness_ControlLosses_9 :
    ∃ (s : State), s.pwr.cd = .lost ∧ s.flag EVT_CDLOSS_HALTED = false ∧ s.flag WAK_FAIL_LOCKOUT = false ∧ s.sto.failing
      = false ∧ s.sto.inputLow = false ∧ s.pwr.seq = none ∧ s.spar.commanded = false :=
  ⟨{ awake with pwr := { awake.pwr with cd := .lost, seq := none }, sto := { awake.sto with failing := false, inputLow := false }, spar := { awake.spar with commanded := false } },
    by decide +kernel, by decide +kernel, by decide +kernel, by decide +kernel, by decide +kernel, by decide +kernel,
    by decide +kernel⟩

theorem witness_SlowClocksAndTime_0 :
    ∃ (s : State), sparRuns s = true ∧ s.flag SPR_STATUS_XS_OK = true :=
  ⟨(awake.put SPR_STATUS_XS_OK true), by decide +kernel, by decide +kernel⟩

theorem witness_SlowClocksAndTime_1 :
    ∃ (ratio : Nat) (s : State), sparRuns s = true ∧ 10 * (max ratio s.spar.ratio - min ratio s.spar.ratio) ≤
      s.spar.ratio :=
  ⟨65536000, awake, by decide +kernel, by decide +kernel⟩

theorem witness_SlowClocksAndTime_2 :
    ∃ (ratio : Nat) (s : State), sparRuns s = true ∧ s.spar.ratio < 10 * (max ratio s.spar.ratio - min ratio
      s.spar.ratio) :=
  ⟨0, awake, by decide +kernel, by decide +kernel⟩

theorem witness_SlowClocksAndTime_3 :
    ∃ (ratio : Nat) (s : State), s.spar.up = true ∧ sparRuns s = true ∧ s.spar.xsPass = true :=
  ⟨0, { awake with spar := { awake.spar with up := true, xsPass := true } }, by decide +kernel, by decide +kernel,
    by decide +kernel⟩

theorem witness_SlowClocksAndTime_4 :
    ∃ (s : State), sparRuns s = true ∧ s.spar.xsPass = true :=
  ⟨{ awake with spar := { awake.spar with xsPass := true } }, by decide +kernel, by decide +kernel⟩

theorem witness_SlowClocksAndTime_5 :
    ∃ (hi : Bool) (v : Word) (s : State), cdUp s = true ∧ s.pwr.ps = .run ∧ s.pwr.entry = none ∧ s.flag SPR_STATUS_XS_OK
      = true ∧ s.rd SPR_RTC_RTC < 2 ^ 48 ∧ s.pwr.woke ≠ some s.now :=
  ⟨false, 0, ({ awake with pwr := { awake.pwr with ps := .run, entry := none } }.put SPR_STATUS_XS_OK true),
    by decide +kernel, by decide +kernel, by decide +kernel, by decide +kernel, by decide +kernel, by decide +kernel⟩

theorem witness_SlowClocksAndTime_6 :
    ∃ (hi : Bool) (v : Word) (s : State), cdUp s = true :=
  ⟨false, 0, awake, by decide +kernel⟩

theorem witness_SlowClocksAndTime_7 :
    ∃ (s : State), sparRuns s = true ∧ s.rd SPR_RTC_RTC ≠ s.rd SPR_RTC_ALARM_ALARM :=
  ⟨(awake.wr SPR_RTC_RTC 1), by decide +kernel, by decide +kernel⟩

theorem witness_SlowClocksAndTime_8 :
    ∃ (port : Fin 2) (offset : Int) (s : State), cdUp s = true ∧ s.dt.on = true ∧ (s.flag CHN_PORT_CFG_EXT_CFG = false ∨
      s.chain.cruised = false ∨ port.val = upstream s) ∧ offset.natAbs ≤ s.rd SPR_DT_CFG_STEP_THRESH * 1000 ∧
      offset.natAbs ≤ 1000 :=
  ⟨0, 0, { awake with dt := { awake.dt with on := true } }, by decide +kernel, by decide +kernel, by decide +kernel,
    by decide +kernel, by decide +kernel⟩

theorem witness_SlowClocksAndTime_9 :
    ∃ (port : Fin 2) (offset : Int) (s : State), cdUp s = true ∧ s.dt.on = true ∧ (s.flag CHN_PORT_CFG_EXT_CFG = false ∨
      s.chain.cruised = false ∨ port.val = upstream s) ∧ offset.natAbs ≤ s.rd SPR_DT_CFG_STEP_THRESH * 1000 ∧ 1000 <
      offset.natAbs :=
  ⟨0, 1001, { awake with dt := { awake.dt with on := true } }, by decide +kernel, by decide +kernel, by decide +kernel,
    by decide +kernel, by decide +kernel⟩

theorem witness_SlowClocksAndTime_10 :
    ∃ (port : Fin 2) (offset : Int) (s : State), cdUp s = true ∧ s.dt.on = true ∧ (s.flag CHN_PORT_CFG_EXT_CFG = false ∨
      s.chain.cruised = false ∨ port.val = upstream s) ∧ s.rd SPR_DT_CFG_STEP_THRESH * 1000 < offset.natAbs :=
  ⟨0, 1000000000, { awake with dt := { awake.dt with on := true } }, by decide +kernel, by decide +kernel,
    by decide +kernel, by decide +kernel⟩

theorem witness_SlowClocksAndTime_11 :
    ∃ (s : State), cdUp s = true ∧ s.dt.slewing = true :=
  ⟨{ awake with dt := { awake.dt with slewing := true } }, by decide +kernel, by decide +kernel⟩

theorem witness_SlowClocksAndTime_12 :
    ∃ (s : State), cdUp s = true ∧ s.rd SPR_DT_STATUS_STATE = 2 ∧ lasted s s.dt.syncAt (10000 * s.rd
      SPR_DT_CFG_LOSS_TIME) = true :=
  ⟨(awake.wr SPR_DT_STATUS_STATE 2), by decide +kernel, by decide +kernel, by decide +kernel⟩

theorem witness_FastClocks_0 :
    ∃ (v : Word) (s : State), cdUp s = true ∧ (fieldIn CLK_SRC_SRC_APP v = 1 ∧ locked s 0 = false) :=
  ⟨1, awake, by decide +kernel, by decide +kernel⟩

theorem witness_FastClocks_1 :
    ∃ (v : Word) (s : State), cdUp s = true ∧ locked s 0 = true ∧ locked s 1 = true ∧ (writeWord s 0x10000 v.toNat).regs
      ≠ s.regs :=
  ⟨1, ((awake.put (CLK_STATUS_LOCK 0) true).put (CLK_STATUS_LOCK 1) true), by decide +kernel, by decide +kernel,
    by decide +kernel, by decide +kernel⟩

theorem witness_FastClocks_3 :
    ∃ (v : Word) (s : State), cdUp s = true :=
  ⟨0, awake, by decide +kernel⟩

theorem witness_FastClocks_4 :
    ∃ (pll : Fin 3) (s : State), cdUp s = true ∧ pllEn s pll.val = true ∧ s.flag CLK_STATUS_XF_OK = true :=
  ⟨0, ((awake.put CLK_STATUS_XF_OK true).put CLK_PLL_CFG_PLLA_EN true), by decide +kernel, by decide +kernel,
    by decide +kernel⟩

theorem witness_FastClocks_5 :
    ∃ (pll : Fin 3) (s : State), cdUp s = true ∧ locked s pll.val = true :=
  ⟨0, (awake.put (CLK_STATUS_LOCK 0) true), by decide +kernel, by decide +kernel⟩

theorem witness_FastClocks_6 :
    ∃ (s : State), cdUp s = true ∧ s.flag CLK_STATUS_XF_OK = true :=
  ⟨(awake.put CLK_STATUS_XF_OK true), by decide +kernel, by decide +kernel⟩

theorem witness_FastClocks_7 :
    ∃ (s : State), xfOn s = true :=
  ⟨awake, by decide +kernel⟩

theorem witness_LimpInputsAndTable_0 :
    ∃ (mv : Nat) (heldUs : Nat) (s : State), sparRuns s = true ∧ 1000 * s.rd SPR_LIMP_CTL_IGN_DEB ≤ heldUs ∧ 5500 ≤ mv ∧
      s.flag SPR_LIMP_IN_IGN = false :=
  ⟨5500, 4294967295, awake, by decide +kernel, by decide +kernel, by decide +kernel, by decide +kernel⟩

theorem witness_LimpInputsAndTable_1 :
    ∃ (mv : Nat) (heldUs : Nat) (s : State), sparRuns s = true ∧ 1000 * s.rd SPR_LIMP_CTL_IGN_DEB ≤ heldUs ∧ mv ≤ 2500 ∧
      s.flag SPR_LIMP_IN_IGN = true :=
  ⟨2500, 4294967295, (awake.put SPR_LIMP_IN_IGN true), by decide +kernel, by decide +kernel, by decide +kernel,
    by decide +kernel⟩

theorem witness_LimpInputsAndTable_2 :
    ∃ (mv : Nat) (heldUs : Nat) (s : State), (heldUs < 1000 * s.rd SPR_LIMP_CTL_IGN_DEB ∨ (2500 < mv ∧ mv < 5500)) :=
  ⟨0, 0, awake, by decide +kernel⟩

theorem witness_LimpInputsAndTable_3 :
    ∃ (mv : Nat) (heldUs : Nat) (s : State), sparRuns s = true ∧ 200 ≤ heldUs ∧ 3500 ≤ mv ∧ s.flag SPR_LIMP_IN_CRASH =
      false :=
  ⟨3500, 200, awake, by decide +kernel, by decide +kernel, by decide +kernel, by decide +kernel⟩

theorem witness_LimpInputsAndTable_4 :
    ∃ (mv : Nat) (heldUs : Nat) (s : State), sparRuns s = true ∧ 200 ≤ heldUs ∧ mv ≤ 1500 ∧ s.flag SPR_LIMP_IN_CRASH =
      true :=
  ⟨0, 200, (awake.put SPR_LIMP_IN_CRASH true), by decide +kernel, by decide +kernel, by decide +kernel,
    by decide +kernel⟩

theorem witness_LimpInputsAndTable_5 :
    ∃ (v : Word) (s : State), cdUp s = true ∧ fieldIn SPR_LIMP_IN_CRASH_LATCH v = 1 ∧ s.flag SPR_LIMP_IN_CRASH_LATCH =
      true :=
  ⟨4, (awake.put SPR_LIMP_IN_CRASH_LATCH true), by decide +kernel, by decide +kernel, by decide +kernel⟩

theorem witness_LimpInputsAndTable_6 :
    ∃ (v : Word) (s : State), cdUp s = true ∧ s.flag PAR_SEAL_STATUS_SEALED = false :=
  ⟨0, awake, by decide +kernel, by decide +kernel⟩

theorem witness_LimpInputsAndTable_7 :
    ∃ (v : Word) (s : State), cdUp s = true ∧ s.flag PAR_SEAL_STATUS_SEALED = true ∧ s.pwr.cd = .run ∧ bit v.toNat 0 =
      true :=
  ⟨1, ({ awake with pwr := { awake.pwr with cd := .run } }.put PAR_SEAL_STATUS_SEALED true), by decide +kernel,
    by decide +kernel, by decide +kernel, by decide +kernel⟩

theorem witness_LimpInputsAndTable_8 :
    ∃ (s : State), cdUp s = true ∧ s.flag SPR_LIMP_CTL_RELEASE = true ∧ s.flag SPR_STATUS_LIMP_ACTIVE = true :=
  ⟨((awake.put SPR_LIMP_CTL_RELEASE true).put SPR_STATUS_LIMP_ACTIVE true), by decide +kernel, by decide +kernel,
    by decide +kernel⟩

theorem witness_LimpInputsAndTable_9 :
    ∃ (hb : Fin 8) (s : State), (chn s (master s ⟨2, hb.val⟩)).limpDrive = .drive ∧ (chn s (master s ⟨2, hb.val⟩)).wait
      = none ∧ 1000 * (chn s (master s ⟨2, hb.val⟩)).limpMs ≤ usNow s - (chn s (master s ⟨2, hb.val⟩)).runAt :=
  ⟨0, { awake with chs := [(chKey ⟨2, 0⟩, { limpDrive := .drive })] }, by decide +kernel, by decide +kernel,
    by decide +kernel⟩

theorem witness_LimpInputsAndTable_10 :
    ∃ (hb : Fin 8) (s : State), (chn s (master s ⟨2, hb.val⟩)).limpDrive = .brake ∧ 20000 ≤ usNow s - (chn s (master s
      ⟨2, hb.val⟩)).runAt :=
  ⟨0, { awake with chs := [(chKey ⟨2, 0⟩, { limpDrive := .brake })] }, by decide +kernel, by decide +kernel⟩

theorem witness_LimpInputsAndTable_11 :
    ∃ (v : Word) (b : List Byte) (s : State), cdUp s = true ∧ fieldIn ACT_LIMP_CTL_STAGE v ≠ 0 ∧ s.flag
      ACT_LIMP_CTL_STAGE = false ∧ s.flag PAR_SEAL_STATUS_SEALED = false ∧ limpHeader (readImage s (s.rd
      ACT_LIMP_ADDR_ADDR) 16) = none ∧ limpFault (hbPairWord s) b = none ∧ b = readImage s (s.rd ACT_LIMP_ADDR_ADDR) (leAt
      (readImage s (s.rd ACT_LIMP_ADDR_ADDR) 16) 8 4) :=
  ⟨1, image1, ({ awake with mem := image0 }.wr ACT_LIMP_ADDR_ADDR 0x10000000), by decide +kernel, by decide +kernel,
    by decide +kernel, by decide +kernel, by decide +kernel, by decide +kernel, by decide +kernel⟩

theorem witness_LimpInputsAndTable_12 :
    ∃ (v : Word) (s : State), cdUp s = true ∧ fieldIn ACT_LIMP_CTL_STAGE v ≠ 0 ∧ s.flag ACT_LIMP_CTL_STAGE = false ∧
      s.flag PAR_SEAL_STATUS_SEALED = true :=
  ⟨1, (awake.put PAR_SEAL_STATUS_SEALED true), by decide +kernel, by decide +kernel, by decide +kernel,
    by decide +kernel⟩

theorem witness_LimpInputsAndTable_13 :
    ∃ (w : LimpCopy) (s : State), cdUp s = true ∧ s.act.commitDue = true ∧ s.act.staged = some w ∧ limpUpper (hbPairWord
      s) w.entries = none ∧ limpRuns s = false :=
  ⟨⟨true, 0, [], 0⟩, { awake with act := { awake.act with commitDue := true, staged := some (⟨true, 0, [], 0⟩) } },
    by decide +kernel, by decide +kernel, by decide +kernel, by decide +kernel, by decide +kernel⟩

theorem witness_LimpInputsAndTable_14 :
    ∃ (w : LimpCopy) (s : State), cdUp s = true ∧ s.act.commitDue = true ∧ s.act.staged = some w ∧ limpUpper (hbPairWord
      s) w.entries = none ∧ limpRuns s = true :=
  ⟨⟨true, 0, [], 0⟩, ({ awake with act := { awake.act with commitDue := true, staged := some (⟨true, 0, [], 0⟩) } }.put
    SPR_STATUS_LIMP_ACTIVE true), by decide +kernel, by decide +kernel, by decide +kernel, by decide +kernel,
    by decide +kernel⟩

theorem witness_LimpInputsAndTable_15 :
    ∃ (w : LimpCopy) (o : Nat) (s : State), cdUp s = true ∧ s.act.commitDue = true ∧ s.act.staged = some w ∧ limpUpper
      (hbPairWord s) w.entries = some o :=
  ⟨⟨true, 0, [⟨⟨2, 1⟩, 0, 0, 0, 0, 0, 0⟩], 0⟩, 17,
    (((({ awake with act := { awake.act with commitDue := true, staged := some (⟨true, 0, [⟨⟨2, 1⟩, 0, 0, 0, 0, 0, 0⟩], 0⟩) } }.wr
    (HB_PAIR_PARTNER 0) 1).wr (HB_PAIR_PAIRED 0) 1).wr (HB_PAIR_PARTNER 1) 0).wr (HB_PAIR_PAIRED 1) 1), by decide +kernel,
    by decide +kernel, by decide +kernel, by decide +kernel⟩

theorem witness_PowerStates_0 :
    ∃ (core : Fin 6) (s : State), cdUp s = true ∧ s.pwr.ps = .run ∧ s.rd PWR_NEXT_NEXT = 0 :=
  ⟨0, { awake with pwr := { awake.pwr with ps := .run } }, by decide +kernel, by decide +kernel, by decide +kernel⟩

theorem witness_PowerStates_1 :
    ∃ (core : Fin 6) (s : State), cdUp s = true ∧ s.pwr.ps = .run ∧ s.rd PWR_NEXT_NEXT ≠ 0 ∧ s.pwr.entry = none ∧
      core.val < 4 ∧ coresRest (setCore s core.val .held) [0, 1, 2, 3] = true :=
  ⟨0,
    ({ awake with pwr := { awake.pwr with ps := .run, entry := none, cores := [(1, .wfi), (2, .wfi), (3, .idle)] } }.wr
    PWR_NEXT_NEXT 1), by decide +kernel, by decide +kernel, by decide +kernel, by decide +kernel, by decide +kernel,
    by decide +kernel⟩

theorem witness_PowerStates_2 :
    ∃ (core : Fin 4) (s : State), cdUp s = true ∧ s.pwr.ps = .run ∧ tabGet .run s.pwr.cores core.val = .wfi ∧ lasted s
      (tabGet 0 s.pwr.wfiAt core.val) (s.rd PWR_IDLE_CFG_CORE_IDLE_T / 10) = true :=
  ⟨0, { awake with pwr := { awake.pwr with ps := .run, cores := [(0, .wfi)] } }, by decide +kernel, by decide +kernel,
    by decide +kernel, by decide +kernel⟩

theorem witness_PowerStates_3 :
    ∃ (core : Fin 6) (s : State), cdUp s = true ∧ s.pwr.ps = .run :=
  ⟨0, { awake with pwr := { awake.pwr with ps := .run } }, by decide +kernel, by decide +kernel⟩

theorem witness_PowerStates_4 :
    ∃ (s : State), cdUp s = true ∧ s.flag PWR_CTL_AUTO = true ∧ s.pwr.ps = .run ∧ s.pwr.entry = none ∧ s.rd
      PWR_NEXT_NEXT = 0 ∧ coresRest s [0, 1, 2, 3, 4, 5] = true ∧ s.rng.work.any keepsAwake = false :=
  ⟨({ awake with pwr := { awake.pwr with ps := .run, entry := none, cores := [(0, .wfi), (1, .wfi), (2, .wfi), (3, .idle), (4, .wfi), (5, .wfi)] } }.put
    PWR_CTL_AUTO true), by decide +kernel, by decide +kernel, by decide +kernel, by decide +kernel, by decide +kernel,
    by decide +kernel, by decide +kernel⟩

theorem witness_PowerStates_5 :
    ∃ (v : Word) (s : State), cdUp s = true ∧ fieldIn PWR_NEXT_NEXT v < 4 ∧ s.pwr.entry = none :=
  ⟨0, { awake with pwr := { awake.pwr with entry := none } }, by decide +kernel, by decide +kernel, by decide +kernel⟩

theorem witness_PowerStates_6 :
    ∃ (v : Word) (s : State), cdUp s = true ∧ (fieldIn PWR_NEXT_NEXT v ≥ 4 ∨ s.pwr.entry.isSome = true) :=
  ⟨4, awake, by decide +kernel, by decide +kernel⟩

theorem witness_PowerStates_7 :
    ∃ (v : Word) (s : State), cdUp s = true :=
  ⟨0, awake, by decide +kernel⟩

theorem witness_PowerStates_8 :
    ∃ (v : Word) (s : State), cdUp s = true ∧ fieldIn PWR_SAF_ACK_ACK v = 1 :=
  ⟨1, awake, by decide +kernel, by decide +kernel⟩

theorem witness_PowerStates_9 :
    ∃ (e : Entry) (s : State), cdUp s = true ∧ s.pwr.entry = some e ∧ e.passed = false ∧ (¬ (2 ≤ e.target ∧ alarmPast s
      = true)) ∧ consentMissing s = false ∧ entryBusy s = false ∧ timedPending s e.target = [] :=
  ⟨⟨1, false, false, 0⟩, { awake with pwr := { awake.pwr with entry := some (⟨1, false, false, 0⟩) } },
    by decide +kernel, by decide +kernel, by decide +kernel, by decide +kernel, by decide +kernel, by decide +kernel,
    by decide +kernel⟩

theorem witness_PowerStates_10 :
    ∃ (e : Entry) (s : State), cdUp s = true ∧ s.pwr.entry = some e ∧ e.passed = false ∧ (¬ (2 ≤ e.target ∧ alarmPast s
      = true)) ∧ consentMissing s = false ∧ entryBusy s = false ∧ timedPending s e.target ≠ [] ∧ s.flag PWR_NEXT_FORCE =
      false :=
  ⟨⟨3, false, false, 0⟩,
    { awake with pwr := { awake.pwr with entry := some (⟨3, false, false, 0⟩) }, rng := { awake.rng with work := [⟨ACT, hdr, 0, true, 2 ^ 43, 0, false, false, [], false, none⟩] } },
    by decide +kernel, by decide +kernel, by decide +kernel, by decide +kernel, by decide +kernel, by decide +kernel,
    by decide +kernel, by decide +kernel⟩

theorem witness_PowerStates_11 :
    ∃ (e : Entry) (s : State), cdUp s = true ∧ s.pwr.entry = some e ∧ e.passed = false ∧ lasted s e.since (1000 * s.rd
      PWR_CTL_ENTRY_WAIT) = true ∧ consentMissing s = true :=
  ⟨⟨1, false, false, 0⟩, ({ awake with pwr := { awake.pwr with entry := some (⟨1, false, false, 0⟩) } }.put
    PWR_CTL_SAF_CONSENT true), by decide +kernel, by decide +kernel, by decide +kernel, by decide +kernel,
    by decide +kernel⟩

theorem witness_PowerStates_12 :
    ∃ (e : Entry) (s : State), cdUp s = true ∧ s.pwr.entry = some e ∧ e.passed = false ∧ lasted s e.since (1000 * s.rd
      PWR_CTL_ENTRY_WAIT) = true ∧ consentMissing s = false ∧ entryBusy s = true :=
  ⟨⟨1, false, false, 0⟩,
    { awake with pwr := { awake.pwr with entry := some (⟨1, false, false, 0⟩) }, chs := [(chKey ⟨2, 0⟩, { braking := true })] },
    by decide +kernel, by decide +kernel, by decide +kernel, by decide +kernel, by decide +kernel, by decide +kernel⟩

theorem witness_PowerStates_13 :
    ∃ (e : Entry) (s : State), cdUp s = true ∧ s.pwr.entry = some e ∧ e.passed = true ∧ e.target = 1 ∧ s.pwr.wakeAfter =
      none :=
  ⟨⟨1, false, true, 0⟩, { awake with pwr := { awake.pwr with entry := some (⟨1, false, true, 0⟩), wakeAfter := none } },
    by decide +kernel, by decide +kernel, by decide +kernel, by decide +kernel, by decide +kernel⟩

theorem witness_PowerStates_14 :
    ∃ (e : Entry) (s : State), cdUp s = true ∧ s.pwr.entry = some e ∧ e.passed = true ∧ e.target = 3 ∧ s.pwr.wakeAfter =
      none :=
  ⟨⟨3, false, true, 0⟩, { awake with pwr := { awake.pwr with entry := some (⟨3, false, true, 0⟩), wakeAfter := none } },
    by decide +kernel, by decide +kernel, by decide +kernel, by decide +kernel, by decide +kernel⟩

theorem witness_PowerStates_15 :
    ∃ (s : State), cdUp s = true ∧ s.pwr.ps = .sleep ∧ s.rd PWR_IDLE_CFG_DEEP_AFTER ≠ 0 ∧ s.pwr.entry = none ∧ lasted s
      s.pwr.entryAt (60000000 * s.rd PWR_IDLE_CFG_DEEP_AFTER) = true :=
  ⟨({ awake with pwr := { awake.pwr with ps := .sleep, entry := none } }.wr PWR_IDLE_CFG_DEEP_AFTER 1),
    by decide +kernel, by decide +kernel, by decide +kernel, by decide +kernel, by decide +kernel⟩

theorem witness_PowerStates_16 :
    ∃ (s : State), s.pwr.ps = .deep ∧ s.pwr.seq = none ∧ s.rd PWR_IDLE_CFG_OFF_AFTER ≠ 0 ∧ lasted s s.pwr.entryAt
      (14400000000 * s.rd PWR_IDLE_CFG_OFF_AFTER) = true ∧ alarmPast s = false :=
  ⟨({ awake with pwr := { awake.pwr with ps := .deep, seq := none } }.wr PWR_IDLE_CFG_OFF_AFTER 1), by decide +kernel,
    by decide +kernel, by decide +kernel, by decide +kernel, by decide +kernel⟩

theorem witness_WakeEvents_0 :
    ∃ (code : Fin 16) (index : Fin 64) (sig : WakeSig) (s : State), s.spar.powered = true ∧ s.spar.up = true ∧ sideband
      s = true ∧ filter s code.val sig = some true ∧ armed s code.val index.val = true ∧ (code.val = 6 ∨ code.val = 8) ∧
      s.pwr.ps = .sleep ∧ s.pwr.entry = none ∧ s.pwr.seq = none ∧ s.flag EVT_CDLOSS_HALTED = false ∧ s.flag
      WAK_FAIL_LOCKOUT = false :=
  ⟨6, 0, .pattern 100 100 100 1000,
    (({ awake with spar := { awake.spar with powered := true, up := true }, pwr := { awake.pwr with ps := .sleep, entry := none, seq := none } }.wr
    WAK_ARM_SRC 4).wr WAK_BUS_EN_BUS 1), by decide +kernel, by decide +kernel, by decide +kernel, by decide +kernel,
    by decide +kernel, by decide +kernel, by decide +kernel, by decide +kernel, by decide +kernel, by decide +kernel,
    by decide +kernel⟩

theorem witness_WakeEvents_1 :
    ∃ (code : Fin 16) (index : Fin 64) (sig : WakeSig) (s : State), s.spar.powered = true ∧ s.spar.up = true ∧ sideband
      s = true ∧ filter s code.val sig = some true ∧ armed s code.val index.val = true ∧ (code.val = 6 ∨ code.val = 8) ∧
      s.pwr.ps = .deep ∧ s.pwr.entry = none ∧ s.pwr.seq = none ∧ s.flag EVT_CDLOSS_HALTED = false ∧ s.flag
      WAK_FAIL_LOCKOUT = false :=
  ⟨6, 0, .pattern 100 100 100 1000,
    (({ awake with spar := { awake.spar with powered := true, up := true }, pwr := { awake.pwr with ps := .deep, entry := none, seq := none } }.wr
    WAK_ARM_SRC 4).wr WAK_BUS_EN_BUS 1), by decide +kernel, by decide +kernel, by decide +kernel, by decide +kernel,
    by decide +kernel, by decide +kernel, by decide +kernel, by decide +kernel, by decide +kernel, by decide +kernel,
    by decide +kernel⟩

theorem witness_WakeEvents_2 :
    ∃ (code : Fin 16) (index : Fin 64) (sig : WakeSig) (s : State), s.spar.powered = true ∧ s.spar.up = true ∧ sideband
      s = true ∧ filter s code.val sig = some true ∧ armed s code.val index.val = true ∧ (code.val = 6 ∨ code.val = 8) ∧
      s.flag WAK_FAIL_LOCKOUT = true :=
  ⟨6, 0, .pattern 100 100 100 1000,
    ((({ awake with spar := { awake.spar with powered := true, up := true }, pwr := { awake.pwr with ps := .sleep } }.put
    WAK_FAIL_LOCKOUT true).wr WAK_ARM_SRC 4).wr WAK_BUS_EN_BUS 1), by decide +kernel, by decide +kernel,
    by decide +kernel, by decide +kernel, by decide +kernel, by decide +kernel, by decide +kernel⟩

theorem witness_WakeEvents_3 :
    ∃ (index : Fin 64) (sig : WakeSig) (s : State), s.spar.powered = true ∧ s.flag PWR_PINS_WAKEN_LVL = true ∧
      s.pwr.pinHeld = false ∧ filter s 2 sig = some true :=
  ⟨0, .low 4294967295,
    ({ awake with spar := { awake.spar with powered := true }, pwr := { awake.pwr with pinHeld := false } }.put
    PWR_PINS_WAKEN_LVL true), by decide +kernel, by decide +kernel, by decide +kernel, by decide +kernel⟩

theorem witness_WakeEvents_4 :
    ∃ (code : Fin 16) (index : Fin 64) (sig : WakeSig) (s : State), s.spar.powered = true ∧ s.spar.up = true ∧ sideband
      s = true ∧ filter s code.val sig = some true ∧ armed s code.val index.val = true ∧ (code.val = 7 ∨ code.val = 9) :=
  ⟨9, 0, .phy true,
    (({ awake with spar := { awake.spar with powered := true, up := true }, pwr := { awake.pwr with ps := .sleep } }.wr
    WAK_ARM_SRC 32).wr WAK_BUS_EN_BUS 0x4000), by decide +kernel, by decide +kernel, by decide +kernel, by decide +kernel,
    by decide +kernel, by decide +kernel⟩

theorem witness_WakeEvents_5 :
    ∃ (port : Fin 2) (kHz : Nat) (mV : Nat) (onUs : Nat) (offUs : Nat) (periods : Nat) (s : State), 2500 ≤ kHz ∧ kHz ≤
      3750 ∧ 200 ≤ mV ∧ 240 ≤ onUs ∧ onUs ≤ 360 ∧ 80 ≤ offUs ∧ offUs ≤ 120 ∧ 3 ≤ periods ∧ s.spar.powered = true ∧
      s.spar.up = true ∧ sideband s = true ∧ armed s 10 port.val = true ∧ s.pwr.ps = .deep ∧ s.pwr.entry = none ∧
      s.pwr.seq = none ∧ s.flag EVT_CDLOSS_HALTED = false ∧ s.flag WAK_FAIL_LOCKOUT = false :=
  ⟨0, 2500, 200, 240, 80, 3,
    (({ awake with spar := { awake.spar with powered := true, up := true }, pwr := { awake.pwr with ps := .deep, entry := none, seq := none } }.wr
    WAK_ARM_SRC 64).wr WAK_BUS_EN_BUS 0x10000), by decide +kernel, by decide +kernel, by decide +kernel,
    by decide +kernel, by decide +kernel, by decide +kernel, by decide +kernel, by decide +kernel, by decide +kernel,
    by decide +kernel, by decide +kernel, by decide +kernel, by decide +kernel, by decide +kernel, by decide +kernel,
    by decide +kernel, by decide +kernel⟩

theorem witness_WakeEvents_6 :
    ∃ (s : State), cdUp s = true ∧ s.rd WAK_REASON_CODE = 10 ∧ s.flag WAK_FILT_WHISTLE_FWD = true ∧ linkUp s (1 - s.rd
      WAK_REASON_INDEX % 2) = false :=
  ⟨((awake.wr WAK_REASON_CODE 10).put WAK_FILT_WHISTLE_FWD true), by decide +kernel, by decide +kernel,
    by decide +kernel, by decide +kernel⟩

theorem witness_WakeSequence_0 :
    ∃ (q : WakeSeq) (s : State), s.pwr.seq = some q ∧ q.running = false ∧ s.sto.inputLow = false ∧ afterFailure s q =
      true ∧ paused s q = false ∧ q.attempt ≠ 1 :=
  ⟨{ kind := .deep, code := 3, index := 0, running := false, attempt := 2 },
    { awake with pwr := { awake.pwr with seq := some ({ kind := .deep, code := 3, index := 0, running := false, attempt := 2 }) }, sto := { awake.sto with inputLow := false } },
    by decide +kernel, by decide +kernel, by decide +kernel, by decide +kernel, by decide +kernel, by decide +kernel⟩

theorem witness_WakeSequence_1 :
    ∃ (q : WakeSeq) (s : State), s.pwr.seq = some q ∧ q.running = false ∧ s.sto.inputLow = false ∧ afterFailure s q =
      true ∧ paused s q = false ∧ q.attempt = 1 ∧ (q.kind = .por ∨ q.kind = .deep) :=
  ⟨{ kind := .por, code := 3, index := 0, running := false, attempt := 1 },
    { awake with pwr := { awake.pwr with seq := some ({ kind := .por, code := 3, index := 0, running := false, attempt := 1 }) }, sto := { awake.sto with inputLow := false } },
    by decide +kernel, by decide +kernel, by decide +kernel, by decide +kernel, by decide +kernel, by decide +kernel,
    by decide +kernel⟩

theorem witness_WakeSequence_2 :
    ∃ (q : WakeSeq) (s : State), s.pwr.seq = some q ∧ q.running = true ∧ (q.kind = .off ∨ q.kind = .por) ∧ lasted s
      q.since 5000 = true :=
  ⟨{ kind := .off, code := 3, index := 0, running := true },
    { awake with pwr := { awake.pwr with seq := some ({ kind := .off, code := 3, index := 0, running := true }) } },
    by decide +kernel, by decide +kernel, by decide +kernel, by decide +kernel⟩

theorem witness_WakeSequence_3 :
    ∃ (hold : Nat) (q : WakeSeq) (s : State), s.pwr.seq = some q ∧ q.running = true ∧ q.bucks = false ∧ lasted s q.since
      40000 = true :=
  ⟨0, { kind := .deep, code := 3, index := 0, running := true, bucks := false },
    { awake with pwr := { awake.pwr with seq := some ({ kind := .deep, code := 3, index := 0, running := true, bucks := false }) } },
    by decide +kernel, by decide +kernel, by decide +kernel, by decide +kernel⟩

theorem witness_WakeSequence_4 :
    ∃ (ms : Nat) (s : State), xfOn s = true ∧ s.flag CLK_STATUS_XF_OK = false :=
  ⟨0, awake, by decide +kernel, by decide +kernel⟩

theorem witness_WakeSequence_5 :
    ∃ (rail : Fin 3) (q : WakeSeq) (s : State), s.pwr.seq = some q ∧ q.running = true ∧ q.bucks = true :=
  ⟨0, { kind := .deep, code := 3, index := 0, running := true, bucks := true },
    { awake with pwr := { awake.pwr with seq := some ({ kind := .deep, code := 3, index := 0, running := true, bucks := true }) } },
    by decide +kernel, by decide +kernel, by decide +kernel⟩

theorem witness_WakeSequence_6 :
    ∃ (cause : Fin 4) (q : WakeSeq) (s : State), s.pwr.seq = some q ∧ q.running = true ∧ q.bucks = true ∧ ((cause.val =
      0 → q.corePg = false)) ∧ ((cause.val = 1 → q.ioPg = false)) ∧ ((cause.val = 2 → q.linkPg = false)) ∧ ((cause.val = 3
      → q.corePg = true)) ∧ (cause.val = 3 ∨ lasted s q.mark 2000 = true) ∧ q.attempt < 3 :=
  ⟨3, { kind := .deep, code := 3, index := 0, running := true, bucks := true, attempt := 2, corePg := true },
    { awake with pwr := { awake.pwr with seq := some ({ kind := .deep, code := 3, index := 0, running := true, bucks := true, attempt := 2, corePg := true }) } },
    by decide +kernel, by decide +kernel, by decide +kernel, by decide +kernel, by decide +kernel, by decide +kernel,
    by decide +kernel, by decide +kernel, by decide +kernel⟩

theorem witness_WakeSequence_7 :
    ∃ (cause : Fin 4) (q : WakeSeq) (s : State), s.pwr.seq = some q ∧ q.running = true ∧ q.bucks = true ∧ ((cause.val =
      0 → q.corePg = false)) ∧ ((cause.val = 1 → q.ioPg = false)) ∧ ((cause.val = 2 → q.linkPg = false)) ∧ ((cause.val = 3
      → q.corePg = true)) ∧ (cause.val = 3 ∨ lasted s q.mark 2000 = true) ∧ 3 ≤ q.attempt :=
  ⟨3, { kind := .deep, code := 3, index := 0, running := true, bucks := true, attempt := 3, corePg := true },
    { awake with pwr := { awake.pwr with seq := some ({ kind := .deep, code := 3, index := 0, running := true, bucks := true, attempt := 3, corePg := true }) } },
    by decide +kernel, by decide +kernel, by decide +kernel, by decide +kernel, by decide +kernel, by decide +kernel,
    by decide +kernel, by decide +kernel, by decide +kernel⟩

theorem witness_WakeSequence_8 :
    ∃ (pos : Nat) (q : WakeSeq) (s : State), s.pwr.seq = some q ∧ q.running = true ∧ q.bucks = true ∧ q.corePg = true ∧
      q.ioPg = true ∧ q.kind = .por :=
  ⟨0, { kind := .por, code := 3, index := 0, running := true, bucks := true, corePg := true, ioPg := true },
    { awake with pwr := { awake.pwr with seq := some ({ kind := .por, code := 3, index := 0, running := true, bucks := true, corePg := true, ioPg := true }) } },
    by decide +kernel, by decide +kernel, by decide +kernel, by decide +kernel, by decide +kernel, by decide +kernel⟩

theorem witness_WakeSequence_9 :
    ∃ (bank : Fin 48) (s : State), cdUp s = true ∧ s.pwr.unzeroed.head? = some bank.val :=
  ⟨0, { awake with pwr := { awake.pwr with unzeroed := [0] } }, by decide +kernel, by decide +kernel⟩

theorem witness_WakeSequence_10 :
    ∃ (media : Bool) (badWrite : Bool) (bad0 : Bool) (bad1 : Bool) (cut : Option Nat) (s : State), cdUp s = true ∧
      s.pwr.cd = .boot ∧ s.pwr.bootDone = false ∧ mounted s 14 = true ∧ s.rd UPD_STATUS_ARMED = 0 ∧ s.flag
      UPD_STATUS_TRIAL = false ∧ s.rd UPD_STATUS_ACTIVE_BANK = 0 ∧ bad1 = true :=
  ⟨false, false, false, _, none,
    { awake with pwr := { awake.pwr with cd := .boot, bootDone := false }, sto := { awake.sto with mounted := [14] } },
    by decide +kernel, by decide +kernel, by decide +kernel, by decide +kernel, by decide +kernel, by decide +kernel,
    by decide +kernel, rfl⟩

theorem witness_WakeSequence_11 :
    ∃ (s : State), s.pwr.cd = .boot ∧ s.pwr.bootDone = true ∧ s.pwr.wakeBy = none :=
  ⟨{ awake with pwr := { awake.pwr with cd := .boot, bootDone := true, wakeBy := none } }, by decide +kernel,
    by decide +kernel, by decide +kernel⟩

theorem witness_WakeSequence_12 :
    ∃ (s : State), s.flag UPD_STATUS_TRIAL = true ∧ trialLasted s (4 * s.upd.confirmS) = true :=
  ⟨(awake.put UPD_STATUS_TRIAL true), by decide +kernel, by decide +kernel⟩

theorem witness_WakeSequence_13 :
    ∃ (s : State), cdUp s = true ∧ s.flag UPD_STATUS_TRIAL = true ∧ trialLasted s (3 * s.upd.confirmS) = true :=
  ⟨(awake.put UPD_STATUS_TRIAL true), by decide +kernel, by decide +kernel, by decide +kernel⟩

theorem witness_ChainCruise_0 :
    ∃ (port : Fin 2) (up : Bool) (s : State), s.pwr.ldUp = true :=
  ⟨0, false, { awake with pwr := { awake.pwr with ldUp := true } }, by decide +kernel⟩

theorem witness_ChainCruise_1 :
    ∃ (v : Word) (s : State), cdUp s = true ∧ (writeWord s 0x40000 v.toNat).rd CHN_PORT_CFG_RATE0 ≠ s.rd
      CHN_PORT_CFG_RATE0 :=
  ⟨1, awake, by decide +kernel, by decide +kernel⟩

theorem witness_ChainCruise_2 :
    ∃ (v : Word) (s : State), cdUp s = true ∧ (writeWord s 0x40000 v.toNat).rd CHN_PORT_CFG_RATE1 ≠ s.rd
      CHN_PORT_CFG_RATE1 :=
  ⟨4, awake, by decide +kernel, by decide +kernel⟩

theorem witness_ChainCruise_3 :
    ∃ (port : Fin 2) (frame : List Byte) (z : Zk) (s : State), Heard s frame 0 z ∧ leAt z.body 0 1 = 1 ∧
      (s.chain.cruised = false ∨ s.rd CHN_CRUISE_CRUISE_ID ≠ beAt z.body 2 2) :=
  ⟨0, (zframe 0 1 62 5 1 0 (zbody 32 [(0, 1)])), (zOf (zframe 0 1 62 5 1 0 (zbody 32 [(0, 1)]))), awake,
    by unfold Heard; decide +kernel, by decide +kernel, by decide +kernel⟩

theorem witness_ChainCruise_4 :
    ∃ (port : Fin 2) (frame : List Byte) (z : Zk) (s : State), Heard s frame 0 z ∧ leAt z.body 0 1 = 2 :=
  ⟨0, (zframe 0 1 62 5 1 0 (zbody 32 [(0, 2)])), (zOf (zframe 0 1 62 5 1 0 (zbody 32 [(0, 2)]))), awake,
    by unfold Heard; decide +kernel, by decide +kernel⟩

theorem witness_ChainCruise_5 :
    ∃ (port : Fin 2) (frame : List Byte) (z : Zk) (s : State), Heard s frame 0 z ∧ leAt z.body 0 1 = 4 :=
  ⟨0, (zframe 0 1 62 5 1 0 (zbody 32 [(0, 4)])), (zOf (zframe 0 1 62 5 1 0 (zbody 32 [(0, 4)]))), awake,
    by unfold Heard; decide +kernel, by decide +kernel⟩

theorem witness_ChainCruise_6 :
    ∃ (s : State), cdUp s = true ∧ ownAddr s = 62 ∧ s.chain.assigned = false ∧ bypassed s = false ∧ s.chain.cruised =
      true :=
  ⟨{ awake with chain := { awake.chain with assigned := false, cruised := true } }, by decide +kernel,
    by decide +kernel, by decide +kernel, by decide +kernel, by decide +kernel⟩

theorem witness_ChainCruise_7 :
    ∃ (port : Fin 2) (frame : List Byte) (z : Zk) (s : State), Heard s frame 0 z ∧ leAt z.body 0 1 = 3 ∧ slice z.body 4
      16 = uidBytes s ∧ 1 ≤ leAt z.body 23 1 ∧ leAt z.body 23 1 ≤ 30 :=
  ⟨0, (zframe 0 1 62 5 1 0 (zbody 32 [(0, 3), (23, 1)])), (zOf (zframe 0 1 62 5 1 0 (zbody 32 [(0, 3), (23, 1)]))),
    awake, by unfold Heard; decide +kernel, by decide +kernel, by decide +kernel, by decide +kernel, by decide +kernel⟩

theorem witness_ChainCruise_8 :
    ∃ (port : Fin 2) (frame : List Byte) (z : Zk) (s : State), Heard s frame 0 z ∧ leAt z.body 0 1 = 3 ∧ slice z.body 4
      16 ≠ uidBytes s :=
  ⟨0, (zframe 0 1 62 5 1 0 (zbody 32 [(0, 3), (4, 1)])), (zOf (zframe 0 1 62 5 1 0 (zbody 32 [(0, 3), (4, 1)]))), awake,
    by unfold Heard; decide +kernel, by decide +kernel, by decide +kernel⟩

theorem witness_ChainCruise_9 :
    ∃ (port : Fin 2) (frame : List Byte) (z : Zk) (s : State), Heard s frame 0 z ∧ leAt z.body 0 1 = 5 ∧ s.chain.cruised
      = true ∧ s.rd CHN_CRUISE_CRUISE_ID = beAt z.body 2 2 :=
  ⟨0, (zframe 0 1 62 5 1 0 (zbody 32 [(0, 5)])), (zOf (zframe 0 1 62 5 1 0 (zbody 32 [(0, 5)]))),
    { awake with chain := { awake.chain with cruised := true } }, by unfold Heard; decide +kernel, by decide +kernel,
    by decide +kernel, by decide +kernel⟩

theorem witness_RingProxy_0 :
    ∃ (port : Fin 2) (frame : List Byte) (sec : Bool) (z : Zk) (s : State), Heard s frame 1 z ∧ FromHome s port.val sec
      z ∧ leAt z.body 0 1 < 7 ∧ leAt z.body 1 1 < 4 :=
  ⟨0, (zframe 1 1 62 5 1 0 (zbody 32 [])), false, (zOf (zframe 1 1 62 5 1 0 (zbody 32 []))), remote,
    by unfold Heard; decide +kernel, by unfold FromHome; decide +kernel, by decide +kernel, by decide +kernel⟩

theorem witness_RingProxy_1 :
    ∃ (port : Fin 2) (frame : List Byte) (sec : Bool) (z : Zk) (s : State), Heard s frame 1 z ∧ FromHome s port.val sec
      z ∧ leAt z.body 0 1 < 7 ∧ (leAt z.body 1 1 = 4 ∨ leAt z.body 1 1 = 5) :=
  ⟨0, (zframe 1 1 62 5 1 0 (zbody 32 [(1, 4)])), false, (zOf (zframe 1 1 62 5 1 0 (zbody 32 [(1, 4)]))), remote,
    by unfold Heard; decide +kernel, by unfold FromHome; decide +kernel, by decide +kernel, by decide +kernel⟩

theorem witness_RingProxy_2 :
    ∃ (port : Fin 2) (frame : List Byte) (sec : Bool) (z : Zk) (r : ProxyRead) (s : State), Heard s frame 3 z ∧ FromHome
      s port.val sec z ∧ (proxyOf (heardFrom s z) z.part).reads.find? (fun q => q.id == beAt z.body 0 2) = some r ∧ r.eng
      ≠ DATA :=
  ⟨0, (zframe 3 1 62 5 1 0 (zbody 32 [])), false, (zOf (zframe 3 1 62 5 1 0 (zbody 32 []))), ⟨0, 0, 64, 0, 0, 0, 0, 0⟩,
    { remote with chain := { remote.chain with proxies := [(1, { reads := [⟨0, 0, 64, 0, 0, 0, 0, 0⟩] })] } },
    by unfold Heard; decide +kernel, by unfold FromHome; decide +kernel, by decide +kernel, by decide +kernel⟩

theorem witness_RingProxy_3 :
    ∃ (part : Fin 8) (id : Nat) (r : ProxyRead) (s : State), cdUp s = true ∧ (proxyOf s part.val).reads.find? (fun q =>
      q.id == id) = some r ∧ lasted s r.since (10 * s.rd CHN_REMOTE_READ_TMO) = true ∧ r.tries < 3 :=
  ⟨1, 0, ⟨0, 0, 64, 0, 0, 0, 0, 0⟩,
    { remote with chain := { remote.chain with proxies := [(1, { reads := [⟨0, 0, 64, 0, 0, 0, 0, 0⟩] })] } },
    by decide +kernel, by decide +kernel, by decide +kernel, by decide +kernel⟩

theorem witness_RingProxy_4 :
    ∃ (part : Fin 8) (id : Nat) (r : ProxyRead) (s : State), cdUp s = true ∧ (proxyOf s part.val).reads.find? (fun q =>
      q.id == id) = some r ∧ lasted s r.since (10 * s.rd CHN_REMOTE_READ_TMO) = true ∧ 3 ≤ r.tries ∧ attached s part.val =
      true :=
  ⟨1, 0, ⟨0, 0, 64, 3, 0, 0, 0, 0⟩,
    { remote with chain := { remote.chain with proxies := [(1, { reads := [⟨0, 0, 64, 3, 0, 0, 0, 0⟩] })] } },
    by decide +kernel, by decide +kernel, by decide +kernel, by decide +kernel, by decide +kernel⟩

theorem witness_RingProxy_5 :
    ∃ (port : Fin 2) (frame : List Byte) (sec : Bool) (z : Zk) (s : State), Heard s frame 6 z ∧ FromHome s port.val sec
      z ∧ bit (leAt z.body 3 1) 0 = false ∧ bit (leAt z.body 3 1) 1 = false :=
  ⟨0, (zframe 6 1 62 5 1 0 (zbody 32 [])), false, (zOf (zframe 6 1 62 5 1 0 (zbody 32 []))), remote,
    by unfold Heard; decide +kernel, by unfold FromHome; decide +kernel, by decide +kernel, by decide +kernel⟩

theorem witness_RingProxy_6 :
    ∃ (port : Fin 2) (frame : List Byte) (sec : Bool) (z : Zk) (s : State), Heard s frame 6 z ∧ (s.flag
      (SW_MSEC_CFG_MSEC_EN port.val) = false ∨ sec = true) ∧ (z.dst = ownAddr s ∨ z.dst = 63) ∧ bit (leAt z.body 3 1) 0 =
      true ∧ z.part < 8 ∧ homeOf s z.part = 2 ∧ (partState s z.part = 2 ∨ partState s z.part = 3) ∧ z.src = homeAddr s
      z.part ∧ s.chain.posDup = false ∧ attached s z.part = false :=
  ⟨0, (zframe 6 1 62 5 1 0 (zbody 32 [(3, 1)])), false, (zOf (zframe 6 1 62 5 1 0 (zbody 32 [(3, 1)]))),
    ({ remote with par := remote.par }.wr CHN_ATTACH_ATTACHED 0).wr (PAR_STATE_STATE 1) 2,
    by unfold Heard; decide +kernel, by decide +kernel, by decide +kernel, by decide +kernel, by decide +kernel,
    by decide +kernel, by decide +kernel, by decide +kernel, by decide +kernel, by decide +kernel⟩

theorem witness_RingProxy_7 :
    ∃ (port : Fin 2) (frame : List Byte) (sec : Bool) (z : Zk) (s : State), Heard s frame 6 z ∧ FromHome s port.val sec
      z ∧ bit (leAt z.body 3 1) 0 = false ∧ bit (leAt z.body 3 1) 1 = true :=
  ⟨0, (zframe 6 1 62 5 1 0 (zbody 32 [(3, 2)])), false, (zOf (zframe 6 1 62 5 1 0 (zbody 32 [(3, 2)]))), remote,
    by unfold Heard; decide +kernel, by unfold FromHome; decide +kernel, by decide +kernel, by decide +kernel⟩

theorem witness_RingProxy_8 :
    ∃ (part : Fin 8) (s : State), cdUp s = true ∧ attached s part.val = true ∧ (proxyOf (sendZilek s (upstream s) 6 0
      (homeAddr s part.val) part.val 0 (heartbeatBody s 1 0)) part.val).stale = false :=
  ⟨1, remote, by decide +kernel, by decide +kernel, by decide +kernel⟩

theorem witness_RingProxy_9 :
    ∃ (part : Fin 8) (s : State), cdUp s = true ∧ lasted s (proxyOf s part.val).heardAt (1000 * detachMs s) = true ∧
      attached s part.val = true :=
  ⟨1, remote, by decide +kernel, by decide +kernel, by decide +kernel⟩

theorem witness_RingProxy_10 :
    ∃ (part : Fin 8) (s : State), cdUp s = true ∧ lasted s (proxyOf s part.val).sentAt (100 * s.rd CHN_REMOTE_WR_RETX) =
      true :=
  ⟨0, awake, by decide +kernel, by decide +kernel⟩

theorem witness_Maintenance_0 :
    ∃ (port : Fin 2) (frame : List Byte) (z : Zk) (u : State) (s : State), Asked s frame 1 z ∧ u = asked s port.val
      frame z :=
  ⟨0, (zframe 7 1 62 5 1 0 (zbody 32 [(0, 1)])), (zOf (zframe 7 1 62 5 1 0 (zbody 32 [(0, 1)]))), _, awake,
    by unfold Asked; decide +kernel, rfl⟩

theorem witness_Maintenance_1 :
    ∃ (port : Fin 2) (frame : List Byte) (z : Zk) (u : State) (s : State), Asked s frame 2 z ∧ u = asked s port.val
      frame z :=
  ⟨0, (zframe 7 1 62 5 1 0 (zbody 32 [(0, 2)])), (zOf (zframe 7 1 62 5 1 0 (zbody 32 [(0, 2)]))), _, awake,
    by unfold Asked; decide +kernel, rfl⟩

theorem witness_Maintenance_2 :
    ∃ (port : Fin 2) (frame : List Byte) (z : Zk) (u : State) (s : State), Asked s frame 3 z ∧ u = asked s port.val
      frame z ∧ u.flag CHN_MAINT_READ_AUTH = false ∧ beAt z.body 24 4 / 1073741824 = 2 ∧ bit (beAt z.body 24 4) 29 = false :=
  ⟨0, (zframe 7 1 62 5 1 0 (zbody 32 [(0, 3), (24, 128)])), (zOf (zframe 7 1 62 5 1 0 (zbody 32 [(0, 3), (24, 128)]))),
    _, awake, by unfold Asked; decide +kernel, rfl, by decide +kernel, by decide +kernel, by decide +kernel⟩

theorem witness_Maintenance_3 :
    ∃ (port : Fin 2) (frame : List Byte) (z : Zk) (u : State) (s : State), Asked s frame 3 z ∧ u = asked s port.val
      frame z ∧ u.flag CHN_MAINT_READ_AUTH = true ∧ tagValid s z = false :=
  ⟨0, (zframe 7 1 62 5 1 0 (zbody 32 [(0, 3)])), (zOf (zframe 7 1 62 5 1 0 (zbody 32 [(0, 3)]))), _, (awake.put
    CHN_MAINT_READ_AUTH true), by unfold Asked; decide +kernel, rfl, by decide +kernel, by decide +kernel⟩

theorem witness_Maintenance_4 :
    ∃ (port : Fin 2) (frame : List Byte) (z : Zk) (u : State) (s : State), Asked s frame 4 z ∧ u = asked s port.val
      frame z ∧ tagValid s z = true ∧ beAt z.body 24 4 = u.rd TLY_STATUS_FF_COUNT ∧ u.rd TLY_STATUS_FF_COUNT < 2048 :=
  ⟨0, (mreq 4), (zOf (mreq 4)), _, keyed, ⟨zOf_eq (by decide +kernel), by decide +kernel, by decide +kernel,
    by decide +kernel, by decide +kernel⟩, rfl, tag_of (k := 0)
    (by decide +kernel) (by decide +kernel) (by decide +kernel) rfl, by decide +kernel, by decide +kernel⟩

theorem witness_Maintenance_5 :
    ∃ (port : Fin 2) (frame : List Byte) (z : Zk) (s : State), Asked s frame 5 z ∧ tagValid s z = true :=
  ⟨0, (mreq 5), (zOf (mreq 5)), keyed, ⟨zOf_eq (by decide +kernel), by decide +kernel, by decide +kernel,
    by decide +kernel, by decide +kernel⟩, tag_of (k := 0)
    (by decide +kernel) (by decide +kernel) (by decide +kernel) rfl⟩

theorem witness_Maintenance_6 :
    ∃ (port : Fin 2) (frame : List Byte) (z : Zk) (s : State), Asked s frame 6 z ∧ tagValid s z = true ∧ s.flag
      WAK_FAIL_LOCKOUT = false ∧ s.flag EVT_CDLOSS_HALTED = false ∧ s.pwr.ps = .run ∧ cdUp s = true :=
  ⟨0, (mreq 6), (zOf (mreq 6)), { keyed with pwr := { keyed.pwr with ps := .run } }, ⟨zOf_eq (by decide +kernel),
    by decide +kernel, by decide +kernel, by decide +kernel, by decide +kernel⟩, tag_of (k := 0)
    (by decide +kernel) (by decide +kernel) (by decide +kernel) rfl, by decide +kernel, by decide +kernel,
    by decide +kernel, by decide +kernel⟩

theorem witness_Maintenance_7 :
    ∃ (port : Fin 2) (frame : List Byte) (z : Zk) (s : State), Asked s frame 7 z ∧ tagValid s z = true ∧ s.flag
      CHN_BYPASS_BYP_MAINT = true :=
  ⟨0, (mreq 7), (zOf (mreq 7)), (keyed.put CHN_BYPASS_BYP_MAINT true), ⟨zOf_eq (by decide +kernel), by decide +kernel,
    by decide +kernel, by decide +kernel, by decide +kernel⟩, tag_of (k := 0)
    (by decide +kernel) (by decide +kernel) (by decide +kernel) rfl, by decide +kernel⟩

theorem witness_Maintenance_8 :
    ∃ (port : Fin 2) (frame : List Byte) (z : Zk) (s : State), Asked s frame 8 z ∧ tagValid s z = true :=
  ⟨0, (mreq 8), (zOf (mreq 8)), keyed, ⟨zOf_eq (by decide +kernel), by decide +kernel, by decide +kernel,
    by decide +kernel, by decide +kernel⟩, tag_of (k := 0)
    (by decide +kernel) (by decide +kernel) (by decide +kernel) rfl⟩

theorem witness_Maintenance_9 :
    ∃ (v : Word) (s : State), cdUp s = true ∧ s.flag PAR_SEAL_STATUS_SEALED = false ∧ fieldIn CHN_BYPASS_LEAVE v = 0 ∧
      bit v.toNat 1 = true :=
  ⟨2, awake, by decide +kernel, by decide +kernel, by decide +kernel, by decide +kernel⟩

theorem witness_Maintenance_10 :
    ∃ (v : Word) (lost : Nat) (s : State), cdUp s = true ∧ fieldIn CHN_BYPASS_LEAVE v = 1 :=
  ⟨4, 0, awake, by decide +kernel, by decide +kernel⟩

theorem witness_Maintenance_11 :
    ∃ (port : Fin 2) (s : State), cdUp s = true ∧ s.pwr.ps = .run ∧ linkUp s port.val = true :=
  ⟨0, { awake with pwr := { awake.pwr with ps := .run }, chain := { awake.chain with up0 := true } }, by decide +kernel,
    by decide +kernel, by decide +kernel⟩

theorem witness_Maintenance_12 :
    ∃ (v : Word) (s : State), cdUp s = true :=
  ⟨0, awake, by decide +kernel⟩

set_option maxRecDepth 100000 in
theorem witness_LayoutAndSeal_0 :
    ∃ (s : State), cdUp s = true ∧ s.flag PAR_LAYOUT_CTL_APPLY = false ∧ s.flag PAR_SEAL_STATUS_SEALED = false ∧
      (List.range 7).any (fun k => 2 ≤ partState s (k + 1)) = false ∧ layoutFault (s.rd CHN_ZCFG_ZVID) (layoutBytes s
      (s.rd PAR_LAYOUT_ADDR_ADDR)) = none :=
  ⟨({ awake with mem := image2 }.wr PAR_LAYOUT_ADDR_ADDR 0x10000000), by decide +kernel, by decide +kernel,
    by decide +kernel, by decide +kernel, by decide +kernel⟩

theorem witness_LayoutAndSeal_1 :
    ∃ (r : Nat) (o : Nat) (s : State), cdUp s = true ∧ s.flag PAR_LAYOUT_CTL_APPLY = false ∧ s.flag
      PAR_SEAL_STATUS_SEALED = false ∧ (List.range 7).any (fun k => 2 ≤ partState s (k + 1)) = false ∧ layoutFault (s.rd
      CHN_ZCFG_ZVID) (layoutBytes s (s.rd PAR_LAYOUT_ADDR_ADDR)) = some (r, o) :=
  ⟨2, 0, awake, by decide +kernel, by decide +kernel, by decide +kernel, by decide +kernel, by decide +kernel⟩

theorem witness_LayoutAndSeal_2 :
    ∃ (s : State), cdUp s = true ∧ s.flag PAR_LAYOUT_CTL_APPLY = false ∧ s.flag PAR_SEAL_STATUS_SEALED = true :=
  ⟨(awake.put PAR_SEAL_STATUS_SEALED true), by decide +kernel, by decide +kernel, by decide +kernel⟩

theorem witness_LayoutAndSeal_3 :
    ∃ (v : Word) (s : State), cdUp s = true ∧ v.toNat = 0x5EA1 ∧ s.flag PAR_SEAL_STATUS_SEALED = false ∧ sealFail s = 0 :=
  ⟨0x5EA1, { awake with par := { awake.par with applied := true } }, by decide +kernel, by decide +kernel,
    by decide +kernel, by decide +kernel⟩

theorem witness_LayoutAndSeal_4 :
    ∃ (v : Word) (s : State), cdUp s = true ∧ v.toNat = 0x5EA1 ∧ s.flag PAR_SEAL_STATUS_SEALED = false ∧ sealFail s ≠ 0 :=
  ⟨0x5EA1, awake, by decide +kernel, by decide +kernel, by decide +kernel, by decide +kernel⟩

theorem witness_LayoutAndSeal_5 :
    ∃ (v : Word) (s : State), cdUp s = true ∧ fieldIn PAR_RST_KEY v = 0x7E57 :=
  ⟨2119630848, awake, by decide +kernel, by decide +kernel⟩

theorem witness_LayoutAndSeal_6 :
    ∃ (v : Word) (s : State), cdUp s = true ∧ s.flag PAR_RST_CFG_SAF_RESET = true ∧ fieldIn PAR_RST_KEY v = 0x7E57 :=
  ⟨2119630848, (awake.put PAR_RST_CFG_SAF_RESET true), by decide +kernel, by decide +kernel, by decide +kernel⟩

theorem witness_LayoutAndSeal_7 :
    ∃ (w : Writer) (part : Fin 8) (v : Word) (s : State), cdUp s = true ∧ pageOf s w part.val = true ∧ v.toNat = 0x5E1F
      ∧ part.val ≠ 0 ∧ partState s part.val = 2 :=
  ⟨.p0, 1, 0x5E1F,
    ({ awake with par := { awake.par with applied := true, entries := [defaultEntry, { defaultEntry with part := 1 }] } }.wr
    (PAR_STATE_STATE 1) 2), by decide +kernel, by decide +kernel, by decide +kernel, by decide +kernel, by decide +kernel⟩

theorem witness_LayoutAndSeal_8 :
    ∃ (part : Fin 8) (r : Resetting) (s : State), cdUp s = true ∧ tabFind s.par.resetting part.val = some r :=
  ⟨0, ⟨1, 0⟩, { awake with par := { awake.par with resetting := [(0, ⟨1, 0⟩)] } }, by decide +kernel, by decide +kernel⟩

theorem witness_LayoutAndSeal_9 :
    ∃ (c : Chan) (e : PartEntry) (s : State), (chn s (master s c)).orphan = 2 ∧ (ownerOf s (master s c).kind (master s
      c).idx).bind (entryOf s) = some e ∧ e.orphanT ≠ 0 ∧ lasted s (chn s (master s c)).orphanAt (1000000 * e.orphanT) =
      true :=
  ⟨⟨1, 0⟩, { defaultEntry with orphanT := 1 },
    { awake with chs := [(chKey ⟨1, 0⟩, { orphan := 2 })], par := { awake.par with applied := true, entries := [{ defaultEntry with orphanT := 1 }], owners := [⟨1, 0, 0, 0, 0⟩] } },
    by decide +kernel, by decide +kernel, by decide +kernel, by decide +kernel⟩

theorem witness_LayoutAndSeal_10 :
    ∃ (c : Chan) (m : Chan) (u : State) (s : State), m = master s c ∧ (chn s m).braking = true ∧ 20000 ≤ usNow s - (chn
      s m).runAt ∧ (chn s m).limpDrive ≠ .waiting ∧ (u = bridgeOff (setChn s m { chn s m with braking := false }) m) ∧
      limpActive u = false :=
  ⟨⟨2, 0⟩, _, _, { awake with chs := [(chKey ⟨2, 0⟩, { braking := true })] }, rfl, by decide +kernel, by decide +kernel,
    by decide +kernel, rfl, by decide +kernel⟩

theorem witness_EventDelivery_0 :
    ∃ (part : Fin 8) (s : State), cdUp s = true ∧ (partEv s part.val).unsignalled ≠ 0 :=
  ⟨0, { awake with evt := { awake.evt with parts := [(0, { unsignalled := 1 })] } }, by decide +kernel,
    by decide +kernel⟩

theorem witness_EventDelivery_1 :
    ∃ (s : State), cdUp s = true ∧ ((∀ p, (partEv s p).suppressed = [])) :=
  ⟨awake, by decide +kernel, fun _ => rfl⟩

theorem witness_EventDelivery_2 :
    ∃ (w : Writer) (part : Fin 8) (v : Word) (s : State), cdUp s = true ∧ pageOf s w part.val = true ∧ v.toNat < 3 :=
  ⟨.p0, 0, 0, running, by decide +kernel, by decide +kernel, by decide +kernel⟩

theorem witness_EventDelivery_3 :
    ∃ (part : Fin 8) (r : EvRec) (rest : List EvRec) (s : State), cdUp s = true ∧ (partEv s part.val).queue = r :: rest
      ∧ canDeliver s part.val = true :=
  ⟨0, ⟨1, true, 0, 0, 0, []⟩, [],
    { running with evt := { running.evt with parts := [(0, { queue := [⟨1, true, 0, 0, 0, []⟩] })] }, rng := { running.rng with rings := [(eventKey 0, { armed := true })] } },
    by decide +kernel, by decide +kernel, by decide +kernel⟩

theorem witness_RingSetup_0 :
    ∃ (u : State) (s : State), cdUp s = true ∧ s.rng.busy = false ∧ u = busyNow s ∧ partState u (u.rd RNG_SEL_PART) = 1
      ∧ armFault u (u.rd RNG_SEL_PART) (List.range 7) true = none :=
  ⟨_,
    { awake with rng := { awake.rng with busy := false, rings := [(eventKey 0, { en := true, base := 0x10000000, size := 5 })], shadows := [(0, { base := 0x10010000 })] } },
    by decide +kernel, by decide +kernel, rfl, by decide +kernel, by decide +kernel⟩

theorem witness_RingSetup_1 :
    ∃ (u : State) (r : Nat × Nat) (s : State), cdUp s = true ∧ s.rng.busy = false ∧ u = busyNow s ∧ partState u (u.rd
      RNG_SEL_PART) = 1 ∧ armFault u (u.rd RNG_SEL_PART) (List.range 7) true = some r :=
  ⟨_, (3, 5), { awake with rng := { awake.rng with busy := false } }, by decide +kernel, by decide +kernel, rfl,
    by decide +kernel, by decide +kernel⟩

theorem witness_RingSetup_2 :
    ∃ (s : State), cdUp s = true ∧ s.rng.busy = true :=
  ⟨{ awake with rng := { awake.rng with busy := true } }, by decide +kernel, by decide +kernel⟩

theorem witness_RingSetup_3 :
    ∃ (u : State) (s : State), cdUp s = true ∧ s.rng.busy = false ∧ u = busyNow s ∧ partState u (u.rd RNG_SEL_PART) ≠ 0
      ∧ (List.range 5).any (fun k => (ringAt u (ringKey (u.rd RNG_SEL_PART) (u.rd RNG_SEL_ENGINE) k)).armed) = false ∧
      armFault u (u.rd RNG_SEL_PART) [u.rd RNG_SEL_ENGINE] false = none :=
  ⟨_,
    { awake with rng := { awake.rng with busy := false, rings := [(eventKey 0, { en := true, base := 0x10000000, size := 5 })], shadows := [(0, { base := 0x10010000 })] } },
    by decide +kernel, by decide +kernel, rfl, by decide +kernel, by decide +kernel, by decide +kernel⟩

theorem witness_RingSetup_4 :
    ∃ (s : State), cdUp s = true ∧ s.rng.busy = false :=
  ⟨{ awake with rng := { awake.rng with busy := false } }, by decide +kernel, by decide +kernel⟩

theorem witness_RingSetup_5 :
    ∃ (s : State), cdUp s = true ∧ s.rng.busy = true :=
  ⟨{ awake with rng := { awake.rng with busy := true } }, by decide +kernel, by decide +kernel⟩

theorem witness_RingSetup_6 :
    ∃ (w : Writer) (part : Fin 8) (eng : Fin 7) (ring : Fin 4) (v : Word) (g : Ring) (s : State), cdUp s = true ∧
      pageOpen s w part.val = true ∧ g = ringAt s (ringKey part.val eng.val ring.val) ∧ g.armed = true ∧ (g.prod + 2 ^ 32
      - g.cons) % 2 ^ 32 < (v.toNat + 2 ^ 32 - g.cons) % 2 ^ 32 ∧ (v.toNat + 2 ^ 32 - g.cons) % 2 ^ 32 ≤ 2 ^ g.size :=
  ⟨.p0, 0, 0, 0, 16, _,
    { running with rng := { running.rng with rings := [(ringKey 0 0 0, { armed := true, size := 4 })] } },
    by decide +kernel, by decide +kernel, rfl, by decide +kernel, by decide +kernel, by decide +kernel⟩

theorem witness_RingSetup_7 :
    ∃ (w : Writer) (part : Fin 8) (eng : Fin 7) (ring : Fin 4) (v : Word) (s : State), cdUp s = true ∧ s.pwr.cd = .run ∧
      pageOpen s w part.val = false :=
  ⟨.p0, 0, 0, 0, 0, { awake with pwr := { awake.pwr with cd := .run } }, by decide +kernel, by decide +kernel,
    by decide +kernel⟩

theorem witness_RingSetup_8 :
    ∃ (w : Writer) (part : Fin 8) (eng : Fin 7) (v : Word) (g : Ring) (s : State), cdUp s = true ∧ pageOpen s w part.val
      = true ∧ g = ringAt s (ringKey part.val eng.val 4) ∧ g.armed = true ∧ 0 < (v.toNat + 2 ^ 32 - g.cons) % 2 ^ 32 ∧
      (v.toNat + 2 ^ 32 - g.cons) % 2 ^ 32 ≤ (g.prod + 2 ^ 32 - g.cons) % 2 ^ 32 :=
  ⟨.p0, 0, 0, 1, _,
    { running with rng := { running.rng with rings := [(ringKey 0 0 4, { armed := true, prod := 1 })] } },
    by decide +kernel, by decide +kernel, rfl, by decide +kernel, by decide +kernel, by decide +kernel⟩

theorem witness_RingSetup_9 :
    ∃ (w : Writer) (part : Fin 8) (v : Word) (g : Ring) (s : State), cdUp s = true ∧ pageOpen s w part.val = true ∧ g =
      ringAt s (eventKey part.val) ∧ g.armed = true ∧ 0 < (v.toNat + 2 ^ 32 - g.cons) % 2 ^ 32 ∧ (v.toNat + 2 ^ 32 -
      g.cons) % 2 ^ 32 ≤ (g.prod + 2 ^ 32 - g.cons) % 2 ^ 32 :=
  ⟨.p0, 0, 1, _, { running with rng := { running.rng with rings := [(eventKey 0, { armed := true, prod := 1 })] } },
    by decide +kernel, by decide +kernel, rfl, by decide +kernel, by decide +kernel, by decide +kernel⟩

theorem witness_RingSetup_10 :
    ∃ (w : Writer) (part : Fin 8) (eng : Fin 7) (ring : Fin 4) (v : Word) (s : State), cdUp s = true ∧ s.pwr.cd = .boot
      ∧ (ringAt s (ringKey part.val eng.val ring.val)).armed = false :=
  ⟨.p0, 0, 0, 0, 0, { awake with pwr := { awake.pwr with cd := .boot } }, by decide +kernel, by decide +kernel,
    by decide +kernel⟩

theorem witness_Descriptors_0 :
    ∃ (part : Fin 8) (eng : Fin 7) (ring : Fin 4) (b : List Byte) (s : State), cdUp s = true ∧ engineOn s eng.val = true
      ∧ (ringAt s (ringKey part.val eng.val ring.val)).armed = true ∧ partState s part.val = 2 ∧ (ringAt s (ringKey
      part.val eng.val ring.val)).prod ≠ (ringAt s (ringKey part.val eng.val ring.val)).cons ∧ nextSlot s part.val eng.val
      ring.val (ringAt s (ringKey part.val eng.val ring.val)) = some b ∧ b ≠ [] ∧ reserved s part.val eng.val < 2 ^
      (ringAt s (ringKey part.val eng.val 4)).size ∧ bit (leAt b 1 1) 0 = false ∧ acceptFault (takeSlot s part.val eng.val
      ring.val) eng.val b = none :=
  ⟨0, 0, 0, readBytes running 0x10000000 64,
    { running with rng := { running.rng with rings := [(ringKey 0 0 0, { armed := true, prod := 1, phys := 0x10000000 })] } },
    by decide +kernel, by decide +kernel, by decide +kernel, by decide +kernel, by decide +kernel, by decide +kernel,
    by decide +kernel, by decide +kernel, by decide +kernel, by decide +kernel⟩

theorem witness_Descriptors_1 :
    ∃ (part : Fin 8) (eng : Fin 7) (ring : Fin 4) (s : State), cdUp s = true ∧ s.rng.stalled.contains (part.val,
      eng.val) = false ∧ acceptStopped s part.val eng.val ring.val = true :=
  ⟨0, 0, 0,
    { running with rng := { running.rng with rings := [(ringKey 0 0 0, { armed := true, prod := 1 }), (ringKey 0 0 4, { armed := true, prod := 16 })] } },
    by decide +kernel, by decide +kernel, by decide +kernel⟩

theorem witness_Descriptors_2 :
    ∃ (h : DHdr) (eng : Fin 7) (b : List Byte) (s : State), Served s eng.val 0 h b :=
  ⟨hdr, 0, (body []), (queued 0 0 (body [])), by unfold Served; decide +kernel⟩

theorem witness_Descriptors_3 :
    ∃ (h : DHdr) (eng : Fin 7) (b : List Byte) (u : State) (l : List Work) (s : State), Served s eng.val 0xFF h b ∧
      bodyDirty b [16, 17, 18, 19] = false ∧ bit (leAt b 1 1) 0 = false ∧ u = begun s eng.val 0xFF h b ∧ l =
      u.rng.work.filter (cancels eng.val h (BitVec.ofNat 16 (leAt b 16 2)) (BitVec.ofNat 16 (leAt b 18 2))) :=
  ⟨hdr, 0, (body []), _, _, (queued 0 0xFF (body [])), by unfold Served; decide +kernel, by decide +kernel,
    by decide +kernel, rfl, rfl⟩

theorem witness_Descriptors_4 :
    ∃ (h : DHdr) (eng : Fin 7) (b : List Byte) (s : State), Served s eng.val 0xFF h b ∧ bodyDirty b [16, 17, 18, 19] =
      true :=
  ⟨hdr, 0, (body [(20, 1)]), (queued 0 0xFF (body [(20, 1)])), by unfold Served; decide +kernel, by decide +kernel⟩

theorem witness_Descriptors_5 :
    ∃ (part : Fin 8) (eng : Fin 7) (ring : Fin 4) (media : Bool) (samples : List Byte) (back : Nat) (w : Work) (s :
      State), cdUp s = true ∧ eligible s part.val eng.val = true ∧ nextTimed s part.val eng.val ring.val = some w ∧
      w.notBefore ≤ dtNow s ∧ (dtNow s - w.notBefore ≤ 1000 * w.tolUs ∨ w.lateAlways = true) :=
  ⟨0, 0, 0, false, [], 0, ⟨ACT, hdr, 0, true, 0, 2000, true, false, body [], false, none⟩,
    ({ awake with rng := { awake.rng with work := [⟨ACT, hdr, 0, true, 0, 2000, true, false, body [], false, none⟩] } }.wr
    SPR_DT_DT 5000), by decide +kernel, by decide +kernel, by decide +kernel, by decide +kernel, by decide +kernel⟩

theorem witness_Descriptors_6 :
    ∃ (part : Fin 8) (eng : Fin 7) (ring : Fin 4) (media : Bool) (samples : List Byte) (back : Nat) (w : Work) (s :
      State), cdUp s = true ∧ eligible s part.val eng.val = true ∧ nextTimed s part.val eng.val ring.val = some w ∧
      w.notBefore ≤ dtNow s ∧ (dtNow s - w.notBefore ≤ 1000 * w.tolUs ∨ w.lateAlways = true) ∧ w.opcode = 0 ∧ w.eng =
      eng.val ∧ (Served s eng.val 0
      { w.hdr with late := BitVec.ofNat 32 (min ((dtNow s - w.notBefore) / 1000) (2 ^ 32 - 1)) } w.body) :=
  ⟨0, 0, 0, false, [], 0, ⟨ACT, hdr, 0, true, 0, 2000, true, false, body [], false, none⟩,
    ({ awake with rng := { awake.rng with work := [⟨ACT, hdr, 0, true, 0, 2000, true, false, body [], false, none⟩] } }.wr
    SPR_DT_DT 5000), by decide +kernel, by decide +kernel, by decide +kernel, by decide +kernel, by decide +kernel,
    by decide +kernel, by decide +kernel, by unfold Served; decide +kernel⟩

theorem witness_Descriptors_7 :
    ∃ (part : Fin 8) (eng : Fin 7) (ring : Fin 4) (media : Bool) (samples : List Byte) (back : Nat) (w : Work) (s :
      State), cdUp s = true ∧ eligible s part.val eng.val = true ∧ nextTimed s part.val eng.val ring.val = some w ∧
      w.notBefore ≤ dtNow s ∧ 1000 * w.tolUs < dtNow s - w.notBefore ∧ w.lateAlways = false :=
  ⟨0, 0, 0, false, [], 0, ⟨ACT, hdr, 0, true, 0, 0, false, false, body [], false, none⟩,
    ({ awake with rng := { awake.rng with work := [⟨ACT, hdr, 0, true, 0, 0, false, false, body [], false, none⟩] } }.wr
    SPR_DT_DT 5000), by decide +kernel, by decide +kernel, by decide +kernel, by decide +kernel, by decide +kernel,
    by decide +kernel⟩

theorem witness_ActLevels_0 :
    ∃ (h : DHdr) (b : List Byte) (u : State) (c : Chan) (s : State), Served s ACT 1 h b ∧ u = begun s ACT 1 h b ∧ c =
      master u (chanOf b) ∧ actFault u 1 h b [16, 17, 18, 20, 21] false [1, 3, 4, 5] (leAt b 18 1 > 1 || ((chanOf b).kind
      == 3 && leAt b 18 1 != 0) || levelBad (chanOf b) (leAt b 20 2)) = none :=
  ⟨hdr, (body [(16, 1), (18, 1)]), _, _,
    { (queued ACT 1 (body [(16, 1), (18, 1)])) with par := { (queued ACT 1 (body [(16, 1), (18, 1)])).par with owners := [⟨1, 0, 0, 0, 0⟩, ⟨2, 0, 0, 0, 0⟩, ⟨3, 0, 0, 0, 0⟩, ⟨4, 0, 0, 0, 0⟩], applied := true, entries := [defaultEntry] } },
    by unfold Served; decide +kernel, rfl, rfl, by decide +kernel⟩

theorem witness_ActLevels_1 :
    ∃ (h : DHdr) (b : List Byte) (u : State) (c : Chan) (s : State), Served s ACT 2 h b ∧ u = begun s ACT 2 h b ∧ c =
      master u (chanOf b) ∧ actFault u 2 h b [16, 17, 20, 21, 22, 23, 24, 25, 26, 27, 28, 29] false [1, 4, 5] (leAt b 20 4
      < 1 || 60000000 < leAt b 20 4 || leAt b 24 4 < 1 || 60000000 < leAt b 24 4 || leAt b 28 2 < 1) = none :=
  ⟨hdr, (body [(16, 1), (20, 10), (24, 10), (28, 1)]), _, _,
    { (queued ACT 2 (body [(16, 1), (20, 10), (24, 10), (28, 1)])) with par := { (queued ACT 2 (body [(16, 1), (20, 10), (24, 10), (28, 1)])).par with owners := [⟨1, 0, 0, 0, 0⟩, ⟨2, 0, 0, 0, 0⟩, ⟨3, 0, 0, 0, 0⟩, ⟨4, 0, 0, 0, 0⟩], applied := true, entries := [defaultEntry] } },
    by unfold Served; decide +kernel, rfl, rfl, by decide +kernel⟩

theorem witness_ActLevels_2 :
    ∃ (h : DHdr) (b : List Byte) (u : State) (c : Chan) (s : State), Served s ACT 3 h b ∧ u = begun s ACT 3 h b ∧ c =
      master u (chanOf b) ∧ actFault u 3 h b [16, 17, 20, 21, 22, 23, 24, 25, 26, 28, 29, 30, 31] (leAt b 26 1 ≥ 4) [1, 4,
      5] (freqBad (chanOf b) (leAt b 20 2) || 10000 < leAt b 22 2 || (bit (leAt b 26 1) 1 && 60000 < leAt b 28 4)) = none :=
  ⟨hdr, (body [(16, 1), (20, 100), (22, 16)]), _, _,
    { (queued ACT 3 (body [(16, 1), (20, 100), (22, 16)])) with par := { (queued ACT 3 (body [(16, 1), (20, 100), (22, 16)])).par with owners := [⟨1, 0, 0, 0, 0⟩, ⟨2, 0, 0, 0, 0⟩, ⟨3, 0, 0, 0, 0⟩, ⟨4, 0, 0, 0, 0⟩], applied := true, entries := [defaultEntry] } },
    by unfold Served; decide +kernel, rfl, rfl, by decide +kernel⟩

theorem witness_ActLevels_3 :
    ∃ (h : DHdr) (b : List Byte) (u : State) (c : Chan) (s : State), Served s ACT 4 h b ∧ u = begun s ACT 4 h b ∧ c =
      master u (chanOf b) ∧ actFault u 4 h b [16, 17, 18, 19] false [1, 3, 4] (31 < leAt b 18 1 || (if (chanOf b).kind = 3
      then svProfileBad u (chanOf b) (leAt b 18 1) else hsProfileBad u (chanOf b) (leAt b 18 1))) = none :=
  ⟨hdr, (body [(16, 1)]), _, _,
    (({ (queued ACT 4 (body [(16, 1)])) with par := { (queued ACT 4 (body [(16, 1)])).par with owners := [⟨1, 0, 0, 0, 0⟩, ⟨2, 0, 0, 0, 0⟩, ⟨3, 0, 0, 0, 0⟩, ⟨4, 0, 0, 0, 0⟩], applied := true, entries := [defaultEntry] } }.wr
    (HS_PROF_SEG_TIME_MS 0 0) 1).wr (HS_PROF_CFG_FREQ 0) 100), by unfold Served; decide +kernel, rfl, rfl,
    by decide +kernel⟩

theorem witness_ActLevels_4 :
    ∃ (h : DHdr) (b : List Byte) (u : State) (st : Nat) (s : State), Served s ACT 1 h b ∧ u = begun s ACT 1 h b ∧
      actFault u 1 h b [16, 17, 18, 20, 21] false [1, 3, 4, 5] (leAt b 18 1 > 1 || ((chanOf b).kind == 3 && leAt b 18 1 !=
      0) || levelBad (chanOf b) (leAt b 20 2)) = some st :=
  ⟨hdr, (body [(16, 1)]), _, NOT_OWNER,
    { (queued ACT 1 (body [(16, 1)])) with par := { (queued ACT 1 (body [(16, 1)])).par with applied := true } },
    by unfold Served; decide +kernel, rfl, by decide +kernel⟩

theorem witness_ActLevels_5 :
    ∃ (c : Chan) (on : Nat) (off : Nat) (n : Nat) (s : State), (chn s c).drv = .pulse on off n ∧ n * (on + off) - off ≤
      usNow s - (chn s c).runAt :=
  ⟨⟨1, 0⟩, 1, 1, 1, { awake with chs := [(chKey ⟨1, 0⟩, { drv := .pulse 1 1 1 })] }, by decide +kernel,
    by decide +kernel⟩

theorem witness_ActLevels_6 :
    ∃ (c : Chan) (p : Nat) (rep : Nat) (g : Nat) (s : State), (chn s (master s c)).drv = .profile p rep ∧ nextSeg s
      (master s c) p (chn s (master s c)).seg = some g :=
  ⟨⟨1, 0⟩, 0, 0, 1, ({ awake with chs := [(chKey ⟨1, 0⟩, { drv := .profile 0 0 })] }.wr (HS_PROF_SEG_TIME_MS 0 1) 1),
    by decide +kernel, by decide +kernel⟩

theorem witness_ActLevels_7 :
    ∃ (c : Chan) (p : Nat) (rep : Nat) (s : State), (chn s (master s c)).drv = .profile p rep ∧ nextSeg s (master s c) p
      (chn s (master s c)).seg = none ∧ (¬ ((rep = 255 ∨ (chn s (master s c)).pass < rep) ∧ (chn s (master s c)).orphan ≠
      2 ∧ (!s.act.interim) = true)) :=
  ⟨⟨1, 0⟩, 0, 0, { awake with chs := [(chKey ⟨1, 0⟩, { drv := .profile 0 0, seg := 7 })] }, by decide +kernel,
    by decide +kernel, by decide +kernel⟩

theorem witness_ActBridgesAndSequences_0 :
    ∃ (h : DHdr) (b : List Byte) (u : State) (c : Chan) (s : State), Served s ACT 5 h b ∧ u = begun s ACT 5 h b ∧ c =
      master u (chanOf b) ∧ (actFault u 5 h b [16, 17, 18, 20, 21, 22, 23, 24, 25, 26, 27, 28, 29, 32, 33, 34, 35, 36]
      (((bridgeBody b).mode = 3 ∨ (bridgeBody b).mode = 4) ∧ leAt b 36 1 ≥ 8) [2] (5 < (bridgeBody b).mode ||
      (((bridgeBody b).mode = 3 ∨ (bridgeBody b).mode = 4) && driveBad u (master u (chanOf b)) (bridgeBody b))) = none) ∧
      ((bridgeBody b).mode = 3 ∨ (bridgeBody b).mode = 4) ∧ blocked u c = false ∧ targetBehind u c (bridgeBody b) = false :=
  ⟨hdr, (body [(16, 2), (18, 3), (20, 16), (21, 39), (24, 100)]), _, _,
    { (queued ACT 5 (body [(16, 2), (18, 3), (20, 16), (21, 39), (24, 100)])) with par := { (queued ACT 5 (body [(16, 2), (18, 3), (20, 16), (21, 39), (24, 100)])).par with owners := [⟨1, 0, 0, 0, 0⟩, ⟨2, 0, 0, 0, 0⟩, ⟨3, 0, 0, 0, 0⟩, ⟨4, 0, 0, 0, 0⟩], applied := true, entries := [defaultEntry] } },
    by unfold Served; decide +kernel, rfl, rfl, by decide +kernel, by decide +kernel, by decide +kernel,
    by decide +kernel⟩

theorem witness_ActBridgesAndSequences_1 :
    ∃ (h : DHdr) (b : List Byte) (u : State) (c : Chan) (s : State), Served s ACT 5 h b ∧ u = begun s ACT 5 h b ∧ c =
      master u (chanOf b) ∧ (actFault u 5 h b [16, 17, 18, 20, 21, 22, 23, 24, 25, 26, 27, 28, 29, 32, 33, 34, 35, 36]
      (((bridgeBody b).mode = 3 ∨ (bridgeBody b).mode = 4) ∧ leAt b 36 1 ≥ 8) [2] (5 < (bridgeBody b).mode ||
      (((bridgeBody b).mode = 3 ∨ (bridgeBody b).mode = 4) && driveBad u (master u (chanOf b)) (bridgeBody b))) = none) ∧
      (¬ ((bridgeBody b).mode = 3 ∨ (bridgeBody b).mode = 4)) :=
  ⟨hdr, (body [(16, 2), (18, 1)]), _, _,
    { (queued ACT 5 (body [(16, 2), (18, 1)])) with par := { (queued ACT 5 (body [(16, 2), (18, 1)])).par with owners := [⟨1, 0, 0, 0, 0⟩, ⟨2, 0, 0, 0, 0⟩, ⟨3, 0, 0, 0, 0⟩, ⟨4, 0, 0, 0, 0⟩], applied := true, entries := [defaultEntry] } },
    by unfold Served; decide +kernel, rfl, rfl, by decide +kernel, by decide +kernel⟩

theorem witness_ActBridgesAndSequences_2 :
    ∃ (h : DHdr) (b : List Byte) (u : State) (s : State), Served s ACT 6 h b ∧ u = begun s ACT 6 h b ∧ seqFault u
      h.part.val b = none :=
  ⟨hdr, (body [(20, 1), (22, 1)]), _,
    { (queued ACT 6 (body [(20, 1), (22, 1)])) with par := { (queued ACT 6 (body [(20, 1), (22, 1)])).par with owners := [⟨1, 0, 0, 0, 0⟩, ⟨2, 0, 0, 0, 0⟩, ⟨3, 0, 0, 0, 0⟩, ⟨4, 0, 0, 0, 0⟩], applied := true, entries := [defaultEntry] } },
    by unfold Served; decide +kernel, rfl, by decide +kernel⟩

theorem witness_ActBridgesAndSequences_3 :
    ∃ (n : Nat) (q : SeqRun) (x : SeqStep) (rest : List SeqStep) (s : State), cdUp s = true ∧ s.act.seqs[n]? = some q ∧
      q.steps = x :: rest ∧ stepHeld s q x.ch = none ∧ rest ≠ [] :=
  ⟨0, ⟨⟨hdr, 6⟩, [⟨0, ⟨1, 0⟩, 1⟩, ⟨0, ⟨1, 0⟩, 1⟩], 0, ⟨1, 0⟩, 2 ^ 42⟩, ⟨0, ⟨1, 0⟩, 1⟩, [⟨0, ⟨1, 0⟩, 1⟩],
    { awake with act := { awake.act with seqs := [⟨⟨hdr, 6⟩, [⟨0, ⟨1, 0⟩, 1⟩, ⟨0, ⟨1, 0⟩, 1⟩], 0, ⟨1, 0⟩, 2 ^ 42⟩] }, par := { awake.par with applied := true, owners := [⟨1, 0, 0, 0, 0⟩, ⟨2, 0, 0, 0, 0⟩, ⟨3, 0, 0, 0, 0⟩, ⟨4, 0, 0, 0, 0⟩] } },
    by decide +kernel, by decide +kernel, by decide +kernel, by decide +kernel, by decide +kernel⟩

theorem witness_ActBridgesAndSequences_4 :
    ∃ (n : Nat) (q : SeqRun) (x : SeqStep) (s : State), cdUp s = true ∧ s.act.seqs[n]? = some q ∧ q.steps = [x] ∧
      stepHeld s q x.ch = none :=
  ⟨0, ⟨⟨hdr, 6⟩, [⟨0, ⟨1, 0⟩, 1⟩], 0, ⟨1, 0⟩, 2 ^ 42⟩, ⟨0, ⟨1, 0⟩, 1⟩,
    { awake with act := { awake.act with seqs := [⟨⟨hdr, 6⟩, [⟨0, ⟨1, 0⟩, 1⟩], 0, ⟨1, 0⟩, 2 ^ 42⟩] }, par := { awake.par with applied := true, owners := [⟨1, 0, 0, 0, 0⟩, ⟨2, 0, 0, 0, 0⟩, ⟨3, 0, 0, 0, 0⟩, ⟨4, 0, 0, 0, 0⟩] } },
    by decide +kernel, by decide +kernel, by decide +kernel, by decide +kernel⟩

theorem witness_ActBridgesAndSequences_5 :
    ∃ (n : Nat) (q : SeqRun) (x : SeqStep) (rest : List SeqStep) (st : Nat) (s : State), cdUp s = true ∧ s.act.seqs[n]?
      = some q ∧ q.steps = x :: rest ∧ stepHeld s q x.ch = some st :=
  ⟨0, ⟨⟨hdr, 6⟩, [⟨0, ⟨1, 0⟩, 1⟩], 0, ⟨1, 0⟩, 2 ^ 42⟩, ⟨0, ⟨1, 0⟩, 1⟩, [], NOT_OWNER,
    { awake with act := { awake.act with seqs := [⟨⟨hdr, 6⟩, [⟨0, ⟨1, 0⟩, 1⟩], 0, ⟨1, 0⟩, 2 ^ 42⟩] }, par := { awake.par with applied := true } },
    by decide +kernel, by decide +kernel, by decide +kernel, by decide +kernel⟩

theorem witness_ActBridgesAndSequences_6 :
    ∃ (h : DHdr) (b : List Byte) (u : State) (c : Chan) (s : State), Served s ACT 7 h b ∧ u = begun s ACT 7 h b ∧ c =
      master u (chanOf b) ∧ actFault u 7 h b [16, 17] false [1, 2, 3, 4, 5] (false) = none ∧ ((moved u c).any (fun k =>
      latched u k || thermOff u k) || (chn u c).nbHold) = true ∧ ((hot u (moved u c) && (moved u c).any (thermOff u)) ||
      ((leadClaim u c).isSome && (moved u c).any (fun k => decide (300 < (chn u k).temp)))) = false :=
  ⟨hdr, (body [(16, 1)]), _, _,
    ({ (queued ACT 7 (body [(16, 1)])) with par := { (queued ACT 7 (body [(16, 1)])).par with owners := [⟨1, 0, 0, 0, 0⟩, ⟨2, 0, 0, 0, 0⟩, ⟨3, 0, 0, 0, 0⟩, ⟨4, 0, 0, 0, 0⟩], applied := true, entries := [defaultEntry] } }.put
    (HS_STATE_LATCHED 0) true), by unfold Served; decide +kernel, rfl, rfl, by decide +kernel, by decide +kernel,
    by decide +kernel⟩

theorem witness_ActBridgesAndSequences_7 :
    ∃ (h : DHdr) (b : List Byte) (u : State) (c : Chan) (s : State), Served s ACT 10 h b ∧ u = begun s ACT 10 h b ∧ c =
      master u (chanOf b) ∧ actFault u 10 h b [16, 17] false [1, 2, 3, 4, 5] (false) = none :=
  ⟨hdr, (body [(16, 1)]), _, _,
    { (queued ACT 10 (body [(16, 1)])) with par := { (queued ACT 10 (body [(16, 1)])).par with owners := [⟨1, 0, 0, 0, 0⟩, ⟨2, 0, 0, 0, 0⟩, ⟨3, 0, 0, 0, 0⟩, ⟨4, 0, 0, 0, 0⟩], applied := true, entries := [defaultEntry] } },
    by unfold Served; decide +kernel, rfl, rfl, by decide +kernel⟩

theorem witness_ClaimsAndGrants_0 :
    ∃ (h : DHdr) (b : List Byte) (u : State) (s : State), Served s ACT 8 h b ∧ u = begun s ACT 8 h b ∧ actFault u 8 h b
      [16, 17, 18, 19] (leAt b 19 1 ≥ 2) [1] (7 < leAt b 18 1) = none ∧ bit (leAt b 19 1) 0 = false :=
  ⟨hdr, (body [(16, 1), (18, 1)]), _,
    { (queued ACT 8 (body [(16, 1), (18, 1)])) with par := { (queued ACT 8 (body [(16, 1), (18, 1)])).par with owners := [⟨1, 0, 0, 0, 0⟩, ⟨2, 0, 0, 0, 0⟩, ⟨3, 0, 0, 0, 0⟩, ⟨4, 0, 0, 0, 0⟩], applied := true, entries := [defaultEntry] } },
    by unfold Served; decide +kernel, rfl, by decide +kernel, by decide +kernel⟩

theorem witness_ClaimsAndGrants_1 :
    ∃ (h : DHdr) (b : List Byte) (u : State) (s : State), Served s ACT 8 h b ∧ u = begun s ACT 8 h b ∧ actFault u 8 h b
      [16, 17, 18, 19] (leAt b 19 1 ≥ 2) [1] (7 < leAt b 18 1) = none ∧ bit (leAt b 19 1) 0 = true :=
  ⟨hdr, (body [(16, 1), (18, 1), (19, 1)]), _,
    { (queued ACT 8 (body [(16, 1), (18, 1), (19, 1)])) with par := { (queued ACT 8 (body [(16, 1), (18, 1), (19, 1)])).par with owners := [⟨1, 0, 0, 0, 0⟩, ⟨2, 0, 0, 0, 0⟩, ⟨3, 0, 0, 0, 0⟩, ⟨4, 0, 0, 0, 0⟩], applied := true, entries := [defaultEntry] } },
    by unfold Served; decide +kernel, rfl, by decide +kernel, by decide +kernel⟩

theorem witness_ClaimsAndGrants_2 :
    ∃ (h : DHdr) (b : List Byte) (u : State) (s : State), Served s ACT 9 h b ∧ u = begun s ACT 9 h b ∧ bodyDirty b [16,
      17, 18, 19, 20] = false ∧ leAt b 20 1 = 0 ∧ (chanOf b).kind = 1 ∧ chOk (chanOf b) = true ∧ chOk ⟨leAt b 18 1, leAt b
      19 1⟩ = true ∧ claimFault u h.part.val (chanOf b) ⟨leAt b 18 1, leAt b 19 1⟩ = none :=
  ⟨hdr, (body [(16, 1), (18, 1), (19, 1)]), _,
    { (queued ACT 9 (body [(16, 1), (18, 1), (19, 1)])) with act := { (queued ACT 9 (body [(16, 1), (18, 1), (19, 1)])).act with grants := [⟨1, 0⟩] }, par := { (queued ACT 9 (body [(16, 1), (18, 1), (19, 1)])).par with owners := [⟨1, 0, 0, 0, 0⟩, ⟨1, 1, 1, 0, 0⟩], applied := true, entries := [defaultEntry] } },
    by unfold Served; decide +kernel, rfl, by decide +kernel, by decide +kernel, by decide +kernel, by decide +kernel,
    by decide +kernel, by decide +kernel⟩

theorem witness_ClaimsAndGrants_3 :
    ∃ (h : DHdr) (b : List Byte) (u : State) (st : Nat) (s : State), Served s ACT 9 h b ∧ u = begun s ACT 9 h b ∧
      bodyDirty b [16, 17, 18, 19, 20] = false ∧ leAt b 20 1 = 0 ∧ (chanOf b).kind = 1 ∧ chOk (chanOf b) = true ∧ chOk
      ⟨leAt b 18 1, leAt b 19 1⟩ = true ∧ claimFault u h.part.val (chanOf b) ⟨leAt b 18 1, leAt b 19 1⟩ = some st :=
  ⟨hdr, (body [(16, 1), (18, 1), (19, 1)]), _, CLAIM_CONFLICT,
    { (queued ACT 9 (body [(16, 1), (18, 1), (19, 1)])) with par := { (queued ACT 9 (body [(16, 1), (18, 1), (19, 1)])).par with owners := [⟨1, 0, 0, 0, 0⟩, ⟨1, 1, 1, 0, 0⟩], applied := true, entries := [defaultEntry] } },
    by unfold Served; decide +kernel, rfl, by decide +kernel, by decide +kernel, by decide +kernel, by decide +kernel,
    by decide +kernel, by decide +kernel⟩

theorem witness_ClaimsAndGrants_4 :
    ∃ (h : DHdr) (b : List Byte) (u : State) (k : Claim) (s : State), Served s ACT 9 h b ∧ u = begun s ACT 9 h b ∧
      bodyDirty b [16, 17, 18, 19, 20] = false ∧ leAt b 20 1 = 1 ∧ (chanOf b).kind = 1 ∧ chOk (chanOf b) = true ∧ chOk
      ⟨leAt b 18 1, leAt b 19 1⟩ = true ∧ ownerOf u 1 (chanOf b).idx = some h.part.val ∧ u.act.claims.find? (fun x =>
      x.lead == (chanOf b).idx && (leAt b 18 1 == 1) && x.fol == leAt b 19 1 && x.claimant == h.part.val) = some k ∧
      isFollow u (chanOf b) = false ∧ heldFault u (chanOf b) = none :=
  ⟨hdr, (body [(16, 1), (18, 1), (19, 1), (20, 1)]), _, ⟨0, 1, 0⟩,
    { (queued ACT 9 (body [(16, 1), (18, 1), (19, 1), (20, 1)])) with act := { (queued ACT 9 (body [(16, 1), (18, 1), (19, 1), (20, 1)])).act with claims := [⟨0, 1, 0⟩] }, par := { (queued ACT 9 (body [(16, 1), (18, 1), (19, 1), (20, 1)])).par with owners := [⟨1, 0, 0, 0, 0⟩, ⟨1, 1, 1, 0, 0⟩], applied := true, entries := [defaultEntry] } },
    by unfold Served; decide +kernel, rfl, by decide +kernel, by decide +kernel, by decide +kernel, by decide +kernel,
    by decide +kernel, by decide +kernel, by decide +kernel, by decide +kernel, by decide +kernel⟩

theorem witness_ClaimsAndGrants_5 :
    ∃ (h : DHdr) (b : List Byte) (u : State) (s : State), Served s ACT 32 h b ∧ u = begun s ACT 32 h b ∧ safeFault u
      h.part.val b = none :=
  ⟨hdr, (body [(16, 1), (18, 1)]), _,
    ({ (queued ACT 32 (body [(16, 1), (18, 1)])) with par := { (queued ACT 32 (body [(16, 1), (18, 1)])).par with applied := true, entries := [{ defaultEntry with home := 1 }] } }.wr
    (ACT_SAFE_MAP0_HS) 1), by unfold Served; decide +kernel, rfl, by decide +kernel⟩

theorem witness_ClaimsAndGrants_6 :
    ∃ (m : LaneMsg) (rest : List LaneMsg) (s : State), cdUp s = true ∧ s.act.lane = m :: rest ∧ m.hdr = none :=
  ⟨{ ch := ⟨1, 0⟩, op := 1, src := 0 }, [],
    { awake with act := { awake.act with lane := [{ ch := ⟨1, 0⟩, op := 1, src := 0 }] } }, by decide +kernel,
    by decide +kernel, by decide +kernel⟩

theorem witness_ClaimsAndGrants_7 :
    ∃ (m : LaneMsg) (rest : List LaneMsg) (h : DHdr) (s : State), cdUp s = true ∧ s.act.lane = m :: rest ∧ m.hdr = some
      h :=
  ⟨{ ch := ⟨1, 0⟩, op := 1, src := 0, hdr := some hdr }, [], hdr,
    { awake with act := { awake.act with lane := [{ ch := ⟨1, 0⟩, op := 1, src := 0, hdr := some hdr }] } },
    by decide +kernel, by decide +kernel, by decide +kernel⟩

theorem witness_ProtectionTrips_0 :
    ∃ (c : Chan) (ma : Nat) (s : State), (c.kind = 1 ∨ c.kind = 5) ∧ canTrip s c = true ∧ 110 * latchUa s c ≤ 100000 *
      ma :=
  ⟨⟨1, 0⟩, 100000, { awake with chs := [(chKey ⟨1, 0⟩, { drv := .on })] }, by decide +kernel, by decide +kernel,
    by decide +kernel⟩

theorem witness_ProtectionTrips_1 :
    ∃ (c : Chan) (ma : Nat) (s : State), (c.kind = 1 ∨ c.kind = 5) ∧ 100000 * ma < 90 * latchUa s c :=
  ⟨⟨1, 0⟩, 0, awake, by decide +kernel, by decide +kernel⟩

theorem witness_ProtectionTrips_2 :
    ∃ (hb : Fin 8) (low : Bool) (ma : Nat) (s : State), canTrip s ⟨2, hb.val⟩ = true ∧ 110 * latchUa s ⟨2, hb.val⟩ ≤
      100000 * ma :=
  ⟨0, false, 100000,
    { awake with chs := [(chKey ⟨2, 0⟩, { drv := .bridge ⟨3, 100, 100, 1, 0, 0, false, false, false⟩ })] },
    by decide +kernel, by decide +kernel⟩

theorem witness_ProtectionTrips_3 :
    ∃ (sv : Fin 8) (ma : Nat) (s : State), canTrip s ⟨3, sv.val⟩ = true ∧ 110 * latchUa s ⟨3, sv.val⟩ ≤ 100000 * ma :=
  ⟨0, 100000, { awake with chs := [(chKey ⟨3, 0⟩, { drv := .profile 0 0 })] }, by decide +kernel, by decide +kernel⟩

theorem witness_ProtectionTrips_4 :
    ∃ (c : Chan) (s : State), c.kind = 1 :=
  ⟨⟨1, 0⟩, awake, by decide +kernel⟩

theorem witness_ProtectionTrips_5 :
    ∃ (c : Chan) (k : Nat) (s : State), (chn s c).retry = some k ∧ latched s c = true ∧ lasted s (chn s c).retryAt (1000
      * retryMs s c k) = true ∧ s.flag SCL_STATUS_STORM = false ∧ s.flag SCL_RUN_RETRY_HOLD = false ∧ (s.pwr.ps == .deep)
      = false ∧ (hot s (moved s c) && (moved s c).any (thermOff s)) = false ∧ c.kind = 1 :=
  ⟨⟨1, 0⟩, 1, ({ awake with chs := [(chKey ⟨1, 0⟩, { retry := some 1 })] }.put (HS_STATE_LATCHED 0) true),
    by decide +kernel, by decide +kernel, by decide +kernel, by decide +kernel, by decide +kernel, by decide +kernel,
    by decide +kernel, by decide +kernel⟩

theorem witness_ProtectionTrips_6 :
    ∃ (c : Chan) (s : State), c.kind = 1 ∧ drvOn (chn s c).drv = true ∧ latched s c = false :=
  ⟨⟨1, 0⟩, { awake with chs := [(chKey ⟨1, 0⟩, { drv := .on })] }, by decide +kernel, by decide +kernel,
    by decide +kernel⟩

theorem witness_ProtectionTrips_7 :
    ∃ (c : Chan) (v : Int) (s : State), chOk c = true ∧ thermOff (showTemp s c v) (master (showTemp s c v) c) = false ∧
      350 ≤ v :=
  ⟨⟨1, 0⟩, 350, awake, by decide +kernel, by decide +kernel, by decide +kernel⟩

theorem witness_ProtectionTrips_8 :
    ∃ (c : Chan) (v : Int) (s : State), chOk c = true ∧ thermOff (showTemp s c v) (master (showTemp s c v) c) = false ∧
      v < 350 :=
  ⟨⟨1, 0⟩, 349, awake, by decide +kernel, by decide +kernel, by decide +kernel⟩

theorem witness_ProtectionTrips_9 :
    ∃ (c : Chan) (v : Int) (s : State), chOk c = true ∧ thermOff (showTemp s c v) (master (showTemp s c v) c) = true ∧ v
      < 350 ∧ thermAuto (showTemp s c v) c = true ∧ hot (showTemp s c v) (moved (showTemp s c v) (master (showTemp s c v)
      c)) = false ∧ ((showTemp s c v).pwr.ps == .deep) = false ∧ (chn (showTemp s c v) (master (showTemp s c v) c)).retry
      = none ∧ folClaim (showTemp s c v) c = none :=
  ⟨⟨1, 0⟩, 0, ((awake.put (HS_STATE_THERM_OFF 0) true).put (HS_CFG_THERM_AUTO 0) true), by decide +kernel,
    by decide +kernel, by decide +kernel, by decide +kernel, by decide +kernel, by decide +kernel, by decide +kernel,
    by decide +kernel⟩

theorem witness_ProtectionTrips_10 :
    ∃ (c : Chan) (lo : Nat) (hi : Nat) (n : Nat) (vlo : Nat) (vhi : Nat) (isOpen : Bool) (s : State), c.kind = 1 ∧ drvOn
      (chn s c).drv = true ∧ chOk c = true ∧ s.pwr.ps = .run ∧ sampled s c = true ∧ isOpen = openSamples (openMa s c) lo
      hi n (s.flag (openF c)) ∧ s.flag (HS_CFG_DIAG_EN c.idx) = true ∧ folClaim s c = none ∧ s.flag (openF c) ≠ isOpen :=
  ⟨⟨1, 0⟩, 0, 0, 1, 0, 0, true,
    (({ awake with pwr := { awake.pwr with ps := .run }, chs := [(chKey ⟨1, 0⟩, { drv := .on })] }.put (HS_CFG_DIAG_EN 0)
    true).wr (HS_DIAG_OL_THR 0) 10), by decide +kernel, by decide +kernel, by decide +kernel, by decide +kernel,
    by decide +kernel, by decide +kernel, by decide +kernel, by decide +kernel, by decide +kernel⟩

theorem witness_ProtectionTrips_11 :
    ∃ (hb : Fin 8) (lo : Nat) (hi : Nat) (s : State), driving s (master s ⟨2, hb.val⟩) = true ∧ rampOver s (master s ⟨2,
      hb.val⟩) (2000 * s.rd (HB_DIAG_OL_DEB (master s ⟨2, hb.val⟩).idx)) = true :=
  ⟨0, 0, 0, { awake with chs := [(chKey ⟨2, 0⟩, { drv := .bridge ⟨3, 100, 100, 1, 0, 0, false, false, false⟩ })] },
    by decide +kernel, by decide +kernel⟩

theorem witness_ProtectionTrips_12 :
    ∃ (sv : Fin 8) (lo : Nat) (hi : Nat) (p : Nat) (g : Nat) (s : State), (chn s (master s ⟨3, sv.val⟩)).drv = .hold p g
      ∧ 2 * (5 * s.rd (SV_DIAG_OL_THR (master s ⟨3, sv.val⟩).idx)) ≤ svTarget s (master s ⟨3, sv.val⟩) :=
  ⟨0, 0, 0, 0, 0, ({ awake with chs := [(chKey ⟨3, 0⟩, { drv := .hold 0 0 })] }.wr (SV_DIAG_OL_THR 0) 0),
    by decide +kernel, by decide +kernel⟩

theorem witness_ProtectionTrips_13 :
    ∃ (sv : Fin 8) (a : Nat) (b : Nat) (s : State), (members s (master s ⟨3, sv.val⟩)).length = 2 ∧ 1000 ≤ a + b ∧ 625 *
      (a + b) < 1000 * max a b ∧ (chn s (master s ⟨3, sv.val⟩)).shareOn = false :=
  ⟨0, 1000, 0, (awake.wr SV_PAIR_PAIR 1), by decide +kernel, by decide +kernel, by decide +kernel, by decide +kernel⟩

theorem witness_ProtectionTrips_14 :
    ∃ (sv : Fin 8) (a : Nat) (b : Nat) (s : State), (members s (master s ⟨3, sv.val⟩)).length = 2 ∧ a + b < 1000 :=
  ⟨0, 0, 0, (awake.wr SV_PAIR_PAIR 1), by decide +kernel, by decide +kernel⟩

theorem witness_BridgeMotion_0 :
    ∃ (hb : Fin 8) (d : BridgeBody) (s : State), (chn s (master s ⟨2, hb.val⟩)).drv = .bridge d ∧ isDrive d = true ∧
      d.runMs ≠ 0 ∧ 1000 * d.runMs ≤ usNow s - (chn s (master s ⟨2, hb.val⟩)).runAt ∧ ((chn s (master s ⟨2,
      hb.val⟩)).limpDrive == .none) = true ∧ ((chn s (master s ⟨2, hb.val⟩)).safe == .none) = true :=
  ⟨0, ⟨3, 100, 100, 1, 0, 0, false, false, false⟩,
    { awake with chs := [(chKey ⟨2, 0⟩, { drv := .bridge ⟨3, 100, 100, 1, 0, 0, false, false, false⟩ })] },
    by decide +kernel, by decide +kernel, by decide +kernel, by decide +kernel, by decide +kernel, by decide +kernel⟩

theorem witness_BridgeMotion_1 :
    ∃ (hb : Fin 8) (d : BridgeBody) (j : Option Job) (at_ : Nat) (s : State), (chn s (master s ⟨2, hb.val⟩)).wait = some
      (d, j) ∧ (chn s (master s ⟨2, hb.val⟩)).driveEnd = some at_ ∧ lasted s at_ (1000 * s.rd (HB_CFG_DIR_GAP (master s
      ⟨2, hb.val⟩).idx)) = true ∧ blocked s (master s ⟨2, hb.val⟩) = false :=
  ⟨0, ⟨3, 100, 100, 1, 0, 0, false, false, false⟩, none, 0,
    { awake with chs := [(chKey ⟨2, 0⟩, { wait := some (⟨3, 100, 100, 1, 0, 0, false, false, false⟩, none), driveEnd := some 0 })] },
    by decide +kernel, by decide +kernel, by decide +kernel, by decide +kernel⟩

theorem witness_BridgeMotion_2 :
    ∃ (hb : Fin 8) (d : BridgeBody) (j : Option Job) (at_ : Nat) (s : State), (chn s (master s ⟨2, hb.val⟩)).wait = some
      (d, j) ∧ (chn s (master s ⟨2, hb.val⟩)).driveEnd = some at_ ∧ lasted s at_ (1000 * s.rd (HB_CFG_DIR_GAP (master s
      ⟨2, hb.val⟩).idx)) = true ∧ blocked s (master s ⟨2, hb.val⟩) = true :=
  ⟨0, ⟨3, 100, 100, 1, 0, 0, false, false, false⟩, none, 0,
    { awake with chs := [(chKey ⟨2, 0⟩, { wait := some (⟨3, 100, 100, 1, 0, 0, false, false, false⟩, none), driveEnd := some 0, feedOff := true })] },
    by decide +kernel, by decide +kernel, by decide +kernel, by decide +kernel⟩

theorem witness_BridgeMotion_3 :
    ∃ (hb : Fin 8) (period : Nat) (amp : Nat) (d : BridgeBody) (s : State), (chn s (master s ⟨2, hb.val⟩)).drv = .bridge
      d ∧ counting s (master s ⟨2, hb.val⟩) = true ∧ isRipple s (master s ⟨2, hb.val⟩) period amp = true ∧ (chn s (master
      s ⟨2, hb.val⟩)).ripSeen = true ∧ (chn s (master s ⟨2, hb.val⟩)).period ≠ 0 ∧ (2 * period < (chn s (master s ⟨2,
      hb.val⟩)).period ∨ 2 * (chn s (master s ⟨2, hb.val⟩)).period < period) :=
  ⟨0, 3000, 1023, ⟨3, 100, 100, 1, 0, 0, false, false, false⟩,
    { awake with chs := [(chKey ⟨2, 0⟩, { drv := .bridge ⟨3, 100, 100, 1, 0, 0, false, false, false⟩, ripSeen := true, period := 10000 })] },
    by decide +kernel, by decide +kernel, by decide +kernel, by decide +kernel, by decide +kernel, by decide +kernel⟩

theorem witness_BridgeMotion_4 :
    ∃ (hb : Fin 8) (period : Nat) (amp : Nat) (d : BridgeBody) (s : State), (chn s (master s ⟨2, hb.val⟩)).drv = .bridge
      d ∧ counting s (master s ⟨2, hb.val⟩) = true ∧ isRipple s (master s ⟨2, hb.val⟩) period amp = true ∧ (chn s (master
      s ⟨2, hb.val⟩)).ripSeen = true ∧ (¬ ((chn s (master s ⟨2, hb.val⟩)).period ≠ 0 ∧ (2 * period < (chn s (master s ⟨2,
      hb.val⟩)).period ∨ 2 * (chn s (master s ⟨2, hb.val⟩)).period < period))) :=
  ⟨0, 3000, 1023, ⟨3, 100, 100, 1, 0, 0, false, false, false⟩,
    { awake with chs := [(chKey ⟨2, 0⟩, { drv := .bridge ⟨3, 100, 100, 1, 0, 0, false, false, false⟩, ripSeen := true, period := 3000 })] },
    by decide +kernel, by decide +kernel, by decide +kernel, by decide +kernel, by decide +kernel⟩

theorem witness_BridgeMotion_5 :
    ∃ (hb : Fin 8) (s : State), counting s (master s ⟨2, hb.val⟩) = true ∧ ((chn s (master s ⟨2, hb.val⟩)).period != 0)
      = true ∧ (chn s (master s ⟨2, hb.val⟩)).fills + 1 ≠ 8 :=
  ⟨0,
    { awake with chs := [(chKey ⟨2, 0⟩, { drv := .bridge ⟨3, 100, 100, 1, 0, 0, false, false, false⟩, period := 10000 })] },
    by decide +kernel, by decide +kernel, by decide +kernel⟩

theorem witness_BridgeMotion_6 :
    ∃ (hb : Fin 8) (s : State), counting s (master s ⟨2, hb.val⟩) = true ∧ ((chn s (master s ⟨2, hb.val⟩)).period != 0)
      = true ∧ (chn s (master s ⟨2, hb.val⟩)).fills + 1 = 8 :=
  ⟨0,
    { awake with chs := [(chKey ⟨2, 0⟩, { drv := .bridge ⟨3, 100, 100, 1, 0, 0, false, false, false⟩, period := 10000, fills := 7 })] },
    by decide +kernel, by decide +kernel, by decide +kernel⟩

theorem witness_BridgeMotion_7 :
    ∃ (hb : Fin 8) (heldMs : Nat) (ma : Nat) (d : BridgeBody) (u : State) (s : State), (chn s (master s ⟨2,
      hb.val⟩)).drv = .bridge d ∧ (d.mode = 3 ∨ d.mode = 4) ∧ ((chn s (master s ⟨2, hb.val⟩)).safe == .none) = true ∧
      s.flag (HB_STATE_STALL (master s ⟨2, hb.val⟩).idx) = false ∧ rampOver s (master s ⟨2, hb.val⟩) 0 = true ∧ 2 * s.rd
      (HB_STALL_STALL_T (master s ⟨2, hb.val⟩).idx) ≤ heldMs ∧ 100 * s.rd (HB_STALL_STALL_I (master s ⟨2, hb.val⟩).idx) ≤
      ma ∧ d.stallStop = false ∧ u = (s.put (HB_STATE_STALL (master s ⟨2, hb.val⟩).idx) true).bump HB_CNT2_STALLS 1 :=
  ⟨0, 100000, 100000, ⟨3, 100, 100, 1, 0, 0, false, false, false⟩, _,
    { awake with chs := [(chKey ⟨2, 0⟩, { drv := .bridge ⟨3, 100, 100, 1, 0, 0, false, false, false⟩ })] },
    by decide +kernel, by decide +kernel, by decide +kernel, by decide +kernel, by decide +kernel, by decide +kernel,
    by decide +kernel, by decide +kernel, rfl⟩

theorem witness_BridgeMotion_8 :
    ∃ (hb : Fin 8) (u : State) (s : State), ((chn s (master s ⟨2, hb.val⟩)).safe == .reverse) = true ∧ (s.rd
      (HB_STATE_REV (master s ⟨2, hb.val⟩).idx) == 1) = true ∧ (chn s (master s ⟨2, hb.val⟩)).revDir ≠ 0 ∧ u = switchTo
      (setRev s (master s ⟨2, hb.val⟩) 2) (master s ⟨2, hb.val⟩) (.bridge ⟨2 + (chn s (master s ⟨2, hb.val⟩)).revDir, s.rd
      (HB_REV_REV_DUTY (master s ⟨2, hb.val⟩).idx), 0, s.rd (HB_REV2_REV_MS (master s ⟨2, hb.val⟩).idx), 0, 0, false,
      false, false⟩) :=
  ⟨0, _, ({ awake with chs := [(chKey ⟨2, 0⟩, { safe := .reverse, revDir := 1 })] }.wr (HB_STATE_REV 0) 1),
    by decide +kernel, by decide +kernel, by decide +kernel, rfl⟩

theorem witness_BridgeMotion_9 :
    ∃ (hb : Fin 8) (u : State) (s : State), ((chn s (master s ⟨2, hb.val⟩)).safe == .reverse) = true ∧ (s.rd
      (HB_STATE_REV (master s ⟨2, hb.val⟩).idx) == 2) = true ∧ 1000 * s.rd (HB_REV2_REV_MS (master s ⟨2, hb.val⟩).idx) ≤
      usNow s - (chn s (master s ⟨2, hb.val⟩)).runAt ∧ u = switchTo (setRev s (master s ⟨2, hb.val⟩) 3) (master s ⟨2,
      hb.val⟩) (.bridge (still 1)) :=
  ⟨0, _, ({ awake with chs := [(chKey ⟨2, 0⟩, { safe := .reverse, revDir := 1 })] }.wr (HB_STATE_REV 0) 2),
    by decide +kernel, by decide +kernel, by decide +kernel, rfl⟩

theorem witness_BridgeMotion_10 :
    ∃ (hb : Fin 8) (s : State), ((chn s (master s ⟨2, hb.val⟩)).safe == .reverse) = true ∧ (s.rd (HB_STATE_REV (master s
      ⟨2, hb.val⟩).idx) == 3) = true :=
  ⟨0, ({ awake with chs := [(chKey ⟨2, 0⟩, { safe := .reverse, revDir := 1 })] }.wr (HB_STATE_REV 0) 3),
    by decide +kernel, by decide +kernel⟩

theorem witness_KerfsAndLeds_0 :
    ∃ (sv : Fin 8) (i : List Nat) (s : State), (chn s (master s ⟨3, sv.val⟩)).kerf = true ∧ (chn s (master s ⟨3,
      sv.val⟩)).found = none :=
  ⟨0, [], { awake with chs := [(chKey ⟨3, 0⟩, { kerf := true })] }, by decide +kernel, by decide +kernel⟩

theorem witness_KerfsAndLeds_1 :
    ∃ (sv : Fin 8) (i : List Nat) (p : Nat) (rep : Nat) (s : State), (chn s (master s ⟨3, sv.val⟩)).kerf = true ∧ (chn s
      (master s ⟨3, sv.val⟩)).found = none ∧ (kerfWatch s (master s ⟨3, sv.val⟩) i).found = none ∧ (chn s (master s ⟨3,
      sv.val⟩)).drv = .profile p rep ∧ learns s (master s ⟨3, sv.val⟩) p = false :=
  ⟨0, [], 0, 0, { awake with chs := [(chKey ⟨3, 0⟩, { kerf := true, drv := .profile 0 0 })] }, by decide +kernel,
    by decide +kernel, by decide +kernel, by decide +kernel, by decide +kernel⟩

theorem witness_KerfsAndLeds_2 :
    ∃ (sv : Fin 8) (i : List Nat) (p : Nat) (rep : Nat) (tEnd : Nat) (depth : Nat) (s : State), (chn s (master s ⟨3,
      sv.val⟩)).kerf = true ∧ (chn s (master s ⟨3, sv.val⟩)).found = some (tEnd, depth) ∧ (chn s (master s ⟨3,
      sv.val⟩)).drv = .profile p rep ∧ learns s (master s ⟨3, sv.val⟩) p = false :=
  ⟨0, [], 0, 0, 1, 1,
    { awake with chs := [(chKey ⟨3, 0⟩, { kerf := true, found := some (1, 1), drv := .profile 0 0 })] },
    by decide +kernel, by decide +kernel, by decide +kernel, by decide +kernel⟩

theorem witness_KerfsAndLeds_3 :
    ∃ (n : Fin 24) (s : State), s.flag (LED_CFG_FMODE n.val) = false ∧ (s.pwr.ps == .deep) = false ∧ (s.pwr.ps == .off)
      = false ∧ ledDue s n.val = true :=
  ⟨0, awake, by decide +kernel, by decide +kernel, by decide +kernel, by decide +kernel⟩

theorem witness_KerfsAndLeds_4 :
    ∃ (n : Fin 24) (r : LedMeas) (s : State), s.flag (LED_CFG_FMODE n.val) = false ∧ (s.pwr.ps == .deep) = false ∧
      (s.pwr.ps == .off) = false ∧ s.flag (LED_GSTAT_SUPPLY_LOST (n.val / 8)) = false ∧ (chn s ⟨4, n.val⟩).test = 1 :=
  ⟨0, ⟨0, 0, none⟩, { awake with chs := [(chKey ⟨4, 0⟩, { test := 1 })] }, by decide +kernel, by decide +kernel,
    by decide +kernel, by decide +kernel, by decide +kernel⟩

theorem witness_KerfsAndLeds_5 :
    ∃ (n : Fin 24) (r : LedMeas) (s : State), s.flag (LED_CFG_FMODE n.val) = false ∧ (s.pwr.ps == .deep) = false ∧
      (s.pwr.ps == .off) = false ∧ s.flag (LED_GSTAT_SUPPLY_LOST (n.val / 8)) = false ∧ (chn s ⟨4, n.val⟩).test = 2 ∧
      n.val < 23 :=
  ⟨0, ⟨0, 0, none⟩, { awake with chs := [(chKey ⟨4, 0⟩, { test := 2 })] }, by decide +kernel, by decide +kernel,
    by decide +kernel, by decide +kernel, by decide +kernel, by decide +kernel⟩

theorem witness_KerfsAndLeds_6 :
    ∃ (g : Fin 3) (f : Nat) (s : State), followOf s g.val = some f ∧ groupOn s g.val = false :=
  ⟨0, 20, (awake.wr (LED_GRP_CFG_SUPPLY 0) 1), by decide +kernel, by decide +kernel⟩

theorem witness_KerfsAndLeds_7 :
    ∃ (n : Fin 24) (mv : Nat) (heldUs : Nat) (s : State), 2 * mv < 1200 + (ledOut s ⟨4, n.val⟩).1 ∧ 2000 ≤ heldUs ∧
      drvOn (chn s ⟨4, n.val⟩).drv = true ∧ s.flag (LED_STATE_HEADROOM n.val) = false ∧ s.flag (LED_GSTAT_SUPPLY_LOST
      (n.val / 8)) = false :=
  ⟨0, 0, 2000, { awake with chs := [(chKey ⟨4, 0⟩, { drv := .on })] }, by decide +kernel, by decide +kernel,
    by decide +kernel, by decide +kernel, by decide +kernel⟩

theorem witness_KerfsAndLeds_8 :
    ∃ (n : Fin 24) (mv : Nat) (heldUs : Nat) (s : State), 1200 + (ledOut s ⟨4, n.val⟩).1 ≤ 2 * mv :=
  ⟨0, 4000, 0, awake, by decide +kernel⟩

theorem witness_KerfsAndLeds_9 :
    ∃ (g : Fin 3) (die : Int) (ohms : List Nat) (s : State), (s.pwr.ps == .off) = false ∧ (s.pwr.ps == .deep) = false ∧
      s.rd (LED_GRP_DER_TSRC g.val) = 0 :=
  ⟨0, 0, [], (awake.wr (LED_GRP_DER_TSRC 0) 0), by decide +kernel, by decide +kernel, by decide +kernel⟩

theorem witness_KerfsAndLeds_10 :
    ∃ (g : Fin 3) (die : Int) (ohms : List Nat) (u : State) (s : State), s.pwr.ps = .run ∧ 1 ≤ s.rd (LED_GRP_DER_TSRC
      g.val) ∧ s.rd (LED_GRP_DER_TSRC g.val) ≤ 6 ∧ u = (s.put (LED_GSTAT_NTC_FAULT g.val) false).wrInt (LED_GSTAT_TGRP
      g.val) die :=
  ⟨0, 0, [], _, { awake with pwr := { awake.pwr with ps := .run } }, by decide +kernel, by decide +kernel,
    by decide +kernel, rfl⟩

theorem witness_KerfsAndLeds_11 :
    ∃ (g : Fin 3) (die : Int) (ohms : List Nat) (u : State) (v : Int) (s : State), s.pwr.ps = .run ∧ 8 ≤ s.rd
      (LED_GRP_DER_TSRC g.val) ∧ s.rd (LED_GRP_DER_TSRC g.val) ≤ 23 ∧ ntcMean s g.val (s.rd (LED_GRP_DER_TSRC g.val)) ohms
      = some v ∧ u = (s.put (LED_GSTAT_NTC_FAULT g.val) false).wrInt (LED_GSTAT_TGRP g.val) v :=
  ⟨0, 0, [10000], _, 50, (({ awake with pwr := { awake.pwr with ps := .run } }.wr (LED_GRP_DER_TSRC 0) 8).wr
    (SIN_CFG_AMODE 32) 1), by decide +kernel, by decide +kernel, by decide +kernel, by decide +kernel, rfl⟩

theorem witness_KerfsAndLeds_12 :
    ∃ (g : Fin 3) (die : Int) (ohms : List Nat) (s : State), s.pwr.ps = .run ∧ 8 ≤ s.rd (LED_GRP_DER_TSRC g.val) ∧ s.rd
      (LED_GRP_DER_TSRC g.val) ≤ 23 ∧ ntcMean s g.val (s.rd (LED_GRP_DER_TSRC g.val)) ohms = none ∧ s.flag
      (LED_GSTAT_NTC_FAULT g.val) = false :=
  ⟨0, 0, [], ({ awake with pwr := { awake.pwr with ps := .run } }.wr (LED_GRP_DER_TSRC 0) 8), by decide +kernel,
    by decide +kernel, by decide +kernel, by decide +kernel, by decide +kernel⟩

theorem witness_KerfsAndLeds_13 :
    ∃ (g : Fin 3) (s : State), s.flag (LED_GSTAT_NTC_FAULT g.val) = true :=
  ⟨0, (awake.put (LED_GSTAT_NTC_FAULT 0) true), by decide +kernel⟩

theorem witness_FieldAndFeeds_0 :
    ∃ (n : Fin 16) (mv : Nat) (heldUs : Nat) (s : State), s.rd (FIO_CFG_MODE n.val) = 1 ∧ max 50 (100 * s.rd
      (FIO_CFG_DEB n.val)) ≤ heldUs ∧ quiet s = false ∧ bit (s.rd FIO_IN_LEVEL) n.val = false ∧ s.flag (FIO_CFG_ITYPE
      n.val) = false ∧ 13000 ≤ mv ∧ s.flag (FIO_CFG_IN_EVT n.val) = false :=
  ⟨0, 13000, 100000, (awake.wr (FIO_CFG_MODE 0) 1), by decide +kernel, by decide +kernel, by decide +kernel,
    by decide +kernel, by decide +kernel, by decide +kernel, by decide +kernel⟩

theorem witness_FieldAndFeeds_1 :
    ∃ (n : Fin 16) (mv : Nat) (heldUs : Nat) (s : State), s.rd (FIO_CFG_MODE n.val) = 1 ∧ max 50 (100 * s.rd
      (FIO_CFG_DEB n.val)) ≤ heldUs ∧ quiet s = false ∧ bit (s.rd FIO_IN_LEVEL) n.val = true ∧ s.flag (FIO_CFG_ITYPE
      n.val) = true ∧ mv ≤ 5500 ∧ s.flag (FIO_CFG_IN_EVT n.val) = true :=
  ⟨0, 5500, 100000, (((((((awake.wr (FIO_CFG_MODE 0) 1).put (FIO_CFG_ITYPE 0) true).put (FIO_CFG_IN_EVT 0) true).wr
    FIO_IN_LEVEL 1).wr (FIO_CFG_MODE 0) 1).put (FIO_CFG_ITYPE 0) true).put (FIO_CFG_IN_EVT 0) true), by decide +kernel,
    by decide +kernel, by decide +kernel, by decide +kernel, by decide +kernel, by decide +kernel, by decide +kernel⟩

theorem witness_FieldAndFeeds_2 :
    ∃ (s : State), s.flag FIO_STATUS_FAULT = true :=
  ⟨(awake.put FIO_STATUS_FAULT true), by decide +kernel⟩

theorem witness_FieldAndFeeds_3 :
    ∃ (s : State), s.flag FIO_STATUS_FAULT = true :=
  ⟨(awake.put FIO_STATUS_FAULT true), by decide +kernel⟩

theorem witness_FieldAndFeeds_4 :
    ∃ (mv : Nat) (heldMs : Nat) (s : State), (s.pwr.ps == .deep) = false ∧ (s.pwr.ps == .off) = false ∧ 500 * s.rd
      FIO_BLK_UV + 1000 < mv ∧ 10 ≤ heldMs :=
  ⟨100000, 10, awake, by decide +kernel, by decide +kernel, by decide +kernel, by decide +kernel⟩

theorem witness_FieldAndFeeds_5 :
    ∃ (n : Fin 16) (mv : Nat) (heldMs : Nat) (s : State), quiet s = false ∧ s.rd (FIO_CFG_MODE n.val) = 1 ∧ 5000 < mv ∧
      mv < 11000 ∧ 100 ≤ heldMs :=
  ⟨0, 5001, 100, (awake.wr (FIO_CFG_MODE 0) 1), by decide +kernel, by decide +kernel, by decide +kernel,
    by decide +kernel, by decide +kernel⟩

theorem witness_FieldAndFeeds_6 :
    ∃ (n : Fin 16) (mv : Nat) (heldMs : Nat) (s : State), quiet s = false ∧ s.rd (FIO_CFG_MODE n.val) ≠ 1 :=
  ⟨0, 0, 0, awake, by decide +kernel, by decide +kernel⟩

theorem witness_FieldAndFeeds_7 :
    ∃ (f : Fin 4) (mv : Nat) (heldUs : Nat) (s : State), 100 ≤ heldUs ∧ mv < 4300 :=
  ⟨0, 0, 100, awake, by decide +kernel, by decide +kernel⟩

theorem witness_FieldAndFeeds_8 :
    ∃ (f : Fin 4) (mv : Nat) (heldUs : Nat) (s : State), 4700 ≤ mv :=
  ⟨0, 4700, 0, awake, by decide +kernel⟩

theorem witness_FieldAndFeeds_9 :
    ∃ (f : Fin 4) (mv : Nat) (heldUs : Nat) (s : State), 10 ≤ heldUs ∧ 38000 ≤ mv :=
  ⟨0, 38000, 10, awake, by decide +kernel, by decide +kernel⟩

theorem witness_FieldAndFeeds_10 :
    ∃ (f : Fin 4) (mv : Nat) (heldUs : Nat) (s : State), 1000 ≤ heldUs ∧ 5200 ≤ mv ∧ mv < 35000 :=
  ⟨0, 5200, 1000, awake, by decide +kernel, by decide +kernel, by decide +kernel⟩

theorem witness_InputsAndConversions_0 :
    ∃ (mv : List Nat) (vspar : Nat) (s : State), cdUp s = true ∧ s.pwr.ps = .run :=
  ⟨[], 0, { awake with pwr := { awake.pwr with ps := .run } }, by decide +kernel, by decide +kernel⟩

theorem witness_InputsAndConversions_1 :
    ∃ (mv : List Nat) (vspar : Nat) (u : State) (s : State), s.pwr.ps = .sleep ∧ burstDue s = true ∧ s.sns.captured =
      none ∧ (u = (List.range 48).foldl (burstInput mv vspar) { s with sns := { s.sns with burstAt := s.now } }) ∧
      u.pwr.ps = .sleep :=
  ⟨[], 0, _, { awake with pwr := { awake.pwr with ps := .sleep }, sns := { awake.sns with captured := none } },
    by decide +kernel, by decide +kernel, by decide +kernel, rfl, by decide +kernel⟩

theorem witness_InputsAndConversions_2 :
    ∃ (mv : List Nat) (vspar : Nat) (cap : Nat) (s : State), s.pwr.ps = .deep ∧ burstDue s = true ∧ s.sns.captured =
      some cap :=
  ⟨[], 0, 0, { awake with pwr := { awake.pwr with ps := .deep }, sns := { awake.sns with captured := some (0) } },
    by decide +kernel, by decide +kernel, by decide +kernel⟩

theorem witness_InputsAndConversions_3 :
    ∃ (m : Fin 16) (value : Nat) (s : State), s.flag (SIN_CFG_EN (32 + m.val)) = true ∧ s.pwr.ps = .run ∧ s.rd
      (SIN_CFG_AMODE (32 + m.val)) = 1 ∧ lasted s (tabGet 0 s.sns.anaAt m.val) (1000 * s.rd (SIN_CFG_ANA_MS (32 + m.val)))
      = true ∧ bit (s.rd SIN_AFLT_AFAULT) m.val = false :=
  ⟨0, 0, (({ awake with pwr := { awake.pwr with ps := .run } }.put (SIN_CFG_EN 32) true).wr (SIN_CFG_AMODE 32) 1),
    by decide +kernel, by decide +kernel, by decide +kernel, by decide +kernel, by decide +kernel⟩

theorem witness_InputsAndConversions_4 :
    ∃ (adc : Fin 16) (departure : Int) (s : State), 100 < departure.natAbs ∧ adc.val < 3 :=
  ⟨0, 101, awake, by decide +kernel, by decide +kernel⟩

theorem witness_InputsAndConversions_5 :
    ∃ (adc : Fin 16) (departure : Int) (s : State), departure.natAbs ≤ 100 :=
  ⟨0, 0, awake, by decide +kernel⟩

theorem witness_StreamDescriptors_0 :
    ∃ (h : DHdr) (b : List Byte) (u : State) (x : Strm) (a : Nat) (s : State), Served s SNS 1 h b ∧ u = begun s SNS 1 h
      b ∧ x = openBody u h.part.val b ∧ bodyDirty b ((List.range 34).map (16 + ·)) = false ∧ leAt b 31 1 = 0 ∧ leAt b 29 1
      < 4 ∧ openBad u x = false ∧ openOwned u x = true ∧ translate u h.part.val x.base (2 ^ x.nblk * slotSize x.src
      x.nsamp) 1 = some a ∧ ((x.hop < x.nsamp → x.inf = true)) ∧ x.demand ≤ u.rd SIN_SCHED_CAP_FREE :=
  ⟨hdr, (body [(17, 4), (18, 6), (19, 32), (20, 100), (24, 16), (28, 1), (35, 16)]), _, _, 0x10000000,
    ({ (queued SNS 1 (body [(17, 4), (18, 6), (19, 32), (20, 100), (24, 16), (28, 1), (35, 16)])) with par := { (queued SNS 1 (body [(17, 4), (18, 6), (19, 32), (20, 100), (24, 16), (28, 1), (35, 16)])).par with owners := [⟨1, 0, 0, 0, 0⟩, ⟨6, 0, 32, 0, 0⟩, ⟨11, 0, 0, 0, 0⟩], applied := true, entries := [defaultEntry] } }.wr
    SIN_SCHED_CAP_FREE 100), by unfold Served; decide +kernel, rfl, rfl, by decide +kernel, by decide +kernel,
    by decide +kernel, by decide +kernel, by decide +kernel, by decide +kernel, by decide +kernel, by decide +kernel⟩

theorem witness_StreamDescriptors_1 :
    ∃ (h : DHdr) (b : List Byte) (samples : List Byte) (back : Nat) (u : State) (v : State) (x : Strm) (s : State),
      Served s SNS 2 h b ∧ u = begun s SNS 2 h b ∧ bodyDirty b [16] = false ∧ strmAt u h.part.val (leAt b 16 1) = some x ∧
      x.closing = none ∧ v = (if edgeSrc x.src then completeBlock u x.part (leAt b 16 1) x.buf x.t0 else completeBlock u
      x.part (leAt b 16 1) (samples.take (x.nsamp * sampleSize x.src)) (dtNow u - back)) :=
  ⟨hdr, (body []), [], 0, _, _,
    { part := 0, slot := 0, src := 4, kind := 6, index := 32, rate := 100, nsamp := 1, hop := 1, nblk := 1, inf := false, blkEvt := false, ctx := 0, base := 0x10000000, mask := 0, flush := 0, stream := 0 },
    { (queued SNS 2 (body [])) with sns := { (queued SNS 2 (body [])).sns with streams := [{ part := 0, slot := 0, src := 4, kind := 6, index := 32, rate := 100, nsamp := 1, hop := 1, nblk := 1, inf := false, blkEvt := false, ctx := 0, base := 0x10000000, mask := 0, flush := 0, stream := 0 }] } },
    by unfold Served; decide +kernel, rfl, by decide +kernel, by decide +kernel, by decide +kernel, rfl⟩

theorem witness_StreamDescriptors_2 :
    ∃ (h : DHdr) (b : List Byte) (u : State) (s : State), Served s SNS 4 h b ∧ u = begun s SNS 4 h b ∧ bodyDirty b [17,
      18, 19] = false ∧ leAt b 17 1 = 4 ∧ srcBad u 4 (leAt b 18 1) (leAt b 19 1) = false ∧ ownerOf u (leAt b 18 1) (leAt b
      19 1) = some h.part.val :=
  ⟨hdr, (body [(17, 4), (18, 6), (19, 32)]), _,
    { (queued SNS 4 (body [(17, 4), (18, 6), (19, 32)])) with par := { (queued SNS 4 (body [(17, 4), (18, 6), (19, 32)])).par with owners := [⟨1, 0, 0, 0, 0⟩, ⟨6, 0, 32, 0, 0⟩, ⟨11, 0, 0, 0, 0⟩], applied := true, entries := [defaultEntry] } },
    by unfold Served; decide +kernel, rfl, by decide +kernel, by decide +kernel, by decide +kernel, by decide +kernel⟩

theorem witness_StreamDescriptors_3 :
    ∃ (part : Fin 8) (slot : Fin 16) (samples : List Byte) (back : Nat) (x : Strm) (s : State), cdUp s = true ∧ strmAt s
      part.val slot.val = some x ∧ edgeSrc x.src = true :=
  ⟨0, 0, [], 0,
    { part := 0, slot := 0, src := 3, kind := 0, index := 0, rate := 100, nsamp := 1, hop := 1, nblk := 1, inf := false, blkEvt := false, ctx := 0, base := 0x10000000, mask := 0, flush := 0, stream := 0 },
    { awake with sns := { awake.sns with streams := [{ part := 0, slot := 0, src := 3, kind := 0, index := 0, rate := 100, nsamp := 1, hop := 1, nblk := 1, inf := false, blkEvt := false, ctx := 0, base := 0x10000000, mask := 0, flush := 0, stream := 0 }] } },
    by decide +kernel, by decide +kernel, by decide +kernel⟩

theorem witness_StreamDescriptors_4 :
    ∃ (part : Fin 8) (slot : Fin 16) (samples : List Byte) (back : Nat) (x : Strm) (s : State), cdUp s = true ∧ strmAt s
      part.val slot.val = some x ∧ edgeSrc x.src = false ∧ x.src ≠ 2 :=
  ⟨0, 0, [], 0,
    { part := 0, slot := 0, src := 4, kind := 6, index := 32, rate := 100, nsamp := 1, hop := 1, nblk := 1, inf := false, blkEvt := false, ctx := 0, base := 0x10000000, mask := 0, flush := 0, stream := 0 },
    { awake with sns := { awake.sns with streams := [{ part := 0, slot := 0, src := 4, kind := 6, index := 32, rate := 100, nsamp := 1, hop := 1, nblk := 1, inf := false, blkEvt := false, ctx := 0, base := 0x10000000, mask := 0, flush := 0, stream := 0 }] } },
    by decide +kernel, by decide +kernel, by decide +kernel, by decide +kernel⟩

theorem witness_StreamDescriptors_5 :
    ∃ (part : Fin 8) (slot : Fin 16) (x : Strm) (w : SWin) (b : Brand) (s : State), infUp s = true ∧ strmAt s part.val
      slot.val = some x ∧ ctxState s x.ctx = 2 ∧ x.wins.find? (fun w => !w.handed) = some w ∧ b = brandOfMem (readBytes s
      w.addr 24) ∧ brandSound b (leAt (readBytes s w.addr 24) 19 1) [] (readBytes s (w.addr + 32) (w.count * sampleSize
      x.src)) = false :=
  ⟨0, 0,
    { part := 0, slot := 0, src := 4, kind := 6, index := 32, rate := 100, nsamp := 1, hop := 1, nblk := 1, inf := true, blkEvt := false, ctx := 0, base := 0x10000000, mask := 0, flush := 0, stream := 0, wins := [{ blk := 0, seq := 0, addr := 0x10000000, count := 1 }] },
    { blk := 0, seq := 0, addr := 0x10000000, count := 1 }, _,
    ({ awake with sns := { awake.sns with streams := [{ part := 0, slot := 0, src := 4, kind := 6, index := 32, rate := 100, nsamp := 1, hop := 1, nblk := 1, inf := true, blkEvt := false, ctx := 0, base := 0x10000000, mask := 0, flush := 0, stream := 0, wins := [{ blk := 0, seq := 0, addr := 0x10000000, count := 1 }] }] } }.wr
    (INF_CTX_STAT_STATE 0) 2), by decide +kernel, by decide +kernel, by decide +kernel, by decide +kernel, rfl,
    by decide +kernel⟩

theorem witness_StreamDescriptors_6 :
    ∃ (part : Fin 8) (slot : Fin 16) (x : Strm) (w : SWin) (r : List Byte) (data : List Byte) (u : State) (s : State),
      infUp s = true ∧ strmAt s part.val slot.val = some x ∧ ctxState s x.ctx = 2 ∧ x.wins.find? (fun w => !w.handed) =
      some w ∧ r = readBytes s w.addr 24 ∧ data = readBytes s (w.addr + 32) (w.count * sampleSize x.src) ∧ brandSound
      (brandOfMem r) (leAt r 19 1) [] data = true ∧ (brandOfMem r).stream = x.stream ∧ bit (brandOfMem r).flags 5 = true ∧
      data.length = imgInLen (ctxAt s x.ctx).img ∧ (u = setCtx (setStrm s
      { x with wins := x.wins.map (fun v => if v.blk == w.blk then { v with handed := true } else v) }) x.ctx
      { ctxAt s x.ctx with handed := some (brandOfMem r).seq, handedAt := s.now }) :=
  ⟨0, 0,
    { part := 0, slot := 0, src := 4, kind := 6, index := 32, rate := 100, nsamp := 1, hop := 1, nblk := 1, inf := true, blkEvt := false, ctx := 0, base := 0x10000000, mask := 0, flush := 0, stream := 0, wins := [{ blk := 0, seq := 0, addr := 0x10000000, count := 1 }] },
    { blk := 0, seq := 0, addr := 0x10000000, count := 1 }, _, _, _,
    ({ awake with mem := image3, inf := { awake.inf with ctxs := [(0, { img := body [(8, 4)] })] }, sns := { awake.sns with streams := [{ part := 0, slot := 0, src := 4, kind := 6, index := 32, rate := 100, nsamp := 1, hop := 1, nblk := 1, inf := true, blkEvt := false, ctx := 0, base := 0x10000000, mask := 0, flush := 0, stream := 0, wins := [{ blk := 0, seq := 0, addr := 0x10000000, count := 1 }] }] } }.wr
    (INF_CTX_STAT_STATE 0) 2), by decide +kernel, by decide +kernel, by decide +kernel, by decide +kernel, rfl, rfl,
    by decide +kernel, by decide +kernel, by decide +kernel, by decide +kernel, rfl⟩

theorem witness_StreamDescriptors_7 :
    ∃ (h : DHdr) (b : List Byte) (u : State) (x : Strm) (s : State), Served s SNS 3 h b ∧ u = begun s SNS 3 h b ∧
      bodyDirty b [16, 20, 21, 22, 23] = false ∧ strmAt u h.part.val (leAt b 16 1) = some x ∧ (leAt b 20 4 + 2 ^ 32 -
      x.cons) % 2 ^ 32 ≤ (x.prod + 2 ^ 32 - x.cons) % 2 ^ 32 :=
  ⟨hdr, (body [(20, 1)]), _,
    { part := 0, slot := 0, src := 4, kind := 6, index := 32, rate := 100, nsamp := 1, hop := 1, nblk := 1, inf := false, blkEvt := false, ctx := 0, base := 0x10000000, mask := 0, flush := 0, stream := 0, prod := 1 },
    { (queued SNS 3 (body [(20, 1)])) with sns := { (queued SNS 3 (body [(20, 1)])).sns with streams := [{ part := 0, slot := 0, src := 4, kind := 6, index := 32, rate := 100, nsamp := 1, hop := 1, nblk := 1, inf := false, blkEvt := false, ctx := 0, base := 0x10000000, mask := 0, flush := 0, stream := 0, prod := 1 }] } },
    by unfold Served; decide +kernel, rfl, by decide +kernel, by decide +kernel, by decide +kernel⟩

theorem witness_StreamDescriptors_8 :
    ∃ (h : DHdr) (b : List Byte) (u : State) (x : Strm) (s : State), Served s SNS 3 h b ∧ u = begun s SNS 3 h b ∧
      bodyDirty b [16, 20, 21, 22, 23] = false ∧ strmAt u h.part.val (leAt b 16 1) = some x ∧ (x.prod + 2 ^ 32 - x.cons) %
      2 ^ 32 < (leAt b 20 4 + 2 ^ 32 - x.cons) % 2 ^ 32 :=
  ⟨hdr, (body [(20, 2)]), _,
    { part := 0, slot := 0, src := 4, kind := 6, index := 32, rate := 100, nsamp := 1, hop := 1, nblk := 1, inf := false, blkEvt := false, ctx := 0, base := 0x10000000, mask := 0, flush := 0, stream := 0, prod := 1 },
    { (queued SNS 3 (body [(20, 2)])) with sns := { (queued SNS 3 (body [(20, 2)])).sns with streams := [{ part := 0, slot := 0, src := 4, kind := 6, index := 32, rate := 100, nsamp := 1, hop := 1, nblk := 1, inf := false, blkEvt := false, ctx := 0, base := 0x10000000, mask := 0, flush := 0, stream := 0, prod := 1 }] } },
    by unfold Served; decide +kernel, rfl, by decide +kernel, by decide +kernel, by decide +kernel⟩

theorem witness_ScalerSteps_0 :
    ∃ (x : ScalerIn) (u : State) (s : State), s.pwr.ps ≠ .off ∧ s.flt.skip = false ∧ u = (List.range 8).foldl
      (budgetStep x) (allChans.foldl (wireStep x) (x.chans.foldl showMeas (keepFeeds s x))) :=
  ⟨⟨[], 0, 0, 0, 0, 0, 0, 0⟩, _, { awake with flt := { awake.flt with skip := false } }, by decide +kernel,
    by decide +kernel, rfl⟩

theorem witness_ScalerSteps_1 :
    ∃ (x : ScalerIn) (s : State), s.pwr.ps ≠ .off ∧ s.flt.skip = true :=
  ⟨⟨[], 0, 0, 0, 0, 0, 0, 0⟩, { awake with flt := { awake.flt with skip := true } }, by decide +kernel,
    by decide +kernel⟩

theorem witness_ScalerSteps_2 :
    ∃ (cause : Fin 4) (s : State), s.pwr.ps ≠ .off ∧ ((s.now :: s.scl.restarts).filter (fun t => s.now - t <
      32768)).length < 3 :=
  ⟨0, awake, by decide +kernel, by decide +kernel⟩

theorem witness_ScalerSteps_3 :
    ∃ (cause : Fin 4) (s : State), s.pwr.ps ≠ .off ∧ 3 ≤ ((s.now :: s.scl.restarts).filter (fun t => s.now - t <
      32768)).length :=
  ⟨0, { awake with scl := { awake.scl with restarts := [2 ^ 42, 2 ^ 42] } }, by decide +kernel, by decide +kernel⟩

theorem witness_ScalerSteps_4 :
    ∃ (s : State), s.flag SCL_STATUS_STORM = true ∧ lasted s s.scl.stormAt (1000000 * s.rd SCL_RETRY_STORM_HOLD) = true :=
  ⟨(awake.put SCL_STATUS_STORM true), by decide +kernel, by decide +kernel⟩

theorem witness_ScalerSteps_5 :
    ∃ (s : State), cdUp s = true ∧ ((List.range 4).map (fun i => tabGet 0 s.scl.loss i)).sum = 0 ∧ s.flag SCL_STATUS_OVL
      = true ∧ s.rd SCL_OVL_OVL_CLEAR ≤ s.scl.clean + 1 :=
  ⟨(({ awake with scl := { awake.scl with clean := 1000 } }.put SCL_STATUS_OVL true).put SCL_STATUS_OVL true),
    by decide +kernel, by decide +kernel, by decide +kernel, by decide +kernel⟩

theorem witness_ScalerSteps_6 :
    ∃ (s : State), cdUp s = true ∧ ((List.range 4).map (fun i => tabGet 0 s.scl.loss i)).sum = 0 ∧ s.flag SCL_STATUS_OVL
      = true ∧ s.scl.clean + 1 < s.rd SCL_OVL_OVL_CLEAR :=
  ⟨(awake.put SCL_STATUS_OVL true), by decide +kernel, by decide +kernel, by decide +kernel, by decide +kernel⟩

theorem witness_ScalerSteps_7 :
    ∃ (s : State), cdUp s = true ∧ ((List.range 4).map (fun i => tabGet 0 s.scl.loss i)).sum ≠ 0 ∧ s.flag SCL_STATUS_OVL
      = false :=
  ⟨{ awake with scl := { awake.scl with loss := [(0, 1)] } }, by decide +kernel, by decide +kernel, by decide +kernel⟩

theorem witness_Contexts_0 :
    ∃ (h : DHdr) (b : List Byte) (u : State) (hd : List Byte) (out : Nat) (out2 : Nat) (s : State), Served s INF 1 h b ∧
      u = begun s INF 1 h b ∧ bodyDirty b ([16, 17, 18, 19] ++ (List.range 16).map (24 + ·)) = false ∧ leAt b 16 1 < 16 ∧
      leAt b 17 1 < 3 ∧ leAt b 18 1 < 2 ∧ 1 ≤ leAt b 19 1 ∧ leAt b 19 1 ≤ 12 ∧ leAt b 32 8 % 64 = 0 ∧ ownerOf u 11 (leAt b
      16 1) = some h.part.val ∧ ctxState u (leAt b 16 1) = 0 ∧ (¬ (leAt b 18 1 = 0 ∧ homeOf u h.part.val = 2)) ∧ ((∀ f,
      withData u INF h 1 (leAt b 24 8) 64 f = f u hd)) ∧ headerOk hd true = true ∧ translate u h.part.val (leAt b 32 8) (2
      * 2 ^ leAt b 19 1 * rsize hd) 0 = some out ∧ translate u h.part.val (leAt b 32 8) (2 * 2 ^ leAt b 19 1 * rsize hd) 1
      = some out2 :=
  ⟨hdr, (body [(19, 1), (27, 16), (34, 2), (35, 16)]), _, image6, 0x10020000, 0x10020000,
    { (queued INF 1 (body [(19, 1), (27, 16), (34, 2), (35, 16)])) with par := { (queued INF 1 (body [(19, 1), (27, 16), (34, 2), (35, 16)])).par with owners := [⟨1, 0, 0, 0, 0⟩, ⟨6, 0, 32, 0, 0⟩, ⟨11, 0, 0, 0, 0⟩], applied := true, entries := [defaultEntry] }, mem := image5 },
    by unfold Served; decide +kernel, rfl, by decide +kernel, by decide +kernel, by decide +kernel, by decide +kernel,
    by decide +kernel, by decide +kernel, by decide +kernel, by decide +kernel, by decide +kernel, by decide +kernel,
    withData_of (a := 0x10000000) (by decide +kernel) (by decide +kernel), by decide +kernel, by decide +kernel,
    by decide +kernel⟩

set_option maxRecDepth 100000 in
theorem witness_Contexts_1 :
    ∃ (ctx : Fin 16) (execA : Nat) (execB : Nat) (h : DHdr) (s : State), infUp s = true ∧ ctxState s ctx.val = 1 ∧
      (ctxAt s ctx.val).load = some h ∧ ctxFault s (ctxAt s ctx.val) execA execB = none :=
  ⟨0, 0, 0, hdr,
    (({ awake with inf := { awake.inf with ctxs := [(0, { img := image4, mode := 0, load := some hdr })] } }.wr
    (INF_CTX_STAT_STATE 0) 1).wr INF_MEM_A_FREE 100), by decide +kernel, by decide +kernel, by decide +kernel,
    by decide +kernel⟩

theorem witness_Contexts_2 :
    ∃ (ctx : Fin 16) (execA : Nat) (execB : Nat) (h : DHdr) (why : Nat) (s : State), infUp s = true ∧ ctxState s ctx.val
      = 1 ∧ (ctxAt s ctx.val).load = some h ∧ ctxFault s (ctxAt s ctx.val) execA execB = some why :=
  ⟨0, 0, 0, hdr, 1, (({ awake with inf := { awake.inf with ctxs := [(0, { load := some hdr })] } }.wr
    (INF_CTX_STAT_STATE 0) 1).wr INF_MEM_A_FREE 100), by decide +kernel, by decide +kernel, by decide +kernel,
    by decide +kernel⟩

theorem witness_Contexts_3 :
    ∃ (h : DHdr) (b : List Byte) (u : State) (s : State), Served s INF 2 h b ∧ u = begun s INF 2 h b ∧ bodyDirty b [16]
      = false ∧ leAt b 16 1 < 16 ∧ ownerOf u 11 (leAt b 16 1) = some h.part.val ∧ ctxState u (leAt b 16 1) ≠ 1 ∧
      u.inf.jobs.any (fun j => j.ctx == leAt b 16 1 && !j.settled) = false :=
  ⟨hdr, (body []), _,
    { (queued INF 2 (body [])) with par := { (queued INF 2 (body [])).par with owners := [⟨11, 0, 0, 0, 0⟩] } },
    by unfold Served; decide +kernel, rfl, by decide +kernel, by decide +kernel, by decide +kernel, by decide +kernel,
    by decide +kernel⟩

theorem witness_Contexts_4 :
    ∃ (h : DHdr) (b : List Byte) (u : State) (s : State), Served s INF 2 h b ∧ u = begun s INF 2 h b ∧ bodyDirty b [16]
      = false ∧ leAt b 16 1 < 16 ∧ ownerOf u 11 (leAt b 16 1) = some h.part.val ∧ ((ctxState u (leAt b 16 1) = 1 ∨
      u.inf.jobs.any (fun j => j.ctx == leAt b 16 1 && !j.settled) = true)) :=
  ⟨hdr, (body []), _,
    ({ (queued INF 2 (body [])) with par := { (queued INF 2 (body [])).par with owners := [⟨1, 0, 0, 0, 0⟩, ⟨6, 0, 32, 0, 0⟩, ⟨11, 0, 0, 0, 0⟩] } }.wr
    (INF_CTX_STAT_STATE 0) 1), by unfold Served; decide +kernel, rfl, by decide +kernel, by decide +kernel,
    by decide +kernel, by decide +kernel⟩

set_option maxRecDepth 100000 in
theorem witness_Contexts_5 :
    ∃ (ctx : Fin 16) (execA : Nat) (execB : Nat) (a : Nat) (u : State) (img : List Byte) (y : Ctx) (s : State), infUp s
      = true ∧ ctxState s ctx.val = 3 ∧ translate s (ctxAt s ctx.val).part (ctxAt s ctx.val).imgAddr (ctxAt s
      ctx.val).imgLen 0 = some a ∧ fetchData s (ctxAt s ctx.val).part a (ctxAt s ctx.val).imgLen = (u, some img) ∧ (y =
      { ctxAt s ctx.val with img := img, gapA := (ctxAt s ctx.val).gapA || lostAsleep u ctx.val, gapB := (ctxAt s ctx.val).gapB || lostAsleep u ctx.val })
      ∧ ctxFault u y execA execB = none :=
  ⟨0, 0, 0, 0x10000000, _, image4, _,
    (({ awake with mem := image7, inf := { awake.inf with ctxs := [(0, { imgAddr := 0x10000000, imgLen := 137 })] } }.wr
    (INF_CTX_STAT_STATE 0) 3).wr INF_MEM_A_FREE 100), by decide +kernel, by decide +kernel, by decide +kernel, Prod.ext
    rfl (by decide +kernel), rfl, by decide +kernel⟩

theorem witness_Jobs_0 :
    ∃ (h : DHdr) (b : List Byte) (u : State) (v : State) (w : State) (out : Nat) (input : List Byte) (brands : List
      Byte) (s : State), Served s INF 3 h b ∧ u = begun s INF 3 h b ∧ bodyDirty b ([16, 17] ++ (List.range 24).map (24 +
      ·)) = false ∧ leAt b 16 1 < 16 ∧ 1 ≤ leAt b 17 1 ∧ leAt b 17 1 ≤ 16 ∧ ownerOf u 11 (leAt b 16 1) = some h.part.val ∧
      ctxState u (leAt b 16 1) = 2 ∧ translate u h.part.val (leAt b 40 8) (2 * rsize (ctxAt u (leAt b 16 1)).img) 1 = some
      out ∧ ((∀ f, withData u INF h 3 (leAt b 24 8) (imgInLen (ctxAt u (leAt b 16 1)).img) f = f v input)) ∧ ((∀ f,
      withData v INF h 3 (leAt b 32 8) (24 * leAt b 17 1) f = f w brands)) ∧ ((List.range (leAt b 17 1)).map (fun i =>
      slice brands (24 * i) 24)).all brandForm = true :=
  ⟨hdr, (body [(17, 1), (27, 16), (33, 16), (35, 16), (42, 2), (43, 16)]), _, _, _, 0x10020000, _, _,
    ({ (queued INF 3 (body [(17, 1), (27, 16), (33, 16), (35, 16), (42, 2), (43, 16)])) with par := { (queued INF 3 (body [(17, 1), (27, 16), (33, 16), (35, 16), (42, 2), (43, 16)])).par with owners := [⟨1, 0, 0, 0, 0⟩, ⟨6, 0, 32, 0, 0⟩, ⟨11, 0, 0, 0, 0⟩], applied := true, entries := [defaultEntry] }, inf := { (queued INF 3 (body [(17, 1), (27, 16), (33, 16), (35, 16), (42, 2), (43, 16)])).inf with ctxs := [(0, { img := body [(8, 4), (6, 1)] })] } }.wr
    (INF_CTX_STAT_STATE 0) 2), by unfold Served; decide +kernel, rfl, by decide +kernel, by decide +kernel,
    by decide +kernel, by decide +kernel, by decide +kernel, by decide +kernel, by decide +kernel, withData_of (a :=
    0x10000000) (by decide +kernel) (Prod.ext rfl rfl), withData_of (a := 0x10001000)
    (by decide +kernel) (Prod.ext rfl rfl), by decide +kernel⟩

theorem witness_Jobs_1 :
    ∃ (h : DHdr) (b : List Byte) (u : State) (s : State), Served s INF 3 h b ∧ u = begun s INF 3 h b ∧ bodyDirty b ([16,
      17] ++ (List.range 24).map (24 + ·)) = false ∧ leAt b 16 1 < 16 ∧ 1 ≤ leAt b 17 1 ∧ leAt b 17 1 ≤ 16 ∧ ownerOf u 11
      (leAt b 16 1) = some h.part.val ∧ ctxState u (leAt b 16 1) = 1 :=
  ⟨hdr, (body [(17, 1), (27, 16), (33, 16), (35, 16), (42, 2), (43, 16)]), _,
    ({ (queued INF 3 (body [(17, 1), (27, 16), (33, 16), (35, 16), (42, 2), (43, 16)])) with par := { (queued INF 3 (body [(17, 1), (27, 16), (33, 16), (35, 16), (42, 2), (43, 16)])).par with owners := [⟨1, 0, 0, 0, 0⟩, ⟨6, 0, 32, 0, 0⟩, ⟨11, 0, 0, 0, 0⟩], applied := true, entries := [defaultEntry] } }.wr
    (INF_CTX_STAT_STATE 0) 1), by unfold Served; decide +kernel, rfl, by decide +kernel, by decide +kernel,
    by decide +kernel, by decide +kernel, by decide +kernel, by decide +kernel⟩

theorem witness_Jobs_2 :
    ∃ (chan : Fin 2) (id : Nat) (j : InfJob) (s : State), infUp s = true ∧ jobAt s id = some j ∧ shareReady (shareOf j
      chan.val) = true ∧ ctxState s j.ctx = 2 ∧ chState s chan.val = 0 ∧ (infCh s chan.val).kat = false ∧ jobTurn s
      chan.val j = true ∧ runsOn s chan.val = none :=
  ⟨0, 0,
    { id := 0, ctx := 0, part := 0, hdr := none, stream := none, input := [], brands := [], nin := 1, gap := false, outAddr := 0x10020000, steps := 0, since := 0, a := .ready, b := .unused, seq := 0 },
    ({ awake with inf := { awake.inf with jobs := [{ id := 0, ctx := 0, part := 0, hdr := none, stream := none, input := [], brands := [], nin := 1, gap := false, outAddr := 0x10020000, steps := 0, since := 0, a := .ready, b := .unused, seq := 0 }] } }.wr
    (INF_CTX_STAT_STATE 0) 2), by decide +kernel, by decide +kernel, by decide +kernel, by decide +kernel,
    by decide +kernel, by decide +kernel, by decide +kernel, by decide +kernel⟩

theorem witness_Jobs_3 :
    ∃ (chan : Fin 2) (id : Nat) (j : InfJob) (r : InfJob) (s : State), infUp s = true ∧ jobAt s id = some j ∧ shareReady
      (shareOf j chan.val) = true ∧ ctxState s j.ctx = 2 ∧ chState s chan.val = 0 ∧ (infCh s chan.val).kat = false ∧
      jobTurn s chan.val j = true ∧ safetyJob s j = true ∧ runsOn s chan.val = some r ∧ safetyJob s r = false :=
  ⟨0, 0,
    { id := 0, ctx := 0, part := 0, hdr := none, stream := none, input := [], brands := [], nin := 1, gap := false, outAddr := 0x10020000, steps := 0, since := 0, a := .ready, b := .unused, seq := 0 },
    { id := 1, ctx := 0, part := 1, hdr := none, stream := none, input := [], brands := [], nin := 1, gap := false, outAddr := 0x10020000, steps := 0, since := 0, a := .running 0, b := .unused, seq := 0 },
    ({ awake with par := { awake.par with applied := true, entries := [{ defaultEntry with home := 1 }] }, inf := { awake.inf with jobs := [{ id := 0, ctx := 0, part := 0, hdr := none, stream := none, input := [], brands := [], nin := 1, gap := false, outAddr := 0x10020000, steps := 0, since := 0, a := .ready, b := .unused, seq := 0 }, { id := 1, ctx := 0, part := 1, hdr := none, stream := none, input := [], brands := [], nin := 1, gap := false, outAddr := 0x10020000, steps := 0, since := 0, a := .running 0, b := .unused, seq := 0 }] } }.wr
    (INF_CTX_STAT_STATE 0) 2), by decide +kernel, by decide +kernel, by decide +kernel, by decide +kernel,
    by decide +kernel, by decide +kernel, by decide +kernel, by decide +kernel, by decide +kernel, by decide +kernel⟩

theorem witness_Jobs_4 :
    ∃ (chan : Fin 2) (j : InfJob) (r : List Byte) (s : State), infUp s = true ∧ runsOn s chan.val = some j ∧ r =
      resultRecord s j chan.val (runSection (sectionOf (ctxAt s j.ctx).img chan.val) j.input) :=
  ⟨0,
    { id := 0, ctx := 0, part := 0, hdr := none, stream := none, input := [], brands := [], nin := 1, gap := false, outAddr := 0x10020000, steps := 0, since := 0, a := .running 0, b := .unused, seq := 0 },
    _,
    ({ awake with inf := { awake.inf with jobs := [{ id := 0, ctx := 0, part := 0, hdr := none, stream := none, input := [], brands := [], nin := 1, gap := false, outAddr := 0x10020000, steps := 0, since := 0, a := .running 0, b := .unused, seq := 0 }] } }.wr
    (INF_CTX_STAT_STATE 0) 2), by decide +kernel, by decide +kernel, rfl⟩

theorem witness_Jobs_5 :
    ∃ (chan : Fin 2) (fault : Fin 3) (j : InfJob) (s : State), infUp s = true ∧ runsOn s chan.val = some j ∧ fault.val ≠
      0 :=
  ⟨0, 1,
    { id := 0, ctx := 0, part := 0, hdr := none, stream := none, input := [], brands := [], nin := 1, gap := false, outAddr := 0x10020000, steps := 0, since := 0, a := .running 0, b := .unused, seq := 0 },
    ({ awake with inf := { awake.inf with jobs := [{ id := 0, ctx := 0, part := 0, hdr := none, stream := none, input := [], brands := [], nin := 1, gap := false, outAddr := 0x10020000, steps := 0, since := 0, a := .running 0, b := .unused, seq := 0 }] } }.wr
    (INF_CTX_STAT_STATE 0) 2), by decide +kernel, by decide +kernel, by decide +kernel⟩

theorem witness_Jobs_6 :
    ∃ (chan : Fin 2) (j : InfJob) (s : State), infUp s = true ∧ runsOn s chan.val = some j :=
  ⟨0,
    { id := 0, ctx := 0, part := 0, hdr := none, stream := none, input := [], brands := [], nin := 1, gap := false, outAddr := 0x10020000, steps := 0, since := 0, a := .running 0, b := .unused, seq := 0 },
    ({ awake with inf := { awake.inf with jobs := [{ id := 0, ctx := 0, part := 0, hdr := none, stream := none, input := [], brands := [], nin := 1, gap := false, outAddr := 0x10020000, steps := 0, since := 0, a := .running 0, b := .unused, seq := 0 }] } }.wr
    (INF_CTX_STAT_STATE 0) 2), by decide +kernel, by decide +kernel⟩

theorem witness_Verdicts_0 :
    ∃ (chan : Fin 2) (id : Nat) (damage : List Byte) (j : InfJob) (k : InfJob) (r : List Byte) (s : State), infUp s =
      true ∧ jobAt s id = some j ∧ shareOf j chan.val = .done r ∧ (k = (if chan.val = 0 then
      { j with rxA := j.rxA <|> some (r.zipWith (· ^^^ ·) (padTo r.length damage)) } else
      { j with rxB := j.rxB <|> some (r.zipWith (· ^^^ ·) (padTo r.length damage)) })) :=
  ⟨0, 0, [],
    { id := 0, ctx := 0, part := 0, hdr := none, stream := none, input := [], brands := [], nin := 1, gap := false, outAddr := 0x10020000, steps := 0, since := 0, a := .done [], b := .unused, seq := 0 },
    _, [],
    { awake with inf := { awake.inf with jobs := [{ id := 0, ctx := 0, part := 0, hdr := none, stream := none, input := [], brands := [], nin := 1, gap := false, outAddr := 0x10020000, steps := 0, since := 0, a := .done [], b := .unused, seq := 0 }] } },
    by decide +kernel, by decide +kernel, by decide +kernel, rfl⟩

theorem witness_Verdicts_1 :
    ∃ (binding : Fin 8) (id : Nat) (j : InfJob) (s : State), infUp s = true ∧ jobAt s id = some j ∧ (undecided s
      j).contains binding.val = true ∧ allReceived j = false ∧ lasted s j.since (10 * s.rd (BRD_BIND1_PAIR_TMO
      binding.val)) = true :=
  ⟨0, 0,
    { id := 0, ctx := 0, part := 0, hdr := none, stream := none, input := [], brands := [], nin := 1, gap := false, outAddr := 0x10020000, steps := 0, since := 0, a := .ready, b := .unused, seq := 0 },
    ({ awake with inf := { awake.inf with jobs := [{ id := 0, ctx := 0, part := 0, hdr := none, stream := none, input := [], brands := [], nin := 1, gap := false, outAddr := 0x10020000, steps := 0, since := 0, a := .ready, b := .unused, seq := 0 }] } }.put
    (BRD_BIND0_EN 0) true), by decide +kernel, by decide +kernel, by decide +kernel, by decide +kernel, by decide +kernel⟩

theorem witness_Verdicts_2 :
    ∃ (binding : Fin 8) (s : State), infUp s = true ∧ bindOn s binding.val = true ∧ noInput s binding.val = true :=
  ⟨0, (({ awake with chs := [(chKey ⟨2, 0⟩, { drv := .bridge ⟨3, 100, 100, 1, 0, 0, false, false, true⟩ })] }.put
    (BRD_BIND0_EN 0) true).wr (BRD_BIND0_KIND 0) 2), by decide +kernel, by decide +kernel, by decide +kernel⟩

theorem witness_Verdicts_3 :
    ∃ (chan : Fin 2) (s : State), infUp s = true ∧ chState s chan.val = 0 ∧ (infCh s chan.val).kat = false ∧ lasted s
      (infCh s chan.val).katSince 250000 = true ∧ runsOn s chan.val = none :=
  ⟨0, awake, by decide +kernel, by decide +kernel, by decide +kernel, by decide +kernel, by decide +kernel⟩

theorem witness_Verdicts_4 :
    ∃ (chan : Fin 2) (s : State), infUp s = true ∧ chState s chan.val = 0 ∧ (infCh s chan.val).kat = false ∧ lasted s
      (infCh s chan.val).katSince 100000 = true ∧ runsOn s chan.val = none ∧ s.inf.jobs.any (fun j => shareReady (shareOf
      j chan.val) && ctxState s j.ctx == 2) = false :=
  ⟨0, awake, by decide +kernel, by decide +kernel, by decide +kernel, by decide +kernel, by decide +kernel,
    by decide +kernel⟩

theorem witness_Verdicts_5 :
    ∃ (chan : Fin 2) (part : Fin 3) (ctx : Fin 16) (g : Option Nat) (u : State) (s : State), infUp s = true ∧ (infCh s
      chan.val).kat = true ∧ g = goldenTurn s chan.val ctx.val ∧ katBad part.val g = false ∧ u = goldenRan s chan.val g :=
  ⟨0, 0, 0, _, _, { awake with inf := { awake.inf with chA := { kat := true } } }, by decide +kernel, by decide +kernel,
    rfl, by decide +kernel, rfl⟩

theorem witness_Verdicts_6 :
    ∃ (chan : Fin 2) (part : Fin 3) (ctx : Fin 16) (g : Option Nat) (v : State) (u : State) (s : State), infUp s = true
      ∧ (infCh s chan.val).kat = true ∧ g = goldenTurn s chan.val ctx.val ∧ katBad part.val g = true ∧ v = goldenRan s
      chan.val g ∧ (u = setInfCh v chan.val { infCh v chan.val with kat := false }) :=
  ⟨0, 1, 0, _, _, _, { awake with inf := { awake.inf with chA := { kat := true } } }, by decide +kernel,
    by decide +kernel, rfl, by decide +kernel, rfl, rfl⟩

theorem witness_Verdicts_7 :
    ∃ (chan : Fin 2) (part : Fin 3) (ctx : Fin 16) (g : Option Nat) (u : State) (s : State), infUp s = true ∧ chState s
      chan.val = 1 ∧ lasted s (infCh s chan.val).katSince 10000 = true ∧ g = goldenTurn s chan.val ctx.val ∧ katBad
      part.val g = false ∧ u = goldenRan s chan.val g ∧ 2 ≤ (infCh u chan.val).passes + 1 :=
  ⟨0, 0, 0, _, _, ({ awake with inf := { awake.inf with chA := { passes := 1 } } }.wr INF_CH_STAT_A_STATE 1),
    by decide +kernel, by decide +kernel, by decide +kernel, rfl, by decide +kernel, rfl, by decide +kernel⟩

theorem witness_Verdicts_8 :
    ∃ (chan : Fin 2) (part : Fin 3) (ctx : Fin 16) (g : Option Nat) (u : State) (s : State), infUp s = true ∧ chState s
      chan.val = 1 ∧ lasted s (infCh s chan.val).katSince 10000 = true ∧ g = goldenTurn s chan.val ctx.val ∧ katBad
      part.val g = true ∧ u = goldenRan s chan.val g ∧ 3 ≤ (infCh u chan.val).fails + 1 :=
  ⟨0, 1, 0, _, _, ({ awake with inf := { awake.inf with chA := { fails := 2 } } }.wr INF_CH_STAT_A_STATE 1),
    by decide +kernel, by decide +kernel, by decide +kernel, rfl, by decide +kernel, rfl, by decide +kernel⟩

theorem witness_SwitchFrames_0 :
    ∃ (port : Fin 6) (frame : List Byte) (fcsOk : Bool) (s : State), port.val < 2 ∧ s.pwr.ldUp = true ∧ bypassed s =
      true :=
  ⟨0, [], true, ({ awake with pwr := { awake.pwr with ldUp := true } }.put CHN_BYPASS_ACTIVE true), by decide +kernel,
    by decide +kernel, by decide +kernel⟩

theorem witness_SwitchFrames_1 :
    ∃ (port : Fin 6) (frame : List Byte) (fcsOk : Bool) (s : State), (¬ (port.val < 2 ∧ bypassed s = true)) ∧
      s.chain.cut = false ∧ switchUp s = true ∧ ldLink s = true ∧ ((fcsOk = false ∨ frame.length + 4 < 64)) :=
  ⟨0, [], false, { awake with chain := { awake.chain with cut := false } }, by decide +kernel, by decide +kernel,
    by decide +kernel, by decide +kernel, by decide +kernel⟩

set_option maxRecDepth 100000 in
theorem witness_SwitchFrames_2 :
    ∃ (port : Fin 6) (frame : List Byte) (u : State) (k : Plan) (s : State), 2 ≤ port.val ∧ switchUp s = true ∧ ldLink s
      = true ∧ 64 ≤ frame.length + 4 ∧ frame.length + 4 ≤ s.rd SW_CFG_MAX_FRAME ∧ route (swCount (swCount s 0 port.val 0
      1) 1 port.val 0 (frame.length + 4)) port.val frame 0 = (u, some k) :=
  ⟨2, (List.replicate 64 0), _, _,
    { awake with sw := { awake.sw with vlans := [(1, { valid := true, member := 255 })] } }, by decide +kernel,
    by decide +kernel, by decide +kernel, by decide +kernel, by decide +kernel, Prod.ext rfl (Option.eq_some_of_isSome
    (by decide +kernel))⟩

theorem witness_SwitchFrames_3 :
    ∃ (port : Fin 8) (gap : Nat) (u : State) (v : State) (c : Nat) (q : QFrame) (rest : List QFrame) (s : State),
      switchUp s = true ∧ 2 ≤ port.val ∧ ((port.val < 6 → ldLink s = true)) ∧ u = (List.range 8).foldl (fun t c =>
      gateDrop port.val c (queueOf t port.val c).length t) ((List.range 6).foldl (accrue port.val gap) s) ∧ nextClass u
      port.val = some c ∧ queueOf u port.val c = q :: rest ∧ v = ((List.range 6).filter (· != c)).foldl (accrue port.val
      (txNs u port.val (wireLen u port.val q.bytes))) (setQueue u port.val c rest) ∧ shaped v port.val c = false :=
  ⟨2, 0, _, _, 0, ⟨List.replicate 64 0, 1, 0, 0, 0, 0, 0, none⟩, [],
    { awake with sw := { awake.sw with queues := [(16, [⟨List.replicate 64 0, 1, 0, 0, 0, 0, 0, none⟩])] } },
    by decide +kernel, by decide +kernel, by decide +kernel, rfl, by decide +kernel, by decide +kernel, rfl,
    by decide +kernel⟩

theorem witness_SwitchFrames_4 :
    ∃ (port : Fin 2) (s : State), switchUp s = true ∧ gated s port.val = false :=
  ⟨0, awake, by decide +kernel, by decide +kernel⟩

theorem witness_SwitchFrames_5 :
    ∃ (s : State), switchUp s = true :=
  ⟨awake, by decide +kernel⟩

theorem witness_SwitchFrames_6 :
    ∃ (seg : Fin 4) (s : State), cdUp s = true ∧ follower s seg.val = true ∧ s.flag (SUB_T1S_STAT_PLCA_STATUS seg.val) =
      true :=
  ⟨0, (((awake.put (SUB_T1S_STAT_PLCA_STATUS 0) true).put (SUB_T1S_CFG_PLCA_EN 0) true).wr (SUB_T1S_CFG_LOCAL_ID 0) 1),
    by decide +kernel, by decide +kernel, by decide +kernel⟩

theorem witness_SwitchFrames_7 :
    ∃ (seg : Fin 4) (s : State), cdUp s = true ∧ follower s seg.val = true ∧ s.flag (SUB_T1S_STAT_PLCA_STATUS seg.val) =
      false :=
  ⟨0, ((awake.put (SUB_T1S_CFG_PLCA_EN 0) true).wr (SUB_T1S_CFG_LOCAL_ID 0) 1), by decide +kernel, by decide +kernel,
    by decide +kernel⟩

theorem witness_SwitchFrames_8 :
    ∃ (seg : Fin 4) (s : State), cdUp s = true ∧ s.pwr.ps = .run :=
  ⟨0, { awake with pwr := { awake.pwr with ps := .run } }, by decide +kernel, by decide +kernel⟩

theorem witness_SwitchDescriptors_0 :
    ∃ (h : DHdr) (b : List Byte) (u : State) (v : State) (frame : List Byte) (r : State × Option Plan) (k : Plan) (w :
      TxWait) (s : State), Served s NET 1 h b ∧ u = begun s NET 1 h b ∧ bodyDirty b ((List.range 14).map (16 + ·)) = false
      ∧ leAt b 26 2 < 4096 ∧ leAt b 28 1 < 8 ∧ h.ring.val < 2 ∧ 60 ≤ leAt b 24 2 ∧ leAt b 24 2 + 4 ≤ u.rd SW_CFG_MAX_FRAME
      ∧ leAt b 26 2 ≠ 0 ∧ leAt b 26 2 ≠ 4095 ∧ leAt b 29 1 = 255 ∧ vidOwner u (leAt b 26 2) = some h.part.val ∧ ((∀ f,
      withData u NET h 1 (leAt b 16 8) (leAt b 24 2) f = f v frame)) ∧ ((h.part.val = 0 ∨ (beAt frame 12 2 ≠ v.rd
      CHN_ZCFG_ETYPE ∧ dstOf frame / 16 ≠ 0x0180C200000))) ∧ r = route (swCount (swCount v 0 6 0 1) 1 6 0 (leAt b 24 2 +
      8)) 6 (addTag frame (leAt b 28 1 * 8192 + leAt b 26 2)) 0 ∧ r.2 = some k ∧ (w =
      { hdr := h, frame := k.frame, vid := k.vid, tci := k.tci, cls := k.cls, left := k.dests, since := v.now }) :=
  ⟨hdr, (body [(19, 16), (24, 60), (26, 1), (29, 255)]), _, _, _, _, _, _,
    { (queued NET 1 (body [(19, 16), (24, 60), (26, 1), (29, 255)])) with par := { (queued NET 1 (body [(19, 16), (24, 60), (26, 1), (29, 255)])).par with owners := [⟨12, 0, 1, 0, 0⟩], applied := true, entries := [defaultEntry] }, sw := { (queued NET 1 (body [(19, 16), (24, 60), (26, 1), (29, 255)])).sw with vlans := [(1, { valid := true, member := 255 })] } },
    by unfold Served; decide +kernel, rfl, by decide +kernel, by decide +kernel, by decide +kernel, by decide +kernel,
    by decide +kernel, by decide +kernel, by decide +kernel, by decide +kernel, by decide +kernel, by decide +kernel,
    withData_of (a := 0x10000000) (by decide +kernel) (Prod.ext rfl rfl), by decide +kernel, rfl, Option.eq_some_of_isSome
    (by decide +kernel), rfl⟩

theorem witness_SwitchDescriptors_1 :
    ∃ (w : TxWait) (rest : List TxWait) (s : State), cdUp s = true ∧ s.sw.tx = w :: rest ∧ lasted s w.since (1000 * s.rd
      SW_TX_TX_TMO) = true :=
  ⟨{ hdr := hdr, frame := [], vid := 0, tci := 0, cls := 0, left := [], since := 0 }, [],
    { awake with sw := { awake.sw with tx := [{ hdr := hdr, frame := [], vid := 0, tci := 0, cls := 0, left := [], since := 0 }] } },
    by decide +kernel, by decide +kernel, by decide +kernel⟩

theorem witness_SwitchDescriptors_2 :
    ∃ (h : DHdr) (b : List Byte) (u : State) (a : Nat) (s : State), Served s NET 2 h b ∧ u = begun s NET 2 h b ∧
      bodyDirty b ((List.range 10).map (16 + ·)) = false ∧ 2 ≤ h.ring.val ∧ 64 ≤ leAt b 24 2 ∧ leAt b 24 2 ≤ 2048 ∧
      translate u h.part.val (leAt b 16 8) (leAt b 24 2) 1 = some a :=
  ⟨{ hdr with ring := 2 }, (body [(19, 16), (24, 64)]), _, 0x10000000, (queuedOn 2 NET 2 (body [(19, 16), (24, 64)])),
    by unfold Served; decide +kernel, rfl, by decide +kernel, by decide +kernel, by decide +kernel, by decide +kernel,
    by decide +kernel⟩

theorem witness_SwitchDescriptors_3 :
    ∃ (h : DHdr) (b : List Byte) (u : State) (a : Nat) (s : State), Served s BUS 3 h b ∧ u = begun s BUS 3 h b ∧
      bodyDirty b ((List.range 10).map (16 + ·)) = false ∧ 2 ≤ h.ring.val ∧ 64 ≤ leAt b 24 2 ∧ leAt b 24 2 ≤ 4096 ∧
      translate u h.part.val (leAt b 16 8) (leAt b 24 2) 1 = some a :=
  ⟨{ hdr with ring := 2 }, (body [(19, 16), (24, 64)]), _, 0x10000000, (queuedOn 2 BUS 3 (body [(19, 16), (24, 64)])),
    by unfold Served; decide +kernel, rfl, by decide +kernel, by decide +kernel, by decide +kernel, by decide +kernel,
    by decide +kernel⟩

theorem witness_SwitchDescriptors_4 :
    ∃ (h : DHdr) (b : List Byte) (u : State) (v : State) (s : State), Served s NET 3 h b ∧ u = begun s NET 3 h b ∧
      bodyDirty b [16, 18, 19] = false ∧ h.part.val = 0 ∧ h.ring.val < 2 ∧ ((leAt b 16 1 < 8 ∨ leAt b 16 1 = 255)) ∧
      ((leAt b 18 2 < 4096 ∨ leAt b 18 2 = 65535)) ∧ v = flushDynamic u (fun e => (leAt b 16 1 == 0xFF || e.port == leAt b
      16 1) && (leAt b 18 2 == 0xFFFF || e.vid == leAt b 18 2)) :=
  ⟨hdr, (body []), _, _, (queued NET 3 (body [])), by unfold Served; decide +kernel, rfl, by decide +kernel,
    by decide +kernel, by decide +kernel, by decide +kernel, by decide +kernel, rfl⟩

theorem witness_SwitchDescriptors_5 :
    ∃ (e : TblEnt) (s : State), cdUp s = true ∧ tabFind s.sw.table (s.rd SW_TBL_IDX_INDEX) = some e :=
  ⟨⟨1, 1, 1, 0, false, false, []⟩,
    { awake with sw := { awake.sw with table := [(0, ⟨1, 1, 1, 0, false, false, []⟩)] } }, by decide +kernel,
    by decide +kernel⟩

theorem witness_SwitchDescriptors_6 :
    ∃ (s : State), cdUp s = true ∧ tabFind s.sw.table (s.rd SW_TBL_IDX_INDEX) = none :=
  ⟨awake, by decide +kernel, by decide +kernel⟩

theorem witness_SwitchDescriptors_7 :
    ∃ (s : State), cdUp s = true ∧ s.flag PAR_SEAL_STATUS_SEALED = false ∧ s.flag SW_TBL_DATA2_STATIC = true ∧ s.flag
      SW_TBL_DATA2_VALID = true ∧ (s.sw.table.filter (fun e => e.2.static)).length < 512 :=
  ⟨((awake.put SW_TBL_DATA2_STATIC true).put SW_TBL_DATA2_VALID true), by decide +kernel, by decide +kernel,
    by decide +kernel, by decide +kernel, by decide +kernel⟩

theorem witness_SwitchDescriptors_8 :
    ∃ (s : State), cdUp s = true ∧ s.flag PAR_SEAL_STATUS_SEALED = true :=
  ⟨(awake.put PAR_SEAL_STATUS_SEALED true), by decide +kernel, by decide +kernel⟩

theorem witness_SwitchDescriptors_9 :
    ∃ (s : State), cdUp s = true ∧ s.flag PAR_SEAL_STATUS_SEALED = false :=
  ⟨awake, by decide +kernel, by decide +kernel⟩

theorem witness_CanFrames_0 :
    ∃ (bus : Fin 4) (ev : CanEv) (m : List Byte) (s : State), canRuns s bus.val = true ∧ (canAt s bus.val).off = false ∧
      ev = .frame m ∧ msgFmt m ≠ 3 ∧ fmtOn s bus.val (msgFmt m) = true ∧ lenOk (msgFmt m) (msgLen m) = true :=
  ⟨0, _, [], ((awake.put CLK_SRC_SRC_FAB true).put (SUB_CAN_CFG_EN 0) true), by decide +kernel, by decide +kernel, rfl,
    by decide +kernel, by decide +kernel, by decide +kernel⟩

theorem witness_CanFrames_1 :
    ∃ (bus : Fin 4) (ev : CanEv) (s : State), canRuns s bus.val = true ∧ (canAt s bus.val).off = false ∧ ev = .txError :=
  ⟨0, _, ((awake.put CLK_SRC_SRC_FAB true).put (SUB_CAN_CFG_EN 0) true), by decide +kernel, by decide +kernel, rfl⟩

theorem witness_CanFrames_2 :
    ∃ (bus : Fin 4) (s : State), canRuns s bus.val = true ∧ (canAt s bus.val).off = true ∧ (canAt s bus.val).recovering
      = true :=
  ⟨0, (({ awake with sub := { awake.sub with can := [(0, { off := true, recovering := true })] } }.put CLK_SRC_SRC_FAB
    true).put (SUB_CAN_CFG_EN 0) true), by decide +kernel, by decide +kernel, by decide +kernel⟩

theorem witness_CanFrames_3 :
    ∃ (h : DHdr) (b : List Byte) (u : State) (m : List Byte) (s : State), Served s BUS 1 h b ∧ u = begun s BUS 1 h b ∧
      bodyDirty b ([16, 17, 18] ++ (List.range 20).map (20 + ·)) = false ∧ leAt b 18 1 < 64 ∧ leAt b 20 4 < 2 ^ 29 ∧
      h.ring.val < 2 ∧ leAt b 16 1 < 4 ∧ lenOk 0 (leAt b 24 2) = true ∧ leAt b 17 1 = 0 ∧ bit (leAt b 18 1) 0 = true ∧ bit
      (leAt b 18 1) 1 = false ∧ bit (leAt b 18 1) 2 = false ∧ bit (leAt b 18 1) 4 = false ∧ bit (leAt b 18 1) 5 = true ∧
      leAt b 24 2 ≤ 8 ∧ leAt b 26 2 = 0 ∧ leAt b 26 1 = 0 ∧ leAt b 27 1 = 0 ∧ leAt b 28 4 = 0 ∧ ownerOf u 8 (leAt b 16 1)
      = some h.part.val ∧ fmtOn u (leAt b 16 1) 0 = true ∧ (canAt u (leAt b 16 1)).off = false ∧ (canAt u (leAt b 16
      1)).sleepFor = none ∧ m = busBytes (leAt b 20 4) (leAt b 24 2) 4 (leAt b 16 1) 0 0 0 (slice b 32 (leAt b 24 2)) :=
  ⟨hdr, (body [(18, 33)]), _, _,
    { (queued BUS 1 (body [(18, 33)])) with par := { (queued BUS 1 (body [(18, 33)])).par with owners := [⟨8, 0, 0, 0, 0⟩] } },
    by unfold Served; decide +kernel, rfl, by decide +kernel, by decide +kernel, by decide +kernel, by decide +kernel,
    by decide +kernel, by decide +kernel, by decide +kernel, by decide +kernel, by decide +kernel, by decide +kernel,
    by decide +kernel, by decide +kernel, by decide +kernel, by decide +kernel, by decide +kernel, by decide +kernel,
    by decide +kernel, by decide +kernel, by decide +kernel, by decide +kernel, by decide +kernel, rfl⟩

theorem witness_CanFrames_4 :
    ∃ (h : DHdr) (b : List Byte) (u : State) (s : State), Served s BUS 1 h b ∧ u = begun s BUS 1 h b ∧ bodyDirty b ([16,
      17, 18] ++ (List.range 20).map (20 + ·)) = false ∧ leAt b 18 1 < 64 ∧ leAt b 20 4 < 2 ^ 29 ∧ h.ring.val < 2 ∧ leAt b
      16 1 < 4 ∧ lenOk 0 (leAt b 24 2) = true ∧ leAt b 17 1 = 0 ∧ bit (leAt b 18 1) 0 = true ∧ bit (leAt b 18 1) 1 = false
      ∧ bit (leAt b 18 1) 2 = false ∧ bit (leAt b 18 1) 4 = false ∧ bit (leAt b 18 1) 5 = true ∧ leAt b 24 2 ≤ 8 ∧ leAt b
      26 2 = 0 ∧ leAt b 26 1 = 0 ∧ leAt b 27 1 = 0 ∧ leAt b 28 4 = 0 ∧ ownerOf u 8 (leAt b 16 1) = some h.part.val ∧ fmtOn
      u (leAt b 16 1) 0 = true ∧ (canAt u (leAt b 16 1)).off = true :=
  ⟨hdr, (body [(18, 33)]), _,
    { (queued BUS 1 (body [(18, 33)])) with par := { (queued BUS 1 (body [(18, 33)])).par with owners := [⟨8, 0, 0, 0, 0⟩, ⟨9, 0, 0, 0, 0⟩, ⟨10, 0, 0, 0, 0⟩], applied := true, entries := [defaultEntry] }, sub := { (queued BUS 1 (body [(18, 33)])).sub with can := [(0, { off := true })] } },
    by unfold Served; decide +kernel, rfl, by decide +kernel, by decide +kernel, by decide +kernel, by decide +kernel,
    by decide +kernel, by decide +kernel, by decide +kernel, by decide +kernel, by decide +kernel, by decide +kernel,
    by decide +kernel, by decide +kernel, by decide +kernel, by decide +kernel, by decide +kernel, by decide +kernel,
    by decide +kernel, by decide +kernel, by decide +kernel, by decide +kernel⟩

theorem witness_CanFrames_5 :
    ∃ (bus : Fin 6) (s : State), canRuns s bus.val = true ∧ (canAt s bus.val).off = false ∧ s.flag (SUB_CAN_CFG_LISTEN
      bus.val) = false :=
  ⟨0, ((awake.put CLK_SRC_SRC_FAB true).put (SUB_CAN_CFG_EN 0) true), by decide +kernel, by decide +kernel,
    by decide +kernel⟩

theorem witness_CanFrames_6 :
    ∃ (bus : Fin 6) (x : LinPend) (s : State), linRuns s bus.val = true ∧ (linAt s bus.val).current = some x ∧ x.publish
      = true :=
  ⟨0, ⟨hdr, 0, true, false, 0, [], 0⟩,
    (({ awake with sub := { awake.sub with lin := [(0, { current := some ⟨hdr, 0, true, false, 0, [], 0⟩ })] } }.put
    CLK_SRC_SRC_FAB true).put (SUB_LIN_CFG_EN 0) true), by decide +kernel, by decide +kernel, by decide +kernel⟩

theorem witness_CanFrames_7 :
    ∃ (bus : Fin 6) (x : CanPend) (rest : List CanPend) (s : State), cdUp s = true ∧ (canAt s bus.val).pend = x :: rest
      ∧ lasted s x.since (1000 * s.rd (SUB_CAN_CFG_TX_TMO bus.val)) = true :=
  ⟨0, ⟨hdr, ⟨[], 0⟩, false, 0⟩, [],
    { awake with sub := { awake.sub with can := [(0, { pend := [⟨hdr, ⟨[], 0⟩, false, 0⟩] })] } }, by decide +kernel,
    by decide +kernel, by decide +kernel⟩

theorem witness_CanFrames_8 :
    ∃ (bus : Fin 6) (x : LinPend) (s : State), cdUp s = true ∧ (linAt s bus.val).current = some x ∧ lasted s x.since
      (1000 * s.rd (SUB_LIN_CFG_TX_TMO bus.val)) = true :=
  ⟨0, ⟨hdr, 0, true, false, 0, [], 0⟩,
    { awake with sub := { awake.sub with lin := [(0, { current := some ⟨hdr, 0, true, false, 0, [], 0⟩ })] } },
    by decide +kernel, by decide +kernel, by decide +kernel⟩

theorem witness_LinFrames_0 :
    ∃ (h : DHdr) (b : List Byte) (u : State) (s : State), Served s BUS 2 h b ∧ u = begun s BUS 2 h b ∧ bodyDirty b ([16,
      17, 18, 19] ++ (List.range 8).map (24 + ·)) = false ∧ leAt b 18 1 < 4 ∧ h.ring.val < 2 ∧ leAt b 16 1 < 6 ∧ leAt b 17
      1 < 64 ∧ 1 ≤ leAt b 19 1 ∧ leAt b 19 1 ≤ 8 ∧ ownerOf u 9 (leAt b 16 1) = some h.part.val ∧ u.rd (SUB_LIN_CFG_MODE
      (leAt b 16 1)) ≠ 1 :=
  ⟨hdr, (body [(19, 1)]), _,
    { (queued BUS 2 (body [(19, 1)])) with par := { (queued BUS 2 (body [(19, 1)])).par with owners := [⟨9, 0, 0, 0, 0⟩] } },
    by unfold Served; decide +kernel, rfl, by decide +kernel, by decide +kernel, by decide +kernel, by decide +kernel,
    by decide +kernel, by decide +kernel, by decide +kernel, by decide +kernel, by decide +kernel⟩

theorem witness_LinFrames_1 :
    ∃ (h : DHdr) (b : List Byte) (u : State) (s : State), Served s BUS 4 h b ∧ u = begun s BUS 4 h b ∧ bodyDirty b ([16,
      17, 18] ++ (List.range 8).map (24 + ·)) = false ∧ h.ring.val < 2 ∧ leAt b 16 1 < 6 ∧ leAt b 17 1 = 0 ∧ ownerOf u 9
      (leAt b 16 1) = some h.part.val ∧ u.rd (SUB_LIN_CFG_MODE (leAt b 16 1)) ≠ 1 :=
  ⟨hdr, (body []), _,
    { (queued BUS 4 (body [])) with par := { (queued BUS 4 (body [])).par with owners := [⟨9, 0, 0, 0, 0⟩] } },
    by unfold Served; decide +kernel, rfl, by decide +kernel, by decide +kernel, by decide +kernel, by decide +kernel,
    by decide +kernel, by decide +kernel⟩

theorem witness_LinFrames_2 :
    ∃ (h : DHdr) (b : List Byte) (u : State) (v : State) (m : List Byte) (s : State), Served s BUS 4 h b ∧ u = begun s
      BUS 4 h b ∧ bodyDirty b ([16, 17, 18] ++ (List.range 8).map (24 + ·)) = false ∧ h.ring.val < 2 ∧ leAt b 16 1 < 6 ∧
      leAt b 17 1 = 1 ∧ 1 ≤ leAt b 18 1 ∧ leAt b 18 1 ≤ 64 ∧ ownerOf u 9 (leAt b 16 1) = some h.part.val ∧ u.rd
      (SUB_LIN_CFG_MODE (leAt b 16 1)) ≠ 1 ∧ ((∀ f, withData u BUS h 4 (leAt b 24 8) (4 * leAt b 18 1) f = f v m)) ∧
      (List.range (leAt b 18 1)).all (entryOk m) = true :=
  ⟨hdr, (body [(17, 1), (18, 1), (27, 16)]), _, _, _,
    ({ (queued BUS 4 (body [(17, 1), (18, 1), (27, 16)])) with par := { (queued BUS 4 (body [(17, 1), (18, 1), (27, 16)])).par with owners := [⟨8, 0, 0, 0, 0⟩, ⟨9, 0, 0, 0, 0⟩, ⟨10, 0, 0, 0, 0⟩], applied := true, entries := [defaultEntry] }, mem := image8 }.wr
    (SUB_LIN_CFG_MODE 0) 0), by unfold Served; decide +kernel, rfl, by decide +kernel, by decide +kernel,
    by decide +kernel, by decide +kernel, by decide +kernel, by decide +kernel, by decide +kernel, by decide +kernel,
    withData_of (a := 0x10000000) (by decide +kernel) (Prod.ext rfl rfl), by decide +kernel⟩

theorem witness_LinFrames_3 :
    ∃ (bus : Fin 6) (s : State), linRuns s bus.val = true ∧ s.rd (SUB_LIN_CFG_MODE bus.val) = 0 ∧ wakeClear s bus.val =
      true :=
  ⟨0, (((awake.put CLK_SRC_SRC_FAB true).put (SUB_LIN_CFG_EN 0) true).wr (SUB_LIN_CFG_MODE 0) 0), by decide +kernel,
    by decide +kernel, by decide +kernel⟩

theorem witness_LinFrames_4 :
    ∃ (h : DHdr) (b : List Byte) (u : State) (s : State), Served s BUS 5 h b ∧ u = begun s BUS 5 h b ∧ bodyDirty b ([16,
      17, 18, 19] ++ (List.range 8).map (24 + ·)) = false ∧ leAt b 18 1 < 4 ∧ h.ring.val < 2 ∧ leAt b 16 1 < 6 ∧ leAt b 17
      1 < 64 ∧ bit (leAt b 18 1) 0 = false ∧ 1 ≤ leAt b 19 1 ∧ leAt b 19 1 ≤ 8 ∧ ownerOf u 9 (leAt b 16 1) = some
      h.part.val :=
  ⟨hdr, (body [(19, 1)]), _,
    { (queued BUS 5 (body [(19, 1)])) with par := { (queued BUS 5 (body [(19, 1)])).par with owners := [⟨9, 0, 0, 0, 0⟩] } },
    by unfold Served; decide +kernel, rfl, by decide +kernel, by decide +kernel, by decide +kernel, by decide +kernel,
    by decide +kernel, by decide +kernel, by decide +kernel, by decide +kernel, by decide +kernel⟩

theorem witness_LinFrames_5 :
    ∃ (bus : Fin 6) (id : Fin 64) (r : List Byte × Bool) (s : State), linRuns s bus.val = true ∧ s.rd (SUB_LIN_CFG_MODE
      bus.val) ≠ 0 ∧ respOf s bus.val id.val = some r :=
  ⟨0, 0, ([], false), (((({ awake with sub := { awake.sub with resp := [(0, ([], false))] } }.wr (SUB_LIN_CFG_MODE 0)
    1).put CLK_SRC_SRC_FAB true).put (SUB_LIN_CFG_EN 0) true).wr (SUB_LIN_CFG_MODE 0) 1), by decide +kernel,
    by decide +kernel, by decide +kernel⟩

theorem witness_LinFrames_6 :
    ∃ (bus : Fin 6) (id : Fin 64) (s : State), linRuns s bus.val = true ∧ s.rd (SUB_LIN_CFG_MODE bus.val) ≠ 0 ∧ respOf s
      bus.val id.val = none :=
  ⟨0, 0, ((((awake.wr (SUB_LIN_CFG_MODE 0) 1).put CLK_SRC_SRC_FAB true).put (SUB_LIN_CFG_EN 0) true).wr
    (SUB_LIN_CFG_MODE 0) 1), by decide +kernel, by decide +kernel, by decide +kernel⟩

theorem witness_LinFrames_7 :
    ∃ (bus : Fin 6) (data : List Byte) (id : Nat) (len : Nat) (classic : Bool) (s : State), linRuns s bus.val = true ∧
      (linAt s bus.val).awaits = some (id, len, classic) ∧ 1 ≤ data.length ∧ data.length ≤ 8 ∧ ((len = 0 ∨ data.length =
      len)) :=
  ⟨0, [0], 0, 1, false, (({ awake with sub := { awake.sub with lin := [(0, { awaits := some (0, 1, false) })] } }.put
    CLK_SRC_SRC_FAB true).put (SUB_LIN_CFG_EN 0) true), by decide +kernel, by decide +kernel, by decide +kernel,
    by decide +kernel, by decide +kernel⟩

theorem witness_LinFrames_8 :
    ∃ (bus : Fin 6) (data : List Byte) (id : Nat) (len : Nat) (classic : Bool) (x : LinPend) (s : State), linRuns s
      bus.val = true ∧ (linAt s bus.val).awaits = some (id, len, classic) ∧ (linAt s bus.val).current = some x :=
  ⟨0, [0], 0, 1, false, ⟨hdr, 0, true, false, 0, [], 0⟩,
    (({ awake with sub := { awake.sub with lin := [(0, { awaits := some (0, 1, false), current := some ⟨hdr, 0, true, false, 0, [], 0⟩ })] } }.put
    CLK_SRC_SRC_FAB true).put (SUB_LIN_CFG_EN 0) true), by decide +kernel, by decide +kernel, by decide +kernel⟩

theorem witness_LinFrames_9 :
    ∃ (bus : Fin 6) (s : State), linRuns s bus.val = true ∧ s.rd (SUB_LIN_CFG_MODE bus.val) ≠ 0 :=
  ⟨0, ((((awake.wr (SUB_LIN_CFG_MODE 0) 1).put CLK_SRC_SRC_FAB true).put (SUB_LIN_CFG_EN 0) true).wr (SUB_LIN_CFG_MODE
    0) 1), by decide +kernel, by decide +kernel⟩

theorem witness_BusControlAndTunnels_0 :
    ∃ (h : DHdr) (b : List Byte) (u : State) (s : State), Served s BUS 6 h b ∧ u = begun s BUS 6 h b ∧ bodyDirty b [16,
      17, 18] = false ∧ h.ring.val < 2 ∧ leAt b 16 1 = 8 ∧ leAt b 17 1 < 4 ∧ ownerOf u 8 (leAt b 17 1) = some h.part.val :=
  ⟨hdr, (body [(16, 8)]), _,
    { (queued BUS 6 (body [(16, 8)])) with par := { (queued BUS 6 (body [(16, 8)])).par with owners := [⟨8, 0, 0, 0, 0⟩] } },
    by unfold Served; decide +kernel, rfl, by decide +kernel, by decide +kernel, by decide +kernel, by decide +kernel,
    by decide +kernel⟩

theorem witness_BusControlAndTunnels_1 :
    ∃ (h : DHdr) (b : List Byte) (u : State) (s : State), Served s BUS 6 h b ∧ u = begun s BUS 6 h b ∧ bodyDirty b [16,
      17, 18] = false ∧ h.ring.val < 2 ∧ leAt b 16 1 = 9 ∧ leAt b 17 1 < 6 ∧ ownerOf u 9 (leAt b 17 1) = some h.part.val :=
  ⟨hdr, (body [(16, 9)]), _,
    { (queued BUS 6 (body [(16, 9)])) with par := { (queued BUS 6 (body [(16, 9)])).par with owners := [⟨9, 0, 0, 0, 0⟩] } },
    by unfold Served; decide +kernel, rfl, by decide +kernel, by decide +kernel, by decide +kernel, by decide +kernel,
    by decide +kernel⟩

theorem witness_BusControlAndTunnels_2 :
    ∃ (h : DHdr) (b : List Byte) (u : State) (s : State), Served s BUS 6 h b ∧ u = begun s BUS 6 h b ∧ bodyDirty b [16,
      17, 18] = false ∧ h.ring.val < 2 ∧ leAt b 16 1 = 8 ∧ leAt b 17 1 < 4 ∧ ownerOf u 8 (leAt b 17 1) = some h.part.val :=
  ⟨hdr, (body [(16, 8)]), _,
    { (queued BUS 6 (body [(16, 8)])) with par := { (queued BUS 6 (body [(16, 8)])).par with owners := [⟨8, 0, 0, 0, 0⟩] } },
    by unfold Served; decide +kernel, rfl, by decide +kernel, by decide +kernel, by decide +kernel, by decide +kernel,
    by decide +kernel⟩

theorem witness_BusControlAndTunnels_3 :
    ∃ (h : DHdr) (b : List Byte) (u : State) (s : State), Served s BUS 6 h b ∧ u = begun s BUS 6 h b ∧ bodyDirty b [16,
      17, 18] = false ∧ h.ring.val < 2 ∧ leAt b 16 1 = 9 ∧ leAt b 17 1 < 6 ∧ ownerOf u 9 (leAt b 17 1) = some h.part.val :=
  ⟨hdr, (body [(16, 9)]), _,
    { (queued BUS 6 (body [(16, 9)])) with par := { (queued BUS 6 (body [(16, 9)])).par with owners := [⟨9, 0, 0, 0, 0⟩] } },
    by unfold Served; decide +kernel, rfl, by decide +kernel, by decide +kernel, by decide +kernel, by decide +kernel,
    by decide +kernel⟩

theorem witness_BusControlAndTunnels_4 :
    ∃ (h : DHdr) (b : List Byte) (u : State) (s : State), Served (freeNext s) BUS 6 h b ∧ u = begun (freeNext s) BUS 6 h
      b ∧ bodyDirty b [16, 17, 18] = false ∧ h.ring.val < 2 ∧ leAt b 16 1 = 8 ∧ leAt b 17 1 < 4 ∧ ownerOf u 8 (leAt b 17
      1) = some h.part.val ∧ winner s (leAt b 17 1) = none :=
  ⟨hdr, (body [(16, 8)]), _,
    { (queued BUS 6 (body [(16, 8)])) with par := { (queued BUS 6 (body [(16, 8)])).par with owners := [⟨8, 0, 0, 0, 0⟩] } },
    by unfold Served; decide +kernel, rfl, by decide +kernel, by decide +kernel, by decide +kernel, by decide +kernel,
    by decide +kernel, by decide +kernel⟩

theorem witness_BusControlAndTunnels_5 :
    ∃ (h : DHdr) (b : List Byte) (u : State) (s : State), Served (freeNext s) BUS 6 h b ∧ u = begun (freeNext s) BUS 6 h
      b ∧ bodyDirty b [16, 17, 18] = false ∧ h.ring.val < 2 ∧ leAt b 16 1 = 9 ∧ leAt b 17 1 < 6 ∧ ownerOf u 9 (leAt b 17
      1) = some h.part.val :=
  ⟨hdr, (body [(16, 9)]), _,
    { (queued BUS 6 (body [(16, 9)])) with par := { (queued BUS 6 (body [(16, 9)])).par with owners := [⟨9, 0, 0, 0, 0⟩] } },
    by unfold Served; decide +kernel, rfl, by decide +kernel, by decide +kernel, by decide +kernel, by decide +kernel,
    by decide +kernel⟩

theorem witness_BusControlAndTunnels_6 :
    ∃ (h : DHdr) (b : List Byte) (u : State) (s : State), Served s BUS 6 h b ∧ u = begun s BUS 6 h b ∧ bodyDirty b [16,
      17, 18] = false ∧ h.ring.val < 2 ∧ leAt b 16 1 = 9 ∧ leAt b 17 1 < 6 ∧ ownerOf u 9 (leAt b 17 1) = some h.part.val :=
  ⟨hdr, (body [(16, 9)]), _,
    { (queued BUS 6 (body [(16, 9)])) with par := { (queued BUS 6 (body [(16, 9)])).par with owners := [⟨9, 0, 0, 0, 0⟩] } },
    by unfold Served; decide +kernel, rfl, by decide +kernel, by decide +kernel, by decide +kernel, by decide +kernel,
    by decide +kernel⟩

theorem witness_BusControlAndTunnels_7 :
    ∃ (h : DHdr) (b : List Byte) (u : State) (s : State), Served s BUS 6 h b ∧ u = begun s BUS 6 h b ∧ bodyDirty b [16,
      17, 18] = false ∧ h.ring.val < 2 ∧ leAt b 16 1 = 8 ∧ leAt b 17 1 < 4 ∧ ownerOf u 8 (leAt b 17 1) = some h.part.val :=
  ⟨hdr, (body [(16, 8)]), _,
    { (queued BUS 6 (body [(16, 8)])) with par := { (queued BUS 6 (body [(16, 8)])).par with owners := [⟨8, 0, 0, 0, 0⟩] } },
    by unfold Served; decide +kernel, rfl, by decide +kernel, by decide +kernel, by decide +kernel, by decide +kernel,
    by decide +kernel⟩

theorem witness_BusControlAndTunnels_8 :
    ∃ (h : DHdr) (b : List Byte) (u : State) (s : State), Served s BUS 6 h b ∧ u = begun s BUS 6 h b ∧ bodyDirty b [16,
      17, 18] = false ∧ h.ring.val < 2 ∧ leAt b 16 1 = 8 ∧ leAt b 17 1 < 4 ∧ ownerOf u 8 (leAt b 17 1) = some h.part.val ∧
      (canAt u (leAt b 17 1)).off = true :=
  ⟨hdr, (body [(16, 8)]), _,
    { (queued BUS 6 (body [(16, 8)])) with par := { (queued BUS 6 (body [(16, 8)])).par with owners := [⟨8, 0, 0, 0, 0⟩, ⟨9, 0, 0, 0, 0⟩, ⟨10, 0, 0, 0, 0⟩], applied := true, entries := [defaultEntry] }, sub := { (queued BUS 6 (body [(16, 8)])).sub with can := [(0, { off := true })] } },
    by unfold Served; decide +kernel, rfl, by decide +kernel, by decide +kernel, by decide +kernel, by decide +kernel,
    by decide +kernel, by decide +kernel⟩

theorem witness_BusControlAndTunnels_9 :
    ∃ (frame : List Byte) (s : State), cdUp s = true ∧ beAt (untag frame) 12 2 ≠ 0x22F0 :=
  ⟨[], awake, by decide +kernel, by decide +kernel⟩

theorem witness_BusControlAndTunnels_10 :
    ∃ (frame : List Byte) (f : List Byte) (n : Nat) (k : Nat) (s : State), cdUp s = true ∧ f = untag frame ∧ beAt f 12 2
      = 0x22F0 ∧ leAt f 14 1 = NTSCF ∧ n = beAt f 15 2 % 2048 ∧ 26 + n ≤ f.length ∧ (List.range 8).find? (fun k => s.flag
      (SUB_TUN_CFG_EN k) && s.flag (SUB_TUN_CFG_IN_EN k) && s.rd (SUB_TUN_RX_RX_STREAM k) == beAt f 18 8) = some k ∧
      (tunAt s k).rxSeq = some (leAt f 17 1) :=
  ⟨image9, _, 0, 0, ((({ awake with sub := { awake.sub with tuns := [(0, { rxSeq := some 1 })] } }.put (SUB_TUN_CFG_EN
    0) true).put (SUB_TUN_CFG_IN_EN 0) true).wr (SUB_TUN_RX_RX_STREAM 0) 5), by decide +kernel, rfl, by decide +kernel,
    by decide +kernel, by decide +kernel, by decide +kernel, by decide +kernel, by decide +kernel⟩

theorem witness_BusControlAndTunnels_11 :
    ∃ (tun : Fin 8) (s : State), cdUp s = true :=
  ⟨0, awake, by decide +kernel⟩

theorem witness_StoreNamespaces_0 :
    ∃ (s : State), cdUp s = true ∧ s.flag PAR_SEAL_STATUS_SEALED = false ∧ s.rd STO_NS_SEL_NS < 14 ∧ nsAt s (s.rd
      STO_NS_SEL_NS) = none ∧ s.rd STO_NS_CFG_EXTENTS ≠ 0 ∧ s.rd STO_NS_CFG_EXTENTS ≤ freeExtents s :=
  ⟨(awake.wr STO_NS_CFG_EXTENTS 1), by decide +kernel, by decide +kernel, by decide +kernel, by decide +kernel,
    by decide +kernel, by decide +kernel⟩

theorem witness_StoreNamespaces_1 :
    ∃ (s : State), cdUp s = true ∧ s.flag PAR_SEAL_STATUS_SEALED = true :=
  ⟨(awake.put PAR_SEAL_STATUS_SEALED true), by decide +kernel, by decide +kernel⟩

theorem witness_StoreNamespaces_2 :
    ∃ (v : State) (s : State), cdUp s = true ∧ s.flag PAR_SEAL_STATUS_SEALED = false ∧ s.rd STO_NS_SEL_NS < 14 ∧ nsAt s
      (s.rd STO_NS_SEL_NS) ≠ none ∧ nsBusy s (s.rd STO_NS_SEL_NS) = false ∧ v = setHealth s (s.rd STO_NS_SEL_NS) (0, 0,
      false) 4 :=
  ⟨_, { awake with sto := { awake.sto with ns := [(0, ⟨1, true, false, false, true⟩)] } }, by decide +kernel,
    by decide +kernel, by decide +kernel, by decide +kernel, by decide +kernel, rfl⟩

theorem witness_StoreNamespaces_3 :
    ∃ (t0 : Int) (weak : List (Nat × Nat × Nat)) (s : State), cdUp s = true ∧ s.sto.mounted = [] :=
  ⟨0, [], { awake with sto := { awake.sto with mounted := [] } }, by decide +kernel, by decide +kernel⟩

theorem witness_StoreNamespaces_4 :
    ∃ (ns : Fin 16) (x : NsEnt) (s : State), cdUp s = true ∧ nsAt s ns.val = some x ∧ x.journal = false ∧ mounted s
      ns.val = true ∧ lasted s (tabGet 0 s.sto.savedAt ns.val) (1000000 * s.rd STO_MEDIA_CFG_CKPT_INT) = true :=
  ⟨0, ⟨1, true, false, false, true⟩,
    { awake with sto := { awake.sto with ns := [(0, ⟨1, true, false, false, true⟩)], mounted := [0] } },
    by decide +kernel, by decide +kernel, by decide +kernel, by decide +kernel, by decide +kernel⟩

theorem witness_StoreNamespaces_5 :
    ∃ (ns : Fin 16) (x : NsEnt) (s : State), cdUp s = true ∧ nsAt s ns.val = some x ∧ x.journal = true ∧ mounted s
      ns.val = true ∧ lasted s (tabGet 0 s.sto.savedAt ns.val) (1000 * s.rd STO_MEDIA_CFG_JRNL_INT) = true :=
  ⟨0, ⟨1, true, true, false, true⟩,
    { awake with sto := { awake.sto with ns := [(0, ⟨1, true, true, false, true⟩)], mounted := [0] } }, by decide +kernel,
    by decide +kernel, by decide +kernel, by decide +kernel, by decide +kernel⟩

theorem witness_StoreNamespaces_6 :
    ∃ (t0 : Int) (s : State), mediaRuns s = true :=
  ⟨0, { awake with sto := { awake.sto with mounted := [0] } }, by decide +kernel⟩

theorem witness_StoreNamespaces_7 :
    ∃ (ns : Fin 16) (src : Nat) (dst : Nat) (e : EraseBlk) (s : State), mediaRuns s = true ∧ tabFind s.sto.ebs (ebKey
      ns.val src) = some e ∧ e.queued = 1 ∧ tabFind s.sto.ebs (ebKey ns.val dst) = none :=
  ⟨0, 0, 1, { ns := 0, lbas := [], queued := 1 },
    { awake with sto := { awake.sto with mounted := [0], ebs := [(0, { ns := 0, lbas := [], queued := 1 })] } },
    by decide +kernel, by decide +kernel, by decide +kernel, by decide +kernel⟩

theorem witness_StoreNamespaces_8 :
    ∃ (ns : Fin 16) (src : Nat) (dst : Nat) (freePm : Nat) (spares : Fin 101) (wear : Nat) (v : State) (s : State),
      mediaRuns s = true ∧ src ≠ dst ∧ v = ((moveEb s ns.val src dst).put STO_HEALTH_GC_ACTIVE (decide (freePm < 80))).wr
      STO_HEALTH_SPARES spares.val :=
  ⟨0, 0, 1, 0, 0, 0, _, { awake with sto := { awake.sto with mounted := [0] } }, by decide +kernel, by decide +kernel,
    rfl⟩

theorem witness_StoreCommands_0 :
    ∃ (h : DHdr) (b : List Byte) (u : State) (a : Nat) (s : State), Served s STO 1 h b ∧ u = begun s STO 1 h b ∧
      bodyDirty b ([16, 17, 20, 21, 22, 23] ++ (List.range 16).map (24 + ·)) = false ∧ ownerOf u 10 (leAt b 16 1) = some
      h.part.val ∧ nsAt u (leAt b 16 1) ≠ none ∧ 1 ≤ leAt b 20 4 ∧ leAt b 20 4 ≤ 256 ∧ leAt b 17 1 = 0 ∧ leAt b 32 8 % 64
      = 0 ∧ leAt b 24 8 + leAt b 20 4 ≤ nsSize u (leAt b 16 1) ∧ homeOf u h.part.val ≠ 2 ∧ translate u h.part.val (leAt b
      32 8) (4096 * leAt b 20 4) 1 = some a ∧ u.sto.lost = false :=
  ⟨hdr, (body [(20, 1), (35, 16)]), _, 0x10000000,
    { (queued STO 1 (body [(20, 1), (35, 16)])) with par := { (queued STO 1 (body [(20, 1), (35, 16)])).par with owners := [⟨8, 0, 0, 0, 0⟩, ⟨9, 0, 0, 0, 0⟩, ⟨10, 0, 0, 0, 0⟩], applied := true, entries := [defaultEntry] }, sto := { (queued STO 1 (body [(20, 1), (35, 16)])).sto with ns := [(0, ⟨1, true, false, false, true⟩)] } },
    by unfold Served; decide +kernel, rfl, by decide +kernel, by decide +kernel, by decide +kernel, by decide +kernel,
    by decide +kernel, by decide +kernel, by decide +kernel, by decide +kernel, by decide +kernel, by decide +kernel,
    by decide +kernel⟩

theorem witness_StoreCommands_1 :
    ∃ (h : DHdr) (b : List Byte) (u : State) (a : Nat) (s : State), Served s STO 2 h b ∧ u = begun s STO 2 h b ∧
      bodyDirty b ([16, 17, 20, 21, 22, 23] ++ (List.range 16).map (24 + ·)) = false ∧ ownerOf u 10 (leAt b 16 1) = some
      h.part.val ∧ nsAt u (leAt b 16 1) ≠ none ∧ 1 ≤ leAt b 20 4 ∧ leAt b 20 4 ≤ 256 ∧ leAt b 17 1 < 2 ∧ leAt b 32 8 % 64
      = 0 ∧ leAt b 24 8 + leAt b 20 4 ≤ nsSize u (leAt b 16 1) ∧ homeOf u h.part.val ≠ 2 ∧ translate u h.part.val (leAt b
      32 8) (4096 * leAt b 20 4) 0 = some a ∧ u.sto.lost = false ∧ readOnly u (leAt b 16 1) = false ∧ (((healthOf u (leAt
      b 16 1)).2.2 = true → mapsNew u (leAt b 16 1) (leAt b 24 8) (leAt b 20 4) = false)) :=
  ⟨hdr, (body [(20, 1), (35, 16)]), _, 0x10000000,
    { (queued STO 2 (body [(20, 1), (35, 16)])) with par := { (queued STO 2 (body [(20, 1), (35, 16)])).par with owners := [⟨8, 0, 0, 0, 0⟩, ⟨9, 0, 0, 0, 0⟩, ⟨10, 0, 0, 0, 0⟩], applied := true, entries := [defaultEntry] }, sto := { (queued STO 2 (body [(20, 1), (35, 16)])).sto with ns := [(0, ⟨1, true, false, false, true⟩)] } },
    by unfold Served; decide +kernel, rfl, by decide +kernel, by decide +kernel, by decide +kernel, by decide +kernel,
    by decide +kernel, by decide +kernel, by decide +kernel, by decide +kernel, by decide +kernel, by decide +kernel,
    by decide +kernel, by decide +kernel, by decide +kernel⟩

theorem witness_StoreCommands_2 :
    ∃ (h : DHdr) (b : List Byte) (u : State) (a : Nat) (s : State), Served s STO 3 h b ∧ u = begun s STO 3 h b ∧
      bodyDirty b ([16, 17, 20, 21, 22, 23] ++ (List.range 16).map (24 + ·)) = false ∧ ownerOf u 10 (leAt b 16 1) = some
      h.part.val ∧ nsAt u (leAt b 16 1) ≠ none ∧ 1 ≤ leAt b 20 4 ∧ leAt b 20 4 ≤ 64 ∧ leAt b 17 1 = 0 ∧ leAt b 32 8 % 64 =
      0 ∧ leAt b 24 8 + leAt b 20 4 ≤ nsSize u (leAt b 16 1) ∧ homeOf u h.part.val ≠ 2 ∧ translate u h.part.val (leAt b 32
      8) (4096 * leAt b 20 4) 0 = some a ∧ u.sto.lost = false ∧ readOnly u (leAt b 16 1) = false ∧ (((healthOf u (leAt b
      16 1)).2.2 = true → mapsNew u (leAt b 16 1) (leAt b 24 8) (leAt b 20 4) = false)) :=
  ⟨hdr, (body [(20, 1), (35, 16)]), _, 0x10000000,
    { (queued STO 3 (body [(20, 1), (35, 16)])) with par := { (queued STO 3 (body [(20, 1), (35, 16)])).par with owners := [⟨8, 0, 0, 0, 0⟩, ⟨9, 0, 0, 0, 0⟩, ⟨10, 0, 0, 0, 0⟩], applied := true, entries := [defaultEntry] }, sto := { (queued STO 3 (body [(20, 1), (35, 16)])).sto with ns := [(0, ⟨1, true, false, false, true⟩)] } },
    by unfold Served; decide +kernel, rfl, by decide +kernel, by decide +kernel, by decide +kernel, by decide +kernel,
    by decide +kernel, by decide +kernel, by decide +kernel, by decide +kernel, by decide +kernel, by decide +kernel,
    by decide +kernel, by decide +kernel, by decide +kernel⟩

theorem witness_StoreCommands_3 :
    ∃ (h : DHdr) (b : List Byte) (u : State) (s : State), Served s STO 4 h b ∧ u = begun s STO 4 h b ∧ bodyDirty b ([16,
      17, 20, 21, 22, 23] ++ (List.range 16).map (24 + ·)) = false ∧ ownerOf u 10 (leAt b 16 1) = some h.part.val ∧ nsAt u
      (leAt b 16 1) ≠ none ∧ 1 ≤ leAt b 20 4 ∧ leAt b 20 4 ≤ 16777216 ∧ leAt b 17 1 = 0 ∧ leAt b 32 8 = 0 ∧ leAt b 24 8 +
      leAt b 20 4 ≤ nsSize u (leAt b 16 1) ∧ u.sto.lost = false ∧ readOnly u (leAt b 16 1) = false :=
  ⟨hdr, (body [(20, 1)]), _,
    { (queued STO 4 (body [(20, 1)])) with par := { (queued STO 4 (body [(20, 1)])).par with owners := [⟨8, 0, 0, 0, 0⟩, ⟨9, 0, 0, 0, 0⟩, ⟨10, 0, 0, 0, 0⟩], applied := true, entries := [defaultEntry] }, sto := { (queued STO 4 (body [(20, 1)])).sto with ns := [(0, ⟨1, true, false, false, true⟩)], mounted := [0] } },
    by unfold Served; decide +kernel, rfl, by decide +kernel, by decide +kernel, by decide +kernel, by decide +kernel,
    by decide +kernel, by decide +kernel, by decide +kernel, by decide +kernel, by decide +kernel, by decide +kernel⟩

theorem witness_StoreCommands_4 :
    ∃ (h : DHdr) (b : List Byte) (u : State) (s : State), Served s STO 5 h b ∧ u = begun s STO 5 h b ∧ bodyDirty b [16]
      = false ∧ (leAt b 16 1) ≠ 255 ∧ ownerOf u 10 (leAt b 16 1) = some h.part.val ∧ nsAt u (leAt b 16 1) ≠ none ∧
      u.sto.lost = false :=
  ⟨hdr, (body []), _,
    { (queued STO 5 (body [])) with par := { (queued STO 5 (body [])).par with owners := [⟨8, 0, 0, 0, 0⟩, ⟨9, 0, 0, 0, 0⟩, ⟨10, 0, 0, 0, 0⟩], applied := true, entries := [defaultEntry] }, sto := { (queued STO 5 (body [])).sto with ns := [(0, ⟨1, true, false, false, true⟩)], mounted := [0] } },
    by unfold Served; decide +kernel, rfl, by decide +kernel, by decide +kernel, by decide +kernel, by decide +kernel,
    by decide +kernel⟩

theorem witness_StoreCommands_5 :
    ∃ (h : DHdr) (b : List Byte) (u : State) (s : State), Served s STO 6 h b ∧ u = begun s STO 6 h b ∧ bodyDirty b [16]
      = false ∧ ownerOf u 10 (leAt b 16 1) = some h.part.val ∧ nsAt u (leAt b 16 1) ≠ none ∧ u.sto.lost = false ∧ mounted
      u (leAt b 16 1) = true :=
  ⟨hdr, (body []), _,
    { (queued STO 6 (body [])) with par := { (queued STO 6 (body [])).par with owners := [⟨8, 0, 0, 0, 0⟩, ⟨9, 0, 0, 0, 0⟩, ⟨10, 0, 0, 0, 0⟩], applied := true, entries := [defaultEntry] }, sto := { (queued STO 6 (body [])).sto with ns := [(0, ⟨1, true, false, false, true⟩)], mounted := [0] } },
    by unfold Served; decide +kernel, rfl, by decide +kernel, by decide +kernel, by decide +kernel, by decide +kernel,
    by decide +kernel⟩

theorem witness_StoreCommands_6 :
    ∃ (i : Nat) (eb : Nat) (weak : List (Nat × Nat)) (j : StoJob) (v : State) (s : State), cdUp s = true ∧
      s.sto.jobs[i]? = some j ∧ mounted s j.ns = true ∧ s.sto.lost = false ∧ (s.sto.jobs.take i).any (fun x => writes x &&
      meets x j) = false ∧ ((j.op = 2 ∨ j.op = 3 ∨ j.op = 4)) ∧ (v =
      { s with sto := { s.sto with jobs := s.sto.jobs.eraseIdx i } }) :=
  ⟨0, 0, [], ⟨hdr, 2, 0, 0, 1, [], false, 0⟩, _,
    { awake with sto := { awake.sto with lost := false, jobs := [⟨hdr, 2, 0, 0, 1, [], false, 0⟩], mounted := [0] } },
    by decide +kernel, by decide +kernel, by decide +kernel, by decide +kernel, by decide +kernel, by decide +kernel, rfl⟩

theorem witness_StoreCommands_7 :
    ∃ (i : Nat) (fail : Option Nat) (eb : Nat) (weak : List (Nat × Nat)) (j : StoJob) (k : Nat) (s : State), cdUp s =
      true ∧ s.sto.jobs[i]? = some j ∧ mounted s j.ns = true ∧ s.sto.lost = false ∧ (s.sto.jobs.take i).any (fun x =>
      writes x && meets x j) = false ∧ j.op ≠ 6 ∧ fail = some k ∧ k < j.count :=
  ⟨0, some 0, 0, [], ⟨hdr, 1, 0, 0, 1, [], false, 0⟩, 0,
    { awake with sto := { awake.sto with lost := false, jobs := [⟨hdr, 1, 0, 0, 1, [], false, 0⟩], mounted := [0] } },
    by decide +kernel, by decide +kernel, by decide +kernel, by decide +kernel, by decide +kernel, by decide +kernel,
    by decide +kernel, by decide +kernel⟩

theorem witness_StoreCommands_8 :
    ∃ (n : Nat) (eb : Nat) (s : State), cdUp s = true ∧ s.sto.lost = false ∧ drainDue s = true :=
  ⟨0, 0, { awake with sto := { awake.sto with lost := false, flushes := [(hdr, [0], 0)] } }, by decide +kernel,
    by decide +kernel, by decide +kernel⟩

theorem witness_StoreCommands_9 :
    ∃ (n : Nat) (eb : Nat) (s : State), cdUp s = true ∧ s.sto.lost = false ∧ drainDue s = true :=
  ⟨0, 0, { awake with sto := { awake.sto with lost := false, flushes := [(hdr, [0], 0)] } }, by decide +kernel,
    by decide +kernel, by decide +kernel⟩

theorem witness_PowerLossSequence_0 :
    ∃ (mv : Nat) (heldUs : Nat) (hold : Nat) (s : State), s.sto.failing = false ∧ s.sto.inputLow = false ∧ mv < 4800 ∧
      20 ≤ heldUs :=
  ⟨0, 20, 0, { awake with sto := { awake.sto with failing := false, inputLow := false } }, by decide +kernel,
    by decide +kernel, by decide +kernel, by decide +kernel⟩

theorem witness_PowerLossSequence_1 :
    ∃ (s : State), s.sto.failing = true ∧ s.sto.step = 2 :=
  ⟨{ awake with sto := { awake.sto with failing := true, step := 2 } }, by decide +kernel, by decide +kernel⟩

theorem witness_PowerLossSequence_2 :
    ∃ (s : State), s.sto.failing = true ∧ s.sto.step = 3 ∧ s.sto.lost = false :=
  ⟨{ awake with sto := { awake.sto with failing := true, step := 3, lost := false } }, by decide +kernel,
    by decide +kernel, by decide +kernel⟩

theorem witness_PowerLossSequence_3 :
    ∃ (s : State), s.sto.failing = true ∧ s.sto.step = 4 ∧ s.sto.lost = false :=
  ⟨{ awake with sto := { awake.sto with failing := true, step := 4, lost := false } }, by decide +kernel,
    by decide +kernel, by decide +kernel⟩

theorem witness_PowerLossSequence_4 :
    ∃ (s : State), s.sto.failing = true ∧ s.sto.step = 5 :=
  ⟨{ awake with sto := { awake.sto with failing := true, step := 5 } }, by decide +kernel, by decide +kernel⟩

theorem witness_PowerLossSequence_5 :
    ∃ (mv : Nat) (drained : Nat) (s : State), s.sto.failing = true ∧ atStop s mv = true ∧ s.sto.step = 4 :=
  ⟨0, 0, { awake with sto := { awake.sto with failing := true, step := 4 } }, by decide +kernel, by decide +kernel,
    by decide +kernel⟩

theorem witness_PowerLossSequence_6 :
    ∃ (mv : Nat) (heldUs : Nat) (s : State), s.sto.inputLow = true ∧ s.sto.failing = true ∧ 6000 < mv ∧ 10000 ≤ heldUs :=
  ⟨6001, 10000, { awake with sto := { awake.sto with inputLow := true, failing := true } }, by decide +kernel,
    by decide +kernel, by decide +kernel, by decide +kernel⟩

theorem witness_PowerLossSequence_7 :
    ∃ (mv : Nat) (heldUs : Nat) (s : State), s.sto.inputLow = true ∧ s.sto.failing = false ∧ 6000 < mv ∧ 10000 ≤ heldUs
      ∧ s.pwr.seq = none ∧ (s.pwr.ps == .sparOnly) = false ∧ s.flag EVT_CDLOSS_HALTED = false :=
  ⟨6001, 10000,
    { awake with sto := { awake.sto with inputLow := true, failing := false }, pwr := { awake.pwr with seq := none } },
    by decide +kernel, by decide +kernel, by decide +kernel, by decide +kernel, by decide +kernel, by decide +kernel,
    by decide +kernel⟩

theorem witness_PowerLossSequence_8 :
    ∃ (vh : Nat) (cap : Nat) (esr : Nat) (g : Nat) (s : State), cdUp s = true ∧ s.rd STO_HOLD_MEAS_MRESULT = 0 ∧
      s.sto.holdLate = false ∧ 47 ≤ cap ∧ cap ≤ 10000 ∧ esr ≤ 4000 ∧ g = grantOf vh cap esr (s.rd STO_HOLD_CFG_WB_CAP) ∧
      16 ≤ g :=
  ⟨24000, 320, 500, _, { awake with sto := { awake.sto with holdLate := false } }, by decide +kernel, by decide +kernel,
    by decide +kernel, by decide +kernel, by decide +kernel, by decide +kernel, rfl, by decide +kernel⟩

theorem witness_PowerLossSequence_9 :
    ∃ (mv : Nat) (heldUs : Nat) (s : State), s.sto.inputLow = false ∧ s.flag STO_HEALTH_HOLD_LOW = false ∧ 10 * mv < 9 *
      s.sto.vh ∧ 1000 ≤ heldUs :=
  ⟨0, 1000, { awake with sto := { awake.sto with inputLow := false, vh := 1 } }, by decide +kernel, by decide +kernel,
    by decide +kernel, by decide +kernel⟩

theorem witness_PowerLossSequence_10 :
    ∃ (mv : Nat) (heldUs : Nat) (s : State), s.sto.inputLow = false ∧ s.flag STO_HEALTH_HOLD_LOW = true ∧ 95 * s.sto.vh
      < 100 * mv ∧ 100000 ≤ heldUs :=
  ⟨1, 100000, (({ awake with sto := { awake.sto with inputLow := false } }.put STO_HEALTH_HOLD_LOW true).put
    STO_HEALTH_HOLD_LOW true), by decide +kernel, by decide +kernel, by decide +kernel, by decide +kernel⟩

theorem witness_Entropy_0 :
    ∃ (h : DHdr) (b : List Byte) (u : State) (a : Nat) (s : State), Served s SEC 1 h b ∧ u = begun s SEC 1 h b ∧
      bodyDirty b ([16, 20, 21, 22, 23] ++ addrs 1) = false ∧ leAt b 16 1 < 2 ∧ 1 ≤ leAt b 20 4 ∧ leAt b 20 4 ≤ 4096 ∧
      translate u h.part.val (leAt b 24 8) (leAt b 20 4) 1 = some a ∧ seeded u = true :=
  ⟨hdr, (body [(20, 1), (27, 16)]), _, 0x10000000, ((queued SEC 1 (body [(20, 1), (27, 16)])).wr SEC_STATUS_DRBG 1),
    by unfold Served; decide +kernel, rfl, by decide +kernel, by decide +kernel, by decide +kernel, by decide +kernel,
    by decide +kernel, by decide +kernel⟩

theorem witness_Entropy_1 :
    ∃ (h : DHdr) (b : List Byte) (u : State) (a : Nat) (s : State), Served s SEC 1 h b ∧ u = begun s SEC 1 h b ∧
      bodyDirty b ([16, 20, 21, 22, 23] ++ addrs 1) = false ∧ leAt b 16 1 = 0 ∧ 1 ≤ leAt b 20 4 ∧ leAt b 20 4 ≤ 4096 ∧
      translate u h.part.val (leAt b 24 8) (leAt b 20 4) 1 = some a ∧ seeded u = false :=
  ⟨hdr, (body [(20, 1), (27, 16)]), _, 0x10000000, ((queued SEC 1 (body [(20, 1), (27, 16)])).wr SEC_STATUS_DRBG 0),
    by unfold Served; decide +kernel, rfl, by decide +kernel, by decide +kernel, by decide +kernel, by decide +kernel,
    by decide +kernel, by decide +kernel⟩

theorem witness_Entropy_2 :
    ∃ (x : RandHeld) (rest : List RandHeld) (s : State), cdUp s = true ∧ s.sec.held = x :: rest ∧ lasted s x.since 20000
      = true :=
  ⟨⟨hdr, 0, 0, 0⟩, [], { awake with sec := { awake.sec with held := [⟨hdr, 0, 0, 0⟩] } }, by decide +kernel,
    by decide +kernel, by decide +kernel⟩

theorem witness_Entropy_3 :
    ∃ (ms : Nat) (s : State), cdUp s = true ∧ s.rd SEC_STATUS_TRNG ≠ 1 ∧ s.sec.fails < 3 ∧ s.sec.held = [] ∧ s.rd
      SEC_STATUS_DRBG ≠ 1 ∧ s.rd SEC_STATUS_LIVE_MS = 0 :=
  ⟨0, { awake with sec := { awake.sec with held := [] } }, by decide +kernel, by decide +kernel, by decide +kernel,
    by decide +kernel, by decide +kernel, by decide +kernel⟩

theorem witness_Entropy_4 :
    ∃ (ms : Nat) (s : State), cdUp s = true ∧ s.rd SEC_STATUS_TRNG ≠ 1 ∧ s.sec.fails + 1 < 3 :=
  ⟨0, awake, by decide +kernel, by decide +kernel, by decide +kernel⟩

theorem witness_Entropy_5 :
    ∃ (s : State), cdUp s = true ∧ seeded s = true :=
  ⟨(awake.wr SEC_STATUS_DRBG 1), by decide +kernel, by decide +kernel⟩

theorem witness_Entropy_6 :
    ∃ (s : State), cdUp s = true ∧ s.rd SEC_STATUS_TRNG = 1 :=
  ⟨(awake.wr SEC_STATUS_TRNG 1), by decide +kernel, by decide +kernel⟩

theorem witness_Entropy_7 :
    ∃ (s : State), cdUp s = true ∧ s.rd SEC_STATUS_DRBG = 1 ∧ s.rd SEC_STATUS_TRNG ≠ 1 ∧ s.rd SEC_CFG_RESEED_N ≤
      s.sec.requests :=
  ⟨({ awake with sec := { awake.sec with requests := 2 ^ 32 } }.wr SEC_STATUS_DRBG 1), by decide +kernel,
    by decide +kernel, by decide +kernel, by decide +kernel⟩

theorem witness_Ciphers_0 :
    ∃ (h : DHdr) (b : List Byte) (u : State) (v : State) (w : State) (a : Nat) (src : List Byte) (iva : List Byte) (s :
      State), Served s SEC 2 h b ∧ u = begun s SEC 2 h b ∧ homeOf u h.part.val ≠ 2 ∧ bodyDirty b ([16, 17, 18, 19, 20, 21,
      22, 23] ++ addrs 3) = false ∧ leAt b 16 1 = 0 ∧ leAt b 18 2 ≤ 1024 ∧ leAt b 20 4 ≤ 65536 ∧ keyAllowed u h.part.val
      (leAt b 17 1) = true ∧ ((∀ f, withIn u h 2 (leAt b 24 8) (leAt b 20 4) f = f v src)) ∧ translate v h.part.val (leAt
      b 32 8) (leAt b 20 4 + 16) 1 = some a ∧ ((∀ f, withIn v h 2 (leAt b 40 8) (12 + leAt b 18 2) f = f w iva)) :=
  ⟨hdr, (body [(17, 8), (20, 1), (27, 16), (35, 16), (43, 16)]), _, _, _, 0x10000000, _, _, (((queued SEC 2 (body [(17,
    8), (20, 1), (27, 16), (35, 16), (43, 16)])).wr SEC_KEY_STATE_FILLED 0xFFFFFFFF).wr (SEC_KEY_USE_PARTS 8) 1),
    by unfold Served; decide +kernel, rfl, by decide +kernel, by decide +kernel, by decide +kernel, by decide +kernel,
    by decide +kernel, by decide +kernel, withIn_of (a := 0x10000000)
    (by decide +kernel) (by decide +kernel) (Prod.ext rfl rfl), by decide +kernel, withIn_of (a := 0x10000000)
    (by decide +kernel) (by decide +kernel) (Prod.ext rfl rfl)⟩

theorem witness_Ciphers_1 :
    ∃ (h : DHdr) (b : List Byte) (u : State) (v : State) (w : State) (a : Nat) (src : List Byte) (iva : List Byte) (s :
      State), Served s SEC 2 h b ∧ u = begun s SEC 2 h b ∧ homeOf u h.part.val ≠ 2 ∧ bodyDirty b ([16, 17, 18, 19, 20, 21,
      22, 23] ++ addrs 3) = false ∧ leAt b 16 1 = 1 ∧ leAt b 18 2 ≤ 1024 ∧ 1 ≤ leAt b 20 4 ∧ leAt b 20 4 ≤ 65536 ∧
      keyAllowed u h.part.val (leAt b 17 1) = true ∧ ((∀ f, withIn u h 2 (leAt b 24 8) (leAt b 20 4 + 16) f = f v src)) ∧
      translate v h.part.val (leAt b 32 8) (leAt b 20 4) 1 = some a ∧ ((∀ f, withIn v h 2 (leAt b 40 8) (12 + leAt b 18 2)
      f = f w iva)) :=
  ⟨hdr, (body [(16, 1), (17, 8), (20, 1), (27, 16), (35, 16), (43, 16)]), _, _, _, 0x10000000, _, _, (((queued SEC 2
    (body [(16, 1), (17, 8), (20, 1), (27, 16), (35, 16), (43, 16)])).wr SEC_KEY_STATE_FILLED 0xFFFFFFFF).wr
    (SEC_KEY_USE_PARTS 8) 1), by unfold Served; decide +kernel, rfl, by decide +kernel, by decide +kernel,
    by decide +kernel, by decide +kernel, by decide +kernel, by decide +kernel, by decide +kernel, withIn_of (a :=
    0x10000000) (by decide +kernel) (by decide +kernel) (Prod.ext rfl rfl), by decide +kernel, withIn_of (a := 0x10000000)
    (by decide +kernel) (by decide +kernel) (Prod.ext rfl rfl)⟩

theorem witness_Ciphers_2 :
    ∃ (h : DHdr) (b : List Byte) (u : State) (v : State) (a : Nat) (src : List Byte) (s : State), Served s SEC 3 h b ∧ u
      = begun s SEC 3 h b ∧ bodyDirty b ([20, 21, 22, 23] ++ addrs 2) = false ∧ leAt b 20 4 ≤ 16777216 ∧ ((∀ f, withIn u h
      3 (leAt b 24 8) (leAt b 20 4) f = f v src)) ∧ translate v h.part.val (leAt b 32 8) 32 1 = some a :=
  ⟨hdr, (body [(20, 1), (27, 16), (35, 16)]), _, _, 0x10000000, _, (((queued SEC 3 (body [(20, 1), (27, 16), (35,
    16)])).wr SEC_KEY_STATE_FILLED 0xFFFFFFFF).wr (SEC_KEY_USE_PARTS 8) 1), by unfold Served; decide +kernel, rfl,
    by decide +kernel, by decide +kernel, withIn_of (a := 0x10000000)
    (by decide +kernel) (by decide +kernel) (Prod.ext rfl rfl), by decide +kernel⟩

theorem witness_Ciphers_3 :
    ∃ (h : DHdr) (b : List Byte) (u : State) (v : State) (d : List Byte) (s : State), Served s SEC 4 h b ∧ u = begun s
      SEC 4 h b ∧ homeOf u h.part.val ≠ 2 ∧ bodyDirty b ([16, 17, 18, 19, 20, 21] ++ addrs 1) = false ∧ 16 ≤ leAt b 17 1 ∧
      leAt b 17 1 ≤ 31 ∧ ((leAt b 18 1 = 16 ∨ leAt b 18 1 = 32)) ∧ leAt b 19 1 ≤ 64 ∧ leAt b 20 2 ≤ 255 ∧ keyAllowed u
      h.part.val (leAt b 16 1) = true ∧ mayWrite u h.part.val (leAt b 17 1) = true ∧ ((∀ f, withIn u h 4 (leAt b 24 8)
      (leAt b 19 1 + leAt b 20 2) f = f v d)) :=
  ⟨hdr, (body [(16, 8), (17, 16), (18, 16), (19, 1), (27, 16)]), _, _, _, (((queued SEC 4 (body [(16, 8), (17, 16), (18,
    16), (19, 1), (27, 16)])).wr SEC_KEY_STATE_FILLED 0xFFFFFFFF).wr (SEC_KEY_USE_PARTS 8) 1),
    by unfold Served; decide +kernel, rfl, by decide +kernel, by decide +kernel, by decide +kernel, by decide +kernel,
    by decide +kernel, by decide +kernel, by decide +kernel, by decide +kernel, by decide +kernel, withIn_of (a :=
    0x10000000) (by decide +kernel) (by decide +kernel) (Prod.ext rfl rfl)⟩

theorem witness_Ciphers_4 :
    ∃ (h : DHdr) (b : List Byte) (u : State) (v : State) (a : Nat) (d : List Byte) (s : State), Served s SEC 5 h b ∧ u =
      begun s SEC 5 h b ∧ homeOf u h.part.val ≠ 2 ∧ bodyDirty b (addrs 2) = false ∧ slotFilled u 0 = true ∧ bit (u.rd
      (SEC_KEY_USE_PARTS 0)) h.part.val = true ∧ ((∀ f, withIn u h 5 (leAt b 24 8) 32 f = f v d)) ∧ translate v h.part.val
      (leAt b 32 8) 64 1 = some a :=
  ⟨hdr, (body [(27, 16), (35, 16)]), _, _, 0x10000000, _, ((((queued SEC 5 (body [(27, 16), (35, 16)])).wr
    SEC_KEY_STATE_FILLED 0xFFFFFFFF).wr (SEC_KEY_USE_PARTS 8) 1).wr (SEC_KEY_USE_PARTS 0) 1),
    by unfold Served; decide +kernel, rfl, by decide +kernel, by decide +kernel, by decide +kernel, by decide +kernel,
    withIn_of (a := 0x10000000) (by decide +kernel) (by decide +kernel) (Prod.ext rfl rfl), by decide +kernel⟩

theorem witness_Ciphers_5 :
    ∃ (h : DHdr) (b : List Byte) (u : State) (v : State) (w : State) (x : State) (pub : List Byte) (d : List Byte) (sig
      : List Byte) (s : State), Served s SEC 6 h b ∧ u = begun s SEC 6 h b ∧ bodyDirty b (addrs 3) = false ∧ ((∀ f, withIn
      u h 6 (leAt b 24 8) 65 f = f v pub)) ∧ ((∀ f, withIn v h 6 (leAt b 32 8) 32 f = f w d)) ∧ ((∀ f, withIn w h 6 (leAt
      b 40 8) 64 f = f x sig)) :=
  ⟨hdr, (body [(27, 16), (35, 16), (43, 16)]), _, _, _, _, _, _, _, (((queued SEC 6 (body [(27, 16), (35, 16), (43,
    16)])).wr SEC_KEY_STATE_FILLED 0xFFFFFFFF).wr (SEC_KEY_USE_PARTS 8) 1), by unfold Served; decide +kernel, rfl,
    by decide +kernel, withIn_of (a := 0x10000000) (by decide +kernel) (by decide +kernel) (Prod.ext rfl rfl), withIn_of
    (a := 0x10000000) (by decide +kernel) (by decide +kernel) (Prod.ext rfl rfl), withIn_of (a := 0x10000000)
    (by decide +kernel) (by decide +kernel) (Prod.ext rfl rfl)⟩

theorem witness_Ciphers_6 :
    ∃ (h : DHdr) (b : List Byte) (u : State) (v : State) (w : State) (x : State) (y : State) (msg : List Byte) (pub :
      List Byte) (sig : List Byte) (ctx : List Byte) (s : State), Served s SEC 7 h b ∧ u = begun s SEC 7 h b ∧ bodyDirty b
      ([17, 20, 21, 22, 23] ++ addrs 4) = false ∧ leAt b 20 4 ≤ 65536 ∧ ((∀ f, withIn u h 7 (leAt b 24 8) (leAt b 20 4) f
      = f v msg)) ∧ ((∀ f, withIn v h 7 (leAt b 32 8) 1952 f = f w pub)) ∧ ((∀ f, withIn w h 7 (leAt b 40 8) 3309 f = f x
      sig)) ∧ ((∀ f, withIn x h 7 (leAt b 48 8) (leAt b 17 1) f = f y ctx)) :=
  ⟨hdr, (body [(17, 1), (20, 1), (27, 16), (35, 16), (43, 16), (51, 16)]), _, _, _, _, _, _, _, _, _, (((queued SEC 7
    (body [(17, 1), (20, 1), (27, 16), (35, 16), (43, 16), (51, 16)])).wr SEC_KEY_STATE_FILLED 0xFFFFFFFF).wr
    (SEC_KEY_USE_PARTS 8) 1), by unfold Served; decide +kernel, rfl, by decide +kernel, by decide +kernel, withIn_of (a :=
    0x10000000) (by decide +kernel) (by decide +kernel) (Prod.ext rfl rfl), withIn_of (a := 0x10000000)
    (by decide +kernel) (by decide +kernel) (Prod.ext rfl rfl), withIn_of (a := 0x10000000)
    (by decide +kernel) (by decide +kernel) (Prod.ext rfl rfl), withIn_of (a := 0x10000000)
    (by decide +kernel) (by decide +kernel) (Prod.ext rfl rfl)⟩

theorem witness_Ciphers_7 :
    ∃ (h : DHdr) (b : List Byte) (u : State) (v : State) (a : Nat) (d : List Byte) (s : State), Served s SEC 10 h b ∧ u
      = begun s SEC 10 h b ∧ homeOf u h.part.val ≠ 2 ∧ bodyDirty b ([17, 20, 21, 22, 23] ++ addrs 2) = false ∧ leAt b 20 4
      ≤ 65536 ∧ keyAllowed u h.part.val (leAt b 17 1) = true ∧ ((∀ f, withIn u h 10 (leAt b 24 8) (leAt b 20 4) f = f v
      d)) ∧ translate v h.part.val (leAt b 32 8) 16 1 = some a :=
  ⟨hdr, (body [(17, 8), (20, 1), (27, 16), (35, 16)]), _, _, 0x10000000, _, (((queued SEC 10 (body [(17, 8), (20, 1),
    (27, 16), (35, 16)])).wr SEC_KEY_STATE_FILLED 0xFFFFFFFF).wr (SEC_KEY_USE_PARTS 8) 1),
    by unfold Served; decide +kernel, rfl, by decide +kernel, by decide +kernel, by decide +kernel, by decide +kernel,
    withIn_of (a := 0x10000000) (by decide +kernel) (by decide +kernel) (Prod.ext rfl rfl), by decide +kernel⟩

theorem witness_VaultKeys_0 :
    ∃ (h : DHdr) (b : List Byte) (u : State) (v : State) (key : List Byte) (s : State), Served s SEC 8 h b ∧ u = begun s
      SEC 8 h b ∧ homeOf u h.part.val ≠ 2 ∧ bodyDirty b ([16, 17] ++ addrs 1) = false ∧ 16 ≤ leAt b 16 1 ∧ leAt b 16 1 ≤
      31 ∧ ((leAt b 17 1 = 16 ∨ leAt b 17 1 = 32)) ∧ mayWrite u h.part.val (leAt b 16 1) = true ∧ ((∀ f, withIn u h 8
      (leAt b 24 8) (leAt b 17 1) f = f v key)) :=
  ⟨hdr, (body [(16, 16), (17, 16), (27, 16)]), _, _, _, (((queued SEC 8 (body [(16, 16), (17, 16), (27, 16)])).wr
    SEC_KEY_STATE_FILLED 0xFFFFFFFF).wr (SEC_KEY_USE_PARTS 8) 1), by unfold Served; decide +kernel, rfl,
    by decide +kernel, by decide +kernel, by decide +kernel, by decide +kernel, by decide +kernel, by decide +kernel,
    withIn_of (a := 0x10000000) (by decide +kernel) (by decide +kernel) (Prod.ext rfl rfl)⟩

theorem witness_VaultKeys_1 :
    ∃ (h : DHdr) (b : List Byte) (u : State) (s : State), Served s SEC 8 h b ∧ u = begun s SEC 8 h b ∧ homeOf u
      h.part.val ≠ 2 ∧ bodyDirty b ([16, 17] ++ addrs 1) = false ∧ 16 ≤ leAt b 16 1 ∧ leAt b 16 1 ≤ 31 ∧ ((leAt b 17 1 =
      16 ∨ leAt b 17 1 = 32)) ∧ mayWrite u h.part.val (leAt b 16 1) = false :=
  ⟨hdr, (body [(16, 16), (17, 16), (27, 16)]), _,
    { (queued SEC 8 (body [(16, 16), (17, 16), (27, 16)])) with sec := { (queued SEC 8 (body [(16, 16), (17, 16), (27, 16)])).sec with writers := [(16, 1)] } },
    by unfold Served; decide +kernel, rfl, by decide +kernel, by decide +kernel, by decide +kernel, by decide +kernel,
    by decide +kernel, by decide +kernel⟩

theorem witness_VaultKeys_2 :
    ∃ (h : DHdr) (b : List Byte) (u : State) (s : State), Served s SEC 9 h b ∧ u = begun s SEC 9 h b ∧ homeOf u
      h.part.val ≠ 2 ∧ bodyDirty b [16] = false ∧ 16 ≤ leAt b 16 1 ∧ leAt b 16 1 ≤ 31 ∧ keyAllowed u h.part.val (leAt b 16
      1) = true :=
  ⟨hdr, (body [(16, 16)]), _,
    (({ (queued SEC 9 (body [(16, 16)])) with sec := { (queued SEC 9 (body [(16, 16)])).sec with writers := [(16, 0)] } }.wr
    SEC_KEY_STATE_FILLED 0xFFFFFFFF).wr (SEC_KEY_USE_PARTS 8) 1), by unfold Served; decide +kernel, rfl,
    by decide +kernel, by decide +kernel, by decide +kernel, by decide +kernel, by decide +kernel⟩

theorem witness_VaultKeys_3 :
    ∃ (h : DHdr) (b : List Byte) (u : State) (a : Nat) (s : State), Served s SEC 11 h b ∧ u = begun s SEC 11 h b ∧
      homeOf u h.part.val ≠ 2 ∧ bodyDirty b ([16] ++ addrs 1) = false ∧ leAt b 16 1 = 1 ∧ slotFilled u 1 = true ∧
      translate u h.part.val (leAt b 24 8) 65 1 = some a :=
  ⟨hdr, (body [(16, 1), (27, 16)]), _, 0x10000000, (((queued SEC 11 (body [(16, 1), (27, 16)])).wr SEC_KEY_STATE_FILLED
    0xFFFFFFFF).wr (SEC_KEY_USE_PARTS 8) 1), by unfold Served; decide +kernel, rfl, by decide +kernel, by decide +kernel,
    by decide +kernel, by decide +kernel, by decide +kernel⟩

theorem witness_VaultKeys_4 :
    ∃ (h : DHdr) (b : List Byte) (u : State) (v : State) (key : List Byte) (s : State), Served s SEC 12 h b ∧ u = begun
      s SEC 12 h b ∧ h.part = 0 ∧ homeOf u h.part.val ≠ 2 ∧ bodyDirty b ([16, 17] ++ addrs 1) = false ∧ isSealed u = false
      ∧ 2 ≤ leAt b 16 1 ∧ leAt b 16 1 < 16 ∧ leAt b 16 1 ≠ 7 ∧ bit (u.rd SEC_KEY_STATE_FILLED) (leAt b 16 1) = false ∧
      (provisionLens (leAt b 16 1)).contains (leAt b 17 1) = true ∧ ((∀ f, withIn u h 12 (leAt b 24 8) (leAt b 17 1) f = f
      v key)) :=
  ⟨hdr, (body [(16, 2), (17, 32), (27, 16)]), _, _, _, ((((queued SEC 12 (body [(16, 2), (17, 32), (27, 16)])).wr
    SEC_KEY_STATE_FILLED 0xFFFFFFFF).wr (SEC_KEY_USE_PARTS 8) 1).wr SEC_KEY_STATE_FILLED 0),
    by unfold Served; decide +kernel, rfl, by decide +kernel, by decide +kernel, by decide +kernel, by decide +kernel,
    by decide +kernel, by decide +kernel, by decide +kernel, by decide +kernel, by decide +kernel, withIn_of (a :=
    0x10000000) (by decide +kernel) (by decide +kernel) (Prod.ext rfl rfl)⟩

theorem witness_VaultKeys_5 :
    ∃ (h : DHdr) (b : List Byte) (u : State) (s : State), Served s SEC 12 h b ∧ u = begun s SEC 12 h b ∧ h.part = 0 ∧
      homeOf u h.part.val ≠ 2 ∧ bodyDirty b ([16, 17] ++ addrs 1) = false ∧ isSealed u = true :=
  ⟨hdr, (body [(27, 16)]), _, ((queued SEC 12 (body [(27, 16)])).put PAR_SEAL_STATUS_SEALED true),
    by unfold Served; decide +kernel, rfl, by decide +kernel, by decide +kernel, by decide +kernel, by decide +kernel⟩

theorem witness_VaultKeys_6 :
    ∃ (h : DHdr) (b : List Byte) (u : State) (s : State), Served s SEC 16 h b ∧ u = begun s SEC 16 h b ∧ h.part = 0 ∧
      homeOf u h.part.val ≠ 2 ∧ bodyDirty b ((List.range 48).map (16 + ·)) = false ∧ leAt b 16 1 < 2 ∧ leAt b 17 1 < 2 ∧
      leAt b 18 1 < 4 ∧ ((leAt b 19 1 = 2 ∨ leAt b 19 1 = 3)) ∧ bodyDirty b (msecListed u b) = false ∧ 8 ≤ leAt b 20 1 ∧
      leAt b 20 1 ≤ 31 ∧ keyAllowed u 0 (leAt b 20 1) = true ∧ (keyAt u (leAt b 20 1)).length = saLen u (leAt b 16 1) ∧
      xpn u (leAt b 16 1) = false :=
  ⟨hdr, (body [(19, 2), (20, 8)]), _,
    (({ (queued SEC 16 (body [(19, 2), (20, 8)])) with sec := { (queued SEC 16 (body [(19, 2), (20, 8)])).sec with keys := [(8, List.replicate 16 0)] } }.wr
    SEC_KEY_STATE_FILLED 0xFFFFFFFF).wr (SEC_KEY_USE_PARTS 8) 1), by unfold Served; decide +kernel, rfl,
    by decide +kernel, by decide +kernel, by decide +kernel, by decide +kernel, by decide +kernel, by decide +kernel,
    by decide +kernel, by decide +kernel, by decide +kernel, by decide +kernel, by decide +kernel, by decide +kernel,
    by decide +kernel⟩

theorem witness_VaultKeys_7 :
    ∃ (h : DHdr) (b : List Byte) (u : State) (s : State), Served s SEC 17 h b ∧ u = begun s SEC 17 h b ∧ h.part = 0 ∧
      homeOf u h.part.val ≠ 2 ∧ bodyDirty b [16, 17, 18] = false ∧ leAt b 16 1 < 2 ∧ leAt b 17 1 = 1 ∧ leAt b 18 1 < 4 :=
  ⟨hdr, (body [(17, 1)]), _, (queued SEC 17 (body [(17, 1)])), by unfold Served; decide +kernel, rfl, by decide +kernel,
    by decide +kernel, by decide +kernel, by decide +kernel, by decide +kernel, by decide +kernel⟩

theorem witness_Updates_0 :
    ∃ (h : DHdr) (b : List Byte) (media : Bool) (u : State) (v : State) (r : Nat × List Byte × List Byte) (s : State),
      Served s SEC 32 h b ∧ u = begun s SEC 32 h b ∧ h.part = 0 ∧ homeOf u h.part.val ≠ 2 ∧ bodyDirty b [16] = false ∧
      leAt b 16 1 < 2 ∧ v = charge u h.part.val SEC (1024 * (announced u (leAt b 16 1) + payloads u (leAt b 16 1)
      (landedManifest u (leAt b 16 1))) + 4) ∧ r = bundleCheck v (uidBytes v) (leAt b 16 1) media :=
  ⟨hdr, (body []), false, _, _, _, (queued SEC 32 (body [])), by unfold Served; decide +kernel, rfl, by decide +kernel,
    by decide +kernel, by decide +kernel, by decide +kernel, rfl, rfl⟩

theorem witness_Updates_1 :
    ∃ (h : DHdr) (b : List Byte) (u : State) (s : State), Served s SEC 33 h b ∧ u = begun s SEC 33 h b ∧ h.part = 0 ∧
      homeOf u h.part.val ≠ 2 ∧ bodyDirty b [16] = false ∧ leAt b 16 1 < 2 ∧ slotState u (leAt b 16 1) = 1 ∧ u.flag
      UPD_STATUS_TRIAL = false ∧ leAt b 16 1 = 0 :=
  ⟨hdr, (body []), _, ((queued SEC 33 (body [])).wr UPD_STATUS_SLOT_STATE 1), by unfold Served; decide +kernel, rfl,
    by decide +kernel, by decide +kernel, by decide +kernel, by decide +kernel, by decide +kernel, by decide +kernel,
    by decide +kernel⟩

theorem witness_Updates_2 :
    ∃ (h : DHdr) (b : List Byte) (u : State) (s : State), Served s SEC 33 h b ∧ u = begun s SEC 33 h b ∧ h.part = 0 ∧
      homeOf u h.part.val ≠ 2 ∧ bodyDirty b [16] = false ∧ leAt b 16 1 < 2 ∧ slotState u (leAt b 16 1) = 1 ∧ u.flag
      UPD_STATUS_TRIAL = false ∧ leAt b 16 1 = 1 :=
  ⟨hdr, (body [(16, 1)]), _, ((queued SEC 33 (body [(16, 1)])).wr UPD_STATUS_SLOT_STATE 4),
    by unfold Served; decide +kernel, rfl, by decide +kernel, by decide +kernel, by decide +kernel, by decide +kernel,
    by decide +kernel, by decide +kernel, by decide +kernel⟩

theorem witness_Updates_3 :
    ∃ (h : DHdr) (b : List Byte) (u : State) (s : State), Served s SEC 33 h b ∧ u = begun s SEC 33 h b ∧ h.part = 0 ∧
      homeOf u h.part.val ≠ 2 ∧ bodyDirty b [16] = false ∧ leAt b 16 1 < 2 ∧ slotState u (leAt b 16 1) ≠ 1 :=
  ⟨hdr, (body []), _, (queued SEC 33 (body [])), by unfold Served; decide +kernel, rfl, by decide +kernel,
    by decide +kernel, by decide +kernel, by decide +kernel, by decide +kernel⟩

theorem witness_Updates_4 :
    ∃ (h : DHdr) (b : List Byte) (u : State) (s : State), Served s SEC 34 h b ∧ u = begun s SEC 34 h b ∧ h.part = 0 ∧
      homeOf u h.part.val ≠ 2 ∧ bodyDirty b [16] = false ∧ leAt b 16 1 < 1 :=
  ⟨hdr, (body []), _, (queued SEC 34 (body [])), by unfold Served; decide +kernel, rfl, by decide +kernel,
    by decide +kernel, by decide +kernel, by decide +kernel⟩

theorem witness_Updates_5 :
    ∃ (h : DHdr) (b : List Byte) (u : State) (v : State) (s : State), Served s SEC 35 h b ∧ u = begun s SEC 35 h b ∧
      h.part = 0 ∧ homeOf u h.part.val ≠ 2 ∧ bodyDirty b [16] = false ∧ leAt b 16 1 < 1 ∧ u.flag UPD_STATUS_TRIAL = true ∧
      v = (((u.put UPD_STATUS_TRIAL false).wr UPD_STATUS_TRIES 0).wr UPD_STATUS_LAST_OUTCOME 4).wr UPD_LEFT_SECONDS 0 :=
  ⟨hdr, (body []), _, _, ((queued SEC 35 (body [])).put UPD_STATUS_TRIAL true), by unfold Served; decide +kernel, rfl,
    by decide +kernel, by decide +kernel, by decide +kernel, by decide +kernel, by decide +kernel, rfl⟩

theorem witness_Updates_6 :
    ∃ (h : DHdr) (b : List Byte) (u : State) (s : State), Served s SEC 35 h b ∧ u = begun s SEC 35 h b ∧ h.part = 0 ∧
      homeOf u h.part.val ≠ 2 ∧ bodyDirty b [16] = false ∧ leAt b 16 1 < 1 ∧ u.flag UPD_STATUS_TRIAL = false :=
  ⟨hdr, (body []), _, (queued SEC 35 (body [])), by unfold Served; decide +kernel, rfl, by decide +kernel,
    by decide +kernel, by decide +kernel, by decide +kernel, by decide +kernel⟩

theorem witness_Updates_7 :
    ∃ (s : State), cdUp s = true ∧ challengeOpen s = true :=
  ⟨(awake.wr SEC_STATUS_DRBG 1), by decide +kernel, by decide +kernel⟩

theorem witness_Updates_8 :
    ∃ (s : State), cdUp s = true ∧ challengeOpen s = false :=
  ⟨awake, by decide +kernel, by decide +kernel⟩

theorem witness_Updates_9 :
    ∃ (r : List Byte) (s : State), cdUp s = true :=
  ⟨[], awake, by decide +kernel⟩

theorem witness_FaultsAndInjection_0 :
    ∃ (mem : Fin 16) (ue : Bool) (addr : Nat) (hit : EccAt) (s : State), memPowered s mem.val = true ∧ ((ue = false ∨
      refetched mem.val hit = true)) :=
  ⟨0, false, 0, .nowhere, awake, by decide +kernel, by decide +kernel⟩

theorem witness_FaultsAndInjection_1 :
    ∃ (mem : Fin 16) (addr : Nat) (hit : EccAt) (s : State), memPowered s mem.val = true ∧ refetched mem.val hit = false :=
  ⟨3, 0, .nowhere, awake, by decide +kernel, by decide +kernel⟩

theorem witness_FaultsAndInjection_2 :
    ∃ (mem : Fin 16) (addr : Nat) (s : State), cdUp s = true :=
  ⟨0, 0, awake, by decide +kernel⟩

theorem witness_FaultsAndInjection_3 :
    ∃ (addr : Nat) (err : Option Bool) (s : State), cdUp s = true ∧ err = some true :=
  ⟨0, _, awake, by decide +kernel, rfl⟩

theorem witness_FaultsAndInjection_4 :
    ∃ (link : Fin 2) (u : State) (s : State), cdUp s = true ∧ s.flt.inj = none ∧ (u =
      { s.bump (EVT_LINK_CNT_REPLAYS link.val) 1 with flt := { s.flt with row := tabPut s.flt.row link.val 1, replays := tabPut s.flt.replays link.val (replaysOf s link.val ++ [s.now]) } })
      ∧ ((replaysOf s link.val ++ [s.now]).filter (fun x => s.now - x ≤ 33)).length ≠ 64 :=
  ⟨0, _, { awake with flt := { awake.flt with inj := none } }, by decide +kernel, by decide +kernel, rfl,
    by decide +kernel⟩

theorem witness_FaultsAndInjection_5 :
    ∃ (link : Fin 2) (u : State) (s : State), cdUp s = true ∧ s.rd (EVT_LINK_CNT_LANES link.val) ≤ 2 ∧ u = (s.bump
      (EVT_LINK_CNT_RETRAINS link.val) 1).wr (EVT_LINK_CNT_LANES link.val) 2 :=
  ⟨0, _, awake, by decide +kernel, by decide +kernel, rfl⟩

theorem witness_FaultsAndInjection_6 :
    ∃ (s : State), cdUp s = true ∧ s.pwr.armed = true ∧ s.flt.lost.contains 1 = false :=
  ⟨{ awake with pwr := { awake.pwr with armed := true } }, by decide +kernel, by decide +kernel, by decide +kernel⟩

theorem witness_FaultsAndInjection_7 :
    ∃ (s : State), cdUp s = true ∧ s.pwr.armed = true :=
  ⟨{ awake with pwr := { awake.pwr with armed := true } }, by decide +kernel, by decide +kernel⟩

theorem witness_FaultsAndInjection_8 :
    ∃ (s : State), s.pwr.ldUp = true ∧ (s.pwr.cd == .off) = false :=
  ⟨{ awake with pwr := { awake.pwr with ldUp := true } }, by decide +kernel, by decide +kernel⟩

theorem witness_FaultsAndInjection_9 :
    ∃ (s : State), s.flt.lost.contains 2 = false :=
  ⟨awake, by decide +kernel⟩

theorem witness_FaultsAndInjection_10 :
    ∃ (s : State), cdUp s = true ∧ s.sto.lost = false :=
  ⟨{ awake with sto := { awake.sto with lost := false } }, by decide +kernel, by decide +kernel⟩

theorem witness_FaultsAndInjection_11 :
    ∃ (s : State), s.flt.lost.contains 2 = true :=
  ⟨{ awake with flt := { awake.flt with lost := [2] } }, by decide +kernel⟩

theorem witness_InjectionAndLockstep_0 :
    ∃ (v : Word) (s : State), cdUp s = true ∧ mayInject s = true ∧ fieldIn EVT_INJ_ARM v = 1 ∧ 1 ≤ fieldIn EVT_INJ_KIND
      v ∧ fieldIn EVT_INJ_KIND v ≤ 3 ∧ 1 ≤ fieldIn EVT_INJ_COUNT v :=
  ⟨2147483905, awake, by decide +kernel, by decide +kernel, by decide +kernel, by decide +kernel, by decide +kernel,
    by decide +kernel⟩

theorem witness_InjectionAndLockstep_1 :
    ∃ (v : Word) (s : State), cdUp s = true ∧ mayInject s = false :=
  ⟨0, (awake.put PAR_SEAL_STATUS_SEALED true), by decide +kernel, by decide +kernel⟩

theorem witness_InjectionAndLockstep_2 :
    ∃ (v : Word) (s : State), cdUp s = true ∧ mayInject s = true ∧ fieldIn EVT_RAISE_SOURCE v < 104 ∧ everRaised
      (fieldIn EVT_RAISE_SOURCE v) = true :=
  ⟨0, awake, by decide +kernel, by decide +kernel, by decide +kernel, by decide +kernel⟩

theorem witness_InjectionAndLockstep_3 :
    ∃ (v : Word) (s : State), cdUp s = true ∧ mayInject s = true ∧ 104 ≤ fieldIn EVT_RAISE_SOURCE v :=
  ⟨104, awake, by decide +kernel, by decide +kernel, by decide +kernel⟩

theorem witness_InjectionAndLockstep_4 :
    ∃ (part : Fin 8) (u : State) (s : State), evtOpen s = true ∧ partState s part.val = 2 ∧ (u =
      { s.bump (PAR_EVT_CNT_EV_LOST part.val) (tabGet 0 s.evt.heldLost part.val) with evt := { s.evt with held := s.evt.held.filter (fun x => x.part != part.val), heldLost := tabDel s.evt.heldLost part.val } }) :=
  ⟨0, _, running, by decide +kernel, by decide +kernel, rfl⟩

theorem witness_InjectionAndLockstep_5 :
    ∃ (pair : Fin 2) (mcycle : Nat) (s : State), cdUp s = true ∧ s.brd.stopped.contains pair.val = false :=
  ⟨0, 0, awake, by decide +kernel, by decide +kernel⟩

theorem witness_InjectionAndLockstep_6 :
    ∃ (pair : Fin 2) (mcycle : Nat) (s : State), cdUp s = true ∧ s.brd.stopped.contains pair.val = true :=
  ⟨0, 0, { awake with brd := { awake.brd with stopped := [0] } }, by decide +kernel, by decide +kernel⟩

theorem witness_TallyCommands_0 :
    ∃ (w : TWait) (rest : List TWait) (u : State) (s : State), s.spar.up = true ∧ sparRuns s = true ∧ s.flag
      TLY_STATUS_SCAN_DONE = true ∧ nextWait s = some (w, rest) ∧ s.tly.dropped = 0 ∧ (u = writeRec
      { s with tly := { s.tly with queue := rest } } w) ∧ u.tly.dropped = 0 :=
  ⟨⟨1, 0, 0, []⟩, [], _,
    ({ awake with spar := { awake.spar with up := true }, tly := { awake.tly with dropped := 0, queue := [⟨1, 0, 0, []⟩] } }.put
    TLY_STATUS_SCAN_DONE true), by decide +kernel, by decide +kernel, by decide +kernel, by decide +kernel,
    by decide +kernel, rfl, by decide +kernel⟩

theorem witness_TallyCommands_1 :
    ∃ (s : State), s.spar.up = true ∧ s.flag TLY_STATUS_SCAN_DONE = true ∧ nextWait s = none :=
  ⟨({ awake with spar := { awake.spar with up := true }, tly := { awake.tly with queue := [] } }.put
    TLY_STATUS_SCAN_DONE true), by decide +kernel, by decide +kernel, by decide +kernel⟩

theorem witness_TallyCommands_2 :
    ∃ (v : Word) (e : TRec) (s : State), cdUp s = true ∧ fieldIn TLY_SEL_AREA v = 1 ∧ firstRec ((s.wr TLY_SEL_START
      (fieldIn TLY_SEL_START v)).wr TLY_SEL_AREA 1) (fieldIn TLY_SEL_START v) = some e :=
  ⟨16777216, ⟨0, 0, 0, 0, 0, 0, 0, [], 0, 0⟩,
    ({ awake with tly := { awake.tly with first := [(0, ⟨.valid ⟨0, 0, 0, 0, 0, 0, 0, [], 0, 0⟩, .erased⟩)] } }.wr
    TLY_STATUS_FF_COUNT 1), by decide +kernel, by decide +kernel, by decide +kernel⟩

theorem witness_TallyCommands_3 :
    ∃ (v : Word) (s : State), cdUp s = true ∧ (s.rd TLY_NEXT_NEXT_RSEQ + 2 ^ 32 - s.rd TLY_MARK_RD_MARK) % 2 ^ 32 ≠ 0 ∧
      (s.rd TLY_NEXT_NEXT_RSEQ + 2 ^ 32 - v.toNat) % 2 ^ 32 ≠ 0 ∧ (s.rd TLY_NEXT_NEXT_RSEQ + 2 ^ 32 - v.toNat) % 2 ^ 32 ≤
      (s.rd TLY_NEXT_NEXT_RSEQ + 2 ^ 32 - s.rd TLY_MARK_RD_MARK) % 2 ^ 32 :=
  ⟨1, (awake.wr TLY_NEXT_NEXT_RSEQ 2), by decide +kernel, by decide +kernel, by decide +kernel, by decide +kernel⟩

theorem witness_TallyCommands_4 :
    ∃ (v : Word) (s : State), cdUp s = true :=
  ⟨0, awake, by decide +kernel⟩

theorem witness_CoreAccesses_0 :
    ∃ (w : Writer) (addr : Nat) (len : Nat) (v : Word) (s : State), cdUp s = true ∧ 0x40000000 ≤ addr ∧ addr <
      0x41000000 ∧ ((len ≠ 4 ∨ (addr - 0x40000000) % 4 ≠ 0)) :=
  ⟨.p0, 0x40000000, 1, 0, awake, by decide +kernel, by decide +kernel, by decide +kernel, by decide +kernel⟩

theorem witness_CoreAccesses_1 :
    ∃ (w : Writer) (addr : Nat) (v : Word) (s : State), cdUp s = true ∧ 0x40000000 ≤ addr ∧ addr < 0x41000000 ∧ addr % 4
      = 0 ∧ addr ≠ 0x40050088 :=
  ⟨.p0, 0x40000000, 0, awake, by decide +kernel, by decide +kernel, by decide +kernel, by decide +kernel,
    by decide +kernel⟩

theorem witness_CoreAccesses_2 :
    ∃ (w : Writer) (addr : Nat) (len : Nat) (v : Word) (s : State), cdUp s = true ∧ inSram addr = true ∧ addr <
      0x40000000 :=
  ⟨.p0, 0x10000000, 4, 0, awake, by decide +kernel, by decide +kernel, by decide +kernel⟩

theorem witness_CoreAccesses_3 :
    ∃ (w : Writer) (addr : Nat) (len : Nat) (v : Word) (s : State), cdUp s = true ∧ 0x60000000 ≤ addr ∧ addr <
      0x61000000 :=
  ⟨.p0, 0x60000000, 4, 0, awake, by decide +kernel, by decide +kernel, by decide +kernel⟩

theorem witness_CoreAccesses_4 :
    ∃ (w : Writer) (addr : Nat) (len : Nat) (s : State), cdUp s = true ∧ 0x40000000 ≤ addr ∧ addr < 0x41000000 :=
  ⟨.p0, 0x40000000, 4, awake, by decide +kernel, by decide +kernel, by decide +kernel⟩

theorem witness_CoreAccesses_5 :
    ∃ (w : Writer) (addr : Nat) (len : Nat) (s : State), cdUp s = true ∧ inSram addr = true ∧ addr < 0x40000000 :=
  ⟨.p0, 0x10000000, 4, awake, by decide +kernel, by decide +kernel, by decide +kernel⟩

theorem witness_CoreAccesses_6 :
    ∃ (v : Word) (s : State), cdUp s = true ∧ fieldIn PAR_SSET_CTL_APPLY v ≠ 0 ∧ s.flag PAR_SEAL_STATUS_SEALED = true ∧
      s.par.sset = none :=
  ⟨1, ({ awake with par := { awake.par with sset := none } }.put PAR_SEAL_STATUS_SEALED true), by decide +kernel,
    by decide +kernel, by decide +kernel, by decide +kernel⟩

theorem witness_CoreAccesses_7 :
    ∃ (v : Word) (a : Nat) (b : List Byte) (s : State), cdUp s = true ∧ fieldIn PAR_SSET_CTL_APPLY v ≠ 0 ∧ s.flag
      PAR_SEAL_STATUS_SEALED = false ∧ a = s.rd PAR_SSET_ADDR_ADDR ∧ b = setImage s a ∧ setFault b = none ∧ s.par.sset =
      none :=
  ⟨1, _, _, ({ awake with par := { awake.par with sset := none }, mem := image10 }.wr PAR_SSET_ADDR_ADDR 0x10000000),
    by decide +kernel, by decide +kernel, by decide +kernel, rfl, rfl, by decide +kernel, by decide +kernel⟩

theorem witness_ResetCommandKey_0 :
    ∃ (v : Word) (s : State), cdUp s = true ∧ v.toNat = 0xD0E5 :=
  ⟨0xD0E5, awake, by decide +kernel, by decide +kernel⟩

theorem witness_ResetCommandKey_1 :
    ∃ (w : Writer) (v : Word) (s : State), cdUp s = true ∧ (w = .safety ∨ v.toNat ≠ 0xD0E5) :=
  ⟨.safety, 0, awake, by decide +kernel, by decide +kernel⟩

theorem witness_EntryRefusesNext_0 :
    ∃ (v : Word) (e : Entry) (s : State), cdUp s = true ∧ s.pwr.entry = some e :=
  ⟨0, ⟨1, false, false, 0⟩, { awake with pwr := { awake.pwr with entry := some (⟨1, false, false, 0⟩) } },
    by decide +kernel, by decide +kernel⟩

theorem witness_StreamRelease_0 :
    ∃ (h : DHdr) (b : List Byte) (u : State) (x : Strm) (s : State), Served s SNS 3 h b ∧ u = begun s SNS 3 h b ∧
      bodyDirty b [16, 20, 21, 22, 23] = false ∧ strmAt u h.part.val (leAt b 16 1) = some x ∧ x.prod < 2 ^ 32 ∧ x.cons ≤
      leAt b 20 4 ∧ leAt b 20 4 ≤ x.prod :=
  ⟨hdr, (body [(20, 1)]), _,
    { part := 0, slot := 0, src := 4, kind := 6, index := 32, rate := 100, nsamp := 1, hop := 1, nblk := 1, inf := false, blkEvt := false, ctx := 0, base := 0x10000000, mask := 0, flush := 0, stream := 0, prod := 1 },
    { (queued SNS 3 (body [(20, 1)])) with sns := { (queued SNS 3 (body [(20, 1)])).sns with streams := [{ part := 0, slot := 0, src := 4, kind := 6, index := 32, rate := 100, nsamp := 1, hop := 1, nblk := 1, inf := false, blkEvt := false, ctx := 0, base := 0x10000000, mask := 0, flush := 0, stream := 0, prod := 1 }] } },
    by unfold Served; decide +kernel, rfl, by decide +kernel, by decide +kernel, by decide +kernel, by decide +kernel,
    by decide +kernel⟩

theorem witness_StreamRelease_1 :
    ∃ (h : DHdr) (b : List Byte) (u : State) (x : Strm) (s : State), Served s SNS 3 h b ∧ u = begun s SNS 3 h b ∧
      bodyDirty b [16, 20, 21, 22, 23] = false ∧ strmAt u h.part.val (leAt b 16 1) = some x ∧ x.prod < 2 ^ 32 ∧ x.cons ≤
      x.prod ∧ (leAt b 20 4 < x.cons ∨ x.prod < leAt b 20 4) :=
  ⟨hdr, (body [(20, 2)]), _,
    { part := 0, slot := 0, src := 4, kind := 6, index := 32, rate := 100, nsamp := 1, hop := 1, nblk := 1, inf := false, blkEvt := false, ctx := 0, base := 0x10000000, mask := 0, flush := 0, stream := 0, prod := 1 },
    { (queued SNS 3 (body [(20, 2)])) with sns := { (queued SNS 3 (body [(20, 2)])).sns with streams := [{ part := 0, slot := 0, src := 4, kind := 6, index := 32, rate := 100, nsamp := 1, hop := 1, nblk := 1, inf := false, blkEvt := false, ctx := 0, base := 0x10000000, mask := 0, flush := 0, stream := 0, prod := 1 }] } },
    by unfold Served; decide +kernel, rfl, by decide +kernel, by decide +kernel, by decide +kernel, by decide +kernel,
    by decide +kernel⟩

end Sys2Proof.Tests
end

section
/-! SUPPORT.
What a word written to a register makes of its fields, by their access codes (Table 0.3, R7, R8).
-/

namespace Sys2Proof.Machine

/-! ### A field that takes a write, and one that does not -/

theorem writeField_ignored (base : Nat) (hi : Bool) (v : Nat) (s : State) {f : FieldDesc}
    (h : f.acc = .ro ∨ f.acc = .rc ∨ f.acc = .wo) : writeField base hi v s f = s := by
  rcases h with h | h | h <;> simp [writeField, h]

theorem writeField_sealed (base : Nat) (hi : Bool) (v : Nat) {s : State} {f : FieldDesc} (h : f.acc = .rws)
    (hs : isSealed s = true) : writeField base hi v s f = s := by
  simp [writeField, h, hs]

/-- The write of one word leaves the state, or sets the one field it is for. -/
theorem writeField_cases (base : Nat) (hi : Bool) (v : Nat) (s : State) (f : FieldDesc) :
    writeField base hi v s f = s ∨ ∃ x, writeField base hi v s f = s.wr (fieldOf base f) x := by
  unfold writeField
  split_ifs
  · exact .inl rfl
  · exact .inl rfl
  · exact .inl rfl
  · exact .inr ⟨_, rfl⟩

theorem writeField_taken (base v : Nat) {hi : Bool} {s : State} {f : FieldDesc} (hr : reaches f hi = true)
    (ha : f.acc = .rw ∨ (f.acc = .rws ∧ isSealed s = false) ∨ f.acc = .w1c ∨ f.acc = .w1s) :
    writeField base hi v s f = s.wr (fieldOf base f) (written f hi (s.rd (fieldOf base f)) v) := by
  rcases ha with h | ⟨h, hs⟩ | h | h
  · simp [writeField, hr, h]
  · simp [writeField, hr, h, hs]
  · simp [writeField, hr, h]
  · simp [writeField, hr, h]

/-- A field of the low word that takes a write holds what its access code makes of it, cut to its width. -/
theorem rd_writeField_taken (base v : Nat) {s : State} {f : FieldDesc} (hl : f.lsb < 32) (hw : f.lsb + f.width ≤ 32)
    (ha : f.acc = .rw ∨ (f.acc = .rws ∧ isSealed s = false) ∨ f.acc = .w1c ∨ f.acc = .w1s) :
    (writeField base false v s f).rd (fieldOf base f) = written f false (s.rd (fieldOf base f)) v % 2 ^ f.width := by
  rw [writeField_taken base v (by simpa [reaches] using hl) ha]
  exact rd_wr_same s _ _ (show f.width ≤ 64 by omega)

/-! ### The bits of a word that fall on a field -/

theorem wordBits_low {f : FieldDesc} (hl : f.lsb < 32) (v : Nat) :
    wordBits f false v = bits v (min 31 (f.lsb + f.width - 1)) f.lsb := by
  simp [wordBits, hl]

theorem merged_low {f : FieldDesc} (hl : f.lsb < 32) (hw : f.lsb + f.width ≤ 32) (old v : Nat) :
    merged f false old v = bits v (min 31 (f.lsb + f.width - 1)) f.lsb := by
  simp [merged, hw, wordBits_low hl]

theorem testBit_wordBits {f : FieldDesc} (hw : f.lsb + f.width ≤ 32) {i : Nat} (hi : i < f.width) (v : Nat) :
    (wordBits f false v).testBit i = v.testBit (f.lsb + i) := by
  have hm : i < min 31 (f.lsb + f.width - 1) + 1 - f.lsb := by omega
  rw [wordBits_low (by omega), bits, Nat.testBit_mod_two_pow, Nat.testBit_div_two_pow, Nat.add_comm i]
  simp [hm]

/-- Taking away the bits that a mask shares leaves the bits that it has not. -/
theorem testBit_sub_and (a m i : Nat) : (a - (a &&& m)).testBit i = (a.testBit i && !m.testBit i) := by
  induction i generalizing a m with
  | zero =>
    have hlow : (a &&& m) % 2 = 1 ↔ a % 2 = 1 ∧ m % 2 = 1 := Nat.and_mod_two_eq_one
    have hle : a &&& m ≤ a := Nat.and_le_left
    have hbit : (a - (a &&& m)) % 2 = 1 ↔ a % 2 = 1 ∧ ¬ m % 2 = 1 := by omega
    simp only [Nat.testBit_zero, hbit, Bool.decide_and, decide_not]
  | succ i ih =>
    have hlow : (a &&& m) % 2 = 1 ↔ a % 2 = 1 ∧ m % 2 = 1 := Nat.and_mod_two_eq_one
    have hhalf : (a - (a &&& m)) / 2 = a / 2 - (a / 2 &&& m / 2) := by
      rw [← Nat.and_div_two]
      omega
    rw [Nat.testBit_succ, Nat.testBit_succ, Nat.testBit_succ, hhalf, ih]

/-- Settles O50: a write is split by the field's access code. -/
theorem accessCodes : Obligations.AccessCodes := by
  unfold Obligations.AccessCodes
  refine ⟨fun s base v f ha => writeField_ignored base false v s ha,
    fun s base v f ha hs => writeField_sealed base false v ha hs,
    fun s base v f ha hw hl => ?rw, fun s base v i f ha hw hi hold => ?w1c, fun s base v i f ha hw hi hold => ?w1s,
    fun s base v hi f k hk => ?frame⟩
  case rw =>
    have hwr : written f false (s.rd (fieldOf base f)) v = takenAs f (merged f false (s.rd (fieldOf base f)) v) := by
      rcases ha with h | ⟨h, -⟩ <;> simp [written, h]
    rw [rd_writeField_taken base v hl hw (ha.imp_right .inl), hwr, merged_low hl hw]
  case w1c =>
    rw [rd_writeField_taken base v (by omega) hw (.inr (.inr (.inl ha))), Nat.testBit_mod_two_pow]
    simp [written, ha, hi, testBit_sub_and, testBit_wordBits hw hi]
  case w1s =>
    rw [rd_writeField_taken base v (by omega) hw (.inr (.inr (.inr ha))), Nat.testBit_mod_two_pow]
    simp [written, ha, hi, testBit_wordBits hw hi]
  case frame =>
    obtain h | ⟨x, h⟩ := writeField_cases base hi v s f
    · rw [h]
    · rw [h, rd_wr_key s x hk]

end Sys2Proof.Machine
end

section
/-! SUPPORT.
A write to a sealed register all of whose fields are RWS (R8, R573).
-/

namespace Sys2Proof.Machine

@[simp] theorem isSealed_violate (s : State) : isSealed (violate s) = isSealed s := by
  unfold isSealed State.flag violate
  rw [rd_bump_key s 1 (by decide)]

/-- A sealed unit's RWS fields all keep their values, whatever word is written. -/
theorem foldl_writeField_sealed (base : Nat) (hi : Bool) (v : Nat) {s : State} (hs : isSealed s = true)
    {l : List FieldDesc} (hl : ∀ f ∈ l, f.acc = .rws) : l.foldl (writeField base hi v) s = s := by
  induction l with
  | nil => rfl
  | cons f l ih =>
    rw [List.foldl_cons, writeField_sealed base hi v (hl f List.mem_cons_self) hs]
    exact ih fun g hg => hl g (List.mem_cons_of_mem f hg)

theorem statusOnly_of_rws {r : RegDesc} (hne : r.fields ≠ []) (hr : ∀ f ∈ r.fields, f.acc = .rws) :
    statusOnly r = false := by
  obtain ⟨f, hf⟩ := List.exists_mem_of_ne_nil _ hne
  refine List.all_eq_false.2 ⟨f, hf, ?_⟩
  simp [hr f hf]

theorem sealBreach_iff {s : State} (base : Nat) (hi : Bool) (v : Nat) {r : RegDesc} (hs : isSealed s = true)
    (hr : ∀ f ∈ r.fields, f.acc = .rws) : sealBreach s base hi v r = true ↔
      ∃ f ∈ r.fields, reaches f hi = true ∧ merged f hi (s.rd (fieldOf base f)) v ≠ s.rd (fieldOf base f) := by
  simp only [sealBreach, hs, Bool.true_and, List.any_eq_true, Bool.and_eq_true, beq_iff_eq, bne_iff_ne]
  exact exists_congr fun f => and_congr_right fun hf => by simp [hr f hf]

/-- A word written to a sealed register of RWS fields does nothing but count, and that only when it would change one. -/
theorem writeWord_sealed {s : State} {off base : Nat} (v : Nat) {hi : Bool} {r : RegDesc} (hs : isSealed s = true)
    (hit : regHit off = some (r, base, hi)) (hne : r.fields ≠ []) (hr : ∀ f ∈ r.fields, f.acc = .rws) :
    writeWord s off v = if sealBreach s base hi v r then violate s else s := by
  unfold writeWord
  rw [hit]
  simp only [statusOnly_of_rws hne hr, Bool.false_eq_true, if_false]
  exact foldl_writeField_sealed base hi v (by split <;> simp [hs]) hr

/-- Settles O51: every field is kept, so all depends on whether the word would change one. -/
theorem sealedRegisters : Obligations.SealedRegisters := by
  unfold Obligations.SealedRegisters
  refine ⟨fun s off v base hi r hs hit hne hr hch => ?_, fun s off v base hi r hs hit hne hr hsame => ?_⟩
  · rw [writeWord_sealed v hs hit hne hr, if_pos ((sealBreach_iff base hi v hs hr).2 hch)]
  · rw [writeWord_sealed v hs hit hne hr, if_neg]
    rw [sealBreach_iff base hi v hs hr]
    rintro ⟨f, hf, hreach, hch⟩
    exact hch (hsame f hf hreach)

end Sys2Proof.Machine
end

section
/-! SUPPORT.
What a core's accesses to memory do, by the address (R5, R411, R567, R572, Table 28.1).
-/

namespace Sys2Proof.Machine

/-! ### Bytes -/

theorem getElem_leBytes (k n i : Nat) (hi : i < (leBytes k n).length) : (leBytes k n)[i] = byte (n / 256 ^ i) := by
  induction k generalizing n i with
  | zero => simp [leBytes] at hi
  | succ k ih =>
    cases i with
    | zero => simp [leBytes]
    | succ i =>
      simp only [leBytes, List.getElem_cons_succ]
      rw [ih, Nat.div_div_eq_div_mul, pow_succ']

theorem readBytes_eq_map (s : State) (a n : Nat) :
    readBytes s a n = (List.range n).map (fun i => readByte s (a + i)) := by
  induction n generalizing a with
  | zero => rfl
  | succ n ih =>
    simp only [readBytes, ih, List.range_succ_eq_map, List.map_cons, List.map_map, Nat.add_zero, List.cons.injEq,
      true_and]
    exact List.map_congr_left fun i _ => by simp [Nat.add_assoc, Nat.add_comm 1]

/-! ### Where an address lies -/

theorem inSram_iff (a : Nat) : inSram a = true ↔ 0x10000000 ≤ a ∧ a < 0x10C00000 := by simp [inSram]

theorem inTcm_iff (a : Nat) : inTcm a = true ↔ 0x20000000 ≤ a ∧ a < 0x20080000 := by simp [inTcm]

theorem not_inSram_of_inTcm {a : Nat} (h : inTcm a = true) : ¬ inSram a = true := by
  rw [inTcm_iff] at h
  rw [inSram_iff]
  omega

/-- An access to system SRAM ends the zeroing of its bank and every lower one (log entry 101), when any is left. -/
theorem bankWait_sram (s : State) {a : Nat} (h : inSram a = true) :
    bankWait s a = { s with pwr := { s.pwr with
      unzeroed := s.pwr.unzeroed.filter (fun n => (a - 0x10000000) / 262144 < n) } } := by
  unfold bankWait
  split
  · rename_i he
    have hnil : s.pwr.unzeroed = [] := by simpa [h] using he
    simp only [hnil, List.filter_nil]
    rw [← hnil]
  · rfl

/-! ### A core's write and read, by the address -/

theorem exec_registerWrite {s : State} (h : cdUp s = true) (w : Writer) (a len : Nat) (v : Word) :
    exec (.registerWrite w a len v) s = .next (coreWrite s w a len v) := by
  change whileCd s (coreWrite s w a len v) = _
  rw [whileCd, if_pos h]

theorem exec_rcRegisterRead {s : State} (h : cdUp s = true) (w : Writer) (a len : Nat) :
    exec (.rcRegisterRead w a len) s = .next (coreRead s w a len) := by
  change whileCd s (coreRead s w a len) = _
  rw [whileCd, if_pos h]

theorem coreWrite_sram (s : State) (w : Writer) {a : Nat} (len : Nat) (v : Word) (h : inSram a = true) :
    coreWrite s w a len v = writeBytes (bankWait s (a + (len - 1))) a (leBytes len v.toNat) := by
  have ha := (inSram_iff a).1 h
  rw [coreWrite, if_neg (by omega), if_neg (by omega), if_neg (by omega), if_pos h]

theorem coreRead_sram (s : State) (w : Writer) {a : Nat} (len : Nat) (h : inSram a = true) :
    coreRead s w a len = emit (bankWait s (a + (len - 1))) (.memRead a (readBytes s a len)) := by
  have ha := (inSram_iff a).1 h
  rw [coreRead, if_neg (by omega), if_neg (by omega), if_neg (by omega), if_pos h]

theorem coreWrite_tcm_stranger (s : State) {w : Writer} {a : Nat} (len : Nat) (v : Word) (h : inTcm a = true)
    (hw : w ≠ .safety) : coreWrite s w a len v = tcmStranger s := by
  have ha := (inTcm_iff a).1 h
  rw [coreWrite, if_neg (by omega), if_neg (by omega), if_neg (by omega), if_neg (not_inSram_of_inTcm h), if_pos h,
    if_neg hw]

theorem coreRead_tcm_stranger (s : State) {w : Writer} {a : Nat} (len : Nat) (h : inTcm a = true)
    (hw : w ≠ .safety) : coreRead s w a len = emit (tcmStranger s) (.memRead a (List.replicate len 0)) := by
  have ha := (inTcm_iff a).1 h
  rw [coreRead, if_neg (by omega), if_neg (by omega), if_neg (by omega), if_neg (not_inSram_of_inTcm h), if_pos h,
    if_neg hw]

theorem coreWrite_remote (s : State) (w : Writer) {a : Nat} (len : Nat) (v : Word) (h : 0x100000000 ≤ a) :
    coreWrite s w a len v = emit s (.accessFault a) := by
  rw [coreWrite, if_neg (by omega), if_neg (by omega), if_neg (by omega), if_neg (by rw [inSram_iff]; omega),
    if_neg (by rw [inTcm_iff]; omega), if_neg (by omega)]

theorem coreRead_remote (s : State) (w : Writer) {a : Nat} (len : Nat) (h : 0x100000000 ≤ a) :
    coreRead s w a len = emit s (.accessFault a) := by
  rw [coreRead, if_neg (by omega), if_neg (by omega), if_neg (by omega), if_neg (by rw [inSram_iff]; omega),
    if_neg (by rw [inTcm_iff]; omega), if_neg (by omega)]

/-- Settles O53: one law per place that an address can lie in. -/
theorem coreMemory : Obligations.CoreMemory := by
  unfold Obligations.CoreMemory
  refine ⟨fun w a len v s hup hlo htop hpos => ?write, fun w a len s hup hlo htop hpos => ?read,
    fun a len v s hup ha => ?_, fun a len s hup ha => ?_, fun w a len v s hup ha => ⟨?_, ?_⟩⟩
  case write =>
    have hsram : ∀ i, i < len → inSram (a + i) = true := fun i hi => (inSram_iff _).2 (by omega)
    have hfirst : inSram a = true := hsram 0 hpos
    refine ⟨_, exec_registerWrite hup w a len v, ?_⟩
    rw [coreWrite_sram s w len v hfirst, bankWait_sram s (hsram (len - 1) (by omega))]
    refine ⟨fun i hi => ?_, fun x hx => ?_, rfl, rfl⟩
    · rw [readByte_writeBytes_in _ a i _ (by simpa using hi) (.inl (hsram i hi)), getElem_leBytes]
    · rw [readByte_writeBytes_out _ a x _ (by simpa using hx)]
      rfl
  case read =>
    have hsram : ∀ i, i < len → inSram (a + i) = true := fun i hi => (inSram_iff _).2 (by omega)
    have hfirst : inSram a = true := hsram 0 hpos
    rw [exec_rcRegisterRead hup, coreRead_sram s w len hfirst, bankWait_sram s (hsram (len - 1) (by omega)),
      readBytes_eq_map]
    rfl
  · rw [exec_registerWrite hup, coreWrite_tcm_stranger s len v ha (by decide)]
    rfl
  · rw [exec_rcRegisterRead hup, coreRead_tcm_stranger s len ha (by decide)]
    rfl
  · rw [exec_registerWrite hup, coreWrite_remote s w len v ha]
    rfl
  · rw [exec_rcRegisterRead hup, coreRead_remote s w len ha]
    rfl

end Sys2Proof.Machine
end

section
/-! SUPPORT.
What memory errors and the package links' faults leave (R456, R517 to R521).
-/

namespace Sys2Proof.Machine

/-- A command that acts only while the control die executes acts when it does. -/
theorem whileCd_of_up {s t : State} (h : cdUp s = true) : whileCd s t = .next t := by
  rw [whileCd, if_pos h]

/-! ### Memory errors -/

theorem exec_eccError_corrected {s : State} {mem : Fin 16} {ue : Bool} {addr : Nat} {hit : EccAt}
    (hp : memPowered s mem.val = true) (hc : ue = false ∨ refetched mem.val hit = true) :
    exec (.eccError mem ue addr hit) s = .next (eccCorrected (takeInj s (if ue then 2 else 1) mem.val).1 mem.val addr
      false (takeInj s (if ue then 2 else 1) mem.val).2) := by
  have hcor : (!ue || refetched mem.val hit) = true := by
    rcases hc with h | h <;> simp [h]
  change execEccError mem ue addr hit s = _
  simp [execEccError, hp, hcor]

theorem exec_eccError_fatal {s : State} {mem : Fin 16} {addr : Nat} {hit : EccAt}
    (hp : memPowered s mem.val = true) (hc : refetched mem.val hit = false) :
    exec (.eccError mem true addr hit) s = .next (eccEffect (eccFatal (takeInj s 2 mem.val).1 mem.val addr false
      (takeInj s 2 mem.val).2) mem.val addr hit) := by
  change execEccError mem true addr hit s = _
  simp [execEccError, hp, hc]

theorem exec_scrub_sound {s : State} (hup : cdUp s = true) (mem : Fin 16) (addr : Nat) :
    exec (.scrub mem addr none) s = .next s := by
  change whileCd s _ = _
  rw [whileCd_of_up hup]
  simp

/-- The scrubber rewrites a lost word of the system SRAM as zero (R527). -/
theorem exec_scrub_sram_fatal {s : State} (hup : cdUp s = true) (addr : Nat) :
    exec (.scrub 3 addr (some true)) s = .next (writeBytes (eccFatal (takeInj s 2 3).1 3 addr true (takeInj s 2 3).2)
      (addr / 8 * 8) (List.replicate 8 0)) := by
  change whileCd s _ = _
  rw [whileCd_of_up hup]
  rfl

/-! ### Replays and retrains -/

@[simp] theorem takeInj_of_none {s : State} (h : s.flt.inj = none) (kind id : Nat) : takeInj s kind id = (s, false) := by
  simp [takeInj, h]

/-- A first replay counts and is noted, and is no fault while fewer than 64 fall within the millisecond (R520). -/
theorem exec_linkReplay_noted {s : State} (hup : cdUp s = true) (hinj : s.flt.inj = none) (link : Fin 2)
    (hfew : ((replaysOf s link.val ++ [s.now]).filter (fun x => s.now - x ≤ 33)).length ≠ 64) :
    exec (.linkReplay link false) s = .next { s.bump (EVT_LINK_CNT_REPLAYS link.val) 1 with
      flt := { s.flt with row := tabPut s.flt.row link.val 1
                          replays := tabPut s.flt.replays link.val (replaysOf s link.val ++ [s.now]) } } := by
  have hreps : replaysOf (s.bump (EVT_LINK_CNT_REPLAYS link.val) 1) link.val = replaysOf s link.val := rfl
  change whileCd s _ = _
  rw [whileCd_of_up hup]
  simp only [takeInj_of_none hinj, hreps, Bool.false_eq_true, if_false, OfNat.one_ne_ofNat, hfew, or_self, bump_flt]

/-- A retrain on both lanes loses no lane, so its one fault is the retrain itself (R520). -/
theorem exec_linkRetrain_both {s : State} (hup : cdUp s = true) (link : Fin 2)
    (hl : s.rd (EVT_LINK_CNT_LANES link.val) ≤ 2) {u : State}
    (hu : u = (s.bump (EVT_LINK_CNT_RETRAINS link.val) 1).wr (EVT_LINK_CNT_LANES link.val) 2) :
    exec (.linkRetrain link false) s =
      .next (linkFault { u with flt := { u.flt with row := tabDel u.flt.row link.val } } link.val 3 false) := by
  subst hu
  change whileCd s _ = _
  rw [whileCd_of_up hup]
  simp only [Bool.false_eq_true, if_false, Nat.not_lt.2 hl]

/-! ### Lost links -/

@[simp] theorem linkFault_flt (s : State) (link cause : Nat) (inj : Bool) : (linkFault s link cause inj).flt = s.flt :=
  (linkFault_keeps s link cause inj).plain .flt (by decide) rfl

@[simp] theorem linkFault_sto (s : State) (link cause : Nat) (inj : Bool) : (linkFault s link cause inj).sto = s.sto :=
  (linkFault_keeps s link cause inj).plain .sto (by decide) rfl

theorem exec_linkLost_cdLd {s : State} (hup : cdUp s = true) (harm : s.pwr.armed = true)
    (hnew : s.flt.lost.contains 1 = false) : exec (.linkLost 1) s = .next (wantBypass (ldGone s 4) 7) := by
  change whileCd s _ = _
  rw [whileCd_of_up hup]
  simp only [harm, hnew, Bool.not_true, Bool.false_eq_true, if_false, Fin.val_one, one_ne_zero]

theorem exec_linkLost_cdPd {s : State} (hup : cdUp s = true) (harm : s.pwr.armed = true) :
    exec (.linkLost 0) s =
      .next (showDomains (controlLost (linkFault (s.wr (EVT_LINK_CNT_LANES 0) 0) 0 4 false) 1)) := by
  change whileCd s _ = _
  rw [whileCd_of_up hup]
  simp [harm]

/-- The chain is cut at a unit whose LINK buck has failed (R521). -/
theorem exec_linkPgoodLost {s : State} (hld : s.pwr.ldUp = true) (hcd : (s.pwr.cd == .off) = false) :
    exec .linkPgoodLost s = .next (showDomains (linkOff (if cdUp s then ldGone s 5 else linkGone s 1))) := by
  change execLinkPgoodLost s = _
  simp [execLinkPgoodLost, hld, hcd]

theorem linkOff_bypass (s : State) : (linkOff s).flag CHN_BYPASS_ACTIVE = false :=
  flag_put_same s CHN_BYPASS_ACTIVE false (by decide) (by decide)

theorem showDomains_flag (s : State) {f : Field} (hf : f.lsb < 64) (hc : clearOf [Reg.PWR_DOM_STATUS] f.off = true) :
    (showDomains s).flag f = s.flag f := by
  unfold State.flag
  rw [showDomains_rd s hf hc]

theorem exec_sidebandParityLoss {s : State} (hnew : s.flt.lost.contains 2 = false) :
    exec .sidebandParityLoss s = .next (linkFault (linkGone s 2) 2 4 false) := by
  change execSidebandParityLoss s = _
  simp only [execSidebandParityLoss, hnew, Bool.false_eq_true, if_false]

theorem linkGone_lost {s : State} {link : Nat} (hnew : s.flt.lost.contains link = false) :
    (linkGone s link).flt.lost = s.flt.lost ++ [link] := by
  simp only [linkGone, hnew, Bool.false_eq_true, if_false]

theorem exec_linkRecoveryRetry_sideband {s : State} (hl : s.flt.lost.contains 2 = true) :
    exec (.linkRecoveryRetry 2 true) s = .next { s.wr (EVT_LINK_CNT_LANES 2) 2 with
      flt := { s.flt with lost := s.flt.lost.filter (· != 2) } } := by
  change execLinkRecoveryRetry 2 true s = _
  simp [execLinkRecoveryRetry, hl, -List.contains_eq_mem]

/-! ### The loss of the store die -/

/-- With no FLUSH waiting, keys that leave the write-back buffer change the buffer alone. -/
theorem leaveBuffer_sto {s : State} (h : s.sto.flushes = []) (keys : List Nat) (drained : Bool) :
    (leaveBuffer s keys drained).sto =
      { s.sto with dirty := tabKeep (fun k => !keys.contains k) s.sto.dirty, flushes := [] } := by
  unfold leaveBuffer showDirty endFlushes
  simp only [h, List.map_nil, List.filter_nil, List.foldl_nil, wr_sto]
  split <;> rfl

theorem loseBuffered_sto {s : State} (h : s.sto.flushes = []) (keys : List Nat) (cause : Nat) :
    (loseBuffered s keys cause).sto =
      { s.sto with dirty := tabKeep (fun k => !keys.contains k) s.sto.dirty, flushes := [] } :=
  ((Keeps.foldl (fun _ _ => raise_keeps _ _ _ _ _) _ (Keeps.refl _)).plain .sto (by decide) rfl).trans
    (leaveBuffer_sto (s := s.bump STO_CNT_WB_LOST keys.length) h keys false)

/-- What the loss of the store die does before its descriptors complete: its fault is raised, and its jobs, its
flushes and its buffered blocks are gone (R456, R521). -/
def storeLost (s : State) : State :=
  let s1 := linkFault { s with sto := { s.sto with lost := true } } 3 5 false
  loseBuffered { s1 with sto := { s1.sto with flushes := [], jobs := [] } } (s1.sto.dirty.map (fun e => e.1)) 1

theorem storeLost_sto (s : State) : (storeLost s).sto = { s.sto with
    lost := true, jobs := [], flushes := [],
    dirty := tabKeep (fun k => !(s.sto.dirty.map (fun e => e.1)).contains k) s.sto.dirty } := by
  unfold storeLost
  rw [loseBuffered_sto rfl]
  simp only [linkFault_sto]

theorem exec_onfiLoss {s : State} (hup : cdUp s = true) (hnew : s.sto.lost = false) :
    exec .onfiLoss s = .next (((storeLost s).rng.work.filter (fun w => w.eng == STO)).foldl (fun t w =>
      complete t STO w.hdr w.opcode MEDIA_LOST (stoResult w.opcode 0 false none)) (storeLost s)) := by
  change whileCd s _ = _
  rw [whileCd_of_up hup, if_neg (by simp [hnew])]
  rfl

theorem foldl_complete_sto (s : State) (l : List Work) (status : Nat) (result : Work → List Byte) :
    (l.foldl (fun t w => complete t STO w.hdr w.opcode status (result w)) s).sto = s.sto :=
  (Keeps.foldl (fun _ _ => complete_keeps _ _ _ _ _ _) l (Keeps.refl s)).plain .sto (by decide) rfl

/-- Settles O41: each command's own equation; where the state is given by its frame, the frame is the command's law, and
what the state holds outlives the events that the command ends with. -/
theorem faultsAndInjection : Obligations.FaultsAndInjection := by
  unfold Obligations.FaultsAndInjection
  refine ⟨fun mem ue addr hit s hp hc => exec_eccError_corrected hp hc,
    fun mem addr hit s hp hc => exec_eccError_fatal hp hc,
    fun mem addr s hup => exec_scrub_sound hup mem addr,
    fun addr err s hup herr => herr ▸ exec_scrub_sram_fatal hup addr,
    fun link u s hup hinj hu hfew => hu ▸ exec_linkReplay_noted hup hinj link hfew,
    fun link u s hup hl hu => exec_linkRetrain_both hup link hl hu,
    fun s hup harm hnew => exec_linkLost_cdLd hup harm hnew,
    fun s hup harm => exec_linkLost_cdPd hup harm,
    fun s hld hcd => ?pgood, fun s hnew => ?sideband, fun s hup hnew => ?onfi, fun s hl => ?recovery⟩
  case pgood =>
    refine (execLinkPgoodLost_keeps s).runs (exec_linkPgoodLost hld hcd) (by decide) (by decide) (by decide) ?_
    refine ⟨?_, ?_, ?_, ?_, (showDomains_flag _ (by decide) (by decide)).trans (linkOff_bypass _)⟩ <;>
      simp [linkOff]
  case sideband =>
    refine (execSidebandParityLoss_keeps s).runs (exec_sidebandParityLoss hnew) (by decide) (by decide) (by decide) ?_
    rw [linkFault_flt, linkGone_lost hnew]
  case onfi =>
    refine (execOnfiLoss_keeps s).runs (exec_onfiLoss hup hnew) (by decide) (by decide) (by decide) ?_
    rw [foldl_complete_sto, storeLost_sto]
    exact ⟨rfl, rfl, rfl⟩
  case recovery =>
    refine (execLinkRecoveryRetry_keeps 2 true s).runs (exec_linkRecoveryRetry_sideband hl) (by decide) (by decide)
      (by decide) ⟨rfl, ?_⟩
    exact rd_wr_same s (EVT_LINK_CNT_LANES 2) 2 (by decide)

end Sys2Proof.Machine
end

section
/-! SUPPORT.
What a loss of the control die leaves, and how its restart begins (R21, R30, R52 to R55, R522, R523).
-/

namespace Sys2Proof.Machine

/-! ### The declaration of a loss -/

/-- The control die is lost with a cause: the watchdog has stopped (R55) and the interim table is asked for (R30). -/
def LostWith (cause : Nat) (s : State) : Prop :=
  s.pwr.cd = .lost ∧ s.spar.wdgOn = false ∧ s.spar.lossCause = cause ∧ s.act.interim = true

theorem Keeps.lostWith {w : List Span} {g : List Part} {s t : State} {cause : Nat} (k : Keeps w g s t)
    (hp : Part.pwr ∉ g) (hs : Part.spar ∉ g) (ha : Part.act ∉ g) (h : LostWith cause s) : LostWith cause t := by
  have hcd : t.pwr.cd = s.pwr.cd := congrArg (·.cd) (k.plain .pwr hp rfl)
  have hspar : t.spar = s.spar := k.plain .spar hs rfl
  have hact : t.act = s.act := k.plain .act ha rfl
  simpa only [LostWith, hcd, hspar, hact] using h

theorem interim_lostWith {s : State} {cause : Nat} (hcd : s.pwr.cd = .lost) (hw : s.spar.wdgOn = false)
    (hc : s.spar.lossCause = cause) : LostWith cause (interim s) := by
  have hpwr : (interim s).pwr.cd = s.pwr.cd := congrArg (·.cd) ((interim_keeps s).plain .pwr (by decide) rfl)
  have hspar : (interim s).spar = s.spar := (interim_keeps s).plain .spar (by decide) rfl
  exact ⟨hpwr.trans hcd, hspar ▸ hw, hspar ▸ hc, rfl⟩

/-- Counting a loss moves the loss record alone of what a declaration sets (R523). -/
theorem countCdLoss_lostWith {s : State} {cause : Nat} (h : LostWith cause s) : LostWith cause (countCdLoss s) := by
  unfold countCdLoss
  dsimp only
  split
  · simpa [LostWith] using h
  · exact h

/-- A loss that has been declared ends in the interim state, its partitions detached and itself counted or not. -/
theorem declared_lostWith {t : State} {cause : Nat} (hcd : t.pwr.cd = .lost) (hw : t.spar.wdgOn = false)
    (hc : t.spar.lossCause = cause) (uncounted : Bool) :
    LostWith cause (if uncounted then (List.range 8).foldl detachLost (interim (emit (showStreams t) .controlLost))
      else countCdLoss ((List.range 8).foldl detachLost (interim (emit (showStreams t) .controlLost)))) := by
  have hdetached : LostWith cause ((List.range 8).foldl detachLost (interim (emit (showStreams t) .controlLost))) :=
    (Keeps.foldl detachLost_keeps _ (Keeps.refl _)).lostWith (by decide) (by decide) (by decide)
      (interim_lostWith (by simpa using hcd) (by simpa using hw) (by simpa using hc))
  split
  · exact hdetached
  · exact countCdLoss_lostWith hdetached

/-- A running control die that is declared lost is lost with that cause (R21). -/
theorem controlLost_lostWith {s : State} (h : s.pwr.cd = .boot ∨ s.pwr.cd = .run) (cause : Nat) :
    LostWith cause (controlLost s cause) := by
  have hrun : ¬ (s.pwr.cd == .lost || s.pwr.cd == .off) = true := by
    rcases h with h | h <;> rw [h] <;> decide
  unfold controlLost
  rw [if_neg hrun]
  dsimp only
  refine declared_lostWith ?_ ?_ ?_ _ <;> rfl

theorem running_of_cdUp {s : State} (h : cdUp s = true) : s.pwr.cd = .boot ∨ s.pwr.cd = .run := by
  simp only [cdUp, Bool.and_eq_true, Bool.or_eq_true, beq_iff_eq] at h
  exact h.1

theorem showDomains_lostWith {s : State} {cause : Nat} (h : LostWith cause s) : LostWith cause (showDomains s) :=
  (showDomains_keeps s).lostWith (by decide) (by decide) (by decide) h

/-! ### The control watchdog -/

/-- An expiry of a running watchdog loses the control die with cause 3 (R52). -/
theorem wdgExpire_lostWith {s : State} (hup : cdUp s = true) (hon : s.spar.wdgOn = true) : LostWith 3 (wdgExpire s) := by
  unfold wdgExpire
  rw [if_pos (by simp [hon, hup])]
  exact showDomains_lostWith (controlLost_lostWith (by simpa using running_of_cdUp hup) 3)

theorem exec_controlWdgExpiry {s : State} (h : lasted s s.spar.wdgSince (1000 * s.spar.wdgPeriod) = true) :
    exec .controlWdgExpiry s = .next (wdgExpire s) := by
  change execControlWdgExpiry s = _
  rw [execControlWdgExpiry, if_pos h]

theorem feedsMissing_eq_zero {s : State} (hp : s.spar.wdgP0 = true) (hs : safFeed s = false) : feedsMissing s = 0 := by
  simp [feedsMissing, hp, hs]

/-- P0's half completes the feed when the safety island's is not required (R53, R56). -/
theorem giveFeed_complete {s : State} (ho : wdgOpen s = true) (hs : safFeed s = false) : giveFeed s .p0 = feedNow s := by
  unfold giveFeed
  rw [if_neg (by simp [ho])]
  dsimp only
  rw [if_pos]
  · rfl
  · exact feedsMissing_eq_zero (Bool.or_true _) hs

theorem exec_sprWdgFeed_right {s : State} {v : Word} (hup : cdUp s = true) (hon : s.spar.wdgOn = true)
    (hv : v.toNat = 0xA55A) (ho : wdgOpen s = true) (hs : safFeed s = false) :
    exec (.sprWdgFeed .p0 v) s = .next (feedNow s) := by
  change whileCd s _ = _
  rw [whileCd_of_up hup, if_neg (by simp [hon])]
  dsimp only
  rw [if_pos hv, giveFeed_complete ho hs]

theorem exec_sprWdgFeed_wrong {s : State} {v : Word} (hup : cdUp s = true) (hon : s.spar.wdgOn = true)
    (hv : v.toNat ≠ 0xA55A) : exec (.sprWdgFeed .p0 v) s = .next (wdgExpire s) := by
  change whileCd s _ = _
  rw [whileCd_of_up hup, if_neg (by simp [hon])]
  dsimp only
  rw [if_neg hv]

theorem exec_wdgWarn {s : State} (hup : cdUp s = true) (hon : s.spar.wdgOn = true) (hw : s.spar.wdgWarned = false)
    (hl : lasted s s.spar.wdgSince (750 * s.spar.wdgPeriod) = true) :
    exec .wdgWarn s = .next (raise { s with spar := { s.spar with wdgWarned := true } } 3 true (p0Safety s)
      (leBytes 2 (s.spar.wdgPeriod * 3 / 4) ++ [byte (feedsMissing s)])) := by
  change whileCd s _ = _
  rw [whileCd_of_up hup, if_pos (by simp [hon, hw, hl])]

/-! ### The other declarations -/

theorem exec_cdLinkSilence {s : State} (harm : s.pwr.armed = true) (hcd : s.pwr.cd = .run) :
    exec .cdLinkSilence s = .next (showDomains (controlLost s 1)) := by
  change execCdLinkSilence s = _
  rw [execCdLinkSilence, if_pos (by simp [harm, hcd])]

theorem exec_corePgoodLost {s : State} (harm : s.pwr.armed = true) (hup : cdUp s = true) :
    exec .corePgoodLost s = .next (showDomains (controlLost s 2)) := by
  change execCorePgoodLost s = _
  rw [execCorePgoodLost, if_pos (by simp [harm, hup])]

/-! ### The bypass and the limp table -/

theorem mem_causes_wantBypass (s : State) (cause : Nat) : cause ∈ (wantBypass s cause).chain.causes := by
  unfold wantBypass
  split
  next h => simpa using h
  next => simp

theorem exec_ldControlLost {s : State} (hld : s.pwr.ldUp = true) (hcd : s.pwr.cd = .lost) :
    exec .ldControlLost s = .next (wantBypass s 1) := by
  change execLdControlLost s = _
  rw [execLdControlLost, if_pos (by simp [hld, hcd])]

/-- A cause that has arisen engages the bypass between ports of one rate (R124). -/
theorem exec_bypassEngage {s : State} {cause : Nat} (lost : Nat) (hld : s.pwr.ldUp = true)
    (hc : s.chain.causes.contains cause = true) (hcut : s.chain.cut = false) (hb : bypassed s = false)
    (hrate : s.rd CHN_PORT_CFG_RATE0 = s.rd CHN_PORT_CFG_RATE1) (h7 : cause ≠ 7) :
    exec (.bypassEngage cause lost) s = .next (dropChain (((s.put CHN_BYPASS_ACTIVE true).wr CHN_BYPASS_CAUSE
      cause).bump CHN_BYPASS_BYP_LOST lost)) := by
  change Host.Outcome.next (engage s cause lost) = _
  simp only [engage, hld, hc, hcut, hb, hrate, h7, Bool.not_true, Bool.or_self, Bool.false_eq_true, if_false, ne_eq,
    not_true_eq_false]

theorem exec_limpTableApply {s : State} (h : s.act.interim = true) : exec .limpTableApply s = .next (limpApply s) := by
  change execLimpTableApply s = _
  rw [execLimpTableApply, if_pos (by simp [h])]

/-! ### The restart -/

@[simp] theorem deviceReset_mem (s : State) : (deviceReset s).mem = [] := by
  unfold deviceReset
  dsimp only
  rw [showNs_mem, showStreams_mem, showHeld_mem]

@[simp] theorem deviceReset_par (s : State) : (deviceReset s).par = {} := by
  unfold deviceReset
  dsimp only
  rw [showNs_par, showStreams_par, showHeld_par]

/-- The state in which a lost control die that nothing holds back waits for attempt 1 of its restart (R522). -/
def restarting (s : State) : State :=
  let s1 := deviceReset (s.orF SPR_RST_CAUSE_CAUSE 64)
  let s2 := { s1 with spar := { s1.spar with commanded := false }, pwr := { s1.pwr with cd := .off } }
  startSeq s2 .restart (s2.rd WAK_REASON_CODE) (s2.rd WAK_REASON_INDEX)

theorem restarting_mem (s : State) : (restarting s).mem = [] := by
  unfold restarting startSeq
  dsimp only
  rw [deviceReset_mem]

theorem restarting_par (s : State) : (restarting s).par = {} := by
  unfold restarting startSeq
  dsimp only
  rw [deviceReset_par]

theorem exec_cdRestart {s : State} (hcd : s.pwr.cd = .lost) (hh : s.flag EVT_CDLOSS_HALTED = false)
    (hl : s.flag WAK_FAIL_LOCKOUT = false) (hf : s.sto.failing = false) (hi : s.sto.inputLow = false)
    (hq : s.pwr.seq = none) (hc : s.spar.commanded = false) :
    exec .cdRestart s = .next (showDomains (restarting s)) := by
  change execCdRestart s = _
  rw [execCdRestart, if_neg (by simp [hcd, hh, hl, hf, hi, hq]), hc]
  rfl

/-- Settles O2: each loss is `controlLost` with its cause, framed by its command's law; a restart is a device reset and
a wake sequence that has not begun. -/
theorem controlLosses : Obligations.ControlLosses := by
  unfold Obligations.ControlLosses
  refine ⟨fun s hon hup hl => ?expiry, fun v s hup hon hv ho hs => exec_sprWdgFeed_right hup hon hv ho hs,
    fun v s hup hon hv => ?wrongFeed, fun s hup hon hw hl => exec_wdgWarn hup hon hw hl,
    fun s harm hcd => ?silence, fun s harm hup => ?pgood, fun s hld hcd => ?linkDie,
    fun cause lost s hld hc hcut hb hrate h7 => exec_bypassEngage lost hld hc hcut hb hrate h7,
    fun s h => exec_limpTableApply h, fun s hcd hh hl hf hi hq hc => ?restart⟩
  case expiry =>
    exact (execControlWdgExpiry_keeps s).runs (exec_controlWdgExpiry hl) (by decide) (by decide) (by decide)
      (wdgExpire_lostWith hup hon)
  case wrongFeed =>
    obtain ⟨hcd, -, hcause, -⟩ := wdgExpire_lostWith hup hon
    exact (execSprWdgFeed_keeps .p0 v s).runs (exec_sprWdgFeed_wrong hup hon hv) (by decide) (by decide) (by decide)
      ⟨hcd, hcause⟩
  case silence =>
    obtain ⟨hlost, -, hcause, hint⟩ := showDomains_lostWith (controlLost_lostWith (.inr hcd) 1)
    exact (execCdLinkSilence_keeps s).runs (exec_cdLinkSilence harm hcd) (by decide) (by decide) (by decide)
      ⟨hlost, hcause, hint⟩
  case pgood =>
    obtain ⟨hlost, -, hcause, hint⟩ := showDomains_lostWith (controlLost_lostWith (running_of_cdUp hup) 2)
    exact (execCorePgoodLost_keeps s).runs (exec_corePgoodLost harm hup) (by decide) (by decide) (by decide)
      ⟨hlost, hcause, hint⟩
  case linkDie =>
    exact (execLdControlLost_keeps s).runs (exec_ldControlLost hld hcd) (by decide) (by decide) (by decide)
      (mem_causes_wantBypass s 1)
  case restart =>
    refine ⟨_, exec_cdRestart hcd hh hl hf hi hq hc, ?_⟩
    rw [showDomains_pwr, showDomains_mem, showDomains_par]
    exact ⟨rfl, restarting_mem s, restarting_par s, _, rfl, rfl, rfl, rfl⟩

end Sys2Proof.Machine
end

section
/-! SUPPORT.
What the layout, the seal point, partition resets and the ends of orphan states leave (R147, R150, R152, R153, R156,
R157).
-/

namespace Sys2Proof.Machine

/-! ### Reading through a field -/

/-- A partition's state stands when another register is set. -/
theorem partState_wr_off (s : State) (p v : Nat) {f : Field} (hf : f.lsb < 64) (hn : f.off ≠ 0x50020) :
    partState (s.wr f v) p = partState s p :=
  rd_wr_off s v (in_PAR_STATE_STATE p).2 hf (Ne.symm hn)

theorem Keeps.partState {w : List Span} {g : List Part} {s t : State} (k : Keeps w g s t) (he : Reg.every ∉ w)
    (hc : clearOf w 0x50020 = true) (p : Nat) : partState t p = partState s p :=
  k.rd he (PAR_STATE_STATE p) (in_PAR_STATE_STATE p).2 (of_clearOf hc)

theorem partState_wr_same (s : State) (p v : Nat) : partState (s.wr (PAR_STATE_STATE p) v) p = v % 16 :=
  rd_wr_same s (PAR_STATE_STATE p) v (by decide : 4 ≤ 64)

theorem partState_set_par (s : State) (x : ParState) (p : Nat) : partState { s with par := x } p = partState s p :=
  rfl

/-- An image is read from memory, whatever the registers hold. -/
@[simp] theorem readImage_put (s : State) (f : Field) (b : Bool) (a n : Nat) :
    readImage (s.put f b) a n = readImage s a n := by
  induction n generalizing a with
  | zero => rfl
  | succ n ih => simp only [readImage, ih]; rfl

@[simp] theorem layoutBytes_put (s : State) (f : Field) (b : Bool) (a : Nat) :
    layoutBytes (s.put f b) a = layoutBytes s a := by
  simp only [layoutBytes, readImage_put]

/-! ### The layout image -/

/-- RESULT and OFFSET as a LAYOUT_APPLY leaves them (Table 6.6). -/
def reportLayout (s : State) (r o : Nat) : State := (s.wr PAR_LAYOUT_STATUS_RESULT r).wr PAR_LAYOUT_STATUS_OFFSET o

theorem reportLayout_result (s : State) (r o : Nat) : (reportLayout s r o).rd PAR_LAYOUT_STATUS_RESULT = r % 16 :=
  (rd_wr_key _ o (by decide)).trans (rd_wr_same s PAR_LAYOUT_STATUS_RESULT r (by decide))

theorem reportLayout_offset (s : State) (r o : Nat) : (reportLayout s r o).rd PAR_LAYOUT_STATUS_OFFSET = o % 2 ^ 24 :=
  rd_wr_same _ PAR_LAYOUT_STATUS_OFFSET o (by decide)

@[simp] theorem reportLayout_par (s : State) (r o : Nat) : (reportLayout s r o).par = s.par := rfl

theorem exec_layoutApply {s : State} (hup : cdUp s = true) (hb : s.flag PAR_LAYOUT_CTL_APPLY = false) :
    exec (.layoutApply .p0) s =
      .next (applyLayout (s.put PAR_LAYOUT_CTL_APPLY true) (s.rd PAR_LAYOUT_ADDR_ADDR)) := by
  change whileCd s _ = _
  rw [whileCd_of_up hup, if_neg (by simp [hb])]

/-- The write of APPLY itself moves nothing that the checks of Table 6.6 read. -/
theorem isSealed_put_apply (s : State) : isSealed (s.put PAR_LAYOUT_CTL_APPLY true) = isSealed s := by
  rw [isSealed, State.flag, rd_put_key s true (by decide)]
  rfl

theorem partState_put_apply (s : State) (p : Nat) : partState (s.put PAR_LAYOUT_CTL_APPLY true) p = partState s p :=
  partState_wr_off s p _ (by decide) (by decide)

theorem anyBusy_put_apply (s : State) :
    (List.range 7).any (fun k => 2 ≤ partState (s.put PAR_LAYOUT_CTL_APPLY true) (k + 1)) =
      (List.range 7).any (fun k => 2 ≤ partState s (k + 1)) := by
  simp only [partState_put_apply]

theorem layoutFault_put_apply (s : State) (a : Nat) :
    layoutFault ((s.put PAR_LAYOUT_CTL_APPLY true).rd CHN_ZCFG_ZVID) (layoutBytes (s.put PAR_LAYOUT_CTL_APPLY true) a) =
      layoutFault (s.rd CHN_ZCFG_ZVID) (layoutBytes s a) := by
  rw [layoutBytes_put, rd_put_key s true (by decide)]

theorem applyLayout_sealed {s : State} (hs : isSealed s = true) (a : Nat) :
    applyLayout s a = reportLayout (violate s) 10 0 := by
  rw [applyLayout, if_pos hs]
  rfl

/-- An unsealed unit with no partition to disturb reports the first fault of the image (R147). -/
theorem applyLayout_faulty {s : State} {a r o : Nat} (hs : isSealed s = false)
    (hp : (List.range 7).any (fun k => 2 ≤ partState s (k + 1)) = false)
    (hf : layoutFault (s.rd CHN_ZCFG_ZVID) (layoutBytes s a) = some (r, o)) : applyLayout s a = reportLayout s r o := by
  simp only [applyLayout, hs, hp, hf, Bool.false_eq_true, if_false]
  rfl

/-- An image without fault is taken (R147). -/
theorem applyLayout_sound {s : State} {a : Nat} (hs : isSealed s = false)
    (hp : (List.range 7).any (fun k => 2 ≤ partState s (k + 1)) = false)
    (hf : layoutFault (s.rd CHN_ZCFG_ZVID) (layoutBytes s a) = none) :
    applyLayout s a = reportLayout (takeLayout s (layoutBytes s a)) 1 0 := by
  simp only [applyLayout, hs, hp, hf, Bool.false_eq_true, if_false]
  rfl

theorem exec_layoutApply_sealed {s : State} (hup : cdUp s = true) (hb : s.flag PAR_LAYOUT_CTL_APPLY = false)
    (hs : s.flag PAR_SEAL_STATUS_SEALED = true) :
    exec (.layoutApply .p0) s = .next (reportLayout (violate (s.put PAR_LAYOUT_CTL_APPLY true)) 10 0) := by
  rw [exec_layoutApply hup hb, applyLayout_sealed ((isSealed_put_apply s).trans hs)]

theorem exec_layoutApply_faulty {s : State} {r o : Nat} (hup : cdUp s = true) (hb : s.flag PAR_LAYOUT_CTL_APPLY = false)
    (hs : s.flag PAR_SEAL_STATUS_SEALED = false) (hp : (List.range 7).any (fun k => 2 ≤ partState s (k + 1)) = false)
    (hf : layoutFault (s.rd CHN_ZCFG_ZVID) (layoutBytes s (s.rd PAR_LAYOUT_ADDR_ADDR)) = some (r, o)) :
    exec (.layoutApply .p0) s = .next (reportLayout (s.put PAR_LAYOUT_CTL_APPLY true) r o) := by
  rw [exec_layoutApply hup hb, applyLayout_faulty ((isSealed_put_apply s).trans hs)
    ((anyBusy_put_apply s).trans hp) ((layoutFault_put_apply s _).trans hf)]

theorem exec_layoutApply_sound {s : State} (hup : cdUp s = true) (hb : s.flag PAR_LAYOUT_CTL_APPLY = false)
    (hs : s.flag PAR_SEAL_STATUS_SEALED = false) (hp : (List.range 7).any (fun k => 2 ≤ partState s (k + 1)) = false)
    (hf : layoutFault (s.rd CHN_ZCFG_ZVID) (layoutBytes s (s.rd PAR_LAYOUT_ADDR_ADDR)) = none) :
    exec (.layoutApply .p0) s = .next (reportLayout (takeLayout (s.put PAR_LAYOUT_CTL_APPLY true)
      (layoutBytes s (s.rd PAR_LAYOUT_ADDR_ADDR))) 1 0) := by
  rw [exec_layoutApply hup hb, applyLayout_sound ((isSealed_put_apply s).trans hs)
    ((anyBusy_put_apply s).trans hp) ((layoutFault_put_apply s _).trans hf), layoutBytes_put]

theorem foldl_wr_partState_par (s : State) (v : Nat → Nat) (l : List Nat) :
    (l.foldl (fun t k => t.wr (PAR_STATE_STATE (k + 1)) (v k)) s).par = s.par := by
  induction l generalizing s with
  | nil => rfl
  | cons k l ih => rw [List.foldl_cons, ih, wr_par]

/-- An image that is taken gives the entries and the owners (R147). -/
theorem takeLayout_par (s : State) (b : List Byte) : (takeLayout s b).par = { s.par with
    applied := true, entries := (entryOffs b).map (entryAtOff b), owners := (ownOffs b).map (ownAtOff b) } := by
  unfold takeLayout
  dsimp only
  rw [foldl_wr_partState_par]

/-! ### The seal point -/

theorem exec_parSeal {s : State} {v : Word} (hup : cdUp s = true) (hv : v.toNat = 0x5EA1)
    (hs : s.flag PAR_SEAL_STATUS_SEALED = false) : exec (.parSeal .p0 v) s = .next (sealUnit s) := by
  have hseal : isSealed s = false := hs
  change whileCd s _ = _
  rw [whileCd_of_up hup, if_neg (by decide), if_neg (by simp [hv, hseal])]

/-- What the seal point does to streams and bindings keeps PAR_SEAL_STATUS. -/
theorem sealBindings_sealStreams_rd (s : State) {f : Field} (hf : f.lsb < 64)
    (hc : clearOf [Reg.PAR_EVT_CNT, Reg.SIN_SCHED, Reg.SIN_STREAMS, Reg.SW_CNT_VAL, Reg.SW_MSEC_STAT, Reg.BRD_STATUS,
      Reg.TLY_CNT0] f.off = true) : (sealBindings (sealStreams s)).rd f = s.rd f :=
  (((sealStreams_keeps s).mono (g' := [.records, .owed, .rings, .evt, .queue, .proxies, .loss, .sns, .wire, .out])
    (of_regsWithin (by decide)) (of_within (by decide))).trans ((sealBindings_keeps _).mono (of_regsWithin (by decide))
      (of_within (by decide)))).rd (by decide) f hf (of_clearOf hc)

/-- The seal point before its limp commit is due: the unit sealed, its streams and its bindings checked (R150). -/
def sealPoint (s : State) : State :=
  sealBindings (sealStreams ((s.wr PAR_SEAL_STATUS_SEAL_FAIL 0).put PAR_SEAL_STATUS_SEALED true))

theorem sealUnit_sealed {s : State} (h : sealFail s = 0) :
    sealUnit s = { sealPoint s with act := { (sealPoint s).act with commitDue := true } } := by
  unfold sealUnit sealPoint
  simp only [h, if_true]

theorem sealPoint_sealed (s : State) : (sealPoint s).flag PAR_SEAL_STATUS_SEALED = true := by
  rw [sealPoint, State.flag, sealBindings_sealStreams_rd _ (by decide) (by decide)]
  exact flag_put_same _ PAR_SEAL_STATUS_SEALED true (by decide) (by decide)

theorem sealPoint_sealFail (s : State) : (sealPoint s).rd PAR_SEAL_STATUS_SEAL_FAIL = 0 := by
  rw [sealPoint, sealBindings_sealStreams_rd _ (by decide) (by decide), rd_put_key _ true (by decide)]
  exact rd_wr_same s PAR_SEAL_STATUS_SEAL_FAIL 0 (by decide)

/-- The limp commit that falls due is no register's (R207). -/
theorem rd_sealUnit {s : State} (h : sealFail s = 0) (f : Field) : (sealUnit s).rd f = (sealPoint s).rd f := by
  rw [sealUnit_sealed h, State.rd, State.rd]

theorem sealUnit_failed {s : State} (h : sealFail s ≠ 0) : sealUnit s = s.wr PAR_SEAL_STATUS_SEAL_FAIL (sealFail s) := by
  rw [sealUnit, if_neg h]

theorem sealFail_le (s : State) : sealFail s ≤ 4 := by
  unfold sealFail
  split_ifs <;> decide

/-! ### Partition resets -/

theorem exec_parRst_p0 {s : State} {v : Word} (hup : cdUp s = true) (hk : fieldIn PAR_RST_KEY v = 0x7E57) :
    exec (.parRst .p0 v) s = .next (beginReset s (fieldIn PAR_RST_PART v) 1) := by
  change whileCd s _ = _
  rw [whileCd_of_up hup]
  simp only [hk, if_true]

theorem exec_parRst_safety {s : State} {v : Word} (hup : cdUp s = true) (hc : s.flag PAR_RST_CFG_SAF_RESET = true)
    (hk : fieldIn PAR_RST_KEY v = 0x7E57) :
    exec (.parRst .safety v) s = .next (beginReset s (fieldIn PAR_RST_PART v) 2) := by
  change whileCd s _ = _
  rw [whileCd_of_up hup]
  simp only [hk, hc, Bool.not_true, Bool.false_eq_true, if_false, if_true]

theorem exec_selfReset {s : State} {w : Writer} {part : Fin 8} {v : Word} (hup : cdUp s = true)
    (hpage : pageOf s w part.val = true) (hv : v.toNat = 0x5E1F) :
    exec (.selfReset w part v) s = .next (beginReset s part.val 3) := by
  change whileCd s _ = _
  rw [whileCd_of_up hup, if_neg (by simp [hpage]), if_pos hv]

/-- A trigger that counts, up to the partition's entry among the running resets: its work has ended, it is RESETTING, and
its key slots are clear (R152, R153). -/
def resetCleared (s : State) (p : Nat) : State :=
  let s1 := if attached s p then detach s p 7 else dropPart (orphanPart s p) p
  clearSlots (s1.wr (PAR_STATE_STATE p) 4) (fun k => tabGet 8 s1.sec.writers k == p)

theorem partState_resetCleared (s : State) (p : Nat) : partState (resetCleared s p) p = 4 :=
  ((clearSlots_keeps _ _).partState (by decide) (by decide) p).trans (partState_wr_same _ p 4)

theorem beginReset_regs {s : State} {p : Nat} (h : ¬ (p = 0 ∨ partState s p = 0 ∨ partState s p = 4)) (trigger : Nat) :
    (beginReset s p trigger).regs = (resetCleared s p).regs := by
  unfold beginReset
  dsimp only
  rw [if_neg h]
  dsimp only
  split <;> rfl

/-- A trigger that counts leaves its partition RESETTING since now (R152). -/
theorem beginReset_resetting {s : State} {p : Nat} (h : ¬ (p = 0 ∨ partState s p = 0 ∨ partState s p = 4))
    (trigger : Nat) : partState (beginReset s p trigger) p = 4 ∧
      tabFind (beginReset s p trigger).par.resetting p = some ⟨trigger, s.now⟩ := by
  refine ⟨?_, ?_⟩
  · rw [partState, State.rd, beginReset_regs h trigger]
    exact partState_resetCleared s p
  · unfold beginReset
    dsimp only
    rw [if_neg h, tabFind_put, if_pos rfl]

/-- A running reset ends with its partition STOPPED and its rings disarmed, reported by trigger and length (R153). -/
theorem exec_partResetDone {s : State} {part : Fin 8} {r : Resetting} (hup : cdUp s = true)
    (hr : tabFind s.par.resetting part.val = some r) {u : State}
    (hu : u = (disarmPart s part.val).wr (PAR_STATE_STATE part.val) 1) :
    exec (.partResetDone part) s =
      .next (raise { u with par := { u.par with resetting := tabDel u.par.resetting part.val } } 89 true [0, part.val]
        ([byte part.val, byte r.trigger] ++ leBytes 2 (min 65535 ((s.now - r.since) * 100000 / 32768)))) := by
  subst hu
  change whileCd s _ = _
  rw [whileCd_of_up hup]
  simp only [hr]

/-! ### The ends of orphan states -/

theorem exec_orphanTimeout {s : State} {c : Chan} {e : PartEntry} (ho : (chn s (master s c)).orphan = 2)
    (he : (ownerOf s (master s c).kind (master s c).idx).bind (entryOf s) = some e) (hn : e.orphanT ≠ 0)
    (hl : lasted s (chn s (master s c)).orphanAt (1000000 * e.orphanT) = true) :
    exec (.orphanTimeout c) s = .next (orphanNow s (master s c) 0) := by
  change execOrphanTimeout c s = _
  simp only [execOrphanTimeout, he, ho, hn, hl, ne_eq, not_false_eq_true, and_self, if_true]

/-- A brake that has lasted ends with its bridge off, where no limp table is applied (R30, R156). -/
theorem exec_orphanBrakeEnd {s : State} {c m : Chan} (hm : m = master s c) (hb : (chn s m).braking = true)
    (ht : 20000 ≤ usNow s - (chn s m).runAt) (hw : (chn s m).limpDrive ≠ .waiting)
    (hlimp : limpActive (bridgeOff (setChn s m { chn s m with braking := false }) m) = false) :
    exec (.orphanBrakeEnd c) s = .next (bridgeOff (setChn s m { chn s m with braking := false }) m) := by
  subst hm
  change execOrphanBrakeEnd c s = _
  unfold execOrphanBrakeEnd
  dsimp only
  rw [if_pos ⟨hb, ht⟩, if_neg (by simp [hw])]
  split
  · rw [if_neg (by simp [hlimp])]
  · rfl

/-- Settles O12: each command's own equation, and what its next state holds read through the operations it ends with. -/
theorem layoutAndSeal : Obligations.LayoutAndSeal := by
  unfold Obligations.LayoutAndSeal
  refine ⟨fun s hup hb hs hp hf => ?taken, fun r o s hup hb hs hp hf => ?faulty, fun s hup hb hs => ?sealedLayout,
    fun v s hup hv hs hf => ?sealed, fun v s hup hv hs hf => ?unsealed, fun v s hup hk => exec_parRst_p0 hup hk,
    fun v s hup hc hk => exec_parRst_safety hup hc hk, fun w part v s hup hpage hv h0 h2 => ?selfReset,
    fun part r s hup hr => ?resetDone, fun c e s ho he hn hl => exec_orphanTimeout ho he hn hl,
    fun c m u s hm hb ht hw hu hlimp => ?brakeEnd⟩
  case taken =>
    refine (execLayoutApply_keeps .p0 s).runs (exec_layoutApply_sound hup hb hs hp hf) (by decide) (by decide)
      (by decide) ⟨reportLayout_result _ _ _, reportLayout_offset _ _ _, ?_⟩
    simp only [reportLayout_par, takeLayout_par, and_self]
  case faulty =>
    exact (execLayoutApply_keeps .p0 s).runs (exec_layoutApply_faulty hup hb hs hp hf) (by decide) (by decide)
      (by decide) ⟨reportLayout_result _ _ _, reportLayout_offset _ _ _, rfl⟩
  case sealedLayout =>
    exact (execLayoutApply_keeps .p0 s).runs (exec_layoutApply_sealed hup hb hs) (by decide) (by decide) (by decide)
      ⟨reportLayout_result _ _ _, rfl⟩
  case sealed =>
    refine (execParSeal_keeps .p0 v s).runs (exec_parSeal hup hv hs) (by decide) (by decide) (by decide) ?_
    rw [State.flag, rd_sealUnit hf, rd_sealUnit hf]
    exact ⟨sealPoint_sealed s, sealPoint_sealFail s, by rw [sealUnit_sealed hf]⟩
  case unsealed =>
    refine (execParSeal_keeps .p0 v s).runs (exec_parSeal hup hv hs) (by decide) (by decide) (by decide) ?_
    rw [sealUnit_failed hf]
    have hfits : sealFail s % 2 ^ PAR_SEAL_STATUS_SEAL_FAIL.width = sealFail s :=
      Nat.mod_eq_of_lt ((sealFail_le s).trans_lt (by decide))
    refine ⟨?_, (rd_wr_same s PAR_SEAL_STATUS_SEAL_FAIL _ (by decide)).trans hfits, rfl⟩
    rwa [State.flag, rd_wr_key s _ (by decide)]
  case selfReset =>
    exact ((execSelfReset_keeps w part v s).mono (by decide) (by decide)).runs (exec_selfReset hup hpage hv) (by decide)
      (by decide) (by decide) (beginReset_resetting (by simp [h0, h2]) 3)
  case resetDone =>
    refine ((execPartResetDone_keeps part s).mono (by decide) (by decide)).runs (exec_partResetDone hup hr rfl)
      (by decide) (by decide) (by decide) ⟨?_, ?_⟩
    · rw [(raise_keeps _ _ _ _ _).partState (by decide) (by decide), partState_set_par, partState_wr_same]
    · rw [raise_par, tabFind_del, if_pos rfl]
  case brakeEnd =>
    subst hu
    exact exec_orphanBrakeEnd hm hb ht hw hlimp

end Sys2Proof.Machine
end

section
/-! SUPPORT.
How a core reads the RTC, a pair of words of which a read of the low one latches the high one (R66, R569).
-/

namespace Sys2Proof.Machine

/-- The description of SPR_RTC (Table 28.4). -/
def rtcDesc : RegDesc := ⟨"SPR_RTC", 0x10, [], 4, [⟨0, 48, .rw, 0, .spar, 0, 281474976710655, []⟩]⟩

theorem regHit_rtc_low : regHit 0x10 = some (rtcDesc, 0x10, false) := rfl

theorem regHit_rtc_high : regHit 0x14 = some (rtcDesc, 0x10, true) := rfl

theorem readWord_rtc_low (s : State) : readWord s rtcDesc 0x10 false = s.rd SPR_RTC_RTC % 2 ^ 32 := by
  simp [readWord, rtcDesc, fieldOf, SPR_RTC_RTC]

theorem readWord_rtc_high (s : State) : readWord s rtcDesc 0x10 true = s.rd SPR_RTC_RTC / 2 ^ 32 % 2 ^ 32 := by
  simp [readWord, rtcDesc, fieldOf, SPR_RTC_RTC]

/-- Of every register but a bridge's position and ripple frequency a read shows the word itself. -/
theorem shownWord_plain {off : Nat} (hpos : ∀ n ∈ List.range 8, (HB_POS_POS n).off ≠ off)
    (hrip : ∀ n ∈ List.range 8, (HB_RIPF_RIPFREQ n).off ≠ off) (s : State) (r : RegDesc) (base : Nat) (hi : Bool) :
    shownWord s r base off hi = readWord s r base hi := by
  unfold shownWord
  rw [if_neg, if_neg]
  · simpa using fun n hn he => absurd he (hrip n (by simpa using hn))
  · simpa using fun n hn he => absurd he (hpos n (by simpa using hn))

/-- A read of the RTC clears nothing (R7). -/
theorem afterRead_rtc (s : State) (hi : Bool) : afterRead s rtcDesc 0x10 hi = s := by
  simp [afterRead, clearRead, rtcDesc, SW_BUF_STATUS_MIN_FREE, SW_CNT_VAL_VALUE]

/-- The spar domain's registers follow no others. -/
theorem refreshed_spar (s : State) {off : Nat} (h : off < 0x10000) : refreshed s off = s := by
  rw [refreshed, if_neg (by omega), if_neg (by omega), if_neg (by omega), if_neg (by omega)]

/-- A read of the low word answers it, and latches the high one (R569). -/
theorem cfgRead_rtc_low (s : State) (w : Writer) : cfgRead s w 0x10 4 =
    ({ s with latches := tabPut s.latches 0x14 (BitVec.ofNat 32 (s.rd SPR_RTC_RTC / 2 ^ 32)) },
      s.rd SPR_RTC_RTC % 2 ^ 32) := by
  have hlatch : BitVec.ofNat 32 (readWord s rtcDesc 0x10 true) = BitVec.ofNat 32 (s.rd SPR_RTC_RTC / 2 ^ 32) := by
    rw [readWord_rtc_high]
    exact BitVec.eq_of_toNat_eq (by simp)
  have hpair : ¬ (rtcDesc.hi = 0 ∨ false = true) := by decide
  rw [cfgRead, if_neg (by simp [hidden]), regHit_rtc_low]
  dsimp only
  rw [refreshed_spar s (by decide), if_neg hpair, if_neg Bool.false_ne_true]
  dsimp only
  rw [afterRead_rtc, shownWord_plain (by decide) (by decide), readWord_rtc_low, hlatch]
  rfl

/-- A latched high word is answered, and is gone (log entry 18). -/
theorem cfgRead_rtc_high_latched {s : State} {x : BitVec 32} (h : tabFind s.latches 0x14 = some x) (w : Writer) :
    cfgRead s w 0x14 4 = ({ s with latches := tabDel s.latches 0x14 }, x.toNat) := by
  rw [cfgRead, if_neg (by simp [hidden]), regHit_rtc_high]
  dsimp only
  rw [refreshed_spar s (by decide), if_pos rfl, h]
  dsimp only
  rw [afterRead_rtc]

theorem cfgRead_rtc_high_fresh {s : State} (h : tabFind s.latches 0x14 = none) (w : Writer) :
    cfgRead s w 0x14 4 = (s, s.rd SPR_RTC_RTC / 2 ^ 32 % 2 ^ 32) := by
  rw [cfgRead, if_neg (by simp [hidden]), regHit_rtc_high]
  dsimp only
  rw [refreshed_spar s (by decide), if_pos (rfl : true = true), h]
  dsimp only
  rw [if_pos (.inr rfl), afterRead_rtc, shownWord_plain (by decide) (by decide), readWord_rtc_high]

/-- A core's read of the configuration space answers what the register shows (R569). -/
theorem coreRead_cfg (s : State) (w : Writer) {off : Nat} (len : Nat) (h : off < 0x1000000) :
    coreRead s w (0x40000000 + off) len = emit (cfgRead s w off len).1 (.regRead off (cfgRead s w off len).2) := by
  rw [coreRead, if_pos (by omega), Nat.add_sub_cancel_left]

/-- Settles O54: the frame of a read of the low word is its one latched word. -/
theorem latchedPairs : Obligations.LatchedPairs := by
  unfold Obligations.LatchedPairs
  refine ⟨fun w s hup => ?low, fun w x s hup hx => ?latched, fun w s hup hn => ?fresh⟩
  case low =>
    refine ⟨_, exec_rcRegisterRead hup w _ 4, ?_⟩
    rw [coreRead_cfg s w (off := 0x10) 4 (by decide), cfgRead_rtc_low]
    refine ⟨?_, rfl, ?_⟩
    · exact (((Keeps.refl s).set_latches (by decide)).set_out (by decide)).frame (by decide) (by decide) (by decide)
    · exact (tabFind_put _ _ _ _).trans (if_pos rfl)
  case latched =>
    rw [exec_rcRegisterRead hup, coreRead_cfg s w (off := 0x14) 4 (by decide), cfgRead_rtc_high_latched hx]
    rfl
  case fresh =>
    rw [exec_rcRegisterRead hup, coreRead_cfg s w (off := 0x14) 4 (by decide), cfgRead_rtc_high_fresh hn]
    rfl

end Sys2Proof.Machine
end

section
/-! SUPPORT.
What the resets clear and what they keep (R48, R49, R51, R52, R65, R86, R97).
-/

namespace Sys2Proof.Machine

/-! ### Reading through a frame -/

/-- What a field outside the registers of a frame held. -/
theorem Keeps.rdOf {w : List Span} {g : List Part} {s t : State} (k : Keeps w g s t) (he : Reg.every ∉ w) {f : Field}
    (hf : f.lsb < 64) (hc : clearOf w f.off = true) : t.rd f = s.rd f :=
  k.rd he f hf (of_clearOf hc)

theorem Keeps.flagOf {w : List Span} {g : List Part} {s t : State} (k : Keeps w g s t) (he : Reg.every ∉ w) {f : Field}
    (hf : f.lsb < 64) (hc : clearOf w f.off = true) : t.flag f = s.flag f := by
  rw [State.flag, State.flag, k.rdOf he hf hc]

theorem Keeps.cd {w : List Span} {g : List Part} {s t : State} (k : Keeps w g s t) (hg : Part.pwr ∉ g) :
    t.pwr.cd = s.pwr.cd := congrArg (·.cd) (k.plain .pwr hg rfl)

theorem Keeps.ps {w : List Span} {g : List Part} {s t : State} (k : Keeps w g s t) (hg : Part.pwr ∉ g) :
    t.pwr.ps = s.pwr.ps := congrArg (·.ps) (k.plain .pwr hg rfl)

/-! ### The device reset that a command asks for -/

@[simp] theorem deviceReset_rng (s : State) : (deviceReset s).rng = {} := by
  unfold deviceReset
  dsimp only
  rw [showNs_rng, showStreams_rng, showHeld_rng]

/-- A device reset leaves the phase of the control die as its cause has set it. -/
theorem deviceReset_cd (s : State) : (deviceReset s).pwr.cd = s.pwr.cd := by
  have hclaims : (s.act.claims.foldl endClaim s).pwr.cd = s.pwr.cd :=
    (Keeps.foldl endClaim_keeps _ (Keeps.refl s)).cd (by decide)
  unfold deviceReset
  dsimp only
  rw [showNs_pwr, showStreams_pwr, showHeld_pwr]
  exact ((cutStore_keeps _).cd (by decide)).trans hclaims

/-- A device reset has been performed: memory, the layout and the rings are cleared, and the control die is lost. -/
def WasReset (t : State) : Prop := t.mem = [] ∧ t.par = {} ∧ t.rng = {} ∧ t.pwr.cd = .lost

/-- A commanded reset of a running control die is performed (R48, R49). -/
theorem commandReset_wasReset {s : State} (hup : cdUp s = true) (causeBit : Nat) : WasReset (commandReset s causeBit) := by
  unfold commandReset
  dsimp only
  rw [if_pos hup]
  refine ⟨deviceReset_mem _, deviceReset_par _, deviceReset_rng _, (deviceReset_cd _).trans ?_⟩
  exact (controlLost_lostWith (by exact running_of_cdUp hup) 1).1

theorem showDomains_wasReset {t : State} (h : WasReset t) : WasReset (showDomains t) := by
  unfold WasReset
  rw [showDomains_mem, showDomains_par, showDomains_rng, showDomains_pwr]
  exact h

theorem exec_sprRstCmd_key {s : State} {v : Word} (hup : cdUp s = true) (hv : v.toNat = 0xD0E5) :
    exec (.sprRstCmd .p0 v) s = .next (showDomains (commandReset s 3)) := by
  change whileCd s _ = _
  rw [whileCd_of_up hup, if_pos ⟨rfl, hv⟩]

theorem exec_sprRstCmd_other {s : State} {w : Writer} {v : Word} (hup : cdUp s = true)
    (h : w = .safety ∨ v.toNat ≠ 0xD0E5) : exec (.sprRstCmd w v) s = .next (violate s) := by
  have hkey : ¬ (w = .p0 ∧ v.toNat = 0xD0E5) := by
    rintro ⟨rfl, hv⟩
    rcases h with h | h
    · cases h
    · exact h hv
  change whileCd s _ = _
  rw [whileCd_of_up hup, if_neg hkey]

/-- Settles O56: the key performs the commanded reset, and anything else is a violation. -/
theorem resetCommandKey : Obligations.ResetCommandKey := by
  unfold Obligations.ResetCommandKey
  exact ⟨fun v s hup hv => ⟨_, exec_sprRstCmd_key hup hv, showDomains_wasReset (commandReset_wasReset hup 3)⟩,
    fun w v s hup h => exec_sprRstCmd_other hup h⟩

/-! ### The power-on reset -/

theorem exec_powerOnReset {mv : Nat} (h : 4050 ≤ mv) (s : State) :
    exec (.powerOnReset mv) s = .next (showDomains (powerOn s mv)) := by
  have habove : above s mv 3900 150 = (true, s) := by rw [above, if_pos (by omega)]
  change execPowerOnReset mv s = _
  rw [execPowerOnReset, habove]
  rfl

/-- What the power-on reset leaves before the tally's scan and record: all as after manufacture but what MRAM keeps. -/
theorem powerOn_eq (s : State) (mv : Nat) : ∃ r : State,
    powerOn s mv = tally (mirrorScan (((showNs r).wr SPR_RST_CAUSE_CAUSE 1).put TLY_STATUS_SCAN_DONE false)) 1
      ([1, 0] ++ leBytes 2 mv) ∧
    r.spar = {} ∧ r.dt = {} ∧ r.par = {} ∧ r.sw = {} ∧ r.chs = [] ∧ r.latches = [] ∧ r.pwr = {} ∧
    r.act = { copy0 := s.act.copy0, copy1 := s.act.copy1 } ∧ r.upd = s.upd ∧ r.pending = s.pending := by
  have hact : (powerCut s).act = s.act := (powerCut_keeps s).plain .act (by decide) rfl
  have hupd : (powerCut s).upd = s.upd := (powerCut_keeps s).plain .upd (by decide) rfl
  have hpending : (powerCut s).pending = s.pending := (powerCut_keeps s).plain .pending (by decide) rfl
  unfold powerOn
  dsimp only
  refine ⟨_, rfl, rfl, rfl, rfl, rfl, rfl, rfl, rfl, ?_, hupd, hpending⟩
  rw [← hact]
  rfl

/-- What the scan, the record and the views of the register file leave of it. -/
theorem poweredOn_keeps (r : State) (typ : Nat) (pl : List Byte) :
    Keeps [Reg.STO_NS_INFO, Reg.STO_NS_BLOCKS, Reg.STO_FREE, Reg.STO_NS_WEAR, Reg.SPR_RST_CAUSE, Reg.PWR_DOM_STATUS,
      Reg.PAR_EVT_CNT, Reg.SW_CNT_VAL, Reg.SW_MSEC_STAT, Reg.TLY_STATUS, Reg.TLY_CNT0, Reg.TLY_CNT1]
      [.records, .owed, .rings, .evt, .tly, .queue, .proxies, .loss, .wire, .out] r
      (showDomains (tally (mirrorScan (((showNs r).wr SPR_RST_CAUSE_CAUSE 1).put TLY_STATUS_SCAN_DONE false)) typ pl)) :=
  (showDomains_keeps _).then_ (by decide) (by decide) <| (tally_keeps _ _ _).then_ (by decide) (by decide) <|
    (mirrorScan_keeps _).then_ (by decide) (by decide) <| Keeps.put in_TLY_STATUS_SCAN_DONE (by decide) <|
    Keeps.wr in_SPR_RST_CAUSE_CAUSE (by decide) <| (showNs_keeps _).then_ (by decide) (by decide) (Keeps.refl r)

/-- SPR_RST_CAUSE names the power-on reset alone (Table 2.8). -/
theorem poweredOn_cause (r : State) (typ : Nat) (pl : List Byte) :
    (showDomains (tally (mirrorScan ((r.wr SPR_RST_CAUSE_CAUSE 1).put TLY_STATUS_SCAN_DONE false)) typ pl)).rd
      SPR_RST_CAUSE_CAUSE = 1 := by
  rw [showDomains_rd _ (by decide) (by decide), tally_rd _ _ _ (by decide) (by decide),
    (mirrorScan_keeps _).rdOf (by decide) (by decide) (by decide), rd_put_key _ _ (by decide)]
  exact rd_wr_same r SPR_RST_CAUSE_CAUSE 1 (by decide)

/-! ### The spar reset -/

theorem sparReset_down (s : State) : (sparReset s).spar.up = false :=
  congrArg (·.up) ((mirrorScan_keeps _).plain .spar (by decide) rfl)

/-- A spar reset makes device time FREE (R49). -/
theorem sparReset_free (s : State) : (sparReset s).rd SPR_DT_STATUS_STATE = 0 := by
  rw [sparReset, (mirrorScan_keeps _).rdOf (by decide) (by decide) (by decide), rd_put_key _ _ (by decide)]
  exact rd_wr_same _ SPR_DT_STATUS_STATE 0 (by decide)

/-- A spar reset clears the wake arming (R49). -/
theorem sparReset_disarmed (s : State) : (sparReset s).rd WAK_ARM_SRC = 0 := by
  rw [sparReset, (mirrorScan_keeps _).rdOf (by decide) (by decide) (by decide), rd_put_key _ _ (by decide),
    rd_wr_key _ _ (by decide), rd_wr_key _ _ (by decide), rd_wr_key _ _ (by decide)]
  exact rd_wr_same _ WAK_ARM_SRC 0 (by decide)

theorem sparReset_cause (s : State) : (sparReset s).rd SPR_RST_CAUSE_CAUSE = s.rd SPR_RST_CAUSE_CAUSE :=
  (sparReset_keeps s).rdOf (by decide) (by decide) (by decide)

theorem exec_sparWdgExpiry {s : State} (hup : s.spar.up = true) (hr : sparRuns s = true) (fn : Fin 8) :
    exec (.sparWdgExpiry fn) s = .next (tally ((sparReset s).orF SPR_RST_CAUSE_CAUSE 2) 2 [byte fn.val]) := by
  change execSparWdgExpiry fn s = _
  rw [execSparWdgExpiry, if_pos (by simp [hup, hr])]

theorem exec_sparResetDone_run {s : State} (hup : s.spar.up = false) (hp : s.spar.powered = true) (hps : s.pwr.ps = .run) :
    exec .sparResetDone s = .next { s with spar := { s.spar with up := true } } := by
  change execSparResetDone s = _
  rw [execSparResetDone, if_neg (by simp [hup, hp])]
  simp only [hps]

/-- Settles O1: the power-on reset read through the scan and the record that end it, and the other resets by their
frames. -/
theorem resetCommands : Obligations.ResetCommands := by
  unfold Obligations.ResetCommands
  refine ⟨fun mv s hmv => ?powerOn, fun stage s => ?fall, fun fn s hup hr => ?watchdog,
    fun s hup hp hps => exec_sparResetDone_run hup hp hps⟩
  case powerOn =>
    obtain ⟨r, hr, hspar, hdt, hpar, hsw, hchs, hlatches, hpwr, hact, hupd, hpending⟩ := powerOn_eq s mv
    have k := poweredOn_keeps r 1 ([1, 0] ++ leBytes 2 mv)
    have hcause := poweredOn_cause (showNs r) 1 ([1, 0] ++ leBytes 2 mv)
    rw [← hr] at k hcause
    refine ⟨_, exec_powerOnReset hmv s, hcause, ?_⟩
    generalize showDomains (powerOn s mv) = t at k ⊢
    have hsw' := k.plain .sw (by decide) rfl
    have hpwr' := k.plain .pwr (by decide) rfl
    have hact' : t.act = _ := (k.plain .act (by decide) rfl).trans hact
    rw [Part.Same, hsw] at hsw'
    rw [Part.Same, hpwr] at hpwr'
    exact ⟨(k.plain .spar (by decide) rfl).trans hspar, (k.plain .dt (by decide) rfl).trans hdt,
      (k.plain .par (by decide) rfl).trans hpar, congrArg (·.table) hsw', congrArg (·.vlans) hsw',
      congrArg (·.queues) hsw', congrArg (·.rxSa) hsw', (k.plain .chs (by decide) rfl).trans hchs,
      (k.plain .latches (by decide) rfl).trans hlatches, congrArg (·.ps) hpwr', congrArg (·.cd) hpwr',
      congrArg (·.seq) hpwr', congrArg (·.copy0) hact', congrArg (·.copy1) hact',
      (k.plain .upd (by decide) rfl).trans hupd, (k.plain .pending (by decide) rfl).trans hpending⟩
  case fall =>
    exact (execVsparFall_keeps stage s).runs rfl (by decide) (by decide) (by decide)
      ⟨rfl, rfl, rfl, rfl, rfl, rfl, rfl⟩
  case watchdog =>
    have k := (tally_keeps ((sparReset s).orF SPR_RST_CAUSE_CAUSE 2) 2 [byte fn.val])
    refine (execSparWdgExpiry_keeps fn s).runs (exec_sparWdgExpiry hup hr fn) (by decide) (by decide) (by decide)
      ⟨?_, ?_, ?_, ?_, ?_, ?_⟩
    · exact (congrArg (·.up) (k.plain .spar (by decide) rfl)).trans (sparReset_down s)
    · rw [tally_rd _ _ _ (by decide) (by decide), rd_orF_key _ _ (by decide), sparReset_free]
    · rw [tally_rd _ _ _ (by decide) (by decide), rd_orF_key _ _ (by decide), sparReset_disarmed]
    · rw [tally_rd _ _ _ (by decide) (by decide), rd_orF_same _ _ _ (by decide), sparReset_cause]
      rfl
    · exact (k.ps (by decide)).trans ((sparReset_keeps s).ps (by decide))
    · exact (k.cd (by decide)).trans ((sparReset_keeps s).cd (by decide))

end Sys2Proof.Machine
end

section
/-! SUPPORT.
The reference of the spar domain, the RTC and its alarm, and device time (R35 to R43, R128).
-/

namespace Sys2Proof.Machine

/-! ### XS fails and returns -/

/-- XS has just failed: the spar domain goes to the LPO, and SPR_RST_CAUSE records it (R36). -/
def xsLost (s : State) : State :=
  (({ s with spar := { s.spar with xsPass := false } }.put SPR_STATUS_XS_OK false).put SPR_STATUS_RTC_DEGRADED true).orF
    SPR_RST_CAUSE_CAUSE 128

/-- Beside that, a failure of XS moves device time from COARSE to FREE and reports itself (R36, R40). -/
theorem xsFail_keepsLost {s : State} (h : s.flag SPR_STATUS_XS_OK = true) (criterion : Nat) :
    Keeps [Reg.SPR_DT_STATUS, Reg.PAR_EVT_CNT, Reg.SW_CNT_VAL, Reg.SW_MSEC_STAT, Reg.TLY_CNT0]
      [.records, .owed, .rings, .evt, .queue, .proxies, .loss, .wire, .out] (xsLost s) (xsFail s criterion) := by
  unfold xsFail
  dsimp only
  rw [if_pos h]
  refine (tally_keeps _ _ _).then_ (by decide) (by decide) ((raise_keeps _ _ _ _ _).then_ (by decide) (by decide) ?_)
  exact Keeps.ite (fun _ => (Keeps.refl _).wr in_SPR_DT_STATUS_STATE (by decide)) (fun _ => Keeps.refl _)

theorem xsLost_xsOk (s : State) : (xsLost s).flag SPR_STATUS_XS_OK = false := by
  rw [xsLost, State.flag, rd_orF_key _ _ (by decide), rd_put_key _ _ (by decide)]
  exact flag_put_same _ SPR_STATUS_XS_OK false (by decide) (by decide)

theorem xsLost_degraded (s : State) : (xsLost s).flag SPR_STATUS_RTC_DEGRADED = true := by
  rw [xsLost, State.flag, rd_orF_key _ _ (by decide)]
  exact flag_put_same _ SPR_STATUS_RTC_DEGRADED true (by decide) (by decide)

theorem xsLost_cause (s : State) :
    (xsLost s).rd SPR_RST_CAUSE_CAUSE = (s.rd SPR_RST_CAUSE_CAUSE ||| 128) % 256 := by
  rw [xsLost, rd_orF_same _ _ _ (by decide), rd_put_key _ _ (by decide), rd_put_key _ _ (by decide)]
  rfl

theorem exec_xsNoEdgeTimeout {s : State} (hr : sparRuns s = true) : exec .xsNoEdgeTimeout s = .next (xsFail s 1) := by
  change execXsNoEdgeTimeout s = _
  rw [execXsNoEdgeTimeout, if_pos hr]

theorem exec_xsRatioCheck_pass {s : State} {ratio : Nat} (hr : sparRuns s = true)
    (h : 10 * (max ratio s.spar.ratio - min ratio s.spar.ratio) ≤ s.spar.ratio) :
    exec (.xsRatioCheck ratio) s = .next { s with spar := { s.spar with xsPass := true } } := by
  change execXsRatioCheck ratio s = _
  rw [execXsRatioCheck, if_neg (by simp [hr]), if_neg (Nat.not_lt.2 h)]

theorem exec_xsRatioCheck_fail {s : State} {ratio : Nat} (hr : sparRuns s = true)
    (h : s.spar.ratio < 10 * (max ratio s.spar.ratio - min ratio s.spar.ratio)) :
    exec (.xsRatioCheck ratio) s = .next (xsFail s 2) := by
  change execXsRatioCheck ratio s = _
  rw [execXsRatioCheck, if_neg (by simp [hr]), if_pos h]

theorem exec_lpoCalibrate {s : State} {ratio : Nat} (hup : s.spar.up = true) (hr : sparRuns s = true)
    (hx : s.spar.xsPass = true) :
    exec (.lpoCalibrate ratio) s = .next { s with spar := { s.spar with ratio := ratio } } := by
  change execLpoCalibrate ratio s = _
  rw [execLpoCalibrate, if_pos (by simp [hup, hr, hx])]

theorem exec_xsReturn {s : State} (hr : sparRuns s = true) (hx : s.spar.xsPass = true) :
    exec .xsReturn s = .next (s.put SPR_STATUS_XS_OK true) := by
  change execXsReturn s = _
  rw [execXsReturn, if_pos (by simp [hr, hx])]

/-! ### The RTC and its alarm -/

/-- What a word written to one half makes of the RTC: the other half keeps its bits. -/
def rtcWritten (hi : Bool) (old v : Nat) : Nat :=
  if hi then old % 2 ^ 32 + v % 2 ^ 16 * 2 ^ 32 else old / 2 ^ 32 * 2 ^ 32 + v

theorem rtcWritten_lt {hi : Bool} {old v : Nat} (ho : old < 2 ^ 48) (hv : v < 2 ^ 32) : rtcWritten hi old v < 2 ^ 48 := by
  cases hi <;> simp only [rtcWritten, if_true, Bool.false_eq_true, if_false] <;> omega

/-- The one field of SPR_RTC takes every value. -/
theorem written_rtc {hi : Bool} {old v : Nat} (ho : old < 2 ^ 48) (hv : v < 2 ^ 32) :
    written ⟨0, 48, .rw, 0, .spar, 0, 281474976710655, []⟩ hi old v = rtcWritten hi old v := by
  have hlt := rtcWritten_lt (hi := hi) ho hv
  have hmerged : merged ⟨0, 48, .rw, 0, .spar, 0, 281474976710655, []⟩ hi old v = rtcWritten hi old v := by
    cases hi
    · simpa [merged, wordBits, bits, rtcWritten] using hv
    · simp [merged, wordBits, bits, rtcWritten]
  simp only [written, takenAs, List.find?_nil, hmerged, clamp]
  omega

/-- P0's word goes to the half of the RTC that it names (R38). -/
theorem writeWord_rtc {s : State} {v : Nat} (hi : Bool) (hs : s.rd SPR_RTC_RTC < 2 ^ 48) (hv : v < 2 ^ 32) :
    writeWord s (if hi then 0x14 else 0x10) v = s.wr SPR_RTC_RTC (rtcWritten hi (s.rd SPR_RTC_RTC) v) := by
  have hbreach : sealBreach s 0x10 hi v rtcDesc = false := by simp [sealBreach, rtcDesc]
  have hhit : regHit (if hi then 0x14 else 0x10) = some (rtcDesc, 0x10, hi) := by
    cases hi
    · exact regHit_rtc_low
    · exact regHit_rtc_high
  have hreach : reaches ⟨0, 48, .rw, 0, .spar, 0, 281474976710655, []⟩ hi = true := by cases hi <;> rfl
  rw [writeWord, hhit]
  dsimp only
  rw [if_neg (by decide), hbreach, if_neg Bool.false_ne_true]
  exact (writeField_taken 0x10 v hreach (.inl rfl)).trans (congrArg (s.wr SPR_RTC_RTC) (written_rtc hs hv))

/-- In RUN, with no entry under way and none left within this tick, the alarm is no wake source (Table 4.1). -/
theorem alarmFire_run {s : State} (hps : s.pwr.ps = .run) (he : s.pwr.entry = none) (hw : s.pwr.woke ≠ some s.now) :
    alarmFire s = s := by
  have hstate : armState s = .run := by simp [armState, he, hps, hw]
  rw [alarmFire, if_neg (by simp [armed, hstate])]

theorem fireIfMet_run {before after : State} (hps : after.pwr.ps = .run) (he : after.pwr.entry = none)
    (hw : after.pwr.woke ≠ some after.now) : fireIfMet before after = after := by
  rw [fireIfMet, alarmFire_run hps he hw, ite_self]

/-- The RTC written while XS is the reference: it is no longer degraded, and a hold-up under way is timed anew
(R37, R38). -/
def rtcSet (s : State) (x : Nat) : State :=
  let s1 := s.wr SPR_RTC_RTC x
  let moved := (s.sto.rtcStart + rtc s1 + 2 ^ 48 - rtc s) % 2 ^ 48
  { s1 with sto := { s1.sto with rtcStart := moved } }.put SPR_STATUS_RTC_DEGRADED false

/-- In RUN a write of the RTC does not meet the alarm, and takes device time from FREE to COARSE (R40). -/
theorem exec_rtcWrite {s : State} {hi : Bool} {v : Word} (hup : cdUp s = true) (hps : s.pwr.ps = .run)
    (he : s.pwr.entry = none) (hx : s.flag SPR_STATUS_XS_OK = true) (hs : s.rd SPR_RTC_RTC < 2 ^ 48)
    (hw : s.pwr.woke ≠ some s.now) {u : State} (hu : u = rtcSet s (rtcWritten hi (s.rd SPR_RTC_RTC) v.toNat)) :
    exec (.rtcWrite .p0 hi v) s = .next (if dtStatus u = 0 then u.wr SPR_DT_STATUS_STATE 1 else u) := by
  have hx' : (s.wr SPR_RTC_RTC (rtcWritten hi (s.rd SPR_RTC_RTC) v.toNat)).flag SPR_STATUS_XS_OK = true := by
    rwa [State.flag, rd_wr_key s _ (by decide)]
  change whileCd s _ = _
  rw [whileCd_of_up hup, if_neg (by decide)]
  dsimp only
  rw [writeWord_rtc hi hs v.isLt, if_pos hx', fireIfMet_run]
  · rw [hu]
    rfl
  · split <;> exact hps
  · split <;> exact he
  · split <;> exact hw

theorem rd_set_sto (s : State) (x : StoState) (f : Field) : { s with sto := x }.rd f = s.rd f := rfl

theorem rtcSet_rtc (s : State) (x : Nat) : (rtcSet s x).rd SPR_RTC_RTC = x % 2 ^ 48 := by
  rw [rtcSet, rd_put_key _ _ (by decide), rd_set_sto]
  exact rd_wr_same s SPR_RTC_RTC x (by decide)

theorem rtcSet_degraded (s : State) (x : Nat) : (rtcSet s x).flag SPR_STATUS_RTC_DEGRADED = false := by
  rw [rtcSet]
  exact flag_put_same _ SPR_STATUS_RTC_DEGRADED false (by decide) (by decide)

theorem rtcSet_dtStatus (s : State) (x : Nat) : (rtcSet s x).rd SPR_DT_STATUS_STATE = s.rd SPR_DT_STATUS_STATE := by
  rw [rtcSet, rd_put_key _ _ (by decide), rd_set_sto, rd_wr_key s x (by decide)]

/-- FREE becomes COARSE, and every other field and status stays. -/
theorem rd_coarse {u : State} {f : Field} (hf : f.key ≠ SPR_DT_STATUS_STATE.key) :
    (if dtStatus u = 0 then u.wr SPR_DT_STATUS_STATE 1 else u).rd f = u.rd f := by
  split
  · exact rd_wr_key u 1 hf
  · rfl

theorem dtStatus_coarse (u : State) : (if dtStatus u = 0 then u.wr SPR_DT_STATUS_STATE 1 else u).rd SPR_DT_STATUS_STATE =
    if u.rd SPR_DT_STATUS_STATE = 0 then 1 else u.rd SPR_DT_STATUS_STATE := by
  change _ = if dtStatus u = 0 then 1 else dtStatus u
  split
  · exact rd_wr_same u SPR_DT_STATUS_STATE 1 (by decide)
  · rfl

theorem exec_rtcAlarmWrite {s : State} {hi : Bool} {v : Word} (hup : cdUp s = true) :
    exec (.rtcAlarmWrite .p0 hi v) s = .next (fireIfMet s (writeWord s (if hi then 0x1C else 0x18) v.toNat)) := by
  change whileCd s _ = _
  rw [whileCd_of_up hup, if_neg (by decide)]

theorem exec_rtcAlarmFire {s : State} (hr : sparRuns s = true) (hne : s.rd SPR_RTC_RTC ≠ s.rd SPR_RTC_ALARM_ALARM) :
    exec .rtcAlarmFire s = .next (alarmFire (s.wr SPR_RTC_RTC (s.rd SPR_RTC_ALARM_ALARM))) := by
  change execRtcAlarmFire s = _
  rw [execRtcAlarmFire, if_pos (by simp [hr, rtc, hne])]

/-! ### Device time -/

/-- A port of 802.1AS has reported an offset: a sync has come, under the BMCA from the slave port (R40, R128). -/
def synced (s : State) (port : Nat) : State :=
  let s1 := { s with dt := { s.dt with syncAt := s.now } }
  if s.flag CHN_PORT_CFG_EXT_CFG then s1 else { s1 with chain := { s1.chain with gmPort := some port } }

theorem synced_rd (s : State) (port : Nat) (f : Field) : (synced s port).rd f = s.rd f := by
  unfold synced
  dsimp only
  split <;> rfl

theorem synced_dt (s : State) (port : Nat) : (synced s port).dt = { s.dt with syncAt := s.now } := by
  unfold synced
  dsimp only
  split <;> rfl

/-- A port that is not a master port under EXT_CFG is none when it has reported (R128). -/
theorem asRole_synced {s : State} {port : Nat}
    (h : s.flag CHN_PORT_CFG_EXT_CFG = false ∨ s.chain.cruised = false ∨ port = upstream s) :
    asRole (synced s port) port ≠ 2 := by
  have hflag : (synced s port).flag CHN_PORT_CFG_EXT_CFG = s.flag CHN_PORT_CFG_EXT_CFG := by
    rw [State.flag, State.flag, synced_rd]
  have hstream : upstream (synced s port) = upstream s := synced_rd s port _
  rw [asRole, hflag, hstream]
  cases hext : s.flag CHN_PORT_CFG_EXT_CFG
  case false => simp [synced, hext]
  case true =>
    have hcruised : (synced s port).chain.cruised = s.chain.cruised := by simp [synced, hext]
    rw [if_pos rfl, hcruised]
    rcases h with h | h | h
    · rw [hext] at h
      cases h
    · simp [h]
    · rw [if_pos h]
      split <;> decide

/-- A correction beyond STEP_THRESH moves device time, its EPOCH and its status at once, after blocks have closed at the
old time and the gates have moved (R43). -/
def stepClock (u : State) (offset : Int) : State :=
  let ep := (u.rd SPR_DT_STATUS_EPOCH + 1) % 256
  let s0 := stepGates (closeBlocks u) offset
  ((s0.wr SPR_DT_DT (intBits 64 ((dtNow u : Int) + offset))).wr SPR_DT_STATUS_EPOCH ep).wr SPR_DT_STATUS_STATE 2

/-- With the step a slew ends, and unstarted timed work is rebased (R43). -/
def stepDt (u : State) (offset : Int) : State :=
  let s1 := stepClock u offset
  { s1 with dt := { s1.dt with slew := 0, slewing := false, stepped := s1.dt.stepped + offset }
            rng := { s1.rng with work := s1.rng.work.map (rebase offset) } }

/-- The correction that a port other than a master port brings: slewed within STEP_THRESH, and in SYNC within 1 µs, or
stepped and reported (R42, R43). -/
theorem exec_dtCorrection {s : State} {port : Fin 2} {offset : Int} (hup : cdUp s = true) (hon : s.dt.on = true)
    (h : s.flag CHN_PORT_CFG_EXT_CFG = false ∨ s.chain.cruised = false ∨ port.val = upstream s) {u : State}
    (hu : u = synced s port.val) : exec (.dtCorrection port offset) s = .next
      (if offset.natAbs ≤ s.rd SPR_DT_CFG_STEP_THRESH * 1000 then
        if offset.natAbs ≤ 1000 then
          { u with dt := { u.dt with slew := offset * 64000000, slewing := false } }.wr SPR_DT_STATUS_STATE 2
        else { u with dt := { u.dt with slew := offset * 64000000, slewing := true } }
      else raise (stepDt u offset) 1 false (runningParts (stepDt u offset))
        (leBytes 8 (intBits 64 offset) ++ [byte ((u.rd SPR_DT_STATUS_EPOCH + 1) % 256)])) := by
  have hon' : (synced s port.val).dt.on = true := by
    rw [synced_dt]
    exact hon
  have htaken : ¬ (!(synced s port.val).dt.on || asRole (synced s port.val) port.val == 2) = true := by
    simp [hon', asRole_synced h]
  rw [hu, ← synced_rd s port.val]
  change whileCd s (if !(synced s port.val).dt.on || asRole (synced s port.val) port.val == 2 then _ else _) = _
  rw [whileCd_of_up hup, if_neg htaken]
  rfl

theorem stepDt_dt (u : State) (offset : Int) :
    (stepDt u offset).dt = { u.dt with slew := 0, slewing := false, stepped := u.dt.stepped + offset } := by
  have hdt : (stepGates (closeBlocks u) offset).dt = u.dt :=
    ((stepGates_keeps _ _).plain .dt (by decide) rfl).trans ((closeBlocks_keeps u).plain .dt (by decide) rfl)
  rw [← hdt]
  rfl

theorem rd_set_dt_rng (s : State) (x : DtState) (y : RngState) (f : Field) :
    { s with dt := x, rng := y }.rd f = s.rd f := rfl

theorem stepDt_rd (u : State) (offset : Int) (f : Field) : (stepDt u offset).rd f = (stepClock u offset).rd f :=
  rd_set_dt_rng (stepClock u offset) _ _ f

theorem stepDt_status (u : State) (offset : Int) : (stepDt u offset).rd SPR_DT_STATUS_STATE = 2 := by
  rw [stepDt_rd]
  exact rd_wr_same _ SPR_DT_STATUS_STATE 2 (by decide)

theorem stepDt_epoch (u : State) (offset : Int) :
    (stepDt u offset).rd SPR_DT_STATUS_EPOCH = (u.rd SPR_DT_STATUS_EPOCH + 1) % 256 := by
  rw [stepDt_rd, stepClock, rd_wr_key _ _ (by decide), rd_wr_same _ _ _ (by decide)]
  exact Nat.mod_mod _ _

theorem stepDt_dtNow (u : State) (offset : Int) :
    dtNow (stepDt u offset) = intBits 64 ((dtNow u : Int) + offset) % 2 ^ 64 := by
  rw [dtNow, stepDt_rd, stepClock, rd_wr_key _ _ (by decide), rd_wr_key _ _ (by decide),
    rd_wr_same _ _ _ (by decide)]
  rfl

/-- Slewing ends with what is left of it within 1 µs, at a free rate (R42; log entry 69). -/
theorem exec_dtSyncReached {s : State} (hup : cdUp s = true) (hs : s.dt.slewing = true) :
    exec .dtSyncReached s = .next ({ freeNext s with dt := { s.dt with
      slew := max (-slewUs) (min slewUs s.dt.slew), slewing := false
      ppm := ((freeDraw s).toNat % 1001 : Nat) - 500 } }.wr SPR_DT_STATUS_STATE 2) := by
  change whileCd s _ = _
  rw [whileCd_of_up hup, if_pos hs]

theorem exec_syncLoss {s : State} (hup : cdUp s = true) (hst : s.rd SPR_DT_STATUS_STATE = 2)
    (hl : lasted s s.dt.syncAt (10000 * s.rd SPR_DT_CFG_LOSS_TIME) = true) :
    exec .syncLoss s = .next (s.wr SPR_DT_STATUS_STATE 1) := by
  change whileCd s _ = _
  rw [whileCd_of_up hup, if_pos ⟨hst, hl⟩]

/-- Settles O3: each command's own equation, and the fields of its next state read through the updates it makes. -/
theorem slowClocksAndTime : Obligations.SlowClocksAndTime := by
  unfold Obligations.SlowClocksAndTime
  refine ⟨fun s hr hx => ?noEdge, fun ratio s hr h => exec_xsRatioCheck_pass hr h,
    fun ratio s hr h => exec_xsRatioCheck_fail hr h, fun ratio s hup hr hx => exec_lpoCalibrate hup hr hx,
    fun s hr hx => ?xsReturn, fun hi v s hup hps he hx hs hw => ?rtcWrite, fun hi v s hup => exec_rtcAlarmWrite hup,
    fun s hr hne => exec_rtcAlarmFire hr hne, fun port offset s hup hon h hle hsmall => ?synced,
    fun port offset s hup hon h hle hbig => ?slewing, fun port offset s hup hon h hgt => ?stepped,
    fun s hup hs => ?reached, fun s hup hst hl => ?lost⟩
  case noEdge =>
    have k := xsFail_keepsLost hx 1
    exact (execXsNoEdgeTimeout_keeps s).runs (exec_xsNoEdgeTimeout hr) (by decide) (by decide) (by decide)
      ⟨(k.flagOf (by decide) (by decide) (by decide)).trans (xsLost_xsOk s),
        (k.flagOf (by decide) (by decide) (by decide)).trans (xsLost_degraded s),
        congrArg (·.xsPass) (k.plain .spar (by decide) rfl),
        (k.rdOf (by decide) (by decide) (by decide)).trans (xsLost_cause s)⟩
  case xsReturn =>
    exact (execXsReturn_keeps s).runs (exec_xsReturn hr hx) (by decide) (by decide) (by decide)
      (flag_put_same s SPR_STATUS_XS_OK true (by decide) (by decide))
  case rtcWrite =>
    refine ⟨_, exec_rtcWrite hup hps he hx hs hw rfl, ?_, ?_, ?_⟩
    · rw [rd_coarse (by decide), rtcSet_rtc]
      exact Nat.mod_eq_of_lt (rtcWritten_lt hs v.isLt)
    · rw [State.flag, rd_coarse (by decide)]
      exact rtcSet_degraded s _
    · rw [dtStatus_coarse, rtcSet_dtStatus]
  case synced =>
    have e := (exec_dtCorrection hup hon h rfl).trans (congrArg _ ((if_pos hle).trans (if_pos hsmall)))
    exact (execDtCorrection_keeps port offset s).runs e (by decide) (by decide) (by decide)
      ⟨rd_wr_same _ SPR_DT_STATUS_STATE 2 (by decide), rfl, rfl, congrArg (·.syncAt) (synced_dt s port.val),
        (rd_wr_key _ _ (by decide)).trans (synced_rd s port.val SPR_DT_DT)⟩
  case slewing =>
    have e := (exec_dtCorrection hup hon h rfl).trans
      (congrArg _ ((if_pos hle).trans (if_neg (Nat.not_le.2 hbig))))
    exact (execDtCorrection_keeps port offset s).runs e (by decide) (by decide) (by decide)
      ⟨rfl, rfl, congrArg (·.syncAt) (synced_dt s port.val), synced_rd s port.val SPR_DT_DT,
        synced_rd s port.val SPR_DT_STATUS_STATE⟩
  case stepped =>
    have e := (exec_dtCorrection hup hon h rfl).trans (congrArg _ (if_neg (Nat.not_le.2 hgt)))
    have hdt := stepDt_dt (synced s port.val) offset
    refine (execDtCorrection_keeps port offset s).runs e (by decide) (by decide) (by decide) ⟨?_, ?_, ?_, ?_, ?_⟩
    · rw [dtNow, raise_rd _ _ _ _ _ (by decide) (by decide)]
      exact (stepDt_dtNow _ offset).trans (by rw [dtNow, synced_rd]; rfl)
    · rw [raise_rd _ _ _ _ _ (by decide) (by decide), stepDt_epoch, synced_rd]
    · rw [raise_rd _ _ _ _ _ (by decide) (by decide), stepDt_status]
    · rw [raise_dt, hdt]
    · rw [raise_dt, hdt, synced_dt]
  case reached =>
    refine (execDtSyncReached_keeps s).runs (exec_dtSyncReached hup hs) (by decide) (by decide) (by decide)
      ⟨rd_wr_same _ SPR_DT_STATUS_STATE 2 (by decide), rfl, ?_, ?_, rfl⟩
    · change -500 ≤ (((freeDraw s).toNat % 1001 : Nat) : Int) - 500
      omega
    · change (((freeDraw s).toNat % 1001 : Nat) : Int) - 500 ≤ 500
      omega
  case lost =>
    exact (execSyncLoss_keeps s).runs (exec_syncLoss hup hst hl) (by decide) (by decide) (by decide)
      (rd_wr_same s SPR_DT_STATUS_STATE 1 (by decide))

end Sys2Proof.Machine
end

section
/-! SUPPORT.
The fast clocks: their sources, the PLLs and XF (R44, R46, R47, R101, R113).
-/

namespace Sys2Proof.Machine

/-! ### Sources -/

/-- A source whose PLL is not locked is refused (R46). -/
theorem exec_clkSrcWrite_refused {s : State} {v : Word} (hup : cdUp s = true)
    (h : fieldIn CLK_SRC_SRC_APP v = 1 ∧ locked s 0 = false) :
    exec (.clkSrcWrite .p0 v) s = .next (s.put CLK_STATUS_REFUSED true) := by
  change whileCd s _ = _
  rw [whileCd_of_up hup, if_neg (by decide)]
  dsimp only
  rw [if_pos (by simp [h])]

/-- Another source is shown switching (R46). -/
theorem exec_clkSrcWrite_taken {s : State} {v : Word} (hup : cdUp s = true) (h0 : locked s 0 = true)
    (h1 : locked s 1 = true) (hne : (writeWord s 0x10000 v.toNat).regs ≠ s.regs) : exec (.clkSrcWrite .p0 v) s =
      .next (showBuses ((writeWord s 0x10000 v.toNat).put CLK_STATUS_SWITCHING true)) := by
  change whileCd s _ = _
  rw [whileCd_of_up hup, if_neg (by decide)]
  dsimp only
  rw [if_neg (by simp [h0, h1]), if_neg hne]

theorem exec_clkPllCfgWrite {s : State} {v : Word} (hup : cdUp s = true) : exec (.clkPllCfgWrite .p0 v) s = .next
    ([0, 1, 2].foldl (fun t k => if pllEn s k && !pllEn (writeWord s 0x10010 v.toNat) k then pllStop t k else t)
      (writeWord s 0x10010 v.toNat)) := by
  change whileCd s _ = _
  rw [whileCd_of_up hup, if_neg (by decide)]

/-! ### Locks -/

theorem locked_put_same (s : State) (pll : Nat) (b : Bool) : locked (s.put (CLK_STATUS_LOCK pll) b) pll = b :=
  flag_put_same s (CLK_STATUS_LOCK pll) b (show 1 ≤ 1 by decide) (show 1 ≤ 64 by decide)

/-- A lock stands when no register of its field changes. -/
theorem Keeps.locked {w : List Span} {g : List Part} {s t : State} (k : Keeps w g s t) (he : Reg.every ∉ w)
    (hc : clearOf w 0x10004 = true) (pll : Nat) : locked t pll = locked s pll :=
  k.flagOf he (in_CLK_STATUS_LOCK pll).2 hc

theorem exec_pllLock {s : State} {pll : Fin 3} (hup : cdUp s = true) (he : pllEn s pll.val = true)
    (hx : s.flag CLK_STATUS_XF_OK = true) : exec (.pllLock pll) s = .next (s.put (CLK_STATUS_LOCK pll.val) true) := by
  change execPllLock pll s = _
  rw [execPllLock, if_pos (by simp [hup, he, hx])]

theorem exec_pllLockLoss {s : State} {pll : Fin 3} (hup : cdUp s = true) (hl : locked s pll.val = true) :
    exec (.pllLockLoss pll) s = .next (pllStop s pll.val) := by
  change whileCd s _ = _
  rw [whileCd_of_up hup, if_pos hl]

theorem lock_key_ne (pll : Nat) : (CLK_STATUS_LOCK pll).key ≠ CLK_STATUS_FALLBACK.key := by
  simp only [Field.key, fieldKey, CLK_STATUS_LOCK, CLK_STATUS_FALLBACK]
  omega

/-- A PLL that stops has lost its lock, whatever falls back with it (R47). -/
theorem pllStop_unlocked (s : State) (pll : Nat) : locked (pllStop s pll) pll = false := by
  have hcut : locked (s.put (CLK_STATUS_LOCK pll) false) pll = false := locked_put_same s pll false
  have hfrc : locked (toFrc (s.put (CLK_STATUS_LOCK pll) false) pll) pll = false :=
    ((toFrc_keeps _ pll).locked (by decide) (by decide) pll).trans hcut
  have htold : locked (raise ((toFrc (s.put (CLK_STATUS_LOCK pll) false) pll).put CLK_STATUS_FALLBACK true) 2 true [0]
      [byte (pll + 1)]) pll = false := by
    rw [(raise_keeps _ _ _ _ _).locked (by decide) (by decide), locked, State.flag, rd_put_key _ true (lock_key_ne pll)]
    exact hfrc
  unfold pllStop
  dsimp only
  split_ifs
  · exact ((wantBypass_keeps _ _).locked (by decide) (by decide) pll).trans htold
  · exact htold
  · exact hcut

/-! ### XF -/

/-- XF has just failed: every PLL has lost its lock, and every domain runs from FRC (R47). -/
def xfLost (s : State) : State :=
  ([0, 1, 2].foldl (fun t k => toFrc (t.put (CLK_STATUS_LOCK k) false) k) (s.put CLK_STATUS_XF_OK false)).put
    CLK_STATUS_FALLBACK true

theorem xfLost_eq (s : State) : xfLost s =
    ((showBuses ((((((s.put CLK_STATUS_XF_OK false).put (CLK_STATUS_LOCK 0) false).put CLK_SRC_SRC_APP false).put
      (CLK_STATUS_LOCK 1) false).put CLK_SRC_SRC_FAB false).put CLK_SRC_SRC_SAF false)).put
      (CLK_STATUS_LOCK 2) false).put CLK_STATUS_FALLBACK true := rfl

theorem xfLost_status (s : State) : (xfLost s).flag CLK_STATUS_XF_OK = false ∧
    (xfLost s).flag CLK_STATUS_FALLBACK = true ∧ locked (xfLost s) 0 = false ∧ locked (xfLost s) 1 = false ∧
    locked (xfLost s) 2 = false := by
  rw [xfLost_eq]
  refine ⟨?_, ?_, ?_, ?_, ?_⟩ <;>
    simp (disch := decide) [locked, State.flag, rd_put_key, rd_put_same, showBuses_rd]

theorem xfLost_sources (s : State) : (xfLost s).flag CLK_SRC_SRC_APP = false ∧
    (xfLost s).flag CLK_SRC_SRC_FAB = false ∧ (xfLost s).flag CLK_SRC_SRC_SAF = false := by
  rw [xfLost_eq]
  refine ⟨?_, ?_, ?_⟩ <;> simp (disch := decide) [State.flag, rd_put_key, rd_put_same, showBuses_rd]

/-- The report of the failure and the wanted bypass leave the clocks as they are (R47, R113). -/
theorem xfReport_keeps (u : State) : Keeps [Reg.PAR_EVT_CNT, Reg.SW_CNT_VAL, Reg.SW_MSEC_STAT, Reg.TLY_CNT0]
    [.records, .owed, .rings, .evt, .queue, .chain, .proxies, .loss, .wire, .out] u
    (wantBypass (raise u 2 true [0] [4]) 3) :=
  (wantBypass_keeps _ _).then_ (by decide) (by decide)
    ((raise_keeps _ _ _ _ _).then_ (by decide) (by decide) (Keeps.refl u))

theorem exec_xfFail {s : State} (hup : cdUp s = true) (hx : s.flag CLK_STATUS_XF_OK = true) :
    exec .xfFail s = .next (wantBypass (raise (xfLost s) 2 true [0] [4]) 3) := by
  change whileCd s _ = _
  rw [whileCd_of_up hup, if_pos hx]
  rfl

theorem exec_xfReady {s : State} (h : xfOn s = true) : exec .xfReady s = .next (s.put CLK_STATUS_XF_OK true) := by
  change execXfReady s = _
  rw [execXfReady, if_pos h]

/-- Settles O4: each command's own equation; what stops or fails with a PLL outlives the event that reports it. -/
theorem fastClocks : Obligations.FastClocks := by
  unfold Obligations.FastClocks
  refine ⟨fun v s hup h => ?refused, fun v s hup h0 h1 hne => exec_clkSrcWrite_taken hup h0 h1 hne, fun s => ?done,
    fun v s hup => exec_clkPllCfgWrite hup, fun pll s hup he hx => ?lock, fun pll s hup hl => ?loss,
    fun s hup hx => ?fail, fun s h => ?ready⟩
  case refused =>
    exact (execClkSrcWrite_keeps .p0 v s).runs (exec_clkSrcWrite_refused hup h) (by decide) (by decide) (by decide)
      ⟨flag_put_same s CLK_STATUS_REFUSED true (by decide) (by decide), rd_put_key s true (by decide)⟩
  case done =>
    exact (execClkSwitchDone_keeps s).runs rfl (by decide) (by decide) (by decide)
      (flag_put_same s CLK_STATUS_SWITCHING false (by decide) (by decide))
  case lock =>
    exact (execPllLock_keeps pll s).runs (exec_pllLock hup he hx) (by decide) (by decide) (by decide)
      (locked_put_same s pll.val true)
  case loss =>
    exact (execPllLockLoss_keeps pll s).runs (exec_pllLockLoss hup hl) (by decide) (by decide) (by decide)
      (pllStop_unlocked s pll.val)
  case fail =>
    have k := xfReport_keeps (xfLost s)
    obtain ⟨hxf, hfallback, hlock0, hlock1, hlock2⟩ := xfLost_status s
    obtain ⟨happ, hfab, hsaf⟩ := xfLost_sources s
    exact (execXfFail_keeps s).runs (exec_xfFail hup hx) (by decide) (by decide) (by decide)
      ⟨(k.flagOf (by decide) (by decide) (by decide)).trans hxf,
        (k.flagOf (by decide) (by decide) (by decide)).trans hfallback,
        (k.locked (by decide) (by decide) 0).trans hlock0, (k.locked (by decide) (by decide) 1).trans hlock1,
        (k.locked (by decide) (by decide) 2).trans hlock2, (k.flagOf (by decide) (by decide) (by decide)).trans happ,
        (k.flagOf (by decide) (by decide) (by decide)).trans hfab,
        (k.flagOf (by decide) (by decide) (by decide)).trans hsaf⟩
  case ready =>
    exact (execXfReady_keeps s).runs (exec_xfReady h) (by decide) (by decide) (by decide)
      (flag_put_same s CLK_STATUS_XF_OK true (by decide) (by decide))

end Sys2Proof.Machine
end

section
/-! SUPPORT.
What a word written to a register leaves in one of its fields (Table 0.3).
-/

namespace Sys2Proof.Machine

/-! ### The other fields of the register -/

theorem rd_writeField_other (base : Nat) (hi : Bool) (v : Nat) (s : State) {f : FieldDesc} {k : Field}
    (hk : k.key ≠ (fieldOf base f).key) : (writeField base hi v s f).rd k = s.rd k := by
  obtain h | ⟨x, h⟩ := writeField_cases base hi v s f
  · rw [h]
  · rw [h, rd_wr_key s x hk]

theorem rd_foldl_writeField_other (base : Nat) (hi : Bool) (v : Nat) {k : Field} {l : List FieldDesc} (s : State)
    (hk : ∀ f ∈ l, k.key ≠ (fieldOf base f).key) : (l.foldl (writeField base hi v) s).rd k = s.rd k := by
  induction l generalizing s with
  | nil => rfl
  | cons g l ih =>
    rw [List.foldl_cons, ih _ fun f hf => hk f (List.mem_cons_of_mem g hf),
      rd_writeField_other base hi v s (hk g List.mem_cons_self)]

/-- A field that takes a write whether the unit is sealed or not holds what its access code makes of it, whatever the
fields beside it take. -/
theorem rd_foldl_writeField (base v : Nat) {f : FieldDesc} {l : List FieldDesc} (s : State) (hmem : f ∈ l)
    (hl : l.Pairwise fun f g => (fieldOf base f).key ≠ (fieldOf base g).key) (hlow : f.lsb + f.width ≤ 32)
    (hpos : 1 ≤ f.width) (ha : f.acc = .rw ∨ f.acc = .w1s) :
    (l.foldl (writeField base false v) s).rd (fieldOf base f) =
      written f false (s.rd (fieldOf base f)) v % 2 ^ f.width := by
  induction l generalizing s with
  | nil => cases hmem
  | cons g l ih =>
    obtain ⟨hg, hrest⟩ := List.pairwise_cons.1 hl
    rw [List.foldl_cons]
    obtain rfl | hin := List.mem_cons.1 hmem
    · rw [rd_foldl_writeField_other base false v _ hg]
      exact rd_writeField_taken base v (by omega) hlow (ha.imp_right fun h => .inr (.inr h))
    · rw [ih _ hin hrest, rd_writeField_other base false v s (hg f hin).symm]

/-! ### The word -/

theorem rd_breach (s : State) (b : Bool) {k : Field} (hk : k.key ≠ PAR_SEAL_STATUS_SEAL_VIOL.key) :
    (if b then violate s else s).rd k = s.rd k := by
  cases b
  · rfl
  · exact rd_bump_key s 1 hk

/-- A field of a register that P0 writes, taken whether the unit is sealed or not. -/
theorem rd_writeWord_taken {off v : Nat} {r : RegDesc} {f : FieldDesc} (s : State) (hit : regHit off = some (r, off, false))
    (hr : statusOnly r = false) (hmem : f ∈ r.fields)
    (hl : r.fields.Pairwise fun f g => (fieldOf off f).key ≠ (fieldOf off g).key) (hlow : f.lsb + f.width ≤ 32)
    (hpos : 1 ≤ f.width) (ha : f.acc = .rw ∨ f.acc = .w1s)
    (hviol : (fieldOf off f).key ≠ PAR_SEAL_STATUS_SEAL_VIOL.key) :
    (writeWord s off v).rd (fieldOf off f) = written f false (s.rd (fieldOf off f)) v % 2 ^ f.width := by
  unfold writeWord
  rw [hit]
  simp only [hr, Bool.false_eq_true, if_false]
  rw [rd_foldl_writeField off v _ hmem hl hlow hpos ha, rd_breach s _ hviol]

/-- A field of another register than the one that P0 writes. -/
theorem rd_writeWord_other {off v : Nat} {r : RegDesc} {k : Field} (s : State) (hit : regHit off = some (r, off, false))
    (hr : statusOnly r = false) (hk : ∀ f ∈ r.fields, k.key ≠ (fieldOf off f).key)
    (hviol : k.key ≠ PAR_SEAL_STATUS_SEAL_VIOL.key) : (writeWord s off v).rd k = s.rd k := by
  unfold writeWord
  rw [hit]
  simp only [hr, Bool.false_eq_true, if_false]
  rw [rd_foldl_writeField_other off false v _ hk, rd_breach s _ hviol]

end Sys2Proof.Machine
end

section
/-! SUPPORT.
MAINT requests and their answers, the bypass that P0 forces, and the whistles (R50, R124, R127, R129, R130, R131, R509).
-/

namespace Sys2Proof.Machine

theorem Keeps.cdUp {w : List Span} {g : List Part} {s t : State} (k : Keeps w g s t) (hpwr : Part.pwr ∉ g)
    (hsto : Part.sto ∉ g) : cdUp t = cdUp s := by
  have hs : t.sto.failing = s.sto.failing := congrArg (·.failing) (k.plain .sto hsto rfl)
  rw [Machine.cdUp, Machine.cdUp, k.cd hpwr, hs]

/-! ### A request that the unit answers -/

theorem asked_keeps (s : State) (port : Nat) (frame : List Byte) (z : Zk) :
    Keeps [] [.out] s (asked s port frame z) := by
  unfold asked
  exact Keeps.ite (fun _ => emit_keeps s _) fun _ => Keeps.refl s

theorem asked_rd (s : State) (port : Nat) (frame : List Byte) (z : Zk) (f : Field) :
    (asked s port frame z).rd f = s.rd f := by
  unfold asked
  split <;> rfl

theorem asked_flag (s : State) (port : Nat) (frame : List Byte) (z : Zk) (f : Field) :
    (asked s port frame z).flag f = s.flag f := by
  rw [State.flag, State.flag, asked_rd]

/-- A request for this unit that somebody answers acts once, in the state in which the bypass has passed it on. -/
theorem onMaint_asked {s : State} {frame : List Byte} {op : Nat} {z : Zk} (h : Asked s frame op z) (port : Nat)
    (act : Zk → Bool → State → State) :
    onMaint op s port frame act = act z (tagValid s z) (asked s port frame z) := by
  obtain ⟨hz, htyp, hop, hfor, hserved⟩ := h
  unfold onMaint
  rw [hz]
  simp [htyp, hop, hfor, hserved, asked]

/-- An authenticated request has been taken and answered; its operation acts on this state. -/
def acted (s : State) (port : Nat) (frame : List Byte) (z : Zk) : State :=
  answer (takeCounter (asked s port frame z) z) port z true 0 []

theorem acted_keeps (s : State) (port : Nat) (frame : List Byte) (z : Zk) :
    Keeps [Reg.SW_CNT_VAL, Reg.SW_MSEC_STAT, Reg.CHN_MAINT_CTR] [.wire, .out] s (acted s port frame z) :=
  (answer_keeps _ _ _ _ _ _).then_ (by decide) (by decide) <|
    (takeCounter_keeps _ _).then_ (by decide) (by decide) <|
    (asked_keeps _ _ _ _).then_ (by decide) (by decide) (Keeps.refl s)

/-- MCTR_LAST holds the counter of the last request with a valid tag (R131). -/
theorem acted_counter (s : State) (port : Nat) (frame : List Byte) (z : Zk) :
    (acted s port frame z).rd CHN_MAINT_CTR_MCTR_LAST = beAt z.body 20 4 % 2 ^ 32 :=
  ((answer_keeps _ _ _ _ _ _).rdOf (by decide) (by decide) (by decide)).trans
    (rd_wr_same _ CHN_MAINT_CTR_MCTR_LAST _ (by decide))

/-! ### The operations -/

section
variable {s u : State} {frame : List Byte} {z : Zk} {port : Fin 2}

theorem exec_ident (h : Asked s frame 1 z) (hu : u = asked s port.val frame z) :
    exec (.ident port frame) s = .next (answer u port.val z (tagValid s z) 0 (uidBytes u ++
      [byte (u.rd CHN_ADDR_POS), byte (ownAddr u), byte (u.rd CHN_ADDR_PIN), 0xB1, byte (u.rd SPR_STATUS_FW_VER)])) := by
  change execIdent port frame s = _
  rw [execIdent, onMaint_asked h, hu]

theorem exec_maintStatus (h : Asked s frame 2 z) (hu : u = asked s port.val frame z) :
    exec (.maintStatus port frame) s = .next (answer u port.val z (tagValid s z) 0 ([byte (pstateCode u),
      byte (u.rd WAK_REASON_CODE), byte (u.rd WAK_FAIL_SEQ_FAILS + 16 * u.rd WAK_FAIL_LOCKOUT),
      byte (u.rd SPR_STATUS_LIMP_ACTIVE), byte (u.rd CHN_BYPASS_CAUSE), 0, 0, 0] ++ beBytes 6 (rtc u))) := by
  change execMaintStatus port frame s = _
  rw [execMaintStatus, onMaint_asked h, hu]

/-- The status area is answered to anybody while READ_AUTH is 0, and takes no counter without MARK (R131). -/
theorem exec_tallyRead_status (h : Asked s frame 3 z) (hu : u = asked s port.val frame z)
    (hauth : u.flag CHN_MAINT_READ_AUTH = false) (harea : beAt z.body 24 4 / 1073741824 = 2)
    (hmark : bit (beAt z.body 24 4) 29 = false) :
    exec (.tallyRead port frame) s = .next (answer u port.val z (tagValid s z) 0 (tallyStatus u)) := by
  have hread : tallyRead u (beAt z.body 24 4) (tagValid s z) = (0, tallyStatus u, u) := by
    unfold tallyRead
    exact if_pos harea
  change execTallyRead port frame s = _
  rw [execTallyRead, onMaint_asked h, ← hu, if_neg (by simp [hauth])]
  dsimp only
  rw [hread, if_neg (by simp [hauth, hmark])]

theorem exec_tallyRead_unauthorised (h : Asked s frame 3 z) (hu : u = asked s port.val frame z)
    (hauth : u.flag CHN_MAINT_READ_AUTH = true) (htag : tagValid s z = false) :
    exec (.tallyRead port frame) s = .next (authFail u port.val z) := by
  change execTallyRead port frame s = _
  rw [execTallyRead, onMaint_asked h, ← hu, if_pos (by simp [hauth, htag])]

theorem exec_tallyClear (h : Asked s frame 4 z) (hu : u = asked s port.val frame z) (htag : tagValid s z = true)
    (hcount : beAt z.body 24 4 = u.rd TLY_STATUS_FF_COUNT) (hfew : u.rd TLY_STATUS_FF_COUNT < 2048) :
    exec (.tallyClear port frame) s = .next (answer (takeCounter (tallyClear u) z) port.val z true 0 []) := by
  change execTallyClear port frame s = _
  rw [execTallyClear, onMaint_asked h, ← hu, htag]
  dsimp only
  rw [if_neg (by decide), if_neg (by omega), if_neg (by omega)]

theorem exec_maintSparReset (h : Asked s frame 5 z) (htag : tagValid s z = true) :
    exec (.maintSparReset port frame) s = .next (sparReset
      ((acted s port.val frame z).orF SPR_RST_CAUSE_CAUSE 4)) := by
  change execMaintSparReset port frame s = _
  rw [execMaintSparReset, onMaint_asked h, htag]
  rfl

/-- A running unit that has not halted is reset at once (R49, R97). -/
theorem maintReset_run {t : State} (hhalt : t.flag EVT_CDLOSS_HALTED = false) (hps : t.pwr.ps = .run) :
    maintReset t = commandReset t 5 := by
  rw [maintReset, if_neg (by simp [hhalt]), if_neg (by simp [hps])]

theorem exec_maintDeviceReset (h : Asked s frame 6 z) (htag : tagValid s z = true)
    (hlock : s.flag WAK_FAIL_LOCKOUT = false) (hhalt : s.flag EVT_CDLOSS_HALTED = false) (hps : s.pwr.ps = .run) :
    exec (.maintDeviceReset port frame) s = .next (showDomains (commandReset
      (acted s port.val frame z) 5)) := by
  have k := acted_keeps s port.val frame z
  have hreset : maintReset (acted s port.val frame z) = commandReset (acted s port.val frame z) 5 :=
    maintReset_run ((k.flagOf (by decide) (by decide) (by decide)).trans hhalt) ((k.ps (by decide)).trans hps)
  change execMaintDeviceReset port frame s = _
  rw [execMaintDeviceReset, onMaint_asked h, htag, if_neg (by decide), if_neg (by simp [asked_flag, hlock])]
  rw [← hreset, acted]

theorem exec_bypassOn (h : Asked s frame 7 z) (htag : tagValid s z = true) (hon : s.flag CHN_BYPASS_BYP_MAINT = true) :
    exec (.bypassOn port frame) s =
      .next (wantBypass (acted s port.val frame z) 5) := by
  change execBypassOn port frame s = _
  rw [execBypassOn, onMaint_asked h, htag]
  rw [if_neg (by decide), if_neg (by simp [asked_flag, hon]), acted]

/-- A cause of the bypass ends; the bypass itself waits for LEAVE (R127). -/
def endCause (t : State) (cause : Nat) : State :=
  { t with chain := { t.chain with causes := t.chain.causes.filter (· != cause) } }

theorem not_mem_endCause (t : State) (cause : Nat) : cause ∉ (endCause t cause).chain.causes := by
  simp [endCause]

theorem exec_bypassOff (h : Asked s frame 8 z) (htag : tagValid s z = true) :
    exec (.bypassOff port frame) s =
      .next (endCause (acted s port.val frame z) 5) := by
  change execBypassOff port frame s = _
  rw [execBypassOff, onMaint_asked h, htag]
  rfl

end

/-! ### The bypass that P0 forces, sleep requests and whistles -/

theorem exec_bypassLeave {s : State} (hup : cdUp s = true) (v : Word) (lost : Nat) :
    exec (.bypassLeave .p0 v lost) s = .next (writeBypass s .p0 v lost) := by
  change whileCd s _ = _
  rw [whileCd_of_up hup]

/-- FORCE of CHN_BYPASS takes the bit written, sealed or not. -/
theorem force_writeWord (s : State) {v : Nat} (hv : bit v 1 = true) :
    (writeWord s 0x40030 v).flag CHN_BYPASS_FORCE = true := by
  have h := rd_writeWord_taken (v := v) s (off := 0x40030) (f := ⟨1, 1, .rw, 0, .volatile, 0, 1, []⟩) (r := _)
    rfl (by decide) (by decide) (by decide) (by decide) (by decide) (.inl rfl) (by decide)
  have hbit : bits v 1 1 = 1 := by simpa [bit, bits] using hv
  have hone : (writeWord s 0x40030 v).rd CHN_BYPASS_FORCE = 1 := by
    refine h.trans ?_
    simp [written, takenAs, merged, wordBits, clamp, hbit]
  rw [State.flag, hone]
  rfl

/-- FORCE written as 1, without LEAVE, becomes a cause of the bypass (R124). -/
theorem exec_bypassForce {s : State} {v : Word} (hup : cdUp s = true) (hleave : fieldIn CHN_BYPASS_LEAVE v = 0)
    (hv : bit v.toNat 1 = true) : exec (.bypassForce .p0 v) s =
      .next (wantBypass ((writeWord s 0x40030 v.toNat).put CHN_BYPASS_LEAVE false) 4) := by
  have hforce : ((writeWord s 0x40030 v.toNat).put CHN_BYPASS_LEAVE false).flag CHN_BYPASS_FORCE = true := by
    rw [State.flag, rd_put_key _ _ (by decide)]
    exact force_writeWord s hv
  change whileCd s _ = _
  rw [whileCd_of_up hup, writeBypass, if_neg (by decide)]
  dsimp only
  rw [if_pos hforce, if_neg (by omega)]

theorem bypassForced_flag (s : State) {v : Nat} (hv : bit v 1 = true) :
    (wantBypass ((writeWord s 0x40030 v).put CHN_BYPASS_LEAVE false) 4).flag CHN_BYPASS_FORCE = true := by
  rw [(wantBypass_keeps _ _).flagOf (by decide) (by decide) (by decide), State.flag, rd_put_key _ _ (by decide)]
  exact force_writeWord s hv

theorem exec_chainSleepReq {s : State} {port : Fin 2} (hup : cdUp s = true) (hps : s.pwr.ps = .run)
    (hlink : linkUp s port.val = true) : exec (.chainSleepReq port) s = .next (emit (raise s 43 false [0]
      [byte port.val]) (.sleepAck port.val (s.flag CHN_SLEEP_SLEEP_OK))) := by
  change whileCd s _ = _
  rw [whileCd_of_up hup, if_pos ⟨hps, hlink⟩]

/-- A whistle is sent on the port of a bit written 1. -/
def whistleIf (t : State) (b : Bool) (port : Nat) : State := if b then emit t (.whistle port) else t

@[simp] theorem whistleIf_rd (t : State) (b : Bool) (port : Nat) (f : Field) : (whistleIf t b port).rd f = t.rd f := by
  cases b <;> rfl

@[simp] theorem whistleIf_out (t : State) (b : Bool) (port : Nat) :
    (whistleIf t b port).out = t.out ++ if b then [.whistle port] else [] := by
  cases b
  · exact (List.append_nil _).symm
  · rfl

theorem exec_sendWhistle {s : State} (hup : cdUp s = true) (v : Word) : exec (.sendWhistle .p0 v) s =
    .next (whistleIf (whistleIf ((writeWord s 0x40058 v.toNat).wr CHN_SLEEP_SEND_WHISTLE 0)
      (bit (fieldIn CHN_SLEEP_SEND_WHISTLE v) 0) 0) (bit (fieldIn CHN_SLEEP_SEND_WHISTLE v) 1) 1) := by
  change whileCd s _ = _
  rw [whileCd_of_up hup, if_neg (by decide)]
  rfl

/-- Settles O11: each operation's own equation, and what the state it acts on has kept of the request's. -/
theorem maintenance : Obligations.Maintenance := by
  unfold Obligations.Maintenance
  refine ⟨fun port frame z u s h hu => exec_ident h hu, fun port frame z u s h hu => exec_maintStatus h hu,
    fun port frame z u s h hu hauth harea hmark => exec_tallyRead_status h hu hauth harea hmark,
    fun port frame z u s h hu hauth htag => exec_tallyRead_unauthorised h hu hauth htag,
    fun port frame z u s h hu htag hcount hfew => exec_tallyClear h hu htag hcount hfew,
    fun port frame z s h htag => ?sparReset, fun port frame z s h htag hlock hhalt hps hup => ?deviceReset,
    fun port frame z s h htag hon => ?on, fun port frame z s h htag => ?off, fun v s hup _ hleave hv => ?force,
    fun v lost s hup _ => exec_bypassLeave hup v lost, fun port s hup hps hlink => exec_chainSleepReq hup hps hlink,
    fun v s hup => ?whistle⟩
  case sparReset =>
    have k := acted_keeps s port.val frame z
    refine (execMaintSparReset_keeps port frame s).runs (exec_maintSparReset h htag) (by decide) (by decide) (by decide)
      ⟨sparReset_down _, ?_, ?_⟩
    · rw [sparReset_cause, rd_orF_same _ _ _ (by decide), k.rdOf (by decide) (by decide) (by decide)]
      rfl
    · rw [(sparReset_keeps _).rdOf (by decide) (by decide) (by decide), rd_orF_key _ _ (by decide), acted_counter]
  case deviceReset =>
    have hup' := ((acted_keeps s port.val frame z).cdUp (by decide) (by decide)).trans hup
    obtain ⟨hmem, hpar, hrng, hcd⟩ := showDomains_wasReset (commandReset_wasReset hup' 5)
    exact ⟨_, exec_maintDeviceReset h htag hlock hhalt hps, hcd, hmem, hpar, hrng⟩
  case on =>
    exact (execBypassOn_keeps port frame s).runs (exec_bypassOn h htag hon) (by decide) (by decide) (by decide)
      (mem_causes_wantBypass _ 5)
  case off =>
    exact (execBypassOff_keeps port frame s).runs (exec_bypassOff h htag) (by decide) (by decide) (by decide)
      ⟨not_mem_endCause _ 5, (acted_keeps s port.val frame z).flagOf (by decide) (by decide) (by decide)⟩
  case force =>
    exact (execBypassForce_keeps .p0 v s).runs (exec_bypassForce hup hleave hv) (by decide) (by decide) (by decide)
      ⟨mem_causes_wantBypass _ 4, bypassForced_flag s hv⟩
  case whistle =>
    have hout : (writeWord s 0x40058 v.toNat).out = s.out :=
      (writeWord_keepsAt at_0x40058 s v.toNat).plain .out (by decide) rfl
    refine (execSendWhistle_keeps .p0 v s).runs (exec_sendWhistle hup v) (by decide) (by decide) (by decide) ⟨?_, ?_⟩
    · rw [whistleIf_rd, whistleIf_rd]
      exact rd_wr_same _ CHN_SLEEP_SEND_WHISTLE 0 (by decide)
    · rw [whistleIf_out, whistleIf_out, wr_out, hout]

end Sys2Proof.Machine
end

section
/-! SUPPORT.
The limp inputs, the release and the drives of limp, and the limp table's staging and commit (R57, R58, R60, R207, R209,
R211).
-/

namespace Sys2Proof.Machine

/-! ### The limp inputs -/

/-- The outputs follow a limp input that has changed: by the applied table, or by their orphan states (R211, Table 6.9). -/
def followInput (s : State) (trigger : Nat) : State :=
  if limpRuns s then onTrigger s trigger else onTriggerOrphans s trigger

theorem followInput_keeps (s : State) (trigger : Nat) :
    Keeps [Reg.PAR_EVT_CNT, Reg.ACT_CLAIM, Reg.ACT_CNT, Reg.HS_STATE, Reg.HB_STATE, Reg.SV_STATE, Reg.SV_KRES,
      Reg.SV_CNT2, Reg.LED_STATE, Reg.LED_CNT, Reg.FIO_CAUSE, Reg.SW_CNT_VAL, Reg.SW_MSEC_STAT, Reg.TLY_CNT0]
      [.records, .freeCtr, .owed, .rng, .rings, .evt, .queue, .proxies, .act, .chs, .loss, .wire, .out] s
      (followInput s trigger) :=
  Keeps.ite (fun _ => onTrigger_keeps s trigger) fun _ =>
    (onTriggerOrphans_keeps s trigger).then_ (by decide) (by decide) (Keeps.refl s)

/-- What the limp inputs read: IGN, CRASH and CRASH_LATCH are fields of SPR_LIMP_IN (Table 2.7). -/
def ofLimpIn (f : Field) : Prop := f.off = 0x64 ∧ f.lsb < 64

theorem Keeps.limpIn {w : List Span} {g : List Part} {s t : State} (k : Keeps w g s t) (he : Reg.every ∉ w)
    (hc : clearOf w 0x64 = true) {f : Field} (hf : ofLimpIn f) : t.flag f = s.flag f :=
  k.flagOf he hf.2 (hf.1.symm ▸ hc)

theorem flag_put_key (s : State) {f h : Field} (b : Bool) (hn : f.key ≠ h.key) : (s.put h b).flag f = s.flag f := by
  rw [State.flag, State.flag, rd_put_key s b hn]

/-- A limp input outside the band between its thresholds reads its level, whatever it read before (Table 2.5). -/
theorem inputReading_high {mv high low : Nat} (h : high ≤ mv) (now : Bool) : inputReading mv high low now = true :=
  if_pos h

theorem inputReading_low {mv high low : Nat} (h : mv ≤ low) (hl : low < high) (now : Bool) :
    inputReading mv high low now = false := by
  rw [inputReading, if_neg (by omega), if_pos h]

theorem inputReading_between {mv high low : Nat} (h : low < mv ∧ mv < high) (now : Bool) :
    inputReading mv high low now = now := by
  rw [inputReading, if_neg (by omega), if_neg (by omega)]

/-- IGN has been accepted at a level: the input shows it, and an event reports it (R57, R58). -/
def ignTaken (s : State) (level : Bool) : State :=
  followInput (raise (s.put SPR_LIMP_IN_IGN level) 4 false [limpOwner s] [byte (if level then 1 else 0)]) 1

theorem ignTaken_flag (s : State) (level : Bool) : (ignTaken s level).flag SPR_LIMP_IN_IGN = level := by
  have hin : ofLimpIn SPR_LIMP_IN_IGN := ⟨rfl, by decide⟩
  rw [ignTaken, (followInput_keeps _ 1).limpIn (by decide) (by decide) hin,
    (raise_keeps _ _ _ _ _).limpIn (by decide) (by decide) hin]
  exact flag_put_same s SPR_LIMP_IN_IGN level (by decide) (by decide)

theorem exec_ignChange {mv heldUs : Nat} {s : State} (hr : sparRuns s = true)
    (hheld : 1000 * s.rd SPR_LIMP_CTL_IGN_DEB ≤ heldUs) {level : Bool}
    (hlevel : inputReading mv 5500 2500 (s.flag SPR_LIMP_IN_IGN) = level) (hnew : s.flag SPR_LIMP_IN_IGN = !level) :
    exec (.ignChange mv heldUs) s = .next (ignTaken s level) := by
  change execIgnChange mv heldUs s = _
  rw [execIgnChange]
  dsimp only
  rw [hlevel, if_neg (by simp [hr, hnew, hheld])]
  rfl

theorem exec_ignChange_none {mv heldUs : Nat} {s : State}
    (h : heldUs < 1000 * s.rd SPR_LIMP_CTL_IGN_DEB ∨ (2500 < mv ∧ mv < 5500)) :
    exec (.ignChange mv heldUs) s = .next s := by
  change execIgnChange mv heldUs s = _
  rw [execIgnChange]
  dsimp only
  refine if_pos ?_
  rcases h with h | h
  · simp [h]
  · simp [inputReading_between h]

/-- CRASH has been accepted at a level: a rise sets the latch, and an event reports both (R57). -/
def crashTaken (s : State) (level : Bool) : State :=
  let u := if level then (s.put SPR_LIMP_IN_CRASH level).put SPR_LIMP_IN_CRASH_LATCH true
           else s.put SPR_LIMP_IN_CRASH level
  raise u 5 true [limpOwner s] [byte (u.rd SPR_LIMP_IN_CRASH_LATCH), byte (if level then 1 else 0)]

/-- A latch that has just set acts (R58, R211). -/
theorem exec_crashEdge {mv heldUs : Nat} {s : State} (hr : sparRuns s = true) (hheld : 200 ≤ heldUs) {level : Bool}
    (hlevel : inputReading mv 3500 1500 (s.flag SPR_LIMP_IN_CRASH) = level) (hnew : s.flag SPR_LIMP_IN_CRASH = !level) :
    exec (.crashEdge mv heldUs) s = .next
      (if level && !s.flag SPR_LIMP_IN_CRASH_LATCH then onLatch (crashTaken s level) else crashTaken s level) := by
  have hlong : decide (heldUs < 200) = false := by simpa using hheld
  change execCrashEdge mv heldUs s = _
  rw [execCrashEdge]
  dsimp only
  rw [hlevel, if_neg (by simp [hr, hnew, hlong])]
  rfl

/-- The fields of SPR_LIMP_IN after an accepted edge are those that the edge leaves before its event. -/
theorem crashTaken_high (s : State) : (crashTaken s true).flag SPR_LIMP_IN_CRASH = true ∧
    (crashTaken s true).flag SPR_LIMP_IN_CRASH_LATCH = true := by
  refine ⟨((raise_keeps _ _ _ _ _).limpIn (by decide) (by decide) ⟨rfl, by decide⟩).trans ?_,
    ((raise_keeps _ _ _ _ _).limpIn (by decide) (by decide) ⟨rfl, by decide⟩).trans ?_⟩
  · rw [if_pos rfl, flag_put_key _ _ (by decide)]
    exact flag_put_same s SPR_LIMP_IN_CRASH true (by decide) (by decide)
  · exact flag_put_same _ SPR_LIMP_IN_CRASH_LATCH true (by decide) (by decide)

theorem crashTaken_low (s : State) : (crashTaken s false).flag SPR_LIMP_IN_CRASH = false ∧
    (crashTaken s false).flag SPR_LIMP_IN_CRASH_LATCH = s.flag SPR_LIMP_IN_CRASH_LATCH := by
  refine ⟨((raise_keeps _ _ _ _ _).limpIn (by decide) (by decide) ⟨rfl, by decide⟩).trans ?_,
    ((raise_keeps _ _ _ _ _).limpIn (by decide) (by decide) ⟨rfl, by decide⟩).trans ?_⟩
  · exact flag_put_same s SPR_LIMP_IN_CRASH false (by decide) (by decide)
  · exact flag_put_key s false (by decide)

theorem crashActed_high (s : State) (b : Bool) :
    (if true && b then onLatch (crashTaken s true) else crashTaken s true).flag SPR_LIMP_IN_CRASH = true ∧
    (if true && b then onLatch (crashTaken s true) else crashTaken s true).flag SPR_LIMP_IN_CRASH_LATCH = true := by
  obtain ⟨hcrash, hlatch⟩ := crashTaken_high s
  cases b
  · exact ⟨hcrash, hlatch⟩
  · exact ⟨((onLatch_keeps _).limpIn (by decide) (by decide) ⟨rfl, by decide⟩).trans hcrash,
      ((onLatch_keeps _).limpIn (by decide) (by decide) ⟨rfl, by decide⟩).trans hlatch⟩

/-- P0 has cleared the latch: the live holds end, and the outputs follow it (R211). -/
def latchCleared (s : State) : State :=
  followInput (allChans.foldl endLive (s.put SPR_LIMP_IN_CRASH_LATCH false)) 2

theorem exec_crashLatchClear {s : State} {v : Word} (hup : cdUp s = true)
    (hv : fieldIn SPR_LIMP_IN_CRASH_LATCH v = 1) (hset : s.flag SPR_LIMP_IN_CRASH_LATCH = true) :
    exec (.crashLatchClear .p0 v) s = .next (latchCleared s) := by
  change whileCd s _ = _
  rw [whileCd_of_up hup, if_neg (by decide), if_neg (by simp [hv, hset])]
  rfl

theorem latchCleared_keepsPut (s : State) {f : Field} (hf : ofLimpIn f) :
    (latchCleared s).flag f = (s.put SPR_LIMP_IN_CRASH_LATCH false).flag f := by
  have k : Keeps [] [.chs] (s.put SPR_LIMP_IN_CRASH_LATCH false) _ :=
    Keeps.foldl (fun u c => endLive_keeps u c) allChans (Keeps.refl _)
  exact ((followInput_keeps _ 2).limpIn (by decide) (by decide) hf).trans (k.limpIn (by decide) (by decide) hf)

theorem latchCleared_flags (s : State) : (latchCleared s).flag SPR_LIMP_IN_CRASH_LATCH = false ∧
    (latchCleared s).flag SPR_LIMP_IN_CRASH = s.flag SPR_LIMP_IN_CRASH := by
  refine ⟨(latchCleared_keepsPut s ⟨rfl, by decide⟩).trans ?_, (latchCleared_keepsPut s ⟨rfl, by decide⟩).trans ?_⟩
  · exact flag_put_same s SPR_LIMP_IN_CRASH_LATCH false (by decide) (by decide)
  · exact flag_put_key s false (by decide)

/-! ### The release -/

/-- A write of SPR_LIMP_CTL in which RELEASE has no effect leaves it 0 (R60). -/
theorem exec_limpRelease {s : State} (hup : cdUp s = true) (v : Word) : exec (.limpRelease .p0 v) s =
    .next (if isSealed (writeWord s 0x60 v.toNat) && (writeWord s 0x60 v.toNat).pwr.cd == .run then
      writeWord s 0x60 v.toNat else (writeWord s 0x60 v.toNat).put SPR_LIMP_CTL_RELEASE false) := by
  change whileCd s _ = _
  rw [whileCd_of_up hup, if_neg (by decide)]

/-- A word written to SPR_LIMP_CTL neither seals nor unseals. -/
theorem isSealed_writeLimpCtl (s : State) (v : Nat) : isSealed (writeWord s 0x60 v) = isSealed s := by
  have h := rd_writeWord_other (v := v) (k := PAR_SEAL_STATUS_SEALED) s (off := 0x60) (r := _) rfl (by decide) (by decide)
    (by decide)
  rw [isSealed, isSealed, State.flag, State.flag, h]

theorem release_writeLimpCtl (s : State) {v : Nat} (hv : bit v 0 = true) :
    (writeWord s 0x60 v).flag SPR_LIMP_CTL_RELEASE = true := by
  have h := rd_writeWord_taken (v := v) s (off := 0x60) (f := ⟨0, 1, .w1s, 0, .volatile, 0, 1, []⟩) (r := _)
    rfl (by decide) (by decide) (by decide) (by decide) (by decide) (.inr rfl) (by decide)
  have hbit : bits v 0 0 = 1 := by simpa [bit, bits] using hv
  have hone : (writeWord s 0x60 v).rd SPR_LIMP_CTL_RELEASE = 1 := by
    refine h.trans ?_
    simp [written, wordBits, hbit]
  rw [State.flag, hone]
  rfl

/-- Limp has ended: SPR_STATUS shows it, and no output is parked (R60). -/
def limpOver (u : State) : State :=
  { u.put SPR_STATUS_LIMP_ACTIVE false with act := { u.act with parked := false } }

theorem limpOver_active (u : State) : (limpOver u).flag SPR_STATUS_LIMP_ACTIVE = false :=
  flag_put_same u SPR_STATUS_LIMP_ACTIVE false (by decide) (by decide)

theorem limpOver_release (u : State) : (limpOver u).flag SPR_LIMP_CTL_RELEASE = u.flag SPR_LIMP_CTL_RELEASE := by
  change (u.put SPR_STATUS_LIMP_ACTIVE false).flag SPR_LIMP_CTL_RELEASE = _
  exact flag_put_key u false (by decide)

theorem exec_limpReleased {s u : State} (hup : cdUp s = true) (hrel : s.flag SPR_LIMP_CTL_RELEASE = true)
    (hlimp : s.flag SPR_STATUS_LIMP_ACTIVE = true) (hu : u = s.put SPR_LIMP_CTL_RELEASE false) :
    exec .limpReleased s = .next (allChans.foldl showCh (limpOver ((governing u).foldl releaseCh u))) := by
  have hactive : limpActive u = true := by
    rw [hu]
    exact (flag_put_key s false (by decide)).trans hlimp
  change whileCd s _ = _
  rw [whileCd_of_up hup, if_pos hrel]
  dsimp only
  rw [← hu, if_pos hactive]
  rfl

/-- What each named channel keeps of its limp state is its own; RELEASE itself has been taken (R60). -/
theorem released_release (s : State) (l : List Chan) :
    (limpOver (l.foldl releaseCh (s.put SPR_LIMP_CTL_RELEASE false))).flag SPR_LIMP_CTL_RELEASE = false := by
  have k : Keeps [] [.chs] (s.put SPR_LIMP_CTL_RELEASE false) (l.foldl releaseCh (s.put SPR_LIMP_CTL_RELEASE false)) :=
    Keeps.foldl (fun u c => releaseCh_keeps u c) l (Keeps.refl _)
  rw [limpOver_release, k.flagOf (by decide) (by decide) (by decide)]
  exact flag_put_same s SPR_LIMP_CTL_RELEASE false (by decide) (by decide)

/-- Showing the channels changes their own registers alone. -/
theorem shown_keeps (l : List Chan) (u : State) :
    Keeps [Reg.HS_STATE, Reg.HB_STATE, Reg.SV_STATE, Reg.LED_STATE, Reg.FIO_CAUSE] [] u (l.foldl showCh u) :=
  Keeps.foldl (fun t c => showCh_keeps t c) l (Keeps.refl u)

/-! ### Limp drives -/

/-- A drive of limp has come to its end: the bridge brakes (R209). -/
def driveEnded (s : State) (c : Chan) : State :=
  let u := switchTo s c (.bridge ⟨1, 0, 0, 0, 0, 0, false, false, false⟩)
  setChn u c { chn u c with limpDrive := .brake, driveEnd := some s.now, dir := (chn s c).limpDir - 2 }

theorem exec_limpDriveEnd {s : State} {hb : Fin 8} {c : Chan} (hc : c = master s ⟨2, hb.val⟩)
    (hdrive : (chn s c).limpDrive = .drive) (hwait : (chn s c).wait = none)
    (ht : 1000 * (chn s c).limpMs ≤ usNow s - (chn s c).runAt) :
    exec (.limpDriveEnd hb) s = .next (driveEnded s c) := by
  change execLimpDriveEnd hb s = _
  rw [execLimpDriveEnd]
  dsimp only
  rw [← hc, if_pos (by simp [hdrive, hwait, ht])]
  rfl

theorem driveEnded_chn (s : State) (c : Chan) : (chn (driveEnded s c) c).limpDrive = .brake ∧
    (chn (driveEnded s c) c).driveEnd = some s.now := by
  rw [driveEnded]
  dsimp only
  rw [chn_setChn_same]
  exact ⟨rfl, rfl⟩

/-- Every channel's limp drive is where it was. -/
def SameLimpDrives (s t : State) : Prop := ∀ c, (chn t c).limpDrive = (chn s c).limpDrive

theorem SameLimpDrives.trans {s t u : State} (h : SameLimpDrives s t) (h' : SameLimpDrives t u) : SameLimpDrives s u :=
  fun c => (h' c).trans (h c)

theorem sameLimpDrives_of_chs {s t : State} (h : t.chs = s.chs) : SameLimpDrives s t := fun c => by
  rw [chn, chn, h]

theorem Keeps.sameLimpDrives {w : List Span} {g : List Part} {s t : State} (k : Keeps w g s t) (hg : Part.chs ∉ g) :
    SameLimpDrives s t := sameLimpDrives_of_chs (k.plain .chs hg rfl)

theorem sameLimpDrives_setChn (s : State) {c : Chan} {x : Chn} (h : x.limpDrive = (chn s c).limpDrive) :
    SameLimpDrives s (setChn s c x) := by
  intro d
  by_cases hd : chKey d = chKey c
  · have hset : chn (setChn s c x) d = chn (setChn s c x) c := by rw [chn, chn, hd]
    have hold : chn s d = chn s c := by rw [chn, chn, hd]
    rw [hset, hold, chn_setChn_same, h]
  · rw [chn_setChn_other s x hd]

theorem openInrush_limpDrives (s : State) (c : Chan) (again : Bool) : SameLimpDrives s (openInrush s c again) := by
  unfold openInrush
  dsimp only
  split_ifs
  · exact fun _ => rfl
  · exact sameLimpDrives_of_chs rfl
  · exact sameLimpDrives_setChn s rfl

theorem switch1_limpDrives (s : State) (d : Drv) (c : Chan) : SameLimpDrives s (switch1 s d c) := by
  have hopen : SameLimpDrives s (if drvOn d && !drvOn (chn s c).drv then openInrush s c false else s) := by
    split
    · exact openInrush_limpDrives s c false
    · exact fun _ => rfl
  unfold switch1
  dsimp only
  refine hopen.trans (SameLimpDrives.trans (sameLimpDrives_setChn _ ?_) ((showAll_keeps _ c).sameLimpDrives (by decide)))
  rfl

theorem followOn_limpDrives (s : State) (c : Chan) : SameLimpDrives s (followOn s c) := by
  unfold followOn
  split
  · split
    · dsimp only
      split
      · exact fun _ => rfl
      · exact switch1_limpDrives s .on _
    · exact fun _ => rfl
  · exact fun _ => rfl

theorem switchTo_limpDrives (s : State) (c : Chan) (d : Drv) : SameLimpDrives s (switchTo s c d) := by
  have hlead := (switch1_limpDrives s d (master s c)).trans (followOn_limpDrives _ (master s c))
  unfold switchTo
  dsimp only
  split
  · exact hlead.trans (switch1_limpDrives _ d _)
  · exact hlead

/-- A bridge that goes off leaves every limp drive as it was. -/
theorem bridgeOff_limpDrives (s : State) (c : Chan) : SameLimpDrives s (bridgeOff s c) := by
  unfold bridgeOff
  dsimp only
  split
  · exact ((posLost_keeps s _).sameLimpDrives (by decide)).trans (switchTo_limpDrives _ _ _)
  · exact switchTo_limpDrives s _ _

theorem exec_limpBrakeEnd {s : State} {hb : Fin 8} {c : Chan} (hc : c = master s ⟨2, hb.val⟩)
    (hbrake : (chn s c).limpDrive = .brake) (ht : 20000 ≤ usNow s - (chn s c).runAt) :
    exec (.limpBrakeEnd hb) s = .next (bridgeOff (setChn s c { chn s c with limpDrive := .none }) c) := by
  change execLimpBrakeEnd hb s = _
  rw [execLimpBrakeEnd]
  dsimp only
  rw [← hc, if_pos (by simp [hbrake, ht])]

theorem brakeEnded_limpDrive (s : State) (c : Chan) :
    (chn (bridgeOff (setChn s c { chn s c with limpDrive := .none }) c) c).limpDrive = .none := by
  rw [bridgeOff_limpDrives _ c c, chn_setChn_same]

/-! ### Staging -/

/-- The pairing word is made of the fields of HB_PAIR alone. -/
theorem Keeps.hbPairWord {w : List Span} {g : List Part} {s t : State} (k : Keeps w g s t) (he : Reg.every ∉ w)
    (hc : clearOf w 0x90000 = true) : hbPairWord t = hbPairWord s := by
  have hpaired : ∀ n, t.rd (HB_PAIR_PAIRED n) = s.rd (HB_PAIR_PAIRED n) := fun n =>
    k.rdOf he (show 3 + 4 * (n % 8) < 64 by omega) hc
  have hpartner : ∀ n, t.rd (HB_PAIR_PARTNER n) = s.rd (HB_PAIR_PARTNER n) := fun n =>
    k.rdOf he (show 0 + 4 * (n % 8) < 64 by omega) hc
  simp only [Machine.hbPairWord, hpaired, hpartner]

theorem exec_limpStage {s : State} {v : Word} (hup : cdUp s = true) (hv : fieldIn ACT_LIMP_CTL_STAGE v ≠ 0)
    (hs : s.flag ACT_LIMP_CTL_STAGE = false) :
    exec (.limpStage .p0 v) s = .next (limpStage (s.put ACT_LIMP_CTL_STAGE true) (s.rd ACT_LIMP_ADDR_ADDR)) := by
  change whileCd s _ = _
  rw [whileCd_of_up hup, if_neg (by decide), if_neg hv, if_neg (by simp [hs])]

/-- A sealed unit refuses every image, and counts the attempt (R207). -/
theorem limpStage_sealed {s : State} (hs : isSealed s = true) (a : Nat) :
    limpStage s a = limpReport (violate s) 8 0 := by
  rw [limpStage]
  dsimp only
  rw [if_pos hs]

/-- The entries of an image, staged as a table. -/
def stagedOf (b : List Byte) : LimpCopy := ⟨true, leAt b 12 4, (limpOffs b).map (limpAt b), 0⟩

/-- An image without a fault is staged (R207, R210). -/
theorem limpStage_sound {s : State} {a : Nat} {b : List Byte} (hs : isSealed s = false)
    (hhead : limpHeader (readImage s a 16) = none) (hb : b = readImage s a (leAt (readImage s a 16) 8 4))
    (hsound : limpFault (hbPairWord s) b = none) :
    limpStage s a = limpReport { s with act := { s.act with staged := some (stagedOf b) } } 1 0 := by
  rw [limpStage]
  dsimp only
  rw [hhead, if_neg (by simp [hs]), if_neg (by decide), ← hb, hsound]
  rfl

theorem limpReport_result (s : State) (r o : Nat) : (limpReport s r o).rd ACT_LIMP_STATUS_RESULT = r % 16 := by
  rw [limpReport, rd_wr_key _ _ (by decide)]
  exact rd_wr_same s ACT_LIMP_STATUS_RESULT r (by decide)

theorem limpReport_offset (s : State) (r o : Nat) : (limpReport s r o).rd ACT_LIMP_STATUS_OFFSET = o % 2 ^ 24 :=
  rd_wr_same _ ACT_LIMP_STATUS_OFFSET o (by decide)

@[simp] theorem limpReport_act (s : State) (r o : Nat) : (limpReport s r o).act = s.act := rfl

/-! ### Commit -/

/-- The active copy and its identity, before the record of the commit (R207). -/
def limpWritten (s : State) (w : LimpCopy) : State :=
  let c : LimpCopy := { w with pair := hbPairWord s }
  let k := 1 - s.rd ACT_LIMP_INFO_COPY
  let a := if k = 0 then { s.act with copy0 := some c, staged := none } else { s.act with copy1 := some c, staged := none }
  (((({ s with act := a }.wr ACT_LIMP_INFO_COPY k).wr ACT_LIMP_INFO_ENTRIES c.entries.length).wr ACT_LIMP_INFO_LIMP_SEQ
    ((s.rd ACT_LIMP_INFO_LIMP_SEQ + 1) % 65536)).wr ACT_LIMP_ID_TABLE_ID c.id).wr ACT_LIMP_PAIR_PAIR c.pair

theorem limpWrite_tally (s : State) (w : LimpCopy) : ∃ payload, limpWrite s w = tally (limpWritten s w) 11 payload :=
  ⟨_, rfl⟩

theorem limpWritten_act (s : State) (w : LimpCopy) : (limpWritten s w).act.commitDue = s.act.commitDue ∧
    (limpWritten s w).act.staged = none := by
  simp only [limpWritten, wr_act]
  split <;> exact ⟨rfl, rfl⟩

/-- The commit moves on the sequence number, turns to the other copy and names the new table (R207). -/
theorem limpWritten_identity (s : State) (w : LimpCopy) :
    (limpWritten s w).rd ACT_LIMP_INFO_LIMP_SEQ = (s.rd ACT_LIMP_INFO_LIMP_SEQ + 1) % 65536 ∧
    (limpWritten s w).rd ACT_LIMP_INFO_COPY = 1 - s.rd ACT_LIMP_INFO_COPY ∧
    (limpWritten s w).rd ACT_LIMP_ID_TABLE_ID = w.id % 2 ^ 32 := by
  have hcopy : (1 - s.rd ACT_LIMP_INFO_COPY) % 2 ^ 1 = 1 - s.rd ACT_LIMP_INFO_COPY := Nat.mod_eq_of_lt (by omega)
  refine ⟨?_, ?_, ?_⟩
  · rw [limpWritten, rd_wr_key _ _ (by decide), rd_wr_key _ _ (by decide)]
    exact (rd_wr_same _ ACT_LIMP_INFO_LIMP_SEQ _ (by decide)).trans (Nat.mod_mod _ _)
  · rw [limpWritten, rd_wr_key _ _ (by decide), rd_wr_key _ _ (by decide), rd_wr_key _ _ (by decide),
      rd_wr_key _ _ (by decide)]
    exact (rd_wr_same _ ACT_LIMP_INFO_COPY _ (by decide)).trans hcopy
  · rw [limpWritten, rd_wr_key _ _ (by decide)]
    exact rd_wr_same _ ACT_LIMP_ID_TABLE_ID w.id (by decide)

section
variable {s : State} {w : LimpCopy} (hup : cdUp s = true) (hdue : s.act.commitDue = true) (hw : s.act.staged = some w)
include hup hdue hw

theorem exec_limpCommit_written (hpair : limpUpper (hbPairWord s) w.entries = none) (hruns : limpRuns s = false) :
    exec .limpCommit s = .next (limpWrite { s with act := { s.act with commitDue := false } } w) := by
  change whileCd s _ = _
  rw [whileCd_of_up hup, if_pos hdue]
  simp only [hw, hpair, hruns, Bool.false_eq_true, if_false]

theorem exec_limpCommit_running (hpair : limpUpper (hbPairWord s) w.entries = none) (hruns : limpRuns s = true) :
    exec .limpCommit s = .next (limpSwitch s (limpWrite { s with act := { s.act with commitDue := false } } w)) := by
  change whileCd s _ = _
  rw [whileCd_of_up hup, if_pos hdue]
  simp only [hw, hpair, hruns, if_true]

theorem exec_limpCommit_faulty {o : Nat} (hpair : limpUpper (hbPairWord s) w.entries = some o) :
    exec .limpCommit s = .next (raise (limpReport { s with act := { s.act with commitDue := false } } 9 o) 10 false [0]
      ([7, 0, 0, 0] ++ leBytes 4 w.id)) := by
  change whileCd s _ = _
  rw [whileCd_of_up hup, if_pos hdue]
  simp only [hw, hpair]

end

/-- Settles O5: each command's own equation, and what the inputs, the drives and the table's registers keep through the
events and the outputs that follow it. -/
theorem limpInputsAndTable : Obligations.LimpInputsAndTable := by
  unfold Obligations.LimpInputsAndTable
  refine ⟨fun mv heldUs s hr hheld hmv hign => ?ignHigh, fun mv heldUs s hr hheld hmv hign => ?ignLow,
    fun mv heldUs s h => exec_ignChange_none h, fun mv heldUs s hr hheld hmv hc => ?crashHigh,
    fun mv heldUs s hr hheld hmv hc => ?crashLow, fun v s hup hv hset => ?clear, fun v s hup hs => ?releaseEarly,
    fun v s hup hs hcd hv => ?release, fun s hup hrel hlimp => ?released, fun hb s hdrive hwait ht => ?driveEnd,
    fun hb s hbrake ht => ?brakeEnd, fun v b s hup hv hstage hs hhead hsound hb => ?stage,
    fun v s hup hv hstage hs => ?stageSealed, fun w s hup hdue hw hpair hruns => ?commit,
    fun w s hup hdue hw hpair hruns => exec_limpCommit_running hup hdue hw hpair hruns,
    fun w o s hup hdue hw hpair => ?commitFaulty⟩
  case ignHigh =>
    exact (execIgnChange_keeps mv heldUs s).runs (exec_ignChange hr hheld (inputReading_high hmv _) hign)
      (by decide) (by decide) (by decide) (ignTaken_flag s true)
  case ignLow =>
    exact (execIgnChange_keeps mv heldUs s).runs (exec_ignChange hr hheld (inputReading_low hmv (by decide) _) hign)
      (by decide) (by decide) (by decide) (ignTaken_flag s false)
  case crashHigh =>
    exact (execCrashEdge_keeps mv heldUs s).runs (exec_crashEdge hr hheld (inputReading_high hmv _) hc)
      (by decide) (by decide) (by decide) (crashActed_high s _)
  case crashLow =>
    exact (execCrashEdge_keeps mv heldUs s).runs (exec_crashEdge hr hheld (inputReading_low hmv (by decide) _) hc)
      (by decide) (by decide) (by decide) (crashTaken_low s)
  case clear =>
    exact (execCrashLatchClear_keeps .p0 v s).runs (exec_crashLatchClear hup hv hset) (by decide) (by decide) (by decide)
      (latchCleared_flags s)
  case releaseEarly =>
    have hactive : (writeWord s 0x60 v.toNat).flag SPR_STATUS_LIMP_ACTIVE = s.flag SPR_STATUS_LIMP_ACTIVE :=
      (writeWord_keepsAt at_0x60 s v.toNat).flagOf (by decide) (by decide) (by decide)
    have hexec := exec_limpRelease hup v
    rw [if_neg (by rw [isSealed_writeLimpCtl, isSealed, hs]; exact Bool.false_ne_true)] at hexec
    exact (execLimpRelease_keeps .p0 v s).runs hexec (by decide) (by decide) (by decide)
      ⟨flag_put_same _ SPR_LIMP_CTL_RELEASE false (by decide) (by decide),
        (flag_put_key _ false (by decide)).trans hactive⟩
  case release =>
    have hrun : (writeWord s 0x60 v.toNat).pwr.cd = .run :=
      ((writeWord_keepsAt at_0x60 s v.toNat).cd (by decide)).trans hcd
    have hexec := exec_limpRelease hup v
    rw [if_pos (by rw [isSealed_writeLimpCtl, isSealed, hs, hrun]; decide)] at hexec
    exact (execLimpRelease_keeps .p0 v s).runs hexec (by decide) (by decide) (by decide) (release_writeLimpCtl s hv)
  case released =>
    refine (execLimpReleased_keeps s).runs (exec_limpReleased hup hrel hlimp rfl) (by decide) (by decide) (by decide)
      ⟨?_, ?_, ?_⟩
    · exact ((shown_keeps _ _).flagOf (by decide) (by decide) (by decide)).trans (released_release s _)
    · exact ((shown_keeps _ _).flagOf (by decide) (by decide) (by decide)).trans (limpOver_active _)
    · exact congrArg (·.parked) ((shown_keeps allChans _).plain .act (by decide) rfl)
  case driveEnd =>
    exact (execLimpDriveEnd_keeps hb s).runs (exec_limpDriveEnd rfl hdrive hwait ht) (by decide) (by decide) (by decide)
      (driveEnded_chn s _)
  case brakeEnd =>
    exact (execLimpBrakeEnd_keeps hb s).runs (exec_limpBrakeEnd rfl hbrake ht) (by decide) (by decide) (by decide)
      (brakeEnded_limpDrive s _)
  case stage =>
    have k : Keeps [Reg.ACT_LIMP_CTL] [] s (s.put ACT_LIMP_CTL_STAGE true) :=
      (Keeps.refl s).put in_ACT_LIMP_CTL_STAGE (by decide)
    have hexec := exec_limpStage hup hv hstage
    rw [limpStage_sound (b := b) ((flag_put_key s true (by decide)).trans hs) (by rw [readImage_put, hhead])
      (by rw [readImage_put, readImage_put]; exact hb) (by rw [k.hbPairWord (by decide) (by decide), hsound])] at hexec
    exact (execLimpStage_keeps .p0 v s).runs hexec (by decide) (by decide) (by decide)
      ⟨limpReport_result _ 1 0, limpReport_offset _ 1 0, rfl⟩
  case stageSealed =>
    have hexec := exec_limpStage hup hv hstage
    rw [limpStage_sealed ((flag_put_key s true (by decide)).trans hs)] at hexec
    refine (execLimpStage_keeps .p0 v s).runs hexec (by decide) (by decide) (by decide)
      ⟨limpReport_result _ 8 0, rfl, ?_⟩
    rw [(limpReport_keeps _ 8 0).rdOf (by decide) (by decide) (by decide), violate, rd_bump_same _ _ _ (by decide),
      rd_put_key _ _ (by decide)]
    rfl
  case commit =>
    refine (execLimpCommit_keeps s).runs (exec_limpCommit_written hup hdue hw hpair hruns) (by decide) (by decide)
      (by decide) ?_
    obtain ⟨payload, htally⟩ := limpWrite_tally { s with act := { s.act with commitDue := false } } w
    obtain ⟨hcommit, hstaged⟩ := limpWritten_act { s with act := { s.act with commitDue := false } } w
    obtain ⟨hseq, hcopy, hid⟩ := limpWritten_identity { s with act := { s.act with commitDue := false } } w
    rw [htally, tally_act, tally_rd _ _ _ (by decide) (by decide), tally_rd _ _ _ (by decide) (by decide),
      tally_rd _ _ _ (by decide) (by decide)]
    exact ⟨hcommit, hstaged, hseq, hcopy, hid⟩
  case commitFaulty =>
    refine (execLimpCommit_keeps s).runs (exec_limpCommit_faulty hup hdue hw hpair) (by decide) (by decide) (by decide) ?_
    rw [raise_act, raise_rd _ _ _ _ _ (by decide) (by decide), raise_rd _ _ _ _ _ (by decide) (by decide),
      raise_rd _ _ _ _ _ (by decide) (by decide)]
    exact ⟨limpReport_result _ 9 o, limpReport_offset _ 9 o, hw, rfl,
      (limpReport_keeps _ 9 o).rdOf (by decide) (by decide) (by decide)⟩

end Sys2Proof.Machine
end

section
/-! SUPPORT.
The requests, the checks and the completion of power-state entries (R68 to R74, R84, R90; Tables 3.3 and 3.4).
-/

namespace Sys2Proof.Machine

/-! ### The cores -/

@[simp] theorem setCore_core (s : State) (k : Nat) (c : CoreState) :
    tabGet .run (setCore s k c).pwr.cores k = c := tabGet_set_same .run s.pwr.cores k c

/-- A core has executed WFI, and the time of it is held for CORE_IDLE_T (R69). -/
def coreRested (s : State) (k : Nat) (c : CoreState) : State :=
  setCore { s with pwr := { s.pwr with wfiAt := tabSet 0 s.pwr.wfiAt k s.now } } k c

theorem coreRested_core (s : State) (k : Nat) (c : CoreState) : tabGet .run (coreRested s k c).pwr.cores k = c :=
  setCore_core _ k c

theorem exec_coreWfi_idle {core : Fin 6} {s : State} (hup : cdUp s = true) (hps : s.pwr.ps = .run)
    (hnext : s.rd PWR_NEXT_NEXT = 0) : exec (.coreWfi core) s = .next (coreRested s core.val .wfi) := by
  change whileCd s _ = _
  rw [whileCd_of_up hup, if_neg (by simp [hps])]
  dsimp only
  rw [if_neg (fun h => h.1 hnext), if_pos hnext]
  rfl

/-- The last application core's WFI begins the entry that was asked for (R70). -/
theorem exec_coreWfi_last {core : Fin 6} {s : State} (hup : cdUp s = true) (hps : s.pwr.ps = .run)
    (hnext : s.rd PWR_NEXT_NEXT ≠ 0) (hentry : s.pwr.entry = none) (happ : core.val < 4)
    (hrest : coresRest (setCore s core.val .held) [0, 1, 2, 3] = true) : exec (.coreWfi core) s =
      .next (beginEntry (coreRested s core.val .held) (s.rd PWR_NEXT_NEXT) false) := by
  have hlast : coresRest (coreRested s core.val .held) [0, 1, 2, 3] = true := hrest
  change whileCd s _ = _
  rw [whileCd_of_up hup, if_neg (by simp [hps])]
  dsimp only
  rw [if_neg hnext, if_pos ⟨hnext, by simp [hentry], happ, hlast⟩]
  rfl

theorem exec_coreIdle {core : Fin 4} {s : State} (hup : cdUp s = true) (hps : s.pwr.ps = .run)
    (hwfi : tabGet .run s.pwr.cores core.val = .wfi)
    (hl : lasted s (tabGet 0 s.pwr.wfiAt core.val) (s.rd PWR_IDLE_CFG_CORE_IDLE_T / 10) = true) :
    exec (.coreIdle core) s = .next (setCore s core.val .idle) := by
  change whileCd s _ = _
  rw [whileCd_of_up hup, if_pos ⟨hps, hwfi, hl⟩]

theorem exec_coreWake {core : Fin 6} {s : State} (hup : cdUp s = true) (hps : s.pwr.ps = .run) :
    exec (.coreWake core) s = .next (setCore s core.val .run) := by
  change whileCd s _ = _
  rw [whileCd_of_up hup, if_pos hps]

theorem exec_devIdleTimeout {s : State} (hup : cdUp s = true) (hauto : s.flag PWR_CTL_AUTO = true)
    (hps : s.pwr.ps = .run) (hentry : s.pwr.entry = none) (hnext : s.rd PWR_NEXT_NEXT = 0)
    (hrest : coresRest s [0, 1, 2, 3, 4, 5] = true) (hwork : s.rng.work.any keepsAwake = false) :
    exec .devIdleTimeout s = .next (beginEntry s (idleTarget s) true) := by
  change whileCd s _ = _
  rw [whileCd_of_up hup, if_pos ⟨hauto, hps, by simp [hentry], hnext, hrest, by simp [hwork]⟩]

/-! ### PWR_NEXT and the safety partition's consent -/

theorem exec_pwrNextWrite_taken {v : Word} {s : State} (hup : cdUp s = true) (hv : fieldIn PWR_NEXT_NEXT v < 4)
    (hentry : s.pwr.entry = none) : exec (.pwrNextWrite .p0 v) s = .next (writeWord s 0x20000 v.toNat) := by
  change whileCd s _ = _
  rw [whileCd_of_up hup, if_neg (by decide), if_neg (by simp [hentry, hv])]

theorem exec_pwrNextWrite_refused {v : Word} {s : State} (hup : cdUp s = true)
    (h : fieldIn PWR_NEXT_NEXT v ≥ 4 ∨ s.pwr.entry.isSome = true) :
    exec (.pwrNextWrite .p0 v) s = .next (s.bump PWR_STATUS_REFUSED_CNT 1) := by
  change whileCd s _ = _
  rw [whileCd_of_up hup, if_neg (by decide), if_pos h]

theorem exec_pwrNextWrite_safety {v : Word} {s : State} (hup : cdUp s = true) :
    exec (.pwrNextWrite .safety v) s = .next (violate (s.bump PWR_STATUS_REFUSED_CNT 1)) := by
  change whileCd s _ = _
  rw [whileCd_of_up hup, if_pos rfl]

/-- Settles O57: a write refused during an entry counts, and is no other field's. -/
theorem entryRefusesNext : Obligations.EntryRefusesNext := by
  unfold Obligations.EntryRefusesNext
  intro v e s hup hentry
  exact ⟨_, exec_pwrNextWrite_refused hup (.inr (by simp [hentry])), fun k hk => rd_bump_key s 1 hk, rfl,
    rd_bump_same s PWR_STATUS_REFUSED_CNT 1 (by decide)⟩

theorem exec_pwrSafAck_given {v : Word} {s : State} (hup : cdUp s = true) (hv : fieldIn PWR_SAF_ACK_ACK v = 1) :
    exec (.pwrSafAck .safety v) s = .next (s.put PWR_SAF_ACK_ACK true) := by
  change whileCd s _ = _
  rw [whileCd_of_up hup, if_pos rfl, if_pos hv]

/-! ### The checks of an entry -/

/-- An entry that nothing holds back comes to its timed descriptors, the last check of Table 3.3 (R71). -/
theorem exec_powerEntry_timed {e : Entry} {s : State} (hup : cdUp s = true) (hentry : s.pwr.entry = some e)
    (hpassed : e.passed = false) (halarm : ¬ (2 ≤ e.target ∧ alarmPast s = true)) (hconsent : consentMissing s = false)
    (hbusy : entryBusy s = false) : exec .powerEntry s = .next (checkTimed s e) := by
  change whileCd s _ = _
  rw [whileCd_of_up hup]
  simp only [hentry, hpassed, Bool.false_eq_true, if_false, ge_iff_le, halarm, hconsent, hbusy, Bool.or_self]

theorem checkTimed_clear {e : Entry} {s : State} (h : timedPending s e.target = []) :
    checkTimed s e = { s with pwr := { s.pwr with entry := some { e with passed := true } } } := by
  rw [checkTimed]
  dsimp only
  rw [h, if_pos (.inl rfl)]
  rfl

theorem checkTimed_pending {e : Entry} {s : State} (h : timedPending s e.target ≠ [])
    (hforce : s.flag PWR_NEXT_FORCE = false) : checkTimed s e = stopEntry s 4 := by
  rw [checkTimed]
  dsimp only
  rw [if_neg (by simp [h, hforce])]

/-- A check that stops an entry ends it and shows its code, in RUN and in SLEEP (R71; log entry 84). -/
theorem stopEntry_ends (s : State) {code : Nat} (h : code < 16) :
    (stopEntry s code).pwr.entry = none ∧ (stopEntry s code).rd PWR_STATUS_ABORT = code := by
  have habort : (s.wr PWR_STATUS_ABORT code).rd PWR_STATUS_ABORT = code :=
    (rd_wr_same s PWR_STATUS_ABORT code (by decide)).trans (Nat.mod_eq_of_lt h)
  unfold stopEntry
  split
  · exact ⟨rfl, habort⟩
  · exact ⟨rfl, ((endRequest_keeps _).rdOf (by decide) (by decide) (by decide)).trans habort⟩

section
variable {e : Entry} {s : State} (hup : cdUp s = true) (hentry : s.pwr.entry = some e) (hpassed : e.passed = false)
  (hl : lasted s e.since (1000 * s.rd PWR_CTL_ENTRY_WAIT) = true)
include hup hentry hpassed hl

theorem exec_entryWaitTimeout_consent (hconsent : consentMissing s = true) :
    exec .entryWaitTimeout s = .next (stopEntry s 5) := by
  change whileCd s _ = _
  rw [whileCd_of_up hup]
  simp only [hentry, hpassed, hl, Bool.not_true, Bool.or_self, Bool.false_eq_true, if_false, hconsent, if_true]

theorem exec_entryWaitTimeout_busy (hconsent : consentMissing s = false) (hbusy : entryBusy s = true) :
    exec .entryWaitTimeout s = .next (stopEntry s 3) := by
  change whileCd s _ = _
  rw [whileCd_of_up hup]
  simp only [hentry, hpassed, hl, Bool.not_true, Bool.or_self, Bool.false_eq_true, if_false, hconsent, hbusy, if_true]

end

/-! ### The states entered -/

/-- The request and its consent have been answered, and ABORT is clear; `idle` says what asked for the entry (R84; log
entry 85). -/
def entryTaken (s : State) (idle : Bool) : State :=
  let s1 := ((s.wr PWR_NEXT_NEXT 0).wr PWR_SAF_ACK_ACK 0).wr PWR_STATUS_ABORT 0
  { s1 with pwr := { s1.pwr with idleEntry := idle, wakeAfter := none } }

theorem exec_entryComplete {e : Entry} {s : State} (hup : cdUp s = true) (hentry : s.pwr.entry = some e)
    (hpassed : e.passed = true) (hwake : s.pwr.wakeAfter = none) :
    exec .entryComplete s = .next (goTo (entryTaken s e.idle) e.target) := by
  change whileCd s _ = _
  rw [whileCd_of_up hup]
  simp only [hentry, hpassed, if_true, hwake]
  rfl

theorem goTo_entry (s : State) (target : Nat) : (goTo s target).pwr.entry = none := by
  unfold goTo
  exact congrArg (·.entry) (showDomains_pwr _)

/-- The state that is entered leaves the registers of the request as they are. -/
theorem goTo_rd (s : State) (target : Nat) {f : Field} (hf : f.lsb < 64)
    (hoff : f.off = 0x20000 ∨ f.off = 0x20008 ∨ f.off = 0x20030) : (goTo s target).rd f = s.rd f := by
  refine (goTo_keeps s target).rdOf (by decide) hf ?_
  rcases hoff with h | h | h <;> rw [h] <;> decide

theorem entryTaken_request (s : State) (idle : Bool) : (entryTaken s idle).rd PWR_NEXT_NEXT = 0 ∧
    (entryTaken s idle).rd PWR_STATUS_ABORT = 0 ∧ (entryTaken s idle).rd PWR_SAF_ACK_ACK = 0 := by
  refine ⟨?_, rd_wr_same _ PWR_STATUS_ABORT 0 (by decide), ?_⟩
  · change (((s.wr PWR_NEXT_NEXT 0).wr PWR_SAF_ACK_ACK 0).wr PWR_STATUS_ABORT 0).rd PWR_NEXT_NEXT = 0
    rw [rd_wr_key _ _ (by decide), rd_wr_key _ _ (by decide)]
    exact rd_wr_same s PWR_NEXT_NEXT 0 (by decide)
  · change (((s.wr PWR_NEXT_NEXT 0).wr PWR_SAF_ACK_ACK 0).wr PWR_STATUS_ABORT 0).rd PWR_SAF_ACK_ACK = 0
    rw [rd_wr_key _ _ (by decide)]
    exact rd_wr_same _ PWR_SAF_ACK_ACK 0 (by decide)

theorem goTo_sleep (s : State) : (goTo s 1).pwr.ps = .sleep := by
  unfold goTo
  exact congrArg (·.ps) (showDomains_pwr _)

/-- The control die and the link die are off (Table 3.4). -/
theorem diesDown_off (s : State) : (diesDown s).pwr.cd = .off ∧ (diesDown s).pwr.ldUp = false := by
  rw [diesDown, showStreams_pwr]
  exact ⟨rfl, rfl⟩

/-- OFF: both dies are off, and RAM is lost (Table 3.4). -/
theorem goOff_lost (s : State) : (goOff s).pwr.ps = .off ∧ (goOff s).pwr.cd = .off ∧ (goOff s).pwr.ldUp = false ∧
    (goOff s).mem = [] := by
  obtain ⟨hcd, hld⟩ := diesDown_off (outputsDown (detachAll s 4) [])
  have hrise : ∀ u : State,
      (allChans.foldl (fun t c => setChn t c { chn t c with dT := offRise t c (chn t c) }) u).pwr = u.pwr := fun u =>
    List.foldlRecOn allChans _ (motive := fun t : State => t.pwr = u.pwr) rfl fun t ht c _ => ht
  unfold goOff
  dsimp only
  rw [hrise]
  exact ⟨rfl, hcd, hld, rfl⟩

theorem goTo_off (s : State) : (goTo s 3).pwr.ps = .off ∧ (goTo s 3).pwr.cd = .off ∧ (goTo s 3).pwr.ldUp = false ∧
    (goTo s 3).mem = [] := by
  obtain ⟨hps, hcd, hld, hmem⟩ := goOff_lost s
  unfold goTo
  dsimp only
  simp only [showDomains_pwr, showDomains_mem, hps, hcd, hld, hmem, and_self]

/-! ### The timers that deepen a sleep -/

theorem exec_deepAfterTimeout {s : State} (hup : cdUp s = true) (hps : s.pwr.ps = .sleep)
    (hcfg : s.rd PWR_IDLE_CFG_DEEP_AFTER ≠ 0) (hentry : s.pwr.entry = none)
    (hl : lasted s s.pwr.entryAt (60000000 * s.rd PWR_IDLE_CFG_DEEP_AFTER) = true) :
    exec .deepAfterTimeout s = .next (beginEntry s 2 s.pwr.idleEntry) := by
  change whileCd s _ = _
  rw [whileCd_of_up hup, if_pos ⟨hps, hcfg, by simp [hentry], hl⟩]

theorem exec_offAfterTimeout {s : State} (hps : s.pwr.ps = .deep) (hseq : s.pwr.seq = none)
    (hcfg : s.rd PWR_IDLE_CFG_OFF_AFTER ≠ 0)
    (hl : lasted s s.pwr.entryAt (14400000000 * s.rd PWR_IDLE_CFG_OFF_AFTER) = true) (halarm : alarmPast s = false) :
    exec .offAfterTimeout s = .next (goTo s 3) := by
  change execOffAfterTimeout s = _
  rw [execOffAfterTimeout, if_pos ⟨hps, by simp [hseq], hcfg, hl⟩, if_neg (by simp [halarm])]

/-- Settles O6: each command's own equation; where the state is given by its frame, the frame is the command's law, and
what the state holds is read through the entry, its end or the state that it reaches. -/
theorem powerStates : Obligations.PowerStates := by
  unfold Obligations.PowerStates
  refine ⟨fun core s hup hps hnext => ?wfi, fun core s hup hps hnext hentry happ hrest => ?last,
    fun core s hup hps hwfi hl => ?idle, fun core s hup hps => ?wake,
    fun s hup hauto hps hentry hnext hrest hwork => ?devIdle,
    fun v s hup hv hentry => exec_pwrNextWrite_taken hup hv hentry, fun v s hup h => exec_pwrNextWrite_refused hup h,
    fun v s hup => exec_pwrNextWrite_safety hup, fun v s hup hv => ?consent,
    fun e s hup hentry hpassed halarm hconsent hbusy hnone => ?passes,
    fun e s hup hentry hpassed halarm hconsent hbusy hsome hforce => ?timed,
    fun e s hup hentry hpassed hl hconsent => ?waitConsent,
    fun e s hup hentry hpassed hl hconsent hbusy => ?waitBusy,
    fun e s hup hentry hpassed htarget hwake => ?sleep, fun e s hup hentry hpassed htarget hwake => ?off,
    fun s hup hps hcfg hentry hl => exec_deepAfterTimeout hup hps hcfg hentry hl,
    fun s hps hseq hcfg hl halarm => ?offAfter⟩
  case wfi =>
    exact (execCoreWfi_keeps core s).runs (exec_coreWfi_idle hup hps hnext) (by decide) (by decide) (by decide)
      ⟨coreRested_core _ _ _, rfl⟩
  case last =>
    exact (execCoreWfi_keeps core s).runs (exec_coreWfi_last hup hps hnext hentry happ hrest) (by decide) (by decide)
      (by decide) ⟨coreRested_core s core.val .held, rfl⟩
  case idle =>
    exact (execCoreIdle_keeps core s).runs (exec_coreIdle hup hps hwfi hl) (by decide) (by decide) (by decide)
      (setCore_core _ _ _)
  case wake =>
    exact (execCoreWake_keeps core s).runs (exec_coreWake hup hps) (by decide) (by decide) (by decide)
      (setCore_core _ _ _)
  case devIdle =>
    exact (execDevIdleTimeout_keeps s).runs (exec_devIdleTimeout hup hauto hps hentry hnext hrest hwork) (by decide)
      (by decide) (by decide) rfl
  case consent =>
    exact (execPwrSafAck_keeps .safety v s).runs (exec_pwrSafAck_given hup hv) (by decide) (by decide) (by decide)
      (flag_put_same s PWR_SAF_ACK_ACK true (by decide) (by decide))
  case passes =>
    have hexec := exec_powerEntry_timed hup hentry hpassed halarm hconsent hbusy
    rw [checkTimed_clear hnone] at hexec
    exact (execPowerEntry_keeps s).runs hexec (by decide) (by decide) (by decide) rfl
  case timed =>
    have hexec := exec_powerEntry_timed hup hentry hpassed halarm hconsent hbusy
    rw [checkTimed_pending hsome hforce] at hexec
    exact (execPowerEntry_keeps s).runs hexec (by decide) (by decide) (by decide) (stopEntry_ends s (by decide))
  case waitConsent =>
    exact (execEntryWaitTimeout_keeps s).runs (exec_entryWaitTimeout_consent hup hentry hpassed hl hconsent) (by decide)
      (by decide) (by decide) (stopEntry_ends s (by decide))
  case waitBusy =>
    exact (execEntryWaitTimeout_keeps s).runs (exec_entryWaitTimeout_busy hup hentry hpassed hl hconsent hbusy)
      (by decide) (by decide) (by decide) (stopEntry_ends s (by decide))
  case sleep =>
    have hexec := exec_entryComplete hup hentry hpassed hwake
    rw [htarget] at hexec
    obtain ⟨hnext, habort, hack⟩ := entryTaken_request s e.idle
    exact (execEntryComplete_keeps s).runs hexec (by decide) (by decide) (by decide)
      ⟨goTo_sleep _, goTo_entry _ 1, (goTo_rd _ 1 (by decide) (by decide)).trans hnext,
        (goTo_rd _ 1 (by decide) (by decide)).trans habort, (goTo_rd _ 1 (by decide) (by decide)).trans hack⟩
  case off =>
    have hexec := exec_entryComplete hup hentry hpassed hwake
    rw [htarget] at hexec
    exact (execEntryComplete_keeps s).runs hexec (by decide) (by decide) (by decide) (goTo_off _)
  case offAfter =>
    obtain ⟨hoff, hcd, -, -⟩ := goTo_off s
    exact ⟨_, exec_offAfterTimeout hps hseq hcfg hl halarm, hoff, hcd⟩

end Sys2Proof.Machine
end

section
/-! SUPPORT.
The protections of the outputs: over-current, the inrush window, retries, temperature, open load and the sharing of a
solenoid pair (R221 to R226, R230, R243, R245, R254, R264, R267, R287).
-/

namespace Sys2Proof.Machine

/-! ### Over-current -/

/-- A current at or above the upper limit of the threshold's tolerance trips a channel that can trip (R221, R230). -/
theorem comparator_above {s : State} {c : Chan} {ma : Nat} (htrip : canTrip s c = true)
    (h : 110 * latchUa s c ≤ 100000 * ma) (sw : List Byte) : comparator s c ma sw = latchOff s c sw := by
  simp only [comparator, htrip, overCurrent, h, if_true]

/-- A current below the lower limit of the tolerance does nothing, whether the channel can trip or not. -/
theorem comparator_below {s : State} {c : Chan} {ma : Nat} (h : 100000 * ma < 90 * latchUa s c) (sw : List Byte) :
    comparator s c ma sw = s := by
  have hnot : ¬ 110 * latchUa s c ≤ 100000 * ma := by omega
  simp only [comparator, overCurrent, hnot, h, if_false, if_true, Bool.false_eq_true, ite_self]

theorem exec_hsOvercurrent {c : Chan} (hk : c.kind = 1 ∨ c.kind = 5) (ma : Nat) (s : State) :
    exec (.hsOvercurrent c ma) s = .next (comparator s c ma []) := by
  change execHsOvercurrent c ma s = _
  rw [execHsOvercurrent, if_pos hk]

theorem exec_hbOvercurrent (hb : Fin 8) (low : Bool) (ma : Nat) (s : State) : exec (.hbOvercurrent hb low ma) s =
    .next (comparator s ⟨2, hb.val⟩ ma [byte (if low then 1 else 0)]) := rfl

theorem exec_svOvercurrent (sv : Fin 8) (ma : Nat) (s : State) :
    exec (.svOvercurrent sv ma) s = .next (comparator s ⟨3, sv.val⟩ ma []) := rfl

theorem exec_inrushEnd_hs {c : Chan} (hk : c.kind = 1) (s : State) :
    exec (.inrushEnd c) s = .next (s.put (HS_STATE_INRUSH c.idx) false) := by
  change execInrushEnd c s = _
  rw [execInrushEnd, if_pos hk]

/-! ### Retries -/

/-- A retry that is due restarts a high-side channel and is counted (R225, R230). -/
theorem exec_retryRestart_hs {c : Chan} {k : Nat} {s : State} (hretry : (chn s c).retry = some k)
    (hlatch : latched s c = true) (hl : lasted s (chn s c).retryAt (1000 * retryMs s c k) = true)
    (hstorm : s.flag SCL_STATUS_STORM = false) (hhold : s.flag SCL_RUN_RETRY_HOLD = false)
    (hdeep : (s.pwr.ps == .deep) = false) (hcool : (hot s (moved s c) && (moved s c).any (thermOff s)) = false)
    (hk : c.kind = 1) : exec (.retryRestart c) s =
      .next (supplyLost ((restartCh (setRetries s c k) (moved s c)).bump HS_CNT2_RETRIES_ALL 1) c) := by
  change execRetryRestart c s = _
  simp only [execRetryRestart, hretry, hlatch, hl, hstorm, hhold, hdeep, hcool, hk, Bool.not_true, Bool.or_self,
    Bool.false_eq_true, if_false, if_true]

theorem exec_retryCountReset_hs {c : Chan} {s : State} (hk : c.kind = 1) (hon : drvOn (chn s c).drv = true)
    (hlatch : latched s c = false) : exec (.retryCountReset c) s = .next (s.wr (HS_STATE_RETRIES c.idx) 0) := by
  change execRetryCountReset c s = _
  rw [execRetryCountReset, if_pos ⟨.inl hk, hon, by simp [hlatch]⟩, setRetries, if_pos hk]

/-! ### Temperature -/

/-- The reading of an existing channel is shown, and then trips it, restarts it or warns (R223, R224, R230). -/
theorem exec_tempSample {c : Chan} (hc : chOk c = true) (v : Int) {s u : State} (hu : u = showTemp s c v) :
    exec (.tempSample c v) s = .next
      (if 350 ≤ v then (if thermOff u (master u c) then u else thermalTrip u c)
        else if thermOff u (master u c) then
          (if thermAuto u c && !hot u (moved u (master u c)) && (chn u (master u c)).retry.isNone
              && (folClaim u c).isNone && u.pwr.ps != .deep then
            supplyLost (restartCh u (moved u (master u c))) (master u c) else u)
        else warnTemp u c v) := by
  subst hu
  change execTempSample c v s = _
  rw [execTempSample, if_neg (by simp [hc])]

/-! ### Open load -/

/-- A change of OPEN of a high-side channel that is on, sampled and no follower is shown, raised and counted (R226). -/
theorem exec_openLoadChange_hs {c : Chan} {s : State} (lo hi n vlo vhi : Nat) {isOpen : Bool} (hk : c.kind = 1)
    (hon : drvOn (chn s c).drv = true) (hc : chOk c = true) (hps : s.pwr.ps = .run) (hs : sampled s c = true)
    (hopen : isOpen = openSamples (openMa s c) lo hi n (s.flag (openF c)))
    (hdiag : s.flag (HS_CFG_DIAG_EN c.idx) = true) (hfol : folClaim s c = none) (hne : s.flag (openF c) ≠ isOpen) :
    exec (.openLoadChange c lo hi n vlo vhi) s = .next ((openChange s c isOpen 18 1).bump HS_CNT2_OL_EVENTS 1) := by
  have hkind : ¬ c.kind = 4 := by omega
  change execOpenLoadChange c lo hi n vlo vhi s = _
  rw [execOpenLoadChange, if_neg hkind, ← hopen, hk]
  exact congrArg _ (if_pos ⟨by simp [hon, hc, hps, hs], hdiag, by simp [hfol], hne⟩)

theorem openChange_changed {s : State} {c : Chan} {isOpen : Bool} (h : s.flag (openF c) ≠ isOpen) (source sub : Nat) :
    openChange s c isOpen source sub = raise (s.put (openF c) isOpen) source false [ownerOr0 s c.kind c.idx]
      (chPayload s c sub (if isOpen then 1 else 0)) := by
  rw [openChange, if_neg h]

theorem exec_hbOpenChange {hb : Fin 8} (lo hi : Nat) {s : State} {m : Chan} (hm : m = master s ⟨2, hb.val⟩)
    (hdrive : driving s m = true) (hramp : rampOver s m (2000 * s.rd (HB_DIAG_OL_DEB m.idx)) = true) :
    exec (.hbOpenChange hb lo hi) s = .next (openChange s m
      (openSamples (10 * s.rd (HB_DIAG_OL_THR m.idx)) lo hi 1 (s.flag (openF m))) 21 1) := by
  subst hm
  change execHbOpenChange hb lo hi s = _
  rw [execHbOpenChange, if_pos (by simp [hdrive, hramp])]

theorem exec_svOpenChange_held {sv : Fin 8} (lo hi : Nat) {p g : Nat} {s : State} {m : Chan}
    (hm : m = master s ⟨3, sv.val⟩) (hheld : (chn s m).drv = .hold p g)
    (htarget : 2 * (5 * s.rd (SV_DIAG_OL_THR m.idx)) ≤ svTarget s m) :
    exec (.svOpenChange sv lo hi) s = .next (openChange s m
      (openSamples (5 * s.rd (SV_DIAG_OL_THR m.idx)) lo hi 1 (s.flag (openF m))) 26 1) := by
  subst hm
  change execSvOpenChange sv lo hi s = _
  rw [execSvOpenChange, hheld, if_pos ⟨rfl, htarget⟩]

/-! ### The sharing of a solenoid pair -/

/-- A pair's sharing is compared at a sum of 1,000 mA or more, and a new excursion is raised (R254). -/
theorem exec_svShare {sv : Fin 8} (a b : Nat) {s : State} {m : Chan} (hm : m = master s ⟨3, sv.val⟩)
    (hpair : (members s m).length = 2) {high : Bool}
    (hhigh : high = (decide (1000 ≤ a + b) && decide (625 * (a + b) < 1000 * max a b))) :
    exec (.svShare sv a b) s = .next (if high ∧ !(chn s m).shareOn then
      raise (setChn s m { chn s m with shareOn := high }) 26 false [ownerOr0 s 3 m.idx]
        (chPayload s m 2 1 ++ [byte (100 * max a b / (a + b))]) else setChn s m { chn s m with shareOn := high }) := by
  subst hm hhigh
  change execSvShare sv a b s = _
  rw [execSvShare, if_neg (by simp [hpair])]

/-- Settles O19: each command's own equation, taken in the branch that the clause names. -/
theorem protectionTrips : Obligations.ProtectionTrips := by
  unfold Obligations.ProtectionTrips
  refine ⟨fun c ma s hk htrip h => ?hsAbove, fun c ma s hk h => ?hsBelow, fun hb low ma s htrip h => ?hb,
    fun sv ma s htrip h => ?sv, fun c s hk => exec_inrushEnd_hs hk s,
    fun c k s hretry hlatch hl hstorm hhold hdeep hcool hk =>
      exec_retryRestart_hs hretry hlatch hl hstorm hhold hdeep hcool hk,
    fun c s hk hon hlatch => exec_retryCountReset_hs hk hon hlatch, fun c v s hc hcold hv => ?trips,
    fun c v s hc hcold hv => ?warns, fun c v s hc htherm hv hauto hcool hdeep hretry hfol => ?restores,
    fun c lo hi n vlo vhi isOpen s hk hon hc hps hs hopen hdiag hfol hne => ?openLoad,
    fun hb lo hi s hdrive hramp => exec_hbOpenChange lo hi rfl hdrive hramp,
    fun sv lo hi p g s hheld htarget => exec_svOpenChange_held lo hi rfl hheld htarget,
    fun sv a b s hpair hsum hshare hoff => ?unequal, fun sv a b s hpair hsum => ?small⟩
  case hsAbove => rw [exec_hsOvercurrent hk, comparator_above htrip h]
  case hsBelow => rw [exec_hsOvercurrent hk, comparator_below h]
  case hb => rw [exec_hbOvercurrent, comparator_above htrip h]
  case sv => rw [exec_svOvercurrent, comparator_above htrip h]
  case trips => rw [exec_tempSample hc v rfl, if_pos hv, if_neg (by simp [hcold])]
  case warns => rw [exec_tempSample hc v rfl, if_neg (by omega), if_neg (by simp [hcold])]
  case restores =>
    have hawake : ((showTemp s c v).pwr.ps != .deep) = true := by simp [bne, hdeep]
    rw [exec_tempSample hc v rfl, if_neg (by omega), if_pos htherm,
      if_pos (by simp [hauto, hcool, hretry, hfol, hawake])]
  case openLoad =>
    rw [exec_openLoadChange_hs lo hi n vlo vhi hk hon hc hps hs hopen hdiag hfol hne, openChange_changed hne, hk]
  case unequal =>
    rw [exec_svShare a b rfl hpair (high := true) (by simp [hsum, hshare]), if_pos (by simp [hoff])]
  case small =>
    rw [exec_svShare a b rfl hpair (high := false) (by simp [hsum]), if_neg (by simp)]

end Sys2Proof.Machine
end

section
/-! SUPPORT.
The samples of the switch inputs, the conversions of the analog inputs and the calibration of the ADCs (R94, R296 to R299,
R302).
-/

namespace Sys2Proof.Machine

/-! ### Switch inputs -/

theorem exec_inputSample {s : State} (hup : cdUp s = true) (hps : s.pwr.ps = .run) (mv : List Nat) (vspar : Nat) :
    exec (.inputSample mv vspar) s = .next ((List.range 48).foldl (sampleInput mv vspar) s) := by
  change whileCd s _ = _
  rw [whileCd_of_up hup, if_pos hps]

/-- Every input has met a burst at its point of the grid (R299). -/
def burstTaken (mv : List Nat) (vspar : Nat) (s : State) : State :=
  (List.range 48).foldl (burstInput mv vspar) { s with sns := { s.sns with burstAt := s.now } }

/-- The first burst after an entry captures its levels, if none of them has woken the device (R94). -/
theorem exec_cyclicBurst_captures {s u : State} {mv : List Nat} {vspar : Nat} (hps : s.pwr.ps = .sleep)
    (hdue : burstDue s = true) (hnone : s.sns.captured = none) (hu : u = burstTaken mv vspar s)
    (hasleep : u.pwr.ps = .sleep) : exec (.cyclicBurst mv vspar) s =
      .next { u with sns := { u.sns with captured := some (contacts u) } } := by
  change execCyclicBurst mv vspar s = _
  unfold execCyclicBurst
  dsimp only
  rw [← burstTaken, ← hu]
  simp [hps, hdue, hnone, hasleep]

/-- A later burst keeps the levels that were captured (R94). -/
theorem exec_cyclicBurst_captured {s : State} {cap : Nat} (hps : s.pwr.ps = .deep) (hdue : burstDue s = true)
    (hsome : s.sns.captured = some cap) (mv : List Nat) (vspar : Nat) :
    exec (.cyclicBurst mv vspar) s = .next (burstTaken mv vspar s) := by
  change execCyclicBurst mv vspar s = _
  rw [execCyclicBurst, if_pos (by simp [hps, hdue])]
  dsimp only
  rw [if_neg (by simp [hsome]), burstTaken]

/-! ### Analog inputs -/

/-- A conversion shows its value and no fault (R297). -/
def converted (s : State) (m value : Nat) : State :=
  (({ s with sns := { s.sns with anaAt := tabSet 0 s.sns.anaAt m s.now } }).wr (SIN_ANA_VALUE m) value).wr
    SIN_AFLT_AFAULT (setBit (s.rd SIN_AFLT_AFAULT) m false)

/-- A voltage is never out of the range of a conversion, so that no event tells of it (R297, R298). -/
theorem exec_analogConvert_voltage {s : State} {m : Fin 16} (hen : s.flag (SIN_CFG_EN (32 + m.val)) = true)
    (hps : s.pwr.ps = .run) (hmode : s.rd (SIN_CFG_AMODE (32 + m.val)) = 1)
    (hl : lasted s (tabGet 0 s.sns.anaAt m.val) (1000 * s.rd (SIN_CFG_ANA_MS (32 + m.val))) = true)
    (hgood : bit (s.rd SIN_AFLT_AFAULT) m.val = false) (value : Nat) :
    exec (.analogConvert m value) s = .next (converted s m.val value) := by
  change execAnalogConvert m value s = _
  simp [execAnalogConvert, converted, hen, hps, hmode, hl, hgood]

theorem converted_value (s : State) (m value : Nat) : (converted s m value).rd (SIN_ANA_VALUE m) = value % 2 ^ 32 := by
  obtain ⟨-, hlsb⟩ := in_SIN_ANA_VALUE m
  have hoff : (SIN_ANA_VALUE m).off ≠ SIN_AFLT_AFAULT.off := by
    simp only [SIN_ANA_VALUE, SIN_AFLT_AFAULT]
    omega
  rw [converted, rd_wr_off _ _ hlsb (by decide) hoff]
  exact rd_wr_same _ (SIN_ANA_VALUE m) value (show 32 ≤ 64 by decide)

theorem converted_fault {s : State} {m : Nat} (hgood : bit (s.rd SIN_AFLT_AFAULT) m = false) (value : Nat) :
    (converted s m value).rd SIN_AFLT_AFAULT = s.rd SIN_AFLT_AFAULT % 2 ^ 16 := by
  rw [converted, rd_wr_same _ _ _ (by decide), setBit, if_pos hgood]
  rfl

/-! ### Calibration -/

/-- A departure beyond 1 % of full scale marks its SAR ADC as degraded and is counted (R302). -/
def calFailed (s : State) (adc : Nat) : State :=
  (s.orF SIN_CAL_CAL_DEGR (2 ^ adc)).bump SIN_CAL_CAL_FAILS 1

theorem calFailed_count (s : State) (adc : Nat) :
    (calFailed s adc).rd SIN_CAL_CAL_FAILS = satAdd 8 (s.rd SIN_CAL_CAL_FAILS) 1 := by
  rw [calFailed, rd_bump_same _ _ _ (by decide), rd_orF_key _ _ (by decide)]
  rfl

theorem exec_adcCalibrate_refused {s : State} {adc : Fin 16} {departure : Int} (h : 100 < departure.natAbs)
    (hadc : adc.val < 3) : exec (.adcCalibrate adc departure) s = .next (raise (calFailed s adc.val) 34 true [0]
      ([byte adc.val, 0] ++ leBytes 2 (intBits 16 departure))) := by
  change execAdcCalibrate adc departure s = _
  rw [execAdcCalibrate, if_neg (by omega)]
  dsimp only
  rw [if_pos hadc, calFailed]

theorem exec_adcCalibrate_good {departure : Int} (h : departure.natAbs ≤ 100) (adc : Fin 16) (s : State) :
    exec (.adcCalibrate adc departure) s = .next s := by
  change execAdcCalibrate adc departure s = _
  rw [execAdcCalibrate, if_pos (.inl h)]

/-- Settles O23: each command's own equation, and the fields of its next state read through the updates it makes. -/
theorem inputsAndConversions : Obligations.InputsAndConversions := by
  unfold Obligations.InputsAndConversions
  refine ⟨fun mv vspar s hup hps => exec_inputSample hup hps mv vspar,
    fun mv vspar u s hps hdue hnone hu hasleep => exec_cyclicBurst_captures hps hdue hnone hu hasleep,
    fun mv vspar cap s hps hdue hsome => exec_cyclicBurst_captured hps hdue hsome mv vspar,
    fun m value s hen hps hmode hl hgood => ?convert, fun adc departure s h hadc => ?refused,
    fun adc departure s h => exec_adcCalibrate_good h adc s⟩
  case convert =>
    exact (execAnalogConvert_keeps m value s).runs (exec_analogConvert_voltage hen hps hmode hl hgood value) (by decide)
      (by decide) (by decide) ⟨converted_value s m.val value, converted_fault hgood value⟩
  case refused =>
    exact (execAdcCalibrate_keeps adc departure s).runs (exec_adcCalibrate_refused h hadc) (by decide) (by decide)
      (by decide) ((raise_rd _ _ _ _ _ (by decide) (by decide)).trans (calFailed_count s adc.val))

end Sys2Proof.Machine
end

section
/-! SUPPORT.
What a wake event is taken for in the state that the device is in (R92, R95, R97 to R99, R103, R107).
-/

namespace Sys2Proof.Machine

/-! ### An event that is accepted -/

/-- A source has been seen (R92). -/
def wakeSeen (s : State) (code : Nat) : State := s.orF WAK_SEEN_SEEN (2 ^ code)

theorem wakeSeen_seen (s : State) (code : Nat) :
    (wakeSeen s code).rd WAK_SEEN_SEEN = (s.rd WAK_SEEN_SEEN ||| 2 ^ code) % 2 ^ 16 :=
  rd_orF_same s WAK_SEEN_SEEN (2 ^ code) (by decide)

theorem wakeSeen_lockout (s : State) (code : Nat) :
    (wakeSeen s code).flag WAK_FAIL_LOCKOUT = s.flag WAK_FAIL_LOCKOUT := by
  rw [State.flag, State.flag, wakeSeen, rd_orF_key s _ (by decide)]

/-- Without LOCKOUT, a source other than WAKE_N acts as the state of the device says. -/
theorem acceptWake_acts {s : State} {code : Nat} (hcode : code ≠ 2) (hlock : s.flag WAK_FAIL_LOCKOUT = false)
    (index : Nat) : acceptWake s code index = wakeNow (wakeSeen s code) code index := by
  have hfree : (wakeSeen s code).flag WAK_FAIL_LOCKOUT = false := (wakeSeen_lockout s code).trans hlock
  unfold acceptWake
  dsimp only
  rw [← wakeSeen, if_neg (fun h => hcode h.1), if_neg (by simp [hfree])]

/-- Under LOCKOUT, such a source is counted and does nothing (R107). -/
theorem acceptWake_locked {s : State} {code : Nat} (hcode : code ≠ 2) (hlock : s.flag WAK_FAIL_LOCKOUT = true)
    (index : Nat) : acceptWake s code index = (wakeSeen s code).bump WAK_FAIL_LOCKED_EVENTS 1 := by
  have hlocked : (wakeSeen s code).flag WAK_FAIL_LOCKOUT = true := (wakeSeen_lockout s code).trans hlock
  unfold acceptWake
  dsimp only
  rw [← wakeSeen, if_neg (fun h => hcode h.1), if_pos hlocked, if_neg hcode]

theorem wakeNow_sleep {s : State} (hps : s.pwr.ps = .sleep) (hentry : s.pwr.entry = none) (hseq : s.pwr.seq = none)
    (code index : Nat) : wakeNow s code index = wakeSleep s code index := by
  simp only [wakeNow, hseq, hentry, hps]

theorem wakeNow_deep {s : State} (hps : s.pwr.ps = .deep) (hentry : s.pwr.entry = none) (hseq : s.pwr.seq = none)
    (code index : Nat) : wakeNow s code index = startSeq s .deep code index := by
  simp only [wakeNow, hseq, hentry, hps]

/-! ### The end of SLEEP -/

/-- The wake from SLEEP is reported, before its first instruction (R98, R99). -/
def wakeReported (s : State) (code index : Nat) : State :=
  reportWake ((endRequest (adapt s false s.now)).wr PWR_STATUS_LAST_STATE 2) code index 1

/-- The first instruction after SLEEP has been reached (R80). -/
def sleepEnded (s : State) (code index : Nat) : State :=
  let u := wakeReported s code index
  firstInstr (wakeStreams { u with pwr := { u.pwr with ps := .run, owed := [], woke := some s.now } })

/-- What follows the first instruction: the wake-up signals, the events and the signals that were owed (R89, R375). -/
theorem wakeSleep_keepsEnded (s : State) (code index : Nat) :
    Keeps [Reg.PWR_DOM_STATUS, Reg.PAR_EVT_CNT, Reg.SW_CNT_VAL, Reg.SW_MSEC_STAT, Reg.TLY_CNT0]
      [.records, .owed, .rings, .evt, .queue, .proxies, .loss, .wire, .out] (sleepEnded s code index)
      (wakeSleep s code index) :=
  Keeps.foldl (fun t p => (signal_keeps t p).mono (of_regsWithin (by decide)) (of_within (by decide))) _ <|
    (wakeDone_keeps _ _).then_ (by decide) (by decide) <| (showDomains_keeps _).then_ (by decide) (by decide) <|
    (segWake_keeps _).then_ (by decide) (by decide) (Keeps.refl _)

theorem wakeReported_reason {s : State} {code index : Nat} (hcode : code < 32) (hindex : index < 64) :
    (wakeReported s code index).rd WAK_REASON_CODE = code ∧ (wakeReported s code index).rd WAK_REASON_INDEX = index ∧
    (wakeReported s code index).rd WAK_REASON_ATTEMPT = 1 ∧
    (wakeReported s code index).rd PWR_STATUS_LAST_STATE = 2 := by
  unfold wakeReported reportWake
  refine ⟨?_, ?_, rd_wr_same _ WAK_REASON_ATTEMPT 1 (by decide), ?_⟩
  · rw [rd_wr_key _ _ (by decide), rd_wr_key _ _ (by decide), rd_wr_same _ _ _ (by decide)]
    exact Nat.mod_eq_of_lt hcode
  · rw [rd_wr_key _ _ (by decide), rd_wr_same _ _ _ (by decide)]
    exact Nat.mod_eq_of_lt hindex
  · rw [rd_wr_key _ _ (by decide), rd_wr_key _ _ (by decide), rd_wr_key _ _ (by decide)]
    exact rd_wr_same _ PWR_STATUS_LAST_STATE 2 (by decide)

theorem sleepEnded_rd (s : State) (code index : Nat) {f : Field} (hf : f.lsb < 64)
    (hoff : f.off = 0x30020 ∨ f.off = 0x20030) : (sleepEnded s code index).rd f = (wakeReported s code index).rd f := by
  refine (wakeStreams_keeps _).rdOf (by decide) hf ?_
  rcases hoff with h | h <;> rw [h] <;> decide

/-- What a wake from SLEEP leaves (R80, R98, R99). -/
theorem wakeSleep_runs {s : State} {code index : Nat} (hcode : code < 32) (hindex : index < 64) :
    (wakeSleep s code index).pwr.ps = .run ∧ (wakeSleep s code index).rd WAK_REASON_CODE = code ∧
    (wakeSleep s code index).rd WAK_REASON_INDEX = index ∧ (wakeSleep s code index).rd WAK_REASON_ATTEMPT = 1 ∧
    (wakeSleep s code index).rd PWR_STATUS_LAST_STATE = 2 ∧ (wakeSleep s code index).spar.wdgOn = true ∧
    (wakeSleep s code index).pwr.armed = true := by
  have k := wakeSleep_keepsEnded s code index
  have reads {f : Field} (hf : f.lsb < 64) (hoff : f.off = 0x30020 ∨ f.off = 0x20030) :
      (wakeSleep s code index).rd f = (wakeReported s code index).rd f := by
    refine (k.rdOf (by decide) hf ?_).trans (sleepEnded_rd s code index hf hoff)
    rcases hoff with h | h <;> rw [h] <;> decide
  obtain ⟨hc, hi, ha, hl⟩ := wakeReported_reason (s := s) hcode hindex
  exact ⟨(k.ps (by decide)).trans ((wakeStreams_keeps _).ps (by decide)),
    (reads (by decide) (by decide)).trans hc, (reads (by decide) (by decide)).trans hi,
    (reads (by decide) (by decide)).trans ha, (reads (by decide) (by decide)).trans hl,
    congrArg (·.wdgOn) (k.plain .spar (by decide) rfl), congrArg (·.armed) (k.plain .pwr (by decide) rfl)⟩

/-! ### The commands -/

theorem signalSeen_plain (s : State) {code : Nat} (h : code ≠ 9 ∧ code ≠ 7) (index : Nat) :
    signalSeen s code index = s := by
  rw [signalSeen, if_neg h.1, if_neg (fun c => h.2 c.1)]

/-- A signal of a bus or a chain port that passes its filter is accepted when its source is armed (R92). -/
theorem exec_wakeEvent_bus {code : Fin 16} {index : Fin 64} {sig : WakeSig} {s : State} (hp : s.spar.powered = true)
    (hup : s.spar.up = true) (hside : sideband s = true) (hpass : filter s code.val sig = some true)
    (harm : armed s code.val index.val = true) (hcode : 6 ≤ code.val ∧ code.val ≤ 9) :
    exec (.wakeEvent code index sig) s =
      .next (acceptWake (signalSeen s code.val index.val) code.val index.val) := by
  have hne : code.val ≠ 2 := by omega
  have hpin : pinAfter s code.val sig true = s := by
    unfold pinAfter
    split
    · exact absurd ‹_› hne
    · exact absurd ‹_› hne
    · rfl
  have hfalls : falls s code.val = true := by simp [falls, hne]
  have hsource : (([2, 6, 7, 8, 9] : List Nat).all (· != code.val)) = false := by
    have : code.val = 6 ∨ code.val = 7 ∨ code.val = 8 ∨ code.val = 9 := by omega
    rcases this with h | h | h | h <;> rw [h] <;> rfl
  change execWakeEvent code index sig s = _
  unfold execWakeEvent
  simp only [hpass, hpin, hp, hfalls, hsource, harm, hup, hside, Bool.not_true, Bool.or_self, Bool.or_true,
    Bool.and_self, Bool.false_eq_true, if_false, if_true]

/-- WAKE_N is always armed; it needs the transition of a pin that was not low at the entry (R92, R97, R547). -/
theorem exec_wakeEvent_pin {index : Fin 64} {sig : WakeSig} {s : State} (hp : s.spar.powered = true)
    (hlevel : s.flag PWR_PINS_WAKEN_LVL = true) (hheld : s.pwr.pinHeld = false) (hpass : filter s 2 sig = some true) :
    exec (.wakeEvent 2 index sig) s = .next (acceptWake (pinAfter s 2 sig true) 2 index.val) := by
  have hval : (2 : Fin 16).val = 2 := rfl
  have hfalls : falls s 2 = true := by simp [falls, hlevel, hheld]
  have hsource : (([2, 6, 7, 8, 9] : List Nat).all (· != 2)) = false := rfl
  have harm : armed s 2 index.val = true := rfl
  change execWakeEvent 2 index sig s = _
  unfold execWakeEvent
  simp only [hval, hpass, hp, hfalls, hsource, harm, signalSeen_plain _ (by decide : (2 : Nat) ≠ 9 ∧ (2 : Nat) ≠ 7),
    beq_self_eq_true, Bool.true_or, Bool.not_true, Bool.or_self, Bool.and_self, Bool.false_eq_true, if_false, if_true]

/-- A tone within the limits of Table 4.1 on an armed port is accepted (R95). -/
theorem exec_whistleDetect {port : Fin 2} {kHz mV onUs offUs periods : Nat} {s : State}
    (hkHz : 2500 ≤ kHz ∧ kHz ≤ 3750) (hmV : 200 ≤ mV) (hon : 240 ≤ onUs ∧ onUs ≤ 360)
    (hoff : 80 ≤ offUs ∧ offUs ≤ 120) (hperiods : 3 ≤ periods) (hp : s.spar.powered = true) (hup : s.spar.up = true)
    (hside : sideband s = true) (harm : armed s 10 port.val = true) :
    exec (.whistleDetect port kHz mV onUs offUs periods) s = .next (acceptWake s 10 port.val) := by
  change execWhistleDetect port kHz mV onUs offUs periods s = _
  simp only [execWhistleDetect, hkHz, hmV, hon, hoff, hperiods, hp, hup, hside, harm, decide_true, Bool.and_self,
    if_true]

theorem exec_whistleForward {s : State} (hup : cdUp s = true) (hcode : s.rd WAK_REASON_CODE = 10)
    (hfwd : s.flag WAK_FILT_WHISTLE_FWD = true) (hlink : linkUp s (1 - s.rd WAK_REASON_INDEX % 2) = false) :
    exec .whistleForward s = .next (emit s (.whistle (1 - s.rd WAK_REASON_INDEX % 2))) := by
  change whileCd s _ = _
  rw [whileCd_of_up hup]
  dsimp only
  rw [if_pos ⟨hcode, hfwd, by simp [hlink]⟩]

/-- Settles O7: each command accepts its event, and what an accepted event does is read through the state in which the
device has seen it. -/
theorem wakeEvents : Obligations.WakeEvents := by
  unfold Obligations.WakeEvents
  refine ⟨fun code index sig s hp hup hside hpass harm hcode hps hentry hseq _ hlock => ?sleep,
    fun code index sig s hp hup hside hpass harm hcode hps hentry hseq _ hlock => ?deep,
    fun code index sig s hp hup hside hpass harm hcode hlock => ?locked,
    fun index sig s hp hlevel hheld hpass => exec_wakeEvent_pin hp hlevel hheld hpass,
    fun code index sig s hp hup hside hpass harm hcode => exec_wakeEvent_bus hp hup hside hpass harm (by omega),
    fun port kHz mV onUs offUs periods s h1 h2 h3 h4 h5 h6 h7 h8 hp hup hside harm hps hentry hseq _ hlock => ?whistle,
    fun s hup hcode hfwd hlink => ?forward⟩
  case sleep =>
    have hexec := exec_wakeEvent_bus hp hup hside hpass harm (by omega)
    rw [signalSeen_plain s (by omega), acceptWake_acts (by omega) hlock,
      wakeNow_sleep (s := wakeSeen s code.val) hps hentry hseq] at hexec
    exact ⟨_, hexec, wakeSleep_runs (by omega) index.isLt⟩
  case deep =>
    have hexec := exec_wakeEvent_bus hp hup hside hpass harm (by omega)
    rw [signalSeen_plain s (by omega), acceptWake_acts (by omega) hlock,
      wakeNow_deep (s := wakeSeen s code.val) hps hentry hseq] at hexec
    exact ⟨_, hexec, hps, rfl, wakeSeen_seen s code.val⟩
  case locked =>
    have hexec := exec_wakeEvent_bus hp hup hside hpass harm (by omega)
    rw [signalSeen_plain s (by omega), acceptWake_locked (by omega) hlock] at hexec
    refine ⟨_, hexec, rfl, ?_⟩
    rw [rd_bump_same _ _ _ (by decide), wakeSeen, rd_orF_key s _ (by decide)]
    rfl
  case whistle =>
    have hexec := exec_whistleDetect ⟨h1, h2⟩ h3 ⟨h4, h5⟩ ⟨h6, h7⟩ h8 hp hup hside harm
    rw [acceptWake_acts (by decide) hlock, wakeNow_deep (s := wakeSeen s 10) hps hentry hseq] at hexec
    exact ⟨_, hexec, rfl⟩
  case forward =>
    exact (execWhistleForward_keeps s).runs (exec_whistleForward hup hcode hfwd hlink) (by decide) (by decide)
      (by decide) rfl

end Sys2Proof.Machine
end

section
/-! SUPPORT.
The attempts of a wake sequence: their start, their rails and their failure (R100 to R107, R550).
-/

namespace Sys2Proof.Machine

theorem Keeps.seq {w : List Span} {g : List Part} {s t : State} (k : Keeps w g s t) (hg : Part.pwr ∉ g) :
    t.pwr.seq = s.pwr.seq := congrArg (·.seq) (k.plain .pwr hg rfl)

/-! ### The start of an attempt -/

theorem showDomains_onSeq_seq {u : State} {q : WakeSeq} (h : u.pwr.seq = some q) (f : WakeSeq → WakeSeq) :
    (showDomains (onSeq u f)).pwr.seq = some (f q) := by
  rw [showDomains_pwr, onSeq, h]
  rfl

/-- The sequence as its attempt starts: OFF and power-on starts wait for the precharge of HOLD (R100, R550). -/
def attemptStarted (u : State) (q r : WakeSeq) : WakeSeq :=
  { r with running := true, corePg := false, ioPg := false, linkPg := u.pwr.ldUp,
           bucks := !((q.kind == .off || q.kind == .por) && !q.holdOk), mark := u.now }

/-- An attempt that is due starts in the state that the first one has reset. -/
theorem exec_wakeAttempt {q : WakeSeq} {s u : State} (hq : s.pwr.seq = some q) (hrun : q.running = false)
    (hin : s.sto.inputLow = false) (hafter : afterFailure s q = true) (hpause : paused s q = false)
    (hu : u = if q.attempt = 1 then firstAttempt { s with sto := { s.sto with holdLate := false } } q.kind else s) :
    exec .wakeAttempt s = .next (showDomains (onSeq u (attemptStarted u q))) := by
  subst hu
  change execWakeAttempt s = _
  rw [execWakeAttempt, hq]
  dsimp only
  rw [if_neg (by simp [hrun, hin, hafter, hpause])]
  rfl

/-- A start from DEEP or from power-on leaves the sequence, the link die and the time as they are (R102). -/
theorem firstAttempt_seq {kind : StartKind} (h : kind = .por ∨ kind = .deep) (s : State) :
    (firstAttempt s kind).pwr.seq = s.pwr.seq ∧ (firstAttempt s kind).pwr.ldUp = s.pwr.ldUp ∧
    (firstAttempt s kind).now = s.now := by
  rcases h with rfl | rfl
  · have hpwr := (limpApply_keeps s).plain .pwr (by decide) rfl
    exact ⟨congrArg (·.seq) hpwr, congrArg (·.ldUp) hpwr, (limpApply_keeps s).plain .now (by decide) rfl⟩
  · exact ⟨rfl, rfl, rfl⟩

/-! ### Precharge and the rails -/

/-- The trip of HOLD's precharge, 5 ms or more after the event, enables the bucks (R550). -/
theorem exec_holdPrechargeTrip {q : WakeSeq} {s : State} (hq : s.pwr.seq = some q) (hrun : q.running = true)
    (hkind : q.kind = .off ∨ q.kind = .por) (hl : lasted s q.since 5000 = true) :
    exec .holdPrechargeTrip s = .next (showDomains ((onSeq s (fun r =>
      { r with bucks := true, holdOk := true, mark := if r.bucks then r.mark else s.now })).put PWR_PINS_HOLD_PRE
        true)) := by
  have hkind' : (q.kind == .off || q.kind == .por) = true := by rcases hkind with h | h <;> rw [h] <;> rfl
  change execHoldPrechargeTrip s = _
  rw [execHoldPrechargeTrip, hq]
  dsimp only
  rw [if_pos (by simp [hrun, hkind', hl])]

/-- HOLD is late: the bucks are enabled anyway (R101). -/
def holdLated (s : State) : State :=
  let u := onSeq s (fun r => { r with bucks := true, holdOk := true, mark := s.now })
  { u with sto := { u.sto with holdLate := true } }

theorem exec_holdLate {q : WakeSeq} {s : State} (hq : s.pwr.seq = some q) (hrun : q.running = true)
    (hb : q.bucks = false) (hl : lasted s q.since 40000 = true) (hold : Nat) :
    exec (.holdLate hold) s =
      .next (showDomains (tally (raise (holdLated s) 8 false [0] (leBytes 2 hold)) 7 (leBytes 2 hold))) := by
  change execHoldLate hold s = _
  rw [execHoldLate, hq]
  dsimp only
  rw [if_pos (by simp [hrun, hb, hl])]
  rfl

/-- The reports of a late HOLD leave the sequence and the store's supply as they are. -/
theorem holdLated_keeps (s : State) (hold : Nat) :
    Keeps [Reg.PWR_DOM_STATUS, Reg.PAR_EVT_CNT, Reg.SW_CNT_VAL, Reg.SW_MSEC_STAT, Reg.TLY_CNT0]
      [.records, .owed, .rings, .evt, .queue, .proxies, .loss, .wire, .out] (holdLated s)
      (showDomains (tally (raise (holdLated s) 8 false [0] (leBytes 2 hold)) 7 (leBytes 2 hold))) :=
  (showDomains_keeps _).then_ (by decide) (by decide) <| (tally_keeps _ _ _).then_ (by decide) (by decide) <|
    (raise_keeps _ _ _ _ _).then_ (by decide) (by decide) (Keeps.refl _)

theorem exec_xfLate {s : State} (hon : xfOn s = true) (hbad : s.flag CLK_STATUS_XF_OK = false) (ms : Nat) :
    exec (.xfLate ms) s = .next (wantBypass (tally (raise s 9 true [0] (leBytes 2 (min ms 65535))) 8
      (leBytes 2 (min ms 65535))) 3) := by
  change execXfLate ms s = _
  rw [execXfLate, if_pos (by simp [hon, hbad])]

/-- The sequence as a rail reports power-good (R100). -/
def railGood (rail : Nat) (r : WakeSeq) : WakeSeq :=
  { r with corePg := r.corePg || rail == 0, ioPg := r.ioPg || rail == 1, linkPg := r.linkPg || rail == 2 }

/-- The link die runs once its own rail is good. -/
def railOn (rail : Nat) (s : State) : State := if rail = 2 then linkOn s else s

theorem exec_railPgood {q : WakeSeq} {s : State} (hq : s.pwr.seq = some q) (hrun : q.running = true)
    (hb : q.bucks = true) (rail : Fin 3) :
    exec (.railPgood rail) s = .next (showDomains (railOn rail.val (onSeq s (railGood rail.val)))) := by
  have hrail : rail = 0 ∨ rail = 1 ∨ rail = 2 := by omega
  change execRailPgood rail s = _
  rcases hrail with rfl | rfl | rfl <;> simp [execRailPgood, hq, hrun, hb, onSeq, railGood, railOn]

theorem railOn_seq (rail : Nat) (s : State) : (railOn rail s).pwr.seq = s.pwr.seq := by
  unfold railOn
  split <;> rfl

/-! ### A failed attempt -/

/-- A failure is counted with its cause (R102). -/
def failCounted (s : State) (c : Nat) : State := (s.bump WAK_FAIL_TOTAL_FAILS 1).wr WAK_FAIL_LAST_CAUSE c

/-- The failure is recorded, and what the attempt has enabled goes off (R102, R103). -/
def railsOff (s : State) (q : WakeSeq) (c : Nat) : State :=
  let s1 := tally (failCounted s c) 4 [byte c, byte q.attempt, byte (s.rd WAK_FAIL_SEQ_FAILS), byte q.code]
  ((if (q.kind == .restart || q.kind == .sparOnly) && c != 3 then s1 else linkOff s1).put CLK_STATUS_XF_OK false).put
    CLK_STATUS_FRC_OK false

theorem railsOff_keeps (s : State) (q : WakeSeq) (c : Nat) :
    Keeps [Reg.CLK_STATUS, Reg.CHN_BYPASS, Reg.TLY_CNT0] [.pwr, .queue, .chain] (failCounted s c) (railsOff s q c) := by
  have k : Keeps [Reg.CLK_STATUS, Reg.CHN_BYPASS, Reg.TLY_CNT0] [.pwr, .queue, .chain] (failCounted s c)
      (tally (failCounted s c) 4 [byte c, byte q.attempt, byte (s.rd WAK_FAIL_SEQ_FAILS), byte q.code]) :=
    (tally_keeps _ _ _).then_ (by decide) (by decide) (Keeps.refl _)
  unfold railsOff
  dsimp only
  refine Keeps.put in_CLK_STATUS_FRC_OK (by decide) (Keeps.put in_CLK_STATUS_XF_OK (by decide) ?_)
  exact Keeps.ite (fun _ => k) (fun _ => (linkOff_keeps _).then_ (by decide) (by decide) k)

theorem railsOff_total (s : State) (q : WakeSeq) (c : Nat) :
    (railsOff s q c).rd WAK_FAIL_TOTAL_FAILS = satAdd 8 (s.rd WAK_FAIL_TOTAL_FAILS) 1 := by
  rw [(railsOff_keeps s q c).rdOf (by decide) (by decide) (by decide), failCounted, rd_wr_key _ _ (by decide)]
  exact rd_bump_same s WAK_FAIL_TOTAL_FAILS 1 (by decide)

theorem railsOff_cause (s : State) (q : WakeSeq) {c : Nat} (h : c < 16) : (railsOff s q c).rd WAK_FAIL_LAST_CAUSE = c := by
  rw [(railsOff_keeps s q c).rdOf (by decide) (by decide) (by decide), failCounted, rd_wr_same _ _ _ (by decide)]
  exact Nat.mod_eq_of_lt h

/-- The sequence that goes on with its next attempt after a pause (R103). -/
def nextAttempt (s : State) (q : WakeSeq) (c : Nat) : WakeSeq :=
  { q with attempt := q.attempt + 1, running := false, mark := s.now, bucks := false, corePg := false, ioPg := false,
           linkPg := false, causes := q.causes ++ [c] }

/-- The rails are off, and the next attempt of the sequence is due after its pause (R103). -/
def retrying (s : State) (q : WakeSeq) (c : Nat) : State :=
  let u := railsOff s q c
  { u with pwr := { u.pwr with linkDue := none, seq := some (nextAttempt s q c) } }

theorem retrying_rd (s : State) (q : WakeSeq) (c : Nat) (f : Field) : (retrying s q c).rd f = (railsOff s q c).rd f := rfl

theorem failAttempt_retries {q : WakeSeq} (h : q.attempt < 3) (s : State) (c : Nat) :
    failAttempt s q c = showDomains (retrying s q c) := by
  unfold failAttempt
  dsimp only
  rw [if_pos h]
  rfl

theorem failAttempt_ends {q : WakeSeq} (h : 3 ≤ q.attempt) (s : State) (c : Nat) :
    failAttempt s q c = enterSparOnly (sequenceFailed (railsOff s q c)) c := by
  unfold failAttempt
  dsimp only
  rw [if_neg (Nat.not_lt.2 h)]
  rfl

/-- A limit that a running attempt misses fails it, a rail's not within 2 ms of the enabling (R102). -/
theorem exec_wakeAttemptFail {cause : Fin 4} {q : WakeSeq} {s : State} (hq : s.pwr.seq = some q)
    (hrun : q.running = true) (hb : q.bucks = true) (hcore : cause.val = 0 → q.corePg = false)
    (hio : cause.val = 1 → q.ioPg = false) (hlink : cause.val = 2 → q.linkPg = false)
    (hfrc : cause.val = 3 → q.corePg = true) (hlate : cause.val = 3 ∨ lasted s q.mark 2000 = true) :
    exec (.wakeAttemptFail cause) s = .next (failAttempt s q (cause.val + 1)) := by
  have hlate' : (cause.val + 1 == 4 || lasted s q.mark 2000) = true := by
    rcases hlate with h | h <;> simp [h]
  have hcause : cause = 0 ∨ cause = 1 ∨ cause = 2 ∨ cause = 3 := by omega
  change execWakeAttemptFail cause s = _
  unfold execWakeAttemptFail
  simp only [hq, hrun, hb, hlate', Bool.true_and, Bool.and_true]
  rcases hcause with rfl | rfl | rfl | rfl
  · exact congrArg _ (if_pos (by simp [hcore]))
  · exact congrArg _ (if_pos (by simp [hio]))
  · exact congrArg _ (if_pos (by simp [hlink]))
  · exact congrArg _ (if_pos (hfrc rfl))

/-! ### SPAR_ONLY -/

/-- The limp table applies, and LIMP_ACTIVE shows it (R59). -/
theorem limpApply_active (s : State) : (limpApply s).flag SPR_STATUS_LIMP_ACTIVE = true := by
  have entries (fresh : Bool) (l : List LimpEntry) (t : State) :
      (l.foldl (limpEntryApply fresh) t).flag SPR_STATUS_LIMP_ACTIVE = t.flag SPR_STATUS_LIMP_ACTIVE :=
    (Keeps.foldl (limpEntryApply_keeps fresh) l (Keeps.refl t)).flagOf (by decide) (by decide) (by decide)
  have unnamed (l : List Chan) (t : State) :
      (l.foldl limpUnnamed t).flag SPR_STATUS_LIMP_ACTIVE = t.flag SPR_STATUS_LIMP_ACTIVE :=
    (Keeps.foldl limpUnnamed_keeps l (Keeps.refl t)).flagOf (by decide) (by decide) (by decide)
  have claims (l : List Claim) (t : State) :
      (l.foldl endClaim t).flag SPR_STATUS_LIMP_ACTIVE = t.flag SPR_STATUS_LIMP_ACTIVE :=
    (Keeps.foldl endClaim_keeps l (Keeps.refl t)).flagOf (by decide) (by decide) (by decide)
  have started (b : Bool) (t : State) (pl : List Byte) :
      (if b = true then tally (freeNext t) 12 pl else t).flag SPR_STATUS_LIMP_ACTIVE =
        t.flag SPR_STATUS_LIMP_ACTIVE := by
    split
    · exact (tally_keeps _ _ _).flagOf (by decide) (by decide) (by decide)
    · rfl
  have hput := flag_put_same s SPR_STATUS_LIMP_ACTIVE true (by decide) (by decide)
  unfold limpApply
  dsimp only
  split
  · rw [entries, unnamed, claims, started]
    exact hput
  · rw [unnamed, claims, started]
    exact hput

/-- The count of failed sequences, and LOCKOUT, leave the count of failed attempts (R106, R107). -/
theorem sequenceFailed_total (s : State) :
    (sequenceFailed s).rd WAK_FAIL_TOTAL_FAILS = s.rd WAK_FAIL_TOTAL_FAILS := by
  unfold sequenceFailed
  dsimp only
  split
  · rw [tally_rd _ _ _ (by decide) (by decide), rd_put_key _ _ (by decide), rd_wr_key _ _ (by decide)]
    rfl
  · exact rd_wr_key _ _ (by decide)

/-- The device is in SPAR_ONLY, with the limp table applied (R105). -/
def sparOnlyLimp (s : State) : State :=
  limpApply { s with pwr := { s.pwr with ps := .sparOnly, cd := .off, seq := none, armed := false, linkDue := none } }

/-- A failure of LINK cuts the chain at this unit (R105). -/
def sparOnlyCut (s : State) (cause : Nat) : State :=
  let u := sparOnlyLimp s
  { u with chain := { u.chain with cut := u.chain.cut || cause == 3 } }

theorem enterSparOnly_eq (s : State) (cause : Nat) : enterSparOnly s cause = showDomains (tally
    (if cause == 3 then sparOnlyCut s cause else wantBypass (sparOnlyCut s cause) 2) 5
    [byte cause, byte (if cause == 3 then 0 else 1)]) := by
  unfold enterSparOnly sparOnlyCut sparOnlyLimp
  rfl

theorem enterSparOnly_keepsLimp (s : State) (cause : Nat) :
    Keeps [Reg.PWR_DOM_STATUS, Reg.TLY_CNT0] [.queue, .chain] (sparOnlyLimp s) (enterSparOnly s cause) := by
  have k : Keeps [Reg.PWR_DOM_STATUS, Reg.TLY_CNT0] [.queue, .chain] (sparOnlyLimp s) (sparOnlyCut s cause) :=
    (Keeps.refl _).set_chain (by decide) ⟨rfl, rfl⟩
  rw [enterSparOnly_eq]
  refine (showDomains_keeps _).then_ (by decide) (by decide) <| (tally_keeps _ _ _).then_ (by decide) (by decide) ?_
  exact Keeps.ite (fun _ => k) (fun _ => (wantBypass_keeps _ _).then_ (by decide) (by decide) k)

theorem sparOnlyLimp_state (s : State) : (sparOnlyLimp s).pwr.ps = .sparOnly ∧ (sparOnlyLimp s).pwr.cd = .off ∧
    (sparOnlyLimp s).pwr.seq = none := by
  unfold sparOnlyLimp
  exact ⟨(limpApply_keeps _).ps (by decide), (limpApply_keeps _).cd (by decide), (limpApply_keeps _).seq (by decide)⟩

theorem enterSparOnly_state (s : State) (cause : Nat) : (enterSparOnly s cause).pwr.ps = .sparOnly ∧
    (enterSparOnly s cause).pwr.cd = .off ∧ (enterSparOnly s cause).pwr.seq = none ∧
    (enterSparOnly s cause).flag SPR_STATUS_LIMP_ACTIVE = true := by
  have k := enterSparOnly_keepsLimp s cause
  obtain ⟨hps, hcd, hseq⟩ := sparOnlyLimp_state s
  exact ⟨(k.ps (by decide)).trans hps, (k.cd (by decide)).trans hcd, (k.seq (by decide)).trans hseq,
    (k.flagOf (by decide) (by decide) (by decide)).trans (limpApply_active _)⟩

end Sys2Proof.Machine
end

section
/-! SUPPORT.
The start of the control die at the end of a wake sequence: the first instruction, the boot ROM and the hand-over, and the
trial of an update (R41, R77, R98, R479, R492, R494, R530, R548, R577).
-/

namespace Sys2Proof.Machine

/-! ### The first instruction -/

/-- The registers that a power-on start sets over those of `u` before its first instruction (R41, R98, R548). -/
def startRegs (s u : State) (q : WakeSeq) (pos : Nat) : State :=
  let s1 := reportWake (u.put PWR_STATUS_RESUMED false) q.code q.index q.attempt
  let s2 := (((s1.wr SPR_DT_DT (startDt s)).wr SPR_DT_STATUS_STATE (startDtStatus s)).wr SPR_DT_STATUS_EPOCH 0).wr
    CLK_STATUS_FRC_OK 1
  let s3 := (((s2.wr PWR_PINS_POS_RATIO pos).wr CHN_ADDR_POS (posCode pos)).wr SEC_STATUS_TRNG
    (if s2.sec.fails = 3 then 2 else 0)).wr SEC_STATUS_DRBG 0
  ((s3.wr STO_WB_STATUS_WB_OK 0).wr STO_WB_STATUS_GRANT 0).wr STO_HOLD_MEAS_MRESULT 0

theorem startRegs_keeps (s u : State) (q : WakeSeq) (pos : Nat) :
    Keeps [Reg.SPR_DT, Reg.SPR_DT_STATUS, Reg.CLK_STATUS, Reg.PWR_PINS, Reg.PWR_STATUS, Reg.WAK_REASON, Reg.CHN_ADDR,
      Reg.SEC_STATUS, Reg.STO_WB_STATUS, Reg.STO_HOLD_MEAS] [] u (startRegs s u q pos) :=
  Keeps.wr in_STO_HOLD_MEAS_MRESULT (by decide) <| Keeps.wr in_STO_WB_STATUS_GRANT (by decide) <|
    Keeps.wr in_STO_WB_STATUS_WB_OK (by decide) <| Keeps.wr in_SEC_STATUS_DRBG (by decide) <|
    Keeps.wr in_SEC_STATUS_TRNG (by decide) <| Keeps.wr in_CHN_ADDR_POS (by decide) <|
    Keeps.wr in_PWR_PINS_POS_RATIO (by decide) <| Keeps.wr in_CLK_STATUS_FRC_OK (by decide) <|
    Keeps.wr in_SPR_DT_STATUS_EPOCH (by decide) <| Keeps.wr in_SPR_DT_STATUS_STATE (by decide) <|
    Keeps.wr in_SPR_DT_DT (by decide) <| (reportWake_keeps _ _ _ _).then_ (by decide) (by decide) <|
    Keeps.put in_PWR_STATUS_RESUMED (by decide) (Keeps.refl u)

/-- The first instruction is reached: the buses are shown, the request has ended and the watchdog starts (R55). -/
def firstReached (r : State) : State :=
  firstInstr (endRequest (showBuses ((List.range 4).foldl showPlca (segWake r))))

theorem coldStart_por_cd (s : State) : (coldStart s .por).pwr.cd = .boot := rfl

/-- A power-on start, before its first instruction: the boot ROM runs, and what the start has found is shown. -/
theorem startCd_por {q : WakeSeq} (h : q.kind = .por) (s : State) (pos : Nat) : ∃ r : State,
    startCd s q pos = firstReached r ∧ r.regs = (startRegs s (coldStart s .por) q pos).regs ∧ r.dt.on = true ∧
    r.pwr.ps = .run ∧ r.pwr.cd = .boot ∧ r.pwr.seq = none ∧ r.pwr.wakeBy = some q.causes := by
  have hrestart : ¬ (StartKind.por == .restart) = true := by decide
  unfold startCd
  rw [h]
  extract_lets deep resume s0 s1 s2 s3 s4 s5' s5 spar pwr evt chain s6 s7
  have hresume : ¬ resume = true := Bool.false_ne_true
  have h0 : s0 = s := if_neg Bool.false_ne_true
  have h1 : s1 = coldStart s .por := (if_neg hresume).trans (by rw [h0])
  have h3 : s3 = reportWake (s1.put PWR_STATUS_RESUMED false) q.code q.index q.attempt := if_neg hrestart
  have h5 : s5 = startRegs s (coldStart s .por) q pos := by
    rw [← h1]
    clear_value s3
    subst h3
    rfl
  have h7 : s7 = firstReached s6 := rfl
  rw [if_neg hresume, h7]
  have hcd : s6.pwr.cd = s5.pwr.cd := rfl
  refine ⟨s6, rfl, congrArg (·.regs) h5, rfl, rfl, ?_, rfl, rfl⟩
  rw [hcd, h5, (startRegs_keeps _ _ _ _).cd (by decide), coldStart_por_cd]

theorem firstInstr_endRequest_pwr (u : State) :
    (firstInstr (endRequest u)).pwr = { u.pwr with entry := none, cores := [], armed := true } := rfl

theorem firstReached_pwr (r : State) :
    (firstReached r).pwr = { r.pwr with entry := none, cores := [], armed := true } := by
  have hshown : ((List.range 4).foldl showPlca (segWake r)).pwr = r.pwr := by
    have k := (Keeps.foldl showPlca_keeps (List.range 4) (Keeps.refl (segWake r)))
    have k' := segWake_keeps r
    exact (pwr_ext (k.plain .pwr (by decide) rfl) (k.plain .owed (by decide) rfl) (k.plain .banks (by decide) rfl)).trans
      (pwr_ext (k'.plain .pwr (by decide) rfl) (k'.plain .owed (by decide) rfl) (k'.plain .banks (by decide) rfl))
  rw [firstReached, firstInstr_endRequest_pwr, showBuses_pwr, hshown]

theorem firstReached_keeps (r : State) :
    Keeps [Reg.PWR_NEXT, Reg.PWR_SAF_ACK, Reg.SUB_CAN_STAT, Reg.SUB_LIN_STAT, Reg.SUB_T1S_STAT] [.spar, .pwr, .sub, .out]
      r (firstReached r) :=
  (firstInstr_keeps _).then_ (by decide) (by decide) <| (endRequest_keeps _).then_ (by decide) (by decide) <|
    (showBuses_keeps _).then_ (by decide) (by decide) <|
    Keeps.foldl (fun t g => (showPlca_keeps t g).mono (of_regsWithin (by decide)) (of_within (by decide))) _ <|
    (segWake_keeps r).then_ (by decide) (by decide) (Keeps.refl r)

theorem firstReached_rd {r u : State} (h : r.regs = u.regs) {f : Field} (hf : f.lsb < 64)
    (hc : clearOf [Reg.PWR_NEXT, Reg.PWR_SAF_ACK, Reg.SUB_CAN_STAT, Reg.SUB_LIN_STAT, Reg.SUB_T1S_STAT] f.off = true) :
    (firstReached r).rd f = u.rd f := by
  rw [(firstReached_keeps r).rdOf (by decide) hf hc, State.rd, State.rd, h]

/-- The wake's reason, device time and the position strap, as the start sets them (R41, R98, R548). -/
theorem startRegs_rd (s u : State) (q : WakeSeq) {pos : Nat} (hpos : pos ≤ 4095) :
    (startRegs s u q pos).rd WAK_REASON_CODE = q.code % 32 ∧ (startRegs s u q pos).rd SPR_DT_DT = startDt s ∧
    (startRegs s u q pos).rd SPR_DT_STATUS_STATE = startDtStatus s ∧ (startRegs s u q pos).rd PWR_PINS_POS_RATIO = pos := by
  have hdt : startDt s % 2 ^ 64 = startDt s := Nat.mod_mod _ _
  have hstatus : startDtStatus s % 4 = startDtStatus s := by
    unfold startDtStatus
    split <;> rfl
  have hratio : pos % 4096 = pos := Nat.mod_eq_of_lt (by omega)
  unfold startRegs reportWake
  refine ⟨?_, Eq.trans ?_ hdt, Eq.trans ?_ hstatus, Eq.trans ?_ hratio⟩ <;>
    simp (disch := decide) only [rd_wr_key, rd_wr_same] <;> rfl

theorem exec_cdStart {q : WakeSeq} {s : State} (hq : s.pwr.seq = some q) (hrun : q.running = true)
    (hb : q.bucks = true) (hcore : q.corePg = true) (hio : q.ioPg = true) (pos : Nat) :
    exec (.cdStart pos) s = .next (showDomains (startCd s q (min pos 4095))) := by
  change execCdStart pos s = _
  rw [execCdStart, hq]
  dsimp only
  rw [if_pos (by simp [hrun, hb, hcore, hio])]

theorem exec_bankZeroDone {bank : Fin 48} {s : State} (hup : cdUp s = true)
    (hhead : s.pwr.unzeroed.head? = some bank.val) :
    exec (.bankZeroDone bank) s = .next { s with pwr := { s.pwr with unzeroed := s.pwr.unzeroed.drop 1 } } := by
  change whileCd s _ = _
  rw [whileCd_of_up hup, if_pos hhead]

/-! ### Secure boot -/

theorem bankCheck_media (s : State) (uid : List Byte) (b : Nat) : bankCheck s uid b true = 13 := by
  simp [bankCheck]

theorem settleTrial_confirmed {s : State} (h : s.flag UPD_STATUS_TRIAL = false) (ok : Nat → Bool) :
    settleTrial s ok = s := by
  unfold settleTrial
  dsimp only
  rw [if_pos (by simp [h])]

/-- A bank is read from the store, whatever the registers hold. -/
theorem bankManifest_wr (s : State) (f : Field) (v b : Nat) : bankManifest (s.wr f v) b = bankManifest s b := rfl

/-- The rollback counter has been raised to the SVN of the active bank (R479). -/
def counterRaised (s : State) : State := raiseCounter s (activeSvn s)

theorem counterRaised_counter (s : State) :
    (counterRaised s).rd UPD_RB_RB_COUNTER = max (activeSvn s) (s.rd UPD_RB_RB_COUNTER) % 2 ^ 32 :=
  rd_wr_same s UPD_RB_RB_COUNTER _ (by decide)

/-- With bank 0 active and confirmed, nothing armed and bank 1 unreadable, bank 0 starts or none does (R479). -/
theorem exec_secureBoot_bank0 {s : State} (hup : cdUp s = true) (hcd : s.pwr.cd = .boot) (hdone : s.pwr.bootDone = false)
    (hns : mounted s 14 = true) (harmed : s.rd UPD_STATUS_ARMED = 0) (htrial : s.flag UPD_STATUS_TRIAL = false)
    (hbank : s.rd UPD_STATUS_ACTIVE_BANK = 0) (media badWrite bad0 : Bool) (cut : Option Nat) :
    exec (.secureBoot media badWrite bad0 true cut) s =
      .next (if bankCheck s (uidBytes s) 0 bad0 = 0 ∧
          (counterRaised s).rd UPD_RB_RB_COUNTER ≤ mSvn (bankManifest s 0) then startBank (counterRaised s) 0
        else bootNone (counterRaised s) (bankCheck s (uidBytes s) 0 bad0) 13) := by
  have hbank' : (counterRaised s).rd UPD_STATUS_ACTIVE_BANK = 0 := (rd_wr_key s _ (by decide)).trans hbank
  have hready : ¬ (s.pwr.cd != .boot || s.pwr.bootDone || !mounted s 14) = true := by simp [hcd, hdone, hns]
  have hraised : raiseCounter s (activeSvn s) = counterRaised s := rfl
  have hmanifest : bankManifest (counterRaised s) 0 = bankManifest s 0 := bankManifest_wr s _ _ 0
  change whileCd s _ = _
  rw [whileCd_of_up hup, if_neg hready]
  simp only [harmed, if_true, ne_eq, not_true_eq_false, false_and, if_false, settleTrial_confirmed htrial, htrial,
    Bool.false_eq_true, hraised, hbank', Nat.sub_zero, one_ne_zero, bankCheck_media, hmanifest, Bool.and_eq_true,
    beq_iff_eq, decide_eq_true_eq, (by decide : ¬ 13 = 0)]

/-- The bank's images are loaded, and the hand-over can follow; no register changes. -/
theorem startBank_done (s : State) (bank : Nat) : (startBank s bank).pwr.bootDone = true := rfl

theorem startBank_rd (s : State) (bank : Nat) {f : Field} (hf : f.lsb < 64) : (startBank s bank).rd f = s.rd f :=
  (startBank_keeps s bank).rdOf (by decide) hf rfl

theorem Keeps.bootDone {w : List Span} {g : List Part} {s t : State} (k : Keeps w g s t) (hg : Part.pwr ∉ g) :
    t.pwr.bootDone = s.pwr.bootDone := congrArg (·.bootDone) (k.plain .pwr hg rfl)

/-- The loss of the control die leaves what secure boot has reached. -/
theorem controlLost_bootDone (s : State) (cause : Nat) : (controlLost s cause).pwr.bootDone = s.pwr.bootDone := by
  have detached (t : State) : ((List.range 8).foldl detachLost (interim (emit (showStreams t) .controlLost))).pwr.bootDone
      = t.pwr.bootDone :=
    ((Keeps.foldl detachLost_keeps _ (Keeps.refl _)).bootDone (by decide)).trans <|
      ((interim_keeps _).bootDone (by decide)).trans ((showStreams_keeps t).bootDone (by decide))
  have counted (t : State) : (countCdLoss t).pwr.bootDone = t.pwr.bootDone :=
    (countCdLoss_keeps t).bootDone (by decide)
  have htally : (tally s 9 [byte cause]).pwr.bootDone = s.pwr.bootDone := (tally_keeps _ _ _).bootDone (by decide)
  unfold controlLost
  dsimp only
  split
  · rfl
  split
  · exact (detached _).trans htally
  · exact (counted _).trans ((detached _).trans htally)

/-- Without a bank to start, the control die of a boot ROM is lost (R479). -/
theorem bootNone_lost {s : State} (hcd : s.pwr.cd = .boot) (r0 r1 : Nat) :
    (bootNone s r0 r1).pwr.bootDone = s.pwr.bootDone ∧ (bootNone s r0 r1).pwr.cd = .lost := by
  have htally : (tally s 19 [byte r0, byte r1]).pwr.cd = .boot := by rw [tally_pwr, hcd]
  obtain ⟨hlost, -, -, -⟩ := controlLost_lostWith (.inl htally) 1
  refine ⟨?_, hlost⟩
  rw [bootNone, controlLost_bootDone, tally_pwr]

/-! ### The hand-over and the trial -/

/-- Software runs on every core, from the last feed of the boot ROM (R530). -/
def handedOver (s : State) : State :=
  let u := emit s (.coreStart s.pwr.bootEntry (leBytes 4 (s.rd UPD_STATUS_ACTIVE_BANK) ++ leBytes 4 0))
  feedNow { u with pwr := { u.pwr with cd := .run, cores := [] } }

/-- A start that ends no sleep is announced, and nothing else is reported (R119, R530). -/
theorem exec_p0Handoff {s : State} (hcd : s.pwr.cd = .boot) (hdone : s.pwr.bootDone = true)
    (hwake : s.pwr.wakeBy = none) : exec .p0Handoff s = .next (announceKept (handedOver s)) := by
  have hkept : (announceKept (handedOver s)).pwr.wakeBy = none :=
    (congrArg (·.wakeBy) ((announceKept_keeps (handedOver s)).plain .pwr (by decide) rfl)).trans hwake
  change execP0Handoff s = _
  unfold execP0Handoff
  rw [if_pos (by simp [hcd, hdone])]
  dsimp only
  change (match (announceKept (handedOver s)).pwr.wakeBy with | some cs => _ | none => _) = _
  rw [hkept]
  rfl

/-- The deadline of a trial has passed, before the reset that it asks for (R492). -/
def trialExpired (s : State) : State := { s with upd := { s.upd with expired := true } }

/-- The deadline resets a running control die, or the state that DEEP has kept of one; the next cold start reverts (R492). -/
theorem exec_confirmDeadline {s : State} (htrial : s.flag UPD_STATUS_TRIAL = true)
    (hl : trialLasted s (4 * s.upd.confirmS) = true) : exec .confirmDeadline s = .next (showDomains
      (if cdUp s then commandReset (trialExpired s) 3
        else if s.pwr.ps = .deep ∧ s.pwr.seq.isNone then deviceReset ((trialExpired s).orF SPR_RST_CAUSE_CAUSE 8)
        else (trialExpired s).orF SPR_RST_CAUSE_CAUSE 8)) := by
  change execConfirmDeadline s = _
  rw [execConfirmDeadline, if_pos (by simp [htrial, hl])]
  rfl

/-- No reset undoes the expiry of a trial. -/
theorem deadlineReset_expired (s : State) : (if cdUp s then commandReset (trialExpired s) 3
    else if s.pwr.ps = .deep ∧ s.pwr.seq.isNone then deviceReset ((trialExpired s).orF SPR_RST_CAUSE_CAUSE 8)
    else (trialExpired s).orF SPR_RST_CAUSE_CAUSE 8).upd.expired = true := by
  split
  · exact congrArg (·.expired) ((commandReset_keeps (trialExpired s) 3).plain .upd (by decide) rfl)
  split
  · exact congrArg (·.expired) ((deviceReset_keeps _).plain .upd (by decide) rfl)
  · rfl

theorem exec_updConfirmDue {s : State} (hup : cdUp s = true) (htrial : s.flag UPD_STATUS_TRIAL = true)
    (hl : trialLasted s (3 * s.upd.confirmS) = true) : exec .updConfirmDue s = .next (raise s 76 false [0]
      ([2, 0] ++ leBytes 2 (s.upd.confirmS - s.upd.confirmS * 3 / 4))) := by
  change whileCd s _ = _
  rw [whileCd_of_up hup, if_pos (by simp [htrial, hl])]

/-- Settles O8: each command's own equation; where the state is given by its frame, the frame is the command's law, and
what the state holds is read through what the command leaves of the sequence, of the start or of the boot. -/
theorem wakeSequence : Obligations.WakeSequence := by
  unfold Obligations.WakeSequence
  refine ⟨fun q s hq hrun hin hafter hpause hlater => ?later, fun q s hq hrun hin hafter hpause hfirst hkind => ?first,
    fun q s hq hrun hkind hl => ?precharge, fun hold q s hq hrun hb hl => ?holdLate, fun ms s hon hbad => ?xfLate,
    fun rail q s hq hrun hb => ?rail,
    fun cause q s hq hrun hb hcore hio hlink hfrc hlate hfew => ?fails,
    fun cause q s hq hrun hb hcore hio hlink hfrc hlate hlast => ?ends,
    fun pos q s hq hrun hb hcore hio hkind => ?start, fun bank s hup hhead => ?zeroed,
    fun media badWrite bad0 bad1 cut s hup hcd hdone hns harmed htrial hbank hbad1 => ?boot,
    fun s hcd hdone hwake => ?handOver, fun s htrial hl => ?deadline,
    fun s hup htrial hl => exec_updConfirmDue hup htrial hl⟩
  case later =>
    have hexec := exec_wakeAttempt hq hrun hin hafter hpause (if_neg hlater).symm
    exact ⟨_, hexec, showDomains_onSeq_seq hq _⟩
  case first =>
    obtain ⟨hseq, hld, hnow⟩ := firstAttempt_seq hkind { s with sto := { s.sto with holdLate := false } }
    have hexec := exec_wakeAttempt hq hrun hin hafter hpause (if_pos hfirst).symm
    have hpre : (q.kind == .off || q.kind == .por) = (q.kind == .por) := by
      rcases hkind with h | h <;> rw [h] <;> rfl
    refine ⟨_, hexec, (showDomains_onSeq_seq (hseq.trans hq) _).trans ?_⟩
    rw [attemptStarted, hld, hnow, hpre]
  case precharge =>
    refine (execHoldPrechargeTrip_keeps s).runs (exec_holdPrechargeTrip hq hrun hkind hl) (by decide) (by decide)
      (by decide) ⟨?_, ?_⟩
    · rw [showDomains_flag _ (by decide) (by decide)]
      exact flag_put_same _ PWR_PINS_HOLD_PRE true (by decide) (by decide)
    · rw [showDomains_pwr, put_pwr, onSeq, hq]
      rfl
  case holdLate =>
    have k := holdLated_keeps s hold
    refine (execHoldLate_keeps hold s).runs (exec_holdLate hq hrun hb hl hold) (by decide) (by decide) (by decide)
      ⟨congrArg (·.holdLate) (k.plain .sto (by decide) rfl), (k.seq (by decide)).trans ?_⟩
    rw [holdLated, onSeq, hq]
    rfl
  case xfLate =>
    exact (execXfLate_keeps ms s).runs (exec_xfLate hon hbad ms) (by decide) (by decide) (by decide)
      (mem_causes_wantBypass _ 3)
  case rail =>
    refine (execRailPgood_keeps rail s).runs (exec_railPgood hq hrun hb rail) (by decide) (by decide) (by decide)
      ⟨?_, fun h => ?_⟩
    · rw [showDomains_pwr, railOn_seq, onSeq, hq]
      rfl
    · rw [showDomains_pwr, railOn, if_pos h, linkOn]
  case fails =>
    have hexec := exec_wakeAttemptFail hq hrun hb hcore hio hlink hfrc hlate
    rw [failAttempt_retries hfew] at hexec
    refine (execWakeAttemptFail_keeps cause s).runs hexec (by decide) (by decide) (by decide) ⟨?_, ?_, ?_⟩
    · rw [showDomains_rd _ (by decide) (by decide), retrying_rd, railsOff_total]
    · rw [showDomains_rd _ (by decide) (by decide), retrying_rd, railsOff_cause s q (by omega)]
    · rw [showDomains_pwr]
      rfl
  case ends =>
    have hexec := exec_wakeAttemptFail hq hrun hb hcore hio hlink hfrc hlate
    rw [failAttempt_ends hlast] at hexec
    obtain ⟨hps, hcd, hseq, hlimp⟩ := enterSparOnly_state (sequenceFailed (railsOff s q (cause.val + 1))) (cause.val + 1)
    refine (execWakeAttemptFail_keeps cause s).runs hexec (by decide) (by decide) (by decide)
      ⟨hps, hcd, hseq, ?_, hlimp⟩
    rw [(enterSparOnly_keeps _ _).rdOf (by decide) (by decide) (by decide), sequenceFailed_total, railsOff_total]
  case start =>
    obtain ⟨r, hr, hregs, hdt, hps, hcd, hseq, hwake⟩ := startCd_por hkind s (min pos 4095)
    obtain ⟨hreason, htime, hstatus, hratio⟩ := startRegs_rd s (coldStart s .por) q (Nat.min_le_right pos 4095)
    have hexec := exec_cdStart hq hrun hb hcore hio pos
    rw [hr] at hexec
    have reads {f : Field} (hf : f.lsb < 64) (hc : clearOf [Reg.PWR_DOM_STATUS] f.off = true) (hc' : clearOf
        [Reg.PWR_NEXT, Reg.PWR_SAF_ACK, Reg.SUB_CAN_STAT, Reg.SUB_LIN_STAT, Reg.SUB_T1S_STAT] f.off = true) :
        (showDomains (firstReached r)).rd f = (startRegs s (coldStart s .por) q (min pos 4095)).rd f :=
      (showDomains_rd _ hf hc).trans (firstReached_rd hregs hf hc')
    refine ⟨_, hexec, ?_⟩
    rw [showDomains_pwr, showDomains_dt, showDomains_spar, firstReached_pwr]
    exact ⟨hps, hcd, hseq, (congrArg (·.on) ((firstReached_keeps r).plain .dt (by decide) rfl)).trans hdt,
      (reads (by decide) (by decide) (by decide)).trans hreason, (reads (by decide) (by decide) (by decide)).trans htime,
      (reads (by decide) (by decide) (by decide)).trans hstatus,
      (reads (by decide) (by decide) (by decide)).trans hratio, rfl, hwake⟩
  case zeroed =>
    exact (execBankZeroDone_keeps bank s).runs (exec_bankZeroDone hup hhead) (by decide) (by decide) (by decide) rfl
  case boot =>
    subst hbad1
    have hcounter := counterRaised_counter s
    have hbank' : (counterRaised s).rd UPD_STATUS_ACTIVE_BANK = 0 := (rd_wr_key s _ (by decide)).trans hbank
    refine (execSecureBoot_keeps media badWrite bad0 true cut s).runs
      (exec_secureBoot_bank0 hup hcd hdone hns harmed htrial hbank media badWrite bad0 cut) (by decide) (by decide)
      (by decide) ⟨fun ⟨hcheck, hsvn⟩ => ?_, fun hbad0 => ?_⟩
    · rw [if_pos ⟨hcheck, hcounter ▸ (Nat.mod_le _ _).trans hsvn⟩, startBank_rd _ _ (by decide),
        startBank_rd _ _ (by decide)]
      exact ⟨startBank_done _ 0, hcounter, hbank'⟩
    · rw [if_neg (fun h => by simp [hbad0, bankCheck_media] at h)]
      obtain ⟨hboot, hlost⟩ := bootNone_lost (s := counterRaised s) hcd (bankCheck s (uidBytes s) 0 bad0) 13
      exact ⟨hboot.trans hdone, hlost⟩
  case handOver =>
    have k := announceKept_keeps (handedOver s)
    exact (execP0Handoff_keeps s).runs (exec_p0Handoff hcd hdone hwake) (by decide) (by decide) (by decide)
      ⟨k.cd (by decide), congrArg (·.cores) (k.plain .pwr (by decide) rfl),
        congrArg (·.wdgSince) (k.plain .spar (by decide) rfl)⟩
  case deadline =>
    refine ⟨_, exec_confirmDeadline htrial hl, ?_⟩
    rw [showDomains_upd]
    exact deadlineReset_expired s

end Sys2Proof.Machine
end

section
/-! SUPPORT.
The chain's links and the cruise (R111, R112, R119, R121, R122, R136, R536).
-/

namespace Sys2Proof.Machine

/-! ### Links -/

theorem Keeps.linkUp {w : List Span} {g : List Part} {s t : State} (k : Keeps w g s t) (hg : Part.chain ∉ g) (port : Nat) :
    linkUp t port = linkUp s port := by
  have hc := k.plain .chain hg rfl
  have h0 : t.chain.up0 = s.chain.up0 := congrArg (·.up0) hc
  have h1 : t.chain.up1 = s.chain.up1 := congrArg (·.up1) hc
  rw [Machine.linkUp, Machine.linkUp, h0, h1]

/-- The announcement of a kept address moves no link. -/
theorem announceKept_linkUp (s : State) (port : Nat) : linkUp (announceKept s) port = linkUp s port := by
  unfold announceKept
  split
  · exact (announceOut_keeps _ _ _ _).linkUp (by decide) port
  · rfl

/-- A change of one port's link is a change of that link alone (R112). -/
theorem linkUp_setLink (s : State) (port : Nat) (up : Bool) (q : Nat) :
    linkUp (setLink s port up) q = if q = 0 ↔ port = 0 then up else linkUp s q := by
  unfold setLink
  dsimp only
  split
  case isTrue h =>
    split
    case isTrue hq => simpa only [linkUp, hq] using h
    case isFalse => rfl
  case isFalse =>
    rw [announceKept_linkUp, (raise_keeps _ _ _ _ _).linkUp (by decide)]
    have hflush : ∀ (c : Bool) (t : State) (hit : TblEnt → Bool),
        linkUp (if c then flushDynamic t hit else t) q = linkUp t q := by
      intro c t hit
      split
      · exact (flushDynamic_keeps _ _).linkUp (by decide) q
      · rfl
    rw [hflush]
    by_cases hq : q = 0
    · by_cases hp : port = 0 <;> simp [linkUp, hp, hq]
    · by_cases hp : port = 0 <;> simp [linkUp, hp, hq]

theorem exec_chainLinkChange {s : State} (hld : s.pwr.ldUp = true) (port : Fin 2) (up : Bool) :
    exec (.chainLinkChange port up) s = .next (setLink s port.val up) := by
  change execChainLinkChange port up s = _
  rw [execChainLinkChange, if_pos hld]

/-- The link of a port goes down where its rate or its role changes (R536). -/
def retrain (s t u : State) (rate role : Field) (port : Nat) : State :=
  if t.rd rate ≠ s.rd rate ∨ t.rd role ≠ s.rd role then setLink u port false else u

theorem exec_chnPortCfgWrite {s : State} (hup : cdUp s = true) (v : Word) : exec (.chnPortCfgWrite .p0 v) s =
    .next (retrain s (writeWord s 0x40000 v.toNat)
      (retrain s (writeWord s 0x40000 v.toNat) (writeWord s 0x40000 v.toNat) CHN_PORT_CFG_RATE0 CHN_PORT_CFG_ROLE0 0)
      CHN_PORT_CFG_RATE1 CHN_PORT_CFG_ROLE1 1) := by
  change whileCd s _ = _
  rw [whileCd_of_up hup, if_neg (by decide)]
  rfl

theorem linkUp_retrain_same {s t u : State} {rate : Field} (h : t.rd rate ≠ s.rd rate) (role : Field) (port : Nat) :
    linkUp (retrain s t u rate role port) port = false := by
  rw [retrain, if_pos (.inl h), linkUp_setLink, if_pos Iff.rfl]

theorem linkUp_retrain_other {s t u : State} {rate role : Field} {port q : Nat} (h : ¬ (q = 0 ↔ port = 0)) :
    linkUp (retrain s t u rate role port) q = linkUp u q := by
  unfold retrain
  split
  · rw [linkUp_setLink, if_neg h]
  · rfl

/-! ### A frame that the unit hears -/

theorem onFrame_heard {s : State} {frame : List Byte} {typ : Nat} {z : Zk} (h : Heard s frame typ z) (port : Nat)
    (act : Zk → State → State) : onFrame s port frame act = act z s := by
  obtain ⟨hld, hbyp, hcut, hup, hz, -⟩ := h
  unfold onFrame
  rw [hz]
  simp [hld, hbyp, hcut, hup]

theorem onCruise_heard {s : State} {frame : List Byte} {sub : Nat} {z : Zk} (h : Heard s frame 0 z)
    (hsub : leAt z.body 0 1 = sub) (port : Nat) (act : Zk → State → State) :
    onCruise sub s port frame act = act z s := by
  have ⟨_, _, _, _, _, htyp⟩ := h
  rw [onCruise, onFrame_heard h, if_pos ⟨htyp, hsub⟩]

/-! ### DISCOVER -/

/-- CHN_CRUISE takes the number, the upstream port and the hops of a DISCOVER (R121). -/
def cruiseRegs (s : State) (z : Zk) (port : Nat) : State :=
  (((s.wr CHN_CRUISE_CRUISE_ID (beAt z.body 2 2)).wr CHN_CRUISE_UPSTREAM port).wr CHN_CRUISE_HOPS
    ((leAt z.body 1 1 + 1) % 256)).put CHN_CRUISE_RING_SEEN false

/-- The unit joins the cruise of a DISCOVER (R121). -/
def joinCruise (s : State) (z : Zk) (port : Nat) : State :=
  { cruiseRegs s z port with chain := { s.chain with cruised := true } }

section
variable (s : State) (z : Zk) (port : Nat)

theorem joinCruise_rd (f : Field) : (joinCruise s z port).rd f = (cruiseRegs s z port).rd f := rfl

theorem joinCruise_id : (joinCruise s z port).rd CHN_CRUISE_CRUISE_ID = beAt z.body 2 2 % 65536 := by
  rw [joinCruise_rd, cruiseRegs, rd_put_key _ _ (by decide), rd_wr_key _ _ (by decide), rd_wr_key _ _ (by decide)]
  exact rd_wr_same _ _ _ (by decide)

theorem joinCruise_upstream : (joinCruise s z port).rd CHN_CRUISE_UPSTREAM = port % 2 := by
  rw [joinCruise_rd, cruiseRegs, rd_put_key _ _ (by decide), rd_wr_key _ _ (by decide)]
  exact rd_wr_same _ _ _ (by decide)

theorem joinCruise_hops : (joinCruise s z port).rd CHN_CRUISE_HOPS = (leAt z.body 1 1 + 1) % 256 := by
  rw [joinCruise_rd, cruiseRegs, rd_put_key _ _ (by decide)]
  exact (rd_wr_same _ _ _ (by decide)).trans (Nat.mod_mod _ _)

theorem joinCruise_ringSeen : (joinCruise s z port).flag CHN_CRUISE_RING_SEEN = false :=
  flag_put_same _ _ false (by decide) (by decide)

end

/-- What a DISCOVER that is new sends: itself onward, and an ANNOUNCE back (R121). -/
def passDiscover (s : State) (z : Zk) (port : Nat) : State :=
  announceOut (sendCruise s (1 - port) (z.body.take 1 ++ [byte ((leAt z.body 1 1 + 1) % 256)] ++ z.body.drop 2))
    port port false

theorem passDiscover_keeps (s : State) (z : Zk) (port : Nat) :
    Keeps [Reg.SW_CNT_VAL, Reg.SW_MSEC_STAT] [.wire, .out] s (passDiscover s z port) :=
  (sendCruise_keeps _ _ _).trans (announceOut_keeps _ _ _ _)

section
variable {s : State} {frame : List Byte} {z : Zk} {port : Fin 2}

theorem exec_discover_new (h : Heard s frame 0 z) (hsub : leAt z.body 0 1 = 1)
    (hnew : s.chain.cruised = false ∨ s.rd CHN_CRUISE_CRUISE_ID ≠ beAt z.body 2 2) :
    exec (.discover port frame) s = .next (passDiscover (joinCruise s z port.val) z port.val) := by
  change execDiscover port frame s = _
  rw [execDiscover, onCruise_heard h hsub]
  dsimp only
  rw [if_pos (by simpa using hnew)]
  rfl

/-! ### ANNOUNCE, CONFIRM and ASSIGN -/

theorem exec_announce (h : Heard s frame 0 z) (hsub : leAt z.body 0 1 = 2) :
    exec (.announce port frame) s = .next (sendCruise s (upstream s) z.body) := by
  change execAnnounce port frame s = _
  rw [execAnnounce, onCruise_heard h hsub]

theorem exec_confirm (h : Heard s frame 0 z) (hsub : leAt z.body 0 1 = 4) :
    exec (.confirm port frame) s = .next (sendCruise s (upstream s) z.body) := by
  change execConfirm port frame s = _
  rw [execConfirm, onCruise_heard h hsub]

theorem exec_announceTimer (hup : cdUp s = true) (haddr : ownAddr s = 62) (hass : s.chain.assigned = false)
    (hbyp : bypassed s = false) (hcr : s.chain.cruised = true) :
    exec .announceTimer s = .next (announceOut s (upstream s) (upstream s) true) := by
  change whileCd s _ = _
  rw [whileCd_of_up hup, if_pos ⟨haddr, by simp [hass, hbyp]⟩, if_pos hcr]
  rfl

theorem exec_assign_foreign (h : Heard s frame 0 z) (hsub : leAt z.body 0 1 = 3)
    (huid : slice z.body 4 16 ≠ uidBytes s) :
    exec (.assign port frame) s = .next (sendCruise s (1 - upstream s) z.body) := by
  change execAssign port frame s = _
  rw [execAssign, onCruise_heard h hsub]
  dsimp only
  rw [if_pos huid]

/-- An ASSIGN for this unit is held until DONE (R121, R122). -/
def holdAssign (s : State) (z : Zk) : State :=
  { s with chain := { s.chain with pendingAddr := some (leAt z.body 23 1), posDup := bit (leAt z.body 24 1) 3,
                                   assigned := true } }

/-- The unit reports a doubled position and confirms the ASSIGN (R121, R122). -/
def confirmAssign (s : State) (dup : Bool) : State :=
  let t := if dup then raise s 42 true [0] ([byte (s.rd CHN_ADDR_POS), 0] ++ leBytes 2 (s.rd CHN_CRUISE_CRUISE_ID))
    else s
  sendCruise t (upstream t) (cruiseBody t 4 62 (upstream t) false)

theorem confirmAssign_keeps (s : State) (dup : Bool) :
    Keeps [Reg.PAR_EVT_CNT, Reg.SW_CNT_VAL, Reg.SW_MSEC_STAT, Reg.TLY_CNT0]
      [.records, .owed, .rings, .evt, .queue, .proxies, .loss, .wire, .out] s (confirmAssign s dup) :=
  (sendCruise_keeps _ _ _).then_ (by decide) (by decide) <|
    Keeps.ite (fun _ => (raise_keeps _ _ _ _ _).then_ (by decide) (by decide) (Keeps.refl s)) fun _ => Keeps.refl s

theorem exec_assign_own (h : Heard s frame 0 z) (hsub : leAt z.body 0 1 = 3) (huid : slice z.body 4 16 = uidBytes s)
    (hlow : 1 ≤ leAt z.body 23 1) (hhigh : leAt z.body 23 1 ≤ 30) :
    exec (.assign port frame) s = .next (confirmAssign (holdAssign s z) (bit (leAt z.body 24 1) 3)) := by
  change execAssign port frame s = _
  rw [execAssign, onCruise_heard h hsub]
  dsimp only
  rw [if_neg (by simpa using huid), if_neg (by omega)]
  rfl

/-! ### DONE -/

/-- The unit passes DONE on and takes the address that it holds, or keeps its own (R121). -/
def takeAddr (s : State) (z : Zk) : State :=
  let t := sendCruise s (1 - upstream s) z.body
  { t.wr CHN_ADDR_ADDR (s.chain.pendingAddr.getD (ownAddr s)) with chain := { t.chain with pendingAddr := none } }

theorem takeAddr_addr (s : State) (z : Zk) :
    (takeAddr s z).rd CHN_ADDR_ADDR = s.chain.pendingAddr.getD (ownAddr s) % 64 :=
  rd_wr_same _ CHN_ADDR_ADDR _ (by decide)

/-- A unit whose address changes detaches its partitions (R136). -/
def detachMoved (s : State) (moved : Bool) : State := if moved then detachAll s 6 else s

/-- The cruise's end is reported. -/
def reportCruise (s : State) (addr : Nat) : State :=
  raise s 41 false [0] ([byte addr, byte (s.rd CHN_CRUISE_HOPS)] ++ leBytes 2 (s.rd CHN_CRUISE_CRUISE_ID)
    ++ [byte (s.rd CHN_CRUISE_RING_SEEN)])

theorem detachMoved_addr (s : State) (moved : Bool) :
    (detachMoved s moved).rd CHN_ADDR_ADDR = s.rd CHN_ADDR_ADDR := by
  cases moved
  · rfl
  · exact (detachAll_keeps s 6).rdOf (by decide) (by decide) (by decide)

theorem detachMoved_pendingAddr (s : State) (moved : Bool) :
    (detachMoved s moved).chain.pendingAddr = s.chain.pendingAddr := by
  cases moved
  · rfl
  · exact congrArg (·.pendingAddr) ((detachAll_keeps s 6).plain .chain (by decide) rfl)

theorem reportCruise_addr (s : State) (addr : Nat) : (reportCruise s addr).rd CHN_ADDR_ADDR = s.rd CHN_ADDR_ADDR :=
  raise_rd _ _ _ _ _ (by decide) (by decide)

theorem reportCruise_pendingAddr (s : State) (addr : Nat) :
    (reportCruise s addr).chain.pendingAddr = s.chain.pendingAddr :=
  raise_chain_pendingAddr ..

theorem exec_cruiseDone (h : Heard s frame 0 z) (hsub : leAt z.body 0 1 = 5) (hcr : s.chain.cruised = true)
    (hid : s.rd CHN_CRUISE_CRUISE_ID = beAt z.body 2 2) : exec (.cruiseDone port frame) s =
      .next (reportCruise (detachMoved (takeAddr s z) (s.chain.pendingAddr.getD (ownAddr s) != ownAddr s))
        (s.chain.pendingAddr.getD (ownAddr s))) := by
  change execCruiseDone port frame s = _
  rw [execCruiseDone, onCruise_heard h hsub]
  dsimp only
  rw [if_pos ⟨hcr, hid⟩]
  by_cases hsame : s.chain.pendingAddr.getD (ownAddr s) = ownAddr s
  · rw [if_pos hsame, show (s.chain.pendingAddr.getD (ownAddr s) != ownAddr s) = false by simpa using hsame]
    rfl
  · rw [if_neg hsame, show (s.chain.pendingAddr.getD (ownAddr s) != ownAddr s) = true by simpa using hsame]
    rfl

end

/-- Settles O9: each command's own equation, and what the frames that it sends leave of the state it has set. -/
theorem chainCruise : Obligations.ChainCruise := by
  unfold Obligations.ChainCruise
  refine ⟨fun port up s hld => ?link, fun v s hup hrate => ?rate0, fun v s hup hrate => ?rate1,
    fun port frame z s h hsub hnew => ?discover, fun port frame z s h hsub => exec_announce h hsub,
    fun port frame z s h hsub => exec_confirm h hsub,
    fun s hup haddr hass hbyp hcr => exec_announceTimer hup haddr hass hbyp hcr,
    fun port frame z s h hsub huid hlow hhigh => ?assign,
    fun port frame z s h hsub huid => exec_assign_foreign h hsub huid,
    fun port frame z s h hsub hcr hid => ?done, fun s => ?timeout⟩
  case link =>
    refine (execChainLinkChange_keeps port up s).runs (exec_chainLinkChange hld port up) (by decide) (by decide)
      (by decide) ⟨?_, ?_⟩
    · rw [linkUp_setLink, if_pos Iff.rfl]
    · rw [linkUp_setLink, if_neg (by omega)]
  case rate0 =>
    exact (execChnPortCfgWrite_keeps .p0 v s).runs (exec_chnPortCfgWrite hup v) (by decide) (by decide) (by decide)
      ((linkUp_retrain_other (by decide)).trans (linkUp_retrain_same hrate _ 0))
  case rate1 =>
    exact (execChnPortCfgWrite_keeps .p0 v s).runs (exec_chnPortCfgWrite hup v) (by decide) (by decide) (by decide)
      (linkUp_retrain_same hrate _ 1)
  case discover =>
    have k := passDiscover_keeps (joinCruise s z port.val) z port.val
    have hcruised : (passDiscover (joinCruise s z port.val) z port.val).chain.cruised = true :=
      congrArg (·.cruised) (k.plain .chain (by decide) rfl)
    exact (execDiscover_keeps port frame s).runs (exec_discover_new h hsub hnew) (by decide) (by decide) (by decide)
      ⟨(k.rdOf (by decide) (by decide) (by decide)).trans (joinCruise_id s z port.val),
        (k.rdOf (by decide) (by decide) (by decide)).trans
          ((joinCruise_upstream s z port.val).trans (Nat.mod_eq_of_lt port.isLt)),
        (k.rdOf (by decide) (by decide) (by decide)).trans (joinCruise_hops s z port.val),
        (k.flagOf (by decide) (by decide) (by decide)).trans (joinCruise_ringSeen s z port.val), hcruised⟩
  case assign =>
    have k := confirmAssign_keeps (holdAssign s z) (bit (leAt z.body 24 1) 3)
    have hc := k.plain .chain (by decide) rfl
    exact (execAssign_keeps port frame s).runs (exec_assign_own h hsub huid hlow hhigh) (by decide) (by decide)
      (by decide) ⟨congrArg (·.pendingAddr) hc, congrArg (·.assigned) hc, congrArg (·.posDup) hc,
        k.rdOf (by decide) (by decide) (by decide)⟩
  case done =>
    refine (execCruiseDone_keeps port frame s).runs (exec_cruiseDone h hsub hcr hid) (by decide) (by decide) (by decide)
      ⟨?_, ?_⟩
    · rw [reportCruise_addr, detachMoved_addr, takeAddr_addr]
    · rw [reportCruise_pendingAddr, detachMoved_pendingAddr]
      rfl
  case timeout =>
    exact (execAssignTimeout_keeps s).runs rfl (by decide) (by decide) (by decide) rfl

end Sys2Proof.Machine
end

section
/-! SUPPORT.
The ring proxy of REMOTE partitions (R132, R133, R134, R138, R139, R187, R188).
-/

namespace Sys2Proof.Machine

/-! ### Frames from a partition's home -/

section
variable {s : State} {frame : List Byte} {typ : Nat} {z : Zk} {port : Fin 2} {sec : Bool}

/-- A frame for this unit that arrives as its port demands acts (R117). -/
theorem onRemote_heard (h : Heard s frame typ z)
    (hsec : s.flag (SW_MSEC_CFG_MSEC_EN port.val) = false ∨ sec = true) (hdst : z.dst = ownAddr s ∨ z.dst = 63)
    (act : Zk → State → State) : onRemote typ sec s port.val frame act = act z s := by
  have ⟨_, _, _, _, _, htyp⟩ := h
  have hplain : ¬ (s.flag (SW_MSEC_CFG_MSEC_EN port.val) && !sec) = true := by
    rcases hsec with hs | hs <;> simp [hs]
  rw [onRemote, onFrame_heard h, if_neg hplain, if_pos ⟨htyp, hdst⟩]

/-- A home's frame acts in the state in which the home has just been heard (R138). -/
theorem fromHome_heard (hhome : FromHome s port.val sec z) (act : State → State) :
    fromHome z s act = act (heardFrom s z) := by
  obtain ⟨-, -, hpart, hatt, hsrc⟩ := hhome
  rw [fromHome, if_pos ⟨hpart, hatt, hsrc⟩]
  rfl

theorem onRemote_fromHome (h : Heard s frame typ z) (hhome : FromHome s port.val sec z) (act : Zk → State → State) :
    onRemote typ sec s port.val frame (fun z t => fromHome z t (act z)) = act z (heardFrom s z) := by
  have ⟨hsec, hdst, _⟩ := hhome
  rw [onRemote_heard h hsec hdst, fromHome_heard hhome]

/-! ### Doorbells and read answers -/

theorem exec_doorbellFrame_producer (h : Heard s frame 1 z) (hhome : FromHome s port.val sec z)
    (heng : leAt z.body 0 1 < 7) (hring : leAt z.body 1 1 < 4) : exec (.doorbellFrame port frame sec) s =
      .next (fetchAll (producer (heardFrom s z) z.part (leAt z.body 0 1) (leAt z.body 1 1) (beAt z.body 4 4))
        z.part) := by
  change execDoorbellFrame port frame sec s = _
  rw [execDoorbellFrame, onRemote_fromHome h hhome]
  dsimp only
  rw [if_neg (by omega), if_pos hring]

theorem exec_doorbellFrame_consumer (h : Heard s frame 1 z) (hhome : FromHome s port.val sec z)
    (heng : leAt z.body 0 1 < 7) (hring : leAt z.body 1 1 = 4 ∨ leAt z.body 1 1 = 5) :
    exec (.doorbellFrame port frame sec) s =
      .next (consumer (heardFrom s z) z.part (leAt z.body 0 1) (leAt z.body 1 1) (beAt z.body 4 4)) := by
  change execDoorbellFrame port frame sec s = _
  rw [execDoorbellFrame, onRemote_fromHome h hhome]
  dsimp only
  rw [if_neg (by omega), if_neg (by omega)]

theorem exec_readRsp_descriptors {r : ProxyRead} (h : Heard s frame 3 z) (hhome : FromHome s port.val sec z)
    (hread : (proxyOf (heardFrom s z) z.part).reads.find? (fun q => q.id == beAt z.body 0 2) = some r)
    (hdata : r.eng ≠ DATA) : exec (.readRsp port frame sec) s =
      .next (fetchAll (setProxy (heardFrom s z) z.part { proxyOf (heardFrom s z) z.part with
        reads := (proxyOf (heardFrom s z) z.part).reads.filter (fun q => q.id != r.id),
        fetched := (proxyOf (heardFrom s z) z.part).fetched
          ++ readData r (leAt z.body 4 1 == 1) (z.body.drop 8) }) z.part) := by
  change execReadRsp port frame sec s = _
  rw [execReadRsp, onRemote_fromHome h hhome]
  dsimp only
  rw [hread]
  dsimp only
  rw [if_neg hdata]

/-! ### Reads without an answer -/

/-- The read is asked again, now (R133). -/
def askAgain (s : State) (part id : Nat) : State :=
  setProxy s part { proxyOf s part with reads := (proxyOf s part).reads.map fun q =>
    if q.id = id then { q with tries := q.tries + 1, since := s.now } else q }

/-- READ_TMO without an answer asks again, and detaches after the third time (R133). -/
theorem exec_readTimeout {part : Fin 8} {id : Nat} {r : ProxyRead} (hup : cdUp s = true)
    (hread : (proxyOf s part.val).reads.find? (fun q => q.id == id) = some r)
    (hlate : lasted s r.since (10 * s.rd CHN_REMOTE_READ_TMO) = true) : exec (.readTimeout part id) s =
      .next (if r.tries ≥ 3 then detach s part.val 3 else sendRead (askAgain s part.val id) part.val r) := by
  change whileCd s _ = _
  rw [whileCd_of_up hup]
  dsimp only
  rw [hread]
  dsimp only
  rw [if_neg (by simp [hlate])]
  rfl

/-! ### Heartbeats and attachment -/

theorem onHeartbeat_home (hhome : FromHome s port.val sec z) (hreq : bit (leAt z.body 3 1) 0 = false) :
    onHeartbeat z port.val s = if bit (leAt z.body 3 1) 1 then detach (heardFrom s z) z.part 2
      else acknowledge (heardFrom s z) z.part (beAt z.body 0 2) := by
  unfold onHeartbeat
  dsimp only
  rw [hreq, if_neg (by decide), fromHome_heard hhome]

theorem exec_heartbeat (h : Heard s frame 6 z) (hhome : FromHome s port.val sec z)
    (hreq : bit (leAt z.body 3 1) 0 = false) (hdet : bit (leAt z.body 3 1) 1 = false) :
    exec (.heartbeat port frame sec) s = .next (acknowledge (heardFrom s z) z.part (beAt z.body 0 2)) := by
  have ⟨hsec, hdst, _⟩ := hhome
  change execHeartbeat port frame sec s = _
  rw [execHeartbeat, onRemote_heard h hsec hdst, onHeartbeat_home hhome hreq, hdet, if_neg (by decide)]

theorem exec_detachReq (h : Heard s frame 6 z) (hhome : FromHome s port.val sec z)
    (hreq : bit (leAt z.body 3 1) 0 = false) (hdet : bit (leAt z.body 3 1) 1 = true) :
    exec (.detachReq port frame sec) s = .next (detach (heardFrom s z) z.part 2) := by
  have ⟨hsec, hdst, _⟩ := hhome
  change execDetachReq port frame sec s = _
  rw [execDetachReq, onRemote_heard h hsec hdst, onHeartbeat_home hhome hreq, hdet, if_pos rfl]

/-- A home that may attach its partition is answered once the partition is attached (R132, R139). -/
theorem onAttach_granted (hremote : homeOf s z.part = 2) (hstate : partState s z.part = 2 ∨ partState s z.part = 3)
    (hsrc : z.src = homeAddr s z.part) (hdup : s.chain.posDup = false) (hatt : attached s z.part = false)
    (port : Nat) : onAttach z port s = sendZilek (attach s z.part) port 6 0 z.src z.part 0
      (heartbeatBody (attach s z.part) 1 0) := by
  unfold onAttach
  dsimp only
  rw [if_neg (by omega), if_neg (by simpa using hsrc), if_neg (by simp [hdup]), if_neg (by simp [hatt])]

theorem exec_attachReq (h : Heard s frame 6 z) (hsec : s.flag (SW_MSEC_CFG_MSEC_EN port.val) = false ∨ sec = true)
    (hdst : z.dst = ownAddr s ∨ z.dst = 63) (hreq : bit (leAt z.body 3 1) 0 = true) (hpart : z.part < 8)
    (hremote : homeOf s z.part = 2) (hstate : partState s z.part = 2 ∨ partState s z.part = 3)
    (hsrc : z.src = homeAddr s z.part) (hdup : s.chain.posDup = false) (hatt : attached s z.part = false) :
    exec (.attachReq port frame sec) s = .next (sendZilek (attach s z.part) port.val 6 0 z.src z.part 0
      (heartbeatBody (attach s z.part) 1 0)) := by
  change execAttachReq port frame sec s = _
  rw [execAttachReq, onRemote_heard h hsec hdst]
  unfold onHeartbeat
  dsimp only
  rw [if_pos hreq, if_pos hpart, onAttach_granted hremote hstate hsrc hdup hatt]

theorem exec_heartbeatSend {part : Fin 8} (hup : cdUp s = true) (hatt : attached s part.val = true)
    (hfresh : (proxyOf (sendZilek s (upstream s) 6 0 (homeAddr s part.val) part.val 0 (heartbeatBody s 1 0))
      part.val).stale = false) : exec (.heartbeatSend part) s =
      .next (sendZilek s (upstream s) 6 0 (homeAddr s part.val) part.val 0 (heartbeatBody s 1 0)) := by
  change whileCd s _ = _
  rw [whileCd_of_up hup, if_pos hatt]
  dsimp only
  rw [if_neg (by simp [hfresh])]

/-! ### Detachment and posts sent again -/

/-- A detached partition's bit of ATTACHED is cleared, whatever the partition's own end does. -/
theorem detach_attached {p : Nat} (hatt : attached s p = true) (cause : Nat) :
    (detach s p cause).rd CHN_ATTACH_ATTACHED = (s.rd CHN_ATTACH_ATTACHED - 2 ^ p) % 256 := by
  have hstate : ∀ (u : State), (u.wr (PAR_STATE_STATE p) 3).rd CHN_ATTACH_ATTACHED = u.rd CHN_ATTACH_ATTACHED :=
    fun u => rd_wr_off u 3 (by decide) (in_PAR_STATE_STATE p).2 (show 0x40044 ≠ 0x50020 by decide)
  unfold detach
  rw [if_pos hatt]
  dsimp only
  rw [(dropPart_keeps _ _).rdOf (by decide) (by decide) (by decide),
    (orphanPart_keeps _ _).rdOf (by decide) (by decide) (by decide), raise_rd _ _ _ _ _ (by decide) (by decide), hstate,
    setProxy_rd]
  exact rd_wr_same _ _ _ (by decide)

theorem exec_detachTimeout {part : Fin 8} (hup : cdUp s = true)
    (hlate : lasted s (proxyOf s part.val).heardAt (1000 * detachMs s) = true) :
    exec (.detachTimeout part) s = .next (detach s part.val 1) := by
  change whileCd s _ = _
  rw [whileCd_of_up hup, if_pos hlate]

theorem exec_writeRetransmit {part : Fin 8} (hup : cdUp s = true)
    (hlate : lasted s (proxyOf s part.val).sentAt (100 * s.rd CHN_REMOTE_WR_RETX) = true) :
    exec (.writeRetransmit part) s = .next ((proxyOf s part.val).unacked.foldl
      (fun u f => sendZilek u (upstream u) f.typ 0 (homeAddr u part.val) part.val f.seq f.body)
      (setProxy s part.val { proxyOf s part.val with sentAt := s.now })) := by
  change whileCd s _ = _
  rw [whileCd_of_up hup]
  dsimp only
  rw [if_pos hlate]

end

/-- Settles O10: each command's own equation, and the bit that a detachment clears. -/
theorem ringProxy : Obligations.RingProxy := by
  unfold Obligations.RingProxy
  refine ⟨fun port frame sec z s h hhome heng hring => exec_doorbellFrame_producer h hhome heng hring,
    fun port frame sec z s h hhome heng hring => exec_doorbellFrame_consumer h hhome heng hring,
    fun port frame sec z r s h hhome hread hdata => exec_readRsp_descriptors h hhome hread hdata,
    fun part id r s hup hread hlate htries => ?again, fun part id r s hup hread hlate htries hatt => ?giveUp,
    fun port frame sec z s h hhome hreq hdet => exec_heartbeat h hhome hreq hdet,
    fun port frame sec z s h hsec hdst hreq hpart hremote hstate hsrc hdup hatt =>
      exec_attachReq h hsec hdst hreq hpart hremote hstate hsrc hdup hatt,
    fun port frame sec z s h hhome hreq hdet => ?detachReq,
    fun part s hup hatt hfresh => exec_heartbeatSend hup hatt hfresh, fun part s hup hlate hatt => ?silent,
    fun part s hup hlate => exec_writeRetransmit hup hlate⟩
  case again =>
    rw [exec_readTimeout hup hread hlate, if_neg (by omega)]
    rfl
  case giveUp =>
    exact (execReadTimeout_keeps part id s).runs ((exec_readTimeout hup hread hlate).trans (by rw [if_pos htries]))
      (by decide) (by decide) (by decide) (detach_attached hatt 3)
  case detachReq =>
    have ⟨_, _, _, hatt, _⟩ := hhome
    exact (execDetachReq_keeps port frame sec s).runs (exec_detachReq h hhome hreq hdet) (by decide) (by decide)
      (by decide) (detach_attached (s := heardFrom s z) hatt 2)
  case silent =>
    exact (execDetachTimeout_keeps part s).runs (exec_detachTimeout hup hlate) (by decide) (by decide) (by decide)
      (detach_attached hatt 1)

end Sys2Proof.Machine
end

section
/-! SUPPORT.
Frames through the switch, its gates and its aging, and the segments' PLCA (R125, R333, R344, R349, R350, R351, R366,
R374, R375).
-/

namespace Sys2Proof.Machine

/-! ### Reception -/

section
variable {s : State} {frame : List Byte} {port : Fin 6}

/-- A chain port's frame at an engaged bypass goes no further than the bypass (R125). -/
theorem exec_frameReceive_bypass (hport : port.val < 2) (hld : s.pwr.ldUp = true) (hbyp : bypassed s = true)
    (fcsOk : Bool) : exec (.frameReceive port frame fcsOk) s = .next (bypassFrame s port.val frame) := by
  change execFrameReceive port frame fcsOk s = _
  rw [execFrameReceive, if_pos ⟨hport, hld, hbyp⟩]

/-- A frame that reaches the switch is counted with its bytes (R333). -/
def countFrame (s : State) (port n : Nat) : State := swCount (swCount s 0 port 0 1) 1 port 0 n

theorem exec_frameReceive_bad {fcsOk : Bool} (hbyp : ¬ (port.val < 2 ∧ bypassed s = true))
    (hcut : s.chain.cut = false) (hup : switchUp s = true) (hld : ldLink s = true)
    (hbad : fcsOk = false ∨ frame.length + 4 < 64) : exec (.frameReceive port frame fcsOk) s =
      .next (swCount (countFrame s port.val (frame.length + 4)) 4 port.val 0 1) := by
  have hfault : (!fcsOk) = true ∨ frame.length + 4 < 64 := hbad.imp_left fun h => by rw [h]; rfl
  change execFrameReceive port frame fcsOk s = _
  unfold execFrameReceive
  dsimp only
  rw [if_neg (by tauto), if_neg (by simp [hup, hld, hcut]), if_pos (by tauto)]
  rfl

/-- A good frame of a segment goes where the route says (R333, R340). -/
theorem exec_frameReceive_segment {u : State} {k : Plan} (hport : 2 ≤ port.val) (hup : switchUp s = true)
    (hld : ldLink s = true) (hmin : 64 ≤ frame.length + 4) (hmax : frame.length + 4 ≤ s.rd SW_CFG_MAX_FRAME)
    (hroute : route (countFrame s port.val (frame.length + 4)) port.val frame 0 = (u, some k)) :
    exec (.frameReceive port frame true) s = .next (k.dests.foldl (copyTo k) u) := by
  have hchain : ¬ port.val < 2 := by omega
  change execFrameReceive port frame true s = _
  unfold execFrameReceive
  dsimp only
  rw [if_neg (by tauto), if_neg (by simp [hup, hld, hchain]), if_neg (by simp [hchain]; omega), if_neg hchain]
  dsimp only
  rw [← countFrame, if_neg (by omega), if_neg (by decide), hroute]

end

/-! ### Transmission -/

/-- A queued frame leaves its port when the class is next, and waiting ones use the room (R349, R350, R351). -/
theorem exec_frameTransmit_unshaped {s u v : State} {port : Fin 8} {gap c : Nat} {q : QFrame} {rest : List QFrame}
    (hup : switchUp s = true) (hport : 2 ≤ port.val) (hld : port.val < 6 → ldLink s = true)
    (hu : u = (List.range 8).foldl (fun t c => gateDrop port.val c (queueOf t port.val c).length t)
      ((List.range 6).foldl (accrue port.val gap) s))
    (hnext : nextClass u port.val = some c) (hqueue : queueOf u port.val c = q :: rest)
    (hv : v = ((List.range 6).filter (· != c)).foldl (accrue port.val (txNs u port.val (wireLen u port.val q.bytes)))
      (setQueue u port.val c rest))
    (hshape : shaped v port.val c = false) :
    exec (.frameTransmit port gap) s = .next (retryTx (sendOut v port.val c q)) := by
  have hopen : ¬ (!switchUp s || (decide (port.val < 6) && !ldLink s)
      || (decide (port.val < 2) && (offChain s || !linkUp s port.val))) = true := by
    have hchain : ¬ port.val < 2 := by omega
    by_cases h6 : port.val < 6
    · simp [hup, hld h6, hchain]
    · simp [hup, h6, hchain]
  change execFrameTransmit port gap s = _
  unfold execFrameTransmit
  dsimp only
  rw [if_neg hopen, ← hu, hnext]
  dsimp only
  rw [hqueue]
  dsimp only
  rw [← hv, hshape, if_neg (by decide)]

/-! ### Gates and aging -/

/-- Where the gates do not govern the port, none of its entries is in effect (R351). -/
theorem exec_gateEntry_ungated {s : State} {port : Fin 2} (hup : switchUp s = true) (hg : gated s port.val = false) :
    exec (.gateEntry port) s = .next { s with sw := { s.sw with gates := tabDel s.sw.gates port.val } } := by
  change execGateEntry port s = _
  unfold execGateEntry
  dsimp only
  rw [if_neg (by simp [hup]), hg]
  rfl

/-- The entries of the forwarding table that a scan leaves (R344). -/
def unexpired (s : State) : Tab TblEnt :=
  s.sw.table.filter fun e => e.2.static || decide (ageOf s e.2 < s.rd SW_CFG_AGE_TIME)

theorem exec_agingScan {s : State} (hup : switchUp s = true) : exec .agingScan s =
    .next (swCount (showTable { s with sw := { s.sw with table := unexpired s } }) 14 0 0
      (s.sw.table.length - (unexpired s).length)) := by
  change execAgingScan s = _
  unfold execAgingScan
  dsimp only
  rw [if_neg (by simp [hup])]
  rfl

theorem swCount_table (s : State) (ctr port cls n : Nat) : (swCount s ctr port cls n).sw.table = s.sw.table :=
  congrArg (·.table) ((swCount_keeps s ctr port cls n).plain .sw (by decide) rfl)

theorem showTable_table (s : State) : (showTable s).sw.table = s.sw.table := rfl

/-! ### Segments -/

section
variable {s : State} {seg : Fin 4}

theorem exec_plcaBeaconLoss (hup : cdUp s = true) (hfol : follower s seg.val = true)
    (hst : s.flag (SUB_T1S_STAT_PLCA_STATUS seg.val) = true) :
    exec (.plcaBeaconLoss seg) s = .next (plcaChange s seg.val false) := by
  change whileCd s _ = _
  rw [whileCd_of_up hup, if_pos (by simp [hfol, hst])]

theorem exec_plcaBeaconReturn (hup : cdUp s = true) (hfol : follower s seg.val = true)
    (hst : s.flag (SUB_T1S_STAT_PLCA_STATUS seg.val) = false) :
    exec (.plcaBeaconReturn seg) s = .next (plcaChange s seg.val true) := by
  change whileCd s _ = _
  rw [whileCd_of_up hup, if_pos (by simp [hfol, hst])]

theorem exec_t1sSleepReq (hup : cdUp s = true) (hps : s.pwr.ps = .run) : exec (.t1sSleepReq seg) s =
    .next (emit (raise s 49 false [ownerOr0 s 7 seg.val] [byte seg.val])
      (.sleepAck (2 + seg.val) (s.flag (SUB_T1S_CFG_SLEEP_OK seg.val)))) := by
  change whileCd s _ = _
  rw [whileCd_of_up hup, if_pos hps]

end

/-- Settles O29: each command's own equation, along the one branch that its conditions leave open. -/
theorem switchFrames : Obligations.SwitchFrames := by
  unfold Obligations.SwitchFrames
  refine ⟨fun port frame fcsOk s hport hld hbyp => exec_frameReceive_bypass hport hld hbyp fcsOk,
    fun port frame fcsOk s hbyp hcut hup hld hbad => exec_frameReceive_bad hbyp hcut hup hld hbad,
    fun port frame u k s hport hup hld hmin hmax hroute => exec_frameReceive_segment hport hup hld hmin hmax hroute,
    fun port gap u v c q rest s hup hport hld hu hnext hqueue hv hshape =>
      exec_frameTransmit_unshaped hup hport hld hu hnext hqueue hv hshape,
    fun port s hup hg => ?gate, fun s hup => ?aging, fun seg s hup hfol hst => exec_plcaBeaconLoss hup hfol hst,
    fun seg s hup hfol hst => exec_plcaBeaconReturn hup hfol hst, fun seg s hup hps => exec_t1sSleepReq hup hps⟩
  case gate =>
    exact (execGateEntry_keeps port s).runs (exec_gateEntry_ungated hup hg) (by decide) (by decide) (by decide) ⟨rfl, rfl⟩
  case aging =>
    refine (execAgingScan_keeps s).runs (exec_agingScan hup) (by decide) (by decide) (by decide) ?_
    rw [swCount_table, showTable_table]
    rfl

end Sys2Proof.Machine
end

section
/-! SUPPORT.
The completion record in memory: its bytes by Table 7.4, and what posting it leaves (R168, R178).
-/

namespace Sys2Proof.Machine

/-! ### Fields of a byte structure -/

@[simp] theorem toNat_byte (n : Nat) : (byte n).toNat = n % 256 := BitVec.toNat_ofNat n 8

theorem leNat_leBytes (k n : Nat) : leNat (leBytes k n) = n % 256 ^ k := by
  induction k generalizing n with
  | zero => simp [leBytes, leNat, Nat.mod_one]
  | succ k ih =>
    rw [leBytes, leNat, ih, toNat_byte, pow_succ', Nat.mod_mul]

theorem slice_all (l : List Byte) : slice l 0 l.length = l := by simp [slice]

/-- A field that ends within the first part of a structure is that part's. -/
theorem slice_append_of_le {l : List Byte} (r : List Byte) {i k : Nat} (h : i + k ≤ l.length) :
    slice (l ++ r) i k = slice l i k := by
  have hk : k - (l.drop i).length = 0 := by rw [List.length_drop]; omega
  simp only [slice, List.drop_append_of_le_length (show i ≤ l.length by omega), List.take_append, hk, List.take_zero,
    List.append_nil]

/-- A field that begins past the first part of a structure is the rest's. -/
theorem slice_append_of_ge {l : List Byte} (r : List Byte) {i : Nat} (k : Nat) (h : l.length ≤ i) :
    slice (l ++ r) i k = slice r (i - l.length) k := by
  simp only [slice, List.drop_append, List.drop_eq_nil_of_le h, List.nil_append]

@[simp] theorem slice_cons_succ (x : Byte) (l : List Byte) (i k : Nat) : slice (x :: l) (i + 1) k = slice l i k := rfl

theorem leNat_slice_cons (x : Byte) (l : List Byte) : leNat (slice (x :: l) 0 1) = x.toNat := by simp [slice, leNat]

theorem leNat_slice_leBytes (k n : Nat) : leNat (slice (leBytes k n) 0 k) = n % 256 ^ k := by
  have hall : slice (leBytes k n) 0 k = leBytes k n := by simpa using slice_all (leBytes k n)
  rw [hall, leNat_leBytes]

/-! ### The record -/

/-- Table 7.4: where the fields of a completion record stand. -/
theorem complBytes_fields (h : DHdr) (opcode status epoch time phase : Nat) (result : List Byte) {r : List Byte}
    (hr : r = complBytes h opcode status epoch time phase result) :
    leAt r 0 2 = h.tag.toNat ∧ leAt r 2 1 = status % 256 ∧ leAt r 3 1 = opcode % 256 ∧
    leAt r 4 2 = h.sqHead.toNat ∧ leAt r 6 1 = h.ring.val + (if h.rebased then 4 else 0) ∧
    leAt r 7 1 = epoch % 256 ∧ leAt r 8 8 = time % 2 ^ 64 ∧ leAt r 16 4 = h.late.toNat ∧
    slice r 20 8 = padTo 8 result ∧ leAt r 28 3 = 0 ∧ leAt r 31 1 = phase * 128 % 256 := by
  have htag : h.tag.toNat < 65536 := h.tag.isLt
  have hhead : h.sqHead.toNat < 65536 := h.sqHead.isLt
  have hlate : h.late.toNat < 4294967296 := h.late.isLt
  have hring : (h.ring.val + if h.rebased then 4 else 0) < 256 := by
    have := h.ring.isLt
    split <;> omega
  have hpad : slice (padTo 8 result) 0 8 = padTo 8 result := by simpa using slice_all (padTo 8 result)
  have hzero : ∀ x : Byte, leNat (slice [0#8, 0#8, 0#8, x] 0 3) = 0 := fun x => by simp [slice, leNat]
  subst hr
  unfold complBytes
  refine ⟨?_, ?_, ?_, ?_, ?_, ?_, ?_, ?_, ?_, ?_, ?_⟩ <;>
    simp [leAt, slice_append_of_le, slice_append_of_ge, leNat_slice_leBytes, leNat_slice_cons, htag, hhead, hlate,
      hring, hpad, hzero]

/-- Bytes written to system SRAM read back. -/
theorem readBytes_writeBytes_sram (s : State) {a : Nat} (bs : List Byte) (hlo : 0x10000000 ≤ a)
    (htop : a + bs.length ≤ 0x10C00000) : readBytes (writeBytes s a bs) a bs.length = bs := by
  rw [readBytes_eq_map]
  refine List.ext_getElem (by simp) fun i hi hbs => ?_
  have hsram : inSram (a + i) = true := (inSram_iff _).2 (by omega)
  rw [List.getElem_map, List.getElem_range, readByte_writeBytes_in s a i bs hbs (.inl hsram)]

theorem readByte_setRing (s : State) (k : Nat) (g : Ring) (a : Nat) : readByte (setRing s k g) a = readByte s a := rfl

theorem readBytes_setRing (s : State) (k : Nat) (g : Ring) (a n : Nat) :
    readBytes (setRing s k g) a n = readBytes s a n := by
  simp only [readBytes_eq_map, readByte_setRing]

/-- A record for a home with memory goes to its slot, and the producer index moves on (R168, R178). -/
theorem postCompl_stored {s : State} {eng : Nat} {h : DHdr} {g : Ring} (opcode status : Nat) (result : List Byte)
    (hhome : homeOf s h.part.val ≠ 2) (hg : g = ringAt s (ringKey h.part.val eng 4)) (harm : g.armed = true)
    (hsh : (shadowOf s h.part.val).armed = false) : postCompl s eng h opcode status result =
      setRing (writeBytes s (slotAddr g 32)
        (complBytes h opcode status (s.rd SPR_DT_STATUS_EPOCH) (dtNow s) (phaseOf g) result))
        (ringKey h.part.val eng 4) { g with prod := (g.prod + 1) % 2 ^ 32 } := by
  have hunarmed : ∀ u : State, u.rng.shadows = s.rng.shadows → ∀ i v, shadowPut u h.part.val i v = u := by
    intro u hu i v
    have hsh' : (shadowOf u h.part.val).armed = false := by rw [shadowOf, hu]; exact hsh
    rw [shadowPut, hsh', if_neg (by decide)]
  subst hg
  have hstore : ∀ a bs, storeFor s h.part.val 0 a bs = writeBytes s a bs := fun a bs => by
    rw [storeFor, if_neg hhome]
  unfold postCompl
  rw [if_pos harm, hunarmed _ (by rw [hstore]; rfl), hstore]

/-- Settles O59: the record is written to its slot whole, and its fields stand there as Table 7.4 has them. -/
theorem completionRecords : Obligations.CompletionRecords := by
  unfold Obligations.CompletionRecords
  intro s eng h opcode status result g a hhome hg harm hsh ha hlo htop
  have hlen := complBytes_length h opcode status (s.rd SPR_DT_STATUS_EPOCH) (dtNow s) (phaseOf g) result
  have hslot : slotAddr g 32 = a := ha.symm
  have hpost := postCompl_stored opcode status result hhome hg harm hsh
  rw [hslot] at hpost
  have hread := readBytes_writeBytes_sram s (complBytes h opcode status (s.rd SPR_DT_STATUS_EPOCH) (dtNow s) (phaseOf g)
    result) hlo (by rw [hlen]; exact htop)
  rw [hlen, ← readBytes_setRing _ (ringKey h.part.val eng 4) { g with prod := (g.prod + 1) % 2 ^ 32 }] at hread
  obtain ⟨htag, hstatus, hop, hhead, hring, hepoch, htime, hlate, hres, hzero, hphase⟩ :=
    complBytes_fields h opcode status (s.rd SPR_DT_STATUS_EPOCH) (dtNow s) (phaseOf g) result hread
  refine ⟨_, _, hpost, rfl, htag, hstatus, hop, hhead, hring, hepoch, htime, hlate, hres, hzero, hphase.trans ?phase,
    ringAt_setRing_same _ _ _, fun x hx => ?other⟩
  case phase =>
    unfold phaseOf
    split <;> rfl
  case other =>
    rw [readByte_setRing, readByte_writeBytes_out s a x _ (by rw [hlen]; exact hx)]

end Sys2Proof.Machine
end

section
/-! SUPPORT.
The setup of rings: arming, engine resets and doorbells (R81, R166, R167, R169, R170, R189).
-/

namespace Sys2Proof.Machine

/-! ### Arming and engine resets -/

section
variable {s u : State}

/-- ARM_PART of a STOPPED partition, by what its check finds (R167). -/
theorem exec_armPart_checked (hup : cdUp s = true) (hidle : s.rng.busy = false) (hu : u = busyNow s)
    (hst : partState u (u.rd RNG_SEL_PART) = 1) : exec (.armPart .p0) s =
      .next ((armFault u (u.rd RNG_SEL_PART) (List.range 7) true).elim
        (showRing (ringResult (armPartition u (u.rd RNG_SEL_PART)) (1, 0))) (ringResult u)) := by
  subst hu
  change whileCd s _ = _
  rw [whileCd_of_up hup]
  dsimp only
  rw [if_neg (by decide), if_neg (by simp [hidle]), if_neg (by omega), if_neg (by omega)]
  cases armFault (busyNow s) ((busyNow s).rd RNG_SEL_PART) (List.range 7) true <;> rfl

/-- An arming command that comes while another is checked counts as a malformed one (R167). -/
theorem exec_armPart_busy (hup : cdUp s = true) (hbusy : s.rng.busy = true) :
    exec (.armPart .p0) s = .next (dbBad s) := by
  change whileCd s _ = _
  rw [whileCd_of_up hup]
  dsimp only
  rw [if_neg (by decide), if_pos hbusy]

theorem exec_armEngine_armed (hup : cdUp s = true) (hidle : s.rng.busy = false) (hu : u = busyNow s)
    (hst : partState u (u.rd RNG_SEL_PART) ≠ 0)
    (hnew : (List.range 5).any
      (fun k => (ringAt u (ringKey (u.rd RNG_SEL_PART) (u.rd RNG_SEL_ENGINE) k)).armed) = false)
    (hok : armFault u (u.rd RNG_SEL_PART) [u.rd RNG_SEL_ENGINE] false = none) : exec (.armEngine .p0) s =
      .next (showRing (ringResult ((ringsToArm u (u.rd RNG_SEL_PART) [u.rd RNG_SEL_ENGINE] false).foldl
        (armRing (u.rd RNG_SEL_PART)) u) (1, 0))) := by
  subst hu
  change whileCd s _ = _
  rw [whileCd_of_up hup]
  dsimp only
  rw [if_neg (by decide), if_neg (by simp [hidle]), if_neg hst, if_neg (by rw [hnew]; decide), hok]

theorem exec_engineReset_idle (hup : cdUp s = true) (hidle : s.rng.busy = false) :
    exec (.engineReset .p0) s = .next (resetEngine s (s.rd RNG_SEL_ENGINE)) := by
  change whileCd s _ = _
  rw [whileCd_of_up hup, if_neg (by decide), if_neg (by simp [hidle])]

/-- While a ring command is checked, the engine to reset is noted (R167). -/
theorem exec_engineReset_busy (hup : cdUp s = true) (hbusy : s.rng.busy = true) : exec (.engineReset .p0) s =
    .next { s with rng := { s.rng with heldReset := some (s.rd RNG_SEL_ENGINE) } } := by
  change whileCd s _ = _
  rw [whileCd_of_up hup, if_neg (by decide), if_pos hbusy]

end

/-! ### Doorbells -/

section
variable {s : State} {w : Writer} {part : Fin 8} {eng : Fin 7} {ring : Fin 4} {v : Word} {g : Ring}

/-- An index that moves an armed submission ring forward within its size is its new producer index (R170). -/
theorem producer_moves {p e k v : Nat} (hg : g = ringAt s (ringKey p e k)) (harm : g.armed = true)
    (hnew : (g.prod + 2 ^ 32 - g.cons) % 2 ^ 32 < (v + 2 ^ 32 - g.cons) % 2 ^ 32)
    (hfit : (v + 2 ^ 32 - g.cons) % 2 ^ 32 ≤ 2 ^ g.size) :
    producer s p e k v = setRing s (ringKey p e k) { g with prod := v } := by
  have hne : v ≠ g.prod := fun h => Nat.lt_irrefl _ (h ▸ hnew)
  subst hg
  unfold producer
  dsimp only
  rw [if_neg (by simp [harm]), if_neg hne, if_pos ⟨hnew, hfit⟩]

/-- The state in which a doorbell waits for its ring to be armed (R81). -/
def bellKept (s : State) (p eng ring v : Nat) : State :=
  { s with rng := { s.rng with
    bells := s.rng.bells.filter (fun b => !(b.1 == p && b.2.1 == eng && b.2.2.1 == ring)) ++ [(p, eng, ring, v)] } }

theorem producer_kept {p e k : Nat} (v : Nat) (hboot : s.pwr.cd = .boot)
    (hun : (ringAt s (ringKey p e k)).armed = false) : producer s p e k v = bellKept s p e k v := by
  unfold producer
  dsimp only
  rw [if_pos (by simp [hun]), if_pos (by simp [hboot])]
  rfl

/-- An index that moves an armed completion or event ring forward, no further than what is written, is its new consumer
index (R170). -/
theorem consumer_moves {p e k r v : Nat} (hg : g = ringAt s k)
    (hk : k = if r = 5 then eventKey p else ringKey p e 4) (harm : g.armed = true)
    (hnew : 0 < (v + 2 ^ 32 - g.cons) % 2 ^ 32)
    (hfit : (v + 2 ^ 32 - g.cons) % 2 ^ 32 ≤ (g.prod + 2 ^ 32 - g.cons) % 2 ^ 32) :
    consumer s p e r v = setRing s k { g with cons := v } := by
  subst hg hk
  unfold consumer
  dsimp only
  rw [if_neg (by simp [harm]), if_pos ⟨hnew, hfit⟩]

theorem exec_producerDoorbell (hup : cdUp s = true)
    (htaken : pageOpen s w part.val = true ∨ s.pwr.cd = .boot) : exec (.producerDoorbell w part eng ring v) s =
      .next (producer s part.val eng.val ring.val v.toNat) := by
  change whileCd s _ = _
  rw [whileCd_of_up hup, if_pos (by simpa using htaken)]

theorem exec_producerDoorbell_closed (hup : cdUp s = true) (hrun : s.pwr.cd = .run)
    (hshut : pageOpen s w part.val = false) : exec (.producerDoorbell w part eng ring v) s = .next (dbBad s) := by
  change whileCd s _ = _
  rw [whileCd_of_up hup, if_neg (by simp [hshut, hrun])]

theorem exec_completionDoorbell (hup : cdUp s = true) (hopen : pageOpen s w part.val = true) :
    exec (.completionDoorbell w part eng v) s = .next (consumer s part.val eng.val 4 v.toNat) := by
  change whileCd s _ = _
  rw [whileCd_of_up hup, if_pos hopen]

theorem exec_eventDoorbell (hup : cdUp s = true) (hopen : pageOpen s w part.val = true) :
    exec (.eventDoorbell w part v) s = .next (consumer s part.val 0 5 v.toNat) := by
  change whileCd s _ = _
  rw [whileCd_of_up hup, if_pos hopen]

end

theorem dbBad_count (s : State) : (dbBad s).rd RNG_CNT_DB_BAD = satAdd 16 (s.rd RNG_CNT_DB_BAD) 1 :=
  rd_bump_same s RNG_CNT_DB_BAD 1 (by decide)

/-- Settles O14: each command's own equation; a frame is that command's law. -/
theorem ringSetup : Obligations.RingSetup := by
  unfold Obligations.RingSetup
  refine ⟨fun u s hup hidle hu hst hok => ?armed, fun u r s hup hidle hu hst hbad => ?faulty,
    fun s hup hbusy => exec_armPart_busy hup hbusy,
    fun u s hup hidle hu hst hnew hok => exec_armEngine_armed hup hidle hu hst hnew hok,
    fun s hup hidle => exec_engineReset_idle hup hidle, fun s hup hbusy => ?heldReset,
    fun w part eng ring v g s hup hopen hg harm hnew hfit => ?producer,
    fun w part eng ring v s hup hrun hshut => ?closed,
    fun w part eng v g s hup hopen hg harm hnew hfit => ?completion,
    fun w part v g s hup hopen hg harm hnew hfit => ?event, fun w part eng ring v s hup hboot hun => ?kept⟩
  case armed => rw [exec_armPart_checked hup hidle hu hst, hok, Option.elim_none]
  case faulty => rw [exec_armPart_checked hup hidle hu hst, hbad, Option.elim_some]
  case heldReset =>
    exact ((execEngineReset_keeps .p0 s).mono (by decide) (by decide)).runs (exec_engineReset_busy hup hbusy)
      (by decide) (by decide) (by decide) ⟨rfl, rfl, rfl⟩
  case producer => rw [exec_producerDoorbell hup (.inl hopen), producer_moves hg harm hnew hfit]
  case closed =>
    exact (execProducerDoorbell_keeps w part eng ring v s).runs (exec_producerDoorbell_closed hup hrun hshut)
      (by decide) (by decide) (by decide) ⟨rfl, dbBad_count s⟩
  case completion => rw [exec_completionDoorbell hup hopen, consumer_moves hg rfl harm hnew hfit]
  case event => rw [exec_eventDoorbell hup hopen, consumer_moves hg rfl harm hnew hfit]
  case kept =>
    refine (execProducerDoorbell_keeps w part eng ring v s).runs (exec_producerDoorbell hup (.inr hboot))
      (by decide) (by decide) (by decide) ?_
    rw [producer_kept _ hboot hun]
    exact ⟨rfl, List.mem_append_right _ (List.mem_singleton_self _)⟩

end Sys2Proof.Machine
end

section
/-! SUPPORT.
The acceptance and the start of descriptors: stalls, NOP, CANCEL and timed starts (R173 to R176, R182, R185).
-/

namespace Sys2Proof.Machine

/-! ### Acceptance -/

/-- Taking a descriptor leaves the accepted work, which it joins only afterwards. -/
theorem takeSlot_work (s : State) (p eng ring : Nat) : (takeSlot s p eng ring).rng.work = s.rng.work :=
  congrArg (·.work) ((takeSlot_keeps s p eng ring).plain .rng (by decide) rfl)

/-- C has advanced past a taken descriptor, whatever becomes of the shadow block. -/
theorem takeSlot_cons (s : State) (p eng ring : Nat) : (ringAt (takeSlot s p eng ring) (ringKey p eng ring)).cons =
    ((ringAt s (ringKey p eng ring)).cons + 1) % 2 ^ 32 := by
  have hshadow : ∀ (u : State) (i v k : Nat), ringAt (shadowPut u p i v) k = ringAt u k := fun u i v k =>
    congrArg (fun l => tabGet ({} : Ring) l k) ((shadowPut_keeps u p i v).plain .rings (by decide) rfl)
  rw [takeSlot, hshadow, ringAt_setRing_same]

/-- The work that an untimed descriptor becomes, C having advanced to `c` (R175). -/
def untimedWork (part : Fin 8) (eng : Nat) (ring : Fin 4) (b : List Byte) (c : Nat) : Work :=
  { eng := eng, hdr := headerOf part ring b c, opcode := leAt b 0 1, timed := false, notBefore := leAt b 8 8,
    tolUs := if bit (leAt b 1 1) 2 then leAt b 4 2 else 2000, lateAlways := bit (leAt b 1 1) 1,
    fence := bit (leAt b 1 1) 3, body := b, started := false }

/-- The state in which work has been accepted from a ring of a partition's engine. -/
def accepted (u : State) (p eng : Nat) (w : Work) : State :=
  { u with rng := { u.rng with work := u.rng.work ++ [w], stalled := u.rng.stalled.filter (· != (p, eng)) } }

theorem exec_descriptorAccept_untimed {part : Fin 8} {eng : Fin 7} {ring : Fin 4} {b : List Byte} {s : State} {g : Ring}
    (hup : cdUp s = true) (hon : engineOn s eng.val = true) (hg : g = ringAt s (ringKey part.val eng.val ring.val))
    (harm : g.armed = true) (hrun : partState s part.val = 2) (hprod : g.prod ≠ g.cons)
    (hslot : nextSlot s part.val eng.val ring.val g = some b) (hb : b ≠ [])
    (hroom : reserved s part.val eng.val < 2 ^ (ringAt s (ringKey part.val eng.val 4)).size)
    (huntimed : bit (leAt b 1 1) 0 = false)
    (hok : acceptFault (takeSlot s part.val eng.val ring.val) eng.val b = none) :
    exec (.descriptorAccept part eng ring) s = .next (accepted (takeSlot s part.val eng.val ring.val) part.val eng.val
      (untimedWork part eng.val ring b ((g.cons + 1) % 2 ^ 32))) := by
  subst hg
  change whileCd s _ = _
  rw [whileCd_of_up hup]
  dsimp only
  rw [if_neg (by simp [hon, harm, hrun, hprod]), hslot]
  dsimp only
  rw [if_neg (by simp [hroom, huntimed]), if_neg (by simpa using hb), hok, huntimed]
  rfl

/-- The state of a stall's first report: its episode is noted and counted (R185). -/
def stallNoted (s : State) (p eng : Nat) : State :=
  { s with rng := { s.rng with stalled := s.rng.stalled ++ [(p, eng)] } }.bump RNG_CNT_STALLS 1

theorem exec_ringStall {part : Fin 8} {eng : Fin 7} {ring : Fin 4} {s : State} (hup : cdUp s = true)
    (hnew : s.rng.stalled.contains (part.val, eng.val) = false)
    (hstop : acceptStopped s part.val eng.val ring.val = true) : exec (.ringStall part eng ring) s =
      .next (raise (stallNoted s part.val eng.val) 91 false [part.val] [byte eng.val, byte ring.val]) := by
  change whileCd s _ = _
  rw [whileCd_of_up hup, if_neg (by simp only [hnew, hstop]; decide)]
  rfl

/-! ### NOP and CANCEL -/

/-- A served descriptor acts in the state in which it has begun. -/
theorem descr_served {s : State} {eng op : Nat} {h : DHdr} {b : List Byte} (hs : Served s eng op h b)
    (f : State → State) : descr eng op h b s f = .next (f (begun s eng op h b)) := by
  obtain ⟨hup, hstart⟩ := hs
  rw [descr, whileCd_of_up hup, if_pos hstart]
  rfl

section
variable {s : State} {h : DHdr} {eng : Fin 7} {b : List Byte}

theorem execNop_served (hs : Served s eng.val 0 h b) :
    execNop h eng b s = .next (complete (begun s eng.val 0 h b) eng.val h 0 OK []) := by
  rw [execNop, descr_served hs]

theorem exec_cancel_matches {u : State} {l : List Work} (hs : Served s eng.val 0xFF h b)
    (hclean : bodyDirty b [16, 17, 18, 19] = false) (huntimed : bit (leAt b 1 1) 0 = false)
    (hu : u = begun s eng.val 0xFF h b)
    (hl : l = u.rng.work.filter (cancels eng.val h (BitVec.ofNat 16 (leAt b 16 2)) (BitVec.ofNat 16 (leAt b 18 2)))) :
    exec (.cancel h eng b) s =
      .next (complete (l.foldl cancelWork u) eng.val h 0xFF OK (leBytes 2 l.length)) := by
  subst hu hl
  change execCancel h eng b s = _
  unfold execCancel
  dsimp only
  rw [descr_served hs, hclean, huntimed, if_neg (by decide), if_neg (by decide)]

theorem exec_cancel_dirty (hs : Served s eng.val 0xFF h b) (hdirty : bodyDirty b [16, 17, 18, 19] = true) :
    exec (.cancel h eng b) s =
      .next (complete (begun s eng.val 0xFF h b) eng.val h 0xFF RESERVED_NONZERO []) := by
  change execCancel h eng b s = _
  rw [execCancel, descr_served hs, if_pos hdirty]

end

/-! ### Timed starts -/

/-- A meaning answers a next state: it neither faults nor is refused. -/
def Answers (r : Res) : Prop := ∃ t, r = .next t

theorem startAct_answers (op : Nat) (h : DHdr) (b : List Byte) (s : State) : Answers (startAct op h b s) := by
  unfold startAct
  split <;> exact ⟨_, rfl⟩

/-- SLEEP alone decides before its descriptor is looked at, for a frame in transmission waits (R383). -/
theorem execBusSleep_answers (h : DHdr) (b : List Byte) (s : State) : Answers (execBusSleep h b s) := by
  unfold execBusSleep
  dsimp only
  split <;> exact ⟨_, rfl⟩

theorem startBus_answers (op : Nat) (h : DHdr) (b : List Byte) (s : State) : Answers (startBus op h b s) := by
  unfold startBus
  split
  case h_6 =>
    split
    case h_3 => exact execBusSleep_answers h b s
    all_goals exact ⟨_, rfl⟩
  all_goals exact ⟨_, rfl⟩

theorem startMedia_answers (op : Nat) (h : DHdr) (b : List Byte) (s : State) : Answers (startMedia op h b s) := by
  unfold startMedia
  split <;> exact ⟨_, rfl⟩

theorem startSec_answers (op : Nat) (h : DHdr) (b : List Byte) (media : Bool) (s : State) :
    Answers (startSec op h b media s) := by
  unfold startSec
  split <;> exact ⟨_, rfl⟩

theorem startOther_answers (eng op : Nat) (h : DHdr) (b samples : List Byte) (back : Nat) (s : State) :
    Answers (startOther eng op h b samples back s) := by
  unfold startOther
  split <;> exact ⟨_, rfl⟩

/-- Whatever its engine and opcode, a descriptor that starts has an effect. -/
theorem startOf_answers (w : Work) (h : DHdr) (media : Bool) (samples : List Byte) (back : Nat) (s : State) :
    Answers (startOf w h media samples back s) := by
  unfold startOf
  split
  · exact ⟨_, rfl⟩
  split
  · exact ⟨_, rfl⟩
  split
  · exact startAct_answers _ h w.body s
  · exact startBus_answers _ h w.body s
  · exact startMedia_answers _ h w.body s
  · exact startSec_answers _ h w.body media s
  · exact startOther_answers _ _ h w.body samples back s

/-- The header of a timed descriptor that starts now, with its lateness in microseconds (R176). -/
def lateHdr (s : State) (w : Work) : DHdr :=
  { w.hdr with late := BitVec.ofNat 32 (min ((dtNow s - w.notBefore) / 1000) (2 ^ 32 - 1)) }

section
variable {s : State} {w : Work} {part : Fin 8} {eng : Fin 7} {ring : Fin 4} {media : Bool} {samples : List Byte}
  {back : Nat}

theorem exec_timedStart_starts (hup : cdUp s = true) (hel : eligible s part.val eng.val = true)
    (hnext : nextTimed s part.val eng.val ring.val = some w) (hdue : w.notBefore ≤ dtNow s)
    (htol : dtNow s - w.notBefore ≤ 1000 * w.tolUs ∨ w.lateAlways = true) :
    exec (.timedStart part eng ring media samples back) s = startOf w (lateHdr s w) media samples back s := by
  change execTimedStart part eng ring media samples back s = _
  rw [execTimedStart, if_neg (by simp [hup, hel]), hnext]
  dsimp only
  rw [if_neg (by omega), if_pos htol]
  rfl

theorem exec_timedStart_passed (hup : cdUp s = true) (hel : eligible s part.val eng.val = true)
    (hnext : nextTimed s part.val eng.val ring.val = some w) (hdue : w.notBefore ≤ dtNow s)
    (hpast : 1000 * w.tolUs < dtNow s - w.notBefore) (hstrict : w.lateAlways = false) :
    exec (.timedStart part eng ring media samples back) s = .next (complete s w.eng (lateHdr s w) w.opcode TIME_PASSED
      (plainResult s w.eng w.opcode w.hdr w.body)) := by
  change execTimedStart part eng ring media samples back s = _
  rw [execTimedStart, if_neg (by simp [hup, hel]), hnext]
  dsimp only
  rw [if_neg (by omega), if_neg (by simp [hstrict]; omega)]
  rfl

theorem startOf_nop {h : DHdr} (hop : w.opcode = 0) (heng : w.eng = eng.val) :
    startOf w h media samples back s = execNop h eng w.body s := by
  have he : Fin.ofNat 7 w.eng = eng := by rw [heng]; exact Fin.ofNat_val_eq_self eng
  unfold startOf
  dsimp only
  rw [if_pos hop, he]

end

/-- Settles O15: each command's own equation; where the state is given by its frame, the frame is the command's law, and
a timed start is the start of the descriptor itself. -/
theorem descriptors : Obligations.Descriptors := by
  unfold Obligations.Descriptors
  refine ⟨fun part eng ring b s hup hon harm hrun hprod hslot hb hroom huntimed hok => ?accept,
    fun part eng ring s hup hnew hstop => ?stall, fun h eng b s hs => execNop_served hs,
    fun h eng b u l s hs hclean huntimed hu hl => exec_cancel_matches hs hclean huntimed hu hl,
    fun h eng b s hs hdirty => exec_cancel_dirty hs hdirty,
    fun part eng ring media samples back w s hup hel hnext hdue htol => ?starts,
    fun part eng ring media samples back w s hup hel hnext hdue htol hop heng hs => ?nop,
    fun part eng ring media samples back w s hup hel hnext hdue hpast hstrict =>
      exec_timedStart_passed hup hel hnext hdue hpast hstrict⟩
  case accept =>
    refine (execDescriptorAccept_keeps part eng ring s).runs
      (exec_descriptorAccept_untimed hup hon rfl harm hrun hprod hslot hb hroom huntimed hok) (by decide) (by decide)
      (by decide) ⟨?_, takeSlot_cons s part.val eng.val ring.val⟩
    rw [accepted, takeSlot_work]
    rfl
  case stall =>
    refine (execRingStall_keeps part eng ring s).runs (exec_ringStall hup hnew hstop) (by decide) (by decide)
      (by decide) ⟨?_, ?_⟩
    · rw [raise_rng_stalled]
      exact List.mem_append_right _ (List.mem_singleton_self _)
    · rw [raise_rd _ _ _ _ _ (by decide) (by decide)]
      exact rd_bump_same _ RNG_CNT_STALLS 1 (by decide)
  case starts =>
    obtain ⟨t, ht⟩ := startOf_answers w (lateHdr s w) media samples back s
    exact ⟨t, (exec_timedStart_starts hup hel hnext hdue htol).trans ht, ht⟩
  case nop =>
    exact (exec_timedStart_starts hup hel hnext hdue htol).trans ((startOf_nop hop heng).trans (execNop_served hs))

end Sys2Proof.Machine
end

section
/-! SUPPORT.
The levels, jobs, bridges and sequences of the actuation engine (R192 to R195, R217, R220, R224, R234, R257).
-/

namespace Sys2Proof.Machine

/-! ### Descriptors to one channel -/

section
variable {s u : State} {c : Chan} {op : Nat} {h : DHdr} {b : List Byte} {listed kinds : List Nat} {flags : Bool}
  {range : State → Chan → Bool} {act : Chan → State → State}

/-- A served descriptor that no shared check refuses acts on the member that governs its channel. -/
theorem onChan_acts (hs : Served s ACT op h b) (hu : u = begun s ACT op h b) (hc : c = master u (chanOf b))
    (hok : actFault u op h b listed flags kinds (range u (chanOf b)) = none) :
    onChan op h b s listed flags kinds range act = .next (act c u) := by
  subst hu hc
  rw [onChan, descr_served hs, hok]

/-- A served descriptor that a shared check refuses is turned away with that check's status. -/
theorem onChan_refuses {st : Nat} (hs : Served s ACT op h b) (hu : u = begun s ACT op h b)
    (hbad : actFault u op h b listed flags kinds (range u (chanOf b)) = some st) :
    onChan op h b s listed flags kinds range act = .next (actFail u op h b st) := by
  subst hu
  rw [onChan, descr_served hs, hbad]

end

/-! ### The ends of trains and segments -/

/-- With its last pulse over, a train's channel switches off and its PULSE completes (R194). -/
theorem exec_pulseTrainEnd {s : State} {c : Chan} {on off n : Nat} (hdrv : (chn s c).drv = .pulse on off n)
    (hover : n * (on + off) - off ≤ usNow s - (chn s c).runAt) :
    exec (.pulseTrainEnd c) s = .next (endJob (switchTo s c .off) c OK) := by
  change execPulseTrainEnd c s = _
  rw [execPulseTrainEnd, hdrv]
  dsimp only
  rw [if_pos hover]

section
variable {s : State} {c : Chan} {p rep : Nat}

/-- A segment that is not the last of its pass is followed by the next (R220, R257). -/
theorem exec_profileSegmentEnd_next {g : Nat} (hdrv : (chn s (master s c)).drv = .profile p rep)
    (hnext : nextSeg s (master s c) p (chn s (master s c)).seg = some g) :
    exec (.profileSegmentEnd c) s = .next (enterSeg s (master s c) p g) := by
  change execProfileSegmentEnd c s = _
  unfold execProfileSegmentEnd
  dsimp only
  rw [hdrv]
  dsimp only
  rw [hnext]

/-- The last segment of a pass that is not repeated ends the profile (R220, R257). -/
theorem exec_profileSegmentEnd_last (hdrv : (chn s (master s c)).drv = .profile p rep)
    (hnone : nextSeg s (master s c) p (chn s (master s c)).seg = none)
    (hstop : ¬ ((rep = 255 ∨ (chn s (master s c)).pass < rep) ∧ (chn s (master s c)).orphan ≠ 2 ∧
      (!s.act.interim) = true)) :
    exec (.profileSegmentEnd c) s = .next (profileDone s (master s c) p (chn s (master s c)).seg) := by
  change execProfileSegmentEnd c s = _
  unfold execProfileSegmentEnd
  dsimp only
  rw [hdrv]
  dsimp only
  rw [hnone]
  dsimp only
  rw [if_neg hstop]

end

theorem startSeg_seg (s : State) (c : Chan) (p g : Nat) : (chn (startSeg s c p g) c).seg = g := by
  unfold startSeg
  dsimp only
  split <;> simp

theorem enterSeg_seg (s : State) (c : Chan) (p g : Nat) : (chn (enterSeg s c p g) c).seg = g := by
  rw [enterSeg, chn_setChn_same]
  exact startSeg_seg _ c p g

/-- Settles O16: a descriptor acts by the law of descriptors to one channel; the ends by their own equations, a next
segment within the frame of its command. -/
theorem actLevels : Obligations.ActLevels := by
  unfold Obligations.ActLevels
  refine ⟨fun h b u c s hs hu hc hok => ?set, fun h b u c s hs hu hc hok => ?pulse,
    fun h b u c s hs hu hc hok => ?pwm, fun h b u c s hs hu hc hok => ?profile,
    fun h b u st s hs hu hbad => ?refused, fun c on off n s hdrv hover => exec_pulseTrainEnd hdrv hover,
    fun c p rep g s hdrv hnext => ?next, fun c p rep s hdrv hnone hstop => exec_profileSegmentEnd_last hdrv hnone hstop⟩
  case set =>
    change execActSet h b s = _
    rw [execActSet]
    exact onChan_acts hs hu hc hok
  case pulse =>
    change execActPulse h b s = _
    rw [execActPulse]
    exact onChan_acts hs hu hc hok
  case pwm =>
    change execActPwm h b s = _
    rw [execActPwm]
    exact onChan_acts hs hu hc hok
  case profile =>
    change execActProfile h b s = _
    rw [execActProfile]
    exact onChan_acts hs hu hc hok
  case refused =>
    change execActSet h b s = _
    rw [execActSet]
    exact onChan_refuses hs hu hbad
  case next =>
    exact (execProfileSegmentEnd_keeps c s).runs (exec_profileSegmentEnd_next hdrv hnext) (by decide) (by decide)
      (by decide) (enterSeg_seg s (master s c) p g)

/-! ### Bridges -/

section
variable {s u : State} {c : Chan} {h : DHdr} {b : List Byte}

/-- The shared checks pass a BRIDGE: its flags, and for a drive its fields, lie in their ranges (R235, R241, R246). -/
def BridgePasses (u : State) (h : DHdr) (b : List Byte) : Prop :=
  actFault u 5 h b [16, 17, 18, 20, 21, 22, 23, 24, 25, 26, 27, 28, 29, 32, 33, 34, 35, 36]
    (((bridgeBody b).mode = 3 ∨ (bridgeBody b).mode = 4) ∧ leAt b 36 1 ≥ 8) [2]
    (5 < (bridgeBody b).mode ||
      (((bridgeBody b).mode = 3 ∨ (bridgeBody b).mode = 4) && driveBad u (master u (chanOf b)) (bridgeBody b))) = none

/-- A drive reaches a bridge that no protection keeps off, with its target ahead (R236, R241). -/
theorem exec_actBridge_drives (hs : Served s ACT 5 h b) (hu : u = begun s ACT 5 h b) (hc : c = master u (chanOf b))
    (hok : BridgePasses u h b) (hdrive : (bridgeBody b).mode = 3 ∨ (bridgeBody b).mode = 4)
    (hfree : blocked u c = false) (hahead : targetBehind u c (bridgeBody b) = false) :
    exec (.actBridge h b) s = .next (applyDrive u c (bridgeBody b) (some ⟨h, 5⟩)) := by
  change execActBridge h b s = _
  rw [execActBridge]
  refine Eq.trans (onChan_acts hs hu hc hok) (congrArg _ ?_)
  rw [if_neg (by simp [hdrive]), if_neg (by simp [hfree, hahead])]

/-- A mode that drives nothing is applied at once (R234). -/
theorem exec_actBridge_stills (hs : Served s ACT 5 h b) (hu : u = begun s ACT 5 h b) (hc : c = master u (chanOf b))
    (hok : BridgePasses u h b) (hstill : ¬ ((bridgeBody b).mode = 3 ∨ (bridgeBody b).mode = 4)) :
    exec (.actBridge h b) s = .next (actDone (applyStill u c (bridgeBody b).mode) h 5 OK c 0) := by
  change execActBridge h b s = _
  rw [execActBridge]
  refine Eq.trans (onChan_acts hs hu hc hok) (congrArg _ ?_)
  rw [if_pos (by simp [hstill])]

/-! ### Restarts -/

/-- RESTART acts on tripped channels that neither their own heat nor a claimed one's holds (R202, R224, R225). -/
theorem exec_actRestart (hs : Served s ACT 7 h b) (hu : u = begun s ACT 7 h b) (hc : c = master u (chanOf b))
    (hok : actFault u 7 h b [16, 17] false [1, 2, 3, 4, 5] false = none)
    (htripped : ((moved u c).any (fun k => latched u k || thermOff u k) || (chn u c).nbHold) = true)
    (hcool : ((hot u (moved u c) && (moved u c).any (thermOff u)) ||
      ((leadClaim u c).isSome && (moved u c).any (fun k => decide (300 < (chn u k).temp)))) = false) :
    exec (.actRestart h b) s = .next (actDone (restartCh (takeCh u c) (moved u c)) h 7 OK c 0) := by
  change execActRestart h b s = _
  rw [execActRestart]
  refine Eq.trans (onChan_acts hs hu hc hok) (congrArg _ ?_)
  rw [if_neg (by rw [htripped]; decide), if_neg (by rw [hcool]; decide)]

/-! ### Sequences -/

theorem exec_actSequence (hs : Served s ACT 6 h b) (hu : u = begun s ACT 6 h b)
    (hok : seqFault u h.part.val b = none) : exec (.actSequence h b) s =
      .next { u with act := { u.act with seqs := u.act.seqs ++ [⟨⟨h, 6⟩, stepsOf b, 0, ⟨0, 0⟩, u.now⟩] } } := by
  subst hu
  change execActSequence h b s = _
  rw [execActSequence, descr_served hs, hok]

end

section
variable {s : State} {n : Nat} {q : SeqRun} {x : SeqStep} {rest : List SeqStep}

/-- The state in which a due step acts: its sequence stands one step further, or has been taken off with its last. -/
def seqMoved (s : State) (n : Nat) (q : SeqRun) (x : SeqStep) (rest : List SeqStep) : State :=
  let l := if rest.isEmpty then s.act.seqs.eraseIdx n
           else s.act.seqs.set n { q with steps := rest, done := q.done + 1, last := x.ch }
  { s with act := { s.act with seqs := l } }

/-- A due step that nothing holds takes effect, and the last one completes its sequence (R194). -/
theorem exec_sequenceStep_free (hup : cdUp s = true) (hq : s.act.seqs[n]? = some q) (hsteps : q.steps = x :: rest)
    (hfree : stepHeld s q x.ch = none) : exec (.sequenceStep n) s = .next
      (if rest.isEmpty then
        seqDone (stepDo (seqMoved s n q x rest) x) { q with steps := rest, done := q.done + 1, last := x.ch } OK
       else stepDo (seqMoved s n q x rest) x) := by
  change whileCd s _ = _
  rw [whileCd_of_up hup, hq]
  dsimp only
  rw [hsteps]
  dsimp only
  rw [hfree]
  rfl

/-- A due step that something holds ends its sequence (R194, R212). -/
theorem exec_sequenceStep_held {st : Nat} (hup : cdUp s = true) (hq : s.act.seqs[n]? = some q)
    (hsteps : q.steps = x :: rest) (hheld : stepHeld s q x.ch = some st) : exec (.sequenceStep n) s =
      .next (seqDone { s with act := { s.act with seqs := s.act.seqs.eraseIdx n } } q st) := by
  change whileCd s _ = _
  rw [whileCd_of_up hup, hq]
  dsimp only
  rw [hsteps]
  dsimp only
  rw [hheld]

theorem exec_sequenceStep_more (hup : cdUp s = true) (hq : s.act.seqs[n]? = some q) (hsteps : q.steps = x :: rest)
    (hfree : stepHeld s q x.ch = none) (hmore : rest ≠ []) : exec (.sequenceStep n) s = .next (stepDo { s with act :=
      { s.act with seqs := s.act.seqs.set n { q with steps := rest, done := q.done + 1, last := x.ch } } } x) := by
  have hne : ¬ rest.isEmpty = true := by simpa using hmore
  rw [exec_sequenceStep_free hup hq hsteps hfree, if_neg hne, seqMoved, if_neg hne]

theorem exec_sequenceStep_last (hup : cdUp s = true) (hq : s.act.seqs[n]? = some q) (hsteps : q.steps = [x])
    (hfree : stepHeld s q x.ch = none) : exec (.sequenceStep n) s = .next
      (seqDone (stepDo { s with act := { s.act with seqs := s.act.seqs.eraseIdx n } } x)
        { q with steps := [], done := q.done + 1, last := x.ch } OK) :=
  exec_sequenceStep_free hup hq hsteps hfree

end

/-- Settles O17: a descriptor acts by the law of descriptors to one channel, along the branch that its mode or its
channel's trip leaves open; a sequence and its steps by their own equations. -/
theorem actBridgesAndSequences : Obligations.ActBridgesAndSequences := by
  unfold Obligations.ActBridgesAndSequences
  refine ⟨fun h b u c s hs hu hc hok hdrive hfree hahead => exec_actBridge_drives hs hu hc hok hdrive hfree hahead,
    fun h b u c s hs hu hc hok hstill => exec_actBridge_stills hs hu hc hok hstill,
    fun h b u s hs hu hok => exec_actSequence hs hu hok,
    fun n q x rest s hup hq hsteps hfree hmore => exec_sequenceStep_more hup hq hsteps hfree hmore,
    fun n q x s hup hq hsteps hfree => exec_sequenceStep_last hup hq hsteps hfree,
    fun n q x rest st s hup hq hsteps hheld => exec_sequenceStep_held hup hq hsteps hheld,
    fun h b u c s hs hu hc hok htripped hcool => exec_actRestart hs hu hc hok htripped hcool,
    fun h b u c s hs hu hc hok => ?status⟩
  case status =>
    change execActStatus h b s = _
    rw [execActStatus]
    exact onChan_acts hs hu hc hok

end Sys2Proof.Machine
end

section
/-! SUPPORT.
The drives of the bridges, their ripples and stalls, and the phases of a reversal (R236, R239, R240, R242, R247, R249).
-/

namespace Sys2Proof.Machine

section
variable {hb : Fin 8} {s u : State} {m : Chan} {d : BridgeBody}

/-! ### Drives -/

/-- A descriptor's drive that has run for its RUN_MS stops (R236). -/
theorem exec_runMsExpiry_over (hm : m = master s ⟨2, hb.val⟩) (hdrv : (chn s m).drv = .bridge d)
    (hdrive : isDrive d = true) (hms : d.runMs ≠ 0) (hover : 1000 * d.runMs ≤ usNow s - (chn s m).runAt)
    (hlimp : ((chn s m).limpDrive == .none) = true) (hsafe : ((chn s m).safe == .none) = true) :
    exec (.runMsExpiry hb) s = .next (driveStop s m 1) := by
  subst hm
  change execRunMsExpiry hb s = _
  rw [execRunMsExpiry, hdrv]
  exact congrArg _ (if_pos ⟨hdrive, hms, hover, hlimp, hsafe⟩)

/-- Once DIR_GAP has passed, a waiting drive starts, unless its bridge is kept off meanwhile (R236). -/
theorem exec_dirGapEnd_over {j : Option Job} {since : Nat} (hm : m = master s ⟨2, hb.val⟩)
    (hwait : (chn s m).wait = some (d, j)) (hend : (chn s m).driveEnd = some since)
    (hgap : lasted s since (1000 * s.rd (HB_CFG_DIR_GAP m.idx)) = true) :
    exec (.dirGapEnd hb) s = .next (if blocked s m then endWait s m OK else startDrive s m d j) := by
  subst hm
  change execDirGapEnd hb s = _
  rw [execDirGapEnd, hwait, hend]
  exact congrArg _ (if_neg (by simp [hgap]))

/-! ### Ripples -/

/-- After the first ripple of a motion, a peak outside 0.5 to 2.0 times the last accepted period is rejected, and any other
is counted (R239). -/
theorem exec_rippleAccept_later {period amp : Nat} (hm : m = master s ⟨2, hb.val⟩) (hdrv : (chn s m).drv = .bridge d)
    (hcount : counting s m = true) (hrip : isRipple s m period amp = true) (hseen : (chn s m).ripSeen = true) :
    exec (.rippleAccept hb period amp) s = .next
      (if (chn s m).period ≠ 0 ∧ (2 * period < (chn s m).period ∨ 2 * (chn s m).period < period) then
        s.bump HB_CNT3_RIP_REJECTED 1
       else countRipple (setChn
        ((s.wr (HB_RIPF_RIPFREQ m.idx) (if period = 0 then 0 else min 65535 (1000000 / period))).put
          (HB_STATE_STALL m.idx) false) m { chn s m with period := period, fills := 0, ripAt := s.now }) m) := by
  subst hm
  change execRippleAccept hb period amp s = _
  rw [execRippleAccept, hdrv]
  dsimp only
  rw [if_neg (by simp [hcount, hrip]), if_neg (by simp [hseen]), ← hdrv]

/-- A missing ripple is filled in, and the eighth in a row loses the position (R239, R240). -/
theorem exec_rippleFill_counting (hm : m = master s ⟨2, hb.val⟩) (hcount : counting s m = true)
    (hper : ((chn s m).period != 0) = true) (hu : u = countRipple
      (setChn (s.bump HB_CNT3_RIP_FILLED 1) m { chn s m with fills := (chn s m).fills + 1 }) m) :
    exec (.rippleFill hb) s = .next (if (chn s m).fills + 1 = 8 then posLost u m else u) := by
  subst hm hu
  change execRippleFill hb s = _
  rw [execRippleFill, if_pos (by simp only [hcount, hper, Bool.and_self])]

/-! ### Stalls -/

/-- A stall of a drive that runs on through it is shown, counted and raised (R240, R242). -/
theorem exec_stall_drives_on {heldMs ma : Nat} (hm : m = master s ⟨2, hb.val⟩) (hdrv : (chn s m).drv = .bridge d)
    (hdrive : d.mode = 3 ∨ d.mode = 4) (hsafe : ((chn s m).safe == .none) = true)
    (hnew : s.flag (HB_STATE_STALL m.idx) = false) (hramp : rampOver s m 0 = true)
    (hheld : 2 * s.rd (HB_STALL_STALL_T m.idx) ≤ heldMs) (hma : 100 * s.rd (HB_STALL_STALL_I m.idx) ≤ ma)
    (hon : d.stallStop = false) (hu : u = (s.put (HB_STATE_STALL m.idx) true).bump HB_CNT2_STALLS 1) :
    exec (.stall hb heldMs ma) s = .next ((raise u 22 false [ownerOr0 s 2 m.idx]
      (chPayload u m 1 1 ++ leBytes 4 (s.rd (HB_POS_POS m.idx)))).wr (HB_RIPF_RIPFREQ m.idx) 0) := by
  subst hm hu
  change execStall hb heldMs ma s = _
  rw [execStall, hdrv]
  dsimp only
  rw [if_pos ⟨hdrive, hsafe, by simp [hnew], hramp, hheld, hma⟩, if_neg (by simp [hon])]

/-! ### The phases of a reversal -/

/-- Phase 2 of a reversal drives against the reference (R247). -/
theorem exec_reversalBrakeEnd_drives (hm : m = master s ⟨2, hb.val⟩) (hsafe : ((chn s m).safe == .reverse) = true)
    (hrev : (s.rd (HB_STATE_REV m.idx) == 1) = true) (href : (chn s m).revDir ≠ 0)
    (hu : u = switchTo (setRev s m 2) m (.bridge ⟨2 + (chn s m).revDir, s.rd (HB_REV_REV_DUTY m.idx), 0,
      s.rd (HB_REV2_REV_MS m.idx), 0, 0, false, false, false⟩)) :
    exec (.reversalBrakeEnd hb) s = .next (setChn u m
      { chn u m with dir := (chn s m).revDir, revRip := 0, period := 0, fills := 0, ripSeen := false }) := by
  subst hm hu
  change execReversalBrakeEnd hb s = _
  rw [execReversalBrakeEnd, if_pos (by rw [hsafe, hrev, Bool.and_self]), if_neg href]

/-- Phase 2 ends in the final brake when REV_MS has passed (R247). -/
theorem exec_reversalDriveEnd_timed (hm : m = master s ⟨2, hb.val⟩) (hsafe : ((chn s m).safe == .reverse) = true)
    (hrev : (s.rd (HB_STATE_REV m.idx) == 2) = true)
    (hover : 1000 * s.rd (HB_REV2_REV_MS m.idx) ≤ usNow s - (chn s m).runAt)
    (hu : u = switchTo (setRev s m 3) m (.bridge (still 1))) :
    exec (.reversalDriveEnd hb) s = .next (setChn u m { chn u m with driveEnd := some s.now }) := by
  subst hm hu
  change execReversalDriveEnd hb s = _
  rw [execReversalDriveEnd, if_pos (by rw [hsafe, hrev, decide_eq_true hover, Bool.or_true]; rfl)]

/-- After the final brake the bridge is off and the hold is over (R247, R249). -/
theorem exec_reversalFinalEnd_braked (hm : m = master s ⟨2, hb.val⟩) (hsafe : ((chn s m).safe == .reverse) = true)
    (hrev : (s.rd (HB_STATE_REV m.idx) == 3) = true) :
    exec (.reversalFinalEnd hb) s = .next (holdEnded (setSafe (setRev (bridgeOff s m) m 0) m .none) m) := by
  subst hm
  change execReversalFinalEnd hb s = _
  rw [execReversalFinalEnd, if_pos (by rw [hsafe, hrev, Bool.and_self])]

end

/-- Settles O20: each command's own equation, along the branch that the clause names; a rejected ripple within the frame of
its command. -/
theorem bridgeMotion : Obligations.BridgeMotion := by
  unfold Obligations.BridgeMotion
  refine ⟨fun hb d s hdrv hdrive hms hover hlimp hsafe =>
      exec_runMsExpiry_over rfl hdrv hdrive hms hover hlimp hsafe,
    fun hb d j since s hwait hend hgap hfree => ?starts, fun hb d j since s hwait hend hgap hblocked => ?refused,
    fun hb period amp d s hdrv hcount hrip hseen hper hoff => ?rejected,
    fun hb period amp d s hdrv hcount hrip hseen hnear => ?counted,
    fun hb s hcount hper hmore => ?filled, fun hb s hcount hper height => ?eighth,
    fun hb heldMs ma d u s hdrv hdrive hsafe hnew hramp hheld hma hon hu =>
      exec_stall_drives_on rfl hdrv hdrive hsafe hnew hramp hheld hma hon hu,
    fun hb u s hsafe hrev href hu => exec_reversalBrakeEnd_drives rfl hsafe hrev href hu,
    fun hb u s hsafe hrev hover hu => exec_reversalDriveEnd_timed rfl hsafe hrev hover hu,
    fun hb s hsafe hrev => exec_reversalFinalEnd_braked rfl hsafe hrev⟩
  case starts => rw [exec_dirGapEnd_over rfl hwait hend hgap, if_neg (by simp [hfree])]
  case refused => rw [exec_dirGapEnd_over rfl hwait hend hgap, if_pos hblocked]
  case rejected =>
    have hexec := exec_rippleAccept_later rfl hdrv hcount hrip hseen
    rw [if_pos ⟨hper, hoff⟩] at hexec
    exact (execRippleAccept_keeps hb period amp s).runs hexec (by decide) (by decide) (by decide)
      ⟨rfl, rd_bump_same s HB_CNT3_RIP_REJECTED 1 (by decide)⟩
  case counted => rw [exec_rippleAccept_later rfl hdrv hcount hrip hseen, if_neg hnear]
  case filled => rw [exec_rippleFill_counting rfl hcount hper rfl, if_neg hmore]
  case eighth => rw [exec_rippleFill_counting rfl hcount hper rfl, if_pos height, height]

end Sys2Proof.Machine
end

section
/-! SUPPORT.
The kerf watch of the solenoids, and the tests, follow supplies, headroom and derating of the LED groups (R261, R262,
R274, R275, R277, R278, R280 to R282). What the spec leaves open here is the model's choice: the open values of a missed
kerf by log entry 46, the readings of the LED channels by log entry 47.
-/

namespace Sys2Proof.Machine

/-! ### Kerfs -/

section
variable {sv : Fin 8} {i : List Nat} {s : State} {m : Chan} {p rep : Nat}

/-- A watch that has not found its kerf yet keeps what it sees in its means (R261). -/
theorem exec_kerfFound_watching (hm : m = master s ⟨3, sv.val⟩) (hkerf : (chn s m).kerf = true)
    (hnone : (chn s m).found = none) :
    exec (.kerfFound sv i) s = .next (setChn s m { chn s m with found := (kerfWatch s m i).found }) := by
  subst hm
  change execKerfFound sv i s = _
  rw [execKerfFound, if_pos (by simp [hkerf, hnone])]

theorem profOf_profile (hdrv : (chn s m).drv = .profile p rep) : profOf s m = some p := by
  rw [profOf, hdrv]

/-- A watch that found its kerf, earlier or in these means, ends as FOUND on a profile that is not learned (R262). -/
theorem exec_kerfWindowEnd_found {t depth : Nat} (hm : m = master s ⟨3, sv.val⟩) (hkerf : (chn s m).kerf = true)
    (hfound : ((chn s m).found <|> (kerfWatch s m i).found) = some (t, depth))
    (hdrv : (chn s m).drv = .profile p rep) (hlearn : learns s m p = false) :
    exec (.kerfWindowEnd sv i) s = .next (kerfResult s m 1 t depth) := by
  subst hm
  change execKerfWindowEnd sv i s = _
  simp only [execKerfWindowEnd, hkerf, profOf_profile hdrv, Option.getD_some, hlearn, hfound, Bool.false_and,
    Bool.false_eq_true, if_true, if_false]

/-- A watch that found no kerf ends with the code of what it saw instead (R262, Table 11.3). -/
theorem exec_kerfWindowEnd_missed (hm : m = master s ⟨3, sv.val⟩) (hkerf : (chn s m).kerf = true)
    (hfound : ((chn s m).found <|> (kerfWatch s m i).found) = none)
    (hdrv : (chn s m).drv = .profile p rep) (hlearn : learns s m p = false) :
    exec (.kerfWindowEnd sv i) s = .next (kerfMissed s m (kerfMiss (kerfWatch s m i))) := by
  subst hm
  change execKerfWindowEnd sv i s = _
  simp only [execKerfWindowEnd, hkerf, profOf_profile hdrv, Option.getD_some, hlearn, hfound, Bool.false_eq_true,
    if_true, if_false]

end

/-! ### LED tests -/

section
variable {n : Fin 24} {s : State}

/-- Outside DEEP and OFF, a channel in DETECT begins a test when its period has gone by (R277). -/
theorem exec_ledTest_begins (hmode : s.flag (LED_CFG_FMODE n.val) = false) (hdeep : (s.pwr.ps == .deep) = false)
    (hoff : (s.pwr.ps == .off) = false) (hdue : ledDue s n.val = true) :
    exec (.ledTest n none) s = .next (ledBegin s n.val) := by
  change execLedTest n none s = _
  rw [execLedTest, if_neg (by simp [hmode, hdeep, hoff])]
  exact congrArg _ (if_pos hdue)

/-- Outside DEEP and OFF, a test of a channel in DETECT ends with its measurements (R277, R278). -/
theorem exec_ledTest_ends (r : LedMeas) (hmode : s.flag (LED_CFG_FMODE n.val) = false)
    (hdeep : (s.pwr.ps == .deep) = false) (hoff : (s.pwr.ps == .off) = false) :
    exec (.ledTest n (some r)) s = .next (ledEnd s n.val r) := by
  change execLedTest n (some r) s = _
  rw [execLedTest, if_neg (by simp [hmode, hdeep, hoff])]

end

/-- A test that is under way on a supplied channel judges the channel, and one of a pair its upper neighbour too (R277). -/
theorem ledEnd_judges {s u : State} {n : Nat} {r : LedMeas} (htest : (chn s ⟨4, n⟩).test ≠ 0)
    (hsupply : s.flag (LED_GSTAT_SUPPLY_LOST (n / 8)) = false)
    (hu : u = ledOwn (setChn s ⟨4, n⟩ { chn s ⟨4, n⟩ with test := 0 }) ⟨4, n⟩ (decide (r.pulseUa < 1000))
      (decide (r.pinMv < 400))) :
    ledEnd s n r = if (chn s ⟨4, n⟩).test = 2 ∧ n < 23 then
      ledPair u n (r.nb.map (fun v => decide (v.2.1 + 1000 ≤ v.1 ∧ v.2.2 ≤ v.2.1 + 300))) else u := by
  subst hu
  rw [ledEnd, if_neg (by simp [htest, hsupply])]

/-! ### Follow supplies and headroom -/

/-- The follow supply of a group goes off once none of its channels is on (R274). -/
theorem exec_followOff_idle {g : Fin 3} {f : Nat} {s : State} (hfollow : followOf s g.val = some f)
    (hidle : groupOn s g.val = false) : exec (.followOff g) s = .next (switch1 s .off ⟨1, f⟩) := by
  change execFollowOff g s = _
  simp only [execFollowOff, hfollow, hidle, Bool.false_eq_true, if_false]

section
variable {n : Fin 24} {mv heldUs : Nat} {s : State}

/-- A sink voltage below 0.6 V + 5 Ω × current for 2 ms is shown and raised, on a channel that is on and supplied (R275). -/
theorem exec_ledHeadroom_low (hlow : 2 * mv < 1200 + (ledOut s ⟨4, n.val⟩).1) (hheld : 2000 ≤ heldUs)
    (hon : drvOn (chn s ⟨4, n.val⟩).drv = true) (hnew : s.flag (LED_STATE_HEADROOM n.val) = false)
    (hsupply : s.flag (LED_GSTAT_SUPPLY_LOST (n.val / 8)) = false) :
    exec (.ledHeadroom n mv heldUs) s = .next (raise (s.put (LED_STATE_HEADROOM n.val) true) 29 false
      [ownerOr0 s 4 n.val] (chPayload s ⟨4, n.val⟩ 2 1 ++ [byte (n.val / 8)])) := by
  change execLedHeadroom n mv heldUs s = _
  rw [execLedHeadroom, if_neg (by simp [hheld]), if_neg (by simp [hlow]), if_pos (by simp [hon, hnew, hsupply])]

/-- The excursion ends when the voltage is back (R275). -/
theorem exec_ledHeadroom_back (hback : 1200 + (ledOut s ⟨4, n.val⟩).1 ≤ 2 * mv) :
    exec (.ledHeadroom n mv heldUs) s = .next (s.put (LED_STATE_HEADROOM n.val) false) := by
  have hlow : ¬ 2 * mv < 1200 + (ledOut s ⟨4, n.val⟩).1 := by omega
  change execLedHeadroom n mv heldUs s = _
  rw [execLedHeadroom, if_neg (by simp [hlow]), if_pos (by simp [hlow])]

end

/-! ### Derating -/

section
variable {g : Fin 3} {die : Int} {ohms : List Nat} {s u : State} {src : Nat}

/-- Without a temperature source a group is not derated (R281). -/
theorem exec_ledDerateUpdate_unsourced (hoff : (s.pwr.ps == .off) = false) (hdeep : (s.pwr.ps == .deep) = false)
    (hsrc : s.rd (LED_GRP_DER_TSRC g.val) = 0) : exec (.ledDerateUpdate g die ohms) s =
      .next (setFactor (s.put (LED_GSTAT_NTC_FAULT g.val) false) g.val 10000) := by
  change execLedDerateUpdate g die ohms s = _
  rw [execLedDerateUpdate, if_neg (by simp [hoff, hdeep]), if_pos (.inl hsrc)]

/-- In RUN the factor follows the temperature of the die sensor or of the NTC that TSRC names (R280, R281). -/
theorem exec_ledDerateUpdate_follows {t : Int} (hrun : s.pwr.ps = .run) (hsrc : src = s.rd (LED_GRP_DER_TSRC g.val))
    (ht : (1 ≤ src ∧ src ≤ 6 ∧ t = die) ∨ (8 ≤ src ∧ src ≤ 23 ∧ ntcMean s g.val src ohms = some t))
    (hu : u = (s.put (LED_GSTAT_NTC_FAULT g.val) false).wrInt (LED_GSTAT_TGRP g.val) t) :
    exec (.ledDerateUpdate g die ohms) s = .next (setFactor u g.val (factorOf u g.val t)) := by
  have hnamed : ¬ (src = 0 ∨ src = 7 ∨ 24 ≤ src) := by omega
  subst hsrc hu
  change execLedDerateUpdate g die ohms s = _
  rw [execLedDerateUpdate, if_neg (by simp [hrun]), if_neg hnamed]
  rcases ht with ⟨-, hlast, rfl⟩ | ⟨hfirst, hlast, hmean⟩
  · have hdie : ¬ (8 ≤ s.rd (LED_GRP_DER_TSRC g.val) ∧ s.rd (LED_GRP_DER_TSRC g.val) ≤ 23) := by omega
    rw [if_neg (fun h => hdie h.1), if_neg hdie]
  · rw [if_neg (by simp [hmean]), if_pos ⟨hfirst, hlast⟩, hmean, Option.getD_some]

/-- An NTC that gives no temperature is a fault: it is shown and raised, and the factor holds for now (R281). -/
theorem exec_ledDerateUpdate_fails (hrun : s.pwr.ps = .run) (hsrc : src = s.rd (LED_GRP_DER_TSRC g.val))
    (hfirst : 8 ≤ src) (hlast : src ≤ 23) (hmean : ntcMean s g.val src ohms = none)
    (hnew : s.flag (LED_GSTAT_NTC_FAULT g.val) = false) :
    exec (.ledDerateUpdate g die ohms) s = .next (raise (s.put (LED_GSTAT_NTC_FAULT g.val) true) 30 false [0]
      ([byte g.val, 2, byte (s.rd (LED_GSTAT_FACTOR g.val)), 1] ++ leBytes 2 (s.rd (LED_GSTAT_TGRP g.val)))) := by
  have hnamed : ¬ (src = 0 ∨ src = 7 ∨ 24 ≤ src) := by omega
  subst hsrc
  change execLedDerateUpdate g die ohms s = _
  rw [execLedDerateUpdate, if_neg (by simp [hrun]), if_neg hnamed, if_pos ⟨⟨hfirst, hlast⟩, by simp [hmean]⟩,
    if_neg (by simp [hnew])]

/-- When the hold of a failed source is over, the factor falls to the floor (R281). -/
theorem exec_ntcFaultHoldEnd_faulty (hfault : s.flag (LED_GSTAT_NTC_FAULT g.val) = true) :
    exec (.ntcFaultHoldEnd g) s = .next (setFactor s g.val (100 * s.rd (LED_GRP_DER_FLOOR g.val))) := by
  change execNtcFaultHoldEnd g s = _
  rw [execNtcFaultHoldEnd, if_pos hfault]

end

/-- Settles O21: each command's own equation, along the branch that the clause names. -/
theorem kerfsAndLeds : Obligations.KerfsAndLeds := by
  unfold Obligations.KerfsAndLeds
  refine ⟨fun sv i s hkerf hnone => exec_kerfFound_watching rfl hkerf hnone,
    fun sv i p rep s hkerf hnone hwatch hdrv hlearn =>
      exec_kerfWindowEnd_missed rfl hkerf (by rw [hnone, hwatch]; rfl) hdrv hlearn,
    fun sv i p rep tEnd depth s hkerf hfound hdrv hlearn =>
      exec_kerfWindowEnd_found rfl hkerf (by rw [hfound]; rfl) hdrv hlearn,
    fun n s hmode hdeep hoff hdue => exec_ledTest_begins hmode hdeep hoff hdue,
    fun n r s hmode hdeep hoff hsupply halone => ?alone,
    fun n r s hmode hdeep hoff hsupply hpair hlower => ?pair,
    fun g f s hfollow hidle => exec_followOff_idle hfollow hidle,
    fun n mv heldUs s hlow hheld hon hnew hsupply => exec_ledHeadroom_low hlow hheld hon hnew hsupply,
    fun n mv heldUs s hback => exec_ledHeadroom_back hback,
    fun g die ohms s hoff hdeep hsrc => exec_ledDerateUpdate_unsourced hoff hdeep hsrc,
    fun g die ohms u s hrun hfirst hlast hu =>
      exec_ledDerateUpdate_follows hrun rfl (.inl ⟨hfirst, hlast, rfl⟩) hu,
    fun g die ohms u v s hrun hfirst hlast hmean hu =>
      exec_ledDerateUpdate_follows hrun rfl (.inr ⟨hfirst, hlast, hmean⟩) hu,
    fun g die ohms s hrun hfirst hlast hmean hnew => exec_ledDerateUpdate_fails hrun rfl hfirst hlast hmean hnew,
    fun g s hfault => exec_ntcFaultHoldEnd_faulty hfault⟩
  case alone =>
    rw [exec_ledTest_ends r hmode hdeep hoff, ledEnd_judges (by simp [halone]) hsupply rfl, if_neg (by simp [halone])]
  case pair =>
    rw [exec_ledTest_ends r hmode hdeep hoff, ledEnd_judges (by simp [hpair]) hsupply rfl, if_pos ⟨hpair, hlower⟩]

end Sys2Proof.Machine
end

section
/-! SUPPORT.
The inputs, faults and supply of the field block, and the battery feeds as they leave their range and return (R284,
R285, R289, R545, R557). The readings of the field inputs are the model's choice by log entry 47; between the limits of a
threshold's tolerance the reading is free (log entry 1), so the lemmas here take voltages outside them.
-/

namespace Sys2Proof.Machine

/-! ### Voltages outside a tolerance -/

/-- Above the upper limit of a threshold the reading is decided, and no free value is drawn. -/
theorem above_over {mv thr tol : Nat} (h : thr + tol ≤ mv) (s : State) : above s mv thr tol = (true, s) := by
  rw [above, if_pos h]

/-- Below its lower limit the reading is decided as well. -/
theorem above_under {mv thr tol : Nat} (h : mv + tol < thr) (s : State) : above s mv thr tol = (false, s) := by
  rw [above, if_neg (by omega), if_pos h]

/-! ### Field inputs -/

section
variable {n : Fin 16} {mv heldUs heldMs : Nat} {s : State} {level : Bool}

/-- A low Type 1 input reads high from 13 V (Table 12.3). -/
theorem fioReading_rises {k : Nat} (htype : s.flag (FIO_CFG_ITYPE k) = false) (hmv : 13000 ≤ mv) :
    fioReading s k mv false = (true, s) := by
  simp [fioReading, htype, hmv]

/-- A high Type 3 input reads low from 5.5 V down (Table 12.3). -/
theorem fioReading_falls {k : Nat} (htype : s.flag (FIO_CFG_ITYPE k) = true) (hmv : mv ≤ 5500) :
    fioReading s k mv true = (false, s) := by
  have hlow : ¬ 7500 ≤ mv := by omega
  simp [fioReading, htype, hmv, hlow]

/-- The state in which an input's other level is accepted: it is shown, and its edge is sampled (R284, R285). -/
def fioAccepted (s : State) (n : Nat) (level : Bool) : State :=
  edgeSamples (s.wr FIO_IN_LEVEL (if level then s.rd FIO_IN_LEVEL + 2 ^ n else s.rd FIO_IN_LEVEL - 2 ^ n)) 5 n

/-- A level other than the present one, held for DEB, is accepted; its owner hears of it where IN_EVT is set. -/
theorem exec_fioInputAccept_changes (hmode : s.rd (FIO_CFG_MODE n.val) = 1)
    (hheld : max 50 (100 * s.rd (FIO_CFG_DEB n.val)) ≤ heldUs) (hquiet : quiet s = false)
    (hold : bit (s.rd FIO_IN_LEVEL) n.val = !level) (hread : fioReading s n.val mv (!level) = (level, s)) :
    exec (.fioInputAccept n mv heldUs) s = .next (if s.flag (FIO_CFG_IN_EVT n.val) then
      raise (fioAccepted s n.val level) 31 false [ownerOr0 s 5 n.val] [5, byte n.val, 2, byte (if level then 1 else 0)]
      else fioAccepted s n.val level) := by
  change execFioInputAccept n mv heldUs s = _
  unfold execFioInputAccept
  dsimp only
  rw [hold, hread, if_neg (by simpa [hmode, hquiet] using hheld), if_neg (by simp)]
  rfl

/-- An input that has stood within the transition band of either type shows INPUT_RANGE (R289, Table 12.5). -/
theorem exec_fioInputRange_inBand (hquiet : quiet s = false) (hmode : s.rd (FIO_CFG_MODE n.val) = 1)
    (hlow : 5000 < mv) (hhigh : mv < 11000) (hheld : 100 ≤ heldMs) :
    exec (.fioInputRange n mv heldMs) s = .next (showFio (s.put (FIO_CAUSE_CAUSE n.val 4) true)) := by
  have hband : mv < (if s.flag (FIO_CFG_ITYPE n.val) then 11000 else 15000) := by split <;> omega
  change execFioInputRange n mv heldMs s = _
  rw [execFioInputRange, if_neg (by simp [hquiet]), if_neg (by simp [hmode]), if_pos ⟨⟨hlow, hband⟩, hheld⟩]

/-- A channel that is no input shows no INPUT_RANGE (R289). -/
theorem exec_fioInputRange_unused (hquiet : quiet s = false) (hmode : s.rd (FIO_CFG_MODE n.val) ≠ 1) :
    exec (.fioInputRange n mv heldMs) s = .next (showFio (s.put (FIO_CAUSE_CAUSE n.val 4) false)) := by
  change execFioInputRange n mv heldMs s = _
  rw [execFioInputRange, if_neg (by simp [hquiet]), if_pos hmode]

/-! ### Field faults and supply -/

theorem exec_fioFaultScan_faulty (hfault : s.flag FIO_STATUS_FAULT = true) :
    exec .fioFaultScan s = .next (scanFio s) := by
  change execFioFaultScan s = _
  rw [execFioFaultScan, if_pos hfault]

theorem exec_fioRescan_faulty (hfault : s.flag FIO_STATUS_FAULT = true) :
    exec .fioRescan s = .next (scanFio (s.bump FIO_CNT_RESCANS 1)) := by
  change execFioRescan s = _
  rw [execFioRescan, if_pos hfault]

/-- A supply that has been 1 V above UV for 10 ms ends SUPPLY on every channel (R289, Table 12.5). -/
theorem exec_fioSupplyCause_back (hdeep : (s.pwr.ps == .deep) = false) (hoff : (s.pwr.ps == .off) = false)
    (hback : 500 * s.rd FIO_BLK_UV + 1000 < mv) (hheld : 10 ≤ heldMs) : exec (.fioSupplyCause mv heldMs) s =
      .next (showFio ((List.range 16).foldl (fun t k => t.put (FIO_CAUSE_CAUSE k 3) false) s)) := by
  have hlow : ¬ mv < 500 * s.rd FIO_BLK_UV := by omega
  change execFioSupplyCause mv heldMs s = _
  unfold execFioSupplyCause
  simp only [hdeep, hoff, hlow, hback, hheld, Bool.or_self, Bool.false_eq_true, false_and, and_false, and_self,
    if_true, if_false]

end

/-! ### A feed leaves its range -/

/-- The pins of a feed that has left its range (R545, R557): FEED_OK clears, and FEED_UV sets when it is too low. -/
def feedShownBad (s : State) (f : Nat) (uv : Bool) : State :=
  let s1 := s.wr PWR_PINS_FEED_OK (s.rd PWR_PINS_FEED_OK &&& (15 - 2 ^ f))
  if uv then s1.orF PWR_PINS_FEED_UV (2 ^ f) else s1

/-- Switching the channels of such a feed off leaves the pins as they were set. -/
theorem feedBad_keeps_pins (s : State) (f : Nat) (uv : Bool) :
    Keeps [Reg.PAR_EVT_CNT, Reg.ACT_SAFE_STATUS, Reg.ACT_CNT, Reg.HS_STATE, Reg.HB_STATE, Reg.SV_STATE, Reg.SV_KRES,
      Reg.SV_CNT2, Reg.LED_STATE, Reg.FIO_CAUSE, Reg.SW_CNT_VAL, Reg.SW_MSEC_STAT, Reg.TLY_CNT0]
      [.records, .freeCtr, .owed, .rng, .rings, .evt, .queue, .proxies, .chs, .loss, .wire, .out]
      (feedShownBad s f uv) (feedBad s f uv) := by
  have hlost : Keeps _ _ (feedShownBad s f uv) ((feedChans f).foldl (feedLost uv) (feedShownBad s f uv)) :=
    Keeps.foldl (feedLost_keeps uv) _ (Keeps.refl _)
  refine Keeps.ite (fun _ => Keeps.foldl (fun t k => ?_) _ hlost) fun _ => hlost
  exact (setChn_keeps _ _ _).then_ (by decide) (by decide)
    ((switchTo_keeps t ⟨4, k⟩ .off).then_ (by decide) (by decide) (Keeps.refl t))

theorem feedBad_ok (s : State) (f : Nat) (uv : Bool) :
    (feedBad s f uv).rd PWR_PINS_FEED_OK = (s.rd PWR_PINS_FEED_OK &&& (15 - 2 ^ f)) % 16 := by
  rw [(feedBad_keeps_pins s f uv).rdOf (by decide) (by decide) (by decide)]
  cases uv with
  | false => exact rd_wr_same _ _ _ (by decide)
  | true => exact (rd_orF_key _ _ (by decide)).trans (rd_wr_same _ _ _ (by decide))

theorem feedBad_under (s : State) (f : Nat) :
    (feedBad s f true).rd PWR_PINS_FEED_UV = (s.rd PWR_PINS_FEED_UV ||| 2 ^ f) % 16 := by
  rw [(feedBad_keeps_pins s f true).rdOf (by decide) (by decide) (by decide), feedShownBad]
  exact (rd_orF_same _ _ _ (by decide)).trans (by rw [rd_wr_key _ _ (by decide)]; rfl)

theorem feedBad_over (s : State) (f : Nat) : (feedBad s f false).rd PWR_PINS_FEED_UV = s.rd PWR_PINS_FEED_UV := by
  rw [(feedBad_keeps_pins s f false).rdOf (by decide) (by decide) (by decide)]
  exact rd_wr_key _ _ (by decide)

section
variable {f : Fin 4} {mv heldUs : Nat} {s : State}

theorem exec_feedUndervoltage_low (hheld : 100 ≤ heldUs) (hmv : mv < 4300) :
    exec (.feedUndervoltage f mv heldUs) s = .next (feedBad s f.val true) := by
  change execFeedUndervoltage f mv heldUs s = _
  rw [execFeedUndervoltage, above_under (by omega), if_neg (by omega), if_neg Bool.false_ne_true]

theorem exec_feedUndervoltage_normal (hmv : 4700 ≤ mv) : exec (.feedUndervoltage f mv heldUs) s = .next s := by
  change execFeedUndervoltage f mv heldUs s = _
  rw [execFeedUndervoltage, above_over (by omega), if_pos rfl, ite_self]

/-- A feed is noted as having been too high (R557). -/
def overNoted (s : State) (f : Nat) : State :=
  { s with pwr := { s.pwr with overFeeds := f :: s.pwr.overFeeds.filter (· != f) } }

theorem exec_feedOvervoltage_high (hheld : 10 ≤ heldUs) (hmv : 38000 ≤ mv) :
    exec (.feedOvervoltage f mv heldUs) s = .next (overNoted (feedBad s f.val false) f.val) := by
  change execFeedOvervoltage f mv heldUs s = _
  rw [execFeedOvervoltage, above_over (by omega), if_neg (by omega), if_pos rfl]
  rfl

/-! ### A feed returns -/

/-- A feed in its range again: it is no longer noted as too high, and FEED_OK sets (R545). -/
def feedShownGood (s : State) (f : Nat) : State :=
  State.orF { s with pwr := { s.pwr with overFeeds := s.pwr.overFeeds.filter (· != f) } } PWR_PINS_FEED_OK (2 ^ f)

/-- What the feed's channels do again leaves its pin as it was set. -/
theorem feedBack_ok (s : State) (f : Nat) : ((feedChans f).foldl feedBack (feedShownGood s f)).rd PWR_PINS_FEED_OK =
    (s.rd PWR_PINS_FEED_OK ||| 2 ^ f) % 16 := by
  rw [(Keeps.foldl feedBack_keeps _ (Keeps.refl _)).rdOf (by decide) (by decide) (by decide)]
  exact rd_orF_same _ _ _ (by decide)

theorem exec_feedRecover_back (hheld : 1000 ≤ heldUs) (hmv : 5200 ≤ mv) (hhigh : mv < 35000) :
    exec (.feedRecover f mv heldUs) s = .next ((feedChans f.val).foldl feedBack (feedShownGood s f.val)) := by
  change execFeedRecover f mv heldUs s = _
  rw [execFeedRecover, above_over (by omega), if_neg (by omega), if_pos rfl]
  rfl

end

/-- Settles O22: each command's own equation, along the branch that the clause names; where the state is given by its
frame, the frame is the command's law, and the pins are read through what the feed's channels do. -/
theorem fieldAndFeeds : Obligations.FieldAndFeeds := by
  unfold Obligations.FieldAndFeeds
  refine ⟨fun n mv heldUs s hmode hheld hquiet hold htype hmv hevt => ?rises,
    fun n mv heldUs s hmode hheld hquiet hold htype hmv hevt => ?falls,
    fun s hfault => exec_fioFaultScan_faulty hfault, fun s hfault => exec_fioRescan_faulty hfault,
    fun mv heldMs s hdeep hoff hback hheld => exec_fioSupplyCause_back hdeep hoff hback hheld,
    fun n mv heldMs s hquiet hmode hlow hhigh hheld => exec_fioInputRange_inBand hquiet hmode hlow hhigh hheld,
    fun n mv heldMs s hquiet hmode => exec_fioInputRange_unused hquiet hmode,
    fun f mv heldUs s hheld hmv => ?low, fun f mv heldUs s hmv => exec_feedUndervoltage_normal hmv,
    fun f mv heldUs s hheld hmv => ?high, fun f mv heldUs s hheld hmv hhigh => ?back⟩
  case rises =>
    rw [exec_fioInputAccept_changes (level := true) hmode hheld hquiet hold (fioReading_rises htype hmv),
      if_neg (by simp [hevt])]
    rfl
  case falls =>
    rw [exec_fioInputAccept_changes (level := false) hmode hheld hquiet hold (fioReading_falls htype hmv), if_pos hevt]
    rfl
  case low =>
    exact (execFeedUndervoltage_keeps f mv heldUs s).runs (exec_feedUndervoltage_low hheld hmv) (by decide) (by decide)
      (by decide) ⟨feedBad_ok s f.val true, feedBad_under s f.val⟩
  case high =>
    exact (execFeedOvervoltage_keeps f mv heldUs s).runs (exec_feedOvervoltage_high hheld hmv) (by decide) (by decide)
      (by decide) ⟨feedBad_ok s f.val false, feedBad_over s f.val, List.mem_cons_self⟩
  case back =>
    exact (execFeedRecover_keeps f mv heldUs s).runs (exec_feedRecover_back hheld hmv hhigh) (by decide) (by decide)
      (by decide) (feedBack_ok s f.val)

end Sys2Proof.Machine
end

section
/-! SUPPORT.
Every step answers a next state: what every meaning answers, and what a step leaves of the queue (R569, R572).
-/

namespace Sys2Proof.Machine

/-! ### Every meaning answers -/

theorem Answers.ite {c : Prop} [Decidable c] {a b : Res} (ha : Answers a) (hb : Answers b) :
    Answers (if c then a else b) := by
  split
  · exact ha
  · exact hb

theorem execP0Handoff_answers (s : State) : Answers (execP0Handoff s) := by
  refine Answers.ite ?_ ⟨s, rfl⟩
  dsimp only
  split <;> exact ⟨_, rfl⟩

theorem execTimedStart_answers (part : Fin 8) (eng : Fin 7) (ring : Fin 4) (media : Bool) (samples : List Byte)
    (back : Nat) (s : State) : Answers (execTimedStart part eng ring media samples back s) := by
  refine Answers.ite ⟨s, rfl⟩ ?_
  split
  next => exact ⟨s, rfl⟩
  next w _ => exact Answers.ite ⟨s, rfl⟩ (Answers.ite (startOf_answers w _ media samples back s) ⟨_, rfl⟩)

theorem execWakeAttempt_answers (s : State) : Answers (execWakeAttempt s) := by
  unfold execWakeAttempt
  dsimp only
  split
  next => exact ⟨s, rfl⟩
  next => exact Answers.ite ⟨_, rfl⟩ ⟨_, rfl⟩

theorem execHoldLate_answers (hold : Nat) (s : State) : Answers (execHoldLate hold s) := by
  unfold execHoldLate
  dsimp only
  split
  next => exact ⟨s, rfl⟩
  next => exact Answers.ite ⟨_, rfl⟩ ⟨_, rfl⟩

theorem execCdStart_answers (pos : Nat) (s : State) : Answers (execCdStart pos s) := by
  unfold execCdStart
  split
  next => exact ⟨s, rfl⟩
  next => exact Answers.ite ⟨_, rfl⟩ ⟨_, rfl⟩

theorem execRetryRestart_answers (c : Chan) (s : State) : Answers (execRetryRestart c s) := by
  unfold execRetryRestart
  dsimp only
  split
  next => exact ⟨s, rfl⟩
  next => exact Answers.ite ⟨_, rfl⟩ ⟨_, rfl⟩

theorem execHoldPrechargeTrip_answers (s : State) : Answers (execHoldPrechargeTrip s) := by
  unfold execHoldPrechargeTrip
  split
  next => exact ⟨s, rfl⟩
  next => exact Answers.ite ⟨_, rfl⟩ ⟨_, rfl⟩

/-- Most meanings are a next state by their definition; the others decide first between several. -/
theorem exec_answers (c : Instr) (s : State) : Answers (exec c s) := by
  cases c with
  | sparResetDone => exact Answers.ite ⟨_, rfl⟩ ⟨_, rfl⟩
  | cdRestart => exact Answers.ite ⟨_, rfl⟩ ⟨_, rfl⟩
  | ignChange => exact Answers.ite ⟨_, rfl⟩ ⟨_, rfl⟩
  | crashEdge => exact Answers.ite ⟨_, rfl⟩ ⟨_, rfl⟩
  | limpDriveEnd => exact Answers.ite ⟨_, rfl⟩ ⟨_, rfl⟩
  | limpBrakeEnd => exact Answers.ite ⟨_, rfl⟩ ⟨_, rfl⟩
  | wakeAttempt => exact execWakeAttempt_answers s
  | holdLate hold => exact execHoldLate_answers hold s
  | cdStart pos => exact execCdStart_answers pos s
  | p0Handoff => exact execP0Handoff_answers s
  | orphanBrakeEnd => exact Answers.ite (Answers.ite ⟨_, rfl⟩ ⟨_, rfl⟩) ⟨_, rfl⟩
  | timedStart part eng ring media samples back => exact execTimedStart_answers part eng ring media samples back s
  | tempSample => exact Answers.ite ⟨_, rfl⟩ ⟨_, rfl⟩
  | retryRestart c => exact execRetryRestart_answers c s
  | busSleep h b => exact execBusSleep_answers h b s
  | powerFail => exact Answers.ite ⟨_, rfl⟩ (Answers.ite ⟨_, rfl⟩ ⟨_, rfl⟩)
  | holdPrechargeTrip => exact execHoldPrechargeTrip_answers s
  | _ => exact ⟨_, rfl⟩

/-! ### A step -/

theorem step_idle {s : State} (h : s.pending = []) : step s = .next (idle s) := by
  rw [step, h]

theorem step_exec {s : State} {c : Instr} {q : List Instr} (h : s.pending = c :: q) :
    step s = exec c { s with pending := q } := by
  rw [step, h]

theorem idle_pending (s : State) : (idle s).pending = s.pending := (idle_keeps s).plain .pending (by decide) rfl

theorem exec_pending {c : Instr} {s t : State} (h : exec c s = .next t) : t.pending = s.pending :=
  (exec_keeps c s t h).plain .pending (by decide) rfl

/-- Settles O45: it is what a step is with a command waiting. -/
theorem stepRunsTheCommand : Obligations.StepRunsTheCommand := by
  unfold Obligations.StepRunsTheCommand
  exact fun s c q h => step_exec h

/-- Settles O46: every meaning answers, and no command touches the queue that the step leaves it. -/
theorem stepAlwaysAnswers : Obligations.StepAlwaysAnswers := by
  unfold Obligations.StepAlwaysAnswers
  refine ⟨fun s => ?_, fun s h => step_idle h⟩
  cases hq : s.pending with
  | nil => exact ⟨idle s, step_idle hq, by rw [idle_pending, hq, List.tail_nil]⟩
  | cons c q =>
    obtain ⟨t, ht⟩ := exec_answers c { s with pending := q }
    exact ⟨t, (step_exec hq).trans ht, (exec_pending ht).trans (List.tail_cons ..).symm⟩

/-- Taking a command off the queue leaves what soundness speaks of. -/
theorem inv_pending {s : State} (q : List Instr) (h : Inv s) : Inv { s with pending := q } := h

/-- Settles O47: the frame of every command, and of the tick on an empty queue, keeps a sound state sound. -/
theorem stepKeepsSound : Obligations.StepKeepsSound := by
  unfold Obligations.StepKeepsSound
  intro s t hs ht
  cases hq : s.pending with
  | nil =>
    rw [step_idle hq] at ht
    cases ht
    exact (idle_keeps s).inv hs
  | cons c q =>
    rw [step_exec hq] at ht
    exact (exec_keeps c _ t ht).inv (inv_pending q hs)

end Sys2Proof.Machine
end

section
/-! SUPPORT.
What no command but those of the tally's own does to its written records (R497, R502, R505, R508).
-/

namespace Sys2Proof.Machine

/-- The parts of the state that a command may change which does not write the tally: its queue is among them. -/
def partsButTally : List Part := anyPart.filter (· != .tly)

/-- A command outside `writesTally` leaves the tally alone, but for the queue of its waiting records. -/
theorem exec_keeps_tally {c : Instr} (h : writesTally c = false) (s : State) :
    KeepsR [Reg.every] partsButTally s (exec c s) := by
  cases c with
  | sparResetDone => exact (execSparResetDone_keeps s).mono (by decide) (by decide)
  | sprRstCmd x0 x1 => exact (execSprRstCmd_keeps x0 x1 s).mono (by decide) (by decide)
  | controlWdgExpiry => exact (execControlWdgExpiry_keeps s).mono (by decide) (by decide)
  | sprWdgFeed x0 x1 => exact (execSprWdgFeed_keeps x0 x1 s).mono (by decide) (by decide)
  | wdgWarn => exact (execWdgWarn_keeps s).mono (by decide) (by decide)
  | cdLinkSilence => exact (execCdLinkSilence_keeps s).mono (by decide) (by decide)
  | corePgoodLost => exact (execCorePgoodLost_keeps s).mono (by decide) (by decide)
  | ldControlLost => exact (execLdControlLost_keeps s).mono (by decide) (by decide)
  | bypassEngage x0 x1 => exact (execBypassEngage_keeps x0 x1 s).mono (by decide) (by decide)
  | limpTableApply => exact (execLimpTableApply_keeps s).mono (by decide) (by decide)
  | cdRestart => exact (execCdRestart_keeps s).mono (by decide) (by decide)
  | xsNoEdgeTimeout => exact (execXsNoEdgeTimeout_keeps s).mono (by decide) (by decide)
  | xsRatioCheck x0 => exact (execXsRatioCheck_keeps x0 s).mono (by decide) (by decide)
  | lpoCalibrate x0 => exact (execLpoCalibrate_keeps x0 s).mono (by decide) (by decide)
  | xsReturn => exact (execXsReturn_keeps s).mono (by decide) (by decide)
  | rtcWrite x0 x1 x2 => exact (execRtcWrite_keeps x0 x1 x2 s).mono (by decide) (by decide)
  | rtcAlarmWrite x0 x1 x2 => exact (execRtcAlarmWrite_keeps x0 x1 x2 s).mono (by decide) (by decide)
  | rtcAlarmFire => exact (execRtcAlarmFire_keeps s).mono (by decide) (by decide)
  | dtCorrection x0 x1 => exact (execDtCorrection_keeps x0 x1 s).mono (by decide) (by decide)
  | dtSyncReached => exact (execDtSyncReached_keeps s).mono (by decide) (by decide)
  | syncLoss => exact (execSyncLoss_keeps s).mono (by decide) (by decide)
  | clkSrcWrite x0 x1 => exact (execClkSrcWrite_keeps x0 x1 s).mono (by decide) (by decide)
  | clkSwitchDone => exact (execClkSwitchDone_keeps s).mono (by decide) (by decide)
  | clkPllCfgWrite x0 x1 => exact (execClkPllCfgWrite_keeps x0 x1 s).mono (by decide) (by decide)
  | pllLock x0 => exact (execPllLock_keeps x0 s).mono (by decide) (by decide)
  | pllLockLoss x0 => exact (execPllLockLoss_keeps x0 s).mono (by decide) (by decide)
  | xfFail => exact (execXfFail_keeps s).mono (by decide) (by decide)
  | xfReady => exact (execXfReady_keeps s).mono (by decide) (by decide)
  | ignChange x0 x1 => exact (execIgnChange_keeps x0 x1 s).mono (by decide) (by decide)
  | crashEdge x0 x1 => exact (execCrashEdge_keeps x0 x1 s).mono (by decide) (by decide)
  | crashLatchClear x0 x1 => exact (execCrashLatchClear_keeps x0 x1 s).mono (by decide) (by decide)
  | limpRelease x0 x1 => exact (execLimpRelease_keeps x0 x1 s).mono (by decide) (by decide)
  | limpReleased => exact (execLimpReleased_keeps s).mono (by decide) (by decide)
  | limpDriveEnd x0 => exact (execLimpDriveEnd_keeps x0 s).mono (by decide) (by decide)
  | limpBrakeEnd x0 => exact (execLimpBrakeEnd_keeps x0 s).mono (by decide) (by decide)
  | coreWfi x0 => exact (execCoreWfi_keeps x0 s).mono (by decide) (by decide)
  | coreIdle x0 => exact (execCoreIdle_keeps x0 s).mono (by decide) (by decide)
  | coreWake x0 => exact (execCoreWake_keeps x0 s).mono (by decide) (by decide)
  | devIdleTimeout => exact (execDevIdleTimeout_keeps s).mono (by decide) (by decide)
  | pwrNextWrite x0 x1 => exact (execPwrNextWrite_keeps x0 x1 s).mono (by decide) (by decide)
  | pwrSafAck x0 x1 => exact (execPwrSafAck_keeps x0 x1 s).mono (by decide) (by decide)
  | powerEntry => exact (execPowerEntry_keeps s).mono (by decide) (by decide)
  | entryWaitTimeout => exact (execEntryWaitTimeout_keeps s).mono (by decide) (by decide)
  | entryComplete => exact (execEntryComplete_keeps s).mono (by decide) (by decide)
  | deepAfterTimeout => exact (execDeepAfterTimeout_keeps s).mono (by decide) (by decide)
  | offAfterTimeout => exact (execOffAfterTimeout_keeps s).mono (by decide) (by decide)
  | wakeEvent x0 x1 x2 => exact (execWakeEvent_keeps x0 x1 x2 s).mono (by decide) (by decide)
  | whistleDetect x0 x1 x2 x3 x4 x5 => exact (execWhistleDetect_keeps x0 x1 x2 x3 x4 x5 s).mono (by decide) (by decide)
  | whistleForward => exact (execWhistleForward_keeps s).mono (by decide) (by decide)
  | railPgood x0 => exact (execRailPgood_keeps x0 s).mono (by decide) (by decide)
  | wakeAttemptFail x0 => exact (execWakeAttemptFail_keeps x0 s).mono (by decide) (by decide)
  | holdLate x0 => exact (execHoldLate_keeps x0 s).mono (by decide) (by decide)
  | xfLate x0 => exact (execXfLate_keeps x0 s).mono (by decide) (by decide)
  | bankZeroDone x0 => exact (execBankZeroDone_keeps x0 s).mono (by decide) (by decide)
  | secureBoot x0 x1 x2 x3 x4 => exact (execSecureBoot_keeps x0 x1 x2 x3 x4 s).mono (by decide) (by decide)
  | p0Handoff => exact (execP0Handoff_keeps s).mono (by decide) (by decide)
  | confirmDeadline => exact (execConfirmDeadline_keeps s).mono (by decide) (by decide)
  | updConfirmDue => exact (execUpdConfirmDue_keeps s).mono (by decide) (by decide)
  | chainLinkChange x0 x1 => exact (execChainLinkChange_keeps x0 x1 s).mono (by decide) (by decide)
  | chnPortCfgWrite x0 x1 => exact (execChnPortCfgWrite_keeps x0 x1 s).mono (by decide) (by decide)
  | discover x0 x1 => exact (execDiscover_keeps x0 x1 s).mono (by decide) (by decide)
  | announce x0 x1 => exact (execAnnounce_keeps x0 x1 s).mono (by decide) (by decide)
  | announceTimer => exact (execAnnounceTimer_keeps s).mono (by decide) (by decide)
  | assign x0 x1 => exact (execAssign_keeps x0 x1 s).mono (by decide) (by decide)
  | confirm x0 x1 => exact (execConfirm_keeps x0 x1 s).mono (by decide) (by decide)
  | cruiseDone x0 x1 => exact (execCruiseDone_keeps x0 x1 s).mono (by decide) (by decide)
  | assignTimeout => exact (execAssignTimeout_keeps s).mono (by decide) (by decide)
  | doorbellFrame x0 x1 x2 => exact (execDoorbellFrame_keeps x0 x1 x2 s).mono (by decide) (by decide)
  | readRsp x0 x1 x2 => exact (execReadRsp_keeps x0 x1 x2 s).mono (by decide) (by decide)
  | readTimeout x0 x1 => exact (execReadTimeout_keeps x0 x1 s).mono (by decide) (by decide)
  | heartbeat x0 x1 x2 => exact (execHeartbeat_keeps x0 x1 x2 s).mono (by decide) (by decide)
  | attachReq x0 x1 x2 => exact (execAttachReq_keeps x0 x1 x2 s).mono (by decide) (by decide)
  | detachReq x0 x1 x2 => exact (execDetachReq_keeps x0 x1 x2 s).mono (by decide) (by decide)
  | heartbeatSend x0 => exact (execHeartbeatSend_keeps x0 s).mono (by decide) (by decide)
  | detachTimeout x0 => exact (execDetachTimeout_keeps x0 s).mono (by decide) (by decide)
  | writeRetransmit x0 => exact (execWriteRetransmit_keeps x0 s).mono (by decide) (by decide)
  | ident x0 x1 => exact (execIdent_keeps x0 x1 s).mono (by decide) (by decide)
  | maintStatus x0 x1 => exact (execMaintStatus_keeps x0 x1 s).mono (by decide) (by decide)
  | maintDeviceReset x0 x1 => exact (execMaintDeviceReset_keeps x0 x1 s).mono (by decide) (by decide)
  | bypassOn x0 x1 => exact (execBypassOn_keeps x0 x1 s).mono (by decide) (by decide)
  | bypassOff x0 x1 => exact (execBypassOff_keeps x0 x1 s).mono (by decide) (by decide)
  | bypassForce x0 x1 => exact (execBypassForce_keeps x0 x1 s).mono (by decide) (by decide)
  | bypassLeave x0 x1 x2 => exact (execBypassLeave_keeps x0 x1 x2 s).mono (by decide) (by decide)
  | chainSleepReq x0 => exact (execChainSleepReq_keeps x0 s).mono (by decide) (by decide)
  | sendWhistle x0 x1 => exact (execSendWhistle_keeps x0 x1 s).mono (by decide) (by decide)
  | layoutApply x0 => exact (execLayoutApply_keeps x0 s).mono (by decide) (by decide)
  | parSeal x0 x1 => exact (execParSeal_keeps x0 x1 s).mono (by decide) (by decide)
  | limpCommit => exact (execLimpCommit_keeps s).mono (by decide) (by decide)
  | parRst x0 x1 => exact (execParRst_keeps x0 x1 s).mono (by decide) (by decide)
  | selfReset x0 x1 x2 => exact (execSelfReset_keeps x0 x1 x2 s).mono (by decide) (by decide)
  | partResetDone x0 => exact (execPartResetDone_keeps x0 s).mono (by decide) (by decide)
  | orphanTimeout x0 => exact (execOrphanTimeout_keeps x0 s).mono (by decide) (by decide)
  | orphanBrakeEnd x0 => exact (execOrphanBrakeEnd_keeps x0 s).mono (by decide) (by decide)
  | eventCoalesceTimeout x0 => exact (execEventCoalesceTimeout_keeps x0 s).mono (by decide) (by decide)
  | eventTokenRefill => exact (execEventTokenRefill_keeps s).mono (by decide) (by decide)
  | swEvent x0 x1 x2 => exact (execSwEvent_keeps x0 x1 x2 s).mono (by decide) (by decide)
  | sQueueDeliver x0 => exact (execSQueueDeliver_keeps x0 s).mono (by decide) (by decide)
  | armPart x0 => exact (execArmPart_keeps x0 s).mono (by decide) (by decide)
  | armEngine x0 => exact (execArmEngine_keeps x0 s).mono (by decide) (by decide)
  | engineReset x0 => exact (execEngineReset_keeps x0 s).mono (by decide) (by decide)
  | producerDoorbell x0 x1 x2 x3 x4 => exact (execProducerDoorbell_keeps x0 x1 x2 x3 x4 s).mono (by decide) (by decide)
  | completionDoorbell x0 x1 x2 x3 => exact (execCompletionDoorbell_keeps x0 x1 x2 x3 s).mono (by decide) (by decide)
  | eventDoorbell x0 x1 x2 => exact (execEventDoorbell_keeps x0 x1 x2 s).mono (by decide) (by decide)
  | descriptorAccept x0 x1 x2 => exact (execDescriptorAccept_keeps x0 x1 x2 s).mono (by decide) (by decide)
  | timedStart x0 x1 x2 x3 x4 x5 => exact (execTimedStart_keeps x0 x1 x2 x3 x4 x5 s).mono (by decide) (by decide)
  | ringStall x0 x1 x2 => exact (execRingStall_keeps x0 x1 x2 s).mono (by decide) (by decide)
  | nop x0 x1 x2 => exact (execNop_keeps x0 x1 x2 s).mono (by decide) (by decide)
  | cancel x0 x1 x2 => exact (execCancel_keeps x0 x1 x2 s).mono (by decide) (by decide)
  | actSet x0 x1 => exact (execActSet_keeps x0 x1 s).mono (by decide) (by decide)
  | actPulse x0 x1 => exact (execActPulse_keeps x0 x1 s).mono (by decide) (by decide)
  | actPwm x0 x1 => exact (execActPwm_keeps x0 x1 s).mono (by decide) (by decide)
  | actProfile x0 x1 => exact (execActProfile_keeps x0 x1 s).mono (by decide) (by decide)
  | actBridge x0 x1 => exact (execActBridge_keeps x0 x1 s).mono (by decide) (by decide)
  | actSequence x0 x1 => exact (execActSequence_keeps x0 x1 s).mono (by decide) (by decide)
  | sequenceStep x0 => exact (execSequenceStep_keeps x0 s).mono (by decide) (by decide)
  | actRestart x0 x1 => exact (execActRestart_keeps x0 x1 s).mono (by decide) (by decide)
  | actGrant x0 x1 => exact (execActGrant_keeps x0 x1 s).mono (by decide) (by decide)
  | actClaim x0 x1 => exact (execActClaim_keeps x0 x1 s).mono (by decide) (by decide)
  | actStatus x0 x1 => exact (execActStatus_keeps x0 x1 s).mono (by decide) (by decide)
  | safeAction x0 x1 => exact (execSafeAction_keeps x0 x1 s).mono (by decide) (by decide)
  | safetyLaneMsg => exact (execSafetyLaneMsg_keeps s).mono (by decide) (by decide)
  | limpStage x0 x1 => exact (execLimpStage_keeps x0 x1 s).mono (by decide) (by decide)
  | pulseTrainEnd x0 => exact (execPulseTrainEnd_keeps x0 s).mono (by decide) (by decide)
  | profileSegmentEnd x0 => exact (execProfileSegmentEnd_keeps x0 s).mono (by decide) (by decide)
  | hsOvercurrent x0 x1 => exact (execHsOvercurrent_keeps x0 x1 s).mono (by decide) (by decide)
  | tempSample x0 x1 => exact (execTempSample_keeps x0 x1 s).mono (by decide) (by decide)
  | inrushEnd x0 => exact (execInrushEnd_keeps x0 s).mono (by decide) (by decide)
  | retryRestart x0 => exact (execRetryRestart_keeps x0 s).mono (by decide) (by decide)
  | retryCountReset x0 => exact (execRetryCountReset_keeps x0 s).mono (by decide) (by decide)
  | openLoadChange x0 x1 x2 x3 x4 x5 =>
    exact (execOpenLoadChange_keeps x0 x1 x2 x3 x4 x5 s).mono (by decide) (by decide)
  | runMsExpiry x0 => exact (execRunMsExpiry_keeps x0 s).mono (by decide) (by decide)
  | dirGapEnd x0 => exact (execDirGapEnd_keeps x0 s).mono (by decide) (by decide)
  | rippleAccept x0 x1 x2 => exact (execRippleAccept_keeps x0 x1 x2 s).mono (by decide) (by decide)
  | rippleFill x0 => exact (execRippleFill_keeps x0 s).mono (by decide) (by decide)
  | stall x0 x1 x2 => exact (execStall_keeps x0 x1 x2 s).mono (by decide) (by decide)
  | hbOvercurrent x0 x1 x2 => exact (execHbOvercurrent_keeps x0 x1 x2 s).mono (by decide) (by decide)
  | hbOpenChange x0 x1 x2 => exact (execHbOpenChange_keeps x0 x1 x2 s).mono (by decide) (by decide)
  | reversalBrakeEnd x0 => exact (execReversalBrakeEnd_keeps x0 s).mono (by decide) (by decide)
  | reversalDriveEnd x0 => exact (execReversalDriveEnd_keeps x0 s).mono (by decide) (by decide)
  | reversalFinalEnd x0 => exact (execReversalFinalEnd_keeps x0 s).mono (by decide) (by decide)
  | svOvercurrent x0 x1 => exact (execSvOvercurrent_keeps x0 x1 s).mono (by decide) (by decide)
  | kerfFound x0 x1 => exact (execKerfFound_keeps x0 x1 s).mono (by decide) (by decide)
  | kerfWindowEnd x0 x1 => exact (execKerfWindowEnd_keeps x0 x1 s).mono (by decide) (by decide)
  | svShare x0 x1 x2 => exact (execSvShare_keeps x0 x1 x2 s).mono (by decide) (by decide)
  | svOpenChange x0 x1 x2 => exact (execSvOpenChange_keeps x0 x1 x2 s).mono (by decide) (by decide)
  | ledTest x0 x1 => exact (execLedTest_keeps x0 x1 s).mono (by decide) (by decide)
  | followOff x0 => exact (execFollowOff_keeps x0 s).mono (by decide) (by decide)
  | ledHeadroom x0 x1 x2 => exact (execLedHeadroom_keeps x0 x1 x2 s).mono (by decide) (by decide)
  | ledDerateUpdate x0 x1 x2 => exact (execLedDerateUpdate_keeps x0 x1 x2 s).mono (by decide) (by decide)
  | ntcFaultHoldEnd x0 => exact (execNtcFaultHoldEnd_keeps x0 s).mono (by decide) (by decide)
  | fioInputAccept x0 x1 x2 => exact (execFioInputAccept_keeps x0 x1 x2 s).mono (by decide) (by decide)
  | fioFaultScan => exact (execFioFaultScan_keeps s).mono (by decide) (by decide)
  | fioRescan => exact (execFioRescan_keeps s).mono (by decide) (by decide)
  | fioSupplyCause x0 x1 => exact (execFioSupplyCause_keeps x0 x1 s).mono (by decide) (by decide)
  | fioInputRange x0 x1 x2 => exact (execFioInputRange_keeps x0 x1 x2 s).mono (by decide) (by decide)
  | inputSample x0 x1 => exact (execInputSample_keeps x0 x1 s).mono (by decide) (by decide)
  | cyclicBurst x0 x1 => exact (execCyclicBurst_keeps x0 x1 s).mono (by decide) (by decide)
  | analogConvert x0 x1 => exact (execAnalogConvert_keeps x0 x1 s).mono (by decide) (by decide)
  | adcCalibrate x0 x1 => exact (execAdcCalibrate_keeps x0 x1 s).mono (by decide) (by decide)
  | snsOpen x0 x1 => exact (execSnsOpen_keeps x0 x1 s).mono (by decide) (by decide)
  | snsClose x0 x1 x2 x3 => exact (execSnsClose_keeps x0 x1 x2 x3 s).mono (by decide) (by decide)
  | streamRelease x0 x1 => exact (execStreamRelease_keeps x0 x1 s).mono (by decide) (by decide)
  | snsRead x0 x1 => exact (execSnsRead_keeps x0 x1 s).mono (by decide) (by decide)
  | blockComplete x0 x1 x2 x3 => exact (execBlockComplete_keeps x0 x1 x2 x3 s).mono (by decide) (by decide)
  | windowHandoff x0 x1 => exact (execWindowHandoff_keeps x0 x1 s).mono (by decide) (by decide)
  | scalerStep x0 => exact (execScalerStep_keeps x0 s).mono (by decide) (by decide)
  | scalerRestart x0 => exact (execScalerRestart_keeps x0 s).mono (by decide) (by decide)
  | stormEnd => exact (execStormEnd_keeps s).mono (by decide) (by decide)
  | lossWindowEnd => exact (execLossWindowEnd_keeps s).mono (by decide) (by decide)
  | frameReceive x0 x1 x2 => exact (execFrameReceive_keeps x0 x1 x2 s).mono (by decide) (by decide)
  | frameTransmit x0 x1 => exact (execFrameTransmit_keeps x0 x1 s).mono (by decide) (by decide)
  | gateEntry x0 => exact (execGateEntry_keeps x0 s).mono (by decide) (by decide)
  | agingScan => exact (execAgingScan_keeps s).mono (by decide) (by decide)
  | netTx x0 x1 => exact (execNetTx_keeps x0 x1 s).mono (by decide) (by decide)
  | txTimeout => exact (execTxTimeout_keeps s).mono (by decide) (by decide)
  | rxBuf x0 x1 x2 => exact (execRxBuf_keeps x0 x1 x2 s).mono (by decide) (by decide)
  | flushTable x0 x1 => exact (execFlushTable_keeps x0 x1 s).mono (by decide) (by decide)
  | tblRead x0 => exact (execTblRead_keeps x0 s).mono (by decide) (by decide)
  | tblWrite x0 => exact (execTblWrite_keeps x0 s).mono (by decide) (by decide)
  | tblClear x0 => exact (execTblClear_keeps x0 s).mono (by decide) (by decide)
  | plcaBeaconLoss x0 => exact (execPlcaBeaconLoss_keeps x0 s).mono (by decide) (by decide)
  | t1sSleepReq x0 => exact (execT1sSleepReq_keeps x0 s).mono (by decide) (by decide)
  | canFrameRx x0 x1 => exact (execCanFrameRx_keeps x0 x1 s).mono (by decide) (by decide)
  | busoffRecovered x0 => exact (execBusoffRecovered_keeps x0 s).mono (by decide) (by decide)
  | canTx x0 x1 => exact (execCanTx_keeps x0 x1 s).mono (by decide) (by decide)
  | busFrameSent x0 x1 => exact (execBusFrameSent_keeps x0 x1 s).mono (by decide) (by decide)
  | busTxTimeout x0 x1 => exact (execBusTxTimeout_keeps x0 x1 s).mono (by decide) (by decide)
  | linTx x0 x1 => exact (execLinTx_keeps x0 x1 s).mono (by decide) (by decide)
  | linSched x0 x1 => exact (execLinSched_keeps x0 x1 s).mono (by decide) (by decide)
  | linSlot x0 => exact (execLinSlot_keeps x0 s).mono (by decide) (by decide)
  | linResp x0 x1 => exact (execLinResp_keeps x0 x1 s).mono (by decide) (by decide)
  | linHeaderRx x0 x1 => exact (execLinHeaderRx_keeps x0 x1 s).mono (by decide) (by decide)
  | linResponseRx x0 x1 x2 => exact (execLinResponseRx_keeps x0 x1 x2 s).mono (by decide) (by decide)
  | linGotoSleep x0 => exact (execLinGotoSleep_keeps x0 s).mono (by decide) (by decide)
  | busOnline x0 x1 => exact (execBusOnline_keeps x0 x1 s).mono (by decide) (by decide)
  | busOffline x0 x1 => exact (execBusOffline_keeps x0 x1 s).mono (by decide) (by decide)
  | busSleep x0 x1 => exact (execBusSleep_keeps x0 x1 s).mono (by decide) (by decide)
  | busWake x0 x1 => exact (execBusWake_keeps x0 x1 s).mono (by decide) (by decide)
  | busRecover x0 x1 => exact (execBusRecover_keeps x0 x1 s).mono (by decide) (by decide)
  | tunnelIngress x0 => exact (execTunnelIngress_keeps x0 s).mono (by decide) (by decide)
  | tunnelFlush x0 => exact (execTunnelFlush_keeps x0 s).mono (by decide) (by decide)
  | infResult x0 x1 x2 => exact (execInfResult_keeps x0 x1 x2 s).mono (by decide) (by decide)
  | pairTimeout x0 x1 => exact (execPairTimeout_keeps x0 x1 s).mono (by decide) (by decide)
  | noInputTimeout x0 => exact (execNoInputTimeout_keeps x0 s).mono (by decide) (by decide)
  | lockstepFault x0 x1 => exact (execLockstepFault_keeps x0 x1 s).mono (by decide) (by decide)
  | infLoad x0 x1 => exact (execInfLoad_keeps x0 x1 s).mono (by decide) (by decide)
  | infUnload x0 x1 => exact (execInfUnload_keeps x0 x1 s).mono (by decide) (by decide)
  | infRun x0 x1 => exact (execInfRun_keeps x0 x1 s).mono (by decide) (by decide)
  | jobStart x0 x1 => exact (execJobStart_keeps x0 x1 s).mono (by decide) (by decide)
  | jobEnd x0 x1 => exact (execJobEnd_keeps x0 x1 s).mono (by decide) (by decide)
  | jobWatchdog x0 => exact (execJobWatchdog_keeps x0 s).mono (by decide) (by decide)
  | katStart x0 x1 => exact (execKatStart_keeps x0 x1 s).mono (by decide) (by decide)
  | katEnd x0 x1 x2 => exact (execKatEnd_keeps x0 x1 x2 s).mono (by decide) (by decide)
  | katRetest x0 x1 x2 => exact (execKatRetest_keeps x0 x1 x2 s).mono (by decide) (by decide)
  | contextReload x0 x1 x2 => exact (execContextReload_keeps x0 x1 x2 s).mono (by decide) (by decide)
  | nsCreate x0 => exact (execNsCreate_keeps x0 s).mono (by decide) (by decide)
  | nsDelete x0 => exact (execNsDelete_keeps x0 s).mono (by decide) (by decide)
  | stoRead x0 x1 => exact (execStoRead_keeps x0 x1 s).mono (by decide) (by decide)
  | stoWrite x0 x1 => exact (execStoWrite_keeps x0 x1 s).mono (by decide) (by decide)
  | stoWriteAtomic x0 x1 => exact (execStoWriteAtomic_keeps x0 x1 s).mono (by decide) (by decide)
  | stoTrim x0 x1 => exact (execStoTrim_keeps x0 x1 s).mono (by decide) (by decide)
  | stoFlush x0 x1 => exact (execStoFlush_keeps x0 x1 s).mono (by decide) (by decide)
  | stoStatus x0 x1 => exact (execStoStatus_keeps x0 x1 s).mono (by decide) (by decide)
  | wbDrain x0 x1 x2 => exact (execWbDrain_keeps x0 x1 x2 s).mono (by decide) (by decide)
  | storeMount x0 x1 => exact (execStoreMount_keeps x0 x1 s).mono (by decide) (by decide)
  | checkpoint x0 => exact (execCheckpoint_keeps x0 s).mono (by decide) (by decide)
  | journalFlush x0 => exact (execJournalFlush_keeps x0 s).mono (by decide) (by decide)
  | retentionUpdate x0 => exact (execRetentionUpdate_keeps x0 s).mono (by decide) (by decide)
  | refresh x0 x1 x2 => exact (execRefresh_keeps x0 x1 x2 s).mono (by decide) (by decide)
  | garbageCollection x0 x1 x2 x3 x4 x5 =>
    exact (execGarbageCollection_keeps x0 x1 x2 x3 x4 x5 s).mono (by decide) (by decide)
  | powerFail x0 x1 x2 => exact (execPowerFail_keeps x0 x1 x2 s).mono (by decide) (by decide)
  | powerFailStepDone => exact (execPowerFailStepDone_keeps s).mono (by decide) (by decide)
  | holdStop x0 x1 => exact (execHoldStop_keeps x0 x1 s).mono (by decide) (by decide)
  | holdupMeasure x0 x1 x2 x3 => exact (execHoldupMeasure_keeps x0 x1 x2 x3 s).mono (by decide) (by decide)
  | holdLow x0 x1 => exact (execHoldLow_keeps x0 x1 s).mono (by decide) (by decide)
  | secRandom x0 x1 => exact (execSecRandom_keeps x0 x1 s).mono (by decide) (by decide)
  | entropyTimeout => exact (execEntropyTimeout_keeps s).mono (by decide) (by decide)
  | trngStartupDone x0 x1 => exact (execTrngStartupDone_keeps x0 x1 s).mono (by decide) (by decide)
  | seedRewrite => exact (execSeedRewrite_keeps s).mono (by decide) (by decide)
  | trngContinuousFail => exact (execTrngContinuousFail_keeps s).mono (by decide) (by decide)
  | reseedDue => exact (execReseedDue_keeps s).mono (by decide) (by decide)
  | secAesGcm x0 x1 => exact (execSecAesGcm_keeps x0 x1 s).mono (by decide) (by decide)
  | secSha256 x0 x1 => exact (execSecSha256_keeps x0 x1 s).mono (by decide) (by decide)
  | secHkdf x0 x1 => exact (execSecHkdf_keeps x0 x1 s).mono (by decide) (by decide)
  | secEcdsaSign x0 x1 => exact (execSecEcdsaSign_keeps x0 x1 s).mono (by decide) (by decide)
  | secEcdsaVerify x0 x1 => exact (execSecEcdsaVerify_keeps x0 x1 s).mono (by decide) (by decide)
  | secMldsaVerify x0 x1 => exact (execSecMldsaVerify_keeps x0 x1 s).mono (by decide) (by decide)
  | secKeyLoad x0 x1 => exact (execSecKeyLoad_keeps x0 x1 s).mono (by decide) (by decide)
  | secKeyClear x0 x1 => exact (execSecKeyClear_keeps x0 x1 s).mono (by decide) (by decide)
  | secCmac x0 x1 => exact (execSecCmac_keeps x0 x1 s).mono (by decide) (by decide)
  | secPubkey x0 x1 => exact (execSecPubkey_keeps x0 x1 s).mono (by decide) (by decide)
  | keyProvision x0 x1 => exact (execKeyProvision_keeps x0 x1 s).mono (by decide) (by decide)
  | msecInstall x0 x1 => exact (execMsecInstall_keeps x0 x1 s).mono (by decide) (by decide)
  | msecRetire x0 x1 => exact (execMsecRetire_keeps x0 x1 s).mono (by decide) (by decide)
  | updVerify x0 x1 x2 => exact (execUpdVerify_keeps x0 x1 x2 s).mono (by decide) (by decide)
  | updArm x0 x1 => exact (execUpdArm_keeps x0 x1 s).mono (by decide) (by decide)
  | updDisarm x0 x1 => exact (execUpdDisarm_keeps x0 x1 s).mono (by decide) (by decide)
  | updConfirm x0 x1 => exact (execUpdConfirm_keeps x0 x1 s).mono (by decide) (by decide)
  | dbgAuthChallenge => exact (execDbgAuthChallenge_keeps s).mono (by decide) (by decide)
  | dbgAuthResponse x0 => exact (execDbgAuthResponse_keeps x0 s).mono (by decide) (by decide)
  | tlySelWrite x0 x1 => exact (execTlySelWrite_keeps x0 x1 s).mono (by decide) (by decide)
  | scrub x0 x1 x2 => exact (execScrub_keeps x0 x1 x2 s).mono (by decide) (by decide)
  | linkReplay x0 x1 => exact (execLinkReplay_keeps x0 x1 s).mono (by decide) (by decide)
  | linkRetrain x0 x1 => exact (execLinkRetrain_keeps x0 x1 s).mono (by decide) (by decide)
  | linkLost x0 => exact (execLinkLost_keeps x0 s).mono (by decide) (by decide)
  | sidebandParityLoss => exact (execSidebandParityLoss_keeps s).mono (by decide) (by decide)
  | onfiLoss => exact (execOnfiLoss_keeps s).mono (by decide) (by decide)
  | heldEventDelivery x0 => exact (execHeldEventDelivery_keeps x0 s).mono (by decide) (by decide)
  | evtInjArm x0 x1 => exact (execEvtInjArm_keeps x0 x1 s).mono (by decide) (by decide)
  | evtRaise x0 x1 => exact (execEvtRaise_keeps x0 x1 s).mono (by decide) (by decide)
  | feedUndervoltage x0 x1 x2 => exact (execFeedUndervoltage_keeps x0 x1 x2 s).mono (by decide) (by decide)
  | feedOvervoltage x0 x1 x2 => exact (execFeedOvervoltage_keeps x0 x1 x2 s).mono (by decide) (by decide)
  | feedRecover x0 x1 x2 => exact (execFeedRecover_keeps x0 x1 x2 s).mono (by decide) (by decide)
  | rcRegisterRead x0 x1 x2 => exact (execRcRegisterRead_keeps x0 x1 x2 s).mono (by decide) (by decide)
  | plcaBeaconReturn x0 => exact (execPlcaBeaconReturn_keeps x0 s).mono (by decide) (by decide)
  | holdPrechargeTrip => exact (execHoldPrechargeTrip_keeps s).mono (by decide) (by decide)
  | linkPgoodLost => exact (execLinkPgoodLost_keeps s).mono (by decide) (by decide)
  | preRegulatorInputReturn x0 x1 => exact (execPreRegulatorInputReturn_keeps x0 x1 s).mono (by decide) (by decide)
  | infLoadComplete x0 x1 x2 => exact (execInfLoadComplete_keeps x0 x1 x2 s).mono (by decide) (by decide)
  | stoCommandComplete x0 x1 x2 x3 => exact (execStoCommandComplete_keeps x0 x1 x2 x3 s).mono (by decide) (by decide)
  | linkRecoveryRetry x0 x1 => exact (execLinkRecoveryRetry_keeps x0 x1 s).mono (by decide) (by decide)
  | _ => exact Bool.noConfusion h

/-- Settles O49: what such a command keeps of the tally is all but the queue, so the record areas, the MAC that the next
record chains to and the count of starts are among it. -/
theorem tallyKept : Obligations.TallyKept := by
  unfold Obligations.TallyKept
  intro c s t hc ht
  have htly : { t.tly with queue := [], dropped := 0, dropAfter := 0 } =
      { s.tly with queue := [], dropped := 0, dropAfter := 0 } :=
    (exec_keeps_tally hc s t ht).plain .tly (by decide) rfl
  injection htly with hring hfirst _ hmac hstarts
  exact ⟨hring, hfirst, hmac, hstarts⟩

end Sys2Proof.Machine
end

section
/-! SUPPORT.
The cores' accesses to the configuration space: what the safety island may write, what reads and writes by address do,
and the seal set (R70, R534, R538, R567 to R571).
-/

namespace Sys2Proof.Machine

/-! ### Accesses by address -/

theorem coreWrite_cfg (s : State) (w : Writer) {a : Nat} (len : Nat) (v : Word) (hlo : 0x40000000 ≤ a)
    (htop : a < 0x41000000) : coreWrite s w a len v = cfgWrite s w (a - 0x40000000) len v := by
  rw [coreWrite, if_pos ⟨hlo, htop⟩]

theorem cfgWrite_malformed (s : State) (w : Writer) {off len : Nat} (v : Word) (h : len ≠ 4 ∨ off % 4 ≠ 0) :
    cfgWrite s w off len v = violate s := by
  rw [cfgWrite, if_pos h]

theorem cfgWrite_register (s : State) (w : Writer) {off : Nat} (v : Word) (hal : off % 4 = 0) (hset : off ≠ 0x50088) :
    cfgWrite s w off 4 v = regWrite s w off v := by
  rw [cfgWrite, if_neg (by omega), if_neg hset]

theorem cfgWrite_sealSet (s : State) (w : Writer) (v : Word) : cfgWrite s w 0x50088 4 v = writeSset s w v := by
  rw [cfgWrite, if_neg (by decide), if_pos rfl]

theorem coreWrite_mirror (s : State) (w : Writer) {a : Nat} (len : Nat) (v : Word) (hlo : 0x60000000 ≤ a)
    (htop : a < 0x61000000) : coreWrite s w a len v = violate s := by
  rw [coreWrite, if_neg (by omega), if_neg (by omega), if_pos ⟨hlo, htop⟩]

/-! ### The safety island's writes -/

theorem stOf_whileCd {s t : State} (hup : cdUp s = true) : stOf (whileCd s t) s = t := by
  rw [whileCd_of_up hup, stOf]

section
variable {s : State} (hup : cdUp s = true) (v : Word)
include hup

/-- The spar, clock, power and chain registers with a command of their own all refuse the safety island, but for the
four that it may write or that do more than count (R70, R570). -/
theorem ownWriteLow_safety {off : Nat} (hfeed : off ≠ 0x44) (hnext : off ≠ 0x20000) (hack : off ≠ 0x20008)
    (hport : off ≠ 0x40000) {t : State} (h : ownWriteLow s .safety off v = some t) : t = violate s := by
  unfold ownWriteLow at h
  split at h <;> cases h
  case h_5 => exact absurd rfl hfeed
  case h_11 => exact absurd rfl hnext
  case h_12 => exact absurd rfl hack
  case h_13 => exact absurd rfl hport
  case h_14 => rfl
  case h_6 => exact (stOf_whileCd hup).trans (if_neg (by simp))
  all_goals exact (stOf_whileCd hup).trans (if_pos rfl)

theorem rngCmd_safety : rngCmd s .safety v = violate s := by
  unfold rngCmd
  split
  case h_4 => exact if_pos rfl
  all_goals exact (stOf_whileCd hup).trans (if_pos rfl)

theorem tblCmd_safety : tblCmd s .safety v = violate s := by
  unfold tblCmd
  split
  case h_4 => exact if_pos rfl
  all_goals exact (stOf_whileCd hup).trans (if_pos rfl)

theorem nsCmd_safety : nsCmd s .safety v = violate s := by
  unfold nsCmd
  split
  case h_3 => exact if_pos rfl
  all_goals exact (stOf_whileCd hup).trans (if_pos rfl)

/-- The registers of the other blocks with a command of their own all refuse the safety island, but for PAR_RST. -/
theorem ownWriteHigh_safety {off : Nat} (hrst : off ≠ 0x50024) {t : State}
    (h : ownWriteHigh s .safety off v = some t) : t = violate s := by
  unfold ownWriteHigh at h
  split at h <;> cases h
  case h_1 => exact (if_neg (by simp)).trans ((stOf_whileCd hup).trans (if_pos (.inl rfl)))
  case h_3 => exact absurd rfl hrst
  case h_4 => exact rngCmd_safety hup v
  case h_6 => exact tblCmd_safety hup v
  case h_7 => exact nsCmd_safety hup v
  case h_10 | h_11 => exact (stOf_whileCd hup).trans (if_pos (by simp))
  all_goals exact (stOf_whileCd hup).trans (if_pos rfl)

theorem regWrite_safety {off : Nat} (hfeed : off ≠ 0x44) (hack : off ≠ 0x20008) (hrst : off ≠ 0x50024)
    (hnext : off ≠ 0x20000) (hport : off ≠ 0x40000) : regWrite s .safety off v = violate s := by
  unfold regWrite
  cases hlow : ownWriteLow s .safety off v with
  | some t => exact ownWriteLow_safety hup v hfeed hnext hack hport hlow
  | none =>
    cases hhigh : ownWriteHigh s .safety off v with
    | some t => exact ownWriteHigh_safety hup v hrst hhigh
    | none => rfl

theorem cfgWrite_safety {off : Nat} (hal : off % 4 = 0) (hfeed : off ≠ 0x44) (hack : off ≠ 0x20008)
    (hrst : off ≠ 0x50024) (hnext : off ≠ 0x20000) (hport : off ≠ 0x40000) :
    cfgWrite s .safety off 4 v = violate s := by
  by_cases hset : off = 0x50088
  · rw [hset, cfgWrite_sealSet, writeSset, if_pos rfl]
  · rw [cfgWrite_register s .safety v hal hset, regWrite_safety hup v hfeed hack hrst hnext hport]

theorem exec_registerWrite_safety {off : Nat} (htop : off < 0x1000000) :
    exec (.registerWrite .safety (0x40000000 + off) 4 v) s = .next (cfgWrite s .safety off 4 v) := by
  rw [exec_registerWrite hup, coreWrite_cfg s .safety 4 v (by omega) (by omega), Nat.add_sub_cancel_left]

end

/-- Settles O52: an aligned write goes to the register's own command or is counted, and the commands count it. -/
theorem safetyIslandWrites : Obligations.SafetyIslandWrites := by
  unfold Obligations.SafetyIslandWrites
  refine ⟨fun s off v hup htop hal hfeed hack hrst hnext hport => ?other, fun s v hup => ?port, fun s v hup => ?next⟩
  case other => rw [exec_registerWrite_safety hup v htop, cfgWrite_safety hup v hal hfeed hack hrst hnext hport]
  case port =>
    rw [exec_registerWrite_safety hup v (off := 0x40000) (by decide), cfgWrite_register s .safety v rfl (by decide)]
    exact congrArg _ (congrArg showShape ((stOf_whileCd hup).trans (if_pos rfl)))
  case next =>
    rw [exec_registerWrite_safety hup v (off := 0x20000) (by decide), cfgWrite_register s .safety v rfl (by decide)]
    exact congrArg _ ((stOf_whileCd hup).trans (if_pos rfl))

/-! ### The seal set -/

theorem exec_sealSetApply {s : State} {v : Word} (hup : cdUp s = true) (hv : fieldIn PAR_SSET_CTL_APPLY v ≠ 0)
    (hidle : s.par.sset = none) : exec (.sealSetApply .p0 v) s = .next (applySet s (s.rd PAR_SSET_ADDR_ADDR)) := by
  change whileCd s (writeSset s .p0 v) = _
  rw [whileCd_of_up hup, writeSset, if_neg (by decide), if_neg hv, hidle, if_neg (by decide)]

theorem applySet_sealed {s : State} (h : isSealed s = true) (a : Nat) :
    applySet s a = setReport (violate s) 10 1 0 := by
  rw [applySet, if_pos h]

theorem applySet_sound {s : State} {a : Nat} (h : isSealed s = false) (hok : setFault (setImage s a) = none) :
    applySet s a = (setRecs (setImage s a)).foldl (setRecord (setImage s a))
      ((setOn (s.put PAR_SSET_CTL_APPLY true) ⟨2, a, setImage s a⟩ 2).wr PAR_SSET_ID_SET_ID
        (leAt (setImage s a) 16 4)) := by
  rw [applySet, if_neg (by simp [h]), hok]

theorem setReport_result (s : State) (result stage off : Nat) :
    (setReport s result stage off).rd PAR_SSET_STATUS_RESULT = result % 16 := by
  rw [setReport, rd_wr_key _ off (by decide), rd_wr_key _ stage (by decide)]
  exact rd_wr_same s PAR_SSET_STATUS_RESULT result (by decide)

theorem setReport_stage (s : State) (result stage off : Nat) :
    (setReport s result stage off).rd PAR_SSET_STATUS_STAGE = stage % 16 := by
  rw [setReport, rd_wr_key _ off (by decide)]
  exact rd_wr_same _ PAR_SSET_STATUS_STAGE stage (by decide)

theorem setReport_violations (s : State) (result stage off : Nat) :
    (setReport s result stage off).rd PAR_SEAL_STATUS_SEAL_VIOL = s.rd PAR_SEAL_STATUS_SEAL_VIOL := by
  rw [setReport, rd_wr_key _ off (by decide), rd_wr_key _ stage (by decide), rd_wr_key _ result (by decide)]

/-- Settles O44: an access goes where its address lies, and a seal set where the seal and its check send it. -/
theorem coreAccesses : Obligations.CoreAccesses := by
  unfold Obligations.CoreAccesses
  refine ⟨fun w addr len v s hup hlo htop hbad => ?malformed, fun w addr v s hup hlo htop hal hset => ?register,
    fun w addr len v s hup hsram _ => ?sramWrite, fun w addr len v s hup hlo htop => ?mirror,
    fun w addr len s hup hlo htop => ?read, fun w addr len s hup hsram _ => ?sramRead,
    fun v s hup hv hseal hidle => ?sealed, fun v a b s hup hv hseal ha hb hok hidle => ?sound⟩
  case malformed => rw [exec_registerWrite hup, coreWrite_cfg s w len v hlo htop, cfgWrite_malformed s w v hbad]
  case register =>
    rw [exec_registerWrite hup, coreWrite_cfg s w 4 v hlo htop, cfgWrite_register s w v (by omega) (by omega)]
  case sramWrite => rw [exec_registerWrite hup, coreWrite_sram s w len v hsram]
  case mirror => rw [exec_registerWrite hup, coreWrite_mirror s w len v hlo htop]
  case read =>
    obtain ⟨off, rfl⟩ := Nat.exists_eq_add_of_le hlo
    rw [exec_rcRegisterRead hup, coreRead_cfg s w len (by omega), Nat.add_sub_cancel_left]
  case sramRead => rw [exec_rcRegisterRead hup, coreRead_sram s w len hsram]
  case sealed =>
    refine ⟨_, exec_sealSetApply hup hv hidle, ?_⟩
    rw [applySet_sealed hseal]
    exact ⟨setReport_result _ 10 1 0, setReport_stage _ 10 1 0,
      (setReport_violations _ 10 1 0).trans (rd_bump_same s PAR_SEAL_STATUS_SEAL_VIOL 1 (by decide)), rfl⟩
  case sound =>
    subst ha hb
    rw [exec_sealSetApply hup hv hidle, applySet_sound hseal hok]

end Sys2Proof.Machine
end

section
/-! SUPPORT.
The queue of waiting tally records, and what a full queue drops (R503, R504).
-/

namespace Sys2Proof.Machine

theorem dropNewest_append_cons {α : Type} {p : α → Bool} {l m : List α} {x : α} (hx : p x = true)
    (hm : ∀ y ∈ m, p y = false) : dropNewest p (l ++ x :: m) = l ++ m := by
  have hpass : ∀ y ∈ m.reverse, (!p y) = true := fun y hy => by simp [hm y (List.mem_reverse.1 hy)]
  have hrev : (l ++ x :: m).reverse = m.reverse ++ x :: l.reverse := by simp
  unfold dropNewest
  dsimp only
  rw [hrev, List.takeWhile_append_of_pos hpass, List.dropWhile_append_of_pos hpass]
  simp [hx]

/-- The record that a cause asks for. -/
def arriving (s : State) (typ : Nat) (pl : List Byte) : TWait := ⟨typ, tallyFlags s, rtc s, padTo 32 pl⟩

/-- The queue that a full one and the arriving record leave (log entry 80). -/
def dropped (q : List TWait) : List TWait :=
  if q.any (fun x => !tallyFault x.typ) then dropNewest (fun x => !tallyFault x.typ) q else dropNewest (fun _ => true) q

/-- The newest record that is no fault record goes. -/
theorem dropped_plain {l m : List TWait} {x : TWait} (hx : tallyFault x.typ = false)
    (hm : ∀ y ∈ m, tallyFault y.typ = true) : dropped (l ++ x :: m) = l ++ m := by
  rw [dropped, if_pos (by simp [hx])]
  exact dropNewest_append_cons (by simp [hx]) fun y hy => by simp [hm y hy]

/-- Among fault records alone the newest goes. -/
theorem dropped_faults {l : List TWait} {x : TWait} (hx : tallyFault x.typ = true)
    (hl : ∀ y ∈ l, tallyFault y.typ = true) : dropped (l ++ [x]) = l := by
  have hall : ¬ (l ++ [x]).any (fun y => !tallyFault y.typ) = true := by
    simp only [List.any_eq_true, List.mem_append, List.mem_singleton, not_exists, not_and]
    rintro y (hy | rfl) <;> simp [*]
  rw [dropped, if_neg hall, dropNewest_append_cons rfl (by simp), List.append_nil]

section
variable {s : State} {typ : Nat} {pl : List Byte}

theorem tally_room (h : s.tly.queue.length < 32) :
    tally s typ pl = { s with tly := { s.tly with queue := s.tly.queue ++ [arriving s typ pl] } } := by
  unfold tally
  dsimp only
  rw [if_pos h]
  rfl

section
variable (h : 32 ≤ s.tly.queue.length)
include h

theorem tally_full : ∃ after : Nat, tally s typ pl = State.bump { s with tly := { s.tly with
    queue := dropped (s.tly.queue ++ [arriving s typ pl]), dropped := satAdd 16 s.tly.dropped 1, dropAfter := after } }
    TLY_CNT0_DROPPED 1 := by
  unfold tally
  dsimp only
  rw [if_neg (by omega)]
  exact ⟨_, rfl⟩

theorem tally_full_queue : (tally s typ pl).tly.queue = dropped (s.tly.queue ++ [arriving s typ pl]) := by
  obtain ⟨after, ht⟩ := tally_full (typ := typ) (pl := pl) h
  rw [ht]
  rfl

theorem tally_full_counts : (tally s typ pl).rd TLY_CNT0_DROPPED = satAdd 16 (s.rd TLY_CNT0_DROPPED) 1 ∧
    (tally s typ pl).tly.dropped = satAdd 16 s.tly.dropped 1 := by
  obtain ⟨after, ht⟩ := tally_full (typ := typ) (pl := pl) h
  rw [ht]
  exact ⟨rd_bump_same _ TLY_CNT0_DROPPED 1 (by decide), rfl⟩

end

end

/-- Settles O55: what a full queue drops is found by splitting it at the record that goes. -/
theorem tallyQueueDrops : Obligations.TallyQueueDrops := by
  unfold Obligations.TallyQueueDrops
  refine ⟨fun s typ pl h => tally_room h, fun s typ pl x l m h hq hx hm => ?plain, fun s typ pl h ht hq => ?faults,
    fun s typ pl h => ?counts⟩
  case plain =>
    rw [tally_full_queue h]
    exact (congrArg dropped hq).trans (dropped_plain hx hm)
  case faults => rw [tally_full_queue h, dropped_faults ht hq]
  case counts =>
    obtain ⟨hcount, hdropped⟩ := tally_full_counts (typ := typ) (pl := pl) h
    exact ⟨hcount, hdropped, tally_rd _ _ _ (by decide) (by decide), tally_tly_ring s typ pl, tally_tly_first s typ pl⟩

end Sys2Proof.Machine
end

section
/-! SUPPORT.
The sense streams: their descriptors, blocks and windows (R303, R304, R306 to R309, R406).
-/

namespace Sys2Proof.Machine

theorem leNat_lt (l : List Byte) : leNat l < 256 ^ l.length := by
  induction l with
  | nil => decide
  | cons x l ih =>
    have hx : x.toNat < 256 := x.isLt
    rw [leNat, List.length_cons, pow_succ']
    omega

theorem leAt_lt (l : List Byte) (i k : Nat) : leAt l i k < 256 ^ k := by
  simpa [leAt] using leNat_lt (slice l i k)

section
variable {s u : State} {h : DHdr} {b : List Byte} {x : Strm}

/-! ### OPEN, CLOSE and READ -/

theorem exec_snsOpen_opens {a : Nat} (hs : Served s SNS 1 h b) (hu : u = begun s SNS 1 h b)
    (hx : x = openBody u h.part.val b) (hclean : bodyDirty b ((List.range 34).map (16 + ·)) = false)
    (hres : leAt b 31 1 = 0) (hflags : leAt b 29 1 < 4) (hbad : openBad u x = false) (howned : openOwned u x = true)
    (ha : translate u h.part.val x.base (2 ^ x.nblk * slotSize x.src x.nsamp) 1 = some a)
    (hhop : x.hop < x.nsamp → x.inf = true) (hcap : x.demand ≤ u.rd SIN_SCHED_CAP_FREE) :
    exec (.snsOpen h b) s = .next (complete (showStreams
      { clearBlks u { x with base := a, epoch := u.rd SPR_DT_STATUS_EPOCH } with sns := { u.sns with
        streams := u.sns.streams ++ [{ x with base := a, epoch := u.rd SPR_DT_STATUS_EPOCH }] } })
      SNS h 1 OK (leBytes 2 x.stream)) := by
  subst hu hx
  change execSnsOpen h b s = _
  rw [execSnsOpen, descr_served hs]
  dsimp only
  rw [if_neg (by simp [hclean, hres, hflags]), if_neg (by simp [hbad]), if_neg (by simp [howned]), ha]
  dsimp only
  rw [if_neg (by simpa using hhop), if_neg (by omega)]

theorem exec_snsClose_closes {samples : List Byte} {back : Nat} {v : State} (hs : Served s SNS 2 h b)
    (hu : u = begun s SNS 2 h b) (hclean : bodyDirty b [16] = false)
    (hx : strmAt u h.part.val (leAt b 16 1) = some x) (hopen : x.closing = none)
    (hv : v = if edgeSrc x.src then completeBlock u x.part (leAt b 16 1) x.buf x.t0
      else completeBlock u x.part (leAt b 16 1) (samples.take (x.nsamp * sampleSize x.src)) (dtNow u - back)) :
    exec (.snsClose h b samples back) s = .next (tryClose
      (setStrm v { (strmAt v x.part (leAt b 16 1)).getD x with closing := some h }) x.part (leAt b 16 1)) := by
  subst hu hv
  change execSnsClose h b samples back s = _
  rw [execSnsClose, descr_served hs]
  dsimp only
  rw [if_neg (by simp [hclean]), hx]
  dsimp only
  rw [if_neg (by simp [hopen])]

/-- A READ of an analog input of the partition's own answers its converted value (R303). -/
theorem exec_snsRead_analog (hs : Served s SNS 4 h b) (hu : u = begun s SNS 4 h b)
    (hclean : bodyDirty b [17, 18, 19] = false) (hsrc : leAt b 17 1 = 4)
    (hbad : srcBad u 4 (leAt b 18 1) (leAt b 19 1) = false)
    (hown : ownerOf u (leAt b 18 1) (leAt b 19 1) = some h.part.val) : exec (.snsRead h b) s =
      .next (complete u SNS h 4 OK (leBytes 4 (u.rd (SIN_ANA_VALUE (leAt b 19 1 - 32))))) := by
  subst hu
  change execSnsRead h b s = _
  rw [execSnsRead, descr_served hs]
  dsimp only
  rw [hsrc, if_neg (by simp [hclean]), if_neg (by simp [hbad]), if_neg (by simp [hown]), if_neg (by decide)]
  rfl

/-! ### RELEASE -/

theorem exec_streamRelease_taken (hs : Served s SNS 3 h b) (hu : u = begun s SNS 3 h b)
    (hclean : bodyDirty b [16, 20, 21, 22, 23] = false) (hx : strmAt u h.part.val (leAt b 16 1) = some x)
    (hbetween : (leAt b 20 4 + 2 ^ 32 - x.cons) % 2 ^ 32 ≤ (x.prod + 2 ^ 32 - x.cons) % 2 ^ 32) :
    exec (.streamRelease h b) s = .next (complete (setStrm u { x with cons := leAt b 20 4 }) SNS h 3 OK []) := by
  subst hu
  change execStreamRelease h b s = _
  rw [execStreamRelease, descr_served hs]
  dsimp only
  rw [if_neg (by simp [hclean]), hx]
  dsimp only
  rw [if_neg (by omega)]

theorem exec_streamRelease_refused (hs : Served s SNS 3 h b) (hu : u = begun s SNS 3 h b)
    (hclean : bodyDirty b [16, 20, 21, 22, 23] = false) (hx : strmAt u h.part.val (leAt b 16 1) = some x)
    (hbeyond : (x.prod + 2 ^ 32 - x.cons) % 2 ^ 32 < (leAt b 20 4 + 2 ^ 32 - x.cons) % 2 ^ 32) :
    exec (.streamRelease h b) s = .next (complete u SNS h 3 BAD_FIELD []) := by
  subst hu
  change execStreamRelease h b s = _
  rw [execStreamRelease, descr_served hs]
  dsimp only
  rw [if_neg (by simp [hclean]), hx]
  dsimp only
  rw [if_pos hbeyond]

end

/-- Settles O58: of counts that have not wrapped, CONS lies between the two exactly when it does modulo 2^32. -/
theorem streamRelease : Obligations.StreamRelease := by
  unfold Obligations.StreamRelease
  refine ⟨fun h b u x s hs hu hclean hx hprod hlo hhi => exec_streamRelease_taken hs hu hclean hx (by omega),
    fun h b u x s hs hu hclean hx hprod hle hout => exec_streamRelease_refused hs hu hclean hx ?_⟩
  have hcons : leAt b 20 4 < 2 ^ 32 := leAt_lt b 20 4
  omega

/-! ### Blocks and windows -/

section
variable {part : Fin 8} {slot : Fin 16} {samples : List Byte} {back : Nat} {x : Strm} {s : State}

theorem exec_blockComplete_edge (hup : cdUp s = true) (hx : strmAt s part.val slot.val = some x)
    (hedge : edgeSrc x.src = true) :
    exec (.blockComplete part slot samples back) s = .next (completeBlock s part.val slot.val x.buf x.t0) := by
  change whileCd s _ = _
  rw [whileCd_of_up hup, hx]
  dsimp only
  rw [if_pos hedge]

theorem exec_blockComplete_periodic (hup : cdUp s = true) (hx : strmAt s part.val slot.val = some x)
    (hedge : edgeSrc x.src = false) (hpinch : x.src ≠ 2) : exec (.blockComplete part slot samples back) s =
      .next (completeBlock s part.val slot.val (samples.take (x.nsamp * sampleSize x.src)) (dtNow s - back)) := by
  change whileCd s _ = _
  rw [whileCd_of_up hup, hx]
  dsimp only
  rw [if_neg (by simp [hedge]), if_neg (by tauto)]

section
variable {w : SWin} (hup : infUp s = true) (hx : strmAt s part.val slot.val = some x)
  (hctx : ctxState s x.ctx = 2) (hw : x.wins.find? (fun w => !w.handed) = some w)
include hup hx hctx hw

/-- A window whose brand does not hold its own check is refused (R406). -/
theorem exec_windowHandoff_unsound {b : Brand} (hb : b = brandOfMem (readBytes s w.addr 24))
    (hbad : brandSound b (leAt (readBytes s w.addr 24) 19 1) []
      (readBytes s (w.addr + 32) (w.count * sampleSize x.src)) = false) :
    exec (.windowHandoff part slot) s = .next (windowRead (bindsAct (brandFault s 1 BAD_CHECK (ownerOr0 s 11 x.ctx)
      b.stream b.seq) (bindsOf s x.ctx) BAD_CHECK b.stream b.seq) part.val slot.val w.blk) := by
  subst hb
  change execWindowHandoff part slot s = _
  unfold execWindowHandoff
  rw [if_pos hup, hx]
  dsimp only
  rw [if_pos hctx, hw]
  dsimp only
  simp only [hbad, Bool.not_false, Bool.true_or, if_true, true_or]

/-- A sound first window of its context's stream, as long as the context's input, becomes a job of it (R406). -/
theorem exec_windowHandoff_taken {r data : List Byte} {u : State} (hr : r = readBytes s w.addr 24)
    (hdata : data = readBytes s (w.addr + 32) (w.count * sampleSize x.src))
    (hsound : brandSound (brandOfMem r) (leAt r 19 1) [] data = true) (hstream : (brandOfMem r).stream = x.stream)
    (hfresh : bit (brandOfMem r).flags 5 = true) (hlen : data.length = imgInLen (ctxAt s x.ctx).img)
    (hu : u = setCtx (setStrm s { x with
      wins := x.wins.map (fun v => if v.blk == w.blk then { v with handed := true } else v) }) x.ctx
      { ctxAt s x.ctx with handed := some (brandOfMem r).seq, handedAt := s.now }) :
    exec (.windowHandoff part slot) s = .next (addJob u ⟨u.inf.nextJob, x.ctx, part.val, none, some (slot.val, w.blk),
      data, r, 1, bit (brandOfMem r).flags 2, 0, w.steps, s.now, newShare (ctxAt s x.ctx).mode 0,
      newShare (ctxAt s x.ctx).mode 1, (ctxAt s x.ctx).seq, none, false, none, none, []⟩) := by
  subst hr hdata hu
  change execWindowHandoff part slot s = _
  unfold execWindowHandoff
  rw [if_pos hup, hx]
  dsimp only
  rw [if_pos hctx, hw]
  dsimp only
  simp only [hsound, hstream, hfresh, hlen, Bool.not_true, bne_self_eq_false, Bool.or_self, Bool.false_eq_true, if_false,
    if_true, ne_eq, not_true_eq_false]
  rfl

end

end

/-- Settles O24: each command's own equation, along the branch that the clause names. -/
theorem streamDescriptors : Obligations.StreamDescriptors := by
  unfold Obligations.StreamDescriptors
  exact ⟨fun h b u x a s hs hu hx hclean hres hflags hbad howned ha hhop hcap =>
      exec_snsOpen_opens hs hu hx hclean hres hflags hbad howned ha hhop hcap,
    fun h b samples back u v x s hs hu hclean hx hopen hv => exec_snsClose_closes hs hu hclean hx hopen hv,
    fun h b u s hs hu hclean hsrc hbad hown => exec_snsRead_analog hs hu hclean hsrc hbad hown,
    fun part slot samples back x s hup hx hedge => exec_blockComplete_edge hup hx hedge,
    fun part slot samples back x s hup hx hedge hpinch => exec_blockComplete_periodic hup hx hedge hpinch,
    fun part slot x w b s hup hx hctx hw hb hbad => exec_windowHandoff_unsound hup hx hctx hw hb hbad,
    fun part slot x w r data u s hup hx hctx hw hr hdata hsound hstream hfresh hlen hu =>
      exec_windowHandoff_taken hup hx hctx hw hr hdata hsound hstream hfresh hlen hu,
    fun h b u x s hs hu hclean hx hbetween => exec_streamRelease_taken hs hu hclean hx hbetween,
    fun h b u x s hs hu hclean hx hbeyond => exec_streamRelease_refused hs hu hclean hx hbeyond⟩

end Sys2Proof.Machine
end

section
/-! SUPPORT.
The scaler: its steps and restarts, the end of a storm, and the windows of losses (R312, R313, R320, R324, R325, R526).
-/

namespace Sys2Proof.Machine

/-! ### Steps -/

/-- A step that an injection skips keeps the feeds alone, and the injection is done (R526). -/
def stepSkipped (s : State) (x : ScalerIn) : State :=
  { ((keepFeeds s x).wr EVT_INJ_STATUS_PENDING 0).bump EVT_INJ_STATUS_DONE 1 with
    flt := { s.flt with skip := false, inj := none } }

section
variable {s : State} {x : ScalerIn}

theorem exec_scalerStep_taken {u : State} (hps : s.pwr.ps ≠ .off) (hskip : s.flt.skip = false)
    (hu : u = (List.range 8).foldl (budgetStep x)
      (allChans.foldl (wireStep x) (x.chans.foldl showMeas (keepFeeds s x)))) :
    exec (.scalerStep x) s = .next (allChans.foldl showCh ((List.range 8).foldl learnStep (pkgStep u x))) := by
  change execScalerStep x s = _
  rw [hu, execScalerStep, if_neg hps, if_neg (by simp [hskip])]

theorem exec_scalerStep_skipped (hps : s.pwr.ps ≠ .off) (hskip : s.flt.skip = true) :
    exec (.scalerStep x) s = .next (stepSkipped s x) := by
  change execScalerStep x s = _
  rw [execScalerStep, if_neg hps, if_pos hskip]
  rfl

theorem stepSkipped_pending : (stepSkipped s x).rd EVT_INJ_STATUS_PENDING = 0 := by
  have hflt : (stepSkipped s x).rd EVT_INJ_STATUS_PENDING =
      (((keepFeeds s x).wr EVT_INJ_STATUS_PENDING 0).bump EVT_INJ_STATUS_DONE 1).rd EVT_INJ_STATUS_PENDING := rfl
  rw [hflt, rd_bump_key _ 1 (by decide), rd_wr_same _ EVT_INJ_STATUS_PENDING 0 (by decide), Nat.zero_mod]

end

/-! ### Restarts -/

/-- The restarts of the last second, the present one among them (R313). -/
def restartsNow (s : State) : List Nat := (s.now :: s.scl.restarts).filter (fun t => s.now - t < 32768)

/-- A restart has been noted and counted. -/
def restartNoted (s : State) : State :=
  State.bump { s with scl := { s.scl with restarts := restartsNow s } } SCL_CNT_SCL_RESTARTS 1

/-- A restart has been noted, counted, reported and recorded. -/
def restartTold (s : State) (cause : Nat) : State :=
  let pay := [byte cause, byte (min 255 (restartsNow s).length)]
  tally (raise (restartNoted s) 87 true [0] pay) 16 pay

section
variable {s : State} {cause : Fin 4}

theorem exec_scalerRestart_held (hps : s.pwr.ps ≠ .off) (hfew : (restartsNow s).length < 3) :
    exec (.scalerRestart cause) s = .next (restartTold s cause.val) := by
  change execScalerRestart cause s = _
  unfold execScalerRestart
  dsimp only
  rw [if_neg hps, ← restartsNow, if_neg (by omega)]
  rfl

theorem exec_scalerRestart_pinned (hps : s.pwr.ps ≠ .off) (hmany : 3 ≤ (restartsNow s).length) :
    exec (.scalerRestart cause) s = .next (pinFloors (restartTold s cause.val)) := by
  change execScalerRestart cause s = _
  unfold execScalerRestart
  dsimp only
  rw [if_neg hps, ← restartsNow, if_pos hmany]
  rfl

end

theorem restartTold_scl (s : State) (cause : Nat) : (restartTold s cause).scl.restarts = restartsNow s ∧
    (restartTold s cause).chs = s.chs := by
  simp [restartTold, restartNoted]

theorem restartTold_rd (s : State) (cause : Nat) {f : Field} (hf : f.lsb < 64)
    (hoff : clearOf [Reg.PAR_EVT_CNT, Reg.SW_CNT_VAL, Reg.SW_MSEC_STAT, Reg.TLY_CNT0] f.off = true)
    (htly : clearOf [Reg.TLY_CNT0] f.off = true) : (restartTold s cause).rd f = (restartNoted s).rd f := by
  unfold restartTold
  dsimp only
  rw [tally_rd _ _ _ hf htly, raise_rd _ _ _ _ _ hf hoff]

theorem restartTold_count (s : State) (cause : Nat) :
    (restartTold s cause).rd SCL_CNT_SCL_RESTARTS = satAdd 8 (s.rd SCL_CNT_SCL_RESTARTS) 1 :=
  (restartTold_rd s cause (by decide) (by decide) (by decide)).trans (rd_bump_same _ SCL_CNT_SCL_RESTARTS 1 (by decide))

theorem foldl_showCh_keeps (s : State) :
    Keeps [Reg.HS_STATE, Reg.HB_STATE, Reg.SV_STATE, Reg.LED_STATE, Reg.FIO_CAUSE] [] s (allChans.foldl showCh s) :=
  Keeps.foldl showCh_keeps allChans (Keeps.refl s)

theorem foldl_showCh_scl (s : State) : (allChans.foldl showCh s).scl = s.scl :=
  scl_ext ((foldl_showCh_keeps s).plain .scl (by decide) rfl) ((foldl_showCh_keeps s).plain .loss (by decide) rfl)

/-- Every budget ceiling is held at its floor. -/
def floorsHeld (s : State) : State :=
  let u := allChans.foldl (setCeil (fun c t => min (chn t c).budCeil (budFloor t c))) s
  { u with scl := { u.scl with pinned := true } }

theorem pinFloors_eq (s : State) : pinFloors s =
    allChans.foldl showCh ((floorsHeld s).wr SCL_STATUS_PKG_FACTOR (s.rd SCL_PKG_PKG_FLOOR)) := by
  rw [pinFloors, floorsHeld]

theorem pinFloors_pinned (s : State) : (pinFloors s).scl.pinned = true := by
  rw [pinFloors_eq, foldl_showCh_scl]
  rfl

/-- Pinned, the scaler shows PKG_FLOOR as the package factor. -/
theorem pinFloors_factor (s : State) : (pinFloors s).rd SCL_STATUS_PKG_FACTOR = s.rd SCL_PKG_PKG_FLOOR % 256 := by
  rw [pinFloors_eq, (foldl_showCh_keeps _).rdOf (by decide) (by decide) (by decide)]
  exact rd_wr_same (floorsHeld s) SCL_STATUS_PKG_FACTOR (s.rd SCL_PKG_PKG_FLOOR) (by decide)

/-! ### The end of a storm -/

theorem exec_stormEnd {s : State} (hstorm : s.flag SCL_STATUS_STORM = true)
    (hl : lasted s s.scl.stormAt (1000000 * s.rd SCL_RETRY_STORM_HOLD) = true) : exec .stormEnd s =
      .next (raise ((allChans.foldl resumeWait s).put SCL_STATUS_STORM false) 86 false [0] [3]) := by
  change execStormEnd s = _
  rw [execStormEnd, if_pos (by simp [hstorm, hl])]

/-! ### Loss windows -/

/-- The losses of the running window, summed. -/
def windowLoss (s : State) : Nat := ((List.range 4).map (fun i => tabGet 0 s.scl.loss i)).sum

/-- A window has ended: its losses are shown, and the next one begins without any (R324). -/
def windowShown (s : State) : State :=
  State.wr { s with scl := { s.scl with loss := [], lossParts := [] } } SCL_OVL_CNT_WIN_LOSS (min 65535 (windowLoss s))

/-- A window without loss ends OVL (R325). -/
def overloadEnded (s : State) : State :=
  { (windowShown s).put SCL_STATUS_OVL false with scl := { (windowShown s).scl with clean := 0, ovlParts := [] } }

/-- A window with loss ends the count of windows without. -/
def windowLost (s : State) : State := { windowShown s with scl := { (windowShown s).scl with clean := 0 } }

/-- A window with loss enters OVL (R325). -/
def overloadBegun (s : State) : State :=
  { ((windowLost s).put SCL_STATUS_OVL true).bump SCL_OVL_CNT_OVL_EPISODES 1 with
    scl := { (windowLost s).scl with ovlParts := s.scl.lossParts } }

/-- A further window without loss while OVL stands. -/
def windowClean (s : State) : State :=
  { windowShown s with scl := { (windowShown s).scl with clean := s.scl.clean + 1 } }

/-- A field depends on the register file alone. -/
theorem rd_of_regs {s t : State} (h : t.regs = s.regs) (f : Field) : t.rd f = s.rd f := by
  rw [State.rd, State.rd, h]

theorem flag_of_regs {s t : State} (h : t.regs = s.regs) (f : Field) : t.flag f = s.flag f := by
  rw [State.flag, State.flag, rd_of_regs h]

theorem overloadEnded_regs (s : State) :
    (overloadEnded s).regs = ((windowShown s).put SCL_STATUS_OVL false).regs := rfl

theorem overloadBegun_regs (s : State) : (overloadBegun s).regs =
    (((windowLost s).put SCL_STATUS_OVL true).bump SCL_OVL_CNT_OVL_EPISODES 1).regs := by
  simp only [overloadBegun]

theorem windowLost_regs (s : State) : (windowLost s).regs = (windowShown s).regs := rfl

theorem windowClean_regs (s : State) : (windowClean s).regs = (windowShown s).regs := rfl

theorem windowShown_regs (s : State) :
    (windowShown s).regs = (s.wr SCL_OVL_CNT_WIN_LOSS (min 65535 (windowLoss s))).regs := rfl

section
variable {s : State} (hup : cdUp s = true)
include hup

theorem exec_lossWindowEnd_cleared (hnone : windowLoss s = 0) (hovl : s.flag SCL_STATUS_OVL = true)
    (hclear : s.rd SCL_OVL_OVL_CLEAR ≤ s.scl.clean + 1) :
    exec .lossWindowEnd s = .next (raise (overloadEnded s) 84 false (0 :: s.scl.ovlParts.filter (· != 0))
      (ovlPayload 0 ((List.range 4).map (fun i => tabGet 0 s.scl.loss i)) (partMask s.scl.ovlParts))) := by
  change whileCd s _ = _
  rw [whileCd_of_up hup]
  dsimp only
  rw [← windowLoss, if_neg (by simp [hnone]), if_pos hovl, if_pos hclear]
  rfl

theorem exec_lossWindowEnd_clean (hnone : windowLoss s = 0) (hovl : s.flag SCL_STATUS_OVL = true)
    (hclear : s.scl.clean + 1 < s.rd SCL_OVL_OVL_CLEAR) : exec .lossWindowEnd s = .next (windowClean s) := by
  change whileCd s _ = _
  rw [whileCd_of_up hup]
  dsimp only
  rw [← windowLoss, if_neg (by simp [hnone]), if_pos hovl, if_neg (by omega)]
  rfl

theorem exec_lossWindowEnd_enters (hloss : windowLoss s ≠ 0) (hovl : s.flag SCL_STATUS_OVL = false) :
    exec .lossWindowEnd s = .next (raise (overloadBegun s) 84 false (0 :: s.scl.lossParts.filter (· != 0))
      (ovlPayload 1 ((List.range 4).map (fun i => tabGet 0 s.scl.loss i)) (partMask s.scl.lossParts))) := by
  change whileCd s _ = _
  rw [whileCd_of_up hup]
  dsimp only
  rw [← windowLoss, if_pos hloss, if_neg (by simp [hovl])]
  rfl

end

theorem raise_flag (s : State) (src : Nat) (clsS : Bool) (rcpt : List Nat) (payload : List Byte) {f : Field}
    (hf : f.lsb < 64) (hc : clearOf [Reg.PAR_EVT_CNT, Reg.SW_CNT_VAL, Reg.SW_MSEC_STAT, Reg.TLY_CNT0] f.off = true) :
    (raise s src clsS rcpt payload).flag f = s.flag f :=
  (raise_keeps s src clsS rcpt payload).flagOf (by decide) hf hc

/-- Settles O25: each command's own equation; where the state is given by its frame, the frame is the command's law, and
what it holds outlives the event that the command ends with. -/
theorem scalerSteps : Obligations.ScalerSteps := by
  unfold Obligations.ScalerSteps
  refine ⟨fun x u s hps hskip hu => exec_scalerStep_taken hps hskip hu, fun x s hps hskip => ?skipped,
    fun cause s hps hfew => ?held, fun cause s hps hmany => ?pinned, fun s hstorm hl => ?storm,
    fun s hup hnone hovl hclear => ?cleared, fun s hup hnone hovl hclear => ?clean, fun s hup hloss hovl => ?enters⟩
  case skipped =>
    exact ((execScalerStep_keeps x s).mono (by decide) (by decide)).runs (exec_scalerStep_skipped hps hskip)
      (by decide) (by decide) (by decide)
      ⟨rfl, rfl, stepSkipped_pending, rfl⟩
  case held =>
    obtain ⟨hrestarts, hchs⟩ := restartTold_scl s cause.val
    exact (execScalerRestart_keeps cause s).runs (exec_scalerRestart_held hps hfew) (by decide) (by decide) (by decide)
      ⟨restartTold_count s cause.val, hrestarts, hchs⟩
  case pinned =>
    refine (execScalerRestart_keeps cause s).runs (exec_scalerRestart_pinned hps hmany) (by decide) (by decide)
      (by decide) ⟨pinFloors_pinned _, (pinFloors_factor _).trans ?_⟩
    rw [restartTold_rd s cause.val (by decide) (by decide) (by decide), restartNoted, rd_bump_key _ 1 (by decide)]
    rfl
  case storm =>
    refine (execStormEnd_keeps s).runs (exec_stormEnd hstorm hl) (by decide) (by decide) (by decide) ?_
    exact (raise_flag _ _ _ _ _ (by decide) (by decide)).trans
      (flag_put_same _ SCL_STATUS_STORM false (by decide) (by decide))
  case cleared =>
    refine (execLossWindowEnd_keeps s).runs (exec_lossWindowEnd_cleared hup hnone hovl hclear)
      (by decide) (by decide) (by decide) ⟨?_, ?_⟩
    · rw [raise_flag _ _ _ _ _ (by decide) (by decide), flag_of_regs (overloadEnded_regs s)]
      exact flag_put_same (windowShown s) SCL_STATUS_OVL false (by decide) (by decide)
    · rw [raise_scl_clean]
      rfl
  case clean =>
    refine (execLossWindowEnd_keeps s).runs (exec_lossWindowEnd_clean hup hnone hovl hclear) (by decide) (by decide)
      (by decide) ⟨?_, rfl, ?_⟩
    · rw [flag_of_regs (windowClean_regs s), flag_of_regs (windowShown_regs s), ← hovl, State.flag, State.flag,
        rd_wr_key s _ (by decide)]
    · rw [rd_of_regs (windowClean_regs s), rd_of_regs (windowShown_regs s),
        rd_wr_same s SCL_OVL_CNT_WIN_LOSS _ (by decide), windowLoss, hnone]
      rfl
  case enters =>
    refine (execLossWindowEnd_keeps s).runs (exec_lossWindowEnd_enters hup hloss hovl) (by decide) (by decide)
      (by decide) ⟨?_, ?_, ?_⟩
    · rw [raise_flag _ _ _ _ _ (by decide) (by decide), flag_of_regs (overloadBegun_regs s), State.flag,
        rd_bump_key _ 1 (by decide)]
      exact flag_put_same (windowLost s) SCL_STATUS_OVL true (by decide) (by decide)
    · rw [raise_scl_clean]
      rfl
    · rw [raise_rd _ _ _ _ _ (by decide) (by decide), rd_of_regs (overloadBegun_regs s),
        rd_bump_same _ SCL_OVL_CNT_OVL_EPISODES 1 (by decide), rd_put_key _ _ (by decide),
        rd_of_regs (windowLost_regs s), rd_of_regs (windowShown_regs s), rd_wr_key s _ (by decide)]
      rfl

end Sys2Proof.Machine
end

section
/-! SUPPORT.
The NET descriptors, receive buffers and the commands of the forwarding table (R336 to R338, R345, R388).
-/

namespace Sys2Proof.Machine

/-! ### Descriptors -/

section
variable {s u : State} {h : DHdr} {b : List Byte}

/-- A frame with a VID of its own, given over by P0 or by a partition that may, is queued where the route says. -/
theorem exec_netTx_queued {v : State} {frame : List Byte} {r : State × Option Plan} {k : Plan} {w : TxWait}
    (hs : Served s NET 1 h b) (hu : u = begun s NET 1 h b) (hclean : bodyDirty b ((List.range 14).map (16 + ·)) = false)
    (hvid : leAt b 26 2 < 4096) (hpcp : leAt b 28 1 < 8) (hring : h.ring.val < 2) (hmin : 60 ≤ leAt b 24 2)
    (hmax : leAt b 24 2 + 4 ≤ u.rd SW_CFG_MAX_FRAME) (hvid0 : leAt b 26 2 ≠ 0) (hvidTop : leAt b 26 2 ≠ 4095)
    (hep : leAt b 29 1 = 255) (hown : vidOwner u (leAt b 26 2) = some h.part.val)
    (hdata : ∀ f, withData u NET h 1 (leAt b 16 8) (leAt b 24 2) f = f v frame)
    (hmay : h.part.val = 0 ∨ (beAt frame 12 2 ≠ v.rd CHN_ZCFG_ETYPE ∧ dstOf frame / 16 ≠ 0x0180C200000))
    (hr : r = route (swCount (swCount v 0 6 0 1) 1 6 0 (leAt b 24 2 + 8)) 6
      (addTag frame (leAt b 28 1 * 8192 + leAt b 26 2)) 0)
    (hk : r.2 = some k)
    (hw : w =
      { hdr := h, frame := k.frame, vid := k.vid, tci := k.tci, cls := k.cls, left := k.dests, since := v.now }) :
    exec (.netTx h b) s = .next (pushTx { r.1 with sw := { r.1.sw with tx := r.1.sw.tx ++ [w] } } w) := by
  subst hu hw
  change execNetTx h b s = _
  rw [execNetTx, descr_served hs]
  dsimp only
  rw [if_neg (by simp [hclean, hvid, hpcp]), if_neg (by simp [hep]; omega), if_neg (by simp [hown]), hdata]
  rw [if_neg (by simp only [hep]; tauto), if_pos hep, ← hr, hk]

theorem exec_rxBuf_net {a : Nat} (hs : Served s NET 2 h b) (hu : u = begun s NET 2 h b)
    (hclean : bodyDirty b ((List.range 10).map (16 + ·)) = false) (hring : 2 ≤ h.ring.val) (hmin : 64 ≤ leAt b 24 2)
    (hmax : leAt b 24 2 ≤ 2048) (ha : translate u h.part.val (leAt b 16 8) (leAt b 24 2) 1 = some a) :
    exec (.rxBuf false h b) s = .next { u with sw := { u.sw with rx := u.sw.rx ++ [⟨h, a, leAt b 24 2⟩] } } := by
  subst hu
  change execRxBuf false h b s = _
  unfold execRxBuf
  simp only [Bool.false_eq_true, if_false]
  rw [descr_served hs, if_neg (by simp [hclean]), if_neg (by omega), ha]

theorem exec_rxBuf_bus {a : Nat} (hs : Served s BUS 3 h b) (hu : u = begun s BUS 3 h b)
    (hclean : bodyDirty b ((List.range 10).map (16 + ·)) = false) (hring : 2 ≤ h.ring.val) (hmin : 64 ≤ leAt b 24 2)
    (hmax : leAt b 24 2 ≤ 4096) (ha : translate u h.part.val (leAt b 16 8) (leAt b 24 2) 1 = some a) :
    exec (.rxBuf true h b) s = .next { u with sub := { u.sub with rx := u.sub.rx ++ [⟨h, a, leAt b 24 2⟩] } } := by
  subst hu
  change execRxBuf true h b s = _
  unfold execRxBuf
  simp only [if_true]
  rw [descr_served hs, if_neg (by simp [hclean]), if_neg (by omega), ha]

theorem exec_flushTable_flushes {v : State} (hs : Served s NET 3 h b) (hu : u = begun s NET 3 h b)
    (hclean : bodyDirty b [16, 18, 19] = false) (hp0 : h.part.val = 0) (hring : h.ring.val < 2)
    (hport : leAt b 16 1 < 8 ∨ leAt b 16 1 = 255) (hvid : leAt b 18 2 < 4096 ∨ leAt b 18 2 = 65535)
    (hv : v = flushDynamic u (fun e => (leAt b 16 1 == 0xFF || e.port == leAt b 16 1) &&
      (leAt b 18 2 == 0xFFFF || e.vid == leAt b 18 2))) :
    exec (.flushTable h b) s =
      .next (complete v NET h 3 OK (leBytes 2 (u.sw.table.length - v.sw.table.length))) := by
  subst hu hv
  change execFlushTable h b s = _
  rw [execFlushTable, descr_served hs]
  dsimp only
  rw [if_neg (by omega), if_neg (by simp [hclean]), if_neg (by omega)]

end

theorem exec_txTimeout_due {s : State} {w : TxWait} {rest : List TxWait} (hup : cdUp s = true)
    (htx : s.sw.tx = w :: rest) (hl : lasted s w.since (1000 * s.rd SW_TX_TX_TMO) = true) :
    exec .txTimeout s = .next (endTx s w TX_TIMEOUT) := by
  change whileCd s _ = _
  rw [whileCd_of_up hup, htx]
  dsimp only
  rw [if_pos hl]

/-! ### The table commands -/

/-- The data registers show an entry (R345). -/
def entryShown (s : State) (x : TblEnt) (valid : Bool) : State :=
  (((((((s.wr SW_TBL_DATA0_MAC_LO (x.mac % 2 ^ 32)).wr SW_TBL_DATA1_MAC_HI (x.mac / 2 ^ 32)).wr SW_TBL_DATA1_VID x.vid).wr
    SW_TBL_DATA2_PORT x.port).wr SW_TBL_DATA2_AGE x.age).put SW_TBL_DATA2_VALID valid).put SW_TBL_DATA2_STATIC
    x.static).put SW_TBL_DATA2_MCAST x.mcast

theorem entryShown_address (s : State) (x : TblEnt) (valid : Bool) :
    (entryShown s x valid).rd SW_TBL_DATA0_MAC_LO = x.mac % 2 ^ 32 ∧
    (entryShown s x valid).rd SW_TBL_DATA1_VID = x.vid % 4096 ∧
    (entryShown s x valid).rd SW_TBL_DATA2_PORT = x.port % 256 := by
  unfold entryShown
  refine ⟨?_, ?_, ?_⟩ <;> simp (disch := decide) only [rd_put_key, rd_wr_key]
  · rw [rd_wr_same s SW_TBL_DATA0_MAC_LO _ (by decide)]
    exact Nat.mod_mod _ _
  · exact rd_wr_same _ SW_TBL_DATA1_VID x.vid (by decide)
  · exact rd_wr_same _ SW_TBL_DATA2_PORT x.port (by decide)

theorem entryShown_flags (s : State) (x : TblEnt) (valid : Bool) :
    (entryShown s x valid).flag SW_TBL_DATA2_VALID = valid ∧
    (entryShown s x valid).flag SW_TBL_DATA2_STATIC = x.static ∧
    (entryShown s x valid).flag SW_TBL_DATA2_MCAST = x.mcast := by
  unfold entryShown
  refine ⟨?_, ?_, ?_⟩ <;> simp (disch := decide) only [flag_put_key, flag_put_same]

section
variable {s : State} (hup : cdUp s = true)
include hup

theorem exec_tblRead {x : Option TblEnt} (hx : tabFind s.sw.table (s.rd SW_TBL_IDX_INDEX) = x) : exec (.tblRead .p0) s =
    .next (entryShown (tblRuns s) (x.getD ⟨0, 0, 0, 0, false, false, []⟩) x.isSome) := by
  subst hx
  have hindex : (tblRuns s).rd SW_TBL_IDX_INDEX = s.rd SW_TBL_IDX_INDEX := rd_put_key s true (by decide)
  change whileCd s _ = _
  rw [whileCd_of_up hup, if_neg (by decide), ← hindex]
  rfl

theorem exec_tblWrite_static (hopen : s.flag PAR_SEAL_STATUS_SEALED = false)
    (hstatic : s.flag SW_TBL_DATA2_STATIC = true) (hvalid : s.flag SW_TBL_DATA2_VALID = true)
    (hroom : (s.sw.table.filter (fun e => e.2.static)).length < 512) : exec (.tblWrite .p0) s =
      .next (setEnt (s.put SW_STATUS_TBL_BUSY true) (s.rd SW_TBL_IDX_INDEX) (some ⟨s.rd SW_TBL_DATA1_MAC_HI * 2 ^ 32 +
        s.rd SW_TBL_DATA0_MAC_LO, s.rd SW_TBL_DATA1_VID, s.rd SW_TBL_DATA2_PORT, s.rd SW_TBL_DATA2_AGE, true,
        s.flag SW_TBL_DATA2_MCAST, []⟩)) := by
  change whileCd s _ = _
  rw [whileCd_of_up hup, if_neg (by decide), tblWrite, if_neg (by simp [isSealed, hopen, hstatic]),
    if_neg (by simp [hvalid]), if_neg (by omega)]
  rfl

theorem exec_tblWrite_sealed (hseal : s.flag PAR_SEAL_STATUS_SEALED = true) :
    exec (.tblWrite .p0) s = .next (violate s) := by
  change whileCd s _ = _
  rw [whileCd_of_up hup, if_neg (by decide), tblWrite, if_pos (.inl hseal)]

theorem exec_tblClear_open (hopen : s.flag PAR_SEAL_STATUS_SEALED = false) : exec (.tblClear .p0) s =
    .next (setEnt (s.put SW_STATUS_TBL_BUSY true) (s.rd SW_TBL_IDX_INDEX) none) := by
  change whileCd s _ = _
  rw [whileCd_of_up hup, if_neg (by decide), tblClear, if_neg (by simp [isSealed, hopen])]
  rfl

end

/-- Settles O30: each command's own equation; an entry read is shown in the data registers, and a sealed unit's write
counts alone. -/
theorem switchDescriptors : Obligations.SwitchDescriptors := by
  unfold Obligations.SwitchDescriptors
  refine ⟨fun h b u v frame r k w s hs hu hclean hvid hpcp hring hmin hmax hvid0 hvidTop hep hown hdata hmay hr hk hw =>
      exec_netTx_queued hs hu hclean hvid hpcp hring hmin hmax hvid0 hvidTop hep hown hdata hmay hr hk hw,
    fun w rest s hup htx hl => exec_txTimeout_due hup htx hl,
    fun h b u a s hs hu hclean hring hmin hmax ha => exec_rxBuf_net hs hu hclean hring hmin hmax ha,
    fun h b u a s hs hu hclean hring hmin hmax ha => exec_rxBuf_bus hs hu hclean hring hmin hmax ha,
    fun h b u v s hs hu hclean hp0 hring hport hvid hv => exec_flushTable_flushes hs hu hclean hp0 hring hport hvid hv,
    fun e s hup he => ?entry, fun s hup hnone => ?empty,
    fun s hup hopen hstatic hvalid hroom => exec_tblWrite_static hup hopen hstatic hvalid hroom,
    fun s hup hseal => ?sealed, fun s hup hopen => exec_tblClear_open hup hopen⟩
  case entry =>
    obtain ⟨hmac, hvid, hport⟩ := entryShown_address (tblRuns s) e true
    obtain ⟨hvalid, hstatic, hmcast⟩ := entryShown_flags (tblRuns s) e true
    exact (execTblRead_keeps .p0 s).runs (exec_tblRead hup he) (by decide) (by decide) (by decide)
      ⟨hmac, hvid, hport, hvalid, hstatic, hmcast⟩
  case empty =>
    obtain ⟨hmac, hvid, -⟩ := entryShown_address (tblRuns s) ⟨0, 0, 0, 0, false, false, []⟩ false
    obtain ⟨hvalid, hstatic, -⟩ := entryShown_flags (tblRuns s) ⟨0, 0, 0, 0, false, false, []⟩ false
    exact (execTblRead_keeps .p0 s).runs (exec_tblRead hup hnone) (by decide) (by decide) (by decide)
      ⟨hmac, hvid, hvalid, hstatic⟩
  case sealed =>
    exact (execTblWrite_keeps .p0 s).runs (exec_tblWrite_sealed hup hseal) (by decide) (by decide) (by decide)
      ⟨rfl, rd_bump_same s PAR_SEAL_STATUS_SEAL_VIOL 1 (by decide)⟩

end Sys2Proof.Machine
end

section
/-! SUPPORT.
The vault's descriptors with good fields, keys and ranges: ciphers and signatures (R484), keys (R477) and MACsec
associations (R368, R485).
-/

namespace Sys2Proof.Machine

/-! ### What opens every SEC opcode -/

/-- A served descriptor that its issuer may give, with no reserved byte set, does its work. -/
theorem sec_served {s : State} {op : Nat} {p0 remote : Bool} {listed : List Nat} {h : DHdr} {b : List Byte}
    (hs : Served s SEC op h b) (hp0 : p0 = true → h.part = 0)
    (hhome : remote = true ∨ homeOf (begun s SEC op h b) h.part.val ≠ 2) (hclean : bodyDirty b listed = false)
    (f : State → State) : sec op p0 remote listed h b s f = .next (f (begun s SEC op h b)) := by
  rw [sec, descr_served hs, if_neg, if_neg, if_neg]
  · rw [hclean]; decide
  · rcases hhome with hr | hn
    · simp [hr]
    · simp [hn]
  · cases p0 with
    | false => simp
    | true => simp [hp0 rfl]

theorem withOut_at {s : State} {h : DHdr} {op addr len a : Nat} (ha : translate s h.part.val addr len 1 = some a)
    (f : State → Nat → State) : withOut s h op addr len f = f s a := by
  rw [withOut, ha]

section
variable {s u v w x y : State} {h : DHdr} {b : List Byte} {a : Nat}

/-! ### Ciphers, hashes and signatures -/

theorem exec_aesGcm_seals {src iva : List Byte} (hs : Served s SEC 2 h b) (hu : u = begun s SEC 2 h b)
    (hhome : homeOf u h.part.val ≠ 2)
    (hclean : bodyDirty b ([16, 17, 18, 19, 20, 21, 22, 23] ++ addrs 3) = false) (hdir : leAt b 16 1 = 0)
    (haad : leAt b 18 2 ≤ 1024) (hlen : leAt b 20 4 ≤ 65536) (hkey : keyAllowed u h.part.val (leAt b 17 1) = true)
    (hsrc : ∀ f, withIn u h 2 (leAt b 24 8) (leAt b 20 4) f = f v src)
    (hdst : translate v h.part.val (leAt b 32 8) (leAt b 20 4 + 16) 1 = some a)
    (hiva : ∀ f, withIn v h 2 (leAt b 40 8) (12 + leAt b 18 2) f = f w iva) :
    exec (.secAesGcm h b) s = .next (secOut w h 2 a (padTo (leAt b 20 4 + 16)
      (Config.gcmSeal (keyAt w (leAt b 17 1)) (iva.take 12) (iva.drop 12) src))) := by
  subst hu
  change execSecAesGcm h b s = _
  rw [execSecAesGcm, sec_served hs (by nofun) (.inr hhome) hclean]
  simp only [hdir, Nat.mul_zero, Nat.add_zero, Nat.sub_zero, Nat.mul_one]
  rw [if_neg (by omega), if_neg (by simp [hkey]), hsrc, if_neg (by simp), withOut_at hdst, hiva, if_pos trivial]

theorem exec_aesGcm_opens {src iva : List Byte} (hs : Served s SEC 2 h b) (hu : u = begun s SEC 2 h b)
    (hhome : homeOf u h.part.val ≠ 2)
    (hclean : bodyDirty b ([16, 17, 18, 19, 20, 21, 22, 23] ++ addrs 3) = false) (hdir : leAt b 16 1 = 1)
    (haad : leAt b 18 2 ≤ 1024) (hsome : 1 ≤ leAt b 20 4) (hlen : leAt b 20 4 ≤ 65536)
    (hkey : keyAllowed u h.part.val (leAt b 17 1) = true)
    (hsrc : ∀ f, withIn u h 2 (leAt b 24 8) (leAt b 20 4 + 16) f = f v src)
    (hdst : translate v h.part.val (leAt b 32 8) (leAt b 20 4) 1 = some a)
    (hiva : ∀ f, withIn v h 2 (leAt b 40 8) (12 + leAt b 18 2) f = f w iva) :
    exec (.secAesGcm h b) s =
      .next (match Config.gcmOpen (keyAt w (leAt b 17 1)) (iva.take 12) (iva.drop 12) src with
        | some d => secOut w h 2 a (padTo (leAt b 20 4) d)
        | none => secEnd w h 2 VERIFY_FAIL) := by
  subst hu
  change execSecAesGcm h b s = _
  rw [execSecAesGcm, sec_served hs (by nofun) (.inr hhome) hclean]
  simp only [hdir, Nat.mul_one, Nat.sub_self, Nat.mul_zero, Nat.add_zero]
  rw [if_neg (by omega), if_neg (by simp [hkey]), hsrc, if_neg (by omega), withOut_at hdst, hiva,
    if_neg (by decide)] <;> rfl

theorem exec_sha256_answers {src : List Byte} (hs : Served s SEC 3 h b) (hu : u = begun s SEC 3 h b)
    (hclean : bodyDirty b ([20, 21, 22, 23] ++ addrs 2) = false) (hlen : leAt b 20 4 ≤ 16777216)
    (hsrc : ∀ f, withIn u h 3 (leAt b 24 8) (leAt b 20 4) f = f v src)
    (hdst : translate v h.part.val (leAt b 32 8) 32 1 = some a) :
    exec (.secSha256 h b) s = .next (secOut v h 3 a (sha src)) := by
  subst hu
  change execSecSha256 h b s = _
  rw [execSecSha256, sec_served hs (by nofun) (.inl rfl) hclean]
  dsimp only
  rw [if_neg (by omega), hsrc, withOut_at hdst]

theorem exec_hkdf_derives {d : List Byte} (hs : Served s SEC 4 h b) (hu : u = begun s SEC 4 h b)
    (hhome : homeOf u h.part.val ≠ 2) (hclean : bodyDirty b ([16, 17, 18, 19, 20, 21] ++ addrs 1) = false)
    (hdst : 16 ≤ leAt b 17 1) (hdst' : leAt b 17 1 ≤ 31) (holen : leAt b 18 1 = 16 ∨ leAt b 18 1 = 32)
    (hsalt : leAt b 19 1 ≤ 64) (hinfo : leAt b 20 2 ≤ 255) (hkey : keyAllowed u h.part.val (leAt b 16 1) = true)
    (hmay : mayWrite u h.part.val (leAt b 17 1) = true)
    (hsrc : ∀ f, withIn u h 4 (leAt b 24 8) (leAt b 19 1 + leAt b 20 2) f = f v d) :
    exec (.secHkdf h b) s = .next (secEnd (setVolatile v h.part.val (leAt b 17 1) (padTo (leAt b 18 1)
      (Config.hkdf (keyAt v (leAt b 16 1)) (d.take (leAt b 19 1)) (d.drop (leAt b 19 1)) (leAt b 18 1)))) h 4 OK) := by
  subst hu
  change execSecHkdf h b s = _
  rw [execSecHkdf, sec_served hs (by nofun) (.inr hhome) hclean]
  dsimp only
  rw [if_neg (by omega), if_neg (by simp [hkey, hmay]), hsrc]

theorem exec_ecdsaSign_signs {d : List Byte} (hs : Served s SEC 5 h b) (hu : u = begun s SEC 5 h b)
    (hhome : homeOf u h.part.val ≠ 2) (hclean : bodyDirty b (addrs 2) = false) (hfill : slotFilled u 0 = true)
    (hmay : bit (u.rd (SEC_KEY_USE_PARTS 0)) h.part.val = true)
    (hsrc : ∀ f, withIn u h 5 (leAt b 24 8) 32 f = f v d)
    (hdst : translate v h.part.val (leAt b 32 8) 64 1 = some a) :
    exec (.secEcdsaSign h b) s =
      .next (secOut (freeNext v) h 5 a (padTo 64 (Config.ecdsaSign v.freeCtr (keyAt v 0) d))) := by
  subst hu
  change execSecEcdsaSign h b s = _
  rw [execSecEcdsaSign, sec_served hs (by nofun) (.inr hhome) hclean]
  rw [if_neg (by simp [hfill, hmay]), hsrc, withOut_at hdst]

theorem exec_ecdsaVerify_decides {pub d sig : List Byte} (hs : Served s SEC 6 h b) (hu : u = begun s SEC 6 h b)
    (hclean : bodyDirty b (addrs 3) = false) (hpub : ∀ f, withIn u h 6 (leAt b 24 8) 65 f = f v pub)
    (hd : ∀ f, withIn v h 6 (leAt b 32 8) 32 f = f w d) (hsig : ∀ f, withIn w h 6 (leAt b 40 8) 64 f = f x sig) :
    exec (.secEcdsaVerify h b) s =
      .next (secEnd x h 6 (if Config.ecdsaVerify pub d sig then OK else VERIFY_FAIL)) := by
  subst hu
  change execSecEcdsaVerify h b s = _
  rw [execSecEcdsaVerify, sec_served hs (by nofun) (.inl rfl) hclean, hpub, hd, hsig]

theorem exec_mldsaVerify_decides {msg pub sig ctx : List Byte} (hs : Served s SEC 7 h b)
    (hu : u = begun s SEC 7 h b) (hclean : bodyDirty b ([17, 20, 21, 22, 23] ++ addrs 4) = false)
    (hlen : leAt b 20 4 ≤ 65536) (hmsg : ∀ f, withIn u h 7 (leAt b 24 8) (leAt b 20 4) f = f v msg)
    (hpub : ∀ f, withIn v h 7 (leAt b 32 8) 1952 f = f w pub)
    (hsig : ∀ f, withIn w h 7 (leAt b 40 8) 3309 f = f x sig)
    (hctx : ∀ f, withIn x h 7 (leAt b 48 8) (leAt b 17 1) f = f y ctx) :
    exec (.secMldsaVerify h b) s =
      .next (secEnd y h 7 (if Config.mldsaVerify pub msg ctx sig then OK else VERIFY_FAIL)) := by
  subst hu
  change execSecMldsaVerify h b s = _
  rw [execSecMldsaVerify, sec_served hs (by nofun) (.inl rfl) hclean]
  dsimp only
  rw [if_neg (by omega), hmsg, hpub, hsig, hctx]

theorem exec_cmac_answers {d : List Byte} (hs : Served s SEC 10 h b) (hu : u = begun s SEC 10 h b)
    (hhome : homeOf u h.part.val ≠ 2) (hclean : bodyDirty b ([17, 20, 21, 22, 23] ++ addrs 2) = false)
    (hlen : leAt b 20 4 ≤ 65536) (hkey : keyAllowed u h.part.val (leAt b 17 1) = true)
    (hsrc : ∀ f, withIn u h 10 (leAt b 24 8) (leAt b 20 4) f = f v d)
    (hdst : translate v h.part.val (leAt b 32 8) 16 1 = some a) :
    exec (.secCmac h b) s =
      .next (secOut v h 10 a (beBytes 16 (Config.cmac (keyAt v (leAt b 17 1)) d).toNat)) := by
  subst hu
  change execSecCmac h b s = _
  rw [execSecCmac, sec_served hs (by nofun) (.inr hhome) hclean]
  dsimp only
  rw [if_neg (by omega), if_neg (by simp [hkey]), hsrc, withOut_at hdst]

/-! ### Keys -/

theorem exec_keyLoad_loads {key : List Byte} (hs : Served s SEC 8 h b) (hu : u = begun s SEC 8 h b)
    (hhome : homeOf u h.part.val ≠ 2) (hclean : bodyDirty b ([16, 17] ++ addrs 1) = false) (hk : 16 ≤ leAt b 16 1)
    (hk' : leAt b 16 1 ≤ 31) (hn : leAt b 17 1 = 16 ∨ leAt b 17 1 = 32)
    (hmay : mayWrite u h.part.val (leAt b 16 1) = true)
    (hsrc : ∀ f, withIn u h 8 (leAt b 24 8) (leAt b 17 1) f = f v key) :
    exec (.secKeyLoad h b) s = .next (secEnd (setVolatile v h.part.val (leAt b 16 1) key) h 8 OK) := by
  subst hu
  change execSecKeyLoad h b s = _
  rw [execSecKeyLoad, sec_served hs (by nofun) (.inr hhome) hclean]
  dsimp only
  rw [if_neg (by omega), if_neg (by simp [hmay]), hsrc]

theorem exec_keyLoad_denied (hs : Served s SEC 8 h b) (hu : u = begun s SEC 8 h b)
    (hhome : homeOf u h.part.val ≠ 2) (hclean : bodyDirty b ([16, 17] ++ addrs 1) = false) (hk : 16 ≤ leAt b 16 1)
    (hk' : leAt b 16 1 ≤ 31) (hn : leAt b 17 1 = 16 ∨ leAt b 17 1 = 32)
    (hmay : mayWrite u h.part.val (leAt b 16 1) = false) :
    exec (.secKeyLoad h b) s = .next (secEnd u h 8 KEY_DENIED) := by
  subst hu
  change execSecKeyLoad h b s = _
  rw [execSecKeyLoad, sec_served hs (by nofun) (.inr hhome) hclean]
  dsimp only
  rw [if_neg (by omega), if_pos (by simp [hmay])]

theorem exec_keyClear_clears (hs : Served s SEC 9 h b) (hu : u = begun s SEC 9 h b) (hhome : homeOf u h.part.val ≠ 2)
    (hclean : bodyDirty b [16] = false) (hk : 16 ≤ leAt b 16 1) (hk' : leAt b 16 1 ≤ 31)
    (hkey : keyAllowed u h.part.val (leAt b 16 1) = true) :
    exec (.secKeyClear h b) s = .next (secEnd (clearSlots u (· == (leAt b 16 1))) h 9 OK) := by
  subst hu
  change execSecKeyClear h b s = _
  rw [execSecKeyClear, sec_served hs (by nofun) (.inr hhome) hclean]
  dsimp only
  rw [if_neg (by omega), if_neg (by simp [hkey])]

theorem exec_pubkey_slot1 (hs : Served s SEC 11 h b) (hu : u = begun s SEC 11 h b) (hhome : homeOf u h.part.val ≠ 2)
    (hclean : bodyDirty b ([16] ++ addrs 1) = false) (hk : leAt b 16 1 = 1) (hfill : slotFilled u 1 = true)
    (hdst : translate u h.part.val (leAt b 24 8) 65 1 = some a) :
    exec (.secPubkey h b) s = .next (secOut u h 11 a (padTo 65 (Config.publicKey (keyAt u 1)))) := by
  subst hu
  change execSecPubkey h b s = _
  rw [execSecPubkey, sec_served hs (by nofun) (.inr hhome) hclean]
  simp only [hk]
  rw [if_neg (by decide), if_neg (by simp [hfill]), withOut_at hdst]

theorem exec_keyProvision_provisions {key : List Byte} (hs : Served s SEC 12 h b) (hu : u = begun s SEC 12 h b)
    (hp0 : h.part = 0) (hhome : homeOf u h.part.val ≠ 2) (hclean : bodyDirty b ([16, 17] ++ addrs 1) = false)
    (hopen : isSealed u = false) (hk : 2 ≤ leAt b 16 1) (hk' : leAt b 16 1 < 16) (hk7 : leAt b 16 1 ≠ 7)
    (hempty : bit (u.rd SEC_KEY_STATE_FILLED) (leAt b 16 1) = false)
    (hn : (provisionLens (leAt b 16 1)).contains (leAt b 17 1) = true)
    (hsrc : ∀ f, withIn u h 12 (leAt b 24 8) (leAt b 17 1) f = f v key) :
    exec (.keyProvision h b) s = .next (secEnd (setKey v (leAt b 16 1) key) h 12 OK) := by
  subst hu
  change execKeyProvision h b s = _
  rw [execKeyProvision, sec_served hs (fun _ => hp0) (.inr hhome) hclean]
  dsimp only
  rw [if_neg (by simp [hopen]), if_neg (by simp [hempty, hk7]; omega), if_neg (by rw [hn]; decide), hsrc]

theorem exec_keyProvision_sealed (hs : Served s SEC 12 h b) (hu : u = begun s SEC 12 h b) (hp0 : h.part = 0)
    (hhome : homeOf u h.part.val ≠ 2) (hclean : bodyDirty b ([16, 17] ++ addrs 1) = false)
    (hseal : isSealed u = true) : exec (.keyProvision h b) s = .next (secEnd (violate u) h 12 KEY_DENIED) := by
  subst hu
  change execKeyProvision h b s = _
  rw [execKeyProvision, sec_served hs (fun _ => hp0) (.inr hhome) hclean, if_pos hseal]

/-! ### MACsec associations -/

/-- An association without extended packet numbers takes its key from a slot of P0's. -/
theorem exec_msecInstall_fromSlot (hs : Served s SEC 16 h b) (hu : u = begun s SEC 16 h b) (hp0 : h.part = 0)
    (hhome : homeOf u h.part.val ≠ 2) (hclean : bodyDirty b ((List.range 48).map (16 + ·)) = false)
    (hport : leAt b 16 1 < 2) (hdir : leAt b 17 1 < 2) (han : leAt b 18 1 < 4)
    (hfl : leAt b 19 1 = 2 ∨ leAt b 19 1 = 3) (hlisted : bodyDirty b (msecListed u b) = false)
    (hk : 8 ≤ leAt b 20 1) (hk' : leAt b 20 1 ≤ 31) (hkey : keyAllowed u 0 (leAt b 20 1) = true)
    (hlen : (keyAt u (leAt b 20 1)).length = saLen u (leAt b 16 1)) (hx : xpn u (leAt b 16 1) = false) :
    exec (.msecInstall h b) s = .next (secEnd (installSa u (leAt b 16 1) (leAt b 17 1) (leAt b 18 1)
      (bit (leAt b 19 1) 0)
      { key := keyAt u (leAt b 20 1), ssci := 0, salt := [], pn := leAt b 24 8, warned := false }) h 16 OK) := by
  have hslot : bit (leAt b 19 1) 1 = true := by rcases hfl with e | e <;> rw [e] <;> decide
  have hhas : bit (leAt b 19 1) 2 = false := by rcases hfl with e | e <;> rw [e] <;> decide
  subst hu
  change execMsecInstall h b s = _
  rw [execMsecInstall, sec_served hs (fun _ => hp0) (.inr hhome) hclean]
  simp only [hslot, hhas, hx]
  rw [if_neg (by omega), if_neg (by omega), if_neg (by rw [hlisted]; decide), if_neg (by decide),
    if_neg (by simp; omega), if_neg (by simp [hkey, hlen])]
  rfl

theorem exec_msecRetire_receive (hs : Served s SEC 17 h b) (hu : u = begun s SEC 17 h b) (hp0 : h.part = 0)
    (hhome : homeOf u h.part.val ≠ 2) (hclean : bodyDirty b [16, 17, 18] = false) (hport : leAt b 16 1 < 2)
    (hdir : leAt b 17 1 = 1) (han : leAt b 18 1 < 4) :
    exec (.msecRetire h b) s = .next (secEnd ({ u with sw := { u.sw with
      rxSa := tabDel u.sw.rxSa (leAt b 16 1 * 4 + leAt b 18 1) } }.wr (SW_MSEC_STAT_RX_AN_VALID (leAt b 16 1))
        (if bit (u.rd (SW_MSEC_STAT_RX_AN_VALID (leAt b 16 1))) (leAt b 18 1)
          then u.rd (SW_MSEC_STAT_RX_AN_VALID (leAt b 16 1)) - 2 ^ leAt b 18 1
          else u.rd (SW_MSEC_STAT_RX_AN_VALID (leAt b 16 1)))) h 17 OK) := by
  subst hu
  change execMsecRetire h b s = _
  rw [execMsecRetire, sec_served hs (fun _ => hp0) (.inr hhome) hclean]
  dsimp only
  rw [if_neg (by omega), if_pos hdir]

end

/-- Settles O38: each clause follows its descriptor's checks, all of which the premises answer. -/
theorem ciphers : Obligations.Ciphers := by
  unfold Obligations.Ciphers
  refine ⟨?gcmSeal, ?gcmOpen, ?sha256, ?hkdf, ?ecdsaSign, ?ecdsaVerify, ?mldsaVerify, ?cmac⟩
  case gcmSeal => exact fun _ _ _ _ _ _ _ _ _ => exec_aesGcm_seals
  case gcmOpen => exact fun _ _ _ _ _ _ _ _ _ => exec_aesGcm_opens
  case sha256 => exact fun _ _ _ _ _ _ _ => exec_sha256_answers
  case hkdf => exact fun _ _ _ _ _ _ => exec_hkdf_derives
  case ecdsaSign => exact fun _ _ _ _ _ _ _ => exec_ecdsaSign_signs
  case ecdsaVerify => exact fun _ _ _ _ _ _ _ _ _ _ => exec_ecdsaVerify_decides
  case mldsaVerify => exact fun _ _ _ _ _ _ _ _ _ _ _ _ => exec_mldsaVerify_decides
  case cmac => exact fun _ _ _ _ _ _ _ => exec_cmac_answers

/-- Settles O39: each clause follows its descriptor's checks, all of which the premises answer. -/
theorem vaultKeys : Obligations.VaultKeys := by
  unfold Obligations.VaultKeys
  refine ⟨?load, ?loadDenied, ?clear, ?pubkey, ?provision, ?provisionSealed, ?install, ?retire⟩
  case load => exact fun _ _ _ _ _ _ => exec_keyLoad_loads
  case loadDenied => exact fun _ _ _ _ => exec_keyLoad_denied
  case clear => exact fun _ _ _ _ => exec_keyClear_clears
  case pubkey => exact fun _ _ _ _ _ => exec_pubkey_slot1
  case provision => exact fun _ _ _ _ _ _ => exec_keyProvision_provisions
  case provisionSealed => exact fun _ _ _ _ => exec_keyProvision_sealed
  case install => exact fun _ _ _ _ => exec_msecInstall_fromSlot
  case retire => exact fun _ _ _ _ => exec_msecRetire_receive

end Sys2Proof.Machine
end

section
/-! SUPPORT.
Random numbers and the health of their source (R480 to R483); updates and the debug unlock (R486 to R493).
-/

namespace Sys2Proof.Machine

/-! ### Random numbers -/

section
variable {s u : State} {h : DHdr} {b : List Byte} {a : Nat}

theorem exec_random_served (hs : Served s SEC 1 h b) (hu : u = begun s SEC 1 h b)
    (hclean : bodyDirty b ([16, 20, 21, 22, 23] ++ addrs 1) = false) (hfl : leAt b 16 1 < 2) (hmin : 1 ≤ leAt b 20 4)
    (hmax : leAt b 20 4 ≤ 4096) (ha : translate u h.part.val (leAt b 24 8) (leAt b 20 4) 1 = some a)
    (hseed : seeded u = true) : exec (.secRandom h b) s =
      .next (secOut (freeNext { u with sec := { u.sec with requests := u.sec.requests + 1 } }) h 1 a
        (randomBytes u (leAt b 20 4))) := by
  subst hu
  change execSecRandom h b s = _
  rw [execSecRandom, sec_served hs (by nofun) (.inl rfl) hclean]
  dsimp only
  rw [if_neg (by omega), if_neg (by omega), withOut_at ha, if_pos hseed]
  rfl

theorem exec_random_held (hs : Served s SEC 1 h b) (hu : u = begun s SEC 1 h b)
    (hclean : bodyDirty b ([16, 20, 21, 22, 23] ++ addrs 1) = false) (hfl : leAt b 16 1 = 0) (hmin : 1 ≤ leAt b 20 4)
    (hmax : leAt b 20 4 ≤ 4096) (ha : translate u h.part.val (leAt b 24 8) (leAt b 20 4) 1 = some a)
    (hseed : seeded u = false) : exec (.secRandom h b) s =
      .next { u with sec := { u.sec with held := u.sec.held ++ [⟨h, a, leAt b 20 4, u.now⟩] } } := by
  subst hu
  change execSecRandom h b s = _
  rw [execSecRandom, sec_served hs (by nofun) (.inl rfl) hclean]
  dsimp only
  rw [if_neg (by omega), if_neg (by omega), withOut_at ha, if_neg (by simp [hseed]), if_neg (by omega)]

end

/-! ### The source's health -/

/-- A change of state is shown in both fields. -/
theorem entropyState_changed {s : State} {trng drbg : Nat} (cause : Nat)
    (hchange : s.rd SEC_STATUS_TRNG ≠ trng ∨ s.rd SEC_STATUS_DRBG ≠ drbg) :
    (entropyState s trng drbg cause).rd SEC_STATUS_TRNG = trng % 4 ∧
    (entropyState s trng drbg cause).rd SEC_STATUS_DRBG = drbg % 4 := by
  rw [entropyState, if_neg (by tauto), raise_rd _ _ _ _ _ (by decide) (by decide),
    raise_rd _ _ _ _ _ (by decide) (by decide), rd_wr_key _ _ (by decide)]
  exact ⟨rd_wr_same s SEC_STATUS_TRNG trng (by decide), rd_wr_same _ SEC_STATUS_DRBG drbg (by decide)⟩

theorem entropyState_rd (s : State) (trng drbg cause : Nat) {f : Field} (hf : f.lsb < 64)
    (hoff : clearOf [Reg.PAR_EVT_CNT, Reg.SW_CNT_VAL, Reg.SW_MSEC_STAT, Reg.TLY_CNT0] f.off = true)
    (htrng : f.key ≠ SEC_STATUS_TRNG.key) (hdrbg : f.key ≠ SEC_STATUS_DRBG.key) :
    (entropyState s trng drbg cause).rd f = s.rd f := by
  unfold entropyState
  split
  · rfl
  · rw [raise_rd _ _ _ _ _ hf hoff, rd_wr_key _ _ hdrbg, rd_wr_key _ _ htrng]

theorem entropyState_sec (s : State) (trng drbg cause : Nat) : (entropyState s trng drbg cause).sec = s.sec :=
  (entropyState_keeps s trng drbg cause).plain .sec (by decide) rfl

/-- The source has passed its first start-up test of a start, after `ms`. -/
def startupPassed (s : State) (ms : Nat) : State :=
  let s1 := s.wr SEC_STATUS_LIVE_MS (min ms 255)
  { s1 with sec := { s1.sec with fails := 0, held := [], requests := 0, seededAt := s.now } }

/-- A test of the source has failed, and `fails` start-up tests in a row. -/
def healthFailed (s : State) (fails : Nat) : State :=
  { s.bump SEC_CNT_HEALTH_FAILS 1 with sec := { s.sec with fails := fails } }

theorem healthFailed_rd (s : State) (fails : Nat) (f : Field) :
    (healthFailed s fails).rd f = (s.bump SEC_CNT_HEALTH_FAILS 1).rd f :=
  rd_of_regs (by simp only [healthFailed]) f

theorem healthFailed_count (s : State) (fails : Nat) :
    (healthFailed s fails).rd SEC_CNT_HEALTH_FAILS = satAdd 16 (s.rd SEC_CNT_HEALTH_FAILS) 1 := by
  rw [healthFailed_rd]
  exact rd_bump_same s SEC_CNT_HEALTH_FAILS 1 (by decide)

theorem healthFailed_trng (s : State) (fails : Nat) :
    (healthFailed s fails).rd SEC_STATUS_TRNG = s.rd SEC_STATUS_TRNG := by
  rw [healthFailed_rd, rd_bump_key _ 1 (by decide)]

section
variable {s : State} (hup : cdUp s = true)
include hup

theorem exec_entropyTimeout_due {x : RandHeld} {rest : List RandHeld} (hheld : s.sec.held = x :: rest)
    (hl : lasted s x.since 20000 = true) : exec .entropyTimeout s =
      .next (secEnd { s with sec := { s.sec with held := rest } } x.hdr 1 ENTROPY_TIMEOUT) := by
  change whileCd s _ = _
  rw [whileCd_of_up hup, hheld]
  dsimp only
  rw [if_pos hl]

theorem exec_trngStartup_passed {ms : Nat} (htrng : s.rd SEC_STATUS_TRNG ≠ 1) (hfails : s.sec.fails < 3)
    (hheld : s.sec.held = []) (hdrbg : s.rd SEC_STATUS_DRBG ≠ 1) (hlive : s.rd SEC_STATUS_LIVE_MS = 0) :
    exec (.trngStartupDone true ms) s = .next (entropyState (startupPassed s ms) 1 1 1) := by
  change whileCd s _ = _
  rw [whileCd_of_up hup, if_neg (by omega), if_pos rfl, hheld]
  simp only [List.foldl_nil]
  rw [if_neg (by simp [seeded, hdrbg, hlive])]
  rfl

theorem exec_trngStartup_failed {ms : Nat} (htrng : s.rd SEC_STATUS_TRNG ≠ 1) (hfails : s.sec.fails + 1 < 3) :
    exec (.trngStartupDone false ms) s = .next (healthFailed s (s.sec.fails + 1)) := by
  change whileCd s _ = _
  rw [whileCd_of_up hup, if_neg (by omega), if_neg (by decide)]
  dsimp only
  rw [if_neg (by omega)]
  rfl

theorem exec_seedRewrite_seeded (hseed : seeded s = true) :
    exec .seedRewrite s = .next (setKey (freeNext s) 7 (randomBytes s 32)) := by
  change whileCd s _ = _
  rw [whileCd_of_up hup, if_pos hseed]

theorem exec_trngContinuousFail_live (htrng : s.rd SEC_STATUS_TRNG = 1) : exec .trngContinuousFail s =
    .next (entropyState (healthFailed s 0) 2 (s.rd SEC_STATUS_DRBG) 3) := by
  change whileCd s _ = _
  rw [whileCd_of_up hup, if_pos htrng]
  rfl

theorem exec_reseedDue_starved (hdrbg : s.rd SEC_STATUS_DRBG = 1) (htrng : s.rd SEC_STATUS_TRNG ≠ 1)
    (hn : s.rd SEC_CFG_RESEED_N ≤ s.sec.requests) :
    exec .reseedDue s = .next (entropyState s (s.rd SEC_STATUS_TRNG) 2 4) := by
  change whileCd s _ = _
  rw [whileCd_of_up hup, if_pos (by simp [seeded, hdrbg, hn]), if_neg htrng]

end

/-- Settles O37: each clause follows its descriptor's or its event's branches. -/
theorem entropy : Obligations.Entropy := by
  unfold Obligations.Entropy
  refine ⟨fun _ _ _ _ _ => exec_random_served, fun _ _ _ _ _ => exec_random_held,
    fun _ _ _ hup => exec_entropyTimeout_due hup, fun ms s hup htrng hfails hheld hdrbg hlive => ?passed,
    fun ms s hup htrng hfails => ?failed, fun _ hup => exec_seedRewrite_seeded hup, fun s hup htrng => ?continuous,
    fun s hup hdrbg htrng hn => ?reseed⟩
  case passed =>
    have hset : ∀ f, (startupPassed s ms).rd f = (s.wr SEC_STATUS_LIVE_MS (min ms 255)).rd f :=
      rd_of_regs (by simp only [startupPassed])
    obtain ⟨htrng', hdrbg'⟩ := entropyState_changed (s := startupPassed s ms) (trng := 1) (drbg := 1) 1
      (.inl (by rw [hset, rd_wr_key _ _ (by decide)]; exact htrng))
    refine (execTrngStartupDone_keeps true ms s).runs (exec_trngStartup_passed hup htrng hfails hheld hdrbg hlive)
      (by decide) (by decide) (by decide) ⟨htrng', hdrbg', ?_, ?_⟩
    · rw [entropyState_rd _ _ _ _ (by decide) (by decide) (by decide) (by decide), hset,
        rd_wr_same s SEC_STATUS_LIVE_MS _ (by decide)]
      exact Nat.mod_eq_of_lt (Nat.lt_succ_of_le (Nat.min_le_right ms 255))
    · rw [entropyState_sec]
      rfl
  case failed =>
    exact (execTrngStartupDone_keeps false ms s).runs (exec_trngStartup_failed hup htrng hfails)
      (by decide) (by decide) (by decide) ⟨rfl, healthFailed_trng s _, healthFailed_count s _⟩
  case continuous =>
    obtain ⟨htrng', hdrbg'⟩ := entropyState_changed (s := healthFailed s 0) (trng := 2)
      (drbg := s.rd SEC_STATUS_DRBG) 3 (.inl (by rw [healthFailed_trng, htrng]; decide))
    refine (execTrngContinuousFail_keeps s).runs (exec_trngContinuousFail_live hup htrng)
      (by decide) (by decide) (by decide) ⟨htrng', hdrbg', ?_, ?_⟩
    · rw [entropyState_sec]
      rfl
    · rw [entropyState_rd _ _ _ _ (by decide) (by decide) (by decide) (by decide), healthFailed_count]
  case reseed =>
    exact (execReseedDue_keeps s).runs (exec_reseedDue_starved hup hdrbg htrng hn) (by decide) (by decide) (by decide)
      (entropyState_changed 4 (.inr (by rw [hdrbg]; decide))).2

/-! ### Updates -/

/-- A served control command of P0's on a slot in range does its work. -/
theorem upd_served {s : State} {op : Nat} {h : DHdr} {b : List Byte} (hs : Served s SEC op h b) (hp0 : h.part = 0)
    (hhome : homeOf (begun s SEC op h b) h.part.val ≠ 2) (hclean : bodyDirty b [16] = false)
    (hslot : leAt b 16 1 < if op = 0x22 ∨ op = 0x23 then 1 else 2) (f : Nat → State → State) :
    upd op h b s f = .next (f (leAt b 16 1) (begun s SEC op h b)) := by
  rw [upd, sec_served hs (fun _ => hp0) (.inr hhome) hclean]
  dsimp only
  rw [if_neg (by omega)]

section
variable {s u v : State} {h : DHdr} {b : List Byte}

theorem exec_updVerify_decides {media : Bool} {r : Nat × List Byte × List Byte} (hs : Served s SEC 32 h b)
    (hu : u = begun s SEC 32 h b) (hp0 : h.part = 0) (hhome : homeOf u h.part.val ≠ 2)
    (hclean : bodyDirty b [16] = false) (hslot : leAt b 16 1 < 2)
    (hv : v = charge u h.part.val SEC
      (1024 * (announced u (leAt b 16 1) + payloads u (leAt b 16 1) (landedManifest u (leAt b 16 1))) + 4))
    (hr : r = bundleCheck v (uidBytes v) (leAt b 16 1) media) : exec (.updVerify h b media) s =
      .next (complete (writeRecord (setSlot v (leAt b 16 1) (if r.1 = 0 then 1 else 2))) SEC h 0x20
        (if r.1 = 0 then OK else VERIFY_FAIL) ([byte r.1, 0, 0, 0] ++ leBytes 4 (mBundle r.2.1))) := by
  subst hu hv hr
  change execUpdVerify h b media s = _
  rw [execUpdVerify, upd_served hs hp0 hhome hclean (by simpa using hslot)]

theorem exec_updArm_slot0 (hs : Served s SEC 33 h b) (hu : u = begun s SEC 33 h b) (hp0 : h.part = 0)
    (hhome : homeOf u h.part.val ≠ 2) (hclean : bodyDirty b [16] = false) (hslot : leAt b 16 1 < 2)
    (hgood : slotState u (leAt b 16 1) = 1) (htrial : u.flag UPD_STATUS_TRIAL = false) (h0 : leAt b 16 1 = 0) :
    exec (.updArm h b) s = .next (secEnd (writeRecord
      { u.wr UPD_STATUS_ARMED 1 with upd := { u.upd with attempts0 := 0 } }) h 0x21 OK) := by
  subst hu
  change execUpdArm h b s = _
  rw [execUpdArm, upd_served hs hp0 hhome hclean (by simpa using hslot), if_neg (by simpa using hgood),
    if_neg (by simp [htrial]), h0]
  rfl

theorem exec_updArm_slot1 (hs : Served s SEC 33 h b) (hu : u = begun s SEC 33 h b) (hp0 : h.part = 0)
    (hhome : homeOf u h.part.val ≠ 2) (hclean : bodyDirty b [16] = false) (hslot : leAt b 16 1 < 2)
    (hgood : slotState u (leAt b 16 1) = 1) (htrial : u.flag UPD_STATUS_TRIAL = false) (h1 : leAt b 16 1 = 1) :
    exec (.updArm h b) s = .next (secEnd (writeRecord
      { u.wr UPD_STATUS_ARMED 2 with upd := { u.upd with attempts1 := 0 } }) h 0x21 OK) := by
  subst hu
  change execUpdArm h b s = _
  rw [execUpdArm, upd_served hs hp0 hhome hclean (by simpa using hslot), if_neg (by simpa using hgood),
    if_neg (by simp [htrial]), h1]
  rfl

theorem exec_updArm_unverified (hs : Served s SEC 33 h b) (hu : u = begun s SEC 33 h b) (hp0 : h.part = 0)
    (hhome : homeOf u h.part.val ≠ 2) (hclean : bodyDirty b [16] = false) (hslot : leAt b 16 1 < 2)
    (hbad : slotState u (leAt b 16 1) ≠ 1) : exec (.updArm h b) s = .next (updNo u h 0x21 20) := by
  subst hu
  change execUpdArm h b s = _
  rw [execUpdArm, upd_served hs hp0 hhome hclean (by simpa using hslot), if_pos hbad]

theorem exec_updDisarm (hs : Served s SEC 34 h b) (hu : u = begun s SEC 34 h b) (hp0 : h.part = 0)
    (hhome : homeOf u h.part.val ≠ 2) (hclean : bodyDirty b [16] = false) (hslot : leAt b 16 1 < 1) :
    exec (.updDisarm h b) s = .next (secEnd (writeRecord (u.wr UPD_STATUS_ARMED 0)) h 0x22 OK) := by
  subst hu
  change execUpdDisarm h b s = _
  rw [execUpdDisarm, upd_served hs hp0 hhome hclean (by simpa using hslot)]

theorem exec_updConfirm_trial (hs : Served s SEC 35 h b) (hu : u = begun s SEC 35 h b) (hp0 : h.part = 0)
    (hhome : homeOf u h.part.val ≠ 2) (hclean : bodyDirty b [16] = false) (hslot : leAt b 16 1 < 1)
    (htrial : u.flag UPD_STATUS_TRIAL = true)
    (hv : v = (((u.put UPD_STATUS_TRIAL false).wr UPD_STATUS_TRIES 0).wr UPD_STATUS_LAST_OUTCOME 4).wr
      UPD_LEFT_SECONDS 0) : exec (.updConfirm h b) s =
      .next (secEnd (raiseCounter (writeRecord { v with upd := { v.upd with expired := false } }) (activeSvn v)) h
        0x23 OK) := by
  subst hu hv
  change execUpdConfirm h b s = _
  rw [execUpdConfirm, upd_served hs hp0 hhome hclean (by simpa using hslot), if_neg (by simp [htrial])]

theorem exec_updConfirm_noTrial (hs : Served s SEC 35 h b) (hu : u = begun s SEC 35 h b) (hp0 : h.part = 0)
    (hhome : homeOf u h.part.val ≠ 2) (hclean : bodyDirty b [16] = false) (hslot : leAt b 16 1 < 1)
    (htrial : u.flag UPD_STATUS_TRIAL = false) : exec (.updConfirm h b) s = .next (updNo u h 0x23 22) := by
  subst hu
  change execUpdConfirm h b s = _
  rw [execUpdConfirm, upd_served hs hp0 hhome hclean (by simpa using hslot), if_pos (by simp [htrial])]

end

/-! ### Debug unlock -/

/-- A response is good: the scopes are open, told and recorded. -/
def debugOpened (s : State) (r : List Byte) : State :=
  let s1 := { s with sec := { s.sec with nonce := none } }
  let scope := leAt r 0 1 % 8
  let pl := [byte scope, byte s.sec.dbgFails]
  tally (raise (s1.orF SEC_STATUS_DBG_OPEN scope) 73 true (p0Safety s) pl) 18
    (pl ++ [0, 0] ++ (sha (slice r 7 65)).take 8)

/-- A response is wrong: the failure is counted, and when it came. -/
def debugRefused (s : State) : State :=
  let s1 := { s with sec := { s.sec with nonce := none } }
  { s1.bump SEC_CNT_DBG_FAILS 1 with sec := { s1.sec with dbgFails := s.sec.dbgFails + 1, failAt := some s.now } }

theorem debugOpened_scope (s : State) (r : List Byte) : (debugOpened s r).rd SEC_STATUS_DBG_OPEN =
    (s.rd SEC_STATUS_DBG_OPEN ||| (leAt r 0 1 % 8)) % 8 := by
  simp only [debugOpened]
  rw [tally_rd _ _ _ (by decide) (by decide), raise_rd _ _ _ _ _ (by decide) (by decide)]
  exact rd_orF_same _ SEC_STATUS_DBG_OPEN _ (by decide)

theorem debugOpened_sec (s : State) (r : List Byte) : (debugOpened s r).sec = { s.sec with nonce := none } := by
  simp only [debugOpened, tally_sec, raise_sec]
  rfl

theorem debugRefused_rd (s : State) (f : Field) : (debugRefused s).rd f = (s.bump SEC_CNT_DBG_FAILS 1).rd f :=
  rd_of_regs (by simp only [debugRefused]; rfl) f

section
variable {s : State} (hup : cdUp s = true)
include hup

theorem exec_dbgAuthChallenge_open (hopen : challengeOpen s = true) : exec .dbgAuthChallenge s =
    .next (emit { freeNext s with sec := { s.sec with nonce := some (randomBytes s 32, s.now) } }
      (.challenge (uidBytes s ++ randomBytes s 32))) := by
  change whileCd s _ = _
  rw [whileCd_of_up hup, if_pos hopen]

theorem exec_dbgAuthChallenge_closed (hshut : challengeOpen s = false) : exec .dbgAuthChallenge s =
    .next (emit s (.challenge (List.replicate 48 0))) := by
  change whileCd s _ = _
  rw [whileCd_of_up hup, if_neg (by simp [hshut])]

theorem exec_dbgAuthResponse_good {r : List Byte} (hok : responseOk s r = true) :
    exec (.dbgAuthResponse r) s = .next (debugOpened s r) := by
  change whileCd s _ = _
  rw [whileCd_of_up hup]
  dsimp only
  rw [if_pos hok]
  rfl

theorem exec_dbgAuthResponse_wrong {r : List Byte} (hbad : responseOk s r = false) :
    exec (.dbgAuthResponse r) s = .next (debugRefused s) := by
  change whileCd s _ = _
  rw [whileCd_of_up hup]
  dsimp only
  rw [if_neg (by simp [hbad])]
  rfl

end

/-- Settles O40: each clause follows its command's checks; a response by whether the authority gave it. -/
theorem updates : Obligations.Updates := by
  unfold Obligations.Updates
  refine ⟨fun _ _ _ _ _ _ _ => exec_updVerify_decides, fun _ _ _ _ => exec_updArm_slot0,
    fun _ _ _ _ => exec_updArm_slot1, fun _ _ _ _ => exec_updArm_unverified, fun _ _ _ _ => exec_updDisarm,
    fun _ _ _ _ _ => exec_updConfirm_trial, fun _ _ _ _ => exec_updConfirm_noTrial, fun s hup hopen => ?challenge,
    fun s hup hshut => ?noChallenge, fun r s hup => ?response⟩
  case challenge =>
    exact (execDbgAuthChallenge_keeps s).runs (exec_dbgAuthChallenge_open hup hopen)
      (by decide) (by decide) (by decide) ⟨rfl, rfl⟩
  case noChallenge =>
    exact (execDbgAuthChallenge_keeps s).runs (exec_dbgAuthChallenge_closed hup hshut)
      (by decide) (by decide) (by decide) ⟨rfl, rfl⟩
  case response =>
    cases hok : responseOk s r with
    | true =>
      refine (execDbgAuthResponse_keeps r s).runs (exec_dbgAuthResponse_good hup hok)
        (by decide) (by decide) (by decide) ⟨?_, ?_, ?_, nofun⟩
      · rw [debugOpened_sec]
      · rw [if_pos rfl, debugOpened_scope]
      · rw [if_pos rfl, debugOpened_sec]
    | false =>
      refine (execDbgAuthResponse_keeps r s).runs (exec_dbgAuthResponse_wrong hup hok)
        (by decide) (by decide) (by decide) ⟨rfl, ?_, rfl, fun _ => ⟨rfl, ?_⟩⟩
      · rw [if_neg (by decide), debugRefused_rd, rd_bump_key _ 1 (by decide)]
      · rw [debugRefused_rd]
        exact rd_bump_same s SEC_CNT_DBG_FAILS 1 (by decide)

end Sys2Proof.Machine
end

section
/-! SUPPORT.
Fault injection, events raised by P0, held events and lockstep faults (R410, R524, R526).
-/

namespace Sys2Proof.Machine

/-- An injection of kinds 1 to 3 has been armed with a word's fields. -/
def injArmed (s : State) (v : Word) : State :=
  let s1 := ((s.wr EVT_INJ_KIND (fieldIn EVT_INJ_KIND v)).wr EVT_INJ_ID (fieldIn EVT_INJ_ID v)).wr EVT_INJ_COUNT
    (fieldIn EVT_INJ_COUNT v)
  { s1.wr EVT_INJ_STATUS_PENDING (fieldIn EVT_INJ_COUNT v) with
    flt := { s1.flt with
      inj := some ⟨fieldIn EVT_INJ_KIND v, fieldIn EVT_INJ_ID v, fieldIn EVT_INJ_COUNT v⟩
      skip := false } }

/-- A pair has stopped, with its report and its record. -/
def lockstepStopped (s : State) (pair mcycle : Nat) : State :=
  let x := takeInj s 5 pair
  let s1 := { x.1 with brd := { x.1.brd with stopped := x.1.brd.stopped ++ [pair] } }
  let pl (f : Nat) : List Byte := [byte pair, byte f, 0, 0] ++ leBytes 8 mcycle
  tally (raise s1 103 true [0] (pl (if x.2 then 128 else 0))) 17 (pl 0)

theorem lockstepStopped_stopped (s : State) (pair mcycle : Nat) :
    (lockstepStopped s pair mcycle).brd.stopped = s.brd.stopped ++ [pair] := by
  have hbrd : (takeInj s 5 pair).1.brd = s.brd := (takeInj_keeps s 5 pair).plain .brd (by decide) rfl
  simp only [lockstepStopped, tally_brd, raise_brd, hbrd]

section
variable {s : State} (hup : cdUp s = true)
include hup

theorem exec_evtInjArm_arms {v : Word} (hmay : mayInject s = true) (harm : fieldIn EVT_INJ_ARM v = 1)
    (hkind : 1 ≤ fieldIn EVT_INJ_KIND v) (hkind' : fieldIn EVT_INJ_KIND v ≤ 3)
    (hcount : 1 ≤ fieldIn EVT_INJ_COUNT v) : exec (.evtInjArm .p0 v) s = .next (injArmed s v) := by
  have hskip : (fieldIn EVT_INJ_KIND v == 6) = false := by simp; omega
  change whileCd s _ = _
  rw [whileCd_of_up hup, if_neg (by simp [hmay])]
  dsimp only
  rw [if_pos ⟨harm, hkind, by omega⟩, if_neg (by omega), if_neg (by omega), if_neg (by omega), if_neg (by omega), hskip]
  rfl

theorem exec_evtInjArm_closed {v : Word} (hshut : mayInject s = false) :
    exec (.evtInjArm .p0 v) s = .next (violate s) := by
  change whileCd s _ = _
  rw [whileCd_of_up hup, if_pos (by simp [hshut])]

theorem exec_evtRaise_raises {v : Word} (hmay : mayInject s = true) (hsrc : fieldIn EVT_RAISE_SOURCE v < 104)
    (hever : everRaised (fieldIn EVT_RAISE_SOURCE v) = true) : exec (.evtRaise .p0 v) s =
      .next (raise s (fieldIn EVT_RAISE_SOURCE v) (classS (fieldIn EVT_RAISE_SOURCE v))
        (zeroRcpt s (fieldIn EVT_RAISE_SOURCE v)) []) := by
  change whileCd s _ = _
  rw [whileCd_of_up hup]
  dsimp only
  rw [if_neg (by simp [hmay]; omega), if_pos hever]

theorem exec_evtRaise_beyond {v : Word} (hsrc : 104 ≤ fieldIn EVT_RAISE_SOURCE v) :
    exec (.evtRaise .p0 v) s = .next (violate s) := by
  change whileCd s _ = _
  rw [whileCd_of_up hup]
  dsimp only
  rw [if_pos (by simp [hsrc])]

theorem exec_lockstepFault_stops {pair : Fin 2} {mcycle : Nat} (hnew : s.brd.stopped.contains pair.val = false) :
    exec (.lockstepFault pair mcycle) s = .next (lockstepStopped s pair.val mcycle) := by
  change whileCd s _ = _
  rw [whileCd_of_up hup, if_neg (by rw [hnew]; decide)]
  rfl

theorem exec_lockstepFault_again {pair : Fin 2} {mcycle : Nat} (hold : s.brd.stopped.contains pair.val = true) :
    exec (.lockstepFault pair mcycle) s = .next s := by
  change whileCd s _ = _
  rw [whileCd_of_up hup, if_pos hold]

end

/-- Records held for a partition are delivered once it runs: class S first, each class in order. -/
theorem exec_heldEventDelivery_running {s u : State} {part : Fin 8} (hopen : evtOpen s = true)
    (hrun : partState s part.val = 2)
    (hu : u = { s.bump (PAR_EVT_CNT_EV_LOST part.val) (tabGet 0 s.evt.heldLost part.val) with
      evt := { s.evt with
        held := s.evt.held.filter (fun x => x.part != part.val), heldLost := tabDel s.evt.heldLost part.val } }) :
    exec (.heldEventDelivery part) s =
      .next (((s.evt.held.filter (fun x => x.part == part.val)).filter (·.clsS) ++
        (s.evt.held.filter (fun x => x.part == part.val)).filter (fun x => !x.clsS)).foldl deliverHeld u) := by
  subst hu
  change execHeldEventDelivery part s = _
  rw [execHeldEventDelivery]
  dsimp only
  rw [if_neg (by simp [hopen, hrun])]

/-- Settles O42: each clause follows its command's branches. -/
theorem injectionAndLockstep : Obligations.InjectionAndLockstep := by
  unfold Obligations.InjectionAndLockstep
  refine ⟨fun v s hup hmay harm hkind hkind' hcount => ?arm, fun _ _ hup => exec_evtInjArm_closed hup,
    fun _ _ hup => exec_evtRaise_raises hup, fun v s hup _ hsrc => ?raiseBeyond,
    fun _ _ _ => exec_heldEventDelivery_running, fun pair mcycle s hup hnew => ?lockstep,
    fun _ _ _ hup => exec_lockstepFault_again hup⟩
  case arm =>
    exact (execEvtInjArm_keeps .p0 v s).runs (exec_evtInjArm_arms hup hmay harm hkind hkind' hcount)
      (by decide) (by decide) (by decide) ⟨rfl, rfl⟩
  case raiseBeyond =>
    exact (execEvtRaise_keeps .p0 v s).runs (exec_evtRaise_beyond hup hsrc) (by decide) (by decide) (by decide)
      ⟨rd_bump_same s PAR_SEAL_STATUS_SEAL_VIOL 1 (by decide), violate_evt s⟩
  case lockstep =>
    exact (execLockstepFault_keeps pair mcycle s).runs (exec_lockstepFault_stops hup hnew)
      (by decide) (by decide) (by decide) (lockstepStopped_stopped s pair.val mcycle)

end Sys2Proof.Machine
end

section
/-! SUPPORT.
The inference engine: contexts (R426, R427, R437), jobs (R429 to R432), verdicts (R413, R416) and known-answer tests
(R434, R435).
-/

namespace Sys2Proof.Machine

/-! ### Contexts -/

section
variable {s u : State} {h : DHdr} {b : List Byte}

/-- A LOAD with good fields and a good header reads the whole image. -/
theorem exec_infLoad_starts {hd : List Byte} {out out2 : Nat} (hs : Served s INF 1 h b) (hu : u = begun s INF 1 h b)
    (hclean : bodyDirty b ([16, 17, 18, 19] ++ (List.range 16).map (24 + ·)) = false) (hctx : leAt b 16 1 < 16)
    (hmode : leAt b 17 1 < 3) (hclass : leAt b 18 1 < 2) (hblk : 1 ≤ leAt b 19 1) (hblk' : leAt b 19 1 ≤ 12)
    (halign : leAt b 32 8 % 64 = 0) (hown : ownerOf u 11 (leAt b 16 1) = some h.part.val)
    (hempty : ctxState u (leAt b 16 1) = 0) (hrt : ¬ (leAt b 18 1 = 0 ∧ homeOf u h.part.val = 2))
    (hdata : ∀ f, withData u INF h 1 (leAt b 24 8) 64 f = f u hd) (hhead : headerOk hd true = true)
    (hread : translate u h.part.val (leAt b 32 8) (2 * 2 ^ leAt b 19 1 * rsize hd) 0 = some out)
    (hwrite : translate u h.part.val (leAt b 32 8) (2 * 2 ^ leAt b 19 1 * rsize hd) 1 = some out2) :
    exec (.infLoad h b) s = .next (withData u INF h 1 (leAt b 24 8) (imgTotal hd) (startLoad h b out)) := by
  subst hu
  change execInfLoad h b s = _
  rw [execInfLoad, descr_served hs]
  dsimp only
  rw [if_neg (by rw [hclean]; decide), if_neg (by omega), if_neg (by simp [hown]), if_neg (by simp [hempty]),
    if_neg hrt, hdata]
  rw [if_neg (by simp [hhead]), hread, hwrite]

section
variable (hs : Served s INF 2 h b) (hu : u = begun s INF 2 h b) (hclean : bodyDirty b [16] = false)
  (hctx : leAt b 16 1 < 16) (hown : ownerOf u 11 (leAt b 16 1) = some h.part.val)
include hs hu hclean hctx hown

theorem exec_infUnload_frees (hstate : ctxState u (leAt b 16 1) ≠ 1)
    (hjobs : u.inf.jobs.any (fun j => j.ctx == leAt b 16 1 && !j.settled) = false) :
    exec (.infUnload h b) s = .next (complete (freeCtx u (leAt b 16 1)) INF h 2 OK []) := by
  subst hu
  change execInfUnload h b s = _
  rw [execInfUnload, descr_served hs]
  dsimp only
  rw [if_neg (by rw [hclean]; decide), if_neg (by omega), if_neg (by simp [hown]), if_neg]
  rintro (hload | hjob)
  · exact hstate hload
  · rw [hjobs] at hjob
    exact absurd hjob (by decide)

theorem exec_infUnload_busy (hbusy : ctxState u (leAt b 16 1) = 1 ∨
      u.inf.jobs.any (fun j => j.ctx == leAt b 16 1 && !j.settled) = true) :
    exec (.infUnload h b) s = .next (complete u INF h 2 CONTEXT_BUSY []) := by
  subst hu
  change execInfUnload h b s = _
  rw [execInfUnload, descr_served hs]
  dsimp only
  rw [if_neg (by rw [hclean]; decide), if_neg (by omega), if_neg (by simp [hown]), if_pos hbusy]

end

end

section
variable {s : State} {ctx : Fin 16} {execA execB : Nat} (hup : infUp s = true)
include hup

section
variable {h : DHdr} {why : Nat} (hstate : ctxState s ctx.val = 1) (hload : (ctxAt s ctx.val).load = some h)
include hstate hload

theorem exec_infLoadComplete_ready (hgood : ctxFault s (ctxAt s ctx.val) execA execB = none) :
    exec (.infLoadComplete ctx execA execB) s =
      .next (complete (loadEvent (ctxReady s ctx.val (ctxAt s ctx.val) execA execB) ctx.val 0) INF h 1 OK
        (leBytes 2 (if usesCh (ctxAt s ctx.val).mode 0 then execA else 0) ++
          leBytes 2 (if usesCh (ctxAt s ctx.val).mode 1 then execB else 0))) := by
  change execInfLoadComplete ctx execA execB s = _
  rw [execInfLoadComplete]
  rw [if_pos (by simp [hup, hstate]), hload]
  dsimp only
  rw [hgood]

theorem exec_infLoadComplete_invalid (hbad : ctxFault s (ctxAt s ctx.val) execA execB = some why) :
    exec (.infLoadComplete ctx execA execB) s =
      .next (complete (freeCtx s ctx.val) INF h 1 MODEL_INVALID [byte why]) := by
  change execInfLoadComplete ctx execA execB s = _
  rw [execInfLoadComplete]
  rw [if_pos (by simp [hup, hstate]), hload]
  dsimp only
  rw [hbad]

end

theorem exec_contextReload_ready {a : Nat} {u : State} {img : List Byte} {y : Ctx} (hstate : ctxState s ctx.val = 3)
    (ha : translate s (ctxAt s ctx.val).part (ctxAt s ctx.val).imgAddr (ctxAt s ctx.val).imgLen 0 = some a)
    (hdata : fetchData s (ctxAt s ctx.val).part a (ctxAt s ctx.val).imgLen = (u, some img))
    (hy : y = { ctxAt s ctx.val with
      img := img
      gapA := (ctxAt s ctx.val).gapA || lostAsleep u ctx.val
      gapB := (ctxAt s ctx.val).gapB || lostAsleep u ctx.val })
    (hgood : ctxFault u y execA execB = none) : exec (.contextReload ctx execA execB) s =
      .next (loadEvent (ctxReady u ctx.val y execA execB) ctx.val 1) := by
  subst hy
  change execContextReload ctx execA execB s = _
  rw [execContextReload]
  dsimp only
  rw [if_neg (by simp [hup, hstate]), ha]
  dsimp only
  rw [hdata]
  dsimp only
  rw [hgood]

end

/-- Settles O26: each clause follows its command's checks, in their order. -/
theorem contexts : Obligations.Contexts := by
  unfold Obligations.Contexts
  refine ⟨?load, ?loadReady, ?loadInvalid, ?unload, ?unloadBusy, ?reload⟩
  case load => exact fun _ _ _ _ _ _ _ => exec_infLoad_starts
  case loadReady => exact fun _ _ _ _ _ hup => exec_infLoadComplete_ready hup
  case loadInvalid => exact fun _ _ _ _ _ _ hup => exec_infLoadComplete_invalid hup
  case unload => exact fun _ _ _ _ => exec_infUnload_frees
  case unloadBusy => exact fun _ _ _ _ => exec_infUnload_busy
  case reload => exact fun _ _ _ _ _ _ _ _ hup => exec_contextReload_ready hup

/-! ### Jobs -/

section
variable {s u v w : State} {h : DHdr} {b : List Byte} {out : Nat} {input brands : List Byte} (hs : Served s INF 3 h b)
  (hu : u = begun s INF 3 h b)
  (hclean : bodyDirty b ([16, 17] ++ (List.range 24).map (24 + ·)) = false) (hctx : leAt b 16 1 < 16)
  (hmin : 1 ≤ leAt b 17 1) (hmax : leAt b 17 1 ≤ 16) (hown : ownerOf u 11 (leAt b 16 1) = some h.part.val)
include hs hu hclean hctx hmin hmax hown

theorem exec_infRun_kept (hstate : ctxState u (leAt b 16 1) = 2)
    (hout : translate u h.part.val (leAt b 40 8) (2 * rsize (ctxAt u (leAt b 16 1)).img) 1 = some out)
    (hinput : ∀ f, withData u INF h 3 (leAt b 24 8) (imgInLen (ctxAt u (leAt b 16 1)).img) f = f v input)
    (hbrands : ∀ f, withData v INF h 3 (leAt b 32 8) (24 * leAt b 17 1) f = f w brands)
    (hform : ((List.range (leAt b 17 1)).map (fun i => slice brands (24 * i) 24)).all brandForm = true) :
    exec (.infRun h b) s = .next (addJob w ⟨w.inf.nextJob, leAt b 16 1, h.part.val, some h, none, input, brands,
      leAt b 17 1,
      ((List.range (leAt b 17 1)).map (fun i => slice brands (24 * i) 24)).any (fun l => bit (leAt l 2 1) 2),
      out, w.dt.stepped, w.now, newShare (ctxAt u (leAt b 16 1)).mode 0, newShare (ctxAt u (leAt b 16 1)).mode 1,
      (ctxAt u (leAt b 16 1)).seq, none, false, none, none, []⟩) := by
  subst hu
  change execInfRun h b s = _
  rw [execInfRun, descr_served hs]
  dsimp only
  rw [if_neg (by rw [hclean]; decide), if_neg (by omega), if_neg (by simp [hown]), if_neg (by omega),
    if_neg (by omega), hout]
  dsimp only
  rw [hinput, hbrands, if_neg (by simp only [hform]; decide)]

theorem exec_infRun_busy (hstate : ctxState u (leAt b 16 1) = 1) :
    exec (.infRun h b) s = .next (complete u INF h 3 CONTEXT_BUSY []) := by
  subst hu
  change execInfRun h b s = _
  rw [execInfRun, descr_served hs]
  dsimp only
  rw [if_neg (by rw [hclean]; decide), if_neg (by omega), if_neg (by simp [hown]), if_neg (by omega), if_pos hstate]

end

section
variable {s : State} {chan : Fin 2} {j : InfJob} (hup : infUp s = true)
include hup

section
variable {id : Nat} (hj : jobAt s id = some j) (hready : shareReady (shareOf j chan.val) = true)
  (hstate : ctxState s j.ctx = 2) (hch : chState s chan.val = 0) (hkat : (infCh s chan.val).kat = false)
  (hturn : jobTurn s chan.val j = true)
include hj hready hstate hch hkat hturn

theorem exec_jobStart_idle (hidle : runsOn s chan.val = none) :
    exec (.jobStart chan id) s = .next (takeJob s j chan.val) := by
  change execJobStart chan id s = _
  rw [execJobStart]
  rw [if_pos hup, hj]
  dsimp only
  rw [if_neg (by simp [hready, hstate]), if_neg (by simp [hch]), if_neg (by simp [hkat, hturn]), hidle]

/-- A safety job suspends another partition's. -/
theorem exec_jobStart_suspends {r : InfJob} (hsafe : safetyJob s j = true) (hrun : runsOn s chan.val = some r)
    (hother : safetyJob s r = false) :
    exec (.jobStart chan id) s = .next (takeJob (setJob s (setShare r chan.val .suspended)) j chan.val) := by
  change execJobStart chan id s = _
  rw [execJobStart]
  rw [if_pos hup, hj]
  dsimp only
  rw [if_neg (by simp [hready, hstate]), if_neg (by simp [hch]), if_neg (by simp [hkat, hturn]), hrun]
  dsimp only
  rw [if_pos (by simp [hsafe, hother])]

end

section
variable {r : List Byte} {fault : Fin 3} (hrun : runsOn s chan.val = some j)
include hrun

theorem exec_jobEnd_done
    (hr : r = resultRecord s j chan.val (runSection (sectionOf (ctxAt s j.ctx).img chan.val) j.input)) :
    exec (.jobEnd chan 0) s =
      .next (settle (resultWritten (setJob (storeData s j.part (recordAt s j chan.val) r)
        (setShare j chan.val (.done r))) j.ctx chan.val) j.id) := by
  subst hr
  change execJobEnd chan 0 s = _
  rw [execJobEnd]
  dsimp only
  rw [if_pos hup, hrun]
  dsimp only
  rw [if_neg (by decide)]

theorem exec_jobEnd_aborted (hfault : fault.val ≠ 0) :
    exec (.jobEnd chan fault) s = .next (abortShare s j chan.val fault.val) := by
  change execJobEnd chan fault s = _
  rw [execJobEnd]
  dsimp only
  rw [if_pos hup, hrun]
  dsimp only
  rw [if_pos hfault]

theorem exec_jobWatchdog_running : exec (.jobWatchdog chan) s = .next (abortShare s j chan.val 3) := by
  change execJobWatchdog chan s = _
  rw [execJobWatchdog, if_pos hup, hrun]

end

end

/-- Settles O27: each clause follows its command's checks, in their order. -/
theorem jobs : Obligations.Jobs := by
  unfold Obligations.Jobs
  refine ⟨?run, ?runBusy, ?start, ?suspend, ?done, ?aborted, ?watchdog⟩
  case run => exact fun _ _ _ _ _ _ _ _ _ => exec_infRun_kept
  case runBusy => exact fun _ _ _ _ => exec_infRun_busy
  case start => exact fun _ _ _ _ hup => exec_jobStart_idle hup
  case suspend => exact fun _ _ _ _ _ hup hj hready hstate hch hkat hturn =>
    exec_jobStart_suspends hup hj hready hstate hch hkat hturn
  case done => exact fun _ _ _ _ hup => exec_jobEnd_done hup
  case aborted => exact fun _ _ _ _ hup => exec_jobEnd_aborted hup
  case watchdog => exact fun _ _ _ hup => exec_jobWatchdog_running hup

/-! ### The comparator -/

section
variable {s : State} (hup : infUp s = true)
include hup

theorem exec_infResult_received {chan : Fin 2} {id : Nat} {damage : List Byte} {j k : InfJob} {r : List Byte}
    (hj : jobAt s id = some j) (hdone : shareOf j chan.val = .done r)
    (hk : k = (if chan.val = 0 then { j with rxA := j.rxA <|> some (r.zipWith (· ^^^ ·) (padTo r.length damage)) }
      else { j with rxB := j.rxB <|> some (r.zipWith (· ^^^ ·) (padTo r.length damage)) })) :
    exec (.infResult chan id damage) s =
      .next (if allReceived k then decideJob (setJob s k) id else setJob s k) := by
  subst hk
  change execInfResult chan id damage s = _
  rw [execInfResult, if_pos hup, hj]
  dsimp only
  rw [hdone]

theorem exec_pairTimeout_due {binding : Fin 8} {id : Nat} {j : InfJob} (hj : jobAt s id = some j)
    (hopen : (undecided s j).contains binding.val = true) (hmiss : allReceived j = false)
    (hl : lasted s j.since (10 * s.rd (BRD_BIND1_PAIR_TMO binding.val)) = true) :
    exec (.pairTimeout binding id) s = .next (forgetJob (decideBind id true s binding.val) id) := by
  change execPairTimeout binding id s = _
  rw [execPairTimeout, if_pos hup, hj]
  dsimp only
  rw [if_pos (by rw [hopen, hmiss, hl]; decide)]

theorem exec_noInputTimeout_due {binding : Fin 8} (hon : bindOn s binding.val = true)
    (hno : noInput s binding.val = true) : exec (.noInputTimeout binding) s =
      .next (actVerdict (brandFault s 2 NO_INPUT (ownerOr0 s 11 (s.rd (BRD_BIND0_CTX binding.val))) 0 0) binding.val
        NO_INPUT 0 0 0 0) := by
  change execNoInputTimeout binding s = _
  rw [execNoInputTimeout]
  dsimp only
  rw [if_pos (by rw [hup, hon, hno]; decide)]

/-! ### Known-answer tests -/

section
variable {chan : Fin 2} (hch : chState s chan.val = 0) (hkat : (infCh s chan.val).kat = false)
  (hidle : runsOn s chan.val = none)
include hch hkat hidle

theorem exec_katStart_forced (hl : lasted s (infCh s chan.val).katSince 250000 = true) :
    exec (.katStart chan true) s = .next (((setInfCh s chan.val
      { infCh s chan.val with kat := true, katSince := s.now, forced := true }).bump INF_CNT0_KATS 1).bump
      INF_CNT0_FORCED 1) := by
  change execKatStart chan true s = _
  rw [execKatStart]
  simp only [if_true]
  rw [if_neg (by simp [hup, hch, hkat, hl]), hidle]
  rfl

theorem exec_katStart_due (hl : lasted s (infCh s chan.val).katSince 100000 = true)
    (hnone : s.inf.jobs.any (fun j => shareReady (shareOf j chan.val) && ctxState s j.ctx == 2) = false) :
    exec (.katStart chan false) s = .next ((setInfCh s chan.val
      { infCh s chan.val with kat := true, katSince := s.now, forced := false }).bump INF_CNT0_KATS 1) := by
  change execKatStart chan false s = _
  rw [execKatStart]
  simp only [Bool.false_eq_true, if_false]
  rw [if_neg (by simp [hup, hch, hkat, hl]), hidle]
  dsimp only
  rw [if_neg (by rw [hnone]; decide)]

end

section
variable {chan : Fin 2} {part : Fin 3} {ctx : Fin 16} {g : Option Nat} {u v : State}

section
variable (hkat : (infCh s chan.val).kat = true) (hg : g = goldenTurn s chan.val ctx.val)
include hkat hg

theorem exec_katEnd_passes (hgood : katBad part.val g = false) (hu : u = goldenRan s chan.val g) :
    exec (.katEnd chan part ctx) s = .next (setInfCh u chan.val { infCh u chan.val with kat := false }) := by
  subst hu hg
  change execKatEnd chan part ctx s = _
  rw [execKatEnd]
  dsimp only
  rw [if_neg (by simp [hup, hkat]), if_pos (by rw [hgood]; decide)]

theorem exec_katEnd_fails (hbad : katBad part.val g = true) (hv : v = goldenRan s chan.val g)
    (hu : u = setInfCh v chan.val { infCh v chan.val with kat := false }) :
    exec (.katEnd chan part ctx) s = .next (katEvent (setChState ((setInfCh u chan.val
      { infCh u chan.val with passes := 0, fails := 0 }).bump INF_CNT1_KAT_FAILS 1) chan.val 1) chan.val part.val
      (g.getD 0)) := by
  subst hu hv hg
  change execKatEnd chan part ctx s = _
  rw [execKatEnd]
  dsimp only
  rw [if_neg (by simp [hup, hkat]), if_neg (by rw [hbad]; decide)]

end

section
variable (hch : chState s chan.val = 1) (hl : lasted s (infCh s chan.val).katSince 10000 = true)
  (hg : g = goldenTurn s chan.val ctx.val) (hu : u = goldenRan s chan.val g)
include hch hl hg hu

theorem exec_katRetest_restores (hgood : katBad part.val g = false) (hpasses : 2 ≤ (infCh u chan.val).passes + 1) :
    exec (.katRetest chan part ctx) s = .next (katEvent (setChState ((setInfCh u chan.val
      { infCh u chan.val with katSince := s.now, passes := (infCh u chan.val).passes + 1, fails := 0 }).bump
      INF_CNT0_KATS 1) chan.val 0) chan.val 0 (g.getD 0)) := by
  subst hu hg
  change execKatRetest chan part ctx s = _
  rw [execKatRetest]
  dsimp only
  rw [if_neg (by simp [hup, hch, hl]), if_pos (by rw [hgood]; decide), if_pos hpasses]

theorem exec_katRetest_removes (hbad : katBad part.val g = true) (hfails : 3 ≤ (infCh u chan.val).fails + 1) :
    exec (.katRetest chan part ctx) s = .next (katEvent (setChState (((setInfCh u chan.val
      { infCh u chan.val with katSince := s.now, passes := 0, fails := (infCh u chan.val).fails + 1 }).bump
      INF_CNT0_KATS 1).bump INF_CNT1_KAT_FAILS 1) chan.val 3) chan.val part.val (g.getD 0)) := by
  subst hu hg
  change execKatRetest chan part ctx s = _
  rw [execKatRetest]
  dsimp only
  rw [if_neg (by simp [hup, hch, hl]), if_neg (by rw [hbad]; decide), if_pos hfails]

end

end

end

/-- Settles O28: each clause follows its command's branches. -/
theorem verdicts : Obligations.Verdicts := by
  unfold Obligations.Verdicts
  refine ⟨?result, ?pairTimeout, ?noInput, ?forced, ?due, ?passes, ?fails, ?restores, ?removes⟩
  case result => exact fun _ _ _ _ _ _ _ hup => exec_infResult_received hup
  case pairTimeout => exact fun _ _ _ _ hup => exec_pairTimeout_due hup
  case noInput => exact fun _ _ hup => exec_noInputTimeout_due hup
  case forced => exact fun _ _ hup hch hkat hl hidle => exec_katStart_forced hup hch hkat hidle hl
  case due => exact fun _ _ hup hch hkat hl hidle => exec_katStart_due hup hch hkat hidle hl
  case passes => exact fun _ _ _ _ _ _ hup => exec_katEnd_passes hup
  case fails => exact fun _ _ _ _ _ _ _ hup => exec_katEnd_fails hup
  case restores =>
    exact fun _ _ _ _ _ _ hup hch hl hg hgood hu => exec_katRetest_restores hup hch hl hg hu hgood
  case removes =>
    exact fun _ _ _ _ _ _ hup hch hl hg hbad hu => exec_katRetest_removes hup hch hl hg hu hbad

end Sys2Proof.Machine
end

section
/-! SUPPORT.
CAN and LIN frames: reception, transmission, bus-off, schedules and responses (R378 to R383, R386).
-/

namespace Sys2Proof.Machine

/-! ### CAN reception and bus-off -/

section
variable {s : State} {bus : Fin 4} (hrun : canRuns s bus.val = true)
include hrun

theorem exec_canFrameRx_frame {m : List Byte} (hon : (canAt s bus.val).off = false) (hfmt : msgFmt m ≠ 3)
    (hen : fmtOn s bus.val (msgFmt m) = true) (hlen : lenOk (msgFmt m) (msgLen m) = true) :
    exec (.canFrameRx bus (.frame m)) s = .next (canChange bus.val (s.rd (SUB_CAN_STAT_STATE bus.val))
      (canReceive (rxGood s bus.val) bus.val (padTo (16 + (if bit (msgFlags m) 4 then 0 else msgLen m)) m))) := by
  change execCanFrameRx bus (.frame m) s = _
  rw [execCanFrameRx]
  dsimp only
  rw [if_neg (by simp [hrun, hon]), if_neg (by simp [hfmt, hen, hlen])]
  rfl

theorem exec_canFrameRx_txError (hon : (canAt s bus.val).off = false) : exec (.canFrameRx bus .txError) s =
    .next (sleepDue (canChange bus.val (s.rd (SUB_CAN_STAT_STATE bus.val)) (txError (failOnce s bus.val) bus.val))
      bus.val) := by
  change execCanFrameRx bus .txError s = _
  rw [execCanFrameRx]
  rw [if_neg (by simp [hrun, hon])]
  rfl

theorem exec_busoffRecovered (hoff : (canAt s bus.val).off = true) (hrec : (canAt s bus.val).recovering = true) :
    exec (.busoffRecovered bus) s = .next (canChange bus.val 3 (((setCan s bus.val
      { canAt s bus.val with off := false, recovering := false }).wr (SUB_CAN_STAT_TEC bus.val) 0).wr
      (SUB_CAN_STAT_REC bus.val) 0)) := by
  change execBusoffRecovered bus s = _
  rw [execBusoffRecovered]
  dsimp only
  rw [if_pos (by simp [hrun, hoff, hrec])]

end

/-! ### CAN transmission -/

section
variable {s u : State} {h : DHdr} {b : List Byte} (hs : Served s BUS 1 h b) (hu : u = begun s BUS 1 h b)
  (hclean : bodyDirty b ([16, 17, 18] ++ (List.range 20).map (20 + ·)) = false) (hflags : leAt b 18 1 < 64)
  (hid : leAt b 20 4 < 2 ^ 29) (hring : h.ring.val < 2) (hbus : leAt b 16 1 < 4)
  (hfmt : leAt b 17 1 = 0) (heff : bit (leAt b 18 1) 0 = true) (hbrs : bit (leAt b 18 1) 1 = false)
  (hrtr : bit (leAt b 18 1) 2 = false) (hsec : bit (leAt b 18 1) 4 = false) (hinl : bit (leAt b 18 1) 5 = true)
  (hlen : leAt b 24 2 ≤ 8) (hsdt : leAt b 26 2 = 0) (haf : leAt b 28 4 = 0)
  (hown : ownerOf u 8 (leAt b 16 1) = some h.part.val)
include hs hu hclean hflags hid hring hbus hfmt heff hbrs hrtr hsec hinl hlen hsdt haf hown

/-- A classic frame with a 29-bit identifier and its data in the descriptor: sent where the bus takes it. -/
theorem exec_canTx_classic : exec (.canTx h b) s = .next (
    if (canAt u (leAt b 16 1)).off then complete u BUS h 1 BUS_OFF []
    else if (canAt u (leAt b 16 1)).sleepFor.isSome then complete u BUS h 1 TX_TIMEOUT []
    else
      let m := busBytes (leAt b 20 4) (leAt b 24 2) 4 (leAt b 16 1) (leAt b 26 1) (leAt b 27 1) 0
        (slice b 32 (leAt b 24 2))
      setCan u (leAt b 16 1) { canAt u (leAt b 16 1) with
        pend := (canAt u (leAt b 16 1)).pend ++ [⟨h, ⟨m, arbKey m⟩, bit (leAt b 18 1) 3, u.now⟩] }) := by
  have hgood : lenOk 0 (leAt b 24 2) = true := decide_eq_true hlen
  subst hu
  change execCanTx h b s = _
  rw [execCanTx, descr_served hs]
  simp only [hfmt, heff, hbrs, hrtr, hsec, hinl, haf]
  rw [if_neg (by rw [hclean]; simp; omega), if_neg (by simp [hgood, hsdt]; omega), if_neg (by simp [hown]),
    if_neg (by simp [fmtOn]), if_pos (by simp)]
  rfl

theorem exec_canTx_queued {m : List Byte} (hsdt' : leAt b 26 1 = 0) (hvcid : leAt b 27 1 = 0)
    (hon : (canAt u (leAt b 16 1)).off = false) (hawake : (canAt u (leAt b 16 1)).sleepFor = none)
    (hm : m = busBytes (leAt b 20 4) (leAt b 24 2) 4 (leAt b 16 1) 0 0 0 (slice b 32 (leAt b 24 2))) :
    exec (.canTx h b) s = .next (setCan u (leAt b 16 1) { canAt u (leAt b 16 1) with
      pend := (canAt u (leAt b 16 1)).pend ++ [⟨h, ⟨m, arbKey m⟩, bit (leAt b 18 1) 3, u.now⟩] }) := by
  rw [exec_canTx_classic hs hu hclean hflags hid hring hbus hfmt heff hbrs hrtr hsec hinl hlen hsdt haf hown,
    if_neg (by simp [hon]), if_neg (by simp [hawake]), hm, hsdt', hvcid]

theorem exec_canTx_busOff (hoff : (canAt u (leAt b 16 1)).off = true) :
    exec (.canTx h b) s = .next (complete u BUS h 1 BUS_OFF []) := by
  rw [exec_canTx_classic hs hu hclean hflags hid hring hbus hfmt heff hbrs hrtr hsec hinl hlen hsdt haf hown,
    if_pos hoff]

end

/-! ### Sent frames and time-outs -/

section
variable {s : State} {bus : Fin 6}

theorem exec_busFrameSent_can (hrun : canRuns s bus.val = true) (hon : (canAt s bus.val).off = false)
    (hlisten : s.flag (SUB_CAN_CFG_LISTEN bus.val) = false) :
    exec (.busFrameSent false bus) s = .next (sleepDue (canSent s bus.val) bus.val) := by
  change execBusFrameSent false bus s = _
  rw [execBusFrameSent]
  dsimp only
  rw [if_neg (by decide), if_pos (by simp [hrun, hon, hlisten])]

theorem exec_busFrameSent_lin {x : LinPend} (hrun : linRuns s bus.val = true)
    (hx : (linAt s bus.val).current = some x) (hpub : x.publish = true) : exec (.busFrameSent true bus) s =
      .next (complete (setLin s bus.val { linAt s bus.val with current := none }) BUS x.hdr 2 OK []) := by
  change execBusFrameSent true bus s = _
  rw [execBusFrameSent]
  dsimp only
  rw [if_pos rfl, hx]
  dsimp only
  rw [if_pos (by simp [hrun, hpub])]

theorem exec_busTxTimeout_can {x : CanPend} {rest : List CanPend} (hup : cdUp s = true)
    (hpend : (canAt s bus.val).pend = x :: rest)
    (hl : lasted s x.since (1000 * s.rd (SUB_CAN_CFG_TX_TMO bus.val)) = true) :
    exec (.busTxTimeout false bus) s = .next (sleepDue (complete (setCan s bus.val
      { canAt s bus.val with pend := rest }) BUS x.hdr 1 TX_TIMEOUT []) bus.val) := by
  change whileCd s _ = _
  rw [whileCd_of_up hup]
  dsimp only
  rw [if_neg (by decide), hpend]
  dsimp only
  rw [if_pos hl]

theorem exec_busTxTimeout_lin {x : LinPend} (hup : cdUp s = true) (hx : (linAt s bus.val).current = some x)
    (hl : lasted s x.since (1000 * s.rd (SUB_LIN_CFG_TX_TMO bus.val)) = true) :
    exec (.busTxTimeout true bus) s = .next (complete (setLin s bus.val
      { linAt s bus.val with current := none }) BUS x.hdr 2 TX_TIMEOUT []) := by
  change whileCd s _ = _
  rw [whileCd_of_up hup]
  dsimp only
  rw [if_pos rfl, hx]
  dsimp only
  rw [if_pos hl]

end

/-- Settles O31: each clause follows its command's checks; the two of CAN_TX share one lemma. -/
theorem canFrames : Obligations.CanFrames := by
  unfold Obligations.CanFrames
  refine ⟨?frame, ?txError, ?recovered, ?queued, ?busOff, ?sentCan, ?sentLin, ?timeoutCan, ?timeoutLin⟩
  case frame =>
    rintro bus ev m s hrun hon rfl hfmt hen hlen
    exact exec_canFrameRx_frame hrun hon hfmt hen hlen
  case txError =>
    rintro bus ev s hrun hon rfl
    exact exec_canFrameRx_txError hrun hon
  case recovered => exact fun _ _ hrun => exec_busoffRecovered hrun
  case queued =>
    exact fun h b u m s hs hu hclean hflags hid hring hbus _ hfmt heff hbrs hrtr hsec hinl hlen hsdt hsdt' hvcid haf
      hown _ => exec_canTx_queued hs hu hclean hflags hid hring hbus hfmt heff hbrs hrtr hsec hinl hlen hsdt haf hown
        hsdt' hvcid
  case busOff =>
    exact fun h b u s hs hu hclean hflags hid hring hbus _ hfmt heff hbrs hrtr hsec hinl hlen hsdt _ _ haf hown _ =>
      exec_canTx_busOff hs hu hclean hflags hid hring hbus hfmt heff hbrs hrtr hsec hinl hlen hsdt haf hown
  case sentCan => exact fun _ _ => exec_busFrameSent_can
  case sentLin => exact fun _ _ _ => exec_busFrameSent_lin
  case timeoutCan => exact fun _ _ _ _ => exec_busTxTimeout_can
  case timeoutLin => exact fun _ _ _ => exec_busTxTimeout_lin

/-! ### LIN descriptors -/

section
variable {s u v : State} {h : DHdr} {b : List Byte}

theorem exec_linTx_inserted (hs : Served s BUS 2 h b) (hu : u = begun s BUS 2 h b)
    (hclean : bodyDirty b ([16, 17, 18, 19] ++ (List.range 8).map (24 + ·)) = false) (hflags : leAt b 18 1 < 4)
    (hring : h.ring.val < 2) (hbus : leAt b 16 1 < 6) (hid : leAt b 17 1 < 64) (hmin : 1 ≤ leAt b 19 1)
    (hmax : leAt b 19 1 ≤ 8) (hown : ownerOf u 9 (leAt b 16 1) = some h.part.val)
    (hmode : u.rd (SUB_LIN_CFG_MODE (leAt b 16 1)) ≠ 1) : exec (.linTx h b) s =
      .next (linKick (setLin u (leAt b 16 1) { linAt u (leAt b 16 1) with
        insert := (linAt u (leAt b 16 1)).insert ++ [⟨h, leAt b 17 1, bit (leAt b 18 1) 0, bit (leAt b 18 1) 1,
          leAt b 19 1, slice b 24 (leAt b 19 1), u.now⟩] }) (leAt b 16 1)) := by
  subst hu
  change execLinTx h b s = _
  rw [execLinTx, descr_served hs]
  dsimp only
  rw [if_neg (by rw [hclean]; simp; omega), if_neg (by omega), if_neg (by simp [hown]), if_neg hmode]

section
variable (hs : Served s BUS 4 h b) (hu : u = begun s BUS 4 h b)
  (hclean : bodyDirty b ([16, 17, 18] ++ (List.range 8).map (24 + ·)) = false) (hring : h.ring.val < 2)
  (hbus : leAt b 16 1 < 6) (hown : ownerOf u 9 (leAt b 16 1) = some h.part.val)
  (hmode : u.rd (SUB_LIN_CFG_MODE (leAt b 16 1)) ≠ 1)
include hs hu hclean hring hbus hown hmode

theorem exec_linSched_stops (hop : leAt b 17 1 = 0) : exec (.linSched h b) s =
    .next (complete (linKick (setLin u (leAt b 16 1) { linAt u (leAt b 16 1) with due := some [] }) (leAt b 16 1)) BUS h
      4 OK []) := by
  subst hu
  change execLinSched h b s = _
  rw [execLinSched, descr_served hs]
  dsimp only
  rw [if_neg (by rw [hclean]; decide), if_neg (by omega), if_neg (by simp [hown]), if_neg hmode, if_pos hop]

theorem exec_linSched_loads {m : List Byte} (hop : leAt b 17 1 = 1) (hmin : 1 ≤ leAt b 18 1) (hmax : leAt b 18 1 ≤ 64)
    (hdata : ∀ f, withData u BUS h 4 (leAt b 24 8) (4 * leAt b 18 1) f = f v m)
    (hgood : (List.range (leAt b 18 1)).all (entryOk m) = true) : exec (.linSched h b) s =
      .next (complete (linKick (setLin v (leAt b 16 1) { linAt v (leAt b 16 1) with
        due := some ((List.range (leAt b 18 1)).map (schedEntry m)) }) (leAt b 16 1)) BUS h 4 OK []) := by
  subst hu
  change execLinSched h b s = _
  rw [execLinSched, descr_served hs]
  dsimp only
  rw [if_neg (by rw [hclean]; decide), if_neg (by omega), if_neg (by simp [hown]), if_neg hmode, if_neg (by omega),
    hdata, if_neg (by rw [hgood]; decide)]

end

theorem exec_linResp_sets (hs : Served s BUS 5 h b) (hu : u = begun s BUS 5 h b)
    (hclean : bodyDirty b ([16, 17, 18, 19] ++ (List.range 8).map (24 + ·)) = false) (hflags : leAt b 18 1 < 4)
    (hring : h.ring.val < 2) (hbus : leAt b 16 1 < 6) (hid : leAt b 17 1 < 64) (hset : bit (leAt b 18 1) 0 = false)
    (hmin : 1 ≤ leAt b 19 1) (hmax : leAt b 19 1 ≤ 8) (hown : ownerOf u 9 (leAt b 16 1) = some h.part.val) :
    exec (.linResp h b) s = .next (complete (setResp u (leAt b 16 1) (leAt b 17 1)
      (some (slice b 24 (leAt b 19 1), bit (leAt b 18 1) 1))) BUS h 5 OK []) := by
  subst hu
  change execLinResp h b s = _
  rw [execLinResp, descr_served hs]
  simp only [hset]
  rw [if_neg (by rw [hclean]; simp; omega), if_neg (by simp; omega), if_neg (by simp [hown])]
  rfl

end

/-! ### LIN slots, headers and responses -/

section
variable {s : State} {bus : Fin 6} (hrun : linRuns s bus.val = true)
include hrun

theorem exec_linSlot_next (hmode : s.rd (SUB_LIN_CFG_MODE bus.val) = 0) (hclear : wakeClear s bus.val = true) :
    exec (.linSlot bus) s = .next (linNext (linSlotEnd s bus.val) bus.val) := by
  change execLinSlot bus s = _
  rw [execLinSlot]
  rw [if_pos (by simp [hrun, hmode, hclear])]

section
variable (hmode : s.rd (SUB_LIN_CFG_MODE bus.val) ≠ 0)
include hmode

theorem exec_linHeaderRx_answers {id : Fin 64} {r : List Byte × Bool} (hr : respOf s bus.val id.val = some r) :
    exec (.linHeaderRx bus id) s = .next (emit (setLin s bus.val { linAt s bus.val with awaits := none })
      (.linResponse bus.val id.val (linClassic id.val r.2) r.1)) := by
  change execLinHeaderRx bus id s = _
  rw [execLinHeaderRx]
  dsimp only
  rw [if_neg (by simp [hrun, hmode]), hr]

theorem exec_linHeaderRx_listens {id : Fin 64} (hr : respOf s bus.val id.val = none) :
    exec (.linHeaderRx bus id) s = .next (setLin s bus.val
      { linAt s bus.val with awaits := some (id.val, 0, linClassic id.val false) }) := by
  change execLinHeaderRx bus id s = _
  rw [execLinHeaderRx]
  dsimp only
  rw [if_neg (by simp [hrun, hmode]), hr]

theorem exec_linGotoSleep : exec (.linGotoSleep bus) s =
    .next (raise (showLin (setLin s bus.val { linAt s bus.val with asleep := true, awaits := none }) bus.val) 51 false
      [ownerOr0 s 9 bus.val] [byte bus.val]) := by
  change execLinGotoSleep bus s = _
  rw [execLinGotoSleep]
  dsimp only
  rw [if_neg (by simp [hrun, hmode])]

end

section
variable {data : List Byte} {id len : Nat} {classic : Bool} {x : LinPend}
  (haw : (linAt s bus.val).awaits = some (id, len, classic))
include haw

theorem exec_linResponseRx_good (hmin : 1 ≤ data.length) (hmax : data.length ≤ 8)
    (hlen : len = 0 ∨ data.length = len) :
    exec (.linResponseRx bus data true) s = .next (linReceive s bus.val id classic data) := by
  change execLinResponseRx bus data true s = _
  rw [execLinResponseRx]
  dsimp only
  rw [if_pos hrun, haw]
  dsimp only
  rw [if_pos (by simp [hmin, hmax, hlen])]

theorem exec_linResponseRx_bad (hx : (linAt s bus.val).current = some x) : exec (.linResponseRx bus data false) s =
    .next (complete ((setLin s bus.val { linAt s bus.val with awaits := none, current := none }).bump SUB_CNT3_LIN_ERR
      1) BUS x.hdr 2 NO_RESPONSE []) := by
  change execLinResponseRx bus data false s = _
  rw [execLinResponseRx]
  dsimp only
  rw [if_pos hrun, haw]
  dsimp only
  rw [if_neg (by simp), hx]

end

end

/-- Settles O32: each clause follows its command's checks, in their order. -/
theorem linFrames : Obligations.LinFrames := by
  unfold Obligations.LinFrames
  refine ⟨?tx, ?stop, ?load, ?slot, ?resp, ?answer, ?listen, ?good, ?bad, ?sleep⟩
  case tx => exact fun _ _ _ _ => exec_linTx_inserted
  case stop =>
    exact fun _ _ _ _ hs hu hclean hring hbus hop hown hmode =>
      exec_linSched_stops hs hu hclean hring hbus hown hmode hop
  case load =>
    exact fun _ _ _ _ _ _ hs hu hclean hring hbus hop hmin hmax hown hmode =>
      exec_linSched_loads hs hu hclean hring hbus hown hmode hop hmin hmax
  case slot => exact fun _ _ hrun => exec_linSlot_next hrun
  case resp => exact fun _ _ _ _ => exec_linResp_sets
  case answer => exact fun _ _ _ _ hrun hmode => exec_linHeaderRx_answers hrun hmode
  case listen => exact fun _ _ _ hrun hmode => exec_linHeaderRx_listens hrun hmode
  case good => exact fun _ _ _ _ _ _ hrun => exec_linResponseRx_good hrun
  case bad => exact fun _ _ _ _ _ _ _ hrun => exec_linResponseRx_bad hrun
  case sleep => exact fun _ _ hrun => exec_linGotoSleep hrun

end Sys2Proof.Machine
end

section
/-! SUPPORT.
The store's descriptors, their completion and the drain of its buffer (R447 to R453, R459, R460, R463).
-/

namespace Sys2Proof.Machine

/-! ### The data commands -/

/-- What a data command takes at its start: what a READ sees, the data of a write, and nothing for a TRIM (R453). -/
def takenData (op : Nat) (s : State) (b : List Byte) (a : Nat) : List (List Byte) :=
  if op = 1 then (List.range (leAt b 20 4)).map (fun i => viewBlk s (leAt b 16 1) (leAt b 24 8 + i))
  else if op = 4 then []
  else toBlks (readBytes s a (4096 * leAt b 20 4)) (leAt b 20 4)

/-- The place of a data command's buffer: a READ's in writable memory, a TRIM's nowhere. -/
def stoBuf (op : Nat) (s : State) (h : DHdr) (b : List Byte) : Option Nat :=
  if op = 4 then some 0 else translate s h.part.val (leAt b 32 8) (4096 * leAt b 20 4) (if op = 1 then 1 else 0)

section
variable {op : Nat} {h : DHdr} {b : List Byte} {u : State} {a : Nat}
  (hclean : bodyDirty b ([16, 17, 20, 21, 22, 23] ++ (List.range 16).map (24 + ·)) = false)
  (hown : ownerOf u 10 (leAt b 16 1) = some h.part.val) (hns : nsAt u (leAt b 16 1) ≠ none)
  (hmin : 1 ≤ leAt b 20 4) (hmax : leAt b 20 4 ≤ stoMax op) (hflag : leAt b 17 1 = 0 ∨ (leAt b 17 1 = 1 ∧ op = 2))
  (halign : leAt b 32 8 % 64 = 0) (htrim : op = 4 → leAt b 32 8 = 0)
  (hsize : leAt b 24 8 + leAt b 20 4 ≤ nsSize u (leAt b 16 1)) (hhome : op = 4 ∨ homeOf u h.part.val ≠ 2)
  (hbuf : stoBuf op u h b = some a) (hlost : u.sto.lost = false)
  (hro : op = 1 ∨ readOnly u (leAt b 16 1) = false)
  (hfull : (op = 2 ∨ op = 3) → (healthOf u (leAt b 16 1)).2.2 = true →
    mapsNew u (leAt b 16 1) (leAt b 24 8) (leAt b 20 4) = false)
include hclean hown hns hmin hmax hflag halign htrim hsize hhome hbuf hlost hro hfull

/-- A data command that passes the checks of R446 starts with what it takes. -/
theorem stoData_starts : stoData op h b u =
    startSto (if op = 2 ∨ op = 3 then (slotsHit (leAt b 16 1) (leAt b 24 8) (leAt b 20 4)).foldl unverify u else u)
      ⟨h, op, leAt b 16 1, leAt b 24 8, leAt b 20 4, takenData op u b a,
        leAt b 17 1 == 1 && wbGranted u (leAt b 16 1) (leAt b 20 4), a⟩ := by
  have hsome : (nsAt u (leAt b 16 1)).isNone = false := by
    rw [Option.isNone_eq_false_iff]; exact Option.isSome_iff_ne_none.mpr hns
  have hplace : (if op = 4 then some 0 else translate u h.part.val (leAt b 32 8)
      (if op = 4 then 0 else 4096 * leAt b 20 4) (if op = 1 then 1 else 0)) = some a := by
    rw [← hbuf, stoBuf]
    split <;> rfl
  rw [stoData]
  dsimp only
  rw [if_neg (by rw [hclean]; simp; omega), if_neg (by simp [hown]), if_neg (by rw [hsome]; simp; omega), hplace]
  dsimp only
  rw [if_neg (by rw [hlost]; decide),
    if_neg (by rintro ⟨h1, h2⟩; rcases hro with e | e; exacts [h1 e, by simp [e] at h2]),
    if_neg (by rintro ⟨h1, h2, h3⟩; rw [hfull h1 h2] at h3; exact absurd h3 (by decide))]
  congr 2
  unfold takenData
  split <;> simp_all

end

section
variable {s u : State} {h : DHdr} {b : List Byte} {a : Nat}

theorem exec_stoRead_starts (hs : Served s STO 1 h b) (hu : u = begun s STO 1 h b)
    (hclean : bodyDirty b ([16, 17, 20, 21, 22, 23] ++ (List.range 16).map (24 + ·)) = false)
    (hown : ownerOf u 10 (leAt b 16 1) = some h.part.val) (hns : nsAt u (leAt b 16 1) ≠ none)
    (hmin : 1 ≤ leAt b 20 4) (hmax : leAt b 20 4 ≤ 256) (hflag : leAt b 17 1 = 0) (halign : leAt b 32 8 % 64 = 0)
    (hsize : leAt b 24 8 + leAt b 20 4 ≤ nsSize u (leAt b 16 1)) (hhome : homeOf u h.part.val ≠ 2)
    (hbuf : translate u h.part.val (leAt b 32 8) (4096 * leAt b 20 4) 1 = some a) (hlost : u.sto.lost = false) :
    exec (.stoRead h b) s = .next (startSto u ⟨h, 1, leAt b 16 1, leAt b 24 8, leAt b 20 4,
      (List.range (leAt b 20 4)).map (fun i => viewBlk u (leAt b 16 1) (leAt b 24 8 + i)), false, a⟩) := by
  subst hu
  change execStoRead h b s = _
  rw [execStoRead, descr_served hs, stoData_starts (op := 1) hclean hown hns hmin hmax (.inl hflag) halign (by simp)
    hsize (.inr hhome) hbuf hlost (.inl rfl) (by simp), if_neg (by decide), hflag]
  rfl

theorem exec_stoWrite_starts (hs : Served s STO 2 h b) (hu : u = begun s STO 2 h b)
    (hclean : bodyDirty b ([16, 17, 20, 21, 22, 23] ++ (List.range 16).map (24 + ·)) = false)
    (hown : ownerOf u 10 (leAt b 16 1) = some h.part.val) (hns : nsAt u (leAt b 16 1) ≠ none)
    (hmin : 1 ≤ leAt b 20 4) (hmax : leAt b 20 4 ≤ 256) (hflag : leAt b 17 1 < 2) (halign : leAt b 32 8 % 64 = 0)
    (hsize : leAt b 24 8 + leAt b 20 4 ≤ nsSize u (leAt b 16 1)) (hhome : homeOf u h.part.val ≠ 2)
    (hbuf : translate u h.part.val (leAt b 32 8) (4096 * leAt b 20 4) 0 = some a) (hlost : u.sto.lost = false)
    (hro : readOnly u (leAt b 16 1) = false) (hfull : (healthOf u (leAt b 16 1)).2.2 = true →
      mapsNew u (leAt b 16 1) (leAt b 24 8) (leAt b 20 4) = false) :
    exec (.stoWrite h b) s =
      .next (startSto ((slotsHit (leAt b 16 1) (leAt b 24 8) (leAt b 20 4)).foldl unverify u)
        ⟨h, 2, leAt b 16 1, leAt b 24 8, leAt b 20 4,
          toBlks (readBytes u a (4096 * leAt b 20 4)) (leAt b 20 4),
          leAt b 17 1 == 1 && wbGranted u (leAt b 16 1) (leAt b 20 4), a⟩) := by
  subst hu
  change execStoWrite h b s = _
  rw [execStoWrite, descr_served hs, stoData_starts (op := 2) hclean hown hns hmin hmax (by omega) halign (by simp)
    hsize (.inr hhome) hbuf hlost (.inr hro) (fun _ => hfull), if_pos (by decide)]
  rfl

theorem exec_stoWriteAtomic_starts (hs : Served s STO 3 h b) (hu : u = begun s STO 3 h b)
    (hclean : bodyDirty b ([16, 17, 20, 21, 22, 23] ++ (List.range 16).map (24 + ·)) = false)
    (hown : ownerOf u 10 (leAt b 16 1) = some h.part.val) (hns : nsAt u (leAt b 16 1) ≠ none)
    (hmin : 1 ≤ leAt b 20 4) (hmax : leAt b 20 4 ≤ 64) (hflag : leAt b 17 1 = 0) (halign : leAt b 32 8 % 64 = 0)
    (hsize : leAt b 24 8 + leAt b 20 4 ≤ nsSize u (leAt b 16 1)) (hhome : homeOf u h.part.val ≠ 2)
    (hbuf : translate u h.part.val (leAt b 32 8) (4096 * leAt b 20 4) 0 = some a) (hlost : u.sto.lost = false)
    (hro : readOnly u (leAt b 16 1) = false) (hfull : (healthOf u (leAt b 16 1)).2.2 = true →
      mapsNew u (leAt b 16 1) (leAt b 24 8) (leAt b 20 4) = false) :
    exec (.stoWriteAtomic h b) s =
      .next (startSto ((slotsHit (leAt b 16 1) (leAt b 24 8) (leAt b 20 4)).foldl unverify u)
        ⟨h, 3, leAt b 16 1, leAt b 24 8, leAt b 20 4,
          toBlks (readBytes u a (4096 * leAt b 20 4)) (leAt b 20 4), false, a⟩) := by
  subst hu
  change execStoWriteAtomic h b s = _
  rw [execStoWriteAtomic, descr_served hs, stoData_starts (op := 3) hclean hown hns hmin hmax (.inl hflag) halign
    (by simp) hsize (.inr hhome) hbuf hlost (.inr hro) (fun _ => hfull), if_pos (by decide), hflag]
  rfl

theorem exec_stoTrim_starts (hs : Served s STO 4 h b) (hu : u = begun s STO 4 h b)
    (hclean : bodyDirty b ([16, 17, 20, 21, 22, 23] ++ (List.range 16).map (24 + ·)) = false)
    (hown : ownerOf u 10 (leAt b 16 1) = some h.part.val) (hns : nsAt u (leAt b 16 1) ≠ none)
    (hmin : 1 ≤ leAt b 20 4) (hmax : leAt b 20 4 ≤ 16777216) (hflag : leAt b 17 1 = 0) (hzero : leAt b 32 8 = 0)
    (hsize : leAt b 24 8 + leAt b 20 4 ≤ nsSize u (leAt b 16 1)) (hlost : u.sto.lost = false)
    (hro : readOnly u (leAt b 16 1) = false) :
    exec (.stoTrim h b) s =
      .next (startSto u ⟨h, 4, leAt b 16 1, leAt b 24 8, leAt b 20 4, [], false, 0⟩) := by
  subst hu
  change execStoTrim h b s = _
  rw [execStoTrim, descr_served hs, stoData_starts (op := 4) hclean hown hns hmin hmax (.inl hflag) (by rw [hzero])
    (fun _ => hzero) hsize (.inl rfl) (a := 0) rfl hlost (.inr hro) (by simp), if_neg (by decide), hflag]
  rfl

/-! ### FLUSH and STATUS -/

theorem exec_stoFlush_waits (hs : Served s STO 5 h b) (hu : u = begun s STO 5 h b) (hclean : bodyDirty b [16] = false)
    (hone : leAt b 16 1 ≠ 255) (hown : ownerOf u 10 (leAt b 16 1) = some h.part.val)
    (hns : nsAt u (leAt b 16 1) ≠ none) (hlost : u.sto.lost = false) : exec (.stoFlush h b) s =
      .next (endFlushes { u with sto := { u.sto with flushes := u.sto.flushes ++
        [(h, (u.sto.dirty.filter (fun e => keyNs e.1 == leAt b 16 1)).map (fun e => e.1), 0)] } }) := by
  subst hu
  change execStoFlush h b s = _
  rw [execStoFlush, descr_served hs]
  simp only [if_neg hone]
  rw [if_neg (by rw [hclean]; decide), if_neg (by simp [hown]), if_neg (by simp [hns]), if_neg (by rw [hlost]; decide)]

theorem exec_stoStatus_answers (hs : Served s STO 6 h b) (hu : u = begun s STO 6 h b)
    (hclean : bodyDirty b [16] = false) (hown : ownerOf u 10 (leAt b 16 1) = some h.part.val)
    (hns : nsAt u (leAt b 16 1) ≠ none) (hlost : u.sto.lost = false) (hmount : mounted u (leAt b 16 1) = true) :
    exec (.stoStatus h b) s = .next (complete u STO h 6 OK (statusResult u (leAt b 16 1))) := by
  subst hu
  change execStoStatus h b s = _
  rw [execStoStatus, descr_served hs]
  dsimp only
  rw [if_neg (by rw [hclean]; decide), if_neg (by simp [hown]), if_neg (by simp [hns]), if_neg (by rw [hlost]; decide),
    if_pos hmount]

end

/-! ### Completion and drain -/

section
variable {s : State} (hup : cdUp s = true)
include hup

section
variable {i : Nat} {eb : Nat} {weak : List (Nat × Nat)} {j : StoJob} (hj : s.sto.jobs[i]? = some j)
  (hmount : mounted s j.ns = true) (hlost : s.sto.lost = false)
  (hfirst : (s.sto.jobs.take i).any (fun x => writes x && meets x j) = false)
include hj hmount hlost hfirst

theorem exec_stoCommandComplete_done {v : State} (hop : j.op = 2 ∨ j.op = 3 ∨ j.op = 4)
    (hv : v = { s with sto := { s.sto with jobs := s.sto.jobs.eraseIdx i } }) :
    exec (.stoCommandComplete i none eb weak) s =
      .next (complete (applySto v j eb) STO j.hdr j.op OK (stoResult j.op j.count j.wb none)) := by
  subst hv
  change whileCd s _ = _
  rw [whileCd_of_up hup, hj]
  dsimp only
  rw [if_neg (by rw [hmount, hlost, hfirst]; simp), if_neg (by omega), if_neg (by omega)]
  rfl

theorem exec_stoCommandComplete_failed {fail : Option Nat} {k : Nat} (hop : j.op ≠ 6) (hfail : fail = some k)
    (hk : k < j.count) : exec (.stoCommandComplete i fail eb weak) s =
      .next (failSto { s with sto := { s.sto with jobs := s.sto.jobs.eraseIdx i } } j k) := by
  have hin : fail.filter (fun k => decide (k < j.count)) = some k := by simp [hfail, hk]
  change whileCd s _ = _
  rw [whileCd_of_up hup, hj]
  dsimp only
  rw [if_neg (by rw [hmount, hlost, hfirst]; simp), if_neg hop, hin]

end

section
variable (hlost : s.sto.lost = false) (hdue : drainDue s = true)
include hlost hdue

theorem exec_wbDrain_drains {n eb : Nat} :
    exec (.wbDrain n false eb) s = .next (drain s (oldestN n s.sto.dirty) eb) := by
  change whileCd s _ = _
  rw [whileCd_of_up hup, if_neg (by simp [hlost, hdue])]
  rfl

theorem exec_wbDrain_fails {n eb : Nat} : exec (.wbDrain n true eb) s =
    .next (loseBuffered s ((oldestN n s.sto.dirty).map (fun e => e.1)) 2) := by
  change whileCd s _ = _
  rw [whileCd_of_up hup, if_neg (by simp [hlost, hdue])]
  rfl

end

end

/-- Settles O35: the data commands share one lemma on their checks; the others follow their command's branches. -/
theorem storeCommands : Obligations.StoreCommands := by
  unfold Obligations.StoreCommands
  refine ⟨?read, ?write, ?atomic, ?trim, ?flush, ?status, ?done, ?failed, ?drains, ?drainFails⟩
  case read => exact fun _ _ _ _ _ => exec_stoRead_starts
  case write => exact fun _ _ _ _ _ => exec_stoWrite_starts
  case atomic => exact fun _ _ _ _ _ => exec_stoWriteAtomic_starts
  case trim => exact fun _ _ _ _ => exec_stoTrim_starts
  case flush => exact fun _ _ _ _ => exec_stoFlush_waits
  case status => exact fun _ _ _ _ => exec_stoStatus_answers
  case done =>
    exact fun _ _ _ _ _ _ hup hj hmount hlost hfirst => exec_stoCommandComplete_done hup hj hmount hlost hfirst
  case failed =>
    exact fun _ _ _ _ _ _ _ hup hj hmount hlost hfirst => exec_stoCommandComplete_failed hup hj hmount hlost hfirst
  case drains => exact fun _ _ _ hup hlost hdue => exec_wbDrain_drains hup hlost hdue
  case drainFails => exact fun _ _ _ hup hlost hdue => exec_wbDrain_fails hup hlost hdue

end Sys2Proof.Machine
end

section
/-! SUPPORT.
Namespaces, mounting, retention and the health of the store (R444, R458, R459, R461, R463 to R465).
-/

namespace Sys2Proof.Machine

/-! ### What the commands share -/

theorem setHealth_ns (s : State) (n : Nat) (x : Nat × Nat × Bool) (cause : Nat) :
    (setHealth s n x cause).sto.ns = s.sto.ns := by
  unfold setHealth
  dsimp only
  split
  · rfl
  · rw [raise_sto]

theorem checkHealth_ns (s : State) (n : Nat) : (checkHealth s n).sto.ns = s.sto.ns := setHealth_ns s n _ _

theorem nsReport_sto (s : State) (r : Nat) : (nsReport s r).sto = s.sto := by
  rw [nsReport, showNs_sto]
  rfl

theorem nsReport_result (s : State) (r : Nat) :
    (nsReport s r).rd STO_NS_STATUS_RESULT = r % 2 ^ STO_NS_STATUS_RESULT.width := by
  rw [nsReport, (showNs_keeps _).rdOf (by decide) (by decide) (by decide), rd_put_key _ _ (by decide),
    rd_wr_same s STO_NS_STATUS_RESULT r (by decide)]

/-- Completing flushes changes the store's list of flushes alone. -/
theorem endFlushes_sto (s : State) : ∃ l, (endFlushes s).sto = { s.sto with flushes := l } := by
  have hfold : ∀ (l : List (DHdr × List Nat × Nat)) (t : State),
      (l.foldl (fun t f => complete t STO f.1 5 OK (leBytes 4 f.2.2)) t).sto = t.sto := by
    intro l
    induction l with
    | nil => exact fun _ => rfl
    | cons f l ih => exact fun t => (ih _).trans (complete_sto t STO f.1 5 OK _)
  unfold endFlushes
  split
  · exact ⟨s.sto.flushes, rfl⟩
  · exact ⟨_, hfold _ _⟩

/-- A namespace's map is saved, or its journal flushed. -/
def mapSaved (s : State) (n : Nat) : State :=
  { s with sto := { s.sto with
    unsaved := tabDel s.sto.unsaved n
    savedAt := tabSet 0 s.sto.savedAt n s.now } }

/-- The mount's own entries in the store, made after the blocks have aged and the last power loss has been told. -/
def mountMade (s told : State) : State :=
  { told with sto := { told.sto with
    mounted := List.range 16
    savedAt := (List.range 16).map (fun n => (n, s.now))
    rtcStart := rtc s
    offExit := false
    unsaved := [] } }

/-- The namespace that STO_NS_CFG describes. -/
def nsAsked (s : State) : NsEnt :=
  ⟨s.rd STO_NS_CFG_EXTENTS, s.flag STO_NS_CFG_CELL, s.flag STO_NS_CFG_DUR, s.flag STO_NS_CFG_RET,
    s.flag STO_NS_CFG_WB_EN⟩

/-- The selected namespace has been created. -/
def nsMade (s : State) : State :=
  { s with sto := { s.sto with ns := tabPut s.sto.ns (s.rd STO_NS_SEL_NS) (nsAsked s) } }

section
variable {s : State} (hup : cdUp s = true)
include hup

/-! ### NS_CREATE and NS_DELETE -/

theorem exec_nsCreate_creates (hopen : s.flag PAR_SEAL_STATUS_SEALED = false) (hn : s.rd STO_NS_SEL_NS < 14)
    (hfree : nsAt s (s.rd STO_NS_SEL_NS) = none) (hsome : s.rd STO_NS_CFG_EXTENTS ≠ 0)
    (hroom : s.rd STO_NS_CFG_EXTENTS ≤ freeExtents s) : exec (.nsCreate .p0) s =
      .next (nsReport (checkHealth (nsMade s) (s.rd STO_NS_SEL_NS)) 1) := by
  change whileCd s _ = _
  rw [whileCd_of_up hup]
  dsimp only
  rw [if_neg (by decide), if_neg (by rw [isSealed, hopen]; decide), if_neg (by omega), if_neg (by simp [hfree]),
    if_neg (by omega)]
  rfl

theorem exec_nsCreate_sealed (hseal : s.flag PAR_SEAL_STATUS_SEALED = true) :
    exec (.nsCreate .p0) s = .next (nsReport (violate s) 2) := by
  change whileCd s _ = _
  rw [whileCd_of_up hup]
  dsimp only
  rw [if_neg (by decide), if_pos (by rw [isSealed, hseal])]

theorem exec_nsDelete_deletes {v : State} (hopen : s.flag PAR_SEAL_STATUS_SEALED = false)
    (hn : s.rd STO_NS_SEL_NS < 14) (hns : nsAt s (s.rd STO_NS_SEL_NS) ≠ none)
    (hidle : nsBusy s (s.rd STO_NS_SEL_NS) = false) (hv : v = setHealth s (s.rd STO_NS_SEL_NS) (0, 0, false) 4) :
    exec (.nsDelete .p0) s = .next (nsReport { v with sto := { v.sto with
      ns := tabDel v.sto.ns (s.rd STO_NS_SEL_NS)
      blocks := tabKeep (fun k => keyNs k != s.rd STO_NS_SEL_NS) v.sto.blocks
      ebs := tabKeep (fun k => keyNs k != s.rd STO_NS_SEL_NS) v.sto.ebs
      unsaved := tabDel v.sto.unsaved (s.rd STO_NS_SEL_NS) } } 1) := by
  subst hv
  change whileCd s _ = _
  rw [whileCd_of_up hup]
  dsimp only
  rw [if_neg (by decide), if_neg (by rw [isSealed, hopen]; decide), if_neg (by omega), if_neg (by simp [hns]),
    if_neg (by rw [hidle]; decide)]

/-! ### Mounting and saving -/

theorem exec_storeMount {t0 : Int} {weak : List (Nat × Nat × Nat)} (hnone : s.sto.mounted = []) :
    ∃ told, exec (.storeMount t0 weak) s = .next (endFlushes (showNs (mountMade s told))) := by
  refine ⟨?_, ?_⟩
  rotate_left
  · change whileCd s _ = _
    rw [whileCd_of_up hup, if_neg (by rw [hnone]; decide)]
    rfl

theorem exec_checkpoint_saves {ns : Fin 16} {x : NsEnt} (hns : nsAt s ns.val = some x) (hkind : x.journal = false)
    (hmount : mounted s ns.val = true)
    (hl : lasted s (tabGet 0 s.sto.savedAt ns.val) (1000000 * s.rd STO_MEDIA_CFG_CKPT_INT) = true) :
    exec (.checkpoint ns) s = .next (mapSaved s ns.val) := by
  change whileCd s _ = _
  rw [whileCd_of_up hup, saveMap, hns]
  dsimp only
  rw [if_pos ⟨hkind, hmount, by rw [if_neg (by decide)]; exact hl⟩]
  rfl

theorem exec_journalFlush_saves {ns : Fin 16} {x : NsEnt} (hns : nsAt s ns.val = some x) (hkind : x.journal = true)
    (hmount : mounted s ns.val = true)
    (hl : lasted s (tabGet 0 s.sto.savedAt ns.val) (1000 * s.rd STO_MEDIA_CFG_JRNL_INT) = true) :
    exec (.journalFlush ns) s = .next (mapSaved s ns.val) := by
  change whileCd s _ = _
  rw [whileCd_of_up hup, saveMap, hns]
  dsimp only
  rw [if_pos ⟨hkind, hmount, by rw [if_pos rfl]; exact hl⟩]
  rfl

end

/-! ### Retention, refresh and garbage collection -/

section
variable {s : State} (hmedia : mediaRuns s = true)
include hmedia

theorem exec_retentionUpdate {t0 : Int} : exec (.retentionUpdate t0) s = .next (ageBlocks s 327680 t0) := by
  change execRetentionUpdate t0 s = _
  rw [execRetentionUpdate, if_pos hmedia]

/-- A block queued for background refresh moves to a fresh one. -/
theorem exec_refresh_moves {ns : Fin 16} {src dst : Nat} {e : EraseBlk}
    (he : tabFind s.sto.ebs (ebKey ns.val src) = some e) (hq : e.queued = 1)
    (hfresh : tabFind s.sto.ebs (ebKey ns.val dst) = none) :
    exec (.refresh ns src dst) s = .next (moveEb s ns.val src dst) := by
  change execRefresh ns src dst s = _
  rw [execRefresh, he]
  dsimp only
  rw [if_pos (by simp [hmedia, hq, hfresh]), if_neg (by omega)]

theorem exec_garbageCollection {ns : Fin 16} {src dst freePm : Nat} {spares : Fin 101} {wear : Nat} {v : State}
    (hne : src ≠ dst)
    (hv : v = ((moveEb s ns.val src dst).put STO_HEALTH_GC_ACTIVE (decide (freePm < 80))).wr STO_HEALTH_SPARES
      spares.val) : exec (.garbageCollection ns src dst freePm spares wear) s =
      .next (checkAll { v with sto := { v.sto with
        health := tabSet (0, 0, false) v.sto.health ns.val
          ((healthOf v ns.val).1, wear, (healthOf v ns.val).2.2) } }) := by
  subst hv
  change execGarbageCollection ns src dst freePm spares wear s = _
  rw [execGarbageCollection, if_pos (by simp [hmedia, hne])]

end

/-- Settles O34: each clause follows its command's checks; what a frame leaves open is read off the new state. -/
theorem storeNamespaces : Obligations.StoreNamespaces := by
  unfold Obligations.StoreNamespaces
  refine ⟨fun s hup hopen hn hfree hsome hroom => ?create, fun s hup hseal => ?sealed,
    fun _ _ hup => exec_nsDelete_deletes hup, fun t0 weak s hup hnone => ?mount,
    fun ns x s hup hns hkind hmount hl => ?checkpoint, fun ns x s hup hns hkind hmount hl => ?journal,
    fun _ _ hmedia => exec_retentionUpdate hmedia, fun _ _ _ _ _ hmedia => exec_refresh_moves hmedia,
    fun _ _ _ _ _ _ _ _ hmedia => exec_garbageCollection hmedia⟩
  case create =>
    refine (execNsCreate_keeps .p0 s).runs (exec_nsCreate_creates hup hopen hn hfree hsome hroom)
      (by decide) (by decide) (by decide) ⟨nsReport_result _ 1, ?_⟩
    rw [nsReport_sto, checkHealth_ns]
    exact (tabFind_put _ _ _ _).trans (if_pos rfl)
  case sealed =>
    exact (execNsCreate_keeps .p0 s).runs (exec_nsCreate_sealed hup hseal) (by decide) (by decide) (by decide)
      ⟨nsReport_result _ 2, by rw [nsReport_sto, violate_sto]⟩
  case mount =>
    obtain ⟨told, hexec⟩ := exec_storeMount (t0 := t0) (weak := weak) hup hnone
    obtain ⟨l, hsto⟩ := endFlushes_sto (showNs (mountMade s told))
    rw [showNs_sto] at hsto
    exact (execStoreMount_keeps t0 weak s).runs hexec (by decide) (by decide) (by decide)
      ⟨by rw [hsto]; rfl, by rw [hsto]; rfl, by rw [hsto]; rfl, by rw [hsto]; rfl⟩
  case checkpoint =>
    exact (execCheckpoint_keeps ns s).runs (exec_checkpoint_saves hup hns hkind hmount hl)
      (by decide) (by decide) (by decide) ⟨rfl, rfl⟩
  case journal =>
    exact (execJournalFlush_keeps ns s).runs (exec_journalFlush_saves hup hns hkind hmount hl)
      (by decide) (by decide) (by decide) ⟨rfl, rfl⟩

end Sys2Proof.Machine
end

section
/-! SUPPORT.
The power-loss sequence (R467) and the hold-up measurement with its grant (R470 to R472).
-/

namespace Sys2Proof.Machine

/-! ### The phase of a sequence -/

/-- Whether a power-loss sequence runs, and its step. -/
def failPhase (s : State) : Bool × Nat := (s.sto.failing, s.sto.step)

theorem foldl_failPhase {β : Type} {f : State → β → State} (hf : ∀ t x, failPhase (f t x) = failPhase t) (l : List β)
    (s : State) : failPhase (l.foldl f s) = failPhase s := by
  induction l generalizing s with
  | nil => rfl
  | cons x l ih => exact (ih _).trans (hf s x)

theorem landBlks_failPhase (s : State) (ns : Nat) (l : List (Nat × List Byte)) :
    failPhase (landBlks s ns l) = failPhase s := by
  rw [landBlks]
  split
  · rfl
  · exact foldl_failPhase (f := fun t x => putBlk t ns x.1 x.2) (fun _ _ => rfl) l (freeNext s)

theorem cutJob_failPhase (s : State) (j : StoJob) : failPhase (cutJob s j) = failPhase s := by
  unfold cutJob
  dsimp only
  split
  · exact landBlks_failPhase _ _ _
  split
  · exact landBlks_failPhase _ _ _
  split
  · split <;> rfl
  · rfl

theorem cutJobPf_failPhase (s : State) (j : StoJob) : failPhase (cutJobPf s j) = failPhase s := by
  unfold cutJobPf
  split
  · rfl
  · exact cutJob_failPhase s j

/-- The store is as it was once the jobs are dropped and the outputs are down. -/
theorem outputsDown_sto (s : State) : ((governing (allChans.foldl dropJob (dropSeqs (fun _ => true) s))).foldl
    (outputDown []) (allChans.foldl dropJob (dropSeqs (fun _ => true) s))).sto = s.sto :=
  calc _ = (allChans.foldl dropJob (dropSeqs (fun _ => true) s)).sto :=
        (Keeps.foldl (fun t c => outputDown_keeps [] t c) _ (Keeps.refl _)).plain .sto (by decide) rfl
    _ = (dropSeqs (fun _ => true) s).sto :=
        (Keeps.foldl (fun t c => dropJob_keeps t c) _ (Keeps.refl _)).plain .sto (by decide) rfl
    _ = s.sto := (dropSeqs_keeps _ s).plain .sto (by decide) rfl

theorem haltAll_failPhase (s : State) : failPhase (haltAll s) = failPhase s := by
  have hcut := foldl_failPhase cutJobPf_failPhase s.sto.jobs
    ((governing (allChans.foldl dropJob (dropSeqs (fun _ => true) s))).foldl (outputDown [])
      (allChans.foldl dropJob (dropSeqs (fun _ => true) s)))
  unfold haltAll
  dsimp only
  rw [failPhase, failPhase, outputsDown_sto] at hcut
  rw [outputsDown_sto]
  exact hcut

/-- The outputs and engines that a halt leaves nothing of. -/
theorem haltAll_empty (s : State) : (haltAll s).sto.jobs = [] ∧ (haltAll s).sto.flushes = [] ∧
    (haltAll s).rng.work = [] ∧ (haltAll s).inf.jobs = [] ∧ (haltAll s).pwr.armed = false := by
  unfold haltAll
  exact ⟨rfl, rfl, rfl, rfl, rfl⟩

/-! ### A declared power fail -/

/-- Well below a threshold, no free value is drawn. -/
theorem above_below {s : State} {mv thr tol : Nat} (h : mv + tol < thr) : above s mv thr tol = (false, s) := by
  rw [above, if_neg (by omega), if_pos h]

/-- A power fail has been declared, and its sequence has its second step to end. -/
def failDeclared (s : State) : State :=
  { s with sto := { s.sto with
    failing := true, step := 2, inputLow := true, pfDrained := 0, pfLost := 0, pfAt := s.now } }

/-- The state after a declared power fail: everything halted, counted and recorded. -/
def powerFailed (s : State) (hold : Nat) : State :=
  tally ((haltAll (failDeclared s)).bump STO_PF_CNT_PF_EVENTS 1) 22 (leBytes 2 s.sto.dirty.length ++ leBytes 2 hold)

theorem exec_powerFail_declares {mv heldUs hold : Nat} {s : State} (hnew : s.sto.failing = false)
    (hinput : s.sto.inputLow = false) (hlow : mv < 4800) (hheld : 20 ≤ heldUs) :
    exec (.powerFail mv heldUs hold) s = .next (powerFailed s hold) := by
  change execPowerFail mv heldUs hold s = _
  rw [execPowerFail, above_below (by omega)]
  dsimp only
  rw [if_neg (by simp [hnew, hinput, hheld]), if_neg (by decide)]
  rfl

theorem powerFailed_phase (s : State) (hold : Nat) :
    (powerFailed s hold).sto.failing = true ∧ (powerFailed s hold).sto.step = 2 := by
  have hphase : failPhase (haltAll (failDeclared s)) = (true, 2) := haltAll_failPhase (failDeclared s)
  rw [failPhase, Prod.mk.injEq] at hphase
  rw [powerFailed, tally_sto, bump_sto]
  exact hphase

theorem powerFailed_empty (s : State) (hold : Nat) : (powerFailed s hold).sto.jobs = [] ∧
    (powerFailed s hold).sto.flushes = [] ∧ (powerFailed s hold).rng.work = [] ∧ (powerFailed s hold).inf.jobs = [] ∧
    (powerFailed s hold).pwr.armed = false := by
  simp only [powerFailed, tally_sto, tally_rng, tally_inf, tally_pwr, bump_sto, bump_rng, bump_inf, bump_pwr]
  exact haltAll_empty (failDeclared s)

theorem powerFailed_events (s : State) (hold : Nat) :
    (powerFailed s hold).rd STO_PF_CNT_PF_EVENTS = satAdd 16 (s.rd STO_PF_CNT_PF_EVENTS) 1 := by
  rw [powerFailed, tally_rd _ _ _ (by decide) (by decide), rd_bump_same _ STO_PF_CNT_PF_EVENTS 1 (by decide),
    (haltAll_keeps (failDeclared s)).rdOf (by decide) (by decide) (by decide)]
  rfl

/-! ### The steps, and the end of the hold-up -/

section
variable {s : State} (hfail : s.sto.failing = true)
include hfail

theorem exec_powerFailStepDone_halted (hstep : s.sto.step = 2) :
    exec .powerFailStepDone s = .next { s with sto := { s.sto with step := 3 } } := by
  change execPowerFailStepDone s = _
  rw [execPowerFailStepDone, if_neg (by simp [hfail]), hstep]
  rfl

theorem exec_powerFailStepDone_programmed (hstep : s.sto.step = 3) (hlost : s.sto.lost = false) :
    exec .powerFailStepDone s = .next { rescue s s.sto.dirty.length with
      sto := { (rescue s s.sto.dirty.length).sto with step := 4 } } := by
  change execPowerFailStepDone s = _
  rw [execPowerFailStepDone, if_neg (by simp [hfail]), hstep, hlost]
  rfl

theorem exec_powerFailStepDone_rescued (hstep : s.sto.step = 4) (hlost : s.sto.lost = false) :
    exec .powerFailStepDone s = .next { s with sto := { s.sto with unsaved := [], step := 5 } } := by
  change execPowerFailStepDone s = _
  rw [execPowerFailStepDone, if_neg (by simp [hfail]), hstep, hlost]
  rfl

theorem exec_powerFailStepDone_ends (hstep : s.sto.step = 5) :
    exec .powerFailStepDone s = .next (endSequence s 1) := by
  change execPowerFailStepDone s = _
  rw [execPowerFailStepDone, if_neg (by simp [hfail]), hstep]
  rfl

/-- At V_STOP the blocks still dirty are lost, and of the tally the reserve's records remain. -/
theorem exec_holdStop_stops {mv drained : Nat} (hstop : atStop s mv = true) (hstep : s.sto.step = 4) :
    exec (.holdStop mv drained) s =
      .next (endSequence { ((s.sto.dirty.map (fun e => e.1)).foldl losePf s).bump STO_PF_CNT_PF_LOST
        s.sto.dirty.length with
        sto := { ((s.sto.dirty.map (fun e => e.1)).foldl losePf s).sto with
          dirty := [], pfLost := s.sto.dirty.length }
        tly := { ((s.sto.dirty.map (fun e => e.1)).foldl losePf s).tly with
          queue := keepReserve ((s.sto.dirty.map (fun e => e.1)).foldl losePf s).tly.queue } } 2) := by
  change execHoldStop mv drained s = _
  rw [execHoldStop, if_neg (by simp [hfail, hstop])]
  dsimp only
  rw [if_neg (by omega)]

end

section
variable {s : State} {mv heldUs : Nat} (hlow : s.sto.inputLow = true) (hmv : 6000 < mv) (hheld : 10000 ≤ heldUs)
include hlow hmv hheld

theorem exec_inputReturn_failing (hfail : s.sto.failing = true) : exec (.preRegulatorInputReturn mv heldUs) s =
    .next { s with sto := { s.sto with inputLow := false } } := by
  change execPreRegulatorInputReturn mv heldUs s = _
  rw [execPreRegulatorInputReturn, if_neg (by simp [hlow]; omega)]
  dsimp only
  rw [if_pos hfail]

theorem exec_inputReturn_restarts (hdone : s.sto.failing = false) (hseq : s.pwr.seq = none)
    (hps : (s.pwr.ps == .sparOnly) = false) (hhalt : s.flag EVT_CDLOSS_HALTED = false) :
    exec (.preRegulatorInputReturn mv heldUs) s = .next (startSeq { s with sto := { s.sto with inputLow := false } }
      .restart (s.rd WAK_REASON_CODE) (s.rd WAK_REASON_INDEX)) := by
  have hhalt' : State.flag { s with sto := { s.sto with inputLow := false } } EVT_CDLOSS_HALTED = false := hhalt
  change execPreRegulatorInputReturn mv heldUs s = _
  rw [execPreRegulatorInputReturn, if_neg (by simp [hlow]; omega)]
  dsimp only
  rw [if_neg (by simp [hdone]), restartAfter, if_neg (by rw [hhalt', hseq, hps]; decide)]
  rfl

end

/-! ### The hold-up -/

/-- A measurement has passed with a grant: what it shows. -/
def holdMeasured (s : State) (vh cap esr g : Nat) : State :=
  let s0 := { s with sto := { s.sto with vh := vh } }
  let s1 := ((s0.wr STO_HOLD_MEAS_MRESULT 1).wr STO_HOLD_MEAS_C_MEAS (min cap 65535)).wr STO_HOLD_MEAS_ESR_MEAS
    (min esr 4095)
  (s1.put STO_WB_STATUS_WB_OK true).wr STO_WB_STATUS_GRANT g

/-- It is reported to P0 and, with the grant, to the owners of namespaces with write-back. -/
def holdReported (s : State) (vh cap esr g : Nat) : State :=
  raise (holdupEvent (holdMeasured s vh cap esr g)) 56 false (0 :: wbOwners (holdMeasured s vh cap esr g))
    ([1, 0] ++ leBytes 2 g)

theorem exec_holdupMeasure_passes {s : State} {vh cap esr g : Nat} (hup : cdUp s = true)
    (hnew : s.rd STO_HOLD_MEAS_MRESULT = 0) (hlate : s.sto.holdLate = false) (hcap : 47 ≤ cap) (hcap' : cap ≤ 10000)
    (hesr : esr ≤ 4000) (hg : g = grantOf vh cap esr (s.rd STO_HOLD_CFG_WB_CAP)) (hg16 : 16 ≤ g) :
    exec (.holdupMeasure vh cap esr false) s = .next (holdReported s vh cap esr g) := by
  have hresult : measureResult s.sto.holdLate false cap esr g = 1 := by
    rw [measureResult, hlate, if_neg (by decide), if_neg (by decide), if_neg (by omega), if_neg (by omega)]
  change whileCd s _ = _
  rw [whileCd_of_up hup, if_neg (by simp [hnew])]
  dsimp only
  rw [← hg, hresult]
  rfl

theorem holdReported_rd (s : State) (vh cap esr g : Nat) {f : Field} (hf : f.lsb < 64)
    (hoff : clearOf [Reg.PAR_EVT_CNT, Reg.SW_CNT_VAL, Reg.SW_MSEC_STAT, Reg.TLY_CNT0] f.off = true) :
    (holdReported s vh cap esr g).rd f = (holdMeasured s vh cap esr g).rd f := by
  rw [holdReported, raise_rd _ _ _ _ _ hf hoff, holdupEvent, raise_rd _ _ _ _ _ hf hoff]

theorem holdMeasured_shows (s : State) (vh g : Nat) {cap esr : Nat} (hcap : cap ≤ 10000) (hesr : esr ≤ 4000) :
    (holdMeasured s vh cap esr g).rd STO_HOLD_MEAS_MRESULT = 1 ∧
    (holdMeasured s vh cap esr g).rd STO_HOLD_MEAS_C_MEAS = cap ∧
    (holdMeasured s vh cap esr g).rd STO_HOLD_MEAS_ESR_MEAS = esr ∧
    (holdMeasured s vh cap esr g).flag STO_WB_STATUS_WB_OK = true ∧
    (holdMeasured s vh cap esr g).rd STO_WB_STATUS_GRANT = g % 2 ^ 13 := by
  unfold holdMeasured
  dsimp only
  refine ⟨?_, ?_, ?_, ?_, rd_wr_same _ STO_WB_STATUS_GRANT g (by decide)⟩
  · simp (disch := decide) only [rd_wr_key, rd_put_key]
    rw [rd_wr_same _ STO_HOLD_MEAS_MRESULT 1 (by decide)]
    rfl
  · simp (disch := decide) only [rd_wr_key, rd_put_key]
    rw [rd_wr_same _ STO_HOLD_MEAS_C_MEAS _ (by decide), Nat.min_eq_left (by omega)]
    exact Nat.mod_eq_of_lt (lt_of_le_of_lt hcap (by decide))
  · simp (disch := decide) only [rd_wr_key, rd_put_key]
    rw [rd_wr_same _ STO_HOLD_MEAS_ESR_MEAS _ (by decide), Nat.min_eq_left (by omega)]
    exact Nat.mod_eq_of_lt (lt_of_le_of_lt hesr (by decide))
  · rw [State.flag, rd_wr_key _ _ (by decide)]
    exact flag_put_same _ STO_WB_STATUS_WB_OK true (by decide) (by decide)

section
variable {s : State} {mv heldUs : Nat} (hinput : s.sto.inputLow = false)
include hinput

theorem exec_holdLow_low (hflag : s.flag STO_HEALTH_HOLD_LOW = false) (hmv : 10 * mv < 9 * s.sto.vh)
    (hheld : 1000 ≤ heldUs) :
    exec (.holdLow mv heldUs) s = .next (holdupEvent (s.put STO_HEALTH_HOLD_LOW true)) := by
  change execHoldLow mv heldUs s = _
  rw [execHoldLow, if_neg (by simp [hinput]), if_neg (by simp [hflag]), if_pos ⟨hmv, hheld⟩]

theorem exec_holdLow_ends (hflag : s.flag STO_HEALTH_HOLD_LOW = true) (hmv : 95 * s.sto.vh < 100 * mv)
    (hheld : 100000 ≤ heldUs) : exec (.holdLow mv heldUs) s = .next (s.put STO_HEALTH_HOLD_LOW false) := by
  change execHoldLow mv heldUs s = _
  rw [execHoldLow, if_neg (by simp [hinput]), if_pos hflag, if_pos ⟨hmv, hheld⟩]

end

/-- Settles O36: a halt keeps the phase of the sequence and empties the engines; the steps follow their command. -/
theorem powerLossSequence : Obligations.PowerLossSequence := by
  unfold Obligations.PowerLossSequence
  refine ⟨fun mv heldUs hold s hnew hinput hlow hheld => ?declared, fun s hfail hstep => ?halted,
    fun s hfail hstep hlost => ?programmed, fun s hfail hstep hlost => ?rescued,
    fun _ hfail => exec_powerFailStepDone_ends hfail, fun _ _ _ hfail => exec_holdStop_stops hfail,
    fun mv heldUs s hlow hfail hmv hheld => ?returned,
    fun _ _ _ hlow hdone hmv hheld => exec_inputReturn_restarts hlow hmv hheld hdone,
    fun vh cap esr g s hup hnew hlate hcap hcap' hesr hg hg16 => ?measured, fun _ _ _ => exec_holdLow_low,
    fun _ _ _ => exec_holdLow_ends⟩
  case declared =>
    obtain ⟨hfailing, hstep⟩ := powerFailed_phase s hold
    obtain ⟨hjobs, hflushes, hwork, hinf, harmed⟩ := powerFailed_empty s hold
    exact (execPowerFail_keeps mv heldUs hold s).runs (exec_powerFail_declares hnew hinput hlow hheld)
      (by decide) (by decide) (by decide)
      ⟨hfailing, hstep, hjobs, hflushes, hwork, hinf, harmed, powerFailed_events s hold⟩
  case halted => exact ⟨_, exec_powerFailStepDone_halted hfail hstep, rfl, hfail, rfl⟩
  case programmed => exact ⟨_, exec_powerFailStepDone_programmed hfail hstep hlost, rfl⟩
  case rescued => exact ⟨_, exec_powerFailStepDone_rescued hfail hstep hlost, rfl, rfl⟩
  case returned =>
    exact (execPreRegulatorInputReturn_keeps mv heldUs s).runs (exec_inputReturn_failing hlow hmv hheld hfail)
      (by decide) (by decide) (by decide) ⟨rfl, hfail, rfl⟩
  case measured =>
    obtain ⟨hresult, hc, he, hok, hgrant⟩ := holdMeasured_shows s vh g hcap' hesr
    have hread : ∀ {f : Field}, f.lsb < 64 →
        clearOf [Reg.PAR_EVT_CNT, Reg.SW_CNT_VAL, Reg.SW_MSEC_STAT, Reg.TLY_CNT0] f.off = true →
        (holdReported s vh cap esr g).rd f = (holdMeasured s vh cap esr g).rd f := holdReported_rd s vh cap esr g
    exact (execHoldupMeasure_keeps vh cap esr false s).runs
      (exec_holdupMeasure_passes hup hnew hlate hcap hcap' hesr hg hg16) (by decide) (by decide) (by decide)
      ⟨(hread (by decide) (by decide)).trans hresult, (hread (by decide) (by decide)).trans hc,
        (hread (by decide) (by decide)).trans he,
        by rw [State.flag, hread (by decide) (by decide)]; exact hok, (hread (by decide) (by decide)).trans hgrant⟩

end Sys2Proof.Machine
end
